-- ==== Sys2Proof/Word.lean ====
section
/-! DEFINITION. The words of the block: a register word, a byte and a line. -/

namespace Sys2Proof

/-- A 32-bit register (R524). -/
abbrev Word := BitVec 32

/-- A byte of data. -/
abbrev Byte := BitVec 8

/-- A 64-byte line, byte u in bits [8u+7:8u] (R4, R7). -/
abbrev Line := BitVec 512

end Sys2Proof
end

