-- ==== Sys2Proof/Syntax.lean ====
section
/-! DEFINITION. The commands of the RN4816 block: one constructor per row of the opcode table,
and the types of their operands. -/

namespace Sys2Proof

/-- The master that makes a register access (R524): a logical device's host through BAR2, the BMC
through the sideband, or a management core. -/
inductive Master
  | host (ld : Fin 64) | bmc | core (c : Fin 2)
  deriving DecidableEq, Repr

/-- What the partner of a host link offers in training (R53): its highest rate and the width at
which every lane trained (encodings of R88), CXL, back-invalidation, a switch port that supports
the multi-logical-device layout, L0p, and 256-byte flit mode. -/
structure PartnerOffer where
  rate : Fin 7
  width : Fin 5
  cxl : Bool
  bi : Bool
  mld : Bool
  l0p : Bool
  flit256 : Bool
  deriving DecidableEq, Repr

/-- A request of the host's link end (R63). -/
inductive HostLinkReq
  | l0p (width : Fin 5) | retrain
  deriving DecidableEq, Repr

/-- Whose agents a background sweep clears (R66, R148, R373). -/
inductive SweepOf
  | link (l : Fin 16) | agent (a : Fin 80) | borage
  deriving DecidableEq, Repr

/-- Completion status of a read of the requester (R70, R320, R328). -/
inductive CplStatus
  | ok | poison | ur | ca
  deriving DecidableEq, Repr

/-- A configuration request (R76): a read or a write of one register of a function. -/
inductive ConfigOp
  | read (reg : BitVec 10) | write (reg : BitVec 10) (val : Word)
  | setMps (bytes : Fin 3) | setMrrs (bytes : Fin 6) | setTags (mode : Fin 3)
  | setAspm (on : Bool) | setMsix (on : Bool) (mask : BitVec 64)
  deriving DecidableEq, Repr

/-- The MetaState a CXL.mem request asks for or carries (R142). -/
inductive MetaVal
  | none | i | s | a
  deriving DecidableEq, Repr

/-- An error that a request meets in the memories of its home slice: the snoop filter entry of a line of
its set (R145); the metadata cache line of a level of its page, corrected, or uncorrectable in one copy
or in both (R160); the key table entry of its domain (R258). -/
inductive SliceError
  | snoopFilter (line : BitVec 40)
  | metaCorrected (lvl : Fin 6) | metaCopy (lvl : Fin 6) | metaBoth (lvl : Fin 6)
  | keyTable
  deriving DecidableEq, Repr

/-- The operation of an atomic (R152). -/
inductive AtomicKind
  | fetchAdd | swap | cas
  deriving DecidableEq, Repr

/-- The operand size of an atomic in bytes, as a power of two: 4, 8 or 16 (R152). -/
inductive AtomicSize
  | b4 | b8 | b16
  deriving DecidableEq, Repr

/-- Where a PCIe AtomicOp points (R76, R151). -/
inductive AtomicTarget
  | bar4 (off : BitVec 64) | bar2 | bar0 | none
  deriving DecidableEq, Repr

/-- A host's answer to a back-invalidate snoop (R142). -/
inductive BiAnswer
  | i | s | e
  deriving DecidableEq, Repr

/-- A class of requester with reserved trackers or under retry blocking (R137, R164). -/
inductive ReqClass
  | portGroup (g : Fin 4) | borage | dataMover | tier | pool | internal
  deriving DecidableEq, Repr

/-- Control bits of a write of an HDM decoder: Lock On Commit and Commit (R93). -/
structure HdmControl where
  lock : Bool
  commit : Bool
  deriving DecidableEq, Repr

/-- A non-posted request of a peer: offset in its page, bytes and tag (R126, R328). -/
structure PeerRead where
  off : BitVec 12
  len : Nat
  tag : Nat
  deriving DecidableEq, Repr

/-- How a channel's training ends: a failure names its step, 3 plus `at_` (R174). -/
inductive TrainResult
  | ok | failed (at_ : Fin 6)
  deriving DecidableEq, Repr

/-- The end of a channel's soft repair, and how many refreshes of the rank fell due in its step 2 (R195, R206). -/
structure RepairEnd where
  chan : Fin 16
  due : Fin 6
  deriving DecidableEq, Repr

/-- What the two sensors of a DIMM read (R205). -/
structure DimmTemps where
  a : BitVec 8
  b : BitVec 8
  deriving DecidableEq, Repr

/-- The engine that compresses, and whether its self-verify finds a mismatch (R241, R331). -/
structure CompressRun where
  engine : Fin 16
  mismatch : Bool
  deriving DecidableEq, Repr

/-- What starts a soft repair (R195). -/
inductive RepairSrc
  | cmd (m : Master) (rank : BitVec 5)
  | auto (rank : BitVec 5) (sub : Fin 2) (bg : Fin 8) (ba : Fin 4) (row : BitVec 18) (dev : Fin 10)
  deriving DecidableEq, Repr

/-- What an SPD states of a DIMM (R170). `kind` 0 RDIMM, 1 MRDIMM, 2 other; `density` 0 16 Gb,
1 32 Gb, 2 64 Gb, 3 other; `height` log2 of the stack height; `drfm` directed refresh management. -/
structure Spd where
  kind : Fin 3
  x8 : Bool
  density : Fin 4
  pranks : Nat
  height : Nat
  maxSpeed : Fin 7
  drfm : Bool
  deriving DecidableEq, Repr

/-- One record of a retained-configuration image (R456). -/
inductive CfgRecord
  | finish
  | write (off : BitVec 28) (val : Word)
  | wait (off : BitVec 28) (val mask : Word) (timeoutUs : Nat)
  | commit (off : BitVec 28)
  | reserved
  deriving DecidableEq, Repr

/-- A firmware image in a flash slot, or the retained-configuration image (R454, R456): the header fields, whose LEN is the
length of the body, and the body. `key` says that the SHA-384 of PUBKEY equals the key hash fused in slot KSLOT, `sig` that SIG
verifies (assumption 173). -/
structure FwImage where
  /-- MAGIC, byte 0 lowest: "RNFW" of a firmware image, "RNCF" of a retained-configuration image. -/
  magic : BitVec 32 := 0x57464E52
  /-- HVER. -/
  hver : BitVec 32 := 1
  /-- ENTRY. -/
  entry : Nat
  /-- SVN. -/
  svn : Nat
  /-- KSLOT. -/
  kslot : BitVec 8 := 0
  /-- The SHA-384 of PUBKEY equals the key hash fused in KSLOT. -/
  key : Bool
  /-- SIG verifies. -/
  sig : Bool
  /-- The LEN bytes after the header. -/
  body : List Byte
  deriving DecidableEq, Repr

/-- The board and the flash as the part finds them at AUX reset (R170, R383, R408, R453, R3). -/
structure Board where
  spd : List (Nat × Spd)
  filler : Bool
  suffix : BitVec 16
  serial : BitVec 64
  slotA : Option FwImage
  slotB : Option FwImage
  cfgImage : Option FwImage
  /-- A crystal is fitted at XTAL_B (R383). -/
  xtalB : Bool := true
  /-- Key slots that their fuses revoke (R454). -/
  revoked : BitVec 4 := 0
  deriving DecidableEq, Repr

/-- A condition under which a promotion finds a bin line bad (R223). -/
inductive BinFault
  | none | uncorrectable | tagFail
  deriving DecidableEq, Repr

/-- Why a page moves (R215). -/
inductive MoveReason
  | drain (c : Fin 16) | retire | compaction
  deriving DecidableEq, Repr

/-- The result of one end's lane training (R339, R341). `lanes` has a 1 for each data lane that
fails; `rate` is the highest code at which the lanes in use train. -/
structure LaneResult where
  ok : Bool
  rate : Fin 4
  lanes : BitVec 64
  fck0 : Bool
  fck1 : Bool
  deriving DecidableEq, Repr

/-- A change that a LINK_REQ asks for (R349). -/
inductive LinkChange
  | width (w : Fin 3) | rate (r : Fin 4) | retrain
  deriving DecidableEq, Repr

/-- A message class of the fabric (R354). -/
inductive MsgClass
  | rq | rs | sn | mg
  deriving DecidableEq, Repr

/-- The state a Borage agent keeps in a snoop response (R367). -/
inductive SnpKeep
  | i | s | e
  deriving DecidableEq, Repr

/-- A clock that a monitor watches (R387). -/
inductive MonClock
  | xtal (x : Fin 2) | root | channel (c : Fin 16) | module (m : Fin 19) | refclk (g : Fin 4) | fastOsc
  deriving DecidableEq, Repr

/-- A sub-domain with its own power switch (R398). -/
inductive SubDomain
  | chanLogic (c : Fin 16) | chanPhy (c : Fin 16) | engine1 (u : Fin 8) | hostLink (l : Fin 16)
  | phyQuad (q : Fin 16) | moduleEnd (e : Fin 34) | dmGroup (j : Fin 16) | landGroup (k : Fin 3) | tracer
  deriving DecidableEq, Repr

/-- What powers the PHY quads of a link (R401). -/
inductive QuadWakeCause
  | idleExit | beacon | perstRelease | retrain | cfgChange
  deriving DecidableEq, Repr

/-- How an AUX reset starts (R434). -/
inductive AuxCause
  | auxRise | resetPin
  deriving DecidableEq, Repr

/-- A cache of a management core (R448). -/
inductive CacheSel
  | instr | data
  deriving DecidableEq, Repr

/-- How a maintenance operation names its line (R450). -/
inductive MaintBy
  | addr | setWay (set : Fin 128) (way : Fin 4)
  deriving DecidableEq, Repr

/-- One sample of the sensor hub (R464): VIN in 0.25 mV, current in 2.5 mA, the die sensors in
0.25 °C, the rails' voltages in mV and currents in 10 mA. -/
structure SensorSample where
  vin : BitVec 16
  iin : BitVec 16
  die : List (Nat × BitVec 16)
  railV : List (Nat × BitVec 16)
  railI : List (Nat × BitVec 16)
  deriving DecidableEq, Repr

/-- An MCTP message (R471). -/
inductive MctpMsg
  | getEndpointId | getMessageTypeSupport | otherControl
  | fmApi (op : Fin 6) (ext : BitVec 18) (domain : BitVec 12) (mask : BitVec 64) (gen : BitVec 16)
  | component (opcode : BitVec 16)
  deriving DecidableEq, Repr

/-- The cause of an event that a unit raises outside any other command (R502, R468). -/
structure EventCause where
  site : BitVec 24
  ld : Option (Fin 64)
  subject : BitVec 64
  code : BitVec 16
  deriving DecidableEq, Repr

/-- A fault class (R489). -/
inductive FaultClass
  | c | d | s | p | f
  deriving DecidableEq, Repr

/-- The unit a discarded write is filed against, and what the report names (R299, R486). -/
inductive DiscardWhat
  | lines (page : BitVec 34) (mask : BitVec 64) | extent (ext : BitVec 18)
  deriving DecidableEq, Repr

/-- The event-block write of R508, or the EVR word (R510). -/
inductive EvtWhere
  | owner (page : BitVec 16) | evr (word : Fin 24)
  deriving DecidableEq, Repr

/-- A JTAG instruction (R569). -/
inductive TapOp
  | idcode | bypass | extest | clamp | sample
  deriving DecidableEq, Repr

/-- The commands of the block, in the order of the opcode table. -/
inductive Instr
  /-- PERST_N_ASSERT (R77). PERST_N of a port group falls; every link of the group is held in reset and a per-port reset clears link state, configuration space, decoders and queues. -/
  | perstNAssert (g : Fin 4)
  /-- PERST_N_RELEASE (R52). PERST_N of a port group rises; link training begins on every present link within 20 ms. -/
  | perstNRelease (g : Fin 4)
  /-- REFCLK_LOSS (R51). The clock monitor flags REFCLK of a port group lost; every link of the group goes down and the group loop coasts. -/
  | refclkLoss (g : Fin 4)
  /-- LINK_UP (R60). Training of a link completes and it enters L0 with its negotiated mode, clearing lost-agent bits of its agents. -/
  | linkUp (l : Fin 16) (o : PartnerOffer)
  /-- RECOVERY_ENTRY (R60). Link errors or a host retrain take a link from L0 or L0p into Recovery. -/
  | recoveryEntry (l : Fin 16) (byHost : Bool)
  /-- RECOVERY_EXIT (R60). Recovery ends, returning the link to L0 at full width or taking it Down. -/
  | recoveryExit (l : Fin 16) (res : Option (Fin 7 × Fin 5))
  /-- HOST_LINK_REQUEST (R63). A host L0p or retrain request arrives; the device withdraws any own pending request and follows the host. -/
  | hostLinkRequest (l : Fin 16) (r : HostLinkReq)
  /-- L0P_NARROW (R62). Utilisation below 25 % for 100 µs makes the link request a narrower L0p width. -/
  | l0pNarrow (l : Fin 16) (w : Fin 5) (agreed : Bool)
  /-- L0P_WIDEN (R62). Utilisation above 60 % or a queued host request makes the link request its full trained width. -/
  | l0pWiden (l : Fin 16) (agreed : Bool)
  /-- L1_ENTRY (R61). The L1_IDLE timer expires on an idle link with ASPM L1 enabled and the link requests L1. -/
  | l1Entry (l : Fin 16)
  /-- L1_EXIT (R61). A transmit need at either end takes the link from L1 back to L0 within 8 µs. -/
  | l1Exit (l : Fin 16)
  /-- PME_TURN_OFF (R60). The PME_Turn_Off handshake takes the link into L2. -/
  | pmeTurnOff (l : Fin 16)
  /-- LINK_DOWN (R66). Link-down is declared: unqueued requests dropped, agents lost, exclusive lines poisoned, sweep started, queues stopped. -/
  | linkDown (l : Fin 16)
  /-- AGENT_SWEEP_END (R66). The background sweep of lost-agent snoop filter entries ends, releasing a held link or Borage modules held in CREDIT. -/
  | agentSweepEnd (w : SweepOf)
  /-- HOT_RESET (R77). A host hot reset resets one link as a per-port reset does. -/
  | hotReset (l : Fin 16)
  /-- LINK_DISABLE (R77). The host disables a link; its link state clears and its agents are lost. -/
  | linkDisable (l : Fin 16)
  /-- FLR_INITIATE (R78). Initiate Function Level Reset is written; the function's requester stops within 20 µs and its queue stops without records. -/
  | flrInitiate (ld : Fin 64)
  /-- FLR_COMPLETE (R78). The function-level reset completes within 100 ms and raises FLR. -/
  | flrComplete (ld : Fin 64)
  /-- HOST_MARGIN_COMMAND (R65). A host lane margining command arrives and pre-empts any Dill scan of that lane. -/
  | hostMarginCommand (g : Fin 4) (lane : Fin 16)
  /-- MARGIN_DONE (R85). A host margining command completes on a lane and raises MARGIN_DONE. -/
  | marginDone (g : Fin 4) (lane : Fin 16)
  /-- REQUESTER_COMPLETION (R70). A completion piece for a requester read arrives and its data is placed by address; late completions are discarded. -/
  | requesterCompletion (ld : Fin 64) (tag : BitVec 14) (addr : BitVec 64) (data : List Byte) (st : CplStatus)
  /-- REQ_CTO (R73). A requester read is not completed within HREQ.CFG.CTO; its descriptor ends with completion timeout. -/
  | reqCto (ld : Fin 64) (tag : BitVec 14)
  /-- CONFIG_REQUEST (R76). A configuration request arrives and is answered normally, with Request Retry Status or with Unsupported Request. -/
  | configRequest (ld : Fin 64) (fn : Nat) (op : ConfigOp)
  /-- LINK_FLIT_CRC_ERROR (R76). A received flit or TLP fails CRC and is replayed under PCIe rules; the correctable count advances. -/
  | linkFlitCrcError (l : Fin 16)
  /-- HOST_REPLAY_REQUEST (R301). The host reports a bad flit and the device resends it from its replay buffer. -/
  | hostReplayRequest (l : Fin 16) (seq : Nat)
  /-- MEMRD (R142). A CXL.mem MemRd is translated, queued at its home slice, snooped as needed and answered with data or poison. -/
  | memrd (l : Fin 16) (ld : Fin 64) (hpa : BitVec 64) (mv : MetaVal) (tag : Nat) (err : Option SliceError)
  /-- MEMRDDATA (R142). A CXL.mem MemRdData is served as MemRd (A) with no entry, otherwise as MemRd (S). -/
  | memrddata (l : Fin 16) (ld : Fin 64) (hpa : BitVec 64) (tag : Nat)
  /-- MEMSPECRD (R57). A CXL.mem MemSpecRd is served as a non-caching read or dropped without response. -/
  | memspecrd (l : Fin 16) (ld : Fin 64) (hpa : BitVec 64) (tag : Nat)
  /-- MEMWR (R142). A CXL.mem full-line MemWr is queued, mixed, tagged and held, then completed. -/
  | memwr (l : Fin 16) (ld : Fin 64) (hpa : BitVec 64) (mv : MetaVal) (data : Line) (poison : Bool) (tag : Nat)
  /-- MEMWRPTL (R272). A CXL.mem partial write reads and verifies the line, then merges its bytes or stores poison. -/
  | memwrptl (l : Fin 16) (ld : Fin 64) (hpa : BitVec 64) (mv : MetaVal) (mask : BitVec 64) (data : Line) (poison : Bool) (tag : Nat)
  /-- MEMINV (R142). A CXL.mem MemInv changes the requester's snoop filter state and completes without data. -/
  | meminv (l : Fin 16) (ld : Fin 64) (hpa : BitVec 64) (mv : MetaVal) (tag : Nat)
  /-- MEMCLNEVCT (R142). A CXL.mem MemClnEvct removes the requester from the line's snoop filter entry. -/
  | memclnevct (l : Fin 16) (ld : Fin 64) (hpa : BitVec 64) (tag : Nat)
  /-- CXLIO_APERTURE_READ (R151). A CXL.io read to a BAR4 memory aperture is served as a non-caching read. -/
  | cxlioApertureRead (ld : Fin 64) (off : BitVec 64) (len : BitVec 13) (tag : Nat)
  /-- CXLIO_APERTURE_WRITE (R151). A CXL.io write to a BAR4 memory aperture is served as a non-caching write. -/
  | cxlioApertureWrite (ld : Fin 64) (off : BitVec 64) (data : List Byte) (ep : Bool)
  /-- ATOMICOP (R152). A PCIe AtomicOp to a memory aperture executes in the home slice's atomic unit. -/
  | atomicop (ld : Fin 64) (tgt : AtomicTarget) (op : AtomicKind) (size : AtomicSize) (a b : BitVec 128) (ep : Bool) (tag : Nat)
  /-- BAR0_WRITE (R368). A CXL.io write to BAR0 is split into FwdWr messages to Borage. -/
  | bar0Write (ld : Fin 64) (off : BitVec 40) (data : List Byte)
  /-- BAR0_READ (R368). A CXL.io read to BAR0 is split into FwdRd messages and completed from FwdRdData. -/
  | bar0Read (ld : Fin 64) (off : BitVec 40) (len : BitVec 13) (tag : Nat)
  /-- BIRSP (R146). A host BIRsp answers a back-invalidate snoop and lets the waiting request move on. -/
  | birsp (agent : Fin 80) (line : BitVec 40) (r : BiAnswer)
  /-- BICONFLICT (R147). A host BIConflict is answered with BIConflictAck ordered after any response already sent. -/
  | biconflict (agent : Fin 80) (line : BitVec 40)
  /-- BI_TIMEOUT (R148). A snoop unanswered for BI_TO is resolved as BIRspI and its agent declared lost. -/
  | biTimeout (agent : Fin 80) (line : BitVec 40)
  /-- CREDIT_GRANT (R137). A reserved tracker frees and a CreditGrant is sent to a requester that was retried without credit. -/
  | creditGrant (hs : Fin 32) (r : ReqClass)
  /-- HRDY_RELEASE (R84). The last busy cause has ended and 100 µs have passed; HRDY_N is released. -/
  | hrdyRelease (g : Fin 4)
  /-- ATTENTION_PULSE_START (R82). A routed event with spacing satisfied starts a 2 µs attention pulse on HRDY_N. -/
  | attentionPulseStart (g : Fin 4)
  /-- ATTENTION_PULSE_END (R84). The 2 µs attention pulse ends and the pin is released. -/
  | attentionPulseEnd (g : Fin 4)
  /-- ATTN_TEST (R87). A write of ATTN_TEST produces one attention pulse under the pulse rules. -/
  | attnTest (m : Master) (g : Fin 4)
  /-- RETRAIN (R88). A write of HLINK.LCTRL.RETRAIN enters Recovery at the present settings. -/
  | retrain (m : Master) (l : Fin 16)
  /-- HDM_DECODER_COMMIT (R93). An HDM decoder is committed, decoding or reporting Error Not Committed. -/
  | hdmDecoderCommit (ld : Fin 64) (i : Fin 4) (base size skip : BitVec 64) (ways gran : BitVec 4) (ctl : HdmControl)
  /-- TCMD_READ_ENTRY (R128). AMAP.TCMD OP 1 reads a table entry into TDATA. -/
  | tcmdReadEntry (m : Master) (table : BitVec 2) (index : BitVec 18)
  /-- TCMD_STAGE_ENTRY (R128). AMAP.TCMD OP 2 checks and stages TDATA as an interleave, domain or region entry. -/
  | tcmdStageEntry (m : Master) (table : BitVec 2) (index : BitVec 18)
  /-- GRANT (R113). A GRANT reserves frames and a metadata block, writes entries unbacked and offers the extent to its holders. -/
  | grant (m : Master) (ext : BitVec 18)
  /-- PIN (R113). A PIN reserves an extent with no holder and no host event. -/
  | pin (m : Master) (ext : BitVec 18)
  /-- OFFER (R113). An OFFER sends Add Capacity for a PINNED extent. -/
  | offer (m : Master) (ext : BitVec 18)
  /-- RECALL (R113). A RECALL sends Release Capacity requests and moves the extent to RECALL. -/
  | recall (m : Master) (ext : BitVec 18)
  /-- FORCE (R113). A FORCE sends forced-release notices and moves the extent to DRAIN. -/
  | force (m : Master) (ext : BitVec 18)
  /-- FREE (R113). A FREE of a PINNED extent moves it to DRAIN. -/
  | free (m : Master) (ext : BitVec 18)
  /-- ADD_DC_RESPONSE (R114). A holder's Add Dynamic Capacity Response accepting the extent sets its acceptance bit. -/
  | addDcResponse (ld : Fin 64) (ext : BitVec 18) (gen : BitVec 16) (accept : Bool)
  /-- RELEASE_DC (R575). A Release Dynamic Capacity removes a holder or moves the extent to DRAIN, or is refused. -/
  | releaseDc (ld : Fin 64) (exts : List (BitVec 18 × BitVec 16))
  /-- OFFER_TO_EXPIRY (R113). OFFER_TO expires; non-answering holders are removed and the extent is granted or ends its offer. -/
  | offerToExpiry (ext : BitVec 18)
  /-- EXTENT_DRAIN_END (R115). The drain of an extent ends and the extent enters ERASE. -/
  | extentDrainEnd (ext : BitVec 18)
  /-- EXTENT_ERASE_END (R113). ERASE ends: frames, bins, reservation and metadata block are returned and the extent becomes FREE. -/
  | extentEraseEnd (ext : BitVec 18)
  /-- AUTO_RECALL (R121). Every 100 ms below CRITWM with AUTO_RECALL, one chosen extent is moved to RECALL. -/
  | autoRecall
  /-- LAND_DATA_WRITE (R127). A peer posted write of whole lines to a landing aperture writes the pinned destination extent. -/
  | landDataWrite (page : BitVec 16) (rid : BitVec 16) (off : BitVec 12) (data : List Byte) (ep : Bool)
  /-- PEER_FLUSH_READ (R328). A peer 4-byte flush read of a landing aperture is answered once earlier writes are serialised. -/
  | peerFlushRead (page : BitVec 16) (rid : BitVec 16) (r : PeerRead)
  /-- ATOMIC_BUFFER_FLUSH (R155). ATOM.CFG.HOLD passes without atomics and the buffered line is written as one full-line write. -/
  | atomicBufferFlush (line : BitVec 40)
  /-- MCACHE_CLEAN (R159). The cleaner writes back least recently used dirty metadata lines, advancing their counters. -/
  | mcacheClean (hs : Fin 32)
  /-- MCACHE_FLUSH (R168). A write of MCACHE.CFG.FLUSH writes back every dirty metadata line. -/
  | mcacheFlush (m : Master) (hs : Fin 32)
  /-- CHANNEL_TRAINING_END (R174). Channel training ends, making it ACTIVE, retrying at a lower speed or disabling it. -/
  | channelTrainingEnd (c : Fin 16) (r : TrainResult)
  /-- DQS_TRACK (R175). Every 64 ms the PHY tracks DQS drift on each rank. -/
  | dqsTrack (c : Fin 16)
  /-- CA_ALERT (R175). A parity or CRC alert replays its commands and counts toward a quick retrain. -/
  | caAlert (c : Fin 16) (rank : BitVec 5)
  /-- QUICK_RETRAIN (R175). After the alert replay and waiting requests, a quick retrain of steps 5 and 6 starts. -/
  | quickRetrain (c : Fin 16)
  /-- QUICK_RETRAIN_END (R175). The quick retrain ends; a failure quarantines the channel under class S. -/
  | quickRetrainEnd (c : Fin 16) (ok : Bool)
  /-- REFRESH_DUE (R182). A rank's refresh falls due and is issued, postponed or forced at the debt limit. -/
  | refreshDue (c : Fin 16) (rank : BitVec 5) (sub : Fin 2) (busy : Bool)
  /-- REFRESH_REPAY (R184). After REPAY_IDLE with no pending request, refresh debt is repaid. -/
  | refreshRepay (c : Fin 16) (rank : BitVec 5) (sub : Fin 2)
  /-- MR4_POLL (R185). Every 4 ms the refresh unit reads mode register 4 and sets the rate doubling. -/
  | mr4Poll (c : Fin 16) (ranks : BitVec 32)
  /-- RFM_REQUEST (R187). A DRAM ALERT_n back-off request is honoured within its window. -/
  | rfmRequest (c : Fin 16) (rank : BitVec 5) (sub : Fin 2) (bg : Fin 8) (ba : Fin 4)
  /-- FCTL_GO (R190). A write of DDRC.FCTL.GO switches the channel to its shadow timing set through self-refresh. -/
  | fctlGo (m : Master) (c : Fin 16)
  /-- FREQ_CHANGE_END (R190). The frequency change ends with the new set active. -/
  | freqChangeEnd (c : Fin 16) (ok : Bool)
  /-- SCRUB_READ (R191). The patrol scrub reads the next line, correcting or reporting it. -/
  | scrubRead (c : Fin 16) (err : BitVec 640)
  /-- DRAM_READ_RETURN (R179). A DRAM read returns and the check-storage unit passes, corrects, partners or fails it. -/
  | dramReadReturn (c : Fin 16) (off : BitVec 40) (err perr : BitVec 640)
  /-- CE_WINDOW_STEP (R181). Each hour the rolling corrected-error count of each rank moves one step. -/
  | ceWindowStep (c : Fin 16)
  /-- SPARE_RANK (R192). DDRP.CMD OP 1 starts copying a failing logical rank to the spare rank. -/
  | spareRank (m : Master) (c : Fin 16) (rank : BitVec 5)
  /-- SPARE_COPY_END (R192). The sparing pointer reaches the end and rankmap moves the rank to the spare. -/
  | spareCopyEnd (c : Fin 16)
  /-- SOFT_REPAIR (R195). DDRP.CMD OP 2 or the auto rule repairs a row with soft post-package repair, or retires it. -/
  | softRepair (c : Fin 16) (src : RepairSrc)
  /-- SOFT_REPAIR_END (R195). A soft repair ends and its record is written to the retained store. -/
  | softRepairEnd (r : RepairEnd)
  /-- HARD_REPAIR (R198). DDRP.CMD OP 3 applies hard repair to every recorded row of a drained channel. -/
  | hardRepair (m : Master) (c : Fin 16)
  /-- RESILVER (R199). DDRP.CMD OP 4 starts copying a mirrored pair from the surviving channel. -/
  | resilver (m : Master) (c : Fin 16)
  /-- CANCEL_RESILVER (R199). DDRP.CMD OP 5 cancels a resilver, returning the pair to the source's ONLY state. -/
  | cancelResilver (m : Master) (c : Fin 16)
  /-- RESILVER_END (R199). The resilver pointer reaches the end and the pair enters SYNC. -/
  | resilverEnd (c : Fin 16)
  /-- SVC_DRAIN (R202). DDRC.SVC DRAIN starts moving every page off the channel's sets. -/
  | svcDrain (m : Master) (c : Fin 16)
  /-- SVC_POWER_DOWN (R203). DDRC.SVC POWER_DOWN isolates a drained channel for DIMM replacement. -/
  | svcPowerDown (m : Master) (c : Fin 16)
  /-- SVC_RETURN (R204). DDRC.SVC RETURN rediscovers and retrains the channel. -/
  | svcReturn (m : Master) (c : Fin 16) (spd0 spd1 : Option Spd)
  /-- SVC_CANCEL (R201). DDRC.SVC CANCEL returns a draining channel to ACTIVE. -/
  | svcCancel (m : Master) (c : Fin 16)
  /-- CHANNEL_DRAIN_END (R202). Every page has moved off the draining channel and it becomes DRAINED. -/
  | channelDrainEnd (c : Fin 16)
  /-- DIMM_THERMAL_READ (R205). Every 250 µs both DIMM sensors are read and the thermal level set. -/
  | dimmThermalRead (c : Fin 16) (t0 t1 : DimmTemps)
  /-- HOTNESS_EPOCH_ADVANCE (R218). TIER.EPOCH.CURRENT advances every EPOCH_LEN and the promotion filters clear. -/
  | hotnessEpochAdvance
  /-- SWEEP_VISIT (R220). The sweeper visits a page map entry, restamping, capping age or queueing demotion. -/
  | sweepVisit (page : BitVec 34)
  /-- PROMOTION_START (R223). A promotion takes a fresh frame and migration entry and decodes the page. -/
  | promotionStart (page : BitVec 34)
  /-- PROMOTION_COMMIT (R223). A promotion commits the page near, or poisons it on a CRC or parcel failure. -/
  | promotionCommit (page : BitVec 34) (fault : BinFault)
  /-- DEMOTION_START (R225). A queued demotion, within its rate, takes a migration entry and reads the page. -/
  | demotionStart (page : BitVec 34)
  /-- DEMOTION_COMMIT (R225). A demotion commits into a bin or unbacked, or is abandoned. -/
  | demotionCommit (page : BitVec 34) (e : Fin 16) (mismatch : Bool)
  /-- COMPACTION_START (R229). Free bins of a class exceed twice a group and the least-used group is emptied by bin moves. -/
  | compactionStart (u : Fin 8) (set : Fin 16) (cls : Fin 3)
  /-- MIGRATION_MOVE_START (R215). A near or bin move for drain, retirement or compaction takes its destination and migration entry. -/
  | migrationMoveStart (page : BitVec 34) (why : MoveReason)
  /-- MIGRATION_MOVE_COMMIT (R215). A move commits the new location and returns the source. -/
  | migrationMoveCommit (page : BitVec 34) (uncorr : BitVec 64)
  /-- TIER_PROMOTE_DOMAIN (R250). TIER.CMD OP 1 promotes every page of a domain. -/
  | tierPromoteDomain (m : Master) (domain : BitVec 12)
  /-- TIER_CANCEL (R250). TIER.CMD OP 2 cancels the promote-domain command in progress. -/
  | tierCancel (m : Master)
  /-- PROMOTE_DOMAIN_END (R250). A promote-domain command ends. -/
  | promoteDomainEnd
  /-- JOB_GO (R242). JCTL GO starts or resumes a direct compress, decompress or CRC job. -/
  | jobGo (m : Master) (e : Fin 16) (op : BitVec 2) (resume : Bool)
  /-- JOB_CANCEL (R251). JCTL CANCEL stops the job at the next parcel boundary. -/
  | jobCancel (m : Master) (e : Fin 16)
  /-- JOB_END (R242). A direct job ends with its status. -/
  | jobEnd (e : Fin 16) (mismatch : Bool)
  /-- ENGINE_FAULT (R243). An engine fault or self-verify mismatch takes the engine out of service and redistributes its work. -/
  | engineFault (e : Fin 16) (verify : Bool)
  /-- ENGINE_RECOVERED (R243). The engine returns to service with VERIFY_LEFT = 16. -/
  | engineRecovered (e : Fin 16)
  /-- OVERWRITE_WRITE (R259). A queued frame or bin is written with zeros and enters the free pool. -/
  | overwriteWrite
  /-- RETAG_STEP (R273). The background re-tag rewrites one child under the new counter. -/
  | retagStep (hs : Fin 32)
  /-- RETAG_END (R273). Every slot of a re-tag is done and its entry frees. -/
  | retagEnd (hs : Fin 32)
  /-- ROOT_ARRAY_ERROR (R282). An uncorrectable root array entry stops the slice's requests and rebuilds the root from L5 copies. -/
  | rootArrayError (hs : Fin 32)
  /-- ROOT_REBUILD_END (R282). The root array rebuild ends and the slice serves again. -/
  | rootRebuildEnd (hs : Fin 32) (rejected : BitVec 32)
  /-- CHUNK_INIT (R277). The background initialises the next 16 MiB chunk of a granted extent. -/
  | chunkInit (chunk : BitVec 22)
  /-- DISCARD_REPORT (R299). A unit reports a discarded lost write to Dill, filed in the discard list or extent map. -/
  | discardReport (u : BitVec 24) (what : DiscardWhat)
  /-- DMQ_TAIL_WRITE (R313). A TAIL doorbell write adds descriptors to a queue's ring. -/
  | dmqTailWrite (m : Master) (q : Fin 64) (tail : BitVec 16)
  /-- DESCRIPTOR_FETCH (R315). A descriptor is fetched and started in ring order within MAX_RUN and FENCE. -/
  | descriptorFetch (q : Fin 64) (host : Option (BitVec 512))
  /-- DM_COPY (R325). A COPY descriptor copies LEN bytes, carrying poison across lines. -/
  | dmCopy (q : Fin 64) (ix : BitVec 16)
  /-- DM_FILL (R317). A FILL descriptor writes an 8-byte pattern. -/
  | dmFill (q : Fin 64) (ix : BitVec 16)
  /-- DM_COMPARE (R317). A COMPARE descriptor reports the first differing byte. -/
  | dmCompare (q : Fin 64) (ix : BitVec 16)
  /-- DM_CRC (R317). A CRC descriptor computes the CRC-32C of its source. -/
  | dmCrc (q : Fin 64) (ix : BitVec 16)
  /-- DM_COMPRESS (R322). A COMPRESS descriptor writes a parcel stream to DST and its chain. -/
  | dmCompress (q : Fin 64) (ix : BitVec 16) (e : CompressRun)
  /-- DM_DECOMPRESS (R324). A DECOMPRESS descriptor decodes a stream to DST and its chain. -/
  | dmDecompress (q : Fin 64) (ix : BitVec 16) (e : Fin 16)
  /-- DM_ZERO_RESEAL (R326). A ZERO_RESEAL descriptor reseals pages to 64 zero lines. -/
  | dmZeroReseal (q : Fin 64) (ix : BitVec 16)
  /-- DM_BATCH_ATOMIC (R327). A BATCH_ATOMIC descriptor executes a list of atomics and writes results. -/
  | dmBatchAtomic (q : Fin 64) (ix : BitVec 16)
  /-- DM_PEER_COPY (R328). A PEER_COPY descriptor writes half-pages to a peer landing aperture and sends a flush read. -/
  | dmPeerCopy (q : Fin 64) (ix : BitVec 16)
  /-- PEER_FLUSH_COMPLETION (R328). The peer's flush read completes or fails, ending the PEER_COPY. -/
  | peerFlushCompletion (q : Fin 64) (ix : BitVec 16) (st : CplStatus)
  /-- DM_RECORD_WRITE (R319). Once its writes are visible, a descriptor's completion record and MSI-X are written. -/
  | dmRecordWrite (q : Fin 64) (ix : BitVec 16) (ok : Bool)
  /-- DMQ_ABORT (R330). DMQ.CTRL.ABORT stops the queue with ABORTED records. -/
  | dmqAbort (m : Master) (q : Fin 64)
  /-- DMQ_ENABLE (R336). A write of DMQ.CFG.EN enables a queue or returns a stopped queue to disabled. -/
  | dmqEnable (m : Master) (q : Fin 64) (v : Word)
  /-- DLNK_TRAIN (R341). A module end leaves OFF when its chiplet is out of reset and trains. -/
  | dlnkTrain (e : Fin 34)
  /-- DLNK_TRAIN_END (R341). Rate and width are settled, or training fails and the module is retired. -/
  | dlnkTrainEnd (e : Fin 34) (r : LaneResult)
  /-- INIT_PARAM (R349). An INIT_PARAM flit is received and checked for compatibility. -/
  | initParam (e : Fin 34) (major minor : BitVec 8) (rate : BitVec 8) (vendor device : BitVec 16) (rev : BitVec 8)
  /-- INIT_CREDIT (R349). An INIT_CREDIT flit is received; the module enters ACTIVE. -/
  | initCredit (e : Fin 34) (adv : List (BitVec 16))
  /-- ACK_CREDIT (R351). An ACK_CREDIT flit acknowledges flits and returns cumulative credits. -/
  | ackCredit (e : Fin 34) (valid : Bool) (ackseq : BitVec 12) (ret : List (BitVec 16))
  /-- REPLAY_START (R352). A REPLAY_START flit resumes acceptance from its SEQ. -/
  | replayStart (e : Fin 34) (seq : BitVec 12)
  /-- LINK_REQ (R342). A LINK_REQ for a width, rate or retrain change is received and resolved. -/
  | linkReq (e : Fin 34) (ch : LinkChange) (slot : BitVec 4)
  /-- LINK_RSP (R342). A LINK_RSP accepts or aborts a requested change. -/
  | linkRsp (e : Fin 34) (accept : Bool)
  /-- MESSAGE_FLIT (R352). A message flit is received and accepted, discarded as duplicate or failed into REPLAY_WAIT. -/
  | messageFlit (e : Fin 34) (flit : BitVec 512)
  /-- ACK_TIMER (R351). 32 flits or 200 ns since the oldest unacknowledged accept send an ACK_CREDIT. -/
  | ackTimer (e : Fin 34)
  /-- REPLAY_TIMER (R353). The oldest unacknowledged flit waits 1 µs and the sender replays from it. -/
  | replayTimer (e : Fin 34)
  /-- REPLAY_LIMIT (R353). Four replays without ACKSEQ advance send the module to LRESET. -/
  | replayLimit (e : Fin 34)
  /-- CREDIT_TIMEOUT (R356). A message waits DLNK.CFG.CTO for credits and the module enters LRESET. -/
  | creditTimeout (e : Fin 34) (cls : MsgClass)
  /-- TRAINING_PATTERN_SEEN (R344). The peer's training pattern takes the module end into LRESET. -/
  | trainingPatternSeen (e : Fin 34)
  /-- LINK_RESET_END (R344). LRESET ends with retraining and replay, or retires the module. -/
  | linkResetEnd (e : Fin 34) (r : LaneResult)
  /-- DLNK_CHANGE_END (R344). A commanded width, rate or retrain change ends or fails. -/
  | dlnkChangeEnd (e : Fin 34) (ok : Bool)
  /-- DLNK_RETRAIN (R378). DLNK.CTRL CMD 1 requests a retrain. -/
  | dlnkRetrain (m : Master) (e : Fin 34)
  /-- DLNK_WIDTH (R378). DLNK.CTRL CMD 2 requests a width change. -/
  | dlnkWidth (m : Master) (e : Fin 34)
  /-- DLNK_RATE (R378). DLNK.CTRL CMD 3 requests a rate change. -/
  | dlnkRate (m : Master) (e : Fin 34)
  /-- DLNK_RETIRE (R345). DLNK.CTRL CMD 4 retires a module, refused for the last ACTIVE one. -/
  | dlnkRetire (m : Master) (e : Fin 34)
  /-- DLNK_RETURN (R378). DLNK.CTRL CMD 5 returns a retired or failed module to TRAIN. -/
  | dlnkReturn (m : Master) (e : Fin 34)
  /-- DLNK_RESET_CMD (R378). DLNK.CTRL CMD 6 forces a link reset. -/
  | dlnkResetCmd (m : Master) (e : Fin 34)
  /-- RDCUR (R366). A Borage RdCur is served as a non-caching read. -/
  | rdcur (a : Fin 16) (tag : BitVec 10) (line : BitVec 40) (cred : Bool)
  /-- RDSHARED (R366). A Borage RdShared is served as MemRd (S). -/
  | rdshared (a : Fin 16) (tag : BitVec 10) (line : BitVec 40) (cred : Bool)
  /-- RDOWN (R366). A Borage RdOwn is served as MemRd (A). -/
  | rdown (a : Fin 16) (tag : BitVec 10) (line : BitVec 40) (cred : Bool)
  /-- INVOWN (R366). A Borage InvOwn is served as MemInv (A). -/
  | invown (a : Fin 16) (tag : BitVec 10) (line : BitVec 40) (cred : Bool)
  /-- CLEANEVICT (R366). A Borage CleanEvict is served as MemClnEvct. -/
  | cleanevict (a : Fin 16) (tag : BitVec 10) (line : BitVec 40) (cred : Bool)
  /-- WRFULL (R365). A Borage WrFull consumes a writeback credit and is served as a full-line write. -/
  | wrfull (a : Fin 16) (tag : BitVec 10) (line : BitVec 40) (keepS : Bool) (data : Line)
  /-- WRPTL (R365). A Borage WrPtl consumes a writeback credit and is served as a partial write. -/
  | wrptl (a : Fin 16) (tag : BitVec 10) (line : BitVec 40) (keepS : Bool) (mask : BitVec 64) (data : Line)
  /-- WRBACK (R365). A Borage WrBack writes back a modified line. -/
  | wrback (a : Fin 16) (tag : BitVec 10) (line : BitVec 40) (keepS : Bool) (data : Line)
  /-- ATOMIC (R366). A Borage Atomic executes in the home slice atomic unit. -/
  | atomic (a : Fin 16) (tag : BitVec 10) (line : BitVec 40) (cred : Bool) (op : AtomicKind) (size : AtomicSize) (off : Fin 64) (x y : BitVec 128)
  /-- FWDRDDATA (R368). A Borage FwdRdData answers a forwarded BAR0 read. -/
  | fwdrddata (tag : BitVec 10) (data : Line) (err : Bool)
  /-- SNPRSP (R367). A Borage SnpRsp answers a snoop, with data when modified. -/
  | snprsp (a : Fin 16) (line : BitVec 40) (keep : SnpKeep) (data : Option Line)
  /-- SNPCONFLICT (R367). A Borage SnpConflict is answered with ConflictAck. -/
  | snpconflict (a : Fin 16) (line : BitVec 40)
  /-- REGRSP (R369). A Borage RegRsp completes a register access to slot 12. -/
  | regrsp (tag : BitVec 10) (val : Word) (err : Bool)
  /-- EVTRAISE (R370). A Borage EvtRaise raises event source 704 + k. -/
  | evtraise (k : Fin 64) (payload : BitVec 64)
  /-- BORAGE_REG_ACCESS (R369). An access to a slot 12 page is sent to Borage as RegRd or RegWr. -/
  | borageRegAccess (m : Master) (off : BitVec 24) (wr : Option Word)
  /-- REGRD_TIMEOUT (R369). A Borage register access gets no RegRsp in 100 µs and is answered as a page without a site. -/
  | regrdTimeout (tag : BitVec 10)
  /-- FWDRD_TIMEOUT (R368). A FwdRd is not answered in 1 ms and the read receives Completer Abort. -/
  | fwdrdTimeout (tag : BitVec 10)
  /-- FWDWR_TIMEOUT (R368). A FwdWr waits 1 ms for credits or finds no module ACTIVE and is dropped. -/
  | fwdwrTimeout (ld : Fin 64)
  /-- BRG_FLT_N_ASSERT (R371). BRG_FLT_N is asserted and Dill takes class F at B0.3. -/
  | brgFltNAssert
  /-- BRG_FLT_FRAME (R371). A BRG_FLT_DAT frame is received and filed as a fault. -/
  | brgFltFrame (f : BitVec 64)
  /-- BORAGE_BRINGUP_TIMEOUT (R372). Borage modules are not all ACTIVE 100 ms after BRG_RST_N release. -/
  | borageBringupTimeout
  /-- XTAL_QUALIFY (R383). A crystal stays in limits for four slow periods and qualifies, possibly supplying REF. -/
  | xtalQualify (x : Fin 2)
  /-- XTAL_QUALIFY_TIMEOUT (R383). The preferred crystal has not qualified 20 ms after AUX rose and REF takes the other or waits. -/
  | xtalQualifyTimeout
  /-- XTAL_RETRY (R383). With no qualified crystal, start-up retries every 1 s. -/
  | xtalRetry
  /-- CLOCK_MONITOR_FLAG (R387). A clock monitor finds a clock stopped or more than 5 % off. -/
  | clockMonitorFlag (c : MonClock)
  /-- SLOW_OSC_CHECK (R387). Every 1 ms the slow oscillator is checked against REF or the fast oscillator. -/
  | slowOscCheck (bad : Bool)
  /-- REF_EDGE_LOSS (R388). Four reference periods pass with no edge and the loop starts to coast. -/
  | refEdgeLoss (loop : Fin 40)
  /-- LOOP_RELOCK (R388). A coasting loop regains lock on a good reference. -/
  | loopRelock (loop : Fin 40)
  /-- REF_SWITCH (R389). REF moves to the other crystal after eight lost periods or a flag. -/
  | refSwitch
  /-- CLK_SWAP (R389). A write of CLK.CFG.SWAP moves REF to the other qualified crystal. -/
  | clkSwap (m : Master)
  /-- REF_REVERT (R389). With REVERT, REF returns to the preferred crystal after 10 s within limits. -/
  | refRevert
  /-- LOCK_LOSS_TIMEOUT (R391). A loop that lost lock has not relocked in its limit; class F, quarantine, LRESET or link-down follows. -/
  | lockLossTimeout (loop : Fin 40)
  /-- FAST_OSC_DISCIPLINE (R392). Each slow period the fast oscillator is corrected against REF. -/
  | fastOscDiscipline
  /-- ROOT_LOOP_LOCK (R395). The root loop first locks and dual-source domains move to their main clocks. -/
  | rootLoopLock
  /-- CLOCK_GATE_STOP (R394). A gating domain idle for 16 cycles stops its clock. -/
  | clockGateStop (d : Fin 384)
  /-- CLOCK_GATE_START (R394). Work or an access restarts a gated clock within 2 cycles. -/
  | clockGateStart (d : Fin 384)
  /-- DSEL_CHANGE (R396). CLK.DSEL moves one domain between its main and AUX clock. -/
  | dselChange (m : Master) (d : BitVec 9) (src : BitVec 2)
  /-- SUBDOMAIN_POWER_DOWN (R398). A sub-domain idle for PWR.CFG.IDLE isolates and loses power. -/
  | subdomainPowerDown (sd : SubDomain)
  /-- SUBDOMAIN_WAKE (R400). An access or work powers up a sub-domain within 30 µs. -/
  | subdomainWake (sd : SubDomain)
  /-- SUBDOMAIN_WAKE_TIMEOUT (R400). A sub-domain's power is not good in 30 µs and it is quarantined. -/
  | subdomainWakeTimeout (sd : SubDomain)
  /-- PHY_QUAD_WAKE (R401). Idle exit, beacon, PERST_N release or RETRAIN powers the link's PHY quads. -/
  | phyQuadWake (l : Fin 16) (why : QuadWakeCause)
  /-- WAKE_IN_RECOGNISED (R402). Two active WAKE_IN samples are recognised and act by ACTn. -/
  | wakeInRecognised (n : Fin 2)
  /-- AUX_RESET (R434). AUX rises or AUX_RESET_N is low 10 µs; the gate is pulled and start-up runs. -/
  | auxReset (why : AuxCause) (b : Board)
  /-- VIN_OVERVOLTAGE (R415). VIN above OV pulls the gate within 1 µs. -/
  | vinOvervoltage (mV : Nat)
  /-- VIN_UNDERVOLTAGE (R415). VIN below UV for 20 µs pulls the gate. -/
  | vinUndervoltage (mV : Nat)
  /-- VIN_WINDOW_ENTRY (R411). VIN lies 0.2 V inside both thresholds and re-enters the window. -/
  | vinWindowEntry (mV : Nat)
  /-- INSERTION_DELAY_END (R412). The insertion delay is served and RAMP starts. -/
  | insertionDelayEnd
  /-- RAMP_END (R413). VOUT reaches VIN − 0.3 V and the path enters ON with full enhancement. -/
  | rampEnd (vinMv voutMv : Nat)
  /-- START_TIMEOUT (R413). The ramp has not ended in time; a start-timeout trip. -/
  | startTimeout
  /-- CURRENT_LIMIT_ENTRY (R414). Input current reaches ILIM and the breaker timer counts. -/
  | currentLimitEntry
  /-- BREAKER_EXPIRY (R414). The breaker timer reaches BRK and the path trips. -/
  | breakerExpiry
  /-- FAST_TRIP (R415). Current reaches 2 × ILIM and the gate is pulled within 1 µs. -/
  | fastTrip
  /-- FET_MODEL_TICK (R416). Every 10 µs the transistor junction estimate is updated and compared with TMAX. -/
  | fetModelTick (vinMv voutMv iMa : Nat) (ntc : Option Int) (dieC : Int)
  /-- NTC_INVALID (R417). A thermistor reading shows open or short and the model stage takes over. -/
  | ntcInvalid
  /-- NTC_RECOVER (R417). The thermistor reads valid for 1 s and takes back the case stage. -/
  | ntcRecover (degC : Int)
  /-- DAMAGED_TRANSISTOR (R418). VOUT stays above 1.0 V for 50 ms with the gate off; DISC_N asserts and the path enters SHORT. -/
  | damagedTransistor
  /-- RETRY_WAIT_END (R419). Off-time, cooling and VIN conditions hold and the path ramps again. -/
  | retryWaitEnd
  /-- COOL_WAIT_END (R420). The owed cooling wait is served and the insertion delay begins. -/
  | coolWaitEnd
  /-- HSC_START (R422). HSC.CMD START moves the path from IDLE or STOPPED. -/
  | hscStart (m : Master)
  /-- HSC_STOP (R422). HSC.CMD STOP turns the gate off into STOPPED. -/
  | hscStop (m : Master)
  /-- HSC_CLEAR_LATCH (R419). HSC.CMD CLEAR_LATCH moves LATCHED to RETRY_WAIT and clears the retry count. -/
  | hscClearLatch (m : Master)
  /-- HSC_CLR_SHORT (R418). HSC.CMD CLR_SHORT clears the SHORT record and DISC_N and returns to IDLE. -/
  | hscClrShort (m : Master) (voutMv : Nat)
  /-- PG_TICK (R423). Each 1 µs tick asserts or deasserts internal power-good. -/
  | pgTick (voutMv gateMv : Nat) (inLimit : Bool)
  /-- PG_OUT_LEVEL_AGE (R425). A PG_OUT level reaches 5 ms and a pending change reaches the pin. -/
  | pgOutLevelAge
  /-- RAIL_ENABLE (R430). DELAY after the previous rail is good, Dill enables the next PMBus rail. -/
  | railEnable (k : Fin 7)
  /-- RAIL_GOOD (R430). A rail is within range for 100 µs and the sequence advances. -/
  | railGood (k : Fin 7)
  /-- RAIL_TIMEOUT (R431). A rail is not good within DELAY + 10 ms and the rails shut down. -/
  | railTimeout (k : Fin 7)
  /-- RAIL_RETRY (R431). 1 s after the rails fell, the sequence is tried once more. -/
  | railRetry
  /-- HRDY_DEADLINE (R427). 4 s after power-good, channels still training stop holding HRDY_N. -/
  | hrdyDeadline
  /-- RST_WARM (R436). RST.CTRL OP 1 or the BMC runs a warm reset. -/
  | rstWarm (m : Master)
  /-- RST_COLD (R434). RST.CTRL OP 2 or the BMC resets every main domain and reruns steps 7–12. -/
  | rstCold (m : Master)
  /-- RST_ENTER_AUX_ONLY (R432). RST.CTRL OP 3 enters the AUX-only state. -/
  | rstEnterAuxOnly (m : Master)
  /-- RST_LEAVE_AUX_ONLY (R433). RST.CTRL OP 4 leaves the AUX-only state as a cold start. -/
  | rstLeaveAuxOnly (m : Master)
  /-- RST_CHIPLET_RECOVERY (R303). RST.CTRL OP 5 runs a chiplet recovery reset of the named slot. -/
  | rstChipletRecovery (m : Master) (slot : BitVec 4)
  /-- CMAINT_CLEAN (R450). MCORE.CMAINT clean waits until the write buffer holds no write to the line or is empty. -/
  | cmaintClean (m : Master) (c : Fin 2) (cache : CacheSel) (how : MaintBy)
  /-- CMAINT_INVALIDATE (R450). MCORE.CMAINT invalidate removes a line by address or by set and way. -/
  | cmaintInvalidate (m : Master) (c : Fin 2) (cache : CacheSel) (how : MaintBy)
  /-- CMAINT_CLEAN_INVALIDATE (R450). MCORE.CMAINT cleans then invalidates. -/
  | cmaintCleanInvalidate (m : Master) (c : Fin 2) (cache : CacheSel) (how : MaintBy)
  /-- CMAINT_VICTIM (R450). MCORE.CMAINT VICTIM invalidates all 8 victim cache lines. -/
  | cmaintVictim (m : Master) (c : Fin 2) (cache : CacheSel)
  /-- FENCE_I (R450). FENCE.I invalidates the core's instruction cache and its victim cache. -/
  | fenceI (c : Fin 2)
  /-- CCTL_WRITE (R451). A write of MCORE.CCTL enables or disables a cache without changing its lines. -/
  | cctlWrite (m : Master) (c : Fin 2) (ien den : Bool)
  /-- RSTORE_DATA_WRITE (R458). A write of RSTORE.DATA queues a retained write, or ends at once for an unchanged value. -/
  | rstoreDataWrite (m : Master) (val : Word)
  /-- RSTORE_WRITE_DONE (R458). A queued retained write is performed, spared or refused, releasing its requester. -/
  | rstoreWriteDone
  /-- RETAINED_WORD_UE (R462). A retained word read finds an uncorrectable error and reads as 0. -/
  | retainedWordUe (w : BitVec 16)
  /-- SENSOR_SAMPLE (R464). Every 1 ms the sensor hub updates input, rail and die readings. -/
  | sensorSample (r : SensorSample)
  /-- DIE_OVERTEMP (R571). An Ozquenko die sensor reads 120 °C for 1 ms and raises class F. -/
  | dieOvertemp (sensor : Fin 24)
  /-- ENERGY_LEDGER_TICK (R465). Every 1 ms the interval energy is split across logical devices by activity. -/
  | energyLedgerTick
  /-- LANE_MARGIN_SCAN (R466). On MGN.CFG.HOURS, Dill margins each lane and records LMRG. -/
  | laneMarginScan (g : Fin 4) (lane : Fin 16) (tl tr : BitVec 6) (vu vd : BitVec 7)
  /-- LOG_RECORD_WRITE (R467). The event log writer places a queued record in the ring. -/
  | logRecordWrite
  /-- I3C_DAA (R470). A valid ENTDAA or SETDASA turns the BMC port into an I3C target. -/
  | i3cDaa
  /-- MCTP_MESSAGE (R471). An MCTP message reaches the sideband endpoint and is served or answered not ready. -/
  | mctpMessage (msg : MctpMsg)
  /-- SB_RD (R472). Direct command RD reads COUNT words from the window. -/
  | sbRd (off : BitVec 28) (count : Nat)
  /-- SB_WR (R472). Direct command WR writes COUNT words to the window in order. -/
  | sbWr (off : BitVec 28) (words : List Word)
  /-- IMG_BEGIN (R472). Direct command IMG_BEGIN starts an image load. -/
  | imgBegin (len : Nat)
  /-- IMG_DATA (R472). Direct command IMG_DATA delivers image words. -/
  | imgData (off : Nat) (words : List Word)
  /-- IMG_END (R472). Direct command IMG_END verifies the image and boots or stages it. -/
  | imgEnd (img : FwImage)
  /-- SMBUS_ARA (R473). The BMC reads the SMBus Alert Response Address and ALERT_N is released. -/
  | smbusAra
  /-- IBI_ACCEPTED (R473). The BMC accepts in-band interrupts and ALERT_N is released. -/
  | ibiAccepted
  /-- MB_IDENTIFY (R474). Mailbox Identify. -/
  | mbIdentify (ld : Fin 64)
  /-- MB_BG_OP_STATUS (R474). Mailbox Background Operation Status. -/
  | mbBgOpStatus (ld : Fin 64)
  /-- MB_GET_EVT_INT_POLICY (R474). Mailbox Get Event Interrupt Policy. -/
  | mbGetEvtIntPolicy (ld : Fin 64)
  /-- MB_SET_EVT_INT_POLICY (R474). Mailbox Set Event Interrupt Policy. -/
  | mbSetEvtIntPolicy (ld : Fin 64) (policy : BitVec 32)
  /-- MB_GET_EVENT_RECORDS (R503). Mailbox Get Event Records returns CXL event records. -/
  | mbGetEventRecords (ld : Fin 64) (log : Fin 4)
  /-- MB_CLEAR_EVENT_RECORDS (R474). Mailbox Clear Event Records. -/
  | mbClearEventRecords (ld : Fin 64) (log : Fin 4) (handles : List (BitVec 16))
  /-- MB_GET_TIMESTAMP (R474). Mailbox Get Timestamp. -/
  | mbGetTimestamp (ld : Fin 64)
  /-- MB_SET_TIMESTAMP (R474). Mailbox Set Timestamp stores an offset for returned event records. -/
  | mbSetTimestamp (ld : Fin 64) (ts : BitVec 64)
  /-- MB_GET_SUPPORTED_LOGS (R474). Mailbox Get Supported Logs. -/
  | mbGetSupportedLogs (ld : Fin 64)
  /-- MB_GET_LOG (R474). Mailbox Get Log. -/
  | mbGetLog (ld : Fin 64) (off len : Nat)
  /-- MB_GET_FW_INFO (R474). Mailbox Get FW Info. -/
  | mbGetFwInfo (ld : Fin 64)
  /-- MB_TRANSFER_FW (R475). Mailbox Transfer FW stages an image in the inactive slot. -/
  | mbTransferFw (ld : Fin 64) (slot : BitVec 2) (last : Bool) (img : FwImage)
  /-- MB_ACTIVATE_FW (R474). Mailbox Activate FW online or at next cold reset. -/
  | mbActivateFw (ld : Fin 64) (slot : BitVec 2) (online : Bool)
  /-- MB_IDENTIFY_MEMDEV (R474). Mailbox Identify Memory Device. -/
  | mbIdentifyMemdev (ld : Fin 64)
  /-- MB_GET_HEALTH_INFO (R474). Mailbox Get Health Info. -/
  | mbGetHealthInfo (ld : Fin 64)
  /-- MB_GET_POISON_LIST (R474). Mailbox Get Poison List. -/
  | mbGetPoisonList (ld : Fin 64) (dpa : BitVec 46) (lines : Nat)
  /-- MB_GET_DC_CONFIG (R474). Mailbox Get Dynamic Capacity Configuration. -/
  | mbGetDcConfig (ld : Fin 64)
  /-- MB_GET_DC_EXTENT_LIST (R474). Mailbox Get Dynamic Capacity Extent List. -/
  | mbGetDcExtentList (ld : Fin 64)
  /-- ENERGY_READ (R474). Vendor command 0xC000 returns the caller's energy ledger. -/
  | energyRead (ld : Fin 64)
  /-- MARGIN_READ (R474). Vendor command 0xC001 returns the caller's link margins. -/
  | marginRead (ld : Fin 64)
  /-- DEVICE_LOG_READ (R474). Vendor command 0xC002 reads the device log for the management function. -/
  | deviceLogRead (ld : Fin 64) (ix : BitVec 16)
  /-- REG_ACCESS (R474). Vendor command 0xC003 accesses registers for the management function. -/
  | regAccess (ld : Fin 64) (off : BitVec 28) (wr : Option Word)
  /-- MB_UNSUPPORTED_OPCODE (R474). Any other mailbox opcode returns Unsupported. -/
  | mbUnsupportedOpcode (ld : Fin 64) (opcode : BitVec 16)
  /-- FWU_VERIFY (R475). FWU.CMD VERIFY checks the staged slot. -/
  | fwuVerify (m : Master)
  /-- FWU_LOAD (R475). FWU.CMD LOAD copies the image to the standby core and starts it. -/
  | fwuLoad (m : Master)
  /-- FWU_READY (R475). FWU.CMD READY from the standby core. -/
  | fwuReady (m : Master)
  /-- FWU_SWITCH (R476). FWU.CMD SWITCH halts the outgoing core and hands over roles. -/
  | fwuSwitch (m : Master)
  /-- FWU_CONFIRM (R478). FWU.CMD CONFIRM commits the new image to BOOT_SEL. -/
  | fwuConfirm (m : Master)
  /-- FWU_ROLLBACK (R475). FWU.CMD ROLLBACK switches back to the old core at RB_ENTRY. -/
  | fwuRollback (m : Master)
  /-- TRIAL_TIMEOUT (R475). FWU.CFG.TRIAL seconds pass without CONFIRM and a roll-back runs. -/
  | trialTimeout
  /-- FWU_CANCEL (R475). FWU.CMD CANCEL halts the loaded standby core. -/
  | fwuCancel (m : Master)
  /-- RAISE_SVN (R478). FWU.CMD.RAISE_SVN writes SVN_MIN with the running image's SVN. -/
  | raiseSvn (m : Master)
  /-- CFG_RECORD_WRITE (R456). A retained-configuration WRITE record writes a window offset. -/
  | cfgRecordWrite
  /-- CFG_RECORD_COMMIT (R456). A COMMIT record writes GO and waits for PENDING = 0. -/
  | cfgRecordCommit
  /-- CFG_RECORD_WAIT (R456). A WAIT record polls an offset until the masked value matches. -/
  | cfgRecordWait
  /-- CFG_WAIT_TIMEOUT (R456). A WAIT record times out and application stops with BOOT_FAIL. -/
  | cfgWaitTimeout
  /-- CFG_RECORD_END (R456). An END record or LEN ends the application. -/
  | cfgRecordEnd
  /-- FATAL_LANE (R490). A chiplet's fatal lane asserts and the collector decides a class F reaction within 1 µs. -/
  | fatalLane (slot : BitVec 4)
  /-- FAULT_FRAME (R493). A fault frame is merged into or opens a fault record and its reaction applied. -/
  | faultFrame (site : BitVec 24) (cls : FaultClass) (row col : BitVec 16) (cause : BitVec 8)
  /-- FRAME_CHECK_FAIL (R487). A fault frame fails its check and is discarded and counted. -/
  | frameCheckFail (slot : BitVec 4)
  /-- HEARTBEAT_LOSS (R488). No valid frame for 10 µs makes the chiplet class F, or Hyssop's link class S. -/
  | heartbeatLoss (slot : BitVec 4)
  /-- QUIET_PERIOD_END (R495). A record's quiet period ends and the recovery for its unit runs, applying the discard list. -/
  | quietPeriodEnd (rec : Option (BitVec 16))
  /-- RECOVERY_FAIL (R496). A recovery fails; after RETRIES the unit is held out or the device enters AUX-only. -/
  | recoveryFail (rec : Option (BitVec 16))
  /-- FC_EXIT (R495). FC.CMD EXIT runs the recovery of the named record. -/
  | fcExit (m : Master) (site : BitVec 24)
  /-- FC_RECOVER (R496). FC.CMD RECOVER returns a held-out unit or leaves the held-out AUX-only state. -/
  | fcRecover (m : Master) (site : BitVec 24)
  /-- FC_INJECT (R578). FC.CMD INJECT takes a fault of a class at a site with cause 0xFF. -/
  | fcInject (m : Master) (cls : BitVec 3) (site : BitVec 24)
  /-- FREC_CLEAR (R507). FREC5.CLEAR zeroes an inactive fault record. -/
  | frecClear (m : Master) (page : BitVec 16)
  /-- FREC0_READ (R507). A read of FREC0 latches FREC1–5. -/
  | frec0Read (m : Master) (page : BitVec 16)
  /-- EVENT_RAISE (R502). An event source is raised, logged and delivered to its routes. -/
  | eventRaise (src : BitVec 10) (why : EventCause)
  /-- EVT_STATUS_CLEAR (R502). A write of 1 to EVT_STATUS or EVR.PEND clears pending bits. -/
  | evtStatusClear (m : Master) (at_ : EvtWhere) (bits : Word)
  /-- EVT_ENABLE_WRITE (R502). Setting an enable bit with its pending bit set delivers the event once. -/
  | evtEnableWrite (m : Master) (at_ : EvtWhere) (bits : Word)
  /-- EVT_ROUTE_WRITE (R508). A write of EVT_ROUTE sets the route of an owned source and selects it. -/
  | evtRouteWrite (m : Master) (page : BitVec 16) (val : BitVec 19)
  /-- EVR_ROUTE_WRITE (R510). A write of EVR.ROUTE sets the route of the source in RIDX. -/
  | evrRouteWrite (m : Master) (val : BitVec 14)
  /-- PMC_CLEAR (R522). PMC.CTL.CLEAR clears every counter of the page. -/
  | pmcClear (m : Master) (page : BitVec 16) (ctl : Word)
  /-- PMC_GCTL_RUN (R516). A write of PMC.GCTL.RUN starts or stops every GLOB counter. -/
  | pmcGctlRun (m : Master) (run : Bool)
  /-- PMC_GCTL_CLEAR (R522). PMC.GCTL.CLEAR clears every GLOB counter. -/
  | pmcGctlClear (m : Master) (run : Bool)
  /-- PMC_LO_READ (R516). A read of PMC.LOk latches the counter's high bits. -/
  | pmcLoRead (m : Master) (page : BitVec 16) (k : Fin 8)
  /-- COUNTER_OVERFLOW (R515). A counter passes 2^48 − 1, sets OVF and may freeze the bank. -/
  | counterOverflow (page : BitVec 16) (k : Fin 8)
  /-- TRACE_RECORD_WRITE (R520). A tagged request that passed point 11 and the filter has its record written to the ring. -/
  | traceRecordWrite
  /-- COMMIT_GO (R537). COMMIT.GO takes the page's staged H values for the next safe point. -/
  | commitGo (m : Master) (page : BitVec 16)
  /-- COMMIT_APPLY (R538). At the block's safe point the staged set becomes active and PENDING clears. -/
  | commitApply (page : BitVec 16)
  /-- COMMIT_DISCARD (R537). COMMIT.DISCARD returns staged H fields to their active values. -/
  | commitDiscard (m : Master) (page : BitVec 16)
  /-- LOCK_ACQUIRE (R541). LOCK.ACQUIRE takes a free page lock and sets its lease. -/
  | lockAcquire (m : Master) (page : BitVec 16) (lease : BitVec 8)
  /-- LOCK_RELEASE (R541). LOCK.RELEASE frees the lock if written by its owner. -/
  | lockRelease (m : Master) (page : BitVec 16)
  /-- LOCK_FORCE (R541). LOCK.FORCE from a management core frees the lock and sets STATUS.FORCED. -/
  | lockForce (m : Master) (page : BitVec 16)
  /-- LOCK_LEASE_EXPIRY (R541). The owner makes no access for LEASE × 10 ms and the lock is released. -/
  | lockLeaseExpiry (page : BitVec 16)
  /-- CTRL_HOLD (R535). A write of CTRL.HOLD makes a block take no new work until quiescent, or resume. -/
  | ctrlHold (m : Master) (page : BitVec 16) (hold : Bool)
  /-- DEV_MGMT_WRITE (R577). A write of DEV.MGMT.LD moves the full window and releases host locks. -/
  | devMgmtWrite (m : Master) (ld : BitVec 6)
  /-- REGISTER_WRITE (R544). A write to a register with no row of its own is checked and applied by field class. -/
  | registerWrite (m : Master) (off : BitVec 28) (val : Word) (be : BitVec 4)
  /-- AUX_LOSS (R410). AUX falls below its falling threshold; the gate is held low, main rails must discharge and retained writes complete old or new. -/
  | auxLoss
  /-- LOOP_LOCK_LOSS (R391). A loop loses lock while its reference is good and starts to coast, setting its CLK.COAST bit and raising CLK_COAST. -/
  | loopLockLoss (loop : Fin 40)
  /-- HARD_REPAIR_END (R198). Hard post-package repair of the recorded rows ends, clearing each succeeded repair record, raising REPAIR_DONE and clearing DDRP.CMD.BUSY. -/
  | hardRepairEnd (c : Fin 16) (ok : BitVec 32)
  /-- SERIAL_LINK_RETURN (R495). Hyssop's re-initialised isolated serial link has carried valid frames for 10 µs without a break and returns to service, resuming the Hyssop readings. -/
  | serialLinkReturn
  /-- RECOVERY_COUNTER_STORE (R461). Once an hour, each changed recovery counter is written to its retained word 0x0A01–0x0A05. -/
  | recoveryCounterStore
  /-- CORE_LOAD (R448). A management core load or instruction fetch is served from its cache, victim cache or memory, or raises an access fault outside the map. -/
  | coreLoad (c : Fin 2) (addr : BitVec 32) (fetch : Bool)
  /-- CORE_STORE (R449). A management core store updates a hitting data-cache line and enters the write buffer, or raises an access fault. -/
  | coreStore (c : Fin 2) (addr : BitVec 32) (size : Fin 4) (data : BitVec 64)
  /-- WRITE_BUFFER_DRAIN (R449). A write in a core's 8-entry write buffer reaches memory, letting a waiting clean complete. -/
  | writeBufferDrain (c : Fin 2)
  /-- TAP_INSTRUCTION (R569). A JTAG TAP instruction is executed, with EXTEST and CLAMP acting only while every HRDY_N is busy and the device is AUX-only or boot failed, and otherwise as BYPASS. -/
  | tapInstruction (op : TapOp)
  /-- COMMANDED_CHANGE_START (R344). A commanded Dunas CHANGE that waited for 1.5 ms since the last LRESET or CHANGE starts and pauses the module. -/
  | commandedChangeStart (e : Fin 34)
  /-- RAIL_FALLEN (R431). A main rail being turned off falls below 10 % of its nominal value, letting the next rail down be turned off. -/
  | railFallen (k : Fin 7)
  deriving DecidableEq, Repr

end Sys2Proof
end

