-- ==== Sys2Proof/Config.lean ====
section
/-! DEFINITION. What an implementation fixes and the spec leaves open: free values, opaque, applied
to the counter `free` of the state or to the operands they depend on. No proof can see them. -/

namespace Sys2Proof.Config

/-- Whether a speculative read is dropped (R142). -/
opaque specRdDrop : Nat → BitVec 1

/-- Whether a snoop filter entry, or one of a slice's, fails the check after a reset or recovery (R303, R495). -/
opaque sfBad : Nat → BitVec 1

/-- A seed of a tagging point's shift register (R518). -/
opaque lfsrSeed : Nat → BitVec 32

/-- Whether a line access activates a row (R186). -/
opaque activates : Nat → BitVec 1

/-- The next state of a subchannel's row-sampling shift register, whose polynomial the spec leaves open (R186). -/
opaque rowShift : BitVec 32 → BitVec 32

/-- A seed of a subchannel's row-sampling shift register, drawn from the key store's random source (R186). -/
opaque rowSeed : Nat → BitVec 32

/-- The activates of a bank that the mode registers of a channel's rank allow before refresh management (R187). -/
opaque rfmLimit : Nat → Nat → Nat

/-- The 12 bytes of the symbol code of 64 data bytes and 4 tag bytes, whose generator is fixed in silicon (R178). -/
opaque symbolCode : BitVec 512 → BitVec 32 → BitVec 96

/-- What the symbol code and the tag check behind it make of an error on three devices or more: 0 uncorrectable, 1 a tag
failure, 2 and 3 nothing found (R178). -/
opaque codeBeyond : Nat → BitVec 2

/-- Whether a retained write cut short by AUX left its word with the new value (R457). -/
opaque tornWrite : Nat → BitVec 1

/-- The next value of a transistor stage whose time constant is 0, for which the pseudocode divides by 0
(R416). -/
opaque fetStage : Nat → Rat

/-- A word of a timing set as discovery loads it from an SPD, by speed code and word (R189, R210). -/
opaque spdTiming : Nat → Nat → Nat → BitVec 32

/-- A byte of the boot ROM (R447). -/
opaque bootRom : Nat → BitVec 8

/-- The window offset of the register that a retained word 0x0000-0x03FF backs (R461, R540). -/
opaque backedBy : Nat → Nat

/-- The retained word that backs the register at a window offset (R461, R540). -/
opaque backWord : Nat → Nat

/-- FET.STAT for a temperature that eight signed bits do not hold (R442). -/
opaque fetTemp : Int → BitVec 8

/-- KEYS.STAT.RNG_OK once keys have been drawn, by how many times they have been (R287). -/
opaque rngOk : Nat → BitVec 1

/-- The fused set point of VDD_CORE in mV (R558). -/
opaque fusedCore : Nat

/-- Whether a correction of VDD_CORE from the die sensors raises the set point, and whether there is one (R558). -/
opaque coreStep : Nat → Bool × Bool

/-- A point of a trace record that its 24 bits do not hold, by the record's TIME, ADDR and the point (R520). -/
opaque tracePoint : Nat → Nat → Nat → BitVec 24

/-- A DETAIL word of a log record that its source does not define, by SEQ and word (R468). -/
opaque logDetail : Nat → Nat → BitVec 64

/-- The payload of a mailbox response whose content the spec leaves to other documents, by opcode (R474). -/
opaque mbPayload : Nat → Nat → List Nat

/-- The completion code and payload of an MCTP message that a management core serves (R471). -/
opaque mctpReply : Nat → Nat × List Nat

/-- The pins that SAMPLE captures (R569). -/
opaque tapSample : Nat → BitVec 32

/-- A byte that a cache with undefined contents returns (R451). -/
opaque staleByte : Nat → BitVec 8

/-- A field of a completion record or an element's result to which the spec gives no meaning in that record
(R319, R327). -/
opaque recordGap : Nat → BitVec 128

/-- SENS.PIN for a product beyond its 16 bits (R464). -/
opaque powerOver : Nat → BitVec 16

/-- The body that an encoder gives for some bytes (R234). -/
opaque encBody : List (BitVec 8) → List (BitVec 8)

/-- What a register of configuration space reads as, by its number and the value last written to it
(R57, R76). -/
opaque cfgSpace : BitVec 10 → BitVec 32 → BitVec 32

/-- Dwords between dword 16 and the PCI Express capability structure, whose third holds the device status (R57, R78). -/
opaque pcieGap : Fin 16

/-- Dwords between the PCI Express structure and the MSI-X structure (R57). -/
opaque msixGap : Fin 16

/-- Further dwords between the first of an extended capability structure, by its number, and the next structure (R57). -/
opaque capGap : Nat → Fin 64

/-- PCI-SIG vendor ID, device ID and revision of the device, as INIT_PARAM carries them (R349). -/
opaque vendorId : BitVec 16

/-- Device ID (R349). -/
opaque deviceId : BitVec 16

/-- Revision (R349). -/
opaque revision : BitVec 8

/-- TAG that Sorrel sets on a snoop of a line to a Borage agent (R360). -/
opaque snoopTag : Nat → Nat → BitVec 10

/-- The correctable link errors that a link may count in a second (R85). -/
opaque corrLimit : Nat

/-- The 256-bit device secret, generated at manufacture (R255). -/
opaque deviceSecret : BitVec 256

/-- A tag key as the key store's random source draws it (R255). -/
opaque tagKeyDraw : Nat → BitVec 256

/-- The salt that a draw gives a domain (R255, R259). -/
opaque saltDraw : Nat → Nat → BitVec 64

/-- HMAC-SHA-384 under a 256-bit key, first byte highest (R256; a published function, not built here). -/
opaque hmacSha384 : BitVec 256 → List (BitVec 8) → BitVec 384

/-- The line mix: a permutation of 512 bits, by key and tweak, fixed in silicon (R260, R261). -/
opaque mix : BitVec 256 → BitVec 128 → Equiv.Perm (BitVec 512)

/-- The tag: by tag key, stored bytes, kind, address, counter, domain and epoch, fixed in silicon (R261, R262). -/
opaque tag : BitVec 256 → BitVec 512 → Nat → Nat → Nat → Nat → Nat → BitVec 32

/-- How fast a loop's output moves between its set and its coast frequency, in parts per million per us, less 1: at most
0.1 % per us, which is all that R388 states. Free. -/
opaque slewPpm : Nat → Fin 1000

end Sys2Proof.Config
end

