-- ==== Sys2Proof/Machine/State.lean ====
section
/-! DEFINITION. The state of the block as plain data, its faults and refusals, and the state right
after reset. Each field's docstring ends with the rule that names it and its value at reset. -/

namespace Sys2Proof.Machine

/-- A finite map from numbers, as a list of pairs in rising order of key; an absent key has the
map's default. -/
abbrev Table (α : Type) := List (Nat × α)

/-! ### Messages that leave the block -/

/-- A message that the block sends. The list of them is the model's own record of what the outside
can observe. -/
inductive Msg
  /-- CXL.mem data to logical device `ld` (R142, R76). -/
  | memData (ld tag : Nat) (data : Line) (poison : Bool) (mv : MetaVal)
  /-- CXL.mem completion (R142). -/
  | memCmp (ld tag : Nat) (mv : MetaVal)
  /-- CXL.io completion with data; `ep` the poisoned attribute (R151). -/
  | ioData (ld tag : Nat) (data : List Byte) (ep : Bool)
  /-- CXL.io completion of an AtomicOp with the old value (R152, R153). -/
  | atomicCpl (ld tag : Nat) (old : BitVec 128) (ep : Bool)
  /-- Completion with Unsupported Request (R76). -/
  | ur (ld tag : Nat)
  /-- Malformed TLP (R152). -/
  | malformed (ld tag : Nat)
  /-- Completer Abort (R368, R490). -/
  | ca (ld tag : Nat)
  /-- Request Retry Status (R52, R76). -/
  | rrs (ld : Nat)
  /-- Completion of a configuration request (R76). -/
  | cfgCpl (ld : Nat) (val : Word)
  /-- A back-invalidate snoop: 0 BISnpCur, 1 BISnpData, 2 BISnpInv (R146); to a Borage agent the
  fabric's snoop (R367). -/
  | snoop (agent : Nat) (kind : Nat) (line : Nat)
  /-- BIConflictAck or ConflictAck (R147, R367). -/
  | conflictAck (agent line : Nat)
  /-- Retry to a requester class of a slice, with or without a credit, for an agent, a tag and a
  line (R137, R359). -/
  | retry (hs : Nat) (who : ReqClass) (credit : Bool) (agent tag line : Nat)
  /-- CreditGrant (R137). -/
  | creditGrant (hs : Nat) (who : ReqClass)
  /-- Data to a Borage agent for a request of a line: state granted 0 I, 1 S, 2 E (R360). -/
  | brgData (line a tag : Nat) (data : Line) (poison : Bool) (st : Nat)
  /-- Cmp to a Borage agent (R360). -/
  | brgCmp (line a tag : Nat) (err : Bool) (st : Nat)
  /-- AtomicRsp (R360). -/
  | brgAtomic (line a tag : Nat) (old : BitVec 128) (refused : Bool)
  /-- FwdWr to Borage (R368). -/
  | fwdWr (ld off : Nat) (mask : BitVec 64) (data : Line)
  /-- FwdRd to Borage (R368). -/
  | fwdRd (tag ld off : Nat)
  /-- RegRd or RegWr to Borage for master `m`: 0 host, 1 BMC, 2 management core (R359, R369). -/
  | regReq (tag m off : Nat) (wr : Option Word)
  /-- A link-control flit of module end `e`: LCTYPE and its payload words (R349). -/
  | ctlFlit (e lctype : Nat) (payload : List Nat)
  /-- A message flit sent again by module end `e` (R353). -/
  | msgFlit (e seq : Nat)
  /-- A flit of module end `e` as its logical lanes carry it, one word for each unit interval (R340). -/
  | flitUi (e : Nat) (ui : List (BitVec 68))
  /-- The training pattern (R344). -/
  | trainPattern (e : Nat)
  /-- A host flit resent from the replay buffer (R301). -/
  | hostFlit (l seq : Nat)
  /-- A requester read of host memory (R69). -/
  | hostRead (ld tag addr len : Nat)
  /-- A requester write of host memory; `ro` Relaxed Ordering, `ep` poisoned (R72, R325). -/
  | hostWrite (ld addr : Nat) (data : List Byte) (ro ep : Bool)
  /-- An MSI-X message (R503, R321). -/
  | msix (ld vec : Nat)
  /-- A dynamic-capacity event to a logical device: 0 Add, 1 Release request, 2 forced release
  (R113), with the extent and its Tag (R112). -/
  | dcEvent (ld kind ext : Nat) (tag : BitVec 128)
  /-- The return code of a dynamic-capacity command of the mailbox: 0 success, 1 Invalid Extent List
  (R114, R575). -/
  | dcResult (ld code : Nat)
  /-- A peer flush read answered with the page's ID register (R126, R328). -/
  | flushData (rid tag : Nat) (val : Word)
  /-- Unsupported Request to a peer (R126). -/
  | peerUr (rid tag : Nat)
  /-- An in-band interrupt to the BMC for an event source (R503). -/
  | ibi (src : Nat)
  /-- A direct command's response (R472). -/
  | sbRsp (opc status : Nat) (data : List Word)
  /-- A mailbox response: opcode, return code (0 success) and payload words (R474). -/
  | mbRsp (ld opcode code : Nat) (data : List Nat)
  /-- CXL event records returned by the mailbox (R503). -/
  | mbEvents (ld : Nat) (seqs : List Nat)
  /-- An MCTP response (R471). -/
  | mctp (code : Nat) (data : List Nat)
  /-- A register value returned to a master (R528). -/
  | regData (m : Master) (off : Nat) (val : Word)
  /-- A write refused to a management core as an access fault (R540, R541, R447). -/
  | accessFault (c : Nat)
  /-- A management-core load's data (R448). -/
  | loadData (c : Nat) (val : BitVec 64)
  /-- A reaction command on a chiplet's return lane (R486). -/
  | reaction (slot kind : Nat)
  /-- An acknowledgement on a chiplet's return lane (R487). -/
  | laneAck (slot : Nat)
  /-- An interrupt delivered to a management core at FWU.HANDOVER (R476). -/
  | coreInt (c addr : Nat)
  /-- A PMBus command at the rail's ADDR and PAGE: OPERATION 1 on, 0 off (R430, R431), 2 VOUT_COMMAND with a value in mV
  (R558). -/
  | pmbus (rail addr page op val : Nat)
  /-- A TAP instruction was executed as `ran`, with what its register captured (R569). -/
  | tap (ran : TapOp) (val : Word)
  deriving DecidableEq, Repr

/-! ### Registers, locks and the retained store -/

/-- A page's ownership lock (R541). -/
structure PageLock where
  /-- 1 host, 2 BMC, 3 management core. | R541 | free -/
  owner : Nat
  /-- Lease in units of 10 ms, 0 none. | R541 | 0 -/
  lease : Nat
  /-- When the owner last accessed the page. | R541 | - -/
  last : Nat
  deriving DecidableEq, Repr

/-- The register fields that hold values (R12, R14, R537). -/
structure Regs where
  /-- Stored or active value of a register, by window offset; absent: reset value. | R12 | empty -/
  active : Table Word := []
  /-- Value with staged H fields, by window offset. | R537 | empty -/
  staged : Table Word := []
  /-- Staged values that a GO has taken. | R538 | empty -/
  going : Table Word := []
  /-- Pages whose commit is pending. | R537 COMMIT.PENDING | empty -/
  pending : List Nat := []
  /-- Page locks, by page; absent: free. | R541 | empty -/
  locks : Table PageLock := []
  deriving DecidableEq, Repr

/-- An access held for a master until a retained write ends (R540, R458). -/
structure HeldAccess where
  /-- The master. | R540 | - -/
  m : Master
  /-- Window offset. | R540 | - -/
  off : Nat
  /-- The value written, or none for a read. | R540 | - -/
  wr : Option Word
  deriving DecidableEq, Repr

/-- A retained write in progress or queued (R458). -/
structure RetWrite where
  /-- Key of the word: a word index below 0x1_0000, or 0x1_0000 plus the window offset of a register
  whose backing word it is. | R461 | - -/
  key : Nat
  /-- The new value. | R458 | - -/
  val : Word
  /-- The requester that waits, if any. | R458 | - -/
  who : Option Master
  /-- When it was queued. | R458 | - -/
  at_ : Nat
  deriving DecidableEq, Repr

/-- The retained store (R457-R462). -/
structure Retained where
  /-- Words that differ from their factory value, by key. | R457, R461 | empty (factory values) -/
  words : Table Word := []
  /-- Wear counts, by key. | R460 | 0 -/
  wear : Table Nat := []
  /-- Writes in progress and queued, first in first out. | R458 | empty -/
  queue : List RetWrite := []
  /-- RSTORE.STAT.RESULT. | R483 | 0 -/
  result : Nat := 0
  /-- RSTORE.STAT.REFUSED. | R483 | 0 -/
  refused : Nat := 0
  /-- Keys whose words are uncorrectable. | R462 | empty -/
  ue : List Nat := []
  /-- Accesses held behind retained writes. | R540 | empty -/
  held : List HeldAccess := []
  deriving DecidableEq, Repr

/-! ### Events and the event log -/

/-- A log record (R468). -/
structure LogRec where
  /-- SEQ. | R468 | - -/
  seq : Nat
  /-- TIME. | R468 | - -/
  time : Nat
  /-- SOURCE. | R468 | - -/
  source : Nat
  /-- FAULT. | R468 | - -/
  fault : Bool
  /-- RETAINED. | R468 | - -/
  retained : Bool
  /-- DROPPED. | R468 | - -/
  dropped : Bool
  /-- NODE. | R468 | - -/
  node : Nat
  /-- SITE. | R468 | - -/
  site : Nat
  /-- CLASS. | R468 | - -/
  cls : Nat
  /-- SUBJECT. | R468 | - -/
  subject : Nat
  /-- DETAIL words. | R468 | - -/
  detail : List Nat
  /-- CODE. | R468 | - -/
  code : Nat
  /-- LD and LDV. | R468, R580 | - -/
  ld : Option Nat
  deriving DecidableEq, Repr

/-- A CXL event record of a logical device (R503). -/
structure CxlEvent where
  /-- Handle. | R503 | - -/
  handle : Nat
  /-- Log: 0 informational, 1 warning, 2 failure, 3 fatal. | R503 | - -/
  log : Nat
  /-- The log record carried. | R503 | - -/
  rec_ : LogRec
  deriving DecidableEq, Repr

/-- A record that waits for the log writer (R467), with the delivery that follows its writing
(R502). -/
structure LogWait where
  /-- The record. | R468 | - -/
  rec_ : LogRec
  /-- Routes of the deliveries that follow once the record is in the ring, at the raise and at a later enabling. | R502 | - -/
  dest : List (BitVec 14)
  deriving DecidableEq, Repr

/-- The event router and the event log writer (R467, R502). -/
structure Events where
  /-- Pending bits of the 768 sources. | R502, R510 | 0 -/
  pend : BitVec 768 := 0
  /-- Enable bits that differ from their reset value (every defined source enabled). | R504 | 0 -/
  enFlip : BitVec 768 := 0
  /-- Routes that differ from their reset value, by source. | R503, R504 | empty -/
  route : Table (BitVec 14) := []
  /-- EVT_ROUTE.INDEX, by owner page. | R508 | 0 -/
  sel : Table Nat := []
  /-- Records waiting for the log writer. | R467 | empty -/
  queue : List LogWait := []
  /-- When the writer last placed a record. | R467 | none -/
  wroteAt : Option Nat := none
  /-- The log ring, by index. | R467 | empty -/
  ring : Table LogRec := []
  /-- LOG.WPTR. | R483 | 0 -/
  wptr : Nat := 0
  /-- Sequence number of the next record. | R295 | 0 -/
  seq : Nat := 0
  /-- LOG.STAT.DROPPED. | R483 | 0 -/
  dropped : Nat := 0
  /-- The next record carries DROPPED. | R467 | false -/
  dropFlag : Bool := false
  /-- When LOG_DROPPED was last raised. | R481 | none -/
  dropAt : Option Nat := none
  /-- EVR.STAT.UNDELIVERED. | R510 | 0 -/
  undelivered : Nat := 0
  /-- In-band interrupts the BMC has not accepted. | R473 | empty -/
  ibi : List Nat := []
  /-- ALERT_N asserted. | R473 | false -/
  alert : Bool := false
  deriving DecidableEq, Repr

/-! ### The fault collector -/

/-- A fault record (R492, R507). -/
structure FaultRec where
  /-- Site of the first fault. | R507 | 0 -/
  site : Nat := 0
  /-- Class of the first fault, 1 C to 5 F. | R507 | 0 -/
  cls : Nat := 0
  /-- REACTION. | R507 | 0 -/
  reaction : Nat := 0
  /-- ACTIVE. | R507 | false -/
  active : Bool := false
  /-- SEEN. | R507 | 0 -/
  seen : BitVec 5 := 0
  /-- COUNT. | R507 | 0 -/
  count : Nat := 0
  /-- Timestamp of the first fault. | R507 | 0 -/
  time : Nat := 0
  /-- ROW. | R507 | 0 -/
  row : Nat := 0
  /-- COLUMN. | R507 | 0 -/
  col : Nat := 0
  /-- CAUSE. | R507 | 0 -/
  cause : Nat := 0
  /-- End of the quiet period. | R494 | 0 -/
  quietEnd : Nat := 0
  /-- Recoveries failed in succession. | R496 | 0 -/
  fails : Nat := 0
  /-- Held out of service. | R496 | false -/
  heldOut : Bool := false
  deriving DecidableEq, Repr

/-- An entry of the discard list (R299). -/
structure Discard where
  /-- Page of the unit it is filed against; 0xFFFF the device record, 0xFFFE bring-up. | R299 | - -/
  unit : Nat
  /-- DPA line, or extent when `ext`. | R299 | - -/
  what : Nat
  /-- The entry marks an extent of the extent map. | R299 | - -/
  ext : Bool
  deriving DecidableEq, Repr

/-- The fault collector (R486-R499). -/
structure Faults where
  /-- Fault records by page of their unit; 0xFFFF is the device record. | R492 | all inactive -/
  recs : Table FaultRec := []
  /-- FREC1-5 latched by a read of FREC0, by page. | R507 | empty -/
  latch : Table (List Word) := []
  /-- FC.LANE.FRAMES_BAD. | R509 | 0 -/
  framesBad : Nat := 0
  /-- FC.LANE.LOST. | R509 | 0 -/
  laneLost : BitVec 16 := 0
  /-- Live recovery counters of classes C, D, S, P, F (keys 1-5). | R497 | loaded from the retained words -/
  rcnt : Table Nat := []
  /-- Classes whose recovery counter changed since it was last stored. | R461 | empty -/
  rcntDirty : List Nat := []
  /-- When the recovery counters were last stored. | R461 | 0 -/
  rcntAt : Nat := 0
  /-- FC.STAT.DEV. | R509 | 0 -/
  dev : Nat := 0
  /-- Slice-level units quarantined, by page. | R489 | empty -/
  quarantined : List Nat := []
  /-- Chiplet slots under a chiplet-scope class F reaction or its recovery reset. | R490 | empty -/
  chipF : List Nat := []
  /-- When the last retained fatal record was taken. | R469 | none -/
  fatalAt : Option Nat := none
  /-- SKIPPED of the next retained fatal record. | R469 | 0 -/
  skipped : Nat := 0
  /-- Slot of the next retained fatal record. | R469 | 0 -/
  fatalSlot : Nat := 0
  /-- The discard list and the extent map. | R299 | empty -/
  discard : List Discard := []
  /-- Units to which R300 is being applied, with the number of lines. | R300 | empty -/
  applying : Table Nat := []
  /-- The recovery of the device by the resets of its chiplets runs. | R495 | false -/
  devReset : Bool := false
  /-- DISCARD_OVERFLOW raised since the list was last emptied. | R300 | false -/
  overflowed : Bool := false
  /-- FC.CMD.RESULT. | R509 | 0 -/
  result : Nat := 0
  deriving DecidableEq, Repr

/-- The counters of a page (R511-R516). -/
structure PmcBank where
  /-- The 48-bit counters. | R511 | 0 -/
  cnt : Table Nat := []
  /-- OVF. | R522 | 0 -/
  ovf : BitVec 8 := 0
  /-- FROZEN. | R522 | false -/
  frozen : Bool := false
  /-- EVSEL of each counter. | R522 | 0 -/
  evsel : Table Word := []
  /-- Latched high bits of each counter. | R516 | 0 -/
  hi : Table Nat := []
  /-- When the cycle counts were last brought up to date. | R513 | 0 -/
  at_ : Nat := 0
  /-- The value of each counter's occupancy code in the last cycle. | R513 | 0 -/
  was : Table Nat := []
  deriving DecidableEq, Repr

/-- A trace record (R520). -/
structure TraceRec where
  /-- TIME. | R520 | - -/
  time : Nat
  /-- ADDR. | R520 | - -/
  addr : Nat
  /-- KIND. | R520 | - -/
  kind : Nat
  /-- FLAGS. | R520 | - -/
  flags : Nat
  /-- PORT. | R520 | - -/
  port : Nat
  /-- HS. | R520 | - -/
  hs : Nat
  /-- AGENT. | R520 | - -/
  agent : Nat
  /-- CHAN. | R520 | - -/
  chan : Nat
  /-- D1 to D10 in fabric cycles; none: not passed. | R519, R520 | - -/
  d : List (Option Nat) := []
  /-- D11 in fabric cycles. | R520 | - -/
  d11 : Nat
  deriving DecidableEq, Repr

/-- The counter banks and the request tracer (R511-R523). -/
structure Observe where
  /-- Counter banks, by page. | R511 | empty -/
  pmc : Table PmcBank := []
  /-- LFSR of each tagging point: links 0-15, Borage ends 16-19, data mover 20. | R518 | free (seeded at cold start) -/
  lfsr : Table (BitVec 32) := []
  /-- Records buffered by the tracer. | R521 | empty -/
  buf : List TraceRec := []
  /-- The ring, by index. | R521 | empty -/
  ring : Table TraceRec := []
  /-- When the tracer last wrote a record. | R521 | none -/
  wroteAt : Option Nat := none
  /-- TRC.WPTR.INDEX. | R523 | 0 -/
  wptr : Nat := 0
  /-- TRC.WPTR.WRAPS. | R523 | 0 -/
  wraps : Nat := 0
  /-- TRC.STAT.DROPPED. | R523 | 0 -/
  dropped : Nat := 0
  /-- TRC.STAT.FULL. | R523 | false -/
  full : Bool := false
  /-- The next record carries FLAGS bit 6. | R521 | false -/
  dropFlag : Bool := false
  /-- TRACE_RING_FULL raised since REC_EN was set. | R521 | false -/
  fullRaised : Bool := false
  deriving DecidableEq, Repr

/-! ### Host ports -/

/-- A host port group Hn (R47-R52, R80-R84). -/
structure PortGroup where
  /-- PERST_N asserted. | R52 | true (DESIGN CHOICE: the platform holds PERST_N at reset) -/
  perst : Bool := true
  /-- Its REFCLK is lost: nothing stands in for it, and its loop cannot lock. | R50, R51 | false -/
  refLost : Bool := false
  /-- When PERST_N was last released. | R52 | 0 -/
  perstRel : Nat := 0
  /-- HPGS.HRDY.BUSY: the pin is held busy. | R87 | true -/
  busy : Bool := true
  /-- When the present busy period began. | R81 | 0 -/
  busySince : Nat := 0
  /-- When the pin was last released, after a pulse or a busy period. | R82 | 0 -/
  released : Nat := 0
  /-- Start of the attention pulse in progress. | R82 | none -/
  pulse : Option Nat := none
  /-- HPGS.HRDY.PULSE_PEND. | R87 | false -/
  pulsePend : Bool := false
  /-- This group's HRDY_N has been released at the end of bring-up. | R427 | false -/
  up : Bool := false
  /-- Lanes with a host margining command in progress. | R65 | empty -/
  margining : List Nat := []
  /-- LMRG of each lane. | R484 | 0 -/
  lmrg : Table Word := []
  /-- When Dill last scanned each lane. | R466 | never -/
  scanAt : Table Nat := []
  deriving DecidableEq, Repr
/-- The state of a link (R60). -/
inductive LinkState
  | down | l0 | l0p | recovery | l1 | l2
  deriving DecidableEq, Repr

/-- The flit mode of a link (R53, R89). -/
inductive FlitMode
  | nonFlit | flit68 | flit256
  deriving DecidableEq, Repr

/-- One host link Hn.k (R60, R66, R67, R89). -/
structure Link where
  /-- Link state. | R60 | down -/
  st : LinkState := .down
  /-- Current rate, encoding of R88. | R89 | 0 -/
  rate : Nat := 0
  /-- Trained width, encoding of R88. | R89 | 0 -/
  width : Nat := 0
  /-- Width in use. | R89 | 0 -/
  active : Nat := 0
  /-- Flit mode. | R53 | nonFlit -/
  flit : FlitMode := .nonFlit
  /-- CXL.mem negotiated. | R89 | false -/
  cxl : Bool := false
  /-- Back-invalidation negotiated. | R89 | false -/
  bi : Bool := false
  /-- Multi-logical-device layout. | R89 | false -/
  mld : Bool := false
  /-- L0p usable by both ends. | R53 | false -/
  l0pOk : Bool := false
  /-- CXL negotiation held for an agent-loss sweep. | R67 | false -/
  held : Bool := false
  /-- What the partner offered in the training that is held. | R67 | none -/
  heldOffer : Option PartnerOffer := none
  /-- What the partner offered in the last training. | R53 | nothing -/
  offer : PartnerOffer := { rate := 0, width := 0, cxl := false, bi := false, mld := false, l0p := false, flit256 := false }
  /-- When the link last carried a transaction. | R61 | 0 -/
  lastUse : Nat := 0
  /-- When the width in use last changed. | R62 | 0 -/
  widthAt : Nat := 0
  /-- The device's own pending L0p width request. | R63 | none -/
  ownReq : Option Nat := none
  /-- Deadline of the agent sweep in progress on the link's agents. | R66 | none -/
  sweep : Option Nat := none
  /-- The host has disabled the link. | R77 | false -/
  disabled : Bool := false
  /-- ASPM L1 enabled in the Link Control register. | R61 | false (DESIGN CHOICE) -/
  aspm : Bool := false
  /-- Correctable errors counted in the present second. | R85 | 0 -/
  corr : Nat := 0
  /-- When the present second of the correctable count began. | R85 | 0 -/
  corrFrom : Nat := 0
  /-- A hot reset has acted and the link has not returned to L0. | R77 | false -/
  hot : Bool := false
  /-- When configuration space answers normally. | R52, R77 | 0 -/
  cfgReadyAt : Nat := 0
  /-- How many flits or TLPs the device has sent since training. | R301 | 0 -/
  txNext : Nat := 0
  /-- The first of them that the transmit replay buffer holds. | R301 | 0 -/
  txAcked : Nat := 0
  deriving DecidableEq, Repr

/-- One HDM decoder (R93). -/
structure HdmDecoder where
  /-- HPA base. | R93 | 0 -/
  base : Nat := 0
  /-- Size in bytes. | R93 | 0 -/
  size : Nat := 0
  /-- DPA Skip. | R93 | 0 -/
  skip : Nat := 0
  /-- Interleave ways encoding. | R93 | 0 -/
  ways : Nat := 0
  /-- Interleave granularity encoding. | R93 | 0 -/
  gran : Nat := 0
  /-- Committed. | R93 | false -/
  committed : Bool := false
  /-- Error Not Committed. | R93 | false -/
  err : Bool := false
  /-- Locked on commit. | R93 | false -/
  locked : Bool := false
  deriving DecidableEq, Repr

/-- One outstanding read of a requester (R70, R71, R73). -/
structure ReqRead where
  /-- Its tag. | R71 | - -/
  tag : Nat
  /-- Host address. | R69 | - -/
  addr : Nat
  /-- Length in bytes. | R69 | - -/
  len : Nat
  /-- Bytes still missing. | R70 | - -/
  left : Nat
  /-- Queue whose descriptor issued it. | R73 | - -/
  queue : Nat
  /-- Ring index of that descriptor. | R73 | - -/
  ix : Nat
  /-- When it was issued. | R73 | - -/
  at_ : Nat
  deriving DecidableEq, Repr

/-- One logical device's functions on its link (R58, R77, R78, R93). -/
structure LogicalDev where
  /-- Its four HDM decoders, by index. | R93 | none committed -/
  dec : List (Nat × HdmDecoder) := []
  /-- When the function-level reset in progress began. | R78 | none -/
  flr : Option Nat := none
  /-- Max payload size in bytes set by the host. | R69 | 512 (the spec's default read size; DESIGN CHOICE for payload) -/
  mps : Nat := 512
  /-- Max read request size in bytes set by the host. | R69 | 512 -/
  mrrs : Nat := 512
  /-- Tag bits of the negotiated tag mode, 8, 10 or 14. | R71 | 8 (DESIGN CHOICE) -/
  tagBits : Nat := 8
  /-- Outstanding non-posted requests. | R71 | none -/
  reads : List ReqRead := []
  /-- Next requester tag. | R71 | 0 (DESIGN CHOICE) -/
  nextTag : Nat := 0
  /-- MSI-X enabled. | R57 | false (DESIGN CHOICE) -/
  msixOn : Bool := false
  /-- MSI-X vectors masked. | R57 | 0 (DESIGN CHOICE) -/
  msixMask : BitVec 64 := 0
  /-- MSI-X pending bits. | R77 | 0 -/
  msixPend : BitVec 64 := 0
  /-- The configuration registers written by the host, by dword offset. | R76, R77 | empty -/
  cfg : List (Nat × BitVec 32) := []
  /-- Event interrupt policy set through the mailbox. | R474 | 0 (DESIGN CHOICE) -/
  evtPolicy : BitVec 32 := 0
  /-- Offset added to timestamps in returned event records. | R474 | 0 -/
  tsOffset : BitVec 64 := 0
  /-- Handles of CXL event records not cleared, oldest first. | R503 | empty -/
  evtLog : List CxlEvent := []
  /-- Handle of the next CXL event record. | R503 | 1 (DESIGN CHOICE) -/
  nextHandle : Nat := 1
  deriving DecidableEq, Repr

/-- The host ports (R47-R91). -/
structure HostPorts where
  /-- The port groups H0-H3. | R47 | as PortGroup -/
  grp : Table PortGroup := []
  /-- The links Hn.k, key 4n + k. | R47 | as Link -/
  link : Table Link := []
  /-- The logical devices 0-63. | R58 | as LogicalDev -/
  ld : Table LogicalDev := []
  deriving DecidableEq, Repr

/-! ### The address map -/

/-- An interleave set entry (R96). -/
structure SetEntry where
  /-- WAYS. | R96 | 0 -/
  ways : Nat := 0
  /-- GRAIN. | R96 | 0 -/
  grain : Nat := 0
  /-- XOR. | R96 | false -/
  xor : Bool := false
  /-- MIRROR. | R96 | false -/
  mirror : Bool := false
  /-- VALID. | R96 | false -/
  valid : Bool := false
  /-- NEAR. | R96 | false -/
  near : Bool := false
  /-- BIN. | R96 | false -/
  bin : Bool := false
  /-- MEMBER. | R96 | 0 -/
  member : BitVec 64 := 0
  /-- BASE in MiB. | R96 | 0 -/
  base : Nat := 0
  /-- LEN in MiB. | R96 | 0 -/
  len : Nat := 0
  deriving DecidableEq, Repr

/-- A domain entry (R105). -/
structure DomainEntry where
  /-- VALID. | R105 | false -/
  valid : Bool := false
  /-- COH. | R105 | false -/
  coh : Bool := false
  /-- MIRROR. | R105 | false -/
  mirror : Bool := false
  /-- TIER_EN. | R105 | false -/
  tierEn : Bool := false
  /-- OVC. | R105 | 0 -/
  ovc : Nat := 0
  /-- EPOCH. | R105, R108 | 0 -/
  epoch : BitVec 16 := 0
  /-- NEAR_SETS. | R105 | 0 -/
  nearSets : BitVec 16 := 0
  /-- BIN_SETS. | R105 | 0 -/
  binSets : BitVec 16 := 0
  /-- BACKED, kept in quarter-frames. | R105, R118 | 0 -/
  backedQ : Nat := 0
  /-- RSV. | R105 | 0 -/
  rsv : Nat := 0
  /-- EXTENTS. | R105 | 0 -/
  extents : Nat := 0
  deriving DecidableEq, Repr

/-- The state of an extent (R110). -/
inductive ExtState
  | free | offered | granted | recall | drain | erase | pinned
  deriving DecidableEq, Repr

/-- An extent entry (R110). -/
structure ExtentEntry where
  /-- STATE. | R110 | free -/
  st : ExtState := .free
  /-- SHARED. | R110 | false -/
  shared : Bool := false
  /-- OWNER. | R110 | 0 -/
  owner : Nat := 0
  /-- DOMAIN. | R110 | 0 -/
  domain : Nat := 0
  /-- META_SET. | R110 | 0 -/
  metaSet : Nat := 0
  /-- GEN. | R110, R112 | 0 -/
  gen : BitVec 16 := 0
  /-- LDMASK. | R110 | 0 -/
  ldmask : BitVec 64 := 0
  /-- META_FRAME. | R110 | 0 -/
  metaFrame : Nat := 0
  /-- RSV_FRAMES. | R110 | 0 -/
  rsv : Nat := 0
  /-- BACKED, kept in quarter-frames. | R110, R118 | 0 -/
  backedQ : Nat := 0
  /-- The acceptance mask of an offered extent. | R114 | 0 -/
  accept : BitVec 64 := 0
  /-- Holders that have rejected the offer. | R113 | 0 -/
  rejected : BitVec 64 := 0
  /-- The extent was offered from PINNED. | R113 | false -/
  fromPinned : Bool := false
  /-- When the present state was entered. | R113, R115 | 0 -/
  since : Nat := 0
  deriving DecidableEq, Repr

/-- A region entry (R109). -/
structure RegionEntry where
  /-- BASE. | R109 | 0 -/
  base : Nat := 0
  /-- COUNT. | R109 | 0 -/
  count : Nat := 0
  deriving DecidableEq, Repr

/-- A staged entry of the address map (R128). -/
structure StagedEntry where
  /-- Table: 0 interleave sets, 1 domains, 3 regions. | R128 | - -/
  table : Nat
  /-- Index. | R128 | - -/
  index : Nat
  /-- The eight words of the image. | R128 | - -/
  img : List Word
  /-- A GO has taken it. | R128, R538 | - -/
  going : Bool
  deriving DecidableEq, Repr

/-- The address map (R92-R131). -/
structure AddressMap where
  /-- Interleave sets 0-15. | R96, R116 | every word 0 -/
  sets : Table SetEntry := []
  /-- Domains 0-4095. | R105, R116 | every word 0 -/
  domains : Table DomainEntry := []
  /-- Extents 0-262143. | R110, R116 | every word 0 -/
  extents : Table ExtentEntry := []
  /-- Regions, index 8 x LD + r. | R109, R116 | every word 0 -/
  regions : Table RegionEntry := []
  /-- Staged entries in the order staged. | R128 | empty -/
  staged : List StagedEntry := []
  /-- Frames in use, by set: rising, disjoint (first frame, count) intervals. | R118, R574 | empty -/
  used : Table (List (Nat × Nat)) := []
  /-- AMAP.FLOST, kept in quarter-frames. | R104, R129 | 0 -/
  lost : Nat := 0
  /-- POOL.NODE.JOINED: the pool node ID has been written at a join. | R124, R130 | false -/
  joined : Bool := false
  /-- AMAP.TCMD.RESULT. | R128 | 0 -/
  result : Nat := 0
  /-- The free pool has been below LOWWM since CAP_LOW was raised: pressure is in force. | R121, R224 | false -/
  low : Bool := false
  /-- The free pool has been below CRITWM since CAP_CRIT was raised; recalls go on. | R121 | false -/
  crit : Bool := false
  /-- CAP_CRIT is armed to be raised again. | R121 | true -/
  critArmed : Bool := true
  /-- FTOTAL when it was first known, which sets the defaults of RESERVE, LOWWM and CRITWM. | R120 | 0 -/
  ftotal0 : Nat := 0
  /-- When the last extent was recalled under pressure. | R121 | none -/
  recallAt : Option Nat := none
  /-- Flush reads of peers that wait for their aperture's writes: aperture, requester ID, tag. | R328 | none -/
  flushReads : List (Nat × Nat × Nat) := []
  deriving DecidableEq, Repr

/-! ### Pages, lines and the counter tree -/

/-- The state of a page (R101, R214). -/
inductive PageState
  | unbacked | near | compressed | rawInBin | migrating | poisoned
  deriving DecidableEq, Repr

/-- A page map entry (R101). -/
structure PageEntry where
  /-- STATE. | R101 | unbacked -/
  st : PageState := .unbacked
  /-- TOUCH. | R101, R219 | false -/
  touch : Bool := false
  /-- HEPOCH. | R101, R219 | 0 -/
  hepoch : BitVec 8 := 0
  /-- DOMAIN. | R101 | 0 -/
  domain : Nat := 0
  /-- SET. | R101 | 0 -/
  set : Nat := 0
  /-- CRC. | R101, R236 | 0 -/
  crc : Word := 0
  /-- LOC. | R101 | 0 -/
  loc : Nat := 0
  /-- BINSIZE. | R101 | 0 -/
  binsize : Nat := 0
  /-- PLEN of parcels 0-3. | R101 | empty -/
  plen : List Nat := []
  deriving DecidableEq, Repr

/-- The kind of a migration (R215, R216). -/
inductive MigKind
  | promotion | demotion | nearMove | binMove
  deriving DecidableEq, Repr

/-- An entry of a home slice's migration table (R216). -/
structure Migration where
  /-- Page map entry image from before the migration. | R216 | - -/
  image : PageEntry
  /-- Kind. | R216 | - -/
  kind : MigKind
  /-- Set of the destination; of a demotion, none yet. | R216 | - -/
  dset : Nat
  /-- Frame or BINADDR of the destination. | R216 | - -/
  dloc : Nat
  /-- A write or atomic triggered the promotion. | R223 | - -/
  byWrite : Bool
  /-- When MLOCK was taken. | R216 | - -/
  at_ : Nat
  /-- The page's leaf block was lost meanwhile: the loss applies once the migration has ended. | R281 | false -/
  leafLost : Bool := false
  /-- Upper nodes over the page that were lost meanwhile, by level and index: they apply then too. | R281 | empty -/
  nodesLost : List (Nat × Nat) := []
  deriving DecidableEq, Repr

/-- What triggers a page's promotion (R222): a write or atomic, counted reads, or a promote-domain command. -/
inductive Trigger
  | write | read | command
  deriving DecidableEq, Repr

/-- What the tag of a stored line was computed over beside its bytes (R262). -/
structure TagBind where
  /-- Kind: 0 data line, 1 bin line, 2 leaf block, 3 upper node, 4 page map line. | R262 | - -/
  kind : Nat
  /-- DPA line; 64 x page + bin line index; key of a block; page map line. | R262 | - -/
  addr : Nat
  /-- Line counter; MAJOR of the page; counter of the block; GEN of the extent. | R262, R265 | - -/
  ctr : Nat
  /-- Domain. | R262 | - -/
  domain : Nat
  /-- Domain epoch. | R262 | - -/
  epoch : Nat
  /-- Salt of the domain's key. | R256, R259 | - -/
  salt : BitVec 64
  /-- Tag key. | R255, R262 | - -/
  tagKey : BitVec 256
  deriving DecidableEq, Repr

/-- What a media line holds (R177, R178, R278). -/
inductive Stored
  /-- A line with what its mix and tag were computed over; Stored.image gives the bytes (R177, R260, R262). -/
  | line (data : Line) (tag : TagBind)
  /-- The poison pattern (R278). -/
  | poison
  /-- Uncorrectable by the symbol code (R178). -/
  | bad
  deriving DecidableEq, Repr

/-- A leaf block or upper node (R265). -/
structure TreeBlock where
  /-- MAJOR. | R265, R266 | - -/
  major : Nat
  /-- MINOR of each slot that is not 0. | R265 | - -/
  minor : Table Nat
  deriving DecidableEq, Repr

/-- A copy of a leaf block or upper node in DRAM, with what its tag was computed over (R262, R267). -/
structure NodeCopy where
  /-- The 64 bytes. | R265 | - -/
  block : TreeBlock
  /-- Its tag. | R262 | - -/
  tag : TagBind
  deriving DecidableEq, Repr

/-- A frame or bin in the overwrite queue (R259). -/
structure Overwrite where
  /-- Domain whose reseed queued it. | R259, R285 | - -/
  domain : Nat
  /-- Set. | R259 | - -/
  set : Nat
  /-- First KiB. | R259 | - -/
  loc : Nat
  /-- KiB: 4 for a frame. | R259 | - -/
  kib : Nat
  deriving DecidableEq, Repr

/-- An entry of a re-tag table (R273). -/
structure Retag where
  /-- Key of the block. | R273 | - -/
  key : Nat
  /-- Old MAJOR and minors. | R273 | - -/
  old : TreeBlock
  /-- Done mask. | R273 | - -/
  done : BitVec 64
  deriving DecidableEq, Repr

/-- A line of the metadata cache (R158, R159). -/
structure McLine where
  /-- Key: level x 2^40 + index; level 0 page map line. | R158 | - -/
  key : Nat
  /-- Dirty. | R159 | - -/
  dirty : Bool
  /-- When it was last used, as a rank. | R159 | - -/
  use : Nat
  /-- The ways that hold it: one, or two where it is dirty. | R158, R159 | - -/
  ways : List Nat
  deriving DecidableEq, Repr

/-- The pages, the stored lines and the counter trees. -/
structure Media where
  /-- Page map entries, by page; absent: unbacked in its extent's domain. | R100 | unbacked -/
  pages : Table PageEntry := []
  /-- Migration tables, by page. | R216 | empty -/
  mig : Table Migration := []
  /-- DRAM lines, key channel x 2^40 + offset / 64; absent: nothing stored since cold start. | R176, R178 | empty -/
  lines : Table Stored := []
  /-- Lines of a page that became near and are not yet filled with zeros. | R103 | empty -/
  zeroFill : Table (BitVec 64) := []
  /-- Chunks initialised, with the time at which their blocks were created. | R266, R276 | none -/
  chunks : Table Nat := []
  /-- Requests stalled on chunks since cold reset (LAZY.STAT.STALLS), by Lovage. | R287 | 0 -/
  stalls : Table Nat := []
  /-- Leaf blocks and upper nodes that differ from what they were created with, key level x 2^40 +
  index x 32 + slice. | R264 | none created -/
  blocks : Table TreeBlock := []
  /-- DRAM copies of blocks, 2 x key + copy - 1; absent: as the block was created. | R262, R267 | none written -/
  copies : Table NodeCopy := []
  /-- Tags of the page map lines written since their chunk was initialised, by page / 4. | R262 | none written -/
  mapTags : Table TagBind := []
  /-- DRAM copies of blocks that fail their checks: 2 x key + copy - 1. | R270, R281 | empty -/
  badCopy : List Nat := []
  /-- Leaf blocks and upper nodes on their way from a metadata cache to DRAM. | R159 | empty -/
  leaving : List Nat := []
  /-- Metadata lines that one channel of a mirrored pair has not taken, by the even channel's media key. | R199, R200 | empty -/
  stale : List Nat := []
  /-- Copies of metadata lines of mirrored sets that are uncorrectable on one channel, by media key. | R179, R191 | empty -/
  badMeta : List Nat := []
  /-- Copies of metadata lines of mirrored sets that a resilver has written with the poison pattern, by media key. | R199, R278 | empty -/
  metaPoison : List Nat := []
  /-- Page map lines in DRAM that fail their checks, by page / 4 of a slice's page map. | R104 | empty -/
  badMap : List Nat := []
  /-- ROOT entries changed since their L5 node was created, key 32 x slice + i. | R264 | none -/
  root : Table Nat := []
  /-- Slices whose root array is being rebuilt, with the start. | R282 | empty -/
  rebuild : Table Nat := []
  /-- ROOT.STAT.REJECTED, by slice. | R286 | 0 -/
  rejected : Table Nat := []
  /-- ROOT.STAT.REBUILDS, by slice. | R286 | 0 -/
  rebuilds : Table Nat := []
  /-- Re-tag tables, by slice. | R273 | empty -/
  retag : Table (List Retag) := []
  /-- Metadata cache sets, key 2048 x slice + set. | R158 | empty -/
  mcache : Table (List McLine) := []
  /-- Replacement tree of a metadata cache set, 15 bits, node n in bit n. | R158 | 0 -/
  mcTree : Table Nat := []
  /-- Rank of the next use of a metadata cache line. | R159 | 0 -/
  mcUse : Nat := 0
  /-- MCACHE.STAT.UE_COUNT, by slice. | R168 | 0 -/
  mcUe : Table Nat := []
  /-- PROT.STAT.TAG_FAIL, by slice. | R286 | 0 -/
  tagFail : Table Nat := []
  /-- PROT.STAT.WR_UNVER, by slice. | R286 | 0 -/
  wrUnver : Table Nat := []
  /-- CTW.STAT.REPAIRED, by slice. | R286 | 0 -/
  repaired : Table Nat := []
  /-- CTW.STAT.LOST, by slice. | R286 | 0 -/
  nodesLost : Table Nat := []
  /-- Holders of L3, L4 and L5 nodes, key level x 2^40 + index: the extent, and when the node was
  created. | R266, R269 | none -/
  holder : Table (Nat × Nat) := []
  /-- Frames and bins in the overwrite queue. | R259 | empty -/
  overwrite : List Overwrite := []
  /-- When the rate of the overwrite admits the next write. | R259 | 0 -/
  overwriteAt : Nat := 0
  /-- When the background rate admits the next chunk. | R277 | 0 -/
  chunkAt : Nat := 0
  /-- KEYS.STAT.READY. | R287 | false -/
  keysReady : Bool := false
  /-- KEYS.STAT.RESEEDS. | R287 | 0 -/
  reseeds : Nat := 0
  /-- Tag key, drawn at the last cold start. | R255 | 0 -/
  tagKey : BitVec 256 := 0
  /-- The draw of the last cold start, from which each domain has its salt. | R255 | 0 -/
  drawAt : Nat := 0
  /-- Salts drawn at reseeds since the cold start, by domain. | R255, R259 | none -/
  salts : Table (BitVec 64) := []
  /-- Key tables of the Lovage, key 4096 x Lovage + domain; absent: as at the cold start. | R258 | none written -/
  keys : Table (BitVec 256) := []
  deriving DecidableEq, Repr

/-! ### Home slices -/

/-- The state of a snoop filter entry (R140, R141). -/
inductive SfState
  | s | e | b
  deriving DecidableEq, Repr

/-- A snoop filter entry that is not empty (R140). -/
structure SfEntry where
  /-- TAG with SET, as the line number DPA[45:6]. | R139, R140 | - -/
  line : Nat
  /-- STATE. | R140 | - -/
  st : SfState
  /-- ID0-ID2, as many as CNT. | R140 | - -/
  ids : List Nat
  /-- AGE. | R140 | - -/
  age : Nat
  deriving DecidableEq, Repr

/-- Who sent a request to a home slice (R135). -/
inductive Requester
  /-- CXL.mem of a logical device's host. -/
  | host (ld : Nat)
  /-- CXL.io to a memory aperture. -/
  | io (ld : Nat)
  /-- A Borage agent, by its ID 64-79. -/
  | borage (a : Nat)
  /-- A descriptor of a data mover queue: 64 x its ring index + the queue. -/
  | dm (q : Nat)
  /-- A landing aperture. -/
  | pool (a : Nat)
  /-- A direct job of an engine. -/
  | job (e : Nat)
  /-- A Lovage's own unit. -/
  | internal
  deriving DecidableEq, Repr

/-- What a request asks of its line (R142). -/
inductive ReqKind
  /-- A caching or non-caching read. -/
  | read (mv : MetaVal)
  /-- MemRdData. -/
  | readData
  /-- A CXL.io read of bytes of the line. -/
  | ioRead (off len : Nat)
  /-- A full-line write. -/
  | write (mv : MetaVal) (data : Line) (poison : Bool)
  /-- A partial write. -/
  | writePtl (mv : MetaVal) (mask : BitVec 64) (data : Line) (poison : Bool)
  /-- MemInv. -/
  | inv (mv : MetaVal)
  /-- MemClnEvct. -/
  | clnEvct
  /-- An atomic at a byte offset of the line. -/
  | atomic (op : AtomicKind) (size : Nat) (off : Nat) (a b : BitVec 128)
  /-- The back-invalidation of a line by a unit that reads or writes it afterwards. -/
  | flush
  /-- An eviction of a snoop filter entry. -/
  | evict (ids : List Nat)
  /-- The back-invalidation of one agent's copies (R113). -/
  | leave (agent : Nat)
  deriving DecidableEq, Repr

/-- A tracker's kind (R134, R137). -/
inductive TrackerKind
  | shared | reserved | writeback | evictBuf | internal
  deriving DecidableEq, Repr

/-- A request that waits in its line's queue (R134). -/
structure QReq where
  /-- Number in admission order. | R134 | - -/
  id : Nat
  /-- Line DPA[45:6]. | R134 | - -/
  line : Nat
  /-- Requester. | R135 | - -/
  who : Requester
  /-- Kind. | R142 | - -/
  kind : ReqKind
  /-- Tag of the requester. | R142 | - -/
  tag : Nat
  /-- Tracker it occupies. | R134 | - -/
  tr : TrackerKind
  /-- When it was admitted. | R307 | - -/
  at_ : Nat
  /-- Agents whose answers it waits for. | R142 | - -/
  snoops : List Nat
  /-- When its snoops were sent. | R148 | - -/
  snoopAt : Nat
  /-- Its snoops have been sent. | R142 | - -/
  sent : Bool
  /-- The agent that answered a BISnpData by keeping a shared copy. | R142 | - -/
  kept : Option Nat
  /-- The entry was E when the snoops were sent. | R142 | - -/
  wasE : Bool
  /-- The agents of that E entry. | R142, R150 | - -/
  owner : List Nat
  /-- The request is guarded. | R307 | - -/
  guarded : Bool
  /-- The response has to be discarded (link lost). | R66 | - -/
  drop : Bool
  /-- The request tracer has tagged it. | R518 | - -/
  tagged : Bool
  /-- It missed in the metadata cache. | R520 | - -/
  miss : Bool
  /-- It was answered Retry before. | R520 | - -/
  again : Bool
  /-- Its page's entry and leaf could not be fetched at its admission. | R190, R283 | - -/
  unfetched : Bool := false
  /-- When it arrived: point 0. | R519 | - -/
  came : Nat := 0
  /-- When it reached the head of its line's queue: point 5. | R307, R519 | - -/
  headAt : Option Nat := none
  /-- When every snoop that it sent had been answered: point 6. | R519 | - -/
  clearAt : Option Nat := none
  /-- The channel of its first DRAM command: points 8 and 9. | R519, R520 | - -/
  chan : Option Nat := none
  deriving DecidableEq, Repr

/-- A request answered Retry, to be resent in order (R138). -/
structure Retried where
  /-- Slice. | R138 | - -/
  hs : Nat
  /-- Requester class. | R138 | - -/
  cls : ReqClass
  /-- The request, without its number. | R138 | - -/
  req : QReq
  /-- It holds a credit of the slice. | R137 | - -/
  credit : Bool
  deriving DecidableEq, Repr

/-- A line returned to a unit of the block that waits for more of its data. -/
structure Fetched where
  /-- The unit. | R135 | - -/
  who : Requester
  /-- Line DPA[45:6]. | R135 | - -/
  line : Nat
  /-- Its data; none: poison. | R142 | - -/
  data : Option Line
  deriving DecidableEq, Repr

/-- A line of the atomic line buffer (R155). -/
structure AtomLine where
  /-- Line DPA[45:6]. | R155 | - -/
  line : Nat
  /-- Data. | R155 | - -/
  data : Line
  /-- When the last atomic to it ran. | R155 | - -/
  last : Nat
  deriving DecidableEq, Repr

/-- The requests that reached a slice in its last clock cycle (R135). -/
structure PortCycle where
  /-- The cycle, by its time. | R135 | 0 -/
  at_ : Nat := 0
  /-- Line and port of each request, the last in its line's queue first. | R135 | empty -/
  placed : List (Nat × Nat) := []
  deriving DecidableEq, Repr

/-- The home slices (R132-R169). -/
structure HomeSlices where
  /-- Snoop filter sets, key 16384 x slice + set. | R140 | every way empty -/
  sf : Table (List SfEntry) := []
  /-- Sets marked broad, same key. | R145 | empty -/
  broad : List Nat := []
  /-- The lost-agent mask, device-wide. | R148, R166 | 0 -/
  lost : BitVec 80 := 0
  /-- Agents lost by a snoop timeout. | R148 | 0 -/
  timedOut : BitVec 80 := 0
  /-- Agents lost by a snoop timeout whose first request raised AGENT_LOST. | R148 | 0 -/
  lostSeen : BitVec 80 := 0
  /-- Deadline of the sweep of each lost agent. | R66 | empty -/
  sweep : Table Nat := []
  /-- Requests in per-line queues, in admission order. | R134 | empty -/
  queue : List QReq := []
  /-- Number of the next request admitted. | R134 | 0 -/
  nextId : Nat := 0
  /-- AGE of ports 1-9, key 16 x slice + port. | R135 | 0 -/
  portAge : Table Nat := []
  /-- The last cycle in which requests reached each slice. | R135 | empty -/
  cycle : Table PortCycle := []
  /-- Requests answered Retry, in the order first sent. | R138 | empty -/
  retried : List Retried := []
  /-- Lines that arrived for units that wait for more of their data. | R135 | empty -/
  fetched : List Fetched := []
  /-- Atomic line buffers, by slice. | R155 | empty -/
  atoms : Table (List AtomLine) := []
  /-- When each slice last raised GUARD_SERVED. | R307 | none -/
  guardAt : Table Nat := []
  deriving DecidableEq, Repr

/-! ### DDR5 channels -/

/-- The service state of a channel (R201, R208). -/
inductive ChanState
  | disabled | discovering | training | active | draining | drained | poweredDown | quarantined
  deriving DecidableEq, Repr

/-- A DIMM slot (R213). -/
structure Dimm where
  /-- What its SPD states; none: no hub answered. | R170, R213 | none -/
  spd : Option Spd := none
  /-- STATE: 0 absent, 1 accepted, 2 refused, 3 powered down. | R213 | 0 -/
  st : Nat := 0
  /-- CAUSE. | R213 | 0 -/
  cause : Nat := 0
  /-- Temperature in degrees C. | R213 | 0 -/
  temp : BitVec 8 := 0
  /-- Thermal level. | R205 | 0 -/
  level : Nat := 0
  /-- Cap on activates to the DIMM, in thousandths of the channel's peak rate. | R205 | 1000 -/
  cap : Nat := 1000
  /-- Its PMIC outputs are on. | R170, R171, R203 | false -/
  pmic : Bool := false
  deriving DecidableEq, Repr

/-- A row repair record (R197). -/
structure RepairRec where
  /-- Logical rank. | R197 | - -/
  rank : Nat
  /-- Subchannel. | R197 | - -/
  sub : Nat
  /-- Device. | R197 | - -/
  dev : Nat
  /-- Bank group. | R197 | - -/
  bg : Nat
  /-- Bank. | R197 | - -/
  ba : Nat
  /-- Row. | R197 | - -/
  row : Nat
  deriving DecidableEq, Repr

/-- What a channel's sparing and repair unit is doing (R192-R199). -/
inductive RepairJob
  | sparing (rank : Nat) | soft (r : RepairRec) | hard
  deriving DecidableEq, Repr

/-- A copy that walks a range at up to 4 GB/s (R192, R199). -/
structure Copy where
  /-- Start of its present run, in ns. | R192, R199 | 0 -/
  since : Nat := 0
  /-- Bytes walked before it. | R206 | 0 -/
  done : Nat := 0
  /-- Paused across a frequency change. | R206 | false -/
  paused : Bool := false
  /-- Where the lines that stand at the destination end. | R192, R199 | 0 -/
  copied : Nat := 0
  deriving DecidableEq, Repr

/-- A command of the refresh unit: all-bank refresh of rank and subchannel, same-bank refresh management, directed refresh
management of a row (R182, R186, R187). -/
inductive RefCmd
  | ref (k : Nat) | rfm (bank : Nat) | drfm (bank row : Nat)
  deriving DecidableEq, Repr

/-- The state of a mirrored pair (R199). -/
inductive MirState
  | off | sync | evenOnly | oddOnly | resilverOdd | resilverEven | poisoned
  deriving DecidableEq, Repr

/-- A DDR5 channel (R170-R213). -/
structure Channel where
  /-- DDRC.STAT.STATE. | R208 | disabled -/
  st : ChanState := .disabled
  /-- DDRC.STAT.SPEED. | R208 | 0 -/
  speed : Nat := 0
  /-- Speeds removed in this negotiation, and a failure at the present one. | R170 | empty -/
  removed : List Nat := []
  /-- Training failed once at the present speed. | R170 | false -/
  failedOnce : Bool := false
  /-- DDRC.STAT.SET: set B active. | R208 | false -/
  setB : Bool := false
  /-- DDRC.STAT.REFUSED. | R208 | false -/
  refused : Bool := false
  /-- DDRC.STAT.CAUSE. | R208 | 0 -/
  cause : Nat := 0
  /-- DDRC.STAT.TRAIN_STEP. | R208 | 0 -/
  step : Nat := 0
  /-- When the present discovery or training began. | R174 | 0 -/
  stepAt : Nat := 0
  /-- Training in progress for a return from service. | R174, R204 | false -/
  returning : Bool := false
  /-- The channel no longer holds HRDY_N. | R427 | false -/
  late : Bool := false
  /-- TS5.VALID of sets A and B. | R210 | false, false -/
  validA : Bool := false
  /-- TS5.VALID of set B. | R210 | false -/
  validB : Bool := false
  /-- The two DIMM slots. | R213 | absent -/
  dimm0 : Dimm := {}
  /-- DIMM slot 1. | R213 | absent -/
  dimm1 : Dimm := {}
  /-- DDRC.CAP.USABLE in MiB. | R208 | 0 -/
  usable : Nat := 0
  /-- DDRC.CAP.LRANKS. | R208 | 0 -/
  lranks : Nat := 0
  /-- Row bits of the accepted DIMMs. | R176 | 0 -/
  rb : Nat := 0
  /-- DDRC.FCTL.BUSY. | R209 | false -/
  fctlBusy : Bool := false
  /-- A frequency change has been accepted and is deferred behind another stall. | R308 | false -/
  fctlOwed : Bool := false
  /-- DDRC.FCTL.RESULT. | R209 | 0 -/
  fctlResult : Nat := 0
  /-- DDRC.SVC.RESULT. | R209 | 0 -/
  svcResult : Nat := 0
  /-- A drain found no room and is paused. | R202 | false -/
  stalled : Bool := false
  /-- A quarantined channel is being drained: its mirrored pages move from the partners. | R201 | false -/
  leaving : Bool := false
  /-- The PHY's outputs are high impedance with termination off. | R203 | false -/
  phyOff : Bool := false
  /-- The I3C pins are high impedance. | R203 | false -/
  i3cOff : Bool := false
  /-- Refresh debt, key 2 x rank + subchannel. | R183 | 0 -/
  debt : Table Nat := []
  /-- Next due time of each rank and subchannel, in ns. | R182 | 0 -/
  due : Table Nat := []
  /-- Ranks and subchannels whose rate is doubled since their last due time. | R185, R211 | 0 -/
  fast : BitVec 64 := 0
  /-- When a request last went to each rank and subchannel. | R184 | 0 -/
  reqAt : Table Nat := []
  /-- When each rank and subchannel last repaid a refresh. | R184 | 0 -/
  repaidAt : Table Nat := []
  /-- Commands that the refresh unit has issued, newest first. | R182-R188 | empty -/
  issued : List RefCmd := []
  /-- DDRR.STAT.DEBT_HWM. | R211 | 0 -/
  debtHwm : Nat := 0
  /-- Ranks whose mode register 4 asks for the doubled rate. | R185 | 0 -/
  mr4 : BitVec 32 := 0
  /-- DDRR.STAT.RFM. | R211 | 0 -/
  rfm : Nat := 0
  /-- Row sampled for directed refresh management in each bank, key 32 x (2 x rank + sub) + 4 x bg + ba. | R186 | empty -/
  sampled : Table Nat := []
  /-- Rolling activate count of each bank, same key. | R187 | 0 -/
  acts : Table Nat := []
  /-- Shift registers that sample activates, by subchannel. | R186 | 0 -/
  rowLfsr : Table (BitVec 32) := []
  /-- When the rolling counts last moved a step. | R181 | 0 -/
  ceAt : Nat := 0
  /-- Corrected errors of the hours in the window, newest first, by rank. | R181 | empty -/
  ce : Table (List Nat) := []
  /-- Ranks whose rolling count has reached CE_THR and not yet fallen below it. | R181 | 0 -/
  ceOver : BitVec 32 := 0
  /-- Ranks for which ECC_CORR_LIMIT has been raised. | R181 | 0 -/
  ceTotal : Nat := 0
  /-- DDRE.CNT.UE. | R211 | 0 -/
  ueTotal : Nat := 0
  /-- Lines of a row with corrected errors in one device: row key, (line, time). | R195 | empty -/
  rowCe : Table (List (Nat × Nat)) := []
  /-- Next line of the patrol scrub. | R191 | 0 -/
  scrub : Nat := 0
  /-- When the present pass began. | R191 | 0 -/
  scrubFrom : Nat := 0
  /-- DDRS.STAT.PASSES. | R212 | 0 -/
  passes : Nat := 0
  /-- DDRP.STAT.SPARED_RANK and SPARE_USED. | R194, R212 | none -/
  spared : Option Nat := none
  /-- The operation in progress. | R192-R198 | none -/
  job : Option RepairJob := none
  /-- Operations queued behind it. | R181, R206 | empty -/
  jobQueue : List RepairJob := []
  /-- The walk of a sparing copy. | R192 | not begun -/
  copy : Copy := {}
  /-- The walk of the pair's resilver (even channels). | R199 | not begun -/
  silver : Copy := {}
  /-- DDRP.CMD.RESULT. | R212 | 0 -/
  ddrpResult : Nat := 0
  /-- Banks whose soft repair has been used. | R196 | empty -/
  repaired : List RepairRec := []
  /-- Rows retired. | R196 | empty -/
  retired : List RepairRec := []
  /-- DDRP.MIR.STATE (even channels). | R199, R212 | off -/
  mir : MirState := .off
  /-- When the pair last left SYNC (even channels). | R199, R200 | 0 -/
  soloAt : Nat := 0
  /-- Times of the CA alerts of the last second. | R175 | empty -/
  alerts : List Nat := []
  /-- A quick retrain is owed after the alert's replay. | R175, R308 | false -/
  retrainOwed : Bool := false
  /-- A quick retrain is in progress. | R175 | false -/
  retraining : Bool := false
  /-- When DQS drift was last tracked. | R175 | 0 -/
  dqsAt : Nat := 0
  /-- The critical action has been taken since a DIMM reached the critical level. | R205 | false -/
  hotDone : Bool := false
  /-- When the DIMM sensors were last read. | R205 | 0 -/
  thermAt : Nat := 0
  /-- When mode register 4 was last read. | R185 | 0 -/
  mr4At : Nat := 0
  /-- The ranks are in self-refresh. | R205, R303, R490 | false -/
  selfRef : Bool := false
  /-- Its DIMMs train again in a recovery reset of its chiplet; the state that it goes back to. | R435 | none -/
  rerun : Option ChanState := none
  /-- They have trained again in the recovery reset that runs. | R435 | false -/
  rerunDone : Bool := false
  deriving DecidableEq, Repr

/-! ### Tiers and engines -/

/-- A bin group (R227). -/
structure BinGroup where
  /-- Owning cluster, 2 x Lovage + cluster. | R228 | - -/
  unit : Nat
  /-- Set. | R227 | - -/
  set : Nat
  /-- Class in KiB, 1-3. | R227 | - -/
  cls : Nat
  /-- Slots used. | R227 | - -/
  used : BitVec 12
  deriving DecidableEq, Repr

/-- A direct job of an engine (R242). -/
structure Job where
  /-- OP. | R251 | - -/
  op : Nat
  /-- A CANCEL is waiting for the next parcel boundary. | R251 | - -/
  cancel : Bool
  deriving DecidableEq, Repr

/-- A compression engine (R240-R243, R251). -/
structure Engine where
  /-- CFG.AVAIL. | R251 | true -/
  avail : Bool := true
  /-- CFG.VERIFY_LEFT. | R251 | 0 -/
  verifyLeft : Nat := 0
  /-- Job running. | R242 | none -/
  job : Option Job := none
  /-- JCTL.STATUS. | R251 | 0 -/
  status : Nat := 0
  /-- JCONS. | R252 | 0 -/
  cons : Nat := 0
  /-- JPROD. | R252 | 0 -/
  prod : Nat := 0
  /-- When the engine's fault was found. | R243 | none -/
  faultAt : Option Nat := none
  /-- Failed its bring-up vectors: it stays out of service. | R241 | false -/
  failed : Bool := false
  /-- When its last decode, promotion, demotion or mover job ended. | R398 | 0 -/
  usedAt : Nat := 0
  /-- Since when work has waited for it to wake. | R400 | none -/
  workAt : Option Nat := none
  deriving DecidableEq, Repr

/-- The tier manager, the compression engines and the bins (R214-R252). -/
structure Tier where
  /-- TIER.EPOCH.CURRENT. | R218, R250 | 0 -/
  epoch : BitVec 8 := 0
  /-- When the present epoch began. | R218 | 0 -/
  epochAt : Nat := 0
  /-- Pages queued for demotion, oldest first. | R220, R224 | empty -/
  demote : List Nat := []
  /-- Promotions triggered and not started: page and triggers. | R222 | empty -/
  promote : List (Nat × List Trigger) := []
  /-- Promotion filters, key 512 x slice + set: (page, count), most recent first. | R221 | empty -/
  filter : Table (List (Nat × Nat)) := []
  /-- Parcel buffers, by cluster: 4 x page + parcel and the bytes decoded, most recent first. | R239 | empty -/
  parcels : Table (List (Nat × List Byte)) := []
  /-- TIER.CNT0-6. | R250 | 0 -/
  cnt : Table Nat := []
  /-- Pages visited in this pass of the sweeper. | R220 | empty -/
  swept : List Nat := []
  /-- When the latest pass of the sweeper began. | R220 | none -/
  sweptAt : Option Nat := none
  /-- When the rate admits the next demotion or compaction move. | R224 | 0 -/
  rateAt : Nat := 0
  /-- Domain of the promote-domain command in progress. | R250 | none -/
  domCmd : Option Nat := none
  /-- TIER.CMD.RESULT. | R250 | 0 -/
  cmdResult : Nat := 0
  /-- Epoch in which BIN_SPACE_LOW was last raised. | R228 | none -/
  binLow : Option Nat := none
  /-- Bin groups, key 2^32 x set + group. | R227 | empty -/
  groups : Table BinGroup := []
  /-- Pages chosen for compaction moves. | R229 | empty -/
  compact : List Nat := []
  /-- The sixteen engines, 4 x Lovage + 2 x cluster + e. | R240 | in service -/
  eng : Table Engine := []
  deriving DecidableEq, Repr

/-! ### The data mover -/

/-- A descriptor that runs (R316). -/
structure Desc where
  /-- Ring index. | R319 | - -/
  ix : Nat
  /-- The 64 bytes of the descriptor. | R316 | - -/
  raw : BitVec 512
  /-- Its operation has ended, with this record pending. | R319 | - -/
  ended : Bool
  /-- STATUS of the record. | R320 | - -/
  status : Nat
  /-- FLAGS. | R319 | - -/
  flags : Nat
  /-- CRC. | R319 | - -/
  crc : Word
  /-- CONS. | R319 | - -/
  cons : Nat
  /-- PROD. | R319 | - -/
  prod : Nat
  /-- TOKEN. | R319 | - -/
  token : Nat
  /-- OFFSET. | R319 | - -/
  offset : Nat
  /-- COUNT. | R319 | - -/
  count : Nat
  /-- Host bytes read so far, by address; none: poisoned. | R70 | - -/
  buf : Table (Option Byte)
  /-- Host ranges still to be read: address and length. | R69 | - -/
  want : List (Nat × Nat)
  /-- The peer flush read is outstanding. | R328 | - -/
  flushing : Bool
  /-- The counts of its chain entries are on their way. | R323 | - -/
  counted : Bool := false
  /-- Its record is on its way. | R319 | - -/
  recorded : Bool := false
  deriving DecidableEq, Repr

/-- The fetch of the descriptor at HEAD of a host ring (R313). -/
inductive RingFetch
  /-- Its read is outstanding: the bytes received so far by address, none for a poisoned one. -/
  | waiting (buf : Table (Option Byte))
  /-- What the read returned: the 64 bytes, none where one of them was poisoned. -/
  | got (raw : Option (BitVec 512))
  deriving DecidableEq, Repr

/-- A data mover queue (R312-R336). -/
structure DmQueue where
  /-- STAT.STATE: 0 disabled, 1 running, 2 stopped. | R336 | 0 -/
  st : Nat := 0
  /-- STAT.CAUSE. | R336 | 0 -/
  cause : Nat := 0
  /-- Descriptors fetched whose records are not written, oldest first. | R315 | empty -/
  run : List Desc := []
  /-- When an abort was written. | R330 | none -/
  abort : Option Nat := none
  /-- Bytes moved in this round of the weighted round robin. | R315 | 0 -/
  round : Nat := 0
  /-- The fetch from a host ring that is in progress. | R313 | none -/
  ring : Option RingFetch := none
  deriving DecidableEq, Repr

/-! ### The fabric and Borage -/

/-- The state of a module end (R343). -/
inductive DlnkState
  | off | train | param | credit | active | change | lreset | retired | failed
  deriving DecidableEq, Repr

/-- A Dunas module end of an Ozquenko chiplet (R337-R357, R378-R380). Keys 0-18 are the Sorrel
ends in R34 order, 19-24 the Chervil ends, 25-32 the Lovage ends, 33 the Dill end (R393). -/
structure ModuleEnd where
  /-- STAT.STATE. | R343 | off -/
  st : DlnkState := .off
  /-- STAT.RATE. | R379 | 0 -/
  rate : Nat := 0
  /-- STAT.WIDTH. | R379 | 0 -/
  width : Nat := 0
  /-- DPHY.MAP. | R380 | 0 -/
  map : Word := 0
  /-- STAT.LRESETS. | R379 | 0 -/
  lresets : Nat := 0
  /-- CNT.CRC_ERR. | R379 | 0 -/
  crcErr : Nat := 0
  /-- CNT.REPLAYS. | R379 | 0 -/
  replays : Nat := 0
  /-- CTRL.RESULT. | R378 | 0 -/
  result : Nat := 0
  /-- STAT.REPLAY_WAIT. | R352 | false -/
  replayWait : Bool := false
  /-- A number the receiver checks flits against after REPLAY_START. | R352 | none -/
  from_ : Option Nat := none
  /-- NEXT, the sequence number expected. | R352 | 0 -/
  next_ : Nat := 0
  /-- Sequence number of the next message flit sent. | R350 | 0 -/
  txSeq : Nat := 0
  /-- The replay buffer: flits sent and not acknowledged, oldest first: number, when last sent, and the flit.
  | R350, R353 | empty -/
  unacked : List (Nat × Nat × BitVec 512) := []
  /-- The messages of these flits, each with the number of its last flit, oldest first. | R25, R350 | empty -/
  inFlight : List (Nat × Msg) := []
  /-- Replays in a row with no advance of ACKSEQ. | R353 | 0 -/
  inRow : Nat := 0
  /-- Message flits accepted and not acknowledged. | R351 | 0 -/
  rxUnacked : Nat := 0
  /-- When the oldest of them was accepted. | R351 | 0 -/
  rxOldestAt : Nat := 0
  /-- Data slots that the message in progress still needs; 64: of an opcode that R360 does not list, any
  number. | R348 | 0 -/
  rxNeed : Nat := 0
  /-- Class of that message. | R354 | 0 -/
  rxCls : Nat := 0
  /-- Its header slot. | R359 | 0 -/
  rxHdr : Nat := 0
  /-- Its data slots so far. | R361 | empty -/
  rxData : List (List Byte) := []
  /-- The tags of register accesses that this end has sent, each with when. | R369 | empty -/
  regAt : Table Nat := []
  /-- Messages that wait for credits of their class or for the link, oldest first. | R354 | empty -/
  sendq : List Msg := []
  /-- INIT_CREDIT has been sent. | R343 | false -/
  creditSent : Bool := false
  /-- INIT_CREDIT has been received. | R343 | false -/
  creditRcvd : Bool := false
  /-- Advertised credits of the peer, in the order of ACK_CREDIT. | R354, R357 | empty -/
  adv : List Nat := []
  /-- Cumulative credits consumed. | R355 | empty -/
  consumed : List Nat := []
  /-- Cumulative credits returned. | R355 | empty -/
  returned : List Nat := []
  /-- Cumulative credits this receiver has returned. | R354 | empty -/
  myReturned : List Nat := []
  /-- Classes with a message waiting for credits, with the start of the wait. | R356 | empty -/
  waiting : Table Nat := []
  /-- When the last LRESET or CHANGE ended. | R302, R344 | none -/
  lastReset : Option Nat := none
  /-- When the last LRESET ended. | R302 | none -/
  lastLreset : Option Nat := none
  /-- The end's own change, requested or waiting. | R342, R344 | none -/
  ownReq : Option LinkChange := none
  /-- The change in progress. | R343 | none -/
  change : Option LinkChange := none
  /-- A commanded change waits for 1.5 ms to pass. | R344 | false -/
  waitChange : Bool := false
  /-- The rate that failed last in this training. | R341 | none -/
  failedRate : Option Nat := none
  /-- The highest rate code that this training has not removed. | R341 | 3 -/
  rateTop : Nat := 3
  /-- In a link reset, the end has retrained and sent its parameters and credits. | R344 | false -/
  retrained : Bool := false
  /-- In a link reset, the peer's parameters have come. | R344 | false -/
  paramRcvd : Bool := false
  /-- CTRL.BUSY: a command is in progress. | R378 | false -/
  busy : Bool := false
  /-- STAT.PEER_SLOT. | R379 | 0 -/
  peer : Nat := 0
  /-- The highest rate code that the peer has offered. | R341, R349 | 3 -/
  offer : Nat := 3
  /-- The minor protocol version in use. | R341 | 0 -/
  minor : Nat := 0
  /-- Data lanes that failed in the last training. | R339 | 0 -/
  fails : Nat := 0
  /-- The first data lane in use. | R339 | 0 -/
  base : Nat := 0
  /-- A change that the end withdrew for the other's and still needs. | R342 | none -/
  owed : Option LinkChange := none
  deriving DecidableEq, Repr

/-- A request forwarded to Borage and not yet answered (R368, R369). -/
structure FwdReq where
  /-- Its TAG. | R359 | - -/
  tag : Nat
  /-- The master of a register access, or none for a forwarded read. | R369 | - -/
  m : Option Master
  /-- Logical device of a forwarded read. | R368 | - -/
  ld : Nat
  /-- Host tag of the read that it is a piece of. | R368 | - -/
  htag : Nat
  /-- Byte offset. | R368 | - -/
  off : Nat
  /-- Bytes asked for. | R368 | - -/
  len : Nat
  /-- The value of a register write. | R369 | - -/
  wr : Option Word
  /-- When it was sent. | R368, R369 | - -/
  at_ : Nat
  /-- The data of an answered piece, until its read is complete. | R368 | - -/
  got : Option Line
  deriving DecidableEq, Repr

/-- A piece of a BAR0 access (R368). -/
structure FwdPiece where
  /-- Logical device. | R368 | - -/
  ld : Nat
  /-- Byte offset. | R368 | - -/
  off : Nat
  /-- Bytes of a read; 0 for a write. | R368 | - -/
  len : Nat
  /-- Host tag of a read. | R368 | - -/
  htag : Nat
  /-- Byte mask of a write. | R368 | - -/
  mask : BitVec 64
  /-- Data of a write. | R368 | - -/
  data : Line
  /-- When it arrived. | R368 | - -/
  at_ : Nat
  deriving DecidableEq, Repr

/-- The Borage site (R362-R373, R381). -/
structure BorageSite where
  /-- The site holds the filler die. | R3 | false (from the board) -/
  filler : Bool := false
  /-- BRG.STAT.PRESENT. | R362 | false -/
  present : Bool := false
  /-- BRG.STAT.STATE: 0 reset, 1 training, 2 serving, 3 recovery. | R381 | 0 -/
  st : Nat := 0
  /-- BRG.IDENT. | R381 | 0 -/
  ident : Word := 0
  /-- The revision of INIT_PARAM, for which BRG.IDENT has no bits. | R362 | 0 -/
  rev : Nat := 0
  /-- BRG_RST_N asserted. | R372 | true -/
  rst : Bool := true
  /-- When BRG_RST_N was released. | R372 | 0 -/
  rstRel : Nat := 0
  /-- BRG_FLT_N seen asserted. | R371 | false -/
  fltN : Bool := false
  /-- A reset of a chiplet that was present is under way: it has not been seen since | R375 | false -/
  recovers : Bool := false
  /-- BRG.DRIGHTS of each domain. | R363, R381 | 0 -/
  rights : Table Word := []
  /-- Forwarded reads and register accesses not answered. | R368, R369 | empty -/
  fwd : List FwdReq := []
  /-- Forwarded writes and reads waiting for credits, oldest first. | R368 | empty -/
  fwdWait : List FwdPiece := []
  /-- Next tag of a forwarded request. | R359 | 0 -/
  nextTag : Nat := 0
  /-- Borage fault frames discarded. | R371 | 0 -/
  badFrames : Nat := 0
  /-- The sweep that holds Borage's modules in CREDIT. | R373 | false -/
  held : Bool := false
  deriving DecidableEq, Repr

/-! ### Clocks and power domains -/

/-- A crystal (R383, R387). -/
structure Crystal where
  /-- Qualified and within limits. | R405 | false -/
  ok : Bool := false
  /-- When it last came within limits. | R389 | none -/
  since : Option Nat := none
  /-- When its oscillator started or its monitor last flagged it. | R383 | 0 -/
  from_ : Nat := 0
  deriving DecidableEq, Repr

/-- A loop (R384, R388). -/
structure ClkLoop where
  /-- Locked. | R388 | false -/
  locked : Bool := false
  /-- Coasting. | R388 | false -/
  coast : Bool := false
  /-- It lost lock while its reference is good, since this time. | R391 | none -/
  lostAt : Option Nat := none
  /-- When its output last began to move. | R388 | 0 -/
  slewAt : Nat := 0
  /-- Its output at that moment, in parts per million of its set frequency. | R388 | 1000000 -/
  from_ : Nat := 1000000
  deriving DecidableEq, Repr

/-- The clock root, the gating and the power controller (R382-R407). -/
structure Clocks where
  /-- XTAL_A. | R383 | not qualified -/
  xa : Crystal := {}
  /-- XTAL_B. | R383 | not qualified -/
  xb : Crystal := {}
  /-- REF is taken from XTAL_B. | R405 | false -/
  refB : Bool := false
  /-- REF is taken from a crystal. | R383 | false -/
  refOn : Bool := false
  /-- Loops by index of CLK.COAST. | R384 | unlocked -/
  loops : Table ClkLoop := []
  /-- CLK.MON. | R405 | 0 -/
  mon : BitVec 11 := 0
  /-- AUX_DISC. | R405 | false -/
  disc : Bool := false
  /-- Gating domains whose clock is stopped. | R394, R406 | 0 -/
  gated : BitVec 384 := 0
  /-- Gating domains without power. | R398, R406 | 0 -/
  down : BitVec 384 := 0
  /-- Sub-domains powering up, by first gating domain, with the start. | R400 | empty -/
  waking : Table Nat := []
  /-- When a sub-domain that goes down for idleness last woke, was accessed or ended its work, by first gating domain.
  | R398, R400 | empty -/
  wokeAt : Table Nat := []
  /-- PWR.STAT.WAKES. | R407 | 0 -/
  wakes : Nat := 0
  /-- Domains with two sources that run from the AUX clock. | R395 | all of them -/
  onAux : List Nat := [366, 367, 368, 369, 372, 373, 374, 375, 376, 377, 378]
  /-- DSEL.RESULT. | R407 | 0 -/
  dselResult : Nat := 0
  /-- The gating domain whose source changes, and when its gate opens again. | R396 | none -/
  dselEnd : Option (Nat × Nat) := none
  /-- Sub-domains that have been quarantined, by first gating domain. | R400, R489 | empty -/
  quar : List Nat := []
  /-- When each WAKE_IN pin was last recognised. | R402 | never -/
  wakeInAt : Table Nat := []
  /-- When the slow oscillator was last checked. | R387 | 0 -/
  slowAt : Nat := 0
  /-- The slow oscillator was out of range at its last check. | R387 | false -/
  slowBad : Bool := false
  /-- A WAKE_IN recognition with exit waits for the AUX-only entry to end. | R403 | false -/
  wakeExit : Bool := false
  /-- PWR.WAKE.SEEN bits. | R407 | 0 -/
  seen : BitVec 2 := 0
  /-- Register accesses that wait for a sub-domain to wake. | R400 | empty -/
  held : List HeldAccess := []
  deriving DecidableEq, Repr

/-! ### Power entry -/

/-- The state of the 12 V path (R422). -/
inductive HscState
  | idle | coolWait | insDelay | ramp | on | retryWait | latched | short | stopped
  deriving DecidableEq, Repr

/-- Hyssop: the power path and the transistor model (R408-R425). -/
structure HotSwap where
  /-- HSC.STAT.STATE. | R422 | idle -/
  st : HscState := .idle
  /-- Last VIN known, in mV. | R411 | 0 -/
  vin : Nat := 0
  /-- HSC.STAT.VIN_OK. | R411 | false -/
  vinOk : Bool := false
  /-- When VIN entered the window. | R412 | 0 -/
  vinSince : Nat := 0
  /-- The insertion delay counts from here at the earliest. | R412 | 0 -/
  insFrom : Nat := 0
  /-- When the ramp started. | R413 | 0 -/
  rampAt : Nat := 0
  /-- When the gate was last turned on. | R419 | 0 -/
  gateOn : Nat := 0
  /-- When the gate was last pulled. | R418 | 0 -/
  gateOff : Nat := 0
  /-- When the current entered limit. | R414 | none -/
  limit : Option Nat := none
  /-- Time in limit since the gate was turned on, before the present stretch. | R419 | 0 -/
  inLimit : Nat := 0
  /-- Breaker timer in ns, before the present stretch. | R414 | 0 -/
  breaker : Nat := 0
  /-- HSC.STAT.RETRIES. | R419 | 0 -/
  retries : Nat := 0
  /-- HSC.STAT.CAUSE. | R441 | 0 -/
  cause : Nat := 0
  /-- End of the present cooling or retry wait. | R419, R420 | 0 -/
  waitEnd : Nat := 0
  /-- DISC_N asserted. | R418 | false -/
  disc : Bool := false
  /-- Internal power-good. | R423 | false -/
  pg : Bool := false
  /-- Ticks out of limit in the qualification. | R423 | 0 -/
  pgTicks : Nat := 0
  /-- PG_OUT. | R425 | false -/
  pgOut : Bool := false
  /-- When PG_OUT last changed. | R425 | none -/
  pgOutAt : Option Nat := none
  /-- HSC.CMD.RESULT. | R441 | 0 -/
  result : Nat := 0
  /-- A trip record write was refused. | R421 | false -/
  refused : Bool := false
  /-- Transistor junction estimate in degrees C. | R416 | TAMB -/
  tj : Rat := 55
  /-- Transistor case estimate. | R416 | TAMB -/
  tc : Rat := 55
  /-- FET.STAT.TPEAK. | R442 | 0 -/
  tpeak : Rat := 0
  /-- The transistor model has run since AUX reset. | R416 | false -/
  modelled : Bool := false
  /-- FET.STAT.NTC_FAULT. | R417 | false -/
  ntcFault : Bool := false
  /-- HSC_FET_WARN has been raised and the temperature has not fallen below. | R438 | false -/
  warned : Bool := false
  /-- The serial link to Dill is lost. | R488 | false -/
  linkLost : Bool := false
  /-- Last VOUT known, in mV. | R418, R423 | 0 -/
  vout : Nat := 0
  /-- When power-good was last evaluated. | R423 | 0 -/
  tickAt : Nat := 0
  /-- When the transistor model last ran. | R416 | 0 -/
  fetAt : Nat := 0
  /-- When the thermistor was last found not valid. | R417 | 0 -/
  ntcAt : Nat := 0
  deriving DecidableEq, Repr

/-! ### Start-up, resets and pins -/

/-- Dill's sequencer (R426-R436). -/
structure Boot where
  /-- RST.STAT.STATE: 0 AUX-only, 1 booting, 2 bring-up, 3 serving, 4 warm reset, 5 cold reset, 6 boot failed. | R443 | 1 -/
  st : Nat := 1
  /-- RST.STAT.STEP. | R443 | 1 -/
  step : Nat := 1
  /-- RST.STAT.IMAGE: image B booted. | R443 | false -/
  imageB : Bool := false
  /-- SVN of the running image. | R478 | 0 -/
  svn : Nat := 0
  /-- RST.CTRL.RESULT. | R443 | 0 -/
  result : Nat := 0
  /-- RST.CAUSE.KIND. | R443 | 0 -/
  kind : Nat := 0
  /-- RST.CAUSE.SRC. | R443 | 0 -/
  src : Nat := 0
  /-- SEQ.TIME.T_PG. | R443 | 0 -/
  tPg : Nat := 0
  /-- SEQ.TIME.T_HRDY. | R443 | 0 -/
  tHrdy : Nat := 0
  /-- When internal power-good was asserted. | R427 | 0 -/
  pgAt : Nat := 0
  /-- The board and the flash. | R426 | nothing fitted (DESIGN CHOICE) -/
  board : Board := { spd := [], filler := true, suffix := 0, serial := 0, slotA := none, slotB := none, cfgImage := none }
  /-- AUX is above its threshold. | R410, R434 | true -/
  aux : Bool := true
  /-- When the last AUX reset ended. | R383, R421 | 0 -/
  auxAt : Nat := 0
  /-- Main power is up: the rails are good. | R529 | false -/
  main : Bool := false
  /-- Rails enabled. | R430 | empty -/
  railOn : List Nat := []
  /-- Rails good. | R430 | empty -/
  railGood : List Nat := []
  /-- Rails still to fall in the power-down, highest first. | R431 | empty -/
  railDown : List Nat := []
  /-- When the previous rail became good, or internal power-good. | R430 | 0 -/
  railAt : Nat := 0
  /-- Set point of VDD_CORE in mV. | R558 | 0 (not set) -/
  vset : Nat := 0
  /-- When that set point was last sent. | R558 | 0 -/
  vsetAt : Nat := 0
  /-- Rail failures since the start. | R431 | 0 -/
  railFails : Nat := 0
  /-- Rails of the board's chain that are on at a power-down, highest first. | R430, R431 | empty -/
  boardRails : List Nat := []
  /-- The board's chain turns its rails off. | R431 | false -/
  boardFall : Bool := false
  /-- When the last rail fell after a failure. | R431 | none -/
  railsOffAt : Option Nat := none
  /-- The AUX-only entry was commanded. | R432 | false -/
  commanded : Bool := false
  /-- The AUX-only state is that of R496 and only a command ends it. | R496 | false -/
  heldOut : Bool := false
  /-- The entry to the AUX-only state is in progress. | R432 | false -/
  entering : Bool := false
  /-- A command to leave waits for the entry to end. | R433 | false -/
  leaveReq : Bool := false
  /-- HRDY_N has been released at the end of this bring-up. | R427 | false -/
  released : Bool := false
  /-- Step 9 has begun. | R426 | false -/
  trained : Bool := false
  /-- Records of the retained-configuration image still to apply. | R456 | none -/
  cfg : Option (List CfgRecord) := none
  /-- Index of the next record. | R456 | 0 -/
  cfgIx : Nat := 0
  /-- Key of the retained write that the applier's record waits for. | R456, R540 | none -/
  cfgKey : Option Nat := none
  /-- When the present record began. | R456 | 0 -/
  cfgAt : Nat := 0
  /-- The COMMIT record's GO has been written. | R456 | false -/
  cfgGo : Bool := false
  /-- Borage has taken a COMMIT record's GO, and its PENDING is to be read. | R456 | false -/
  cfgPend : Bool := false
  /-- No image has verified at a cold reset. | R428, R455 | false -/
  failed : Bool := false
  deriving DecidableEq, Repr

/-! ### Management -/

/-- A line held by a cache (R448). -/
structure CacheLine where
  /-- Line address / 64. | R448 | - -/
  line : Nat
  /-- Set. | R448 | - -/
  set : Nat
  /-- Way. | R448 | - -/
  way : Nat
  /-- Data, as bytes. | R448 | - -/
  data : List Byte
  /-- Rank of last use. | R448 | - -/
  use : Nat
  deriving DecidableEq, Repr

/-- A cache of a management core with its victim cache (R448, R451). -/
structure Cache where
  /-- Enabled. | R451, R482 | false -/
  en : Bool := false
  /-- Lines. | R448 | undefined at AUX reset (R451); listed empty, with `stale` true -/
  lines : List CacheLine := []
  /-- Victim lines, oldest first. | R448 | empty -/
  victim : List CacheLine := []
  /-- The contents are undefined: never invalidated since AUX reset. | R451 | true -/
  stale : Bool := true
  /-- Sets and ways invalidated since the contents became undefined. | R451 | empty -/
  cleared : List Nat := []
  /-- The victim cache has been invalidated since then. | R451 | false -/
  vclear : Bool := false
  deriving DecidableEq, Repr

/-- A write in a core's write buffer (R449). -/
structure BufWrite where
  /-- Address. | R449 | - -/
  addr : Nat
  /-- Bytes. | R449 | - -/
  data : List Byte
  /-- The retained store performs it: it stays until that ends. | R458 | false -/
  sent : Bool := false
  deriving DecidableEq, Repr

/-- A cache clean that waits for the write buffer (R450). -/
structure CleanWait where
  /-- Line / 64 whose writes it waits for; none: every write. | R450 | - -/
  line : Option Nat
  /-- Then invalidate this line, set or way of the cache. | R450 | - -/
  inv : Option (CacheSel × MaintBy)
  /-- The master whose write of CMAINT ends with it. | R450 | - -/
  by_ : Master
  deriving DecidableEq, Repr

/-- A management core (R445-R451). -/
structure MCore where
  /-- CCTL.ROLE: active. | R446, R482 | core 0 true, core 1 false -/
  active : Bool := false
  /-- CCTL.HALTED. | R482 | core 0 false, core 1 true -/
  halted : Bool := true
  /-- Instruction cache. | R448 | as Cache -/
  ic : Cache := {}
  /-- Data cache. | R448 | as Cache -/
  dc : Cache := {}
  /-- Write buffer, oldest first. | R449 | empty -/
  wbuf : List BufWrite := []
  /-- A store that found the buffer full: the core waits for its place. | R449 | none -/
  stall : Option BufWrite := none
  /-- Cleans waiting for the buffer. | R450 | empty -/
  cleans : List CleanWait := []
  /-- Address at which the core last started or was interrupted. | R455, R476 | 0 -/
  entry : Nat := 0
  /-- Rank of the next use of a cache line. | R448 | 0 -/
  use : Nat := 0
  deriving DecidableEq, Repr

/-- The two cores and Dill's SRAM (R445-R452). -/
structure Cores where
  /-- Core 0. | R446 | active, running -/
  c0 : MCore := { active := true, halted := false }
  /-- Core 1. | R446 | standby, halted -/
  c1 : MCore := {}
  /-- SRAM bytes other than 0, by address in the core's map. | R447 | 0 (DESIGN CHOICE) -/
  sram : Table Byte := []
  deriving DecidableEq, Repr

/-- A message for the active management core: a mailbox command of a logical device or an MCTP message (R471, R474). -/
inductive CoreMsg
  /-- MB_IDENTIFY (R474). -/
  | mbIdentify (ld : Fin 64)
  /-- MB_BG_OP_STATUS (R474). -/
  | mbBgOpStatus (ld : Fin 64)
  /-- MB_GET_EVT_INT_POLICY (R474). -/
  | mbGetEvtIntPolicy (ld : Fin 64)
  /-- MB_SET_EVT_INT_POLICY (R474). -/
  | mbSetEvtIntPolicy (ld : Fin 64) (policy : BitVec 32)
  /-- MB_GET_EVENT_RECORDS (R503). -/
  | mbGetEventRecords (ld : Fin 64) (log : Fin 4)
  /-- MB_CLEAR_EVENT_RECORDS (R474). -/
  | mbClearEventRecords (ld : Fin 64) (log : Fin 4) (handles : List (BitVec 16))
  /-- MB_GET_TIMESTAMP (R474). -/
  | mbGetTimestamp (ld : Fin 64)
  /-- MB_SET_TIMESTAMP (R474). -/
  | mbSetTimestamp (ld : Fin 64) (ts : BitVec 64)
  /-- MB_GET_SUPPORTED_LOGS (R474). -/
  | mbGetSupportedLogs (ld : Fin 64)
  /-- MB_GET_LOG (R474). -/
  | mbGetLog (ld : Fin 64) (off len : Nat)
  /-- MB_GET_FW_INFO (R474). -/
  | mbGetFwInfo (ld : Fin 64)
  /-- MB_TRANSFER_FW (R475). -/
  | mbTransferFw (ld : Fin 64) (slot : BitVec 2) (last : Bool) (img : FwImage)
  /-- MB_ACTIVATE_FW (R474). -/
  | mbActivateFw (ld : Fin 64) (slot : BitVec 2) (online : Bool)
  /-- MB_IDENTIFY_MEMDEV (R474). -/
  | mbIdentifyMemdev (ld : Fin 64)
  /-- MB_GET_HEALTH_INFO (R474). -/
  | mbGetHealthInfo (ld : Fin 64)
  /-- MB_GET_POISON_LIST (R474). -/
  | mbGetPoisonList (ld : Fin 64) (dpa : BitVec 46) (lines : Nat)
  /-- MB_GET_DC_CONFIG (R474). -/
  | mbGetDcConfig (ld : Fin 64)
  /-- MB_GET_DC_EXTENT_LIST (R474). -/
  | mbGetDcExtentList (ld : Fin 64)
  /-- ENERGY_READ (R474). -/
  | energyRead (ld : Fin 64)
  /-- MARGIN_READ (R474). -/
  | marginRead (ld : Fin 64)
  /-- DEVICE_LOG_READ (R474). -/
  | deviceLogRead (ld : Fin 64) (ix : BitVec 16)
  /-- REG_ACCESS (R474). -/
  | regAccess (ld : Fin 64) (off : BitVec 28) (wr : Option Word)
  /-- ADD_DC_RESPONSE (R112-R114). -/
  | addDcResponse (ld : Fin 64) (ext : BitVec 18) (gen : BitVec 16) (accept : Bool)
  /-- RELEASE_DC (R112, R575). -/
  | releaseDc (ld : Fin 64) (exts : List (BitVec 18 × BitVec 16))
  /-- MB_UNSUPPORTED_OPCODE (R474). -/
  | mbUnsupportedOpcode (ld : Fin 64) (opcode : BitVec 16)
  /-- MCTP_MESSAGE (R471). -/
  | mctpMessage (m : MctpMsg)
  deriving DecidableEq, Repr

/-- The logical device whose mailbox a message came to; none for MCTP. -/
def CoreMsg.ld : CoreMsg → Option Nat
  | .mbTransferFw ld _ _ _ => some ld.val
  | .mbClearEventRecords ld _ _ => some ld.val
  | .mbGetLog ld _ _ => some ld.val
  | .mbActivateFw ld _ _ => some ld.val
  | .mbGetPoisonList ld _ _ => some ld.val
  | .regAccess ld _ _ => some ld.val
  | .mbSetEvtIntPolicy ld _ => some ld.val
  | .mbGetEventRecords ld _ => some ld.val
  | .mbSetTimestamp ld _ => some ld.val
  | .deviceLogRead ld _ => some ld.val
  | .mbUnsupportedOpcode ld _ => some ld.val
  | .addDcResponse ld _ _ _ => some ld.val
  | .releaseDc ld _ => some ld.val
  | .mbIdentify ld => some ld.val
  | .mbBgOpStatus ld => some ld.val
  | .mbGetEvtIntPolicy ld => some ld.val
  | .mbGetTimestamp ld => some ld.val
  | .mbGetSupportedLogs ld => some ld.val
  | .mbGetFwInfo ld => some ld.val
  | .mbIdentifyMemdev ld => some ld.val
  | .mbGetHealthInfo ld => some ld.val
  | .mbGetDcConfig ld => some ld.val
  | .mbGetDcExtentList ld => some ld.val
  | .energyRead ld => some ld.val
  | .marginRead ld => some ld.val
  | .mctpMessage _ => none

/-- The state of a firmware update (R475). -/
inductive FwuState
  | idle | staged | verified | loaded | trial
  deriving DecidableEq, Repr

/-- A direct command of the BMC in progress (R472). -/
structure SbJob where
  /-- OPC: 1 RD, 2 WR. | R472 | - -/
  opc : Nat
  /-- Window offset of the next word. | R472 | - -/
  off : Nat
  /-- Words still to write. | R472 | - -/
  words : List Word
  /-- Words still to read. | R472 | - -/
  left : Nat
  /-- Words read so far, first to last. | R472 | - -/
  got : List Word
  /-- STATUS so far. | R472 | - -/
  status : Nat
  /-- A word of it is under way. | R369, R400, R472 | false -/
  busy : Bool := false
  deriving DecidableEq, Repr

/-- Sensors, ledger, sideband, mailbox and firmware update (R464-R479). -/
structure Management where
  /-- SENS.VIN. | R484 | 0 -/
  vin : BitVec 16 := 0
  /-- SENS.IIN. | R484 | 0 -/
  iin : BitVec 16 := 0
  /-- SENS.PIN. | R484 | 0 -/
  pin : BitVec 16 := 0
  /-- SENS.EIN in microjoules. | R484 | 0 -/
  ein : Nat := 0
  /-- Energy of the interval not yet put in the ledger. | R465 | 0 -/
  interval : Nat := 0
  /-- When the hub last took its samples. | R464 | 0 -/
  sampleAt : Nat := 0
  /-- A sample has been taken since the ledger last ran. | R465 | false -/
  sampled : Bool := false
  /-- SENS.DIE0-23.TEMP. | R484 | 0 -/
  die : Table (BitVec 16) := []
  /-- SENS.DIE0-23.PEAK; absent: no sample since AUX reset. | R484 | 0 -/
  diePeak : Table (BitVec 16) := []
  /-- Die sensors that have raised DIE_HOT and not fallen 3 degrees below. | R464 | empty -/
  hot : List Nat := []
  /-- SENS.RAIL voltages. | R484 | 0 -/
  railV : Table (BitVec 16) := []
  /-- SENS.RAIL currents. | R484 | 0 -/
  railI : Table (BitVec 16) := []
  /-- When the regulators were last read over the PMBus. | R464 | never -/
  railAt : Option Nat := none
  /-- Activity of the interval: lines read, by logical device. | R465 | 0 -/
  actRd : Table Nat := []
  /-- Lines written. | R465 | 0 -/
  actWr : Table Nat := []
  /-- Lines moved by its queue. | R465 | 0 -/
  actDm : Table Nat := []
  /-- Parcels coded. | R465 | 0 -/
  actCmp : Table Nat := []
  /-- LEDG.E0-63. | R484 | 0 -/
  ledger : Table Nat := []
  /-- LEDG.UNASSIGNED. | R484 | 0 -/
  unassigned : Nat := 0
  /-- SB.CFG.I3C. | R470 | false -/
  i3c : Bool := false
  /-- An image load in progress: total length and bytes received. | R472 | none -/
  img : Option (Nat × Nat) := none
  /-- A Transfer FW in progress. | R479 | false -/
  transfer : Bool := false
  /-- FWU.STAT.STATE. | R475 | idle -/
  fwu : FwuState := .idle
  /-- FWU.STAT.SLOT: slot B. | R485 | false -/
  slotB : Bool := false
  /-- FWU.CMD.RESULT. | R485 | 0 -/
  fwuResult : Nat := 0
  /-- READY has come from the standby core. | R475 | false -/
  ready : Bool := false
  /-- Slot and SVN of the image in the standby core's region, once an image has been loaded there. | R475, R478 | none -/
  standby : Option (Bool × Nat) := none
  /-- End of the trial. | R475 | 0 -/
  trialEnd : Nat := 0
  /-- A commit has been made since IDLE was entered. | R478 | false -/
  committed : Bool := false
  /-- Boot slot to take at the next cold reset, if an activation asked for it. | R474 | none -/
  nextCold : Bool := false
  /-- Write BOOT_SEL is owed for a CONFIRM. | R478 | false -/
  committing : Bool := false
  /-- A firmware switch waits for the outgoing core's accesses; it is a roll-back. | R476 | none -/
  switching : Option Bool := none
  /-- A direct command in progress. | R472 | none -/
  sb : Option SbJob := none
  /-- Direct commands that wait behind it. | R472, R540 | empty -/
  sbNext : List SbJob := []
  /-- A mailbox command REG_ACCESS in progress, as a command of one word, with its logical device. | R474 | none -/
  mb : Option (Fin 64 × SbJob) := none
  /-- Mailbox and MCTP messages held during a switch. | R476 | empty -/
  heldMsgs : List CoreMsg := []
  deriving DecidableEq, Repr

/-! ### The whole block -/

/-- Why the block stops. The spec gives every command of the table an effect or says that it has
none in a state, so no meaning ends in a fault; the type has the one constructor that a command on
a part without AUX power would raise were it ever modelled as a stop. -/
inductive Fault
  /-- Raised by no meaning. Safe: it can only stop a run. -/
  | unreachable
  deriving DecidableEq, Repr

/-- Why a command is refused. -/
inductive Refusal
  /-- The command has no meaning yet. Raised by Dispatch only. Safe. -/
  | notModelled (mnemonic : String)
  deriving DecidableEq, Repr

/-- The block: every register, buffer, counter, mode and pin that the spec gives it, and the queue
of commands that wait. -/
structure State where
  /-- The timestamp in ns since AUX power rose. | R9 | 0 -/
  now : Nat := 0
  /-- The model's own counter of free values taken; not the spec's. | the model's | 0 (DESIGN CHOICE) -/
  free : Nat := 0
  /-- Commands waiting, first in first out. | the model's | empty -/
  pending : List Instr := []
  /-- Messages sent, newest first; the model's own record. | the model's | empty -/
  out : List Msg := []
  /-- The register fields. | R530 | as Regs -/
  regs : Regs := {}
  /-- The retained store. | R457 | as Retained -/
  ret : Retained := {}
  /-- Events and the log. | R502 | as Events -/
  evt : Events := {}
  /-- The fault collector. | R492 | as Faults -/
  flt : Faults := {}
  /-- Counters and tracer. | R511 | as Observe -/
  obs : Observe := {}
  /-- Host ports. | R47 | as HostPorts -/
  host : HostPorts := {}
  /-- The address map. | R92 | as AddressMap -/
  amap : AddressMap := {}
  /-- Pages, lines and trees. | R100 | as Media -/
  mem : Media := {}
  /-- Home slices. | R132 | as HomeSlices -/
  home : HomeSlices := {}
  /-- Channels C0-C15. | R170 | as Channel -/
  ddr : Table Channel := []
  /-- Tiers and engines. | R214 | as Tier -/
  tier : Tier := {}
  /-- Data mover queues 0-63. | R312 | as DmQueue -/
  dm : Table DmQueue := []
  /-- Module ends. | R343 | as ModuleEnd -/
  dunas : Table ModuleEnd := []
  /-- The Borage site. | R362 | as BorageSite -/
  brg : BorageSite := {}
  /-- Clocks and power domains. | R382 | as Clocks -/
  clk : Clocks := {}
  /-- The power path. | R422 | as HotSwap -/
  hsc : HotSwap := {}
  /-- Start-up and resets. | R426 | as Boot -/
  boot : Boot := {}
  /-- Management cores. | R445 | as Cores -/
  core : Cores := {}
  /-- Sensors, sideband, mailbox, update. | R464 | as Management -/
  mgmt : Management := {}
  deriving DecidableEq, Repr

/-- The block right after AUX reset, before any command: every field at the value of its
docstring. -/
def State.reset : State := {}

end Sys2Proof.Machine
end

