-- ==== Sys2Proof/Machine/Table.lean ====
section
/-! DEFINITION. Finite maps in one canonical form: keys strictly rising, and no entry equal to what
an unlisted key reads as. -/

namespace Sys2Proof.Machine

/-- The value at a key; an unlisted key reads as `d`. -/
def look {α : Type} (d : α) : Table α → Nat → α
  | [], _ => d
  | (k', v) :: t, k => if k' = k then v else look d t k

/-- Remove a key. -/
def wipe {α : Type} : Table α → Nat → Table α
  | [], _ => []
  | (k', v) :: t, k => if k' = k then wipe t k else (k', v) :: wipe t k

/-- Insert or replace the value at a key, in rising order of keys. -/
def enter {α : Type} (v : α) : Table α → Nat → Table α
  | [], k => [(k, v)]
  | (k', v') :: t, k =>
    if k < k' then (k, v) :: (k', v') :: t
    else if k' = k then (k, v) :: t
    else (k', v') :: enter v t k

/-- Set the value at a key; the value that an unlisted key reads as is not listed. -/
def put {α : Type} [DecidableEq α] (d : α) (t : Table α) (k : Nat) (v : α) : Table α :=
  if v = d then wipe t k else enter v t k

/-- Change the value at a key. -/
def edit {α : Type} [DecidableEq α] (d : α) (t : Table α) (k : Nat) (f : α → α) : Table α :=
  put d t k (f (look d t k))

/-- A key is listed. -/
def listed {α : Type} : Table α → Nat → Bool
  | [], _ => false
  | (k', _) :: t, k => if k' = k then true else listed t k

/-- The value at a key, where the key is listed. -/
def look? {α : Type} : Table α → Nat → Option α
  | [], _ => none
  | (k', v) :: t, k => if k' = k then some v else look? t k

/-- Every key of the table is above `b`, and the keys rise. -/
def rising {α : Type} (b : Nat) : Table α → Bool
  | [] => true
  | (k, _) :: t => decide (b < k) && rising k t

/-- The canonical form of a table whose unlisted keys read as `d`. -/
def wf {α : Type} [DecidableEq α] (d : α) (t : Table α) : Bool :=
  (match t with
   | [] => true
   | (k, _) :: r => rising k r) && t.all (fun e => decide (e.2 ≠ d))

/-- Drop every key that a test picks. -/
def dropKeys {α : Type} (p : Nat → Bool) (t : Table α) : Table α := t.filter (fun e => !p e.1)

/-- Numbers 0 to n - 1. -/
def upTo (n : Nat) : List Nat := List.range n

/-- Saturating count. -/
def satAdd (top a b : Nat) : Nat := min top (a + b)

/-- Bits [lo + w - 1 : lo] of a number (R6). -/
def bits (v lo w : Nat) : Nat := (v >>> lo) % 2 ^ w

/-- Bit b of a number. -/
def bitOf (v b : Nat) : Bool := (v >>> b) % 2 == 1

/-- 1 for true. -/
def b2n (b : Bool) : Nat := if b then 1 else 0

/-- Bits [lo + w - 1 : lo] of a register word. -/
def fieldOf (v : Word) (lo w : Nat) : Nat := bits v.toNat lo w

/-- A word with bits [lo + w - 1 : lo] set to a value. -/
def setField (v : Word) (lo w x : Nat) : Word :=
  let m : Nat := (2 ^ w - 1) <<< lo
  BitVec.ofNat 32 (((v.toNat ||| m) ^^^ m) ||| ((x % 2 ^ w) <<< lo))

/-- A word from fields given as (lowest bit, value). -/
def wordOf (fs : List (Nat × Nat)) : Word :=
  BitVec.ofNat 32 (fs.foldl (fun a f => a ||| (f.2 <<< f.1)) 0)

/-- Byte u of a line (R7). -/
def lineByte (d : Line) (u : Nat) : Byte := BitVec.ofNat 8 (d.toNat >>> (8 * u))

/-- A number from bytes, the lowest byte first (R7). -/
def ofBytes : List Byte → Nat
  | [] => 0
  | b :: t => b.toNat + 256 * ofBytes t

/-- The n bytes of a number, the lowest first (R7). -/
def toBytes : Nat → Nat → List Byte
  | 0, _ => []
  | n + 1, v => BitVec.ofNat 8 v :: toBytes n (v / 256)

/-- A line with the bytes that a 64-bit mask names taken from another line (R272). -/
def mergeLine (old new : Line) (mask : BitVec 64) : Line :=
  BitVec.ofNat 512 (ofBytes ((upTo 64).map fun u =>
    if bitOf mask.toNat u then lineByte new u else lineByte old u))

/-- Milliseconds, microseconds and seconds in ns. -/
def us (n : Nat) : Nat := n * 1000

/-- Milliseconds in ns. -/
def ms (n : Nat) : Nat := n * 1000000

/-- Seconds in ns. -/
def sec (n : Nat) : Nat := n * 1000000000

/-- Number of ones among the low n bits. -/
def popCount (v n : Nat) : Nat := (upTo n).foldl (fun a i => a + b2n (bitOf v i)) 0

/-- The bits set among the low n bits, lowest first. -/
def ones (v n : Nat) : List Nat := (upTo n).filter (fun i => bitOf v i)

/-- Ceiling of a quotient. -/
def ceilDiv (a b : Nat) : Nat := (a + b - 1) / b

end Sys2Proof.Machine
end

