-- ==== Sys2Proof/Machine/Ops.lean ====
section
/-! DEFINITION. The named updates of the state: one per field, the accessors of its tables,
and moving the time. -/

namespace Sys2Proof.Machine

/-- The state with another `now`. -/
def State.withNow (s : State) (x : Nat) : State := { s with now := x }

/-- The state with another `free`. -/
def State.withFree (s : State) (x : Nat) : State := { s with free := x }

/-- The state with another `pending`. -/
def State.withPending (s : State) (x : List Instr) : State := { s with pending := x }

/-- The state with another `out`. -/
def State.withOut (s : State) (x : List Msg) : State := { s with out := x }

/-- The state with another `regs`. -/
def State.withRegs (s : State) (x : Regs) : State := { s with regs := x }

/-- The state with another `ret`. -/
def State.withRet (s : State) (x : Retained) : State := { s with ret := x }

/-- The state with another `evt`. -/
def State.withEvt (s : State) (x : Events) : State := { s with evt := x }

/-- The state with another `flt`. -/
def State.withFlt (s : State) (x : Faults) : State := { s with flt := x }

/-- The state with another `obs`. -/
def State.withObs (s : State) (x : Observe) : State := { s with obs := x }

/-- The state with another `host`. -/
def State.withHost (s : State) (x : HostPorts) : State := { s with host := x }

/-- The state with another `amap`. -/
def State.withAmap (s : State) (x : AddressMap) : State := { s with amap := x }

/-- The state with another `mem`. -/
def State.withMem (s : State) (x : Media) : State := { s with mem := x }

/-- The state with another `home`. -/
def State.withHome (s : State) (x : HomeSlices) : State := { s with home := x }

/-- The state with another `ddr`. -/
def State.withDdr (s : State) (x : Table Channel) : State := { s with ddr := x }

/-- The state with another `tier`. -/
def State.withTier (s : State) (x : Tier) : State := { s with tier := x }

/-- The state with another `dm`. -/
def State.withDm (s : State) (x : Table DmQueue) : State := { s with dm := x }

/-- The state with another `dunas`. -/
def State.withDunas (s : State) (x : Table ModuleEnd) : State := { s with dunas := x }

/-- The state with another `brg`. -/
def State.withBrg (s : State) (x : BorageSite) : State := { s with brg := x }

/-- The state with another `clk`. -/
def State.withClk (s : State) (x : Clocks) : State := { s with clk := x }

/-- The state with another `hsc`. -/
def State.withHsc (s : State) (x : HotSwap) : State := { s with hsc := x }

/-- The state with another `boot`. -/
def State.withBoot (s : State) (x : Boot) : State := { s with boot := x }

/-- The state with another `core`. -/
def State.withCore (s : State) (x : Cores) : State := { s with core := x }

/-- The state with another `mgmt`. -/
def State.withMgmt (s : State) (x : Management) : State := { s with mgmt := x }

/-- Port group Hn. -/
def State.grp (s : State) (k : Nat) : PortGroup := look {} s.host.grp k

/-- Port group Hn: change it. -/
def State.onGrp (s : State) (k : Nat) (f : PortGroup → PortGroup) : State :=
  s.withHost { s.host with grp := edit {} s.host.grp k f }

/-- Link Hn.k, number 4n + k. -/
def State.link (s : State) (k : Nat) : Link := look {} s.host.link k

/-- Link Hn.k, number 4n + k: change it. -/
def State.onLink (s : State) (k : Nat) (f : Link → Link) : State :=
  s.withHost { s.host with link := edit {} s.host.link k f }

/-- Logical device. -/
def State.ld (s : State) (k : Nat) : LogicalDev := look {} s.host.ld k

/-- Logical device: change it. -/
def State.onLd (s : State) (k : Nat) (f : LogicalDev → LogicalDev) : State :=
  s.withHost { s.host with ld := edit {} s.host.ld k f }

/-- Interleave set entry. -/
def State.set (s : State) (k : Nat) : SetEntry := look {} s.amap.sets k

/-- Interleave set entry: change it. -/
def State.onSet (s : State) (k : Nat) (f : SetEntry → SetEntry) : State :=
  s.withAmap { s.amap with sets := edit {} s.amap.sets k f }

/-- Domain entry. -/
def State.dom (s : State) (k : Nat) : DomainEntry := look {} s.amap.domains k

/-- Domain entry: change it. -/
def State.onDom (s : State) (k : Nat) (f : DomainEntry → DomainEntry) : State :=
  s.withAmap { s.amap with domains := edit {} s.amap.domains k f }

/-- Extent entry. -/
def State.ext (s : State) (k : Nat) : ExtentEntry := look {} s.amap.extents k

/-- Extent entry: change it. -/
def State.onExt (s : State) (k : Nat) (f : ExtentEntry → ExtentEntry) : State :=
  s.withAmap { s.amap with extents := edit {} s.amap.extents k f }

/-- Region entry. -/
def State.region (s : State) (k : Nat) : RegionEntry := look {} s.amap.regions k

/-- Region entry: change it. -/
def State.onRegion (s : State) (k : Nat) (f : RegionEntry → RegionEntry) : State :=
  s.withAmap { s.amap with regions := edit {} s.amap.regions k f }

/-- Page map entry as stored. -/
def State.page (s : State) (k : Nat) : PageEntry := look {} s.mem.pages k

/-- Page map entry as stored: change it. -/
def State.onPage (s : State) (k : Nat) (f : PageEntry → PageEntry) : State :=
  s.withMem { s.mem with pages := edit {} s.mem.pages k f }

/-- Compression engine. -/
def State.eng (s : State) (k : Nat) : Engine := look {} s.tier.eng k

/-- Compression engine: change it. -/
def State.onEng (s : State) (k : Nat) (f : Engine → Engine) : State :=
  s.withTier { s.tier with eng := edit {} s.tier.eng k f }

/-- Loop. -/
def State.loop (s : State) (k : Nat) : ClkLoop := look {} s.clk.loops k

/-- Loop: change it. -/
def State.onLoop (s : State) (k : Nat) (f : ClkLoop → ClkLoop) : State :=
  s.withClk { s.clk with loops := edit {} s.clk.loops k f }

/-- Channel Cn. -/
def State.chan (s : State) (k : Nat) : Channel := look {} s.ddr k

/-- Channel Cn: change it. -/
def State.onChan (s : State) (k : Nat) (f : Channel → Channel) : State :=
  s.withDdr (edit {} s.ddr k f)

/-- Data mover queue. -/
def State.queue (s : State) (k : Nat) : DmQueue := look {} s.dm k

/-- Data mover queue: change it. -/
def State.onQueue (s : State) (k : Nat) (f : DmQueue → DmQueue) : State :=
  s.withDm (edit {} s.dm k f)

/-- Dunas module end. -/
def State.mod (s : State) (k : Nat) : ModuleEnd := look {} s.dunas k

/-- Dunas module end: change it. -/
def State.onMod (s : State) (k : Nat) (f : ModuleEnd → ModuleEnd) : State :=
  s.withDunas (edit {} s.dunas k f)

/-- The home slice of a page (R132): the XOR of its 5-bit groups. -/
def homeOf (page : Nat) : Nat := (upTo 7).foldl (fun h k => h ^^^ bits page (5 * k) 5) 0

/-- Page of a line number DPA[45:6]. -/
def lnPage (ln : Nat) : Nat := ln / 64

/-- Take a free value: the counter advances. -/
def State.takeFree (s : State) : State := s.withFree (s.free + 1)

/-- Do something when a condition holds. -/
def State.when (s : State) (b : Bool) (f : State → State) : State := if b then f s else s

/-- Do something for each element of a list, first to last. -/
def State.each {α : Type} (s : State) (l : List α) (f : State → α → State) : State := l.foldl f s

end Sys2Proof.Machine
end

