-- ==== Sys2Proof/Machine/Sites.lean ====
section
/-! DEFINITION. Sites, register pages and event sources (R18-R39, R500, R501). -/

namespace Sys2Proof.Machine

/-- SLOT of a page (R37). -/
def pgSlot (p : Nat) : Nat := p / 4096 % 16

/-- CLUSTER of a page (R37). -/
def pgCluster (p : Nat) : Nat := p / 1024 % 4

/-- SLICE of a page (R37). -/
def pgSlice (p : Nat) : Nat := p / 64 % 16

/-- ENGINE of a page (R37). -/
def pgEngine (p : Nat) : Nat := p % 64

/-- The page of a site (R37). -/
def mkPage (slot cl sl en : Nat) : Nat := slot * 4096 + cl * 1024 + sl * 64 + en

/-- The site code of a page, its macro whole (R28). -/
def siteOfPage (p : Nat) : Nat := p * 256 + 255

/-- The page of a site code (R37). -/
def pageOfSite (c : Nat) : Nat := c / 256 % 65536

/-- How many engines a slice of an Ozquenko chiplet has; 0 where the slice does not exist (R34, R35). DESIGN CHOICE: a
slice for which neither R35 nor a chapter numbers an engine has one engine, 00 (assumption 118). -/
def engines (slot cl sl : Nat) : Nat :=
  if slot = 0 then
    if cl ≠ 0 ∨ 12 < sl then 0
    else if sl = 4 ∨ sl = 9 ∨ sl = 12 then 2 else if sl = 6 then 3 else 1
  else if slot = 1 then (if cl = 0 ∧ sl < 5 then 1 else 0)
  else if slot = 2 then
    if cl = 0 then (if sl < 8 then 2 else if sl = 8 then 3 else if sl = 9 then 1 else 0)
    else if cl = 1 then (if sl < 2 then 1 else if sl = 2 then 17 else if sl = 3 then 2 else 0)
    else if cl = 2 then (if sl < 11 then 2 else 0)
    else 0
  else if slot = 4 ∨ slot = 5 then
    if cl < 2 then (if sl < 4 then 6 else if sl = 4 then 1 else if sl = 5 then 2 else 0)
    else if cl = 2 then (if sl < 3 then 2 else 0)
    else 0
  else if 8 ≤ slot ∧ slot ≤ 11 then
    if cl < 2 then (if sl < 4 then 8 else if sl < 6 then 7 else if sl = 6 then 3 else 0)
    else if cl = 2 then (if sl < 2 then 2 else if sl = 2 then 1 else 0)
    else 0
  else 0

/-- A page of Dill's main domain: the root loop and its dividers, and the Dill end of D0-S.0 (R397). -/
def dillMain (p : Nat) : Bool := p == 0x0181 || (pgSlot p == 0 && pgCluster p == 0 && pgSlice p == 12)

/-- A slot holds an Ozquenko chiplet (R18). -/
def ozSlot (slot : Nat) : Bool :=
  slot == 0 || slot == 1 || slot == 2 || slot == 4 || slot == 5 || (8 ≤ slot && slot ≤ 11)

/-- A page of an Ozquenko chiplet has a site (R29, R34, R35). -/
def ozSite (p : Nat) : Bool :=
  ozSlot (pgSlot p) && decide (p < 65536) &&
  (if pgCluster p = 3 then pgSlice p == 15 && pgEngine p == 63
   else if pgSlice p = 15 then pgEngine p == 63 && decide (0 < engines (pgSlot p) (pgCluster p) 0)
   else decide (0 < engines (pgSlot p) (pgCluster p) (pgSlice p)) &&
     (pgEngine p == 63 || decide (pgEngine p < engines (pgSlot p) (pgCluster p) (pgSlice p))))

/-- A 24-bit number is a site code of an Ozquenko chiplet, with any macro of a page that is a site (R28, R29, R34; assumption 152). -/
def ozCode (c : Nat) : Bool :=
  ozSite (pageOfSite c) && (pgEngine (pageOfSite c) != 63 || c % 256 == 255)

/-- Slice kind of a page in ID (R532). -/
def pageKindCode (p : Nat) : Nat :=
  let slot := pgSlot p
  let cl := pgCluster p
  let sl := pgSlice p
  if cl = 3 then 0x0F2
  else if sl = 15 then 0x0F1
  else if slot = 0 then (if sl = 12 then 0x030 else 0x010 + sl)
  else if slot = 1 then 0x020 + sl
  else if slot = 2 then
    if cl = 1 then 0x033 + sl
    else if cl = 0 ∧ sl = 8 then 0x031
    else if cl = 0 ∧ sl = 9 then 0x032
    else 0x030
  else if cl = 2 then (if sl = 2 ∧ 8 ≤ slot then 0x053 else 0x030)
  else if slot < 8 then (if sl < 4 then 0x040 else if sl = 4 then 0x041 else 0x042)
  else if sl < 4 then 0x050 else if sl < 6 then 0x051 else 0x052

/-- ID of a page (R531). -/
def idWord (p : Nat) : Nat := p % 2 ^ 16 + 2 ^ 16 * pageKindCode p + 2 ^ 28 * 5

/-- Page of engine e of link l = 4n + k (R21, R34). -/
def linkPage (l e : Nat) : Nat := mkPage (4 + l / 8) (l / 4 % 2) (l % 4) e

/-- Page of HPGS of port group n (R21, R34). -/
def hpgsPage (n : Nat) : Nat := mkPage (4 + n / 2) (n % 2) 5 1

/-- Page of the PHY of port group n. -/
def phyPage (n : Nat) : Nat := mkPage (4 + n / 2) (n % 2) 4 0

/-- Page of engine e of channel c (R22, R34). -/
def chanPage (c e : Nat) : Nat := mkPage (8 + c / 4) (c / 2 % 2) (4 + c % 2) e

/-- Page of engine e of home slice h (R10, R34). -/
def hsPage (h e : Nat) : Nat := mkPage (8 + h / 8) (h / 4 % 2) (h % 4) e

/-- Page of engine e of the compression unit of cluster u = 2 x Lovage + cluster. -/
def cmpPage (u e : Nat) : Nat := mkPage (8 + u / 2) (u % 2) 6 e

/-- Page of compression engine 2u + e. -/
def engPage (k : Nat) : Nat := cmpPage (k / 2) (k % 2)

/-- Page of engine e of a Dunas module end: 0-18 the Sorrel ends in the order of R34, 19-24 the
Chervil ends, 25-32 the Lovage ends, 33 the Dill end. -/
def modPage (m e : Nat) : Nat :=
  if m < 8 then mkPage 2 0 m e
  else if m < 19 then mkPage 2 2 (m - 8) e
  else if m < 25 then mkPage (4 + (m - 19) / 3) 2 ((m - 19) % 3) e
  else if m < 33 then mkPage (8 + (m - 25) / 2) 2 ((m - 25) % 2) e
  else mkPage 0 0 12 e

/-- The other end of a module; none where it is on Borage (R23). -/
def peerEnd (m : Nat) : Option Nat :=
  if m < 8 then some (25 + m) else if m < 14 then some (19 + (m - 8)) else if m = 14 then some 33
  else if m < 19 then none
  else if m < 25 then some (8 + (m - 19)) else if m < 33 then some (m - 25) else some 14

/-- Slot of the chiplet that a module end faces (R23). -/
def peerSlot (m : Nat) : Nat :=
  if m < 8 then 8 + m / 2 else if m < 14 then 4 + (m - 8) / 3 else if m = 14 then 0
  else if m < 19 then 12 else 2

/-- Module ends of the same connection on the same chiplet (R23, R25). -/
def sameConnection (m : Nat) : List Nat :=
  if m < 8 then [m / 2 * 2, m / 2 * 2 + 1]
  else if m < 14 then (upTo 3).map (fun i => 8 + (m - 8) / 3 * 3 + i)
  else if m = 14 then [14]
  else if m < 19 then [15, 16, 17, 18]
  else if m < 25 then (upTo 3).map (fun i => 19 + (m - 19) / 3 * 3 + i)
  else if m < 33 then [25 + (m - 25) / 2 * 2, 25 + (m - 25) / 2 * 2 + 1]
  else [33]

/-- Chiplet page of a slot (R38). -/
def chipletPage (slot : Nat) : Nat := slot * 4096 + 4095

/-- The Dill chiplet page (R38). -/
def dillPage : Nat := 0x0FFF

/-- AMAP page (R129). -/
def amapPage : Nat := 0x2201

/-- BRG page (R381). -/
def brgPage : Nat := 0x2202

/-- Tier manager page (R249). -/
def tierPage : Nat := 0x2400

/-- Data mover page (R335). -/
def dmPage : Nat := 0x2440

/-- Request tracer page (R523). -/
def trcPage : Nat := 0x24C0

/-- Key store page (R287). -/
def keysPage : Nat := 0x01C0

/-- Lazy initialisation page of Lovage i (R287). -/
def lazyPage (i : Nat) : Nat := mkPage (8 + i) 2 2 0

/-- Clock root, power controller pages (R405-R407). -/
def clkPage : Nat := 0x0180

/-- Power controller page (R407). -/
def pwrPage : Nat := 0x0182

/-- HSC page (R440). -/
def hscPage : Nat := 0x1000

/-- FET page (R442). -/
def fetPage : Nat := 0x10C0

/-- Fault collector page (R509). -/
def fcPage : Nat := 0x0080

/-- Event router page (R510). -/
def evrPage : Nat := 0x0101

/-- Event log page (R483). -/
def logPage : Nat := 0x0100

/-- Retained store page (R483). -/
def rstorePage : Nat := 0x00C0

/-- Sideband page (R483). -/
def sbPage : Nat := 0x0140

/-- Sensor hub page (R484). -/
def sensPage : Nat := 0x0200

/-- Page of the pool interface, engine 0, and of landing aperture a = 1-16 (R126). -/
def poolPage (a : Nat) : Nat := 0x2480 + a

/-! ### Event sources -/

/-- A source of port group n (R85, R500). -/
def srcPort (n k : Nat) : Nat := 128 + 32 * n + k

/-- A source of Lovage i (R163, R207, R248, R284, R500). -/
def srcLov (i k : Nat) : Nat := 256 + 64 * i + k

/-- A source of the channel c's Lovage (R207). -/
def srcChan (c k : Nat) : Nat := srcLov (c / 4) k

/-- A source of home slice h's Lovage. -/
def srcHs (h k : Nat) : Nat := srcLov (h / 8) k

/-- A source that the table of R500 defines. -/
def definedSource (k : Nat) : Bool :=
  if k < 64 then k ≤ 5 || (16 ≤ k && k ≤ 22) || (24 ≤ k && k ≤ 30) || (40 ≤ k && k ≤ 48)
  else if k < 128 then decide (k ≤ 77)
  else if k < 256 then decide ((k - 128) % 32 ≤ 16)
  else if k < 512 then
    let j := (k - 256) % 64
    decide (j ≤ 3) || (8 ≤ j && j ≤ 24) || (32 ≤ j && j ≤ 36) || (40 ≤ j && j ≤ 47)
  else if k < 576 then
    k == 512 || k == 513 || (528 ≤ k && k ≤ 538) || (540 ≤ k && k ≤ 542) ||
      (544 ≤ k && k ≤ 548)
  else if k < 640 then true
  else if k < 704 then decide (k ≤ 652)
  else decide (k < 768)

/-- Owner page of a block of 32 sources (R501). -/
def ownerPage (b : Nat) : Option Nat :=
  if b = 0 then some dillPage else if b = 1 then some logPage else if b = 2 then some hscPage
  else if 4 ≤ b ∧ b < 8 then some (hpgsPage (b - 4))
  else if 8 ≤ b ∧ b < 16 then
    some (if b % 2 = 0 then chipletPage (8 + (b - 8) / 2) else lazyPage ((b - 8) / 2))
  else if b = 16 then some amapPage else if b = 17 then some 0x2FFF else if b = 18 then some dmPage
  else if b = 19 then some 0x247F else if b = 20 then some 0x223F else none

/-- Block of 32 sources that a page owns (R501). -/
def ownedBlock (p : Nat) : Option Nat := (upTo 24).find? (fun b => ownerPage b == some p)

/-- Route of a source after a cold reset: LOG and CORE, and BMC for sources 0-5, 24, 25 and 30
(R504, R508). Bit 0 LOG, 1 CORE, 2 BMC, 3 MSIX, [9:4] VECTOR, [13:10] HPIN (R508). -/
def routeReset (k : Nat) : BitVec 14 :=
  if k ≤ 5 ∨ k = 24 ∨ k = 25 ∨ k = 30 then 7 else 3

/-- Sources of the Dill and Hyssop chiplets (R500, R504). -/
def auxSource (k : Nat) : Bool := decide (k < 128)

end Sys2Proof.Machine
end

