-- ==== Sys2Proof/Machine/RegTable.lean ====
section
/-! DEFINITION. The register operand forms: the fields of every register of the window, from the
field tables of the spec, and the fields' legal encodings. -/

namespace Sys2Proof.Machine

/-- Access codes (R12). -/
inductive Access
  | ro | rw | rw1c | wo | rws | rwp
  deriving DecidableEq, Repr

/-- Change classes (R14); `n` where the table gives none. -/
inductive Change
  | s | h | l | n
  deriving DecidableEq, Repr

/-- A field of a register: its bits, access code, change class, reset value (for RWP the factory
value) and the least and greatest value that is not a reserved encoding (R15, assumption 14). -/
structure Field where
  lo : Nat
  w : Nat
  acc : Access
  cls : Change
  rst : Nat
  min : Nat
  max : Nat
  deriving DecidableEq, Repr

/-- A register or an array of registers of a page. -/
structure Reg where
  off : Nat
  stride : Nat
  count : Nat
  fields : List Field
  deriving DecidableEq, Repr

/-- What block-specific registers a page holds. -/
inductive PageKind
  | plain | kAmap | kAtom | kBinf | kBrg | kClkl | kClkr | kCmpe | kCtw | kDdrc | kDdre | kDdri | kDdrp | kDdrr | kDdrs | kDill | kDlnk | kDm | kDphy | kEvr | kFc | kFet | kHld | kHlink | kHpgs | kHreq | kHsc | kHsq | kKeys | kLand | kLazy | kLog | kMcache | kMcore | kPhy | kPool | kProt | kPwr | kRoot | kRstore | kSb | kSens | kSf | kTier | kTrc | kTrcw
  deriving DecidableEq, Repr

/-- Registers of a page of kind amap. -/
def regsAmap : List Reg :=
  [⟨0x80, 4, 1, [
      ⟨0, 18, .rw, .l, 0, 0, 262143⟩,
      ⟨18, 2, .rw, .l, 0, 0, 3⟩,
      ⟨20, 4, .wo, .l, 0, 0, 15⟩,
      ⟨24, 4, .ro, .l, 0, 0, 15⟩,
      ⟨31, 1, .ro, .l, 0, 0, 1⟩]⟩  /- AMAP.TCMD (R128) -/,
   ⟨0xA0, 4, 8, [
      ⟨0, 32, .rw, .l, 0, 0, 4294967295⟩]⟩  /- AMAP.TDATA0-7 (R129) -/,
   ⟨0xC0, 4, 1, [
      ⟨0, 32, .ro, .l, 0, 0, 4294967295⟩]⟩  /- AMAP.FTOTAL (low word) (R129) -/,
   ⟨0xC4, 4, 1, [
      ⟨0, 1, .ro, .l, 0, 0, 1⟩]⟩  /- AMAP.FTOTAL (high word) (R129) -/,
   ⟨0xC8, 4, 1, [
      ⟨0, 32, .ro, .l, 0, 0, 4294967295⟩]⟩  /- AMAP.FFREE (low word) (R129) -/,
   ⟨0xCC, 4, 1, [
      ⟨0, 1, .ro, .l, 0, 0, 1⟩]⟩  /- AMAP.FFREE (high word) (R129) -/,
   ⟨0xD0, 4, 1, [
      ⟨0, 32, .rw, .h, 0, 0, 4294967295⟩]⟩  /- AMAP.RESERVE (low word) (R129) -/,
   ⟨0xD4, 4, 1, [
      ⟨0, 1, .rw, .h, 0, 0, 1⟩]⟩  /- AMAP.RESERVE (high word) (R129) -/,
   ⟨0xD8, 4, 1, [
      ⟨0, 32, .rw, .h, 0, 0, 4294967295⟩]⟩  /- AMAP.LOWWM (low word) (R129) -/,
   ⟨0xDC, 4, 1, [
      ⟨0, 1, .rw, .h, 0, 0, 1⟩]⟩  /- AMAP.LOWWM (high word) (R129) -/,
   ⟨0xE0, 4, 1, [
      ⟨0, 32, .rw, .h, 0, 0, 4294967295⟩]⟩  /- AMAP.CRITWM (low word) (R129) -/,
   ⟨0xE4, 4, 1, [
      ⟨0, 1, .rw, .h, 0, 0, 1⟩]⟩  /- AMAP.CRITWM (high word) (R129) -/,
   ⟨0xE8, 4, 1, [
      ⟨0, 1, .rw, .l, 1, 0, 1⟩,
      ⟨1, 8, .rw, .h, 10, 0, 255⟩]⟩  /- AMAP.CAPCFG (R129) -/,
   ⟨0xF0, 4, 1, [
      ⟨0, 32, .ro, .l, 0, 0, 4294967295⟩]⟩  /- AMAP.FLOST (low word) (R129) -/,
   ⟨0xF4, 4, 1, [
      ⟨0, 1, .ro, .l, 0, 0, 1⟩]⟩  /- AMAP.FLOST (high word) (R129) -/]

/-- Registers of a page of kind atom. -/
def regsAtom : List Reg :=
  [⟨0x80, 4, 1, [
      ⟨0, 8, .rw, .h, 8, 0, 255⟩]⟩  /- ATOM.CFG (R167) -/]

/-- Registers of a page of kind binf. -/
def regsBinf : List Reg :=
  [⟨0x80, 4, 1, [
      ⟨0, 1, .rw, .l, 0, 0, 1⟩]⟩  /- BINF.CFG (R252) -/,
   ⟨0x84, 4, 3, [
      ⟨0, 32, .ro, .l, 0, 0, 4294967295⟩]⟩  /- BINF.GRP1-3 (R252) -/,
   ⟨0x90, 4, 3, [
      ⟨0, 32, .ro, .l, 0, 0, 4294967295⟩]⟩  /- BINF.FREE1-3 (R252) -/]

/-- Registers of a page of kind brg. -/
def regsBrg : List Reg :=
  [⟨0x80, 4, 1, [
      ⟨0, 1, .ro, .l, 0, 0, 1⟩,
      ⟨1, 4, .ro, .l, 0, 0, 15⟩,
      ⟨5, 2, .ro, .l, 0, 0, 3⟩]⟩  /- BRG.STAT (R381) -/,
   ⟨0x84, 4, 1, [
      ⟨0, 16, .ro, .l, 0, 0, 65535⟩,
      ⟨16, 16, .ro, .l, 0, 0, 65535⟩]⟩  /- BRG.IDENT (R381) -/,
   ⟨0x88, 4, 1, [
      ⟨0, 1, .rw, .s, 1, 0, 1⟩]⟩  /- BRG.CFG (R381) -/,
   ⟨0x8C, 4, 1, [
      ⟨0, 12, .rw, .l, 0, 0, 4095⟩]⟩  /- BRG.DIDX (R381) -/,
   ⟨0x90, 4, 1, [
      ⟨0, 32, .rw, .l, 0, 0, 4294967295⟩]⟩  /- BRG.DRIGHTS (R381) -/,
   ⟨0x100, 4, 64, [
      ⟨0, 1, .rw, .s, 0, 0, 1⟩,
      ⟨1, 6, .rw, .s, 12, 12, 40⟩]⟩  /- BRG.FWIN (R381) -/]

/-- Registers of a page of kind clkl. -/
def regsClkl : List Reg :=
  [⟨0x80, 4, 1, [
      ⟨0, 32, .ro, .l, 0, 0, 4294967295⟩]⟩  /- CLK.COAST0 (R406) -/,
   ⟨0x84, 4, 1, [
      ⟨0, 8, .ro, .l, 0, 0, 255⟩]⟩  /- CLK.COAST1 (R406) -/]

/-- Registers of a page of kind clkr. -/
def regsClkr : List Reg :=
  [⟨0x80, 4, 1, [
      ⟨0, 1, .rwp, .l, 0, 0, 1⟩,
      ⟨1, 1, .rwp, .l, 1, 0, 1⟩,
      ⟨2, 1, .rw, .l, 0, 0, 1⟩,
      ⟨3, 1, .wo, .l, 0, 0, 1⟩]⟩  /- CLK.CFG (R405) -/,
   ⟨0x84, 4, 1, [
      ⟨0, 1, .ro, .l, 0, 0, 1⟩,
      ⟨1, 1, .ro, .l, 0, 0, 1⟩,
      ⟨2, 1, .ro, .l, 0, 0, 1⟩,
      ⟨3, 1, .ro, .l, 0, 0, 1⟩,
      ⟨4, 1, .ro, .l, 0, 0, 1⟩,
      ⟨5, 1, .ro, .l, 0, 0, 1⟩,
      ⟨6, 1, .ro, .l, 0, 0, 1⟩]⟩  /- CLK.STAT (R405) -/,
   ⟨0x88, 4, 1, [
      ⟨0, 1, .rw1c, .l, 0, 0, 1⟩,
      ⟨1, 1, .rw1c, .l, 0, 0, 1⟩,
      ⟨2, 1, .rw1c, .l, 0, 0, 1⟩,
      ⟨3, 1, .rw1c, .l, 0, 0, 1⟩,
      ⟨4, 1, .rw1c, .l, 0, 0, 1⟩,
      ⟨5, 4, .rw1c, .l, 0, 0, 15⟩,
      ⟨9, 1, .rw1c, .l, 0, 0, 1⟩,
      ⟨10, 1, .rw1c, .l, 0, 0, 1⟩]⟩  /- CLK.MON (R405) -/]

/-- Registers of a page of kind cmpe. -/
def regsCmpe : List Reg :=
  [⟨0x80, 4, 1, [
      ⟨0, 1, .rw, .h, 0, 0, 1⟩,
      ⟨1, 1, .rw, .s, 0, 0, 1⟩,
      ⟨2, 5, .ro, .l, 0, 0, 31⟩,
      ⟨7, 1, .ro, .l, 1, 0, 1⟩]⟩  /- CMPE.CFG (R251) -/,
   ⟨0x84, 4, 1, [
      ⟨0, 2, .rw, .l, 0, 0, 3⟩,
      ⟨2, 1, .wo, .l, 0, 0, 1⟩,
      ⟨3, 1, .rw, .l, 0, 0, 1⟩,
      ⟨4, 1, .wo, .l, 0, 0, 1⟩,
      ⟨5, 1, .ro, .l, 0, 0, 1⟩,
      ⟨6, 3, .ro, .l, 0, 0, 7⟩]⟩  /- CMPE.JCTL (R251) -/,
   ⟨0x88, 4, 1, [
      ⟨0, 32, .rw, .l, 0, 0, 4294967295⟩]⟩  /- CMPE.JSRC_LO (R252) -/,
   ⟨0x8C, 4, 1, [
      ⟨0, 14, .rw, .l, 0, 0, 16383⟩]⟩  /- CMPE.JSRC_HI (R252) -/,
   ⟨0x90, 4, 1, [
      ⟨0, 32, .rw, .l, 0, 0, 4294967295⟩]⟩  /- CMPE.JDST_LO (R252) -/,
   ⟨0x94, 4, 1, [
      ⟨0, 14, .rw, .l, 0, 0, 16383⟩]⟩  /- CMPE.JDST_HI (R252) -/,
   ⟨0x98, 4, 1, [
      ⟨0, 32, .rw, .l, 0, 0, 4294967295⟩]⟩  /- CMPE.JLEN (R252) -/,
   ⟨0x9C, 4, 1, [
      ⟨0, 32, .rw, .l, 0, 0, 4294967295⟩]⟩  /- CMPE.JLIMIT (R252) -/,
   ⟨0xA0, 4, 1, [
      ⟨0, 32, .ro, .l, 0, 0, 4294967295⟩]⟩  /- CMPE.JCONS (R252) -/,
   ⟨0xA4, 4, 1, [
      ⟨0, 32, .ro, .l, 0, 0, 4294967295⟩]⟩  /- CMPE.JPROD (R252) -/,
   ⟨0xA8, 4, 1, [
      ⟨0, 32, .rw, .l, 0, 0, 4294967295⟩]⟩  /- CMPE.JCRC (R252) -/]

/-- Registers of every page with a site (R530). -/
def regsCommon : List Reg :=
  [⟨0x0, 4, 1, [
      ⟨0, 16, .ro, .n, 0, 0, 65535⟩,
      ⟨16, 12, .ro, .n, 0, 0, 4095⟩,
      ⟨28, 4, .ro, .n, 5, 0, 15⟩]⟩  /- ID (R531) -/,
   ⟨0x4, 4, 1, [
      ⟨0, 8, .ro, .n, 1, 0, 255⟩,
      ⟨8, 4, .ro, .n, 1, 0, 15⟩,
      ⟨12, 4, .ro, .n, 1, 0, 15⟩]⟩  /- VERSION (R531) -/,
   ⟨0x8, 4, 1, [
      ⟨0, 1, .ro, .n, 0, 0, 1⟩,
      ⟨1, 1, .ro, .n, 0, 0, 1⟩,
      ⟨2, 1, .ro, .n, 0, 0, 1⟩,
      ⟨3, 1, .ro, .n, 0, 0, 1⟩,
      ⟨4, 1, .ro, .n, 0, 0, 1⟩,
      ⟨5, 1, .ro, .n, 0, 0, 1⟩]⟩  /- CAP (R533) -/,
   ⟨0xC, 4, 1, [
      ⟨0, 1, .rw, .l, 0, 0, 1⟩]⟩  /- CTRL (R534) -/,
   ⟨0x10, 4, 1, [
      ⟨0, 1, .ro, .l, 0, 0, 1⟩,
      ⟨1, 1, .rw1c, .l, 0, 0, 1⟩,
      ⟨2, 1, .rw1c, .l, 0, 0, 1⟩,
      ⟨3, 1, .rw1c, .l, 0, 0, 1⟩,
      ⟨4, 1, .ro, .l, 0, 0, 1⟩,
      ⟨5, 1, .rw1c, .l, 0, 0, 1⟩]⟩  /- STATUS (R534) -/,
   ⟨0x14, 4, 1, [
      ⟨0, 32, .rw1c, .l, 0, 0, 4294967295⟩]⟩  /- EVT_STATUS (R508) -/,
   ⟨0x18, 4, 1, [
      ⟨0, 32, .rw, .l, 0, 0, 4294967295⟩]⟩  /- EVT_ENABLE (R508) -/,
   ⟨0x1C, 4, 1, [
      ⟨0, 5, .rw, .l, 0, 0, 31⟩,
      ⟨5, 14, .rw, .l, 0, 0, 16383⟩]⟩  /- EVT_ROUTE (R508) -/,
   ⟨0x20, 4, 1, [
      ⟨0, 1, .wo, .l, 0, 0, 1⟩,
      ⟨1, 1, .ro, .l, 0, 0, 1⟩,
      ⟨2, 1, .ro, .l, 0, 0, 1⟩,
      ⟨3, 1, .wo, .l, 0, 0, 1⟩]⟩  /- COMMIT (R537) -/,
   ⟨0x24, 4, 1, [
      ⟨0, 2, .ro, .l, 0, 0, 3⟩,
      ⟨2, 1, .wo, .l, 0, 0, 1⟩,
      ⟨3, 1, .wo, .l, 0, 0, 1⟩,
      ⟨4, 1, .wo, .l, 0, 0, 1⟩,
      ⟨8, 8, .rw, .l, 0, 0, 255⟩]⟩  /- LOCK (R541) -/,
   ⟨0x28, 4, 1, [
      ⟨0, 31, .ro, .l, 0, 0, 2147483647⟩]⟩  /- FREC0 (R507) -/,
   ⟨0x2C, 4, 1, [
      ⟨0, 32, .ro, .l, 0, 0, 4294967295⟩]⟩  /- FREC1 (R507) -/,
   ⟨0x30, 4, 3, [
      ⟨0, 32, .ro, .l, 0, 0, 4294967295⟩]⟩  /- FREC2-4 (R507) -/,
   ⟨0x3C, 4, 1, [
      ⟨0, 24, .ro, .l, 0, 0, 16777215⟩,
      ⟨24, 1, .wo, .l, 0, 0, 1⟩]⟩  /- FREC5 (R507) -/,
   ⟨0x40, 4, 1, [
      ⟨0, 8, .rw, .l, 0, 0, 255⟩,
      ⟨8, 1, .rw, .l, 0, 0, 1⟩,
      ⟨9, 1, .rw, .l, 0, 0, 1⟩,
      ⟨10, 1, .wo, .l, 0, 0, 1⟩,
      ⟨11, 1, .ro, .l, 0, 0, 1⟩,
      ⟨12, 4, .ro, .l, 0, 0, 15⟩]⟩  /- PMC.CTL (R522) -/,
   ⟨0x44, 4, 1, [
      ⟨0, 8, .rw1c, .l, 0, 0, 255⟩]⟩  /- PMC.OVF (R522) -/,
   ⟨0x48, 4, 1, [
      ⟨0, 3, .rw, .l, 0, 0, 7⟩]⟩  /- PMC.IDX (R522) -/,
   ⟨0x4C, 4, 1, [
      ⟨0, 8, .rw, .l, 0, 0, 255⟩,
      ⟨8, 2, .rw, .l, 0, 0, 3⟩,
      ⟨10, 12, .rw, .l, 0, 0, 4095⟩]⟩  /- PMC.EVSEL (R522) -/,
   ⟨0x50, 4, 8, [
      ⟨0, 32, .ro, .l, 0, 0, 4294967295⟩]⟩  /- PMC.LO0-7 (R522) -/,
   ⟨0x70, 4, 4, [
      ⟨0, 32, .ro, .l, 0, 0, 4294967295⟩]⟩  /- PMC.HI01-67 (R522) -/]

/-- Registers of a page of kind ctw. -/
def regsCtw : List Reg :=
  [⟨0x80, 4, 1, [
      ⟨0, 4, .ro, .l, 0, 0, 15⟩,
      ⟨4, 12, .ro, .l, 0, 0, 4095⟩,
      ⟨16, 16, .ro, .l, 0, 0, 65535⟩]⟩  /- CTW.STAT (R286) -/]

/-- Registers of a page of kind ddrc. -/
def regsDdrc : List Reg :=
  [⟨0x80, 4, 1, [
      ⟨0, 4, .rwp, .s, 6, 0, 6⟩,
      ⟨4, 1, .rwp, .s, 0, 0, 1⟩,
      ⟨5, 4, .rwp, .s, 2, 0, 6⟩,
      ⟨9, 1, .rwp, .s, 0, 0, 1⟩,
      ⟨10, 1, .rw, .s, 1, 0, 1⟩,
      ⟨11, 1, .rw, .s, 1, 0, 1⟩,
      ⟨12, 1, .rwp, .s, 1, 0, 1⟩]⟩  /- DDRC.CFG (R208) -/,
   ⟨0x84, 4, 1, [
      ⟨0, 4, .ro, .l, 0, 0, 15⟩,
      ⟨4, 4, .ro, .l, 0, 0, 15⟩,
      ⟨8, 1, .ro, .l, 0, 0, 1⟩,
      ⟨9, 1, .rw1c, .l, 0, 0, 1⟩,
      ⟨10, 4, .ro, .l, 0, 0, 15⟩,
      ⟨14, 4, .ro, .l, 0, 0, 15⟩]⟩  /- DDRC.STAT (R208) -/,
   ⟨0x88, 4, 1, [
      ⟨0, 21, .ro, .l, 0, 0, 2097151⟩,
      ⟨21, 6, .ro, .l, 0, 0, 63⟩]⟩  /- DDRC.CAP (R208) -/,
   ⟨0x8C, 4, 1, [
      ⟨0, 1, .wo, .l, 0, 0, 1⟩,
      ⟨1, 1, .ro, .l, 0, 0, 1⟩,
      ⟨2, 2, .ro, .l, 0, 0, 3⟩]⟩  /- DDRC.FCTL (R209) -/,
   ⟨0x90, 4, 1, [
      ⟨0, 3, .wo, .l, 0, 0, 7⟩,
      ⟨3, 3, .ro, .l, 0, 0, 7⟩,
      ⟨8, 24, .ro, .l, 0, 0, 16777215⟩]⟩  /- DDRC.SVC (R209) -/,
   ⟨0x100, 4, 1, [
      ⟨0, 8, .rw, .l, 0, 0, 255⟩,
      ⟨8, 8, .rw, .l, 0, 0, 255⟩,
      ⟨16, 8, .rw, .l, 0, 0, 255⟩,
      ⟨24, 8, .rw, .l, 0, 0, 255⟩]⟩  /- DDRC.TS0A (R210) -/,
   ⟨0x104, 4, 1, [
      ⟨0, 8, .rw, .l, 0, 0, 255⟩,
      ⟨8, 8, .rw, .l, 0, 0, 255⟩,
      ⟨16, 8, .rw, .l, 0, 0, 255⟩,
      ⟨24, 8, .rw, .l, 0, 0, 255⟩]⟩  /- DDRC.TS1A (R210) -/,
   ⟨0x108, 4, 1, [
      ⟨0, 8, .rw, .l, 0, 0, 255⟩,
      ⟨8, 8, .rw, .l, 0, 0, 255⟩,
      ⟨16, 8, .rw, .l, 0, 0, 255⟩,
      ⟨24, 8, .rw, .l, 0, 0, 255⟩]⟩  /- DDRC.TS2A (R210) -/,
   ⟨0x10C, 4, 1, [
      ⟨0, 12, .rw, .l, 0, 0, 4095⟩,
      ⟨12, 12, .rw, .l, 0, 0, 4095⟩,
      ⟨24, 8, .rw, .l, 0, 0, 255⟩]⟩  /- DDRC.TS3A (R210) -/,
   ⟨0x110, 4, 1, [
      ⟨0, 16, .rw, .l, 0, 0, 65535⟩,
      ⟨16, 12, .rw, .l, 0, 0, 4095⟩]⟩  /- DDRC.TS4A (R210) -/,
   ⟨0x114, 4, 1, [
      ⟨0, 4, .rw, .l, 0, 0, 6⟩,
      ⟨4, 1, .ro, .l, 0, 0, 1⟩]⟩  /- DDRC.TS5A (R210) -/,
   ⟨0x120, 4, 1, [
      ⟨0, 8, .rw, .l, 0, 0, 255⟩,
      ⟨8, 8, .rw, .l, 0, 0, 255⟩,
      ⟨16, 8, .rw, .l, 0, 0, 255⟩,
      ⟨24, 8, .rw, .l, 0, 0, 255⟩]⟩  /- DDRC.TS0B (R210) -/,
   ⟨0x124, 4, 1, [
      ⟨0, 8, .rw, .l, 0, 0, 255⟩,
      ⟨8, 8, .rw, .l, 0, 0, 255⟩,
      ⟨16, 8, .rw, .l, 0, 0, 255⟩,
      ⟨24, 8, .rw, .l, 0, 0, 255⟩]⟩  /- DDRC.TS1B (R210) -/,
   ⟨0x128, 4, 1, [
      ⟨0, 8, .rw, .l, 0, 0, 255⟩,
      ⟨8, 8, .rw, .l, 0, 0, 255⟩,
      ⟨16, 8, .rw, .l, 0, 0, 255⟩,
      ⟨24, 8, .rw, .l, 0, 0, 255⟩]⟩  /- DDRC.TS2B (R210) -/,
   ⟨0x12C, 4, 1, [
      ⟨0, 12, .rw, .l, 0, 0, 4095⟩,
      ⟨12, 12, .rw, .l, 0, 0, 4095⟩,
      ⟨24, 8, .rw, .l, 0, 0, 255⟩]⟩  /- DDRC.TS3B (R210) -/,
   ⟨0x130, 4, 1, [
      ⟨0, 16, .rw, .l, 0, 0, 65535⟩,
      ⟨16, 12, .rw, .l, 0, 0, 4095⟩]⟩  /- DDRC.TS4B (R210) -/,
   ⟨0x134, 4, 1, [
      ⟨0, 4, .rw, .l, 0, 0, 6⟩,
      ⟨4, 1, .ro, .l, 0, 0, 1⟩]⟩  /- DDRC.TS5B (R210) -/]

/-- Registers of a page of kind ddre. -/
def regsDdre : List Reg :=
  [⟨0x80, 4, 1, [
      ⟨0, 16, .rw, .h, 256, 0, 65535⟩,
      ⟨16, 8, .rw, .h, 24, 1, 255⟩]⟩  /- DDRE.CFG (R211) -/,
   ⟨0x84, 4, 1, [
      ⟨0, 16, .ro, .l, 0, 0, 65535⟩,
      ⟨16, 16, .ro, .l, 0, 0, 65535⟩]⟩  /- DDRE.CNT (R211) -/]

/-- Registers of a page of kind ddri. -/
def regsDdri : List Reg :=
  [⟨0x80, 4, 2, [
      ⟨0, 1, .ro, .l, 0, 0, 1⟩,
      ⟨1, 2, .ro, .l, 0, 0, 3⟩,
      ⟨3, 1, .ro, .l, 0, 0, 1⟩,
      ⟨4, 2, .ro, .l, 0, 0, 3⟩,
      ⟨6, 1, .ro, .l, 0, 0, 1⟩,
      ⟨7, 2, .ro, .l, 0, 0, 3⟩,
      ⟨9, 4, .ro, .l, 0, 0, 15⟩,
      ⟨13, 3, .ro, .l, 0, 0, 7⟩,
      ⟨16, 4, .ro, .l, 0, 0, 15⟩]⟩  /- DDRI.DIMM0-1 (R213) -/,
   ⟨0x88, 4, 1, [
      ⟨0, 8, .rw, .l, 85, 0, 255⟩,
      ⟨8, 8, .rw, .l, 90, 0, 255⟩,
      ⟨16, 8, .rw, .l, 100, 0, 255⟩]⟩  /- DDRI.THERM (R213) -/,
   ⟨0x8C, 4, 1, [
      ⟨0, 8, .ro, .l, 0, 0, 255⟩,
      ⟨8, 8, .ro, .l, 0, 0, 255⟩,
      ⟨16, 2, .ro, .l, 0, 0, 3⟩]⟩  /- DDRI.TEMP (R213) -/]

/-- Registers of a page of kind ddrp. -/
def regsDdrp : List Reg :=
  [⟨0x80, 4, 1, [
      ⟨0, 3, .wo, .l, 0, 0, 7⟩,
      ⟨3, 5, .rw, .l, 0, 0, 31⟩,
      ⟨8, 1, .rw, .l, 1, 0, 1⟩,
      ⟨9, 1, .rw, .l, 1, 0, 1⟩,
      ⟨10, 3, .ro, .l, 0, 0, 7⟩,
      ⟨13, 1, .ro, .l, 0, 0, 1⟩]⟩  /- DDRP.CMD (R212) -/,
   ⟨0x84, 4, 1, [
      ⟨0, 5, .ro, .l, 0, 0, 31⟩,
      ⟨5, 1, .ro, .l, 0, 0, 1⟩,
      ⟨6, 6, .ro, .l, 0, 0, 63⟩,
      ⟨12, 20, .ro, .l, 0, 0, 1048575⟩]⟩  /- DDRP.STAT (R212) -/,
   ⟨0x88, 4, 1, [
      ⟨0, 18, .rw, .l, 0, 0, 262143⟩,
      ⟨18, 3, .rw, .l, 0, 0, 7⟩,
      ⟨21, 2, .rw, .l, 0, 0, 3⟩,
      ⟨23, 1, .rw, .l, 0, 0, 1⟩,
      ⟨24, 4, .rw, .l, 0, 0, 9⟩]⟩  /- DDRP.ROW (R212) -/,
   ⟨0x8C, 4, 1, [
      ⟨0, 3, .ro, .l, 0, 0, 7⟩,
      ⟨3, 1, .rw, .h, 0, 0, 1⟩]⟩  /- DDRP.MIR (R212) -/]

/-- Registers of a page of kind ddrr. -/
def regsDdrr : List Reg :=
  [⟨0x80, 4, 1, [
      ⟨0, 1, .rw, .s, 1, 0, 1⟩,
      ⟨1, 4, .rw, .h, 4, 0, 8⟩,
      ⟨5, 4, .rw, .h, 9, 6, 12⟩,
      ⟨9, 1, .rw, .h, 1, 0, 1⟩,
      ⟨10, 6, .rw, .h, 10, 1, 63⟩]⟩  /- DDRR.CFG (R211) -/,
   ⟨0x84, 4, 1, [
      ⟨0, 4, .ro, .l, 0, 0, 15⟩,
      ⟨4, 1, .ro, .l, 0, 0, 1⟩,
      ⟨16, 16, .ro, .l, 0, 0, 65535⟩]⟩  /- DDRR.STAT (R211) -/]

/-- Registers of a page of kind ddrs. -/
def regsDdrs : List Reg :=
  [⟨0x80, 4, 1, [
      ⟨0, 8, .rw, .h, 24, 1, 255⟩,
      ⟨8, 1, .rw, .l, 1, 0, 1⟩]⟩  /- DDRS.CFG (R212) -/,
   ⟨0x84, 4, 1, [
      ⟨0, 8, .ro, .l, 0, 0, 255⟩,
      ⟨8, 24, .ro, .l, 0, 0, 16777215⟩]⟩  /- DDRS.STAT (R212) -/]

/-- Registers of a page of kind dill. -/
def regsDill : List Reg :=
  [⟨0x80, 4, 1, [
      ⟨0, 16, .ro, .n, 8014, 0, 65535⟩,
      ⟨16, 16, .ro, .n, 18454, 0, 65535⟩]⟩  /- DEV.IDENT (R545) -/,
   ⟨0x84, 4, 1, [
      ⟨0, 4, .ro, .n, 1, 0, 15⟩,
      ⟨4, 4, .ro, .n, 1, 0, 15⟩]⟩  /- DEV.STEP (R545) -/,
   ⟨0x88, 4, 1, [
      ⟨0, 1, .ro, .l, 0, 0, 1⟩,
      ⟨1, 1, .ro, .n, 0, 0, 1⟩,
      ⟨16, 16, .ro, .n, 0, 0, 65535⟩]⟩  /- DEV.BORAGE (R545) -/,
   ⟨0x8C, 4, 1, [
      ⟨0, 6, .rwp, .s, 0, 0, 63⟩]⟩  /- DEV.MGMT (R545) -/,
   ⟨0x90, 4, 2, [
      ⟨0, 32, .ro, .l, 0, 0, 4294967295⟩]⟩  /- DEV.SERIAL0-1 (R545) -/,
   ⟨0x98, 4, 1, [
      ⟨0, 8, .ro, .l, 0, 0, 255⟩,
      ⟨8, 8, .ro, .l, 0, 0, 255⟩,
      ⟨16, 16, .ro, .l, 0, 0, 65535⟩]⟩  /- DEV.WSTAT (R545) -/,
   ⟨0x200, 4, 1, [
      ⟨0, 3, .wo, .l, 0, 0, 7⟩,
      ⟨3, 4, .rw, .l, 0, 0, 15⟩,
      ⟨7, 3, .ro, .l, 0, 0, 7⟩,
      ⟨10, 1, .ro, .l, 0, 0, 1⟩]⟩  /- RST.CTRL (R443) -/,
   ⟨0x204, 4, 1, [
      ⟨0, 3, .ro, .l, 1, 0, 7⟩,
      ⟨3, 4, .ro, .l, 1, 0, 15⟩,
      ⟨7, 1, .ro, .l, 0, 0, 1⟩]⟩  /- RST.STAT (R443) -/,
   ⟨0x208, 4, 1, [
      ⟨0, 3, .ro, .l, 0, 0, 7⟩,
      ⟨3, 3, .ro, .l, 0, 0, 7⟩]⟩  /- RST.CAUSE (R443) -/,
   ⟨0x20C, 4, 1, [
      ⟨0, 16, .ro, .l, 0, 0, 65535⟩,
      ⟨16, 16, .ro, .l, 0, 0, 65535⟩]⟩  /- SEQ.TIME (R443) -/,
   ⟨0x240, 4, 7, [
      ⟨0, 7, .rwp, .s, 0, 0, 127⟩,
      ⟨7, 5, .rwp, .s, 0, 0, 31⟩,
      ⟨12, 8, .rwp, .s, 1, 0, 255⟩,
      ⟨20, 1, .rwp, .s, 1, 0, 1⟩]⟩  /- RAIL.CFG0-6 (R444) -/,
   ⟨0x260, 4, 1, [
      ⟨0, 3, .wo, .l, 0, 0, 7⟩,
      ⟨3, 1, .wo, .l, 0, 0, 1⟩,
      ⟨4, 3, .ro, .l, 0, 0, 7⟩,
      ⟨7, 1, .ro, .l, 0, 0, 1⟩]⟩  /- FWU.CMD (R485) -/,
   ⟨0x264, 4, 1, [
      ⟨0, 3, .ro, .l, 0, 0, 7⟩,
      ⟨3, 1, .ro, .l, 0, 0, 1⟩,
      ⟨16, 16, .ro, .l, 0, 0, 65535⟩]⟩  /- FWU.STAT (R485) -/,
   ⟨0x268, 4, 1, [
      ⟨0, 8, .rw, .h, 30, 1, 255⟩]⟩  /- FWU.CFG (R485) -/,
   ⟨0x26C, 4, 1, [
      ⟨0, 32, .rw, .l, 0, 0, 4294967295⟩]⟩  /- FWU.HANDOVER (R485) -/,
   ⟨0x270, 4, 1, [
      ⟨0, 32, .rw, .l, 0, 0, 4294967295⟩]⟩  /- FWU.RB_ENTRY (R485) -/]

/-- Registers of a page of kind dlnk. -/
def regsDlnk : List Reg :=
  [⟨0x80, 4, 1, [
      ⟨0, 2, .rw, .s, 3, 0, 3⟩,
      ⟨2, 2, .rw, .s, 2, 0, 2⟩,
      ⟨4, 6, .rw, .h, 4, 2, 40⟩]⟩  /- DLNK.CFG (R378) -/,
   ⟨0x84, 4, 1, [
      ⟨0, 3, .wo, .l, 0, 0, 7⟩,
      ⟨3, 2, .ro, .l, 0, 0, 3⟩,
      ⟨5, 1, .ro, .l, 0, 0, 1⟩]⟩  /- DLNK.CTRL (R378) -/,
   ⟨0x88, 4, 1, [
      ⟨0, 4, .ro, .l, 0, 0, 15⟩,
      ⟨4, 2, .ro, .l, 0, 0, 3⟩,
      ⟨6, 2, .ro, .l, 0, 0, 3⟩,
      ⟨8, 3, .ro, .l, 0, 0, 7⟩,
      ⟨11, 4, .ro, .l, 0, 0, 15⟩,
      ⟨15, 1, .ro, .l, 0, 0, 1⟩,
      ⟨16, 8, .ro, .l, 0, 0, 255⟩]⟩  /- DLNK.STAT (R379) -/,
   ⟨0x8C, 4, 1, [
      ⟨0, 16, .ro, .l, 0, 0, 65535⟩,
      ⟨16, 16, .ro, .l, 0, 0, 65535⟩]⟩  /- DLNK.CNT (R379) -/]

/-- Registers of a page of kind dm. -/
def regsDm : List Reg :=
  [⟨0x80, 4, 1, [
      ⟨0, 1, .rw, .l, 1, 0, 1⟩,
      ⟨1, 3, .rw, .h, 4, 0, 7⟩]⟩  /- DM.CFG (R335) -/,
   ⟨0x84, 4, 1, [
      ⟨0, 32, .rw, .l, 0, 0, 4294967295⟩]⟩  /- DM.PIN0 (R335) -/,
   ⟨0x88, 4, 1, [
      ⟨0, 32, .rw, .l, 0, 0, 4294967295⟩]⟩  /- DM.PIN1 (R335) -/,
   ⟨0x8C, 4, 1, [
      ⟨0, 7, .ro, .l, 0, 0, 127⟩]⟩  /- DM.STAT (R335) -/]

/-- Registers of a page of kind dphy. -/
def regsDphy : List Reg :=
  [⟨0x80, 4, 1, [
      ⟨0, 7, .ro, .l, 0, 0, 127⟩,
      ⟨7, 7, .ro, .l, 0, 0, 127⟩,
      ⟨14, 7, .ro, .l, 0, 0, 127⟩,
      ⟨21, 7, .ro, .l, 0, 0, 127⟩,
      ⟨28, 1, .ro, .l, 0, 0, 1⟩,
      ⟨29, 1, .ro, .l, 0, 0, 1⟩]⟩  /- DPHY.MAP (R380) -/]

/-- Registers of a page of kind evr. -/
def regsEvr : List Reg :=
  [⟨0x80, 4, 1, [
      ⟨0, 10, .rw, .l, 0, 0, 767⟩]⟩  /- EVR.RIDX (R510) -/,
   ⟨0x84, 4, 1, [
      ⟨0, 14, .rw, .l, 0, 0, 16383⟩]⟩  /- EVR.ROUTE (R510) -/,
   ⟨0x88, 4, 1, [
      ⟨0, 10, .ro, .l, 0, 0, 1023⟩,
      ⟨31, 1, .ro, .l, 0, 0, 1⟩]⟩  /- EVR.CLAIM (R510) -/,
   ⟨0x8C, 4, 1, [
      ⟨0, 10, .ro, .l, 0, 0, 1023⟩,
      ⟨16, 16, .ro, .l, 0, 0, 65535⟩]⟩  /- EVR.STAT (R510) -/,
   ⟨0x100, 4, 24, [
      ⟨0, 32, .rw1c, .l, 0, 0, 4294967295⟩]⟩  /- EVR.PEND0-23 (R510) -/,
   ⟨0x180, 4, 24, [
      ⟨0, 32, .rw, .l, 0, 0, 4294967295⟩]⟩  /- EVR.EN0-23 (R510) -/]

/-- Registers of a page of kind fc. -/
def regsFc : List Reg :=
  [⟨0x80, 4, 1, [
      ⟨0, 3, .rw, .h, 3, 0, 7⟩,
      ⟨3, 1, .rw, .l, 1, 0, 1⟩,
      ⟨4, 1, .rw, .s, 0, 0, 1⟩]⟩  /- FC.CFG (R509) -/,
   ⟨0x84, 4, 1, [
      ⟨0, 16, .rw, .h, 1000, 0, 65535⟩,
      ⟨16, 16, .rw, .h, 1000, 0, 65535⟩]⟩  /- FC.QUIET_CD (R509) -/,
   ⟨0x88, 4, 1, [
      ⟨0, 16, .rw, .h, 1000, 0, 65535⟩,
      ⟨16, 16, .rw, .h, 1000, 0, 65535⟩]⟩  /- FC.QUIET_SP (R509) -/,
   ⟨0x8C, 4, 1, [
      ⟨0, 16, .rw, .h, 1000, 0, 65535⟩]⟩  /- FC.QUIET_F (R509) -/,
   ⟨0x90, 4, 1, [
      ⟨0, 2, .ro, .l, 0, 0, 3⟩,
      ⟨2, 1, .ro, .l, 0, 0, 1⟩,
      ⟨16, 16, .ro, .l, 0, 0, 65535⟩]⟩  /- FC.STAT (R509) -/,
   ⟨0x94, 4, 1, [
      ⟨0, 3, .wo, .l, 0, 0, 7⟩,
      ⟨3, 3, .rw, .l, 0, 0, 7⟩,
      ⟨6, 2, .ro, .l, 0, 0, 3⟩,
      ⟨8, 1, .ro, .l, 0, 0, 1⟩]⟩  /- FC.CMD (R509) -/,
   ⟨0x98, 4, 1, [
      ⟨0, 24, .rw, .l, 0, 0, 16777215⟩]⟩  /- FC.CMDARG (R509) -/,
   ⟨0x9C, 4, 1, [
      ⟨0, 16, .ro, .l, 0, 0, 65535⟩,
      ⟨16, 16, .rw1c, .l, 0, 0, 65535⟩]⟩  /- FC.LANE (R509) -/,
   ⟨0xA0, 4, 5, [
      ⟨0, 32, .ro, .l, 0, 0, 4294967295⟩]⟩  /- FC.RCNT_C-F (R509) -/,
   ⟨0xBC, 4, 1, [
      ⟨0, 16, .rw, .l, 0, 0, 65535⟩]⟩  /- FC.RSEL (R509) -/,
   ⟨0xC0, 4, 6, [
      ⟨0, 32, .ro, .l, 0, 0, 4294967295⟩]⟩  /- FC.REC0-5 (R507) -/]

/-- Registers of a page of kind fet. -/
def regsFet : List Reg :=
  [⟨0x80, 4, 1, [
      ⟨0, 2, .rwp, .l, 1, 0, 3⟩,
      ⟨2, 1, .rwp, .l, 0, 0, 1⟩,
      ⟨3, 8, .rwp, .l, 150, 100, 175⟩,
      ⟨11, 8, .rwp, .l, 80, 40, 120⟩,
      ⟨19, 8, .rwp, .l, 55, 0, 100⟩]⟩  /- FET.CFG (R442) -/,
   ⟨0x84, 4, 1, [
      ⟨0, 8, .rwp, .l, 50, 0, 255⟩,
      ⟨8, 8, .rwp, .l, 200, 0, 255⟩,
      ⟨16, 8, .rwp, .l, 10, 0, 255⟩,
      ⟨24, 8, .rwp, .l, 20, 0, 255⟩]⟩  /- FET.MODEL (R442) -/,
   ⟨0x88, 4, 1, [
      ⟨0, 8, .ro, .l, 0, 0, 255⟩,
      ⟨8, 8, .ro, .l, 0, 0, 255⟩,
      ⟨16, 1, .ro, .l, 0, 0, 1⟩,
      ⟨17, 1, .ro, .l, 0, 0, 1⟩]⟩  /- FET.STAT (R442) -/]

/-- Registers of a page of kind hld. -/
def regsHld : List Reg :=
  [⟨0x100, 4, 16, [
      ⟨0, 18, .rw, .s, 0, 0, 262143⟩,
      ⟨18, 5, .rw, .s, 31, 0, 31⟩]⟩  /- HLD.APCFG (R169) -/]

/-- Registers of a page of kind hlink. -/
def regsHlink : List Reg :=
  [⟨0x80, 4, 1, [
      ⟨0, 3, .rw, .s, 6, 0, 6⟩,
      ⟨3, 3, .rw, .s, 4, 0, 4⟩,
      ⟨6, 1, .rw, .s, 1, 0, 1⟩,
      ⟨7, 1, .rw, .h, 1, 0, 1⟩,
      ⟨8, 8, .rw, .h, 32, 0, 255⟩,
      ⟨16, 1, .wo, .l, 0, 0, 1⟩]⟩  /- HLINK.LCTRL (R88) -/,
   ⟨0x84, 4, 1, [
      ⟨0, 3, .ro, .l, 0, 0, 7⟩,
      ⟨3, 3, .ro, .l, 0, 0, 7⟩,
      ⟨6, 2, .ro, .l, 0, 0, 3⟩,
      ⟨8, 1, .ro, .l, 0, 0, 1⟩,
      ⟨9, 1, .ro, .l, 0, 0, 1⟩,
      ⟨10, 1, .ro, .l, 0, 0, 1⟩,
      ⟨11, 1, .ro, .l, 0, 0, 1⟩,
      ⟨12, 3, .ro, .l, 0, 0, 7⟩,
      ⟨15, 1, .ro, .l, 0, 0, 1⟩,
      ⟨16, 1, .ro, .l, 0, 0, 1⟩,
      ⟨17, 1, .ro, .l, 0, 0, 1⟩]⟩  /- HLINK.LSTAT (R89) -/,
   ⟨0x88, 4, 1, [
      ⟨0, 6, .rwp, .s, 16, 0, 63⟩,
      ⟨6, 5, .rwp, .s, 4, 0, 16⟩]⟩  /- HLINK.LDCFG (R90) -/]

/-- Registers of a page of kind hpgs. -/
def regsHpgs : List Reg :=
  [⟨0x80, 4, 1, [
      ⟨0, 2, .rwp, .s, 0, 0, 2⟩,
      ⟨2, 1, .rwp, .s, 0, 0, 1⟩,
      ⟨3, 1, .rwp, .s, 1, 0, 1⟩]⟩  /- HPGS.CFG (R86) -/,
   ⟨0x84, 4, 1, [
      ⟨0, 1, .ro, .l, 1, 0, 1⟩,
      ⟨1, 1, .ro, .l, 0, 0, 1⟩,
      ⟨2, 3, .ro, .l, 1, 0, 7⟩,
      ⟨5, 1, .wo, .l, 0, 0, 1⟩]⟩  /- HPGS.HRDY (R87) -/]

/-- Registers of a page of kind hreq. -/
def regsHreq : List Reg :=
  [⟨0x80, 4, 1, [
      ⟨0, 12, .rw, .h, 4095, 0, 4095⟩,
      ⟨12, 3, .rw, .h, 0, 0, 4⟩]⟩  /- HREQ.CFG (R91) -/,
   ⟨0x200, 64, 16, [
      ⟨0, 1, .rw, .l, 0, 0, 1⟩,
      ⟨1, 1, .rw, .s, 0, 0, 1⟩,
      ⟨2, 4, .rw, .s, 4, 4, 15⟩,
      ⟨6, 4, .rw, .h, 1, 0, 15⟩,
      ⟨10, 16, .rw, .s, 0, 0, 65535⟩,
      ⟨26, 1, .rw, .l, 0, 0, 1⟩]⟩  /- DMQ.CFG (R336) -/,
   ⟨0x204, 64, 16, [
      ⟨0, 2, .ro, .l, 0, 0, 3⟩,
      ⟨2, 4, .ro, .l, 0, 0, 15⟩,
      ⟨6, 3, .ro, .l, 0, 0, 7⟩]⟩  /- DMQ.STAT (R336) -/,
   ⟨0x208, 64, 16, [
      ⟨0, 32, .rw, .s, 0, 0, 4294967295⟩]⟩  /- DMQ.RING_LO (R336) -/,
   ⟨0x20C, 64, 16, [
      ⟨0, 32, .rw, .s, 0, 0, 4294967295⟩]⟩  /- DMQ.RING_HI (R336) -/,
   ⟨0x210, 64, 16, [
      ⟨0, 16, .rw, .l, 0, 0, 65535⟩]⟩  /- DMQ.TAIL (R336) -/,
   ⟨0x214, 64, 16, [
      ⟨0, 16, .rw, .s, 0, 0, 65535⟩]⟩  /- DMQ.HEAD (R336) -/,
   ⟨0x218, 64, 16, [
      ⟨0, 1, .wo, .l, 0, 0, 1⟩]⟩  /- DMQ.CTRL (R336) -/]

/-- Registers of a page of kind hsc. -/
def regsHsc : List Reg :=
  [⟨0x80, 4, 1, [
      ⟨0, 8, .rwp, .l, 44, 0, 80⟩,
      ⟨8, 8, .rwp, .l, 30, 0, 70⟩,
      ⟨16, 6, .rwp, .h, 2, 1, 32⟩,
      ⟨22, 5, .rwp, .h, 10, 2, 20⟩,
      ⟨27, 1, .rwp, .l, 1, 0, 1⟩]⟩  /- HSC.CFG (R440) -/,
   ⟨0x84, 4, 1, [
      ⟨0, 7, .rwp, .l, 100, 10, 100⟩,
      ⟨7, 7, .rwp, .l, 8, 1, 64⟩]⟩  /- HSC.LIM (R440) -/,
   ⟨0x88, 4, 1, [
      ⟨0, 4, .ro, .l, 0, 0, 15⟩,
      ⟨4, 1, .ro, .l, 0, 0, 1⟩,
      ⟨5, 1, .ro, .l, 0, 0, 1⟩,
      ⟨6, 1, .ro, .l, 0, 0, 1⟩,
      ⟨7, 1, .ro, .l, 0, 0, 1⟩,
      ⟨8, 4, .ro, .l, 0, 0, 15⟩,
      ⟨12, 3, .ro, .l, 0, 0, 7⟩,
      ⟨15, 1, .ro, .l, 0, 0, 1⟩,
      ⟨16, 16, .ro, .l, 0, 0, 65535⟩]⟩  /- HSC.STAT (R441) -/,
   ⟨0x8C, 4, 1, [
      ⟨0, 3, .wo, .l, 0, 0, 7⟩,
      ⟨3, 2, .ro, .l, 0, 0, 3⟩,
      ⟨5, 1, .ro, .l, 0, 0, 1⟩]⟩  /- HSC.CMD (R441) -/,
   ⟨0x90, 4, 1, [
      ⟨0, 8, .ro, .l, 0, 0, 255⟩,
      ⟨8, 1, .ro, .l, 0, 0, 1⟩,
      ⟨9, 1, .ro, .l, 0, 0, 1⟩,
      ⟨10, 3, .ro, .l, 0, 0, 7⟩,
      ⟨13, 19, .ro, .l, 0, 0, 524287⟩]⟩  /- HSC.TRIP (R441) -/]

/-- Registers of a page of kind hsq. -/
def regsHsq : List Reg :=
  [⟨0x80, 4, 1, [
      ⟨0, 10, .ro, .l, 0, 0, 1023⟩,
      ⟨10, 10, .ro, .l, 352, 0, 1023⟩,
      ⟨20, 9, .ro, .l, 0, 0, 511⟩]⟩  /- HSQ.STAT (R164) -/]

/-- Registers of a page of kind keys. -/
def regsKeys : List Reg :=
  [⟨0x80, 4, 1, [
      ⟨0, 1, .ro, .l, 0, 0, 1⟩,
      ⟨1, 1, .ro, .l, 0, 0, 1⟩,
      ⟨2, 14, .ro, .l, 0, 0, 16383⟩,
      ⟨16, 16, .ro, .l, 0, 0, 65535⟩]⟩  /- KEYS.STAT (R287) -/]

/-- Registers of a page of kind land. -/
def regsLand : List Reg :=
  [⟨0x80, 4, 1, [
      ⟨0, 18, .rw, .s, 0, 0, 262143⟩,
      ⟨18, 1, .rw, .l, 0, 0, 1⟩]⟩  /- LAND.CTRL (R130) -/,
   ⟨0x84, 4, 1, [
      ⟨0, 16, .rw, .s, 0, 0, 65535⟩,
      ⟨16, 16, .rw, .s, 0, 0, 65535⟩]⟩  /- LAND.SRC (R130) -/,
   ⟨0x88, 4, 1, [
      ⟨0, 17, .rw, .l, 0, 0, 131071⟩]⟩  /- LAND.HALF (R130) -/]

/-- Registers of a page of kind lazy. -/
def regsLazy : List Reg :=
  [⟨0x80, 4, 1, [
      ⟨0, 1, .rw, .l, 1, 0, 1⟩,
      ⟨1, 8, .rw, .h, 16, 1, 255⟩]⟩  /- LAZY.CFG (R287) -/,
   ⟨0x84, 4, 1, [
      ⟨0, 23, .ro, .l, 0, 0, 8388607⟩,
      ⟨23, 9, .ro, .l, 0, 0, 511⟩]⟩  /- LAZY.STAT (R287) -/]

/-- Registers of a page of kind log. -/
def regsLog : List Reg :=
  [⟨0x80, 4, 1, [
      ⟨0, 16, .ro, .l, 0, 0, 65535⟩]⟩  /- LOG.WPTR (R483) -/,
   ⟨0x84, 4, 1, [
      ⟨0, 32, .ro, .l, 0, 0, 4294967295⟩]⟩  /- LOG.STAT (R483) -/]

/-- Registers of a page of kind mcache. -/
def regsMcache : List Reg :=
  [⟨0x80, 4, 1, [
      ⟨0, 14, .rw, .h, 2048, 0, 16383⟩,
      ⟨14, 1, .wo, .l, 0, 0, 1⟩]⟩  /- MCACHE.CFG (R168) -/,
   ⟨0x84, 4, 1, [
      ⟨0, 14, .ro, .l, 0, 0, 16383⟩,
      ⟨14, 1, .ro, .l, 0, 0, 1⟩,
      ⟨16, 16, .ro, .l, 0, 0, 65535⟩]⟩  /- MCACHE.STAT (R168) -/]

/-- Registers of a page of kind mcore. -/
def regsMcore : List Reg :=
  [⟨0x80, 4, 1, [
      ⟨0, 1, .rw, .l, 0, 0, 1⟩,
      ⟨1, 1, .rw, .l, 0, 0, 1⟩,
      ⟨2, 1, .ro, .l, 0, 0, 1⟩,
      ⟨3, 1, .ro, .l, 0, 0, 1⟩]⟩  /- MCORE.CCTL (R482) -/,
   ⟨0x84, 4, 1, [
      ⟨0, 2, .wo, .l, 0, 0, 3⟩,
      ⟨2, 1, .wo, .l, 0, 0, 1⟩,
      ⟨3, 1, .wo, .l, 0, 0, 1⟩,
      ⟨4, 1, .wo, .l, 0, 0, 1⟩,
      ⟨5, 7, .wo, .l, 0, 0, 127⟩,
      ⟨12, 2, .wo, .l, 0, 0, 3⟩]⟩  /- MCORE.CMAINT (R482) -/,
   ⟨0x88, 4, 1, [
      ⟨0, 32, .rw, .l, 0, 0, 4294967295⟩]⟩  /- MCORE.CADDR (R482) -/]

/-- Registers of a page of kind phy. -/
def regsPhy : List Reg :=
  [⟨0x100, 4, 16, [
      ⟨0, 6, .ro, .l, 0, 0, 63⟩,
      ⟨6, 6, .ro, .l, 0, 0, 63⟩,
      ⟨12, 7, .ro, .l, 0, 0, 127⟩,
      ⟨19, 7, .ro, .l, 0, 0, 127⟩,
      ⟨26, 1, .ro, .l, 0, 0, 1⟩,
      ⟨27, 1, .ro, .l, 0, 0, 1⟩]⟩  /- LMRG (R484) -/]

/-- Registers of a page of kind pool. -/
def regsPool : List Reg :=
  [⟨0x80, 4, 1, [
      ⟨0, 16, .rwp, .s, 0, 0, 65535⟩,
      ⟨16, 1, .ro, .l, 0, 0, 1⟩]⟩  /- POOL.NODE (R130) -/]

/-- Registers of a page of kind prot. -/
def regsProt : List Reg :=
  [⟨0x80, 4, 1, [
      ⟨0, 16, .ro, .l, 0, 0, 65535⟩,
      ⟨16, 16, .ro, .l, 0, 0, 65535⟩]⟩  /- PROT.STAT (R286) -/]

/-- Registers of a page of kind pwr. -/
def regsPwr : List Reg :=
  [⟨0x80, 4, 1, [
      ⟨0, 1, .rw, .l, 1, 0, 1⟩,
      ⟨1, 7, .rw, .h, 10, 0, 127⟩]⟩  /- PWR.CFG (R407) -/,
   ⟨0x84, 4, 1, [
      ⟨0, 1, .rwp, .l, 0, 0, 1⟩,
      ⟨1, 2, .rwp, .l, 0, 0, 3⟩,
      ⟨3, 1, .rwp, .l, 0, 0, 1⟩,
      ⟨4, 2, .rwp, .l, 0, 0, 3⟩,
      ⟨6, 1, .rw1c, .l, 0, 0, 1⟩,
      ⟨7, 1, .rw1c, .l, 0, 0, 1⟩]⟩  /- PWR.WAKE (R407) -/,
   ⟨0x88, 4, 1, [
      ⟨0, 1, .ro, .l, 0, 0, 1⟩,
      ⟨1, 9, .ro, .l, 0, 0, 511⟩,
      ⟨10, 16, .ro, .l, 0, 0, 65535⟩]⟩  /- PWR.STAT (R407) -/,
   ⟨0x8C, 4, 1, [
      ⟨0, 9, .rw, .l, 0, 0, 383⟩,
      ⟨9, 2, .wo, .l, 0, 0, 3⟩,
      ⟨11, 2, .ro, .l, 0, 0, 3⟩,
      ⟨13, 1, .ro, .l, 0, 0, 1⟩,
      ⟨14, 1, .ro, .l, 0, 0, 1⟩]⟩  /- CLK.DSEL (R407) -/,
   ⟨0x100, 4, 12, [
      ⟨0, 32, .ro, .l, 0, 0, 4294967295⟩]⟩  /- CLK.GATED0-11 (R406) -/,
   ⟨0x140, 4, 12, [
      ⟨0, 32, .ro, .l, 0, 0, 4294967295⟩]⟩  /- PWR.DOWN0-11 (R406) -/]

/-- Registers of a page of kind root. -/
def regsRoot : List Reg :=
  [⟨0x80, 4, 1, [
      ⟨0, 2, .ro, .l, 0, 0, 3⟩,
      ⟨2, 6, .ro, .l, 0, 0, 63⟩,
      ⟨8, 8, .ro, .l, 0, 0, 255⟩]⟩  /- ROOT.STAT (R286) -/]

/-- Registers of a page of kind rstore. -/
def regsRstore : List Reg :=
  [⟨0x80, 4, 1, [
      ⟨0, 16, .rw, .l, 0, 0, 65535⟩]⟩  /- RSTORE.ADDR (R483) -/,
   ⟨0x84, 4, 1, [
      ⟨0, 32, .rw, .l, 0, 0, 4294967295⟩]⟩  /- RSTORE.DATA (R483) -/,
   ⟨0x88, 4, 1, [
      ⟨0, 32, .ro, .l, 0, 0, 4294967295⟩]⟩  /- RSTORE.WEAR (R483) -/,
   ⟨0x8C, 4, 1, [
      ⟨0, 1, .ro, .l, 0, 0, 1⟩,
      ⟨1, 2, .ro, .l, 0, 0, 3⟩,
      ⟨3, 2, .ro, .l, 0, 0, 3⟩,
      ⟨16, 16, .ro, .l, 0, 0, 65535⟩]⟩  /- RSTORE.STAT (R483) -/]

/-- Registers of a page of kind sb. -/
def regsSb : List Reg :=
  [⟨0x80, 4, 1, [
      ⟨0, 7, .rwp, .s, 90, 0, 127⟩,
      ⟨7, 1, .ro, .l, 0, 0, 1⟩,
      ⟨8, 1, .rwp, .l, 0, 0, 1⟩]⟩  /- SB.CFG (R483) -/]

/-- Registers of a page of kind sens. -/
def regsSens : List Reg :=
  [⟨0x80, 4, 3, [
      ⟨0, 16, .ro, .l, 0, 0, 65535⟩]⟩  /- SENS.VIN, IIN, PIN (R484) -/,
   ⟨0x90, 4, 2, [
      ⟨0, 32, .ro, .l, 0, 0, 4294967295⟩]⟩  /- SENS.EIN (two words) (R484) -/,
   ⟨0x98, 4, 1, [
      ⟨0, 8, .rw, .l, 100, 0, 255⟩]⟩  /- SENS.CFG (R484) -/,
   ⟨0xA0, 4, 24, [
      ⟨0, 16, .ro, .l, 0, 0, 65535⟩,
      ⟨16, 16, .ro, .l, 0, 0, 65535⟩]⟩  /- SENS.DIE0-23 (R484) -/,
   ⟨0x100, 4, 128, [
      ⟨0, 32, .ro, .l, 0, 0, 4294967295⟩]⟩  /- LEDG.E0-63 (two words each) (R484) -/,
   ⟨0x300, 4, 2, [
      ⟨0, 32, .ro, .l, 0, 0, 4294967295⟩]⟩  /- LEDG.UNASSIGNED (two words) (R484) -/,
   ⟨0x308, 4, 1, [
      ⟨0, 32, .rw, .h, 0, 0, 4294967295⟩]⟩  /- LEDG.BASE (R484) -/,
   ⟨0x30C, 4, 1, [
      ⟨0, 8, .rw, .h, 4, 0, 255⟩,
      ⟨8, 8, .rw, .h, 2, 0, 255⟩,
      ⟨16, 8, .rw, .h, 3, 0, 255⟩,
      ⟨24, 8, .rw, .h, 2, 0, 255⟩]⟩  /- LEDG.W (R484) -/,
   ⟨0x310, 4, 1, [
      ⟨0, 1, .rw, .l, 1, 0, 1⟩,
      ⟨1, 8, .rw, .h, 24, 1, 255⟩,
      ⟨9, 6, .rw, .h, 6, 0, 32⟩,
      ⟨15, 7, .rw, .h, 12, 0, 64⟩]⟩  /- MGN.CFG (R484) -/,
   ⟨0x320, 4, 7, [
      ⟨0, 16, .ro, .l, 0, 0, 65535⟩,
      ⟨16, 16, .ro, .l, 0, 0, 65535⟩]⟩  /- SENS.RAIL0-6 (R484) -/]

/-- Registers of a page of kind sf. -/
def regsSf : List Reg :=
  [⟨0x80, 4, 1, [
      ⟨0, 4, .rw, .h, 5, 2, 10⟩]⟩  /- SF.CFG (R165) -/,
   ⟨0x84, 4, 1, [
      ⟨0, 18, .ro, .l, 0, 0, 262143⟩,
      ⟨18, 14, .ro, .l, 0, 0, 16383⟩]⟩  /- SF.STAT (R165) -/,
   ⟨0x88, 4, 1, [
      ⟨0, 32, .ro, .l, 0, 0, 4294967295⟩]⟩  /- SF.LOST0 (R166) -/,
   ⟨0x8C, 4, 1, [
      ⟨0, 32, .ro, .l, 0, 0, 4294967295⟩]⟩  /- SF.LOST1 (R166) -/,
   ⟨0x90, 4, 1, [
      ⟨0, 16, .ro, .l, 0, 0, 65535⟩]⟩  /- SF.LOST2 (R166) -/]

/-- Registers of a page of kind tier. -/
def regsTier : List Reg :=
  [⟨0x80, 4, 1, [
      ⟨0, 10, .rw, .h, 100, 1, 1000⟩,
      ⟨10, 7, .rw, .h, 60, 1, 120⟩,
      ⟨17, 7, .rw, .h, 32, 8, 64⟩,
      ⟨24, 4, .rw, .h, 2, 0, 15⟩,
      ⟨28, 1, .rw, .l, 1, 0, 1⟩,
      ⟨29, 1, .rw, .h, 1, 0, 1⟩,
      ⟨30, 1, .rw, .l, 1, 0, 1⟩,
      ⟨31, 1, .rw, .l, 1, 0, 1⟩]⟩  /- TIER.CFG (R249) -/,
   ⟨0x84, 4, 1, [
      ⟨0, 8, .rw, .h, 8, 1, 255⟩,
      ⟨8, 8, .rw, .h, 32, 1, 255⟩,
      ⟨16, 7, .rw, .h, 8, 1, 120⟩]⟩  /- TIER.RATE (R250) -/,
   ⟨0x88, 4, 1, [
      ⟨0, 8, .ro, .l, 0, 0, 255⟩,
      ⟨8, 1, .ro, .l, 0, 0, 1⟩]⟩  /- TIER.EPOCH (R250) -/,
   ⟨0x8C, 4, 1, [
      ⟨0, 12, .rw, .l, 0, 0, 4095⟩,
      ⟨12, 2, .wo, .l, 0, 0, 3⟩,
      ⟨14, 2, .ro, .l, 0, 0, 3⟩,
      ⟨16, 1, .ro, .l, 0, 0, 1⟩]⟩  /- TIER.CMD (R250) -/,
   ⟨0x90, 4, 7, [
      ⟨0, 32, .ro, .l, 0, 0, 4294967295⟩]⟩  /- TIER.CNT0-6 (R250) -/,
   ⟨0xBC, 4, 1, [
      ⟨0, 12, .rw, .l, 0, 0, 4095⟩,
      ⟨12, 1, .rw, .l, 1, 0, 1⟩]⟩  /- TIER.HCFG (R250) -/,
   ⟨0xC0, 4, 8, [
      ⟨0, 32, .rw, .l, 0, 0, 4294967295⟩]⟩  /- TIER.HIST0-7 (R250) -/]

/-- Registers of a page of kind trc. -/
def regsTrc : List Reg :=
  [⟨0x80, 4, 1, [
      ⟨0, 1, .rw, .l, 1, 0, 1⟩,
      ⟨1, 1, .rw, .l, 0, 0, 1⟩,
      ⟨2, 1, .rw, .h, 0, 0, 1⟩,
      ⟨3, 5, .rw, .s, 16, 10, 16⟩]⟩  /- TRC.CFG (R523) -/,
   ⟨0x84, 4, 1, [
      ⟨0, 5, .rw, .l, 10, 0, 31⟩]⟩  /- TRC.RATE (R523) -/,
   ⟨0x88, 4, 1, [
      ⟨0, 7, .rw, .l, 0, 0, 127⟩,
      ⟨7, 1, .rw, .l, 1, 0, 1⟩,
      ⟨8, 5, .rw, .l, 0, 0, 31⟩,
      ⟨13, 1, .rw, .l, 1, 0, 1⟩,
      ⟨14, 16, .rw, .l, 0, 0, 65535⟩]⟩  /- TRC.FILT (R523) -/,
   ⟨0x8C, 4, 1, [
      ⟨0, 16, .ro, .l, 0, 0, 65535⟩,
      ⟨16, 16, .ro, .l, 0, 0, 65535⟩]⟩  /- TRC.WPTR (R523) -/,
   ⟨0x90, 4, 1, [
      ⟨0, 16, .rw, .l, 0, 0, 65535⟩]⟩  /- TRC.RPTR (R523) -/,
   ⟨0x94, 4, 1, [
      ⟨0, 16, .ro, .l, 0, 0, 65535⟩,
      ⟨16, 1, .ro, .l, 0, 0, 1⟩]⟩  /- TRC.STAT (R523) -/,
   ⟨0x98, 4, 1, [
      ⟨0, 1, .rw, .l, 0, 0, 1⟩,
      ⟨1, 1, .wo, .l, 0, 0, 1⟩]⟩  /- PMC.GCTL (R522) -/]

/-- Registers of a page of kind trcw. -/
def regsTrcw : List Reg :=
  [⟨0x80, 4, 1, [
      ⟨0, 16, .rw, .l, 0, 0, 65535⟩]⟩  /- TRC.WBASE (R523) -/]

end Sys2Proof.Machine
end

