-- ==== Sys2Proof/Machine/Operands.lean ====
section
/-! DEFINITION. Register operands: which registers a page holds, the active and the stored value of
a register and its fields (R12-R15, R530, R537, R540). -/

namespace Sys2Proof.Machine

/-- Link number 4n + k of a page of a host link. -/
def linkOfPage (p : Nat) : Nat := (pgSlot p - 4) * 8 + pgCluster p * 4 + pgSlice p

/-- Port group of a page of a Chervil. -/
def grpOfPage (p : Nat) : Nat := (pgSlot p - 4) * 2 + pgCluster p

/-- Channel of a page of a DDR5 channel (R22). -/
def chanOfPage (p : Nat) : Nat := (pgSlot p - 8) * 4 + pgCluster p * 2 + (pgSlice p - 4)

/-- Home slice of a page (R34). -/
def hsOfPage (p : Nat) : Nat := (pgSlot p - 8) * 8 + pgCluster p * 4 + pgSlice p

/-- Cluster 2 x Lovage + cluster of a page. -/
def clusterOfPage (p : Nat) : Nat := (pgSlot p - 8) * 2 + pgCluster p

/-- Module end of a page. -/
def modOfPage (p : Nat) : Nat :=
  if pgSlot p = 2 then (if pgCluster p = 0 then pgSlice p else 8 + pgSlice p)
  else if pgSlot p = 0 then 33
  else if pgSlot p < 8 then 19 + (pgSlot p - 4) * 3 + pgSlice p
  else 25 + (pgSlot p - 8) * 2 + pgSlice p

/-- The block-specific registers of a page of an Ozquenko chiplet. -/
def kindOf (p : Nat) : PageKind :=
  let slot := pgSlot p
  let cl := pgCluster p
  let sl := pgSlice p
  let en := pgEngine p
  if p = dillPage then .kDill
  else if cl = 3 ∨ sl = 15 ∨ en = 63 then .plain
  else if pageKindCode p = 0x030 then (if en = 0 then .kDlnk else if en = 1 then .kDphy else .plain)
  else if slot = 0 then
    if sl < 2 then .kMcore
    else if sl = 2 then .kFc
    else if sl = 3 then .kRstore
    else if sl = 4 then (if en = 0 then .kLog else .kEvr)
    else if sl = 5 then .kSb
    else if sl = 6 then (if en = 0 then .kClkr else if en = 1 then .kClkl else .kPwr)
    else if sl = 7 then .kKeys
    else if sl = 8 then .kSens
    else .plain
  else if slot = 1 then (if sl = 0 then .kHsc else if sl = 3 then .kFet else .plain)
  else if slot = 2 then
    if cl = 0 then (if sl = 8 ∧ en = 1 then .kAmap else if sl = 8 ∧ en = 2 then .kBrg else .plain)
    else if sl = 0 then .kTier
    else if sl = 1 then .kDm
    else if sl = 2 then (if en = 0 then .kPool else .kLand)
    else if en = 0 then .kTrc else .kTrcw
  else if slot < 8 then
    if sl < 4 then
      (if en = 0 then .kHlink else if en = 3 then .kHld else if en = 4 then .kHreq else .plain)
    else if sl = 4 then .kPhy
    else if en = 1 then .kHpgs else .plain
  else if cl = 2 then .kLazy
  else if sl < 4 then
    if en = 0 then .kHsq else if en = 1 then .kSf else if en = 2 then .kAtom
    else if en = 4 then .kProt else if en = 5 then .kCtw else if en = 6 then .kRoot
    else if en = 7 then .kMcache else .plain
  else if sl < 6 then
    if en = 0 then .kDdrc else if en = 1 then .kDdrr else if en = 2 then .kDdre
    else if en = 3 then .kDdrs else if en = 4 then .kDdrp else if en = 5 then .kDdri else .plain
  else if en = 2 then .kBinf else .kCmpe

/-- The block-specific registers of a kind. -/
def kindRegs : PageKind → List Reg
  | .plain => []
  | .kAmap => regsAmap | .kAtom => regsAtom | .kBinf => regsBinf | .kBrg => regsBrg
  | .kClkl => regsClkl | .kClkr => regsClkr | .kCmpe => regsCmpe | .kCtw => regsCtw
  | .kDdrc => regsDdrc | .kDdre => regsDdre | .kDdri => regsDdri | .kDdrp => regsDdrp
  | .kDdrr => regsDdrr | .kDdrs => regsDdrs | .kDill => regsDill | .kDlnk => regsDlnk
  | .kDm => regsDm | .kDphy => regsDphy | .kEvr => regsEvr | .kFc => regsFc | .kFet => regsFet
  | .kHld => regsHld | .kHlink => regsHlink | .kHpgs => regsHpgs | .kHreq => regsHreq
  | .kHsc => regsHsc | .kHsq => regsHsq | .kKeys => regsKeys | .kLand => regsLand
  | .kLazy => regsLazy | .kLog => regsLog | .kMcache => regsMcache | .kMcore => regsMcore
  | .kPhy => regsPhy | .kPool => regsPool | .kProt => regsProt | .kPwr => regsPwr
  | .kRoot => regsRoot | .kRstore => regsRstore | .kSb => regsSb | .kSens => regsSens
  | .kSf => regsSf | .kTier => regsTier | .kTrc => regsTrc | .kTrcw => regsTrcw

/-- A register of a list lies at a page offset. -/
def Reg.at (r : Reg) (x : Nat) : Bool :=
  decide (r.off ≤ x) && (x - r.off) % r.stride == 0 && decide ((x - r.off) / r.stride < r.count)

/-- The register at a window offset of an Ozquenko page; none where no chapter defines one (R530).
DDRP.MIR is in even channels only (R212). -/
def regAt (off : Nat) : Option Reg :=
  let p := off / 4096
  let x := off % 4096
  if x < 0x80 then regsCommon.find? (·.at x)
  else if kindOf p = .kDdrp ∧ x = 0x8C ∧ chanOfPage p % 2 = 1 then none
  else (kindRegs (kindOf p)).find? (·.at x)

/-- The bits of a field. -/
def Field.mask (f : Field) : Nat := (2 ^ f.w - 1) <<< f.lo

/-- A number with the bits of some fields only. -/
def maskOf (fs : List Field) : Nat := fs.foldl (fun a f => a ||| f.mask) 0

/-- A field is held in the retained store (R540). -/
def Field.isRwp (f : Field) : Bool := f.acc == .rwp

/-- The reset value, for RWP fields the factory value, of the register at an offset; HLINK.LDCFG's
LD_BASE ships as 16n + 4k (R90). -/
def resetWord (off : Nat) (r : Reg) : Nat :=
  let v := r.fields.foldl (fun a f => a ||| (f.rst <<< f.lo)) 0
  if kindOf (off / 4096) = .kHlink ∧ off % 4096 = 0x88 then
    linkOfPage (off / 4096) * 4 + (4 <<< 6)
  else v

/-- The key of the backing word of the register at an offset (R461, assumption 11). -/
def backKey (off : Nat) : Nat := 0x10000 + off

/-- The RWP bits of a register as stored: the backing word, or the factory value where the word has
never been written or is uncorrectable (R540, R462). -/
def State.backing (s : State) (off : Nat) (r : Reg) : Nat :=
  let fac := resetWord off r &&& maskOf (r.fields.filter Field.isRwp)
  if s.ret.ue.contains (backKey off) then fac
  else (look (BitVec.ofNat 32 fac) s.ret.words (backKey off)).toNat

/-- The active value of a register: what the block works with (R537, R540). An RWP field of class H
works with the value that the last commit or reset loaded from the store. -/
def State.activeWord (s : State) (off : Nat) : Nat :=
  match regAt off with
  | none => 0
  | some r =>
    let own := (look (BitVec.ofNat 32 (resetWord off r)) s.regs.active off).toNat
    let fromBack := maskOf (r.fields.filter (fun f => f.isRwp && f.cls != .h))
    (own &&& (0xFFFFFFFF ^^^ fromBack)) ||| (s.backing off r &&& fromBack)

/-- The staged H fields of a register over a base value (R537). -/
def State.stagedWord (s : State) (off : Nat) (base : Nat) : Nat :=
  match look? s.regs.staged off with
  | some v => v.toNat
  | none => match look? s.regs.going off with
    | some v => v.toNat
    | none => base

/-- The stored value of a register: what a read of its RW and RWP fields returns (R12, R537,
R540). -/
def State.storedWord (s : State) (off : Nat) : Nat :=
  match regAt off with
  | none => 0
  | some r =>
    let act := s.activeWord off
    let hm := maskOf (r.fields.filter (fun f => f.cls == .h && !f.isRwp))
    let pm := maskOf (r.fields.filter Field.isRwp)
    let v := (act &&& (0xFFFFFFFF ^^^ hm)) ||| (s.stagedWord off act &&& hm)
    (v &&& (0xFFFFFFFF ^^^ pm)) ||| (s.backing off r &&& pm)

/-- The active value of bits [lo + w - 1 : lo] of the register at an offset of a page. -/
def State.cfg (s : State) (p x lo w : Nat) : Nat := bits (s.activeWord (p * 4096 + x)) lo w

/-- An active bit of a register. -/
def State.cfgBit (s : State) (p x lo : Nat) : Bool := s.cfg p x lo 1 == 1

/-- Set the active value of a register that holds no RWP field, without any check: what the
hardware itself writes. -/
def State.setReg (s : State) (p x : Nat) (v : Word) : State :=
  let off := p * 4096 + x
  let rst := match regAt off with
    | none => 0
    | some r => resetWord off r
  s.withRegs { s.regs with active := put (BitVec.ofNat 32 rst) s.regs.active off v }

/-- Set bits of a register's active value. -/
def State.setBits (s : State) (p x lo w v : Nat) : State :=
  s.setReg p x (setField (BitVec.ofNat 32 (s.activeWord (p * 4096 + x))) lo w v)

end Sys2Proof.Machine
end

