-- ==== Sys2Proof/Machine/Flit.lean ====
section
/-! DEFINITION. Flits of the Dunas link: their bytes and CRC, message headers and data slots, link-control
flits, and their places on the logical lanes (R340, R346-R349, R359-R361). -/

namespace Sys2Proof.Machine

/-! ### Flits -/

/-- One bit of the CRC-32 register of a flit, most significant bit first (R347). -/
def flitCrcBit (c : Nat) : Nat :=
  if 2 ^ 31 ≤ c then ((2 * c) % 2 ^ 32) ^^^ 0x04C11DB7 else (2 * c) % 2 ^ 32

/-- One byte of the CRC-32 register of a flit (R347). -/
def flitCrcByte (c : Nat) (b : Byte) : Nat :=
  (upTo 8).foldl (fun c _ => flitCrcBit c) (c ^^^ (b.toNat * 2 ^ 24))

/-- CRC of a flit under a 2-byte prefix (R347). -/
def flitCrc (pre : Nat) (d : List Byte) : Nat :=
  ((BitVec.ofNat 8 (pre / 256) :: BitVec.ofNat 8 pre :: d).foldl flitCrcByte 0xFFFFFFFF) ^^^ 0xFFFFFFFF

/-- n bytes of a flit from byte i, the most significant at the lowest index (R346). -/
def flitBytes (f : BitVec 512) (i n : Nat) : Nat :=
  (upTo n).foldl (fun a k => a * 256 + (lineByte f (i + k)).toNat) 0

/-- A flit passes its CRC under a prefix (R347). -/
def flitOk (f : BitVec 512) (pre : Nat) : Bool :=
  flitCrc pre ((upTo 60).map (lineByte f)) == flitBytes f 60 4

/-- KIND of a flit (R348). -/
def flitKind (f : BitVec 512) : Nat := bits (flitBytes f 0 4) 30 2

/-- SLOTS code of slot s (R348). -/
def slotCode (f : BitVec 512) (s : Nat) : Nat := bits (flitBytes f 0 4) (2 * s) 2

/-- Opcode of a header slot (R359). -/
def slotOpc (f : BitVec 512) (s : Nat) : Nat := bits (flitBytes f (4 + 8 * s) 8) 58 6

/-- Data slots of a message by opcode; none: not listed (R360). -/
def opcSlots (o : Nat) : Option Nat :=
  if 1 ≤ o ∧ o ≤ 5 then some 0
  else if o = 6 ∨ o = 8 then some 8
  else if o = 7 ∨ o = 0x0C then some 9
  else if o = 9 then some 5
  else if o = 0x0D then some 0
  else if o = 0x10 ∨ o = 0x18 then some 8
  else if o = 0x12 then some 2
  else if o = 0x11 ∨ (0x13 ≤ o ∧ o ≤ 0x15) then some 0
  else if 0x20 ≤ o ∧ o ≤ 0x22 then some 0
  else if o = 0x28 ∨ o = 0x2A ∨ o = 0x2C ∨ o = 0x2E then some 0
  else if o = 0x29 ∨ o = 0x2B ∨ o = 0x2D then some 8
  else if o = 0x30 then some 0
  else if o = 0x31 ∨ o = 0x38 ∨ o = 0x39 then some 1
  else none

/-! ### Making flits -/

/-- A field of n bytes of a flit, the most significant at the lowest index (R346). -/
def beBytes (n v : Nat) : List Byte := (toBytes n v).reverse

/-- The 64 bytes of a flit from its header, its 56 slot bytes and the prefix of its CRC (R346, R347). -/
def makeFlit (hdr : Nat) (body : List Byte) (pre : Nat) : BitVec 512 :=
  let d := beBytes 4 hdr ++ (body ++ List.replicate 56 0).take 56
  BitVec.ofNat 512 (ofBytes (d ++ beBytes 4 (flitCrc pre d)))

/-- The value of a message header slot (R359). -/
def headerOf (opc tag agent attr addr : Nat) : Nat :=
  (bits opc 0 6 <<< 58) ||| (bits tag 0 10 <<< 48) ||| (bits agent 0 4 <<< 44) ||| (bits attr 0 4 <<< 40) |||
    bits addr 0 40

/-- Opcode of a snoop of R146 to a Borage agent (R360, R367). -/
def snoopOpc (k : Nat) : Nat := if k = 2 then 0x20 else if k = 1 then 0x21 else 0x22

/-- The header slot of a message to Borage (R359, R360). -/
def Msg.header : Msg → Nat
  | .snoop a k line => headerOf (snoopOpc k) (Config.snoopTag a line).toNat (a - 64) 0 line
  | .conflictAck a line => headerOf 0x15 (Config.snoopTag a line).toNat (a - 64) 0 line
  | .retry _ _ credit a tag line => headerOf 0x13 tag (a - 64) (8 * b2n credit) line
  | .creditGrant hs _ => headerOf 0x14 0 0 0 hs
  | .brgData line a tag _ poison st => headerOf 0x10 tag (a - 64) (8 * b2n poison + st) line
  | .brgCmp line a tag err st => headerOf 0x11 tag (a - 64) (8 * b2n err + st) line
  | .brgAtomic line a tag _ refused => headerOf 0x12 tag (a - 64) (8 * b2n refused) line
  | .fwdWr ld off _ _ => headerOf 0x0C 0 0 0 (ld * 2 ^ 34 + off)
  | .fwdRd tag ld off => headerOf 0x0D tag 0 0 (ld * 2 ^ 34 + off)
  | .regReq tag m off wr => headerOf (if wr.isSome then 0x31 else 0x30) tag m (if wr.isSome then 15 else 0) off
  | _ => 0

/-- A line in eight data slots: slot k byte u holds line byte 8k + u (R346). -/
def lineSlots (d : Line) : List (List Byte) := (upTo 8).map (fun k => (upTo 8).map (fun u => lineByte d (8 * k + u)))

/-- The data slots of a message to Borage (R361). -/
def Msg.slots : Msg → List (List Byte)
  | .brgData _ _ _ d _ _ => lineSlots d
  | .brgAtomic _ _ _ old _ => [(beBytes 16 old.toNat).take 8, (beBytes 16 old.toNat).drop 8]
  | .fwdWr _ _ mask d => beBytes 8 mask.toNat :: lineSlots d
  | .regReq _ _ _ (some w) => [beBytes 8 w.toNat]
  | _ => []

/-- The message flits of a message from sequence number `seq` on: its header slot and then its data slots, in
consecutive slots; the last flit ends with idle slots (R348, R350). -/
def Msg.flits (m : Msg) (seq : Nat) : List (BitVec 512) :=
  let l := (1, beBytes 8 m.header) :: m.slots.map (fun b => (2, b))
  (upTo (ceilDiv l.length 7)).map (fun i =>
    let c := (l.drop (7 * i)).take 7
    makeFlit (((upTo 7).map (fun k => ((c.map (·.1)).getD k 0) <<< (2 * k))).foldl (· ||| ·) 0)
      (c.map (·.2)).flatten ((seq + i) % 4096))

/-- A message flit under another sequence number (R347). -/
def renumber (f : BitVec 512) (seq : Nat) : BitVec 512 :=
  makeFlit (flitBytes f 0 4) (((upTo 56).map (fun u => lineByte f (4 + u)))) seq

/-- The bytes from byte 4 on of a link-control flit (R349). -/
def ctlBody (lctype : Nat) (p : List Nat) : List Byte :=
  let counts := fun (l : List Nat) => (l.map (beBytes 2)).flatten
  match lctype with
  | 0 => beBytes 2 (p.getD 0 0) ++ [0, 0] ++ counts (p.drop 1)
  | 1 => beBytes 2 (p.getD 0 0)
  | 2 => (p.map (beBytes 1)).flatten ++ [0, 0, 0] ++ beBytes 2 Config.vendorId.toNat ++
      beBytes 2 Config.deviceId.toNat ++ beBytes 1 Config.revision.toNat
  | 3 => [0, 0, 0, 0] ++ counts p
  | _ => (p.map (beBytes 1)).flatten

/-- A link-control flit (R347, R349). -/
def ctlBits (lctype : Nat) (p : List Nat) : BitVec 512 := makeFlit (2 ^ 30 + lctype * 2 ^ 26) (ctlBody lctype p) 0xF000

/-! ### Lanes that fail -/

/-- Failing data lanes of a half (R339). -/
def failsIn (lanes : Nat) (h : Nat) : List Nat := (ones lanes 64).filter (fun l => l / 32 == h)

/-- Lanes of a half that its spares replace (R339). -/
def repairedIn (lanes h : Nat) (fck : Bool) : List Nat := if fck then (failsIn lanes h).take 2 else []

/-- DPHY.MAP for some failing lanes (R339, R380). -/
def laneMap (lanes : Nat) (f0 f1 : Bool) : Word :=
  let sp : Nat → Bool → List (Nat × Nat) := fun h f =>
    ((repairedIn lanes h f).zip [2 * h, 2 * h + 1]).map (fun e => (7 * e.2, 64 + e.1))
  wordOf (sp 0 f0 ++ sp 1 f1 ++ [(28, b2n f0), (29, b2n f1)])

/-- Spares that a DPHY.MAP has in use (R379, R380). -/
def sparesOf (m : Word) : Nat := ((upTo 4).filter (fun k => fieldOf m (7 * k + 6) 1 == 1)).length

/-- A half is usable: its clock lane works and at most two of its data lanes fail (R339). -/
def halfUp (lanes h : Nat) (f : Bool) : Bool := f && decide ((failsIn lanes h).length ≤ 2)

/-- A quarter is usable: its half's clock lane works and after repair all of its lanes do (R339). -/
def quarterUp (lanes : Nat) (f0 f1 : Bool) (q : Nat) : Bool :=
  let f := if q < 2 then f0 else f1
  f && (failsIn lanes (q / 2)).all (fun l => l / 16 != q || (repairedIn lanes (q / 2) f).contains l)

/-- The widest width code up to `top` that the lanes allow; none: no usable quarter (R339). -/
def laneWidth (lanes : Nat) (f0 f1 : Bool) (top : Nat) : Option Nat :=
  if 2 ≤ top ∧ halfUp lanes 0 f0 ∧ halfUp lanes 1 f1 then some 2
  else if 1 ≤ top ∧ (halfUp lanes 0 f0 ∨ halfUp lanes 1 f1) then some 1
  else if (upTo 4).any (quarterUp lanes f0 f1) then some 0 else none

/-- The first data lane that a width uses: of the lowest-numbered usable half or quarter (R339). -/
def laneBase (lanes : Nat) (f0 f1 : Bool) (w : Nat) : Nat :=
  if w = 2 then 0
  else if w = 1 then (if halfUp lanes 0 f0 then 0 else 32)
  else 16 * ((upTo 4).find? (quarterUp lanes f0 f1)).getD 0

/-- The lane that carries the l-th data lane from a first one on: a data lane 0-63, or 64 + k for the spare k that a DPHY.MAP
has in its place (R339, R380). -/
def laneOf (map : Word) (base l : Nat) : Nat :=
  match (upTo 4).find? (fun k => fieldOf map (7 * k) 7 == 64 + (base + l)) with
  | some k => 64 + k
  | none => base + l

/-- One unit interval of the logical lanes as the data lanes and spares carry it, lane in bit (R339). -/
def onLanes (map : Word) (base w : Nat) (v : BitVec 64) : BitVec 68 :=
  BitVec.ofNat 68 ((upTo w).foldl (fun a l => a + b2n (v.getLsbD l) * 2 ^ laneOf map base l) 0)

/-! ### Lanes -/

/-- Lanes of a width code (R349). -/
def lanesOf (w : Nat) : Nat := 16 * 2 ^ w

/-- The bit that logical lane l of w carries in unit interval t of a flit: byte l + w (t / 8), bit 7 first (R340). -/
def laneBit (f : BitVec 512) (w l t : Nat) : Bool := f.getLsbD (8 * (l + w * (t / 8)) + (7 - t % 8))

/-- A flit as the logical lanes carry it, one word for each of its 512 / w unit intervals, lane l in bit l (R340). -/
def flitBeats (f : BitVec 512) (w : Nat) : List (BitVec 64) :=
  (upTo (512 / w)).map (fun t =>
    BitVec.ofNat 64 ((upTo w).foldl (fun a l => a + b2n (laneBit f w l t) * 2 ^ l) 0))

end Sys2Proof.Machine
end

