-- ==== Sys2Proof/Machine/Flags.lean ====
section
/-! DEFINITION. The flags that every family computes: STATUS bits of a page, HRDY_N, the queue of
retained writes, counters of occurrences, and the raising, logging and delivering of events. -/

namespace Sys2Proof.Machine

/-! ### STATUS bits -/

/-- Set an RW1C bit of STATUS of a page: 1 S_REFUSED, 2 LOCK_REFUSED, 3 RET_REFUSED, 5 FORCED
(R534). -/
def State.setStatus (s : State) (p b : Nat) : State :=
  s.setReg p 0x10 (BitVec.ofNat 32 (s.activeWord (p * 4096 + 0x10) ||| 2 ^ b))

/-! ### Retained writes -/

/-- The wear at which a word is refused further writes (R460). -/
def wearLimit : Nat := 4000000

/-- Perform a write of the retained store on its words and wear counts: the value changes, or the
write is refused for wear, or it ends at once because nothing changes (R459, R460). -/
def performWrite (fac : Word) (words : Table Word) (wear : Table Nat) (k : Nat) (v : Word) :
    Table Word × Table Nat :=
  if look fac words k = v then (words, wear)
  else if wearLimit ≤ look 0 wear k then (words, wear)
  else (put fac words k v, put 0 wear k (min 0xFFFFFFFF (look 0 wear k + 1)))

/-- What a word holds as shipped: 0, the sequence word 0xFFFF_FFFF (R461), the backing words of RWP
fields their factory values (R12). -/
def factoryWord (k : Nat) : Word :=
  if k = 0xA00 then 0xFFFFFFFF
  else if k < 0x10000 then 0
  else match regAt (k - 0x10000) with
    | none => 0
    | some r => BitVec.ofNat 32 (resetWord (k - 0x10000) r &&& maskOf (r.fields.filter Field.isRwp))

/-- The value of a retained word; a word with an uncorrectable error reads as 0, a backing word as
its factory value (R462). -/
def State.retWord (s : State) (k : Nat) : Word :=
  if s.ret.ue.contains k then (if k < 0x10000 then 0 else factoryWord k)
  else look (factoryWord k) s.ret.words k

/-- The value that a word will hold once every queued write has been performed (R459). -/
def State.futureWord (s : State) (k : Nat) : Word :=
  let r := s.ret.queue.foldl (fun (a : Table Word × Table Nat) w =>
    performWrite (factoryWord w.key) a.1 a.2 w.key w.val) (s.ret.words, s.ret.wear)
  if s.ret.ue.contains k && !s.ret.queue.any (fun w => w.key == k) then s.retWord k
  else look (factoryWord k) r.1 k

/-- Write a word of the retained store: a write of the value it will hold ends at once, another
joins the queue, and so does a write of a word that is uncorrectable, which clears the error (R462); Hyssop's trip record goes ahead of every queued write (R458, R459). -/
def State.retWrite (s : State) (k : Nat) (v : Word) (who : Option Master) : State :=
  let bad := s.ret.ue.contains k && !s.ret.queue.any (fun w => w.key == k)
  if s.futureWord k = v ∧ !bad then s
  else
    let w : RetWrite := { key := k, val := v, who := who, at_ := s.now }
    let q := match s.ret.queue with
      | [] => [w]
      | f :: r =>
        if k = 0xA08 then
          f :: (r.takeWhile (fun e => e.key == 0xA08) ++ w :: r.dropWhile (fun e => e.key == 0xA08))
        else f :: (r ++ [w])
    s.withRet { s.ret with queue := q }

/-- A master waits for one of its retained writes (R540). -/
def State.waiting (s : State) (m : Master) : Bool := s.ret.queue.any (fun w => w.who == some m)


/-- A retained write is refused for wear when its turn comes (R460). -/
def State.wornOut (s : State) (w : RetWrite) : Bool :=
  !s.ret.ue.contains w.key && decide (wearLimit ≤ look 0 s.ret.wear w.key) && s.retWord w.key != w.val

/-- MRDY_N is busy: a retained write is in progress or queued, or a firmware commit is (R458,
R478); a write that is refused is never in progress (R460). -/
def State.mrdyBusy (s : State) : Bool := s.ret.queue.any (fun w => !s.wornOut w) || s.mgmt.committing || s.mgmt.img.isSome

/-! ### Links and logical devices -/

/-- HPGS.CFG.BIFUR of a port group (R86). -/
def State.bifur (s : State) (g : Nat) : Nat := s.cfg (hpgsPage g) 0x80 0 2

/-- HPGS.CFG.EN of a port group (R86). -/
def State.grpEn (s : State) (g : Nat) : Bool := s.cfgBit (hpgsPage g) 0x80 3

/-- How many links a port group has under its bifurcation (R47). -/
def State.links (s : State) (g : Nat) : Nat :=
  let b := s.bifur g
  if b = 0 then 1 else if b = 1 then 2 else if b = 2 then 4 else 1

/-- A link exists under the present bifurcation (R47). -/
def State.present (s : State) (l : Nat) : Bool := decide (l < 16) && decide (l % 4 < s.links (l / 4))

/-- LD_BASE of a link (R90). -/
def State.ldBase (s : State) (l : Nat) : Nat := s.cfg (linkPage l 0) 0x88 0 6

/-- LD_COUNT of a link (R90). -/
def State.ldCount (s : State) (l : Nat) : Nat := s.cfg (linkPage l 0) 0x88 6 5

/-- A link owns a logical device (R58). -/
def State.owns (s : State) (l ld : Nat) : Bool :=
  decide (s.ldBase l ≤ ld) && decide (ld < s.ldBase l + s.ldCount l)

/-- The present link that owns a logical device (R58). -/
def State.linkOf (s : State) (ld : Nat) : Option Nat :=
  (upTo 16).find? (fun l => s.present l && s.owns l ld)

/-- The logical devices of a link (R58). -/
def State.ldsOf (s : State) (l : Nat) : List Nat := (upTo 64).filter (s.owns l)

/-- The logical device of the management function (R545). -/
def State.mgmtLd (s : State) : Nat := s.cfg dillPage 0x8C 0 6

/-- A link carries traffic: L0, L0p, L1 or Recovery (R60). -/
def Link.live (l : Link) : Bool := l.st == .l0 || l.st == .l0p || l.st == .l1 || l.st == .recovery

/-- A logical device is served by a live link: in a single-device layout only the first of its range
(R53, R58). -/
def State.served (s : State) (ld : Nat) : Option Nat :=
  match s.linkOf ld with
  | some l =>
    if (s.link l).live && ((s.link l).mld || decide (s.ldBase l = ld)) then some l else none
  | none => none

/-- The management function's link is up in the sense of R525. -/
def State.mgmtUp (s : State) : Bool :=
  match s.linkOf s.mgmtLd with
  | none => false
  | some l => (s.link l).live && (s.link l).cxl && !(s.link l).held

/-- The link that a page belongs to, where it is the page of a host link slice or one of its
engines (R580). -/
def linkOfSitePage (p : Nat) : Option Nat :=
  if (pgSlot p = 4 ∨ pgSlot p = 5) ∧ pgCluster p < 2 ∧ pgSlice p < 4 then some (linkOfPage p)
  else none

/-! ### HRDY_N -/

/-- A channel training still holds HRDY_N (R80, R427). -/
def State.trainHolds (s : State) : Bool :=
  s.ddr.any (fun e => (e.2.st == .training || e.2.st == .discovering) && !e.2.late && !e.2.returning && e.2.rerun.isNone)

/-- Why HRDY_N of a group is busy, as HPGS.HRDY.CAUSE; 0: ready (R80, R87; assumption 19). -/
def State.hrdyCause (s : State) (g : Nat) : Nat :=
  if s.boot.st = 0 ∨ s.boot.st = 6 ∨ s.boot.main = false then 1
  else if !(s.grp g).up then (if 9 ≤ s.boot.step ∧ s.trainHolds then 3 else 2)
  else if s.flt.dev = 1 ∨ s.flt.dev = 2 ∨ s.flt.chipF.contains (4 + g / 2) then 4
  else if !s.grpEn g then 5
  else 0

/-- Drive HRDY_N of a group busy where a cause holds; a pulse in progress counts as the start of the
busy time (R80, R82). -/
def State.hrdySync (s : State) : State :=
  s.each (upTo 4) (fun s g =>
    s.when (!(s.grp g).busy && s.hrdyCause g != 0) (fun s =>
      s.onGrp g (fun p => { p with busy := true, busySince := p.pulse.getD s.now, pulse := none })))

/-- Ask for an attention pulse: none while the pin is busy; requests before a pulse starts merge
(R82). -/
def State.attention (s : State) (g : Nat) : State :=
  s.when (!(s.grp g).busy) (fun s => s.onGrp g (fun p => { p with pulsePend := true }))

/-! ### Counters -/

/-- How many counters a page has (R512). -/
def counters (p : Nat) : Nat :=
  let k := kindOf p
  if k = .kHsq ∨ k = .kSf ∨ k = .kMcache ∨ k = .kDdrc ∨ k = .kDlnk then 8
  else if (pgSlot p = 4 ∨ pgSlot p = 5) ∧ pgCluster p < 2 ∧ pgSlice p < 4 ∧ pgEngine p = 2 then 8
  else 4

/-- The counter bank of a page. -/
def State.bank (s : State) (p : Nat) : PmcBank := look {} s.obs.pmc p

/-- Change the counter bank of a page. -/
def State.onBank (s : State) (p : Nat) (f : PmcBank → PmcBank) : State :=
  s.withObs { s.obs with pmc := edit {} s.obs.pmc p f }

/-- The counters of a page run: not frozen, and RUN where they follow PMC.GCTL (R515, R516). -/
def State.bankRuns (s : State) (p : Nat) : Bool :=
  !(s.bank p).frozen && (!s.cfgBit p 0x40 9 || s.cfgBit trcPage 0x98 0)

/-- n occurrences of an event code on a page in one cycle (R513, R514). -/
def State.count (s : State) (p code n : Nat) : State :=
  if s.bankRuns p && s.cfg p 0x40 0 8 != 0 then
    s.each (upTo (counters p)) (fun s k =>
      let sel := (look 0 (s.bank p).evsel k)
      s.when (bitOf (s.cfg p 0x40 0 8) k && fieldOf sel 0 8 == code) (fun s =>
        let inc := if fieldOf sel 8 2 = 0 then n else if fieldOf sel 10 12 < n then 1 else 0
        s.onBank p (fun b => { b with cnt := edit 0 b.cnt k (· + inc) })))
  else s

/-! ### Messages to Borage -/

/-- Where a message to Borage goes: the number that picks its module, its class (RQ 0, RS 1, SN 2, MG 3)
and its data slots (R354, R360, R364, R368). -/
def Msg.toBorage : Msg → Option (Nat × Nat × Nat)
  | .snoop a _ line => if 64 ≤ a then some (homeOf (lnPage line), 2, 0) else none
  | .conflictAck a line => if 64 ≤ a then some (homeOf (lnPage line), 1, 0) else none
  | .retry hs who _ _ _ _ => if who = .borage then some (hs, 1, 0) else none
  | .creditGrant hs who => if who = .borage then some (hs, 1, 0) else none
  | .brgData line _ _ _ _ _ => some (homeOf (lnPage line), 1, 8)
  | .brgCmp line _ _ _ _ => some (homeOf (lnPage line), 1, 0)
  | .brgAtomic line _ _ _ _ => some (homeOf (lnPage line), 1, 2)
  | .fwdWr ld _ _ _ => some (ld, 0, 9)
  | .fwdRd _ ld _ => some (ld, 0, 0)
  | .regReq _ _ _ wr => some (0, 3, if wr.isSome then 1 else 0)
  | _ => none

/-- The Sorrel end of the Borage module that carries traffic of number n: B0-S.(n mod 4), else the next
ACTIVE one (R345). -/
def State.brgEnd (s : State) (n : Nat) : Option Nat :=
  ((upTo 4).map (fun i => 15 + (n + i) % 4)).find? (fun e => (s.mod e).st == .active)

/-- A module end that carries no traffic now still holds messages: flits that were not acknowledged, or messages that were not
sent (R25). -/
def ModuleEnd.holds (k : ModuleEnd) : Bool := k.st != .active && (!k.unacked.isEmpty || !k.sendq.isEmpty)

/-- A module end carries messages of traffic number n that are not acknowledged or not sent (R25). -/
def ModuleEnd.carries (k : ModuleEnd) (n : Nat) : Bool :=
  (k.inFlight.map (·.2) ++ k.sendq).any (fun m => (m.toBorage.map (fun t => t.1 % 4)) == some (n % 4))

/-- The Sorrel end to which new traffic of number n goes: as by `brgEnd`, but behind the messages that an earlier end of the
order still holds, until these have moved, and behind those of its own that a later end has in flight, until they are
acknowledged (R25, R345, R375). -/
def State.brgVia (s : State) (n : Nat) : Option Nat :=
  let l := (upTo 4).map (fun i => 15 + (n + i) % 4)
  (l.find? (fun e => (s.mod e).st == .active && (s.mod e).carries n)).or
    (l.find? (fun e => (s.mod e).st == .active || (s.mod e).holds))

/-- Credits of a kind in use: 16-bit counts (R355). -/
def ModuleEnd.inUse (k : ModuleEnd) (i : Nat) : Nat :=
  (k.consumed.getD i 0 + 65536 - k.returned.getD i 0) % 65536

/-- A module end has the credits of a message of a class with some data slots (R354, R355). -/
def ModuleEnd.hasCredit (k : ModuleEnd) (cls slots : Nat) : Bool :=
  decide (k.inUse (2 * cls) < k.adv.getD (2 * cls) 0) &&
  decide (k.inUse (2 * cls + 1) + slots ≤ k.adv.getD (2 * cls + 1) 0)

/-- A module end may send a message of a class with some data slots: it is ACTIVE, has the credits, and its replay buffer has
room for the message's flits (R350, R354). -/
def ModuleEnd.maySend (k : ModuleEnd) (cls slots : Nat) : Bool :=
  k.st == .active && k.hasCredit cls slots && decide (k.unacked.length + ceilDiv (slots + 1) 7 ≤ 2048)

/-- A message of a class waits at a module end. -/
def ModuleEnd.queued (k : ModuleEnd) (cls : Nat) : Bool := k.sendq.any (fun m => (m.toBorage.map (·.2.1)) == some cls)

/-- Add to one count of a list of eight 16-bit counts. -/
def bump16 (l : List Nat) (i n : Nat) : List Nat :=
  (upTo 8).map (fun k => if k = i then (l.getD k 0 + n) % 65536 else l.getD k 0)

/-- A module end drives a flit on its lanes (R339, R340). -/
def State.drive (s : State) (e : Nat) (f : BitVec 512) : State :=
  let k := s.mod e
  let w := lanesOf k.width
  s.withOut (.flitUi e ((flitBeats f w).map (onLanes k.map k.base w)) :: s.out)

/-- A module end sends message flits: they are numbered, counted, kept for a replay and driven (R350, R514). -/
def State.sendFlits (s : State) (e : Nat) (l : List (BitVec 512)) : State :=
  let s := s.onMod e (fun k => { k with
    unacked := k.unacked ++ (l.zip (upTo l.length)).map (fun f => ((k.txSeq + f.2) % 4096, s.now, f.1)),
    txSeq := (k.txSeq + l.length) % 4096 })
  (s.count (modPage e 0) 0x10 l.length).each l (fun s f => s.drive e f)

/-- A register access leaves for Borage: its time runs from here (R369). -/
def State.regSent (s : State) (e : Nat) : Msg → State
  | .regReq tag _ _ _ => s.onMod e (fun k => { k with regAt := enter s.now k.regAt tag })
  | _ => s

/-- A message leaves: its credits are consumed and its flits are sent (R350, R354); each message starts a flit of its
own. -/
def State.sendNow (s : State) (e : Nat) (m : Msg) (cls slots : Nat) : State :=
  let fs := m.flits (s.mod e).txSeq
  let s := (s.regSent e m).onMod e (fun k => { k with
    consumed := bump16 (bump16 k.consumed (2 * cls) 1) (2 * cls + 1) slots,
    inFlight := k.inFlight ++ [((k.txSeq + fs.length + 4095) % 4096, m)] })
  (s.withOut (m :: s.out)).sendFlits e fs

/-- The wait for credits of a class, where its first message lacks them on an ACTIVE module (R356). -/
def ModuleEnd.timer (k : ModuleEnd) (now : Nat) (w : Table Nat) (c : Nat) : Table Nat :=
  match (k.sendq.filterMap Msg.toBorage).find? (fun t => t.2.1 == c) with
  | none => wipe w c
  | some t =>
    if k.st == .active && !k.hasCredit c t.2.2 then (if listed w c then w else enter now w c) else wipe w c

/-- The data slots of the first RQ message that waits at a module end: one that a retirement has moved there, else a
forwarded piece (R368). -/
def State.rqWaits (s : State) (e : Nat) : Option Nat :=
  match ((s.mod e).sendq.filterMap Msg.toBorage).find? (fun t => t.2.1 == 0) with
  | some t => some t.2.2
  | none => (s.brg.fwdWait.find? (fun p => s.brgVia p.ld == some e)).map (fun p => if p.len = 0 then 9 else 0)

/-- The waits for credits of a module end, class by class (R356). -/
def State.creditTimers (s : State) (e : Nat) : State :=
  let rq := (s.rqWaits e).any (fun n => (s.mod e).st == .active && !(s.mod e).hasCredit 0 n)
  s.onMod e (fun k =>
    let w := [1, 2, 3].foldl (k.timer s.now) k.waiting
    { k with waiting := if !rq then wipe w 0 else if listed w 0 then w else enter s.now w 0 })

/-- A message to Borage is sent, or waits behind those of its class (R345, R354). -/
def State.sendOrWait (s : State) (m : Msg) (n cls slots : Nat) : State :=
  let e := (s.brgVia n).getD (15 + n % 4)
  let k := s.mod e
  if k.maySend cls slots && !k.queued cls then s.sendNow e m cls slots
  else (s.onMod e (fun k => { k with sendq := k.sendq ++ [m] })).creditTimers e

/-- A link-control flit leaves a module end (R349). -/
def State.sendCtl (s : State) (e lctype : Nat) (p : List Nat) : State :=
  (s.withOut (.ctlFlit e lctype p :: s.out)).drive e (ctlBits lctype p)

/-- Traffic between two units of the device that a rule assigns to a module end goes to it, or to the next ACTIVE end of
its connection: its flits are sent, accepted by the peer and acknowledged at once (R24, R345, R351; assumption 122). -/
def State.carry (s : State) (e n : Nat) : State :=
  let c := sameConnection e
  let i := (c.findIdx? (· == e)).getD 0
  match ((upTo c.length).map (fun k => c.getD ((i + k) % c.length) e)).find? (fun m => (s.mod m).st == .active) with
  | none => s
  | some m =>
    let s := s.onMod m (fun k => { k with txSeq := (k.txSeq + n) % 4096 })
    let s := match peerEnd m with
      | some p => s.onMod p (fun k => { k with next_ := (k.next_ + n) % 4096 })
      | none => s
    s.count (modPage m 0) 0x10 n

/-- Send a message. -/
def State.emit (s : State) (m : Msg) : State :=
  match m.toBorage with
  | some (n, cls, slots) => s.sendOrWait m n cls slots
  | none => s.withOut (m :: s.out)

/-- A link carries a transaction: from L1 it returns to L0 at its full width (R60), which it then keeps for its time (R62),
and its idle time starts anew (R61). -/
def State.useLink (s : State) (l : Nat) : State :=
  s.onLink l (fun k => if k.live then
    { k with
      st := if k.st = .l1 then .l0 else k.st, active := if k.st = .l1 then k.width else k.active,
      widthAt := if k.st = .l1 then s.now else k.widthAt, lastUse := s.now }
    else k)

/-- The idle time of a logical device's link starts anew: something of the link's has ended (R61). -/
def State.restLink (s : State) (ld : Nat) : State :=
  match s.linkOf ld with
  | some l => s.onLink l (fun k => { k with lastUse := s.now })
  | none => s

/-- A request of the host arrives on a link; one that is queued behind an L0p transition makes the link ask for its full
trained width at once (R62). -/
def State.arriveOn (s : State) (l : Nat) : State :=
  (s.useLink l).onLink l (fun k => { k with ownReq := k.ownReq.map (fun w => max w k.width) })

/-- The link of a logical device has carried a message of its host to the device (R60, R61). -/
def State.heard (s : State) (ld : Nat) : State :=
  match s.linkOf ld with
  | some l => s.arriveOn l
  | none => s

/-- A master's register access has arrived: a host's on its link (R60, R62). -/
def State.arrives (s : State) (m : Master) : State :=
  match m with
  | .host ld => s.heard ld.val
  | _ => s

/-- Send a message on the link of a logical device, whose transmit replay buffer keeps it (R301); a link that carries no
traffic sends nothing, and the message is discarded (R60, R66). -/
def State.toHost (s : State) (ld : Nat) (m : Msg) : State :=
  match s.linkOf ld with
  | some l =>
    if (s.link l).live then ((s.useLink l).onLink l (fun k => { k with txNext := k.txNext + 1 })).emit m else s
  | none => s

/-- Send the waiting messages of a module end that may be sent, each class in its order. -/
def State.pump : Nat → Nat → State → State
  | 0, e, s => s.creditTimers e
  | f + 1, e, s =>
    let k := s.mod e
    let front := (upTo 4).filterMap (fun c => k.sendq.find? (fun m => (m.toBorage.map (·.2.1)) == some c))
    match front.find? (fun m => (m.toBorage.map (fun t => k.maySend t.2.1 t.2.2)).getD false) with
    | none => s.creditTimers e
    | some m =>
      let t := m.toBorage.getD (0, 0, 0)
      let s := s.onMod e (fun k => { k with sendq := k.sendq.erase m, waiting := wipe k.waiting t.2.1 })
      State.pump f e (s.sendNow e m t.2.1 t.2.2)

/-! ### Events -/

/-- What a raise carries into its record (R468). -/
structure Ev where
  src : Nat
  site : Nat
  cls : Nat := 0
  subject : Nat := 0
  detail : List Nat := []
  code : Nat := 0
  ld : Option Nat := none
  fault : Bool := false
  retained : Bool := false
  deriving DecidableEq, Repr

/-- A source is enabled (R502, R504). -/
def State.evEnabled (s : State) (k : Nat) : Bool :=
  definedSource k != s.evt.enFlip.getLsbD k

/-- The route of a source (R503). -/
def State.routeOf (s : State) (k : Nat) : BitVec 14 := look (routeReset k) s.evt.route k

/-- The lowest source pending, enabled and routed to CORE: the core's interrupt and EVR.CLAIM; held
back while a switch moves the roles (R476, R503, R510). -/
def State.claim (s : State) : Option Nat :=
  if s.mgmt.switching.isSome then none
  else (upTo 768).find? (fun k =>
    s.evt.pend.getLsbD k && s.evEnabled k && (s.routeOf k).getLsbD 1)

/-- Log of a CXL event record by class (R503). -/
def cxlLogOf (cls : Nat) : Nat := if cls ≤ 1 then 0 else if cls = 2 then 1 else if cls = 3 then 2 else 3

/-- Send an event by MSI-X and append its CXL event record (R503); during a function-level reset no message is sent
(R78). -/
def State.sendMsix (s : State) (r : LogRec) (vec : Nat) : State :=
  let ld := match r.ld with
    | some n => n
    | none => match linkOfSitePage (pageOfSite r.site) with
      | some l => s.ldBase l
      | none => s.mgmtLd
  let up := match s.linkOf ld with
    | none => false
    | some l => (s.link l).live
  if (s.ld ld).msixOn && up then
    let s := s.onLd ld (fun d => { d with
      evtLog := d.evtLog ++ [{ handle := d.nextHandle, log := cxlLogOf r.cls, rec_ := r }],
      nextHandle := d.nextHandle + 1 })
    if (s.ld ld).msixMask.getLsbD vec then
      s.onLd ld (fun d => { d with msixPend := d.msixPend ||| BitVec.ofNat 64 (2 ^ vec) })
    else if (s.ld ld).flr.isSome then s
    else s.toHost ld (.msix ld vec)
  else s.withEvt { s.evt with undelivered := satAdd 0xFFFF s.evt.undelivered 1 }

/-- Signal an event to the BMC: an in-band interrupt in I3C mode, ALERT_N in SMBus mode (R473,
R503). -/
def State.sendBmc (s : State) (src : Nat) : State :=
  if s.mgmt.i3c then
    let s := s.emit (.ibi src)
    s.withEvt { s.evt with
      ibi := s.evt.ibi ++ [src], alert := s.evt.alert || s.cfgBit sbPage 0x80 8 }
  else s.withEvt { s.evt with alert := true }

/-- Deliver an event to the destinations of a route other than the log (R503). The interrupt of the
active core follows the pending bits (claim). -/
def State.deliver (s : State) (r : LogRec) (route : BitVec 14) : State :=
  let s := s.when (route.getLsbD 2) (fun s => s.sendBmc r.source)
  let s := s.when (route.getLsbD 3) (fun s => s.sendMsix r (bits route.toNat 4 6))
  s.each (ones (bits route.toNat 10 4) 4) (fun s g => s.attention g)

/-- Deliver an event by each of some routes. -/
def State.deliverAll (s : State) (r : LogRec) (l : List (BitVec 14)) : State := s.each l (fun s x => s.deliver r x)

/-- Put a record in the writer's queue, with its sequence number; none when the queue is full, but one of the fault
collector's class F records is never dropped, as a place is held for it (R295, R467). -/
def State.logIt (s : State) (r : LogRec) (vital : Bool) (dest : List (BitVec 14)) : State :=
  if vital || decide (s.evt.queue.length < 1023) then
    let r := { r with seq := s.evt.seq, dropped := s.evt.dropFlag }
    let s := s.withEvt { s.evt with
      queue := s.evt.queue ++ [{ rec_ := r, dest := dest }], seq := s.evt.seq + 1, dropFlag := false }
    s.when (s.evt.seq % 2 ^ 32 == 0) (fun s =>
      s.retWrite 0xA00 (BitVec.ofNat 32 (s.evt.seq / 2 ^ 32)) none)
  else
    let s := s.withEvt { s.evt with
      dropped := satAdd 0xFFFFFFFF s.evt.dropped 1, dropFlag := true }
    s.deliverAll r dest

/-- Raise a source: set its pending bit, log it, and deliver it when the bit was 0 and the source
is enabled (R502). Outside the AUX-only state every source can rise (R504). -/
def State.raiseOne (s : State) (e : Ev) : State :=
  if !definedSource e.src || (s.boot.st == 0 && !auxSource e.src) then s
  else
    let was := s.evt.pend.getLsbD e.src
    let route := s.routeOf e.src
    let r : LogRec := {
      seq := 0, time := s.now, source := e.src, fault := e.fault, retained := e.retained,
      dropped := false, node := s.cfg (poolPage 0) 0x80 0 16, site := e.site, cls := e.cls,
      subject := e.subject, detail := e.detail, code := e.code, ld := e.ld }
    let s := s.withEvt { s.evt with pend := s.evt.pend ||| BitVec.ofNat 768 (2 ^ e.src) }
    let go := s.evEnabled e.src && !was
    if route.getLsbD 0 then s.logIt r (e.fault && e.cls == 5 && decide (e.src ≤ 1)) (if go then [route] else [])
    else s.when go (fun s => s.deliver r route)

/-- Raise a source; a record that finds the log queue full raises LOG_DROPPED, at most once per
second (R467, R481, R502). -/
def State.raise (s : State) (e : Ev) : State :=
  let s' := s.raiseOne e
  if s'.evt.dropped != s.evt.dropped && s.evt.dropAt.all (fun t => decide (t + sec 1 ≤ s.now)) then
    (s'.withEvt { s'.evt with dropAt := some s.now }).raiseOne
      { src := 46, site := siteOfPage (mkPage 0 0 4 63) }
  else s'

/-- Raise a source at a site with a subject. -/
def State.raiseAt (s : State) (src page subject : Nat) : State :=
  s.raise { src := src, site := siteOfPage page, subject := subject }

/-- Raise a source of a port group for a link, naming a logical device where one is concerned (R85,
R580). -/
def State.raiseLink (s : State) (l k : Nat) (ld : Option Nat) (subject : Nat) : State :=
  s.raise { src := srcPort (l / 4) k, site := siteOfPage (linkPage l 63), subject := subject,
            ld := ld }

end Sys2Proof.Machine
end

