-- ==== Sys2Proof/Machine/Cycles.lean ====
section
/-! DEFINITION. The cycle counts of the counter banks: which clock and which gating domain a page has, and the
bringing up to date of codes 0x00 and 0x01 (R385, R393, R395, R513-R515). -/

namespace Sys2Proof.Machine

/-- The gating domain of a page; none where R393 gives its unit none or several (R393). -/
def gatingOf (p : Nat) : Option Nat :=
  let slot := pgSlot p
  let cl := pgCluster p
  let sl := pgSlice p
  let en := pgEngine p
  if cl = 3 ∨ sl = 15 ∨ en = 63 then none
  else if slot = 0 then
    if sl = 0 ∨ sl = 1 then some (366 + sl)
    else if sl = 2 then some 370 else if sl = 3 then some 371 else if sl = 4 then some 372 else if sl = 5 then some 373
    else if sl = 7 then some 374 else if sl = 8 then some 375 else if sl = 9 then some 376 else if sl = 10 then some 377
    else if sl = 11 then some 378 else if sl = 12 then some 297 else none
  else if slot = 1 then
    if sl < 2 then some 380 else if sl = 2 then some 381 else if sl = 3 then some 382 else some 383
  else if slot = 2 then
    if cl = 0 then (if sl < 8 then some (264 + sl) else none)
    else if cl = 2 then some (272 + sl)
    else if sl = 0 then some 342
    else if sl = 2 then (if en = 0 then some 360 else if en < 6 then some 361 else if en < 12 then some 362 else some 363)
    else if sl = 3 then some (364 + en)
    else none
  else if slot = 4 ∨ slot = 5 then
    if cl = 2 then some (283 + 3 * (slot - 4) + sl)
    else if sl < 4 then some (200 + 3 * ((slot - 4) * 8 + cl * 4 + sl) + en / 2)
    else none
  else if cl = 2 then (if sl < 2 then some (289 + 2 * (slot - 8) + sl) else some (298 + 4 * (slot - 8) + 3))
  else if sl < 4 then
    some (4 * ((slot - 8) * 8 + cl * 4 + sl) + (if en < 2 then 0 else if en < 4 then 1 else if en < 7 then 2 else 3))
  else if sl < 6 then
    some (128 + 3 * ((slot - 8) * 4 + cl * 2 + (sl - 4)) + (if en < 2 then 0 else if en < 5 then 1 else 2))
  else some (176 + 3 * ((slot - 8) * 2 + cl) + en)

/-- Transfer rate of a speed code in MT/s (R208). -/
def mtps (v : Nat) : Nat :=
  if v = 0 then 4800 else if v = 1 then 5200 else if v = 2 then 5600 else if v = 3 then 6000 else if v = 4 then 6400
  else if v = 5 then 8000 else 8800

/-- Coast frequency of a loop in parts per million of its set frequency (R384). -/
def coastPpm (n : Nat) : Nat := if n = 0 then 950000 else if n < 36 then 990000 else 900000

/-- Where the output of a loop moves to: its coast frequency or its set one (R388). -/
def State.loopGoal (s : State) (n : Nat) : Nat := if (s.loop n).coast then coastPpm n else 1000000

/-- The output of loop n at an instant in parts per million of its set frequency, and its sum over the ns since it last
began to move: it moves at a constant rate and then stands (R388; assumption 168). -/
def ClkLoop.output (l : ClkLoop) (n goal t : Nat) : Nat × Nat :=
  let d := t - l.slewAt
  if l.from_ = goal then (goal, goal * d)
  else
    let rate := (Config.slewPpm n).val + 1
    let down := decide (goal < l.from_)
    let move := (if down then l.from_ - goal else goal - l.from_) * 1000 / rate
    let e := min d move
    let area := if down then l.from_ * e - rate * e * e / 2000 else l.from_ * e + rate * e * e / 2000
    if d < move then (if down then l.from_ - rate * d / 1000 else l.from_ + rate * d / 1000, area)
    else (goal, area + goal * (d - move))

/-- The output of a loop at the present instant, in parts per million. -/
def State.loopPpm (s : State) (n : Nat) : Nat := ((s.loop n).output n (s.loopGoal n) s.now).1

/-- The AUX clock in kHz (R385). -/
def auxKhz : Nat := 50000

/-- The clock of a gating domain of Dill as R385 and R395 give it: its frequency in kHz, and the root loop where it is
divided from it. -/
def State.dillClock (s : State) (d : Nat) : Nat × Option Nat :=
  if d = 370 ∨ d = 371 ∨ s.clk.onAux.contains d then (auxKhz, none)
  else if d = 297 ∨ d = 379 then (2200000, some 0)
  else if d = 372 then (550000, some 0)
  else if d = 373 ∨ (375 ≤ d ∧ d ≤ 378) then (137500, some 0)
  else (1100000, some 0)

/-- The channel-controller clock of a channel, a quarter of its loop, which is half the data rate (R384, R385). -/
def State.chanClock (s : State) (c : Nat) : Nat × Option Nat := (mtps (s.chan c).speed * 125, some (1 + c))

/-- The clock of a page's block: its set frequency in kHz, and the loop that it is divided from (R35, R385, R395). A block
that R385 does not name runs on the control clock of its register shell, and the sparing and repair engine with its channel's
scheduler (assumption 85). -/
def State.clockSrc (s : State) (p : Nat) : Nat × Option Nat :=
  let slot := pgSlot p
  let cl := pgCluster p
  let sl := pgSlice p
  let en := pgEngine p
  let whole := decide (cl = 3) || decide (sl = 15) || decide (en = 63)
  if slot = 1 then (auxKhz, none)
  else if slot = 0 then
    match gatingOf p with
    | none => if s.boot.main && (s.loop 0).locked then (550000, some 0) else (auxKhz, none)
    | some d => s.dillClock d
  else if whole then (550000, some 0)
  else if slot = 2 then
    if cl = 0 ∨ cl = 2 then (2200000, some 0)
    else if sl < 2 then (1100000, some 0) else (550000, some 0)
  else if slot = 4 ∨ slot = 5 then
    if cl = 2 ∨ sl < 4 then (2200000, some 0) else (550000, some 0)
  else if cl = 2 ∨ sl < 4 then (2200000, some 0)
  else if sl < 6 then
    if en < 5 then s.chanClock ((slot - 8) * 4 + cl * 2 + (sl - 4))
    else (if en = 5 then 137500 else 550000, some 0)
  else (1100000, some 0)

/-- The present frequency of a clock in kHz: none before the root loop locks (R385). -/
def State.khzOf (s : State) (c : Nat × Option Nat) : Nat :=
  match c.2 with
  | none => c.1
  | some n => if n = 0 ∧ !(s.loop 0).locked then 0 else c.1 * s.loopPpm n / 1000000

/-- Whole cycles of a page's clock up to an instant, from one that stands while its clock does not change. -/
def State.cyclesAt (s : State) (p t : Nat) : Nat :=
  match s.clockSrc p with
  | (k, none) => t * k / 1000000
  | (k, some n) =>
    if n = 0 ∧ !(s.loop 0).locked then 0 else k * ((s.loop n).output n (s.loopGoal n) t).2 / 1000000000000

/-- The earliest instant between two at which a page's clock has made some cycles. -/
def State.cycleInstant (s : State) (p n : Nat) : Nat → Nat → Nat → Nat
  | 0, _, hi => hi
  | f + 1, lo, hi =>
    let m := (lo + hi) / 2
    if hi ≤ lo then hi else if n ≤ s.cyclesAt p m then s.cycleInstant p n f lo m else s.cycleInstant p n f (m + 1) hi

/-- The clock of a gating domain (R385, R393). -/
def State.gateClock (s : State) (d : Nat) : Nat × Option Nat :=
  if d < 128 then (2200000, some 0)
  else if d < 176 then s.chanClock ((d - 128) / 3)
  else if d < 200 then (1100000, some 0)
  else if d < 248 then (2200000, some 0)
  else if d < 264 then (550000, some 0)
  else if d < 298 then (2200000, some 0)
  else if d < 342 then (2200000, some 0)
  else if d < 360 then (1100000, some 0)
  else if d < 366 then (550000, some 0)
  else if d < 380 then s.dillClock d
  else (auxKhz, none)

/-- A gating domain has work or a register access pending (R394; assumption 169). -/
def State.domWork (s : State) (d : Nat) : Bool :=
  s.clk.held.any (fun h => gatingOf (h.off / 4096) == some d) ||
  if d < 128 then s.home.queue.any (fun q => homeOf (lnPage q.line) == d / 4) || listed s.mem.rebuild (d / 4)
  else if d < 176 then
    let ch := s.chan ((d - 128) / 3)
    ch.job.isSome || ch.fctlBusy || ch.retraining || ch.st == .training || ch.st == .discovering
  else if d < 200 then
    let u := 2 * ((d - 176) / 3)
    if (d - 176) % 3 = 2 then s.mem.mig.any (fun m => homeOf m.1 / 4 == (d - 176) / 3)
    else (s.eng (u + (d - 176) % 3)).job.isSome
  else if d < 248 then
    let l := (d - 200) / 3
    if (d - 200) % 3 = 2 then (s.ldsOf l).any (fun n => !(s.queue n).run.isEmpty)
    else s.home.queue.any (fun q => match q.who with
      | .host n => s.linkOf n == some l
      | _ => false) || s.home.retried.any (fun x => match x.req.who with
      | .host n => s.linkOf n == some l
      | _ => false)
  else if 264 ≤ d ∧ d < 298 then
    let k := s.mod (d - 264)
    !k.unacked.isEmpty || !k.sendq.isEmpty
  else if d = 342 ∨ d = 343 then !s.mem.mig.isEmpty
  else if 344 ≤ d ∧ d < 360 then (upTo 4).any (fun j => !(s.queue (4 * (d - 344) + j)).run.isEmpty)
  else if 361 ≤ d ∧ d < 364 then !s.amap.flushReads.isEmpty
  else if d = 364 ∨ d = 365 then !s.obs.buf.isEmpty
  else if d = 366 then s.core.c0.active && !s.core.c0.halted
  else if d = 367 then !s.core.c1.halted
  else if d = 372 then !s.evt.queue.isEmpty
  else if d = 373 then s.mgmt.sb.isSome
  else if d = 376 then s.mgmt.img.isSome || s.boot.cfg.isSome
  else if d = 377 then !s.boot.railDown.isEmpty
  else false

/-- The clock of a gating domain stands: it has been stopped, and no work or access has started it again (R394). -/
def State.gatedNow (s : State) (d : Nat) : Bool := s.clk.gated.getLsbD d && !s.domWork d

/-- Whether a page's block has power and runs, and whether its clock is stopped (R394, R398, R513). -/
def State.cycleState (s : State) (p : Nat) : Bool × Bool :=
  let on := (decide (pgSlot p < 2) && !dillMain p) || s.boot.main
  match gatingOf p with
  | none => (on, false)
  | some d => (on && !s.clk.down.getLsbD d, s.gatedNow d)

/-- What a counter that selects a cycle code gains over n cycles: under MODE 2 the value never rises within a
stretch (R513, R514). -/
def cycleGain (sel : Word) (stopped : Bool) (n : Nat) : Nat :=
  let ev := fieldOf sel 0 8
  let mode := fieldOf sel 8 2
  if ev = 0 ∨ (ev = 1 ∧ !stopped) then
    (if mode = 0 ∨ (mode = 1 ∧ fieldOf sel 10 12 = 0) then n else 0)
  else 0

/-- The cycle counts of a page are brought up to date at the present rate (R513). -/
def State.settlePage (s : State) (p : Nat) : State :=
  let b := s.bank p
  let c := s.cycleState p
  let n := s.cyclesAt p s.now - s.cyclesAt p b.at_
  let en := s.cfg p 0x40 0 8
  let go := s.bankRuns p && c.1
  s.onBank p (fun b => (upTo (counters p)).foldl (fun (a : PmcBank) k =>
    let g := if go && bitOf en k then cycleGain (look 0 a.evsel k) c.2 n else 0
    { a with cnt := edit 0 a.cnt k (· + g) }) { b with at_ := max b.at_ s.now })

/-- The cycle counts of every page are brought up to date, before something changes a clock (R513). -/
def State.settleAll (s : State) : State := s.each (s.obs.pmc.map (·.1)) (fun s p => s.settlePage p)

/-- The clock of a stopped gating domain runs again: a MODE 2 counter of running cycles sees its value rise
(R513). -/
def State.cycleRise (s : State) (d : Nat) : State :=
  s.each ((s.obs.pmc.map (·.1)).filter (fun p => gatingOf p == some d)) (fun s p =>
    s.when (s.bankRuns p && (s.cycleState p).1) (fun s =>
      s.each (upTo (counters p)) (fun s k =>
        let sel := look 0 (s.bank p).evsel k
        s.when (bitOf (s.cfg p 0x40 0 8) k && fieldOf sel 0 8 == 1 && fieldOf sel 8 2 == 2 && fieldOf sel 10 12 == 0)
          (fun s => s.onBank p (fun b => { b with cnt := edit 0 b.cnt k (· + 1) })))))

/-- The value of an occupancy code of a page; a channel's commands and an engine's parcels never wait (R514). -/
def State.occupancy (s : State) (p ev : Nat) : Nat :=
  let mine := fun (k : TrackerKind) =>
    (s.home.queue.filter (fun q => q.tr == k && homeOf (lnPage q.line) == hsOfPage p)).length
  match kindOf p with
  | .kHsq =>
    if ev = 0x80 then mine .shared + mine .reserved + mine .internal
    else if ev = 0x81 then mine .shared
    else if ev = 0x82 then mine .writeback else 0
  | .kSf => if ev = 0x80 then mine .evictBuf else 0
  | .kMcache =>
    if ev = 0x80 then ((s.mem.mcache.filter (fun e => e.1 / 2048 == hsOfPage p)).map
      (fun e => (e.2.filter (·.dirty)).length)).sum
    else 0
  | .kDdrc => if ev = 0x81 then (s.chan (chanOfPage p)).debt.foldl (fun a e => max a e.2) 0 else 0
  | .kDlnk => if ev = 0x80 then (s.mod (modOfPage p)).unacked.length else 0
  | .kDm => if ev = 0x80 then (s.dm.map (fun e => e.2.run.length)).sum else 0
  | _ =>
    if ev = 0x80 ∧ (pgSlot p = 4 ∨ pgSlot p = 5) ∧ pgEngine p = 2 then
      let own := fun (q : QReq) => match q.who with
        | .host ld => s.linkOf ld == some (linkOfPage p)
        | _ => false
      (s.home.queue.filter own).length + (s.home.retried.filter (fun r => own r.req)).length
    else 0

/-- What a counter that selects an occupancy code gains over n cycles in which its value is `v`, after a cycle in
which it was `was` (R513). -/
def stretchGain (sel : Word) (v was n : Nat) : Nat :=
  let th := fieldOf sel 10 12
  let mode := fieldOf sel 8 2
  if n = 0 then 0
  else if mode = 0 then v * n
  else if mode = 1 then (if th < v then n else 0)
  else if th < v ∧ was ≤ th then 1 else 0

/-- The counters of a page that select occupancy codes count the cycles up to an instant (R513, R514). -/
def State.stretchPage (s : State) (t p : Nat) : State :=
  let c := s.cycleState p
  let n := if c.2 then 0 else s.cyclesAt p t - s.cyclesAt p s.now
  s.when (s.bankRuns p && c.1) (fun s =>
    let en := s.cfg p 0x40 0 8
    s.onBank p (fun b => (upTo (counters p)).foldl (fun (a : PmcBank) k =>
      let sel := look 0 a.evsel k
      let v := s.occupancy p (fieldOf sel 0 8)
      if bitOf en k && decide (0x80 ≤ fieldOf sel 0 8) && decide (0 < n) then
        { a with cnt := edit 0 a.cnt k (· + stretchGain sel v (look 0 a.was k) n), was := put 0 a.was k v }
      else a) b))

/-- REF runs from a crystal that is good (R390). -/
def State.refGood (s : State) : Bool := s.clk.refOn && (if s.clk.refB then s.clk.xb.ok else s.clk.xa.ok)

/-- What one count advances the timestamp by: a REF cycle, or an AUX-clock cycle while REF is lost (R392). -/
def State.stepNs (s : State) : Nat := if s.refGood then 40 else 20

/-- The first count of the timestamp that is not before an instant, and never back in time (R392; assumption 1). -/
def State.instant (s : State) (t : Nat) : Nat := s.now + ceilDiv (t - s.now) s.stepNs * s.stepNs

/-- The instant of a timed event: at the earliest count that the spec allows (assumption 1). Between two instants nothing
changes but the counts of occupancy (R513). -/
def State.reach (s : State) (t : Nat) : State :=
  let u := s.instant t
  (s.each (if s.now < u then s.obs.pmc.map (·.1) else []) (fun s p => s.stretchPage u p)).withNow u

end Sys2Proof.Machine
end

