-- ==== Sys2Proof/Machine/Access.lean ====
section
/-! DEFINITION. A register access before its effect: the paths and views of the masters, the checks
of R544 in their order, sub-domains that must wake, locks, and the storing of RW, RW1C and RWP
fields. -/

namespace Sys2Proof.Machine

/-! ### Pages that answer -/

/-- The block of a page has power: Dill's and Hyssop's in the AUX island always, but Dill's main domain and every other chiplet
with the main rails only (R397, R529). -/
def State.powered (s : State) (p : Nat) : Bool := (decide (pgSlot p < 2) && !dillMain p) || s.boot.main

/-- Borage answers register accesses: present and not failing (R369, R529). -/
def State.brgAnswers (s : State) : Bool := s.brg.present && s.brg.st == 2

/-- A page has a site that answers (R529). -/
def State.answers (s : State) (p : Nat) : Bool :=
  if pgSlot p = 12 then s.brgAnswers else ozSite p && s.powered p

/-! ### Quiescence -/

/-- CTRL.HOLD of a page whose block has one: the block takes no new work (R534, R535). -/
def State.onHold (s : State) (p : Nat) : Bool := s.cfgBit p 0x0C 0

/-- A compression engine takes no work beside direct jobs: out of service, held, or in test mode (R240, R251, R535). -/
def State.engineIdle (s : State) (k : Nat) : Bool :=
  !(s.eng k).avail || s.onHold (engPage k) || s.cfgBit (engPage k) 0x80 1

/-- Queue n of a DMQ block of an HREQ page (R312). -/
def State.queueAt (s : State) (off : Nat) : Nat :=
  s.ldBase (linkOfPage (off / 4096)) + (off % 4096 - 0x200) / 64

/-- Every present link of a group is Down (R535). -/
def State.groupDown (s : State) (g : Nat) : Bool :=
  (upTo 4).all (fun k => !s.present (4 * g + k) || (s.link (4 * g + k)).st == .down)

/-- The block is in the AUX-only state (R535). -/
def State.auxOnly (s : State) : Bool := s.boot.st == 0 || s.boot.st == 6

/-- Some demotion, move or promote-domain command is in progress (R535). -/
def State.tierBusy (s : State) : Bool :=
  s.tier.domCmd.isSome || s.mem.mig.any (fun e => e.2.kind != .promotion)

/-- The field's block at a window offset is quiescent (R535); a block that R535 does not list serves from STATE serving on
(assumption 167). -/
def State.quiescent (s : State) (off : Nat) : Bool :=
  let p := off / 4096
  let k := kindOf p
  let hold := s.cfgBit p 0x0C 0
  if (pgSlot p = 4 ∨ pgSlot p = 5) ∧ pgCluster p < 2 then
    if k = .kHreq ∧ 0x200 ≤ off % 4096 ∧ off % 4096 < 0x600 then
      !s.cfgBit p (off % 4096 / 64 * 64) 0
    else (s.grp (grpOfPage p)).perst || !s.grpEn (grpOfPage p) || s.groupDown (grpOfPage p)
  else if 8 ≤ pgSlot p ∧ pgSlot p ≤ 11 ∧ pageKindCode p = 0x051 then
    let st := (s.chan (chanOfPage p)).st
    st == .disabled || st == .drained || st == .poweredDown
  else if k = .kDlnk ∨ k = .kDphy then
    let st := (s.mod (modOfPage p)).st
    st == .off || st == .retired || st == .failed
  else if k = .kLand then !s.cfgBit p 0x80 18
  else if k = .kCmpe then
    hold && (s.eng (2 * clusterOfPage p + pgEngine p)).job.isNone
  else if k = .kTier then hold && !s.tierBusy
  else if k = .kDm then hold && s.dm.all (fun e => e.2.run.isEmpty)
  else if k = .kTrc ∨ k = .kTrcw then
    s.obs.buf.isEmpty && (!s.cfgBit trcPage 0x80 1 || s.cfgBit trcPage 0x0C 0)
  else if k = .kSb then s.mgmt.i3c
  else if k = .kBrg then s.brg.rst
  else if p = dillPage then
    if off % 4096 = 0x8C then !s.mgmtUp
    else s.auxOnly || (s.boot.st == 1 && decide (s.boot.step < 6)) || s.boot.st == 2 && decide (s.boot.step < 6)
  else if pgSlot p < 2 then s.auxOnly
  else s.boot.st != 3

/-! ### Sub-domains -/

/-- A compression engine is an engine 01 without power (R398). -/
def State.engineDown (s : State) (k : Nat) : Bool := k % 2 == 1 && s.clk.down.getLsbD (176 + 3 * (k / 2) + 1)

/-- Work is assigned to an engine that is down: it starts to wake, and the work waits (R398, R400). -/
def State.callEngine (s : State) (k : Nat) : State := s.onEng k (fun e => { e with workAt := e.workAt.or (some s.now) })

/-- An engine 01 ends some work, from which its idle time counts (R398). -/
def State.engineUsed (s : State) (k : Nat) : State :=
  s.when (k % 2 == 1) (fun s => s.onEng k (fun e => { e with usedAt := s.now }))

/-- The sub-domain of a page that a register access powers up: its first gating domain and how many
it has (R398, R400). -/
def State.wakeable (s : State) (off : Nat) : Option (Nat × Nat) :=
  let p := off / 4096
  let sl := pgSlot p
  if (sl = 4 ∨ sl = 5) ∧ pgCluster p < 2 ∧ pgSlice p < 4 then
    let x := off % 4096
    if kindOf p = .kHreq ∧ 0x200 ≤ x ∧ x < 0x600 ∧ s.clk.down.getLsbD (344 + s.queueAt off / 4) then
      some (344 + s.queueAt off / 4, 1)
    else some (200 + 3 * linkOfPage p, 3)
  else if 8 ≤ sl ∧ sl ≤ 11 ∧ pgCluster p < 2 ∧ (pgSlice p = 4 ∨ pgSlice p = 5) then
    some (128 + 3 * chanOfPage p, 2)
  else if kindOf p = .kCmpe ∧ pgEngine p = 1 then some (177 + 3 * clusterOfPage p, 1)
  else if kindOf p = .kLand then
    let a := pgEngine p
    some (if a < 6 then 361 else if a < 12 then 362 else 363, 1)
  else if kindOf p = .kTrc ∨ kindOf p = .kTrcw then some (364, 2)
  else none

/-- The sub-domain of an access is down. -/
def State.asleep (s : State) (off : Nat) : Option Nat :=
  match s.wakeable off with
  | some (d, _) => if s.clk.down.getLsbD d then some d else none
  | none => none

/-- The sub-domain of an access is down and has been quarantined: it never wakes (R400, R489). -/
def State.shutOff (s : State) (off : Nat) : Bool := (s.asleep off).any s.clk.quar.contains

/-- A sub-domain starts to power up (R400). -/
def State.startWake (s : State) (d : Nat) : State :=
  s.when (s.clk.down.getLsbD d && !listed s.clk.waking d) (fun s =>
    s.withClk { s.clk with waking := enter s.now s.clk.waking d })

/-- An access or the end of its work starts the idle time of a sub-domain afresh (R398). -/
def State.used (s : State) (d : Nat) : State := s.withClk { s.clk with wokeAt := enter s.now s.clk.wokeAt d }

/-- A register access to a page of a channel's logic or of an engine 01, which go down for idleness (R398). -/
def State.usedAt (s : State) (off : Nat) : State :=
  match s.wakeable off with
  | some (d, _) => s.when (decide (128 ≤ d) && decide (d < 200)) (fun s => s.used d)
  | none => s

/-! ### Masters, views and locks -/

/-- OWNER code of a master (R541). -/
def ownerCode : Master → Nat
  | .host _ => 1
  | .bmc => 2
  | .core _ => 3

/-- A host reaches the register space through the full window (R525). -/
def State.fullHost (s : State) (ld : Nat) : Bool := decide (ld = s.mgmtLd) && s.mgmtUp

/-- A master is on its full-window path (R525, R527). -/
def State.full (s : State) (m : Master) : Bool :=
  match m with
  | .host ld => s.fullHost ld.val
  | _ => true

/-- A logical device's function presents BAR2: its link carries traffic with CXL negotiated and no negotiation held, and
the function is not being reset (R54, R525; assumption 150). -/
def State.bar2 (s : State) (ld : Nat) : Bool :=
  match s.served ld with
  | some l => (s.link l).cxl && !(s.link l).held && (s.ld ld).flr.isNone
  | none => false

/-- The master is a host whose function presents no BAR2 (R525). -/
def State.noBar2 (s : State) (m : Master) : Bool :=
  match m with
  | .host ld => !s.bar2 ld.val
  | _ => false

/-- A host's access to a BAR2 that is not presented: it arrives only on a live link, where the address is in no BAR; a read
is answered with Unsupported Request (R76). -/
def State.unclaimed (s : State) (m : Master) (off : Nat) (posted : Bool) : State :=
  match m with
  | .host ld =>
    match s.served ld.val with
    | some l =>
      let s := s.raiseLink l 8 (some ld.val) off
      if posted then s else s.toHost ld.val (.ur ld.val 0)
    | none => s
  | _ => s

/-- A filtered read of logical device n reaches an offset (R526). -/
def State.filterReads (s : State) (n off : Nat) : Bool :=
  let p := off / 4096
  let x := off % 4096
  (ozSite p && pgCluster p == 3) ||
  (match s.linkOf n with
   | none => false
   | some l =>
     let j := n - s.ldBase l
     p == linkPage l 0 || p == linkPage l 2 ||
     (p == linkPage l 3 && (decide (x < 0x80) || x == 0x100 + 4 * j)) ||
     (p == linkPage l 4 && (decide (x < 0x200) || x / 64 == 8 + j)))

/-- A filtered write of logical device n reaches an offset: its own queue block only (R526). -/
def State.filterWrites (s : State) (n off : Nat) : Bool :=
  match s.linkOf n with
  | none => false
  | some l => off / 4096 == linkPage l 4 && off % 4096 / 64 == 8 + (n - s.ldBase l)

/-- The lock of a page. -/
def State.lockOf (s : State) (p : Nat) : Nat := (look? s.regs.locks p).elim 0 PageLock.owner

/-- A page requires the lock for every write (R543). -/
def lockReq (p : Nat) : Bool := p == dillPage

/-- A write that no lock refuses: LOCK itself and the data mover queue blocks (R541). -/
def lockExempt (off : Nat) : Bool :=
  off % 4096 == 0x24 ||
  (kindOf (off / 4096) == .kHreq && decide (0x200 ≤ off % 4096) && decide (off % 4096 < 0x600))

/-- The lock refuses a write by a master (R541, R543). -/
def State.lockRefuses (s : State) (m : Master) (off : Nat) : Bool :=
  let o := s.lockOf (off / 4096)
  !lockExempt off && ((o != 0 && o != ownerCode m) || (lockReq (off / 4096) && o != ownerCode m))

/-- An access by the owner of a page's lock restarts the lease (R541). -/
def State.touchLock (s : State) (m : Master) (p : Nat) : State :=
  match look? s.regs.locks p with
  | some k => s.when (s.full m && k.owner == ownerCode m) (fun s =>
      s.withRegs { s.regs with locks := enter { k with last := s.now } s.regs.locks p })
  | none => s

/-- Release the lock of a page (R541, R542). -/
def State.freeLock (s : State) (p : Nat) : State :=
  s.withRegs { s.regs with locks := wipe s.regs.locks p }

/-- Release the locks of an owner, or all (R542). -/
def State.freeLocks (s : State) (owner : Nat) : State :=
  s.withRegs { s.regs with locks := s.regs.locks.filter (fun e => owner != 0 && e.2.owner != owner) }

/-- Advance a saturating count of DEV.WSTAT (R545). -/
def State.wstat (s : State) (lo w : Nat) : State :=
  s.setBits dillPage 0x98 lo w (satAdd (2 ^ w - 1) (s.cfg dillPage 0x98 lo w) 1)

/-! ### Storing fields -/

/-- A value is not a reserved encoding of a field (R15). HLD.APCFG.APSIZE admits 0-18 and 31 (R169),
TRC.FILT.LD every value but 80-126 (R523). -/
def legalValue (off : Nat) (f : Field) (v : Nat) : Bool :=
  if kindOf (off / 4096) = .kHld ∧ f.lo = 18 then decide (v ≤ 18) || v == 31
  else if kindOf (off / 4096) = .kTrc ∧ off % 4096 = 0x88 ∧ f.lo = 0 then decide (v < 80) || v == 127
  else decide (f.min ≤ v) && decide (v ≤ f.max)

/-- Registers whose fields live in state of their own; their writes are effects of their blocks. -/
def ownState (off : Nat) : Bool :=
  let x := off % 4096
  let k := kindOf (off / 4096)
  x == 0x14 || x == 0x18 || x == 0x1C || x == 0x24 || x == 0x40 || x == 0x44 || x == 0x4C ||
  (k == .kBrg && x == 0x90) || (k == .kClkr && x == 0x88) || (k == .kDdrc && x == 0x84) ||
  (k == .kFc && x == 0x9C) || (k == .kEvr && (x == 0x84 || decide (0x100 ≤ x))) ||
  (k == .kMcore && x == 0x80) || (k == .kTrc && x == 0x98) || (k == .kRstore && x == 0x84)

/-- A write of HLD.APCFG is refused where APBASE is no multiple of 2^APSIZE, by the size that the write leaves: a reserved
one leaves the old (R15, R169). -/
def State.apRefused (s : State) (off : Nat) (val : Word) : Bool :=
  let z := if 18 < fieldOf val 18 5 ∧ fieldOf val 18 5 < 31 then fieldOf (BitVec.ofNat 32 (s.activeWord off)) 18 5
    else fieldOf val 18 5
  kindOf (off / 4096) == .kHld && decide (0x100 ≤ off % 4096) && decide (z ≤ 18) && fieldOf val 0 18 % 2 ^ z != 0

/-- A write of DDRI.THERM that breaks HOT < THROTTLE < CRIT, which are signed, leaves the register unchanged (R205,
R213). -/
def thermRefused (off : Nat) (val : Word) : Bool :=
  let t := fun (lo : Nat) => (val.extractLsb' lo 8).toInt
  kindOf (off / 4096) == .kDdri && off % 4096 == 0x88 && !(decide (t 0 < t 8) && decide (t 8 < t 16))

/-- A word of a channel's active timing set, whose writes are refused (R189, R210). -/
def State.activeSet (s : State) (off : Nat) : Bool :=
  let x := off % 4096
  kindOf (off / 4096) == .kDdrc && decide (0x100 ≤ x) && decide (x < 0x140) &&
    decide (0x120 ≤ x) == (s.chan (chanOfPage (off / 4096))).setB

/-- DDRC.STAT.REFUSED shows a refused write of a channel's registers (R189, R208). -/
def State.ddrRefused (s : State) (off : Nat) : State :=
  s.when (kindOf (off / 4096) == .kDdrc) (fun s => s.onChan (chanOfPage (off / 4096)) (fun c => { c with refused := true }))

/-- Bits of `old` replaced by those of `new` under a mask. -/
def under (old new m : Nat) : Nat := (old &&& (0xFFFFFFFF ^^^ m)) ||| (new &&& m)

/-- Store the fields of a write: reserved encodings leave a field as it was (R15); S fields only
while quiescent (R536); H fields staged (R537); L fields at once; RW1C bits cleared; RWP fields by
one retained write of the backing word (R540). -/
def State.storeWrite (s : State) (off : Nat) (val : Word) (who : Option Master) : State :=
  match regAt off with
  | none => s
  | some r =>
    if ownState off || s.apRefused off val || thermRefused off val then s
    else if s.activeSet off then s.ddrRefused off
    else
      let quiet := s.quiescent off
      let ok := r.fields.filter (fun f => legalValue off f (fieldOf val f.lo f.w))
      let rw := ok.filter (fun f => f.acc == .rw || f.acc == .rws)
      let rwp := ok.filter Field.isRwp
      let s := s.when (!quiet && (rw ++ rwp).any (fun f => f.cls == .s)) (fun s =>
        (s.setStatus (off / 4096) 1).ddrRefused off)
      let act := s.activeWord off
      let mL := maskOf (rw.filter (fun f => f.cls == .l || f.cls == .n || (f.cls == .s && quiet)))
      let mH := maskOf (rw.filter (fun f => f.cls == .h))
      let mC := maskOf (ok.filter (fun f => f.acc == .rw1c))
      let mP := maskOf (rwp.filter (fun f => f.cls != .s || quiet))
      let s := s.when (mL != 0 || mC != 0) (fun s =>
        s.setReg (off / 4096) (off % 4096)
          (BitVec.ofNat 32 (under act val.toNat mL &&& (0xFFFFFFFF ^^^ (val.toNat &&& mC)))))
      let s := s.when (mH != 0) (fun s =>
        s.withRegs { s.regs with
          staged := enter (BitVec.ofNat 32 (under (s.stagedWord off act) val.toNat mH))
            s.regs.staged off })
      let s := s.when (mP != 0 && off == poolPage 0 * 4096 + 0x80) (fun s => s.withAmap { s.amap with joined := true })
      s.when (mP != 0) (fun s =>
        s.retWrite (backKey off) (BitVec.ofNat 32 (under (s.backing off r) val.toNat mP)) who)

/-! ### The gate -/

/-- An access of a master waits for a cache clean (R450). -/
def State.cleaning (s : State) (m : Master) : Bool := (s.core.c0.cleans ++ s.core.c1.cleans).any (fun w => w.by_ == m)

/-- An access of a master waits for a retained write, for a sub-domain to wake or for Borage (R369, R400, R540). -/
def State.inAccess (s : State) (m : Master) : Bool :=
  s.waiting m || s.clk.held.any (fun h => h.m == m) || s.brg.fwd.any (fun x => x.m == some m)

/-- An access of a master is under way: it waits, for one of these or for a cache clean (R450, R540). -/
def State.underWay (s : State) (m : Master) : Bool := s.inAccess m || s.cleaning m

/-- A master's next access must wait for one that is under way, or behind one of its own that waits (R540); the
sideband performs one direct command at a time (R472). -/
def State.mustWait (s : State) (m : Master) : Bool :=
  s.underWay m || s.ret.held.any (fun h => h.m == m) || (m == .bmc && (s.mgmt.sb.isSome || !s.mgmt.sbNext.isEmpty)) ||
    s.mgmt.mb.any (fun j => m == .host j.1)

/-- A single access of the BMC as a direct command of one word (R472). -/
def HeldAccess.job (h : HeldAccess) : SbJob :=
  { opc := if h.wr.isSome then 2 else 1, off := h.off, words := h.wr.toList, left := if h.wr.isSome then 0 else 1,
    got := [], status := 0 }

/-- Hold an access of a master that must wait (R472, R540). -/
def State.holdAccess (s : State) (h : HeldAccess) : State :=
  if h.m = .bmc then s.withMgmt { s.mgmt with sbNext := s.mgmt.sbNext ++ [h.job] }
  else s.withRet { s.ret with held := s.ret.held ++ [h] }

/-- Accesses that are under way at a reset are lost with what they wait for, but for those that wait for the
retained store; a direct command is answered as for a page that does not answer (R434, R529). -/
def State.dropHeld (s : State) : State :=
  let s := s.withRet { s.ret with held := s.ret.held.filter (fun h => s.waiting h.m) }
  let s := match s.mgmt.sb with
    | some j => if s.waiting .bmc then s else (s.withMgmt { s.mgmt with sb := none }).emit (.sbRsp j.opc 2 [])
    | none => s
  match s.mgmt.mb with
  | some (ld, _) => if s.waiting (.host ld) then s else (s.withMgmt { s.mgmt with mb := none }).emit (.mbRsp ld.val 0xC003 0 [2])
  | none => s

/-- A master's number in AGENT of RegRd and RegWr (R359). -/
def masterCode : Master → Nat
  | .host _ => 0
  | .bmc => 1
  | .core _ => 2

/-- An access to a page of slot 12 is sent to Borage as RegRd or RegWr, under a tag that is free (R359, R369). -/
def State.brgRegSend (s : State) (m : Master) (off : Nat) (wr : Option Word) : State :=
  let tag := (((upTo 1024).map (fun i => (s.brg.nextTag + i) % 1024)).find? (fun t =>
    !s.brg.fwd.any (fun x => x.tag == t))).getD 0
  let r : FwdReq := { tag := tag, m := some m, ld := 0, htag := 0, off := off, len := 4, wr := wr, at_ := s.now, got := none }
  (s.withBrg { s.brg with fwd := s.brg.fwd ++ [r], nextTag := (tag + 1) % 1024 }).emit
    (.regReq tag (masterCode m) (off % 2 ^ 24) wr)

/-- How a refused write shows to its master: 1 page locked, 2 no site; nothing to a host, a STATUS
to the BMC, an access fault to a core (R472, R529, R541). -/
def State.refuse (s : State) (m : Master) (status : Nat) : State :=
  match m with
  | .host _ => s
  | .bmc => s.emit (.sbRsp 2 status [])
  | .core c => s.when (status != 2) (fun s => s.emit (.accessFault c.val))

/-- How a write that was performed shows to its master: the BMC's response follows the last word,
once its retained write has ended (R472). -/
def State.finish (s : State) (m : Master) : State :=
  match m with
  | .bmc =>
    if s.underWay .bmc then
      s.withMgmt { s.mgmt with
        sb := some { opc := 2, off := 0, words := [], left := 0, got := [], status := 0 } }
    else s.emit (.sbRsp 2 0 [])
  | _ => s

/-- The word with which a master writes some fields of a register and leaves its other stored fields
as they are: a read, a change and a write. `fs` gives lowest bit, width and value. -/
def State.rmw (s : State) (off : Nat) (fs : List (Nat × Nat × Nat)) : Word :=
  let keep := match regAt off with
    | none => 0
    | some r => maskOf (r.fields.filter (fun f => f.acc == .rw || f.acc == .rws || f.acc == .rwp))
  fs.foldl (fun v f => setField v f.1 f.2.1 f.2.2) (BitVec.ofNat 32 (s.storedWord off &&& keep))

/-- One register access is counted under code 0x02 (R514). -/
def State.countAccess (s : State) (off : Nat) : State := s.count (off / 4096) 0x02 1

/-- The checks of a register write in the order of R544, then the storing of its fields and its effect; `who` waits
for a retained write that it causes. Answers 0 performed, 1 refused by the lock, 2 no site, 7 not in the filtered
view, 8 waiting for a sub-domain, 9 sent to Borage. -/
def State.checkWrite (s : State) (m : Master) (who : Option Master) (off : Nat) (val : Word) (act : State → State) :
    State × Nat :=
  let p := off / 4096
  let filtered := match m with
    | .host ld => !s.fullHost ld.val
    | _ => false
  if s.noBar2 m then (s.unclaimed m off true, 7)
  else if filtered && !(match m with
      | .host ld => s.filterWrites ld.val off
      | _ => true) then (s.wstat 0 8, 7)
  else if !s.answers p || s.shutOff off then (s.wstat 16 16, 2)
  else if pgSlot p = 12 then (s.brgRegSend m off (some val), 9)
  else if s.lockRefuses m off && !(filtered && lockExempt off) then (s.setStatus p 2, 1)
  else
    match (if off % 4096 = 0x20 ∧ val.getLsbD 0 then none else s.asleep off) with
    | some d =>
      ((s.startWake d).withClk { (s.startWake d).clk with
        held := (s.startWake d).clk.held ++ [{ m := m, off := off, wr := some val }] }, 8)
    | none =>
      let s := ((s.countAccess off).usedAt off).touchLock m p
      (act (s.storeWrite off val who), 0)

/-- An access to a domain whose source changes waits for the end of the change (R396). -/
def State.afterChange (s : State) (off : Nat) : State :=
  match s.clk.dselEnd, gatingOf (off / 4096) with
  | some (d, t), some g => if d = g then s.reach t else s
  | _, _ => s

/-- A register write by a master whose effect beside its stored fields is `act`: nothing answers without AUX
(R410); it waits behind the master's retained write, passes the checks of R544, and answers its master. -/
def State.gate (s : State) (m : Master) (off : Nat) (val : Word) (act : State → State) : State :=
  if !s.boot.aux then s
  else
  let s := s.arrives m
  if s.mustWait m then s.holdAccess { m := m, off := off, wr := some val }
  else
    let r := (s.afterChange off).checkWrite m (some m) off val act
    if r.2 = 0 ∨ r.2 = 9 then r.1.finish m
    else if r.2 = 1 ∨ r.2 = 2 then r.1.refuse m r.2
    else if r.2 = 8 ∧ m = .bmc then
      r.1.withMgmt { r.1.mgmt with
        sb := some { opc := 2, off := off, words := [val], left := 0, got := [], status := 0 } }
    else r.1

end Sys2Proof.Machine
end

