-- ==== Sys2Proof/Machine/Address.lean ====
section
/-! DEFINITION. Addresses and capacity: the HDM decoders, extents, domains, the interleave sets and
the frames (R92-R123, R132, R574). -/

namespace Sys2Proof.Machine

/-! ### From HPA to DPA -/

/-- Ways encodings 0-4 and granularity encodings 0-6 are supported (R93). -/
def HdmDecoder.supported (d : HdmDecoder) : Bool := decide (d.ways ≤ 4) && decide (d.gran ≤ 6)

/-- Decoder i of a logical device. -/
def State.hdm (s : State) (ld i : Nat) : HdmDecoder := look {} (s.ld ld).dec i

/-- DPABASE of decoder i: the DPA Skips of decoders 0 to i and the DPA sizes of decoders 0 to i - 1
(R94). -/
def State.dpaBase (s : State) (ld i : Nat) : Nat :=
  (upTo (i + 1)).foldl (fun a k => a + (s.hdm ld k).skip) 0 +
  (upTo i).foldl (fun a k => a + (s.hdm ld k).size / 2 ^ (s.hdm ld k).ways) 0

/-- A committed decoder decodes an HPA (R94). -/
def HdmDecoder.hits (d : HdmDecoder) (h : Nat) : Bool :=
  d.committed && decide (d.base ≤ h) && decide (h < d.base + d.size)

/-- The DPA of an HPA, or none where no decoder hits or the DPA lies outside the DPA space (R94,
R95). -/
def State.dpaOf (s : State) (ld h : Nat) : Option Nat :=
  match (upTo 4).find? (fun i => (s.hdm ld i).hits h) with
  | none => none
  | some i =>
    let d := s.hdm ld i
    let g := 8 + d.gran
    let x := h - d.base
    let dpa := s.dpaBase ld i + (x >>> (g + d.ways)) <<< g + x % 2 ^ g
    if dpa < 2 ^ 46 then some dpa else none

/-- Extent of a page. -/
def pgExt (p : Nat) : Nat := p / 65536

/-- The 16 MiB chunk of a page (R276). -/
def chunkOf (p : Nat) : Nat := p / 4096

/-! ### Extents and domains -/

/-- An extent in any state other than FREE. -/
def State.inUse (s : State) (e : Nat) : Bool := (s.ext e).st != .free

/-- A logical device is a holder of an extent (R111). -/
def ExtentEntry.holds (x : ExtentEntry) (n : Nat) : Bool :=
  if x.shared then x.ldmask.getLsbD n else x.owner == n

/-- The holders of an extent as a mask. -/
def ExtentEntry.holders (x : ExtentEntry) : List Nat := (upTo 64).filter x.holds

/-- A CXL.mem request of a logical device to an extent is accepted (R111, R114). -/
def State.granted (s : State) (n e : Nat) : Bool :=
  let x := s.ext e
  x.holds n && (x.st == .granted || x.st == .recall || (x.st == .offered && x.accept.getLsbD n))

/-- The page map entry of a page: an entry not written since its extent was granted is unbacked; its
domain is its extent's (R101, R113). -/
def State.entry (s : State) (p : Nat) : PageEntry :=
  { s.page p with domain := (s.ext (pgExt p)).domain }

/-- The domain of a page. -/
def State.domOf (s : State) (p : Nat) : Nat := (s.ext (pgExt p)).domain

/-- A region of a logical device contains an extent (R109). -/
def State.inRegion (s : State) (n e : Nat) : Bool :=
  (upTo 8).any (fun r =>
    let g := s.region (8 * n + r)
    decide (g.base ≤ e) && decide (e < g.base + g.count))

/-! ### Interleave sets -/

/-- Member m of a set (R96). -/
def SetEntry.mem (e : SetEntry) (m : Nat) : Nat := bits e.member.toNat (4 * m) 4

/-- The members of a set (R96). -/
def SetEntry.members (e : SetEntry) : List Nat := (upTo (2 ^ e.ways)).map e.mem

/-- XOR of the w-bit groups of v (R98). -/
def foldWay (w v : Nat) : Nat :=
  (upTo 48).foldl (fun f i => f ^^^ bits v (w * i) w) 0

/-- The channel and channel offset of a byte of a set (R98). -/
def SetEntry.media (e : SetEntry) (x : Nat) : Nat × Nat :=
  let g := 8 + e.grain
  let u := x >>> g
  let v := u >>> e.ways
  let way := u % 2 ^ e.ways
  let way := if e.xor && e.ways != 0 then way ^^^ foldWay e.ways v else way
  (e.mem way, e.base * 2 ^ 20 + v * 2 ^ g + x % 2 ^ g)

/-- Frames of a set (R97). -/
def SetEntry.frames (e : SetEntry) : Nat := 2 ^ e.ways * e.len * 256

/-- A set has a channel as a member, its mirror partner included. -/
def SetEntry.hasChan (e : SetEntry) (c : Nat) : Bool :=
  e.members.contains c || (e.mirror && e.members.contains (c / 2 * 2))

/-- The byte of a set that a channel offset of a member lies at: the inverse of `media`. -/
def SetEntry.byteAt (e : SetEntry) (c off : Nat) : Option Nat :=
  if off < e.base * 2 ^ 20 ∨ (e.base + e.len) * 2 ^ 20 ≤ off then none
  else
    let g := 8 + e.grain
    let o := off - e.base * 2 ^ 20
    let v := o >>> g
    match (upTo (2 ^ e.ways)).find? (fun m => e.mem m == c) with
    | none => none
    | some m =>
      let way := if e.xor && e.ways != 0 then m ^^^ foldWay e.ways v else m
      some ((v * 2 ^ e.ways + way) * 2 ^ g + o % 2 ^ g)

/-- A channel serves requests (R201). -/
def State.serves (s : State) (c : Nat) : Bool :=
  ((s.chan c).st == .active || (s.chan c).st == .draining) && !(s.chan c).selfRef

/-- A set takes new frames, bins and metadata blocks: it is valid and every member is ACTIVE
(R202). -/
def State.setOpen (s : State) (i : Nat) : Bool :=
  (s.set i).valid && (s.set i).members.all (fun c => (s.chan c).st == .active)

/-! ### Frames -/

/-- The lowest run of n free units at a multiple of `al`, below `top`, in a rising list of used
intervals (R574). -/
def freeRun (al n top : Nat) : List (Nat × Nat) → Nat → Option Nat
  | [], f => let a := ceilDiv f al * al; if a + n ≤ top then some a else none
  | (u, c) :: r, f =>
    let a := ceilDiv f al * al
    if a + n ≤ u ∧ a + n ≤ top then some a else freeRun al n top r (max f (u + c))

/-- Add an interval to a rising list of disjoint intervals, joining it to its neighbours. -/
def addRun (f n : Nat) : List (Nat × Nat) → List (Nat × Nat)
  | [] => [(f, n)]
  | (u, c) :: r =>
    if f + n < u then (f, n) :: (u, c) :: r
    else if f + n = u then (f, n + c) :: r
    else if u + c = f then addRun u (c + n) r
    else (u, c) :: addRun f n r

/-- Remove an interval from a rising list of disjoint intervals that contains it. -/
def dropRun (f n : Nat) : List (Nat × Nat) → List (Nat × Nat)
  | [] => []
  | (u, c) :: r =>
    if u ≤ f ∧ f + n ≤ u + c then
      (if u < f then [(u, f - u)] else []) ++
      (if f + n < u + c then [(f + n, u + c - (f + n))] else []) ++ r
    else (u, c) :: dropRun f n r

/-- Frames in use in a set. -/
def State.usedIn (s : State) (i : Nat) : List (Nat × Nat) := look [] s.amap.used i

/-- Number of frames in use in a set. -/
def State.usedCount (s : State) (i : Nat) : Nat := (s.usedIn i).foldl (fun a r => a + r.2) 0

/-- Free frames of a set. -/
def State.freeIn (s : State) (i : Nat) : Nat := (s.set i).frames - s.usedCount i

/-- Mark frames of a set used. -/
def State.useRun (s : State) (i f n : Nat) : State :=
  s.withAmap { s.amap with used := put [] s.amap.used i (addRun f n (s.usedIn i)) }

/-- Mark frames of a set free. -/
def State.freeRunOf (s : State) (i f n : Nat) : State :=
  s.withAmap { s.amap with used := put [] s.amap.used i (dropRun f n (s.usedIn i)) }

/-- The sets that hold frames or bins (R129). -/
def State.poolSets (s : State) : List Nat :=
  (upTo 16).filter (fun i => (s.set i).valid && ((s.set i).near || (s.set i).bin))

/-- AMAP.FTOTAL (R129). -/
def State.ftotal (s : State) : Nat :=
  min (2 ^ 32) (s.poolSets.foldl (fun a i => a + (s.set i).frames) 0)

/-- The unused part of every reservation, in quarter-frames (R118). -/
def State.unusedQ (s : State) : Nat :=
  s.amap.extents.foldl (fun a e => a + (4 * e.2.rsv - e.2.backedQ)) 0

/-- Frames in the overwrite queue, in KiB (R259). -/
def State.ovwKib (s : State) : Nat := s.mem.overwrite.foldl (fun a r => a + r.kib) 0

/-- AMAP.FFREE, the free pool (R118, R259). -/
def State.ffree (s : State) : Nat :=
  (4 * (s.ftotal - s.poolSets.foldl (fun a i => a + s.usedCount i) 0) - s.unusedQ) / 4

/-- A pair of AMAP registers; 0 gives the default, which the first FTOTAL known has set (R120, R129; assumption 41). -/
def State.pairOr (s : State) (x div : Nat) : Nat :=
  let v := s.cfg amapPage x 0 32 + s.cfg amapPage (x + 4) 0 1 * 2 ^ 32
  if v = 0 then s.amap.ftotal0 / div else v

/-- FTOTAL is first known: the defaults are set (R120). -/
def State.knowTotal (s : State) : State :=
  s.when (s.amap.ftotal0 == 0) (fun s => s.withAmap { s.amap with ftotal0 := s.ftotal })

/-- AMAP.RESERVE. -/
def State.reserve (s : State) : Nat := s.pairOr 0xD0 512

/-- AMAP.LOWWM. -/
def State.lowWm (s : State) : Nat := s.pairOr 0xD8 64

/-- AMAP.CRITWM. -/
def State.critWm (s : State) : Nat := s.pairOr 0xE0 256

/-- Compare the free pool with its watermarks: CAP_LOW and CAP_CRIT once for each passage below
(R121), naming the domain `d` whose use took the pool there (R131; assumption 124). The recalls begin below CRITWM, and
they and the pressure end when the pool is above LOWWM (R121, R224). -/
def State.levels (s : State) (d : Nat) : State :=
  let f := s.ffree
  let low := s.lowWm
  let crit := s.critWm
  let s := s.when (!s.amap.low && decide (f < low)) (fun s =>
    (s.withAmap { s.amap with low := true }).raiseAt 528 amapPage d)
  let s := s.withAmap { s.amap with
    low := s.amap.low && !decide (low < f), crit := (s.amap.crit || decide (f < crit)) && !decide (low < f) }
  let s := s.when (s.amap.critArmed && decide (f < crit)) (fun s =>
    (s.withAmap { s.amap with critArmed := false }).raiseAt 529 amapPage d)
  s.when (!s.amap.critArmed && decide (crit < f)) (fun s =>
    s.withAmap { s.amap with critArmed := true })

/-- The set of a list with the most free frames, the lowest number first among equals (R99). -/
def State.most (s : State) (l : List Nat) : Option Nat :=
  l.foldl (fun (a : Option Nat) i =>
    match a with
    | none => some i
    | some b => if s.freeIn b < s.freeIn i then some i else a) none

/-- The lowest location of n frames at a multiple of `al` in a set. -/
def State.fit (s : State) (i al n : Nat) : Option Nat :=
  freeRun al n (s.set i).frames (s.usedIn i) 0

/-- Count quarter-frames on an extent and its domain (R118). -/
def State.account (s : State) (e : Nat) (add sub : Nat) : State :=
  let s := s.onExt e (fun x => { x with backedQ := x.backedQ + add - sub })
  s.onDom (s.ext e).domain (fun d => { d with backedQ := d.backedQ + add - sub })

/-- The sets that may hold a new frame of a domain (R99, R202); a mirrored domain's pages lie only in
mirrored sets, another domain's in any of its sets (R105). -/
def State.nearSets (s : State) (d : Nat) : List Nat :=
  (upTo 16).filter (fun i =>
    (s.dom d).nearSets.getLsbD i && s.setOpen i && (s.set i).near && ((s.set i).mirror || !(s.dom d).mirror))

/-- A page may take a fresh frame: within its extent's reservation, by a promotion, or from the pool
above RESERVE (R117, R120). -/
def State.mayTake (s : State) (p : Nat) (promo : Bool) : Bool :=
  let x := s.ext (pgExt p)
  promo || decide (x.backedQ < 4 * x.rsv) || decide (s.reserve < s.ffree)

/-- Take a fresh frame for a page: its set and number (R99, R117, R574). -/
def State.takeFrame (s : State) (p : Nat) (promo : Bool) : Option (State × Nat × Nat) :=
  if s.mayTake p promo then
    match s.most ((s.nearSets (s.domOf p)).filter (fun i => (s.fit i 1 1).isSome)) with
    | none => none
    | some i =>
      match s.fit i 1 1 with
      | none => none
      | some f => some ((((s.useRun i f 1).account (pgExt p) 4 0).levels (s.domOf p)), i, f)
  else none

/-- Bytes of a logical rank (R176). -/
def rankBytes (rb : Nat) : Nat := 64 * 2 ^ (13 + rb)

/-- The logical rank, subchannel, bank group, bank and row of a channel offset (R176). -/
def rowOf (rb off : Nat) : RepairRec :=
  let n := off / 64
  let row := n / 8192 % 2 ^ rb
  { rank := n / 2 ^ (13 + rb), sub := n % 2, dev := 0, bg := (n / 2 % 8) ^^^ (row % 8),
    ba := (n / 16 % 4) ^^^ (row / 8 % 4), row := row }

/-- Two rows are the same row of the same rank, subchannel and bank. -/
def RepairRec.sameRow (a b : RepairRec) : Bool :=
  a.rank == b.rank && a.sub == b.sub && a.bg == b.bg && a.ba == b.ba && a.row == b.row

/-- Byte offsets in its set of the lines that an entry's frame or bin holds. -/
def PageEntry.places (e : PageEntry) : List Nat :=
  match e.st with
  | .near => (upTo 64).map (fun j => 4096 * e.loc + 64 * j)
  | .compressed | .rawInBin => (upTo (16 * e.binsize)).map (fun j => 1024 * e.loc + 64 * j)
  | _ => []

/-- A stored line of an entry lies on a retired row (R196). -/
def State.onRetired (s : State) (e : PageEntry) : Bool :=
  e.places.any (fun x =>
    let m := (s.set e.set).media x
    let cs := if (s.set e.set).mirror then [m.1, m.1 + 1] else [m.1]
    cs.any (fun c => (s.chan c).retired.any (fun r => r.sameRow (rowOf (s.chan c).rb m.2))))

/-- Withdraw the frame or bin of an entry: it stays out of the pool and is counted in FLOST (R104). -/
def State.withdrawn (s : State) (e : PageEntry) : State :=
  s.withAmap { s.amap with lost := s.amap.lost + (if e.st = .near then 4 else e.binsize) }

/-- A frame goes back to the pool, or is withdrawn where it holds a line of a retired row (R104, R196). -/
def State.releaseFrame (s : State) (i f : Nat) : State :=
  let e : PageEntry := { st := .near, set := i, loc := f }
  if s.onRetired e then s.withdrawn e else s.freeRunOf i f 1

/-- Return a frame of a page to the pool. -/
def State.giveFrame (s : State) (p i f : Nat) : State :=
  ((s.releaseFrame i f).account (pgExt p) 0 4).levels (s.domOf p)

/-! ### Bins -/

/-- The bin group that holds a BINADDR of a set: group number (R227). -/
def groupOf (loc : Nat) : Nat := loc / 12

/-- Bin number within its group (R227). -/
def binOf (loc cls : Nat) : Nat := loc % 12 / cls

/-- Bins in a group of a class (R227). -/
def binsIn (cls : Nat) : Nat := 12 / cls

/-- The bin groups of a set, class and cluster. -/
def State.groupsOf (s : State) (u i cls : Nat) : List (Nat × BinGroup) :=
  s.tier.groups.filter (fun e => e.2.unit == u && e.2.set == i && e.2.cls == cls)

/-- Free bins of a group. -/
def BinGroup.free (g : BinGroup) : Nat := binsIn g.cls - popCount g.used.toNat 12

/-- The sets that may hold bins of a domain (R226). -/
def State.binSets (s : State) (d : Nat) : List Nat :=
  (upTo 16).filter (fun i =>
    (s.dom d).binSets.getLsbD i && s.setOpen i && (s.set i).bin && ((s.set i).mirror || !(s.dom d).mirror))

/-- The fullest of some groups that has a free bin, the first among equals. -/
def fullest (l : List (Nat × BinGroup)) : Option (Nat × BinGroup) :=
  l.foldl (fun (a : Option (Nat × BinGroup)) g =>
    if g.2.free = 0 then a
    else match a with
      | none => some g
      | some b => if g.2.free < b.2.free then some g else a) none

/-- The first free bin of a group. -/
def BinGroup.first (g : BinGroup) : Nat :=
  ((upTo (binsIn g.cls)).find? (fun k => !g.used.getLsbD k)).getD 0

/-- Take the first free bin of a group: its set and BINADDR. -/
def State.takeFrom (s : State) (g : Nat × BinGroup) : State × Nat × Nat :=
  let k := g.2.first
  let n := g.1 % 2 ^ 32
  (s.withTier { s.tier with
    groups := enter { g.2 with used := g.2.used ||| BitVec.ofNat 12 (2 ^ k) } s.tier.groups g.1 },
   g.2.set, 12 * n + g.2.cls * k)

/-- Take a bin of a class for a page, by the bin manager of a cluster, not in the sets of `no`: from
the fullest partly used group, else from a new group (R228, R574). -/
def State.takeBin (s : State) (p u cls : Nat) (no : List Nat) : Option (State × Nat × Nat) :=
  let sets := (s.binSets (s.domOf p)).filter (fun i => !no.contains i)
  let cand := (sets.map (fun i => s.groupsOf u i cls)).flatten
  let acct := fun (r : State × Nat × Nat) => (((r.1.account (pgExt p) cls 0).levels (s.domOf p)), r.2.1, r.2.2)
  match fullest cand with
  | some g => some (acct (s.takeFrom g))
  | none =>
    if s.cfgBit (cmpPage u 2) 0x80 0 || decide (s.ffree < s.reserve + 3) then none
    else match s.most (sets.filter (fun i => (s.fit i 3 3).isSome)) with
      | none => none
      | some i => match s.fit i 3 3 with
        | none => none
        | some f =>
          let g : BinGroup := { unit := u, set := i, cls := cls, used := 0 }
          let s := s.useRun i f 3
          let s := s.withTier { s.tier with groups := enter g s.tier.groups (2 ^ 32 * i + f / 3) }
          some (acct (s.takeFrom (2 ^ 32 * i + f / 3, g)))

/-- Free a bin; a group whose bins are all free returns its frames (R229). -/
def State.freeBin (s : State) (i loc cls : Nat) : State :=
  let key := 2 ^ 32 * i + groupOf loc
  match look? s.tier.groups key with
  | none => s
  | some g =>
    let used := g.used &&& ~~~(BitVec.ofNat 12 (2 ^ binOf loc cls))
    if used = 0 then
      (s.withTier { s.tier with groups := wipe s.tier.groups key }).freeRunOf i (3 * groupOf loc) 3
    else s.withTier { s.tier with groups := enter { g with used := used } s.tier.groups key }

/-- A bin goes back to its group, or is withdrawn where it holds a line of a retired row (R104, R196, R229). -/
def State.releaseBin (s : State) (i loc cls : Nat) : State :=
  let e : PageEntry := { st := .compressed, set := i, loc := loc, binsize := cls }
  if s.onRetired e then s.withdrawn e else s.freeBin i loc cls

/-- Return a bin of a page (R229). -/
def State.giveBin (s : State) (p i loc cls : Nat) : State :=
  ((s.account (pgExt p) 0 cls).releaseBin i loc cls).levels (s.domOf p)

/-- Return the frame or bin of a page map entry. -/
def State.giveBack (s : State) (p : Nat) (e : PageEntry) : State :=
  match e.st with
  | .near => s.giveFrame p e.set e.loc
  | .compressed => s.giveBin p e.set e.loc e.binsize
  | .rawInBin => s.giveBin p e.set e.loc e.binsize
  | _ => s

/-! ### Metadata blocks -/

/-- Frames of a metadata block (R123). -/
def metaFrames : Nat := 1344

/-- A place for a metadata block of a domain: set and first frame (R268, R574). -/
def State.metaPlace (s : State) (d : Nat) : Option (Nat × Nat) :=
  let ok := (s.nearSets d).filter (fun i =>
    (decide (1 ≤ (s.set i).ways) || (s.set i).mirror) && (s.fit i 2 metaFrames).isSome)
  match s.most ok with
  | none => none
  | some i => (s.fit i 2 metaFrames).map (fun f => (i, f))

/-- The extent whose metadata block holds a frame of a set. -/
def State.metaOwner (s : State) (i f : Nat) : Option Nat :=
  (s.amap.extents.find? (fun e => e.2.st != .free && e.2.metaSet == i &&
    decide (e.2.metaFrame ≤ f) && decide (f < e.2.metaFrame + metaFrames))).map (·.1)

/-- A page map entry lies in a set: as a near frame or in a bin. -/
def PageEntry.liesIn (e : PageEntry) (i : Nat) : Bool :=
  e.set == i && (e.st == .near || e.st == .compressed || e.st == .rawInBin)

/-- The set holds a near frame, a bin or a metadata block, those of a migration included (R97). Frames withdrawn under
R104 are none of them. -/
def State.setHolds (s : State) (i : Nat) : Bool :=
  s.mem.pages.any (fun p => p.2.liesIn i) ||
  s.mem.mig.any (fun m => m.2.image.liesIn i || (m.2.kind != .demotion && m.2.dset == i)) ||
  s.tier.groups.any (fun g => g.2.set == i) ||
  s.amap.extents.any (fun e => e.2.st != .free && e.2.metaSet == i)

end Sys2Proof.Machine
end

