-- ==== Sys2Proof/Machine/Check.lean ====
section
/-! DEFINITION. The check storage of a line: where its 80 bytes lie on the ten devices of a subchannel, the symbol code,
and what the check-storage unit makes of an error (R177-R179). -/

namespace Sys2Proof.Machine

/-- The check-storage unit's result for a line read (R179, R263). -/
inductive CheckResult
  | clean | corrected (dev : Fin 10) | uncorrectable | tagFail
  deriving DecidableEq, Repr

/-- The 80 bytes of a line with its tag, byte 0 lowest: devices 0-7 hold the line, device 8 symbol code bytes 0-7, and
device 9 symbol code bytes 8-11 and the tag (R177). -/
def lineImage (data : Line) (tag : BitVec 32) : BitVec 640 :=
  let code := Config.symbolCode data tag
  tag ++ code ++ data

/-- The 64 bits of a device of a line's image (R177). -/
def deviceBits (v : BitVec 640) (d : Fin 10) : BitVec 64 := v.extractLsb' (64 * d.val) 64

/-- The four bits that a device carries in a beat: bit b of beat t is bit 4t + b (R177). -/
def beatBits (v : BitVec 640) (d : Fin 10) (t : Fin 16) : BitVec 4 := (deviceBits v d).extractLsb' (4 * t.val) 4

/-- The devices that an error touches: the bits of the 80 bytes that were read wrong. -/
def devicesHit (err : BitVec 640) : List (Fin 10) := (List.finRange 10).filter (fun d => deviceBits err d != 0)

/-- What the unit makes of an error: one device is corrected, two are detected, and more are what the free value says
(R178; assumption 16). -/
def checkOf (err : BitVec 640) (free : Nat) : CheckResult :=
  match devicesHit err with
  | [] => .clean
  | [d] => .corrected d
  | [_, _] => .uncorrectable
  | _ => if Config.codeBeyond free = 0 then .uncorrectable else if Config.codeBeyond free = 1 then .tagFail else .clean

end Sys2Proof.Machine
end

