-- ==== Sys2Proof/Machine/Keys.lean ====
section
/-! DEFINITION. Keys, the line mix and tags: how a domain's key is derived, the tweak and inputs of a stored line, and the
bytes that DRAM holds of data lines, page map entries and counter-tree blocks (R7, R101, R177, R255-R262, R265, R278). -/

namespace Sys2Proof.Machine

/-! ### Keys -/

/-- The salt of a domain: as last reseeded, else as drawn at the cold start (R255). -/
def State.saltOf (s : State) (d : Nat) : BitVec 64 := (look? s.mem.salts d).getD (Config.saltDraw s.mem.drawAt d)

/-- The ASCII bytes of the label "RN4816 MIX" (R256). -/
def mixLabel : List Byte := [0x52, 0x4E, 0x34, 0x38, 0x31, 0x36, 0x20, 0x4D, 0x49, 0x58]

/-- The context of a key: domain, salt and epoch, each least significant byte first (R256). -/
def keyContext (d e : Nat) (salt : BitVec 64) : List Byte := toBytes 2 d ++ toBytes 8 salt.toNat ++ toBytes 2 e

/-- The key of a domain at an epoch: the first 256 bits of the KDF in counter mode, which one block of the PRF gives (R256;
the places of counter and length in its input are those of SP 800-108, assumption 135). -/
def domainKey (d e : Nat) (salt : BitVec 64) : BitVec 256 :=
  (Config.hmacSha384 Config.deviceSecret
    ([0, 0, 0, 1] ++ mixLabel ++ [0] ++ keyContext d e salt ++ [0, 0, 1, 0])).extractLsb' 128 256

/-- The present key of a domain (R256). -/
def State.keyNow (s : State) (d : Nat) : BitVec 256 := domainKey d (s.dom d).epoch.toNat (s.saltOf d)

/-- A Lovage's key table entry of a domain; one that has not been written since the cold start holds the key of epoch 0
(R258). -/
def State.keyAt (s : State) (lov d : Nat) : BitVec 256 :=
  (look? s.mem.keys (4096 * lov + d)).getD (domainKey d 0 (Config.saltDraw s.mem.drawAt d))

/-- The key store writes a domain's key to a Lovage's key table (R258). -/
def State.loadKey (s : State) (lov d : Nat) : State :=
  s.withMem { s.mem with keys := enter (s.keyNow d) s.mem.keys (4096 * lov + d) }

/-- The key store writes a domain's key to all four Lovage (R258). -/
def State.loadKeys (s : State) (d : Nat) : State := s.each (upTo 4) (fun s l => s.loadKey l d)

/-! ### Mix and tag -/

/-- The tweak of a line's mix: DPA or page and bin line index, kind, epoch and domain (R260). -/
def TagBind.tweak (t : TagBind) : BitVec 128 :=
  BitVec.ofNat 128 (t.addr % 2 ^ 40 + t.kind % 4 * 2 ^ 40 + t.epoch % 2 ^ 16 * 2 ^ 42 + t.domain % 2 ^ 12 * 2 ^ 58)

/-- A line as it is stored: data lines and bin lines are mixed under the key of their domain and epoch, other lines not
(R260). -/
def TagBind.mixed (t : TagBind) (d : Line) : Line :=
  if t.kind < 2 then Config.mix (domainKey t.domain t.epoch t.salt) t.tweak d else d

/-- The 32-bit tag over the stored bytes and the further inputs, keyed with the tag key (R262). -/
def TagBind.tag (t : TagBind) (stored : Line) : BitVec 32 :=
  Config.tag t.tagKey stored t.kind t.addr t.ctr t.domain t.epoch

/-- The poison pattern: zeros, tag bytes 0xFF, and their symbol code with bytes 4-11 inverted (R278). -/
def poisonImage : BitVec 640 := lineImage 0 0xFFFFFFFF ^^^ BitVec.ofNat 640 ((2 ^ 64 - 1) * 2 ^ (512 + 32))

/-- The 80 bytes that DRAM holds of a line; of an uncorrectable one, which the symbol code rejects, any (R177, R260, R262,
R278). -/
def Stored.image : Stored → Option (BitVec 640)
  | .line d t => some (lineImage (t.mixed d) (t.tag (t.mixed d)))
  | .poison => some poisonImage
  | .bad => none

/-! ### Metadata lines -/

/-- Number of a page state (R101). -/
def PageState.code : PageState → Nat
  | .unbacked => 0
  | .near => 1
  | .compressed => 2
  | .rawInBin => 3
  | .migrating => 4
  | .poisoned => 5

/-- The 16 bytes of a page map entry (R7, R101); MLOCK is 1 exactly in state 4 (R214). -/
def PageEntry.image (e : PageEntry) : BitVec 128 :=
  BitVec.ofNat 128 (e.st.code + b2n e.touch * 2 ^ 3 + e.hepoch.toNat * 2 ^ 4 + e.domain % 2 ^ 12 * 2 ^ 12 + e.set % 16 * 2 ^ 24 +
    b2n (e.st == .migrating) * 2 ^ 28 + e.crc.toNat * 2 ^ 32 + e.loc % 2 ^ 32 * 2 ^ 64 + e.binsize % 4 * 2 ^ 96 +
    (((upTo 4).map (fun q => e.plen.getD q 0 % 2 ^ 7 * 2 ^ (98 + 7 * q))).sum))

/-- The 64 bytes of a leaf block or upper node (R7, R265). -/
def TreeBlock.image (b : TreeBlock) : Line :=
  BitVec.ofNat 512 (b.major % 2 ^ 64 + (((upTo 64).map (fun k => look 0 b.minor k % 2 ^ 7 * 2 ^ (64 + 7 * k))).sum))

/-- The four entries of a page map line (R262). -/
def State.mapImage (s : State) (n : Nat) : Line :=
  BitVec.ofNat 512 (((upTo 4).map (fun k => (s.entry (4 * n + k)).image.toNat * 2 ^ (128 * k))).sum)

/-- What the tag of a leaf block or upper node is computed over, under a counter (R262). -/
def State.nodeBind (s : State) (key ctr : Nat) : TagBind :=
  { kind := if key / 2 ^ 40 = 1 then 2 else 3, addr := key, ctr := ctr, domain := 0, epoch := 0, salt := 0,
    tagKey := s.mem.tagKey }

/-- What the tag of a page map line is computed over: extent, line within its page map, GEN (R262). -/
def State.mapBind (s : State) (n : Nat) : TagBind :=
  { kind := 4, addr := n, ctr := (s.ext (n / 16384)).gen.toNat, domain := 0, epoch := 0, salt := 0, tagKey := s.mem.tagKey }

/-- The 80 bytes of a stored copy of a leaf block or upper node (R177, R262). -/
def NodeCopy.image (c : NodeCopy) : BitVec 640 := lineImage c.block.image (c.tag.tag c.block.image)

end Sys2Proof.Machine
end

