-- ==== Sys2Proof/Machine/Parcel.lean ====
section
/-! DEFINITION. CRC-32C and the parcel format (R230-R236). -/

namespace Sys2Proof.Machine

/-! ### CRC-32C -/

/-- One bit of the reflected CRC-32C register (R236). -/
def crcBit (c : Nat) : Nat := if c % 2 = 1 then (c / 2) ^^^ 0x82F63B78 else c / 2

/-- One byte of the CRC-32C register (R236). -/
def crcByte (c : Nat) (b : Byte) : Nat :=
  (upTo 8).foldl (fun a _ => crcBit a) (c ^^^ b.toNat)

/-- Continue the CRC-32C of earlier bytes (R236, R242). -/
def crcMore (before : Word) (d : List Byte) : Word :=
  BitVec.ofNat 32 (d.foldl crcByte (before.toNat ^^^ 0xFFFFFFFF) ^^^ 0xFFFFFFFF)

/-- The CRC-32C of some bytes (R236). -/
def crc32c (d : List Byte) : Word := crcMore 0 d

/-! ### Decoding -/

/-- A length extended by bytes while the byte read is 255 (R232, R233). -/
def readExt : List Byte → Nat → Option (Nat × List Byte)
  | [], _ => none
  | b :: t, n => if b.toNat = 255 then readExt t (n + 255) else some (n + b.toNat, t)

/-- A nibble with its extension (R232). -/
def readLen (nib : Nat) (p : List Byte) : Option (Nat × List Byte) :=
  if nib = 15 then readExt p 15 else some (nib, p)

/-- Copy m bytes of the output from `off` bytes back, byte by byte; the output is kept last byte
first (R233). -/
def copyBack : Nat → Nat → List Byte → List Byte
  | 0, _, rev => rev
  | m + 1, off, rev => copyBack m off (rev.getD (off - 1) 0 :: rev)

/-- The decoder of R233 on a compressed body, its output last byte first. -/
def decodeBody : Nat → List Byte → Nat → Nat → List Byte → Option (List Byte)
  | 0, _, _, _, _ => none
  | _, [], _, _, _ => none
  | fuel + 1, t :: p, room, n, rev =>
    match readLen (t.toNat / 16) p with
    | none => none
    | some (lit, p) =>
      if p.length < lit ∨ room < n + lit then none
      else
        let rev := (p.take lit).reverse ++ rev
        let n := n + lit
        match p.drop lit with
        | [] => if t.toNat % 16 = 0 then some rev else none
        | [_] => none
        | lo :: hi :: p =>
          let off := lo.toNat + 256 * hi.toNat
          if off = 0 ∨ n < off ∨ 1024 ≤ off then none
          else match readLen (t.toNat % 16) p with
            | none => none
            | some (x, p) =>
              if room < n + x + 4 then none
              else decodeBody fuel p room (n + x + 4) (copyBack (x + 4) off rev)

/-- The bytes that a compressed body decodes to, where it is well formed and gives L bytes (R233). -/
def decodeWhole (body : List Byte) (len : Nat) : Option (List Byte) :=
  match decodeBody (body.length + 1) body len 0 [] with
  | some rev => if rev.length = len then some rev.reverse else none
  | none => none

/-- LEN of a parcel header (R231). -/
def parcelLen (p : List Byte) : Nat := bits (ofBytes (p.take 2)) 0 11

/-- RAW of a parcel header (R231). -/
def parcelRaw (p : List Byte) : Bool := bitOf (ofBytes (p.take 2)) 15

/-- How many bytes the parcel at the front of some bytes takes (R231). -/
def parcelSize (p : List Byte) : Nat := 2 + parcelLen p

/-- The original bytes of the parcel at the front of some bytes, `len` of them; none: malformed
(R233). -/
def parcel (p : List Byte) (len : Nat) : Option (List Byte) :=
  let body := (p.drop 2).take (parcelLen p)
  if p.length < parcelSize p ∨ p.length < 2 then none
  else if bits (ofBytes (p.take 2)) 11 4 ≠ 0 then none
  else if parcelRaw p then (if parcelLen p = len then some body else none)
  else if 15 * len / 16 ≤ 2 + parcelLen p then none
  else decodeWhole body len

/-! ### Encoding -/

/-- A parcel header (R231). -/
def parcelHead (len : Nat) (raw : Bool) : List Byte := toBytes 2 (len + b2n raw * 2 ^ 15)

/-- A parcel that encodes some bytes: compressed where the encoder's body decodes to them and is
short enough, else raw (R234; the choice of the body is free, assumption 7). -/
def encode (d : List Byte) : List Byte :=
  let body := Config.encBody d
  if 2 + body.length < 15 * d.length / 16 ∧ decodeWhole body d.length = some d then
    parcelHead body.length false ++ body
  else parcelHead d.length true ++ d

/-- PLEN of a parcel: its stored length in 16-byte units (R230). -/
def plenOf (p : List Byte) : Nat := ceilDiv p.length 16

/-- Bytes of zero, as many as asked for. -/
def zeroBytes (n : Nat) : List Byte := List.replicate n 0

/-- A parcel with its padding in a bin (R230). -/
def padded (p : List Byte) : List Byte := p ++ List.replicate (16 * plenOf p - p.length) 0

/-- The four parcels of a page (R4, R225). -/
def pageParcels (d : List Byte) : List (List Byte) :=
  (upTo 4).map (fun q => encode ((d.drop (1024 * q)).take 1024))

/-- Pieces of 1,024 bytes of some bytes; the last may be shorter (R235). -/
def pieces : Nat → List Byte → List (List Byte)
  | 0, _ => []
  | _, [] => []
  | n + 1, d => d.take 1024 :: pieces n (d.drop 1024)

/-- The 64 bytes of a line, byte 0 first (R7). -/
def lineBytes (d : Line) : List Byte := toBytes 64 d.toNat

/-- The line made of 64 bytes; missing bytes are zero. -/
def lineOf (b : List Byte) : Line := BitVec.ofNat 512 (ofBytes (b.take 64))

end Sys2Proof.Machine
end

