-- ==== Sys2Proof/Machine/Record.lean ====
section
/-! DEFINITION. Fault records: the reaction that a fault needs, the unit it is filed against, the
merging and escalation of R493, quiet periods and retained fatal records. -/

namespace Sys2Proof.Machine

/-- The page of the device record (R492). -/
def devRec : Nat := 0xFFFF

/-- The page of the unit whose record a site files into (R492). -/
def unitOf (p : Nat) : Nat :=
  if pgCluster p = 3 then chipletPage (pgSlot p)
  else if pgSlice p = 15 then p / 1024 * 1024 + 1023
  else p / 64 * 64 + 63

/-- A unit encloses another, itself included (R493). -/
def encloses (a b : Nat) : Bool :=
  a == devRec || a == b ||
  (b != devRec && pgSlot a == pgSlot b &&
    (pgCluster a == 3 || (pgSlice a == 15 && pgCluster a == pgCluster b)))

/-- Site H0.0.4, Hyssop's isolated serial link (R488). -/
def serialPage (p : Nat) : Bool := p / 64 == 0x1100 / 64

/-- The class of a fault as taken: a class F at H0.0.4 is class S (R490). Classes are C 1, D 2, S 3,
P 4, F 5 (R507). -/
def classAt (p cls : Nat) : Nat := if serialPage p && cls == 5 then 3 else cls

/-- The reaction that a fault needs, as FREC0.REACTION (R489, R490, R507). -/
def reactionOf (p cls : Nat) : Nat :=
  if cls < 5 then cls - 1
  else if 8 ≤ pgSlot p ∧ pgSlot p ≤ 11 then
    (if pgCluster p < 2 ∧ pgSlice p < 4 ∧ pgEngine p = 6 then 4 else 5)
  else if pgSlot p = 4 ∨ pgSlot p = 5 ∨ pgSlot p = 12 then 5
  else 6

/-- The unit of the scope of a reaction (R490, R493). -/
def scopeOf (p need : Nat) : Nat :=
  if need = 6 then devRec else if need = 5 then chipletPage (pgSlot p) else unitOf p

/-- The record of a unit. -/
def State.frec (s : State) (u : Nat) : FaultRec := look {} s.flt.recs u

/-- Set the record of a unit. -/
def State.setRec (s : State) (u : Nat) (r : FaultRec) : State :=
  s.withFlt { s.flt with recs := put {} s.flt.recs u r }

/-- Largeness of a unit: device, chiplet, cluster, slice. -/
def unitRank (u : Nat) : Nat :=
  if u = devRec then 3 else if pgCluster u = 3 then 2 else if pgSlice u = 15 then 1 else 0

/-- The active record of the largest unit that encloses a unit (R493). -/
def State.activeOver (s : State) (u : Nat) : Option Nat :=
  s.flt.recs.foldl (fun (a : Option Nat) e =>
    if e.2.active && encloses e.1 u then
      match a with
      | none => some e.1
      | some b => if unitRank b < unitRank e.1 then some e.1 else a
    else a) none

/-- A quiet period in ns, by class (R494, R509). -/
def State.quiet (s : State) (cls : Nat) : Nat :=
  let v :=
    if cls = 1 then s.cfg fcPage 0x84 0 16 else if cls = 2 then s.cfg fcPage 0x84 16 16
    else if cls = 3 then s.cfg fcPage 0x88 0 16 else if cls = 4 then s.cfg fcPage 0x88 16 16
    else s.cfg fcPage 0x8C 0 16
  ms 10 * max 1 v

/-- The highest class that a record has seen (R493). -/
def FaultRec.highest (r : FaultRec) : Nat :=
  if r.seen.getLsbD 4 then 5 else if r.seen.getLsbD 3 then 4 else if r.seen.getLsbD 2 then 3
  else if r.seen.getLsbD 1 then 2 else 1

/-- Sixteen bits of CRC-32C as the CHECK of a retained fatal record (R469). -/
def fatalImage (seq time src skipped site cls subject : Nat) : List Byte :=
  let b := toBytes 8 seq ++ toBytes 8 time ++ toBytes 2 src ++ toBytes 1 (min 255 skipped) ++
    toBytes 1 0 ++ toBytes 4 (site + cls * 2 ^ 24) ++ toBytes 6 subject
  b ++ toBytes 2 (crc32c b).toNat

/-- A retained fatal record of an opening or escalation to class F: the eight words of the next slot,
or a count in SKIPPED (R469). Answers whether it was taken. -/
def State.takeFatal (s : State) (src site cls subject : Nat) : State × Bool :=
  if s.flt.fatalAt.all (fun t => decide (t + sec 10 ≤ s.now)) then
    let img := fatalImage s.evt.seq s.now src s.flt.skipped site cls subject
    let s := s.each (upTo 8) (fun s w =>
      s.retWrite (0x400 + 8 * s.flt.fatalSlot + w)
        (BitVec.ofNat 32 (ofBytes ((img.drop (4 * w)).take 4))) none)
    (s.withFlt { s.flt with
      fatalAt := some s.now, skipped := 0, fatalSlot := (s.flt.fatalSlot + 1) % 64 }, true)
  else (s.withFlt { s.flt with skipped := satAdd 255 s.flt.skipped 1 }, false)

/-- Raise FLT_OPEN (0) or FLT_ESCALATED (1), with the FAULT flag; with reaction 4-6 a retained fatal
record is taken (R469, R493). -/
def State.raiseFault (s : State) (src site cls cause need : Nat) : State :=
  let r := if 4 ≤ need then s.takeFatal src site cls 0 else (s, false)
  r.1.raise { src := src, site := site, cls := cls, code := cause, fault := true, retained := r.2 }

/-- File a fault in its record (R493). The reaction at the site is applied apart. -/
def State.fileAt (s : State) (site cls row col cause : Nat) : State :=
  let p := pageOfSite site
  let cls := classAt p cls
  let need := reactionOf p cls
  let scope := scopeOf p need
  let u := unitOf p
  match s.activeOver u with
  | none =>
    let at_ := if encloses scope u then scope else u
    let r : FaultRec := {
      site := site, cls := cls, reaction := need, active := true,
      seen := BitVec.ofNat 5 (2 ^ (cls - 1)), count := 0, time := s.now, row := row, col := col,
      cause := cause, quietEnd := s.now + s.quiet cls, fails := 0, heldOut := false }
    (s.setRec at_ r).raiseFault 0 site cls cause need
  | some v =>
    let r := s.frec v
    let up := decide (r.reaction < need)
    let to_ := if up && encloses scope v then scope else v
    let seen := r.seen ||| BitVec.ofNat 5 (2 ^ (cls - 1))
    let r := { r with count := satAdd 0xFFFF r.count 1, seen := seen,
                      reaction := if up then need else r.reaction }
    let r := { r with quietEnd := s.now + s.quiet r.highest }
    let s := (s.when (to_ != v) (fun s => s.setRec v {})).setRec to_ r
    s.when up (fun s => s.raiseFault 1 site cls cause need)

/-- File a fault of a page with no cell location. -/
def State.fileP (s : State) (p cls cause : Nat) : State :=
  s.fileAt (siteOfPage p) cls 0xFFFF 0xFFFF cause

end Sys2Proof.Machine
end

