-- ==== Sys2Proof/Machine/Refresh.lean ====
section
/-! DEFINITION. DRAM locations, and the refresh and row-disturb unit of a channel: intervals, debt, refresh
management, and the order of the unit's commands to one bank (R176, R182-R188). -/

namespace Sys2Proof.Machine

/-! ### DRAM locations -/

/-- rankmap: a spared logical rank lies on the spare rank (R176, R192). -/
def Channel.rankmap (ch : Channel) (lr : Nat) : Nat := if ch.spared = some lr then ch.lranks - 1 else lr

/-- The DRAM location of a channel offset, with the first column of its burst (R176). -/
def dramOf (ch : Channel) (off : Nat) : RepairRec × Nat :=
  let r := rowOf ch.rb off
  ({ r with rank := ch.rankmap r.rank }, off / 64 / 64 % 128 * 16)

/-- A channel offset on the rank to which rankmap sends it. -/
def Channel.place (ch : Channel) (off : Nat) : Nat :=
  ch.rankmap (off / rankBytes ch.rb) * rankBytes ch.rb + off % rankBytes ch.rb

/-- Key of a bank: rank and subchannel, bank group and bank. -/
def bankKey (r : RepairRec) : Nat := 32 * (2 * r.rank + r.sub) + 4 * r.bg + r.ba

/-- Bytes that a copy has walked, at 4 GB/s (R192, R199). -/
def Copy.bytes (k : Copy) (now : Nat) : Nat := if k.paused then k.done else k.done + 4 * (now - k.since)

/-- A copy pauses (R206). -/
def Copy.pause (k : Copy) (now : Nat) : Copy := { k with since := now, done := k.bytes now, paused := true }

/-- A copy goes on (R206). -/
def Copy.resume (k : Copy) (now : Nat) : Copy := { k with since := now, paused := false }

/-- A channel stalls: requests wait across a quick retrain or a frequency change (R175, R190, R308). -/
def Channel.still (ch : Channel) : Bool := ch.fctlBusy || ch.retraining

/-- Requests at a channel offset wait: the channel stalls, or a soft repair holds the bank for another row (R195, R308). -/
def Channel.holds (ch : Channel) (off : Nat) : Bool :=
  ch.still || (match ch.job with
    | some (.soft r) =>
      let a := rowOf ch.rb off
      a.rank == r.rank && a.sub == r.sub && a.bg == r.bg && a.ba == r.ba && a.row != r.row
    | _ => false)

/-! ### Rates and debt -/

/-- The ranks of a channel are refreshed: it is in service, drained or quarantined, and they are not in
self-refresh (R182, R203, R205). -/
def State.refreshes (s : State) (c : Nat) : Bool :=
  let ch := s.chan c
  (ch.st == .active || ch.st == .draining || ch.st == .drained || ch.st == .quarantined) && !ch.selfRef

/-- A physical rank takes commands: a spared one takes none (R192). -/
def Channel.takes (ch : Channel) (rank : Nat) : Bool := decide (rank < ch.lranks) && ch.spared != some rank

/-- Mode register 4 or a DIMM temperature asks for the doubled rate of a rank (R185). -/
def State.doubled (s : State) (c rank : Nat) : Bool :=
  (s.chan c).mr4.getLsbD rank || decide (1 ≤ (s.chan c).dimm0.level) || decide (1 ≤ (s.chan c).dimm1.level)

/-- The refresh interval of a rank in ns (R182). -/
def State.refInterval (s : State) (c rank : Nat) : Nat :=
  (if s.cfgBit (chanPage c 1) 0x80 0 then 1950 else 3900) / (if s.doubled c rank then 2 else 1)

/-- The limit on debt that the refresh mode sets (R183). -/
def State.modeLimit (s : State) (c : Nat) : Nat := if s.cfgBit (chanPage c 1) 0x80 0 then 8 else 4

/-- The limit on a rank's refresh debt (R183). -/
def State.debtLimit (s : State) (c : Nat) : Nat := min (s.cfg (chanPage c 1) 0x80 1 4) (s.modeLimit c)

/-- A rank's refresh falls due: the next one is one interval later, at the rate that now holds (R182, R185). -/
def State.nextDue (s : State) (c k : Nat) : State :=
  let at_ := (look? (s.chan c).due k).getD s.now
  s.onChan c (fun ch => { ch with
    due := enter (at_ + s.refInterval c (k / 2)) ch.due k,
    fast := if s.doubled c (k / 2) then ch.fast ||| BitVec.ofNat 64 (2 ^ k) else ch.fast &&& ~~~(BitVec.ofNat 64 (2 ^ k)) })

/-- All-bank refresh of a rank and subchannel is issued. -/
def State.refreshNow (s : State) (c k : Nat) : State :=
  (s.onChan c (fun ch => { ch with issued := .ref k :: ch.issued })).count (chanPage c 0) 0x13 1

/-- A postponed refresh is issued (R184). -/
def State.repayOne (s : State) (c k : Nat) : State :=
  (s.onChan c (fun ch => { ch with debt := edit 0 ch.debt k (· - 1), repaidAt := enter s.now ch.repaidAt k })).refreshNow c k

/-- The whole debt of a rank and subchannel is repaid, one refresh after another (R184, R190, R206). -/
def State.repayRank (s : State) (c k : Nat) : State :=
  s.each (upTo (look 0 (s.chan c).debt k)) (fun s _ => s.repayOne c k)

/-- The debt of every rank is repaid (R184, R190). -/
def State.repayAll (s : State) (c : Nat) : State :=
  s.each ((s.chan c).debt.map (·.1)) (fun s k => s.repayRank c k)

/-! ### Refresh management -/

/-- The DIMM that holds a rank supports directed refresh management, and DRFM_EN is set (R186). -/
def State.directed (s : State) (c rank : Nat) : Bool :=
  let ch := s.chan c
  let n := ch.dimm0.spd.elim 0 (fun d => d.pranks * 2 ^ d.height)
  s.cfgBit (chanPage c 1) 0x80 9 && ((if rank < n then ch.dimm0 else ch.dimm1).spd.any (·.drfm))

/-- The refresh unit's commands to one bank, first to last (R188). -/
inductive RefKind
  | forced | rfm | sampled | repay
  deriving DecidableEq, Repr

/-- Their order (R188). -/
def refOrder : List RefKind := [.forced, .rfm, .sampled, .repay]

/-- A command to a bank is pending: `ask`, the DRAM has requested a back-off; `idle`, the rank has been without a request
for REPAY_IDLE (R183, R184, R186, R187). -/
def State.refPending (s : State) (c bank : Nat) (ask idle : Bool) (k : RefKind) : Bool :=
  let ch := s.chan c
  let r := bank / 32
  match k with
  | .forced => (look? ch.due r).any (fun t => decide (t < s.now)) && decide (s.debtLimit c ≤ look 0 ch.debt r)
  | .rfm => ask || decide (Config.rfmLimit c (r / 2) ≤ look 0 ch.acts bank)
  | .sampled => listed ch.sampled bank
  | .repay => idle && decide (0 < look 0 ch.debt r)

/-- A same-bank refresh-management command is issued: the bank's rolling count starts again (R187). -/
def State.rfmNow (s : State) (c bank : Nat) : State :=
  s.onChan c (fun ch => { ch with
    rfm := satAdd 0xFFFF ch.rfm 1, acts := wipe ch.acts bank, issued := .rfm bank :: ch.issued })

/-- Issue a command to a bank. A sampled row's command is directed where the DIMM supports it (R186). -/
def State.refIssue (s : State) (c bank : Nat) (k : RefKind) : State :=
  let r := bank / 32
  match k with
  | .forced => (s.nextDue c r).refreshNow c r
  | .rfm => s.rfmNow c bank
  | .sampled =>
    let row := look 0 (s.chan c).sampled bank
    let t := s.onChan c (fun ch => { ch with sampled := wipe ch.sampled bank })
    if s.directed c (r / 2) then
      t.onChan c (fun ch => { ch with rfm := satAdd 0xFFFF ch.rfm 1, issued := .drfm bank row :: ch.issued })
    else t.rfmNow c bank
  | .repay => s.repayOne c r

/-- The refresh unit's turn at a precharged bank: its pending commands in their order (R188). -/
def State.bankTurn (s : State) (c bank : Nat) (ask idle : Bool) : State :=
  s.each refOrder (fun s k => s.when (s.refPending c bank ask idle k) (fun s => s.refIssue c bank k))

/-- The turn at every bank of a rank and subchannel. -/
def State.rankTurn (s : State) (c r : Nat) (idle : Bool) : State :=
  s.each (upTo 32) (fun s b => s.bankTurn c (32 * r + b) false (idle && b == 31))

/-- The turn at every bank of a channel that has refresh management pending (R190). -/
def State.chanTurn (s : State) (c : Nat) : State :=
  s.each (((s.chan c).sampled.map (·.1)) ++ ((s.chan c).acts.map (·.1))) (fun s b => s.bankTurn c b false false)

/-- An access to a line. Whether it activates its row is left open (a free value). Where it does, the bank has been
precharged and the refresh unit has had its turn; the activate is counted, and sampled with probability 1/2^K by the
subchannel's shift register (R186, R187; assumptions 8, 126). -/
def State.activated (s : State) (c off : Nat) : State :=
  let v := Config.activates s.free
  let s := s.takeFree
  let d := (dramOf (s.chan c) off).1
  let k := bankKey d
  let s := s.onChan c (fun ch => { ch with reqAt := enter s.now ch.reqAt (k / 32) })
  s.when (v == 1) (fun s =>
    let s := s.bankTurn c k false false
    let r := Config.rowShift (look 0 (s.chan c).rowLfsr d.sub)
    let hit := r.toNat % 2 ^ s.cfg (chanPage c 1) 0x80 5 4 == 0
    s.onChan c (fun ch => { ch with
      rowLfsr := enter r ch.rowLfsr d.sub,
      acts := edit 0 ch.acts k (· + 1),
      sampled := if hit then enter d.row ch.sampled k else ch.sampled }))

end Sys2Proof.Machine
end

