-- ==== Sys2Proof/Machine/Media.lean ====
section
/-! DEFINITION. The media: mirrored access to the channels, the counter trees behind the metadata
caches, lazy initialisation, tags, and the reading and writing of stored lines (R98, R158, R159,
R178, R199, R262-R281). -/

namespace Sys2Proof.Machine

/-! ### Channels of an access -/

/-- Key of a media line. -/
def mediaKey (c off : Nat) : Nat := c * 2 ^ 40 + off / 64

/-- DDRP.MIR.MIRSEL of a pair's even channel (R199, R212). -/
def State.mirsel (s : State) (c : Nat) : Bool := s.cfgBit (chanPage c 4) 0x8C 3

/-- The channel that a read of a set's byte goes to; none where it does not serve (R199, R201). A pair
in SYNC whose chosen channel does not serve reads the other (R200). -/
def State.readChan (s : State) (i x : Nat) : Option Nat :=
  let e := s.set i
  let (c, off) := e.media x
  let ok := fun c => if s.serves c then some c else none
  if !e.mirror then ok c
  else match (s.chan c).mir with
    | .off | .sync =>
      let odd := s.mirsel c && bitOf (off / 64) 1
      if odd then (ok (c + 1)).or (ok c) else (ok c).or (ok (c + 1))
    | .evenOnly => ok c
    | .oddOnly => ok (c + 1)
    | .resilverOdd => ok c
    | .resilverEven => ok (c + 1)
    | .poisoned => none

/-- A channel stores lines: it serves, or it is quarantined and R300 is applied to its unit (R300). -/
def State.stores (s : State) (c : Nat) : Bool :=
  s.serves c || ((s.chan c).st == .quarantined && s.flt.applying.any (fun e => encloses e.1 (chanPage c 63)))

/-- The channels that a write of a set's byte goes to (R199). -/
def State.writeChans (s : State) (i x : Nat) : List Nat :=
  let e := s.set i
  let (c, _) := e.media x
  if !e.mirror then [c].filter s.stores
  else match (s.chan c).mir with
    | .off | .sync | .resilverOdd | .resilverEven => [c, c + 1].filter s.stores
    | .evenOnly => [c].filter s.stores
    | .oddOnly => [c + 1].filter s.stores
    | .poisoned => []

/-- Where a write of a channel offset goes: to the line's place, and below the pointer of a sparing copy of its rank to the
spare rank too (R192). -/
def State.landing (s : State) (c off : Nat) : List Nat :=
  let ch := s.chan c
  let size := rankBytes ch.rb
  let both := match ch.job with
    | some (.sparing r) => off / size == r && decide (off % size < ch.copy.bytes s.now)
    | _ => false
  mediaKey c (ch.place off) :: (if both then [mediaKey c ((ch.lranks - 1) * size + off % size)] else [])

/-- A channel stores a line at an offset. -/
def State.storeAt (s : State) (c off : Nat) (v : Stored) : State :=
  s.withMem { s.mem with lines := (s.landing c off).foldl (fun t k => enter v t k) s.mem.lines }

/-- Store at a byte of a set, on every channel that takes the write. -/
def State.putMedia (s : State) (i x : Nat) (v : Stored) : State :=
  let off := ((s.set i).media x).2
  s.each (s.writeChans i x) (fun s c => ((s.count (chanPage c 0) 0x12 1).activated c off).storeAt c off v)

/-- What a channel holds at an offset. -/
def State.getMedia (s : State) (c off : Nat) : Option Stored := look? s.mem.lines (mediaKey c ((s.chan c).place off))

/-! ### Mirrored ranges and copies -/

/-- Put a range among others by ascending base. -/
def byBase (r : Nat × Nat) : List (Nat × Nat) → List (Nat × Nat)
  | [] => [r]
  | x :: t => if r.1 < x.1 then r :: x :: t else x :: byBase r t

/-- Ranges of a pair's mirrored sets in ascending channel offset: base and length in MiB (R199). -/
def State.mirrorRanges (s : State) (ev : Nat) : List (Nat × Nat) :=
  (((upTo 16).filter (fun i => (s.set i).valid && (s.set i).mirror && (s.set i).members.contains ev)).map
    (fun i => ((s.set i).base, (s.set i).len))).foldl (fun l r => byBase r l) []

/-- An offset lies in a pair's mirrored ranges. -/
def State.inMirror (s : State) (ev off : Nat) : Bool :=
  (s.mirrorRanges ev).any (fun r => decide (r.1 * 2 ^ 20 ≤ off) && decide (off < (r.1 + r.2) * 2 ^ 20))

/-- The channel offset of a place on the channel's ranks (R176). -/
def Channel.offset (ch : Channel) (x : Nat) : Nat :=
  let size := rankBytes ch.rb
  match ch.spared with
  | some r => if x / size = ch.lranks - 1 then r * size + x % size else x
  | none => x

/-- The lines that a channel holds in its pair's mirrored ranges: offset and content (R199). -/
def State.mirrorLines (s : State) (c : Nat) : List (Nat × Stored) :=
  ((s.mem.lines.filter (fun e => e.1 / 2 ^ 40 == c)).map (fun e =>
    ((s.chan c).offset (e.1 % 2 ^ 40 * 64), e.2))).filter (fun e => s.inMirror (c / 2 * 2) e.1)

/-- Bytes of a pair's mirrored ranges (R199). -/
def State.mirrorBytes (s : State) (ev : Nat) : Nat := 2 ^ 20 * ((s.mirrorRanges ev).map (·.2)).sum

/-- Position of a channel offset in the walk of a pair's resilver (R199). -/
def State.walkAt (s : State) (ev off : Nat) : Nat :=
  ((s.mirrorRanges ev).foldl (fun (a : Nat × Option Nat) r =>
    (a.1 + r.2 * 2 ^ 20,
      a.2.or (if r.1 * 2 ^ 20 ≤ off ∧ off < (r.1 + r.2) * 2 ^ 20 then some (a.1 + off - r.1 * 2 ^ 20) else none)))
    (0, none)).2.getD 0

/-- What a copy writes of a line: of an uncorrectable one the poison pattern (R192, R199). -/
def Stored.copied (v : Stored) : Stored := if v = .bad then .poison else v

/-- An uncorrectable line that a channel meets is counted, at every read of it (R211; assumption 127). -/
def State.countUe (s : State) (c : Nat) : State :=
  s.onChan c (fun ch => { ch with ueTotal := satAdd 0xFFFF ch.ueTotal 1 })

/-- The uncorrectable lines that a copy meets: each is counted, with a class D record (R192, R199). -/
def State.copyBad (s : State) (c : Nat) (l : List Stored) : State :=
  s.each (l.filter (· == .bad)) (fun s _ => (s.countUe c).fileP (chanPage c 4) 2 0)

/-- The lines of the failing rank that a sparing copy has walked and that do not yet stand in the spare rank (R192). -/
def State.walkSpare (s : State) (c upto : Nat) : State :=
  let ch := s.chan c
  match ch.job with
  | some (.sparing rank) =>
    let size := rankBytes ch.rb
    let pos := fun (k : Nat) => k % 2 ^ 40 * 64 % size
    let mine := s.mem.lines.filter (fun e => e.1 / 2 ^ 40 == c && e.1 % 2 ^ 40 * 64 / size == rank &&
      decide (ch.copy.copied ≤ pos e.1) && decide (pos e.1 < upto))
    let s := s.withMem { s.mem with
      lines := mine.foldl (fun t e => enter e.2.copied t (mediaKey c ((ch.lranks - 1) * size + pos e.1))) s.mem.lines }
    (s.copyBad c (mine.map (·.2))).onChan c (fun ch => { ch with copy := { ch.copy with copied := max ch.copy.copied upto } })
  | _ => s

/-- Source and target of a pair's resilver (R199). -/
def State.silverWay (s : State) (ev : Nat) : Option (Nat × Nat) :=
  match (s.chan ev).mir with
  | .resilverOdd => some (ev, ev + 1)
  | .resilverEven => some (ev + 1, ev)
  | _ => none

/-- The lines that a resilver has walked and that do not yet stand on its target (R199). -/
def State.walkSilver (s : State) (ev upto : Nat) : State :=
  match s.silverWay ev with
  | none => s
  | some (src, dst) =>
    let from_ := (s.chan ev).silver.copied
    let on := fun (e : Nat × Stored) => decide (from_ ≤ s.walkAt ev e.1) && decide (s.walkAt ev e.1 < upto)
    let mine := (s.mirrorLines src).filter on
    let gone := (s.mirrorLines dst).filter on
    let put := fun (f : Table Stored → Nat → Table Stored) (t : Table Stored) (off : Nat) => (s.landing dst off).foldl f t
    let passed := fun (c k : Nat) => k / 2 ^ 40 == c && decide (from_ ≤ s.walkAt ev (k % 2 ^ 40 * 64)) &&
      decide (s.walkAt ev (k % 2 ^ 40 * 64) < upto)
    let lost := (s.mem.badMeta.filter (passed src)).map (fun _ => Stored.bad)
    let s := s.withMem { s.mem with
      lines := mine.foldl (fun t e => put (fun t k => enter e.2.copied t k) t e.1)
        (gone.foldl (fun t e => put wipe t e.1) s.mem.lines),
      stale := s.mem.stale.filter (fun k => !passed ev k),
      badMeta := s.mem.badMeta.filter (fun k => !passed dst k),
      metaPoison := s.mem.metaPoison.filter (fun k => !passed dst k) ++
        ((s.mem.badMeta ++ s.mem.metaPoison).filter (passed src)).map (fun k => mediaKey dst (k % 2 ^ 40 * 64)) }
    (s.copyBad src (mine.map (·.2) ++ lost)).onChan ev (fun ch =>
      { ch with silver := { ch.silver with copied := max ch.silver.copied upto } })

/-- What the copies that run on a channel and its pair have walked stands at their destinations (R192, R199). -/
def State.copyWalk (s : State) (c : Nat) : State :=
  let ev := c / 2 * 2
  (s.walkSpare c ((s.chan c).copy.bytes s.now)).walkSilver ev ((s.chan ev).silver.bytes s.now)

/-- A metadata line, a byte of a set, is written: a channel of a mirrored pair that does not take the write keeps an old copy
(R199, R200). -/
def State.noteMeta (s : State) (i x : Nat) : State :=
  if (s.set i).mirror then
    let m := (s.set i).media x
    let k := mediaKey m.1 m.2
    let l := s.mem.stale.filter (· != k)
    let cs := s.writeChans i x
    s.withMem { s.mem with
      stale := if cs.length = 2 then l else k :: l,
      badMeta := s.mem.badMeta.filter (fun b => !(cs.map (fun c => mediaKey c m.2)).contains b),
      metaPoison := s.mem.metaPoison.filter (fun b => !(cs.map (fun c => mediaKey c m.2)).contains b) }
  else s

/-- The copy of a metadata line on the channel that its pair does not read is old: it has not taken the line's last write,
or the line was created while the pair was not in SYNC, and no resilver has passed it (R199, R200). -/
def State.partnerOld (s : State) (ev off born : Nat) : Bool :=
  let ch := s.chan ev
  let old := s.mem.stale.contains (mediaKey ev off) || decide (ch.soloAt ≤ born)
  match ch.mir with
  | .off | .sync => false
  | .evenOnly | .oddOnly | .poisoned => old
  | .resilverOdd | .resilverEven => old && decide (ch.silver.bytes s.now ≤ s.walkAt ev off)

/-! ### The counter tree -/

/-- Key of a leaf block or upper node. -/
def blockKey (hs lvl i : Nat) : Nat := lvl * 2 ^ 40 + i * 32 + hs

/-- The page of a slice in the group of 32 pages that a leaf index names (R132, R264). -/
def leafPage (hs i : Nat) : Nat :=
  32 * i + ((upTo 32).find? (fun k => homeOf (32 * i + k) == hs)).getD 0

/-- When a block was created, where nothing has changed it since (R266, R269, R276). -/
def State.born (s : State) (lvl i : Nat) : Nat :=
  if lvl = 1 then look 0 s.mem.chunks (i / 128)
  else if lvl = 2 then look 0 s.mem.chunks (i / 2)
  else (look? s.mem.holder (lvl * 2 ^ 40 + i)).elim 0 (·.2)

/-- A leaf block or node exists: its chunk is initialised, or it has a holder (R269, R276). -/
def State.hasBlock (s : State) (lvl i : Nat) : Bool :=
  if lvl = 1 then listed s.mem.chunks (i / 128)
  else if lvl = 2 then listed s.mem.chunks (i / 2)
  else listed s.mem.holder (lvl * 2 ^ 40 + i)

/-- A leaf block or upper node (R265, R266). -/
def State.block (s : State) (hs lvl i : Nat) : TreeBlock :=
  (look? s.mem.blocks (blockKey hs lvl i)).getD { major := 2 ^ 63 + s.born lvl i, minor := [] }

/-- Set a block. -/
def State.setBlock (s : State) (hs lvl i : Nat) (b : TreeBlock) : State :=
  s.withMem { s.mem with blocks := enter b s.mem.blocks (blockKey hs lvl i) }

/-- The counter of a slot of a block (R265). -/
def TreeBlock.counter (b : TreeBlock) (k : Nat) : Nat := b.major * 128 + look 0 b.minor k

/-- ROOT[i] of a slice (R264, R266). -/
def State.rootOf (s : State) (hs i : Nat) : Nat :=
  (look? s.mem.root (32 * hs + i)).getD (s.born 5 i)

/-- Re-tag entries of a slice. -/
def State.retags (s : State) (hs : Nat) : List Retag := look [] s.mem.retag hs

/-- Set the re-tag entries of a slice. -/
def State.setRetags (s : State) (hs : Nat) (l : List Retag) : State :=
  s.withMem { s.mem with retag := put [] s.mem.retag hs l }

/-- The re-tag entry of a block. -/
def State.retagOf (s : State) (hs key : Nat) : Option Retag :=
  (s.retags hs).find? (fun r => r.key == key)

/-- The line counter under which line j of page p is stored (R265, R273). -/
def State.lineCtr (s : State) (p j : Nat) : Nat :=
  let hs := homeOf p
  match s.retagOf hs (blockKey hs 1 (p / 32)) with
  | some r =>
    if r.done.getLsbD j then (s.block hs 1 (p / 32)).counter j else r.old.counter j
  | none => (s.block hs 1 (p / 32)).counter j

/-- The counter under which a block is tagged: ROOT[i] of an L5 node, else that of its slot in its parent, which is the old
one while the parent's re-tag has not come to it (R265, R273). -/
def State.blockCtr (s : State) (hs lvl i : Nat) : Nat :=
  if lvl = 5 then s.rootOf hs i
  else match s.retagOf hs (blockKey hs (lvl + 1) (i / 64)) with
    | some r =>
      if r.done.getLsbD (i % 64) then (s.block hs (lvl + 1) (i / 64)).counter (i % 64) else r.old.counter (i % 64)
    | none => (s.block hs (lvl + 1) (i / 64)).counter (i % 64)

/-- MAJOR of a page's leaf, under which its bin lines are tagged (R262); while the page's block is
being re-tagged, still the old one. -/
def State.majorOf (s : State) (p : Nat) : Nat := (s.block (homeOf p) 1 (p / 32)).major

/-- What the tag of a data line is computed over under a counter (R262). -/
def State.bindAt (s : State) (p j ctr : Nat) : TagBind :=
  let d := s.domOf p
  { kind := 0, addr := 64 * p + j, ctr := ctr, domain := d, epoch := (s.dom d).epoch.toNat,
    salt := s.saltOf d, tagKey := s.mem.tagKey }

/-- What the tag of a data line has to have been computed over (R262, R274). -/
def State.lineBind (s : State) (p j : Nat) : TagBind := s.bindAt p j (s.lineCtr p j)

/-- What the tag of a bin line under a MAJOR is computed over (R262). -/
def State.binBind (s : State) (p j major : Nat) : TagBind :=
  let d := s.domOf p
  { kind := 1, addr := 64 * p + j, ctr := major, domain := d, epoch := (s.dom d).epoch.toNat,
    salt := s.saltOf d, tagKey := s.mem.tagKey }

/-! ### Reports of the media -/

/-- Raise a source of a slice's Lovage at one of the slice's engines; the event has no class of its own (R163; assumptions 153,
154). -/
def State.raiseHs (s : State) (hs k en subject : Nat) (ld : Option Nat) : State :=
  s.raise { src := srcHs hs k, site := siteOfPage (hsPage hs en), subject := subject, ld := ld }

/-- Raise a source of a slice's counter-tree walker for a block, by its index and level (R284). -/
def State.raiseNode (s : State) (hs k lvl i : Nat) : State :=
  s.raise { src := srcHs hs k, site := siteOfPage (hsPage hs 5), subject := i, detail := [lvl] }

/-- Count, saturating, in a table. -/
def tick (top : Nat) (t : Table Nat) (k : Nat) : Table Nat := edit 0 t k (fun n => satAdd top n 1)

/-- A tag failure of a data line or bin line: counted, and TAG_FAIL raised (R263, R286). One of a metadata line is not counted here
(assumption 176). -/
def State.tagFailed (s : State) (hs subject : Nat) : State :=
  (s.withMem { s.mem with tagFail := tick 0xFFFF s.mem.tagFail hs }).raiseHs hs 40 4 subject none

/-- An uncorrectable line: counted, and ECC_UNCORR raised by its channel with the media address and
the DPA or page (R179, R207, R238). -/
def State.eccUncorr (s : State) (c off subject : Nat) : State :=
  (s.countUe c).raise
    { src := srcChan c 12, site := siteOfPage (chanPage c 2), cls := 2, subject := subject, detail := [off] }

/-! ### The page map line and its errors -/

/-- Return the destination of a migration. -/
def State.dropDest (s : State) (p : Nat) (m : Migration) : State :=
  match m.kind with
  | .promotion => s.giveFrame p m.dset m.dloc
  | .nearMove => s.giveFrame p m.dset m.dloc
  | .binMove => s.giveBin p m.dset m.dloc m.image.binsize
  | .demotion => s

/-- A migration of a page ends with the page's map entry: its destination is returned, and the page lies at its source
again (R104). -/
def State.endMigration (s : State) (p : Nat) : State :=
  match look? s.mem.mig p with
  | none => s
  | some m =>
    let s := s.dropDest p m
    (s.withMem { s.mem with mig := wipe s.mem.mig p }).onPage p (fun e =>
      { m.image with domain := e.domain, touch := e.touch, hepoch := e.hepoch })

/-- Poison a page: its entry in state 5, its frame or bin returned unless withdrawn. -/
def State.poisonPage (s : State) (p : Nat) (withdraw : Bool) : State :=
  let s := s.endMigration p
  let e := s.entry p
  let q := match e.st with
    | .near => 4
    | .compressed | .rawInBin => e.binsize
    | _ => 0
  let s := if withdraw then
      ((s.account (pgExt p) 0 q).withAmap { (s.account (pgExt p) 0 q).amap with lost := s.amap.lost + q }).levels (s.domOf p)
    else s.giveBack p e
  let s := s.withMem { s.mem with zeroFill := wipe s.mem.zeroFill p }
  s.onPage p (fun e => { e with st := .poisoned, set := 0, loc := 0, crc := 0, binsize := 0, plen := [] })

/-- A page map line that fails its checks poisons its four pages, with a class D record that names each page: MC_UNCORR
of its home slice (R104; assumption 123). -/
def State.mapLost (s : State) (n : Nat) : State :=
  let s := s.withMem { s.mem with badMap := s.mem.badMap.filter (· != n), mapTags := wipe s.mem.mapTags n }
  s.each ((upTo 4).map (fun k => 4 * n + k)) (fun s p =>
    let hs := homeOf p
    let s := s.poisonPage p true
    (s.raise { src := srcHs hs 3, site := siteOfPage (hsPage hs 7), cls := 2, subject := p }).fileP (hsPage hs 7) 2 0)

/-! ### Losing leaves and nodes -/

/-- Count a lost leaf or node (R286). -/
def State.countLost (s : State) (hs : Nat) : State :=
  s.withMem { s.mem with nodesLost := tick 0xFFFF s.mem.nodesLost hs }

/-- META_SET's grain in bytes (R267). -/
def State.grainOf (s : State) (e : Nat) : Nat := 2 ^ (8 + (s.set (s.ext e).metaSet).grain)

/-- Area offset of copy 1 of a node slot (R267). -/
def nodeOffset (g n : Nat) : Nat := n / (g / 64) * (2 * g) + n % (g / 64) * 64

/-- The extent and byte offset in its metadata block of a metadata line; level 0 is a page map line
(R123, R267, R269). -/
def State.metaAt (s : State) (hs lvl i : Nat) : Nat × Nat :=
  if lvl = 0 then (i / 16384, i % 16384 * 64)
  else if lvl = 1 then
    let p := leafPage hs i
    (pgExt p, 0x100000 + 64 * (p % 65536))
  else if lvl = 2 then
    (i / 32, 0x500000 + nodeOffset (s.grainOf (i / 32)) (32 * hs + i % 32))
  else
    let e := (look? s.mem.holder (lvl * 2 ^ 40 + i)).elim 0 (·.1)
    (e, 0x500000 + nodeOffset (s.grainOf e) (1024 + 32 * (lvl - 3) + hs))

/-- The metadata lines at some distances from a byte of an extent's metadata block are written. -/
def State.metaWritten (s : State) (x b : Nat) (l : List Nat) : State :=
  let e := s.ext x
  s.each l (fun s d => s.noteMeta e.metaSet (4096 * e.metaFrame + b + d))

/-- The DRAM copies of a block no longer fail. -/
def State.goodCopies (s : State) (key : Nat) : State :=
  s.withMem { s.mem with badCopy := s.mem.badCopy.filter (fun b => b / 2 != key) }

/-- Write a block to DRAM with a tag under its counter: one copy of a leaf, both of an upper node (R267, R271). -/
def State.storeNode (s : State) (hs lvl i : Nat) : State :=
  let k := blockKey hs lvl i
  let c : NodeCopy := { block := s.block hs lvl i, tag := s.nodeBind k (s.blockCtr hs lvl i) }
  let s := s.goodCopies k
  let s := s.withMem { s.mem with copies := (if lvl = 1 then [2 * k] else [2 * k, 2 * k + 1]).foldl (fun t x => enter c t x) s.mem.copies }
  let m := s.metaAt hs lvl i
  s.metaWritten m.1 m.2 (if lvl = 1 then [0] else [0, s.grainOf m.1])

/-- A DRAM copy of a block passes its symbol code and its tag (R270). -/
def State.copyGood (s : State) (hs lvl i copy : Nat) : Bool :=
  let k := blockKey hs lvl i
  !s.mem.badCopy.contains (2 * k + copy) &&
    (look? s.mem.copies (2 * k + copy)).all (fun c => c.tag == s.nodeBind k (s.blockCtr hs lvl i))

/-- A block enters the metadata cache with the content of a DRAM copy; of one not written since the block was created, as
created (R266, R270). -/
def State.loadCopy (s : State) (hs lvl i copy : Nat) : State :=
  let k := blockKey hs lvl i
  match look? s.mem.copies (2 * k + copy) with
  | some c => s.setBlock hs lvl i c.block
  | none => s.withMem { s.mem with blocks := wipe s.mem.blocks k }

/-- A failed copy of an upper node is rewritten from the other (R270). -/
def State.mendCopy (s : State) (hs lvl i good : Nat) : State :=
  let k := blockKey hs lvl i
  let s := s.goodCopies k
  s.withMem { s.mem with copies := match look? s.mem.copies (2 * k + good) with
    | some c => enter c s.mem.copies (2 * k + (1 - good))
    | none => wipe s.mem.copies (2 * k + (1 - good)) }

/-- Write the poison pattern to a line of a near frame (R278, R279). -/
def State.poisonMedia (s : State) (p i f j : Nat) : State :=
  let s := s.withMem { s.mem with
    zeroFill := edit 0 s.mem.zeroFill p (fun m => m &&& ~~~(BitVec.ofNat 64 (2 ^ j))) }
  s.putMedia i (4096 * f + 64 * j) .poison

/-- A leaf block is lost (R281): re-created; a near page's lines are poisoned, a page in a bin becomes
poisoned. Of a page in state 4 the loss applies after the commit or abandonment, and until then no line verifies under the
lost block's counters. -/
def State.leafLost (s : State) (hs i : Nat) : State :=
  let p := leafPage hs i
  let e := s.entry p
  if e.st == .migrating then
    let s := s.setBlock hs 1 i { major := 2 ^ 63 + s.now, minor := [] }
    s.withMem { s.mem with mig := match look? s.mem.mig p with
      | some m => enter { m with leafLost := true } s.mem.mig p
      | none => s.mem.mig }
  else
    let s := (s.goodCopies (blockKey hs 1 i)).countLost hs
    let s := (s.setBlock hs 1 i { major := 2 ^ 63 + s.now, minor := [] }).storeNode hs 1 i
    let s := match e.st with
      | .near => s.each (upTo 64) (fun s j => s.poisonMedia p e.set e.loc j)
      | .compressed => s.poisonPage p false
      | .rawInBin => s.poisonPage p false
      | _ => s
    (s.raiseHs hs 42 5 p none).fileP (hsPage hs 5) 2 0

/-- A block is in the metadata cache. -/
def cachedIn (l : List McLine) (k : Nat) : Bool := l.any (fun m => m.key == k)

/-- Key of the metadata cache set of a line (R158). -/
def State.mcSet (s : State) (hs lvl i : Nat) : Nat :=
  let m := s.metaAt hs lvl i
  2048 * hs + (bits m.2 6 11 ^^^ bits m.1 0 11)

/-- The lines of a metadata cache set. -/
def State.mcLines (s : State) (k : Nat) : List McLine := look [] s.mem.mcache k

/-- Set the lines of a metadata cache set. -/
def State.setMc (s : State) (k : Nat) (l : List McLine) : State :=
  s.withMem { s.mem with mcache := put [] s.mem.mcache k l }

/-- Key of a line in the metadata cache. -/
def mcKey (lvl i : Nat) : Nat := lvl * 2 ^ 40 + i

/-- A line is in the metadata cache of a slice. -/
def State.mcHit (s : State) (hs lvl i : Nat) : Bool :=
  cachedIn (s.mcLines (s.mcSet hs lvl i)) (mcKey lvl i)

/-- Re-create an upper node that is lost, an L5 node with its ROOT entry; its children are lost when next fetched: those in
the cache whose DRAM copies are as they were created, and every one that is not there (R266, R281). -/
def State.loseNode (s : State) (hs lvl i : Nat) : State :=
  let s := (s.goodCopies (blockKey hs lvl i)).countLost hs
  let s := s.setBlock hs lvl i { major := 2 ^ 63 + s.now, minor := [] }
  let s := s.when (lvl == 5) (fun s => s.withMem { s.mem with root := enter s.now s.mem.root (32 * hs + i) })
  let s := s.storeNode hs lvl i
  let kids := ((upTo 64).map (fun k => 64 * i + k)).filter (fun c =>
    let k := blockKey hs (lvl - 1) c
    s.hasBlock (lvl - 1) c && (!listed s.mem.copies (2 * k) || !(s.mcHit hs (lvl - 1) c || s.mem.leaving.contains k)))
  let bad := (kids.map (fun c =>
    let k := blockKey hs (lvl - 1) c
    if lvl = 2 then [2 * k] else [2 * k, 2 * k + 1])).flatten
  let s := s.withMem { s.mem with
    badCopy := s.mem.badCopy ++ bad.filter (fun b => !s.mem.badCopy.contains b) }
  (s.raiseNode hs 44 lvl i).fileP (hsPage hs 5) 2 0

/-- Both copies of an upper node fail: it is lost; where a page under it is in state 4, after the commit or abandonment
(R281). -/
def State.nodeLost (s : State) (hs lvl i : Nat) : State :=
  match s.mem.mig.find? (fun e => homeOf e.1 == hs && e.1 / 32 / 64 ^ (lvl - 1) == i) with
  | some e =>
    let l := e.2.nodesLost.filter (fun n => n != (lvl, i)) ++ [(lvl, i)]
    let s := s.setBlock hs lvl i { major := 2 ^ 63 + s.now, minor := [] }
    s.withMem { s.mem with mig := enter { e.2 with nodesLost := l } s.mem.mig e.1 }
  | none => s.loseNode hs lvl i

/-- A page map line that enters the cache passes its checks (R104, R262, R263). -/
def State.mapGood (s : State) (n : Nat) : Bool :=
  !s.mem.badMap.contains n && (look? s.mem.mapTags n).all (fun t => t == s.mapBind n)

/-- A DRAM copy of a metadata line is read; where it is uncorrectable on the channel read, the partner's copy takes its place and
it is rewritten, class C, or the line is bad (R104, R179, R200, R281). -/
def State.metaRead (s : State) (hs lvl i copy : Nat) : State :=
  let m := s.metaAt hs lvl i
  let e := s.ext m.1
  let y := 4096 * e.metaFrame + m.2 + (if copy = 1 then s.grainOf m.1 else 0)
  let born := if lvl = 0 then look 0 s.mem.chunks (i / 1024) else s.born lvl i
  match s.readChan e.metaSet y with
  | none => s
  | some c =>
    let off := ((s.set e.metaSet).media y).2
    let other := if c % 2 = 0 then c + 1 else c - 1
    let fails := fun (s : State) (k : Nat) => s.mem.badMeta.contains k || s.mem.metaPoison.contains k
    if !fails s (mediaKey c off) then s
    else
      let s := s.when (s.mem.badMeta.contains (mediaKey c off)) (fun s => s.countUe c)
      let s := s.withMem { s.mem with
        badMeta := s.mem.badMeta.filter (· != mediaKey c off), metaPoison := s.mem.metaPoison.filter (· != mediaKey c off) }
      let s := s.when (s.serves other && s.mem.badMeta.contains (mediaKey other off)) (fun s => s.countUe other)
      if s.serves other && !fails s (mediaKey other off) && !s.partnerOld (c / 2 * 2) off born then
        s.fileP (chanPage c 2) 1 0
      else if lvl = 0 then s.withMem { s.mem with badMap := i :: s.mem.badMap.filter (· != i) }
      else
        let k := 2 * blockKey hs lvl i + copy
        s.withMem { s.mem with badCopy := k :: s.mem.badCopy.filter (· != k) }

/-- Check the DRAM copies of a block that enters the cache, and load it from a good one: copy 2 only where copy 1 fails. One
that is still on its way to DRAM is taken back as it is (R159, R270, R281). -/
def State.checkBlock (s : State) (hs lvl i : Nat) : State :=
  if s.mem.leaving.contains (blockKey hs lvl i) then s
  else
  let s := s.metaRead hs lvl i 0
  if lvl = 0 then (if s.mapGood i then s else s.mapLost i)
  else if lvl = 1 then (if s.copyGood hs 1 i 0 then s.loadCopy hs 1 i 0 else s.leafLost hs i)
  else
    if s.copyGood hs lvl i 0 then s.loadCopy hs lvl i 0
    else
    let s := s.metaRead hs lvl i 1
    if !s.copyGood hs lvl i 1 then s.nodeLost hs lvl i
    else
      let s := (s.loadCopy hs lvl i 1).mendCopy hs lvl i 1
      let s := s.withMem { s.mem with repaired := tick 0xFFF s.mem.repaired hs }
      (s.raiseNode hs 43 lvl i).fileP (hsPage hs 5) 1 0

/-! ### Checked reads of lines -/

/-- What a read of a line gives. -/
inductive Got
  | data (d : Line) | poison | bad | tagFail | notServed
  deriving DecidableEq, Repr

/-- What one channel gives for a line whose tag has to bind to `b` (R179, R263). -/
def State.readCopy (s : State) (c off : Nat) (b : TagBind) : Got :=
  match s.getMedia c off with
  | some (.line d t) => if t = b then .data d else .tagFail
  | some .poison => .poison
  | some .bad => .bad
  | none => .tagFail

/-- A copy of a line that fails, in its own report: an uncorrectable one is counted, and a tag failure raised (R211, R263). -/
def State.copyFailed (s : State) (hs c subject : Nat) : Got → State
  | .bad => s.countUe c
  | .tagFail => s.tagFailed hs subject
  | _ => s

/-- Read the partner's copy of a line of a mirrored set whose copy on channel c fails; a partner that fails too is reported
on its own (R179, R200, R263). The partner's copy counts in every state of the pair, since one that is out of date fails
its tag. -/
def State.readPartner (s : State) (hs i c off subject : Nat) (b : TagBind) : State × Got :=
  let other := if c % 2 = 0 then c + 1 else c - 1
  if (s.set i).mirror && s.serves other then
    let s := s.copyWalk c
    let g := s.readCopy other off b
    (s.copyFailed hs other subject g, g)
  else (s, .notServed)

/-- Read a line of a set: in a mirrored set a failing copy is replaced by the partner's, as class C;
otherwise a failure is class D (R179, R263). `subject` names the DPA line or the page. -/
def State.readLine (s : State) (hs i x subject : Nat) (b : TagBind) : State × Got :=
  match s.readChan i x with
  | none => (s, .notServed)
  | some c =>
    let off := ((s.set i).media x).2
    let s := (s.count (chanPage c 0) 0x11 1).activated c off
    match s.readCopy c off b with
    | .bad =>
      let r := s.readPartner hs i c off subject b
      match r.2 with
      | .data d => (((r.1.putMedia i x (.line d b)).countUe c).fileP (chanPage c 2) 1 0, .data d)
      | _ => ((r.1.eccUncorr c off subject).fileP (chanPage c 2) 2 0, .bad)
    | .tagFail =>
      let r := (s.tagFailed hs subject).readPartner hs i c off subject b
      match r.2 with
      | .data d => ((r.1.putMedia i x (.line d b)).fileP (hsPage hs 4) 1 0, .data d)
      | _ => (r.1.fileP (hsPage hs 4) 2 0, .tagFail)
    | g => (s, g)

/-! ### Re-tags -/

/-- Re-tag one child of an entry: a data line is verified under its old counter and written back under
the new one, the partner's copy taking the place of a failing one; a line that fails is poisoned; a child block that is not
in the cache is checked under its old counter, and is written with a tag under the new one (R263, R273). The lines of a
migrating page lie at its source. -/
def State.retagChild (s : State) (hs : Nat) (r : Retag) (k : Nat) : State :=
  let mark := (s.retags hs).map (fun x =>
    if x.key = r.key then { x with done := x.done ||| BitVec.ofNat 64 (2 ^ k) } else x)
  let lvl := r.key / 2 ^ 40
  let c := 64 * (r.key % 2 ^ 40 / 32) + k
  if lvl ≠ 1 then
    if !s.hasBlock (lvl - 1) c then s.setRetags hs mark
    else
    let s := if s.mcHit hs (lvl - 1) c then s else s.checkBlock hs (lvl - 1) c
    let good := s.mcHit hs (lvl - 1) c || s.mem.leaving.contains (blockKey hs (lvl - 1) c) || s.copyGood hs (lvl - 1) c 0
    (s.setRetags hs mark).when good (fun s => s.storeNode hs (lvl - 1) c)
  else
    let i := r.key % 2 ^ 40 / 32
    let p := leafPage hs i
    let e := (look? s.mem.mig p).elim (s.entry p) (·.image)
    if e.st == .near && !(look 0 s.mem.zeroFill p).getLsbD k then
      let x := 4096 * e.loc + 64 * k
      let old := s.bindAt p k (r.old.counter k)
      let new := s.bindAt p k ((s.block hs 1 i).counter k)
      let got := s.readLine hs e.set x (64 * p + k) old
      let s := match got.2 with
        | .data d => got.1.putMedia e.set x (.line d new)
        | .bad | .tagFail => got.1.putMedia e.set x .poison
        | .poison | .notServed => got.1
      s.setRetags hs mark
    else s.setRetags hs mark

/-- The children that an entry has still to re-tag. -/
def Retag.todo (r : Retag) : List Nat := (upTo 64).filter (fun k => !r.done.getLsbD k)

/-- End a re-tag: every child is done and its entry frees (R273); the lines left are re-tagged now, ahead of the requests of
their queues (assumption 162). -/
def State.endRetag (s : State) (hs key : Nat) : State :=
  let s := match s.retagOf hs key with
    | some r => s.each r.todo (fun s k => s.retagChild hs r k)
    | none => s
  s.setRetags hs ((s.retags hs).filter (fun r => r.key != key))

/-- Advance a minor counter (R272, R273). A minor that would pass 127 starts a re-tag; one still in
progress in the block, or the oldest where the table is full, ends first. -/
def State.advance (s : State) (hs lvl i k : Nat) : State :=
  let key := blockKey hs lvl i
  let done := fun (s : State) => s.setRetags hs ((s.retags hs).map (fun r =>
    if r.key = key then { r with done := r.done ||| BitVec.ofNat 64 (2 ^ k) } else r))
  let b := s.block hs lvl i
  if look 0 b.minor k = 127 then
    let s := s.endRetag hs key
    let s := s.when (decide (8 ≤ (s.retags hs).length)) (fun s =>
      (s.raiseNode hs 46 lvl i).endRetag hs (((s.retags hs).head?).elim 0 Retag.key))
    let s := s.setBlock hs lvl i { major := b.major + 1, minor := [] }
    s.setRetags hs (s.retags hs ++ [{ key := key, old := b, done := BitVec.ofNat 64 (2 ^ k) }])
  else
    done (s.setBlock hs lvl i { b with minor := edit 0 b.minor k (· + 1) })

/-! ### The metadata cache -/

/-- What the counter-tree walker has still to do: bring a line into the cache, check and place it,
write a line back, advance a counter of a cached block, mark a line dirty, write a block to DRAM. -/
inductive Walk
  | touch (lvl i : Nat) | fill (lvl i : Nat) | wb (lvl i : Nat) | bump (lvl i k : Nat)
  | dirty (lvl i : Nat) | store (lvl i : Nat)
  deriving DecidableEq, Repr

/-- The least recently used of some lines. -/
def lru (l : List McLine) : Option McLine :=
  l.foldl (fun (a : Option McLine) m =>
    match a with
    | none => some m
    | some b => if m.use < b.use then some m else a) none

/-- The replacement tree after a use of way w: every node on its path points away from it (R158). -/
def treeUse (t w : Nat) : Nat :=
  let step := fun (a : Nat × Nat) (b : Nat) =>
    let m := 2 ^ a.2
    (if bitOf w b then (a.1 ||| m) ^^^ m else a.1 ||| m, 2 * a.2 + b2n (bitOf w b))
  ([3, 2, 1, 0].foldl step (t, 1)).1

/-- The way that the replacement tree points to (R158). -/
def treePick (t : Nat) : Nat :=
  ([3, 2, 1, 0].foldl (fun (n : Nat) _ => 2 * n + b2n (bitOf t n)) 1) - 16

/-- A way for a line: the lowest empty one, else the one that the tree points to, whose line leaves the
set; the lines left and the dirty line that left (R158, R159). -/
def mcTake (l : List McLine) (t : Nat) : Nat × List McLine × List McLine :=
  match (upTo 16).find? (fun w => l.all (fun m => !m.ways.contains w)) with
  | some w => (w, l, [])
  | none =>
    let w := treePick t
    (w, l.filter (fun m => !m.ways.contains w), l.filter (fun m => m.dirty && m.ways.contains w))

/-- A line written back stays, clean, in its first way (R159). -/
def McLine.cleaned (m : McLine) : McLine := { m with dirty := false, ways := m.ways.take 1 }

/-- The write-backs of some lines. -/
def wbs (l : List McLine) : List Walk := l.map (fun m => .wb (m.key / 2 ^ 40) (m.key % 2 ^ 40))

/-- Metadata lines start on their way from a cache to DRAM (R159). -/
def State.leave (s : State) (hs : Nat) (l : List Nat) : State :=
  let keys := (l.filter (fun k => decide (2 ^ 40 ≤ k))).map (fun k => blockKey hs (k / 2 ^ 40) (k % 2 ^ 40))
  s.withMem { s.mem with leaving := keys ++ s.mem.leaving }

/-- A block has reached DRAM. -/
def State.arrivedAt (s : State) (hs lvl i : Nat) : State :=
  s.withMem { s.mem with leaving := s.mem.leaving.filter (· != blockKey hs lvl i) }

/-- Use, place or dirty a line of a set, and the write-backs that this brings (R158, R159; the way of a
second copy is taken as that of a fill, assumption 15). -/
def State.mcUse (s : State) (hs lvl i : Nat) (dirty : Bool) : State × List Walk :=
  let k := s.mcSet hs lvl i
  let key := mcKey lvl i
  let l := s.mcLines k
  let t := look 0 s.mem.mcTree k
  let own := l.find? (fun m => m.key == key)
  let rest := l.filter (fun m => m.key != key)
  let place : Nat × List McLine × List McLine :=
    match own with
    | some m => (m.ways.headD 0, rest, [])
    | none => mcTake rest t
  let me : McLine := {
    key := key, dirty := dirty || own.elim false McLine.dirty, use := s.mem.mcUse,
    ways := own.elim [place.1] McLine.ways }
  let t := me.ways.foldl treeUse t
  let dl := place.2.1.filter (·.dirty)
  let clean := if dirty && decide (4 ≤ dl.length) then lru dl else none
  let rest := match clean with
    | some m => place.2.1.map (fun x => if x.key = m.key then x.cleaned else x)
    | none => place.2.1
  let copy : List Nat × List McLine × List McLine × Nat :=
    if me.dirty && decide (me.ways.length < 2) then
      let r := mcTake (me :: rest) t
      (me.ways ++ [r.1], r.2.1.filter (fun m => m.key != key), r.2.2, treeUse t r.1)
    else (me.ways, rest, [], t)
  let s := s.withMem { s.mem with mcUse := s.mem.mcUse + 1, mcTree := put 0 s.mem.mcTree k copy.2.2.2 }
  let out := clean.toList ++ place.2.2 ++ copy.2.2.1
  ((s.setMc k ({ me with ways := copy.1 } :: copy.2.1)).leave hs (out.map (·.key)), wbs out)

/-- The parent of a block, where it has one in memory. -/
def parentOf (lvl i : Nat) : List Walk := if 1 ≤ lvl ∧ lvl ≤ 4 then [.touch (lvl + 1) (i / 64)] else []

/-- Run the walker of a slice (R270, R271, R273). -/
def State.walk : Nat → Nat → List Walk → State → State
  | 0, _, _, s => s
  | _, _, [], s => s
  | n + 1, hs, w :: ws, s =>
    match w with
    | .touch lvl i =>
      let s := s.count (hsPage hs 7) 0x10 1
      if s.mcHit hs lvl i then
        let r := s.mcUse hs lvl i false
        State.walk n hs (r.2 ++ ws) r.1
      else State.walk n hs (parentOf lvl i ++ [.fill lvl i] ++ ws) (s.count (hsPage hs 7) 0x11 1)
    | .fill lvl i =>
      let r := (s.checkBlock hs lvl i).mcUse hs lvl i false
      State.walk n hs (r.2 ++ ws) r.1
    | .dirty lvl i =>
      let r := s.mcUse hs lvl i true
      State.walk n hs (r.2 ++ ws) r.1
    | .bump lvl i k =>
      let r := (s.advance hs lvl i k).mcUse hs lvl i true
      State.walk n hs (r.2 ++ ws) r.1
    | .wb lvl i =>
      let s := s.count (hsPage hs 7) 0x12 1
      if lvl = 0 then
        let s := s.withMem { s.mem with
          badMap := s.mem.badMap.filter (· != i), mapTags := enter (s.mapBind i) s.mem.mapTags i }
        State.walk n hs ws (s.metaWritten (i / 16384) (i % 16384 * 64) [0])
      else if lvl = 5 then
        State.walk n hs (.store lvl i :: ws) (s.withMem { s.mem with
          root := enter (s.rootOf hs i + 1) s.mem.root (32 * hs + i) })
      else
        State.walk n hs ([.touch (lvl + 1) (i / 64), .bump (lvl + 1) (i / 64) (i % 64), .store lvl i] ++ ws) s
    | .store lvl i => State.walk n hs ws ((s.storeNode hs lvl i).arrivedAt hs lvl i)

/-- Steps that a walk may take. -/
def walkFuel : Nat := 400

/-- Dirty lines of a slice's metadata cache (R168). -/
def State.dirtyLines (s : State) (hs : Nat) : List McLine :=
  ((s.mem.mcache.filter (fun e => e.1 / 2048 == hs)).map (fun e => e.2.filter (·.dirty))).flatten

/-- Write back one dirty line: it stays in the cache, clean (R159). -/
def State.cleanLine (s : State) (hs : Nat) (m : McLine) : State :=
  let lvl := m.key / 2 ^ 40
  let i := m.key % 2 ^ 40
  let k := s.mcSet hs lvl i
  let s := (s.setMc k ((s.mcLines k).map (fun x => if x.key = m.key then x.cleaned else x))).leave hs [m.key]
  s.walk walkFuel hs [.wb lvl i]

/-- Write back dirty lines, least recently used first, until fewer than `n` are left (R159). -/
def State.cleanTo : Nat → Nat → Nat → State → State
  | 0, _, _, s => s
  | f + 1, hs, n, s =>
    let d := s.dirtyLines hs
    if d.length < n ∨ d.length = 0 then s
    else match lru d with
      | none => s
      | some m => State.cleanTo f hs n (s.cleanLine hs m)

/-- A metadata line leaves its cache without a write-back. -/
def State.mcDrop (s : State) (hs lvl i : Nat) : State :=
  let k := s.mcSet hs lvl i
  s.setMc k ((s.mcLines k).filter (fun m => m.key != mcKey lvl i))

/-- The index at a level of the metadata line of a page. -/
def metaIndex (lvl p : Nat) : Nat := if lvl = 0 then p / 4 else p / 32 / 64 ^ (lvl - 1)

/-- A dirty metadata line is lost, both of its cached copies being bad or no channel taking its write: a page map line under
R104, a block as a DRAM error (R160, R281, R303). -/
def State.metaGone (s : State) (hs lvl i : Nat) : State :=
  let s := (s.mcDrop hs lvl i).raiseHs hs 3 7 i none
  if lvl = 0 then s.mapLost i else if lvl = 1 then s.leafLost hs i else s.nodeLost hs lvl i

/-- An uncorrectable error in a metadata cache line, counted: a clean line is fetched again; the other
copy of a dirty line is used; a dirty line whose copies are both bad is lost, a page map line under R104,
a block as a DRAM error (R160, R281). -/
def State.metaError (s : State) (hs lvl p : Nat) (both : Bool) : State :=
  let i := metaIndex lvl p
  match (s.mcLines (s.mcSet hs lvl i)).find? (fun m => m.key == mcKey lvl i) with
  | none => s
  | some m =>
    let s := s.withMem { s.mem with mcUe := tick 0xFFFF s.mem.mcUe hs }
    if m.dirty && both then s.metaGone hs lvl i
    else
      let s := if m.dirty then s else s.mcDrop hs lvl i
      s.fileP (hsPage hs 7) 1 0

/-! ### Lazy initialisation -/

/-- Number of the node slot that a byte of the node area of an extent's metadata block lies in (R267). -/
def State.nodeNo (s : State) (x b : Nat) : Nat :=
  let g := s.grainOf x
  let a := b - 0x500000
  a / (2 * g) * (g / 64) + a % g / 64

/-- The set and byte that a channel offset belongs to. -/
def State.setByte (s : State) (c off : Nat) : Option (Nat × Nat) :=
  (upTo 16).findSome? (fun i =>
    let e := s.set i
    if e.valid && e.hasChan c then
      (e.byteAt (if e.members.contains c then c else c / 2 * 2) off).map (fun x => (i, x))
    else none)

/-- A channel offset holds a page map line, a leaf block or an L2 node of a chunk (R123, R267, R276). -/
def State.inChunk (s : State) (c ch off : Nat) : Bool :=
  match s.setByte ch off with
  | none => false
  | some (i, x) =>
    let e := s.ext (c / 16)
    let b := x - 4096 * e.metaFrame
    let k := c % 16
    i == e.metaSet && decide (4096 * e.metaFrame ≤ x) && decide (b < 0x540000) &&
      (if b < 0x100000 then b / 0x10000 == k else if b < 0x500000 then (b - 0x100000) / 0x40000 == k
       else decide (s.nodeNo (c / 16) b < 1024) && s.nodeNo (c / 16) b % 32 / 2 == k)

/-- Initialise a chunk: its page map lines are written unbacked, its leaf blocks and L2 nodes as created, whatever their
places held before (R276). -/
def State.initChunk (s : State) (c : Nat) : State :=
  if listed s.mem.chunks c then s
  else
    let own := fun (k : Nat) => (k / 2 ^ 40 == 1 && k % 2 ^ 40 / 32 / 128 == c) || (k / 2 ^ 40 == 2 && k % 2 ^ 40 / 32 / 2 == c)
    s.withMem { s.mem with
      chunks := enter s.now s.mem.chunks c,
      lines := dropKeys (fun k => s.inChunk c (k / 2 ^ 40) ((s.chan (k / 2 ^ 40)).offset (k % 2 ^ 40 * 64))) s.mem.lines,
      badMeta := s.mem.badMeta.filter (fun k => !s.inChunk c (k / 2 ^ 40) (k % 2 ^ 40 * 64)),
      metaPoison := s.mem.metaPoison.filter (fun k => !s.inChunk c (k / 2 ^ 40) (k % 2 ^ 40 * 64)),
      blocks := dropKeys own s.mem.blocks, copies := dropKeys (fun k => own (k / 2)) s.mem.copies,
      badCopy := s.mem.badCopy.filter (fun k => !own (k / 2)),
      mapTags := dropKeys (fun n => n / 1024 == c) s.mem.mapTags, badMap := s.mem.badMap.filter (fun n => n / 1024 != c) }

/-- A request that needs an uninitialised chunk: the chunk is initialised ahead of its order (R277). -/
def State.needChunk (s : State) (p : Nat) : State :=
  if listed s.mem.chunks (chunkOf p) then s
  else
    let hs := homeOf p
    let s := s.withMem { s.mem with stalls := tick 0x1FF s.mem.stalls (hs / 8) }
    (s.raiseHs hs 47 5 p none).initChunk (chunkOf p)

/-- The metadata lines in DRAM that a page's map entry and leaf block are fetched with, those that are not in the metadata
cache: the set and byte of each (R270, R274). -/
def State.metaPath (s : State) (p : Nat) : List (Nat × Nat) :=
  let hs := homeOf p
  let tree := ((upTo 5).map (fun k => (k + 1, p / 32 / 64 ^ k))).takeWhile (fun x => !s.mcHit hs x.1 x.2)
  let l := (if s.mcHit hs 0 (p / 4) then [] else [(0, p / 4)]) ++ tree.filter (fun x => s.hasBlock x.1 x.2)
  if !listed s.mem.chunks (chunkOf p) then []
  else l.map (fun x =>
    let m := s.metaAt hs x.1 x.2
    ((s.ext m.1).metaSet, 4096 * (s.ext m.1).metaFrame + m.2))

/-- The channels that a page's metadata has to be read from serve (R201). -/
def State.metaServed (s : State) (p : Nat) : Bool := (s.metaPath p).all (fun x => (s.readChan x.1 x.2).isSome)

/-- Bring a page's map entry and leaf block into the metadata cache (R100, R274, R277). -/
def State.fetchPage (s : State) (p : Nat) : State :=
  (s.needChunk p).walk walkFuel (homeOf p) [.touch 0 (p / 4), .touch 1 (p / 32)]

/-- Change a page map entry, in the metadata cache (R100). -/
def State.setEntry (s : State) (p : Nat) (f : PageEntry → PageEntry) : State :=
  let s := s.onPage p (fun e => { f e with domain := s.domOf p })
  s.walk walkFuel (homeOf p) [.touch 0 (p / 4), .dirty 0 (p / 4)]

/-! ### Reading and writing lines -/

/-- Read line j of a near page in frame f of set i (R103, R274). -/
def State.readNear (s : State) (p i f j : Nat) : State × Got :=
  if (look 0 s.mem.zeroFill p).getLsbD j then (s, .data 0)
  else s.readLine (homeOf p) i (4096 * f + 64 * j) (64 * p + j) (s.lineBind p j)

/-- Write line j of a near page: the leaf's minor advances, the line is tagged and stored (R272). -/
def State.writeNear (s : State) (p i f j : Nat) (d : Line) : State :=
  let hs := homeOf p
  let s := s.walk walkFuel hs [.touch 1 (p / 32), .bump 1 (p / 32) j]
  let s := s.withMem { s.mem with
    zeroFill := edit 0 s.mem.zeroFill p (fun m => m &&& ~~~(BitVec.ofNat 64 (2 ^ j))) }
  s.putMedia i (4096 * f + 64 * j) (.line d (s.lineBind p j))

/-- Bin lines that hold bytes [a, a + n) of a bin. -/
def binLines (a n : Nat) : List Nat :=
  if n = 0 then [] else (upTo 48).filter (fun j => decide (a / 64 ≤ j) && decide (j ≤ (a + n - 1) / 64))

/-- Read bytes [a, a + n) of a page's bin; none where a bin line is uncorrectable, fails its tag or is
not served (R230, R238). -/
def State.readBin (s : State) (p : Nat) (e : PageEntry) (a n : Nat) : State × Got × List Byte :=
  let step := fun (acc : State × Got × List Byte) j =>
    match acc.2.1 with
    | .data _ =>
      let r := acc.1.readLine (homeOf p) e.set (1024 * e.loc + 64 * j) p
        (acc.1.binBind p j (acc.1.majorOf p))
      match r.2 with
      | .data d => (r.1, .data 0, acc.2.2 ++ lineBytes d)
      | g => (r.1, g, [])
    | _ => acc
  let ls := binLines a n
  let r := ls.foldl step (s, .data 0, [])
  (r.1, r.2.1, (r.2.2.drop (a - 64 * (ls.head?).getD 0)).take n)

/-- Start of parcel q in its bin (R230). -/
def parcelStart (e : PageEntry) (q : Nat) : Nat := 16 * (e.plen.take q).sum

/-- PLEN of parcel q. -/
def PageEntry.plenAt (e : PageEntry) (q : Nat) : Nat := e.plen.getD q 0

/-- Why the bytes of a parcel could not be had. -/
inductive ParcelGot
  | bytes (d : List Byte) | malformed | badLine | notServed
  deriving DecidableEq, Repr

/-- Decode parcel q of a page in a bin (R239). -/
def State.readParcel (s : State) (p : Nat) (e : PageEntry) (q : Nat) : State × ParcelGot :=
  let r := s.readBin p e (parcelStart e q) (16 * e.plenAt q)
  match r.2.1 with
  | .data _ => (r.1, (parcel r.2.2 1024).elim .malformed .bytes)
  | .notServed => (r.1, .notServed)
  | .poison | .bad | .tagFail => (r.1, .badLine)

/-- Every channel that a page's stored lines lie on serves. -/
def State.pageServed (s : State) (e : PageEntry) : Bool :=
  e.places.all (fun x => (s.readChan e.set x).isSome)

end Sys2Proof.Machine
end

