-- ==== Sys2Proof/Machine/Lines.lean ====
section
/-! DEFINITION. What a line is served with in each page state: reads, full-line, partial and poison
writes, resealing, lost writes and the discard list, parcel buffers and promotion triggers (R101-R103,
R117-R122, R155, R214-R223, R239, R272-R280, R298-R300). -/

namespace Sys2Proof.Machine

/-! ### The atomic line buffer -/

/-- The lines that an atomic line buffer holds of a slice. -/
def State.atomLines (s : State) (hs : Nat) : List AtomLine := look [] s.home.atoms hs

/-- Set the atomic line buffer of a slice. -/
def State.setAtoms (s : State) (hs : Nat) (l : List AtomLine) : State :=
  s.withHome { s.home with atoms := put [] s.home.atoms hs l }

/-- A line in the atomic line buffer of its slice. -/
def State.atomAt (s : State) (line : Nat) : Option AtomLine :=
  (s.atomLines (homeOf (lnPage line))).find? (fun a => a.line == line)

/-- Drop a line from the atomic line buffer. -/
def State.dropAtom (s : State) (line : Nat) : State :=
  let hs := homeOf (lnPage line)
  s.setAtoms hs ((s.atomLines hs).filter (fun a => a.line != line))

/-! ### The discard list -/

/-- DISCARD_OVERFLOW names the unit and the extent (R299, R311). -/
def State.discardFull (s : State) (u e : Nat) : State :=
  s.raise { src := 547, site := siteOfPage fcPage, subject := u, detail := [e] }

/-- A lost write of a line is filed against a unit; on a full list its extent is marked (R298,
R299). What an atomic line buffer holds of the line is older, and goes (R293). -/
def State.discardLine (s : State) (u line : Nat) : State :=
  let s := s.dropAtom line
  let d : Discard := { unit := u, what := line, ext := false }
  if s.flt.discard.contains d then s
  else if (s.flt.discard.filter (fun x => !x.ext)).length < 65536 then
    s.withFlt { s.flt with discard := s.flt.discard ++ [d] }
  else
    let m : Discard := { unit := u, what := line / 2 ^ 22, ext := true }
    if s.flt.discard.contains m then s
    else
      let first := !s.flt.overflowed
      let s := s.withFlt { s.flt with discard := s.flt.discard ++ [m], overflowed := true }
      s.when first (fun s => s.discardFull u (line / 2 ^ 22))

/-- A unit's extent report marks an extent (R299, R486). -/
def State.discardExtent (s : State) (u e : Nat) : State :=
  let m : Discard := { unit := u, what := e, ext := true }
  if s.flt.discard.contains m then s
  else
    let first := !s.flt.overflowed
    let s := s.withFlt { s.flt with discard := s.flt.discard ++ [m], overflowed := true }
    s.when first (fun s => s.discardFull u e)

/-! ### Pages becoming near -/

/-- FRAME_EXHAUSTED names the domain (R122). -/
def State.exhausted (s : State) (p : Nat) : State := s.raiseAt 530 amapPage (s.domOf p)

/-- An unbacked page takes a fresh frame: it becomes near, and its lines read as zeros until written
(R102, R103). Without a frame it becomes poisoned (R122). -/
def State.back (s : State) (p : Nat) : State × Bool :=
  match s.takeFrame p false with
  | some (s, i, f) =>
    let s := s.withMem { s.mem with zeroFill := enter (BitVec.ofNat 64 (2 ^ 64 - 1)) s.mem.zeroFill p }
    (s.setEntry p (fun e => { e with st := .near, set := i, loc := f, crc := 0, binsize := 0, plen := [] }), true)
  | none => (((s.poisonPage p false).setEntry p id).exhausted p, false)

/-- Reset a page's leaf to the next MAJOR with all minors 0 (R275, R280). -/
def State.nextMajor (s : State) (p : Nat) : State :=
  let hs := homeOf p
  let s := s.walk walkFuel hs [.touch 1 (p / 32)]
  let s := s.endRetag hs (blockKey hs 1 (p / 32))
  let s := s.setBlock hs 1 (p / 32) { major := (s.block hs 1 (p / 32)).major + 1, minor := [] }
  s.walk walkFuel hs [.dirty 1 (p / 32)]

/-- Reseal a poisoned page: a fresh frame, the next MAJOR, every line poison (R280). Answers false
where no frame is permitted. -/
def State.reseal (s : State) (p : Nat) : State × Bool :=
  match s.takeFrame p false with
  | some (s, i, f) =>
    let s := (s.nextMajor p).setEntry p (fun e => { e with st := .near, set := i, loc := f })
    (s.each (upTo 64) (fun s j => s.poisonMedia p i f j), true)
  | none => (s.exhausted p, false)

/-! ### Parcel buffers and promotion triggers -/

/-- Cluster of a home slice: 2 x Lovage + cluster. -/
def clusterOf (hs : Nat) : Nat := hs / 4

/-- Drop a page's parcels from its cluster's buffer (R239). -/
def State.dropParcels (s : State) (p : Nat) : State :=
  let u := clusterOf (homeOf p)
  s.withTier { s.tier with
    parcels := put [] s.tier.parcels u ((look [] s.tier.parcels u).filter (fun k => k.1 / 4 != p)) }

/-- A parcel in the buffer of its cluster (R239). -/
def State.buffered (s : State) (p q : Nat) : Option (List Byte) :=
  ((look [] s.tier.parcels (clusterOf (homeOf p))).find? (fun k => k.1 == 4 * p + q)).map (·.2)

/-- Use or place a parcel in the buffer of 64, least recently used first out (R239). -/
def State.useParcel (s : State) (p q : Nat) (d : List Byte) : State :=
  let u := clusterOf (homeOf p)
  let l := (4 * p + q, d) :: (look [] s.tier.parcels u).filter (fun k => k.1 != 4 * p + q)
  s.withTier { s.tier with parcels := put [] s.tier.parcels u (l.take 64) }

/-- A page in a bin starts a promotion: several triggers give one (R222). The trigger of a page in state 4 waits for its
migration's end (R244). -/
def State.trigger (s : State) (p : Nat) (why : Trigger) : State :=
  let e := s.entry p
  if e.st == .compressed || e.st == .rawInBin || e.st == .migrating then
    if s.tier.promote.any (fun t => t.1 == p) then
      s.withTier { s.tier with promote := s.tier.promote.map (fun t =>
        if t.1 = p then (p, if t.2.contains why then t.2 else t.2 ++ [why]) else t) }
    else s.withTier { s.tier with promote := s.tier.promote ++ [(p, [why])] }
  else s

/-- TIER.CFG.PROMOTE_READS; 1 acts as 2 (R249). -/
def State.promoteReads (s : State) : Nat :=
  let n := s.cfg tierPage 0x80 24 4
  if n = 1 then 2 else n

/-- A counted read of a page in a bin: its count in the promotion filter of 512 sets of 8 pages, and
the trigger that it may bring (R221, R222). -/
def State.countRead (s : State) (p : Nat) : State :=
  let k := 512 * homeOf p + p / 32 % 512
  let l := look [] s.tier.filter k
  let n := ((l.find? (fun e => e.1 == p)).elim 0 (·.2)) + 1
  let l := ((p, n) :: l.filter (fun e => e.1 != p)).take 8
  let s := s.withTier { s.tier with filter := put [] s.tier.filter k l }
  s.when (s.promoteReads != 0 && s.promoteReads == n) (fun s => s.trigger p .read)

/-- The less busy of some engines in service: the first without a direct job, else the first. -/
def State.lessBusy (s : State) (l : List Nat) : Option Nat :=
  let up := l.filter (fun k => !s.engineIdle k)
  (up.find? (fun k => (s.eng k).job.isNone)).or up.head?

/-- The engine that decodes for a slice: the less busy one in service of its cluster, else of the other cluster of its Lovage,
else of the device; where none is, the work waits for the cluster's engine 00 (R240, R243; assumption 136). -/
def State.engineFor (s : State) (hs : Nat) : Nat :=
  let u := clusterOf hs
  let o := u ^^^ 1
  ((s.lessBusy [2 * u, 2 * u + 1]).or ((s.lessBusy [2 * o, 2 * o + 1]).or (s.lessBusy (upTo 16)))).getD (2 * u)

/-- Raise a source of a Lovage's compression units for a page (R248). -/
def State.raiseEng (s : State) (k off page cls : Nat) : State :=
  s.raise { src := srcLov (k / 4) off, site := siteOfPage (engPage k), cls := cls, subject := page }

/-- A malformed parcel poisons its page: PARCEL_BAD of the engine that decoded it, class D (R238). A page in state 4 stays in
it until its migration commits or is abandoned (R215). -/
def State.parcelBad (s : State) (p k : Nat) : State :=
  let s := s.when ((s.entry p).st != .migrating) (fun s => ((s.dropParcels p).poisonPage p false).setEntry p id)
  (s.raiseEng k 34 p 2).fileP (engPage k) 2 0

/-! ### Reads -/

/-- What a read is served with: data, poison because the line is poisoned or a check failed, or
poison because its unit is out of service. -/
inductive ReadGot
  | data (d : Line) | poison | notServed
  deriving DecidableEq, Repr

/-- Read line j of a page held in a bin: from the parcel buffer, else from a raw parcel's bin lines, else by decoding the
parcel in an engine, which fills the buffer (R238-R240). -/
def State.readFromBin (s : State) (p : Nat) (e : PageEntry) (j : Nat) : State × ReadGot :=
  let q := j / 16
  let r := j % 16
  match s.buffered p q with
  | some d => (s.useParcel p q d, .data (lineOf (d.drop (64 * r))))
  | none =>
    if e.plenAt q = 65 then
      let x := s.readBin p e (parcelStart e q + 2 + 64 * r) 64
      match x.2.1 with
      | .data _ => (x.1, .data (lineOf x.2.2))
      | .notServed => (x.1, .notServed)
      | .poison | .bad | .tagFail => (x.1, .poison)
    else
      let k := s.engineFor (homeOf p)
      let x := s.readParcel p e q
      match x.2 with
      | .bytes d => (((x.1.count (engPage k) 0x11 1).engineUsed k).useParcel p q d, .data (lineOf (d.drop (64 * r))))
      | .malformed => ((x.1.count (engPage k) 0x11 1).parcelBad p k, .poison)
      | .badLine => (x.1, .poison)
      | .notServed => (x.1, .notServed)

/-- Read line j of a page from where an entry says that it lies; a failing near line takes the poison
pattern (R102, R274, R279). -/
def State.readAs (s : State) (p : Nat) (e : PageEntry) (j : Nat) : State × ReadGot :=
  match e.st with
  | .unbacked => (s, .data 0)
  | .near =>
    let r := s.readNear p e.set e.loc j
    match r.2 with
    | .data d => (r.1, .data d)
    | .poison => (r.1, .poison)
    | .notServed => (r.1, .notServed)
    | .bad | .tagFail => (r.1.poisonMedia p e.set e.loc j, .poison)
  | .compressed => s.readFromBin p e j
  | .rawInBin => s.readFromBin p e j
  | _ => (s, .poison)

/-- The entry that serves a page's reads: the image of a migrating page (R217). -/
def State.serving (s : State) (p : Nat) : PageEntry :=
  let e := s.entry p
  if e.st == .migrating then (look? s.mem.mig p).elim e (·.image) else e

/-- Read a line (R102, R155). `counted`: the read comes from ports 1-5. -/
def State.readData (s : State) (line : Nat) (counted : Bool) : State × ReadGot :=
  match s.atomAt line with
  | some a => (s, .data a.data)
  | none =>
    let p := lnPage line
    let e := s.serving p
    let r := s.readAs p e (line % 64)
    let bin := (s.entry p).st == .compressed || (s.entry p).st == .rawInBin
    match r.2 with
    | .data d => (r.1.when (counted && bin) (fun s => s.countRead p), .data d)
    | g => (r.1, g)

/-! ### Writes -/

/-- How a write ended: done; answered with its data discarded; it waits; or it met an unverified
line. -/
inductive WriteGot
  | done | discarded | wait | unverified
  deriving DecidableEq, Repr

/-- Keep a buffered line in step with a write of it. -/
def State.syncAtom (s : State) (line : Nat) (d : Line) : State :=
  match s.atomAt line with
  | some _ =>
    let hs := homeOf (lnPage line)
    s.setAtoms hs ((s.atomLines hs).map (fun a => if a.line = line then { a with data := d } else a))
  | none => s

/-- Unit of the channel that a byte of a set lies on, for a lost write. -/
def State.lostUnit (s : State) (i x : Nat) : Nat := chanPage ((s.set i).media x).1 63

/-- The unit of the channel that keeps a page's metadata from being read, where one does (R201). -/
def State.metaOut (s : State) (p : Nat) : Option Nat :=
  ((s.metaPath p).find? (fun x => (s.readChan x.1 x.2).isNone)).map (fun x => s.lostUnit x.1 x.2)

/-- A write of a set's byte reaches a channel that serves. A quarantined channel that R300 is applied to takes the poison
writes alone (R300). -/
def State.takesWrite (s : State) (i x : Nat) : Bool := (s.writeChans i x).any s.serves

/-- Write a whole line (R102, R122, R272, R280). -/
def State.writeFull (s : State) (line : Nat) (d : Line) : State × WriteGot :=
  let p := lnPage line
  let j := line % 64
  let near := fun (s : State) =>
    let e := s.entry p
    let x := 4096 * e.loc + 64 * j
    if !s.takesWrite e.set x then (s.discardLine (s.lostUnit e.set x) line, WriteGot.discarded)
    else ((s.writeNear p e.set e.loc j d).syncAtom line d, .done)
  match (s.entry p).st with
  | .near => near s
  | .unbacked =>
    let r := s.back p
    if r.2 then near r.1 else (r.1, .done)
  | .poisoned =>
    let r := s.reseal p
    if r.2 then near r.1 else (r.1, .done)
  | .migrating => (s, .wait)
  | _ => (s.trigger p .write, .wait)

/-- Write the poison pattern to a line, ahead of every later request (R76, R150, R279). -/
def State.writePoison (s : State) (line : Nat) : State × WriteGot :=
  let p := lnPage line
  let j := line % 64
  let near := fun (s : State) =>
    let e := s.entry p
    let x := 4096 * e.loc + 64 * j
    if s.writeChans e.set x = [] then (s.discardLine (s.lostUnit e.set x) line, WriteGot.discarded)
    else ((s.poisonMedia p e.set e.loc j).dropAtom line, .done)
  match (s.entry p).st with
  | .near => near s
  | .unbacked =>
    let r := s.back p
    if r.2 then near r.1 else (r.1, .done)
  | .poisoned => (s, .done)
  | .migrating => (s, .wait)
  | _ => (s.trigger p .write, .wait)

/-- The requester that a record names: its class and its number there (assumption 146). -/
def requesterCode : Requester → List Nat
  | .host ld => [0, ld]
  | .io ld => [1, ld]
  | .borage a => [2, a]
  | .dm q => [3, q % 64]
  | .pool a => [4, a]
  | .job e => [5, e]
  | .internal => [6, 0]

/-- The logical device that a requester belongs to: of a data mover queue, the one whose queue it is (R312). -/
def requesterLd : Requester → Option Nat
  | .host ld => some ld
  | .io ld => some ld
  | .dm q => some (q % 64)
  | _ => none

/-- A partial write or atomic met an unverified line: WRITE_UNVERIFIED naming the requester, class D
(R279, R284). -/
def State.unverified (s : State) (line : Nat) (who : Requester) : State :=
  let hs := homeOf (lnPage line)
  let s := s.withMem { s.mem with wrUnver := tick 0xFFFF s.mem.wrUnver hs }
  let s := s.raise { src := srcHs hs 41, site := siteOfPage (hsPage hs 4), cls := 2, subject := line,
                     detail := requesterCode who, ld := requesterLd who }
  s.fileP (hsPage hs 4) 2 0

/-- Write some bytes of a line: it is read and verified first; a line that does not verify takes the
poison pattern and stores nothing (R272, R279, R280). -/
def State.writePart (s : State) (line : Nat) (mask : BitVec 64) (d : Line) (who : Requester) :
    State × WriteGot :=
  let p := lnPage line
  match (s.entry p).st with
  | .migrating => (s, .wait)
  | .compressed => (s.trigger p .write, .wait)
  | .rawInBin => (s.trigger p .write, .wait)
  | .poisoned => (s.unverified line who, .unverified)
  | _ =>
    let r := s.readData line false
    match r.2 with
    | .data old => r.1.writeFull line (mergeLine old d mask)
    | .poison =>
      let w := r.1.writePoison line
      (w.1.unverified line who, .unverified)
    | .notServed =>
      let e := s.entry p
      (r.1.discardLine (s.lostUnit e.set (4096 * e.loc + 64 * (line % 64))) line, .discarded)

/-! ### Atomics -/

/-- The operand width of an atomic in bits. -/
def AtomicSize.bits : AtomicSize → Nat
  | .b4 => 32 | .b8 => 64 | .b16 => 128

/-- The new value of an atomic (R152). -/
def atomicNew (op : AtomicKind) (w old a b : Nat) : Nat :=
  match op with
  | .fetchAdd => (old + a) % 2 ^ w
  | .swap => a % 2 ^ w
  | .cas => if old = a % 2 ^ w then b % 2 ^ w else old

/-- How an atomic ended: the old value; refused, memory unchanged; or it waits. -/
inductive AtomGot
  | old (v : Nat) | refused | notServed | wait
  deriving DecidableEq, Repr

/-- Write a buffered line to memory as one full-line write (R155). -/
def State.flushAtom (s : State) (line : Nat) : State :=
  match s.atomAt line with
  | none => s
  | some a => ((s.dropAtom line).writeFull line a.data).1

/-- Place a line in the atomic line buffer of 16, the oldest leaving for it; with HOLD = 0 it is
written at once (R155, R167). -/
def State.placeAtom (s : State) (line : Nat) (d : Line) : State :=
  let hs := homeOf (lnPage line)
  let a : AtomLine := { line := line, data := d, last := s.now }
  if s.cfg (hsPage hs 2) 0x80 0 8 = 0 then ((s.dropAtom line).writeFull line d).1
  else
    let s := s.setAtoms hs ((s.atomLines hs).filter (fun x => x.line != line) ++ [a])
    if 16 < (s.atomLines hs).length then s.flushAtom (((s.atomLines hs).head?).elim 0 AtomLine.line)
    else s

/-- Execute an atomic on a line at the head of its queue (R152, R155, R156). -/
def State.atomicAt (s : State) (line : Nat) (op : AtomicKind) (size off : Nat) (a b : Nat)
    (who : Requester) : State × AtomGot :=
  let p := lnPage line
  let w := 8 * size
  let act := fun (s : State) (old : Line) =>
    let v := bits old.toNat (8 * off) w
    let n := atomicNew op w v a b
    let m := ((2 ^ w - 1) <<< (8 * off))
    let new : Line := BitVec.ofNat 512 (((old.toNat ||| m) ^^^ m) ||| (n <<< (8 * off)))
    (s.placeAtom line new, AtomGot.old v)
  match (s.entry p).st with
  | .migrating => (s, .wait)
  | .compressed => (s.trigger p .write, .wait)
  | .rawInBin => (s.trigger p .write, .wait)
  | .poisoned => (s.unverified line who, .refused)
  | .unbacked =>
    let r := s.back p
    if r.2 then act r.1 0 else (r.1.unverified line who, .refused)
  | .near =>
    let r := s.readData line false
    match r.2 with
    | .data old => act r.1 old
    | .poison => ((r.1.writePoison line).1.unverified line who, .refused)
    | .notServed => (r.1, .notServed)

/-- Every request admitted for a line of a page sets TOUCH (R219); its entry and leaf are fetched where the channels of their
lines serve (R201). -/
def State.touch (s : State) (p : Nat) : State :=
  let s := s.when (s.metaServed p) (fun s => s.fetchPage p)
  if (s.entry p).touch then s else s.setEntry p (fun e => { e with touch := true })

end Sys2Proof.Machine
end

