-- ==== Sys2Proof/Machine/Trace.lean ====
section
/-! DEFINITION. The request tracer: the tagging points, the filter and the tracer's buffer (R518-R521). -/

namespace Sys2Proof.Machine

/-- One step of a tagging point's shift register (R518). -/
def lfsrStep (x : BitVec 32) : BitVec 32 :=
  if x.getLsbD 0 then (x >>> 1) ^^^ 0x80200003 else x >>> 1

/-- A request arrives at a tagging point: its shift register advances, and the request is tagged when
the low RATE bits are all 0 (R518). Points 0-15 are the host links, 16-19 the Borage modules, 20 the
data mover. -/
def State.tagging (s : State) (pt : Nat) : State × Bool :=
  let x := lfsrStep (look 0 s.obs.lfsr pt)
  (s.withObs { s.obs with lfsr := put 0 s.obs.lfsr pt x },
   s.cfgBit trcPage 0x80 0 && !s.cfgBit trcPage 0x0C 0 && bits x.toNat 0 (s.cfg trcPage 0x84 0 5) == 0)

/-- Fabric cycles in some nanoseconds (R513). -/
def fabricCycles (ns : Nat) : Nat := ns * 11 / 5

/-- A record meets TRC.FILT (R520, R523). -/
def State.traceMeets (s : State) (r : TraceRec) : Bool :=
  (s.cfgBit trcPage 0x88 7 || s.cfg trcPage 0x88 0 7 == r.agent) &&
  (s.cfgBit trcPage 0x88 13 || s.cfg trcPage 0x88 8 5 == r.hs) &&
  decide (16 * s.cfg trcPage 0x88 14 16 ≤ r.d11)

/-- Buffer the record of a tagged request that passed point 11; a full buffer drops it (R520, R521). -/
def State.traceRec (s : State) (r : TraceRec) : State :=
  if s.cfgBit trcPage 0x80 1 && s.traceMeets r then
    if s.obs.buf.length < 256 then s.withObs { s.obs with buf := s.obs.buf ++ [r] }
    else s.withObs { s.obs with dropped := satAdd 0xFFFF s.obs.dropped 1, dropFlag := true }
  else s

/-- Bucket of the reuse-age histogram (R250). -/
def ageBucket (a : Nat) : Nat :=
  if a = 0 then 0 else if a = 1 then 1 else if a < 4 then 2 else if a < 8 then 3 else if a < 16 then 4
  else if a < 32 then 5 else if a < 64 then 6 else 7

/-- Count the age of a sampled page in the histogram (R219, R250). -/
def State.sampleAge (s : State) (dom age : Nat) : State :=
  s.when (s.cfgBit tierPage 0xBC 12 || s.cfg tierPage 0xBC 0 12 == dom) (fun s =>
    let x := 0xC0 + 4 * ageBucket age
    s.setBits tierPage x 0 32 (satAdd 0xFFFFFFFF (s.cfg tierPage x 0 32) 1))

end Sys2Proof.Machine
end

