-- ==== Sys2Proof/Machine/Home.lean ====
section
/-! DEFINITION. The home slices: the snoop filter, what each request does to it, the per-line queues,
trackers and credits, responses, and the running of a line's queue (R132-R150, R297, R307). -/

namespace Sys2Proof.Machine

/-! ### The snoop filter -/

/-- Set of a line (R139). -/
def sfSetOf (line : Nat) : Nat := bits line 0 14 ^^^ bits line 14 14 ^^^ bits line 28 12

/-- Key of a line's snoop filter set. -/
def sfKey (line : Nat) : Nat := 16384 * homeOf (lnPage line) + sfSetOf line

/-- A snoop filter set, most recent first. -/
def State.sfWays (s : State) (line : Nat) : List SfEntry := look [] s.home.sf (sfKey line)

/-- Give each entry its recency rank (R140). -/
def ranked (l : List SfEntry) : List SfEntry :=
  (l.zip (upTo l.length)).map (fun e => { e.1 with age := e.2 })

/-- Set the ways of a line's set. -/
def State.setWays (s : State) (line : Nat) (l : List SfEntry) : State :=
  s.withHome { s.home with sf := put [] s.home.sf (sfKey line) (ranked l) }

/-- An agent is lost (R148, R150). -/
def State.isLost (s : State) (a : Nat) : Bool := s.home.lost.getLsbD a

/-- The entry of a line, lost sharers left out (R150); a line of a broad set without an entry reads as
B (R145). -/
def State.sfOf (s : State) (line : Nat) : Option SfEntry :=
  match (s.sfWays line).find? (fun e => e.line == line) with
  | some e =>
    if e.st == .s then
      let ids := e.ids.filter (fun a => !s.isLost a)
      if ids = [] then none else some { e with ids := ids }
    else some e
  | none =>
    if s.home.broad.contains (sfKey line) then some { line := line, st := .b, ids := [], age := 0 }
    else none

/-- Remove a line's entry. -/
def State.sfDrop (s : State) (line : Nat) : State :=
  s.setWays line ((s.sfWays line).filter (fun e => e.line != line))

/-- The right of a Borage agent in a domain: 0 none, 1 non-caching, 2 caching (R363, R381). -/
def State.brgRight (s : State) (a d : Nat) : Nat := bits (look 0 s.brg.rights d).toNat (2 * (a - 64)) 2

/-- A logical device's link has CXL.mem with back-invalidation. -/
def State.biOf (s : State) (ld : Nat) : Bool :=
  match s.linkOf ld with
  | some l => (s.link l).cxl && (s.link l).bi && (s.link l).live
  | none => false

/-- The broad set of a line (R141). -/
def State.broadSet (s : State) (line : Nat) : List Nat :=
  let e := pgExt (lnPage line)
  ((upTo 64).filter (fun n => (s.ext e).holds n && s.biOf n) ++
   ((upTo 16).map (fun k => 64 + k)).filter (fun a =>
      s.brg.present && s.brgRight a (s.ext e).domain == 2)).filter (fun a => !s.isLost a)

/-! ### Requests -/

/-- The agent that a requester is, where it is one (R59, R363). -/
def agentOf : Requester → Option Nat
  | .host ld => some ld
  | .borage a => some a
  | _ => none

/-- Logical device whose host sent a request. -/
def ldOf : Requester → Option Nat
  | .host ld => some ld
  | .io ld => some ld
  | _ => none

/-- A requester on ports 1-5 (R135). -/
def fromPorts1to5 : Requester → Bool
  | .host _ | .io _ | .borage _ => true
  | _ => false

/-- What a request wants of the snoop filter (R142): a shared copy, an exclusive copy, a non-caching
read, a write by an agent, a non-caching write, or its own removal. -/
inductive Want
  | rdS | rdA | nc | wr (keepS : Bool) | ncw | drop | none
  deriving DecidableEq, Repr

/-- What a request wants of a line whose entry is `e` (R142). A MemRd with MetaValue I keeps no copy. -/
def wantOf (who : Requester) (k : ReqKind) (e : Option SfEntry) : Want :=
  let caching := (agentOf who).isSome
  match k with
  | .read .s => if caching then .rdS else .nc
  | .read .a => if caching then .rdA else .nc
  | .read _ => .nc
  | .readData => if e.isNone then .rdA else .rdS
  | .ioRead _ _ => .nc
  | .write mv _ _ => if caching then .wr (mv == .s) else .ncw
  | .writePtl mv _ _ _ => if caching then .wr (mv == .s) else .ncw
  | .inv .s => .rdS
  | .inv .a => .rdA
  | .inv _ => .drop
  | .clnEvct => .drop
  | .atomic _ _ _ _ _ => .ncw
  | .flush => .ncw
  | .evict _ => .none
  | .leave _ => .none

/-- A line of a device-coherent domain (R107). -/
def State.coherent (s : State) (line : Nat) : Bool := (s.dom (s.domOf (lnPage line))).coh

/-- The snoops that a request sends: agent and kind, 0 BISnpCur, 1 BISnpData, 2 BISnpInv (R142,
R307). A non-caching access or an atomic snoops an exclusive owner even where the owner sent it. -/
def State.snoopsOf (s : State) (line : Nat) (r : Option Nat) (w : Want) (guarded : Bool)
    (e : Option SfEntry) : List (Nat × Nat) :=
  match e with
  | none => []
  | some e =>
    let others := fun (l : List Nat) => (l.filter (fun a => some a != r)).map (fun a => (a, 2))
    if guarded then (if e.st == .e then others e.ids else [])
    else match e.st with
      | .s => (match w with
        | .rdA | .wr _ | .ncw => others e.ids
        | _ => [])
      | .b => (match w with
        | .rdA | .wr _ | .ncw => others (s.broadSet line)
        | _ => [])
      | .e =>
        let o := e.ids.filter (fun a => some a != r)
        (match w with
        | .rdS => o.map (fun a => (a, 1))
        | .nc => e.ids.map (fun a => (a, 0))
        | .ncw => e.ids.map (fun a => (a, 2))
        | .rdA | .wr _ => o.map (fun a => (a, 2))
        | _ => [])

/-- What becomes of a line's entry: it stays, goes, or is this state with these agents. -/
inductive SfNext
  | keep | gone | is (st : SfState) (ids : List Nat)
  deriving DecidableEq, Repr

/-- The next state of an entry, once every snoop has been answered (R142). `kept`: the agent that kept
a shared copy; `wasE`: the entry was E when the snoops were sent, of the agents `owner`, lost ones left out. -/
def sfNext (r : Option Nat) (w : Want) (e : Option SfEntry) (sent : Bool) (kept : Option Nat)
    (wasE : Bool) (owner : List Nat) : SfNext :=
  let me := r.toList
  let add := fun (l : List Nat) => l ++ me.filter (fun a => !l.contains a)
  match w with
  | .none => .keep
  | .nc => if sent && wasE && owner ≠ [] then .is .e owner else .keep
  | .ncw => if e.isSome then .gone else .keep
  | .rdA =>
    match e with
    | some x => if x.st == .e && x.ids == me && !sent then .keep else .is .e me
    | none => .is .e me
  | .wr keepS =>
    match e with
    | none => if keepS && !(sent && wasE) then .is .s me else .keep
    | some x =>
      if x.st == .e && x.ids == me && !sent then (if keepS then .is .s me else .gone)
      else if (x.st == .e && !sent) || (sent && wasE) then .gone
      else if keepS then .is .s me else .gone
  | .rdS =>
    if sent && wasE then .is .s (add kept.toList)
    else match e with
      | none => .is .s me
      | some x =>
        match x.st with
        | .b => .is .b []
        | .s =>
          if x.ids.any (fun a => me.contains a) || decide (x.ids.length < 3) then .is .s (add x.ids)
          else .is .b []
        | .e => .keep
  | .drop =>
    match e with
    | none => .keep
    | some x =>
      match x.st with
      | .b => .keep
      | _ =>
        let ids := x.ids.filter (fun a => !me.contains a)
        if ids = [] then .gone else .is x.st ids

/-- MetaValue of the response (R142, R307). -/
def metaOf (k : ReqKind) (w : Want) (guarded own : Bool) : MetaVal :=
  if guarded then .i
  else match k, w with
    | .inv .s, _ => .s
    | .inv .a, _ => .a
    | _, .rdS => if own then .a else .s
    | _, .rdA => .a
    | _, .drop => .i
    | _, _ => .none

/-! ### Entries and evictions -/

/-- Entries of a slice's eviction buffer in use (R143). -/
def State.evictBusy (s : State) (hs : Nat) : Nat :=
  (s.home.queue.filter (fun q => q.tr == .evictBuf && homeOf (lnPage q.line) == hs)).length

/-- The victim of a full set: the least recent way in S or B, else in E (R143). -/
def victim (l : List SfEntry) : Option SfEntry :=
  match (l.filter (fun e => e.st != .e)).getLast? with
  | some e => some e
  | none => l.getLast?

/-- Put a request ahead of every other of its line. -/
def ahead (q : QReq) : List QReq → List QReq
  | [] => [q]
  | x :: t => if x.line = q.line then q :: x :: t else x :: ahead q t

/-- A request of the slice itself. -/
def State.ownReq (s : State) (line : Nat) (k : ReqKind) (tr : TrackerKind) : QReq :=
  { id := s.home.nextId, line := line, who := .internal, kind := k, tag := 0, tr := tr, at_ := s.now,
    snoops := [], snoopAt := 0, sent := false, kept := none, wasE := false, owner := [], guarded := false,
    drop := false, tagged := false, miss := false, again := false }

/-- Make an entry the most recent of its set with a state. A full set moves its victim to the eviction
buffer; none where that is full (R143). In a broad set a new entry is in state B (R145). -/
def State.sfPut (s : State) (line : Nat) (st : SfState) (ids : List Nat) : Option State :=
  let l := s.sfWays line
  let hs := homeOf (lnPage line)
  let rest := l.filter (fun e => e.line != line)
  let fresh := rest.length == l.length
  let broad := fresh && s.home.broad.contains (sfKey line)
  let e : SfEntry := { line := line, st := if broad then .b else st,
                       ids := if broad then [] else ids, age := 0 }
  if rest.length < 12 then some (s.setWays line (e :: rest))
  else if 32 ≤ s.evictBusy hs then none
  else match victim rest with
    | none => none
    | some v =>
      let vids := if v.st == .b then s.broadSet v.line else v.ids
      let q := { s.ownReq v.line (.evict vids) .evictBuf with wasE := v.st == .e, owner := if v.st == .e then v.ids else [] }
      let s := s.withHome { s.home with queue := ahead q s.home.queue, nextId := s.home.nextId + 1 }
      let s := s.count (hsPage hs 1) 0x12 1
      some (s.setWays line (e :: rest.filter (fun x => x.line != v.line)))

/-- Carry out a change of a line's entry; none where it has to wait for the eviction buffer. -/
def State.sfGo (s : State) (line : Nat) (n : SfNext) : Option State :=
  match n with
  | .keep =>
    match (s.sfWays line).find? (fun e => e.line == line) with
    | some e => some (s.setWays line (e :: (s.sfWays line).filter (fun x => x.line != line)))
    | none => some s
  | .gone => some (s.sfDrop line)
  | .is st ids => s.sfPut line st ids

/-! ### Responses -/

/-- The link of a logical device raises an event of its port group for a request (R85). -/
def State.raiseLd (s : State) (ld k subject : Nat) : State :=
  match s.linkOf ld with
  | some l => s.raiseLink l k (some ld) subject
  | none => s

/-- Lines read or written for a logical device in the interval (R465). -/
def State.actRead (s : State) (who : Requester) : State :=
  match ldOf who with
  | some n => s.withMgmt { s.mgmt with actRd := edit 0 s.mgmt.actRd n (· + 1) }
  | none => s

/-- Lines written for a logical device in the interval (R465). -/
def State.actWrite (s : State) (who : Requester) : State :=
  match ldOf who with
  | some n => s.withMgmt { s.mgmt with actWr := edit 0 s.mgmt.actWr n (· + 1) }
  | none => s

/-- State code granted to a Borage agent (R360, R366). -/
def grantCode : MetaVal → Nat
  | .a => 2 | .s => 1 | _ => 0

/-- The input port of a requester's reads (R135). -/
def State.portOf (s : State) (who : Requester) : Nat :=
  match who with
  | .host ld => 1 + ((s.linkOf ld).getD 0) / 4
  | .io ld => 1 + ((s.linkOf ld).getD 0) / 4
  | .borage _ => 5
  | .dm _ => 6
  | .pool _ => 7
  | .job _ => 9
  | .internal => 9

/-- KIND of a trace record (R520). -/
def traceKind : ReqKind → Nat
  | .read _ | .readData | .ioRead _ _ => 0
  | .write _ _ _ => 1
  | .writePtl _ _ _ _ => 2
  | .atomic _ _ _ _ _ => 3
  | _ => 4

/-- The AGENT byte of a trace record (R520). -/
def traceAgent : Requester → Nat
  | .host n => n
  | .io n => n
  | .borage a => a
  | _ => 0x7F

/-- The points 1 to 10 that a request has passed, in fabric cycles since point 0 (R519): a host link's passes 1 and 2; the
module and the crossbar are passed at its admission, the page map is ready when it is served. A request that is dropped
before its admission has passed 1 to 3 on its first way. -/
def State.tracePts (s : State) (q : QReq) (lost : Bool) : List (Option Nat) :=
  let at_ := fun (t : Nat) => fabricCycles (t - q.came)
  let host := fun (n : Nat) => if (ldOf q.who).isSome then some n else none
  let cross := if lost then 0 else at_ q.at_
  let done := fun (b : Bool) => if b && !lost then some (at_ s.now) else none
  let data := match q.kind with
    | .read _ | .readData | .ioRead _ _ | .write _ _ _ | .writePtl _ _ _ _ | .atomic _ _ _ _ _ => true
    | _ => false
  [host 0, host cross, some cross, if lost then none else some (at_ q.at_), q.headAt.map at_, q.clearAt.map at_,
    done data, done q.chan.isSome, done q.chan.isSome, done true]

/-- The trace record of a request (R520). -/
def State.traceOf (s : State) (q : QReq) (poison lost : Bool) : TraceRec :=
  let p := lnPage q.line
  let e := s.entry p
  { time := q.came, addr := q.line * 64, kind := traceKind q.kind,
    flags := b2n q.sent + 2 * b2n q.miss + 4 * b2n (e.st == .compressed || e.st == .rawInBin) +
      8 * b2n poison + 16 * b2n q.again + 32 * b2n q.guarded + 128 * b2n lost,
    port := if q.tr = .writeback then 0 else s.portOf q.who, hs := homeOf p, agent := traceAgent q.who,
    chan := q.chan.getD 0xFF, d := s.tracePts q lost,
    d11 := fabricCycles (s.now - q.came) }

/-- A request's response leaves: a tagged one is recorded (R520). -/
def State.traceDone (s : State) (q : QReq) (poison : Bool) : State :=
  s.when (q.tagged && !q.drop) (fun s => s.traceRec (s.traceOf q poison false))

/-- Poison returned on a host link is counted under code 0x12 (R514). -/
def State.countPoison (s : State) (ld : Nat) : State :=
  match s.linkOf ld with
  | some l => s.count (linkPage l 2) 0x12 1
  | none => s

/-- Answer a read; poison due to the line raises POISON_OUT (R76, R85). -/
def State.answerRead (s : State) (q : QReq) (g : ReadGot) (mv : MetaVal) : State :=
  let s := s.actRead q.who
  let s := s.traceDone q (match g with
    | .data _ => false
    | _ => true)
  let d := match g with
    | .data d => d
    | _ => 0
  let bad := match g with
    | .data _ => false
    | _ => true
  if q.drop then s
  else match q.who with
    | .host ld =>
      let s := s.when (g == .poison) (fun s => s.raiseLd ld 10 (q.line * 64))
      let s := s.when bad (fun s => s.countPoison ld)
      s.toHost ld (.memData ld q.tag d bad mv)
    | .io ld =>
      match q.kind with
      | .ioRead off len => s.toHost ld (.ioData ld q.tag (((lineBytes d).drop off).take len) bad)
      | _ => s.toHost ld (.ioData ld q.tag (lineBytes d) bad)
    | .borage a => s.emit (.brgData q.line a q.tag d bad (grantCode mv))
    | who => s.withHome { s.home with
        fetched := { who := who, line := q.line, data := if bad then none else some d } ::
          s.home.fetched.filter (fun f => f.who != who || f.line != q.line) }

/-- The flush reads of a peer are answered with the aperture page's ID once the last of the aperture's other
writes has been serialised (R126, R328). -/
def State.flushAnswers (s : State) (a : Nat) (but : Option Nat) : State :=
  let busy := s.home.queue.any (fun q => q.who == .pool a && some q.id != but) ||
    s.home.retried.any (fun r => r.req.who == .pool a)
  if busy then s
  else
    let s := s.each (s.amap.flushReads.filter (fun f => f.1 == a)) (fun s f =>
      s.toHost s.mgmtLd (.flushData f.2.1 f.2.2 (BitVec.ofNat 32 (idWord (poolPage a)))))
    s.withAmap { s.amap with flushReads := s.amap.flushReads.filter (fun f => f.1 != a) }

/-- Answer a request without data (R142). -/
def State.answerCmp (s : State) (q : QReq) (mv : MetaVal) (err : Bool) : State :=
  let s := s.traceDone q false
  if q.drop then s
  else match q.who with
    | .host ld => s.toHost ld (.memCmp ld q.tag mv)
    | .borage a => s.emit (.brgCmp q.line a q.tag err (grantCode mv))
    | .pool a => s.flushAnswers a (some q.id)
    | _ => s

/-- Where the old value of batch element k is kept among fetched lines: beyond every line. -/
def atomSlot : Nat := 2 ^ 40

/-- Answer an atomic (R152, R76, R157, R366). -/
def State.answerAtomic (s : State) (q : QReq) (v : Nat) (bad byLine : Bool) : State :=
  let s := s.traceDone q bad
  if q.drop then s
  else match q.who with
    | .io ld =>
      let s := s.when (bad && byLine) (fun s => s.raiseLd ld 10 (q.line * 64))
      s.toHost ld (.atomicCpl ld q.tag (BitVec.ofNat 128 v) bad)
    | .borage a => s.emit (.brgAtomic q.line a q.tag (BitVec.ofNat 128 v) bad)
    | who => s.withHome { s.home with
        fetched := { who := who, line := atomSlot + q.tag, data := if bad then none else some (BitVec.ofNat 512 v) } ::
          s.home.fetched.filter (fun f => f.who != who || f.line != atomSlot + q.tag) }

/-! ### Serving the head of a queue -/

/-- The channel of the first DRAM command of a read of a line: none where nothing is read from DRAM, as from a parcel that
is buffered (R239, R519). -/
def State.dramChan (s : State) (line : Nat) : Option Nat :=
  let e := s.serving (lnPage line)
  match e.st with
  | .near => s.readChan e.set (4096 * e.loc + 64 * (line % 64))
  | .compressed | .rawInBin =>
    if (s.buffered (lnPage line) (line % 64 / 16)).isSome then none
    else s.readChan e.set (1024 * e.loc + parcelStart e (line % 64 / 16) / 64 * 64)
  | _ => none

/-- A tagged request that reads its line notes the channel of its first DRAM command (R519). -/
def State.notePath (s : State) (q : QReq) : QReq :=
  match q.kind with
  | .read _ | .readData | .ioRead _ _ | .writePtl _ _ _ _ | .atomic _ _ _ _ _ =>
    if q.tagged then { q with chan := s.dramChan q.line } else q
  | _ => q

/-- The answer to a request whose page's metadata lies on a channel out of service: as one to a line on it (R76, R201). -/
def State.serveNone (s : State) (q : QReq) (mv : MetaVal) : State × Bool :=
  match q.kind with
  | .read _ | .readData | .ioRead _ _ => (s.answerRead q .notServed mv, true)
  | .write _ _ _ | .writePtl _ _ _ _ => ((s.discardLine ((s.metaOut (lnPage q.line)).getD 0) q.line).answerCmp q mv true, true)
  | .atomic _ _ _ _ _ => (s.answerAtomic q 0 true false, true)
  | .inv _ | .clnEvct => (s.answerCmp q mv false, true)
  | .flush | .evict _ | .leave _ => (s, true)

/-- The head's effect on its line: the state, and whether it has ended. -/
def State.serveLine (s : State) (q : QReq) (mv : MetaVal) : State × Bool :=
  let q := s.notePath q
  if !s.metaServed (lnPage q.line) then s.serveNone q mv
  else match q.kind with
  | .read _ | .readData | .ioRead _ _ =>
    let r := s.readData q.line (fromPorts1to5 q.who)
    (r.1.answerRead q r.2 mv, true)
  | .write _ d poison =>
    let w := if poison then s.writePoison q.line else s.writeFull q.line d
    if w.2 == .wait then (w.1, false)
    else ((w.1.actWrite q.who).answerCmp q mv (w.2 == .discarded), true)
  | .writePtl _ m d poison =>
    let w := if poison then s.writePoison q.line else s.writePart q.line m d q.who
    if w.2 == .wait then (w.1, false)
    else ((w.1.actWrite q.who).answerCmp q mv (w.2 == .discarded), true)
  | .inv _ | .clnEvct => (s.answerCmp q mv false, true)
  | .atomic op size off a b =>
    let r := s.atomicAt q.line op size off a.toNat b.toNat q.who
    match r.2 with
    | .wait => (r.1, false)
    | .old v => ((r.1.actWrite q.who).answerAtomic q v false false, true)
    | .refused => (r.1.answerAtomic q 0 true true, true)
    | .notServed => (r.1.answerAtomic q 0 true false, true)
  | .flush => (s, true)
  | .evict _ => (s, true)
  | .leave _ => (s, true)

/-- Replace a request of the queue. -/
def State.setReq (s : State) (q : QReq) : State :=
  s.withHome { s.home with queue := s.home.queue.map (fun x => if x.id = q.id then q else x) }

/-- The idle time of the link that a request came from starts anew (R61). -/
def State.restOf (s : State) (who : Requester) : State :=
  match who with
  | .host n | .io n => s.restLink n
  | .dm k => s.restLink (k % 64)
  | _ => s

/-- Take a request from the queue. -/
def State.popReq (s : State) (q : QReq) : State :=
  (s.withHome { s.home with queue := s.home.queue.filter (fun x => x.id != q.id) }).restOf q.who

/-- A request goes through port 0, the writeback buffer: a write with data of a host link or of Borage
(R135). -/
def viaPort0 (who : Requester) (k : ReqKind) : Bool :=
  match who, k with
  | .host _, .write _ _ _ | .host _, .writePtl _ _ _ _ => true
  | .io _, .write _ _ _ | .io _, .writePtl _ _ _ _ => true
  | .borage _, .write _ _ _ | .borage _, .writePtl _ _ _ _ => true
  | _, _ => false

/-- The writes of some agents that wait behind a head of their line go ahead of it, in their order: a snoop that
crosses a writeback (R149). -/
def pullAhead (q : QReq) (l : List Nat) (queue : List QReq) : List QReq :=
  let mine := fun (x : QReq) => x.line == q.line && viaPort0 x.who x.kind && (agentOf x.who).any l.contains
  let behind := (queue.dropWhile (fun x => x.id != q.id)).filter mine
  let ids := behind.map (·.id)
  (queue.filter (fun x => !ids.contains x.id)).flatMap (fun x => if x.id = q.id then behind ++ [x] else [x])

/-- Put a write of an agent ahead of the request of its line that has snooped the agent, behind the agent's own earlier
writes (R146, R149). -/
def aheadOf (a : Nat) (q : QReq) : List QReq → List QReq
  | [] => [q]
  | x :: t => if x.line = q.line ∧ x.snoops.contains a then q :: x :: t else x :: aheadOf a q t

/-- Send a message to an agent: a Borage chiplet's on its module, a host's on its link (R59, R364). -/
def State.toAgent (s : State) (a : Nat) (m : Msg) : State := if 64 ≤ a then s.emit m else s.toHost a m

/-- Send the snoops of a head; those to lost agents are answered at once (R66, R142). A snooped agent's writes that wait
behind the head go ahead of it (R149). -/
def State.sendSnoops (s : State) (q : QReq) (l : List (Nat × Nat)) (wasE : Bool) (owner : List Nat) (guarded : Bool) :
    State × QReq :=
  let l := l.filter (fun a => !s.isLost a.1)
  let q := { q with snoops := l.map (·.1), snoopAt := s.now, sent := true, wasE := wasE, owner := owner,
                    guarded := guarded }
  let s := s.count (hsPage (homeOf (lnPage q.line)) 1) 0x11 l.length
  let s := (s.each l (fun s a => s.toAgent a.1 (.snoop a.1 a.2 q.line))).setReq q
  (s.withHome { s.home with queue := pullAhead q (l.map (·.1)) s.home.queue }, q)

/-- An exclusive line of a lost owner: its entry goes and the line takes the poison pattern (R150). -/
def State.loseLine (s : State) (line : Nat) : State × Bool :=
  let w := s.writePoison line
  if w.2 == .wait then (w.1, false) else (w.1.sfDrop line, true)

/-- GUARD_SERVED, at most once per millisecond per slice (R307). -/
def State.guardEvent (s : State) (line : Nat) : State :=
  let hs := homeOf (lnPage line)
  if (look? s.home.guardAt hs).all (fun t => decide (t + ms 1 ≤ s.now)) then
    (s.withHome { s.home with guardAt := enter s.now s.home.guardAt hs }).raise
      { src := 548, site := siteOfPage (hsPage hs 63), subject := line }
  else s

/-- A write by the owner of an entry that stands in the eviction buffer: the owner holds the line exclusive no more
(R142, R143). -/
def State.writtenBack (s : State) (line : Nat) (r : Option Nat) (w : Want) : State :=
  match w with
  | .wr _ => s.withHome { s.home with queue := s.home.queue.map (fun q =>
      if q.line = line ∧ q.tr = .evictBuf ∧ q.wasE ∧ q.owner = r.toList then { q with wasE := false } else q) }
  | _ => s

/-- One step of a request at the head of a coherent line's queue: the snoops that the protocol table
asks for, and once they are answered the service (R144, R150). -/
def State.goCoherent (s : State) (line : Nat) (q : QReq) : State × Bool :=
  let e := s.sfOf line
  if e.any (fun x => x.st == .e && x.ids.any s.isLost) then s.loseLine line
  else
    let r := agentOf q.who
    let w := wantOf q.who q.kind (if q.sent && q.wasE then some { line := line, st := .e, ids := [], age := 0 } else e)
    let own := e.any (fun x => x.st == .e && some x.ids == r.map (fun a => [a]))
    let guarded := if q.sent then q.guarded
      else (w == .rdS || w == .rdA) && fromPorts1to5 q.who && decide (us 50 ≤ q.headAt.getD s.now - q.at_)
    let sn := if q.sent then [] else
      (s.snoopsOf line r w guarded e).filter (fun a => !s.isLost a.1)
    if sn ≠ [] then
      let own := e.any (fun x => x.st == .e)
      ((s.sendSnoops q sn own (if own then e.elim [] SfEntry.ids else []) guarded).1, true)
    else
      let n := if guarded then (if q.sent then SfNext.gone else .keep)
        else sfNext r w e q.sent q.kept q.wasE (q.owner.filter (fun a => !s.isLost a))
      match s.sfGo line n with
      | none => (s, false)
      | some s' =>
        let v := s'.serveLine q (metaOf q.kind w guarded (own && !q.sent))
        if v.2 then
          (((v.1.when guarded (fun s =>
            (s.count (hsPage (homeOf (lnPage line)) 0) 0x12 1).guardEvent line)).writtenBack line r w).popReq q, true)
        else
          let v := s.serveLine q (metaOf q.kind w guarded own)
          (v.1, false)

/-- Some bytes of a set lie on a channel that stalls, or holds their bank (R190, R195, R308). -/
def State.placeStill (s : State) (i : Nat) (l : List Nat) : Bool :=
  l.any (fun x => (s.writeChans i x).any (fun c => (s.chan c).holds ((s.set i).media x).2))

/-- A metadata line that a page's entry and leaf have to be fetched from lies on a channel that stalls (R190, R308). -/
def State.metaStill (s : State) (p : Nat) : Bool :=
  (s.metaPath p).any (fun x => s.placeStill x.1 [x.2])

/-- The source of a page's migration, the destination that it has, or what the page's metadata has to be fetched from, lies on
a channel that stalls (R190, R308). -/
def State.migStill (s : State) (p : Nat) (m : Migration) : Bool :=
  let dest : PageEntry := match m.kind with
    | .promotion => { m.image with st := .near, set := m.dset, loc := m.dloc }
    | .nearMove | .binMove => { m.image with set := m.dset, loc := m.dloc }
    | .demotion => { m.image with st := .unbacked }
  s.placeStill m.image.set m.image.places || s.placeStill dest.set dest.places || s.metaStill p

/-- The engine, without power, that the decode of a line's parcel waits for (R240, R398, R400). -/
def State.decodeWaits (s : State) (line : Nat) : Option Nat :=
  let p := lnPage line
  let e := s.serving p
  let q := line % 64 / 16
  let k := s.engineFor (homeOf p)
  if (e.st == .compressed || e.st == .rawInBin) && e.plenAt q != 65 && (s.buffered p q).isNone && s.engineDown k then some k
  else none

/-- A line's request waits: where it waits for an engine, that engine is called (R400). -/
def State.callFor (s : State) (line : Nat) : State :=
  match s.decodeWaits line with
  | some k => s.callEngine k
  | none => s

/-- A channel that a line is read from or written to stalls, or holds its bank: requests wait (R190, R195, R297, R308). So
they do for a metadata line that the line's page has to be fetched with. -/
def State.lineStill (s : State) (line : Nat) : Bool :=
  let e := s.serving (lnPage line)
  s.placeStill e.set (if e.st = .near then [4096 * e.loc + 64 * (line % 64)] else e.places) || s.metaStill (lnPage line) ||
    (s.decodeWaits line).isSome

/-- A request reaches the head of its line's queue, point 5, and point 6 with the last answer to its snoops (R307, R519). -/
def State.passHead (s : State) (q : QReq) : QReq :=
  { q with headAt := q.headAt.or (some s.now), clearAt := if q.sent && q.snoops == [] then q.clearAt.or (some s.now) else none }

/-- A write of a domain with no mirror is complete once it holds its place in its line's queue and its data is held in the
slice: it waits for no channel (R42, R297). -/
def State.heldWrite (s : State) (line : Nat) : ReqKind → Bool
  | .write _ _ _ | .writePtl _ _ _ _ => !(s.dom (s.domOf (lnPage line))).mirror
  | _ => false

/-- One step of the head of a line's queue: what the state becomes, and whether the line can go on. -/
def State.stepHead (s : State) (line : Nat) : State × Bool :=
  match s.home.queue.find? (fun q => q.line == line) with
  | none => (s, false)
  | some q =>
    let s := s.setReq (s.passHead q)
    let q := s.passHead q
    if q.snoops ≠ [] ∨ listed s.mem.rebuild (homeOf (lnPage line)) then (s, false)
    else if q.unfetched then
      if s.metaStill (lnPage line) then (s, false)
      else ((s.touch (lnPage line)).setReq { q with unfetched := false }, true)
    else match q.kind with
    | .evict ids =>
      if q.wasE && q.owner.any s.isLost then
        let w := s.writePoison line
        if w.2 == .wait then (w.1, false) else (w.1.popReq q, true)
      else if !q.sent then ((s.sendSnoops q (ids.map (fun a => (a, 2))) q.wasE q.owner false).1, true)
      else (s.popReq q, true)
    | .leave a =>
      if (s.sfOf line).any (fun e => e.st == .e && e.ids.any s.isLost) then
        let w := s.loseLine line
        if w.2 then (w.1.popReq q, true) else (w.1, false)
      else if !q.sent then
        match s.sfOf line with
        | some e =>
          let named := e.ids.contains a || e.st == .b
          if named then ((s.sendSnoops q [(a, 2)] (e.st == .e) (if e.st == .e then e.ids else []) false).1, true) else (s.popReq q, true)
        | none => (s.popReq q, true)
      else
        match s.sfOf line with
        | some e =>
          let ids := e.ids.filter (· != a)
          let n : SfNext := if e.st == .b then .keep else if ids = [] then .gone else .is e.st ids
          match s.sfGo line n with
          | some t => (t.popReq q, true)
          | none => (s.popReq q, true)
        | none => (s.popReq q, true)
    | _ =>
      if s.lineStill line && !s.heldWrite line q.kind then (s.callFor line, false)
      else if !s.coherent line then
        let mv : MetaVal := match q.kind with
          | .inv _ | .clnEvct => .i
          | _ => .none
        let r := s.serveLine q mv
        if r.2 then (r.1.popReq q, true) else (r.1, false)
      else
        s.goCoherent line q

/-- The lines of a slice that have requests. -/
def State.linesOf (s : State) (hs : Nat) : List Nat :=
  ((s.home.queue.filter (fun q => homeOf (lnPage q.line) == hs)).map (·.line)).eraseDups

/-- Run the queues of some lines as far as they can go. -/
def State.runLines : Nat → List Nat → State → State
  | 0, _, s => s
  | _, [], s => s
  | n + 1, l :: ls, s =>
    let r := s.stepHead l
    if r.2 then
      let more := r.1.linesOf (homeOf (lnPage l))
      State.runLines n (l :: ls ++ more.filter (fun x => x != l && !ls.contains x)) r.1
    else State.runLines n ls r.1

/-- Steps that one command may run. -/
def runFuel (s : State) : Nat := 64 + 16 * s.home.queue.length

/-! ### Trackers, retries and credits -/

/-- Class of a requester (R137). -/
def State.classOf (s : State) (who : Requester) : ReqClass :=
  match who with
  | .host ld => .portGroup (Fin.ofNat 4 (((s.linkOf ld).getD 0) / 4))
  | .io ld => .portGroup (Fin.ofNat 4 (((s.linkOf ld).getD 0) / 4))
  | .borage _ => .borage
  | .dm _ => .dataMover
  | .pool _ => .pool
  | .job _ => .internal
  | .internal => .internal

/-- Reserved trackers of a class in a slice (R137). -/
def reservedOf (filler : Bool) : ReqClass → Nat
  | .portGroup _ => 24
  | .borage => if filler then 0 else 32
  | .dataMover => 16
  | .tier => 8
  | .pool => 4
  | .internal => 4

/-- Requests of a slice that occupy trackers of a kind. -/
def State.inKind (s : State) (hs : Nat) (k : TrackerKind) : List QReq :=
  s.home.queue.filter (fun q => q.tr == k && homeOf (lnPage q.line) == hs)

/-- Shared trackers of a slice (R137). -/
def State.sharedAll (s : State) : Nat := if s.brg.filler then 384 else 352

/-- Shared trackers free (R137, R164). -/
def State.sharedFree (s : State) (hs : Nat) : Nat := s.sharedAll - (s.inKind hs .shared).length

/-- Credits of a class at a slice that are out and not used. -/
def State.creditsOut (s : State) (hs : Nat) (c : ReqClass) : Nat :=
  (s.home.retried.filter (fun r => r.hs == hs && r.cls == c && r.credit)).length

/-- Reserved trackers of a class free and not bound to a credit (R137). -/
def State.reservedFree (s : State) (hs : Nat) (c : ReqClass) : Nat :=
  reservedOf s.brg.filler c -
    ((s.inKind hs .reserved).filter (fun q => s.classOf q.who == c)).length - s.creditsOut hs c

/-- A requester class is under retry blocking at a slice: it has requests answered Retry that it has not sent again
(R138). Writes that wait for a writeback credit were never sent. -/
def State.blocked (s : State) (hs : Nat) (c : ReqClass) : Bool :=
  s.home.retried.any (fun r => r.hs == hs && r.cls == c && r.req.tr != .writeback)

/-- Writeback credits of a class per slice (R136). -/
def wbCredits : ReqClass → Nat
  | .portGroup _ => 12
  | .borage => 16
  | _ => 64

/-- Writeback entries of a class in use at a slice. -/
def State.wbInUse (s : State) (hs : Nat) (c : ReqClass) : Nat :=
  ((s.inKind hs .writeback).filter (fun q => s.classOf q.who == c)).length

/-- A tagged request feeds the hotness stamp and the histogram of its page (R219). -/
def State.sample (s : State) (p : Nat) : State :=
  if s.cfgBit tierPage 0x80 28 then
    let e := s.entry p
    let cur := s.tier.epoch
    (s.sampleAge e.domain ((cur - e.hepoch).toNat)).setEntry p (fun e => { e with hepoch := cur })
  else s

/-- The input port of a request (R135). -/
def State.portNo (s : State) (q : QReq) : Nat :=
  if viaPort0 q.who q.kind then 0
  else match s.classOf q.who with
    | .portGroup g => 1 + g.val
    | .borage => 5
    | .dataMover => 6
    | .pool => 7
    | .tier => 8
    | .internal => 9

/-- Among the requests of a cycle, one of a port stands before one of another port of 1-9 in a line. -/
def aheadIn : List (Nat × Nat) → Nat → Bool
  | [], _ => false
  | e :: t, p => (e.2 == p && t.any (fun x => x.1 == e.1 && x.2 != p && x.2 != 0)) || aheadIn t p

/-- The AGE of a port after a cycle (R135). -/
def ageAfter (placed : List (Nat × Nat)) (p age : Nat) : Nat :=
  if aheadIn placed.reverse p then 0 else if aheadIn placed p then min 3 (age + 1) else age

/-- A request reaches a slice: the ages take in an earlier cycle, and a new one begins (R135). -/
def State.portCycle (s : State) (hs : Nat) : State :=
  let c := look {} s.home.cycle hs
  if c.at_ = s.now then s
  else s.withHome { s.home with
    portAge := ([1, 2, 3, 4, 5, 6, 7, 8, 9] : List Nat).foldl
      (fun t p => edit 0 t (16 * hs + p) (ageAfter c.placed p)) s.home.portAge
    cycle := put {} s.home.cycle hs { at_ := s.now, placed := [] } }

/-- The place of a port among the requests of a cycle: port 0, then descending AGE, then ascending port
(R135). -/
def State.portRank (s : State) (hs p : Nat) : Nat :=
  if p = 0 then 0 else 16 * (4 - look 0 s.home.portAge (16 * hs + p)) + p

/-- Two requests come from one host link (R24). -/
def State.sameLink (s : State) (a b : Requester) : Bool :=
  match (ldOf a).bind s.linkOf, (ldOf b).bind s.linkOf with
  | some l, some m => l == m
  | _, _ => false

/-- Put a request in the queue, behind those of its line that it does not outrank in their cycle; a request of the slice
itself, or one that has sent its snoops, keeps its place (R135), and one of the same host link stays before it (R24: `own`). -/
def placeIn (rank : QReq → Nat) (own : QReq → Bool) (q : QReq) : List QReq → List QReq
  | [] => [q]
  | x :: t =>
    if x.line = q.line ∧ x.at_ = q.at_ ∧ x.who ≠ .internal ∧ !x.sent ∧ rank q < rank x ∧
        !(x :: t).any (fun y => y.line == q.line && own y) then q :: x :: t
    else x :: placeIn rank own q t

/-- Note a placed request: `n` of its line and cycle stand behind it. -/
def placeNote (e : Nat × Nat) : Nat → List (Nat × Nat) → List (Nat × Nat)
  | 0, l => e :: l
  | _ + 1, [] => [e]
  | n + 1, x :: t => x :: placeNote e (if x.1 = e.1 then n else n + 1) t

/-- Other lines of a line's page that wait for a migration which its map entry no longer names (R104). -/
def State.otherLines (s : State) (line : Nat) : List Nat :=
  if (s.entry (lnPage line)).st == .poisoned then
    ((s.home.queue.filter (fun q => lnPage q.line == lnPage line && q.line != line)).map (·.line)).eraseDups
  else []

/-- Put a request in its line's queue with a tracker, set TOUCH, and run the line (R134, R135,
R219); while the slice's root array is rebuilt, or a channel of the page's metadata stalls, the page is fetched later (R190,
R283). A write by an agent that a request of the line has snooped goes ahead of that request (R146, R149). -/
def State.enqueue (s : State) (q : QReq) (tr : TrackerKind) : State :=
  let hs := homeOf (lnPage q.line)
  let miss := !(s.mcHit hs 0 (lnPage q.line / 4) && s.mcHit hs 1 (lnPage q.line / 32))
  let wait := listed s.mem.rebuild hs || s.metaStill (lnPage q.line)
  let q := { q with id := s.home.nextId, tr := tr, at_ := s.now, miss := miss, unfetched := wait }
  let isWb := viaPort0 q.who q.kind
  let snooped := (agentOf q.who).filter (fun a =>
    isWb && s.home.queue.any (fun x => x.line == q.line && x.snoops.contains a))
  let s := if wait then s else s.touch (lnPage q.line)
  let s := s.when q.tagged (fun s => s.sample (lnPage q.line))
  let s := s.count (hsPage (homeOf (lnPage q.line)) 0) 0x10 1
  let s := s.when (s.coherent q.line) (fun s => s.count (hsPage (homeOf (lnPage q.line)) 1) 0x10 1)
  let s := s.portCycle hs
  let queue := match snooped with
    | some a => aheadOf a q s.home.queue
    | none => placeIn (fun x => s.portRank hs (s.portNo x)) (fun x => s.sameLink x.who q.who) q s.home.queue
  let after := (((queue.dropWhile (fun x => x.id != q.id)).drop 1).filter
    (fun x => x.line == q.line && x.at_ == q.at_)).length
  let c := look {} s.home.cycle hs
  let cycle := put {} s.home.cycle hs { c with placed := placeNote (q.line, s.portNo q) after c.placed }
  let s := s.withHome { s.home with queue := queue, cycle := cycle, nextId := s.home.nextId + 1 }
  State.runLines (runFuel s) (q.line :: s.otherLines q.line) s

/-- A request without its place in the queue. -/
def State.newReq (s : State) (line : Nat) (who : Requester) (k : ReqKind) (tag : Nat) : QReq :=
  { id := 0, line := line, who := who, kind := k, tag := tag, tr := .shared, at_ := s.now, snoops := [],
    snoopAt := 0, sent := false, kept := none, wasE := false, owner := [], guarded := false, drop := false,
    tagged := false, miss := false, again := false, came := s.now }

/-- A credit of a slice reaches a requester class: it goes to the oldest of its requests answered Retry. A Chervil,
Sorrel or Lovage resends that request at once; Borage resends it itself (R137, R138, R365). -/
def State.useCredit (s : State) (hs : Nat) (c : ReqClass) : State :=
  match s.home.retried.find? (fun x => x.hs == hs && x.cls == c && !x.credit && x.req.tr != .writeback) with
  | none => s
  | some x =>
    if c = .borage then
      s.withHome { s.home with retried := s.home.retried.map (fun y => if y = x then { y with credit := true } else y) }
    else (s.withHome { s.home with retried := s.home.retried.erase x }).enqueue x.req .reserved

/-- Data slots that a request takes on a module between chiplets of the device (assumption 122). -/
def kindSlots : ReqKind → Nat
  | .write _ _ _ => 8
  | .writePtl _ _ _ _ => 9
  | .atomic _ _ _ _ _ => 5
  | _ => 0

/-- A request travels to its home slice: from a Chervil on module C-S.(h mod 3), from Sorrel, and from another Lovage, on module L-S.c (R24). -/
def State.travel (s : State) (who : Requester) (k : ReqKind) (hs : Nat) : State :=
  let n := ceilDiv (1 + kindSlots k) 7
  let s := match ldOf who with
    | some ld => (match s.linkOf ld with
      | some l => s.carry (19 + 3 * (l / 8) + hs % 3) n
      | none => s)
    | none => s
  match who with
  | .internal => s
  | .job e => s.when (e / 4 != hs / 8) (fun s => s.carry (2 * (hs / 8) + hs / 4 % 2) n)
  | _ => s.carry (2 * (hs / 8) + hs / 4 % 2) n

/-- Place a request at its home slice, from where it holds a tracker or is answered Retry (R134-R138). `cred`: it comes with
a credit. -/
def State.takeIn (s : State) (q : QReq) (cred : Bool) : State :=
  let hs := homeOf (lnPage q.line)
  let c := s.classOf q.who
  if viaPort0 q.who q.kind then s.enqueue q .writeback
  else if cred then
    match s.home.retried.find? (fun r => r.hs == hs && r.cls == c && r.credit) with
    | some r =>
      let s := s.withHome { s.home with retried := s.home.retried.erase r }
      s.enqueue { q with again := true } .reserved
    | none => if 0 < s.sharedFree hs then s.enqueue q .shared else s
  else if decide (0 < s.sharedFree hs) && !s.blocked hs c then s.enqueue q .shared
  else
    let credit := decide (0 < s.reservedFree hs c)
    let s := (s.count (hsPage hs 0) 0x11 1).emit (.retry hs c credit ((agentOf q.who).getD 0) q.tag q.line)
    let s := s.withHome { s.home with
      retried := s.home.retried ++ [{ hs := hs, cls := c, req := { q with tr := .shared, again := true }, credit := false }] }
    s.when credit (fun s => s.useCredit hs c)

/-- A request may not be sent yet: a write finds no writeback entry of its class free; or a request that its class has not
sent stands before it, a write before a write, or one of the same line; or one of its host link for its line waits for a
credit (R24, R136, R138). A write of an agent that a request of the line has snooped waits for no other (R149). `before`: the
requests not yet sent. -/
def State.unsent (s : State) (hs : Nat) (c : ReqClass) (q : QReq) (before : List Retried) : Bool :=
  let wb := viaPort0 q.who q.kind
  (wb && decide (wbCredits c ≤ s.wbInUse hs c)) ||
    (!(wb && (agentOf q.who).any (fun a => s.home.queue.any (fun x => x.line == q.line && x.snoops.contains a))) &&
    before.any (fun r => r.hs == hs && r.cls == c &&
      ((r.req.tr == .writeback && ((wb && viaPort0 r.req.who r.req.kind) || r.req.line == q.line)) ||
        (wb && r.req.line == q.line && s.sameLink r.req.who q.who))))

/-- The first request not yet sent that may be sent now. -/
def State.firstSent (s : State) : List Retried → List Retried → Option Retried
  | _, [] => none
  | before, r :: t =>
    if r.req.tr = .writeback ∧ !s.unsent r.hs r.cls r.req before then some r else s.firstSent (before ++ [r]) t

/-- Send the requests that waited for a writeback entry of their slice (R136), at most n of them. -/
def State.readmit : Nat → State → State
  | 0, s => s
  | n + 1, s =>
    match s.firstSent [] s.home.retried with
    | none => s
    | some r =>
      let s := s.withHome { s.home with retried := s.home.retried.erase r }
      State.readmit n (s.takeIn r.req false)

/-- Run the queues of some lines as far as they can go, and send what then finds a writeback entry free (R136). -/
def State.runOn (s : State) (lines : List Nat) : State :=
  State.readmit s.home.retried.length (State.runLines (runFuel s) lines s)

/-- Run one line. -/
def State.runLine (s : State) (line : Nat) : State := s.runOn [line]

/-- Run every waiting request of a page. -/
def State.runPage (s : State) (p : Nat) : State :=
  s.runOn ((s.home.queue.filter (fun q => lnPage q.line == p)).map (·.line)).eraseDups

/-- The requests that wait in their home slices go on (R190). -/
def State.runAll (s : State) : State := s.runOn ((s.home.queue.map (·.line)).eraseDups)

/-- A request reaches its home slice and is admitted, behind those of its class that have not been sent (R24, R134-R138).
`cred`: it comes with a credit; `mark`: the tracer has tagged it. -/
def State.enlist (s : State) (line : Nat) (who : Requester) (k : ReqKind) (tag : Nat) (cred mark : Bool) :
    State :=
  let hs := homeOf (lnPage line)
  let c := s.classOf who
  let s := s.travel who k hs
  let q := { s.newReq line who k tag with tagged := mark }
  if !cred && s.unsent hs c q s.home.retried then
    s.withHome { s.home with
      retried := s.home.retried ++ [{ hs := hs, cls := c, req := { q with tr := .writeback }, credit := false }] }
  else
    let s := s.takeIn q cred
    State.readmit s.home.retried.length s

/-- An answer to a snoop of a line: the agent is no longer waited for, and the line goes on (R142). -/
def State.answered (s : State) (a line : Nat) (keepS : Bool) : State :=
  let s := s.withHome { s.home with queue := s.home.queue.map (fun q =>
    if q.line = line ∧ q.snoops.contains a then
      { q with snoops := q.snoops.filter (· != a), kept := if keepS then some a else q.kept }
    else q) }
  s.runLine line

/-- A snoop of a line to an agent is outstanding. -/
def State.snooping (s : State) (a line : Nat) : Bool :=
  s.home.queue.any (fun q => q.line == line && q.snoops.contains a)

/-- Declare agents lost: pending snoops to them are answered invalid (R66, R150). -/
def State.loseAgents (s : State) (l : List Nat) : State :=
  let m := l.foldl (fun a k => a ||| 2 ^ k) 0
  let s := s.withHome { s.home with lost := s.home.lost ||| BitVec.ofNat 80 m }
  let lines := ((s.home.queue.filter (fun q => q.snoops.any (fun a => l.contains a))).map (·.line)).eraseDups
  let s := s.withHome { s.home with queue := s.home.queue.map (fun q =>
    { q with snoops := q.snoops.filter (fun a => !l.contains a) }) }
  s.runOn lines

/-- The poison write of a line whose entry goes, ahead of the requests that wait for the line: where its page has to be
promoted or moves, the write waits at the head of the queue (R150, R279). -/
def State.poisonAhead (s : State) (line : Nat) : State :=
  let s := s.sfDrop line
  let q := s.ownReq line (.write .none 0 true) .internal
  (s.withHome { s.home with queue := ahead q s.home.queue, nextId := s.home.nextId + 1 }).runLine line

/-- An entry of the eviction buffer that names an agent of a list as its line's exclusive owner. -/
def QReq.evictsFor (q : QReq) (l : List Nat) : Bool :=
  (match q.kind with
   | .evict _ => true
   | _ => false) && q.wasE && q.owner.any (fun a => l.contains a)

/-- The sweep empties the entries that name lost agents of a list, those of the eviction buffer too: exclusive lines are
poisoned, their sharers dropped (R66, R150). -/
def State.sweepAgents (s : State) (l : List Nat) : State :=
  let owned := ((s.home.sf.map (·.2)).flatten.filter (fun e =>
    e.st == .e && e.ids.any (fun a => l.contains a))).map (·.line)
  let s := s.each owned (fun s n => s.poisonAhead n)
  let held := (s.home.queue.filter (fun q => q.evictsFor l)).map (·.line)
  let s := s.withHome { s.home with queue := s.home.queue.map (fun q =>
    if q.evictsFor l then { q with kind := .write .none 0 true, snoops := [] } else q) }
  let s := s.runOn held
  s.withHome { s.home with sf := (s.home.sf.map (fun k => (k.1, ranked (k.2.filterMap (fun e =>
    if e.st == .s then
      let ids := e.ids.filter (fun a => !l.contains a)
      if ids = [] then none else some { e with ids := ids }
    else some e))))).filter (fun k => k.2 != []) }

/-- A home slice is quarantined, or under a class F reaction of its Lovage or of the device (R133, R489,
R490). -/
def State.sliceOut (s : State) (hs : Nat) : Bool :=
  s.flt.quarantined.contains (hsPage hs 63) || s.flt.chipF.contains (8 + hs / 8) || s.flt.dev == 1 ||
    s.flt.dev == 2

/-- A poison write of R300 waits for a page of a slice that does not serve (R300). -/
def State.applyWaits (s : State) (p : Nat) : Bool :=
  s.home.queue.any (fun q => lnPage q.line == p && q.who == .internal && q.tag != 0)

/-- The tier manager leaves a page alone: its slice is out of service, and no poison write waits for it (R300). -/
def State.pageOut (s : State) (p : Nat) : Bool := s.sliceOut (homeOf p) && !s.applyWaits p

/-- What a line is read from and written to serves, and what its page's metadata has to be read from (R76, R201). -/
def State.lineServed (s : State) (line : Nat) : Bool :=
  let e := s.serving (lnPage line)
  s.metaServed (lnPage line) && (match e.st with
  | .near => (s.readChan e.set (4096 * e.loc + 64 * (line % 64))).isSome
  | .compressed => s.pageServed e
  | .rawInBin => s.pageServed e
  | _ => true)

/-- No unit that a line needs is quarantined (R76, R331). -/
def State.unitsUp (s : State) (line : Nat) : Bool :=
  !s.sliceOut (homeOf (lnPage line)) && s.lineServed line

/-- The unit whose state keeps a line from being served (R76, R299). -/
def State.outUnit (s : State) (line : Nat) : Nat :=
  let hs := homeOf (lnPage line)
  if s.flt.dev = 1 ∨ s.flt.dev = 2 then devRec
  else if s.flt.chipF.contains (8 + hs / 8) then chipletPage (8 + hs / 8)
  else if s.flt.quarantined.contains (hsPage hs 63) then hsPage hs 63
  else
    let e := s.serving (lnPage line)
    (s.metaOut (lnPage line)).getD (s.lostUnit e.set (if e.st = .near then 4096 * e.loc + 64 * (line % 64) else 1024 * e.loc))

/-- An uncorrectable snoop filter entry: its way is emptied and its set marked broad (R145). -/
def State.filterError (s : State) (line : Nat) : State :=
  let hs := homeOf (lnPage line)
  let k := sfKey line
  let s := s.sfDrop line
  let s := s.withHome { s.home with broad := if s.home.broad.contains k then s.home.broad else s.home.broad ++ [k] }
  (s.raiseHs hs 2 1 k none).fileP (hsPage hs 1) 1 0

/-- The snoop filter entries of some slices are checked after a reset; which of them fail is left open (a free value), and one
that fails is handled as an uncorrectable one (R145, R303; assumption 161). -/
def State.checkFilter (s : State) (p : Nat → Bool) : State :=
  s.each (((s.home.sf.filter (fun k => p (k.1 / 16384))).map (·.2)).flatten) (fun s e =>
    let bad := Config.sfBad s.free
    s.takeFree.when (bad == 1) (fun s => s.filterError e.line))

/-- A slice returns from quarantine: its snoop filter is kept where every entry passes its check, which is left open (a free
value), else every set is marked broad (R145, R495; assumption 161). -/
def State.checkSlice (s : State) (hs : Nat) : State :=
  let mine := fun (k : Nat) => k / 16384 == hs
  if s.home.sf.all (fun k => !mine k.1) then s
  else
    let bad := Config.sfBad s.free
    s.takeFree.when (bad == 1) (fun s => s.withHome { s.home with
      sf := dropKeys mine s.home.sf,
      broad := s.home.broad.filter (fun k => !mine k) ++ (upTo 16384).map (fun k => 16384 * hs + k) })

/-- Snoop an agent's copies of every line of an extent (R113, R115). -/
def State.leaveExtent (s : State) (e agent : Nat) : State :=
  let lines := ((s.home.sf.map (·.2)).flatten.filter (fun x =>
    pgExt (lnPage x.line) == e && (x.ids.contains agent || x.st == .b))).map (·.line)
  let s := s.each lines (fun s n =>
    let q := s.ownReq n (.leave agent) .internal
    s.withHome { s.home with queue := ahead q s.home.queue, nextId := s.home.nextId + 1 })
  s.runOn lines

end Sys2Proof.Machine
end

