-- ==== Sys2Proof/Machine/Links.lean ====
section
/-! DEFINITION. Links going up and down: negotiation, link-down, resets of links and functions, agent
sweeps, and the stopping of data mover queues (R53-R67, R77, R78, R329). -/

namespace Sys2Proof.Machine

/-! ### Stopping a data mover queue -/

/-- Offset of the register block of a queue in the window (R312). -/
def State.dmqBlock (s : State) (q : Nat) : Option Nat :=
  (s.linkOf q).map (fun l => linkPage l 4 * 4096 + 0x200 + 0x40 * (q - s.ldBase l))

/-- Bits of a register of a queue block (R336). -/
def State.dmqGet (s : State) (q x lo w : Nat) : Nat :=
  (s.dmqBlock q).elim 0 (fun b => bits (s.activeWord (b + x)) lo w)

/-- Set bits of a register of a queue block. -/
def State.dmqSet (s : State) (q x lo w v : Nat) : State :=
  match s.dmqBlock q with
  | some b => s.setBits ((b + x) / 4096) ((b + x) % 4096) lo w v
  | none => s

/-- A running descriptor of a queue. -/
def State.desc (s : State) (q ix : Nat) : Option Desc := (s.queue q).run.find? (fun d => d.ix == ix)

/-- Change a running descriptor. -/
def State.onDesc (s : State) (q ix : Nat) (f : Desc → Desc) : State :=
  s.onQueue q (fun u => { u with run := u.run.map (fun d => if d.ix = ix then f d else d) })

/-! ### Reads of host memory -/

/-- Non-posted requests that a link's requester may have outstanding (R71). -/
def State.readLimit (s : State) (l q : Nat) : Nat :=
  let t := (s.ld q).tagBits
  min (s.cfg (linkPage l 4) 0x80 0 12 + 1) (if t = 14 then 4096 else if t = 10 then 768 else 256)

/-- The ring index under which the reads of a host ring stand beside those of the descriptors (R313). -/
def ringIx : Nat := 65535

/-- One read of a requester is sent, under a tag that is free, with at most so many bytes as it may have; answers how many it
asks for. None where the link carries nothing, the function is being reset, or no more may be outstanding (R69, R71, R78). -/
def State.issueOne (s : State) (q ix a n : Nat) : Option (State × Nat) :=
  match s.linkOf q with
  | none => none
  | some l =>
    let u := s.ld q
    let lim := 2 ^ u.tagBits
    if !(s.link l).live || u.flr.isSome || decide (s.readLimit l q ≤ ((s.ldsOf l).map (fun k => (s.ld k).reads.length)).sum) then none
    else match ((upTo lim).map (fun k => (u.nextTag + k) % lim)).find? (fun t => !u.reads.any (fun r => r.tag == t)) with
      | none => none
      | some t =>
        let len := min n (min u.mrrs (4096 - a % 4096))
        let r : ReqRead := { tag := t, addr := a, len := len, left := len, queue := q, ix := ix, at_ := s.now }
        some ((s.onLd q (fun u => { u with reads := u.reads ++ [r], nextTag := (t + 1) % lim })).toHost q
          (.hostRead q t a len), len)

/-- Issue reads of a descriptor's host operands (R69, R71). -/
def State.issueReads : Nat → Nat → Nat → State → State
  | 0, _, _, s => s
  | f + 1, q, ix, s =>
    match s.desc q ix with
    | none => s
    | some d =>
      match d.want with
      | [] => s
      | (a, n) :: w =>
        match s.issueOne q ix a n with
        | none => s
        | some (s, len) =>
          State.issueReads f q ix (s.onDesc q ix (fun d => { d with want := if n = len then w else (a + len, n - len) :: w }))

/-- The reads that one command may issue. -/
def readFuel : Nat := 4096

/-- The descriptors of a link that wait to send reads send them, as far as they may (R71). -/
def State.pumpReads (s : State) (q : Nat) : State :=
  match s.linkOf q with
  | none => s
  | some l => s.each (s.ldsOf l) (fun s n =>
      s.each (((s.queue n).run.filter (fun d => !d.want.isEmpty)).map (·.ix)) (fun s ix => s.issueReads readFuel n ix))

/-! ### Stopping -/

/-- A requester is a descriptor of a queue. -/
def ofQueue (q : Nat) : Requester → Bool
  | .dm k => k % 64 == q
  | _ => false

/-- Abandon what a queue has outstanding: its reads, its requests at the home slices and the lines
fetched for it (R329). -/
def State.dropDm (s : State) (q : Nat) : State :=
  let s := s.withHome { s.home with
    queue := s.home.queue.map (fun r => if ofQueue q r.who then { r with drop := true } else r),
    retried := s.home.retried.filter (fun r => !ofQueue q r.req.who),
    fetched := s.home.fetched.filter (fun f => !ofQueue q f.who) }
  (s.onQueue q (fun d => { d with ring := none })).onLd q (fun d => { d with reads := d.reads.filter (fun r => r.queue != q) })

/-- A queue goes to STOPPED: HEAD names the oldest descriptor without a record, and the queue's source is raised with CAUSE
(R329, R331, R334). Its other running descriptors end with it, without a record (assumption 177). -/
def State.haltQueue (s : State) (q cause : Nat) : State :=
  let d := s.queue q
  let s := match d.run with
    | [] => s
    | r :: _ => s.dmqSet q 0x14 0 16 r.ix
  let s := ((s.dropDm q).restLink q).onQueue q (fun d => { d with st := 2, cause := cause, run := [], abort := none })
  let s := s.pumpReads q
  s.raise { src := 576 + q, site := siteOfPage dmPage, code := cause, ld := some q }

/-- A link-down or a reset stops a queue that serves or has descriptors running (R329). -/
def State.stopQueue (s : State) (q cause : Nat) : State :=
  s.when ((s.queue q).st == 1 || !(s.queue q).run.isEmpty) (fun s => s.haltQueue q cause)

/-! ### Link-down -/

/-- A requester behind some logical devices' links. -/
def behind (l : List Nat) : Requester → Bool
  | .host n => l.contains n
  | .io n => l.contains n
  | _ => false

/-- Free the host locks where the management function's link has come to count as down (R542). -/
def State.unlockIfDown (s : State) (was : Bool) : State :=
  s.when (was && !s.mgmtUp) (fun s => s.freeLocks 1)

/-- Agents become lost: steps 3 to 5 of R66, with the sweep's deadline. -/
def State.agentsGone (s : State) (l : List Nat) : State :=
  let s := s.loseAgents l
  s.withHome { s.home with
    sweep := l.foldl (fun t a => enter (s.now + us 200) t a) s.home.sweep }

/-- A master is a host of some logical devices. -/
def hostOf (l : List Nat) : Master → Bool
  | .host n => l.contains n.val
  | _ => false

/-- The register accesses of some hosts that wait are dropped (R66). -/
def State.dropAccess (s : State) (l : List Nat) : State :=
  let s := s.withClk { s.clk with held := s.clk.held.filter (fun h => !hostOf l h.m) }
  s.withRet { s.ret with held := s.ret.held.filter (fun h => !hostOf l h.m) }

/-- The forwarded accesses of some logical devices are dropped: the pieces that wait, and the answers to those that were
sent (R66, R368). -/
def State.dropForwarded (s : State) (l : List Nat) : State :=
  s.withBrg { s.brg with
    fwdWait := s.brg.fwdWait.filter (fun x => !l.contains x.ld),
    fwd := s.brg.fwd.filter (fun x => !x.m.elim (l.contains x.ld) (hostOf l)) }

/-- Declare link-down on a link (R66); its queues stop with a cause (R329). -/
def State.linkLost (s : State) (l cause : Nat) : State :=
  if (s.link l).st == .down then s
  else
    let was := s.mgmtUp
    let lds := s.ldsOf l
    let s := s.each (s.home.retried.filter (fun r => behind lds r.req.who && r.req.tagged)) (fun s r =>
      s.traceRec (s.traceOf r.req false true))
    let s := s.withHome { s.home with
      retried := s.home.retried.filter (fun r => !behind lds r.req.who),
      queue := s.home.queue.map (fun q => if behind lds q.who then { q with drop := true } else q) }
    let s := (s.dropAccess lds).dropForwarded lds
    let s := s.when (lds.contains s.mgmtLd) (fun s => s.withAmap { s.amap with flushReads := [] })
    let s := s.agentsGone lds
    let s := s.onLink l (fun k => { k with
      st := .down, rate := 0, width := 0, active := 0, flit := .nonFlit, cxl := false, bi := false,
      mld := false, l0pOk := false, held := false, heldOffer := none, ownReq := none,
      sweep := some (s.now + us 200), corr := 0 })
    let s := s.raiseLink l 1 none 0
    let s := s.each lds (fun s n => (s.stopQueue n cause).onLd n (fun d => { d with reads := [] }))
    s.unlockIfDown was

/-! ### Negotiation -/

/-- Widest width of a link under the bifurcation, as coded in R88 (R47). -/
def State.widest (s : State) (l : Nat) : Nat :=
  let b := s.bifur (l / 4)
  if b = 1 then 3 else if b = 2 then 2 else 4

/-- Another present link with a lower page number has an overlapping range of logical devices
(R58); an empty range overlaps none. -/
def State.ldConflict (s : State) (l : Nat) : Bool :=
  (upTo l).any (fun k => s.present k && decide (0 < s.ldCount k) && decide (0 < s.ldCount l) &&
    decide (s.ldBase k < s.ldBase l + s.ldCount l) &&
    decide (s.ldBase l < s.ldBase k + s.ldCount k))

/-- The highest rate that a link may run at with a partner: both ends offer it, and non-flit mode is capped at 32 GT/s
(R53). -/
def State.rateCap (s : State) (l : Nat) (o : PartnerOffer) : Nat :=
  let r := min (s.cfg (linkPage l 0) 0x80 0 3) o.rate.val
  if o.flit256 then r else min r 4

/-- The widest width that a link may run at with a partner (R47, R48, R53, R88). -/
def State.widthCap (s : State) (l : Nat) (o : PartnerOffer) : Nat :=
  min (min (s.cfg (linkPage l 0) 0x80 3 3) (s.widest l)) o.width.val

/-- The flit mode of a rate, by whether CXL is negotiated and 256-byte flits are offered by the partner (R53). -/
def flitModeAt (r : Nat) (cxl flit256 : Bool) : FlitMode :=
  if 5 ≤ r then .flit256 else if cxl then .flit68 else if flit256 then .flit256 else .nonFlit

/-- Rate, flit mode and CXL that training settles with a partner (R53, R56); a link whose range overlaps a lower link's
trains without CXL.mem, and so as a plain PCIe link (R58; assumption 28). -/
def State.settle (s : State) (l : Nat) (o : PartnerOffer) : Nat × FlitMode × Bool :=
  let r := s.rateCap l o
  let cxl := s.cfgBit (linkPage l 0) 0x80 6 && o.cxl && decide (2 ≤ r) && !s.ldConflict l
  (r, flitModeAt r cxl o.flit256, cxl)

/-- Tags of 14 bits are used in flit mode only (R57). -/
def State.tagsFit (s : State) (l : Nat) : State :=
  s.when ((s.link l).flit == .nonFlit) (fun s => s.each (s.ldsOf l) (fun s n =>
    s.onLd n (fun d => { d with tagBits := min d.tagBits 10 })))

/-- The agents of a link are in use again (R150). -/
def State.agentsBack (s : State) (l : List Nat) : State :=
  let m := BitVec.ofNat 80 (l.foldl (fun a k => a ||| 2 ^ k) 0)
  s.withHome { s.home with lost := s.home.lost &&& ~~~m, timedOut := s.home.timedOut &&& ~~~m,
                           lostSeen := s.home.lostSeen &&& ~~~m }

/-- CXL alternate-protocol negotiation completes, or is held for a sweep (R53, R58, R67); a link whose range has come to
overlap a lower link's meanwhile runs as a plain PCIe link (R58; assumption 28). -/
def State.negotiate (s : State) (l : Nat) (o : PartnerOffer) : State :=
  if (s.link l).sweep.isSome || (s.ldsOf l).any (fun n => listed s.home.sweep n) then
    s.onLink l (fun k => { k with held := true, heldOffer := some o })
  else
    let c := s.ldConflict l
    let s := s.onLink l (fun k => { k with
      held := false, heldOffer := none, cxl := !c, bi := !c && o.bi, mld := !c && o.mld,
      flit := flitModeAt k.rate (!c) o.flit256 })
    if c then (s.raiseLink l 13 none 0).raiseLink l 4 none 0 else s.agentsBack (s.ldsOf l)

/-- Training of a link completes (R53, R54, R58, R60, R77). -/
def State.linkTrained (s : State) (l : Nat) (o : PartnerOffer) : State :=
  let m := s.settle l o
  let w := s.widthCap l o
  let s := s.onLink l (fun k => { k with
    st := .l0, rate := m.1, width := w, active := w, flit := m.2.1, cxl := false, bi := false,
    mld := false, ownReq := none, disabled := false, corr := 0, corrFrom := s.now, offer := o, lastUse := s.now,
    widthAt := s.now, txNext := 0, txAcked := 0,
    l0pOk := s.cfgBit (linkPage l 0) 0x80 7 && o.l0p && m.2.1 != .nonFlit,
    cfgReadyAt := if k.hot then s.now + ms 100 else k.cfgReadyAt, hot := false })
  let s := (s.tagsFit l).raiseLink l 0 none 0
  let s := s.when (s.ldConflict l) (fun s => s.raiseLink l 13 none 0)
  if m.2.2 then s.negotiate l o else s.raiseLink l 4 none 0

/-- A link can train: it exists, its group is enabled and powered, its group's loop runs locked from the group's REFCLK
pair (R50), PERST_N is released (R52), and its Chervil is
under no class F reaction, which took every link of it down (R490). -/
def State.canTrain (s : State) (l : Nat) : Bool :=
  s.present l && (s.link l).st == .down && s.grpEn (l / 4) && !(s.grp (l / 4)).perst && s.boot.aux &&
    s.boot.main && decide (9 ≤ s.boot.step) && !s.flt.quarantined.contains (linkPage l 63) &&
    (s.loop (36 + l / 4)).locked && !(s.loop (36 + l / 4)).coast && !s.flt.chipF.contains (4 + l / 8)

/-- The sweep of some agents ends: their entries are gone (R66). -/
def State.sweepDone (s : State) (l : List Nat) : State :=
  let s := s.sweepAgents l
  s.withHome { s.home with sweep := dropKeys l.contains s.home.sweep }

/-- The sweep of a link's agents ends; a held negotiation completes (R66, R67). -/
def State.linkSwept (s : State) (l : Nat) : State :=
  let s := (s.sweepDone (s.ldsOf l)).onLink l (fun k => { k with sweep := none })
  match (s.link l).held, (s.link l).heldOffer with
  | true, some o => s.negotiate l o
  | _, _ => s

/-! ### Resets of links and functions -/

/-- Clear the mailbox of a logical device: its command in progress with the register access that it waits for, its commands
that are held, and the image that it transfers (R77). -/
def State.clearMailbox (s : State) (n : Nat) : State :=
  let mine := s.mgmt.mb.any (fun j => j.1.val == n)
  let s := s.when mine (fun s =>
    let s := s.dropAccess [n]
    s.withBrg { s.brg with fwd := s.brg.fwd.filter (fun x => !x.m.any (hostOf [n])) })
  s.withMgmt { s.mgmt with
    mb := if mine then none else s.mgmt.mb,
    heldMsgs := s.mgmt.heldMsgs.filter (fun m => m.ld != some n),
    transfer := s.mgmt.transfer && decide (n ≠ s.mgmtLd) }

/-- Clear the configuration space, MSI-X and mailbox of a logical device's function (R77, R78). -/
def State.clearFunction (s : State) (n : Nat) : State :=
  (s.clearMailbox n).onLd n (fun d => { d with
    mps := 512, mrrs := 512, tagBits := 8, reads := [], nextTag := 0, msixOn := false, msixMask := 0,
    msixPend := 0, cfg := [], evtPolicy := 0, tsOffset := 0, flr := none })

/-- A reset of one link as a per-port reset does it (R77). -/
def State.resetPort (s : State) (l : Nat) : State :=
  let s := s.linkLost l 5
  let s := s.each (s.ldsOf l) (fun s n =>
    ((s.stopQueue n 5).clearFunction n).onLd n (fun d => { d with dec := [] }))
  s.onLink l (fun k => { k with aspm := false, disabled := false, hot := false })

/-- Every link of a group goes down (R51). -/
def State.groupLost (s : State) (g : Nat) : State :=
  s.each (upTo 4) (fun s k => s.linkLost (4 * g + k) 4)

/-- A per-port reset of a group: of its present links (R77). -/
def State.resetGroup (s : State) (g : Nat) : State :=
  s.each ((upTo 4).filter (fun k => s.present (4 * g + k))) (fun s k => s.resetPort (4 * g + k))

end Sys2Proof.Machine
end

