-- ==== Sys2Proof/Machine/Tiers.lean ====
section
/-! DEFINITION. The tier manager and the compression engines: the hotness epoch, the sweeper,
promotions, demotions, promote-domain commands and direct jobs (R214-R252, R275, R576). -/

namespace Sys2Proof.Machine

open Host (Outcome)

/-! ### Migrations -/

/-- The migration of a page. -/
def State.migOf (s : State) (p : Nat) : Option Migration := look? s.mem.mig p

/-- A slice's migration table has a free entry (R216). -/
def State.migFree (s : State) (hs : Nat) : Bool :=
  decide ((s.mem.mig.filter (fun e => homeOf e.1 == hs)).length < 16)

/-- A page whose extent is in a state in which migrations start (R244). In DRAIN a promotion starts that a write or atomic
waits for, which was queued before the drain (R115; assumption 137). -/
def State.mayMigrate (s : State) (p : Nat) (byWrite : Bool) : Bool :=
  let st := (s.ext (pgExt p)).st
  st == .offered || st == .granted || st == .recall || st == .pinned || (byWrite && st == .drain)

/-- Write a page's held atomics to memory (R155, R217). -/
def State.flushPageAtoms (s : State) (p : Nat) : State :=
  s.each ((s.atomLines (homeOf p)).filter (fun a => lnPage a.line == p)) (fun s a => s.flushAtom a.line)

/-- Take MLOCK: the page's entry in state 4 and its image in the migration table (R216, R239). -/
def State.lockPage (s : State) (p : Nat) (k : MigKind) (dset dloc : Nat) (byWrite : Bool) : State :=
  let e := s.entry p
  let s := (s.flushPageAtoms p).dropParcels p
  let s := s.withMem { s.mem with
    mig := enter { image := e, kind := k, dset := dset, dloc := dloc, byWrite := byWrite, at_ := s.now }
      s.mem.mig p }
  s.setEntry p (fun e => { e with st := .migrating, crc := 0, binsize := 0, plen := [] })

/-- Release MLOCK with a new entry; a loss of the leaf block or of a node that had to wait applies, and the requests that wait go on
(R217, R281). -/
def State.unlockPage (s : State) (p : Nat) (f : PageEntry → PageEntry) : State :=
  let lost := (s.migOf p).any (·.leafLost)
  let nodes := (s.migOf p).elim [] (·.nodesLost)
  let s := s.withMem { s.mem with mig := wipe s.mem.mig p }
  let s := (s.setEntry p f).each nodes (fun s n => s.nodeLost (homeOf p) n.1 n.2)
  (s.when lost (fun s => s.leafLost (homeOf p) (p / 32))).runPage p

/-- The leaf block of a migrating page is fetched before its source is read (R270, R274); whether it was lost, then or before
(R281). -/
def State.fetchLeaf (s : State) (p : Nat) : State × Bool :=
  let s := s.walk walkFuel (homeOf p) [.touch 1 (p / 32)]
  (s, (s.migOf p).any (·.leafLost))

/-- Count in TIER.CNTk (R250). -/
def State.tierCount (s : State) (k : Nat) : State :=
  s.withTier { s.tier with cnt := tick 0xFFFFFFFF s.tier.cnt k }

/-- Abandon a migration: the page is restored from its image with HEPOCH = CURRENT, and a demotion is counted (R225, R576).
TOUCH is as the entry now has it (R219). -/
def State.abandon (s : State) (p : Nat) : State :=
  match s.migOf p with
  | none => s
  | some m => ((s.when (m.kind == .demotion) (fun s => s.tierCount 2)).dropDest p m).unlockPage p (fun e =>
      { m.image with domain := e.domain, touch := e.touch, hepoch := s.tier.epoch })

/-- A migrating page becomes poisoned: source and destination are returned (R215). -/
def State.migPoisoned (s : State) (p : Nat) (m : Migration) : State :=
  let s := ((s.dropDest p m).giveBack p m.image)
  let s := s.withMem { s.mem with zeroFill := wipe s.mem.zeroFill p }
  s.unlockPage p (fun e => { e with
    st := .poisoned, set := 0, loc := 0, crc := 0, binsize := 0, plen := [] })

/-! ### Epochs and the sweeper -/

/-- A unit of Sorrel runs: the main rails are good and no device-scope reaction holds. -/
def State.sorrelUp (s : State) : Bool := s.boot.main && s.flt.dev == 0

/-- HOTNESS_EPOCH_ADVANCE (R218, R221). -/
def execHotnessEpochAdvance (s : State) : Outcome State Fault Refusal :=
  .next (s.when s.sorrelUp (fun s =>
    let s := s.reach (s.tier.epochAt + ms 10 * s.cfg tierPage 0x80 0 10)
    s.withTier { s.tier with epoch := s.tier.epoch + 1, epochAt := s.now, filter := [] }))

/-- Pages that a pass of the sweeper visits: those of every extent that is not FREE (R220). -/
def State.sweepSize (s : State) : Nat :=
  65536 * (s.amap.extents.filter (fun e => e.2.st != .free)).length

/-- The domain's TIER_EN and TIER.CFG.EN allow a page's demotion (R220, R224). -/
def State.demotable (s : State) (p : Nat) : Bool :=
  (s.dom (s.domOf p)).tierEn && s.cfgBit tierPage 0x80 31

/-- What a visit of the sweeper does to an entry (R220). -/
def State.visit (s : State) (p : Nat) : State :=
  let e := s.entry p
  let cur := s.tier.epoch
  let age := (cur - e.hepoch).toNat
  let limit := if s.amap.low then s.cfg tierPage 0x84 16 7 else s.cfg tierPage 0x80 10 7
  if e.st == .migrating then s
  else if e.touch then s.setEntry p (fun e => { e with hepoch := cur, touch := false })
  else if 128 ≤ age then s.setEntry p (fun e => { e with hepoch := cur - 128 })
  else if e.st == .near && s.demotable p && decide (limit ≤ age) && s.tier.domCmd != some e.domain &&
      !s.tier.demote.contains p then
    s.withTier { s.tier with demote := s.tier.demote ++ [p] }
  else s

/-- A pass of the sweeper begins: once every SWEEP epochs (R220). -/
def State.sweepBegin (s : State) : State :=
  let s := match s.tier.sweptAt with
    | none => s
    | some t => s.reach (t + ms 10 * s.cfg tierPage 0x80 0 10 * s.cfg tierPage 0x80 17 7)
  s.withTier { s.tier with sweptAt := some s.now }

/-- SWEEP_VISIT (R220): a pass visits each page once. An entry of an uninitialised chunk is not written yet, one of a slice
out of service is passed over. A page that the pass has visited is not visited again; the pass ends once it has visited every
page of every extent that is not FREE. -/
def execSweepVisit (page : BitVec 34) (s : State) : Outcome State Fault Refusal :=
  let p := page.toNat
  .next (s.when (s.sorrelUp && !s.onHold tierPage && s.inUse (pgExt p)) (fun s =>
    let s := s.when (!s.tier.swept.contains p) (fun s =>
      let s := s.when s.tier.swept.isEmpty State.sweepBegin
      let s := if listed s.mem.chunks (chunkOf p) && !s.sliceOut (homeOf p) then
          (s.walk walkFuel (homeOf p) [.touch 0 (p / 4)]).visit p else s
      s.withTier { s.tier with swept := p :: s.tier.swept })
    s.when (decide (s.sweepSize ≤ (s.tier.swept.filter (fun x => s.inUse (pgExt x))).length)) (fun s =>
      (s.withTier { s.tier with swept := [] }).raiseAt 540 tierPage 0)))

/-! ### Promotion -/

/-- Whether a page's promotion has been triggered, and whether by a write or atomic (R222). -/
def State.triggered (s : State) (p : Nat) : Option Bool :=
  (s.tier.promote.find? (fun t => t.1 == p)).map (fun t => t.2.contains .write)

/-- Remove a page's trigger. -/
def State.untrigger (s : State) (p : Nat) : State :=
  s.withTier { s.tier with promote := s.tier.promote.filter (fun t => t.1 != p) }

/-- A write for which no frame is permitted completes and stores nothing (R122). -/
def QReq.withoutFrame (q : QReq) : QReq :=
  { q with kind := match q.kind with
      | .write mv d _ => .write mv d true
      | .writePtl mv m d _ => .writePtl mv m d true
      | k => k }

/-- The writes at the heads of a page's queues complete without a frame (R122). -/
def State.endWrites (s : State) (p : Nat) : State :=
  let heads := (s.home.queue.filter (fun q => lnPage q.line == p && q.snoops.isEmpty &&
    (s.home.queue.find? (fun x => x.line == q.line)).map (·.id) == some q.id)).map (·.id)
  s.withHome { s.home with
    queue := s.home.queue.map (fun q => if heads.contains q.id then q.withoutFrame else q) }

/-- Without a permitted frame the page of a triggered write or atomic becomes poisoned and the writes
that wait complete (R122, R156); any other trigger leaves the page in its bin (R223). -/
def State.noFrame (s : State) (p : Nat) (byWrite : Bool) : State :=
  let s := s.untrigger p
  if byWrite then
    ((((s.poisonPage p false).setEntry p id).exhausted p).endWrites p).runPage p
  else s.tierCount 5

/-- PROMOTION_START (R216, R222, R223). -/
def execPromotionStart (page : BitVec 34) (s : State) : Outcome State Fault Refusal :=
  let p := page.toNat
  let e := s.entry p
  match s.triggered p with
  | none => .next s
  | some byWrite =>
    if e.st == .migrating then .next s
    else if !(e.st == .compressed || e.st == .rawInBin) then .next (s.untrigger p)
    else if !s.mayMigrate p byWrite || !s.migFree (homeOf p) || s.pageOut p then .next s
    else match s.takeFrame p true with
      | none => .next (s.noFrame p byWrite)
      | some (s, i, f) => .next ((s.untrigger p).lockPage p .promotion i f byWrite)

/-- The four parcels of a page in a bin, decoded (R223). -/
def State.readPage (s : State) (p : Nat) (e : PageEntry) : State × ParcelGot :=
  (upTo 4).foldl (fun (a : State × ParcelGot) q =>
    match a.2 with
    | .bytes d =>
      let r := a.1.readParcel p e q
      match r.2 with
      | .bytes x => (r.1, .bytes (d ++ x))
      | g => (r.1, g)
    | _ => a) (s, .bytes [])

/-- A promotion ends with its page near: the lines are written under MAJOR + 1 (R223, R275). -/
def State.promoted (s : State) (p : Nat) (m : Migration) (d : List Byte) : State :=
  let s := s.nextMajor p
  let s := s.each (upTo 64) (fun s j =>
    s.putMedia m.dset (4096 * m.dloc + 64 * j) (.line (lineOf (d.drop (64 * j))) (s.lineBind p j)))
  let s := (s.giveBack p m.image).tierCount 1
  s.unlockPage p (fun e => { e with
    st := .near, set := m.dset, loc := m.dloc, crc := 0, binsize := 0, plen := [], touch := true,
    hepoch := s.tier.epoch })

/-- PROMOTION_COMMIT (R215, R223, R238): not before the stalls of the channels it reads and writes end (R190, R308). -/
def execPromotionCommit (page : BitVec 34) (fault : BinFault) (s : State) : Outcome State Fault Refusal :=
  let p := page.toNat
  let hs := homeOf p
  match s.migOf p with
  | none => .next s
  | some m =>
    if m.kind ≠ .promotion ∨ s.migStill p m then .next s
    else
      let k := s.engineFor hs
      if s.engineDown k then .next (s.callEngine k) else
      let s := (((s.fetchLeaf p).1).count (engPage k) 0x11 4).engineUsed k
      match fault with
      | .uncorrectable =>
        let at_ := (s.set m.image.set).media (1024 * m.image.loc)
        .next (((s.eccUncorr at_.1 at_.2 p).fileP (chanPage at_.1 2) 2 0).migPoisoned p m)
      | .tagFail => .next (((s.tagFailed hs p).fileP (hsPage hs 4) 2 0).migPoisoned p m)
      | .none =>
        let r := s.readPage p m.image
        match r.2 with
        | .bytes d =>
          if crc32c d = m.image.crc then .next (r.1.promoted p m d)
          else .next (((r.1.raiseEng k 33 p 2).fileP (engPage k) 2 0).migPoisoned p m)
        | .malformed => .next (((r.1.raiseEng k 34 p 2).fileP (engPage k) 2 0).migPoisoned p m)
        | .badLine => .next (r.1.migPoisoned p m)
        | .notServed => .next r.1

/-! ### Demotion -/

/-- Drop queued demotions that a test picks. -/
def State.dropDemotions (s : State) (f : Nat → Bool) : State :=
  s.withTier { s.tier with demote := s.tier.demote.filter (fun p => !f p) }

/-- Time that the rate in force leaves from one page to the next: 4,096 original bytes each (R224). -/
def State.pageTime (s : State) : Nat :=
  ceilDiv 4096 (if s.amap.low then s.cfg tierPage 0x84 8 8 else s.cfg tierPage 0x84 0 8)

/-- A demotion or compaction move starts within the rate (R224). -/
def State.withinRate (s : State) : State :=
  let s := s.reach s.tier.rateAt
  s.withTier { s.tier with rateAt := s.now + s.pageTime }

/-- DEMOTION_START (R216, R224): a demotion whose enables have been cleared is dropped. -/
def execDemotionStart (page : BitVec 34) (s : State) : Outcome State Fault Refusal :=
  let p := page.toNat
  if !s.tier.demote.contains p then .next s
  else if !s.demotable p || (s.entry p).st != .near || !s.mayMigrate p false then
    .next (s.dropDemotions (· == p))
  else if s.onHold tierPage || !s.migFree (homeOf p) || s.sliceOut (homeOf p) then .next s
  else .next ((s.withinRate.dropDemotions (· == p)).lockPage p .demotion 0 0 false)

/-- A write or atomic to a page waits behind MLOCK (R225). -/
def State.writeWaits (s : State) (p : Nat) : Bool :=
  s.home.queue.any (fun q => lnPage q.line == p &&
    (match q.kind with
     | .write _ _ _ | .writePtl _ _ _ _ | .atomic _ _ _ _ _ => true
     | _ => false))

/-- The 64 lines of a near page, verified; none where one is uncorrectable, poisoned or not served
(R225). -/
def State.readFrame (s : State) (p : Nat) (e : PageEntry) : State × Option (List Byte) :=
  (upTo 64).foldl (fun (a : State × Option (List Byte)) j =>
    match a.2 with
    | none => a
    | some d =>
      let r := a.1.readNear p e.set e.loc j
      match r.2 with
      | .data x => (r.1, some (d ++ lineBytes x))
      | _ => (r.1, none)) (s, some [])

/-- Abandon a demotion, counted under its reason too (R225). -/
def State.demotionOff (s : State) (p : Nat) (cnt : Option Nat) : State :=
  let s := match cnt with
    | some k => s.tierCount k
    | none => s
  s.abandon p

/-- Write some bytes to a bin, its lines tagged under a MAJOR (R230, R262). -/
def State.writeBin (s : State) (p i loc cls major : Nat) (d : List Byte) : State :=
  s.each (upTo (16 * cls)) (fun s j =>
    s.putMedia i (1024 * loc + 64 * j)
      (.line (lineOf ((d.drop (64 * j)).take 64)) (s.binBind p j major)))

/-- The lines fetched for a direct job are dropped with it. -/
def State.dropJob (s : State) (k : Nat) : State :=
  s.withHome { s.home with fetched := s.home.fetched.filter (fun f => f.who != .job k) }

/-- An engine leaves service (R243): its direct job ends with status 6. -/
def State.engineStop (s : State) (k : Nat) : State :=
  let run := (s.eng k).job.isSome
  let s := s.onEng k (fun e => { e with
    avail := false, faultAt := some s.now, status := if run then 6 else e.status, job := none })
  let s := s.dropJob k
  s.when run (fun s => s.raiseEng k 36 0 0)

/-- An engine leaves service and its fault is filed as class S (R241, R243, R489). -/
def State.engineOut (s : State) (k : Nat) : State := (s.engineStop k).fileP (engPage k) 3 0

/-- A self-verify mismatch; before the first release of HRDY_N it is one of the bring-up vectors, and the engine stays out of
service (R241, R243). -/
def State.verifyFail (s : State) (k page : Nat) : State := ((s.raiseEng k 32 page 3).onEng k (fun e => { e with failed := !s.boot.released })).engineOut k

/-- An engine self-verifies a compression (R241). -/
def State.verifies (s : State) (k : Nat) : Bool :=
  s.cfgBit (engPage k) 0x80 0 || s.cfgBit (engPage k) 0x80 1 || decide (0 < (s.eng k).verifyLeft)

/-- An engine has compressed some pages: VERIFY_LEFT counts down (R251). -/
def State.compressed (s : State) (k pages : Nat) : State :=
  s.onEng k (fun e => { e with verifyLeft := e.verifyLeft - pages })

/-- No bin: BIN_SPACE_LOW at most once each epoch (R228). -/
def State.noBin (s : State) : State :=
  s.when (s.tier.binLow != some s.tier.epochAt) (fun s =>
    (s.withTier { s.tier with binLow := some s.tier.epochAt }).raiseAt 541 tierPage 0)

/-- A demotion with the page's bytes (R225, R275). -/
def State.demoteWith (s : State) (p k : Nat) (m : Migration) (d : List Byte) (mismatch : Bool) : State :=
  let zero := d.all (· == 0)
  let back := fun (s : State) =>
    let s := s.withMem { s.mem with zeroFill := wipe s.mem.zeroFill p }
    (s.giveBack p m.image).tierCount 0
  if s.cfgBit tierPage 0x80 29 && zero then
    if s.writeWaits p then s.demotionOff p none
    else ((back (s.nextMajor p)).tierCount 4).unlockPage p (fun e =>
      { e with st := .unbacked, set := 0, loc := 0, crc := 0, binsize := 0, plen := [] })
  else
    let s := (s.count (engPage k) 0x10 4).engineUsed k
    let bad := s.verifies k && mismatch
    let s := s.compressed k 1
    if bad then (s.demotionOff p none).verifyFail k p
    else
      let ps := pageParcels d
      let plen := ps.map plenOf
      let cls := ceilDiv (16 * plen.sum) 1024
      if 192 < plen.sum then s.demotionOff p (some 3)
      else match s.takeBin p (clusterOf (homeOf p)) cls [] with
        | none => (s.demotionOff p (some 6)).noBin
        | some (s, i, loc) =>
          let s := s.writeBin p i loc cls (s.majorOf p + 1) ((ps.map padded).flatten ++ zeroBytes 3072)
          if s.writeWaits p then (s.giveBin p i loc cls).demotionOff p none
          else
            let raw := ps.any parcelRaw
            (back (s.nextMajor p)).unlockPage p (fun e =>
              { e with
                st := if raw then .rawInBin else .compressed, set := i, loc := loc,
                crc := crc32c d, binsize := cls, plen := plen, touch := false })

/-- DEMOTION_COMMIT (R225, R241, R275): an engine that is out of service or in test mode abandons or
takes no demotion (R243, R251); a lost leaf block abandons it (R283). -/
def execDemotionCommit (page : BitVec 34) (e : Fin 16) (mismatch : Bool) (s : State) :
    Outcome State Fault Refusal :=
  let p := page.toNat
  match s.migOf p with
  | none => .next s
  | some m =>
    if m.kind ≠ .demotion ∨ s.migStill p m then .next s
    else if !(s.eng e.val).avail then .next (s.demotionOff p none)
    else if s.engineIdle e.val then .next s
    else if s.engineDown e.val then .next (s.callEngine e.val)
    else
      let l := s.fetchLeaf p
      let r := l.1.readFrame p m.image
      match r.2 with
      | none => .next (r.1.demotionOff p none)
      | some d => .next (if l.2 then l.1.demotionOff p none else r.1.demoteWith p e.val m d mismatch)

/-! ### Promote-domain commands -/

/-- Window offset of TIER.CMD. -/
def tierCmd : Nat := tierPage * 4096 + 0x8C

/-- Start a promote-domain command: queued demotions of the domain are dropped, every page of it in a
bin or in state 4 is triggered (R222, R244, R250). -/
def State.promoteDomain (s : State) (d : Nat) : State :=
  if s.tier.domCmd.isSome || !(s.dom d).valid then s.withTier { s.tier with cmdResult := 2 }
  else
    let s := s.withTier { s.tier with domCmd := some d, cmdResult := 0 }
    let s := s.dropDemotions (fun p => s.domOf p == d)
    s.each ((s.mem.pages.map (·.1)).filter (fun p => s.domOf p == d)) (fun s p => s.trigger p .command)

/-- TIER_PROMOTE_DOMAIN (R222, R250). -/
def execTierPromoteDomain (m : Master) (domain : BitVec 12) (s : State) : Outcome State Fault Refusal :=
  .next (s.gate m tierCmd (s.rmw tierCmd [(0, 12, domain.toNat), (12, 2, 1)])
    (fun s => s.promoteDomain domain.toNat))

/-- Cancel the promote-domain command: its promotions not started are dropped, but for pages that have a trigger of their own
(R222, R250). -/
def State.cancelDomain (s : State) : State :=
  match s.tier.domCmd with
  | none => s.withTier { s.tier with cmdResult := 2 }
  | some d =>
    (s.withTier { s.tier with
      domCmd := none, cmdResult := 1,
      promote := s.tier.promote.filterMap (fun t =>
        let l := t.2.filter (· != .command)
        if s.domOf t.1 != d then some t else if l = [] then none else some (t.1, l)) }).raiseAt 542 tierPage d

/-- TIER_CANCEL (R250). -/
def execTierCancel (m : Master) (s : State) : Outcome State Fault Refusal :=
  .next (s.gate m tierCmd (s.rmw tierCmd [(12, 2, 2)]) State.cancelDomain)

/-- PROMOTE_DOMAIN_END (R247, R250): when none of its promotions is left. -/
def execPromoteDomainEnd (s : State) : Outcome State Fault Refusal :=
  match s.tier.domCmd with
  | none => .next s
  | some d =>
    let bin := fun (e : PageEntry) => e.st == .compressed || e.st == .rawInBin || e.st == .migrating
    let left := s.tier.promote.any (fun t => s.domOf t.1 == d && bin (s.entry t.1)) ||
      s.mem.mig.any (fun e => e.2.kind == .promotion && s.domOf e.1 == d)
    .next (s.when (!left) (fun s =>
      (s.withTier { s.tier with domCmd := none, cmdResult := 0 }).raiseAt 542 tierPage d))

/-! ### Direct jobs -/

/-- A direct job's registers (R252). -/
def State.jobAddr (s : State) (k x : Nat) : Nat :=
  s.cfg (engPage k) x 0 32 + s.cfg (engPage k) (x + 4) 0 14 * 2 ^ 32

/-- End a direct job with a status (R242). -/
def State.jobDone (s : State) (k status : Nat) : State :=
  let s := s.dropJob k
  let s := s.when (k % 2 == 1) (fun s => s.used (177 + 3 * (k / 2)))
  (s.onEng k (fun e => { e with job := none, status := status })).raiseEng k 36 0 0

/-- Start a direct job (R242, R251): a GO while one runs is ignored; on an engine out of service the
job ends with the status of an engine fault. -/
def State.startJob (s : State) (k op : Nat) (resume : Bool) : State :=
  if (s.eng k).job.isSome || op == 0 then s
  else
    let s := (s.dropJob k).onEng k (fun e => { e with
      cons := if resume then e.cons else 0, prod := 0, job := some { op := op, cancel := false }, status := 0 })
    let s := s.when (!resume) (fun s => s.setReg (engPage k) 0xA8 0)
    if (s.eng k).avail && !s.onHold (engPage k) then s else s.jobDone k 6

/-- Window offset of CMPE.JCTL. -/
def jctl (k : Nat) : Nat := engPage k * 4096 + 0x84

/-- JOB_GO (R242, R251). -/
def execJobGo (m : Master) (e : Fin 16) (op : BitVec 2) (resume : Bool) (s : State) :
    Outcome State Fault Refusal :=
  let off := jctl e.val
  .next (s.gate m off (s.rmw off [(0, 2, op.toNat), (2, 1, 1), (3, 1, b2n resume)])
    (fun s => s.startJob e.val op.toNat resume))

/-- CANCEL asks a job to stop at the next parcel boundary (R251). -/
def State.cancelJob (s : State) (k : Nat) : State :=
  s.onEng k (fun e => { e with job := e.job.map (fun j => { j with cancel := true }) })

/-- JOB_CANCEL (R251). -/
def execJobCancel (m : Master) (e : Fin 16) (s : State) : Outcome State Fault Refusal :=
  let off := jctl e.val
  .next (s.gate m off (s.rmw off [(4, 1, 1)]) (fun s => s.cancelJob e.val))

/-- A direct job may reach a line (R242). -/
def State.jobMay (s : State) (line : Nat) : Bool :=
  let st := (s.ext (pgExt (lnPage line))).st
  decide (line < 2 ^ 40) && (st == .granted || st == .recall || st == .pinned)

/-- The lines of a byte range. -/
def spanLines (a n : Nat) : List Nat :=
  if n = 0 then [] else (upTo ((a + n - 1) / 64 - a / 64 + 1)).map (fun k => a / 64 + k)

/-- What a job has of a line. -/
def State.jobLine (s : State) (k line : Nat) : Option (Option Line) :=
  (s.home.fetched.find? (fun f => f.who == .job k && f.line == line)).map (·.data)

/-- Write output bytes to the device memory of a job. -/
def State.jobPut (s : State) (k a : Nat) (d : List Byte) : State :=
  s.each (spanLines a d.length) (fun s ln =>
    let lo := max a (64 * ln)
    let n := min (a + d.length) (64 * ln + 64) - lo
    let v : Line := BitVec.ofNat 512 (ofBytes ((d.drop (lo - a)).take n) <<< (8 * (lo % 64)))
    if n = 64 then s.enlist ln (.job k) (.write .none v false) 1 false false
    else s.enlist ln (.job k)
      (.writePtl .none (BitVec.ofNat 64 ((2 ^ n - 1) <<< (lo % 64))) v false) 1 false false)

/-- Place whole outputs from an address on while they fit and their lines are permitted: how many, their bytes, and the
status that stops the job: output full, or a line not permitted (R242). -/
def fitWhole (may : Nat → Bool) : List (List Byte) → Nat → Nat → Nat × List Byte × Option Nat
  | [], _, _ => (0, [], none)
  | x :: xs, a, room =>
    if room < x.length then (0, [], some 1)
    else if !(spanLines a x.length).all may then (0, [], some 4)
    else
      let r := fitWhole may xs (a + x.length) (room - x.length)
      (r.1 + 1, x ++ r.2.1, r.2.2)

/-- The parcels at the front of some bytes: what each decodes to and how many bytes it takes. Every
parcel but the last holds 1,024 bytes; the last may hold fewer (R235). Also whether all of it is well
formed. Where the bytes are `cut` short, a parcel that does not end within them is left out. -/
def decodeAll : Nat → Bool → List Byte → List (List Byte × Nat) × Bool
  | 0, _, _ => ([], true)
  | f + 1, cut, d =>
    if d = [] then ([], true)
    else if cut && (decide (d.length < 2) || decide (d.length < parcelSize d)) then ([], true)
    else
      let n := parcelSize d
      let lastOne := !cut && decide (d.length ≤ n)
      let lens := if lastOne then (upTo 1024).reverse.map (· + 1) else [1024]
      match lens.findSome? (parcel (d.take n)) with
      | none => ([], false)
      | some o =>
        let r := decodeAll f cut (d.drop n)
        ((o, n) :: r.1, r.2)

/-- Advance a job's counts and CRC (R242). -/
def State.jobTook (s : State) (k cons prod : Nat) (orig : List Byte) : State :=
  let crc := crcMore (BitVec.ofNat 32 (s.cfg (engPage k) 0xA8 0 32)) orig
  (s.onEng k (fun e => { e with cons := e.cons + cons, prod := e.prod + prod })).setReg (engPage k) 0xA8 crc

/-- The work of a direct job on its input bytes: all of them, or where they are `cut` short those before the first source
line that ends the job, of which whole parcels are done (R242; assumption 138). -/
def State.runJob (s : State) (k op : Nat) (d : List Byte) (cut mismatch : Bool) : State :=
  let dst := s.jobAddr k 0x90
  let room := s.cfg (engPage k) 0x9C 0 32
  let tail := if cut then 4 else 0
  if op = 1 then
    let d := if cut then d.take (d.length / 1024 * 1024) else d
    let ins := pieces (d.length + 1) d
    let r := fitWhole s.jobMay (ins.map encode) dst room
    let bad := s.verifies k && mismatch
    let s := s.compressed k (ceilDiv d.length 4096)
    if bad then (s.jobDone k 3).verifyFail k 0
    else
      let used := (ins.take r.1).flatten
      let s := (s.count (engPage k) 0x10 r.1).jobPut k dst r.2.1
      (s.jobTook k used.length r.2.1.length used).jobDone k (r.2.2.getD tail)
  else if op = 2 then
    let all := decodeAll (d.length + 1) cut d
    let r := fitWhole s.jobMay (all.1.map (·.1)) dst room
    let s := (s.count (engPage k) 0x11 r.1).jobPut k dst r.2.1
    let s := s.jobTook k ((all.1.take r.1).map (·.2)).sum r.2.1.length r.2.1
    s.jobDone k (r.2.2.getD (if all.2 then tail else 2))
  else (s.jobTook k d.length 0 d).jobDone k tail

/-- JOB_END (R242, R251): the input is read through the home slices, and the job waits while a line of it
is on its way. -/
def execJobEnd (e : Fin 16) (mismatch : Bool) (s : State) : Outcome State Fault Refusal :=
  let k := e.val
  match (s.eng k).job with
  | none => .next s
  | some j =>
    if j.cancel then .next (s.jobDone k 5)
    else
      let a := s.jobAddr k 0x88 + (s.eng k).cons
      let n := s.cfg (engPage k) 0x98 0 32 - (s.eng k).cons
      let ls := spanLines a n
      let may := ls.takeWhile s.jobMay
      let s := s.each may (fun s ln =>
        if (s.jobLine k ln).isSome || s.home.queue.any (fun r => r.who == .job k && r.line == ln) ||
            s.home.retried.any (fun r => r.req.who == .job k && r.req.line == ln) then s
        else s.enlist ln (.job k) (.read .none) 0 false false)
      if !may.all (fun ln => (s.jobLine k ln).isSome) then .next s
      else
        let good := may.takeWhile (fun ln => s.jobLine k ln != some none)
        let all := (good.map (fun ln => match s.jobLine k ln with
          | some (some v) => lineBytes v
          | _ => [])).flatten
        .next (s.runJob k j.op ((all.drop (a % 64)).take n) (decide (good.length < ls.length)) mismatch)

/-- ENGINE_FAULT (R241, R243). -/
def execEngineFault (e : Fin 16) (verify : Bool) (s : State) : Outcome State Fault Refusal :=
  .next (s.when (s.eng e.val).avail (fun s =>
    if verify then s.verifyFail e.val 0 else s.engineOut e.val))

/-- ENGINE_RECOVERED (R243). -/
def execEngineRecovered (e : Fin 16) (s : State) : Outcome State Fault Refusal :=
  .next (s.when ((s.eng e.val).faultAt.isSome && !(s.eng e.val).failed) (fun s =>
    (s.onEng e.val (fun e => { e with avail := true, faultAt := none, verifyLeft := 16 })).raiseEng e.val 35 0 0))

end Sys2Proof.Machine
end

