-- ==== Sys2Proof/Machine/Capacity.lean ====
section
/-! DEFINITION. The address map's tables and the capacity commands: entry images, their checks and commit,
grants, offers, recalls, releases, drains and erases, key epochs, and the landing apertures (R96, R97,
R105-R131, R173, R258, R259, R269, R276, R575). -/

namespace Sys2Proof.Machine

open Host (Outcome)

/-! ### Entry images -/

/-- TDATA word k (R129). -/
def State.tdata (s : State) (k : Nat) : Nat := s.cfg amapPage (0xA0 + 4 * k) 0 32

/-- Set TDATA word k. -/
def State.setTdata (s : State) (k v : Nat) : State := s.setReg amapPage (0xA0 + 4 * k) (BitVec.ofNat 32 v)

/-- The image of a set entry (R96). -/
def SetEntry.image (e : SetEntry) : List Nat :=
  [e.ways + 8 * e.grain + 64 * b2n e.xor + 128 * b2n e.mirror + 256 * b2n e.valid + 512 * b2n e.near +
    1024 * b2n e.bin,
   e.member.toNat % 2 ^ 32, e.member.toNat / 2 ^ 32, e.base, e.len, 0, 0, 0]

/-- The set entry of an image (R96). -/
def setOfImage (w : List Nat) : SetEntry :=
  let a := w.getD 0 0
  { ways := bits a 0 3, grain := bits a 3 3, xor := bitOf a 6, mirror := bitOf a 7, valid := bitOf a 8,
    near := bitOf a 9, bin := bitOf a 10, member := BitVec.ofNat 64 (w.getD 1 0 + 2 ^ 32 * w.getD 2 0),
    base := w.getD 3 0, len := w.getD 4 0 }

/-- The image of a domain entry (R105). -/
def DomainEntry.image (d : DomainEntry) : List Nat :=
  [b2n d.valid + 2 * b2n d.coh + 4 * b2n d.mirror + 8 * b2n d.tierEn + 16 * d.ovc, d.epoch.toNat,
   d.nearSets.toNat + 2 ^ 16 * d.binSets.toNat, d.backedQ / 4, d.rsv, d.extents, 0, 0]

/-- A domain entry with the RW fields of an image (R105). -/
def DomainEntry.takes (d : DomainEntry) (w : List Nat) : DomainEntry :=
  let a := w.getD 0 0
  { d with valid := bitOf a 0, coh := bitOf a 1, mirror := bitOf a 2, tierEn := bitOf a 3, ovc := bits a 4 5,
           nearSets := BitVec.ofNat 16 (w.getD 2 0), binSets := BitVec.ofNat 16 (w.getD 2 0 / 2 ^ 16) }

/-- STATE of an extent entry (R110). -/
def ExtState.code : ExtState → Nat
  | .free => 0
  | .offered => 1
  | .granted => 2
  | .recall => 3
  | .drain => 4
  | .erase => 5
  | .pinned => 6

/-- The image of an extent entry (R110). -/
def ExtentEntry.image (x : ExtentEntry) : List Nat :=
  [x.st.code + 8 * b2n x.shared + 16 * x.owner + 2 ^ 16 * x.domain + 2 ^ 28 * x.metaSet, x.gen.toNat,
   x.ldmask.toNat % 2 ^ 32, x.ldmask.toNat / 2 ^ 32, x.metaFrame, x.rsv, x.backedQ / 4, 0]

/-- The region entry of an image (R109). -/
def regionOfImage (w : List Nat) : RegionEntry := { base := bits (w.getD 0 0) 0 18, count := bits (w.getD 1 0) 0 19 }

/-- How many entries a table has (R96, R105, R109, R110). -/
def tableSize (t : Nat) : Nat := if t = 0 then 16 else if t = 1 then 4096 else if t = 2 then 262144 else 512

/-- The image of an entry of a table (R128). -/
def State.imageOf (s : State) (t i : Nat) : List Nat :=
  if t = 0 then (s.set i).image
  else if t = 1 then (s.dom i).image
  else if t = 2 then (s.ext i).image
  else [(s.region i).base, (s.region i).count, 0, 0, 0, 0, 0, 0]

/-! ### Checks of an image -/

/-- The channels that a set takes a range of: its members and, mirrored, their partners (R96). -/
def SetEntry.takesOf (e : SetEntry) : List Nat :=
  e.members ++ (if e.mirror then e.members.map (fun c => c ^^^ 1) else [])

/-- Two ranges overlap. -/
def overlaps (a n b m : Nat) : Bool := decide (0 < n) && decide (0 < m) && decide (a < b + m) && decide (b < a + n)

/-- RESULT of a set entry's image (R97, R128, R173): 0 accepted. -/
def State.checkSet (s : State) (i : Nat) (e : SetEntry) : Nat :=
  let bad := decide (4 < e.ways) || decide (4 < e.grain) || decide (e.members.eraseDups.length ≠ e.members.length) ||
    (e.mirror && e.members.any (fun c => c % 2 == 1)) ||
    e.members.any (fun c => decide ((s.chan c).usable < e.base + e.len)) ||
    (upTo 16).any (fun k => k != i && (s.set k).valid && overlaps e.base e.len (s.set k).base (s.set k).len &&
      e.takesOf.any (fun c => (s.set k).takesOf.contains c))
  if bad then 5 else if s.setHolds i && e != s.set i then 2 else 0

/-- RESULT of a domain entry's image (R105, R106, R128). -/
def State.checkDom (s : State) (i : Nat) (w : List Nat) : Nat :=
  let d := s.dom i
  let n := d.takes w
  let bad := decide (n.ovc < 8) || decide (24 < n.ovc) || (upTo 16).any (fun k =>
    (n.nearSets.getLsbD k || n.binSets.getLsbD k) && (s.set k).mirror != n.mirror)
  if bad then 5
  else if d.extents ≠ 0 ∧ (n.coh ≠ d.coh ∨ n.mirror ≠ d.mirror ∨ n.ovc ≠ d.ovc ∨ (d.valid ∧ !n.valid)) then 2 else 0

/-- RESULT of a region entry's image (R109, R128). -/
def State.checkRegion (s : State) (i : Nat) (r : RegionEntry) : Nat :=
  if 262144 < r.base + r.count ∨ (upTo 8).any (fun k =>
      8 * (i / 8) + k != i &&
        overlaps r.base r.count (s.region (8 * (i / 8) + k)).base (s.region (8 * (i / 8) + k)).count) then 5 else 0

/-- RESULT of an image for an entry against the tables as they stand (R128). -/
def State.checkEntry (s : State) (t i : Nat) (w : List Nat) : Nat :=
  if t = 2 ∨ tableSize t ≤ i then 5
  else if t = 0 then s.checkSet i (setOfImage w)
  else if t = 1 then s.checkDom i w
  else s.checkRegion i (regionOfImage w)

/-! ### Key epochs -/

/-- Advance a domain's key epoch; from 0xFFFF the salt is drawn anew and EPOCH_RESEED raised. The new key goes to all four
Lovage (R108, R258, R259). -/
def State.advanceEpoch (s : State) (d : Nat) : State :=
  if (s.dom d).epoch = 0xFFFF then
    let s := s.onDom d (fun e => { e with epoch := 0 })
    let s := s.withMem { s.mem with
      reseeds := satAdd 0xFFFF s.mem.reseeds 1, salts := enter (Config.saltDraw s.free d) s.mem.salts d }
    (s.takeFree.loadKeys d).raiseAt 544 keysPage d
  else (s.onDom d (fun e => { e with epoch := e.epoch + 1 })).loadKeys d

/-! ### The commit -/

/-- Mirrored pairs follow the committed sets: a pair of a valid mirrored set starts in SYNC, a pair of none is
off (R199). -/
def State.mirrorSync (s : State) : State :=
  s.each ((upTo 8).map (2 * ·)) (fun s c =>
    let on := (upTo 16).any (fun i => (s.set i).valid && (s.set i).mirror && (s.set i).members.contains c)
    if on then s.when ((s.chan c).mir == .off) (fun s => s.onChan c (fun ch => { ch with mir := .sync }))
    else s.onChan c (fun ch => { ch with mir := .off }))

/-- Apply an entry (R106, R108, R128). -/
def State.applyEntry (s : State) (t i : Nat) (w : List Nat) : State :=
  if t = 0 then (s.onSet i (fun _ => setOfImage w)).mirrorSync
  else if t = 1 then
    let was := (s.dom i).valid
    let s := s.onDom i (fun d => d.takes w)
    let s := s.when (!(s.dom i).tierEn) (fun s => s.dropDemotions (fun p => s.domOf p == i))
    s.when (was && !(s.dom i).valid) (fun s => s.advanceEpoch i)
  else s.onRegion i (fun _ => regionOfImage w)

/-- The commit of the address map's page: the entries that its GO took are checked again in the order staged;
one that is now refused is dropped with ENTRY_DROPPED (R128). -/
def State.commitEntries (s : State) : State :=
  let l := s.amap.staged.filter (·.going)
  let s := s.withAmap { s.amap with staged := s.amap.staged.filter (fun e => !e.going) }
  let s := s.each l (fun s e =>
    let w := e.img.map BitVec.toNat
    let r := s.checkEntry e.table e.index w
    if r = 0 then s.applyEntry e.table e.index w
    else s.raise { src := 538, site := siteOfPage amapPage, subject := e.index, detail := [e.table], code := r })
  s.knowTotal.levels 0

/-- Stage an image (R128): a later one for the same entry replaces an earlier one. -/
def State.stageEntry (s : State) (t i : Nat) : State :=
  let w := (upTo 8).map s.tdata
  let r := s.checkEntry t i w
  if r = 0 then
    s.withAmap { s.amap with
      result := 0,
      staged := s.amap.staged.filter (fun e => !(e.table == t && e.index == i && !e.going)) ++
        [{ table := t, index := i, img := w.map (BitVec.ofNat 32), going := false }] }
  else s.withAmap { s.amap with result := r }

/-! ### Extents: holders, drains and erases -/

/-- The 16-byte Tag of an extent: GEN in bytes 0-1, the extent index in bytes 2-4, the pool node ID in bytes 5-6
(R112). -/
def State.extTag (s : State) (e : Nat) : BitVec 128 :=
  BitVec.ofNat 128 ((s.ext e).gen.toNat + e * 2 ^ 16 + s.cfg (poolPage 0) 0x80 0 16 * 2 ^ 40)

/-- Send a dynamic-capacity event to each holder of an extent (R113). -/
def State.toHolders (s : State) (e kind : Nat) : State :=
  s.each (s.ext e).holders (fun s n => s.emit (.dcEvent n kind e (s.extTag e)))

/-- An extent event of the address map (R131). -/
def State.extEvent (s : State) (src e : Nat) (ld : Option Nat) : State :=
  s.raise { src := src, site := siteOfPage amapPage, subject := e, ld := ld }

/-- An extent's holders as a command's mask gives them (R128); with no holder SHARED is 1 and LDMASK 0 (assumption
124). -/
def ExtentEntry.setHolders (x : ExtentEntry) (m : Nat) : ExtentEntry :=
  let one := popCount m 64 == 1
  { x with shared := !one, owner := if one then ((upTo 64).find? (bitOf m)).getD 0 else 0,
           ldmask := if one then 0 else BitVec.ofNat 64 m }

/-- Change an extent's state (R113). -/
def State.extTo (s : State) (e : Nat) (st : ExtState) : State :=
  s.onExt e (fun x => { x with st := st, since := s.now, accept := 0, rejected := 0 })

/-- Nodes of levels 3 to 5 that cover an extent: level and index (R264, R269). -/
def spine (e : Nat) : List (Nat × Nat) := [(3, e / 2), (4, e / 128), (5, e / 8192)]

/-- How many extents a node of a level covers. -/
def covers (lvl : Nat) : Nat := if lvl = 3 then 2 else if lvl = 4 then 128 else 8192

/-- Every spine node above an extent without a holder is created in the extent's slots (R266, R269). -/
def State.takeSpine (s : State) (e : Nat) : State :=
  s.each (spine e) (fun s n =>
    let k := n.1 * 2 ^ 40 + n.2
    if listed s.mem.holder k then s
    else
      let s := s.withMem { s.mem with
        holder := enter (e, s.now) s.mem.holder k,
        blocks := (upTo 32).foldl (fun t hs => wipe t (blockKey hs n.1 n.2)) s.mem.blocks,
        copies := dropKeys (fun b => b / 64 == (n.1 * 2 ^ 40 + n.2 * 32) / 32) s.mem.copies }
      s.when (n.1 == 5) (fun s => s.withMem { s.mem with
        root := (upTo 32).foldl (fun t hs => wipe t (32 * hs + n.2)) s.mem.root }))

/-- A node is discarded: its cached and stored copies go (R269). -/
def State.dropNode (s : State) (lvl i : Nat) : State :=
  let s := s.withMem { s.mem with
    mcache := (s.mem.mcache.map (fun e => (e.1, e.2.filter (fun m => m.key != mcKey lvl i)))).filter (fun e => e.2 != []) }
  let keys := (upTo 32).map (fun hs => blockKey hs lvl i)
  s.withMem { s.mem with
    holder := wipe s.mem.holder (lvl * 2 ^ 40 + i),
    blocks := keys.foldl wipe s.mem.blocks,
    copies := dropKeys (fun b => keys.contains (b / 2)) s.mem.copies,
    badCopy := s.mem.badCopy.filter (fun b => !keys.contains (b / 2)),
    retag := (s.mem.retag.map (fun e => (e.1, e.2.filter (fun r => !keys.contains r.key)))).filter (fun e => e.2 != []) }

/-- The cached copies of a spine node leave the metadata caches: dirty ones are written back, since the node's
place in memory changes with its holder. -/
def State.unloadNode (s : State) (lvl i : Nat) : State :=
  s.each (upTo 32) (fun s hs =>
    let k := s.mcSet hs lvl i
    match (s.mcLines k).find? (fun m => m.key == mcKey lvl i) with
    | none => s
    | some m =>
      let s := s.when m.dirty (fun s => s.cleanLine hs m)
      s.setMc k ((s.mcLines k).filter (fun x => x.key != mcKey lvl i)))

/-- A holder that enters ERASE hands its nodes to the lowest other extent under each that is neither FREE nor
in ERASE, or they are discarded (R269). -/
def State.leaveSpine (s : State) (e : Nat) : State :=
  s.each (spine e).reverse (fun s n =>
    match look? s.mem.holder (n.1 * 2 ^ 40 + n.2) with
    | none => s
    | some h =>
      if h.1 ≠ e then s
      else
        let others := (s.amap.extents.filter (fun x =>
          x.1 != e && x.1 / covers n.1 == n.2 && x.2.st != .free && x.2.st != .erase)).map (·.1)
        match others with
        | [] => s.dropNode n.1 n.2
        | o :: _ =>
          let s := s.unloadNode n.1 n.2
          s.withMem { s.mem with holder := enter (o, h.2) s.mem.holder (n.1 * 2 ^ 40 + n.2) })

/-- Enter DRAIN (R113, R115, R244): demotions of the extent's pages are abandoned and none starts, no promotion that
no write or atomic waits for starts; every host
copy of a device-coherent line is back-invalidated, behind the requests already queued. -/
def State.toDrain (s : State) (e : Nat) : State :=
  let s := s.extTo e .drain
  let s := s.dropDemotions (fun p => pgExt p == e)
  let s := s.withTier { s.tier with
    promote := s.tier.promote.filter (fun t => pgExt t.1 != e || t.2.contains .write),
    compact := s.tier.compact.filter (fun p => pgExt p != e) }
  let s := s.each ((s.mem.mig.filter (fun m => pgExt m.1 == e && m.2.kind == .demotion)).map (·.1)) (fun s p => s.abandon p)
  let lines := ((s.home.sf.map (·.2)).flatten.filter (fun x => pgExt (lnPage x.line) == e)).map (·.line)
  let s := s.each lines (fun s n =>
    let q := s.ownReq n .flush .internal
    s.withHome { s.home with queue := s.home.queue ++ [q], nextId := s.home.nextId + 1 })
  s.runOn lines

/-- Enter ERASE. -/
def State.toErase (s : State) (e : Nat) : State := (s.extTo e .erase).leaveSpine e

/-- Nothing of an extent is in progress: no request, no snoop filter entry of a device-coherent domain, no
migration (R115, R244). -/
def State.extIdle (s : State) (e : Nat) : Bool :=
  !s.home.queue.any (fun q => pgExt (lnPage q.line) == e) &&
  !s.home.retried.any (fun r => pgExt (lnPage r.req.line) == e) &&
  !s.home.sf.any (fun k => k.2.any (fun x => pgExt (lnPage x.line) == e)) &&
  !s.mem.mig.any (fun m => pgExt m.1 == e)

/-- EXTENT_DRAIN_END (R113, R115). -/
def execExtentDrainEnd (ext : BitVec 18) (s : State) : Outcome State Fault Refusal :=
  let e := ext.toNat
  .next (s.when ((s.ext e).st == .drain && s.extIdle e) (fun s => s.toErase e))

/-- Return the frames and bins of an extent's pages: to the free pool, or to the overwrite queue where the
erase ends in a reseed (R113, R259). -/
def State.returnPages (s : State) (e : Nat) (reseed : Bool) : State :=
  s.each (s.mem.pages.filter (fun p => pgExt p.1 == e)) (fun s p =>
    let en := s.entry p.1
    let q := match en.st with
      | .near => 4
      | .compressed => en.binsize
      | .rawInBin => en.binsize
      | _ => 0
    if q = 0 then s
    else if reseed then
      let s := s.account e 0 q
      s.withMem { s.mem with
        overwrite := s.mem.overwrite ++ [{
          domain := (s.ext e).domain, set := en.set, loc := if q = 4 then 4 * en.loc else en.loc, kib := q }] }
    else s.giveBack p.1 en)

/-- What the tables of the block hold of an extent's pages goes (R113, R266, R276). -/
def State.forgetPages (s : State) (e : Nat) : State :=
  let own := fun (lvl i : Nat) => (lvl == 0 && i / 16384 == e) || (lvl == 1 && i / 2048 == e) || (lvl == 2 && i / 32 == e)
  let cache := (s.mem.mcache.map (fun k =>
    (k.1, k.2.filter (fun m => !own (m.key / 2 ^ 40) (m.key % 2 ^ 40))))).filter (fun k => k.2 != [])
  let mine := fun (k : Nat) =>
    k / 2 ^ 40 != 0 && own (k / 2 ^ 40) (k % 2 ^ 40 / 32)
  let s := s.withMem { s.mem with
    mcache := cache,
    pages := dropKeys (fun p => pgExt p == e) s.mem.pages,
    zeroFill := dropKeys (fun p => pgExt p == e) s.mem.zeroFill,
    chunks := dropKeys (fun c => c / 16 == e) s.mem.chunks,
    blocks := dropKeys mine s.mem.blocks,
    badCopy := s.mem.badCopy.filter (fun b => !mine (b / 2)),
    copies := dropKeys (fun b => mine (b / 2)) s.mem.copies,
    mapTags := dropKeys (fun n => n / 16384 == e) s.mem.mapTags,
    badMap := s.mem.badMap.filter (fun n => n / 16384 != e),
    retag := (s.mem.retag.map (fun k => (k.1, k.2.filter (fun r => !mine r.key)))).filter (fun k => k.2 != []) }
  let s := s.withHome { s.home with
    atoms := (s.home.atoms.map (fun k => (k.1, k.2.filter (fun a => pgExt (lnPage a.line) != e)))).filter
      (fun k => k.2 != []) }
  s.withTier { s.tier with
    parcels := (s.tier.parcels.map (fun k => (k.1, k.2.filter (fun n => pgExt (n.1 / 4) != e)))).filter (fun k => k.2 != []),
    swept := s.tier.swept.filter (fun p => pgExt p != e),
    promote := s.tier.promote.filter (fun t => pgExt t.1 != e),
    filter := (s.tier.filter.map (fun k => (k.1, k.2.filter (fun n => pgExt n.1 != e)))).filter (fun k => k.2 != []) }

/-- EXTENT_ERASE_END (R108, R113, R259): frames, bins, reservation and metadata block are returned, the chunks
are reset and the entry is FREE; after a domain's last extent its epoch advances. -/
def execExtentEraseEnd (ext : BitVec 18) (s : State) : Outcome State Fault Refusal :=
  let e := ext.toNat
  let x := s.ext e
  if x.st ≠ .erase then .next s
  else
    let last := (s.dom x.domain).extents == 1
    let reseed := last && (s.dom x.domain).epoch == 0xFFFF
    let s := (s.returnPages e reseed).forgetPages e
    let s := s.freeRunOf x.metaSet x.metaFrame metaFrames
    let s := s.onDom x.domain (fun d => { d with rsv := d.rsv - x.rsv, extents := d.extents - 1 })
    let free : ExtentEntry := { gen := x.gen, since := s.now }
    let s := s.onExt e (fun _ => free)
    let s := s.when last (fun s => s.advanceEpoch x.domain)
    .next ((s.extEvent 532 e none).levels x.domain)

/-! ### Capacity commands -/

/-- A command's holder mask, domain and GEN (R128). -/
def State.cmdMask (s : State) : Nat := s.tdata 0 + 2 ^ 32 * s.tdata 1

/-- Every holder of a mask has a region that contains the extent; a mask names at least one (R109, R113). -/
def State.holdersOk (s : State) (m e : Nat) : Bool :=
  m != 0 && (upTo 64).all (fun n => !bitOf m n || s.inRegion n e)

/-- RESULT of a capacity command. -/
def State.capResult (s : State) (r : Nat) : State := s.withAmap { s.amap with result := r }

/-- A GRANT or PIN (R113, R117, R119, R123, R268). -/
def State.grantExt (s : State) (e : Nat) (pin : Bool) : State :=
  let d := bits (s.tdata 2) 0 12
  let m := if pin then 0 else s.cmdMask
  let rsv := ceilDiv (65536 * 8) (max 1 (s.dom d).ovc)
  if !(s.dom d).valid || !(pin || s.holdersOk m e) then s.capResult 5
  else if (s.ext e).st ≠ .free then s.capResult 2
  else if s.ffree - s.reserve < rsv + metaFrames then s.capResult 3
  else match s.metaPlace d with
    | none => s.capResult 3
    | some (i, f) =>
      let s := s.useRun i f metaFrames
      let s := s.onDom d (fun x => { x with rsv := x.rsv + rsv, extents := x.extents + 1 })
      let s := s.onExt e (fun x =>
        ({ gen := x.gen + 1, domain := d, metaSet := i, metaFrame := f, rsv := rsv,
           st := if pin then .pinned else .offered, since := s.now } : ExtentEntry).setHolders m)
      let s := (s.takeSpine e).toHolders e 0
      ((s.setTdata 3 (s.ext e).gen.toNat).capResult 0).levels d

/-- The GEN check of a capacity command, then its arguments, then the state: RESULT, or `none` where the
command may go on (R112, R113). -/
def State.capCommand (s : State) (e : Nat) (args : Bool) (ok : ExtState → Bool) (act : State → State) : State :=
  if (s.ext e).gen.toNat ≠ bits (s.tdata 3) 0 16 then (s.extEvent 535 e none).capResult 4
  else if !args then s.capResult 5
  else if !ok (s.ext e).st then s.capResult 2
  else (act s).capResult 0

/-- An OFFER of a PINNED extent: its content is kept (R113). -/
def State.offerExt (s : State) (e : Nat) : State :=
  s.capCommand e (s.holdersOk s.cmdMask e) (· == .pinned) (fun s =>
    let m := s.cmdMask
    ((s.extTo e .offered).onExt e (fun x => { x.setHolders m with fromPinned := true })).toHolders e 0)

/-- An extent enters RECALL: a Release Capacity request to each holder and EXT_RECALL (R113, R121). -/
def State.recallExt (s : State) (e : Nat) : State := ((s.extTo e .recall).toHolders e 1).extEvent 533 e none

/-- A RECALL command (R113). -/
def State.recallCmd (s : State) (e : Nat) : State := s.capCommand e true (· == .granted) (fun s => s.recallExt e)

/-- A FORCE command: a forced-release notice to each holder, and DRAIN (R113). -/
def State.forceCmd (s : State) (e : Nat) : State :=
  s.capCommand e true (fun st => st == .granted || st == .recall) (fun s => (s.toHolders e 2).toDrain e)

/-- A FREE command of a PINNED extent (R113). -/
def State.freeCmd (s : State) (e : Nat) : State := s.capCommand e true (· == .pinned) (fun s => s.toDrain e)

/-- AMAP.TCMD OP 1: an entry is read into TDATA (R128). -/
def State.readEntry (s : State) (t i : Nat) : State :=
  if tableSize t ≤ i then s.capResult 5
  else (s.each ((s.imageOf t i).zip (upTo 8)) (fun s w => s.setTdata w.2 w.1)).capResult 0

/-- The effect of a write of AMAP.TCMD (R128). -/
def State.tcmd (s : State) (op t i : Nat) : State :=
  if op = 1 then s.readEntry t i
  else if op = 2 then s.stageEntry t i
  else if op = 3 then s.grantExt i false
  else if op = 4 then s.grantExt i true
  else if op = 5 then s.offerExt i
  else if op = 6 then s.recallCmd i
  else if op = 7 then s.forceCmd i
  else if op = 8 then s.freeCmd i
  else s

/-- Window offset of AMAP.TCMD. -/
def amapTcmd : Nat := amapPage * 4096 + 0x80

/-- A write of AMAP.TCMD with an OP, a table and an index by a master. -/
def State.writeTcmd (s : State) (m : Master) (op t i : Nat) : State :=
  s.gate m amapTcmd (s.rmw amapTcmd [(0, 18, i), (18, 2, t), (20, 4, op)]) (fun s => s.tcmd op t i)

/-- TCMD_READ_ENTRY (R128). -/
def execTcmdReadEntry (m : Master) (table : BitVec 2) (index : BitVec 18) (s : State) : Outcome State Fault Refusal :=
  .next (s.writeTcmd m 1 table.toNat index.toNat)

/-- TCMD_STAGE_ENTRY (R97, R106, R109, R128, R173). -/
def execTcmdStageEntry (m : Master) (table : BitVec 2) (index : BitVec 18) (s : State) : Outcome State Fault Refusal :=
  .next (s.writeTcmd m 2 table.toNat index.toNat)

/-- GRANT (R113, R117, R119). -/
def execGrant (m : Master) (ext : BitVec 18) (s : State) : Outcome State Fault Refusal :=
  .next (s.writeTcmd m 3 2 ext.toNat)

/-- PIN (R113). -/
def execPin (m : Master) (ext : BitVec 18) (s : State) : Outcome State Fault Refusal :=
  .next (s.writeTcmd m 4 2 ext.toNat)

/-- OFFER (R113). -/
def execOffer (m : Master) (ext : BitVec 18) (s : State) : Outcome State Fault Refusal :=
  .next (s.writeTcmd m 5 2 ext.toNat)

/-- RECALL (R113). -/
def execRecall (m : Master) (ext : BitVec 18) (s : State) : Outcome State Fault Refusal :=
  .next (s.writeTcmd m 6 2 ext.toNat)

/-- FORCE (R113). -/
def execForce (m : Master) (ext : BitVec 18) (s : State) : Outcome State Fault Refusal :=
  .next (s.writeTcmd m 7 2 ext.toNat)

/-- FREE (R113). -/
def execFree (m : Master) (ext : BitVec 18) (s : State) : Outcome State Fault Refusal :=
  .next (s.writeTcmd m 8 2 ext.toNat)

/-! ### Answers of the holders -/

/-- An offer ends: the holders that rejected or did not answer are removed (R113). -/
def State.settleOffer (s : State) (e : Nat) : State :=
  let x := s.ext e
  let kept := x.holders.filter (fun n => x.accept.getLsbD n)
  if kept = [] then
    let s := s.extEvent 534 e none
    if x.fromPinned then (s.extTo e .pinned).onExt e (fun x => x.setHolders 0) else s.toErase e
  else
    let s := (s.extTo e .granted).onExt e (fun x =>
      if x.shared then { x with ldmask := BitVec.ofNat 64 (kept.foldl (fun a n => a + 2 ^ n) 0) } else x)
    s.extEvent 531 e none

/-- Add DC Response (R112-R114): the answer counts where the extent is offered to the logical device; once each
holder has answered, the offer ends. -/
def State.dcAnswer (s : State) (n e : Nat) (gen : BitVec 16) (accept : Bool) : State :=
  if (s.ext e).gen ≠ gen then (s.extEvent 535 e (some n)).emit (.dcResult n 1)
  else if (s.ext e).st ≠ .offered ∨ !(s.ext e).holds n ∨ (s.ext e).accept.getLsbD n ∨ (s.ext e).rejected.getLsbD n then
    s.emit (.dcResult n 1)
  else
    let bit := BitVec.ofNat 64 (2 ^ n)
    let s := s.onExt e (fun x => if accept then { x with accept := x.accept ||| bit } else { x with rejected := x.rejected ||| bit })
    let s := s.emit (.dcResult n 0)
    let x := s.ext e
    s.when (x.holders.all (fun k => x.accept.getLsbD k || x.rejected.getLsbD k)) (fun s => s.settleOffer e)

/-- OFFER_TO_EXPIRY (R113, R129): OFFER_TO seconds after the offer; 0: none. -/
def execOfferToExpiry (ext : BitVec 18) (s : State) : Outcome State Fault Refusal :=
  let e := ext.toNat
  let t := s.cfg amapPage 0xE8 1 8
  if (s.ext e).st ≠ .offered ∨ t = 0 then .next s
  else .next ((s.reach ((s.ext e).since + t * 10 ^ 9)).settleOffer e)

/-- A holder releases an extent that it holds (R113): one of several leaves and its copies are
back-invalidated; after the last the extent drains. -/
def State.release (s : State) (n e : Nat) : State :=
  let x := s.ext e
  if !x.holds n then s
  else if 1 < x.holders.length then
    (s.onExt e (fun x => { x with ldmask := x.ldmask &&& ~~~(BitVec.ofNat 64 (2 ^ n)) })).leaveExtent e n
  else s.toDrain e

/-- Release Dynamic Capacity (R112, R575): refused as a whole where any extent is. -/
def State.dcRelease (s : State) (n : Nat) (exts : List (BitVec 18 × BitVec 16)) : State :=
  let stale := exts.filter (fun e => decide ((s.ext e.1.toNat).gen ≠ e.2))
  let no := (exts.filter (fun e => (s.ext e.1.toNat).gen == e.2)).filter (fun e =>
    let x := s.ext e.1.toNat
    !s.granted n e.1.toNat || !(x.st == .granted || x.st == .recall))
  if stale = [] ∧ no = [] then
    (s.each exts (fun s e => s.release n e.1.toNat)).emit (.dcResult n 0)
  else
    let s := s.each stale (fun s e => s.extEvent 535 e.1.toNat (some n))
    let s := s.each no (fun s e => s.extEvent 537 e.1.toNat (some n))
    s.emit (.dcResult n 1)

/-! ### Recalls under pressure -/

/-- The extent that pressure recalls (R121): of the domains with OVC above 8 that hold a GRANTED extent, the one
whose BACKED exceeds its RSV by the most; of its GRANTED extents, the one with the largest BACKED. -/
def State.pressed (s : State) : Option Nat :=
  let ext := s.amap.extents.filter (fun e => e.2.st == .granted && decide (8 < (s.dom e.2.domain).ovc))
  let excess := fun (d : Nat) => ((s.dom d).backedQ : Int) - 4 * (s.dom d).rsv
  let dom := (ext.map (·.2.domain)).mergeSort.foldl (fun (a : Option Nat) d =>
    match a with
    | none => some d
    | some b => if excess b < excess d then some d else a) none
  match dom with
  | none => none
  | some d => ((ext.filter (fun e => e.2.domain == d)).foldl (fun (a : Option (Nat × ExtentEntry)) e =>
      match a with
      | none => some e
      | some b => if b.2.backedQ < e.2.backedQ then some e else a) none).map (·.1)

/-- AUTO_RECALL (R121): at most one extent every 100 ms until the pool is back above LOWWM. -/
def execAutoRecall (s : State) : Outcome State Fault Refusal :=
  if !s.sorrelUp || !s.amap.crit || !s.cfgBit amapPage 0xE8 0 then .next s
  else
    let s := s.reach (s.amap.recallAt.elim 0 (· + ms 100))
    let s := s.withAmap { s.amap with recallAt := some s.now }
    match s.pressed with
    | none => .next s
    | some e => .next (s.recallExt e)

/-! ### Landing apertures -/

/-- A sender may write an aperture: enabled, and from its permitted requester, through the management
function (R126). -/
def State.landOk (s : State) (a : Nat) (rid : BitVec 16) : Bool :=
  s.cfgBit (poolPage a) 0x80 18 && s.cfg (poolPage a) 0x84 0 16 == rid.toNat

/-- The landing aperture whose page a window page is. -/
def landOf (page : Nat) : Option Nat := ([1, 2, 3, 4, 5, 6, 7, 8, 9, 10, 11, 12, 13, 14, 15, 16] : List Nat).find? (fun k => poolPage k == page)

/-- A posted write of a peer is dropped: PEER_DROP names the extent of the aperture that it meant, and the page
at which it was dropped (R126, R131; assumption 174). -/
def State.peerDrop (s : State) (pg e : Nat) : State := s.raise { src := 536, site := siteOfPage pg, subject := e }

/-- LAND_DATA_WRITE (R126, R127), a peer's posted write to a page of the register window: LAND.HALF or whole aligned
lines of the data window of a landing aperture; any other write is dropped with PEER_DROP, a poisoned one of LAND.HALF too
(assumption 149). Lines of a slice out of service are lost writes (R298, R299). `ep`: the write is poisoned. -/
def execLandDataWrite (page : BitVec 16) (rid : BitVec 16) (off : BitVec 12) (data : List Byte) (ep : Bool) (s : State) :
    Outcome State Fault Refusal :=
  match landOf page.toNat with
  | none => .next (s.when s.mgmtUp (fun s => (s.heard s.mgmtLd).peerDrop (poolPage 0) 0))
  | some k =>
  let pg := poolPage k
  let x := off.toNat
  let e := s.cfg pg 0x80 0 18
  let n := data.length
  if !s.answers pg || !s.mgmtUp then .next s
  else
  let s := s.heard s.mgmtLd
  let drop := s.peerDrop pg e
  if !s.landOk k rid then .next drop
  else if x = 0x88 ∧ n = 4 ∧ !ep then
    .next (s.setReg pg 0x88 (BitVec.ofNat 32 (ofBytes data % 2 ^ 17)))
  else if x < 0x800 ∨ x % 64 ≠ 0 ∨ n % 64 ≠ 0 ∨ n = 0 ∨ 0x1000 < x + n ∨ (s.ext e).st ≠ .pinned ∨
      (s.ext e).gen.toNat ≠ s.cfg pg 0x84 16 16 then .next drop
  else
    let at_ := e * 2 ^ 28 + s.cfg pg 0x88 0 17 * 2048 + (x - 0x800)
    .next (s.each (upTo (n / 64)) (fun s j =>
      let line := at_ / 64 + j
      if s.sliceOut (homeOf (lnPage line)) then s.discardLine (s.outUnit line) line
      else s.enlist line (.pool k) (.write .none (lineOf ((data.drop (64 * j)).take 64)) ep) 0 false false))

/-- PEER_FLUSH_READ (R126, R328), a peer's non-posted request to a page of the register window: a 4-byte read of offset
0 of the page of the peer's enabled aperture is answered with the page's ID once the aperture's earlier writes are
serialised. Every other one of a peer that an enabled aperture permits is answered with Unsupported Request; so is one
of a requester that none permits (assumption 124). -/
def execPeerFlushRead (page : BitVec 16) (rid : BitVec 16) (r : PeerRead) (s : State) :
    Outcome State Fault Refusal :=
  if !s.mgmtUp then .next s
  else
  let s := s.heard s.mgmtLd
  match landOf page.toNat with
  | none => .next (s.toHost s.mgmtLd (.peerUr rid.toNat r.tag))
  | some k =>
    if !s.answers (poolPage k) then .next s
    else if s.landOk k rid ∧ r.off.toNat = 0 ∧ r.len = 4 then
      let s := s.withAmap { s.amap with flushReads := s.amap.flushReads ++ [(k, rid.toNat, r.tag)] }
      .next (s.flushAnswers k none)
    else .next (s.toHost s.mgmtLd (.peerUr rid.toNat r.tag))

end Sys2Proof.Machine
end

