-- ==== Sys2Proof/Machine/Channels.lean ====
section
/-! DEFINITION. The DDR5 channels: discovery, training, corrected errors, sparing, repair, mirroring
and drains, as operations (R170-R206). -/

namespace Sys2Proof.Machine

/-! ### Discovery -/

/-- Row bits of a density code (R176). -/
def rowBits (d : Nat) : Nat := 16 + d

/-- Logical ranks of a DIMM (R172). -/
def spdRanks (d : Spd) : Nat := d.pranks * 2 ^ d.height

/-- Why a DIMM is refused by itself; 0: it is not (R170). -/
def dimmCause (d : Spd) : Nat :=
  if d.x8 then 2
  else if d.kind.val = 2 then 3
  else if d.density.val = 3 then 4
  else if d.pranks = 0 ∨ 2 < d.pranks ∨ 3 < d.height then 3
  else if 39 < Nat.log2 (spdRanks d) + 19 + rowBits d.density.val then 5
  else 0

/-- Two DIMMs match in kind, density, ranks and height (R170). -/
def dimmsMatch (a b : Spd) : Bool :=
  a.kind == b.kind && a.density == b.density && a.pranks == b.pranks && a.height == b.height

/-- The causes of the two slots and of the channel: slot 0, slot 1, channel (R170, R171; assumption 155). -/
def discoverCauses (a b : Option Spd) : Nat × Nat × Nat :=
  let x8 := fun (d : Option Spd) => (d.map (·.x8)).getD false
  if x8 a || x8 b then (2, 2, 2)
  else match a with
    | none => (0, 7, 1)
    | some a =>
      let ca := dimmCause a
      if ca ≠ 0 then (ca, 7, ca)
      else match b with
        | none => (0, 0, 0)
        | some b =>
          let cb := dimmCause b
          (0, if cb ≠ 0 then cb else if a.kind = 1 ∨ !dimmsMatch a b then 7 else 0, 0)

/-- The highest speed code that the accepted DIMMs and MAXSPEED allow and training has not removed
(R170). -/
def State.bestSpeed (s : State) (c : Nat) : Option Nat :=
  let ch := s.chan c
  let acc := ([ch.dimm0, ch.dimm1].filter (fun d => d.st == 1)).filterMap (·.spd)
  match acc with
  | [] => none
  | a :: _ =>
    let range := if a.kind = 1 then [6, 5] else if acc.length = 2 then [2, 1, 0] else [4, 3, 2, 1, 0]
    range.find? (fun v => acc.all (fun d => decide (v ≤ d.maxSpeed.val)) &&
      decide (v ≤ s.cfg (chanPage c 0) 0x80 0 4) && !ch.removed.contains v)

/-- DIMM_REFUSED names the channel, the cause and the slot (R171, R207). -/
def State.dimmRefused (s : State) (c cause slot : Nat) : State :=
  s.raise { src := srcChan c 8, site := siteOfPage (chanPage c 5), subject := c, detail := [slot], code := cause }

/-- Disable a channel by discovery or negotiation, which step 2 of its training reaches: every DIMM present on it is refused
(R171, R174). -/
def State.disableChan (s : State) (c cause slot : Nat) : State :=
  let off := fun (d : Dimm) => if d.spd.isNone then d
    else if d.st = 2 then d else { d with st := 2, cause := cause, pmic := false }
  (s.onChan c (fun ch => { ch with
    st := .disabled, cause := cause, usable := 0, lranks := 0, returning := false, step := max 2 ch.step,
    dimm0 := off ch.dimm0, dimm1 := off ch.dimm1, scrub := 0, fast := 0 })).dimmRefused c cause slot

/-- Load timing set A from the SPD for the negotiated speed, and set B for SPEED_B (R189). -/
def State.loadTimings (s : State) (c speed : Nat) : State :=
  let f := s.free
  let set := fun (s : State) (x v : Nat) =>
    let s := s.each (upTo 5) (fun s w => s.setReg (chanPage c 0) (x + 4 * w) (Config.spdTiming f v w))
    s.setReg (chanPage c 0) (x + 20) (BitVec.ofNat 32 v)
  let s := set s.takeFree 0x100 speed
  s.when (s.cfgBit (chanPage c 0) 0x80 4) (fun s => set s 0x120 (s.cfg (chanPage c 0) 0x80 5 4))

/-- What a channel's DRAM holds is lost (R174, R203; assumption 128). -/
def State.dropLines (s : State) (c : Nat) : State :=
  s.withMem { s.mem with lines := dropKeys (fun k => k / 2 ^ 40 == c) s.mem.lines }

/-- Discovery of a channel from the SPDs of its slots, and the start of its training (R170-R174). -/
def State.discover (s : State) (c : Nat) (a b : Option Spd) (back : Bool) : State :=
  if !s.cfgBit (chanPage c 0) 0x80 12 then
    s.onChan c (fun ch => { ch with
      st := .disabled, cause := 0, usable := 0, lranks := 0, dimm0 := {}, dimm1 := {}, scrub := 0, fast := 0 })
  else
    let r := discoverCauses a b
    let slot := fun (d : Option Spd) (cause : Nat) =>
      ({ spd := d, st := if d.isNone then 0 else if cause = 0 then 1 else 2,
         cause := if d.isNone then 0 else cause, pmic := d.isSome && cause == 0 } : Dimm)
    let s := (s.dropLines c).onChan c (fun ch => { ch with
      dimm0 := slot a r.1, dimm1 := slot b r.2.1, removed := [], failedOnce := false, step := 1,
      stepAt := s.now, fast := 0, hotDone := false, fctlOwed := false,
      selfRef := false, validA := false, validB := false, setB := false, scrub := 0, phyOff := false,
      i3cOff := false, leaving := false, copy := {},
      job := ch.job.filter (fun j => j == .hard), jobQueue := ch.jobQueue.filter (fun j => j == .hard) })
    if r.2.2 ≠ 0 then
      s.disableChan c r.2.2 (if (a.map (·.x8)).getD false || !((b.map (·.x8)).getD false) then 0 else 1)
    else
      let s := s.when (b.isSome && r.2.1 != 0) (fun s => s.dimmRefused c r.2.1 1)
      let acc := ([(s.chan c).dimm0, (s.chan c).dimm1].filter (fun d => d.st == 1)).filterMap (·.spd)
      let n := (acc.map spdRanks).sum
      let rb := rowBits ((acc.map (fun d => d.density.val)).headD 0)
      let use := (n - b2n (s.cfgBit (chanPage c 0) 0x80 9)) * 2 ^ (rb - 1)
      match s.bestSpeed c with
      | none => s.disableChan c 6 0
      | some v =>
        (s.settleAll.onChan c (fun ch => { ch with
          st := .training, speed := v, returning := back, usable := use, lranks := n, rb := rb })).loadTimings c v

/-! ### Repair records -/

/-- The two words of a repair record (R197; the places of its fields are the model's, assumption 23). -/
def repairWords (r : Option RepairRec) : Word × Word :=
  match r with
  | none => (0, 0)
  | some r => (wordOf [(0, r.rank % 32), (5, r.sub), (6, r.dev), (10, r.bg), (13, r.ba)],
               wordOf [(0, r.row), (31, 1)])

/-- Write a channel's repair records to the retained store (R195, R461). -/
def State.storeRepairs (s : State) (c : Nat) (l : List RepairRec) : State :=
  s.each (upTo 32) (fun s i =>
    let w := repairWords (l[i]?)
    (s.retWrite (0x600 + 64 * c + 2 * i) w.1 none).retWrite (0x600 + 64 * c + 2 * i + 1) w.2 none)

/-- Repair records of a channel in the retained store, once every queued write has been performed (R197, R198). -/
def State.repairs (s : State) (c : Nat) : List RepairRec :=
  (upTo 32).filterMap (fun i =>
    let a := (s.futureWord (0x600 + 64 * c + 2 * i)).toNat
    let b := (s.futureWord (0x600 + 64 * c + 2 * i + 1)).toNat
    if bitOf b 31 then
      some { rank := bits a 0 5, sub := bits a 5 1, dev := bits a 6 4, bg := bits a 10 3, ba := bits a 13 2,
             row := bits b 0 18 }
    else none)

/-! ### Training -/

/-- A set's range passes the usable capacity of a channel that is a member (R204). -/
def State.setTooLong (s : State) (c : Nat) : Bool :=
  (upTo 16).any (fun i =>
    let e := s.set i
    e.valid && (e.members.contains c || (e.mirror && e.members.contains (c / 2 * 2))) &&
      decide ((s.chan c).usable < e.base + e.len))

/-- Training of a channel succeeds (R174, R204): step 7 has applied the recorded soft repairs again, each of which uses its
bank's (R196, R198). A return whose DIMMs are too small for a set is found here, the DIMMs staying accepted (assumption
129). -/
def State.chanTrained (s : State) (c : Nat) : State :=
  if (s.chan c).returning && s.setTooLong c then
    s.onChan c (fun ch => { ch with
      st := .disabled, cause := 5, usable := 0, lranks := 0, returning := false, step := 8, scrub := 0 })
  else
    let b := s.cfgBit (chanPage c 0) 0x80 4
    (s.onChan c (fun ch => { ch with
      st := .active, step := 8, validA := true, validB := b, setB := false, returning := false, late := false,
      selfRef := false, failedOnce := false, retrainOwed := false, retraining := false, alerts := [],
      debt := [], due := [], fast := 0, acts := [], sampled := [], scrub := 0, scrubFrom := s.now, ceAt := s.now,
      repaired := s.repairs c })).raise
      { src := srcChan c 10, site := siteOfPage (chanPage c 63), subject := c }

/-- Training of a channel fails in a step: again from step 3 at the same speed, then at the next lower one, then the
channel is disabled (R170, R174). -/
def State.chanFailed (s : State) (c step : Nat) : State :=
  let v := (s.chan c).speed
  let s := s.raise { src := srcChan c 9, site := siteOfPage (chanPage c 63), subject := c, detail := [v] }
  if (s.chan c).failedOnce then
    let s := s.onChan c (fun ch => { ch with removed := v :: ch.removed, failedOnce := false, step := 3, stepAt := s.now })
    match s.bestSpeed c with
    | some w => (s.settleAll.onChan c (fun ch => { ch with speed := w })).loadTimings c w
    | none => (s.disableChan c 6 0).onChan c (fun ch => { ch with step := step })
  else s.onChan c (fun ch => { ch with failedOnce := true, step := 3, stepAt := s.now })

/-! ### Mirrored pairs -/

/-- A channel leaves the service of its mirrored pair (R199, R207). -/
def State.mirrorLost (s : State) (c : Nat) : State :=
  let ev := c / 2 * 2
  let even := c % 2 == 0
  let go := fun (s : State) (m : MirState) => s.onChan ev (fun ch => { ch with mir := m })
  let out := fun (s : State) (m : MirState) => (go s m).onChan ev (fun ch => { ch with soloAt := s.now })
  let s := s.copyWalk c
  let say := fun (s : State) => s.raise { src := srcChan ev 21, site := siteOfPage (chanPage ev 4), subject := ev }
  match (s.chan ev).mir with
  | .off => s
  | .poisoned => s
  | .sync => say (out s (if even then .oddOnly else .evenOnly))
  | .evenOnly => if even then go s .poisoned else s
  | .oddOnly => if even then s else go s .poisoned
  | .resilverOdd => say (go s (if even then .poisoned else .evenOnly))
  | .resilverEven => say (go s (if even then .oddOnly else .poisoned))

/-- Quarantine a channel under class S (R201, R489): the requests that waited for it go on (R297). -/
def State.quarantineChan (s : State) (c : Nat) : State :=
  s.when ((s.chan c).st == .active || (s.chan c).st == .draining) (fun s =>
    (((s.mirrorLost c).onChan c (fun ch => { ch with
      st := .quarantined, retraining := false, retrainOwed := false, copy := ch.copy.pause s.now }))).runAll)

/-! ### Corrected errors -/

/-- Rolling count of a rank's corrected errors (R181). -/
def State.ceSum (s : State) (c rank : Nat) : Nat :=
  ((look [] (s.chan c).ce rank).take (s.cfg (chanPage c 2) 0x80 16 8)).sum

/-- The spare rank of a channel is held and unused (R192). -/
def State.spareFree (s : State) (c : Nat) : Bool :=
  s.cfgBit (chanPage c 0) 0x80 9 && (s.chan c).spared.isNone

/-- Start sparing a rank (R192). -/
def State.startSparing (s : State) (c rank : Nat) : State :=
  s.onChan c (fun ch => { ch with
    job := some (.sparing rank), ddrpResult := 0, copy := { since := s.now, paused := ch.fctlBusy } })

/-- Key of a row and device for R195. -/
def rowKey (r : RepairRec) : Nat := ((bankKey r * 16 + r.dev) * 2 ^ 18) + r.row

/-- Lines of a row with corrected errors in one device within 24 h (R195). -/
def State.rowLines (s : State) (c : Nat) (r : RepairRec) : List (Nat × Nat) :=
  (look [] (s.chan c).rowCe (rowKey r)).filter (fun e => decide (s.now ≤ e.2 + sec 86400))

/-! ### Repair -/

/-- Two records are in the same bank of the same device (R196). -/
def RepairRec.sameBank (a b : RepairRec) : Bool :=
  a.rank == b.rank && a.sub == b.sub && a.dev == b.dev && a.bg == b.bg && a.ba == b.ba

/-- Channel offsets of the 128 lines of a row (R176). -/
def rowOffsets (rb : Nat) (r : RepairRec) : List Nat :=
  (upTo 128).map (fun col =>
    64 * (r.rank * 2 ^ (13 + rb) + r.row * 8192 + col * 64 + (r.ba ^^^ (r.row / 8 % 4)) * 16 +
      (r.bg ^^^ (r.row % 8)) * 2 + r.sub))

/-- A frame of a set is in use. -/
def State.frameUsed (s : State) (i f : Nat) : Bool :=
  (s.usedIn i).any (fun r => decide (r.1 ≤ f) && decide (f < r.1 + r.2))

/-- Withdraw the free bins of a group that lie on a retired row (R104, R196). -/
def State.withdrawBins (s : State) (key : Nat) : State :=
  match look? s.tier.groups key with
  | none => s
  | some g =>
    s.each ((upTo (binsIn g.cls)).filter (fun k => !g.used.getLsbD k)) (fun s k =>
      let e : PageEntry := { st := .compressed, set := g.set, loc := 12 * (key % 2 ^ 32) + g.cls * k, binsize := g.cls }
      s.when (s.onRetired e) (fun s =>
        let g := (look? s.tier.groups key).getD g
        (s.withTier { s.tier with
          groups := enter { g with used := g.used ||| BitVec.ofNat 12 (2 ^ k) } s.tier.groups key }).withAmap
          { s.amap with lost := s.amap.lost + g.cls }))

/-- Withdraw a free frame of a set (R104). -/
def State.withdrawFrame (s : State) (i f : Nat) : State :=
  if s.frameUsed i f then s
  else
    let t := s.useRun i f 1
    t.withAmap { t.amap with lost := s.amap.lost + 4 }

/-- Withdraw the free frames of a set that lie at some offsets of a channel (R104). -/
def State.withdrawFrames (s : State) (c : Nat) (offs : List Nat) (i : Nat) : State :=
  let e := s.set i
  if e.valid && e.hasChan c then
    let m := if e.members.contains c then c else c / 2 * 2
    let fs := ((offs.filterMap (e.byteAt m)).map (· / 4096)).eraseDups
    s.each fs (fun s f => s.withdrawFrame i f)
  else s

/-- Retire a row: its free frames and bins are withdrawn at once, and its pages are to be migrated (R104,
R196). -/
def State.retireRow (s : State) (c : Nat) (r : RepairRec) : State :=
  let offs := rowOffsets (s.chan c).rb r
  let s := s.onChan c (fun ch => { ch with retired := ch.retired ++ [r] })
  let s := s.each (upTo 16) (fun s i => s.withdrawFrames c offs i)
  let s := s.each ((s.tier.groups.filter (fun g => (s.set g.2.set).hasChan c)).map (·.1)) State.withdrawBins
  (s.levels 0).raise { src := srcChan c 20, site := siteOfPage (chanPage c 4), subject := c, detail := [r.rank, r.row], code := 1 }

/-- Start an operation of the sparing and repair unit, or queue it behind the one in progress: sparing of a rank that is
not the spare where a spare is free; a soft repair, or the row's retirement where its bank has used its repair or every
record is in use (R181, R192, R195-R197, R206). The hold of a soft repair is deferred behind another stall (R308). -/
def State.startRepair (s : State) (c : Nat) (j : RepairJob) : State :=
  let ch := s.chan c
  let soft := match j with
    | .soft _ => true
    | _ => false
  if ch.job.isSome || (soft && (ch.still || ch.fctlOwed)) then s.onChan c (fun ch => { ch with jobQueue := ch.jobQueue ++ [j] })
  else
    match j with
    | .soft r =>
      if ch.repaired.any r.sameBank || decide (32 ≤ (s.repairs c).length) then s.retireRow c r
      else s.onChan c (fun ch => { ch with job := some j, ddrpResult := 0 })
    | .sparing rank => s.when (s.spareFree c && s.serves c && decide (rank + 1 < ch.lranks)) (fun s => s.startSparing c rank)
    | .hard => s.onChan c (fun ch => { ch with job := some j, ddrpResult := 0 })

/-- The operation in progress ends, and the next queued one that can start does (R206). -/
def State.nextJob (s : State) (c : Nat) : State :=
  let q := (s.chan c).jobQueue
  (s.onChan c (fun ch => { ch with job := none, jobQueue := [] })).each q (fun s j => s.startRepair c j)

/-- A frequency change starts: pending refresh management is issued, the debt repaid, and the copies that run pause (R190,
R206). -/
def State.freqChange (s : State) (c : Nat) : State :=
  let s := (s.chanTurn c).repayAll c
  let s := s.onChan c (fun ch => { ch with fctlBusy := true, fctlOwed := false, copy := ch.copy.pause s.now })
  s.onChan (c / 2 * 2) (fun ch => { ch with silver := ch.silver.pause s.now })

/-- A stall of a channel has ended: every request that waited across it is served, and then the next deferred one starts, a
frequency change only on a channel that is still active (R190, R308). -/
def State.stallEnd (s : State) (c : Nat) : State :=
  let s := s.runAll
  let ch := s.chan c
  if ch.still then s
  else if ch.fctlOwed then
    if ch.st == .active then s.freqChange c
    else (s.onChan c (fun ch => { ch with fctlOwed := false, fctlResult := 2 })).when ch.job.isNone (fun s => s.nextJob c)
  else s.when ch.job.isNone (fun s => s.nextJob c)

/-- A corrected error of a line: counted for its rank and row, ECC_CORR_LIMIT and automatic sparing, class
C (R179, R181, R195). -/
def State.corrected (s : State) (c off dev : Nat) : State :=
  let d := { rowOf (s.chan c).rb off with dev := dev }
  let was := (s.chan c).ceOver.getLsbD d.rank
  let row := (off / 64, s.now) :: (s.rowLines c d).filter (fun e => e.1 != off / 64)
  let s := s.onChan c (fun ch =>
    let l := look [] ch.ce d.rank
    { ch with ceTotal := satAdd 0xFFFF ch.ceTotal 1,
              ce := put [] ch.ce d.rank ((l.headD 0 + 1) :: l.tail),
              rowCe := enter row ch.rowCe (rowKey d) })
  let s := s.fileAt (siteOfPage (chanPage c 2)) 1 (bits d.row 0 16) (off / 4096 % 128) 0
  s.when (!was && decide (s.cfg (chanPage c 2) 0x80 0 16 ≤ s.ceSum c d.rank)) (fun s =>
    let s := s.onChan c (fun ch => { ch with ceOver := ch.ceOver ||| BitVec.ofNat 32 (2 ^ d.rank) })
    let s := s.raise { src := srcChan c 11, site := siteOfPage (chanPage c 2), cls := 1, subject := c, detail := [d.rank] }
    s.when (s.cfgBit (chanPage c 4) 0x80 8) (fun s => s.startRepair c (.sparing d.rank)))

/-! ### Drains -/

/-- A set's lines on a channel stay with its partner: the set is mirrored and the pair in SYNC (R202). -/
def State.inSync (s : State) (i c : Nat) : Bool :=
  (s.set i).mirror && ((s.chan (c / 2 * 2)).mir == .sync || (s.chan (c / 2 * 2)).mir == .off)

/-- A channel is being drained (R201). -/
def State.drains (s : State) (c : Nat) : Bool :=
  (s.chan c).st == .draining || ((s.chan c).st == .quarantined && (s.chan c).leaving)

/-- A page still has to move off a channel (R202). -/
def State.onChanPage (s : State) (c : Nat) (e : PageEntry) : Bool :=
  (e.st == .near || e.st == .compressed || e.st == .rawInBin) && (s.set e.set).hasChan c && !s.inSync e.set c

/-- The entry that says where a page's bytes lie. -/
def State.whereIs (s : State) (p : Nat) : PageEntry := s.serving p

/-- The pages that remain on a channel (R202). -/
def State.pagesLeft (s : State) (c : Nat) : List Nat :=
  (s.mem.pages.map (·.1)).filter (fun p => s.onChanPage c (s.whereIs p))

/-- Write every dirty metadata line back and empty the caches: the set index of a line follows its
block's place (R158). -/
def State.emptyMcache (s : State) : State :=
  let s := s.each (upTo 32) (fun s hs => s.cleanTo 65536 hs 0)
  s.withMem { s.mem with mcache := [] }

/-- The extents whose metadata block still has to move off a channel (R202). -/
def State.metaLeft (s : State) (c : Nat) : List Nat :=
  (s.amap.extents.filter (fun e => e.2.st != .free && (s.set e.2.metaSet).hasChan c &&
    !s.inSync e.2.metaSet c)).map (·.1)

/-- Move the metadata blocks off a channel; one that finds no place stays (R202). -/
def State.moveMeta (s : State) (c : Nat) : State :=
  s.each (s.metaLeft c) (fun s x =>
    match s.metaPlace (s.ext x).domain with
    | none => s
    | some (i, f) =>
      let e := s.ext x
      let s := ((s.emptyMcache).useRun i f metaFrames).freeRunOf e.metaSet e.metaFrame metaFrames
      s.onExt x (fun e => { e with metaSet := i, metaFrame := f }))

/-- A drain pauses: DRAIN_STALLED, once until room appears (R202, R207). -/
def State.drainStalled (s : State) (c : Nat) : State :=
  s.when (!(s.chan c).stalled) (fun s =>
    (s.onChan c (fun ch => { ch with stalled := true })).raise
      { src := srcChan c 24, site := siteOfPage (chanPage c 63), subject := c, code := 1 })

/-- A drained channel leaves the service of a pair in SYNC; DRAIN_DONE (R199, R202). -/
def State.drained (s : State) (c : Nat) : State :=
  let s := s.onChan c (fun ch => { ch with st := .drained, stalled := false, leaving := false })
  (s.when ((s.chan (c / 2 * 2)).mir == .sync) (fun s => s.mirrorLost c)).raise
    { src := srcChan c 22, site := siteOfPage (chanPage c 63), subject := c }

/-- Give up the pages of a quarantined channel that its mirror partners do not hold: they become
poisoned (R201). -/
def State.giveUp (s : State) (c : Nat) : State :=
  let held := fun (p : Nat) => (s.set (s.whereIs p).set).mirror && (s.chan (c / 2 * 2)).mir != .poisoned
  s.each ((s.pagesLeft c).filter (fun p => !held p)) (fun s p =>
    let s := if (s.entry p).st == .migrating then s.abandon p else s
    (s.poisonPage p false).setEntry p id)

/-- A channel in service enters self-refresh, its refresh debt repaid (R184, R303, R490). -/
def State.selfRefresh (s : State) (c : Nat) : State :=
  s.when ((s.chan c).st != .disabled && (s.chan c).st != .poweredDown) (fun s =>
    (s.repayAll c).onChan c (fun ch => { ch with selfRef := true }))

/-- Recovery of a quarantined channel: active again at its set's speed (R495); a channel that is still at
the critical level does not recover (R205). -/
def State.recoverChan (s : State) (c : Nat) : State :=
  if (s.chan c).st == .quarantined then
    (s.onChan c (fun ch => { ch with
      st := .active, selfRef := false, debt := [], due := [], fast := 0, leaving := false, hotDone := false,
      copy := ch.copy.resume s.now })).raise
      { src := srcChan c 10, site := siteOfPage (chanPage c 63), subject := c }
  else s

/-- A channel is at the critical level (R205). -/
def Channel.tooHot (ch : Channel) : Bool := decide (3 ≤ ch.dimm0.level) || decide (3 ≤ ch.dimm1.level)

end Sys2Proof.Machine
end

