-- ==== Sys2Proof/Machine/Moves.lean ====
section
/-! DEFINITION. Commands that move pages within their tier: compaction, and near and bin moves for drains,
retired rows and compaction (R196, R202, R215-R217, R229, R275). -/

namespace Sys2Proof.Machine

open Host (Outcome)

/-- The pages with a bin in a group. -/
def State.pagesIn (s : State) (key : Nat) : List Nat :=
  (s.mem.pages.filter (fun e => (e.2.st == .compressed || e.2.st == .rawInBin) &&
    2 ^ 32 * e.2.set + groupOf e.2.loc == key)).map (·.1)

/-- The least-used group of some groups that is not empty, the first among equals. -/
def leastUsed (l : List (Nat × BinGroup)) : Option (Nat × BinGroup) :=
  l.foldl (fun (a : Option (Nat × BinGroup)) g =>
    match a with
    | none => some g
    | some b => if b.2.free < g.2.free then some g else a) none

/-- COMPACTION_START (R229): the pages of the least-used group are chosen for bin moves. -/
def execCompactionStart (u : Fin 8) (set : Fin 16) (cls : Fin 3) (s : State) :
    Outcome State Fault Refusal :=
  let c := cls.val + 1
  let gs := s.groupsOf u.val set.val c
  let free := (gs.map (fun g => g.2.free)).sum
  if s.sorrelUp && !s.onHold tierPage && s.cfgBit tierPage 0x80 30 && s.cfgBit tierPage 0x80 31 && decide (2 * binsIn c < free) then
    match leastUsed gs with
    | none => .next s
    | some g => .next (s.withTier { s.tier with
        compact := s.tier.compact ++ (s.pagesIn g.1).filter (fun p => !s.tier.compact.contains p) })
  else .next s

/-- The reason of a move holds for a page (R196, R202, R229); compaction is enabled by COMPACT and EN (R249). -/
def State.moveDue (s : State) (p : Nat) (why : MoveReason) : Bool :=
  let e := s.entry p
  (e.st == .near || e.st == .compressed || e.st == .rawInBin) &&
  (match why with
   | .drain c => s.drains c.val && s.onChanPage c.val e
   | .retire => s.onRetired e
   | .compaction => e.st != .near && s.tier.compact.contains p && s.cfgBit tierPage 0x80 30 && s.cfgBit tierPage 0x80 31)

/-- A bin in a fuller group of the same set for a page that compaction moves, where the domain's BIN_SETS still permit the
set (R106, R226, R229). -/
def State.fullerBin (s : State) (p : Nat) : Option (State × Nat × Nat) :=
  let e := s.entry p
  let own := 2 ^ 32 * e.set + groupOf e.loc
  if !(s.binSets (s.domOf p)).contains e.set then none
  else match fullest ((s.groupsOf (clusterOf (homeOf p)) e.set e.binsize).filter (fun g => g.1 != own)) with
  | none => none
  | some g =>
    let r := s.takeFrom g
    some ((r.1.account (pgExt p) e.binsize 0).levels (s.domOf p), r.2.1, r.2.2)

/-- The destination of a move. -/
def State.moveDest (s : State) (p : Nat) (why : MoveReason) : Option (State × Nat × Nat) :=
  let e := s.entry p
  if e.st = .near then s.takeFrame p false
  else if why = .compaction then s.fullerBin p
  else s.takeBin p (clusterOf (homeOf p)) e.binsize []

/-- MIGRATION_MOVE_START (R202, R215, R216, R228): without room a drain pauses. -/
def execMigrationMoveStart (page : BitVec 34) (why : MoveReason) (s : State) : Outcome State Fault Refusal :=
  let p := page.toNat
  if !s.sorrelUp || s.onHold tierPage || !s.moveDue p why || !s.mayMigrate p false || !s.migFree (homeOf p) || s.sliceOut (homeOf p) then
    .next s
  else
    let s := s.withTier { s.tier with compact := s.tier.compact.filter (· != p) }
    let s := s.when (why == .compaction) State.withinRate
    match s.moveDest p why with
    | some (s, i, loc) =>
      let s := match why with
        | .drain c => s.onChan c.val (fun ch => { ch with stalled := false })
        | _ => s
      .next (s.lockPage p (if (s.entry p).st = .near then .nearMove else .binMove) i loc false)
    | none =>
      let s := s.when ((s.entry p).st != .near && why != .compaction) State.noBin
      match why with
      | .drain c => .next (s.drainStalled c.val)
      | _ => .next s

/-- An uncorrectable line met by a move, or one that no channel serves: ECC_UNCORR and a class D record. -/
def State.moveBad (s : State) (i x subject : Nat) : State :=
  let m := (((s.readChan i x).getD ((s.set i).media x).1), ((s.set i).media x).2)
  (s.eccUncorr m.1 m.2 subject).fileP (chanPage m.1 2) 2 0

/-- What a move reads of a byte of its source, checked as every read is: the reports of a failing line are made (R179, R215,
R263). `uncorr`: the line is uncorrectable. -/
def State.moveRead (s : State) (hs i x subject : Nat) (uncorr : Bool) (b : TagBind) : State × Got :=
  if uncorr then (s.moveBad i x subject, .bad)
  else
    let r := s.readLine hs i x subject b
    match r.2 with
    | .notServed => (r.1.moveBad i x subject, .bad)
    | g => (r.1, g)

/-- Copy line j of a moving near page: stored lines unchanged, one that is uncorrectable or fails its tag as poison (R215,
R263, R275). -/
def State.copyNear (s : State) (p : Nat) (m : Migration) (uncorr : BitVec 64) (j : Nat) : State :=
  let y := 4096 * m.dloc + 64 * j
  if (look 0 s.mem.zeroFill p).getLsbD j then s
  else
    let b := s.lineBind p j
    let r := s.moveRead (homeOf p) m.image.set (4096 * m.image.loc + 64 * j) (64 * p + j) (uncorr.getLsbD j) b
    match r.2 with
    | .data d => r.1.putMedia m.dset y (.line d b)
    | _ => r.1.putMedia m.dset y .poison

/-- Copy the lines of a moving bin one after the other, up to one that is uncorrectable or fails its tag; whether all are
copied (R215, R238, R263, R275). -/
def State.copyBin (s : State) (p : Nat) (m : Migration) (uncorr : BitVec 64) : State × Bool :=
  (upTo (16 * m.image.binsize)).foldl (fun (a : State × Bool) j =>
    if !a.2 then a
    else
      let b := a.1.binBind p j (a.1.majorOf p)
      let r := a.1.moveRead (homeOf p) m.image.set (1024 * m.image.loc + 64 * j) p (uncorr.getLsbD j) b
      match r.2 with
      | .data d => (r.1.putMedia m.dset (1024 * m.dloc + 64 * j) (.line d b), true)
      | _ => (r.1, false)) (s, true)

/-- Commit a move: its source is returned, or withdrawn where it lies on a retired row (R104, R196), and the page takes its
new place, TOUCH and HEPOCH as accesses have left them (R215, R217, R219). -/
def State.moved_ (s : State) (p : Nat) (m : Migration) : State :=
  (s.giveBack p m.image).unlockPage p (fun e =>
    { m.image with domain := e.domain, touch := e.touch, hepoch := e.hepoch, set := m.dset, loc := m.dloc })

/-- MIGRATION_MOVE_COMMIT (R215, R275): not before the stalls of the channels it reads and writes end (R190, R308). -/
def execMigrationMoveCommit (page : BitVec 34) (uncorr : BitVec 64) (s : State) :
    Outcome State Fault Refusal :=
  let p := page.toNat
  match s.migOf p with
  | none => .next s
  | some m =>
    if s.migStill p m then .next s
    else match m.kind with
    | .nearMove => .next (((s.fetchLeaf p).1.each (upTo 64) (fun s j => s.copyNear p m uncorr j)).moved_ p m)
    | .binMove =>
      let r := (s.fetchLeaf p).1.copyBin p m uncorr
      .next (if r.2 then r.1.moved_ p m else r.1.migPoisoned p m)
    | _ => .next s

end Sys2Proof.Machine
end

