-- ==== Sys2Proof/Machine/Ddr.lean ====
section
/-! DEFINITION. Commands of the DDR5 channels: training, refresh, frequency changes, scrub, read checks,
sparing, repair, mirroring, service and thermal readings (R170-R213). -/

namespace Sys2Proof.Machine

open Host (Outcome)

/-- Raise a channel event (R207). -/
def State.raiseChan (s : State) (c k en code : Nat) (detail : List Nat) : State :=
  s.raise { src := srcChan c k, site := siteOfPage (chanPage c en), subject := c, detail := detail, code := code }

/-- A channel is quarantined for a fault of one of its engines, which is filed as class S (R201, R489). -/
def State.chanOut (s : State) (c en : Nat) : State := (s.quarantineChan c).fileP (chanPage c en) 3 0

/-! ### Training and the PHY -/

/-- DQS_TRACK (R175): once every 64 ms. -/
def execDqsTrack (c : Fin 16) (s : State) : Outcome State Fault Refusal :=
  .next (s.when (s.serves c.val) (fun s =>
    let s := s.reach ((s.chan c.val).dqsAt + ms 64)
    s.onChan c.val (fun ch => { ch with dqsAt := s.now })))

/-- CA parity or write CRC is armed (R175). -/
def State.caArmed (s : State) (c : Nat) : Bool :=
  s.serves c && !(s.chan c).still &&
    (s.cfgBit (chanPage c 0) 0x80 10 || s.cfgBit (chanPage c 0) 0x80 11)

/-- CA_ALERT (R175): the sixteenth alert of the last second owes a quick retrain. -/
def execCaAlert (c : Fin 16) (rank : BitVec 5) (s : State) : Outcome State Fault Refusal :=
  .next (s.when (s.caArmed c.val) (fun s =>
    let l := s.now :: (s.chan c.val).alerts.filter (fun t => decide (s.now < t + sec 1))
    (s.onChan c.val (fun ch => { ch with
      alerts := l, retrainOwed := ch.retrainOwed || decide (16 ≤ l.length) })).raiseChan c.val 15 6 0 [rank.toNat]))

/-- A soft repair holds a bank of a channel (R195). -/
def Channel.softHold (ch : Channel) : Bool :=
  match ch.job with
  | some (.soft _) => true
  | _ => false

/-- QUICK_RETRAIN (R175): the count of alerts is cleared when it starts. It waits for the stall that runs (R308). -/
def execQuickRetrain (c : Fin 16) (s : State) : Outcome State Fault Refusal :=
  .next (s.when ((s.chan c.val).retrainOwed && s.serves c.val && !(s.chan c.val).still && !(s.chan c.val).softHold) (fun s =>
    s.onChan c.val (fun ch => { ch with retraining := true, retrainOwed := false, alerts := [] })))

/-- QUICK_RETRAIN_END (R175, R308): a failure, which the scheduler reports, quarantines the channel (R489). -/
def execQuickRetrainEnd (c : Fin 16) (ok : Bool) (s : State) : Outcome State Fault Refusal :=
  .next (s.when (s.chan c.val).retraining (fun s =>
    let s := s.onChan c.val (fun ch => { ch with retraining := false })
    (if ok then s else s.chanOut c.val 0).stallEnd c.val))

/-! ### Refresh -/

/-- REFRESH_DUE (R182, R183): postponed while requests to the rank are pending, else issued, which leaves the rank
precharged; at the limit it is forced, ahead of the unit's other commands (R188). -/
def execRefreshDue (c : Fin 16) (rank : BitVec 5) (sub : Fin 2) (busy : Bool) (s : State) :
    Outcome State Fault Refusal :=
  let c := c.val
  let k := 2 * rank.toNat + sub.val
  .next (s.when (s.refreshes c && !(s.chan c).fctlBusy && (s.chan c).takes rank.toNat) (fun s =>
    let s := s.reach ((look? (s.chan c).due k).getD s.now)
    let d := look 0 (s.chan c).debt k
    if busy && decide (d < s.debtLimit c) then
      (s.nextDue c k).onChan c (fun ch => { ch with debt := put 0 ch.debt k (d + 1), debtHwm := max ch.debtHwm (d + 1) })
    else ((s.nextDue c k).refreshNow c k).rankTurn c k false))

/-- tRFC of the present mode and timing set in ns; the DRAM command clock runs at half the transfer rate, of an MRDIMM at a
quarter (R184, R210; assumption 126). -/
def State.tRfc (s : State) (c : Nat) : Nat :=
  let lo := if s.cfgBit (chanPage c 1) 0x80 0 then 12 else 0
  let n := s.cfg (chanPage c 0) (if (s.chan c).setB then 0x12C else 0x10C) lo 12
  ceilDiv (n * (if 5 ≤ (s.chan c).speed then 4000 else 2000)) (mtps (s.chan c).speed)

/-- REFRESH_REPAY (R184): one postponed refresh is issued, once the rank has had no request for REPAY_IDLE and tRFC after
the last one; the unit's other commands to the rank's banks go first (R188). -/
def execRefreshRepay (c : Fin 16) (rank : BitVec 5) (sub : Fin 2) (s : State) : Outcome State Fault Refusal :=
  let c := c.val
  let k := 2 * rank.toNat + sub.val
  .next (s.when (s.refreshes c && !(s.chan c).fctlBusy && (s.chan c).takes rank.toNat &&
      decide (0 < look 0 (s.chan c).debt k)) (fun s =>
    let idle := (look? (s.chan c).reqAt k).elim 0 (· + 10 * s.cfg (chanPage c 1) 0x80 10 6)
    let next := (look? (s.chan c).repaidAt k).elim 0 (· + s.tRfc c)
    (s.reach (max idle next)).rankTurn c k true))

/-- MR4_POLL (R185): every 4 ms. -/
def execMr4Poll (c : Fin 16) (ranks : BitVec 32) (s : State) : Outcome State Fault Refusal :=
  .next (s.when (s.refreshes c.val && !(s.chan c.val).fctlBusy) (fun s =>
    let s := s.reach ((s.chan c.val).mr4At + ms 4)
    s.onChan c.val (fun ch => { ch with mr4 := ranks, mr4At := s.now })))

/-- RFM_REQUEST (R187): the back-off is answered with refresh management of the bank, behind a refresh that is forced
(R188). -/
def execRfmRequest (c : Fin 16) (rank : BitVec 5) (sub : Fin 2) (bg : Fin 8) (ba : Fin 4) (s : State) :
    Outcome State Fault Refusal :=
  let c := c.val
  let r : RepairRec := { rank := rank.toNat, sub := sub.val, dev := 0, bg := bg.val, ba := ba.val, row := 0 }
  .next (s.when (s.refreshes c && (s.chan c).takes rank.toNat) (fun s =>
    (s.bankTurn c (bankKey r) true false).raiseChan c 16 1 0 [rank.toNat]))

/-! ### Frequency changes -/

/-- Window offsets of DDRC.FCTL, DDRC.SVC and DDRP.CMD. -/
def fctlOff (c : Nat) : Nat := chanPage c 0 * 4096 + 0x8C

/-- Window offset of DDRC.SVC. -/
def svcOff (c : Nat) : Nat := chanPage c 0 * 4096 + 0x90

/-- Window offset of DDRP.CMD. -/
def ddrpOff (c : Nat) : Nat := chanPage c 4 * 4096 + 0x80

/-- The effect of DDRC.FCTL.GO (R190): during another stall the change is deferred (R308); while a change is in progress or
deferred nothing happens. -/
def State.fctlGo (s : State) (c : Nat) : State :=
  let ch := s.chan c
  if ch.fctlBusy || ch.fctlOwed then s
  else if !(if ch.setB then ch.validA else ch.validB) then s.onChan c (fun ch => { ch with fctlResult := 1 })
  else if ch.st != .active || ch.job == some .hard then s.onChan c (fun ch => { ch with fctlResult := 2 })
  else if ch.still || ch.softHold then s.onChan c (fun ch => { ch with fctlOwed := true })
  else s.freqChange c

/-- FCTL_GO (R190). -/
def execFctlGo (m : Master) (c : Fin 16) (s : State) : Outcome State Fault Refusal :=
  let off := fctlOff c.val
  .next (s.gate m off (s.rmw off [(0, 1, 1)]) (fun s => s.fctlGo c.val))

/-- The critical action of a channel, once for each time that it reaches the level: the channel is quarantined, the fault
filed also where it was quarantined already, and its ranks are held in self-refresh (R205). -/
def State.tooHotAct (s : State) (c : Nat) : State :=
  let st := (s.chan c).st
  s.when ((st == .active || st == .draining || st == .quarantined) && !(s.chan c).hotDone) (fun s =>
    ((s.chanOut c 5).repayAll c).onChan c (fun ch => { ch with selfRef := true, hotDone := true }))

/-- FREQ_CHANGE_END (R190, R206, R308): the copies go on, and the requests that waited. -/
def execFreqChangeEnd (c : Fin 16) (ok : Bool) (s : State) : Outcome State Fault Refusal :=
  .next (s.when (s.chan c.val).fctlBusy (fun s =>
    let s := s.onChan c.val (fun ch => { ch with fctlBusy := false, copy := ch.copy.resume s.now })
    let s := s.when (!(s.chan (c.val ^^^ 1)).fctlBusy) (fun s =>
      s.onChan (c.val / 2 * 2) (fun ch => { ch with silver := ch.silver.resume s.now }))
    let s := if ok then
        let b := !(s.chan c.val).setB
        let v := s.cfg (chanPage c.val 0) (if b then 0x134 else 0x114) 0 4
        (s.settleAll.onChan c.val (fun ch => { ch with setB := b, speed := v, fctlResult := 0 })).raiseChan c.val 24 0 0 []
      else s.onChan c.val (fun ch => { ch with fctlResult := 3 })
    (s.when (s.chan c.val).tooHot (fun s => s.tooHotAct c.val)).stallEnd c.val))

/-! ### What a line of a channel belongs to -/

/-- Mark a metadata line bad: byte b of the metadata block of extent x (R104, R123, R267, R269, R281). -/
def State.metaBad (s : State) (x b : Nat) : State :=
  let addMap := fun (n : Nat) => s.withMem { s.mem with badMap := n :: s.mem.badMap.filter (· != n) }
  let addBlock := fun (hs lvl i copy : Nat) =>
    let k := 2 * blockKey hs lvl i + copy
    s.withMem { s.mem with badCopy := k :: s.mem.badCopy.filter (· != k) }
  if b < 0x100000 then addMap (16384 * x + b / 64)
  else if b < 0x500000 then
    let p := 65536 * x + (b - 0x100000) / 64
    addBlock (homeOf p) 1 (p / 32) 0
  else
    let g := s.grainOf x
    let a := b - 0x500000
    let n := s.nodeNo x b
    let copy := if a % (2 * g) < g then 0 else 1
    if n < 1024 then addBlock (n / 32) 2 (32 * x + n % 32) copy
    else
      let lvl := 3 + (n - 1024) / 32
      match s.mem.holder.find? (fun e => e.1 / 2 ^ 40 == lvl && e.2.1 == x) with
      | some e => addBlock ((n - 1024) % 32) lvl (e.1 % 2 ^ 40) copy
      | none => s

/-- What the DRAM line at a byte of a set holds: a metadata block's byte, a line of a near page or a bin
line of a page. -/
inductive MediaOwner
  | metaByte (ext b : Nat) | line (n : Nat) | binLine (page : Nat) | free
  deriving DecidableEq, Repr

/-- The owner of a byte of a set. -/
def State.ownerAt (s : State) (i x : Nat) : MediaOwner :=
  let f := x / 4096
  match s.metaOwner i f with
  | some e => .metaByte e (x - 4096 * (s.ext e).metaFrame)
  | none =>
    let holds := fun (e : Nat × PageEntry) =>
      let w := s.whereIs e.1
      w.set == i && ((w.st == .near && w.loc == f) ||
        ((w.st == .compressed || w.st == .rawInBin) && decide (w.loc ≤ x / 1024) && decide (x / 1024 < w.loc + w.binsize)))
    match s.mem.pages.find? holds with
    | some e => if (s.whereIs e.1).st = .near then .line (64 * e.1 + x % 4096 / 64) else .binLine e.1
    | none => .free

/-- The DRAM copy of a line is uncorrectable from now on. -/
def State.lineBad (s : State) (c off : Nat) : State :=
  let s := s.copyWalk c
  s.when (s.getMedia c off).isSome (fun s =>
    s.withMem { s.mem with lines := enter .bad s.mem.lines (mediaKey c ((s.chan c).place off)) })

/-- What a channel offset belongs to. -/
def State.ownerOf (s : State) (c off : Nat) : MediaOwner :=
  match s.setByte c off with
  | some (i, x) => s.ownerAt i x
  | none => .free

/-- A line, or the metadata line that lies there, is uncorrectable from now on (R104, R281). -/
def State.ownedBad (s : State) (c off : Nat) : State :=
  match s.ownerOf c off with
  | .metaByte e b => s.metaBad e b
  | _ => s.lineBad c off

/-- A read finds an uncorrectable line without a good partner: ECC_UNCORR, class D, naming the DPA or the
page (R104, R179, R238). One copy of an upper node of which the other is good is class C (R281). -/
def State.foundBad (s : State) (c off : Nat) : State :=
  let subject := match s.ownerOf c off with
    | .line n => n
    | .binLine p => p
    | _ => 0
  let cls := match s.ownerOf c off with
    | .metaByte _ b => if 0x500000 ≤ b then 1 else 2
    | _ => 2
  (((s.ownedBad c off).countUe c).raise
    { src := srcChan c 12, site := siteOfPage (chanPage c 2), cls := cls, subject := subject, detail := [off] }).fileP
    (chanPage c 2) cls 0

/-! ### Scrub and read checks -/

/-- Lines of a channel that the patrol scrub reads, the spare rank included (R191). -/
def Channel.lineCount (ch : Channel) : Nat := ch.lranks * 2 ^ (ch.rb + 13)

/-- When the next line of a scrub pass is read: the reads are spread evenly over HOURS (R191). -/
def State.scrubDue (s : State) (c : Nat) : Nat :=
  let ch := s.chan c
  ch.scrubFrom + (ch.scrub + 1) * sec (3600 * s.cfg (chanPage c 3) 0x80 0 8) / max 1 ch.lineCount

/-- The scrub meets an uncorrectable line, which is not rewritten: a metadata line of a mirrored set is left to its next read,
which may find its partner good (R179, R191). -/
def State.scrubBad (s : State) (c off : Nat) : State :=
  match s.ownerOf c off with
  | .metaByte _ _ =>
    if s.inMirror (c / 2 * 2) off then
      s.withMem { s.mem with badMeta := mediaKey c off :: s.mem.badMeta.filter (· != mediaKey c off) }
    else s.ownedBad c off
  | _ => s.lineBad c off

/-- SCRUB_READ (R191): the next line, corrected or reported. -/
def execScrubRead (c : Fin 16) (err : BitVec 640) (s : State) : Outcome State Fault Refusal :=
  let c := c.val
  .next (s.when (s.serves c && s.cfgBit (chanPage c 3) 0x80 8 && !(s.chan c).still) (fun s =>
    let r := checkOf err s.free
    let s := s.takeFree.reach (s.scrubDue c)
    let off := 64 * (s.chan c).scrub
    let v := s.getMedia c off
    let bad := v == some .bad || r == .uncorrectable
    let s := if bad then ((s.scrubBad c off).countUe c).raiseChan c 13 3 0 [off]
      else match r with
        | .corrected d => if v = some .poison then s else s.corrected c off d.val
        | _ => s
    let n := (s.chan c).scrub + 1
    if (s.chan c).lineCount ≤ n then
      (s.onChan c (fun ch => { ch with scrub := 0, scrubFrom := s.now, passes := satAdd 0xFFFFFF ch.passes 1 })).raiseChan c 14 3 0 []
    else s.onChan c (fun ch => { ch with scrub := n })))

/-- A read meets a line that fails its tag: a near line takes the poison pattern, and a metadata line acts as an
uncorrectable one (R104, R263, R279, R281). -/
def State.foundTagFail (s : State) (c off : Nat) : State :=
  match s.setByte c off with
  | none => s
  | some (i, x) =>
    match s.ownerAt i x with
    | .line n =>
      let p := lnPage n
      (((s.tagFailed (homeOf p) n).fileP (hsPage (homeOf p) 4) 2 0)).poisonMedia p i (x / 4096) (n % 64)
    | .binLine p => ((s.tagFailed (homeOf p) p).fileP (hsPage (homeOf p) 4) 2 0).lineBad c off
    | .metaByte e b => s.metaBad e b
    | .free => s

/-- When the metadata line at a byte of an extent's metadata block was created (R266, R269, R276). -/
def State.metaBorn (s : State) (x b : Nat) : Nat :=
  let n := s.nodeNo x b
  if b < 0x100000 then look 0 s.mem.chunks (16 * x + b / 65536)
  else if b < 0x500000 then look 0 s.mem.chunks (16 * x + (b - 0x100000) / 262144)
  else if n < 1024 then look 0 s.mem.chunks (16 * x + n % 32 / 2)
  else ((s.mem.holder.filter (fun e => e.1 / 2 ^ 40 == 3 + (n - 1024) / 32 && e.2.1 == x)).map (·.2.2)).headD 0

/-- The partner's copy of a mirrored line may stand for it: the channel serves, and its copy is the line as it was last
written; of a line that holds nothing of a page, both copies are alike or the pair is in SYNC (R179, R200, R263). -/
def State.partnerGood (s : State) (c off other : Nat) : Bool :=
  let ev := c / 2 * 2
  let sync := (s.chan ev).mir == .sync
  let held := fun (b : TagBind) => match s.getMedia other off with
    | some (.line _ t) => t == b
    | _ => false
  let free := match s.getMedia other off, s.getMedia c off with
    | some (.line _ t), some (.line _ u) => t == u
    | some (.line _ _), some .bad => sync
    | none, none => sync
    | _, _ => false
  s.inMirror ev off && s.serves other &&
    (match s.ownerOf c off with
     | .line n =>
       let p := lnPage n
       if (look 0 s.mem.zeroFill p).getLsbD (n % 64) then free else held (s.lineBind p (n % 64))
     | .binLine p =>
       let j := (s.setByte c off).elim 0 (fun e => e.2 / 64 - 16 * (s.whereIs p).loc)
       held (s.binBind p j (s.majorOf p))
     | .metaByte e b => !s.partnerOld ev off (s.metaBorn e b)
     | .free => free)

/-- The engine of a home slice that finds a tag failure in the line at a channel offset: of data the verifier, of page map
lines the metadata cache, of leaf blocks and nodes the counter-tree walker (R263). -/
def State.tagSite (s : State) (c off : Nat) : Option Nat :=
  match s.ownerOf c off with
  | .line n => some (hsPage (homeOf (lnPage n)) 4)
  | .binLine p => some (hsPage (homeOf p) 4)
  | .metaByte x b =>
    let n := s.nodeNo x b
    if b < 0x100000 then some (hsPage (homeOf (65536 * x + b / 64 * 4)) 7)
    else if b < 0x500000 then some (hsPage (homeOf (65536 * x + (b - 0x100000) / 64)) 5)
    else some (hsPage (if n < 1024 then n / 32 else n % 32) 5)
  | .free => none

/-- A tag failure of a line is raised, of data or bin lines alone (R263). -/
def State.tagRaised (s : State) (c off : Nat) : State :=
  match s.ownerOf c off with
  | .line n => s.tagFailed (homeOf (lnPage n)) n
  | .binLine p => s.tagFailed (homeOf p) p
  | _ => s

/-- A line is rewritten from its partner's copy (R199). -/
def State.fromOther (s : State) (c off other : Nat) : State :=
  match s.getMedia other off with
  | some v => s.storeAt c off v
  | none => s

/-- What the partner's copy of a failing line brings: one that is clean or corrected stands for the line, and one that fails
too is reported on its own (R179, R211, R263). -/
def State.fromPartner (s : State) (c off other : Nat) (r : CheckResult) : State :=
  let s := s.withMem { s.mem with
    badMeta := s.mem.badMeta.filter (· != mediaKey c off), metaPoison := s.mem.metaPoison.filter (· != mediaKey c off) }
  match r with
  | .clean => s.fromOther c off other
  | .corrected d => (s.fromOther c off other).corrected other off d.val
  | .uncorrectable => s.countUe other
  | .tagFail => s.tagRaised c off

/-- DRAM_READ_RETURN (R179, R263): what the check-storage unit finds of a line read that came with an error in some of its
80 bytes; the partner line of a mirrored set is read with another. The poison pattern is no error, nor is one changed only
within one device (R278). -/
def execDramReadReturn (c : Fin 16) (off : BitVec 40) (err perr : BitVec 640) (s : State) :
    Outcome State Fault Refusal :=
  let c := c.val
  let off := off.toNat / 64 * 64
  let other := if c % 2 = 0 then c + 1 else c - 1
  if !s.serves c || (s.getMedia c off == some .poison && decide ((devicesHit err).length ≤ 1)) then .next s
  else
    let r := checkOf err s.free
    let pr := checkOf perr (s.free + 1)
    let s := s.takeFree.takeFree.copyWalk c
    let read := s.inMirror (c / 2 * 2) off && s.serves other
    let good := s.partnerGood c off other && (match pr with
       | .clean | .corrected _ => true
       | _ => false)
    let pbad := s.getMedia other off == some .bad
    let from_ := fun (s : State) => s.when (good || (read && (pbad || pr == .uncorrectable || pr == .tagFail)))
      (fun s => s.fromPartner c off other (if pbad then .uncorrectable else pr))
    match r with
    | .clean => .next s
    | .corrected d => .next (s.corrected c off d.val)
    | .uncorrectable =>
      .next (if good then (from_ (s.countUe c)).fileP (chanPage c 2) 1 0 else (from_ s).foundBad c off)
    | .tagFail =>
      .next (if good then
          match s.tagSite c off with
          | some p => (from_ (s.tagRaised c off)).fileP p 1 0
          | none => s
        else (from_ s).foundTagFail c off)

/-- CE_WINDOW_STEP (R181): an hour of the rolling count ends. -/
def execCeWindowStep (c : Fin 16) (s : State) : Outcome State Fault Refusal :=
  let c := c.val
  let s := s.reach ((s.chan c).ceAt + sec 3600)
  let s := s.onChan c (fun ch => { ch with
    ceAt := s.now,
    ce := (ch.ce.map (fun e => (e.1, 0 :: e.2.take 254))).filter (fun e => e.2.any (· != 0)) })
  let still := (ones (s.chan c).ceOver.toNat 32).filter (fun r => decide (s.cfg (chanPage c 2) 0x80 0 16 ≤ s.ceSum c r))
  .next (s.onChan c (fun ch => { ch with ceOver := BitVec.ofNat 32 (still.foldl (fun a r => a + 2 ^ r) 0) }))

/-! ### Sparing -/

/-- Set DDRP.CMD.RESULT. -/
def State.ddrpResult (s : State) (c r : Nat) : State := s.onChan c (fun ch => { ch with ddrpResult := r })

/-- DDRP.CMD OP 1 (R192). -/
def State.spareCmd (s : State) (c rank : Nat) : State :=
  if !s.serves c || (s.chan c).job.isSome then s.ddrpResult c 2
  else if (s.chan c).lranks ≤ rank + 1 then s.ddrpResult c 5
  else if !s.spareFree c then s.ddrpResult c 3
  else s.startSparing c rank

/-- SPARE_RANK (R192, R212). -/
def execSpareRank (m : Master) (c : Fin 16) (rank : BitVec 5) (s : State) : Outcome State Fault Refusal :=
  let off := ddrpOff c.val
  .next (s.gate m off (s.rmw off [(0, 3, 1), (3, 5, rank.toNat)]) (fun s => s.spareCmd c.val rank.toNat))

/-- A rank takes no further command: what it holds, and what the refresh unit owes it, is dropped (R192). -/
def State.leaveRank (s : State) (c rank : Nat) : State :=
  let size := rankBytes (s.chan c).rb
  let s := s.withMem { s.mem with
    lines := dropKeys (fun k => k / 2 ^ 40 == c && k % 2 ^ 40 * 64 / size == rank) s.mem.lines }
  s.onChan c (fun ch => { ch with
    debt := dropKeys (fun k => k / 2 == rank) ch.debt, due := dropKeys (fun k => k / 2 == rank) ch.due,
    fast := ch.fast &&& ~~~(BitVec.ofNat 64 (3 * 2 ^ (2 * rank))),
    acts := dropKeys (fun k => k / 64 == rank) ch.acts, sampled := dropKeys (fun k => k / 64 == rank) ch.sampled })

/-- SPARE_COPY_END (R192, R194): the pointer reaches the end of the rank, and rankmap sends it to the spare. A copy that is
paused is not at its end (R206), and the copy runs only while the channel does. -/
def execSpareCopyEnd (c : Fin 16) (s : State) : Outcome State Fault Refusal :=
  let c := c.val
  match (s.chan c).job with
  | some (.sparing rank) =>
    .next (s.when (s.serves c && !(s.chan c).copy.paused) (fun s =>
      let k := (s.chan c).copy
      let size := rankBytes (s.chan c).rb
      let s := ((s.reach (k.since + ceilDiv (size - k.done) 4)).walkSpare c size).leaveRank c rank
      let s := s.onChan c (fun ch => { ch with spared := some rank, ddrpResult := 0 })
      (s.raiseChan c 19 4 0 [rank]).nextJob c))
  | _ => .next s

/-! ### Row repair -/

/-- The row that DDRP.ROW names on a rank (R195, R212). -/
def State.namedRow (s : State) (c rank : Nat) : RepairRec :=
  let v := s.cfg (chanPage c 4) 0x88 0 32
  { rank := rank, sub := bits v 23 1, dev := bits v 24 4, bg := bits v 18 3, ba := bits v 21 2, row := bits v 0 18 }

/-- DDRP.CMD OP 2 (R195). -/
def State.softCmd (s : State) (c rank : Nat) : State :=
  let r := s.namedRow c rank
  if !s.serves c then s.ddrpResult c 2
  else if (s.chan c).lranks ≤ rank ∨ 9 < r.dev ∨ 2 ^ (s.chan c).rb ≤ r.row then s.ddrpResult c 5
  else (s.ddrpResult c 0).startRepair c (.soft r)

/-- SOFT_REPAIR (R195): by command, or on its own for a row with errors on 8 lines in one device. -/
def execSoftRepair (c : Fin 16) (src : RepairSrc) (s : State) : Outcome State Fault Refusal :=
  match src with
  | .cmd m rank =>
    let off := ddrpOff c.val
    .next (s.gate m off (s.rmw off [(0, 3, 2), (3, 5, rank.toNat)]) (fun s => s.softCmd c.val rank.toNat))
  | .auto rank sub bg ba row dev =>
    let r : RepairRec := { rank := rank.toNat, sub := sub.val, dev := dev.val, bg := bg.val, ba := ba.val, row := row.toNat }
    .next (s.when (s.serves c.val && s.cfgBit (chanPage c.val 4) 0x80 9 && decide (8 ≤ (s.rowLines c.val r).length))
      (fun s => (s.onChan c.val (fun ch => { ch with rowCe := wipe ch.rowCe (rowKey r) })).startRepair c.val (.soft r)))

/-- A refresh falls due during step 2 of a soft repair that ends at `end_`: its due time is reached, and it is postponed past
DEBT_MAX but never past the mode's limit (R184, R206). -/
def State.softDue (s : State) (c k end_ : Nat) : State :=
  let t := (look? (s.chan c).due k).getD s.now
  let d := look 0 (s.chan c).debt k + 1
  s.when (decide (t ≤ end_) && decide (d ≤ s.modeLimit c)) (fun s =>
    ((s.reach t).nextDue c k).onChan c (fun ch => { ch with debt := put 0 ch.debt k d, debtHwm := max ch.debtHwm d }))

/-- Step 2 of a soft repair, of at most 4 us, with `n` refreshes of the rank that fall due in it: the debt is repaid before
it; they are repaid at once after it (R206). -/
def State.softStep (s : State) (c n : Nat) (r : RepairRec) : State :=
  let k := 2 * (s.chan c).rankmap r.rank + r.sub
  let end_ := s.now + us 4
  ((s.repayRank c k).each (upTo n) (fun s _ => s.softDue c k end_)).repayRank c k

/-- SOFT_REPAIR_END (R195-R197, R206): step 2 with the refreshes that fall due in it, the record stored, and a queued
operation starts once the requests that waited for the bank are served (R308). -/
def execSoftRepairEnd (r : RepairEnd) (s : State) : Outcome State Fault Refusal :=
  let c := r.chan.val
  match (s.chan c).job with
  | some (.soft p) =>
    let l := s.repairs c ++ [p]
    let s := (s.softStep c r.due.val p).onChan c (fun ch => { ch with repaired := ch.repaired ++ [p], ddrpResult := 0 })
    let s := ((s.storeRepairs c l).raiseChan c 20 4 0 [p.rank, p.row]).onChan c (fun ch => { ch with job := none })
    .next (s.stallEnd c)
  | _ => .next s

/-- DDRP.CMD OP 3 (R198). -/
def State.hardCmd (s : State) (c : Nat) : State :=
  if (s.chan c).st != .drained || (s.chan c).job.isSome then s.ddrpResult c 2
  else s.onChan c (fun ch => { ch with job := some .hard, ddrpResult := 0 })

/-- HARD_REPAIR (R198). -/
def execHardRepair (m : Master) (c : Fin 16) (s : State) : Outcome State Fault Refusal :=
  let off := ddrpOff c.val
  .next (s.gate m off (s.rmw off [(0, 3, 3)]) (fun s => s.hardCmd c.val))

/-- HARD_REPAIR_END (R198): records whose repair succeeded are cleared. -/
def execHardRepairEnd (c : Fin 16) (ok : BitVec 32) (s : State) : Outcome State Fault Refusal :=
  let c := c.val
  if (s.chan c).job = some .hard then
    let l := s.repairs c
    let keep := ((l.zip (upTo l.length)).filter (fun e => !ok.getLsbD e.2)).map (·.1)
    let s := s.onChan c (fun ch => { ch with job := none, ddrpResult := 0 })
    .next ((s.storeRepairs c keep).raiseChan c 20 4 0 [])
  else .next s

/-! ### Mirroring -/

/-- Set the state of a pair. -/
def State.setMir (s : State) (ev : Nat) (m : MirState) : State := s.onChan ev (fun ch => { ch with mir := m })

/-- A resilver of a pair begins (R199). -/
def State.startSilver (s : State) (c : Nat) (m : MirState) : State :=
  let s := (s.setMir c m).ddrpResult c 0
  s.onChan c (fun ch => { ch with
    silver := { since := s.now, paused := (s.chan c).fctlBusy || (s.chan (c + 1)).fctlBusy } })

/-- DDRP.CMD OP 4 (R199). -/
def State.resilverCmd (s : State) (c : Nat) : State :=
  if c % 2 = 1 then s.ddrpResult c 5
  else match (s.chan c).mir with
    | .evenOnly => if (s.chan (c + 1)).st = .active then s.startSilver c .resilverOdd else s.ddrpResult c 2
    | .oddOnly => if (s.chan c).st = .active then s.startSilver c .resilverEven else s.ddrpResult c 2
    | _ => s.ddrpResult c 2

/-- RESILVER (R199). -/
def execResilver (m : Master) (c : Fin 16) (s : State) : Outcome State Fault Refusal :=
  let off := ddrpOff c.val
  .next (s.gate m off (s.rmw off [(0, 3, 4)]) (fun s => s.resilverCmd c.val))

/-- DDRP.CMD OP 5 (R199): MIRROR_FAILOVER with cause code 1. -/
def State.unresilver (s : State) (c : Nat) : State :=
  if c % 2 = 1 then s.ddrpResult c 5
  else match (s.chan c).mir with
    | .resilverOdd => (((s.copyWalk c).setMir c .evenOnly).ddrpResult c 0).raiseChan c 21 4 1 []
    | .resilverEven => (((s.copyWalk c).setMir c .oddOnly).ddrpResult c 0).raiseChan c 21 4 1 []
    | _ => s.ddrpResult c 2

/-- CANCEL_RESILVER (R199). -/
def execCancelResilver (m : Master) (c : Fin 16) (s : State) : Outcome State Fault Refusal :=
  let off := ddrpOff c.val
  .next (s.gate m off (s.rmw off [(0, 3, 5)]) (fun s => s.unresilver c.val))

/-- RESILVER_END (R199): the pointer reaches the end. A resilver that is paused is not at its end (R206). -/
def execResilverEnd (c : Fin 16) (s : State) : Outcome State Fault Refusal :=
  let c := c.val
  .next (s.when (!(s.chan c).silver.paused) (fun s =>
    let k := (s.chan c).silver
    let t := s.reach (k.since + ceilDiv (s.mirrorBytes c - k.done) 4)
    if (s.silverWay c).isSome then (t.walkSilver c (s.mirrorBytes c)).setMir c .sync else s))

/-! ### Service -/

/-- Set DDRC.SVC.RESULT. -/
def State.svcResult (s : State) (c r : Nat) : State := s.onChan c (fun ch => { ch with svcResult := r })

/-- The last page of a draining channel has moved: its metadata blocks move, and the drain ends or pauses (R202). -/
def State.endDrain (s : State) (c : Nat) : State :=
  let s := s.moveMeta c
  if s.metaLeft c = [] then s.drained c else s.drainStalled c

/-- DDRC.SVC DRAIN (R201): of a quarantined channel, the pages that no partner holds are given up, and those that one
holds move from it. -/
def State.drainCmd (s : State) (c : Nat) : State :=
  match (s.chan c).st with
  | .active => (s.onChan c (fun ch => { ch with st := .draining, stalled := false })).svcResult c 0
  | .quarantined =>
    let s := ((s.giveUp c).moveMeta c).onChan c (fun ch => { ch with leaving := true })
    (s.when (s.pagesLeft c == []) (fun s => s.drained c)).svcResult c 0
  | _ => s.svcResult c 2

/-- SVC_DRAIN (R201). -/
def execSvcDrain (m : Master) (c : Fin 16) (s : State) : Outcome State Fault Refusal :=
  let off := svcOff c.val
  .next (s.gate m off (s.rmw off [(0, 3, 1)]) (fun s => s.drainCmd c.val))

/-- DDRC.SVC POWER_DOWN (R203): the refresh unit stops, the PHY's outputs go to high impedance with termination off, the
PMIC outputs are disabled, and the I3C pins go to high impedance. An empty slot stays absent (assumption 156). -/
def State.powerDownCmd (s : State) (c : Nat) : State :=
  if (s.chan c).st = .drained then
    let off := fun (d : Dimm) => if d.spd.isNone then d else { d with st := 3, pmic := false }
    ((((s.dropLines c).onChan c (fun ch => { ch with
      st := .poweredDown, phyOff := true, i3cOff := true, debt := [], due := [], fast := 0, dimm0 := off ch.dimm0, dimm1 := off ch.dimm1 })).svcResult c 0)).raiseChan c 23 5 0 []
  else s.svcResult c 2

/-- SVC_POWER_DOWN (R203). -/
def execSvcPowerDown (m : Master) (c : Fin 16) (s : State) : Outcome State Fault Refusal :=
  let off := svcOff c.val
  .next (s.gate m off (s.rmw off [(0, 3, 2)]) (fun s => s.powerDownCmd c.val))

/-- DDRC.SVC RETURN with what the slots' SPDs state (R204). -/
def State.returnCmd (s : State) (c : Nat) (a b : Option Spd) : State :=
  match (s.chan c).st with
  | .drained | .poweredDown | .disabled => (s.discover c a b true).svcResult c 0
  | _ => s.svcResult c 2

/-- SVC_RETURN (R204). -/
def execSvcReturn (m : Master) (c : Fin 16) (spd0 spd1 : Option Spd) (s : State) : Outcome State Fault Refusal :=
  let off := svcOff c.val
  .next (s.gate m off (s.rmw off [(0, 3, 3)]) (fun s => s.returnCmd c.val spd0 spd1))

/-- DDRC.SVC CANCEL (R201): the channel enters ACTIVE (R207). -/
def State.svcCancelCmd (s : State) (c : Nat) : State :=
  if (s.chan c).st = .draining then
    ((s.onChan c (fun ch => { ch with st := .active, stalled := false })).svcResult c 0).raiseChan c 10 63 0 []
  else s.svcResult c 2

/-- SVC_CANCEL (R201). -/
def execSvcCancel (m : Master) (c : Fin 16) (s : State) : Outcome State Fault Refusal :=
  let off := svcOff c.val
  .next (s.gate m off (s.rmw off [(0, 3, 4)]) (fun s => s.svcCancelCmd c.val))

/-- CHANNEL_DRAIN_END (R199, R201, R202): once every page and metadata block has moved. -/
def execChannelDrainEnd (c : Fin 16) (s : State) : Outcome State Fault Refusal :=
  let c := c.val
  .next (s.when (s.drains c && s.pagesLeft c == []) (fun s => s.endDrain c))

/-! ### Thermal readings -/

/-- The thermal level of a DIMM at a temperature, a level being left 3 degrees below its entry (R205). -/
def thermLevel (thr : List Nat) (old : Nat) (t : Int) : Nat :=
  ([3, 2, 1].find? (fun k =>
    let th : Int := (BitVec.ofNat 8 (thr.getD (k - 1) 0)).toInt
    decide (th ≤ t) || (decide (k ≤ old) && decide (th - 3 < t)))).getD 0

/-- The cap on activates to a DIMM, in thousandths of the channel's peak rate: half at the throttle level, and half again
for each further 2 degrees, down to an eighth (R205). -/
def throttleCap (thr : List Nat) (level : Nat) (t : Int) : Nat :=
  let th : Int := (BitVec.ofNat 8 (thr.getD 1 0)).toInt
  if level < 2 then 1000 else 500 / 2 ^ min 2 ((t - th).toNat / 2)

/-- A DIMM's two sensors are read: its temperature is the higher (R205). -/
def Dimm.sense (d : Dimm) (thr : List Nat) (a b : BitVec 8) : Dimm :=
  if d.spd.isNone then d
  else
    let t := if a.toInt < b.toInt then b else a
    let l := thermLevel thr d.level t.toInt
    { d with temp := t, level := l, cap := throttleCap thr l t.toInt }

/-- A DIMM that enters the throttle or the critical level is reported (R207). -/
def State.sayHot (s : State) (c o n slot : Nat) : State :=
  let s := s.when (decide (o < 2) && decide (2 ≤ n)) (fun s => s.raiseChan c 17 5 0 [slot])
  s.when (decide (o < 3) && decide (3 ≤ n)) (fun s => s.raiseChan c 18 5 0 [slot])

/-- DIMM_THERMAL_READ (R205): every 250 us, both sensors of both DIMMs; the I3C pins of a channel that is powered down
carry nothing (R203). During a frequency change the critical action waits for its end (R206). -/
def execDimmThermalRead (c : Fin 16) (t0 t1 : DimmTemps) (s : State) : Outcome State Fault Refusal :=
  let c := c.val
  .next (s.when (!(s.chan c).i3cOff) (fun s =>
    let s := s.reach ((s.chan c).thermAt + us 250)
    let v := s.cfg (chanPage c 5) 0x88 0 24
    let thr := [bits v 0 8, bits v 8 8, bits v 16 8]
    let o0 := (s.chan c).dimm0.level
    let o1 := (s.chan c).dimm1.level
    let s := s.onChan c (fun ch => { ch with
      thermAt := s.now, dimm0 := ch.dimm0.sense thr t0.a t0.b, dimm1 := ch.dimm1.sense thr t1.a t1.b })
    let s := (s.sayHot c o0 (s.chan c).dimm0.level 0).sayHot c o1 (s.chan c).dimm1.level 1
    if !(s.chan c).tooHot then s.onChan c (fun ch => { ch with hotDone := false })
    else s.when (!(s.chan c).fctlBusy) (fun s => s.tooHotAct c)))

end Sys2Proof.Machine
end

