-- ==== Sys2Proof/Machine/Fabric.lean ====
section
/-! DEFINITION. The Dunas link: flits and their CRC, lane repair, module states, credits, acknowledgement
and replay, and what the loss of the Borage site does (R337-R373). -/

namespace Sys2Proof.Machine

/-! ### Received flits -/

/-- A message that a Borage chiplet may send (R360). -/
def fromBorage (o : Nat) : Bool :=
  (decide (1 ≤ o) && decide (o ≤ 9)) || o == 0x18 || (decide (0x28 ≤ o) && decide (o ≤ 0x2E)) || o == 0x38 || o == 0x39

/-- A module end that faces Borage. -/
def brgModEnd (e : Nat) : Bool := decide (15 ≤ e) && decide (e < 19)

/-- What a receiver has of the message stream: data slots still needed, class, header and data slots of the message in
progress, credits used by class as (class, headers, data), and the messages that are whole (R348, R360, R361). -/
structure RxWalk where
  need : Nat
  cls : Nat
  hdr : Nat
  data : List (List Byte)
  used : List (Nat × Nat × Nat) := []
  done : List (Nat × List (List Byte)) := []
  deriving DecidableEq, Repr

/-- A message is whole once it needs no data slot more. -/
def RxWalk.settle (w : RxWalk) : RxWalk := if w.need = 0 then { w with done := w.done ++ [(w.hdr, w.data)] } else w

/-- The slots of a message flit from some on; none: a slot that does not fit (R348, R360). -/
def walkSlots (e : Nat) (f : BitVec 512) : List Nat → RxWalk → Option RxWalk
  | [], w => some w
  | s :: t, w =>
    let c := slotCode f s
    if c = 0 then (if w.need = 0 ∨ w.need = 64 then walkSlots e f t { w with need := 0 } else none)
    else if c = 1 then
      if w.need = 0 ∨ w.need = 64 then
        let o := slotOpc f s
        let n := o / 16
        if brgModEnd e && !fromBorage o then none
        else walkSlots e f t
          ({ w with need := (opcSlots o).getD 64, cls := n, hdr := flitBytes f (4 + 8 * s) 8, data := [],
                    used := w.used ++ [(n, 1, 0)] } : RxWalk).settle
      else none
    else if c = 2 then
      if w.need = 0 then none
      else
        let v := { w with data := w.data ++ [(upTo 8).map (fun u => lineByte f (4 + 8 * s + u))], used := w.used ++ [(w.cls, 0, 1)] }
        walkSlots e f t (if w.need = 64 then v else { v with need := w.need - 1 }.settle)
    else none

/-! ### Module states -/

/-- A module end raises an event (R377); the numbers of its causes are the model's (assumption 24). -/
def State.raiseDlnk (s : State) (e src code : Nat) : State :=
  s.raise { src := src, site := siteOfPage (modPage e 0), subject := e, code := code }

/-- DLNK.CFG of an end: its highest rate and widest width. -/
def State.maxRate (s : State) (e : Nat) : Nat := s.cfg (modPage e 0) 0x80 0 2

/-- The widest width code offered. -/
def State.maxWidth (s : State) (e : Nat) : Nat := s.cfg (modPage e 0) 0x80 2 2

/-- Credit timeout of an end in ns (R356, R378). -/
def State.creditTo (s : State) (e : Nat) : Nat := us 25 * s.cfg (modPage e 0) 0x80 4 6

/-- An end has retired or failed. -/
def ModuleEnd.gone (k : ModuleEnd) : Bool := k.st == .retired || k.st == .failed

/-- Every module of an end's connection has retired or failed (R302, R341). -/
def State.connGone (s : State) (e : Nat) : Bool := (sameConnection e).all (fun m => (s.mod m).gone)

/-- A chiplet reset takes a module end to OFF (R343). -/
def State.modOff (s : State) (e : Nat) : State :=
  s.onMod e (fun k => { lresets := k.lresets, crcErr := k.crcErr, replays := k.replays })

/-- The messages that a Borage module which has left has not sent move to the next one, once every flit sent on it has been
acknowledged; without another ACTIVE module they stay (R25, R345). -/
def State.moveSends (s : State) (e : Nat) : State :=
  if !brgModEnd e || !(s.mod e).unacked.isEmpty || (s.brgEnd (e - 15)).isNone then s
  else (s.onMod e (fun k => { k with sendq := [], waiting := [] })).each (s.mod e).sendq (fun s m => s.emit m)

/-- The messages whose flits a module that has left has sent without their acknowledgement are to be sent anew, ahead of
those not sent (R25, R345; assumption 24). -/
def State.recallSent (s : State) (e : Nat) : State :=
  s.onMod e (fun k => { k with unacked := [], inFlight := [], sendq := k.inFlight.map (·.2) ++ k.sendq })

/-- The messages of a retired module move to the next ACTIVE one, those whose flits are not acknowledged first (R25, R302,
R345). -/
def State.moveFlits (s : State) (e : Nat) : State :=
  if !brgModEnd e || (s.brgEnd (e - 15)).isNone then s else (s.recallSent e).moveSends e

/-- Messages wait at a module end that has nothing unacknowledged and is not paused. -/
def ModuleEnd.yields (k : ModuleEnd) : Bool :=
  k.st != .active && k.st != .change && k.st != .lreset && k.unacked.isEmpty && !k.sendq.isEmpty

/-- A Borage module has become ACTIVE: what waits at those that are not moves (R25, R345). -/
def State.pullSends (s : State) (e : Nat) : State :=
  s.when (brgModEnd e) (fun s =>
    s.each ([15, 16, 17, 18].filter (fun m => (s.mod m).yields)) (fun s m => s.moveSends m))

/-- A module end retires or fails: DLNK_RETIRED (R302, R341, R343, R345). -/
def State.retireMod (s : State) (e : Nat) (st : DlnkState) : State :=
  let s := s.onMod e (fun k => { k with
    st := st, ownReq := none, change := none, waitChange := false, owed := none, busy := false, replayWait := false,
    from_ := none, waiting := [] })
  (s.moveSends e).raiseDlnk e 642 (if st = .failed then 1 else 0)

/-- A link reset starts: the training pattern is sent; one needed within 1.5 ms of the last retires the
module (R302, R343, R344). A commanded change that waits is asked for after it. Causes: 1 credit timeout, 2 replay limit, 3 protocol error, 4 the peer's
pattern, 5 command, 6 failed change, 7 loss of lock; each of them acts in CHANGE as in ACTIVE (assumption 178). -/
def State.enterLreset (s : State) (e cause : Nat) : State :=
  let k := s.mod e
  if k.st != .active && k.st != .change then s
  else if k.lastLreset.any (fun t => decide (s.now < t + us 1500)) then s.retireMod e .retired
  else
    let s := s.onMod e (fun k => { k with
      st := .lreset, lresets := satAdd 255 k.lresets 1, creditSent := false, creditRcvd := false, paramRcvd := false,
      owed := if k.waitChange then k.ownReq else k.owed,
      ownReq := none, change := none, waitChange := false, retrained := false })
    (s.emit (.trainPattern e)).raiseDlnk e 641 cause

/-- A protocol error: DLNK_PROTO, and a link reset (R343, R377). -/
def State.protoError (s : State) (e : Nat) : State := (s.raiseDlnk e 646 0).enterLreset e 3

/-- Send INIT_PARAM: version 1.0, the slot, the index in the connection, the highest rate (R349). -/
def State.sendParam (s : State) (e : Nat) : State :=
  s.sendCtl e 2 [1, 0, pgSlot (modPage e 0), e - (sameConnection e).headD e, s.maxRate e]

/-- Credits that an end advertises: those of R357 at a Borage module, and as many between Ozquenko
chiplets (DESIGN CHOICE, assumption 24). -/
def myCredits : List Nat := [256, 2304, 64, 512, 128, 1024, 16, 16]

/-- The least that a Borage end advertises (R357). -/
def leastCredits : List Nat := [32, 288, 64, 512, 64, 0, 16, 16]

/-- An advertisement is accepted: within the limits of R355, and at a Borage module at least R357. -/
def creditsOk (e : Nat) (l : List Nat) : Bool :=
  (upTo 8).all (fun i => decide (l.getD i 0 ≤ (if i % 2 = 0 then 4095 else 32767)) &&
    (!brgModEnd e || decide (leastCredits.getD i 0 ≤ l.getD i 0)))

/-- Zero counts of the eight kinds of credit. -/
def noCounts : List Nat := List.replicate 8 0

/-- Rate or width below the configured maximum: DLNK_DEGRADED (R377). -/
def State.degraded (s : State) (e : Nat) : State :=
  s.when (decide ((s.mod e).rate < s.maxRate e) || decide ((s.mod e).width < s.maxWidth e)) (fun s =>
    s.raiseDlnk e 643 0)

/-- BRG_UP: Borage agents are usable through a module end (R373, R377). -/
def State.brgUp (s : State) (e : Nat) : State :=
  (s.withBrg { s.brg with st := 2 }).raise { src := 648, site := siteOfPage brgPage, subject := e }

/-- A module end enters ACTIVE from CREDIT: DLNK_UP; numbers and counts start at 0 (R343, R350). Outside a
recovery the first ACTIVE Borage module makes the agents usable. -/
def State.modUp (s : State) (e : Nat) : State :=
  let s := s.onMod e (fun k => { k with
    st := .active, txSeq := 0, unacked := [], inFlight := [], inRow := 0, next_ := 0, from_ := none, replayWait := false,
    rxUnacked := 0, rxNeed := 0, consumed := noCounts, returned := noCounts, myReturned := noCounts,
    waiting := [], busy := false })
  let s := s.raiseDlnk e 640 0
  let s := s.when (brgModEnd e && s.brg.st == 1) (fun s => s.brgUp e)
  State.pump 256 e (s.pullSends e)

/-- An end in CREDIT sends INIT_CREDIT, unless the sweep of Borage's agents holds it (R343, R373). -/
def State.sendCredit (s : State) (e : Nat) : State :=
  if brgModEnd e && s.brg.held then s
  else
    let s := (s.sendCtl e 3 myCredits).onMod e (fun k => { k with creditSent := true })
    s.when (s.mod e).creditRcvd (fun s => s.modUp e)

/-! ### Acknowledgement and replay -/

/-- The ACK_CREDIT that a receiver sends (R349, R351). -/
def State.sendAck (s : State) (e : Nat) : State :=
  let k := s.mod e
  (s.sendCtl e 0 ((0x8000 + (k.next_ + 4095) % 4096) :: k.myReturned)).onMod e (fun k => { k with rxUnacked := 0 })

/-- Replay from the oldest unacknowledged flit, beginning with REPLAY_START (R353). -/
def State.replay (s : State) (e : Nat) : State :=
  match (s.mod e).unacked with
  | [] => s
  | u :: r =>
    let s := s.sendCtl e 1 [u.1]
    let s := s.each (u :: r) (fun s f => (s.emit (.msgFlit e f.1)).drive e f.2.2)
    (s.onMod e (fun k => { k with
      unacked := k.unacked.map (fun f => (f.1, s.now, f.2.2)), replays := satAdd 0xFFFF k.replays 1, inRow := k.inRow + 1 })).count
      (modPage e 0) 0x11 (r.length + 1)

/-- How far b lies after a, modulo 4,096. -/
def seqDist (a b : Nat) : Nat := (b + 4096 - a) % 4096

/-- What the receiver has of the message that is in progress. -/
def ModuleEnd.rx (k : ModuleEnd) : RxWalk := { need := k.rxNeed, cls := k.rxCls, hdr := k.rxHdr, data := k.rxData }

/-- The receiver has accepted a flit whose slots fit: the credits of the slots return at once (R351, R352, R354). -/
def State.tookFlit (s : State) (e : Nat) (w : RxWalk) : State :=
  s.onMod e (fun k => { k with
    next_ := (k.next_ + 1) % 4096, from_ := none, rxNeed := w.need, rxCls := w.cls, rxHdr := w.hdr, rxData := w.data,
    rxOldestAt := if k.rxUnacked = 0 then s.now else k.rxOldestAt, rxUnacked := k.rxUnacked + 1,
    myReturned := w.used.foldl (fun l u => bump16 (bump16 l (2 * u.1) u.2.1) (2 * u.1 + 1) u.2.2) k.myReturned })

/-- The receiver takes the flit numbered NEXT where its slots fit, with the messages that are then whole (R348, R352); header bits
that R348 gives as 0 and that are not 0 are a protocol error (assumption 178). -/
def State.acceptFlit (s : State) (e : Nat) (f : BitVec 512) : State × List (Nat × List (List Byte)) :=
  if bits (flitBytes f 0 4) 14 16 ≠ 0 then (s.protoError e, [])
  else match walkSlots e f (upTo 7) (s.mod e).rx with
  | none => (s.protoError e, [])
  | some w => (s.tookFlit e w, w.done)

/-- A flit that fails its CRC is counted (R379, R514). -/
def State.crcFailed (s : State) (e : Nat) : State :=
  (s.onMod e (fun k => { k with crcErr := satAdd 0xFFFF k.crcErr 1 })).count (modPage e 0) 0x12 1

/-- A received message flit that fails: counted, and REPLAY_WAIT (R352, R379). -/
def State.badFlit (s : State) (e : Nat) : State :=
  (s.onMod e (fun k => { k with replayWait := true, from_ := none })).crcFailed e

/-- A message flit arrives at an end in ACTIVE, and brings the messages that are then whole (R348, R352); a flit of KIND 1 that
fails its CRC is taken as a message flit that fails (assumption 178). -/
def State.takeFlit (s : State) (e : Nat) (f : BitVec 512) : State × List (Nat × List (List Byte)) :=
  let k := s.mod e
  if k.replayWait then (s, [])
  else
    let n := k.from_.getD k.next_
    if !flitOk f n then (s.badFlit e, [])
    else if flitKind f ≠ 0 then (s.protoError e, [])
    else if n = k.next_ then s.acceptFlit e f
    else (s.onMod e (fun k => { k with from_ := some ((n + 1) % 4096) }), [])

/-- A REPLAY_START arrives (R352). -/
def State.takeReplayStart (s : State) (e seq : Nat) : State :=
  let k := s.mod e
  if k.st != .active then s
  else if seq ≠ k.next_ ∧ seqDist k.next_ seq < 2048 then s.protoError e
  else s.onMod e (fun k => { k with replayWait := false, from_ := if seq = k.next_ then none else some seq })

/-- The way of a forwarded piece: its module from its Chervil, and its module to Borage (R358, R368). -/
def State.fwdPath (s : State) (p : FwdPiece) : Nat × Nat :=
  (19 + 3 * (((s.linkOf p.ld).getD 0) / 8) + p.ld % 3, p.ld % 4)

/-- Send the forwarded pieces whose credits have come back, those of one way in their order (R358, R368), and none before the
RQ messages that wait at its module. -/
def State.pumpFwd : Nat → State → State
  | 0, s => s
  | f + 1, s =>
    let l := s.brg.fwdWait
    let first := l.filter (fun p => (l.find? (fun x => s.fwdPath x == s.fwdPath p)) == some p)
    let may := fun (p : FwdPiece) => match s.brgVia p.ld with
      | some e => (s.mod e).maySend 0 (if p.len = 0 then 9 else 0) && !(s.mod e).queued 0
      | none => false
    match first.find? may with
    | none => s
    | some p =>
      let s := s.withBrg { s.brg with fwdWait := l.erase p }
      let e := (s.brgVia p.ld).getD 15
      let s := s.onMod e (fun k => { k with waiting := wipe k.waiting 0 })
      let off := p.off / 64
      let s :=
        if p.len = 0 then s.sendNow e (.fwdWr p.ld off p.mask p.data) 0 9
        else
          let tag := (((upTo 1024).map (fun i => (s.brg.nextTag + i) % 1024)).find? (fun t =>
            !s.brg.fwd.any (fun x => x.tag == t))).getD 0
          let r : FwdReq := { tag := tag, m := none, ld := p.ld, htag := p.htag, off := p.off, len := p.len,
                              wr := none, at_ := s.now, got := none }
          (s.withBrg { s.brg with fwd := s.brg.fwd ++ [r], nextTag := (tag + 1) % 1024 }).sendNow e
            (.fwdRd tag p.ld off) 0 0
      State.pumpFwd f s

/-- The credit timers of the Borage modules follow what waits for them (R356). -/
def State.fwdTimers (s : State) : State := s.each [15, 16, 17, 18] State.creditTimers

/-- A Borage module end sends what may be sent (R354). -/
def State.pumpAll (s : State) (e : Nat) : State :=
  if brgModEnd e then (State.pumpFwd 1024 (State.pump 256 e s)).fwdTimers else s

/-- An ACK_CREDIT arrives (R351, R355, R356). -/
def State.takeAck (s : State) (e : Nat) (valid : Bool) (ackseq : Nat) (ret : List Nat) : State :=
  let k := s.mod e
  let delta := fun (i : Nat) => (ret.getD i 0 + 65536 - k.returned.getD i 0) % 65536
  if k.st != .active && !(k.gone && !k.unacked.isEmpty) then s
  else if (upTo 8).any (fun i => decide (k.inUse i < delta i)) then s.protoError e
  else
    let acked := valid && k.unacked.any (fun f => f.1 == ackseq)
    let left := if acked then (k.unacked.dropWhile (fun f => f.1 != ackseq)).tail else k.unacked
    let raised := (upTo 4).filter (fun c => decide (0 < delta (2 * c)) || decide (0 < delta (2 * c + 1)))
    let s := s.onMod e (fun k => { k with
      unacked := left, inFlight := k.inFlight.filter (fun m => left.any (fun f => f.1 == m.1)),
      inRow := if acked then 0 else k.inRow,
      returned := (upTo 8).map (fun i => ret.getD i 0),
      waiting := k.waiting.map (fun w => if raised.contains w.1 then (w.1, s.now) else w) })
    if k.gone then s.moveSends e else s.pumpAll e

/-! ### Changes -/

/-- Kind of a change in LINK_REQ and its width and rate codes (R349). -/
def changeCodes : LinkChange → List Nat
  | .width w => [1, w.val, 0]
  | .rate r => [2, 0, r.val]
  | .retrain => [3, 0, 0]

/-- Ask the peer for a change; the module pauses (R342, R343). -/
def State.startChange (s : State) (e : Nat) (ch : LinkChange) : State :=
  let s := s.onMod e (fun k => { k with st := .change, change := some ch, ownReq := some ch, waitChange := false })
  s.sendCtl e 4 (changeCodes ch ++ [pgSlot (modPage e 0)])

/-- A commanded change: it waits until 1.5 ms have passed since the last LRESET or CHANGE (R344). -/
def State.askChange (s : State) (e : Nat) (ch : LinkChange) : State :=
  if (s.mod e).lastReset.any (fun t => decide (s.now < t + us 1500)) then
    s.onMod e (fun k => { k with waitChange := true, ownReq := some ch })
  else s.startChange e ch

/-- A change that a peer asks for is one that this end offers: a rate and a width up to its maximum (R341). -/
def State.offers (s : State) (e : Nat) : LinkChange → Bool
  | .retrain => true
  | .width w => decide (w.val ≤ s.maxWidth e)
  | .rate r => decide (r.val ≤ s.maxRate e)

/-- A LINK_REQ arrives: one for more than this end offers is not accepted (R341; assumption 24); of two that cross, the lower slot's wins, and the other end withdraws its own (R342); a commanded
change that waits is asked for after the peer's (R344). -/
def State.takeReq (s : State) (e : Nat) (ch : LinkChange) (slot : Nat) : State :=
  let k := s.mod e
  let kind := (changeCodes ch).headD 0
  if (k.st == .active || k.st == .change) && !s.offers e ch then s.sendCtl e 5 [kind, 0]
  else if k.st == .active then
    let s := s.onMod e (fun k => { k with
      st := .change, change := some ch, owed := if k.waitChange then k.ownReq else k.owed, ownReq := none, waitChange := false })
    s.sendCtl e 5 [kind, 1]
  else if k.st == .change && k.ownReq.isSome then
    if pgSlot (modPage e 0) < slot then s.onMod e (fun k => { k with ownReq := none })
    else (s.onMod e (fun k => { k with change := some ch, ownReq := none, owed := k.ownReq })).sendCtl e 5 [kind, 0]
  else s

/-- A LINK_RSP arrives (R342). -/
def State.takeRsp (s : State) (e : Nat) (accept : Bool) : State :=
  s.when ((s.mod e).st == .change && (s.mod e).ownReq.isSome) (fun s =>
    s.onMod e (fun k => if accept then { k with ownReq := none }
      else { k with st := .active, ownReq := none, change := none, busy := false }))

/-- A change is still needed after another has ended (R342). -/
def changeNeeded (ch : LinkChange) (k : ModuleEnd) : Bool :=
  match ch with
  | .width w => k.width != w.val
  | .rate r => k.rate != r.val
  | .retrain => true

/-- A withdrawn change that is still needed is requested again (R342). -/
def State.askOwed (s : State) (e : Nat) : State :=
  match (s.mod e).owed with
  | none => s
  | some ch =>
    let s := s.onMod e (fun k => { k with owed := none })
    s.when (changeNeeded ch (s.mod e)) (fun s => s.askChange e ch)

/-- A module end is ACTIVE again: a withdrawn change is asked for, a command that is at its end is no longer BUSY, and what
waits is sent (R342, R354, R378). -/
def State.goesOn (s : State) (e : Nat) : State :=
  let s := (s.degraded e).askOwed e
  let s := s.onMod e (fun k => { k with busy := k.busy && k.ownReq.isSome })
  (s.pullSends e).pumpAll e

/-- A link reset ends: the replay begins with ACK_CREDIT (R344). -/
def State.resetDone (s : State) (e : Nat) : State :=
  let s := s.onMod e (fun k => { k with
    st := .active, lastReset := some s.now, lastLreset := some s.now, inRow := 0,
    waiting := k.waiting.map (fun w => (w.1, s.now)) })
  (((s.sendAck e).replay e).onMod e (fun k => { k with inRow := 0 })).goesOn e

/-- A link reset ends once the end has retrained and the peer's parameters and credits have come (R343, R344). -/
def State.tryResetDone (s : State) (e : Nat) : State :=
  s.when ((s.mod e).retrained && (s.mod e).paramRcvd && (s.mod e).creditRcvd) (fun s => s.resetDone e)

/-! ### DLNK.CTRL -/

/-- Window offset of DLNK.CTRL of a module end. -/
def dlnkOff (e : Nat) : Nat := modPage e 0 * 4096 + 0x84

/-- Set DLNK.CTRL.RESULT. -/
def State.dlnkResult (s : State) (e r : Nat) : State := s.onMod e (fun k => { k with result := r })

/-- A command of DLNK.CTRL is accepted, and in progress (R378). -/
def State.dlnkBusy (s : State) (e : Nat) : State := (s.dlnkResult e 0).onMod e (fun k => { k with busy := true })

/-- The effect of DLNK.CTRL.CMD (R343, R345, R378); a second change is refused while one waits (assumption 24). -/
def State.dlnkCmd (s : State) (e cmd : Nat) : State :=
  let k := s.mod e
  if cmd = 0 ∨ cmd = 7 then s
  else if cmd = 5 then
    if k.gone then (((s.dlnkBusy e).recallSent e).onMod e (fun k => { k with
      st := .train, failedRate := none, rateTop := 3, offer := 3, peer := 0, creditSent := false, creditRcvd := false,
      paramRcvd := false, retrained := false })).moveSends e
    else s.dlnkResult e 2
  else if k.st != .active then s.dlnkResult e 2
  else if cmd = 4 then
    if (sameConnection e).any (fun m => m != e && (s.mod m).st == .active) then
      (s.dlnkResult e 0).retireMod e .retired
    else s.dlnkResult e 1
  else if cmd = 6 then (s.dlnkBusy e).enterLreset e 5
  else if k.waitChange then s.dlnkResult e 2
  else (s.dlnkBusy e).askChange e (if cmd = 1 then .retrain
    else if cmd = 2 then .width (Fin.ofNat 3 (s.maxWidth e)) else .rate (Fin.ofNat 4 (min (s.maxRate e) k.offer)))

/-! ### The Borage site -/

/-- BRG_FWD_FAIL names the module end of the logical device's messages, and the logical device (R368, R377). -/
def State.fwdFail (s : State) (ld : Nat) : State :=
  s.raise { src := 650, site := siteOfPage brgPage, subject := (s.brgEnd ld).getD (15 + ld % 4), ld := some ld }

/-- A forwarded read fails: Completer Abort for the whole read (R368). -/
def State.fwdAbort (s : State) (ld htag : Nat) (ev : Bool) : State :=
  let s := s.withBrg { s.brg with
    fwd := s.brg.fwd.filter (fun x => !(x.m.isNone && x.ld == ld && x.htag == htag)),
    fwdWait := s.brg.fwdWait.filter (fun x => !(x.len != 0 && x.ld == ld && x.htag == htag)) }
  (s.when ev (fun s => s.fwdFail ld)).toHost ld (.ca ld htag)

/-- The forwarded reads that are pending, each once: logical device and host tag. -/
def State.fwdReads (s : State) : List (Nat × Nat) :=
  ((s.brg.fwd.filter (fun x => x.m.isNone)).map (fun x => (x.ld, x.htag)) ++
    (s.brg.fwdWait.filter (fun x => x.len != 0)).map (fun x => (x.ld, x.htag))).eraseDups

/-- The Borage agents. -/
def brgAgents : List Nat := (upTo 16).map (fun i => 64 + i)

/-- The Borage site is lost (R373): agents 64-79 are lost, its requests are abandoned, pending forwarded
reads receive Completer Abort, waiting writes are dropped, and its modules are held in CREDIT. -/
def State.brgLost (s : State) : State :=
  let mine := fun (r : Requester) => match r with
    | .borage _ => true
    | _ => false
  let s := s.withHome { s.home with
    retried := s.home.retried.filter (fun r => !mine r.req.who),
    queue := s.home.queue.map (fun q => if mine q.who then { q with drop := true } else q) }
  let s := s.agentsGone brgAgents
  let s := s.each s.fwdReads (fun s p => s.fwdAbort p.1 p.2 false)
  let s := s.each s.brg.fwdWait (fun s p => s.fwdFail p.ld)
  s.withBrg { s.brg with
    fwd := s.brg.fwd.filter (fun x => x.m.isSome), fwdWait := [], held := true,
    st := if s.brg.filler || s.brg.rst then 0 else 3 }

/-- BRG_RST_N is asserted: the modules go OFF (R343, R372). -/
def State.brgReset (s : State) : State :=
  let s := s.withBrg { s.brg with
    rst := true, st := 0, recovers := s.brg.present || s.brg.recovers, present := false, fltN := false }
  s.each [15, 16, 17, 18] (fun s e => (s.modOff e).onMod e (fun k => { k with sendq := [] }))

/-- BRG_RST_N is released where BRG.CFG.EN allows and a Borage chiplet stands in the slot (R372). -/
def State.brgRelease (s : State) : State :=
  s.when (!s.brg.filler && s.cfgBit brgPage 0x88 0) (fun s =>
    s.withBrg { s.brg with rst := false, rstRel := s.now, st := if s.brg.held then 3 else 1 })

/-- The sweep of Borage's agents ends: outside a reaction the lost-agent bits clear, and the modules leave CREDIT; BRG_UP is
raised with the first ACTIVE one (R66, R373, R381). -/
def State.brgSwept (s : State) : State :=
  let s := s.sweepDone brgAgents
  if s.flt.chipF.contains 12 || s.brg.rst || !s.brg.held then s
  else
    let s := (s.agentsBack brgAgents).withBrg { (s.agentsBack brgAgents).brg with held := false, st := 1 }
    let s := s.each [15, 16, 17, 18] (fun s e => s.when ((s.mod e).st == .credit) (fun s => s.sendCredit e))
    match s.brgEnd 0 with
    | some e => s.when (s.brg.st == 1) (fun s => s.brgUp e)
    | none => s

end Sys2Proof.Machine
end

