-- ==== Sys2Proof/Machine/Hyssop.lean ====
section
/-! DEFINITION. The power path: thresholds, trips and the trip record, the transistor model, power-good and
the commands of HSC.CMD (R408-R425, R438-R442). -/

namespace Sys2Proof.Machine

/-! ### Thresholds and parameters -/

/-- Change the power path. -/
def State.onHsc (s : State) (f : HotSwap → HotSwap) : State := s.withHsc (f s.hsc)

/-- HSC.CFG.UV in mV (R440). -/
def State.uvMv (s : State) : Nat := 8000 + 50 * s.cfg hscPage 0x80 0 8

/-- HSC.CFG.OV in mV (R440). -/
def State.ovMv (s : State) : Nat := 12500 + 50 * s.cfg hscPage 0x80 8 8

/-- The insertion delay in ns (R412). -/
def State.insDelay (s : State) : Nat := ms 50 * s.cfg hscPage 0x80 16 6

/-- HSC.CFG.DVDT, in 0.1 V/ms (R413). -/
def State.dvdt (s : State) : Nat := s.cfg hscPage 0x80 22 5

/-- HSC.LIM.BRK in ns (R414). -/
def State.brkTime (s : State) : Nat := us 250 * s.cfg hscPage 0x84 7 7

/-- FET.CFG.TMAX, TCOOL and TAMB in degrees (R442). -/
def State.tMax (s : State) : Rat := s.cfg fetPage 0x80 3 8

/-- FET.CFG.TCOOL. -/
def State.tCool (s : State) : Rat := s.cfg fetPage 0x80 11 8

/-- FET.CFG.TAMB. -/
def State.tAmb (s : State) : Rat := s.cfg fetPage 0x80 19 8

/-- The gate is on: RAMP or ON (R410). -/
def HotSwap.gateUp (h : HotSwap) : Bool := h.st == .ramp || h.st == .on

/-! ### The trip record -/

/-- The trip record, retained word 0x0A08 (R420, R441). -/
def State.tripRec (s : State) : Word := s.futureWord 0xA08

/-- Write the trip record (R419-R421). -/
def State.setTrip (s : State) (w : Word) : State := s.retWrite 0xA08 w none

/-- Time in limit since the gate was turned on (R419). -/
def State.timeInLimit (s : State) : Nat := s.hsc.inLimit + (s.hsc.limit.map (s.now - ·)).getD 0

/-- The gate is pulled (R415). -/
def State.gatePull (s : State) (st : HscState) : State :=
  s.onHsc (fun h => { h with st := st, gateOff := s.now, limit := none })

/-- The source that a trip raises (R415, R438). -/
def tripSource (cause : Nat) : Nat :=
  if cause = 1 then 67 else if cause = 2 then 68 else if cause = 3 then 69 else 76

/-- Raise an event of the power path. -/
def State.raiseHsc (s : State) (src code : Nat) (detail : List Nat) : State :=
  s.raise { src := src, site := siteOfPage (if src = 70 ∨ src = 77 then fetPage else hscPage), detail := detail, code := code }

/-- A trip (R415, R419): the gate is pulled, the record written, class P filed, and the path retries or
latches. -/
def State.trip (s : State) (cause : Nat) : State :=
  if !s.hsc.gateUp then s
  else
    let on := min s.timeInLimit (sec 1)
    let off := max (sec 2) (100 * on)
    let old := s.tripRec
    let rec_ := setField (setField (setField (setField old 13 19 (satAdd 0x7FFFF (fieldOf old 13 19) 1)) 10 3 cause) 8 1 1) 0 8
      (ceilDiv off (ms 500))
    let latch := !s.cfgBit hscPage 0x80 27 || s.hsc.retries == 15
    let s := (s.gatePull (if latch then .latched else .retryWait)).onHsc (fun h => { h with
      cause := cause, waitEnd := s.now + off, retries := if latch then h.retries else h.retries + 1 })
    let s := (s.setTrip rec_).raiseHsc (tripSource cause) cause [on, off, cause]
    let s := s.fileP hscPage 4 cause
    s.when latch (fun s => s.raiseHsc 73 0 [])

/-- The report of a breaker trip in the present tick as that of a fast trip: HSC_FAST_TRIP rises in place of HSC_BREAKER, and
the fault record and the records that wait for the log writer carry cause 2 (R415). -/
def State.asFastTrip (s : State) : State :=
  let mine := fun (w : LogWait) => decide (s.hsc.gateOff ≤ w.rec_.time) && w.rec_.code == 1
  let u := unitOf hscPage
  let s := s.withEvt { s.evt with
    pend := (s.evt.pend &&& ~~~(BitVec.ofNat 768 (2 ^ 67))) ||| BitVec.ofNat 768 (2 ^ 68),
    queue := s.evt.queue.map (fun w =>
      if !mine w then w
      else if w.rec_.source = 67 then
        { w with rec_ := { w.rec_ with source := 68, code := 2, detail := w.rec_.detail.take 2 ++ [2] } }
      else if w.rec_.source < 2 then { w with rec_ := { w.rec_ with code := 2 } } else w) }
  s.when ((s.frec u).active && (s.frec u).time == s.hsc.gateOff) (fun s => s.setRec u { s.frec u with cause := 2 })

/-- A fast trip in the tick of a breaker expiry makes one trip with cause 2 (R415). -/
def State.fastTrip (s : State) : State :=
  if s.hsc.gateUp then s.trip 2
  else s.when (s.hsc.cause == 1 && (s.hsc.st == .retryWait || s.hsc.st == .latched) && s.hsc.gateOff / 1000 == s.now / 1000)
    (fun s => ((s.onHsc (fun h => { h with cause := 2 })).setTrip (setField s.tripRec 10 3 2)).asFastTrip)

/-! ### The input and the ramp -/

/-- The ramp starts (R413). -/
def State.startRamp (s : State) : State :=
  s.onHsc (fun h => { h with
    st := .ramp, rampAt := s.now, gateOn := s.now, inLimit := 0, breaker := 0, limit := none })

/-- VIN leaves the window: in RAMP and ON the gate is pulled and HSC_OV or HSC_UV raised (R415, R422). -/
def State.vinOut (s : State) (mV src : Nat) : State :=
  let up := s.hsc.gateUp
  let s := s.onHsc (fun h => { h with vin := mV, vinOk := false })
  s.when up (fun s => (s.gatePull .insDelay).raiseHsc src 0 [])

/-- The current enters limit (R414, R438). -/
def State.enterLimit (s : State) : State :=
  s.when (s.hsc.gateUp && s.hsc.limit.isNone) (fun s =>
    (s.onHsc (fun h => { h with limit := some s.now, pgTicks := 0 })).raiseHsc 66 0 [])

/-- Temperature allows a retry after a trip of cause 3 (R419, R420). -/
def State.cooled (s : State) (cause : Nat) : Bool := cause != 3 || decide (s.hsc.tj < s.tCool)

/-! ### Power-good -/

/-- PG_OUT follows internal power-good, a level lasting at least 5 ms (R425). -/
def State.pgOutSync (s : State) : State :=
  s.when (s.hsc.pg != s.hsc.pgOut && s.hsc.pgOutAt.all (fun t => decide (t + ms 5 ≤ s.now))) (fun s =>
    (s.onHsc (fun h => { h with pgOut := h.pg, pgOutAt := some s.now })).raiseHsc (if s.hsc.pg then 74 else 75) 0 [])

/-- The current's part of a power-good tick: limit entered or left, ticks out of limit counted, those with the gate off among
them, and the breaker timer cleared after 1 ms of them (R414, R423). -/
def State.limitTick (s : State) (inLimit : Bool) : State :=
  if inLimit && s.hsc.gateUp then s.enterLimit
  else
    let left := s.hsc.limit.map (s.now - ·)
    s.onHsc (fun h =>
      let n := if left.isSome then 1 else min 5000 (h.pgTicks + 1)
      { h with
        limit := none, pgTicks := n, inLimit := h.inLimit + left.getD 0,
        breaker := if 1000 ≤ n then 0 else h.breaker + left.getD 0 })

/-- Whether internal power-good is asserted at the end of a tick, the last tick having ended at `last`: the gate
pulled since then deasserts it (R423, R424). -/
def State.pgAfter (s : State) (last vout gate : Nat) : Bool :=
  let h := s.hsc
  if h.pg then h.st == .on && decide (h.gateOff < last) && decide (10500 ≤ vout)
  else h.st == .on && decide (11000 ≤ vout) && decide (vout + 8000 ≤ gate) && h.limit.isNone && decide (5000 ≤ h.pgTicks)

/-- A power-good tick (R423): the first assertion after a wait clears COOL (R420). -/
def State.pgStep (s : State) (vout gate : Nat) (inLimit : Bool) : State :=
  let last := s.hsc.tickAt
  let s := s.reach (last + us 1)
  let s := s.onHsc (fun h => { h with tickAt := s.now, vout := vout })
  let s := s.limitTick inLimit
  let pg := s.pgAfter last vout gate
  let rose := pg && !s.hsc.pg
  let s := s.onHsc (fun h => { h with pg := pg })
  let s := s.when (rose && fieldOf s.tripRec 8 1 == 1) (fun s => s.setTrip (setField s.tripRec 8 1 0))
  s.pgOutSync

/-! ### The transistors -/

/-- One stage of the transistor model over 10 us: its value moves towards a target by 1 / `k` of the
distance (R416); with a time constant of 0 the value is left open. -/
def fetStep (n : Nat) (x target : Rat) (k : Nat) : Rat :=
  if k = 0 then Config.fetStage n else x + (target - x) / k

/-- A tick of the transistor model (R416): the estimate, its peak, the warning and the trip; the first tick since AUX reset
starts both stages at tamb, for which it brings the die temperature. -/
def State.fetTick (s : State) (vin vout iMa : Nat) (ntc : Option Int) (dieC : Int) : State :=
  let s := s.reach (s.hsc.fetAt + us 10)
  let n := s.cfg fetPage 0x80 0 2 + 1
  let p : Rat := (((vin : Int) - (vout : Int) : Int) : Rat) * (iMa : Rat) / (1000000 * (n : Rat))
  let tamb : Rat := max s.tAmb (dieC : Rat)
  let s := s.when (!s.hsc.modelled) (fun s => s.onHsc (fun h => { h with modelled := true, tc := tamb, tj := tamb, tpeak := tamb }))
  let ca : Rat := (s.cfg fetPage 0x84 8 8 : Rat) / 10
  let jc : Rat := (s.cfg fetPage 0x84 0 8 : Rat) / 100
  let use := s.cfgBit fetPage 0x80 2 && !s.hsc.ntcFault
  let model := fetStep s.free s.hsc.tc (tamb + p * ca) (10000 * s.cfg fetPage 0x84 24 8)
  let tc := match ntc with
    | some t => if use then (t : Rat) else model
    | none => model
  let tj := fetStep (s.free + 1) s.hsc.tj (tc + p * jc) (10 * s.cfg fetPage 0x84 16 8)
  let s := s.takeFree.takeFree
  let warm := decide (s.tMax - 20 < tj)
  let warn := warm && !s.hsc.warned
  let s := s.onHsc (fun h => { h with
    fetAt := s.now, vin := vin, vout := vout, tc := tc, tj := tj, tpeak := max h.tpeak tj, warned := warm })
  let s := s.when warn (fun s => s.raiseHsc 70 0 [])
  s.when (decide (s.tMax ≤ tj)) (fun s => s.trip 3)

/-- A damaged transistor is recognised (R418). -/
def State.damaged (s : State) : State :=
  let s := (s.onHsc (fun h => { h with st := .short, disc := true, cause := 5 })).setTrip
    (setField (setField s.tripRec 10 3 5) 9 1 1)
  (s.raiseHsc 71 5 []).fileP hscPage 4 5

/-! ### HSC.CMD -/

/-- Window offset of HSC.CMD. -/
def hscCmd : Nat := hscPage * 4096 + 0x8C

/-- Set HSC.CMD.RESULT. -/
def State.hscResult (s : State) (r : Nat) : State := s.onHsc (fun h => { h with result := r })

/-- START (R420-R422): the wait of the record, or 127.5 s from the AUX reset after a refused record, is served first. With no
verified firmware the path never ramps (R428; assumption 171). -/
def State.hscStart (s : State) : State :=
  let s' := s.hscResult 0
  if s.boot.st = 6 then s.hscResult 2
  else if s.hsc.st = .idle then
    if fieldOf s.tripRec 9 1 = 1 then s'.onHsc (fun h => { h with st := .short })
    else if s.hsc.refused then s'.onHsc (fun h => { h with st := .coolWait, waitEnd := s.boot.auxAt + ms 127500 })
    else if fieldOf s.tripRec 8 1 = 1 then
      s'.onHsc (fun h => { h with st := .coolWait, waitEnd := ms 500 * fieldOf s.tripRec 0 8 })
    else s'.onHsc (fun h => { h with st := .insDelay })
  else if s.hsc.st = .stopped then s'.onHsc (fun h => { h with st := .insDelay })
  else s.hscResult 2

/-- STOP (R422). -/
def State.hscStop (s : State) : State :=
  if s.hsc.gateUp || s.hsc.st == .insDelay || s.hsc.st == .retryWait then
    let off := if s.hsc.gateUp then s.now else s.hsc.gateOff
    (s.gatePull .stopped).onHsc (fun h => { h with result := 0, gateOff := off })
  else s.hscResult 2

/-- CLEAR_LATCH (R419): the wait is still counted from the last trip. -/
def State.hscClearLatch (s : State) : State :=
  if s.hsc.st = .latched then s.onHsc (fun h => { h with st := .retryWait, retries := 0, result := 0 })
  else s.hscResult 2

/-- CLR_SHORT (R418, R422). -/
def State.hscClrShort (s : State) (vout : Nat) : State :=
  let s := s.onHsc (fun h => { h with vout := vout })
  if s.hsc.st = .short ∧ vout < 1000 then
    (s.onHsc (fun h => { h with st := .idle, disc := false, result := 0 })).setTrip (setField s.tripRec 9 1 0)
  else s.hscResult 2

/-- The effect of a write of HSC.CMD.OP (R441). -/
def State.hscOp (s : State) (op vout : Nat) : State :=
  if op = 1 then s.hscStart else if op = 2 then s.hscStop else if op = 3 then s.hscClearLatch
  else if op = 4 then s.hscClrShort vout else s

end Sys2Proof.Machine
end

