-- ==== Sys2Proof/Machine/Mover.lean ====
section
/-! DEFINITION. The data mover: descriptors, what they may reach, their operands in device and host
memory, and their ends (R69-R73, R312-R331). -/

namespace Sys2Proof.Machine

/-! ### Descriptors -/

/-- n bytes of a descriptor from byte k, lowest first (R316). -/
def dBytes (r : BitVec 512) (k n : Nat) : Nat := bits r.toNat (8 * k) (8 * n)

/-- Bits of a descriptor's first word (R316). -/
def dBits (r : BitVec 512) (lo w : Nat) : Nat := bits r.toNat lo w

/-- A flag of a descriptor's first word (R316). -/
def dBit (r : BitVec 512) (b : Nat) : Bool := bitOf r.toNat b

/-- OP (R317). -/
def dOp (r : BitVec 512) : Nat := dBits r 0 4
/-- SRC_SP. -/
def dSrcSp (r : BitVec 512) : Bool := dBit r 6
/-- DST_SP. -/
def dDstSp (r : BitVec 512) : Bool := dBit r 7
/-- CHAIN_N. -/
def dChain (r : BitVec 512) : Nat := dBits r 22 5
/-- SRC. -/
def dSrc (r : BitVec 512) : Nat := dBytes r 8 8
/-- DST. -/
def dDst (r : BitVec 512) : Nat := dBytes r 16 8
/-- LEN. -/
def dLen (r : BitVec 512) : Nat := dBytes r 24 4
/-- DLIMIT. -/
def dLimit (r : BitVec 512) : Nat := dBytes r 28 4
/-- REC. -/
def dRec (r : BitVec 512) : Nat := dBytes r 32 8
/-- AUX0. -/
def dAux0 (r : BitVec 512) : Nat := dBytes r 40 8
/-- AUX1. -/
def dAux1 (r : BitVec 512) : Nat := dBytes r 48 4
/-- The operation can resume: CRC, COMPRESS and DECOMPRESS (R322). -/
def dResumes (r : BitVec 512) : Bool := dBit r 10 && decide (4 ≤ dOp r) && decide (dOp r ≤ 6)
/-- Bytes 0-3 of TOKEN where the operation resumes: the input bytes consumed before (R322). -/
def dFrom (r : BitVec 512) : Nat := if dResumes r then min (dLen r) (dBytes r 56 4) else 0
/-- Bytes 4-7 of TOKEN where the operation resumes: the CRC of those bytes (R322). -/
def dCrc0 (r : BitVec 512) : Word := if dResumes r then BitVec.ofNat 32 (dBytes r 60 4) else 0

/-- Length of the SRC operand; 0 where the operation has none (R317). -/
def dSrcLen (r : BitVec 512) : Nat :=
  let o := dOp r
  if o = 1 ∨ o = 3 ∨ o = 4 ∨ o = 5 ∨ o = 6 ∨ o = 9 then dLen r
  else if o = 8 then 64 * dAux1 r else 0

/-- Length of the DST operand; 0 where the operation has none (R317). -/
def dDstLen (r : BitVec 512) : Nat :=
  let o := dOp r
  if o = 1 ∨ o = 2 ∨ o = 3 ∨ o = 7 then dLen r
  else if o = 5 ∨ o = 6 then dLimit r
  else if o = 8 then 32 * dAux1 r else 0

/-- Length of the chain; 0 where the operation has none (R323). -/
def dChainLen (r : BitVec 512) : Nat := if dOp r = 5 ∨ dOp r = 6 then 16 * dChain r else 0

/-- A device range lies in one extent of the DPA space (R317). -/
def oneExtent (a n : Nat) : Bool := n == 0 || (decide (a + n ≤ 2 ^ 46) && a / 2 ^ 28 == (a + n - 1) / 2 ^ 28)

/-- A descriptor is valid (R317). -/
def dValid (r : BitVec 512) : Bool :=
  let o := dOp r
  decide (1 ≤ o) && decide (o ≤ 9) && dBits r 11 5 == 0 && dBits r 27 5 == 0 && decide (dChain r ≤ 16) &&
  dRec r % 32 == 0 &&
  (o == 8 || decide (0 < dLen r)) &&
  (!dSrcSp r || oneExtent (dSrc r) (dSrcLen r)) && (!dDstSp r || (oneExtent (dDst r) (dDstLen r) && oneExtent (dAux0 r) (dChainLen r))) &&
  (o != 7 || (dDstSp r && dDst r % 4096 == 0 && dLen r % 4096 == 0)) &&
  (o != 8 || (decide (1 ≤ dAux1 r) && decide (dAux1 r ≤ 4096) && dSrc r % 64 == 0 && dDst r % 64 == 0)) &&
  (o != 9 || (dSrcSp r && dSrc r % 2048 == 0 && dLen r % 2048 == 0))

/-! ### What a queue may reach -/

/-- A queue's logical device may use an extent: it holds it, or the extent is PINNED and DM.PIN allows
it (R313, R318). -/
def State.dmAllowed (s : State) (q e : Nat) : Bool :=
  s.granted q e ||
  ((s.ext e).st == .pinned && s.cfgBit dmPage (if q < 32 then 0x84 else 0x88) (q % 32))

/-- Status with which a device range under a handle is refused: 8 stale GEN, then 7 not permitted
(R318). -/
def State.dmRange (s : State) (q a n gen : Nat) : Option Nat :=
  let e := a / 2 ^ 28
  if n = 0 then none
  else if (s.ext e).gen.toNat ≠ gen then some 8
  else if s.dmAllowed q e then none else some 7

/-- Status with which a descriptor's operands are refused (R318); the chain list has no GEN of its own (assumption 76). -/
def State.dmPermit (s : State) (q : Nat) (r : BitVec 512) : Option Nat :=
  let src := if dSrcSp r then s.dmRange q (dSrc r) (dSrcLen r) (dBits r 32 16) else none
  let dst := if dDstSp r then s.dmRange q (dDst r) (dDstLen r) (dBits r 48 16) else none
  let chain := if dDstSp r && dChainLen r != 0 && !s.dmAllowed q (dAux0 r / 2 ^ 28) then some 7 else none
  (src.or dst).or chain

/-- STALE_HANDLE (R112, R318). -/
def State.staleHandle (s : State) (e ld : Nat) : State :=
  s.raise { src := 535, site := siteOfPage amapPage, subject := e, ld := some ld }

/-! ### Running descriptors -/

/-- Requester key of a descriptor. -/
def dmKey (q ix : Nat) : Nat := 64 * ix + q

/-- A descriptor has ended with a status: one of 4 or higher raises the queue's source where EVT_ERR asks for it (R334). -/
def State.descEvent (s : State) (q ix : Nat) : State :=
  match s.desc q ix with
  | none => s
  | some d => s.when (s.dmqGet q 0 26 1 == 1 && decide (4 ≤ d.status)) (fun s =>
      s.raise { src := 576 + q, site := siteOfPage dmPage, code := d.status, detail := [ix], ld := some q })

/-- A descriptor's operation has ended: what it still had outstanding is abandoned, its writes go on (R319); the reads that
this makes room for are sent (R71). -/
def State.endDesc (s : State) (q ix : Nat) (f : Desc → Desc) : State :=
  let who := Requester.dm (dmKey q ix)
  let s := s.onLd q (fun d => { d with reads := d.reads.filter (fun r => !(r.queue == q && r.ix == ix)) })
  let s := s.withHome { s.home with
    fetched := s.home.fetched.filter (fun f => f.who != who),
    queue := s.home.queue.map (fun r => if r.who = who ∧ traceKind r.kind = 0 then { r with drop := true } else r) }
  ((s.onDesc q ix (fun d => f { d with ended := true, want := [], flushing := false })).descEvent q ix).pumpReads q

/-- A descriptor ends with a failing status at a byte offset (R319, R320). -/
def State.failDesc (s : State) (q ix st off : Nat) : State :=
  let s := match s.desc q ix with
    | some d =>
      let src := if dSrcSp d.raw then s.dmRange q (dSrc d.raw) (dSrcLen d.raw) (dBits d.raw 32 16) else none
      s.when (st == 8) (fun s =>
        s.staleHandle ((if src = some 8 then dSrc d.raw else dDst d.raw) / 2 ^ 28) q)
    | none => s
  s.endDesc q ix (fun d => { d with status := st, offset := off })

/-- Bytes moved for a queue: they count in its round (R315), and as lines for its logical device (R465, R514). -/
def State.moved (s : State) (q bytes : Nat) : State :=
  let n := ceilDiv bytes 64
  let s := s.onQueue q (fun u => { u with round := u.round + bytes })
  (s.withMgmt { s.mgmt with actDm := edit 0 s.mgmt.actDm q (· + n) }).count dmPage 0x11 n

/-! ### Host memory -/

/-- Offset of a host byte in the operand of a descriptor that is read and holds it: SRC, the DST of a COMPARE, or the chain
list (R319). -/
def dOffset (r : BitVec 512) (a : Nat) : Nat :=
  let base := fun (sp : Bool) (b n : Nat) => if !sp && decide (b ≤ a) && decide (a < b + n) then some (a - b) else none
  ((base (dSrcSp r) (dSrc r) (dSrcLen r)).or
    ((if dOp r = 3 then base (dDstSp r) (dDst r) (dLen r) else none).or (base (dDstSp r) (dAux0 r) (dChainLen r)))).getD 0

/-- The flush read of a peer copy has returned: the descriptor ends (R325, R328). -/
def State.flushDone (s : State) (q ix : Nat) (ok : Bool) : State :=
  if ok then s.endDesc q ix (fun d => { d with status := if d.count = 0 then 1 else 6 }) else s.failDesc q ix 14 0

/-- A read of the requester's own fails at a host byte: its descriptor ends, with status 14 where it was the flush read; the
fetch of a descriptor fails with it (R73, R320, R328, R331). -/
def State.readFailed (s : State) (r : ReqRead) (st a : Nat) : State :=
  if r.ix = ringIx then s.haltQueue r.queue 1
  else match s.desc r.queue r.ix with
    | none => s
    | some d => if d.flushing then s.flushDone r.queue r.ix false else s.failDesc r.queue r.ix st (dOffset d.raw a)

/-- The first byte of a read that has not arrived. -/
def State.missing (s : State) (r : ReqRead) : Nat :=
  match s.desc r.queue r.ix with
  | none => r.addr
  | some d => (((upTo r.len).map (r.addr + ·)).find? (fun a => !listed d.buf a)).getD r.addr

/-- What a queue's ring fetch has once bytes have arrived: every byte of the descriptor, or not yet (R313). -/
def ringNext (b : Table (Option Byte)) (a : Nat) (whole : Bool) : RingFetch :=
  let l := (upTo 64).map (fun k => (look? b (a + k)).getD none)
  if !whole then .waiting b
  else .got (if l.any Option.isNone then none else some (BitVec.ofNat 512 (ofBytes (l.map (·.getD 0)))))

/-- A completion piece of a requester read (R70, R73): its bytes are placed by address. -/
def State.hostPiece (s : State) (ld tag addr : Nat) (data : List Byte) (st : CplStatus) : State :=
  match (s.ld ld).reads.find? (fun r => r.tag == tag) with
  | none => s
  | some r =>
    if st == .ur || st == .ca then s.readFailed r 10 (max addr r.addr)
    else
      let cells := (data.zip (upTo data.length)).map (fun e =>
        (addr + e.2, if st == .poison then none else some e.1))
      let cells := cells.filter (fun c => decide (r.addr ≤ c.1) && decide (c.1 < r.addr + r.len))
      let place := fun (b : Table (Option Byte)) => cells.foldl (fun t c => enter c.2 t c.1) b
      let left := r.left - cells.length
      let rest := fun (l : List ReqRead) =>
        if left = 0 then l.filter (fun x => x.tag != tag)
        else l.map (fun x => if x.tag = tag then { x with left := left } else x)
      let s := s.onLd ld (fun u => { u with reads := rest u.reads })
      let s := if r.ix = ringIx then
          s.onQueue r.queue (fun u => { u with ring := u.ring.map (fun g => match g with
            | .waiting b => ringNext (place b) r.addr (left == 0)
            | .got raw => .got raw) })
        else
          let s := s.onDesc r.queue r.ix (fun d => { d with buf := place d.buf })
          s.when (decide (left = 0) && (s.desc r.queue r.ix).any (·.flushing)) (fun s =>
            s.flushDone r.queue r.ix (st == .ok))
      s.pumpReads ld

/-- Host writes of some bytes, each within the payload size and 4 KiB; one that is not the last ends where a 64-byte line does,
so that each line is one write (R69, R72, R325). -/
def State.hostWrites : Nat → Nat → Nat → List Byte → Bool → Bool → State → State
  | 0, _, _, _, _, _, s => s
  | f + 1, ld, a, d, ro, ep, s =>
    if d = [] then s
    else
      let m := min (s.ld ld).mps (4096 - a % 4096)
      let n := if d.length ≤ m then d.length else (a + m) / 64 * 64 - a
      State.hostWrites f ld (a + n) (d.drop n) ro ep (s.toHost ld (.hostWrite ld a (d.take n) ro ep))

/-! ### Operands -/

/-- What an operand gives: it is still on its way, a unit that it needs at an offset is out of service, or its bytes,
none for a poisoned one. -/
inductive OperandGot
  | wait | unit (off : Nat) | bytes (d : List (Option Byte))
  deriving DecidableEq, Repr

/-- The lines of a device range. -/
def rangeLines (a n : Nat) : List Nat :=
  if n = 0 then [] else (upTo ((a + n - 1) / 64 - a / 64 + 1)).map (fun k => a / 64 + k)

/-- The offset in a device range of the first line that needs a unit out of service (R319, R331). -/
def State.outAt (s : State) (a n : Nat) : Option Nat :=
  ((rangeLines a n).find? (fun ln => !s.unitsUp ln)).map (fun ln => max a (64 * ln) - a)

/-- A line fetched for a descriptor. -/
def State.fetchedLine (s : State) (key line : Nat) : Option (Option Line) :=
  (s.home.fetched.find? (fun f => f.who == .dm key && f.line == line)).map (·.data)

/-- A request of a descriptor to a home slice, tagged at the data mover's point (R135, R518). -/
def State.dmRequest (s : State) (key line : Nat) (k : ReqKind) (tag : Nat) : State :=
  let t := s.tagging 20
  t.1.enlist line (.dm key) k tag false t.2

/-- A request of a descriptor for a line, with a tag, waits at its home slice. -/
def State.dmPending (s : State) (key line tag : Nat) : Bool :=
  s.home.queue.any (fun r => r.who == .dm key && r.line == line && r.tag == tag) ||
  s.home.retried.any (fun r => r.req.who == .dm key && r.req.line == line && r.req.tag == tag)

/-- The bytes of an operand; device lines that are not there yet are asked for (R313, R325). -/
def State.operand (s : State) (q : Nat) (d : Desc) (sp : Bool) (a n : Nat) : State × OperandGot :=
  let key := dmKey q d.ix
  if sp then
    let ls := rangeLines a n
    match s.outAt a n with
    | some off => (s, .unit off)
    | none =>
      let s := s.each ls (fun s ln =>
        if (s.fetchedLine key ln).isSome || s.dmPending key ln 0 then s
        else s.dmRequest key ln (.read .none) 0)
      if ls.all (fun ln => (s.fetchedLine key ln).isSome) then
        let all := (ls.map (fun ln =>
          match s.fetchedLine key ln with
          | some (some v) => (lineBytes v).map some
          | _ => List.replicate 64 none)).flatten
        (s, .bytes ((all.drop (a % 64)).take n))
      else (s, .wait)
  else if d.want.isEmpty && !(s.ld q).reads.any (fun r => r.queue == q && r.ix == d.ix) then
    (s, .bytes ((upTo n).map (fun k => (look? d.buf (a + k)).getD none)))
  else (s, .wait)

/-- Write bytes to a range: a device line as one write, poisoned where a byte is; a host range in
pieces (R319, R325). -/
def State.dmPut (s : State) (q ix : Nat) (sp : Bool) (a : Nat) (d : List (Option Byte)) : State :=
  let part := fun (ln : Nat) =>
    let lo := max a (64 * ln)
    let hi := min (a + d.length) (64 * ln + 64)
    (lo, (d.drop (lo - a)).take (hi - lo))
  let ls := rangeLines a d.length
  if sp then
    s.each ls (fun s ln =>
      let p := part ln
      let bad := p.2.any Option.isNone
      let v : Line := BitVec.ofNat 512 (ofBytes (p.2.map (·.getD 0)) <<< (8 * (p.1 % 64)))
      if p.2.length = 64 then s.dmRequest (dmKey q ix) ln (.write .none v bad) 1
      else s.dmRequest (dmKey q ix) ln
        (.writePtl .none (BitVec.ofNat 64 ((2 ^ p.2.length - 1) <<< (p.1 % 64))) v bad) 1)
  else if d.any Option.isNone then
    s.each ls (fun s ln =>
      let p := part ln
      s.hostWrites 64 q p.1 (p.2.map (·.getD 0)) true (p.2.any Option.isNone))
  else State.hostWrites (d.length + 1) q a (d.map (·.getD 0)) true false s

/-- Ranges of host memory that a descriptor reads; an operation that resumes reads from TOKEN on (R69, R317, R322). -/
def dWant (r : BitVec 512) : List (Nat × Nat) :=
  let src := if dSrcSp r then [] else [(dSrc r + dFrom r, dSrcLen r - dFrom r)]
  let dst := if dDstSp r then [] else
    (if dOp r = 3 then [(dDst r, dLen r)] else []) ++ [(dAux0 r, dChainLen r)]
  (src ++ dst).filter (fun e => e.2 != 0)

/-! ### Output buffers -/

/-- Place whole items into buffers in turn; a buffer that cannot take the next item is closed (R322).
Answers what each buffer received and how many items were placed. -/
def placeItems : Nat → List Nat → Nat → List (List Byte) → List (List Byte) × Nat
  | 0, _, _, _ => ([], 0)
  | _, [], _, _ => ([], 0)
  | f + 1, b :: bs, used, it =>
    match it with
    | [] => (([] : List Byte) :: List.replicate bs.length [], 0)
    | x :: xs =>
      if used + x.length ≤ b then
        let r := placeItems f (b :: bs) (used + x.length) xs
        ((x ++ r.1.headD []) :: r.1.tail, r.2 + 1)
      else
        let r := placeItems f bs 0 (x :: xs)
        ([] :: r.1, r.2)

/-- A chain entry: address, GEN and length of its buffer (R323). -/
def chainEntry (sp : Bool) (d : List Byte) (k : Nat) : Nat × Nat × Nat :=
  let e := (d.drop (16 * k)).take 16
  let a := ofBytes (e.take 8)
  (if sp then a % 2 ^ 46 else a, if sp then a / 2 ^ 48 else 0, ofBytes ((e.drop 8).take 4))

/-- The original bytes of a stream's parcels from an offset: each with the stream offset after it, and
the offset of the first that is malformed, or poisoned where the flag is set (R233, R324). -/
def decodeStream : Nat → List (Option Byte) → Nat → Nat → List (List Byte × Nat) × Option (Bool × Nat)
  | 0, _, _, off => ([], some (false, off))
  | f + 1, d, left, off =>
    if left = 0 then ([], if d = [] then none else some (false, off))
    else
      let head := (d.take 2).map (·.getD 0)
      let n := parcelSize head
      let raw := d.take n
      if d.length < 2 ∨ d.length < n then
        ([], some (raw.any Option.isNone || (d.take 2).any Option.isNone, off))
      else if raw.any Option.isNone then ([], some (true, off))
      else match parcel (raw.map (·.getD 0)) (min 1024 left) with
        | none => ([], some (false, off))
        | some o =>
          let r := decodeStream f (d.drop n) (left - o.length) (off + n)
          ((o, off + n) :: r.1, r.2)

/-- How many parcels a stream holds, one that is cut off counted. -/
def parcelCount : Nat → List (Option Byte) → Nat
  | 0, _ => 0
  | f + 1, d => if d = [] then 0 else parcelCount f (d.drop (parcelSize ((d.take 2).map (·.getD 0)))) + 1

/-- The original bytes that a stream's rest decodes to: AUX1; where the operation resumes, 1,024 for each parcel but the
last, which decodes to the remainder of AUX1 (R322, R324; assumption 151). -/
def originalLeft (r : BitVec 512) (d : List (Option Byte)) : Nat :=
  if dResumes r then 1024 * (parcelCount (d.length + 1) d - 1) + (if d = [] then 0 else (dAux1 r - 1) % 1024 + 1) else dAux1 r

end Sys2Proof.Machine
end

