-- ==== Sys2Proof/Machine/Lost.lean ====
section
/-! DEFINITION. What a unit owes before it serves again and before it stops: the discard list, the writing
back of a Lovage, requests answered by a unit that is out of service, and values loaded from the retained
store (R298-R303, R461, R540). -/

namespace Sys2Proof.Machine

/-! ### The discard list -/

/-- An extent in which R300 acts. -/
def State.discardLive (s : State) (e : Nat) : Bool :=
  let st := (s.ext e).st
  st == .granted || st == .recall || st == .offered || st == .pinned

/-- The poison write of a listed line for a unit, ahead of the requests that wait for it (R300). -/
def State.discardPoison (s : State) (u line : Nat) : State :=
  let s := s.needChunk (lnPage line)
  let q := { s.ownReq line (.write .none 0 true) .internal with tag := u + 1 }
  (s.withHome { s.home with queue := ahead q s.home.queue, nextId := s.home.nextId + 1 }).runLine line

/-- A page of a marked extent becomes poisoned, ahead of the writes and atomics that wait for it: a migration is abandoned
first, and what of its leaf block or nodes was lost meanwhile is lost then (R281, R300). -/
def State.markedPage (s : State) (p : Nat) : State :=
  let s := s.needChunk p
  let hs := homeOf p
  let m := s.migOf p
  let s := s.when (m.any (fun m => m.kind == .demotion)) (fun s => s.tierCount 2)
  let s := s.setAtoms hs ((s.atomLines hs).filter (fun a => lnPage a.line != p))
  if (s.entry p).st = .poisoned then s
  else
    let s := ((s.poisonPage p false).setEntry p id).each (m.elim [] (·.nodesLost)) (fun s n => s.nodeLost hs n.1 n.2)
    (s.when (m.any (·.leafLost)) (fun s => s.leafLost hs (p / 32))).runPage p

/-- Every page of a marked extent becomes poisoned (R300). -/
def State.discardMarked (s : State) (e : Nat) : State :=
  s.each ((upTo 65536).map (fun k => 65536 * e + k)) State.markedPage

/-- R300 is still being applied to a unit. -/
def State.applies (s : State) (u : Nat) : Bool := listed s.flt.applying u

/-- R300 has been applied to a unit once none of its poison writes waits: DISCARD_APPLIED names the unit and how many
lines. -/
def State.endDiscard (s : State) (u : Nat) : State :=
  match look? s.flt.applying u with
  | none => s
  | some n =>
    if s.home.queue.any (fun q => q.who == .internal && q.tag == u + 1) then s
    else
      (s.withFlt { s.flt with applying := wipe s.flt.applying u }).raise
        { src := 546, site := siteOfPage fcPage, subject := u, detail := [n] }

/-- Apply R300 to the entries filed against some units, for a unit that is to serve again (R300; assumption 148). -/
def State.applyDiscard (s : State) (u : Nat) (p : Nat → Bool) : State :=
  let l := s.flt.discard.filter (fun d => p d.unit)
  let rest := s.flt.discard.filter (fun d => !p d.unit)
  let lines := (l.filter (fun d => !d.ext)).filter (fun d => s.discardLive (d.what / 2 ^ 22))
  let exts := (l.filter (·.ext)).filter (fun d => s.discardLive d.what)
  let s := s.withFlt { s.flt with discard := rest, overflowed := if rest = [] then false else s.flt.overflowed }
  let s := s.when (!lines.isEmpty || !exts.isEmpty) (fun s =>
    let n := (look? s.flt.applying u).getD 0 + lines.length
    s.withFlt { s.flt with applying := enter n s.flt.applying u })
  let s := s.each lines (fun s d => s.discardPoison u d.what)
  (s.each (exts.map (·.what)) State.discardMarked).endDiscard u

/-! ### Records that close -/

/-- A fault record closes after its recovery: the recovery counter of its highest class advances and FLT_EXIT
is raised (R495, R497). -/
def State.closeRec (s : State) (u : Nat) : State :=
  let r := s.frec u
  let c := r.highest
  let s := s.setRec u { r with active := false, fails := 0, heldOut := false }
  let s := s.withFlt { s.flt with
    rcnt := edit 0 s.flt.rcnt c (fun n => satAdd 0xFFFFFFFF n 1),
    rcntDirty := if s.flt.rcntDirty.contains c then s.flt.rcntDirty else s.flt.rcntDirty ++ [c] }
  s.raise { src := 2, site := r.site, cls := r.cls, code := r.cause, fault := true }

/-- The recovery of the device by a reset ends with it (R490, R495). -/
def State.devRecovered (s : State) : State :=
  s.when (s.flt.dev == 2) (fun s =>
    let s := s.withFlt { s.flt with dev := 0 }
    s.when (s.frec devRec).active (fun s => s.closeRec devRec))

/-! ### Units that stop -/

/-- Abandon every migration of some slices' pages (R303, R576). -/
def State.abandonAll (s : State) (p : Nat → Bool) : State :=
  s.each ((s.mem.mig.map (·.1)).filter (fun pg => p (homeOf pg))) (fun s pg => s.abandon pg)

/-- A dirty metadata line can be written: a channel takes it (R303). -/
def State.metaTaken (s : State) (hs : Nat) (m : McLine) : Bool :=
  let a := s.metaAt hs (m.key / 2 ^ 40) (m.key % 2 ^ 40)
  let e := s.ext a.1
  s.takesWrite e.metaSet (4096 * e.metaFrame + a.2)

/-- A slice ends its re-tags and writes what it holds: its atomic line buffer and its dirty metadata lines, of which those
that cannot be written are lost (R273, R303 step 2). -/
def State.flushSlice (s : State) (hs : Nat) : State :=
  let s := s.each (s.retags hs) (fun s r => s.endRetag hs r.key)
  let s := s.each (s.atomLines hs) (fun s a => s.flushAtom a.line)
  let s := s.each ((s.dirtyLines hs).filter (fun m => !s.metaTaken hs m)) (fun s m =>
    s.metaGone hs (m.key / 2 ^ 40) (m.key % 2 ^ 40))
  s.cleanTo 65536 hs 0

/-- Step 2 of R303 on a Lovage: its migrations are abandoned, what it holds is written, and its channels
enter self-refresh. -/
def State.flushLovage (s : State) (i : Nat) : State :=
  let mine := fun (hs : Nat) => hs / 8 == i
  let s := s.abandonAll mine
  let s := s.each ((upTo 8).map (fun k => 8 * i + k)) (fun s hs => s.flushSlice hs)
  s.each ((upTo 4).map (fun k => 4 * i + k)) (fun s c => s.selfRefresh c)

/-- A unit out of service has discarded a write of a descriptor: it ends with UNIT_FAULT, at the line's first byte in DST, and
where the write was its record's, no record is written (R319, R331). -/
def State.dmDiscarded (s : State) (key line : Nat) : State :=
  let q := key % 64
  let ix := key / 64
  match s.desc q ix with
  | none => s
  | some d =>
    if d.recorded then s.haltQueue q (if d.status = 15 then 6 else 2)
    else
    let at_ := max (64 * line) (dDst d.raw) - dDst d.raw
    let off := if dDstSp d.raw && decide (at_ < max (dDstLen d.raw) 1) then at_ else 0
    if !d.ended then s.failDesc q ix 15 off
    else if d.status < 4 then (s.onDesc q ix (fun d => { d with status := 15, offset := off })).descEvent q ix
    else s

/-- A request that a unit out of service answers: reads with poison, writes with their data discarded and
filed against the unit; a descriptor ends when it finds the unit out of service (R76, R298, R299, R331). -/
def State.answerOut (s : State) (u : Nat) (q : QReq) : State :=
  match q.kind with
  | .read _ | .readData | .ioRead _ _ =>
    match q.who with
    | .dm _ => s
    | _ => s.answerRead q .notServed .i
  | .write _ _ _ | .writePtl _ _ _ _ =>
    let s := (s.discardLine u q.line).answerCmp q .i true
    match q.who with
    | .dm key => s.dmDiscarded key q.line
    | _ => s
  | .atomic _ _ _ _ _ => s.answerAtomic q 0 true false
  | _ => s.answerCmp q .i true

/-- Every request of some slices is answered as by a unit out of service, and their trackers are free
(R76, R303 step 1). -/
def State.turnSlices (s : State) (u : Nat) (p : Nat → Bool) : State :=
  let qs := s.home.queue.filter (fun q => p (homeOf (lnPage q.line)))
  let rs := s.home.retried.filter (fun r => p r.hs)
  let s := s.withHome { s.home with
    queue := s.home.queue.filter (fun q => !p (homeOf (lnPage q.line))),
    retried := s.home.retried.filter (fun r => !p r.hs) }
  let s := s.each qs (fun s q => s.answerOut u q)
  s.each rs (fun s r => s.answerOut u r.req)

/-! ### The retained store at resets -/

/-- The recovery counters that have changed are stored (R461, R497). -/
def State.storeRcnt (s : State) : State :=
  let l := s.flt.rcntDirty
  let s := s.each l (fun s c => s.retWrite (0xA00 + c) (BitVec.ofNat 32 (look 0 s.flt.rcnt c)) none)
  s.withFlt { s.flt with rcntDirty := [] }

/-- Put the fields of a mask of a register back from a stored word (R435, R537). -/
def State.restoreFields (s : State) (off src m : Nat) : State :=
  if m = 0 then s
  else s.setReg (off / 4096) (off % 4096) (BitVec.ofNat 32 (under (s.activeWord off) src m))

/-- The RWP fields of class H of one retained word's register take the value that the store holds (R537, R540). -/
def State.loadRwpWord (s : State) (off : Nat) : State :=
  match regAt off with
  | none => s
  | some r => s.restoreFields off (s.backing off r) (maskOf (r.fields.filter (fun f => f.isRwp && f.cls == .h)))

/-- The RWP fields of class H take the values that the retained store holds (R537, R540). -/
def State.loadRwp (s : State) : State :=
  s.each (((s.ret.words.map (·.1)).filter (fun k => decide (0x10000 ≤ k))).map (· - 0x10000)) State.loadRwpWord

/-- The RWS fields of a register keep an old word (R435). -/
def State.keepRws (s : State) (off old : Nat) : State :=
  match regAt off with
  | none => s
  | some r => s.restoreFields off old (maskOf (r.fields.filter (fun f => f.acc == .rws)))

/-- The RW fields of some pages return to their reset values; RWS fields stay where `keep` (R435). -/
def State.resetRegs (s : State) (p : Nat → Bool) (keep : Bool) : State :=
  let old := s.regs.active
  let s := s.withRegs { s.regs with
    active := dropKeys (fun k => p (k / 4096)) old, staged := dropKeys (fun k => p (k / 4096)) s.regs.staged,
    going := dropKeys (fun k => p (k / 4096)) s.regs.going, pending := s.regs.pending.filter (fun x => !p x) }
  let s := if keep then s.each (old.filter (fun e => p (e.1 / 4096))) (fun s e => s.keepRws e.1 e.2.toNat) else s
  s.loadRwp

end Sys2Proof.Machine
end

