-- ==== Sys2Proof/Machine/Boot.lean ====
section
/-! DEFINITION. Start-up and resets: firmware images, rails, the AUX-only state, cold and warm resets and
HRDY_N release (R426-R437, R453-R455). -/

namespace Sys2Proof.Machine

/-- Change the sequencer. -/
def State.onBoot (s : State) (f : Boot → Boot) : State := s.withBoot (f s.boot)

/-- Raise an event of start-up (R439). -/
def State.raiseBoot (s : State) (src subject : Nat) (detail : List Nat) : State :=
  s.raise { src := src, site := siteOfPage dillPage, subject := subject, detail := detail }

/-! ### Firmware images -/

/-- MAGIC, HVER, LEN and ENTRY of a firmware image are valid (R454). -/
def fwHeader (i : FwImage) : Bool :=
  i.magic == 0x57464E52 && i.hver == 1 && decide (4 ≤ i.body.length) && decide (i.body.length ≤ 1572864) &&
    i.body.length % 4 == 0 && i.entry % 4 == 0 && decide (i.entry < i.body.length)

/-- MAGIC, HVER, LEN and ENTRY of a retained-configuration image are valid (R456). -/
def cfgHeader (i : FwImage) : Bool :=
  i.magic == 0x46434E52 && i.hver == 1 && i.entry == 0 && i.body.length % 16 == 0 && decide (i.body.length ≤ 1048064)

/-- The key of an image is fused and not revoked, its SVN at least SVN_MIN, and its signature verifies (R454). -/
def State.trusted (s : State) (i : FwImage) : Bool :=
  decide (i.kslot.toNat < 4) && !s.boot.board.revoked.getLsbD i.kslot.toNat && i.key && i.sig &&
    decide ((s.retWord 0xA07).toNat ≤ i.svn)

/-- An image verifies (R454). -/
def State.verifies' (s : State) (i : FwImage) : Bool := fwHeader i && s.trusted i

/-- A record of a retained-configuration image from its 16 bytes (R456). -/
def cfgRecord (b : List Byte) : CfgRecord :=
  let w := fun k => ofBytes ((b.drop (4 * k)).take 4)
  let off := BitVec.ofNat 28 (w 0)
  let op := w 0 / 2 ^ 28 % 16
  if op = 0 then .finish
  else if op = 1 then .write off (BitVec.ofNat 32 (w 1))
  else if op = 2 then .wait off (BitVec.ofNat 32 (w 1)) (BitVec.ofNat 32 (w 2)) (w 3)
  else if op = 3 then .commit off
  else .reserved

/-- The records of a body, of which the first `n` bytes hold at most `n` (R456). -/
def cfgRecords : Nat → List Byte → List CfgRecord
  | 0, _ => []
  | n + 1, b => if b.length < 16 then [] else cfgRecord (b.take 16) :: cfgRecords n (b.drop 16)

/-- The image in a slot: false A, true B. -/
def State.slotImage (s : State) (b : Bool) : Option FwImage := if b then s.boot.board.slotB else s.boot.board.slotA

/-- A slot's image verifies (R454). -/
def State.slotGood (s : State) (b : Bool) : Bool := (s.slotImage b).any s.verifies'

/-- Base of the image region of a core (R447). -/
def imageBase (c : Nat) : Nat := 0x10000000 + c * 0x180000

/-- Bytes of the SRAM written from an address on. -/
def putBytes (t : Table Byte) (a : Nat) (b : List Byte) : Table Byte :=
  (b.foldl (fun (r : Table Byte × Nat) x => (put 0 r.1 r.2 x, r.2 + 1)) (t, a)).1

/-- An image is hashed while its body is copied to core 0's region; one with no valid header is not (R455). -/
def State.copied (s : State) (i : FwImage) : State :=
  s.when (fwHeader i) (fun s => s.withCore { s.core with sram := putBytes s.core.sram (imageBase 0) i.body })

/-- Core 0 starts an image, whose body is copied to its region (R455). -/
def State.startCore0 (s : State) (b : Bool) (i : FwImage) : State :=
  let s := s.withCore { s.core with
    c0 := { s.core.c0 with active := true, halted := false, entry := imageBase 0 + i.entry },
    c1 := { s.core.c1 with active := false, halted := true },
    sram := putBytes s.core.sram (imageBase 0) i.body }
  s.onBoot (fun t => { t with imageB := b, svn := i.svn })

/-- The boot ROM tries a slot: its image starts where it verifies, else BOOT_FAIL names the slot (R428, R455). -/
def State.trySlot (s : State) (b : Bool) : State × Bool :=
  match s.slotImage b with
  | some i => if s.verifies' i then (s.startCore0 b i, true) else ((s.copied i).raiseBoot 24 (b2n b) [], false)
  | none => (s.raiseBoot 24 (b2n b) [], false)

/-- The boot ROM tries the slot that BOOT_SEL names, then the other (R455). Answers whether an image runs. -/
def State.bootRom (s : State) : State × Bool :=
  let b := fieldOf (s.retWord 0xA06) 0 1 == 1
  let r := s.trySlot b
  if r.2 then r else r.1.trySlot (!b)

/-! ### What a reset clears -/

/-- Every port group is busy and waits for its release at the end of bring-up (R80). -/
def State.holdHrdy (s : State) : State :=
  let s := s.each (upTo 4) (fun s g => s.onGrp g (fun p => { p with up := false }))
  s.hrdySync

/-- What a cold start begins with (R116, R435): the address map, memory, keys, home slices, channels, tiers,
queues, fabric, tracer and RW registers at their reset values; what Dill's and Hyssop's AUX island hold is
kept. -/
def State.coldClear (s : State) : State :=
  let g := (upTo 4).foldl (fun t n =>
    let old := s.grp n
    put ({} : PortGroup) t n { refLost := old.refLost, perst := old.perst, perstRel := old.perstRel, busy := true,
                               busySince := if old.busy then old.busySince else old.pulse.getD s.now,
                               released := old.released }) []
  let s := { s.dropHeld with
    evt := { s.evt with enFlip := 0, route := [], sel := [] },
    flt := { s.flt with discard := [], overflowed := false },
    obs := {}, host := { grp := g }, amap := {}, mem := {}, home := {}, ddr := [],
    tier := {}, dm := [], dunas := [], brg := { filler := s.brg.filler },
    clk := { s.clk with gated := 0, down := 0, waking := [], wokeAt := [], quar := [], held := [] },
    mgmt := { s.mgmt with actRd := [], actWr := [], actDm := [], actCmp := [], ledger := [], unassigned := 0,
                          fwu := .idle, ready := false, transfer := false, committed := false, switching := none,
                          img := none, heldMsgs := [] },
    regs := {} }
  s.loadRwp

/-- The RW1C bits and the cache enables that stand outside the register file take their reset values at a warm and at a
cold reset (R12, R435). -/
def State.rw1cReset (s : State) : State :=
  let off := fun (m : MCore) => { m with ic := { m.ic with en := false }, dc := { m.dc with en := false } }
  (((s.withEvt { s.evt with pend := 0 }).withFlt { s.flt with laneLost := 0 }).withClk { s.clk with
    mon := 0, seen := 0 }).withCore { s.core with c0 := off s.core.c0, c1 := off s.core.c1 }

/-- The registers without those of Dill's main domain (R397). -/
def State.islandRegs (s : State) : Regs :=
  let mine := fun (k : Nat) => dillMain (k / 4096)
  { active := dropKeys mine s.regs.active, staged := dropKeys mine s.regs.staged, going := dropKeys mine s.regs.going,
    pending := s.regs.pending.filter (fun p => !dillMain p), locks := dropKeys dillMain s.regs.locks }

/-- What is lost with the main rails (R397, R432): the registers, locks, events and counters of Dill and Hyssop are
in the AUX island and are kept. -/
def State.mainLost (s : State) : State :=
  { s.coldClear with
    regs := s.islandRegs, evt := s.evt, mgmt := s.dropHeld.mgmt,
    obs := { pmc := dropKeys (fun p => decide (1 < pgSlot p) || dillMain p) s.obs.pmc } }

/-! ### Firmware at a cold reset -/

/-- An update that is not IDLE ends at a cold reset, and the boot ROM boots BOOT_SEL; an activation at next
cold reset commits the staged slot first (R474, R475; assumption 26). -/
def State.coldFirmware (s : State) : State :=
  let again := s.mgmt.fwu != .idle || s.mgmt.nextCold
  let s := s.when s.mgmt.nextCold (fun s =>
    let n := (s.retWord 0xA06).toNat / 2 + 1
    s.retWrite 0xA06 (BitVec.ofNat 32 (2 * n + b2n s.mgmt.slotB)) none)
  let s := s.withMgmt { s.mgmt with nextCold := false, fwu := .idle, img := none, transfer := false }
  if again then
    let b := fieldOf (s.futureWord 0xA06) 0 1 == 1
    let boot := fun (s : State) =>
      let r := s.bootRom
      r.1.onBoot (fun b => { b with failed := !r.2 })
    match s.slotImage b with
    | some i => if s.verifies' i then s.startCore0 b i else boot s
    | none => boot s
  else s

/-! ### Rails -/

/-- RAIL.CFGk (R444): an enabled rail is in the sequence; rail 6 is not where the filler die is fitted. -/
def State.railIn (s : State) (k : Nat) : Bool :=
  s.cfgBit dillPage (0x240 + 4 * k) 20 && !(k == 6 && s.brg.filler)

/-- PMBus address of a rail; 0: the board enables it from PG_OUT. -/
def State.railAddr (s : State) (k : Nat) : Nat := s.cfg dillPage (0x240 + 4 * k) 0 7

/-- DELAY of a rail in ns. -/
def State.railDelay (s : State) (k : Nat) : Nat := ms (s.cfg dillPage (0x240 + 4 * k) 12 8)

/-- PMBus page of a rail (R430, R444). -/
def State.railPage (s : State) (k : Nat) : Nat := s.cfg dillPage (0x240 + 4 * k) 7 5

/-- Dill sends a PMBus command to a rail (R430, R431, R558). -/
def State.pmbus (s : State) (k op val : Nat) : State := s.emit (.pmbus k (s.railAddr k) (s.railPage k) op val)

/-- Dill sends VDD_CORE a set point, which lies within 0.65 to 0.85 V (R558). -/
def State.setCore (s : State) (mV : Nat) : State :=
  let v := max 650 (min 850 mV)
  (s.pmbus 1 2 v).onBoot (fun b => { b with vset := v, vsetAt := s.now })

/-- The enabled rails in order (R430). -/
def State.rails (s : State) : List Nat := (upTo 7).filter s.railIn

/-- The rail that has to become good next. -/
def State.nextRail (s : State) : Option Nat := s.rails.find? (fun k => !s.boot.railGood.contains k)

/-- The first rail that breaks the rule that rails with ADDR = 0 lead: an entry with another ADDR counts where its own rail is not
enabled, too (R430). -/
def State.railMisplaced (s : State) : Option Nat :=
  s.rails.find? (fun k => s.railAddr k == 0 && (upTo k).any (fun j => s.railAddr j != 0))

/-- Main power is up: step 7 (R426). -/
def State.mainUp (s : State) : State := s.settleAll.onBoot (fun b => { b with main := true, step := 7 })

/-- Rail sequencing starts, at internal power-good (R430). -/
def State.startRails (s : State) : State :=
  match s.railMisplaced with
  | some k => s.raiseBoot 25 k []
  | none =>
    let s := s.onBoot (fun b => { b with railOn := [], railGood := [], railAt := s.now, railsOffAt := none })
    if s.rails = [] then s.mainUp else s

/-- Turn the next rail down off: by the PMBus, or by the board's chain (R430, R431). -/
def State.railOff (s : State) : State :=
  match s.boot.railDown with
  | [] => s
  | k :: _ => if s.boot.boardFall then s else s.pmbus k 0 0

/-- The rails that the PMBus turned on, highest first, are to be turned off; those of the board's chain that are good, or that
come next, follow (R430, R431). -/
def State.railsDown (s : State) : State :=
  let on := ((upTo 7).filter (fun k => s.boot.railOn.contains k)).reverse
  let mine := s.rails.filter (fun k => s.railAddr k == 0 && (s.boot.railGood.contains k || s.nextRail == some k))
  (s.onBoot (fun b => { b with
    railDown := on, railOn := [], railGood := [], boardRails := mine.reverse, boardFall := false })).railOff

/-! ### The AUX-only state -/

/-- Close the record of the device: it is no longer ACTIVE, and keeps what it shows until a CLEAR (R492, R496, R507). -/
def State.closeDev (s : State) : State :=
  s.when (s.flt.dev == 3) (fun s =>
    let s := s.setRec devRec { s.frec devRec with active := false, fails := 0, heldOut := false }
    s.withFlt { s.flt with dev := 0 })

/-- Internal power-good has been asserted while the start-up waits for it: rail sequencing begins (R426). -/
def State.powerGood (s : State) : State :=
  (s.onBoot (fun b => { b with tPg := min 0xFFFF (s.now / ms 1), pgAt := s.now, step := 6, st := 2 })).startRails

/-- The power path is on and internal power-good asserted. -/
def State.pathOn (s : State) : Bool := s.hsc.pg && s.hsc.gateUp

/-- The AUX-only state is left: a cold start from step 3 (R433). Sources of RST.CAUSE.SRC (R443). -/
def State.leaveAux (s : State) (src : Nat) : State :=
  let s := s.coldClear.closeDev.onBoot (fun b => { b with
    st := 1, step := 4, kind := 4, src := src, railFails := 0, railsOffAt := none, leaveReq := false, heldOut := false,
    released := false, trained := false, cfg := none })
  let s := s.raiseBoot 29 0 []
  let s := s.hscStart
  if s.pathOn then s.powerGood else s

/-- An entry to the AUX-only state ends (R432): AUX_ONLY_ENTER counts the extents that were not FREE, whose
content is lost; what waits for the end follows, but where no firmware has verified (R428, R455). -/
def State.endEntry (s : State) : State :=
  let n := (s.amap.extents.filter (fun e => e.2.st != .free)).length
  let s := s.mainLost.onBoot (fun b => { b with st := if b.failed then 6 else 0, failed := false, entering := false, main := false, trained := false, cfg := none })
  let s := s.raiseBoot 28 0 [n]
  if s.boot.st = 6 then s
  else if s.boot.leaveReq then s.leaveAux s.boot.src
  else if s.clk.wakeExit then (s.withClk { s.clk with wakeExit := false }).leaveAux 4
  else if s.hsc.pg && !s.boot.commanded then s.leaveAux 5
  else s

/-- The last rail has fallen after a failure: the start is tried once more, and a second failure leaves the device in the
AUX-only state, as a command would (R431). -/
def State.railsGone (s : State) : State :=
  let s := s.onBoot (fun b => { b with boardFall := false })
  if 2 ≤ s.boot.railFails then (s.onBoot (fun b => { b with commanded := true })).endEntry
  else s.onBoot (fun b => { b with railsOffAt := some s.now })

/-- The rails that the PMBus holds are down: STOP where the path is on, and on a commanded entry; then the entry ends, or the
board's chain turns its rails off (R431, R432). -/
def State.railsFallen (s : State) : State :=
  let r := s.hsc.result
  let s := s.when (s.hsc.gateUp || (s.boot.entering && s.boot.commanded)) (fun s =>
    s.hscStop.onHsc (fun h => { h with result := r }))
  if s.boot.entering then s.endEntry
  else if s.boot.boardRails = [] then s.railsGone
  else s.onBoot (fun b => { b with railDown := b.boardRails, boardRails := [], boardFall := true })

/-- Turn the rails off in reverse order (R431). -/
def State.powerDown (s : State) : State :=
  let s := s.railsDown
  if s.boot.railDown = [] then s.railsFallen else s

/-- The DIMM PMICs of every channel are disabled over I3C (R432). -/
def State.pmicsOff (s : State) : State :=
  s.each (upTo 16) (fun s c => s.onChan c (fun ch => { ch with
    dimm0 := { ch.dimm0 with pmic := false }, dimm1 := { ch.dimm1 with pmic := false } }))

/-- Entry to the AUX-only state (R432). -/
def State.enterAux (s : State) (commanded : Bool) : State :=
  let s := s.each (upTo 4) (fun s g => s.groupLost g)
  let s := s.storeRcnt
  let s := s.settleAll.onBoot (fun b => { b with main := false, entering := true, commanded := commanded, cfg := none })
  let s := s.settleAll
  let s := s.withClk { s.clk with loops := [], onAux := ({} : Clocks).onAux }
  let s := s.holdHrdy.brgReset.pmicsOff
  s.powerDown

/-- A rail fails (R431): RAIL_FAIL names it and the rails are turned off. -/
def State.railFail (s : State) (k : Nat) : State :=
  let s := (s.raiseBoot 25 k []).onBoot (fun b => { b with railFails := b.railFails + 1, st := 1, step := 4 })
  s.powerDown

/-- What Dill does at a change of internal power-good (R425, R427, R432, R433): its loss other than by a
command, a STOP, ends in the AUX-only state, its return after such an entry leaves it (assumption 89). -/
def State.pgChanged (s : State) (was : Bool) : State :=
  if s.hsc.pg == was then s
  else if s.hsc.pg then
    if s.boot.st == 0 then (if s.boot.entering || s.boot.commanded then s else s.leaveAux 5)
    else if s.boot.st == 1 && !s.boot.main && s.boot.railsOffAt.isNone && !s.boot.entering then s.powerGood
    else s
  else if s.boot.st == 0 || s.boot.st == 6 || s.boot.entering then s
  else if s.boot.st == 1 && decide (s.boot.step < 6) || s.hsc.st == .stopped then s
  else s.enterAux false

/-! ### Bring-up -/

/-- Draw the seed of every tagging point's shift register (R518). -/
def State.seedLfsrs (s : State) : State :=
  s.each (upTo 21) (fun s i =>
    (s.withObs { s.obs with lfsr := enter (Config.lfsrSeed s.free) s.obs.lfsr i }).takeFree)

/-- The retained-configuration image: applied where it verifies, else BOOT_FAIL (R456); images are numbered 0
A, 1 B, 2 configuration. -/
def State.loadConfig (s : State) : State :=
  match s.boot.board.cfgImage with
  | some i =>
    if cfgHeader i && s.trusted i then s.onBoot (fun b => { b with
      cfg := some (cfgRecords (i.body.length / 16) i.body), cfgIx := 0, cfgAt := s.now, cfgGo := false, cfgPend := false })
    else s.raiseBoot 24 2 []
  | none => s.raiseBoot 24 2 []

/-- Step 8 has ended (R426): on a cold start the channels are discovered, keys and seeds drawn and the
configuration image loaded; at a warm reset the channels leave self-refresh and R300 is applied (R436), after which the device
record closes (R304). -/
def State.stepNine (s : State) : State :=
  if s.boot.st == 4 then
    let s := s.each (upTo 16) (fun s c => s.onChan c (fun ch => { ch with selfRef := false }))
    let s := s.runAll.applyDiscard devRec (fun _ => true)
    (s.when (!s.applies devRec) State.devRecovered).onBoot (fun b => { b with step := 11, trained := true })
  else
    let s := s.onBoot (fun b => { b with step := 11, trained := true })
    let s := s.each (upTo 16) (fun s c =>
      s.discover c (look? s.boot.board.spd (2 * c)) (look? s.boot.board.spd (2 * c + 1)) false)
    let s := (s.withMem { s.mem with
      keysReady := true, tagKey := Config.tagKeyDraw s.free, drawAt := s.free, salts := [], keys := [] }).takeFree
    let s := s.each (upTo 16) (fun s c => s.each (upTo 2) (fun s b =>
      (s.onChan c (fun ch => { ch with rowLfsr := enter (Config.rowSeed s.free) ch.rowLfsr b })).takeFree))
    s.seedLfsrs.devRecovered.loadConfig

/-- Every module between Ozquenko chiplets has trained or failed at both ends (R426 step 8). -/
def State.fabricReady (s : State) : Bool :=
  (upTo 34).all (fun e => brgModEnd e || (s.mod e).st == .active || (s.mod e).gone)

/-- Step 8 ends when its modules have trained. -/
def State.afterFabric (s : State) : State :=
  if s.boot.step == 8 && s.boot.main && s.fabricReady then s.stepNine else s

/-- A loop whose reference is there: the loop of a port group runs only from its own REFCLK pair (R50), every other loop
from REF (R384). -/
def State.refThere (s : State) (n : Nat) : Bool := decide (n < 36) || !(s.grp (n - 36)).refLost

/-- The root loop first locks (R395, R426): step 8 begins, and BRG_RST_N is released. -/
def State.rootLocked (s : State) : State :=
  let s := s.settleAll
  let s := s.withClk { s.clk with
    loops := (upTo 40).foldl (fun t n => put ({} : ClkLoop) t n { locked := s.refThere n }) [], onAux := [] }
  (s.onBoot (fun b => { b with step := 8 })).brgRelease

/-- HRDY_N of a group may be released: bring-up has come to step 11, no configuration record remains, no training holds it, and
bring-up waits for no chiplet recovery reset (R427, R437). -/
def State.mayRelease (s : State) (g : Nat) : Bool :=
  let s' := s.onGrp g (fun p => { p with up := true })
  decide (11 ≤ s.boot.step) && s.boot.cfg.isNone && !s.trainHolds && s.hrdyCause g != 1 && s'.hrdyCause g == 0 &&
    (s.boot.released || s.flt.chipF.all (· == 12))

/-- The end of a start-up or reset, at the first release of HRDY_N: the times, and
BRINGUP_DONE or RESET_DONE (R299, R427, R439, R443). -/
def State.bringupDone (s : State) : State :=
  let k := s.boot.kind
  let s := s.onBoot (fun b => { b with
    released := true, st := 3, step := 12,
    tHrdy := if k = 2 ∨ k = 3 then b.tHrdy else min 0xFFFF ((s.now - b.pgAt) / ms 1) })
  let s := s.when (k != 3) (fun s => s.raiseBoot 26 0 [s.boot.tPg + 65536 * s.boot.tHrdy])
  s.when (k == 2 || k == 3) (fun s => s.raiseBoot 27 k [])

/-- HRDY_N of a group is released (R84, R427), the first time once R300 has been applied to the device and to what bring-up
discarded (R299, R300). -/
def State.releaseGrp (s : State) (g : Nat) : State :=
  let s := s.reach ((s.grp g).busySince + us 100)
  let s := s.when (!s.boot.released) (fun s => (s.endDiscard devRec).applyDiscard 0xFFFE (fun u => u == 0xFFFE))
  if s.applies devRec || s.applies 0xFFFE then s
  else
  let s := s.when (!s.boot.released) (fun s => s.bringupDone)
  s.onGrp g (fun p => { p with up := true, busy := false, released := s.now })

/-! ### Resets -/

/-- AUX is lost or reset during a retained write: the word holds its old or its new value, which is left open
(R457); queued writes are gone. -/
def State.tornWrites (s : State) : State :=
  let s' := match s.ret.queue with
    | [] => s
    | w :: _ =>
      if Config.tornWrite s.free = 1 then
        let r := performWrite (factoryWord w.key) s.ret.words s.ret.wear w.key w.val
        s.withRet { s.ret with words := r.1, wear := r.2 }
      else s
  (s'.withRet { s'.ret with queue := [], held := [], result := 0, refused := 0 }).takeFree

/-- The state in which an AUX reset leaves the block before its steps 2 and 3 (R434, R435): the retained
store, the board and the pins are kept, the timestamp and the sequence number only where AUX did not fall (assumption 159). -/
def State.auxClear (s : State) (rise : Bool) (b : Board) : State :=
  let s := s.tornWrites
  let seq := ((s.retWord 0xA00).toNat + 1) % 2 ^ 32
  let h := s.hsc
  let cls := [1, 2, 3, 4, 5]
  let now := if rise then 0 else s.now
  let t : State := { s.coldClear with
    now := now,
    evt := { seq := if rise then seq * 2 ^ 32 else s.evt.seq },
    flt := { fatalSlot := s.flt.fatalSlot, rcntAt := now, rcnt := cls.foldl (fun r c => put 0 r c (s.retWord (0xA00 + c)).toNat) [] },
    brg := { filler := b.filler },
    clk := { xa := { from_ := now }, xb := { from_ := now }, slowAt := now },
    hsc := { vin := h.vin, vinOk := h.vinOk && !rise, vinSince := if rise then 0 else h.vinSince, gateOff := now,
             pgOutAt := if h.pgOut then some now else none, refused := h.refused, vout := h.vout,
             tickAt := now, fetAt := now },
    boot := { board := b, kind := if rise then 0 else 1, step := 1, st := 1, auxAt := now },
    core := {},
    mgmt := {} }
  let t := t.onHsc (fun x => { x with tc := t.tAmb, tj := t.tAmb })
  let t := t.each (upTo 4) (fun t g => t.onGrp g (fun p => { p with busySince := now, perstRel := if rise then 0 else p.perstRel }))
  t.when rise (fun t => t.retWrite 0xA00 (BitVec.ofNat 32 seq) none)

/-- Step 3 of start-up: START (R426). -/
def State.bootStart (s : State) : State := (s.onBoot (fun b => { b with step := 4 })).hscStart

/-- Steps 1 to 3 after an AUX reset (R426, R428). -/
def State.auxBoot (s : State) (rise : Bool) (b : Board) : State :=
  let r := (s.auxClear rise b).bootRom
  if r.2 then r.1.bootStart else r.1.onBoot (fun t => { t with st := 6, step := 2 })

/-- A cold reset (R434, R435): main domains are reset and steps 7 to 12 run; where no image verifies the device goes to the
AUX-only state with its boot failed (R428, R455). -/
def State.coldReset (s : State) (src : Nat) : State :=
  let s := s.each (upTo 4) (fun s g => s.groupLost g)
  let s := s.storeRcnt.coldClear.coldFirmware
  let s := s.settleAll
  let s := s.rw1cReset
  let s := s.withClk { s.clk with loops := [], onAux := ({} : Clocks).onAux, dselEnd := none, wakes := 0 }
  let s := s.onBoot (fun b => { b with
    st := 5, step := 7, kind := 2, src := src, released := false, trained := false, cfg := none, pgAt := s.now })
  if s.boot.failed then s.enterAux true else s.holdHrdy

/-- A warm reset (R435, R436) up to its step 8: links go down and their agents are swept, exclusive lines are
poisoned, every Lovage writes what it holds, and the main domains are reset. A poison write that still waits for its page keeps its place
(assumption 148), and an engine that has failed its bring-up vectors stays out of service (R241). -/
def State.warmReset (s : State) (src : Nat) : State :=
  let s := s.onBoot (fun b => { b with st := 4, step := 8, kind := 3, src := src, released := false, trained := false, cfg := none })
  let s := s.holdHrdy
  let s := s.each (upTo 4) (fun s g => s.groupLost g)
  let s := s.agentsGone (upTo 80)
  let s := s.sweepAgents (upTo 80)
  let s := s.each (upTo 4) (fun s i => s.flushLovage i)
  let s := s.storeRcnt.dropHeld
  let s := { s with
    home := { queue := s.home.queue.filter (fun q => match q.who, q.kind with
        | .internal, .write _ _ _ => true
        | _, _ => false), nextId := s.home.nextId }
    dm := [], obs := { lfsr := s.obs.lfsr },
    evt := { s.evt with enFlip := 0, route := [], sel := [] },
    amap := { s.amap with staged := [], result := 0 },
    mem := { s.mem with mcache := [], mcTree := [], mcUse := 0 },
    tier := { eng := s.tier.eng.filterMap (fun (e : Nat × Engine) => if e.2.failed then some (e.1, { e.2 with job := none }) else none),
              groups := s.tier.groups, epoch := s.tier.epoch, epochAt := s.tier.epochAt, cnt := s.tier.cnt },
    clk := { s.clk with gated := 0, down := 0, waking := [], wokeAt := [], quar := [], held := [] },
    brg := { filler := s.brg.filler } }
  let s := s.each (upTo 16) (fun s c => s.onChan c (fun ch => { ch with
    job := none, jobQueue := [], fctlBusy := false, fctlOwed := false, retraining := false, retrainOwed := false,
    refused := false, st := if ch.st == .training then ch.rerun.getD ch.st else ch.st, rerun := none, rerunDone := false,
    silver := if ch.silver.paused then ch.silver.resume s.now else ch.silver }))
  let s := s.each (upTo 34) (fun s e => s.modOff e)
  let s := s.each (upTo 16) (fun s l => s.onLink l (fun k => { k with aspm := false }))
  let s := s.each (upTo 64) (fun s n => (s.clearFunction n).onLd n (fun d => { d with dec := [] }))
  let s := s.withRegs { s.regs with locks := [] }
  (s.rw1cReset.resetRegs (fun _ => true) true).brgRelease

/-- A reset or a passage to or from the AUX-only state is in progress (R434). -/
def State.resetBusy (s : State) : Bool :=
  s.boot.st == 1 || s.boot.st == 2 || s.boot.st == 4 || s.boot.st == 5 || s.boot.entering

/-- RST.CAUSE.SRC of a master (R443). -/
def srcOf : Master → Nat
  | .host _ => 1
  | .bmc => 2
  | .core _ => 3

/-- Set RST.CTRL.RESULT. -/
def State.rstResult (s : State) (r : Nat) : State := s.onBoot (fun b => { b with result := r })

/-- The effect of RST.CTRL OP 1 to 4 (R432-R434, R436, R443). -/
def State.rstOp (s : State) (m : Master) (op : Nat) : State :=
  if op = 4 then
    if s.boot.entering then (s.rstResult 0).onBoot (fun b => { b with leaveReq := true, src := srcOf m })
    else if s.boot.st = 0 then (s.rstResult 0).leaveAux (srcOf m)
    else s.rstResult 2
  else if s.resetBusy || s.boot.st != 3 then s.rstResult 2
  else
    let s := s.rstResult 0
    if op = 1 then s.warmReset (srcOf m) else if op = 2 then s.coldReset (srcOf m) else s.enterAux true

end Sys2Proof.Machine
end

