-- ==== Sys2Proof/Machine/Reaction.lean ====
section
/-! DEFINITION. The fault collector's reactions and recoveries: quarantine, class F scopes, chiplet recovery
resets, the root array's rebuild and the return of a unit to service (R282, R302, R303, R489-R498, R578). -/

namespace Sys2Proof.Machine

/-! ### The root array -/

/-- The root array of a slice starts to be rebuilt: its requests wait (R282). -/
def State.startRebuild (s : State) (hs : Nat) : State :=
  s.when (!listed s.mem.rebuild hs) (fun s => s.withMem { s.mem with rebuild := enter s.now s.mem.rebuild hs })

/-- The rebuild of a root array ends (R282): nodes with a holder are accepted with a new ROOT entry or lost,
ROOT_REBUILT is raised and the waiting requests run. -/
def State.endRebuild (s : State) (hs : Nat) (rejected : Nat) : State :=
  let held := (upTo 32).filter (fun i => listed s.mem.holder (5 * 2 ^ 40 + i))
  let s := s.withMem { s.mem with rejected := put 0 s.mem.rejected hs 0 }
  let s := s.each held (fun s i =>
    let s := s.withMem { s.mem with root := enter s.now s.mem.root (32 * hs + i) }
    if bitOf rejected i then
      (s.withMem { s.mem with rejected := tick 0xFFFF s.mem.rejected hs }).nodeLost hs 5 i
    else s.storeNode hs 5 i)
  let s := s.withMem { s.mem with
    rebuild := wipe s.mem.rebuild hs, rebuilds := tick 0xFF s.mem.rebuilds hs }
  let s := s.raiseHs hs 45 6 hs none
  s.runOn (s.linesOf hs)

/-- The L5 nodes of a slice of which a copy fails or the copies differ (R282). -/
def State.failingRoots (s : State) (hs : Nat) : Nat :=
  (upTo 32).foldl (fun a i =>
    let k := blockKey hs 5 i
    if s.mem.badCopy.any (fun b => b / 2 == k) || look? s.mem.copies (2 * k) != look? s.mem.copies (2 * k + 1)
      then a + 2 ^ i else a) 0

/-! ### Quarantine -/

/-- Mark a unit quarantined. -/
def State.addQuarantine (s : State) (u : Nat) : State :=
  s.withFlt { s.flt with
    quarantined := if s.flt.quarantined.contains u then s.flt.quarantined else s.flt.quarantined ++ [u] }

/-- Quarantine the unit at slice level that encloses a page (R489): a home slice answers its requests as a
unit out of service, a channel and an engine leave service, a host link goes down, Hyssop's serial link is
lost. A fault elsewhere is only filed. -/
def State.quarantineUnit (s : State) (p : Nat) : State :=
  let slot := pgSlot p
  let sl := pgSlice p
  if serialPage p then s.onHsc (fun h => { h with linkLost := true })
  else if 8 ≤ slot ∧ slot ≤ 11 ∧ pgCluster p < 2 then
    if sl < 4 then
      let hs := hsOfPage p
      (s.addQuarantine (hsPage hs 63)).turnSlices (hsPage hs 63) (fun h => h == hs)
    else if sl < 6 then s.quarantineChan (chanOfPage p)
    else if sl = 6 then
      let u := clusterOfPage p
      if pgEngine p < 2 then s.engineStop (2 * u + pgEngine p)
      else if pgEngine p = 63 then (s.engineStop (2 * u)).engineStop (2 * u + 1)
      else s
    else s
  else if (slot = 4 ∨ slot = 5) ∧ pgCluster p < 2 ∧ sl < 4 then
    (s.addQuarantine (unitOf p)).linkLost (linkOfPage p) 4
  else s

/-! ### Class F -/

/-- Mark a chiplet under a class F reaction. -/
def State.addChipF (s : State) (slot : Nat) : State :=
  s.withFlt { s.flt with chipF := if s.flt.chipF.contains slot then s.flt.chipF else s.flt.chipF ++ [slot] }

/-- A chiplet stops serving: steps 1 and 2 of R303, and the rows of R490 for a chiplet. -/
def State.stopChip (s : State) (slot : Nat) : State :=
  let s := s.addChipF slot
  if 8 ≤ slot ∧ slot ≤ 11 then
    let i := slot - 8
    (s.turnSlices (chipletPage slot) (fun h => h / 8 == i)).flushLovage i
  else if slot = 4 ∨ slot = 5 then
    ((s.groupLost (2 * (slot - 4))).groupLost (2 * (slot - 4) + 1)).hrdySync
  else if slot = 12 then s.brgLost
  else s

/-- Every Lovage writes what it holds and its channels enter self-refresh. -/
def State.flushAll (s : State) : State := s.each (upTo 4) (fun s i => s.flushLovage i)

/-- A device-scope class F (R490): every port group answers under the class F row, a queue with descriptors running stops, none
of which can have its record (R331; assumption 79), every Lovage writes what it holds, and every HRDY_N goes busy. -/
def State.stopDevice (s : State) : State :=
  let s := s.withFlt { s.flt with dev := if s.flt.dev = 3 then 3 else 1 }
  let s := s.turnSlices devRec (fun _ => true)
  let s := s.each ((upTo 64).filter (fun q => !(s.queue q).run.isEmpty)) (fun s q => s.haltQueue q 6)
  s.flushAll.hrdySync

/-- The gate is pulled by a class P fault that Hyssop's own trips did not raise (R489). -/
def State.pulled (s : State) : State :=
  s.when s.hsc.gateUp (fun s => (s.gatePull .retryWait).onHsc (fun h => { h with waitEnd := s.now + sec 2 }))

/-- The command that goes out on the return lanes (R486, R490). -/
def State.sendReaction (s : State) (p need : Nat) : State :=
  s.when (decide (4 ≤ need)) (fun s => s.emit (.reaction (if need = 6 then 15 else pgSlot p) need))

/-- Apply the reaction of a fault at its site (R489-R491); of an injected one, only that of classes S and F
(R578). -/
def State.react (s : State) (p need : Nat) (inj : Bool) : State :=
  let s := s.sendReaction p need
  if need = 2 then s.quarantineUnit p
  else if need = 3 then (if inj then s else s.pulled)
  else if need = 4 then s.startRebuild (hsOfPage p)
  else if need = 5 then s.stopChip (pgSlot p)
  else if need = 6 then s.stopDevice
  else s

/-- A fault is taken: its reaction is applied and it is filed (R493). -/
def State.fault (s : State) (site cls row col cause : Nat) (inj : Bool) : State :=
  let p := pageOfSite site
  (s.react p (reactionOf p (classAt p cls)) inj).fileAt site cls row col cause

/-- A fault of a page without a cell location. -/
def State.faultP (s : State) (p cls cause : Nat) : State :=
  s.fault (siteOfPage p) cls 0xFFFF 0xFFFF cause false

/-! ### Chiplet recovery reset -/

/-- Step 3 of R303 for every chiplet: its modules go to OFF, its staged values and locks are lost, its
counters start again, and its registers hold their committed values (R517). -/
def State.chipCommon (s : State) (slot : Nat) : State :=
  let mine := fun (k : Nat) => pgSlot (k / 4096) == slot
  let s := s.each ((upTo 34).filter (fun e => pgSlot (modPage e 0) == slot || peerSlot e == slot)) (fun s e => s.modOff e)
  let s := s.withRegs { s.regs with
    staged := dropKeys mine s.regs.staged, going := dropKeys mine s.regs.going,
    pending := s.regs.pending.filter (fun p => pgSlot p != slot),
    locks := dropKeys (fun p => pgSlot p == slot) s.regs.locks }
  s.each ((s.obs.pmc.map (·.1)).filter (fun p => pgSlot p == slot)) (fun s p =>
    s.onBank p (fun b => { evsel := b.evsel, at_ := s.now }))

/-- The channel of a Lovage whose DIMMs are in service runs steps 5 and 6 of R174 again in its recovery reset (R435). -/
def Channel.trainAgain (ch : Channel) (now : Nat) : Channel :=
  if ch.st == .active || ch.st == .draining || ch.st == .drained then
    { ch with st := .training, rerun := some ch.st, step := 5, stepAt := now }
  else ch

/-- Step 3 of R303 for a Lovage: the metadata caches are empty, every root array is rebuilt, the engines are idle, but one that
has failed its bring-up vectors stays out (R241), the channels leave self-refresh, and the snoop filter is checked. -/
def State.chipLovage (s : State) (i : Nat) : State :=
  let mine := fun (h : Nat) => h / 8 == i
  let s := s.withMem { s.mem with mcache := dropKeys (fun k => mine (k / 2048)) s.mem.mcache }
  let s := s.withTier { s.tier with
    parcels := dropKeys (fun u => u / 2 == i) s.tier.parcels, filter := dropKeys (fun k => mine (k / 512)) s.tier.filter,
    eng := s.tier.eng.filterMap (fun e =>
      if e.1 / 4 = i then (if e.2.failed then some (e.1, { e.2 with job := none }) else none) else some e) }
  let s := s.each ((upTo 4).map (fun k => 4 * i + k)) (fun s c => s.onChan c (fun ch => { ch.trainAgain s.now with
    selfRef := false, job := none, jobQueue := [], fctlBusy := false, fctlOwed := false, retraining := false, retrainOwed := false,
    silver := if ch.silver.paused then ch.silver.resume s.now else ch.silver }))
  (s.each ((upTo 8).map (fun k => 8 * i + k)) (fun s hs => s.endRebuild hs (s.failingRoots hs))).checkFilter mine

/-- Step 3 of R303 for a Chervil: its links are down and its queues stopped; the registers of its functions, their
HDM decoders among them, are reloaded as every register of the chiplet is (assumption 27). -/
def State.chipChervil (s : State) (k : Nat) : State :=
  s.each (upTo 8) (fun s j =>
    let s := s.linkLost (8 * k + j) 5
    s.each (s.ldsOf (8 * k + j)) (fun s n => s.stopQueue n 5))

/-- Step 3 of R303 for Sorrel: the data mover's queues stop (R329), and the tier manager's queues, the tracer and
the Borage traffic are lost; a write that waits in its slice brings its page's trigger anew (R576). -/
def State.chipSorrel (s : State) : State :=
  let s := s.each (s.dm.map (·.1)) (fun s q => s.stopQueue q 5)
  let s := s.withTier { s.tier with
    demote := [], promote := [], swept := [], domCmd := none, cmdResult := 0, compact := [] }
  let s := s.withObs { s.obs with
    buf := [], wptr := 0, wraps := 0, dropped := 0, full := false, dropFlag := false, fullRaised := false }
  let s := s.withAmap { s.amap with staged := [], result := 0, flushReads := [] }
  s.brgLost.runAll

/-- Step 3 of R303. -/
def State.chipReset (s : State) (slot : Nat) : State :=
  let s := s.chipCommon slot
  if 8 ≤ slot ∧ slot ≤ 11 then s.chipLovage (slot - 8)
  else if slot = 4 ∨ slot = 5 then s.chipChervil (slot - 4)
  else if slot = 2 then s.chipSorrel
  else if slot = 12 then s.brgReset.brgRelease
  else s

/-- The home slices, links and channels of a unit return to service (R495): those whose own record is not
active. -/
def State.unitsBack (s : State) (u : Nat) : State :=
  let own := fun (p : Nat) => p != u && (s.frec p).active
  let back := s.flt.quarantined.filter (fun p => encloses u p && !own p)
  let s := s.withFlt { s.flt with quarantined := s.flt.quarantined.filter (fun p => !back.contains p) }
  let s := s.each (back.filter (fun p => 8 ≤ pgSlot p && pgSlot p ≤ 11)) (fun s p => (s.flushSlice (hsOfPage p)).checkSlice (hsOfPage p))
  s.each ((upTo 16).filter (fun c => encloses u (chanPage c 63) && !own (chanPage c 63))) (fun s c => s.recoverChan c)

/-- The channels of a Lovage. -/
def chansOf (slot : Nat) : List Nat := if 8 ≤ slot ∧ slot ≤ 11 then (upTo 4).map (fun k => 4 * (slot - 8) + k) else []

/-- The recovery reset of a Lovage waits for the training of its DIMMs (R435). -/
def State.chipTrains (s : State) (slot : Nat) : Bool :=
  (chansOf slot).any (fun c => (s.chan c).st == .training && (s.chan c).rerun.isSome)

/-- The DIMMs of a Lovage have trained again in the recovery reset that runs. -/
def State.chipTrained (s : State) (slot : Nat) : Bool := (chansOf slot).any (fun c => (s.chan c).rerunDone)

/-- The training of a Lovage's recovery reset is over. -/
def State.endRerun (s : State) (slot : Nat) : State :=
  s.each (chansOf slot) (fun s c => s.onChan c (fun ch => { ch with rerunDone := false }))

/-- Step 4 of R303: R300 is applied, and then the chiplet serves again (R304). -/
def State.chipServes (s : State) (slot : Nat) : State :=
  let u := chipletPage slot
  let s := s.applyDiscard u (fun x => encloses u x)
  if s.applies u then s
  else (s.unitsBack u).withFlt { (s.unitsBack u).flt with chipF := (s.unitsBack u).flt.chipF.filter (· != slot) }

/-- The slots of which RST.CTRL OP 5 resets the chiplet (R303, R443). -/
def resettable (slot : Nat) : Bool :=
  slot == 2 || slot == 4 || slot == 5 || (8 ≤ slot && slot ≤ 12)

/-- One chiplet recovery reset of the recovery of the device, from step 3 of R303; that of a Lovage ends once its DIMMs have
trained (R435, R439, R495). -/
def State.resetInTurn (s : State) (slot : Nat) : State :=
  let s := s.chipReset slot
  s.when (!s.chipTrains slot) (fun s => s.raiseBoot 27 slot [slot])

/-- Recovery of the device after a class F reaction whose site is in Sorrel (R495): once R300 has been applied the Lovage serve
again and an active record closes. -/
def State.sorrelRecovery (s : State) : State :=
  let lov := [8, 9, 10, 11]
  let s := if s.applies devRec || s.flt.devReset then s
    else (s.withFlt { s.flt with devReset := true }).each (2 :: lov) (fun s k => s.resetInTurn k)
  if lov.any s.chipTrains then s else
  let s := s.each (lov.filter s.chipTrained) (fun s k => (s.endRerun k).raiseBoot 27 k [k])
  let s := (s.withFlt { s.flt with devReset := false }).applyDiscard devRec (fun x => x != 0xFFFE)
  if s.applies devRec then s
  else
    let s := (s.unitsBack devRec).withFlt { (s.unitsBack devRec).flt with dev := 0 }
    s.when (s.frec devRec).active (fun s => s.closeRec devRec)

/-- A chiplet recovery reset (R303). Sorrel's is always a class F reaction, of the device: it takes that reaction and the
recovery from it (R490, R495). The reset of another chiplet ends once its DIMMs have trained and R300 has been applied (R435). -/
def State.recoveryReset (s : State) (slot : Nat) : State :=
  if slot = 2 then (if s.applies devRec then s else s.stopDevice).sorrelRecovery
  else
    let u := chipletPage slot
    let s := if s.applies u || s.chipTrains slot || s.chipTrained slot then s
      else (if s.flt.chipF.contains slot then s else s.stopChip slot).chipReset slot
    if s.chipTrains slot then s else
    let s := (s.endRerun slot).chipServes slot
    if s.applies u then s else s.raiseBoot 27 slot [slot]

/-! ### Recoveries -/

/-- Recovery of the device (R495): for a site in Dill or Hyssop a warm reset, at whose end the record closes;
a device that has not come to step 9 has no main domains to keep and is reset cold (DEDUCED). -/
def State.deviceRecovery (s : State) : State :=
  if pgSlot (pageOfSite (s.frec devRec).site) = 2 then s.sorrelRecovery
  else
    let s := (s.unitsBack devRec).withFlt { (s.unitsBack devRec).flt with dev := 2 }
    if s.boot.st = 0 ∨ s.boot.st = 6 then s.devRecovered
    else if s.boot.trained then s.warmReset 0 else s.coldReset 0

/-- A channel that the record quarantines still stands at the critical level (R205, R495). -/
def State.heldHot (s : State) (u : Nat) : Bool :=
  (upTo 16).any (fun c => encloses u (chanPage c 63) && (s.chan c).st == .quarantined && (s.chan c).tooHot)

/-- The recovery of a record's unit and reaction, with R300, and the closing of the record (R495); a recovery of the device
that runs is not begun again. While a poison write of R300 waits, the unit stays out of service and its record active, until the
recovery is asked for again (R304; assumption 148). -/
def State.recoverRec (s : State) (u : Nat) : State :=
  let r := s.frec u
  if !r.active || s.heldHot u || (u == devRec && s.flt.dev == 2) then s
  else if r.reaction = 6 then s.deviceRecovery
  else
    let s := if r.reaction = 5 then s.recoveryReset (pgSlot u) else s.applyDiscard u (fun x => encloses u x)
    if s.applies u || (r.reaction == 5 && s.chipTrains (pgSlot u)) then s
    else (if r.reaction = 5 then s else s.unitsBack u).closeRec u

/-- The DIMMs of a Lovage have trained again: its recovery reset goes on, for its record, for the device or as commanded
(R303, R435, R495). -/
def State.resetGoesOn (s : State) (slot : Nat) : State :=
  if s.chipTrains slot || !s.chipTrained slot then s
  else if s.flt.devReset then s.sorrelRecovery
  else if (s.frec (chipletPage slot)).active && (s.frec (chipletPage slot)).reaction == 5 then s.recoverRec (chipletPage slot)
  else s.recoveryReset slot

/-- FC.CFG.RETRIES (R509): 0 acts as 1. -/
def State.retries (s : State) : Nat := max 1 (s.cfg fcPage 0x80 0 3)

/-- A recovery fails (R496): a new quiet period, and after RETRIES failures in succession the unit is held
out; the device enters the AUX-only state. -/
def State.recoveryFailed (s : State) (u : Nat) : State :=
  let r := s.frec u
  let out := decide (s.retries ≤ r.fails + 1)
  let s := s.setRec u { r with fails := r.fails + 1, quietEnd := s.now + s.quiet r.highest, heldOut := out }
  let s := s.raise { src := 3, site := r.site, cls := r.cls, code := r.cause }
  if u = devRec then
    let s := s.withFlt { s.flt with dev := if out then 3 else 1 }
    s.when (out && !(s.boot.st == 0) && !s.boot.entering) (fun s =>
      (s.onBoot (fun b => { b with heldOut := true })).enterAux true)
  else s

/-- FAULT_N is asserted (R498). -/
def State.faultN (s : State) : Bool :=
  s.flt.recs.any (fun e => e.2.active && decide (4 ≤ e.2.reaction)) || s.hsc.st == .latched || s.hsc.st == .short ||
    s.flt.dev == 3

/-- The record that a site's recovery commands name: the device record where the site is that of its first
fault, else the record of the site's unit (R495, R496). -/
def State.recNamed (s : State) (site : Nat) : Nat :=
  if (s.frec devRec).active && (s.frec devRec).site == site then devRec
  else
    let u := unitOf (pageOfSite site)
    match s.activeOver u with
    | some v => if v = u ∨ (s.frec v).site = site then v else u
    | none => u

/-! ### Module ends -/

/-- Slot of the chiplet that a module end's connection serves: the far one where the end is Sorrel's. -/
def servedSlot (e : Nat) : Nat := if pgSlot (modPage e 0) = 2 then peerSlot e else pgSlot (modPage e 0)

/-- A connection that has lost its last module, and had not before, is class F at its chiplet's site (R302). -/
def State.connLost (s : State) (e : Nat) (was : Bool) : State :=
  if !was && s.connGone e then s.faultP (chipletPage (servedSlot e)) 5 0 else s

/-- An operation on a module end: retiring or failing the last module of a connection is class F at the site
of the chiplet that the connection serves (R302); the last module that start-up waits for ends its step 8. -/
def State.fabricOp (s : State) (e : Nat) (f : State → State) : State :=
  ((f s).connLost e (s.connGone e)).afterFabric

end Sys2Proof.Machine
end

