-- ==== Sys2Proof/Machine/Clocks.lean ====
section
/-! DEFINITION. Clocks and power sub-domains: crystals, REF, coasting and relock, clock gating, source changes
and the sub-domains that go down and come up (R382-R407). -/

namespace Sys2Proof.Machine

open Host (Outcome)

/-! ### Crystals and REF -/

/-- Change the clock state. -/
def State.onClk (s : State) (f : Clocks → Clocks) : State := s.withClk (f s.clk)

/-- A crystal: false A, true B. -/
def State.xtal (s : State) (b : Bool) : Crystal := if b then s.clk.xb else s.clk.xa

/-- Set a crystal. -/
def State.setXtal (s : State) (b : Bool) (x : Crystal) : State :=
  s.onClk (fun c => if b then { c with xb := x } else { c with xa := x })

/-- CLK.CFG.REF_PREF names XTAL_B (R405). -/
def State.prefB (s : State) : Bool := s.cfgBit clkPage 0x80 0

/-- Raise an event of the clock root or power controller (R404). -/
def State.raiseClk (s : State) (src page subject : Nat) : State :=
  s.raise { src := src, site := siteOfPage page, subject := subject }

/-- REF is first taken from a crystal (R383). -/
def State.takeRef (s : State) (b : Bool) : State := s.onClk (fun c => { c with refOn := true, refB := b })

/-- REF is looked for after 20 ms: the preferred crystal, else the other, else CLK_XTAL_FAIL (R383). -/
def State.lookForRef (s : State) : State :=
  if (s.xtal s.prefB).ok then s.takeRef s.prefB
  else if (s.xtal (!s.prefB)).ok then s.takeRef (!s.prefB)
  else s.raiseClk 16 clkPage (b2n s.prefB)

/-! ### Loops -/

/-- The MON bit of a coasting loop (R384, R405). -/
def monBit (n : Nat) : Option Nat :=
  if n = 0 then some 2 else if n < 17 then some 3 else if n < 36 then some 4 else none

/-- Set a bit of CLK.MON. -/
def State.setMon (s : State) (b : Nat) : State :=
  s.onClk (fun c => { c with mon := c.mon ||| BitVec.ofNat 11 (2 ^ b) })

/-- A locked loop starts to coast, its output moving from where it is (R388); `lost` gives the moment where its reference is good (R391). -/
def State.coast (s : State) (n : Nat) (lost : Option Nat) : State :=
  s.when ((s.loop n).locked && !(s.loop n).coast) (fun s =>
    let f := s.loopPpm n
    let s := s.settleAll.onLoop n (fun l => { l with coast := true, lostAt := lost, slewAt := s.now, from_ := f })
    let s := match monBit n with
      | some b => s.setMon b
      | none => s
    s.raiseClk 18 0x0181 n)

/-- Every loop that REF feeds starts to coast (R388-R390). -/
def State.coastRef (s : State) : State := s.each (upTo 36) (fun s n => s.coast n none)

/-- REF moves to the other crystal (R389): CLK_REF_SWITCH, and the loops coast across the move. -/
def State.moveRef (s : State) : State :=
  let s := s.onClk (fun c => { c with refB := !c.refB })
  (s.raiseClk 17 clkPage (b2n s.clk.refB)).coastRef

/-- A crystal fails: CLK_XTAL_FAIL, where it was within limits (R389, R404). -/
def State.xtalFails (s : State) (b : Bool) : State :=
  s.when (s.xtal b).ok (fun s => (s.setXtal b { ok := false, since := none, from_ := s.now }).raiseClk 16 clkPage (b2n b))

/-- The fast oscillator is free-running while REF is lost (R392). -/
def State.discSync (s : State) : State := s.when (!s.refGood) (fun s => s.onClk (fun c => { c with disc := false }))

/-- REFCLK of a group is lost (R51, R388). -/
def State.refclkLost (s : State) (g : Nat) : State :=
  (((s.setMon (5 + g)).onGrp g (fun p => { p with refLost := true })).coast (36 + g) none).groupLost g

/-- Four periods of the monitors, over which a crystal is found within limits before it qualifies, in ns: of the slow oscillator,
or of 1,600 AUX-clock cycles where that is out of range (R383, R387). -/
def State.qualifyTime (s : State) : Nat := if s.clk.slowBad then us 128 else us 122

/-- A crystal is fitted: XTAL_B may be left out (R383). -/
def State.fitted (s : State) (b : Bool) : Bool := !b || s.boot.board.xtalB

/-- XTAL_QUALIFY (R383): a crystal that is fitted has been within limits for four slow-oscillator periods. -/
def execXtalQualify (x : Fin 2) (s : State) : Outcome State Fault Refusal :=
  let b := x.val == 1
  .next (s.when (s.boot.aux && s.fitted b && !(s.xtal b).ok) (fun s =>
    let s := s.reach ((s.xtal b).from_ + s.qualifyTime)
    let s := s.setXtal b { (s.xtal b) with ok := true, since := some s.now }
    s.when (!s.clk.refOn && s.prefB == b) (fun s => s.takeRef b)))

/-- REF is looked for 20 ms after AUX is good (R383). -/
def State.firstLook (s : State) : State := (s.reach (s.boot.auxAt + ms 20)).lookForRef

/-- REF is looked for at the next whole second after the first 20 ms (R383). -/
def State.nextLook (s : State) : State :=
  let t := s.boot.auxAt + ms 20
  (s.reach (t + sec ((s.now - t) / sec 1 + 1))).lookForRef

/-- XTAL_QUALIFY_TIMEOUT (R383). -/
def execXtalQualifyTimeout (s : State) : Outcome State Fault Refusal :=
  .next (s.when (s.boot.aux && !s.clk.refOn) State.firstLook)

/-- XTAL_RETRY (R383). -/
def execXtalRetry (s : State) : Outcome State Fault Refusal :=
  .next (s.when (s.boot.aux && !s.clk.refOn) State.nextLook)

/-- CLOCK_MONITOR_FLAG (R51, R387, R388): a flagged crystal in use makes the REF-fed loops coast; a flagged
loop has lost lock (DEDUCED). A channel loop's monitor is suspended from step 3 to step 4 of a frequency change, the part of it
for which `fctlBusy` stands (R190). -/
def State.flagged (s : State) (c : MonClock) : State :=
  match c with
  | .xtal x =>
    let b := x.val == 1
    let s := (s.setMon x.val).xtalFails b
    let s := s.setXtal b { (s.xtal b) with from_ := s.now }
    (s.when (s.clk.refOn && s.clk.refB == b) (fun s => s.coastRef)).discSync
  | .root => s.coast 0 (if s.refGood then some s.now else none)
  | .channel k =>
    s.when (!(s.chan k.val).fctlBusy) (fun s => s.coast (1 + k.val) (if s.refGood then some s.now else none))
  | .module m => s.coast (17 + m.val) (if s.refGood then some s.now else none)
  | .refclk g => s.refclkLost g.val
  | .fastOsc => s.setMon 10

/-- CLOCK_MONITOR_FLAG (R387). -/
def execClockMonitorFlag (c : MonClock) (s : State) : Outcome State Fault Refusal := .next (s.flagged c)

/-- REFCLK_LOSS (R51, R388). -/
def execRefclkLoss (g : Fin 4) (s : State) : Outcome State Fault Refusal := .next (s.refclkLost g.val)

/-- SLOW_OSC_CHECK (R387): every 1 ms; one that is out of range is left out of the monitors' periods. -/
def execSlowOscCheck (bad : Bool) (s : State) : Outcome State Fault Refusal :=
  .next (s.when s.boot.aux (fun s =>
    let s := s.reach (s.clk.slowAt + ms 1)
    let s := s.onClk (fun c => { c with slowAt := s.now, slowBad := bad })
    s.when bad (fun s => (s.setMon 9).raiseClk 20 clkPage 0)))

/-- REF_EDGE_LOSS (R388). -/
def execRefEdgeLoss (loop : Fin 40) (s : State) : Outcome State Fault Refusal := .next (s.coast loop.val none)

/-- LOOP_LOCK_LOSS (R391). -/
def execLoopLockLoss (loop : Fin 40) (s : State) : Outcome State Fault Refusal :=
  .next (s.when (s.refGood || decide (36 ≤ loop.val)) (fun s => s.coast loop.val (some s.now)))

/-- LOOP_RELOCK (R388): on a good reference, a REFCLK pair for a port group's loop (R50). -/
def execLoopRelock (loop : Fin 40) (s : State) : Outcome State Fault Refusal :=
  .next ((s.when (decide (36 ≤ loop.val) && decide (8 ≤ s.boot.step)) (fun s =>
      (s.onGrp (loop.val - 36) (fun p => { p with refLost := false })).onLoop loop.val (fun l => { l with locked := true }))).when
    ((s.loop loop.val).coast && (s.refGood || decide (36 ≤ loop.val))) (fun s =>
    let f := s.loopPpm loop.val
    (s.settleAll.onLoop loop.val (fun l => { l with coast := false, lostAt := none, slewAt := s.now, from_ := f })).raiseClk 19
      0x0181 loop.val))

/-- REF_SWITCH (R389). -/
def execRefSwitch (s : State) : Outcome State Fault Refusal :=
  .next (s.when (s.clk.refOn && s.cfgBit clkPage 0x80 1 && (s.xtal (!s.clk.refB)).ok) (fun s =>
    (s.xtalFails s.clk.refB).moveRef))

/-- Window offset of CLK.CFG. -/
def clkCfg : Nat := clkPage * 4096 + 0x80

/-- The effect of CLK.CFG.SWAP (R389). -/
def State.swapRef (s : State) : State :=
  s.when (s.clk.refOn && (s.xtal (!s.clk.refB)).ok) (fun s => s.moveRef)

/-- CLK_SWAP (R389, R405). -/
def execClkSwap (m : Master) (s : State) : Outcome State Fault Refusal :=
  .next (s.gate m clkCfg (s.rmw clkCfg [(3, 1, 1)]) (fun s => s.swapRef))

/-- REF_REVERT (R389). -/
def execRefRevert (s : State) : Outcome State Fault Refusal :=
  match (s.xtal s.prefB).since with
  | some t =>
    if s.clk.refOn && s.cfgBit clkPage 0x80 2 && s.clk.refB != s.prefB then
      .next ((s.reach (t + sec 10)).moveRef)
    else .next s
  | none => .next s

/-- How long a loop may stay without lock (R391). -/
def lockLimit (n : Nat) : Nat := if n = 0 then ms 1 else if n < 17 then us 200 else if n < 36 then us 50 else us 100

/-- What a loop that stays without lock brings (R391). -/
def State.lockLost (s : State) (n : Nat) : State :=
  if n = 0 then s.faultP 0x0181 5 0
  else if n < 17 then s.faultP (chanPage (n - 1) 63) 3 0
  else if n < 36 then s.fabricOp (n - 17) (fun s => s.enterLreset (n - 17) 7)
  else s.groupLost (n - 36)

/-- LOCK_LOSS_TIMEOUT (R391). -/
def execLockLossTimeout (loop : Fin 40) (s : State) : Outcome State Fault Refusal :=
  match (s.loop loop.val).lostAt with
  | some t =>
    let s := s.reach (t + lockLimit loop.val)
    .next ((s.onLoop loop.val (fun l => { l with lostAt := none })).lockLost loop.val)
  | none => .next s

/-- FAST_OSC_DISCIPLINE (R392). -/
def execFastOscDiscipline (s : State) : Outcome State Fault Refusal :=
  .next (s.when s.refGood (fun s => s.onClk (fun c => { c with disc := true })))

/-- ROOT_LOOP_LOCK (R383, R395, R426): step 7 ends. -/
def execRootLoopLock (s : State) : Outcome State Fault Refusal :=
  .next (s.when (s.boot.step == 7 && s.boot.main && s.refGood) (fun s => s.rootLocked.afterFabric))

/-! ### Gating and sources -/

/-- A gating domain of the AUX island (R393, R397). -/
def auxGating (d : Nat) : Bool := decide (366 ≤ d) && d != 379

/-- A gating domain whose clock may stop: not one of 370, 371, 380 and 381, powered, clocked and without work (R394). -/
def State.mayGate (s : State) (d : Nat) : Bool :=
  !(d == 370 || d == 371 || d == 380 || d == 381) && (auxGating d || s.boot.main) && !s.clk.down.getLsbD d &&
    decide (0 < s.khzOf (s.gateClock d)) && !s.domWork d

/-- CLOCK_GATE_STOP (R394): 16 cycles of the domain pass without work. -/
def execClockGateStop (d : Fin 384) (s : State) : Outcome State Fault Refusal :=
  .next (s.when (s.mayGate d.val) (fun s =>
    let s := s.reach (s.now + ceilDiv 16000000 (s.khzOf (s.gateClock d.val)))
    s.settleAll.onClk (fun c => { c with gated := c.gated ||| BitVec.ofNat 384 (2 ^ d.val) })))

/-- CLOCK_GATE_START (R394). -/
def execClockGateStart (d : Fin 384) (s : State) : Outcome State Fault Refusal :=
  .next (s.when (s.clk.gated.getLsbD d.val) (fun s =>
    (s.settleAll.onClk (fun c => { c with gated := c.gated &&& ~~~(BitVec.ofNat 384 (2 ^ d.val)) })).cycleRise d.val))

/-- A gating domain with two sources (R395). -/
def twoSources (d : Nat) : Bool := (decide (366 ≤ d) && decide (d ≤ 369)) || (decide (372 ≤ d) && decide (d ≤ 378))

/-- Window offset of CLK.DSEL. -/
def dselOff : Nat := pwrPage * 4096 + 0x8C

/-- A source change of a gating domain is in progress (R396). -/
def State.dselBusy (s : State) (d : Nat) : Bool := s.clk.dselEnd.any (fun e => e.1 == d && decide (s.now < e.2))

/-- The counts of the pages of a gating domain stand until an instant. -/
def State.standPages (s : State) (d t : Nat) : State :=
  s.each ((s.obs.pmc.map (·.1)).filter (fun p => gatingOf p == some d)) (fun s p =>
    s.onBank p (fun b => { b with at_ := max b.at_ t }))

/-- A domain takes its other source, which needs no time while its gate is closed; else the gate is closed for three periods
of each clock (R396). -/
def State.dselMove (s : State) (d : Nat) (toAux : Bool) : State :=
  let s := s.settleAll
  let old := s.khzOf (s.dillClock d)
  let rest := s.clk.onAux.filter (· != d)
  let gated := s.gatedNow d
  let s := s.onClk (fun c => { c with dselResult := 0, onAux := if toAux then rest ++ [d] else rest })
  let t := if gated then s.now else s.now + ceilDiv 3000000 (max 1 old) + ceilDiv 3000000 (max 1 (s.khzOf (s.dillClock d)))
  (s.onClk (fun c => { c with dselEnd := some (d, t) })).standPages d t

/-- The effect of CLK.DSEL.SRC (R395, R396, R403, R407). -/
def State.dsel (s : State) (d src : Nat) : State :=
  if src = 0 ∨ src = 3 then s
  else if !twoSources d then s.onClk (fun c => { c with dselResult := 1 })
  else if !(s.loop 0).locked || (s.loop 0).coast then s.onClk (fun c => { c with dselResult := 2 })
  else if s.dselBusy d then s.onClk (fun c => { c with dselResult := 3 })
  else if s.clk.onAux.contains d == (src == 2) then s.onClk (fun c => { c with dselResult := 0 })
  else s.dselMove d (src == 2)

/-- DSEL_CHANGE (R395, R396). -/
def execDselChange (m : Master) (d : BitVec 9) (src : BitVec 2) (s : State) : Outcome State Fault Refusal :=
  .next (s.gate m dselOff (wordOf [(0, d.toNat), (9, src.toNat)]) (fun s => s.dsel d.toNat src.toNat))

/-! ### Sub-domains -/

/-- First gating domain and number of gating domains of a sub-domain (R393, R398). -/
def sdDomains : SubDomain → Nat × Nat
  | .chanLogic c => (128 + 3 * c.val, 2)
  | .chanPhy c => (130 + 3 * c.val, 1)
  | .engine1 u => (177 + 3 * u.val, 1)
  | .hostLink l => (200 + 3 * l.val, 3)
  | .phyQuad q => (248 + q.val, 1)
  | .moduleEnd e => (264 + e.val, 1)
  | .dmGroup j => (344 + j.val, 1)
  | .landGroup k => (361 + k.val, 1)
  | .tracer => (364, 2)

/-- The site of a sub-domain. -/
def sdPage : SubDomain → Nat
  | .chanLogic c => chanPage c.val 0
  | .chanPhy c => chanPage c.val 5
  | .engine1 u => engPage (2 * u.val + 1)
  | .hostLink l => linkPage l.val 63
  | .phyQuad q => phyPage (q.val / 4)
  | .moduleEnd e => modPage e.val 0
  | .dmGroup _ => dmPage
  | .landGroup k => poolPage (if k.val = 0 then 1 else if k.val = 1 then 6 else 12)
  | .tracer => trcPage

/-- The mask of a run of gating domains. -/
def sdMask (d : Nat × Nat) : BitVec 384 := BitVec.ofNat 384 ((2 ^ d.2 - 1) <<< d.1)

/-- A sub-domain that goes down only with PWR.CFG.AUTO_EN, without a command (R398, R402). -/
def sdAuto : SubDomain → Bool
  | .engine1 _ | .dmGroup _ | .landGroup _ | .tracer => true
  | _ => false

/-- The link that uses a PHY quad, lanes 4q to 4q + 3 of a group (R47, R393). -/
def State.linkOfQuad (s : State) (q : Nat) : Nat :=
  let g := q / 4
  let b := s.bifur g
  4 * g + (if b = 1 then q % 4 / 2 else if b = 2 then q % 4 else 0)

/-- The apertures of a landing group (R393). -/
def landsOf (k : Nat) : List Nat :=
  if k = 0 then [1, 2, 3, 4, 5] else if k = 1 then [6, 7, 8, 9, 10, 11] else [12, 13, 14, 15, 16]

/-- A sub-domain may go down (R398). -/
def State.sdIdle (s : State) (d : SubDomain) : Bool :=
  let auto := s.cfgBit pwrPage 0x80 0
  match d with
  | .chanLogic c =>
    let st := (s.chan c.val).st
    st == .disabled || st == .drained || st == .poweredDown
  | .chanPhy c =>
    let st := (s.chan c.val).st
    st == .disabled || st == .poweredDown || !s.cfgBit (chanPage c.val 0) 0x80 12
  | .engine1 u =>
    auto && (s.eng (2 * u.val)).avail && (s.eng (2 * u.val + 1)).job.isNone
  | .hostLink l => !s.present l.val || !s.grpEn (l.val / 4)
  | .phyQuad q =>
    let l := s.linkOfQuad q.val
    !s.present l || (s.link l).st == .l2 || !s.grpEn (l / 4)
  | .moduleEnd e => ((s.mod e.val).st == .off && brgModEnd e.val && s.brg.filler) || (s.mod e.val).gone
  | .dmGroup j => auto && (upTo 4).all (fun k =>
      let q := 4 * j.val + k
      (s.queue q).st != 1 && (s.queue q).run.isEmpty && s.dmqGet q 0 0 1 == 0)
  | .landGroup k => auto && (landsOf k.val).all (fun a => !s.cfgBit (poolPage a) 0x80 18)
  | .tracer => auto && !s.cfgBit trcPage 0x80 1 && s.obs.buf.isEmpty

/-- PWR.CFG.IDLE in ns: 0 acts as 1 (R407). -/
def State.idleTime (s : State) : Nat := ms (max 1 (s.cfg pwrPage 0x80 1 7))

/-- SUBDOMAIN_POWER_DOWN (R398, R400): IDLE has passed since the sub-domain last woke, was accessed or ended its
work. -/
def execSubdomainPowerDown (sd : SubDomain) (s : State) : Outcome State Fault Refusal :=
  let d := sdDomains sd
  if s.boot.main && s.sdIdle sd && !s.clk.down.getLsbD d.1 then
    let s := match look? s.clk.wokeAt d.1 with
      | some t => s.reach (t + s.idleTime)
      | none => s
    let s := match sd with
      | .engine1 u => (s.reach ((s.eng (2 * u.val + 1)).usedAt + s.idleTime)).onEng (2 * u.val + 1) (fun e => { e with workAt := none })
      | _ => s
    .next (s.settleAll.onClk (fun c => { c with down := c.down ||| sdMask d, gated := c.gated &&& ~~~(sdMask d) }))
  else .next s

/-- A run of gating domains regains power (R400). -/
def State.powerUp (s : State) (d : Nat × Nat) (auto : Bool) : State :=
  s.when (s.clk.down.getLsbD d.1) (fun s => s.settleAll.onClk (fun c => { c with
    down := c.down &&& ~~~(sdMask d), waking := wipe c.waking d.1, wakes := satAdd 0xFFFF c.wakes 1,
    wokeAt := if auto then enter s.now c.wokeAt d.1 else c.wokeAt }))

/-- Something powers a sub-domain up: an access or work waits for it, or RETURN has been given to its channel
or module (R398, R400). -/
def State.sdWanted (s : State) (d : SubDomain) : Bool :=
  match d with
  | .chanPhy c => !((s.chan c.val).st == .disabled || (s.chan c.val).st == .poweredDown)
  | .moduleEnd e => !((s.mod e.val).st == .off || (s.mod e.val).gone)
  | _ => true

/-- PHY_QUAD_WAKE (R401). -/
def execPhyQuadWake (l : Fin 16) (why : QuadWakeCause) (s : State) : Outcome State Fault Refusal :=
  let due := match why with
    | .idleExit | .beacon => (s.link l.val).st == .l2
    | .perstRelease => !(s.grp (l.val / 4)).perst
    | .retrain | .cfgChange => true
  .next (s.when (due && s.boot.main && s.present l.val) (fun s =>
    s.each ((upTo 4).filter (fun q => s.linkOfQuad (4 * (l.val / 4) + q) == l.val)) (fun s q =>
      s.powerUp (248 + 4 * (l.val / 4) + q, 1) false)))

/-- The sub-domains that go down automatically. -/
def autoSubs : List SubDomain :=
  (upTo 8).map (fun u => .engine1 (Fin.ofNat 8 u)) ++ (upTo 16).map (fun j => .dmGroup (Fin.ofNat 16 j)) ++
    (upTo 3).map (fun k => .landGroup (Fin.ofNat 3 k)) ++ [.tracer]

/-- WAKE_IN asks to leave the AUX-only state; during an entry the request waits for its end (R402, R403,
R433). -/
def State.wakeLeave (s : State) : State :=
  if s.boot.entering then s.onClk (fun c => { c with wakeExit := true })
  else if s.boot.st = 0 then s.leaveAux 4
  else s

end Sys2Proof.Machine
end

