-- ==== Sys2Proof/Machine/HostLinks.lean ====
section
/-! DEFINITION. Commands of the host links: PERST_N, training, link states, resets, margining,
configuration requests, requester completions and HRDY_N pulses (R47-R91). -/

namespace Sys2Proof.Machine

open Host (Outcome)

/-! ### PERST_N and training -/

/-- PERST_N_ASSERT (R52, R77). -/
def execPerstNAssert (g : Fin 4) (s : State) : Outcome State Fault Refusal :=
  let s := s.resetGroup g.val
  .next (s.onGrp g.val (fun p => { p with perst := true, margining := [] }))

/-- PERST_N_RELEASE (R52): configuration space answers normally 1 s later, at the bound itself (assumption 165). -/
def execPerstNRelease (g : Fin 4) (s : State) : Outcome State Fault Refusal :=
  if (s.grp g.val).perst then
    let s := s.onGrp g.val (fun p => { p with perst := false, perstRel := s.now })
    .next (s.each (upTo 4) (fun s k =>
      s.onLink (4 * g.val + k) (fun l => { l with cfgReadyAt := s.now + sec 1 })))
  else .next s

/-- LINK_UP (R53, R60). -/
def execLinkUp (l : Fin 16) (o : PartnerOffer) (s : State) : Outcome State Fault Refusal :=
  .next (s.when (s.canTrain l.val) (fun s => s.linkTrained l.val o))

/-! ### Link states -/

/-- Traffic flows on a link at full or reduced width. -/
def Link.flows (k : Link) : Bool := k.st == .l0 || k.st == .l0p

/-- RECOVERY_ENTRY (R60, R63): a pending request of the device's own is withdrawn for the host's. -/
def execRecoveryEntry (l : Fin 16) (byHost : Bool) (s : State) : Outcome State Fault Refusal :=
  .next (s.when (s.link l.val).flows (fun s => s.onLink l.val (fun k =>
    { k with st := .recovery, ownReq := if byHost then none else k.ownReq })))

/-- Recovery succeeds at a rate and width, which stay within what both ends offer; the flit mode follows the rate, and a
CXL link, or one whose negotiation is held, that ends at 2.5 or 5 GT/s becomes a plain PCIe link (R48, R53, R54, R56,
R60). -/
def State.recovered (s : State) (l rate width : Nat) : State :=
  let old := s.link l
  let rate := min rate (s.rateCap l old.offer)
  let width := min width (s.widthCap l old.offer)
  let plain := (old.cxl || old.held) && decide (rate < 2)
  let cxl := old.cxl && !plain
  let was := s.mgmtUp
  let s := (s.onLink l (fun k => { k with
    st := .l0, rate := rate, width := width, active := width, widthAt := s.now, lastUse := s.now,
    cxl := cxl, bi := k.bi && !plain, mld := k.mld && !plain,
    held := k.held && !plain, heldOffer := if plain then none else k.heldOffer,
    flit := flitModeAt rate (cxl || (k.held && !plain)) k.offer.flit256,
    l0pOk := s.cfgBit (linkPage l 0) 0x80 7 && k.offer.l0p &&
      flitModeAt rate (cxl || (k.held && !plain)) k.offer.flit256 != .nonFlit })).tagsFit l
  let s := s.when (old.rate != rate || old.width != width) (fun s => s.raiseLink l 2 none 0)
  let s := s.when plain (fun s => s.raiseLink l 4 none 0)
  s.unlockIfDown was

/-- RECOVERY_EXIT (R60). -/
def execRecoveryExit (l : Fin 16) (res : Option (Fin 7 × Fin 5)) (s : State) :
    Outcome State Fault Refusal :=
  .next (s.when ((s.link l.val).st == .recovery) (fun s =>
    match res with
    | some r => s.recovered l.val r.1.val r.2.val
    | none => s.linkLost l.val 4))

/-- An L0p change to a width agreed by both ends (R60, R85). -/
def State.l0pTo (s : State) (l w : Nat) : State :=
  let k := s.link l
  let s := s.onLink l (fun k => { k with
    active := w, ownReq := none, widthAt := s.now, st := if w = k.width then .l0 else .l0p })
  s.when (k.active != w) (fun s => s.raiseLink l 3 none 0)

/-- L0p may be used on a link (R53, R88). -/
def State.l0pUse (s : State) (l : Nat) : Bool :=
  (s.link l).flows && (s.link l).l0pOk && (s.link l).flit != .nonFlit && s.cfgBit (linkPage l 0) 0x80 7

/-- HOST_LINK_REQUEST (R63). -/
def execHostLinkRequest (l : Fin 16) (r : HostLinkReq) (s : State) : Outcome State Fault Refusal :=
  let s := s.when (s.link l.val).flows (fun s => s.onLink l.val (fun k => { k with ownReq := none }))
  match r with
  | .l0p w => .next (s.when (s.l0pUse l.val && decide (w.val ≤ (s.link l.val).width)) (fun s =>
      s.l0pTo l.val w.val))
  | .retrain => .next (s.when (s.link l.val).flows (fun s =>
      s.onLink l.val (fun k => { k with st := .recovery })))

/-- L0P_NARROW (R62): agreed by the host, or pending. The utilisation of the present width has been low for 100 us
(assumption 119). -/
def execL0pNarrow (l : Fin 16) (w : Fin 5) (agreed : Bool) (s : State) : Outcome State Fault Refusal :=
  .next (s.when (s.l0pUse l.val && decide (w.val < (s.link l.val).active)) (fun s =>
    let s := s.reach ((s.link l.val).widthAt + us 100)
    if agreed then s.l0pTo l.val w.val
    else s.onLink l.val (fun k => { k with ownReq := some w.val })))

/-- L0P_WIDEN (R62): the full trained width is asked for. -/
def execL0pWiden (l : Fin 16) (agreed : Bool) (s : State) : Outcome State Fault Refusal :=
  .next (s.when ((s.link l.val).st == .l0p) (fun s =>
    if agreed then s.l0pTo l.val (s.link l.val).width
    else s.onLink l.val (fun k => { k with ownReq := some k.width })))

/-- No register access and no forwarded access of some hosts is outstanding (R61, R368, R400, R540). -/
def State.accessIdle (s : State) (lds : List Nat) : Bool :=
  !s.clk.held.any (fun h => hostOf lds h.m) && !s.ret.held.any (fun h => hostOf lds h.m) &&
  !s.brg.fwdWait.any (fun x => lds.contains x.ld) &&
  !s.brg.fwd.any (fun x => x.m.elim (lds.contains x.ld) (hostOf lds))

/-- A request of a data mover queue of some logical devices. -/
def moverOf (l : List Nat) : Requester → Bool
  | .dm q => l.contains (q % 64)
  | _ => false

/-- A link is idle in the sense of R61. -/
def State.linkIdle (s : State) (l : Nat) : Bool :=
  let lds := s.ldsOf l
  s.accessIdle lds &&
  !s.home.queue.any (fun q => behind lds q.who || moverOf lds q.who || q.snoops.any lds.contains) &&
  !s.home.retried.any (fun r => behind lds r.req.who || moverOf lds r.req.who) &&
  !(lds.contains s.mgmtLd && !s.amap.flushReads.isEmpty) &&
  lds.all (fun n => (s.ld n).reads.isEmpty && (s.queue n).run.isEmpty && (s.queue n).ring.isNone)

/-- L1_ENTRY (R61): once the link has been idle for L1_IDLE microseconds. -/
def execL1Entry (l : Fin 16) (s : State) : Outcome State Fault Refusal :=
  let k := s.link l.val
  .next (s.when (k.flows && k.aspm && s.cfg (linkPage l.val 0) 0x80 8 8 != 0 && s.linkIdle l.val) (fun s =>
    (s.reach (k.lastUse + us (s.cfg (linkPage l.val 0) 0x80 8 8))).onLink l.val (fun k => { k with st := .l1 })))

/-- L1_EXIT (R60, R61). -/
def execL1Exit (l : Fin 16) (s : State) : Outcome State Fault Refusal :=
  .next (s.when ((s.link l.val).st == .l1) (fun s =>
    s.onLink l.val (fun k => { k with st := .l0, active := k.width, lastUse := s.now, widthAt := s.now })))

/-- PME_TURN_OFF (R60): L2 is no link-down; the agents are lost when PERST_N falls (DEDUCED, assumption
20). -/
def execPmeTurnOff (l : Fin 16) (s : State) : Outcome State Fault Refusal :=
  let was := s.mgmtUp
  .next ((s.when (s.link l.val).flows (fun s =>
    s.onLink l.val (fun k => { k with st := .l2, ownReq := none }))).unlockIfDown was)

/-- A link can be lost, or reset in-band by its host: it is not in L2, which only PERST_N and the AUX-only state leave
(R60). -/
def Link.breakable (k : Link) : Bool := k.st == .l0 || k.st == .l0p || k.st == .recovery

/-- LINK_DOWN (R60, R66). -/
def execLinkDown (l : Fin 16) (s : State) : Outcome State Fault Refusal :=
  .next (s.when (s.link l.val).breakable (fun s => s.linkLost l.val 4))

/-- HOT_RESET (R77). -/
def execHotReset (l : Fin 16) (s : State) : Outcome State Fault Refusal :=
  .next (s.when (s.link l.val).live (fun s =>
    (s.resetPort l.val).onLink l.val (fun k => { k with hot := true })))

/-- LINK_DISABLE (R77). -/
def execLinkDisable (l : Fin 16) (s : State) : Outcome State Fault Refusal :=
  .next (s.when (s.link l.val).live (fun s =>
    (s.linkLost l.val 4).onLink l.val (fun k => { k with disabled := true })))

/-! ### Function-level reset -/

/-- FLR_INITIATE (R78, R542): the requester stops and the queue with it. -/
def execFlrInitiate (ld : Fin 64) (s : State) : Outcome State Fault Refusal :=
  .next (s.when ((s.served ld.val).isSome && (s.ld ld.val).flr.isNone) (fun s =>
    let s := ((s.heard ld.val).stopQueue ld.val 5).onLd ld.val (fun d => { d with flr := some s.now, reads := [] })
    s.when (ld.val == s.mgmtLd) (fun s => s.freeLocks 1)))

/-- FLR_COMPLETE (R78, R85). -/
def execFlrComplete (ld : Fin 64) (s : State) : Outcome State Fault Refusal :=
  .next (s.when (s.ld ld.val).flr.isSome (fun s => (s.clearFunction ld.val).raiseLd ld.val 11 0))

/-! ### Lane margining -/

/-- HOST_MARGIN_COMMAND (R65): it has precedence over Dill's scan of that lane. -/
def execHostMarginCommand (g : Fin 4) (lane : Fin 16) (s : State) : Outcome State Fault Refusal :=
  .next (s.onGrp g.val (fun p => { p with
    margining := if p.margining.contains lane.val then p.margining else lane.val :: p.margining }))

/-- The present link that a lane of a group belongs to (R47). -/
def State.linkOfLane (s : State) (g lane : Nat) : Nat :=
  let b := s.bifur g
  4 * g + (if b = 1 then lane / 8 else if b = 2 then lane / 4 else 0)

/-- MARGIN_DONE (R85). -/
def execMarginDone (g : Fin 4) (lane : Fin 16) (s : State) : Outcome State Fault Refusal :=
  .next (s.when ((s.grp g.val).margining.contains lane.val) (fun s =>
    (s.onGrp g.val (fun p => { p with margining := p.margining.filter (· != lane.val) })).raiseLink
      (s.linkOfLane g.val lane.val) 16 none lane.val))

/-! ### The requester and configuration space -/

/-- REQUESTER_COMPLETION (R70, R73): data is placed by address; a completion of no outstanding read is
discarded. -/
def execRequesterCompletion (ld : Fin 64) (tag : BitVec 14) (addr : BitVec 64) (data : List Byte)
    (st : CplStatus) (s : State) : Outcome State Fault Refusal :=
  .next ((match s.linkOf ld.val with
    | some l => s.useLink l
    | none => s).hostPiece ld.val tag.toNat addr.toNat data st)

/-- HREQ.CFG.CTO in ns (R91). -/
def State.ctoOf (s : State) (l : Nat) : Nat :=
  let c := s.cfg (linkPage l 4) 0x80 12 3
  if c = 1 then ms 1 else if c = 2 then ms 10 else if c = 3 then ms 100 else if c = 4 then sec 1 else ms 50

/-- REQ_CTO (R73): the descriptor that issued the read ends. -/
def execReqCto (ld : Fin 64) (tag : BitVec 14) (s : State) : Outcome State Fault Refusal :=
  match (s.ld ld.val).reads.find? (fun r => r.tag == tag.toNat), s.linkOf ld.val with
  | some r, some l =>
    let s := s.reach (r.at_ + s.ctoOf l)
    .next ((s.readFailed r 9 (s.missing r)).raiseLd ld.val 12 r.addr)
  | _, _ => .next s

/-- Apply a configuration write to the fields that the device acts on. -/
def State.configWrite (s : State) (ld l : Nat) (op : ConfigOp) : State :=
  match op with
  | .read _ => s
  | .write r v => s.onLd ld (fun d => { d with cfg := enter v d.cfg r.toNat })
  | .setMps b => s.onLd ld (fun d => { d with mps := 128 * 2 ^ b.val })
  | .setMrrs b => s.onLd ld (fun d => { d with mrrs := 128 * 2 ^ b.val })
  | .setTags m => s.onLd ld (fun d => { d with tagBits :=
      if m.val = 0 then 8
      else if m.val = 1 then 10
      else if (s.link l).flit = .nonFlit then 10 else 14 })
  | .setAspm on => s.onLink l (fun k => { k with aspm := on })
  | .setMsix on mask =>
    let sent := s.onLd ld (fun d => { d with msixOn := on, msixMask := mask })
    let due := (upTo 64).filter (fun v => on && (s.ld ld).msixPend.getLsbD v && !mask.getLsbD v)
    sent.each due (fun s v =>
      (s.onLd ld (fun d => { d with msixPend := d.msixPend &&& ~~~(BitVec.ofNat 64 (2 ^ v)) })).toHost ld
        (.msix ld v))

/-- HLD.APCFG of a logical device: first extent and size code (R169). -/
def State.aperture (s : State) (ld : Nat) : Nat × Nat :=
  match s.linkOf ld with
  | some l =>
    let x := 0x100 + 4 * (ld - s.ldBase l)
    (s.cfg (linkPage l 3) x 0 18, s.cfg (linkPage l 3) x 18 5)
  | none => (0, 31)

/-- BRG.FWIN of a logical device (R381). -/
def State.fwin (s : State) (ld : Nat) : Bool × Nat :=
  (s.cfgBit brgPage (0x100 + 4 * ld) 0, s.cfg brgPage (0x100 + 4 * ld) 1 6)

/-- Two registers as one 64-bit prefetchable BAR of 2^n bytes: the address bits below the size read as 0 (PRESUMED,
assumption 120). -/
def barBits (n : Nat) (lo hi : Word) : BitVec 64 :=
  BitVec.ofNat 64 ((hi.toNat * 2 ^ 32 + lo.toNat) / 2 ^ n * 2 ^ n + 12)

/-- BAR4 and BAR5: 2^APSIZE extents, or 0 where APSIZE names no size (R151, R169). -/
def barPair (size : Nat) (lo hi : Word) : BitVec 64 := if 18 < size then 0 else barBits (28 + size) lo hi

/-- BAR0 and BAR1: the window to Borage, or 0 where it is not presented (R368). -/
def State.bar0Pair (s : State) (ld : Nat) (lo hi : Word) : BitVec 64 :=
  if s.brg.present && (s.fwin ld).1 then barBits (s.fwin ld).2 lo hi else 0

/-- The first dwords of the extended capability structures, from dword 64 on: a structure has at least one dword, and its
length is another document's (assumption 120). -/
def extPlace : Nat → Nat
  | 0 => 64
  | k + 1 => extPlace k + 1 + (Config.capGap k).val

/-- The extended capabilities of R57 by their IDs: Advanced Error Reporting, equalisation at 8, 16, 32 and 64 GT/s, data link
feature exchange, lane margining, Device 3 with L0p and 14-bit tags, the alternate protocol and the CXL structures
(PRESUMED, assumption 120). -/
def extCaps : List Nat := [0x01, 0x19, 0x25, 0x26, 0x27, 0x2A, 0x31, 0x2F, 0x2B, 0x23]

/-- The first dword of the PCI Express structure, of 15 dwords (assumption 120). -/
def pciePlace : Nat := 16 + Config.pcieGap.val

/-- The first dword of the MSI-X structure, which follows the PCI Express structure and ends before dword 64
(assumption 120). -/
def msixPlace : Nat := pciePlace + 15 + Config.msixGap.val

/-- A capability list: PCI Express and MSI-X, and the extended capabilities, are present, and no other (R57); the first is
named by dword 13. -/
def capHead (r : Nat) (v : Word) : Word :=
  if r = 13 then setField v 0 8 (4 * pciePlace)
  else if r = pciePlace then setField (setField v 0 8 0x10) 8 8 (4 * msixPlace)
  else if r = msixPlace then setField (setField (setField v 0 8 0x11) 8 8 0) 16 11 63
  else match (upTo extCaps.length).find? (fun k => extPlace k == r) with
    | some k => setField (setField v 0 16 (extCaps.getD k 0)) 20 12 (if k + 1 < extCaps.length then 4 * extPlace (k + 1) else 0)
    | none => v

/-- The fields of the PCI Express structure that R57, R61 and R78 give: payloads up to 512 bytes and function-level reset; the
payload and read request sizes in force; Transactions Pending; ASPM L1 alone, with an exit latency of at most 8 us; whether
ASPM L1 is enabled; the AtomicOps completed (PRESUMED places, assumption 120). -/
def State.pcieFields (s : State) (ld k : Nat) (v : Word) : Word :=
  let d := s.ld ld
  if k = 1 then setField (setField v 0 3 2) 28 1 1
  else if k = 2 then
    setField (setField (setField v 5 3 (d.mps / 128).log2) 12 3 (d.mrrs / 128).log2) 21 1 (b2n !d.reads.isEmpty)
  else if k = 3 then setField (setField v 10 2 2) 15 3 3
  else if k = 4 then setField v 0 2 (2 * b2n ((s.linkOf ld).any (fun l => (s.link l).aspm)))
  else if k = 9 then setField v 7 3 7
  else v

/-- What a read of configuration space returns: BAR0, BAR1, BAR4 and BAR5, the capability lists and the fields that the rules
give, and a register that other documents define (R57, R78; assumptions 21, 120). -/
def State.cfgRead (s : State) (ld : Nat) (r : BitVec 10) : Word :=
  let d := s.ld ld
  let bar := barPair (s.aperture ld).2 (look 0 d.cfg 8) (look 0 d.cfg 9)
  let win := s.bar0Pair ld (look 0 d.cfg 4) (look 0 d.cfg 5)
  let v := Config.cfgSpace r (look 0 d.cfg r.toNat)
  if r = 4 then win.truncate 32
  else if r = 5 then (win >>> 32).truncate 32
  else if r = 8 then bar.truncate 32
  else if r = 9 then (bar >>> 32).truncate 32
  else capHead r.toNat (s.pcieFields ld (r.toNat - pciePlace) v)

/-- CONFIG_REQUEST (R52, R76, R78). Each logical device has function 0 only; while a function-level
reset lasts the answer is Request Retry Status (DEDUCED, assumption 21). -/
def execConfigRequest (ld : Fin 64) (fn : Nat) (op : ConfigOp) (s : State) : Outcome State Fault Refusal :=
  match s.served ld.val with
  | none => .next s
  | some l =>
    let s := s.arriveOn l
    if s.now < (s.link l).cfgReadyAt then .next (s.toHost ld.val (.rrs ld.val))
    else if fn ≠ 0 then .next (s.toHost ld.val (.ur ld.val 0))
    else if (s.ld ld.val).flr.isSome then .next (s.toHost ld.val (.rrs ld.val))
    else
      match op with
      | .read r => .next (s.toHost ld.val (.cfgCpl ld.val (s.cfgRead ld.val r)))
      | op => .next ((s.configWrite ld.val l op).toHost ld.val (.cfgCpl ld.val 0))

/-- LINK_FLIT_CRC_ERROR (R76, R85): the correctable count of the present second advances. -/
def execLinkFlitCrcError (l : Fin 16) (s : State) : Outcome State Fault Refusal :=
  if (s.link l.val).live then
    let s := s.when (decide ((s.link l.val).corrFrom + sec 1 ≤ s.now)) (fun s =>
      s.onLink l.val (fun k => { k with corr := 0, corrFrom := s.now }))
    let s := s.onLink l.val (fun k => { k with corr := k.corr + 1 })
    .next (s.when (decide ((s.link l.val).corr = Config.corrLimit + 1)) (fun s => s.raiseLink l.val 15 none 0))
  else .next s

/-- HOST_REPLAY_REQUEST (R301): from the first flit or TLP that the host asks for on, the transmit replay buffer sends again
what it holds, in order; what lies before it is acknowledged with the request and leaves the buffer. Nothing is built or executed
again. -/
def execHostReplayRequest (l : Fin 16) (seq : Nat) (s : State) : Outcome State Fault Refusal :=
  let k := s.link l.val
  .next (s.when (k.live && decide (k.txAcked ≤ seq) && decide (seq < k.txNext)) (fun s =>
    ((s.onLink l.val (fun k => { k with txAcked := seq })).useLink l.val).each
      ((upTo (k.txNext - seq)).map (fun i => seq + i)) (fun s i => s.emit (.hostFlit l.val i))))

/-! ### HRDY_N pulses and RETRAIN -/

/-- ATTENTION_PULSE_START (R82, R84). -/
def execAttentionPulseStart (g : Fin 4) (s : State) : Outcome State Fault Refusal :=
  let p := s.grp g.val
  if p.pulsePend && !p.busy && p.pulse.isNone then
    let s := s.reach (p.released + us 50)
    .next (s.onGrp g.val (fun p => { p with pulse := some s.now, pulsePend := false }))
  else .next s

/-- ATTENTION_PULSE_END (R82): after 2 us. -/
def execAttentionPulseEnd (g : Fin 4) (s : State) : Outcome State Fault Refusal :=
  match (s.grp g.val).pulse with
  | some t =>
    let s := s.reach (t + us 2)
    .next (s.onGrp g.val (fun p => { p with pulse := none, released := s.now }))
  | none => .next s

/-- Window offset of a register of a page. -/
def winOff (p x : Nat) : Nat := p * 4096 + x

/-- ATTN_TEST (R87): HPGS.HRDY.ATTN_TEST asks for one pulse. -/
def execAttnTest (m : Master) (g : Fin 4) (s : State) : Outcome State Fault Refusal :=
  let off := winOff (hpgsPage g.val) 0x84
  .next (s.gate m off (s.rmw off [(5, 1, 1)]) (fun s => s.attention g.val))

/-- HLINK.LCTRL.RETRAIN enters Recovery at the present settings (R60, R88). -/
def State.retrainLink (s : State) (l : Nat) : State :=
  s.when (s.link l).flows (fun s => s.onLink l (fun k => { k with st := .recovery }))

/-- RETRAIN (R88). -/
def execRetrain (m : Master) (l : Fin 16) (s : State) : Outcome State Fault Refusal :=
  let off := winOff (linkPage l.val 0) 0x80
  .next (s.gate m off (s.rmw off [(16, 1, 1)]) (fun s => s.retrainLink l.val))

end Sys2Proof.Machine
end

