-- ==== Sys2Proof/WellFormed.lean ====
section
/-! DEFINITION. Which terms of Instr stand for something that can be sent to the block. The meanings
are total: an ill-formed term is no command of the table, and no statement is made about it. -/

namespace Sys2Proof

/-- A byte payload has between 1 and n bytes. -/
def bytesOk (d : List Byte) (n : Nat) : Bool := decide (0 < d.length) && decide (d.length ≤ n)

/-- A CXL.mem request names a whole line and a 16-bit tag. -/
def memOk (hpa : BitVec 64) (tag : Nat) : Bool := hpa.toNat % 64 == 0 && decide (tag < 65536)

/-- An SPD states at most 16 package ranks and a stack of 1 to 16 dies (R170). -/
def spdOk (d : Spd) : Bool := decide (d.pranks ≤ 16) && decide (d.height ≤ 4)

/-- The header of an image gives LEN, ENTRY and SVN 32 bits each (R454). -/
def imgOk (i : FwImage) : Bool :=
  decide (i.body.length < 2 ^ 32) && decide (i.entry < 2 ^ 32) && decide (i.svn < 2 ^ 32)

/-- A board names DIMM slots 0-31 and holds images (R170, R213, R453). -/
def boardOk (b : Board) : Bool :=
  b.spd.all (fun e => decide (e.1 < 32) && spdOk e.2) && b.slotA.all imgOk && b.slotB.all imgOk && b.cfgImage.all imgOk

/-- The size of an atomic in bytes (R152). -/
def AtomicSize.bytes : AtomicSize → Nat
  | .b4 => 4 | .b8 => 8 | .b16 => 16

/-- A term of Instr stands for a command that can be sent. -/
def Instr.wellFormed : Instr → Bool
  | .memrd _ _ hpa _ tag _ => memOk hpa tag
  | .memrddata _ _ hpa tag => memOk hpa tag
  | .memspecrd _ _ hpa tag => memOk hpa tag
  | .memwr _ _ hpa _ _ _ tag => memOk hpa tag
  | .memwrptl _ _ hpa _ _ _ _ tag => memOk hpa tag
  | .meminv _ _ hpa _ tag => memOk hpa tag
  | .memclnevct _ _ hpa tag => memOk hpa tag
  | .cxlioApertureRead _ _ len tag => decide (0 < len.toNat) && decide (len.toNat ≤ 4096) && decide (tag < 65536)
  | .cxlioApertureWrite _ _ data _ => bytesOk data 4096
  | .bar0Write _ _ data => bytesOk data 4096
  | .bar0Read _ _ len tag => decide (0 < len.toNat) && decide (len.toNat ≤ 4096) && decide (tag < 65536)
  | .requesterCompletion _ _ _ data _ => decide (data.length ≤ 4096)
  | .configRequest _ fn _ => decide (fn < 256)
  | .landDataWrite _ _ _ data _ => bytesOk data 4096
  | .releaseDc _ exts => !exts.isEmpty
  | .atomic _ _ _ _ _ size off _ _ => off.val % size.bytes == 0
  | .svcReturn _ _ a b => a.all spdOk && b.all spdOk
  | .initCredit _ adv => decide (adv.length = 8)
  | .ackCredit _ _ _ ret => decide (ret.length = 8)
  | .auxReset _ b => boardOk b
  | .sensorSample r => r.die.all (fun e => decide (e.1 < 24)) && r.railV.all (fun e => decide (e.1 < 7)) &&
      r.railI.all (fun e => decide (e.1 < 7))
  | .sbRd _ count => decide (count < 256)
  | .sbWr _ words => decide (words.length < 256)
  | .imgData _ words => decide (words.length < 256)
  | .registerWrite _ off _ _ => off.toNat % 4 == 0
  | .regAccess _ off _ => off.toNat % 4 == 0
  | .borageRegAccess _ off _ => off.toNat % 4 == 0
  | .imgEnd img => imgOk img
  | .mbTransferFw _ _ _ img => imgOk img
  | _ => true

end Sys2Proof
end

