-- ==== Sys2Proof/Machine/HostRequests.lean ====
section
/-! DEFINITION. Commands of CXL.mem and of the CXL.io memory aperture, and the answers to
back-invalidate snoops (R41, R55, R76, R92-R95, R111, R142-R156, R579). -/

namespace Sys2Proof.Machine

open Host (Outcome)

/-! ### The rows of R76 -/

/-- A CXL.mem request that gets no access: a read is answered with poison, any other with a completion
and its data discarded (R76, R579). -/
def State.turnAway (s : State) (ld : Nat) (k : ReqKind) (tag : Nat) : State :=
  match traceKind k with
  | 0 => (s.countPoison ld).toHost ld (.memData ld tag 0 true .i)
  | _ => s.toHost ld (.memCmp ld tag .i)

/-- The port group of a link is under a class F reaction (R76, R490). -/
def State.groupFatal (s : State) (l : Nat) : Bool :=
  s.flt.dev == 1 || s.flt.dev == 2 || s.flt.chipF.contains (4 + l / 8)

/-- HRDY_N of a link's group is busy for bring-up or DRAM training (R76, R87). -/
def State.notReady (s : State) (l : Nat) : Bool :=
  (s.grp (l / 4)).busy && (s.hrdyCause (l / 4) == 2 || s.hrdyCause (l / 4) == 3)

/-- The home slice of a line is out of service, or the line's channel is (R76). -/
def State.outOfService (s : State) (line : Nat) : Bool := !s.unitsUp line

/-- The kind carries poisoned write data. -/
def poisoned : ReqKind → Bool
  | .write _ _ p => p
  | .writePtl _ _ _ p => p
  | _ => false

/-- The unit that a write discarded under the class F row is filed against (R299). -/
def State.fatalUnit (s : State) (l : Nat) : Nat :=
  if s.flt.dev = 1 ∨ s.flt.dev = 2 then devRec else chipletPage (4 + l / 8)

/-- A write turned away once its decode hits is a lost write, filed against a unit (R298, R299). -/
def State.turnLost (s : State) (ld hpa : Nat) (k : ReqKind) (u : Nat) : State :=
  match s.dpaOf ld hpa with
  | some dpa => s.when (traceKind k == 1 || traceKind k == 2) (fun s => s.discardLine u (dpa / 64))
  | none => s

/-- A CXL.mem request at its link, under the rows of R76 in their order; one to a DPA that is not granted reaches no page map
entry, and so no channel (R92). -/
def State.memArrives (s : State) (l ld hpa : Nat) (k : ReqKind) (tag : Nat) : State :=
  let t := s.tagging l
  let s := (t.1.count (linkPage l 2) (if traceKind k = 0 then 0x10 else 0x11)
    (b2n (traceKind k = 0 ∨ traceKind k = 1 ∨ traceKind k = 2))).arriveOn l
  if s.groupFatal l then (s.turnLost ld hpa k (s.fatalUnit l)).turnAway ld k tag
  else match s.dpaOf ld hpa with
    | none => (s.raiseLink l 5 (some ld) hpa).turnAway ld k tag
    | some dpa =>
      let line := dpa / 64
      let hs := homeOf (lnPage line)
      if s.sliceOut hs then (s.turnLost ld hpa k (s.outUnit line)).turnAway ld k tag
      else if !s.granted ld (pgExt (lnPage line)) then (s.raiseLink l 6 (some ld) dpa).turnAway ld k tag
      else if s.outOfService line then (s.turnLost ld hpa k (s.outUnit line)).turnAway ld k tag
      else if s.coherent line && !(s.link l).bi then (s.raiseLink l 7 (some ld) dpa).turnAway ld k tag
      else if s.home.timedOut.getLsbD ld then
        let first := !s.home.lostSeen.getLsbD ld
        let s := s.withHome { s.home with lostSeen := s.home.lostSeen ||| BitVec.ofNat 80 (2 ^ ld) }
        (s.when first (fun s => s.raiseHs hs 1 1 ld (some ld))).turnAway ld k tag
      else if poisoned k then (s.raiseLink l 9 (some ld) dpa).enlist line (.host ld) k tag false t.2
      else if s.notReady l then
        let bad := traceKind k = 0 ∧ (s.readData line false).2 = .poison
        ((s.raiseLink l (if bad then 10 else 14) (some ld) dpa).turnLost ld hpa k 0xFFFE).turnAway ld k tag
      else s.enlist line (.host ld) k tag false t.2

/-- A logical device's host can send CXL.mem on a link: the link carries traffic with CXL.mem, and the
layout has that logical device on it (R53, R56, R58). -/
def State.memLink (s : State) (l ld : Nat) : Bool :=
  s.linkOf ld == some l && (s.link l).flows && (s.link l).cxl && !(s.link l).held &&
    ((s.link l).mld || decide (s.ldBase l = ld))

/-- A CXL.mem command. -/
def State.memCommand (s : State) (l : Fin 16) (ld : Fin 64) (hpa : BitVec 64) (k : ReqKind) (tag : Nat) : State :=
  s.when (s.memLink l.val ld.val) (fun s => s.memArrives l.val ld.val hpa.toNat k tag)

/-- An error in the memories of a line's home slice or of its Lovage (R145, R160, R258). A key table entry
is derived again and reloaded, and its class C error is filed. -/
def State.sliceError (s : State) (line : Nat) (e : SliceError) : State :=
  let hs := homeOf (lnPage line)
  match e with
  | .snoopFilter x => s.when (sfKey x.toNat == sfKey line) (fun s => s.filterError x.toNat)
  | .metaCorrected _ => s.fileP (hsPage hs 7) 1 0
  | .metaCopy lvl => s.metaError hs lvl.val (lnPage line) false
  | .metaBoth lvl => s.metaError hs lvl.val (lnPage line) true
  | .keyTable => (s.loadKey (hs / 8) (s.domOf (lnPage line))).fileP (mkPage (8 + hs / 8) 2 2 63) 1 0

/-- A request that reaches its home slice meets an error there. -/
def State.meetsError (s : State) (l ld hpa : Nat) (err : Option SliceError) : State :=
  match err, s.dpaOf ld hpa with
  | some e, some dpa =>
    let line := dpa / 64
    s.when (s.memLink l ld && !s.groupFatal l && !s.outOfService line && s.granted ld (pgExt (lnPage line)))
      (fun s => s.sliceError line e)
  | _, _ => s

/-- MEMRD (R142). -/
def execMemrd (l : Fin 16) (ld : Fin 64) (hpa : BitVec 64) (mv : MetaVal) (tag : Nat) (err : Option SliceError)
    (s : State) : Outcome State Fault Refusal :=
  .next ((s.meetsError l.val ld.val hpa.toNat err).memCommand l ld hpa (.read mv) tag)

/-- MEMRDDATA (R142). -/
def execMemrddata (l : Fin 16) (ld : Fin 64) (hpa : BitVec 64) (tag : Nat) (s : State) :
    Outcome State Fault Refusal := .next (s.memCommand l ld hpa .readData tag)

/-- MEMSPECRD (R57): served as a non-caching read or dropped, which is left open (a free value). -/
def execMemspecrd (l : Fin 16) (ld : Fin 64) (hpa : BitVec 64) (tag : Nat) (s : State) :
    Outcome State Fault Refusal :=
  let drop := Config.specRdDrop s.free
  let s := s.takeFree
  .next (if drop = 1 then s else s.memCommand l ld hpa (.read .none) tag)

/-- MEMWR (R142). -/
def execMemwr (l : Fin 16) (ld : Fin 64) (hpa : BitVec 64) (mv : MetaVal) (data : Line) (poison : Bool)
    (tag : Nat) (s : State) : Outcome State Fault Refusal :=
  .next (s.memCommand l ld hpa (.write mv data poison) tag)

/-- MEMWRPTL (R142, R272). -/
def execMemwrptl (l : Fin 16) (ld : Fin 64) (hpa : BitVec 64) (mv : MetaVal) (mask : BitVec 64)
    (data : Line) (poison : Bool) (tag : Nat) (s : State) : Outcome State Fault Refusal :=
  .next (s.memCommand l ld hpa (.writePtl mv mask data poison) tag)

/-- MEMINV (R142). -/
def execMeminv (l : Fin 16) (ld : Fin 64) (hpa : BitVec 64) (mv : MetaVal) (tag : Nat) (s : State) :
    Outcome State Fault Refusal := .next (s.memCommand l ld hpa (.inv mv) tag)

/-- MEMCLNEVCT (R142). -/
def execMemclnevct (l : Fin 16) (ld : Fin 64) (hpa : BitVec 64) (tag : Nat) (s : State) :
    Outcome State Fault Refusal := .next (s.memCommand l ld hpa .clnEvct tag)

/-! ### The memory aperture -/

/-- The DPA of an aperture offset; none outside BAR4 (R151). -/
def State.apertureDpa (s : State) (ld off n : Nat) : Option Nat :=
  let a := s.aperture ld
  if a.2 ≤ 18 ∧ off + n ≤ 2 ^ a.2 * 2 ^ 28 then some (a.1 * 2 ^ 28 + off) else none

/-- A link of a logical device carries CXL.io requests. -/
def State.ioArrives (s : State) (ld : Nat) : Option Nat :=
  match s.served ld with
  | some l => if (s.link l).flows then some l else none
  | none => none

/-- A logical device's mailbox is presented, on a plain PCIe link too; a command that arrives while its function is being
reset finds none (R54, R58, R78; assumption 150). -/
def State.ioLink (s : State) (ld : Nat) : Option Nat :=
  if (s.ld ld).flr.isNone then s.ioArrives ld else none

/-- A function presents its memory apertures and BAR0: CXL is negotiated, and the function is not being reset (R54, R78;
assumption 150). -/
def State.ioBars (s : State) (l ld : Nat) : Bool := (s.link l).cxl && (s.ld ld).flr.isNone

/-- Unsupported Request, and UR_SENT (R76, R85). -/
def State.sendUr (s : State) (l ld tag addr : Nat) (posted : Bool) : State :=
  let s := s.raiseLink l 8 (some ld) addr
  if posted then s else s.toHost ld (.ur ld tag)

/-- CXLIO_APERTURE_READ (R76, R151): each line of the range gives one completion piece. Under a class F
reaction of its group it receives Completer Abort (R490). -/
def execCxlioApertureRead (ld : Fin 64) (off : BitVec 64) (len : BitVec 13) (tag : Nat) (s : State) :
    Outcome State Fault Refusal :=
  match s.ioArrives ld.val with
  | none => .next s
  | some l =>
    let s := s.arriveOn l
    if s.groupFatal l then .next (s.toHost ld.val (.ca ld.val tag))
    else if s.ioBars l ld.val = false then .next (s.sendUr l ld.val tag off.toNat false)
    else match s.apertureDpa ld.val off.toNat len.toNat with
      | none => .next (s.sendUr l ld.val tag off.toNat false)
      | some dpa =>
        .next (s.each (rangeLines dpa len.toNat) (fun s ln =>
          let lo := max dpa (64 * ln)
          let n := min (dpa + len.toNat) (64 * ln + 64) - lo
          if s.granted ld.val (pgExt (lnPage ln)) then
            if s.sliceOut (homeOf (lnPage ln)) then
              s.toHost ld.val (.ioData ld.val tag (List.replicate n 0) true)
            else
              let t := s.tagging l
              t.1.enlist ln (.io ld.val) (.ioRead (lo % 64) n) tag false t.2
          else (s.raiseLink l 6 (some ld.val) (64 * ln)).toHost ld.val
            (.ioData ld.val tag (List.replicate n 0) true)))

/-- CXLIO_APERTURE_WRITE (R76, R151): with the EP attribute the written lines are stored poisoned. Lines that a unit out of
service discards are lost writes (R298, R299). -/
def execCxlioApertureWrite (ld : Fin 64) (off : BitVec 64) (data : List Byte) (ep : Bool) (s : State) :
    Outcome State Fault Refusal :=
  match s.ioArrives ld.val with
  | none => .next s
  | some l =>
    let s := s.arriveOn l
    let lose := fun (s : State) (dpa : Nat) (u : Nat → Nat) => s.each (rangeLines dpa data.length) (fun s ln => s.discardLine (u ln) ln)
    if s.groupFatal l then
      .next ((s.apertureDpa ld.val off.toNat data.length).elim s (fun dpa => lose s dpa (fun _ => s.fatalUnit l)))
    else if s.ioBars l ld.val = false then .next (s.sendUr l ld.val 0 off.toNat true)
    else match s.apertureDpa ld.val off.toNat data.length with
      | none => .next (s.sendUr l ld.val 0 off.toNat true)
      | some dpa =>
        let s := s.when ep (fun s => s.raiseLink l 9 (some ld.val) dpa)
        .next (s.each (rangeLines dpa data.length) (fun s ln =>
          let lo := max dpa (64 * ln)
          let n := min (dpa + data.length) (64 * ln + 64) - lo
          let v : Line := BitVec.ofNat 512 (ofBytes ((data.drop (lo - dpa)).take n) <<< (8 * (lo % 64)))
          if !s.granted ld.val (pgExt (lnPage ln)) then s.raiseLink l 6 (some ld.val) (64 * ln)
          else if s.sliceOut (homeOf (lnPage ln)) then s.discardLine (s.outUnit ln) ln
          else
            let t := s.tagging l
            if n = 64 then t.1.enlist ln (.io ld.val) (.write .none v ep) 0 false t.2
            else t.1.enlist ln (.io ld.val)
              (.writePtl .none (BitVec.ofNat 64 ((2 ^ n - 1) <<< (lo % 64))) v ep) 0 false t.2))

/-- The atomic unit executes an operation at a size (R57, R152). -/
def atomicSupported (op : AtomicKind) (size : AtomicSize) : Bool := size != .b16 || op == .cas

/-- ATOMICOP (R76, R151-R156). An operation at a size that the unit does not execute is answered with
Unsupported Request (DEDUCED, assumption 22). -/
def execAtomicop (ld : Fin 64) (tgt : AtomicTarget) (op : AtomicKind) (size : AtomicSize)
    (a b : BitVec 128) (ep : Bool) (tag : Nat) (s : State) : Outcome State Fault Refusal :=
  match s.ioArrives ld.val with
  | none => .next s
  | some l =>
    let s := s.arriveOn l
    let addr := match tgt with
      | .bar4 off => off.toNat
      | _ => 0
    let dpa : Option Nat := match tgt with
      | .bar4 off => if s.ioBars l ld.val && atomicSupported op size then
          s.apertureDpa ld.val off.toNat size.bytes else none
      | _ => none
    if s.groupFatal l then .next (s.toHost ld.val (.ca ld.val tag))
    else if addr % size.bytes ≠ 0 then .next (s.toHost ld.val (.malformed ld.val tag))
    else match dpa with
      | none => .next (s.sendUr l ld.val tag addr false)
      | some dpa =>
        let line := dpa / 64
        if ep then .next ((s.raiseLink l 9 (some ld.val) dpa).toHost ld.val (.atomicCpl ld.val tag 0 true))
        else if !s.granted ld.val (pgExt (lnPage line)) then
          .next ((s.raiseLink l 6 (some ld.val) dpa).toHost ld.val (.atomicCpl ld.val tag 0 true))
        else if s.sliceOut (homeOf (lnPage line)) then .next (s.toHost ld.val (.atomicCpl ld.val tag 0 true))
        else
          let t := s.tagging l
          .next (t.1.enlist line (.io ld.val) (.atomic op size.bytes (dpa % 64) a b) tag false t.2)

/-! ### Answers to snoops -/

/-- BIRSP (R142, R146): the answer of a host whose snoop is outstanding. -/
def execBirsp (agent : Fin 80) (line : BitVec 40) (r : BiAnswer) (s : State) :
    Outcome State Fault Refusal :=
  .next (s.when (decide (agent.val < 64) && s.snooping agent.val line.toNat) (fun s =>
    let s := match s.linkOf agent.val with
      | some l => s.arriveOn l
      | none => s
    s.answered agent.val line.toNat (r != .i)))

/-- BICONFLICT (R147). -/
def execBiconflict (agent : Fin 80) (line : BitVec 40) (s : State) : Outcome State Fault Refusal :=
  .next (s.when (decide (agent.val < 64) && s.biOf agent.val) (fun s =>
    s.toHost agent.val (.conflictAck agent.val line.toNat)))

/-- SF.CFG.BI_TO in ns: 100-500 us (R148, R166). -/
def State.biTo (s : State) (hs : Nat) : Nat := us (50 * s.cfg (hsPage hs 1) 0x80 0 4)

/-- An agent whose snoop has had no answer in time is lost (R148); the record names the line by its number (assumption 153). -/
def State.snoopTimeout (s : State) (a line : Nat) : State :=
  let hs := homeOf (lnPage line)
  let s := s.withHome { s.home with
    timedOut := s.home.timedOut ||| BitVec.ofNat 80 (2 ^ a),
    lostSeen := s.home.lostSeen &&& ~~~(BitVec.ofNat 80 (2 ^ a)) }
  ((s.agentsGone [a]).restLink a).raiseHs hs 0 1 line (if a < 64 then some a else none)

/-- BI_TIMEOUT (R148). -/
def execBiTimeout (agent : Fin 80) (line : BitVec 40) (s : State) : Outcome State Fault Refusal :=
  match s.home.queue.find? (fun q => q.line == line.toNat && q.snoops.contains agent.val) with
  | some q =>
    let s := s.reach (q.snoopAt + s.biTo (homeOf (lnPage line.toNat)))
    .next (s.snoopTimeout agent.val line.toNat)
  | none => .next s

/-- CREDIT_GRANT (R137, R138): a reserved tracker that frees gives the oldest waiting request of its
class a credit. A Chervil or Sorrel resends it at once; Borage resends it itself. -/
def execCreditGrant (hs : Fin 32) (r : ReqClass) (s : State) : Outcome State Fault Refusal :=
  let waits := s.home.retried.any (fun x => x.hs == hs.val && x.cls == r && !x.credit && x.req.tr != .writeback)
  .next (s.when (waits && decide (0 < s.reservedFree hs.val r)) (fun s =>
    (s.emit (.creditGrant hs.val r)).useCredit hs.val r))

end Sys2Proof.Machine
end

