-- ==== Sys2Proof/Machine/Cores.lean ====
section
/-! DEFINITION. The management cores' caches and write buffers: maintenance, enables, fills and hits
(R446-R452, R482). -/

namespace Sys2Proof.Machine

open Host (Outcome)

/-- A core. -/
def State.mcore (s : State) (c : Nat) : MCore := if c = 0 then s.core.c0 else s.core.c1

/-- Change a core. -/
def State.onMcore (s : State) (c : Nat) (f : MCore → MCore) : State :=
  if c = 0 then s.withCore { s.core with c0 := f s.core.c0 } else s.withCore { s.core with c1 := f s.core.c1 }

/-- Page of a core (R482). -/
def mcorePage (c : Nat) : Nat := mkPage 0 0 c 0

/-- The active core (R446). -/
def State.activeCore (s : State) : Nat := if s.core.c0.active then 0 else 1

/-- Some core serves events, mailboxes and MCTP: the active core runs (R446, R471). -/
def State.coreServes (s : State) : Bool := s.boot.aux && !(s.mcore s.activeCore).halted

/-! ### Caches -/

/-- A cache of a core. -/
def MCore.cache (k : MCore) : CacheSel → Cache
  | .instr => k.ic
  | .data => k.dc

/-- Change a cache of a core. -/
def MCore.onCache (k : MCore) (f : Cache → Cache) : CacheSel → MCore
  | .instr => { k with ic := f k.ic }
  | .data => { k with dc := f k.dc }

/-- Set of a line (R448). -/
def cacheSet (line : Nat) : Nat := line % 128

/-- The contents of a cache are undefined until every set and way and the victim cache have been invalidated
(R451). -/
def Cache.settled (k : Cache) : Cache :=
  if k.stale && k.vclear && decide (k.cleared.length = 512) then
    { k with stale := false, cleared := [], vclear := false } else k

/-- Invalidate a line by address: in the cache and its victim cache (R450). -/
def Cache.dropLine (k : Cache) (line : Nat) : Cache :=
  { k with lines := k.lines.filter (fun l => l.line != line), victim := k.victim.filter (fun l => l.line != line) }

/-- Invalidate the line in a set and way (R450). -/
def Cache.dropWay (k : Cache) (set way : Nat) : Cache :=
  let i := 4 * set + way
  ({ k with
      lines := k.lines.filter (fun l => !(l.set == set && l.way == way)),
      cleared := if k.stale && !k.cleared.contains i then k.cleared ++ [i] else k.cleared } : Cache).settled

/-- Invalidate the victim cache (R450). -/
def Cache.dropVictim (k : Cache) : Cache := ({ k with victim := [], vclear := k.stale } : Cache).settled

/-- Invalidate a whole cache and its victim cache (R450). -/
def Cache.emptied (k : Cache) : Cache :=
  { k with lines := [], victim := [], stale := false, cleared := [], vclear := false }

/-- A set of a cache whose contents are undefined still has undefined lines, in the set or among the victims
(R451). -/
def Cache.undefined (k : Cache) (set : Nat) : Bool :=
  k.stale && (!k.vclear || (upTo 4).any (fun w => !k.cleared.contains (4 * set + w)))

/-- Place a line in its set: a free way, else the least recently used one, whose line goes to the victim cache,
the oldest of eight victims leaving (R448). -/
def Cache.place (k : Cache) (line : Nat) (d : List Byte) (use : Nat) : Cache :=
  let set := cacheSet line
  let here := k.lines.filter (fun l => l.set == set)
  let victim := k.victim.filter (fun l => l.line != line)
  match (upTo 4).find? (fun w => !here.any (fun l => l.way == w)) with
  | some w =>
    { k with lines := { line := line, set := set, way := w, data := d, use := use } :: k.lines, victim := victim }
  | none =>
    let old := here.foldl (fun (a : Option CacheLine) l =>
      match a with
      | none => some l
      | some b => if l.use < b.use then some l else a) none
    match old with
    | none => k
    | some o =>
      let v := victim ++ [o]
      { k with
        lines := { line := line, set := set, way := o.way, data := d, use := use } ::
          k.lines.filter (fun l => !(l.set == set && l.way == o.way)),
        victim := v.drop (v.length - 8) }

/-- The data of a line that a cache or its victim cache holds. -/
def Cache.find (k : Cache) (line : Nat) : Option (List Byte) :=
  ((k.lines.find? (fun l => l.line == line)).or (k.victim.find? (fun l => l.line == line))).map (·.data)

/-- Use a line: it is moved from the victim cache into its set, or becomes the most recent (R448). -/
def Cache.touch (k : Cache) (line use : Nat) : Cache :=
  if k.lines.any (fun l => l.line == line) then
    { k with lines := k.lines.map (fun l => if l.line = line then { l with use := use } else l) }
  else match k.victim.find? (fun l => l.line == line) with
    | some v => k.place line v.data use
    | none => k

/-- Bytes at an offset of a line replaced. -/
def patch (d : List Byte) (at_ : Nat) (b : List Byte) : List Byte := d.take at_ ++ b ++ d.drop (at_ + b.length)

/-- A write that hits uses and updates the line, which comes back from the victim cache as for a load; one that misses both
allocates nothing (R448, R449). -/
def Cache.store (k : Cache) (addr : Nat) (b : List Byte) (use : Nat) : Cache :=
  let upd := fun (l : CacheLine) => if l.line = addr / 64 then { l with data := patch l.data (addr % 64) b } else l
  if k.en then
    let k := k.touch (addr / 64) use
    { k with lines := k.lines.map upd }
  else k

/-! ### Maintenance -/

/-- Invalidate as a maintenance operation names it (R450). -/
def State.cacheInv (s : State) (c : Nat) (k : CacheSel) (how : MaintBy) : State :=
  s.onMcore c (fun m => m.onCache (fun x =>
    match how with
    | .addr => x.dropLine (s.cfg (mcorePage c) 0x88 0 32 / 64)
    | .setWay set way => x.dropWay set.val way.val) k)

/-- A write that the write buffer of a core still holds, to a line or at all (R449, R450). -/
def MCore.holds (m : MCore) (line : Option Nat) : Bool :=
  m.wbuf.any (fun w => line.all (fun n => w.addr / 64 == n))

/-- A clean: of the data cache it waits for the write buffer, the master's write of CMAINT with it, and is followed by an
invalidate where it asks for one; of the instruction cache it has no effect (R450). -/
def State.cacheClean (s : State) (m : Master) (c : Nat) (k : CacheSel) (how : MaintBy) (inv : Bool) : State :=
  let line := match how with
    | .addr => some (s.cfg (mcorePage c) 0x88 0 32 / 64)
    | .setWay _ _ => none
  if k == .data && (s.mcore c).holds line then
    s.onMcore c (fun x => { x with
      cleans := x.cleans ++ [{ line := line, inv := if inv then some (k, how) else none, by_ := m }] })
  else if inv then s.cacheInv c k how else s

/-- The cleans that the write buffer no longer holds up end. -/
def State.cleansEnd (s : State) (c : Nat) : State :=
  let done := (s.mcore c).cleans.filter (fun w => !(s.mcore c).holds w.line)
  let s := s.onMcore c (fun m => { m with cleans := m.cleans.filter (fun w => m.holds w.line) })
  s.each done (fun s w =>
    match w.inv with
    | some (k, how) => s.cacheInv c k how
    | none => s)

/-- Invalidate a victim cache (R450). -/
def State.victimInv (s : State) (c : Nat) (k : CacheSel) : State :=
  s.onMcore c (fun m => m.onCache Cache.dropVictim k)

/-- A core may write the other core's CMAINT only while that core is halted (R450). -/
def State.mayMaintain (s : State) (m : Master) (c : Nat) : Bool :=
  match m with
  | .core k => k.val == c || (s.mcore c).halted
  | _ => true

/-- Effect of a write of CMAINT of core c (R450, R482). -/
def State.cmaint (s : State) (m : Master) (c : Nat) (v : Word) : State :=
  let op := fieldOf v 0 2
  let k := if bitOf v.toNat 2 then CacheSel.data else .instr
  let how := if bitOf v.toNat 3 then MaintBy.setWay (Fin.ofNat 128 (fieldOf v 5 7)) (Fin.ofNat 4 (fieldOf v 12 2))
    else .addr
  if !s.mayMaintain m c || op == 0 then s
  else if op == 2 && bitOf v.toNat 4 then s.victimInv c k
  else if op == 1 then s.cacheClean m c k how false
  else if op == 2 then s.cacheInv c k how
  else s.cacheClean m c k how true

/-- The word that a maintenance operation writes to CMAINT (R482). -/
def cmaintWord (op : Nat) (k : CacheSel) (how : MaintBy) (victim : Bool) : Word :=
  let a := op + (if k = .data then 4 else 0) + (if victim then 16 else 0)
  match how with
  | .addr => BitVec.ofNat 32 a
  | .setWay set way => BitVec.ofNat 32 (a + 8 + 32 * set.val + 4096 * way.val)

/-- A write of a core's CMAINT. -/
def State.writeCmaint (s : State) (m : Master) (c : Nat) (v : Word) : State :=
  s.gate m (mcorePage c * 4096 + 0x84) v (fun s => s.cmaint m c v)

/-- CMAINT_CLEAN (R450). -/
def execCmaintClean (m : Master) (c : Fin 2) (cache : CacheSel) (how : MaintBy) (s : State) :
    Outcome State Fault Refusal := .next (s.writeCmaint m c.val (cmaintWord 1 cache how false))

/-- CMAINT_INVALIDATE (R450). -/
def execCmaintInvalidate (m : Master) (c : Fin 2) (cache : CacheSel) (how : MaintBy) (s : State) :
    Outcome State Fault Refusal := .next (s.writeCmaint m c.val (cmaintWord 2 cache how false))

/-- CMAINT_CLEAN_INVALIDATE (R450). -/
def execCmaintCleanInvalidate (m : Master) (c : Fin 2) (cache : CacheSel) (how : MaintBy) (s : State) :
    Outcome State Fault Refusal := .next (s.writeCmaint m c.val (cmaintWord 3 cache how false))

/-- CMAINT_VICTIM (R450). -/
def execCmaintVictim (m : Master) (c : Fin 2) (cache : CacheSel) (s : State) : Outcome State Fault Refusal :=
  .next (s.writeCmaint m c.val (cmaintWord 2 cache .addr true))

/-- FENCE_I (R450): by a core that runs. -/
def execFenceI (c : Fin 2) (s : State) : Outcome State Fault Refusal :=
  .next (s.when (s.boot.aux && !(s.mcore c.val).halted) (fun s =>
    s.onMcore c.val (fun m => { m with ic := m.ic.emptied })))

/-- Effect of a write of CCTL (R451, R482). -/
def State.cctl (s : State) (c : Nat) (ien den : Bool) : State :=
  s.onMcore c (fun m => { m with ic := { m.ic with en := ien }, dc := { m.dc with en := den } })

/-- CCTL_WRITE (R451). -/
def execCctlWrite (m : Master) (c : Fin 2) (ien den : Bool) (s : State) : Outcome State Fault Refusal :=
  .next (s.gate m (mcorePage c.val * 4096 + 0x80) (BitVec.ofNat 32 (b2n ien + 2 * b2n den))
    (fun s => s.cctl c.val ien den))

end Sys2Proof.Machine
end

