-- ==== Sys2Proof/Machine/Power.lean ====
section
/-! DEFINITION. Commands of the power path, of start-up and of the resets, and HRDY_N's release (R408-R437). -/

namespace Sys2Proof.Machine

open Host (Outcome)

/-! ### AUX -/

/-- AUX_RESET (R426, R434, R435): AUX rises, or AUX_RESET_N is held low. -/
def execAuxReset (why : AuxCause) (b : Board) (s : State) : Outcome State Fault Refusal :=
  match why with
  | .auxRise => .next (s.auxBoot true b)
  | .resetPin => .next (s.when s.boot.aux (fun s => s.auxBoot false b))

/-- AUX is gone: the gate is held low, retained writes end old or new, and everything but the retained store
and the flash loses its content (R410, R457). -/
def State.auxLost (s : State) : State :=
  let s := s.tornWrites
  let s := s.onHsc (fun h => { h with st := .idle, gateOff := if h.gateUp then s.now else h.gateOff, pg := false,
                                      pgOut := false, vinOk := false, limit := none })
  let s := s.coldClear
  let s := s.withClk {}
  let s := s.withCore {}
  (s.withMgmt {}).onBoot (fun b => { board := b.board, aux := false })

/-- AUX_LOSS (R410). -/
def execAuxLoss (s : State) : Outcome State Fault Refusal := .next (s.when s.boot.aux (fun s => s.auxLost))

/-! ### The power path -/

/-- VIN_OVERVOLTAGE (R411, R415). -/
def execVinOvervoltage (mV : Nat) (s : State) : Outcome State Fault Refusal :=
  .next (s.when (s.boot.aux && decide (s.ovMv < mV)) (fun s => s.vinOut mV 65))

/-- VIN_UNDERVOLTAGE (R411, R415). -/
def execVinUndervoltage (mV : Nat) (s : State) : Outcome State Fault Refusal :=
  .next (s.when (s.boot.aux && decide (mV < s.uvMv)) (fun s => s.vinOut mV 64))

/-- VIN_WINDOW_ENTRY (R411): VIN lies 0.2 V inside both thresholds. -/
def execVinWindowEntry (mV : Nat) (s : State) : Outcome State Fault Refusal :=
  .next (s.when (s.boot.aux && !s.hsc.vinOk && decide (s.uvMv + 200 ≤ mV) && decide (mV + 200 ≤ s.ovMv)) (fun s =>
    s.onHsc (fun h => { h with vin := mV, vinOk := true, vinSince := s.now })))

/-- INSERTION_DELAY_END (R412, R413): VIN has stayed in the window for the insertion delay, and the ramp starts. -/
def execInsertionDelayEnd (s : State) : Outcome State Fault Refusal :=
  .next (s.when (s.hsc.st == .insDelay && s.hsc.vinOk && s.boot.st != 6) (fun s =>
    (s.reach (max s.hsc.vinSince s.hsc.insFrom + s.insDelay)).startRamp))

/-- RAMP_END (R413, R422): VOUT has come within 300 mV of VIN; a start-up that waits for it reaches step 5 (R426). -/
def execRampEnd (vinMv voutMv : Nat) (s : State) : Outcome State Fault Refusal :=
  .next (s.when (s.hsc.st == .ramp && decide (vinMv ≤ voutMv + 300)) (fun s =>
    (s.onHsc (fun h => { h with st := .on, vin := vinMv, vout := voutMv })).when (s.boot.st == 1 && s.boot.step == 4) (fun s =>
      s.onBoot (fun b => { b with step := 5 }))))

/-- How long a ramp may last: twice its length at DVDT and 20 ms (R413). -/
def State.rampLimit (s : State) : Nat := s.hsc.vin * 20000 / s.dvdt + ms 20

/-- A ramp has taken its longest time: a trip with cause 4 (R413, R415). -/
def State.rampLate (s : State) : State := (s.reach (s.hsc.rampAt + s.rampLimit)).trip 4

/-- START_TIMEOUT (R413, R415). -/
def execStartTimeout (s : State) : Outcome State Fault Refusal :=
  .next (s.when (s.hsc.st == .ramp) State.rampLate)

/-- CURRENT_LIMIT_ENTRY (R414). -/
def execCurrentLimitEntry (s : State) : Outcome State Fault Refusal := .next s.enterLimit

/-- BREAKER_EXPIRY (R414, R415). -/
def execBreakerExpiry (s : State) : Outcome State Fault Refusal :=
  match s.hsc.limit with
  | some t => .next (s.when s.hsc.gateUp (fun s => (s.reach (t + (s.brkTime - s.hsc.breaker))).trip 1))
  | none => .next s

/-- FAST_TRIP (R414, R415). -/
def execFastTrip (s : State) : Outcome State Fault Refusal := .next s.fastTrip

/-- FET_MODEL_TICK (R416). -/
def execFetModelTick (vinMv voutMv iMa : Nat) (ntc : Option Int) (dieC : Int) (s : State) :
    Outcome State Fault Refusal :=
  .next (s.when s.boot.aux (fun s => s.fetTick vinMv voutMv iMa ntc dieC))

/-- NTC_INVALID (R417). -/
def execNtcInvalid (s : State) : Outcome State Fault Refusal :=
  .next (s.when (s.boot.aux && s.cfgBit fetPage 0x80 2) (fun s =>
    let first := !s.hsc.ntcFault
    let s := s.onHsc (fun h => { h with ntcFault := true, ntcAt := s.now })
    s.when first (fun s => s.raiseHsc 77 0 [])))

/-- NTC_RECOVER (R417): the thermistor has read valid for 1 s. -/
def execNtcRecover (degC : Int) (s : State) : Outcome State Fault Refusal :=
  .next (s.when s.hsc.ntcFault (fun s =>
    (s.reach (s.hsc.ntcAt + sec 1)).onHsc (fun h => { h with ntcFault := false, tc := (degC : Rat) })))

/-- VOUT has stayed above 1.0 V for 50 ms with the gate off (R418). -/
def State.offLate (s : State) : State := (s.reach (s.hsc.gateOff + ms 50)).damaged

/-- DAMAGED_TRANSISTOR (R418). -/
def execDamagedTransistor (s : State) : Outcome State Fault Refusal :=
  .next (s.when (s.boot.aux && !s.hsc.gateUp && !s.hsc.disc) State.offLate)

/-- RETRY_WAIT_END (R419): the path ramps again, and HSC_RETRY is raised. -/
def execRetryWaitEnd (s : State) : Outcome State Fault Refusal :=
  .next (s.when (s.hsc.st == .retryWait && s.hsc.vinOk && s.cooled s.hsc.cause) (fun s =>
    (s.reach s.hsc.waitEnd).startRamp.raiseHsc 72 0 []))

/-- COOL_WAIT_END (R420): the insertion delay begins. -/
def execCoolWaitEnd (s : State) : Outcome State Fault Refusal :=
  .next (s.when (s.hsc.st == .coolWait && s.cooled (fieldOf s.tripRec 10 3)) (fun s =>
    let s := s.reach s.hsc.waitEnd
    s.onHsc (fun h => { h with st := .insDelay, insFrom := s.now })))

/-- A write of HSC.CMD.OP (R441). -/
def State.hscWrite (s : State) (m : Master) (op vout : Nat) : State :=
  s.gate m hscCmd (BitVec.ofNat 32 op) (fun s => s.hscOp op vout)

/-- HSC_START (R422, R441). -/
def execHscStart (m : Master) (s : State) : Outcome State Fault Refusal := .next (s.hscWrite m 1 s.hsc.vout)

/-- HSC_STOP (R422, R441). -/
def execHscStop (m : Master) (s : State) : Outcome State Fault Refusal := .next (s.hscWrite m 2 s.hsc.vout)

/-- HSC_CLEAR_LATCH (R419, R441). -/
def execHscClearLatch (m : Master) (s : State) : Outcome State Fault Refusal := .next (s.hscWrite m 3 s.hsc.vout)

/-- HSC_CLR_SHORT (R418, R441). -/
def execHscClrShort (m : Master) (voutMv : Nat) (s : State) : Outcome State Fault Refusal :=
  .next (s.hscWrite m 4 voutMv)

/-- PG_TICK (R423-R425, R427, R432, R433). -/
def execPgTick (voutMv gateMv : Nat) (inLimit : Bool) (s : State) : Outcome State Fault Refusal :=
  .next (s.when s.boot.aux (fun s => (s.pgStep voutMv gateMv inLimit).pgChanged s.hsc.pg))

/-- PG_OUT_LEVEL_AGE (R425). -/
def execPgOutLevelAge (s : State) : Outcome State Fault Refusal :=
  match s.hsc.pgOutAt with
  | some t => .next (s.reach (t + ms 5)).pgOutSync
  | none => .next s

/-! ### Rails -/

/-- A rail sequence is running (R430). -/
def State.sequencing (s : State) (k : Nat) : Bool :=
  s.boot.step == 6 && s.hsc.pg && !s.boot.main && s.nextRail == some k && s.railMisplaced.isNone

/-- RAIL_ENABLE (R430). The adaptive set point of VDD_CORE, rail 1, goes ahead of its enable (R558, assumption 116). -/
def execRailEnable (k : Fin 7) (s : State) : Outcome State Fault Refusal :=
  .next (s.when (s.sequencing k.val && s.railAddr k.val != 0 && !s.boot.railOn.contains k.val) (fun s =>
    (((s.reach (s.boot.railAt + s.railDelay k.val)).when (k.val == 1) (fun s => s.setCore Config.fusedCore)).pmbus k.val 1 0).onBoot
      (fun b => { b with railOn := b.railOn ++ [k.val] })))

/-- RAIL_GOOD (R430): the rail has been in range for 100 us. -/
def execRailGood (k : Fin 7) (s : State) : Outcome State Fault Refusal :=
  .next (s.when (s.sequencing k.val && (s.railAddr k.val == 0 || s.boot.railOn.contains k.val)) (fun s =>
    let s := s.reach (s.boot.railAt + us 100)
    let s := s.onBoot (fun b => { b with railGood := b.railGood ++ [k.val], railAt := s.now })
    if s.nextRail.isNone then s.mainUp else s))

/-- A rail has not come up 10 ms after its delay (R430, R431). -/
def State.railLate (s : State) (k : Nat) : State := (s.reach (s.boot.railAt + s.railDelay k + ms 10)).railFail k

/-- RAIL_TIMEOUT (R430, R431). -/
def execRailTimeout (k : Fin 7) (s : State) : Outcome State Fault Refusal :=
  .next (if s.sequencing k.val then s.railLate k.val else s)

/-- RAIL_FALLEN (R431). -/
def execRailFallen (k : Fin 7) (s : State) : Outcome State Fault Refusal :=
  match s.boot.railDown with
  | [] => .next s
  | j :: r =>
    if j = k.val then
      let s := s.onBoot (fun b => { b with railDown := r })
      .next (if r ≠ [] then s.railOff else if s.boot.boardFall then s.railsGone else s.railsFallen)
    else .next s

/-- RAIL_RETRY (R431): START, 1 s after the last rail has fallen. -/
def execRailRetry (s : State) : Outcome State Fault Refusal :=
  match s.boot.railsOffAt with
  | some t =>
    let s := (s.reach (t + sec 1)).onBoot (fun b => { b with railsOffAt := none })
    let s := s.hscStart
    .next (if s.pathOn then s.powerGood else s)
  | none => .next s

/-! ### The end of bring-up -/

/-- HRDY_DEADLINE (R427, R456): at 3.9 s training stops holding HRDY_N, and at 4 s a retained-configuration
image that still runs stops with BOOT_FAIL. -/
def execHrdyDeadline (s : State) : Outcome State Fault Refusal :=
  if s.boot.trained && !s.boot.released && s.boot.st != 4 then
    let s := s.reach (s.boot.pgAt + ms 3900)
    let s := s.each (upTo 16) (fun s c =>
      s.when ((s.chan c).st == .training || (s.chan c).st == .discovering) (fun s =>
        s.onChan c (fun ch => { ch with late := true, returning := true })))
    if s.boot.cfg.isSome then
      let s := s.reach (s.boot.pgAt + sec 4)
      .next ((s.raiseBoot 24 2 [s.boot.cfgIx]).onBoot (fun b => { b with cfg := none }))
    else .next s
  else .next s

/-- HRDY_RELEASE (R80, R84, R427); a reset's recovery of the device has ended once R300 has been applied (R304). -/
def execHrdyRelease (g : Fin 4) (s : State) : Outcome State Fault Refusal :=
  let s := s.when (s.flt.dev == 2 && s.applies devRec && decide (11 ≤ s.boot.step)) (fun s => s.endDiscard devRec)
  let s := s.when (s.flt.dev == 2 && !s.applies devRec && decide (11 ≤ s.boot.step)) State.devRecovered
  .next (s.when ((s.grp g.val).busy && s.mayRelease g.val) (fun s => s.releaseGrp g.val))

/-! ### RST.CTRL -/

/-- Window offset of RST.CTRL. -/
def rstCtrl : Nat := dillPage * 4096 + 0x200

/-- RST.CTRL OP 5 (R303, R434, R443). -/
def State.rstChip (s : State) (slot : Nat) : State :=
  if s.resetBusy || s.boot.st != 3 then s.rstResult 2
  else if !resettable slot then s.rstResult 5
  else (s.rstResult 0).recoveryReset slot

/-- The effect of a write of RST.CTRL (R443). -/
def State.rstWrite (s : State) (m : Master) (op slot : Nat) : State :=
  if op = 5 then s.rstChip slot else if 1 ≤ op ∧ op ≤ 4 then s.rstOp m op else s

/-- A write of RST.CTRL with an OP that leaves SLOT as it is. -/
def State.rstCommand (s : State) (m : Master) (op : Nat) : State :=
  s.gate m rstCtrl (s.rmw rstCtrl [(0, 3, op)]) (fun s => s.rstWrite m op 0)

/-- RST_WARM (R434, R436). -/
def execRstWarm (m : Master) (s : State) : Outcome State Fault Refusal := .next (s.rstCommand m 1)

/-- RST_COLD (R434, R435). -/
def execRstCold (m : Master) (s : State) : Outcome State Fault Refusal := .next (s.rstCommand m 2)

/-- RST_ENTER_AUX_ONLY (R432). -/
def execRstEnterAuxOnly (m : Master) (s : State) : Outcome State Fault Refusal := .next (s.rstCommand m 3)

/-- RST_LEAVE_AUX_ONLY (R433). -/
def execRstLeaveAuxOnly (m : Master) (s : State) : Outcome State Fault Refusal := .next (s.rstCommand m 4)

/-- RST_CHIPLET_RECOVERY (R303, R434). -/
def execRstChipletRecovery (m : Master) (slot : BitVec 4) (s : State) : Outcome State Fault Refusal :=
  .next (s.gate m rstCtrl (wordOf [(0, 5), (3, slot.toNat)]) (fun s => s.rstWrite m 5 slot.toNat))

end Sys2Proof.Machine
end

