-- ==== Sys2Proof/Machine/Sensors.lean ====
section
/-! DEFINITION. The sensor hub, the energy ledger and lane margin scans (R464-R466, R571). -/

namespace Sys2Proof.Machine

open Host (Outcome)

/-- Change the management subsystem's state. -/
def State.onMgmt (s : State) (f : Management → Management) : State := s.withMgmt (f s.mgmt)

/-- Slot of a die sensor: Dill 0-1, Hyssop 2, Sorrel 3-6, Chervil 7-10, Lovage 11-22, the bridge beside the Borage
site 23 (R464). -/
def sensorSlot (n : Nat) : Nat :=
  if n < 2 then 0 else if n = 2 then 1 else if n < 7 then 2 else if n < 11 then 4 + (n - 7) / 2
  else if n < 23 then 8 + (n - 11) / 3 else 2

/-- A die sensor can be read: its chiplet has power, and Hyssop's is reached over the serial link (R464, R488). -/
def State.sensorOn (s : State) (n : Nat) : Bool :=
  decide (n < 24) && (decide (sensorSlot n < 2) || s.boot.main) && !(n == 2 && s.hsc.linkLost)

/-- A die sensor is read: its peak, and DIE_HOT at SENS.CFG.TWARN, again only after it has fallen 3 degrees below
(R464, R484). -/
def State.readDie (s : State) (n : Nat) (t : BitVec 16) : State :=
  let top := match look? s.mgmt.diePeak n with
    | some p => if p.toInt < t.toInt then t else p
    | none => t
  let warn : Int := 4 * s.cfg sensPage 0x98 0 8
  let was := s.mgmt.hot.contains n
  let hot := decide (warn ≤ t.toInt) || (was && decide (warn - 12 < t.toInt))
  let rest := s.mgmt.hot.filter (· != n)
  let s := s.onMgmt (fun m => { m with
    die := put 0 m.die n t, diePeak := enter top m.diePeak n, hot := if hot then n :: rest else rest })
  s.when (hot && !was) (fun s =>
    s.raise { src := 47, site := siteOfPage sensPage, subject := n, detail := [t.toNat] })

/-- Input voltage, current, power and energy: VIN in 0.25 mV, current in 2.5 mA, power in 25 mW, energy in
microjoules (R464). -/
def State.readInput (s : State) (v i : BitVec 16) : State :=
  let prod := v.toNat * i.toNat
  let p := prod / 40000
  let e := prod * 625 / 1000000
  s.onMgmt (fun m => { m with
    vin := v, iin := i, pin := if p < 65536 then BitVec.ofNat 16 p else Config.powerOver p,
    ein := (m.ein + e) % 2 ^ 64, interval := m.interval + e })

/-- The set point of VDD_CORE is corrected from the die sensors by 5 mV, at most once every 10 ms, where Dill has set it;
whether and which way is left open (R558). -/
def State.adaptCore (s : State) : State :=
  s.when (s.boot.main && s.railAddr 1 != 0 && s.boot.railGood.contains 1 && decide (s.boot.vsetAt + ms 10 ≤ s.now)) (fun s =>
    let c := Config.coreStep s.free
    s.takeFree.when c.2 (fun s => s.setCore (if c.1 then s.boot.vset + 5 else s.boot.vset - 5)))

/-- SENSOR_SAMPLE (R464, R558): the regulators are read over the PMBus every 10 ms. The current of a rail with ADDR = 0 reads 0
(R484). -/
def execSensorSample (r : SensorSample) (s : State) : Outcome State Fault Refusal :=
  .next (s.when s.boot.aux (fun s =>
    let s := (s.reach (s.mgmt.sampleAt + ms 1))
    let s := s.onMgmt (fun m => { m with sampleAt := s.now, sampled := true })
    let s := if s.hsc.linkLost then s else s.readInput r.vin r.iin
    let s := s.each r.die (fun s e => s.when (s.sensorOn e.1) (fun s => s.readDie e.1 e.2))
    let s := s.each r.railV (fun s e => s.when (decide (e.1 < 7)) (fun s =>
      s.onMgmt (fun m => { m with railV := put 0 m.railV e.1 e.2 })))
    let due := s.mgmt.railAt.all (fun t => decide (t + ms 10 ≤ s.now))
    let s := s.when due (fun s => (s.onMgmt (fun m => { m with railAt := some s.now })).each r.railI (fun s e =>
      s.when (decide (e.1 < 7)) (fun s =>
        s.onMgmt (fun m => { m with railI := put 0 m.railI e.1 (if s.railAddr e.1 = 0 then 0 else e.2) }))))
    s.adaptCore))

/-- DIE_OVERTEMP (R571): the sensor beside the Borage site raises only DIE_HOT. -/
def execDieOvertemp (sensor : Fin 24) (s : State) : Outcome State Fault Refusal :=
  .next (s.when (s.boot.aux && decide (sensor.val < 23) && s.sensorOn sensor.val) (fun s =>
    (s.reach (s.now + ms 1)).faultP (chipletPage (sensorSlot sensor.val)) 5 0))

/-- A weight of LEDG.W: 0 reads, 1 writes, 2 data mover lines, 3 parcels (R484). -/
def State.ledgW (s : State) (k : Nat) : Nat := s.cfg sensPage 0x30C (8 * k) 8

/-- act[n] of the ledger (R465). -/
def State.activity (s : State) (n : Nat) : Nat :=
  s.ledgW 0 * look 0 s.mgmt.actRd n + s.ledgW 1 * look 0 s.mgmt.actWr n +
    s.ledgW 2 * look 0 s.mgmt.actDm n + s.ledgW 3 * look 0 s.mgmt.actCmp n

/-- Split an interval's energy (R465). -/
def State.splitEnergy (s : State) (e : Nat) : State :=
  let base := min e (s.cfg sensPage 0x308 0 32)
  let rest := e - base
  let act := (upTo 64).map s.activity
  let a := act.sum
  let share := (upTo 64).map (fun n => (n, if a = 0 then 0 else rest * act.getD n 0 / a))
  let used := (share.map (·.2)).sum
  s.onMgmt (fun m => { m with
    ledger := share.foldl (fun t p => edit 0 t p.1 (fun x => (x + p.2) % 2 ^ 64)) m.ledger,
    unassigned := (m.unassigned + base + (rest - used)) % 2 ^ 64 })

/-- ENERGY_LEDGER_TICK (R465): once after each sample. -/
def execEnergyLedgerTick (s : State) : Outcome State Fault Refusal :=
  .next (s.when (s.boot.aux && s.mgmt.sampled) (fun s =>
    (s.splitEnergy s.mgmt.interval).onMgmt (fun m => { m with
      interval := 0, sampled := false, actRd := [], actWr := [], actDm := [], actCmp := [] })))

/-! ### Lane margins -/

/-- LMRG of a completed scan (R484). -/
def lmrgWord (tl tr vu vd : Nat) : Word := wordOf [(0, tl), (6, tr), (12, vu), (19, vd), (27, 1)]

/-- Record a scan of a lane: one that a host command holds up is incomplete (R65, R466). -/
def State.scanLane (s : State) (g lane tl tr vu vd : Nat) : State :=
  let s := s.onGrp g (fun p => { p with scanAt := enter s.now p.scanAt lane })
  if (s.grp g).margining.contains lane then
    s.onGrp g (fun p => { p with lmrg := put 0 p.lmrg lane (look 0 p.lmrg lane ||| BitVec.ofNat 32 (2 ^ 26)) })
  else
    let s := s.onGrp g (fun p => { p with lmrg := put 0 p.lmrg lane (lmrgWord tl tr vu vd) })
    let t := s.cfg sensPage 0x310 9 6
    let v := s.cfg sensPage 0x310 15 7
    s.when (decide (tl < t) || decide (tr < t) || decide (vu < v) || decide (vd < v)) (fun s =>
      s.raise { src := 48, site := phyPage g * 256 + lane, subject := lane })

/-- LANE_MARGIN_SCAN (R466): a link in L0 or L0p, MGN.CFG.HOURS after the lane's last scan. -/
def execLaneMarginScan (g : Fin 4) (lane : Fin 16) (tl tr : BitVec 6) (vu vd : BitVec 7) (s : State) :
    Outcome State Fault Refusal :=
  let l := s.linkOfLane g.val lane.val
  .next (s.when (s.cfgBit sensPage 0x310 0 && s.present l && ((s.link l).st == .l0 || (s.link l).st == .l0p)) (fun s =>
    let s := match look? (s.grp g.val).scanAt lane.val with
      | some t => s.reach (t + sec (3600 * max 1 (s.cfg sensPage 0x310 1 8)))
      | none => s
    s.scanLane g.val lane.val tl.toNat tr.toNat vu.toNat vd.toNat))

end Sys2Proof.Machine
end

