-- ==== Sys2Proof/Machine/Fwu.lean ====
section
/-! DEFINITION. Hitless firmware update (R474-R479, R485). -/

namespace Sys2Proof.Machine

/-- Window offset of FWU.CMD. -/
def fwuOff : Nat := dillPage * 4096 + 0x260

/-- Set FWU.CMD.RESULT. -/
def State.fwuResult (s : State) (r : Nat) : State := s.onMgmt (fun g => { g with fwuResult := r })

/-- The standby core (R446). -/
def State.standbyCore (s : State) : Nat := if s.core.c0.active then 1 else 0

/-- An image has been staged in the slot that the running image did not boot from (R475). -/
def State.staged_ (s : State) (i : FwImage) : State :=
  let b := !s.boot.imageB
  let board := s.boot.board
  (s.onBoot (fun t => { t with board := if b then { board with slotB := some i } else { board with slotA := some i } })).onMgmt
    (fun g => { g with fwu := .staged, slotB := b, committed := false })

/-- The outgoing core has ended its register accesses and its retained writes (R476). -/
def State.coreDone (s : State) (c : Fin 2) : Bool :=
  !s.underWay (.core c) && !s.ret.held.any (fun h => h.m == .core c)

/-- The roles move to the other core, which takes an interrupt at FWU.HANDOVER, or at FWU.RB_ENTRY on a roll-back
(R475, R476). -/
def State.moveRoles (s : State) (back : Bool) : State :=
  let out := s.activeCore
  let inc := s.standbyCore
  let at_ := s.cfg dillPage (if back then 0x270 else 0x26C) 0 32
  let old := (s.boot.imageB, s.boot.svn)
  let new := s.mgmt.standby.getD old
  let s := s.onMcore out (fun k => { k with active := false, halted := true })
  let s := s.onMcore inc (fun k => { k with active := true, halted := false, entry := at_ })
  let s := s.onBoot (fun t => { t with imageB := new.1, svn := new.2 })
  let s := s.onMgmt (fun g => { g with
    switching := none, ready := false, standby := some old,
    fwu := if back then .idle else .trial, trialEnd := s.now + sec (s.cfg dillPage 0x268 0 8) })
  let s := (s.emit (.coreInt inc at_)).raiseAt 43 dillPage (b2n new.1)
  s.when back (fun s => s.raiseAt 44 dillPage (b2n new.1))

/-- A switch that waits ends once the outgoing core has nothing under way (R476). -/
def State.trySwitch (s : State) : State :=
  match s.mgmt.switching with
  | some back => if s.coreDone (Fin.ofNat 2 s.activeCore) then s.moveRoles back else s
  | none => s

/-- A switch starts (R476). -/
def State.startSwitch (s : State) (back : Bool) : State :=
  s.onMgmt (fun g => { g with switching := some back })

/-- VERIFY (R475). -/
def State.fwuVerify (s : State) : State :=
  if s.slotGood s.mgmt.slotB then (s.onMgmt (fun g => { g with fwu := .verified })).fwuResult 0
  else (s.onMgmt (fun g => { g with fwu := .idle })).fwuResult 6

/-- LOAD (R475). -/
def State.fwuLoad (s : State) : State :=
  match s.slotImage s.mgmt.slotB with
  | none => s.fwuResult 2
  | some i =>
    let c := s.standbyCore
    let s := s.withCore { s.core with sram := putBytes s.core.sram (imageBase c) i.body }
    let s := s.onMcore c (fun k => { k with active := false, halted := false, entry := imageBase c + i.entry })
    (s.onMgmt (fun g => { g with fwu := .loaded, ready := false, standby := some (g.slotB, i.svn) })).fwuResult 0

/-- CONFIRM: the firmware commit (R478). -/
def State.fwuConfirm (s : State) (m : Master) : State :=
  let n := ((s.futureWord 0xA06).toNat / 2 + 1) % 2 ^ 31
  let s := (s.onMgmt (fun g => { g with fwu := .idle, committing := true })).fwuResult 0
  s.retWrite 0xA06 (BitVec.ofNat 32 (2 * n + b2n s.boot.imageB)) (some m)

/-- RAISE_SVN (R478). -/
def State.raiseSvnOp (s : State) (m : Master) : State :=
  if s.mgmt.fwu == .idle && s.mgmt.committed then
    (s.fwuResult 0).retWrite 0xA07 (BitVec.ofNat 32 s.boot.svn) (some m)
  else s.fwuResult 2

/-- FWU.CMD OP 1 to 7 (R475, R476, R479, R485): an event with no row for the present state gives RESULT 2. -/
def State.fwuOp (s : State) (m : Master) (op : Nat) : State :=
  let g := s.mgmt
  let active := m == .core (Fin.ofNat 2 s.activeCore)
  let standby := m == .core (Fin.ofNat 2 s.standbyCore)
  if op = 0 then s
  else if g.switching.isSome then s.fwuResult 2
  else if op = 1 ∧ g.fwu = .staged then s.fwuVerify
  else if op = 2 ∧ g.fwu = .verified then s.fwuLoad
  else if op = 3 ∧ g.fwu = .loaded ∧ standby then (s.onMgmt (fun g => { g with ready := true })).fwuResult 0
  else if op = 4 ∧ g.fwu = .loaded ∧ active ∧ g.ready ∧ !s.resetBusy then (s.fwuResult 0).startSwitch false
  else if op = 5 ∧ g.fwu = .trial ∧ active then s.fwuConfirm m
  else if op = 6 ∧ g.fwu = .trial then (s.fwuResult 0).startSwitch true
  else if op = 7 ∧ g.fwu = .loaded then
    ((s.onMcore s.standbyCore (fun k => { k with halted := true })).onMgmt (fun g => { g with fwu := .idle, ready := false })).fwuResult 0
  else s.fwuResult 2

/-- Effect of a write of FWU.CMD: RAISE_SVN, then OP (R485). -/
def State.fwuCmd (s : State) (m : Master) (v : Word) : State :=
  (s.when (v.getLsbD 3) (fun s => s.raiseSvnOp m)).fwuOp m (fieldOf v 0 3)

end Sys2Proof.Machine
end

