-- ==== Sys2Proof/Machine/Counters.lean ====
section
/-! DEFINITION. Commands of the counter banks and of the request tracer's ring (R511-R523). -/

namespace Sys2Proof.Machine

open Host (Outcome)

/-- An event code that the table of R514 defines for a page. -/
def codeDefined (p ev : Nat) : Bool :=
  let k := kindOf p
  let some_ := fun (n m : Nat) => (decide (0x10 ≤ ev) && decide (ev < 0x10 + n)) || (decide (0x80 ≤ ev) && decide (ev < 0x80 + m))
  decide (ev ≤ 2) ||
    (if k = .kHsq then some_ 3 3 else if k = .kSf ∨ k = .kMcache ∨ k = .kDlnk then some_ 3 1
     else if k = .kDdrc then some_ 4 2 else if k = .kCmpe ∨ k = .kDm then some_ 2 1
     else counters p == 8 && some_ 3 1)

/-- Effect of a write of PMC.CTL: its fields, the end of a freeze, and CLEAR (R515, R522). -/
def State.pmcCtl (s : State) (p : Nat) (v : Word) : State :=
  let s := (s.settlePage p).setBits p 0x40 0 10 (fieldOf v 0 10)
  s.onBank p (fun b => { b with frozen := false, cnt := if bitOf v.toNat 10 then [] else b.cnt })

/-- Effect of a write of PMC.EVSEL on the counter that IDX names; a reserved encoding leaves its field (R15, R512,
R514, R517). -/
def State.pmcEvsel (s : State) (p : Nat) (v : Word) : State :=
  let k := s.cfg p 0x48 0 3
  if k < counters p then
    let s := s.settlePage p
    let old := look 0 (s.bank p).evsel k
    let x := setField old 10 12 (fieldOf v 10 12)
    let x := if codeDefined p (fieldOf v 0 8) then setField x 0 8 (fieldOf v 0 8) else x
    let x := if fieldOf v 8 2 < 3 then setField x 8 2 (fieldOf v 8 2) else x
    s.onBank p (fun b => { b with evsel := put 0 b.evsel k x })
  else s

/-- Effect of a write of PMC.OVF (R522). -/
def State.pmcOvf (s : State) (p : Nat) (v : Word) : State :=
  s.onBank p (fun b => { b with ovf := b.ovf &&& ~~~(BitVec.ofNat 8 v.toNat) })

/-- Effect of a write of PMC.GCTL: RUN of the GLOB counters, and CLEAR (R516, R522). -/
def State.pmcGctl (s : State) (v : Word) : State :=
  let s := s.settleAll.setBits trcPage 0x98 0 1 (fieldOf v 0 1)
  if bitOf v.toNat 1 then
    s.each ((s.obs.pmc.map (·.1)).filter (fun p => s.cfgBit p 0x40 9)) (fun s p =>
      s.onBank p (fun b => { b with cnt := [] }))
  else s

/-- Window offset of PMC.GCTL. -/
def gctlOff : Nat := trcPage * 4096 + 0x98

/-- PMC_CLEAR (R522). -/
def execPmcClear (m : Master) (page : BitVec 16) (ctl : Word) (s : State) : Outcome State Fault Refusal :=
  let v := setField ctl 10 1 1
  .next (s.gate m (page.toNat * 4096 + 0x40) v (fun s => s.pmcCtl page.toNat v))

/-- PMC_GCTL_RUN (R516). -/
def execPmcGctlRun (m : Master) (run : Bool) (s : State) : Outcome State Fault Refusal :=
  let v := BitVec.ofNat 32 (b2n run)
  .next (s.gate m gctlOff v (fun s => s.pmcGctl v))

/-- PMC_GCTL_CLEAR (R522). -/
def execPmcGctlClear (m : Master) (run : Bool) (s : State) : Outcome State Fault Refusal :=
  let v := BitVec.ofNat 32 (2 + b2n run)
  .next (s.gate m gctlOff v (fun s => s.pmcGctl v))

/-- When a counter of cycles passes its range, the earliest moment at which it does (R515). -/
def State.cycleEnd (s : State) (p k : Nat) : Option Nat :=
  let b := s.bank p
  let c := s.cycleState p
  let left := 2 ^ 48 - look 0 b.cnt k
  if s.bankRuns p && c.1 && bitOf (s.cfg p 0x40 0 8) k && decide (0 < s.khzOf (s.clockSrc p)) && cycleGain (look 0 b.evsel k) c.2 1 == 1 then
    some (s.cycleInstant p (s.cyclesAt p b.at_ + left) 80 b.at_ (b.at_ + 2 ^ 64))
  else none

/-- A counter has passed 2^48 - 1: it continues modulo 2^48, sets its bit of OVF, raises PMC_OVERFLOW and may freeze
the bank (R515). -/
def State.overflow (s : State) (p k : Nat) : State :=
  let s := s.onBank p (fun b => { b with
    cnt := edit 0 b.cnt k (· - 2 ^ 48), ovf := b.ovf ||| BitVec.ofNat 8 (2 ^ k), frozen := b.frozen || s.cfgBit p 0x40 8 })
  s.raise { src := 512, site := siteOfPage p, subject := p, detail := [k] }

/-- COUNTER_OVERFLOW (R515). -/
def execCounterOverflow (page : BitVec 16) (k : Fin 8) (s : State) : Outcome State Fault Refusal :=
  let p := page.toNat
  let s' := match s.cycleEnd p k.val with
    | some t => (s.reach t).settlePage p
    | none => s
  .next (if 2 ^ 48 ≤ look 0 (s'.bank p).cnt k.val then s'.overflow p k.val else s)

/-! ### The tracer's ring -/

/-- TRC.CFG.WRAP (R523). -/
def State.trcWrap (s : State) : Bool := s.cfgBit trcPage 0x80 2

/-- Records in the ring: 2^RSIZE, RSIZE 10 to 16 (R523). -/
def State.trcSize (s : State) : Nat := 2 ^ s.cfg trcPage 0x80 3 5

/-- With WRAP = 0 nothing is written once WPTR would reach RPTR (R521). -/
def State.trcBlocked (s : State) : Bool :=
  !s.trcWrap && (s.obs.wptr + 1) % s.trcSize == s.cfg trcPage 0x90 0 16

/-- A record that finds the ring full is dropped; the first one raises TRACE_RING_FULL (R521). -/
def State.trcDrop (s : State) : State :=
  let first := !s.obs.full
  let s := s.withObs { s.obs with dropped := satAdd 0xFFFF s.obs.dropped 1, dropFlag := true, full := true }
  s.when first (fun s => s.raiseAt 513 trcPage 0)

/-- A record enters the ring; the first wrap after REC_EN is set raises TRACE_RING_FULL with WRAP = 1 (R521). -/
def State.trcPut (s : State) (r : TraceRec) : State :=
  let r := if s.obs.dropFlag then { r with flags := r.flags ||| 64 } else r
  let w := (s.obs.wptr + 1) % s.trcSize
  let first := w == 0 && s.trcWrap && !s.obs.fullRaised
  let s := s.withObs { s.obs with
    ring := enter r s.obs.ring s.obs.wptr, wptr := w, dropFlag := false,
    wraps := if w = 0 then satAdd 0xFFFF s.obs.wraps 1 else s.obs.wraps, fullRaised := s.obs.fullRaised || first }
  s.when first (fun s => s.raiseAt 513 trcPage 0)

/-- TRACE_RECORD_WRITE (R520, R521): the oldest buffered record, at most 100 million per second. -/
def execTraceRecordWrite (s : State) : Outcome State Fault Refusal :=
  match s.obs.buf with
  | [] => .next s
  | r :: rest =>
    let s := match s.obs.wroteAt with
      | some t => s.reach (t + 10)
      | none => s
    let s := s.withObs { s.obs with buf := rest, wroteAt := some s.now }
    .next (if s.trcBlocked then s.trcDrop else s.trcPut r)

/-- Effect of a write of TRC.CFG: REC_EN newly set starts the count of drops anew (R521, R523). -/
def State.trcCfg (s : State) (was : Bool) : State :=
  s.when (!was && s.cfgBit trcPage 0x80 1) (fun s =>
    s.withObs { s.obs with dropped := 0, fullRaised := false })

/-- Effect of a write of TRC.RPTR: the ring is no longer full once it advances (R521, R523). -/
def State.trcRptr (s : State) : State := s.withObs { s.obs with full := s.obs.full && s.trcBlocked }

end Sys2Proof.Machine
end

