-- ==== Sys2Proof/Machine/FabricCmds.lean ====
section
/-! DEFINITION. Commands of the Dunas modules and of the Borage site: training, link-control and message
flits, timers, DLNK.CTRL, Borage requests, snoop responses and forwarded CXL.io (R337-R373). -/

namespace Sys2Proof.Machine

open Host (Outcome)

/-! ### Training -/

/-- A module end can leave OFF: its chiplet is powered and out of reset (R343). -/
def State.mayTrain (s : State) (e : Nat) : Bool :=
  (s.mod e).st == .off && s.boot.main && decide (8 ≤ s.boot.step) &&
    (!brgModEnd e || (!s.brg.rst && !s.brg.filler))

/-- DLNK_TRAIN (R343). -/
def execDlnkTrain (e : Fin 34) (s : State) : Outcome State Fault Refusal :=
  .next (s.when (s.mayTrain e.val) (fun s => s.onMod e.val (fun k => { k with st := .train })))

/-- The widest width at which the lanes of a training work; none where it failed. -/
def trainedWidth (r : LaneResult) (top : Nat) : Option Nat :=
  if r.ok then laneWidth r.lanes.toNat r.fck0 r.fck1 top else none

/-- What a training has found of the lanes: DPHY.MAP, and LANE_REPAIRED where a spare is assigned (R339, R377, R380). -/
def State.repairLanes (s : State) (e : Nat) (r : LaneResult) : State :=
  let map := laneMap r.lanes.toNat r.fck0 r.fck1
  (s.onMod e (fun k => { k with map := map, fails := r.lanes.toNat })).when (decide (0 < sparesOf map)) (fun s =>
    s.raiseDlnk e 644 0)

/-- A module end runs at a rate and a width, on the lanes that its last training leaves for it (R339). -/
def State.setLane (s : State) (e rate w : Nat) : State :=
  s.onMod e (fun k => { k with
    rate := rate, width := w, base := laneBase k.fails (fieldOf k.map 28 1 == 1) (fieldOf k.map 29 1 == 1) w })

/-- Both ends of a module run at a rate and a width (R338). -/
def State.setBoth (s : State) (e rate w : Nat) : State :=
  match peerEnd e with
  | some p => (s.setLane e rate w).setLane p rate w
  | none => s.setLane e rate w

/-- The rate and width that the peer of an end has trained at limit the module; one that has not limits nothing (R338,
R341). -/
def State.peerLane (s : State) (e : Nat) : Nat × Nat :=
  match peerEnd e with
  | some p =>
    let st := (s.mod p).st
    if st == .param || st == .credit || st == .active then ((s.mod p).rate, (s.mod p).width) else (3, 2)
  | none => (3, 2)

/-- A training at a rate has failed: at 8 GT/s the module fails; a rate that fails twice in succession is removed (R341). -/
def State.rateFailed (s : State) (e rate : Nat) : State :=
  if rate = 0 then s.retireMod e .failed
  else s.onMod e (fun k =>
    if k.failedRate = some rate then { k with failedRate := none, rateTop := rate - 1 }
    else { k with failedRate := some rate })

/-- Training settles a rate and a width for both ends, or fails at its rate (R338, R339, R341). -/
def State.trained (s : State) (e : Nat) (r : LaneResult) : State :=
  let p := (peerEnd e).getD e
  let lim := s.peerLane e
  let rate := min (min (min r.rate.val (s.mod e).rateTop) (min (s.maxRate e) (s.maxRate p))) (min (s.mod e).offer lim.1)
  let s := s.repairLanes e r
  match trainedWidth r (min (min (s.maxWidth e) (s.maxWidth p)) lim.2) with
  | some w =>
    let s := s.onMod e (fun k => { k with st := .param, failedRate := none, rateTop := 3 })
    ((s.setBoth e rate w).degraded e).sendParam e
  | none => s.rateFailed e rate

/-- DLNK_TRAIN_END (R341). -/
def execDlnkTrainEnd (e : Fin 34) (r : LaneResult) (s : State) : Outcome State Fault Refusal :=
  .next (s.when ((s.mod e.val).st == .train) (fun s => s.fabricOp e.val (fun s => s.trained e.val r)))

/-- What an INIT_PARAM carries (R349). -/
structure Params where
  major : Nat
  minor : Nat
  rate : Nat
  vendor : Nat
  device : Nat
  rev : Nat
  deriving DecidableEq, Repr

/-- The peer's parameters are noted: its slot, the lower minor version, and the rate it offers, above which the module does not
run (R341, R379); a Borage module's show the chiplet present (R362). -/
def State.noteParam (s : State) (e : Nat) (p : Params) : State :=
  let s := s.onMod e (fun k => { k with peer := peerSlot e, minor := min 0 p.minor, offer := min 3 p.rate })
  let s := s.setBoth e (min (s.mod e).rate (min 3 p.rate)) (s.mod e).width
  s.when (brgModEnd e) (fun s => s.withBrg { s.brg with
    present := true, recovers := false, ident := BitVec.ofNat 32 (p.vendor + 65536 * p.device), rev := p.rev })

/-- INIT_PARAM (R341, R343, R344, R362): version 1 is common. -/
def State.takeParam (s : State) (e : Nat) (p : Params) : State :=
  let st := (s.mod e).st
  if st == .param then
    if p.major = 1 then
      let s' := (s.onMod e (fun k => { k with st := .credit })).noteParam e p
      (s'.when (decide (p.rate < (s.mod e).rate)) (fun s => s.degraded e)).sendCredit e
    else s.retireMod e .failed
  else if st == .lreset then
    if p.major = 1 then (s.onMod e (fun k => { k with paramRcvd := true })).tryResetDone e
    else s.retireMod e .retired
  else s

/-- INIT_PARAM (R349). -/
def execInitParam (e : Fin 34) (major minor rate : BitVec 8) (vendor device : BitVec 16) (rev : BitVec 8)
    (s : State) : Outcome State Fault Refusal :=
  .next (s.fabricOp e.val (fun s => s.takeParam e.val {
    major := major.toNat, minor := minor.toNat, rate := rate.toNat, vendor := vendor.toNat, device := device.toNat,
    rev := rev.toNat }))

/-- INIT_CREDIT (R341, R343, R344): one too low in CREDIT raises DLNK_PROTO before the module fails (assumption 178). -/
def State.takeCredit (s : State) (e : Nat) (adv : List Nat) : State :=
  let k := s.mod e
  if k.st == .credit then
    if creditsOk e adv then
      let s := s.onMod e (fun k => { k with adv := adv, creditRcvd := true })
      s.when k.creditSent (fun s => s.modUp e)
    else (s.raiseDlnk e 646 0).retireMod e .failed
  else if k.st == .lreset then
    if adv = k.adv then
      (s.onMod e (fun k => { k with creditRcvd := true })).tryResetDone e
    else (s.raiseDlnk e 646 0).retireMod e .retired
  else s

/-- INIT_CREDIT (R349). -/
def execInitCredit (e : Fin 34) (adv : List (BitVec 16)) (s : State) : Outcome State Fault Refusal :=
  .next (s.fabricOp e.val (fun s => s.takeCredit e.val (adv.map BitVec.toNat)))

/-! ### Flits -/

/-- ACK_CREDIT (R351, R355, R356). -/
def execAckCredit (e : Fin 34) (valid : Bool) (ackseq : BitVec 12) (ret : List (BitVec 16)) (s : State) :
    Outcome State Fault Refusal :=
  .next (s.fabricOp e.val (fun s => s.takeAck e.val valid ackseq.toNat (ret.map BitVec.toNat)))

/-- REPLAY_START (R352). -/
def execReplayStart (e : Fin 34) (seq : BitVec 12) (s : State) : Outcome State Fault Refusal :=
  .next (s.fabricOp e.val (fun s => s.takeReplayStart e.val seq.toNat))

/-- LINK_REQ (R342, R343). -/
def execLinkReq (e : Fin 34) (ch : LinkChange) (slot : BitVec 4) (s : State) : Outcome State Fault Refusal :=
  .next (s.takeReq e.val ch slot.toNat)

/-- LINK_RSP (R342). -/
def execLinkRsp (e : Fin 34) (accept : Bool) (s : State) : Outcome State Fault Refusal :=
  .next (s.takeRsp e.val accept)

/-- Eight 16-bit counts of a link-control flit (R349). -/
def flitCounts (f : BitVec 512) : List Nat := (upTo 8).map (fun k => flitBytes f (8 + 2 * k) 2)

/-- The change that a LINK_REQ or LINK_RSP flit names; none: not of R349. -/
def flitChange (f : BitVec 512) : Option LinkChange :=
  match flitBytes f 4 1 with
  | 1 => if flitBytes f 5 1 < 3 then some (.width (Fin.ofNat 3 (flitBytes f 5 1))) else none
  | 2 => if flitBytes f 6 1 < 4 then some (.rate (Fin.ofNat 4 (flitBytes f 6 1))) else none
  | 3 => some .retrain
  | _ => none

/-- A link-control flit that passes its CRC acts as the command of its type; a reserved LCTYPE is a protocol error (R349), and so
is a reserved kind, width or rate code of a LINK_REQ (assumption 178). -/
def State.takeCtl (s : State) (e : Nat) (f : BitVec 512) : State :=
  match bits (flitBytes f 0 4) 26 4 with
  | 0 => s.takeAck e (bitOf (flitBytes f 4 2) 15) (bits (flitBytes f 4 2) 0 12) (flitCounts f)
  | 1 => s.takeReplayStart e (bits (flitBytes f 4 2) 0 12)
  | 2 => s.takeParam e {
      major := flitBytes f 4 1, minor := flitBytes f 5 1, rate := flitBytes f 8 1, vendor := flitBytes f 12 2,
      device := flitBytes f 14 2, rev := flitBytes f 16 1 }
  | 3 => s.takeCredit e (flitCounts f)
  | 4 => match flitChange f with
    | some ch => s.takeReq e ch (bits (flitBytes f 7 1) 0 4)
    | none => s.protoError e
  | 5 => s.takeRsp e (flitBytes f 5 1 == 1)
  | _ => s.protoError e

/-- The states in which flits cross a module (R343). -/
def flitsCross (k : DlnkState) : Bool := k == .param || k == .credit || k == .active || k == .change || k == .lreset

/-! ### Timers -/

/-- ACK_TIMER (R349, R351): with nothing to acknowledge it is the ACK_CREDIT of a sender with nothing to send. -/
def execAckTimer (e : Fin 34) (s : State) : Outcome State Fault Refusal :=
  let k := s.mod e.val
  .next (s.when (k.st == .active) (fun s =>
    (s.when (decide (0 < k.rxUnacked) && decide (k.rxUnacked < 32)) (fun s => s.reach (k.rxOldestAt + 200))).sendAck e.val))

/-- When the oldest unacknowledged flit was last sent. -/
def ModuleEnd.oldest (k : ModuleEnd) : Nat := (k.unacked.map (·.2.1)).headD 0

/-- REPLAY_TIMER (R353); the flits of a retired module are replayed on the module that takes its traffic (R25). -/
def execReplayTimer (e : Fin 34) (s : State) : Outcome State Fault Refusal :=
  let k := s.mod e.val
  if k.st == .active && !k.unacked.isEmpty && decide (k.inRow < 4) then
    .next ((s.reach (k.oldest + us 1)).replay e.val)
  else if k.gone && !k.unacked.isEmpty then .next ((s.reach (k.oldest + us 1)).moveFlits e.val)
  else .next s

/-- REPLAY_LIMIT (R353): between chiplets of the device the command tells that four replays have failed (assumption 122). -/
def execReplayLimit (e : Fin 34) (s : State) : Outcome State Fault Refusal :=
  let k := s.mod e.val
  if !brgModEnd e.val && k.st == .active then
    .next (((s.onMod e.val (fun k => { k with replays := satAdd 0xFFFF k.replays 4 })).raiseDlnk e.val 647 0).fabricOp e.val
      (fun s => s.enterLreset e.val 2))
  else if k.st == .active && !k.unacked.isEmpty && decide (4 ≤ k.inRow) then
    .next (((s.reach (k.oldest + us 1)).raiseDlnk e.val 647 0).fabricOp e.val (fun s => s.enterLreset e.val 2))
  else .next s

/-- Number of a message class (R354). -/
def msgClassNo : MsgClass → Nat
  | .rq => 0 | .rs => 1 | .sn => 2 | .mg => 3

/-- CREDIT_TIMEOUT (R356): between chiplets of the device the command tells that a message has waited (assumption 122). -/
def execCreditTimeout (e : Fin 34) (cls : MsgClass) (s : State) : Outcome State Fault Refusal :=
  let k := s.mod e.val
  if !brgModEnd e.val && k.st == .active then
    .next ((s.raiseDlnk e.val 645 (msgClassNo cls)).fabricOp e.val (fun s => s.enterLreset e.val 1))
  else match look? k.waiting (msgClassNo cls) with
  | some t =>
    if k.st == .active then
      .next (((s.reach (t + s.creditTo e.val)).raiseDlnk e.val 645 (msgClassNo cls)).fabricOp e.val
        (fun s => s.enterLreset e.val 1))
    else .next s
  | none => .next s

/-- TRAINING_PATTERN_SEEN (R343, R344). -/
def execTrainingPatternSeen (e : Fin 34) (s : State) : Outcome State Fault Refusal :=
  .next (s.fabricOp e.val (fun s => s.enterLreset e.val 4))

/-- The retraining of a link reset ends: at the rate and width last used, narrowed where the lanes no longer allow the
width; the end sends its parameters and credits, and is ACTIVE again once the peer's have come (R343, R344). -/
def State.retrainDone (s : State) (e : Nat) (r : LaneResult) : State :=
  let s := s.repairLanes e r
  match trainedWidth r (s.mod e).width with
  | none => s.retireMod e .retired
  | some w =>
    let s := (s.onMod e (fun k => { k with retrained := true })).setBoth e (s.mod e).rate w
    ((s.sendParam e).sendCtl e 3 myCredits).tryResetDone e

/-- LINK_RESET_END (R343, R344). -/
def execLinkResetEnd (e : Fin 34) (r : LaneResult) (s : State) : Outcome State Fault Refusal :=
  .next (s.when ((s.mod e.val).st == .lreset && !(s.mod e.val).retrained) (fun s =>
    s.fabricOp e.val (fun s => s.retrainDone e.val r)))

/-- A change ends well, at both ends (R338, R343). -/
def State.changeDone (s : State) (e : Nat) (ch : LinkChange) : State :=
  let s := s.onMod e (fun k => { k with st := .active, change := none, lastReset := some s.now })
  let k := s.mod e
  (match ch with
    | .width w => s.setBoth e k.rate w.val
    | .rate r => s.setBoth e r.val k.width
    | .retrain => s).goesOn e

/-- DLNK_CHANGE_END (R343): of a change that both ends have agreed to. -/
def execDlnkChangeEnd (e : Fin 34) (ok : Bool) (s : State) : Outcome State Fault Refusal :=
  let k := s.mod e.val
  match k.change with
  | some ch =>
    if k.st == .change && k.ownReq.isNone then
      .next (s.fabricOp e.val (fun s => if ok then s.changeDone e.val ch else s.enterLreset e.val 6))
    else .next s
  | none => .next s

/-- COMMANDED_CHANGE_START (R344): 1.5 ms have passed since the last LRESET or CHANGE. -/
def execCommandedChangeStart (e : Fin 34) (s : State) : Outcome State Fault Refusal :=
  let k := s.mod e.val
  match k.ownReq with
  | some ch =>
    if k.waitChange && k.st == .active then
      .next ((s.reach ((k.lastReset.getD 0) + us 1500)).startChange e.val ch)
    else .next s
  | none => .next s

/-! ### DLNK.CTRL -/

/-- A write of DLNK.CTRL.CMD (R378). -/
def State.dlnkCtrl (s : State) (m : Master) (e cmd : Nat) : State :=
  s.gate m (dlnkOff e) (BitVec.ofNat 32 cmd) (fun s => s.fabricOp e (fun s => s.dlnkCmd e cmd))

/-- DLNK_RETRAIN (R378). -/
def execDlnkRetrain (m : Master) (e : Fin 34) (s : State) : Outcome State Fault Refusal := .next (s.dlnkCtrl m e.val 1)

/-- DLNK_WIDTH (R378). -/
def execDlnkWidth (m : Master) (e : Fin 34) (s : State) : Outcome State Fault Refusal := .next (s.dlnkCtrl m e.val 2)

/-- DLNK_RATE (R378). -/
def execDlnkRate (m : Master) (e : Fin 34) (s : State) : Outcome State Fault Refusal := .next (s.dlnkCtrl m e.val 3)

/-- DLNK_RETIRE (R345, R378). -/
def execDlnkRetire (m : Master) (e : Fin 34) (s : State) : Outcome State Fault Refusal := .next (s.dlnkCtrl m e.val 4)

/-- DLNK_RETURN (R343, R378). -/
def execDlnkReturn (m : Master) (e : Fin 34) (s : State) : Outcome State Fault Refusal := .next (s.dlnkCtrl m e.val 5)

/-- DLNK_RESET_CMD (R343, R378). -/
def execDlnkResetCmd (m : Master) (e : Fin 34) (s : State) : Outcome State Fault Refusal := .next (s.dlnkCtrl m e.val 6)

/-! ### Borage requests -/

/-- BRG.DRIGHTS of an agent in a domain (R363, R381). -/
def State.rightOf (s : State) (a dom : Nat) : Nat := fieldOf (look 0 s.brg.rights dom) (2 * (a - 64)) 2

/-- A Borage agent's request is accepted (R363). In a host-only-coherent domain a right of 2 acts as 1, and
the caching requests are served without a grant. -/
def State.brgMay (s : State) (a line : Nat) (caching : Bool) : Bool :=
  let st := (s.ext (pgExt (lnPage line))).st
  let r := s.rightOf a (s.domOf (lnPage line))
  (st == .granted || st == .recall || st == .pinned) &&
    decide ((if caching && s.coherent line then 2 else 1) ≤ r)

/-- A refused request of a Borage agent is answered (R363, R366); an InvOwn or CleanEvict by Cmp with ERR (assumption 178). -/
def State.brgTurn (s : State) (a tag line : Nat) (k : ReqKind) : State :=
  match k with
  | .read _ | .readData | .ioRead _ _ => s.emit (.brgData line a tag 0 true 0)
  | .atomic _ _ _ _ _ => s.emit (.brgAtomic line a tag 0 true)
  | _ => s.emit (.brgCmp line a tag true 0)

/-- A write of a Borage agent that a unit out of service discards is a lost write (R298, R299). -/
def State.brgLostWrite (s : State) (line : Nat) (k : ReqKind) : State :=
  s.when (traceKind k == 1 || traceKind k == 2) (fun s => s.discardLine (s.outUnit line) line)

/-- A request of a Borage agent reaches Sorrel on the module of its home slice (R345, R363-R366); one that comes with a credit
uses it up where it is refused, too (R365). -/
def State.brgRequest (s : State) (a tag line : Nat) (k : ReqKind) (caching cred : Bool) : State :=
  let hs := homeOf (lnPage line)
  if (s.brgEnd hs).isNone then s
  else
    let sent := s.home.retried.find? (fun r => cred && r.hs == hs && r.cls == .borage && r.credit)
    let refused := fun (s : State) => s.withHome { s.home with
      retried := match sent with
        | some r => s.home.retried.erase r
        | none => s.home.retried }
    let t := s.tagging (16 + hs % 4)
    let s := t.1
    if s.home.lost.getLsbD a then
      let first := s.home.timedOut.getLsbD a && !s.home.lostSeen.getLsbD a
      let s := s.when first (fun s =>
        (s.withHome { s.home with lostSeen := s.home.lostSeen ||| BitVec.ofNat 80 (2 ^ a) }).raiseHs hs 1 1 a none)
      (refused s).brgTurn a tag line k
    else if s.outOfService line then (refused (s.brgLostWrite line k)).brgTurn a tag line k
    else if !s.brgMay a line caching then
      ((refused s).raise { src := 649, site := siteOfPage brgPage, subject := a }).brgTurn a tag line k
    else s.enlist line (.borage a) k tag cred t.2

/-- RDCUR (R366). -/
def execRdcur (a : Fin 16) (tag : BitVec 10) (line : BitVec 40) (cred : Bool) (s : State) :
    Outcome State Fault Refusal :=
  .next (s.brgRequest (64 + a.val) tag.toNat line.toNat (.read .none) false cred)

/-- RDSHARED (R366). -/
def execRdshared (a : Fin 16) (tag : BitVec 10) (line : BitVec 40) (cred : Bool) (s : State) :
    Outcome State Fault Refusal :=
  .next (s.brgRequest (64 + a.val) tag.toNat line.toNat (.read .s) true cred)

/-- RDOWN (R366). -/
def execRdown (a : Fin 16) (tag : BitVec 10) (line : BitVec 40) (cred : Bool) (s : State) :
    Outcome State Fault Refusal :=
  .next (s.brgRequest (64 + a.val) tag.toNat line.toNat (.read .a) true cred)

/-- INVOWN (R366). -/
def execInvown (a : Fin 16) (tag : BitVec 10) (line : BitVec 40) (cred : Bool) (s : State) :
    Outcome State Fault Refusal :=
  .next (s.brgRequest (64 + a.val) tag.toNat line.toNat (.inv .a) true cred)

/-- CLEANEVICT (R366). -/
def execCleanevict (a : Fin 16) (tag : BitVec 10) (line : BitVec 40) (cred : Bool) (s : State) :
    Outcome State Fault Refusal :=
  .next (s.brgRequest (64 + a.val) tag.toNat line.toNat .clnEvct false cred)

/-- MetaValue of a Borage write: keep S is S (R366). -/
def keepMv (keepS : Bool) : MetaVal := if keepS then .s else .i

/-- WRFULL (R365, R366). -/
def execWrfull (a : Fin 16) (tag : BitVec 10) (line : BitVec 40) (keepS : Bool) (data : Line) (s : State) :
    Outcome State Fault Refusal :=
  .next (s.brgRequest (64 + a.val) tag.toNat line.toNat (.write (keepMv keepS) data false) false false)

/-- WRPTL (R361, R365, R366). -/
def execWrptl (a : Fin 16) (tag : BitVec 10) (line : BitVec 40) (keepS : Bool) (mask : BitVec 64) (data : Line)
    (s : State) : Outcome State Fault Refusal :=
  .next (s.brgRequest (64 + a.val) tag.toNat line.toNat (.writePtl (keepMv keepS) mask data false) false false)

/-- WRBACK (R365, R366). -/
def execWrback (a : Fin 16) (tag : BitVec 10) (line : BitVec 40) (keepS : Bool) (data : Line) (s : State) :
    Outcome State Fault Refusal :=
  .next (s.brgRequest (64 + a.val) tag.toNat line.toNat (.write (keepMv keepS) data false) false false)

/-- ATOMIC (R152, R361, R366): one that the atomic unit does not execute is refused. -/
def execAtomic (a : Fin 16) (tag : BitVec 10) (line : BitVec 40) (cred : Bool) (op : AtomicKind)
    (size : AtomicSize) (off : Fin 64) (x y : BitVec 128) (s : State) : Outcome State Fault Refusal :=
  let k := ReqKind.atomic op size.bytes off.val x y
  if atomicSupported op size && off.val % size.bytes == 0 then
    .next (s.brgRequest (64 + a.val) tag.toNat line.toNat k false cred)
  else .next (s.when (s.brgEnd (homeOf (lnPage line.toNat))).isSome (fun s =>
    s.brgTurn (64 + a.val) tag.toNat line.toNat k))

/-! ### Snoop responses -/

/-- The data of a snoop response is written in the tracker of the request that sent the snoop, ahead of it
(R146, R365, R367). -/
def State.snoopData (s : State) (a line : Nat) (keep : SnpKeep) (d : Line) : State :=
  let q := { s.ownReq line (.write (keepMv (keep == .s)) d false) .internal with who := .borage a, drop := true }
  let s := (s.withHome { s.home with queue := ahead q s.home.queue, nextId := s.home.nextId + 1 }).runLine line
  if keep == .e && s.coherent line then
    match s.sfGo line (.is .e [a]) with
    | some t => t
    | none => s
  else s

/-- A Borage agent answers a snoop (R367). -/
def State.snpAnswer (s : State) (ag line : Nat) (keep : SnpKeep) (data : Option Line) : State :=
  s.when (s.snooping ag line) (fun s =>
    let s := match data with
      | some d => s.snoopData ag line keep d
      | none => s
    s.answered ag line (keep != .i))

/-- SNPRSP (R367). -/
def execSnprsp (a : Fin 16) (line : BitVec 40) (keep : SnpKeep) (data : Option Line) (s : State) :
    Outcome State Fault Refusal :=
  .next (s.snpAnswer (64 + a.val) line.toNat keep data)

/-- A Borage agent delays the answer to a snoop (R147, R367). -/
def State.snpConflict (s : State) (ag line : Nat) : State :=
  s.when (s.snooping ag line) (fun s => s.emit (.conflictAck ag line))

/-- SNPCONFLICT (R147, R367). -/
def execSnpconflict (a : Fin 16) (line : BitVec 40) (s : State) : Outcome State Fault Refusal :=
  .next (s.snpConflict (64 + a.val) line.toNat)

/-- Borage raises an event source (R361, R370). -/
def State.brgEvent (s : State) (k payload : Nat) : State :=
  s.when (s.brgEnd 0).isSome (fun s =>
    s.raise { src := 704 + k, site := siteOfPage (chipletPage 12), detail := [payload] })

/-- EVTRAISE (R361, R370). -/
def execEvtraise (k : Fin 64) (payload : BitVec 64) (s : State) : Outcome State Fault Refusal :=
  .next (s.brgEvent k.val payload.toNat)

/-! ### BAR0 -/

/-- BAR0 of a logical device is present and contains a range (R368). -/
def State.bar0 (s : State) (ld off n : Nat) : Bool :=
  s.brg.present && (s.fwin ld).1 && decide (off + n ≤ 2 ^ (s.fwin ld).2)

/-- The 64-byte-aligned pieces of a BAR0 access: offset and length (R368). -/
def barPieces (off n : Nat) : List (Nat × Nat) :=
  (rangeLines off n).map (fun ln =>
    let lo := max off (64 * ln)
    (lo, min (off + n) (64 * ln + 64) - lo))

/-- Pieces wait for credits, and are sent as these allow (R354, R368). -/
def State.forward (s : State) (l : List FwdPiece) : State :=
  (State.pumpFwd (1024 + l.length) (s.withBrg { s.brg with fwdWait := s.brg.fwdWait ++ l })).fwdTimers

/-- The pieces of a logical device leave its Chervil on module C-S.(n mod 3) (R24, R368). -/
def State.carryPieces (s : State) (l ld slots : Nat) (n : Nat) : State :=
  (s.carry (19 + 3 * (l / 8) + ld % 3) (n * ceilDiv (1 + slots) 7))

/-- The Borage chiplet is in a reset, or has not been seen since its last one, while a logical device's window to it stands
(R368, R375). -/
def State.brgInReset (s : State) (ld off n : Nat) : Bool :=
  (s.brg.rst || (s.brg.recovers && !s.brg.present)) && !s.brg.filler && s.cfgBit brgPage 0x88 0 && (s.fwin ld).1 && decide (off + n ≤ 2 ^ (s.fwin ld).2)

/-- BAR0_WRITE (R368, R375, R490). -/
def execBar0Write (ld : Fin 64) (off : BitVec 40) (data : List Byte) (s : State) : Outcome State Fault Refusal :=
  match s.ioArrives ld.val with
  | none => .next s
  | some l =>
    let s := s.arriveOn l
    if s.groupFatal l then .next s
    else if !s.ioBars l ld.val || !(s.bar0 ld.val off.toNat data.length || s.brgInReset ld.val off.toNat data.length) then
      .next (s.sendUr l ld.val 0 off.toNat true)
    else
      let ps := barPieces off.toNat data.length
      let s := s.carryPieces l ld.val 9 ps.length
      if (s.brgEnd 0).isNone then .next (s.each ps (fun s _ => s.fwdFail ld.val))
      else .next (s.forward (ps.map (fun p => {
        ld := ld.val, off := p.1, len := 0, htag := 0, mask := BitVec.ofNat 64 ((2 ^ p.2 - 1) <<< (p.1 % 64)),
        data := BitVec.ofNat 512 (ofBytes ((data.drop (p.1 - off.toNat)).take p.2) <<< (8 * (p.1 % 64))),
        at_ := s.now })))

/-- BAR0_READ (R368, R490). -/
def execBar0Read (ld : Fin 64) (off : BitVec 40) (len : BitVec 13) (tag : Nat) (s : State) :
    Outcome State Fault Refusal :=
  match s.ioArrives ld.val with
  | none => .next s
  | some l =>
    let s := s.arriveOn l
    if s.groupFatal l then .next (s.toHost ld.val (.ca ld.val tag))
    else if !s.ioBars l ld.val || !s.bar0 ld.val off.toNat len.toNat then
      .next (s.sendUr l ld.val tag off.toNat false)
    else if (s.brgEnd 0).isNone then .next ((s.fwdFail ld.val).toHost ld.val (.ca ld.val tag))
    else .next ((s.carryPieces l ld.val 0 (barPieces off.toNat len.toNat).length).forward ((barPieces off.toNat len.toNat).map (fun p => {
      ld := ld.val, off := p.1, len := p.2, htag := tag, mask := 0, data := 0, at_ := s.now })))

/-- A forwarded read whose every piece is answered is completed (R368). -/
def State.fwdComplete (s : State) (ld htag : Nat) : State :=
  let mine := s.brg.fwd.filter (fun x => x.m.isNone && x.ld == ld && x.htag == htag)
  if mine.all (fun x => x.got.isSome) && s.brg.fwdWait.all (fun x => !(x.len != 0 && x.ld == ld && x.htag == htag)) then
    let sorted := mine.mergeSort (fun a b => decide (a.off ≤ b.off))
    let bytes := (sorted.map (fun x => ((lineBytes (x.got.getD 0)).drop (x.off % 64)).take x.len)).flatten
    (s.withBrg { s.brg with fwd := s.brg.fwd.filter (fun x => !mine.contains x) }).toHost ld (.ioData ld htag bytes false)
  else s

/-- A forwarded read that is not answered. -/
def State.fwdPending (s : State) (tag : Nat) : Option FwdReq :=
  s.brg.fwd.find? (fun x => x.tag == tag && x.m.isNone && x.got.isNone)

/-- Borage answers a forwarded read (R368): a late answer is discarded. -/
def State.fwdAnswer (s : State) (tag : Nat) (data : Line) (err : Bool) : State :=
  match s.fwdPending tag with
  | none => s
  | some x =>
    if err then s.fwdAbort x.ld x.htag true
    else
      let s := s.withBrg { s.brg with fwd := s.brg.fwd.map (fun y => if y = x then { y with got := some data } else y) }
      s.fwdComplete x.ld x.htag

/-- FWDRDDATA (R368). -/
def execFwdrddata (tag : BitVec 10) (data : Line) (err : Bool) (s : State) : Outcome State Fault Refusal :=
  .next (s.fwdAnswer tag.toNat data err)

/-- FWDRD_TIMEOUT (R368). -/
def execFwdrdTimeout (tag : BitVec 10) (s : State) : Outcome State Fault Refusal :=
  match s.fwdPending tag.toNat with
  | none => .next s
  | some x => .next ((s.reach (x.at_ + ms 1)).fwdAbort x.ld x.htag true)

/-- A message is a forwarded write of a logical device. -/
def Msg.fwdWrOf (ld : Nat) : Msg → Bool
  | .fwdWr n _ _ _ => n == ld
  | _ => false

/-- FWDWR_TIMEOUT (R368): of a write that a retirement has moved, the wait counts from the module's credit timer. -/
def execFwdwrTimeout (ld : Fin 64) (s : State) : Outcome State Fault Refusal :=
  match [15, 16, 17, 18].find? (fun e => (s.mod e).sendq.any (Msg.fwdWrOf ld.val)) with
  | some e =>
    let s := s.reach ((look? (s.mod e).waiting 0).elim 0 (· + ms 1))
    let s := (s.onMod e (fun k => { k with sendq := k.sendq.eraseP (Msg.fwdWrOf ld.val) })).fwdFail ld.val
    .next (State.pumpFwd 1024 (State.pump 256 e s)).fwdTimers
  | none =>
  match s.brg.fwdWait.find? (fun p => p.ld == ld.val) with
  | none => .next s
  | some p =>
    if p.len = 0 then
      let s := s.reach (p.at_ + ms 1)
      let s := (s.withBrg { s.brg with fwdWait := s.brg.fwdWait.erase p }).fwdFail ld.val
      .next (State.pumpFwd 1024 s).fwdTimers
    else .next s

/-! ### Faults and bring-up of Borage -/

/-- BRG_FLT_N_ASSERT (R371): class F at site B0.3. -/
def execBrgFltNAssert (s : State) : Outcome State Fault Refusal :=
  .next (s.when (!s.brg.filler && !s.brg.rst && !s.brg.fltN) (fun s =>
    (s.withBrg { s.brg with fltN := true }).faultP (chipletPage 12) 5 0))

/-- The class of a Borage fault frame; none: reserved (R371). -/
def brgClass (c : Nat) : Option Nat :=
  if c = 0 then some 1 else if c = 1 then some 2 else if c = 2 then some 3 else if c = 4 then some 5 else none

/-- BRG_FLT_FRAME (R371). -/
def execBrgFltFrame (f : BitVec 64) (s : State) : Outcome State Fault Refusal :=
  let v := f.toNat
  if s.brg.filler || s.brg.rst || bits v 60 4 != 5 then .next s
  else if popCount v 64 % 2 ≠ 0 then
    .next ((s.withBrg { s.brg with badFrames := satAdd 0xFFFF s.brg.badFrames 1 }).raise
      { src := 652, site := siteOfPage (chipletPage 12) })
  else
    let site := bits v 36 24
    match brgClass (bits v 33 3) with
    | some c =>
      if pgSlot (pageOfSite site) = 12 then .next (s.fault site c (bits v 17 16) (bits v 1 16) 0 false)
      else .next s
    | none => .next s

/-- BORAGE_BRINGUP_TIMEOUT (R302, R372): modules that have not come to ACTIVE within 100 ms are retired. -/
def execBorageBringupTimeout (s : State) : Outcome State Fault Refusal :=
  let late := [15, 16, 17, 18].filter (fun e => (s.mod e).st != .active && !(s.mod e).gone)
  if s.brg.filler || s.brg.rst || late == [] then .next s
  else
    let s := s.reach (s.brg.rstRel + ms 100)
    .next (s.each late (fun s e => s.fabricOp e (fun s => s.retireMod e .retired)))

/-- AGENT_SWEEP_END (R66, R67, R148, R373). -/
def execAgentSweepEnd (w : SweepOf) (s : State) : Outcome State Fault Refusal :=
  match w with
  | .link l => .next (s.when (s.link l.val).sweep.isSome (fun s => s.linkSwept l.val))
  | .agent a => .next (s.when (listed s.home.sweep a.val) (fun s => s.sweepDone [a.val]))
  | .borage => .next (s.when (brgAgents.any (listed s.home.sweep) || s.brg.held) (fun s => s.brgSwept))

end Sys2Proof.Machine
end

