-- ==== Sys2Proof/Machine/Faults.lean ====
section
/-! DEFINITION. Commands of the fault collector: frames, lanes, heartbeats, quiet periods, recoveries, its
command register and the stored counters (R461, R486-R497, R507, R509, R578). -/

namespace Sys2Proof.Machine

open Host (Outcome)

/-- The slots of the Ozquenko chiplets with a fault port into Dill (R486). -/
def portSlot (slot : Nat) : Bool := slot == 2 || slot == 4 || slot == 5 || (decide (8 ≤ slot) && decide (slot ≤ 11))

/-- The whole-value rule of site codes: below a field that holds its whole value every field holds its own (R29). -/
def wholeRule (c : Nat) : Bool :=
  let p := pageOfSite c
  (pgCluster p != 3 || pgSlice p == 15) && (pgSlice p != 15 || pgEngine p == 63) && (pgEngine p != 63 || c % 256 == 255)

/-- A site code that commands may name: an Ozquenko site, or, where a Borage chiplet is fitted, a code of slot 12 that
keeps R29 (R20, R27-R29, R36, R509, assumption 117). -/
def State.siteCode (s : State) (c : Nat) : Bool :=
  ozCode c || (!s.brg.filler && pgSlot (pageOfSite c) == 12 && wholeRule c)

/-- FATAL_LANE (R486, R490): the lane alone names no site below its chiplet. -/
def execFatalLane (slot : BitVec 4) (s : State) : Outcome State Fault Refusal :=
  .next (s.when (s.boot.aux && s.powered (chipletPage slot.toNat) && portSlot slot.toNat) (fun s =>
    s.faultP (chipletPage slot.toNat) 5 0))

/-- The number of a class (R507). -/
def classNo : FaultClass → Nat
  | .c => 1
  | .d => 2
  | .s => 3
  | .p => 4
  | .f => 5

/-- FAULT_FRAME (R486, R487, R493): the frame is acknowledged; Hyssop's come over its serial link. -/
def execFaultFrame (site : BitVec 24) (cls : FaultClass) (row col : BitVec 16) (cause : BitVec 8) (s : State) :
    Outcome State Fault Refusal :=
  let slot := pgSlot (pageOfSite site.toNat)
  if !s.boot.aux || !s.powered (pageOfSite site.toNat) || !ozCode site.toNat || (slot == 1 && s.hsc.linkLost) then .next s
  else .next ((s.fault site.toNat (classNo cls) row.toNat col.toNat cause.toNat false).emit (.laneAck slot))

/-- FRAME_CHECK_FAIL (R487): a frame of a chiplet, not of a reserved slot (R20). -/
def execFrameCheckFail (slot : BitVec 4) (s : State) : Outcome State Fault Refusal :=
  .next (s.when (s.boot.aux && ozSlot slot.toNat) (fun s =>
    (s.withFlt { s.flt with framesBad := satAdd 0xFFFF s.flt.framesBad 1 }).raiseAt 5 (chipletPage slot.toNat) 0))

/-- HEARTBEAT_LOSS (R488): the port is lost and its chiplet class F; of Hyssop's serial link, class S at H0.0.4. -/
def execHeartbeatLoss (slot : BitVec 4) (s : State) : Outcome State Fault Refusal :=
  let k := slot.toNat
  if !s.boot.aux then .next s
  else if k = 1 then .next (s.when (!s.hsc.linkLost) (fun s => s.faultP 0x113F 3 0))
  else if portSlot k && s.powered (chipletPage k) && !s.flt.laneLost.getLsbD k then
    let s := s.withFlt { s.flt with laneLost := s.flt.laneLost ||| BitVec.ofNat 16 (2 ^ k) }
    .next ((s.raiseAt 4 (chipletPage k) 0).faultP (chipletPage k) 5 0)
  else .next s

/-- SERIAL_LINK_RETURN (R488, R495). -/
def execSerialLinkReturn (s : State) : Outcome State Fault Refusal :=
  .next (s.onHsc (fun h => { h with linkLost := false }))

/-- The key of a record that a command names; none: the device record (R492). -/
def recKey : Option (BitVec 16) → Nat
  | some p => unitOf p.toNat
  | none => devRec

/-- QUIET_PERIOD_END (R494, R495): with AUTO_EXIT the unit's recovery runs. -/
def execQuietPeriodEnd (rec : Option (BitVec 16)) (s : State) : Outcome State Fault Refusal :=
  let u := recKey rec
  let r := s.frec u
  if r.active && !r.heldOut && s.cfgBit fcPage 0x80 3 && s.boot.aux then
    .next ((s.reach r.quietEnd).recoverRec u)
  else .next s

/-- RECOVERY_FAIL (R496). -/
def execRecoveryFail (rec : Option (BitVec 16)) (s : State) : Outcome State Fault Refusal :=
  let u := recKey rec
  .next (s.when ((s.frec u).active && !(s.frec u).heldOut && s.boot.aux) (fun s => s.recoveryFailed u))

/-! ### FC.CMD -/

/-- Set FC.CMD.RESULT. -/
def State.fcResult (s : State) (r : Nat) : State := s.withFlt { s.flt with result := r }

/-- FC.CMD EXIT of a site (R495). -/
def State.fcExitOp (s : State) (site : Nat) : State :=
  let u := s.recNamed site
  if !s.siteCode site then s.fcResult 3
  else if !(s.frec u).active || (s.frec u).heldOut then s.fcResult 2
  else (s.recoverRec u).fcResult 0

/-- FC.CMD RECOVER of a site (R496): a unit that is held out returns; of the device record it acts as RST.CTRL
OP 4. -/
def State.fcRecoverOp (s : State) (m : Master) (site : Nat) : State :=
  let u := s.recNamed site
  if !s.siteCode site then s.fcResult 3
  else if !(s.frec u).active || !(s.frec u).heldOut then s.fcResult 2
  else if u = devRec then (s.rstOp m 4).fcResult 0
  else (s.recoverRec u).fcResult 0

/-- FC.CMD INJECT of a class at a site (R578). -/
def State.fcInjectOp (s : State) (cls site : Nat) : State :=
  if !s.cfgBit fcPage 0x80 4 then s.fcResult 1
  else if !s.siteCode site then s.fcResult 3
  else if cls = 0 ∨ 5 < cls then s.fcResult 2
  else (s.fault site cls 0xFFFF 0xFFFF 0xFF true).fcResult 0

/-- Effect of a write of FC.CMD (R509): OP 1 EXIT, 2 RECOVER, 3 INJECT with the CLASS that the register holds. -/
def State.fcCmd (s : State) (m : Master) (op : Nat) : State :=
  let site := s.cfg fcPage 0x98 0 24
  if op = 1 then s.fcExitOp site
  else if op = 2 then s.fcRecoverOp m site
  else if op = 3 then s.fcInjectOp (s.cfg fcPage 0x94 3 3) site
  else s

/-- A write of CMDARG.SITE and then of FC.CMD by a master (R509). -/
def State.writeFc (s : State) (m : Master) (op cls : Nat) (site : BitVec 24) : State :=
  (s.gate m (fcPage * 4096 + 0x98) (site.zeroExtend 32) id).gate m (fcPage * 4096 + 0x94)
    (BitVec.ofNat 32 (op + 8 * cls)) (fun s => s.fcCmd m op)

/-- FC_EXIT (R495, R509). -/
def execFcExit (m : Master) (site : BitVec 24) (s : State) : Outcome State Fault Refusal :=
  .next (s.writeFc m 1 (s.cfg fcPage 0x94 3 3) site)

/-- FC_RECOVER (R496, R509). -/
def execFcRecover (m : Master) (site : BitVec 24) (s : State) : Outcome State Fault Refusal :=
  .next (s.writeFc m 2 (s.cfg fcPage 0x94 3 3) site)

/-- FC_INJECT (R509, R578). -/
def execFcInject (m : Master) (cls : BitVec 3) (site : BitVec 24) (s : State) : Outcome State Fault Refusal :=
  .next (s.writeFc m 3 cls.toNat site)

/-- Set an inactive record to zeros (R507). -/
def State.clearRec (s : State) (u : Nat) : State := s.when (!(s.frec u).active) (fun s => s.setRec u {})

/-- FREC_CLEAR (R507): a write of FREC5.CLEAR of a page. -/
def execFrecClear (m : Master) (page : BitVec 16) (s : State) : Outcome State Fault Refusal :=
  .next (s.gate m (page.toNat * 4096 + 0x3C) (BitVec.ofNat 32 (2 ^ 24)) (fun s => s.clearRec (unitOf page.toNat)))

/-- RECOVERY_COUNTER_STORE (R461, R497): each recovery counter that has changed is stored, once per hour. -/
def execRecoveryCounterStore (s : State) : Outcome State Fault Refusal :=
  .next (s.when (s.boot.aux && !s.flt.rcntDirty.isEmpty) (fun s =>
    let s := s.reach (s.flt.rcntAt + sec 3600)
    (s.withFlt { s.flt with rcntAt := s.now }).storeRcnt))

/-- The training of a channel in its Lovage's recovery reset ends: the channel goes back to where it was, or trains on at a
lower speed as one that returns to service (R174, R435). -/
def State.rerunEnd (s : State) (c : Nat) (r : TrainResult) : State :=
  let old := ((s.chan c).rerun).getD .active
  let s := s.onChan c (fun ch => { ch with rerun := none, rerunDone := true })
  match r with
  | .ok => s.onChan c (fun ch => { ch with st := old, step := 6 })
  | .failed at_ => (s.onChan c (fun ch => { ch with returning := true })).chanFailed c (3 + at_.val)

/-- CHANNEL_TRAINING_END (R174, R201): a failure names its step. A hard repair that still runs is ended
first, since it runs only while the channel serves no request (R198). -/
def execChannelTrainingEnd (c : Fin 16) (r : TrainResult) (s : State) : Outcome State Fault Refusal :=
  .next (s.when ((s.chan c.val).st == .training && (s.chan c.val).job != some .hard) (fun s =>
    if (s.chan c.val).rerun.isSome then (s.rerunEnd c.val r).resetGoesOn (8 + c.val / 4)
    else match r with
    | .ok => s.chanTrained c.val
    | .failed at_ => s.chanFailed c.val (3 + at_.val)))

end Sys2Proof.Machine
end

