-- ==== Sys2Proof/Machine/Logs.lean ====
section
/-! DEFINITION. Commands of the event router and the event log writer: raises, the log ring, pending and enable
bits, and routes (R467, R500-R504, R508, R510). -/

namespace Sys2Proof.Machine

open Host (Outcome)

/-- LOG_RECORD_WRITE (R467, R502): at most 4,000,000 records per second; the first waiting record enters the ring, over the oldest one where it is
full, and its event is delivered. -/
def execLogRecordWrite (s : State) : Outcome State Fault Refusal :=
  match s.evt.queue with
  | [] => .next s
  | w :: rest =>
    if !s.boot.aux then .next s
    else
      let s := match s.evt.wroteAt with
        | some t => s.reach (t + 250)
        | none => s
      let s := s.withEvt { s.evt with
        wroteAt := some s.now, queue := rest, ring := enter w.rec_ s.evt.ring s.evt.wptr, wptr := (s.evt.wptr + 1) % 65536 }
      .next (s.deliverAll w.rec_ w.dest)

/-- EVENT_RAISE (R500, R502): a source is raised; a reserved one never rises. -/
def execEventRaise (src : BitVec 10) (why : EventCause) (s : State) : Outcome State Fault Refusal :=
  .next (s.when s.boot.aux (fun s => s.raise {
    src := src.toNat, site := why.site.toNat, subject := why.subject.toNat, code := why.code.toNat,
    ld := why.ld.map (·.val) }))

/-- The window offset of an event word: EVT_STATUS or PEND, EVT_ENABLE or EN (R508, R510). -/
def evtOffset (w : EvtWhere) (enable : Bool) : Nat :=
  match w with
  | .owner p => p.toNat * 4096 + (if enable then 0x18 else 0x14)
  | .evr k => evrPage * 4096 + (if enable then 0x180 else 0x100) + 4 * k.val

/-- The block of 32 sources of an event word; none: the page owns no block (R501). -/
def evtBlock : EvtWhere → Option Nat
  | .owner p => ownedBlock p.toNat
  | .evr k => some k.val

/-- Clear the pending bits that a word names in a block (R502). -/
def State.clearPend (s : State) (b : Nat) (v : Word) : State :=
  s.withEvt { s.evt with pend := s.evt.pend &&& ~~~(BitVec.ofNat 768 (v.toNat <<< (32 * b))) }

/-- The record that a delivery on enabling carries: the last one logged for the source, or one without a cause. -/
def State.lastRec (s : State) (k : Nat) : LogRec :=
  let all := s.evt.queue.map (·.rec_) ++ s.evt.ring.map (·.2)
  let mine := all.filter (fun r => r.source == k)
  (mine.foldl (fun (a : Option LogRec) r =>
    match a with
    | none => some r
    | some b => if b.seq < r.seq then some r else a) none).getD
    { seq := 0, time := s.now, source := k, fault := false, retained := false, dropped := false,
      node := s.cfg (poolPage 0) 0x80 0 16, site := 0, cls := 0, subject := 0, detail := [], code := 0, ld := none }

/-- A pending source is delivered once on enabling: where its last record still waits for the log writer, once that record is
in the ring (R502). -/
def State.deliverLate (s : State) (k : Nat) : State :=
  let r := s.lastRec k
  if s.evt.queue.any (fun w => w.rec_ == r) then
    s.withEvt { s.evt with queue := s.evt.queue.map (fun w =>
      if w.rec_ = r then { w with dest := w.dest ++ [s.routeOf k] } else w) }
  else s.deliver r (s.routeOf k)

/-- Set the enable bits of a block: a source newly enabled while it is pending is delivered once; a reserved one
stays as it is (R500, R502). -/
def State.setEnables (s : State) (b : Nat) (v : Word) : State :=
  s.each (upTo 32) (fun s k =>
    let src := 32 * b + k
    if !definedSource src || s.evEnabled src == v.getLsbD k then s
    else
      let s := s.withEvt { s.evt with enFlip := s.evt.enFlip ^^^ BitVec.ofNat 768 (2 ^ src) }
      s.when (v.getLsbD k && s.evt.pend.getLsbD src) (fun s => s.deliverLate src))

/-- Clear pending bits of a block, where there is one (R502, R510). -/
def State.clearAt (s : State) (b : Option Nat) (v : Word) : State :=
  match b with
  | some b => s.clearPend b v
  | none => s

/-- Set the enable bits of a block, where there is one (R502, R510). -/
def State.enableAt (s : State) (b : Option Nat) (v : Word) : State :=
  match b with
  | some b => s.setEnables b v
  | none => s

/-- EVT_STATUS_CLEAR (R502, R508, R510). -/
def execEvtStatusClear (m : Master) (at_ : EvtWhere) (bits : Word) (s : State) : Outcome State Fault Refusal :=
  .next (s.gate m (evtOffset at_ false) bits (fun s => s.clearAt (evtBlock at_) bits))

/-- EVT_ENABLE_WRITE (R502, R508, R510). -/
def execEvtEnableWrite (m : Master) (at_ : EvtWhere) (bits : Word) (s : State) : Outcome State Fault Refusal :=
  .next (s.gate m (evtOffset at_ true) bits (fun s => s.enableAt (evtBlock at_) bits))

/-- Set the route of one of the 768 sources (R500, R503, R508). -/
def State.setRoute (s : State) (k : Nat) (r : BitVec 14) : State :=
  s.when (decide (k < 768)) (fun s => s.withEvt { s.evt with route := put (routeReset k) s.evt.route k r })

/-- A write of EVT_ROUTE of an owner page: the owned source INDEX takes the route and is selected (R508). -/
def State.ownRoute (s : State) (p : Nat) (v : Nat) : State :=
  match ownedBlock p with
  | none => s
  | some b =>
    (s.withEvt { s.evt with sel := put 0 s.evt.sel p (bits v 0 5) }).setRoute (32 * b + bits v 0 5)
      (BitVec.ofNat 14 (bits v 5 14))

/-- EVT_ROUTE_WRITE (R508). -/
def execEvtRouteWrite (m : Master) (page : BitVec 16) (val : BitVec 19) (s : State) : Outcome State Fault Refusal :=
  .next (s.gate m (page.toNat * 4096 + 0x1C) (val.zeroExtend 32) (fun s => s.ownRoute page.toNat val.toNat))

/-- A write of EVR.ROUTE: the route of the source in RIDX (R510). -/
def State.evrRoute (s : State) (v : BitVec 14) : State := s.setRoute (s.cfg evrPage 0x80 0 10) v

/-- EVR_ROUTE_WRITE (R508, R510). -/
def execEvrRouteWrite (m : Master) (val : BitVec 14) (s : State) : Outcome State Fault Refusal :=
  .next (s.gate m (evrPage * 4096 + 0x84) (val.zeroExtend 32) (fun s => s.evrRoute val))

end Sys2Proof.Machine
end

