-- ==== Sys2Proof/Machine/MoverOps.lean ====
section
/-! DEFINITION. Commands of the data mover: fetching descriptors, the nine operations, completion records,
aborts and enables (R312-R331, R334-R336). -/

namespace Sys2Proof.Machine

open Host (Outcome)

/-! ### Queues -/

/-- The fetch of a descriptor that is in progress is abandoned (R331). -/
def State.dropRing (s : State) (q : Nat) : State :=
  ((s.onQueue q (fun d => { d with ring := none })).onLd q (fun d => { d with
    reads := d.reads.filter (fun r => !(r.queue == q && r.ix == ringIx)) })).pumpReads q

/-- Effect of a write of a queue's DMQ.CFG: EN enables a disabled queue; EN = 0 disables it (R331, R336). -/
def State.dmqConfigured (s : State) (q : Nat) : State :=
  let en := s.dmqGet q 0 0 1 == 1
  let st := (s.queue q).st
  if en && st == 0 then s.onQueue q (fun d => { d with st := 1, cause := 0 })
  else if !en && st != 0 then (s.dropRing q).onQueue q (fun d => { d with st := 0, cause := 0, abort := none })
  else s

/-- The descriptors of a queue that have not ended end with ABORTED, and the queue stops once every record is
written (R330). -/
def State.dmqAborted (s : State) (q : Nat) : State :=
  if (s.queue q).st ≠ 1 ∨ (s.queue q).abort.isSome then s
  else
    let s := s.each (((s.queue q).run.filter (fun d => !d.ended)).map (·.ix)) (fun s ix =>
      s.endDesc q ix (fun d => { d with status := 16 }))
    let s := s.onQueue q (fun d => { d with abort := some s.now })
    if (s.queue q).run.isEmpty then s.haltQueue q 3 else s

/-- A write of a register of a queue's block by a master, with its effect. -/
def State.dmqWrite (s : State) (m : Master) (q x : Nat) (v : Word) (act : State → State) : State :=
  match s.dmqBlock q with
  | some b => s.gate m (b + x) v act
  | none => s

/-- DMQ_TAIL_WRITE (R313): TAIL is stored. -/
def execDmqTailWrite (m : Master) (q : Fin 64) (tail : BitVec 16) (s : State) : Outcome State Fault Refusal :=
  .next (s.dmqWrite m q.val 0x10 (tail.zeroExtend 32) id)

/-- DMQ_ABORT (R330). -/
def execDmqAbort (m : Master) (q : Fin 64) (s : State) : Outcome State Fault Refusal :=
  .next (s.dmqWrite m q.val 0x18 1 (fun s => s.dmqAborted q.val))

/-- DMQ_ENABLE (R331, R336): a write of DMQ.CFG. -/
def execDmqEnable (m : Master) (q : Fin 64) (v : Word) (s : State) : Outcome State Fault Refusal :=
  .next (s.dmqWrite m q.val 0 v (fun s => s.dmqConfigured q.val))

/-- The data mover serves a queue: Sorrel works, the queue's link is up with CXL negotiated, and its function is not being
reset (R78, R312). -/
def State.dmServes (s : State) (q : Nat) : Bool :=
  s.sorrelUp && (s.ld q).flr.isNone && ((s.linkOf q).any (fun l => (s.link l).live && (s.link l).cxl))

/-- DM.CFG.MAX_RUN; 0 and 5-7 act as 4 (R335). -/
def State.maxRun (s : State) : Nat :=
  let n := s.cfg dmPage 0x80 1 3
  if 1 ≤ n ∧ n ≤ 4 then n else 4

/-- A fetched descriptor starts, or ends at once as invalid; HEAD advances past it (R315, R317). -/
def State.startDesc (s : State) (q head : Nat) (raw : BitVec 512) : State :=
  let ok := dValid raw
  let d : Desc := {
    ix := head, raw := raw, ended := !ok, status := if ok then 0 else 13, flags := 0, crc := 0, cons := 0,
    prod := 0, token := 0, offset := 0, count := 0, buf := [],
    want := if ok && (s.dmPermit q raw).isNone then dWant raw else [], flushing := false }
  let s := s.dmqSet q 0x14 0 16 ((head + 1) % 2 ^ s.dmqGet q 0 2 4)
  let s := s.onQueue q (fun u => { u with run := u.run ++ [d], ring := none })
  (s.when (!ok) (fun s => s.descEvent q head)).issueReads readFuel q head

/-- A queue has a descriptor that may be fetched (R313, R315, R330). -/
def State.dmReady (s : State) (q : Nat) : Bool :=
  let u := s.queue q
  s.dmServes q && !s.onHold dmPage && s.cfgBit dmPage 0x80 0 && u.st == 1 && u.abort.isNone &&
    s.dmqGet q 0x14 0 16 != s.dmqGet q 0x10 0 16 && decide (u.run.length < s.maxRun)

/-- A queue has had its share of the round: 4 KiB for each unit of DMQ.CFG.WEIGHT, of which 0 acts as 1 (R315, R336;
assumption 141). -/
def State.dmSpent (s : State) (q : Nat) : Bool :=
  decide (4096 * max 1 (s.dmqGet q 0 6 4) ≤ (s.queue q).round)

/-- A queue's turn in the weighted round robin: its share of the round is left, or that of no queue with work is, and a new
round begins (R315). -/
def State.dmTurn (s : State) (q : Nat) : Option State :=
  if !s.dmSpent q then some s
  else if (upTo 64).any (fun k => s.dmReady k && !s.dmSpent k) then none
  else some (s.withDm (s.dm.map (fun e => (e.1, { e.2 with round := 0 }))))

/-- The address of the descriptor at HEAD (R313). -/
def State.ringAt (s : State) (q head : Nat) : Nat := s.dmqGet q 8 0 32 + 2 ^ 32 * s.dmqGet q 0xC 0 32 + 64 * head

/-- The fetch from a host ring: its read is sent once it may be, and the completion may come with the command (R71, R313). -/
def State.ringFetch (s : State) (q head : Nat) (host : Option (BitVec 512)) : State :=
  let s := match (s.queue q).ring with
    | some _ => s
    | none => match s.issueOne q ringIx (s.ringAt q head) 64 with
      | some r => r.1.onQueue q (fun u => { u with ring := some (.waiting []) })
      | none => s
  match host, (s.queue q).ring with
  | some raw, some (.waiting _) =>
    (s.onQueue q (fun u => { u with ring := some (.got (some raw)) })).onLd q (fun d => { d with
      reads := d.reads.filter (fun r => !(r.queue == q && r.ix == ringIx)) })
  | _, _ => s

/-- The 64 bytes of a descriptor, none where the fetch failed, once they are there: from a host ring they are a read of host
memory, from a device ring they are read through the home slice (R313-R315, R331). -/
def State.descBytes (s : State) (q head : Nat) (host : Option (BitVec 512)) : State × Option (Option (BitVec 512)) :=
  let a := s.ringAt q head
  if s.dmqGet q 0 1 1 = 0 then
    let s := s.ringFetch q head host
    match (s.queue q).ring with
    | some (.got raw) => (s, some raw)
    | _ => (s, none)
  else
    match (if oneExtent a 64 then s.dmRange q a 64 (s.dmqGet q 0 10 16) else some 7) with
    | some st => (s.when (st == 8) (fun s => s.staleHandle (a / 2 ^ 28) q), some none)
    | none =>
      let key := dmKey q ringIx
      if !s.unitsUp (a / 64) then (s, some none)
      else
        let s := if (s.fetchedLine key (a / 64)).isSome || s.dmPending key (a / 64) 0 then s
          else s.dmRequest key (a / 64) (.read .none) 0
        match s.fetchedLine key (a / 64) with
        | none => (s, none)
        | some v => (s.withHome { s.home with
            fetched := s.home.fetched.filter (fun f => f.who != .dm key) }, some v)

/-- DESCRIPTOR_FETCH (R313-R315, R331): in the queue's turn. Of a host ring the read is sent; `host` is its completion where it
comes with the command, which is else a REQUESTER_COMPLETION. -/
def execDescriptorFetch (q : Fin 64) (host : Option (BitVec 512)) (s : State) : Outcome State Fault Refusal :=
  let q := q.val
  let head := s.dmqGet q 0x14 0 16
  if !s.dmReady q then .next s
  else match s.dmTurn q with
    | none => .next s
    | some s =>
      let got := s.descBytes q head host
      match got.2 with
      | none => .next got.1
      | some none => .next (got.1.haltQueue q 1)
      | some (some raw) =>
        if dBit raw 4 && !(s.queue q).run.isEmpty then .next got.1 else .next (got.1.startDesc q head raw)

/-! ### What the operations share -/

/-- An operation of a descriptor that runs and whose operands are permitted (R312, R318). -/
def State.dmOp (s : State) (q ix op : Nat) (work : Desc → State) : State :=
  match s.desc q ix with
  | none => s
  | some d =>
    if d.ended || d.flushing || dOp d.raw != op || !s.dmServes q then s
    else match s.dmPermit q d.raw with
      | some st => s.failDesc q ix st d.prod
      | none => work d

/-- The source bytes of an operation, from TOKEN on where it resumes, or how it waits or ends without them (R322, R331). -/
def State.withSource (s : State) (q : Nat) (d : Desc) (work : State → List (Option Byte) → State) : State :=
  let r := s.operand q d (dSrcSp d.raw) (dSrc d.raw + dFrom d.raw) (dSrcLen d.raw - dFrom d.raw)
  match r.2 with
  | .wait => r.1
  | .unit off => r.1.failDesc q d.ix 15 (dFrom d.raw + off)
  | .bytes b => work r.1 b

/-- Where some bytes of a range cannot be written: the offset of the first line of a device range that needs a unit out of
service (R331). -/
def State.putOut (s : State) (sp : Bool) (a n : Nat) : Option Nat := if sp then s.outAt a n else none

/-- Some bytes of a range can be written. -/
def State.putUp (s : State) (sp : Bool) (a n : Nat) : Bool := (s.putOut sp a n).isNone

/-- Work that writes a range, or the end of the descriptor where a unit that it needs is out of service (R331). -/
def State.withRoom (s : State) (q : Nat) (d : Desc) (n : Nat) (work : State) : State :=
  match s.putOut (dDstSp d.raw) (dDst d.raw) n with
  | some off => s.failDesc q d.ix 15 off
  | none => work

/-- The poisoned lines of a source: the offset of the first poisoned byte of each 64-byte line (R325). -/
def poisonedLines (a : Nat) (b : List (Option Byte)) : List Nat :=
  (rangeLines a b.length).filterMap (fun ln =>
    let lo := max a (64 * ln) - a
    let hi := min (a + b.length) (64 * ln + 64) - a
    ((upTo (hi - lo)).find? (fun k => (b.getD (lo + k) none).isNone)).map (fun k => lo + k))

/-- The bytes before the first poisoned one. -/
def goodBytes (b : List (Option Byte)) : List Byte := (b.takeWhile Option.isSome).map (·.getD 0)

/-- An ended operation that computes a CRC: CRC_CHK compares it on success (R320, R324); one that ends early has the CRC of what
it processed (assumption 160). -/
def crcEnd (d : Desc) (crc : Word) (st : Nat) : Desc :=
  let bad := st == 1 && dBit d.raw 9 && crc != BitVec.ofNat 32 (dBytes d.raw 52 4)
  { d with status := if bad then 4 else st, flags := d.flags ||| 2, crc := crc }

/-- Set the token of a resumable end: CONS and the CRC so far (R322). -/
def resumable (d : Desc) (cons : Nat) (crc : Word) : Desc :=
  { d with flags := d.flags ||| 1, token := cons + 2 ^ 32 * crc.toNat }

/-! ### Copy, fill, compare, CRC -/

/-- DM_COPY (R325). -/
def execDmCopy (q : Fin 64) (ix : BitVec 16) (s : State) : Outcome State Fault Refusal :=
  .next (s.dmOp q.val ix.toNat 1 (fun d =>
    s.withSource q.val d (fun s b =>
      let n := dLen d.raw
      let bad := poisonedLines (dSrc d.raw) b
      s.withRoom q.val d n
        (((s.dmPut q.val d.ix (dDstSp d.raw) (dDst d.raw) b).moved q.val n).endDesc q.val d.ix (fun d => { d with
          status := if bad.isEmpty then 1 else 6, cons := n, prod := n, count := bad.length,
          offset := bad.headD 0 })))))

/-- DM_FILL (R317). -/
def execDmFill (q : Fin 64) (ix : BitVec 16) (s : State) : Outcome State Fault Refusal :=
  .next (s.dmOp q.val ix.toNat 2 (fun d =>
    let n := dLen d.raw
    let pat := toBytes 8 (dSrc d.raw)
    let b := (upTo n).map (fun k => some (pat.getD (k % 8) 0))
    s.withRoom q.val d n
      (((s.dmPut q.val d.ix (dDstSp d.raw) (dDst d.raw) b).moved q.val n).endDesc q.val d.ix
        (fun d => { d with status := 1, prod := n }))))

/-- The first index at which two operands are poisoned or differ. -/
def firstDiff : List (Option Byte) → List (Option Byte) → Nat → Option (Nat × Bool)
  | x :: xs, y :: ys, k =>
    if x.isNone || y.isNone then some (k, true)
    else if x ≠ y then some (k, false)
    else firstDiff xs ys (k + 1)
  | _, _, _ => none

/-- DM_COMPARE (R317, R320, R325): CONS of one that ends early is the offset at which it ends (assumption 76). -/
def execDmCompare (q : Fin 64) (ix : BitVec 16) (s : State) : Outcome State Fault Refusal :=
  .next (s.dmOp q.val ix.toNat 3 (fun d =>
    s.withSource q.val d (fun s a =>
      let r := s.operand q.val d (dDstSp d.raw) (dDst d.raw) (dLen d.raw)
      match r.2 with
      | .wait => r.1
      | .unit off => r.1.failDesc q.val d.ix 15 off
      | .bytes b =>
        let s := r.1.moved q.val (dLen d.raw)
        match firstDiff a b 0 with
        | none => s.endDesc q.val d.ix (fun d => { d with status := 1, cons := dLen d.raw })
        | some (k, bad) => s.endDesc q.val d.ix (fun d => { d with
            status := if bad then 6 else 2, cons := k, offset := k }))))

/-- DM_CRC (R317, R322): with RESUME from TOKEN's offset and CRC. -/
def execDmCrc (q : Fin 64) (ix : BitVec 16) (s : State) : Outcome State Fault Refusal :=
  .next (s.dmOp q.val ix.toNat 4 (fun d =>
    s.withSource q.val d (fun s b =>
      let good := goodBytes b
      let crc := crcMore (dCrc0 d.raw) good
      let done := dFrom d.raw + good.length
      let s := s.moved q.val good.length
      if good.length < b.length then
        s.endDesc q.val d.ix (fun d => { crcEnd d crc 6 with cons := done, offset := done })
      else s.endDesc q.val d.ix (fun d => { crcEnd d crc 1 with cons := done }))))

/-! ### Compress and decompress -/

/-- A chain buffer's address and length, and the status with which it is refused (R318, R323). -/
def State.chainBuf (s : State) (q : Nat) (sp : Bool) (d : List Byte) (k : Nat) : Nat × Nat × Option Nat :=
  let e := chainEntry sp d k
  let st :=
    if !sp || e.2.2 == 0 then none
    else if !oneExtent e.1 e.2.2 then some 13
    else s.dmRange q e.1 e.2.2 e.2.1
  (e.1, e.2.2, st)

/-- Write the counts of a chain's entries: the bytes placed in each (R323). -/
def State.putCounts (s : State) (q : Nat) (d : Desc) (n : Nat → Nat) : State :=
  (s.each (upTo (dChain d.raw)) (fun s k =>
    s.dmPut q d.ix (dDstSp d.raw) (dAux0 d.raw + 16 * k + 12) ((toBytes 4 (n k)).map some))).onDesc q d.ix
    (fun d => { d with counted := true })

/-- Write what the output buffers received and the chain's counts (R322, R323). -/
def State.putOutput (s : State) (q : Nat) (d : Desc) (addrs : List Nat) (got : List (List Byte)) : State :=
  let sp := dDstSp d.raw
  let s := s.each (addrs.zip got) (fun s e =>
    s.when (!e.2.isEmpty) (fun s => s.dmPut q d.ix sp e.1 (e.2.map some)))
  s.putCounts q d (fun k => (got.getD (k + 1) []).length)

/-- The output of a descriptor: whole items go to DST and then to the chain (R322, R323). Answers the state
once they are written, how many items were placed, the bytes produced, and the status at which output ends
early: 3 where no buffer takes the next item, else the refusal of a chain buffer, whose stale GEN raises STALE_HANDLE
(R318), or 15 where its units do not serve. -/
def State.output (s : State) (q : Nat) (d : Desc) (chain : List Byte) (items : List (List Byte)) :
    State × Nat × Nat × Option Nat :=
  let sp := dDstSp d.raw
  let bufs := (upTo (dChain d.raw)).map (s.chainBuf q sp chain)
  let lens := dLimit d.raw :: bufs.map (fun b => b.2.1)
  let addrs := dDst d.raw :: bufs.map (·.1)
  let fuel := items.length + lens.length + 1
  let all := placeItems fuel lens 0 items
  let stop := (upTo lens.length).find? (fun k =>
    !(all.1.getD k []).isEmpty &&
      ((k != 0 && (bufs.getD (k - 1) (0, 0, none)).2.2.isSome) ||
        !s.putUp sp (addrs.getD k 0) (all.1.getD k []).length))
  match stop with
  | some k =>
    let r := placeItems fuel (lens.take k) 0 items
    let st := if k = 0 then some 15 else some ((bufs.getD (k - 1) (0, 0, none)).2.2.getD 15)
    let s := s.when (st == some 8) (fun s => s.staleHandle (addrs.getD k 0 / 2 ^ 28) q)
    (s.putOutput q d addrs r.1, r.2, (r.1.map List.length).sum, st)
  | none =>
    (s.putOutput q d addrs all.1, all.2, (all.1.map List.length).sum,
      if all.2 < items.length then some 3 else none)

/-- The bytes of a descriptor's chain; empty where it has none. -/
def State.withChain (s : State) (q : Nat) (d : Desc) (work : State → List Byte → State) : State :=
  if dChainLen d.raw = 0 then work s []
  else
    let r := s.operand q d (dDstSp d.raw) (dAux0 d.raw) (dChainLen d.raw)
    match r.2 with
    | .wait => r.1
    | .unit off => r.1.failDesc q d.ix 15 off
    | .bytes b =>
      match b.findIdx? Option.isNone with
      | some off => r.1.failDesc q d.ix 6 off
      | none => work r.1 (b.map (·.getD 0))

/-- End a compress or decompress: `st` 3, 5, 6, 7, 8, 13 or 15 stopped it, with the offset of the failing
byte; else it is done (R320, R322, R324). -/
def State.endStream (s : State) (q ix cons prod : Nat) (crc : Word) (st : Option Nat) (off : Nat) : State :=
  s.endDesc q ix (fun d =>
    let d := { crcEnd d crc (st.getD 1) with cons := cons, prod := prod, offset := off }
    if st = some 3 then resumable d cons crc else d)

/-- Parcels coded for a queue's logical device (R465). -/
def State.coded (s : State) (q n : Nat) : State :=
  s.withMgmt { s.mgmt with actCmp := edit 0 s.mgmt.actCmp q (· + n) }

/-- A descriptor ends with ENGINE_FAULT: its record carries the last whole parcel's TOKEN (R243, R331). -/
def State.engineFailed (s : State) (q : Nat) (d : Desc) : State :=
  s.endDesc q d.ix (fun d =>
    resumable { d with status := 11, flags := 2, crc := dCrc0 d.raw, cons := dFrom d.raw, offset := dFrom d.raw }
      (dFrom d.raw) (dCrc0 d.raw))

/-- A compression engine that takes a descriptor's work, or the end of the descriptor where it is out of service (R243,
R331). -/
def State.onEngine (s : State) (q : Nat) (d : Desc) (e : Nat) (work : State) : State :=
  if (s.eng e).avail then
    (if s.engineIdle e then s else if s.engineDown e then s.callEngine e else work.engineUsed e)
  else s.engineFailed q d

/-- DM_COMPRESS (R235, R317, R322-R325): a self-verify mismatch takes the engine out of service and ends the descriptor as an
engine fault (R241, R243). -/
def execDmCompress (q : Fin 64) (ix : BitVec 16) (e : CompressRun) (s : State) : Outcome State Fault Refusal :=
  .next (s.dmOp q.val ix.toNat 5 (fun d =>
    s.onEngine q.val d e.engine.val (s.withSource q.val d (fun s b => s.withChain q.val d (fun s chain =>
      if s.verifies e.engine.val && e.mismatch then (s.engineFailed q.val d).verifyFail e.engine.val 0 else
      let from_ := dFrom d.raw
      let good := goodBytes b
      let bad := good.length < b.length
      let ins := pieces (good.length + 1) (if bad then good.take (good.length / 1024 * 1024) else good)
      let r := s.output q.val d chain (ins.map encode)
      let used := (ins.take r.2.1).flatten
      let crc := crcMore (dCrc0 d.raw) used
      let st := r.2.2.2.or (if bad then some 6 else none)
      let cons := from_ + used.length
      let off := if st = some 6 then from_ + good.length else cons
      let s := r.1.compressed e.engine.val (ceilDiv used.length 4096)
      let s := (s.count (engPage e.engine.val) 0x10 r.2.1).moved q.val used.length
      let s := s.coded q.val r.2.1
      s.endStream q.val d.ix cons r.2.2.1 crc st off)))))

/-- DM_DECOMPRESS (R233, R317, R322-R325): with RESUME the stream goes on at TOKEN's offset (assumption 151). -/
def execDmDecompress (q : Fin 64) (ix : BitVec 16) (e : Fin 16) (s : State) : Outcome State Fault Refusal :=
  .next (s.dmOp q.val ix.toNat 6 (fun d =>
    s.onEngine q.val d e.val (s.withSource q.val d (fun s b => s.withChain q.val d (fun s chain =>
      let from_ := dFrom d.raw
      let r := decodeStream (b.length + 2) b (originalLeft d.raw b) from_
      let outs := r.1.map (·.1)
      let w := s.output q.val d chain outs
      let orig := (outs.take w.2.1).flatten
      let crc := crcMore (dCrc0 d.raw) orig
      let cons := ((r.1.map (·.2)).getD (w.2.1 - 1) from_)
      let cons := if w.2.1 = 0 then from_ else cons
      let st := w.2.2.2.or (r.2.map (fun f => if f.1 then 6 else 5))
      let off := if w.2.2.2.isSome then cons else (r.2.map (·.2)).getD 0
      let s := (w.1.count (engPage e.val) 0x11 w.2.1).moved q.val (cons - from_)
      let s := s.coded q.val w.2.1
      s.endStream q.val d.ix cons w.2.2.1 crc st off)))))

/-! ### Zero and reseal -/

/-- A page becomes zero lines with fresh tags on a frame; what its entry held before is given back (R280, R326). -/
def State.resealOn (s : State) (p : Nat) (e : PageEntry) (i f : Nat) : State :=
  let s := if e.st == .compressed || e.st == .rawInBin then s.giveBack p e else s
  let s := s.nextMajor p
  let s := s.withMem { s.mem with zeroFill := enter (BitVec.ofNat 64 (2 ^ 64 - 1)) s.mem.zeroFill p }
  let s := s.setEntry p (fun e => { e with st := .near, set := i, loc := f, crc := 0, binsize := 0, plen := [] })
  s.runPage p

/-- Reseal a page in any state to a near page of 64 zero lines under the next MAJOR (R280, R326). Answers
false, and leaves the page as it was, where no frame is permitted. -/
def State.zeroReseal (s : State) (p : Nat) : State × Bool :=
  let e := s.entry p
  let was := s
  let s := s.dropParcels p
  let s := s.setAtoms (homeOf p) ((s.atomLines (homeOf p)).filter (fun a => lnPage a.line != p))
  if e.st == .near then (s.resealOn p e e.set e.loc, true)
  else match s.takeFrame p false with
    | none => (was, false)
    | some (s, i, f) => (s.resealOn p e i f, true)

/-- Reseal the pages from the present one on while none has to be waited for: a migrating page, or copies that
agents of a device-coherent domain hold, which are invalidated first, or the rebuild of the slice's root array (R216, R282,
R326, R332). An uninitialised chunk is initialised for it (R277). -/
def State.resealPages : Nat → Nat → Nat → State → State
  | 0, _, _, s => s
  | f + 1, q, ix, s =>
    match s.desc q ix with
    | none => s
    | some d =>
      let p := dDst d.raw / 4096 + d.prod / 4096
      if dLen d.raw ≤ d.prod then s.endDesc q ix (fun d => { d with status := 1 })
      else if !s.unitsUp (64 * p) then s.failDesc q ix 15 d.prod
      else if listed s.mem.rebuild (homeOf p) then s
      else
        let s := s.needChunk p
        if (s.entry p).st == .migrating then s
        else
        let key := dmKey q ix
        let held := ((upTo 64).map (64 * p + ·)).filter (fun ln => s.coherent ln && (s.sfOf ln).isSome)
        let s := s.each held (fun s ln =>
          s.when (!s.dmPending key ln 2) (fun s => s.dmRequest key ln .flush 2))
        if ((upTo 64).map (64 * p + ·)).any (fun ln => s.dmPending key ln 2) then s
        else
          let r := s.zeroReseal p
          if r.2 then
            let s := (r.1.onDesc q ix (fun d => { d with prod := d.prod + 4096 })).moved q 4096
            State.resealPages f q ix s
          else r.1.failDesc q ix 7 d.prod

/-- DM_ZERO_RESEAL (R280, R326). -/
def execDmZeroReseal (q : Fin 64) (ix : BitVec 16) (s : State) : Outcome State Fault Refusal :=
  .next (s.dmOp q.val ix.toNat 7 (fun _ => s.resealPages 65537 q.val ix.toNat))

/-! ### Batches of atomics -/

/-- An element of a batch (R327): operation, size, GEN, fence, target and operands, or none where it is
invalid. -/
def element (e : List Byte) : Option (AtomicKind × Nat × Nat × Nat × Nat × Nat) :=
  let n := fun (k w : Nat) => ofBytes ((e.drop k).take w)
  let size := n 1 1
  let a := n 8 8
  let op := match n 0 1 with
    | 1 => some AtomicKind.fetchAdd
    | 2 => some AtomicKind.swap
    | 3 => some AtomicKind.cas
    | _ => none
  match op with
  | none => none
  | some op =>
    if (size = 4 ∨ size = 8 ∨ (size = 16 ∧ op = .cas)) ∧ n 4 1 < 2 ∧ n 5 3 = 0 ∧ n 48 16 = 0 ∧
        a % size = 0 ∧ a < 2 ^ 46 then
      some (op, size, n 2 2, a, n 16 16, n 32 16)
    else none

/-- FENCE of an element. -/
def elemFence (e : List Byte) : Bool := (e.getD 4 0).getLsbD 0

/-- Where the failing status of element k is kept among fetched lines. -/
def elemFail (st k : Nat) : Nat := atomSlot + 4096 * st + k

/-- The outcome of element k of a descriptor: status and old value; none: not executed yet. -/
def State.elemGot (s : State) (key k : Nat) : Option (Nat × Nat) :=
  match s.fetchedLine key (atomSlot + k) with
  | some (some v) => some (1, v.toNat)
  | some none => some (6, 0)
  | none => ([7, 8, 13].find? (fun st => (s.fetchedLine key (elemFail st k)).isSome)).map (fun st => (st, 0))

/-- Note the failing status of an element. -/
def State.elemFailed (s : State) (key st k : Nat) : State :=
  s.withHome { s.home with
    fetched := { who := .dm key, line := elemFail st k, data := none } :: s.home.fetched }

/-- Start one element of a BATCH: its atomic joins the line's queue, or the element fails (R327, R331). -/
def State.startElem (s : State) (q ix : Nat) (e : List Byte) (k : Nat) : State :=
  let key := dmKey q ix
  match element e with
  | none => s.elemFailed key 13 k
  | some (op, size, gen, a, x, y) =>
    if s.dmPending key (a / 64) k then s
    else match s.dmRange q a size gen with
      | some st => (s.when (st == 8) (fun s => s.staleHandle (a / 2 ^ 28) q)).elemFailed key st k
      | none => s.dmRequest key (a / 64)
          (.atomic op size (a % 64) (BitVec.ofNat 128 x) (BitVec.ofNat 128 y)) k

/-- Start the elements of a batch from element k on, in list order, up to a fence that has to wait. -/
def State.runElems (q ix : Nat) : List (List Byte) → Nat → State → State
  | [], _, s => s
  | e :: es, k, s =>
    let key := dmKey q ix
    if elemFence e && !(upTo k).all (fun j => (s.elemGot key j).isSome) then s
    else if (s.elemGot key k).isSome then State.runElems q ix es (k + 1) s
    else
      State.runElems q ix es (k + 1) (s.startElem q ix e k)

/-- The 32 bytes of an element's result (R327): the old value of a failing element is free. -/
def elemResult (gap : Nat) (g : Nat × Nat) : List Byte :=
  toBytes 16 (if g.1 = 1 then g.2 else (Config.recordGap gap).toNat) ++ BitVec.ofNat 8 g.1 :: toBytes 15 0

/-- DM_BATCH_ATOMIC (R327): a poisoned element line stops it (R325). -/
def execDmBatchAtomic (q : Fin 64) (ix : BitVec 16) (s : State) : Outcome State Fault Refusal :=
  .next (s.dmOp q.val ix.toNat 8 (fun d =>
    s.withSource q.val d (fun s b =>
      let q := q.val
      let n := dAux1 d.raw
      let good := goodBytes b
      let es := (upTo (good.length / 64)).map (fun k => (good.drop (64 * k)).take 64)
      let down := es.any (fun e => (element e).any (fun t => !s.unitsUp (t.2.2.2.1 / 64)))
      if down then
        s.failDesc q d.ix 15 (64 * (es.findIdx? (fun e => (element e).any (fun t => !s.unitsUp (t.2.2.2.1 / 64)))).getD 0)
      else s.withRoom q d (32 * n) (
        let s := s.runElems q d.ix es 0
        let got := (upTo es.length).filterMap (s.elemGot (dmKey q d.ix))
        if got.length < es.length then s
        else
          let bad := (got.filter (fun g => g.1 != 1)).length
          let out := (got.map (elemResult s.free)).flatten
          let s := (s.takeFree.dmPut q d.ix (dDstSp d.raw) (dDst d.raw) (out.map some)).moved q (64 * es.length)
          s.endDesc q d.ix (fun d => { d with
            status := if es.length < n then 6 else if bad = 0 then 1 else 12, cons := 64 * es.length,
            prod := out.length, count := bad,
            offset := if es.length < n then 64 * es.length
              else 64 * ((upTo got.length).find? (fun k => (got.getD k (1, 0)).1 != 1)).getD 0 })))))

/-! ### Peer copies -/

/-- One half-page of a peer copy: its index to LAND.HALF, then its lines in one piece, or line by line where
one of them is poisoned (R328). -/
def State.peerHalf (s : State) (q : Nat) (aux h : Nat) (b : List (Option Byte)) : State :=
  let s := s.hostWrites 8 q (aux + 0x88) (toBytes 4 h) false false
  if b.all Option.isSome then s.hostWrites 2049 q (aux + 0x800) (b.map (·.getD 0)) false false
  else s.each (upTo 32) (fun s j =>
    let l := (b.drop (64 * j)).take 64
    s.hostWrites 65 q (aux + 0x800 + 64 * j) (l.map (·.getD 0)) false (l.any Option.isNone))

/-- The flush read of a peer copy is sent, once another read may be outstanding (R71, R328). -/
def State.flushRead (s : State) (q ix aux : Nat) : State :=
  (s.onDesc q ix (fun d => { d with flushing := true, want := [(aux, 4)] })).issueReads readFuel q ix

/-- DM_PEER_COPY (R328): half-page by half-page, then the flush read. -/
def execDmPeerCopy (q : Fin 64) (ix : BitVec 16) (s : State) : Outcome State Fault Refusal :=
  .next (s.dmOp q.val ix.toNat 9 (fun d =>
    s.withSource q.val d (fun s b =>
      let n := dLen d.raw
      let bad := poisonedLines (dSrc d.raw) b
      let s := s.each (upTo (n / 2048)) (fun s k =>
        s.peerHalf q.val (dAux0 d.raw) ((dSrc d.raw % 2 ^ 28) / 2048 + k) ((b.drop (2048 * k)).take 2048))
      let s := (s.moved q.val n).onDesc q.val d.ix (fun d => { d with
        cons := n, prod := n, count := bad.length, offset := bad.headD 0 })
      s.flushRead q.val d.ix (dAux0 d.raw))))

/-- PEER_FLUSH_COMPLETION (R328): the flush read returns, and the descriptor ends. -/
def execPeerFlushCompletion (q : Fin 64) (ix : BitVec 16) (st : CplStatus) (s : State) :
    Outcome State Fault Refusal :=
  match s.desc q.val ix.toNat with
  | none => .next s
  | some d =>
    if d.ended || !d.flushing || !d.want.isEmpty then .next s
    else .next (s.flushDone q.val ix.toNat (st == .ok))

/-! ### Records -/

/-- The 32 bytes of a descriptor's record (R319); a field without a meaning in it is free. -/
def recordBytes (d : Desc) (gap : Nat) : List Byte :=
  let free := fun (k n : Nat) => bits (Config.recordGap (gap + k)).toNat 0 n
  let op := dOp d.raw
  let off := (op == 3 && d.status == 2) || (decide (4 ≤ d.status) && d.status != 4 && d.status != 16 && d.status != 14)
  let cnt := op == 8 || op == 1
  [BitVec.ofNat 8 d.status, BitVec.ofNat 8 d.flags] ++ toBytes 2 d.ix ++
    toBytes 4 (if bitOf d.flags 1 then d.crc.toNat else free 0 32) ++
    toBytes 4 d.cons ++ toBytes 4 d.prod ++ toBytes 8 (if bitOf d.flags 0 then d.token else free 1 64) ++
    toBytes 4 (if off then d.offset else free 2 32) ++ toBytes 4 (if cnt then d.count else free 3 32)

/-- A descriptor's writes are still on their way to their home slices. -/
def State.dmWriting (s : State) (key : Nat) : Bool :=
  let who := Requester.dm key
  s.home.queue.any (fun r => r.who == who && !r.drop) || s.home.retried.any (fun r => r.req.who == who)

/-- MSI-X of a descriptor; a masked vector is left pending (R321). -/
def State.dmIrq (s : State) (q vec : Nat) : State :=
  if !(s.ld q).msixOn then s
  else if (s.ld q).msixMask.getLsbD vec then
    s.onLd q (fun d => { d with msixPend := d.msixPend ||| BitVec.ofNat 64 (2 ^ vec) })
  else s.toHost q (.msix q vec)

/-- A descriptor whose record is written leaves its queue, and its interrupt is signalled; with the last one an abort ends
(R321, R330). -/
def State.recordDone (s : State) (q : Nat) (d : Desc) : State :=
  let s := ((s.restLink q).onQueue q (fun u => { u with run := u.run.filter (fun x => x.ix != d.ix) })).count dmPage 0x10 1
  let s := s.when (dBit d.raw 5) (fun s => s.dmIrq q (dBits d.raw 16 6))
  if (s.queue q).abort.isSome && (s.queue q).run.isEmpty then s.haltQueue q 3 else s

/-- The record of an ended descriptor is written, bytes 8-31 and then bytes 0-7, neither with Relaxed Ordering (R72, R319);
it is done once a record in device space has been written in its home slice (R294; assumption 164). -/
def State.putRecord (s : State) (q : Nat) (d : Desc) : State :=
  let b := recordBytes d s.free
  let a := dRec d.raw
  let s := ((s.takeFree.takeFree).takeFree).takeFree
  let s := s.onDesc q d.ix (fun d => { d with recorded := true })
  let s := if dBit d.raw 8 then
      (s.dmPut q d.ix true (a + 8) ((b.drop 8).map some)).dmPut q d.ix true a ((b.take 8).map some)
    else (s.hostWrites 33 q (a + 8) (b.drop 8) false false).hostWrites 9 q a (b.take 8) false false
  if s.dmWriting (dmKey q d.ix) then s else s.recordDone q d

/-- The counts of a chain whose descriptor ended before it wrote them are 0; a chain that the descriptor may not write, or
whose units do not serve, is left (R318, R323, R331). -/
def State.countsDue (s : State) (q : Nat) (d : Desc) : Bool :=
  !d.counted && dChainLen d.raw != 0 && dValid d.raw &&
    (!dDstSp d.raw || (s.dmAllowed q (dAux0 d.raw / 2 ^ 28) && s.putUp true (dAux0 d.raw) (dChainLen d.raw)))

/-- An ended descriptor's record can be written (R317, R331). -/
def State.canRecord (s : State) (q : Nat) (d : Desc) (ok : Bool) : Bool :=
  let a := dRec d.raw
  if dBit d.raw 8 then oneExtent a 32 && s.granted q (a / 2 ^ 28) && s.unitsUp (a / 64) else ok

/-- DM_RECORD_WRITE (R319, R331): once the descriptor's writes are visible; a record in device space that is on its way is
done once it has been written. `ok` false: the path to a host record is not available. -/
def execDmRecordWrite (q : Fin 64) (ix : BitVec 16) (ok : Bool) (s : State) : Outcome State Fault Refusal :=
  let q := q.val
  match s.desc q ix.toNat with
  | none => .next s
  | some d =>
    if !d.ended || s.dmWriting (dmKey q d.ix) || !s.sorrelUp then .next s
    else if d.recorded then .next (s.recordDone q d)
    else
      let s := s.when (s.countsDue q d) (fun s => s.putCounts q d (fun _ => 0))
      if s.dmWriting (dmKey q d.ix) then .next s
      else if s.canRecord q d ok then .next (s.putRecord q d)
      else .next (s.haltQueue q (if d.status = 15 then 6 else 2))

end Sys2Proof.Machine
end

