-- ==== Sys2Proof/Machine/Pages.lean ====
section
/-! DEFINITION. Commands of the common page: commits, locks, HOLD and DEV.MGMT (R534-R546, R577). -/

namespace Sys2Proof.Machine

open Host (Outcome)

/-! ### Commits -/

/-- The bits of a register that are of class H. -/
def hMask (r : Reg) : Nat := maskOf (r.fields.filter (fun f => f.cls == .h))

/-- The bits of a register that are RWP fields of class H. -/
def rwpH (r : Reg) : Nat := maskOf (r.fields.filter (fun f => f.cls == .h && f.isRwp))

/-- The window offset of the one register with RWP fields of class H of a page, if it has one: HSC.CFG (R440). -/
def rwpHOff (p : Nat) : Option Nat := if p = hscPage then some (hscPage * 4096 + 0x80) else none

/-- An RWP field of class H holds a stored value that is not yet active (R537, R540). -/
def State.rwpStaged (s : State) (p : Nat) : Bool :=
  match rwpHOff p with
  | none => false
  | some off => match regAt off with
    | none => false
    | some r => s.backing off r &&& rwpH r != s.activeWord off &&& rwpH r

/-- COMMIT.STAGED of a page: some H field holds a value not yet active (R537); for the address map's page also an
entry staged by TCMD (R128). -/
def State.stagedOn (s : State) (p : Nat) : Bool :=
  s.regs.staged.any (fun e => e.1 / 4096 == p) || s.regs.going.any (fun e => e.1 / 4096 == p) || s.rwpStaged p ||
    (p == amapPage && !s.amap.staged.isEmpty)

/-- A staged value that no GO has taken exists on a page. -/
def State.toTake (s : State) (p : Nat) : Bool :=
  s.regs.staged.any (fun e => e.1 / 4096 == p) || s.rwpStaged p || (p == amapPage && s.amap.staged.any (fun e => !e.going))

/-- GO takes the staged values that exist (R538). -/
def State.takeStaged (s : State) (p : Nat) : State :=
  let mine := s.regs.staged.filter (fun e => e.1 / 4096 == p)
  let rs := match rwpHOff p with
    | some off => if s.rwpStaged p && !listed mine off then [(off, BitVec.ofNat 32 (s.activeWord off))] else []
    | none => []
  let vals := (mine ++ rs).map (fun e => match regAt e.1 with
    | none => e
    | some r => (e.1, BitVec.ofNat 32 (under e.2.toNat (s.backing e.1 r) (rwpH r))))
  let s := s.withRegs { s.regs with
    staged := dropKeys (fun k => k / 4096 == p) s.regs.staged,
    going := vals.foldl (fun t e => enter e.2 t e.1) s.regs.going,
    pending := if s.regs.pending.contains p then s.regs.pending else s.regs.pending ++ [p] }
  s.when (p == amapPage) (fun s => s.withAmap { s.amap with staged := s.amap.staged.map (fun e => { e with going := true }) })

/-- A register's class H fields take a staged value (R538). -/
def State.activate (s : State) (p off v : Nat) : State :=
  match regAt off with
  | none => s
  | some r => s.setReg p (off % 4096) (BitVec.ofNat 32 (under (s.activeWord off) v (hMask r)))

/-- The block of a page reaches its safe point: the values that the GO took become active together, and PENDING is
cleared (R538). -/
def State.applyCommit (s : State) (p : Nat) : State :=
  if s.regs.pending.contains p then
    let mine := s.regs.going.filter (fun e => e.1 / 4096 == p)
    let s := s.each mine (fun s e => s.activate p e.1 e.2.toNat)
    let s := s.withRegs { s.regs with
      going := dropKeys (fun k => k / 4096 == p) s.regs.going, pending := s.regs.pending.filter (· != p) }
    let s := s.when (p == amapPage) (fun s => s.commitEntries)
    s.when (p == tierPage && !s.cfgBit tierPage 0x80 31) (fun s => s.dropDemotions (fun _ => true))
  else s

/-- DISCARD returns the staged values of a page to their active values; ignored while a commit is pending (R537,
R540). -/
def State.discardStaged (s : State) (m : Master) (p : Nat) : State :=
  if s.regs.pending.contains p then s
  else
    let s := s.withRegs { s.regs with staged := dropKeys (fun k => k / 4096 == p) s.regs.staged }
    let s := s.when (p == amapPage) (fun s => s.withAmap { s.amap with staged := [] })
    match rwpHOff p with
    | none => s
    | some off => match regAt off with
      | none => s
      | some r => s.retWrite (backKey off) (BitVec.ofNat 32 (under (s.backing off r) (s.activeWord off) (rwpH r))) (some m)

/-- Effect of a write of COMMIT: GO, which a DISCARD in the same write gives way to (R537, R546). In a sub-domain
that is down the commit applies at once (R538). -/
def State.commitWrite (s : State) (m : Master) (p : Nat) (v : Word) : State :=
  if v.getLsbD 0 then
    if s.toTake p then
      let s := s.takeStaged p
      if (s.asleep (p * 4096 + 0x20)).isSome then s.applyCommit p else s
    else s
  else if v.getLsbD 3 then s.discardStaged m p
  else s

/-- A write of COMMIT by a master. -/
def State.writeCommit (s : State) (m : Master) (p : Nat) (v : Word) : State :=
  s.gate m (p * 4096 + 0x20) v (fun s => s.commitWrite m p v)

/-- COMMIT_GO (R537, R538). -/
def execCommitGo (m : Master) (page : BitVec 16) (s : State) : Outcome State Fault Refusal :=
  .next (s.writeCommit m page.toNat 1)

/-- COMMIT_APPLY (R538). -/
def execCommitApply (page : BitVec 16) (s : State) : Outcome State Fault Refusal := .next (s.applyCommit page.toNat)

/-- COMMIT_DISCARD (R537, R540). -/
def execCommitDiscard (m : Master) (page : BitVec 16) (s : State) : Outcome State Fault Refusal :=
  .next (s.writeCommit m page.toNat 8)

/-! ### Locks -/

/-- Set the lock of a page. -/
def State.setLock (s : State) (p : Nat) (k : PageLock) : State :=
  s.withRegs { s.regs with locks := enter k s.regs.locks p }

/-- Effect of a write of LOCK by a master: FORCE from a management core, RELEASE by the owner, ACQUIRE of a free
lock, and the owner's LEASE (R541). -/
def State.lockWrite (s : State) (m : Master) (p : Nat) (v : Word) : State :=
  let core := ownerCode m == 3
  let force := v.getLsbD 4 && core
  let s := s.when force (fun s => (s.freeLock p).setStatus p 5)
  let mine := s.lockOf p == ownerCode m
  let s := s.when (v.getLsbD 3 && mine) (fun s => s.freeLock p)
  let k : PageLock := { owner := ownerCode m, lease := fieldOf v 8 8, last := s.now }
  if s.lockOf p = 0 then (if v.getLsbD 2 then s.setLock p k else s)
  else if s.lockOf p = ownerCode m then s.setLock p k
  else s

/-- A write of LOCK. -/
def State.writeLock (s : State) (m : Master) (p : Nat) (v : Word) : State :=
  s.gate m (p * 4096 + 0x24) v (fun s => s.lockWrite m p v)

/-- LOCK_ACQUIRE (R541). -/
def execLockAcquire (m : Master) (page : BitVec 16) (lease : BitVec 8) (s : State) : Outcome State Fault Refusal :=
  .next (s.writeLock m page.toNat (wordOf [(2, 1), (8, lease.toNat)]))

/-- LOCK_RELEASE (R541). -/
def execLockRelease (m : Master) (page : BitVec 16) (s : State) : Outcome State Fault Refusal :=
  .next (s.writeLock m page.toNat 8)

/-- LOCK_FORCE (R541). -/
def execLockForce (m : Master) (page : BitVec 16) (s : State) : Outcome State Fault Refusal :=
  .next (s.writeLock m page.toNat 16)

/-- LOCK_LEASE_EXPIRY (R541): the owner has made no access to the page for LEASE x 10 ms. -/
def execLockLeaseExpiry (page : BitVec 16) (s : State) : Outcome State Fault Refusal :=
  match look? s.regs.locks page.toNat with
  | some k => if k.lease = 0 then .next s else .next ((s.reach (k.last + ms (10 * k.lease))).freeLock page.toNat)
  | none => .next s

/-! ### HOLD and DEV.MGMT -/

/-- CTRL_HOLD (R534, R535). -/
def execCtrlHold (m : Master) (page : BitVec 16) (hold : Bool) (s : State) : Outcome State Fault Refusal :=
  .next (s.gate m (page.toNat * 4096 + 0x0C) (BitVec.ofNat 32 (b2n hold)) id)

/-- Window offset of DEV.MGMT. -/
def devMgmt : Nat := dillPage * 4096 + 0x8C

/-- Effect of a write of DEV.MGMT that its class admits: every host lock is released (R542, R577). -/
def State.mgmtMoved (s : State) : State := s.when (s.quiescent devMgmt) (fun s => s.freeLocks 1)

/-- DEV_MGMT_WRITE (R577). -/
def execDevMgmtWrite (m : Master) (ld : BitVec 6) (s : State) : Outcome State Fault Refusal :=
  .next (s.gate m devMgmt (BitVec.ofNat 32 ld.toNat) State.mgmtMoved)

end Sys2Proof.Machine
end

