-- ==== Sys2Proof/Machine/Protect.lean ====
section
/-! DEFINITION. Commands of the home slices' background units and of the protection engines: the atomic line
buffer, the metadata cache's cleaner, re-tags, root arrays, chunk initialisation, the overwrite queue, discard
reports, and the commit of HDM decoders (R93, R155, R159, R259, R273, R277, R282, R299). -/

namespace Sys2Proof.Machine

open Host (Outcome)

/-- A decoder follows the decoders below it: each of them is committed and ends at or below its base, as the CXL
structure asks of a commit (R93; assumption 45). -/
def State.inOrder (s : State) (ld i base : Nat) : Bool :=
  (upTo i).all (fun k => (s.hdm ld k).committed && decide ((s.hdm ld k).base + (s.hdm ld k).size ≤ base))

/-- HDM_DECODER_COMMIT (R93), a write of a decoder with Commit 1 or 0: a decoder locked at an earlier commit keeps its
values; an unsupported encoding, or a decoder out of order, reports Error Not Committed; Commit 0 leaves the decoder
uncommitted. -/
def execHdmDecoderCommit (ld : Fin 64) (i : Fin 4) (base size skip : BitVec 64) (ways gran : BitVec 4)
    (ctl : HdmControl) (s : State) : Outcome State Fault Refusal :=
  let old := s.hdm ld.val i.val
  if old.committed && old.locked then .next s
  else
    let d : HdmDecoder := {
      base := base.toNat, size := size.toNat, skip := skip.toNat, ways := ways.toNat, gran := gran.toNat,
      committed := false, err := false, locked := false }
    let d := if !ctl.commit then d
      else if d.supported && s.inOrder ld.val i.val d.base then { d with committed := true, locked := ctl.lock }
      else { d with err := true }
    .next (s.onLd ld.val (fun u => { u with dec := enter d u.dec i.val }))

/-! ### The atomic line buffer and the metadata cache -/

/-- ATOMIC_BUFFER_FLUSH (R155, R167): HOLD units of 8 fabric cycles after the last atomic to the line. -/
def execAtomicBufferFlush (line : BitVec 40) (s : State) : Outcome State Fault Refusal :=
  let n := line.toNat
  let hs := homeOf (lnPage n)
  match s.atomAt n with
  | none => .next s
  | some a =>
    if s.sliceOut hs || listed s.mem.rebuild hs then .next s
    else
      let hold := ceilDiv (8 * s.cfg (hsPage hs 2) 0x80 0 8 * 1000) (fabricCycles 1000)
      .next ((s.reach (a.last + hold)).flushAtom n)

/-- MCACHE.CFG.CLEAN_THR within its range (R168). -/
def State.cleanThr (s : State) (hs : Nat) : Nat := max 16 (min 8192 (s.cfg (hsPage hs 7) 0x80 0 14))

/-- MCACHE_CLEAN (R159): from CLEAN_THR dirty lines until they are fewer than half of it. -/
def execMcacheClean (hs : Fin 32) (s : State) : Outcome State Fault Refusal :=
  let h := hs.val
  .next (s.when (!s.sliceOut h && decide (s.cleanThr h ≤ (s.dirtyLines h).length)) (fun s =>
    s.cleanTo 16384 h (ceilDiv (s.cleanThr h) 2)))

/-- Write back every dirty line of a slice (R159). -/
def State.mcFlush (s : State) (hs : Nat) : State := s.cleanTo 16384 hs 1

/-- Window offset of MCACHE.CFG. -/
def mcacheCfg (hs : Nat) : Nat := hsPage hs 7 * 4096 + 0x80

/-- MCACHE_FLUSH (R159, R168). -/
def execMcacheFlush (m : Master) (hs : Fin 32) (s : State) : Outcome State Fault Refusal :=
  let off := mcacheCfg hs.val
  .next (s.gate m off (s.rmw off [(14, 1, 1)]) (fun s => s.mcFlush hs.val))

/-! ### Re-tags and root arrays -/

/-- RETAG_STEP (R40, R273, R283): the next child of the slice's oldest re-tag; it waits during a rebuild, and a line behind
the requests of its queue (assumption 162). -/
def execRetagStep (hs : Fin 32) (s : State) : Outcome State Fault Refusal :=
  let h := hs.val
  if s.sliceOut h || listed s.mem.rebuild h then .next s
  else match (s.retags h).find? (fun r => !r.todo.isEmpty) with
    | none => .next s
    | some r =>
      let k := r.todo.headD 0
      let line := 64 * leafPage h (r.key % 2 ^ 40 / 32) + k
      .next (if r.key / 2 ^ 40 = 1 ∧ (s.home.queue.any (fun q => q.line == line) ∨ s.lineStill line) then s
        else s.retagChild h r k)

/-- RETAG_END (R273): entries whose every slot is done free. -/
def execRetagEnd (hs : Fin 32) (s : State) : Outcome State Fault Refusal :=
  .next (s.setRetags hs.val ((s.retags hs.val).filter (fun r => !r.todo.isEmpty)))

/-- ROOT_ARRAY_ERROR (R282): class F at the slice's site, confined to the slice. -/
def execRootArrayError (hs : Fin 32) (s : State) : Outcome State Fault Refusal :=
  .next (s.faultP (hsPage hs.val 6) 5 0)

/-- ROOT_REBUILD_END (R282): `rejected` names the L5 nodes whose copies cannot be read or differ, beside those
that the model knows to fail. -/
def execRootRebuildEnd (hs : Fin 32) (rejected : BitVec 32) (s : State) : Outcome State Fault Refusal :=
  .next (s.when (listed s.mem.rebuild hs.val) (fun s =>
    s.endRebuild hs.val (rejected.toNat ||| s.failingRoots hs.val)))

/-! ### Lazy initialisation and the overwrite queue -/

/-- The next chunk that the background initialises of an extent: in DPA order (R277). -/
def State.nextChunk (s : State) (e : Nat) : Option Nat :=
  ((upTo 16).map (16 * e + ·)).find? (fun c => !listed s.mem.chunks c)

/-- Bytes of metadata that initialising a chunk writes: 1,024 page map lines, 4,096 leaf blocks and two copies of 64 L2 nodes
(R276). -/
def chunkBytes : Nat := 64 * (1024 + 4096 + 2 * 64)

/-- Every Lovage may initialise chunks in the background (R276, R287): each writes its own slices' part of a chunk. -/
def State.lazyOn (s : State) : Bool := (upTo 4).all (fun i => s.cfgBit (lazyPage i) 0x80 0)

/-- The rate of the slowest Lovage (R277, R287; assumption 147). -/
def State.lazyRate (s : State) : Nat := (upTo 4).foldl (fun a i => min a (s.cfg (lazyPage i) 0x80 1 8)) 255

/-- CHUNK_INIT (R276, R277, R283, R287): within LAZY.CFG.RATE; it waits while a root array is rebuilt. -/
def execChunkInit (chunk : BitVec 22) (s : State) : Outcome State Fault Refusal :=
  let c := chunk.toNat
  .next (s.when (s.inUse (c / 16) && s.lazyOn && s.mem.rebuild.isEmpty && s.nextChunk (c / 16) == some c) (fun s =>
    let s := s.reach s.mem.chunkAt
    (s.withMem { s.mem with chunkAt := s.now + ceilDiv chunkBytes s.lazyRate }).initChunk c))

/-- What the overwrite writes: zeros with valid check storage, under no tag of a line (R259). -/
def zeroStored : Stored :=
  .line 0 { kind := 5, addr := 0, ctr := 0, domain := 0, epoch := 0, salt := 0, tagKey := 0 }

/-- OVERWRITE_WRITE (R259, R285): at up to 16 GB/s, the first frame or bin of the queue is written and enters the free pool; the last one of
a domain's reseed raises OVERWRITE_DONE. -/
def execOverwriteWrite (s : State) : Outcome State Fault Refusal :=
  match s.mem.overwrite with
  | [] => .next s
  | w :: rest =>
    if s.placeStill w.set ((upTo (16 * w.kib)).map (fun j => 1024 * w.loc + 64 * j)) then .next s
    else
    let s := s.reach s.mem.overwriteAt
    let s := s.withMem { s.mem with overwriteAt := s.now + 64 * w.kib }
    let s := s.each (upTo (16 * w.kib)) (fun s j => s.putMedia w.set (1024 * w.loc + 64 * j) zeroStored)
    let s := s.withMem { s.mem with overwrite := rest }
    let s := (if w.kib = 4 then s.releaseFrame w.set (w.loc / 4) else s.releaseBin w.set w.loc w.kib).levels 0
    .next (s.when (rest.all (fun x => x.domain != w.domain)) (fun s => s.raiseAt 545 keysPage w.domain))

/-! ### Discard reports -/

/-- DISCARD_REPORT (R298, R299): lost writes of lines of a page, or of an extent, are filed. -/
def execDiscardReport (u : BitVec 24) (what : DiscardWhat) (s : State) : Outcome State Fault Refusal :=
  let unit := pageOfSite u.toNat
  if !s.boot.aux then .next s
  else match what with
    | .lines p m => .next (s.each ((upTo 64).filter (fun j => m.getLsbD j)) (fun s j =>
        s.discardLine unit (64 * p.toNat + j)))
    | .extent e => .next (s.discardExtent unit e.toNat)

end Sys2Proof.Machine
end

