-- ==== Sys2Proof/Machine/Views.lean ====
section
/-! DEFINITION. What a read of each register returns: its stored fields, and the read-only fields that show the
state of its block (R528-R534 and the register tables of every chapter). -/

namespace Sys2Proof.Machine

/-- A number from fields given as (lowest bit, width, value); each value is cut to its width. -/
def pack (l : List (Nat × Nat × Nat)) : Nat := l.foldl (fun a f => a ||| ((f.2.2 % 2 ^ f.2.1) <<< f.1)) 0

/-- A value that saturates at a field's width. -/
def capAt (w v : Nat) : Nat := min v (2 ^ w - 1)

/-- Time left until an instant in units, rounded up, saturating in 16 bits. -/
def State.leftOf (s : State) (t unit : Nat) : Nat := capAt 16 (ceilDiv (t - s.now) unit)

/-- Word `k` of a list of bytes, lowest byte first (R7). -/
def wordAt (d : List Byte) (k : Nat) : Nat := ofBytes ((d.drop (4 * k)).take 4)

/-! ### Records as bytes -/

/-- The 64 bytes of a log record (R468). -/
def logBytes (r : LogRec) : List Byte :=
  let b := toBytes 8 r.seq ++ toBytes 8 r.time ++
    toBytes 2 (pack [(0, 10, r.source), (10, 1, b2n r.fault), (11, 1, b2n r.retained), (12, 1, b2n r.dropped)]) ++
    toBytes 2 r.node ++ toBytes 4 (pack [(0, 24, r.site), (24, 3, r.cls)]) ++ toBytes 8 r.subject ++
    ((upTo 3).map (fun k => toBytes 8 (r.detail.getD k (Config.logDetail r.seq k).toNat))).flatten ++
    toBytes 2 r.code ++ toBytes 1 (pack [(0, 6, r.ld.getD 0), (7, 1, b2n r.ld.isSome)]) ++ toBytes 1 0
  b ++ toBytes 4 (crc32c b).toNat

/-- A point of a trace record: 0xFF_FFFF where it was not passed; a time that 24 bits do not hold is left open (R520). -/
def tracePt (r : TraceRec) (k : Nat) : Option Nat → Nat
  | none => 0xFFFFFF
  | some n => if n < 0xFFFFFF then n else (Config.tracePoint r.time r.addr k).toNat

/-- The 64 bytes of a trace record (R520). -/
def traceBytes (r : TraceRec) : List Byte :=
  let b := toBytes 8 r.time ++ toBytes 6 r.addr ++ toBytes 1 r.kind ++ toBytes 1 r.flags ++ toBytes 1 r.port ++
    toBytes 1 r.hs ++ toBytes 1 r.agent ++ toBytes 1 r.chan ++
    ((upTo 10).map (fun k => toBytes 3 (tracePt r (k + 1) (r.d.getD k none)))).flatten ++ toBytes 3 (tracePt r 11 (some r.d11)) ++
    toBytes 7 0
  b ++ toBytes 4 (crc32c b).toNat

/-! ### The retained store -/

/-- The key of a word of the retained store (R461, assumption 11). -/
def rawKey (w : Nat) : Nat := if w < 0x400 then backKey (Config.backedBy w) else w

/-- The word of the retained store that a key names in a record or an event (R461, R481). -/
def keyWord (k : Nat) : Nat := if k < 0x10000 then k else Config.backWord (k - 0x10000)

/-- The value of a word of the retained store as RSTORE.DATA and the memory map show it: an uncorrectable one reads as 0, that of
a register too (R461, R462, R483). -/
def State.rawWord (s : State) (w : Nat) : Word :=
  if (0xA09 ≤ w ∧ w < 0x1000) ∨ s.ret.ue.contains (rawKey w) then 0 else s.retWord (rawKey w)

/-- RSTORE.ADDR.WORD. -/
def State.rstoreAddr (s : State) : Nat := s.cfg rstorePage 0x80 0 16

/-! ### The common page -/

/-- CAP of a page (R533). -/
def capWord (p : Nat) : Nat :=
  let fs := ((kindRegs (kindOf p)).map Reg.fields).flatten
  let k := kindOf p
  let sl := pgSlot p
  let link := (sl == 4 || sl == 5) && decide (pgCluster p < 2) && decide (pgSlice p < 4)
  let e := pgEngine p
  pack [(0, 1, b2n (fs.any (fun f => f.cls == .h))), (1, 1, b2n (fs.any Field.isRwp)), (2, 1, b2n (ownedBlock p).isSome),
    (3, 1, b2n (k == .kCmpe || k == .kTier || k == .kDm || k == .kTrc)), (4, 1, b2n (lockReq p)),
    (5, 1, b2n (p % 4096 == 0xFFF || (link && (e == 0 || e == 2 || e == 3 || e == 4))))]

/-- The words of a fault record, FREC0 to FREC5 (R507). -/
def State.recWords (s : State) (u : Nat) : List Nat :=
  let r := s.frec u
  [pack [(0, 24, r.site), (24, 3, r.cls), (27, 3, r.reaction), (30, 1, b2n r.active)],
   pack [(0, 5, r.seen.toNat), (16, 16, r.count)], r.time % 2 ^ 32, r.time / 2 ^ 32 % 2 ^ 32,
   pack [(0, 16, r.row), (16, 16, r.col)],
   pack [(0, 16, if r.active then s.leftOf r.quietEnd (ms 10) else 0), (16, 8, r.cause)]]

/-- FREC1 to FREC5 of a page: as the last read of FREC0 latched them (R507). -/
def State.frecView (s : State) (p k : Nat) : Nat :=
  if k = 0 then (s.recWords (unitOf p)).getD 0 0
  else match look? s.flt.latch p with
    | some l => (l.getD (k - 1) 0).toNat
    | none => (s.recWords (unitOf p)).getD k 0

/-- A word of the counter bank beyond PMC.CTL's stored fields (R511, R512, R516, R522). -/
def State.pmcView (s : State) (p x : Nat) : Nat :=
  let b := (s.settlePage p).bank p
  let n := counters p
  if x = 0x40 then s.cfg p 0x40 0 10 ||| pack [(11, 1, b2n b.frozen), (12, 4, n)]
  else if x = 0x44 then b.ovf.toNat
  else if x = 0x48 then s.cfg p 0x48 0 3
  else if x = 0x4C then (if s.cfg p 0x48 0 3 < n then (look 0 b.evsel (s.cfg p 0x48 0 3)).toNat else 0)
  else if x < 0x70 then (if (x - 0x50) / 4 < n then look 0 b.cnt ((x - 0x50) / 4) % 2 ^ 32 else 0)
  else
    let k := (x - 0x70) / 2
    pack [(0, 16, if k < n then look 0 b.hi k else 0), (16, 16, if k + 1 < n then look 0 b.hi (k + 1) else 0)]

/-- A register of the common page; none: its stored fields are all of it (R530-R546). -/
def State.commonView (s : State) (p x : Nat) : Option Nat :=
  if x = 0 then some (idWord p)
  else if x = 4 then some 0x1101
  else if x = 8 then some (capWord p)
  else if x = 0x10 then
    some ((s.activeWord (p * 4096 + 0x10) &&& 0x2E) ||| pack [(0, 1, b2n (s.quiescent (p * 4096 + 0x10))),
      (4, 1, b2n (s.frec (unitOf p)).active)])
  else if x = 0x14 then some ((ownedBlock p).elim 0 (fun b => (s.evt.pend.toNat >>> (32 * b)) % 2 ^ 32))
  else if x = 0x18 then
    some ((ownedBlock p).elim 0 (fun b => (upTo 32).foldl (fun a k => a + b2n (s.evEnabled (32 * b + k)) * 2 ^ k) 0))
  else if x = 0x1C then
    some ((ownedBlock p).elim 0 (fun b =>
      let i := look 0 s.evt.sel p
      i + 32 * (s.routeOf (32 * b + i)).toNat))
  else if x = 0x20 then some (pack [(1, 1, b2n (s.regs.pending.contains p)), (2, 1, b2n (s.stagedOn p))])
  else if x = 0x24 then
    some ((look? s.regs.locks p).elim 0 (fun k => pack [(0, 2, k.owner), (8, 8, k.lease)]))
  else if 0x28 ≤ x ∧ x < 0x40 then some (s.frecView p ((x - 0x28) / 4))
  else if 0x40 ≤ x ∧ x < 0x80 then some (s.pmcView p x)
  else none

/-! ### Host ports -/

/-- HPGS.HRDY (R87, assumption 121). -/
def State.hrdyView (s : State) (g : Nat) : Nat :=
  pack [(0, 1, b2n (s.grp g).busy), (1, 1, b2n (s.grp g).pulsePend), (2, 3, s.hrdyCause g)]

/-- HLINK.LSTAT (R89): every field but PRESENT and HELD is 0 while the link is Down (assumption 121). -/
def State.lstatView (s : State) (l : Nat) : Nat :=
  let k := s.link l
  let f := match k.flit with
    | .nonFlit => 0
    | .flit68 => 1
    | .flit256 => 2
  let v := pack [(0, 3, k.rate), (3, 3, k.width), (6, 2, f), (8, 1, 1), (9, 1, b2n k.cxl), (10, 1, b2n k.bi),
    (11, 1, b2n k.mld), (12, 3, k.active), (15, 1, b2n (k.st == .l1))]
  (if k.st = .down then 0 else v) ||| pack [(16, 1, b2n (s.present l)), (17, 1, b2n k.held)]

/-- DMQ.STAT of a queue (R336). -/
def State.dmqView (s : State) (q : Nat) : Nat :=
  let k := s.queue q
  pack [(0, 2, k.st), (2, 4, k.cause), (6, 3, k.run.length)]

/-! ### The address map and the pool -/

/-- A word of the address map's page (R128, R129). -/
def State.amapView (s : State) (x : Nat) : Nat :=
  if x = 0x80 then pack [(24, 4, s.amap.result)]
  else if x = 0xC0 then s.ftotal % 2 ^ 32
  else if x = 0xC4 then s.ftotal / 2 ^ 32 % 2
  else if x = 0xC8 then s.ffree % 2 ^ 32
  else if x = 0xCC then s.ffree / 2 ^ 32 % 2
  else if x = 0xF0 then s.amap.lost / 4 % 2 ^ 32
  else if x = 0xF4 then s.amap.lost / 4 / 2 ^ 32 % 2
  else 0

/-! ### Home slices -/

/-- The classes of HSQ.STAT.BLOCKED in the order of its bits (R164). -/
def blockedClasses : List ReqClass :=
  [.portGroup 0, .portGroup 1, .portGroup 2, .portGroup 3, .borage, .dataMover, .tier, .pool, .internal]

/-- HSQ.STAT (R164): trackers of R137, the entries of the writeback buffer apart. -/
def State.hsqView (s : State) (hs : Nat) : Nat :=
  let used := min 512 ((s.inKind hs .shared).length + (s.inKind hs .reserved).length + (s.inKind hs .internal).length)
  let blk := blockedClasses.foldr (fun c a => b2n (s.blocked hs c) + 2 * a) 0
  pack [(0, 10, used), (10, 10, s.sharedFree hs), (20, 9, blk)]

/-- SF.STAT (R165); with every set broad, BROAD_SETS shows the low bits of the count (assumption 175). -/
def State.sfView (s : State) (hs : Nat) : Nat :=
  let mine := s.home.sf.filter (fun e => e.1 / 16384 == hs)
  pack [(0, 18, mine.foldl (fun a e => a + e.2.length) 0),
    (18, 14, (s.home.broad.filter (fun k => k / 16384 == hs)).length)]

/-- A word of SF.LOST (R166). -/
def State.lostView (s : State) (k : Nat) : Nat := (s.home.lost.toNat >>> (32 * k)) % 2 ^ 32

/-- MCACHE.STAT (R168). -/
def State.mcacheView (s : State) (hs : Nat) : Nat :=
  pack [(0, 14, (s.dirtyLines hs).length), (16, 16, capAt 16 (look 0 s.mem.mcUe hs))]

/-- ROOT.STAT (R286). -/
def State.rootView (s : State) (hs : Nat) : Nat :=
  pack [(0, 2, b2n (listed s.mem.rebuild hs)), (2, 6, look 0 s.mem.rejected hs),
    (8, 8, capAt 8 (look 0 s.mem.rebuilds hs))]

/-! ### Channels -/

/-- Number of a channel's state (R208). -/
def ChanState.code : ChanState → Nat
  | .disabled => 0
  | .discovering => 1
  | .training => 2
  | .active => 3
  | .draining => 4
  | .drained => 5
  | .poweredDown => 6
  | .quarantined => 7

/-- Number of a mirrored pair's state (R212). -/
def MirState.code : MirState → Nat
  | .off => 0
  | .sync => 1
  | .evenOnly => 2
  | .oddOnly => 3
  | .resilverOdd => 4
  | .resilverEven => 5
  | .poisoned => 6

/-- A resilver of the pair of a channel is in progress. -/
def State.resilvering (s : State) (c : Nat) : Bool :=
  (s.chan c).mir == .resilverOdd || (s.chan c).mir == .resilverEven

/-- MiB left in a sparing copy or resilver (R199, R212; assumption 158). -/
def State.copyLeft (s : State) (c : Nat) : Nat :=
  match (s.chan c).job with
  | some (.sparing _) => ceilDiv (rankBytes (s.chan c).rb - (s.chan c).copy.bytes s.now) (2 ^ 20)
  | _ => if s.resilvering c then ceilDiv (s.mirrorBytes c - (s.chan c).silver.bytes s.now) (2 ^ 20) else 0

/-- The last training step that a channel has reached (R174, R208): while it trains, the one that the bounds of the steps
give for the time since discovery, or since the attempt, began (assumption 131). -/
def State.trainStep (s : State) (c : Nat) : Nat :=
  let h := s.chan c
  let t := (s.now - h.stepAt) / ms 1
  if h.st != .training then h.step
  else if h.rerun.isSome then (if t < 150 then 5 else 6)
  else if h.step = 1 then
    if t < 20 then 1 else if t < 130 then 2 else if t < 190 then 3 else if t < 195 then 4 else if t < 345 then 5
    else if t < 795 then 6 else if t < 800 then 7 else 8
  else if t < 60 then 3 else if t < 65 then 4 else if t < 215 then 5 else if t < 665 then 6 else if t < 670 then 7 else 8

/-- DDRC.STAT.STATE (R208): a channel is discovering during the first two steps of R174. -/
def State.chanCode (s : State) (c : Nat) : Nat :=
  if (s.chan c).st == .training && decide (s.trainStep c ≤ 2) then 1 else (s.chan c).st.code

/-- A word of DDRC's registers (R208-R210). -/
def State.ddrcView (s : State) (c x : Nat) : Nat :=
  let h := s.chan c
  if x = 0x84 then pack [(0, 4, s.chanCode c), (4, 4, h.speed), (8, 1, b2n h.setB), (9, 1, b2n h.refused), (10, 4, h.cause),
    (14, 4, s.trainStep c)]
  else if x = 0x88 then pack [(0, 21, h.usable), (21, 6, h.lranks)]
  else if x = 0x8C then pack [(1, 1, b2n (h.fctlBusy || h.fctlOwed)), (2, 2, h.fctlResult)]
  else if x = 0x90 then
    pack [(3, 3, h.svcResult), (8, 24, if s.drains c then capAt 24 (s.pagesLeft c).length else 0)]
  else if x = 0x114 then pack [(4, 1, b2n h.validA)]
  else if x = 0x134 then pack [(4, 1, b2n h.validB)]
  else 0

/-- A word of DDRP's registers (R212); a COPY_LEFT of 2^20 MiB shows as 0xF_FFFF (assumption 130). -/
def State.ddrpView (s : State) (c x : Nat) : Nat :=
  let h := s.chan c
  if x = 0x80 then pack [(10, 3, h.ddrpResult), (13, 1, b2n (h.job.isSome || !h.jobQueue.isEmpty || s.resilvering c))]
  else if x = 0x84 then pack [(0, 5, h.spared.getD 0), (5, 1, b2n h.spared.isSome), (6, 6, (s.repairs c).length),
    (12, 20, capAt 20 (s.copyLeft c))]
  else if x = 0x8C then h.mir.code
  else 0

/-- DDRI.DIMM of a slot; of a refused DIMM the low bits that fit (R213; assumption 157). -/
def Dimm.view (d : Dimm) : Nat :=
  match d.spd with
  | none => pack [(13, 3, d.st), (16, 4, d.cause)]
  | some p => pack [(0, 1, 1), (1, 2, p.kind.val), (3, 1, b2n p.x8), (4, 2, p.density.val), (6, 1, p.pranks - 1),
      (7, 2, p.height), (9, 4, p.maxSpeed.val), (13, 3, d.st), (16, 4, d.cause)]

/-- A word of the other engines of a channel (R211-R213). -/
def State.chanView (s : State) (c : Nat) (k : PageKind) (x : Nat) : Nat :=
  let h := s.chan c
  if k = .kDdrr ∧ x = 0x84 then
    pack [(0, 4, h.debtHwm), (4, 1, b2n (h.fast != 0)), (16, 16, capAt 16 h.rfm)]
  else if k = .kDdre ∧ x = 0x84 then pack [(0, 16, capAt 16 h.ceTotal), (16, 16, capAt 16 h.ueTotal)]
  else if k = .kDdrs ∧ x = 0x84 then
    pack [(0, 8, 100 * h.scrub / max 1 h.lineCount), (8, 24, capAt 24 h.passes)]
  else if k = .kDdri ∧ x = 0x80 then h.dimm0.view
  else if k = .kDdri ∧ x = 0x84 then h.dimm1.view
  else if k = .kDdri ∧ x = 0x8C then
    pack [(0, 8, h.dimm0.temp.toNat), (8, 8, h.dimm1.temp.toNat), (16, 2, max h.dimm0.level h.dimm1.level)]
  else 0

/-! ### Tiers -/

/-- A word of the tier manager's page (R250). -/
def State.tierView (s : State) (x : Nat) : Nat :=
  if x = 0x88 then pack [(0, 8, s.tier.epoch.toNat), (8, 1, b2n s.amap.low)]
  else if x = 0x8C then pack [(14, 2, s.tier.cmdResult), (16, 1, b2n s.tier.domCmd.isSome)]
  else if 0x90 ≤ x ∧ x < 0xAC then capAt 32 (look 0 s.tier.cnt ((x - 0x90) / 4))
  else 0

/-- A word of a compression engine's page (R251, R252). -/
def State.cmpeView (s : State) (k x : Nat) : Nat :=
  let e := s.eng k
  if x = 0x80 then pack [(2, 5, e.verifyLeft), (7, 1, b2n e.avail)]
  else if x = 0x84 then pack [(5, 1, b2n e.job.isSome), (6, 3, e.status)]
  else if x = 0xA0 then e.cons % 2 ^ 32
  else if x = 0xA4 then e.prod % 2 ^ 32
  else 0

/-- BINF.GRP and BINF.FREE of a class of a cluster (R252). -/
def State.binfView (s : State) (u x : Nat) : Nat :=
  let mine := fun (c : Nat) => s.tier.groups.filter (fun g => g.2.unit == u && g.2.cls == c)
  if 0x84 ≤ x ∧ x < 0x90 then capAt 32 (mine ((x - 0x84) / 4 + 1)).length
  else if 0x90 ≤ x ∧ x < 0x9C then
    capAt 32 (((mine ((x - 0x90) / 4 + 1)).filter (fun g => g.2.used != 0)).foldl (fun a g => a + g.2.free) 0)
  else 0

/-! ### The fabric, Borage, clocks and power -/

/-- Number of a module end's state (R379). -/
def DlnkState.code : DlnkState → Nat
  | .off => 0
  | .train => 1
  | .param => 2
  | .credit => 3
  | .active => 4
  | .change => 5
  | .lreset => 6
  | .retired => 7
  | .failed => 8

/-- A word of a module end's page (R378, R379). -/
def State.dlnkView (s : State) (e x : Nat) : Nat :=
  let k := s.mod e
  if x = 0x84 then pack [(3, 2, k.result), (5, 1, b2n k.busy)]
  else if x = 0x88 then pack [(0, 4, k.st.code), (4, 2, k.rate), (6, 2, k.width), (8, 3, sparesOf k.map),
    (11, 4, k.peer), (15, 1, b2n k.replayWait), (16, 8, capAt 8 k.lresets)]
  else if x = 0x8C then pack [(0, 16, capAt 16 k.crcErr), (16, 16, capAt 16 k.replays)]
  else 0

/-- A word of the Borage site's page (R381). -/
def State.brgView (s : State) (x : Nat) : Nat :=
  if x = 0x80 then
    pack [(0, 1, b2n s.brg.present),
      (1, 4, (upTo 4).foldl (fun a m => a + b2n ((s.mod (15 + m)).st == .active) * 2 ^ m) 0), (5, 2, s.brg.st)]
  else if x = 0x84 then s.brg.ident.toNat
  else if x = 0x90 then (look 0 s.brg.rights (s.cfg brgPage 0x8C 0 12)).toNat
  else 0

/-- Bits of the loops that coast, from a loop on (R384, R406). -/
def State.coastBits (s : State) (lo n : Nat) : Nat :=
  (upTo n).foldl (fun a b => a + b2n (s.loop (lo + b)).coast * 2 ^ b) 0

/-- CLK.STAT.NO_REF: no crystal is good, once REF has been taken or looked for (R383, R390, R405). -/
def State.noRef (s : State) : Bool :=
  !s.clk.xa.ok && !s.clk.xb.ok && (s.clk.refOn || decide (s.boot.auxAt + ms 20 ≤ s.now))

/-- A word of the clock root's pages (R405, R406). -/
def State.clkView (s : State) (x : Nat) : Nat :=
  if x = 0x84 then
    pack [(0, 1, b2n s.clk.refB), (1, 1, b2n s.clk.xa.ok), (2, 1, b2n s.clk.xb.ok),
      (3, 1, b2n s.noRef), (4, 1, b2n ((s.loop 0).locked && !(s.loop 0).coast)), (5, 1, b2n s.clk.disc),
      (6, 1, b2n ((upTo 40).any (fun n => (s.loop n).coast)))]
  else if x = 0x88 then s.clk.mon.toNat
  else 0

/-- The source of a gating domain, 1 AUX (R395): one of two sources as it stands, else its only one. -/
def State.srcOfDomain (s : State) (d : Nat) : Nat :=
  if twoSources d then b2n (s.clk.onAux.contains d)
  else b2n (d == 370 || d == 371 || (decide (380 ≤ d) && decide (d < 384)))

/-- A gating domain without power: its sub-domain is down, or its main domain is off, in the AUX-only state or on the way out
of it (R397, R398, R406; assumption 170). -/
def State.unpowered (s : State) (d : Nat) : Bool :=
  s.clk.down.getLsbD d ||
    (!auxGating d && !s.boot.main && (decide (2 < s.boot.st) || s.boot.st == 0 || s.boot.kind == 4))

/-- The 32 bits from `lo` on that a test gives. -/
def bitsOf (f : Nat → Bool) (lo : Nat) : Nat := (upTo 32).foldl (fun a b => a + b2n (f (lo + b)) * 2 ^ b) 0

/-- A word of the power controller's page (R402, R406, R407). -/
def State.pwrView (s : State) (x : Nat) : Nat :=
  if x = 0x84 then s.clk.seen.toNat * 64
  else if x = 0x88 then pack [(0, 1, b2n (!s.clk.waking.isEmpty || (upTo 8).any (fun u =>
      s.engineDown (2 * u + 1) && (s.eng (2 * u + 1)).workAt.isSome))), (1, 9, ((upTo 384).filter s.unpowered).length),
    (10, 16, s.clk.wakes)]
  else if x = 0x8C then pack [(11, 2, s.clk.dselResult), (13, 1, b2n (s.dselBusy (s.cfg pwrPage 0x8C 0 9))),
    (14, 1, s.srcOfDomain (s.cfg pwrPage 0x8C 0 9))]
  else if 0x100 ≤ x ∧ x < 0x130 then bitsOf s.gatedNow (8 * (x - 0x100))
  else if 0x140 ≤ x ∧ x < 0x170 then bitsOf s.unpowered (8 * (x - 0x140))
  else 0

/-! ### Power entry and start-up -/

/-- Number of the power path's state (R441). -/
def HscState.code : HscState → Nat
  | .idle => 0
  | .coolWait => 1
  | .insDelay => 2
  | .ramp => 3
  | .on => 4
  | .retryWait => 5
  | .latched => 6
  | .short => 7
  | .stopped => 8

/-- A word of HSC's page (R441). -/
def State.hscView (s : State) (x : Nat) : Nat :=
  let h := s.hsc
  if x = 0x88 then
    pack [(0, 4, h.st.code), (4, 1, b2n h.pg), (5, 1, b2n h.pgOut), (6, 1, b2n h.limit.isSome), (7, 1, b2n h.vinOk),
      (8, 4, h.retries), (12, 3, h.cause), (15, 1, b2n h.disc),
      (16, 16, if h.st = .coolWait ∨ h.st = .retryWait then s.leftOf h.waitEnd (ms 10) else 0)]
  else if x = 0x8C then pack [(3, 2, h.result)]
  else if x = 0x90 then (s.retWord 0xA08).toNat
  else 0

/-- A temperature in eight signed bits (R442): beyond them the spec states no value. -/
def tempByte (t : Rat) : Nat :=
  let v := t.floor
  if -128 ≤ v ∧ v ≤ 127 then (BitVec.ofInt 8 v).toNat else (Config.fetTemp v).toNat

/-- FET.STAT (R417, R442, R488): the temperatures read their reset value until the model has run. -/
def State.fetView (s : State) : Nat :=
  if s.hsc.linkLost then 0
  else pack [(0, 8, if s.hsc.modelled then tempByte s.hsc.tj else 0), (8, 8, if s.hsc.modelled then tempByte s.hsc.tpeak else 0),
    (16, 1, b2n (s.cfgBit fetPage 0x80 2 && !s.hsc.ntcFault)), (17, 1, b2n s.hsc.ntcFault)]

/-- Number of the state of a firmware update (R485). -/
def FwuState.code : FwuState → Nat
  | .idle => 0
  | .staged => 1
  | .verified => 2
  | .loaded => 3
  | .trial => 4

/-- A word of the Dill chiplet page (R443, R485, R545). RST.CTRL.BUSY reads its reset value in the start-up that an AUX reset
begins (assumption 172). -/
def State.dillView (s : State) (x : Nat) : Nat :=
  let b := s.boot
  let m := s.mgmt
  if x = 0x80 then 0x48161F4E
  else if x = 0x84 then 0x11
  else if x = 0x88 then pack [(0, 1, b2n s.brg.present), (1, 1, b2n s.brg.filler), (16, 16, b.board.suffix.toNat)]
  else if x = 0x90 then b.board.serial.toNat % 2 ^ 32
  else if x = 0x94 then b.board.serial.toNat / 2 ^ 32
  else if x = 0x98 then s.activeWord (dillPage * 4096 + 0x98)
  else if x = 0x200 then pack [(7, 3, b.result), (10, 1, b2n (s.resetBusy && !(decide (b.kind < 2) && (b.st == 1 || b.st == 2))))]
  else if x = 0x204 then pack [(0, 3, b.st), (3, 4, b.step), (7, 1, b2n b.imageB)]
  else if x = 0x208 then pack [(0, 3, b.kind), (3, 3, b.src)]
  else if x = 0x20C then pack [(0, 16, b.tPg), (16, 16, b.tHrdy)]
  else if x = 0x260 then pack [(4, 3, m.fwuResult), (7, 1, b2n (m.switching.isSome || m.committing))]
  else if x = 0x264 then pack [(0, 3, m.fwu.code), (3, 1, b2n m.slotB),
    (16, 16, if m.fwu = .trial then s.leftOf m.trialEnd (sec 1) else 0)]
  else 0

/-! ### Management -/

/-- CCTL of a core (R482). -/
def State.cctlView (s : State) (c : Nat) : Nat :=
  let k := s.mcore c
  pack [(0, 1, b2n k.ic.en), (1, 1, b2n k.dc.en), (2, 1, b2n k.active), (3, 1, b2n k.halted)]

/-- A word of the retained store's page (R460, R483). -/
def State.rstoreView (s : State) (x : Nat) : Nat :=
  let w := look 0 s.ret.wear (rawKey s.rstoreAddr)
  if x = 0x84 then (s.rawWord s.rstoreAddr).toNat
  else if x = 0x88 then capAt 32 w
  else if x = 0x8C then pack [(0, 1, b2n (!s.ret.queue.isEmpty)), (1, 2, s.ret.result), (3, 2, min 3 ((w - 1) / 1000000)),
    (16, 16, s.ret.refused)]
  else 0

/-- A word of the sensor hub's page (R484). -/
def State.sensView (s : State) (x : Nat) : Nat :=
  let m := s.mgmt
  if x = 0x80 then m.vin.toNat
  else if x = 0x84 then m.iin.toNat
  else if x = 0x88 then m.pin.toNat
  else if x = 0x90 then m.ein % 2 ^ 32
  else if x = 0x94 then m.ein / 2 ^ 32 % 2 ^ 32
  else if 0xA0 ≤ x ∧ x < 0x100 then
    pack [(0, 16, (look 0 m.die ((x - 0xA0) / 4)).toNat), (16, 16, (look 0 m.diePeak ((x - 0xA0) / 4)).toNat)]
  else if 0x100 ≤ x ∧ x < 0x300 then
    bits (look 0 m.ledger ((x - 0x100) / 8)) (8 * ((x - 0x100) % 8)) 32
  else if x = 0x300 then m.unassigned % 2 ^ 32
  else if x = 0x304 then m.unassigned / 2 ^ 32 % 2 ^ 32
  else if 0x320 ≤ x ∧ x < 0x33C then
    pack [(0, 16, (look 0 m.railV ((x - 0x320) / 4)).toNat), (16, 16, (look 0 m.railI ((x - 0x320) / 4)).toNat)]
  else 0

/-- A word of the fault collector's page (R507, R509). -/
def State.fcView (s : State) (x : Nat) : Nat :=
  if x = 0x90 then
    pack [(0, 2, s.flt.dev), (2, 1, b2n s.faultN), (16, 16, (s.flt.recs.filter (fun e => e.2.active)).length)]
  else if x = 0x94 then pack [(6, 2, s.flt.result)]
  else if x = 0x9C then pack [(0, 16, s.flt.framesBad), (16, 16, s.flt.laneLost.toNat)]
  else if 0xA0 ≤ x ∧ x < 0xB4 then capAt 32 (look 0 s.flt.rcnt ((x - 0xA0) / 4 + 1))
  else if 0xC0 ≤ x ∧ x < 0xD8 then
    let p := s.cfg fcPage 0xBC 0 16
    (s.recWords (if p = 0xFFFF then devRec else unitOf p)).getD ((x - 0xC0) / 4) 0
  else 0

/-- A word of the event router's page (R510). -/
def State.evrView (s : State) (x : Nat) : Nat :=
  if x = 0x84 then (s.routeOf (s.cfg evrPage 0x80 0 10)).toNat
  else if x = 0x88 then (match s.claim with
    | some k => k + 2 ^ 31
    | none => 0)
  else if x = 0x8C then pack [(0, 10, popCount s.evt.pend.toNat 768), (16, 16, s.evt.undelivered)]
  else if 0x100 ≤ x ∧ x < 0x160 then (s.evt.pend.toNat >>> (8 * (x - 0x100))) % 2 ^ 32
  else if 0x180 ≤ x ∧ x < 0x1E0 then
    (upTo 32).foldl (fun a k => a + b2n (s.evEnabled (8 * (x - 0x180) + k)) * 2 ^ k) 0
  else 0

/-- A word of the tracer's pages (R521, R523). -/
def State.trcView (s : State) (w : Bool) (x : Nat) : Nat :=
  if w then
    if 0x800 ≤ x then
      let i := (s.cfg (trcPage + 1) 0x80 0 16 + (x - 0x800) / 64) % s.trcSize
      (look? s.obs.ring i).elim 0 (fun r => wordAt (traceBytes r) ((x % 64) / 4))
    else 0
  else if x = 0x8C then pack [(0, 16, s.obs.wptr), (16, 16, s.obs.wraps)]
  else if x = 0x94 then pack [(0, 16, s.obs.dropped), (16, 1, b2n s.obs.full)]
  else 0

/-! ### A read -/

/-- The read-only fields of a block-specific register, and the fields whose state is kept apart. -/
def State.blockView (s : State) (p x : Nat) : Nat :=
  match kindOf p with
  | .kHpgs => if x = 0x84 then s.hrdyView (grpOfPage p) else 0
  | .kHlink => if x = 0x84 then s.lstatView (linkOfPage p) else 0
  | .kHreq => if 0x200 ≤ x ∧ x < 0x600 ∧ x % 64 = 4 then s.dmqView (s.queueAt (p * 4096 + x)) else 0
  | .kPhy => if 0x100 ≤ x ∧ x < 0x140 then (look 0 (s.grp (grpOfPage p)).lmrg ((x - 0x100) / 4)).toNat else 0
  | .kAmap => s.amapView x
  | .kHsq => if x = 0x80 then s.hsqView (hsOfPage p) else 0
  | .kSf => if x = 0x84 then s.sfView (hsOfPage p) else if 0x88 ≤ x ∧ x < 0x94 then s.lostView ((x - 0x88) / 4) else 0
  | .kMcache => if x = 0x84 then s.mcacheView (hsOfPage p) else 0
  | .kProt => if x = 0x80 then pack [(0, 16, capAt 16 (look 0 s.mem.tagFail (hsOfPage p))),
      (16, 16, capAt 16 (look 0 s.mem.wrUnver (hsOfPage p)))] else 0
  | .kCtw => if x = 0x80 then pack [(0, 4, (s.retags (hsOfPage p)).length), (4, 12, capAt 12 (look 0 s.mem.repaired (hsOfPage p))),
      (16, 16, capAt 16 (look 0 s.mem.nodesLost (hsOfPage p)))] else 0
  | .kRoot => if x = 0x80 then s.rootView (hsOfPage p) else 0
  | .kDdrc => s.ddrcView (chanOfPage p) x
  | .kDdrp => s.ddrpView (chanOfPage p) x
  | .kDdrr | .kDdre | .kDdrs | .kDdri => s.chanView (chanOfPage p) (kindOf p) x
  | .kTier => s.tierView x
  | .kCmpe => s.cmpeView (2 * clusterOfPage p + pgEngine p) x
  | .kBinf => s.binfView (clusterOfPage p) x
  | .kLazy =>
    if x = 0x84 then
      let n := (s.amap.extents.filter (fun e => e.2.st != .free)).length
      let done := (s.mem.chunks.filter (fun c => s.inUse (c.1 / 16))).length
      pack [(0, 23, 16 * n - done), (23, 9, capAt 9 (look 0 s.mem.stalls (pgSlot p - 8)))]
    else 0
  | .kKeys =>
    if x = 0x80 then
      pack [(0, 1, b2n s.mem.keysReady), (1, 1, if s.mem.keysReady then (Config.rngOk s.mem.drawAt).toNat else 0),
        (2, 14, capAt 14 s.mem.reseeds), (16, 16, capAt 16 (ceilDiv s.ovwKib 4))]
    else 0
  | .kDm => if x = 0x8C then (s.dm.filter (fun e => !e.2.run.isEmpty)).length else 0
  | .kDlnk => s.dlnkView (modOfPage p) x
  | .kDphy => if x = 0x80 then (s.mod (modOfPage p)).map.toNat else 0
  | .kBrg => s.brgView x
  | .kClkr => s.clkView x
  | .kClkl => if x = 0x80 then s.coastBits 0 32 else if x = 0x84 then s.coastBits 32 8 else 0
  | .kPwr => s.pwrView x
  | .kHsc => s.hscView x
  | .kFet => if x = 0x88 then s.fetView else 0
  | .kDill => s.dillView x
  | .kMcore => if x = 0x80 then s.cctlView (pgSlice p) else 0
  | .kRstore => s.rstoreView x
  | .kLog => if x = 0x80 then s.evt.wptr else if x = 0x84 then capAt 32 s.evt.dropped else 0
  | .kSb => if x = 0x80 then pack [(7, 1, b2n s.mgmt.i3c)] else 0
  | .kSens => s.sensView x
  | .kFc => s.fcView x
  | .kEvr => s.evrView x
  | .kTrc => s.trcView false x
  | .kTrcw => s.trcView true x
  | .kPool => if x = 0x80 then b2n s.amap.joined <<< 16 else 0
  | .kLand | .kAtom | .kHld | .plain => 0

/-- The stored fields of a register that a read shows: RW, RWS and RWP fields whose value is not kept apart (R12). -/
def State.storedView (s : State) (off : Nat) : Nat :=
  match regAt off with
  | none => 0
  | some r =>
    if ownState off && off % 4096 != 0x98 then 0
    else s.storedWord off &&& maskOf (r.fields.filter (fun f => f.acc == .rw || f.acc == .rws || f.acc == .rwp))

/-- What a read of a register of an Ozquenko page returns on a full path (R528, R530). -/
def State.regView (s : State) (off : Nat) : Word :=
  let p := off / 4096
  let x := off % 4096
  BitVec.ofNat 32 (match s.commonView p x with
    | some v => v
    | none => s.storedView off ||| s.blockView p x)

end Sys2Proof.Machine
end

