-- ==== Sys2Proof/Machine/RegWrite.lean ====
section
/-! DEFINITION. Register accesses with their effects: what a write of each register does beside storing its fields,
what a read does, direct commands, and accesses that had to wait (R369, R400, R472, R507, R516, R526-R529, R540). -/

namespace Sys2Proof.Machine

/-! ### The retained store's data register -/

/-- A write of RSTORE.DATA names a word that only the hardware writes (R461). -/
def State.protects (s : State) (off : Nat) : Bool := off == rstorePage * 4096 + 0x84 && decide (s.rstoreAddr < 0x1000)

/-- A write of a protected word is refused (R461, R483). -/
def State.rstoreProtected (s : State) : State :=
  s.withRet { s.ret with result := 3, refused := satAdd 0xFFFF s.ret.refused 1 }

/-- Effect of a write of RSTORE.DATA (R458, R461, R483). -/
def State.rstoreData (s : State) (m : Master) (v : Word) : State :=
  if s.rstoreAddr < 0x1000 then
    match m with
    | .core c => s.rstoreProtected.emit (.accessFault c.val)
    | _ => s.rstoreProtected
  else s.retWrite s.rstoreAddr v (some m)

/-! ### Effects of writes -/

/-- Effect of a write on the common page (R502, R507, R508, R515, R522, R537, R541). -/
def State.commonEffect (s : State) (m : Master) (p x : Nat) (v : Word) : State :=
  if x = 0x14 then s.clearAt (ownedBlock p) v
  else if x = 0x18 then s.enableAt (ownedBlock p) v
  else if x = 0x1C then s.ownRoute p v.toNat
  else if x = 0x20 then s.commitWrite m p v
  else if x = 0x24 then s.lockWrite m p v
  else if x = 0x3C then s.when (v.getLsbD 24) (fun s => s.clearRec (unitOf p))
  else if x = 0x40 then s.pmcCtl p v
  else if x = 0x44 then s.pmcOvf p v
  else if x = 0x4C then s.pmcEvsel p v
  else s

/-- Effect of a write on the page of an event router, fault collector, retained store, management core or the Dill
chiplet page (R443, R450, R451, R458, R485, R509, R510, R545). -/
def State.dillEffect (s : State) (m : Master) (p x : Nat) (v : Word) : State :=
  match kindOf p with
  | .kDill =>
    if x = 0x200 then s.rstWrite m (fieldOf v 0 3) (fieldOf v 3 4)
    else if x = 0x260 then s.fwuCmd m v
    else if x = 0x8C then s.mgmtMoved
    else s
  | .kMcore =>
    if x = 0x80 then s.cctl (pgSlice p) (v.getLsbD 0) (v.getLsbD 1)
    else if x = 0x84 then s.cmaint m (pgSlice p) v
    else s
  | .kRstore => if x = 0x84 then s.rstoreData m v else s
  | .kFc =>
    if x = 0x94 then s.fcCmd m (fieldOf v 0 3)
    else if x = 0x9C then s.withFlt { s.flt with laneLost := s.flt.laneLost &&& ~~~(BitVec.ofNat 16 (v.toNat / 65536)) }
    else s
  | .kEvr =>
    if x = 0x84 then s.evrRoute (BitVec.ofNat 14 v.toNat)
    else if 0x100 ≤ x ∧ x < 0x160 then s.clearPend ((x - 0x100) / 4) v
    else if 0x180 ≤ x ∧ x < 0x1E0 then s.setEnables ((x - 0x180) / 4) v
    else s
  | .kHsc => if x = 0x8C then s.hscOp (fieldOf v 0 3) s.hsc.vout else s
  | .kClkr =>
    if x = 0x80 then s.when (v.getLsbD 3) State.swapRef
    else if x = 0x88 then s.onClk (fun c => { c with mon := c.mon &&& ~~~(BitVec.ofNat _ v.toNat) })
    else s
  | .kPwr =>
    if x = 0x84 then s.onClk (fun c => { c with seen := c.seen &&& ~~~(BitVec.ofNat 2 (fieldOf v 6 2)) })
    else if x = 0x8C then s.dsel (fieldOf v 0 9) (fieldOf v 9 2)
    else s
  | _ => s

/-- Effect of a write of a register of a DDR5 channel (R190, R192, R195, R198, R199, R201-R204, R208). -/
def State.ddrEffect (s : State) (p x : Nat) (v : Word) : State :=
  let c := chanOfPage p
  let op := fieldOf v 0 3
  match kindOf p with
  | .kDdrc =>
    if x = 0x84 then s.when (v.getLsbD 9) (fun s => s.onChan c (fun ch => { ch with refused := false }))
    else if x = 0x8C then s.when (v.getLsbD 0) (fun s => s.fctlGo c)
    else if x = 0x90 then
      if op = 1 then s.drainCmd c
      else if op = 2 then s.powerDownCmd c
      else if op = 3 then s.returnCmd c (look? s.boot.board.spd (2 * c)) (look? s.boot.board.spd (2 * c + 1))
      else if op = 4 then s.svcCancelCmd c
      else s
    else s
  | .kDdrp =>
    if x = 0x80 then
      let rank := fieldOf v 3 5
      if op = 1 then s.spareCmd c rank
      else if op = 2 then s.softCmd c rank
      else if op = 3 then s.hardCmd c
      else if op = 4 then s.resilverCmd c
      else if op = 5 then s.unresilver c
      else s
    else s
  | _ => s

/-- Effect of a write of a register of the other blocks beside its stored fields. `was`: TRC.CFG.REC_EN before. -/
def State.blockEffect (s : State) (m : Master) (p x : Nat) (v : Word) (was : Bool) : State :=
  match kindOf p with
  | .kHpgs => if x = 0x84 ∧ v.getLsbD 5 then s.attention (grpOfPage p) else s
  | .kHlink => if x = 0x80 ∧ v.getLsbD 16 then s.retrainLink (linkOfPage p) else s
  | .kHreq =>
    if 0x200 ≤ x ∧ x < 0x600 then
      let q := s.queueAt (p * 4096 + x)
      if !s.owns (linkOfPage p) q then s
      else if x % 64 = 0 then s.dmqConfigured q
      else if x % 64 = 0x18 ∧ v.getLsbD 0 then s.dmqAborted q
      else s
    else s
  | .kAmap => if x = 0x80 then s.tcmd (fieldOf v 20 4) (fieldOf v 18 2) (fieldOf v 0 18) else s
  | .kMcache => if x = 0x80 ∧ v.getLsbD 14 then s.mcFlush (hsOfPage p) else s
  | .kTier =>
    if x = 0x80 then s.when (!s.cfgBit tierPage 0x80 31) (fun s => s.dropDemotions (fun _ => true))
    else if x = 0x8C then
      (if fieldOf v 12 2 = 1 then s.promoteDomain (fieldOf v 0 12)
       else if fieldOf v 12 2 = 2 then s.cancelDomain else s)
    else s
  | .kCmpe =>
    let k := 2 * clusterOfPage p + pgEngine p
    if x = 0x84 then
      (s.when (v.getLsbD 2) (fun s => s.startJob k (fieldOf v 0 2) (v.getLsbD 3))).when (v.getLsbD 4) (fun s => s.cancelJob k)
    else s
  | .kDlnk => if x = 0x84 then s.fabricOp (modOfPage p) (fun s => s.dlnkCmd (modOfPage p) (fieldOf v 0 3)) else s
  | .kBrg => if x = 0x90 then s.withBrg { s.brg with rights := put 0 s.brg.rights (s.cfg brgPage 0x8C 0 12) v } else s
  | .kTrc =>
    if x = 0x80 then s.trcCfg was else if x = 0x90 then s.trcRptr else if x = 0x98 then s.pmcGctl v else s
  | .kDdrc | .kDdrp => s.ddrEffect p x v
  | _ => s.dillEffect m p x v

/-- Effect of a write of the register at a window offset beside its stored fields. -/
def State.regEffect (s : State) (m : Master) (off : Nat) (v : Word) (was : Bool) : State :=
  let p := off / 4096
  let x := off % 4096
  if (regAt off).isNone then s
  else if x < 0x80 then s.commonEffect m p x v
  else s.blockEffect m p x v was

/-- A checked write of a register with its own effect. -/
def State.writeReg (s : State) (m : Master) (who : Option Master) (off : Nat) (v : Word) : State × Nat :=
  let was := s.cfgBit trcPage 0x80 1
  s.checkWrite m who off v (fun s => s.regEffect m off v was)

/-! ### Reads -/

/-- A read of FREC0 latches FREC1-5, a read of PMC.LOk the counter's high bits (R507, R516). -/
def State.latchRead (s : State) (off : Nat) : State :=
  let p := off / 4096
  let x := off % 4096
  if x = 0x28 then
    s.withFlt { s.flt with latch := enter ((s.recWords (unitOf p)).drop 1 |>.map (BitVec.ofNat 32)) s.flt.latch p }
  else if 0x50 ≤ x ∧ x < 0x70 ∧ (x - 0x50) / 4 < counters p then
    let k := (x - 0x50) / 4
    let s := s.settlePage p
    s.onBank p (fun b => { b with hi := put 0 b.hi k (look 0 b.cnt k / 2 ^ 32) })
  else s

/-- A read lies outside a host's filtered view (R526). -/
def State.hiddenFrom (s : State) (m : Master) (off : Nat) : Bool :=
  match m with
  | .host ld => !s.fullHost ld.val && !s.filterReads ld.val off
  | _ => false

/-- The checks of a register read and its value. Answers 0 read, 2 no site, 7 outside the filtered view, 8 waiting for
a sub-domain, 9 sent to Borage, as `checkWrite` does. -/
def State.readReg (s : State) (m : Master) (off : Nat) : State × Nat × Word :=
  let p := off / 4096
  if s.hiddenFrom m off then (s, 7, 0)
  else if !s.answers p || s.shutOff off then (s.wstat 16 16, 2, 0)
  else if pgSlot p = 12 then (s.brgRegSend m off none, 9, 0)
  else
    match s.asleep off with
    | some d =>
      ((s.startWake d).withClk { (s.startWake d).clk with
        held := (s.startWake d).clk.held ++ [{ m := m, off := off, wr := none }] }, 8, 0)
    | none =>
      let s := (((s.countAccess off).usedAt off).touchLock m p).latchRead off
      (s, 0, s.regView off)

/-! ### Direct commands -/

/-- The words of a command of the BMC or of REG_ACCESS, one after the other: a word that has to wait stops the command
until the wait has ended, and one that is refused ends it (R472, R540). Answers whether the command has ended. -/
def runWords : Nat → Master → SbJob → State → State × SbJob × Bool
  | 0, _, j, s => (s, j, false)
  | n + 1, m, j, s =>
    if s.underWay m then (s, { j with busy := true }, false)
    else if j.status != 0 then (s, j, true)
    else if j.opc = 1 then
      if j.left = 0 then (s, j, true)
      else
        let r := s.readReg m j.off
        if r.2.1 = 8 ∨ r.2.1 = 9 then (r.1, { j with busy := true }, false)
        else if r.2.1 = 2 then runWords n m { j with status := 2 } r.1
        else runWords n m { j with off := j.off + 4, left := j.left - 1, got := j.got ++ [r.2.2], busy := false } r.1
    else match j.words with
      | [] => (s, j, true)
      | w :: ws =>
        let prot := s.protects j.off
        let r := s.writeReg m (some m) j.off w
        if r.2 = 8 then (r.1, { j with busy := true }, false)
        else if r.2 = 9 then (r.1, { j with off := j.off + 4, words := ws, busy := true }, false)
        else if r.2 = 1 ∨ r.2 = 2 then runWords n m { j with status := r.2 } r.1
        else
          runWords n m { j with off := j.off + 4, words := ws, status := if r.2 = 0 ∧ prot then 3 else 0, busy := false } r.1

/-- Go on with the BMC's direct command, and with those that wait behind it (R472). -/
def runSb : Nat → State → State
  | 0, s => s
  | n + 1, s =>
    match s.mgmt.sb with
    | some j =>
      let r := runWords 64 .bmc j s
      if r.2.2 then
        runSb n ((r.1.onMgmt (fun g => { g with sb := none })).emit (.sbRsp r.2.1.opc r.2.1.status r.2.1.got))
      else r.1.onMgmt (fun g => { g with sb := some r.2.1 })
    | none =>
      match s.mgmt.sbNext with
      | [] => s
      | j :: l => runSb n (s.onMgmt (fun g => { g with sb := some j, sbNext := l }))

/-- The BMC's direct commands go on as far as they can. -/
def State.goSb (s : State) : State := runSb (2 * s.mgmt.sbNext.length + 2) s

/-- Go on with the mailbox command REG_ACCESS (R474). -/
def State.runMb (s : State) : State :=
  match s.mgmt.mb with
  | none => s
  | some (ld, j) =>
    if s.underWay (.host ld) && !j.busy || s.ret.held.any (fun h => h.m == .host ld) then s
    else
      let r := runWords 4 (.host ld) j s
      if r.2.2 then
        (r.1.onMgmt (fun g => { g with mb := none })).emit
          (.mbRsp ld.val 0xC003 0 (r.2.1.status :: r.2.1.got.map BitVec.toNat))
      else r.1.onMgmt (fun g => { g with mb := some (ld, r.2.1) })

/-! ### Accesses that waited -/

/-- A value read is returned to its master. -/
def State.returnRead (s : State) (m : Master) (off : Nat) (v : Word) : State :=
  match m with
  | .host ld => s.toHost ld.val (.regData m off v)
  | .bmc => s
  | .core c => s.emit (.loadData c.val (v.zeroExtend 64))

/-- A device-scope class F reaction cuts a host off from the pages beyond the receiving Chervil (R490). -/
def State.cutOff (s : State) (m : Master) (off : Nat) : Bool :=
  match m with
  | .host ld => (s.flt.dev == 1 || s.flt.dev == 2) &&
      ((s.linkOf ld).map (fun l => 4 + l / 8)) != some (pgSlot (off / 4096))
  | _ => false

/-- Perform a single access of a host or core, or start the BMC's as a direct command of one word (R472, R528). -/
def State.perform (s : State) (h : HeldAccess) : State :=
  if h.m = .bmc then
    (s.onMgmt (fun g => { g with sb := some h.job })).goSb
  else if s.noBar2 h.m then s.unclaimed h.m h.off h.wr.isSome
  else if s.cutOff h.m h.off then
    match h.m, h.wr with
    | .host ld, none => s.toHost ld.val (.ca ld.val 0)
    | _, _ => s
  else match h.wr with
    | some v =>
      let r := s.writeReg h.m (some h.m) h.off v
      if r.2 = 1 ∨ r.2 = 2 then r.1.refuse h.m r.2 else r.1
    | none =>
      let r := s.readReg h.m h.off
      if r.2.1 = 8 ∨ r.2.1 = 9 then r.1 else r.1.returnRead h.m h.off r.2.2

/-- An access of a master: nothing answers without AUX, and it waits behind what the master has under way (R410,
R540). -/
def State.access (s : State) (h : HeldAccess) : State :=
  if !s.boot.aux then s
  else if s.mustWait h.m then (s.arrives h.m).holdAccess h
  else ((s.arrives h.m).afterChange h.off).perform h

/-- Perform the held accesses whose masters have nothing under way any more, each master's in order (R540). -/
def drain : Nat → State → State
  | 0, s => s
  | n + 1, s =>
    match s.ret.held.find? (fun h => !s.underWay h.m) with
    | none => s
    | some h => drain n ((s.withRet { s.ret with held := s.ret.held.erase h }).perform h)

/-- Accesses that waited for sub-domains that are up again go on (R400). -/
def State.wakeHeld (s : State) : State :=
  let up := s.clk.held.filter (fun h => (s.asleep h.off).isNone)
  let s := s.withClk { s.clk with held := s.clk.held.filter (fun h => (s.asleep h.off).isSome) }
  s.each up (fun s h =>
    if h.m = .bmc ∨ s.mgmt.mb.any (fun j => h.m == .host j.1 && j.2.busy) then s else s.perform h)

/-- Answer an access that was under way with a value, or as a page without a site with a STATUS for the BMC and for
REG_ACCESS (R369, R400, R529). -/
def State.answerWait (s : State) (h : HeldAccess) (got : Option Word) (status : Nat) : State :=
  let next := fun (j : SbJob) =>
    { j with
      busy := false, status := if got.isSome then j.status else status, off := j.off + 4 * j.left.min 1,
      left := j.left - 1, got := if got.isSome ∧ j.opc = 1 then j.got ++ got.toList else j.got }
  let mb := s.mgmt.mb.any (fun j => h.m == .host j.1 && j.2.busy)
  if h.m = .bmc then s.onMgmt (fun g => { g with sb := g.sb.map next })
  else if mb then s.onMgmt (fun g => { g with mb := g.mb.map (fun j => (j.1, next j.2)) })
  else if h.wr.isNone then s.returnRead h.m h.off (got.getD 0)
  else s

end Sys2Proof.Machine
end

