-- ==== Sys2Proof/Machine/Mailbox.lean ====
section
/-! DEFINITION. The messages that the active management core serves: each logical device's mailbox and MCTP (R471,
R474, R479). Opcodes and return codes of the CXL and MCTP specifications are PRESUMED (assumption 33). -/

namespace Sys2Proof.Machine

open Host (Outcome)

/-! ### Answers -/

/-- A mailbox response with return code 0 and a payload. -/
def State.mbDone (s : State) (ld op : Nat) (data : List Nat) : State := s.emit (.mbRsp ld op 0 data)

/-- A mailbox response with another return code: 2 invalid input, 3 unsupported, 6 busy, 11 invalid slot, 14 invalid
handle. -/
def State.mbFail (s : State) (ld op code : Nat) : State := s.emit (.mbRsp ld op code [])

/-- A mailbox response whose payload the spec leaves to other documents. -/
def State.mbOpen (s : State) (ld op : Nat) : State := (s.mbDone ld op (Config.mbPayload op s.free)).takeFree

/-! ### Event records, timestamps, poison and capacity -/

/-- The CXL event records of a log of a logical device (R503). -/
def State.mbLog (s : State) (ld log : Nat) : List CxlEvent := (s.ld ld).evtLog.filter (fun e => e.log == log)

/-- Get Event Records: each record's handle, its TIME with the offset of Set Timestamp, and the 64 bytes of its log record
(R474, R503). -/
def State.mbEventsOp (s : State) (ld log : Nat) : State :=
  let l := s.mbLog ld log
  let off := (s.ld ld).tsOffset.toNat
  (s.emit (.mbEvents ld (l.map (fun e => e.rec_.seq)))).mbDone ld 0x100
    (l.map (fun e => [e.handle, (e.rec_.time + off) % 2 ^ 64] ++ (logBytes e.rec_).map (·.toNat))).flatten

/-- Clear Event Records: every handle names a record of the log, or nothing is cleared (R474). -/
def State.mbClearOp (s : State) (ld log : Nat) (handles : List (BitVec 16)) : State :=
  let hs := handles.map BitVec.toNat
  if hs.all (fun h => (s.mbLog ld log).any (fun e => e.handle == h)) then
    (s.onLd ld (fun d => { d with evtLog := d.evtLog.filter (fun e => !(e.log == log && hs.contains e.handle)) })).mbDone
      ld 0x101 []
  else s.mbFail ld 0x101 14

/-- Set Timestamp stores the offset from the device timestamp (R474). -/
def State.mbSetTimeOp (s : State) (ld : Nat) (ts : BitVec 64) : State :=
  (s.onLd ld (fun d => { d with tsOffset := ts - BitVec.ofNat 64 s.now })).mbDone ld 0x301 []

/-- A line is stored poisoned (R102). -/
def State.storedPoison (s : State) (line : Nat) : Bool :=
  let e := s.serving (lnPage line)
  if e.st = .poisoned then true
  else if e.st = .near then
    let m := (s.set e.set).media (e.loc * 4096 + line % 64 * 64)
    s.getMedia m.1 m.2 == some .poison
  else false

/-- Get Poison List: the poisoned lines of a range in extents that the logical device holds (R474). -/
def State.poisonList (s : State) (ld dpa lines : Nat) : List Nat :=
  ((upTo lines).map (fun k => dpa / 64 + k)).filter (fun n =>
    decide (n < 2 ^ 40) && s.granted ld (pgExt (lnPage n)) && s.storedPoison n)

/-- The regions of a logical device: number, first extent and count (R109, R474). -/
def State.regionList (s : State) (ld : Nat) : List Nat :=
  ((upTo 8).map (fun k => [k, (s.region (8 * ld + k)).base, (s.region (8 * ld + k)).count, 2 ^ 28])).flatten

/-- The extents that a logical device holds, with their GEN (R112, R474). -/
def State.extentList (s : State) (ld : Nat) : List Nat :=
  ((s.amap.extents.filter (fun e => s.granted ld e.1)).map (fun e => [e.1, (s.extTag e.1).toNat])).flatten

/-! ### Firmware and vendor commands -/

/-- Transfer FW (R474, R475, R479): the management function, the inactive slot, and no other image on its way. -/
def State.transferOp (s : State) (ld slot : Nat) (last : Bool) (img : FwImage) : State :=
  if !s.fullHost ld then s.mbFail ld 0x201 3
  else if s.mgmt.fwu != .idle || s.mgmt.img.isSome then s.mbFail ld 0x201 6
  else if slot ≠ (if s.boot.imageB then 1 else 2) then s.mbFail ld 0x201 11
  else if last then ((s.onMgmt (fun g => { g with transfer := false })).staged_ img).mbDone ld 0x201 []
  else (s.onMgmt (fun g => { g with transfer := true })).mbDone ld 0x201 []

/-- Activate FW (R474; assumption 26). -/
def State.activateOp (s : State) (ld slot : Nat) (online : Bool) : State :=
  if !s.fullHost ld then s.mbFail ld 0x202 3
  else if s.mgmt.fwu == .idle || slot ≠ (if s.mgmt.slotB then 2 else 1) then s.mbFail ld 0x202 11
  else (s.when (!online) (fun s => s.onMgmt (fun g => { g with nextCold := true }))).mbDone ld 0x202 []

/-- MARGIN_READ: LMRG of the lanes of the caller's link (R474). -/
def State.marginOp (s : State) (ld : Nat) : State :=
  match s.linkOf ld with
  | none => s.mbDone ld 0xC001 []
  | some l => s.mbDone ld 0xC001 (((upTo 16).filter (fun k => s.linkOfLane (l / 4) k == l)).map (fun k =>
      (look 0 (s.grp (l / 4)).lmrg k).toNat))

/-- DEVICE_LOG_READ: the bytes of a record of the ring, for the management function (R467, R474). -/
def State.logReadOp (s : State) (ld ix : Nat) : State :=
  if !s.fullHost ld then s.mbFail ld 0xC002 3
  else match look? s.evt.ring ix with
    | some r => s.mbDone ld 0xC002 ((logBytes r).map BitVec.toNat)
    | none => s.mbDone ld 0xC002 (List.replicate 64 0)

/-- REG_ACCESS: one register access of the management function, as a direct command of one word (R472, R474). -/
def State.regAccessOp (s : State) (ld : Fin 64) (off : Nat) (wr : Option Word) : State :=
  if !s.fullHost ld.val then s.mbFail ld.val 0xC003 3
  else if s.mgmt.mb.isSome then s.mbFail ld.val 0xC003 6
  else
    let h : HeldAccess := { m := .host ld, off := off, wr := wr }
    (s.onMgmt (fun g => { g with mb := some (ld, h.job) })).runMb

/-! ### MCTP -/

/-- An FM-API capacity command of the fabric manager: the active core writes the arguments and AMAP.TCMD (R128, R471).
-/
def State.fmCommand (s : State) (op e d m g : Nat) : State :=
  let core := Master.core (Fin.ofNat 2 s.activeCore)
  let put := fun (s : State) (x v : Nat) => (s.writeReg core none (amapPage * 4096 + x) (BitVec.ofNat 32 v)).1
  let s := put (put (put (put s 0xA0 m) 0xA4 (m / 2 ^ 32)) 0xA8 d) 0xAC g
  let r := s.writeReg core none amapTcmd (wordOf [(0, e), (18, 2), (20, 3 + op)])
  if r.2 = 0 then r.1.emit (.mctp r.1.amap.result [r.1.tdata 3]) else r.1.emit (.mctp 6 [])

/-- The message types of the endpoint: CXL FM-API, CXL component commands and vendor-defined PCI (R471). -/
def mctpTypes : List Nat := [0x07, 0x08, 0x7E]

/-- An MCTP message that a management core serves (R471). -/
def State.mctpServed (s : State) (m : MctpMsg) : State :=
  match m with
  | .getMessageTypeSupport => s.emit (.mctp 0 mctpTypes)
  | .fmApi op ext d mask gen => s.fmCommand op.val ext.toNat d.toNat mask.toNat gen.toNat
  | .getEndpointId | .otherControl | .component _ =>
    (s.emit (.mctp (Config.mctpReply s.free).1 (Config.mctpReply s.free).2)).takeFree

/-- An MCTP message while no core serves MCTP: ERROR_NOT_READY but for two control messages (R471). -/
def State.mctpAlone (s : State) (m : MctpMsg) : State :=
  match m with
  | .getEndpointId => (s.emit (.mctp 0 (Config.mctpReply s.free).2)).takeFree
  | .getMessageTypeSupport => s.emit (.mctp 0 mctpTypes)
  | _ => s.emit (.mctp 4 [])

/-! ### Serving -/

/-- The effect of a message that a management core serves (R471, R474). -/
def State.serve (s : State) : CoreMsg → State
  | .mbIdentify ld => s.mbOpen ld.val 0x0001
  | .mbBgOpStatus ld => s.mbDone ld.val 0x0002 [0]
  | .mbGetEvtIntPolicy ld => s.mbDone ld.val 0x0102 [(s.ld ld.val).evtPolicy.toNat]
  | .mbSetEvtIntPolicy ld p => (s.onLd ld.val (fun d => { d with evtPolicy := p })).mbDone ld.val 0x0103 []
  | .mbGetEventRecords ld log => s.mbEventsOp ld.val log.val
  | .mbClearEventRecords ld log handles => s.mbClearOp ld.val log.val handles
  | .mbGetTimestamp ld => s.mbDone ld.val 0x0300 [(BitVec.ofNat 64 s.now + (s.ld ld.val).tsOffset).toNat]
  | .mbSetTimestamp ld ts => s.mbSetTimeOp ld.val ts
  | .mbGetSupportedLogs ld => s.mbOpen ld.val 0x0400
  | .mbGetLog ld _ _ => s.mbOpen ld.val 0x0401
  | .mbGetFwInfo ld => s.mbOpen ld.val 0x0200
  | .mbTransferFw ld slot last img => s.transferOp ld.val slot.toNat last img
  | .mbActivateFw ld slot online => s.activateOp ld.val slot.toNat online
  | .mbIdentifyMemdev ld => s.mbOpen ld.val 0x4000
  | .mbGetHealthInfo ld => s.mbOpen ld.val 0x4200
  | .mbGetPoisonList ld dpa lines => s.mbDone ld.val 0x4300 (s.poisonList ld.val dpa.toNat lines)
  | .mbGetDcConfig ld => s.mbDone ld.val 0x4800 (s.regionList ld.val)
  | .mbGetDcExtentList ld => s.mbDone ld.val 0x4801 (s.extentList ld.val)
  | .energyRead ld => s.mbDone ld.val 0xC000 [look 0 s.mgmt.ledger ld.val]
  | .marginRead ld => s.marginOp ld.val
  | .deviceLogRead ld ix => s.logReadOp ld.val ix.toNat
  | .regAccess ld off wr => s.regAccessOp ld (off.toNat / 4 * 4) wr
  | .addDcResponse ld ext gen accept => s.dcAnswer ld.val ext.toNat gen accept
  | .releaseDc ld exts => s.dcRelease ld.val exts
  | .mbUnsupportedOpcode ld opcode => s.mbFail ld.val opcode.toNat 3
  | .mctpMessage m => s.mctpServed m

/-- A message reaches the active core: it is held while a switch is in progress (R471, R474, R476). -/
def State.toCore (s : State) (i : CoreMsg) : State :=
  if s.mgmt.switching.isSome then s.onMgmt (fun g => { g with heldMsgs := g.heldMsgs ++ [i] }) else s.serve i

/-- A mailbox command of a logical device arrives on its link, where its function answers and a core serves mailboxes
(R54, R60, R474). -/
def State.mailbox (s : State) (ld : Fin 64) (i : CoreMsg) : State :=
  s.when (s.coreServes && (s.ioLink ld.val).isSome) (fun s => (s.heard ld.val).toCore i)

/-- Whatever waited for an access that has ended goes on: direct commands, REG_ACCESS, held accesses in their order,
and a firmware switch, at whose end the held messages are delivered (R472, R476, R540). -/
def State.goOn (s : State) : State :=
  let s := s.goSb.runMb
  let s := (drain s.ret.held.length s).runMb
  let sw := s.mgmt.switching.isSome
  let s := s.trySwitch
  if sw && s.mgmt.switching.isNone then
    (s.onMgmt (fun g => { g with heldMsgs := [] })).each s.mgmt.heldMsgs State.serve
  else s

/-! ### Commands -/

/-- MB_IDENTIFY (R474). -/
def execMbIdentify (ld : Fin 64) (s : State) : Outcome State Fault Refusal :=
  .next (s.mailbox ld (.mbIdentify ld))

/-- MB_BG_OP_STATUS (R474). -/
def execMbBgOpStatus (ld : Fin 64) (s : State) : Outcome State Fault Refusal :=
  .next (s.mailbox ld (.mbBgOpStatus ld))

/-- MB_GET_EVT_INT_POLICY (R474). -/
def execMbGetEvtIntPolicy (ld : Fin 64) (s : State) : Outcome State Fault Refusal :=
  .next (s.mailbox ld (.mbGetEvtIntPolicy ld))

/-- MB_SET_EVT_INT_POLICY (R474). -/
def execMbSetEvtIntPolicy (ld : Fin 64) (policy : BitVec 32) (s : State) : Outcome State Fault Refusal :=
  .next (s.mailbox ld (.mbSetEvtIntPolicy ld policy))

/-- MB_GET_EVENT_RECORDS (R474, R503). -/
def execMbGetEventRecords (ld : Fin 64) (log : Fin 4) (s : State) : Outcome State Fault Refusal :=
  .next (s.mailbox ld (.mbGetEventRecords ld log))

/-- MB_CLEAR_EVENT_RECORDS (R474). -/
def execMbClearEventRecords (ld : Fin 64) (log : Fin 4) (handles : List (BitVec 16)) (s : State) : Outcome State Fault Refusal :=
  .next (s.mailbox ld (.mbClearEventRecords ld log handles))

/-- MB_GET_TIMESTAMP (R474). -/
def execMbGetTimestamp (ld : Fin 64) (s : State) : Outcome State Fault Refusal :=
  .next (s.mailbox ld (.mbGetTimestamp ld))

/-- MB_SET_TIMESTAMP (R474). -/
def execMbSetTimestamp (ld : Fin 64) (ts : BitVec 64) (s : State) : Outcome State Fault Refusal :=
  .next (s.mailbox ld (.mbSetTimestamp ld ts))

/-- MB_GET_SUPPORTED_LOGS (R474). -/
def execMbGetSupportedLogs (ld : Fin 64) (s : State) : Outcome State Fault Refusal :=
  .next (s.mailbox ld (.mbGetSupportedLogs ld))

/-- MB_GET_LOG (R474). -/
def execMbGetLog (ld : Fin 64) (off len : Nat) (s : State) : Outcome State Fault Refusal :=
  .next (s.mailbox ld (.mbGetLog ld off len))

/-- MB_GET_FW_INFO (R474). -/
def execMbGetFwInfo (ld : Fin 64) (s : State) : Outcome State Fault Refusal :=
  .next (s.mailbox ld (.mbGetFwInfo ld))

/-- MB_TRANSFER_FW (R474, R475). -/
def execMbTransferFw (ld : Fin 64) (slot : BitVec 2) (last : Bool) (img : FwImage) (s : State) : Outcome State Fault Refusal :=
  .next (s.mailbox ld (.mbTransferFw ld slot last img))

/-- MB_ACTIVATE_FW (R474). -/
def execMbActivateFw (ld : Fin 64) (slot : BitVec 2) (online : Bool) (s : State) : Outcome State Fault Refusal :=
  .next (s.mailbox ld (.mbActivateFw ld slot online))

/-- MB_IDENTIFY_MEMDEV (R474). -/
def execMbIdentifyMemdev (ld : Fin 64) (s : State) : Outcome State Fault Refusal :=
  .next (s.mailbox ld (.mbIdentifyMemdev ld))

/-- MB_GET_HEALTH_INFO (R474). -/
def execMbGetHealthInfo (ld : Fin 64) (s : State) : Outcome State Fault Refusal :=
  .next (s.mailbox ld (.mbGetHealthInfo ld))

/-- MB_GET_POISON_LIST (R474). -/
def execMbGetPoisonList (ld : Fin 64) (dpa : BitVec 46) (lines : Nat) (s : State) : Outcome State Fault Refusal :=
  .next (s.mailbox ld (.mbGetPoisonList ld dpa lines))

/-- MB_GET_DC_CONFIG (R474). -/
def execMbGetDcConfig (ld : Fin 64) (s : State) : Outcome State Fault Refusal :=
  .next (s.mailbox ld (.mbGetDcConfig ld))

/-- MB_GET_DC_EXTENT_LIST (R474). -/
def execMbGetDcExtentList (ld : Fin 64) (s : State) : Outcome State Fault Refusal :=
  .next (s.mailbox ld (.mbGetDcExtentList ld))

/-- ENERGY_READ (R474). -/
def execEnergyRead (ld : Fin 64) (s : State) : Outcome State Fault Refusal :=
  .next (s.mailbox ld (.energyRead ld))

/-- MARGIN_READ (R474). -/
def execMarginRead (ld : Fin 64) (s : State) : Outcome State Fault Refusal :=
  .next (s.mailbox ld (.marginRead ld))

/-- DEVICE_LOG_READ (R474). -/
def execDeviceLogRead (ld : Fin 64) (ix : BitVec 16) (s : State) : Outcome State Fault Refusal :=
  .next (s.mailbox ld (.deviceLogRead ld ix))

/-- REG_ACCESS (R474). -/
def execRegAccess (ld : Fin 64) (off : BitVec 28) (wr : Option Word) (s : State) : Outcome State Fault Refusal :=
  .next (s.mailbox ld (.regAccess ld off wr))

/-- ADD_DC_RESPONSE (R112-R114, R474). -/
def execAddDcResponse (ld : Fin 64) (ext : BitVec 18) (gen : BitVec 16) (accept : Bool) (s : State) :
    Outcome State Fault Refusal :=
  .next (s.mailbox ld (.addDcResponse ld ext gen accept))

/-- RELEASE_DC (R112, R474, R575). -/
def execReleaseDc (ld : Fin 64) (exts : List (BitVec 18 × BitVec 16)) (s : State) : Outcome State Fault Refusal :=
  .next (s.mailbox ld (.releaseDc ld exts))

/-- MB_UNSUPPORTED_OPCODE (R474). -/
def execMbUnsupportedOpcode (ld : Fin 64) (opcode : BitVec 16) (s : State) : Outcome State Fault Refusal :=
  .next (s.mailbox ld (.mbUnsupportedOpcode ld opcode))

/-- MCTP_MESSAGE (R471). -/
def execMctpMessage (msg : MctpMsg) (s : State) : Outcome State Fault Refusal :=
  .next (if !s.boot.aux then s else if s.coreServes then s.toCore (.mctpMessage msg) else s.mctpAlone msg)

/-! ### The BMC port -/

/-- I3C_DAA (R470): the port becomes an I3C target. -/
def execI3cDaa (s : State) : Outcome State Fault Refusal :=
  .next (s.when s.boot.aux (fun s => s.onMgmt (fun g => { g with i3c := true })))

/-- SMBUS_ARA (R473): ALERT_N is released; the address is not served in I3C mode. -/
def execSmbusAra (s : State) : Outcome State Fault Refusal :=
  .next (s.when (s.boot.aux && !s.mgmt.i3c) (fun s => s.withEvt { s.evt with alert := false }))

/-- IBI_ACCEPTED (R473): the BMC has accepted every in-band interrupt that is pending, and ALERT_N is released. -/
def execIbiAccepted (s : State) : Outcome State Fault Refusal :=
  .next (s.when (s.boot.aux && s.mgmt.i3c) (fun s => s.withEvt { s.evt with ibi := [], alert := false }))

/-! ### Image loads -/

/-- Start-up has failed for want of an image (R428, R443). -/
def State.bootFailed (s : State) : Bool := s.boot.st == 6

/-- IMG_BEGIN (R472, R475, R479): STATUS 1 while another image is on its way or the update is not IDLE, 4 for a length
that no image has. -/
def execImgBegin (len : Nat) (s : State) : Outcome State Fault Refusal :=
  let busy := s.mgmt.transfer || s.mgmt.img.isSome || (!s.bootFailed && s.mgmt.fwu != .idle)
  if !s.boot.aux then .next s
  else if busy then .next (s.emit (.sbRsp 0x10 1 []))
  else if len < 516 ∨ 1573376 < len ∨ len % 4 ≠ 0 then .next (s.emit (.sbRsp 0x10 4 []))
  else .next ((s.onMgmt (fun g => { g with img := some (len, 0) })).emit (.sbRsp 0x10 0 []))

/-- IMG_DATA (R472, R479): words of the image from an offset on. -/
def execImgData (off : Nat) (words : List Word) (s : State) : Outcome State Fault Refusal :=
  let n := words.length
  if !s.boot.aux then .next s
  else match s.mgmt.img with
    | none => .next (s.emit (.sbRsp 0x11 1 []))
    | some (len, got) =>
      if n = 0 ∨ 15 < n ∨ off % 4 ≠ 0 ∨ len < off + 4 * n then .next (s.emit (.sbRsp 0x11 4 []))
      else .next ((s.onMgmt (fun g => { g with img := some (len, max got (off + 4 * n)) })).emit (.sbRsp 0x11 0 []))

/-- IMG_END (R428, R454, R472, R475): a whole image that verifies is started by core 0 where start-up has failed for
want of one, and start-up goes on from step 3; otherwise it is staged. -/
def execImgEnd (img : FwImage) (s : State) : Outcome State Fault Refusal :=
  if !s.boot.aux then .next s
  else match s.mgmt.img with
    | none => .next (s.emit (.sbRsp 0x12 1 []))
    | some (len, got) =>
      let s := s.onMgmt (fun g => { g with img := none })
      if got ≠ len ∨ len ≠ 512 + img.body.length then .next (s.emit (.sbRsp 0x12 4 []))
      else if !s.verifies' img then .next (s.emit (.sbRsp 0x12 6 []))
      else if s.bootFailed then
        .next ((((s.startCore0 false img).onBoot (fun t => { t with st := 1, step := 3 })).emit (.sbRsp 0x12 0 [])).bootStart)
      else .next ((s.staged_ img).emit (.sbRsp 0x12 0 []))

/-! ### The TAP -/

/-- EXTEST and CLAMP are accepted (R569). -/
def State.scanOk (s : State) : Bool := (upTo 4).all (fun g => (s.grp g).busy) && (s.boot.st == 0 || s.boot.st == 6)

/-- TAP_INSTRUCTION (R569): EXTEST and CLAMP are executed as BYPASS where they are not accepted. -/
def execTapInstruction (op : TapOp) (s : State) : Outcome State Fault Refusal :=
  match op with
  | .idcode => .next (s.emit (.tap .idcode 0x14816B47))
  | .bypass => .next (s.emit (.tap .bypass 0))
  | .sample => .next ((s.emit (.tap .sample (Config.tapSample s.free))).takeFree)
  | .extest | .clamp => .next (s.emit (.tap (if s.scanOk then op else .bypass) 0))

end Sys2Proof.Machine
end

