-- ==== Sys2Proof/Machine/RegCmds.lean ====
section
/-! DEFINITION. Commands that access registers, end the waits of accesses, and update firmware (R369, R400, R402,
R456-R462, R472, R475-R478, R507, R516, R528, R544). -/

namespace Sys2Proof.Machine

open Host (Outcome)

/-! ### Reads that latch -/

/-- FREC0_READ (R507). -/
def execFrec0Read (m : Master) (page : BitVec 16) (s : State) : Outcome State Fault Refusal :=
  .next (s.access { m := m, off := page.toNat * 4096 + 0x28, wr := none })

/-- PMC_LO_READ (R516). -/
def execPmcLoRead (m : Master) (page : BitVec 16) (k : Fin 8) (s : State) : Outcome State Fault Refusal :=
  .next (s.access { m := m, off := page.toNat * 4096 + 0x50 + 4 * k.val, wr := none })

/-! ### Writes -/

/-- REGISTER_WRITE (R528, R544): a host write that does not cover all four bytes is discarded. -/
def execRegisterWrite (m : Master) (off : BitVec 28) (val : Word) (be : BitVec 4) (s : State) :
    Outcome State Fault Refusal :=
  let whole := match m with
    | .host _ => be == 15
    | _ => true
  if !s.boot.aux then .next s
  else if whole then .next (s.access { m := m, off := off.toNat / 4 * 4, wr := some val }).goOn
  else .next (if s.noBar2 m then s.unclaimed m off.toNat true else s.wstat 8 8)

/-- BORAGE_REG_ACCESS (R369). -/
def execBorageRegAccess (m : Master) (off : BitVec 24) (wr : Option Word) (s : State) : Outcome State Fault Refusal :=
  .next (s.access { m := m, off := 0xC000 * 4096 + off.toNat / 4 * 4, wr := wr })

/-! ### Direct commands -/

/-- A direct command RD or WR whose length and offset are valid starts or waits for its turn; another is answered with
STATUS 4 (R472). -/
def State.direct (s : State) (j : SbJob) (n : Nat) : State :=
  if !s.boot.aux then s
  else if n = 0 ∨ 16 < n ∨ j.off % 4 ≠ 0 ∨ 2 ^ 28 < j.off + 4 * n then s.emit (.sbRsp j.opc 4 [])
  else ((s.onMgmt (fun g => { g with sbNext := g.sbNext ++ [j] })).goSb).goOn

/-- SB_RD (R472). -/
def execSbRd (off : BitVec 28) (count : Nat) (s : State) : Outcome State Fault Refusal :=
  .next (s.direct { opc := 1, off := off.toNat, words := [], left := count, got := [], status := 0 } count)

/-- SB_WR (R472). -/
def execSbWr (off : BitVec 28) (words : List Word) (s : State) : Outcome State Fault Refusal :=
  .next (s.direct { opc := 2, off := off.toNat, words := words, left := 0, got := [], status := 0 } words.length)

/-! ### The configuration applier -/

/-- The record that the applier is at; none: application is not running, or its records have ended (R456). -/
def State.cfgRec (s : State) : Option CfgRecord := s.boot.cfg.bind (fun l => l[s.boot.cfgIx]?)

/-- The applier goes to its next record. -/
def State.cfgNext (s : State) : State :=
  s.onBoot (fun b => { b with cfgIx := b.cfgIx + 1, cfgAt := s.now, cfgGo := false, cfgPend := false, cfgKey := none })

/-- Application stops at a record, which BOOT_FAIL names (R456). -/
def State.cfgFail (s : State) : State :=
  (s.raiseBoot 24 2 [s.boot.cfgIx]).onBoot (fun b => { b with cfg := none, cfgGo := false, cfgPend := false, cfgKey := none })

/-- The applier writes as the management-core master (R456). -/
def applier : Master := .core 0

/-- A write would be refused in part for a reserved encoding or its change class, or as a whole (R15, R169, R189, R461,
R536, R544). -/
def State.fieldRefused (s : State) (off : Nat) (v : Word) : Bool :=
  match regAt off with
  | none => false
  | some r =>
    let fs := r.fields.filter (fun f => f.acc == .rw || f.acc == .rws || f.acc == .rwp)
    s.apRefused off v || s.activeSet off || s.protects off || fs.any (fun f => !legalValue off f (fieldOf v f.lo f.w)) ||
      (!s.quiescent off && fs.any (fun f => f.cls == .s))

/-- A write by the applier, which waits for the retained write that it causes (R456, R540); answers whether it was
refused. -/
def State.cfgWrite (s : State) (off : Nat) (v : Word) : State × Bool :=
  let bad := s.fieldRefused off v
  let r := s.writeReg applier none off v
  let old := r.1.ret.queue.take s.ret.queue.length
  let new := (r.1.ret.queue.drop s.ret.queue.length).map (fun w => if w.who = some applier then { w with who := none } else w)
  let key := if (regAt off).isSome ∧ new.any (fun w => w.key == backKey off) then some (backKey off)
    else (new.getLast?).map (·.key)
  ((r.1.withRet { r.1.ret with queue := old ++ new }).onBoot (fun b => { b with cfgKey := key }), r.2 = 1 || r.2 = 2 || bad)

/-- The applier's access needs a sub-domain that is down and not quarantined, which starts to wake (R400). -/
def State.cfgAsleep (s : State) (off : Nat) : Option State :=
  (if s.shutOff off then none else s.asleep off).map s.startWake

/-- The applier may act: application runs, and its record waits for nothing. -/
def State.cfgReady (s : State) : Bool := s.boot.aux && s.boot.cfg.isSome && s.boot.cfgKey.isNone

/-- CFG_RECORD_WRITE (R456). A write of a page of Borage ends with Borage's answer (R369). -/
def execCfgRecordWrite (s : State) : Outcome State Fault Refusal :=
  if !s.cfgReady || s.boot.cfgGo then .next s
  else match s.cfgRec with
    | some (.write off v) =>
      match s.cfgAsleep (off.toNat / 4 * 4) with
      | some s' => .next s'
      | none =>
        let r := s.cfgWrite (off.toNat / 4 * 4) v
        .next (if r.2 then r.1.cfgFail
          else if pgSlot (off.toNat / 4096) = 12 then r.1.onBoot (fun b => { b with cfgGo := true })
          else if r.1.boot.cfgKey.isSome then r.1
          else r.1.cfgNext)
    | _ => .next s

/-- A COMMIT record of a page of Borage: GO is sent, and once it has been taken COMMIT is read until PENDING is 0; each ends with
Borage's answer (R369, R456). -/
def State.cfgCommitBrg (s : State) (p : Nat) : State :=
  if s.boot.cfgGo then s
  else
    let go := fun (s : State) => s.onBoot (fun b => { b with cfgGo := true })
    if s.boot.cfgPend then
      let r := s.readReg applier (p * 4096 + 0x20)
      if r.2.1 = 9 then go r.1 else r.1.cfgFail
    else
      let r := s.cfgWrite (p * 4096 + 0x20) 1
      if r.2 then r.1.cfgFail else go r.1

/-- CFG_RECORD_COMMIT (R456): GO, then PENDING reads 0. -/
def execCfgRecordCommit (s : State) : Outcome State Fault Refusal :=
  if !s.cfgReady then .next s
  else match s.cfgRec with
    | some (.commit off) =>
      let p := off.toNat / 4096
      if pgSlot p = 12 then .next (s.cfgCommitBrg p) else
      let r := if s.boot.cfgGo then (s, false) else s.cfgWrite (p * 4096 + 0x20) 1
      .next (if r.2 then r.1.cfgFail
        else if r.1.regs.pending.contains p then r.1.onBoot (fun b => { b with cfgGo := true })
        else r.1.cfgNext)
    | _ => .next s

/-- What a WAIT record does with a value that it has read. -/
def State.cfgCompare (s : State) (got v mask : Word) : State := if got &&& mask = v &&& mask then s.cfgNext else s

/-- CFG_RECORD_WAIT (R456): the offset is read until the masked value matches, within the TIMEOUT. -/
def execCfgRecordWait (s : State) : Outcome State Fault Refusal :=
  if !s.cfgReady || s.boot.cfgGo then .next s
  else match s.cfgRec with
    | some (.wait off v mask t) =>
      if s.boot.cfgAt + us t < s.now then .next s
      else match s.cfgAsleep (off.toNat / 4 * 4) with
        | some s' => .next s'
        | none =>
          let r := s.readReg applier (off.toNat / 4 * 4)
          .next (if r.2.1 = 9 then r.1.onBoot (fun b => { b with cfgGo := true }) else r.1.cfgCompare r.2.2 v mask)
    | _ => .next s

/-- CFG_WAIT_TIMEOUT (R456). -/
def execCfgWaitTimeout (s : State) : Outcome State Fault Refusal :=
  match s.cfgRec with
  | some (.wait _ _ _ t) => .next (s.when s.cfgReady (fun s => (s.reach (s.boot.cfgAt + us t)).cfgFail))
  | _ => .next s

/-- CFG_RECORD_END (R456): an END record or the end of the body ends the application; a record with a reserved OP stops
it. -/
def execCfgRecordEnd (s : State) : Outcome State Fault Refusal :=
  if !s.cfgReady then .next s
  else match s.cfgRec with
    | some .finish | none => .next (s.onBoot (fun b => { b with cfg := none, cfgGo := false }))
    | some .reserved => .next s.cfgFail
    | some _ => .next s

/-- An answer of Borage to an access of the applier (R369, R456); none where the access is not the applier's. -/
def State.cfgAnswer (s : State) (h : HeldAccess) (got : Option Word) : Option State :=
  if h.m = applier ∧ s.boot.cfgGo then
    let s := s.onBoot (fun b => { b with cfgGo := false })
    match s.cfgRec with
    | some (.write off _) =>
      if h.off = off.toNat / 4 * 4 then some (if got.isSome then s.cfgNext else s.cfgFail) else none
    | some (.wait off v mask _) =>
      if h.off = off.toNat / 4 * 4 then some (s.cfgCompare (got.getD 0) v mask) else none
    | some (.commit off) =>
      if h.off ≠ off.toNat / 4096 * 4096 + 0x20 then none
      else match got with
        | none => some s.cfgFail
        | some v =>
          some (if h.wr.isSome then s.onBoot (fun b => { b with cfgPend := true }) else if v.getLsbD 1 then s else s.cfgNext)
    | _ => none
  else none

/-! ### Borage's answers -/

/-- A register access that waits for Borage under a tag (R369). -/
def State.regPending (s : State) (tag : Nat) : Option FwdReq := s.brg.fwd.find? (fun r => r.tag == tag && r.m.isSome)

/-- An access that waited ends: it is the configuration applier's, or its master's (R369, R438). -/
def State.accessEnds (s : State) (h : HeldAccess) (got : Option Word) (status : Nat) : State :=
  match s.cfgAnswer h got with
  | some t => t
  | none => s.answerWait h got status

/-- An access that was sent to Borage ends with a value, or as a page without a site with a STATUS (R369, R529). -/
def State.brgAnswer (s : State) (r : FwdReq) (got : Option Word) (status : Nat) : State :=
  let s := s.withBrg { s.brg with fwd := s.brg.fwd.filter (fun x => x.tag != r.tag) }
  let s := s.when got.isNone (fun s => s.wstat 16 16)
  let h : HeldAccess := { m := r.m.getD .bmc, off := r.off, wr := r.wr }
  (s.accessEnds h got status).goOn

/-- Borage answers a register access (R369). -/
def State.regAnswer (s : State) (tag : Nat) (val : Word) (err : Bool) : State :=
  match s.regPending tag with
  | some r => s.brgAnswer r (if err then none else some val) 2
  | none => s

/-- REGRSP (R369). -/
def execRegrsp (tag : BitVec 10) (val : Word) (err : Bool) (s : State) : Outcome State Fault Refusal :=
  .next (s.regAnswer tag.toNat val err)

/-- A register access has not been sent yet: it waits for credits (R354, R369). -/
def State.regUnsent (s : State) (tag : Nat) : Bool :=
  [15, 16, 17, 18].any (fun e => (s.mod e).sendq.any (fun m => match m with
    | .regReq t _ _ _ => t == tag
    | _ => false))

/-- When a register access left for Borage (R369). -/
def State.regLeft (s : State) (r : FwdReq) : Nat :=
  [15, 16, 17, 18].foldl (fun t e => max t (look 0 (s.mod e).regAt r.tag)) r.at_

/-- REGRD_TIMEOUT (R369, R377, R472): 100 us after the access was sent BRG_REG_TO is raised, which names the module end, and
the BMC receives STATUS 5. -/
def execRegrdTimeout (tag : BitVec 10) (s : State) : Outcome State Fault Refusal :=
  match s.regPending tag.toNat with
  | some r =>
    if s.regUnsent tag.toNat then .next s
    else .next (((s.reach (s.regLeft r + us 100)).brgAnswer r none 5).raise
      { src := 651, site := siteOfPage brgPage, subject := (s.brgEnd 0).getD 15, detail := [r.off % 2 ^ 24] })
  | none => .next s

/-! ### Sub-domains that wake -/

/-- SUBDOMAIN_WAKE (R400): a sub-domain that something powers up, with the accesses that waited for it. -/
def execSubdomainWake (sd : SubDomain) (s : State) : Outcome State Fault Refusal :=
  let d := sdDomains sd
  .next (s.when (s.boot.main && s.sdWanted sd && s.clk.down.getLsbD d.1 && !s.clk.quar.contains d.1) (fun s =>
    (s.powerUp d (sdAuto sd)).wakeHeld.runAll.goOn))

/-- When a sub-domain that is down began to wake: for an access, or for work that was assigned to it (R400). -/
def State.wakeBegan (s : State) (sd : SubDomain) : Option Nat :=
  let t := look? s.clk.waking (sdDomains sd).1
  match sd with
  | .engine1 u => t.or (if s.engineDown (2 * u.val + 1) then (s.eng (2 * u.val + 1)).workAt else none)
  | _ => t

/-- SUBDOMAIN_WAKE_TIMEOUT (R400): the fault is filed as class S at the site, and the sub-domain, which is its own unit,
stays down; the accesses that waited for it are answered as for a page that does not answer, and its work goes elsewhere. -/
def execSubdomainWakeTimeout (sd : SubDomain) (s : State) : Outcome State Fault Refusal :=
  let d := sdDomains sd
  match s.wakeBegan sd with
  | some t =>
    let s := s.reach (t + us 30)
    let s := s.onClk (fun c => { c with waking := wipe c.waking d.1, quar := c.quar ++ [d.1] })
    let out := s.clk.held.filter (fun h => s.asleep h.off == some d.1)
    let s := s.onClk (fun c => { c with held := c.held.filter (fun h => s.asleep h.off != some d.1) })
    let s := s.each out (fun s h => (s.wstat 16 16).answerWait h none 2)
    let s := match sd with
      | .engine1 u => (s.engineStop (2 * u.val + 1)).onEng (2 * u.val + 1) (fun e => { e with faultAt := none, workAt := none })
      | _ => s
    .next ((s.fileP (sdPage sd) 3 0).raiseClk 22 (sdPage sd) d.1).runAll.goOn
  | none => .next s

/-- WAKE_IN_RECOGNISED (R402, R403, R407): two samples have found the pin at its active level, which POLn gives; the next
recognition comes after two inactive samples and two more active ones. PWR_WAKE_PIN, then the pin's action. -/
def execWakeInRecognised (n : Fin 2) (s : State) : Outcome State Fault Refusal :=
  let act := s.cfg pwrPage 0x84 (1 + 3 * n.val) 2
  .next (s.when s.boot.aux (fun s =>
    let s := match look? s.clk.wakeInAt n.val with
      | some t => s.reach (t + us 122)
      | none => s
    let s := (s.onClk (fun c => { c with
      seen := c.seen ||| BitVec.ofNat 2 (2 ^ n.val), wakeInAt := enter s.now c.wakeInAt n.val })).raiseClk 21 pwrPage n.val
    let s := s.when ((act == 1 || act == 3) && s.boot.main) (fun s =>
      (s.each (autoSubs.filter (fun d => !s.clk.quar.contains (sdDomains d).1)) (fun s d =>
        s.powerUp (sdDomains d) true)).wakeHeld.runAll.goOn)
    s.when (act == 2 || act == 3) State.wakeLeave))

/-! ### The retained store -/

/-- RSTORE_DATA_WRITE (R458, R461). -/
def execRstoreDataWrite (m : Master) (val : Word) (s : State) : Outcome State Fault Refusal :=
  .next (s.access { m := m, off := rstorePage * 4096 + 0x84, wr := some val })

/-- How the end of a retained write shows to the requester that waited for it where it was refused: STATUS 3, an access
fault, or nothing (R460, R540). -/
def State.retRefused (s : State) (who : Option Master) : State :=
  match who with
  | some .bmc => s.onMgmt (fun g => { g with sb := g.sb.map (fun j => { j with status := 3 }) })
  | some (.core c) => s.emit (.accessFault c.val)
  | some (.host ld) => s.onMgmt (fun g => { g with
      mb := g.mb.map (fun j => if j.1 = ld ∧ j.2.busy then (j.1, { j.2 with status := 3 }) else j) })
  | none => s

/-- A retained write that is refused for wear (R421, R460, R478, R540). -/
def State.retWorn (s : State) (w : RetWrite) : State :=
  let s := s.withRet { s.ret with result := 1, refused := satAdd 0xFFFF s.ret.refused 1 }
  let s := (s.raiseAt 40 rstorePage (keyWord w.key)).retRefused w.who
  let s := s.when (decide (0x10000 ≤ w.key)) (fun s => s.setStatus ((w.key - 0x10000) / 4096) 3)
  let s := s.when (w.key == 0xA08) (fun s => (s.onHsc (fun h => { h with refused := true })).raiseBoot 30 0 [])
  s.when (w.key == 0xA06) (fun s => s.onMgmt (fun g => { g with committing := false }))

/-- A retained write that is performed (R460, R462, R478). -/
def State.retDone (s : State) (w : RetWrite) : State :=
  let wear := look 0 s.ret.wear w.key
  let same := s.retWord w.key == w.val && !s.ret.ue.contains w.key
  let s := s.withRet { s.ret with
    result := 0, words := put (factoryWord w.key) s.ret.words w.key w.val, ue := s.ret.ue.filter (· != w.key),
    wear := if same then s.ret.wear else put 0 s.ret.wear w.key (min 0xFFFFFFFF (wear + 1)) }
  let s := s.when (!same && (wear == 1000000 || wear == 2000000 || wear == 3000000)) (fun s =>
    s.raiseAt 41 rstorePage (keyWord w.key))
  let s := s.when (w.key == 0xA06 && s.mgmt.committing) (fun s =>
    (s.onMgmt (fun g => { g with committing := false, committed := true })).raiseAt 45 dillPage (w.val.toNat % 2))
  s.when (decide (0x10000 ≤ w.key) && kindOf ((w.key - 0x10000) / 4096) == .kHpgs) State.hrdySync

/-- The write at the front of the store's queue ends: the next one starts, and what waited for it goes on. -/
def State.retFront (s : State) (w : RetWrite) (rest : List RetWrite) : State :=
  let worn := s.wornOut w
  let next := match rest with
    | [] => []
    | e :: l => { e with at_ := s.now } :: l
  let s := s.withRet { s.ret with queue := next }
  let s := if worn then s.retWorn w else s.retDone w
  let s := s.when (s.boot.cfgKey == some w.key && !next.any (fun e => e.key == w.key)) (fun s =>
    if worn then s.cfgFail else s.cfgNext)
  s.goOn

/-- RSTORE_WRITE_DONE (R458, R460): 25 us after the write at the front started; one that is refused takes no
time. -/
def execRstoreWriteDone (s : State) : Outcome State Fault Refusal :=
  if !s.boot.aux then .next s
  else match s.ret.queue with
    | [] => .next s
    | w :: rest => .next ((if s.wornOut w then s else s.reach (w.at_ + us 25)).retFront w rest)

/-- RETAINED_WORD_UE (R462): the word reads as 0 until it is written. -/
def execRetainedWordUe (w : BitVec 16) (s : State) : Outcome State Fault Refusal :=
  let k := rawKey w.toNat
  .next (s.when (s.boot.aux && !s.ret.ue.contains k) (fun s =>
    let s := s.withRet { s.ret with result := 2, ue := s.ret.ue ++ [k] }
    (s.raiseAt 42 rstorePage w.toNat).faultP rstorePage 2 0))

/-! ### Firmware update -/

/-- A write of FWU.CMD by a master. -/
def State.writeFwu (s : State) (m : Master) (v : Word) : State := (s.gate m fwuOff v (fun s => s.fwuCmd m v)).goOn

/-- FWU_VERIFY (R475). -/
def execFwuVerify (m : Master) (s : State) : Outcome State Fault Refusal := .next (s.writeFwu m 1)

/-- FWU_LOAD (R475). -/
def execFwuLoad (m : Master) (s : State) : Outcome State Fault Refusal := .next (s.writeFwu m 2)

/-- FWU_READY (R475). -/
def execFwuReady (m : Master) (s : State) : Outcome State Fault Refusal := .next (s.writeFwu m 3)

/-- FWU_SWITCH (R476). -/
def execFwuSwitch (m : Master) (s : State) : Outcome State Fault Refusal := .next (s.writeFwu m 4)

/-- FWU_CONFIRM (R478). -/
def execFwuConfirm (m : Master) (s : State) : Outcome State Fault Refusal := .next (s.writeFwu m 5)

/-- FWU_ROLLBACK (R475, R476). -/
def execFwuRollback (m : Master) (s : State) : Outcome State Fault Refusal := .next (s.writeFwu m 6)

/-- TRIAL_TIMEOUT (R475): FWU.CFG.TRIAL seconds without CONFIRM. -/
def execTrialTimeout (s : State) : Outcome State Fault Refusal :=
  .next (s.when (s.boot.aux && s.mgmt.fwu == .trial && s.mgmt.switching.isNone) (fun s =>
    ((s.reach s.mgmt.trialEnd).startSwitch true).goOn))

/-- FWU_CANCEL (R475). -/
def execFwuCancel (m : Master) (s : State) : Outcome State Fault Refusal := .next (s.writeFwu m 7)

/-- RAISE_SVN (R478). -/
def execRaiseSvn (m : Master) (s : State) : Outcome State Fault Refusal := .next (s.writeFwu m 8)

end Sys2Proof.Machine
end

