-- ==== Sys2Proof/Machine/CoreMemory.lean ====
section
/-! DEFINITION. Loads, fetches and stores of the management cores over their memory map, caches and write buffers
(R447-R451, R458, R461). -/

namespace Sys2Proof.Machine

open Host (Outcome)

/-- The regions of a core's memory map (R447). -/
inductive CoreRegion
  | rom | image | shared | discard | log | retained | window
  deriving DecidableEq, Repr

/-- The region of an address; none: outside the map (R447). -/
def regionOf (a : Nat) : Option CoreRegion :=
  if a < 0x10000 then some .rom
  else if 0x10000000 ≤ a ∧ a < 0x10300000 then some .image
  else if 0x10300000 ≤ a ∧ a < 0x10380000 then some .shared
  else if 0x10380000 ≤ a ∧ a < 0x10400000 then some .discard
  else if 0x10400000 ≤ a ∧ a < 0x10800000 then some .log
  else if 0x20000000 ≤ a ∧ a < 0x20040000 then some .retained
  else if 0x40000000 ≤ a ∧ a < 0x50000000 then some .window
  else none

/-- A region that caches may hold, from which instructions may be fetched (R447, R448). -/
def CoreRegion.cacheable : CoreRegion → Bool
  | .rom | .image => true
  | _ => false

/-- The entry of the discard list in Dill's SRAM: the DPA of a line (R299, R447). -/
def State.discardWord (s : State) (k : Nat) : Nat :=
  (((s.flt.discard.filter (fun d => !d.ext))[k]?).map (fun d => 64 * d.what)).getD 0

/-- A byte of a core's memory map, the register window apart (R447). -/
def State.memByte (s : State) (a : Nat) : Byte :=
  match regionOf a with
  | some .rom => Config.bootRom a
  | some .image | some .shared => look 0 s.core.sram a
  | some .discard => (toBytes 8 (s.discardWord ((a - 0x10380000) / 8))).getD (a % 8) 0
  | some .log => (((look? s.evt.ring ((a - 0x10400000) / 64)).map logBytes).getD []).getD (a % 64) 0
  | some .retained => (toBytes 4 (s.rawWord ((a - 0x20000000) / 4)).toNat).getD (a % 4) 0
  | some .window | none => 0

/-- Bytes of a core's memory map. -/
def State.memBytes (s : State) (a n : Nat) : List Byte := (upTo n).map (fun k => s.memByte (a + k))

/-- Bytes with the writes that a core's write buffer still holds laid over them, oldest first (R449). -/
def overlay (buf : List BufWrite) (a : Nat) (d : List Byte) : List Byte :=
  buf.foldl (fun d w => (upTo d.length).zipWith (fun k b =>
    if w.addr ≤ a + k ∧ a + k < w.addr + w.data.length then w.data.getD (a + k - w.addr) 0 else b) d) d

/-- An access fault of a core: it changes nothing (R447). -/
def State.fault_ (s : State) (c : Nat) : State := s.emit (.accessFault c)

/-! ### Loads and fetches -/

/-- A load or fetch of a cacheable doubleword: from the cache or its victim cache, or from memory with the line filled;
a set whose contents are undefined gives undefined bytes (R448, R449, R451). -/
def State.cachedLoad (s : State) (c a : Nat) (fetch : Bool) : State :=
  let sel := if fetch then CacheSel.instr else .data
  let m := s.mcore c
  let k := m.cache sel
  let buf := if fetch then [] else m.wbuf
  let line := a / 64
  let give := fun (s : State) (d : List Byte) => s.emit (.loadData c (BitVec.ofNat 64 (ofBytes d)))
  if !k.en then give s (overlay buf a (s.memBytes a 8))
  else if k.undefined (cacheSet line) then
    (give s ((upTo 8).map (fun i => Config.staleByte (s.free + i)))).withFree (s.free + 8)
  else match k.find line with
    | some d =>
      give (s.onMcore c (fun m => { m.onCache (fun k => k.touch line m.use) sel with use := m.use + 1 })) ((d.drop (a % 64)).take 8)
    | none =>
      let d := overlay buf (64 * line) (s.memBytes (64 * line) 64)
      give (s.onMcore c (fun m => { m.onCache (fun k => k.place line d m.use) sel with use := m.use + 1 })) ((d.drop (a % 64)).take 8)

/-! ### The write buffer -/

/-- A write of the firmware area of the retained store: each word that it touches is one retained write, for which the
core's store is held (R458, R461). -/
def State.retStore (s : State) (c : Fin 2) (w : BufWrite) : State :=
  let first := (w.addr - 0x20000000) / 4
  let last := (w.addr + w.data.length - 1 - 0x20000000) / 4
  s.each ((upTo (last + 1 - first)).map (· + first)) (fun s k =>
    let old := toBytes 4 (s.futureWord k).toNat
    s.retWrite k (BitVec.ofNat 32 (ofBytes (overlay [w] (0x20000000 + 4 * k) old))) (some (.core c)))

/-- A store's place in the write buffer; one that hits updates the data cache (R449). -/
def MCore.put (m : MCore) (w : BufWrite) : MCore :=
  { m with
    wbuf := m.wbuf ++ [w], use := m.use + 1,
    dc := if regionOf w.addr = some .image then m.dc.store w.addr w.data m.use else m.dc }

/-- The oldest write of a core's write buffer has reached memory: the store that waited for a place takes it, and cleans end
(R449, R450). -/
def State.popWrite (s : State) (c : Nat) : State :=
  (s.onMcore c (fun m =>
    let m := { m with wbuf := m.wbuf.drop 1 }
    match m.stall with
    | some w => ({ m with stall := none } : MCore).put w
    | none => m)).cleansEnd c

/-- The oldest write of a core's write buffer reaches memory; a write of the window waits while an access of the core is under
way, and one of the retained store stays until the store has performed it (R449, R458, R540). -/
def State.drainOne (s : State) (c : Fin 2) : State :=
  match (s.mcore c.val).wbuf with
  | [] => s
  | w :: rest =>
    match regionOf w.addr with
    | some .image | some .shared =>
      (s.withCore { s.core with sram := putBytes s.core.sram w.addr w.data }).popWrite c.val
    | some .retained =>
      if s.waiting (.core c) then s
      else if w.sent then s.popWrite c.val
      else if s.inAccess (.core c) then s
      else
        let s := (s.onMcore c.val (fun m => { m with wbuf := { w with sent := true } :: rest })).retStore c w
        if s.waiting (.core c) then s else s.popWrite c.val
    | some .window =>
      if s.inAccess (.core c) then s
      else (s.popWrite c.val).perform { m := .core c, off := w.addr - 0x40000000, wr := some (BitVec.ofNat 32 (ofBytes w.data)) }
    | _ => s.popWrite c.val

/-- The write buffer is emptied as far as it can be. -/
def drainAll : Nat → Fin 2 → State → State
  | 0, _, s => s
  | n + 1, c, s => drainAll n c (s.drainOne c)

/-- WRITE_BUFFER_DRAIN (R449). -/
def execWriteBufferDrain (c : Fin 2) (s : State) : Outcome State Fault Refusal :=
  .next (s.when s.boot.aux (fun s => (s.drainOne c).goOn))

/-! ### Commands -/

/-- A core executes: AUX is present, the core is not halted, and no store of its waits for a place in its write buffer (R446,
R449). -/
def State.coreRuns (s : State) (c : Nat) : Bool := s.boot.aux && !(s.mcore c).halted && (s.mcore c).stall.isNone

/-- CORE_LOAD (R447, R448): a load gives the aligned doubleword at its address, from the register window the aligned
word. -/
def execCoreLoad (c : Fin 2) (addr : BitVec 32) (fetch : Bool) (s : State) : Outcome State Fault Refusal :=
  let a := addr.toNat
  if !s.coreRuns c.val then .next s
  else match regionOf a with
    | none => .next (s.fault_ c.val)
    | some r =>
      if r.cacheable then .next (s.cachedLoad c.val (a / 8 * 8) fetch)
      else if fetch then .next (s.fault_ c.val)
      else if r = .window then
        if a % 4 ≠ 0 then .next (s.fault_ c.val)
        else .next (((drainAll 8 c s).access { m := .core c, off := a - 0x40000000, wr := none }).goOn)
      else
        .next (s.emit (.loadData c.val
          (BitVec.ofNat 64 (ofBytes (overlay (s.mcore c.val).wbuf (a / 8 * 8) (s.memBytes (a / 8 * 8) 8))))))

/-- What a store may do: 0 it faults, 1 it is performed, 2 it names a word that only the hardware writes (R447, R461,
R528). -/
def storeAllowed (a n : Nat) : Nat :=
  if regionOf a ≠ regionOf (a + n - 1) then 0
  else match regionOf a with
    | some .image | some .shared => 1
    | some .retained => if a < 0x20004000 then 2 else 1
    | some .window => if n = 4 ∧ a % 4 = 0 then 1 else 0
    | _ => 0

/-- CORE_STORE (R447, R449, R461): a store that hits updates the data cache, and enters the write buffer, of which a full
one makes room first; where it cannot, the store waits for its place, and the core with it. -/
def execCoreStore (c : Fin 2) (addr : BitVec 32) (size : Fin 4) (data : BitVec 64) (s : State) :
    Outcome State Fault Refusal :=
  let a := addr.toNat
  let n := 2 ^ size.val
  if !s.coreRuns c.val then .next s
  else if storeAllowed a n = 0 then .next (s.fault_ c.val)
  else if storeAllowed a n = 2 then .next (s.rstoreProtected.fault_ c.val)
  else
    let s := if (s.mcore c.val).wbuf.length < 8 then s else (s.drainOne c).goOn
    let w : BufWrite := { addr := a, data := toBytes n data.toNat }
    .next (s.onMcore c.val (fun m => if m.wbuf.length < 8 then m.put w else { m with stall := some w }))

end Sys2Proof.Machine
end

