-- ==== Sys2Proof/Machine/Received.lean ====
section
/-! DEFINITION. What the message flits of Borage carry: the header and data slots of each message are decoded, and the message
acts as the command that stands for it does (R346, R348, R359-R361, R366-R370). -/

namespace Sys2Proof.Machine

open Host (Outcome)

/-- A field of some data slots, the most significant byte at the lowest index (R346). -/
def slotField (d : List (List Byte)) (k n : Nat) : Nat :=
  (((d.drop k).take n).flatten).foldl (fun a b => a * 256 + b.toNat) 0

/-- The line in the eight data slots from slot k on: byte u of slot j is line byte 8 j + u (R346). -/
def slotLine (d : List (List Byte)) (k : Nat) : Line := BitVec.ofNat 512 (ofBytes ((d.drop k).take 8).flatten)

/-- The atomic of an Atomic message: byte 0 of slot 0 is the operation, byte 1 its size, byte 2 the offset of the operand; one
that R152 does not name answers none (R361). -/
def slotAtomic (d : List (List Byte)) : Option ReqKind :=
  let b := fun (k : Nat) => ((d.headD []).getD k 0).toNat
  let op := if b 0 = 1 then some AtomicKind.fetchAdd else if b 0 = 2 then some .swap else if b 0 = 3 then some .cas else none
  let ok := (b 1 == 4 || b 1 == 8 || (b 1 == 16 && b 0 == 3)) && b 2 % b 1 == 0 && decide (b 2 < 64)
  match op with
  | some op => if ok then
      some (.atomic op (b 1) (b 2) (BitVec.ofNat 128 (slotField d 1 2)) (BitVec.ofNat 128 (slotField d 3 2))) else none
  | none => none

/-- An atomic of a Borage agent; one that the atomic unit does not execute is refused (R152, R361, R366). -/
def State.gotAtomic (s : State) (a tag line : Nat) (cred : Bool) (d : List (List Byte)) : State :=
  match slotAtomic d with
  | some k => s.brgRequest a tag line k false cred
  | none => s.when (s.brgEnd (homeOf (lnPage line))).isSome (fun s => s.brgTurn a tag line (.atomic .cas 0 0 0 0))

/-- A message of Borage acts, by its opcode (R359-R361, R365-R370). -/
def State.gotMsg (s : State) (m : Nat × List (List Byte)) : State :=
  let f := fun (lo w : Nat) => bits m.1 lo w
  let tag := f 48 10
  let a := 64 + f 44 4
  let line := f 0 40
  let up := f 43 1 == 1
  let keep := f 40 1 == 1
  let d := m.2
  match f 58 6 with
  | 0x01 => s.brgRequest a tag line (.read .none) false up
  | 0x02 => s.brgRequest a tag line (.read .s) true up
  | 0x03 => s.brgRequest a tag line (.read .a) true up
  | 0x04 => s.brgRequest a tag line (.inv .a) true up
  | 0x05 => s.brgRequest a tag line .clnEvct false up
  | 0x06 | 0x08 => s.brgRequest a tag line (.write (keepMv keep) (slotLine d 0) false) false false
  | 0x07 => s.brgRequest a tag line
      (.writePtl (keepMv keep) (BitVec.ofNat 64 (slotField d 0 1)) (slotLine d 1) false) false false
  | 0x09 => s.gotAtomic a tag line up d
  | 0x18 => s.fwdAnswer tag (slotLine d 0) up
  | 0x28 => s.snpAnswer a line .i none
  | 0x29 => s.snpAnswer a line .i (some (slotLine d 0))
  | 0x2A => s.snpAnswer a line .s none
  | 0x2B => s.snpAnswer a line .s (some (slotLine d 0))
  | 0x2C => s.snpAnswer a line .e none
  | 0x2D => s.snpAnswer a line .e (some (slotLine d 0))
  | 0x2E => s.snpConflict a line
  | 0x38 => s.regAnswer tag (BitVec.ofNat 32 (slotField d 0 1)) up
  | 0x39 => s.brgEvent (f 0 6) (slotField d 0 1)
  | _ => s

/-- The messages that an end has received whole act, in their order; those between chiplets of the device act with the
commands that send them (assumption 122). -/
def State.gotMsgs (e : Nat) (r : State × List (Nat × List (List Byte))) : State :=
  if brgModEnd e then r.1.each r.2 State.gotMsg else r.1

/-- A flit that arrives while message flits are not accepted is counted where it fails its CRC (R379; assumption 24); a message
flit that REPLAY_WAIT discards is not checked (R352). -/
def State.strayFlit (s : State) (e : Nat) (f : BitVec 512) : State :=
  let k := s.mod e
  let bad := if flitKind f = 1 then !flitOk f 0xF000 else k.st != .active && !k.replayWait && !flitOk f k.next_
  s.when bad (fun s => s.crcFailed e)

/-- MESSAGE_FLIT (R346-R349, R352): a flit arrives. A message reaches the block in its flits, or as a command of its own, which
stands for a message whose flits were accepted (assumption 24). -/
def execMessageFlit (e : Fin 34) (flit : BitVec 512) (s : State) : Outcome State Fault Refusal :=
  let k := s.mod e.val
  if !flitsCross k.st then .next s
  else if flitKind flit == 1 && flitOk flit 0xF000 then .next (s.fabricOp e.val (fun s => s.takeCtl e.val flit))
  else if k.st == .active && !k.replayWait then
    .next (s.fabricOp e.val (fun s => State.gotMsgs e.val (s.takeFlit e.val flit)))
  else .next (s.strayFlit e.val flit)

end Sys2Proof.Machine
end

