-- ==== Sys2Proof/Machine/Dispatch.lean ====
section
/-! DEFINITION. One arm per command: a direct call of its meaning. -/

namespace Sys2Proof.Machine

/-- The effect of a command on everything but the queue. -/
def exec (i : Instr) (s : State) : Host.Outcome State Fault Refusal :=
  match i with
  | .perstNAssert g => Sys2Proof.Machine.execPerstNAssert g s
  | .perstNRelease g => Sys2Proof.Machine.execPerstNRelease g s
  | .refclkLoss g => Sys2Proof.Machine.execRefclkLoss g s
  | .linkUp l o => Sys2Proof.Machine.execLinkUp l o s
  | .recoveryEntry l byHost => Sys2Proof.Machine.execRecoveryEntry l byHost s
  | .recoveryExit l res => Sys2Proof.Machine.execRecoveryExit l res s
  | .hostLinkRequest l r => Sys2Proof.Machine.execHostLinkRequest l r s
  | .l0pNarrow l w agreed => Sys2Proof.Machine.execL0pNarrow l w agreed s
  | .l0pWiden l agreed => Sys2Proof.Machine.execL0pWiden l agreed s
  | .l1Entry l => Sys2Proof.Machine.execL1Entry l s
  | .l1Exit l => Sys2Proof.Machine.execL1Exit l s
  | .pmeTurnOff l => Sys2Proof.Machine.execPmeTurnOff l s
  | .linkDown l => Sys2Proof.Machine.execLinkDown l s
  | .agentSweepEnd w => Sys2Proof.Machine.execAgentSweepEnd w s
  | .hotReset l => Sys2Proof.Machine.execHotReset l s
  | .linkDisable l => Sys2Proof.Machine.execLinkDisable l s
  | .flrInitiate ld => Sys2Proof.Machine.execFlrInitiate ld s
  | .flrComplete ld => Sys2Proof.Machine.execFlrComplete ld s
  | .hostMarginCommand g lane => Sys2Proof.Machine.execHostMarginCommand g lane s
  | .marginDone g lane => Sys2Proof.Machine.execMarginDone g lane s
  | .requesterCompletion ld tag addr data st => Sys2Proof.Machine.execRequesterCompletion ld tag addr data st s
  | .reqCto ld tag => Sys2Proof.Machine.execReqCto ld tag s
  | .configRequest ld fn op => Sys2Proof.Machine.execConfigRequest ld fn op s
  | .linkFlitCrcError l => Sys2Proof.Machine.execLinkFlitCrcError l s
  | .hostReplayRequest l seq => Sys2Proof.Machine.execHostReplayRequest l seq s
  | .memrd l ld hpa mv tag err => Sys2Proof.Machine.execMemrd l ld hpa mv tag err s
  | .memrddata l ld hpa tag => Sys2Proof.Machine.execMemrddata l ld hpa tag s
  | .memspecrd l ld hpa tag => Sys2Proof.Machine.execMemspecrd l ld hpa tag s
  | .memwr l ld hpa mv data poison tag => Sys2Proof.Machine.execMemwr l ld hpa mv data poison tag s
  | .memwrptl l ld hpa mv mask data poison tag => Sys2Proof.Machine.execMemwrptl l ld hpa mv mask data poison tag s
  | .meminv l ld hpa mv tag => Sys2Proof.Machine.execMeminv l ld hpa mv tag s
  | .memclnevct l ld hpa tag => Sys2Proof.Machine.execMemclnevct l ld hpa tag s
  | .cxlioApertureRead ld off len tag => Sys2Proof.Machine.execCxlioApertureRead ld off len tag s
  | .cxlioApertureWrite ld off data ep => Sys2Proof.Machine.execCxlioApertureWrite ld off data ep s
  | .atomicop ld tgt op size a b ep tag => Sys2Proof.Machine.execAtomicop ld tgt op size a b ep tag s
  | .bar0Write ld off data => Sys2Proof.Machine.execBar0Write ld off data s
  | .bar0Read ld off len tag => Sys2Proof.Machine.execBar0Read ld off len tag s
  | .birsp agent line r => Sys2Proof.Machine.execBirsp agent line r s
  | .biconflict agent line => Sys2Proof.Machine.execBiconflict agent line s
  | .biTimeout agent line => Sys2Proof.Machine.execBiTimeout agent line s
  | .creditGrant hs r => Sys2Proof.Machine.execCreditGrant hs r s
  | .hrdyRelease g => Sys2Proof.Machine.execHrdyRelease g s
  | .attentionPulseStart g => Sys2Proof.Machine.execAttentionPulseStart g s
  | .attentionPulseEnd g => Sys2Proof.Machine.execAttentionPulseEnd g s
  | .attnTest m g => Sys2Proof.Machine.execAttnTest m g s
  | .retrain m l => Sys2Proof.Machine.execRetrain m l s
  | .hdmDecoderCommit ld dec base size skip ways gran ctl => Sys2Proof.Machine.execHdmDecoderCommit ld dec base size skip ways gran ctl s
  | .tcmdReadEntry m table index => Sys2Proof.Machine.execTcmdReadEntry m table index s
  | .tcmdStageEntry m table index => Sys2Proof.Machine.execTcmdStageEntry m table index s
  | .grant m ext => Sys2Proof.Machine.execGrant m ext s
  | .pin m ext => Sys2Proof.Machine.execPin m ext s
  | .offer m ext => Sys2Proof.Machine.execOffer m ext s
  | .recall m ext => Sys2Proof.Machine.execRecall m ext s
  | .force m ext => Sys2Proof.Machine.execForce m ext s
  | .free m ext => Sys2Proof.Machine.execFree m ext s
  | .addDcResponse ld ext gen accept => Sys2Proof.Machine.execAddDcResponse ld ext gen accept s
  | .releaseDc ld exts => Sys2Proof.Machine.execReleaseDc ld exts s
  | .offerToExpiry ext => Sys2Proof.Machine.execOfferToExpiry ext s
  | .extentDrainEnd ext => Sys2Proof.Machine.execExtentDrainEnd ext s
  | .extentEraseEnd ext => Sys2Proof.Machine.execExtentEraseEnd ext s
  | .autoRecall => Sys2Proof.Machine.execAutoRecall s
  | .landDataWrite page rid off data ep => Sys2Proof.Machine.execLandDataWrite page rid off data ep s
  | .peerFlushRead page rid r => Sys2Proof.Machine.execPeerFlushRead page rid r s
  | .atomicBufferFlush line => Sys2Proof.Machine.execAtomicBufferFlush line s
  | .mcacheClean hs => Sys2Proof.Machine.execMcacheClean hs s
  | .mcacheFlush m hs => Sys2Proof.Machine.execMcacheFlush m hs s
  | .channelTrainingEnd c r => Sys2Proof.Machine.execChannelTrainingEnd c r s
  | .dqsTrack c => Sys2Proof.Machine.execDqsTrack c s
  | .caAlert c rank => Sys2Proof.Machine.execCaAlert c rank s
  | .quickRetrain c => Sys2Proof.Machine.execQuickRetrain c s
  | .quickRetrainEnd c ok => Sys2Proof.Machine.execQuickRetrainEnd c ok s
  | .refreshDue c rank sub busy => Sys2Proof.Machine.execRefreshDue c rank sub busy s
  | .refreshRepay c rank sub => Sys2Proof.Machine.execRefreshRepay c rank sub s
  | .mr4Poll c ranks => Sys2Proof.Machine.execMr4Poll c ranks s
  | .rfmRequest c rank sub bg ba => Sys2Proof.Machine.execRfmRequest c rank sub bg ba s
  | .fctlGo m c => Sys2Proof.Machine.execFctlGo m c s
  | .freqChangeEnd c ok => Sys2Proof.Machine.execFreqChangeEnd c ok s
  | .scrubRead c err => Sys2Proof.Machine.execScrubRead c err s
  | .dramReadReturn c off err perr => Sys2Proof.Machine.execDramReadReturn c off err perr s
  | .ceWindowStep c => Sys2Proof.Machine.execCeWindowStep c s
  | .spareRank m c rank => Sys2Proof.Machine.execSpareRank m c rank s
  | .spareCopyEnd c => Sys2Proof.Machine.execSpareCopyEnd c s
  | .softRepair c src => Sys2Proof.Machine.execSoftRepair c src s
  | .softRepairEnd r => Sys2Proof.Machine.execSoftRepairEnd r s
  | .hardRepair m c => Sys2Proof.Machine.execHardRepair m c s
  | .resilver m c => Sys2Proof.Machine.execResilver m c s
  | .cancelResilver m c => Sys2Proof.Machine.execCancelResilver m c s
  | .resilverEnd c => Sys2Proof.Machine.execResilverEnd c s
  | .svcDrain m c => Sys2Proof.Machine.execSvcDrain m c s
  | .svcPowerDown m c => Sys2Proof.Machine.execSvcPowerDown m c s
  | .svcReturn m c spd0 spd1 => Sys2Proof.Machine.execSvcReturn m c spd0 spd1 s
  | .svcCancel m c => Sys2Proof.Machine.execSvcCancel m c s
  | .channelDrainEnd c => Sys2Proof.Machine.execChannelDrainEnd c s
  | .dimmThermalRead c t0 t1 => Sys2Proof.Machine.execDimmThermalRead c t0 t1 s
  | .hotnessEpochAdvance => Sys2Proof.Machine.execHotnessEpochAdvance s
  | .sweepVisit page => Sys2Proof.Machine.execSweepVisit page s
  | .promotionStart page => Sys2Proof.Machine.execPromotionStart page s
  | .promotionCommit page fault => Sys2Proof.Machine.execPromotionCommit page fault s
  | .demotionStart page => Sys2Proof.Machine.execDemotionStart page s
  | .demotionCommit page e mismatch => Sys2Proof.Machine.execDemotionCommit page e mismatch s
  | .compactionStart u set cls => Sys2Proof.Machine.execCompactionStart u set cls s
  | .migrationMoveStart page why => Sys2Proof.Machine.execMigrationMoveStart page why s
  | .migrationMoveCommit page uncorr => Sys2Proof.Machine.execMigrationMoveCommit page uncorr s
  | .tierPromoteDomain m domain => Sys2Proof.Machine.execTierPromoteDomain m domain s
  | .tierCancel m => Sys2Proof.Machine.execTierCancel m s
  | .promoteDomainEnd => Sys2Proof.Machine.execPromoteDomainEnd s
  | .jobGo m e op resume => Sys2Proof.Machine.execJobGo m e op resume s
  | .jobCancel m e => Sys2Proof.Machine.execJobCancel m e s
  | .jobEnd e mismatch => Sys2Proof.Machine.execJobEnd e mismatch s
  | .engineFault e verify => Sys2Proof.Machine.execEngineFault e verify s
  | .engineRecovered e => Sys2Proof.Machine.execEngineRecovered e s
  | .overwriteWrite => Sys2Proof.Machine.execOverwriteWrite s
  | .retagStep hs => Sys2Proof.Machine.execRetagStep hs s
  | .retagEnd hs => Sys2Proof.Machine.execRetagEnd hs s
  | .rootArrayError hs => Sys2Proof.Machine.execRootArrayError hs s
  | .rootRebuildEnd hs rejected => Sys2Proof.Machine.execRootRebuildEnd hs rejected s
  | .chunkInit chunk => Sys2Proof.Machine.execChunkInit chunk s
  | .discardReport u what => Sys2Proof.Machine.execDiscardReport u what s
  | .dmqTailWrite m q tail => Sys2Proof.Machine.execDmqTailWrite m q tail s
  | .descriptorFetch q host => Sys2Proof.Machine.execDescriptorFetch q host s
  | .dmCopy q ix => Sys2Proof.Machine.execDmCopy q ix s
  | .dmFill q ix => Sys2Proof.Machine.execDmFill q ix s
  | .dmCompare q ix => Sys2Proof.Machine.execDmCompare q ix s
  | .dmCrc q ix => Sys2Proof.Machine.execDmCrc q ix s
  | .dmCompress q ix e => Sys2Proof.Machine.execDmCompress q ix e s
  | .dmDecompress q ix e => Sys2Proof.Machine.execDmDecompress q ix e s
  | .dmZeroReseal q ix => Sys2Proof.Machine.execDmZeroReseal q ix s
  | .dmBatchAtomic q ix => Sys2Proof.Machine.execDmBatchAtomic q ix s
  | .dmPeerCopy q ix => Sys2Proof.Machine.execDmPeerCopy q ix s
  | .peerFlushCompletion q ix st => Sys2Proof.Machine.execPeerFlushCompletion q ix st s
  | .dmRecordWrite q ix ok => Sys2Proof.Machine.execDmRecordWrite q ix ok s
  | .dmqAbort m q => Sys2Proof.Machine.execDmqAbort m q s
  | .dmqEnable m q v => Sys2Proof.Machine.execDmqEnable m q v s
  | .dlnkTrain e => Sys2Proof.Machine.execDlnkTrain e s
  | .dlnkTrainEnd e r => Sys2Proof.Machine.execDlnkTrainEnd e r s
  | .initParam e major minor rate vendor device rev => Sys2Proof.Machine.execInitParam e major minor rate vendor device rev s
  | .initCredit e adv => Sys2Proof.Machine.execInitCredit e adv s
  | .ackCredit e valid ackseq ret => Sys2Proof.Machine.execAckCredit e valid ackseq ret s
  | .replayStart e seq => Sys2Proof.Machine.execReplayStart e seq s
  | .linkReq e ch slot => Sys2Proof.Machine.execLinkReq e ch slot s
  | .linkRsp e accept => Sys2Proof.Machine.execLinkRsp e accept s
  | .messageFlit e flit => Sys2Proof.Machine.execMessageFlit e flit s
  | .ackTimer e => Sys2Proof.Machine.execAckTimer e s
  | .replayTimer e => Sys2Proof.Machine.execReplayTimer e s
  | .replayLimit e => Sys2Proof.Machine.execReplayLimit e s
  | .creditTimeout e cls => Sys2Proof.Machine.execCreditTimeout e cls s
  | .trainingPatternSeen e => Sys2Proof.Machine.execTrainingPatternSeen e s
  | .linkResetEnd e r => Sys2Proof.Machine.execLinkResetEnd e r s
  | .dlnkChangeEnd e ok => Sys2Proof.Machine.execDlnkChangeEnd e ok s
  | .dlnkRetrain m e => Sys2Proof.Machine.execDlnkRetrain m e s
  | .dlnkWidth m e => Sys2Proof.Machine.execDlnkWidth m e s
  | .dlnkRate m e => Sys2Proof.Machine.execDlnkRate m e s
  | .dlnkRetire m e => Sys2Proof.Machine.execDlnkRetire m e s
  | .dlnkReturn m e => Sys2Proof.Machine.execDlnkReturn m e s
  | .dlnkResetCmd m e => Sys2Proof.Machine.execDlnkResetCmd m e s
  | .rdcur a tag line cred => Sys2Proof.Machine.execRdcur a tag line cred s
  | .rdshared a tag line cred => Sys2Proof.Machine.execRdshared a tag line cred s
  | .rdown a tag line cred => Sys2Proof.Machine.execRdown a tag line cred s
  | .invown a tag line cred => Sys2Proof.Machine.execInvown a tag line cred s
  | .cleanevict a tag line cred => Sys2Proof.Machine.execCleanevict a tag line cred s
  | .wrfull a tag line keepS data => Sys2Proof.Machine.execWrfull a tag line keepS data s
  | .wrptl a tag line keepS mask data => Sys2Proof.Machine.execWrptl a tag line keepS mask data s
  | .wrback a tag line keepS data => Sys2Proof.Machine.execWrback a tag line keepS data s
  | .atomic a tag line cred op size off x y => Sys2Proof.Machine.execAtomic a tag line cred op size off x y s
  | .fwdrddata tag data err => Sys2Proof.Machine.execFwdrddata tag data err s
  | .snprsp a line keep data => Sys2Proof.Machine.execSnprsp a line keep data s
  | .snpconflict a line => Sys2Proof.Machine.execSnpconflict a line s
  | .regrsp tag val err => Sys2Proof.Machine.execRegrsp tag val err s
  | .evtraise k payload => Sys2Proof.Machine.execEvtraise k payload s
  | .borageRegAccess m off wr => Sys2Proof.Machine.execBorageRegAccess m off wr s
  | .regrdTimeout tag => Sys2Proof.Machine.execRegrdTimeout tag s
  | .fwdrdTimeout tag => Sys2Proof.Machine.execFwdrdTimeout tag s
  | .fwdwrTimeout ld => Sys2Proof.Machine.execFwdwrTimeout ld s
  | .brgFltNAssert => Sys2Proof.Machine.execBrgFltNAssert s
  | .brgFltFrame f => Sys2Proof.Machine.execBrgFltFrame f s
  | .borageBringupTimeout => Sys2Proof.Machine.execBorageBringupTimeout s
  | .xtalQualify x => Sys2Proof.Machine.execXtalQualify x s
  | .xtalQualifyTimeout => Sys2Proof.Machine.execXtalQualifyTimeout s
  | .xtalRetry => Sys2Proof.Machine.execXtalRetry s
  | .clockMonitorFlag c => Sys2Proof.Machine.execClockMonitorFlag c s
  | .slowOscCheck bad => Sys2Proof.Machine.execSlowOscCheck bad s
  | .refEdgeLoss loop => Sys2Proof.Machine.execRefEdgeLoss loop s
  | .loopRelock loop => Sys2Proof.Machine.execLoopRelock loop s
  | .refSwitch => Sys2Proof.Machine.execRefSwitch s
  | .clkSwap m => Sys2Proof.Machine.execClkSwap m s
  | .refRevert => Sys2Proof.Machine.execRefRevert s
  | .lockLossTimeout loop => Sys2Proof.Machine.execLockLossTimeout loop s
  | .fastOscDiscipline => Sys2Proof.Machine.execFastOscDiscipline s
  | .rootLoopLock => Sys2Proof.Machine.execRootLoopLock s
  | .clockGateStop d => Sys2Proof.Machine.execClockGateStop d s
  | .clockGateStart d => Sys2Proof.Machine.execClockGateStart d s
  | .dselChange m d src => Sys2Proof.Machine.execDselChange m d src s
  | .subdomainPowerDown sd => Sys2Proof.Machine.execSubdomainPowerDown sd s
  | .subdomainWake sd => Sys2Proof.Machine.execSubdomainWake sd s
  | .subdomainWakeTimeout sd => Sys2Proof.Machine.execSubdomainWakeTimeout sd s
  | .phyQuadWake l why => Sys2Proof.Machine.execPhyQuadWake l why s
  | .wakeInRecognised n => Sys2Proof.Machine.execWakeInRecognised n s
  | .auxReset why b => Sys2Proof.Machine.execAuxReset why b s
  | .vinOvervoltage mV => Sys2Proof.Machine.execVinOvervoltage mV s
  | .vinUndervoltage mV => Sys2Proof.Machine.execVinUndervoltage mV s
  | .vinWindowEntry mV => Sys2Proof.Machine.execVinWindowEntry mV s
  | .insertionDelayEnd => Sys2Proof.Machine.execInsertionDelayEnd s
  | .rampEnd vinMv voutMv => Sys2Proof.Machine.execRampEnd vinMv voutMv s
  | .startTimeout => Sys2Proof.Machine.execStartTimeout s
  | .currentLimitEntry => Sys2Proof.Machine.execCurrentLimitEntry s
  | .breakerExpiry => Sys2Proof.Machine.execBreakerExpiry s
  | .fastTrip => Sys2Proof.Machine.execFastTrip s
  | .fetModelTick vinMv voutMv iMa ntc dieC => Sys2Proof.Machine.execFetModelTick vinMv voutMv iMa ntc dieC s
  | .ntcInvalid => Sys2Proof.Machine.execNtcInvalid s
  | .ntcRecover degC => Sys2Proof.Machine.execNtcRecover degC s
  | .damagedTransistor => Sys2Proof.Machine.execDamagedTransistor s
  | .retryWaitEnd => Sys2Proof.Machine.execRetryWaitEnd s
  | .coolWaitEnd => Sys2Proof.Machine.execCoolWaitEnd s
  | .hscStart m => Sys2Proof.Machine.execHscStart m s
  | .hscStop m => Sys2Proof.Machine.execHscStop m s
  | .hscClearLatch m => Sys2Proof.Machine.execHscClearLatch m s
  | .hscClrShort m voutMv => Sys2Proof.Machine.execHscClrShort m voutMv s
  | .pgTick voutMv gateMv inLimit => Sys2Proof.Machine.execPgTick voutMv gateMv inLimit s
  | .pgOutLevelAge => Sys2Proof.Machine.execPgOutLevelAge s
  | .railEnable k => Sys2Proof.Machine.execRailEnable k s
  | .railGood k => Sys2Proof.Machine.execRailGood k s
  | .railTimeout k => Sys2Proof.Machine.execRailTimeout k s
  | .railRetry => Sys2Proof.Machine.execRailRetry s
  | .hrdyDeadline => Sys2Proof.Machine.execHrdyDeadline s
  | .rstWarm m => Sys2Proof.Machine.execRstWarm m s
  | .rstCold m => Sys2Proof.Machine.execRstCold m s
  | .rstEnterAuxOnly m => Sys2Proof.Machine.execRstEnterAuxOnly m s
  | .rstLeaveAuxOnly m => Sys2Proof.Machine.execRstLeaveAuxOnly m s
  | .rstChipletRecovery m slot => Sys2Proof.Machine.execRstChipletRecovery m slot s
  | .cmaintClean m c cache how => Sys2Proof.Machine.execCmaintClean m c cache how s
  | .cmaintInvalidate m c cache how => Sys2Proof.Machine.execCmaintInvalidate m c cache how s
  | .cmaintCleanInvalidate m c cache how => Sys2Proof.Machine.execCmaintCleanInvalidate m c cache how s
  | .cmaintVictim m c cache => Sys2Proof.Machine.execCmaintVictim m c cache s
  | .fenceI c => Sys2Proof.Machine.execFenceI c s
  | .cctlWrite m c ien den => Sys2Proof.Machine.execCctlWrite m c ien den s
  | .rstoreDataWrite m val => Sys2Proof.Machine.execRstoreDataWrite m val s
  | .rstoreWriteDone => Sys2Proof.Machine.execRstoreWriteDone s
  | .retainedWordUe w => Sys2Proof.Machine.execRetainedWordUe w s
  | .sensorSample r => Sys2Proof.Machine.execSensorSample r s
  | .dieOvertemp sensor => Sys2Proof.Machine.execDieOvertemp sensor s
  | .energyLedgerTick => Sys2Proof.Machine.execEnergyLedgerTick s
  | .laneMarginScan g lane tl tr vu vd => Sys2Proof.Machine.execLaneMarginScan g lane tl tr vu vd s
  | .logRecordWrite => Sys2Proof.Machine.execLogRecordWrite s
  | .i3cDaa => Sys2Proof.Machine.execI3cDaa s
  | .mctpMessage msg => Sys2Proof.Machine.execMctpMessage msg s
  | .sbRd off count => Sys2Proof.Machine.execSbRd off count s
  | .sbWr off words => Sys2Proof.Machine.execSbWr off words s
  | .imgBegin len => Sys2Proof.Machine.execImgBegin len s
  | .imgData off words => Sys2Proof.Machine.execImgData off words s
  | .imgEnd img => Sys2Proof.Machine.execImgEnd img s
  | .smbusAra => Sys2Proof.Machine.execSmbusAra s
  | .ibiAccepted => Sys2Proof.Machine.execIbiAccepted s
  | .mbIdentify ld => Sys2Proof.Machine.execMbIdentify ld s
  | .mbBgOpStatus ld => Sys2Proof.Machine.execMbBgOpStatus ld s
  | .mbGetEvtIntPolicy ld => Sys2Proof.Machine.execMbGetEvtIntPolicy ld s
  | .mbSetEvtIntPolicy ld policy => Sys2Proof.Machine.execMbSetEvtIntPolicy ld policy s
  | .mbGetEventRecords ld log => Sys2Proof.Machine.execMbGetEventRecords ld log s
  | .mbClearEventRecords ld log handles => Sys2Proof.Machine.execMbClearEventRecords ld log handles s
  | .mbGetTimestamp ld => Sys2Proof.Machine.execMbGetTimestamp ld s
  | .mbSetTimestamp ld ts => Sys2Proof.Machine.execMbSetTimestamp ld ts s
  | .mbGetSupportedLogs ld => Sys2Proof.Machine.execMbGetSupportedLogs ld s
  | .mbGetLog ld off len => Sys2Proof.Machine.execMbGetLog ld off len s
  | .mbGetFwInfo ld => Sys2Proof.Machine.execMbGetFwInfo ld s
  | .mbTransferFw ld slot last img => Sys2Proof.Machine.execMbTransferFw ld slot last img s
  | .mbActivateFw ld slot online => Sys2Proof.Machine.execMbActivateFw ld slot online s
  | .mbIdentifyMemdev ld => Sys2Proof.Machine.execMbIdentifyMemdev ld s
  | .mbGetHealthInfo ld => Sys2Proof.Machine.execMbGetHealthInfo ld s
  | .mbGetPoisonList ld dpa lines => Sys2Proof.Machine.execMbGetPoisonList ld dpa lines s
  | .mbGetDcConfig ld => Sys2Proof.Machine.execMbGetDcConfig ld s
  | .mbGetDcExtentList ld => Sys2Proof.Machine.execMbGetDcExtentList ld s
  | .energyRead ld => Sys2Proof.Machine.execEnergyRead ld s
  | .marginRead ld => Sys2Proof.Machine.execMarginRead ld s
  | .deviceLogRead ld ix => Sys2Proof.Machine.execDeviceLogRead ld ix s
  | .regAccess ld off wr => Sys2Proof.Machine.execRegAccess ld off wr s
  | .mbUnsupportedOpcode ld opcode => Sys2Proof.Machine.execMbUnsupportedOpcode ld opcode s
  | .fwuVerify m => Sys2Proof.Machine.execFwuVerify m s
  | .fwuLoad m => Sys2Proof.Machine.execFwuLoad m s
  | .fwuReady m => Sys2Proof.Machine.execFwuReady m s
  | .fwuSwitch m => Sys2Proof.Machine.execFwuSwitch m s
  | .fwuConfirm m => Sys2Proof.Machine.execFwuConfirm m s
  | .fwuRollback m => Sys2Proof.Machine.execFwuRollback m s
  | .trialTimeout => Sys2Proof.Machine.execTrialTimeout s
  | .fwuCancel m => Sys2Proof.Machine.execFwuCancel m s
  | .raiseSvn m => Sys2Proof.Machine.execRaiseSvn m s
  | .cfgRecordWrite => Sys2Proof.Machine.execCfgRecordWrite s
  | .cfgRecordCommit => Sys2Proof.Machine.execCfgRecordCommit s
  | .cfgRecordWait => Sys2Proof.Machine.execCfgRecordWait s
  | .cfgWaitTimeout => Sys2Proof.Machine.execCfgWaitTimeout s
  | .cfgRecordEnd => Sys2Proof.Machine.execCfgRecordEnd s
  | .fatalLane slot => Sys2Proof.Machine.execFatalLane slot s
  | .faultFrame site cls row col cause => Sys2Proof.Machine.execFaultFrame site cls row col cause s
  | .frameCheckFail slot => Sys2Proof.Machine.execFrameCheckFail slot s
  | .heartbeatLoss slot => Sys2Proof.Machine.execHeartbeatLoss slot s
  | .quietPeriodEnd unit => Sys2Proof.Machine.execQuietPeriodEnd unit s
  | .recoveryFail unit => Sys2Proof.Machine.execRecoveryFail unit s
  | .fcExit m site => Sys2Proof.Machine.execFcExit m site s
  | .fcRecover m site => Sys2Proof.Machine.execFcRecover m site s
  | .fcInject m cls site => Sys2Proof.Machine.execFcInject m cls site s
  | .frecClear m page => Sys2Proof.Machine.execFrecClear m page s
  | .frec0Read m page => Sys2Proof.Machine.execFrec0Read m page s
  | .eventRaise src why => Sys2Proof.Machine.execEventRaise src why s
  | .evtStatusClear m place val => Sys2Proof.Machine.execEvtStatusClear m place val s
  | .evtEnableWrite m place val => Sys2Proof.Machine.execEvtEnableWrite m place val s
  | .evtRouteWrite m page val => Sys2Proof.Machine.execEvtRouteWrite m page val s
  | .evrRouteWrite m val => Sys2Proof.Machine.execEvrRouteWrite m val s
  | .pmcClear m page ctl => Sys2Proof.Machine.execPmcClear m page ctl s
  | .pmcGctlRun m run => Sys2Proof.Machine.execPmcGctlRun m run s
  | .pmcGctlClear m run => Sys2Proof.Machine.execPmcGctlClear m run s
  | .pmcLoRead m page k => Sys2Proof.Machine.execPmcLoRead m page k s
  | .counterOverflow page k => Sys2Proof.Machine.execCounterOverflow page k s
  | .traceRecordWrite => Sys2Proof.Machine.execTraceRecordWrite s
  | .commitGo m page => Sys2Proof.Machine.execCommitGo m page s
  | .commitApply page => Sys2Proof.Machine.execCommitApply page s
  | .commitDiscard m page => Sys2Proof.Machine.execCommitDiscard m page s
  | .lockAcquire m page lease => Sys2Proof.Machine.execLockAcquire m page lease s
  | .lockRelease m page => Sys2Proof.Machine.execLockRelease m page s
  | .lockForce m page => Sys2Proof.Machine.execLockForce m page s
  | .lockLeaseExpiry page => Sys2Proof.Machine.execLockLeaseExpiry page s
  | .ctrlHold m page hold => Sys2Proof.Machine.execCtrlHold m page hold s
  | .devMgmtWrite m ld => Sys2Proof.Machine.execDevMgmtWrite m ld s
  | .registerWrite m off val be => Sys2Proof.Machine.execRegisterWrite m off val be s
  | .auxLoss => Sys2Proof.Machine.execAuxLoss s
  | .loopLockLoss loop => Sys2Proof.Machine.execLoopLockLoss loop s
  | .hardRepairEnd c ok => Sys2Proof.Machine.execHardRepairEnd c ok s
  | .serialLinkReturn => Sys2Proof.Machine.execSerialLinkReturn s
  | .recoveryCounterStore => Sys2Proof.Machine.execRecoveryCounterStore s
  | .coreLoad c addr fetch => Sys2Proof.Machine.execCoreLoad c addr fetch s
  | .coreStore c addr size data => Sys2Proof.Machine.execCoreStore c addr size data s
  | .writeBufferDrain c => Sys2Proof.Machine.execWriteBufferDrain c s
  | .tapInstruction op => Sys2Proof.Machine.execTapInstruction op s
  | .commandedChangeStart e => Sys2Proof.Machine.execCommandedChangeStart e s
  | .railFallen k => Sys2Proof.Machine.execRailFallen k s

end Sys2Proof.Machine
end

