-- ==== Sys2Proof/Safety.lean ====
section
/-! DEFINITION. The terms of the claims: safe runs, accesses that every check lets pass, requests that no row of
R76 turns away, the groups of the state and what is left as it was, and the form of the memories. -/

namespace Sys2Proof

/-- The block goes on after n steps. -/
def Safe (n : Nat) (s : Machine.State) : Prop := ∃ t, core.run n s = .next t

namespace Machine

open Host (Outcome)

/-- A command answers a next state, of which something holds. -/
def Completes (i : Instr) (s : State) (P : State → Prop) : Prop := ∃ t, exec i s = .next t ∧ P t

/-- A command of a module end answers a next state: that of its own effect, of which something holds, once a connection that
has lost its last module has been taken as class F (R302) and a step 8 that this ends has ended (R426). -/
def Settles (i : Instr) (s : State) (e : Nat) (P : State → Prop) : Prop :=
  ∃ u, exec i s = .next ((u.connLost e (s.connGone e)).afterFabric) ∧ P u

/-! ### Accesses and requests that pass every check -/

/-- The state in which an access is checked: it has arrived, on its link where it is a host's, and a change of its page's
clock source has ended (R60, R396). -/
def State.met (s : State) (m : Master) (off : Nat) : State := (s.arrives m).afterChange off

/-- A write of the register at an offset passes the checks of R544. -/
def State.passes (s : State) (m : Master) (off : Nat) : Bool :=
  !s.noBar2 m && s.answers (off / 4096) && pgSlot (off / 4096) != 12 && !s.lockRefuses m off && (s.asleep off).isNone &&
    (match m with
     | .host ld => s.fullHost ld.val || s.filterWrites ld.val off
     | _ => true)

/-- A write of the register at an offset by a master waits for no access and passes the checks of R544. -/
def State.accepts (s : State) (m : Master) (off : Nat) : Bool :=
  s.boot.aux && !(s.arrives m).mustWait m && (s.met m off).passes m off

/-- The state in which a write that passes every check has stored its fields, before its effect (R544). -/
def State.written (s : State) (m : Master) (off : Nat) (v : Word) : State :=
  ((((s.met m off).countAccess off).usedAt off).touchLock m (off / 4096)).storeWrite off v (some m)

/-- An access of a host or a core is not answered outside its page: its path to the window is there, and the page has a
site that answers (R490, R525-R529). -/
def State.leads (s : State) (m : Master) (off : Nat) : Bool :=
  !s.noBar2 m && !s.cutOff m off && s.answers (off / 4096) && !s.shutOff off && s.full m

/-- A register access of a host or a core reaches its page: nothing of the master is under way, its path to the window
is there, and the page has a site that answers (R525-R529, R540). -/
def State.reaches (s : State) (m : Master) (off : Nat) : Bool :=
  s.boot.aux && !s.mustWait m && m != .bmc && (s.met m off).leads m off

/-- As `reaches`, of a page of the device whose sub-domain is up. -/
def State.reachesOwn (s : State) (m : Master) (off : Nat) : Bool :=
  s.reaches m off && pgSlot (off / 4096) != 12 && ((s.met m off).asleep off).isNone

/-- The mailbox of a logical device is served: its function answers, a core serves mailboxes and no switch is in progress
(R474, R476). -/
def State.mailboxOpen (s : State) (ld : Nat) : Bool :=
  s.coreServes && (s.ioLink ld).isSome && s.mgmt.switching.isNone

/-- Nothing waits for another access, a sub-domain or a firmware switch. -/
def State.idleWaits (s : State) : Bool :=
  s.mgmt.sb.isNone && s.mgmt.sbNext.isEmpty && s.mgmt.mb.isNone && s.ret.held.isEmpty && s.mgmt.switching.isNone &&
    s.mgmt.heldMsgs.isEmpty && s.clk.held.isEmpty

/-- A CXL.mem request of a host to an HPA that decodes to a DPA is turned away at no row of R76. -/
def State.admits (s : State) (l ld hpa dpa : Nat) : Bool :=
  s.memLink l ld && !s.groupFatal l && s.dpaOf ld hpa == some dpa && !s.outOfService (dpa / 64) &&
    s.granted ld (pgExt (lnPage (dpa / 64))) && !(s.coherent (dpa / 64) && !(s.link l).bi) &&
    !s.home.timedOut.getLsbD ld && !s.notReady l

/-- A request of a Borage agent, with the caching right where it is a caching one, is turned away at no row of R76 and
has its grant (R363). -/
def State.admitsBrg (s : State) (a line : Nat) (caching : Bool) : Bool :=
  (s.brgEnd (homeOf (lnPage line))).isSome && !s.home.lost.getLsbD a && s.unitsUp line && s.brgMay a line caching

/-- The state in which a request of a Borage agent has been sampled by the tracer, before it is admitted. -/
def State.arrivedBrg (s : State) (line : Nat) : State := (s.tagging (16 + homeOf (lnPage line) % 4)).1

/-- The state in which a request of a link has been sampled by the tracer and counted, before it is admitted. -/
def State.arrived (s : State) (l : Nat) (k : ReqKind) : State :=
  ((s.tagging l).1.count (linkPage l 2) (if traceKind k = 0 then 0x10 else 0x11)
    (b2n (traceKind k = 0 ∨ traceKind k = 1 ∨ traceKind k = 2))).arriveOn l

/-- The state in which the link of a logical device has carried a completion for its requester (R60, R61). -/
def State.completed (s : State) (ld : Nat) : State :=
  match s.linkOf ld with
  | some l => s.useLink l
  | none => s

/-- Every metadata line that DRAM holds passes its checks: no symbol code fails, and each tag was computed over the present
counter or GEN (R262, R270). -/
def State.metaGood (s : State) : Bool :=
  s.mem.badMap.isEmpty && s.mem.badCopy.isEmpty && s.mem.badMeta.isEmpty && s.mem.leaving.isEmpty &&
    s.mem.mapTags.all (fun e => e.2 == s.mapBind e.1) &&
    s.mem.copies.all (fun e => let k := e.1 / 2; e.2.tag == s.nodeBind k (s.blockCtr (k % 32) (k / 2 ^ 40) (k % 2 ^ 40 / 32)))

/-- Nothing waits for a page and no metadata copy fails: no request of it is queued or retried, no atomic is held, and
every map line and node that is fetched is good. -/
def State.calm (s : State) (p : Nat) : Bool :=
  s.metaGood && s.home.atoms.isEmpty && s.home.retried.isEmpty &&
    !s.home.queue.any (fun q => lnPage q.line == p)

/-- The migration of a page as its kind and destination. -/
def State.migTo (s : State) (p : Nat) : Option (MigKind × Nat × Nat) :=
  (s.migOf p).map (fun m => (m.kind, m.dset, m.dloc))

/-- A bin line of a page that its channel holds under the page's tag (R230, R262). -/
def State.binLine (s : State) (p : Nat) (e : PageEntry) (j : Nat) : Option Line :=
  match s.readChan e.set (1024 * e.loc + 64 * j) with
  | none => none
  | some c =>
    match s.getMedia c ((s.set e.set).media (1024 * e.loc + 64 * j)).2 with
    | some (.line d t) => if t = s.binBind p j (s.majorOf p) then some d else none
    | _ => none

/-- The bytes of a page in a bin: its bin lines are good and its four parcels decode (R230, R233). -/
def State.pageBytes (s : State) (p : Nat) (e : PageEntry) : Option (List Byte) :=
  ((upTo (ceilDiv (16 * e.plen.sum) 64)).mapM (s.binLine p e)).bind (fun l =>
    ((upTo 4).mapM (fun q =>
      parcel ((((l.map lineBytes).flatten).drop (parcelStart e q)).take (16 * e.plenAt q)) 1024)).map List.flatten)

/-- The lines of a moving bin are good, and none is written over before it is copied: no rank is spared or being spared,
and no line of the destination has the channel offset of one of the source (R215). -/
def State.binMoves (s : State) (p : Nat) (m : Migration) : Bool :=
  (upTo 16).all (fun c => (s.chan c).spared.isNone && (s.chan c).job.isNone) &&
    (upTo (16 * m.image.binsize)).all (fun j => (s.binLine p m.image j).isSome &&
      (upTo (16 * m.image.binsize)).all (fun k =>
        ((s.set m.dset).media (1024 * m.dloc + 64 * k)).2 / 64 !=
          ((s.set m.image.set).media (1024 * m.image.loc + 64 * j)).2 / 64))

/-- An operation of a descriptor starts: the descriptor runs and has not ended, its queue is served and its operands
are permitted (R312, R318). -/
def State.opReady (s : State) (q ix op : Nat) (d : Desc) : Bool :=
  s.desc q ix == some d && !d.ended && !d.flushing && dOp d.raw == op && s.dmServes q && (s.dmPermit q d.raw).isNone

/-- The source bytes of a descriptor, from TOKEN on where it resumes, and the state in which the operation has them (R313, R322,
R325). -/
def State.source (s : State) (q : Nat) (d : Desc) : State × OperandGot :=
  s.operand q d (dSrcSp d.raw) (dSrc d.raw + dFrom d.raw) (dSrcLen d.raw - dFrom d.raw)

/-- It is a queue's turn to fetch its descriptor at `head` from a ring in host memory, 0, or device memory, 1 (R313, R315). -/
def State.fetchDue (s : State) (q head rsp : Nat) : Bool :=
  s.dmReady q && !s.dmSpent q && s.dmqGet q 0x14 0 16 == head && s.dmqGet q 0 1 1 == rsp

/-- The read of a host ring's descriptor at `head` is sent and not completed, or can be sent (R71, R313). -/
def State.ringOpen (s : State) (q head : Nat) : Bool :=
  match (s.queue q).ring with
  | none => (s.issueOne q ringIx (s.ringAt q head) 64).isSome
  | some (.waiting _) => true
  | some (.got _) => false

/-- A fetched descriptor has started, or has ended as invalid, and HEAD has moved past it (R315, R317). -/
def State.started (t s : State) (q head : Nat) (raw : BitVec 512) : Bool :=
  (t.desc q head).map (fun d => (d.raw, d.ended, d.status)) == some (raw, !dValid raw, if dValid raw then 0 else 13) &&
    t.dmqGet q 0x14 0 16 == (head + 1) % 2 ^ s.dmqGet q 0 2 4

/-- The chain of a descriptor is there: its bytes, and the state in which the operation has them (R323). -/
def State.chainIs (s : State) (q : Nat) (d : Desc) (u : State) (c : List Byte) : Bool :=
  if dChainLen d.raw = 0 then u == s && c.isEmpty
  else s.operand q d (dDstSp d.raw) (dAux0 d.raw) (dChainLen d.raw) == (u, .bytes (c.map some))

/-! ### What is left as it was -/

/-- A group of the state: one field of `State` each. -/
inductive Part
  | now | free | pending | out | regs | ret | evt | flt | obs | host | amap | mem | home | ddr | tier | dm | dunas | brg
  | clk | hsc | boot | core | mgmt
  deriving DecidableEq, Repr

/-- Two states agree in a group. -/
def Part.same (p : Part) (s t : State) : Prop :=
  match p with
  | .now => t.now = s.now
  | .free => t.free = s.free
  | .pending => t.pending = s.pending
  | .out => t.out = s.out
  | .regs => t.regs = s.regs
  | .ret => t.ret = s.ret
  | .evt => t.evt = s.evt
  | .flt => t.flt = s.flt
  | .obs => t.obs = s.obs
  | .host => t.host = s.host
  | .amap => t.amap = s.amap
  | .mem => t.mem = s.mem
  | .home => t.home = s.home
  | .ddr => t.ddr = s.ddr
  | .tier => t.tier = s.tier
  | .dm => t.dm = s.dm
  | .dunas => t.dunas = s.dunas
  | .brg => t.brg = s.brg
  | .clk => t.clk = s.clk
  | .hsc => t.hsc = s.hsc
  | .boot => t.boot = s.boot
  | .core => t.core = s.core
  | .mgmt => t.mgmt = s.mgmt

/-- Every group that a list does not name is as it was. -/
def KeepsBut (l : List Part) (s t : State) : Prop := ∀ p : Part, p ∉ l → p.same s t

/-- From every state a command answers a next state, in which every group that a list does not name is as it was. -/
def Changes (l : List Part) (i : Instr) : Prop := ∀ s : State, Completes i s (KeepsBut l s)

/-! ### The memories -/

/-- The canonical form of the two memories: the DRAM lines are listed by rising address, and so are the bytes of
Dill's SRAM, of which none that reads as 0 is listed. -/
def State.memoryWf (s : State) : Bool :=
  (match s.mem.lines with
   | [] => true
   | (k, _) :: r => rising k r) && wf 0 s.core.sram

end Machine

end Sys2Proof
end

