-- ==== Sys2Proof/Certificates/Slice0/Obligations.lean ====
section
/-! DEFINITION. The statements for the provers, in the order of OBLIGATIONS.json: the queue and the time, then the
commands family by family. -/

open Sys2Proof Sys2Proof.Machine

/-- The queue is the model's own (assumption 1): a step with a command in front is `exec` of it with the queue's rest. -/
def Obligations.StepRunsTheFrontCommand : Prop :=
  (∀ (c : Instr) (s : State) (r : List Instr), s.pending = c :: r → step s = exec c { s with pending := r }) ∧
  (∀ (c : Instr) (s : State), step { s with pending := c :: s.pending } = exec c s)

/-- Assumption 1 (DESIGN CHOICE): an empty queue lets one count of the timestamp (R392) pass, in which only counters of
occupancy change. -/
def Obligations.StepOnAnEmptyQueueLetsTimePass : Prop :=
  ∀ (s : State), s.pending = [] → ∃ t, step s = .next t ∧ t.now = s.now + s.stepNs ∧
    s.stepNs = (if s.refGood then 40 else 20) ∧ KeepsBut [.now, .obs] s t ∧
    t.obs.buf = s.obs.buf ∧ t.obs.ring = s.obs.ring ∧ t.obs.lfsr = s.obs.lfsr

/-- No command of the table is refused and none stops the block. -/
def Obligations.EveryCommandCompletes : Prop :=
  (∀ (i : Instr) (s : State), ∃ t, exec i s = .next t) ∧ (∀ (s : State), ∃ t, step s = .next t) ∧
  (∀ (n : Nat) (s : State), Safe n s)

/-- The queue is the model's own: `exec` never changes it. -/
def Obligations.CommandsLeaveTheQueue : Prop :=
  (∀ (i : Instr) (s t : State), exec i s = .next t → t.pending = s.pending) ∧
  (∀ (s t : State), step s = .next t → t.pending = s.pending.tail)

/-- R9, R392: the timestamp counts from the last rise of AUX and never decreases. -/
def Obligations.TimeNeverDecreases : Prop :=
  (∀ (i : Instr) (s t : State), (∀ b, i ≠ .auxReset .auxRise b) → exec i s = .next t → s.now ≤ t.now) ∧
  (∀ (s t : State), (∀ b, s.pending.head? ≠ some (.auxReset .auxRise b)) → step s = .next t → s.now ≤ t.now) ∧
  (∀ (s t : State) (b : Board), exec (.auxReset .auxRise b) s = .next t → t.now = 0)

/-- The memories are held in one canonical form (the model's own form of the memories that the spec names). -/
def Obligations.StepKeepsTheMemoryForm : Prop :=
  (∀ (i : Instr) (s t : State), s.memoryWf = true → exec i s = .next t → t.memoryWf = true) ∧
  (∀ (s t : State), s.memoryWf = true → step s = .next t → t.memoryWf = true)

/-- R9, R407, R410, R435, R446, R504, R509, R541: what reset leaves. The empty queue and memories are the model's form. -/
def Obligations.ResetLeaves : Prop :=
  let s := State.reset
  s.now = 0 ∧ s.boot.aux = true ∧ s.boot.main = false ∧ s.boot.st = 1 ∧ s.amap.extents = [] ∧ s.mem.pages = [] ∧
  s.evt.pend = 0 ∧ (∀ k : Fin 768, s.evEnabled k.val = definedSource k.val) ∧
  (∀ k : Fin 768, definedSource k.val = true → s.routeOf k.val =
    if k.val ≤ 5 ∨ k.val = 24 ∨ k.val = 25 ∨ k.val = 30 then 7 else 3) ∧
  s.core.c0.active = true ∧ s.core.c0.halted = false ∧ s.core.c1.active = false ∧ s.core.c1.halted = true ∧
  s.regs.locks = [] ∧ s.cfg pwrPage 0x80 1 7 = 0x0A ∧ s.cfg fcPage 0x80 0 3 = 3 ∧ s.pending = [] ∧
  s.mem.lines = [] ∧ s.core.sram = [] ∧ s.memoryWf = true

/-- R37: the register page of a site is `SLOT × 4096 + CLUSTER × 1024 + SLICE × 64 + ENGINE`, bits [23:8] of the site code;
a register at offset x lies at window offset page × 4096 + x. -/
def Obligations.RegisterPagesOfSites : Prop :=
  (∀ (slot cl sl en x : Nat), slot < 16 → cl < 4 → sl < 16 → en < 64 → x < 4096 → let p := mkPage slot cl sl en
    p = slot * 4096 + cl * 1024 + sl * 64 + en ∧ p < 65536 ∧ pgSlot p = slot ∧ pgCluster p = cl ∧ pgSlice p = sl ∧
    pgEngine p = en ∧ siteOfPage p / 256 = p ∧ winOff p 0 = p * 4096 ∧ winOff p x = p * 4096 + x ∧
    winOff p x < 2 ^ 28 ∧ winOff p x / 4096 = p ∧ winOff p x % 4096 = x) ∧
  (∀ (c : BitVec 24), pageOfSite c.toNat = (c.extractLsb' 8 16).toNat)

/-- R21: port group Hn is cluster n mod 2 of Chervil n / 2 (slot 4 + n / 2, R19). -/
def Obligations.PortGroupsAreClusters : Prop :=
  ∀ (n k : Nat), n < 4 → k < 4 →
    (∀ p ∈ [hpgsPage n, phyPage n, linkPage (4 * n + k) 0, linkPage (4 * n + k) 2, linkPage (4 * n + k) 63],
      pgSlot p = 4 + n / 2 ∧ pgCluster p = n % 2 ∧ grpOfPage p = n ∧ ozSite p = true) ∧
    pgSlice (linkPage (4 * n + k) 0) = k

/-- R132: `home(dpa)` XORs the 5-bit groups of the page number; it depends on that number only. -/
def Obligations.HomeSliceOfADpa : Prop :=
  homeOf 0 = 0 ∧
  (∀ p : Nat, p < 2 ^ 34 → homeOf p = (p % 32) ^^^ homeOf (p / 32)) ∧
  (∀ p : Nat, homeOf p < 32) ∧
  (∀ a b : Nat, a < 2 ^ 46 → b < 2 ^ 46 → a / 2 ^ 12 = b / 2 ^ 12 →
    lnPage (a / 64) = a / 2 ^ 12 ∧ homeOf (lnPage (a / 64)) = homeOf (lnPage (b / 64)))

/-- R139: set and tag of a line in its snoop filter, and the recovery of d[19:6]. -/
def Obligations.SnoopFilterSetAndTag : Prop :=
  (∀ d : BitVec 46,
    sfSetOf (d.toNat / 64) = (d.extractLsb' 6 14 ^^^ d.extractLsb' 20 14 ^^^ (d.extractLsb' 34 12).zeroExtend 14).toNat ∧
    (let tag := (d.extractLsb' 20 26).toNat
     bits d.toNat 6 14 = sfSetOf (d.toNat / 64) ^^^ bits tag 0 14 ^^^ bits tag 14 12)) ∧
  (∀ a b : Nat, a < 2 ^ 40 → b < 2 ^ 40 → sfSetOf a = sfSetOf b → a / 2 ^ 14 = b / 2 ^ 14 → a = b) ∧
  (∀ a : Nat, sfKey a / 16384 = homeOf (lnPage a) ∧ sfKey a % 16384 = sfSetOf a)

/-- R370: EvtRaise with offset k raises source 704 + k; Dill routes it as every other. -/
def Obligations.BorageEventSources : Prop :=
  ∀ (s : State) (k : Fin 64) (v : BitVec 64), (s.brgEnd 0).isSome = true → s.boot.st ≠ 0 →
    exec (.evtraise k v) s =
      .next (s.raise { src := 704 + k.val, site := siteOfPage (chipletPage 12), detail := [v.toNat] }) ∧
    Completes (.evtraise k v) s (fun t => t.evt.pend.getLsbD (704 + k.val) = true ∧
      ((s.routeOf (704 + k.val)).getLsbD 0 = true → s.evt.queue.length < 1023 →
        (t.evt.queue.getLast?.map (fun w => (w.rec_.source, w.rec_.site, w.rec_.detail))) =
          some (704 + k.val, siteOfPage (chipletPage 12), [v.toNat])) ∧
      ((s.routeOf (704 + k.val)).getLsbD 0 = false → t.evt.queue = s.evt.queue) ∧
      (s.evt.pend.getLsbD (704 + k.val) = false → s.evEnabled (704 + k.val) = true →
        (s.routeOf (704 + k.val)).getLsbD 0 = false → (s.routeOf (704 + k.val)).getLsbD 2 = true →
        s.mgmt.i3c = false → t.evt.alert = true))

/-- R571: 120 degrees for 1 ms is class F at the chiplet's site, but for the sensor beside the Borage site. -/
def Obligations.OvertemperatureIsClassF : Prop :=
  (∀ (s : State) (n : Fin 24), s.boot.aux = true → n.val < 23 → s.sensorOn n.val = true →
    exec (.dieOvertemp n) s = .next ((s.reach (s.now + ms 1)).faultP (chipletPage (sensorSlot n.val)) 5 0)) ∧
  (∀ (n : Nat), n < 23 → ozSite (chipletPage (sensorSlot n)) = true ∧
    sensorSlot n = (if n < 2 then 0 else if n = 2 then 1 else if n < 7 then 2 else if n < 9 then 4 else if n < 11 then 5
      else if n < 14 then 8 else if n < 17 then 9 else if n < 20 then 10 else 11)) ∧
  (∀ (s : State), exec (.dieOvertemp 23) s = .next s) ∧
  (∀ (s : State) (t : BitVec 16), 480 ≤ t.toInt → 4 * s.cfg sensPage 0x98 0 8 ≤ 480 → s.mgmt.hot.contains 23 = false →
    s.boot.st ≠ 0 → (s.readDie 23 t).evt.pend.getLsbD 47 = true ∧ (s.readDie 23 t).flt = s.flt)

/-- R60-R63, R88: each event of the table of link states, on a link in a state that the table names for it,
answers a next state with the link in the state that the table gives (RECOVERY_ENTRY, RECOVERY_EXIT,
HOST_LINK_REQUEST, L0P_NARROW, L0P_WIDEN, L1_ENTRY, L1_EXIT, PME_TURN_OFF, RETRAIN). -/
def Obligations.HostLinkStateTable : Prop :=
  (∀ (s : State) (l : Fin 16) (byHost : Bool), (s.link l.val).flows = true →
    exec (.recoveryEntry l byHost) s = .next (s.onLink l.val (fun k =>
      { k with st := .recovery, ownReq := if byHost then none else k.ownReq }))) ∧
  (∀ (s : State) (l : Fin 16) (r : Fin 7) (w : Fin 5), (s.link l.val).st = .recovery →
    Completes (.recoveryExit l (some (r, w))) s (fun t => (t.link l.val).st = .l0 ∧
      (t.link l.val).rate = min r.val (s.rateCap l.val (s.link l.val).offer) ∧
      (t.link l.val).width = min w.val (s.widthCap l.val (s.link l.val).offer) ∧
      (t.link l.val).active = (t.link l.val).width)) ∧
  (∀ (s : State) (l : Fin 16), (s.link l.val).st = .recovery →
    Completes (.recoveryExit l none) s (fun t => (t.link l.val).st = .down)) ∧
  (∀ (s : State) (l : Fin 16) (w : Fin 5), s.l0pUse l.val = true → w.val ≤ (s.link l.val).width →
    Completes (.hostLinkRequest l (.l0p w)) s (fun t => (t.link l.val).active = w.val ∧ (t.link l.val).ownReq = none ∧
      (t.link l.val).st = if w.val = (s.link l.val).width then .l0 else .l0p)) ∧
  (∀ (s : State) (l : Fin 16), (s.link l.val).flows = true →
    Completes (.hostLinkRequest l .retrain) s (fun t => t.link l.val = { s.link l.val with st := .recovery, ownReq := none })) ∧
  (∀ (s : State) (l : Fin 16) (w : Fin 5), s.l0pUse l.val = true → w.val < (s.link l.val).active →
    Completes (.l0pNarrow l w true) s (fun t => (t.link l.val).active = w.val ∧
      (t.link l.val).st = if w.val = (s.link l.val).width then .l0 else .l0p) ∧
    exec (.l0pNarrow l w false) s = .next ((s.reach ((s.link l.val).widthAt + us 100)).onLink l.val
      (fun k => { k with ownReq := some w.val }))) ∧
  (∀ (s : State) (l : Fin 16), (s.link l.val).st = .l0p →
    Completes (.l0pWiden l true) s (fun t => (t.link l.val).active = (s.link l.val).width ∧ (t.link l.val).st = .l0) ∧
    exec (.l0pWiden l false) s = .next (s.onLink l.val (fun k => { k with ownReq := some k.width }))) ∧
  (∀ (s : State) (l : Fin 16), (s.link l.val).flows = true → (s.link l.val).aspm = true →
    s.cfg (linkPage l.val 0) 0x80 8 8 ≠ 0 → s.linkIdle l.val = true →
    exec (.l1Entry l) s = .next ((s.reach ((s.link l.val).lastUse + us (s.cfg (linkPage l.val 0) 0x80 8 8))).onLink l.val
      (fun k => { k with st := .l1 }))) ∧
  (∀ (s : State) (l : Fin 16), (s.link l.val).st = .l1 →
    exec (.l1Exit l) s = .next (s.onLink l.val (fun k =>
      { k with st := .l0, active := k.width, lastUse := s.now, widthAt := s.now }))) ∧
  (∀ (s : State) (l : Fin 16), (s.link l.val).flows = true →
    Completes (.pmeTurnOff l) s (fun t => t.link l.val = { s.link l.val with st := .l2, ownReq := none })) ∧
  (∀ (s : State) (m : Master) (l : Fin 16), s.accepts m (winOff (linkPage l.val 0) 0x80) = true →
    (s.link l.val).flows = true →
    Completes (.retrain m l) s (fun t => t.link l.val =
      { (s.met m (winOff (linkPage l.val 0) 0x80)).link l.val with st := .recovery }))

/-- R51, R52, R60, R66, R67, R77: PERST_N_ASSERT, PERST_N_RELEASE, REFCLK_LOSS, LINK_UP, LINK_DOWN, HOT_RESET,
LINK_DISABLE and AGENT_SWEEP_END answer next states with the links in the states that the rules give. -/
def Obligations.LinkLossAndPortResets : Prop :=
  (∀ (s : State) (g : Fin 4), Completes (.perstNAssert g) s (fun t => (t.grp g.val).perst = true ∧
      (t.grp g.val).margining = [] ∧ ∀ k < 4, (t.link (4 * g.val + k)).st = .down)) ∧
  (∀ (s : State) (g : Fin 4), (s.grp g.val).perst = true → Completes (.perstNRelease g) s (fun t =>
      t.grp g.val = { s.grp g.val with perst := false, perstRel := s.now } ∧
      ∀ k < 4, t.link (4 * g.val + k) = { s.link (4 * g.val + k) with cfgReadyAt := s.now + sec 1 })) ∧
  (∀ (s : State) (g : Fin 4), Completes (.refclkLoss g) s (fun t => ∀ k < 4, (t.link (4 * g.val + k)).st = .down ∧
      ((s.link (4 * g.val + k)).st ≠ .down → (t.link (4 * g.val + k)).sweep = some (s.now + us 200)))) ∧
  (∀ (s : State) (l : Fin 16) (o : PartnerOffer), s.canTrain l.val = true → Completes (.linkUp l o) s (fun t =>
      (t.link l.val).st = .l0 ∧ (t.link l.val).rate = (s.settle l.val o).1 ∧ (t.link l.val).flit = (s.settle l.val o).2.1 ∧
      (t.link l.val).width = s.widthCap l.val o ∧ (t.link l.val).active = (t.link l.val).width)) ∧
  (∀ (s : State) (l : Fin 16), (s.link l.val).breakable = true → Completes (.linkDown l) s (fun t =>
      (t.link l.val).st = .down ∧ (t.link l.val).sweep = some (s.now + us 200))) ∧
  (∀ (s : State) (l : Fin 16), (s.link l.val).live = true → Completes (.hotReset l) s (fun t =>
      (t.link l.val).st = .down ∧ (t.link l.val).sweep = some (s.now + us 200) ∧ (t.link l.val).aspm = false)) ∧
  (∀ (s : State) (l : Fin 16), (s.link l.val).live = true → Completes (.linkDisable l) s (fun t =>
      (t.link l.val).st = .down ∧ (t.link l.val).disabled = true ∧ (t.link l.val).sweep = some (s.now + us 200))) ∧
  (∀ (s : State) (l : Fin 16), (s.link l.val).sweep.isSome = true → Completes (.agentSweepEnd (.link l)) s (fun t =>
      (t.link l.val).sweep = none)) ∧
  (∀ (s : State) (a : Fin 80), listed s.home.sweep a.val = true → Completes (.agentSweepEnd (.agent a)) s (fun t =>
      listed t.home.sweep a.val = false)) ∧
  (∀ (s : State), brgAgents.any (listed s.home.sweep) = true → Completes (.agentSweepEnd .borage) s (fun t =>
      ∀ a ∈ brgAgents, listed t.home.sweep a = false))

/-- R52, R65, R70, R73, R76, R78, R85, R301: FLR_INITIATE, FLR_COMPLETE, HOST_MARGIN_COMMAND, MARGIN_DONE,
REQUESTER_COMPLETION, REQ_CTO, CONFIG_REQUEST, LINK_FLIT_CRC_ERROR and HOST_REPLAY_REQUEST answer next states with
their effects. -/
def Obligations.FunctionResetsAndRequester : Prop :=
  (∀ (s : State) (ld : Fin 64), (s.served ld.val).isSome = true → (s.ld ld.val).flr = none →
    Completes (.flrInitiate ld) s (fun t => (t.ld ld.val).flr = some s.now ∧ (t.ld ld.val).reads = [])) ∧
  (∀ (s : State) (ld : Fin 64), (s.ld ld.val).flr.isSome = true →
    Completes (.flrComplete ld) s (fun t => (t.ld ld.val).flr = none ∧ (t.ld ld.val).reads = [] ∧
      (t.ld ld.val).msixOn = false ∧ (t.ld ld.val).dec = (s.ld ld.val).dec)) ∧
  (∀ (s : State) (g : Fin 4) (lane : Fin 16), Completes (.hostMarginCommand g lane) s (fun t =>
    lane.val ∈ (t.grp g.val).margining)) ∧
  (∀ (s : State) (g : Fin 4) (lane : Fin 16), lane.val ∈ (s.grp g.val).margining →
    Completes (.marginDone g lane) s (fun t => lane.val ∉ (t.grp g.val).margining)) ∧
  (∀ (s : State) (ld : Fin 64) (tag : BitVec 14) (addr : BitVec 64) (data : List Byte) (st : CplStatus),
    (∀ r ∈ (s.ld ld.val).reads, r.tag ≠ tag.toNat) →
    exec (.requesterCompletion ld tag addr data st) s = .next (s.completed ld.val)) ∧
  (∀ (s : State) (ld : Fin 64) (tag : BitVec 14) (addr : BitVec 64) (data : List Byte) (r : ReqRead) (d : Desc),
    (s.ld ld.val).reads.find? (fun r => r.tag == tag.toNat) = some r → s.desc r.queue r.ix = some d → d.flushing = false →
    r.ix ≠ ringIx → Completes (.requesterCompletion ld tag addr data .ur) s (fun t => ∃ d', t.desc r.queue r.ix = some d' ∧
      d'.ended = true ∧ d'.status = 10)) ∧
  (∀ (s : State) (ld : Fin 64) (tag : BitVec 14) (addr : BitVec 64) (data : List Byte) (r : ReqRead) (d : Desc),
    (s.ld ld.val).reads.find? (fun r => r.tag == tag.toNat) = some r → s.desc r.queue r.ix = some d →
    r.ix ≠ ringIx → Completes (.requesterCompletion ld tag addr data .ok) s (fun t => ∃ d', t.desc r.queue r.ix = some d' ∧
      ∀ k < data.length, r.addr ≤ addr.toNat + k → addr.toNat + k < r.addr + r.len →
        look? d'.buf (addr.toNat + k) = some (some (data.getD k 0)))) ∧
  (∀ (s : State) (ld : Fin 64) (tag : BitVec 14) (r : ReqRead) (l : Nat) (d : Desc),
    (s.ld ld.val).reads.find? (fun r => r.tag == tag.toNat) = some r → s.linkOf ld.val = some l →
    s.desc r.queue r.ix = some d → d.flushing = false → r.ix ≠ ringIx →
    Completes (.reqCto ld tag) s (fun t => ∃ d', t.desc r.queue r.ix = some d' ∧ d'.ended = true ∧ d'.status = 9)) ∧
  (∀ (s : State) (ld : Fin 64) (fn : Nat) (op : ConfigOp) (l : Nat), s.served ld.val = some l →
    (s.now < (s.link l).cfgReadyAt → exec (.configRequest ld fn op) s =
      .next ((s.arriveOn l).toHost ld.val (.rrs ld.val))) ∧
    ((s.link l).cfgReadyAt ≤ s.now → fn ≠ 0 → exec (.configRequest ld fn op) s =
      .next ((s.arriveOn l).toHost ld.val (.ur ld.val 0))) ∧
    ((s.link l).cfgReadyAt ≤ s.now → (s.ld ld.val).flr.isSome = true → exec (.configRequest ld 0 op) s =
      .next ((s.arriveOn l).toHost ld.val (.rrs ld.val)))) ∧
  (∀ (s : State) (ld : Fin 64) (r : BitVec 10) (l : Nat), s.served ld.val = some l →
    (s.link l).cfgReadyAt ≤ s.now → (s.ld ld.val).flr = none → exec (.configRequest ld 0 (.read r)) s =
      .next ((s.arriveOn l).toHost ld.val (.cfgCpl ld.val ((s.arriveOn l).cfgRead ld.val r)))) ∧
  (∀ (s : State) (ld : Fin 64) (r : BitVec 10) (v : Word) (l : Nat), s.served ld.val = some l →
    (s.link l).cfgReadyAt ≤ s.now → (s.ld ld.val).flr = none →
    exec (.configRequest ld 0 (.write r v)) s =
      .next (((s.arriveOn l).onLd ld.val (fun d => { d with cfg := enter v d.cfg r.toNat })).toHost ld.val
        (.cfgCpl ld.val 0))) ∧
  (∀ (s : State) (l : Fin 16), (s.link l.val).live = true → s.now < (s.link l.val).corrFrom + sec 1 →
    Completes (.linkFlitCrcError l) s (fun t => (t.link l.val).corr = (s.link l.val).corr + 1)) ∧
  (∀ (s : State) (l : Fin 16) (seq : Nat), (s.link l.val).live = true →
    ((s.link l.val).txAcked ≤ seq → seq < (s.link l.val).txNext → exec (.hostReplayRequest l seq) s =
      .next (((s.onLink l.val (fun k => { k with txAcked := seq })).useLink l.val).each
        ((upTo ((s.link l.val).txNext - seq)).map (fun i => seq + i)) (fun s i => s.emit (.hostFlit l.val i)))) ∧
    (seq < (s.link l.val).txAcked ∨ (s.link l.val).txNext ≤ seq → exec (.hostReplayRequest l seq) s = .next s))

/-- R80-R82, R84, R87: ATTENTION_PULSE_START, ATTENTION_PULSE_END, ATTN_TEST and HRDY_RELEASE on a pin of a port
group. -/
def Obligations.HrdyPinPulses : Prop :=
  (∀ (s : State) (g : Fin 4), (s.grp g.val).pulsePend = true → (s.grp g.val).busy = false → (s.grp g.val).pulse = none →
    Completes (.attentionPulseStart g) s (fun t => (t.grp g.val).pulse = some t.now ∧ (t.grp g.val).pulsePend = false ∧
      t.now = s.instant ((s.grp g.val).released + us 50))) ∧
  (∀ (s : State) (g : Fin 4) (a : Nat), (s.grp g.val).pulse = some a →
    Completes (.attentionPulseEnd g) s (fun t => (t.grp g.val).pulse = none ∧ (t.grp g.val).released = t.now ∧
      t.now = s.instant (a + us 2))) ∧
  (∀ (s : State) (m : Master) (g : Fin 4), s.accepts m (winOff (hpgsPage g.val) 0x84) = true →
    Completes (.attnTest m g) s (fun t => (t.grp g.val).pulsePend = ((s.grp g.val).pulsePend || !(s.grp g.val).busy))) ∧
  (∀ (s : State) (g : Fin 4), (s.grp g.val).busy = true → s.mayRelease g.val = true →
    Completes (.hrdyRelease g) s (fun t => (t.grp g.val).busy = false ∧ (t.grp g.val).released = t.now ∧
      t.now = s.instant ((s.grp g.val).busySince + us 100)))

/-- R76, R134, R142, R57: a CXL.mem request that no row of R76 turns away is counted, tagged and admitted at the home
slice of its line (MEMRD, MEMRDDATA, MEMSPECRD, MEMWR, MEMWRPTL, MEMINV, MEMCLNEVCT). Whether MEMSPECRD is dropped is a
free value (assumption log). -/
def Obligations.HostRequestsAdmitted : Prop :=
  (∀ (s : State) (l : Fin 16) (ld : Fin 64) (hpa : BitVec 64) (mv : MetaVal) (tag dpa : Nat),
    s.admits l.val ld.val hpa.toNat dpa = true →
    exec (.memrd l ld hpa mv tag none) s = .next ((s.arrived l.val (.read mv)).enlist (dpa / 64) (.host ld.val) (.read mv)
      tag false (s.tagging l.val).2)) ∧
  (∀ (s : State) (l : Fin 16) (ld : Fin 64) (hpa : BitVec 64) (mv : MetaVal) (tag dpa : Nat) (e : SliceError),
    s.admits l.val ld.val hpa.toNat dpa = true →
    exec (.memrd l ld hpa mv tag (some e)) s = exec (.memrd l ld hpa mv tag none) (s.sliceError (dpa / 64) e)) ∧
  (∀ (s : State) (l : Fin 16) (ld : Fin 64) (hpa : BitVec 64) (tag dpa : Nat),
    s.admits l.val ld.val hpa.toNat dpa = true →
    exec (.memrddata l ld hpa tag) s = .next ((s.arrived l.val .readData).enlist (dpa / 64) (.host ld.val) .readData
      tag false (s.tagging l.val).2)) ∧
  (∀ (s : State) (l : Fin 16) (ld : Fin 64) (hpa : BitVec 64) (tag dpa : Nat),
    s.admits l.val ld.val hpa.toNat dpa = true →
    exec (.memspecrd l ld hpa tag) s = if Config.specRdDrop s.free = 1 then .next s.takeFree
      else exec (.memrd l ld hpa .none tag none) s.takeFree) ∧
  (∀ (s : State) (l : Fin 16) (ld : Fin 64) (hpa : BitVec 64) (mv : MetaVal) (data : Line) (tag dpa : Nat),
    s.admits l.val ld.val hpa.toNat dpa = true →
    exec (.memwr l ld hpa mv data false tag) s = .next ((s.arrived l.val (.write mv data false)).enlist (dpa / 64)
      (.host ld.val) (.write mv data false) tag false (s.tagging l.val).2) ∧
    exec (.memwr l ld hpa mv data true tag) s = .next (((s.arrived l.val (.write mv data true)).raiseLink l.val 9
      (some ld.val) dpa).enlist (dpa / 64) (.host ld.val) (.write mv data true) tag false (s.tagging l.val).2)) ∧
  (∀ (s : State) (l : Fin 16) (ld : Fin 64) (hpa : BitVec 64) (mv : MetaVal) (mask : BitVec 64) (data : Line) (tag dpa : Nat),
    s.admits l.val ld.val hpa.toNat dpa = true →
    exec (.memwrptl l ld hpa mv mask data false tag) s = .next ((s.arrived l.val (.writePtl mv mask data false)).enlist
      (dpa / 64) (.host ld.val) (.writePtl mv mask data false) tag false (s.tagging l.val).2) ∧
    exec (.memwrptl l ld hpa mv mask data true tag) s = .next (((s.arrived l.val (.writePtl mv mask data true)).raiseLink
      l.val 9 (some ld.val) dpa).enlist (dpa / 64) (.host ld.val) (.writePtl mv mask data true) tag false
      (s.tagging l.val).2)) ∧
  (∀ (s : State) (l : Fin 16) (ld : Fin 64) (hpa : BitVec 64) (mv : MetaVal) (tag dpa : Nat),
    s.admits l.val ld.val hpa.toNat dpa = true →
    exec (.meminv l ld hpa mv tag) s = .next ((s.arrived l.val (.inv mv)).enlist (dpa / 64) (.host ld.val) (.inv mv)
      tag false (s.tagging l.val).2)) ∧
  (∀ (s : State) (l : Fin 16) (ld : Fin 64) (hpa : BitVec 64) (tag dpa : Nat),
    s.admits l.val ld.val hpa.toNat dpa = true →
    exec (.memclnevct l ld hpa tag) s = .next ((s.arrived l.val .clnEvct).enlist (dpa / 64) (.host ld.val) .clnEvct
      tag false (s.tagging l.val).2))

/-- R76, R102, R107, R142: what MEMRD, MEMRDDATA, MEMINV and MEMCLNEVCT are answered with at once, and the answers of
the rows of R76 that turn a request away. -/
def Obligations.HostRequestsAnswered : Prop :=
  (∀ (s : State) (l : Fin 16) (ld : Fin 64) (hpa : BitVec 64) (mv : MetaVal) (tag dpa : Nat),
    s.admits l.val ld.val hpa.toNat dpa = true → s.coherent (dpa / 64) = false → s.home.queue = [] → s.home.retried = [] →
    s.home.atoms = [] → s.mem.rebuild = [] → s.mem.badMeta = [] → s.mapGood (lnPage (dpa / 64) / 4) = true →
    (s.entry (lnPage (dpa / 64))).st = .unbacked →
    Completes (.memrd l ld hpa mv tag none) s (fun t => .memData ld.val tag 0 false .none ∈ t.out ∧ t.home.queue = []) ∧
    Completes (.memrddata l ld hpa tag) s (fun t => .memData ld.val tag 0 false .none ∈ t.out ∧ t.home.queue = []) ∧
    Completes (.meminv l ld hpa mv tag) s (fun t => .memCmp ld.val tag .i ∈ t.out ∧ t.home.queue = []) ∧
    Completes (.memclnevct l ld hpa tag) s (fun t => .memCmp ld.val tag .i ∈ t.out ∧ t.home.queue = [])) ∧
  (∀ (s : State) (l : Fin 16) (ld : Fin 64) (hpa : BitVec 64) (mv : MetaVal) (data : Line) (p : Bool) (tag : Nat),
    s.memLink l.val ld.val = true → s.groupFatal l.val = false → s.dpaOf ld.val hpa.toNat = none →
    Completes (.memrd l ld hpa mv tag none) s (fun t => .memData ld.val tag 0 true .i ∈ t.out) ∧
    Completes (.memwr l ld hpa mv data p tag) s (fun t => .memCmp ld.val tag .i ∈ t.out ∧ t.mem = s.mem)) ∧
  (∀ (s : State) (l : Fin 16) (ld : Fin 64) (hpa : BitVec 64) (mv : MetaVal) (data : Line) (p : Bool) (tag dpa : Nat),
    s.memLink l.val ld.val = true → s.groupFatal l.val = false → s.dpaOf ld.val hpa.toNat = some dpa →
    s.outOfService (dpa / 64) = false → s.granted ld.val (pgExt (lnPage (dpa / 64))) = false →
    Completes (.memrd l ld hpa mv tag none) s (fun t => .memData ld.val tag 0 true .i ∈ t.out) ∧
    Completes (.memwr l ld hpa mv data p tag) s (fun t => .memCmp ld.val tag .i ∈ t.out ∧ t.mem = s.mem)) ∧
  (∀ (s : State) (l : Fin 16) (ld : Fin 64) (hpa : BitVec 64) (mv : MetaVal) (tag : Nat),
    s.memLink l.val ld.val = true → s.groupFatal l.val = true →
    Completes (.memrd l ld hpa mv tag none) s (fun t => .memData ld.val tag 0 true .i ∈ t.out))

/-- R54, R76, R85, R151, R152: the memory aperture of CXL.io (CXLIO_APERTURE_READ, CXLIO_APERTURE_WRITE, ATOMICOP). -/
def Obligations.ApertureAccesses : Prop :=
  (∀ (s : State) (ld : Fin 64) (off : BitVec 64) (len : BitVec 13) (tag l dpa : Nat),
    s.ioArrives ld.val = some l → s.groupFatal l = false → s.ioBars l ld.val = true →
    s.apertureDpa ld.val off.toNat len.toNat = some dpa → 0 < len.toNat → dpa % 64 + len.toNat ≤ 64 →
    s.granted ld.val (pgExt (lnPage (dpa / 64))) = true → s.sliceOut (homeOf (lnPage (dpa / 64))) = false →
    exec (.cxlioApertureRead ld off len tag) s = .next (((s.arriveOn l).tagging l).1.enlist (dpa / 64) (.io ld.val)
      (.ioRead (dpa % 64) len.toNat) tag false ((s.arriveOn l).tagging l).2)) ∧
  (∀ (s : State) (ld : Fin 64) (off : BitVec 64) (data : List Byte) (l dpa : Nat),
    s.ioArrives ld.val = some l → s.groupFatal l = false → s.ioBars l ld.val = true →
    s.apertureDpa ld.val off.toNat data.length = some dpa → dpa % 64 = 0 → data.length = 64 →
    s.granted ld.val (pgExt (lnPage (dpa / 64))) = true → s.sliceOut (homeOf (lnPage (dpa / 64))) = false →
    exec (.cxlioApertureWrite ld off data false) s = .next (((s.arriveOn l).tagging l).1.enlist (dpa / 64) (.io ld.val)
      (.write .none (BitVec.ofNat 512 (ofBytes data)) false) 0 false ((s.arriveOn l).tagging l).2)) ∧
  (∀ (s : State) (ld : Fin 64) (off : BitVec 64) (data : List Byte) (l dpa : Nat),
    s.ioArrives ld.val = some l → s.groupFatal l = false → s.ioBars l ld.val = true →
    s.apertureDpa ld.val off.toNat data.length = some dpa → 0 < data.length → data.length < 64 →
    dpa % 64 + data.length ≤ 64 →
    s.granted ld.val (pgExt (lnPage (dpa / 64))) = true → s.sliceOut (homeOf (lnPage (dpa / 64))) = false →
    exec (.cxlioApertureWrite ld off data false) s = .next (((s.arriveOn l).tagging l).1.enlist (dpa / 64) (.io ld.val)
      (.writePtl .none (BitVec.ofNat 64 ((2 ^ data.length - 1) <<< (dpa % 64)))
        (BitVec.ofNat 512 (ofBytes data <<< (8 * (dpa % 64)))) false) 0 false ((s.arriveOn l).tagging l).2)) ∧
  (∀ (s : State) (ld : Fin 64) (off : BitVec 64) (op : AtomicKind) (size : AtomicSize) (a b : BitVec 128) (tag l dpa : Nat),
    s.ioArrives ld.val = some l → s.groupFatal l = false → s.ioBars l ld.val = true → atomicSupported op size = true →
    off.toNat % size.bytes = 0 → s.apertureDpa ld.val off.toNat size.bytes = some dpa →
    s.granted ld.val (pgExt (lnPage (dpa / 64))) = true → s.sliceOut (homeOf (lnPage (dpa / 64))) = false →
    exec (.atomicop ld (.bar4 off) op size a b false tag) s = .next (((s.arriveOn l).tagging l).1.enlist (dpa / 64)
      (.io ld.val) (.atomic op size.bytes (dpa % 64) a b) tag false ((s.arriveOn l).tagging l).2)) ∧
  (∀ (s : State) (ld : Fin 64) (off : BitVec 64) (op : AtomicKind) (size : AtomicSize) (a b : BitVec 128) (tag l dpa : Nat),
    s.ioArrives ld.val = some l → s.groupFatal l = false → s.ioBars l ld.val = true → atomicSupported op size = true →
    off.toNat % size.bytes = 0 → s.apertureDpa ld.val off.toNat size.bytes = some dpa →
    exec (.atomicop ld (.bar4 off) op size a b true tag) s = .next (((s.arriveOn l).raiseLink l 9 (some ld.val) dpa).toHost
      ld.val (.atomicCpl ld.val tag 0 true))) ∧
  (∀ (s : State) (ld : Fin 64) (off : BitVec 64) (op : AtomicKind) (size : AtomicSize) (a b : BitVec 128) (ep : Bool)
    (tag l : Nat), s.ioArrives ld.val = some l → s.groupFatal l = false → off.toNat % size.bytes ≠ 0 →
    exec (.atomicop ld (.bar4 off) op size a b ep tag) s = .next ((s.arriveOn l).toHost ld.val (.malformed ld.val tag))) ∧
  (∀ (s : State) (ld : Fin 64) (off : BitVec 64) (len : BitVec 13) (data : List Byte) (ep : Bool) (tag l : Nat),
    s.ioArrives ld.val = some l → s.groupFatal l = false →
    s.ioBars l ld.val = false ∨
      s.apertureDpa ld.val off.toNat len.toNat = none ∧ s.apertureDpa ld.val off.toNat data.length = none →
    exec (.cxlioApertureRead ld off len tag) s =
      .next (((s.arriveOn l).raiseLink l 8 (some ld.val) off.toNat).toHost ld.val (.ur ld.val tag)) ∧
    exec (.cxlioApertureWrite ld off data ep) s =
      .next ((s.arriveOn l).raiseLink l 8 (some ld.val) off.toNat)) ∧
  (∀ (s : State) (ld : Fin 64) (off : BitVec 64) (len : BitVec 13) (data : List Byte) (ep : Bool) (tag l : Nat),
    s.ioArrives ld.val = some l → s.groupFatal l = true →
    exec (.cxlioApertureRead ld off len tag) s = .next ((s.arriveOn l).toHost ld.val (.ca ld.val tag)) ∧
    (s.apertureDpa ld.val off.toNat data.length = none →
      exec (.cxlioApertureWrite ld off data ep) s = .next (s.arriveOn l)) ∧
    (∀ dpa, s.apertureDpa ld.val off.toNat data.length = some dpa → exec (.cxlioApertureWrite ld off data ep) s =
      .next ((s.arriveOn l).each (rangeLines dpa data.length) (fun t ln => t.discardLine ((s.arriveOn l).fatalUnit l) ln))))

/-- R137, R138, R142, R146-R148, R150: answers to snoops (BIRSP, BICONFLICT, BI_TIMEOUT) and CREDIT_GRANT. -/
def Obligations.SnoopAnswersAndCredits : Prop :=
  (∀ (s : State) (a : Fin 80) (line : BitVec 40) (r : BiAnswer), a.val < 64 → s.snooping a.val line.toNat = true →
    exec (.birsp a line r) s = .next ((s.heard a.val).answered a.val line.toNat (r != .i))) ∧
  (∀ (s : State) (a : Fin 80) (line : BitVec 40), a.val < 64 → s.biOf a.val = true →
    exec (.biconflict a line) s = .next (s.toHost a.val (.conflictAck a.val line.toNat))) ∧
  (∀ (s : State) (a : Fin 80) (line : BitVec 40), s.snooping a.val line.toNat = true →
    Completes (.biTimeout a line) s (fun t => t.home.timedOut.getLsbD a.val = true ∧
      t.home.lost.getLsbD a.val = true ∧ ∀ x ∈ t.home.queue, a.val ∉ x.snoops)) ∧
  (∀ (s : State) (hs : Fin 32) (r : ReqClass) (x : Retried), r ≠ .borage →
    s.home.retried.find? (fun x => x.hs == hs.val && x.cls == r && !x.credit && x.req.tr != .writeback) = some x →
    0 < s.reservedFree hs.val r →
    exec (.creditGrant hs r) s = .next (((s.emit (.creditGrant hs.val r)).withHome
      { s.home with retried := s.home.retried.erase x }).enqueue x.req .reserved)) ∧
  (∀ (s : State) (hs : Fin 32) (x : Retried),
    s.home.retried.find? (fun x => x.hs == hs.val && x.cls == .borage && !x.credit && x.req.tr != .writeback) = some x →
    0 < s.reservedFree hs.val .borage →
    exec (.creditGrant hs .borage) s = .next ((s.emit (.creditGrant hs.val .borage)).withHome
      { s.home with retried := s.home.retried.map (fun y => if y = x then { y with credit := true } else y) }))

/-- R93, R155, R159, R168, R259, R299: HDM_DECODER_COMMIT, ATOMIC_BUFFER_FLUSH, MCACHE_CLEAN, MCACHE_FLUSH,
OVERWRITE_WRITE and DISCARD_REPORT answer next states with their effects. -/
def Obligations.DecodersCachesAndOverwrites : Prop :=
  (∀ (s : State) (ld : Fin 64) (i : Fin 4) (base size skip : BitVec 64) (ways gran : BitVec 4) (lock commit : Bool),
    ((s.hdm ld.val i.val).committed && (s.hdm ld.val i.val).locked) = false →
    Completes (.hdmDecoderCommit ld i base size skip ways gran ⟨lock, commit⟩) s (fun t =>
      let ok := decide (ways.toNat ≤ 4 ∧ gran.toNat ≤ 6) && s.inOrder ld.val i.val base.toNat
      t.hdm ld.val i.val = {
        base := base.toNat, size := size.toNat, skip := skip.toNat, ways := ways.toNat, gran := gran.toNat,
        committed := commit && ok, err := commit && !ok, locked := commit && ok && lock } ∧
      ∀ k : Fin 4, k ≠ i → t.hdm ld.val k.val = s.hdm ld.val k.val)) ∧
  (∀ (s : State) (ld : Fin 64) (i : Fin 4) (base size skip : BitVec 64) (ways gran : BitVec 4) (lock commit : Bool),
    ((s.hdm ld.val i.val).committed && (s.hdm ld.val i.val).locked) = true →
    exec (.hdmDecoderCommit ld i base size skip ways gran ⟨lock, commit⟩) s = .next s) ∧
  (∀ (s : State) (line : BitVec 40) (a : AtomLine), s.atomAt line.toNat = some a →
    s.sliceOut (homeOf (lnPage line.toNat)) = false → listed s.mem.rebuild (homeOf (lnPage line.toNat)) = false →
    Completes (.atomicBufferFlush line) s (fun t => t.atomAt line.toNat = none)) ∧
  (∀ (s : State) (hs : Fin 32), s.sliceOut hs.val = false → s.cleanThr hs.val ≤ (s.dirtyLines hs.val).length →
    exec (.mcacheClean hs) s = .next (s.cleanTo 16384 hs.val (ceilDiv (s.cleanThr hs.val) 2))) ∧
  (∀ (s : State) (m : Master) (hs : Fin 32), s.accepts m (mcacheCfg hs.val) = true →
    exec (.mcacheFlush m hs) s =
      .next (((s.written m (mcacheCfg hs.val) (s.rmw (mcacheCfg hs.val) [(14, 1, 1)])).mcFlush hs.val).finish m)) ∧
  (∀ (s : State) (r : Overwrite) (rest : List Overwrite), s.mem.overwrite = r :: rest →
    s.placeStill r.set ((upTo (16 * r.kib)).map (fun j => 1024 * r.loc + 64 * j)) = false →
    Completes .overwriteWrite s (fun t => t.mem.overwrite = rest ∧
      (s.boot.st ≠ 0 → (∀ x ∈ rest, x.domain ≠ r.domain) → t.evt.pend.getLsbD 545 = true))) ∧
  (∀ (s : State) (u : BitVec 24) (p : BitVec 34) (m : BitVec 64), s.boot.aux = true →
    exec (.discardReport u (.lines p m)) s = .next (s.each ((upTo 64).filter (fun j => m.getLsbD j))
      (fun t j => t.discardLine (pageOfSite u.toNat) (64 * p.toNat + j)))) ∧
  (∀ (s : State) (u : BitVec 24) (e : BitVec 18), s.boot.aux = true →
    Completes (.discardReport u (.extent e)) s (fun t =>
      { unit := pageOfSite u.toNat, what := e.toNat, ext := true } ∈ t.flt.discard))

/-- R273, R276, R277, R282: RETAG_STEP, RETAG_END, ROOT_ARRAY_ERROR, ROOT_REBUILD_END and CHUNK_INIT. -/
def Obligations.RetagsRootArraysAndChunks : Prop :=
  (∀ (s : State) (hs : Fin 32) (r : Retag), s.sliceOut hs.val = false → listed s.mem.rebuild hs.val = false →
    (s.retags hs.val).find? (fun r => !r.todo.isEmpty) = some r →
    (r.key / 2 ^ 40 = 1 → let line := 64 * leafPage hs.val (r.key % 2 ^ 40 / 32) + r.todo.headD 0
      (∀ q ∈ s.home.queue, q.line ≠ line) ∧ s.lineStill line = false) →
    Completes (.retagStep hs) s (fun t => t.retags hs.val = (s.retags hs.val).map (fun x =>
      if x.key = r.key then { x with done := x.done ||| BitVec.ofNat 64 (2 ^ (r.todo.headD 0)) } else x))) ∧
  (∀ (s : State) (hs : Fin 32), Completes (.retagEnd hs) s (fun t =>
      t.retags hs.val = (s.retags hs.val).filter (fun r => !r.todo.isEmpty) ∧
      ∀ k : Fin 32, k ≠ hs → t.retags k.val = s.retags k.val)) ∧
  (∀ (s : State) (hs : Fin 32), Completes (.rootArrayError hs) s (fun t => listed t.mem.rebuild hs.val = true)) ∧
  (∀ (s : State) (hs : Fin 32) (rejected : BitVec 32), listed s.mem.rebuild hs.val = true →
    Completes (.rootRebuildEnd hs rejected) s (fun t => listed t.mem.rebuild hs.val = false)) ∧
  (∀ (s : State) (hs : Fin 32) (r : Retag), (s.retags hs.val).find? (fun r => !r.todo.isEmpty) = some r →
    r.key / 2 ^ 40 = 1 → (s.home.queue.any (fun q => q.line ==
      64 * leafPage hs.val (r.key % 2 ^ 40 / 32) + r.todo.headD 0)) = true → exec (.retagStep hs) s = .next s) ∧
  (∀ (s : State) (c : BitVec 22), s.inUse (c.toNat / 16) = true → s.lazyOn = true → s.mem.rebuild = [] →
    s.nextChunk (c.toNat / 16) = some c.toNat →
    Completes (.chunkInit c) s (fun t => t.mem.chunks = enter t.now s.mem.chunks c.toNat ∧
      t.now = s.instant s.mem.chunkAt ∧ t.mem.pages = s.mem.pages ∧
      ∀ k, look? t.mem.blocks k = if (k / 2 ^ 40 = 1 ∧ k % 2 ^ 40 / 32 / 128 = c.toNat) ∨
        (k / 2 ^ 40 = 2 ∧ k % 2 ^ 40 / 32 / 2 = c.toNat) then none else look? s.mem.blocks k)) ∧
  (∀ (s : State) (c : BitVec 22), s.lazyOn = false ∨ s.mem.rebuild ≠ [] → exec (.chunkInit c) s = .next s)

/-- R109, R112, R113, R117, R119, R123, R128: the operations of AMAP.TCMD (TCMD_READ_ENTRY, TCMD_STAGE_ENTRY, GRANT,
PIN, OFFER, RECALL, FORCE, FREE), for a write that passes the checks of R544. -/
def Obligations.AddressMapTableCommands : Prop :=
  (∀ (s : State) (m : Master) (t : BitVec 2) (i : BitVec 18), s.accepts m amapTcmd = true → i.toNat < tableSize t.toNat →
    Completes (.tcmdReadEntry m t i) s (fun u => u.amap.result = 0 ∧
      ∀ k < 8, u.tdata k = ((s.imageOf t.toNat i.toNat).getD k 0) % 2 ^ 32)) ∧
  (∀ (s : State) (m : Master) (t : BitVec 2) (i : BitVec 18), s.accepts m amapTcmd = true →
    s.checkEntry t.toNat i.toNat ((upTo 8).map s.tdata) = 0 →
    Completes (.tcmdStageEntry m t i) s (fun u => u.amap.result = 0 ∧
      ({ table := t.toNat, index := i.toNat, img := (upTo 8).map (fun k => BitVec.ofNat 32 (s.tdata k)), going := false }
        : StagedEntry) ∈ u.amap.staged)) ∧
  (∀ (s : State) (m : Master) (t : BitVec 2) (i : BitVec 18), s.accepts m amapTcmd = true →
    s.checkEntry t.toNat i.toNat ((upTo 8).map s.tdata) ≠ 0 →
    Completes (.tcmdStageEntry m t i) s (fun u => u.amap.staged = s.amap.staged ∧
      u.amap.result = s.checkEntry t.toNat i.toNat ((upTo 8).map s.tdata))) ∧
  (∀ (s : State) (m : Master) (e : BitVec 18) (i f : Nat), s.accepts m amapTcmd = true →
    (s.dom (bits (s.tdata 2) 0 12)).valid = true → s.holdersOk s.cmdMask e.toNat = true → (s.ext e.toNat).st = .free →
    ceilDiv 524288 (max 1 (s.dom (bits (s.tdata 2) 0 12)).ovc) + metaFrames ≤ s.ffree - s.reserve →
    s.metaPlace (bits (s.tdata 2) 0 12) = some (i, f) →
    Completes (.grant m e) s (fun t => t.amap.result = 0 ∧ t.ext e.toNat = ({
      gen := (s.ext e.toNat).gen + 1, domain := bits (s.tdata 2) 0 12, metaSet := i, metaFrame := f,
      rsv := ceilDiv 524288 (max 1 (s.dom (bits (s.tdata 2) 0 12)).ovc), st := .offered, since := s.now }
        : ExtentEntry).setHolders s.cmdMask)) ∧
  (∀ (s : State) (m : Master) (e : BitVec 18) (i f : Nat), s.accepts m amapTcmd = true →
    (s.dom (bits (s.tdata 2) 0 12)).valid = true → (s.ext e.toNat).st = .free →
    ceilDiv 524288 (max 1 (s.dom (bits (s.tdata 2) 0 12)).ovc) + metaFrames ≤ s.ffree - s.reserve →
    s.metaPlace (bits (s.tdata 2) 0 12) = some (i, f) →
    Completes (.pin m e) s (fun t => t.amap.result = 0 ∧ (t.ext e.toNat).st = .pinned ∧
      (t.ext e.toNat).gen = (s.ext e.toNat).gen + 1 ∧ (t.ext e.toNat).domain = bits (s.tdata 2) 0 12 ∧
      (t.ext e.toNat).metaSet = i ∧ (t.ext e.toNat).metaFrame = f ∧
      (t.ext e.toNat).rsv = ceilDiv 524288 (max 1 (s.dom (bits (s.tdata 2) 0 12)).ovc) ∧
      ∀ n < 64, (t.ext e.toNat).holds n = false)) ∧
  (∀ (s : State) (m : Master) (e : BitVec 18), s.accepts m amapTcmd = true →
    (s.ext e.toNat).gen.toNat = bits (s.tdata 3) 0 16 → s.holdersOk s.cmdMask e.toNat = true → (s.ext e.toNat).st = .pinned →
    Completes (.offer m e) s (fun t => t.amap.result = 0 ∧ (t.ext e.toNat).st = .offered ∧
      (t.ext e.toNat).fromPinned = true ∧ (t.ext e.toNat).gen = (s.ext e.toNat).gen ∧
      ∀ n < 64, (t.ext e.toNat).holds n = bitOf s.cmdMask n)) ∧
  (∀ (s : State) (m : Master) (e : BitVec 18), s.accepts m amapTcmd = true →
    (s.ext e.toNat).gen.toNat = bits (s.tdata 3) 0 16 → (s.ext e.toNat).st = .granted →
    Completes (.recall m e) s (fun t => t.amap.result = 0 ∧ (t.ext e.toNat).st = .recall)) ∧
  (∀ (s : State) (m : Master) (e : BitVec 18), s.accepts m amapTcmd = true →
    (s.ext e.toNat).gen.toNat = bits (s.tdata 3) 0 16 → (s.ext e.toNat).st = .granted ∨ (s.ext e.toNat).st = .recall →
    Completes (.force m e) s (fun t => t.amap.result = 0 ∧ (t.ext e.toNat).st = .drain)) ∧
  (∀ (s : State) (m : Master) (e : BitVec 18), s.accepts m amapTcmd = true →
    (s.ext e.toNat).gen.toNat = bits (s.tdata 3) 0 16 → (s.ext e.toNat).st = .pinned →
    Completes (.free m e) s (fun t => t.amap.result = 0 ∧ (t.ext e.toNat).st = .drain)) ∧
  (∀ (s : State) (m : Master) (e : BitVec 18), s.accepts m amapTcmd = true →
    (s.ext e.toNat).gen.toNat ≠ bits (s.tdata 3) 0 16 →
    Completes (.offer m e) s (fun t => t.amap.result = 4 ∧ t.amap.extents = s.amap.extents) ∧
    Completes (.recall m e) s (fun t => t.amap.result = 4 ∧ t.amap.extents = s.amap.extents) ∧
    Completes (.force m e) s (fun t => t.amap.result = 4 ∧ t.amap.extents = s.amap.extents) ∧
    Completes (.free m e) s (fun t => t.amap.result = 4 ∧ t.amap.extents = s.amap.extents))

/-- R108, R112, R113, R115, R121, R126, R127, R129, R328, R575: ADD_DC_RESPONSE, OFFER_TO_EXPIRY, RELEASE_DC,
EXTENT_DRAIN_END, EXTENT_ERASE_END, AUTO_RECALL, LAND_DATA_WRITE and PEER_FLUSH_READ. The extent 0 that PEER_DROP names for a page that is no aperture is the model's choice (assumption 124). -/
def Obligations.ExtentLifeCycle : Prop :=
  (∀ (s : State) (n : Fin 64) (e : BitVec 18) (gen : BitVec 16), s.mailboxOpen n.val = true →
    (s.ext e.toNat).gen = gen →
    (s.ext e.toNat).st = .offered → (s.ext e.toNat).holds n.val = true → (s.ext e.toNat).accept.getLsbD n.val = false →
    (s.ext e.toNat).rejected.getLsbD n.val = false →
    (∀ k ∈ (s.ext e.toNat).holders, k = n.val ∨ (s.ext e.toNat).accept.getLsbD k = true ∨
      (s.ext e.toNat).rejected.getLsbD k = true) →
    Completes (.addDcResponse n e gen true) s (fun t => (t.ext e.toNat).st = .granted ∧
      (t.ext e.toNat).holds n.val = true ∧ .dcResult n.val 0 ∈ t.out)) ∧
  (∀ (s : State) (n : Fin 64) (e : BitVec 18) (gen : BitVec 16), s.mailboxOpen n.val = true →
    (s.ext e.toNat).gen = gen →
    (s.ext e.toNat).st = .offered → (s.ext e.toNat).holds n.val = true → (s.ext e.toNat).rejected.getLsbD n.val = false →
    (∀ k ∈ (s.ext e.toNat).holders, (s.ext e.toNat).accept.getLsbD k = false ∧
      (k = n.val ∨ (s.ext e.toNat).rejected.getLsbD k = true)) →
    Completes (.addDcResponse n e gen false) s (fun t => .dcResult n.val 0 ∈ t.out ∧
      (t.ext e.toNat).st = if (s.ext e.toNat).fromPinned then .pinned else .erase)) ∧
  (∀ (s : State) (e : BitVec 18), (s.ext e.toNat).st = .offered → s.cfg amapPage 0xE8 1 8 ≠ 0 →
    Completes (.offerToExpiry e) s (fun t =>
      t.now = s.instant ((s.ext e.toNat).since + s.cfg amapPage 0xE8 1 8 * 10 ^ 9) ∧
      (t.ext e.toNat).st = if (s.ext e.toNat).holders.any (fun n => (s.ext e.toNat).accept.getLsbD n) then .granted
        else if (s.ext e.toNat).fromPinned then .pinned else .erase)) ∧
  (∀ (s : State) (n : Fin 64) (e : BitVec 18) (gen : BitVec 16), s.mailboxOpen n.val = true →
    (s.ext e.toNat).gen = gen →
    (s.ext e.toNat).st = .granted ∨ (s.ext e.toNat).st = .recall → (s.ext e.toNat).holders = [n.val] →
    Completes (.releaseDc n [(e, gen)]) s (fun t => (t.ext e.toNat).st = .drain ∧ .dcResult n.val 0 ∈ t.out)) ∧
  (∀ (s : State) (e : BitVec 18), (s.ext e.toNat).st = .drain → s.extIdle e.toNat = true →
    Completes (.extentDrainEnd e) s (fun t => (t.ext e.toNat).st = .erase ∧ (t.ext e.toNat).since = s.now)) ∧
  (∀ (s : State) (e : BitVec 18), (s.ext e.toNat).st = .erase →
    Completes (.extentEraseEnd e) s (fun t => t.ext e.toNat = { gen := (s.ext e.toNat).gen, since := s.now } ∧
      ∀ k < 16, listed t.mem.chunks (16 * e.toNat + k) = false)) ∧
  (∀ (s : State) (e : Nat), s.sorrelUp = true → s.amap.crit = true → s.cfgBit amapPage 0xE8 0 = true → s.pressed = some e →
    Completes .autoRecall s (fun t => (t.ext e).st = .recall ∧
      t.amap.recallAt = some (s.instant (s.amap.recallAt.elim 0 (· + ms 100))))) ∧
  (∀ (s : State) (page rid : BitVec 16) (k : Nat) (data : List Byte), landOf page.toNat = some k →
    s.answers (poolPage k) = true → s.mgmtUp = true → s.landOk k rid = true → data.length = 4 →
    exec (.landDataWrite page rid 0x88 data false) s =
      .next ((s.heard s.mgmtLd).setReg (poolPage k) 0x88 (BitVec.ofNat 32 (ofBytes data % 2 ^ 17)))) ∧
  (∀ (s : State) (page rid : BitVec 16) (off : BitVec 12) (data : List Byte) (ep : Bool) (k line : Nat),
    landOf page.toNat = some k → s.answers (poolPage k) = true → s.mgmtUp = true → s.landOk k rid = true →
    0x800 ≤ off.toNat → off.toNat % 64 = 0 → data.length = 64 →
    (s.ext (s.cfg (poolPage k) 0x80 0 18)).st = .pinned →
    (s.ext (s.cfg (poolPage k) 0x80 0 18)).gen.toNat = s.cfg (poolPage k) 0x84 16 16 →
    64 * line = s.cfg (poolPage k) 0x80 0 18 * 2 ^ 28 + s.cfg (poolPage k) 0x88 0 17 * 2048 +
      (off.toNat - 0x800) → s.sliceOut (homeOf (lnPage line)) = false →
    exec (.landDataWrite page rid off data ep) s =
      .next ((s.heard s.mgmtLd).enlist line (.pool k) (.write .none (lineOf data) ep) 0 false false)) ∧
  (∀ (s : State) (page rid : BitVec 16) (off : BitVec 12) (data : List Byte) (ep : Bool) (k : Nat),
    landOf page.toNat = some k → s.answers (poolPage k) = true → s.mgmtUp = true →
    (s.landOk k rid = false ∨ (off.toNat ≠ 0x88 ∧ off.toNat < 0x800) ∨ (0x800 ≤ off.toNat ∧ (off.toNat % 64 ≠ 0 ∨
      data.length % 64 ≠ 0 ∨ (s.ext (s.cfg (poolPage k) 0x80 0 18)).st ≠ .pinned ∨
      (s.ext (s.cfg (poolPage k) 0x80 0 18)).gen.toNat ≠ s.cfg (poolPage k) 0x84 16 16))) →
    exec (.landDataWrite page rid off data ep) s =
      .next ((s.heard s.mgmtLd).peerDrop (poolPage k) (s.cfg (poolPage k) 0x80 0 18))) ∧
  (∀ (s : State) (page rid : BitVec 16) (off : BitVec 12) (data : List Byte) (ep : Bool),
    landOf page.toNat = none → s.mgmtUp = true →
    exec (.landDataWrite page rid off data ep) s = .next ((s.heard s.mgmtLd).peerDrop (poolPage 0) 0)) ∧
  (∀ (s : State) (page rid : BitVec 16) (k tag : Nat), landOf page.toNat = some k → s.answers (poolPage k) = true →
    s.mgmtUp = true → s.landOk k rid = true → (∀ q ∈ s.home.queue, q.who ≠ .pool k) →
    (∀ r ∈ s.home.retried, r.req.who ≠ .pool k) →
    Completes (.peerFlushRead page rid ⟨0, 4, tag⟩) s (fun t =>
      .flushData rid.toNat tag (BitVec.ofNat 32 (idWord (poolPage k))) ∈ t.out)) ∧
  (∀ (s : State) (page rid : BitVec 16) (off : BitVec 12) (len tag k : Nat), s.mgmtUp = true →
    landOf page.toNat = some k → s.answers (poolPage k) = true → s.landOk k rid = true → (off.toNat ≠ 0 ∨ len ≠ 4) →
    exec (.peerFlushRead page rid ⟨off, len, tag⟩) s =
      .next ((s.heard s.mgmtLd).toHost s.mgmtLd (.peerUr rid.toNat tag)))

/-- R170, R174, R175, R190, R204, R206, R308: CHANNEL_TRAINING_END, DQS_TRACK, CA_ALERT, QUICK_RETRAIN, QUICK_RETRAIN_END,
FCTL_GO and FREQ_CHANGE_END. -/
def Obligations.ChannelTrainingAndSpeed : Prop :=
  (∀ (s : State) (c : Fin 16), (s.chan c.val).st = .training → (s.chan c.val).job ≠ some .hard →
    ((s.chan c.val).returning && s.setTooLong c.val) = false → Completes (.channelTrainingEnd c .ok) s (fun t => (t.chan c.val).st = .active ∧ (t.chan c.val).step = 8 ∧
      (t.chan c.val).validA = true ∧ (t.chan c.val).setB = false ∧ (t.chan c.val).debt = [] ∧
      (t.chan c.val).repaired = s.repairs c.val)) ∧
  (∀ (s : State) (c : Fin 16), (s.chan c.val).st = .training → (s.chan c.val).job ≠ some .hard →
    ((s.chan c.val).returning && s.setTooLong c.val) = true → Completes (.channelTrainingEnd c .ok) s (fun t => (t.chan c.val).st = .disabled ∧ (t.chan c.val).cause = 5)) ∧
  (∀ (s : State) (c : Fin 16) (at_ : Fin 6), (s.chan c.val).st = .training → (s.chan c.val).job ≠ some .hard →
    (s.chan c.val).failedOnce = false → Completes (.channelTrainingEnd c (.failed at_)) s (fun t => (t.chan c.val).st = .training ∧
      (t.chan c.val).speed = (s.chan c.val).speed ∧ (t.chan c.val).failedOnce = true ∧ (t.chan c.val).step = 3)) ∧
  (∀ (s : State) (c : Fin 16) (at_ : Fin 6), (s.chan c.val).st = .training → (s.chan c.val).job ≠ some .hard →
    (s.chan c.val).failedOnce = true →
    Completes (.channelTrainingEnd c (.failed at_)) s (fun t => (s.chan c.val).speed ∈ (t.chan c.val).removed ∧
      (t.chan c.val).failedOnce = false ∧ (((t.chan c.val).st = .training ∧ (t.chan c.val).step = 3) ∨
        ((t.chan c.val).st = .disabled ∧ (t.chan c.val).cause = 6 ∧ (t.chan c.val).step = 3 + at_.val)))) ∧
  (∀ (s : State) (c : Fin 16), s.serves c.val = true → Completes (.dqsTrack c) s (fun t =>
      t.now = s.instant ((s.chan c.val).dqsAt + ms 64) ∧ (t.chan c.val).dqsAt = t.now)) ∧
  (∀ (s : State) (c : Fin 16) (rank : BitVec 5), s.caArmed c.val = true → Completes (.caAlert c rank) s (fun t =>
      (t.chan c.val).alerts = s.now :: (s.chan c.val).alerts.filter (fun x => decide (s.now < x + sec 1)) ∧
      (t.chan c.val).retrainOwed = ((s.chan c.val).retrainOwed || decide (16 ≤ (t.chan c.val).alerts.length)))) ∧
  (∀ (s : State) (c : Fin 16), (s.chan c.val).retrainOwed = true → s.serves c.val = true →
    (s.chan c.val).still = false → (s.chan c.val).softHold = false →
    exec (.quickRetrain c) s = .next (s.onChan c.val (fun ch => { ch with
      retraining := true, retrainOwed := false, alerts := [] }))) ∧
  (∀ (s : State) (c : Fin 16), (s.chan c.val).retraining = true →
    Completes (.quickRetrainEnd c true) s (fun t => t = (s.onChan c.val (fun ch => { ch with retraining := false })).stallEnd c.val ∧
      (t.chan c.val).retraining = false)) ∧
  (∀ (s : State) (c : Fin 16), (s.chan c.val).retraining = true → (s.chan c.val).st = .active →
    Completes (.quickRetrainEnd c false) s (fun t => (t.chan c.val).st = .quarantined ∧ (t.chan c.val).retraining = false)) ∧
  (∀ (s : State) (m : Master) (c : Fin 16), s.accepts m (fctlOff c.val) = true → (s.chan c.val).fctlBusy = false →
    (s.chan c.val).fctlOwed = false →
    (if (s.chan c.val).setB then (s.chan c.val).validA else (s.chan c.val).validB) = true → (s.chan c.val).st = .active →
    (s.chan c.val).job ≠ some .hard → (s.chan c.val).retraining = false → (s.chan c.val).softHold = false →
    Completes (.fctlGo m c) s (fun t => (t.chan c.val).fctlBusy = true)) ∧
  (∀ (s : State) (m : Master) (c : Fin 16), s.accepts m (fctlOff c.val) = true → (s.chan c.val).fctlBusy = false →
    (s.chan c.val).fctlOwed = false →
    (if (s.chan c.val).setB then (s.chan c.val).validA else (s.chan c.val).validB) = true → (s.chan c.val).st = .active →
    (s.chan c.val).job ≠ some .hard → (s.chan c.val).retraining = true ∨ (s.chan c.val).softHold = true →
    Completes (.fctlGo m c) s (fun t => (t.chan c.val).fctlOwed = true ∧ (t.chan c.val).fctlBusy = false ∧
      (t.chan c.val).fctlResult = (s.chan c.val).fctlResult)) ∧
  (∀ (s : State) (m : Master) (c : Fin 16), s.accepts m (fctlOff c.val) = true → (s.chan c.val).fctlBusy = false →
    (s.chan c.val).fctlOwed = false →
    (if (s.chan c.val).setB then (s.chan c.val).validA else (s.chan c.val).validB) = false →
    Completes (.fctlGo m c) s (fun t => (t.chan c.val).fctlBusy = false ∧ (t.chan c.val).fctlResult = 1)) ∧
  (∀ (s : State) (m : Master) (c : Fin 16), s.accepts m (fctlOff c.val) = true → (s.chan c.val).fctlBusy = false →
    (s.chan c.val).fctlOwed = false →
    (if (s.chan c.val).setB then (s.chan c.val).validA else (s.chan c.val).validB) = true →
    (s.chan c.val).st ≠ .active ∨ (s.chan c.val).job = some .hard →
    Completes (.fctlGo m c) s (fun t => (t.chan c.val).fctlBusy = false ∧ (t.chan c.val).fctlResult = 2)) ∧
  (∀ (s : State) (c : Fin 16), (s.chan c.val).fctlBusy = true → (s.chan c.val).tooHot = false →
    (s.chan c.val).fctlOwed = false →
    Completes (.freqChangeEnd c true) s (fun t => (t.chan c.val).setB = !(s.chan c.val).setB ∧
      (t.chan c.val).fctlBusy = false ∧ (t.chan c.val).fctlResult = 0 ∧
      (t.chan c.val).speed = s.cfg (chanPage c.val 0) (if (s.chan c.val).setB then 0x114 else 0x134) 0 4) ∧
    Completes (.freqChangeEnd c false) s (fun t => (t.chan c.val).setB = (s.chan c.val).setB ∧
      (t.chan c.val).fctlBusy = false ∧ (t.chan c.val).fctlResult = 3))

/-- R178, R179, R181-R185, R187, R191, R205, R263: REFRESH_DUE, REFRESH_REPAY, MR4_POLL, RFM_REQUEST, SCRUB_READ,
DRAM_READ_RETURN, CE_WINDOW_STEP and DIMM_THERMAL_READ. What more than two devices' errors are found to be is a free
value of the model (assumption 16). Where a clause meets a point that the spec leaves open, it follows the model's
choice, named in the assumption log (rows 1, 6, 16, 40, 56, 57, 61, 126 and 127). -/
def Obligations.RefreshScrubAndThermal : Prop :=
  (∀ (s : State) (c : Fin 16) (rank : BitVec 5) (sub : Fin 2) (x : Nat), s.refreshes c.val = true →
    x = (look? (s.chan c.val).due (2 * rank.toNat + sub.val)).getD s.now + s.refInterval c.val rank.toNat →
    (s.chan c.val).fctlBusy = false → (s.chan c.val).takes rank.toNat = true →
    look 0 (s.chan c.val).debt (2 * rank.toNat + sub.val) < s.debtLimit c.val →
    Completes (.refreshDue c rank sub true) s (fun t =>
      look 0 (t.chan c.val).debt (2 * rank.toNat + sub.val) =
        look 0 (s.chan c.val).debt (2 * rank.toNat + sub.val) + 1 ∧
      (s.now ≤ x → look? (t.chan c.val).due (2 * rank.toNat + sub.val) = some x))) ∧
  (∀ (s : State) (c : Fin 16) (rank : BitVec 5) (sub : Fin 2) (busy : Bool) (x : Nat), s.refreshes c.val = true →
    x = (look? (s.chan c.val).due (2 * rank.toNat + sub.val)).getD s.now + s.refInterval c.val rank.toNat →
    (s.chan c.val).fctlBusy = false → (s.chan c.val).takes rank.toNat = true →
    busy = false ∨ s.debtLimit c.val ≤ look 0 (s.chan c.val).debt (2 * rank.toNat + sub.val) →
    Completes (.refreshDue c rank sub busy) s (fun t => (t.chan c.val).debt = (s.chan c.val).debt ∧
      .ref (2 * rank.toNat + sub.val) ∈ (t.chan c.val).issued ∧
      (s.now ≤ x → look? (t.chan c.val).due (2 * rank.toNat + sub.val) = some x))) ∧
  (∀ (s : State) (c : Fin 16) (rank : BitVec 5) (sub : Fin 2), s.refreshes c.val = true →
    (s.chan c.val).fctlBusy = false → (s.chan c.val).takes rank.toNat = true →
    0 < look 0 (s.chan c.val).debt (2 * rank.toNat + sub.val) →
    Completes (.refreshRepay c rank sub) s (fun t => look 0 (t.chan c.val).debt (2 * rank.toNat + sub.val) + 1 =
      look 0 (s.chan c.val).debt (2 * rank.toNat + sub.val) ∧
      .ref (2 * rank.toNat + sub.val) ∈ (t.chan c.val).issued ∧
      ∀ x, look? (s.chan c.val).reqAt (2 * rank.toNat + sub.val) = some x →
        x + 10 * s.cfg (chanPage c.val 1) 0x80 10 6 ≤ t.now)) ∧
  (∀ (s : State) (c : Fin 16) (ranks : BitVec 32), s.refreshes c.val = true → (s.chan c.val).fctlBusy = false →
    Completes (.mr4Poll c ranks) s (fun t =>
      (t.chan c.val).mr4 = ranks ∧ t.now = s.instant ((s.chan c.val).mr4At + ms 4) ∧ (t.chan c.val).mr4At = t.now)) ∧
  (∀ (s : State) (c : Fin 16) (rank : BitVec 5) (sub : Fin 2) (bg : Fin 8) (ba : Fin 4) (b : Nat),
    s.refreshes c.val = true → (s.chan c.val).takes rank.toNat = true →
    b = bankKey { rank := rank.toNat, sub := sub.val, dev := 0, bg := bg.val, ba := ba.val, row := 0 } →
    Completes (.rfmRequest c rank sub bg ba) s (fun t => .rfm b ∈ (t.chan c.val).issued ∧
      listed (t.chan c.val).acts b = false ∧ (listed (s.chan c.val).sampled b = false →
        (t.chan c.val).rfm = min 0xFFFF ((s.chan c.val).rfm + 1)))) ∧
  (∀ (s : State) (c : Fin 16) (err : BitVec 640), s.serves c.val = true → s.cfgBit (chanPage c.val 3) 0x80 8 = true →
    (s.chan c.val).still = false → Completes (.scrubRead c err) s (fun t => t.now = s.instant (s.scrubDue c.val) ∧
      (t.chan c.val).scrub = (if (s.chan c.val).lineCount ≤ (s.chan c.val).scrub + 1 then 0 else (s.chan c.val).scrub + 1) ∧
      (t.chan c.val).passes = if (s.chan c.val).lineCount ≤ (s.chan c.val).scrub + 1
        then min 0xFFFFFF ((s.chan c.val).passes + 1) else (s.chan c.val).passes)) ∧
  (∀ (s : State) (c : Fin 16) (off : BitVec 40) (err p : BitVec 640), s.serves c.val = true →
    s.getMedia c.val (off.toNat / 64 * 64) ≠ some .poison → devicesHit err = [] →
    exec (.dramReadReturn c off err p) s = .next (s.takeFree.takeFree.copyWalk c.val)) ∧
  (∀ (s : State) (c : Fin 16) (off : BitVec 40) (d : Fin 10) (err p : BitVec 640), s.serves c.val = true →
    s.getMedia c.val (off.toNat / 64 * 64) ≠ some .poison → devicesHit err = [d] →
    Completes (.dramReadReturn c off err p) s (fun t =>
      (t.chan c.val).ceTotal = min 0xFFFF ((s.chan c.val).ceTotal + 1))) ∧
  (∀ (s : State) (c : Fin 16) (off : BitVec 40) (d d' : Fin 10) (err p : BitVec 640), s.serves c.val = true →
    s.getMedia c.val (off.toNat / 64 * 64) ≠ some .poison → s.inMirror (c.val / 2 * 2) (off.toNat / 64 * 64) = false →
    devicesHit err = [d, d'] → Completes (.dramReadReturn c off err p) s (fun t =>
      (t.chan c.val).ueTotal = min 0xFFFF (((s.takeFree.takeFree.copyWalk c.val).chan c.val).ueTotal + 1))) ∧
  (∀ (s : State) (c : Fin 16) (off : BitVec 40) (d d' : Fin 10) (err p : BitVec 640) (o : Nat) (v : Stored),
    o / 2 = c.val / 2 → o ≠ c.val → s.serves c.val = true →
    s.getMedia c.val (off.toNat / 64 * 64) ≠ some .poison → (s.takeFree.takeFree.copyWalk c.val).partnerGood c.val (off.toNat / 64 * 64) o = true →
    (s.takeFree.takeFree.copyWalk c.val).getMedia o (off.toNat / 64 * 64) = some v → devicesHit err = [d, d'] → devicesHit p = [] →
    Completes (.dramReadReturn c off err p) s (fun t => t.getMedia c.val (off.toNat / 64 * 64) = some v ∧
      (t.chan c.val).ueTotal = min 0xFFFF (((s.takeFree.takeFree.copyWalk c.val).chan c.val).ueTotal + 1))) ∧
  (∀ (s : State) (c : Fin 16) (off : BitVec 40) (err p : BitVec 640) (i x n : Nat), s.serves c.val = true →
    s.getMedia c.val (off.toNat / 64 * 64) ≠ some .poison → s.inMirror (c.val / 2 * 2) (off.toNat / 64 * 64) = false →
    s.setByte c.val (off.toNat / 64 * 64) = some (i, x) → s.ownerAt i x = .line n → 2 < (devicesHit err).length →
    Completes (.dramReadReturn c off err p) s (fun t => t = s.takeFree.takeFree.copyWalk c.val ∨
      (t.chan c.val).ueTotal = min 0xFFFF (((s.takeFree.takeFree.copyWalk c.val).chan c.val).ueTotal + 1) ∨
      look 0 t.mem.tagFail (homeOf (lnPage n)) = min 0xFFFF (look 0 s.mem.tagFail (homeOf (lnPage n)) + 1))) ∧
  (∀ (s : State) (c : Fin 16), Completes (.ceWindowStep c) s (fun t => t.now = s.instant ((s.chan c.val).ceAt + sec 3600) ∧
    (t.chan c.val).ce =
      ((s.chan c.val).ce.map (fun e => (e.1, 0 :: e.2.take 254))).filter (fun e => e.2.any (· != 0)))) ∧
  (∀ (s : State) (c : Fin 16) (a0 b0 a1 b1 : BitVec 8), (s.chan c.val).i3cOff = false →
    (s.chan c.val).dimm0.spd.isSome = true → Completes (.dimmThermalRead c ⟨a0, b0⟩ ⟨a1, b1⟩) s (fun t =>
      t.now = s.instant ((s.chan c.val).thermAt + us 250) ∧
      (t.chan c.val).dimm0.temp.toInt = max a0.toInt b0.toInt ∧
      (t.chan c.val).dimm0.level = thermLevel [s.cfg (chanPage c.val 5) 0x88 0 8, s.cfg (chanPage c.val 5) 0x88 8 8,
        s.cfg (chanPage c.val 5) 0x88 16 8] (s.chan c.val).dimm0.level (t.chan c.val).dimm0.temp.toInt ∧
      ((t.chan c.val).dimm0.level = 3 → (s.chan c.val).st = .active → (s.chan c.val).fctlBusy = false →
        (s.chan c.val).hotDone = false → (t.chan c.val).st = .quarantined ∧ (t.chan c.val).selfRef = true)))

/-- R192, R194-R199, R206: SPARE_RANK, SPARE_COPY_END, SOFT_REPAIR, SOFT_REPAIR_END, HARD_REPAIR, HARD_REPAIR_END,
RESILVER, CANCEL_RESILVER and RESILVER_END. Where a clause meets a point that the spec leaves open, it follows the
model's choice, named in the assumption log (rows 1, 40, 58, 130 and 132). -/
def Obligations.SparingRepairAndMirrors : Prop :=
  (∀ (s : State) (m : Master) (c : Fin 16) (rank : BitVec 5), s.accepts m (ddrpOff c.val) = true →
    s.serves c.val = true → (s.chan c.val).job = none → rank.toNat + 1 < (s.chan c.val).lranks → s.spareFree c.val = true →
    Completes (.spareRank m c rank) s (fun t => (t.chan c.val).job = some (.sparing rank.toNat) ∧
      (t.chan c.val).ddrpResult = 0)) ∧
  (∀ (s : State) (c : Fin 16) (rank : Nat), (s.chan c.val).job = some (.sparing rank) → (s.chan c.val).jobQueue = [] →
    (s.chan c.val).copy.paused = false → s.serves c.val = true → Completes (.spareCopyEnd c) s (fun t => (t.chan c.val).spared = some rank ∧ (t.chan c.val).job = none ∧
      (t.chan c.val).ddrpResult = 0)) ∧
  (∀ (s : State) (m : Master) (c : Fin 16) (rank : BitVec 5), s.accepts m (ddrpOff c.val) = true →
    s.serves c.val = true → rank.toNat < (s.chan c.val).lranks → (s.namedRow c.val rank.toNat).dev ≤ 9 →
    (s.namedRow c.val rank.toNat).row < 2 ^ (s.chan c.val).rb → (s.chan c.val).job = none →
    (s.chan c.val).still = false → (s.chan c.val).fctlOwed = false →
    (s.chan c.val).repaired.any (s.namedRow c.val rank.toNat).sameBank = false → (s.repairs c.val).length < 32 →
    Completes (.softRepair c (.cmd m rank)) s (fun t =>
      (t.chan c.val).job = some (.soft (s.namedRow c.val rank.toNat)) ∧ (t.chan c.val).ddrpResult = 0)) ∧
  (∀ (s : State) (c : Fin 16) (rank : BitVec 5) (sub : Fin 2) (bg : Fin 8) (ba : Fin 4) (row : BitVec 18) (dev : Fin 10)
    (r : RepairRec),
    r = { rank := rank.toNat, sub := sub.val, dev := dev.val, bg := bg.val, ba := ba.val, row := row.toNat } →
    s.serves c.val = true → s.cfgBit (chanPage c.val 4) 0x80 9 = true → 8 ≤ (s.rowLines c.val r).length →
    (s.chan c.val).job = none → (s.chan c.val).still = false → (s.chan c.val).fctlOwed = false →
    (s.chan c.val).repaired.any r.sameBank = false → (s.repairs c.val).length < 32 →
    Completes (.softRepair c (.auto rank sub bg ba row dev)) s (fun t => (t.chan c.val).job = some (.soft r) ∧
      listed (t.chan c.val).rowCe (rowKey r) = false)) ∧
  (∀ (s : State) (c : Fin 16) (due : Fin 6) (r : RepairRec), (s.chan c.val).job = some (.soft r) →
    (s.chan c.val).jobQueue = [] →
    Completes (.softRepairEnd ⟨c, due⟩) s (fun t => (∀ w ∈ (s.storeRepairs c.val (s.repairs c.val ++ [r])).ret.queue,
      ∃ x ∈ t.ret.queue, x.key = w.key ∧ x.val = w.val) ∧
      (t.chan c.val).repaired = (s.chan c.val).repaired ++ [r] ∧ (t.chan c.val).job = none)) ∧
  (∀ (s : State) (m : Master) (c : Fin 16), s.accepts m (ddrpOff c.val) = true → (s.chan c.val).st = .drained →
    (s.chan c.val).job = none → Completes (.hardRepair m c) s (fun t => (t.chan c.val).job = some .hard ∧
      (t.chan c.val).ddrpResult = 0)) ∧
  (∀ (s : State) (c : Fin 16) (ok : BitVec 32), (s.chan c.val).job = some .hard →
    Completes (.hardRepairEnd c ok) s (fun t => (t.chan c.val).job = none ∧ ∀ w ∈ (s.storeRepairs c.val
      ((((s.repairs c.val).zip (upTo (s.repairs c.val).length)).filter (fun e => !ok.getLsbD e.2)).map (·.1))).ret.queue,
      w ∈ t.ret.queue)) ∧
  (∀ (s : State) (m : Master) (c : Fin 16), s.accepts m (ddrpOff c.val) = true → c.val % 2 = 0 →
    (s.chan c.val).mir = .evenOnly → (s.chan (c.val + 1)).st = .active →
    Completes (.resilver m c) s (fun t => (t.chan c.val).mir = .resilverOdd ∧ (t.chan c.val).ddrpResult = 0)) ∧
  (∀ (s : State) (m : Master) (c : Fin 16), s.accepts m (ddrpOff c.val) = true → c.val % 2 = 0 →
    (s.chan c.val).mir = .oddOnly → (s.chan c.val).st = .active →
    Completes (.resilver m c) s (fun t => (t.chan c.val).mir = .resilverEven ∧ (t.chan c.val).ddrpResult = 0)) ∧
  (∀ (s : State) (m : Master) (c : Fin 16), s.accepts m (ddrpOff c.val) = true → c.val % 2 = 0 →
    (s.chan c.val).mir = .resilverOdd ∨ (s.chan c.val).mir = .resilverEven →
    Completes (.cancelResilver m c) s (fun t => (t.chan c.val).ddrpResult = 0 ∧
      (t.chan c.val).mir = if (s.chan c.val).mir = .resilverOdd then .evenOnly else .oddOnly)) ∧
  (∀ (s : State) (c : Fin 16), (s.chan c.val).mir = .resilverOdd ∨ (s.chan c.val).mir = .resilverEven →
    (s.chan c.val).silver.paused = false → Completes (.resilverEnd c) s (fun t => (t.chan c.val).mir = .sync))

/-- R170, R171, R199, R201-R204: SVC_DRAIN, SVC_POWER_DOWN, SVC_RETURN, SVC_CANCEL and CHANNEL_DRAIN_END. Where a clause
meets a point that the spec leaves open, it follows the model's choice, named in the assumption log (rows 59, 128 and
156). -/
def Obligations.ChannelService : Prop :=
  (∀ (s : State) (m : Master) (c : Fin 16), s.accepts m (svcOff c.val) = true → (s.chan c.val).st = .active →
    Completes (.svcDrain m c) s (fun t => (t.chan c.val).st = .draining ∧ (t.chan c.val).svcResult = 0)) ∧
  (∀ (s : State) (m : Master) (c : Fin 16), s.accepts m (svcOff c.val) = true → (s.chan c.val).st = .quarantined →
    Completes (.svcDrain m c) s (fun t => (t.chan c.val).svcResult = 0 ∧ ((t.chan c.val).st = .drained ∨
      ((t.chan c.val).st = .quarantined ∧ (t.chan c.val).leaving = true ∧ t.pagesLeft c.val ≠ [])) ∧
      (s.pagesLeft c.val = [] → s.metaLeft c.val = [] → (t.chan c.val).st = .drained))) ∧
  (∀ (s : State) (m : Master) (c : Fin 16), s.accepts m (svcOff c.val) = true → (s.chan c.val).st ≠ .active →
    (s.chan c.val).st ≠ .quarantined → Completes (.svcDrain m c) s (fun t =>
      (t.chan c.val).st = (s.chan c.val).st ∧ (t.chan c.val).svcResult = 2)) ∧
  (∀ (s : State) (m : Master) (c : Fin 16), s.accepts m (svcOff c.val) = true → (s.chan c.val).st = .drained →
    Completes (.svcPowerDown m c) s (fun t => (t.chan c.val).st = .poweredDown ∧ (t.chan c.val).svcResult = 0)) ∧
  (∀ (s : State) (m : Master) (c : Fin 16) (a b : Option Spd), s.accepts m (svcOff c.val) = true →
    (s.chan c.val).st = .drained ∨ (s.chan c.val).st = .poweredDown ∨ (s.chan c.val).st = .disabled →
    Completes (.svcReturn m c a b) s (fun t => (t.chan c.val).svcResult = 0 ∧
      (s.cfgBit (chanPage c.val 0) 0x80 12 = false → (t.chan c.val).st = .disabled) ∧
      (s.cfgBit (chanPage c.val 0) 0x80 12 = true → (discoverCauses a b).2.2 ≠ 0 →
        (t.chan c.val).st = .disabled ∧ (t.chan c.val).cause = (discoverCauses a b).2.2) ∧
      (s.cfgBit (chanPage c.val 0) 0x80 12 = true → (discoverCauses a b).2.2 = 0 →
        ((t.chan c.val).st = .training ∧ (t.chan c.val).returning = true ∧ (t.chan c.val).step = 1) ∨
        ((t.chan c.val).st = .disabled ∧ (t.chan c.val).cause = 6)))) ∧
  (∀ (s : State) (m : Master) (c : Fin 16), s.accepts m (svcOff c.val) = true → (s.chan c.val).st = .draining →
    Completes (.svcCancel m c) s (fun t => (t.chan c.val).st = .active ∧ (t.chan c.val).svcResult = 0)) ∧
  (∀ (s : State) (c : Fin 16), s.drains c.val = true → s.pagesLeft c.val = [] → s.metaLeft c.val = [] →
    Completes (.channelDrainEnd c) s (fun t => (t.chan c.val).st = .drained)) ∧
  (∀ (s : State) (c : Fin 16) (x : Nat), (s.chan c.val).st = .draining → s.pagesLeft c.val = [] →
    s.metaLeft c.val = [x] → s.metaPlace (s.ext x).domain = none →
    Completes (.channelDrainEnd c) s (fun t => (t.chan c.val).st = .draining ∧ (t.chan c.val).stalled = true))

/-- R196, R202, R215-R220, R222, R224, R229, R308: HOTNESS_EPOCH_ADVANCE, SWEEP_VISIT, COMPACTION_START,
MIGRATION_MOVE_START, MIGRATION_MOVE_COMMIT, DEMOTION_START and DEMOTION_COMMIT. Where a clause meets a point that the
spec leaves open, it follows the model's choice, named in the assumption log (rows 1, 59, 62, 64, 125, 127, 130, 133,
134, 136, 137, 140, 144 and 176). -/
def Obligations.HotnessAndMoves : Prop :=
  (∀ s : State, s.sorrelUp = true → Completes .hotnessEpochAdvance s (fun t => t.tier.epoch = s.tier.epoch + 1 ∧
    t.now = s.instant (s.tier.epochAt + ms 10 * s.cfg tierPage 0x80 0 10) ∧ t.tier.epochAt = t.now ∧ t.tier.filter = [])) ∧
  (∀ (s : State) (p : BitVec 34), s.sorrelUp = true → s.onHold tierPage = false → s.inUse (pgExt p.toNat) = true →
    p.toNat ∉ s.tier.swept → Completes (.sweepVisit p) s (fun t =>
      t.tier.swept = (if s.sweepSize ≤ ((p.toNat :: s.tier.swept).filter (fun x => s.inUse (pgExt x))).length then []
        else p.toNat :: s.tier.swept) ∧
      (s.tier.swept = [] → s.tier.sweptAt.elim 0 (· + ms 10 * s.cfg tierPage 0x80 0 10 * s.cfg tierPage 0x80 17 7) ≤
        t.now))) ∧
  (∀ (s : State) (p : BitVec 34), s.sorrelUp = true → s.onHold tierPage = false → s.inUse (pgExt p.toNat) = true →
    p.toNat ∉ s.tier.swept → s.sliceOut (homeOf p.toNat) = false → s.metaGood = true →
    listed s.mem.chunks (chunkOf p.toNat) = true → (s.entry p.toNat).st ≠ .migrating → (s.entry p.toNat).touch = true →
    Completes (.sweepVisit p) s (fun t => (t.entry p.toNat).touch = false ∧ (t.entry p.toNat).hepoch = s.tier.epoch)) ∧
  (∀ (s : State) (p : BitVec 34), s.sorrelUp = true → s.onHold tierPage = false → s.inUse (pgExt p.toNat) = true →
    p.toNat ∉ s.tier.swept → s.sliceOut (homeOf p.toNat) = false → s.metaGood = true →
    listed s.mem.chunks (chunkOf p.toNat) = true → (s.entry p.toNat).st = .near → (s.entry p.toNat).touch = false → s.demotable p.toNat = true → s.amap.low = false →
    s.tier.domCmd = none → (s.tier.epoch - (s.entry p.toNat).hepoch).toNat < 128 →
    s.cfg tierPage 0x80 10 7 ≤ (s.tier.epoch - (s.entry p.toNat).hepoch).toNat →
    Completes (.sweepVisit p) s (fun t => p.toNat ∈ t.tier.demote)) ∧
  (∀ (s : State) (u : Fin 8) (set : Fin 16) (cls : Fin 3) (g : Nat × BinGroup), s.sorrelUp = true →
    s.onHold tierPage = false → s.cfgBit tierPage 0x80 30 = true → s.cfgBit tierPage 0x80 31 = true →
    2 * binsIn (cls.val + 1) < ((s.groupsOf u.val set.val (cls.val + 1)).map (fun g => g.2.free)).sum →
    leastUsed (s.groupsOf u.val set.val (cls.val + 1)) = some g →
    exec (.compactionStart u set cls) s = .next (s.withTier { s.tier with
      compact := s.tier.compact ++ (s.pagesIn g.1).filter (fun p => !s.tier.compact.contains p) })) ∧
  (∀ (s : State) (p : BitVec 34) (why : MoveReason) (i loc : Nat), s.sorrelUp = true →
    s.onHold tierPage = false → s.moveDue p.toNat why = true → s.mayMigrate p.toNat false = true →
    s.migFree (homeOf p.toNat) = true → s.sliceOut (homeOf p.toNat) = false → s.calm p.toNat = true →
    (((s.withTier { s.tier with compact := s.tier.compact.filter (· != p.toNat) }).when (why == .compaction)
      State.withinRate).moveDest p.toNat why).map (·.2) = some (i, loc) →
    Completes (.migrationMoveStart p why) s (fun t => (t.entry p.toNat).st = .migrating ∧
      t.migTo p.toNat = some (if (s.entry p.toNat).st = .near then .nearMove else .binMove, i, loc))) ∧
  (∀ (s : State) (p : BitVec 34) (c : Fin 16), s.sorrelUp = true → s.onHold tierPage = false →
    s.moveDue p.toNat (.drain c) = true → s.mayMigrate p.toNat false = true → s.migFree (homeOf p.toNat) = true →
    s.sliceOut (homeOf p.toNat) = false →
    ((s.withTier { s.tier with compact := s.tier.compact.filter (· != p.toNat) }).moveDest p.toNat (.drain c)).isNone = true →
    Completes (.migrationMoveStart p (.drain c)) s (fun t => (t.chan c.val).stalled = true ∧ t.mem.mig = s.mem.mig)) ∧
  (∀ (s : State) (p : BitVec 34) (uncorr : BitVec 64) (m : Migration), s.migOf p.toNat = some m → m.kind = .nearMove →
    s.migStill p.toNat m = false → m.leafLost = false → m.nodesLost = [] → s.calm p.toNat = true → Completes (.migrationMoveCommit p uncorr) s (fun t => t.migOf p.toNat = none ∧
      (t.entry p.toNat).st = m.image.st ∧ (t.entry p.toNat).set = m.dset ∧ (t.entry p.toNat).loc = m.dloc)) ∧
  (∀ (s : State) (p : BitVec 34) (m : Migration), s.migOf p.toNat = some m → m.kind = .binMove →
    s.migStill p.toNat m = false → m.leafLost = false → m.nodesLost = [] → s.calm p.toNat = true → (s.fetchLeaf p.toNat).1.binMoves p.toNat m = true →
    Completes (.migrationMoveCommit p 0) s (fun t => t.migOf p.toNat = none ∧
      (t.entry p.toNat).st = m.image.st ∧ (t.entry p.toNat).set = m.dset ∧ (t.entry p.toNat).loc = m.dloc) ∧
    (0 < m.image.binsize → Completes (.migrationMoveCommit p 1) s (fun t => t.migOf p.toNat = none ∧
      (t.entry p.toNat).st = .poisoned))) ∧
  (∀ (s : State) (p : BitVec 34), p.toNat ∈ s.tier.demote → s.demotable p.toNat = true → (s.entry p.toNat).st = .near →
    s.mayMigrate p.toNat false = true → s.onHold tierPage = false → s.migFree (homeOf p.toNat) = true →
    s.sliceOut (homeOf p.toNat) = false → s.calm p.toNat = true →
    Completes (.demotionStart p) s (fun t => (t.entry p.toNat).st = .migrating ∧ p.toNat ∉ t.tier.demote ∧
      t.migTo p.toNat = some (.demotion, 0, 0))) ∧
  (∀ (s : State) (p : BitVec 34) (e : Fin 16) (mismatch : Bool) (m : Migration), s.migOf p.toNat = some m →
    m.kind = .demotion → s.migStill p.toNat m = false → m.leafLost = false → m.nodesLost = [] → s.calm p.toNat = true →
    ((s.eng e.val).avail = false → Completes (.demotionCommit p e mismatch) s (fun t => t.migOf p.toNat = none ∧
      (t.entry p.toNat).st = m.image.st ∧ (t.entry p.toNat).loc = m.image.loc)) ∧
    ((s.eng e.val).avail = true → s.engineIdle e.val = false →
      Completes (.demotionCommit p e mismatch) s (fun t => t.migOf p.toNat = none ∧
        ((t.entry p.toNat).st = m.image.st ∨ (t.entry p.toNat).st = .compressed ∨ (t.entry p.toNat).st = .rawInBin ∨
          (t.entry p.toNat).st = .unbacked)))) ∧
  (∀ (s : State) (p : BitVec 34) (e : Fin 16) (m : Migration) (d : List Byte), s.migOf p.toNat = some m →
    m.kind = .demotion → s.migStill p.toNat m = false → s.calm p.toNat = true → (s.eng e.val).avail = true → s.engineIdle e.val = false →
    (s.fetchLeaf p.toNat).2 = false → ((s.fetchLeaf p.toNat).1.readFrame p.toNat m.image).2 = some d → d.all (· == 0) = true → s.cfgBit tierPage 0x80 29 = true →
    Completes (.demotionCommit p e false) s (fun t => t.migOf p.toNat = none ∧ (t.entry p.toNat).st = .unbacked)) ∧
  (∀ (s : State) (p : BitVec 34) (e : Fin 16) (uncorr : BitVec 64) (fault : BinFault) (mismatch : Bool) (m : Migration),
    s.migOf p.toNat = some m → s.migStill p.toNat m = true →
    exec (.migrationMoveCommit p uncorr) s = .next s ∧ exec (.promotionCommit p fault) s = .next s ∧
      exec (.demotionCommit p e mismatch) s = .next s)

/-- R215, R216, R222, R223, R241-R243, R250-R252: PROMOTION_START, PROMOTION_COMMIT, TIER_PROMOTE_DOMAIN, TIER_CANCEL,
PROMOTE_DOMAIN_END, JOB_GO, JOB_CANCEL, JOB_END, ENGINE_FAULT and ENGINE_RECOVERED. Where a clause meets a point that
the spec leaves open, it follows the model's choice, named in the assumption log (rows 39, 52, 59, 63, 64, 125, 127,
130, 133, 134, 136, 137, 138, 144 and 176). -/
def Obligations.PromotionsAndDirectJobs : Prop :=
  (∀ (s : State) (p : BitVec 34) (w : Bool) (i f : Nat), s.triggered p.toNat = some w →
    (s.entry p.toNat).st = .compressed ∨ (s.entry p.toNat).st = .rawInBin → s.mayMigrate p.toNat w = true →
    s.migFree (homeOf p.toNat) = true → s.sliceOut (homeOf p.toNat) = false → s.calm p.toNat = true →
    (s.takeFrame p.toNat true).map (·.2) = some (i, f) →
    Completes (.promotionStart p) s (fun t => (t.entry p.toNat).st = .migrating ∧
      t.migTo p.toNat = some (.promotion, i, f) ∧ t.triggered p.toNat = none)) ∧
  (∀ (s : State) (p : BitVec 34), s.triggered p.toNat = some false →
    (s.entry p.toNat).st = .compressed ∨ (s.entry p.toNat).st = .rawInBin → s.mayMigrate p.toNat false = true →
    s.migFree (homeOf p.toNat) = true → s.sliceOut (homeOf p.toNat) = false → (s.takeFrame p.toNat true).isNone = true →
    exec (.promotionStart p) s = .next ((s.untrigger p.toNat).tierCount 5)) ∧
  (∀ (s : State) (p : BitVec 34) (m : Migration) (d : List Byte), s.migOf p.toNat = some m → m.kind = .promotion →
    s.migStill p.toNat m = false → s.calm p.toNat = true →
    m.image.plen.length = 4 → m.image.plen.sum ≤ 192 → (s.fetchLeaf p.toNat).1.pageBytes p.toNat m.image = some d →
    crc32c d = m.image.crc → Completes (.promotionCommit p .none) s (fun t => t.migOf p.toNat = none ∧
      (t.entry p.toNat).st = .near ∧ (t.entry p.toNat).set = m.dset ∧ (t.entry p.toNat).loc = m.dloc ∧
      (t.entry p.toNat).touch = true)) ∧
  (∀ (s : State) (p : BitVec 34) (fault : BinFault) (m : Migration), s.migOf p.toNat = some m → m.kind = .promotion →
    s.migStill p.toNat m = false → s.calm p.toNat = true → fault ≠ .none → Completes (.promotionCommit p fault) s (fun t => t.migOf p.toNat = none ∧
      (t.entry p.toNat).st = .poisoned)) ∧
  (∀ (s : State) (m : Master) (d : BitVec 12), s.accepts m tierCmd = true → s.tier.domCmd = none →
    (s.dom d.toNat).valid = true → Completes (.tierPromoteDomain m d) s (fun t => t.tier.domCmd = some d.toNat ∧
      t.tier.cmdResult = 0 ∧ ∀ p ∈ t.tier.demote, t.domOf p ≠ d.toNat)) ∧
  (∀ (s : State) (m : Master) (d : BitVec 12), s.accepts m tierCmd = true →
    s.tier.domCmd.isSome = true ∨ (s.dom d.toNat).valid = false → Completes (.tierPromoteDomain m d) s (fun t =>
      t.tier = { s.tier with cmdResult := 2 })) ∧
  (∀ (s : State) (m : Master) (d : Nat), s.accepts m tierCmd = true → s.tier.domCmd = some d →
    Completes (.tierCancel m) s (fun t => t.tier.domCmd = none ∧ t.tier.cmdResult = 1)) ∧
  (∀ (s : State) (d : Nat), s.tier.domCmd = some d → (∀ x ∈ s.tier.promote, s.domOf x.1 ≠ d) →
    (∀ x ∈ s.mem.mig, x.2.kind ≠ .promotion ∨ s.domOf x.1 ≠ d) → Completes .promoteDomainEnd s (fun t =>
      t.tier.domCmd = none ∧ t.tier.cmdResult = 0)) ∧
  (∀ (s : State) (m : Master) (e : Fin 16) (op : BitVec 2) (resume : Bool), s.accepts m (jctl e.val) = true →
    (s.eng e.val).job = none → op ≠ 0 → (s.eng e.val).avail = true → s.onHold (engPage e.val) = false →
    Completes (.jobGo m e op resume) s (fun t => (t.eng e.val).job = some { op := op.toNat, cancel := false } ∧
      (t.eng e.val).prod = 0 ∧ (t.eng e.val).status = 0 ∧
      (t.eng e.val).cons = if resume then (s.eng e.val).cons else 0)) ∧
  (∀ (s : State) (m : Master) (e : Fin 16) (j : Job), s.accepts m (jctl e.val) = true → (s.eng e.val).job = some j →
    Completes (.jobCancel m e) s (fun t => (t.eng e.val).job = some { j with cancel := true })) ∧
  (∀ (s : State) (e : Fin 16) (mismatch : Bool) (j : Job), (s.eng e.val).job = some j → j.cancel = true →
    Completes (.jobEnd e mismatch) s (fun t => (t.eng e.val).job = none ∧ (t.eng e.val).status = 5)) ∧
  (∀ (s : State) (e : Fin 16) (j : Job) (ln n : Nat) (v : Line), (s.eng e.val).job = some j → j.cancel = false →
    s.jobAddr e.val 0x88 + (s.eng e.val).cons = 64 * ln → s.cfg (engPage e.val) 0x98 0 32 - (s.eng e.val).cons = n →
    0 < n → n ≤ 64 → s.jobMay ln = true → s.jobLine e.val ln = some (some v) →
    (∀ x ∈ spanLines (s.jobAddr e.val 0x90) (if j.op = 3 then 0 else s.cfg (engPage e.val) 0x9C 0 32), s.jobMay x = true) →
    Completes (.jobEnd e false) s (fun t => (t.eng e.val).job = none ∧
      (t.eng e.val).status ≤ 2 ∧ (j.op = 3 → (t.eng e.val).status = 0 ∧
        (t.eng e.val).cons = (s.eng e.val).cons + n))) ∧
  (∀ (s : State) (e : Fin 16) (j : Job) (ln : Nat) (rest : List Nat), (s.eng e.val).job = some j → j.cancel = false →
    spanLines (s.jobAddr e.val 0x88 + (s.eng e.val).cons) (s.cfg (engPage e.val) 0x98 0 32 - (s.eng e.val).cons) = ln :: rest →
    s.jobMay ln = false → Completes (.jobEnd e false) s (fun t => (t.eng e.val).job = none ∧ (t.eng e.val).status = 4 ∧
      (t.eng e.val).cons = (s.eng e.val).cons)) ∧
  (∀ (s : State) (e : Fin 16) (verify : Bool), (s.eng e.val).avail = true → Completes (.engineFault e verify) s (fun t =>
    (t.eng e.val).avail = false ∧ (t.eng e.val).faultAt = some s.now ∧ (t.eng e.val).job = none)) ∧
  (∀ (s : State) (e : Fin 16), (s.eng e.val).faultAt.isSome = true → (s.eng e.val).failed = false →
    Completes (.engineRecovered e) s (fun t =>
    (t.eng e.val).avail = true ∧ (t.eng e.val).faultAt = none ∧ (t.eng e.val).verifyLeft = 16))

/-- R312, R313, R315, R317, R319, R321, R328, R330, R331, R334, R336: DMQ_TAIL_WRITE, DMQ_ENABLE, DMQ_ABORT,
DESCRIPTOR_FETCH, DM_RECORD_WRITE and PEER_FLUSH_COMPLETION. Where a clause meets a point that the spec leaves open,
it follows the model's choice, named in the assumption log (rows 46, 79, 141, 164 and 177). -/
def Obligations.DataMoverQueues : Prop :=
  (∀ (s : State) (m : Master) (q : Fin 64) (tail : BitVec 16) (b : Nat), s.dmqBlock q.val = some b →
    s.accepts m (b + 0x10) = true →
    exec (.dmqTailWrite m q tail) s = .next ((s.written m (b + 0x10) (tail.zeroExtend 32)).finish m)) ∧
  (∀ (s : State) (m : Master) (q : Fin 64) (v : Word) (b : Nat), s.dmqBlock q.val = some b → s.accepts m (b + 0) = true →
    Completes (.dmqEnable m q v) s (fun t => (t.queue q.val).st =
      if (s.written m (b + 0) v).dmqGet q.val 0 0 1 = 1 then (if (s.queue q.val).st = 0 then 1 else (s.queue q.val).st)
      else 0)) ∧
  (∀ (s : State) (m : Master) (q : Fin 64) (b : Nat), s.dmqBlock q.val = some b → s.accepts m (b + 0x18) = true →
    (s.queue q.val).st = 1 → (s.queue q.val).abort = none → (s.queue q.val).run ≠ [] →
    Completes (.dmqAbort m q) s (fun t => (t.queue q.val).abort.isSome = true ∧
      (∀ x ∈ (t.queue q.val).run, x.ended = true) ∧
      (∀ d ∈ (s.queue q.val).run, d.ended = false → ∃ x ∈ (t.queue q.val).run, x.ix = d.ix ∧ x.status = 16))) ∧
  (∀ (s : State) (m : Master) (q : Fin 64) (b : Nat), s.dmqBlock q.val = some b → s.accepts m (b + 0x18) = true →
    (s.queue q.val).st = 1 → (s.queue q.val).abort = none → (s.queue q.val).run = [] →
    Completes (.dmqAbort m q) s (fun t => (t.queue q.val).st = 2 ∧ (t.queue q.val).cause = 3)) ∧
  (∀ (s : State) (q : Fin 64) (raw : BitVec 512) (head : Nat), s.fetchDue q.val head 0 = true → s.ringOpen q.val head = true →
    dBit raw 4 = false ∨ (s.queue q.val).run = [] → s.desc q.val head = none →
    Completes (.descriptorFetch q (some raw)) s (fun t => t.started s q.val head raw = true)) ∧
  (∀ (s : State) (q : Fin 64) (raw : BitVec 512) (head : Nat), s.fetchDue q.val head 0 = true → s.ringOpen q.val head = true →
    dBit raw 4 = true → (s.queue q.val).run ≠ [] →
    Completes (.descriptorFetch q (some raw)) s (fun t => t = s.ringFetch q.val head (some raw) ∧
      (t.queue q.val).run.length = (s.queue q.val).run.length ∧ (t.queue q.val).ring = some (.got (some raw)))) ∧
  (∀ (s : State) (q : Fin 64) (head : Nat), s.fetchDue q.val head 0 = true → (s.queue q.val).ring = none →
    (s.issueOne q.val ringIx (s.ringAt q.val head) 64).isSome = true →
    Completes (.descriptorFetch q none) s (fun t => (t.queue q.val).ring = some (.waiting []) ∧
      (t.ld q.val).reads.any (fun r => r.queue == q.val && r.ix == ringIx && r.addr == s.ringAt q.val head) = true)) ∧
  (∀ (s : State) (q : Fin 64) (raw : BitVec 512) (head : Nat), s.fetchDue q.val head 0 = true →
    (s.queue q.val).ring = some (.got (some raw)) → dBit raw 4 = false ∨ (s.queue q.val).run = [] → s.desc q.val head = none →
    Completes (.descriptorFetch q none) s (fun t => t.started s q.val head raw = true)) ∧
  (∀ (s : State) (q : Fin 64) (host : Option (BitVec 512)) (head : Nat), s.fetchDue q.val head 0 = true →
    (s.queue q.val).ring = some (.got none) →
    Completes (.descriptorFetch q host) s (fun t => (t.queue q.val).st = 2 ∧ (t.queue q.val).cause = 1)) ∧
  (∀ (s : State) (q : Fin 64) (host : Option (BitVec 512)) (raw : BitVec 512) (head a : Nat), s.fetchDue q.val head 1 = true →
    s.ringAt q.val head = a → oneExtent a 64 = true → s.dmRange q.val a 64 (s.dmqGet q.val 0 10 16) = none →
    s.unitsUp (a / 64) = true → s.fetchedLine (dmKey q.val 65535) (a / 64) = some (some raw) →
    dBit raw 4 = false ∨ (s.queue q.val).run = [] → s.desc q.val head = none →
    Completes (.descriptorFetch q host) s (fun t => t.started s q.val head raw = true)) ∧
  (∀ (s : State) (q : Fin 64) (ix : BitVec 16) (d : Desc), s.desc q.val ix.toNat = some d → d.ended = true →
    s.dmWriting (dmKey q.val d.ix) = false → s.sorrelUp = true → d.recorded = false → s.countsDue q.val d = false →
    dBit d.raw 8 = false →
    (dRec d.raw % 32 = 0 → 8 ≤ (s.ld q.val).mps → Completes (.dmRecordWrite q ix true) s (fun t =>
      t.desc q.val ix.toNat = none ∧
      Msg.hostWrite q.val (dRec d.raw) ((recordBytes d s.free).take 8) false false ∈ t.out ∧
      (24 ≤ (s.ld q.val).mps →
        let a := Msg.hostWrite q.val (dRec d.raw) ((recordBytes d s.free).take 8) false false
        let b := Msg.hostWrite q.val (dRec d.raw + 8) ((recordBytes d s.free).drop 8) false false
        (t.out.filter (fun x => x == a || x == b)).take 2 = [a, b]))) ∧
    Completes (.dmRecordWrite q ix false) s (fun t => (t.queue q.val).st = 2 ∧
      (t.queue q.val).cause = if d.status = 15 then 6 else 2)) ∧
  (∀ (s : State) (q : Fin 64) (ix : BitVec 16) (d : Desc) (ok : Bool), s.desc q.val ix.toNat = some d → d.ended = true →
    s.dmWriting (dmKey q.val d.ix) = false → s.sorrelUp = true → d.recorded = false → s.countsDue q.val d = false →
    dBit d.raw 8 = true → oneExtent (dRec d.raw) 32 = true →
    s.granted q.val (dRec d.raw / 2 ^ 28) = true → s.unitsUp (dRec d.raw / 64) = true →
    Completes (.dmRecordWrite q ix ok) s (fun t => t.desc q.val ix.toNat = none ∨
      ((t.desc q.val ix.toNat).all (·.recorded) = true ∧ t.dmWriting (dmKey q.val d.ix) = true))) ∧
  (∀ (s : State) (q : Fin 64) (ix : BitVec 16) (d : Desc) (ok : Bool), s.desc q.val ix.toNat = some d → d.ended = true →
    s.dmWriting (dmKey q.val d.ix) = false → s.sorrelUp = true → d.recorded = true →
    Completes (.dmRecordWrite q ix ok) s (fun t => t.desc q.val ix.toNat = none)) ∧
  (∀ (s : State) (q : Fin 64) (ix : BitVec 16) (st : CplStatus) (d : Desc), s.desc q.val ix.toNat = some d →
    d.ended = false → d.flushing = true → d.want = [] → Completes (.peerFlushCompletion q ix st) s (fun t =>
      (t.desc q.val ix.toNat).map (fun d => (d.ended, d.status)) =
        some (true, if st = .ok then (if d.count = 0 then 1 else 6) else 14)))

/-- R235, R241, R243, R313, R317, R318, R320, R322-R328: DM_COPY, DM_FILL, DM_COMPARE, DM_CRC, DM_COMPRESS, DM_DECOMPRESS,
DM_ZERO_RESEAL, DM_BATCH_ATOMIC and DM_PEER_COPY. Where a clause meets a point that the spec leaves open, it follows
the model's choice, named in the assumption log (rows 6, 7, 46, 63, 75, 76, 77, 78, 80, 130, 136, 144, 151, 160 and
168). -/
def Obligations.DataMoverOperations : Prop :=
  (∀ (s : State) (q : Fin 64) (ix : BitVec 16) (e : Fin 16) (mm : Bool) (d : Desc) (st : Nat) (c : Nat × Instr),
    s.desc q.val ix.toNat = some d → d.ended = false → d.flushing = false → s.dmServes q.val = true →
    s.dmPermit q.val d.raw = some st →
    c ∈ [(1, Instr.dmCopy q ix), (2, .dmFill q ix), (3, .dmCompare q ix), (4, .dmCrc q ix), (5, .dmCompress q ix ⟨e, mm⟩),
      (6, .dmDecompress q ix e), (7, .dmZeroReseal q ix), (8, .dmBatchAtomic q ix), (9, .dmPeerCopy q ix)] →
    dOp d.raw = c.1 → Completes c.2 s (fun t =>
      (t.desc q.val ix.toNat).map (fun d => (d.ended, d.status, d.offset)) = some (true, st, d.prod))) ∧
  (∀ (s : State) (q : Fin 64) (ix : BitVec 16) (d : Desc) (b : List (Option Byte)), s.opReady q.val ix.toNat 1 d = true →
    (s.source q.val d).2 = .bytes b → (s.source q.val d).1.putUp (dDstSp d.raw) (dDst d.raw) (dLen d.raw) = true →
    Completes (.dmCopy q ix) s (fun t => (t.desc q.val ix.toNat).map (fun d => (d.ended, d.status, d.cons, d.prod, d.count)) =
      some (true, if (poisonedLines (dSrc d.raw) b).isEmpty then 1 else 6, dLen d.raw, dLen d.raw,
        (poisonedLines (dSrc d.raw) b).length) ∧
      (dDstSp d.raw = false → b.all Option.isSome = true → 0 < dLen d.raw → dLen d.raw ≤ (s.ld q.val).mps →
        b.length = dLen d.raw → dDst d.raw % 4096 + dLen d.raw ≤ 4096 →
        Msg.hostWrite q.val (dDst d.raw) (b.map (·.getD 0)) true false ∈ t.out))) ∧
  (∀ (s : State) (q : Fin 64) (ix : BitVec 16) (d : Desc), s.opReady q.val ix.toNat 2 d = true →
    s.putUp (dDstSp d.raw) (dDst d.raw) (dLen d.raw) = true →
    Completes (.dmFill q ix) s (fun t => (t.desc q.val ix.toNat).map (fun d => (d.ended, d.status, d.prod)) =
      some (true, 1, dLen d.raw) ∧
      (dDstSp d.raw = false → 0 < dLen d.raw → dLen d.raw ≤ (s.ld q.val).mps → dDst d.raw % 4096 + dLen d.raw ≤ 4096 →
        Msg.hostWrite q.val (dDst d.raw) ((upTo (dLen d.raw)).map (fun k => (toBytes 8 (dSrc d.raw)).getD (k % 8) 0))
          true false ∈ t.out))) ∧
  (∀ (s : State) (q : Fin 64) (ix : BitVec 16) (d : Desc) (a b : List (Option Byte)), s.opReady q.val ix.toNat 3 d = true →
    (s.source q.val d).2 = .bytes a →
    ((s.source q.val d).1.operand q.val d (dDstSp d.raw) (dDst d.raw) (dLen d.raw)).2 = .bytes b →
    Completes (.dmCompare q ix) s (fun t => (t.desc q.val ix.toNat).map (fun d => (d.ended, d.status, d.cons)) =
      some (true, match firstDiff a b 0 with
        | none => (1, dLen d.raw)
        | some (k, bad) => (if bad then 6 else 2, k)))) ∧
  (∀ (s : State) (q : Fin 64) (ix : BitVec 16) (d : Desc) (b : List (Option Byte)), s.opReady q.val ix.toNat 4 d = true →
    (s.source q.val d).2 = .bytes b → b.all Option.isSome = true →
    Completes (.dmCrc q ix) s (fun t =>
      let crc := crcMore (dCrc0 d.raw) (b.map (·.getD 0))
      (t.desc q.val ix.toNat).map (fun d => (d.ended, d.status, d.crc, d.cons)) = some (true,
        if dBit d.raw 9 && crc != BitVec.ofNat 32 (dBytes d.raw 52 4) then 4 else 1, crc, dFrom d.raw + b.length))) ∧
  (∀ (s : State) (q : Fin 64) (ix : BitVec 16) (d : Desc) (b : List (Option Byte)), s.opReady q.val ix.toNat 4 d = true →
    (s.source q.val d).2 = .bytes b → b.all Option.isSome = false →
    Completes (.dmCrc q ix) s (fun t => (t.desc q.val ix.toNat).map (fun d => (d.ended, d.status)) = some (true, 6))) ∧
  (∀ (s : State) (q : Fin 64) (ix : BitVec 16) (e : Fin 16) (mm : Bool) (d : Desc) (c : Nat × Instr),
    c ∈ [(5, .dmCompress q ix ⟨e, mm⟩), (6, .dmDecompress q ix e)] → s.opReady q.val ix.toNat c.1 d = true →
    (s.eng e.val).avail = false → Completes c.2 s (fun t =>
      (t.desc q.val ix.toNat).map (fun d => (d.ended, d.status, d.cons, d.token)) =
        some (true, 11, dFrom d.raw, dFrom d.raw + 2 ^ 32 * (dCrc0 d.raw).toNat))) ∧
  (∀ (s u : State) (q : Fin 64) (ix : BitVec 16) (e : Fin 16) (d : Desc) (b : List (Option Byte)) (ch : List Byte),
    s.opReady q.val ix.toNat 5 d = true → (s.eng e.val).avail = true → s.engineIdle e.val = false →
    (s.source q.val d).2 = .bytes b → (s.source q.val d).1.chainIs q.val d u ch = true → b.all Option.isSome = true →
    Completes (.dmCompress q ix ⟨e, false⟩) s (fun t =>
      let ins := pieces (b.length + 1) (b.map (·.getD 0))
      let r := u.output q.val d ch (ins.map encode)
      let used := (ins.take r.2.1).flatten
      (t.desc q.val ix.toNat).map (fun d => (d.ended, d.crc, d.cons, d.prod)) =
        some (true, crcMore (dCrc0 d.raw) used, dFrom d.raw + used.length, r.2.2.1) ∧
      (r.2.2.2 = none → dBit d.raw 9 = false → (t.desc q.val ix.toNat).map (·.status) = some 1) ∧
      (r.2.2.2 = some 3 → (t.desc q.val ix.toNat).map (fun d => (d.status, d.token)) = some (3,
        dFrom d.raw + used.length + 2 ^ 32 * (crcMore (dCrc0 d.raw) used).toNat)))) ∧
  (∀ (s u : State) (q : Fin 64) (ix : BitVec 16) (e : Fin 16) (d : Desc) (b : List (Option Byte)) (ch : List Byte),
    s.opReady q.val ix.toNat 5 d = true → (s.eng e.val).avail = true → s.engineIdle e.val = false →
    (s.source q.val d).2 = .bytes b → (s.source q.val d).1.chainIs q.val d u ch = true → u.verifies e.val = true →
    Completes (.dmCompress q ix ⟨e, true⟩) s (fun t => (t.eng e.val).avail = false ∧
      (t.desc q.val ix.toNat).map (fun d => (d.ended, d.status)) = some (true, 11))) ∧
  (∀ (s u : State) (q : Fin 64) (ix : BitVec 16) (e : Fin 16) (d : Desc) (b : List (Option Byte)) (ch : List Byte),
    s.opReady q.val ix.toNat 6 d = true → (s.eng e.val).avail = true → s.engineIdle e.val = false →
    (s.source q.val d).2 = .bytes b → (s.source q.val d).1.chainIs q.val d u ch = true →
    Completes (.dmDecompress q ix e) s (fun t =>
      let r := decodeStream (b.length + 2) b (originalLeft d.raw b) (dFrom d.raw)
      let w := u.output q.val d ch (r.1.map (·.1))
      (t.desc q.val ix.toNat).map (fun d => (d.ended, d.crc, d.prod)) =
        some (true, crcMore (dCrc0 d.raw) ((r.1.map (·.1)).take w.2.1).flatten, w.2.2.1) ∧
      (w.2.2.2 = none → r.2 = none → dBit d.raw 9 = false → (t.desc q.val ix.toNat).map (·.status) = some 1) ∧
      (w.2.2.2 = none → r.2.map (·.1) = some false → (t.desc q.val ix.toNat).map (·.status) = some 5))) ∧
  (∀ (s : State) (q : Fin 64) (ix : BitVec 16) (d : Desc) (p : Nat), s.opReady q.val ix.toNat 7 d = true →
    d.prod = 0 → dLen d.raw = 4096 → dDst d.raw = 4096 * p → s.unitsUp (64 * p) = true → s.calm p = true →
    (s.entry p).st = .near → (∀ k < 64, s.coherent (64 * p + k) = false) → s.home.queue = [] →
    Completes (.dmZeroReseal q ix) s (fun t =>
      (t.desc q.val ix.toNat).map (fun d => (d.ended, d.status, d.prod)) = some (true, 1, 4096) ∧
      (t.entry p).st = .near ∧ (t.entry p).loc = (s.entry p).loc)) ∧
  (∀ (s : State) (q : Fin 64) (ix : BitVec 16) (d : Desc) (b : List (Option Byte)), s.opReady q.val ix.toNat 8 d = true →
    (s.source q.val d).2 = .bytes b → b.all Option.isSome = true → b.length = 64 * dAux1 d.raw →
    (∀ k < dAux1 d.raw, ((s.source q.val d).1.elemGot (dmKey q.val d.ix) k).isSome = true) →
    (∀ k < dAux1 d.raw, (element (((goodBytes b).drop (64 * k)).take 64)).all (fun t =>
      (s.source q.val d).1.unitsUp (t.2.2.2.1 / 64)) = true) →
    (s.source q.val d).1.putUp (dDstSp d.raw) (dDst d.raw) (32 * dAux1 d.raw) = true →
    Completes (.dmBatchAtomic q ix) s (fun t =>
      let bad := ((upTo (dAux1 d.raw)).filter (fun k =>
        ((s.source q.val d).1.elemGot (dmKey q.val d.ix) k).any (fun g => g.1 != 1))).length
      (t.desc q.val ix.toNat).map (fun d => (d.ended, d.status, d.count, d.prod)) =
        some (true, if bad = 0 then 1 else 12, bad, 32 * dAux1 d.raw))) ∧
  (∀ (s : State) (q : Fin 64) (ix : BitVec 16) (d : Desc) (b : List (Option Byte)), s.opReady q.val ix.toNat 9 d = true →
    (s.source q.val d).2 = .bytes b → Completes (.dmPeerCopy q ix) s (fun t =>
      (t.desc q.val ix.toNat).map (fun d => (d.ended, d.flushing, d.cons, d.prod, d.count)) =
        some (false, true, dLen d.raw, dLen d.raw, (poisonedLines (dSrc d.raw) b).length) ∧
      ((t.ld q.val).reads.any (fun r => r.queue == q.val && r.ix == ix.toNat && r.addr == dAux0 d.raw) = true ∨
        (t.desc q.val ix.toNat).map (·.want) = some [(dAux0 d.raw, 4)])))

/-- R302, R339, R341-R345, R378: DLNK_TRAIN, DLNK_TRAIN_END, INIT_PARAM, INIT_CREDIT, LINK_REQ, LINK_RSP,
COMMANDED_CHANGE_START, DLNK_CHANGE_END, TRAINING_PATTERN_SEEN, LINK_RESET_END, DLNK_RETRAIN, DLNK_WIDTH, DLNK_RATE,
DLNK_RETIRE, DLNK_RETURN and DLNK_RESET_CMD. Where a clause meets a point that the spec leaves open, it follows the
model's choice, named in the assumption log (rows 1, 24, 142 and 178). -/
def Obligations.ModuleTrainingAndChanges : Prop :=
  (∀ (s : State) (e : Fin 34), s.mayTrain e.val = true →
    exec (.dlnkTrain e) s = .next (s.onMod e.val (fun k => { k with st := .train }))) ∧
  (∀ (s : State) (e : Fin 34) (r : LaneResult) (w : Nat), (s.mod e.val).st = .train → r.ok = true →
    laneWidth r.lanes.toNat r.fck0 r.fck1 (min (min (s.maxWidth e.val) (s.maxWidth ((peerEnd e.val).getD e.val)))
      (s.peerLane e.val).2) = some w →
    Settles (.dlnkTrainEnd e r) s e.val (fun u => (u.mod e.val).st = .param ∧ (u.mod e.val).width = w ∧
      (u.mod e.val).rate = min (min (min r.rate.val (s.mod e.val).rateTop)
        (min (s.maxRate e.val) (s.maxRate ((peerEnd e.val).getD e.val)))) (min (s.mod e.val).offer (s.peerLane e.val).1) ∧
      (u.mod e.val).map = laneMap r.lanes.toNat r.fck0 r.fck1 ∧
      (∀ p, peerEnd e.val = some p → (u.mod p).rate = (u.mod e.val).rate ∧ (u.mod p).width = w))) ∧
  (∀ (s : State) (e : Fin 34) (r : LaneResult) (v : Nat), (s.mod e.val).st = .train → r.ok = false ∨
    laneWidth r.lanes.toNat r.fck0 r.fck1 (min (min (s.maxWidth e.val) (s.maxWidth ((peerEnd e.val).getD e.val)))
      (s.peerLane e.val).2) = none →
    v = min (min (min r.rate.val (s.mod e.val).rateTop) (min (s.maxRate e.val) (s.maxRate ((peerEnd e.val).getD e.val))))
      (min (s.mod e.val).offer (s.peerLane e.val).1) →
    Settles (.dlnkTrainEnd e r) s e.val (fun u => (u.mod e.val).st = (if v = 0 then .failed else .train) ∧
      (u.mod e.val).map = laneMap r.lanes.toNat r.fck0 r.fck1 ∧
      (v ≠ 0 → ((u.mod e.val).failedRate, (u.mod e.val).rateTop) =
        if (s.mod e.val).failedRate = some v then (none, v - 1) else (some v, (s.mod e.val).rateTop)))) ∧
  (∀ (s : State) (e : Fin 34) (minor rate : BitVec 8) (vendor device : BitVec 16) (rev : BitVec 8),
    (s.mod e.val).st = .param → Settles (.initParam e 1 minor rate vendor device rev) s e.val (fun u =>
      (u.mod e.val).st = (if (brgModEnd e.val && s.brg.held) || !(s.mod e.val).creditRcvd then .credit else .active) ∧
      (u.mod e.val).offer = min 3 rate.toNat ∧ (u.mod e.val).rate = min (s.mod e.val).rate (min 3 rate.toNat) ∧
      (u.mod e.val).peer = peerSlot e.val ∧
      (brgModEnd e.val = true → u.brg.present = true ∧ u.brg.rev = rev.toNat ∧
        u.brg.ident = BitVec.ofNat 32 (vendor.toNat + 65536 * device.toNat)))) ∧
  (∀ (s : State) (e : Fin 34) (major minor rate : BitVec 8) (vendor device : BitVec 16) (rev : BitVec 8), major ≠ 1 →
    (s.mod e.val).st = .param ∨ (s.mod e.val).st = .lreset →
    Settles (.initParam e major minor rate vendor device rev) s e.val (fun u =>
      (u.mod e.val).st = if (s.mod e.val).st = .param then .failed else .retired)) ∧
  (∀ (s : State) (e : Fin 34) (adv : List (BitVec 16)), (s.mod e.val).st = .credit →
    Settles (.initCredit e adv) s e.val (fun u => (u.mod e.val).st =
      if creditsOk e.val (adv.map BitVec.toNat) = false then .failed
      else if (s.mod e.val).creditSent then .active else .credit)) ∧
  (∀ (s : State) (e : Fin 34) (adv : List (BitVec 16)), (s.mod e.val).st = .lreset →
    Settles (.initCredit e adv) s e.val (fun u => (u.mod e.val).st =
      if adv.map BitVec.toNat = (s.mod e.val).adv then (if (s.mod e.val).retrained && (s.mod e.val).paramRcvd then .active else .lreset)
      else .retired)) ∧
  (∀ (s : State) (e : Fin 34) (minor rate : BitVec 8) (vendor device : BitVec 16) (rev : BitVec 8),
    (s.mod e.val).st = .lreset → Settles (.initParam e 1 minor rate vendor device rev) s e.val (fun u =>
      (u.mod e.val).paramRcvd = true ∧
      (u.mod e.val).st = if (s.mod e.val).retrained && (s.mod e.val).creditRcvd then .active else .lreset)) ∧
  (∀ (s : State) (e : Fin 34) (ch : LinkChange) (slot : BitVec 4), (s.mod e.val).st = .active →
    Completes (.linkReq e ch slot) s (fun t => t.mod e.val =
      { s.mod e.val with
        st := .change, change := some ch, ownReq := none, waitChange := false,
        owed := if (s.mod e.val).waitChange then (s.mod e.val).ownReq else (s.mod e.val).owed })) ∧
  (∀ (s : State) (e : Fin 34) (ch : LinkChange) (slot : BitVec 4), (s.mod e.val).st = .change →
    (s.mod e.val).ownReq.isSome = true → Completes (.linkReq e ch slot) s (fun t => t.mod e.val =
      if pgSlot (modPage e.val 0) < slot.toNat then { s.mod e.val with ownReq := none }
      else { s.mod e.val with change := some ch, ownReq := none, owed := (s.mod e.val).ownReq })) ∧
  (∀ (s : State) (e : Fin 34) (accept : Bool), (s.mod e.val).st = .change → (s.mod e.val).ownReq.isSome = true →
    exec (.linkRsp e accept) s = .next (s.onMod e.val (fun k =>
      if accept then { k with ownReq := none } else { k with st := .active, ownReq := none, change := none, busy := false }))) ∧
  (∀ (s : State) (e : Fin 34) (ch : LinkChange), (s.mod e.val).ownReq = some ch → (s.mod e.val).waitChange = true →
    (s.mod e.val).st = .active → Completes (.commandedChangeStart e) s (fun t => t.mod e.val =
      { s.mod e.val with st := .change, change := some ch, ownReq := some ch, waitChange := false } ∧
      t.now = s.instant ((s.mod e.val).lastReset.getD 0 + us 1500))) ∧
  (∀ (s : State) (e : Fin 34) (ch : LinkChange), (s.mod e.val).change = some ch → (s.mod e.val).st = .change →
    (s.mod e.val).ownReq = none →
    Settles (.dlnkChangeEnd e true) s e.val (fun u => (u.mod e.val).st = .active ∧ (u.mod e.val).change = none ∧
      (u.mod e.val).lastReset = some s.now) ∧
    Settles (.dlnkChangeEnd e false) s e.val (fun u => (u.mod e.val).st =
      if (s.mod e.val).lastLreset.any (fun t => decide (s.now < t + us 1500)) then .retired else .lreset)) ∧
  (∀ (s : State) (e : Fin 34), (s.mod e.val).st = .active ∨ (s.mod e.val).st = .change →
    Settles (.trainingPatternSeen e) s e.val (fun u =>
      if (s.mod e.val).lastLreset.any (fun t => decide (s.now < t + us 1500)) then (u.mod e.val).st = .retired
      else (u.mod e.val).st = .lreset ∧ (u.mod e.val).lresets = satAdd 255 (s.mod e.val).lresets 1 ∧
        (u.mod e.val).next_ = (s.mod e.val).next_ ∧ (u.mod e.val).unacked = (s.mod e.val).unacked ∧
        (u.mod e.val).consumed = (s.mod e.val).consumed ∧ (u.mod e.val).returned = (s.mod e.val).returned)) ∧
  (∀ (s : State) (e : Fin 34) (r : LaneResult) (w : Nat), (s.mod e.val).st = .lreset → (s.mod e.val).retrained = false →
    trainedWidth r (s.mod e.val).width = some w → Settles (.linkResetEnd e r) s e.val (fun u =>
      (u.mod e.val).width = w ∧ (u.mod e.val).retrained = true ∧ (u.mod e.val).next_ = (s.mod e.val).next_ ∧
      (u.mod e.val).map = laneMap r.lanes.toNat r.fck0 r.fck1 ∧
      (u.mod e.val).st = (if (s.mod e.val).paramRcvd && (s.mod e.val).creditRcvd then .active else .lreset) ∧
      ((s.mod e.val).paramRcvd = true → (s.mod e.val).creditRcvd = true → (u.mod e.val).lastReset = some s.now ∧
        (u.mod e.val).lastLreset = some s.now ∧ (u.mod e.val).inRow = 0))) ∧
  (∀ (s : State) (e : Fin 34) (r : LaneResult), (s.mod e.val).st = .lreset → (s.mod e.val).retrained = false →
    trainedWidth r (s.mod e.val).width = none →
    Settles (.linkResetEnd e r) s e.val (fun u => (u.mod e.val).st = .retired)) ∧
  (∀ (s : State) (m : Master) (e : Fin 34), s.accepts m (dlnkOff e.val) = true →
    let after := fun (cmd : Nat) => ((s.written m (dlnkOff e.val) (BitVec.ofNat 32 cmd)).fabricOp e.val
      (fun s => s.dlnkCmd e.val cmd)).finish m
    exec (.dlnkRetrain m e) s = .next (after 1) ∧ exec (.dlnkWidth m e) s = .next (after 2) ∧
    exec (.dlnkRate m e) s = .next (after 3) ∧ exec (.dlnkRetire m e) s = .next (after 4) ∧
    exec (.dlnkReturn m e) s = .next (after 5) ∧ exec (.dlnkResetCmd m e) s = .next (after 6)) ∧
  (∀ (s : State) (e cmd : Nat), 1 ≤ cmd → cmd ≤ 6 → cmd ≠ 5 → (s.mod e).st ≠ .active →
    ((s.dlnkCmd e cmd).mod e) = { s.mod e with result := 2 }) ∧
  (∀ (s : State) (e : Nat), ((s.dlnkCmd e 5).mod e) =
    if (s.mod e).gone then { (s.dlnkCmd e 5).mod e with result := 0, busy := true, st := .train, failedRate := none, rateTop := 3, offer := 3 }
    else { s.mod e with result := 2 }) ∧
  (∀ (s : State) (e : Nat), (s.mod e).st = .active → (s.mod e).lastLreset = none →
    (((s.dlnkCmd e 6).mod e).result, ((s.dlnkCmd e 6).mod e).st) = (0, .lreset)) ∧
  (∀ (s : State) (e : Nat), (s.mod e).st = .active →
    (((s.dlnkCmd e 4).mod e).result, ((s.dlnkCmd e 4).mod e).st) =
      if (sameConnection e).any (fun m => m != e && (s.mod m).st == .active) then (0, .retired) else (1, .active)) ∧
  (∀ (s : State) (e cmd : Nat), 1 ≤ cmd → cmd ≤ 3 → (s.mod e).st = .active → (s.mod e).waitChange = false →
    (s.mod e).lastReset = none → (((s.dlnkCmd e cmd).mod e).result, ((s.dlnkCmd e cmd).mod e).st) = (0, .change))

/-- R343, R348, R349, R351-R356: MESSAGE_FLIT, REPLAY_START, ACK_CREDIT, ACK_TIMER, REPLAY_TIMER, REPLAY_LIMIT and
CREDIT_TIMEOUT. Where a clause meets a point that the spec leaves open, it follows the model's choice, named in the
assumption log (rows 1, 24, 81, 82, 83, 122, 134 and 178). -/
def Obligations.FlitsAcknowledgementAndReplay : Prop :=
  (∀ (s : State) (e : Fin 34) (f : BitVec 512), (s.mod e.val).st = .active → (s.mod e.val).replayWait = true →
    (flitKind f == 1 && flitOk f 0xF000) = false →
    exec (.messageFlit e f) s = .next (if flitKind f = 1 then s.crcFailed e.val else s)) ∧
  (∀ (s : State) (e : Fin 34) (f : BitVec 512), flitsCross (s.mod e.val).st = true → flitKind f = 1 →
    flitOk f 0xF000 = true → bits (flitBytes f 0 4) 26 4 = 0 →
    exec (.messageFlit e f) s = exec (.ackCredit e (bitOf (flitBytes f 4 2) 15) (BitVec.ofNat 12 (flitBytes f 4 2))
      ((upTo 8).map (fun k => BitVec.ofNat 16 (flitBytes f (8 + 2 * k) 2)))) s) ∧
  (∀ (s : State) (e : Fin 34) (f : BitVec 512), (s.mod e.val).st = .active → (s.mod e.val).replayWait = false →
    (flitKind f == 1 && flitOk f 0xF000) = false →
    flitOk f ((s.mod e.val).from_.getD (s.mod e.val).next_) = false → Settles (.messageFlit e f) s e.val (fun u =>
      u.mod e.val = { s.mod e.val with crcErr := satAdd 0xFFFF (s.mod e.val).crcErr 1, replayWait := true, from_ := none })) ∧
  (∀ (s : State) (e : Fin 34) (f : BitVec 512), (s.mod e.val).st = .active → (s.mod e.val).replayWait = false →
    (flitKind f == 1 && flitOk f 0xF000) = false →
    flitOk f ((s.mod e.val).from_.getD (s.mod e.val).next_) = true → flitKind f ≠ 0 → (s.mod e.val).lastLreset = none →
    Settles (.messageFlit e f) s e.val (fun u => (u.mod e.val).st = .lreset)) ∧
  (∀ (s : State) (e : Fin 34) (f : BitVec 512) (w : RxWalk), (s.mod e.val).st = .active →
    (s.mod e.val).replayWait = false → (s.mod e.val).from_.getD (s.mod e.val).next_ = (s.mod e.val).next_ →
    flitOk f (s.mod e.val).next_ = true → flitKind f = 0 → bits (flitBytes f 0 4) 14 16 = 0 →
    walkSlots e.val f (upTo 7) (s.mod e.val).rx = some w →
    (brgModEnd e.val = true → exec (.messageFlit e f) s =
      .next (s.fabricOp e.val (fun s => w.done.foldl State.gotMsg (s.tookFlit e.val w)))) ∧
    (brgModEnd e.val = false ∨ w.done = [] → Settles (.messageFlit e f) s e.val (fun u =>
      (u.mod e.val).st = .active ∧ (u.mod e.val).from_ = none ∧
      (u.mod e.val).next_ = ((s.mod e.val).next_ + 1) % 4096 ∧ (u.mod e.val).rxNeed = w.need ∧
      (u.mod e.val).rxUnacked = (s.mod e.val).rxUnacked + 1))) ∧
  (∀ (s : State) (a : Fin 16) (tag : BitVec 10) (line : BitVec 40) (u keep : Bool) (d : List (List Byte)) (o : Nat)
    (h : Nat), h = 2 ^ 58 * o + 2 ^ 48 * tag.toNat + 2 ^ 44 * a.val + 2 ^ 43 * b2n u + 2 ^ 40 * b2n keep + line.toNat →
    (o = 1 → .next (s.gotMsg (h, d)) = exec (.rdcur a tag line u) s) ∧
    (o = 2 → .next (s.gotMsg (h, d)) = exec (.rdshared a tag line u) s) ∧
    (o = 3 → .next (s.gotMsg (h, d)) = exec (.rdown a tag line u) s) ∧
    (o = 4 → .next (s.gotMsg (h, d)) = exec (.invown a tag line u) s) ∧
    (o = 5 → .next (s.gotMsg (h, d)) = exec (.cleanevict a tag line u) s) ∧
    (o = 6 → .next (s.gotMsg (h, d)) = exec (.wrfull a tag line keep (slotLine d 0)) s) ∧
    (o = 7 → .next (s.gotMsg (h, d)) = exec (.wrptl a tag line keep (BitVec.ofNat 64 (slotField d 0 1)) (slotLine d 1)) s) ∧
    (o = 8 → .next (s.gotMsg (h, d)) = exec (.wrback a tag line keep (slotLine d 0)) s) ∧
    (o = 24 → .next (s.gotMsg (h, d)) = exec (.fwdrddata tag (slotLine d 0) u) s) ∧
    (o = 40 → .next (s.gotMsg (h, d)) = exec (.snprsp a line .i none) s) ∧
    (o = 46 → .next (s.gotMsg (h, d)) = exec (.snpconflict a line) s) ∧
    (o = 56 → .next (s.gotMsg (h, d)) = exec (.regrsp tag (BitVec.ofNat 32 (slotField d 0 1)) u) s)) ∧
  (∀ (s : State) (e : Fin 34) (f : BitVec 512), (s.mod e.val).st = .active → (s.mod e.val).replayWait = false →
    (s.mod e.val).from_.getD (s.mod e.val).next_ ≠ (s.mod e.val).next_ →
    flitOk f ((s.mod e.val).from_.getD (s.mod e.val).next_) = true → flitKind f = 0 →
    Settles (.messageFlit e f) s e.val (fun u => u.mod e.val = { s.mod e.val with
      from_ := some (((s.mod e.val).from_.getD (s.mod e.val).next_ + 1) % 4096) })) ∧
  (∀ (s : State) (e : Fin 34) (seq : BitVec 12), (s.mod e.val).st = .active →
    (seq.toNat = (s.mod e.val).next_ ∨ 2048 ≤ seqDist (s.mod e.val).next_ seq.toNat →
      Settles (.replayStart e seq) s e.val (fun u => u.mod e.val = { s.mod e.val with
        replayWait := false, from_ := if seq.toNat = (s.mod e.val).next_ then none else some seq.toNat })) ∧
    (seq.toNat ≠ (s.mod e.val).next_ → seqDist (s.mod e.val).next_ seq.toNat < 2048 → (s.mod e.val).lastLreset = none →
      Settles (.replayStart e seq) s e.val (fun u => (u.mod e.val).st = .lreset))) ∧
  (∀ (s : State) (e : Fin 34) (valid : Bool) (ackseq : BitVec 12) (ret : List (BitVec 16)), (s.mod e.val).st = .active →
    (∀ i < 8, ((ret.map BitVec.toNat).getD i 0 + 65536 - (s.mod e.val).returned.getD i 0) % 65536 ≤ (s.mod e.val).inUse i) →
    Settles (.ackCredit e valid ackseq ret) s e.val (fun u =>
      let acked := valid && (s.mod e.val).unacked.any (fun f => f.1 == ackseq.toNat)
      (u.mod e.val).st = .active ∧ (u.mod e.val).inRow = (if acked then 0 else (s.mod e.val).inRow) ∧
      (u.mod e.val).returned = (upTo 8).map (fun i => (ret.map BitVec.toNat).getD i 0) ∧
      (brgModEnd e.val = false → (u.mod e.val).unacked =
        if acked then ((s.mod e.val).unacked.dropWhile (fun f => f.1 != ackseq.toNat)).tail else (s.mod e.val).unacked))) ∧
  (∀ (s : State) (e : Fin 34) (valid : Bool) (ackseq : BitVec 12) (ret : List (BitVec 16)) (i : Nat),
    (s.mod e.val).st = .active → i < 8 → (s.mod e.val).lastLreset = none →
    (s.mod e.val).inUse i < ((ret.map BitVec.toNat).getD i 0 + 65536 - (s.mod e.val).returned.getD i 0) % 65536 →
    Settles (.ackCredit e valid ackseq ret) s e.val (fun u => (u.mod e.val).st = .lreset)) ∧
  (∀ (s : State) (e : Fin 34), (s.mod e.val).st = .active →
    Completes (.ackTimer e) s (fun t => t.mod e.val = { s.mod e.val with rxUnacked := 0 } ∧
      Msg.ctlFlit e.val 0 ((0x8000 + ((s.mod e.val).next_ + 4095) % 4096) :: (s.mod e.val).myReturned) ∈ t.out)) ∧
  (∀ (s : State) (e : Fin 34), (s.mod e.val).st = .active → (s.mod e.val).unacked ≠ [] → (s.mod e.val).inRow < 4 →
    Completes (.replayTimer e) s (fun t => (t.mod e.val).inRow = (s.mod e.val).inRow + 1 ∧
      (t.mod e.val).replays = satAdd 0xFFFF (s.mod e.val).replays 1 ∧
      (t.mod e.val).unacked.map (·.1) = (s.mod e.val).unacked.map (·.1) ∧
      ∀ f ∈ (s.mod e.val).unacked, Msg.msgFlit e.val f.1 ∈ t.out)) ∧
  (∀ (s : State) (e : Fin 34), (s.mod e.val).st = .active →
    (brgModEnd e.val = false ∨ (s.mod e.val).unacked ≠ [] ∧ 4 ≤ (s.mod e.val).inRow) →
    exec (.replayLimit e) s = .next (((if brgModEnd e.val then s.reach ((s.mod e.val).oldest + us 1)
      else s.onMod e.val (fun k => { k with replays := satAdd 0xFFFF k.replays 4 })).raiseDlnk e.val 647 0).fabricOp e.val
        (fun s => s.enterLreset e.val 2))) ∧
  (∀ (s : State) (e : Fin 34) (cls : MsgClass) (t0 : Nat), (s.mod e.val).st = .active →
    (brgModEnd e.val = false ∨ look? (s.mod e.val).waiting (msgClassNo cls) = some t0) →
    exec (.creditTimeout e cls) s = .next (((s.when (brgModEnd e.val) (fun s => s.reach (t0 + s.creditTo e.val))).raiseDlnk
      e.val 645 (msgClassNo cls)).fabricOp e.val (fun s => s.enterLreset e.val 1))) ∧
  (∀ (s : State) (e cause : Nat), (s.mod e).st = .active → (s.mod e).lastLreset = none →
    ((s.enterLreset e cause).mod e).st = .lreset ∧ Msg.trainPattern e ∈ (s.enterLreset e cause).out)

/-- R67, R142, R147, R152, R361, R363, R366, R367, R370: RDCUR, RDSHARED, RDOWN, INVOWN, CLEANEVICT, WRFULL, WRPTL,
WRBACK, ATOMIC, SNPRSP, SNPCONFLICT and EVTRAISE. Where a clause meets a point that the spec leaves open, it follows
the model's choice, named in the assumption log (rows 22, 82, 83, 130, 134 and 178). -/
def Obligations.BorageRequestsAndSnoops : Prop :=
  (∀ (s : State) (a : Fin 16) (tag : BitVec 10) (line : BitVec 40) (cred : Bool),
    let queued := fun (k : ReqKind) => (s.arrivedBrg line.toNat).enlist line.toNat (.borage (64 + a.val)) k tag.toNat cred
      (s.tagging (16 + homeOf (lnPage line.toNat) % 4)).2
    (s.admitsBrg (64 + a.val) line.toNat false = true → exec (.rdcur a tag line cred) s = .next (queued (.read .none)) ∧
      exec (.cleanevict a tag line cred) s = .next (queued .clnEvct)) ∧
    (s.admitsBrg (64 + a.val) line.toNat true = true → exec (.rdshared a tag line cred) s = .next (queued (.read .s)) ∧
      exec (.rdown a tag line cred) s = .next (queued (.read .a)) ∧
      exec (.invown a tag line cred) s = .next (queued (.inv .a)))) ∧
  (∀ (s : State) (a : Fin 16) (tag : BitVec 10) (line : BitVec 40) (keepS : Bool) (mask : BitVec 64) (data : Line),
    let queued := fun (k : ReqKind) => (s.arrivedBrg line.toNat).enlist line.toNat (.borage (64 + a.val)) k tag.toNat false
      (s.tagging (16 + homeOf (lnPage line.toNat) % 4)).2
    let keep := if keepS then MetaVal.s else .i
    s.admitsBrg (64 + a.val) line.toNat false = true →
    exec (.wrfull a tag line keepS data) s = .next (queued (.write keep data false)) ∧
    exec (.wrptl a tag line keepS mask data) s = .next (queued (.writePtl keep mask data false)) ∧
    exec (.wrback a tag line keepS data) s = .next (queued (.write keep data false))) ∧
  (∀ (s : State) (a : Fin 16) (tag : BitVec 10) (line : BitVec 40) (cred : Bool) (op : AtomicKind) (size : AtomicSize)
    (off : Fin 64) (x y : BitVec 128), s.admitsBrg (64 + a.val) line.toNat false = true →
    (atomicSupported op size && off.val % size.bytes == 0) = true →
    exec (.atomic a tag line cred op size off x y) s = .next ((s.arrivedBrg line.toNat).enlist line.toNat
      (.borage (64 + a.val)) (.atomic op size.bytes off.val x y) tag.toNat cred
      (s.tagging (16 + homeOf (lnPage line.toNat) % 4)).2)) ∧
  (∀ (s : State) (a : Fin 16) (tag : BitVec 10) (line : BitVec 40) (cred : Bool) (op : AtomicKind) (size : AtomicSize)
    (off : Fin 64) (x y : BitVec 128), (s.brgEnd (homeOf (lnPage line.toNat))).isSome = true →
    (atomicSupported op size && off.val % size.bytes == 0) = false →
    exec (.atomic a tag line cred op size off x y) s =
      .next (s.emit (.brgAtomic line.toNat (64 + a.val) tag.toNat 0 true))) ∧
  (∀ (s : State) (a : Fin 16) (tag : BitVec 10) (line : BitVec 40) (cred : Bool),
    (s.brgEnd (homeOf (lnPage line.toNat))).isSome = true → s.home.lost.getLsbD (64 + a.val) = false →
    s.unitsUp line.toNat = true → s.brgMay (64 + a.val) line.toNat false = false →
    exec (.rdcur a tag line cred) s = .next (((s.arrivedBrg line.toNat).raise {
      src := 649, site := siteOfPage brgPage, subject := 64 + a.val }).emit (.brgData line.toNat (64 + a.val) tag.toNat 0 true 0))) ∧
  (∀ (s : State) (a : Fin 16) (line : BitVec 40) (keep : SnpKeep), s.snooping (64 + a.val) line.toNat = true →
    exec (.snprsp a line keep none) s = .next (s.answered (64 + a.val) line.toNat (keep != .i)) ∧
    exec (.snpconflict a line) s = .next (s.emit (.conflictAck (64 + a.val) line.toNat))) ∧
  (∀ (s : State) (a : Fin 16) (line : BitVec 40) (keep : SnpKeep) (d : Line), s.snooping (64 + a.val) line.toNat = true →
    exec (.snprsp a line keep (some d)) s = .next ((s.snoopData (64 + a.val) line.toNat keep d).answered (64 + a.val)
      line.toNat (keep != .i))) ∧
  (∀ (s : State) (k : Fin 64) (payload : BitVec 64), (s.brgEnd 0).isSome = true →
    exec (.evtraise k payload) s = .next (s.raise {
      src := 704 + k.val, site := siteOfPage (chipletPage 12), detail := [payload.toNat] }))

/-- R302, R368, R371, R372, R490: BAR0_WRITE, BAR0_READ, FWDRDDATA, FWDRD_TIMEOUT, FWDWR_TIMEOUT, BRG_FLT_N_ASSERT,
BRG_FLT_FRAME and BORAGE_BRINGUP_TIMEOUT. Where a clause meets a point that the spec leaves open, it follows the
model's choice, named in the assumption log (rows 1, 31, 73, 82, 119, 134, 150 and 163). -/
def Obligations.ForwardedAccessesAndBorageFaults : Prop :=
  (∀ (s : State) (ld : Fin 64) (off : BitVec 40) (data : List Byte) (l : Nat), s.ioArrives ld.val = some l →
    s.groupFatal l = false → s.ioBars l ld.val = true → s.bar0 ld.val off.toNat data.length = true →
    (s.brgEnd 0).isSome = true → exec (.bar0Write ld off data) s = .next (((s.arriveOn l).carryPieces l ld.val 9
      (barPieces off.toNat data.length).length).forward ((barPieces off.toNat data.length).map
      (fun p => {
        ld := ld.val, off := p.1, len := 0, htag := 0, mask := BitVec.ofNat 64 ((2 ^ p.2 - 1) <<< (p.1 % 64)),
        data := BitVec.ofNat 512 (ofBytes ((data.drop (p.1 - off.toNat)).take p.2) <<< (8 * (p.1 % 64))),
        at_ := s.now })))) ∧
  (∀ (s : State) (ld : Fin 64) (off : BitVec 40) (len : BitVec 13) (tag l : Nat), s.ioArrives ld.val = some l →
    s.groupFatal l = false → s.ioBars l ld.val = true → s.bar0 ld.val off.toNat len.toNat = true →
    ((s.brgEnd 0).isSome = true → exec (.bar0Read ld off len tag) s = .next (((s.arriveOn l).carryPieces l ld.val 0
      (barPieces off.toNat len.toNat).length).forward ((barPieces off.toNat len.toNat).map
      (fun p => {
        ld := ld.val, off := p.1, len := p.2, htag := tag, mask := 0, data := 0, at_ := s.now })))) ∧
    ((s.brgEnd 0).isNone = true →
      exec (.bar0Read ld off len tag) s = .next (((s.arriveOn l).fwdFail ld.val).toHost ld.val (.ca ld.val tag)))) ∧
  (∀ (s : State) (ld : Fin 64) (off : BitVec 40) (data : List Byte) (len : BitVec 13) (tag l : Nat),
    s.ioArrives ld.val = some l → s.groupFatal l = false →
    (s.ioBars l ld.val = false ∨
        s.bar0 ld.val off.toNat data.length = false ∧ s.brgInReset ld.val off.toNat data.length = false →
      exec (.bar0Write ld off data) s = .next ((s.arriveOn l).sendUr l ld.val 0 off.toNat true)) ∧
    (s.ioBars l ld.val = false ∨ s.bar0 ld.val off.toNat len.toNat = false →
      exec (.bar0Read ld off len tag) s = .next ((s.arriveOn l).sendUr l ld.val tag off.toNat false)) ∧
    (s.ioBars l ld.val = true → s.brgInReset ld.val off.toNat data.length = true → (s.brgEnd 0).isNone = true →
      exec (.bar0Write ld off data) s = .next (((s.arriveOn l).carryPieces l ld.val 9
        (barPieces off.toNat data.length).length).each (barPieces off.toNat data.length) (fun s _ => s.fwdFail ld.val)))) ∧
  (∀ (s : State) (tag : BitVec 10) (data : Line) (x : FwdReq), s.fwdPending tag.toNat = some x →
    exec (.fwdrddata tag data true) s = .next (s.fwdAbort x.ld x.htag true) ∧
    Completes (.fwdrddata tag data false) s (fun t => t.fwdPending tag.toNat ≠ some x) ∧
    (s.brg.fwd = [x] → s.brg.fwdWait = [] → (s.linkOf x.ld).any (fun l => (s.link l).live) = true → Completes (.fwdrddata tag data false) s (fun t => t.brg.fwd = [] ∧
      Msg.ioData x.ld x.htag (((lineBytes data).drop (x.off % 64)).take x.len) false ∈ t.out))) ∧
  (∀ (s : State) (tag : BitVec 10) (x : FwdReq), s.fwdPending tag.toNat = some x →
    Completes (.fwdrdTimeout tag) s (fun t => t.now = s.instant (x.at_ + ms 1) ∧ t.fwdPending tag.toNat ≠ some x ∧
      ((s.linkOf x.ld).any (fun l => (s.link l).live) = true → Msg.ca x.ld x.htag ∈ t.out))) ∧
  (∀ (s : State) (ld : Fin 64) (p : FwdPiece), s.brg.fwdWait.find? (fun p => p.ld == ld.val) = some p → p.len = 0 →
    Completes (.fwdwrTimeout ld) s (fun t => t.now = s.instant (p.at_ + ms 1) ∧
      (∀ x ∈ t.brg.fwdWait, x ∈ s.brg.fwdWait.erase p))) ∧
  (∀ (s : State), s.brg.filler = false → s.brg.rst = false → s.brg.fltN = false →
    exec .brgFltNAssert s = .next ((s.withBrg { s.brg with fltN := true }).fault (siteOfPage (chipletPage 12)) 5 0xFFFF 0xFFFF 0
      false)) ∧
  (∀ (s : State) (f : BitVec 64), s.brg.filler = false → s.brg.rst = false → bits f.toNat 60 4 = 5 →
    (popCount f.toNat 64 % 2 = 1 → exec (.brgFltFrame f) s = .next ((s.withBrg { s.brg with
      badFrames := satAdd 0xFFFF s.brg.badFrames 1 }).raise { src := 652, site := siteOfPage (chipletPage 12) })) ∧
    (∀ c < 6, popCount f.toNat 64 % 2 = 0 → brgClass (bits f.toNat 33 3) = some c →
      pgSlot (pageOfSite (bits f.toNat 36 24)) = 12 → exec (.brgFltFrame f) s = .next (s.fault (bits f.toNat 36 24) c (bits f.toNat 17 16) (bits f.toNat 1 16) 0 false))) ∧
  (∀ (s : State) (e : Nat), s.brg.filler = false → s.brg.rst = false → 15 ≤ e → e < 19 → (s.mod e).st = .train →
    (∀ x, 15 ≤ x → x < 19 → x ≠ e → (s.mod x).st = .active) →
    Completes .borageBringupTimeout s (fun t => t.now = s.instant (s.brg.rstRel + ms 100) ∧ (t.mod e).st = .retired))

/-- R369, R458, R461, R472, R507, R516, R526, R528, R529, R540, R544: REGISTER_WRITE, FREC0_READ, PMC_LO_READ,
RSTORE_DATA_WRITE, BORAGE_REG_ACCESS, REGRSP, REGRD_TIMEOUT, SB_RD and SB_WR. Where a clause meets a point that the
spec leaves open, it follows the model's choice, named in the assumption log (rows 1, 95, 101, 108, 134 and 150). -/
def Obligations.RegisterAccesses : Prop :=
  (∀ (s : State) (m : Master) (off : BitVec 28) (val : Word) (be : BitVec 4), m ≠ .bmc → s.cutOff m (off.toNat / 4 * 4) = false →
    s.accepts m (off.toNat / 4 * 4) = true → (∀ ld, m = .host ld → be = 15) →
    exec (.registerWrite m off val be) s = .next ((s.written m (off.toNat / 4 * 4) val).regEffect m (off.toNat / 4 * 4) val
      (s.cfgBit trcPage 0x80 1)).goOn) ∧
  (∀ (s : State) (ld : Fin 64) (off : BitVec 28) (val : Word) (be : BitVec 4), s.boot.aux = true → be ≠ 15 →
    s.noBar2 (.host ld) = false →
    exec (.registerWrite (.host ld) off val be) s = .next (s.wstat 8 8)) ∧
  (∀ (s : State) (m : Master) (off : BitVec 28) (val : Word), s.boot.aux = true → s.mustWait m = true → m ≠ .bmc →
    exec (.registerWrite m off val 15) s = .next ((s.withRet { s.ret with
      held := s.ret.held ++ [{ m := m, off := off.toNat / 4 * 4, wr := some val }] }).goOn)) ∧
  (∀ (s : State) (m : Master) (page : BitVec 16), s.reachesOwn m (page.toNat * 4096 + 0x28) = true →
    Completes (.frec0Read m page) s (fun t => look? t.flt.latch page.toNat =
      some (((s.recWords (unitOf page.toNat)).drop 1).map (BitVec.ofNat 32)))) ∧
  (∀ (s : State) (m : Master) (page : BitVec 16) (k : Fin 8), s.reachesOwn m (page.toNat * 4096 + 0x50 + 4 * k.val) = true →
    k.val < counters page.toNat → Completes (.pmcLoRead m page k) s (fun t =>
      look 0 (t.bank page.toNat).hi k.val = look 0 (t.bank page.toNat).cnt k.val / 2 ^ 32)) ∧
  (∀ (s : State) (m : Master) (val : Word), s.accepts m (rstorePage * 4096 + 0x84) = true →
    s.cutOff m (rstorePage * 4096 + 0x84) = false → m ≠ .bmc →
    exec (.rstoreDataWrite m val) s = .next ((s.written m (rstorePage * 4096 + 0x84) val).rstoreData m val)) ∧
  (∀ (s : State) (m : Master) (val : Word), s.rstoreAddr < 0x1000 → (s.rstoreData m val).ret.result = 3 ∧
    (s.rstoreData m val).ret.refused = satAdd 0xFFFF s.ret.refused 1 ∧ (s.rstoreData m val).ret.words = s.ret.words ∧
    (s.rstoreData m val).ret.wear = s.ret.wear ∧ (s.rstoreData m val).ret.queue = s.ret.queue) ∧
  (∀ (s : State) (m : Master) (val : Word), 0x1000 ≤ s.rstoreAddr → s.ret.queue = [] → s.retWord s.rstoreAddr ≠ val →
    (s.rstoreData m val).ret.queue = [{ key := s.rstoreAddr, val := val, who := some m, at_ := s.now }]) ∧
  (∀ (s : State) (m : Master) (off : BitVec 24) (wr : Option Word),
    s.reaches m (0xC000 * 4096 + off.toNat / 4 * 4) = true →
    exec (.borageRegAccess m off wr) s = .next ((s.met m (0xC000 * 4096 + off.toNat / 4 * 4)).brgRegSend m
      (0xC000 * 4096 + off.toNat / 4 * 4) wr)) ∧
  (∀ (s : State) (tag : BitVec 10) (val : Word) (err : Bool) (r : FwdReq), s.regPending tag.toNat = some r →
    exec (.regrsp tag val err) s = .next (s.brgAnswer r (if err then none else some val) 2) ∧
    (s.idleWaits = true → Completes (.regrsp tag val err) s (fun t => t.regPending tag.toNat = none))) ∧
  (∀ (s : State) (tag : BitVec 10) (val : Word) (r : FwdReq) (c : Fin 2), s.regPending tag.toNat = some r →
    s.idleWaits = true → s.boot.cfgGo = false → r.m = some (.core c) → r.wr = none →
    Completes (.regrsp tag val false) s (fun t => Msg.loadData c.val (val.zeroExtend 64) ∈ t.out) ∧
    Completes (.regrsp tag val true) s (fun t => Msg.loadData c.val 0 ∈ t.out)) ∧
  (∀ (s : State) (tag : BitVec 10) (r : FwdReq), s.regPending tag.toNat = some r → s.regUnsent tag.toNat = false →
    exec (.regrdTimeout tag) s = .next (((s.reach (s.regLeft r + us 100)).brgAnswer r none 5).raise
      { src := 651, site := siteOfPage brgPage, subject := (s.brgEnd 0).getD 15, detail := [r.off % 2 ^ 24] }) ∧
    r.at_ ≤ s.regLeft r) ∧
  (∀ (s : State) (tag : BitVec 10), s.regUnsent tag.toNat = true → exec (.regrdTimeout tag) s = .next s) ∧
  (∀ (s : State) (off : BitVec 28) (count : Nat) (words : List Word), s.boot.aux = true →
    (count = 0 ∨ 16 < count ∨ off.toNat % 4 ≠ 0 ∨ 2 ^ 28 < off.toNat + 4 * count →
      exec (.sbRd off count) s = .next (s.emit (.sbRsp 1 4 []))) ∧
    (words.length = 0 ∨ 16 < words.length ∨ off.toNat % 4 ≠ 0 ∨ 2 ^ 28 < off.toNat + 4 * words.length →
      exec (.sbWr off words) s = .next (s.emit (.sbRsp 2 4 [])))) ∧
  (∀ (s : State) (off : BitVec 28) (count : Nat) (words : List Word), s.boot.aux = true → off.toNat % 4 = 0 →
    (0 < count → count ≤ 16 → off.toNat + 4 * count ≤ 2 ^ 28 →
      exec (.sbRd off count) s = .next ((s.onMgmt (fun g => { g with sbNext := g.sbNext ++
        [{ opc := 1, off := off.toNat, words := [], left := count, got := [], status := 0 }] })).goSb).goOn) ∧
    (0 < words.length → words.length ≤ 16 → off.toNat + 4 * words.length ≤ 2 ^ 28 →
      exec (.sbWr off words) s = .next ((s.onMgmt (fun g => { g with sbNext := g.sbNext ++
        [{ opc := 2, off := off.toNat, words := words, left := 0, got := [], status := 0 }] })).goSb).goOn)) ∧
  (∀ (s : State) (off : BitVec 28), s.boot.aux = true → off.toNat % 4 = 0 → s.idleWaits = true → s.underWay .bmc = false →
    s.answers (off.toNat / 4096) = true → pgSlot (off.toNat / 4096) ≠ 12 → (s.asleep off.toNat).isNone = true →
    Completes (.sbRd off 1) s (fun t => t.mgmt.sb = none ∧ t.mgmt.sbNext = [] ∧
      (t.out.head?.map (fun x => match x with
        | .sbRsp opc st d => (opc, st, d.length)
        | _ => (0, 0, 0))) = some (1, 0, 1)))

/-- R400, R402, R407, R458-R460, R462: SUBDOMAIN_WAKE, SUBDOMAIN_WAKE_TIMEOUT, WAKE_IN_RECOGNISED, RSTORE_WRITE_DONE and
RETAINED_WORD_UE. Where a clause meets a point that the spec leaves open, it follows the model's choice, named in the
assumption log (rows 1, 11, 73, 87, 90, 94, 108, 133, 180 and 181). -/
def Obligations.WakesAndRetainedWrites : Prop :=
  (∀ (s : State) (sd : SubDomain), s.boot.main = true → s.sdWanted sd = true → s.clk.down.getLsbD (sdDomains sd).1 = true →
    s.clk.quar.contains (sdDomains sd).1 = false →
    exec (.subdomainWake sd) s = .next ((s.powerUp (sdDomains sd) (sdAuto sd)).wakeHeld.runAll.goOn) ∧
    (s.idleWaits = true → s.home.queue = [] → Completes (.subdomainWake sd) s (fun t =>
      t.clk.down.getLsbD (sdDomains sd).1 = false ∧ t.clk.wakes = satAdd 0xFFFF s.clk.wakes 1 ∧
      look? t.clk.waking (sdDomains sd).1 = none))) ∧
  (∀ (s : State) (sd : SubDomain) (t0 : Nat), s.wakeBegan sd = some t0 → s.idleWaits = true → s.home.queue = [] →
    Completes (.subdomainWakeTimeout sd) s (fun t => t.now = s.instant (t0 + us 30) ∧ (sdDomains sd).1 ∈ t.clk.quar ∧
      look? t.clk.waking (sdDomains sd).1 = none ∧ t.clk.down = s.clk.down ∧
      (s.boot.st ≠ 0 → t.evt.pend.getLsbD 22 = true))) ∧
  (∀ (s : State) (n : Fin 2) (u : State), s.boot.aux = true → s.idleWaits = true → s.home.queue = [] →
    u = (match look? s.clk.wakeInAt n.val with | some t0 => s.reach (t0 + us 122) | none => s) →
    (s.cfg pwrPage 0x84 (1 + 3 * n.val) 2 = 0 → exec (.wakeInRecognised n) s = .next ((u.onClk (fun c => { c with
      seen := c.seen ||| BitVec.ofNat 2 (2 ^ n.val), wakeInAt := enter u.now c.wakeInAt n.val })).raiseClk 21 pwrPage n.val)) ∧
    (s.cfg pwrPage 0x84 (1 + 3 * n.val) 2 = 1 → s.boot.main = true → Completes (.wakeInRecognised n) s (fun t =>
      t.clk.seen.getLsbD n.val = true ∧ ∀ d ∈ autoSubs, s.clk.quar.contains (sdDomains d).1 = false →
        t.clk.down.getLsbD (sdDomains d).1 = false)) ∧
    (s.cfg pwrPage 0x84 (1 + 3 * n.val) 2 = 2 → exec (.wakeInRecognised n) s = .next ((u.onClk (fun c => { c with
      seen := c.seen ||| BitVec.ofNat 2 (2 ^ n.val), wakeInAt := enter u.now c.wakeInAt n.val })).raiseClk 21 pwrPage
        n.val).wakeLeave)) ∧
  (∀ (s : State) (w : RetWrite) (rest : List RetWrite), s.boot.aux = true → s.idleWaits = true → s.ret.queue = w :: rest →
    s.wornOut w = false → Completes .rstoreWriteDone s (fun t => t.now = s.instant (w.at_ + us 25) ∧
      t.retWord w.key = w.val ∧ t.ret.result = 0 ∧ look 0 t.ret.wear w.key =
        if s.retWord w.key = w.val ∧ s.ret.ue.contains w.key = false then look 0 s.ret.wear w.key
        else min 0xFFFFFFFF (look 0 s.ret.wear w.key + 1))) ∧
  (∀ (s : State) (w : RetWrite) (rest : List RetWrite), s.boot.aux = true → s.idleWaits = true → s.ret.queue = w :: rest →
    s.wornOut w = true → Completes .rstoreWriteDone s (fun t => t.now = s.now ∧ t.retWord w.key = s.retWord w.key ∧
      t.ret.result = 1 ∧ t.ret.refused = satAdd 0xFFFF s.ret.refused 1)) ∧
  (∀ (s : State) (w : BitVec 16), s.boot.aux = true → s.ret.ue.contains (rawKey w.toNat) = false →
    Completes (.retainedWordUe w) s (fun t => rawKey w.toNat ∈ t.ret.ue ∧ t.ret.result = 2 ∧
      t.rawWord w.toNat = 0))

/-- R454, R475, R476, R478, R479, R485: FWU_VERIFY, FWU_LOAD, FWU_READY, FWU_SWITCH, FWU_CONFIRM, FWU_ROLLBACK,
FWU_CANCEL, RAISE_SVN and TRIAL_TIMEOUT. Where a clause meets a point that the spec leaves open, it follows the
model's choice, named in the assumption log (rows 1 and 98). -/
def Obligations.FirmwareUpdate : Prop :=
  (∀ (s : State) (m : Master), s.accepts m fwuOff = true →
    let after := fun (cmd : Word) => (((s.written m fwuOff cmd).fwuCmd m cmd).finish m).goOn
    exec (.fwuVerify m) s = .next (after 1) ∧ exec (.fwuLoad m) s = .next (after 2) ∧
    exec (.fwuReady m) s = .next (after 3) ∧ exec (.fwuSwitch m) s = .next (after 4) ∧
    exec (.fwuConfirm m) s = .next (after 5) ∧ exec (.fwuRollback m) s = .next (after 6) ∧
    exec (.fwuCancel m) s = .next (after 7) ∧ exec (.raiseSvn m) s = .next (after 8)) ∧
  (∀ (s : State) (m : Master), s.mgmt.switching = none → s.mgmt.fwu = .staged →
    ((s.fwuCmd m 1).mgmt.fwu, (s.fwuCmd m 1).mgmt.fwuResult) = if s.slotGood s.mgmt.slotB then (.verified, 0) else (.idle, 6)) ∧
  (∀ (s : State) (m : Master) (i : FwImage), s.mgmt.switching = none → s.mgmt.fwu = .verified →
    s.slotImage s.mgmt.slotB = some i → (s.fwuCmd m 2).mgmt.fwu = .loaded ∧ (s.fwuCmd m 2).mgmt.fwuResult = 0 ∧
      (s.fwuCmd m 2).core.sram = putBytes s.core.sram (imageBase s.standbyCore) i.body) ∧
  (∀ (s : State), s.mgmt.switching = none → s.mgmt.fwu = .loaded →
    (s.fwuCmd (.core (Fin.ofNat 2 s.standbyCore)) 3).mgmt.ready = true ∧
    (s.mgmt.ready = true → s.resetBusy = false →
      (s.fwuCmd (.core (Fin.ofNat 2 s.activeCore)) 4).mgmt.switching = some false)) ∧
  (∀ (s : State) (m : Master), s.mgmt.switching = none → s.mgmt.fwu = .loaded →
    (s.fwuCmd m 7).mgmt.fwu = .idle ∧ (s.fwuCmd m 7).mgmt.fwuResult = 0 ∧
    ((s.fwuCmd m 7).mcore s.standbyCore).halted = true) ∧
  (∀ (s : State), s.mgmt.switching = none → s.mgmt.fwu = .trial → s.ret.queue = [] → s.ret.ue = [] →
    (s.fwuCmd (.core (Fin.ofNat 2 s.activeCore)) 5).mgmt.fwu = .idle ∧
    (s.fwuCmd (.core (Fin.ofNat 2 s.activeCore)) 5).ret.queue = (if s.retWord 0xA06 = BitVec.ofNat 32
        (2 * (((s.retWord 0xA06).toNat / 2 + 1) % 2 ^ 31) + b2n s.boot.imageB) then []
      else [{
        key := 0xA06, val := BitVec.ofNat 32 (2 * (((s.retWord 0xA06).toNat / 2 + 1) % 2 ^ 31) + b2n s.boot.imageB),
        who := some (.core (Fin.ofNat 2 s.activeCore)), at_ := s.now }])) ∧
  (∀ (s : State) (m : Master), s.mgmt.switching = none → s.mgmt.fwu = .trial →
    (s.fwuCmd m 6).mgmt.switching = some true ∧ (s.fwuCmd m 6).mgmt.fwuResult = 0) ∧
  (∀ (s : State) (m : Master), s.mgmt.fwu = .idle → s.mgmt.committed = true →
    s.fwuCmd m 8 = (s.fwuResult 0).retWrite 0xA07 (BitVec.ofNat 32 s.boot.svn) (some m)) ∧
  (∀ (s : State) (m : Master), s.mgmt.fwu ≠ .idle ∨ s.mgmt.committed = false → s.fwuCmd m 8 = s.fwuResult 2) ∧
  (∀ (s : State) (m : Master), (s.mgmt.fwu ≠ .staged → s.fwuCmd m 1 = s.fwuResult 2) ∧
    (s.mgmt.fwu ≠ .verified → s.fwuCmd m 2 = s.fwuResult 2) ∧ (s.mgmt.fwu ≠ .loaded →
      s.fwuCmd m 3 = s.fwuResult 2 ∧ s.fwuCmd m 4 = s.fwuResult 2 ∧ s.fwuCmd m 7 = s.fwuResult 2) ∧
    (s.mgmt.fwu ≠ .trial → s.fwuCmd m 5 = s.fwuResult 2 ∧ s.fwuCmd m 6 = s.fwuResult 2)) ∧
  (∀ (s : State), s.boot.aux = true → s.mgmt.fwu = .trial → s.idleWaits = true →
    s.coreDone (Fin.ofNat 2 s.activeCore) = true → Completes .trialTimeout s (fun t => t.mgmt.fwu = .idle ∧
      t.mgmt.switching = none ∧ t.now = s.instant s.mgmt.trialEnd ∧ (t.mcore s.standbyCore).active = true ∧
      (t.mcore s.standbyCore).halted = false ∧ (t.mcore s.standbyCore).entry = s.cfg dillPage 0x270 0 32))

/-- R456: CFG_RECORD_WRITE, CFG_RECORD_COMMIT, CFG_RECORD_WAIT, CFG_WAIT_TIMEOUT and CFG_RECORD_END. Where a clause meets
a point that the spec leaves open, it follows the model's choice, named in the assumption log (rows 1 and 101). -/
def Obligations.ConfigurationApplier : Prop :=
  (∀ (s : State) (off : BitVec 28) (v : Word), s.cfgReady = true → s.boot.cfgGo = false → s.cfgRec = some (.write off v) →
    (s.asleep (off.toNat / 4 * 4)).isNone = true → let r := s.cfgWrite (off.toNat / 4 * 4) v
    (r.2 = true → exec .cfgRecordWrite s = .next r.1.cfgFail) ∧
    (r.2 = false → pgSlot (off.toNat / 4096) = 12 →
      exec .cfgRecordWrite s = .next (r.1.onBoot (fun b => { b with cfgGo := true }))) ∧
    (r.2 = false → pgSlot (off.toNat / 4096) ≠ 12 → exec .cfgRecordWrite s =
      .next (if r.1.boot.cfgKey.isSome then r.1 else r.1.cfgNext))) ∧
  (∀ (s : State) (off : BitVec 28), s.cfgReady = true → s.cfgRec = some (.commit off) → pgSlot (off.toNat / 4096) ≠ 12 →
    let r := s.cfgWrite (off.toNat / 4096 * 4096 + 0x20) 1
    (r.2 = true → s.boot.cfgGo = false → exec .cfgRecordCommit s = .next r.1.cfgFail) ∧
    (r.2 = false → s.boot.cfgGo = false → r.1.regs.pending.contains (off.toNat / 4096) = false →
      exec .cfgRecordCommit s = .next r.1.cfgNext) ∧
    (r.2 = false → s.boot.cfgGo = false → r.1.regs.pending.contains (off.toNat / 4096) = true →
      exec .cfgRecordCommit s = .next (r.1.onBoot (fun b => { b with cfgGo := true }))) ∧
    (s.boot.cfgGo = true → s.regs.pending.contains (off.toNat / 4096) = false → exec .cfgRecordCommit s = .next s.cfgNext)) ∧
  (∀ (s : State) (off : BitVec 28), s.cfgReady = true → s.cfgRec = some (.commit off) → pgSlot (off.toNat / 4096) = 12 →
    s.boot.cfgGo = false → s.boot.cfgPend = false → let r := s.cfgWrite (off.toNat / 4096 * 4096 + 0x20) 1
    exec .cfgRecordCommit s = .next (if r.2 then r.1.cfgFail else r.1.onBoot (fun b => { b with cfgGo := true }))) ∧
  (∀ (s : State) (off : BitVec 28) (v mask : Word) (t0 : Nat), s.cfgReady = true → s.boot.cfgGo = false →
    s.cfgRec = some (.wait off v mask t0) → s.now ≤ s.boot.cfgAt + us t0 → (s.asleep (off.toNat / 4 * 4)).isNone = true →
    (s.readReg applier (off.toNat / 4 * 4)).2.1 ≠ 9 → Completes .cfgRecordWait s (fun t => t.boot.cfg = s.boot.cfg ∧
      t.boot.cfgIx = if (s.readReg applier (off.toNat / 4 * 4)).2.2 &&& mask = v &&& mask then s.boot.cfgIx + 1
        else s.boot.cfgIx)) ∧
  (∀ (s : State) (off : BitVec 28) (v mask : Word) (t0 : Nat), s.cfgReady = true → s.cfgRec = some (.wait off v mask t0) →
    Completes .cfgWaitTimeout s (fun t => t.boot.cfg = none ∧ t.now = s.instant (s.boot.cfgAt + us t0))) ∧
  (∀ (s : State), s.cfgReady = true → s.cfgRec = none ∨ s.cfgRec = some .finish →
    exec .cfgRecordEnd s = .next (s.onBoot (fun b => { b with cfg := none, cfgGo := false }))) ∧
  (∀ (s : State), s.cfgReady = true → s.cfgRec = some .reserved →
    Completes .cfgRecordEnd s (fun t => t.boot.cfg = none ∧ t.boot.step = s.boot.step)) ∧
  (∀ (s : State), s.cfgNext.boot =
      { s.boot with cfgIx := s.boot.cfgIx + 1, cfgAt := s.now, cfgGo := false, cfgPend := false, cfgKey := none } ∧
    s.cfgFail.boot.cfg = none)

/-- R109, R112, R465, R467, R472, R474-R476, R479, R503: the mailbox commands, where the logical device's mailbox is
served (`State.mailboxOpen`). Payloads that the spec leaves open are free values; return codes are PRESUMED
(assumption 33). Where a clause meets a point that the spec leaves open, it follows the model's choice, named in the
assumption log (rows 33 and 100). -/
def Obligations.MailboxCommands : Prop :=
  (∀ (s : State) (ld : Fin 64) (off len : Nat), s.mailboxOpen ld.val = true →
    let said := fun (op : Nat) => ((s.heard ld.val).emit (.mbRsp ld.val op 0 (Config.mbPayload op s.free))).takeFree
    exec (.mbIdentify ld) s = .next (said 0x0001) ∧ exec (.mbGetSupportedLogs ld) s = .next (said 0x0400) ∧
    exec (.mbGetLog ld off len) s = .next (said 0x0401) ∧ exec (.mbGetFwInfo ld) s = .next (said 0x0200) ∧
    exec (.mbIdentifyMemdev ld) s = .next (said 0x4000) ∧ exec (.mbGetHealthInfo ld) s = .next (said 0x4200)) ∧
  (∀ (s : State) (ld : Fin 64), s.mailboxOpen ld.val = true →
    exec (.mbBgOpStatus ld) s = .next ((s.heard ld.val).emit (.mbRsp ld.val 0x0002 0 [0])) ∧
    exec (.mbGetEvtIntPolicy ld) s = .next ((s.heard ld.val).emit (.mbRsp ld.val 0x0102 0 [(s.ld ld.val).evtPolicy.toNat])) ∧
    exec (.mbGetTimestamp ld) s = .next ((s.heard ld.val).emit (.mbRsp ld.val 0x0300 0
      [(BitVec.ofNat 64 s.now + (s.ld ld.val).tsOffset).toNat])) ∧
    exec (.mbGetDcConfig ld) s = .next ((s.heard ld.val).emit (.mbRsp ld.val 0x4800 0
      ((upTo 8).map (fun k => [k, (s.region (8 * ld.val + k)).base, (s.region (8 * ld.val + k)).count,
        2 ^ 28])).flatten)) ∧
    exec (.mbGetDcExtentList ld) s = .next ((s.heard ld.val).emit (.mbRsp ld.val 0x4801 0
      ((s.amap.extents.filter (fun e => s.granted ld.val e.1)).map (fun e => [e.1, (s.extTag e.1).toNat])).flatten)) ∧
    exec (.energyRead ld) s = .next ((s.heard ld.val).emit (.mbRsp ld.val 0xC000 0 [look 0 s.mgmt.ledger ld.val]))) ∧
  (∀ (s : State) (ld : Fin 64) (l : Nat), s.mailboxOpen ld.val = true → s.linkOf ld.val = some l →
    exec (.marginRead ld) s = .next ((s.heard ld.val).emit (.mbRsp ld.val 0xC001 0
      (((upTo 16).filter (fun k => s.linkOfLane (l / 4) k == l)).map (fun k => (look 0 (s.grp (l / 4)).lmrg k).toNat))))) ∧
  (∀ (s : State) (ld : Fin 64) (dpa : BitVec 46) (lines : Nat), s.mailboxOpen ld.val = true →
    Completes (.mbGetPoisonList ld dpa lines) s (fun t =>
      t = (s.heard ld.val).emit (.mbRsp ld.val 0x4300 0 (s.poisonList ld.val dpa.toNat lines)) ∧
      ∀ n ∈ s.poisonList ld.val dpa.toNat lines, s.granted ld.val (pgExt (lnPage n)) = true)) ∧
  (∀ (s : State) (ld : Fin 64) (policy : BitVec 32), s.mailboxOpen ld.val = true →
    Completes (.mbSetEvtIntPolicy ld policy) s (fun t => (t.ld ld.val).evtPolicy = policy ∧
      t.out = .mbRsp ld.val 0x0103 0 [] :: s.out)) ∧
  (∀ (s : State) (ld : Fin 64) (ts : BitVec 64), s.mailboxOpen ld.val = true →
    Completes (.mbSetTimestamp ld ts) s (fun t => BitVec.ofNat 64 t.now + (t.ld ld.val).tsOffset = ts ∧
      t.out = .mbRsp ld.val 0x0301 0 [] :: s.out)) ∧
  (∀ (s : State) (ld : Fin 64) (log : Fin 4), s.mailboxOpen ld.val = true →
    Completes (.mbGetEventRecords ld log) s (fun t =>
      Msg.mbEvents ld.val ((s.mbLog ld.val log.val).map (fun e => e.rec_.seq)) ∈ t.out ∧ t.host = (s.heard ld.val).host)) ∧
  (∀ (s : State) (ld : Fin 64) (log : Fin 4) (handles : List (BitVec 16)), s.mailboxOpen ld.val = true →
    ((∀ h ∈ handles, ∃ e ∈ s.mbLog ld.val log.val, e.handle = h.toNat) →
      Completes (.mbClearEventRecords ld log handles) s (fun t => t.out = .mbRsp ld.val 0x0101 0 [] :: s.out ∧
        t.mbLog ld.val log.val = (s.mbLog ld.val log.val).filter (fun e => !(handles.map BitVec.toNat).contains e.handle))) ∧
    ((∃ h ∈ handles, ∀ e ∈ s.mbLog ld.val log.val, e.handle ≠ h.toNat) →
      exec (.mbClearEventRecords ld log handles) s = .next ((s.heard ld.val).emit (.mbRsp ld.val 0x0101 14 [])))) ∧
  (∀ (s : State) (ld : Fin 64) (slot : BitVec 2) (last : Bool) (img : FwImage), s.mailboxOpen ld.val = true →
    s.fullHost ld.val = true → s.mgmt.fwu = .idle → s.mgmt.img = none → slot.toNat = (if s.boot.imageB then 1 else 2) →
    Completes (.mbTransferFw ld slot last img) s (fun t => t.out = .mbRsp ld.val 0x0201 0 [] :: s.out ∧
      t.mgmt.transfer = !last ∧ (last = false → t.mgmt.fwu = .idle) ∧
      (last = true → t.mgmt.fwu = .staged ∧ t.slotImage t.mgmt.slotB = some img ∧ t.mgmt.slotB = !s.boot.imageB))) ∧
  (∀ (s : State) (ld : Fin 64) (slot : BitVec 2) (last : Bool) (img : FwImage), s.mailboxOpen ld.val = true →
    s.fullHost ld.val = true → s.mgmt.fwu ≠ .idle ∨ s.mgmt.img.isSome = true →
    exec (.mbTransferFw ld slot last img) s = .next ((s.heard ld.val).emit (.mbRsp ld.val 0x0201 6 []))) ∧
  (∀ (s : State) (ld : Fin 64) (slot : BitVec 2) (online : Bool), s.mailboxOpen ld.val = true →
    s.fullHost ld.val = true → s.mgmt.fwu ≠ .idle → slot.toNat = (if s.mgmt.slotB then 2 else 1) →
    Completes (.mbActivateFw ld slot online) s (fun t => t.out = .mbRsp ld.val 0x0202 0 [] :: s.out ∧
      t.mgmt.nextCold = (s.mgmt.nextCold || !online))) ∧
  (∀ (s : State) (ld : Fin 64) (ix : BitVec 16), s.mailboxOpen ld.val = true → s.fullHost ld.val = true →
    exec (.deviceLogRead ld ix) s = .next ((s.heard ld.val).emit (.mbRsp ld.val 0xC002 0 (match look? s.evt.ring ix.toNat with
      | some r => (logBytes r).map BitVec.toNat
      | none => List.replicate 64 0)))) ∧
  (∀ (s : State) (ld : Fin 64) (off : BitVec 28) (wr : Option Word), s.mailboxOpen ld.val = true →
    s.fullHost ld.val = true → s.mgmt.mb = none → exec (.regAccess ld off wr) s = .next (((s.heard ld.val).onMgmt (fun g => { g with
      mb := some (ld, ({ m := .host ld, off := off.toNat / 4 * 4, wr := wr } : HeldAccess).job) })).runMb)) ∧
  (∀ (s : State) (ld : Fin 64) (slot : BitVec 2) (last online : Bool) (img : FwImage) (ix : BitVec 16) (off : BitVec 28)
    (wr : Option Word), s.mailboxOpen ld.val = true → s.fullHost ld.val = false →
    let denied := fun (op : Nat) => (s.heard ld.val).emit (.mbRsp ld.val op 3 [])
    exec (.mbTransferFw ld slot last img) s = .next (denied 0x0201) ∧
    exec (.mbActivateFw ld slot online) s = .next (denied 0x0202) ∧
    exec (.deviceLogRead ld ix) s = .next (denied 0xC002) ∧ exec (.regAccess ld off wr) s = .next (denied 0xC003)) ∧
  (∀ (s : State) (ld : Fin 64) (opcode : BitVec 16), s.mailboxOpen ld.val = true →
    exec (.mbUnsupportedOpcode ld opcode) s = .next ((s.heard ld.val).emit (.mbRsp ld.val opcode.toNat 3 []))) ∧
  (∀ (s : State) (ld : Fin 64) (ts : BitVec 64) (back : Bool), s.coreServes = true → (s.ioLink ld.val).isSome = true →
    s.mgmt.switching = some back → exec (.mbSetTimestamp ld ts) s = .next ((s.heard ld.val).onMgmt (fun g => { g with
      heldMsgs := g.heldMsgs ++ [.mbSetTimestamp ld ts] })))

/-- R428, R454, R470-R473, R475, R479, R569: I3C_DAA, SMBUS_ARA, IBI_ACCEPTED, IMG_BEGIN, IMG_DATA, IMG_END, MCTP_MESSAGE
and TAP_INSTRUCTION. MCTP bodies that the spec leaves open are free values. Where a clause meets a point that the spec
leaves open, it follows the model's choice, named in the assumption log (rows 1, 6, 18, 91, 97 and 102). -/
def Obligations.SidebandMctpAndTap : Prop :=
  (∀ (s : State), s.boot.aux = true → exec .i3cDaa s = .next (s.onMgmt (fun g => { g with i3c := true }))) ∧
  (∀ (s : State), s.boot.aux = true → s.mgmt.i3c = false →
    exec .smbusAra s = .next (s.withEvt { s.evt with alert := false })) ∧
  (∀ (s : State), s.boot.aux = true → s.mgmt.i3c = true →
    exec .ibiAccepted s = .next (s.withEvt { s.evt with ibi := [], alert := false })) ∧
  (∀ (s : State) (len : Nat), s.boot.aux = true → s.mgmt.transfer = false → s.mgmt.img = none →
    s.bootFailed = true ∨ s.mgmt.fwu = .idle →
    (516 ≤ len → len ≤ 1573376 → len % 4 = 0 →
      exec (.imgBegin len) s = .next ((s.onMgmt (fun g => { g with img := some (len, 0) })).emit (.sbRsp 0x10 0 []))) ∧
    (len < 516 ∨ 1573376 < len ∨ len % 4 ≠ 0 → exec (.imgBegin len) s = .next (s.emit (.sbRsp 0x10 4 [])))) ∧
  (∀ (s : State) (off len got : Nat) (words : List Word), s.boot.aux = true → s.mgmt.img = some (len, got) →
    (0 < words.length → words.length ≤ 15 → off % 4 = 0 → off + 4 * words.length ≤ len →
      Completes (.imgData off words) s (fun t => t.mgmt.img = some (len, max got (off + 4 * words.length)) ∧
        t.out = .sbRsp 0x11 0 [] :: s.out)) ∧
    (words.length = 0 ∨ 15 < words.length ∨ off % 4 ≠ 0 ∨ len < off + 4 * words.length →
      exec (.imgData off words) s = .next (s.emit (.sbRsp 0x11 4 [])))) ∧
  (∀ (s : State) (off : Nat) (words : List Word) (img : FwImage), s.boot.aux = true → s.mgmt.img = none →
    exec (.imgData off words) s = .next (s.emit (.sbRsp 0x11 1 [])) ∧
    exec (.imgEnd img) s = .next (s.emit (.sbRsp 0x12 1 []))) ∧
  (∀ (s : State) (len got : Nat) (img : FwImage), s.boot.aux = true → s.mgmt.img = some (len, got) →
    (got ≠ len ∨ len ≠ 512 + img.body.length → Completes (.imgEnd img) s (fun t => t.mgmt.img = none ∧
      t.out = .sbRsp 0x12 4 [] :: s.out)) ∧
    (got = len → len = 512 + img.body.length → s.verifies' img = false → Completes (.imgEnd img) s (fun t =>
      t.mgmt.img = none ∧ t.out = .sbRsp 0x12 6 [] :: s.out ∧ t.boot = s.boot)) ∧
    (got = len → len = 512 + img.body.length → s.verifies' img = true → s.bootFailed = false →
      Completes (.imgEnd img) s (fun t => t.mgmt.img = none ∧ t.mgmt.fwu = .staged ∧ t.out = .sbRsp 0x12 0 [] :: s.out ∧
        t.slotImage (!s.boot.imageB) = some img)) ∧
    (got = len → len = 512 + img.body.length → s.verifies' img = true → s.bootFailed = true →
      exec (.imgEnd img) s = .next (((((s.onMgmt (fun g => { g with img := none })).startCore0 false img).onBoot (fun t => { t with
        st := 1, step := 3 })).emit (.sbRsp 0x12 0 [])).bootStart))) ∧
  (∀ (s : State) (msg : MctpMsg), s.boot.aux = true → s.coreServes = true → s.mgmt.switching = none →
    exec (.mctpMessage msg) s = .next (s.mctpServed msg)) ∧
  (∀ (s : State), s.boot.aux = true →
    (s.coreServes = false ∨ s.mgmt.switching = none →
      exec (.mctpMessage .getMessageTypeSupport) s = .next (s.emit (.mctp 0 [0x07, 0x08, 0x7E]))) ∧
    (s.coreServes = false → ∀ op ext d mask gen, exec (.mctpMessage (.fmApi op ext d mask gen)) s = .next (s.emit (.mctp 4 [])))) ∧
  (∀ (s : State), exec (.tapInstruction .idcode) s = .next (s.emit (.tap .idcode 0x14816B47)) ∧
    exec (.tapInstruction .bypass) s = .next (s.emit (.tap .bypass 0)) ∧
    exec (.tapInstruction .sample) s = .next ((s.emit (.tap .sample (Config.tapSample s.free))).takeFree)) ∧
  (∀ (s : State) (op : TapOp), op = .extest ∨ op = .clamp →
    exec (.tapInstruction op) s = .next (s.emit (.tap (if (upTo 4).all (fun g => (s.grp g).busy) && (s.boot.st == 0 || s.boot.st == 6)
      then op else .bypass) 0)))

/-- R411-R420, R422, R438: VIN_OVERVOLTAGE, VIN_UNDERVOLTAGE, VIN_WINDOW_ENTRY, INSERTION_DELAY_END, RAMP_END,
START_TIMEOUT, CURRENT_LIMIT_ENTRY, BREAKER_EXPIRY, FAST_TRIP, FET_MODEL_TICK, NTC_INVALID, NTC_RECOVER,
DAMAGED_TRANSISTOR, RETRY_WAIT_END and COOL_WAIT_END. Where a clause meets a point that the spec leaves open, it
follows the model's choice, named in the assumption log (rows 1, 18, 89, 145 and 171). -/
def Obligations.PowerPathInputAndTrips : Prop :=
  (∀ (s : State) (mV : Nat), s.boot.aux = true → s.ovMv < mV →
    (s.hsc.gateUp = false → exec (.vinOvervoltage mV) s = .next (s.onHsc (fun h => { h with vin := mV, vinOk := false }))) ∧
    (s.hsc.gateUp = true → Completes (.vinOvervoltage mV) s (fun t => t.hsc.st = .insDelay ∧ t.hsc.vinOk = false ∧
      t.hsc.vin = mV ∧ t.hsc.gateOff = s.now))) ∧
  (∀ (s : State) (mV : Nat), s.boot.aux = true → mV < s.uvMv →
    (s.hsc.gateUp = false → exec (.vinUndervoltage mV) s = .next (s.onHsc (fun h => { h with vin := mV, vinOk := false }))) ∧
    (s.hsc.gateUp = true → Completes (.vinUndervoltage mV) s (fun t => t.hsc.st = .insDelay ∧ t.hsc.vinOk = false ∧
      t.hsc.vin = mV ∧ t.hsc.gateOff = s.now))) ∧
  (∀ (s : State) (mV : Nat), s.boot.aux = true → s.hsc.vinOk = false → s.uvMv + 200 ≤ mV → mV + 200 ≤ s.ovMv →
    exec (.vinWindowEntry mV) s = .next (s.onHsc (fun h => { h with vin := mV, vinOk := true, vinSince := s.now }))) ∧
  (∀ (s : State), s.hsc.st = .insDelay → s.hsc.vinOk = true → Completes .insertionDelayEnd s (fun t => t.hsc.st = .ramp ∧
    t.now = s.instant (max s.hsc.vinSince s.hsc.insFrom + s.insDelay) ∧ t.hsc.rampAt = t.now ∧ t.hsc.gateOn = t.now ∧
    t.hsc.inLimit = 0 ∧ t.hsc.limit = none)) ∧
  (∀ (s : State) (vinMv voutMv : Nat), s.hsc.st = .ramp → vinMv ≤ voutMv + 300 →
    exec (.rampEnd vinMv voutMv) s = .next (s.onHsc (fun h => { h with st := .on, vin := vinMv, vout := voutMv }))) ∧
  (∀ (s : State), s.hsc.st = .ramp → Completes .startTimeout s (fun t => t.hsc.cause = 4 ∧
    t.now = s.instant (s.hsc.rampAt + s.rampLimit) ∧ t.now + sec 2 ≤ t.hsc.waitEnd ∧
    t.hsc.st = if s.cfgBit hscPage 0x80 27 = false ∨ s.hsc.retries = 15 then .latched else .retryWait)) ∧
  (∀ (s : State), s.hsc.gateUp = true → s.hsc.limit = none →
    Completes .currentLimitEntry s (fun t => t.hsc = { s.hsc with limit := some s.now, pgTicks := 0 })) ∧
  (∀ (s : State), s.hsc.gateUp = false → exec .currentLimitEntry s = .next s) ∧
  (∀ (s : State) (t0 : Nat), s.hsc.limit = some t0 → s.hsc.gateUp = true → Completes .breakerExpiry s (fun t =>
    t.hsc.cause = 1 ∧ t.now = s.instant (t0 + (s.brkTime - s.hsc.breaker)) ∧ t.hsc.gateOff = t.now ∧
    t.now + sec 2 ≤ t.hsc.waitEnd ∧
    t.hsc.st = if s.cfgBit hscPage 0x80 27 = false ∨ s.hsc.retries = 15 then .latched else .retryWait)) ∧
  (∀ (s : State), s.hsc.gateUp = true → Completes .fastTrip s (fun t => t.hsc.cause = 2 ∧ t.hsc.gateOff = s.now ∧
    s.now + sec 2 ≤ t.hsc.waitEnd ∧
    t.hsc.retries = (if s.cfgBit hscPage 0x80 27 = false ∨ s.hsc.retries = 15 then s.hsc.retries else s.hsc.retries + 1) ∧
    t.hsc.st = if s.cfgBit hscPage 0x80 27 = false ∨ s.hsc.retries = 15 then .latched else .retryWait)) ∧
  (∀ (s : State) (vinMv voutMv iMa : Nat) (ntc : Option Int) (dieC : Int), s.boot.aux = true →
    Completes (.fetModelTick vinMv voutMv iMa ntc dieC) s (fun t =>
      let p : Rat := (((vinMv : Int) - (voutMv : Int) : Int) : Rat) * (iMa : Rat) /
        (1000000 * ((s.cfg fetPage 0x80 0 2 + 1 : Nat) : Rat))
      let tamb : Rat := max s.tAmb (dieC : Rat)
      let model := fetStep s.free (if s.hsc.modelled then s.hsc.tc else tamb) (tamb + p * ((s.cfg fetPage 0x84 8 8 : Rat) / 10))
        (10000 * s.cfg fetPage 0x84 24 8)
      t.now = s.instant (s.hsc.fetAt + us 10) ∧ t.hsc.vin = vinMv ∧ t.hsc.vout = voutMv ∧
      t.hsc.tc = (match ntc with
        | some x => if s.cfgBit fetPage 0x80 2 && !s.hsc.ntcFault then (x : Rat) else model
        | none => model) ∧
      t.hsc.tj = fetStep (s.free + 1) (if s.hsc.modelled then s.hsc.tj else tamb) (t.hsc.tc + p * ((s.cfg fetPage 0x84 0 8 : Rat) / 100))
        (10 * s.cfg fetPage 0x84 16 8) ∧
      t.hsc.tpeak = max (if s.hsc.modelled then s.hsc.tpeak else tamb) t.hsc.tj ∧
      (s.hsc.gateUp = true → s.tMax ≤ t.hsc.tj → t.hsc.cause = 3))) ∧
  (∀ (s : State) (n k : Nat) (x target : Rat), k ≠ 0 → fetStep n x target k = x + (target - x) / k) ∧
  (∀ (s : State), s.boot.aux = true → s.cfgBit fetPage 0x80 2 = true → Completes .ntcInvalid s (fun t =>
    t.hsc = { s.hsc with ntcFault := true, ntcAt := s.now })) ∧
  (∀ (s : State) (degC : Int), s.hsc.ntcFault = true → Completes (.ntcRecover degC) s (fun t =>
    t.now = s.instant (s.hsc.ntcAt + sec 1) ∧ t.hsc = { s.hsc with ntcFault := false, tc := (degC : Rat) })) ∧
  (∀ (s : State), s.boot.aux = true → s.hsc.gateUp = false → s.hsc.disc = false → Completes .damagedTransistor s (fun t =>
    t.hsc = { s.hsc with st := .short, disc := true, cause := 5 } ∧ t.now = s.instant (s.hsc.gateOff + ms 50))) ∧
  (∀ (s : State), s.hsc.st = .retryWait → s.hsc.vinOk = true → s.cooled s.hsc.cause = true →
    Completes .retryWaitEnd s (fun t => t.hsc.st = .ramp ∧ t.now = s.instant s.hsc.waitEnd ∧ t.hsc.rampAt = t.now)) ∧
  (∀ (s : State), s.hsc.st = .coolWait → s.cooled (fieldOf s.tripRec 10 3) = true →
    Completes .coolWaitEnd s (fun t => t.now = s.instant s.hsc.waitEnd ∧
      t.hsc = { s.hsc with st := .insDelay, insFrom := t.now }))

/-- R418-R425, R441: HSC_START, HSC_STOP, HSC_CLEAR_LATCH, HSC_CLR_SHORT, PG_TICK and PG_OUT_LEVEL_AGE. Where a clause
meets a point that the spec leaves open, it follows the model's choice, named in the assumption log (rows 1, 25 and
89). -/
def Obligations.PowerPathCommandsAndPowerGood : Prop :=
  (∀ (s : State) (m : Master), s.accepts m hscCmd = true →
    exec (.hscStart m) s = .next (((s.written m hscCmd 1).hscOp 1 s.hsc.vout).finish m) ∧
    exec (.hscStop m) s = .next (((s.written m hscCmd 2).hscOp 2 s.hsc.vout).finish m) ∧
    exec (.hscClearLatch m) s = .next (((s.written m hscCmd 3).hscOp 3 s.hsc.vout).finish m)) ∧
  (∀ (s : State) (m : Master) (v : Nat), s.accepts m hscCmd = true →
    exec (.hscClrShort m v) s = .next (((s.written m hscCmd 4).hscOp 4 v).finish m)) ∧
  (∀ (s : State) (v : Nat), s.hsc.st = .idle → (s.hscOp 1 v).hsc.result = 0 ∧ (s.hscOp 1 v).hsc.st =
    if fieldOf s.tripRec 9 1 = 1 then .short
    else if s.hsc.refused then .coolWait
    else if fieldOf s.tripRec 8 1 = 1 then .coolWait else .insDelay) ∧
  (∀ (s : State) (v : Nat), s.hsc.st = .idle → fieldOf s.tripRec 9 1 = 0 → s.hsc.refused = false → fieldOf s.tripRec 8 1 = 1 →
    (s.hscOp 1 v).hsc.waitEnd = ms 500 * fieldOf s.tripRec 0 8) ∧
  (∀ (s : State) (v : Nat), s.hsc.st = .stopped → s.hscOp 1 v = s.onHsc (fun h => { h with st := .insDelay, result := 0 })) ∧
  (∀ (s : State) (v : Nat), s.hsc.gateUp = true ∨ s.hsc.st = .insDelay ∨ s.hsc.st = .retryWait →
    (s.hscOp 2 v).hsc.st = .stopped ∧ (s.hscOp 2 v).hsc.result = 0 ∧ (s.hscOp 2 v).hsc.limit = none) ∧
  (∀ (s : State) (v : Nat), s.hsc.st = .latched →
    s.hscOp 3 v = s.onHsc (fun h => { h with st := .retryWait, retries := 0, result := 0 })) ∧
  (∀ (s : State) (v : Nat), s.hsc.st = .short → v < 1000 → (s.hscOp 4 v).hsc.st = .idle ∧ (s.hscOp 4 v).hsc.disc = false ∧
    (s.hscOp 4 v).hsc.result = 0 ∧ (s.hscOp 4 v).hsc.vout = v) ∧
  (∀ (s : State) (v : Nat), (s.hsc.st ≠ .idle → s.hsc.st ≠ .stopped → s.hscOp 1 v = s.hscResult 2) ∧
    (s.hsc.st ≠ .latched → s.hscOp 3 v = s.hscResult 2) ∧
    (s.hsc.st ≠ .short ∨ 1000 ≤ v → (s.hscOp 4 v).hsc = { s.hsc with vout := v, result := 2 })) ∧
  (∀ (s : State) (voutMv gateMv : Nat), s.hsc.st = .on → s.hsc.pg = true →
    (s.pgStep voutMv gateMv false).hsc.pg = decide (s.hsc.gateOff < s.hsc.tickAt ∧ 10500 ≤ voutMv)) ∧
  (∀ (s : State) (voutMv gateMv : Nat), s.hsc.st = .on → s.hsc.pg = false → s.hsc.limit = none →
    (s.pgStep voutMv gateMv false).hsc.pg =
      decide (11000 ≤ voutMv ∧ voutMv + 8000 ≤ gateMv ∧ 5000 ≤ min 5000 (s.hsc.pgTicks + 1))) ∧
  (∀ (s : State) (voutMv gateMv : Nat) (inLimit : Bool), s.boot.aux = true →
    exec (.pgTick voutMv gateMv inLimit) s = .next ((s.pgStep voutMv gateMv inLimit).pgChanged s.hsc.pg) ∧
    ((s.pgStep voutMv gateMv inLimit).hsc.pg = s.hsc.pg → Completes (.pgTick voutMv gateMv inLimit) s (fun t =>
      t.now = s.instant (s.hsc.tickAt + us 1) ∧ t.hsc.vout = voutMv ∧ t.hsc.tickAt = t.now ∧ t.boot = s.boot))) ∧
  (∀ (s : State) (t0 : Nat), s.hsc.pgOutAt = some t0 → Completes .pgOutLevelAge s (fun t => t.hsc.pgOut = s.hsc.pg ∧
    t.now = s.instant (t0 + ms 5) ∧ (s.hsc.pg ≠ s.hsc.pgOut → t.hsc.pgOutAt = some t.now)))

/-- R303, R410, R426, R427, R430-R436, R443: AUX_RESET, AUX_LOSS, RAIL_ENABLE, RAIL_GOOD, RAIL_TIMEOUT, RAIL_FALLEN,
RAIL_RETRY, HRDY_DEADLINE, RST_WARM, RST_COLD, RST_ENTER_AUX_ONLY, RST_LEAVE_AUX_ONLY and RST_CHIPLET_RECOVERY. Where
a clause meets a point that the spec leaves open, it follows the model's choice, named in the assumption log (rows 1,
4, 91, 116, 142, 145 and 171). -/
def Obligations.StartUpRailsAndResets : Prop :=
  (∀ (s : State) (b : Board), Completes (.auxReset .auxRise b) s (fun t => t.now = 0 ∧ t.boot.board = b ∧ t.boot.aux = true ∧
    t.amap = {} ∧ t.mem.pages = [] ∧ t.home = {} ∧ t.ddr = [] ∧ t.tier = {} ∧ t.dm = [] ∧ t.dunas = [] ∧ t.boot.main = false ∧
    t.boot.kind = 0)) ∧
  (∀ (s : State) (b : Board), s.boot.aux = true → Completes (.auxReset .resetPin b) s (fun t => t.now = s.now ∧
    t.boot.board = b ∧ t.amap = {} ∧ t.mem.pages = [] ∧ t.ddr = [] ∧ t.dm = [] ∧ t.dunas = [] ∧ t.boot.main = false ∧
    t.boot.kind = 1)) ∧
  (∀ (s : State), s.boot.aux = true → Completes .auxLoss s (fun t => t.boot = { board := s.boot.board, aux := false } ∧
    t.hsc.st = .idle ∧ t.hsc.pgOut = false ∧ t.core = {} ∧ t.mgmt = {} ∧ t.clk = {} ∧ t.amap = {} ∧ t.mem.pages = [] ∧
    t.home = {} ∧ t.ddr = [] ∧ t.tier = {} ∧ t.dm = [] ∧ t.dunas = [] ∧ t.ret.queue = [])) ∧
  (∀ (s : State) (k : Fin 7), s.sequencing k.val = true → s.railAddr k.val ≠ 0 → s.boot.railOn.contains k.val = false →
    Completes (.railEnable k) s (fun t => t.now = s.instant (s.boot.railAt + s.railDelay k.val) ∧
      Msg.pmbus k.val (s.railAddr k.val) (s.railPage k.val) 1 0 ∈ t.out ∧
      (k.val = 1 → Msg.pmbus 1 (s.railAddr 1) (s.railPage 1) 2 (max 650 (min 850 Config.fusedCore)) ∈ t.out) ∧
      t.boot = { s.boot with
        railOn := s.boot.railOn ++ [k.val], vset := if k.val = 1 then max 650 (min 850 Config.fusedCore) else s.boot.vset,
        vsetAt := if k.val = 1 then t.now else s.boot.vsetAt })) ∧
  (∀ (s : State) (k : Fin 7), s.sequencing k.val = true → s.railAddr k.val = 0 ∨ s.boot.railOn.contains k.val = true →
    Completes (.railGood k) s (fun t => t.boot.railGood = s.boot.railGood ++ [k.val] ∧
      t.now = s.instant (s.boot.railAt + us 100) ∧ t.boot.railAt = t.now ∧
      t.boot.main = s.rails.all (fun j => j == k.val || s.boot.railGood.contains j) ∧
      t.boot.step = if t.boot.main then 7 else 6)) ∧
  (∀ (s : State) (k : Fin 7), s.sequencing k.val = true →
    exec (.railTimeout k) s = .next ((s.reach (s.boot.railAt + s.railDelay k.val + ms 10)).railFail k.val)) ∧
  (∀ (s : State) (k : Fin 7), s.boot.railDown = [k.val] →
    exec (.railFallen k) s = .next (s.onBoot (fun b => { b with railDown := [] })).railsFallen) ∧
  (∀ (s : State) (k : Fin 7) (j : Nat) (r : List Nat), s.boot.railDown = k.val :: j :: r →
    Completes (.railFallen k) s (fun t => t.boot = { s.boot with railDown := j :: r } ∧ t.out = .pmbus j (s.railAddr j) (s.railPage j) 0 0 :: s.out)) ∧
  (∀ (s : State) (t0 : Nat), s.boot.railsOffAt = some t0 → Completes .railRetry s (fun t => t.now = s.instant (t0 + sec 1) ∧
    t.boot.railsOffAt = none)) ∧
  (∀ (s : State), s.boot.trained = true → s.boot.released = false → s.boot.st ≠ 4 → Completes .hrdyDeadline s (fun t =>
    t.boot.cfg = none ∧ t.now = s.instant (s.boot.pgAt + if s.boot.cfg.isSome then sec 4 else ms 3900) ∧
    (∀ c < 16, (s.chan c).st = .training ∨ (s.chan c).st = .discovering → (t.chan c).late = true))) ∧
  (∀ (s : State) (m : Master), s.accepts m rstCtrl = true →
    let after := fun (op : Nat) => ((s.written m rstCtrl (s.rmw rstCtrl [(0, 3, op)])).rstWrite m op 0).finish m
    exec (.rstWarm m) s = .next (after 1) ∧ exec (.rstCold m) s = .next (after 2) ∧
    exec (.rstEnterAuxOnly m) s = .next (after 3) ∧ exec (.rstLeaveAuxOnly m) s = .next (after 4)) ∧
  (∀ (s : State) (m : Master) (slot : BitVec 4), s.accepts m rstCtrl = true → exec (.rstChipletRecovery m slot) s =
    .next (((s.written m rstCtrl (wordOf [(0, 5), (3, slot.toNat)])).rstWrite m 5 slot.toNat).finish m)) ∧
  (∀ (s : State) (m : Master) (op slot : Nat), 1 ≤ op → op ≤ 5 → op ≠ 4 → s.boot.st ≠ 3 ∨ s.boot.entering = true →
    s.rstWrite m op slot = s.rstResult 2) ∧
  (∀ (s : State) (m : Master), s.boot.st = 3 → s.boot.entering = false →
    (s.rstWrite m 1 0).boot.st = 4 ∧ (s.rstWrite m 1 0).boot.kind = 3 ∧ (s.rstWrite m 1 0).boot.src = srcOf m ∧
    (s.rstWrite m 1 0).dm = [] ∧
    (s.rstWrite m 2 0).boot.st = 5 ∧ (s.rstWrite m 2 0).boot.kind = 2 ∧ (s.rstWrite m 2 0).boot.src = srcOf m ∧
    (s.rstWrite m 2 0).mem.pages = [] ∧ (s.rstWrite m 2 0).amap = {} ∧ (s.rstWrite m 2 0).dm = [] ∧
    (s.rstWrite m 3 0).boot.main = false ∧ (s.rstWrite m 3 0).boot.result = 0) ∧
  (∀ (s : State) (m : Master), s.boot.st = 0 → s.boot.entering = false → (s.rstWrite m 4 0).boot.kind = 4 ∧
    (s.rstWrite m 4 0).boot.src = srcOf m ∧ (s.rstWrite m 4 0).amap = {}) ∧
  (∀ (s : State) (m : Master), s.boot.entering = true → (s.rstWrite m 4 0).boot =
    { s.boot with result := 0, leaveReq := true, src := srcOf m }) ∧
  (∀ (s : State) (m : Master), s.boot.st ≠ 0 → s.boot.entering = false → s.rstWrite m 4 0 = s.rstResult 2) ∧
  (∀ (s : State) (m : Master) (slot : Nat), s.boot.st = 3 → s.boot.entering = false →
    s.rstWrite m 5 slot = if resettable slot then (s.rstResult 0).recoveryReset slot else s.rstResult 5)

/-- R383, R387-R392: XTAL_QUALIFY, XTAL_QUALIFY_TIMEOUT, XTAL_RETRY, CLOCK_MONITOR_FLAG, SLOW_OSC_CHECK, REF_EDGE_LOSS,
LOOP_RELOCK, LOOP_LOCK_LOSS, REF_SWITCH, CLK_SWAP, REF_REVERT, LOCK_LOSS_TIMEOUT, FAST_OSC_DISCIPLINE and
ROOT_LOOP_LOCK. Where a clause meets a point that the spec leaves open, it follows the model's choice, named in the
assumption log (rows 1, 18, 84, 166 and 168). -/
def Obligations.CrystalsRefAndLoops : Prop :=
  (∀ (s : State) (x : Fin 2), s.boot.aux = true → s.fitted (x.val == 1) = true → (s.xtal (x.val == 1)).ok = false →
    Completes (.xtalQualify x) s (fun t => t.now = s.instant ((s.xtal (x.val == 1)).from_ + s.qualifyTime) ∧
    s.qualifyTime = (if s.clk.slowBad then us 128 else us 122) ∧
    t.xtal (x.val == 1) = { s.xtal (x.val == 1) with ok := true, since := some t.now } ∧ t.xtal (x.val != 1) = s.xtal (x.val != 1) ∧
    t.clk.refOn = (s.clk.refOn || s.prefB == (x.val == 1)) ∧
    t.clk.refB = if s.clk.refOn = false ∧ s.prefB = (x.val == 1) then s.prefB else s.clk.refB)) ∧
  (∀ (s : State), s.boot.board.xtalB = false → exec (.xtalQualify 1) s = .next s) ∧
  (∀ (s : State), s.boot.aux = true → s.clk.refOn = false →
    Completes .xtalQualifyTimeout s (fun t => t.now = s.instant (s.boot.auxAt + ms 20) ∧
      (if (s.xtal s.prefB).ok then t.clk = { s.clk with refOn := true, refB := s.prefB }
       else if (s.xtal (!s.prefB)).ok then t.clk = { s.clk with refOn := true, refB := !s.prefB }
       else t.clk = s.clk ∧ (s.boot.st ≠ 0 → t.evt.pend.getLsbD 16 = true))) ∧
    Completes .xtalRetry s (fun t =>
      t.now = s.instant (s.boot.auxAt + ms 20 + sec ((s.now - (s.boot.auxAt + ms 20)) / sec 1 + 1)) ∧
      (if (s.xtal s.prefB).ok then t.clk = { s.clk with refOn := true, refB := s.prefB }
       else if (s.xtal (!s.prefB)).ok then t.clk = { s.clk with refOn := true, refB := !s.prefB }
       else t.clk = s.clk ∧ (s.boot.st ≠ 0 → t.evt.pend.getLsbD 16 = true)))) ∧
  (∀ (s : State) (x : Fin 2), s.clk.refOn = true → s.clk.refB = (x.val == 1) → (s.xtal s.clk.refB).ok = true →
    Completes (.clockMonitorFlag (.xtal x)) s (fun t => t.clk.mon.getLsbD x.val = true ∧
      t.xtal s.clk.refB = { ok := false, since := none, from_ := s.now } ∧ t.clk.disc = false ∧
      ∀ n < 36, (s.loop n).locked = true → (t.loop n).coast = true)) ∧
  (∀ (s : State) (c : Fin 16) (m : Fin 19) (g : Fin 4),
    exec (.clockMonitorFlag .root) s = .next (s.coast 0 (if s.refGood then some s.now else none)) ∧
    ((s.chan c.val).fctlBusy = true → exec (.clockMonitorFlag (.channel c)) s = .next s) ∧
    ((s.chan c.val).fctlBusy = false → exec (.clockMonitorFlag (.channel c)) s =
      .next (s.coast (1 + c.val) (if s.refGood then some s.now else none))) ∧
    exec (.clockMonitorFlag (.module m)) s = .next (s.coast (17 + m.val) (if s.refGood then some s.now else none)) ∧
    exec (.clockMonitorFlag (.refclk g)) s = exec (.refclkLoss g) s ∧
    exec (.clockMonitorFlag .fastOsc) s = .next (s.withClk { s.clk with mon := s.clk.mon ||| 0x400 })) ∧
  (∀ (s : State), s.boot.aux = true →
    Completes (.slowOscCheck false) s (fun t => t.now = s.instant (s.clk.slowAt + ms 1) ∧
      t.clk = { s.clk with slowAt := t.now, slowBad := false } ∧ t.evt = s.evt) ∧
    Completes (.slowOscCheck true) s (fun t => t.now = s.instant (s.clk.slowAt + ms 1) ∧
      t.clk = { s.clk with slowAt := t.now, slowBad := true, mon := s.clk.mon ||| 0x200 } ∧
      (s.boot.st ≠ 0 → t.evt.pend.getLsbD 20 = true))) ∧
  (∀ (s : State) (n : Fin 40), exec (.refEdgeLoss n) s = .next (s.coast n.val none) ∧
    (s.refGood = true ∨ 36 ≤ n.val → exec (.loopLockLoss n) s = .next (s.coast n.val (some s.now))) ∧
    (s.refGood = false → n.val < 36 → exec (.loopLockLoss n) s = .next s)) ∧
  (∀ (s : State) (n : Nat) (lost : Option Nat), (s.loop n).locked = true → (s.loop n).coast = false →
    (s.coast n lost).loop n = { locked := true, coast := true, lostAt := lost, slewAt := s.now, from_ := s.loopPpm n } ∧
    (∀ k < 40, k ≠ n → (s.coast n lost).loop k = s.loop k) ∧
    (s.boot.st ≠ 0 → (s.coast n lost).evt.pend.getLsbD 18 = true) ∧
    (s.coast n lost).clk.mon = if n = 0 then s.clk.mon ||| 4 else if n < 17 then s.clk.mon ||| 8
      else if n < 36 then s.clk.mon ||| 16 else s.clk.mon) ∧
  (∀ (s : State) (n : Fin 40), (s.loop n.val).coast = true → s.refGood = true ∨ 36 ≤ n.val →
    Completes (.loopRelock n) s (fun t => (t.loop n.val).coast = false ∧
      (t.loop n.val).lostAt = none ∧ (t.loop n.val).slewAt = s.now ∧ (t.loop n.val).locked =
        ((s.loop n.val).locked || (decide (36 ≤ n.val) && decide (8 ≤ s.boot.step))) ∧
      (s.boot.st ≠ 0 → t.evt.pend.getLsbD 19 = true) ∧ t.clk.mon = s.clk.mon)) ∧
  (∀ (s : State), s.clk.refOn = true → s.cfgBit clkPage 0x80 1 = true → (s.xtal (!s.clk.refB)).ok = true →
    Completes .refSwitch s (fun t => t.clk.refB = !s.clk.refB ∧ (t.xtal s.clk.refB).ok = false ∧
      (s.boot.st ≠ 0 → t.evt.pend.getLsbD 17 = true) ∧
      ∀ n < 36, (s.loop n).locked = true → (t.loop n).coast = true)) ∧
  (∀ (s : State) (m : Master), s.accepts m clkCfg = true → exec (.clkSwap m) s =
    .next (((s.written m clkCfg (s.rmw clkCfg [(3, 1, 1)])).swapRef).finish m)) ∧
  (∀ (s : State), s.clk.refOn = true → (s.xtal (!s.clk.refB)).ok = true → s.swapRef.clk.refB = (!s.clk.refB) ∧
    s.swapRef.clk.xa = s.clk.xa ∧ s.swapRef.clk.xb = s.clk.xb) ∧
  (∀ (s : State), s.clk.refOn = false ∨ (s.xtal (!s.clk.refB)).ok = false → s.swapRef = s) ∧
  (∀ (s : State) (t0 : Nat), (s.xtal s.prefB).since = some t0 → s.clk.refOn = true → s.cfgBit clkPage 0x80 2 = true →
    s.clk.refB ≠ s.prefB → Completes .refRevert s (fun t => t.clk.refB = s.prefB ∧ t.now = s.instant (t0 + sec 10))) ∧
  (∀ (s : State) (n : Fin 40) (t0 : Nat), (s.loop n.val).lostAt = some t0 →
    let u := fun (d : Nat) => (s.reach (t0 + d)).onLoop n.val (fun l => { l with lostAt := none })
    exec (.lockLossTimeout n) s =
      if n.val = 0 then .next ((u (ms 1)).faultP 0x0181 5 0)
      else if n.val < 17 then .next ((u (us 200)).faultP (chanPage (n.val - 1) 63) 3 0)
      else if n.val < 36 then .next ((u (us 50)).fabricOp (n.val - 17) (fun s => s.enterLreset (n.val - 17) 7))
      else .next ((u (us 100)).groupLost (n.val - 36))) ∧
  (∀ (s : State), s.refGood = true → exec .fastOscDiscipline s = .next (s.withClk { s.clk with disc := true })) ∧
  (∀ (s : State), s.refGood = false → exec .fastOscDiscipline s = .next s) ∧
  (∀ (s : State), s.boot.step = 7 → s.boot.main = true → s.refGood = true →
    exec .rootLoopLock s = .next s.rootLocked.afterFabric ∧ s.rootLocked.boot = { s.boot with step := 8 } ∧
    s.rootLocked.clk.onAux = [] ∧ (∀ n < 36, s.rootLocked.loop n = { locked := true }) ∧
    ∀ n < 40, 36 ≤ n → s.rootLocked.loop n = { locked := s.refThere n })

/-- R393-R401: CLOCK_GATE_STOP, CLOCK_GATE_START, DSEL_CHANGE, SUBDOMAIN_POWER_DOWN and PHY_QUAD_WAKE. Where a clause
meets a point that the spec leaves open, it follows the model's choice, named in the assumption log (rows 1, 85, 86,
144 and 169). -/
def Obligations.GatingSourcesAndSubdomains : Prop :=
  (∀ (s : State) (d : Fin 384), d.val ∉ [370, 371, 380, 381] → s.boot.main = true ∨ (366 ≤ d.val ∧ d.val ≠ 379) →
    s.clk.down.getLsbD d.val = false → s.domWork d.val = false → 0 < s.khzOf (s.gateClock d.val) →
    Completes (.clockGateStop d) s (fun t =>
      t.clk = { s.clk with gated := s.clk.gated ||| BitVec.ofNat 384 (2 ^ d.val) } ∧ t.clk.gated.getLsbD d.val = true ∧
      t.now = s.instant (s.now + ceilDiv 16000000 (s.khzOf (s.gateClock d.val))))) ∧
  (∀ (s : State) (d : Fin 384), d.val ∈ [370, 371, 380, 381] ∨ s.clk.down.getLsbD d.val = true ∨ s.domWork d.val = true ∨
      (s.boot.main = false ∧ (d.val < 366 ∨ d.val = 379)) ∨ s.khzOf (s.gateClock d.val) = 0 →
    exec (.clockGateStop d) s = .next s) ∧
  (∀ (s : State) (d : Fin 384), s.clk.gated.getLsbD d.val = true → Completes (.clockGateStart d) s (fun t =>
    t.clk = { s.clk with gated := s.clk.gated &&& ~~~(BitVec.ofNat 384 (2 ^ d.val)) } ∧
    t.clk.gated.getLsbD d.val = false)) ∧
  (∀ (s : State) (m : Master) (d : BitVec 9) (src : BitVec 2), s.accepts m dselOff = true →
    exec (.dselChange m d src) s =
      .next (((s.written m dselOff (wordOf [(0, d.toNat), (9, src.toNat)])).dsel d.toNat src.toNat).finish m)) ∧
  (∀ (s : State) (d src : Nat), (366 ≤ d ∧ d ≤ 369) ∨ (372 ≤ d ∧ d ≤ 378) → src = 1 ∨ src = 2 →
    if (s.loop 0).locked = true ∧ (s.loop 0).coast = false then
      if s.dselBusy d = true then (s.dsel d src).clk = { s.clk with dselResult := 3 }
      else (s.dsel d src).clk.dselResult = 0 ∧ (s.dsel d src).clk.onAux.contains d = (src == 2) ∧
        (∀ e ∈ s.clk.onAux, e ≠ d → e ∈ (s.dsel d src).clk.onAux) ∧ (s.clk.onAux.contains d ≠ (src == 2) →
          (s.dsel d src).clk.dselEnd = some (d, if s.gatedNow d then s.now else s.now +
            ceilDiv 3000000 (max 1 (s.khzOf (s.dillClock d))) +
            ceilDiv 3000000 (max 1 ((s.dsel d src).khzOf ((s.dsel d src).dillClock d)))))
    else (s.dsel d src).clk = { s.clk with dselResult := 2 }) ∧
  (∀ (s : State) (d src : Nat), (d < 366 ∨ d = 370 ∨ d = 371 ∨ 378 < d) → src = 1 ∨ src = 2 →
    (s.dsel d src).clk = { s.clk with dselResult := 1 }) ∧
  (∀ (s : State) (d src : Nat), src = 0 ∨ src = 3 → s.dsel d src = s) ∧
  (∀ (s : State) (sd : SubDomain) (u : State), s.boot.main = true → s.sdIdle sd = true →
    s.clk.down.getLsbD (sdDomains sd).1 = false →
    u = (match look? s.clk.wokeAt (sdDomains sd).1 with
      | some t0 => s.reach (t0 + s.idleTime)
      | none => s) → Completes (.subdomainPowerDown sd) s (fun t =>
      t.clk = { s.clk with
        down := s.clk.down ||| sdMask (sdDomains sd), gated := s.clk.gated &&& ~~~(sdMask (sdDomains sd)) } ∧
      t.now = match sd with
        | .engine1 k => u.instant ((s.eng (2 * k.val + 1)).usedAt + s.idleTime)
        | _ => u.now)) ∧
  (∀ (s : State) (sd : SubDomain), s.boot.main = false ∨ s.sdIdle sd = false →
    exec (.subdomainPowerDown sd) s = .next s) ∧
  (∀ (s : State) (l : Fin 16) (why : QuadWakeCause), s.boot.main = true → s.present l.val = true →
    (why = .idleExit ∨ why = .beacon → (s.link l.val).st = .l2) →
    (why = .perstRelease → (s.grp (l.val / 4)).perst = false) →
    Completes (.phyQuadWake l why) s (fun t =>
      (∀ q < 4, t.clk.down.getLsbD (248 + 4 * (l.val / 4) + q) =
        (s.clk.down.getLsbD (248 + 4 * (l.val / 4) + q) && s.linkOfQuad (4 * (l.val / 4) + q) != l.val)) ∧
      t.clk.gated = s.clk.gated))

/-- R446-R451, R482: CMAINT_CLEAN, CMAINT_INVALIDATE, CMAINT_CLEAN_INVALIDATE, CMAINT_VICTIM, FENCE_I and CCTL_WRITE.
Where a clause meets a point that the spec leaves open, it follows the model's choice, named in the assumption log
(row 115). -/
def Obligations.CacheMaintenanceAndEnables : Prop :=
  (∀ (s : State) (m : Master) (c : Fin 2) (k : CacheSel) (how : MaintBy),
    s.accepts m (mcorePage c.val * 4096 + 0x84) = true →
    let go := fun (w : Word) => (((s.written m (mcorePage c.val * 4096 + 0x84) w).cmaint m c.val w).finish m)
    exec (.cmaintClean m c k how) s = .next (go (cmaintWord 1 k how false)) ∧
    exec (.cmaintInvalidate m c k how) s = .next (go (cmaintWord 2 k how false)) ∧
    exec (.cmaintCleanInvalidate m c k how) s = .next (go (cmaintWord 3 k how false)) ∧
    exec (.cmaintVictim m c k) s = .next (go (cmaintWord 2 k .addr true))) ∧
  (∀ (s : State) (j : Fin 2) (c : Nat) (w : Word), j.val ≠ c → (s.mcore c).halted = false →
    s.cmaint (.core j) c w = s) ∧
  (∀ (s : State) (m : Master) (c : Nat) (k : CacheSel) (set : Fin 128) (way : Fin 4), s.mayMaintain m c = true →
    let a := s.cfg (mcorePage c) 0x88 0 32 / 64
    (s.cmaint m c (cmaintWord 2 k .addr false)).mcore c =
      (s.mcore c).onCache (fun x => { x with
        lines := x.lines.filter (fun l => l.line != a), victim := x.victim.filter (fun l => l.line != a) }) k ∧
    (((s.cmaint m c (cmaintWord 2 k (.setWay set way) false)).mcore c).cache k).lines =
      ((s.mcore c).cache k).lines.filter (fun l => !(l.set == set.val && l.way == way.val)) ∧
    (((s.cmaint m c (cmaintWord 2 k (.setWay set way) false)).mcore c).cache k).victim =
      ((s.mcore c).cache k).victim ∧
    (((s.cmaint m c (cmaintWord 2 k .addr true)).mcore c).cache k).victim = [] ∧
    (((s.cmaint m c (cmaintWord 2 k .addr true)).mcore c).cache k).lines = ((s.mcore c).cache k).lines) ∧
  (∀ (s : State) (m : Master) (c : Nat) (k : CacheSel) (how : MaintBy), s.mayMaintain m c = true →
    k = .instr ∨ (s.mcore c).wbuf = [] →
    s.cmaint m c (cmaintWord 1 k how false) = s ∧
    s.cmaint m c (cmaintWord 3 k how false) = s.cmaint m c (cmaintWord 2 k how false)) ∧
  (∀ (s : State) (m : Master) (c : Nat) (how : MaintBy) (w : BufWrite), s.mayMaintain m c = true →
    w ∈ (s.mcore c).wbuf → (how = .addr → w.addr / 64 = s.cfg (mcorePage c) 0x88 0 32 / 64) →
    ((s.cmaint m c (cmaintWord 1 .data how false)).mcore c).dc = (s.mcore c).dc ∧
    ((s.cmaint m c (cmaintWord 3 .data how false)).mcore c).dc = (s.mcore c).dc ∧
    ((s.cmaint m c (cmaintWord 1 .data how false)).mcore c).cleans.length = (s.mcore c).cleans.length + 1 ∧
    ((s.cmaint m c (cmaintWord 3 .data how false)).mcore c).cleans.length = (s.mcore c).cleans.length + 1) ∧
  (∀ (s : State) (c : Fin 2), s.boot.aux = true → (s.mcore c.val).halted = false → Completes (.fenceI c) s (fun t =>
    (t.mcore c.val).ic = { en := (s.mcore c.val).ic.en, stale := false } ∧ (t.mcore c.val).dc = (s.mcore c.val).dc ∧
    t.mcore (1 - c.val) = s.mcore (1 - c.val))) ∧
  (∀ (s : State) (c : Fin 2), (s.mcore c.val).halted = true → exec (.fenceI c) s = .next s) ∧
  (∀ (s : State) (m : Master) (c : Fin 2) (ien den : Bool), s.accepts m (mcorePage c.val * 4096 + 0x80) = true →
    let w := BitVec.ofNat 32 (b2n ien + 2 * b2n den)
    exec (.cctlWrite m c ien den) s =
      .next (((s.written m (mcorePage c.val * 4096 + 0x80) w).cctl c.val ien den).finish m)) ∧
  (∀ (s : State) (c : Fin 2) (ien den : Bool), (s.cctl c.val ien den).mcore c.val = { s.mcore c.val with
      ic := { (s.mcore c.val).ic with en := ien }, dc := { (s.mcore c.val).dc with en := den } } ∧
    (s.cctl c.val ien den).mcore (1 - c.val) = s.mcore (1 - c.val))

/-- R447-R451, R461: CORE_LOAD, CORE_STORE and WRITE_BUFFER_DRAIN. Where a clause meets a point that the spec leaves open,
it follows the model's choice, named in the assumption log (rows 13, 99 and 115). -/
def Obligations.CoreLoadsStoresAndTheWriteBuffer : Prop :=
  (∀ (s : State) (c : Fin 2) (a : BitVec 32) (f : Bool) (z : Fin 4) (d : BitVec 64),
    s.boot.aux = false ∨ (s.mcore c.val).halted = true →
    exec (.coreLoad c a f) s = .next s ∧ exec (.coreStore c a z d) s = .next s) ∧
  (∀ (s : State) (c : Fin 2) (a : BitVec 32) (f : Bool), s.coreRuns c.val = true →
    regionOf a.toNat = none ∨ (f = true ∧ 0x10300000 ≤ a.toNat) ∨
      (f = false ∧ regionOf a.toNat = some .window ∧ a.toNat % 4 ≠ 0) →
    exec (.coreLoad c a f) s = .next (s.withOut (.accessFault c.val :: s.out))) ∧
  (∀ (s : State) (c : Fin 2) (a : BitVec 32) (z : Fin 4) (d : BitVec 64), s.coreRuns c.val = true →
    regionOf a.toNat ∈ [none, some .rom, some .discard, some .log] ∨
      (regionOf a.toNat = some .window ∧ (z ≠ 2 ∨ a.toNat % 4 ≠ 0)) →
    exec (.coreStore c a z d) s = .next (s.withOut (.accessFault c.val :: s.out))) ∧
  (∀ (s : State) (c : Fin 2) (a : BitVec 32) (z : Fin 4) (d : BitVec 64), s.coreRuns c.val = true →
    0x20000000 ≤ a.toNat → a.toNat < 0x20004000 → Completes (.coreStore c a z d) s (fun t =>
      t.ret = { s.ret with result := 3, refused := min 0xFFFF (s.ret.refused + 1) } ∧
      t.out = .accessFault c.val :: s.out ∧ t.core = s.core)) ∧
  (∀ (s : State) (c : Fin 2) (a : BitVec 32) (f : Bool), s.coreRuns c.val = true →
    a.toNat < 0x10000 ∨ (0x10000000 ≤ a.toNat ∧ a.toNat < 0x10300000) →
    let sel := if f then CacheSel.instr else .data
    let k := (s.mcore c.val).cache sel
    let a8 := a.toNat / 8 * 8
    let buf := if f then [] else (s.mcore c.val).wbuf
    let line := overlay buf (64 * (a8 / 64)) (s.memBytes (64 * (a8 / 64)) 64)
    let said := fun (d : List Byte) => Msg.loadData c.val (BitVec.ofNat 64 (ofBytes d)) :: s.out
    (k.en = false → exec (.coreLoad c a f) s = .next (s.withOut (said (overlay buf a8 (s.memBytes a8 8))))) ∧
    (k.en = true → k.undefined (cacheSet (a8 / 64)) = true → exec (.coreLoad c a f) s =
      .next ((s.withOut (said ((upTo 8).map (fun i => Config.staleByte (s.free + i))))).withFree (s.free + 8))) ∧
    (k.en = true → k.undefined (cacheSet (a8 / 64)) = false → ∀ d, k.find (a8 / 64) = some d →
      Completes (.coreLoad c a f) s (fun t => t.out = said ((d.drop (a8 % 64)).take 8) ∧
        ((t.mcore c.val).cache sel).find (a8 / 64) = some d)) ∧
    (k.en = true → k.undefined (cacheSet (a8 / 64)) = false → k.find (a8 / 64) = none →
      Completes (.coreLoad c a f) s (fun t => t.out = said ((line.drop (a8 % 64)).take 8) ∧
        ((t.mcore c.val).cache sel).find (a8 / 64) = some line))) ∧
  (∀ (s : State) (c : Fin 2) (a : BitVec 32), s.coreRuns c.val = true →
    (0x10300000 ≤ a.toNat ∧ a.toNat < 0x10800000) ∨ (0x20000000 ≤ a.toNat ∧ a.toNat < 0x20040000) →
    exec (.coreLoad c a false) s = .next (s.withOut (.loadData c.val (BitVec.ofNat 64 (ofBytes
      (overlay (s.mcore c.val).wbuf (a.toNat / 8 * 8) (s.memBytes (a.toNat / 8 * 8) 8)))) :: s.out))) ∧
  (∀ (s : State) (c : Fin 2) (a : BitVec 32), s.coreRuns c.val = true → regionOf a.toNat = some .window →
    a.toNat % 4 = 0 → exec (.coreLoad c a false) s =
      .next (((drainAll 8 c s).access { m := .core c, off := a.toNat - 0x40000000, wr := none }).goOn)) ∧
  (∀ (s : State) (c : Fin 2) (a : BitVec 32) (z : Fin 4) (d : BitVec 64), s.coreRuns c.val = true →
    storeAllowed a.toNat (2 ^ z.val) = 1 →
    let u := if (s.mcore c.val).wbuf.length < 8 then s else (s.drainOne c).goOn
    let w : BufWrite := { addr := a.toNat, data := toBytes (2 ^ z.val) d.toNat }
    ((u.mcore c.val).wbuf.length < 8 → Completes (.coreStore c a z d) s (fun t =>
      (t.mcore c.val).wbuf = (u.mcore c.val).wbuf ++ [w] ∧
      (t.mcore c.val).dc = (if regionOf a.toNat = some .image then
        (u.mcore c.val).dc.store a.toNat w.data (u.mcore c.val).use else (u.mcore c.val).dc) ∧
      t.core.sram = u.core.sram ∧ t.mcore (1 - c.val) = u.mcore (1 - c.val))) ∧
    (8 ≤ (u.mcore c.val).wbuf.length → Completes (.coreStore c a z d) s (fun t =>
      (t.mcore c.val).stall = some w ∧ (t.mcore c.val).wbuf = (u.mcore c.val).wbuf ∧ t.coreRuns c.val = false))) ∧
  (∀ (s : State) (c : Fin 2), s.boot.aux = true → exec (.writeBufferDrain c) s = .next (s.drainOne c).goOn) ∧
  (∀ (s : State) (c : Fin 2) (w : BufWrite) (r : List BufWrite) (b : Nat), (s.mcore c.val).wbuf = w :: r →
    regionOf w.addr = some .image ∨ regionOf w.addr = some .shared →
    ((s.drainOne c).mcore c.val).wbuf = r ++ (s.mcore c.val).stall.toList ∧ ((s.drainOne c).mcore c.val).stall = none ∧
    look 0 (s.drainOne c).core.sram b = if w.addr ≤ b ∧ b < w.addr + w.data.length then w.data.getD (b - w.addr) 0
      else look 0 s.core.sram b) ∧
  (∀ (s : State) (c : Fin 2) (w : BufWrite) (r : List BufWrite), (s.mcore c.val).wbuf = w :: r →
    (regionOf w.addr = some .window ∧ s.inAccess (.core c) = true) ∨
      (regionOf w.addr = some .retained ∧ s.waiting (.core c) = true) → s.drainOne c = s)

/-- R464-R466, R484, R571: SENSOR_SAMPLE, DIE_OVERTEMP, ENERGY_LEDGER_TICK and LANE_MARGIN_SCAN. Where a clause meets a
point that the spec leaves open, it follows the model's choice, named in the assumption log (rows 1, 73, 96 and 116). -/
def Obligations.SensorsEnergyAndMargins : Prop :=
  (∀ (s : State) (r : SensorSample), s.boot.aux = true → Completes (.sensorSample r) s (fun t =>
    let p := r.vin.toNat * r.iin.toNat
    t.now = s.instant (s.mgmt.sampleAt + ms 1) ∧ t.mgmt.sampleAt = t.now ∧ t.mgmt.sampled = true ∧
    (s.hsc.linkLost = true → t.mgmt.vin = s.mgmt.vin ∧ t.mgmt.iin = s.mgmt.iin ∧ t.mgmt.ein = s.mgmt.ein) ∧
    (s.hsc.linkLost = false → t.mgmt.vin = r.vin ∧ t.mgmt.iin = r.iin ∧
      (p < 65536 * 40000 → t.mgmt.pin.toNat = p / 40000) ∧
      t.mgmt.ein = (s.mgmt.ein + p * 625 / 1000000) % 2 ^ 64 ∧
      t.mgmt.interval = s.mgmt.interval + p * 625 / 1000000) ∧
    t.mgmt.die = r.die.foldl (fun m e => if s.sensorOn e.1 then put 0 m e.1 e.2 else m) s.mgmt.die ∧
    t.mgmt.railV = r.railV.foldl (fun m e => if e.1 < 7 then put 0 m e.1 e.2 else m) s.mgmt.railV ∧
    t.mgmt.railI = r.railI.foldl (fun m e =>
      if e.1 < 7 then put 0 m e.1 (if s.railAddr e.1 = 0 then 0 else e.2) else m) s.mgmt.railI)) ∧
  (∀ (s : State) (n : Nat) (x : BitVec 16), let w : Int := 4 * s.cfg sensPage 0x98 0 8
    look 0 (s.readDie n x).mgmt.die n = x ∧
    (w ≤ x.toInt → (s.readDie n x).mgmt.hot.contains n = true) ∧
    (x.toInt ≤ w - 12 → (s.readDie n x).mgmt.hot.contains n = false) ∧
    (w - 12 < x.toInt → x.toInt < w → (s.readDie n x).mgmt.hot.contains n = s.mgmt.hot.contains n) ∧
    (w ≤ x.toInt → s.mgmt.hot.contains n = false → s.boot.st ≠ 0 →
      (s.readDie n x).evt.pend.getLsbD 47 = true) ∧
    (s.mgmt.hot.contains n = true → (s.readDie n x).evt = s.evt)) ∧
  (∀ (s : State) (n : Fin 24), s.boot.aux = true → n.val ≠ 23 → s.sensorOn n.val = true →
    exec (.dieOvertemp n) s = .next ((s.reach (s.now + ms 1)).faultP (chipletPage (sensorSlot n.val)) 5 0)) ∧
  (∀ (s : State), exec (.dieOvertemp 23) s = .next s) ∧
  (∀ (s : State) (n : Nat), s.boot.aux = true → s.mgmt.sampled = true → n < 64 →
    let base := min s.mgmt.interval (s.cfg sensPage 0x308 0 32)
    let rest := s.mgmt.interval - base
    let act := fun (k : Nat) => s.ledgW 0 * look 0 s.mgmt.actRd k + s.ledgW 1 * look 0 s.mgmt.actWr k +
      s.ledgW 2 * look 0 s.mgmt.actDm k + s.ledgW 3 * look 0 s.mgmt.actCmp k
    let a := ((upTo 64).map act).sum
    let share := fun (k : Nat) => if a = 0 then 0 else rest * act k / a
    Completes .energyLedgerTick s (fun t =>
      look 0 t.mgmt.ledger n = (look 0 s.mgmt.ledger n + share n) % 2 ^ 64 ∧
      t.mgmt.unassigned = (s.mgmt.unassigned + base + (rest - ((upTo 64).map share).sum)) % 2 ^ 64 ∧
      ((upTo 64).map share).sum ≤ rest ∧
      t.mgmt.interval = 0 ∧ t.mgmt.sampled = false ∧ t.mgmt.actRd = [] ∧ t.mgmt.actWr = [] ∧ t.mgmt.actDm = [] ∧
      t.mgmt.actCmp = [])) ∧
  (∀ (s : State), s.mgmt.sampled = false → exec .energyLedgerTick s = .next s) ∧
  (∀ (s : State) (g : Fin 4) (lane : Fin 16) (tl tr : BitVec 6) (vu vd : BitVec 7),
    let l := s.linkOfLane g.val lane.val
    let old := look 0 (s.grp g.val).lmrg lane.val
    s.cfgBit sensPage 0x310 0 = true → s.present l = true → (s.link l).st = .l0 ∨ (s.link l).st = .l0p →
    Completes (.laneMarginScan g lane tl tr vu vd) s (fun t =>
      t.now = (match look? (s.grp g.val).scanAt lane.val with
        | some t0 => s.instant (t0 + sec (3600 * max 1 (s.cfg sensPage 0x310 1 8)))
        | none => s.now) ∧
      look 0 (t.grp g.val).lmrg lane.val = (if (s.grp g.val).margining.contains lane.val then old ||| 0x4000000
        else wordOf [(0, tl.toNat), (6, tr.toNat), (12, vu.toNat), (19, vd.toNat), (27, 1)]) ∧
      ((s.grp g.val).margining.contains lane.val = false → s.boot.st ≠ 0 →
        (tl.toNat < s.cfg sensPage 0x310 9 6 ∨ vd.toNat < s.cfg sensPage 0x310 15 7) →
        t.evt.pend.getLsbD 48 = true)))

/-- R467, R500-R504, R508, R510: EVENT_RAISE, LOG_RECORD_WRITE, EVT_STATUS_CLEAR, EVT_ENABLE_WRITE, EVT_ROUTE_WRITE and
EVR_ROUTE_WRITE. Where a clause meets a point that the spec leaves open, it follows the model's choice, named in the
assumption log (rows 1, 103 and 105). -/
def Obligations.EventsAndTheLog : Prop :=
  (∀ (s : State) (src : BitVec 10) (why : EventCause), s.boot.aux = true →
    exec (.eventRaise src why) s = .next (s.raise {
      src := src.toNat, site := why.site.toNat, subject := why.subject.toNat, code := why.code.toNat, ld := why.ld.map (·.val) })) ∧
  (∀ (s : State) (e : Ev), definedSource e.src = false ∨ (s.boot.st = 0 ∧ 128 ≤ e.src) → s.raise e = s) ∧
  (∀ (s : State) (e : Ev), definedSource e.src = true → s.boot.st ≠ 0 ∨ e.src < 128 →
    (s.raise e).evt.pend.getLsbD e.src = true ∧
    ((s.routeOf e.src).getLsbD 0 = true → s.evt.queue.length < 1023 →
      let r : LogRec := {
        seq := s.evt.seq, time := s.now, source := e.src, fault := e.fault, retained := e.retained,
        dropped := s.evt.dropFlag, node := s.cfg (poolPage 0) 0x80 0 16, site := e.site, cls := e.cls,
        subject := e.subject, detail := e.detail, code := e.code, ld := e.ld }
      let go := s.evEnabled e.src && !s.evt.pend.getLsbD e.src
      (s.raise e).evt = { s.evt with
        pend := s.evt.pend ||| BitVec.ofNat 768 (2 ^ e.src), seq := s.evt.seq + 1, dropFlag := false,
        queue := s.evt.queue ++ [{ rec_ := r, dest := if go then [s.routeOf e.src] else [] }] }) ∧
    ((s.routeOf e.src).getLsbD 0 = true → 1023 ≤ s.evt.queue.length →
      (e.fault = true ∧ e.cls = 5 ∧ e.src ≤ 1 → (s.raise e).evt.queue.length = s.evt.queue.length + 1) ∧
      (e.fault = false ∨ e.cls ≠ 5 ∨ 1 < e.src → (s.raise e).evt.queue = s.evt.queue ∧ (s.raise e).evt.dropFlag = true)) ∧
    ((s.routeOf e.src).getLsbD 0 = false → (s.raise e).evt.queue = s.evt.queue ∧ (s.raise e).evt.seq = s.evt.seq)) ∧
  (∀ (s : State) (w : LogWait) (r : List LogWait), s.boot.aux = true → s.evt.queue = w :: r →
    Completes .logRecordWrite s (fun t => look? t.evt.ring s.evt.wptr = some w.rec_ ∧
      t.evt.wptr = (s.evt.wptr + 1) % 65536 ∧ t.evt.queue = r ∧ t.evt.pend = s.evt.pend ∧ t.evt.wroteAt = some t.now ∧
      t.now = (match s.evt.wroteAt with
        | some t0 => s.instant (t0 + 250)
        | none => s.now) ∧
      (∀ route ∈ w.dest, route.getLsbD 2 = true → s.mgmt.i3c = false → t.evt.alert = true))) ∧
  (∀ (s : State), s.evt.queue = [] → exec .logRecordWrite s = .next s) ∧
  (∀ (s : State) (m : Master) (w : EvtWhere) (b : Word),
    (s.accepts m (evtOffset w false) = true → exec (.evtStatusClear m w b) s =
      .next (((s.written m (evtOffset w false) b).clearAt (evtBlock w) b).finish m)) ∧
    (s.accepts m (evtOffset w true) = true → exec (.evtEnableWrite m w b) s =
      .next (((s.written m (evtOffset w true) b).enableAt (evtBlock w) b).finish m))) ∧
  (∀ (s : State) (b i : Nat) (v : Word), i < 768 → (s.clearAt (some b) v).evt.pend.getLsbD i =
    (s.evt.pend.getLsbD i && !(decide (32 * b ≤ i) && v.getLsbD (i - 32 * b)))) ∧
  (∀ (s : State) (b i : Nat) (v : Word), b < 24 → i < 768 → (s.enableAt (some b) v).evEnabled i =
    (if definedSource i = true ∧ 32 * b ≤ i ∧ i < 32 * b + 32 then v.getLsbD (i - 32 * b) else s.evEnabled i)) ∧
  (∀ (s : State) (b k : Nat) (v : Word), b < 24 → k < 32 → definedSource (32 * b + k) = true →
    s.evEnabled (32 * b + k) = false → s.evt.pend.getLsbD (32 * b + k) = true → v.getLsbD k = true →
    (s.routeOf (32 * b + k)).getLsbD 2 = true → s.mgmt.i3c = false →
    if s.evt.queue.any (fun w => w.rec_ == s.lastRec (32 * b + k)) then
      ∃ w ∈ (s.enableAt (some b) v).evt.queue, w.rec_ = s.lastRec (32 * b + k) ∧ s.routeOf (32 * b + k) ∈ w.dest
    else (s.enableAt (some b) v).evt.alert = true) ∧
  (∀ (s : State) (m : Master) (page : BitVec 16) (v : BitVec 19) (x : BitVec 14),
    (s.accepts m (page.toNat * 4096 + 0x1C) = true → exec (.evtRouteWrite m page v) s =
      .next (((s.written m (page.toNat * 4096 + 0x1C) (v.zeroExtend 32)).ownRoute page.toNat v.toNat).finish m)) ∧
    (s.accepts m (evrPage * 4096 + 0x84) = true → exec (.evrRouteWrite m x) s =
      .next (((s.written m (evrPage * 4096 + 0x84) (x.zeroExtend 32)).evrRoute x).finish m))) ∧
  (∀ (s : State) (p b v : Nat), ownedBlock p = some b → b < 24 →
    (s.ownRoute p v).routeOf (32 * b + v % 32) = BitVec.ofNat 14 (v / 32) ∧ look 0 (s.ownRoute p v).evt.sel p = v % 32 ∧
    ∀ k < 768, k ≠ 32 * b + v % 32 → (s.ownRoute p v).routeOf k = s.routeOf k) ∧
  (∀ (s : State) (x : BitVec 14) (k : Nat), k < 768 → (s.evrRoute x).routeOf k =
    if k = s.cfg evrPage 0x80 0 10 then x else s.routeOf k)

/-- R486-R497, R507, R509, R578: FATAL_LANE, FAULT_FRAME, FRAME_CHECK_FAIL, HEARTBEAT_LOSS, QUIET_PERIOD_END,
RECOVERY_FAIL, FC_EXIT, FC_RECOVER, FC_INJECT, FREC_CLEAR, SERIAL_LINK_RETURN and RECOVERY_COUNTER_STORE. Where a
clause meets a point that the spec leaves open, it follows the model's choice, named in the assumption log (rows 1,
72, 73, 148 and 152). -/
def Obligations.FaultReportsAndRecovery : Prop :=
  (∀ (s : State) (k : BitVec 4), s.boot.aux = true → s.powered (chipletPage k.toNat) = true → portSlot k.toNat = true →
    exec (.fatalLane k) s = .next (s.faultP (chipletPage k.toNat) 5 0) ∧
    (s.flt.laneLost.getLsbD k.toNat = false → exec (.heartbeatLoss k) s =
      .next (((s.withFlt { s.flt with laneLost := s.flt.laneLost ||| BitVec.ofNat 16 (2 ^ k.toNat) }).raiseAt 4
        (chipletPage k.toNat) 0).faultP (chipletPage k.toNat) 5 0))) ∧
  (∀ (s : State), s.boot.aux = true →
    (s.hsc.linkLost = false → exec (.heartbeatLoss 1) s = .next (s.faultP 0x113F 3 0)) ∧
    (s.hsc.linkLost = true → exec (.heartbeatLoss 1) s = .next s)) ∧
  (∀ (s : State) (site : BitVec 24) (cls : FaultClass) (row col : BitVec 16) (cause : BitVec 8), s.boot.aux = true →
    s.powered (pageOfSite site.toNat) = true → ozCode site.toNat = true → (pgSlot (pageOfSite site.toNat) = 1 → s.hsc.linkLost = false) →
    exec (.faultFrame site cls row col cause) s =
      .next ((s.fault site.toNat (classNo cls) row.toNat col.toNat cause.toNat false).emit
        (.laneAck (pgSlot (pageOfSite site.toNat))))) ∧
  (∀ (s : State) (site row col cause : Nat), let u := unitOf (pageOfSite site)
    (s.activeOver u = none → (s.fault site 1 row col cause false).frec u =
        {
          site := site, cls := 1, reaction := 0, active := true, seen := 1, count := 0, time := s.now, row := row,
          col := col, cause := cause, quietEnd := s.now + s.quiet 1, fails := 0, heldOut := false } ∧
      (s.fault site 1 row col cause false).evt.pend.getLsbD 0 = true) ∧
    (∀ v, s.activeOver u = some v → (s.fault site 1 row col cause false).frec v = { s.frec v with
        count := min 0xFFFF ((s.frec v).count + 1), seen := (s.frec v).seen ||| 1,
        quietEnd := s.now + s.quiet (s.frec v).highest } ∧
      (s.fault site 1 row col cause false).evt = s.evt)) ∧
  (∀ (s : State) (k : BitVec 4), (s.boot.aux = true → ozSlot k.toNat = true → Completes (.frameCheckFail k) s (fun t =>
    t.flt = { s.flt with framesBad := min 0xFFFF (s.flt.framesBad + 1) } ∧ t.evt.pend.getLsbD 5 = true)) ∧
    (ozSlot k.toNat = false → exec (.frameCheckFail k) s = .next s)) ∧
  (∀ (s : State) (p : Option (BitVec 16)), let u := recKey p
    s.boot.aux = true → (s.frec u).active = true → (s.frec u).heldOut = false →
    (s.cfgBit fcPage 0x80 3 = true →
      exec (.quietPeriodEnd p) s = .next ((s.reach (s.frec u).quietEnd).recoverRec u)) ∧
    (s.cfgBit fcPage 0x80 3 = false → exec (.quietPeriodEnd p) s = .next s) ∧
    exec (.recoveryFail p) s = .next (s.recoveryFailed u)) ∧
  (∀ (s : State) (u : Nat), u ≠ devRec →
    (s.recoveryFailed u).evt.pend.getLsbD 3 = true ∧ ((s.recoveryFailed u).frec u = { s.frec u with
      fails := (s.frec u).fails + 1, quietEnd := s.now + s.quiet (s.frec u).highest,
      heldOut := decide (s.retries ≤ (s.frec u).fails + 1) })) ∧
  (∀ (s : State) (m : Master) (site : BitVec 24) (cls : BitVec 3), s.accepts m (fcPage * 4096 + 0x98) = true →
    let u := (s.written m (fcPage * 4096 + 0x98) (site.zeroExtend 32)).finish m
    let go := fun (op k : Nat) => Host.Outcome.next (σ := State) (φ := Fault) (ρ := Refusal)
      (((u.written m (fcPage * 4096 + 0x94) (BitVec.ofNat 32 (op + 8 * k))).fcCmd m op).finish m)
    u.accepts m (fcPage * 4096 + 0x94) = true →
    exec (.fcExit m site) s = go 1 (s.cfg fcPage 0x94 3 3) ∧ exec (.fcRecover m site) s = go 2 (s.cfg fcPage 0x94 3 3) ∧
    exec (.fcInject m cls site) s = go 3 cls.toNat) ∧
  (∀ (s : State) (m : Master) (op : Nat), 1 ≤ op → op ≤ 3 → s.siteCode (s.cfg fcPage 0x98 0 24) = false →
    (op = 3 → s.cfgBit fcPage 0x80 4 = true) → s.fcCmd m op = s.withFlt { s.flt with result := 3 }) ∧
  (∀ (s : State) (m : Master), let site := s.cfg fcPage 0x98 0 24
    let r := s.frec (s.recNamed site)
    s.siteCode site = true →
    (s.fcCmd m 1 = if r.active = true ∧ r.heldOut = false then (s.recoverRec (s.recNamed site)).fcResult 0
      else s.withFlt { s.flt with result := 2 }) ∧
    (s.recNamed site ≠ devRec → s.fcCmd m 2 = if r.active = true ∧ r.heldOut = true then
      (s.recoverRec (s.recNamed site)).fcResult 0 else s.withFlt { s.flt with result := 2 }) ∧
    (s.recNamed site = devRec → r.active = true → r.heldOut = true → s.fcCmd m 2 = (s.rstOp m 4).fcResult 0) ∧
    (s.cfgBit fcPage 0x80 4 = true → s.fcCmd m 3 =
      if 1 ≤ s.cfg fcPage 0x94 3 3 ∧ s.cfg fcPage 0x94 3 3 ≤ 5 then
        (s.fault site (s.cfg fcPage 0x94 3 3) 0xFFFF 0xFFFF 0xFF true).fcResult 0
      else s.withFlt { s.flt with result := 2 })) ∧
  (∀ (s : State) (m : Master), s.cfgBit fcPage 0x80 4 = false → s.fcCmd m 3 = s.withFlt { s.flt with result := 1 }) ∧
  (∀ (s : State) (m : Master) (p : BitVec 16), s.accepts m (p.toNat * 4096 + 0x3C) = true →
    exec (.frecClear m p) s = .next (((s.written m (p.toNat * 4096 + 0x3C) 0x1000000).clearRec (unitOf p.toNat)).finish m)) ∧
  (∀ (s : State) (u : Nat), ((s.frec u).active = true → s.clearRec u = s) ∧
    ((s.frec u).active = false → (s.clearRec u).frec u = {} ∧ (s.clearRec u).now = s.now)) ∧
  (∀ (s : State), exec .serialLinkReturn s = .next (s.withHsc { s.hsc with linkLost := false })) ∧
  (∀ (s u : State), s.boot.aux = true → s.flt.rcntDirty ≠ [] → u = s.reach (s.flt.rcntAt + sec 3600) →
    exec .recoveryCounterStore s =
      .next (s.flt.rcntDirty.foldl (fun s k => s.retWrite (0xA00 + k) (BitVec.ofNat 32 (look 0 s.flt.rcnt k)) none)
        (u.withFlt { s.flt with rcntAt := u.now, rcntDirty := [] })))

/-- R515, R516, R521, R522: PMC_CLEAR, PMC_GCTL_RUN, PMC_GCTL_CLEAR, COUNTER_OVERFLOW and TRACE_RECORD_WRITE. Where a
clause meets a point that the spec leaves open, it follows the model's choice, named in the assumption log (rows 1 and
105). -/
def Obligations.CountersAndTheTraceRing : Prop :=
  (∀ (s : State) (m : Master) (p : BitVec 16) (v : Word), s.accepts m (p.toNat * 4096 + 0x40) = true →
    let w := setField v 10 1 1
    exec (.pmcClear m p v) s = .next (((s.written m (p.toNat * 4096 + 0x40) w).pmcCtl p.toNat w).finish m)) ∧
  (∀ (s : State) (m : Master) (run : Bool), s.accepts m gctlOff = true →
    let go := fun (w : Word) => ((s.written m gctlOff w).pmcGctl w).finish m
    exec (.pmcGctlRun m run) s = .next (go (BitVec.ofNat 32 (b2n run))) ∧
    exec (.pmcGctlClear m run) s = .next (go (BitVec.ofNat 32 (2 + b2n run)))) ∧
  (∀ (s : State) (p : Nat) (v : Word), ((s.pmcCtl p v).bank p).frozen = false ∧
    (v.getLsbD 10 = true → ((s.pmcCtl p v).bank p).cnt = []) ∧ ((s.pmcCtl p v).bank p).ovf = (s.bank p).ovf ∧
    ((s.pmcCtl p v).bank p).evsel = (s.bank p).evsel) ∧
  (∀ (s : State) (v : Word) (p : Nat), v.getLsbD 1 = true → p ∈ s.obs.pmc.map (·.1) → s.cfgBit p 0x40 9 = true →
    ((s.pmcGctl v).bank p).cnt = []) ∧
  (∀ (s : State) (v : Word), (s.pmcGctl v).cfgBit trcPage 0x98 0 = v.getLsbD 0) ∧
  (∀ (s : State) (p : BitVec 16) (k : Fin 8), s.cycleEnd p.toNat k.val = none →
    (look 0 (s.bank p.toNat).cnt k.val < 2 ^ 48 → exec (.counterOverflow p k) s = .next s) ∧
    (2 ^ 48 ≤ look 0 (s.bank p.toNat).cnt k.val → Completes (.counterOverflow p k) s (fun t =>
      look 0 (t.bank p.toNat).cnt k.val = look 0 (s.bank p.toNat).cnt k.val - 2 ^ 48 ∧
      (t.bank p.toNat).ovf = (s.bank p.toNat).ovf ||| BitVec.ofNat 8 (2 ^ k.val) ∧
      (t.bank p.toNat).frozen = ((s.bank p.toNat).frozen || s.cfgBit p.toNat 0x40 8) ∧
      (s.boot.st ≠ 0 → t.evt.pend.getLsbD 512 = true) ∧ t.now = s.now))) ∧
  (∀ (s : State) (p : BitVec 16) (k : Fin 8) (t0 : Nat), s.cycleEnd p.toNat k.val = some t0 →
    let u := (s.reach t0).settlePage p.toNat
    2 ^ 48 ≤ look 0 (u.bank p.toNat).cnt k.val →
    exec (.counterOverflow p k) s = .next (u.overflow p.toNat k.val) ∧ u.now = s.instant t0) ∧
  (∀ (s : State) (r : TraceRec) (q : List TraceRec), s.obs.buf = r :: q → s.trcBlocked = false →
    Completes .traceRecordWrite s (fun t => t.obs.buf = q ∧
      look? t.obs.ring s.obs.wptr = some (if s.obs.dropFlag then { r with flags := r.flags ||| 64 } else r) ∧
      t.now = (match s.obs.wroteAt with
        | some t0 => s.instant (t0 + 10)
        | none => s.now) ∧ t.obs.wroteAt = some t.now ∧
      t.obs.wptr = (s.obs.wptr + 1) % s.trcSize ∧ t.obs.dropFlag = false ∧ t.obs.dropped = s.obs.dropped ∧
      t.obs.wraps = if t.obs.wptr = 0 then min 0xFFFF (s.obs.wraps + 1) else s.obs.wraps)) ∧
  (∀ (s : State) (r : TraceRec) (q : List TraceRec), s.obs.buf = r :: q → s.trcBlocked = true →
    Completes .traceRecordWrite s (fun t => t.obs = { s.obs with
        wroteAt := some t.now, buf := q, dropped := min 0xFFFF (s.obs.dropped + 1), dropFlag := true, full := true } ∧
      (s.obs.full = false → s.boot.st ≠ 0 → t.evt.pend.getLsbD 513 = true))) ∧
  (∀ (s : State), s.obs.buf = [] → exec .traceRecordWrite s = .next s)

/-- R537, R538, R540: COMMIT_GO, COMMIT_APPLY and COMMIT_DISCARD. -/
def Obligations.CommitsOfStagedValues : Prop :=
  (∀ (s : State) (m : Master) (p : BitVec 16), s.accepts m (p.toNat * 4096 + 0x20) = true →
    let go := fun (w : Word) => ((s.written m (p.toNat * 4096 + 0x20) w).commitWrite m p.toNat w).finish m
    exec (.commitGo m p) s = .next (go 1) ∧ exec (.commitDiscard m p) s = .next (go 8)) ∧
  (∀ (s : State) (m : Master) (p : Nat), s.toTake p = false → s.commitWrite m p 1 = s) ∧
  (∀ (s : State) (m : Master) (p : Nat), s.toTake p = true → (s.asleep (p * 4096 + 0x20)).isNone = true →
    let t := s.commitWrite m p 1
    t.regs.pending.contains p = true ∧ t.regs.staged = s.regs.staged.filter (fun e => e.1 / 4096 != p) ∧
    t.regs.active = s.regs.active ∧ t.regs.locks = s.regs.locks ∧ t.ret = s.ret ∧
    (∀ q ∈ s.regs.pending, q ∈ t.regs.pending)) ∧
  (∀ (s : State) (m : Master) (p : Nat), s.toTake p = true → (s.asleep (p * 4096 + 0x20)).isSome = true →
    (s.commitWrite m p 1).regs.pending = s.regs.pending.filter (fun q => q != p) ∧
    ((s.commitWrite m p 1).regs.staged.any (fun e => e.1 / 4096 == p)) = false) ∧
  (∀ (s : State) (p : BitVec 16), s.regs.pending.contains p.toNat = false → exec (.commitApply p) s = .next s) ∧
  (∀ (s : State) (p : BitVec 16), s.regs.pending.contains p.toNat = true → p.toNat ≠ amapPage →
    Completes (.commitApply p) s (fun t => t.regs.pending = s.regs.pending.filter (fun q => q != p.toNat) ∧
      t.regs.going = s.regs.going.filter (fun e => e.1 / 4096 != p.toNat) ∧ t.regs.staged = s.regs.staged ∧
      t.regs.locks = s.regs.locks ∧ t.amap = s.amap)) ∧
  (∀ (s : State) (p : BitVec 16) (off : Nat) (v : Word) (r : Reg), s.regs.pending.contains p.toNat = true →
    p.toNat ≠ amapPage → s.regs.going = [(off, v)] → off / 4096 = p.toNat → regAt off = some r →
    Completes (.commitApply p) s (fun t =>
      look (BitVec.ofNat 32 (resetWord off r)) t.regs.active off =
        BitVec.ofNat 32 (under (s.activeWord off) v.toNat (hMask r)))) ∧
  (∀ (old new mask b : Nat), b < 32 → (under old new mask).testBit b = if mask.testBit b then new.testBit b else old.testBit b) ∧
  (∀ (s : State) (m : Master) (p : Nat), s.regs.pending.contains p = true → s.commitWrite m p 8 = s) ∧
  (∀ (s : State) (m : Master) (p : Nat), s.regs.pending.contains p = false →
    (s.commitWrite m p 8).regs.staged = s.regs.staged.filter (fun e => e.1 / 4096 != p) ∧
    (s.commitWrite m p 8).regs.active = s.regs.active ∧ (s.commitWrite m p 8).regs.going = s.regs.going ∧
    (p = amapPage → (s.commitWrite m p 8).amap.staged = []) ∧ (p ≠ amapPage → (s.commitWrite m p 8).amap = s.amap)) ∧
  (∀ (s : State) (m : Master) (p : Nat), s.commitWrite m p 9 = s.commitWrite m p 1)

/-- R534, R535, R541, R542, R577: LOCK_ACQUIRE, LOCK_RELEASE, LOCK_FORCE, LOCK_LEASE_EXPIRY, CTRL_HOLD and DEV_MGMT_WRITE.
Where a clause meets a point that the spec leaves open, it follows the model's choice, named in the assumption log
(rows 1 and 107). -/
def Obligations.LocksHoldAndManagementFunction : Prop :=
  (∀ (s : State) (m : Master) (p : BitVec 16) (lease : BitVec 8), s.accepts m (p.toNat * 4096 + 0x24) = true →
    let go := fun (w : Word) => ((s.written m (p.toNat * 4096 + 0x24) w).lockWrite m p.toNat w).finish m
    exec (.lockAcquire m p lease) s = .next (go (wordOf [(2, 1), (8, lease.toNat)])) ∧
    exec (.lockRelease m p) s = .next (go 8) ∧ exec (.lockForce m p) s = .next (go 16)) ∧
  (∀ (s : State) (m : Master) (p : Nat) (lease : BitVec 8), let w := wordOf [(2, 1), (8, lease.toNat)]
    (s.lockOf p = 0 ∨ s.lockOf p = ownerCode m →
      look? (s.lockWrite m p w).regs.locks p = some { owner := ownerCode m, lease := lease.toNat, last := s.now }) ∧
    (s.lockOf p ≠ 0 → s.lockOf p ≠ ownerCode m → s.lockWrite m p w = s) ∧
    (∀ q < 65536, q ≠ p → (s.lockWrite m p w).lockOf q = s.lockOf q)) ∧
  (∀ (s : State) (m : Master) (p : Nat),
    (s.lockOf p = ownerCode m → (s.lockWrite m p 8).lockOf p = 0) ∧
    (s.lockOf p ≠ ownerCode m → s.lockWrite m p 8 = s) ∧
    (∀ q < 65536, q ≠ p → (s.lockWrite m p 8).lockOf q = s.lockOf q)) ∧
  (∀ (s : State) (c : Fin 2) (p : Nat), (s.lockWrite (.core c) p 16).lockOf p = 0 ∧
    (regAt (p * 4096 + 0x10) ≠ none → (s.lockWrite (.core c) p 16).cfgBit p 0x10 5 = true)) ∧
  (∀ (s : State) (m : Master) (p : Nat), (∀ c : Fin 2, m ≠ .core c) → s.lockOf p ≠ ownerCode m →
    s.lockWrite m p 16 = s) ∧
  (∀ (s : State) (p : BitVec 16) (k : PageLock), look? s.regs.locks p.toNat = some k →
    (k.lease = 0 → exec (.lockLeaseExpiry p) s = .next s) ∧
    (k.lease ≠ 0 → Completes (.lockLeaseExpiry p) s (fun t => t.lockOf p.toNat = 0 ∧
      t.now = s.instant (k.last + ms (10 * k.lease)) ∧ ∀ q < 65536, q ≠ p.toNat → t.lockOf q = s.lockOf q))) ∧
  (∀ (s : State) (p : BitVec 16), look? s.regs.locks p.toNat = none → exec (.lockLeaseExpiry p) s = .next s) ∧
  (∀ (s : State) (m : Master) (p : BitVec 16) (hold : Bool), s.accepts m (p.toNat * 4096 + 0x0C) = true →
    exec (.ctrlHold m p hold) s =
      .next ((s.written m (p.toNat * 4096 + 0x0C) (BitVec.ofNat 32 (b2n hold))).finish m)) ∧
  (∀ (s : State) (m : Master) (ld : BitVec 6), s.accepts m devMgmt = true → exec (.devMgmtWrite m ld) s =
    .next (((s.written m devMgmt (BitVec.ofNat 32 ld.toNat)).mgmtMoved).finish m)) ∧
  (∀ (s : State), (s.quiescent devMgmt = false → s.mgmtMoved = s) ∧
    (s.quiescent devMgmt = true → s.mgmtMoved = s.withRegs { s.regs with
      locks := s.regs.locks.filter (fun e => e.2.owner != 1) }))

/-- Each command named here answers a next state from every state and with every operand; the list names the groups of the
state that it may change, all others being as they were. -/
def Obligations.FramesOfHostPortCommands : Prop :=
  (∀ g, Changes [.host] (.perstNRelease g)) ∧
  (∀ l byHost, Changes [.host] (.recoveryEntry l byHost)) ∧
  (∀ l, Changes [.host] (.l1Exit l)) ∧
  (∀ g lane, Changes [.host] (.hostMarginCommand g lane)) ∧
  (∀ l, Changes [.regs, .host] (.pmeTurnOff l)) ∧
  (∀ l, Changes [.now, .obs, .host] (.l1Entry l)) ∧
  (∀ g, Changes [.now, .obs, .host] (.attentionPulseStart g)) ∧
  (∀ g, Changes [.now, .obs, .host] (.attentionPulseEnd g)) ∧
  (∀ ld fn op, Changes [.out, .obs, .host, .dunas] (.configRequest ld fn op)) ∧
  (∀ l r, Changes [.out, .ret, .evt, .obs, .host, .dunas] (.hostLinkRequest l r)) ∧
  (∀ l agreed, Changes [.out, .ret, .evt, .obs, .host, .dunas] (.l0pWiden l agreed)) ∧
  (∀ g lane, Changes [.out, .ret, .evt, .obs, .host, .dunas] (.marginDone g lane)) ∧
  (∀ l, Changes [.out, .ret, .evt, .obs, .host, .dunas] (.linkFlitCrcError l)) ∧
  (∀ l w agreed, Changes [.now, .out, .ret, .evt, .obs, .host, .dunas] (.l0pNarrow l w agreed)) ∧
  (∀ l o, Changes [.out, .ret, .evt, .obs, .host, .home, .dunas] (.linkUp l o)) ∧
  (∀ ld, Changes [.out, .regs, .ret, .evt, .obs, .host, .home, .dm, .dunas] (.flrInitiate ld)) ∧
  (∀ ld tag addr data st, Changes [.out, .regs, .ret, .evt, .obs, .host, .home, .dm, .dunas] (.requesterCompletion ld tag addr data st)) ∧
  (∀ ld, Changes [.out, .ret, .evt, .obs, .host, .dunas, .brg, .clk, .mgmt] (.flrComplete ld)) ∧
  (∀ ld tag, Changes [.now, .out, .regs, .ret, .evt, .obs, .host, .home, .dm, .dunas] (.reqCto ld tag)) ∧
  (∀ m g, Changes [.now, .out, .regs, .ret, .evt, .obs, .host, .amap, .ddr, .dunas, .brg, .clk, .mgmt] (.attnTest m g)) ∧
  (∀ m l, Changes [.now, .out, .regs, .ret, .evt, .obs, .host, .amap, .ddr, .dunas, .brg, .clk, .mgmt] (.retrain m l)) ∧
  (∀ l ld hpa tag, Changes [.free, .out, .regs, .ret, .evt, .flt, .obs, .host, .amap, .mem, .home, .ddr, .tier, .dunas, .mgmt] (.memspecrd l ld hpa tag)) ∧
  (∀ w, Changes [.free, .out, .regs, .ret, .evt, .flt, .obs, .host, .amap, .mem, .home, .ddr, .tier, .dunas, .brg, .mgmt] (.agentSweepEnd w)) ∧
  (∀ g, Changes [.now, .free, .out, .regs, .ret, .evt, .flt, .obs, .host, .amap, .mem, .home, .ddr, .tier, .dunas, .boot, .mgmt] (.hrdyRelease g)) ∧
  (∀ g, Changes [.free, .out, .regs, .ret, .evt, .flt, .obs, .host, .amap, .mem, .home, .ddr, .tier, .dm, .dunas, .brg, .clk, .mgmt] (.perstNAssert g)) ∧
  (∀ l res, Changes [.free, .out, .regs, .ret, .evt, .flt, .obs, .host, .amap, .mem, .home, .ddr, .tier, .dm, .dunas, .brg, .clk, .mgmt] (.recoveryExit l res)) ∧
  (∀ l, Changes [.free, .out, .regs, .ret, .evt, .flt, .obs, .host, .amap, .mem, .home, .ddr, .tier, .dm, .dunas, .brg, .clk, .mgmt] (.linkDown l)) ∧
  (∀ l, Changes [.free, .out, .regs, .ret, .evt, .flt, .obs, .host, .amap, .mem, .home, .ddr, .tier, .dm, .dunas, .brg, .clk, .mgmt] (.hotReset l)) ∧
  (∀ l, Changes [.free, .out, .regs, .ret, .evt, .flt, .obs, .host, .amap, .mem, .home, .ddr, .tier, .dm, .dunas, .brg, .clk, .mgmt] (.linkDisable l))

/-- Each command named here answers a next state from every state and with every operand; the list names the groups of the
state that it may change, all others being as they were. -/
def Obligations.FramesOfMemoryCommands : Prop :=
  (∀ c, Changes [.ddr] (.quickRetrain c)) ∧
  (∀ ld dec base size skip ways gran ctl, Changes [.host] (.hdmDecoderCommit ld dec base size skip ways gran ctl)) ∧
  (∀ hs, Changes [.mem] (.retagEnd hs)) ∧
  (∀ u set cls, Changes [.tier] (.compactionStart u set cls)) ∧
  (∀ c, Changes [.now, .obs, .ddr] (.dqsTrack c)) ∧
  (∀ c rank sub busy, Changes [.now, .obs, .ddr] (.refreshDue c rank sub busy)) ∧
  (∀ c rank sub, Changes [.now, .obs, .ddr] (.refreshRepay c rank sub)) ∧
  (∀ c ranks, Changes [.now, .obs, .ddr] (.mr4Poll c ranks)) ∧
  (∀ c, Changes [.now, .obs, .ddr] (.ceWindowStep c)) ∧
  (∀ chunk, Changes [.now, .obs, .mem] (.chunkInit chunk)) ∧
  Changes [.now, .obs, .tier] .hotnessEpochAdvance ∧
  (∀ agent line, Changes [.out, .obs, .host, .dunas] (.biconflict agent line)) ∧
  (∀ c rank, Changes [.out, .ret, .evt, .obs, .host, .ddr, .dunas] (.caAlert c rank)) ∧
  (∀ c rank sub bg ba, Changes [.out, .ret, .evt, .obs, .host, .ddr, .dunas] (.rfmRequest c rank sub bg ba)) ∧
  (∀ c ok, Changes [.out, .ret, .evt, .obs, .host, .ddr, .dunas] (.hardRepairEnd c ok)) ∧
  Changes [.out, .ret, .evt, .obs, .host, .tier, .dunas] .promoteDomainEnd ∧
  (∀ e, Changes [.out, .ret, .evt, .obs, .host, .tier, .dunas] (.engineRecovered e)) ∧
  Changes [.now, .out, .ret, .evt, .obs, .host, .amap, .dunas] .autoRecall ∧
  (∀ e verify, Changes [.out, .ret, .evt, .flt, .obs, .host, .home, .tier, .dunas] (.engineFault e verify)) ∧
  (∀ c, Changes [.now, .out, .ret, .evt, .flt, .obs, .host, .mem, .ddr, .dunas] (.resilverEnd c)) ∧
  (∀ ext, Changes [.free, .out, .ret, .evt, .obs, .host, .amap, .mem, .home, .tier, .dunas] (.extentEraseEnd ext)) ∧
  (∀ ext, Changes [.free, .out, .ret, .evt, .flt, .obs, .host, .amap, .mem, .ddr, .tier, .dunas] (.extentDrainEnd ext)) ∧
  (∀ hs, Changes [.free, .out, .ret, .evt, .flt, .obs, .host, .amap, .mem, .ddr, .tier, .dunas] (.mcacheClean hs)) ∧
  (∀ c off err perr, Changes [.free, .out, .ret, .evt, .flt, .obs, .host, .amap, .mem, .ddr, .tier, .dunas] (.dramReadReturn c off err perr)) ∧
  (∀ c, Changes [.free, .out, .ret, .evt, .flt, .obs, .host, .amap, .mem, .ddr, .tier, .dunas] (.channelDrainEnd c)) ∧
  (∀ hs, Changes [.free, .out, .ret, .evt, .flt, .obs, .host, .amap, .mem, .ddr, .tier, .dunas] (.retagStep hs)) ∧
  Changes [.now, .free, .out, .ret, .evt, .obs, .host, .amap, .mem, .ddr, .tier, .dunas] .overwriteWrite ∧
  (∀ c, Changes [.now, .out, .ret, .evt, .flt, .obs, .host, .amap, .mem, .ddr, .tier, .dunas] (.spareCopyEnd c)) ∧
  (∀ ld ext gen accept, Changes [.free, .out, .ret, .evt, .flt, .obs, .host, .amap, .mem, .ddr, .tier, .dunas, .mgmt] (.addDcResponse ld ext gen accept)) ∧
  (∀ ext, Changes [.now, .free, .out, .ret, .evt, .flt, .obs, .host, .amap, .mem, .ddr, .tier, .dunas] (.offerToExpiry ext)) ∧
  (∀ c err, Changes [.now, .free, .out, .ret, .evt, .flt, .obs, .host, .amap, .mem, .ddr, .tier, .dunas] (.scrubRead c err)) ∧
  (∀ page, Changes [.now, .free, .out, .ret, .evt, .flt, .obs, .host, .amap, .mem, .ddr, .tier, .dunas] (.sweepVisit page)) ∧
  (∀ m c, Changes [.now, .out, .regs, .ret, .evt, .obs, .host, .amap, .ddr, .dunas, .brg, .clk, .mgmt] (.fctlGo m c)) ∧
  (∀ m c rank, Changes [.now, .out, .regs, .ret, .evt, .obs, .host, .amap, .ddr, .dunas, .brg, .clk, .mgmt] (.spareRank m c rank)) ∧
  (∀ m c, Changes [.now, .out, .regs, .ret, .evt, .obs, .host, .amap, .ddr, .dunas, .brg, .clk, .mgmt] (.hardRepair m c)) ∧
  (∀ m c, Changes [.now, .out, .regs, .ret, .evt, .obs, .host, .amap, .ddr, .dunas, .brg, .clk, .mgmt] (.resilver m c)) ∧
  (∀ m c, Changes [.now, .out, .regs, .ret, .evt, .obs, .host, .amap, .ddr, .dunas, .brg, .clk, .mgmt] (.svcCancel m c)) ∧
  (∀ line, Changes [.now, .free, .out, .ret, .evt, .flt, .obs, .host, .amap, .mem, .home, .ddr, .tier, .dunas] (.atomicBufferFlush line)) ∧
  (∀ page, Changes [.now, .free, .out, .ret, .evt, .flt, .obs, .host, .amap, .mem, .home, .ddr, .tier, .dunas] (.demotionStart page)) ∧
  (∀ c src, Changes [.now, .out, .regs, .ret, .evt, .obs, .host, .amap, .ddr, .tier, .dunas, .brg, .clk, .mgmt] (.softRepair c src)) ∧
  (∀ m domain, Changes [.now, .out, .regs, .ret, .evt, .obs, .host, .amap, .ddr, .tier, .dunas, .brg, .clk, .mgmt] (.tierPromoteDomain m domain)) ∧
  (∀ m, Changes [.now, .out, .regs, .ret, .evt, .obs, .host, .amap, .ddr, .tier, .dunas, .brg, .clk, .mgmt] (.tierCancel m)) ∧
  (∀ m e, Changes [.now, .out, .regs, .ret, .evt, .obs, .host, .amap, .ddr, .tier, .dunas, .brg, .clk, .mgmt] (.jobCancel m e)) ∧
  (∀ m c, Changes [.now, .out, .regs, .ret, .evt, .obs, .host, .amap, .mem, .ddr, .dunas, .brg, .clk, .mgmt] (.svcPowerDown m c)) ∧
  (∀ l ld hpa mv tag err, Changes [.free, .out, .regs, .ret, .evt, .flt, .obs, .host, .amap, .mem, .home, .ddr, .tier, .dunas, .mgmt] (.memrd l ld hpa mv tag err)) ∧
  (∀ l ld hpa tag, Changes [.free, .out, .regs, .ret, .evt, .flt, .obs, .host, .amap, .mem, .home, .ddr, .tier, .dunas, .mgmt] (.memrddata l ld hpa tag)) ∧
  (∀ l ld hpa mv data poison tag, Changes [.free, .out, .regs, .ret, .evt, .flt, .obs, .host, .amap, .mem, .home, .ddr, .tier, .dunas, .mgmt] (.memwr l ld hpa mv data poison tag)) ∧
  (∀ l ld hpa mv mask data poison tag, Changes [.free, .out, .regs, .ret, .evt, .flt, .obs, .host, .amap, .mem, .home, .ddr, .tier, .dunas, .mgmt] (.memwrptl l ld hpa mv mask data poison tag)) ∧
  (∀ l ld hpa mv tag, Changes [.free, .out, .regs, .ret, .evt, .flt, .obs, .host, .amap, .mem, .home, .ddr, .tier, .dunas, .mgmt] (.meminv l ld hpa mv tag)) ∧
  (∀ l ld hpa tag, Changes [.free, .out, .regs, .ret, .evt, .flt, .obs, .host, .amap, .mem, .home, .ddr, .tier, .dunas, .mgmt] (.memclnevct l ld hpa tag)) ∧
  (∀ ld off len tag, Changes [.free, .out, .regs, .ret, .evt, .flt, .obs, .host, .amap, .mem, .home, .ddr, .tier, .dunas, .mgmt] (.cxlioApertureRead ld off len tag)) ∧
  (∀ ld off data ep, Changes [.free, .out, .regs, .ret, .evt, .flt, .obs, .host, .amap, .mem, .home, .ddr, .tier, .dunas, .mgmt] (.cxlioApertureWrite ld off data ep)) ∧
  (∀ ld tgt op size a b ep tag, Changes [.free, .out, .regs, .ret, .evt, .flt, .obs, .host, .amap, .mem, .home, .ddr, .tier, .dunas, .mgmt] (.atomicop ld tgt op size a b ep tag)) ∧
  (∀ agent line r, Changes [.free, .out, .regs, .ret, .evt, .flt, .obs, .host, .amap, .mem, .home, .ddr, .tier, .dunas, .mgmt] (.birsp agent line r)) ∧
  (∀ hs r, Changes [.free, .out, .regs, .ret, .evt, .flt, .obs, .host, .amap, .mem, .home, .ddr, .tier, .dunas, .mgmt] (.creditGrant hs r)) ∧
  (∀ ld exts, Changes [.free, .out, .regs, .ret, .evt, .flt, .obs, .host, .amap, .mem, .home, .ddr, .tier, .dunas, .mgmt] (.releaseDc ld exts)) ∧
  (∀ page rid off data ep, Changes [.free, .out, .regs, .ret, .evt, .flt, .obs, .host, .amap, .mem, .home, .ddr, .tier, .dunas, .mgmt] (.landDataWrite page rid off data ep)) ∧
  (∀ c ok, Changes [.free, .out, .regs, .ret, .evt, .flt, .obs, .host, .amap, .mem, .home, .ddr, .tier, .dunas, .mgmt] (.quickRetrainEnd c ok)) ∧
  (∀ c ok, Changes [.free, .out, .regs, .ret, .evt, .flt, .obs, .host, .amap, .mem, .home, .ddr, .tier, .dunas, .mgmt] (.freqChangeEnd c ok)) ∧
  (∀ page fault, Changes [.free, .out, .regs, .ret, .evt, .flt, .obs, .host, .amap, .mem, .home, .ddr, .tier, .dunas, .mgmt] (.promotionCommit page fault)) ∧
  (∀ page e mismatch, Changes [.free, .out, .regs, .ret, .evt, .flt, .obs, .host, .amap, .mem, .home, .ddr, .tier, .dunas, .mgmt] (.demotionCommit page e mismatch)) ∧
  (∀ page uncorr, Changes [.free, .out, .regs, .ret, .evt, .flt, .obs, .host, .amap, .mem, .home, .ddr, .tier, .dunas, .mgmt] (.migrationMoveCommit page uncorr)) ∧
  (∀ hs rejected, Changes [.free, .out, .regs, .ret, .evt, .flt, .obs, .host, .amap, .mem, .home, .ddr, .tier, .dunas, .mgmt] (.rootRebuildEnd hs rejected)) ∧
  (∀ m c spd0 spd1, Changes [.now, .free, .out, .regs, .ret, .evt, .obs, .host, .amap, .mem, .ddr, .dunas, .brg, .clk, .mgmt] (.svcReturn m c spd0 spd1)) ∧
  (∀ m c, Changes [.now, .out, .regs, .ret, .evt, .flt, .obs, .host, .amap, .mem, .ddr, .dunas, .brg, .clk, .mgmt] (.cancelResilver m c)) ∧
  (∀ m e op resume, Changes [.now, .out, .regs, .ret, .evt, .obs, .host, .amap, .home, .ddr, .tier, .dunas, .brg, .clk, .mgmt] (.jobGo m e op resume)) ∧
  (∀ e mismatch, Changes [.free, .out, .regs, .ret, .evt, .flt, .obs, .host, .amap, .mem, .home, .ddr, .tier, .dunas, .clk, .mgmt] (.jobEnd e mismatch)) ∧
  (∀ agent line, Changes [.now, .free, .out, .regs, .ret, .evt, .flt, .obs, .host, .amap, .mem, .home, .ddr, .tier, .dunas, .mgmt] (.biTimeout agent line)) ∧
  (∀ r, Changes [.now, .free, .out, .regs, .ret, .evt, .flt, .obs, .host, .amap, .mem, .home, .ddr, .tier, .dunas, .mgmt] (.softRepairEnd r)) ∧
  (∀ c t0 t1, Changes [.now, .free, .out, .regs, .ret, .evt, .flt, .obs, .host, .amap, .mem, .home, .ddr, .tier, .dunas, .mgmt] (.dimmThermalRead c t0 t1)) ∧
  (∀ m hs, Changes [.now, .free, .out, .regs, .ret, .evt, .flt, .obs, .host, .amap, .mem, .ddr, .tier, .dunas, .brg, .clk, .mgmt] (.mcacheFlush m hs)) ∧
  (∀ m table index, Changes [.now, .free, .out, .regs, .ret, .evt, .flt, .obs, .host, .amap, .mem, .home, .ddr, .tier, .dunas, .brg, .clk, .mgmt] (.tcmdReadEntry m table index)) ∧
  (∀ m table index, Changes [.now, .free, .out, .regs, .ret, .evt, .flt, .obs, .host, .amap, .mem, .home, .ddr, .tier, .dunas, .brg, .clk, .mgmt] (.tcmdStageEntry m table index)) ∧
  (∀ m ext, Changes [.now, .free, .out, .regs, .ret, .evt, .flt, .obs, .host, .amap, .mem, .home, .ddr, .tier, .dunas, .brg, .clk, .mgmt] (.grant m ext)) ∧
  (∀ m ext, Changes [.now, .free, .out, .regs, .ret, .evt, .flt, .obs, .host, .amap, .mem, .home, .ddr, .tier, .dunas, .brg, .clk, .mgmt] (.pin m ext)) ∧
  (∀ m ext, Changes [.now, .free, .out, .regs, .ret, .evt, .flt, .obs, .host, .amap, .mem, .home, .ddr, .tier, .dunas, .brg, .clk, .mgmt] (.offer m ext)) ∧
  (∀ m ext, Changes [.now, .free, .out, .regs, .ret, .evt, .flt, .obs, .host, .amap, .mem, .home, .ddr, .tier, .dunas, .brg, .clk, .mgmt] (.recall m ext)) ∧
  (∀ m ext, Changes [.now, .free, .out, .regs, .ret, .evt, .flt, .obs, .host, .amap, .mem, .home, .ddr, .tier, .dunas, .brg, .clk, .mgmt] (.force m ext)) ∧
  (∀ m ext, Changes [.now, .free, .out, .regs, .ret, .evt, .flt, .obs, .host, .amap, .mem, .home, .ddr, .tier, .dunas, .brg, .clk, .mgmt] (.free m ext)) ∧
  (∀ m c, Changes [.now, .free, .out, .regs, .ret, .evt, .flt, .obs, .host, .amap, .mem, .home, .ddr, .tier, .dunas, .brg, .clk, .mgmt] (.svcDrain m c)) ∧
  (∀ hs, Changes [.free, .out, .regs, .ret, .evt, .flt, .obs, .host, .amap, .mem, .home, .ddr, .tier, .dm, .dunas, .brg, .clk, .hsc, .mgmt] (.rootArrayError hs)) ∧
  (∀ c r, Changes [.free, .out, .regs, .ret, .evt, .flt, .obs, .host, .amap, .mem, .home, .ddr, .tier, .dm, .dunas, .brg, .clk, .hsc, .boot, .core, .mgmt] (.channelTrainingEnd c r))

/-- Each command named here answers a next state from every state and with every operand; the list names the groups of the
state that it may change, all others being as they were. -/
def Obligations.FramesOfMoverFabricAndBorageCommands : Prop :=
  (∀ e, Changes [.dunas] (.dlnkTrain e)) ∧
  (∀ e accept, Changes [.dunas] (.linkRsp e accept)) ∧
  (∀ e ch slot, Changes [.out, .dunas] (.linkReq e ch slot)) ∧
  (∀ a line, Changes [.out, .obs, .dunas] (.snpconflict a line)) ∧
  (∀ e, Changes [.now, .out, .obs, .dunas] (.ackTimer e)) ∧
  (∀ e, Changes [.now, .out, .obs, .dunas] (.replayTimer e)) ∧
  (∀ e, Changes [.now, .out, .obs, .dunas] (.commandedChangeStart e)) ∧
  (∀ l seq, Changes [.out, .obs, .host, .dunas] (.hostReplayRequest l seq)) ∧
  (∀ page rid r, Changes [.out, .obs, .host, .amap, .dunas] (.peerFlushRead page rid r)) ∧
  (∀ k payload, Changes [.out, .ret, .evt, .obs, .host, .dunas] (.evtraise k payload)) ∧
  (∀ ld off data, Changes [.out, .ret, .evt, .obs, .host, .dunas, .brg] (.bar0Write ld off data)) ∧
  (∀ ld off len tag, Changes [.out, .ret, .evt, .obs, .host, .dunas, .brg] (.bar0Read ld off len tag)) ∧
  (∀ tag data err, Changes [.out, .ret, .evt, .obs, .host, .dunas, .brg] (.fwdrddata tag data err)) ∧
  (∀ tag, Changes [.now, .out, .ret, .evt, .obs, .host, .dunas, .brg] (.fwdrdTimeout tag)) ∧
  (∀ ld, Changes [.now, .out, .ret, .evt, .obs, .host, .dunas, .brg] (.fwdwrTimeout ld)) ∧
  (∀ u what, Changes [.out, .ret, .evt, .flt, .obs, .host, .home, .dunas] (.discardReport u what)) ∧
  (∀ q ix st, Changes [.out, .ret, .evt, .obs, .host, .home, .dm, .dunas] (.peerFlushCompletion q ix st)) ∧
  (∀ m q tail, Changes [.now, .out, .regs, .ret, .evt, .obs, .host, .amap, .ddr, .dunas, .brg, .clk, .mgmt] (.dmqTailWrite m q tail)) ∧
  (∀ m q v, Changes [.now, .out, .regs, .ret, .evt, .obs, .host, .amap, .ddr, .dm, .dunas, .brg, .clk, .mgmt] (.dmqEnable m q v)) ∧
  (∀ a tag line cred, Changes [.free, .out, .regs, .ret, .evt, .flt, .obs, .host, .amap, .mem, .home, .ddr, .tier, .dunas, .mgmt] (.rdcur a tag line cred)) ∧
  (∀ a tag line cred, Changes [.free, .out, .regs, .ret, .evt, .flt, .obs, .host, .amap, .mem, .home, .ddr, .tier, .dunas, .mgmt] (.rdshared a tag line cred)) ∧
  (∀ a tag line cred, Changes [.free, .out, .regs, .ret, .evt, .flt, .obs, .host, .amap, .mem, .home, .ddr, .tier, .dunas, .mgmt] (.rdown a tag line cred)) ∧
  (∀ a tag line cred, Changes [.free, .out, .regs, .ret, .evt, .flt, .obs, .host, .amap, .mem, .home, .ddr, .tier, .dunas, .mgmt] (.invown a tag line cred)) ∧
  (∀ a tag line cred, Changes [.free, .out, .regs, .ret, .evt, .flt, .obs, .host, .amap, .mem, .home, .ddr, .tier, .dunas, .mgmt] (.cleanevict a tag line cred)) ∧
  (∀ a tag line keepS data, Changes [.free, .out, .regs, .ret, .evt, .flt, .obs, .host, .amap, .mem, .home, .ddr, .tier, .dunas, .mgmt] (.wrfull a tag line keepS data)) ∧
  (∀ a tag line keepS mask data, Changes [.free, .out, .regs, .ret, .evt, .flt, .obs, .host, .amap, .mem, .home, .ddr, .tier, .dunas, .mgmt] (.wrptl a tag line keepS mask data)) ∧
  (∀ a tag line keepS data, Changes [.free, .out, .regs, .ret, .evt, .flt, .obs, .host, .amap, .mem, .home, .ddr, .tier, .dunas, .mgmt] (.wrback a tag line keepS data)) ∧
  (∀ a tag line cred op size off x y, Changes [.free, .out, .regs, .ret, .evt, .flt, .obs, .host, .amap, .mem, .home, .ddr, .tier, .dunas, .mgmt] (.atomic a tag line cred op size off x y)) ∧
  (∀ a line keep data, Changes [.free, .out, .regs, .ret, .evt, .flt, .obs, .host, .amap, .mem, .home, .ddr, .tier, .dunas, .mgmt] (.snprsp a line keep data)) ∧
  (∀ m q, Changes [.now, .out, .regs, .ret, .evt, .obs, .host, .amap, .home, .ddr, .dm, .dunas, .brg, .clk, .mgmt] (.dmqAbort m q)) ∧
  (∀ q ix, Changes [.free, .out, .regs, .ret, .evt, .flt, .obs, .host, .amap, .mem, .home, .ddr, .tier, .dm, .dunas, .mgmt] (.dmCopy q ix)) ∧
  (∀ q ix, Changes [.free, .out, .regs, .ret, .evt, .flt, .obs, .host, .amap, .mem, .home, .ddr, .tier, .dm, .dunas, .mgmt] (.dmFill q ix)) ∧
  (∀ q ix, Changes [.free, .out, .regs, .ret, .evt, .flt, .obs, .host, .amap, .mem, .home, .ddr, .tier, .dm, .dunas, .mgmt] (.dmCrc q ix)) ∧
  (∀ q ix, Changes [.free, .out, .regs, .ret, .evt, .flt, .obs, .host, .amap, .mem, .home, .ddr, .tier, .dm, .dunas, .mgmt] (.dmZeroReseal q ix)) ∧
  (∀ q ix, Changes [.free, .out, .regs, .ret, .evt, .flt, .obs, .host, .amap, .mem, .home, .ddr, .tier, .dm, .dunas, .mgmt] (.dmBatchAtomic q ix)) ∧
  (∀ q ix ok, Changes [.free, .out, .regs, .ret, .evt, .flt, .obs, .host, .amap, .mem, .home, .ddr, .tier, .dm, .dunas, .mgmt] (.dmRecordWrite q ix ok)) ∧
  Changes [.free, .out, .regs, .ret, .evt, .flt, .obs, .host, .amap, .mem, .home, .ddr, .tier, .dm, .dunas, .brg, .clk, .hsc, .mgmt] .brgFltNAssert ∧
  (∀ f, Changes [.free, .out, .regs, .ret, .evt, .flt, .obs, .host, .amap, .mem, .home, .ddr, .tier, .dm, .dunas, .brg, .clk, .hsc, .mgmt] (.brgFltFrame f))

/-- Each command named here answers a next state from every state and with every operand; the list names the groups of the
state that it may change, all others being as they were. -/
def Obligations.FramesOfSystemCommands : Prop :=
  Changes [.clk] .fastOscDiscipline ∧
  (∀ c, Changes [.core] (.fenceI c)) ∧
  Changes [.evt] .smbusAra ∧
  Changes [.evt] .ibiAccepted ∧
  (∀ mV, Changes [.hsc] (.vinWindowEntry mV)) ∧
  Changes [.hsc] .serialLinkReturn ∧
  Changes [.mgmt] .energyLedgerTick ∧
  Changes [.mgmt] .i3cDaa ∧
  (∀ vinMv voutMv, Changes [.hsc, .boot] (.rampEnd vinMv voutMv)) ∧
  (∀ d, Changes [.obs, .clk] (.clockGateStart d)) ∧
  (∀ l why, Changes [.obs, .clk] (.phyQuadWake l why)) ∧
  (∀ k, Changes [.now, .obs, .boot] (.railGood k)) ∧
  (∀ x, Changes [.now, .obs, .clk] (.xtalQualify x)) ∧
  (∀ d, Changes [.now, .obs, .clk] (.clockGateStop d)) ∧
  Changes [.now, .obs, .hsc] .insertionDelayEnd ∧
  (∀ degC, Changes [.now, .obs, .hsc] (.ntcRecover degC)) ∧
  Changes [.now, .obs, .hsc] .coolWaitEnd ∧
  (∀ page, Changes [.now, .regs, .obs] (.lockLeaseExpiry page)) ∧
  (∀ op, Changes [.free, .out, .obs, .dunas] (.tapInstruction op)) ∧
  (∀ sd, Changes [.now, .obs, .tier, .clk] (.subdomainPowerDown sd)) ∧
  Changes [.now, .ret, .flt, .obs] .recoveryCounterStore ∧
  (∀ len, Changes [.out, .obs, .dunas, .mgmt] (.imgBegin len)) ∧
  (∀ off words, Changes [.out, .obs, .dunas, .mgmt] (.imgData off words)) ∧
  (∀ k, Changes [.now, .out, .obs, .dunas, .boot] (.railEnable k)) ∧
  Changes [.now, .out, .evt, .obs, .host, .dunas] .logRecordWrite ∧
  (∀ src why, Changes [.out, .ret, .evt, .obs, .host, .dunas] (.eventRaise src why)) ∧
  (∀ page k, Changes [.now, .out, .ret, .evt, .obs, .host, .dunas] (.counterOverflow page k)) ∧
  Changes [.now, .out, .ret, .evt, .obs, .host, .dunas] .traceRecordWrite ∧
  (∀ img, Changes [.out, .obs, .dunas, .hsc, .boot, .core, .mgmt] (.imgEnd img)) ∧
  (∀ slot, Changes [.out, .ret, .evt, .flt, .obs, .host, .dunas] (.frameCheckFail slot)) ∧
  Changes [.out, .ret, .evt, .obs, .host, .dunas, .boot] .cfgRecordEnd ∧
  (∀ loop, Changes [.out, .ret, .evt, .obs, .host, .dunas, .clk] (.refEdgeLoss loop)) ∧
  (∀ loop, Changes [.out, .ret, .evt, .obs, .host, .dunas, .clk] (.loopRelock loop)) ∧
  Changes [.out, .ret, .evt, .obs, .host, .dunas, .clk] .refSwitch ∧
  (∀ loop, Changes [.out, .ret, .evt, .obs, .host, .dunas, .clk] (.loopLockLoss loop)) ∧
  (∀ mV, Changes [.out, .ret, .evt, .obs, .host, .dunas, .hsc] (.vinOvervoltage mV)) ∧
  (∀ mV, Changes [.out, .ret, .evt, .obs, .host, .dunas, .hsc] (.vinUndervoltage mV)) ∧
  Changes [.out, .ret, .evt, .obs, .host, .dunas, .hsc] .currentLimitEntry ∧
  Changes [.out, .ret, .evt, .obs, .host, .dunas, .hsc] .ntcInvalid ∧
  Changes [.now, .out, .ret, .evt, .obs, .host, .dunas, .boot] .cfgWaitTimeout ∧
  Changes [.now, .out, .ret, .evt, .obs, .host, .dunas, .clk] .xtalQualifyTimeout ∧
  Changes [.now, .out, .ret, .evt, .obs, .host, .dunas, .clk] .xtalRetry ∧
  (∀ bad, Changes [.now, .out, .ret, .evt, .obs, .host, .dunas, .clk] (.slowOscCheck bad)) ∧
  Changes [.now, .out, .ret, .evt, .obs, .host, .dunas, .hsc] .retryWaitEnd ∧
  Changes [.now, .out, .ret, .evt, .obs, .host, .dunas, .hsc] .pgOutLevelAge ∧
  Changes [.out, .ret, .evt, .flt, .obs, .host, .dunas, .hsc] .fastTrip ∧
  Changes [.now, .out, .ret, .evt, .flt, .obs, .host, .dunas, .hsc] .startTimeout ∧
  Changes [.now, .out, .ret, .evt, .flt, .obs, .host, .dunas, .hsc] .breakerExpiry ∧
  Changes [.now, .out, .ret, .evt, .flt, .obs, .host, .dunas, .hsc] .damagedTransistor ∧
  Changes [.now, .out, .ret, .evt, .obs, .host, .dunas, .hsc, .boot] .railRetry ∧
  (∀ vinMv voutMv iMa ntc dieC, Changes [.now, .free, .out, .ret, .evt, .flt, .obs, .host, .dunas, .hsc] (.fetModelTick vinMv voutMv iMa ntc dieC)) ∧
  (∀ page, Changes [.free, .out, .regs, .ret, .evt, .obs, .host, .amap, .mem, .ddr, .tier, .dunas] (.commitApply page)) ∧
  (∀ m, Changes [.now, .out, .regs, .ret, .evt, .obs, .host, .amap, .ddr, .dunas, .brg, .clk, .mgmt] (.clkSwap m)) ∧
  (∀ m d src, Changes [.now, .out, .regs, .ret, .evt, .obs, .host, .amap, .ddr, .dunas, .brg, .clk, .mgmt] (.dselChange m d src)) ∧
  (∀ m place val, Changes [.now, .out, .regs, .ret, .evt, .obs, .host, .amap, .ddr, .dunas, .brg, .clk, .mgmt] (.evtStatusClear m place val)) ∧
  (∀ m place val, Changes [.now, .out, .regs, .ret, .evt, .obs, .host, .amap, .ddr, .dunas, .brg, .clk, .mgmt] (.evtEnableWrite m place val)) ∧
  (∀ m page val, Changes [.now, .out, .regs, .ret, .evt, .obs, .host, .amap, .ddr, .dunas, .brg, .clk, .mgmt] (.evtRouteWrite m page val)) ∧
  (∀ m val, Changes [.now, .out, .regs, .ret, .evt, .obs, .host, .amap, .ddr, .dunas, .brg, .clk, .mgmt] (.evrRouteWrite m val)) ∧
  (∀ m page ctl, Changes [.now, .out, .regs, .ret, .evt, .obs, .host, .amap, .ddr, .dunas, .brg, .clk, .mgmt] (.pmcClear m page ctl)) ∧
  (∀ m run, Changes [.now, .out, .regs, .ret, .evt, .obs, .host, .amap, .ddr, .dunas, .brg, .clk, .mgmt] (.pmcGctlRun m run)) ∧
  (∀ m run, Changes [.now, .out, .regs, .ret, .evt, .obs, .host, .amap, .ddr, .dunas, .brg, .clk, .mgmt] (.pmcGctlClear m run)) ∧
  (∀ m page lease, Changes [.now, .out, .regs, .ret, .evt, .obs, .host, .amap, .ddr, .dunas, .brg, .clk, .mgmt] (.lockAcquire m page lease)) ∧
  (∀ m page, Changes [.now, .out, .regs, .ret, .evt, .obs, .host, .amap, .ddr, .dunas, .brg, .clk, .mgmt] (.lockRelease m page)) ∧
  (∀ m page, Changes [.now, .out, .regs, .ret, .evt, .obs, .host, .amap, .ddr, .dunas, .brg, .clk, .mgmt] (.lockForce m page)) ∧
  (∀ m page hold, Changes [.now, .out, .regs, .ret, .evt, .obs, .host, .amap, .ddr, .dunas, .brg, .clk, .mgmt] (.ctrlHold m page hold)) ∧
  (∀ m ld, Changes [.now, .out, .regs, .ret, .evt, .obs, .host, .amap, .ddr, .dunas, .brg, .clk, .mgmt] (.devMgmtWrite m ld)) ∧
  (∀ m page, Changes [.now, .out, .regs, .ret, .evt, .flt, .obs, .host, .amap, .ddr, .dunas, .brg, .clk, .mgmt] (.frecClear m page)) ∧
  (∀ m c cache how, Changes [.now, .out, .regs, .ret, .evt, .obs, .host, .amap, .ddr, .dunas, .brg, .clk, .core, .mgmt] (.cmaintClean m c cache how)) ∧
  (∀ m c cache how, Changes [.now, .out, .regs, .ret, .evt, .obs, .host, .amap, .ddr, .dunas, .brg, .clk, .core, .mgmt] (.cmaintInvalidate m c cache how)) ∧
  (∀ m c cache how, Changes [.now, .out, .regs, .ret, .evt, .obs, .host, .amap, .ddr, .dunas, .brg, .clk, .core, .mgmt] (.cmaintCleanInvalidate m c cache how)) ∧
  (∀ m c cache, Changes [.now, .out, .regs, .ret, .evt, .obs, .host, .amap, .ddr, .dunas, .brg, .clk, .core, .mgmt] (.cmaintVictim m c cache)) ∧
  (∀ m c ien den, Changes [.now, .out, .regs, .ret, .evt, .obs, .host, .amap, .ddr, .dunas, .brg, .clk, .core, .mgmt] (.cctlWrite m c ien den)) ∧
  (∀ m, Changes [.now, .out, .regs, .ret, .evt, .obs, .host, .amap, .ddr, .dunas, .brg, .clk, .hsc, .mgmt] (.hscStart m)) ∧
  (∀ m, Changes [.now, .out, .regs, .ret, .evt, .obs, .host, .amap, .ddr, .dunas, .brg, .clk, .hsc, .mgmt] (.hscStop m)) ∧
  (∀ m, Changes [.now, .out, .regs, .ret, .evt, .obs, .host, .amap, .ddr, .dunas, .brg, .clk, .hsc, .mgmt] (.hscClearLatch m)) ∧
  (∀ m voutMv, Changes [.now, .out, .regs, .ret, .evt, .obs, .host, .amap, .ddr, .dunas, .brg, .clk, .hsc, .mgmt] (.hscClrShort m voutMv)) ∧
  (∀ m page, Changes [.now, .free, .out, .regs, .ret, .evt, .obs, .host, .amap, .mem, .ddr, .tier, .dunas, .brg, .clk, .mgmt] (.commitGo m page)) ∧
  (∀ m page, Changes [.now, .free, .out, .regs, .ret, .evt, .obs, .host, .amap, .mem, .ddr, .tier, .dunas, .brg, .clk, .mgmt] (.commitDiscard m page)) ∧
  (∀ c, Changes [.free, .out, .regs, .ret, .evt, .flt, .obs, .host, .amap, .mem, .home, .ddr, .tier, .dm, .dunas, .brg, .clk, .mgmt] (.clockMonitorFlag c)) ∧
  Changes [.free, .out, .regs, .ret, .evt, .flt, .obs, .host, .amap, .mem, .home, .ddr, .tier, .dunas, .brg, .clk, .boot, .mgmt] .rootLoopLock ∧
  (∀ w, Changes [.free, .out, .regs, .ret, .evt, .flt, .obs, .host, .amap, .mem, .home, .ddr, .tier, .dm, .dunas, .brg, .clk, .hsc, .mgmt] (.retainedWordUe w)) ∧
  (∀ slot, Changes [.free, .out, .regs, .ret, .evt, .flt, .obs, .host, .amap, .mem, .home, .ddr, .tier, .dm, .dunas, .brg, .clk, .hsc, .mgmt] (.fatalLane slot)) ∧
  (∀ site cls row col cause, Changes [.free, .out, .regs, .ret, .evt, .flt, .obs, .host, .amap, .mem, .home, .ddr, .tier, .dm, .dunas, .brg, .clk, .hsc, .mgmt] (.faultFrame site cls row col cause)) ∧
  (∀ slot, Changes [.free, .out, .regs, .ret, .evt, .flt, .obs, .host, .amap, .mem, .home, .ddr, .tier, .dm, .dunas, .brg, .clk, .hsc, .mgmt] (.heartbeatLoss slot)) ∧
  (∀ k, Changes [.out, .regs, .ret, .evt, .flt, .obs, .host, .amap, .mem, .home, .ddr, .tier, .dm, .dunas, .brg, .clk, .hsc, .boot, .mgmt] (.railFallen k))
end

