-- ==== Sys2Proof/Laws/State.lean ====
section
/-! SUPPORT. What each named update of the state leaves in each field. -/

namespace Sys2Proof.Machine

@[simp] theorem State.withNow_now (s : State) (x : Nat) : (s.withNow x).now = x := (rfl)
@[simp] theorem State.withNow_free (s : State) (x : Nat) : (s.withNow x).free = s.free := (rfl)
@[simp] theorem State.withNow_pending (s : State) (x : Nat) : (s.withNow x).pending = s.pending := (rfl)
@[simp] theorem State.withNow_out (s : State) (x : Nat) : (s.withNow x).out = s.out := (rfl)
@[simp] theorem State.withNow_regs (s : State) (x : Nat) : (s.withNow x).regs = s.regs := (rfl)
@[simp] theorem State.withNow_ret (s : State) (x : Nat) : (s.withNow x).ret = s.ret := (rfl)
@[simp] theorem State.withNow_evt (s : State) (x : Nat) : (s.withNow x).evt = s.evt := (rfl)
@[simp] theorem State.withNow_flt (s : State) (x : Nat) : (s.withNow x).flt = s.flt := (rfl)
@[simp] theorem State.withNow_obs (s : State) (x : Nat) : (s.withNow x).obs = s.obs := (rfl)
@[simp] theorem State.withNow_host (s : State) (x : Nat) : (s.withNow x).host = s.host := (rfl)
@[simp] theorem State.withNow_amap (s : State) (x : Nat) : (s.withNow x).amap = s.amap := (rfl)
@[simp] theorem State.withNow_mem (s : State) (x : Nat) : (s.withNow x).mem = s.mem := (rfl)
@[simp] theorem State.withNow_home (s : State) (x : Nat) : (s.withNow x).home = s.home := (rfl)
@[simp] theorem State.withNow_ddr (s : State) (x : Nat) : (s.withNow x).ddr = s.ddr := (rfl)
@[simp] theorem State.withNow_tier (s : State) (x : Nat) : (s.withNow x).tier = s.tier := (rfl)
@[simp] theorem State.withNow_dm (s : State) (x : Nat) : (s.withNow x).dm = s.dm := (rfl)
@[simp] theorem State.withNow_dunas (s : State) (x : Nat) : (s.withNow x).dunas = s.dunas := (rfl)
@[simp] theorem State.withNow_brg (s : State) (x : Nat) : (s.withNow x).brg = s.brg := (rfl)
@[simp] theorem State.withNow_clk (s : State) (x : Nat) : (s.withNow x).clk = s.clk := (rfl)
@[simp] theorem State.withNow_hsc (s : State) (x : Nat) : (s.withNow x).hsc = s.hsc := (rfl)
@[simp] theorem State.withNow_boot (s : State) (x : Nat) : (s.withNow x).boot = s.boot := (rfl)
@[simp] theorem State.withNow_core (s : State) (x : Nat) : (s.withNow x).core = s.core := (rfl)
@[simp] theorem State.withNow_mgmt (s : State) (x : Nat) : (s.withNow x).mgmt = s.mgmt := (rfl)

@[simp] theorem State.withFree_now (s : State) (x : Nat) : (s.withFree x).now = s.now := (rfl)
@[simp] theorem State.withFree_free (s : State) (x : Nat) : (s.withFree x).free = x := (rfl)
@[simp] theorem State.withFree_pending (s : State) (x : Nat) : (s.withFree x).pending = s.pending := (rfl)
@[simp] theorem State.withFree_out (s : State) (x : Nat) : (s.withFree x).out = s.out := (rfl)
@[simp] theorem State.withFree_regs (s : State) (x : Nat) : (s.withFree x).regs = s.regs := (rfl)
@[simp] theorem State.withFree_ret (s : State) (x : Nat) : (s.withFree x).ret = s.ret := (rfl)
@[simp] theorem State.withFree_evt (s : State) (x : Nat) : (s.withFree x).evt = s.evt := (rfl)
@[simp] theorem State.withFree_flt (s : State) (x : Nat) : (s.withFree x).flt = s.flt := (rfl)
@[simp] theorem State.withFree_obs (s : State) (x : Nat) : (s.withFree x).obs = s.obs := (rfl)
@[simp] theorem State.withFree_host (s : State) (x : Nat) : (s.withFree x).host = s.host := (rfl)
@[simp] theorem State.withFree_amap (s : State) (x : Nat) : (s.withFree x).amap = s.amap := (rfl)
@[simp] theorem State.withFree_mem (s : State) (x : Nat) : (s.withFree x).mem = s.mem := (rfl)
@[simp] theorem State.withFree_home (s : State) (x : Nat) : (s.withFree x).home = s.home := (rfl)
@[simp] theorem State.withFree_ddr (s : State) (x : Nat) : (s.withFree x).ddr = s.ddr := (rfl)
@[simp] theorem State.withFree_tier (s : State) (x : Nat) : (s.withFree x).tier = s.tier := (rfl)
@[simp] theorem State.withFree_dm (s : State) (x : Nat) : (s.withFree x).dm = s.dm := (rfl)
@[simp] theorem State.withFree_dunas (s : State) (x : Nat) : (s.withFree x).dunas = s.dunas := (rfl)
@[simp] theorem State.withFree_brg (s : State) (x : Nat) : (s.withFree x).brg = s.brg := (rfl)
@[simp] theorem State.withFree_clk (s : State) (x : Nat) : (s.withFree x).clk = s.clk := (rfl)
@[simp] theorem State.withFree_hsc (s : State) (x : Nat) : (s.withFree x).hsc = s.hsc := (rfl)
@[simp] theorem State.withFree_boot (s : State) (x : Nat) : (s.withFree x).boot = s.boot := (rfl)
@[simp] theorem State.withFree_core (s : State) (x : Nat) : (s.withFree x).core = s.core := (rfl)
@[simp] theorem State.withFree_mgmt (s : State) (x : Nat) : (s.withFree x).mgmt = s.mgmt := (rfl)

@[simp] theorem State.withPending_now (s : State) (x : List Instr) : (s.withPending x).now = s.now := (rfl)
@[simp] theorem State.withPending_free (s : State) (x : List Instr) : (s.withPending x).free = s.free := (rfl)
@[simp] theorem State.withPending_pending (s : State) (x : List Instr) : (s.withPending x).pending = x := (rfl)
@[simp] theorem State.withPending_out (s : State) (x : List Instr) : (s.withPending x).out = s.out := (rfl)
@[simp] theorem State.withPending_regs (s : State) (x : List Instr) : (s.withPending x).regs = s.regs := (rfl)
@[simp] theorem State.withPending_ret (s : State) (x : List Instr) : (s.withPending x).ret = s.ret := (rfl)
@[simp] theorem State.withPending_evt (s : State) (x : List Instr) : (s.withPending x).evt = s.evt := (rfl)
@[simp] theorem State.withPending_flt (s : State) (x : List Instr) : (s.withPending x).flt = s.flt := (rfl)
@[simp] theorem State.withPending_obs (s : State) (x : List Instr) : (s.withPending x).obs = s.obs := (rfl)
@[simp] theorem State.withPending_host (s : State) (x : List Instr) : (s.withPending x).host = s.host := (rfl)
@[simp] theorem State.withPending_amap (s : State) (x : List Instr) : (s.withPending x).amap = s.amap := (rfl)
@[simp] theorem State.withPending_mem (s : State) (x : List Instr) : (s.withPending x).mem = s.mem := (rfl)
@[simp] theorem State.withPending_home (s : State) (x : List Instr) : (s.withPending x).home = s.home := (rfl)
@[simp] theorem State.withPending_ddr (s : State) (x : List Instr) : (s.withPending x).ddr = s.ddr := (rfl)
@[simp] theorem State.withPending_tier (s : State) (x : List Instr) : (s.withPending x).tier = s.tier := (rfl)
@[simp] theorem State.withPending_dm (s : State) (x : List Instr) : (s.withPending x).dm = s.dm := (rfl)
@[simp] theorem State.withPending_dunas (s : State) (x : List Instr) : (s.withPending x).dunas = s.dunas := (rfl)
@[simp] theorem State.withPending_brg (s : State) (x : List Instr) : (s.withPending x).brg = s.brg := (rfl)
@[simp] theorem State.withPending_clk (s : State) (x : List Instr) : (s.withPending x).clk = s.clk := (rfl)
@[simp] theorem State.withPending_hsc (s : State) (x : List Instr) : (s.withPending x).hsc = s.hsc := (rfl)
@[simp] theorem State.withPending_boot (s : State) (x : List Instr) : (s.withPending x).boot = s.boot := (rfl)
@[simp] theorem State.withPending_core (s : State) (x : List Instr) : (s.withPending x).core = s.core := (rfl)
@[simp] theorem State.withPending_mgmt (s : State) (x : List Instr) : (s.withPending x).mgmt = s.mgmt := (rfl)

@[simp] theorem State.withOut_now (s : State) (x : List Msg) : (s.withOut x).now = s.now := (rfl)
@[simp] theorem State.withOut_free (s : State) (x : List Msg) : (s.withOut x).free = s.free := (rfl)
@[simp] theorem State.withOut_pending (s : State) (x : List Msg) : (s.withOut x).pending = s.pending := (rfl)
@[simp] theorem State.withOut_out (s : State) (x : List Msg) : (s.withOut x).out = x := (rfl)
@[simp] theorem State.withOut_regs (s : State) (x : List Msg) : (s.withOut x).regs = s.regs := (rfl)
@[simp] theorem State.withOut_ret (s : State) (x : List Msg) : (s.withOut x).ret = s.ret := (rfl)
@[simp] theorem State.withOut_evt (s : State) (x : List Msg) : (s.withOut x).evt = s.evt := (rfl)
@[simp] theorem State.withOut_flt (s : State) (x : List Msg) : (s.withOut x).flt = s.flt := (rfl)
@[simp] theorem State.withOut_obs (s : State) (x : List Msg) : (s.withOut x).obs = s.obs := (rfl)
@[simp] theorem State.withOut_host (s : State) (x : List Msg) : (s.withOut x).host = s.host := (rfl)
@[simp] theorem State.withOut_amap (s : State) (x : List Msg) : (s.withOut x).amap = s.amap := (rfl)
@[simp] theorem State.withOut_mem (s : State) (x : List Msg) : (s.withOut x).mem = s.mem := (rfl)
@[simp] theorem State.withOut_home (s : State) (x : List Msg) : (s.withOut x).home = s.home := (rfl)
@[simp] theorem State.withOut_ddr (s : State) (x : List Msg) : (s.withOut x).ddr = s.ddr := (rfl)
@[simp] theorem State.withOut_tier (s : State) (x : List Msg) : (s.withOut x).tier = s.tier := (rfl)
@[simp] theorem State.withOut_dm (s : State) (x : List Msg) : (s.withOut x).dm = s.dm := (rfl)
@[simp] theorem State.withOut_dunas (s : State) (x : List Msg) : (s.withOut x).dunas = s.dunas := (rfl)
@[simp] theorem State.withOut_brg (s : State) (x : List Msg) : (s.withOut x).brg = s.brg := (rfl)
@[simp] theorem State.withOut_clk (s : State) (x : List Msg) : (s.withOut x).clk = s.clk := (rfl)
@[simp] theorem State.withOut_hsc (s : State) (x : List Msg) : (s.withOut x).hsc = s.hsc := (rfl)
@[simp] theorem State.withOut_boot (s : State) (x : List Msg) : (s.withOut x).boot = s.boot := (rfl)
@[simp] theorem State.withOut_core (s : State) (x : List Msg) : (s.withOut x).core = s.core := (rfl)
@[simp] theorem State.withOut_mgmt (s : State) (x : List Msg) : (s.withOut x).mgmt = s.mgmt := (rfl)

@[simp] theorem State.withRegs_now (s : State) (x : Regs) : (s.withRegs x).now = s.now := (rfl)
@[simp] theorem State.withRegs_free (s : State) (x : Regs) : (s.withRegs x).free = s.free := (rfl)
@[simp] theorem State.withRegs_pending (s : State) (x : Regs) : (s.withRegs x).pending = s.pending := (rfl)
@[simp] theorem State.withRegs_out (s : State) (x : Regs) : (s.withRegs x).out = s.out := (rfl)
@[simp] theorem State.withRegs_regs (s : State) (x : Regs) : (s.withRegs x).regs = x := (rfl)
@[simp] theorem State.withRegs_ret (s : State) (x : Regs) : (s.withRegs x).ret = s.ret := (rfl)
@[simp] theorem State.withRegs_evt (s : State) (x : Regs) : (s.withRegs x).evt = s.evt := (rfl)
@[simp] theorem State.withRegs_flt (s : State) (x : Regs) : (s.withRegs x).flt = s.flt := (rfl)
@[simp] theorem State.withRegs_obs (s : State) (x : Regs) : (s.withRegs x).obs = s.obs := (rfl)
@[simp] theorem State.withRegs_host (s : State) (x : Regs) : (s.withRegs x).host = s.host := (rfl)
@[simp] theorem State.withRegs_amap (s : State) (x : Regs) : (s.withRegs x).amap = s.amap := (rfl)
@[simp] theorem State.withRegs_mem (s : State) (x : Regs) : (s.withRegs x).mem = s.mem := (rfl)
@[simp] theorem State.withRegs_home (s : State) (x : Regs) : (s.withRegs x).home = s.home := (rfl)
@[simp] theorem State.withRegs_ddr (s : State) (x : Regs) : (s.withRegs x).ddr = s.ddr := (rfl)
@[simp] theorem State.withRegs_tier (s : State) (x : Regs) : (s.withRegs x).tier = s.tier := (rfl)
@[simp] theorem State.withRegs_dm (s : State) (x : Regs) : (s.withRegs x).dm = s.dm := (rfl)
@[simp] theorem State.withRegs_dunas (s : State) (x : Regs) : (s.withRegs x).dunas = s.dunas := (rfl)
@[simp] theorem State.withRegs_brg (s : State) (x : Regs) : (s.withRegs x).brg = s.brg := (rfl)
@[simp] theorem State.withRegs_clk (s : State) (x : Regs) : (s.withRegs x).clk = s.clk := (rfl)
@[simp] theorem State.withRegs_hsc (s : State) (x : Regs) : (s.withRegs x).hsc = s.hsc := (rfl)
@[simp] theorem State.withRegs_boot (s : State) (x : Regs) : (s.withRegs x).boot = s.boot := (rfl)
@[simp] theorem State.withRegs_core (s : State) (x : Regs) : (s.withRegs x).core = s.core := (rfl)
@[simp] theorem State.withRegs_mgmt (s : State) (x : Regs) : (s.withRegs x).mgmt = s.mgmt := (rfl)

@[simp] theorem State.withRet_now (s : State) (x : Retained) : (s.withRet x).now = s.now := (rfl)
@[simp] theorem State.withRet_free (s : State) (x : Retained) : (s.withRet x).free = s.free := (rfl)
@[simp] theorem State.withRet_pending (s : State) (x : Retained) : (s.withRet x).pending = s.pending := (rfl)
@[simp] theorem State.withRet_out (s : State) (x : Retained) : (s.withRet x).out = s.out := (rfl)
@[simp] theorem State.withRet_regs (s : State) (x : Retained) : (s.withRet x).regs = s.regs := (rfl)
@[simp] theorem State.withRet_ret (s : State) (x : Retained) : (s.withRet x).ret = x := (rfl)
@[simp] theorem State.withRet_evt (s : State) (x : Retained) : (s.withRet x).evt = s.evt := (rfl)
@[simp] theorem State.withRet_flt (s : State) (x : Retained) : (s.withRet x).flt = s.flt := (rfl)
@[simp] theorem State.withRet_obs (s : State) (x : Retained) : (s.withRet x).obs = s.obs := (rfl)
@[simp] theorem State.withRet_host (s : State) (x : Retained) : (s.withRet x).host = s.host := (rfl)
@[simp] theorem State.withRet_amap (s : State) (x : Retained) : (s.withRet x).amap = s.amap := (rfl)
@[simp] theorem State.withRet_mem (s : State) (x : Retained) : (s.withRet x).mem = s.mem := (rfl)
@[simp] theorem State.withRet_home (s : State) (x : Retained) : (s.withRet x).home = s.home := (rfl)
@[simp] theorem State.withRet_ddr (s : State) (x : Retained) : (s.withRet x).ddr = s.ddr := (rfl)
@[simp] theorem State.withRet_tier (s : State) (x : Retained) : (s.withRet x).tier = s.tier := (rfl)
@[simp] theorem State.withRet_dm (s : State) (x : Retained) : (s.withRet x).dm = s.dm := (rfl)
@[simp] theorem State.withRet_dunas (s : State) (x : Retained) : (s.withRet x).dunas = s.dunas := (rfl)
@[simp] theorem State.withRet_brg (s : State) (x : Retained) : (s.withRet x).brg = s.brg := (rfl)
@[simp] theorem State.withRet_clk (s : State) (x : Retained) : (s.withRet x).clk = s.clk := (rfl)
@[simp] theorem State.withRet_hsc (s : State) (x : Retained) : (s.withRet x).hsc = s.hsc := (rfl)
@[simp] theorem State.withRet_boot (s : State) (x : Retained) : (s.withRet x).boot = s.boot := (rfl)
@[simp] theorem State.withRet_core (s : State) (x : Retained) : (s.withRet x).core = s.core := (rfl)
@[simp] theorem State.withRet_mgmt (s : State) (x : Retained) : (s.withRet x).mgmt = s.mgmt := (rfl)

@[simp] theorem State.withEvt_now (s : State) (x : Events) : (s.withEvt x).now = s.now := (rfl)
@[simp] theorem State.withEvt_free (s : State) (x : Events) : (s.withEvt x).free = s.free := (rfl)
@[simp] theorem State.withEvt_pending (s : State) (x : Events) : (s.withEvt x).pending = s.pending := (rfl)
@[simp] theorem State.withEvt_out (s : State) (x : Events) : (s.withEvt x).out = s.out := (rfl)
@[simp] theorem State.withEvt_regs (s : State) (x : Events) : (s.withEvt x).regs = s.regs := (rfl)
@[simp] theorem State.withEvt_ret (s : State) (x : Events) : (s.withEvt x).ret = s.ret := (rfl)
@[simp] theorem State.withEvt_evt (s : State) (x : Events) : (s.withEvt x).evt = x := (rfl)
@[simp] theorem State.withEvt_flt (s : State) (x : Events) : (s.withEvt x).flt = s.flt := (rfl)
@[simp] theorem State.withEvt_obs (s : State) (x : Events) : (s.withEvt x).obs = s.obs := (rfl)
@[simp] theorem State.withEvt_host (s : State) (x : Events) : (s.withEvt x).host = s.host := (rfl)
@[simp] theorem State.withEvt_amap (s : State) (x : Events) : (s.withEvt x).amap = s.amap := (rfl)
@[simp] theorem State.withEvt_mem (s : State) (x : Events) : (s.withEvt x).mem = s.mem := (rfl)
@[simp] theorem State.withEvt_home (s : State) (x : Events) : (s.withEvt x).home = s.home := (rfl)
@[simp] theorem State.withEvt_ddr (s : State) (x : Events) : (s.withEvt x).ddr = s.ddr := (rfl)
@[simp] theorem State.withEvt_tier (s : State) (x : Events) : (s.withEvt x).tier = s.tier := (rfl)
@[simp] theorem State.withEvt_dm (s : State) (x : Events) : (s.withEvt x).dm = s.dm := (rfl)
@[simp] theorem State.withEvt_dunas (s : State) (x : Events) : (s.withEvt x).dunas = s.dunas := (rfl)
@[simp] theorem State.withEvt_brg (s : State) (x : Events) : (s.withEvt x).brg = s.brg := (rfl)
@[simp] theorem State.withEvt_clk (s : State) (x : Events) : (s.withEvt x).clk = s.clk := (rfl)
@[simp] theorem State.withEvt_hsc (s : State) (x : Events) : (s.withEvt x).hsc = s.hsc := (rfl)
@[simp] theorem State.withEvt_boot (s : State) (x : Events) : (s.withEvt x).boot = s.boot := (rfl)
@[simp] theorem State.withEvt_core (s : State) (x : Events) : (s.withEvt x).core = s.core := (rfl)
@[simp] theorem State.withEvt_mgmt (s : State) (x : Events) : (s.withEvt x).mgmt = s.mgmt := (rfl)

@[simp] theorem State.withFlt_now (s : State) (x : Faults) : (s.withFlt x).now = s.now := (rfl)
@[simp] theorem State.withFlt_free (s : State) (x : Faults) : (s.withFlt x).free = s.free := (rfl)
@[simp] theorem State.withFlt_pending (s : State) (x : Faults) : (s.withFlt x).pending = s.pending := (rfl)
@[simp] theorem State.withFlt_out (s : State) (x : Faults) : (s.withFlt x).out = s.out := (rfl)
@[simp] theorem State.withFlt_regs (s : State) (x : Faults) : (s.withFlt x).regs = s.regs := (rfl)
@[simp] theorem State.withFlt_ret (s : State) (x : Faults) : (s.withFlt x).ret = s.ret := (rfl)
@[simp] theorem State.withFlt_evt (s : State) (x : Faults) : (s.withFlt x).evt = s.evt := (rfl)
@[simp] theorem State.withFlt_flt (s : State) (x : Faults) : (s.withFlt x).flt = x := (rfl)
@[simp] theorem State.withFlt_obs (s : State) (x : Faults) : (s.withFlt x).obs = s.obs := (rfl)
@[simp] theorem State.withFlt_host (s : State) (x : Faults) : (s.withFlt x).host = s.host := (rfl)
@[simp] theorem State.withFlt_amap (s : State) (x : Faults) : (s.withFlt x).amap = s.amap := (rfl)
@[simp] theorem State.withFlt_mem (s : State) (x : Faults) : (s.withFlt x).mem = s.mem := (rfl)
@[simp] theorem State.withFlt_home (s : State) (x : Faults) : (s.withFlt x).home = s.home := (rfl)
@[simp] theorem State.withFlt_ddr (s : State) (x : Faults) : (s.withFlt x).ddr = s.ddr := (rfl)
@[simp] theorem State.withFlt_tier (s : State) (x : Faults) : (s.withFlt x).tier = s.tier := (rfl)
@[simp] theorem State.withFlt_dm (s : State) (x : Faults) : (s.withFlt x).dm = s.dm := (rfl)
@[simp] theorem State.withFlt_dunas (s : State) (x : Faults) : (s.withFlt x).dunas = s.dunas := (rfl)
@[simp] theorem State.withFlt_brg (s : State) (x : Faults) : (s.withFlt x).brg = s.brg := (rfl)
@[simp] theorem State.withFlt_clk (s : State) (x : Faults) : (s.withFlt x).clk = s.clk := (rfl)
@[simp] theorem State.withFlt_hsc (s : State) (x : Faults) : (s.withFlt x).hsc = s.hsc := (rfl)
@[simp] theorem State.withFlt_boot (s : State) (x : Faults) : (s.withFlt x).boot = s.boot := (rfl)
@[simp] theorem State.withFlt_core (s : State) (x : Faults) : (s.withFlt x).core = s.core := (rfl)
@[simp] theorem State.withFlt_mgmt (s : State) (x : Faults) : (s.withFlt x).mgmt = s.mgmt := (rfl)

@[simp] theorem State.withObs_now (s : State) (x : Observe) : (s.withObs x).now = s.now := (rfl)
@[simp] theorem State.withObs_free (s : State) (x : Observe) : (s.withObs x).free = s.free := (rfl)
@[simp] theorem State.withObs_pending (s : State) (x : Observe) : (s.withObs x).pending = s.pending := (rfl)
@[simp] theorem State.withObs_out (s : State) (x : Observe) : (s.withObs x).out = s.out := (rfl)
@[simp] theorem State.withObs_regs (s : State) (x : Observe) : (s.withObs x).regs = s.regs := (rfl)
@[simp] theorem State.withObs_ret (s : State) (x : Observe) : (s.withObs x).ret = s.ret := (rfl)
@[simp] theorem State.withObs_evt (s : State) (x : Observe) : (s.withObs x).evt = s.evt := (rfl)
@[simp] theorem State.withObs_flt (s : State) (x : Observe) : (s.withObs x).flt = s.flt := (rfl)
@[simp] theorem State.withObs_obs (s : State) (x : Observe) : (s.withObs x).obs = x := (rfl)
@[simp] theorem State.withObs_host (s : State) (x : Observe) : (s.withObs x).host = s.host := (rfl)
@[simp] theorem State.withObs_amap (s : State) (x : Observe) : (s.withObs x).amap = s.amap := (rfl)
@[simp] theorem State.withObs_mem (s : State) (x : Observe) : (s.withObs x).mem = s.mem := (rfl)
@[simp] theorem State.withObs_home (s : State) (x : Observe) : (s.withObs x).home = s.home := (rfl)
@[simp] theorem State.withObs_ddr (s : State) (x : Observe) : (s.withObs x).ddr = s.ddr := (rfl)
@[simp] theorem State.withObs_tier (s : State) (x : Observe) : (s.withObs x).tier = s.tier := (rfl)
@[simp] theorem State.withObs_dm (s : State) (x : Observe) : (s.withObs x).dm = s.dm := (rfl)
@[simp] theorem State.withObs_dunas (s : State) (x : Observe) : (s.withObs x).dunas = s.dunas := (rfl)
@[simp] theorem State.withObs_brg (s : State) (x : Observe) : (s.withObs x).brg = s.brg := (rfl)
@[simp] theorem State.withObs_clk (s : State) (x : Observe) : (s.withObs x).clk = s.clk := (rfl)
@[simp] theorem State.withObs_hsc (s : State) (x : Observe) : (s.withObs x).hsc = s.hsc := (rfl)
@[simp] theorem State.withObs_boot (s : State) (x : Observe) : (s.withObs x).boot = s.boot := (rfl)
@[simp] theorem State.withObs_core (s : State) (x : Observe) : (s.withObs x).core = s.core := (rfl)
@[simp] theorem State.withObs_mgmt (s : State) (x : Observe) : (s.withObs x).mgmt = s.mgmt := (rfl)

@[simp] theorem State.withHost_now (s : State) (x : HostPorts) : (s.withHost x).now = s.now := (rfl)
@[simp] theorem State.withHost_free (s : State) (x : HostPorts) : (s.withHost x).free = s.free := (rfl)
@[simp] theorem State.withHost_pending (s : State) (x : HostPorts) : (s.withHost x).pending = s.pending := (rfl)
@[simp] theorem State.withHost_out (s : State) (x : HostPorts) : (s.withHost x).out = s.out := (rfl)
@[simp] theorem State.withHost_regs (s : State) (x : HostPorts) : (s.withHost x).regs = s.regs := (rfl)
@[simp] theorem State.withHost_ret (s : State) (x : HostPorts) : (s.withHost x).ret = s.ret := (rfl)
@[simp] theorem State.withHost_evt (s : State) (x : HostPorts) : (s.withHost x).evt = s.evt := (rfl)
@[simp] theorem State.withHost_flt (s : State) (x : HostPorts) : (s.withHost x).flt = s.flt := (rfl)
@[simp] theorem State.withHost_obs (s : State) (x : HostPorts) : (s.withHost x).obs = s.obs := (rfl)
@[simp] theorem State.withHost_host (s : State) (x : HostPorts) : (s.withHost x).host = x := (rfl)
@[simp] theorem State.withHost_amap (s : State) (x : HostPorts) : (s.withHost x).amap = s.amap := (rfl)
@[simp] theorem State.withHost_mem (s : State) (x : HostPorts) : (s.withHost x).mem = s.mem := (rfl)
@[simp] theorem State.withHost_home (s : State) (x : HostPorts) : (s.withHost x).home = s.home := (rfl)
@[simp] theorem State.withHost_ddr (s : State) (x : HostPorts) : (s.withHost x).ddr = s.ddr := (rfl)
@[simp] theorem State.withHost_tier (s : State) (x : HostPorts) : (s.withHost x).tier = s.tier := (rfl)
@[simp] theorem State.withHost_dm (s : State) (x : HostPorts) : (s.withHost x).dm = s.dm := (rfl)
@[simp] theorem State.withHost_dunas (s : State) (x : HostPorts) : (s.withHost x).dunas = s.dunas := (rfl)
@[simp] theorem State.withHost_brg (s : State) (x : HostPorts) : (s.withHost x).brg = s.brg := (rfl)
@[simp] theorem State.withHost_clk (s : State) (x : HostPorts) : (s.withHost x).clk = s.clk := (rfl)
@[simp] theorem State.withHost_hsc (s : State) (x : HostPorts) : (s.withHost x).hsc = s.hsc := (rfl)
@[simp] theorem State.withHost_boot (s : State) (x : HostPorts) : (s.withHost x).boot = s.boot := (rfl)
@[simp] theorem State.withHost_core (s : State) (x : HostPorts) : (s.withHost x).core = s.core := (rfl)
@[simp] theorem State.withHost_mgmt (s : State) (x : HostPorts) : (s.withHost x).mgmt = s.mgmt := (rfl)

@[simp] theorem State.withAmap_now (s : State) (x : AddressMap) : (s.withAmap x).now = s.now := (rfl)
@[simp] theorem State.withAmap_free (s : State) (x : AddressMap) : (s.withAmap x).free = s.free := (rfl)
@[simp] theorem State.withAmap_pending (s : State) (x : AddressMap) : (s.withAmap x).pending = s.pending := (rfl)
@[simp] theorem State.withAmap_out (s : State) (x : AddressMap) : (s.withAmap x).out = s.out := (rfl)
@[simp] theorem State.withAmap_regs (s : State) (x : AddressMap) : (s.withAmap x).regs = s.regs := (rfl)
@[simp] theorem State.withAmap_ret (s : State) (x : AddressMap) : (s.withAmap x).ret = s.ret := (rfl)
@[simp] theorem State.withAmap_evt (s : State) (x : AddressMap) : (s.withAmap x).evt = s.evt := (rfl)
@[simp] theorem State.withAmap_flt (s : State) (x : AddressMap) : (s.withAmap x).flt = s.flt := (rfl)
@[simp] theorem State.withAmap_obs (s : State) (x : AddressMap) : (s.withAmap x).obs = s.obs := (rfl)
@[simp] theorem State.withAmap_host (s : State) (x : AddressMap) : (s.withAmap x).host = s.host := (rfl)
@[simp] theorem State.withAmap_amap (s : State) (x : AddressMap) : (s.withAmap x).amap = x := (rfl)
@[simp] theorem State.withAmap_mem (s : State) (x : AddressMap) : (s.withAmap x).mem = s.mem := (rfl)
@[simp] theorem State.withAmap_home (s : State) (x : AddressMap) : (s.withAmap x).home = s.home := (rfl)
@[simp] theorem State.withAmap_ddr (s : State) (x : AddressMap) : (s.withAmap x).ddr = s.ddr := (rfl)
@[simp] theorem State.withAmap_tier (s : State) (x : AddressMap) : (s.withAmap x).tier = s.tier := (rfl)
@[simp] theorem State.withAmap_dm (s : State) (x : AddressMap) : (s.withAmap x).dm = s.dm := (rfl)
@[simp] theorem State.withAmap_dunas (s : State) (x : AddressMap) : (s.withAmap x).dunas = s.dunas := (rfl)
@[simp] theorem State.withAmap_brg (s : State) (x : AddressMap) : (s.withAmap x).brg = s.brg := (rfl)
@[simp] theorem State.withAmap_clk (s : State) (x : AddressMap) : (s.withAmap x).clk = s.clk := (rfl)
@[simp] theorem State.withAmap_hsc (s : State) (x : AddressMap) : (s.withAmap x).hsc = s.hsc := (rfl)
@[simp] theorem State.withAmap_boot (s : State) (x : AddressMap) : (s.withAmap x).boot = s.boot := (rfl)
@[simp] theorem State.withAmap_core (s : State) (x : AddressMap) : (s.withAmap x).core = s.core := (rfl)
@[simp] theorem State.withAmap_mgmt (s : State) (x : AddressMap) : (s.withAmap x).mgmt = s.mgmt := (rfl)

@[simp] theorem State.withMem_now (s : State) (x : Media) : (s.withMem x).now = s.now := (rfl)
@[simp] theorem State.withMem_free (s : State) (x : Media) : (s.withMem x).free = s.free := (rfl)
@[simp] theorem State.withMem_pending (s : State) (x : Media) : (s.withMem x).pending = s.pending := (rfl)
@[simp] theorem State.withMem_out (s : State) (x : Media) : (s.withMem x).out = s.out := (rfl)
@[simp] theorem State.withMem_regs (s : State) (x : Media) : (s.withMem x).regs = s.regs := (rfl)
@[simp] theorem State.withMem_ret (s : State) (x : Media) : (s.withMem x).ret = s.ret := (rfl)
@[simp] theorem State.withMem_evt (s : State) (x : Media) : (s.withMem x).evt = s.evt := (rfl)
@[simp] theorem State.withMem_flt (s : State) (x : Media) : (s.withMem x).flt = s.flt := (rfl)
@[simp] theorem State.withMem_obs (s : State) (x : Media) : (s.withMem x).obs = s.obs := (rfl)
@[simp] theorem State.withMem_host (s : State) (x : Media) : (s.withMem x).host = s.host := (rfl)
@[simp] theorem State.withMem_amap (s : State) (x : Media) : (s.withMem x).amap = s.amap := (rfl)
@[simp] theorem State.withMem_mem (s : State) (x : Media) : (s.withMem x).mem = x := (rfl)
@[simp] theorem State.withMem_home (s : State) (x : Media) : (s.withMem x).home = s.home := (rfl)
@[simp] theorem State.withMem_ddr (s : State) (x : Media) : (s.withMem x).ddr = s.ddr := (rfl)
@[simp] theorem State.withMem_tier (s : State) (x : Media) : (s.withMem x).tier = s.tier := (rfl)
@[simp] theorem State.withMem_dm (s : State) (x : Media) : (s.withMem x).dm = s.dm := (rfl)
@[simp] theorem State.withMem_dunas (s : State) (x : Media) : (s.withMem x).dunas = s.dunas := (rfl)
@[simp] theorem State.withMem_brg (s : State) (x : Media) : (s.withMem x).brg = s.brg := (rfl)
@[simp] theorem State.withMem_clk (s : State) (x : Media) : (s.withMem x).clk = s.clk := (rfl)
@[simp] theorem State.withMem_hsc (s : State) (x : Media) : (s.withMem x).hsc = s.hsc := (rfl)
@[simp] theorem State.withMem_boot (s : State) (x : Media) : (s.withMem x).boot = s.boot := (rfl)
@[simp] theorem State.withMem_core (s : State) (x : Media) : (s.withMem x).core = s.core := (rfl)
@[simp] theorem State.withMem_mgmt (s : State) (x : Media) : (s.withMem x).mgmt = s.mgmt := (rfl)

@[simp] theorem State.withHome_now (s : State) (x : HomeSlices) : (s.withHome x).now = s.now := (rfl)
@[simp] theorem State.withHome_free (s : State) (x : HomeSlices) : (s.withHome x).free = s.free := (rfl)
@[simp] theorem State.withHome_pending (s : State) (x : HomeSlices) : (s.withHome x).pending = s.pending := (rfl)
@[simp] theorem State.withHome_out (s : State) (x : HomeSlices) : (s.withHome x).out = s.out := (rfl)
@[simp] theorem State.withHome_regs (s : State) (x : HomeSlices) : (s.withHome x).regs = s.regs := (rfl)
@[simp] theorem State.withHome_ret (s : State) (x : HomeSlices) : (s.withHome x).ret = s.ret := (rfl)
@[simp] theorem State.withHome_evt (s : State) (x : HomeSlices) : (s.withHome x).evt = s.evt := (rfl)
@[simp] theorem State.withHome_flt (s : State) (x : HomeSlices) : (s.withHome x).flt = s.flt := (rfl)
@[simp] theorem State.withHome_obs (s : State) (x : HomeSlices) : (s.withHome x).obs = s.obs := (rfl)
@[simp] theorem State.withHome_host (s : State) (x : HomeSlices) : (s.withHome x).host = s.host := (rfl)
@[simp] theorem State.withHome_amap (s : State) (x : HomeSlices) : (s.withHome x).amap = s.amap := (rfl)
@[simp] theorem State.withHome_mem (s : State) (x : HomeSlices) : (s.withHome x).mem = s.mem := (rfl)
@[simp] theorem State.withHome_home (s : State) (x : HomeSlices) : (s.withHome x).home = x := (rfl)
@[simp] theorem State.withHome_ddr (s : State) (x : HomeSlices) : (s.withHome x).ddr = s.ddr := (rfl)
@[simp] theorem State.withHome_tier (s : State) (x : HomeSlices) : (s.withHome x).tier = s.tier := (rfl)
@[simp] theorem State.withHome_dm (s : State) (x : HomeSlices) : (s.withHome x).dm = s.dm := (rfl)
@[simp] theorem State.withHome_dunas (s : State) (x : HomeSlices) : (s.withHome x).dunas = s.dunas := (rfl)
@[simp] theorem State.withHome_brg (s : State) (x : HomeSlices) : (s.withHome x).brg = s.brg := (rfl)
@[simp] theorem State.withHome_clk (s : State) (x : HomeSlices) : (s.withHome x).clk = s.clk := (rfl)
@[simp] theorem State.withHome_hsc (s : State) (x : HomeSlices) : (s.withHome x).hsc = s.hsc := (rfl)
@[simp] theorem State.withHome_boot (s : State) (x : HomeSlices) : (s.withHome x).boot = s.boot := (rfl)
@[simp] theorem State.withHome_core (s : State) (x : HomeSlices) : (s.withHome x).core = s.core := (rfl)
@[simp] theorem State.withHome_mgmt (s : State) (x : HomeSlices) : (s.withHome x).mgmt = s.mgmt := (rfl)

@[simp] theorem State.withDdr_now (s : State) (x : Table Channel) : (s.withDdr x).now = s.now := (rfl)
@[simp] theorem State.withDdr_free (s : State) (x : Table Channel) : (s.withDdr x).free = s.free := (rfl)
@[simp] theorem State.withDdr_pending (s : State) (x : Table Channel) : (s.withDdr x).pending = s.pending := (rfl)
@[simp] theorem State.withDdr_out (s : State) (x : Table Channel) : (s.withDdr x).out = s.out := (rfl)
@[simp] theorem State.withDdr_regs (s : State) (x : Table Channel) : (s.withDdr x).regs = s.regs := (rfl)
@[simp] theorem State.withDdr_ret (s : State) (x : Table Channel) : (s.withDdr x).ret = s.ret := (rfl)
@[simp] theorem State.withDdr_evt (s : State) (x : Table Channel) : (s.withDdr x).evt = s.evt := (rfl)
@[simp] theorem State.withDdr_flt (s : State) (x : Table Channel) : (s.withDdr x).flt = s.flt := (rfl)
@[simp] theorem State.withDdr_obs (s : State) (x : Table Channel) : (s.withDdr x).obs = s.obs := (rfl)
@[simp] theorem State.withDdr_host (s : State) (x : Table Channel) : (s.withDdr x).host = s.host := (rfl)
@[simp] theorem State.withDdr_amap (s : State) (x : Table Channel) : (s.withDdr x).amap = s.amap := (rfl)
@[simp] theorem State.withDdr_mem (s : State) (x : Table Channel) : (s.withDdr x).mem = s.mem := (rfl)
@[simp] theorem State.withDdr_home (s : State) (x : Table Channel) : (s.withDdr x).home = s.home := (rfl)
@[simp] theorem State.withDdr_ddr (s : State) (x : Table Channel) : (s.withDdr x).ddr = x := (rfl)
@[simp] theorem State.withDdr_tier (s : State) (x : Table Channel) : (s.withDdr x).tier = s.tier := (rfl)
@[simp] theorem State.withDdr_dm (s : State) (x : Table Channel) : (s.withDdr x).dm = s.dm := (rfl)
@[simp] theorem State.withDdr_dunas (s : State) (x : Table Channel) : (s.withDdr x).dunas = s.dunas := (rfl)
@[simp] theorem State.withDdr_brg (s : State) (x : Table Channel) : (s.withDdr x).brg = s.brg := (rfl)
@[simp] theorem State.withDdr_clk (s : State) (x : Table Channel) : (s.withDdr x).clk = s.clk := (rfl)
@[simp] theorem State.withDdr_hsc (s : State) (x : Table Channel) : (s.withDdr x).hsc = s.hsc := (rfl)
@[simp] theorem State.withDdr_boot (s : State) (x : Table Channel) : (s.withDdr x).boot = s.boot := (rfl)
@[simp] theorem State.withDdr_core (s : State) (x : Table Channel) : (s.withDdr x).core = s.core := (rfl)
@[simp] theorem State.withDdr_mgmt (s : State) (x : Table Channel) : (s.withDdr x).mgmt = s.mgmt := (rfl)

@[simp] theorem State.withTier_now (s : State) (x : Tier) : (s.withTier x).now = s.now := (rfl)
@[simp] theorem State.withTier_free (s : State) (x : Tier) : (s.withTier x).free = s.free := (rfl)
@[simp] theorem State.withTier_pending (s : State) (x : Tier) : (s.withTier x).pending = s.pending := (rfl)
@[simp] theorem State.withTier_out (s : State) (x : Tier) : (s.withTier x).out = s.out := (rfl)
@[simp] theorem State.withTier_regs (s : State) (x : Tier) : (s.withTier x).regs = s.regs := (rfl)
@[simp] theorem State.withTier_ret (s : State) (x : Tier) : (s.withTier x).ret = s.ret := (rfl)
@[simp] theorem State.withTier_evt (s : State) (x : Tier) : (s.withTier x).evt = s.evt := (rfl)
@[simp] theorem State.withTier_flt (s : State) (x : Tier) : (s.withTier x).flt = s.flt := (rfl)
@[simp] theorem State.withTier_obs (s : State) (x : Tier) : (s.withTier x).obs = s.obs := (rfl)
@[simp] theorem State.withTier_host (s : State) (x : Tier) : (s.withTier x).host = s.host := (rfl)
@[simp] theorem State.withTier_amap (s : State) (x : Tier) : (s.withTier x).amap = s.amap := (rfl)
@[simp] theorem State.withTier_mem (s : State) (x : Tier) : (s.withTier x).mem = s.mem := (rfl)
@[simp] theorem State.withTier_home (s : State) (x : Tier) : (s.withTier x).home = s.home := (rfl)
@[simp] theorem State.withTier_ddr (s : State) (x : Tier) : (s.withTier x).ddr = s.ddr := (rfl)
@[simp] theorem State.withTier_tier (s : State) (x : Tier) : (s.withTier x).tier = x := (rfl)
@[simp] theorem State.withTier_dm (s : State) (x : Tier) : (s.withTier x).dm = s.dm := (rfl)
@[simp] theorem State.withTier_dunas (s : State) (x : Tier) : (s.withTier x).dunas = s.dunas := (rfl)
@[simp] theorem State.withTier_brg (s : State) (x : Tier) : (s.withTier x).brg = s.brg := (rfl)
@[simp] theorem State.withTier_clk (s : State) (x : Tier) : (s.withTier x).clk = s.clk := (rfl)
@[simp] theorem State.withTier_hsc (s : State) (x : Tier) : (s.withTier x).hsc = s.hsc := (rfl)
@[simp] theorem State.withTier_boot (s : State) (x : Tier) : (s.withTier x).boot = s.boot := (rfl)
@[simp] theorem State.withTier_core (s : State) (x : Tier) : (s.withTier x).core = s.core := (rfl)
@[simp] theorem State.withTier_mgmt (s : State) (x : Tier) : (s.withTier x).mgmt = s.mgmt := (rfl)

@[simp] theorem State.withDm_now (s : State) (x : Table DmQueue) : (s.withDm x).now = s.now := (rfl)
@[simp] theorem State.withDm_free (s : State) (x : Table DmQueue) : (s.withDm x).free = s.free := (rfl)
@[simp] theorem State.withDm_pending (s : State) (x : Table DmQueue) : (s.withDm x).pending = s.pending := (rfl)
@[simp] theorem State.withDm_out (s : State) (x : Table DmQueue) : (s.withDm x).out = s.out := (rfl)
@[simp] theorem State.withDm_regs (s : State) (x : Table DmQueue) : (s.withDm x).regs = s.regs := (rfl)
@[simp] theorem State.withDm_ret (s : State) (x : Table DmQueue) : (s.withDm x).ret = s.ret := (rfl)
@[simp] theorem State.withDm_evt (s : State) (x : Table DmQueue) : (s.withDm x).evt = s.evt := (rfl)
@[simp] theorem State.withDm_flt (s : State) (x : Table DmQueue) : (s.withDm x).flt = s.flt := (rfl)
@[simp] theorem State.withDm_obs (s : State) (x : Table DmQueue) : (s.withDm x).obs = s.obs := (rfl)
@[simp] theorem State.withDm_host (s : State) (x : Table DmQueue) : (s.withDm x).host = s.host := (rfl)
@[simp] theorem State.withDm_amap (s : State) (x : Table DmQueue) : (s.withDm x).amap = s.amap := (rfl)
@[simp] theorem State.withDm_mem (s : State) (x : Table DmQueue) : (s.withDm x).mem = s.mem := (rfl)
@[simp] theorem State.withDm_home (s : State) (x : Table DmQueue) : (s.withDm x).home = s.home := (rfl)
@[simp] theorem State.withDm_ddr (s : State) (x : Table DmQueue) : (s.withDm x).ddr = s.ddr := (rfl)
@[simp] theorem State.withDm_tier (s : State) (x : Table DmQueue) : (s.withDm x).tier = s.tier := (rfl)
@[simp] theorem State.withDm_dm (s : State) (x : Table DmQueue) : (s.withDm x).dm = x := (rfl)
@[simp] theorem State.withDm_dunas (s : State) (x : Table DmQueue) : (s.withDm x).dunas = s.dunas := (rfl)
@[simp] theorem State.withDm_brg (s : State) (x : Table DmQueue) : (s.withDm x).brg = s.brg := (rfl)
@[simp] theorem State.withDm_clk (s : State) (x : Table DmQueue) : (s.withDm x).clk = s.clk := (rfl)
@[simp] theorem State.withDm_hsc (s : State) (x : Table DmQueue) : (s.withDm x).hsc = s.hsc := (rfl)
@[simp] theorem State.withDm_boot (s : State) (x : Table DmQueue) : (s.withDm x).boot = s.boot := (rfl)
@[simp] theorem State.withDm_core (s : State) (x : Table DmQueue) : (s.withDm x).core = s.core := (rfl)
@[simp] theorem State.withDm_mgmt (s : State) (x : Table DmQueue) : (s.withDm x).mgmt = s.mgmt := (rfl)

@[simp] theorem State.withDunas_now (s : State) (x : Table ModuleEnd) : (s.withDunas x).now = s.now := (rfl)
@[simp] theorem State.withDunas_free (s : State) (x : Table ModuleEnd) : (s.withDunas x).free = s.free := (rfl)
@[simp] theorem State.withDunas_pending (s : State) (x : Table ModuleEnd) : (s.withDunas x).pending = s.pending := (rfl)
@[simp] theorem State.withDunas_out (s : State) (x : Table ModuleEnd) : (s.withDunas x).out = s.out := (rfl)
@[simp] theorem State.withDunas_regs (s : State) (x : Table ModuleEnd) : (s.withDunas x).regs = s.regs := (rfl)
@[simp] theorem State.withDunas_ret (s : State) (x : Table ModuleEnd) : (s.withDunas x).ret = s.ret := (rfl)
@[simp] theorem State.withDunas_evt (s : State) (x : Table ModuleEnd) : (s.withDunas x).evt = s.evt := (rfl)
@[simp] theorem State.withDunas_flt (s : State) (x : Table ModuleEnd) : (s.withDunas x).flt = s.flt := (rfl)
@[simp] theorem State.withDunas_obs (s : State) (x : Table ModuleEnd) : (s.withDunas x).obs = s.obs := (rfl)
@[simp] theorem State.withDunas_host (s : State) (x : Table ModuleEnd) : (s.withDunas x).host = s.host := (rfl)
@[simp] theorem State.withDunas_amap (s : State) (x : Table ModuleEnd) : (s.withDunas x).amap = s.amap := (rfl)
@[simp] theorem State.withDunas_mem (s : State) (x : Table ModuleEnd) : (s.withDunas x).mem = s.mem := (rfl)
@[simp] theorem State.withDunas_home (s : State) (x : Table ModuleEnd) : (s.withDunas x).home = s.home := (rfl)
@[simp] theorem State.withDunas_ddr (s : State) (x : Table ModuleEnd) : (s.withDunas x).ddr = s.ddr := (rfl)
@[simp] theorem State.withDunas_tier (s : State) (x : Table ModuleEnd) : (s.withDunas x).tier = s.tier := (rfl)
@[simp] theorem State.withDunas_dm (s : State) (x : Table ModuleEnd) : (s.withDunas x).dm = s.dm := (rfl)
@[simp] theorem State.withDunas_dunas (s : State) (x : Table ModuleEnd) : (s.withDunas x).dunas = x := (rfl)
@[simp] theorem State.withDunas_brg (s : State) (x : Table ModuleEnd) : (s.withDunas x).brg = s.brg := (rfl)
@[simp] theorem State.withDunas_clk (s : State) (x : Table ModuleEnd) : (s.withDunas x).clk = s.clk := (rfl)
@[simp] theorem State.withDunas_hsc (s : State) (x : Table ModuleEnd) : (s.withDunas x).hsc = s.hsc := (rfl)
@[simp] theorem State.withDunas_boot (s : State) (x : Table ModuleEnd) : (s.withDunas x).boot = s.boot := (rfl)
@[simp] theorem State.withDunas_core (s : State) (x : Table ModuleEnd) : (s.withDunas x).core = s.core := (rfl)
@[simp] theorem State.withDunas_mgmt (s : State) (x : Table ModuleEnd) : (s.withDunas x).mgmt = s.mgmt := (rfl)

@[simp] theorem State.withBrg_now (s : State) (x : BorageSite) : (s.withBrg x).now = s.now := (rfl)
@[simp] theorem State.withBrg_free (s : State) (x : BorageSite) : (s.withBrg x).free = s.free := (rfl)
@[simp] theorem State.withBrg_pending (s : State) (x : BorageSite) : (s.withBrg x).pending = s.pending := (rfl)
@[simp] theorem State.withBrg_out (s : State) (x : BorageSite) : (s.withBrg x).out = s.out := (rfl)
@[simp] theorem State.withBrg_regs (s : State) (x : BorageSite) : (s.withBrg x).regs = s.regs := (rfl)
@[simp] theorem State.withBrg_ret (s : State) (x : BorageSite) : (s.withBrg x).ret = s.ret := (rfl)
@[simp] theorem State.withBrg_evt (s : State) (x : BorageSite) : (s.withBrg x).evt = s.evt := (rfl)
@[simp] theorem State.withBrg_flt (s : State) (x : BorageSite) : (s.withBrg x).flt = s.flt := (rfl)
@[simp] theorem State.withBrg_obs (s : State) (x : BorageSite) : (s.withBrg x).obs = s.obs := (rfl)
@[simp] theorem State.withBrg_host (s : State) (x : BorageSite) : (s.withBrg x).host = s.host := (rfl)
@[simp] theorem State.withBrg_amap (s : State) (x : BorageSite) : (s.withBrg x).amap = s.amap := (rfl)
@[simp] theorem State.withBrg_mem (s : State) (x : BorageSite) : (s.withBrg x).mem = s.mem := (rfl)
@[simp] theorem State.withBrg_home (s : State) (x : BorageSite) : (s.withBrg x).home = s.home := (rfl)
@[simp] theorem State.withBrg_ddr (s : State) (x : BorageSite) : (s.withBrg x).ddr = s.ddr := (rfl)
@[simp] theorem State.withBrg_tier (s : State) (x : BorageSite) : (s.withBrg x).tier = s.tier := (rfl)
@[simp] theorem State.withBrg_dm (s : State) (x : BorageSite) : (s.withBrg x).dm = s.dm := (rfl)
@[simp] theorem State.withBrg_dunas (s : State) (x : BorageSite) : (s.withBrg x).dunas = s.dunas := (rfl)
@[simp] theorem State.withBrg_brg (s : State) (x : BorageSite) : (s.withBrg x).brg = x := (rfl)
@[simp] theorem State.withBrg_clk (s : State) (x : BorageSite) : (s.withBrg x).clk = s.clk := (rfl)
@[simp] theorem State.withBrg_hsc (s : State) (x : BorageSite) : (s.withBrg x).hsc = s.hsc := (rfl)
@[simp] theorem State.withBrg_boot (s : State) (x : BorageSite) : (s.withBrg x).boot = s.boot := (rfl)
@[simp] theorem State.withBrg_core (s : State) (x : BorageSite) : (s.withBrg x).core = s.core := (rfl)
@[simp] theorem State.withBrg_mgmt (s : State) (x : BorageSite) : (s.withBrg x).mgmt = s.mgmt := (rfl)

@[simp] theorem State.withClk_now (s : State) (x : Clocks) : (s.withClk x).now = s.now := (rfl)
@[simp] theorem State.withClk_free (s : State) (x : Clocks) : (s.withClk x).free = s.free := (rfl)
@[simp] theorem State.withClk_pending (s : State) (x : Clocks) : (s.withClk x).pending = s.pending := (rfl)
@[simp] theorem State.withClk_out (s : State) (x : Clocks) : (s.withClk x).out = s.out := (rfl)
@[simp] theorem State.withClk_regs (s : State) (x : Clocks) : (s.withClk x).regs = s.regs := (rfl)
@[simp] theorem State.withClk_ret (s : State) (x : Clocks) : (s.withClk x).ret = s.ret := (rfl)
@[simp] theorem State.withClk_evt (s : State) (x : Clocks) : (s.withClk x).evt = s.evt := (rfl)
@[simp] theorem State.withClk_flt (s : State) (x : Clocks) : (s.withClk x).flt = s.flt := (rfl)
@[simp] theorem State.withClk_obs (s : State) (x : Clocks) : (s.withClk x).obs = s.obs := (rfl)
@[simp] theorem State.withClk_host (s : State) (x : Clocks) : (s.withClk x).host = s.host := (rfl)
@[simp] theorem State.withClk_amap (s : State) (x : Clocks) : (s.withClk x).amap = s.amap := (rfl)
@[simp] theorem State.withClk_mem (s : State) (x : Clocks) : (s.withClk x).mem = s.mem := (rfl)
@[simp] theorem State.withClk_home (s : State) (x : Clocks) : (s.withClk x).home = s.home := (rfl)
@[simp] theorem State.withClk_ddr (s : State) (x : Clocks) : (s.withClk x).ddr = s.ddr := (rfl)
@[simp] theorem State.withClk_tier (s : State) (x : Clocks) : (s.withClk x).tier = s.tier := (rfl)
@[simp] theorem State.withClk_dm (s : State) (x : Clocks) : (s.withClk x).dm = s.dm := (rfl)
@[simp] theorem State.withClk_dunas (s : State) (x : Clocks) : (s.withClk x).dunas = s.dunas := (rfl)
@[simp] theorem State.withClk_brg (s : State) (x : Clocks) : (s.withClk x).brg = s.brg := (rfl)
@[simp] theorem State.withClk_clk (s : State) (x : Clocks) : (s.withClk x).clk = x := (rfl)
@[simp] theorem State.withClk_hsc (s : State) (x : Clocks) : (s.withClk x).hsc = s.hsc := (rfl)
@[simp] theorem State.withClk_boot (s : State) (x : Clocks) : (s.withClk x).boot = s.boot := (rfl)
@[simp] theorem State.withClk_core (s : State) (x : Clocks) : (s.withClk x).core = s.core := (rfl)
@[simp] theorem State.withClk_mgmt (s : State) (x : Clocks) : (s.withClk x).mgmt = s.mgmt := (rfl)

@[simp] theorem State.withHsc_now (s : State) (x : HotSwap) : (s.withHsc x).now = s.now := (rfl)
@[simp] theorem State.withHsc_free (s : State) (x : HotSwap) : (s.withHsc x).free = s.free := (rfl)
@[simp] theorem State.withHsc_pending (s : State) (x : HotSwap) : (s.withHsc x).pending = s.pending := (rfl)
@[simp] theorem State.withHsc_out (s : State) (x : HotSwap) : (s.withHsc x).out = s.out := (rfl)
@[simp] theorem State.withHsc_regs (s : State) (x : HotSwap) : (s.withHsc x).regs = s.regs := (rfl)
@[simp] theorem State.withHsc_ret (s : State) (x : HotSwap) : (s.withHsc x).ret = s.ret := (rfl)
@[simp] theorem State.withHsc_evt (s : State) (x : HotSwap) : (s.withHsc x).evt = s.evt := (rfl)
@[simp] theorem State.withHsc_flt (s : State) (x : HotSwap) : (s.withHsc x).flt = s.flt := (rfl)
@[simp] theorem State.withHsc_obs (s : State) (x : HotSwap) : (s.withHsc x).obs = s.obs := (rfl)
@[simp] theorem State.withHsc_host (s : State) (x : HotSwap) : (s.withHsc x).host = s.host := (rfl)
@[simp] theorem State.withHsc_amap (s : State) (x : HotSwap) : (s.withHsc x).amap = s.amap := (rfl)
@[simp] theorem State.withHsc_mem (s : State) (x : HotSwap) : (s.withHsc x).mem = s.mem := (rfl)
@[simp] theorem State.withHsc_home (s : State) (x : HotSwap) : (s.withHsc x).home = s.home := (rfl)
@[simp] theorem State.withHsc_ddr (s : State) (x : HotSwap) : (s.withHsc x).ddr = s.ddr := (rfl)
@[simp] theorem State.withHsc_tier (s : State) (x : HotSwap) : (s.withHsc x).tier = s.tier := (rfl)
@[simp] theorem State.withHsc_dm (s : State) (x : HotSwap) : (s.withHsc x).dm = s.dm := (rfl)
@[simp] theorem State.withHsc_dunas (s : State) (x : HotSwap) : (s.withHsc x).dunas = s.dunas := (rfl)
@[simp] theorem State.withHsc_brg (s : State) (x : HotSwap) : (s.withHsc x).brg = s.brg := (rfl)
@[simp] theorem State.withHsc_clk (s : State) (x : HotSwap) : (s.withHsc x).clk = s.clk := (rfl)
@[simp] theorem State.withHsc_hsc (s : State) (x : HotSwap) : (s.withHsc x).hsc = x := (rfl)
@[simp] theorem State.withHsc_boot (s : State) (x : HotSwap) : (s.withHsc x).boot = s.boot := (rfl)
@[simp] theorem State.withHsc_core (s : State) (x : HotSwap) : (s.withHsc x).core = s.core := (rfl)
@[simp] theorem State.withHsc_mgmt (s : State) (x : HotSwap) : (s.withHsc x).mgmt = s.mgmt := (rfl)

@[simp] theorem State.withBoot_now (s : State) (x : Boot) : (s.withBoot x).now = s.now := (rfl)
@[simp] theorem State.withBoot_free (s : State) (x : Boot) : (s.withBoot x).free = s.free := (rfl)
@[simp] theorem State.withBoot_pending (s : State) (x : Boot) : (s.withBoot x).pending = s.pending := (rfl)
@[simp] theorem State.withBoot_out (s : State) (x : Boot) : (s.withBoot x).out = s.out := (rfl)
@[simp] theorem State.withBoot_regs (s : State) (x : Boot) : (s.withBoot x).regs = s.regs := (rfl)
@[simp] theorem State.withBoot_ret (s : State) (x : Boot) : (s.withBoot x).ret = s.ret := (rfl)
@[simp] theorem State.withBoot_evt (s : State) (x : Boot) : (s.withBoot x).evt = s.evt := (rfl)
@[simp] theorem State.withBoot_flt (s : State) (x : Boot) : (s.withBoot x).flt = s.flt := (rfl)
@[simp] theorem State.withBoot_obs (s : State) (x : Boot) : (s.withBoot x).obs = s.obs := (rfl)
@[simp] theorem State.withBoot_host (s : State) (x : Boot) : (s.withBoot x).host = s.host := (rfl)
@[simp] theorem State.withBoot_amap (s : State) (x : Boot) : (s.withBoot x).amap = s.amap := (rfl)
@[simp] theorem State.withBoot_mem (s : State) (x : Boot) : (s.withBoot x).mem = s.mem := (rfl)
@[simp] theorem State.withBoot_home (s : State) (x : Boot) : (s.withBoot x).home = s.home := (rfl)
@[simp] theorem State.withBoot_ddr (s : State) (x : Boot) : (s.withBoot x).ddr = s.ddr := (rfl)
@[simp] theorem State.withBoot_tier (s : State) (x : Boot) : (s.withBoot x).tier = s.tier := (rfl)
@[simp] theorem State.withBoot_dm (s : State) (x : Boot) : (s.withBoot x).dm = s.dm := (rfl)
@[simp] theorem State.withBoot_dunas (s : State) (x : Boot) : (s.withBoot x).dunas = s.dunas := (rfl)
@[simp] theorem State.withBoot_brg (s : State) (x : Boot) : (s.withBoot x).brg = s.brg := (rfl)
@[simp] theorem State.withBoot_clk (s : State) (x : Boot) : (s.withBoot x).clk = s.clk := (rfl)
@[simp] theorem State.withBoot_hsc (s : State) (x : Boot) : (s.withBoot x).hsc = s.hsc := (rfl)
@[simp] theorem State.withBoot_boot (s : State) (x : Boot) : (s.withBoot x).boot = x := (rfl)
@[simp] theorem State.withBoot_core (s : State) (x : Boot) : (s.withBoot x).core = s.core := (rfl)
@[simp] theorem State.withBoot_mgmt (s : State) (x : Boot) : (s.withBoot x).mgmt = s.mgmt := (rfl)

@[simp] theorem State.withCore_now (s : State) (x : Cores) : (s.withCore x).now = s.now := (rfl)
@[simp] theorem State.withCore_free (s : State) (x : Cores) : (s.withCore x).free = s.free := (rfl)
@[simp] theorem State.withCore_pending (s : State) (x : Cores) : (s.withCore x).pending = s.pending := (rfl)
@[simp] theorem State.withCore_out (s : State) (x : Cores) : (s.withCore x).out = s.out := (rfl)
@[simp] theorem State.withCore_regs (s : State) (x : Cores) : (s.withCore x).regs = s.regs := (rfl)
@[simp] theorem State.withCore_ret (s : State) (x : Cores) : (s.withCore x).ret = s.ret := (rfl)
@[simp] theorem State.withCore_evt (s : State) (x : Cores) : (s.withCore x).evt = s.evt := (rfl)
@[simp] theorem State.withCore_flt (s : State) (x : Cores) : (s.withCore x).flt = s.flt := (rfl)
@[simp] theorem State.withCore_obs (s : State) (x : Cores) : (s.withCore x).obs = s.obs := (rfl)
@[simp] theorem State.withCore_host (s : State) (x : Cores) : (s.withCore x).host = s.host := (rfl)
@[simp] theorem State.withCore_amap (s : State) (x : Cores) : (s.withCore x).amap = s.amap := (rfl)
@[simp] theorem State.withCore_mem (s : State) (x : Cores) : (s.withCore x).mem = s.mem := (rfl)
@[simp] theorem State.withCore_home (s : State) (x : Cores) : (s.withCore x).home = s.home := (rfl)
@[simp] theorem State.withCore_ddr (s : State) (x : Cores) : (s.withCore x).ddr = s.ddr := (rfl)
@[simp] theorem State.withCore_tier (s : State) (x : Cores) : (s.withCore x).tier = s.tier := (rfl)
@[simp] theorem State.withCore_dm (s : State) (x : Cores) : (s.withCore x).dm = s.dm := (rfl)
@[simp] theorem State.withCore_dunas (s : State) (x : Cores) : (s.withCore x).dunas = s.dunas := (rfl)
@[simp] theorem State.withCore_brg (s : State) (x : Cores) : (s.withCore x).brg = s.brg := (rfl)
@[simp] theorem State.withCore_clk (s : State) (x : Cores) : (s.withCore x).clk = s.clk := (rfl)
@[simp] theorem State.withCore_hsc (s : State) (x : Cores) : (s.withCore x).hsc = s.hsc := (rfl)
@[simp] theorem State.withCore_boot (s : State) (x : Cores) : (s.withCore x).boot = s.boot := (rfl)
@[simp] theorem State.withCore_core (s : State) (x : Cores) : (s.withCore x).core = x := (rfl)
@[simp] theorem State.withCore_mgmt (s : State) (x : Cores) : (s.withCore x).mgmt = s.mgmt := (rfl)

@[simp] theorem State.withMgmt_now (s : State) (x : Management) : (s.withMgmt x).now = s.now := (rfl)
@[simp] theorem State.withMgmt_free (s : State) (x : Management) : (s.withMgmt x).free = s.free := (rfl)
@[simp] theorem State.withMgmt_pending (s : State) (x : Management) : (s.withMgmt x).pending = s.pending := (rfl)
@[simp] theorem State.withMgmt_out (s : State) (x : Management) : (s.withMgmt x).out = s.out := (rfl)
@[simp] theorem State.withMgmt_regs (s : State) (x : Management) : (s.withMgmt x).regs = s.regs := (rfl)
@[simp] theorem State.withMgmt_ret (s : State) (x : Management) : (s.withMgmt x).ret = s.ret := (rfl)
@[simp] theorem State.withMgmt_evt (s : State) (x : Management) : (s.withMgmt x).evt = s.evt := (rfl)
@[simp] theorem State.withMgmt_flt (s : State) (x : Management) : (s.withMgmt x).flt = s.flt := (rfl)
@[simp] theorem State.withMgmt_obs (s : State) (x : Management) : (s.withMgmt x).obs = s.obs := (rfl)
@[simp] theorem State.withMgmt_host (s : State) (x : Management) : (s.withMgmt x).host = s.host := (rfl)
@[simp] theorem State.withMgmt_amap (s : State) (x : Management) : (s.withMgmt x).amap = s.amap := (rfl)
@[simp] theorem State.withMgmt_mem (s : State) (x : Management) : (s.withMgmt x).mem = s.mem := (rfl)
@[simp] theorem State.withMgmt_home (s : State) (x : Management) : (s.withMgmt x).home = s.home := (rfl)
@[simp] theorem State.withMgmt_ddr (s : State) (x : Management) : (s.withMgmt x).ddr = s.ddr := (rfl)
@[simp] theorem State.withMgmt_tier (s : State) (x : Management) : (s.withMgmt x).tier = s.tier := (rfl)
@[simp] theorem State.withMgmt_dm (s : State) (x : Management) : (s.withMgmt x).dm = s.dm := (rfl)
@[simp] theorem State.withMgmt_dunas (s : State) (x : Management) : (s.withMgmt x).dunas = s.dunas := (rfl)
@[simp] theorem State.withMgmt_brg (s : State) (x : Management) : (s.withMgmt x).brg = s.brg := (rfl)
@[simp] theorem State.withMgmt_clk (s : State) (x : Management) : (s.withMgmt x).clk = s.clk := (rfl)
@[simp] theorem State.withMgmt_hsc (s : State) (x : Management) : (s.withMgmt x).hsc = s.hsc := (rfl)
@[simp] theorem State.withMgmt_boot (s : State) (x : Management) : (s.withMgmt x).boot = s.boot := (rfl)
@[simp] theorem State.withMgmt_core (s : State) (x : Management) : (s.withMgmt x).core = s.core := (rfl)
@[simp] theorem State.withMgmt_mgmt (s : State) (x : Management) : (s.withMgmt x).mgmt = x := (rfl)

end Sys2Proof.Machine
end

