-- ==== Sys2Proof/Laws/Through.lean ====
section
/-! SUPPORT. How a field passes through the operations that take an update: `when`, `each`, and a choice. -/

namespace Sys2Proof.Machine

theorem State.when_inv {α : Type} (g : State → α) (s : State) (b : Bool) (f : State → State) (h : ∀ t, g (f t) = g t) :
    g (s.when b f) = g s := by
  unfold State.when; split <;> simp [h]

theorem foldl_holds {σ α : Type} {P : σ → Prop} {f : σ → α → σ} {l : List α} {a : σ}
    (h0 : P a) (h : ∀ b x, P b → P (f b x)) : P (l.foldl f a) := by
  induction l generalizing a with
  | nil => exact h0
  | cons x l ih => exact ih (h a x h0)

theorem State.each_inv {α β : Type} (g : State → β) (s : State) (l : List α) (f : State → α → State)
    (h : ∀ t a, g (f t a) = g t) : g (s.each l f) = g s := by
  unfold State.each
  induction l generalizing s with
  | nil => rfl
  | cons a l ih => simp [List.foldl, ih, h]

@[simp] theorem State.when_now (s : State) (b : Bool) (f : State → State) (h : ∀ t, (f t).now = t.now) :
    (s.when b f).now = s.now := s.when_inv State.now b f h
@[simp] theorem State.each_now {α : Type} (s : State) (l : List α) (f : State → α → State) (h : ∀ t a, (f t a).now = t.now) :
    (s.each l f).now = s.now := s.each_inv State.now l f h
@[simp] theorem State.ite_now (c : Prop) [Decidable c] (a b : State) :
    (if c then a else b).now = if c then a.now else b.now := apply_ite _ _ _ _
@[simp] theorem State.when_free (s : State) (b : Bool) (f : State → State) (h : ∀ t, (f t).free = t.free) :
    (s.when b f).free = s.free := s.when_inv State.free b f h
@[simp] theorem State.each_free {α : Type} (s : State) (l : List α) (f : State → α → State) (h : ∀ t a, (f t a).free = t.free) :
    (s.each l f).free = s.free := s.each_inv State.free l f h
@[simp] theorem State.ite_free (c : Prop) [Decidable c] (a b : State) :
    (if c then a else b).free = if c then a.free else b.free := apply_ite _ _ _ _
@[simp] theorem State.when_pending (s : State) (b : Bool) (f : State → State) (h : ∀ t, (f t).pending = t.pending) :
    (s.when b f).pending = s.pending := s.when_inv State.pending b f h
@[simp] theorem State.each_pending {α : Type} (s : State) (l : List α) (f : State → α → State) (h : ∀ t a, (f t a).pending = t.pending) :
    (s.each l f).pending = s.pending := s.each_inv State.pending l f h
@[simp] theorem State.ite_pending (c : Prop) [Decidable c] (a b : State) :
    (if c then a else b).pending = if c then a.pending else b.pending := apply_ite _ _ _ _
@[simp] theorem State.when_out (s : State) (b : Bool) (f : State → State) (h : ∀ t, (f t).out = t.out) :
    (s.when b f).out = s.out := s.when_inv State.out b f h
@[simp] theorem State.each_out {α : Type} (s : State) (l : List α) (f : State → α → State) (h : ∀ t a, (f t a).out = t.out) :
    (s.each l f).out = s.out := s.each_inv State.out l f h
@[simp] theorem State.ite_out (c : Prop) [Decidable c] (a b : State) :
    (if c then a else b).out = if c then a.out else b.out := apply_ite _ _ _ _
@[simp] theorem State.when_regs (s : State) (b : Bool) (f : State → State) (h : ∀ t, (f t).regs = t.regs) :
    (s.when b f).regs = s.regs := s.when_inv State.regs b f h
@[simp] theorem State.each_regs {α : Type} (s : State) (l : List α) (f : State → α → State) (h : ∀ t a, (f t a).regs = t.regs) :
    (s.each l f).regs = s.regs := s.each_inv State.regs l f h
@[simp] theorem State.ite_regs (c : Prop) [Decidable c] (a b : State) :
    (if c then a else b).regs = if c then a.regs else b.regs := apply_ite _ _ _ _
@[simp] theorem State.when_ret (s : State) (b : Bool) (f : State → State) (h : ∀ t, (f t).ret = t.ret) :
    (s.when b f).ret = s.ret := s.when_inv State.ret b f h
@[simp] theorem State.each_ret {α : Type} (s : State) (l : List α) (f : State → α → State) (h : ∀ t a, (f t a).ret = t.ret) :
    (s.each l f).ret = s.ret := s.each_inv State.ret l f h
@[simp] theorem State.ite_ret (c : Prop) [Decidable c] (a b : State) :
    (if c then a else b).ret = if c then a.ret else b.ret := apply_ite _ _ _ _
@[simp] theorem State.when_evt (s : State) (b : Bool) (f : State → State) (h : ∀ t, (f t).evt = t.evt) :
    (s.when b f).evt = s.evt := s.when_inv State.evt b f h
@[simp] theorem State.each_evt {α : Type} (s : State) (l : List α) (f : State → α → State) (h : ∀ t a, (f t a).evt = t.evt) :
    (s.each l f).evt = s.evt := s.each_inv State.evt l f h
@[simp] theorem State.ite_evt (c : Prop) [Decidable c] (a b : State) :
    (if c then a else b).evt = if c then a.evt else b.evt := apply_ite _ _ _ _
@[simp] theorem State.when_flt (s : State) (b : Bool) (f : State → State) (h : ∀ t, (f t).flt = t.flt) :
    (s.when b f).flt = s.flt := s.when_inv State.flt b f h
@[simp] theorem State.each_flt {α : Type} (s : State) (l : List α) (f : State → α → State) (h : ∀ t a, (f t a).flt = t.flt) :
    (s.each l f).flt = s.flt := s.each_inv State.flt l f h
@[simp] theorem State.ite_flt (c : Prop) [Decidable c] (a b : State) :
    (if c then a else b).flt = if c then a.flt else b.flt := apply_ite _ _ _ _
@[simp] theorem State.when_obs (s : State) (b : Bool) (f : State → State) (h : ∀ t, (f t).obs = t.obs) :
    (s.when b f).obs = s.obs := s.when_inv State.obs b f h
@[simp] theorem State.each_obs {α : Type} (s : State) (l : List α) (f : State → α → State) (h : ∀ t a, (f t a).obs = t.obs) :
    (s.each l f).obs = s.obs := s.each_inv State.obs l f h
@[simp] theorem State.ite_obs (c : Prop) [Decidable c] (a b : State) :
    (if c then a else b).obs = if c then a.obs else b.obs := apply_ite _ _ _ _
@[simp] theorem State.when_host (s : State) (b : Bool) (f : State → State) (h : ∀ t, (f t).host = t.host) :
    (s.when b f).host = s.host := s.when_inv State.host b f h
@[simp] theorem State.each_host {α : Type} (s : State) (l : List α) (f : State → α → State) (h : ∀ t a, (f t a).host = t.host) :
    (s.each l f).host = s.host := s.each_inv State.host l f h
@[simp] theorem State.ite_host (c : Prop) [Decidable c] (a b : State) :
    (if c then a else b).host = if c then a.host else b.host := apply_ite _ _ _ _
@[simp] theorem State.when_amap (s : State) (b : Bool) (f : State → State) (h : ∀ t, (f t).amap = t.amap) :
    (s.when b f).amap = s.amap := s.when_inv State.amap b f h
@[simp] theorem State.each_amap {α : Type} (s : State) (l : List α) (f : State → α → State) (h : ∀ t a, (f t a).amap = t.amap) :
    (s.each l f).amap = s.amap := s.each_inv State.amap l f h
@[simp] theorem State.ite_amap (c : Prop) [Decidable c] (a b : State) :
    (if c then a else b).amap = if c then a.amap else b.amap := apply_ite _ _ _ _
@[simp] theorem State.when_mem (s : State) (b : Bool) (f : State → State) (h : ∀ t, (f t).mem = t.mem) :
    (s.when b f).mem = s.mem := s.when_inv State.mem b f h
@[simp] theorem State.each_mem {α : Type} (s : State) (l : List α) (f : State → α → State) (h : ∀ t a, (f t a).mem = t.mem) :
    (s.each l f).mem = s.mem := s.each_inv State.mem l f h
@[simp] theorem State.ite_mem (c : Prop) [Decidable c] (a b : State) :
    (if c then a else b).mem = if c then a.mem else b.mem := apply_ite _ _ _ _
@[simp] theorem State.when_home (s : State) (b : Bool) (f : State → State) (h : ∀ t, (f t).home = t.home) :
    (s.when b f).home = s.home := s.when_inv State.home b f h
@[simp] theorem State.each_home {α : Type} (s : State) (l : List α) (f : State → α → State) (h : ∀ t a, (f t a).home = t.home) :
    (s.each l f).home = s.home := s.each_inv State.home l f h
@[simp] theorem State.ite_home (c : Prop) [Decidable c] (a b : State) :
    (if c then a else b).home = if c then a.home else b.home := apply_ite _ _ _ _
@[simp] theorem State.when_ddr (s : State) (b : Bool) (f : State → State) (h : ∀ t, (f t).ddr = t.ddr) :
    (s.when b f).ddr = s.ddr := s.when_inv State.ddr b f h
@[simp] theorem State.each_ddr {α : Type} (s : State) (l : List α) (f : State → α → State) (h : ∀ t a, (f t a).ddr = t.ddr) :
    (s.each l f).ddr = s.ddr := s.each_inv State.ddr l f h
@[simp] theorem State.ite_ddr (c : Prop) [Decidable c] (a b : State) :
    (if c then a else b).ddr = if c then a.ddr else b.ddr := apply_ite _ _ _ _
@[simp] theorem State.when_tier (s : State) (b : Bool) (f : State → State) (h : ∀ t, (f t).tier = t.tier) :
    (s.when b f).tier = s.tier := s.when_inv State.tier b f h
@[simp] theorem State.each_tier {α : Type} (s : State) (l : List α) (f : State → α → State) (h : ∀ t a, (f t a).tier = t.tier) :
    (s.each l f).tier = s.tier := s.each_inv State.tier l f h
@[simp] theorem State.ite_tier (c : Prop) [Decidable c] (a b : State) :
    (if c then a else b).tier = if c then a.tier else b.tier := apply_ite _ _ _ _
@[simp] theorem State.when_dm (s : State) (b : Bool) (f : State → State) (h : ∀ t, (f t).dm = t.dm) :
    (s.when b f).dm = s.dm := s.when_inv State.dm b f h
@[simp] theorem State.each_dm {α : Type} (s : State) (l : List α) (f : State → α → State) (h : ∀ t a, (f t a).dm = t.dm) :
    (s.each l f).dm = s.dm := s.each_inv State.dm l f h
@[simp] theorem State.ite_dm (c : Prop) [Decidable c] (a b : State) :
    (if c then a else b).dm = if c then a.dm else b.dm := apply_ite _ _ _ _
@[simp] theorem State.when_dunas (s : State) (b : Bool) (f : State → State) (h : ∀ t, (f t).dunas = t.dunas) :
    (s.when b f).dunas = s.dunas := s.when_inv State.dunas b f h
@[simp] theorem State.each_dunas {α : Type} (s : State) (l : List α) (f : State → α → State) (h : ∀ t a, (f t a).dunas = t.dunas) :
    (s.each l f).dunas = s.dunas := s.each_inv State.dunas l f h
@[simp] theorem State.ite_dunas (c : Prop) [Decidable c] (a b : State) :
    (if c then a else b).dunas = if c then a.dunas else b.dunas := apply_ite _ _ _ _
@[simp] theorem State.when_brg (s : State) (b : Bool) (f : State → State) (h : ∀ t, (f t).brg = t.brg) :
    (s.when b f).brg = s.brg := s.when_inv State.brg b f h
@[simp] theorem State.each_brg {α : Type} (s : State) (l : List α) (f : State → α → State) (h : ∀ t a, (f t a).brg = t.brg) :
    (s.each l f).brg = s.brg := s.each_inv State.brg l f h
@[simp] theorem State.ite_brg (c : Prop) [Decidable c] (a b : State) :
    (if c then a else b).brg = if c then a.brg else b.brg := apply_ite _ _ _ _
@[simp] theorem State.when_clk (s : State) (b : Bool) (f : State → State) (h : ∀ t, (f t).clk = t.clk) :
    (s.when b f).clk = s.clk := s.when_inv State.clk b f h
@[simp] theorem State.each_clk {α : Type} (s : State) (l : List α) (f : State → α → State) (h : ∀ t a, (f t a).clk = t.clk) :
    (s.each l f).clk = s.clk := s.each_inv State.clk l f h
@[simp] theorem State.ite_clk (c : Prop) [Decidable c] (a b : State) :
    (if c then a else b).clk = if c then a.clk else b.clk := apply_ite _ _ _ _
@[simp] theorem State.when_hsc (s : State) (b : Bool) (f : State → State) (h : ∀ t, (f t).hsc = t.hsc) :
    (s.when b f).hsc = s.hsc := s.when_inv State.hsc b f h
@[simp] theorem State.each_hsc {α : Type} (s : State) (l : List α) (f : State → α → State) (h : ∀ t a, (f t a).hsc = t.hsc) :
    (s.each l f).hsc = s.hsc := s.each_inv State.hsc l f h
@[simp] theorem State.ite_hsc (c : Prop) [Decidable c] (a b : State) :
    (if c then a else b).hsc = if c then a.hsc else b.hsc := apply_ite _ _ _ _
@[simp] theorem State.when_boot (s : State) (b : Bool) (f : State → State) (h : ∀ t, (f t).boot = t.boot) :
    (s.when b f).boot = s.boot := s.when_inv State.boot b f h
@[simp] theorem State.each_boot {α : Type} (s : State) (l : List α) (f : State → α → State) (h : ∀ t a, (f t a).boot = t.boot) :
    (s.each l f).boot = s.boot := s.each_inv State.boot l f h
@[simp] theorem State.ite_boot (c : Prop) [Decidable c] (a b : State) :
    (if c then a else b).boot = if c then a.boot else b.boot := apply_ite _ _ _ _
@[simp] theorem State.when_core (s : State) (b : Bool) (f : State → State) (h : ∀ t, (f t).core = t.core) :
    (s.when b f).core = s.core := s.when_inv State.core b f h
@[simp] theorem State.each_core {α : Type} (s : State) (l : List α) (f : State → α → State) (h : ∀ t a, (f t a).core = t.core) :
    (s.each l f).core = s.core := s.each_inv State.core l f h
@[simp] theorem State.ite_core (c : Prop) [Decidable c] (a b : State) :
    (if c then a else b).core = if c then a.core else b.core := apply_ite _ _ _ _
@[simp] theorem State.when_mgmt (s : State) (b : Bool) (f : State → State) (h : ∀ t, (f t).mgmt = t.mgmt) :
    (s.when b f).mgmt = s.mgmt := s.when_inv State.mgmt b f h
@[simp] theorem State.each_mgmt {α : Type} (s : State) (l : List α) (f : State → α → State) (h : ∀ t a, (f t a).mgmt = t.mgmt) :
    (s.each l f).mgmt = s.mgmt := s.each_inv State.mgmt l f h
@[simp] theorem State.ite_mgmt (c : Prop) [Decidable c] (a b : State) :
    (if c then a else b).mgmt = if c then a.mgmt else b.mgmt := apply_ite _ _ _ _

end Sys2Proof.Machine
end

