-- ==== Sys2Proof/Laws/OpsKeeps.lean ====
section
/-! SUPPORT. Which fields of the state the operations of Ops leave as they are: a proof
over the operation `State.op` gives simp its lemma `State.op_keeps _ _`. -/

namespace Sys2Proof.Machine

theorem State.onGrp_keeps (s : State) (k : ℕ) (f : PortGroup → PortGroup) :
    (State.onGrp s k f).now = s.now ∧ (State.onGrp s k f).free = s.free ∧ (State.onGrp s k f).pending = s.pending ∧ (State.onGrp s k f).out = s.out ∧ (State.onGrp s k f).regs = s.regs ∧ (State.onGrp s k f).ret = s.ret ∧ (State.onGrp s k f).evt = s.evt ∧ (State.onGrp s k f).flt = s.flt ∧ (State.onGrp s k f).obs = s.obs ∧ (State.onGrp s k f).amap = s.amap ∧ (State.onGrp s k f).mem = s.mem ∧ (State.onGrp s k f).home = s.home ∧ (State.onGrp s k f).ddr = s.ddr ∧ (State.onGrp s k f).tier = s.tier ∧ (State.onGrp s k f).dm = s.dm ∧ (State.onGrp s k f).dunas = s.dunas ∧ (State.onGrp s k f).brg = s.brg ∧ (State.onGrp s k f).clk = s.clk ∧ (State.onGrp s k f).hsc = s.hsc ∧ (State.onGrp s k f).boot = s.boot ∧ (State.onGrp s k f).core = s.core ∧ (State.onGrp s k f).mgmt = s.mgmt := by
  unfold State.onGrp; simp

theorem State.onLink_keeps (s : State) (k : ℕ) (f : Link → Link) :
    (State.onLink s k f).now = s.now ∧ (State.onLink s k f).free = s.free ∧ (State.onLink s k f).pending = s.pending ∧ (State.onLink s k f).out = s.out ∧ (State.onLink s k f).regs = s.regs ∧ (State.onLink s k f).ret = s.ret ∧ (State.onLink s k f).evt = s.evt ∧ (State.onLink s k f).flt = s.flt ∧ (State.onLink s k f).obs = s.obs ∧ (State.onLink s k f).amap = s.amap ∧ (State.onLink s k f).mem = s.mem ∧ (State.onLink s k f).home = s.home ∧ (State.onLink s k f).ddr = s.ddr ∧ (State.onLink s k f).tier = s.tier ∧ (State.onLink s k f).dm = s.dm ∧ (State.onLink s k f).dunas = s.dunas ∧ (State.onLink s k f).brg = s.brg ∧ (State.onLink s k f).clk = s.clk ∧ (State.onLink s k f).hsc = s.hsc ∧ (State.onLink s k f).boot = s.boot ∧ (State.onLink s k f).core = s.core ∧ (State.onLink s k f).mgmt = s.mgmt := by
  unfold State.onLink; simp

theorem State.onLd_keeps (s : State) (k : ℕ) (f : LogicalDev → LogicalDev) :
    (State.onLd s k f).now = s.now ∧ (State.onLd s k f).free = s.free ∧ (State.onLd s k f).pending = s.pending ∧ (State.onLd s k f).out = s.out ∧ (State.onLd s k f).regs = s.regs ∧ (State.onLd s k f).ret = s.ret ∧ (State.onLd s k f).evt = s.evt ∧ (State.onLd s k f).flt = s.flt ∧ (State.onLd s k f).obs = s.obs ∧ (State.onLd s k f).amap = s.amap ∧ (State.onLd s k f).mem = s.mem ∧ (State.onLd s k f).home = s.home ∧ (State.onLd s k f).ddr = s.ddr ∧ (State.onLd s k f).tier = s.tier ∧ (State.onLd s k f).dm = s.dm ∧ (State.onLd s k f).dunas = s.dunas ∧ (State.onLd s k f).brg = s.brg ∧ (State.onLd s k f).clk = s.clk ∧ (State.onLd s k f).hsc = s.hsc ∧ (State.onLd s k f).boot = s.boot ∧ (State.onLd s k f).core = s.core ∧ (State.onLd s k f).mgmt = s.mgmt := by
  unfold State.onLd; simp

theorem State.onSet_keeps (s : State) (k : ℕ) (f : SetEntry → SetEntry) :
    (State.onSet s k f).now = s.now ∧ (State.onSet s k f).free = s.free ∧ (State.onSet s k f).pending = s.pending ∧ (State.onSet s k f).out = s.out ∧ (State.onSet s k f).regs = s.regs ∧ (State.onSet s k f).ret = s.ret ∧ (State.onSet s k f).evt = s.evt ∧ (State.onSet s k f).flt = s.flt ∧ (State.onSet s k f).obs = s.obs ∧ (State.onSet s k f).host = s.host ∧ (State.onSet s k f).mem = s.mem ∧ (State.onSet s k f).home = s.home ∧ (State.onSet s k f).ddr = s.ddr ∧ (State.onSet s k f).tier = s.tier ∧ (State.onSet s k f).dm = s.dm ∧ (State.onSet s k f).dunas = s.dunas ∧ (State.onSet s k f).brg = s.brg ∧ (State.onSet s k f).clk = s.clk ∧ (State.onSet s k f).hsc = s.hsc ∧ (State.onSet s k f).boot = s.boot ∧ (State.onSet s k f).core = s.core ∧ (State.onSet s k f).mgmt = s.mgmt := by
  unfold State.onSet; simp

theorem State.onDom_keeps (s : State) (k : ℕ) (f : DomainEntry → DomainEntry) :
    (State.onDom s k f).now = s.now ∧ (State.onDom s k f).free = s.free ∧ (State.onDom s k f).pending = s.pending ∧ (State.onDom s k f).out = s.out ∧ (State.onDom s k f).regs = s.regs ∧ (State.onDom s k f).ret = s.ret ∧ (State.onDom s k f).evt = s.evt ∧ (State.onDom s k f).flt = s.flt ∧ (State.onDom s k f).obs = s.obs ∧ (State.onDom s k f).host = s.host ∧ (State.onDom s k f).mem = s.mem ∧ (State.onDom s k f).home = s.home ∧ (State.onDom s k f).ddr = s.ddr ∧ (State.onDom s k f).tier = s.tier ∧ (State.onDom s k f).dm = s.dm ∧ (State.onDom s k f).dunas = s.dunas ∧ (State.onDom s k f).brg = s.brg ∧ (State.onDom s k f).clk = s.clk ∧ (State.onDom s k f).hsc = s.hsc ∧ (State.onDom s k f).boot = s.boot ∧ (State.onDom s k f).core = s.core ∧ (State.onDom s k f).mgmt = s.mgmt := by
  unfold State.onDom; simp

theorem State.onExt_keeps (s : State) (k : ℕ) (f : ExtentEntry → ExtentEntry) :
    (State.onExt s k f).now = s.now ∧ (State.onExt s k f).free = s.free ∧ (State.onExt s k f).pending = s.pending ∧ (State.onExt s k f).out = s.out ∧ (State.onExt s k f).regs = s.regs ∧ (State.onExt s k f).ret = s.ret ∧ (State.onExt s k f).evt = s.evt ∧ (State.onExt s k f).flt = s.flt ∧ (State.onExt s k f).obs = s.obs ∧ (State.onExt s k f).host = s.host ∧ (State.onExt s k f).mem = s.mem ∧ (State.onExt s k f).home = s.home ∧ (State.onExt s k f).ddr = s.ddr ∧ (State.onExt s k f).tier = s.tier ∧ (State.onExt s k f).dm = s.dm ∧ (State.onExt s k f).dunas = s.dunas ∧ (State.onExt s k f).brg = s.brg ∧ (State.onExt s k f).clk = s.clk ∧ (State.onExt s k f).hsc = s.hsc ∧ (State.onExt s k f).boot = s.boot ∧ (State.onExt s k f).core = s.core ∧ (State.onExt s k f).mgmt = s.mgmt := by
  unfold State.onExt; simp

theorem State.onRegion_keeps (s : State) (k : ℕ) (f : RegionEntry → RegionEntry) :
    (State.onRegion s k f).now = s.now ∧ (State.onRegion s k f).free = s.free ∧ (State.onRegion s k f).pending = s.pending ∧ (State.onRegion s k f).out = s.out ∧ (State.onRegion s k f).regs = s.regs ∧ (State.onRegion s k f).ret = s.ret ∧ (State.onRegion s k f).evt = s.evt ∧ (State.onRegion s k f).flt = s.flt ∧ (State.onRegion s k f).obs = s.obs ∧ (State.onRegion s k f).host = s.host ∧ (State.onRegion s k f).mem = s.mem ∧ (State.onRegion s k f).home = s.home ∧ (State.onRegion s k f).ddr = s.ddr ∧ (State.onRegion s k f).tier = s.tier ∧ (State.onRegion s k f).dm = s.dm ∧ (State.onRegion s k f).dunas = s.dunas ∧ (State.onRegion s k f).brg = s.brg ∧ (State.onRegion s k f).clk = s.clk ∧ (State.onRegion s k f).hsc = s.hsc ∧ (State.onRegion s k f).boot = s.boot ∧ (State.onRegion s k f).core = s.core ∧ (State.onRegion s k f).mgmt = s.mgmt := by
  unfold State.onRegion; simp

theorem State.onPage_keeps (s : State) (k : ℕ) (f : PageEntry → PageEntry) :
    (State.onPage s k f).now = s.now ∧ (State.onPage s k f).free = s.free ∧ (State.onPage s k f).pending = s.pending ∧ (State.onPage s k f).out = s.out ∧ (State.onPage s k f).regs = s.regs ∧ (State.onPage s k f).ret = s.ret ∧ (State.onPage s k f).evt = s.evt ∧ (State.onPage s k f).flt = s.flt ∧ (State.onPage s k f).obs = s.obs ∧ (State.onPage s k f).host = s.host ∧ (State.onPage s k f).amap = s.amap ∧ (State.onPage s k f).home = s.home ∧ (State.onPage s k f).ddr = s.ddr ∧ (State.onPage s k f).tier = s.tier ∧ (State.onPage s k f).dm = s.dm ∧ (State.onPage s k f).dunas = s.dunas ∧ (State.onPage s k f).brg = s.brg ∧ (State.onPage s k f).clk = s.clk ∧ (State.onPage s k f).hsc = s.hsc ∧ (State.onPage s k f).boot = s.boot ∧ (State.onPage s k f).core = s.core ∧ (State.onPage s k f).mgmt = s.mgmt := by
  unfold State.onPage; simp

theorem State.onEng_keeps (s : State) (k : ℕ) (f : Engine → Engine) :
    (State.onEng s k f).now = s.now ∧ (State.onEng s k f).free = s.free ∧ (State.onEng s k f).pending = s.pending ∧ (State.onEng s k f).out = s.out ∧ (State.onEng s k f).regs = s.regs ∧ (State.onEng s k f).ret = s.ret ∧ (State.onEng s k f).evt = s.evt ∧ (State.onEng s k f).flt = s.flt ∧ (State.onEng s k f).obs = s.obs ∧ (State.onEng s k f).host = s.host ∧ (State.onEng s k f).amap = s.amap ∧ (State.onEng s k f).mem = s.mem ∧ (State.onEng s k f).home = s.home ∧ (State.onEng s k f).ddr = s.ddr ∧ (State.onEng s k f).dm = s.dm ∧ (State.onEng s k f).dunas = s.dunas ∧ (State.onEng s k f).brg = s.brg ∧ (State.onEng s k f).clk = s.clk ∧ (State.onEng s k f).hsc = s.hsc ∧ (State.onEng s k f).boot = s.boot ∧ (State.onEng s k f).core = s.core ∧ (State.onEng s k f).mgmt = s.mgmt := by
  unfold State.onEng; simp

theorem State.onLoop_keeps (s : State) (k : ℕ) (f : ClkLoop → ClkLoop) :
    (State.onLoop s k f).now = s.now ∧ (State.onLoop s k f).free = s.free ∧ (State.onLoop s k f).pending = s.pending ∧ (State.onLoop s k f).out = s.out ∧ (State.onLoop s k f).regs = s.regs ∧ (State.onLoop s k f).ret = s.ret ∧ (State.onLoop s k f).evt = s.evt ∧ (State.onLoop s k f).flt = s.flt ∧ (State.onLoop s k f).obs = s.obs ∧ (State.onLoop s k f).host = s.host ∧ (State.onLoop s k f).amap = s.amap ∧ (State.onLoop s k f).mem = s.mem ∧ (State.onLoop s k f).home = s.home ∧ (State.onLoop s k f).ddr = s.ddr ∧ (State.onLoop s k f).tier = s.tier ∧ (State.onLoop s k f).dm = s.dm ∧ (State.onLoop s k f).dunas = s.dunas ∧ (State.onLoop s k f).brg = s.brg ∧ (State.onLoop s k f).hsc = s.hsc ∧ (State.onLoop s k f).boot = s.boot ∧ (State.onLoop s k f).core = s.core ∧ (State.onLoop s k f).mgmt = s.mgmt := by
  unfold State.onLoop; simp

theorem State.onChan_keeps (s : State) (k : ℕ) (f : Channel → Channel) :
    (State.onChan s k f).now = s.now ∧ (State.onChan s k f).free = s.free ∧ (State.onChan s k f).pending = s.pending ∧ (State.onChan s k f).out = s.out ∧ (State.onChan s k f).regs = s.regs ∧ (State.onChan s k f).ret = s.ret ∧ (State.onChan s k f).evt = s.evt ∧ (State.onChan s k f).flt = s.flt ∧ (State.onChan s k f).obs = s.obs ∧ (State.onChan s k f).host = s.host ∧ (State.onChan s k f).amap = s.amap ∧ (State.onChan s k f).mem = s.mem ∧ (State.onChan s k f).home = s.home ∧ (State.onChan s k f).tier = s.tier ∧ (State.onChan s k f).dm = s.dm ∧ (State.onChan s k f).dunas = s.dunas ∧ (State.onChan s k f).brg = s.brg ∧ (State.onChan s k f).clk = s.clk ∧ (State.onChan s k f).hsc = s.hsc ∧ (State.onChan s k f).boot = s.boot ∧ (State.onChan s k f).core = s.core ∧ (State.onChan s k f).mgmt = s.mgmt := by
  unfold State.onChan; simp

theorem State.onQueue_keeps (s : State) (k : ℕ) (f : DmQueue → DmQueue) :
    (State.onQueue s k f).now = s.now ∧ (State.onQueue s k f).free = s.free ∧ (State.onQueue s k f).pending = s.pending ∧ (State.onQueue s k f).out = s.out ∧ (State.onQueue s k f).regs = s.regs ∧ (State.onQueue s k f).ret = s.ret ∧ (State.onQueue s k f).evt = s.evt ∧ (State.onQueue s k f).flt = s.flt ∧ (State.onQueue s k f).obs = s.obs ∧ (State.onQueue s k f).host = s.host ∧ (State.onQueue s k f).amap = s.amap ∧ (State.onQueue s k f).mem = s.mem ∧ (State.onQueue s k f).home = s.home ∧ (State.onQueue s k f).ddr = s.ddr ∧ (State.onQueue s k f).tier = s.tier ∧ (State.onQueue s k f).dunas = s.dunas ∧ (State.onQueue s k f).brg = s.brg ∧ (State.onQueue s k f).clk = s.clk ∧ (State.onQueue s k f).hsc = s.hsc ∧ (State.onQueue s k f).boot = s.boot ∧ (State.onQueue s k f).core = s.core ∧ (State.onQueue s k f).mgmt = s.mgmt := by
  unfold State.onQueue; simp

theorem State.onMod_keeps (s : State) (k : ℕ) (f : ModuleEnd → ModuleEnd) :
    (State.onMod s k f).now = s.now ∧ (State.onMod s k f).free = s.free ∧ (State.onMod s k f).pending = s.pending ∧ (State.onMod s k f).out = s.out ∧ (State.onMod s k f).regs = s.regs ∧ (State.onMod s k f).ret = s.ret ∧ (State.onMod s k f).evt = s.evt ∧ (State.onMod s k f).flt = s.flt ∧ (State.onMod s k f).obs = s.obs ∧ (State.onMod s k f).host = s.host ∧ (State.onMod s k f).amap = s.amap ∧ (State.onMod s k f).mem = s.mem ∧ (State.onMod s k f).home = s.home ∧ (State.onMod s k f).ddr = s.ddr ∧ (State.onMod s k f).tier = s.tier ∧ (State.onMod s k f).dm = s.dm ∧ (State.onMod s k f).brg = s.brg ∧ (State.onMod s k f).clk = s.clk ∧ (State.onMod s k f).hsc = s.hsc ∧ (State.onMod s k f).boot = s.boot ∧ (State.onMod s k f).core = s.core ∧ (State.onMod s k f).mgmt = s.mgmt := by
  unfold State.onMod; simp

theorem State.takeFree_keeps (s : State) :
    (State.takeFree s).now = s.now ∧ (State.takeFree s).pending = s.pending ∧ (State.takeFree s).out = s.out ∧ (State.takeFree s).regs = s.regs ∧ (State.takeFree s).ret = s.ret ∧ (State.takeFree s).evt = s.evt ∧ (State.takeFree s).flt = s.flt ∧ (State.takeFree s).obs = s.obs ∧ (State.takeFree s).host = s.host ∧ (State.takeFree s).amap = s.amap ∧ (State.takeFree s).mem = s.mem ∧ (State.takeFree s).home = s.home ∧ (State.takeFree s).ddr = s.ddr ∧ (State.takeFree s).tier = s.tier ∧ (State.takeFree s).dm = s.dm ∧ (State.takeFree s).dunas = s.dunas ∧ (State.takeFree s).brg = s.brg ∧ (State.takeFree s).clk = s.clk ∧ (State.takeFree s).hsc = s.hsc ∧ (State.takeFree s).boot = s.boot ∧ (State.takeFree s).core = s.core ∧ (State.takeFree s).mgmt = s.mgmt := by
  unfold State.takeFree; simp

end Sys2Proof.Machine
end

