-- ==== Sys2Proof/Laws/OperandsKeeps.lean ====
section
/-! SUPPORT. Which fields of the state the operations of Operands leave as they are: a proof
over the operation `State.op` gives simp its lemma `State.op_keeps _ _`. -/

namespace Sys2Proof.Machine

theorem State.setReg_keeps (s : State) (p : ℕ) (x : ℕ) (v : Word) :
    (State.setReg s p x v).now = s.now ∧ (State.setReg s p x v).free = s.free ∧ (State.setReg s p x v).pending = s.pending ∧ (State.setReg s p x v).out = s.out ∧ (State.setReg s p x v).ret = s.ret ∧ (State.setReg s p x v).evt = s.evt ∧ (State.setReg s p x v).flt = s.flt ∧ (State.setReg s p x v).obs = s.obs ∧ (State.setReg s p x v).host = s.host ∧ (State.setReg s p x v).amap = s.amap ∧ (State.setReg s p x v).mem = s.mem ∧ (State.setReg s p x v).home = s.home ∧ (State.setReg s p x v).ddr = s.ddr ∧ (State.setReg s p x v).tier = s.tier ∧ (State.setReg s p x v).dm = s.dm ∧ (State.setReg s p x v).dunas = s.dunas ∧ (State.setReg s p x v).brg = s.brg ∧ (State.setReg s p x v).clk = s.clk ∧ (State.setReg s p x v).hsc = s.hsc ∧ (State.setReg s p x v).boot = s.boot ∧ (State.setReg s p x v).core = s.core ∧ (State.setReg s p x v).mgmt = s.mgmt := by
  unfold State.setReg; simp

theorem State.setBits_keeps (s : State) (p : ℕ) (x : ℕ) (lo : ℕ) (w : ℕ) (v : ℕ) :
    (State.setBits s p x lo w v).now = s.now ∧ (State.setBits s p x lo w v).free = s.free ∧ (State.setBits s p x lo w v).pending = s.pending ∧ (State.setBits s p x lo w v).out = s.out ∧ (State.setBits s p x lo w v).ret = s.ret ∧ (State.setBits s p x lo w v).evt = s.evt ∧ (State.setBits s p x lo w v).flt = s.flt ∧ (State.setBits s p x lo w v).obs = s.obs ∧ (State.setBits s p x lo w v).host = s.host ∧ (State.setBits s p x lo w v).amap = s.amap ∧ (State.setBits s p x lo w v).mem = s.mem ∧ (State.setBits s p x lo w v).home = s.home ∧ (State.setBits s p x lo w v).ddr = s.ddr ∧ (State.setBits s p x lo w v).tier = s.tier ∧ (State.setBits s p x lo w v).dm = s.dm ∧ (State.setBits s p x lo w v).dunas = s.dunas ∧ (State.setBits s p x lo w v).brg = s.brg ∧ (State.setBits s p x lo w v).clk = s.clk ∧ (State.setBits s p x lo w v).hsc = s.hsc ∧ (State.setBits s p x lo w v).boot = s.boot ∧ (State.setBits s p x lo w v).core = s.core ∧ (State.setBits s p x lo w v).mgmt = s.mgmt := by
  unfold State.setBits; simp [State.setReg_keeps _ _ _ _]

end Sys2Proof.Machine
end

