-- ==== Sys2Proof/Laws/FlagsKeeps.lean ====
section
/-! SUPPORT. Which fields of the state the operations of Flags leave as they are: a proof
over the operation `State.op` gives simp its lemma `State.op_keeps _ _`. -/

namespace Sys2Proof.Machine

theorem State.setStatus_keeps (s : State) (p : ℕ) (b : ℕ) :
    (State.setStatus s p b).now = s.now ∧ (State.setStatus s p b).free = s.free ∧ (State.setStatus s p b).pending = s.pending ∧ (State.setStatus s p b).out = s.out ∧ (State.setStatus s p b).ret = s.ret ∧ (State.setStatus s p b).evt = s.evt ∧ (State.setStatus s p b).flt = s.flt ∧ (State.setStatus s p b).obs = s.obs ∧ (State.setStatus s p b).host = s.host ∧ (State.setStatus s p b).amap = s.amap ∧ (State.setStatus s p b).mem = s.mem ∧ (State.setStatus s p b).home = s.home ∧ (State.setStatus s p b).ddr = s.ddr ∧ (State.setStatus s p b).tier = s.tier ∧ (State.setStatus s p b).dm = s.dm ∧ (State.setStatus s p b).dunas = s.dunas ∧ (State.setStatus s p b).brg = s.brg ∧ (State.setStatus s p b).clk = s.clk ∧ (State.setStatus s p b).hsc = s.hsc ∧ (State.setStatus s p b).boot = s.boot ∧ (State.setStatus s p b).core = s.core ∧ (State.setStatus s p b).mgmt = s.mgmt := by
  unfold State.setStatus; simp [State.setReg_keeps _ _ _ _]

theorem State.retWrite_keeps (s : State) (k : ℕ) (v : Word) (who : Option Master) :
    (State.retWrite s k v who).now = s.now ∧ (State.retWrite s k v who).free = s.free ∧ (State.retWrite s k v who).pending = s.pending ∧ (State.retWrite s k v who).out = s.out ∧ (State.retWrite s k v who).regs = s.regs ∧ (State.retWrite s k v who).evt = s.evt ∧ (State.retWrite s k v who).flt = s.flt ∧ (State.retWrite s k v who).obs = s.obs ∧ (State.retWrite s k v who).host = s.host ∧ (State.retWrite s k v who).amap = s.amap ∧ (State.retWrite s k v who).mem = s.mem ∧ (State.retWrite s k v who).home = s.home ∧ (State.retWrite s k v who).ddr = s.ddr ∧ (State.retWrite s k v who).tier = s.tier ∧ (State.retWrite s k v who).dm = s.dm ∧ (State.retWrite s k v who).dunas = s.dunas ∧ (State.retWrite s k v who).brg = s.brg ∧ (State.retWrite s k v who).clk = s.clk ∧ (State.retWrite s k v who).hsc = s.hsc ∧ (State.retWrite s k v who).boot = s.boot ∧ (State.retWrite s k v who).core = s.core ∧ (State.retWrite s k v who).mgmt = s.mgmt := by
  unfold State.retWrite; simp

theorem State.hrdySync_keeps (s : State) :
    (State.hrdySync s).now = s.now ∧ (State.hrdySync s).free = s.free ∧ (State.hrdySync s).pending = s.pending ∧ (State.hrdySync s).out = s.out ∧ (State.hrdySync s).regs = s.regs ∧ (State.hrdySync s).ret = s.ret ∧ (State.hrdySync s).evt = s.evt ∧ (State.hrdySync s).flt = s.flt ∧ (State.hrdySync s).obs = s.obs ∧ (State.hrdySync s).amap = s.amap ∧ (State.hrdySync s).mem = s.mem ∧ (State.hrdySync s).home = s.home ∧ (State.hrdySync s).ddr = s.ddr ∧ (State.hrdySync s).tier = s.tier ∧ (State.hrdySync s).dm = s.dm ∧ (State.hrdySync s).dunas = s.dunas ∧ (State.hrdySync s).brg = s.brg ∧ (State.hrdySync s).clk = s.clk ∧ (State.hrdySync s).hsc = s.hsc ∧ (State.hrdySync s).boot = s.boot ∧ (State.hrdySync s).core = s.core ∧ (State.hrdySync s).mgmt = s.mgmt := by
  unfold State.hrdySync; simp [State.onGrp_keeps _ _ _]

theorem State.attention_keeps (s : State) (g : ℕ) :
    (State.attention s g).now = s.now ∧ (State.attention s g).free = s.free ∧ (State.attention s g).pending = s.pending ∧ (State.attention s g).out = s.out ∧ (State.attention s g).regs = s.regs ∧ (State.attention s g).ret = s.ret ∧ (State.attention s g).evt = s.evt ∧ (State.attention s g).flt = s.flt ∧ (State.attention s g).obs = s.obs ∧ (State.attention s g).amap = s.amap ∧ (State.attention s g).mem = s.mem ∧ (State.attention s g).home = s.home ∧ (State.attention s g).ddr = s.ddr ∧ (State.attention s g).tier = s.tier ∧ (State.attention s g).dm = s.dm ∧ (State.attention s g).dunas = s.dunas ∧ (State.attention s g).brg = s.brg ∧ (State.attention s g).clk = s.clk ∧ (State.attention s g).hsc = s.hsc ∧ (State.attention s g).boot = s.boot ∧ (State.attention s g).core = s.core ∧ (State.attention s g).mgmt = s.mgmt := by
  unfold State.attention; simp [State.onGrp_keeps _ _ _]

theorem State.onBank_keeps (s : State) (p : ℕ) (f : PmcBank → PmcBank) :
    (State.onBank s p f).now = s.now ∧ (State.onBank s p f).free = s.free ∧ (State.onBank s p f).pending = s.pending ∧ (State.onBank s p f).out = s.out ∧ (State.onBank s p f).regs = s.regs ∧ (State.onBank s p f).ret = s.ret ∧ (State.onBank s p f).evt = s.evt ∧ (State.onBank s p f).flt = s.flt ∧ (State.onBank s p f).host = s.host ∧ (State.onBank s p f).amap = s.amap ∧ (State.onBank s p f).mem = s.mem ∧ (State.onBank s p f).home = s.home ∧ (State.onBank s p f).ddr = s.ddr ∧ (State.onBank s p f).tier = s.tier ∧ (State.onBank s p f).dm = s.dm ∧ (State.onBank s p f).dunas = s.dunas ∧ (State.onBank s p f).brg = s.brg ∧ (State.onBank s p f).clk = s.clk ∧ (State.onBank s p f).hsc = s.hsc ∧ (State.onBank s p f).boot = s.boot ∧ (State.onBank s p f).core = s.core ∧ (State.onBank s p f).mgmt = s.mgmt := by
  unfold State.onBank; simp

theorem State.count_keeps (s : State) (p : ℕ) (code : ℕ) (n : ℕ) :
    (State.count s p code n).now = s.now ∧ (State.count s p code n).free = s.free ∧ (State.count s p code n).pending = s.pending ∧ (State.count s p code n).out = s.out ∧ (State.count s p code n).regs = s.regs ∧ (State.count s p code n).ret = s.ret ∧ (State.count s p code n).evt = s.evt ∧ (State.count s p code n).flt = s.flt ∧ (State.count s p code n).host = s.host ∧ (State.count s p code n).amap = s.amap ∧ (State.count s p code n).mem = s.mem ∧ (State.count s p code n).home = s.home ∧ (State.count s p code n).ddr = s.ddr ∧ (State.count s p code n).tier = s.tier ∧ (State.count s p code n).dm = s.dm ∧ (State.count s p code n).dunas = s.dunas ∧ (State.count s p code n).brg = s.brg ∧ (State.count s p code n).clk = s.clk ∧ (State.count s p code n).hsc = s.hsc ∧ (State.count s p code n).boot = s.boot ∧ (State.count s p code n).core = s.core ∧ (State.count s p code n).mgmt = s.mgmt := by
  unfold State.count; simp [State.onBank_keeps _ _ _]

theorem State.drive_keeps (s : State) (e : ℕ) (f : BitVec 512) :
    (State.drive s e f).now = s.now ∧ (State.drive s e f).free = s.free ∧ (State.drive s e f).pending = s.pending ∧ (State.drive s e f).regs = s.regs ∧ (State.drive s e f).ret = s.ret ∧ (State.drive s e f).evt = s.evt ∧ (State.drive s e f).flt = s.flt ∧ (State.drive s e f).obs = s.obs ∧ (State.drive s e f).host = s.host ∧ (State.drive s e f).amap = s.amap ∧ (State.drive s e f).mem = s.mem ∧ (State.drive s e f).home = s.home ∧ (State.drive s e f).ddr = s.ddr ∧ (State.drive s e f).tier = s.tier ∧ (State.drive s e f).dm = s.dm ∧ (State.drive s e f).dunas = s.dunas ∧ (State.drive s e f).brg = s.brg ∧ (State.drive s e f).clk = s.clk ∧ (State.drive s e f).hsc = s.hsc ∧ (State.drive s e f).boot = s.boot ∧ (State.drive s e f).core = s.core ∧ (State.drive s e f).mgmt = s.mgmt := by
  unfold State.drive; simp

theorem State.sendFlits_keeps (s : State) (e : ℕ) (l : List (BitVec 512)) :
    (State.sendFlits s e l).now = s.now ∧ (State.sendFlits s e l).free = s.free ∧ (State.sendFlits s e l).pending = s.pending ∧ (State.sendFlits s e l).regs = s.regs ∧ (State.sendFlits s e l).ret = s.ret ∧ (State.sendFlits s e l).evt = s.evt ∧ (State.sendFlits s e l).flt = s.flt ∧ (State.sendFlits s e l).host = s.host ∧ (State.sendFlits s e l).amap = s.amap ∧ (State.sendFlits s e l).mem = s.mem ∧ (State.sendFlits s e l).home = s.home ∧ (State.sendFlits s e l).ddr = s.ddr ∧ (State.sendFlits s e l).tier = s.tier ∧ (State.sendFlits s e l).dm = s.dm ∧ (State.sendFlits s e l).brg = s.brg ∧ (State.sendFlits s e l).clk = s.clk ∧ (State.sendFlits s e l).hsc = s.hsc ∧ (State.sendFlits s e l).boot = s.boot ∧ (State.sendFlits s e l).core = s.core ∧ (State.sendFlits s e l).mgmt = s.mgmt := by
  unfold State.sendFlits; simp [State.onMod_keeps _ _ _, State.count_keeps _ _ _ _, State.drive_keeps _ _ _]

theorem State.regSent_keeps (s : State) (e : ℕ) (a2 : Msg) :
    (State.regSent s e a2).now = s.now ∧ (State.regSent s e a2).free = s.free ∧ (State.regSent s e a2).pending = s.pending ∧ (State.regSent s e a2).out = s.out ∧ (State.regSent s e a2).regs = s.regs ∧ (State.regSent s e a2).ret = s.ret ∧ (State.regSent s e a2).evt = s.evt ∧ (State.regSent s e a2).flt = s.flt ∧ (State.regSent s e a2).obs = s.obs ∧ (State.regSent s e a2).host = s.host ∧ (State.regSent s e a2).amap = s.amap ∧ (State.regSent s e a2).mem = s.mem ∧ (State.regSent s e a2).home = s.home ∧ (State.regSent s e a2).ddr = s.ddr ∧ (State.regSent s e a2).tier = s.tier ∧ (State.regSent s e a2).dm = s.dm ∧ (State.regSent s e a2).brg = s.brg ∧ (State.regSent s e a2).clk = s.clk ∧ (State.regSent s e a2).hsc = s.hsc ∧ (State.regSent s e a2).boot = s.boot ∧ (State.regSent s e a2).core = s.core ∧ (State.regSent s e a2).mgmt = s.mgmt := by
  unfold State.regSent; (repeat' split) <;> simp [State.onMod_keeps _ _ _]

theorem State.sendNow_keeps (s : State) (e : ℕ) (m : Msg) (cls : ℕ) (slots : ℕ) :
    (State.sendNow s e m cls slots).now = s.now ∧ (State.sendNow s e m cls slots).free = s.free ∧ (State.sendNow s e m cls slots).pending = s.pending ∧ (State.sendNow s e m cls slots).regs = s.regs ∧ (State.sendNow s e m cls slots).ret = s.ret ∧ (State.sendNow s e m cls slots).evt = s.evt ∧ (State.sendNow s e m cls slots).flt = s.flt ∧ (State.sendNow s e m cls slots).host = s.host ∧ (State.sendNow s e m cls slots).amap = s.amap ∧ (State.sendNow s e m cls slots).mem = s.mem ∧ (State.sendNow s e m cls slots).home = s.home ∧ (State.sendNow s e m cls slots).ddr = s.ddr ∧ (State.sendNow s e m cls slots).tier = s.tier ∧ (State.sendNow s e m cls slots).dm = s.dm ∧ (State.sendNow s e m cls slots).brg = s.brg ∧ (State.sendNow s e m cls slots).clk = s.clk ∧ (State.sendNow s e m cls slots).hsc = s.hsc ∧ (State.sendNow s e m cls slots).boot = s.boot ∧ (State.sendNow s e m cls slots).core = s.core ∧ (State.sendNow s e m cls slots).mgmt = s.mgmt := by
  unfold State.sendNow; simp [State.onMod_keeps _ _ _, State.regSent_keeps _ _ _, State.sendFlits_keeps _ _ _]

theorem State.creditTimers_keeps (s : State) (e : ℕ) :
    (State.creditTimers s e).now = s.now ∧ (State.creditTimers s e).free = s.free ∧ (State.creditTimers s e).pending = s.pending ∧ (State.creditTimers s e).out = s.out ∧ (State.creditTimers s e).regs = s.regs ∧ (State.creditTimers s e).ret = s.ret ∧ (State.creditTimers s e).evt = s.evt ∧ (State.creditTimers s e).flt = s.flt ∧ (State.creditTimers s e).obs = s.obs ∧ (State.creditTimers s e).host = s.host ∧ (State.creditTimers s e).amap = s.amap ∧ (State.creditTimers s e).mem = s.mem ∧ (State.creditTimers s e).home = s.home ∧ (State.creditTimers s e).ddr = s.ddr ∧ (State.creditTimers s e).tier = s.tier ∧ (State.creditTimers s e).dm = s.dm ∧ (State.creditTimers s e).brg = s.brg ∧ (State.creditTimers s e).clk = s.clk ∧ (State.creditTimers s e).hsc = s.hsc ∧ (State.creditTimers s e).boot = s.boot ∧ (State.creditTimers s e).core = s.core ∧ (State.creditTimers s e).mgmt = s.mgmt := by
  unfold State.creditTimers; simp [State.onMod_keeps _ _ _]

theorem State.sendOrWait_keeps (s : State) (m : Msg) (n : ℕ) (cls : ℕ) (slots : ℕ) :
    (State.sendOrWait s m n cls slots).now = s.now ∧ (State.sendOrWait s m n cls slots).free = s.free ∧ (State.sendOrWait s m n cls slots).pending = s.pending ∧ (State.sendOrWait s m n cls slots).regs = s.regs ∧ (State.sendOrWait s m n cls slots).ret = s.ret ∧ (State.sendOrWait s m n cls slots).evt = s.evt ∧ (State.sendOrWait s m n cls slots).flt = s.flt ∧ (State.sendOrWait s m n cls slots).host = s.host ∧ (State.sendOrWait s m n cls slots).amap = s.amap ∧ (State.sendOrWait s m n cls slots).mem = s.mem ∧ (State.sendOrWait s m n cls slots).home = s.home ∧ (State.sendOrWait s m n cls slots).ddr = s.ddr ∧ (State.sendOrWait s m n cls slots).tier = s.tier ∧ (State.sendOrWait s m n cls slots).dm = s.dm ∧ (State.sendOrWait s m n cls slots).brg = s.brg ∧ (State.sendOrWait s m n cls slots).clk = s.clk ∧ (State.sendOrWait s m n cls slots).hsc = s.hsc ∧ (State.sendOrWait s m n cls slots).boot = s.boot ∧ (State.sendOrWait s m n cls slots).core = s.core ∧ (State.sendOrWait s m n cls slots).mgmt = s.mgmt := by
  unfold State.sendOrWait; simp [State.sendNow_keeps _ _ _ _ _, State.creditTimers_keeps _ _, State.onMod_keeps _ _ _]

theorem State.sendCtl_keeps (s : State) (e : ℕ) (lctype : ℕ) (p : List ℕ) :
    (State.sendCtl s e lctype p).now = s.now ∧ (State.sendCtl s e lctype p).free = s.free ∧ (State.sendCtl s e lctype p).pending = s.pending ∧ (State.sendCtl s e lctype p).regs = s.regs ∧ (State.sendCtl s e lctype p).ret = s.ret ∧ (State.sendCtl s e lctype p).evt = s.evt ∧ (State.sendCtl s e lctype p).flt = s.flt ∧ (State.sendCtl s e lctype p).obs = s.obs ∧ (State.sendCtl s e lctype p).host = s.host ∧ (State.sendCtl s e lctype p).amap = s.amap ∧ (State.sendCtl s e lctype p).mem = s.mem ∧ (State.sendCtl s e lctype p).home = s.home ∧ (State.sendCtl s e lctype p).ddr = s.ddr ∧ (State.sendCtl s e lctype p).tier = s.tier ∧ (State.sendCtl s e lctype p).dm = s.dm ∧ (State.sendCtl s e lctype p).dunas = s.dunas ∧ (State.sendCtl s e lctype p).brg = s.brg ∧ (State.sendCtl s e lctype p).clk = s.clk ∧ (State.sendCtl s e lctype p).hsc = s.hsc ∧ (State.sendCtl s e lctype p).boot = s.boot ∧ (State.sendCtl s e lctype p).core = s.core ∧ (State.sendCtl s e lctype p).mgmt = s.mgmt := by
  unfold State.sendCtl; simp [State.drive_keeps _ _ _]

theorem State.carry_keeps (s : State) (e : ℕ) (n : ℕ) :
    (State.carry s e n).now = s.now ∧ (State.carry s e n).free = s.free ∧ (State.carry s e n).pending = s.pending ∧ (State.carry s e n).out = s.out ∧ (State.carry s e n).regs = s.regs ∧ (State.carry s e n).ret = s.ret ∧ (State.carry s e n).evt = s.evt ∧ (State.carry s e n).flt = s.flt ∧ (State.carry s e n).host = s.host ∧ (State.carry s e n).amap = s.amap ∧ (State.carry s e n).mem = s.mem ∧ (State.carry s e n).home = s.home ∧ (State.carry s e n).ddr = s.ddr ∧ (State.carry s e n).tier = s.tier ∧ (State.carry s e n).dm = s.dm ∧ (State.carry s e n).brg = s.brg ∧ (State.carry s e n).clk = s.clk ∧ (State.carry s e n).hsc = s.hsc ∧ (State.carry s e n).boot = s.boot ∧ (State.carry s e n).core = s.core ∧ (State.carry s e n).mgmt = s.mgmt := by
  obtain ⟨P, hP⟩ : ∃ P : State → Prop, P = fun x => x.now = s.now ∧ x.free = s.free ∧ x.pending = s.pending ∧ x.out = s.out ∧ x.regs = s.regs ∧ x.ret = s.ret ∧ x.evt = s.evt ∧ x.flt = s.flt ∧ x.host = s.host ∧ x.amap = s.amap ∧ x.mem = s.mem ∧ x.home = s.home ∧ x.ddr = s.ddr ∧ x.tier = s.tier ∧ x.dm = s.dm ∧ x.brg = s.brg ∧ x.clk = s.clk ∧ x.hsc = s.hsc ∧ x.boot = s.boot ∧ x.core = s.core ∧ x.mgmt = s.mgmt := ⟨_, rfl⟩
  suffices h : P (State.carry s e n) by rw [hP] at h; exact h
  unfold State.carry; (try dsimp only); (repeat' split) <;> subst hP <;> simp_all [State.onMod_keeps _ _ _, State.count_keeps _ _ _ _]

theorem State.emit_keeps (s : State) (m : Msg) :
    (State.emit s m).now = s.now ∧ (State.emit s m).free = s.free ∧ (State.emit s m).pending = s.pending ∧ (State.emit s m).regs = s.regs ∧ (State.emit s m).ret = s.ret ∧ (State.emit s m).evt = s.evt ∧ (State.emit s m).flt = s.flt ∧ (State.emit s m).host = s.host ∧ (State.emit s m).amap = s.amap ∧ (State.emit s m).mem = s.mem ∧ (State.emit s m).home = s.home ∧ (State.emit s m).ddr = s.ddr ∧ (State.emit s m).tier = s.tier ∧ (State.emit s m).dm = s.dm ∧ (State.emit s m).brg = s.brg ∧ (State.emit s m).clk = s.clk ∧ (State.emit s m).hsc = s.hsc ∧ (State.emit s m).boot = s.boot ∧ (State.emit s m).core = s.core ∧ (State.emit s m).mgmt = s.mgmt := by
  unfold State.emit; (repeat' split) <;> simp [State.sendOrWait_keeps _ _ _ _ _]

theorem State.useLink_keeps (s : State) (l : ℕ) :
    (State.useLink s l).now = s.now ∧ (State.useLink s l).free = s.free ∧ (State.useLink s l).pending = s.pending ∧ (State.useLink s l).out = s.out ∧ (State.useLink s l).regs = s.regs ∧ (State.useLink s l).ret = s.ret ∧ (State.useLink s l).evt = s.evt ∧ (State.useLink s l).flt = s.flt ∧ (State.useLink s l).obs = s.obs ∧ (State.useLink s l).amap = s.amap ∧ (State.useLink s l).mem = s.mem ∧ (State.useLink s l).home = s.home ∧ (State.useLink s l).ddr = s.ddr ∧ (State.useLink s l).tier = s.tier ∧ (State.useLink s l).dm = s.dm ∧ (State.useLink s l).dunas = s.dunas ∧ (State.useLink s l).brg = s.brg ∧ (State.useLink s l).clk = s.clk ∧ (State.useLink s l).hsc = s.hsc ∧ (State.useLink s l).boot = s.boot ∧ (State.useLink s l).core = s.core ∧ (State.useLink s l).mgmt = s.mgmt := by
  unfold State.useLink; simp [State.onLink_keeps _ _ _]

theorem State.restLink_keeps (s : State) (ld : ℕ) :
    (State.restLink s ld).now = s.now ∧ (State.restLink s ld).free = s.free ∧ (State.restLink s ld).pending = s.pending ∧ (State.restLink s ld).out = s.out ∧ (State.restLink s ld).regs = s.regs ∧ (State.restLink s ld).ret = s.ret ∧ (State.restLink s ld).evt = s.evt ∧ (State.restLink s ld).flt = s.flt ∧ (State.restLink s ld).obs = s.obs ∧ (State.restLink s ld).amap = s.amap ∧ (State.restLink s ld).mem = s.mem ∧ (State.restLink s ld).home = s.home ∧ (State.restLink s ld).ddr = s.ddr ∧ (State.restLink s ld).tier = s.tier ∧ (State.restLink s ld).dm = s.dm ∧ (State.restLink s ld).dunas = s.dunas ∧ (State.restLink s ld).brg = s.brg ∧ (State.restLink s ld).clk = s.clk ∧ (State.restLink s ld).hsc = s.hsc ∧ (State.restLink s ld).boot = s.boot ∧ (State.restLink s ld).core = s.core ∧ (State.restLink s ld).mgmt = s.mgmt := by
  unfold State.restLink; (repeat' split) <;> simp [State.onLink_keeps _ _ _]

theorem State.arriveOn_keeps (s : State) (l : ℕ) :
    (State.arriveOn s l).now = s.now ∧ (State.arriveOn s l).free = s.free ∧ (State.arriveOn s l).pending = s.pending ∧ (State.arriveOn s l).out = s.out ∧ (State.arriveOn s l).regs = s.regs ∧ (State.arriveOn s l).ret = s.ret ∧ (State.arriveOn s l).evt = s.evt ∧ (State.arriveOn s l).flt = s.flt ∧ (State.arriveOn s l).obs = s.obs ∧ (State.arriveOn s l).amap = s.amap ∧ (State.arriveOn s l).mem = s.mem ∧ (State.arriveOn s l).home = s.home ∧ (State.arriveOn s l).ddr = s.ddr ∧ (State.arriveOn s l).tier = s.tier ∧ (State.arriveOn s l).dm = s.dm ∧ (State.arriveOn s l).dunas = s.dunas ∧ (State.arriveOn s l).brg = s.brg ∧ (State.arriveOn s l).clk = s.clk ∧ (State.arriveOn s l).hsc = s.hsc ∧ (State.arriveOn s l).boot = s.boot ∧ (State.arriveOn s l).core = s.core ∧ (State.arriveOn s l).mgmt = s.mgmt := by
  unfold State.arriveOn; simp [State.onLink_keeps _ _ _, State.useLink_keeps _ _]

theorem State.heard_keeps (s : State) (ld : ℕ) :
    (State.heard s ld).now = s.now ∧ (State.heard s ld).free = s.free ∧ (State.heard s ld).pending = s.pending ∧ (State.heard s ld).out = s.out ∧ (State.heard s ld).regs = s.regs ∧ (State.heard s ld).ret = s.ret ∧ (State.heard s ld).evt = s.evt ∧ (State.heard s ld).flt = s.flt ∧ (State.heard s ld).obs = s.obs ∧ (State.heard s ld).amap = s.amap ∧ (State.heard s ld).mem = s.mem ∧ (State.heard s ld).home = s.home ∧ (State.heard s ld).ddr = s.ddr ∧ (State.heard s ld).tier = s.tier ∧ (State.heard s ld).dm = s.dm ∧ (State.heard s ld).dunas = s.dunas ∧ (State.heard s ld).brg = s.brg ∧ (State.heard s ld).clk = s.clk ∧ (State.heard s ld).hsc = s.hsc ∧ (State.heard s ld).boot = s.boot ∧ (State.heard s ld).core = s.core ∧ (State.heard s ld).mgmt = s.mgmt := by
  unfold State.heard; (repeat' split) <;> simp [State.arriveOn_keeps _ _]

theorem State.arrives_keeps (s : State) (m : Master) :
    (State.arrives s m).now = s.now ∧ (State.arrives s m).free = s.free ∧ (State.arrives s m).pending = s.pending ∧ (State.arrives s m).out = s.out ∧ (State.arrives s m).regs = s.regs ∧ (State.arrives s m).ret = s.ret ∧ (State.arrives s m).evt = s.evt ∧ (State.arrives s m).flt = s.flt ∧ (State.arrives s m).obs = s.obs ∧ (State.arrives s m).amap = s.amap ∧ (State.arrives s m).mem = s.mem ∧ (State.arrives s m).home = s.home ∧ (State.arrives s m).ddr = s.ddr ∧ (State.arrives s m).tier = s.tier ∧ (State.arrives s m).dm = s.dm ∧ (State.arrives s m).dunas = s.dunas ∧ (State.arrives s m).brg = s.brg ∧ (State.arrives s m).clk = s.clk ∧ (State.arrives s m).hsc = s.hsc ∧ (State.arrives s m).boot = s.boot ∧ (State.arrives s m).core = s.core ∧ (State.arrives s m).mgmt = s.mgmt := by
  unfold State.arrives; (repeat' split) <;> simp [State.heard_keeps _ _]

theorem State.toHost_keeps (s : State) (ld : ℕ) (m : Msg) :
    (State.toHost s ld m).now = s.now ∧ (State.toHost s ld m).free = s.free ∧ (State.toHost s ld m).pending = s.pending ∧ (State.toHost s ld m).regs = s.regs ∧ (State.toHost s ld m).ret = s.ret ∧ (State.toHost s ld m).evt = s.evt ∧ (State.toHost s ld m).flt = s.flt ∧ (State.toHost s ld m).amap = s.amap ∧ (State.toHost s ld m).mem = s.mem ∧ (State.toHost s ld m).home = s.home ∧ (State.toHost s ld m).ddr = s.ddr ∧ (State.toHost s ld m).tier = s.tier ∧ (State.toHost s ld m).dm = s.dm ∧ (State.toHost s ld m).brg = s.brg ∧ (State.toHost s ld m).clk = s.clk ∧ (State.toHost s ld m).hsc = s.hsc ∧ (State.toHost s ld m).boot = s.boot ∧ (State.toHost s ld m).core = s.core ∧ (State.toHost s ld m).mgmt = s.mgmt := by
  unfold State.toHost; (repeat' split) <;> simp [State.emit_keeps _ _, State.onLink_keeps _ _ _, State.useLink_keeps _ _]

theorem State.pump_keeps (a0 : ℕ) (a1 : ℕ) (a2 : State) :
    (State.pump a0 a1 a2).now = a2.now ∧ (State.pump a0 a1 a2).free = a2.free ∧ (State.pump a0 a1 a2).pending = a2.pending ∧ (State.pump a0 a1 a2).regs = a2.regs ∧ (State.pump a0 a1 a2).ret = a2.ret ∧ (State.pump a0 a1 a2).evt = a2.evt ∧ (State.pump a0 a1 a2).flt = a2.flt ∧ (State.pump a0 a1 a2).host = a2.host ∧ (State.pump a0 a1 a2).amap = a2.amap ∧ (State.pump a0 a1 a2).mem = a2.mem ∧ (State.pump a0 a1 a2).home = a2.home ∧ (State.pump a0 a1 a2).ddr = a2.ddr ∧ (State.pump a0 a1 a2).tier = a2.tier ∧ (State.pump a0 a1 a2).dm = a2.dm ∧ (State.pump a0 a1 a2).brg = a2.brg ∧ (State.pump a0 a1 a2).clk = a2.clk ∧ (State.pump a0 a1 a2).hsc = a2.hsc ∧ (State.pump a0 a1 a2).boot = a2.boot ∧ (State.pump a0 a1 a2).core = a2.core ∧ (State.pump a0 a1 a2).mgmt = a2.mgmt := by
  fun_induction State.pump a0 a1 a2 <;> simp_all +zetaDelta [State.creditTimers_keeps _ _, State.onMod_keeps _ _ _, State.sendNow_keeps _ _ _ _ _]

theorem State.sendMsix_keeps (s : State) (r : LogRec) (vec : ℕ) :
    (State.sendMsix s r vec).now = s.now ∧ (State.sendMsix s r vec).free = s.free ∧ (State.sendMsix s r vec).pending = s.pending ∧ (State.sendMsix s r vec).regs = s.regs ∧ (State.sendMsix s r vec).ret = s.ret ∧ (State.sendMsix s r vec).flt = s.flt ∧ (State.sendMsix s r vec).amap = s.amap ∧ (State.sendMsix s r vec).mem = s.mem ∧ (State.sendMsix s r vec).home = s.home ∧ (State.sendMsix s r vec).ddr = s.ddr ∧ (State.sendMsix s r vec).tier = s.tier ∧ (State.sendMsix s r vec).dm = s.dm ∧ (State.sendMsix s r vec).brg = s.brg ∧ (State.sendMsix s r vec).clk = s.clk ∧ (State.sendMsix s r vec).hsc = s.hsc ∧ (State.sendMsix s r vec).boot = s.boot ∧ (State.sendMsix s r vec).core = s.core ∧ (State.sendMsix s r vec).mgmt = s.mgmt := by
  unfold State.sendMsix; simp [State.onLd_keeps _ _ _, State.toHost_keeps _ _ _]

theorem State.sendBmc_keeps (s : State) (src : ℕ) :
    (State.sendBmc s src).now = s.now ∧ (State.sendBmc s src).free = s.free ∧ (State.sendBmc s src).pending = s.pending ∧ (State.sendBmc s src).regs = s.regs ∧ (State.sendBmc s src).ret = s.ret ∧ (State.sendBmc s src).flt = s.flt ∧ (State.sendBmc s src).host = s.host ∧ (State.sendBmc s src).amap = s.amap ∧ (State.sendBmc s src).mem = s.mem ∧ (State.sendBmc s src).home = s.home ∧ (State.sendBmc s src).ddr = s.ddr ∧ (State.sendBmc s src).tier = s.tier ∧ (State.sendBmc s src).dm = s.dm ∧ (State.sendBmc s src).brg = s.brg ∧ (State.sendBmc s src).clk = s.clk ∧ (State.sendBmc s src).hsc = s.hsc ∧ (State.sendBmc s src).boot = s.boot ∧ (State.sendBmc s src).core = s.core ∧ (State.sendBmc s src).mgmt = s.mgmt := by
  unfold State.sendBmc; simp [State.emit_keeps _ _]

theorem State.deliver_keeps (s : State) (r : LogRec) (route : BitVec 14) :
    (State.deliver s r route).now = s.now ∧ (State.deliver s r route).free = s.free ∧ (State.deliver s r route).pending = s.pending ∧ (State.deliver s r route).regs = s.regs ∧ (State.deliver s r route).ret = s.ret ∧ (State.deliver s r route).flt = s.flt ∧ (State.deliver s r route).amap = s.amap ∧ (State.deliver s r route).mem = s.mem ∧ (State.deliver s r route).home = s.home ∧ (State.deliver s r route).ddr = s.ddr ∧ (State.deliver s r route).tier = s.tier ∧ (State.deliver s r route).dm = s.dm ∧ (State.deliver s r route).brg = s.brg ∧ (State.deliver s r route).clk = s.clk ∧ (State.deliver s r route).hsc = s.hsc ∧ (State.deliver s r route).boot = s.boot ∧ (State.deliver s r route).core = s.core ∧ (State.deliver s r route).mgmt = s.mgmt := by
  unfold State.deliver; simp [State.sendBmc_keeps _ _, State.sendMsix_keeps _ _ _, State.attention_keeps _ _]

theorem State.deliverAll_keeps (s : State) (r : LogRec) (l : List (BitVec 14)) :
    (State.deliverAll s r l).now = s.now ∧ (State.deliverAll s r l).free = s.free ∧ (State.deliverAll s r l).pending = s.pending ∧ (State.deliverAll s r l).regs = s.regs ∧ (State.deliverAll s r l).ret = s.ret ∧ (State.deliverAll s r l).flt = s.flt ∧ (State.deliverAll s r l).amap = s.amap ∧ (State.deliverAll s r l).mem = s.mem ∧ (State.deliverAll s r l).home = s.home ∧ (State.deliverAll s r l).ddr = s.ddr ∧ (State.deliverAll s r l).tier = s.tier ∧ (State.deliverAll s r l).dm = s.dm ∧ (State.deliverAll s r l).brg = s.brg ∧ (State.deliverAll s r l).clk = s.clk ∧ (State.deliverAll s r l).hsc = s.hsc ∧ (State.deliverAll s r l).boot = s.boot ∧ (State.deliverAll s r l).core = s.core ∧ (State.deliverAll s r l).mgmt = s.mgmt := by
  unfold State.deliverAll; simp [State.deliver_keeps _ _ _]

theorem State.logIt_keeps (s : State) (r : LogRec) (vital : Bool) (dest : List (BitVec 14)) :
    (State.logIt s r vital dest).now = s.now ∧ (State.logIt s r vital dest).free = s.free ∧ (State.logIt s r vital dest).pending = s.pending ∧ (State.logIt s r vital dest).regs = s.regs ∧ (State.logIt s r vital dest).flt = s.flt ∧ (State.logIt s r vital dest).amap = s.amap ∧ (State.logIt s r vital dest).mem = s.mem ∧ (State.logIt s r vital dest).home = s.home ∧ (State.logIt s r vital dest).ddr = s.ddr ∧ (State.logIt s r vital dest).tier = s.tier ∧ (State.logIt s r vital dest).dm = s.dm ∧ (State.logIt s r vital dest).brg = s.brg ∧ (State.logIt s r vital dest).clk = s.clk ∧ (State.logIt s r vital dest).hsc = s.hsc ∧ (State.logIt s r vital dest).boot = s.boot ∧ (State.logIt s r vital dest).core = s.core ∧ (State.logIt s r vital dest).mgmt = s.mgmt := by
  unfold State.logIt; (repeat' split) <;> simp [State.retWrite_keeps _ _ _ _, State.deliverAll_keeps _ _ _]

theorem State.raiseOne_keeps (s : State) (e : Ev) :
    (State.raiseOne s e).now = s.now ∧ (State.raiseOne s e).free = s.free ∧ (State.raiseOne s e).pending = s.pending ∧ (State.raiseOne s e).regs = s.regs ∧ (State.raiseOne s e).flt = s.flt ∧ (State.raiseOne s e).amap = s.amap ∧ (State.raiseOne s e).mem = s.mem ∧ (State.raiseOne s e).home = s.home ∧ (State.raiseOne s e).ddr = s.ddr ∧ (State.raiseOne s e).tier = s.tier ∧ (State.raiseOne s e).dm = s.dm ∧ (State.raiseOne s e).brg = s.brg ∧ (State.raiseOne s e).clk = s.clk ∧ (State.raiseOne s e).hsc = s.hsc ∧ (State.raiseOne s e).boot = s.boot ∧ (State.raiseOne s e).core = s.core ∧ (State.raiseOne s e).mgmt = s.mgmt := by
  unfold State.raiseOne; simp [State.logIt_keeps _ _ _ _, State.deliver_keeps _ _ _]

theorem State.raise_keeps (s : State) (e : Ev) :
    (State.raise s e).now = s.now ∧ (State.raise s e).free = s.free ∧ (State.raise s e).pending = s.pending ∧ (State.raise s e).regs = s.regs ∧ (State.raise s e).flt = s.flt ∧ (State.raise s e).amap = s.amap ∧ (State.raise s e).mem = s.mem ∧ (State.raise s e).home = s.home ∧ (State.raise s e).ddr = s.ddr ∧ (State.raise s e).tier = s.tier ∧ (State.raise s e).dm = s.dm ∧ (State.raise s e).brg = s.brg ∧ (State.raise s e).clk = s.clk ∧ (State.raise s e).hsc = s.hsc ∧ (State.raise s e).boot = s.boot ∧ (State.raise s e).core = s.core ∧ (State.raise s e).mgmt = s.mgmt := by
  unfold State.raise; simp [State.raiseOne_keeps _ _]

theorem State.raiseAt_keeps (s : State) (src : ℕ) (page : ℕ) (subject : ℕ) :
    (State.raiseAt s src page subject).now = s.now ∧ (State.raiseAt s src page subject).free = s.free ∧ (State.raiseAt s src page subject).pending = s.pending ∧ (State.raiseAt s src page subject).regs = s.regs ∧ (State.raiseAt s src page subject).flt = s.flt ∧ (State.raiseAt s src page subject).amap = s.amap ∧ (State.raiseAt s src page subject).mem = s.mem ∧ (State.raiseAt s src page subject).home = s.home ∧ (State.raiseAt s src page subject).ddr = s.ddr ∧ (State.raiseAt s src page subject).tier = s.tier ∧ (State.raiseAt s src page subject).dm = s.dm ∧ (State.raiseAt s src page subject).brg = s.brg ∧ (State.raiseAt s src page subject).clk = s.clk ∧ (State.raiseAt s src page subject).hsc = s.hsc ∧ (State.raiseAt s src page subject).boot = s.boot ∧ (State.raiseAt s src page subject).core = s.core ∧ (State.raiseAt s src page subject).mgmt = s.mgmt := by
  unfold State.raiseAt; simp [State.raise_keeps _ _]

theorem State.raiseLink_keeps (s : State) (l : ℕ) (k : ℕ) (ld : Option ℕ) (subject : ℕ) :
    (State.raiseLink s l k ld subject).now = s.now ∧ (State.raiseLink s l k ld subject).free = s.free ∧ (State.raiseLink s l k ld subject).pending = s.pending ∧ (State.raiseLink s l k ld subject).regs = s.regs ∧ (State.raiseLink s l k ld subject).flt = s.flt ∧ (State.raiseLink s l k ld subject).amap = s.amap ∧ (State.raiseLink s l k ld subject).mem = s.mem ∧ (State.raiseLink s l k ld subject).home = s.home ∧ (State.raiseLink s l k ld subject).ddr = s.ddr ∧ (State.raiseLink s l k ld subject).tier = s.tier ∧ (State.raiseLink s l k ld subject).dm = s.dm ∧ (State.raiseLink s l k ld subject).brg = s.brg ∧ (State.raiseLink s l k ld subject).clk = s.clk ∧ (State.raiseLink s l k ld subject).hsc = s.hsc ∧ (State.raiseLink s l k ld subject).boot = s.boot ∧ (State.raiseLink s l k ld subject).core = s.core ∧ (State.raiseLink s l k ld subject).mgmt = s.mgmt := by
  unfold State.raiseLink; simp [State.raise_keeps _ _]

end Sys2Proof.Machine
end

