-- ==== Sys2Proof/Laws/CyclesKeeps.lean ====
section
/-! SUPPORT. Which fields of the state the operations of Cycles leave as they are: a proof
over the operation `State.op` gives simp its lemma `State.op_keeps _ _`. -/

namespace Sys2Proof.Machine

theorem State.settlePage_keeps (s : State) (p : ℕ) :
    (State.settlePage s p).now = s.now ∧ (State.settlePage s p).free = s.free ∧ (State.settlePage s p).pending = s.pending ∧ (State.settlePage s p).out = s.out ∧ (State.settlePage s p).regs = s.regs ∧ (State.settlePage s p).ret = s.ret ∧ (State.settlePage s p).evt = s.evt ∧ (State.settlePage s p).flt = s.flt ∧ (State.settlePage s p).host = s.host ∧ (State.settlePage s p).amap = s.amap ∧ (State.settlePage s p).mem = s.mem ∧ (State.settlePage s p).home = s.home ∧ (State.settlePage s p).ddr = s.ddr ∧ (State.settlePage s p).tier = s.tier ∧ (State.settlePage s p).dm = s.dm ∧ (State.settlePage s p).dunas = s.dunas ∧ (State.settlePage s p).brg = s.brg ∧ (State.settlePage s p).clk = s.clk ∧ (State.settlePage s p).hsc = s.hsc ∧ (State.settlePage s p).boot = s.boot ∧ (State.settlePage s p).core = s.core ∧ (State.settlePage s p).mgmt = s.mgmt := by
  unfold State.settlePage; simp [State.onBank_keeps _ _ _]

theorem State.settleAll_keeps (s : State) :
    (State.settleAll s).now = s.now ∧ (State.settleAll s).free = s.free ∧ (State.settleAll s).pending = s.pending ∧ (State.settleAll s).out = s.out ∧ (State.settleAll s).regs = s.regs ∧ (State.settleAll s).ret = s.ret ∧ (State.settleAll s).evt = s.evt ∧ (State.settleAll s).flt = s.flt ∧ (State.settleAll s).host = s.host ∧ (State.settleAll s).amap = s.amap ∧ (State.settleAll s).mem = s.mem ∧ (State.settleAll s).home = s.home ∧ (State.settleAll s).ddr = s.ddr ∧ (State.settleAll s).tier = s.tier ∧ (State.settleAll s).dm = s.dm ∧ (State.settleAll s).dunas = s.dunas ∧ (State.settleAll s).brg = s.brg ∧ (State.settleAll s).clk = s.clk ∧ (State.settleAll s).hsc = s.hsc ∧ (State.settleAll s).boot = s.boot ∧ (State.settleAll s).core = s.core ∧ (State.settleAll s).mgmt = s.mgmt := by
  unfold State.settleAll; simp [State.settlePage_keeps _ _]

theorem State.cycleRise_keeps (s : State) (d : ℕ) :
    (State.cycleRise s d).now = s.now ∧ (State.cycleRise s d).free = s.free ∧ (State.cycleRise s d).pending = s.pending ∧ (State.cycleRise s d).out = s.out ∧ (State.cycleRise s d).regs = s.regs ∧ (State.cycleRise s d).ret = s.ret ∧ (State.cycleRise s d).evt = s.evt ∧ (State.cycleRise s d).flt = s.flt ∧ (State.cycleRise s d).host = s.host ∧ (State.cycleRise s d).amap = s.amap ∧ (State.cycleRise s d).mem = s.mem ∧ (State.cycleRise s d).home = s.home ∧ (State.cycleRise s d).ddr = s.ddr ∧ (State.cycleRise s d).tier = s.tier ∧ (State.cycleRise s d).dm = s.dm ∧ (State.cycleRise s d).dunas = s.dunas ∧ (State.cycleRise s d).brg = s.brg ∧ (State.cycleRise s d).clk = s.clk ∧ (State.cycleRise s d).hsc = s.hsc ∧ (State.cycleRise s d).boot = s.boot ∧ (State.cycleRise s d).core = s.core ∧ (State.cycleRise s d).mgmt = s.mgmt := by
  obtain ⟨P, hP⟩ : ∃ P : State → Prop, P = fun x => x.now = s.now ∧ x.free = s.free ∧ x.pending = s.pending ∧ x.out = s.out ∧ x.regs = s.regs ∧ x.ret = s.ret ∧ x.evt = s.evt ∧ x.flt = s.flt ∧ x.host = s.host ∧ x.amap = s.amap ∧ x.mem = s.mem ∧ x.home = s.home ∧ x.ddr = s.ddr ∧ x.tier = s.tier ∧ x.dm = s.dm ∧ x.dunas = s.dunas ∧ x.brg = s.brg ∧ x.clk = s.clk ∧ x.hsc = s.hsc ∧ x.boot = s.boot ∧ x.core = s.core ∧ x.mgmt = s.mgmt := ⟨_, rfl⟩
  suffices h : P (State.cycleRise s d) by rw [hP] at h; exact h
  unfold State.cycleRise; (try dsimp only); (repeat' split) <;> skip <;> subst hP <;> simp_all +zetaDelta (maxDischargeDepth := 9) [State.onBank_keeps _ _ _]

theorem State.stretchPage_keeps (s : State) (t : ℕ) (p : ℕ) :
    (State.stretchPage s t p).now = s.now ∧ (State.stretchPage s t p).free = s.free ∧ (State.stretchPage s t p).pending = s.pending ∧ (State.stretchPage s t p).out = s.out ∧ (State.stretchPage s t p).regs = s.regs ∧ (State.stretchPage s t p).ret = s.ret ∧ (State.stretchPage s t p).evt = s.evt ∧ (State.stretchPage s t p).flt = s.flt ∧ (State.stretchPage s t p).host = s.host ∧ (State.stretchPage s t p).amap = s.amap ∧ (State.stretchPage s t p).mem = s.mem ∧ (State.stretchPage s t p).home = s.home ∧ (State.stretchPage s t p).ddr = s.ddr ∧ (State.stretchPage s t p).tier = s.tier ∧ (State.stretchPage s t p).dm = s.dm ∧ (State.stretchPage s t p).dunas = s.dunas ∧ (State.stretchPage s t p).brg = s.brg ∧ (State.stretchPage s t p).clk = s.clk ∧ (State.stretchPage s t p).hsc = s.hsc ∧ (State.stretchPage s t p).boot = s.boot ∧ (State.stretchPage s t p).core = s.core ∧ (State.stretchPage s t p).mgmt = s.mgmt := by
  unfold State.stretchPage; simp [State.onBank_keeps _ _ _]

theorem State.reach_keeps (s : State) (t : ℕ) :
    (State.reach s t).free = s.free ∧ (State.reach s t).pending = s.pending ∧ (State.reach s t).out = s.out ∧ (State.reach s t).regs = s.regs ∧ (State.reach s t).ret = s.ret ∧ (State.reach s t).evt = s.evt ∧ (State.reach s t).flt = s.flt ∧ (State.reach s t).host = s.host ∧ (State.reach s t).amap = s.amap ∧ (State.reach s t).mem = s.mem ∧ (State.reach s t).home = s.home ∧ (State.reach s t).ddr = s.ddr ∧ (State.reach s t).tier = s.tier ∧ (State.reach s t).dm = s.dm ∧ (State.reach s t).dunas = s.dunas ∧ (State.reach s t).brg = s.brg ∧ (State.reach s t).clk = s.clk ∧ (State.reach s t).hsc = s.hsc ∧ (State.reach s t).boot = s.boot ∧ (State.reach s t).core = s.core ∧ (State.reach s t).mgmt = s.mgmt := by
  unfold State.reach; simp [State.stretchPage_keeps _ _ _]

end Sys2Proof.Machine
end

