-- ==== Sys2Proof/Laws/AccessKeeps.lean ====
section
/-! SUPPORT. Which fields of the state the operations of Access leave as they are: a proof
over the operation `State.op` gives simp its lemma `State.op_keeps _ _`. -/

namespace Sys2Proof.Machine

theorem State.callEngine_keeps (s : State) (k : ℕ) :
    (State.callEngine s k).now = s.now ∧ (State.callEngine s k).free = s.free ∧ (State.callEngine s k).pending = s.pending ∧ (State.callEngine s k).out = s.out ∧ (State.callEngine s k).regs = s.regs ∧ (State.callEngine s k).ret = s.ret ∧ (State.callEngine s k).evt = s.evt ∧ (State.callEngine s k).flt = s.flt ∧ (State.callEngine s k).obs = s.obs ∧ (State.callEngine s k).host = s.host ∧ (State.callEngine s k).amap = s.amap ∧ (State.callEngine s k).mem = s.mem ∧ (State.callEngine s k).home = s.home ∧ (State.callEngine s k).ddr = s.ddr ∧ (State.callEngine s k).dm = s.dm ∧ (State.callEngine s k).dunas = s.dunas ∧ (State.callEngine s k).brg = s.brg ∧ (State.callEngine s k).clk = s.clk ∧ (State.callEngine s k).hsc = s.hsc ∧ (State.callEngine s k).boot = s.boot ∧ (State.callEngine s k).core = s.core ∧ (State.callEngine s k).mgmt = s.mgmt := by
  unfold State.callEngine; simp [State.onEng_keeps _ _ _]

theorem State.engineUsed_keeps (s : State) (k : ℕ) :
    (State.engineUsed s k).now = s.now ∧ (State.engineUsed s k).free = s.free ∧ (State.engineUsed s k).pending = s.pending ∧ (State.engineUsed s k).out = s.out ∧ (State.engineUsed s k).regs = s.regs ∧ (State.engineUsed s k).ret = s.ret ∧ (State.engineUsed s k).evt = s.evt ∧ (State.engineUsed s k).flt = s.flt ∧ (State.engineUsed s k).obs = s.obs ∧ (State.engineUsed s k).host = s.host ∧ (State.engineUsed s k).amap = s.amap ∧ (State.engineUsed s k).mem = s.mem ∧ (State.engineUsed s k).home = s.home ∧ (State.engineUsed s k).ddr = s.ddr ∧ (State.engineUsed s k).dm = s.dm ∧ (State.engineUsed s k).dunas = s.dunas ∧ (State.engineUsed s k).brg = s.brg ∧ (State.engineUsed s k).clk = s.clk ∧ (State.engineUsed s k).hsc = s.hsc ∧ (State.engineUsed s k).boot = s.boot ∧ (State.engineUsed s k).core = s.core ∧ (State.engineUsed s k).mgmt = s.mgmt := by
  unfold State.engineUsed; simp [State.onEng_keeps _ _ _]

theorem State.startWake_keeps (s : State) (d : ℕ) :
    (State.startWake s d).now = s.now ∧ (State.startWake s d).free = s.free ∧ (State.startWake s d).pending = s.pending ∧ (State.startWake s d).out = s.out ∧ (State.startWake s d).regs = s.regs ∧ (State.startWake s d).ret = s.ret ∧ (State.startWake s d).evt = s.evt ∧ (State.startWake s d).flt = s.flt ∧ (State.startWake s d).obs = s.obs ∧ (State.startWake s d).host = s.host ∧ (State.startWake s d).amap = s.amap ∧ (State.startWake s d).mem = s.mem ∧ (State.startWake s d).home = s.home ∧ (State.startWake s d).ddr = s.ddr ∧ (State.startWake s d).tier = s.tier ∧ (State.startWake s d).dm = s.dm ∧ (State.startWake s d).dunas = s.dunas ∧ (State.startWake s d).brg = s.brg ∧ (State.startWake s d).hsc = s.hsc ∧ (State.startWake s d).boot = s.boot ∧ (State.startWake s d).core = s.core ∧ (State.startWake s d).mgmt = s.mgmt := by
  unfold State.startWake; simp

theorem State.used_keeps (s : State) (d : ℕ) :
    (State.used s d).now = s.now ∧ (State.used s d).free = s.free ∧ (State.used s d).pending = s.pending ∧ (State.used s d).out = s.out ∧ (State.used s d).regs = s.regs ∧ (State.used s d).ret = s.ret ∧ (State.used s d).evt = s.evt ∧ (State.used s d).flt = s.flt ∧ (State.used s d).obs = s.obs ∧ (State.used s d).host = s.host ∧ (State.used s d).amap = s.amap ∧ (State.used s d).mem = s.mem ∧ (State.used s d).home = s.home ∧ (State.used s d).ddr = s.ddr ∧ (State.used s d).tier = s.tier ∧ (State.used s d).dm = s.dm ∧ (State.used s d).dunas = s.dunas ∧ (State.used s d).brg = s.brg ∧ (State.used s d).hsc = s.hsc ∧ (State.used s d).boot = s.boot ∧ (State.used s d).core = s.core ∧ (State.used s d).mgmt = s.mgmt := by
  unfold State.used; simp

theorem State.usedAt_keeps (s : State) (off : ℕ) :
    (State.usedAt s off).now = s.now ∧ (State.usedAt s off).free = s.free ∧ (State.usedAt s off).pending = s.pending ∧ (State.usedAt s off).out = s.out ∧ (State.usedAt s off).regs = s.regs ∧ (State.usedAt s off).ret = s.ret ∧ (State.usedAt s off).evt = s.evt ∧ (State.usedAt s off).flt = s.flt ∧ (State.usedAt s off).obs = s.obs ∧ (State.usedAt s off).host = s.host ∧ (State.usedAt s off).amap = s.amap ∧ (State.usedAt s off).mem = s.mem ∧ (State.usedAt s off).home = s.home ∧ (State.usedAt s off).ddr = s.ddr ∧ (State.usedAt s off).tier = s.tier ∧ (State.usedAt s off).dm = s.dm ∧ (State.usedAt s off).dunas = s.dunas ∧ (State.usedAt s off).brg = s.brg ∧ (State.usedAt s off).hsc = s.hsc ∧ (State.usedAt s off).boot = s.boot ∧ (State.usedAt s off).core = s.core ∧ (State.usedAt s off).mgmt = s.mgmt := by
  unfold State.usedAt; (repeat' split) <;> simp [State.used_keeps _ _]

theorem State.unclaimed_keeps (s : State) (m : Master) (off : ℕ) (posted : Bool) :
    (State.unclaimed s m off posted).now = s.now ∧ (State.unclaimed s m off posted).free = s.free ∧ (State.unclaimed s m off posted).pending = s.pending ∧ (State.unclaimed s m off posted).regs = s.regs ∧ (State.unclaimed s m off posted).flt = s.flt ∧ (State.unclaimed s m off posted).amap = s.amap ∧ (State.unclaimed s m off posted).mem = s.mem ∧ (State.unclaimed s m off posted).home = s.home ∧ (State.unclaimed s m off posted).ddr = s.ddr ∧ (State.unclaimed s m off posted).tier = s.tier ∧ (State.unclaimed s m off posted).dm = s.dm ∧ (State.unclaimed s m off posted).brg = s.brg ∧ (State.unclaimed s m off posted).clk = s.clk ∧ (State.unclaimed s m off posted).hsc = s.hsc ∧ (State.unclaimed s m off posted).boot = s.boot ∧ (State.unclaimed s m off posted).core = s.core ∧ (State.unclaimed s m off posted).mgmt = s.mgmt := by
  unfold State.unclaimed; (repeat' split) <;> simp [State.raiseLink_keeps _ _ _ _ _, State.toHost_keeps _ _ _]

theorem State.touchLock_keeps (s : State) (m : Master) (p : ℕ) :
    (State.touchLock s m p).now = s.now ∧ (State.touchLock s m p).free = s.free ∧ (State.touchLock s m p).pending = s.pending ∧ (State.touchLock s m p).out = s.out ∧ (State.touchLock s m p).ret = s.ret ∧ (State.touchLock s m p).evt = s.evt ∧ (State.touchLock s m p).flt = s.flt ∧ (State.touchLock s m p).obs = s.obs ∧ (State.touchLock s m p).host = s.host ∧ (State.touchLock s m p).amap = s.amap ∧ (State.touchLock s m p).mem = s.mem ∧ (State.touchLock s m p).home = s.home ∧ (State.touchLock s m p).ddr = s.ddr ∧ (State.touchLock s m p).tier = s.tier ∧ (State.touchLock s m p).dm = s.dm ∧ (State.touchLock s m p).dunas = s.dunas ∧ (State.touchLock s m p).brg = s.brg ∧ (State.touchLock s m p).clk = s.clk ∧ (State.touchLock s m p).hsc = s.hsc ∧ (State.touchLock s m p).boot = s.boot ∧ (State.touchLock s m p).core = s.core ∧ (State.touchLock s m p).mgmt = s.mgmt := by
  unfold State.touchLock; (repeat' split) <;> simp

theorem State.freeLock_keeps (s : State) (p : ℕ) :
    (State.freeLock s p).now = s.now ∧ (State.freeLock s p).free = s.free ∧ (State.freeLock s p).pending = s.pending ∧ (State.freeLock s p).out = s.out ∧ (State.freeLock s p).ret = s.ret ∧ (State.freeLock s p).evt = s.evt ∧ (State.freeLock s p).flt = s.flt ∧ (State.freeLock s p).obs = s.obs ∧ (State.freeLock s p).host = s.host ∧ (State.freeLock s p).amap = s.amap ∧ (State.freeLock s p).mem = s.mem ∧ (State.freeLock s p).home = s.home ∧ (State.freeLock s p).ddr = s.ddr ∧ (State.freeLock s p).tier = s.tier ∧ (State.freeLock s p).dm = s.dm ∧ (State.freeLock s p).dunas = s.dunas ∧ (State.freeLock s p).brg = s.brg ∧ (State.freeLock s p).clk = s.clk ∧ (State.freeLock s p).hsc = s.hsc ∧ (State.freeLock s p).boot = s.boot ∧ (State.freeLock s p).core = s.core ∧ (State.freeLock s p).mgmt = s.mgmt := by
  unfold State.freeLock; simp

theorem State.freeLocks_keeps (s : State) (owner : ℕ) :
    (State.freeLocks s owner).now = s.now ∧ (State.freeLocks s owner).free = s.free ∧ (State.freeLocks s owner).pending = s.pending ∧ (State.freeLocks s owner).out = s.out ∧ (State.freeLocks s owner).ret = s.ret ∧ (State.freeLocks s owner).evt = s.evt ∧ (State.freeLocks s owner).flt = s.flt ∧ (State.freeLocks s owner).obs = s.obs ∧ (State.freeLocks s owner).host = s.host ∧ (State.freeLocks s owner).amap = s.amap ∧ (State.freeLocks s owner).mem = s.mem ∧ (State.freeLocks s owner).home = s.home ∧ (State.freeLocks s owner).ddr = s.ddr ∧ (State.freeLocks s owner).tier = s.tier ∧ (State.freeLocks s owner).dm = s.dm ∧ (State.freeLocks s owner).dunas = s.dunas ∧ (State.freeLocks s owner).brg = s.brg ∧ (State.freeLocks s owner).clk = s.clk ∧ (State.freeLocks s owner).hsc = s.hsc ∧ (State.freeLocks s owner).boot = s.boot ∧ (State.freeLocks s owner).core = s.core ∧ (State.freeLocks s owner).mgmt = s.mgmt := by
  unfold State.freeLocks; simp

theorem State.wstat_keeps (s : State) (lo : ℕ) (w : ℕ) :
    (State.wstat s lo w).now = s.now ∧ (State.wstat s lo w).free = s.free ∧ (State.wstat s lo w).pending = s.pending ∧ (State.wstat s lo w).out = s.out ∧ (State.wstat s lo w).ret = s.ret ∧ (State.wstat s lo w).evt = s.evt ∧ (State.wstat s lo w).flt = s.flt ∧ (State.wstat s lo w).obs = s.obs ∧ (State.wstat s lo w).host = s.host ∧ (State.wstat s lo w).amap = s.amap ∧ (State.wstat s lo w).mem = s.mem ∧ (State.wstat s lo w).home = s.home ∧ (State.wstat s lo w).ddr = s.ddr ∧ (State.wstat s lo w).tier = s.tier ∧ (State.wstat s lo w).dm = s.dm ∧ (State.wstat s lo w).dunas = s.dunas ∧ (State.wstat s lo w).brg = s.brg ∧ (State.wstat s lo w).clk = s.clk ∧ (State.wstat s lo w).hsc = s.hsc ∧ (State.wstat s lo w).boot = s.boot ∧ (State.wstat s lo w).core = s.core ∧ (State.wstat s lo w).mgmt = s.mgmt := by
  unfold State.wstat; simp [State.setBits_keeps _ _ _ _ _ _]

theorem State.ddrRefused_keeps (s : State) (off : ℕ) :
    (State.ddrRefused s off).now = s.now ∧ (State.ddrRefused s off).free = s.free ∧ (State.ddrRefused s off).pending = s.pending ∧ (State.ddrRefused s off).out = s.out ∧ (State.ddrRefused s off).regs = s.regs ∧ (State.ddrRefused s off).ret = s.ret ∧ (State.ddrRefused s off).evt = s.evt ∧ (State.ddrRefused s off).flt = s.flt ∧ (State.ddrRefused s off).obs = s.obs ∧ (State.ddrRefused s off).host = s.host ∧ (State.ddrRefused s off).amap = s.amap ∧ (State.ddrRefused s off).mem = s.mem ∧ (State.ddrRefused s off).home = s.home ∧ (State.ddrRefused s off).tier = s.tier ∧ (State.ddrRefused s off).dm = s.dm ∧ (State.ddrRefused s off).dunas = s.dunas ∧ (State.ddrRefused s off).brg = s.brg ∧ (State.ddrRefused s off).clk = s.clk ∧ (State.ddrRefused s off).hsc = s.hsc ∧ (State.ddrRefused s off).boot = s.boot ∧ (State.ddrRefused s off).core = s.core ∧ (State.ddrRefused s off).mgmt = s.mgmt := by
  unfold State.ddrRefused; simp [State.onChan_keeps _ _ _]

theorem State.storeWrite_keeps (s : State) (off : ℕ) (val : Word) (who : Option Master) :
    (State.storeWrite s off val who).now = s.now ∧ (State.storeWrite s off val who).free = s.free ∧ (State.storeWrite s off val who).pending = s.pending ∧ (State.storeWrite s off val who).out = s.out ∧ (State.storeWrite s off val who).evt = s.evt ∧ (State.storeWrite s off val who).flt = s.flt ∧ (State.storeWrite s off val who).obs = s.obs ∧ (State.storeWrite s off val who).host = s.host ∧ (State.storeWrite s off val who).mem = s.mem ∧ (State.storeWrite s off val who).home = s.home ∧ (State.storeWrite s off val who).tier = s.tier ∧ (State.storeWrite s off val who).dm = s.dm ∧ (State.storeWrite s off val who).dunas = s.dunas ∧ (State.storeWrite s off val who).brg = s.brg ∧ (State.storeWrite s off val who).clk = s.clk ∧ (State.storeWrite s off val who).hsc = s.hsc ∧ (State.storeWrite s off val who).boot = s.boot ∧ (State.storeWrite s off val who).core = s.core ∧ (State.storeWrite s off val who).mgmt = s.mgmt := by
  unfold State.storeWrite; (repeat' split) <;> simp [State.ddrRefused_keeps _ _, State.setStatus_keeps _ _ _, State.setReg_keeps _ _ _ _, State.retWrite_keeps _ _ _ _]

theorem State.holdAccess_keeps (s : State) (h : HeldAccess) :
    (State.holdAccess s h).now = s.now ∧ (State.holdAccess s h).free = s.free ∧ (State.holdAccess s h).pending = s.pending ∧ (State.holdAccess s h).out = s.out ∧ (State.holdAccess s h).regs = s.regs ∧ (State.holdAccess s h).evt = s.evt ∧ (State.holdAccess s h).flt = s.flt ∧ (State.holdAccess s h).obs = s.obs ∧ (State.holdAccess s h).host = s.host ∧ (State.holdAccess s h).amap = s.amap ∧ (State.holdAccess s h).mem = s.mem ∧ (State.holdAccess s h).home = s.home ∧ (State.holdAccess s h).ddr = s.ddr ∧ (State.holdAccess s h).tier = s.tier ∧ (State.holdAccess s h).dm = s.dm ∧ (State.holdAccess s h).dunas = s.dunas ∧ (State.holdAccess s h).brg = s.brg ∧ (State.holdAccess s h).clk = s.clk ∧ (State.holdAccess s h).hsc = s.hsc ∧ (State.holdAccess s h).boot = s.boot ∧ (State.holdAccess s h).core = s.core := by
  unfold State.holdAccess; simp

theorem State.dropHeld_keeps (s : State) :
    (State.dropHeld s).now = s.now ∧ (State.dropHeld s).free = s.free ∧ (State.dropHeld s).pending = s.pending ∧ (State.dropHeld s).regs = s.regs ∧ (State.dropHeld s).evt = s.evt ∧ (State.dropHeld s).flt = s.flt ∧ (State.dropHeld s).host = s.host ∧ (State.dropHeld s).amap = s.amap ∧ (State.dropHeld s).mem = s.mem ∧ (State.dropHeld s).home = s.home ∧ (State.dropHeld s).ddr = s.ddr ∧ (State.dropHeld s).tier = s.tier ∧ (State.dropHeld s).dm = s.dm ∧ (State.dropHeld s).brg = s.brg ∧ (State.dropHeld s).clk = s.clk ∧ (State.dropHeld s).hsc = s.hsc ∧ (State.dropHeld s).boot = s.boot ∧ (State.dropHeld s).core = s.core := by
  obtain ⟨P, hP⟩ : ∃ P : State → Prop, P = fun x => x.now = s.now ∧ x.free = s.free ∧ x.pending = s.pending ∧ x.regs = s.regs ∧ x.evt = s.evt ∧ x.flt = s.flt ∧ x.host = s.host ∧ x.amap = s.amap ∧ x.mem = s.mem ∧ x.home = s.home ∧ x.ddr = s.ddr ∧ x.tier = s.tier ∧ x.dm = s.dm ∧ x.brg = s.brg ∧ x.clk = s.clk ∧ x.hsc = s.hsc ∧ x.boot = s.boot ∧ x.core = s.core := ⟨_, rfl⟩
  suffices h : P (State.dropHeld s) by rw [hP] at h; exact h
  unfold State.dropHeld; (try dsimp only); (repeat' split) <;> skip <;> subst hP <;> simp_all [State.emit_keeps _ _]

theorem State.brgRegSend_keeps (s : State) (m : Master) (off : ℕ) (wr : Option Word) :
    (State.brgRegSend s m off wr).now = s.now ∧ (State.brgRegSend s m off wr).free = s.free ∧ (State.brgRegSend s m off wr).pending = s.pending ∧ (State.brgRegSend s m off wr).regs = s.regs ∧ (State.brgRegSend s m off wr).ret = s.ret ∧ (State.brgRegSend s m off wr).evt = s.evt ∧ (State.brgRegSend s m off wr).flt = s.flt ∧ (State.brgRegSend s m off wr).host = s.host ∧ (State.brgRegSend s m off wr).amap = s.amap ∧ (State.brgRegSend s m off wr).mem = s.mem ∧ (State.brgRegSend s m off wr).home = s.home ∧ (State.brgRegSend s m off wr).ddr = s.ddr ∧ (State.brgRegSend s m off wr).tier = s.tier ∧ (State.brgRegSend s m off wr).dm = s.dm ∧ (State.brgRegSend s m off wr).clk = s.clk ∧ (State.brgRegSend s m off wr).hsc = s.hsc ∧ (State.brgRegSend s m off wr).boot = s.boot ∧ (State.brgRegSend s m off wr).core = s.core ∧ (State.brgRegSend s m off wr).mgmt = s.mgmt := by
  unfold State.brgRegSend; simp [State.emit_keeps _ _]

theorem State.refuse_keeps (s : State) (m : Master) (status : ℕ) :
    (State.refuse s m status).now = s.now ∧ (State.refuse s m status).free = s.free ∧ (State.refuse s m status).pending = s.pending ∧ (State.refuse s m status).regs = s.regs ∧ (State.refuse s m status).ret = s.ret ∧ (State.refuse s m status).evt = s.evt ∧ (State.refuse s m status).flt = s.flt ∧ (State.refuse s m status).host = s.host ∧ (State.refuse s m status).amap = s.amap ∧ (State.refuse s m status).mem = s.mem ∧ (State.refuse s m status).home = s.home ∧ (State.refuse s m status).ddr = s.ddr ∧ (State.refuse s m status).tier = s.tier ∧ (State.refuse s m status).dm = s.dm ∧ (State.refuse s m status).brg = s.brg ∧ (State.refuse s m status).clk = s.clk ∧ (State.refuse s m status).hsc = s.hsc ∧ (State.refuse s m status).boot = s.boot ∧ (State.refuse s m status).core = s.core ∧ (State.refuse s m status).mgmt = s.mgmt := by
  unfold State.refuse; (repeat' split) <;> simp [State.emit_keeps _ _]

theorem State.finish_keeps (s : State) (m : Master) :
    (State.finish s m).now = s.now ∧ (State.finish s m).free = s.free ∧ (State.finish s m).pending = s.pending ∧ (State.finish s m).regs = s.regs ∧ (State.finish s m).ret = s.ret ∧ (State.finish s m).evt = s.evt ∧ (State.finish s m).flt = s.flt ∧ (State.finish s m).host = s.host ∧ (State.finish s m).amap = s.amap ∧ (State.finish s m).mem = s.mem ∧ (State.finish s m).home = s.home ∧ (State.finish s m).ddr = s.ddr ∧ (State.finish s m).tier = s.tier ∧ (State.finish s m).dm = s.dm ∧ (State.finish s m).brg = s.brg ∧ (State.finish s m).clk = s.clk ∧ (State.finish s m).hsc = s.hsc ∧ (State.finish s m).boot = s.boot ∧ (State.finish s m).core = s.core := by
  unfold State.finish; (repeat' split) <;> simp [State.emit_keeps _ _]

theorem State.countAccess_keeps (s : State) (off : ℕ) :
    (State.countAccess s off).now = s.now ∧ (State.countAccess s off).free = s.free ∧ (State.countAccess s off).pending = s.pending ∧ (State.countAccess s off).out = s.out ∧ (State.countAccess s off).regs = s.regs ∧ (State.countAccess s off).ret = s.ret ∧ (State.countAccess s off).evt = s.evt ∧ (State.countAccess s off).flt = s.flt ∧ (State.countAccess s off).host = s.host ∧ (State.countAccess s off).amap = s.amap ∧ (State.countAccess s off).mem = s.mem ∧ (State.countAccess s off).home = s.home ∧ (State.countAccess s off).ddr = s.ddr ∧ (State.countAccess s off).tier = s.tier ∧ (State.countAccess s off).dm = s.dm ∧ (State.countAccess s off).dunas = s.dunas ∧ (State.countAccess s off).brg = s.brg ∧ (State.countAccess s off).clk = s.clk ∧ (State.countAccess s off).hsc = s.hsc ∧ (State.countAccess s off).boot = s.boot ∧ (State.countAccess s off).core = s.core ∧ (State.countAccess s off).mgmt = s.mgmt := by
  unfold State.countAccess; simp [State.count_keeps _ _ _ _]

@[simp] theorem State.checkWrite_now (s : State) (m : Master) (who : Option Master) (off : ℕ) (val : Word) (act : State → State) (hact : ∀ (t : State), (act t).now = t.now) :
    (State.checkWrite s m who off val act).1.now = s.now := by
  unfold State.checkWrite; (try dsimp only); (repeat' split) <;> simp_all [State.unclaimed_keeps _ _ _ _, State.wstat_keeps _ _ _, State.brgRegSend_keeps _ _ _ _, State.setStatus_keeps _ _ _, State.startWake_keeps _ _, State.touchLock_keeps _ _ _, State.usedAt_keeps _ _, State.countAccess_keeps _ _, State.storeWrite_keeps _ _ _ _]

@[simp] theorem State.checkWrite_free (s : State) (m : Master) (who : Option Master) (off : ℕ) (val : Word) (act : State → State) (hact : ∀ (t : State), (act t).free = t.free) :
    (State.checkWrite s m who off val act).1.free = s.free := by
  unfold State.checkWrite; (try dsimp only); (repeat' split) <;> simp_all [State.unclaimed_keeps _ _ _ _, State.wstat_keeps _ _ _, State.brgRegSend_keeps _ _ _ _, State.setStatus_keeps _ _ _, State.startWake_keeps _ _, State.touchLock_keeps _ _ _, State.usedAt_keeps _ _, State.countAccess_keeps _ _, State.storeWrite_keeps _ _ _ _]

@[simp] theorem State.checkWrite_pending (s : State) (m : Master) (who : Option Master) (off : ℕ) (val : Word) (act : State → State) (hact : ∀ (t : State), (act t).pending = t.pending) :
    (State.checkWrite s m who off val act).1.pending = s.pending := by
  unfold State.checkWrite; (try dsimp only); (repeat' split) <;> simp_all [State.unclaimed_keeps _ _ _ _, State.wstat_keeps _ _ _, State.brgRegSend_keeps _ _ _ _, State.setStatus_keeps _ _ _, State.startWake_keeps _ _, State.touchLock_keeps _ _ _, State.usedAt_keeps _ _, State.countAccess_keeps _ _, State.storeWrite_keeps _ _ _ _]

@[simp] theorem State.checkWrite_flt (s : State) (m : Master) (who : Option Master) (off : ℕ) (val : Word) (act : State → State) (hact : ∀ (t : State), (act t).flt = t.flt) :
    (State.checkWrite s m who off val act).1.flt = s.flt := by
  unfold State.checkWrite; (try dsimp only); (repeat' split) <;> simp_all [State.unclaimed_keeps _ _ _ _, State.wstat_keeps _ _ _, State.brgRegSend_keeps _ _ _ _, State.setStatus_keeps _ _ _, State.startWake_keeps _ _, State.touchLock_keeps _ _ _, State.usedAt_keeps _ _, State.countAccess_keeps _ _, State.storeWrite_keeps _ _ _ _]

@[simp] theorem State.checkWrite_mem (s : State) (m : Master) (who : Option Master) (off : ℕ) (val : Word) (act : State → State) (hact : ∀ (t : State), (act t).mem = t.mem) :
    (State.checkWrite s m who off val act).1.mem = s.mem := by
  unfold State.checkWrite; (try dsimp only); (repeat' split) <;> simp_all [State.unclaimed_keeps _ _ _ _, State.wstat_keeps _ _ _, State.brgRegSend_keeps _ _ _ _, State.setStatus_keeps _ _ _, State.startWake_keeps _ _, State.touchLock_keeps _ _ _, State.usedAt_keeps _ _, State.countAccess_keeps _ _, State.storeWrite_keeps _ _ _ _]

@[simp] theorem State.checkWrite_home (s : State) (m : Master) (who : Option Master) (off : ℕ) (val : Word) (act : State → State) (hact : ∀ (t : State), (act t).home = t.home) :
    (State.checkWrite s m who off val act).1.home = s.home := by
  unfold State.checkWrite; (try dsimp only); (repeat' split) <;> simp_all [State.unclaimed_keeps _ _ _ _, State.wstat_keeps _ _ _, State.brgRegSend_keeps _ _ _ _, State.setStatus_keeps _ _ _, State.startWake_keeps _ _, State.touchLock_keeps _ _ _, State.usedAt_keeps _ _, State.countAccess_keeps _ _, State.storeWrite_keeps _ _ _ _]

@[simp] theorem State.checkWrite_tier (s : State) (m : Master) (who : Option Master) (off : ℕ) (val : Word) (act : State → State) (hact : ∀ (t : State), (act t).tier = t.tier) :
    (State.checkWrite s m who off val act).1.tier = s.tier := by
  unfold State.checkWrite; (try dsimp only); (repeat' split) <;> simp_all [State.unclaimed_keeps _ _ _ _, State.wstat_keeps _ _ _, State.brgRegSend_keeps _ _ _ _, State.setStatus_keeps _ _ _, State.startWake_keeps _ _, State.touchLock_keeps _ _ _, State.usedAt_keeps _ _, State.countAccess_keeps _ _, State.storeWrite_keeps _ _ _ _]

@[simp] theorem State.checkWrite_dm (s : State) (m : Master) (who : Option Master) (off : ℕ) (val : Word) (act : State → State) (hact : ∀ (t : State), (act t).dm = t.dm) :
    (State.checkWrite s m who off val act).1.dm = s.dm := by
  unfold State.checkWrite; (try dsimp only); (repeat' split) <;> simp_all [State.unclaimed_keeps _ _ _ _, State.wstat_keeps _ _ _, State.brgRegSend_keeps _ _ _ _, State.setStatus_keeps _ _ _, State.startWake_keeps _ _, State.touchLock_keeps _ _ _, State.usedAt_keeps _ _, State.countAccess_keeps _ _, State.storeWrite_keeps _ _ _ _]

@[simp] theorem State.checkWrite_hsc (s : State) (m : Master) (who : Option Master) (off : ℕ) (val : Word) (act : State → State) (hact : ∀ (t : State), (act t).hsc = t.hsc) :
    (State.checkWrite s m who off val act).1.hsc = s.hsc := by
  unfold State.checkWrite; (try dsimp only); (repeat' split) <;> simp_all [State.unclaimed_keeps _ _ _ _, State.wstat_keeps _ _ _, State.brgRegSend_keeps _ _ _ _, State.setStatus_keeps _ _ _, State.startWake_keeps _ _, State.touchLock_keeps _ _ _, State.usedAt_keeps _ _, State.countAccess_keeps _ _, State.storeWrite_keeps _ _ _ _]

@[simp] theorem State.checkWrite_boot (s : State) (m : Master) (who : Option Master) (off : ℕ) (val : Word) (act : State → State) (hact : ∀ (t : State), (act t).boot = t.boot) :
    (State.checkWrite s m who off val act).1.boot = s.boot := by
  unfold State.checkWrite; (try dsimp only); (repeat' split) <;> simp_all [State.unclaimed_keeps _ _ _ _, State.wstat_keeps _ _ _, State.brgRegSend_keeps _ _ _ _, State.setStatus_keeps _ _ _, State.startWake_keeps _ _, State.touchLock_keeps _ _ _, State.usedAt_keeps _ _, State.countAccess_keeps _ _, State.storeWrite_keeps _ _ _ _]

@[simp] theorem State.checkWrite_core (s : State) (m : Master) (who : Option Master) (off : ℕ) (val : Word) (act : State → State) (hact : ∀ (t : State), (act t).core = t.core) :
    (State.checkWrite s m who off val act).1.core = s.core := by
  unfold State.checkWrite; (try dsimp only); (repeat' split) <;> simp_all [State.unclaimed_keeps _ _ _ _, State.wstat_keeps _ _ _, State.brgRegSend_keeps _ _ _ _, State.setStatus_keeps _ _ _, State.startWake_keeps _ _, State.touchLock_keeps _ _ _, State.usedAt_keeps _ _, State.countAccess_keeps _ _, State.storeWrite_keeps _ _ _ _]

@[simp] theorem State.checkWrite_mgmt (s : State) (m : Master) (who : Option Master) (off : ℕ) (val : Word) (act : State → State) (hact : ∀ (t : State), (act t).mgmt = t.mgmt) :
    (State.checkWrite s m who off val act).1.mgmt = s.mgmt := by
  unfold State.checkWrite; (try dsimp only); (repeat' split) <;> simp_all [State.unclaimed_keeps _ _ _ _, State.wstat_keeps _ _ _, State.brgRegSend_keeps _ _ _ _, State.setStatus_keeps _ _ _, State.startWake_keeps _ _, State.touchLock_keeps _ _ _, State.usedAt_keeps _ _, State.countAccess_keeps _ _, State.storeWrite_keeps _ _ _ _]

theorem State.afterChange_keeps (s : State) (off : ℕ) :
    (State.afterChange s off).free = s.free ∧ (State.afterChange s off).pending = s.pending ∧ (State.afterChange s off).out = s.out ∧ (State.afterChange s off).regs = s.regs ∧ (State.afterChange s off).ret = s.ret ∧ (State.afterChange s off).evt = s.evt ∧ (State.afterChange s off).flt = s.flt ∧ (State.afterChange s off).host = s.host ∧ (State.afterChange s off).amap = s.amap ∧ (State.afterChange s off).mem = s.mem ∧ (State.afterChange s off).home = s.home ∧ (State.afterChange s off).ddr = s.ddr ∧ (State.afterChange s off).tier = s.tier ∧ (State.afterChange s off).dm = s.dm ∧ (State.afterChange s off).dunas = s.dunas ∧ (State.afterChange s off).brg = s.brg ∧ (State.afterChange s off).clk = s.clk ∧ (State.afterChange s off).hsc = s.hsc ∧ (State.afterChange s off).boot = s.boot ∧ (State.afterChange s off).core = s.core ∧ (State.afterChange s off).mgmt = s.mgmt := by
  unfold State.afterChange; (repeat' split) <;> simp [State.reach_keeps _ _]

@[simp] theorem State.gate_free (s : State) (m : Master) (off : ℕ) (val : Word) (act : State → State) (hact : ∀ (t : State), (act t).free = t.free) :
    (State.gate s m off val act).free = s.free := by
  unfold State.gate; simp [hact, State.arrives_keeps _ _, State.holdAccess_keeps _ _, State.afterChange_keeps _ _, State.finish_keeps _ _, State.refuse_keeps _ _ _]

@[simp] theorem State.gate_pending (s : State) (m : Master) (off : ℕ) (val : Word) (act : State → State) (hact : ∀ (t : State), (act t).pending = t.pending) :
    (State.gate s m off val act).pending = s.pending := by
  unfold State.gate; simp [hact, State.arrives_keeps _ _, State.holdAccess_keeps _ _, State.afterChange_keeps _ _, State.finish_keeps _ _, State.refuse_keeps _ _ _]

@[simp] theorem State.gate_flt (s : State) (m : Master) (off : ℕ) (val : Word) (act : State → State) (hact : ∀ (t : State), (act t).flt = t.flt) :
    (State.gate s m off val act).flt = s.flt := by
  unfold State.gate; simp [hact, State.arrives_keeps _ _, State.holdAccess_keeps _ _, State.afterChange_keeps _ _, State.finish_keeps _ _, State.refuse_keeps _ _ _]

@[simp] theorem State.gate_mem (s : State) (m : Master) (off : ℕ) (val : Word) (act : State → State) (hact : ∀ (t : State), (act t).mem = t.mem) :
    (State.gate s m off val act).mem = s.mem := by
  unfold State.gate; simp [hact, State.arrives_keeps _ _, State.holdAccess_keeps _ _, State.afterChange_keeps _ _, State.finish_keeps _ _, State.refuse_keeps _ _ _]

@[simp] theorem State.gate_home (s : State) (m : Master) (off : ℕ) (val : Word) (act : State → State) (hact : ∀ (t : State), (act t).home = t.home) :
    (State.gate s m off val act).home = s.home := by
  unfold State.gate; simp [hact, State.arrives_keeps _ _, State.holdAccess_keeps _ _, State.afterChange_keeps _ _, State.finish_keeps _ _, State.refuse_keeps _ _ _]

@[simp] theorem State.gate_tier (s : State) (m : Master) (off : ℕ) (val : Word) (act : State → State) (hact : ∀ (t : State), (act t).tier = t.tier) :
    (State.gate s m off val act).tier = s.tier := by
  unfold State.gate; simp [hact, State.arrives_keeps _ _, State.holdAccess_keeps _ _, State.afterChange_keeps _ _, State.finish_keeps _ _, State.refuse_keeps _ _ _]

@[simp] theorem State.gate_dm (s : State) (m : Master) (off : ℕ) (val : Word) (act : State → State) (hact : ∀ (t : State), (act t).dm = t.dm) :
    (State.gate s m off val act).dm = s.dm := by
  unfold State.gate; simp [hact, State.arrives_keeps _ _, State.holdAccess_keeps _ _, State.afterChange_keeps _ _, State.finish_keeps _ _, State.refuse_keeps _ _ _]

@[simp] theorem State.gate_hsc (s : State) (m : Master) (off : ℕ) (val : Word) (act : State → State) (hact : ∀ (t : State), (act t).hsc = t.hsc) :
    (State.gate s m off val act).hsc = s.hsc := by
  unfold State.gate; simp [hact, State.arrives_keeps _ _, State.holdAccess_keeps _ _, State.afterChange_keeps _ _, State.finish_keeps _ _, State.refuse_keeps _ _ _]

@[simp] theorem State.gate_boot (s : State) (m : Master) (off : ℕ) (val : Word) (act : State → State) (hact : ∀ (t : State), (act t).boot = t.boot) :
    (State.gate s m off val act).boot = s.boot := by
  unfold State.gate; simp [hact, State.arrives_keeps _ _, State.holdAccess_keeps _ _, State.afterChange_keeps _ _, State.finish_keeps _ _, State.refuse_keeps _ _ _]

@[simp] theorem State.gate_core (s : State) (m : Master) (off : ℕ) (val : Word) (act : State → State) (hact : ∀ (t : State), (act t).core = t.core) :
    (State.gate s m off val act).core = s.core := by
  unfold State.gate; simp [hact, State.arrives_keeps _ _, State.holdAccess_keeps _ _, State.afterChange_keeps _ _, State.finish_keeps _ _, State.refuse_keeps _ _ _]

end Sys2Proof.Machine
end

