-- ==== Sys2Proof/Laws/Table.lean ====
section
/-! SUPPORT. Reading a table after a change of it, and its canonical form. -/

namespace Sys2Proof.Machine

/-! ### Reading after a change -/

theorem look_wipe {α : Type} (d : α) (t : Table α) (k j : Nat) :
    look d (wipe t k) j = if j = k then d else look d t j := by
  induction t with
  | nil => simp [wipe, look]
  | cons e t ih =>
    obtain ⟨k', v⟩ := e
    by_cases h : k' = k
    · subst h; simp only [wipe, if_true, ih, look]; by_cases h2 : j = k'
      · simp [h2]
      · simp [h2, Ne.symm h2]
    · simp only [wipe, if_neg h, look, ih]
      by_cases h2 : j = k
      · subst h2; simp [h]
      · simp [h2]

theorem look_enter {α : Type} (d v : α) (t : Table α) (k j : Nat) :
    look d (enter v t k) j = if j = k then v else look d t j := by
  induction t with
  | nil =>
    by_cases h : j = k
    · simp [enter, look, h]
    · simp [enter, look, h, Ne.symm h]
  | cons e t ih =>
    obtain ⟨k', v'⟩ := e
    simp only [enter]
    split
    · by_cases h2 : j = k
      · simp [look, h2]
      · simp [look, h2, Ne.symm h2]
    · split
      · rename_i h; subst h
        by_cases h2 : j = k'
        · simp [look, h2]
        · simp [look, h2, Ne.symm h2]
      · simp only [look, ih]
        by_cases h2 : j = k
        · rename_i h; subst h2; simp [h]
        · simp [h2]

/-- What a key reads after a value is put at a key. -/
theorem look_put {α : Type} [DecidableEq α] (d : α) (t : Table α) (k : Nat) (v : α) (j : Nat) :
    look d (put d t k v) j = if j = k then v else look d t j := by
  unfold put; split
  · rename_i h; subst h; exact look_wipe _ _ _ _
  · exact look_enter _ _ _ _ _

@[simp] theorem look_put_same {α : Type} [DecidableEq α] (d : α) (t : Table α) (k : Nat) (v : α) :
    look d (put d t k v) k = v := by simp [look_put]

@[simp] theorem look_put_ne {α : Type} [DecidableEq α] (d : α) (t : Table α) (k : Nat) (v : α) (j : Nat) (h : j ≠ k) :
    look d (put d t k v) j = look d t j := by simp [look_put, h]

@[simp] theorem look_edit_same {α : Type} [DecidableEq α] (d : α) (t : Table α) (k : Nat) (f : α → α) :
    look d (edit d t k f) k = f (look d t k) := by simp [edit]

@[simp] theorem look_edit_ne {α : Type} [DecidableEq α] (d : α) (t : Table α) (k : Nat) (f : α → α) (j : Nat)
    (h : j ≠ k) : look d (edit d t k f) j = look d t j := by simp [edit, h]

/-! ### The canonical form -/

theorem rising_of_lt {α : Type} {a b : Nat} {t : Table α} (h : a ≤ b) (r : rising b t = true) : rising a t = true := by
  cases t with
  | nil => rfl
  | cons e t => obtain ⟨k, v⟩ := e; simp only [rising, Bool.and_eq_true, decide_eq_true_eq] at *; exact ⟨by omega, r.2⟩

theorem rising_wipe {α : Type} {b : Nat} {t : Table α} (k : Nat) (r : rising b t = true) :
    rising b (wipe t k) = true := by
  induction t generalizing b with
  | nil => rfl
  | cons e t ih =>
    obtain ⟨k', v⟩ := e
    simp only [rising, Bool.and_eq_true, decide_eq_true_eq] at r
    simp only [wipe]; split
    · exact rising_of_lt (Nat.le_of_lt r.1) (ih r.2)
    · simp only [rising, Bool.and_eq_true, decide_eq_true_eq]; exact ⟨r.1, ih r.2⟩

theorem rising_enter {α : Type} {b : Nat} {t : Table α} (k : Nat) (v : α) (h : b < k) (r : rising b t = true) :
    rising b (enter v t k) = true := by
  induction t generalizing b with
  | nil => simp [enter, rising, h]
  | cons e t ih =>
    obtain ⟨k', v'⟩ := e
    simp only [rising, Bool.and_eq_true, decide_eq_true_eq] at r
    simp only [enter]; split
    · simp [rising, *]
    · split
      · rename_i h2; subst h2; simp [rising, h, r.2]
      · simp only [rising, Bool.and_eq_true, decide_eq_true_eq]
        exact ⟨r.1, ih (by omega) r.2⟩

/-- The canonical form as one statement about keys and one about values. -/
theorem wf_iff {α : Type} [DecidableEq α] (d : α) (t : Table α) :
    wf d t = true ↔ (∀ k v r, t = (k, v) :: r → rising k r = true) ∧ ∀ e ∈ t, e.2 ≠ d := by
  cases t with
  | nil => simp [wf]
  | cons e t =>
    obtain ⟨k, v⟩ := e
    simp only [wf, Bool.and_eq_true, List.all_eq_true, decide_eq_true_eq, List.cons.injEq, Prod.mk.injEq]
    refine and_congr_left' ⟨?_, fun h => h k v t ⟨⟨rfl, rfl⟩, rfl⟩⟩
    rintro h _ _ _ ⟨⟨rfl, rfl⟩, rfl⟩; exact h

theorem mem_wipe {α : Type} {t : Table α} {k : Nat} {e : Nat × α} (h : e ∈ wipe t k) : e ∈ t := by
  induction t with
  | nil => exact h
  | cons x t ih =>
    obtain ⟨k', v⟩ := x
    simp only [wipe] at h; split at h
    · exact List.mem_cons_of_mem _ (ih h)
    · rcases List.mem_cons.mp h with h | h
      · exact h ▸ List.mem_cons_self
      · exact List.mem_cons_of_mem _ (ih h)

theorem mem_enter {α : Type} {v : α} {t : Table α} {k : Nat} {e : Nat × α} (h : e ∈ enter v t k) :
    e = (k, v) ∨ e ∈ t := by
  induction t with
  | nil => simpa [enter] using h
  | cons x t ih =>
    obtain ⟨k', v'⟩ := x
    simp only [enter] at h; split at h
    · simpa using h
    · split at h
      · rcases List.mem_cons.mp h with h | h
        · exact .inl h
        · exact .inr (List.mem_cons_of_mem _ h)
      · rcases List.mem_cons.mp h with h | h
        · exact .inr (h ▸ List.mem_cons_self)
        · rcases ih h with h | h
          · exact .inl h
          · exact .inr (List.mem_cons_of_mem _ h)

theorem wf_wipe {α : Type} [DecidableEq α] {d : α} {t : Table α} (k : Nat) (h : wf d t = true) :
    wf d (wipe t k) = true := by
  rw [wf_iff] at *
  refine ⟨fun k2 v2 r hr => ?_, fun e he => h.2 e (mem_wipe he)⟩
  cases t with
  | nil => simp [wipe] at hr
  | cons x t =>
    obtain ⟨k', v⟩ := x
    have h1 := rising_wipe k (h.1 k' v t rfl)
    simp only [wipe] at hr; split at hr
    · rw [hr, rising, Bool.and_eq_true] at h1; exact h1.2
    · simp only [List.cons.injEq, Prod.mk.injEq] at hr
      obtain ⟨⟨rfl, rfl⟩, rfl⟩ := hr; exact h1

theorem wf_enter {α : Type} [DecidableEq α] {d v : α} {t : Table α} (k : Nat) (hv : v ≠ d) (h : wf d t = true) :
    wf d (enter v t k) = true := by
  rw [wf_iff] at *
  refine ⟨fun k2 v2 r hr => ?_, fun e he => ?_⟩
  · cases t with
    | nil => simp [enter] at hr; obtain ⟨_, rfl⟩ := hr; rfl
    | cons x t =>
      obtain ⟨k', v'⟩ := x
      have h1 := h.1 k' v' t rfl
      simp only [enter] at hr; split at hr
      · rename_i hlt
        simp only [List.cons.injEq, Prod.mk.injEq] at hr
        obtain ⟨⟨rfl, rfl⟩, rfl⟩ := hr; simp [rising, hlt, h1]
      · split at hr <;> simp only [List.cons.injEq, Prod.mk.injEq] at hr <;> obtain ⟨⟨rfl, rfl⟩, rfl⟩ := hr
        · rename_i h2; exact h2 ▸ h1
        · exact rising_enter k v (by omega) h1
  · rcases mem_enter he with rfl | he
    · exact hv
    · exact h.2 e he

/-- A change of a table keeps its canonical form. -/
theorem wf_put {α : Type} [DecidableEq α] {d : α} {t : Table α} (k : Nat) (v : α) (h : wf d t = true) :
    wf d (put d t k v) = true := by
  unfold put; split
  · exact wf_wipe k h
  · rename_i hv; exact wf_enter k hv h

theorem wf_edit {α : Type} [DecidableEq α] {d : α} {t : Table α} (k : Nat) (f : α → α) (h : wf d t = true) :
    wf d (edit d t k f) = true := wf_put k _ h

end Sys2Proof.Machine
end

