-- ==== Sys2Proof/Laws/Accepts.lean ====
section
/-! SUPPORT. What the shared operations do where nothing turns an access, a request or a message away. -/

namespace Sys2Proof.Machine

/-- A sub-domain that is awake is not quarantined asleep. -/
theorem State.shutOff_of_awake (s : State) (off : Nat) (h : s.asleep off = none) : s.shutOff off = false := by
  simp [State.shutOff, h]

/-- A write that every check lets pass stores its fields, has its effect and answers its master. -/
theorem State.gate_accepts (s : State) (m : Master) (off : Nat) (v : Word) (act : State → State)
    (h : s.accepts m off = true) : s.gate m off v act = (act (s.written m off v)).finish m := by
  simp only [State.accepts, State.passes, Bool.and_eq_true, Bool.not_eq_true', Option.isNone_iff_eq_none] at h
  obtain ⟨⟨h0, h1⟩, ⟨⟨⟨⟨h2, h3⟩, h4⟩, h5⟩, h6⟩, h7⟩ := h
  have q := (s.met m off).shutOff_of_awake off h6
  have e : (s.arrives m).afterChange off = s.met m off := rfl
  have h4 : ¬ pgSlot (off / 4096) = 12 := by simpa using h4
  simp only [State.gate, h0, h1, e, Bool.not_true, Bool.false_eq_true, if_false, State.checkWrite, h2, h3, q, h4, h5]
  cases m with
  | host ld =>
    rcases (by simpa using h7 : (s.met (.host ld) off).fullHost ld.val = true ∨
      (s.met (.host ld) off).filterWrites ld.val off = true) with h | h <;> simp [h, h6, State.written]
  | bmc => simp [h6, State.written]
  | core c => simp [h6, State.written]

/-- The time after waiting for a moment. -/
@[simp] theorem State.reach_now (s : State) (t : Nat) : (s.reach t).now = s.instant t := by
  simp [State.reach]

/-- An instant is not before the present one. -/
theorem State.le_instant (s : State) (t : Nat) : s.now ≤ s.instant t := by
  simp [State.instant]

/-- Counting events changes the observation state only. -/
theorem State.count_obs (s : State) (p code n : Nat) : ∃ o, s.count p code n = s.withObs o := by
  unfold State.count; split
  · unfold State.each
    refine foldl_holds (P := fun t => ∃ o, t = s.withObs o) ⟨s.obs, rfl⟩ ?_
    rintro b x ⟨o, rfl⟩
    dsimp only [State.when]; split
    · exact ⟨_, rfl⟩
    · exact ⟨o, rfl⟩
  · exact ⟨s.obs, rfl⟩

/-- The active words are not of the observation state. -/
theorem State.withObs_activeWord (s : State) (o : Observe) (off : Nat) :
    (s.withObs o).activeWord off = s.activeWord off := by
  have h : ∀ r, (s.withObs o).backing off r = s.backing off r := fun _ => rfl
  simp only [State.activeWord, State.withObs_regs, h]

/-- Readiness is not of the observation state. -/
theorem State.withObs_notReady (s : State) (o : Observe) (l : Nat) : (s.withObs o).notReady l = s.notReady l := by
  have h : (s.withObs o).grpEn (l / 4) = s.grpEn (l / 4) := by
    simp only [State.grpEn, State.cfgBit, State.cfg, State.withObs_activeWord]
  simp only [State.notReady, State.hrdyCause, State.trainHolds, State.grp, h, State.withObs_host, State.withObs_boot,
    State.withObs_ddr, State.withObs_flt]
  congr!

/-- A request that arrives changes its link at most in its state, its width in use and the times of its use. -/
theorem State.arriveOn_host (s : State) (l : Nat) : ∃ L : Table Link,
    s.arriveOn l = s.withHost { s.host with link := L } ∧ ∀ k, (look {} L k).bi = (s.link k).bi := by
  refine ⟨_, rfl, fun k => ?_⟩
  simp only [State.useLink, State.onLink, State.withHost_host, State.link]
  by_cases e : k = l
  · subst e; simp only [look_edit_same]; split <;> rfl
  · simp [e]

/-- Readiness is not of the links. -/
theorem State.withLinks_notReady (s : State) (L : Table Link) (l : Nat) :
    (s.withHost { s.host with link := L }).notReady l = s.notReady l := by
  have g : ∀ k, (s.withHost { s.host with link := L }).grp k = s.grp k := fun _ => rfl
  have a : ∀ off, (s.withHost { s.host with link := L }).activeWord off = s.activeWord off := by
    intro off
    have b : ∀ r, (s.withHost { s.host with link := L }).backing off r = s.backing off r := fun _ => rfl
    simp only [State.activeWord, State.withHost_regs, b]
  have e : ∀ k, (s.withHost { s.host with link := L }).grpEn k = s.grpEn k := by
    intro k; simp only [State.grpEn, State.cfgBit, State.cfg, a]
  have h : ∀ k, (s.withHost { s.host with link := L }).hrdyCause k = s.hrdyCause k := by
    intro k; simp only [State.hrdyCause, g, e]; rfl
  simp only [State.notReady, h, g]

/-- The home slice of a line in service is in service. -/
theorem State.sliceOut_of_inService {s : State} {line : Nat} (h : s.outOfService line = false) :
    s.sliceOut (homeOf (lnPage line)) = false := by
  simp only [State.outOfService, State.unitsUp, Bool.not_eq_false', Bool.and_eq_true, Bool.not_eq_true'] at h
  exact h.1

/-- What the rows of R76 read is not of the observation state, nor of a link's state. -/
theorem State.memArrives_admits (s : State) (l ld hpa : Nat) (k : ReqKind) (tag dpa : Nat)
    (hk : poisoned k = false) (h : s.admits l ld hpa dpa = true) :
    s.memArrives l ld hpa k tag = (s.arrived l k).enlist (dpa / 64) (.host ld) k tag false (s.tagging l).2 := by
  simp only [State.admits, Bool.and_eq_true, Bool.not_eq_true', beq_iff_eq] at h
  obtain ⟨⟨⟨⟨⟨⟨⟨-, h2⟩, h3⟩, h4⟩, h5⟩, h6⟩, h7⟩, h8⟩ := h
  obtain ⟨o, ho⟩ : ∃ o, (s.tagging l).1.count (linkPage l 2) (if traceKind k = 0 then 0x10 else 0x11)
      (b2n (traceKind k = 0 ∨ traceKind k = 1 ∨ traceKind k = 2)) = s.withObs o := by
    obtain ⟨o, ho⟩ := (s.tagging l).1.count_obs (linkPage l 2) (if traceKind k = 0 then 0x10 else 0x11)
      (b2n (traceKind k = 0 ∨ traceKind k = 1 ∨ traceKind k = 2))
    exact ⟨o, ho⟩
  obtain ⟨L, hL, hbi⟩ := (s.withObs o).arriveOn_host l
  have b : (((s.withObs o).withHost { (s.withObs o).host with link := L }).link l).bi = (s.link l).bi := hbi l
  have g2 : ((s.withObs o).withHost { (s.withObs o).host with link := L }).groupFatal l = false := h2
  have g3 : ((s.withObs o).withHost { (s.withObs o).host with link := L }).dpaOf ld hpa = some dpa := h3
  have g4 : ((s.withObs o).withHost { (s.withObs o).host with link := L }).outOfService (dpa / 64) = false := h4
  have g5 : ((s.withObs o).withHost { (s.withObs o).host with link := L }).granted ld (pgExt (lnPage (dpa / 64))) = true := h5
  have g6 : (((s.withObs o).withHost { (s.withObs o).host with link := L }).coherent (dpa / 64) &&
      !(((s.withObs o).withHost { (s.withObs o).host with link := L }).link l).bi) = false := by rw [b]; exact h6
  have g7 : ((s.withObs o).withHost { (s.withObs o).host with link := L }).home.timedOut.getLsbD ld = false := h7
  have g8 : ((s.withObs o).withHost { (s.withObs o).host with link := L }).notReady l = false := by
    rw [State.withLinks_notReady, State.withObs_notReady]; exact h8
  unfold State.memArrives State.arrived
  extract_lets t s1
  have e : s1 = (s.withObs o).withHost { (s.withObs o).host with link := L } := by
    rw [← hL, ← ho]
  rw [ho, hL, e]
  have g9 : ((s.withObs o).withHost { (s.withObs o).host with link := L }).sliceOut (homeOf (lnPage (dpa / 64))) = false :=
    State.sliceOut_of_inService h4
  simp only [g2, g3, g4, g5, g6, g7, g8, g9, hk, Bool.false_eq_true, if_false, Bool.not_true]
  rfl

/-- A request of a host that no row of R76 turns away is admitted to the queue of its line. -/
theorem State.memCommand_admits (s : State) (l : Fin 16) (ld : Fin 64) (hpa : BitVec 64) (k : ReqKind) (tag dpa : Nat)
    (hk : poisoned k = false) (h : s.admits l.val ld.val hpa.toNat dpa = true) :
    s.memCommand l ld hpa k tag =
      (s.arrived l.val k).enlist (dpa / 64) (.host ld.val) k tag false (s.tagging l.val).2 := by
  have hl : s.memLink l.val ld.val = true := by
    simp only [State.admits, Bool.and_eq_true] at h; exact h.1.1.1.1.1.1.1
  simp only [State.memCommand, State.when, hl, if_true]
  exact s.memArrives_admits _ _ _ k tag dpa hk h

/-- A request of a Borage agent with a grant and a right is admitted to the queue of its line. -/
theorem State.brgRequest_admits (s : State) (a tag line : Nat) (k : ReqKind) (caching cred : Bool)
    (h1 : (s.brgEnd (homeOf (lnPage line))).isSome = true) (h2 : s.home.lost.getLsbD a = false)
    (h3 : s.unitsUp line = true) (h4 : s.brgMay a line caching = true) :
    s.brgRequest a tag line k caching cred = (s.tagging (16 + homeOf (lnPage line) % 4)).1.enlist line (.borage a) k tag cred
      (s.tagging (16 + homeOf (lnPage line) % 4)).2 := by
  have g0 : (s.brgEnd (homeOf (lnPage line))).isNone = false := by simpa using h1
  have g2 : (s.tagging (16 + homeOf (lnPage line) % 4)).1.home.lost.getLsbD a = false := h2
  have g3 : (s.tagging (16 + homeOf (lnPage line) % 4)).1.outOfService line = false := by
    show (!s.unitsUp line) = false
    simp [h3]
  have g4 : (s.tagging (16 + homeOf (lnPage line) % 4)).1.brgMay a line caching = true := h4
  unfold State.brgRequest; dsimp only
  simp [g0, g2, g3, g4]

/-- A mailbox command reaches the active core. -/
theorem State.mailbox_served (s : State) (ld : Fin 64) (i : CoreMsg) (l : Nat) (h1 : s.coreServes = true)
    (h2 : s.ioLink ld.val = some l) (h3 : s.mgmt.switching = none) : s.mailbox ld i = (s.heard ld.val).serve i := by
  have h : (s.heard ld.val).mgmt.switching = none := by
    unfold State.heard; split <;> exact h3
  simp [State.mailbox, State.when, State.toCore, h1, h2, h]

/-- An operation of a descriptor that runs and whose operands are permitted. -/
theorem State.dmOp_runs (s : State) (q ix op : Nat) (work : Desc → State) (d : Desc) (h1 : s.desc q ix = some d)
    (h2 : d.ended = false) (h3 : d.flushing = false) (h4 : dOp d.raw = op) (h5 : s.dmServes q = true)
    (h6 : s.dmPermit q d.raw = none) : s.dmOp q ix op work = work d := by
  simp [State.dmOp, h1, h2, h3, h4, h5, h6]

/-- An operation whose source bytes are there. -/
theorem State.withSource_bytes (s : State) (q : Nat) (d : Desc) (work : State → List (Option Byte) → State) (u : State)
    (b : List (Option Byte))
    (h : s.operand q d (dSrcSp d.raw) (dSrc d.raw + dFrom d.raw) (dSrcLen d.raw - dFrom d.raw) = (u, .bytes b)) :
    s.withSource q d work = work u b := by
  simp [State.withSource, h]

end Sys2Proof.Machine
end

