-- ==== Sys2Proof/Laws/AddressKeeps.lean ====
section
/-! SUPPORT. Which fields of the state the operations of Address leave as they are: a proof
over the operation `State.op` gives simp its lemma `State.op_keeps _ _`. -/

namespace Sys2Proof.Machine

theorem State.useRun_keeps (s : State) (i : ℕ) (f : ℕ) (n : ℕ) :
    (State.useRun s i f n).now = s.now ∧ (State.useRun s i f n).free = s.free ∧ (State.useRun s i f n).pending = s.pending ∧ (State.useRun s i f n).out = s.out ∧ (State.useRun s i f n).regs = s.regs ∧ (State.useRun s i f n).ret = s.ret ∧ (State.useRun s i f n).evt = s.evt ∧ (State.useRun s i f n).flt = s.flt ∧ (State.useRun s i f n).obs = s.obs ∧ (State.useRun s i f n).host = s.host ∧ (State.useRun s i f n).mem = s.mem ∧ (State.useRun s i f n).home = s.home ∧ (State.useRun s i f n).ddr = s.ddr ∧ (State.useRun s i f n).tier = s.tier ∧ (State.useRun s i f n).dm = s.dm ∧ (State.useRun s i f n).dunas = s.dunas ∧ (State.useRun s i f n).brg = s.brg ∧ (State.useRun s i f n).clk = s.clk ∧ (State.useRun s i f n).hsc = s.hsc ∧ (State.useRun s i f n).boot = s.boot ∧ (State.useRun s i f n).core = s.core ∧ (State.useRun s i f n).mgmt = s.mgmt := by
  unfold State.useRun; simp

theorem State.freeRunOf_keeps (s : State) (i : ℕ) (f : ℕ) (n : ℕ) :
    (State.freeRunOf s i f n).now = s.now ∧ (State.freeRunOf s i f n).free = s.free ∧ (State.freeRunOf s i f n).pending = s.pending ∧ (State.freeRunOf s i f n).out = s.out ∧ (State.freeRunOf s i f n).regs = s.regs ∧ (State.freeRunOf s i f n).ret = s.ret ∧ (State.freeRunOf s i f n).evt = s.evt ∧ (State.freeRunOf s i f n).flt = s.flt ∧ (State.freeRunOf s i f n).obs = s.obs ∧ (State.freeRunOf s i f n).host = s.host ∧ (State.freeRunOf s i f n).mem = s.mem ∧ (State.freeRunOf s i f n).home = s.home ∧ (State.freeRunOf s i f n).ddr = s.ddr ∧ (State.freeRunOf s i f n).tier = s.tier ∧ (State.freeRunOf s i f n).dm = s.dm ∧ (State.freeRunOf s i f n).dunas = s.dunas ∧ (State.freeRunOf s i f n).brg = s.brg ∧ (State.freeRunOf s i f n).clk = s.clk ∧ (State.freeRunOf s i f n).hsc = s.hsc ∧ (State.freeRunOf s i f n).boot = s.boot ∧ (State.freeRunOf s i f n).core = s.core ∧ (State.freeRunOf s i f n).mgmt = s.mgmt := by
  unfold State.freeRunOf; simp

theorem State.knowTotal_keeps (s : State) :
    (State.knowTotal s).now = s.now ∧ (State.knowTotal s).free = s.free ∧ (State.knowTotal s).pending = s.pending ∧ (State.knowTotal s).out = s.out ∧ (State.knowTotal s).regs = s.regs ∧ (State.knowTotal s).ret = s.ret ∧ (State.knowTotal s).evt = s.evt ∧ (State.knowTotal s).flt = s.flt ∧ (State.knowTotal s).obs = s.obs ∧ (State.knowTotal s).host = s.host ∧ (State.knowTotal s).mem = s.mem ∧ (State.knowTotal s).home = s.home ∧ (State.knowTotal s).ddr = s.ddr ∧ (State.knowTotal s).tier = s.tier ∧ (State.knowTotal s).dm = s.dm ∧ (State.knowTotal s).dunas = s.dunas ∧ (State.knowTotal s).brg = s.brg ∧ (State.knowTotal s).clk = s.clk ∧ (State.knowTotal s).hsc = s.hsc ∧ (State.knowTotal s).boot = s.boot ∧ (State.knowTotal s).core = s.core ∧ (State.knowTotal s).mgmt = s.mgmt := by
  unfold State.knowTotal; simp

theorem State.levels_keeps (s : State) (d : ℕ) :
    (State.levels s d).now = s.now ∧ (State.levels s d).free = s.free ∧ (State.levels s d).pending = s.pending ∧ (State.levels s d).regs = s.regs ∧ (State.levels s d).flt = s.flt ∧ (State.levels s d).mem = s.mem ∧ (State.levels s d).home = s.home ∧ (State.levels s d).ddr = s.ddr ∧ (State.levels s d).tier = s.tier ∧ (State.levels s d).dm = s.dm ∧ (State.levels s d).brg = s.brg ∧ (State.levels s d).clk = s.clk ∧ (State.levels s d).hsc = s.hsc ∧ (State.levels s d).boot = s.boot ∧ (State.levels s d).core = s.core ∧ (State.levels s d).mgmt = s.mgmt := by
  unfold State.levels; simp [State.raiseAt_keeps _ _ _ _]

theorem State.account_keeps (s : State) (e : ℕ) (add : ℕ) (sub : ℕ) :
    (State.account s e add sub).now = s.now ∧ (State.account s e add sub).free = s.free ∧ (State.account s e add sub).pending = s.pending ∧ (State.account s e add sub).out = s.out ∧ (State.account s e add sub).regs = s.regs ∧ (State.account s e add sub).ret = s.ret ∧ (State.account s e add sub).evt = s.evt ∧ (State.account s e add sub).flt = s.flt ∧ (State.account s e add sub).obs = s.obs ∧ (State.account s e add sub).host = s.host ∧ (State.account s e add sub).mem = s.mem ∧ (State.account s e add sub).home = s.home ∧ (State.account s e add sub).ddr = s.ddr ∧ (State.account s e add sub).tier = s.tier ∧ (State.account s e add sub).dm = s.dm ∧ (State.account s e add sub).dunas = s.dunas ∧ (State.account s e add sub).brg = s.brg ∧ (State.account s e add sub).clk = s.clk ∧ (State.account s e add sub).hsc = s.hsc ∧ (State.account s e add sub).boot = s.boot ∧ (State.account s e add sub).core = s.core ∧ (State.account s e add sub).mgmt = s.mgmt := by
  unfold State.account; simp [State.onExt_keeps _ _ _, State.onDom_keeps _ _ _]

theorem State.takeFrame_keeps (s : State) (p : ℕ) (promo : Bool) {r : State × ℕ × ℕ} (hr : State.takeFrame s p promo = some r) :
    r.1.now = s.now ∧ r.1.free = s.free ∧ r.1.pending = s.pending ∧ r.1.regs = s.regs ∧ r.1.flt = s.flt ∧ r.1.mem = s.mem ∧ r.1.home = s.home ∧ r.1.ddr = s.ddr ∧ r.1.tier = s.tier ∧ r.1.dm = s.dm ∧ r.1.brg = s.brg ∧ r.1.clk = s.clk ∧ r.1.hsc = s.hsc ∧ r.1.boot = s.boot ∧ r.1.core = s.core ∧ r.1.mgmt = s.mgmt := by
  unfold State.takeFrame at hr; (repeat' split at hr) <;> first | (cases hr; done) | (cases hr; simp [State.levels_keeps _ _, State.account_keeps _ _ _ _, State.useRun_keeps _ _ _ _]; done) | simp_all [State.levels_keeps _ _, State.account_keeps _ _ _ _, State.useRun_keeps _ _ _ _]

theorem State.withdrawn_keeps (s : State) (e : PageEntry) :
    (State.withdrawn s e).now = s.now ∧ (State.withdrawn s e).free = s.free ∧ (State.withdrawn s e).pending = s.pending ∧ (State.withdrawn s e).out = s.out ∧ (State.withdrawn s e).regs = s.regs ∧ (State.withdrawn s e).ret = s.ret ∧ (State.withdrawn s e).evt = s.evt ∧ (State.withdrawn s e).flt = s.flt ∧ (State.withdrawn s e).obs = s.obs ∧ (State.withdrawn s e).host = s.host ∧ (State.withdrawn s e).mem = s.mem ∧ (State.withdrawn s e).home = s.home ∧ (State.withdrawn s e).ddr = s.ddr ∧ (State.withdrawn s e).tier = s.tier ∧ (State.withdrawn s e).dm = s.dm ∧ (State.withdrawn s e).dunas = s.dunas ∧ (State.withdrawn s e).brg = s.brg ∧ (State.withdrawn s e).clk = s.clk ∧ (State.withdrawn s e).hsc = s.hsc ∧ (State.withdrawn s e).boot = s.boot ∧ (State.withdrawn s e).core = s.core ∧ (State.withdrawn s e).mgmt = s.mgmt := by
  unfold State.withdrawn; simp

theorem State.releaseFrame_keeps (s : State) (i : ℕ) (f : ℕ) :
    (State.releaseFrame s i f).now = s.now ∧ (State.releaseFrame s i f).free = s.free ∧ (State.releaseFrame s i f).pending = s.pending ∧ (State.releaseFrame s i f).out = s.out ∧ (State.releaseFrame s i f).regs = s.regs ∧ (State.releaseFrame s i f).ret = s.ret ∧ (State.releaseFrame s i f).evt = s.evt ∧ (State.releaseFrame s i f).flt = s.flt ∧ (State.releaseFrame s i f).obs = s.obs ∧ (State.releaseFrame s i f).host = s.host ∧ (State.releaseFrame s i f).mem = s.mem ∧ (State.releaseFrame s i f).home = s.home ∧ (State.releaseFrame s i f).ddr = s.ddr ∧ (State.releaseFrame s i f).tier = s.tier ∧ (State.releaseFrame s i f).dm = s.dm ∧ (State.releaseFrame s i f).dunas = s.dunas ∧ (State.releaseFrame s i f).brg = s.brg ∧ (State.releaseFrame s i f).clk = s.clk ∧ (State.releaseFrame s i f).hsc = s.hsc ∧ (State.releaseFrame s i f).boot = s.boot ∧ (State.releaseFrame s i f).core = s.core ∧ (State.releaseFrame s i f).mgmt = s.mgmt := by
  unfold State.releaseFrame; simp [State.withdrawn_keeps _ _, State.freeRunOf_keeps _ _ _ _]

theorem State.giveFrame_keeps (s : State) (p : ℕ) (i : ℕ) (f : ℕ) :
    (State.giveFrame s p i f).now = s.now ∧ (State.giveFrame s p i f).free = s.free ∧ (State.giveFrame s p i f).pending = s.pending ∧ (State.giveFrame s p i f).regs = s.regs ∧ (State.giveFrame s p i f).flt = s.flt ∧ (State.giveFrame s p i f).mem = s.mem ∧ (State.giveFrame s p i f).home = s.home ∧ (State.giveFrame s p i f).ddr = s.ddr ∧ (State.giveFrame s p i f).tier = s.tier ∧ (State.giveFrame s p i f).dm = s.dm ∧ (State.giveFrame s p i f).brg = s.brg ∧ (State.giveFrame s p i f).clk = s.clk ∧ (State.giveFrame s p i f).hsc = s.hsc ∧ (State.giveFrame s p i f).boot = s.boot ∧ (State.giveFrame s p i f).core = s.core ∧ (State.giveFrame s p i f).mgmt = s.mgmt := by
  unfold State.giveFrame; simp [State.levels_keeps _ _, State.account_keeps _ _ _ _, State.releaseFrame_keeps _ _ _]

theorem State.takeFrom_keeps (s : State) (g : ℕ × BinGroup) :
    (State.takeFrom s g).1.now = s.now ∧ (State.takeFrom s g).1.free = s.free ∧ (State.takeFrom s g).1.pending = s.pending ∧ (State.takeFrom s g).1.out = s.out ∧ (State.takeFrom s g).1.regs = s.regs ∧ (State.takeFrom s g).1.ret = s.ret ∧ (State.takeFrom s g).1.evt = s.evt ∧ (State.takeFrom s g).1.flt = s.flt ∧ (State.takeFrom s g).1.obs = s.obs ∧ (State.takeFrom s g).1.host = s.host ∧ (State.takeFrom s g).1.amap = s.amap ∧ (State.takeFrom s g).1.mem = s.mem ∧ (State.takeFrom s g).1.home = s.home ∧ (State.takeFrom s g).1.ddr = s.ddr ∧ (State.takeFrom s g).1.dm = s.dm ∧ (State.takeFrom s g).1.dunas = s.dunas ∧ (State.takeFrom s g).1.brg = s.brg ∧ (State.takeFrom s g).1.clk = s.clk ∧ (State.takeFrom s g).1.hsc = s.hsc ∧ (State.takeFrom s g).1.boot = s.boot ∧ (State.takeFrom s g).1.core = s.core ∧ (State.takeFrom s g).1.mgmt = s.mgmt := by
  unfold State.takeFrom; simp

theorem State.takeBin_keeps (s : State) (p : ℕ) (u : ℕ) (cls : ℕ) (no : List ℕ) {r : State × ℕ × ℕ} (hr : State.takeBin s p u cls no = some r) :
    r.1.now = s.now ∧ r.1.free = s.free ∧ r.1.pending = s.pending ∧ r.1.regs = s.regs ∧ r.1.flt = s.flt ∧ r.1.mem = s.mem ∧ r.1.home = s.home ∧ r.1.ddr = s.ddr ∧ r.1.dm = s.dm ∧ r.1.brg = s.brg ∧ r.1.clk = s.clk ∧ r.1.hsc = s.hsc ∧ r.1.boot = s.boot ∧ r.1.core = s.core ∧ r.1.mgmt = s.mgmt := by
  unfold State.takeBin at hr; dsimp only at hr; (repeat' split at hr) <;> first | (cases hr; done) | (cases hr; simp_all [State.levels_keeps _ _, State.account_keeps _ _ _ _, State.takeFrom_keeps _ _, State.useRun_keeps _ _ _ _]; done) | simp_all [State.levels_keeps _ _, State.account_keeps _ _ _ _, State.takeFrom_keeps _ _, State.useRun_keeps _ _ _ _]

theorem State.freeBin_keeps (s : State) (i : ℕ) (loc : ℕ) (cls : ℕ) :
    (State.freeBin s i loc cls).now = s.now ∧ (State.freeBin s i loc cls).free = s.free ∧ (State.freeBin s i loc cls).pending = s.pending ∧ (State.freeBin s i loc cls).out = s.out ∧ (State.freeBin s i loc cls).regs = s.regs ∧ (State.freeBin s i loc cls).ret = s.ret ∧ (State.freeBin s i loc cls).evt = s.evt ∧ (State.freeBin s i loc cls).flt = s.flt ∧ (State.freeBin s i loc cls).obs = s.obs ∧ (State.freeBin s i loc cls).host = s.host ∧ (State.freeBin s i loc cls).mem = s.mem ∧ (State.freeBin s i loc cls).home = s.home ∧ (State.freeBin s i loc cls).ddr = s.ddr ∧ (State.freeBin s i loc cls).dm = s.dm ∧ (State.freeBin s i loc cls).dunas = s.dunas ∧ (State.freeBin s i loc cls).brg = s.brg ∧ (State.freeBin s i loc cls).clk = s.clk ∧ (State.freeBin s i loc cls).hsc = s.hsc ∧ (State.freeBin s i loc cls).boot = s.boot ∧ (State.freeBin s i loc cls).core = s.core ∧ (State.freeBin s i loc cls).mgmt = s.mgmt := by
  obtain ⟨P, hP⟩ : ∃ P : State → Prop, P = fun x => x.now = s.now ∧ x.free = s.free ∧ x.pending = s.pending ∧ x.out = s.out ∧ x.regs = s.regs ∧ x.ret = s.ret ∧ x.evt = s.evt ∧ x.flt = s.flt ∧ x.obs = s.obs ∧ x.host = s.host ∧ x.mem = s.mem ∧ x.home = s.home ∧ x.ddr = s.ddr ∧ x.dm = s.dm ∧ x.dunas = s.dunas ∧ x.brg = s.brg ∧ x.clk = s.clk ∧ x.hsc = s.hsc ∧ x.boot = s.boot ∧ x.core = s.core ∧ x.mgmt = s.mgmt := ⟨_, rfl⟩
  suffices h : P (State.freeBin s i loc cls) by rw [hP] at h; exact h
  unfold State.freeBin; (try dsimp only); (repeat' split) <;> subst hP <;> simp_all [State.freeRunOf_keeps _ _ _ _]

theorem State.releaseBin_keeps (s : State) (i : ℕ) (loc : ℕ) (cls : ℕ) :
    (State.releaseBin s i loc cls).now = s.now ∧ (State.releaseBin s i loc cls).free = s.free ∧ (State.releaseBin s i loc cls).pending = s.pending ∧ (State.releaseBin s i loc cls).out = s.out ∧ (State.releaseBin s i loc cls).regs = s.regs ∧ (State.releaseBin s i loc cls).ret = s.ret ∧ (State.releaseBin s i loc cls).evt = s.evt ∧ (State.releaseBin s i loc cls).flt = s.flt ∧ (State.releaseBin s i loc cls).obs = s.obs ∧ (State.releaseBin s i loc cls).host = s.host ∧ (State.releaseBin s i loc cls).mem = s.mem ∧ (State.releaseBin s i loc cls).home = s.home ∧ (State.releaseBin s i loc cls).ddr = s.ddr ∧ (State.releaseBin s i loc cls).dm = s.dm ∧ (State.releaseBin s i loc cls).dunas = s.dunas ∧ (State.releaseBin s i loc cls).brg = s.brg ∧ (State.releaseBin s i loc cls).clk = s.clk ∧ (State.releaseBin s i loc cls).hsc = s.hsc ∧ (State.releaseBin s i loc cls).boot = s.boot ∧ (State.releaseBin s i loc cls).core = s.core ∧ (State.releaseBin s i loc cls).mgmt = s.mgmt := by
  unfold State.releaseBin; simp [State.withdrawn_keeps _ _, State.freeBin_keeps _ _ _ _]

theorem State.giveBin_keeps (s : State) (p : ℕ) (i : ℕ) (loc : ℕ) (cls : ℕ) :
    (State.giveBin s p i loc cls).now = s.now ∧ (State.giveBin s p i loc cls).free = s.free ∧ (State.giveBin s p i loc cls).pending = s.pending ∧ (State.giveBin s p i loc cls).regs = s.regs ∧ (State.giveBin s p i loc cls).flt = s.flt ∧ (State.giveBin s p i loc cls).mem = s.mem ∧ (State.giveBin s p i loc cls).home = s.home ∧ (State.giveBin s p i loc cls).ddr = s.ddr ∧ (State.giveBin s p i loc cls).dm = s.dm ∧ (State.giveBin s p i loc cls).brg = s.brg ∧ (State.giveBin s p i loc cls).clk = s.clk ∧ (State.giveBin s p i loc cls).hsc = s.hsc ∧ (State.giveBin s p i loc cls).boot = s.boot ∧ (State.giveBin s p i loc cls).core = s.core ∧ (State.giveBin s p i loc cls).mgmt = s.mgmt := by
  unfold State.giveBin; simp [State.levels_keeps _ _, State.releaseBin_keeps _ _ _ _, State.account_keeps _ _ _ _]

theorem State.giveBack_keeps (s : State) (p : ℕ) (e : PageEntry) :
    (State.giveBack s p e).now = s.now ∧ (State.giveBack s p e).free = s.free ∧ (State.giveBack s p e).pending = s.pending ∧ (State.giveBack s p e).regs = s.regs ∧ (State.giveBack s p e).flt = s.flt ∧ (State.giveBack s p e).mem = s.mem ∧ (State.giveBack s p e).home = s.home ∧ (State.giveBack s p e).ddr = s.ddr ∧ (State.giveBack s p e).dm = s.dm ∧ (State.giveBack s p e).brg = s.brg ∧ (State.giveBack s p e).clk = s.clk ∧ (State.giveBack s p e).hsc = s.hsc ∧ (State.giveBack s p e).boot = s.boot ∧ (State.giveBack s p e).core = s.core ∧ (State.giveBack s p e).mgmt = s.mgmt := by
  unfold State.giveBack; (repeat' split) <;> simp [State.giveFrame_keeps _ _ _ _, State.giveBin_keeps _ _ _ _ _]

end Sys2Proof.Machine
end

