-- ==== Sys2Proof/Laws/KeysKeeps.lean ====
section
/-! SUPPORT. Which fields of the state the operations of Keys leave as they are: a proof
over the operation `State.op` gives simp its lemma `State.op_keeps _ _`. -/

namespace Sys2Proof.Machine

theorem State.loadKey_keeps (s : State) (lov : ℕ) (d : ℕ) :
    (State.loadKey s lov d).now = s.now ∧ (State.loadKey s lov d).free = s.free ∧ (State.loadKey s lov d).pending = s.pending ∧ (State.loadKey s lov d).out = s.out ∧ (State.loadKey s lov d).regs = s.regs ∧ (State.loadKey s lov d).ret = s.ret ∧ (State.loadKey s lov d).evt = s.evt ∧ (State.loadKey s lov d).flt = s.flt ∧ (State.loadKey s lov d).obs = s.obs ∧ (State.loadKey s lov d).host = s.host ∧ (State.loadKey s lov d).amap = s.amap ∧ (State.loadKey s lov d).home = s.home ∧ (State.loadKey s lov d).ddr = s.ddr ∧ (State.loadKey s lov d).tier = s.tier ∧ (State.loadKey s lov d).dm = s.dm ∧ (State.loadKey s lov d).dunas = s.dunas ∧ (State.loadKey s lov d).brg = s.brg ∧ (State.loadKey s lov d).clk = s.clk ∧ (State.loadKey s lov d).hsc = s.hsc ∧ (State.loadKey s lov d).boot = s.boot ∧ (State.loadKey s lov d).core = s.core ∧ (State.loadKey s lov d).mgmt = s.mgmt := by
  unfold State.loadKey; simp

theorem State.loadKeys_keeps (s : State) (d : ℕ) :
    (State.loadKeys s d).now = s.now ∧ (State.loadKeys s d).free = s.free ∧ (State.loadKeys s d).pending = s.pending ∧ (State.loadKeys s d).out = s.out ∧ (State.loadKeys s d).regs = s.regs ∧ (State.loadKeys s d).ret = s.ret ∧ (State.loadKeys s d).evt = s.evt ∧ (State.loadKeys s d).flt = s.flt ∧ (State.loadKeys s d).obs = s.obs ∧ (State.loadKeys s d).host = s.host ∧ (State.loadKeys s d).amap = s.amap ∧ (State.loadKeys s d).home = s.home ∧ (State.loadKeys s d).ddr = s.ddr ∧ (State.loadKeys s d).tier = s.tier ∧ (State.loadKeys s d).dm = s.dm ∧ (State.loadKeys s d).dunas = s.dunas ∧ (State.loadKeys s d).brg = s.brg ∧ (State.loadKeys s d).clk = s.clk ∧ (State.loadKeys s d).hsc = s.hsc ∧ (State.loadKeys s d).boot = s.boot ∧ (State.loadKeys s d).core = s.core ∧ (State.loadKeys s d).mgmt = s.mgmt := by
  unfold State.loadKeys; simp [State.loadKey_keeps _ _ _]

end Sys2Proof.Machine
end

