-- ==== Sys2Proof/Laws/RecordKeeps.lean ====
section
/-! SUPPORT. Which fields of the state the operations of Record leave as they are: a proof
over the operation `State.op` gives simp its lemma `State.op_keeps _ _`. -/

namespace Sys2Proof.Machine

theorem State.setRec_keeps (s : State) (u : ℕ) (r : FaultRec) :
    (State.setRec s u r).now = s.now ∧ (State.setRec s u r).free = s.free ∧ (State.setRec s u r).pending = s.pending ∧ (State.setRec s u r).out = s.out ∧ (State.setRec s u r).regs = s.regs ∧ (State.setRec s u r).ret = s.ret ∧ (State.setRec s u r).evt = s.evt ∧ (State.setRec s u r).obs = s.obs ∧ (State.setRec s u r).host = s.host ∧ (State.setRec s u r).amap = s.amap ∧ (State.setRec s u r).mem = s.mem ∧ (State.setRec s u r).home = s.home ∧ (State.setRec s u r).ddr = s.ddr ∧ (State.setRec s u r).tier = s.tier ∧ (State.setRec s u r).dm = s.dm ∧ (State.setRec s u r).dunas = s.dunas ∧ (State.setRec s u r).brg = s.brg ∧ (State.setRec s u r).clk = s.clk ∧ (State.setRec s u r).hsc = s.hsc ∧ (State.setRec s u r).boot = s.boot ∧ (State.setRec s u r).core = s.core ∧ (State.setRec s u r).mgmt = s.mgmt := by
  unfold State.setRec; simp

theorem State.takeFatal_keeps (s : State) (src : ℕ) (site : ℕ) (cls : ℕ) (subject : ℕ) :
    (State.takeFatal s src site cls subject).1.now = s.now ∧ (State.takeFatal s src site cls subject).1.free = s.free ∧ (State.takeFatal s src site cls subject).1.pending = s.pending ∧ (State.takeFatal s src site cls subject).1.out = s.out ∧ (State.takeFatal s src site cls subject).1.regs = s.regs ∧ (State.takeFatal s src site cls subject).1.evt = s.evt ∧ (State.takeFatal s src site cls subject).1.obs = s.obs ∧ (State.takeFatal s src site cls subject).1.host = s.host ∧ (State.takeFatal s src site cls subject).1.amap = s.amap ∧ (State.takeFatal s src site cls subject).1.mem = s.mem ∧ (State.takeFatal s src site cls subject).1.home = s.home ∧ (State.takeFatal s src site cls subject).1.ddr = s.ddr ∧ (State.takeFatal s src site cls subject).1.tier = s.tier ∧ (State.takeFatal s src site cls subject).1.dm = s.dm ∧ (State.takeFatal s src site cls subject).1.dunas = s.dunas ∧ (State.takeFatal s src site cls subject).1.brg = s.brg ∧ (State.takeFatal s src site cls subject).1.clk = s.clk ∧ (State.takeFatal s src site cls subject).1.hsc = s.hsc ∧ (State.takeFatal s src site cls subject).1.boot = s.boot ∧ (State.takeFatal s src site cls subject).1.core = s.core ∧ (State.takeFatal s src site cls subject).1.mgmt = s.mgmt := by
  unfold State.takeFatal; (repeat' split) <;> simp [State.retWrite_keeps _ _ _ _]

theorem State.raiseFault_keeps (s : State) (src : ℕ) (site : ℕ) (cls : ℕ) (cause : ℕ) (need : ℕ) :
    (State.raiseFault s src site cls cause need).now = s.now ∧ (State.raiseFault s src site cls cause need).free = s.free ∧ (State.raiseFault s src site cls cause need).pending = s.pending ∧ (State.raiseFault s src site cls cause need).regs = s.regs ∧ (State.raiseFault s src site cls cause need).amap = s.amap ∧ (State.raiseFault s src site cls cause need).mem = s.mem ∧ (State.raiseFault s src site cls cause need).home = s.home ∧ (State.raiseFault s src site cls cause need).ddr = s.ddr ∧ (State.raiseFault s src site cls cause need).tier = s.tier ∧ (State.raiseFault s src site cls cause need).dm = s.dm ∧ (State.raiseFault s src site cls cause need).brg = s.brg ∧ (State.raiseFault s src site cls cause need).clk = s.clk ∧ (State.raiseFault s src site cls cause need).hsc = s.hsc ∧ (State.raiseFault s src site cls cause need).boot = s.boot ∧ (State.raiseFault s src site cls cause need).core = s.core ∧ (State.raiseFault s src site cls cause need).mgmt = s.mgmt := by
  unfold State.raiseFault; (repeat' split) <;> simp [State.takeFatal_keeps _ _ _ _ _, State.raise_keeps _ _]

theorem State.fileAt_keeps (s : State) (site : ℕ) (cls : ℕ) (row : ℕ) (col : ℕ) (cause : ℕ) :
    (State.fileAt s site cls row col cause).now = s.now ∧ (State.fileAt s site cls row col cause).free = s.free ∧ (State.fileAt s site cls row col cause).pending = s.pending ∧ (State.fileAt s site cls row col cause).regs = s.regs ∧ (State.fileAt s site cls row col cause).amap = s.amap ∧ (State.fileAt s site cls row col cause).mem = s.mem ∧ (State.fileAt s site cls row col cause).home = s.home ∧ (State.fileAt s site cls row col cause).ddr = s.ddr ∧ (State.fileAt s site cls row col cause).tier = s.tier ∧ (State.fileAt s site cls row col cause).dm = s.dm ∧ (State.fileAt s site cls row col cause).brg = s.brg ∧ (State.fileAt s site cls row col cause).clk = s.clk ∧ (State.fileAt s site cls row col cause).hsc = s.hsc ∧ (State.fileAt s site cls row col cause).boot = s.boot ∧ (State.fileAt s site cls row col cause).core = s.core ∧ (State.fileAt s site cls row col cause).mgmt = s.mgmt := by
  obtain ⟨P, hP⟩ : ∃ P : State → Prop, P = fun x => x.now = s.now ∧ x.free = s.free ∧ x.pending = s.pending ∧ x.regs = s.regs ∧ x.amap = s.amap ∧ x.mem = s.mem ∧ x.home = s.home ∧ x.ddr = s.ddr ∧ x.tier = s.tier ∧ x.dm = s.dm ∧ x.brg = s.brg ∧ x.clk = s.clk ∧ x.hsc = s.hsc ∧ x.boot = s.boot ∧ x.core = s.core ∧ x.mgmt = s.mgmt := ⟨_, rfl⟩
  suffices h : P (State.fileAt s site cls row col cause) by rw [hP] at h; exact h
  unfold State.fileAt; (try dsimp only); (repeat' split) <;> subst hP <;> simp_all [State.raiseFault_keeps _ _ _ _ _ _, State.setRec_keeps _ _ _]

theorem State.fileP_keeps (s : State) (p : ℕ) (cls : ℕ) (cause : ℕ) :
    (State.fileP s p cls cause).now = s.now ∧ (State.fileP s p cls cause).free = s.free ∧ (State.fileP s p cls cause).pending = s.pending ∧ (State.fileP s p cls cause).regs = s.regs ∧ (State.fileP s p cls cause).amap = s.amap ∧ (State.fileP s p cls cause).mem = s.mem ∧ (State.fileP s p cls cause).home = s.home ∧ (State.fileP s p cls cause).ddr = s.ddr ∧ (State.fileP s p cls cause).tier = s.tier ∧ (State.fileP s p cls cause).dm = s.dm ∧ (State.fileP s p cls cause).brg = s.brg ∧ (State.fileP s p cls cause).clk = s.clk ∧ (State.fileP s p cls cause).hsc = s.hsc ∧ (State.fileP s p cls cause).boot = s.boot ∧ (State.fileP s p cls cause).core = s.core ∧ (State.fileP s p cls cause).mgmt = s.mgmt := by
  unfold State.fileP; simp [State.fileAt_keeps _ _ _ _ _ _]

end Sys2Proof.Machine
end

