-- ==== Sys2Proof/Laws/RefreshKeeps.lean ====
section
/-! SUPPORT. Which fields of the state the operations of Refresh leave as they are: a proof
over the operation `State.op` gives simp its lemma `State.op_keeps _ _`. -/

namespace Sys2Proof.Machine

theorem State.nextDue_keeps (s : State) (c : ℕ) (k : ℕ) :
    (State.nextDue s c k).now = s.now ∧ (State.nextDue s c k).free = s.free ∧ (State.nextDue s c k).pending = s.pending ∧ (State.nextDue s c k).out = s.out ∧ (State.nextDue s c k).regs = s.regs ∧ (State.nextDue s c k).ret = s.ret ∧ (State.nextDue s c k).evt = s.evt ∧ (State.nextDue s c k).flt = s.flt ∧ (State.nextDue s c k).obs = s.obs ∧ (State.nextDue s c k).host = s.host ∧ (State.nextDue s c k).amap = s.amap ∧ (State.nextDue s c k).mem = s.mem ∧ (State.nextDue s c k).home = s.home ∧ (State.nextDue s c k).tier = s.tier ∧ (State.nextDue s c k).dm = s.dm ∧ (State.nextDue s c k).dunas = s.dunas ∧ (State.nextDue s c k).brg = s.brg ∧ (State.nextDue s c k).clk = s.clk ∧ (State.nextDue s c k).hsc = s.hsc ∧ (State.nextDue s c k).boot = s.boot ∧ (State.nextDue s c k).core = s.core ∧ (State.nextDue s c k).mgmt = s.mgmt := by
  unfold State.nextDue; simp [State.onChan_keeps _ _ _]

theorem State.refreshNow_keeps (s : State) (c : ℕ) (k : ℕ) :
    (State.refreshNow s c k).now = s.now ∧ (State.refreshNow s c k).free = s.free ∧ (State.refreshNow s c k).pending = s.pending ∧ (State.refreshNow s c k).out = s.out ∧ (State.refreshNow s c k).regs = s.regs ∧ (State.refreshNow s c k).ret = s.ret ∧ (State.refreshNow s c k).evt = s.evt ∧ (State.refreshNow s c k).flt = s.flt ∧ (State.refreshNow s c k).host = s.host ∧ (State.refreshNow s c k).amap = s.amap ∧ (State.refreshNow s c k).mem = s.mem ∧ (State.refreshNow s c k).home = s.home ∧ (State.refreshNow s c k).tier = s.tier ∧ (State.refreshNow s c k).dm = s.dm ∧ (State.refreshNow s c k).dunas = s.dunas ∧ (State.refreshNow s c k).brg = s.brg ∧ (State.refreshNow s c k).clk = s.clk ∧ (State.refreshNow s c k).hsc = s.hsc ∧ (State.refreshNow s c k).boot = s.boot ∧ (State.refreshNow s c k).core = s.core ∧ (State.refreshNow s c k).mgmt = s.mgmt := by
  unfold State.refreshNow; simp [State.count_keeps _ _ _ _, State.onChan_keeps _ _ _]

theorem State.repayOne_keeps (s : State) (c : ℕ) (k : ℕ) :
    (State.repayOne s c k).now = s.now ∧ (State.repayOne s c k).free = s.free ∧ (State.repayOne s c k).pending = s.pending ∧ (State.repayOne s c k).out = s.out ∧ (State.repayOne s c k).regs = s.regs ∧ (State.repayOne s c k).ret = s.ret ∧ (State.repayOne s c k).evt = s.evt ∧ (State.repayOne s c k).flt = s.flt ∧ (State.repayOne s c k).host = s.host ∧ (State.repayOne s c k).amap = s.amap ∧ (State.repayOne s c k).mem = s.mem ∧ (State.repayOne s c k).home = s.home ∧ (State.repayOne s c k).tier = s.tier ∧ (State.repayOne s c k).dm = s.dm ∧ (State.repayOne s c k).dunas = s.dunas ∧ (State.repayOne s c k).brg = s.brg ∧ (State.repayOne s c k).clk = s.clk ∧ (State.repayOne s c k).hsc = s.hsc ∧ (State.repayOne s c k).boot = s.boot ∧ (State.repayOne s c k).core = s.core ∧ (State.repayOne s c k).mgmt = s.mgmt := by
  unfold State.repayOne; simp [State.refreshNow_keeps _ _ _, State.onChan_keeps _ _ _]

theorem State.repayRank_keeps (s : State) (c : ℕ) (k : ℕ) :
    (State.repayRank s c k).now = s.now ∧ (State.repayRank s c k).free = s.free ∧ (State.repayRank s c k).pending = s.pending ∧ (State.repayRank s c k).out = s.out ∧ (State.repayRank s c k).regs = s.regs ∧ (State.repayRank s c k).ret = s.ret ∧ (State.repayRank s c k).evt = s.evt ∧ (State.repayRank s c k).flt = s.flt ∧ (State.repayRank s c k).host = s.host ∧ (State.repayRank s c k).amap = s.amap ∧ (State.repayRank s c k).mem = s.mem ∧ (State.repayRank s c k).home = s.home ∧ (State.repayRank s c k).tier = s.tier ∧ (State.repayRank s c k).dm = s.dm ∧ (State.repayRank s c k).dunas = s.dunas ∧ (State.repayRank s c k).brg = s.brg ∧ (State.repayRank s c k).clk = s.clk ∧ (State.repayRank s c k).hsc = s.hsc ∧ (State.repayRank s c k).boot = s.boot ∧ (State.repayRank s c k).core = s.core ∧ (State.repayRank s c k).mgmt = s.mgmt := by
  unfold State.repayRank; simp [State.repayOne_keeps _ _ _]

theorem State.repayAll_keeps (s : State) (c : ℕ) :
    (State.repayAll s c).now = s.now ∧ (State.repayAll s c).free = s.free ∧ (State.repayAll s c).pending = s.pending ∧ (State.repayAll s c).out = s.out ∧ (State.repayAll s c).regs = s.regs ∧ (State.repayAll s c).ret = s.ret ∧ (State.repayAll s c).evt = s.evt ∧ (State.repayAll s c).flt = s.flt ∧ (State.repayAll s c).host = s.host ∧ (State.repayAll s c).amap = s.amap ∧ (State.repayAll s c).mem = s.mem ∧ (State.repayAll s c).home = s.home ∧ (State.repayAll s c).tier = s.tier ∧ (State.repayAll s c).dm = s.dm ∧ (State.repayAll s c).dunas = s.dunas ∧ (State.repayAll s c).brg = s.brg ∧ (State.repayAll s c).clk = s.clk ∧ (State.repayAll s c).hsc = s.hsc ∧ (State.repayAll s c).boot = s.boot ∧ (State.repayAll s c).core = s.core ∧ (State.repayAll s c).mgmt = s.mgmt := by
  unfold State.repayAll; simp [State.repayRank_keeps _ _ _]

theorem State.rfmNow_keeps (s : State) (c : ℕ) (bank : ℕ) :
    (State.rfmNow s c bank).now = s.now ∧ (State.rfmNow s c bank).free = s.free ∧ (State.rfmNow s c bank).pending = s.pending ∧ (State.rfmNow s c bank).out = s.out ∧ (State.rfmNow s c bank).regs = s.regs ∧ (State.rfmNow s c bank).ret = s.ret ∧ (State.rfmNow s c bank).evt = s.evt ∧ (State.rfmNow s c bank).flt = s.flt ∧ (State.rfmNow s c bank).obs = s.obs ∧ (State.rfmNow s c bank).host = s.host ∧ (State.rfmNow s c bank).amap = s.amap ∧ (State.rfmNow s c bank).mem = s.mem ∧ (State.rfmNow s c bank).home = s.home ∧ (State.rfmNow s c bank).tier = s.tier ∧ (State.rfmNow s c bank).dm = s.dm ∧ (State.rfmNow s c bank).dunas = s.dunas ∧ (State.rfmNow s c bank).brg = s.brg ∧ (State.rfmNow s c bank).clk = s.clk ∧ (State.rfmNow s c bank).hsc = s.hsc ∧ (State.rfmNow s c bank).boot = s.boot ∧ (State.rfmNow s c bank).core = s.core ∧ (State.rfmNow s c bank).mgmt = s.mgmt := by
  unfold State.rfmNow; simp [State.onChan_keeps _ _ _]

theorem State.refIssue_keeps (s : State) (c : ℕ) (bank : ℕ) (k : RefKind) :
    (State.refIssue s c bank k).now = s.now ∧ (State.refIssue s c bank k).free = s.free ∧ (State.refIssue s c bank k).pending = s.pending ∧ (State.refIssue s c bank k).out = s.out ∧ (State.refIssue s c bank k).regs = s.regs ∧ (State.refIssue s c bank k).ret = s.ret ∧ (State.refIssue s c bank k).evt = s.evt ∧ (State.refIssue s c bank k).flt = s.flt ∧ (State.refIssue s c bank k).host = s.host ∧ (State.refIssue s c bank k).amap = s.amap ∧ (State.refIssue s c bank k).mem = s.mem ∧ (State.refIssue s c bank k).home = s.home ∧ (State.refIssue s c bank k).tier = s.tier ∧ (State.refIssue s c bank k).dm = s.dm ∧ (State.refIssue s c bank k).dunas = s.dunas ∧ (State.refIssue s c bank k).brg = s.brg ∧ (State.refIssue s c bank k).clk = s.clk ∧ (State.refIssue s c bank k).hsc = s.hsc ∧ (State.refIssue s c bank k).boot = s.boot ∧ (State.refIssue s c bank k).core = s.core ∧ (State.refIssue s c bank k).mgmt = s.mgmt := by
  unfold State.refIssue; (repeat' split) <;> simp [State.refreshNow_keeps _ _ _, State.nextDue_keeps _ _ _, State.rfmNow_keeps _ _ _, State.onChan_keeps _ _ _, State.repayOne_keeps _ _ _]

theorem State.bankTurn_keeps (s : State) (c : ℕ) (bank : ℕ) (ask : Bool) (idle : Bool) :
    (State.bankTurn s c bank ask idle).now = s.now ∧ (State.bankTurn s c bank ask idle).free = s.free ∧ (State.bankTurn s c bank ask idle).pending = s.pending ∧ (State.bankTurn s c bank ask idle).out = s.out ∧ (State.bankTurn s c bank ask idle).regs = s.regs ∧ (State.bankTurn s c bank ask idle).ret = s.ret ∧ (State.bankTurn s c bank ask idle).evt = s.evt ∧ (State.bankTurn s c bank ask idle).flt = s.flt ∧ (State.bankTurn s c bank ask idle).host = s.host ∧ (State.bankTurn s c bank ask idle).amap = s.amap ∧ (State.bankTurn s c bank ask idle).mem = s.mem ∧ (State.bankTurn s c bank ask idle).home = s.home ∧ (State.bankTurn s c bank ask idle).tier = s.tier ∧ (State.bankTurn s c bank ask idle).dm = s.dm ∧ (State.bankTurn s c bank ask idle).dunas = s.dunas ∧ (State.bankTurn s c bank ask idle).brg = s.brg ∧ (State.bankTurn s c bank ask idle).clk = s.clk ∧ (State.bankTurn s c bank ask idle).hsc = s.hsc ∧ (State.bankTurn s c bank ask idle).boot = s.boot ∧ (State.bankTurn s c bank ask idle).core = s.core ∧ (State.bankTurn s c bank ask idle).mgmt = s.mgmt := by
  unfold State.bankTurn; simp [State.refIssue_keeps _ _ _ _]

theorem State.rankTurn_keeps (s : State) (c : ℕ) (r : ℕ) (idle : Bool) :
    (State.rankTurn s c r idle).now = s.now ∧ (State.rankTurn s c r idle).free = s.free ∧ (State.rankTurn s c r idle).pending = s.pending ∧ (State.rankTurn s c r idle).out = s.out ∧ (State.rankTurn s c r idle).regs = s.regs ∧ (State.rankTurn s c r idle).ret = s.ret ∧ (State.rankTurn s c r idle).evt = s.evt ∧ (State.rankTurn s c r idle).flt = s.flt ∧ (State.rankTurn s c r idle).host = s.host ∧ (State.rankTurn s c r idle).amap = s.amap ∧ (State.rankTurn s c r idle).mem = s.mem ∧ (State.rankTurn s c r idle).home = s.home ∧ (State.rankTurn s c r idle).tier = s.tier ∧ (State.rankTurn s c r idle).dm = s.dm ∧ (State.rankTurn s c r idle).dunas = s.dunas ∧ (State.rankTurn s c r idle).brg = s.brg ∧ (State.rankTurn s c r idle).clk = s.clk ∧ (State.rankTurn s c r idle).hsc = s.hsc ∧ (State.rankTurn s c r idle).boot = s.boot ∧ (State.rankTurn s c r idle).core = s.core ∧ (State.rankTurn s c r idle).mgmt = s.mgmt := by
  unfold State.rankTurn; simp [State.bankTurn_keeps _ _ _ _ _]

theorem State.chanTurn_keeps (s : State) (c : ℕ) :
    (State.chanTurn s c).now = s.now ∧ (State.chanTurn s c).free = s.free ∧ (State.chanTurn s c).pending = s.pending ∧ (State.chanTurn s c).out = s.out ∧ (State.chanTurn s c).regs = s.regs ∧ (State.chanTurn s c).ret = s.ret ∧ (State.chanTurn s c).evt = s.evt ∧ (State.chanTurn s c).flt = s.flt ∧ (State.chanTurn s c).host = s.host ∧ (State.chanTurn s c).amap = s.amap ∧ (State.chanTurn s c).mem = s.mem ∧ (State.chanTurn s c).home = s.home ∧ (State.chanTurn s c).tier = s.tier ∧ (State.chanTurn s c).dm = s.dm ∧ (State.chanTurn s c).dunas = s.dunas ∧ (State.chanTurn s c).brg = s.brg ∧ (State.chanTurn s c).clk = s.clk ∧ (State.chanTurn s c).hsc = s.hsc ∧ (State.chanTurn s c).boot = s.boot ∧ (State.chanTurn s c).core = s.core ∧ (State.chanTurn s c).mgmt = s.mgmt := by
  unfold State.chanTurn; simp [State.bankTurn_keeps _ _ _ _ _]

theorem State.activated_keeps (s : State) (c : ℕ) (off : ℕ) :
    (State.activated s c off).now = s.now ∧ (State.activated s c off).pending = s.pending ∧ (State.activated s c off).out = s.out ∧ (State.activated s c off).regs = s.regs ∧ (State.activated s c off).ret = s.ret ∧ (State.activated s c off).evt = s.evt ∧ (State.activated s c off).flt = s.flt ∧ (State.activated s c off).host = s.host ∧ (State.activated s c off).amap = s.amap ∧ (State.activated s c off).mem = s.mem ∧ (State.activated s c off).home = s.home ∧ (State.activated s c off).tier = s.tier ∧ (State.activated s c off).dm = s.dm ∧ (State.activated s c off).dunas = s.dunas ∧ (State.activated s c off).brg = s.brg ∧ (State.activated s c off).clk = s.clk ∧ (State.activated s c off).hsc = s.hsc ∧ (State.activated s c off).boot = s.boot ∧ (State.activated s c off).core = s.core ∧ (State.activated s c off).mgmt = s.mgmt := by
  unfold State.activated; simp [State.takeFree_keeps _, State.onChan_keeps _ _ _, State.bankTurn_keeps _ _ _ _ _]

end Sys2Proof.Machine
end

