-- ==== Sys2Proof/Laws/MediaKeeps.lean ====
section
/-! SUPPORT. Which fields of the state the operations of Media leave as they are: a proof
over the operation `State.op` gives simp its lemma `State.op_keeps _ _`. -/

namespace Sys2Proof.Machine

theorem State.storeAt_keeps (s : State) (c : ℕ) (off : ℕ) (v : Stored) :
    (State.storeAt s c off v).now = s.now ∧ (State.storeAt s c off v).free = s.free ∧ (State.storeAt s c off v).pending = s.pending ∧ (State.storeAt s c off v).out = s.out ∧ (State.storeAt s c off v).regs = s.regs ∧ (State.storeAt s c off v).ret = s.ret ∧ (State.storeAt s c off v).evt = s.evt ∧ (State.storeAt s c off v).flt = s.flt ∧ (State.storeAt s c off v).obs = s.obs ∧ (State.storeAt s c off v).host = s.host ∧ (State.storeAt s c off v).amap = s.amap ∧ (State.storeAt s c off v).home = s.home ∧ (State.storeAt s c off v).ddr = s.ddr ∧ (State.storeAt s c off v).tier = s.tier ∧ (State.storeAt s c off v).dm = s.dm ∧ (State.storeAt s c off v).dunas = s.dunas ∧ (State.storeAt s c off v).brg = s.brg ∧ (State.storeAt s c off v).clk = s.clk ∧ (State.storeAt s c off v).hsc = s.hsc ∧ (State.storeAt s c off v).boot = s.boot ∧ (State.storeAt s c off v).core = s.core ∧ (State.storeAt s c off v).mgmt = s.mgmt := by
  unfold State.storeAt; simp

theorem State.putMedia_keeps (s : State) (i : ℕ) (x : ℕ) (v : Stored) :
    (State.putMedia s i x v).now = s.now ∧ (State.putMedia s i x v).pending = s.pending ∧ (State.putMedia s i x v).out = s.out ∧ (State.putMedia s i x v).regs = s.regs ∧ (State.putMedia s i x v).ret = s.ret ∧ (State.putMedia s i x v).evt = s.evt ∧ (State.putMedia s i x v).flt = s.flt ∧ (State.putMedia s i x v).host = s.host ∧ (State.putMedia s i x v).amap = s.amap ∧ (State.putMedia s i x v).home = s.home ∧ (State.putMedia s i x v).tier = s.tier ∧ (State.putMedia s i x v).dm = s.dm ∧ (State.putMedia s i x v).dunas = s.dunas ∧ (State.putMedia s i x v).brg = s.brg ∧ (State.putMedia s i x v).clk = s.clk ∧ (State.putMedia s i x v).hsc = s.hsc ∧ (State.putMedia s i x v).boot = s.boot ∧ (State.putMedia s i x v).core = s.core ∧ (State.putMedia s i x v).mgmt = s.mgmt := by
  unfold State.putMedia; simp [State.storeAt_keeps _ _ _ _, State.activated_keeps _ _ _, State.count_keeps _ _ _ _]

theorem State.countUe_keeps (s : State) (c : ℕ) :
    (State.countUe s c).now = s.now ∧ (State.countUe s c).free = s.free ∧ (State.countUe s c).pending = s.pending ∧ (State.countUe s c).out = s.out ∧ (State.countUe s c).regs = s.regs ∧ (State.countUe s c).ret = s.ret ∧ (State.countUe s c).evt = s.evt ∧ (State.countUe s c).flt = s.flt ∧ (State.countUe s c).obs = s.obs ∧ (State.countUe s c).host = s.host ∧ (State.countUe s c).amap = s.amap ∧ (State.countUe s c).mem = s.mem ∧ (State.countUe s c).home = s.home ∧ (State.countUe s c).tier = s.tier ∧ (State.countUe s c).dm = s.dm ∧ (State.countUe s c).dunas = s.dunas ∧ (State.countUe s c).brg = s.brg ∧ (State.countUe s c).clk = s.clk ∧ (State.countUe s c).hsc = s.hsc ∧ (State.countUe s c).boot = s.boot ∧ (State.countUe s c).core = s.core ∧ (State.countUe s c).mgmt = s.mgmt := by
  unfold State.countUe; simp [State.onChan_keeps _ _ _]

theorem State.copyBad_keeps (s : State) (c : ℕ) (l : List Stored) :
    (State.copyBad s c l).now = s.now ∧ (State.copyBad s c l).free = s.free ∧ (State.copyBad s c l).pending = s.pending ∧ (State.copyBad s c l).regs = s.regs ∧ (State.copyBad s c l).amap = s.amap ∧ (State.copyBad s c l).mem = s.mem ∧ (State.copyBad s c l).home = s.home ∧ (State.copyBad s c l).tier = s.tier ∧ (State.copyBad s c l).dm = s.dm ∧ (State.copyBad s c l).brg = s.brg ∧ (State.copyBad s c l).clk = s.clk ∧ (State.copyBad s c l).hsc = s.hsc ∧ (State.copyBad s c l).boot = s.boot ∧ (State.copyBad s c l).core = s.core ∧ (State.copyBad s c l).mgmt = s.mgmt := by
  unfold State.copyBad; simp [State.fileP_keeps _ _ _ _, State.countUe_keeps _ _]

theorem State.walkSpare_keeps (s : State) (c : ℕ) (upto : ℕ) :
    (State.walkSpare s c upto).now = s.now ∧ (State.walkSpare s c upto).free = s.free ∧ (State.walkSpare s c upto).pending = s.pending ∧ (State.walkSpare s c upto).regs = s.regs ∧ (State.walkSpare s c upto).amap = s.amap ∧ (State.walkSpare s c upto).home = s.home ∧ (State.walkSpare s c upto).tier = s.tier ∧ (State.walkSpare s c upto).dm = s.dm ∧ (State.walkSpare s c upto).brg = s.brg ∧ (State.walkSpare s c upto).clk = s.clk ∧ (State.walkSpare s c upto).hsc = s.hsc ∧ (State.walkSpare s c upto).boot = s.boot ∧ (State.walkSpare s c upto).core = s.core ∧ (State.walkSpare s c upto).mgmt = s.mgmt := by
  obtain ⟨P, hP⟩ : ∃ P : State → Prop, P = fun x => x.now = s.now ∧ x.free = s.free ∧ x.pending = s.pending ∧ x.regs = s.regs ∧ x.amap = s.amap ∧ x.home = s.home ∧ x.tier = s.tier ∧ x.dm = s.dm ∧ x.brg = s.brg ∧ x.clk = s.clk ∧ x.hsc = s.hsc ∧ x.boot = s.boot ∧ x.core = s.core ∧ x.mgmt = s.mgmt := ⟨_, rfl⟩
  suffices h : P (State.walkSpare s c upto) by rw [hP] at h; exact h
  unfold State.walkSpare; (try dsimp only); (repeat' split) <;> subst hP <;> simp_all [State.onChan_keeps _ _ _, State.copyBad_keeps _ _ _]

theorem State.walkSilver_keeps (s : State) (ev : ℕ) (upto : ℕ) :
    (State.walkSilver s ev upto).now = s.now ∧ (State.walkSilver s ev upto).free = s.free ∧ (State.walkSilver s ev upto).pending = s.pending ∧ (State.walkSilver s ev upto).regs = s.regs ∧ (State.walkSilver s ev upto).amap = s.amap ∧ (State.walkSilver s ev upto).home = s.home ∧ (State.walkSilver s ev upto).tier = s.tier ∧ (State.walkSilver s ev upto).dm = s.dm ∧ (State.walkSilver s ev upto).brg = s.brg ∧ (State.walkSilver s ev upto).clk = s.clk ∧ (State.walkSilver s ev upto).hsc = s.hsc ∧ (State.walkSilver s ev upto).boot = s.boot ∧ (State.walkSilver s ev upto).core = s.core ∧ (State.walkSilver s ev upto).mgmt = s.mgmt := by
  unfold State.walkSilver; (repeat' split) <;> simp [State.onChan_keeps _ _ _, State.copyBad_keeps _ _ _]

theorem State.copyWalk_keeps (s : State) (c : ℕ) :
    (State.copyWalk s c).now = s.now ∧ (State.copyWalk s c).free = s.free ∧ (State.copyWalk s c).pending = s.pending ∧ (State.copyWalk s c).regs = s.regs ∧ (State.copyWalk s c).amap = s.amap ∧ (State.copyWalk s c).home = s.home ∧ (State.copyWalk s c).tier = s.tier ∧ (State.copyWalk s c).dm = s.dm ∧ (State.copyWalk s c).brg = s.brg ∧ (State.copyWalk s c).clk = s.clk ∧ (State.copyWalk s c).hsc = s.hsc ∧ (State.copyWalk s c).boot = s.boot ∧ (State.copyWalk s c).core = s.core ∧ (State.copyWalk s c).mgmt = s.mgmt := by
  unfold State.copyWalk; simp [State.walkSilver_keeps _ _ _, State.walkSpare_keeps _ _ _]

theorem State.noteMeta_keeps (s : State) (i : ℕ) (x : ℕ) :
    (State.noteMeta s i x).now = s.now ∧ (State.noteMeta s i x).free = s.free ∧ (State.noteMeta s i x).pending = s.pending ∧ (State.noteMeta s i x).out = s.out ∧ (State.noteMeta s i x).regs = s.regs ∧ (State.noteMeta s i x).ret = s.ret ∧ (State.noteMeta s i x).evt = s.evt ∧ (State.noteMeta s i x).flt = s.flt ∧ (State.noteMeta s i x).obs = s.obs ∧ (State.noteMeta s i x).host = s.host ∧ (State.noteMeta s i x).amap = s.amap ∧ (State.noteMeta s i x).home = s.home ∧ (State.noteMeta s i x).ddr = s.ddr ∧ (State.noteMeta s i x).tier = s.tier ∧ (State.noteMeta s i x).dm = s.dm ∧ (State.noteMeta s i x).dunas = s.dunas ∧ (State.noteMeta s i x).brg = s.brg ∧ (State.noteMeta s i x).clk = s.clk ∧ (State.noteMeta s i x).hsc = s.hsc ∧ (State.noteMeta s i x).boot = s.boot ∧ (State.noteMeta s i x).core = s.core ∧ (State.noteMeta s i x).mgmt = s.mgmt := by
  unfold State.noteMeta; simp

theorem State.setBlock_keeps (s : State) (hs : ℕ) (lvl : ℕ) (i : ℕ) (b : TreeBlock) :
    (State.setBlock s hs lvl i b).now = s.now ∧ (State.setBlock s hs lvl i b).free = s.free ∧ (State.setBlock s hs lvl i b).pending = s.pending ∧ (State.setBlock s hs lvl i b).out = s.out ∧ (State.setBlock s hs lvl i b).regs = s.regs ∧ (State.setBlock s hs lvl i b).ret = s.ret ∧ (State.setBlock s hs lvl i b).evt = s.evt ∧ (State.setBlock s hs lvl i b).flt = s.flt ∧ (State.setBlock s hs lvl i b).obs = s.obs ∧ (State.setBlock s hs lvl i b).host = s.host ∧ (State.setBlock s hs lvl i b).amap = s.amap ∧ (State.setBlock s hs lvl i b).home = s.home ∧ (State.setBlock s hs lvl i b).ddr = s.ddr ∧ (State.setBlock s hs lvl i b).tier = s.tier ∧ (State.setBlock s hs lvl i b).dm = s.dm ∧ (State.setBlock s hs lvl i b).dunas = s.dunas ∧ (State.setBlock s hs lvl i b).brg = s.brg ∧ (State.setBlock s hs lvl i b).clk = s.clk ∧ (State.setBlock s hs lvl i b).hsc = s.hsc ∧ (State.setBlock s hs lvl i b).boot = s.boot ∧ (State.setBlock s hs lvl i b).core = s.core ∧ (State.setBlock s hs lvl i b).mgmt = s.mgmt := by
  unfold State.setBlock; simp

theorem State.setRetags_keeps (s : State) (hs : ℕ) (l : List Retag) :
    (State.setRetags s hs l).now = s.now ∧ (State.setRetags s hs l).free = s.free ∧ (State.setRetags s hs l).pending = s.pending ∧ (State.setRetags s hs l).out = s.out ∧ (State.setRetags s hs l).regs = s.regs ∧ (State.setRetags s hs l).ret = s.ret ∧ (State.setRetags s hs l).evt = s.evt ∧ (State.setRetags s hs l).flt = s.flt ∧ (State.setRetags s hs l).obs = s.obs ∧ (State.setRetags s hs l).host = s.host ∧ (State.setRetags s hs l).amap = s.amap ∧ (State.setRetags s hs l).home = s.home ∧ (State.setRetags s hs l).ddr = s.ddr ∧ (State.setRetags s hs l).tier = s.tier ∧ (State.setRetags s hs l).dm = s.dm ∧ (State.setRetags s hs l).dunas = s.dunas ∧ (State.setRetags s hs l).brg = s.brg ∧ (State.setRetags s hs l).clk = s.clk ∧ (State.setRetags s hs l).hsc = s.hsc ∧ (State.setRetags s hs l).boot = s.boot ∧ (State.setRetags s hs l).core = s.core ∧ (State.setRetags s hs l).mgmt = s.mgmt := by
  unfold State.setRetags; simp

theorem State.raiseHs_keeps (s : State) (hs : ℕ) (k : ℕ) (en : ℕ) (subject : ℕ) (ld : Option ℕ) :
    (State.raiseHs s hs k en subject ld).now = s.now ∧ (State.raiseHs s hs k en subject ld).free = s.free ∧ (State.raiseHs s hs k en subject ld).pending = s.pending ∧ (State.raiseHs s hs k en subject ld).regs = s.regs ∧ (State.raiseHs s hs k en subject ld).flt = s.flt ∧ (State.raiseHs s hs k en subject ld).amap = s.amap ∧ (State.raiseHs s hs k en subject ld).mem = s.mem ∧ (State.raiseHs s hs k en subject ld).home = s.home ∧ (State.raiseHs s hs k en subject ld).ddr = s.ddr ∧ (State.raiseHs s hs k en subject ld).tier = s.tier ∧ (State.raiseHs s hs k en subject ld).dm = s.dm ∧ (State.raiseHs s hs k en subject ld).brg = s.brg ∧ (State.raiseHs s hs k en subject ld).clk = s.clk ∧ (State.raiseHs s hs k en subject ld).hsc = s.hsc ∧ (State.raiseHs s hs k en subject ld).boot = s.boot ∧ (State.raiseHs s hs k en subject ld).core = s.core ∧ (State.raiseHs s hs k en subject ld).mgmt = s.mgmt := by
  unfold State.raiseHs; simp [State.raise_keeps _ _]

theorem State.raiseNode_keeps (s : State) (hs : ℕ) (k : ℕ) (lvl : ℕ) (i : ℕ) :
    (State.raiseNode s hs k lvl i).now = s.now ∧ (State.raiseNode s hs k lvl i).free = s.free ∧ (State.raiseNode s hs k lvl i).pending = s.pending ∧ (State.raiseNode s hs k lvl i).regs = s.regs ∧ (State.raiseNode s hs k lvl i).flt = s.flt ∧ (State.raiseNode s hs k lvl i).amap = s.amap ∧ (State.raiseNode s hs k lvl i).mem = s.mem ∧ (State.raiseNode s hs k lvl i).home = s.home ∧ (State.raiseNode s hs k lvl i).ddr = s.ddr ∧ (State.raiseNode s hs k lvl i).tier = s.tier ∧ (State.raiseNode s hs k lvl i).dm = s.dm ∧ (State.raiseNode s hs k lvl i).brg = s.brg ∧ (State.raiseNode s hs k lvl i).clk = s.clk ∧ (State.raiseNode s hs k lvl i).hsc = s.hsc ∧ (State.raiseNode s hs k lvl i).boot = s.boot ∧ (State.raiseNode s hs k lvl i).core = s.core ∧ (State.raiseNode s hs k lvl i).mgmt = s.mgmt := by
  unfold State.raiseNode; simp [State.raise_keeps _ _]

theorem State.tagFailed_keeps (s : State) (hs : ℕ) (subject : ℕ) :
    (State.tagFailed s hs subject).now = s.now ∧ (State.tagFailed s hs subject).free = s.free ∧ (State.tagFailed s hs subject).pending = s.pending ∧ (State.tagFailed s hs subject).regs = s.regs ∧ (State.tagFailed s hs subject).flt = s.flt ∧ (State.tagFailed s hs subject).amap = s.amap ∧ (State.tagFailed s hs subject).home = s.home ∧ (State.tagFailed s hs subject).ddr = s.ddr ∧ (State.tagFailed s hs subject).tier = s.tier ∧ (State.tagFailed s hs subject).dm = s.dm ∧ (State.tagFailed s hs subject).brg = s.brg ∧ (State.tagFailed s hs subject).clk = s.clk ∧ (State.tagFailed s hs subject).hsc = s.hsc ∧ (State.tagFailed s hs subject).boot = s.boot ∧ (State.tagFailed s hs subject).core = s.core ∧ (State.tagFailed s hs subject).mgmt = s.mgmt := by
  unfold State.tagFailed; simp [State.raiseHs_keeps _ _ _ _ _ _]

theorem State.eccUncorr_keeps (s : State) (c : ℕ) (off : ℕ) (subject : ℕ) :
    (State.eccUncorr s c off subject).now = s.now ∧ (State.eccUncorr s c off subject).free = s.free ∧ (State.eccUncorr s c off subject).pending = s.pending ∧ (State.eccUncorr s c off subject).regs = s.regs ∧ (State.eccUncorr s c off subject).flt = s.flt ∧ (State.eccUncorr s c off subject).amap = s.amap ∧ (State.eccUncorr s c off subject).mem = s.mem ∧ (State.eccUncorr s c off subject).home = s.home ∧ (State.eccUncorr s c off subject).tier = s.tier ∧ (State.eccUncorr s c off subject).dm = s.dm ∧ (State.eccUncorr s c off subject).brg = s.brg ∧ (State.eccUncorr s c off subject).clk = s.clk ∧ (State.eccUncorr s c off subject).hsc = s.hsc ∧ (State.eccUncorr s c off subject).boot = s.boot ∧ (State.eccUncorr s c off subject).core = s.core ∧ (State.eccUncorr s c off subject).mgmt = s.mgmt := by
  unfold State.eccUncorr; simp [State.raise_keeps _ _, State.countUe_keeps _ _]

theorem State.dropDest_keeps (s : State) (p : ℕ) (m : Migration) :
    (State.dropDest s p m).now = s.now ∧ (State.dropDest s p m).free = s.free ∧ (State.dropDest s p m).pending = s.pending ∧ (State.dropDest s p m).regs = s.regs ∧ (State.dropDest s p m).flt = s.flt ∧ (State.dropDest s p m).mem = s.mem ∧ (State.dropDest s p m).home = s.home ∧ (State.dropDest s p m).ddr = s.ddr ∧ (State.dropDest s p m).dm = s.dm ∧ (State.dropDest s p m).brg = s.brg ∧ (State.dropDest s p m).clk = s.clk ∧ (State.dropDest s p m).hsc = s.hsc ∧ (State.dropDest s p m).boot = s.boot ∧ (State.dropDest s p m).core = s.core ∧ (State.dropDest s p m).mgmt = s.mgmt := by
  unfold State.dropDest; (repeat' split) <;> simp [State.giveFrame_keeps _ _ _ _, State.giveBin_keeps _ _ _ _ _]

theorem State.endMigration_keeps (s : State) (p : ℕ) :
    (State.endMigration s p).now = s.now ∧ (State.endMigration s p).free = s.free ∧ (State.endMigration s p).pending = s.pending ∧ (State.endMigration s p).regs = s.regs ∧ (State.endMigration s p).flt = s.flt ∧ (State.endMigration s p).home = s.home ∧ (State.endMigration s p).ddr = s.ddr ∧ (State.endMigration s p).dm = s.dm ∧ (State.endMigration s p).brg = s.brg ∧ (State.endMigration s p).clk = s.clk ∧ (State.endMigration s p).hsc = s.hsc ∧ (State.endMigration s p).boot = s.boot ∧ (State.endMigration s p).core = s.core ∧ (State.endMigration s p).mgmt = s.mgmt := by
  unfold State.endMigration; (repeat' split) <;> simp [State.dropDest_keeps _ _ _, State.onPage_keeps _ _ _]

theorem State.poisonPage_keeps (s : State) (p : ℕ) (withdraw : Bool) :
    (State.poisonPage s p withdraw).now = s.now ∧ (State.poisonPage s p withdraw).free = s.free ∧ (State.poisonPage s p withdraw).pending = s.pending ∧ (State.poisonPage s p withdraw).regs = s.regs ∧ (State.poisonPage s p withdraw).flt = s.flt ∧ (State.poisonPage s p withdraw).home = s.home ∧ (State.poisonPage s p withdraw).ddr = s.ddr ∧ (State.poisonPage s p withdraw).dm = s.dm ∧ (State.poisonPage s p withdraw).brg = s.brg ∧ (State.poisonPage s p withdraw).clk = s.clk ∧ (State.poisonPage s p withdraw).hsc = s.hsc ∧ (State.poisonPage s p withdraw).boot = s.boot ∧ (State.poisonPage s p withdraw).core = s.core ∧ (State.poisonPage s p withdraw).mgmt = s.mgmt := by
  unfold State.poisonPage; simp [State.endMigration_keeps _ _, State.levels_keeps _ _, State.account_keeps _ _ _ _, State.giveBack_keeps _ _ _, State.onPage_keeps _ _ _]

theorem State.mapLost_keeps (s : State) (n : ℕ) :
    (State.mapLost s n).now = s.now ∧ (State.mapLost s n).free = s.free ∧ (State.mapLost s n).pending = s.pending ∧ (State.mapLost s n).regs = s.regs ∧ (State.mapLost s n).home = s.home ∧ (State.mapLost s n).ddr = s.ddr ∧ (State.mapLost s n).dm = s.dm ∧ (State.mapLost s n).brg = s.brg ∧ (State.mapLost s n).clk = s.clk ∧ (State.mapLost s n).hsc = s.hsc ∧ (State.mapLost s n).boot = s.boot ∧ (State.mapLost s n).core = s.core ∧ (State.mapLost s n).mgmt = s.mgmt := by
  unfold State.mapLost; simp [State.poisonPage_keeps _ _ _, State.fileP_keeps _ _ _ _, State.raise_keeps _ _]

theorem State.countLost_keeps (s : State) (hs : ℕ) :
    (State.countLost s hs).now = s.now ∧ (State.countLost s hs).free = s.free ∧ (State.countLost s hs).pending = s.pending ∧ (State.countLost s hs).out = s.out ∧ (State.countLost s hs).regs = s.regs ∧ (State.countLost s hs).ret = s.ret ∧ (State.countLost s hs).evt = s.evt ∧ (State.countLost s hs).flt = s.flt ∧ (State.countLost s hs).obs = s.obs ∧ (State.countLost s hs).host = s.host ∧ (State.countLost s hs).amap = s.amap ∧ (State.countLost s hs).home = s.home ∧ (State.countLost s hs).ddr = s.ddr ∧ (State.countLost s hs).tier = s.tier ∧ (State.countLost s hs).dm = s.dm ∧ (State.countLost s hs).dunas = s.dunas ∧ (State.countLost s hs).brg = s.brg ∧ (State.countLost s hs).clk = s.clk ∧ (State.countLost s hs).hsc = s.hsc ∧ (State.countLost s hs).boot = s.boot ∧ (State.countLost s hs).core = s.core ∧ (State.countLost s hs).mgmt = s.mgmt := by
  unfold State.countLost; simp

theorem State.metaWritten_keeps (s : State) (x : ℕ) (b : ℕ) (l : List ℕ) :
    (State.metaWritten s x b l).now = s.now ∧ (State.metaWritten s x b l).free = s.free ∧ (State.metaWritten s x b l).pending = s.pending ∧ (State.metaWritten s x b l).out = s.out ∧ (State.metaWritten s x b l).regs = s.regs ∧ (State.metaWritten s x b l).ret = s.ret ∧ (State.metaWritten s x b l).evt = s.evt ∧ (State.metaWritten s x b l).flt = s.flt ∧ (State.metaWritten s x b l).obs = s.obs ∧ (State.metaWritten s x b l).host = s.host ∧ (State.metaWritten s x b l).amap = s.amap ∧ (State.metaWritten s x b l).home = s.home ∧ (State.metaWritten s x b l).ddr = s.ddr ∧ (State.metaWritten s x b l).tier = s.tier ∧ (State.metaWritten s x b l).dm = s.dm ∧ (State.metaWritten s x b l).dunas = s.dunas ∧ (State.metaWritten s x b l).brg = s.brg ∧ (State.metaWritten s x b l).clk = s.clk ∧ (State.metaWritten s x b l).hsc = s.hsc ∧ (State.metaWritten s x b l).boot = s.boot ∧ (State.metaWritten s x b l).core = s.core ∧ (State.metaWritten s x b l).mgmt = s.mgmt := by
  unfold State.metaWritten; simp [State.noteMeta_keeps _ _ _]

theorem State.goodCopies_keeps (s : State) (key : ℕ) :
    (State.goodCopies s key).now = s.now ∧ (State.goodCopies s key).free = s.free ∧ (State.goodCopies s key).pending = s.pending ∧ (State.goodCopies s key).out = s.out ∧ (State.goodCopies s key).regs = s.regs ∧ (State.goodCopies s key).ret = s.ret ∧ (State.goodCopies s key).evt = s.evt ∧ (State.goodCopies s key).flt = s.flt ∧ (State.goodCopies s key).obs = s.obs ∧ (State.goodCopies s key).host = s.host ∧ (State.goodCopies s key).amap = s.amap ∧ (State.goodCopies s key).home = s.home ∧ (State.goodCopies s key).ddr = s.ddr ∧ (State.goodCopies s key).tier = s.tier ∧ (State.goodCopies s key).dm = s.dm ∧ (State.goodCopies s key).dunas = s.dunas ∧ (State.goodCopies s key).brg = s.brg ∧ (State.goodCopies s key).clk = s.clk ∧ (State.goodCopies s key).hsc = s.hsc ∧ (State.goodCopies s key).boot = s.boot ∧ (State.goodCopies s key).core = s.core ∧ (State.goodCopies s key).mgmt = s.mgmt := by
  unfold State.goodCopies; simp

theorem State.storeNode_keeps (s : State) (hs : ℕ) (lvl : ℕ) (i : ℕ) :
    (State.storeNode s hs lvl i).now = s.now ∧ (State.storeNode s hs lvl i).free = s.free ∧ (State.storeNode s hs lvl i).pending = s.pending ∧ (State.storeNode s hs lvl i).out = s.out ∧ (State.storeNode s hs lvl i).regs = s.regs ∧ (State.storeNode s hs lvl i).ret = s.ret ∧ (State.storeNode s hs lvl i).evt = s.evt ∧ (State.storeNode s hs lvl i).flt = s.flt ∧ (State.storeNode s hs lvl i).obs = s.obs ∧ (State.storeNode s hs lvl i).host = s.host ∧ (State.storeNode s hs lvl i).amap = s.amap ∧ (State.storeNode s hs lvl i).home = s.home ∧ (State.storeNode s hs lvl i).ddr = s.ddr ∧ (State.storeNode s hs lvl i).tier = s.tier ∧ (State.storeNode s hs lvl i).dm = s.dm ∧ (State.storeNode s hs lvl i).dunas = s.dunas ∧ (State.storeNode s hs lvl i).brg = s.brg ∧ (State.storeNode s hs lvl i).clk = s.clk ∧ (State.storeNode s hs lvl i).hsc = s.hsc ∧ (State.storeNode s hs lvl i).boot = s.boot ∧ (State.storeNode s hs lvl i).core = s.core ∧ (State.storeNode s hs lvl i).mgmt = s.mgmt := by
  unfold State.storeNode; simp [State.goodCopies_keeps _ _, State.metaWritten_keeps _ _ _ _]

theorem State.loadCopy_keeps (s : State) (hs : ℕ) (lvl : ℕ) (i : ℕ) (copy : ℕ) :
    (State.loadCopy s hs lvl i copy).now = s.now ∧ (State.loadCopy s hs lvl i copy).free = s.free ∧ (State.loadCopy s hs lvl i copy).pending = s.pending ∧ (State.loadCopy s hs lvl i copy).out = s.out ∧ (State.loadCopy s hs lvl i copy).regs = s.regs ∧ (State.loadCopy s hs lvl i copy).ret = s.ret ∧ (State.loadCopy s hs lvl i copy).evt = s.evt ∧ (State.loadCopy s hs lvl i copy).flt = s.flt ∧ (State.loadCopy s hs lvl i copy).obs = s.obs ∧ (State.loadCopy s hs lvl i copy).host = s.host ∧ (State.loadCopy s hs lvl i copy).amap = s.amap ∧ (State.loadCopy s hs lvl i copy).home = s.home ∧ (State.loadCopy s hs lvl i copy).ddr = s.ddr ∧ (State.loadCopy s hs lvl i copy).tier = s.tier ∧ (State.loadCopy s hs lvl i copy).dm = s.dm ∧ (State.loadCopy s hs lvl i copy).dunas = s.dunas ∧ (State.loadCopy s hs lvl i copy).brg = s.brg ∧ (State.loadCopy s hs lvl i copy).clk = s.clk ∧ (State.loadCopy s hs lvl i copy).hsc = s.hsc ∧ (State.loadCopy s hs lvl i copy).boot = s.boot ∧ (State.loadCopy s hs lvl i copy).core = s.core ∧ (State.loadCopy s hs lvl i copy).mgmt = s.mgmt := by
  obtain ⟨P, hP⟩ : ∃ P : State → Prop, P = fun x => x.now = s.now ∧ x.free = s.free ∧ x.pending = s.pending ∧ x.out = s.out ∧ x.regs = s.regs ∧ x.ret = s.ret ∧ x.evt = s.evt ∧ x.flt = s.flt ∧ x.obs = s.obs ∧ x.host = s.host ∧ x.amap = s.amap ∧ x.home = s.home ∧ x.ddr = s.ddr ∧ x.tier = s.tier ∧ x.dm = s.dm ∧ x.dunas = s.dunas ∧ x.brg = s.brg ∧ x.clk = s.clk ∧ x.hsc = s.hsc ∧ x.boot = s.boot ∧ x.core = s.core ∧ x.mgmt = s.mgmt := ⟨_, rfl⟩
  suffices h : P (State.loadCopy s hs lvl i copy) by rw [hP] at h; exact h
  unfold State.loadCopy; (try dsimp only); (repeat' split) <;> subst hP <;> simp_all [State.setBlock_keeps _ _ _ _ _]

theorem State.mendCopy_keeps (s : State) (hs : ℕ) (lvl : ℕ) (i : ℕ) (good : ℕ) :
    (State.mendCopy s hs lvl i good).now = s.now ∧ (State.mendCopy s hs lvl i good).free = s.free ∧ (State.mendCopy s hs lvl i good).pending = s.pending ∧ (State.mendCopy s hs lvl i good).out = s.out ∧ (State.mendCopy s hs lvl i good).regs = s.regs ∧ (State.mendCopy s hs lvl i good).ret = s.ret ∧ (State.mendCopy s hs lvl i good).evt = s.evt ∧ (State.mendCopy s hs lvl i good).flt = s.flt ∧ (State.mendCopy s hs lvl i good).obs = s.obs ∧ (State.mendCopy s hs lvl i good).host = s.host ∧ (State.mendCopy s hs lvl i good).amap = s.amap ∧ (State.mendCopy s hs lvl i good).home = s.home ∧ (State.mendCopy s hs lvl i good).ddr = s.ddr ∧ (State.mendCopy s hs lvl i good).tier = s.tier ∧ (State.mendCopy s hs lvl i good).dm = s.dm ∧ (State.mendCopy s hs lvl i good).dunas = s.dunas ∧ (State.mendCopy s hs lvl i good).brg = s.brg ∧ (State.mendCopy s hs lvl i good).clk = s.clk ∧ (State.mendCopy s hs lvl i good).hsc = s.hsc ∧ (State.mendCopy s hs lvl i good).boot = s.boot ∧ (State.mendCopy s hs lvl i good).core = s.core ∧ (State.mendCopy s hs lvl i good).mgmt = s.mgmt := by
  unfold State.mendCopy; simp [State.goodCopies_keeps _ _]

theorem State.poisonMedia_keeps (s : State) (p : ℕ) (i : ℕ) (f : ℕ) (j : ℕ) :
    (State.poisonMedia s p i f j).now = s.now ∧ (State.poisonMedia s p i f j).pending = s.pending ∧ (State.poisonMedia s p i f j).out = s.out ∧ (State.poisonMedia s p i f j).regs = s.regs ∧ (State.poisonMedia s p i f j).ret = s.ret ∧ (State.poisonMedia s p i f j).evt = s.evt ∧ (State.poisonMedia s p i f j).flt = s.flt ∧ (State.poisonMedia s p i f j).host = s.host ∧ (State.poisonMedia s p i f j).amap = s.amap ∧ (State.poisonMedia s p i f j).home = s.home ∧ (State.poisonMedia s p i f j).tier = s.tier ∧ (State.poisonMedia s p i f j).dm = s.dm ∧ (State.poisonMedia s p i f j).dunas = s.dunas ∧ (State.poisonMedia s p i f j).brg = s.brg ∧ (State.poisonMedia s p i f j).clk = s.clk ∧ (State.poisonMedia s p i f j).hsc = s.hsc ∧ (State.poisonMedia s p i f j).boot = s.boot ∧ (State.poisonMedia s p i f j).core = s.core ∧ (State.poisonMedia s p i f j).mgmt = s.mgmt := by
  unfold State.poisonMedia; simp [State.putMedia_keeps _ _ _ _]

theorem State.leafLost_keeps (s : State) (hs : ℕ) (i : ℕ) :
    (State.leafLost s hs i).now = s.now ∧ (State.leafLost s hs i).pending = s.pending ∧ (State.leafLost s hs i).regs = s.regs ∧ (State.leafLost s hs i).home = s.home ∧ (State.leafLost s hs i).dm = s.dm ∧ (State.leafLost s hs i).brg = s.brg ∧ (State.leafLost s hs i).clk = s.clk ∧ (State.leafLost s hs i).hsc = s.hsc ∧ (State.leafLost s hs i).boot = s.boot ∧ (State.leafLost s hs i).core = s.core ∧ (State.leafLost s hs i).mgmt = s.mgmt := by
  obtain ⟨P, hP⟩ : ∃ P : State → Prop, P = fun x => x.now = s.now ∧ x.pending = s.pending ∧ x.regs = s.regs ∧ x.home = s.home ∧ x.dm = s.dm ∧ x.brg = s.brg ∧ x.clk = s.clk ∧ x.hsc = s.hsc ∧ x.boot = s.boot ∧ x.core = s.core ∧ x.mgmt = s.mgmt := ⟨_, rfl⟩
  suffices h : P (State.leafLost s hs i) by rw [hP] at h; exact h
  unfold State.leafLost; (try dsimp only); (repeat' split) <;> subst hP <;> simp_all [State.setBlock_keeps _ _ _ _ _, State.countLost_keeps _ _, State.goodCopies_keeps _ _, State.storeNode_keeps _ _ _ _, State.poisonMedia_keeps _ _ _ _ _, State.poisonPage_keeps _ _ _, State.fileP_keeps _ _ _ _, State.raiseHs_keeps _ _ _ _ _ _]

theorem State.setMc_keeps (s : State) (k : ℕ) (l : List McLine) :
    (State.setMc s k l).now = s.now ∧ (State.setMc s k l).free = s.free ∧ (State.setMc s k l).pending = s.pending ∧ (State.setMc s k l).out = s.out ∧ (State.setMc s k l).regs = s.regs ∧ (State.setMc s k l).ret = s.ret ∧ (State.setMc s k l).evt = s.evt ∧ (State.setMc s k l).flt = s.flt ∧ (State.setMc s k l).obs = s.obs ∧ (State.setMc s k l).host = s.host ∧ (State.setMc s k l).amap = s.amap ∧ (State.setMc s k l).home = s.home ∧ (State.setMc s k l).ddr = s.ddr ∧ (State.setMc s k l).tier = s.tier ∧ (State.setMc s k l).dm = s.dm ∧ (State.setMc s k l).dunas = s.dunas ∧ (State.setMc s k l).brg = s.brg ∧ (State.setMc s k l).clk = s.clk ∧ (State.setMc s k l).hsc = s.hsc ∧ (State.setMc s k l).boot = s.boot ∧ (State.setMc s k l).core = s.core ∧ (State.setMc s k l).mgmt = s.mgmt := by
  unfold State.setMc; simp

theorem State.loseNode_keeps (s : State) (hs : ℕ) (lvl : ℕ) (i : ℕ) :
    (State.loseNode s hs lvl i).now = s.now ∧ (State.loseNode s hs lvl i).free = s.free ∧ (State.loseNode s hs lvl i).pending = s.pending ∧ (State.loseNode s hs lvl i).regs = s.regs ∧ (State.loseNode s hs lvl i).amap = s.amap ∧ (State.loseNode s hs lvl i).home = s.home ∧ (State.loseNode s hs lvl i).ddr = s.ddr ∧ (State.loseNode s hs lvl i).tier = s.tier ∧ (State.loseNode s hs lvl i).dm = s.dm ∧ (State.loseNode s hs lvl i).brg = s.brg ∧ (State.loseNode s hs lvl i).clk = s.clk ∧ (State.loseNode s hs lvl i).hsc = s.hsc ∧ (State.loseNode s hs lvl i).boot = s.boot ∧ (State.loseNode s hs lvl i).core = s.core ∧ (State.loseNode s hs lvl i).mgmt = s.mgmt := by
  unfold State.loseNode; simp [State.countLost_keeps _ _, State.goodCopies_keeps _ _, State.setBlock_keeps _ _ _ _ _, State.storeNode_keeps _ _ _ _, State.fileP_keeps _ _ _ _, State.raiseNode_keeps _ _ _ _ _]

theorem State.nodeLost_keeps (s : State) (hs : ℕ) (lvl : ℕ) (i : ℕ) :
    (State.nodeLost s hs lvl i).now = s.now ∧ (State.nodeLost s hs lvl i).free = s.free ∧ (State.nodeLost s hs lvl i).pending = s.pending ∧ (State.nodeLost s hs lvl i).regs = s.regs ∧ (State.nodeLost s hs lvl i).amap = s.amap ∧ (State.nodeLost s hs lvl i).home = s.home ∧ (State.nodeLost s hs lvl i).ddr = s.ddr ∧ (State.nodeLost s hs lvl i).tier = s.tier ∧ (State.nodeLost s hs lvl i).dm = s.dm ∧ (State.nodeLost s hs lvl i).brg = s.brg ∧ (State.nodeLost s hs lvl i).clk = s.clk ∧ (State.nodeLost s hs lvl i).hsc = s.hsc ∧ (State.nodeLost s hs lvl i).boot = s.boot ∧ (State.nodeLost s hs lvl i).core = s.core ∧ (State.nodeLost s hs lvl i).mgmt = s.mgmt := by
  unfold State.nodeLost; (repeat' split) <;> simp [State.setBlock_keeps _ _ _ _ _, State.loseNode_keeps _ _ _ _]

theorem State.metaRead_keeps (s : State) (hs : ℕ) (lvl : ℕ) (i : ℕ) (copy : ℕ) :
    (State.metaRead s hs lvl i copy).now = s.now ∧ (State.metaRead s hs lvl i copy).free = s.free ∧ (State.metaRead s hs lvl i copy).pending = s.pending ∧ (State.metaRead s hs lvl i copy).regs = s.regs ∧ (State.metaRead s hs lvl i copy).amap = s.amap ∧ (State.metaRead s hs lvl i copy).home = s.home ∧ (State.metaRead s hs lvl i copy).tier = s.tier ∧ (State.metaRead s hs lvl i copy).dm = s.dm ∧ (State.metaRead s hs lvl i copy).brg = s.brg ∧ (State.metaRead s hs lvl i copy).clk = s.clk ∧ (State.metaRead s hs lvl i copy).hsc = s.hsc ∧ (State.metaRead s hs lvl i copy).boot = s.boot ∧ (State.metaRead s hs lvl i copy).core = s.core ∧ (State.metaRead s hs lvl i copy).mgmt = s.mgmt := by
  obtain ⟨P, hP⟩ : ∃ P : State → Prop, P = fun x => x.now = s.now ∧ x.free = s.free ∧ x.pending = s.pending ∧ x.regs = s.regs ∧ x.amap = s.amap ∧ x.home = s.home ∧ x.tier = s.tier ∧ x.dm = s.dm ∧ x.brg = s.brg ∧ x.clk = s.clk ∧ x.hsc = s.hsc ∧ x.boot = s.boot ∧ x.core = s.core ∧ x.mgmt = s.mgmt := ⟨_, rfl⟩
  suffices h : P (State.metaRead s hs lvl i copy) by rw [hP] at h; exact h
  unfold State.metaRead; (try dsimp only); (repeat' split) <;> subst hP <;> simp_all [State.countUe_keeps _ _, State.fileP_keeps _ _ _ _]

theorem State.checkBlock_keeps (s : State) (hs : ℕ) (lvl : ℕ) (i : ℕ) :
    (State.checkBlock s hs lvl i).now = s.now ∧ (State.checkBlock s hs lvl i).pending = s.pending ∧ (State.checkBlock s hs lvl i).regs = s.regs ∧ (State.checkBlock s hs lvl i).home = s.home ∧ (State.checkBlock s hs lvl i).dm = s.dm ∧ (State.checkBlock s hs lvl i).brg = s.brg ∧ (State.checkBlock s hs lvl i).clk = s.clk ∧ (State.checkBlock s hs lvl i).hsc = s.hsc ∧ (State.checkBlock s hs lvl i).boot = s.boot ∧ (State.checkBlock s hs lvl i).core = s.core ∧ (State.checkBlock s hs lvl i).mgmt = s.mgmt := by
  unfold State.checkBlock; simp [State.metaRead_keeps _ _ _ _ _, State.mapLost_keeps _ _, State.loadCopy_keeps _ _ _ _ _, State.leafLost_keeps _ _ _, State.nodeLost_keeps _ _ _ _, State.mendCopy_keeps _ _ _ _ _, State.fileP_keeps _ _ _ _, State.raiseNode_keeps _ _ _ _ _]

theorem State.copyFailed_keeps (s : State) (hs : ℕ) (c : ℕ) (subject : ℕ) (a4 : Got) :
    (State.copyFailed s hs c subject a4).now = s.now ∧ (State.copyFailed s hs c subject a4).free = s.free ∧ (State.copyFailed s hs c subject a4).pending = s.pending ∧ (State.copyFailed s hs c subject a4).regs = s.regs ∧ (State.copyFailed s hs c subject a4).flt = s.flt ∧ (State.copyFailed s hs c subject a4).amap = s.amap ∧ (State.copyFailed s hs c subject a4).home = s.home ∧ (State.copyFailed s hs c subject a4).tier = s.tier ∧ (State.copyFailed s hs c subject a4).dm = s.dm ∧ (State.copyFailed s hs c subject a4).brg = s.brg ∧ (State.copyFailed s hs c subject a4).clk = s.clk ∧ (State.copyFailed s hs c subject a4).hsc = s.hsc ∧ (State.copyFailed s hs c subject a4).boot = s.boot ∧ (State.copyFailed s hs c subject a4).core = s.core ∧ (State.copyFailed s hs c subject a4).mgmt = s.mgmt := by
  unfold State.copyFailed; (repeat' split) <;> simp [State.countUe_keeps _ _, State.tagFailed_keeps _ _ _]

theorem State.readPartner_keeps (s : State) (hs : ℕ) (i : ℕ) (c : ℕ) (off : ℕ) (subject : ℕ) (b : TagBind) :
    (State.readPartner s hs i c off subject b).1.now = s.now ∧ (State.readPartner s hs i c off subject b).1.free = s.free ∧ (State.readPartner s hs i c off subject b).1.pending = s.pending ∧ (State.readPartner s hs i c off subject b).1.regs = s.regs ∧ (State.readPartner s hs i c off subject b).1.amap = s.amap ∧ (State.readPartner s hs i c off subject b).1.home = s.home ∧ (State.readPartner s hs i c off subject b).1.tier = s.tier ∧ (State.readPartner s hs i c off subject b).1.dm = s.dm ∧ (State.readPartner s hs i c off subject b).1.brg = s.brg ∧ (State.readPartner s hs i c off subject b).1.clk = s.clk ∧ (State.readPartner s hs i c off subject b).1.hsc = s.hsc ∧ (State.readPartner s hs i c off subject b).1.boot = s.boot ∧ (State.readPartner s hs i c off subject b).1.core = s.core ∧ (State.readPartner s hs i c off subject b).1.mgmt = s.mgmt := by
  obtain ⟨P, hP⟩ : ∃ P : State → Prop, P = fun x => x.now = s.now ∧ x.free = s.free ∧ x.pending = s.pending ∧ x.regs = s.regs ∧ x.amap = s.amap ∧ x.home = s.home ∧ x.tier = s.tier ∧ x.dm = s.dm ∧ x.brg = s.brg ∧ x.clk = s.clk ∧ x.hsc = s.hsc ∧ x.boot = s.boot ∧ x.core = s.core ∧ x.mgmt = s.mgmt := ⟨_, rfl⟩
  suffices h : P (State.readPartner s hs i c off subject b).1 by rw [hP] at h; exact h
  unfold State.readPartner; (try dsimp only); (repeat' split) <;> subst hP <;> simp_all [State.copyWalk_keeps _ _, State.copyFailed_keeps _ _ _ _ _]

theorem State.readLine_keeps (s : State) (hs : ℕ) (i : ℕ) (x : ℕ) (subject : ℕ) (b : TagBind) :
    (State.readLine s hs i x subject b).1.now = s.now ∧ (State.readLine s hs i x subject b).1.pending = s.pending ∧ (State.readLine s hs i x subject b).1.regs = s.regs ∧ (State.readLine s hs i x subject b).1.amap = s.amap ∧ (State.readLine s hs i x subject b).1.home = s.home ∧ (State.readLine s hs i x subject b).1.tier = s.tier ∧ (State.readLine s hs i x subject b).1.dm = s.dm ∧ (State.readLine s hs i x subject b).1.brg = s.brg ∧ (State.readLine s hs i x subject b).1.clk = s.clk ∧ (State.readLine s hs i x subject b).1.hsc = s.hsc ∧ (State.readLine s hs i x subject b).1.boot = s.boot ∧ (State.readLine s hs i x subject b).1.core = s.core ∧ (State.readLine s hs i x subject b).1.mgmt = s.mgmt := by
  obtain ⟨P, hP⟩ : ∃ P : State → Prop, P = fun x => x.now = s.now ∧ x.pending = s.pending ∧ x.regs = s.regs ∧ x.amap = s.amap ∧ x.home = s.home ∧ x.tier = s.tier ∧ x.dm = s.dm ∧ x.brg = s.brg ∧ x.clk = s.clk ∧ x.hsc = s.hsc ∧ x.boot = s.boot ∧ x.core = s.core ∧ x.mgmt = s.mgmt := ⟨_, rfl⟩
  suffices h : P (State.readLine s hs i x subject b).1 by rw [hP] at h; exact h
  unfold State.readLine; (try dsimp only); (repeat' split) <;> subst hP <;> simp_all [State.activated_keeps _ _ _, State.count_keeps _ _ _ _, State.readPartner_keeps _ _ _ _ _ _ _, State.fileP_keeps _ _ _ _, State.countUe_keeps _ _, State.putMedia_keeps _ _ _ _, State.eccUncorr_keeps _ _ _ _, State.tagFailed_keeps _ _ _]

theorem State.retagChild_keeps (s : State) (hs : ℕ) (r : Retag) (k : ℕ) :
    (State.retagChild s hs r k).now = s.now ∧ (State.retagChild s hs r k).pending = s.pending ∧ (State.retagChild s hs r k).regs = s.regs ∧ (State.retagChild s hs r k).home = s.home ∧ (State.retagChild s hs r k).dm = s.dm ∧ (State.retagChild s hs r k).brg = s.brg ∧ (State.retagChild s hs r k).clk = s.clk ∧ (State.retagChild s hs r k).hsc = s.hsc ∧ (State.retagChild s hs r k).boot = s.boot ∧ (State.retagChild s hs r k).core = s.core ∧ (State.retagChild s hs r k).mgmt = s.mgmt := by
  obtain ⟨P, hP⟩ : ∃ P : State → Prop, P = fun x => x.now = s.now ∧ x.pending = s.pending ∧ x.regs = s.regs ∧ x.home = s.home ∧ x.dm = s.dm ∧ x.brg = s.brg ∧ x.clk = s.clk ∧ x.hsc = s.hsc ∧ x.boot = s.boot ∧ x.core = s.core ∧ x.mgmt = s.mgmt := ⟨_, rfl⟩
  suffices h : P (State.retagChild s hs r k) by rw [hP] at h; exact h
  unfold State.retagChild; (try dsimp only); (repeat' split) <;> subst hP <;> simp_all [State.setRetags_keeps _ _ _, State.checkBlock_keeps _ _ _ _, State.storeNode_keeps _ _ _ _, State.readLine_keeps _ _ _ _ _ _, State.putMedia_keeps _ _ _ _]

theorem State.endRetag_keeps (s : State) (hs : ℕ) (key : ℕ) :
    (State.endRetag s hs key).now = s.now ∧ (State.endRetag s hs key).pending = s.pending ∧ (State.endRetag s hs key).regs = s.regs ∧ (State.endRetag s hs key).home = s.home ∧ (State.endRetag s hs key).dm = s.dm ∧ (State.endRetag s hs key).brg = s.brg ∧ (State.endRetag s hs key).clk = s.clk ∧ (State.endRetag s hs key).hsc = s.hsc ∧ (State.endRetag s hs key).boot = s.boot ∧ (State.endRetag s hs key).core = s.core ∧ (State.endRetag s hs key).mgmt = s.mgmt := by
  unfold State.endRetag; (repeat' split) <;> simp [State.retagChild_keeps _ _ _ _, State.setRetags_keeps _ _ _]

theorem State.advance_keeps (s : State) (hs : ℕ) (lvl : ℕ) (i : ℕ) (k : ℕ) :
    (State.advance s hs lvl i k).now = s.now ∧ (State.advance s hs lvl i k).pending = s.pending ∧ (State.advance s hs lvl i k).regs = s.regs ∧ (State.advance s hs lvl i k).home = s.home ∧ (State.advance s hs lvl i k).dm = s.dm ∧ (State.advance s hs lvl i k).brg = s.brg ∧ (State.advance s hs lvl i k).clk = s.clk ∧ (State.advance s hs lvl i k).hsc = s.hsc ∧ (State.advance s hs lvl i k).boot = s.boot ∧ (State.advance s hs lvl i k).core = s.core ∧ (State.advance s hs lvl i k).mgmt = s.mgmt := by
  unfold State.advance; simp [State.setRetags_keeps _ _ _, State.endRetag_keeps _ _ _, State.raiseNode_keeps _ _ _ _ _, State.setBlock_keeps _ _ _ _ _]

theorem State.leave_keeps (s : State) (hs : ℕ) (l : List ℕ) :
    (State.leave s hs l).now = s.now ∧ (State.leave s hs l).free = s.free ∧ (State.leave s hs l).pending = s.pending ∧ (State.leave s hs l).out = s.out ∧ (State.leave s hs l).regs = s.regs ∧ (State.leave s hs l).ret = s.ret ∧ (State.leave s hs l).evt = s.evt ∧ (State.leave s hs l).flt = s.flt ∧ (State.leave s hs l).obs = s.obs ∧ (State.leave s hs l).host = s.host ∧ (State.leave s hs l).amap = s.amap ∧ (State.leave s hs l).home = s.home ∧ (State.leave s hs l).ddr = s.ddr ∧ (State.leave s hs l).tier = s.tier ∧ (State.leave s hs l).dm = s.dm ∧ (State.leave s hs l).dunas = s.dunas ∧ (State.leave s hs l).brg = s.brg ∧ (State.leave s hs l).clk = s.clk ∧ (State.leave s hs l).hsc = s.hsc ∧ (State.leave s hs l).boot = s.boot ∧ (State.leave s hs l).core = s.core ∧ (State.leave s hs l).mgmt = s.mgmt := by
  unfold State.leave; simp

theorem State.arrivedAt_keeps (s : State) (hs : ℕ) (lvl : ℕ) (i : ℕ) :
    (State.arrivedAt s hs lvl i).now = s.now ∧ (State.arrivedAt s hs lvl i).free = s.free ∧ (State.arrivedAt s hs lvl i).pending = s.pending ∧ (State.arrivedAt s hs lvl i).out = s.out ∧ (State.arrivedAt s hs lvl i).regs = s.regs ∧ (State.arrivedAt s hs lvl i).ret = s.ret ∧ (State.arrivedAt s hs lvl i).evt = s.evt ∧ (State.arrivedAt s hs lvl i).flt = s.flt ∧ (State.arrivedAt s hs lvl i).obs = s.obs ∧ (State.arrivedAt s hs lvl i).host = s.host ∧ (State.arrivedAt s hs lvl i).amap = s.amap ∧ (State.arrivedAt s hs lvl i).home = s.home ∧ (State.arrivedAt s hs lvl i).ddr = s.ddr ∧ (State.arrivedAt s hs lvl i).tier = s.tier ∧ (State.arrivedAt s hs lvl i).dm = s.dm ∧ (State.arrivedAt s hs lvl i).dunas = s.dunas ∧ (State.arrivedAt s hs lvl i).brg = s.brg ∧ (State.arrivedAt s hs lvl i).clk = s.clk ∧ (State.arrivedAt s hs lvl i).hsc = s.hsc ∧ (State.arrivedAt s hs lvl i).boot = s.boot ∧ (State.arrivedAt s hs lvl i).core = s.core ∧ (State.arrivedAt s hs lvl i).mgmt = s.mgmt := by
  unfold State.arrivedAt; simp

theorem State.mcUse_keeps (s : State) (hs : ℕ) (lvl : ℕ) (i : ℕ) (dirty : Bool) :
    (State.mcUse s hs lvl i dirty).1.now = s.now ∧ (State.mcUse s hs lvl i dirty).1.free = s.free ∧ (State.mcUse s hs lvl i dirty).1.pending = s.pending ∧ (State.mcUse s hs lvl i dirty).1.out = s.out ∧ (State.mcUse s hs lvl i dirty).1.regs = s.regs ∧ (State.mcUse s hs lvl i dirty).1.ret = s.ret ∧ (State.mcUse s hs lvl i dirty).1.evt = s.evt ∧ (State.mcUse s hs lvl i dirty).1.flt = s.flt ∧ (State.mcUse s hs lvl i dirty).1.obs = s.obs ∧ (State.mcUse s hs lvl i dirty).1.host = s.host ∧ (State.mcUse s hs lvl i dirty).1.amap = s.amap ∧ (State.mcUse s hs lvl i dirty).1.home = s.home ∧ (State.mcUse s hs lvl i dirty).1.ddr = s.ddr ∧ (State.mcUse s hs lvl i dirty).1.tier = s.tier ∧ (State.mcUse s hs lvl i dirty).1.dm = s.dm ∧ (State.mcUse s hs lvl i dirty).1.dunas = s.dunas ∧ (State.mcUse s hs lvl i dirty).1.brg = s.brg ∧ (State.mcUse s hs lvl i dirty).1.clk = s.clk ∧ (State.mcUse s hs lvl i dirty).1.hsc = s.hsc ∧ (State.mcUse s hs lvl i dirty).1.boot = s.boot ∧ (State.mcUse s hs lvl i dirty).1.core = s.core ∧ (State.mcUse s hs lvl i dirty).1.mgmt = s.mgmt := by
  unfold State.mcUse; simp [State.leave_keeps _ _ _, State.setMc_keeps _ _ _]

theorem State.walk_keeps (a0 : ℕ) (a1 : ℕ) (a2 : List Walk) (a3 : State) :
    (State.walk a0 a1 a2 a3).now = a3.now ∧ (State.walk a0 a1 a2 a3).pending = a3.pending ∧ (State.walk a0 a1 a2 a3).regs = a3.regs ∧ (State.walk a0 a1 a2 a3).home = a3.home ∧ (State.walk a0 a1 a2 a3).dm = a3.dm ∧ (State.walk a0 a1 a2 a3).brg = a3.brg ∧ (State.walk a0 a1 a2 a3).clk = a3.clk ∧ (State.walk a0 a1 a2 a3).hsc = a3.hsc ∧ (State.walk a0 a1 a2 a3).boot = a3.boot ∧ (State.walk a0 a1 a2 a3).core = a3.core ∧ (State.walk a0 a1 a2 a3).mgmt = a3.mgmt := by
  fun_induction State.walk a0 a1 a2 a3 <;> simp_all +zetaDelta [State.count_keeps _ _ _ _, State.mcUse_keeps _ _ _ _ _, State.checkBlock_keeps _ _ _ _, State.advance_keeps _ _ _ _ _, State.metaWritten_keeps _ _ _ _, State.arrivedAt_keeps _ _ _ _, State.storeNode_keeps _ _ _ _]

theorem State.cleanLine_keeps (s : State) (hs : ℕ) (m : McLine) :
    (State.cleanLine s hs m).now = s.now ∧ (State.cleanLine s hs m).pending = s.pending ∧ (State.cleanLine s hs m).regs = s.regs ∧ (State.cleanLine s hs m).home = s.home ∧ (State.cleanLine s hs m).dm = s.dm ∧ (State.cleanLine s hs m).brg = s.brg ∧ (State.cleanLine s hs m).clk = s.clk ∧ (State.cleanLine s hs m).hsc = s.hsc ∧ (State.cleanLine s hs m).boot = s.boot ∧ (State.cleanLine s hs m).core = s.core ∧ (State.cleanLine s hs m).mgmt = s.mgmt := by
  unfold State.cleanLine; simp [State.leave_keeps _ _ _, State.setMc_keeps _ _ _, State.walk_keeps _ _ _ _]

theorem State.cleanTo_keeps (a0 : ℕ) (a1 : ℕ) (a2 : ℕ) (a3 : State) :
    (State.cleanTo a0 a1 a2 a3).now = a3.now ∧ (State.cleanTo a0 a1 a2 a3).pending = a3.pending ∧ (State.cleanTo a0 a1 a2 a3).regs = a3.regs ∧ (State.cleanTo a0 a1 a2 a3).home = a3.home ∧ (State.cleanTo a0 a1 a2 a3).dm = a3.dm ∧ (State.cleanTo a0 a1 a2 a3).brg = a3.brg ∧ (State.cleanTo a0 a1 a2 a3).clk = a3.clk ∧ (State.cleanTo a0 a1 a2 a3).hsc = a3.hsc ∧ (State.cleanTo a0 a1 a2 a3).boot = a3.boot ∧ (State.cleanTo a0 a1 a2 a3).core = a3.core ∧ (State.cleanTo a0 a1 a2 a3).mgmt = a3.mgmt := by
  fun_induction State.cleanTo a0 a1 a2 a3 <;> simp_all +zetaDelta [State.cleanLine_keeps _ _ _]

theorem State.mcDrop_keeps (s : State) (hs : ℕ) (lvl : ℕ) (i : ℕ) :
    (State.mcDrop s hs lvl i).now = s.now ∧ (State.mcDrop s hs lvl i).free = s.free ∧ (State.mcDrop s hs lvl i).pending = s.pending ∧ (State.mcDrop s hs lvl i).out = s.out ∧ (State.mcDrop s hs lvl i).regs = s.regs ∧ (State.mcDrop s hs lvl i).ret = s.ret ∧ (State.mcDrop s hs lvl i).evt = s.evt ∧ (State.mcDrop s hs lvl i).flt = s.flt ∧ (State.mcDrop s hs lvl i).obs = s.obs ∧ (State.mcDrop s hs lvl i).host = s.host ∧ (State.mcDrop s hs lvl i).amap = s.amap ∧ (State.mcDrop s hs lvl i).home = s.home ∧ (State.mcDrop s hs lvl i).ddr = s.ddr ∧ (State.mcDrop s hs lvl i).tier = s.tier ∧ (State.mcDrop s hs lvl i).dm = s.dm ∧ (State.mcDrop s hs lvl i).dunas = s.dunas ∧ (State.mcDrop s hs lvl i).brg = s.brg ∧ (State.mcDrop s hs lvl i).clk = s.clk ∧ (State.mcDrop s hs lvl i).hsc = s.hsc ∧ (State.mcDrop s hs lvl i).boot = s.boot ∧ (State.mcDrop s hs lvl i).core = s.core ∧ (State.mcDrop s hs lvl i).mgmt = s.mgmt := by
  unfold State.mcDrop; simp [State.setMc_keeps _ _ _]

theorem State.metaGone_keeps (s : State) (hs : ℕ) (lvl : ℕ) (i : ℕ) :
    (State.metaGone s hs lvl i).now = s.now ∧ (State.metaGone s hs lvl i).pending = s.pending ∧ (State.metaGone s hs lvl i).regs = s.regs ∧ (State.metaGone s hs lvl i).home = s.home ∧ (State.metaGone s hs lvl i).dm = s.dm ∧ (State.metaGone s hs lvl i).brg = s.brg ∧ (State.metaGone s hs lvl i).clk = s.clk ∧ (State.metaGone s hs lvl i).hsc = s.hsc ∧ (State.metaGone s hs lvl i).boot = s.boot ∧ (State.metaGone s hs lvl i).core = s.core ∧ (State.metaGone s hs lvl i).mgmt = s.mgmt := by
  unfold State.metaGone; simp [State.raiseHs_keeps _ _ _ _ _ _, State.mcDrop_keeps _ _ _ _, State.mapLost_keeps _ _, State.leafLost_keeps _ _ _, State.nodeLost_keeps _ _ _ _]

theorem State.metaError_keeps (s : State) (hs : ℕ) (lvl : ℕ) (p : ℕ) (both : Bool) :
    (State.metaError s hs lvl p both).now = s.now ∧ (State.metaError s hs lvl p both).pending = s.pending ∧ (State.metaError s hs lvl p both).regs = s.regs ∧ (State.metaError s hs lvl p both).home = s.home ∧ (State.metaError s hs lvl p both).dm = s.dm ∧ (State.metaError s hs lvl p both).brg = s.brg ∧ (State.metaError s hs lvl p both).clk = s.clk ∧ (State.metaError s hs lvl p both).hsc = s.hsc ∧ (State.metaError s hs lvl p both).boot = s.boot ∧ (State.metaError s hs lvl p both).core = s.core ∧ (State.metaError s hs lvl p both).mgmt = s.mgmt := by
  obtain ⟨P, hP⟩ : ∃ P : State → Prop, P = fun x => x.now = s.now ∧ x.pending = s.pending ∧ x.regs = s.regs ∧ x.home = s.home ∧ x.dm = s.dm ∧ x.brg = s.brg ∧ x.clk = s.clk ∧ x.hsc = s.hsc ∧ x.boot = s.boot ∧ x.core = s.core ∧ x.mgmt = s.mgmt := ⟨_, rfl⟩
  suffices h : P (State.metaError s hs lvl p both) by rw [hP] at h; exact h
  unfold State.metaError; (try dsimp only); (repeat' split) <;> subst hP <;> simp_all [State.metaGone_keeps _ _ _ _, State.mcDrop_keeps _ _ _ _, State.fileP_keeps _ _ _ _]

theorem State.initChunk_keeps (s : State) (c : ℕ) :
    (State.initChunk s c).now = s.now ∧ (State.initChunk s c).free = s.free ∧ (State.initChunk s c).pending = s.pending ∧ (State.initChunk s c).out = s.out ∧ (State.initChunk s c).regs = s.regs ∧ (State.initChunk s c).ret = s.ret ∧ (State.initChunk s c).evt = s.evt ∧ (State.initChunk s c).flt = s.flt ∧ (State.initChunk s c).obs = s.obs ∧ (State.initChunk s c).host = s.host ∧ (State.initChunk s c).amap = s.amap ∧ (State.initChunk s c).home = s.home ∧ (State.initChunk s c).ddr = s.ddr ∧ (State.initChunk s c).tier = s.tier ∧ (State.initChunk s c).dm = s.dm ∧ (State.initChunk s c).dunas = s.dunas ∧ (State.initChunk s c).brg = s.brg ∧ (State.initChunk s c).clk = s.clk ∧ (State.initChunk s c).hsc = s.hsc ∧ (State.initChunk s c).boot = s.boot ∧ (State.initChunk s c).core = s.core ∧ (State.initChunk s c).mgmt = s.mgmt := by
  unfold State.initChunk; simp

theorem State.needChunk_keeps (s : State) (p : ℕ) :
    (State.needChunk s p).now = s.now ∧ (State.needChunk s p).free = s.free ∧ (State.needChunk s p).pending = s.pending ∧ (State.needChunk s p).regs = s.regs ∧ (State.needChunk s p).flt = s.flt ∧ (State.needChunk s p).amap = s.amap ∧ (State.needChunk s p).home = s.home ∧ (State.needChunk s p).ddr = s.ddr ∧ (State.needChunk s p).tier = s.tier ∧ (State.needChunk s p).dm = s.dm ∧ (State.needChunk s p).brg = s.brg ∧ (State.needChunk s p).clk = s.clk ∧ (State.needChunk s p).hsc = s.hsc ∧ (State.needChunk s p).boot = s.boot ∧ (State.needChunk s p).core = s.core ∧ (State.needChunk s p).mgmt = s.mgmt := by
  unfold State.needChunk; simp [State.initChunk_keeps _ _, State.raiseHs_keeps _ _ _ _ _ _]

theorem State.fetchPage_keeps (s : State) (p : ℕ) :
    (State.fetchPage s p).now = s.now ∧ (State.fetchPage s p).pending = s.pending ∧ (State.fetchPage s p).regs = s.regs ∧ (State.fetchPage s p).home = s.home ∧ (State.fetchPage s p).dm = s.dm ∧ (State.fetchPage s p).brg = s.brg ∧ (State.fetchPage s p).clk = s.clk ∧ (State.fetchPage s p).hsc = s.hsc ∧ (State.fetchPage s p).boot = s.boot ∧ (State.fetchPage s p).core = s.core ∧ (State.fetchPage s p).mgmt = s.mgmt := by
  unfold State.fetchPage; simp [State.walk_keeps _ _ _ _, State.needChunk_keeps _ _]

theorem State.setEntry_keeps (s : State) (p : ℕ) (f : PageEntry → PageEntry) :
    (State.setEntry s p f).now = s.now ∧ (State.setEntry s p f).pending = s.pending ∧ (State.setEntry s p f).regs = s.regs ∧ (State.setEntry s p f).home = s.home ∧ (State.setEntry s p f).dm = s.dm ∧ (State.setEntry s p f).brg = s.brg ∧ (State.setEntry s p f).clk = s.clk ∧ (State.setEntry s p f).hsc = s.hsc ∧ (State.setEntry s p f).boot = s.boot ∧ (State.setEntry s p f).core = s.core ∧ (State.setEntry s p f).mgmt = s.mgmt := by
  unfold State.setEntry; simp [State.onPage_keeps _ _ _, State.walk_keeps _ _ _ _]

theorem State.readNear_keeps (s : State) (p : ℕ) (i : ℕ) (f : ℕ) (j : ℕ) :
    (State.readNear s p i f j).1.now = s.now ∧ (State.readNear s p i f j).1.pending = s.pending ∧ (State.readNear s p i f j).1.regs = s.regs ∧ (State.readNear s p i f j).1.amap = s.amap ∧ (State.readNear s p i f j).1.home = s.home ∧ (State.readNear s p i f j).1.tier = s.tier ∧ (State.readNear s p i f j).1.dm = s.dm ∧ (State.readNear s p i f j).1.brg = s.brg ∧ (State.readNear s p i f j).1.clk = s.clk ∧ (State.readNear s p i f j).1.hsc = s.hsc ∧ (State.readNear s p i f j).1.boot = s.boot ∧ (State.readNear s p i f j).1.core = s.core ∧ (State.readNear s p i f j).1.mgmt = s.mgmt := by
  unfold State.readNear; (repeat' split) <;> simp [State.readLine_keeps _ _ _ _ _ _]

theorem State.writeNear_keeps (s : State) (p : ℕ) (i : ℕ) (f : ℕ) (j : ℕ) (d : Line) :
    (State.writeNear s p i f j d).now = s.now ∧ (State.writeNear s p i f j d).pending = s.pending ∧ (State.writeNear s p i f j d).regs = s.regs ∧ (State.writeNear s p i f j d).home = s.home ∧ (State.writeNear s p i f j d).dm = s.dm ∧ (State.writeNear s p i f j d).brg = s.brg ∧ (State.writeNear s p i f j d).clk = s.clk ∧ (State.writeNear s p i f j d).hsc = s.hsc ∧ (State.writeNear s p i f j d).boot = s.boot ∧ (State.writeNear s p i f j d).core = s.core ∧ (State.writeNear s p i f j d).mgmt = s.mgmt := by
  unfold State.writeNear; simp [State.walk_keeps _ _ _ _, State.putMedia_keeps _ _ _ _]

theorem State.readBin_keeps (s : State) (p : ℕ) (e : PageEntry) (a : ℕ) (n : ℕ) :
    (State.readBin s p e a n).1.now = s.now ∧ (State.readBin s p e a n).1.pending = s.pending ∧ (State.readBin s p e a n).1.regs = s.regs ∧ (State.readBin s p e a n).1.amap = s.amap ∧ (State.readBin s p e a n).1.home = s.home ∧ (State.readBin s p e a n).1.tier = s.tier ∧ (State.readBin s p e a n).1.dm = s.dm ∧ (State.readBin s p e a n).1.brg = s.brg ∧ (State.readBin s p e a n).1.clk = s.clk ∧ (State.readBin s p e a n).1.hsc = s.hsc ∧ (State.readBin s p e a n).1.boot = s.boot ∧ (State.readBin s p e a n).1.core = s.core ∧ (State.readBin s p e a n).1.mgmt = s.mgmt := by
  unfold State.readBin; (try dsimp only); (try unfold State.each)
  refine foldl_holds (P := fun (x : State × _) => x.1.now = s.now ∧ x.1.pending = s.pending ∧ x.1.regs = s.regs ∧ x.1.amap = s.amap ∧ x.1.home = s.home ∧ x.1.tier = s.tier ∧ x.1.dm = s.dm ∧ x.1.brg = s.brg ∧ x.1.clk = s.clk ∧ x.1.hsc = s.hsc ∧ x.1.boot = s.boot ∧ x.1.core = s.core ∧ x.1.mgmt = s.mgmt) ?_ ?_
  · simp [State.readLine_keeps _ _ _ _ _ _]
  · intro b x h; (try dsimp only); (repeat' split) <;> simp_all [State.readLine_keeps _ _ _ _ _ _]

theorem State.readParcel_keeps (s : State) (p : ℕ) (e : PageEntry) (q : ℕ) :
    (State.readParcel s p e q).1.now = s.now ∧ (State.readParcel s p e q).1.pending = s.pending ∧ (State.readParcel s p e q).1.regs = s.regs ∧ (State.readParcel s p e q).1.amap = s.amap ∧ (State.readParcel s p e q).1.home = s.home ∧ (State.readParcel s p e q).1.tier = s.tier ∧ (State.readParcel s p e q).1.dm = s.dm ∧ (State.readParcel s p e q).1.brg = s.brg ∧ (State.readParcel s p e q).1.clk = s.clk ∧ (State.readParcel s p e q).1.hsc = s.hsc ∧ (State.readParcel s p e q).1.boot = s.boot ∧ (State.readParcel s p e q).1.core = s.core ∧ (State.readParcel s p e q).1.mgmt = s.mgmt := by
  obtain ⟨P, hP⟩ : ∃ P : State → Prop, P = fun x => x.now = s.now ∧ x.pending = s.pending ∧ x.regs = s.regs ∧ x.amap = s.amap ∧ x.home = s.home ∧ x.tier = s.tier ∧ x.dm = s.dm ∧ x.brg = s.brg ∧ x.clk = s.clk ∧ x.hsc = s.hsc ∧ x.boot = s.boot ∧ x.core = s.core ∧ x.mgmt = s.mgmt := ⟨_, rfl⟩
  suffices h : P (State.readParcel s p e q).1 by rw [hP] at h; exact h
  unfold State.readParcel; (try dsimp only); (repeat' split) <;> subst hP <;> simp_all [State.readBin_keeps _ _ _ _ _]

end Sys2Proof.Machine
end

