-- ==== Sys2Proof/Laws/LinesKeeps.lean ====
section
/-! SUPPORT. Which fields of the state the operations of Lines leave as they are: a proof
over the operation `State.op` gives simp its lemma `State.op_keeps _ _`. -/

namespace Sys2Proof.Machine

theorem State.setAtoms_keeps (s : State) (hs : ℕ) (l : List AtomLine) :
    (State.setAtoms s hs l).now = s.now ∧ (State.setAtoms s hs l).free = s.free ∧ (State.setAtoms s hs l).pending = s.pending ∧ (State.setAtoms s hs l).out = s.out ∧ (State.setAtoms s hs l).regs = s.regs ∧ (State.setAtoms s hs l).ret = s.ret ∧ (State.setAtoms s hs l).evt = s.evt ∧ (State.setAtoms s hs l).flt = s.flt ∧ (State.setAtoms s hs l).obs = s.obs ∧ (State.setAtoms s hs l).host = s.host ∧ (State.setAtoms s hs l).amap = s.amap ∧ (State.setAtoms s hs l).mem = s.mem ∧ (State.setAtoms s hs l).ddr = s.ddr ∧ (State.setAtoms s hs l).tier = s.tier ∧ (State.setAtoms s hs l).dm = s.dm ∧ (State.setAtoms s hs l).dunas = s.dunas ∧ (State.setAtoms s hs l).brg = s.brg ∧ (State.setAtoms s hs l).clk = s.clk ∧ (State.setAtoms s hs l).hsc = s.hsc ∧ (State.setAtoms s hs l).boot = s.boot ∧ (State.setAtoms s hs l).core = s.core ∧ (State.setAtoms s hs l).mgmt = s.mgmt := by
  unfold State.setAtoms; simp

theorem State.dropAtom_keeps (s : State) (line : ℕ) :
    (State.dropAtom s line).now = s.now ∧ (State.dropAtom s line).free = s.free ∧ (State.dropAtom s line).pending = s.pending ∧ (State.dropAtom s line).out = s.out ∧ (State.dropAtom s line).regs = s.regs ∧ (State.dropAtom s line).ret = s.ret ∧ (State.dropAtom s line).evt = s.evt ∧ (State.dropAtom s line).flt = s.flt ∧ (State.dropAtom s line).obs = s.obs ∧ (State.dropAtom s line).host = s.host ∧ (State.dropAtom s line).amap = s.amap ∧ (State.dropAtom s line).mem = s.mem ∧ (State.dropAtom s line).ddr = s.ddr ∧ (State.dropAtom s line).tier = s.tier ∧ (State.dropAtom s line).dm = s.dm ∧ (State.dropAtom s line).dunas = s.dunas ∧ (State.dropAtom s line).brg = s.brg ∧ (State.dropAtom s line).clk = s.clk ∧ (State.dropAtom s line).hsc = s.hsc ∧ (State.dropAtom s line).boot = s.boot ∧ (State.dropAtom s line).core = s.core ∧ (State.dropAtom s line).mgmt = s.mgmt := by
  unfold State.dropAtom; simp [State.setAtoms_keeps _ _ _]

theorem State.discardFull_keeps (s : State) (u : ℕ) (e : ℕ) :
    (State.discardFull s u e).now = s.now ∧ (State.discardFull s u e).free = s.free ∧ (State.discardFull s u e).pending = s.pending ∧ (State.discardFull s u e).regs = s.regs ∧ (State.discardFull s u e).flt = s.flt ∧ (State.discardFull s u e).amap = s.amap ∧ (State.discardFull s u e).mem = s.mem ∧ (State.discardFull s u e).home = s.home ∧ (State.discardFull s u e).ddr = s.ddr ∧ (State.discardFull s u e).tier = s.tier ∧ (State.discardFull s u e).dm = s.dm ∧ (State.discardFull s u e).brg = s.brg ∧ (State.discardFull s u e).clk = s.clk ∧ (State.discardFull s u e).hsc = s.hsc ∧ (State.discardFull s u e).boot = s.boot ∧ (State.discardFull s u e).core = s.core ∧ (State.discardFull s u e).mgmt = s.mgmt := by
  unfold State.discardFull; simp [State.raise_keeps _ _]

theorem State.discardLine_keeps (s : State) (u : ℕ) (line : ℕ) :
    (State.discardLine s u line).now = s.now ∧ (State.discardLine s u line).free = s.free ∧ (State.discardLine s u line).pending = s.pending ∧ (State.discardLine s u line).regs = s.regs ∧ (State.discardLine s u line).amap = s.amap ∧ (State.discardLine s u line).mem = s.mem ∧ (State.discardLine s u line).ddr = s.ddr ∧ (State.discardLine s u line).tier = s.tier ∧ (State.discardLine s u line).dm = s.dm ∧ (State.discardLine s u line).brg = s.brg ∧ (State.discardLine s u line).clk = s.clk ∧ (State.discardLine s u line).hsc = s.hsc ∧ (State.discardLine s u line).boot = s.boot ∧ (State.discardLine s u line).core = s.core ∧ (State.discardLine s u line).mgmt = s.mgmt := by
  unfold State.discardLine; simp [State.dropAtom_keeps _ _, State.discardFull_keeps _ _ _]

theorem State.discardExtent_keeps (s : State) (u : ℕ) (e : ℕ) :
    (State.discardExtent s u e).now = s.now ∧ (State.discardExtent s u e).free = s.free ∧ (State.discardExtent s u e).pending = s.pending ∧ (State.discardExtent s u e).regs = s.regs ∧ (State.discardExtent s u e).amap = s.amap ∧ (State.discardExtent s u e).mem = s.mem ∧ (State.discardExtent s u e).home = s.home ∧ (State.discardExtent s u e).ddr = s.ddr ∧ (State.discardExtent s u e).tier = s.tier ∧ (State.discardExtent s u e).dm = s.dm ∧ (State.discardExtent s u e).brg = s.brg ∧ (State.discardExtent s u e).clk = s.clk ∧ (State.discardExtent s u e).hsc = s.hsc ∧ (State.discardExtent s u e).boot = s.boot ∧ (State.discardExtent s u e).core = s.core ∧ (State.discardExtent s u e).mgmt = s.mgmt := by
  unfold State.discardExtent; simp [State.discardFull_keeps _ _ _]

theorem State.exhausted_keeps (s : State) (p : ℕ) :
    (State.exhausted s p).now = s.now ∧ (State.exhausted s p).free = s.free ∧ (State.exhausted s p).pending = s.pending ∧ (State.exhausted s p).regs = s.regs ∧ (State.exhausted s p).flt = s.flt ∧ (State.exhausted s p).amap = s.amap ∧ (State.exhausted s p).mem = s.mem ∧ (State.exhausted s p).home = s.home ∧ (State.exhausted s p).ddr = s.ddr ∧ (State.exhausted s p).tier = s.tier ∧ (State.exhausted s p).dm = s.dm ∧ (State.exhausted s p).brg = s.brg ∧ (State.exhausted s p).clk = s.clk ∧ (State.exhausted s p).hsc = s.hsc ∧ (State.exhausted s p).boot = s.boot ∧ (State.exhausted s p).core = s.core ∧ (State.exhausted s p).mgmt = s.mgmt := by
  unfold State.exhausted; simp [State.raiseAt_keeps _ _ _ _]

theorem State.back_keeps (s : State) (p : ℕ) :
    (State.back s p).1.now = s.now ∧ (State.back s p).1.pending = s.pending ∧ (State.back s p).1.regs = s.regs ∧ (State.back s p).1.home = s.home ∧ (State.back s p).1.dm = s.dm ∧ (State.back s p).1.brg = s.brg ∧ (State.back s p).1.clk = s.clk ∧ (State.back s p).1.hsc = s.hsc ∧ (State.back s p).1.boot = s.boot ∧ (State.back s p).1.core = s.core ∧ (State.back s p).1.mgmt = s.mgmt := by
  obtain ⟨P, hP⟩ : ∃ P : State → Prop, P = fun x => x.now = s.now ∧ x.pending = s.pending ∧ x.regs = s.regs ∧ x.home = s.home ∧ x.dm = s.dm ∧ x.brg = s.brg ∧ x.clk = s.clk ∧ x.hsc = s.hsc ∧ x.boot = s.boot ∧ x.core = s.core ∧ x.mgmt = s.mgmt := ⟨_, rfl⟩
  suffices h : P (State.back s p).1 by rw [hP] at h; exact h
  unfold State.back; (try dsimp only); (repeat' split) <;> (try have := State.takeFrame_keeps _ _ _ ‹State.takeFrame _ _ _ = some _›) <;> subst hP <;> simp_all [State.setEntry_keeps _ _ _, State.exhausted_keeps _ _, State.poisonPage_keeps _ _ _]

theorem State.nextMajor_keeps (s : State) (p : ℕ) :
    (State.nextMajor s p).now = s.now ∧ (State.nextMajor s p).pending = s.pending ∧ (State.nextMajor s p).regs = s.regs ∧ (State.nextMajor s p).home = s.home ∧ (State.nextMajor s p).dm = s.dm ∧ (State.nextMajor s p).brg = s.brg ∧ (State.nextMajor s p).clk = s.clk ∧ (State.nextMajor s p).hsc = s.hsc ∧ (State.nextMajor s p).boot = s.boot ∧ (State.nextMajor s p).core = s.core ∧ (State.nextMajor s p).mgmt = s.mgmt := by
  unfold State.nextMajor; simp [State.walk_keeps _ _ _ _, State.endRetag_keeps _ _ _, State.setBlock_keeps _ _ _ _ _]

theorem State.reseal_keeps (s : State) (p : ℕ) :
    (State.reseal s p).1.now = s.now ∧ (State.reseal s p).1.pending = s.pending ∧ (State.reseal s p).1.regs = s.regs ∧ (State.reseal s p).1.home = s.home ∧ (State.reseal s p).1.dm = s.dm ∧ (State.reseal s p).1.brg = s.brg ∧ (State.reseal s p).1.clk = s.clk ∧ (State.reseal s p).1.hsc = s.hsc ∧ (State.reseal s p).1.boot = s.boot ∧ (State.reseal s p).1.core = s.core ∧ (State.reseal s p).1.mgmt = s.mgmt := by
  obtain ⟨P, hP⟩ : ∃ P : State → Prop, P = fun x => x.now = s.now ∧ x.pending = s.pending ∧ x.regs = s.regs ∧ x.home = s.home ∧ x.dm = s.dm ∧ x.brg = s.brg ∧ x.clk = s.clk ∧ x.hsc = s.hsc ∧ x.boot = s.boot ∧ x.core = s.core ∧ x.mgmt = s.mgmt := ⟨_, rfl⟩
  suffices h : P (State.reseal s p).1 by rw [hP] at h; exact h
  unfold State.reseal; (try dsimp only); (repeat' split) <;> (try have := State.takeFrame_keeps _ _ _ ‹State.takeFrame _ _ _ = some _›) <;> subst hP <;> simp_all [State.setEntry_keeps _ _ _, State.nextMajor_keeps _ _, State.poisonMedia_keeps _ _ _ _ _, State.exhausted_keeps _ _]

theorem State.dropParcels_keeps (s : State) (p : ℕ) :
    (State.dropParcels s p).now = s.now ∧ (State.dropParcels s p).free = s.free ∧ (State.dropParcels s p).pending = s.pending ∧ (State.dropParcels s p).out = s.out ∧ (State.dropParcels s p).regs = s.regs ∧ (State.dropParcels s p).ret = s.ret ∧ (State.dropParcels s p).evt = s.evt ∧ (State.dropParcels s p).flt = s.flt ∧ (State.dropParcels s p).obs = s.obs ∧ (State.dropParcels s p).host = s.host ∧ (State.dropParcels s p).amap = s.amap ∧ (State.dropParcels s p).mem = s.mem ∧ (State.dropParcels s p).home = s.home ∧ (State.dropParcels s p).ddr = s.ddr ∧ (State.dropParcels s p).dm = s.dm ∧ (State.dropParcels s p).dunas = s.dunas ∧ (State.dropParcels s p).brg = s.brg ∧ (State.dropParcels s p).clk = s.clk ∧ (State.dropParcels s p).hsc = s.hsc ∧ (State.dropParcels s p).boot = s.boot ∧ (State.dropParcels s p).core = s.core ∧ (State.dropParcels s p).mgmt = s.mgmt := by
  unfold State.dropParcels; simp

theorem State.useParcel_keeps (s : State) (p : ℕ) (q : ℕ) (d : List Byte) :
    (State.useParcel s p q d).now = s.now ∧ (State.useParcel s p q d).free = s.free ∧ (State.useParcel s p q d).pending = s.pending ∧ (State.useParcel s p q d).out = s.out ∧ (State.useParcel s p q d).regs = s.regs ∧ (State.useParcel s p q d).ret = s.ret ∧ (State.useParcel s p q d).evt = s.evt ∧ (State.useParcel s p q d).flt = s.flt ∧ (State.useParcel s p q d).obs = s.obs ∧ (State.useParcel s p q d).host = s.host ∧ (State.useParcel s p q d).amap = s.amap ∧ (State.useParcel s p q d).mem = s.mem ∧ (State.useParcel s p q d).home = s.home ∧ (State.useParcel s p q d).ddr = s.ddr ∧ (State.useParcel s p q d).dm = s.dm ∧ (State.useParcel s p q d).dunas = s.dunas ∧ (State.useParcel s p q d).brg = s.brg ∧ (State.useParcel s p q d).clk = s.clk ∧ (State.useParcel s p q d).hsc = s.hsc ∧ (State.useParcel s p q d).boot = s.boot ∧ (State.useParcel s p q d).core = s.core ∧ (State.useParcel s p q d).mgmt = s.mgmt := by
  unfold State.useParcel; simp

theorem State.trigger_keeps (s : State) (p : ℕ) (why : Trigger) :
    (State.trigger s p why).now = s.now ∧ (State.trigger s p why).free = s.free ∧ (State.trigger s p why).pending = s.pending ∧ (State.trigger s p why).out = s.out ∧ (State.trigger s p why).regs = s.regs ∧ (State.trigger s p why).ret = s.ret ∧ (State.trigger s p why).evt = s.evt ∧ (State.trigger s p why).flt = s.flt ∧ (State.trigger s p why).obs = s.obs ∧ (State.trigger s p why).host = s.host ∧ (State.trigger s p why).amap = s.amap ∧ (State.trigger s p why).mem = s.mem ∧ (State.trigger s p why).home = s.home ∧ (State.trigger s p why).ddr = s.ddr ∧ (State.trigger s p why).dm = s.dm ∧ (State.trigger s p why).dunas = s.dunas ∧ (State.trigger s p why).brg = s.brg ∧ (State.trigger s p why).clk = s.clk ∧ (State.trigger s p why).hsc = s.hsc ∧ (State.trigger s p why).boot = s.boot ∧ (State.trigger s p why).core = s.core ∧ (State.trigger s p why).mgmt = s.mgmt := by
  unfold State.trigger; simp

theorem State.countRead_keeps (s : State) (p : ℕ) :
    (State.countRead s p).now = s.now ∧ (State.countRead s p).free = s.free ∧ (State.countRead s p).pending = s.pending ∧ (State.countRead s p).out = s.out ∧ (State.countRead s p).regs = s.regs ∧ (State.countRead s p).ret = s.ret ∧ (State.countRead s p).evt = s.evt ∧ (State.countRead s p).flt = s.flt ∧ (State.countRead s p).obs = s.obs ∧ (State.countRead s p).host = s.host ∧ (State.countRead s p).amap = s.amap ∧ (State.countRead s p).mem = s.mem ∧ (State.countRead s p).home = s.home ∧ (State.countRead s p).ddr = s.ddr ∧ (State.countRead s p).dm = s.dm ∧ (State.countRead s p).dunas = s.dunas ∧ (State.countRead s p).brg = s.brg ∧ (State.countRead s p).clk = s.clk ∧ (State.countRead s p).hsc = s.hsc ∧ (State.countRead s p).boot = s.boot ∧ (State.countRead s p).core = s.core ∧ (State.countRead s p).mgmt = s.mgmt := by
  unfold State.countRead; simp [State.trigger_keeps _ _ _]

theorem State.raiseEng_keeps (s : State) (k : ℕ) (off : ℕ) (page : ℕ) (cls : ℕ) :
    (State.raiseEng s k off page cls).now = s.now ∧ (State.raiseEng s k off page cls).free = s.free ∧ (State.raiseEng s k off page cls).pending = s.pending ∧ (State.raiseEng s k off page cls).regs = s.regs ∧ (State.raiseEng s k off page cls).flt = s.flt ∧ (State.raiseEng s k off page cls).amap = s.amap ∧ (State.raiseEng s k off page cls).mem = s.mem ∧ (State.raiseEng s k off page cls).home = s.home ∧ (State.raiseEng s k off page cls).ddr = s.ddr ∧ (State.raiseEng s k off page cls).tier = s.tier ∧ (State.raiseEng s k off page cls).dm = s.dm ∧ (State.raiseEng s k off page cls).brg = s.brg ∧ (State.raiseEng s k off page cls).clk = s.clk ∧ (State.raiseEng s k off page cls).hsc = s.hsc ∧ (State.raiseEng s k off page cls).boot = s.boot ∧ (State.raiseEng s k off page cls).core = s.core ∧ (State.raiseEng s k off page cls).mgmt = s.mgmt := by
  unfold State.raiseEng; simp [State.raise_keeps _ _]

theorem State.parcelBad_keeps (s : State) (p : ℕ) (k : ℕ) :
    (State.parcelBad s p k).now = s.now ∧ (State.parcelBad s p k).pending = s.pending ∧ (State.parcelBad s p k).regs = s.regs ∧ (State.parcelBad s p k).home = s.home ∧ (State.parcelBad s p k).dm = s.dm ∧ (State.parcelBad s p k).brg = s.brg ∧ (State.parcelBad s p k).clk = s.clk ∧ (State.parcelBad s p k).hsc = s.hsc ∧ (State.parcelBad s p k).boot = s.boot ∧ (State.parcelBad s p k).core = s.core ∧ (State.parcelBad s p k).mgmt = s.mgmt := by
  unfold State.parcelBad; simp [State.setEntry_keeps _ _ _, State.poisonPage_keeps _ _ _, State.dropParcels_keeps _ _, State.fileP_keeps _ _ _ _, State.raiseEng_keeps _ _ _ _ _]

theorem State.readFromBin_keeps (s : State) (p : ℕ) (e : PageEntry) (j : ℕ) :
    (State.readFromBin s p e j).1.now = s.now ∧ (State.readFromBin s p e j).1.pending = s.pending ∧ (State.readFromBin s p e j).1.regs = s.regs ∧ (State.readFromBin s p e j).1.home = s.home ∧ (State.readFromBin s p e j).1.dm = s.dm ∧ (State.readFromBin s p e j).1.brg = s.brg ∧ (State.readFromBin s p e j).1.clk = s.clk ∧ (State.readFromBin s p e j).1.hsc = s.hsc ∧ (State.readFromBin s p e j).1.boot = s.boot ∧ (State.readFromBin s p e j).1.core = s.core ∧ (State.readFromBin s p e j).1.mgmt = s.mgmt := by
  obtain ⟨P, hP⟩ : ∃ P : State → Prop, P = fun x => x.now = s.now ∧ x.pending = s.pending ∧ x.regs = s.regs ∧ x.home = s.home ∧ x.dm = s.dm ∧ x.brg = s.brg ∧ x.clk = s.clk ∧ x.hsc = s.hsc ∧ x.boot = s.boot ∧ x.core = s.core ∧ x.mgmt = s.mgmt := ⟨_, rfl⟩
  suffices h : P (State.readFromBin s p e j).1 by rw [hP] at h; exact h
  unfold State.readFromBin; (try dsimp only); (repeat' split) <;> subst hP <;> simp_all [State.useParcel_keeps _ _ _ _, State.readBin_keeps _ _ _ _ _, State.readParcel_keeps _ _ _ _, State.engineUsed_keeps _ _, State.count_keeps _ _ _ _, State.parcelBad_keeps _ _ _]

theorem State.readAs_keeps (s : State) (p : ℕ) (e : PageEntry) (j : ℕ) :
    (State.readAs s p e j).1.now = s.now ∧ (State.readAs s p e j).1.pending = s.pending ∧ (State.readAs s p e j).1.regs = s.regs ∧ (State.readAs s p e j).1.home = s.home ∧ (State.readAs s p e j).1.dm = s.dm ∧ (State.readAs s p e j).1.brg = s.brg ∧ (State.readAs s p e j).1.clk = s.clk ∧ (State.readAs s p e j).1.hsc = s.hsc ∧ (State.readAs s p e j).1.boot = s.boot ∧ (State.readAs s p e j).1.core = s.core ∧ (State.readAs s p e j).1.mgmt = s.mgmt := by
  obtain ⟨P, hP⟩ : ∃ P : State → Prop, P = fun x => x.now = s.now ∧ x.pending = s.pending ∧ x.regs = s.regs ∧ x.home = s.home ∧ x.dm = s.dm ∧ x.brg = s.brg ∧ x.clk = s.clk ∧ x.hsc = s.hsc ∧ x.boot = s.boot ∧ x.core = s.core ∧ x.mgmt = s.mgmt := ⟨_, rfl⟩
  suffices h : P (State.readAs s p e j).1 by rw [hP] at h; exact h
  unfold State.readAs; (try dsimp only); (repeat' split) <;> subst hP <;> simp_all [State.readNear_keeps _ _ _ _ _, State.poisonMedia_keeps _ _ _ _ _, State.readFromBin_keeps _ _ _ _]

theorem State.readData_keeps (s : State) (line : ℕ) (counted : Bool) :
    (State.readData s line counted).1.now = s.now ∧ (State.readData s line counted).1.pending = s.pending ∧ (State.readData s line counted).1.regs = s.regs ∧ (State.readData s line counted).1.home = s.home ∧ (State.readData s line counted).1.dm = s.dm ∧ (State.readData s line counted).1.brg = s.brg ∧ (State.readData s line counted).1.clk = s.clk ∧ (State.readData s line counted).1.hsc = s.hsc ∧ (State.readData s line counted).1.boot = s.boot ∧ (State.readData s line counted).1.core = s.core ∧ (State.readData s line counted).1.mgmt = s.mgmt := by
  obtain ⟨P, hP⟩ : ∃ P : State → Prop, P = fun x => x.now = s.now ∧ x.pending = s.pending ∧ x.regs = s.regs ∧ x.home = s.home ∧ x.dm = s.dm ∧ x.brg = s.brg ∧ x.clk = s.clk ∧ x.hsc = s.hsc ∧ x.boot = s.boot ∧ x.core = s.core ∧ x.mgmt = s.mgmt := ⟨_, rfl⟩
  suffices h : P (State.readData s line counted).1 by rw [hP] at h; exact h
  unfold State.readData; (try dsimp only); (repeat' split) <;> subst hP <;> simp_all [State.readAs_keeps _ _ _ _, State.countRead_keeps _ _]

theorem State.syncAtom_keeps (s : State) (line : ℕ) (d : Line) :
    (State.syncAtom s line d).now = s.now ∧ (State.syncAtom s line d).free = s.free ∧ (State.syncAtom s line d).pending = s.pending ∧ (State.syncAtom s line d).out = s.out ∧ (State.syncAtom s line d).regs = s.regs ∧ (State.syncAtom s line d).ret = s.ret ∧ (State.syncAtom s line d).evt = s.evt ∧ (State.syncAtom s line d).flt = s.flt ∧ (State.syncAtom s line d).obs = s.obs ∧ (State.syncAtom s line d).host = s.host ∧ (State.syncAtom s line d).amap = s.amap ∧ (State.syncAtom s line d).mem = s.mem ∧ (State.syncAtom s line d).ddr = s.ddr ∧ (State.syncAtom s line d).tier = s.tier ∧ (State.syncAtom s line d).dm = s.dm ∧ (State.syncAtom s line d).dunas = s.dunas ∧ (State.syncAtom s line d).brg = s.brg ∧ (State.syncAtom s line d).clk = s.clk ∧ (State.syncAtom s line d).hsc = s.hsc ∧ (State.syncAtom s line d).boot = s.boot ∧ (State.syncAtom s line d).core = s.core ∧ (State.syncAtom s line d).mgmt = s.mgmt := by
  unfold State.syncAtom; (repeat' split) <;> simp [State.setAtoms_keeps _ _ _]

theorem State.writeFull_keeps (s : State) (line : ℕ) (d : Line) :
    (State.writeFull s line d).1.now = s.now ∧ (State.writeFull s line d).1.pending = s.pending ∧ (State.writeFull s line d).1.regs = s.regs ∧ (State.writeFull s line d).1.dm = s.dm ∧ (State.writeFull s line d).1.brg = s.brg ∧ (State.writeFull s line d).1.clk = s.clk ∧ (State.writeFull s line d).1.hsc = s.hsc ∧ (State.writeFull s line d).1.boot = s.boot ∧ (State.writeFull s line d).1.core = s.core ∧ (State.writeFull s line d).1.mgmt = s.mgmt := by
  obtain ⟨P, hP⟩ : ∃ P : State → Prop, P = fun x => x.now = s.now ∧ x.pending = s.pending ∧ x.regs = s.regs ∧ x.dm = s.dm ∧ x.brg = s.brg ∧ x.clk = s.clk ∧ x.hsc = s.hsc ∧ x.boot = s.boot ∧ x.core = s.core ∧ x.mgmt = s.mgmt := ⟨_, rfl⟩
  suffices h : P (State.writeFull s line d).1 by rw [hP] at h; exact h
  unfold State.writeFull; (try dsimp only); (repeat' split) <;> subst hP <;> simp_all [State.discardLine_keeps _ _ _, State.syncAtom_keeps _ _ _, State.writeNear_keeps _ _ _ _ _ _, State.back_keeps _ _, State.reseal_keeps _ _, State.trigger_keeps _ _ _]

theorem State.writePoison_keeps (s : State) (line : ℕ) :
    (State.writePoison s line).1.now = s.now ∧ (State.writePoison s line).1.pending = s.pending ∧ (State.writePoison s line).1.regs = s.regs ∧ (State.writePoison s line).1.dm = s.dm ∧ (State.writePoison s line).1.brg = s.brg ∧ (State.writePoison s line).1.clk = s.clk ∧ (State.writePoison s line).1.hsc = s.hsc ∧ (State.writePoison s line).1.boot = s.boot ∧ (State.writePoison s line).1.core = s.core ∧ (State.writePoison s line).1.mgmt = s.mgmt := by
  obtain ⟨P, hP⟩ : ∃ P : State → Prop, P = fun x => x.now = s.now ∧ x.pending = s.pending ∧ x.regs = s.regs ∧ x.dm = s.dm ∧ x.brg = s.brg ∧ x.clk = s.clk ∧ x.hsc = s.hsc ∧ x.boot = s.boot ∧ x.core = s.core ∧ x.mgmt = s.mgmt := ⟨_, rfl⟩
  suffices h : P (State.writePoison s line).1 by rw [hP] at h; exact h
  unfold State.writePoison; (try dsimp only); (repeat' split) <;> subst hP <;> simp_all [State.discardLine_keeps _ _ _, State.dropAtom_keeps _ _, State.poisonMedia_keeps _ _ _ _ _, State.back_keeps _ _, State.trigger_keeps _ _ _]

theorem State.unverified_keeps (s : State) (line : ℕ) (who : Requester) :
    (State.unverified s line who).now = s.now ∧ (State.unverified s line who).free = s.free ∧ (State.unverified s line who).pending = s.pending ∧ (State.unverified s line who).regs = s.regs ∧ (State.unverified s line who).amap = s.amap ∧ (State.unverified s line who).home = s.home ∧ (State.unverified s line who).ddr = s.ddr ∧ (State.unverified s line who).tier = s.tier ∧ (State.unverified s line who).dm = s.dm ∧ (State.unverified s line who).brg = s.brg ∧ (State.unverified s line who).clk = s.clk ∧ (State.unverified s line who).hsc = s.hsc ∧ (State.unverified s line who).boot = s.boot ∧ (State.unverified s line who).core = s.core ∧ (State.unverified s line who).mgmt = s.mgmt := by
  unfold State.unverified; simp [State.raise_keeps _ _, State.fileP_keeps _ _ _ _]

theorem State.writePart_keeps (s : State) (line : ℕ) (mask : BitVec 64) (d : Line) (who : Requester) :
    (State.writePart s line mask d who).1.now = s.now ∧ (State.writePart s line mask d who).1.pending = s.pending ∧ (State.writePart s line mask d who).1.regs = s.regs ∧ (State.writePart s line mask d who).1.dm = s.dm ∧ (State.writePart s line mask d who).1.brg = s.brg ∧ (State.writePart s line mask d who).1.clk = s.clk ∧ (State.writePart s line mask d who).1.hsc = s.hsc ∧ (State.writePart s line mask d who).1.boot = s.boot ∧ (State.writePart s line mask d who).1.core = s.core ∧ (State.writePart s line mask d who).1.mgmt = s.mgmt := by
  obtain ⟨P, hP⟩ : ∃ P : State → Prop, P = fun x => x.now = s.now ∧ x.pending = s.pending ∧ x.regs = s.regs ∧ x.dm = s.dm ∧ x.brg = s.brg ∧ x.clk = s.clk ∧ x.hsc = s.hsc ∧ x.boot = s.boot ∧ x.core = s.core ∧ x.mgmt = s.mgmt := ⟨_, rfl⟩
  suffices h : P (State.writePart s line mask d who).1 by rw [hP] at h; exact h
  unfold State.writePart; (try dsimp only); (repeat' split) <;> subst hP <;> simp_all [State.trigger_keeps _ _ _, State.unverified_keeps _ _ _, State.readData_keeps _ _ _, State.writeFull_keeps _ _ _, State.writePoison_keeps _ _, State.discardLine_keeps _ _ _]

theorem State.flushAtom_keeps (s : State) (line : ℕ) :
    (State.flushAtom s line).now = s.now ∧ (State.flushAtom s line).pending = s.pending ∧ (State.flushAtom s line).regs = s.regs ∧ (State.flushAtom s line).dm = s.dm ∧ (State.flushAtom s line).brg = s.brg ∧ (State.flushAtom s line).clk = s.clk ∧ (State.flushAtom s line).hsc = s.hsc ∧ (State.flushAtom s line).boot = s.boot ∧ (State.flushAtom s line).core = s.core ∧ (State.flushAtom s line).mgmt = s.mgmt := by
  unfold State.flushAtom; (repeat' split) <;> simp [State.writeFull_keeps _ _ _, State.dropAtom_keeps _ _]

theorem State.placeAtom_keeps (s : State) (line : ℕ) (d : Line) :
    (State.placeAtom s line d).now = s.now ∧ (State.placeAtom s line d).pending = s.pending ∧ (State.placeAtom s line d).regs = s.regs ∧ (State.placeAtom s line d).dm = s.dm ∧ (State.placeAtom s line d).brg = s.brg ∧ (State.placeAtom s line d).clk = s.clk ∧ (State.placeAtom s line d).hsc = s.hsc ∧ (State.placeAtom s line d).boot = s.boot ∧ (State.placeAtom s line d).core = s.core ∧ (State.placeAtom s line d).mgmt = s.mgmt := by
  unfold State.placeAtom; simp [State.writeFull_keeps _ _ _, State.dropAtom_keeps _ _, State.setAtoms_keeps _ _ _, State.flushAtom_keeps _ _]

theorem State.atomicAt_keeps (s : State) (line : ℕ) (op : AtomicKind) (size : ℕ) (off : ℕ) (a : ℕ) (b : ℕ) (who : Requester) :
    (State.atomicAt s line op size off a b who).1.now = s.now ∧ (State.atomicAt s line op size off a b who).1.pending = s.pending ∧ (State.atomicAt s line op size off a b who).1.regs = s.regs ∧ (State.atomicAt s line op size off a b who).1.dm = s.dm ∧ (State.atomicAt s line op size off a b who).1.brg = s.brg ∧ (State.atomicAt s line op size off a b who).1.clk = s.clk ∧ (State.atomicAt s line op size off a b who).1.hsc = s.hsc ∧ (State.atomicAt s line op size off a b who).1.boot = s.boot ∧ (State.atomicAt s line op size off a b who).1.core = s.core ∧ (State.atomicAt s line op size off a b who).1.mgmt = s.mgmt := by
  obtain ⟨P, hP⟩ : ∃ P : State → Prop, P = fun x => x.now = s.now ∧ x.pending = s.pending ∧ x.regs = s.regs ∧ x.dm = s.dm ∧ x.brg = s.brg ∧ x.clk = s.clk ∧ x.hsc = s.hsc ∧ x.boot = s.boot ∧ x.core = s.core ∧ x.mgmt = s.mgmt := ⟨_, rfl⟩
  suffices h : P (State.atomicAt s line op size off a b who).1 by rw [hP] at h; exact h
  unfold State.atomicAt; (try dsimp only); (repeat' split) <;> subst hP <;> simp_all [State.placeAtom_keeps _ _ _, State.trigger_keeps _ _ _, State.unverified_keeps _ _ _, State.back_keeps _ _, State.readData_keeps _ _ _, State.writePoison_keeps _ _]

theorem State.touch_keeps (s : State) (p : ℕ) :
    (State.touch s p).now = s.now ∧ (State.touch s p).pending = s.pending ∧ (State.touch s p).regs = s.regs ∧ (State.touch s p).home = s.home ∧ (State.touch s p).dm = s.dm ∧ (State.touch s p).brg = s.brg ∧ (State.touch s p).clk = s.clk ∧ (State.touch s p).hsc = s.hsc ∧ (State.touch s p).boot = s.boot ∧ (State.touch s p).core = s.core ∧ (State.touch s p).mgmt = s.mgmt := by
  unfold State.touch; simp [State.fetchPage_keeps _ _, State.setEntry_keeps _ _ _]

end Sys2Proof.Machine
end

