-- ==== Sys2Proof/Laws/TraceKeeps.lean ====
section
/-! SUPPORT. Which fields of the state the operations of Trace leave as they are: a proof
over the operation `State.op` gives simp its lemma `State.op_keeps _ _`. -/

namespace Sys2Proof.Machine

theorem State.tagging_keeps (s : State) (pt : ℕ) :
    (State.tagging s pt).1.now = s.now ∧ (State.tagging s pt).1.free = s.free ∧ (State.tagging s pt).1.pending = s.pending ∧ (State.tagging s pt).1.out = s.out ∧ (State.tagging s pt).1.regs = s.regs ∧ (State.tagging s pt).1.ret = s.ret ∧ (State.tagging s pt).1.evt = s.evt ∧ (State.tagging s pt).1.flt = s.flt ∧ (State.tagging s pt).1.host = s.host ∧ (State.tagging s pt).1.amap = s.amap ∧ (State.tagging s pt).1.mem = s.mem ∧ (State.tagging s pt).1.home = s.home ∧ (State.tagging s pt).1.ddr = s.ddr ∧ (State.tagging s pt).1.tier = s.tier ∧ (State.tagging s pt).1.dm = s.dm ∧ (State.tagging s pt).1.dunas = s.dunas ∧ (State.tagging s pt).1.brg = s.brg ∧ (State.tagging s pt).1.clk = s.clk ∧ (State.tagging s pt).1.hsc = s.hsc ∧ (State.tagging s pt).1.boot = s.boot ∧ (State.tagging s pt).1.core = s.core ∧ (State.tagging s pt).1.mgmt = s.mgmt := by
  unfold State.tagging; simp

theorem State.traceRec_keeps (s : State) (r : TraceRec) :
    (State.traceRec s r).now = s.now ∧ (State.traceRec s r).free = s.free ∧ (State.traceRec s r).pending = s.pending ∧ (State.traceRec s r).out = s.out ∧ (State.traceRec s r).regs = s.regs ∧ (State.traceRec s r).ret = s.ret ∧ (State.traceRec s r).evt = s.evt ∧ (State.traceRec s r).flt = s.flt ∧ (State.traceRec s r).host = s.host ∧ (State.traceRec s r).amap = s.amap ∧ (State.traceRec s r).mem = s.mem ∧ (State.traceRec s r).home = s.home ∧ (State.traceRec s r).ddr = s.ddr ∧ (State.traceRec s r).tier = s.tier ∧ (State.traceRec s r).dm = s.dm ∧ (State.traceRec s r).dunas = s.dunas ∧ (State.traceRec s r).brg = s.brg ∧ (State.traceRec s r).clk = s.clk ∧ (State.traceRec s r).hsc = s.hsc ∧ (State.traceRec s r).boot = s.boot ∧ (State.traceRec s r).core = s.core ∧ (State.traceRec s r).mgmt = s.mgmt := by
  unfold State.traceRec; simp

theorem State.sampleAge_keeps (s : State) (dom : ℕ) (age : ℕ) :
    (State.sampleAge s dom age).now = s.now ∧ (State.sampleAge s dom age).free = s.free ∧ (State.sampleAge s dom age).pending = s.pending ∧ (State.sampleAge s dom age).out = s.out ∧ (State.sampleAge s dom age).ret = s.ret ∧ (State.sampleAge s dom age).evt = s.evt ∧ (State.sampleAge s dom age).flt = s.flt ∧ (State.sampleAge s dom age).obs = s.obs ∧ (State.sampleAge s dom age).host = s.host ∧ (State.sampleAge s dom age).amap = s.amap ∧ (State.sampleAge s dom age).mem = s.mem ∧ (State.sampleAge s dom age).home = s.home ∧ (State.sampleAge s dom age).ddr = s.ddr ∧ (State.sampleAge s dom age).tier = s.tier ∧ (State.sampleAge s dom age).dm = s.dm ∧ (State.sampleAge s dom age).dunas = s.dunas ∧ (State.sampleAge s dom age).brg = s.brg ∧ (State.sampleAge s dom age).clk = s.clk ∧ (State.sampleAge s dom age).hsc = s.hsc ∧ (State.sampleAge s dom age).boot = s.boot ∧ (State.sampleAge s dom age).core = s.core ∧ (State.sampleAge s dom age).mgmt = s.mgmt := by
  unfold State.sampleAge; simp [State.setBits_keeps _ _ _ _ _ _]

end Sys2Proof.Machine
end

