-- ==== Sys2Proof/Laws/HomeKeeps.lean ====
section
/-! SUPPORT. Which fields of the state the operations of Home leave as they are: a proof
over the operation `State.op` gives simp its lemma `State.op_keeps _ _`. -/

namespace Sys2Proof.Machine

theorem State.setWays_keeps (s : State) (line : ℕ) (l : List SfEntry) :
    (State.setWays s line l).now = s.now ∧ (State.setWays s line l).free = s.free ∧ (State.setWays s line l).pending = s.pending ∧ (State.setWays s line l).out = s.out ∧ (State.setWays s line l).regs = s.regs ∧ (State.setWays s line l).ret = s.ret ∧ (State.setWays s line l).evt = s.evt ∧ (State.setWays s line l).flt = s.flt ∧ (State.setWays s line l).obs = s.obs ∧ (State.setWays s line l).host = s.host ∧ (State.setWays s line l).amap = s.amap ∧ (State.setWays s line l).mem = s.mem ∧ (State.setWays s line l).ddr = s.ddr ∧ (State.setWays s line l).tier = s.tier ∧ (State.setWays s line l).dm = s.dm ∧ (State.setWays s line l).dunas = s.dunas ∧ (State.setWays s line l).brg = s.brg ∧ (State.setWays s line l).clk = s.clk ∧ (State.setWays s line l).hsc = s.hsc ∧ (State.setWays s line l).boot = s.boot ∧ (State.setWays s line l).core = s.core ∧ (State.setWays s line l).mgmt = s.mgmt := by
  unfold State.setWays; simp

theorem State.sfDrop_keeps (s : State) (line : ℕ) :
    (State.sfDrop s line).now = s.now ∧ (State.sfDrop s line).free = s.free ∧ (State.sfDrop s line).pending = s.pending ∧ (State.sfDrop s line).out = s.out ∧ (State.sfDrop s line).regs = s.regs ∧ (State.sfDrop s line).ret = s.ret ∧ (State.sfDrop s line).evt = s.evt ∧ (State.sfDrop s line).flt = s.flt ∧ (State.sfDrop s line).obs = s.obs ∧ (State.sfDrop s line).host = s.host ∧ (State.sfDrop s line).amap = s.amap ∧ (State.sfDrop s line).mem = s.mem ∧ (State.sfDrop s line).ddr = s.ddr ∧ (State.sfDrop s line).tier = s.tier ∧ (State.sfDrop s line).dm = s.dm ∧ (State.sfDrop s line).dunas = s.dunas ∧ (State.sfDrop s line).brg = s.brg ∧ (State.sfDrop s line).clk = s.clk ∧ (State.sfDrop s line).hsc = s.hsc ∧ (State.sfDrop s line).boot = s.boot ∧ (State.sfDrop s line).core = s.core ∧ (State.sfDrop s line).mgmt = s.mgmt := by
  unfold State.sfDrop; simp [State.setWays_keeps _ _ _]

theorem State.sfPut_keeps (s : State) (line : ℕ) (st : SfState) (ids : List ℕ) {r : State} (hr : State.sfPut s line st ids = some r) :
    r.now = s.now ∧ r.free = s.free ∧ r.pending = s.pending ∧ r.out = s.out ∧ r.regs = s.regs ∧ r.ret = s.ret ∧ r.evt = s.evt ∧ r.flt = s.flt ∧ r.host = s.host ∧ r.amap = s.amap ∧ r.mem = s.mem ∧ r.ddr = s.ddr ∧ r.tier = s.tier ∧ r.dm = s.dm ∧ r.dunas = s.dunas ∧ r.brg = s.brg ∧ r.clk = s.clk ∧ r.hsc = s.hsc ∧ r.boot = s.boot ∧ r.core = s.core ∧ r.mgmt = s.mgmt := by
  unfold State.sfPut at hr; dsimp only at hr; (repeat' split at hr) <;> skip <;> first | (cases hr; done) | (cases hr; simp_all [State.setWays_keeps _ _ _, State.count_keeps _ _ _ _]) | simp_all [State.setWays_keeps _ _ _, State.count_keeps _ _ _ _]

theorem State.sfGo_keeps (s : State) (line : ℕ) (n : SfNext) {r : State} (hr : State.sfGo s line n = some r) :
    r.now = s.now ∧ r.free = s.free ∧ r.pending = s.pending ∧ r.out = s.out ∧ r.regs = s.regs ∧ r.ret = s.ret ∧ r.evt = s.evt ∧ r.flt = s.flt ∧ r.host = s.host ∧ r.amap = s.amap ∧ r.mem = s.mem ∧ r.ddr = s.ddr ∧ r.tier = s.tier ∧ r.dm = s.dm ∧ r.dunas = s.dunas ∧ r.brg = s.brg ∧ r.clk = s.clk ∧ r.hsc = s.hsc ∧ r.boot = s.boot ∧ r.core = s.core ∧ r.mgmt = s.mgmt := by
  unfold State.sfGo at hr; (repeat' split at hr) <;> (try have := State.sfPut_keeps _ _ _ _ ‹State.sfPut _ _ _ _ = some _›) <;> first | (cases hr; done) | (cases hr; simp_all [State.setWays_keeps _ _ _, State.sfDrop_keeps _ _]) | simp_all [State.setWays_keeps _ _ _, State.sfDrop_keeps _ _]

theorem State.raiseLd_keeps (s : State) (ld : ℕ) (k : ℕ) (subject : ℕ) :
    (State.raiseLd s ld k subject).now = s.now ∧ (State.raiseLd s ld k subject).free = s.free ∧ (State.raiseLd s ld k subject).pending = s.pending ∧ (State.raiseLd s ld k subject).regs = s.regs ∧ (State.raiseLd s ld k subject).flt = s.flt ∧ (State.raiseLd s ld k subject).amap = s.amap ∧ (State.raiseLd s ld k subject).mem = s.mem ∧ (State.raiseLd s ld k subject).home = s.home ∧ (State.raiseLd s ld k subject).ddr = s.ddr ∧ (State.raiseLd s ld k subject).tier = s.tier ∧ (State.raiseLd s ld k subject).dm = s.dm ∧ (State.raiseLd s ld k subject).brg = s.brg ∧ (State.raiseLd s ld k subject).clk = s.clk ∧ (State.raiseLd s ld k subject).hsc = s.hsc ∧ (State.raiseLd s ld k subject).boot = s.boot ∧ (State.raiseLd s ld k subject).core = s.core ∧ (State.raiseLd s ld k subject).mgmt = s.mgmt := by
  unfold State.raiseLd; (repeat' split) <;> simp [State.raiseLink_keeps _ _ _ _ _]

theorem State.actRead_keeps (s : State) (who : Requester) :
    (State.actRead s who).now = s.now ∧ (State.actRead s who).free = s.free ∧ (State.actRead s who).pending = s.pending ∧ (State.actRead s who).out = s.out ∧ (State.actRead s who).regs = s.regs ∧ (State.actRead s who).ret = s.ret ∧ (State.actRead s who).evt = s.evt ∧ (State.actRead s who).flt = s.flt ∧ (State.actRead s who).obs = s.obs ∧ (State.actRead s who).host = s.host ∧ (State.actRead s who).amap = s.amap ∧ (State.actRead s who).mem = s.mem ∧ (State.actRead s who).home = s.home ∧ (State.actRead s who).ddr = s.ddr ∧ (State.actRead s who).tier = s.tier ∧ (State.actRead s who).dm = s.dm ∧ (State.actRead s who).dunas = s.dunas ∧ (State.actRead s who).brg = s.brg ∧ (State.actRead s who).clk = s.clk ∧ (State.actRead s who).hsc = s.hsc ∧ (State.actRead s who).boot = s.boot ∧ (State.actRead s who).core = s.core := by
  unfold State.actRead; (repeat' split) <;> simp

theorem State.actWrite_keeps (s : State) (who : Requester) :
    (State.actWrite s who).now = s.now ∧ (State.actWrite s who).free = s.free ∧ (State.actWrite s who).pending = s.pending ∧ (State.actWrite s who).out = s.out ∧ (State.actWrite s who).regs = s.regs ∧ (State.actWrite s who).ret = s.ret ∧ (State.actWrite s who).evt = s.evt ∧ (State.actWrite s who).flt = s.flt ∧ (State.actWrite s who).obs = s.obs ∧ (State.actWrite s who).host = s.host ∧ (State.actWrite s who).amap = s.amap ∧ (State.actWrite s who).mem = s.mem ∧ (State.actWrite s who).home = s.home ∧ (State.actWrite s who).ddr = s.ddr ∧ (State.actWrite s who).tier = s.tier ∧ (State.actWrite s who).dm = s.dm ∧ (State.actWrite s who).dunas = s.dunas ∧ (State.actWrite s who).brg = s.brg ∧ (State.actWrite s who).clk = s.clk ∧ (State.actWrite s who).hsc = s.hsc ∧ (State.actWrite s who).boot = s.boot ∧ (State.actWrite s who).core = s.core := by
  unfold State.actWrite; (repeat' split) <;> simp

theorem State.traceDone_keeps (s : State) (q : QReq) (poison : Bool) :
    (State.traceDone s q poison).now = s.now ∧ (State.traceDone s q poison).free = s.free ∧ (State.traceDone s q poison).pending = s.pending ∧ (State.traceDone s q poison).out = s.out ∧ (State.traceDone s q poison).regs = s.regs ∧ (State.traceDone s q poison).ret = s.ret ∧ (State.traceDone s q poison).evt = s.evt ∧ (State.traceDone s q poison).flt = s.flt ∧ (State.traceDone s q poison).host = s.host ∧ (State.traceDone s q poison).amap = s.amap ∧ (State.traceDone s q poison).mem = s.mem ∧ (State.traceDone s q poison).home = s.home ∧ (State.traceDone s q poison).ddr = s.ddr ∧ (State.traceDone s q poison).tier = s.tier ∧ (State.traceDone s q poison).dm = s.dm ∧ (State.traceDone s q poison).dunas = s.dunas ∧ (State.traceDone s q poison).brg = s.brg ∧ (State.traceDone s q poison).clk = s.clk ∧ (State.traceDone s q poison).hsc = s.hsc ∧ (State.traceDone s q poison).boot = s.boot ∧ (State.traceDone s q poison).core = s.core ∧ (State.traceDone s q poison).mgmt = s.mgmt := by
  unfold State.traceDone; simp [State.traceRec_keeps _ _]

theorem State.countPoison_keeps (s : State) (ld : ℕ) :
    (State.countPoison s ld).now = s.now ∧ (State.countPoison s ld).free = s.free ∧ (State.countPoison s ld).pending = s.pending ∧ (State.countPoison s ld).out = s.out ∧ (State.countPoison s ld).regs = s.regs ∧ (State.countPoison s ld).ret = s.ret ∧ (State.countPoison s ld).evt = s.evt ∧ (State.countPoison s ld).flt = s.flt ∧ (State.countPoison s ld).host = s.host ∧ (State.countPoison s ld).amap = s.amap ∧ (State.countPoison s ld).mem = s.mem ∧ (State.countPoison s ld).home = s.home ∧ (State.countPoison s ld).ddr = s.ddr ∧ (State.countPoison s ld).tier = s.tier ∧ (State.countPoison s ld).dm = s.dm ∧ (State.countPoison s ld).dunas = s.dunas ∧ (State.countPoison s ld).brg = s.brg ∧ (State.countPoison s ld).clk = s.clk ∧ (State.countPoison s ld).hsc = s.hsc ∧ (State.countPoison s ld).boot = s.boot ∧ (State.countPoison s ld).core = s.core ∧ (State.countPoison s ld).mgmt = s.mgmt := by
  unfold State.countPoison; (repeat' split) <;> simp [State.count_keeps _ _ _ _]

theorem State.answerRead_keeps (s : State) (q : QReq) (g : ReadGot) (mv : MetaVal) :
    (State.answerRead s q g mv).now = s.now ∧ (State.answerRead s q g mv).free = s.free ∧ (State.answerRead s q g mv).pending = s.pending ∧ (State.answerRead s q g mv).regs = s.regs ∧ (State.answerRead s q g mv).flt = s.flt ∧ (State.answerRead s q g mv).amap = s.amap ∧ (State.answerRead s q g mv).mem = s.mem ∧ (State.answerRead s q g mv).ddr = s.ddr ∧ (State.answerRead s q g mv).tier = s.tier ∧ (State.answerRead s q g mv).dm = s.dm ∧ (State.answerRead s q g mv).brg = s.brg ∧ (State.answerRead s q g mv).clk = s.clk ∧ (State.answerRead s q g mv).hsc = s.hsc ∧ (State.answerRead s q g mv).boot = s.boot ∧ (State.answerRead s q g mv).core = s.core := by
  unfold State.answerRead; (repeat' split) <;> simp [State.actRead_keeps _ _, State.traceDone_keeps _ _ _, State.raiseLd_keeps _ _ _ _, State.countPoison_keeps _ _, State.toHost_keeps _ _ _, State.emit_keeps _ _]

theorem State.flushAnswers_keeps (s : State) (a : ℕ) (but : Option ℕ) :
    (State.flushAnswers s a but).now = s.now ∧ (State.flushAnswers s a but).free = s.free ∧ (State.flushAnswers s a but).pending = s.pending ∧ (State.flushAnswers s a but).regs = s.regs ∧ (State.flushAnswers s a but).ret = s.ret ∧ (State.flushAnswers s a but).evt = s.evt ∧ (State.flushAnswers s a but).flt = s.flt ∧ (State.flushAnswers s a but).mem = s.mem ∧ (State.flushAnswers s a but).home = s.home ∧ (State.flushAnswers s a but).ddr = s.ddr ∧ (State.flushAnswers s a but).tier = s.tier ∧ (State.flushAnswers s a but).dm = s.dm ∧ (State.flushAnswers s a but).brg = s.brg ∧ (State.flushAnswers s a but).clk = s.clk ∧ (State.flushAnswers s a but).hsc = s.hsc ∧ (State.flushAnswers s a but).boot = s.boot ∧ (State.flushAnswers s a but).core = s.core ∧ (State.flushAnswers s a but).mgmt = s.mgmt := by
  unfold State.flushAnswers; simp [State.toHost_keeps _ _ _]

theorem State.answerCmp_keeps (s : State) (q : QReq) (mv : MetaVal) (err : Bool) :
    (State.answerCmp s q mv err).now = s.now ∧ (State.answerCmp s q mv err).free = s.free ∧ (State.answerCmp s q mv err).pending = s.pending ∧ (State.answerCmp s q mv err).regs = s.regs ∧ (State.answerCmp s q mv err).ret = s.ret ∧ (State.answerCmp s q mv err).evt = s.evt ∧ (State.answerCmp s q mv err).flt = s.flt ∧ (State.answerCmp s q mv err).mem = s.mem ∧ (State.answerCmp s q mv err).home = s.home ∧ (State.answerCmp s q mv err).ddr = s.ddr ∧ (State.answerCmp s q mv err).tier = s.tier ∧ (State.answerCmp s q mv err).dm = s.dm ∧ (State.answerCmp s q mv err).brg = s.brg ∧ (State.answerCmp s q mv err).clk = s.clk ∧ (State.answerCmp s q mv err).hsc = s.hsc ∧ (State.answerCmp s q mv err).boot = s.boot ∧ (State.answerCmp s q mv err).core = s.core ∧ (State.answerCmp s q mv err).mgmt = s.mgmt := by
  unfold State.answerCmp; (repeat' split) <;> simp [State.traceDone_keeps _ _ _, State.toHost_keeps _ _ _, State.emit_keeps _ _, State.flushAnswers_keeps _ _ _]

theorem State.answerAtomic_keeps (s : State) (q : QReq) (v : ℕ) (bad : Bool) (byLine : Bool) :
    (State.answerAtomic s q v bad byLine).now = s.now ∧ (State.answerAtomic s q v bad byLine).free = s.free ∧ (State.answerAtomic s q v bad byLine).pending = s.pending ∧ (State.answerAtomic s q v bad byLine).regs = s.regs ∧ (State.answerAtomic s q v bad byLine).flt = s.flt ∧ (State.answerAtomic s q v bad byLine).amap = s.amap ∧ (State.answerAtomic s q v bad byLine).mem = s.mem ∧ (State.answerAtomic s q v bad byLine).ddr = s.ddr ∧ (State.answerAtomic s q v bad byLine).tier = s.tier ∧ (State.answerAtomic s q v bad byLine).dm = s.dm ∧ (State.answerAtomic s q v bad byLine).brg = s.brg ∧ (State.answerAtomic s q v bad byLine).clk = s.clk ∧ (State.answerAtomic s q v bad byLine).hsc = s.hsc ∧ (State.answerAtomic s q v bad byLine).boot = s.boot ∧ (State.answerAtomic s q v bad byLine).core = s.core ∧ (State.answerAtomic s q v bad byLine).mgmt = s.mgmt := by
  unfold State.answerAtomic; (repeat' split) <;> simp [State.traceDone_keeps _ _ _, State.raiseLd_keeps _ _ _ _, State.toHost_keeps _ _ _, State.emit_keeps _ _]

theorem State.serveNone_keeps (s : State) (q : QReq) (mv : MetaVal) :
    (State.serveNone s q mv).1.now = s.now ∧ (State.serveNone s q mv).1.free = s.free ∧ (State.serveNone s q mv).1.pending = s.pending ∧ (State.serveNone s q mv).1.regs = s.regs ∧ (State.serveNone s q mv).1.mem = s.mem ∧ (State.serveNone s q mv).1.ddr = s.ddr ∧ (State.serveNone s q mv).1.tier = s.tier ∧ (State.serveNone s q mv).1.dm = s.dm ∧ (State.serveNone s q mv).1.brg = s.brg ∧ (State.serveNone s q mv).1.clk = s.clk ∧ (State.serveNone s q mv).1.hsc = s.hsc ∧ (State.serveNone s q mv).1.boot = s.boot ∧ (State.serveNone s q mv).1.core = s.core := by
  unfold State.serveNone; (repeat' split) <;> simp [State.answerRead_keeps _ _ _ _, State.answerCmp_keeps _ _ _ _, State.discardLine_keeps _ _ _, State.answerAtomic_keeps _ _ _ _ _]

theorem State.serveLine_keeps (s : State) (q : QReq) (mv : MetaVal) :
    (State.serveLine s q mv).1.now = s.now ∧ (State.serveLine s q mv).1.pending = s.pending ∧ (State.serveLine s q mv).1.regs = s.regs ∧ (State.serveLine s q mv).1.dm = s.dm ∧ (State.serveLine s q mv).1.brg = s.brg ∧ (State.serveLine s q mv).1.clk = s.clk ∧ (State.serveLine s q mv).1.hsc = s.hsc ∧ (State.serveLine s q mv).1.boot = s.boot ∧ (State.serveLine s q mv).1.core = s.core := by
  obtain ⟨P, hP⟩ : ∃ P : State → Prop, P = fun x => x.now = s.now ∧ x.pending = s.pending ∧ x.regs = s.regs ∧ x.dm = s.dm ∧ x.brg = s.brg ∧ x.clk = s.clk ∧ x.hsc = s.hsc ∧ x.boot = s.boot ∧ x.core = s.core := ⟨_, rfl⟩
  suffices h : P (State.serveLine s q mv).1 by rw [hP] at h; exact h
  unfold State.serveLine; (try dsimp only); (repeat' split) <;> skip <;> subst hP <;> simp_all [State.serveNone_keeps _ _ _, State.readData_keeps _ _ _, State.answerRead_keeps _ _ _ _, State.writePoison_keeps _ _, State.writeFull_keeps _ _ _, State.answerCmp_keeps _ _ _ _, State.actWrite_keeps _ _, State.writePart_keeps _ _ _ _ _, State.atomicAt_keeps _ _ _ _ _ _ _ _, State.answerAtomic_keeps _ _ _ _ _]

theorem State.setReq_keeps (s : State) (q : QReq) :
    (State.setReq s q).now = s.now ∧ (State.setReq s q).free = s.free ∧ (State.setReq s q).pending = s.pending ∧ (State.setReq s q).out = s.out ∧ (State.setReq s q).regs = s.regs ∧ (State.setReq s q).ret = s.ret ∧ (State.setReq s q).evt = s.evt ∧ (State.setReq s q).flt = s.flt ∧ (State.setReq s q).obs = s.obs ∧ (State.setReq s q).host = s.host ∧ (State.setReq s q).amap = s.amap ∧ (State.setReq s q).mem = s.mem ∧ (State.setReq s q).ddr = s.ddr ∧ (State.setReq s q).tier = s.tier ∧ (State.setReq s q).dm = s.dm ∧ (State.setReq s q).dunas = s.dunas ∧ (State.setReq s q).brg = s.brg ∧ (State.setReq s q).clk = s.clk ∧ (State.setReq s q).hsc = s.hsc ∧ (State.setReq s q).boot = s.boot ∧ (State.setReq s q).core = s.core ∧ (State.setReq s q).mgmt = s.mgmt := by
  unfold State.setReq; simp

theorem State.restOf_keeps (s : State) (who : Requester) :
    (State.restOf s who).now = s.now ∧ (State.restOf s who).free = s.free ∧ (State.restOf s who).pending = s.pending ∧ (State.restOf s who).out = s.out ∧ (State.restOf s who).regs = s.regs ∧ (State.restOf s who).ret = s.ret ∧ (State.restOf s who).evt = s.evt ∧ (State.restOf s who).flt = s.flt ∧ (State.restOf s who).obs = s.obs ∧ (State.restOf s who).amap = s.amap ∧ (State.restOf s who).mem = s.mem ∧ (State.restOf s who).home = s.home ∧ (State.restOf s who).ddr = s.ddr ∧ (State.restOf s who).tier = s.tier ∧ (State.restOf s who).dm = s.dm ∧ (State.restOf s who).dunas = s.dunas ∧ (State.restOf s who).brg = s.brg ∧ (State.restOf s who).clk = s.clk ∧ (State.restOf s who).hsc = s.hsc ∧ (State.restOf s who).boot = s.boot ∧ (State.restOf s who).core = s.core ∧ (State.restOf s who).mgmt = s.mgmt := by
  unfold State.restOf; (repeat' split) <;> simp [State.restLink_keeps _ _]

theorem State.popReq_keeps (s : State) (q : QReq) :
    (State.popReq s q).now = s.now ∧ (State.popReq s q).free = s.free ∧ (State.popReq s q).pending = s.pending ∧ (State.popReq s q).out = s.out ∧ (State.popReq s q).regs = s.regs ∧ (State.popReq s q).ret = s.ret ∧ (State.popReq s q).evt = s.evt ∧ (State.popReq s q).flt = s.flt ∧ (State.popReq s q).obs = s.obs ∧ (State.popReq s q).amap = s.amap ∧ (State.popReq s q).mem = s.mem ∧ (State.popReq s q).ddr = s.ddr ∧ (State.popReq s q).tier = s.tier ∧ (State.popReq s q).dm = s.dm ∧ (State.popReq s q).dunas = s.dunas ∧ (State.popReq s q).brg = s.brg ∧ (State.popReq s q).clk = s.clk ∧ (State.popReq s q).hsc = s.hsc ∧ (State.popReq s q).boot = s.boot ∧ (State.popReq s q).core = s.core ∧ (State.popReq s q).mgmt = s.mgmt := by
  unfold State.popReq; simp [State.restOf_keeps _ _]

theorem State.toAgent_keeps (s : State) (a : ℕ) (m : Msg) :
    (State.toAgent s a m).now = s.now ∧ (State.toAgent s a m).free = s.free ∧ (State.toAgent s a m).pending = s.pending ∧ (State.toAgent s a m).regs = s.regs ∧ (State.toAgent s a m).ret = s.ret ∧ (State.toAgent s a m).evt = s.evt ∧ (State.toAgent s a m).flt = s.flt ∧ (State.toAgent s a m).amap = s.amap ∧ (State.toAgent s a m).mem = s.mem ∧ (State.toAgent s a m).home = s.home ∧ (State.toAgent s a m).ddr = s.ddr ∧ (State.toAgent s a m).tier = s.tier ∧ (State.toAgent s a m).dm = s.dm ∧ (State.toAgent s a m).brg = s.brg ∧ (State.toAgent s a m).clk = s.clk ∧ (State.toAgent s a m).hsc = s.hsc ∧ (State.toAgent s a m).boot = s.boot ∧ (State.toAgent s a m).core = s.core ∧ (State.toAgent s a m).mgmt = s.mgmt := by
  unfold State.toAgent; simp [State.emit_keeps _ _, State.toHost_keeps _ _ _]

theorem State.sendSnoops_keeps (s : State) (q : QReq) (l : List (ℕ × ℕ)) (wasE : Bool) (owner : List ℕ) (guarded : Bool) :
    (State.sendSnoops s q l wasE owner guarded).1.now = s.now ∧ (State.sendSnoops s q l wasE owner guarded).1.free = s.free ∧ (State.sendSnoops s q l wasE owner guarded).1.pending = s.pending ∧ (State.sendSnoops s q l wasE owner guarded).1.regs = s.regs ∧ (State.sendSnoops s q l wasE owner guarded).1.ret = s.ret ∧ (State.sendSnoops s q l wasE owner guarded).1.evt = s.evt ∧ (State.sendSnoops s q l wasE owner guarded).1.flt = s.flt ∧ (State.sendSnoops s q l wasE owner guarded).1.amap = s.amap ∧ (State.sendSnoops s q l wasE owner guarded).1.mem = s.mem ∧ (State.sendSnoops s q l wasE owner guarded).1.ddr = s.ddr ∧ (State.sendSnoops s q l wasE owner guarded).1.tier = s.tier ∧ (State.sendSnoops s q l wasE owner guarded).1.dm = s.dm ∧ (State.sendSnoops s q l wasE owner guarded).1.brg = s.brg ∧ (State.sendSnoops s q l wasE owner guarded).1.clk = s.clk ∧ (State.sendSnoops s q l wasE owner guarded).1.hsc = s.hsc ∧ (State.sendSnoops s q l wasE owner guarded).1.boot = s.boot ∧ (State.sendSnoops s q l wasE owner guarded).1.core = s.core ∧ (State.sendSnoops s q l wasE owner guarded).1.mgmt = s.mgmt := by
  unfold State.sendSnoops; simp [State.count_keeps _ _ _ _, State.setReq_keeps _ _, State.toAgent_keeps _ _ _]

theorem State.loseLine_keeps (s : State) (line : ℕ) :
    (State.loseLine s line).1.now = s.now ∧ (State.loseLine s line).1.pending = s.pending ∧ (State.loseLine s line).1.regs = s.regs ∧ (State.loseLine s line).1.dm = s.dm ∧ (State.loseLine s line).1.brg = s.brg ∧ (State.loseLine s line).1.clk = s.clk ∧ (State.loseLine s line).1.hsc = s.hsc ∧ (State.loseLine s line).1.boot = s.boot ∧ (State.loseLine s line).1.core = s.core ∧ (State.loseLine s line).1.mgmt = s.mgmt := by
  obtain ⟨P, hP⟩ : ∃ P : State → Prop, P = fun x => x.now = s.now ∧ x.pending = s.pending ∧ x.regs = s.regs ∧ x.dm = s.dm ∧ x.brg = s.brg ∧ x.clk = s.clk ∧ x.hsc = s.hsc ∧ x.boot = s.boot ∧ x.core = s.core ∧ x.mgmt = s.mgmt := ⟨_, rfl⟩
  suffices h : P (State.loseLine s line).1 by rw [hP] at h; exact h
  unfold State.loseLine; (try dsimp only); (repeat' split) <;> skip <;> subst hP <;> simp_all [State.writePoison_keeps _ _, State.sfDrop_keeps _ _]

theorem State.guardEvent_keeps (s : State) (line : ℕ) :
    (State.guardEvent s line).now = s.now ∧ (State.guardEvent s line).free = s.free ∧ (State.guardEvent s line).pending = s.pending ∧ (State.guardEvent s line).regs = s.regs ∧ (State.guardEvent s line).flt = s.flt ∧ (State.guardEvent s line).amap = s.amap ∧ (State.guardEvent s line).mem = s.mem ∧ (State.guardEvent s line).ddr = s.ddr ∧ (State.guardEvent s line).tier = s.tier ∧ (State.guardEvent s line).dm = s.dm ∧ (State.guardEvent s line).brg = s.brg ∧ (State.guardEvent s line).clk = s.clk ∧ (State.guardEvent s line).hsc = s.hsc ∧ (State.guardEvent s line).boot = s.boot ∧ (State.guardEvent s line).core = s.core ∧ (State.guardEvent s line).mgmt = s.mgmt := by
  unfold State.guardEvent; simp [State.raise_keeps _ _]

theorem State.writtenBack_keeps (s : State) (line : ℕ) (r : Option ℕ) (w : Want) :
    (State.writtenBack s line r w).now = s.now ∧ (State.writtenBack s line r w).free = s.free ∧ (State.writtenBack s line r w).pending = s.pending ∧ (State.writtenBack s line r w).out = s.out ∧ (State.writtenBack s line r w).regs = s.regs ∧ (State.writtenBack s line r w).ret = s.ret ∧ (State.writtenBack s line r w).evt = s.evt ∧ (State.writtenBack s line r w).flt = s.flt ∧ (State.writtenBack s line r w).obs = s.obs ∧ (State.writtenBack s line r w).host = s.host ∧ (State.writtenBack s line r w).amap = s.amap ∧ (State.writtenBack s line r w).mem = s.mem ∧ (State.writtenBack s line r w).ddr = s.ddr ∧ (State.writtenBack s line r w).tier = s.tier ∧ (State.writtenBack s line r w).dm = s.dm ∧ (State.writtenBack s line r w).dunas = s.dunas ∧ (State.writtenBack s line r w).brg = s.brg ∧ (State.writtenBack s line r w).clk = s.clk ∧ (State.writtenBack s line r w).hsc = s.hsc ∧ (State.writtenBack s line r w).boot = s.boot ∧ (State.writtenBack s line r w).core = s.core ∧ (State.writtenBack s line r w).mgmt = s.mgmt := by
  unfold State.writtenBack; (repeat' split) <;> simp

theorem State.goCoherent_keeps (s : State) (line : ℕ) (q : QReq) :
    (State.goCoherent s line q).1.now = s.now ∧ (State.goCoherent s line q).1.pending = s.pending ∧ (State.goCoherent s line q).1.regs = s.regs ∧ (State.goCoherent s line q).1.dm = s.dm ∧ (State.goCoherent s line q).1.brg = s.brg ∧ (State.goCoherent s line q).1.clk = s.clk ∧ (State.goCoherent s line q).1.hsc = s.hsc ∧ (State.goCoherent s line q).1.boot = s.boot ∧ (State.goCoherent s line q).1.core = s.core := by
  obtain ⟨P, hP⟩ : ∃ P : State → Prop, P = fun x => x.now = s.now ∧ x.pending = s.pending ∧ x.regs = s.regs ∧ x.dm = s.dm ∧ x.brg = s.brg ∧ x.clk = s.clk ∧ x.hsc = s.hsc ∧ x.boot = s.boot ∧ x.core = s.core := ⟨_, rfl⟩
  suffices h : P (State.goCoherent s line q).1 by rw [hP] at h; exact h
  unfold State.goCoherent; (try dsimp only); (repeat' split) <;> (try have := State.sfGo_keeps _ _ _ ‹State.sfGo _ _ _ = some _›) <;> subst hP <;> simp_all [State.loseLine_keeps _ _, State.sendSnoops_keeps _ _ _ _ _ _, State.serveLine_keeps _ _ _, State.popReq_keeps _ _, State.writtenBack_keeps _ _ _ _, State.guardEvent_keeps _ _, State.count_keeps _ _ _ _]

theorem State.callFor_keeps (s : State) (line : ℕ) :
    (State.callFor s line).now = s.now ∧ (State.callFor s line).free = s.free ∧ (State.callFor s line).pending = s.pending ∧ (State.callFor s line).out = s.out ∧ (State.callFor s line).regs = s.regs ∧ (State.callFor s line).ret = s.ret ∧ (State.callFor s line).evt = s.evt ∧ (State.callFor s line).flt = s.flt ∧ (State.callFor s line).obs = s.obs ∧ (State.callFor s line).host = s.host ∧ (State.callFor s line).amap = s.amap ∧ (State.callFor s line).mem = s.mem ∧ (State.callFor s line).home = s.home ∧ (State.callFor s line).ddr = s.ddr ∧ (State.callFor s line).dm = s.dm ∧ (State.callFor s line).dunas = s.dunas ∧ (State.callFor s line).brg = s.brg ∧ (State.callFor s line).clk = s.clk ∧ (State.callFor s line).hsc = s.hsc ∧ (State.callFor s line).boot = s.boot ∧ (State.callFor s line).core = s.core ∧ (State.callFor s line).mgmt = s.mgmt := by
  unfold State.callFor; (repeat' split) <;> simp [State.callEngine_keeps _ _]

theorem State.stepHead_keeps (s : State) (line : ℕ) :
    (State.stepHead s line).1.now = s.now ∧ (State.stepHead s line).1.pending = s.pending ∧ (State.stepHead s line).1.regs = s.regs ∧ (State.stepHead s line).1.dm = s.dm ∧ (State.stepHead s line).1.brg = s.brg ∧ (State.stepHead s line).1.clk = s.clk ∧ (State.stepHead s line).1.hsc = s.hsc ∧ (State.stepHead s line).1.boot = s.boot ∧ (State.stepHead s line).1.core = s.core := by
  obtain ⟨P, hP⟩ : ∃ P : State → Prop, P = fun x => x.now = s.now ∧ x.pending = s.pending ∧ x.regs = s.regs ∧ x.dm = s.dm ∧ x.brg = s.brg ∧ x.clk = s.clk ∧ x.hsc = s.hsc ∧ x.boot = s.boot ∧ x.core = s.core := ⟨_, rfl⟩
  suffices h : P (State.stepHead s line).1 by rw [hP] at h; exact h
  unfold State.stepHead; (try dsimp only); (repeat' split) <;> (try have := State.sfGo_keeps _ _ _ ‹State.sfGo _ _ _ = some _›) <;> subst hP <;> simp_all [State.setReq_keeps _ _, State.touch_keeps _ _, State.writePoison_keeps _ _, State.popReq_keeps _ _, State.sendSnoops_keeps _ _ _ _ _ _, State.loseLine_keeps _ _, State.callFor_keeps _ _, State.serveLine_keeps _ _ _, State.goCoherent_keeps _ _ _]

theorem State.runLines_keeps (a0 : ℕ) (a1 : List ℕ) (a2 : State) :
    (State.runLines a0 a1 a2).now = a2.now ∧ (State.runLines a0 a1 a2).pending = a2.pending ∧ (State.runLines a0 a1 a2).regs = a2.regs ∧ (State.runLines a0 a1 a2).dm = a2.dm ∧ (State.runLines a0 a1 a2).brg = a2.brg ∧ (State.runLines a0 a1 a2).clk = a2.clk ∧ (State.runLines a0 a1 a2).hsc = a2.hsc ∧ (State.runLines a0 a1 a2).boot = a2.boot ∧ (State.runLines a0 a1 a2).core = a2.core := by
  fun_induction State.runLines a0 a1 a2 <;> simp_all +zetaDelta [State.stepHead_keeps _ _]

theorem State.sample_keeps (s : State) (p : ℕ) :
    (State.sample s p).now = s.now ∧ (State.sample s p).pending = s.pending ∧ (State.sample s p).home = s.home ∧ (State.sample s p).dm = s.dm ∧ (State.sample s p).brg = s.brg ∧ (State.sample s p).clk = s.clk ∧ (State.sample s p).hsc = s.hsc ∧ (State.sample s p).boot = s.boot ∧ (State.sample s p).core = s.core ∧ (State.sample s p).mgmt = s.mgmt := by
  unfold State.sample; simp [State.setEntry_keeps _ _ _, State.sampleAge_keeps _ _ _]

theorem State.portCycle_keeps (s : State) (hs : ℕ) :
    (State.portCycle s hs).now = s.now ∧ (State.portCycle s hs).free = s.free ∧ (State.portCycle s hs).pending = s.pending ∧ (State.portCycle s hs).out = s.out ∧ (State.portCycle s hs).regs = s.regs ∧ (State.portCycle s hs).ret = s.ret ∧ (State.portCycle s hs).evt = s.evt ∧ (State.portCycle s hs).flt = s.flt ∧ (State.portCycle s hs).obs = s.obs ∧ (State.portCycle s hs).host = s.host ∧ (State.portCycle s hs).amap = s.amap ∧ (State.portCycle s hs).mem = s.mem ∧ (State.portCycle s hs).ddr = s.ddr ∧ (State.portCycle s hs).tier = s.tier ∧ (State.portCycle s hs).dm = s.dm ∧ (State.portCycle s hs).dunas = s.dunas ∧ (State.portCycle s hs).brg = s.brg ∧ (State.portCycle s hs).clk = s.clk ∧ (State.portCycle s hs).hsc = s.hsc ∧ (State.portCycle s hs).boot = s.boot ∧ (State.portCycle s hs).core = s.core ∧ (State.portCycle s hs).mgmt = s.mgmt := by
  unfold State.portCycle; simp

theorem State.enqueue_keeps (s : State) (q : QReq) (tr : TrackerKind) :
    (State.enqueue s q tr).now = s.now ∧ (State.enqueue s q tr).pending = s.pending ∧ (State.enqueue s q tr).dm = s.dm ∧ (State.enqueue s q tr).brg = s.brg ∧ (State.enqueue s q tr).clk = s.clk ∧ (State.enqueue s q tr).hsc = s.hsc ∧ (State.enqueue s q tr).boot = s.boot ∧ (State.enqueue s q tr).core = s.core := by
  unfold State.enqueue; simp [State.touch_keeps _ _, State.sample_keeps _ _, State.count_keeps _ _ _ _, State.portCycle_keeps _ _, State.runLines_keeps _ _ _]

theorem State.useCredit_keeps (s : State) (hs : ℕ) (c : ReqClass) :
    (State.useCredit s hs c).now = s.now ∧ (State.useCredit s hs c).pending = s.pending ∧ (State.useCredit s hs c).dm = s.dm ∧ (State.useCredit s hs c).brg = s.brg ∧ (State.useCredit s hs c).clk = s.clk ∧ (State.useCredit s hs c).hsc = s.hsc ∧ (State.useCredit s hs c).boot = s.boot ∧ (State.useCredit s hs c).core = s.core := by
  unfold State.useCredit; (repeat' split) <;> simp [State.enqueue_keeps _ _ _]

theorem State.travel_keeps (s : State) (who : Requester) (k : ReqKind) (hs : ℕ) :
    (State.travel s who k hs).now = s.now ∧ (State.travel s who k hs).free = s.free ∧ (State.travel s who k hs).pending = s.pending ∧ (State.travel s who k hs).out = s.out ∧ (State.travel s who k hs).regs = s.regs ∧ (State.travel s who k hs).ret = s.ret ∧ (State.travel s who k hs).evt = s.evt ∧ (State.travel s who k hs).flt = s.flt ∧ (State.travel s who k hs).host = s.host ∧ (State.travel s who k hs).amap = s.amap ∧ (State.travel s who k hs).mem = s.mem ∧ (State.travel s who k hs).home = s.home ∧ (State.travel s who k hs).ddr = s.ddr ∧ (State.travel s who k hs).tier = s.tier ∧ (State.travel s who k hs).dm = s.dm ∧ (State.travel s who k hs).brg = s.brg ∧ (State.travel s who k hs).clk = s.clk ∧ (State.travel s who k hs).hsc = s.hsc ∧ (State.travel s who k hs).boot = s.boot ∧ (State.travel s who k hs).core = s.core ∧ (State.travel s who k hs).mgmt = s.mgmt := by
  unfold State.travel; (repeat' split) <;> simp [State.carry_keeps _ _ _]

theorem State.takeIn_keeps (s : State) (q : QReq) (cred : Bool) :
    (State.takeIn s q cred).now = s.now ∧ (State.takeIn s q cred).pending = s.pending ∧ (State.takeIn s q cred).dm = s.dm ∧ (State.takeIn s q cred).brg = s.brg ∧ (State.takeIn s q cred).clk = s.clk ∧ (State.takeIn s q cred).hsc = s.hsc ∧ (State.takeIn s q cred).boot = s.boot ∧ (State.takeIn s q cred).core = s.core := by
  obtain ⟨P, hP⟩ : ∃ P : State → Prop, P = fun x => x.now = s.now ∧ x.pending = s.pending ∧ x.dm = s.dm ∧ x.brg = s.brg ∧ x.clk = s.clk ∧ x.hsc = s.hsc ∧ x.boot = s.boot ∧ x.core = s.core := ⟨_, rfl⟩
  suffices h : P (State.takeIn s q cred) by rw [hP] at h; exact h
  unfold State.takeIn; (try dsimp only); (repeat' split) <;> subst hP <;> simp_all [State.enqueue_keeps _ _ _, State.emit_keeps _ _, State.count_keeps _ _ _ _, State.useCredit_keeps _ _ _]

theorem State.readmit_keeps (a0 : ℕ) (a1 : State) :
    (State.readmit a0 a1).now = a1.now ∧ (State.readmit a0 a1).pending = a1.pending ∧ (State.readmit a0 a1).dm = a1.dm ∧ (State.readmit a0 a1).brg = a1.brg ∧ (State.readmit a0 a1).clk = a1.clk ∧ (State.readmit a0 a1).hsc = a1.hsc ∧ (State.readmit a0 a1).boot = a1.boot ∧ (State.readmit a0 a1).core = a1.core := by
  fun_induction State.readmit a0 a1 <;> simp_all +zetaDelta [State.takeIn_keeps _ _ _]

theorem State.runOn_keeps (s : State) (lines : List ℕ) :
    (State.runOn s lines).now = s.now ∧ (State.runOn s lines).pending = s.pending ∧ (State.runOn s lines).dm = s.dm ∧ (State.runOn s lines).brg = s.brg ∧ (State.runOn s lines).clk = s.clk ∧ (State.runOn s lines).hsc = s.hsc ∧ (State.runOn s lines).boot = s.boot ∧ (State.runOn s lines).core = s.core := by
  unfold State.runOn; simp [State.readmit_keeps _ _, State.runLines_keeps _ _ _]

theorem State.runLine_keeps (s : State) (line : ℕ) :
    (State.runLine s line).now = s.now ∧ (State.runLine s line).pending = s.pending ∧ (State.runLine s line).dm = s.dm ∧ (State.runLine s line).brg = s.brg ∧ (State.runLine s line).clk = s.clk ∧ (State.runLine s line).hsc = s.hsc ∧ (State.runLine s line).boot = s.boot ∧ (State.runLine s line).core = s.core := by
  unfold State.runLine; simp [State.runOn_keeps _ _]

theorem State.runPage_keeps (s : State) (p : ℕ) :
    (State.runPage s p).now = s.now ∧ (State.runPage s p).pending = s.pending ∧ (State.runPage s p).dm = s.dm ∧ (State.runPage s p).brg = s.brg ∧ (State.runPage s p).clk = s.clk ∧ (State.runPage s p).hsc = s.hsc ∧ (State.runPage s p).boot = s.boot ∧ (State.runPage s p).core = s.core := by
  unfold State.runPage; simp [State.runOn_keeps _ _]

theorem State.runAll_keeps (s : State) :
    (State.runAll s).now = s.now ∧ (State.runAll s).pending = s.pending ∧ (State.runAll s).dm = s.dm ∧ (State.runAll s).brg = s.brg ∧ (State.runAll s).clk = s.clk ∧ (State.runAll s).hsc = s.hsc ∧ (State.runAll s).boot = s.boot ∧ (State.runAll s).core = s.core := by
  unfold State.runAll; simp [State.runOn_keeps _ _]

theorem State.enlist_keeps (s : State) (line : ℕ) (who : Requester) (k : ReqKind) (tag : ℕ) (cred : Bool) (mark : Bool) :
    (State.enlist s line who k tag cred mark).now = s.now ∧ (State.enlist s line who k tag cred mark).pending = s.pending ∧ (State.enlist s line who k tag cred mark).dm = s.dm ∧ (State.enlist s line who k tag cred mark).brg = s.brg ∧ (State.enlist s line who k tag cred mark).clk = s.clk ∧ (State.enlist s line who k tag cred mark).hsc = s.hsc ∧ (State.enlist s line who k tag cred mark).boot = s.boot ∧ (State.enlist s line who k tag cred mark).core = s.core := by
  obtain ⟨P, hP⟩ : ∃ P : State → Prop, P = fun x => x.now = s.now ∧ x.pending = s.pending ∧ x.dm = s.dm ∧ x.brg = s.brg ∧ x.clk = s.clk ∧ x.hsc = s.hsc ∧ x.boot = s.boot ∧ x.core = s.core := ⟨_, rfl⟩
  suffices h : P (State.enlist s line who k tag cred mark) by rw [hP] at h; exact h
  unfold State.enlist; (try dsimp only); (repeat' split) <;> subst hP <;> simp_all [State.travel_keeps _ _ _ _, State.takeIn_keeps _ _ _, State.readmit_keeps _ _]

theorem State.answered_keeps (s : State) (a : ℕ) (line : ℕ) (keepS : Bool) :
    (State.answered s a line keepS).now = s.now ∧ (State.answered s a line keepS).pending = s.pending ∧ (State.answered s a line keepS).dm = s.dm ∧ (State.answered s a line keepS).brg = s.brg ∧ (State.answered s a line keepS).clk = s.clk ∧ (State.answered s a line keepS).hsc = s.hsc ∧ (State.answered s a line keepS).boot = s.boot ∧ (State.answered s a line keepS).core = s.core := by
  unfold State.answered; simp [State.runLine_keeps _ _]

theorem State.loseAgents_keeps (s : State) (l : List ℕ) :
    (State.loseAgents s l).now = s.now ∧ (State.loseAgents s l).pending = s.pending ∧ (State.loseAgents s l).dm = s.dm ∧ (State.loseAgents s l).brg = s.brg ∧ (State.loseAgents s l).clk = s.clk ∧ (State.loseAgents s l).hsc = s.hsc ∧ (State.loseAgents s l).boot = s.boot ∧ (State.loseAgents s l).core = s.core := by
  unfold State.loseAgents; simp [State.runOn_keeps _ _]

theorem State.poisonAhead_keeps (s : State) (line : ℕ) :
    (State.poisonAhead s line).now = s.now ∧ (State.poisonAhead s line).pending = s.pending ∧ (State.poisonAhead s line).dm = s.dm ∧ (State.poisonAhead s line).brg = s.brg ∧ (State.poisonAhead s line).clk = s.clk ∧ (State.poisonAhead s line).hsc = s.hsc ∧ (State.poisonAhead s line).boot = s.boot ∧ (State.poisonAhead s line).core = s.core := by
  unfold State.poisonAhead; simp [State.sfDrop_keeps _ _, State.runLine_keeps _ _]

theorem State.sweepAgents_keeps (s : State) (l : List ℕ) :
    (State.sweepAgents s l).now = s.now ∧ (State.sweepAgents s l).pending = s.pending ∧ (State.sweepAgents s l).dm = s.dm ∧ (State.sweepAgents s l).brg = s.brg ∧ (State.sweepAgents s l).clk = s.clk ∧ (State.sweepAgents s l).hsc = s.hsc ∧ (State.sweepAgents s l).boot = s.boot ∧ (State.sweepAgents s l).core = s.core := by
  unfold State.sweepAgents; simp [State.poisonAhead_keeps _ _, State.runOn_keeps _ _]

theorem State.filterError_keeps (s : State) (line : ℕ) :
    (State.filterError s line).now = s.now ∧ (State.filterError s line).free = s.free ∧ (State.filterError s line).pending = s.pending ∧ (State.filterError s line).regs = s.regs ∧ (State.filterError s line).amap = s.amap ∧ (State.filterError s line).mem = s.mem ∧ (State.filterError s line).ddr = s.ddr ∧ (State.filterError s line).tier = s.tier ∧ (State.filterError s line).dm = s.dm ∧ (State.filterError s line).brg = s.brg ∧ (State.filterError s line).clk = s.clk ∧ (State.filterError s line).hsc = s.hsc ∧ (State.filterError s line).boot = s.boot ∧ (State.filterError s line).core = s.core ∧ (State.filterError s line).mgmt = s.mgmt := by
  unfold State.filterError; simp [State.sfDrop_keeps _ _, State.fileP_keeps _ _ _ _, State.raiseHs_keeps _ _ _ _ _ _]

theorem State.checkFilter_keeps (s : State) (p : ℕ → Bool) :
    (State.checkFilter s p).now = s.now ∧ (State.checkFilter s p).pending = s.pending ∧ (State.checkFilter s p).regs = s.regs ∧ (State.checkFilter s p).amap = s.amap ∧ (State.checkFilter s p).mem = s.mem ∧ (State.checkFilter s p).ddr = s.ddr ∧ (State.checkFilter s p).tier = s.tier ∧ (State.checkFilter s p).dm = s.dm ∧ (State.checkFilter s p).brg = s.brg ∧ (State.checkFilter s p).clk = s.clk ∧ (State.checkFilter s p).hsc = s.hsc ∧ (State.checkFilter s p).boot = s.boot ∧ (State.checkFilter s p).core = s.core ∧ (State.checkFilter s p).mgmt = s.mgmt := by
  unfold State.checkFilter; simp [State.takeFree_keeps _, State.filterError_keeps _ _]

theorem State.checkSlice_keeps (s : State) (hs : ℕ) :
    (State.checkSlice s hs).now = s.now ∧ (State.checkSlice s hs).pending = s.pending ∧ (State.checkSlice s hs).out = s.out ∧ (State.checkSlice s hs).regs = s.regs ∧ (State.checkSlice s hs).ret = s.ret ∧ (State.checkSlice s hs).evt = s.evt ∧ (State.checkSlice s hs).flt = s.flt ∧ (State.checkSlice s hs).obs = s.obs ∧ (State.checkSlice s hs).host = s.host ∧ (State.checkSlice s hs).amap = s.amap ∧ (State.checkSlice s hs).mem = s.mem ∧ (State.checkSlice s hs).ddr = s.ddr ∧ (State.checkSlice s hs).tier = s.tier ∧ (State.checkSlice s hs).dm = s.dm ∧ (State.checkSlice s hs).dunas = s.dunas ∧ (State.checkSlice s hs).brg = s.brg ∧ (State.checkSlice s hs).clk = s.clk ∧ (State.checkSlice s hs).hsc = s.hsc ∧ (State.checkSlice s hs).boot = s.boot ∧ (State.checkSlice s hs).core = s.core ∧ (State.checkSlice s hs).mgmt = s.mgmt := by
  unfold State.checkSlice; simp [State.takeFree_keeps _]

theorem State.leaveExtent_keeps (s : State) (e : ℕ) (agent : ℕ) :
    (State.leaveExtent s e agent).now = s.now ∧ (State.leaveExtent s e agent).pending = s.pending ∧ (State.leaveExtent s e agent).dm = s.dm ∧ (State.leaveExtent s e agent).brg = s.brg ∧ (State.leaveExtent s e agent).clk = s.clk ∧ (State.leaveExtent s e agent).hsc = s.hsc ∧ (State.leaveExtent s e agent).boot = s.boot ∧ (State.leaveExtent s e agent).core = s.core := by
  unfold State.leaveExtent; simp [State.runOn_keeps _ _]

end Sys2Proof.Machine
end

