-- ==== Sys2Proof/Laws/LinksKeeps.lean ====
section
/-! SUPPORT. Which fields of the state the operations of Links leave as they are: a proof
over the operation `State.op` gives simp its lemma `State.op_keeps _ _`. -/

namespace Sys2Proof.Machine

theorem State.dmqSet_keeps (s : State) (q : ℕ) (x : ℕ) (lo : ℕ) (w : ℕ) (v : ℕ) :
    (State.dmqSet s q x lo w v).now = s.now ∧ (State.dmqSet s q x lo w v).free = s.free ∧ (State.dmqSet s q x lo w v).pending = s.pending ∧ (State.dmqSet s q x lo w v).out = s.out ∧ (State.dmqSet s q x lo w v).ret = s.ret ∧ (State.dmqSet s q x lo w v).evt = s.evt ∧ (State.dmqSet s q x lo w v).flt = s.flt ∧ (State.dmqSet s q x lo w v).obs = s.obs ∧ (State.dmqSet s q x lo w v).host = s.host ∧ (State.dmqSet s q x lo w v).amap = s.amap ∧ (State.dmqSet s q x lo w v).mem = s.mem ∧ (State.dmqSet s q x lo w v).home = s.home ∧ (State.dmqSet s q x lo w v).ddr = s.ddr ∧ (State.dmqSet s q x lo w v).tier = s.tier ∧ (State.dmqSet s q x lo w v).dm = s.dm ∧ (State.dmqSet s q x lo w v).dunas = s.dunas ∧ (State.dmqSet s q x lo w v).brg = s.brg ∧ (State.dmqSet s q x lo w v).clk = s.clk ∧ (State.dmqSet s q x lo w v).hsc = s.hsc ∧ (State.dmqSet s q x lo w v).boot = s.boot ∧ (State.dmqSet s q x lo w v).core = s.core ∧ (State.dmqSet s q x lo w v).mgmt = s.mgmt := by
  unfold State.dmqSet; (repeat' split) <;> simp [State.setBits_keeps _ _ _ _ _ _]

theorem State.onDesc_keeps (s : State) (q : ℕ) (ix : ℕ) (f : Desc → Desc) :
    (State.onDesc s q ix f).now = s.now ∧ (State.onDesc s q ix f).free = s.free ∧ (State.onDesc s q ix f).pending = s.pending ∧ (State.onDesc s q ix f).out = s.out ∧ (State.onDesc s q ix f).regs = s.regs ∧ (State.onDesc s q ix f).ret = s.ret ∧ (State.onDesc s q ix f).evt = s.evt ∧ (State.onDesc s q ix f).flt = s.flt ∧ (State.onDesc s q ix f).obs = s.obs ∧ (State.onDesc s q ix f).host = s.host ∧ (State.onDesc s q ix f).amap = s.amap ∧ (State.onDesc s q ix f).mem = s.mem ∧ (State.onDesc s q ix f).home = s.home ∧ (State.onDesc s q ix f).ddr = s.ddr ∧ (State.onDesc s q ix f).tier = s.tier ∧ (State.onDesc s q ix f).dunas = s.dunas ∧ (State.onDesc s q ix f).brg = s.brg ∧ (State.onDesc s q ix f).clk = s.clk ∧ (State.onDesc s q ix f).hsc = s.hsc ∧ (State.onDesc s q ix f).boot = s.boot ∧ (State.onDesc s q ix f).core = s.core ∧ (State.onDesc s q ix f).mgmt = s.mgmt := by
  unfold State.onDesc; simp [State.onQueue_keeps _ _ _]

theorem State.issueOne_keeps (s : State) (q : ℕ) (ix : ℕ) (a : ℕ) (n : ℕ) {r : State × ℕ} (hr : State.issueOne s q ix a n = some r) :
    r.1.now = s.now ∧ r.1.free = s.free ∧ r.1.pending = s.pending ∧ r.1.regs = s.regs ∧ r.1.ret = s.ret ∧ r.1.evt = s.evt ∧ r.1.flt = s.flt ∧ r.1.amap = s.amap ∧ r.1.mem = s.mem ∧ r.1.home = s.home ∧ r.1.ddr = s.ddr ∧ r.1.tier = s.tier ∧ r.1.dm = s.dm ∧ r.1.brg = s.brg ∧ r.1.clk = s.clk ∧ r.1.hsc = s.hsc ∧ r.1.boot = s.boot ∧ r.1.core = s.core ∧ r.1.mgmt = s.mgmt := by
  unfold State.issueOne at hr; dsimp only at hr; (repeat' split at hr) <;> first | (cases hr; done) | (cases hr; simp_all [State.toHost_keeps _ _ _, State.onLd_keeps _ _ _]; done) | simp_all [State.toHost_keeps _ _ _, State.onLd_keeps _ _ _]

theorem State.issueReads_keeps (a0 : ℕ) (a1 : ℕ) (a2 : ℕ) (a3 : State) :
    (State.issueReads a0 a1 a2 a3).now = a3.now ∧ (State.issueReads a0 a1 a2 a3).free = a3.free ∧ (State.issueReads a0 a1 a2 a3).pending = a3.pending ∧ (State.issueReads a0 a1 a2 a3).regs = a3.regs ∧ (State.issueReads a0 a1 a2 a3).ret = a3.ret ∧ (State.issueReads a0 a1 a2 a3).evt = a3.evt ∧ (State.issueReads a0 a1 a2 a3).flt = a3.flt ∧ (State.issueReads a0 a1 a2 a3).amap = a3.amap ∧ (State.issueReads a0 a1 a2 a3).mem = a3.mem ∧ (State.issueReads a0 a1 a2 a3).home = a3.home ∧ (State.issueReads a0 a1 a2 a3).ddr = a3.ddr ∧ (State.issueReads a0 a1 a2 a3).tier = a3.tier ∧ (State.issueReads a0 a1 a2 a3).brg = a3.brg ∧ (State.issueReads a0 a1 a2 a3).clk = a3.clk ∧ (State.issueReads a0 a1 a2 a3).hsc = a3.hsc ∧ (State.issueReads a0 a1 a2 a3).boot = a3.boot ∧ (State.issueReads a0 a1 a2 a3).core = a3.core ∧ (State.issueReads a0 a1 a2 a3).mgmt = a3.mgmt := by
  fun_induction State.issueReads a0 a1 a2 a3 <;> (try have := State.issueOne_keeps _ _ _ _ _ ‹State.issueOne _ _ _ _ _ = some _›) <;> simp_all +zetaDelta [State.onDesc_keeps _ _ _ _]

theorem State.pumpReads_keeps (s : State) (q : ℕ) :
    (State.pumpReads s q).now = s.now ∧ (State.pumpReads s q).free = s.free ∧ (State.pumpReads s q).pending = s.pending ∧ (State.pumpReads s q).regs = s.regs ∧ (State.pumpReads s q).ret = s.ret ∧ (State.pumpReads s q).evt = s.evt ∧ (State.pumpReads s q).flt = s.flt ∧ (State.pumpReads s q).amap = s.amap ∧ (State.pumpReads s q).mem = s.mem ∧ (State.pumpReads s q).home = s.home ∧ (State.pumpReads s q).ddr = s.ddr ∧ (State.pumpReads s q).tier = s.tier ∧ (State.pumpReads s q).brg = s.brg ∧ (State.pumpReads s q).clk = s.clk ∧ (State.pumpReads s q).hsc = s.hsc ∧ (State.pumpReads s q).boot = s.boot ∧ (State.pumpReads s q).core = s.core ∧ (State.pumpReads s q).mgmt = s.mgmt := by
  unfold State.pumpReads; (repeat' split) <;> simp [State.issueReads_keeps _ _ _ _]

theorem State.dropDm_keeps (s : State) (q : ℕ) :
    (State.dropDm s q).now = s.now ∧ (State.dropDm s q).free = s.free ∧ (State.dropDm s q).pending = s.pending ∧ (State.dropDm s q).out = s.out ∧ (State.dropDm s q).regs = s.regs ∧ (State.dropDm s q).ret = s.ret ∧ (State.dropDm s q).evt = s.evt ∧ (State.dropDm s q).flt = s.flt ∧ (State.dropDm s q).obs = s.obs ∧ (State.dropDm s q).amap = s.amap ∧ (State.dropDm s q).mem = s.mem ∧ (State.dropDm s q).ddr = s.ddr ∧ (State.dropDm s q).tier = s.tier ∧ (State.dropDm s q).dunas = s.dunas ∧ (State.dropDm s q).brg = s.brg ∧ (State.dropDm s q).clk = s.clk ∧ (State.dropDm s q).hsc = s.hsc ∧ (State.dropDm s q).boot = s.boot ∧ (State.dropDm s q).core = s.core ∧ (State.dropDm s q).mgmt = s.mgmt := by
  unfold State.dropDm; simp [State.onLd_keeps _ _ _, State.onQueue_keeps _ _ _]

theorem State.haltQueue_keeps (s : State) (q : ℕ) (cause : ℕ) :
    (State.haltQueue s q cause).now = s.now ∧ (State.haltQueue s q cause).free = s.free ∧ (State.haltQueue s q cause).pending = s.pending ∧ (State.haltQueue s q cause).flt = s.flt ∧ (State.haltQueue s q cause).amap = s.amap ∧ (State.haltQueue s q cause).mem = s.mem ∧ (State.haltQueue s q cause).ddr = s.ddr ∧ (State.haltQueue s q cause).tier = s.tier ∧ (State.haltQueue s q cause).brg = s.brg ∧ (State.haltQueue s q cause).clk = s.clk ∧ (State.haltQueue s q cause).hsc = s.hsc ∧ (State.haltQueue s q cause).boot = s.boot ∧ (State.haltQueue s q cause).core = s.core ∧ (State.haltQueue s q cause).mgmt = s.mgmt := by
  obtain ⟨P, hP⟩ : ∃ P : State → Prop, P = fun x => x.now = s.now ∧ x.free = s.free ∧ x.pending = s.pending ∧ x.flt = s.flt ∧ x.amap = s.amap ∧ x.mem = s.mem ∧ x.ddr = s.ddr ∧ x.tier = s.tier ∧ x.brg = s.brg ∧ x.clk = s.clk ∧ x.hsc = s.hsc ∧ x.boot = s.boot ∧ x.core = s.core ∧ x.mgmt = s.mgmt := ⟨_, rfl⟩
  suffices h : P (State.haltQueue s q cause) by rw [hP] at h; exact h
  unfold State.haltQueue; (try dsimp only); (repeat' split) <;> skip <;> subst hP <;> simp_all [State.dmqSet_keeps _ _ _ _ _ _, State.onQueue_keeps _ _ _, State.restLink_keeps _ _, State.dropDm_keeps _ _, State.pumpReads_keeps _ _, State.raise_keeps _ _]

theorem State.stopQueue_keeps (s : State) (q : ℕ) (cause : ℕ) :
    (State.stopQueue s q cause).now = s.now ∧ (State.stopQueue s q cause).free = s.free ∧ (State.stopQueue s q cause).pending = s.pending ∧ (State.stopQueue s q cause).flt = s.flt ∧ (State.stopQueue s q cause).amap = s.amap ∧ (State.stopQueue s q cause).mem = s.mem ∧ (State.stopQueue s q cause).ddr = s.ddr ∧ (State.stopQueue s q cause).tier = s.tier ∧ (State.stopQueue s q cause).brg = s.brg ∧ (State.stopQueue s q cause).clk = s.clk ∧ (State.stopQueue s q cause).hsc = s.hsc ∧ (State.stopQueue s q cause).boot = s.boot ∧ (State.stopQueue s q cause).core = s.core ∧ (State.stopQueue s q cause).mgmt = s.mgmt := by
  unfold State.stopQueue; simp [State.haltQueue_keeps _ _ _]

theorem State.unlockIfDown_keeps (s : State) (was : Bool) :
    (State.unlockIfDown s was).now = s.now ∧ (State.unlockIfDown s was).free = s.free ∧ (State.unlockIfDown s was).pending = s.pending ∧ (State.unlockIfDown s was).out = s.out ∧ (State.unlockIfDown s was).ret = s.ret ∧ (State.unlockIfDown s was).evt = s.evt ∧ (State.unlockIfDown s was).flt = s.flt ∧ (State.unlockIfDown s was).obs = s.obs ∧ (State.unlockIfDown s was).host = s.host ∧ (State.unlockIfDown s was).amap = s.amap ∧ (State.unlockIfDown s was).mem = s.mem ∧ (State.unlockIfDown s was).home = s.home ∧ (State.unlockIfDown s was).ddr = s.ddr ∧ (State.unlockIfDown s was).tier = s.tier ∧ (State.unlockIfDown s was).dm = s.dm ∧ (State.unlockIfDown s was).dunas = s.dunas ∧ (State.unlockIfDown s was).brg = s.brg ∧ (State.unlockIfDown s was).clk = s.clk ∧ (State.unlockIfDown s was).hsc = s.hsc ∧ (State.unlockIfDown s was).boot = s.boot ∧ (State.unlockIfDown s was).core = s.core ∧ (State.unlockIfDown s was).mgmt = s.mgmt := by
  unfold State.unlockIfDown; simp [State.freeLocks_keeps _ _]

theorem State.agentsGone_keeps (s : State) (l : List ℕ) :
    (State.agentsGone s l).now = s.now ∧ (State.agentsGone s l).pending = s.pending ∧ (State.agentsGone s l).dm = s.dm ∧ (State.agentsGone s l).brg = s.brg ∧ (State.agentsGone s l).clk = s.clk ∧ (State.agentsGone s l).hsc = s.hsc ∧ (State.agentsGone s l).boot = s.boot ∧ (State.agentsGone s l).core = s.core := by
  unfold State.agentsGone; simp [State.loseAgents_keeps _ _]

theorem State.dropAccess_keeps (s : State) (l : List ℕ) :
    (State.dropAccess s l).now = s.now ∧ (State.dropAccess s l).free = s.free ∧ (State.dropAccess s l).pending = s.pending ∧ (State.dropAccess s l).out = s.out ∧ (State.dropAccess s l).regs = s.regs ∧ (State.dropAccess s l).evt = s.evt ∧ (State.dropAccess s l).flt = s.flt ∧ (State.dropAccess s l).obs = s.obs ∧ (State.dropAccess s l).host = s.host ∧ (State.dropAccess s l).amap = s.amap ∧ (State.dropAccess s l).mem = s.mem ∧ (State.dropAccess s l).home = s.home ∧ (State.dropAccess s l).ddr = s.ddr ∧ (State.dropAccess s l).tier = s.tier ∧ (State.dropAccess s l).dm = s.dm ∧ (State.dropAccess s l).dunas = s.dunas ∧ (State.dropAccess s l).brg = s.brg ∧ (State.dropAccess s l).hsc = s.hsc ∧ (State.dropAccess s l).boot = s.boot ∧ (State.dropAccess s l).core = s.core ∧ (State.dropAccess s l).mgmt = s.mgmt := by
  unfold State.dropAccess; simp

theorem State.dropForwarded_keeps (s : State) (l : List ℕ) :
    (State.dropForwarded s l).now = s.now ∧ (State.dropForwarded s l).free = s.free ∧ (State.dropForwarded s l).pending = s.pending ∧ (State.dropForwarded s l).out = s.out ∧ (State.dropForwarded s l).regs = s.regs ∧ (State.dropForwarded s l).ret = s.ret ∧ (State.dropForwarded s l).evt = s.evt ∧ (State.dropForwarded s l).flt = s.flt ∧ (State.dropForwarded s l).obs = s.obs ∧ (State.dropForwarded s l).host = s.host ∧ (State.dropForwarded s l).amap = s.amap ∧ (State.dropForwarded s l).mem = s.mem ∧ (State.dropForwarded s l).home = s.home ∧ (State.dropForwarded s l).ddr = s.ddr ∧ (State.dropForwarded s l).tier = s.tier ∧ (State.dropForwarded s l).dm = s.dm ∧ (State.dropForwarded s l).dunas = s.dunas ∧ (State.dropForwarded s l).clk = s.clk ∧ (State.dropForwarded s l).hsc = s.hsc ∧ (State.dropForwarded s l).boot = s.boot ∧ (State.dropForwarded s l).core = s.core ∧ (State.dropForwarded s l).mgmt = s.mgmt := by
  unfold State.dropForwarded; simp

theorem State.linkLost_keeps (s : State) (l : ℕ) (cause : ℕ) :
    (State.linkLost s l cause).now = s.now ∧ (State.linkLost s l cause).pending = s.pending ∧ (State.linkLost s l cause).hsc = s.hsc ∧ (State.linkLost s l cause).boot = s.boot ∧ (State.linkLost s l cause).core = s.core := by
  unfold State.linkLost; simp [State.traceRec_keeps _ _, State.dropForwarded_keeps _ _, State.dropAccess_keeps _ _, State.agentsGone_keeps _ _, State.onLink_keeps _ _ _, State.raiseLink_keeps _ _ _ _ _, State.onLd_keeps _ _ _, State.stopQueue_keeps _ _ _, State.unlockIfDown_keeps _ _]

theorem State.tagsFit_keeps (s : State) (l : ℕ) :
    (State.tagsFit s l).now = s.now ∧ (State.tagsFit s l).free = s.free ∧ (State.tagsFit s l).pending = s.pending ∧ (State.tagsFit s l).out = s.out ∧ (State.tagsFit s l).regs = s.regs ∧ (State.tagsFit s l).ret = s.ret ∧ (State.tagsFit s l).evt = s.evt ∧ (State.tagsFit s l).flt = s.flt ∧ (State.tagsFit s l).obs = s.obs ∧ (State.tagsFit s l).amap = s.amap ∧ (State.tagsFit s l).mem = s.mem ∧ (State.tagsFit s l).home = s.home ∧ (State.tagsFit s l).ddr = s.ddr ∧ (State.tagsFit s l).tier = s.tier ∧ (State.tagsFit s l).dm = s.dm ∧ (State.tagsFit s l).dunas = s.dunas ∧ (State.tagsFit s l).brg = s.brg ∧ (State.tagsFit s l).clk = s.clk ∧ (State.tagsFit s l).hsc = s.hsc ∧ (State.tagsFit s l).boot = s.boot ∧ (State.tagsFit s l).core = s.core ∧ (State.tagsFit s l).mgmt = s.mgmt := by
  unfold State.tagsFit; simp [State.onLd_keeps _ _ _]

theorem State.agentsBack_keeps (s : State) (l : List ℕ) :
    (State.agentsBack s l).now = s.now ∧ (State.agentsBack s l).free = s.free ∧ (State.agentsBack s l).pending = s.pending ∧ (State.agentsBack s l).out = s.out ∧ (State.agentsBack s l).regs = s.regs ∧ (State.agentsBack s l).ret = s.ret ∧ (State.agentsBack s l).evt = s.evt ∧ (State.agentsBack s l).flt = s.flt ∧ (State.agentsBack s l).obs = s.obs ∧ (State.agentsBack s l).host = s.host ∧ (State.agentsBack s l).amap = s.amap ∧ (State.agentsBack s l).mem = s.mem ∧ (State.agentsBack s l).ddr = s.ddr ∧ (State.agentsBack s l).tier = s.tier ∧ (State.agentsBack s l).dm = s.dm ∧ (State.agentsBack s l).dunas = s.dunas ∧ (State.agentsBack s l).brg = s.brg ∧ (State.agentsBack s l).clk = s.clk ∧ (State.agentsBack s l).hsc = s.hsc ∧ (State.agentsBack s l).boot = s.boot ∧ (State.agentsBack s l).core = s.core ∧ (State.agentsBack s l).mgmt = s.mgmt := by
  unfold State.agentsBack; simp

theorem State.negotiate_keeps (s : State) (l : ℕ) (o : PartnerOffer) :
    (State.negotiate s l o).now = s.now ∧ (State.negotiate s l o).free = s.free ∧ (State.negotiate s l o).pending = s.pending ∧ (State.negotiate s l o).regs = s.regs ∧ (State.negotiate s l o).flt = s.flt ∧ (State.negotiate s l o).amap = s.amap ∧ (State.negotiate s l o).mem = s.mem ∧ (State.negotiate s l o).ddr = s.ddr ∧ (State.negotiate s l o).tier = s.tier ∧ (State.negotiate s l o).dm = s.dm ∧ (State.negotiate s l o).brg = s.brg ∧ (State.negotiate s l o).clk = s.clk ∧ (State.negotiate s l o).hsc = s.hsc ∧ (State.negotiate s l o).boot = s.boot ∧ (State.negotiate s l o).core = s.core ∧ (State.negotiate s l o).mgmt = s.mgmt := by
  unfold State.negotiate; simp [State.onLink_keeps _ _ _, State.raiseLink_keeps _ _ _ _ _, State.agentsBack_keeps _ _]

theorem State.linkTrained_keeps (s : State) (l : ℕ) (o : PartnerOffer) :
    (State.linkTrained s l o).now = s.now ∧ (State.linkTrained s l o).free = s.free ∧ (State.linkTrained s l o).pending = s.pending ∧ (State.linkTrained s l o).regs = s.regs ∧ (State.linkTrained s l o).flt = s.flt ∧ (State.linkTrained s l o).amap = s.amap ∧ (State.linkTrained s l o).mem = s.mem ∧ (State.linkTrained s l o).ddr = s.ddr ∧ (State.linkTrained s l o).tier = s.tier ∧ (State.linkTrained s l o).dm = s.dm ∧ (State.linkTrained s l o).brg = s.brg ∧ (State.linkTrained s l o).clk = s.clk ∧ (State.linkTrained s l o).hsc = s.hsc ∧ (State.linkTrained s l o).boot = s.boot ∧ (State.linkTrained s l o).core = s.core ∧ (State.linkTrained s l o).mgmt = s.mgmt := by
  unfold State.linkTrained; simp [State.onLink_keeps _ _ _, State.raiseLink_keeps _ _ _ _ _, State.tagsFit_keeps _ _, State.negotiate_keeps _ _ _]

theorem State.sweepDone_keeps (s : State) (l : List ℕ) :
    (State.sweepDone s l).now = s.now ∧ (State.sweepDone s l).pending = s.pending ∧ (State.sweepDone s l).dm = s.dm ∧ (State.sweepDone s l).brg = s.brg ∧ (State.sweepDone s l).clk = s.clk ∧ (State.sweepDone s l).hsc = s.hsc ∧ (State.sweepDone s l).boot = s.boot ∧ (State.sweepDone s l).core = s.core := by
  unfold State.sweepDone; simp [State.sweepAgents_keeps _ _]

theorem State.linkSwept_keeps (s : State) (l : ℕ) :
    (State.linkSwept s l).now = s.now ∧ (State.linkSwept s l).pending = s.pending ∧ (State.linkSwept s l).dm = s.dm ∧ (State.linkSwept s l).brg = s.brg ∧ (State.linkSwept s l).clk = s.clk ∧ (State.linkSwept s l).hsc = s.hsc ∧ (State.linkSwept s l).boot = s.boot ∧ (State.linkSwept s l).core = s.core := by
  obtain ⟨P, hP⟩ : ∃ P : State → Prop, P = fun x => x.now = s.now ∧ x.pending = s.pending ∧ x.dm = s.dm ∧ x.brg = s.brg ∧ x.clk = s.clk ∧ x.hsc = s.hsc ∧ x.boot = s.boot ∧ x.core = s.core := ⟨_, rfl⟩
  suffices h : P (State.linkSwept s l) by rw [hP] at h; exact h
  unfold State.linkSwept; (try dsimp only); (repeat' split) <;> skip <;> subst hP <;> simp_all [State.onLink_keeps _ _ _, State.sweepDone_keeps _ _, State.negotiate_keeps _ _ _]

theorem State.clearMailbox_keeps (s : State) (n : ℕ) :
    (State.clearMailbox s n).now = s.now ∧ (State.clearMailbox s n).free = s.free ∧ (State.clearMailbox s n).pending = s.pending ∧ (State.clearMailbox s n).out = s.out ∧ (State.clearMailbox s n).regs = s.regs ∧ (State.clearMailbox s n).evt = s.evt ∧ (State.clearMailbox s n).flt = s.flt ∧ (State.clearMailbox s n).obs = s.obs ∧ (State.clearMailbox s n).host = s.host ∧ (State.clearMailbox s n).amap = s.amap ∧ (State.clearMailbox s n).mem = s.mem ∧ (State.clearMailbox s n).home = s.home ∧ (State.clearMailbox s n).ddr = s.ddr ∧ (State.clearMailbox s n).tier = s.tier ∧ (State.clearMailbox s n).dm = s.dm ∧ (State.clearMailbox s n).dunas = s.dunas ∧ (State.clearMailbox s n).hsc = s.hsc ∧ (State.clearMailbox s n).boot = s.boot ∧ (State.clearMailbox s n).core = s.core := by
  unfold State.clearMailbox; simp [State.dropAccess_keeps _ _]

theorem State.clearFunction_keeps (s : State) (n : ℕ) :
    (State.clearFunction s n).now = s.now ∧ (State.clearFunction s n).free = s.free ∧ (State.clearFunction s n).pending = s.pending ∧ (State.clearFunction s n).out = s.out ∧ (State.clearFunction s n).regs = s.regs ∧ (State.clearFunction s n).evt = s.evt ∧ (State.clearFunction s n).flt = s.flt ∧ (State.clearFunction s n).obs = s.obs ∧ (State.clearFunction s n).amap = s.amap ∧ (State.clearFunction s n).mem = s.mem ∧ (State.clearFunction s n).home = s.home ∧ (State.clearFunction s n).ddr = s.ddr ∧ (State.clearFunction s n).tier = s.tier ∧ (State.clearFunction s n).dm = s.dm ∧ (State.clearFunction s n).dunas = s.dunas ∧ (State.clearFunction s n).hsc = s.hsc ∧ (State.clearFunction s n).boot = s.boot ∧ (State.clearFunction s n).core = s.core := by
  unfold State.clearFunction; simp [State.onLd_keeps _ _ _, State.clearMailbox_keeps _ _]

theorem State.resetPort_keeps (s : State) (l : ℕ) :
    (State.resetPort s l).now = s.now ∧ (State.resetPort s l).pending = s.pending ∧ (State.resetPort s l).hsc = s.hsc ∧ (State.resetPort s l).boot = s.boot ∧ (State.resetPort s l).core = s.core := by
  unfold State.resetPort; simp [State.linkLost_keeps _ _ _, State.onLd_keeps _ _ _, State.clearFunction_keeps _ _, State.stopQueue_keeps _ _ _, State.onLink_keeps _ _ _]

theorem State.groupLost_keeps (s : State) (g : ℕ) :
    (State.groupLost s g).now = s.now ∧ (State.groupLost s g).pending = s.pending ∧ (State.groupLost s g).hsc = s.hsc ∧ (State.groupLost s g).boot = s.boot ∧ (State.groupLost s g).core = s.core := by
  unfold State.groupLost; simp [State.linkLost_keeps _ _ _]

theorem State.resetGroup_keeps (s : State) (g : ℕ) :
    (State.resetGroup s g).now = s.now ∧ (State.resetGroup s g).pending = s.pending ∧ (State.resetGroup s g).hsc = s.hsc ∧ (State.resetGroup s g).boot = s.boot ∧ (State.resetGroup s g).core = s.core := by
  unfold State.resetGroup; simp [State.resetPort_keeps _ _]

end Sys2Proof.Machine
end

