-- ==== Sys2Proof/Laws/TiersKeeps.lean ====
section
/-! SUPPORT. Which fields of the state the operations of Tiers leave as they are: a proof
over the operation `State.op` gives simp its lemma `State.op_keeps _ _`. -/

namespace Sys2Proof.Machine

theorem State.flushPageAtoms_keeps (s : State) (p : ℕ) :
    (State.flushPageAtoms s p).now = s.now ∧ (State.flushPageAtoms s p).pending = s.pending ∧ (State.flushPageAtoms s p).regs = s.regs ∧ (State.flushPageAtoms s p).dm = s.dm ∧ (State.flushPageAtoms s p).brg = s.brg ∧ (State.flushPageAtoms s p).clk = s.clk ∧ (State.flushPageAtoms s p).hsc = s.hsc ∧ (State.flushPageAtoms s p).boot = s.boot ∧ (State.flushPageAtoms s p).core = s.core ∧ (State.flushPageAtoms s p).mgmt = s.mgmt := by
  unfold State.flushPageAtoms; simp [State.flushAtom_keeps _ _]

theorem State.lockPage_keeps (s : State) (p : ℕ) (k : MigKind) (dset : ℕ) (dloc : ℕ) (byWrite : Bool) :
    (State.lockPage s p k dset dloc byWrite).now = s.now ∧ (State.lockPage s p k dset dloc byWrite).pending = s.pending ∧ (State.lockPage s p k dset dloc byWrite).regs = s.regs ∧ (State.lockPage s p k dset dloc byWrite).dm = s.dm ∧ (State.lockPage s p k dset dloc byWrite).brg = s.brg ∧ (State.lockPage s p k dset dloc byWrite).clk = s.clk ∧ (State.lockPage s p k dset dloc byWrite).hsc = s.hsc ∧ (State.lockPage s p k dset dloc byWrite).boot = s.boot ∧ (State.lockPage s p k dset dloc byWrite).core = s.core ∧ (State.lockPage s p k dset dloc byWrite).mgmt = s.mgmt := by
  unfold State.lockPage; simp [State.dropParcels_keeps _ _, State.flushPageAtoms_keeps _ _, State.setEntry_keeps _ _ _]

theorem State.unlockPage_keeps (s : State) (p : ℕ) (f : PageEntry → PageEntry) :
    (State.unlockPage s p f).now = s.now ∧ (State.unlockPage s p f).pending = s.pending ∧ (State.unlockPage s p f).dm = s.dm ∧ (State.unlockPage s p f).brg = s.brg ∧ (State.unlockPage s p f).clk = s.clk ∧ (State.unlockPage s p f).hsc = s.hsc ∧ (State.unlockPage s p f).boot = s.boot ∧ (State.unlockPage s p f).core = s.core := by
  unfold State.unlockPage; simp [State.setEntry_keeps _ _ _, State.nodeLost_keeps _ _ _ _, State.runPage_keeps _ _, State.leafLost_keeps _ _ _]

theorem State.fetchLeaf_keeps (s : State) (p : ℕ) :
    (State.fetchLeaf s p).1.now = s.now ∧ (State.fetchLeaf s p).1.pending = s.pending ∧ (State.fetchLeaf s p).1.regs = s.regs ∧ (State.fetchLeaf s p).1.home = s.home ∧ (State.fetchLeaf s p).1.dm = s.dm ∧ (State.fetchLeaf s p).1.brg = s.brg ∧ (State.fetchLeaf s p).1.clk = s.clk ∧ (State.fetchLeaf s p).1.hsc = s.hsc ∧ (State.fetchLeaf s p).1.boot = s.boot ∧ (State.fetchLeaf s p).1.core = s.core ∧ (State.fetchLeaf s p).1.mgmt = s.mgmt := by
  unfold State.fetchLeaf; simp [State.walk_keeps _ _ _ _]

theorem State.tierCount_keeps (s : State) (k : ℕ) :
    (State.tierCount s k).now = s.now ∧ (State.tierCount s k).free = s.free ∧ (State.tierCount s k).pending = s.pending ∧ (State.tierCount s k).out = s.out ∧ (State.tierCount s k).regs = s.regs ∧ (State.tierCount s k).ret = s.ret ∧ (State.tierCount s k).evt = s.evt ∧ (State.tierCount s k).flt = s.flt ∧ (State.tierCount s k).obs = s.obs ∧ (State.tierCount s k).host = s.host ∧ (State.tierCount s k).amap = s.amap ∧ (State.tierCount s k).mem = s.mem ∧ (State.tierCount s k).home = s.home ∧ (State.tierCount s k).ddr = s.ddr ∧ (State.tierCount s k).dm = s.dm ∧ (State.tierCount s k).dunas = s.dunas ∧ (State.tierCount s k).brg = s.brg ∧ (State.tierCount s k).clk = s.clk ∧ (State.tierCount s k).hsc = s.hsc ∧ (State.tierCount s k).boot = s.boot ∧ (State.tierCount s k).core = s.core ∧ (State.tierCount s k).mgmt = s.mgmt := by
  unfold State.tierCount; simp

theorem State.abandon_keeps (s : State) (p : ℕ) :
    (State.abandon s p).now = s.now ∧ (State.abandon s p).pending = s.pending ∧ (State.abandon s p).dm = s.dm ∧ (State.abandon s p).brg = s.brg ∧ (State.abandon s p).clk = s.clk ∧ (State.abandon s p).hsc = s.hsc ∧ (State.abandon s p).boot = s.boot ∧ (State.abandon s p).core = s.core := by
  unfold State.abandon; (repeat' split) <;> simp [State.unlockPage_keeps _ _ _, State.dropDest_keeps _ _ _, State.tierCount_keeps _ _]

theorem State.migPoisoned_keeps (s : State) (p : ℕ) (m : Migration) :
    (State.migPoisoned s p m).now = s.now ∧ (State.migPoisoned s p m).pending = s.pending ∧ (State.migPoisoned s p m).dm = s.dm ∧ (State.migPoisoned s p m).brg = s.brg ∧ (State.migPoisoned s p m).clk = s.clk ∧ (State.migPoisoned s p m).hsc = s.hsc ∧ (State.migPoisoned s p m).boot = s.boot ∧ (State.migPoisoned s p m).core = s.core := by
  unfold State.migPoisoned; simp [State.giveBack_keeps _ _ _, State.dropDest_keeps _ _ _, State.unlockPage_keeps _ _ _]

theorem State.visit_keeps (s : State) (p : ℕ) :
    (State.visit s p).now = s.now ∧ (State.visit s p).pending = s.pending ∧ (State.visit s p).regs = s.regs ∧ (State.visit s p).home = s.home ∧ (State.visit s p).dm = s.dm ∧ (State.visit s p).brg = s.brg ∧ (State.visit s p).clk = s.clk ∧ (State.visit s p).hsc = s.hsc ∧ (State.visit s p).boot = s.boot ∧ (State.visit s p).core = s.core ∧ (State.visit s p).mgmt = s.mgmt := by
  unfold State.visit; simp [State.setEntry_keeps _ _ _]

theorem State.sweepBegin_keeps (s : State) :
    (State.sweepBegin s).free = s.free ∧ (State.sweepBegin s).pending = s.pending ∧ (State.sweepBegin s).out = s.out ∧ (State.sweepBegin s).regs = s.regs ∧ (State.sweepBegin s).ret = s.ret ∧ (State.sweepBegin s).evt = s.evt ∧ (State.sweepBegin s).flt = s.flt ∧ (State.sweepBegin s).host = s.host ∧ (State.sweepBegin s).amap = s.amap ∧ (State.sweepBegin s).mem = s.mem ∧ (State.sweepBegin s).home = s.home ∧ (State.sweepBegin s).ddr = s.ddr ∧ (State.sweepBegin s).dm = s.dm ∧ (State.sweepBegin s).dunas = s.dunas ∧ (State.sweepBegin s).brg = s.brg ∧ (State.sweepBegin s).clk = s.clk ∧ (State.sweepBegin s).hsc = s.hsc ∧ (State.sweepBegin s).boot = s.boot ∧ (State.sweepBegin s).core = s.core ∧ (State.sweepBegin s).mgmt = s.mgmt := by
  unfold State.sweepBegin; (repeat' split) <;> simp [State.reach_keeps _ _]

theorem State.untrigger_keeps (s : State) (p : ℕ) :
    (State.untrigger s p).now = s.now ∧ (State.untrigger s p).free = s.free ∧ (State.untrigger s p).pending = s.pending ∧ (State.untrigger s p).out = s.out ∧ (State.untrigger s p).regs = s.regs ∧ (State.untrigger s p).ret = s.ret ∧ (State.untrigger s p).evt = s.evt ∧ (State.untrigger s p).flt = s.flt ∧ (State.untrigger s p).obs = s.obs ∧ (State.untrigger s p).host = s.host ∧ (State.untrigger s p).amap = s.amap ∧ (State.untrigger s p).mem = s.mem ∧ (State.untrigger s p).home = s.home ∧ (State.untrigger s p).ddr = s.ddr ∧ (State.untrigger s p).dm = s.dm ∧ (State.untrigger s p).dunas = s.dunas ∧ (State.untrigger s p).brg = s.brg ∧ (State.untrigger s p).clk = s.clk ∧ (State.untrigger s p).hsc = s.hsc ∧ (State.untrigger s p).boot = s.boot ∧ (State.untrigger s p).core = s.core ∧ (State.untrigger s p).mgmt = s.mgmt := by
  unfold State.untrigger; simp

theorem State.endWrites_keeps (s : State) (p : ℕ) :
    (State.endWrites s p).now = s.now ∧ (State.endWrites s p).free = s.free ∧ (State.endWrites s p).pending = s.pending ∧ (State.endWrites s p).out = s.out ∧ (State.endWrites s p).regs = s.regs ∧ (State.endWrites s p).ret = s.ret ∧ (State.endWrites s p).evt = s.evt ∧ (State.endWrites s p).flt = s.flt ∧ (State.endWrites s p).obs = s.obs ∧ (State.endWrites s p).host = s.host ∧ (State.endWrites s p).amap = s.amap ∧ (State.endWrites s p).mem = s.mem ∧ (State.endWrites s p).ddr = s.ddr ∧ (State.endWrites s p).tier = s.tier ∧ (State.endWrites s p).dm = s.dm ∧ (State.endWrites s p).dunas = s.dunas ∧ (State.endWrites s p).brg = s.brg ∧ (State.endWrites s p).clk = s.clk ∧ (State.endWrites s p).hsc = s.hsc ∧ (State.endWrites s p).boot = s.boot ∧ (State.endWrites s p).core = s.core ∧ (State.endWrites s p).mgmt = s.mgmt := by
  unfold State.endWrites; simp

theorem State.noFrame_keeps (s : State) (p : ℕ) (byWrite : Bool) :
    (State.noFrame s p byWrite).now = s.now ∧ (State.noFrame s p byWrite).pending = s.pending ∧ (State.noFrame s p byWrite).dm = s.dm ∧ (State.noFrame s p byWrite).brg = s.brg ∧ (State.noFrame s p byWrite).clk = s.clk ∧ (State.noFrame s p byWrite).hsc = s.hsc ∧ (State.noFrame s p byWrite).boot = s.boot ∧ (State.noFrame s p byWrite).core = s.core := by
  unfold State.noFrame; simp [State.untrigger_keeps _ _, State.runPage_keeps _ _, State.endWrites_keeps _ _, State.exhausted_keeps _ _, State.setEntry_keeps _ _ _, State.poisonPage_keeps _ _ _, State.tierCount_keeps _ _]

theorem State.readPage_keeps (s : State) (p : ℕ) (e : PageEntry) :
    (State.readPage s p e).1.now = s.now ∧ (State.readPage s p e).1.pending = s.pending ∧ (State.readPage s p e).1.regs = s.regs ∧ (State.readPage s p e).1.amap = s.amap ∧ (State.readPage s p e).1.home = s.home ∧ (State.readPage s p e).1.tier = s.tier ∧ (State.readPage s p e).1.dm = s.dm ∧ (State.readPage s p e).1.brg = s.brg ∧ (State.readPage s p e).1.clk = s.clk ∧ (State.readPage s p e).1.hsc = s.hsc ∧ (State.readPage s p e).1.boot = s.boot ∧ (State.readPage s p e).1.core = s.core ∧ (State.readPage s p e).1.mgmt = s.mgmt := by
  unfold State.readPage; (try dsimp only); (try unfold State.each)
  refine foldl_holds (P := fun (x : State × _) => x.1.now = s.now ∧ x.1.pending = s.pending ∧ x.1.regs = s.regs ∧ x.1.amap = s.amap ∧ x.1.home = s.home ∧ x.1.tier = s.tier ∧ x.1.dm = s.dm ∧ x.1.brg = s.brg ∧ x.1.clk = s.clk ∧ x.1.hsc = s.hsc ∧ x.1.boot = s.boot ∧ x.1.core = s.core ∧ x.1.mgmt = s.mgmt) ?_ ?_
  · simp [State.readParcel_keeps _ _ _ _]
  · intro b x h; (try dsimp only); (repeat' split) <;> simp_all [State.readParcel_keeps _ _ _ _]

theorem State.promoted_keeps (s : State) (p : ℕ) (m : Migration) (d : List Byte) :
    (State.promoted s p m d).now = s.now ∧ (State.promoted s p m d).pending = s.pending ∧ (State.promoted s p m d).dm = s.dm ∧ (State.promoted s p m d).brg = s.brg ∧ (State.promoted s p m d).clk = s.clk ∧ (State.promoted s p m d).hsc = s.hsc ∧ (State.promoted s p m d).boot = s.boot ∧ (State.promoted s p m d).core = s.core := by
  unfold State.promoted; simp [State.nextMajor_keeps _ _, State.putMedia_keeps _ _ _ _, State.tierCount_keeps _ _, State.giveBack_keeps _ _ _, State.unlockPage_keeps _ _ _]

theorem State.dropDemotions_keeps (s : State) (f : ℕ → Bool) :
    (State.dropDemotions s f).now = s.now ∧ (State.dropDemotions s f).free = s.free ∧ (State.dropDemotions s f).pending = s.pending ∧ (State.dropDemotions s f).out = s.out ∧ (State.dropDemotions s f).regs = s.regs ∧ (State.dropDemotions s f).ret = s.ret ∧ (State.dropDemotions s f).evt = s.evt ∧ (State.dropDemotions s f).flt = s.flt ∧ (State.dropDemotions s f).obs = s.obs ∧ (State.dropDemotions s f).host = s.host ∧ (State.dropDemotions s f).amap = s.amap ∧ (State.dropDemotions s f).mem = s.mem ∧ (State.dropDemotions s f).home = s.home ∧ (State.dropDemotions s f).ddr = s.ddr ∧ (State.dropDemotions s f).dm = s.dm ∧ (State.dropDemotions s f).dunas = s.dunas ∧ (State.dropDemotions s f).brg = s.brg ∧ (State.dropDemotions s f).clk = s.clk ∧ (State.dropDemotions s f).hsc = s.hsc ∧ (State.dropDemotions s f).boot = s.boot ∧ (State.dropDemotions s f).core = s.core ∧ (State.dropDemotions s f).mgmt = s.mgmt := by
  unfold State.dropDemotions; simp

theorem State.withinRate_keeps (s : State) :
    (State.withinRate s).free = s.free ∧ (State.withinRate s).pending = s.pending ∧ (State.withinRate s).out = s.out ∧ (State.withinRate s).regs = s.regs ∧ (State.withinRate s).ret = s.ret ∧ (State.withinRate s).evt = s.evt ∧ (State.withinRate s).flt = s.flt ∧ (State.withinRate s).host = s.host ∧ (State.withinRate s).amap = s.amap ∧ (State.withinRate s).mem = s.mem ∧ (State.withinRate s).home = s.home ∧ (State.withinRate s).ddr = s.ddr ∧ (State.withinRate s).dm = s.dm ∧ (State.withinRate s).dunas = s.dunas ∧ (State.withinRate s).brg = s.brg ∧ (State.withinRate s).clk = s.clk ∧ (State.withinRate s).hsc = s.hsc ∧ (State.withinRate s).boot = s.boot ∧ (State.withinRate s).core = s.core ∧ (State.withinRate s).mgmt = s.mgmt := by
  unfold State.withinRate; simp [State.reach_keeps _ _]

theorem State.readFrame_keeps (s : State) (p : ℕ) (e : PageEntry) :
    (State.readFrame s p e).1.now = s.now ∧ (State.readFrame s p e).1.pending = s.pending ∧ (State.readFrame s p e).1.regs = s.regs ∧ (State.readFrame s p e).1.amap = s.amap ∧ (State.readFrame s p e).1.home = s.home ∧ (State.readFrame s p e).1.tier = s.tier ∧ (State.readFrame s p e).1.dm = s.dm ∧ (State.readFrame s p e).1.brg = s.brg ∧ (State.readFrame s p e).1.clk = s.clk ∧ (State.readFrame s p e).1.hsc = s.hsc ∧ (State.readFrame s p e).1.boot = s.boot ∧ (State.readFrame s p e).1.core = s.core ∧ (State.readFrame s p e).1.mgmt = s.mgmt := by
  unfold State.readFrame; (try dsimp only); (try unfold State.each)
  refine foldl_holds (P := fun (x : State × _) => x.1.now = s.now ∧ x.1.pending = s.pending ∧ x.1.regs = s.regs ∧ x.1.amap = s.amap ∧ x.1.home = s.home ∧ x.1.tier = s.tier ∧ x.1.dm = s.dm ∧ x.1.brg = s.brg ∧ x.1.clk = s.clk ∧ x.1.hsc = s.hsc ∧ x.1.boot = s.boot ∧ x.1.core = s.core ∧ x.1.mgmt = s.mgmt) ?_ ?_
  · simp [State.readNear_keeps _ _ _ _ _]
  · intro b x h; (try dsimp only); (repeat' split) <;> simp_all [State.readNear_keeps _ _ _ _ _]

theorem State.demotionOff_keeps (s : State) (p : ℕ) (cnt : Option ℕ) :
    (State.demotionOff s p cnt).now = s.now ∧ (State.demotionOff s p cnt).pending = s.pending ∧ (State.demotionOff s p cnt).dm = s.dm ∧ (State.demotionOff s p cnt).brg = s.brg ∧ (State.demotionOff s p cnt).clk = s.clk ∧ (State.demotionOff s p cnt).hsc = s.hsc ∧ (State.demotionOff s p cnt).boot = s.boot ∧ (State.demotionOff s p cnt).core = s.core := by
  unfold State.demotionOff; (repeat' split) <;> simp [State.tierCount_keeps _ _, State.abandon_keeps _ _]

theorem State.writeBin_keeps (s : State) (p : ℕ) (i : ℕ) (loc : ℕ) (cls : ℕ) (major : ℕ) (d : List Byte) :
    (State.writeBin s p i loc cls major d).now = s.now ∧ (State.writeBin s p i loc cls major d).pending = s.pending ∧ (State.writeBin s p i loc cls major d).out = s.out ∧ (State.writeBin s p i loc cls major d).regs = s.regs ∧ (State.writeBin s p i loc cls major d).ret = s.ret ∧ (State.writeBin s p i loc cls major d).evt = s.evt ∧ (State.writeBin s p i loc cls major d).flt = s.flt ∧ (State.writeBin s p i loc cls major d).host = s.host ∧ (State.writeBin s p i loc cls major d).amap = s.amap ∧ (State.writeBin s p i loc cls major d).home = s.home ∧ (State.writeBin s p i loc cls major d).tier = s.tier ∧ (State.writeBin s p i loc cls major d).dm = s.dm ∧ (State.writeBin s p i loc cls major d).dunas = s.dunas ∧ (State.writeBin s p i loc cls major d).brg = s.brg ∧ (State.writeBin s p i loc cls major d).clk = s.clk ∧ (State.writeBin s p i loc cls major d).hsc = s.hsc ∧ (State.writeBin s p i loc cls major d).boot = s.boot ∧ (State.writeBin s p i loc cls major d).core = s.core ∧ (State.writeBin s p i loc cls major d).mgmt = s.mgmt := by
  unfold State.writeBin; simp [State.putMedia_keeps _ _ _ _]

theorem State.dropJob_keeps (s : State) (k : ℕ) :
    (State.dropJob s k).now = s.now ∧ (State.dropJob s k).free = s.free ∧ (State.dropJob s k).pending = s.pending ∧ (State.dropJob s k).out = s.out ∧ (State.dropJob s k).regs = s.regs ∧ (State.dropJob s k).ret = s.ret ∧ (State.dropJob s k).evt = s.evt ∧ (State.dropJob s k).flt = s.flt ∧ (State.dropJob s k).obs = s.obs ∧ (State.dropJob s k).host = s.host ∧ (State.dropJob s k).amap = s.amap ∧ (State.dropJob s k).mem = s.mem ∧ (State.dropJob s k).ddr = s.ddr ∧ (State.dropJob s k).tier = s.tier ∧ (State.dropJob s k).dm = s.dm ∧ (State.dropJob s k).dunas = s.dunas ∧ (State.dropJob s k).brg = s.brg ∧ (State.dropJob s k).clk = s.clk ∧ (State.dropJob s k).hsc = s.hsc ∧ (State.dropJob s k).boot = s.boot ∧ (State.dropJob s k).core = s.core ∧ (State.dropJob s k).mgmt = s.mgmt := by
  unfold State.dropJob; simp

theorem State.engineStop_keeps (s : State) (k : ℕ) :
    (State.engineStop s k).now = s.now ∧ (State.engineStop s k).free = s.free ∧ (State.engineStop s k).pending = s.pending ∧ (State.engineStop s k).regs = s.regs ∧ (State.engineStop s k).flt = s.flt ∧ (State.engineStop s k).amap = s.amap ∧ (State.engineStop s k).mem = s.mem ∧ (State.engineStop s k).ddr = s.ddr ∧ (State.engineStop s k).dm = s.dm ∧ (State.engineStop s k).brg = s.brg ∧ (State.engineStop s k).clk = s.clk ∧ (State.engineStop s k).hsc = s.hsc ∧ (State.engineStop s k).boot = s.boot ∧ (State.engineStop s k).core = s.core ∧ (State.engineStop s k).mgmt = s.mgmt := by
  unfold State.engineStop; simp [State.onEng_keeps _ _ _, State.dropJob_keeps _ _, State.raiseEng_keeps _ _ _ _ _]

theorem State.engineOut_keeps (s : State) (k : ℕ) :
    (State.engineOut s k).now = s.now ∧ (State.engineOut s k).free = s.free ∧ (State.engineOut s k).pending = s.pending ∧ (State.engineOut s k).regs = s.regs ∧ (State.engineOut s k).amap = s.amap ∧ (State.engineOut s k).mem = s.mem ∧ (State.engineOut s k).ddr = s.ddr ∧ (State.engineOut s k).dm = s.dm ∧ (State.engineOut s k).brg = s.brg ∧ (State.engineOut s k).clk = s.clk ∧ (State.engineOut s k).hsc = s.hsc ∧ (State.engineOut s k).boot = s.boot ∧ (State.engineOut s k).core = s.core ∧ (State.engineOut s k).mgmt = s.mgmt := by
  unfold State.engineOut; simp [State.fileP_keeps _ _ _ _, State.engineStop_keeps _ _]

theorem State.verifyFail_keeps (s : State) (k : ℕ) (page : ℕ) :
    (State.verifyFail s k page).now = s.now ∧ (State.verifyFail s k page).free = s.free ∧ (State.verifyFail s k page).pending = s.pending ∧ (State.verifyFail s k page).regs = s.regs ∧ (State.verifyFail s k page).amap = s.amap ∧ (State.verifyFail s k page).mem = s.mem ∧ (State.verifyFail s k page).ddr = s.ddr ∧ (State.verifyFail s k page).dm = s.dm ∧ (State.verifyFail s k page).brg = s.brg ∧ (State.verifyFail s k page).clk = s.clk ∧ (State.verifyFail s k page).hsc = s.hsc ∧ (State.verifyFail s k page).boot = s.boot ∧ (State.verifyFail s k page).core = s.core ∧ (State.verifyFail s k page).mgmt = s.mgmt := by
  unfold State.verifyFail; simp [State.engineOut_keeps _ _, State.onEng_keeps _ _ _, State.raiseEng_keeps _ _ _ _ _]

theorem State.compressed_keeps (s : State) (k : ℕ) (pages : ℕ) :
    (State.compressed s k pages).now = s.now ∧ (State.compressed s k pages).free = s.free ∧ (State.compressed s k pages).pending = s.pending ∧ (State.compressed s k pages).out = s.out ∧ (State.compressed s k pages).regs = s.regs ∧ (State.compressed s k pages).ret = s.ret ∧ (State.compressed s k pages).evt = s.evt ∧ (State.compressed s k pages).flt = s.flt ∧ (State.compressed s k pages).obs = s.obs ∧ (State.compressed s k pages).host = s.host ∧ (State.compressed s k pages).amap = s.amap ∧ (State.compressed s k pages).mem = s.mem ∧ (State.compressed s k pages).home = s.home ∧ (State.compressed s k pages).ddr = s.ddr ∧ (State.compressed s k pages).dm = s.dm ∧ (State.compressed s k pages).dunas = s.dunas ∧ (State.compressed s k pages).brg = s.brg ∧ (State.compressed s k pages).clk = s.clk ∧ (State.compressed s k pages).hsc = s.hsc ∧ (State.compressed s k pages).boot = s.boot ∧ (State.compressed s k pages).core = s.core ∧ (State.compressed s k pages).mgmt = s.mgmt := by
  unfold State.compressed; simp [State.onEng_keeps _ _ _]

theorem State.noBin_keeps (s : State) :
    (State.noBin s).now = s.now ∧ (State.noBin s).free = s.free ∧ (State.noBin s).pending = s.pending ∧ (State.noBin s).regs = s.regs ∧ (State.noBin s).flt = s.flt ∧ (State.noBin s).amap = s.amap ∧ (State.noBin s).mem = s.mem ∧ (State.noBin s).home = s.home ∧ (State.noBin s).ddr = s.ddr ∧ (State.noBin s).dm = s.dm ∧ (State.noBin s).brg = s.brg ∧ (State.noBin s).clk = s.clk ∧ (State.noBin s).hsc = s.hsc ∧ (State.noBin s).boot = s.boot ∧ (State.noBin s).core = s.core ∧ (State.noBin s).mgmt = s.mgmt := by
  unfold State.noBin; simp [State.raiseAt_keeps _ _ _ _]

theorem State.demoteWith_keeps (s : State) (p : ℕ) (k : ℕ) (m : Migration) (d : List Byte) (mismatch : Bool) :
    (State.demoteWith s p k m d mismatch).now = s.now ∧ (State.demoteWith s p k m d mismatch).pending = s.pending ∧ (State.demoteWith s p k m d mismatch).dm = s.dm ∧ (State.demoteWith s p k m d mismatch).brg = s.brg ∧ (State.demoteWith s p k m d mismatch).clk = s.clk ∧ (State.demoteWith s p k m d mismatch).hsc = s.hsc ∧ (State.demoteWith s p k m d mismatch).boot = s.boot ∧ (State.demoteWith s p k m d mismatch).core = s.core := by
  obtain ⟨P, hP⟩ : ∃ P : State → Prop, P = fun x => x.now = s.now ∧ x.pending = s.pending ∧ x.dm = s.dm ∧ x.brg = s.brg ∧ x.clk = s.clk ∧ x.hsc = s.hsc ∧ x.boot = s.boot ∧ x.core = s.core := ⟨_, rfl⟩
  suffices h : P (State.demoteWith s p k m d mismatch) by rw [hP] at h; exact h
  unfold State.demoteWith; (try dsimp only); (repeat' split) <;> (try have := State.takeBin_keeps _ _ _ _ _ ‹State.takeBin _ _ _ _ _ = some _›) <;> subst hP <;> simp_all [State.tierCount_keeps _ _, State.giveBack_keeps _ _ _, State.demotionOff_keeps _ _ _, State.unlockPage_keeps _ _ _, State.nextMajor_keeps _ _, State.engineUsed_keeps _ _, State.count_keeps _ _ _ _, State.compressed_keeps _ _ _, State.verifyFail_keeps _ _ _, State.noBin_keeps _, State.writeBin_keeps _ _ _ _ _ _ _, State.giveBin_keeps _ _ _ _ _]

theorem State.promoteDomain_keeps (s : State) (d : ℕ) :
    (State.promoteDomain s d).now = s.now ∧ (State.promoteDomain s d).free = s.free ∧ (State.promoteDomain s d).pending = s.pending ∧ (State.promoteDomain s d).out = s.out ∧ (State.promoteDomain s d).regs = s.regs ∧ (State.promoteDomain s d).ret = s.ret ∧ (State.promoteDomain s d).evt = s.evt ∧ (State.promoteDomain s d).flt = s.flt ∧ (State.promoteDomain s d).obs = s.obs ∧ (State.promoteDomain s d).host = s.host ∧ (State.promoteDomain s d).amap = s.amap ∧ (State.promoteDomain s d).mem = s.mem ∧ (State.promoteDomain s d).home = s.home ∧ (State.promoteDomain s d).ddr = s.ddr ∧ (State.promoteDomain s d).dm = s.dm ∧ (State.promoteDomain s d).dunas = s.dunas ∧ (State.promoteDomain s d).brg = s.brg ∧ (State.promoteDomain s d).clk = s.clk ∧ (State.promoteDomain s d).hsc = s.hsc ∧ (State.promoteDomain s d).boot = s.boot ∧ (State.promoteDomain s d).core = s.core ∧ (State.promoteDomain s d).mgmt = s.mgmt := by
  unfold State.promoteDomain; simp [State.dropDemotions_keeps _ _, State.trigger_keeps _ _ _]

theorem State.cancelDomain_keeps (s : State) :
    (State.cancelDomain s).now = s.now ∧ (State.cancelDomain s).free = s.free ∧ (State.cancelDomain s).pending = s.pending ∧ (State.cancelDomain s).regs = s.regs ∧ (State.cancelDomain s).flt = s.flt ∧ (State.cancelDomain s).amap = s.amap ∧ (State.cancelDomain s).mem = s.mem ∧ (State.cancelDomain s).home = s.home ∧ (State.cancelDomain s).ddr = s.ddr ∧ (State.cancelDomain s).dm = s.dm ∧ (State.cancelDomain s).brg = s.brg ∧ (State.cancelDomain s).clk = s.clk ∧ (State.cancelDomain s).hsc = s.hsc ∧ (State.cancelDomain s).boot = s.boot ∧ (State.cancelDomain s).core = s.core ∧ (State.cancelDomain s).mgmt = s.mgmt := by
  unfold State.cancelDomain; (repeat' split) <;> simp [State.raiseAt_keeps _ _ _ _]

theorem State.jobDone_keeps (s : State) (k : ℕ) (status : ℕ) :
    (State.jobDone s k status).now = s.now ∧ (State.jobDone s k status).free = s.free ∧ (State.jobDone s k status).pending = s.pending ∧ (State.jobDone s k status).regs = s.regs ∧ (State.jobDone s k status).flt = s.flt ∧ (State.jobDone s k status).amap = s.amap ∧ (State.jobDone s k status).mem = s.mem ∧ (State.jobDone s k status).ddr = s.ddr ∧ (State.jobDone s k status).dm = s.dm ∧ (State.jobDone s k status).brg = s.brg ∧ (State.jobDone s k status).hsc = s.hsc ∧ (State.jobDone s k status).boot = s.boot ∧ (State.jobDone s k status).core = s.core ∧ (State.jobDone s k status).mgmt = s.mgmt := by
  unfold State.jobDone; simp [State.dropJob_keeps _ _, State.used_keeps _ _, State.raiseEng_keeps _ _ _ _ _, State.onEng_keeps _ _ _]

theorem State.startJob_keeps (s : State) (k : ℕ) (op : ℕ) (resume : Bool) :
    (State.startJob s k op resume).now = s.now ∧ (State.startJob s k op resume).free = s.free ∧ (State.startJob s k op resume).pending = s.pending ∧ (State.startJob s k op resume).flt = s.flt ∧ (State.startJob s k op resume).amap = s.amap ∧ (State.startJob s k op resume).mem = s.mem ∧ (State.startJob s k op resume).ddr = s.ddr ∧ (State.startJob s k op resume).dm = s.dm ∧ (State.startJob s k op resume).brg = s.brg ∧ (State.startJob s k op resume).hsc = s.hsc ∧ (State.startJob s k op resume).boot = s.boot ∧ (State.startJob s k op resume).core = s.core ∧ (State.startJob s k op resume).mgmt = s.mgmt := by
  unfold State.startJob; simp [State.onEng_keeps _ _ _, State.dropJob_keeps _ _, State.setReg_keeps _ _ _ _, State.jobDone_keeps _ _ _]

theorem State.cancelJob_keeps (s : State) (k : ℕ) :
    (State.cancelJob s k).now = s.now ∧ (State.cancelJob s k).free = s.free ∧ (State.cancelJob s k).pending = s.pending ∧ (State.cancelJob s k).out = s.out ∧ (State.cancelJob s k).regs = s.regs ∧ (State.cancelJob s k).ret = s.ret ∧ (State.cancelJob s k).evt = s.evt ∧ (State.cancelJob s k).flt = s.flt ∧ (State.cancelJob s k).obs = s.obs ∧ (State.cancelJob s k).host = s.host ∧ (State.cancelJob s k).amap = s.amap ∧ (State.cancelJob s k).mem = s.mem ∧ (State.cancelJob s k).home = s.home ∧ (State.cancelJob s k).ddr = s.ddr ∧ (State.cancelJob s k).dm = s.dm ∧ (State.cancelJob s k).dunas = s.dunas ∧ (State.cancelJob s k).brg = s.brg ∧ (State.cancelJob s k).clk = s.clk ∧ (State.cancelJob s k).hsc = s.hsc ∧ (State.cancelJob s k).boot = s.boot ∧ (State.cancelJob s k).core = s.core ∧ (State.cancelJob s k).mgmt = s.mgmt := by
  unfold State.cancelJob; simp [State.onEng_keeps _ _ _]

theorem State.jobPut_keeps (s : State) (k : ℕ) (a : ℕ) (d : List Byte) :
    (State.jobPut s k a d).now = s.now ∧ (State.jobPut s k a d).pending = s.pending ∧ (State.jobPut s k a d).dm = s.dm ∧ (State.jobPut s k a d).brg = s.brg ∧ (State.jobPut s k a d).clk = s.clk ∧ (State.jobPut s k a d).hsc = s.hsc ∧ (State.jobPut s k a d).boot = s.boot ∧ (State.jobPut s k a d).core = s.core := by
  unfold State.jobPut; simp [State.enlist_keeps _ _ _ _ _ _ _]

theorem State.jobTook_keeps (s : State) (k : ℕ) (cons : ℕ) (prod : ℕ) (orig : List Byte) :
    (State.jobTook s k cons prod orig).now = s.now ∧ (State.jobTook s k cons prod orig).free = s.free ∧ (State.jobTook s k cons prod orig).pending = s.pending ∧ (State.jobTook s k cons prod orig).out = s.out ∧ (State.jobTook s k cons prod orig).ret = s.ret ∧ (State.jobTook s k cons prod orig).evt = s.evt ∧ (State.jobTook s k cons prod orig).flt = s.flt ∧ (State.jobTook s k cons prod orig).obs = s.obs ∧ (State.jobTook s k cons prod orig).host = s.host ∧ (State.jobTook s k cons prod orig).amap = s.amap ∧ (State.jobTook s k cons prod orig).mem = s.mem ∧ (State.jobTook s k cons prod orig).home = s.home ∧ (State.jobTook s k cons prod orig).ddr = s.ddr ∧ (State.jobTook s k cons prod orig).dm = s.dm ∧ (State.jobTook s k cons prod orig).dunas = s.dunas ∧ (State.jobTook s k cons prod orig).brg = s.brg ∧ (State.jobTook s k cons prod orig).clk = s.clk ∧ (State.jobTook s k cons prod orig).hsc = s.hsc ∧ (State.jobTook s k cons prod orig).boot = s.boot ∧ (State.jobTook s k cons prod orig).core = s.core ∧ (State.jobTook s k cons prod orig).mgmt = s.mgmt := by
  unfold State.jobTook; simp [State.setReg_keeps _ _ _ _, State.onEng_keeps _ _ _]

theorem State.runJob_keeps (s : State) (k : ℕ) (op : ℕ) (d : List Byte) (cut : Bool) (mismatch : Bool) :
    (State.runJob s k op d cut mismatch).now = s.now ∧ (State.runJob s k op d cut mismatch).pending = s.pending ∧ (State.runJob s k op d cut mismatch).dm = s.dm ∧ (State.runJob s k op d cut mismatch).brg = s.brg ∧ (State.runJob s k op d cut mismatch).hsc = s.hsc ∧ (State.runJob s k op d cut mismatch).boot = s.boot ∧ (State.runJob s k op d cut mismatch).core = s.core := by
  unfold State.runJob; simp [State.compressed_keeps _ _ _, State.verifyFail_keeps _ _ _, State.jobDone_keeps _ _ _, State.jobPut_keeps _ _ _ _, State.count_keeps _ _ _ _, State.jobTook_keeps _ _ _ _ _]

end Sys2Proof.Machine
end

