-- ==== Sys2Proof/Laws/ChannelsKeeps.lean ====
section
/-! SUPPORT. Which fields of the state the operations of Channels leave as they are: a proof
over the operation `State.op` gives simp its lemma `State.op_keeps _ _`. -/

namespace Sys2Proof.Machine

theorem State.dimmRefused_keeps (s : State) (c : ℕ) (cause : ℕ) (slot : ℕ) :
    (State.dimmRefused s c cause slot).now = s.now ∧ (State.dimmRefused s c cause slot).free = s.free ∧ (State.dimmRefused s c cause slot).pending = s.pending ∧ (State.dimmRefused s c cause slot).regs = s.regs ∧ (State.dimmRefused s c cause slot).flt = s.flt ∧ (State.dimmRefused s c cause slot).amap = s.amap ∧ (State.dimmRefused s c cause slot).mem = s.mem ∧ (State.dimmRefused s c cause slot).home = s.home ∧ (State.dimmRefused s c cause slot).ddr = s.ddr ∧ (State.dimmRefused s c cause slot).tier = s.tier ∧ (State.dimmRefused s c cause slot).dm = s.dm ∧ (State.dimmRefused s c cause slot).brg = s.brg ∧ (State.dimmRefused s c cause slot).clk = s.clk ∧ (State.dimmRefused s c cause slot).hsc = s.hsc ∧ (State.dimmRefused s c cause slot).boot = s.boot ∧ (State.dimmRefused s c cause slot).core = s.core ∧ (State.dimmRefused s c cause slot).mgmt = s.mgmt := by
  unfold State.dimmRefused; simp [State.raise_keeps _ _]

theorem State.disableChan_keeps (s : State) (c : ℕ) (cause : ℕ) (slot : ℕ) :
    (State.disableChan s c cause slot).now = s.now ∧ (State.disableChan s c cause slot).free = s.free ∧ (State.disableChan s c cause slot).pending = s.pending ∧ (State.disableChan s c cause slot).regs = s.regs ∧ (State.disableChan s c cause slot).flt = s.flt ∧ (State.disableChan s c cause slot).amap = s.amap ∧ (State.disableChan s c cause slot).mem = s.mem ∧ (State.disableChan s c cause slot).home = s.home ∧ (State.disableChan s c cause slot).tier = s.tier ∧ (State.disableChan s c cause slot).dm = s.dm ∧ (State.disableChan s c cause slot).brg = s.brg ∧ (State.disableChan s c cause slot).clk = s.clk ∧ (State.disableChan s c cause slot).hsc = s.hsc ∧ (State.disableChan s c cause slot).boot = s.boot ∧ (State.disableChan s c cause slot).core = s.core ∧ (State.disableChan s c cause slot).mgmt = s.mgmt := by
  unfold State.disableChan; simp [State.dimmRefused_keeps _ _ _ _, State.onChan_keeps _ _ _]

theorem State.loadTimings_keeps (s : State) (c : ℕ) (speed : ℕ) :
    (State.loadTimings s c speed).now = s.now ∧ (State.loadTimings s c speed).pending = s.pending ∧ (State.loadTimings s c speed).out = s.out ∧ (State.loadTimings s c speed).ret = s.ret ∧ (State.loadTimings s c speed).evt = s.evt ∧ (State.loadTimings s c speed).flt = s.flt ∧ (State.loadTimings s c speed).obs = s.obs ∧ (State.loadTimings s c speed).host = s.host ∧ (State.loadTimings s c speed).amap = s.amap ∧ (State.loadTimings s c speed).mem = s.mem ∧ (State.loadTimings s c speed).home = s.home ∧ (State.loadTimings s c speed).ddr = s.ddr ∧ (State.loadTimings s c speed).tier = s.tier ∧ (State.loadTimings s c speed).dm = s.dm ∧ (State.loadTimings s c speed).dunas = s.dunas ∧ (State.loadTimings s c speed).brg = s.brg ∧ (State.loadTimings s c speed).clk = s.clk ∧ (State.loadTimings s c speed).hsc = s.hsc ∧ (State.loadTimings s c speed).boot = s.boot ∧ (State.loadTimings s c speed).core = s.core ∧ (State.loadTimings s c speed).mgmt = s.mgmt := by
  unfold State.loadTimings; simp [State.setReg_keeps _ _ _ _, State.takeFree_keeps _]

theorem State.dropLines_keeps (s : State) (c : ℕ) :
    (State.dropLines s c).now = s.now ∧ (State.dropLines s c).free = s.free ∧ (State.dropLines s c).pending = s.pending ∧ (State.dropLines s c).out = s.out ∧ (State.dropLines s c).regs = s.regs ∧ (State.dropLines s c).ret = s.ret ∧ (State.dropLines s c).evt = s.evt ∧ (State.dropLines s c).flt = s.flt ∧ (State.dropLines s c).obs = s.obs ∧ (State.dropLines s c).host = s.host ∧ (State.dropLines s c).amap = s.amap ∧ (State.dropLines s c).home = s.home ∧ (State.dropLines s c).ddr = s.ddr ∧ (State.dropLines s c).tier = s.tier ∧ (State.dropLines s c).dm = s.dm ∧ (State.dropLines s c).dunas = s.dunas ∧ (State.dropLines s c).brg = s.brg ∧ (State.dropLines s c).clk = s.clk ∧ (State.dropLines s c).hsc = s.hsc ∧ (State.dropLines s c).boot = s.boot ∧ (State.dropLines s c).core = s.core ∧ (State.dropLines s c).mgmt = s.mgmt := by
  unfold State.dropLines; simp

theorem State.discover_keeps (s : State) (c : ℕ) (a : Option Spd) (b : Option Spd) (back : Bool) :
    (State.discover s c a b back).now = s.now ∧ (State.discover s c a b back).pending = s.pending ∧ (State.discover s c a b back).flt = s.flt ∧ (State.discover s c a b back).amap = s.amap ∧ (State.discover s c a b back).home = s.home ∧ (State.discover s c a b back).tier = s.tier ∧ (State.discover s c a b back).dm = s.dm ∧ (State.discover s c a b back).brg = s.brg ∧ (State.discover s c a b back).clk = s.clk ∧ (State.discover s c a b back).hsc = s.hsc ∧ (State.discover s c a b back).boot = s.boot ∧ (State.discover s c a b back).core = s.core ∧ (State.discover s c a b back).mgmt = s.mgmt := by
  obtain ⟨P, hP⟩ : ∃ P : State → Prop, P = fun x => x.now = s.now ∧ x.pending = s.pending ∧ x.flt = s.flt ∧ x.amap = s.amap ∧ x.home = s.home ∧ x.tier = s.tier ∧ x.dm = s.dm ∧ x.brg = s.brg ∧ x.clk = s.clk ∧ x.hsc = s.hsc ∧ x.boot = s.boot ∧ x.core = s.core ∧ x.mgmt = s.mgmt := ⟨_, rfl⟩
  suffices h : P (State.discover s c a b back) by rw [hP] at h; exact h
  unfold State.discover; (try dsimp only); (repeat' split) <;> skip <;> subst hP <;> simp_all [State.onChan_keeps _ _ _, State.dropLines_keeps _ _, State.disableChan_keeps _ _ _ _, State.dimmRefused_keeps _ _ _ _, State.loadTimings_keeps _ _ _, State.settleAll_keeps _]

theorem State.storeRepairs_keeps (s : State) (c : ℕ) (l : List RepairRec) :
    (State.storeRepairs s c l).now = s.now ∧ (State.storeRepairs s c l).free = s.free ∧ (State.storeRepairs s c l).pending = s.pending ∧ (State.storeRepairs s c l).out = s.out ∧ (State.storeRepairs s c l).regs = s.regs ∧ (State.storeRepairs s c l).evt = s.evt ∧ (State.storeRepairs s c l).flt = s.flt ∧ (State.storeRepairs s c l).obs = s.obs ∧ (State.storeRepairs s c l).host = s.host ∧ (State.storeRepairs s c l).amap = s.amap ∧ (State.storeRepairs s c l).mem = s.mem ∧ (State.storeRepairs s c l).home = s.home ∧ (State.storeRepairs s c l).ddr = s.ddr ∧ (State.storeRepairs s c l).tier = s.tier ∧ (State.storeRepairs s c l).dm = s.dm ∧ (State.storeRepairs s c l).dunas = s.dunas ∧ (State.storeRepairs s c l).brg = s.brg ∧ (State.storeRepairs s c l).clk = s.clk ∧ (State.storeRepairs s c l).hsc = s.hsc ∧ (State.storeRepairs s c l).boot = s.boot ∧ (State.storeRepairs s c l).core = s.core ∧ (State.storeRepairs s c l).mgmt = s.mgmt := by
  unfold State.storeRepairs; simp [State.retWrite_keeps _ _ _ _]

theorem State.chanTrained_keeps (s : State) (c : ℕ) :
    (State.chanTrained s c).now = s.now ∧ (State.chanTrained s c).free = s.free ∧ (State.chanTrained s c).pending = s.pending ∧ (State.chanTrained s c).regs = s.regs ∧ (State.chanTrained s c).flt = s.flt ∧ (State.chanTrained s c).amap = s.amap ∧ (State.chanTrained s c).mem = s.mem ∧ (State.chanTrained s c).home = s.home ∧ (State.chanTrained s c).tier = s.tier ∧ (State.chanTrained s c).dm = s.dm ∧ (State.chanTrained s c).brg = s.brg ∧ (State.chanTrained s c).clk = s.clk ∧ (State.chanTrained s c).hsc = s.hsc ∧ (State.chanTrained s c).boot = s.boot ∧ (State.chanTrained s c).core = s.core ∧ (State.chanTrained s c).mgmt = s.mgmt := by
  unfold State.chanTrained; simp [State.onChan_keeps _ _ _, State.raise_keeps _ _]

theorem State.chanFailed_keeps (s : State) (c : ℕ) (step : ℕ) :
    (State.chanFailed s c step).now = s.now ∧ (State.chanFailed s c step).pending = s.pending ∧ (State.chanFailed s c step).flt = s.flt ∧ (State.chanFailed s c step).amap = s.amap ∧ (State.chanFailed s c step).mem = s.mem ∧ (State.chanFailed s c step).home = s.home ∧ (State.chanFailed s c step).tier = s.tier ∧ (State.chanFailed s c step).dm = s.dm ∧ (State.chanFailed s c step).brg = s.brg ∧ (State.chanFailed s c step).clk = s.clk ∧ (State.chanFailed s c step).hsc = s.hsc ∧ (State.chanFailed s c step).boot = s.boot ∧ (State.chanFailed s c step).core = s.core ∧ (State.chanFailed s c step).mgmt = s.mgmt := by
  obtain ⟨P, hP⟩ : ∃ P : State → Prop, P = fun x => x.now = s.now ∧ x.pending = s.pending ∧ x.flt = s.flt ∧ x.amap = s.amap ∧ x.mem = s.mem ∧ x.home = s.home ∧ x.tier = s.tier ∧ x.dm = s.dm ∧ x.brg = s.brg ∧ x.clk = s.clk ∧ x.hsc = s.hsc ∧ x.boot = s.boot ∧ x.core = s.core ∧ x.mgmt = s.mgmt := ⟨_, rfl⟩
  suffices h : P (State.chanFailed s c step) by rw [hP] at h; exact h
  unfold State.chanFailed; (try dsimp only); (repeat' split) <;> skip <;> subst hP <;> simp_all [State.raise_keeps _ _, State.onChan_keeps _ _ _, State.loadTimings_keeps _ _ _, State.settleAll_keeps _, State.disableChan_keeps _ _ _ _]

theorem State.mirrorLost_keeps (s : State) (c : ℕ) :
    (State.mirrorLost s c).now = s.now ∧ (State.mirrorLost s c).free = s.free ∧ (State.mirrorLost s c).pending = s.pending ∧ (State.mirrorLost s c).regs = s.regs ∧ (State.mirrorLost s c).amap = s.amap ∧ (State.mirrorLost s c).home = s.home ∧ (State.mirrorLost s c).tier = s.tier ∧ (State.mirrorLost s c).dm = s.dm ∧ (State.mirrorLost s c).brg = s.brg ∧ (State.mirrorLost s c).clk = s.clk ∧ (State.mirrorLost s c).hsc = s.hsc ∧ (State.mirrorLost s c).boot = s.boot ∧ (State.mirrorLost s c).core = s.core ∧ (State.mirrorLost s c).mgmt = s.mgmt := by
  obtain ⟨P, hP⟩ : ∃ P : State → Prop, P = fun x => x.now = s.now ∧ x.free = s.free ∧ x.pending = s.pending ∧ x.regs = s.regs ∧ x.amap = s.amap ∧ x.home = s.home ∧ x.tier = s.tier ∧ x.dm = s.dm ∧ x.brg = s.brg ∧ x.clk = s.clk ∧ x.hsc = s.hsc ∧ x.boot = s.boot ∧ x.core = s.core ∧ x.mgmt = s.mgmt := ⟨_, rfl⟩
  suffices h : P (State.mirrorLost s c) by rw [hP] at h; exact h
  unfold State.mirrorLost; (try dsimp only); (repeat' split) <;> skip <;> subst hP <;> simp_all [State.onChan_keeps _ _ _, State.copyWalk_keeps _ _, State.raise_keeps _ _]

theorem State.quarantineChan_keeps (s : State) (c : ℕ) :
    (State.quarantineChan s c).now = s.now ∧ (State.quarantineChan s c).pending = s.pending ∧ (State.quarantineChan s c).dm = s.dm ∧ (State.quarantineChan s c).brg = s.brg ∧ (State.quarantineChan s c).clk = s.clk ∧ (State.quarantineChan s c).hsc = s.hsc ∧ (State.quarantineChan s c).boot = s.boot ∧ (State.quarantineChan s c).core = s.core := by
  unfold State.quarantineChan; simp [State.runAll_keeps _, State.onChan_keeps _ _ _, State.mirrorLost_keeps _ _]

theorem State.startSparing_keeps (s : State) (c : ℕ) (rank : ℕ) :
    (State.startSparing s c rank).now = s.now ∧ (State.startSparing s c rank).free = s.free ∧ (State.startSparing s c rank).pending = s.pending ∧ (State.startSparing s c rank).out = s.out ∧ (State.startSparing s c rank).regs = s.regs ∧ (State.startSparing s c rank).ret = s.ret ∧ (State.startSparing s c rank).evt = s.evt ∧ (State.startSparing s c rank).flt = s.flt ∧ (State.startSparing s c rank).obs = s.obs ∧ (State.startSparing s c rank).host = s.host ∧ (State.startSparing s c rank).amap = s.amap ∧ (State.startSparing s c rank).mem = s.mem ∧ (State.startSparing s c rank).home = s.home ∧ (State.startSparing s c rank).tier = s.tier ∧ (State.startSparing s c rank).dm = s.dm ∧ (State.startSparing s c rank).dunas = s.dunas ∧ (State.startSparing s c rank).brg = s.brg ∧ (State.startSparing s c rank).clk = s.clk ∧ (State.startSparing s c rank).hsc = s.hsc ∧ (State.startSparing s c rank).boot = s.boot ∧ (State.startSparing s c rank).core = s.core ∧ (State.startSparing s c rank).mgmt = s.mgmt := by
  unfold State.startSparing; simp [State.onChan_keeps _ _ _]

theorem State.withdrawBins_keeps (s : State) (key : ℕ) :
    (State.withdrawBins s key).now = s.now ∧ (State.withdrawBins s key).free = s.free ∧ (State.withdrawBins s key).pending = s.pending ∧ (State.withdrawBins s key).out = s.out ∧ (State.withdrawBins s key).regs = s.regs ∧ (State.withdrawBins s key).ret = s.ret ∧ (State.withdrawBins s key).evt = s.evt ∧ (State.withdrawBins s key).flt = s.flt ∧ (State.withdrawBins s key).obs = s.obs ∧ (State.withdrawBins s key).host = s.host ∧ (State.withdrawBins s key).mem = s.mem ∧ (State.withdrawBins s key).home = s.home ∧ (State.withdrawBins s key).ddr = s.ddr ∧ (State.withdrawBins s key).dm = s.dm ∧ (State.withdrawBins s key).dunas = s.dunas ∧ (State.withdrawBins s key).brg = s.brg ∧ (State.withdrawBins s key).clk = s.clk ∧ (State.withdrawBins s key).hsc = s.hsc ∧ (State.withdrawBins s key).boot = s.boot ∧ (State.withdrawBins s key).core = s.core ∧ (State.withdrawBins s key).mgmt = s.mgmt := by
  unfold State.withdrawBins; (repeat' split) <;> simp

theorem State.withdrawFrame_keeps (s : State) (i : ℕ) (f : ℕ) :
    (State.withdrawFrame s i f).now = s.now ∧ (State.withdrawFrame s i f).free = s.free ∧ (State.withdrawFrame s i f).pending = s.pending ∧ (State.withdrawFrame s i f).out = s.out ∧ (State.withdrawFrame s i f).regs = s.regs ∧ (State.withdrawFrame s i f).ret = s.ret ∧ (State.withdrawFrame s i f).evt = s.evt ∧ (State.withdrawFrame s i f).flt = s.flt ∧ (State.withdrawFrame s i f).obs = s.obs ∧ (State.withdrawFrame s i f).host = s.host ∧ (State.withdrawFrame s i f).mem = s.mem ∧ (State.withdrawFrame s i f).home = s.home ∧ (State.withdrawFrame s i f).ddr = s.ddr ∧ (State.withdrawFrame s i f).tier = s.tier ∧ (State.withdrawFrame s i f).dm = s.dm ∧ (State.withdrawFrame s i f).dunas = s.dunas ∧ (State.withdrawFrame s i f).brg = s.brg ∧ (State.withdrawFrame s i f).clk = s.clk ∧ (State.withdrawFrame s i f).hsc = s.hsc ∧ (State.withdrawFrame s i f).boot = s.boot ∧ (State.withdrawFrame s i f).core = s.core ∧ (State.withdrawFrame s i f).mgmt = s.mgmt := by
  unfold State.withdrawFrame; simp [State.useRun_keeps _ _ _ _]

theorem State.withdrawFrames_keeps (s : State) (c : ℕ) (offs : List ℕ) (i : ℕ) :
    (State.withdrawFrames s c offs i).now = s.now ∧ (State.withdrawFrames s c offs i).free = s.free ∧ (State.withdrawFrames s c offs i).pending = s.pending ∧ (State.withdrawFrames s c offs i).out = s.out ∧ (State.withdrawFrames s c offs i).regs = s.regs ∧ (State.withdrawFrames s c offs i).ret = s.ret ∧ (State.withdrawFrames s c offs i).evt = s.evt ∧ (State.withdrawFrames s c offs i).flt = s.flt ∧ (State.withdrawFrames s c offs i).obs = s.obs ∧ (State.withdrawFrames s c offs i).host = s.host ∧ (State.withdrawFrames s c offs i).mem = s.mem ∧ (State.withdrawFrames s c offs i).home = s.home ∧ (State.withdrawFrames s c offs i).ddr = s.ddr ∧ (State.withdrawFrames s c offs i).tier = s.tier ∧ (State.withdrawFrames s c offs i).dm = s.dm ∧ (State.withdrawFrames s c offs i).dunas = s.dunas ∧ (State.withdrawFrames s c offs i).brg = s.brg ∧ (State.withdrawFrames s c offs i).clk = s.clk ∧ (State.withdrawFrames s c offs i).hsc = s.hsc ∧ (State.withdrawFrames s c offs i).boot = s.boot ∧ (State.withdrawFrames s c offs i).core = s.core ∧ (State.withdrawFrames s c offs i).mgmt = s.mgmt := by
  unfold State.withdrawFrames; simp [State.withdrawFrame_keeps _ _ _]

theorem State.retireRow_keeps (s : State) (c : ℕ) (r : RepairRec) :
    (State.retireRow s c r).now = s.now ∧ (State.retireRow s c r).free = s.free ∧ (State.retireRow s c r).pending = s.pending ∧ (State.retireRow s c r).regs = s.regs ∧ (State.retireRow s c r).flt = s.flt ∧ (State.retireRow s c r).mem = s.mem ∧ (State.retireRow s c r).home = s.home ∧ (State.retireRow s c r).dm = s.dm ∧ (State.retireRow s c r).brg = s.brg ∧ (State.retireRow s c r).clk = s.clk ∧ (State.retireRow s c r).hsc = s.hsc ∧ (State.retireRow s c r).boot = s.boot ∧ (State.retireRow s c r).core = s.core ∧ (State.retireRow s c r).mgmt = s.mgmt := by
  unfold State.retireRow; simp [State.onChan_keeps _ _ _, State.withdrawFrames_keeps _ _ _ _, State.withdrawBins_keeps _ _, State.raise_keeps _ _, State.levels_keeps _ _]

theorem State.startRepair_keeps (s : State) (c : ℕ) (j : RepairJob) :
    (State.startRepair s c j).now = s.now ∧ (State.startRepair s c j).free = s.free ∧ (State.startRepair s c j).pending = s.pending ∧ (State.startRepair s c j).regs = s.regs ∧ (State.startRepair s c j).flt = s.flt ∧ (State.startRepair s c j).mem = s.mem ∧ (State.startRepair s c j).home = s.home ∧ (State.startRepair s c j).dm = s.dm ∧ (State.startRepair s c j).brg = s.brg ∧ (State.startRepair s c j).clk = s.clk ∧ (State.startRepair s c j).hsc = s.hsc ∧ (State.startRepair s c j).boot = s.boot ∧ (State.startRepair s c j).core = s.core ∧ (State.startRepair s c j).mgmt = s.mgmt := by
  obtain ⟨P, hP⟩ : ∃ P : State → Prop, P = fun x => x.now = s.now ∧ x.free = s.free ∧ x.pending = s.pending ∧ x.regs = s.regs ∧ x.flt = s.flt ∧ x.mem = s.mem ∧ x.home = s.home ∧ x.dm = s.dm ∧ x.brg = s.brg ∧ x.clk = s.clk ∧ x.hsc = s.hsc ∧ x.boot = s.boot ∧ x.core = s.core ∧ x.mgmt = s.mgmt := ⟨_, rfl⟩
  suffices h : P (State.startRepair s c j) by rw [hP] at h; exact h
  unfold State.startRepair; (try dsimp only); (repeat' split) <;> subst hP <;> simp_all [State.onChan_keeps _ _ _, State.retireRow_keeps _ _ _, State.startSparing_keeps _ _ _]

theorem State.nextJob_keeps (s : State) (c : ℕ) :
    (State.nextJob s c).now = s.now ∧ (State.nextJob s c).free = s.free ∧ (State.nextJob s c).pending = s.pending ∧ (State.nextJob s c).regs = s.regs ∧ (State.nextJob s c).flt = s.flt ∧ (State.nextJob s c).mem = s.mem ∧ (State.nextJob s c).home = s.home ∧ (State.nextJob s c).dm = s.dm ∧ (State.nextJob s c).brg = s.brg ∧ (State.nextJob s c).clk = s.clk ∧ (State.nextJob s c).hsc = s.hsc ∧ (State.nextJob s c).boot = s.boot ∧ (State.nextJob s c).core = s.core ∧ (State.nextJob s c).mgmt = s.mgmt := by
  unfold State.nextJob; simp [State.onChan_keeps _ _ _, State.startRepair_keeps _ _ _]

theorem State.freqChange_keeps (s : State) (c : ℕ) :
    (State.freqChange s c).now = s.now ∧ (State.freqChange s c).free = s.free ∧ (State.freqChange s c).pending = s.pending ∧ (State.freqChange s c).out = s.out ∧ (State.freqChange s c).regs = s.regs ∧ (State.freqChange s c).ret = s.ret ∧ (State.freqChange s c).evt = s.evt ∧ (State.freqChange s c).flt = s.flt ∧ (State.freqChange s c).host = s.host ∧ (State.freqChange s c).amap = s.amap ∧ (State.freqChange s c).mem = s.mem ∧ (State.freqChange s c).home = s.home ∧ (State.freqChange s c).tier = s.tier ∧ (State.freqChange s c).dm = s.dm ∧ (State.freqChange s c).dunas = s.dunas ∧ (State.freqChange s c).brg = s.brg ∧ (State.freqChange s c).clk = s.clk ∧ (State.freqChange s c).hsc = s.hsc ∧ (State.freqChange s c).boot = s.boot ∧ (State.freqChange s c).core = s.core ∧ (State.freqChange s c).mgmt = s.mgmt := by
  unfold State.freqChange; simp [State.repayAll_keeps _ _, State.chanTurn_keeps _ _, State.onChan_keeps _ _ _]

theorem State.stallEnd_keeps (s : State) (c : ℕ) :
    (State.stallEnd s c).now = s.now ∧ (State.stallEnd s c).pending = s.pending ∧ (State.stallEnd s c).dm = s.dm ∧ (State.stallEnd s c).brg = s.brg ∧ (State.stallEnd s c).clk = s.clk ∧ (State.stallEnd s c).hsc = s.hsc ∧ (State.stallEnd s c).boot = s.boot ∧ (State.stallEnd s c).core = s.core := by
  unfold State.stallEnd; simp [State.runAll_keeps _, State.freqChange_keeps _ _, State.onChan_keeps _ _ _, State.nextJob_keeps _ _]

theorem State.corrected_keeps (s : State) (c : ℕ) (off : ℕ) (dev : ℕ) :
    (State.corrected s c off dev).now = s.now ∧ (State.corrected s c off dev).free = s.free ∧ (State.corrected s c off dev).pending = s.pending ∧ (State.corrected s c off dev).regs = s.regs ∧ (State.corrected s c off dev).mem = s.mem ∧ (State.corrected s c off dev).home = s.home ∧ (State.corrected s c off dev).dm = s.dm ∧ (State.corrected s c off dev).brg = s.brg ∧ (State.corrected s c off dev).clk = s.clk ∧ (State.corrected s c off dev).hsc = s.hsc ∧ (State.corrected s c off dev).boot = s.boot ∧ (State.corrected s c off dev).core = s.core ∧ (State.corrected s c off dev).mgmt = s.mgmt := by
  unfold State.corrected; simp [State.onChan_keeps _ _ _, State.fileAt_keeps _ _ _ _ _ _, State.raise_keeps _ _, State.startRepair_keeps _ _ _]

theorem State.emptyMcache_keeps (s : State) :
    (State.emptyMcache s).now = s.now ∧ (State.emptyMcache s).pending = s.pending ∧ (State.emptyMcache s).regs = s.regs ∧ (State.emptyMcache s).home = s.home ∧ (State.emptyMcache s).dm = s.dm ∧ (State.emptyMcache s).brg = s.brg ∧ (State.emptyMcache s).clk = s.clk ∧ (State.emptyMcache s).hsc = s.hsc ∧ (State.emptyMcache s).boot = s.boot ∧ (State.emptyMcache s).core = s.core ∧ (State.emptyMcache s).mgmt = s.mgmt := by
  unfold State.emptyMcache; simp [State.cleanTo_keeps _ _ _ _]

theorem State.moveMeta_keeps (s : State) (c : ℕ) :
    (State.moveMeta s c).now = s.now ∧ (State.moveMeta s c).pending = s.pending ∧ (State.moveMeta s c).regs = s.regs ∧ (State.moveMeta s c).home = s.home ∧ (State.moveMeta s c).dm = s.dm ∧ (State.moveMeta s c).brg = s.brg ∧ (State.moveMeta s c).clk = s.clk ∧ (State.moveMeta s c).hsc = s.hsc ∧ (State.moveMeta s c).boot = s.boot ∧ (State.moveMeta s c).core = s.core ∧ (State.moveMeta s c).mgmt = s.mgmt := by
  unfold State.moveMeta; (try dsimp only); (try unfold State.each)
  refine foldl_holds (P := fun (x : State) => x.now = s.now ∧ x.pending = s.pending ∧ x.regs = s.regs ∧ x.home = s.home ∧ x.dm = s.dm ∧ x.brg = s.brg ∧ x.clk = s.clk ∧ x.hsc = s.hsc ∧ x.boot = s.boot ∧ x.core = s.core ∧ x.mgmt = s.mgmt) ?_ ?_
  · simp [State.freeRunOf_keeps _ _ _ _, State.useRun_keeps _ _ _ _, State.emptyMcache_keeps _, State.onExt_keeps _ _ _]
  · intro b x h; (try dsimp only); (repeat' split) <;> simp_all [State.freeRunOf_keeps _ _ _ _, State.useRun_keeps _ _ _ _, State.emptyMcache_keeps _, State.onExt_keeps _ _ _]

theorem State.drainStalled_keeps (s : State) (c : ℕ) :
    (State.drainStalled s c).now = s.now ∧ (State.drainStalled s c).free = s.free ∧ (State.drainStalled s c).pending = s.pending ∧ (State.drainStalled s c).regs = s.regs ∧ (State.drainStalled s c).flt = s.flt ∧ (State.drainStalled s c).amap = s.amap ∧ (State.drainStalled s c).mem = s.mem ∧ (State.drainStalled s c).home = s.home ∧ (State.drainStalled s c).tier = s.tier ∧ (State.drainStalled s c).dm = s.dm ∧ (State.drainStalled s c).brg = s.brg ∧ (State.drainStalled s c).clk = s.clk ∧ (State.drainStalled s c).hsc = s.hsc ∧ (State.drainStalled s c).boot = s.boot ∧ (State.drainStalled s c).core = s.core ∧ (State.drainStalled s c).mgmt = s.mgmt := by
  unfold State.drainStalled; simp [State.raise_keeps _ _, State.onChan_keeps _ _ _]

theorem State.drained_keeps (s : State) (c : ℕ) :
    (State.drained s c).now = s.now ∧ (State.drained s c).free = s.free ∧ (State.drained s c).pending = s.pending ∧ (State.drained s c).regs = s.regs ∧ (State.drained s c).amap = s.amap ∧ (State.drained s c).home = s.home ∧ (State.drained s c).tier = s.tier ∧ (State.drained s c).dm = s.dm ∧ (State.drained s c).brg = s.brg ∧ (State.drained s c).clk = s.clk ∧ (State.drained s c).hsc = s.hsc ∧ (State.drained s c).boot = s.boot ∧ (State.drained s c).core = s.core ∧ (State.drained s c).mgmt = s.mgmt := by
  unfold State.drained; simp [State.onChan_keeps _ _ _, State.raise_keeps _ _, State.mirrorLost_keeps _ _]

theorem State.giveUp_keeps (s : State) (c : ℕ) :
    (State.giveUp s c).now = s.now ∧ (State.giveUp s c).pending = s.pending ∧ (State.giveUp s c).dm = s.dm ∧ (State.giveUp s c).brg = s.brg ∧ (State.giveUp s c).clk = s.clk ∧ (State.giveUp s c).hsc = s.hsc ∧ (State.giveUp s c).boot = s.boot ∧ (State.giveUp s c).core = s.core := by
  unfold State.giveUp; simp [State.abandon_keeps _ _, State.setEntry_keeps _ _ _, State.poisonPage_keeps _ _ _]

theorem State.selfRefresh_keeps (s : State) (c : ℕ) :
    (State.selfRefresh s c).now = s.now ∧ (State.selfRefresh s c).free = s.free ∧ (State.selfRefresh s c).pending = s.pending ∧ (State.selfRefresh s c).out = s.out ∧ (State.selfRefresh s c).regs = s.regs ∧ (State.selfRefresh s c).ret = s.ret ∧ (State.selfRefresh s c).evt = s.evt ∧ (State.selfRefresh s c).flt = s.flt ∧ (State.selfRefresh s c).host = s.host ∧ (State.selfRefresh s c).amap = s.amap ∧ (State.selfRefresh s c).mem = s.mem ∧ (State.selfRefresh s c).home = s.home ∧ (State.selfRefresh s c).tier = s.tier ∧ (State.selfRefresh s c).dm = s.dm ∧ (State.selfRefresh s c).dunas = s.dunas ∧ (State.selfRefresh s c).brg = s.brg ∧ (State.selfRefresh s c).clk = s.clk ∧ (State.selfRefresh s c).hsc = s.hsc ∧ (State.selfRefresh s c).boot = s.boot ∧ (State.selfRefresh s c).core = s.core ∧ (State.selfRefresh s c).mgmt = s.mgmt := by
  unfold State.selfRefresh; simp [State.onChan_keeps _ _ _, State.repayAll_keeps _ _]

theorem State.recoverChan_keeps (s : State) (c : ℕ) :
    (State.recoverChan s c).now = s.now ∧ (State.recoverChan s c).free = s.free ∧ (State.recoverChan s c).pending = s.pending ∧ (State.recoverChan s c).regs = s.regs ∧ (State.recoverChan s c).flt = s.flt ∧ (State.recoverChan s c).amap = s.amap ∧ (State.recoverChan s c).mem = s.mem ∧ (State.recoverChan s c).home = s.home ∧ (State.recoverChan s c).tier = s.tier ∧ (State.recoverChan s c).dm = s.dm ∧ (State.recoverChan s c).brg = s.brg ∧ (State.recoverChan s c).clk = s.clk ∧ (State.recoverChan s c).hsc = s.hsc ∧ (State.recoverChan s c).boot = s.boot ∧ (State.recoverChan s c).core = s.core ∧ (State.recoverChan s c).mgmt = s.mgmt := by
  unfold State.recoverChan; simp [State.raise_keeps _ _, State.onChan_keeps _ _ _]

end Sys2Proof.Machine
end

