-- ==== Sys2Proof/Laws/MovesKeeps.lean ====
section
/-! SUPPORT. Which fields of the state the operations of Moves leave as they are: a proof
over the operation `State.op` gives simp its lemma `State.op_keeps _ _`. -/

namespace Sys2Proof.Machine

theorem State.fullerBin_keeps (s : State) (p : ℕ) {r : State × ℕ × ℕ} (hr : State.fullerBin s p = some r) :
    r.1.now = s.now ∧ r.1.free = s.free ∧ r.1.pending = s.pending ∧ r.1.regs = s.regs ∧ r.1.flt = s.flt ∧ r.1.mem = s.mem ∧ r.1.home = s.home ∧ r.1.ddr = s.ddr ∧ r.1.dm = s.dm ∧ r.1.brg = s.brg ∧ r.1.clk = s.clk ∧ r.1.hsc = s.hsc ∧ r.1.boot = s.boot ∧ r.1.core = s.core ∧ r.1.mgmt = s.mgmt := by
  unfold State.fullerBin at hr; dsimp only at hr; (repeat' split at hr) <;> skip <;> first | (cases hr; done) | (cases hr; simp_all [State.takeFrom_keeps _ _, State.levels_keeps _ _, State.account_keeps _ _ _ _]) | simp_all [State.takeFrom_keeps _ _, State.levels_keeps _ _, State.account_keeps _ _ _ _]

theorem State.moveDest_keeps (s : State) (p : ℕ) (why : MoveReason) {r : State × ℕ × ℕ} (hr : State.moveDest s p why = some r) :
    r.1.now = s.now ∧ r.1.free = s.free ∧ r.1.pending = s.pending ∧ r.1.regs = s.regs ∧ r.1.flt = s.flt ∧ r.1.mem = s.mem ∧ r.1.home = s.home ∧ r.1.ddr = s.ddr ∧ r.1.dm = s.dm ∧ r.1.brg = s.brg ∧ r.1.clk = s.clk ∧ r.1.hsc = s.hsc ∧ r.1.boot = s.boot ∧ r.1.core = s.core ∧ r.1.mgmt = s.mgmt := by
  unfold State.moveDest at hr; dsimp only at hr; (repeat' split at hr) <;> (try have := State.takeFrame_keeps _ _ _ ‹State.takeFrame _ _ _ = some _›) <;> (try have := State.fullerBin_keeps _ _ ‹State.fullerBin _ _ = some _›) <;> (try have := State.takeBin_keeps _ _ _ _ _ ‹State.takeBin _ _ _ _ _ = some _›) <;> first | (cases hr; done) | (cases hr; simp_all) | simp_all

theorem State.moveBad_keeps (s : State) (i : ℕ) (x : ℕ) (subject : ℕ) :
    (State.moveBad s i x subject).now = s.now ∧ (State.moveBad s i x subject).free = s.free ∧ (State.moveBad s i x subject).pending = s.pending ∧ (State.moveBad s i x subject).regs = s.regs ∧ (State.moveBad s i x subject).amap = s.amap ∧ (State.moveBad s i x subject).mem = s.mem ∧ (State.moveBad s i x subject).home = s.home ∧ (State.moveBad s i x subject).tier = s.tier ∧ (State.moveBad s i x subject).dm = s.dm ∧ (State.moveBad s i x subject).brg = s.brg ∧ (State.moveBad s i x subject).clk = s.clk ∧ (State.moveBad s i x subject).hsc = s.hsc ∧ (State.moveBad s i x subject).boot = s.boot ∧ (State.moveBad s i x subject).core = s.core ∧ (State.moveBad s i x subject).mgmt = s.mgmt := by
  unfold State.moveBad; simp [State.fileP_keeps _ _ _ _, State.eccUncorr_keeps _ _ _ _]

theorem State.moveRead_keeps (s : State) (hs : ℕ) (i : ℕ) (x : ℕ) (subject : ℕ) (uncorr : Bool) (b : TagBind) :
    (State.moveRead s hs i x subject uncorr b).1.now = s.now ∧ (State.moveRead s hs i x subject uncorr b).1.pending = s.pending ∧ (State.moveRead s hs i x subject uncorr b).1.regs = s.regs ∧ (State.moveRead s hs i x subject uncorr b).1.amap = s.amap ∧ (State.moveRead s hs i x subject uncorr b).1.home = s.home ∧ (State.moveRead s hs i x subject uncorr b).1.tier = s.tier ∧ (State.moveRead s hs i x subject uncorr b).1.dm = s.dm ∧ (State.moveRead s hs i x subject uncorr b).1.brg = s.brg ∧ (State.moveRead s hs i x subject uncorr b).1.clk = s.clk ∧ (State.moveRead s hs i x subject uncorr b).1.hsc = s.hsc ∧ (State.moveRead s hs i x subject uncorr b).1.boot = s.boot ∧ (State.moveRead s hs i x subject uncorr b).1.core = s.core ∧ (State.moveRead s hs i x subject uncorr b).1.mgmt = s.mgmt := by
  obtain ⟨P, hP⟩ : ∃ P : State → Prop, P = fun x => x.now = s.now ∧ x.pending = s.pending ∧ x.regs = s.regs ∧ x.amap = s.amap ∧ x.home = s.home ∧ x.tier = s.tier ∧ x.dm = s.dm ∧ x.brg = s.brg ∧ x.clk = s.clk ∧ x.hsc = s.hsc ∧ x.boot = s.boot ∧ x.core = s.core ∧ x.mgmt = s.mgmt := ⟨_, rfl⟩
  suffices h : P (State.moveRead s hs i x subject uncorr b).1 by rw [hP] at h; exact h
  unfold State.moveRead; (try dsimp only); (repeat' split) <;> subst hP <;> simp_all [State.moveBad_keeps _ _ _ _, State.readLine_keeps _ _ _ _ _ _]

theorem State.copyNear_keeps (s : State) (p : ℕ) (m : Migration) (uncorr : BitVec 64) (j : ℕ) :
    (State.copyNear s p m uncorr j).now = s.now ∧ (State.copyNear s p m uncorr j).pending = s.pending ∧ (State.copyNear s p m uncorr j).regs = s.regs ∧ (State.copyNear s p m uncorr j).amap = s.amap ∧ (State.copyNear s p m uncorr j).home = s.home ∧ (State.copyNear s p m uncorr j).tier = s.tier ∧ (State.copyNear s p m uncorr j).dm = s.dm ∧ (State.copyNear s p m uncorr j).brg = s.brg ∧ (State.copyNear s p m uncorr j).clk = s.clk ∧ (State.copyNear s p m uncorr j).hsc = s.hsc ∧ (State.copyNear s p m uncorr j).boot = s.boot ∧ (State.copyNear s p m uncorr j).core = s.core ∧ (State.copyNear s p m uncorr j).mgmt = s.mgmt := by
  obtain ⟨P, hP⟩ : ∃ P : State → Prop, P = fun x => x.now = s.now ∧ x.pending = s.pending ∧ x.regs = s.regs ∧ x.amap = s.amap ∧ x.home = s.home ∧ x.tier = s.tier ∧ x.dm = s.dm ∧ x.brg = s.brg ∧ x.clk = s.clk ∧ x.hsc = s.hsc ∧ x.boot = s.boot ∧ x.core = s.core ∧ x.mgmt = s.mgmt := ⟨_, rfl⟩
  suffices h : P (State.copyNear s p m uncorr j) by rw [hP] at h; exact h
  unfold State.copyNear; (try dsimp only); (repeat' split) <;> skip <;> subst hP <;> simp_all [State.moveRead_keeps _ _ _ _ _ _ _, State.putMedia_keeps _ _ _ _]

theorem State.copyBin_keeps (s : State) (p : ℕ) (m : Migration) (uncorr : BitVec 64) :
    (State.copyBin s p m uncorr).1.now = s.now ∧ (State.copyBin s p m uncorr).1.pending = s.pending ∧ (State.copyBin s p m uncorr).1.regs = s.regs ∧ (State.copyBin s p m uncorr).1.amap = s.amap ∧ (State.copyBin s p m uncorr).1.home = s.home ∧ (State.copyBin s p m uncorr).1.tier = s.tier ∧ (State.copyBin s p m uncorr).1.dm = s.dm ∧ (State.copyBin s p m uncorr).1.brg = s.brg ∧ (State.copyBin s p m uncorr).1.clk = s.clk ∧ (State.copyBin s p m uncorr).1.hsc = s.hsc ∧ (State.copyBin s p m uncorr).1.boot = s.boot ∧ (State.copyBin s p m uncorr).1.core = s.core ∧ (State.copyBin s p m uncorr).1.mgmt = s.mgmt := by
  unfold State.copyBin; (try dsimp only); (try unfold State.each)
  refine foldl_holds (P := fun (x : State × _) => x.1.now = s.now ∧ x.1.pending = s.pending ∧ x.1.regs = s.regs ∧ x.1.amap = s.amap ∧ x.1.home = s.home ∧ x.1.tier = s.tier ∧ x.1.dm = s.dm ∧ x.1.brg = s.brg ∧ x.1.clk = s.clk ∧ x.1.hsc = s.hsc ∧ x.1.boot = s.boot ∧ x.1.core = s.core ∧ x.1.mgmt = s.mgmt) ?_ ?_
  · simp [State.moveRead_keeps _ _ _ _ _ _ _, State.putMedia_keeps _ _ _ _]
  · intro b x h; (try dsimp only); (repeat' split) <;> simp_all [State.moveRead_keeps _ _ _ _ _ _ _, State.putMedia_keeps _ _ _ _]

theorem State.moved__keeps (s : State) (p : ℕ) (m : Migration) :
    (State.moved_ s p m).now = s.now ∧ (State.moved_ s p m).pending = s.pending ∧ (State.moved_ s p m).dm = s.dm ∧ (State.moved_ s p m).brg = s.brg ∧ (State.moved_ s p m).clk = s.clk ∧ (State.moved_ s p m).hsc = s.hsc ∧ (State.moved_ s p m).boot = s.boot ∧ (State.moved_ s p m).core = s.core := by
  unfold State.moved_; simp [State.unlockPage_keeps _ _ _, State.giveBack_keeps _ _ _]

end Sys2Proof.Machine
end

