-- ==== Sys2Proof/Laws/DdrKeeps.lean ====
section
/-! SUPPORT. Which fields of the state the operations of Ddr leave as they are: a proof
over the operation `State.op` gives simp its lemma `State.op_keeps _ _`. -/

namespace Sys2Proof.Machine

theorem State.raiseChan_keeps (s : State) (c : ℕ) (k : ℕ) (en : ℕ) (code : ℕ) (detail : List ℕ) :
    (State.raiseChan s c k en code detail).now = s.now ∧ (State.raiseChan s c k en code detail).free = s.free ∧ (State.raiseChan s c k en code detail).pending = s.pending ∧ (State.raiseChan s c k en code detail).regs = s.regs ∧ (State.raiseChan s c k en code detail).flt = s.flt ∧ (State.raiseChan s c k en code detail).amap = s.amap ∧ (State.raiseChan s c k en code detail).mem = s.mem ∧ (State.raiseChan s c k en code detail).home = s.home ∧ (State.raiseChan s c k en code detail).ddr = s.ddr ∧ (State.raiseChan s c k en code detail).tier = s.tier ∧ (State.raiseChan s c k en code detail).dm = s.dm ∧ (State.raiseChan s c k en code detail).brg = s.brg ∧ (State.raiseChan s c k en code detail).clk = s.clk ∧ (State.raiseChan s c k en code detail).hsc = s.hsc ∧ (State.raiseChan s c k en code detail).boot = s.boot ∧ (State.raiseChan s c k en code detail).core = s.core ∧ (State.raiseChan s c k en code detail).mgmt = s.mgmt := by
  unfold State.raiseChan; simp [State.raise_keeps _ _]

theorem State.chanOut_keeps (s : State) (c : ℕ) (en : ℕ) :
    (State.chanOut s c en).now = s.now ∧ (State.chanOut s c en).pending = s.pending ∧ (State.chanOut s c en).dm = s.dm ∧ (State.chanOut s c en).brg = s.brg ∧ (State.chanOut s c en).clk = s.clk ∧ (State.chanOut s c en).hsc = s.hsc ∧ (State.chanOut s c en).boot = s.boot ∧ (State.chanOut s c en).core = s.core := by
  unfold State.chanOut; simp [State.fileP_keeps _ _ _ _, State.quarantineChan_keeps _ _]

theorem State.fctlGo_keeps (s : State) (c : ℕ) :
    (State.fctlGo s c).now = s.now ∧ (State.fctlGo s c).free = s.free ∧ (State.fctlGo s c).pending = s.pending ∧ (State.fctlGo s c).out = s.out ∧ (State.fctlGo s c).regs = s.regs ∧ (State.fctlGo s c).ret = s.ret ∧ (State.fctlGo s c).evt = s.evt ∧ (State.fctlGo s c).flt = s.flt ∧ (State.fctlGo s c).host = s.host ∧ (State.fctlGo s c).amap = s.amap ∧ (State.fctlGo s c).mem = s.mem ∧ (State.fctlGo s c).home = s.home ∧ (State.fctlGo s c).tier = s.tier ∧ (State.fctlGo s c).dm = s.dm ∧ (State.fctlGo s c).dunas = s.dunas ∧ (State.fctlGo s c).brg = s.brg ∧ (State.fctlGo s c).clk = s.clk ∧ (State.fctlGo s c).hsc = s.hsc ∧ (State.fctlGo s c).boot = s.boot ∧ (State.fctlGo s c).core = s.core ∧ (State.fctlGo s c).mgmt = s.mgmt := by
  unfold State.fctlGo; simp [State.onChan_keeps _ _ _, State.freqChange_keeps _ _]

theorem State.tooHotAct_keeps (s : State) (c : ℕ) :
    (State.tooHotAct s c).now = s.now ∧ (State.tooHotAct s c).pending = s.pending ∧ (State.tooHotAct s c).dm = s.dm ∧ (State.tooHotAct s c).brg = s.brg ∧ (State.tooHotAct s c).clk = s.clk ∧ (State.tooHotAct s c).hsc = s.hsc ∧ (State.tooHotAct s c).boot = s.boot ∧ (State.tooHotAct s c).core = s.core := by
  unfold State.tooHotAct; simp [State.onChan_keeps _ _ _, State.repayAll_keeps _ _, State.chanOut_keeps _ _ _]

theorem State.metaBad_keeps (s : State) (x : ℕ) (b : ℕ) :
    (State.metaBad s x b).now = s.now ∧ (State.metaBad s x b).free = s.free ∧ (State.metaBad s x b).pending = s.pending ∧ (State.metaBad s x b).out = s.out ∧ (State.metaBad s x b).regs = s.regs ∧ (State.metaBad s x b).ret = s.ret ∧ (State.metaBad s x b).evt = s.evt ∧ (State.metaBad s x b).flt = s.flt ∧ (State.metaBad s x b).obs = s.obs ∧ (State.metaBad s x b).host = s.host ∧ (State.metaBad s x b).amap = s.amap ∧ (State.metaBad s x b).home = s.home ∧ (State.metaBad s x b).ddr = s.ddr ∧ (State.metaBad s x b).tier = s.tier ∧ (State.metaBad s x b).dm = s.dm ∧ (State.metaBad s x b).dunas = s.dunas ∧ (State.metaBad s x b).brg = s.brg ∧ (State.metaBad s x b).clk = s.clk ∧ (State.metaBad s x b).hsc = s.hsc ∧ (State.metaBad s x b).boot = s.boot ∧ (State.metaBad s x b).core = s.core ∧ (State.metaBad s x b).mgmt = s.mgmt := by
  obtain ⟨P, hP⟩ : ∃ P : State → Prop, P = fun x => x.now = s.now ∧ x.free = s.free ∧ x.pending = s.pending ∧ x.out = s.out ∧ x.regs = s.regs ∧ x.ret = s.ret ∧ x.evt = s.evt ∧ x.flt = s.flt ∧ x.obs = s.obs ∧ x.host = s.host ∧ x.amap = s.amap ∧ x.home = s.home ∧ x.ddr = s.ddr ∧ x.tier = s.tier ∧ x.dm = s.dm ∧ x.dunas = s.dunas ∧ x.brg = s.brg ∧ x.clk = s.clk ∧ x.hsc = s.hsc ∧ x.boot = s.boot ∧ x.core = s.core ∧ x.mgmt = s.mgmt := ⟨_, rfl⟩
  suffices h : P (State.metaBad s x b) by rw [hP] at h; exact h
  unfold State.metaBad; (try dsimp only); (repeat' split) <;> skip <;> subst hP <;> simp_all

theorem State.lineBad_keeps (s : State) (c : ℕ) (off : ℕ) :
    (State.lineBad s c off).now = s.now ∧ (State.lineBad s c off).free = s.free ∧ (State.lineBad s c off).pending = s.pending ∧ (State.lineBad s c off).regs = s.regs ∧ (State.lineBad s c off).amap = s.amap ∧ (State.lineBad s c off).home = s.home ∧ (State.lineBad s c off).tier = s.tier ∧ (State.lineBad s c off).dm = s.dm ∧ (State.lineBad s c off).brg = s.brg ∧ (State.lineBad s c off).clk = s.clk ∧ (State.lineBad s c off).hsc = s.hsc ∧ (State.lineBad s c off).boot = s.boot ∧ (State.lineBad s c off).core = s.core ∧ (State.lineBad s c off).mgmt = s.mgmt := by
  unfold State.lineBad; simp [State.copyWalk_keeps _ _]

theorem State.ownedBad_keeps (s : State) (c : ℕ) (off : ℕ) :
    (State.ownedBad s c off).now = s.now ∧ (State.ownedBad s c off).free = s.free ∧ (State.ownedBad s c off).pending = s.pending ∧ (State.ownedBad s c off).regs = s.regs ∧ (State.ownedBad s c off).amap = s.amap ∧ (State.ownedBad s c off).home = s.home ∧ (State.ownedBad s c off).tier = s.tier ∧ (State.ownedBad s c off).dm = s.dm ∧ (State.ownedBad s c off).brg = s.brg ∧ (State.ownedBad s c off).clk = s.clk ∧ (State.ownedBad s c off).hsc = s.hsc ∧ (State.ownedBad s c off).boot = s.boot ∧ (State.ownedBad s c off).core = s.core ∧ (State.ownedBad s c off).mgmt = s.mgmt := by
  unfold State.ownedBad; (repeat' split) <;> simp [State.metaBad_keeps _ _ _, State.lineBad_keeps _ _ _]

theorem State.foundBad_keeps (s : State) (c : ℕ) (off : ℕ) :
    (State.foundBad s c off).now = s.now ∧ (State.foundBad s c off).free = s.free ∧ (State.foundBad s c off).pending = s.pending ∧ (State.foundBad s c off).regs = s.regs ∧ (State.foundBad s c off).amap = s.amap ∧ (State.foundBad s c off).home = s.home ∧ (State.foundBad s c off).tier = s.tier ∧ (State.foundBad s c off).dm = s.dm ∧ (State.foundBad s c off).brg = s.brg ∧ (State.foundBad s c off).clk = s.clk ∧ (State.foundBad s c off).hsc = s.hsc ∧ (State.foundBad s c off).boot = s.boot ∧ (State.foundBad s c off).core = s.core ∧ (State.foundBad s c off).mgmt = s.mgmt := by
  obtain ⟨P, hP⟩ : ∃ P : State → Prop, P = fun x => x.now = s.now ∧ x.free = s.free ∧ x.pending = s.pending ∧ x.regs = s.regs ∧ x.amap = s.amap ∧ x.home = s.home ∧ x.tier = s.tier ∧ x.dm = s.dm ∧ x.brg = s.brg ∧ x.clk = s.clk ∧ x.hsc = s.hsc ∧ x.boot = s.boot ∧ x.core = s.core ∧ x.mgmt = s.mgmt := ⟨_, rfl⟩
  suffices h : P (State.foundBad s c off) by rw [hP] at h; exact h
  unfold State.foundBad; (try dsimp only); (repeat' split) <;> skip <;> subst hP <;> simp_all [State.fileP_keeps _ _ _ _, State.raise_keeps _ _, State.countUe_keeps _ _, State.ownedBad_keeps _ _ _]

theorem State.scrubBad_keeps (s : State) (c : ℕ) (off : ℕ) :
    (State.scrubBad s c off).now = s.now ∧ (State.scrubBad s c off).free = s.free ∧ (State.scrubBad s c off).pending = s.pending ∧ (State.scrubBad s c off).regs = s.regs ∧ (State.scrubBad s c off).amap = s.amap ∧ (State.scrubBad s c off).home = s.home ∧ (State.scrubBad s c off).tier = s.tier ∧ (State.scrubBad s c off).dm = s.dm ∧ (State.scrubBad s c off).brg = s.brg ∧ (State.scrubBad s c off).clk = s.clk ∧ (State.scrubBad s c off).hsc = s.hsc ∧ (State.scrubBad s c off).boot = s.boot ∧ (State.scrubBad s c off).core = s.core ∧ (State.scrubBad s c off).mgmt = s.mgmt := by
  unfold State.scrubBad; (repeat' split) <;> simp [State.ownedBad_keeps _ _ _, State.lineBad_keeps _ _ _]

theorem State.foundTagFail_keeps (s : State) (c : ℕ) (off : ℕ) :
    (State.foundTagFail s c off).now = s.now ∧ (State.foundTagFail s c off).pending = s.pending ∧ (State.foundTagFail s c off).regs = s.regs ∧ (State.foundTagFail s c off).amap = s.amap ∧ (State.foundTagFail s c off).home = s.home ∧ (State.foundTagFail s c off).tier = s.tier ∧ (State.foundTagFail s c off).dm = s.dm ∧ (State.foundTagFail s c off).brg = s.brg ∧ (State.foundTagFail s c off).clk = s.clk ∧ (State.foundTagFail s c off).hsc = s.hsc ∧ (State.foundTagFail s c off).boot = s.boot ∧ (State.foundTagFail s c off).core = s.core ∧ (State.foundTagFail s c off).mgmt = s.mgmt := by
  unfold State.foundTagFail; (repeat' split) <;> simp [State.poisonMedia_keeps _ _ _ _ _, State.fileP_keeps _ _ _ _, State.tagFailed_keeps _ _ _, State.lineBad_keeps _ _ _, State.metaBad_keeps _ _ _]

theorem State.tagRaised_keeps (s : State) (c : ℕ) (off : ℕ) :
    (State.tagRaised s c off).now = s.now ∧ (State.tagRaised s c off).free = s.free ∧ (State.tagRaised s c off).pending = s.pending ∧ (State.tagRaised s c off).regs = s.regs ∧ (State.tagRaised s c off).flt = s.flt ∧ (State.tagRaised s c off).amap = s.amap ∧ (State.tagRaised s c off).home = s.home ∧ (State.tagRaised s c off).ddr = s.ddr ∧ (State.tagRaised s c off).tier = s.tier ∧ (State.tagRaised s c off).dm = s.dm ∧ (State.tagRaised s c off).brg = s.brg ∧ (State.tagRaised s c off).clk = s.clk ∧ (State.tagRaised s c off).hsc = s.hsc ∧ (State.tagRaised s c off).boot = s.boot ∧ (State.tagRaised s c off).core = s.core ∧ (State.tagRaised s c off).mgmt = s.mgmt := by
  unfold State.tagRaised; (repeat' split) <;> simp [State.tagFailed_keeps _ _ _]

theorem State.fromOther_keeps (s : State) (c : ℕ) (off : ℕ) (other : ℕ) :
    (State.fromOther s c off other).now = s.now ∧ (State.fromOther s c off other).free = s.free ∧ (State.fromOther s c off other).pending = s.pending ∧ (State.fromOther s c off other).out = s.out ∧ (State.fromOther s c off other).regs = s.regs ∧ (State.fromOther s c off other).ret = s.ret ∧ (State.fromOther s c off other).evt = s.evt ∧ (State.fromOther s c off other).flt = s.flt ∧ (State.fromOther s c off other).obs = s.obs ∧ (State.fromOther s c off other).host = s.host ∧ (State.fromOther s c off other).amap = s.amap ∧ (State.fromOther s c off other).home = s.home ∧ (State.fromOther s c off other).ddr = s.ddr ∧ (State.fromOther s c off other).tier = s.tier ∧ (State.fromOther s c off other).dm = s.dm ∧ (State.fromOther s c off other).dunas = s.dunas ∧ (State.fromOther s c off other).brg = s.brg ∧ (State.fromOther s c off other).clk = s.clk ∧ (State.fromOther s c off other).hsc = s.hsc ∧ (State.fromOther s c off other).boot = s.boot ∧ (State.fromOther s c off other).core = s.core ∧ (State.fromOther s c off other).mgmt = s.mgmt := by
  unfold State.fromOther; (repeat' split) <;> simp [State.storeAt_keeps _ _ _ _]

theorem State.fromPartner_keeps (s : State) (c : ℕ) (off : ℕ) (other : ℕ) (r : CheckResult) :
    (State.fromPartner s c off other r).now = s.now ∧ (State.fromPartner s c off other r).free = s.free ∧ (State.fromPartner s c off other r).pending = s.pending ∧ (State.fromPartner s c off other r).regs = s.regs ∧ (State.fromPartner s c off other r).home = s.home ∧ (State.fromPartner s c off other r).dm = s.dm ∧ (State.fromPartner s c off other r).brg = s.brg ∧ (State.fromPartner s c off other r).clk = s.clk ∧ (State.fromPartner s c off other r).hsc = s.hsc ∧ (State.fromPartner s c off other r).boot = s.boot ∧ (State.fromPartner s c off other r).core = s.core ∧ (State.fromPartner s c off other r).mgmt = s.mgmt := by
  unfold State.fromPartner; (repeat' split) <;> simp [State.fromOther_keeps _ _ _ _, State.corrected_keeps _ _ _ _, State.countUe_keeps _ _, State.tagRaised_keeps _ _ _]

theorem State.ddrpResult_keeps (s : State) (c : ℕ) (r : ℕ) :
    (State.ddrpResult s c r).now = s.now ∧ (State.ddrpResult s c r).free = s.free ∧ (State.ddrpResult s c r).pending = s.pending ∧ (State.ddrpResult s c r).out = s.out ∧ (State.ddrpResult s c r).regs = s.regs ∧ (State.ddrpResult s c r).ret = s.ret ∧ (State.ddrpResult s c r).evt = s.evt ∧ (State.ddrpResult s c r).flt = s.flt ∧ (State.ddrpResult s c r).obs = s.obs ∧ (State.ddrpResult s c r).host = s.host ∧ (State.ddrpResult s c r).amap = s.amap ∧ (State.ddrpResult s c r).mem = s.mem ∧ (State.ddrpResult s c r).home = s.home ∧ (State.ddrpResult s c r).tier = s.tier ∧ (State.ddrpResult s c r).dm = s.dm ∧ (State.ddrpResult s c r).dunas = s.dunas ∧ (State.ddrpResult s c r).brg = s.brg ∧ (State.ddrpResult s c r).clk = s.clk ∧ (State.ddrpResult s c r).hsc = s.hsc ∧ (State.ddrpResult s c r).boot = s.boot ∧ (State.ddrpResult s c r).core = s.core ∧ (State.ddrpResult s c r).mgmt = s.mgmt := by
  unfold State.ddrpResult; simp [State.onChan_keeps _ _ _]

theorem State.spareCmd_keeps (s : State) (c : ℕ) (rank : ℕ) :
    (State.spareCmd s c rank).now = s.now ∧ (State.spareCmd s c rank).free = s.free ∧ (State.spareCmd s c rank).pending = s.pending ∧ (State.spareCmd s c rank).out = s.out ∧ (State.spareCmd s c rank).regs = s.regs ∧ (State.spareCmd s c rank).ret = s.ret ∧ (State.spareCmd s c rank).evt = s.evt ∧ (State.spareCmd s c rank).flt = s.flt ∧ (State.spareCmd s c rank).obs = s.obs ∧ (State.spareCmd s c rank).host = s.host ∧ (State.spareCmd s c rank).amap = s.amap ∧ (State.spareCmd s c rank).mem = s.mem ∧ (State.spareCmd s c rank).home = s.home ∧ (State.spareCmd s c rank).tier = s.tier ∧ (State.spareCmd s c rank).dm = s.dm ∧ (State.spareCmd s c rank).dunas = s.dunas ∧ (State.spareCmd s c rank).brg = s.brg ∧ (State.spareCmd s c rank).clk = s.clk ∧ (State.spareCmd s c rank).hsc = s.hsc ∧ (State.spareCmd s c rank).boot = s.boot ∧ (State.spareCmd s c rank).core = s.core ∧ (State.spareCmd s c rank).mgmt = s.mgmt := by
  unfold State.spareCmd; simp [State.ddrpResult_keeps _ _ _, State.startSparing_keeps _ _ _]

theorem State.leaveRank_keeps (s : State) (c : ℕ) (rank : ℕ) :
    (State.leaveRank s c rank).now = s.now ∧ (State.leaveRank s c rank).free = s.free ∧ (State.leaveRank s c rank).pending = s.pending ∧ (State.leaveRank s c rank).out = s.out ∧ (State.leaveRank s c rank).regs = s.regs ∧ (State.leaveRank s c rank).ret = s.ret ∧ (State.leaveRank s c rank).evt = s.evt ∧ (State.leaveRank s c rank).flt = s.flt ∧ (State.leaveRank s c rank).obs = s.obs ∧ (State.leaveRank s c rank).host = s.host ∧ (State.leaveRank s c rank).amap = s.amap ∧ (State.leaveRank s c rank).home = s.home ∧ (State.leaveRank s c rank).tier = s.tier ∧ (State.leaveRank s c rank).dm = s.dm ∧ (State.leaveRank s c rank).dunas = s.dunas ∧ (State.leaveRank s c rank).brg = s.brg ∧ (State.leaveRank s c rank).clk = s.clk ∧ (State.leaveRank s c rank).hsc = s.hsc ∧ (State.leaveRank s c rank).boot = s.boot ∧ (State.leaveRank s c rank).core = s.core ∧ (State.leaveRank s c rank).mgmt = s.mgmt := by
  unfold State.leaveRank; simp [State.onChan_keeps _ _ _]

theorem State.softCmd_keeps (s : State) (c : ℕ) (rank : ℕ) :
    (State.softCmd s c rank).now = s.now ∧ (State.softCmd s c rank).free = s.free ∧ (State.softCmd s c rank).pending = s.pending ∧ (State.softCmd s c rank).regs = s.regs ∧ (State.softCmd s c rank).flt = s.flt ∧ (State.softCmd s c rank).mem = s.mem ∧ (State.softCmd s c rank).home = s.home ∧ (State.softCmd s c rank).dm = s.dm ∧ (State.softCmd s c rank).brg = s.brg ∧ (State.softCmd s c rank).clk = s.clk ∧ (State.softCmd s c rank).hsc = s.hsc ∧ (State.softCmd s c rank).boot = s.boot ∧ (State.softCmd s c rank).core = s.core ∧ (State.softCmd s c rank).mgmt = s.mgmt := by
  unfold State.softCmd; simp [State.ddrpResult_keeps _ _ _, State.startRepair_keeps _ _ _]

theorem State.softDue_keeps (s : State) (c : ℕ) (k : ℕ) (end_ : ℕ) :
    (State.softDue s c k end_).free = s.free ∧ (State.softDue s c k end_).pending = s.pending ∧ (State.softDue s c k end_).out = s.out ∧ (State.softDue s c k end_).regs = s.regs ∧ (State.softDue s c k end_).ret = s.ret ∧ (State.softDue s c k end_).evt = s.evt ∧ (State.softDue s c k end_).flt = s.flt ∧ (State.softDue s c k end_).host = s.host ∧ (State.softDue s c k end_).amap = s.amap ∧ (State.softDue s c k end_).mem = s.mem ∧ (State.softDue s c k end_).home = s.home ∧ (State.softDue s c k end_).tier = s.tier ∧ (State.softDue s c k end_).dm = s.dm ∧ (State.softDue s c k end_).dunas = s.dunas ∧ (State.softDue s c k end_).brg = s.brg ∧ (State.softDue s c k end_).clk = s.clk ∧ (State.softDue s c k end_).hsc = s.hsc ∧ (State.softDue s c k end_).boot = s.boot ∧ (State.softDue s c k end_).core = s.core ∧ (State.softDue s c k end_).mgmt = s.mgmt := by
  unfold State.softDue; simp [State.onChan_keeps _ _ _, State.nextDue_keeps _ _ _, State.reach_keeps _ _]

theorem State.softStep_keeps (s : State) (c : ℕ) (n : ℕ) (r : RepairRec) :
    (State.softStep s c n r).free = s.free ∧ (State.softStep s c n r).pending = s.pending ∧ (State.softStep s c n r).out = s.out ∧ (State.softStep s c n r).regs = s.regs ∧ (State.softStep s c n r).ret = s.ret ∧ (State.softStep s c n r).evt = s.evt ∧ (State.softStep s c n r).flt = s.flt ∧ (State.softStep s c n r).host = s.host ∧ (State.softStep s c n r).amap = s.amap ∧ (State.softStep s c n r).mem = s.mem ∧ (State.softStep s c n r).home = s.home ∧ (State.softStep s c n r).tier = s.tier ∧ (State.softStep s c n r).dm = s.dm ∧ (State.softStep s c n r).dunas = s.dunas ∧ (State.softStep s c n r).brg = s.brg ∧ (State.softStep s c n r).clk = s.clk ∧ (State.softStep s c n r).hsc = s.hsc ∧ (State.softStep s c n r).boot = s.boot ∧ (State.softStep s c n r).core = s.core ∧ (State.softStep s c n r).mgmt = s.mgmt := by
  unfold State.softStep; simp [State.repayRank_keeps _ _ _, State.softDue_keeps _ _ _ _]

theorem State.hardCmd_keeps (s : State) (c : ℕ) :
    (State.hardCmd s c).now = s.now ∧ (State.hardCmd s c).free = s.free ∧ (State.hardCmd s c).pending = s.pending ∧ (State.hardCmd s c).out = s.out ∧ (State.hardCmd s c).regs = s.regs ∧ (State.hardCmd s c).ret = s.ret ∧ (State.hardCmd s c).evt = s.evt ∧ (State.hardCmd s c).flt = s.flt ∧ (State.hardCmd s c).obs = s.obs ∧ (State.hardCmd s c).host = s.host ∧ (State.hardCmd s c).amap = s.amap ∧ (State.hardCmd s c).mem = s.mem ∧ (State.hardCmd s c).home = s.home ∧ (State.hardCmd s c).tier = s.tier ∧ (State.hardCmd s c).dm = s.dm ∧ (State.hardCmd s c).dunas = s.dunas ∧ (State.hardCmd s c).brg = s.brg ∧ (State.hardCmd s c).clk = s.clk ∧ (State.hardCmd s c).hsc = s.hsc ∧ (State.hardCmd s c).boot = s.boot ∧ (State.hardCmd s c).core = s.core ∧ (State.hardCmd s c).mgmt = s.mgmt := by
  unfold State.hardCmd; simp [State.ddrpResult_keeps _ _ _, State.onChan_keeps _ _ _]

theorem State.setMir_keeps (s : State) (ev : ℕ) (m : MirState) :
    (State.setMir s ev m).now = s.now ∧ (State.setMir s ev m).free = s.free ∧ (State.setMir s ev m).pending = s.pending ∧ (State.setMir s ev m).out = s.out ∧ (State.setMir s ev m).regs = s.regs ∧ (State.setMir s ev m).ret = s.ret ∧ (State.setMir s ev m).evt = s.evt ∧ (State.setMir s ev m).flt = s.flt ∧ (State.setMir s ev m).obs = s.obs ∧ (State.setMir s ev m).host = s.host ∧ (State.setMir s ev m).amap = s.amap ∧ (State.setMir s ev m).mem = s.mem ∧ (State.setMir s ev m).home = s.home ∧ (State.setMir s ev m).tier = s.tier ∧ (State.setMir s ev m).dm = s.dm ∧ (State.setMir s ev m).dunas = s.dunas ∧ (State.setMir s ev m).brg = s.brg ∧ (State.setMir s ev m).clk = s.clk ∧ (State.setMir s ev m).hsc = s.hsc ∧ (State.setMir s ev m).boot = s.boot ∧ (State.setMir s ev m).core = s.core ∧ (State.setMir s ev m).mgmt = s.mgmt := by
  unfold State.setMir; simp [State.onChan_keeps _ _ _]

theorem State.startSilver_keeps (s : State) (c : ℕ) (m : MirState) :
    (State.startSilver s c m).now = s.now ∧ (State.startSilver s c m).free = s.free ∧ (State.startSilver s c m).pending = s.pending ∧ (State.startSilver s c m).out = s.out ∧ (State.startSilver s c m).regs = s.regs ∧ (State.startSilver s c m).ret = s.ret ∧ (State.startSilver s c m).evt = s.evt ∧ (State.startSilver s c m).flt = s.flt ∧ (State.startSilver s c m).obs = s.obs ∧ (State.startSilver s c m).host = s.host ∧ (State.startSilver s c m).amap = s.amap ∧ (State.startSilver s c m).mem = s.mem ∧ (State.startSilver s c m).home = s.home ∧ (State.startSilver s c m).tier = s.tier ∧ (State.startSilver s c m).dm = s.dm ∧ (State.startSilver s c m).dunas = s.dunas ∧ (State.startSilver s c m).brg = s.brg ∧ (State.startSilver s c m).clk = s.clk ∧ (State.startSilver s c m).hsc = s.hsc ∧ (State.startSilver s c m).boot = s.boot ∧ (State.startSilver s c m).core = s.core ∧ (State.startSilver s c m).mgmt = s.mgmt := by
  unfold State.startSilver; simp [State.ddrpResult_keeps _ _ _, State.setMir_keeps _ _ _, State.onChan_keeps _ _ _]

theorem State.resilverCmd_keeps (s : State) (c : ℕ) :
    (State.resilverCmd s c).now = s.now ∧ (State.resilverCmd s c).free = s.free ∧ (State.resilverCmd s c).pending = s.pending ∧ (State.resilverCmd s c).out = s.out ∧ (State.resilverCmd s c).regs = s.regs ∧ (State.resilverCmd s c).ret = s.ret ∧ (State.resilverCmd s c).evt = s.evt ∧ (State.resilverCmd s c).flt = s.flt ∧ (State.resilverCmd s c).obs = s.obs ∧ (State.resilverCmd s c).host = s.host ∧ (State.resilverCmd s c).amap = s.amap ∧ (State.resilverCmd s c).mem = s.mem ∧ (State.resilverCmd s c).home = s.home ∧ (State.resilverCmd s c).tier = s.tier ∧ (State.resilverCmd s c).dm = s.dm ∧ (State.resilverCmd s c).dunas = s.dunas ∧ (State.resilverCmd s c).brg = s.brg ∧ (State.resilverCmd s c).clk = s.clk ∧ (State.resilverCmd s c).hsc = s.hsc ∧ (State.resilverCmd s c).boot = s.boot ∧ (State.resilverCmd s c).core = s.core ∧ (State.resilverCmd s c).mgmt = s.mgmt := by
  unfold State.resilverCmd; (repeat' split) <;> simp [State.ddrpResult_keeps _ _ _, State.startSilver_keeps _ _ _]

theorem State.unresilver_keeps (s : State) (c : ℕ) :
    (State.unresilver s c).now = s.now ∧ (State.unresilver s c).free = s.free ∧ (State.unresilver s c).pending = s.pending ∧ (State.unresilver s c).regs = s.regs ∧ (State.unresilver s c).amap = s.amap ∧ (State.unresilver s c).home = s.home ∧ (State.unresilver s c).tier = s.tier ∧ (State.unresilver s c).dm = s.dm ∧ (State.unresilver s c).brg = s.brg ∧ (State.unresilver s c).clk = s.clk ∧ (State.unresilver s c).hsc = s.hsc ∧ (State.unresilver s c).boot = s.boot ∧ (State.unresilver s c).core = s.core ∧ (State.unresilver s c).mgmt = s.mgmt := by
  unfold State.unresilver; (repeat' split) <;> simp [State.ddrpResult_keeps _ _ _, State.raiseChan_keeps _ _ _ _ _ _, State.setMir_keeps _ _ _, State.copyWalk_keeps _ _]

theorem State.svcResult_keeps (s : State) (c : ℕ) (r : ℕ) :
    (State.svcResult s c r).now = s.now ∧ (State.svcResult s c r).free = s.free ∧ (State.svcResult s c r).pending = s.pending ∧ (State.svcResult s c r).out = s.out ∧ (State.svcResult s c r).regs = s.regs ∧ (State.svcResult s c r).ret = s.ret ∧ (State.svcResult s c r).evt = s.evt ∧ (State.svcResult s c r).flt = s.flt ∧ (State.svcResult s c r).obs = s.obs ∧ (State.svcResult s c r).host = s.host ∧ (State.svcResult s c r).amap = s.amap ∧ (State.svcResult s c r).mem = s.mem ∧ (State.svcResult s c r).home = s.home ∧ (State.svcResult s c r).tier = s.tier ∧ (State.svcResult s c r).dm = s.dm ∧ (State.svcResult s c r).dunas = s.dunas ∧ (State.svcResult s c r).brg = s.brg ∧ (State.svcResult s c r).clk = s.clk ∧ (State.svcResult s c r).hsc = s.hsc ∧ (State.svcResult s c r).boot = s.boot ∧ (State.svcResult s c r).core = s.core ∧ (State.svcResult s c r).mgmt = s.mgmt := by
  unfold State.svcResult; simp [State.onChan_keeps _ _ _]

theorem State.endDrain_keeps (s : State) (c : ℕ) :
    (State.endDrain s c).now = s.now ∧ (State.endDrain s c).pending = s.pending ∧ (State.endDrain s c).regs = s.regs ∧ (State.endDrain s c).home = s.home ∧ (State.endDrain s c).dm = s.dm ∧ (State.endDrain s c).brg = s.brg ∧ (State.endDrain s c).clk = s.clk ∧ (State.endDrain s c).hsc = s.hsc ∧ (State.endDrain s c).boot = s.boot ∧ (State.endDrain s c).core = s.core ∧ (State.endDrain s c).mgmt = s.mgmt := by
  unfold State.endDrain; simp [State.moveMeta_keeps _ _, State.drained_keeps _ _, State.drainStalled_keeps _ _]

theorem State.drainCmd_keeps (s : State) (c : ℕ) :
    (State.drainCmd s c).now = s.now ∧ (State.drainCmd s c).pending = s.pending ∧ (State.drainCmd s c).dm = s.dm ∧ (State.drainCmd s c).brg = s.brg ∧ (State.drainCmd s c).clk = s.clk ∧ (State.drainCmd s c).hsc = s.hsc ∧ (State.drainCmd s c).boot = s.boot ∧ (State.drainCmd s c).core = s.core := by
  unfold State.drainCmd; (repeat' split) <;> simp [State.svcResult_keeps _ _ _, State.onChan_keeps _ _ _, State.moveMeta_keeps _ _, State.giveUp_keeps _ _, State.drained_keeps _ _]

theorem State.powerDownCmd_keeps (s : State) (c : ℕ) :
    (State.powerDownCmd s c).now = s.now ∧ (State.powerDownCmd s c).free = s.free ∧ (State.powerDownCmd s c).pending = s.pending ∧ (State.powerDownCmd s c).regs = s.regs ∧ (State.powerDownCmd s c).flt = s.flt ∧ (State.powerDownCmd s c).amap = s.amap ∧ (State.powerDownCmd s c).home = s.home ∧ (State.powerDownCmd s c).tier = s.tier ∧ (State.powerDownCmd s c).dm = s.dm ∧ (State.powerDownCmd s c).brg = s.brg ∧ (State.powerDownCmd s c).clk = s.clk ∧ (State.powerDownCmd s c).hsc = s.hsc ∧ (State.powerDownCmd s c).boot = s.boot ∧ (State.powerDownCmd s c).core = s.core ∧ (State.powerDownCmd s c).mgmt = s.mgmt := by
  unfold State.powerDownCmd; simp [State.raiseChan_keeps _ _ _ _ _ _, State.svcResult_keeps _ _ _, State.onChan_keeps _ _ _, State.dropLines_keeps _ _]

theorem State.returnCmd_keeps (s : State) (c : ℕ) (a : Option Spd) (b : Option Spd) :
    (State.returnCmd s c a b).now = s.now ∧ (State.returnCmd s c a b).pending = s.pending ∧ (State.returnCmd s c a b).flt = s.flt ∧ (State.returnCmd s c a b).amap = s.amap ∧ (State.returnCmd s c a b).home = s.home ∧ (State.returnCmd s c a b).tier = s.tier ∧ (State.returnCmd s c a b).dm = s.dm ∧ (State.returnCmd s c a b).brg = s.brg ∧ (State.returnCmd s c a b).clk = s.clk ∧ (State.returnCmd s c a b).hsc = s.hsc ∧ (State.returnCmd s c a b).boot = s.boot ∧ (State.returnCmd s c a b).core = s.core ∧ (State.returnCmd s c a b).mgmt = s.mgmt := by
  unfold State.returnCmd; (repeat' split) <;> simp [State.svcResult_keeps _ _ _, State.discover_keeps _ _ _ _ _]

theorem State.svcCancelCmd_keeps (s : State) (c : ℕ) :
    (State.svcCancelCmd s c).now = s.now ∧ (State.svcCancelCmd s c).free = s.free ∧ (State.svcCancelCmd s c).pending = s.pending ∧ (State.svcCancelCmd s c).regs = s.regs ∧ (State.svcCancelCmd s c).flt = s.flt ∧ (State.svcCancelCmd s c).amap = s.amap ∧ (State.svcCancelCmd s c).mem = s.mem ∧ (State.svcCancelCmd s c).home = s.home ∧ (State.svcCancelCmd s c).tier = s.tier ∧ (State.svcCancelCmd s c).dm = s.dm ∧ (State.svcCancelCmd s c).brg = s.brg ∧ (State.svcCancelCmd s c).clk = s.clk ∧ (State.svcCancelCmd s c).hsc = s.hsc ∧ (State.svcCancelCmd s c).boot = s.boot ∧ (State.svcCancelCmd s c).core = s.core ∧ (State.svcCancelCmd s c).mgmt = s.mgmt := by
  unfold State.svcCancelCmd; simp [State.raiseChan_keeps _ _ _ _ _ _, State.svcResult_keeps _ _ _, State.onChan_keeps _ _ _]

theorem State.sayHot_keeps (s : State) (c : ℕ) (o : ℕ) (n : ℕ) (slot : ℕ) :
    (State.sayHot s c o n slot).now = s.now ∧ (State.sayHot s c o n slot).free = s.free ∧ (State.sayHot s c o n slot).pending = s.pending ∧ (State.sayHot s c o n slot).regs = s.regs ∧ (State.sayHot s c o n slot).flt = s.flt ∧ (State.sayHot s c o n slot).amap = s.amap ∧ (State.sayHot s c o n slot).mem = s.mem ∧ (State.sayHot s c o n slot).home = s.home ∧ (State.sayHot s c o n slot).ddr = s.ddr ∧ (State.sayHot s c o n slot).tier = s.tier ∧ (State.sayHot s c o n slot).dm = s.dm ∧ (State.sayHot s c o n slot).brg = s.brg ∧ (State.sayHot s c o n slot).clk = s.clk ∧ (State.sayHot s c o n slot).hsc = s.hsc ∧ (State.sayHot s c o n slot).boot = s.boot ∧ (State.sayHot s c o n slot).core = s.core ∧ (State.sayHot s c o n slot).mgmt = s.mgmt := by
  unfold State.sayHot; simp [State.raiseChan_keeps _ _ _ _ _ _]

end Sys2Proof.Machine
end

