-- ==== Sys2Proof/Laws/FabricKeeps.lean ====
section
/-! SUPPORT. Which fields of the state the operations of Fabric leave as they are: a proof
over the operation `State.op` gives simp its lemma `State.op_keeps _ _`. -/

namespace Sys2Proof.Machine

theorem State.raiseDlnk_keeps (s : State) (e : ℕ) (src : ℕ) (code : ℕ) :
    (State.raiseDlnk s e src code).now = s.now ∧ (State.raiseDlnk s e src code).free = s.free ∧ (State.raiseDlnk s e src code).pending = s.pending ∧ (State.raiseDlnk s e src code).regs = s.regs ∧ (State.raiseDlnk s e src code).flt = s.flt ∧ (State.raiseDlnk s e src code).amap = s.amap ∧ (State.raiseDlnk s e src code).mem = s.mem ∧ (State.raiseDlnk s e src code).home = s.home ∧ (State.raiseDlnk s e src code).ddr = s.ddr ∧ (State.raiseDlnk s e src code).tier = s.tier ∧ (State.raiseDlnk s e src code).dm = s.dm ∧ (State.raiseDlnk s e src code).brg = s.brg ∧ (State.raiseDlnk s e src code).clk = s.clk ∧ (State.raiseDlnk s e src code).hsc = s.hsc ∧ (State.raiseDlnk s e src code).boot = s.boot ∧ (State.raiseDlnk s e src code).core = s.core ∧ (State.raiseDlnk s e src code).mgmt = s.mgmt := by
  unfold State.raiseDlnk; simp [State.raise_keeps _ _]

theorem State.modOff_keeps (s : State) (e : ℕ) :
    (State.modOff s e).now = s.now ∧ (State.modOff s e).free = s.free ∧ (State.modOff s e).pending = s.pending ∧ (State.modOff s e).out = s.out ∧ (State.modOff s e).regs = s.regs ∧ (State.modOff s e).ret = s.ret ∧ (State.modOff s e).evt = s.evt ∧ (State.modOff s e).flt = s.flt ∧ (State.modOff s e).obs = s.obs ∧ (State.modOff s e).host = s.host ∧ (State.modOff s e).amap = s.amap ∧ (State.modOff s e).mem = s.mem ∧ (State.modOff s e).home = s.home ∧ (State.modOff s e).ddr = s.ddr ∧ (State.modOff s e).tier = s.tier ∧ (State.modOff s e).dm = s.dm ∧ (State.modOff s e).brg = s.brg ∧ (State.modOff s e).clk = s.clk ∧ (State.modOff s e).hsc = s.hsc ∧ (State.modOff s e).boot = s.boot ∧ (State.modOff s e).core = s.core ∧ (State.modOff s e).mgmt = s.mgmt := by
  unfold State.modOff; simp [State.onMod_keeps _ _ _]

theorem State.moveSends_keeps (s : State) (e : ℕ) :
    (State.moveSends s e).now = s.now ∧ (State.moveSends s e).free = s.free ∧ (State.moveSends s e).pending = s.pending ∧ (State.moveSends s e).regs = s.regs ∧ (State.moveSends s e).ret = s.ret ∧ (State.moveSends s e).evt = s.evt ∧ (State.moveSends s e).flt = s.flt ∧ (State.moveSends s e).host = s.host ∧ (State.moveSends s e).amap = s.amap ∧ (State.moveSends s e).mem = s.mem ∧ (State.moveSends s e).home = s.home ∧ (State.moveSends s e).ddr = s.ddr ∧ (State.moveSends s e).tier = s.tier ∧ (State.moveSends s e).dm = s.dm ∧ (State.moveSends s e).brg = s.brg ∧ (State.moveSends s e).clk = s.clk ∧ (State.moveSends s e).hsc = s.hsc ∧ (State.moveSends s e).boot = s.boot ∧ (State.moveSends s e).core = s.core ∧ (State.moveSends s e).mgmt = s.mgmt := by
  unfold State.moveSends; (repeat' split) <;> simp [State.onMod_keeps _ _ _, State.emit_keeps _ _]

theorem State.recallSent_keeps (s : State) (e : ℕ) :
    (State.recallSent s e).now = s.now ∧ (State.recallSent s e).free = s.free ∧ (State.recallSent s e).pending = s.pending ∧ (State.recallSent s e).out = s.out ∧ (State.recallSent s e).regs = s.regs ∧ (State.recallSent s e).ret = s.ret ∧ (State.recallSent s e).evt = s.evt ∧ (State.recallSent s e).flt = s.flt ∧ (State.recallSent s e).obs = s.obs ∧ (State.recallSent s e).host = s.host ∧ (State.recallSent s e).amap = s.amap ∧ (State.recallSent s e).mem = s.mem ∧ (State.recallSent s e).home = s.home ∧ (State.recallSent s e).ddr = s.ddr ∧ (State.recallSent s e).tier = s.tier ∧ (State.recallSent s e).dm = s.dm ∧ (State.recallSent s e).brg = s.brg ∧ (State.recallSent s e).clk = s.clk ∧ (State.recallSent s e).hsc = s.hsc ∧ (State.recallSent s e).boot = s.boot ∧ (State.recallSent s e).core = s.core ∧ (State.recallSent s e).mgmt = s.mgmt := by
  unfold State.recallSent; simp [State.onMod_keeps _ _ _]

theorem State.moveFlits_keeps (s : State) (e : ℕ) :
    (State.moveFlits s e).now = s.now ∧ (State.moveFlits s e).free = s.free ∧ (State.moveFlits s e).pending = s.pending ∧ (State.moveFlits s e).regs = s.regs ∧ (State.moveFlits s e).ret = s.ret ∧ (State.moveFlits s e).evt = s.evt ∧ (State.moveFlits s e).flt = s.flt ∧ (State.moveFlits s e).host = s.host ∧ (State.moveFlits s e).amap = s.amap ∧ (State.moveFlits s e).mem = s.mem ∧ (State.moveFlits s e).home = s.home ∧ (State.moveFlits s e).ddr = s.ddr ∧ (State.moveFlits s e).tier = s.tier ∧ (State.moveFlits s e).dm = s.dm ∧ (State.moveFlits s e).brg = s.brg ∧ (State.moveFlits s e).clk = s.clk ∧ (State.moveFlits s e).hsc = s.hsc ∧ (State.moveFlits s e).boot = s.boot ∧ (State.moveFlits s e).core = s.core ∧ (State.moveFlits s e).mgmt = s.mgmt := by
  unfold State.moveFlits; (repeat' split) <;> simp [State.moveSends_keeps _ _, State.recallSent_keeps _ _]

theorem State.pullSends_keeps (s : State) (e : ℕ) :
    (State.pullSends s e).now = s.now ∧ (State.pullSends s e).free = s.free ∧ (State.pullSends s e).pending = s.pending ∧ (State.pullSends s e).regs = s.regs ∧ (State.pullSends s e).ret = s.ret ∧ (State.pullSends s e).evt = s.evt ∧ (State.pullSends s e).flt = s.flt ∧ (State.pullSends s e).host = s.host ∧ (State.pullSends s e).amap = s.amap ∧ (State.pullSends s e).mem = s.mem ∧ (State.pullSends s e).home = s.home ∧ (State.pullSends s e).ddr = s.ddr ∧ (State.pullSends s e).tier = s.tier ∧ (State.pullSends s e).dm = s.dm ∧ (State.pullSends s e).brg = s.brg ∧ (State.pullSends s e).clk = s.clk ∧ (State.pullSends s e).hsc = s.hsc ∧ (State.pullSends s e).boot = s.boot ∧ (State.pullSends s e).core = s.core ∧ (State.pullSends s e).mgmt = s.mgmt := by
  unfold State.pullSends; simp [State.moveSends_keeps _ _]

theorem State.retireMod_keeps (s : State) (e : ℕ) (st : DlnkState) :
    (State.retireMod s e st).now = s.now ∧ (State.retireMod s e st).free = s.free ∧ (State.retireMod s e st).pending = s.pending ∧ (State.retireMod s e st).regs = s.regs ∧ (State.retireMod s e st).flt = s.flt ∧ (State.retireMod s e st).amap = s.amap ∧ (State.retireMod s e st).mem = s.mem ∧ (State.retireMod s e st).home = s.home ∧ (State.retireMod s e st).ddr = s.ddr ∧ (State.retireMod s e st).tier = s.tier ∧ (State.retireMod s e st).dm = s.dm ∧ (State.retireMod s e st).brg = s.brg ∧ (State.retireMod s e st).clk = s.clk ∧ (State.retireMod s e st).hsc = s.hsc ∧ (State.retireMod s e st).boot = s.boot ∧ (State.retireMod s e st).core = s.core ∧ (State.retireMod s e st).mgmt = s.mgmt := by
  unfold State.retireMod; simp [State.onMod_keeps _ _ _, State.raiseDlnk_keeps _ _ _ _, State.moveSends_keeps _ _]

theorem State.enterLreset_keeps (s : State) (e : ℕ) (cause : ℕ) :
    (State.enterLreset s e cause).now = s.now ∧ (State.enterLreset s e cause).free = s.free ∧ (State.enterLreset s e cause).pending = s.pending ∧ (State.enterLreset s e cause).regs = s.regs ∧ (State.enterLreset s e cause).flt = s.flt ∧ (State.enterLreset s e cause).amap = s.amap ∧ (State.enterLreset s e cause).mem = s.mem ∧ (State.enterLreset s e cause).home = s.home ∧ (State.enterLreset s e cause).ddr = s.ddr ∧ (State.enterLreset s e cause).tier = s.tier ∧ (State.enterLreset s e cause).dm = s.dm ∧ (State.enterLreset s e cause).brg = s.brg ∧ (State.enterLreset s e cause).clk = s.clk ∧ (State.enterLreset s e cause).hsc = s.hsc ∧ (State.enterLreset s e cause).boot = s.boot ∧ (State.enterLreset s e cause).core = s.core ∧ (State.enterLreset s e cause).mgmt = s.mgmt := by
  unfold State.enterLreset; simp [State.retireMod_keeps _ _ _, State.onMod_keeps _ _ _, State.raiseDlnk_keeps _ _ _ _, State.emit_keeps _ _]

theorem State.protoError_keeps (s : State) (e : ℕ) :
    (State.protoError s e).now = s.now ∧ (State.protoError s e).free = s.free ∧ (State.protoError s e).pending = s.pending ∧ (State.protoError s e).regs = s.regs ∧ (State.protoError s e).flt = s.flt ∧ (State.protoError s e).amap = s.amap ∧ (State.protoError s e).mem = s.mem ∧ (State.protoError s e).home = s.home ∧ (State.protoError s e).ddr = s.ddr ∧ (State.protoError s e).tier = s.tier ∧ (State.protoError s e).dm = s.dm ∧ (State.protoError s e).brg = s.brg ∧ (State.protoError s e).clk = s.clk ∧ (State.protoError s e).hsc = s.hsc ∧ (State.protoError s e).boot = s.boot ∧ (State.protoError s e).core = s.core ∧ (State.protoError s e).mgmt = s.mgmt := by
  unfold State.protoError; simp [State.enterLreset_keeps _ _ _, State.raiseDlnk_keeps _ _ _ _]

theorem State.sendParam_keeps (s : State) (e : ℕ) :
    (State.sendParam s e).now = s.now ∧ (State.sendParam s e).free = s.free ∧ (State.sendParam s e).pending = s.pending ∧ (State.sendParam s e).regs = s.regs ∧ (State.sendParam s e).ret = s.ret ∧ (State.sendParam s e).evt = s.evt ∧ (State.sendParam s e).flt = s.flt ∧ (State.sendParam s e).obs = s.obs ∧ (State.sendParam s e).host = s.host ∧ (State.sendParam s e).amap = s.amap ∧ (State.sendParam s e).mem = s.mem ∧ (State.sendParam s e).home = s.home ∧ (State.sendParam s e).ddr = s.ddr ∧ (State.sendParam s e).tier = s.tier ∧ (State.sendParam s e).dm = s.dm ∧ (State.sendParam s e).dunas = s.dunas ∧ (State.sendParam s e).brg = s.brg ∧ (State.sendParam s e).clk = s.clk ∧ (State.sendParam s e).hsc = s.hsc ∧ (State.sendParam s e).boot = s.boot ∧ (State.sendParam s e).core = s.core ∧ (State.sendParam s e).mgmt = s.mgmt := by
  unfold State.sendParam; simp [State.sendCtl_keeps _ _ _ _]

theorem State.degraded_keeps (s : State) (e : ℕ) :
    (State.degraded s e).now = s.now ∧ (State.degraded s e).free = s.free ∧ (State.degraded s e).pending = s.pending ∧ (State.degraded s e).regs = s.regs ∧ (State.degraded s e).flt = s.flt ∧ (State.degraded s e).amap = s.amap ∧ (State.degraded s e).mem = s.mem ∧ (State.degraded s e).home = s.home ∧ (State.degraded s e).ddr = s.ddr ∧ (State.degraded s e).tier = s.tier ∧ (State.degraded s e).dm = s.dm ∧ (State.degraded s e).brg = s.brg ∧ (State.degraded s e).clk = s.clk ∧ (State.degraded s e).hsc = s.hsc ∧ (State.degraded s e).boot = s.boot ∧ (State.degraded s e).core = s.core ∧ (State.degraded s e).mgmt = s.mgmt := by
  unfold State.degraded; simp [State.raiseDlnk_keeps _ _ _ _]

theorem State.brgUp_keeps (s : State) (e : ℕ) :
    (State.brgUp s e).now = s.now ∧ (State.brgUp s e).free = s.free ∧ (State.brgUp s e).pending = s.pending ∧ (State.brgUp s e).regs = s.regs ∧ (State.brgUp s e).flt = s.flt ∧ (State.brgUp s e).amap = s.amap ∧ (State.brgUp s e).mem = s.mem ∧ (State.brgUp s e).home = s.home ∧ (State.brgUp s e).ddr = s.ddr ∧ (State.brgUp s e).tier = s.tier ∧ (State.brgUp s e).dm = s.dm ∧ (State.brgUp s e).clk = s.clk ∧ (State.brgUp s e).hsc = s.hsc ∧ (State.brgUp s e).boot = s.boot ∧ (State.brgUp s e).core = s.core ∧ (State.brgUp s e).mgmt = s.mgmt := by
  unfold State.brgUp; simp [State.raise_keeps _ _]

theorem State.modUp_keeps (s : State) (e : ℕ) :
    (State.modUp s e).now = s.now ∧ (State.modUp s e).free = s.free ∧ (State.modUp s e).pending = s.pending ∧ (State.modUp s e).regs = s.regs ∧ (State.modUp s e).flt = s.flt ∧ (State.modUp s e).amap = s.amap ∧ (State.modUp s e).mem = s.mem ∧ (State.modUp s e).home = s.home ∧ (State.modUp s e).ddr = s.ddr ∧ (State.modUp s e).tier = s.tier ∧ (State.modUp s e).dm = s.dm ∧ (State.modUp s e).clk = s.clk ∧ (State.modUp s e).hsc = s.hsc ∧ (State.modUp s e).boot = s.boot ∧ (State.modUp s e).core = s.core ∧ (State.modUp s e).mgmt = s.mgmt := by
  unfold State.modUp; simp [State.onMod_keeps _ _ _, State.raiseDlnk_keeps _ _ _ _, State.brgUp_keeps _ _, State.pump_keeps _ _ _, State.pullSends_keeps _ _]

theorem State.sendCredit_keeps (s : State) (e : ℕ) :
    (State.sendCredit s e).now = s.now ∧ (State.sendCredit s e).free = s.free ∧ (State.sendCredit s e).pending = s.pending ∧ (State.sendCredit s e).regs = s.regs ∧ (State.sendCredit s e).flt = s.flt ∧ (State.sendCredit s e).amap = s.amap ∧ (State.sendCredit s e).mem = s.mem ∧ (State.sendCredit s e).home = s.home ∧ (State.sendCredit s e).ddr = s.ddr ∧ (State.sendCredit s e).tier = s.tier ∧ (State.sendCredit s e).dm = s.dm ∧ (State.sendCredit s e).clk = s.clk ∧ (State.sendCredit s e).hsc = s.hsc ∧ (State.sendCredit s e).boot = s.boot ∧ (State.sendCredit s e).core = s.core ∧ (State.sendCredit s e).mgmt = s.mgmt := by
  unfold State.sendCredit; simp [State.onMod_keeps _ _ _, State.sendCtl_keeps _ _ _ _, State.modUp_keeps _ _]

theorem State.sendAck_keeps (s : State) (e : ℕ) :
    (State.sendAck s e).now = s.now ∧ (State.sendAck s e).free = s.free ∧ (State.sendAck s e).pending = s.pending ∧ (State.sendAck s e).regs = s.regs ∧ (State.sendAck s e).ret = s.ret ∧ (State.sendAck s e).evt = s.evt ∧ (State.sendAck s e).flt = s.flt ∧ (State.sendAck s e).obs = s.obs ∧ (State.sendAck s e).host = s.host ∧ (State.sendAck s e).amap = s.amap ∧ (State.sendAck s e).mem = s.mem ∧ (State.sendAck s e).home = s.home ∧ (State.sendAck s e).ddr = s.ddr ∧ (State.sendAck s e).tier = s.tier ∧ (State.sendAck s e).dm = s.dm ∧ (State.sendAck s e).brg = s.brg ∧ (State.sendAck s e).clk = s.clk ∧ (State.sendAck s e).hsc = s.hsc ∧ (State.sendAck s e).boot = s.boot ∧ (State.sendAck s e).core = s.core ∧ (State.sendAck s e).mgmt = s.mgmt := by
  unfold State.sendAck; simp [State.onMod_keeps _ _ _, State.sendCtl_keeps _ _ _ _]

theorem State.replay_keeps (s : State) (e : ℕ) :
    (State.replay s e).now = s.now ∧ (State.replay s e).free = s.free ∧ (State.replay s e).pending = s.pending ∧ (State.replay s e).regs = s.regs ∧ (State.replay s e).ret = s.ret ∧ (State.replay s e).evt = s.evt ∧ (State.replay s e).flt = s.flt ∧ (State.replay s e).host = s.host ∧ (State.replay s e).amap = s.amap ∧ (State.replay s e).mem = s.mem ∧ (State.replay s e).home = s.home ∧ (State.replay s e).ddr = s.ddr ∧ (State.replay s e).tier = s.tier ∧ (State.replay s e).dm = s.dm ∧ (State.replay s e).brg = s.brg ∧ (State.replay s e).clk = s.clk ∧ (State.replay s e).hsc = s.hsc ∧ (State.replay s e).boot = s.boot ∧ (State.replay s e).core = s.core ∧ (State.replay s e).mgmt = s.mgmt := by
  unfold State.replay; (repeat' split) <;> simp [State.sendCtl_keeps _ _ _ _, State.drive_keeps _ _ _, State.emit_keeps _ _, State.count_keeps _ _ _ _, State.onMod_keeps _ _ _]

theorem State.tookFlit_keeps (s : State) (e : ℕ) (w : RxWalk) :
    (State.tookFlit s e w).now = s.now ∧ (State.tookFlit s e w).free = s.free ∧ (State.tookFlit s e w).pending = s.pending ∧ (State.tookFlit s e w).out = s.out ∧ (State.tookFlit s e w).regs = s.regs ∧ (State.tookFlit s e w).ret = s.ret ∧ (State.tookFlit s e w).evt = s.evt ∧ (State.tookFlit s e w).flt = s.flt ∧ (State.tookFlit s e w).obs = s.obs ∧ (State.tookFlit s e w).host = s.host ∧ (State.tookFlit s e w).amap = s.amap ∧ (State.tookFlit s e w).mem = s.mem ∧ (State.tookFlit s e w).home = s.home ∧ (State.tookFlit s e w).ddr = s.ddr ∧ (State.tookFlit s e w).tier = s.tier ∧ (State.tookFlit s e w).dm = s.dm ∧ (State.tookFlit s e w).brg = s.brg ∧ (State.tookFlit s e w).clk = s.clk ∧ (State.tookFlit s e w).hsc = s.hsc ∧ (State.tookFlit s e w).boot = s.boot ∧ (State.tookFlit s e w).core = s.core ∧ (State.tookFlit s e w).mgmt = s.mgmt := by
  unfold State.tookFlit; simp [State.onMod_keeps _ _ _]

theorem State.acceptFlit_keeps (s : State) (e : ℕ) (f : BitVec 512) :
    (State.acceptFlit s e f).1.now = s.now ∧ (State.acceptFlit s e f).1.free = s.free ∧ (State.acceptFlit s e f).1.pending = s.pending ∧ (State.acceptFlit s e f).1.regs = s.regs ∧ (State.acceptFlit s e f).1.flt = s.flt ∧ (State.acceptFlit s e f).1.amap = s.amap ∧ (State.acceptFlit s e f).1.mem = s.mem ∧ (State.acceptFlit s e f).1.home = s.home ∧ (State.acceptFlit s e f).1.ddr = s.ddr ∧ (State.acceptFlit s e f).1.tier = s.tier ∧ (State.acceptFlit s e f).1.dm = s.dm ∧ (State.acceptFlit s e f).1.brg = s.brg ∧ (State.acceptFlit s e f).1.clk = s.clk ∧ (State.acceptFlit s e f).1.hsc = s.hsc ∧ (State.acceptFlit s e f).1.boot = s.boot ∧ (State.acceptFlit s e f).1.core = s.core ∧ (State.acceptFlit s e f).1.mgmt = s.mgmt := by
  obtain ⟨P, hP⟩ : ∃ P : State → Prop, P = fun x => x.now = s.now ∧ x.free = s.free ∧ x.pending = s.pending ∧ x.regs = s.regs ∧ x.flt = s.flt ∧ x.amap = s.amap ∧ x.mem = s.mem ∧ x.home = s.home ∧ x.ddr = s.ddr ∧ x.tier = s.tier ∧ x.dm = s.dm ∧ x.brg = s.brg ∧ x.clk = s.clk ∧ x.hsc = s.hsc ∧ x.boot = s.boot ∧ x.core = s.core ∧ x.mgmt = s.mgmt := ⟨_, rfl⟩
  suffices h : P (State.acceptFlit s e f).1 by rw [hP] at h; exact h
  unfold State.acceptFlit; (try dsimp only); (repeat' split) <;> skip <;> subst hP <;> simp_all [State.protoError_keeps _ _, State.tookFlit_keeps _ _ _]

theorem State.crcFailed_keeps (s : State) (e : ℕ) :
    (State.crcFailed s e).now = s.now ∧ (State.crcFailed s e).free = s.free ∧ (State.crcFailed s e).pending = s.pending ∧ (State.crcFailed s e).out = s.out ∧ (State.crcFailed s e).regs = s.regs ∧ (State.crcFailed s e).ret = s.ret ∧ (State.crcFailed s e).evt = s.evt ∧ (State.crcFailed s e).flt = s.flt ∧ (State.crcFailed s e).host = s.host ∧ (State.crcFailed s e).amap = s.amap ∧ (State.crcFailed s e).mem = s.mem ∧ (State.crcFailed s e).home = s.home ∧ (State.crcFailed s e).ddr = s.ddr ∧ (State.crcFailed s e).tier = s.tier ∧ (State.crcFailed s e).dm = s.dm ∧ (State.crcFailed s e).brg = s.brg ∧ (State.crcFailed s e).clk = s.clk ∧ (State.crcFailed s e).hsc = s.hsc ∧ (State.crcFailed s e).boot = s.boot ∧ (State.crcFailed s e).core = s.core ∧ (State.crcFailed s e).mgmt = s.mgmt := by
  unfold State.crcFailed; simp [State.count_keeps _ _ _ _, State.onMod_keeps _ _ _]

theorem State.badFlit_keeps (s : State) (e : ℕ) :
    (State.badFlit s e).now = s.now ∧ (State.badFlit s e).free = s.free ∧ (State.badFlit s e).pending = s.pending ∧ (State.badFlit s e).out = s.out ∧ (State.badFlit s e).regs = s.regs ∧ (State.badFlit s e).ret = s.ret ∧ (State.badFlit s e).evt = s.evt ∧ (State.badFlit s e).flt = s.flt ∧ (State.badFlit s e).host = s.host ∧ (State.badFlit s e).amap = s.amap ∧ (State.badFlit s e).mem = s.mem ∧ (State.badFlit s e).home = s.home ∧ (State.badFlit s e).ddr = s.ddr ∧ (State.badFlit s e).tier = s.tier ∧ (State.badFlit s e).dm = s.dm ∧ (State.badFlit s e).brg = s.brg ∧ (State.badFlit s e).clk = s.clk ∧ (State.badFlit s e).hsc = s.hsc ∧ (State.badFlit s e).boot = s.boot ∧ (State.badFlit s e).core = s.core ∧ (State.badFlit s e).mgmt = s.mgmt := by
  unfold State.badFlit; simp [State.crcFailed_keeps _ _, State.onMod_keeps _ _ _]

theorem State.takeFlit_keeps (s : State) (e : ℕ) (f : BitVec 512) :
    (State.takeFlit s e f).1.now = s.now ∧ (State.takeFlit s e f).1.free = s.free ∧ (State.takeFlit s e f).1.pending = s.pending ∧ (State.takeFlit s e f).1.regs = s.regs ∧ (State.takeFlit s e f).1.flt = s.flt ∧ (State.takeFlit s e f).1.amap = s.amap ∧ (State.takeFlit s e f).1.mem = s.mem ∧ (State.takeFlit s e f).1.home = s.home ∧ (State.takeFlit s e f).1.ddr = s.ddr ∧ (State.takeFlit s e f).1.tier = s.tier ∧ (State.takeFlit s e f).1.dm = s.dm ∧ (State.takeFlit s e f).1.brg = s.brg ∧ (State.takeFlit s e f).1.clk = s.clk ∧ (State.takeFlit s e f).1.hsc = s.hsc ∧ (State.takeFlit s e f).1.boot = s.boot ∧ (State.takeFlit s e f).1.core = s.core ∧ (State.takeFlit s e f).1.mgmt = s.mgmt := by
  obtain ⟨P, hP⟩ : ∃ P : State → Prop, P = fun x => x.now = s.now ∧ x.free = s.free ∧ x.pending = s.pending ∧ x.regs = s.regs ∧ x.flt = s.flt ∧ x.amap = s.amap ∧ x.mem = s.mem ∧ x.home = s.home ∧ x.ddr = s.ddr ∧ x.tier = s.tier ∧ x.dm = s.dm ∧ x.brg = s.brg ∧ x.clk = s.clk ∧ x.hsc = s.hsc ∧ x.boot = s.boot ∧ x.core = s.core ∧ x.mgmt = s.mgmt := ⟨_, rfl⟩
  suffices h : P (State.takeFlit s e f).1 by rw [hP] at h; exact h
  unfold State.takeFlit; (try dsimp only); (repeat' split) <;> subst hP <;> simp_all [State.badFlit_keeps _ _, State.protoError_keeps _ _, State.acceptFlit_keeps _ _ _, State.onMod_keeps _ _ _]

theorem State.takeReplayStart_keeps (s : State) (e : ℕ) (seq : ℕ) :
    (State.takeReplayStart s e seq).now = s.now ∧ (State.takeReplayStart s e seq).free = s.free ∧ (State.takeReplayStart s e seq).pending = s.pending ∧ (State.takeReplayStart s e seq).regs = s.regs ∧ (State.takeReplayStart s e seq).flt = s.flt ∧ (State.takeReplayStart s e seq).amap = s.amap ∧ (State.takeReplayStart s e seq).mem = s.mem ∧ (State.takeReplayStart s e seq).home = s.home ∧ (State.takeReplayStart s e seq).ddr = s.ddr ∧ (State.takeReplayStart s e seq).tier = s.tier ∧ (State.takeReplayStart s e seq).dm = s.dm ∧ (State.takeReplayStart s e seq).brg = s.brg ∧ (State.takeReplayStart s e seq).clk = s.clk ∧ (State.takeReplayStart s e seq).hsc = s.hsc ∧ (State.takeReplayStart s e seq).boot = s.boot ∧ (State.takeReplayStart s e seq).core = s.core ∧ (State.takeReplayStart s e seq).mgmt = s.mgmt := by
  unfold State.takeReplayStart; simp [State.protoError_keeps _ _, State.onMod_keeps _ _ _]

theorem State.pumpFwd_keeps (a0 : ℕ) (a1 : State) :
    (State.pumpFwd a0 a1).now = a1.now ∧ (State.pumpFwd a0 a1).free = a1.free ∧ (State.pumpFwd a0 a1).pending = a1.pending ∧ (State.pumpFwd a0 a1).regs = a1.regs ∧ (State.pumpFwd a0 a1).ret = a1.ret ∧ (State.pumpFwd a0 a1).evt = a1.evt ∧ (State.pumpFwd a0 a1).flt = a1.flt ∧ (State.pumpFwd a0 a1).host = a1.host ∧ (State.pumpFwd a0 a1).amap = a1.amap ∧ (State.pumpFwd a0 a1).mem = a1.mem ∧ (State.pumpFwd a0 a1).home = a1.home ∧ (State.pumpFwd a0 a1).ddr = a1.ddr ∧ (State.pumpFwd a0 a1).tier = a1.tier ∧ (State.pumpFwd a0 a1).dm = a1.dm ∧ (State.pumpFwd a0 a1).clk = a1.clk ∧ (State.pumpFwd a0 a1).hsc = a1.hsc ∧ (State.pumpFwd a0 a1).boot = a1.boot ∧ (State.pumpFwd a0 a1).core = a1.core ∧ (State.pumpFwd a0 a1).mgmt = a1.mgmt := by
  fun_induction State.pumpFwd a0 a1 <;> simp_all +zetaDelta [State.onMod_keeps _ _ _, State.sendNow_keeps _ _ _ _ _]

theorem State.fwdTimers_keeps (s : State) :
    (State.fwdTimers s).now = s.now ∧ (State.fwdTimers s).free = s.free ∧ (State.fwdTimers s).pending = s.pending ∧ (State.fwdTimers s).out = s.out ∧ (State.fwdTimers s).regs = s.regs ∧ (State.fwdTimers s).ret = s.ret ∧ (State.fwdTimers s).evt = s.evt ∧ (State.fwdTimers s).flt = s.flt ∧ (State.fwdTimers s).obs = s.obs ∧ (State.fwdTimers s).host = s.host ∧ (State.fwdTimers s).amap = s.amap ∧ (State.fwdTimers s).mem = s.mem ∧ (State.fwdTimers s).home = s.home ∧ (State.fwdTimers s).ddr = s.ddr ∧ (State.fwdTimers s).tier = s.tier ∧ (State.fwdTimers s).dm = s.dm ∧ (State.fwdTimers s).brg = s.brg ∧ (State.fwdTimers s).clk = s.clk ∧ (State.fwdTimers s).hsc = s.hsc ∧ (State.fwdTimers s).boot = s.boot ∧ (State.fwdTimers s).core = s.core ∧ (State.fwdTimers s).mgmt = s.mgmt := by
  unfold State.fwdTimers; simp [State.creditTimers_keeps _ _]

theorem State.pumpAll_keeps (s : State) (e : ℕ) :
    (State.pumpAll s e).now = s.now ∧ (State.pumpAll s e).free = s.free ∧ (State.pumpAll s e).pending = s.pending ∧ (State.pumpAll s e).regs = s.regs ∧ (State.pumpAll s e).ret = s.ret ∧ (State.pumpAll s e).evt = s.evt ∧ (State.pumpAll s e).flt = s.flt ∧ (State.pumpAll s e).host = s.host ∧ (State.pumpAll s e).amap = s.amap ∧ (State.pumpAll s e).mem = s.mem ∧ (State.pumpAll s e).home = s.home ∧ (State.pumpAll s e).ddr = s.ddr ∧ (State.pumpAll s e).tier = s.tier ∧ (State.pumpAll s e).dm = s.dm ∧ (State.pumpAll s e).clk = s.clk ∧ (State.pumpAll s e).hsc = s.hsc ∧ (State.pumpAll s e).boot = s.boot ∧ (State.pumpAll s e).core = s.core ∧ (State.pumpAll s e).mgmt = s.mgmt := by
  unfold State.pumpAll; simp [State.fwdTimers_keeps _, State.pumpFwd_keeps _ _, State.pump_keeps _ _ _]

theorem State.takeAck_keeps (s : State) (e : ℕ) (valid : Bool) (ackseq : ℕ) (ret : List ℕ) :
    (State.takeAck s e valid ackseq ret).now = s.now ∧ (State.takeAck s e valid ackseq ret).free = s.free ∧ (State.takeAck s e valid ackseq ret).pending = s.pending ∧ (State.takeAck s e valid ackseq ret).regs = s.regs ∧ (State.takeAck s e valid ackseq ret).flt = s.flt ∧ (State.takeAck s e valid ackseq ret).amap = s.amap ∧ (State.takeAck s e valid ackseq ret).mem = s.mem ∧ (State.takeAck s e valid ackseq ret).home = s.home ∧ (State.takeAck s e valid ackseq ret).ddr = s.ddr ∧ (State.takeAck s e valid ackseq ret).tier = s.tier ∧ (State.takeAck s e valid ackseq ret).dm = s.dm ∧ (State.takeAck s e valid ackseq ret).clk = s.clk ∧ (State.takeAck s e valid ackseq ret).hsc = s.hsc ∧ (State.takeAck s e valid ackseq ret).boot = s.boot ∧ (State.takeAck s e valid ackseq ret).core = s.core ∧ (State.takeAck s e valid ackseq ret).mgmt = s.mgmt := by
  unfold State.takeAck; simp [State.protoError_keeps _ _, State.onMod_keeps _ _ _, State.moveSends_keeps _ _, State.pumpAll_keeps _ _]

theorem State.startChange_keeps (s : State) (e : ℕ) (ch : LinkChange) :
    (State.startChange s e ch).now = s.now ∧ (State.startChange s e ch).free = s.free ∧ (State.startChange s e ch).pending = s.pending ∧ (State.startChange s e ch).regs = s.regs ∧ (State.startChange s e ch).ret = s.ret ∧ (State.startChange s e ch).evt = s.evt ∧ (State.startChange s e ch).flt = s.flt ∧ (State.startChange s e ch).obs = s.obs ∧ (State.startChange s e ch).host = s.host ∧ (State.startChange s e ch).amap = s.amap ∧ (State.startChange s e ch).mem = s.mem ∧ (State.startChange s e ch).home = s.home ∧ (State.startChange s e ch).ddr = s.ddr ∧ (State.startChange s e ch).tier = s.tier ∧ (State.startChange s e ch).dm = s.dm ∧ (State.startChange s e ch).brg = s.brg ∧ (State.startChange s e ch).clk = s.clk ∧ (State.startChange s e ch).hsc = s.hsc ∧ (State.startChange s e ch).boot = s.boot ∧ (State.startChange s e ch).core = s.core ∧ (State.startChange s e ch).mgmt = s.mgmt := by
  unfold State.startChange; simp [State.onMod_keeps _ _ _, State.sendCtl_keeps _ _ _ _]

theorem State.askChange_keeps (s : State) (e : ℕ) (ch : LinkChange) :
    (State.askChange s e ch).now = s.now ∧ (State.askChange s e ch).free = s.free ∧ (State.askChange s e ch).pending = s.pending ∧ (State.askChange s e ch).regs = s.regs ∧ (State.askChange s e ch).ret = s.ret ∧ (State.askChange s e ch).evt = s.evt ∧ (State.askChange s e ch).flt = s.flt ∧ (State.askChange s e ch).obs = s.obs ∧ (State.askChange s e ch).host = s.host ∧ (State.askChange s e ch).amap = s.amap ∧ (State.askChange s e ch).mem = s.mem ∧ (State.askChange s e ch).home = s.home ∧ (State.askChange s e ch).ddr = s.ddr ∧ (State.askChange s e ch).tier = s.tier ∧ (State.askChange s e ch).dm = s.dm ∧ (State.askChange s e ch).brg = s.brg ∧ (State.askChange s e ch).clk = s.clk ∧ (State.askChange s e ch).hsc = s.hsc ∧ (State.askChange s e ch).boot = s.boot ∧ (State.askChange s e ch).core = s.core ∧ (State.askChange s e ch).mgmt = s.mgmt := by
  unfold State.askChange; simp [State.onMod_keeps _ _ _, State.startChange_keeps _ _ _]

theorem State.takeReq_keeps (s : State) (e : ℕ) (ch : LinkChange) (slot : ℕ) :
    (State.takeReq s e ch slot).now = s.now ∧ (State.takeReq s e ch slot).free = s.free ∧ (State.takeReq s e ch slot).pending = s.pending ∧ (State.takeReq s e ch slot).regs = s.regs ∧ (State.takeReq s e ch slot).ret = s.ret ∧ (State.takeReq s e ch slot).evt = s.evt ∧ (State.takeReq s e ch slot).flt = s.flt ∧ (State.takeReq s e ch slot).obs = s.obs ∧ (State.takeReq s e ch slot).host = s.host ∧ (State.takeReq s e ch slot).amap = s.amap ∧ (State.takeReq s e ch slot).mem = s.mem ∧ (State.takeReq s e ch slot).home = s.home ∧ (State.takeReq s e ch slot).ddr = s.ddr ∧ (State.takeReq s e ch slot).tier = s.tier ∧ (State.takeReq s e ch slot).dm = s.dm ∧ (State.takeReq s e ch slot).brg = s.brg ∧ (State.takeReq s e ch slot).clk = s.clk ∧ (State.takeReq s e ch slot).hsc = s.hsc ∧ (State.takeReq s e ch slot).boot = s.boot ∧ (State.takeReq s e ch slot).core = s.core ∧ (State.takeReq s e ch slot).mgmt = s.mgmt := by
  unfold State.takeReq; simp [State.sendCtl_keeps _ _ _ _, State.onMod_keeps _ _ _]

theorem State.takeRsp_keeps (s : State) (e : ℕ) (accept : Bool) :
    (State.takeRsp s e accept).now = s.now ∧ (State.takeRsp s e accept).free = s.free ∧ (State.takeRsp s e accept).pending = s.pending ∧ (State.takeRsp s e accept).out = s.out ∧ (State.takeRsp s e accept).regs = s.regs ∧ (State.takeRsp s e accept).ret = s.ret ∧ (State.takeRsp s e accept).evt = s.evt ∧ (State.takeRsp s e accept).flt = s.flt ∧ (State.takeRsp s e accept).obs = s.obs ∧ (State.takeRsp s e accept).host = s.host ∧ (State.takeRsp s e accept).amap = s.amap ∧ (State.takeRsp s e accept).mem = s.mem ∧ (State.takeRsp s e accept).home = s.home ∧ (State.takeRsp s e accept).ddr = s.ddr ∧ (State.takeRsp s e accept).tier = s.tier ∧ (State.takeRsp s e accept).dm = s.dm ∧ (State.takeRsp s e accept).brg = s.brg ∧ (State.takeRsp s e accept).clk = s.clk ∧ (State.takeRsp s e accept).hsc = s.hsc ∧ (State.takeRsp s e accept).boot = s.boot ∧ (State.takeRsp s e accept).core = s.core ∧ (State.takeRsp s e accept).mgmt = s.mgmt := by
  unfold State.takeRsp; simp [State.onMod_keeps _ _ _]

theorem State.askOwed_keeps (s : State) (e : ℕ) :
    (State.askOwed s e).now = s.now ∧ (State.askOwed s e).free = s.free ∧ (State.askOwed s e).pending = s.pending ∧ (State.askOwed s e).regs = s.regs ∧ (State.askOwed s e).ret = s.ret ∧ (State.askOwed s e).evt = s.evt ∧ (State.askOwed s e).flt = s.flt ∧ (State.askOwed s e).obs = s.obs ∧ (State.askOwed s e).host = s.host ∧ (State.askOwed s e).amap = s.amap ∧ (State.askOwed s e).mem = s.mem ∧ (State.askOwed s e).home = s.home ∧ (State.askOwed s e).ddr = s.ddr ∧ (State.askOwed s e).tier = s.tier ∧ (State.askOwed s e).dm = s.dm ∧ (State.askOwed s e).brg = s.brg ∧ (State.askOwed s e).clk = s.clk ∧ (State.askOwed s e).hsc = s.hsc ∧ (State.askOwed s e).boot = s.boot ∧ (State.askOwed s e).core = s.core ∧ (State.askOwed s e).mgmt = s.mgmt := by
  unfold State.askOwed; (repeat' split) <;> simp [State.onMod_keeps _ _ _, State.askChange_keeps _ _ _]

theorem State.goesOn_keeps (s : State) (e : ℕ) :
    (State.goesOn s e).now = s.now ∧ (State.goesOn s e).free = s.free ∧ (State.goesOn s e).pending = s.pending ∧ (State.goesOn s e).regs = s.regs ∧ (State.goesOn s e).flt = s.flt ∧ (State.goesOn s e).amap = s.amap ∧ (State.goesOn s e).mem = s.mem ∧ (State.goesOn s e).home = s.home ∧ (State.goesOn s e).ddr = s.ddr ∧ (State.goesOn s e).tier = s.tier ∧ (State.goesOn s e).dm = s.dm ∧ (State.goesOn s e).clk = s.clk ∧ (State.goesOn s e).hsc = s.hsc ∧ (State.goesOn s e).boot = s.boot ∧ (State.goesOn s e).core = s.core ∧ (State.goesOn s e).mgmt = s.mgmt := by
  unfold State.goesOn; simp [State.askOwed_keeps _ _, State.degraded_keeps _ _, State.onMod_keeps _ _ _, State.pumpAll_keeps _ _, State.pullSends_keeps _ _]

theorem State.resetDone_keeps (s : State) (e : ℕ) :
    (State.resetDone s e).now = s.now ∧ (State.resetDone s e).free = s.free ∧ (State.resetDone s e).pending = s.pending ∧ (State.resetDone s e).regs = s.regs ∧ (State.resetDone s e).flt = s.flt ∧ (State.resetDone s e).amap = s.amap ∧ (State.resetDone s e).mem = s.mem ∧ (State.resetDone s e).home = s.home ∧ (State.resetDone s e).ddr = s.ddr ∧ (State.resetDone s e).tier = s.tier ∧ (State.resetDone s e).dm = s.dm ∧ (State.resetDone s e).clk = s.clk ∧ (State.resetDone s e).hsc = s.hsc ∧ (State.resetDone s e).boot = s.boot ∧ (State.resetDone s e).core = s.core ∧ (State.resetDone s e).mgmt = s.mgmt := by
  unfold State.resetDone; simp [State.onMod_keeps _ _ _, State.goesOn_keeps _ _, State.replay_keeps _ _, State.sendAck_keeps _ _]

theorem State.tryResetDone_keeps (s : State) (e : ℕ) :
    (State.tryResetDone s e).now = s.now ∧ (State.tryResetDone s e).free = s.free ∧ (State.tryResetDone s e).pending = s.pending ∧ (State.tryResetDone s e).regs = s.regs ∧ (State.tryResetDone s e).flt = s.flt ∧ (State.tryResetDone s e).amap = s.amap ∧ (State.tryResetDone s e).mem = s.mem ∧ (State.tryResetDone s e).home = s.home ∧ (State.tryResetDone s e).ddr = s.ddr ∧ (State.tryResetDone s e).tier = s.tier ∧ (State.tryResetDone s e).dm = s.dm ∧ (State.tryResetDone s e).clk = s.clk ∧ (State.tryResetDone s e).hsc = s.hsc ∧ (State.tryResetDone s e).boot = s.boot ∧ (State.tryResetDone s e).core = s.core ∧ (State.tryResetDone s e).mgmt = s.mgmt := by
  unfold State.tryResetDone; simp [State.resetDone_keeps _ _]

theorem State.dlnkResult_keeps (s : State) (e : ℕ) (r : ℕ) :
    (State.dlnkResult s e r).now = s.now ∧ (State.dlnkResult s e r).free = s.free ∧ (State.dlnkResult s e r).pending = s.pending ∧ (State.dlnkResult s e r).out = s.out ∧ (State.dlnkResult s e r).regs = s.regs ∧ (State.dlnkResult s e r).ret = s.ret ∧ (State.dlnkResult s e r).evt = s.evt ∧ (State.dlnkResult s e r).flt = s.flt ∧ (State.dlnkResult s e r).obs = s.obs ∧ (State.dlnkResult s e r).host = s.host ∧ (State.dlnkResult s e r).amap = s.amap ∧ (State.dlnkResult s e r).mem = s.mem ∧ (State.dlnkResult s e r).home = s.home ∧ (State.dlnkResult s e r).ddr = s.ddr ∧ (State.dlnkResult s e r).tier = s.tier ∧ (State.dlnkResult s e r).dm = s.dm ∧ (State.dlnkResult s e r).brg = s.brg ∧ (State.dlnkResult s e r).clk = s.clk ∧ (State.dlnkResult s e r).hsc = s.hsc ∧ (State.dlnkResult s e r).boot = s.boot ∧ (State.dlnkResult s e r).core = s.core ∧ (State.dlnkResult s e r).mgmt = s.mgmt := by
  unfold State.dlnkResult; simp [State.onMod_keeps _ _ _]

theorem State.dlnkBusy_keeps (s : State) (e : ℕ) :
    (State.dlnkBusy s e).now = s.now ∧ (State.dlnkBusy s e).free = s.free ∧ (State.dlnkBusy s e).pending = s.pending ∧ (State.dlnkBusy s e).out = s.out ∧ (State.dlnkBusy s e).regs = s.regs ∧ (State.dlnkBusy s e).ret = s.ret ∧ (State.dlnkBusy s e).evt = s.evt ∧ (State.dlnkBusy s e).flt = s.flt ∧ (State.dlnkBusy s e).obs = s.obs ∧ (State.dlnkBusy s e).host = s.host ∧ (State.dlnkBusy s e).amap = s.amap ∧ (State.dlnkBusy s e).mem = s.mem ∧ (State.dlnkBusy s e).home = s.home ∧ (State.dlnkBusy s e).ddr = s.ddr ∧ (State.dlnkBusy s e).tier = s.tier ∧ (State.dlnkBusy s e).dm = s.dm ∧ (State.dlnkBusy s e).brg = s.brg ∧ (State.dlnkBusy s e).clk = s.clk ∧ (State.dlnkBusy s e).hsc = s.hsc ∧ (State.dlnkBusy s e).boot = s.boot ∧ (State.dlnkBusy s e).core = s.core ∧ (State.dlnkBusy s e).mgmt = s.mgmt := by
  unfold State.dlnkBusy; simp [State.onMod_keeps _ _ _, State.dlnkResult_keeps _ _ _]

theorem State.dlnkCmd_keeps (s : State) (e : ℕ) (cmd : ℕ) :
    (State.dlnkCmd s e cmd).now = s.now ∧ (State.dlnkCmd s e cmd).free = s.free ∧ (State.dlnkCmd s e cmd).pending = s.pending ∧ (State.dlnkCmd s e cmd).regs = s.regs ∧ (State.dlnkCmd s e cmd).flt = s.flt ∧ (State.dlnkCmd s e cmd).amap = s.amap ∧ (State.dlnkCmd s e cmd).mem = s.mem ∧ (State.dlnkCmd s e cmd).home = s.home ∧ (State.dlnkCmd s e cmd).ddr = s.ddr ∧ (State.dlnkCmd s e cmd).tier = s.tier ∧ (State.dlnkCmd s e cmd).dm = s.dm ∧ (State.dlnkCmd s e cmd).brg = s.brg ∧ (State.dlnkCmd s e cmd).clk = s.clk ∧ (State.dlnkCmd s e cmd).hsc = s.hsc ∧ (State.dlnkCmd s e cmd).boot = s.boot ∧ (State.dlnkCmd s e cmd).core = s.core ∧ (State.dlnkCmd s e cmd).mgmt = s.mgmt := by
  unfold State.dlnkCmd; simp [State.moveSends_keeps _ _, State.onMod_keeps _ _ _, State.recallSent_keeps _ _, State.dlnkBusy_keeps _ _, State.dlnkResult_keeps _ _ _, State.retireMod_keeps _ _ _, State.enterLreset_keeps _ _ _, State.askChange_keeps _ _ _]

theorem State.fwdFail_keeps (s : State) (ld : ℕ) :
    (State.fwdFail s ld).now = s.now ∧ (State.fwdFail s ld).free = s.free ∧ (State.fwdFail s ld).pending = s.pending ∧ (State.fwdFail s ld).regs = s.regs ∧ (State.fwdFail s ld).flt = s.flt ∧ (State.fwdFail s ld).amap = s.amap ∧ (State.fwdFail s ld).mem = s.mem ∧ (State.fwdFail s ld).home = s.home ∧ (State.fwdFail s ld).ddr = s.ddr ∧ (State.fwdFail s ld).tier = s.tier ∧ (State.fwdFail s ld).dm = s.dm ∧ (State.fwdFail s ld).brg = s.brg ∧ (State.fwdFail s ld).clk = s.clk ∧ (State.fwdFail s ld).hsc = s.hsc ∧ (State.fwdFail s ld).boot = s.boot ∧ (State.fwdFail s ld).core = s.core ∧ (State.fwdFail s ld).mgmt = s.mgmt := by
  unfold State.fwdFail; simp [State.raise_keeps _ _]

theorem State.fwdAbort_keeps (s : State) (ld : ℕ) (htag : ℕ) (ev : Bool) :
    (State.fwdAbort s ld htag ev).now = s.now ∧ (State.fwdAbort s ld htag ev).free = s.free ∧ (State.fwdAbort s ld htag ev).pending = s.pending ∧ (State.fwdAbort s ld htag ev).regs = s.regs ∧ (State.fwdAbort s ld htag ev).flt = s.flt ∧ (State.fwdAbort s ld htag ev).amap = s.amap ∧ (State.fwdAbort s ld htag ev).mem = s.mem ∧ (State.fwdAbort s ld htag ev).home = s.home ∧ (State.fwdAbort s ld htag ev).ddr = s.ddr ∧ (State.fwdAbort s ld htag ev).tier = s.tier ∧ (State.fwdAbort s ld htag ev).dm = s.dm ∧ (State.fwdAbort s ld htag ev).clk = s.clk ∧ (State.fwdAbort s ld htag ev).hsc = s.hsc ∧ (State.fwdAbort s ld htag ev).boot = s.boot ∧ (State.fwdAbort s ld htag ev).core = s.core ∧ (State.fwdAbort s ld htag ev).mgmt = s.mgmt := by
  unfold State.fwdAbort; simp [State.toHost_keeps _ _ _, State.fwdFail_keeps _ _]

theorem State.brgLost_keeps (s : State) :
    (State.brgLost s).now = s.now ∧ (State.brgLost s).pending = s.pending ∧ (State.brgLost s).dm = s.dm ∧ (State.brgLost s).clk = s.clk ∧ (State.brgLost s).hsc = s.hsc ∧ (State.brgLost s).boot = s.boot ∧ (State.brgLost s).core = s.core := by
  unfold State.brgLost; simp [State.agentsGone_keeps _ _, State.fwdAbort_keeps _ _ _ _, State.fwdFail_keeps _ _]

theorem State.brgReset_keeps (s : State) :
    (State.brgReset s).now = s.now ∧ (State.brgReset s).free = s.free ∧ (State.brgReset s).pending = s.pending ∧ (State.brgReset s).out = s.out ∧ (State.brgReset s).regs = s.regs ∧ (State.brgReset s).ret = s.ret ∧ (State.brgReset s).evt = s.evt ∧ (State.brgReset s).flt = s.flt ∧ (State.brgReset s).obs = s.obs ∧ (State.brgReset s).host = s.host ∧ (State.brgReset s).amap = s.amap ∧ (State.brgReset s).mem = s.mem ∧ (State.brgReset s).home = s.home ∧ (State.brgReset s).ddr = s.ddr ∧ (State.brgReset s).tier = s.tier ∧ (State.brgReset s).dm = s.dm ∧ (State.brgReset s).clk = s.clk ∧ (State.brgReset s).hsc = s.hsc ∧ (State.brgReset s).boot = s.boot ∧ (State.brgReset s).core = s.core ∧ (State.brgReset s).mgmt = s.mgmt := by
  unfold State.brgReset; simp [State.onMod_keeps _ _ _, State.modOff_keeps _ _]

theorem State.brgRelease_keeps (s : State) :
    (State.brgRelease s).now = s.now ∧ (State.brgRelease s).free = s.free ∧ (State.brgRelease s).pending = s.pending ∧ (State.brgRelease s).out = s.out ∧ (State.brgRelease s).regs = s.regs ∧ (State.brgRelease s).ret = s.ret ∧ (State.brgRelease s).evt = s.evt ∧ (State.brgRelease s).flt = s.flt ∧ (State.brgRelease s).obs = s.obs ∧ (State.brgRelease s).host = s.host ∧ (State.brgRelease s).amap = s.amap ∧ (State.brgRelease s).mem = s.mem ∧ (State.brgRelease s).home = s.home ∧ (State.brgRelease s).ddr = s.ddr ∧ (State.brgRelease s).tier = s.tier ∧ (State.brgRelease s).dm = s.dm ∧ (State.brgRelease s).dunas = s.dunas ∧ (State.brgRelease s).clk = s.clk ∧ (State.brgRelease s).hsc = s.hsc ∧ (State.brgRelease s).boot = s.boot ∧ (State.brgRelease s).core = s.core ∧ (State.brgRelease s).mgmt = s.mgmt := by
  unfold State.brgRelease; simp

theorem State.brgSwept_keeps (s : State) :
    (State.brgSwept s).now = s.now ∧ (State.brgSwept s).pending = s.pending ∧ (State.brgSwept s).dm = s.dm ∧ (State.brgSwept s).clk = s.clk ∧ (State.brgSwept s).hsc = s.hsc ∧ (State.brgSwept s).boot = s.boot ∧ (State.brgSwept s).core = s.core := by
  obtain ⟨P, hP⟩ : ∃ P : State → Prop, P = fun x => x.now = s.now ∧ x.pending = s.pending ∧ x.dm = s.dm ∧ x.clk = s.clk ∧ x.hsc = s.hsc ∧ x.boot = s.boot ∧ x.core = s.core := ⟨_, rfl⟩
  suffices h : P (State.brgSwept s) by rw [hP] at h; exact h
  unfold State.brgSwept; (try dsimp only); (repeat' split) <;> subst hP <;> simp_all [State.sweepDone_keeps _ _, State.agentsBack_keeps _ _, State.sendCredit_keeps _ _, State.brgUp_keeps _ _]

end Sys2Proof.Machine
end

