-- ==== Sys2Proof/Laws/HyssopKeeps.lean ====
section
/-! SUPPORT. Which fields of the state the operations of Hyssop leave as they are: a proof
over the operation `State.op` gives simp its lemma `State.op_keeps _ _`. -/

namespace Sys2Proof.Machine

theorem State.onHsc_keeps (s : State) (f : HotSwap → HotSwap) :
    (State.onHsc s f).now = s.now ∧ (State.onHsc s f).free = s.free ∧ (State.onHsc s f).pending = s.pending ∧ (State.onHsc s f).out = s.out ∧ (State.onHsc s f).regs = s.regs ∧ (State.onHsc s f).ret = s.ret ∧ (State.onHsc s f).evt = s.evt ∧ (State.onHsc s f).flt = s.flt ∧ (State.onHsc s f).obs = s.obs ∧ (State.onHsc s f).host = s.host ∧ (State.onHsc s f).amap = s.amap ∧ (State.onHsc s f).mem = s.mem ∧ (State.onHsc s f).home = s.home ∧ (State.onHsc s f).ddr = s.ddr ∧ (State.onHsc s f).tier = s.tier ∧ (State.onHsc s f).dm = s.dm ∧ (State.onHsc s f).dunas = s.dunas ∧ (State.onHsc s f).brg = s.brg ∧ (State.onHsc s f).clk = s.clk ∧ (State.onHsc s f).boot = s.boot ∧ (State.onHsc s f).core = s.core ∧ (State.onHsc s f).mgmt = s.mgmt := by
  unfold State.onHsc; simp

theorem State.setTrip_keeps (s : State) (w : Word) :
    (State.setTrip s w).now = s.now ∧ (State.setTrip s w).free = s.free ∧ (State.setTrip s w).pending = s.pending ∧ (State.setTrip s w).out = s.out ∧ (State.setTrip s w).regs = s.regs ∧ (State.setTrip s w).evt = s.evt ∧ (State.setTrip s w).flt = s.flt ∧ (State.setTrip s w).obs = s.obs ∧ (State.setTrip s w).host = s.host ∧ (State.setTrip s w).amap = s.amap ∧ (State.setTrip s w).mem = s.mem ∧ (State.setTrip s w).home = s.home ∧ (State.setTrip s w).ddr = s.ddr ∧ (State.setTrip s w).tier = s.tier ∧ (State.setTrip s w).dm = s.dm ∧ (State.setTrip s w).dunas = s.dunas ∧ (State.setTrip s w).brg = s.brg ∧ (State.setTrip s w).clk = s.clk ∧ (State.setTrip s w).hsc = s.hsc ∧ (State.setTrip s w).boot = s.boot ∧ (State.setTrip s w).core = s.core ∧ (State.setTrip s w).mgmt = s.mgmt := by
  unfold State.setTrip; simp [State.retWrite_keeps _ _ _ _]

theorem State.gatePull_keeps (s : State) (st : HscState) :
    (State.gatePull s st).now = s.now ∧ (State.gatePull s st).free = s.free ∧ (State.gatePull s st).pending = s.pending ∧ (State.gatePull s st).out = s.out ∧ (State.gatePull s st).regs = s.regs ∧ (State.gatePull s st).ret = s.ret ∧ (State.gatePull s st).evt = s.evt ∧ (State.gatePull s st).flt = s.flt ∧ (State.gatePull s st).obs = s.obs ∧ (State.gatePull s st).host = s.host ∧ (State.gatePull s st).amap = s.amap ∧ (State.gatePull s st).mem = s.mem ∧ (State.gatePull s st).home = s.home ∧ (State.gatePull s st).ddr = s.ddr ∧ (State.gatePull s st).tier = s.tier ∧ (State.gatePull s st).dm = s.dm ∧ (State.gatePull s st).dunas = s.dunas ∧ (State.gatePull s st).brg = s.brg ∧ (State.gatePull s st).clk = s.clk ∧ (State.gatePull s st).boot = s.boot ∧ (State.gatePull s st).core = s.core ∧ (State.gatePull s st).mgmt = s.mgmt := by
  unfold State.gatePull; simp [State.onHsc_keeps _ _]

theorem State.raiseHsc_keeps (s : State) (src : ℕ) (code : ℕ) (detail : List ℕ) :
    (State.raiseHsc s src code detail).now = s.now ∧ (State.raiseHsc s src code detail).free = s.free ∧ (State.raiseHsc s src code detail).pending = s.pending ∧ (State.raiseHsc s src code detail).regs = s.regs ∧ (State.raiseHsc s src code detail).flt = s.flt ∧ (State.raiseHsc s src code detail).amap = s.amap ∧ (State.raiseHsc s src code detail).mem = s.mem ∧ (State.raiseHsc s src code detail).home = s.home ∧ (State.raiseHsc s src code detail).ddr = s.ddr ∧ (State.raiseHsc s src code detail).tier = s.tier ∧ (State.raiseHsc s src code detail).dm = s.dm ∧ (State.raiseHsc s src code detail).brg = s.brg ∧ (State.raiseHsc s src code detail).clk = s.clk ∧ (State.raiseHsc s src code detail).hsc = s.hsc ∧ (State.raiseHsc s src code detail).boot = s.boot ∧ (State.raiseHsc s src code detail).core = s.core ∧ (State.raiseHsc s src code detail).mgmt = s.mgmt := by
  unfold State.raiseHsc; simp [State.raise_keeps _ _]

theorem State.trip_keeps (s : State) (cause : ℕ) :
    (State.trip s cause).now = s.now ∧ (State.trip s cause).free = s.free ∧ (State.trip s cause).pending = s.pending ∧ (State.trip s cause).regs = s.regs ∧ (State.trip s cause).amap = s.amap ∧ (State.trip s cause).mem = s.mem ∧ (State.trip s cause).home = s.home ∧ (State.trip s cause).ddr = s.ddr ∧ (State.trip s cause).tier = s.tier ∧ (State.trip s cause).dm = s.dm ∧ (State.trip s cause).brg = s.brg ∧ (State.trip s cause).clk = s.clk ∧ (State.trip s cause).boot = s.boot ∧ (State.trip s cause).core = s.core ∧ (State.trip s cause).mgmt = s.mgmt := by
  unfold State.trip; simp [State.onHsc_keeps _ _, State.gatePull_keeps _ _, State.raiseHsc_keeps _ _ _ _, State.setTrip_keeps _ _, State.fileP_keeps _ _ _ _]

theorem State.asFastTrip_keeps (s : State) :
    (State.asFastTrip s).now = s.now ∧ (State.asFastTrip s).free = s.free ∧ (State.asFastTrip s).pending = s.pending ∧ (State.asFastTrip s).out = s.out ∧ (State.asFastTrip s).regs = s.regs ∧ (State.asFastTrip s).ret = s.ret ∧ (State.asFastTrip s).obs = s.obs ∧ (State.asFastTrip s).host = s.host ∧ (State.asFastTrip s).amap = s.amap ∧ (State.asFastTrip s).mem = s.mem ∧ (State.asFastTrip s).home = s.home ∧ (State.asFastTrip s).ddr = s.ddr ∧ (State.asFastTrip s).tier = s.tier ∧ (State.asFastTrip s).dm = s.dm ∧ (State.asFastTrip s).dunas = s.dunas ∧ (State.asFastTrip s).brg = s.brg ∧ (State.asFastTrip s).clk = s.clk ∧ (State.asFastTrip s).hsc = s.hsc ∧ (State.asFastTrip s).boot = s.boot ∧ (State.asFastTrip s).core = s.core ∧ (State.asFastTrip s).mgmt = s.mgmt := by
  unfold State.asFastTrip; simp [State.setRec_keeps _ _ _]

theorem State.fastTrip_keeps (s : State) :
    (State.fastTrip s).now = s.now ∧ (State.fastTrip s).free = s.free ∧ (State.fastTrip s).pending = s.pending ∧ (State.fastTrip s).regs = s.regs ∧ (State.fastTrip s).amap = s.amap ∧ (State.fastTrip s).mem = s.mem ∧ (State.fastTrip s).home = s.home ∧ (State.fastTrip s).ddr = s.ddr ∧ (State.fastTrip s).tier = s.tier ∧ (State.fastTrip s).dm = s.dm ∧ (State.fastTrip s).brg = s.brg ∧ (State.fastTrip s).clk = s.clk ∧ (State.fastTrip s).boot = s.boot ∧ (State.fastTrip s).core = s.core ∧ (State.fastTrip s).mgmt = s.mgmt := by
  unfold State.fastTrip; simp [State.trip_keeps _ _, State.asFastTrip_keeps _, State.setTrip_keeps _ _, State.onHsc_keeps _ _]

theorem State.startRamp_keeps (s : State) :
    (State.startRamp s).now = s.now ∧ (State.startRamp s).free = s.free ∧ (State.startRamp s).pending = s.pending ∧ (State.startRamp s).out = s.out ∧ (State.startRamp s).regs = s.regs ∧ (State.startRamp s).ret = s.ret ∧ (State.startRamp s).evt = s.evt ∧ (State.startRamp s).flt = s.flt ∧ (State.startRamp s).obs = s.obs ∧ (State.startRamp s).host = s.host ∧ (State.startRamp s).amap = s.amap ∧ (State.startRamp s).mem = s.mem ∧ (State.startRamp s).home = s.home ∧ (State.startRamp s).ddr = s.ddr ∧ (State.startRamp s).tier = s.tier ∧ (State.startRamp s).dm = s.dm ∧ (State.startRamp s).dunas = s.dunas ∧ (State.startRamp s).brg = s.brg ∧ (State.startRamp s).clk = s.clk ∧ (State.startRamp s).boot = s.boot ∧ (State.startRamp s).core = s.core ∧ (State.startRamp s).mgmt = s.mgmt := by
  unfold State.startRamp; simp [State.onHsc_keeps _ _]

theorem State.vinOut_keeps (s : State) (mV : ℕ) (src : ℕ) :
    (State.vinOut s mV src).now = s.now ∧ (State.vinOut s mV src).free = s.free ∧ (State.vinOut s mV src).pending = s.pending ∧ (State.vinOut s mV src).regs = s.regs ∧ (State.vinOut s mV src).flt = s.flt ∧ (State.vinOut s mV src).amap = s.amap ∧ (State.vinOut s mV src).mem = s.mem ∧ (State.vinOut s mV src).home = s.home ∧ (State.vinOut s mV src).ddr = s.ddr ∧ (State.vinOut s mV src).tier = s.tier ∧ (State.vinOut s mV src).dm = s.dm ∧ (State.vinOut s mV src).brg = s.brg ∧ (State.vinOut s mV src).clk = s.clk ∧ (State.vinOut s mV src).boot = s.boot ∧ (State.vinOut s mV src).core = s.core ∧ (State.vinOut s mV src).mgmt = s.mgmt := by
  unfold State.vinOut; simp [State.onHsc_keeps _ _, State.raiseHsc_keeps _ _ _ _, State.gatePull_keeps _ _]

theorem State.enterLimit_keeps (s : State) :
    (State.enterLimit s).now = s.now ∧ (State.enterLimit s).free = s.free ∧ (State.enterLimit s).pending = s.pending ∧ (State.enterLimit s).regs = s.regs ∧ (State.enterLimit s).flt = s.flt ∧ (State.enterLimit s).amap = s.amap ∧ (State.enterLimit s).mem = s.mem ∧ (State.enterLimit s).home = s.home ∧ (State.enterLimit s).ddr = s.ddr ∧ (State.enterLimit s).tier = s.tier ∧ (State.enterLimit s).dm = s.dm ∧ (State.enterLimit s).brg = s.brg ∧ (State.enterLimit s).clk = s.clk ∧ (State.enterLimit s).boot = s.boot ∧ (State.enterLimit s).core = s.core ∧ (State.enterLimit s).mgmt = s.mgmt := by
  unfold State.enterLimit; simp [State.raiseHsc_keeps _ _ _ _, State.onHsc_keeps _ _]

theorem State.pgOutSync_keeps (s : State) :
    (State.pgOutSync s).now = s.now ∧ (State.pgOutSync s).free = s.free ∧ (State.pgOutSync s).pending = s.pending ∧ (State.pgOutSync s).regs = s.regs ∧ (State.pgOutSync s).flt = s.flt ∧ (State.pgOutSync s).amap = s.amap ∧ (State.pgOutSync s).mem = s.mem ∧ (State.pgOutSync s).home = s.home ∧ (State.pgOutSync s).ddr = s.ddr ∧ (State.pgOutSync s).tier = s.tier ∧ (State.pgOutSync s).dm = s.dm ∧ (State.pgOutSync s).brg = s.brg ∧ (State.pgOutSync s).clk = s.clk ∧ (State.pgOutSync s).boot = s.boot ∧ (State.pgOutSync s).core = s.core ∧ (State.pgOutSync s).mgmt = s.mgmt := by
  unfold State.pgOutSync; simp [State.raiseHsc_keeps _ _ _ _, State.onHsc_keeps _ _]

theorem State.limitTick_keeps (s : State) (inLimit : Bool) :
    (State.limitTick s inLimit).now = s.now ∧ (State.limitTick s inLimit).free = s.free ∧ (State.limitTick s inLimit).pending = s.pending ∧ (State.limitTick s inLimit).regs = s.regs ∧ (State.limitTick s inLimit).flt = s.flt ∧ (State.limitTick s inLimit).amap = s.amap ∧ (State.limitTick s inLimit).mem = s.mem ∧ (State.limitTick s inLimit).home = s.home ∧ (State.limitTick s inLimit).ddr = s.ddr ∧ (State.limitTick s inLimit).tier = s.tier ∧ (State.limitTick s inLimit).dm = s.dm ∧ (State.limitTick s inLimit).brg = s.brg ∧ (State.limitTick s inLimit).clk = s.clk ∧ (State.limitTick s inLimit).boot = s.boot ∧ (State.limitTick s inLimit).core = s.core ∧ (State.limitTick s inLimit).mgmt = s.mgmt := by
  unfold State.limitTick; simp [State.enterLimit_keeps _, State.onHsc_keeps _ _]

theorem State.pgStep_keeps (s : State) (vout : ℕ) (gate : ℕ) (inLimit : Bool) :
    (State.pgStep s vout gate inLimit).free = s.free ∧ (State.pgStep s vout gate inLimit).pending = s.pending ∧ (State.pgStep s vout gate inLimit).regs = s.regs ∧ (State.pgStep s vout gate inLimit).flt = s.flt ∧ (State.pgStep s vout gate inLimit).amap = s.amap ∧ (State.pgStep s vout gate inLimit).mem = s.mem ∧ (State.pgStep s vout gate inLimit).home = s.home ∧ (State.pgStep s vout gate inLimit).ddr = s.ddr ∧ (State.pgStep s vout gate inLimit).tier = s.tier ∧ (State.pgStep s vout gate inLimit).dm = s.dm ∧ (State.pgStep s vout gate inLimit).brg = s.brg ∧ (State.pgStep s vout gate inLimit).clk = s.clk ∧ (State.pgStep s vout gate inLimit).boot = s.boot ∧ (State.pgStep s vout gate inLimit).core = s.core ∧ (State.pgStep s vout gate inLimit).mgmt = s.mgmt := by
  unfold State.pgStep; simp [State.reach_keeps _ _, State.onHsc_keeps _ _, State.limitTick_keeps _ _, State.setTrip_keeps _ _, State.pgOutSync_keeps _]

theorem State.fetTick_keeps (s : State) (vin : ℕ) (vout : ℕ) (iMa : ℕ) (ntc : Option ℤ) (dieC : ℤ) :
    (State.fetTick s vin vout iMa ntc dieC).pending = s.pending ∧ (State.fetTick s vin vout iMa ntc dieC).regs = s.regs ∧ (State.fetTick s vin vout iMa ntc dieC).amap = s.amap ∧ (State.fetTick s vin vout iMa ntc dieC).mem = s.mem ∧ (State.fetTick s vin vout iMa ntc dieC).home = s.home ∧ (State.fetTick s vin vout iMa ntc dieC).ddr = s.ddr ∧ (State.fetTick s vin vout iMa ntc dieC).tier = s.tier ∧ (State.fetTick s vin vout iMa ntc dieC).dm = s.dm ∧ (State.fetTick s vin vout iMa ntc dieC).brg = s.brg ∧ (State.fetTick s vin vout iMa ntc dieC).clk = s.clk ∧ (State.fetTick s vin vout iMa ntc dieC).boot = s.boot ∧ (State.fetTick s vin vout iMa ntc dieC).core = s.core ∧ (State.fetTick s vin vout iMa ntc dieC).mgmt = s.mgmt := by
  unfold State.fetTick; simp [State.reach_keeps _ _, State.onHsc_keeps _ _, State.takeFree_keeps _, State.raiseHsc_keeps _ _ _ _, State.trip_keeps _ _]

theorem State.damaged_keeps (s : State) :
    (State.damaged s).now = s.now ∧ (State.damaged s).free = s.free ∧ (State.damaged s).pending = s.pending ∧ (State.damaged s).regs = s.regs ∧ (State.damaged s).amap = s.amap ∧ (State.damaged s).mem = s.mem ∧ (State.damaged s).home = s.home ∧ (State.damaged s).ddr = s.ddr ∧ (State.damaged s).tier = s.tier ∧ (State.damaged s).dm = s.dm ∧ (State.damaged s).brg = s.brg ∧ (State.damaged s).clk = s.clk ∧ (State.damaged s).boot = s.boot ∧ (State.damaged s).core = s.core ∧ (State.damaged s).mgmt = s.mgmt := by
  unfold State.damaged; simp [State.setTrip_keeps _ _, State.onHsc_keeps _ _, State.fileP_keeps _ _ _ _, State.raiseHsc_keeps _ _ _ _]

theorem State.hscResult_keeps (s : State) (r : ℕ) :
    (State.hscResult s r).now = s.now ∧ (State.hscResult s r).free = s.free ∧ (State.hscResult s r).pending = s.pending ∧ (State.hscResult s r).out = s.out ∧ (State.hscResult s r).regs = s.regs ∧ (State.hscResult s r).ret = s.ret ∧ (State.hscResult s r).evt = s.evt ∧ (State.hscResult s r).flt = s.flt ∧ (State.hscResult s r).obs = s.obs ∧ (State.hscResult s r).host = s.host ∧ (State.hscResult s r).amap = s.amap ∧ (State.hscResult s r).mem = s.mem ∧ (State.hscResult s r).home = s.home ∧ (State.hscResult s r).ddr = s.ddr ∧ (State.hscResult s r).tier = s.tier ∧ (State.hscResult s r).dm = s.dm ∧ (State.hscResult s r).dunas = s.dunas ∧ (State.hscResult s r).brg = s.brg ∧ (State.hscResult s r).clk = s.clk ∧ (State.hscResult s r).boot = s.boot ∧ (State.hscResult s r).core = s.core ∧ (State.hscResult s r).mgmt = s.mgmt := by
  unfold State.hscResult; simp [State.onHsc_keeps _ _]

theorem State.hscStart_keeps (s : State) :
    (State.hscStart s).now = s.now ∧ (State.hscStart s).free = s.free ∧ (State.hscStart s).pending = s.pending ∧ (State.hscStart s).out = s.out ∧ (State.hscStart s).regs = s.regs ∧ (State.hscStart s).ret = s.ret ∧ (State.hscStart s).evt = s.evt ∧ (State.hscStart s).flt = s.flt ∧ (State.hscStart s).obs = s.obs ∧ (State.hscStart s).host = s.host ∧ (State.hscStart s).amap = s.amap ∧ (State.hscStart s).mem = s.mem ∧ (State.hscStart s).home = s.home ∧ (State.hscStart s).ddr = s.ddr ∧ (State.hscStart s).tier = s.tier ∧ (State.hscStart s).dm = s.dm ∧ (State.hscStart s).dunas = s.dunas ∧ (State.hscStart s).brg = s.brg ∧ (State.hscStart s).clk = s.clk ∧ (State.hscStart s).boot = s.boot ∧ (State.hscStart s).core = s.core ∧ (State.hscStart s).mgmt = s.mgmt := by
  unfold State.hscStart; simp [State.hscResult_keeps _ _, State.onHsc_keeps _ _]

theorem State.hscStop_keeps (s : State) :
    (State.hscStop s).now = s.now ∧ (State.hscStop s).free = s.free ∧ (State.hscStop s).pending = s.pending ∧ (State.hscStop s).out = s.out ∧ (State.hscStop s).regs = s.regs ∧ (State.hscStop s).ret = s.ret ∧ (State.hscStop s).evt = s.evt ∧ (State.hscStop s).flt = s.flt ∧ (State.hscStop s).obs = s.obs ∧ (State.hscStop s).host = s.host ∧ (State.hscStop s).amap = s.amap ∧ (State.hscStop s).mem = s.mem ∧ (State.hscStop s).home = s.home ∧ (State.hscStop s).ddr = s.ddr ∧ (State.hscStop s).tier = s.tier ∧ (State.hscStop s).dm = s.dm ∧ (State.hscStop s).dunas = s.dunas ∧ (State.hscStop s).brg = s.brg ∧ (State.hscStop s).clk = s.clk ∧ (State.hscStop s).boot = s.boot ∧ (State.hscStop s).core = s.core ∧ (State.hscStop s).mgmt = s.mgmt := by
  unfold State.hscStop; simp [State.onHsc_keeps _ _, State.gatePull_keeps _ _, State.hscResult_keeps _ _]

theorem State.hscClearLatch_keeps (s : State) :
    (State.hscClearLatch s).now = s.now ∧ (State.hscClearLatch s).free = s.free ∧ (State.hscClearLatch s).pending = s.pending ∧ (State.hscClearLatch s).out = s.out ∧ (State.hscClearLatch s).regs = s.regs ∧ (State.hscClearLatch s).ret = s.ret ∧ (State.hscClearLatch s).evt = s.evt ∧ (State.hscClearLatch s).flt = s.flt ∧ (State.hscClearLatch s).obs = s.obs ∧ (State.hscClearLatch s).host = s.host ∧ (State.hscClearLatch s).amap = s.amap ∧ (State.hscClearLatch s).mem = s.mem ∧ (State.hscClearLatch s).home = s.home ∧ (State.hscClearLatch s).ddr = s.ddr ∧ (State.hscClearLatch s).tier = s.tier ∧ (State.hscClearLatch s).dm = s.dm ∧ (State.hscClearLatch s).dunas = s.dunas ∧ (State.hscClearLatch s).brg = s.brg ∧ (State.hscClearLatch s).clk = s.clk ∧ (State.hscClearLatch s).boot = s.boot ∧ (State.hscClearLatch s).core = s.core ∧ (State.hscClearLatch s).mgmt = s.mgmt := by
  unfold State.hscClearLatch; simp [State.onHsc_keeps _ _, State.hscResult_keeps _ _]

theorem State.hscClrShort_keeps (s : State) (vout : ℕ) :
    (State.hscClrShort s vout).now = s.now ∧ (State.hscClrShort s vout).free = s.free ∧ (State.hscClrShort s vout).pending = s.pending ∧ (State.hscClrShort s vout).out = s.out ∧ (State.hscClrShort s vout).regs = s.regs ∧ (State.hscClrShort s vout).evt = s.evt ∧ (State.hscClrShort s vout).flt = s.flt ∧ (State.hscClrShort s vout).obs = s.obs ∧ (State.hscClrShort s vout).host = s.host ∧ (State.hscClrShort s vout).amap = s.amap ∧ (State.hscClrShort s vout).mem = s.mem ∧ (State.hscClrShort s vout).home = s.home ∧ (State.hscClrShort s vout).ddr = s.ddr ∧ (State.hscClrShort s vout).tier = s.tier ∧ (State.hscClrShort s vout).dm = s.dm ∧ (State.hscClrShort s vout).dunas = s.dunas ∧ (State.hscClrShort s vout).brg = s.brg ∧ (State.hscClrShort s vout).clk = s.clk ∧ (State.hscClrShort s vout).boot = s.boot ∧ (State.hscClrShort s vout).core = s.core ∧ (State.hscClrShort s vout).mgmt = s.mgmt := by
  unfold State.hscClrShort; simp [State.onHsc_keeps _ _, State.setTrip_keeps _ _, State.hscResult_keeps _ _]

theorem State.hscOp_keeps (s : State) (op : ℕ) (vout : ℕ) :
    (State.hscOp s op vout).now = s.now ∧ (State.hscOp s op vout).free = s.free ∧ (State.hscOp s op vout).pending = s.pending ∧ (State.hscOp s op vout).out = s.out ∧ (State.hscOp s op vout).regs = s.regs ∧ (State.hscOp s op vout).evt = s.evt ∧ (State.hscOp s op vout).flt = s.flt ∧ (State.hscOp s op vout).obs = s.obs ∧ (State.hscOp s op vout).host = s.host ∧ (State.hscOp s op vout).amap = s.amap ∧ (State.hscOp s op vout).mem = s.mem ∧ (State.hscOp s op vout).home = s.home ∧ (State.hscOp s op vout).ddr = s.ddr ∧ (State.hscOp s op vout).tier = s.tier ∧ (State.hscOp s op vout).dm = s.dm ∧ (State.hscOp s op vout).dunas = s.dunas ∧ (State.hscOp s op vout).brg = s.brg ∧ (State.hscOp s op vout).clk = s.clk ∧ (State.hscOp s op vout).boot = s.boot ∧ (State.hscOp s op vout).core = s.core ∧ (State.hscOp s op vout).mgmt = s.mgmt := by
  unfold State.hscOp; simp [State.hscStart_keeps _, State.hscStop_keeps _, State.hscClearLatch_keeps _, State.hscClrShort_keeps _ _]

end Sys2Proof.Machine
end

