-- ==== Sys2Proof/Laws/MoverKeeps.lean ====
section
/-! SUPPORT. Which fields of the state the operations of Mover leave as they are: a proof
over the operation `State.op` gives simp its lemma `State.op_keeps _ _`. -/

namespace Sys2Proof.Machine

theorem State.staleHandle_keeps (s : State) (e : ℕ) (ld : ℕ) :
    (State.staleHandle s e ld).now = s.now ∧ (State.staleHandle s e ld).free = s.free ∧ (State.staleHandle s e ld).pending = s.pending ∧ (State.staleHandle s e ld).regs = s.regs ∧ (State.staleHandle s e ld).flt = s.flt ∧ (State.staleHandle s e ld).amap = s.amap ∧ (State.staleHandle s e ld).mem = s.mem ∧ (State.staleHandle s e ld).home = s.home ∧ (State.staleHandle s e ld).ddr = s.ddr ∧ (State.staleHandle s e ld).tier = s.tier ∧ (State.staleHandle s e ld).dm = s.dm ∧ (State.staleHandle s e ld).brg = s.brg ∧ (State.staleHandle s e ld).clk = s.clk ∧ (State.staleHandle s e ld).hsc = s.hsc ∧ (State.staleHandle s e ld).boot = s.boot ∧ (State.staleHandle s e ld).core = s.core ∧ (State.staleHandle s e ld).mgmt = s.mgmt := by
  unfold State.staleHandle; simp [State.raise_keeps _ _]

theorem State.descEvent_keeps (s : State) (q : ℕ) (ix : ℕ) :
    (State.descEvent s q ix).now = s.now ∧ (State.descEvent s q ix).free = s.free ∧ (State.descEvent s q ix).pending = s.pending ∧ (State.descEvent s q ix).regs = s.regs ∧ (State.descEvent s q ix).flt = s.flt ∧ (State.descEvent s q ix).amap = s.amap ∧ (State.descEvent s q ix).mem = s.mem ∧ (State.descEvent s q ix).home = s.home ∧ (State.descEvent s q ix).ddr = s.ddr ∧ (State.descEvent s q ix).tier = s.tier ∧ (State.descEvent s q ix).dm = s.dm ∧ (State.descEvent s q ix).brg = s.brg ∧ (State.descEvent s q ix).clk = s.clk ∧ (State.descEvent s q ix).hsc = s.hsc ∧ (State.descEvent s q ix).boot = s.boot ∧ (State.descEvent s q ix).core = s.core ∧ (State.descEvent s q ix).mgmt = s.mgmt := by
  unfold State.descEvent; (repeat' split) <;> simp [State.raise_keeps _ _]

theorem State.endDesc_keeps (s : State) (q : ℕ) (ix : ℕ) (f : Desc → Desc) :
    (State.endDesc s q ix f).now = s.now ∧ (State.endDesc s q ix f).free = s.free ∧ (State.endDesc s q ix f).pending = s.pending ∧ (State.endDesc s q ix f).regs = s.regs ∧ (State.endDesc s q ix f).flt = s.flt ∧ (State.endDesc s q ix f).amap = s.amap ∧ (State.endDesc s q ix f).mem = s.mem ∧ (State.endDesc s q ix f).ddr = s.ddr ∧ (State.endDesc s q ix f).tier = s.tier ∧ (State.endDesc s q ix f).brg = s.brg ∧ (State.endDesc s q ix f).clk = s.clk ∧ (State.endDesc s q ix f).hsc = s.hsc ∧ (State.endDesc s q ix f).boot = s.boot ∧ (State.endDesc s q ix f).core = s.core ∧ (State.endDesc s q ix f).mgmt = s.mgmt := by
  unfold State.endDesc; simp [State.onLd_keeps _ _ _, State.pumpReads_keeps _ _, State.descEvent_keeps _ _ _, State.onDesc_keeps _ _ _ _]

theorem State.failDesc_keeps (s : State) (q : ℕ) (ix : ℕ) (st : ℕ) (off : ℕ) :
    (State.failDesc s q ix st off).now = s.now ∧ (State.failDesc s q ix st off).free = s.free ∧ (State.failDesc s q ix st off).pending = s.pending ∧ (State.failDesc s q ix st off).regs = s.regs ∧ (State.failDesc s q ix st off).flt = s.flt ∧ (State.failDesc s q ix st off).amap = s.amap ∧ (State.failDesc s q ix st off).mem = s.mem ∧ (State.failDesc s q ix st off).ddr = s.ddr ∧ (State.failDesc s q ix st off).tier = s.tier ∧ (State.failDesc s q ix st off).brg = s.brg ∧ (State.failDesc s q ix st off).clk = s.clk ∧ (State.failDesc s q ix st off).hsc = s.hsc ∧ (State.failDesc s q ix st off).boot = s.boot ∧ (State.failDesc s q ix st off).core = s.core ∧ (State.failDesc s q ix st off).mgmt = s.mgmt := by
  unfold State.failDesc; (repeat' split) <;> simp [State.staleHandle_keeps _ _ _, State.endDesc_keeps _ _ _ _]

theorem State.moved_keeps (s : State) (q : ℕ) (bytes : ℕ) :
    (State.moved s q bytes).now = s.now ∧ (State.moved s q bytes).free = s.free ∧ (State.moved s q bytes).pending = s.pending ∧ (State.moved s q bytes).out = s.out ∧ (State.moved s q bytes).regs = s.regs ∧ (State.moved s q bytes).ret = s.ret ∧ (State.moved s q bytes).evt = s.evt ∧ (State.moved s q bytes).flt = s.flt ∧ (State.moved s q bytes).host = s.host ∧ (State.moved s q bytes).amap = s.amap ∧ (State.moved s q bytes).mem = s.mem ∧ (State.moved s q bytes).home = s.home ∧ (State.moved s q bytes).ddr = s.ddr ∧ (State.moved s q bytes).tier = s.tier ∧ (State.moved s q bytes).dunas = s.dunas ∧ (State.moved s q bytes).brg = s.brg ∧ (State.moved s q bytes).clk = s.clk ∧ (State.moved s q bytes).hsc = s.hsc ∧ (State.moved s q bytes).boot = s.boot ∧ (State.moved s q bytes).core = s.core := by
  unfold State.moved; simp [State.onQueue_keeps _ _ _, State.count_keeps _ _ _ _]

theorem State.flushDone_keeps (s : State) (q : ℕ) (ix : ℕ) (ok : Bool) :
    (State.flushDone s q ix ok).now = s.now ∧ (State.flushDone s q ix ok).free = s.free ∧ (State.flushDone s q ix ok).pending = s.pending ∧ (State.flushDone s q ix ok).regs = s.regs ∧ (State.flushDone s q ix ok).flt = s.flt ∧ (State.flushDone s q ix ok).amap = s.amap ∧ (State.flushDone s q ix ok).mem = s.mem ∧ (State.flushDone s q ix ok).ddr = s.ddr ∧ (State.flushDone s q ix ok).tier = s.tier ∧ (State.flushDone s q ix ok).brg = s.brg ∧ (State.flushDone s q ix ok).clk = s.clk ∧ (State.flushDone s q ix ok).hsc = s.hsc ∧ (State.flushDone s q ix ok).boot = s.boot ∧ (State.flushDone s q ix ok).core = s.core ∧ (State.flushDone s q ix ok).mgmt = s.mgmt := by
  unfold State.flushDone; simp [State.endDesc_keeps _ _ _ _, State.failDesc_keeps _ _ _ _ _]

theorem State.readFailed_keeps (s : State) (r : ReqRead) (st : ℕ) (a : ℕ) :
    (State.readFailed s r st a).now = s.now ∧ (State.readFailed s r st a).free = s.free ∧ (State.readFailed s r st a).pending = s.pending ∧ (State.readFailed s r st a).flt = s.flt ∧ (State.readFailed s r st a).amap = s.amap ∧ (State.readFailed s r st a).mem = s.mem ∧ (State.readFailed s r st a).ddr = s.ddr ∧ (State.readFailed s r st a).tier = s.tier ∧ (State.readFailed s r st a).brg = s.brg ∧ (State.readFailed s r st a).clk = s.clk ∧ (State.readFailed s r st a).hsc = s.hsc ∧ (State.readFailed s r st a).boot = s.boot ∧ (State.readFailed s r st a).core = s.core ∧ (State.readFailed s r st a).mgmt = s.mgmt := by
  unfold State.readFailed; (repeat' split) <;> simp [State.haltQueue_keeps _ _ _, State.flushDone_keeps _ _ _ _, State.failDesc_keeps _ _ _ _ _]

theorem State.hostPiece_keeps (s : State) (ld : ℕ) (tag : ℕ) (addr : ℕ) (data : List Byte) (st : CplStatus) :
    (State.hostPiece s ld tag addr data st).now = s.now ∧ (State.hostPiece s ld tag addr data st).free = s.free ∧ (State.hostPiece s ld tag addr data st).pending = s.pending ∧ (State.hostPiece s ld tag addr data st).flt = s.flt ∧ (State.hostPiece s ld tag addr data st).amap = s.amap ∧ (State.hostPiece s ld tag addr data st).mem = s.mem ∧ (State.hostPiece s ld tag addr data st).ddr = s.ddr ∧ (State.hostPiece s ld tag addr data st).tier = s.tier ∧ (State.hostPiece s ld tag addr data st).brg = s.brg ∧ (State.hostPiece s ld tag addr data st).clk = s.clk ∧ (State.hostPiece s ld tag addr data st).hsc = s.hsc ∧ (State.hostPiece s ld tag addr data st).boot = s.boot ∧ (State.hostPiece s ld tag addr data st).core = s.core ∧ (State.hostPiece s ld tag addr data st).mgmt = s.mgmt := by
  unfold State.hostPiece; (repeat' split) <;> simp [State.readFailed_keeps _ _ _ _, State.onLd_keeps _ _ _, State.onQueue_keeps _ _ _, State.onDesc_keeps _ _ _ _, State.flushDone_keeps _ _ _ _, State.pumpReads_keeps _ _]

theorem State.hostWrites_keeps (a0 : ℕ) (a1 : ℕ) (a2 : ℕ) (a3 : List Byte) (a4 : Bool) (a5 : Bool) (a6 : State) :
    (State.hostWrites a0 a1 a2 a3 a4 a5 a6).now = a6.now ∧ (State.hostWrites a0 a1 a2 a3 a4 a5 a6).free = a6.free ∧ (State.hostWrites a0 a1 a2 a3 a4 a5 a6).pending = a6.pending ∧ (State.hostWrites a0 a1 a2 a3 a4 a5 a6).regs = a6.regs ∧ (State.hostWrites a0 a1 a2 a3 a4 a5 a6).ret = a6.ret ∧ (State.hostWrites a0 a1 a2 a3 a4 a5 a6).evt = a6.evt ∧ (State.hostWrites a0 a1 a2 a3 a4 a5 a6).flt = a6.flt ∧ (State.hostWrites a0 a1 a2 a3 a4 a5 a6).amap = a6.amap ∧ (State.hostWrites a0 a1 a2 a3 a4 a5 a6).mem = a6.mem ∧ (State.hostWrites a0 a1 a2 a3 a4 a5 a6).home = a6.home ∧ (State.hostWrites a0 a1 a2 a3 a4 a5 a6).ddr = a6.ddr ∧ (State.hostWrites a0 a1 a2 a3 a4 a5 a6).tier = a6.tier ∧ (State.hostWrites a0 a1 a2 a3 a4 a5 a6).dm = a6.dm ∧ (State.hostWrites a0 a1 a2 a3 a4 a5 a6).brg = a6.brg ∧ (State.hostWrites a0 a1 a2 a3 a4 a5 a6).clk = a6.clk ∧ (State.hostWrites a0 a1 a2 a3 a4 a5 a6).hsc = a6.hsc ∧ (State.hostWrites a0 a1 a2 a3 a4 a5 a6).boot = a6.boot ∧ (State.hostWrites a0 a1 a2 a3 a4 a5 a6).core = a6.core ∧ (State.hostWrites a0 a1 a2 a3 a4 a5 a6).mgmt = a6.mgmt := by
  fun_induction State.hostWrites a0 a1 a2 a3 a4 a5 a6 <;> simp_all +zetaDelta [State.toHost_keeps _ _ _]

theorem State.dmRequest_keeps (s : State) (key : ℕ) (line : ℕ) (k : ReqKind) (tag : ℕ) :
    (State.dmRequest s key line k tag).now = s.now ∧ (State.dmRequest s key line k tag).pending = s.pending ∧ (State.dmRequest s key line k tag).dm = s.dm ∧ (State.dmRequest s key line k tag).brg = s.brg ∧ (State.dmRequest s key line k tag).clk = s.clk ∧ (State.dmRequest s key line k tag).hsc = s.hsc ∧ (State.dmRequest s key line k tag).boot = s.boot ∧ (State.dmRequest s key line k tag).core = s.core := by
  unfold State.dmRequest; simp [State.tagging_keeps _ _, State.enlist_keeps _ _ _ _ _ _ _]

theorem State.operand_keeps (s : State) (q : ℕ) (d : Desc) (sp : Bool) (a : ℕ) (n : ℕ) :
    (State.operand s q d sp a n).1.now = s.now ∧ (State.operand s q d sp a n).1.pending = s.pending ∧ (State.operand s q d sp a n).1.dm = s.dm ∧ (State.operand s q d sp a n).1.brg = s.brg ∧ (State.operand s q d sp a n).1.clk = s.clk ∧ (State.operand s q d sp a n).1.hsc = s.hsc ∧ (State.operand s q d sp a n).1.boot = s.boot ∧ (State.operand s q d sp a n).1.core = s.core := by
  obtain ⟨P, hP⟩ : ∃ P : State → Prop, P = fun x => x.now = s.now ∧ x.pending = s.pending ∧ x.dm = s.dm ∧ x.brg = s.brg ∧ x.clk = s.clk ∧ x.hsc = s.hsc ∧ x.boot = s.boot ∧ x.core = s.core := ⟨_, rfl⟩
  suffices h : P (State.operand s q d sp a n).1 by rw [hP] at h; exact h
  unfold State.operand; (try dsimp only); (repeat' split) <;> skip <;> subst hP <;> simp_all [State.dmRequest_keeps _ _ _ _ _]

theorem State.dmPut_keeps (s : State) (q : ℕ) (ix : ℕ) (sp : Bool) (a : ℕ) (d : List (Option Byte)) :
    (State.dmPut s q ix sp a d).now = s.now ∧ (State.dmPut s q ix sp a d).pending = s.pending ∧ (State.dmPut s q ix sp a d).dm = s.dm ∧ (State.dmPut s q ix sp a d).brg = s.brg ∧ (State.dmPut s q ix sp a d).clk = s.clk ∧ (State.dmPut s q ix sp a d).hsc = s.hsc ∧ (State.dmPut s q ix sp a d).boot = s.boot ∧ (State.dmPut s q ix sp a d).core = s.core := by
  unfold State.dmPut; simp [State.dmRequest_keeps _ _ _ _ _, State.hostWrites_keeps _ _ _ _ _ _ _]

end Sys2Proof.Machine
end

