-- ==== Sys2Proof/Laws/LostKeeps.lean ====
section
/-! SUPPORT. Which fields of the state the operations of Lost leave as they are: a proof
over the operation `State.op` gives simp its lemma `State.op_keeps _ _`. -/

namespace Sys2Proof.Machine

theorem State.discardPoison_keeps (s : State) (u : ℕ) (line : ℕ) :
    (State.discardPoison s u line).now = s.now ∧ (State.discardPoison s u line).pending = s.pending ∧ (State.discardPoison s u line).dm = s.dm ∧ (State.discardPoison s u line).brg = s.brg ∧ (State.discardPoison s u line).clk = s.clk ∧ (State.discardPoison s u line).hsc = s.hsc ∧ (State.discardPoison s u line).boot = s.boot ∧ (State.discardPoison s u line).core = s.core := by
  unfold State.discardPoison; simp [State.needChunk_keeps _ _, State.runLine_keeps _ _]

theorem State.markedPage_keeps (s : State) (p : ℕ) :
    (State.markedPage s p).now = s.now ∧ (State.markedPage s p).pending = s.pending ∧ (State.markedPage s p).dm = s.dm ∧ (State.markedPage s p).brg = s.brg ∧ (State.markedPage s p).clk = s.clk ∧ (State.markedPage s p).hsc = s.hsc ∧ (State.markedPage s p).boot = s.boot ∧ (State.markedPage s p).core = s.core := by
  unfold State.markedPage; simp [State.needChunk_keeps _ _, State.tierCount_keeps _ _, State.setAtoms_keeps _ _ _, State.setEntry_keeps _ _ _, State.poisonPage_keeps _ _ _, State.nodeLost_keeps _ _ _ _, State.runPage_keeps _ _, State.leafLost_keeps _ _ _]

theorem State.discardMarked_keeps (s : State) (e : ℕ) :
    (State.discardMarked s e).now = s.now ∧ (State.discardMarked s e).pending = s.pending ∧ (State.discardMarked s e).dm = s.dm ∧ (State.discardMarked s e).brg = s.brg ∧ (State.discardMarked s e).clk = s.clk ∧ (State.discardMarked s e).hsc = s.hsc ∧ (State.discardMarked s e).boot = s.boot ∧ (State.discardMarked s e).core = s.core := by
  unfold State.discardMarked; simp [State.markedPage_keeps _ _]

theorem State.endDiscard_keeps (s : State) (u : ℕ) :
    (State.endDiscard s u).now = s.now ∧ (State.endDiscard s u).free = s.free ∧ (State.endDiscard s u).pending = s.pending ∧ (State.endDiscard s u).regs = s.regs ∧ (State.endDiscard s u).amap = s.amap ∧ (State.endDiscard s u).mem = s.mem ∧ (State.endDiscard s u).home = s.home ∧ (State.endDiscard s u).ddr = s.ddr ∧ (State.endDiscard s u).tier = s.tier ∧ (State.endDiscard s u).dm = s.dm ∧ (State.endDiscard s u).brg = s.brg ∧ (State.endDiscard s u).clk = s.clk ∧ (State.endDiscard s u).hsc = s.hsc ∧ (State.endDiscard s u).boot = s.boot ∧ (State.endDiscard s u).core = s.core ∧ (State.endDiscard s u).mgmt = s.mgmt := by
  unfold State.endDiscard; (repeat' split) <;> simp [State.raise_keeps _ _]

theorem State.applyDiscard_keeps (s : State) (u : ℕ) (p : ℕ → Bool) :
    (State.applyDiscard s u p).now = s.now ∧ (State.applyDiscard s u p).pending = s.pending ∧ (State.applyDiscard s u p).dm = s.dm ∧ (State.applyDiscard s u p).brg = s.brg ∧ (State.applyDiscard s u p).clk = s.clk ∧ (State.applyDiscard s u p).hsc = s.hsc ∧ (State.applyDiscard s u p).boot = s.boot ∧ (State.applyDiscard s u p).core = s.core := by
  unfold State.applyDiscard; simp [State.discardPoison_keeps _ _ _, State.endDiscard_keeps _ _, State.discardMarked_keeps _ _]

theorem State.closeRec_keeps (s : State) (u : ℕ) :
    (State.closeRec s u).now = s.now ∧ (State.closeRec s u).free = s.free ∧ (State.closeRec s u).pending = s.pending ∧ (State.closeRec s u).regs = s.regs ∧ (State.closeRec s u).amap = s.amap ∧ (State.closeRec s u).mem = s.mem ∧ (State.closeRec s u).home = s.home ∧ (State.closeRec s u).ddr = s.ddr ∧ (State.closeRec s u).tier = s.tier ∧ (State.closeRec s u).dm = s.dm ∧ (State.closeRec s u).brg = s.brg ∧ (State.closeRec s u).clk = s.clk ∧ (State.closeRec s u).hsc = s.hsc ∧ (State.closeRec s u).boot = s.boot ∧ (State.closeRec s u).core = s.core ∧ (State.closeRec s u).mgmt = s.mgmt := by
  unfold State.closeRec; simp [State.setRec_keeps _ _ _, State.raise_keeps _ _]

theorem State.devRecovered_keeps (s : State) :
    (State.devRecovered s).now = s.now ∧ (State.devRecovered s).free = s.free ∧ (State.devRecovered s).pending = s.pending ∧ (State.devRecovered s).regs = s.regs ∧ (State.devRecovered s).amap = s.amap ∧ (State.devRecovered s).mem = s.mem ∧ (State.devRecovered s).home = s.home ∧ (State.devRecovered s).ddr = s.ddr ∧ (State.devRecovered s).tier = s.tier ∧ (State.devRecovered s).dm = s.dm ∧ (State.devRecovered s).brg = s.brg ∧ (State.devRecovered s).clk = s.clk ∧ (State.devRecovered s).hsc = s.hsc ∧ (State.devRecovered s).boot = s.boot ∧ (State.devRecovered s).core = s.core ∧ (State.devRecovered s).mgmt = s.mgmt := by
  unfold State.devRecovered; simp [State.closeRec_keeps _ _]

theorem State.abandonAll_keeps (s : State) (p : ℕ → Bool) :
    (State.abandonAll s p).now = s.now ∧ (State.abandonAll s p).pending = s.pending ∧ (State.abandonAll s p).dm = s.dm ∧ (State.abandonAll s p).brg = s.brg ∧ (State.abandonAll s p).clk = s.clk ∧ (State.abandonAll s p).hsc = s.hsc ∧ (State.abandonAll s p).boot = s.boot ∧ (State.abandonAll s p).core = s.core := by
  unfold State.abandonAll; simp [State.abandon_keeps _ _]

theorem State.flushSlice_keeps (s : State) (hs : ℕ) :
    (State.flushSlice s hs).now = s.now ∧ (State.flushSlice s hs).pending = s.pending ∧ (State.flushSlice s hs).regs = s.regs ∧ (State.flushSlice s hs).dm = s.dm ∧ (State.flushSlice s hs).brg = s.brg ∧ (State.flushSlice s hs).clk = s.clk ∧ (State.flushSlice s hs).hsc = s.hsc ∧ (State.flushSlice s hs).boot = s.boot ∧ (State.flushSlice s hs).core = s.core ∧ (State.flushSlice s hs).mgmt = s.mgmt := by
  unfold State.flushSlice; simp [State.endRetag_keeps _ _ _, State.flushAtom_keeps _ _, State.metaGone_keeps _ _ _ _, State.cleanTo_keeps _ _ _ _]

theorem State.flushLovage_keeps (s : State) (i : ℕ) :
    (State.flushLovage s i).now = s.now ∧ (State.flushLovage s i).pending = s.pending ∧ (State.flushLovage s i).dm = s.dm ∧ (State.flushLovage s i).brg = s.brg ∧ (State.flushLovage s i).clk = s.clk ∧ (State.flushLovage s i).hsc = s.hsc ∧ (State.flushLovage s i).boot = s.boot ∧ (State.flushLovage s i).core = s.core := by
  unfold State.flushLovage; simp [State.abandonAll_keeps _ _, State.flushSlice_keeps _ _, State.selfRefresh_keeps _ _]

theorem State.dmDiscarded_keeps (s : State) (key : ℕ) (line : ℕ) :
    (State.dmDiscarded s key line).now = s.now ∧ (State.dmDiscarded s key line).free = s.free ∧ (State.dmDiscarded s key line).pending = s.pending ∧ (State.dmDiscarded s key line).flt = s.flt ∧ (State.dmDiscarded s key line).amap = s.amap ∧ (State.dmDiscarded s key line).mem = s.mem ∧ (State.dmDiscarded s key line).ddr = s.ddr ∧ (State.dmDiscarded s key line).tier = s.tier ∧ (State.dmDiscarded s key line).brg = s.brg ∧ (State.dmDiscarded s key line).clk = s.clk ∧ (State.dmDiscarded s key line).hsc = s.hsc ∧ (State.dmDiscarded s key line).boot = s.boot ∧ (State.dmDiscarded s key line).core = s.core ∧ (State.dmDiscarded s key line).mgmt = s.mgmt := by
  obtain ⟨P, hP⟩ : ∃ P : State → Prop, P = fun x => x.now = s.now ∧ x.free = s.free ∧ x.pending = s.pending ∧ x.flt = s.flt ∧ x.amap = s.amap ∧ x.mem = s.mem ∧ x.ddr = s.ddr ∧ x.tier = s.tier ∧ x.brg = s.brg ∧ x.clk = s.clk ∧ x.hsc = s.hsc ∧ x.boot = s.boot ∧ x.core = s.core ∧ x.mgmt = s.mgmt := ⟨_, rfl⟩
  suffices h : P (State.dmDiscarded s key line) by rw [hP] at h; exact h
  unfold State.dmDiscarded; (try dsimp only); (repeat' split) <;> subst hP <;> simp_all [State.haltQueue_keeps _ _ _, State.failDesc_keeps _ _ _ _ _, State.descEvent_keeps _ _ _, State.onDesc_keeps _ _ _ _]

theorem State.answerOut_keeps (s : State) (u : ℕ) (q : QReq) :
    (State.answerOut s u q).now = s.now ∧ (State.answerOut s u q).free = s.free ∧ (State.answerOut s u q).pending = s.pending ∧ (State.answerOut s u q).mem = s.mem ∧ (State.answerOut s u q).ddr = s.ddr ∧ (State.answerOut s u q).tier = s.tier ∧ (State.answerOut s u q).brg = s.brg ∧ (State.answerOut s u q).clk = s.clk ∧ (State.answerOut s u q).hsc = s.hsc ∧ (State.answerOut s u q).boot = s.boot ∧ (State.answerOut s u q).core = s.core := by
  unfold State.answerOut; (repeat' split) <;> simp [State.answerRead_keeps _ _ _ _, State.answerCmp_keeps _ _ _ _, State.discardLine_keeps _ _ _, State.dmDiscarded_keeps _ _ _, State.answerAtomic_keeps _ _ _ _ _]

theorem State.turnSlices_keeps (s : State) (u : ℕ) (p : ℕ → Bool) :
    (State.turnSlices s u p).now = s.now ∧ (State.turnSlices s u p).free = s.free ∧ (State.turnSlices s u p).pending = s.pending ∧ (State.turnSlices s u p).mem = s.mem ∧ (State.turnSlices s u p).ddr = s.ddr ∧ (State.turnSlices s u p).tier = s.tier ∧ (State.turnSlices s u p).brg = s.brg ∧ (State.turnSlices s u p).clk = s.clk ∧ (State.turnSlices s u p).hsc = s.hsc ∧ (State.turnSlices s u p).boot = s.boot ∧ (State.turnSlices s u p).core = s.core := by
  unfold State.turnSlices; simp [State.answerOut_keeps _ _ _]

theorem State.storeRcnt_keeps (s : State) :
    (State.storeRcnt s).now = s.now ∧ (State.storeRcnt s).free = s.free ∧ (State.storeRcnt s).pending = s.pending ∧ (State.storeRcnt s).out = s.out ∧ (State.storeRcnt s).regs = s.regs ∧ (State.storeRcnt s).evt = s.evt ∧ (State.storeRcnt s).obs = s.obs ∧ (State.storeRcnt s).host = s.host ∧ (State.storeRcnt s).amap = s.amap ∧ (State.storeRcnt s).mem = s.mem ∧ (State.storeRcnt s).home = s.home ∧ (State.storeRcnt s).ddr = s.ddr ∧ (State.storeRcnt s).tier = s.tier ∧ (State.storeRcnt s).dm = s.dm ∧ (State.storeRcnt s).dunas = s.dunas ∧ (State.storeRcnt s).brg = s.brg ∧ (State.storeRcnt s).clk = s.clk ∧ (State.storeRcnt s).hsc = s.hsc ∧ (State.storeRcnt s).boot = s.boot ∧ (State.storeRcnt s).core = s.core ∧ (State.storeRcnt s).mgmt = s.mgmt := by
  unfold State.storeRcnt; simp [State.retWrite_keeps _ _ _ _]

theorem State.restoreFields_keeps (s : State) (off : ℕ) (src : ℕ) (m : ℕ) :
    (State.restoreFields s off src m).now = s.now ∧ (State.restoreFields s off src m).free = s.free ∧ (State.restoreFields s off src m).pending = s.pending ∧ (State.restoreFields s off src m).out = s.out ∧ (State.restoreFields s off src m).ret = s.ret ∧ (State.restoreFields s off src m).evt = s.evt ∧ (State.restoreFields s off src m).flt = s.flt ∧ (State.restoreFields s off src m).obs = s.obs ∧ (State.restoreFields s off src m).host = s.host ∧ (State.restoreFields s off src m).amap = s.amap ∧ (State.restoreFields s off src m).mem = s.mem ∧ (State.restoreFields s off src m).home = s.home ∧ (State.restoreFields s off src m).ddr = s.ddr ∧ (State.restoreFields s off src m).tier = s.tier ∧ (State.restoreFields s off src m).dm = s.dm ∧ (State.restoreFields s off src m).dunas = s.dunas ∧ (State.restoreFields s off src m).brg = s.brg ∧ (State.restoreFields s off src m).clk = s.clk ∧ (State.restoreFields s off src m).hsc = s.hsc ∧ (State.restoreFields s off src m).boot = s.boot ∧ (State.restoreFields s off src m).core = s.core ∧ (State.restoreFields s off src m).mgmt = s.mgmt := by
  unfold State.restoreFields; simp [State.setReg_keeps _ _ _ _]

theorem State.loadRwpWord_keeps (s : State) (off : ℕ) :
    (State.loadRwpWord s off).now = s.now ∧ (State.loadRwpWord s off).free = s.free ∧ (State.loadRwpWord s off).pending = s.pending ∧ (State.loadRwpWord s off).out = s.out ∧ (State.loadRwpWord s off).ret = s.ret ∧ (State.loadRwpWord s off).evt = s.evt ∧ (State.loadRwpWord s off).flt = s.flt ∧ (State.loadRwpWord s off).obs = s.obs ∧ (State.loadRwpWord s off).host = s.host ∧ (State.loadRwpWord s off).amap = s.amap ∧ (State.loadRwpWord s off).mem = s.mem ∧ (State.loadRwpWord s off).home = s.home ∧ (State.loadRwpWord s off).ddr = s.ddr ∧ (State.loadRwpWord s off).tier = s.tier ∧ (State.loadRwpWord s off).dm = s.dm ∧ (State.loadRwpWord s off).dunas = s.dunas ∧ (State.loadRwpWord s off).brg = s.brg ∧ (State.loadRwpWord s off).clk = s.clk ∧ (State.loadRwpWord s off).hsc = s.hsc ∧ (State.loadRwpWord s off).boot = s.boot ∧ (State.loadRwpWord s off).core = s.core ∧ (State.loadRwpWord s off).mgmt = s.mgmt := by
  unfold State.loadRwpWord; (repeat' split) <;> simp [State.restoreFields_keeps _ _ _ _]

theorem State.loadRwp_keeps (s : State) :
    (State.loadRwp s).now = s.now ∧ (State.loadRwp s).free = s.free ∧ (State.loadRwp s).pending = s.pending ∧ (State.loadRwp s).out = s.out ∧ (State.loadRwp s).ret = s.ret ∧ (State.loadRwp s).evt = s.evt ∧ (State.loadRwp s).flt = s.flt ∧ (State.loadRwp s).obs = s.obs ∧ (State.loadRwp s).host = s.host ∧ (State.loadRwp s).amap = s.amap ∧ (State.loadRwp s).mem = s.mem ∧ (State.loadRwp s).home = s.home ∧ (State.loadRwp s).ddr = s.ddr ∧ (State.loadRwp s).tier = s.tier ∧ (State.loadRwp s).dm = s.dm ∧ (State.loadRwp s).dunas = s.dunas ∧ (State.loadRwp s).brg = s.brg ∧ (State.loadRwp s).clk = s.clk ∧ (State.loadRwp s).hsc = s.hsc ∧ (State.loadRwp s).boot = s.boot ∧ (State.loadRwp s).core = s.core ∧ (State.loadRwp s).mgmt = s.mgmt := by
  unfold State.loadRwp; simp [State.loadRwpWord_keeps _ _]

theorem State.keepRws_keeps (s : State) (off : ℕ) (old : ℕ) :
    (State.keepRws s off old).now = s.now ∧ (State.keepRws s off old).free = s.free ∧ (State.keepRws s off old).pending = s.pending ∧ (State.keepRws s off old).out = s.out ∧ (State.keepRws s off old).ret = s.ret ∧ (State.keepRws s off old).evt = s.evt ∧ (State.keepRws s off old).flt = s.flt ∧ (State.keepRws s off old).obs = s.obs ∧ (State.keepRws s off old).host = s.host ∧ (State.keepRws s off old).amap = s.amap ∧ (State.keepRws s off old).mem = s.mem ∧ (State.keepRws s off old).home = s.home ∧ (State.keepRws s off old).ddr = s.ddr ∧ (State.keepRws s off old).tier = s.tier ∧ (State.keepRws s off old).dm = s.dm ∧ (State.keepRws s off old).dunas = s.dunas ∧ (State.keepRws s off old).brg = s.brg ∧ (State.keepRws s off old).clk = s.clk ∧ (State.keepRws s off old).hsc = s.hsc ∧ (State.keepRws s off old).boot = s.boot ∧ (State.keepRws s off old).core = s.core ∧ (State.keepRws s off old).mgmt = s.mgmt := by
  unfold State.keepRws; (repeat' split) <;> simp [State.restoreFields_keeps _ _ _ _]

theorem State.resetRegs_keeps (s : State) (p : ℕ → Bool) (keep : Bool) :
    (State.resetRegs s p keep).now = s.now ∧ (State.resetRegs s p keep).free = s.free ∧ (State.resetRegs s p keep).pending = s.pending ∧ (State.resetRegs s p keep).out = s.out ∧ (State.resetRegs s p keep).ret = s.ret ∧ (State.resetRegs s p keep).evt = s.evt ∧ (State.resetRegs s p keep).flt = s.flt ∧ (State.resetRegs s p keep).obs = s.obs ∧ (State.resetRegs s p keep).host = s.host ∧ (State.resetRegs s p keep).amap = s.amap ∧ (State.resetRegs s p keep).mem = s.mem ∧ (State.resetRegs s p keep).home = s.home ∧ (State.resetRegs s p keep).ddr = s.ddr ∧ (State.resetRegs s p keep).tier = s.tier ∧ (State.resetRegs s p keep).dm = s.dm ∧ (State.resetRegs s p keep).dunas = s.dunas ∧ (State.resetRegs s p keep).brg = s.brg ∧ (State.resetRegs s p keep).clk = s.clk ∧ (State.resetRegs s p keep).hsc = s.hsc ∧ (State.resetRegs s p keep).boot = s.boot ∧ (State.resetRegs s p keep).core = s.core ∧ (State.resetRegs s p keep).mgmt = s.mgmt := by
  unfold State.resetRegs; simp [State.keepRws_keeps _ _ _, State.loadRwp_keeps _]

end Sys2Proof.Machine
end

