-- ==== Sys2Proof/Laws/BootKeeps.lean ====
section
/-! SUPPORT. Which fields of the state the operations of Boot leave as they are: a proof
over the operation `State.op` gives simp its lemma `State.op_keeps _ _`. -/

namespace Sys2Proof.Machine

theorem State.onBoot_keeps (s : State) (f : Boot → Boot) :
    (State.onBoot s f).now = s.now ∧ (State.onBoot s f).free = s.free ∧ (State.onBoot s f).pending = s.pending ∧ (State.onBoot s f).out = s.out ∧ (State.onBoot s f).regs = s.regs ∧ (State.onBoot s f).ret = s.ret ∧ (State.onBoot s f).evt = s.evt ∧ (State.onBoot s f).flt = s.flt ∧ (State.onBoot s f).obs = s.obs ∧ (State.onBoot s f).host = s.host ∧ (State.onBoot s f).amap = s.amap ∧ (State.onBoot s f).mem = s.mem ∧ (State.onBoot s f).home = s.home ∧ (State.onBoot s f).ddr = s.ddr ∧ (State.onBoot s f).tier = s.tier ∧ (State.onBoot s f).dm = s.dm ∧ (State.onBoot s f).dunas = s.dunas ∧ (State.onBoot s f).brg = s.brg ∧ (State.onBoot s f).clk = s.clk ∧ (State.onBoot s f).hsc = s.hsc ∧ (State.onBoot s f).core = s.core ∧ (State.onBoot s f).mgmt = s.mgmt := by
  unfold State.onBoot; simp

theorem State.raiseBoot_keeps (s : State) (src : ℕ) (subject : ℕ) (detail : List ℕ) :
    (State.raiseBoot s src subject detail).now = s.now ∧ (State.raiseBoot s src subject detail).free = s.free ∧ (State.raiseBoot s src subject detail).pending = s.pending ∧ (State.raiseBoot s src subject detail).regs = s.regs ∧ (State.raiseBoot s src subject detail).flt = s.flt ∧ (State.raiseBoot s src subject detail).amap = s.amap ∧ (State.raiseBoot s src subject detail).mem = s.mem ∧ (State.raiseBoot s src subject detail).home = s.home ∧ (State.raiseBoot s src subject detail).ddr = s.ddr ∧ (State.raiseBoot s src subject detail).tier = s.tier ∧ (State.raiseBoot s src subject detail).dm = s.dm ∧ (State.raiseBoot s src subject detail).brg = s.brg ∧ (State.raiseBoot s src subject detail).clk = s.clk ∧ (State.raiseBoot s src subject detail).hsc = s.hsc ∧ (State.raiseBoot s src subject detail).boot = s.boot ∧ (State.raiseBoot s src subject detail).core = s.core ∧ (State.raiseBoot s src subject detail).mgmt = s.mgmt := by
  unfold State.raiseBoot; simp [State.raise_keeps _ _]

theorem State.copied_keeps (s : State) (i : FwImage) :
    (State.copied s i).now = s.now ∧ (State.copied s i).free = s.free ∧ (State.copied s i).pending = s.pending ∧ (State.copied s i).out = s.out ∧ (State.copied s i).regs = s.regs ∧ (State.copied s i).ret = s.ret ∧ (State.copied s i).evt = s.evt ∧ (State.copied s i).flt = s.flt ∧ (State.copied s i).obs = s.obs ∧ (State.copied s i).host = s.host ∧ (State.copied s i).amap = s.amap ∧ (State.copied s i).mem = s.mem ∧ (State.copied s i).home = s.home ∧ (State.copied s i).ddr = s.ddr ∧ (State.copied s i).tier = s.tier ∧ (State.copied s i).dm = s.dm ∧ (State.copied s i).dunas = s.dunas ∧ (State.copied s i).brg = s.brg ∧ (State.copied s i).clk = s.clk ∧ (State.copied s i).hsc = s.hsc ∧ (State.copied s i).boot = s.boot ∧ (State.copied s i).mgmt = s.mgmt := by
  unfold State.copied; simp

theorem State.startCore0_keeps (s : State) (b : Bool) (i : FwImage) :
    (State.startCore0 s b i).now = s.now ∧ (State.startCore0 s b i).free = s.free ∧ (State.startCore0 s b i).pending = s.pending ∧ (State.startCore0 s b i).out = s.out ∧ (State.startCore0 s b i).regs = s.regs ∧ (State.startCore0 s b i).ret = s.ret ∧ (State.startCore0 s b i).evt = s.evt ∧ (State.startCore0 s b i).flt = s.flt ∧ (State.startCore0 s b i).obs = s.obs ∧ (State.startCore0 s b i).host = s.host ∧ (State.startCore0 s b i).amap = s.amap ∧ (State.startCore0 s b i).mem = s.mem ∧ (State.startCore0 s b i).home = s.home ∧ (State.startCore0 s b i).ddr = s.ddr ∧ (State.startCore0 s b i).tier = s.tier ∧ (State.startCore0 s b i).dm = s.dm ∧ (State.startCore0 s b i).dunas = s.dunas ∧ (State.startCore0 s b i).brg = s.brg ∧ (State.startCore0 s b i).clk = s.clk ∧ (State.startCore0 s b i).hsc = s.hsc ∧ (State.startCore0 s b i).mgmt = s.mgmt := by
  unfold State.startCore0; simp [State.onBoot_keeps _ _]

theorem State.trySlot_keeps (s : State) (b : Bool) :
    (State.trySlot s b).1.now = s.now ∧ (State.trySlot s b).1.free = s.free ∧ (State.trySlot s b).1.pending = s.pending ∧ (State.trySlot s b).1.regs = s.regs ∧ (State.trySlot s b).1.flt = s.flt ∧ (State.trySlot s b).1.amap = s.amap ∧ (State.trySlot s b).1.mem = s.mem ∧ (State.trySlot s b).1.home = s.home ∧ (State.trySlot s b).1.ddr = s.ddr ∧ (State.trySlot s b).1.tier = s.tier ∧ (State.trySlot s b).1.dm = s.dm ∧ (State.trySlot s b).1.brg = s.brg ∧ (State.trySlot s b).1.clk = s.clk ∧ (State.trySlot s b).1.hsc = s.hsc ∧ (State.trySlot s b).1.mgmt = s.mgmt := by
  unfold State.trySlot; (repeat' split) <;> simp [State.startCore0_keeps _ _ _, State.raiseBoot_keeps _ _ _ _, State.copied_keeps _ _]

theorem State.bootRom_keeps (s : State) :
    (State.bootRom s).1.now = s.now ∧ (State.bootRom s).1.free = s.free ∧ (State.bootRom s).1.pending = s.pending ∧ (State.bootRom s).1.regs = s.regs ∧ (State.bootRom s).1.flt = s.flt ∧ (State.bootRom s).1.amap = s.amap ∧ (State.bootRom s).1.mem = s.mem ∧ (State.bootRom s).1.home = s.home ∧ (State.bootRom s).1.ddr = s.ddr ∧ (State.bootRom s).1.tier = s.tier ∧ (State.bootRom s).1.dm = s.dm ∧ (State.bootRom s).1.brg = s.brg ∧ (State.bootRom s).1.clk = s.clk ∧ (State.bootRom s).1.hsc = s.hsc ∧ (State.bootRom s).1.mgmt = s.mgmt := by
  obtain ⟨P, hP⟩ : ∃ P : State → Prop, P = fun x => x.now = s.now ∧ x.free = s.free ∧ x.pending = s.pending ∧ x.regs = s.regs ∧ x.flt = s.flt ∧ x.amap = s.amap ∧ x.mem = s.mem ∧ x.home = s.home ∧ x.ddr = s.ddr ∧ x.tier = s.tier ∧ x.dm = s.dm ∧ x.brg = s.brg ∧ x.clk = s.clk ∧ x.hsc = s.hsc ∧ x.mgmt = s.mgmt := ⟨_, rfl⟩
  suffices h : P (State.bootRom s).1 by rw [hP] at h; exact h
  unfold State.bootRom; (try dsimp only); (repeat' split) <;> skip <;> subst hP <;> simp_all [State.trySlot_keeps _ _]

theorem State.holdHrdy_keeps (s : State) :
    (State.holdHrdy s).now = s.now ∧ (State.holdHrdy s).free = s.free ∧ (State.holdHrdy s).pending = s.pending ∧ (State.holdHrdy s).out = s.out ∧ (State.holdHrdy s).regs = s.regs ∧ (State.holdHrdy s).ret = s.ret ∧ (State.holdHrdy s).evt = s.evt ∧ (State.holdHrdy s).flt = s.flt ∧ (State.holdHrdy s).obs = s.obs ∧ (State.holdHrdy s).amap = s.amap ∧ (State.holdHrdy s).mem = s.mem ∧ (State.holdHrdy s).home = s.home ∧ (State.holdHrdy s).ddr = s.ddr ∧ (State.holdHrdy s).tier = s.tier ∧ (State.holdHrdy s).dm = s.dm ∧ (State.holdHrdy s).dunas = s.dunas ∧ (State.holdHrdy s).brg = s.brg ∧ (State.holdHrdy s).clk = s.clk ∧ (State.holdHrdy s).hsc = s.hsc ∧ (State.holdHrdy s).boot = s.boot ∧ (State.holdHrdy s).core = s.core ∧ (State.holdHrdy s).mgmt = s.mgmt := by
  unfold State.holdHrdy; simp [State.onGrp_keeps _ _ _, State.hrdySync_keeps _]

theorem State.coldClear_keeps (s : State) :
    (State.coldClear s).now = s.now ∧ (State.coldClear s).free = s.free ∧ (State.coldClear s).pending = s.pending ∧ (State.coldClear s).hsc = s.hsc ∧ (State.coldClear s).boot = s.boot ∧ (State.coldClear s).core = s.core := by
  unfold State.coldClear; simp [State.dropHeld_keeps _, State.loadRwp_keeps _]

theorem State.rw1cReset_keeps (s : State) :
    (State.rw1cReset s).now = s.now ∧ (State.rw1cReset s).free = s.free ∧ (State.rw1cReset s).pending = s.pending ∧ (State.rw1cReset s).out = s.out ∧ (State.rw1cReset s).regs = s.regs ∧ (State.rw1cReset s).ret = s.ret ∧ (State.rw1cReset s).obs = s.obs ∧ (State.rw1cReset s).host = s.host ∧ (State.rw1cReset s).amap = s.amap ∧ (State.rw1cReset s).mem = s.mem ∧ (State.rw1cReset s).home = s.home ∧ (State.rw1cReset s).ddr = s.ddr ∧ (State.rw1cReset s).tier = s.tier ∧ (State.rw1cReset s).dm = s.dm ∧ (State.rw1cReset s).dunas = s.dunas ∧ (State.rw1cReset s).brg = s.brg ∧ (State.rw1cReset s).hsc = s.hsc ∧ (State.rw1cReset s).boot = s.boot ∧ (State.rw1cReset s).mgmt = s.mgmt := by
  unfold State.rw1cReset; simp

theorem State.mainLost_keeps (s : State) :
    (State.mainLost s).now = s.now ∧ (State.mainLost s).free = s.free ∧ (State.mainLost s).pending = s.pending ∧ (State.mainLost s).hsc = s.hsc ∧ (State.mainLost s).boot = s.boot ∧ (State.mainLost s).core = s.core := by
  unfold State.mainLost; simp [State.coldClear_keeps _, State.dropHeld_keeps _]

theorem State.coldFirmware_keeps (s : State) :
    (State.coldFirmware s).now = s.now ∧ (State.coldFirmware s).free = s.free ∧ (State.coldFirmware s).pending = s.pending ∧ (State.coldFirmware s).regs = s.regs ∧ (State.coldFirmware s).flt = s.flt ∧ (State.coldFirmware s).amap = s.amap ∧ (State.coldFirmware s).mem = s.mem ∧ (State.coldFirmware s).home = s.home ∧ (State.coldFirmware s).ddr = s.ddr ∧ (State.coldFirmware s).tier = s.tier ∧ (State.coldFirmware s).dm = s.dm ∧ (State.coldFirmware s).brg = s.brg ∧ (State.coldFirmware s).clk = s.clk ∧ (State.coldFirmware s).hsc = s.hsc := by
  obtain ⟨P, hP⟩ : ∃ P : State → Prop, P = fun x => x.now = s.now ∧ x.free = s.free ∧ x.pending = s.pending ∧ x.regs = s.regs ∧ x.flt = s.flt ∧ x.amap = s.amap ∧ x.mem = s.mem ∧ x.home = s.home ∧ x.ddr = s.ddr ∧ x.tier = s.tier ∧ x.dm = s.dm ∧ x.brg = s.brg ∧ x.clk = s.clk ∧ x.hsc = s.hsc := ⟨_, rfl⟩
  suffices h : P (State.coldFirmware s) by rw [hP] at h; exact h
  unfold State.coldFirmware; (try dsimp only); (repeat' split) <;> skip <;> subst hP <;> simp_all [State.retWrite_keeps _ _ _ _, State.bootRom_keeps _, State.onBoot_keeps _ _, State.startCore0_keeps _ _ _]

theorem State.pmbus_keeps (s : State) (k : ℕ) (op : ℕ) (val : ℕ) :
    (State.pmbus s k op val).now = s.now ∧ (State.pmbus s k op val).free = s.free ∧ (State.pmbus s k op val).pending = s.pending ∧ (State.pmbus s k op val).regs = s.regs ∧ (State.pmbus s k op val).ret = s.ret ∧ (State.pmbus s k op val).evt = s.evt ∧ (State.pmbus s k op val).flt = s.flt ∧ (State.pmbus s k op val).host = s.host ∧ (State.pmbus s k op val).amap = s.amap ∧ (State.pmbus s k op val).mem = s.mem ∧ (State.pmbus s k op val).home = s.home ∧ (State.pmbus s k op val).ddr = s.ddr ∧ (State.pmbus s k op val).tier = s.tier ∧ (State.pmbus s k op val).dm = s.dm ∧ (State.pmbus s k op val).brg = s.brg ∧ (State.pmbus s k op val).clk = s.clk ∧ (State.pmbus s k op val).hsc = s.hsc ∧ (State.pmbus s k op val).boot = s.boot ∧ (State.pmbus s k op val).core = s.core ∧ (State.pmbus s k op val).mgmt = s.mgmt := by
  unfold State.pmbus; simp [State.emit_keeps _ _]

theorem State.setCore_keeps (s : State) (mV : ℕ) :
    (State.setCore s mV).now = s.now ∧ (State.setCore s mV).free = s.free ∧ (State.setCore s mV).pending = s.pending ∧ (State.setCore s mV).regs = s.regs ∧ (State.setCore s mV).ret = s.ret ∧ (State.setCore s mV).evt = s.evt ∧ (State.setCore s mV).flt = s.flt ∧ (State.setCore s mV).host = s.host ∧ (State.setCore s mV).amap = s.amap ∧ (State.setCore s mV).mem = s.mem ∧ (State.setCore s mV).home = s.home ∧ (State.setCore s mV).ddr = s.ddr ∧ (State.setCore s mV).tier = s.tier ∧ (State.setCore s mV).dm = s.dm ∧ (State.setCore s mV).brg = s.brg ∧ (State.setCore s mV).clk = s.clk ∧ (State.setCore s mV).hsc = s.hsc ∧ (State.setCore s mV).core = s.core ∧ (State.setCore s mV).mgmt = s.mgmt := by
  unfold State.setCore; simp [State.onBoot_keeps _ _, State.pmbus_keeps _ _ _ _]

theorem State.mainUp_keeps (s : State) :
    (State.mainUp s).now = s.now ∧ (State.mainUp s).free = s.free ∧ (State.mainUp s).pending = s.pending ∧ (State.mainUp s).out = s.out ∧ (State.mainUp s).regs = s.regs ∧ (State.mainUp s).ret = s.ret ∧ (State.mainUp s).evt = s.evt ∧ (State.mainUp s).flt = s.flt ∧ (State.mainUp s).host = s.host ∧ (State.mainUp s).amap = s.amap ∧ (State.mainUp s).mem = s.mem ∧ (State.mainUp s).home = s.home ∧ (State.mainUp s).ddr = s.ddr ∧ (State.mainUp s).tier = s.tier ∧ (State.mainUp s).dm = s.dm ∧ (State.mainUp s).dunas = s.dunas ∧ (State.mainUp s).brg = s.brg ∧ (State.mainUp s).clk = s.clk ∧ (State.mainUp s).hsc = s.hsc ∧ (State.mainUp s).core = s.core ∧ (State.mainUp s).mgmt = s.mgmt := by
  unfold State.mainUp; simp [State.onBoot_keeps _ _, State.settleAll_keeps _]

theorem State.startRails_keeps (s : State) :
    (State.startRails s).now = s.now ∧ (State.startRails s).free = s.free ∧ (State.startRails s).pending = s.pending ∧ (State.startRails s).regs = s.regs ∧ (State.startRails s).flt = s.flt ∧ (State.startRails s).amap = s.amap ∧ (State.startRails s).mem = s.mem ∧ (State.startRails s).home = s.home ∧ (State.startRails s).ddr = s.ddr ∧ (State.startRails s).tier = s.tier ∧ (State.startRails s).dm = s.dm ∧ (State.startRails s).brg = s.brg ∧ (State.startRails s).clk = s.clk ∧ (State.startRails s).hsc = s.hsc ∧ (State.startRails s).core = s.core ∧ (State.startRails s).mgmt = s.mgmt := by
  unfold State.startRails; (repeat' split) <;> simp [State.raiseBoot_keeps _ _ _ _, State.onBoot_keeps _ _, State.mainUp_keeps _]

theorem State.railOff_keeps (s : State) :
    (State.railOff s).now = s.now ∧ (State.railOff s).free = s.free ∧ (State.railOff s).pending = s.pending ∧ (State.railOff s).regs = s.regs ∧ (State.railOff s).ret = s.ret ∧ (State.railOff s).evt = s.evt ∧ (State.railOff s).flt = s.flt ∧ (State.railOff s).host = s.host ∧ (State.railOff s).amap = s.amap ∧ (State.railOff s).mem = s.mem ∧ (State.railOff s).home = s.home ∧ (State.railOff s).ddr = s.ddr ∧ (State.railOff s).tier = s.tier ∧ (State.railOff s).dm = s.dm ∧ (State.railOff s).brg = s.brg ∧ (State.railOff s).clk = s.clk ∧ (State.railOff s).hsc = s.hsc ∧ (State.railOff s).boot = s.boot ∧ (State.railOff s).core = s.core ∧ (State.railOff s).mgmt = s.mgmt := by
  unfold State.railOff; (repeat' split) <;> simp [State.pmbus_keeps _ _ _ _]

theorem State.railsDown_keeps (s : State) :
    (State.railsDown s).now = s.now ∧ (State.railsDown s).free = s.free ∧ (State.railsDown s).pending = s.pending ∧ (State.railsDown s).regs = s.regs ∧ (State.railsDown s).ret = s.ret ∧ (State.railsDown s).evt = s.evt ∧ (State.railsDown s).flt = s.flt ∧ (State.railsDown s).host = s.host ∧ (State.railsDown s).amap = s.amap ∧ (State.railsDown s).mem = s.mem ∧ (State.railsDown s).home = s.home ∧ (State.railsDown s).ddr = s.ddr ∧ (State.railsDown s).tier = s.tier ∧ (State.railsDown s).dm = s.dm ∧ (State.railsDown s).brg = s.brg ∧ (State.railsDown s).clk = s.clk ∧ (State.railsDown s).hsc = s.hsc ∧ (State.railsDown s).core = s.core ∧ (State.railsDown s).mgmt = s.mgmt := by
  unfold State.railsDown; simp [State.railOff_keeps _, State.onBoot_keeps _ _]

theorem State.closeDev_keeps (s : State) :
    (State.closeDev s).now = s.now ∧ (State.closeDev s).free = s.free ∧ (State.closeDev s).pending = s.pending ∧ (State.closeDev s).out = s.out ∧ (State.closeDev s).regs = s.regs ∧ (State.closeDev s).ret = s.ret ∧ (State.closeDev s).evt = s.evt ∧ (State.closeDev s).obs = s.obs ∧ (State.closeDev s).host = s.host ∧ (State.closeDev s).amap = s.amap ∧ (State.closeDev s).mem = s.mem ∧ (State.closeDev s).home = s.home ∧ (State.closeDev s).ddr = s.ddr ∧ (State.closeDev s).tier = s.tier ∧ (State.closeDev s).dm = s.dm ∧ (State.closeDev s).dunas = s.dunas ∧ (State.closeDev s).brg = s.brg ∧ (State.closeDev s).clk = s.clk ∧ (State.closeDev s).hsc = s.hsc ∧ (State.closeDev s).boot = s.boot ∧ (State.closeDev s).core = s.core ∧ (State.closeDev s).mgmt = s.mgmt := by
  unfold State.closeDev; simp [State.setRec_keeps _ _ _]

theorem State.powerGood_keeps (s : State) :
    (State.powerGood s).now = s.now ∧ (State.powerGood s).free = s.free ∧ (State.powerGood s).pending = s.pending ∧ (State.powerGood s).regs = s.regs ∧ (State.powerGood s).flt = s.flt ∧ (State.powerGood s).amap = s.amap ∧ (State.powerGood s).mem = s.mem ∧ (State.powerGood s).home = s.home ∧ (State.powerGood s).ddr = s.ddr ∧ (State.powerGood s).tier = s.tier ∧ (State.powerGood s).dm = s.dm ∧ (State.powerGood s).brg = s.brg ∧ (State.powerGood s).clk = s.clk ∧ (State.powerGood s).hsc = s.hsc ∧ (State.powerGood s).core = s.core ∧ (State.powerGood s).mgmt = s.mgmt := by
  unfold State.powerGood; simp [State.startRails_keeps _, State.onBoot_keeps _ _]

theorem State.leaveAux_keeps (s : State) (src : ℕ) :
    (State.leaveAux s src).now = s.now ∧ (State.leaveAux s src).free = s.free ∧ (State.leaveAux s src).pending = s.pending ∧ (State.leaveAux s src).core = s.core := by
  unfold State.leaveAux; simp [State.onBoot_keeps _ _, State.closeDev_keeps _, State.coldClear_keeps _, State.raiseBoot_keeps _ _ _ _, State.hscStart_keeps _, State.powerGood_keeps _]

theorem State.endEntry_keeps (s : State) :
    (State.endEntry s).now = s.now ∧ (State.endEntry s).free = s.free ∧ (State.endEntry s).pending = s.pending ∧ (State.endEntry s).core = s.core := by
  unfold State.endEntry; simp [State.onBoot_keeps _ _, State.mainLost_keeps _, State.raiseBoot_keeps _ _ _ _, State.leaveAux_keeps _ _]

theorem State.railsGone_keeps (s : State) :
    (State.railsGone s).now = s.now ∧ (State.railsGone s).free = s.free ∧ (State.railsGone s).pending = s.pending ∧ (State.railsGone s).core = s.core := by
  unfold State.railsGone; simp [State.onBoot_keeps _ _, State.endEntry_keeps _]

theorem State.railsFallen_keeps (s : State) :
    (State.railsFallen s).now = s.now ∧ (State.railsFallen s).free = s.free ∧ (State.railsFallen s).pending = s.pending ∧ (State.railsFallen s).core = s.core := by
  unfold State.railsFallen; simp [State.onHsc_keeps _ _, State.hscStop_keeps _, State.endEntry_keeps _, State.railsGone_keeps _, State.onBoot_keeps _ _]

theorem State.powerDown_keeps (s : State) :
    (State.powerDown s).now = s.now ∧ (State.powerDown s).free = s.free ∧ (State.powerDown s).pending = s.pending ∧ (State.powerDown s).core = s.core := by
  unfold State.powerDown; simp [State.railsDown_keeps _, State.railsFallen_keeps _]

theorem State.pmicsOff_keeps (s : State) :
    (State.pmicsOff s).now = s.now ∧ (State.pmicsOff s).free = s.free ∧ (State.pmicsOff s).pending = s.pending ∧ (State.pmicsOff s).out = s.out ∧ (State.pmicsOff s).regs = s.regs ∧ (State.pmicsOff s).ret = s.ret ∧ (State.pmicsOff s).evt = s.evt ∧ (State.pmicsOff s).flt = s.flt ∧ (State.pmicsOff s).obs = s.obs ∧ (State.pmicsOff s).host = s.host ∧ (State.pmicsOff s).amap = s.amap ∧ (State.pmicsOff s).mem = s.mem ∧ (State.pmicsOff s).home = s.home ∧ (State.pmicsOff s).tier = s.tier ∧ (State.pmicsOff s).dm = s.dm ∧ (State.pmicsOff s).dunas = s.dunas ∧ (State.pmicsOff s).brg = s.brg ∧ (State.pmicsOff s).clk = s.clk ∧ (State.pmicsOff s).hsc = s.hsc ∧ (State.pmicsOff s).boot = s.boot ∧ (State.pmicsOff s).core = s.core ∧ (State.pmicsOff s).mgmt = s.mgmt := by
  unfold State.pmicsOff; simp [State.onChan_keeps _ _ _]

theorem State.enterAux_keeps (s : State) (commanded : Bool) :
    (State.enterAux s commanded).now = s.now ∧ (State.enterAux s commanded).pending = s.pending ∧ (State.enterAux s commanded).core = s.core := by
  unfold State.enterAux; simp [State.groupLost_keeps _ _, State.storeRcnt_keeps _, State.onBoot_keeps _ _, State.settleAll_keeps _, State.pmicsOff_keeps _, State.brgReset_keeps _, State.holdHrdy_keeps _, State.powerDown_keeps _]

theorem State.railFail_keeps (s : State) (k : ℕ) :
    (State.railFail s k).now = s.now ∧ (State.railFail s k).free = s.free ∧ (State.railFail s k).pending = s.pending ∧ (State.railFail s k).core = s.core := by
  unfold State.railFail; simp [State.onBoot_keeps _ _, State.raiseBoot_keeps _ _ _ _, State.powerDown_keeps _]

theorem State.pgChanged_keeps (s : State) (was : Bool) :
    (State.pgChanged s was).now = s.now ∧ (State.pgChanged s was).pending = s.pending ∧ (State.pgChanged s was).core = s.core := by
  unfold State.pgChanged; simp [State.leaveAux_keeps _ _, State.powerGood_keeps _, State.enterAux_keeps _ _]

theorem State.seedLfsrs_keeps (s : State) :
    (State.seedLfsrs s).now = s.now ∧ (State.seedLfsrs s).pending = s.pending ∧ (State.seedLfsrs s).out = s.out ∧ (State.seedLfsrs s).regs = s.regs ∧ (State.seedLfsrs s).ret = s.ret ∧ (State.seedLfsrs s).evt = s.evt ∧ (State.seedLfsrs s).flt = s.flt ∧ (State.seedLfsrs s).host = s.host ∧ (State.seedLfsrs s).amap = s.amap ∧ (State.seedLfsrs s).mem = s.mem ∧ (State.seedLfsrs s).home = s.home ∧ (State.seedLfsrs s).ddr = s.ddr ∧ (State.seedLfsrs s).tier = s.tier ∧ (State.seedLfsrs s).dm = s.dm ∧ (State.seedLfsrs s).dunas = s.dunas ∧ (State.seedLfsrs s).brg = s.brg ∧ (State.seedLfsrs s).clk = s.clk ∧ (State.seedLfsrs s).hsc = s.hsc ∧ (State.seedLfsrs s).boot = s.boot ∧ (State.seedLfsrs s).core = s.core ∧ (State.seedLfsrs s).mgmt = s.mgmt := by
  unfold State.seedLfsrs; simp [State.takeFree_keeps _]

theorem State.loadConfig_keeps (s : State) :
    (State.loadConfig s).now = s.now ∧ (State.loadConfig s).free = s.free ∧ (State.loadConfig s).pending = s.pending ∧ (State.loadConfig s).regs = s.regs ∧ (State.loadConfig s).flt = s.flt ∧ (State.loadConfig s).amap = s.amap ∧ (State.loadConfig s).mem = s.mem ∧ (State.loadConfig s).home = s.home ∧ (State.loadConfig s).ddr = s.ddr ∧ (State.loadConfig s).tier = s.tier ∧ (State.loadConfig s).dm = s.dm ∧ (State.loadConfig s).brg = s.brg ∧ (State.loadConfig s).clk = s.clk ∧ (State.loadConfig s).hsc = s.hsc ∧ (State.loadConfig s).core = s.core ∧ (State.loadConfig s).mgmt = s.mgmt := by
  unfold State.loadConfig; (repeat' split) <;> simp [State.onBoot_keeps _ _, State.raiseBoot_keeps _ _ _ _]

theorem State.stepNine_keeps (s : State) :
    (State.stepNine s).now = s.now ∧ (State.stepNine s).pending = s.pending ∧ (State.stepNine s).dm = s.dm ∧ (State.stepNine s).brg = s.brg ∧ (State.stepNine s).clk = s.clk ∧ (State.stepNine s).hsc = s.hsc ∧ (State.stepNine s).core = s.core := by
  unfold State.stepNine; simp [State.onChan_keeps _ _ _, State.applyDiscard_keeps _ _ _, State.runAll_keeps _, State.onBoot_keeps _ _, State.devRecovered_keeps _, State.discover_keeps _ _ _ _ _, State.takeFree_keeps _, State.loadConfig_keeps _, State.seedLfsrs_keeps _]

theorem State.afterFabric_keeps (s : State) :
    (State.afterFabric s).now = s.now ∧ (State.afterFabric s).pending = s.pending ∧ (State.afterFabric s).dm = s.dm ∧ (State.afterFabric s).brg = s.brg ∧ (State.afterFabric s).clk = s.clk ∧ (State.afterFabric s).hsc = s.hsc ∧ (State.afterFabric s).core = s.core := by
  unfold State.afterFabric; simp [State.stepNine_keeps _]

theorem State.rootLocked_keeps (s : State) :
    (State.rootLocked s).now = s.now ∧ (State.rootLocked s).free = s.free ∧ (State.rootLocked s).pending = s.pending ∧ (State.rootLocked s).out = s.out ∧ (State.rootLocked s).regs = s.regs ∧ (State.rootLocked s).ret = s.ret ∧ (State.rootLocked s).evt = s.evt ∧ (State.rootLocked s).flt = s.flt ∧ (State.rootLocked s).host = s.host ∧ (State.rootLocked s).amap = s.amap ∧ (State.rootLocked s).mem = s.mem ∧ (State.rootLocked s).home = s.home ∧ (State.rootLocked s).ddr = s.ddr ∧ (State.rootLocked s).tier = s.tier ∧ (State.rootLocked s).dm = s.dm ∧ (State.rootLocked s).dunas = s.dunas ∧ (State.rootLocked s).hsc = s.hsc ∧ (State.rootLocked s).core = s.core ∧ (State.rootLocked s).mgmt = s.mgmt := by
  unfold State.rootLocked; simp [State.settleAll_keeps _, State.brgRelease_keeps _, State.onBoot_keeps _ _]

theorem State.bringupDone_keeps (s : State) :
    (State.bringupDone s).now = s.now ∧ (State.bringupDone s).free = s.free ∧ (State.bringupDone s).pending = s.pending ∧ (State.bringupDone s).regs = s.regs ∧ (State.bringupDone s).flt = s.flt ∧ (State.bringupDone s).amap = s.amap ∧ (State.bringupDone s).mem = s.mem ∧ (State.bringupDone s).home = s.home ∧ (State.bringupDone s).ddr = s.ddr ∧ (State.bringupDone s).tier = s.tier ∧ (State.bringupDone s).dm = s.dm ∧ (State.bringupDone s).brg = s.brg ∧ (State.bringupDone s).clk = s.clk ∧ (State.bringupDone s).hsc = s.hsc ∧ (State.bringupDone s).core = s.core ∧ (State.bringupDone s).mgmt = s.mgmt := by
  unfold State.bringupDone; simp [State.onBoot_keeps _ _, State.raiseBoot_keeps _ _ _ _]

theorem State.releaseGrp_keeps (s : State) (g : ℕ) :
    (State.releaseGrp s g).pending = s.pending ∧ (State.releaseGrp s g).dm = s.dm ∧ (State.releaseGrp s g).brg = s.brg ∧ (State.releaseGrp s g).clk = s.clk ∧ (State.releaseGrp s g).hsc = s.hsc ∧ (State.releaseGrp s g).core = s.core := by
  unfold State.releaseGrp; simp [State.reach_keeps _ _, State.applyDiscard_keeps _ _ _, State.endDiscard_keeps _ _, State.bringupDone_keeps _, State.onGrp_keeps _ _ _]

theorem State.tornWrites_keeps (s : State) :
    (State.tornWrites s).now = s.now ∧ (State.tornWrites s).pending = s.pending ∧ (State.tornWrites s).out = s.out ∧ (State.tornWrites s).regs = s.regs ∧ (State.tornWrites s).evt = s.evt ∧ (State.tornWrites s).flt = s.flt ∧ (State.tornWrites s).obs = s.obs ∧ (State.tornWrites s).host = s.host ∧ (State.tornWrites s).amap = s.amap ∧ (State.tornWrites s).mem = s.mem ∧ (State.tornWrites s).home = s.home ∧ (State.tornWrites s).ddr = s.ddr ∧ (State.tornWrites s).tier = s.tier ∧ (State.tornWrites s).dm = s.dm ∧ (State.tornWrites s).dunas = s.dunas ∧ (State.tornWrites s).brg = s.brg ∧ (State.tornWrites s).clk = s.clk ∧ (State.tornWrites s).hsc = s.hsc ∧ (State.tornWrites s).boot = s.boot ∧ (State.tornWrites s).core = s.core ∧ (State.tornWrites s).mgmt = s.mgmt := by
  unfold State.tornWrites; (repeat' split) <;> simp [State.takeFree_keeps _]

@[simp] theorem State.auxClear_keeps (s : State) (rise : Bool) (b : Board) :
    (State.auxClear s rise b).pending = s.pending := by
  unfold State.auxClear; simp [State.tornWrites_keeps _, State.coldClear_keeps _, State.onHsc_keeps _ _, State.onGrp_keeps _ _ _, State.retWrite_keeps _ _ _ _]

theorem State.bootStart_keeps (s : State) :
    (State.bootStart s).now = s.now ∧ (State.bootStart s).free = s.free ∧ (State.bootStart s).pending = s.pending ∧ (State.bootStart s).out = s.out ∧ (State.bootStart s).regs = s.regs ∧ (State.bootStart s).ret = s.ret ∧ (State.bootStart s).evt = s.evt ∧ (State.bootStart s).flt = s.flt ∧ (State.bootStart s).obs = s.obs ∧ (State.bootStart s).host = s.host ∧ (State.bootStart s).amap = s.amap ∧ (State.bootStart s).mem = s.mem ∧ (State.bootStart s).home = s.home ∧ (State.bootStart s).ddr = s.ddr ∧ (State.bootStart s).tier = s.tier ∧ (State.bootStart s).dm = s.dm ∧ (State.bootStart s).dunas = s.dunas ∧ (State.bootStart s).brg = s.brg ∧ (State.bootStart s).clk = s.clk ∧ (State.bootStart s).core = s.core ∧ (State.bootStart s).mgmt = s.mgmt := by
  unfold State.bootStart; simp [State.hscStart_keeps _, State.onBoot_keeps _ _]

@[simp] theorem State.auxBoot_keeps (s : State) (rise : Bool) (b : Board) :
    (State.auxBoot s rise b).pending = s.pending := by
  unfold State.auxBoot; simp [State.bootRom_keeps _, State.bootStart_keeps _, State.onBoot_keeps _ _]

theorem State.coldReset_keeps (s : State) (src : ℕ) :
    (State.coldReset s src).now = s.now ∧ (State.coldReset s src).pending = s.pending := by
  unfold State.coldReset; simp [State.groupLost_keeps _ _, State.coldFirmware_keeps _, State.coldClear_keeps _, State.storeRcnt_keeps _, State.settleAll_keeps _, State.rw1cReset_keeps _, State.onBoot_keeps _ _, State.enterAux_keeps _ _, State.holdHrdy_keeps _]

theorem State.warmReset_keeps (s : State) (src : ℕ) :
    (State.warmReset s src).now = s.now ∧ (State.warmReset s src).pending = s.pending ∧ (State.warmReset s src).hsc = s.hsc := by
  unfold State.warmReset; simp [State.onBoot_keeps _ _, State.holdHrdy_keeps _, State.groupLost_keeps _ _, State.agentsGone_keeps _ _, State.sweepAgents_keeps _ _, State.flushLovage_keeps _ _, State.dropHeld_keeps _, State.storeRcnt_keeps _, State.onChan_keeps _ _ _, State.modOff_keeps _ _, State.onLink_keeps _ _ _, State.onLd_keeps _ _ _, State.clearFunction_keeps _ _, State.brgRelease_keeps _, State.resetRegs_keeps _ _ _, State.rw1cReset_keeps _]

theorem State.rstResult_keeps (s : State) (r : ℕ) :
    (State.rstResult s r).now = s.now ∧ (State.rstResult s r).free = s.free ∧ (State.rstResult s r).pending = s.pending ∧ (State.rstResult s r).out = s.out ∧ (State.rstResult s r).regs = s.regs ∧ (State.rstResult s r).ret = s.ret ∧ (State.rstResult s r).evt = s.evt ∧ (State.rstResult s r).flt = s.flt ∧ (State.rstResult s r).obs = s.obs ∧ (State.rstResult s r).host = s.host ∧ (State.rstResult s r).amap = s.amap ∧ (State.rstResult s r).mem = s.mem ∧ (State.rstResult s r).home = s.home ∧ (State.rstResult s r).ddr = s.ddr ∧ (State.rstResult s r).tier = s.tier ∧ (State.rstResult s r).dm = s.dm ∧ (State.rstResult s r).dunas = s.dunas ∧ (State.rstResult s r).brg = s.brg ∧ (State.rstResult s r).clk = s.clk ∧ (State.rstResult s r).hsc = s.hsc ∧ (State.rstResult s r).core = s.core ∧ (State.rstResult s r).mgmt = s.mgmt := by
  unfold State.rstResult; simp [State.onBoot_keeps _ _]

theorem State.rstOp_keeps (s : State) (m : Master) (op : ℕ) :
    (State.rstOp s m op).now = s.now ∧ (State.rstOp s m op).pending = s.pending := by
  unfold State.rstOp; simp [State.onBoot_keeps _ _, State.rstResult_keeps _ _, State.leaveAux_keeps _ _, State.warmReset_keeps _ _, State.coldReset_keeps _ _, State.enterAux_keeps _ _]

end Sys2Proof.Machine
end

