-- ==== Sys2Proof/Laws/CapacityKeeps.lean ====
section
/-! SUPPORT. Which fields of the state the operations of Capacity leave as they are: a proof
over the operation `State.op` gives simp its lemma `State.op_keeps _ _`. -/

namespace Sys2Proof.Machine

theorem State.setTdata_keeps (s : State) (k : ℕ) (v : ℕ) :
    (State.setTdata s k v).now = s.now ∧ (State.setTdata s k v).free = s.free ∧ (State.setTdata s k v).pending = s.pending ∧ (State.setTdata s k v).out = s.out ∧ (State.setTdata s k v).ret = s.ret ∧ (State.setTdata s k v).evt = s.evt ∧ (State.setTdata s k v).flt = s.flt ∧ (State.setTdata s k v).obs = s.obs ∧ (State.setTdata s k v).host = s.host ∧ (State.setTdata s k v).amap = s.amap ∧ (State.setTdata s k v).mem = s.mem ∧ (State.setTdata s k v).home = s.home ∧ (State.setTdata s k v).ddr = s.ddr ∧ (State.setTdata s k v).tier = s.tier ∧ (State.setTdata s k v).dm = s.dm ∧ (State.setTdata s k v).dunas = s.dunas ∧ (State.setTdata s k v).brg = s.brg ∧ (State.setTdata s k v).clk = s.clk ∧ (State.setTdata s k v).hsc = s.hsc ∧ (State.setTdata s k v).boot = s.boot ∧ (State.setTdata s k v).core = s.core ∧ (State.setTdata s k v).mgmt = s.mgmt := by
  unfold State.setTdata; simp [State.setReg_keeps _ _ _ _]

theorem State.advanceEpoch_keeps (s : State) (d : ℕ) :
    (State.advanceEpoch s d).now = s.now ∧ (State.advanceEpoch s d).pending = s.pending ∧ (State.advanceEpoch s d).regs = s.regs ∧ (State.advanceEpoch s d).flt = s.flt ∧ (State.advanceEpoch s d).home = s.home ∧ (State.advanceEpoch s d).ddr = s.ddr ∧ (State.advanceEpoch s d).tier = s.tier ∧ (State.advanceEpoch s d).dm = s.dm ∧ (State.advanceEpoch s d).brg = s.brg ∧ (State.advanceEpoch s d).clk = s.clk ∧ (State.advanceEpoch s d).hsc = s.hsc ∧ (State.advanceEpoch s d).boot = s.boot ∧ (State.advanceEpoch s d).core = s.core ∧ (State.advanceEpoch s d).mgmt = s.mgmt := by
  unfold State.advanceEpoch; simp [State.onDom_keeps _ _ _, State.raiseAt_keeps _ _ _ _, State.loadKeys_keeps _ _, State.takeFree_keeps _]

theorem State.mirrorSync_keeps (s : State) :
    (State.mirrorSync s).now = s.now ∧ (State.mirrorSync s).free = s.free ∧ (State.mirrorSync s).pending = s.pending ∧ (State.mirrorSync s).out = s.out ∧ (State.mirrorSync s).regs = s.regs ∧ (State.mirrorSync s).ret = s.ret ∧ (State.mirrorSync s).evt = s.evt ∧ (State.mirrorSync s).flt = s.flt ∧ (State.mirrorSync s).obs = s.obs ∧ (State.mirrorSync s).host = s.host ∧ (State.mirrorSync s).amap = s.amap ∧ (State.mirrorSync s).mem = s.mem ∧ (State.mirrorSync s).home = s.home ∧ (State.mirrorSync s).tier = s.tier ∧ (State.mirrorSync s).dm = s.dm ∧ (State.mirrorSync s).dunas = s.dunas ∧ (State.mirrorSync s).brg = s.brg ∧ (State.mirrorSync s).clk = s.clk ∧ (State.mirrorSync s).hsc = s.hsc ∧ (State.mirrorSync s).boot = s.boot ∧ (State.mirrorSync s).core = s.core ∧ (State.mirrorSync s).mgmt = s.mgmt := by
  unfold State.mirrorSync; simp [State.onChan_keeps _ _ _]

theorem State.applyEntry_keeps (s : State) (t : ℕ) (i : ℕ) (w : List ℕ) :
    (State.applyEntry s t i w).now = s.now ∧ (State.applyEntry s t i w).pending = s.pending ∧ (State.applyEntry s t i w).regs = s.regs ∧ (State.applyEntry s t i w).flt = s.flt ∧ (State.applyEntry s t i w).home = s.home ∧ (State.applyEntry s t i w).dm = s.dm ∧ (State.applyEntry s t i w).brg = s.brg ∧ (State.applyEntry s t i w).clk = s.clk ∧ (State.applyEntry s t i w).hsc = s.hsc ∧ (State.applyEntry s t i w).boot = s.boot ∧ (State.applyEntry s t i w).core = s.core ∧ (State.applyEntry s t i w).mgmt = s.mgmt := by
  unfold State.applyEntry; simp [State.mirrorSync_keeps _, State.onSet_keeps _ _ _, State.onDom_keeps _ _ _, State.dropDemotions_keeps _ _, State.advanceEpoch_keeps _ _, State.onRegion_keeps _ _ _]

theorem State.commitEntries_keeps (s : State) :
    (State.commitEntries s).now = s.now ∧ (State.commitEntries s).pending = s.pending ∧ (State.commitEntries s).regs = s.regs ∧ (State.commitEntries s).flt = s.flt ∧ (State.commitEntries s).home = s.home ∧ (State.commitEntries s).dm = s.dm ∧ (State.commitEntries s).brg = s.brg ∧ (State.commitEntries s).clk = s.clk ∧ (State.commitEntries s).hsc = s.hsc ∧ (State.commitEntries s).boot = s.boot ∧ (State.commitEntries s).core = s.core ∧ (State.commitEntries s).mgmt = s.mgmt := by
  unfold State.commitEntries; simp [State.applyEntry_keeps _ _ _ _, State.raise_keeps _ _, State.levels_keeps _ _, State.knowTotal_keeps _]

theorem State.stageEntry_keeps (s : State) (t : ℕ) (i : ℕ) :
    (State.stageEntry s t i).now = s.now ∧ (State.stageEntry s t i).free = s.free ∧ (State.stageEntry s t i).pending = s.pending ∧ (State.stageEntry s t i).out = s.out ∧ (State.stageEntry s t i).regs = s.regs ∧ (State.stageEntry s t i).ret = s.ret ∧ (State.stageEntry s t i).evt = s.evt ∧ (State.stageEntry s t i).flt = s.flt ∧ (State.stageEntry s t i).obs = s.obs ∧ (State.stageEntry s t i).host = s.host ∧ (State.stageEntry s t i).mem = s.mem ∧ (State.stageEntry s t i).home = s.home ∧ (State.stageEntry s t i).ddr = s.ddr ∧ (State.stageEntry s t i).tier = s.tier ∧ (State.stageEntry s t i).dm = s.dm ∧ (State.stageEntry s t i).dunas = s.dunas ∧ (State.stageEntry s t i).brg = s.brg ∧ (State.stageEntry s t i).clk = s.clk ∧ (State.stageEntry s t i).hsc = s.hsc ∧ (State.stageEntry s t i).boot = s.boot ∧ (State.stageEntry s t i).core = s.core ∧ (State.stageEntry s t i).mgmt = s.mgmt := by
  unfold State.stageEntry; simp

theorem State.toHolders_keeps (s : State) (e : ℕ) (kind : ℕ) :
    (State.toHolders s e kind).now = s.now ∧ (State.toHolders s e kind).free = s.free ∧ (State.toHolders s e kind).pending = s.pending ∧ (State.toHolders s e kind).regs = s.regs ∧ (State.toHolders s e kind).ret = s.ret ∧ (State.toHolders s e kind).evt = s.evt ∧ (State.toHolders s e kind).flt = s.flt ∧ (State.toHolders s e kind).host = s.host ∧ (State.toHolders s e kind).amap = s.amap ∧ (State.toHolders s e kind).mem = s.mem ∧ (State.toHolders s e kind).home = s.home ∧ (State.toHolders s e kind).ddr = s.ddr ∧ (State.toHolders s e kind).tier = s.tier ∧ (State.toHolders s e kind).dm = s.dm ∧ (State.toHolders s e kind).brg = s.brg ∧ (State.toHolders s e kind).clk = s.clk ∧ (State.toHolders s e kind).hsc = s.hsc ∧ (State.toHolders s e kind).boot = s.boot ∧ (State.toHolders s e kind).core = s.core ∧ (State.toHolders s e kind).mgmt = s.mgmt := by
  unfold State.toHolders; simp [State.emit_keeps _ _]

theorem State.extEvent_keeps (s : State) (src : ℕ) (e : ℕ) (ld : Option ℕ) :
    (State.extEvent s src e ld).now = s.now ∧ (State.extEvent s src e ld).free = s.free ∧ (State.extEvent s src e ld).pending = s.pending ∧ (State.extEvent s src e ld).regs = s.regs ∧ (State.extEvent s src e ld).flt = s.flt ∧ (State.extEvent s src e ld).amap = s.amap ∧ (State.extEvent s src e ld).mem = s.mem ∧ (State.extEvent s src e ld).home = s.home ∧ (State.extEvent s src e ld).ddr = s.ddr ∧ (State.extEvent s src e ld).tier = s.tier ∧ (State.extEvent s src e ld).dm = s.dm ∧ (State.extEvent s src e ld).brg = s.brg ∧ (State.extEvent s src e ld).clk = s.clk ∧ (State.extEvent s src e ld).hsc = s.hsc ∧ (State.extEvent s src e ld).boot = s.boot ∧ (State.extEvent s src e ld).core = s.core ∧ (State.extEvent s src e ld).mgmt = s.mgmt := by
  unfold State.extEvent; simp [State.raise_keeps _ _]

theorem State.extTo_keeps (s : State) (e : ℕ) (st : ExtState) :
    (State.extTo s e st).now = s.now ∧ (State.extTo s e st).free = s.free ∧ (State.extTo s e st).pending = s.pending ∧ (State.extTo s e st).out = s.out ∧ (State.extTo s e st).regs = s.regs ∧ (State.extTo s e st).ret = s.ret ∧ (State.extTo s e st).evt = s.evt ∧ (State.extTo s e st).flt = s.flt ∧ (State.extTo s e st).obs = s.obs ∧ (State.extTo s e st).host = s.host ∧ (State.extTo s e st).mem = s.mem ∧ (State.extTo s e st).home = s.home ∧ (State.extTo s e st).ddr = s.ddr ∧ (State.extTo s e st).tier = s.tier ∧ (State.extTo s e st).dm = s.dm ∧ (State.extTo s e st).dunas = s.dunas ∧ (State.extTo s e st).brg = s.brg ∧ (State.extTo s e st).clk = s.clk ∧ (State.extTo s e st).hsc = s.hsc ∧ (State.extTo s e st).boot = s.boot ∧ (State.extTo s e st).core = s.core ∧ (State.extTo s e st).mgmt = s.mgmt := by
  unfold State.extTo; simp [State.onExt_keeps _ _ _]

theorem State.takeSpine_keeps (s : State) (e : ℕ) :
    (State.takeSpine s e).now = s.now ∧ (State.takeSpine s e).free = s.free ∧ (State.takeSpine s e).pending = s.pending ∧ (State.takeSpine s e).out = s.out ∧ (State.takeSpine s e).regs = s.regs ∧ (State.takeSpine s e).ret = s.ret ∧ (State.takeSpine s e).evt = s.evt ∧ (State.takeSpine s e).flt = s.flt ∧ (State.takeSpine s e).obs = s.obs ∧ (State.takeSpine s e).host = s.host ∧ (State.takeSpine s e).amap = s.amap ∧ (State.takeSpine s e).home = s.home ∧ (State.takeSpine s e).ddr = s.ddr ∧ (State.takeSpine s e).tier = s.tier ∧ (State.takeSpine s e).dm = s.dm ∧ (State.takeSpine s e).dunas = s.dunas ∧ (State.takeSpine s e).brg = s.brg ∧ (State.takeSpine s e).clk = s.clk ∧ (State.takeSpine s e).hsc = s.hsc ∧ (State.takeSpine s e).boot = s.boot ∧ (State.takeSpine s e).core = s.core ∧ (State.takeSpine s e).mgmt = s.mgmt := by
  unfold State.takeSpine; simp

theorem State.dropNode_keeps (s : State) (lvl : ℕ) (i : ℕ) :
    (State.dropNode s lvl i).now = s.now ∧ (State.dropNode s lvl i).free = s.free ∧ (State.dropNode s lvl i).pending = s.pending ∧ (State.dropNode s lvl i).out = s.out ∧ (State.dropNode s lvl i).regs = s.regs ∧ (State.dropNode s lvl i).ret = s.ret ∧ (State.dropNode s lvl i).evt = s.evt ∧ (State.dropNode s lvl i).flt = s.flt ∧ (State.dropNode s lvl i).obs = s.obs ∧ (State.dropNode s lvl i).host = s.host ∧ (State.dropNode s lvl i).amap = s.amap ∧ (State.dropNode s lvl i).home = s.home ∧ (State.dropNode s lvl i).ddr = s.ddr ∧ (State.dropNode s lvl i).tier = s.tier ∧ (State.dropNode s lvl i).dm = s.dm ∧ (State.dropNode s lvl i).dunas = s.dunas ∧ (State.dropNode s lvl i).brg = s.brg ∧ (State.dropNode s lvl i).clk = s.clk ∧ (State.dropNode s lvl i).hsc = s.hsc ∧ (State.dropNode s lvl i).boot = s.boot ∧ (State.dropNode s lvl i).core = s.core ∧ (State.dropNode s lvl i).mgmt = s.mgmt := by
  unfold State.dropNode; simp

theorem State.unloadNode_keeps (s : State) (lvl : ℕ) (i : ℕ) :
    (State.unloadNode s lvl i).now = s.now ∧ (State.unloadNode s lvl i).pending = s.pending ∧ (State.unloadNode s lvl i).regs = s.regs ∧ (State.unloadNode s lvl i).home = s.home ∧ (State.unloadNode s lvl i).dm = s.dm ∧ (State.unloadNode s lvl i).brg = s.brg ∧ (State.unloadNode s lvl i).clk = s.clk ∧ (State.unloadNode s lvl i).hsc = s.hsc ∧ (State.unloadNode s lvl i).boot = s.boot ∧ (State.unloadNode s lvl i).core = s.core ∧ (State.unloadNode s lvl i).mgmt = s.mgmt := by
  unfold State.unloadNode; (try dsimp only); (try unfold State.each)
  refine foldl_holds (P := fun (x : State) => x.now = s.now ∧ x.pending = s.pending ∧ x.regs = s.regs ∧ x.home = s.home ∧ x.dm = s.dm ∧ x.brg = s.brg ∧ x.clk = s.clk ∧ x.hsc = s.hsc ∧ x.boot = s.boot ∧ x.core = s.core ∧ x.mgmt = s.mgmt) ?_ ?_
  · simp [State.cleanLine_keeps _ _ _, State.setMc_keeps _ _ _]
  · intro b x h; (try dsimp only); (repeat' split) <;> simp_all [State.cleanLine_keeps _ _ _, State.setMc_keeps _ _ _]

theorem State.leaveSpine_keeps (s : State) (e : ℕ) :
    (State.leaveSpine s e).now = s.now ∧ (State.leaveSpine s e).pending = s.pending ∧ (State.leaveSpine s e).regs = s.regs ∧ (State.leaveSpine s e).home = s.home ∧ (State.leaveSpine s e).dm = s.dm ∧ (State.leaveSpine s e).brg = s.brg ∧ (State.leaveSpine s e).clk = s.clk ∧ (State.leaveSpine s e).hsc = s.hsc ∧ (State.leaveSpine s e).boot = s.boot ∧ (State.leaveSpine s e).core = s.core ∧ (State.leaveSpine s e).mgmt = s.mgmt := by
  unfold State.leaveSpine; (try dsimp only); (try unfold State.each)
  refine foldl_holds (P := fun (x : State) => x.now = s.now ∧ x.pending = s.pending ∧ x.regs = s.regs ∧ x.home = s.home ∧ x.dm = s.dm ∧ x.brg = s.brg ∧ x.clk = s.clk ∧ x.hsc = s.hsc ∧ x.boot = s.boot ∧ x.core = s.core ∧ x.mgmt = s.mgmt) ?_ ?_
  · simp [State.dropNode_keeps _ _ _, State.unloadNode_keeps _ _ _]
  · intro b x h; (try dsimp only); (repeat' split) <;> simp_all [State.dropNode_keeps _ _ _, State.unloadNode_keeps _ _ _]

theorem State.toDrain_keeps (s : State) (e : ℕ) :
    (State.toDrain s e).now = s.now ∧ (State.toDrain s e).pending = s.pending ∧ (State.toDrain s e).dm = s.dm ∧ (State.toDrain s e).brg = s.brg ∧ (State.toDrain s e).clk = s.clk ∧ (State.toDrain s e).hsc = s.hsc ∧ (State.toDrain s e).boot = s.boot ∧ (State.toDrain s e).core = s.core := by
  unfold State.toDrain; simp [State.extTo_keeps _ _ _, State.dropDemotions_keeps _ _, State.abandon_keeps _ _, State.runOn_keeps _ _]

theorem State.toErase_keeps (s : State) (e : ℕ) :
    (State.toErase s e).now = s.now ∧ (State.toErase s e).pending = s.pending ∧ (State.toErase s e).regs = s.regs ∧ (State.toErase s e).home = s.home ∧ (State.toErase s e).dm = s.dm ∧ (State.toErase s e).brg = s.brg ∧ (State.toErase s e).clk = s.clk ∧ (State.toErase s e).hsc = s.hsc ∧ (State.toErase s e).boot = s.boot ∧ (State.toErase s e).core = s.core ∧ (State.toErase s e).mgmt = s.mgmt := by
  unfold State.toErase; simp [State.leaveSpine_keeps _ _, State.extTo_keeps _ _ _]

theorem State.returnPages_keeps (s : State) (e : ℕ) (reseed : Bool) :
    (State.returnPages s e reseed).now = s.now ∧ (State.returnPages s e reseed).free = s.free ∧ (State.returnPages s e reseed).pending = s.pending ∧ (State.returnPages s e reseed).regs = s.regs ∧ (State.returnPages s e reseed).flt = s.flt ∧ (State.returnPages s e reseed).home = s.home ∧ (State.returnPages s e reseed).ddr = s.ddr ∧ (State.returnPages s e reseed).dm = s.dm ∧ (State.returnPages s e reseed).brg = s.brg ∧ (State.returnPages s e reseed).clk = s.clk ∧ (State.returnPages s e reseed).hsc = s.hsc ∧ (State.returnPages s e reseed).boot = s.boot ∧ (State.returnPages s e reseed).core = s.core ∧ (State.returnPages s e reseed).mgmt = s.mgmt := by
  unfold State.returnPages; simp [State.account_keeps _ _ _ _, State.giveBack_keeps _ _ _]

theorem State.forgetPages_keeps (s : State) (e : ℕ) :
    (State.forgetPages s e).now = s.now ∧ (State.forgetPages s e).free = s.free ∧ (State.forgetPages s e).pending = s.pending ∧ (State.forgetPages s e).out = s.out ∧ (State.forgetPages s e).regs = s.regs ∧ (State.forgetPages s e).ret = s.ret ∧ (State.forgetPages s e).evt = s.evt ∧ (State.forgetPages s e).flt = s.flt ∧ (State.forgetPages s e).obs = s.obs ∧ (State.forgetPages s e).host = s.host ∧ (State.forgetPages s e).amap = s.amap ∧ (State.forgetPages s e).ddr = s.ddr ∧ (State.forgetPages s e).dm = s.dm ∧ (State.forgetPages s e).dunas = s.dunas ∧ (State.forgetPages s e).brg = s.brg ∧ (State.forgetPages s e).clk = s.clk ∧ (State.forgetPages s e).hsc = s.hsc ∧ (State.forgetPages s e).boot = s.boot ∧ (State.forgetPages s e).core = s.core ∧ (State.forgetPages s e).mgmt = s.mgmt := by
  unfold State.forgetPages; simp

theorem State.capResult_keeps (s : State) (r : ℕ) :
    (State.capResult s r).now = s.now ∧ (State.capResult s r).free = s.free ∧ (State.capResult s r).pending = s.pending ∧ (State.capResult s r).out = s.out ∧ (State.capResult s r).regs = s.regs ∧ (State.capResult s r).ret = s.ret ∧ (State.capResult s r).evt = s.evt ∧ (State.capResult s r).flt = s.flt ∧ (State.capResult s r).obs = s.obs ∧ (State.capResult s r).host = s.host ∧ (State.capResult s r).mem = s.mem ∧ (State.capResult s r).home = s.home ∧ (State.capResult s r).ddr = s.ddr ∧ (State.capResult s r).tier = s.tier ∧ (State.capResult s r).dm = s.dm ∧ (State.capResult s r).dunas = s.dunas ∧ (State.capResult s r).brg = s.brg ∧ (State.capResult s r).clk = s.clk ∧ (State.capResult s r).hsc = s.hsc ∧ (State.capResult s r).boot = s.boot ∧ (State.capResult s r).core = s.core ∧ (State.capResult s r).mgmt = s.mgmt := by
  unfold State.capResult; simp

theorem State.grantExt_keeps (s : State) (e : ℕ) (pin : Bool) :
    (State.grantExt s e pin).now = s.now ∧ (State.grantExt s e pin).free = s.free ∧ (State.grantExt s e pin).pending = s.pending ∧ (State.grantExt s e pin).flt = s.flt ∧ (State.grantExt s e pin).home = s.home ∧ (State.grantExt s e pin).ddr = s.ddr ∧ (State.grantExt s e pin).tier = s.tier ∧ (State.grantExt s e pin).dm = s.dm ∧ (State.grantExt s e pin).brg = s.brg ∧ (State.grantExt s e pin).clk = s.clk ∧ (State.grantExt s e pin).hsc = s.hsc ∧ (State.grantExt s e pin).boot = s.boot ∧ (State.grantExt s e pin).core = s.core ∧ (State.grantExt s e pin).mgmt = s.mgmt := by
  obtain ⟨P, hP⟩ : ∃ P : State → Prop, P = fun x => x.now = s.now ∧ x.free = s.free ∧ x.pending = s.pending ∧ x.flt = s.flt ∧ x.home = s.home ∧ x.ddr = s.ddr ∧ x.tier = s.tier ∧ x.dm = s.dm ∧ x.brg = s.brg ∧ x.clk = s.clk ∧ x.hsc = s.hsc ∧ x.boot = s.boot ∧ x.core = s.core ∧ x.mgmt = s.mgmt := ⟨_, rfl⟩
  suffices h : P (State.grantExt s e pin) by rw [hP] at h; exact h
  unfold State.grantExt; (try dsimp only); (repeat' split) <;> skip <;> subst hP <;> simp_all [State.capResult_keeps _ _, State.useRun_keeps _ _ _ _, State.onDom_keeps _ _ _, State.onExt_keeps _ _ _, State.toHolders_keeps _ _ _, State.takeSpine_keeps _ _, State.levels_keeps _ _, State.setTdata_keeps _ _ _]

@[simp] theorem State.capCommand_now (s : State) (e : ℕ) (args : Bool) (ok : ExtState → Bool) (act : State → State) (hact : ∀ (t : State), (act t).now = t.now) :
    (State.capCommand s e args ok act).now = s.now := by
  unfold State.capCommand; simp [hact, State.capResult_keeps _ _, State.extEvent_keeps _ _ _ _]

@[simp] theorem State.capCommand_free (s : State) (e : ℕ) (args : Bool) (ok : ExtState → Bool) (act : State → State) (hact : ∀ (t : State), (act t).free = t.free) :
    (State.capCommand s e args ok act).free = s.free := by
  unfold State.capCommand; simp [hact, State.capResult_keeps _ _, State.extEvent_keeps _ _ _ _]

@[simp] theorem State.capCommand_pending (s : State) (e : ℕ) (args : Bool) (ok : ExtState → Bool) (act : State → State) (hact : ∀ (t : State), (act t).pending = t.pending) :
    (State.capCommand s e args ok act).pending = s.pending := by
  unfold State.capCommand; simp [hact, State.capResult_keeps _ _, State.extEvent_keeps _ _ _ _]

@[simp] theorem State.capCommand_regs (s : State) (e : ℕ) (args : Bool) (ok : ExtState → Bool) (act : State → State) (hact : ∀ (t : State), (act t).regs = t.regs) :
    (State.capCommand s e args ok act).regs = s.regs := by
  unfold State.capCommand; simp [hact, State.capResult_keeps _ _, State.extEvent_keeps _ _ _ _]

@[simp] theorem State.capCommand_flt (s : State) (e : ℕ) (args : Bool) (ok : ExtState → Bool) (act : State → State) (hact : ∀ (t : State), (act t).flt = t.flt) :
    (State.capCommand s e args ok act).flt = s.flt := by
  unfold State.capCommand; simp [hact, State.capResult_keeps _ _, State.extEvent_keeps _ _ _ _]

@[simp] theorem State.capCommand_mem (s : State) (e : ℕ) (args : Bool) (ok : ExtState → Bool) (act : State → State) (hact : ∀ (t : State), (act t).mem = t.mem) :
    (State.capCommand s e args ok act).mem = s.mem := by
  unfold State.capCommand; simp [hact, State.capResult_keeps _ _, State.extEvent_keeps _ _ _ _]

@[simp] theorem State.capCommand_home (s : State) (e : ℕ) (args : Bool) (ok : ExtState → Bool) (act : State → State) (hact : ∀ (t : State), (act t).home = t.home) :
    (State.capCommand s e args ok act).home = s.home := by
  unfold State.capCommand; simp [hact, State.capResult_keeps _ _, State.extEvent_keeps _ _ _ _]

@[simp] theorem State.capCommand_ddr (s : State) (e : ℕ) (args : Bool) (ok : ExtState → Bool) (act : State → State) (hact : ∀ (t : State), (act t).ddr = t.ddr) :
    (State.capCommand s e args ok act).ddr = s.ddr := by
  unfold State.capCommand; simp [hact, State.capResult_keeps _ _, State.extEvent_keeps _ _ _ _]

@[simp] theorem State.capCommand_tier (s : State) (e : ℕ) (args : Bool) (ok : ExtState → Bool) (act : State → State) (hact : ∀ (t : State), (act t).tier = t.tier) :
    (State.capCommand s e args ok act).tier = s.tier := by
  unfold State.capCommand; simp [hact, State.capResult_keeps _ _, State.extEvent_keeps _ _ _ _]

@[simp] theorem State.capCommand_dm (s : State) (e : ℕ) (args : Bool) (ok : ExtState → Bool) (act : State → State) (hact : ∀ (t : State), (act t).dm = t.dm) :
    (State.capCommand s e args ok act).dm = s.dm := by
  unfold State.capCommand; simp [hact, State.capResult_keeps _ _, State.extEvent_keeps _ _ _ _]

@[simp] theorem State.capCommand_brg (s : State) (e : ℕ) (args : Bool) (ok : ExtState → Bool) (act : State → State) (hact : ∀ (t : State), (act t).brg = t.brg) :
    (State.capCommand s e args ok act).brg = s.brg := by
  unfold State.capCommand; simp [hact, State.capResult_keeps _ _, State.extEvent_keeps _ _ _ _]

@[simp] theorem State.capCommand_clk (s : State) (e : ℕ) (args : Bool) (ok : ExtState → Bool) (act : State → State) (hact : ∀ (t : State), (act t).clk = t.clk) :
    (State.capCommand s e args ok act).clk = s.clk := by
  unfold State.capCommand; simp [hact, State.capResult_keeps _ _, State.extEvent_keeps _ _ _ _]

@[simp] theorem State.capCommand_hsc (s : State) (e : ℕ) (args : Bool) (ok : ExtState → Bool) (act : State → State) (hact : ∀ (t : State), (act t).hsc = t.hsc) :
    (State.capCommand s e args ok act).hsc = s.hsc := by
  unfold State.capCommand; simp [hact, State.capResult_keeps _ _, State.extEvent_keeps _ _ _ _]

@[simp] theorem State.capCommand_boot (s : State) (e : ℕ) (args : Bool) (ok : ExtState → Bool) (act : State → State) (hact : ∀ (t : State), (act t).boot = t.boot) :
    (State.capCommand s e args ok act).boot = s.boot := by
  unfold State.capCommand; simp [hact, State.capResult_keeps _ _, State.extEvent_keeps _ _ _ _]

@[simp] theorem State.capCommand_core (s : State) (e : ℕ) (args : Bool) (ok : ExtState → Bool) (act : State → State) (hact : ∀ (t : State), (act t).core = t.core) :
    (State.capCommand s e args ok act).core = s.core := by
  unfold State.capCommand; simp [hact, State.capResult_keeps _ _, State.extEvent_keeps _ _ _ _]

@[simp] theorem State.capCommand_mgmt (s : State) (e : ℕ) (args : Bool) (ok : ExtState → Bool) (act : State → State) (hact : ∀ (t : State), (act t).mgmt = t.mgmt) :
    (State.capCommand s e args ok act).mgmt = s.mgmt := by
  unfold State.capCommand; simp [hact, State.capResult_keeps _ _, State.extEvent_keeps _ _ _ _]

theorem State.offerExt_keeps (s : State) (e : ℕ) :
    (State.offerExt s e).now = s.now ∧ (State.offerExt s e).free = s.free ∧ (State.offerExt s e).pending = s.pending ∧ (State.offerExt s e).regs = s.regs ∧ (State.offerExt s e).flt = s.flt ∧ (State.offerExt s e).mem = s.mem ∧ (State.offerExt s e).home = s.home ∧ (State.offerExt s e).ddr = s.ddr ∧ (State.offerExt s e).tier = s.tier ∧ (State.offerExt s e).dm = s.dm ∧ (State.offerExt s e).brg = s.brg ∧ (State.offerExt s e).clk = s.clk ∧ (State.offerExt s e).hsc = s.hsc ∧ (State.offerExt s e).boot = s.boot ∧ (State.offerExt s e).core = s.core ∧ (State.offerExt s e).mgmt = s.mgmt := by
  unfold State.offerExt; simp [State.toHolders_keeps _ _ _, State.onExt_keeps _ _ _, State.extTo_keeps _ _ _]

theorem State.recallExt_keeps (s : State) (e : ℕ) :
    (State.recallExt s e).now = s.now ∧ (State.recallExt s e).free = s.free ∧ (State.recallExt s e).pending = s.pending ∧ (State.recallExt s e).regs = s.regs ∧ (State.recallExt s e).flt = s.flt ∧ (State.recallExt s e).mem = s.mem ∧ (State.recallExt s e).home = s.home ∧ (State.recallExt s e).ddr = s.ddr ∧ (State.recallExt s e).tier = s.tier ∧ (State.recallExt s e).dm = s.dm ∧ (State.recallExt s e).brg = s.brg ∧ (State.recallExt s e).clk = s.clk ∧ (State.recallExt s e).hsc = s.hsc ∧ (State.recallExt s e).boot = s.boot ∧ (State.recallExt s e).core = s.core ∧ (State.recallExt s e).mgmt = s.mgmt := by
  unfold State.recallExt; simp [State.extEvent_keeps _ _ _ _, State.toHolders_keeps _ _ _, State.extTo_keeps _ _ _]

theorem State.recallCmd_keeps (s : State) (e : ℕ) :
    (State.recallCmd s e).now = s.now ∧ (State.recallCmd s e).free = s.free ∧ (State.recallCmd s e).pending = s.pending ∧ (State.recallCmd s e).regs = s.regs ∧ (State.recallCmd s e).flt = s.flt ∧ (State.recallCmd s e).mem = s.mem ∧ (State.recallCmd s e).home = s.home ∧ (State.recallCmd s e).ddr = s.ddr ∧ (State.recallCmd s e).tier = s.tier ∧ (State.recallCmd s e).dm = s.dm ∧ (State.recallCmd s e).brg = s.brg ∧ (State.recallCmd s e).clk = s.clk ∧ (State.recallCmd s e).hsc = s.hsc ∧ (State.recallCmd s e).boot = s.boot ∧ (State.recallCmd s e).core = s.core ∧ (State.recallCmd s e).mgmt = s.mgmt := by
  unfold State.recallCmd; simp [State.recallExt_keeps _ _]

theorem State.forceCmd_keeps (s : State) (e : ℕ) :
    (State.forceCmd s e).now = s.now ∧ (State.forceCmd s e).pending = s.pending ∧ (State.forceCmd s e).dm = s.dm ∧ (State.forceCmd s e).brg = s.brg ∧ (State.forceCmd s e).clk = s.clk ∧ (State.forceCmd s e).hsc = s.hsc ∧ (State.forceCmd s e).boot = s.boot ∧ (State.forceCmd s e).core = s.core := by
  unfold State.forceCmd; simp [State.toDrain_keeps _ _, State.toHolders_keeps _ _ _]

theorem State.freeCmd_keeps (s : State) (e : ℕ) :
    (State.freeCmd s e).now = s.now ∧ (State.freeCmd s e).pending = s.pending ∧ (State.freeCmd s e).dm = s.dm ∧ (State.freeCmd s e).brg = s.brg ∧ (State.freeCmd s e).clk = s.clk ∧ (State.freeCmd s e).hsc = s.hsc ∧ (State.freeCmd s e).boot = s.boot ∧ (State.freeCmd s e).core = s.core := by
  unfold State.freeCmd; simp [State.toDrain_keeps _ _]

theorem State.readEntry_keeps (s : State) (t : ℕ) (i : ℕ) :
    (State.readEntry s t i).now = s.now ∧ (State.readEntry s t i).free = s.free ∧ (State.readEntry s t i).pending = s.pending ∧ (State.readEntry s t i).out = s.out ∧ (State.readEntry s t i).ret = s.ret ∧ (State.readEntry s t i).evt = s.evt ∧ (State.readEntry s t i).flt = s.flt ∧ (State.readEntry s t i).obs = s.obs ∧ (State.readEntry s t i).host = s.host ∧ (State.readEntry s t i).mem = s.mem ∧ (State.readEntry s t i).home = s.home ∧ (State.readEntry s t i).ddr = s.ddr ∧ (State.readEntry s t i).tier = s.tier ∧ (State.readEntry s t i).dm = s.dm ∧ (State.readEntry s t i).dunas = s.dunas ∧ (State.readEntry s t i).brg = s.brg ∧ (State.readEntry s t i).clk = s.clk ∧ (State.readEntry s t i).hsc = s.hsc ∧ (State.readEntry s t i).boot = s.boot ∧ (State.readEntry s t i).core = s.core ∧ (State.readEntry s t i).mgmt = s.mgmt := by
  unfold State.readEntry; simp [State.capResult_keeps _ _, State.setTdata_keeps _ _ _]

theorem State.tcmd_keeps (s : State) (op : ℕ) (t : ℕ) (i : ℕ) :
    (State.tcmd s op t i).now = s.now ∧ (State.tcmd s op t i).pending = s.pending ∧ (State.tcmd s op t i).dm = s.dm ∧ (State.tcmd s op t i).brg = s.brg ∧ (State.tcmd s op t i).clk = s.clk ∧ (State.tcmd s op t i).hsc = s.hsc ∧ (State.tcmd s op t i).boot = s.boot ∧ (State.tcmd s op t i).core = s.core := by
  unfold State.tcmd; simp [State.readEntry_keeps _ _ _, State.stageEntry_keeps _ _ _, State.grantExt_keeps _ _ _, State.offerExt_keeps _ _, State.recallCmd_keeps _ _, State.forceCmd_keeps _ _, State.freeCmd_keeps _ _]

theorem State.writeTcmd_keeps (s : State) (m : Master) (op : ℕ) (t : ℕ) (i : ℕ) :
    (State.writeTcmd s m op t i).pending = s.pending ∧ (State.writeTcmd s m op t i).dm = s.dm ∧ (State.writeTcmd s m op t i).hsc = s.hsc ∧ (State.writeTcmd s m op t i).boot = s.boot ∧ (State.writeTcmd s m op t i).core = s.core := by
  unfold State.writeTcmd; simp [State.tcmd_keeps _ _ _ _]

theorem State.settleOffer_keeps (s : State) (e : ℕ) :
    (State.settleOffer s e).now = s.now ∧ (State.settleOffer s e).pending = s.pending ∧ (State.settleOffer s e).regs = s.regs ∧ (State.settleOffer s e).home = s.home ∧ (State.settleOffer s e).dm = s.dm ∧ (State.settleOffer s e).brg = s.brg ∧ (State.settleOffer s e).clk = s.clk ∧ (State.settleOffer s e).hsc = s.hsc ∧ (State.settleOffer s e).boot = s.boot ∧ (State.settleOffer s e).core = s.core ∧ (State.settleOffer s e).mgmt = s.mgmt := by
  unfold State.settleOffer; simp [State.extEvent_keeps _ _ _ _, State.onExt_keeps _ _ _, State.extTo_keeps _ _ _, State.toErase_keeps _ _]

theorem State.dcAnswer_keeps (s : State) (n : ℕ) (e : ℕ) (gen : BitVec 16) (accept : Bool) :
    (State.dcAnswer s n e gen accept).now = s.now ∧ (State.dcAnswer s n e gen accept).pending = s.pending ∧ (State.dcAnswer s n e gen accept).regs = s.regs ∧ (State.dcAnswer s n e gen accept).home = s.home ∧ (State.dcAnswer s n e gen accept).dm = s.dm ∧ (State.dcAnswer s n e gen accept).brg = s.brg ∧ (State.dcAnswer s n e gen accept).clk = s.clk ∧ (State.dcAnswer s n e gen accept).hsc = s.hsc ∧ (State.dcAnswer s n e gen accept).boot = s.boot ∧ (State.dcAnswer s n e gen accept).core = s.core ∧ (State.dcAnswer s n e gen accept).mgmt = s.mgmt := by
  unfold State.dcAnswer; simp [State.emit_keeps _ _, State.extEvent_keeps _ _ _ _, State.onExt_keeps _ _ _, State.settleOffer_keeps _ _]

theorem State.release_keeps (s : State) (n : ℕ) (e : ℕ) :
    (State.release s n e).now = s.now ∧ (State.release s n e).pending = s.pending ∧ (State.release s n e).dm = s.dm ∧ (State.release s n e).brg = s.brg ∧ (State.release s n e).clk = s.clk ∧ (State.release s n e).hsc = s.hsc ∧ (State.release s n e).boot = s.boot ∧ (State.release s n e).core = s.core := by
  unfold State.release; simp [State.leaveExtent_keeps _ _ _, State.onExt_keeps _ _ _, State.toDrain_keeps _ _]

theorem State.dcRelease_keeps (s : State) (n : ℕ) (exts : List (BitVec 18 × BitVec 16)) :
    (State.dcRelease s n exts).now = s.now ∧ (State.dcRelease s n exts).pending = s.pending ∧ (State.dcRelease s n exts).dm = s.dm ∧ (State.dcRelease s n exts).brg = s.brg ∧ (State.dcRelease s n exts).clk = s.clk ∧ (State.dcRelease s n exts).hsc = s.hsc ∧ (State.dcRelease s n exts).boot = s.boot ∧ (State.dcRelease s n exts).core = s.core := by
  unfold State.dcRelease; simp [State.emit_keeps _ _, State.release_keeps _ _ _, State.extEvent_keeps _ _ _ _]

theorem State.peerDrop_keeps (s : State) (pg : ℕ) (e : ℕ) :
    (State.peerDrop s pg e).now = s.now ∧ (State.peerDrop s pg e).free = s.free ∧ (State.peerDrop s pg e).pending = s.pending ∧ (State.peerDrop s pg e).regs = s.regs ∧ (State.peerDrop s pg e).flt = s.flt ∧ (State.peerDrop s pg e).amap = s.amap ∧ (State.peerDrop s pg e).mem = s.mem ∧ (State.peerDrop s pg e).home = s.home ∧ (State.peerDrop s pg e).ddr = s.ddr ∧ (State.peerDrop s pg e).tier = s.tier ∧ (State.peerDrop s pg e).dm = s.dm ∧ (State.peerDrop s pg e).brg = s.brg ∧ (State.peerDrop s pg e).clk = s.clk ∧ (State.peerDrop s pg e).hsc = s.hsc ∧ (State.peerDrop s pg e).boot = s.boot ∧ (State.peerDrop s pg e).core = s.core ∧ (State.peerDrop s pg e).mgmt = s.mgmt := by
  unfold State.peerDrop; simp [State.raise_keeps _ _]

end Sys2Proof.Machine
end

