-- ==== Sys2Proof/Laws/ReactionKeeps.lean ====
section
/-! SUPPORT. Which fields of the state the operations of Reaction leave as they are: a proof
over the operation `State.op` gives simp its lemma `State.op_keeps _ _`. -/

namespace Sys2Proof.Machine

theorem State.startRebuild_keeps (s : State) (hs : ℕ) :
    (State.startRebuild s hs).now = s.now ∧ (State.startRebuild s hs).free = s.free ∧ (State.startRebuild s hs).pending = s.pending ∧ (State.startRebuild s hs).out = s.out ∧ (State.startRebuild s hs).regs = s.regs ∧ (State.startRebuild s hs).ret = s.ret ∧ (State.startRebuild s hs).evt = s.evt ∧ (State.startRebuild s hs).flt = s.flt ∧ (State.startRebuild s hs).obs = s.obs ∧ (State.startRebuild s hs).host = s.host ∧ (State.startRebuild s hs).amap = s.amap ∧ (State.startRebuild s hs).home = s.home ∧ (State.startRebuild s hs).ddr = s.ddr ∧ (State.startRebuild s hs).tier = s.tier ∧ (State.startRebuild s hs).dm = s.dm ∧ (State.startRebuild s hs).dunas = s.dunas ∧ (State.startRebuild s hs).brg = s.brg ∧ (State.startRebuild s hs).clk = s.clk ∧ (State.startRebuild s hs).hsc = s.hsc ∧ (State.startRebuild s hs).boot = s.boot ∧ (State.startRebuild s hs).core = s.core ∧ (State.startRebuild s hs).mgmt = s.mgmt := by
  unfold State.startRebuild; simp

theorem State.endRebuild_keeps (s : State) (hs : ℕ) (rejected : ℕ) :
    (State.endRebuild s hs rejected).now = s.now ∧ (State.endRebuild s hs rejected).pending = s.pending ∧ (State.endRebuild s hs rejected).dm = s.dm ∧ (State.endRebuild s hs rejected).brg = s.brg ∧ (State.endRebuild s hs rejected).clk = s.clk ∧ (State.endRebuild s hs rejected).hsc = s.hsc ∧ (State.endRebuild s hs rejected).boot = s.boot ∧ (State.endRebuild s hs rejected).core = s.core := by
  unfold State.endRebuild; simp [State.nodeLost_keeps _ _ _ _, State.storeNode_keeps _ _ _ _, State.raiseHs_keeps _ _ _ _ _ _, State.runOn_keeps _ _]

theorem State.addQuarantine_keeps (s : State) (u : ℕ) :
    (State.addQuarantine s u).now = s.now ∧ (State.addQuarantine s u).free = s.free ∧ (State.addQuarantine s u).pending = s.pending ∧ (State.addQuarantine s u).out = s.out ∧ (State.addQuarantine s u).regs = s.regs ∧ (State.addQuarantine s u).ret = s.ret ∧ (State.addQuarantine s u).evt = s.evt ∧ (State.addQuarantine s u).obs = s.obs ∧ (State.addQuarantine s u).host = s.host ∧ (State.addQuarantine s u).amap = s.amap ∧ (State.addQuarantine s u).mem = s.mem ∧ (State.addQuarantine s u).home = s.home ∧ (State.addQuarantine s u).ddr = s.ddr ∧ (State.addQuarantine s u).tier = s.tier ∧ (State.addQuarantine s u).dm = s.dm ∧ (State.addQuarantine s u).dunas = s.dunas ∧ (State.addQuarantine s u).brg = s.brg ∧ (State.addQuarantine s u).clk = s.clk ∧ (State.addQuarantine s u).hsc = s.hsc ∧ (State.addQuarantine s u).boot = s.boot ∧ (State.addQuarantine s u).core = s.core ∧ (State.addQuarantine s u).mgmt = s.mgmt := by
  unfold State.addQuarantine; simp

theorem State.quarantineUnit_keeps (s : State) (p : ℕ) :
    (State.quarantineUnit s p).now = s.now ∧ (State.quarantineUnit s p).pending = s.pending ∧ (State.quarantineUnit s p).boot = s.boot ∧ (State.quarantineUnit s p).core = s.core := by
  unfold State.quarantineUnit; simp [State.onHsc_keeps _ _, State.turnSlices_keeps _ _ _, State.addQuarantine_keeps _ _, State.quarantineChan_keeps _ _, State.engineStop_keeps _ _, State.linkLost_keeps _ _ _]

theorem State.addChipF_keeps (s : State) (slot : ℕ) :
    (State.addChipF s slot).now = s.now ∧ (State.addChipF s slot).free = s.free ∧ (State.addChipF s slot).pending = s.pending ∧ (State.addChipF s slot).out = s.out ∧ (State.addChipF s slot).regs = s.regs ∧ (State.addChipF s slot).ret = s.ret ∧ (State.addChipF s slot).evt = s.evt ∧ (State.addChipF s slot).obs = s.obs ∧ (State.addChipF s slot).host = s.host ∧ (State.addChipF s slot).amap = s.amap ∧ (State.addChipF s slot).mem = s.mem ∧ (State.addChipF s slot).home = s.home ∧ (State.addChipF s slot).ddr = s.ddr ∧ (State.addChipF s slot).tier = s.tier ∧ (State.addChipF s slot).dm = s.dm ∧ (State.addChipF s slot).dunas = s.dunas ∧ (State.addChipF s slot).brg = s.brg ∧ (State.addChipF s slot).clk = s.clk ∧ (State.addChipF s slot).hsc = s.hsc ∧ (State.addChipF s slot).boot = s.boot ∧ (State.addChipF s slot).core = s.core ∧ (State.addChipF s slot).mgmt = s.mgmt := by
  unfold State.addChipF; simp

theorem State.stopChip_keeps (s : State) (slot : ℕ) :
    (State.stopChip s slot).now = s.now ∧ (State.stopChip s slot).pending = s.pending ∧ (State.stopChip s slot).hsc = s.hsc ∧ (State.stopChip s slot).boot = s.boot ∧ (State.stopChip s slot).core = s.core := by
  unfold State.stopChip; simp [State.addChipF_keeps _ _, State.flushLovage_keeps _ _, State.turnSlices_keeps _ _ _, State.hrdySync_keeps _, State.groupLost_keeps _ _, State.brgLost_keeps _]

theorem State.flushAll_keeps (s : State) :
    (State.flushAll s).now = s.now ∧ (State.flushAll s).pending = s.pending ∧ (State.flushAll s).dm = s.dm ∧ (State.flushAll s).brg = s.brg ∧ (State.flushAll s).clk = s.clk ∧ (State.flushAll s).hsc = s.hsc ∧ (State.flushAll s).boot = s.boot ∧ (State.flushAll s).core = s.core := by
  unfold State.flushAll; simp [State.flushLovage_keeps _ _]

theorem State.stopDevice_keeps (s : State) :
    (State.stopDevice s).now = s.now ∧ (State.stopDevice s).pending = s.pending ∧ (State.stopDevice s).brg = s.brg ∧ (State.stopDevice s).clk = s.clk ∧ (State.stopDevice s).hsc = s.hsc ∧ (State.stopDevice s).boot = s.boot ∧ (State.stopDevice s).core = s.core := by
  unfold State.stopDevice; simp [State.turnSlices_keeps _ _ _, State.haltQueue_keeps _ _ _, State.hrdySync_keeps _, State.flushAll_keeps _]

theorem State.pulled_keeps (s : State) :
    (State.pulled s).now = s.now ∧ (State.pulled s).free = s.free ∧ (State.pulled s).pending = s.pending ∧ (State.pulled s).out = s.out ∧ (State.pulled s).regs = s.regs ∧ (State.pulled s).ret = s.ret ∧ (State.pulled s).evt = s.evt ∧ (State.pulled s).flt = s.flt ∧ (State.pulled s).obs = s.obs ∧ (State.pulled s).host = s.host ∧ (State.pulled s).amap = s.amap ∧ (State.pulled s).mem = s.mem ∧ (State.pulled s).home = s.home ∧ (State.pulled s).ddr = s.ddr ∧ (State.pulled s).tier = s.tier ∧ (State.pulled s).dm = s.dm ∧ (State.pulled s).dunas = s.dunas ∧ (State.pulled s).brg = s.brg ∧ (State.pulled s).clk = s.clk ∧ (State.pulled s).boot = s.boot ∧ (State.pulled s).core = s.core ∧ (State.pulled s).mgmt = s.mgmt := by
  unfold State.pulled; simp [State.onHsc_keeps _ _, State.gatePull_keeps _ _]

theorem State.sendReaction_keeps (s : State) (p : ℕ) (need : ℕ) :
    (State.sendReaction s p need).now = s.now ∧ (State.sendReaction s p need).free = s.free ∧ (State.sendReaction s p need).pending = s.pending ∧ (State.sendReaction s p need).regs = s.regs ∧ (State.sendReaction s p need).ret = s.ret ∧ (State.sendReaction s p need).evt = s.evt ∧ (State.sendReaction s p need).flt = s.flt ∧ (State.sendReaction s p need).host = s.host ∧ (State.sendReaction s p need).amap = s.amap ∧ (State.sendReaction s p need).mem = s.mem ∧ (State.sendReaction s p need).home = s.home ∧ (State.sendReaction s p need).ddr = s.ddr ∧ (State.sendReaction s p need).tier = s.tier ∧ (State.sendReaction s p need).dm = s.dm ∧ (State.sendReaction s p need).brg = s.brg ∧ (State.sendReaction s p need).clk = s.clk ∧ (State.sendReaction s p need).hsc = s.hsc ∧ (State.sendReaction s p need).boot = s.boot ∧ (State.sendReaction s p need).core = s.core ∧ (State.sendReaction s p need).mgmt = s.mgmt := by
  unfold State.sendReaction; simp [State.emit_keeps _ _]

theorem State.react_keeps (s : State) (p : ℕ) (need : ℕ) (inj : Bool) :
    (State.react s p need inj).now = s.now ∧ (State.react s p need inj).pending = s.pending ∧ (State.react s p need inj).boot = s.boot ∧ (State.react s p need inj).core = s.core := by
  unfold State.react; simp [State.sendReaction_keeps _ _ _, State.quarantineUnit_keeps _ _, State.pulled_keeps _, State.startRebuild_keeps _ _, State.stopChip_keeps _ _, State.stopDevice_keeps _]

theorem State.fault_keeps (s : State) (site : ℕ) (cls : ℕ) (row : ℕ) (col : ℕ) (cause : ℕ) (inj : Bool) :
    (State.fault s site cls row col cause inj).now = s.now ∧ (State.fault s site cls row col cause inj).pending = s.pending ∧ (State.fault s site cls row col cause inj).boot = s.boot ∧ (State.fault s site cls row col cause inj).core = s.core := by
  unfold State.fault; simp [State.fileAt_keeps _ _ _ _ _ _, State.react_keeps _ _ _ _]

theorem State.faultP_keeps (s : State) (p : ℕ) (cls : ℕ) (cause : ℕ) :
    (State.faultP s p cls cause).now = s.now ∧ (State.faultP s p cls cause).pending = s.pending ∧ (State.faultP s p cls cause).boot = s.boot ∧ (State.faultP s p cls cause).core = s.core := by
  unfold State.faultP; simp [State.fault_keeps _ _ _ _ _ _ _]

theorem State.chipCommon_keeps (s : State) (slot : ℕ) :
    (State.chipCommon s slot).now = s.now ∧ (State.chipCommon s slot).free = s.free ∧ (State.chipCommon s slot).pending = s.pending ∧ (State.chipCommon s slot).out = s.out ∧ (State.chipCommon s slot).ret = s.ret ∧ (State.chipCommon s slot).evt = s.evt ∧ (State.chipCommon s slot).flt = s.flt ∧ (State.chipCommon s slot).host = s.host ∧ (State.chipCommon s slot).amap = s.amap ∧ (State.chipCommon s slot).mem = s.mem ∧ (State.chipCommon s slot).home = s.home ∧ (State.chipCommon s slot).ddr = s.ddr ∧ (State.chipCommon s slot).tier = s.tier ∧ (State.chipCommon s slot).dm = s.dm ∧ (State.chipCommon s slot).brg = s.brg ∧ (State.chipCommon s slot).clk = s.clk ∧ (State.chipCommon s slot).hsc = s.hsc ∧ (State.chipCommon s slot).boot = s.boot ∧ (State.chipCommon s slot).core = s.core ∧ (State.chipCommon s slot).mgmt = s.mgmt := by
  unfold State.chipCommon; simp [State.modOff_keeps _ _, State.onBank_keeps _ _ _]

theorem State.chipLovage_keeps (s : State) (i : ℕ) :
    (State.chipLovage s i).now = s.now ∧ (State.chipLovage s i).pending = s.pending ∧ (State.chipLovage s i).dm = s.dm ∧ (State.chipLovage s i).brg = s.brg ∧ (State.chipLovage s i).clk = s.clk ∧ (State.chipLovage s i).hsc = s.hsc ∧ (State.chipLovage s i).boot = s.boot ∧ (State.chipLovage s i).core = s.core := by
  unfold State.chipLovage; simp [State.onChan_keeps _ _ _, State.checkFilter_keeps _ _, State.endRebuild_keeps _ _ _]

theorem State.chipChervil_keeps (s : State) (k : ℕ) :
    (State.chipChervil s k).now = s.now ∧ (State.chipChervil s k).pending = s.pending ∧ (State.chipChervil s k).hsc = s.hsc ∧ (State.chipChervil s k).boot = s.boot ∧ (State.chipChervil s k).core = s.core := by
  unfold State.chipChervil; simp [State.linkLost_keeps _ _ _, State.stopQueue_keeps _ _ _]

theorem State.chipSorrel_keeps (s : State) :
    (State.chipSorrel s).now = s.now ∧ (State.chipSorrel s).pending = s.pending ∧ (State.chipSorrel s).clk = s.clk ∧ (State.chipSorrel s).hsc = s.hsc ∧ (State.chipSorrel s).boot = s.boot ∧ (State.chipSorrel s).core = s.core := by
  unfold State.chipSorrel; simp [State.stopQueue_keeps _ _ _, State.runAll_keeps _, State.brgLost_keeps _]

theorem State.chipReset_keeps (s : State) (slot : ℕ) :
    (State.chipReset s slot).now = s.now ∧ (State.chipReset s slot).pending = s.pending ∧ (State.chipReset s slot).hsc = s.hsc ∧ (State.chipReset s slot).boot = s.boot ∧ (State.chipReset s slot).core = s.core := by
  unfold State.chipReset; simp [State.chipCommon_keeps _ _, State.chipLovage_keeps _ _, State.chipChervil_keeps _ _, State.chipSorrel_keeps _, State.brgRelease_keeps _, State.brgReset_keeps _]

theorem State.unitsBack_keeps (s : State) (u : ℕ) :
    (State.unitsBack s u).now = s.now ∧ (State.unitsBack s u).pending = s.pending ∧ (State.unitsBack s u).regs = s.regs ∧ (State.unitsBack s u).dm = s.dm ∧ (State.unitsBack s u).brg = s.brg ∧ (State.unitsBack s u).clk = s.clk ∧ (State.unitsBack s u).hsc = s.hsc ∧ (State.unitsBack s u).boot = s.boot ∧ (State.unitsBack s u).core = s.core ∧ (State.unitsBack s u).mgmt = s.mgmt := by
  unfold State.unitsBack; simp [State.checkSlice_keeps _ _, State.flushSlice_keeps _ _, State.recoverChan_keeps _ _]

theorem State.endRerun_keeps (s : State) (slot : ℕ) :
    (State.endRerun s slot).now = s.now ∧ (State.endRerun s slot).free = s.free ∧ (State.endRerun s slot).pending = s.pending ∧ (State.endRerun s slot).out = s.out ∧ (State.endRerun s slot).regs = s.regs ∧ (State.endRerun s slot).ret = s.ret ∧ (State.endRerun s slot).evt = s.evt ∧ (State.endRerun s slot).flt = s.flt ∧ (State.endRerun s slot).obs = s.obs ∧ (State.endRerun s slot).host = s.host ∧ (State.endRerun s slot).amap = s.amap ∧ (State.endRerun s slot).mem = s.mem ∧ (State.endRerun s slot).home = s.home ∧ (State.endRerun s slot).tier = s.tier ∧ (State.endRerun s slot).dm = s.dm ∧ (State.endRerun s slot).dunas = s.dunas ∧ (State.endRerun s slot).brg = s.brg ∧ (State.endRerun s slot).clk = s.clk ∧ (State.endRerun s slot).hsc = s.hsc ∧ (State.endRerun s slot).boot = s.boot ∧ (State.endRerun s slot).core = s.core ∧ (State.endRerun s slot).mgmt = s.mgmt := by
  unfold State.endRerun; simp [State.onChan_keeps _ _ _]

theorem State.chipServes_keeps (s : State) (slot : ℕ) :
    (State.chipServes s slot).now = s.now ∧ (State.chipServes s slot).pending = s.pending ∧ (State.chipServes s slot).dm = s.dm ∧ (State.chipServes s slot).brg = s.brg ∧ (State.chipServes s slot).clk = s.clk ∧ (State.chipServes s slot).hsc = s.hsc ∧ (State.chipServes s slot).boot = s.boot ∧ (State.chipServes s slot).core = s.core := by
  unfold State.chipServes; simp [State.applyDiscard_keeps _ _ _, State.unitsBack_keeps _ _]

theorem State.resetInTurn_keeps (s : State) (slot : ℕ) :
    (State.resetInTurn s slot).now = s.now ∧ (State.resetInTurn s slot).pending = s.pending ∧ (State.resetInTurn s slot).hsc = s.hsc ∧ (State.resetInTurn s slot).boot = s.boot ∧ (State.resetInTurn s slot).core = s.core := by
  unfold State.resetInTurn; simp [State.chipReset_keeps _ _, State.raiseBoot_keeps _ _ _ _]

theorem State.sorrelRecovery_keeps (s : State) :
    (State.sorrelRecovery s).now = s.now ∧ (State.sorrelRecovery s).pending = s.pending ∧ (State.sorrelRecovery s).hsc = s.hsc ∧ (State.sorrelRecovery s).boot = s.boot ∧ (State.sorrelRecovery s).core = s.core := by
  unfold State.sorrelRecovery; simp [State.resetInTurn_keeps _ _, State.raiseBoot_keeps _ _ _ _, State.endRerun_keeps _ _, State.applyDiscard_keeps _ _ _, State.unitsBack_keeps _ _, State.closeRec_keeps _ _]

theorem State.recoveryReset_keeps (s : State) (slot : ℕ) :
    (State.recoveryReset s slot).now = s.now ∧ (State.recoveryReset s slot).pending = s.pending ∧ (State.recoveryReset s slot).hsc = s.hsc ∧ (State.recoveryReset s slot).boot = s.boot ∧ (State.recoveryReset s slot).core = s.core := by
  unfold State.recoveryReset; simp [State.sorrelRecovery_keeps _, State.stopDevice_keeps _, State.chipReset_keeps _ _, State.stopChip_keeps _ _, State.chipServes_keeps _ _, State.endRerun_keeps _ _, State.raiseBoot_keeps _ _ _ _]

theorem State.deviceRecovery_keeps (s : State) :
    (State.deviceRecovery s).now = s.now ∧ (State.deviceRecovery s).pending = s.pending := by
  unfold State.deviceRecovery; simp [State.sorrelRecovery_keeps _, State.unitsBack_keeps _ _, State.devRecovered_keeps _, State.warmReset_keeps _ _, State.coldReset_keeps _ _]

theorem State.recoverRec_keeps (s : State) (u : ℕ) :
    (State.recoverRec s u).now = s.now ∧ (State.recoverRec s u).pending = s.pending := by
  unfold State.recoverRec; simp [State.deviceRecovery_keeps _, State.recoveryReset_keeps _ _, State.applyDiscard_keeps _ _ _, State.closeRec_keeps _ _, State.unitsBack_keeps _ _]

theorem State.resetGoesOn_keeps (s : State) (slot : ℕ) :
    (State.resetGoesOn s slot).now = s.now ∧ (State.resetGoesOn s slot).pending = s.pending := by
  unfold State.resetGoesOn; simp [State.sorrelRecovery_keeps _, State.recoverRec_keeps _ _, State.recoveryReset_keeps _ _]

theorem State.recoveryFailed_keeps (s : State) (u : ℕ) :
    (State.recoveryFailed s u).now = s.now ∧ (State.recoveryFailed s u).pending = s.pending ∧ (State.recoveryFailed s u).core = s.core := by
  unfold State.recoveryFailed; simp [State.setRec_keeps _ _ _, State.raise_keeps _ _, State.enterAux_keeps _ _, State.onBoot_keeps _ _]

theorem State.connLost_keeps (s : State) (e : ℕ) (was : Bool) :
    (State.connLost s e was).now = s.now ∧ (State.connLost s e was).pending = s.pending ∧ (State.connLost s e was).boot = s.boot ∧ (State.connLost s e was).core = s.core := by
  unfold State.connLost; simp [State.faultP_keeps _ _ _ _]

@[simp] theorem State.fabricOp_now (s : State) (e : ℕ) (f : State → State) (hf : ∀ (t : State), (f t).now = t.now) :
    (State.fabricOp s e f).now = s.now := by
  unfold State.fabricOp; simp [hf, State.afterFabric_keeps _, State.connLost_keeps _ _ _]

@[simp] theorem State.fabricOp_pending (s : State) (e : ℕ) (f : State → State) (hf : ∀ (t : State), (f t).pending = t.pending) :
    (State.fabricOp s e f).pending = s.pending := by
  unfold State.fabricOp; simp [hf, State.afterFabric_keeps _, State.connLost_keeps _ _ _]

@[simp] theorem State.fabricOp_core (s : State) (e : ℕ) (f : State → State) (hf : ∀ (t : State), (f t).core = t.core) :
    (State.fabricOp s e f).core = s.core := by
  unfold State.fabricOp; simp [hf, State.afterFabric_keeps _, State.connLost_keeps _ _ _]

end Sys2Proof.Machine
end

