-- ==== Sys2Proof/Laws/ClocksKeeps.lean ====
section
/-! SUPPORT. Which fields of the state the operations of Clocks leave as they are: a proof
over the operation `State.op` gives simp its lemma `State.op_keeps _ _`. -/

namespace Sys2Proof.Machine

theorem State.onClk_keeps (s : State) (f : Clocks → Clocks) :
    (State.onClk s f).now = s.now ∧ (State.onClk s f).free = s.free ∧ (State.onClk s f).pending = s.pending ∧ (State.onClk s f).out = s.out ∧ (State.onClk s f).regs = s.regs ∧ (State.onClk s f).ret = s.ret ∧ (State.onClk s f).evt = s.evt ∧ (State.onClk s f).flt = s.flt ∧ (State.onClk s f).obs = s.obs ∧ (State.onClk s f).host = s.host ∧ (State.onClk s f).amap = s.amap ∧ (State.onClk s f).mem = s.mem ∧ (State.onClk s f).home = s.home ∧ (State.onClk s f).ddr = s.ddr ∧ (State.onClk s f).tier = s.tier ∧ (State.onClk s f).dm = s.dm ∧ (State.onClk s f).dunas = s.dunas ∧ (State.onClk s f).brg = s.brg ∧ (State.onClk s f).hsc = s.hsc ∧ (State.onClk s f).boot = s.boot ∧ (State.onClk s f).core = s.core ∧ (State.onClk s f).mgmt = s.mgmt := by
  unfold State.onClk; simp

theorem State.setXtal_keeps (s : State) (b : Bool) (x : Crystal) :
    (State.setXtal s b x).now = s.now ∧ (State.setXtal s b x).free = s.free ∧ (State.setXtal s b x).pending = s.pending ∧ (State.setXtal s b x).out = s.out ∧ (State.setXtal s b x).regs = s.regs ∧ (State.setXtal s b x).ret = s.ret ∧ (State.setXtal s b x).evt = s.evt ∧ (State.setXtal s b x).flt = s.flt ∧ (State.setXtal s b x).obs = s.obs ∧ (State.setXtal s b x).host = s.host ∧ (State.setXtal s b x).amap = s.amap ∧ (State.setXtal s b x).mem = s.mem ∧ (State.setXtal s b x).home = s.home ∧ (State.setXtal s b x).ddr = s.ddr ∧ (State.setXtal s b x).tier = s.tier ∧ (State.setXtal s b x).dm = s.dm ∧ (State.setXtal s b x).dunas = s.dunas ∧ (State.setXtal s b x).brg = s.brg ∧ (State.setXtal s b x).hsc = s.hsc ∧ (State.setXtal s b x).boot = s.boot ∧ (State.setXtal s b x).core = s.core ∧ (State.setXtal s b x).mgmt = s.mgmt := by
  unfold State.setXtal; simp [State.onClk_keeps _ _]

theorem State.raiseClk_keeps (s : State) (src : ℕ) (page : ℕ) (subject : ℕ) :
    (State.raiseClk s src page subject).now = s.now ∧ (State.raiseClk s src page subject).free = s.free ∧ (State.raiseClk s src page subject).pending = s.pending ∧ (State.raiseClk s src page subject).regs = s.regs ∧ (State.raiseClk s src page subject).flt = s.flt ∧ (State.raiseClk s src page subject).amap = s.amap ∧ (State.raiseClk s src page subject).mem = s.mem ∧ (State.raiseClk s src page subject).home = s.home ∧ (State.raiseClk s src page subject).ddr = s.ddr ∧ (State.raiseClk s src page subject).tier = s.tier ∧ (State.raiseClk s src page subject).dm = s.dm ∧ (State.raiseClk s src page subject).brg = s.brg ∧ (State.raiseClk s src page subject).clk = s.clk ∧ (State.raiseClk s src page subject).hsc = s.hsc ∧ (State.raiseClk s src page subject).boot = s.boot ∧ (State.raiseClk s src page subject).core = s.core ∧ (State.raiseClk s src page subject).mgmt = s.mgmt := by
  unfold State.raiseClk; simp [State.raise_keeps _ _]

theorem State.takeRef_keeps (s : State) (b : Bool) :
    (State.takeRef s b).now = s.now ∧ (State.takeRef s b).free = s.free ∧ (State.takeRef s b).pending = s.pending ∧ (State.takeRef s b).out = s.out ∧ (State.takeRef s b).regs = s.regs ∧ (State.takeRef s b).ret = s.ret ∧ (State.takeRef s b).evt = s.evt ∧ (State.takeRef s b).flt = s.flt ∧ (State.takeRef s b).obs = s.obs ∧ (State.takeRef s b).host = s.host ∧ (State.takeRef s b).amap = s.amap ∧ (State.takeRef s b).mem = s.mem ∧ (State.takeRef s b).home = s.home ∧ (State.takeRef s b).ddr = s.ddr ∧ (State.takeRef s b).tier = s.tier ∧ (State.takeRef s b).dm = s.dm ∧ (State.takeRef s b).dunas = s.dunas ∧ (State.takeRef s b).brg = s.brg ∧ (State.takeRef s b).hsc = s.hsc ∧ (State.takeRef s b).boot = s.boot ∧ (State.takeRef s b).core = s.core ∧ (State.takeRef s b).mgmt = s.mgmt := by
  unfold State.takeRef; simp [State.onClk_keeps _ _]

theorem State.lookForRef_keeps (s : State) :
    (State.lookForRef s).now = s.now ∧ (State.lookForRef s).free = s.free ∧ (State.lookForRef s).pending = s.pending ∧ (State.lookForRef s).regs = s.regs ∧ (State.lookForRef s).flt = s.flt ∧ (State.lookForRef s).amap = s.amap ∧ (State.lookForRef s).mem = s.mem ∧ (State.lookForRef s).home = s.home ∧ (State.lookForRef s).ddr = s.ddr ∧ (State.lookForRef s).tier = s.tier ∧ (State.lookForRef s).dm = s.dm ∧ (State.lookForRef s).brg = s.brg ∧ (State.lookForRef s).hsc = s.hsc ∧ (State.lookForRef s).boot = s.boot ∧ (State.lookForRef s).core = s.core ∧ (State.lookForRef s).mgmt = s.mgmt := by
  unfold State.lookForRef; simp [State.takeRef_keeps _ _, State.raiseClk_keeps _ _ _ _]

theorem State.setMon_keeps (s : State) (b : ℕ) :
    (State.setMon s b).now = s.now ∧ (State.setMon s b).free = s.free ∧ (State.setMon s b).pending = s.pending ∧ (State.setMon s b).out = s.out ∧ (State.setMon s b).regs = s.regs ∧ (State.setMon s b).ret = s.ret ∧ (State.setMon s b).evt = s.evt ∧ (State.setMon s b).flt = s.flt ∧ (State.setMon s b).obs = s.obs ∧ (State.setMon s b).host = s.host ∧ (State.setMon s b).amap = s.amap ∧ (State.setMon s b).mem = s.mem ∧ (State.setMon s b).home = s.home ∧ (State.setMon s b).ddr = s.ddr ∧ (State.setMon s b).tier = s.tier ∧ (State.setMon s b).dm = s.dm ∧ (State.setMon s b).dunas = s.dunas ∧ (State.setMon s b).brg = s.brg ∧ (State.setMon s b).hsc = s.hsc ∧ (State.setMon s b).boot = s.boot ∧ (State.setMon s b).core = s.core ∧ (State.setMon s b).mgmt = s.mgmt := by
  unfold State.setMon; simp [State.onClk_keeps _ _]

theorem State.coast_keeps (s : State) (n : ℕ) (lost : Option ℕ) :
    (State.coast s n lost).now = s.now ∧ (State.coast s n lost).free = s.free ∧ (State.coast s n lost).pending = s.pending ∧ (State.coast s n lost).regs = s.regs ∧ (State.coast s n lost).flt = s.flt ∧ (State.coast s n lost).amap = s.amap ∧ (State.coast s n lost).mem = s.mem ∧ (State.coast s n lost).home = s.home ∧ (State.coast s n lost).ddr = s.ddr ∧ (State.coast s n lost).tier = s.tier ∧ (State.coast s n lost).dm = s.dm ∧ (State.coast s n lost).brg = s.brg ∧ (State.coast s n lost).hsc = s.hsc ∧ (State.coast s n lost).boot = s.boot ∧ (State.coast s n lost).core = s.core ∧ (State.coast s n lost).mgmt = s.mgmt := by
  unfold State.coast; (repeat' split) <;> simp [State.onLoop_keeps _ _ _, State.settleAll_keeps _, State.setMon_keeps _ _, State.raiseClk_keeps _ _ _ _]

theorem State.coastRef_keeps (s : State) :
    (State.coastRef s).now = s.now ∧ (State.coastRef s).free = s.free ∧ (State.coastRef s).pending = s.pending ∧ (State.coastRef s).regs = s.regs ∧ (State.coastRef s).flt = s.flt ∧ (State.coastRef s).amap = s.amap ∧ (State.coastRef s).mem = s.mem ∧ (State.coastRef s).home = s.home ∧ (State.coastRef s).ddr = s.ddr ∧ (State.coastRef s).tier = s.tier ∧ (State.coastRef s).dm = s.dm ∧ (State.coastRef s).brg = s.brg ∧ (State.coastRef s).hsc = s.hsc ∧ (State.coastRef s).boot = s.boot ∧ (State.coastRef s).core = s.core ∧ (State.coastRef s).mgmt = s.mgmt := by
  unfold State.coastRef; simp [State.coast_keeps _ _ _]

theorem State.moveRef_keeps (s : State) :
    (State.moveRef s).now = s.now ∧ (State.moveRef s).free = s.free ∧ (State.moveRef s).pending = s.pending ∧ (State.moveRef s).regs = s.regs ∧ (State.moveRef s).flt = s.flt ∧ (State.moveRef s).amap = s.amap ∧ (State.moveRef s).mem = s.mem ∧ (State.moveRef s).home = s.home ∧ (State.moveRef s).ddr = s.ddr ∧ (State.moveRef s).tier = s.tier ∧ (State.moveRef s).dm = s.dm ∧ (State.moveRef s).brg = s.brg ∧ (State.moveRef s).hsc = s.hsc ∧ (State.moveRef s).boot = s.boot ∧ (State.moveRef s).core = s.core ∧ (State.moveRef s).mgmt = s.mgmt := by
  unfold State.moveRef; simp [State.onClk_keeps _ _, State.coastRef_keeps _, State.raiseClk_keeps _ _ _ _]

theorem State.xtalFails_keeps (s : State) (b : Bool) :
    (State.xtalFails s b).now = s.now ∧ (State.xtalFails s b).free = s.free ∧ (State.xtalFails s b).pending = s.pending ∧ (State.xtalFails s b).regs = s.regs ∧ (State.xtalFails s b).flt = s.flt ∧ (State.xtalFails s b).amap = s.amap ∧ (State.xtalFails s b).mem = s.mem ∧ (State.xtalFails s b).home = s.home ∧ (State.xtalFails s b).ddr = s.ddr ∧ (State.xtalFails s b).tier = s.tier ∧ (State.xtalFails s b).dm = s.dm ∧ (State.xtalFails s b).brg = s.brg ∧ (State.xtalFails s b).hsc = s.hsc ∧ (State.xtalFails s b).boot = s.boot ∧ (State.xtalFails s b).core = s.core ∧ (State.xtalFails s b).mgmt = s.mgmt := by
  unfold State.xtalFails; simp [State.raiseClk_keeps _ _ _ _, State.setXtal_keeps _ _ _]

theorem State.discSync_keeps (s : State) :
    (State.discSync s).now = s.now ∧ (State.discSync s).free = s.free ∧ (State.discSync s).pending = s.pending ∧ (State.discSync s).out = s.out ∧ (State.discSync s).regs = s.regs ∧ (State.discSync s).ret = s.ret ∧ (State.discSync s).evt = s.evt ∧ (State.discSync s).flt = s.flt ∧ (State.discSync s).obs = s.obs ∧ (State.discSync s).host = s.host ∧ (State.discSync s).amap = s.amap ∧ (State.discSync s).mem = s.mem ∧ (State.discSync s).home = s.home ∧ (State.discSync s).ddr = s.ddr ∧ (State.discSync s).tier = s.tier ∧ (State.discSync s).dm = s.dm ∧ (State.discSync s).dunas = s.dunas ∧ (State.discSync s).brg = s.brg ∧ (State.discSync s).hsc = s.hsc ∧ (State.discSync s).boot = s.boot ∧ (State.discSync s).core = s.core ∧ (State.discSync s).mgmt = s.mgmt := by
  unfold State.discSync; simp [State.onClk_keeps _ _]

theorem State.refclkLost_keeps (s : State) (g : ℕ) :
    (State.refclkLost s g).now = s.now ∧ (State.refclkLost s g).pending = s.pending ∧ (State.refclkLost s g).hsc = s.hsc ∧ (State.refclkLost s g).boot = s.boot ∧ (State.refclkLost s g).core = s.core := by
  unfold State.refclkLost; simp [State.groupLost_keeps _ _, State.coast_keeps _ _ _, State.onGrp_keeps _ _ _, State.setMon_keeps _ _]

theorem State.firstLook_keeps (s : State) :
    (State.firstLook s).free = s.free ∧ (State.firstLook s).pending = s.pending ∧ (State.firstLook s).regs = s.regs ∧ (State.firstLook s).flt = s.flt ∧ (State.firstLook s).amap = s.amap ∧ (State.firstLook s).mem = s.mem ∧ (State.firstLook s).home = s.home ∧ (State.firstLook s).ddr = s.ddr ∧ (State.firstLook s).tier = s.tier ∧ (State.firstLook s).dm = s.dm ∧ (State.firstLook s).brg = s.brg ∧ (State.firstLook s).hsc = s.hsc ∧ (State.firstLook s).boot = s.boot ∧ (State.firstLook s).core = s.core ∧ (State.firstLook s).mgmt = s.mgmt := by
  unfold State.firstLook; simp [State.lookForRef_keeps _, State.reach_keeps _ _]

theorem State.nextLook_keeps (s : State) :
    (State.nextLook s).free = s.free ∧ (State.nextLook s).pending = s.pending ∧ (State.nextLook s).regs = s.regs ∧ (State.nextLook s).flt = s.flt ∧ (State.nextLook s).amap = s.amap ∧ (State.nextLook s).mem = s.mem ∧ (State.nextLook s).home = s.home ∧ (State.nextLook s).ddr = s.ddr ∧ (State.nextLook s).tier = s.tier ∧ (State.nextLook s).dm = s.dm ∧ (State.nextLook s).brg = s.brg ∧ (State.nextLook s).hsc = s.hsc ∧ (State.nextLook s).boot = s.boot ∧ (State.nextLook s).core = s.core ∧ (State.nextLook s).mgmt = s.mgmt := by
  obtain ⟨P, hP⟩ : ∃ P : State → Prop, P = fun x => x.free = s.free ∧ x.pending = s.pending ∧ x.regs = s.regs ∧ x.flt = s.flt ∧ x.amap = s.amap ∧ x.mem = s.mem ∧ x.home = s.home ∧ x.ddr = s.ddr ∧ x.tier = s.tier ∧ x.dm = s.dm ∧ x.brg = s.brg ∧ x.hsc = s.hsc ∧ x.boot = s.boot ∧ x.core = s.core ∧ x.mgmt = s.mgmt := ⟨_, rfl⟩
  suffices h : P (State.nextLook s) by rw [hP] at h; exact h
  unfold State.nextLook; (try dsimp only); (repeat' split) <;> subst hP <;> simp_all [State.lookForRef_keeps _, State.reach_keeps _ _]

theorem State.flagged_keeps (s : State) (c : MonClock) :
    (State.flagged s c).now = s.now ∧ (State.flagged s c).pending = s.pending ∧ (State.flagged s c).hsc = s.hsc ∧ (State.flagged s c).boot = s.boot ∧ (State.flagged s c).core = s.core := by
  unfold State.flagged; (repeat' split) <;> simp [State.xtalFails_keeps _ _, State.setMon_keeps _ _, State.setXtal_keeps _ _ _, State.discSync_keeps _, State.coastRef_keeps _, State.coast_keeps _ _ _, State.refclkLost_keeps _ _]

theorem State.swapRef_keeps (s : State) :
    (State.swapRef s).now = s.now ∧ (State.swapRef s).free = s.free ∧ (State.swapRef s).pending = s.pending ∧ (State.swapRef s).regs = s.regs ∧ (State.swapRef s).flt = s.flt ∧ (State.swapRef s).amap = s.amap ∧ (State.swapRef s).mem = s.mem ∧ (State.swapRef s).home = s.home ∧ (State.swapRef s).ddr = s.ddr ∧ (State.swapRef s).tier = s.tier ∧ (State.swapRef s).dm = s.dm ∧ (State.swapRef s).brg = s.brg ∧ (State.swapRef s).hsc = s.hsc ∧ (State.swapRef s).boot = s.boot ∧ (State.swapRef s).core = s.core ∧ (State.swapRef s).mgmt = s.mgmt := by
  unfold State.swapRef; simp [State.moveRef_keeps _]

theorem State.lockLost_keeps (s : State) (n : ℕ) :
    (State.lockLost s n).now = s.now ∧ (State.lockLost s n).pending = s.pending ∧ (State.lockLost s n).core = s.core := by
  unfold State.lockLost; simp [State.faultP_keeps _ _ _ _, State.enterLreset_keeps _ _ _, State.groupLost_keeps _ _]

theorem State.standPages_keeps (s : State) (d : ℕ) (t : ℕ) :
    (State.standPages s d t).now = s.now ∧ (State.standPages s d t).free = s.free ∧ (State.standPages s d t).pending = s.pending ∧ (State.standPages s d t).out = s.out ∧ (State.standPages s d t).regs = s.regs ∧ (State.standPages s d t).ret = s.ret ∧ (State.standPages s d t).evt = s.evt ∧ (State.standPages s d t).flt = s.flt ∧ (State.standPages s d t).host = s.host ∧ (State.standPages s d t).amap = s.amap ∧ (State.standPages s d t).mem = s.mem ∧ (State.standPages s d t).home = s.home ∧ (State.standPages s d t).ddr = s.ddr ∧ (State.standPages s d t).tier = s.tier ∧ (State.standPages s d t).dm = s.dm ∧ (State.standPages s d t).dunas = s.dunas ∧ (State.standPages s d t).brg = s.brg ∧ (State.standPages s d t).clk = s.clk ∧ (State.standPages s d t).hsc = s.hsc ∧ (State.standPages s d t).boot = s.boot ∧ (State.standPages s d t).core = s.core ∧ (State.standPages s d t).mgmt = s.mgmt := by
  unfold State.standPages; simp [State.onBank_keeps _ _ _]

theorem State.dselMove_keeps (s : State) (d : ℕ) (toAux : Bool) :
    (State.dselMove s d toAux).now = s.now ∧ (State.dselMove s d toAux).free = s.free ∧ (State.dselMove s d toAux).pending = s.pending ∧ (State.dselMove s d toAux).out = s.out ∧ (State.dselMove s d toAux).regs = s.regs ∧ (State.dselMove s d toAux).ret = s.ret ∧ (State.dselMove s d toAux).evt = s.evt ∧ (State.dselMove s d toAux).flt = s.flt ∧ (State.dselMove s d toAux).host = s.host ∧ (State.dselMove s d toAux).amap = s.amap ∧ (State.dselMove s d toAux).mem = s.mem ∧ (State.dselMove s d toAux).home = s.home ∧ (State.dselMove s d toAux).ddr = s.ddr ∧ (State.dselMove s d toAux).tier = s.tier ∧ (State.dselMove s d toAux).dm = s.dm ∧ (State.dselMove s d toAux).dunas = s.dunas ∧ (State.dselMove s d toAux).brg = s.brg ∧ (State.dselMove s d toAux).hsc = s.hsc ∧ (State.dselMove s d toAux).boot = s.boot ∧ (State.dselMove s d toAux).core = s.core ∧ (State.dselMove s d toAux).mgmt = s.mgmt := by
  unfold State.dselMove; simp [State.settleAll_keeps _, State.onClk_keeps _ _, State.standPages_keeps _ _ _]

theorem State.dsel_keeps (s : State) (d : ℕ) (src : ℕ) :
    (State.dsel s d src).now = s.now ∧ (State.dsel s d src).free = s.free ∧ (State.dsel s d src).pending = s.pending ∧ (State.dsel s d src).out = s.out ∧ (State.dsel s d src).regs = s.regs ∧ (State.dsel s d src).ret = s.ret ∧ (State.dsel s d src).evt = s.evt ∧ (State.dsel s d src).flt = s.flt ∧ (State.dsel s d src).host = s.host ∧ (State.dsel s d src).amap = s.amap ∧ (State.dsel s d src).mem = s.mem ∧ (State.dsel s d src).home = s.home ∧ (State.dsel s d src).ddr = s.ddr ∧ (State.dsel s d src).tier = s.tier ∧ (State.dsel s d src).dm = s.dm ∧ (State.dsel s d src).dunas = s.dunas ∧ (State.dsel s d src).brg = s.brg ∧ (State.dsel s d src).hsc = s.hsc ∧ (State.dsel s d src).boot = s.boot ∧ (State.dsel s d src).core = s.core ∧ (State.dsel s d src).mgmt = s.mgmt := by
  unfold State.dsel; simp [State.onClk_keeps _ _, State.dselMove_keeps _ _ _]

theorem State.powerUp_keeps (s : State) (d : ℕ × ℕ) (auto : Bool) :
    (State.powerUp s d auto).now = s.now ∧ (State.powerUp s d auto).free = s.free ∧ (State.powerUp s d auto).pending = s.pending ∧ (State.powerUp s d auto).out = s.out ∧ (State.powerUp s d auto).regs = s.regs ∧ (State.powerUp s d auto).ret = s.ret ∧ (State.powerUp s d auto).evt = s.evt ∧ (State.powerUp s d auto).flt = s.flt ∧ (State.powerUp s d auto).host = s.host ∧ (State.powerUp s d auto).amap = s.amap ∧ (State.powerUp s d auto).mem = s.mem ∧ (State.powerUp s d auto).home = s.home ∧ (State.powerUp s d auto).ddr = s.ddr ∧ (State.powerUp s d auto).tier = s.tier ∧ (State.powerUp s d auto).dm = s.dm ∧ (State.powerUp s d auto).dunas = s.dunas ∧ (State.powerUp s d auto).brg = s.brg ∧ (State.powerUp s d auto).hsc = s.hsc ∧ (State.powerUp s d auto).boot = s.boot ∧ (State.powerUp s d auto).core = s.core ∧ (State.powerUp s d auto).mgmt = s.mgmt := by
  unfold State.powerUp; simp [State.onClk_keeps _ _, State.settleAll_keeps _]

theorem State.wakeLeave_keeps (s : State) :
    (State.wakeLeave s).now = s.now ∧ (State.wakeLeave s).free = s.free ∧ (State.wakeLeave s).pending = s.pending ∧ (State.wakeLeave s).core = s.core := by
  unfold State.wakeLeave; simp [State.onClk_keeps _ _, State.leaveAux_keeps _ _]

end Sys2Proof.Machine
end

