-- ==== Sys2Proof/Laws/CoresKeeps.lean ====
section
/-! SUPPORT. Which fields of the state the operations of Cores leave as they are: a proof
over the operation `State.op` gives simp its lemma `State.op_keeps _ _`. -/

namespace Sys2Proof.Machine

theorem State.onMcore_keeps (s : State) (c : ℕ) (f : MCore → MCore) :
    (State.onMcore s c f).now = s.now ∧ (State.onMcore s c f).free = s.free ∧ (State.onMcore s c f).pending = s.pending ∧ (State.onMcore s c f).out = s.out ∧ (State.onMcore s c f).regs = s.regs ∧ (State.onMcore s c f).ret = s.ret ∧ (State.onMcore s c f).evt = s.evt ∧ (State.onMcore s c f).flt = s.flt ∧ (State.onMcore s c f).obs = s.obs ∧ (State.onMcore s c f).host = s.host ∧ (State.onMcore s c f).amap = s.amap ∧ (State.onMcore s c f).mem = s.mem ∧ (State.onMcore s c f).home = s.home ∧ (State.onMcore s c f).ddr = s.ddr ∧ (State.onMcore s c f).tier = s.tier ∧ (State.onMcore s c f).dm = s.dm ∧ (State.onMcore s c f).dunas = s.dunas ∧ (State.onMcore s c f).brg = s.brg ∧ (State.onMcore s c f).clk = s.clk ∧ (State.onMcore s c f).hsc = s.hsc ∧ (State.onMcore s c f).boot = s.boot ∧ (State.onMcore s c f).mgmt = s.mgmt := by
  unfold State.onMcore; simp

theorem State.cacheInv_keeps (s : State) (c : ℕ) (k : CacheSel) (how : MaintBy) :
    (State.cacheInv s c k how).now = s.now ∧ (State.cacheInv s c k how).free = s.free ∧ (State.cacheInv s c k how).pending = s.pending ∧ (State.cacheInv s c k how).out = s.out ∧ (State.cacheInv s c k how).regs = s.regs ∧ (State.cacheInv s c k how).ret = s.ret ∧ (State.cacheInv s c k how).evt = s.evt ∧ (State.cacheInv s c k how).flt = s.flt ∧ (State.cacheInv s c k how).obs = s.obs ∧ (State.cacheInv s c k how).host = s.host ∧ (State.cacheInv s c k how).amap = s.amap ∧ (State.cacheInv s c k how).mem = s.mem ∧ (State.cacheInv s c k how).home = s.home ∧ (State.cacheInv s c k how).ddr = s.ddr ∧ (State.cacheInv s c k how).tier = s.tier ∧ (State.cacheInv s c k how).dm = s.dm ∧ (State.cacheInv s c k how).dunas = s.dunas ∧ (State.cacheInv s c k how).brg = s.brg ∧ (State.cacheInv s c k how).clk = s.clk ∧ (State.cacheInv s c k how).hsc = s.hsc ∧ (State.cacheInv s c k how).boot = s.boot ∧ (State.cacheInv s c k how).mgmt = s.mgmt := by
  unfold State.cacheInv; simp [State.onMcore_keeps _ _ _]

theorem State.cacheClean_keeps (s : State) (m : Master) (c : ℕ) (k : CacheSel) (how : MaintBy) (inv : Bool) :
    (State.cacheClean s m c k how inv).now = s.now ∧ (State.cacheClean s m c k how inv).free = s.free ∧ (State.cacheClean s m c k how inv).pending = s.pending ∧ (State.cacheClean s m c k how inv).out = s.out ∧ (State.cacheClean s m c k how inv).regs = s.regs ∧ (State.cacheClean s m c k how inv).ret = s.ret ∧ (State.cacheClean s m c k how inv).evt = s.evt ∧ (State.cacheClean s m c k how inv).flt = s.flt ∧ (State.cacheClean s m c k how inv).obs = s.obs ∧ (State.cacheClean s m c k how inv).host = s.host ∧ (State.cacheClean s m c k how inv).amap = s.amap ∧ (State.cacheClean s m c k how inv).mem = s.mem ∧ (State.cacheClean s m c k how inv).home = s.home ∧ (State.cacheClean s m c k how inv).ddr = s.ddr ∧ (State.cacheClean s m c k how inv).tier = s.tier ∧ (State.cacheClean s m c k how inv).dm = s.dm ∧ (State.cacheClean s m c k how inv).dunas = s.dunas ∧ (State.cacheClean s m c k how inv).brg = s.brg ∧ (State.cacheClean s m c k how inv).clk = s.clk ∧ (State.cacheClean s m c k how inv).hsc = s.hsc ∧ (State.cacheClean s m c k how inv).boot = s.boot ∧ (State.cacheClean s m c k how inv).mgmt = s.mgmt := by
  unfold State.cacheClean; simp [State.onMcore_keeps _ _ _, State.cacheInv_keeps _ _ _ _]

theorem State.cleansEnd_keeps (s : State) (c : ℕ) :
    (State.cleansEnd s c).now = s.now ∧ (State.cleansEnd s c).free = s.free ∧ (State.cleansEnd s c).pending = s.pending ∧ (State.cleansEnd s c).out = s.out ∧ (State.cleansEnd s c).regs = s.regs ∧ (State.cleansEnd s c).ret = s.ret ∧ (State.cleansEnd s c).evt = s.evt ∧ (State.cleansEnd s c).flt = s.flt ∧ (State.cleansEnd s c).obs = s.obs ∧ (State.cleansEnd s c).host = s.host ∧ (State.cleansEnd s c).amap = s.amap ∧ (State.cleansEnd s c).mem = s.mem ∧ (State.cleansEnd s c).home = s.home ∧ (State.cleansEnd s c).ddr = s.ddr ∧ (State.cleansEnd s c).tier = s.tier ∧ (State.cleansEnd s c).dm = s.dm ∧ (State.cleansEnd s c).dunas = s.dunas ∧ (State.cleansEnd s c).brg = s.brg ∧ (State.cleansEnd s c).clk = s.clk ∧ (State.cleansEnd s c).hsc = s.hsc ∧ (State.cleansEnd s c).boot = s.boot ∧ (State.cleansEnd s c).mgmt = s.mgmt := by
  unfold State.cleansEnd; (try dsimp only); (try unfold State.each)
  refine foldl_holds (P := fun (x : State) => x.now = s.now ∧ x.free = s.free ∧ x.pending = s.pending ∧ x.out = s.out ∧ x.regs = s.regs ∧ x.ret = s.ret ∧ x.evt = s.evt ∧ x.flt = s.flt ∧ x.obs = s.obs ∧ x.host = s.host ∧ x.amap = s.amap ∧ x.mem = s.mem ∧ x.home = s.home ∧ x.ddr = s.ddr ∧ x.tier = s.tier ∧ x.dm = s.dm ∧ x.dunas = s.dunas ∧ x.brg = s.brg ∧ x.clk = s.clk ∧ x.hsc = s.hsc ∧ x.boot = s.boot ∧ x.mgmt = s.mgmt) ?_ ?_
  · simp [State.onMcore_keeps _ _ _, State.cacheInv_keeps _ _ _ _]
  · intro b x h; (try dsimp only); (repeat' split) <;> simp_all [State.onMcore_keeps _ _ _, State.cacheInv_keeps _ _ _ _]

theorem State.victimInv_keeps (s : State) (c : ℕ) (k : CacheSel) :
    (State.victimInv s c k).now = s.now ∧ (State.victimInv s c k).free = s.free ∧ (State.victimInv s c k).pending = s.pending ∧ (State.victimInv s c k).out = s.out ∧ (State.victimInv s c k).regs = s.regs ∧ (State.victimInv s c k).ret = s.ret ∧ (State.victimInv s c k).evt = s.evt ∧ (State.victimInv s c k).flt = s.flt ∧ (State.victimInv s c k).obs = s.obs ∧ (State.victimInv s c k).host = s.host ∧ (State.victimInv s c k).amap = s.amap ∧ (State.victimInv s c k).mem = s.mem ∧ (State.victimInv s c k).home = s.home ∧ (State.victimInv s c k).ddr = s.ddr ∧ (State.victimInv s c k).tier = s.tier ∧ (State.victimInv s c k).dm = s.dm ∧ (State.victimInv s c k).dunas = s.dunas ∧ (State.victimInv s c k).brg = s.brg ∧ (State.victimInv s c k).clk = s.clk ∧ (State.victimInv s c k).hsc = s.hsc ∧ (State.victimInv s c k).boot = s.boot ∧ (State.victimInv s c k).mgmt = s.mgmt := by
  unfold State.victimInv; simp [State.onMcore_keeps _ _ _]

theorem State.cmaint_keeps (s : State) (m : Master) (c : ℕ) (v : Word) :
    (State.cmaint s m c v).now = s.now ∧ (State.cmaint s m c v).free = s.free ∧ (State.cmaint s m c v).pending = s.pending ∧ (State.cmaint s m c v).out = s.out ∧ (State.cmaint s m c v).regs = s.regs ∧ (State.cmaint s m c v).ret = s.ret ∧ (State.cmaint s m c v).evt = s.evt ∧ (State.cmaint s m c v).flt = s.flt ∧ (State.cmaint s m c v).obs = s.obs ∧ (State.cmaint s m c v).host = s.host ∧ (State.cmaint s m c v).amap = s.amap ∧ (State.cmaint s m c v).mem = s.mem ∧ (State.cmaint s m c v).home = s.home ∧ (State.cmaint s m c v).ddr = s.ddr ∧ (State.cmaint s m c v).tier = s.tier ∧ (State.cmaint s m c v).dm = s.dm ∧ (State.cmaint s m c v).dunas = s.dunas ∧ (State.cmaint s m c v).brg = s.brg ∧ (State.cmaint s m c v).clk = s.clk ∧ (State.cmaint s m c v).hsc = s.hsc ∧ (State.cmaint s m c v).boot = s.boot ∧ (State.cmaint s m c v).mgmt = s.mgmt := by
  unfold State.cmaint; simp [State.victimInv_keeps _ _ _, State.cacheClean_keeps _ _ _ _ _ _, State.cacheInv_keeps _ _ _ _]

theorem State.writeCmaint_keeps (s : State) (m : Master) (c : ℕ) (v : Word) :
    (State.writeCmaint s m c v).free = s.free ∧ (State.writeCmaint s m c v).pending = s.pending ∧ (State.writeCmaint s m c v).flt = s.flt ∧ (State.writeCmaint s m c v).mem = s.mem ∧ (State.writeCmaint s m c v).home = s.home ∧ (State.writeCmaint s m c v).tier = s.tier ∧ (State.writeCmaint s m c v).dm = s.dm ∧ (State.writeCmaint s m c v).hsc = s.hsc ∧ (State.writeCmaint s m c v).boot = s.boot := by
  unfold State.writeCmaint; simp [State.cmaint_keeps _ _ _ _]

theorem State.cctl_keeps (s : State) (c : ℕ) (ien : Bool) (den : Bool) :
    (State.cctl s c ien den).now = s.now ∧ (State.cctl s c ien den).free = s.free ∧ (State.cctl s c ien den).pending = s.pending ∧ (State.cctl s c ien den).out = s.out ∧ (State.cctl s c ien den).regs = s.regs ∧ (State.cctl s c ien den).ret = s.ret ∧ (State.cctl s c ien den).evt = s.evt ∧ (State.cctl s c ien den).flt = s.flt ∧ (State.cctl s c ien den).obs = s.obs ∧ (State.cctl s c ien den).host = s.host ∧ (State.cctl s c ien den).amap = s.amap ∧ (State.cctl s c ien den).mem = s.mem ∧ (State.cctl s c ien den).home = s.home ∧ (State.cctl s c ien den).ddr = s.ddr ∧ (State.cctl s c ien den).tier = s.tier ∧ (State.cctl s c ien den).dm = s.dm ∧ (State.cctl s c ien den).dunas = s.dunas ∧ (State.cctl s c ien den).brg = s.brg ∧ (State.cctl s c ien den).clk = s.clk ∧ (State.cctl s c ien den).hsc = s.hsc ∧ (State.cctl s c ien den).boot = s.boot ∧ (State.cctl s c ien den).mgmt = s.mgmt := by
  unfold State.cctl; simp [State.onMcore_keeps _ _ _]

end Sys2Proof.Machine
end

