-- ==== Sys2Proof/Laws/CountersKeeps.lean ====
section
/-! SUPPORT. Which fields of the state the operations of Counters leave as they are: a proof
over the operation `State.op` gives simp its lemma `State.op_keeps _ _`. -/

namespace Sys2Proof.Machine

theorem State.pmcCtl_keeps (s : State) (p : ℕ) (v : Word) :
    (State.pmcCtl s p v).now = s.now ∧ (State.pmcCtl s p v).free = s.free ∧ (State.pmcCtl s p v).pending = s.pending ∧ (State.pmcCtl s p v).out = s.out ∧ (State.pmcCtl s p v).ret = s.ret ∧ (State.pmcCtl s p v).evt = s.evt ∧ (State.pmcCtl s p v).flt = s.flt ∧ (State.pmcCtl s p v).host = s.host ∧ (State.pmcCtl s p v).amap = s.amap ∧ (State.pmcCtl s p v).mem = s.mem ∧ (State.pmcCtl s p v).home = s.home ∧ (State.pmcCtl s p v).ddr = s.ddr ∧ (State.pmcCtl s p v).tier = s.tier ∧ (State.pmcCtl s p v).dm = s.dm ∧ (State.pmcCtl s p v).dunas = s.dunas ∧ (State.pmcCtl s p v).brg = s.brg ∧ (State.pmcCtl s p v).clk = s.clk ∧ (State.pmcCtl s p v).hsc = s.hsc ∧ (State.pmcCtl s p v).boot = s.boot ∧ (State.pmcCtl s p v).core = s.core ∧ (State.pmcCtl s p v).mgmt = s.mgmt := by
  unfold State.pmcCtl; simp [State.setBits_keeps _ _ _ _ _ _, State.settlePage_keeps _ _, State.onBank_keeps _ _ _]

theorem State.pmcEvsel_keeps (s : State) (p : ℕ) (v : Word) :
    (State.pmcEvsel s p v).now = s.now ∧ (State.pmcEvsel s p v).free = s.free ∧ (State.pmcEvsel s p v).pending = s.pending ∧ (State.pmcEvsel s p v).out = s.out ∧ (State.pmcEvsel s p v).regs = s.regs ∧ (State.pmcEvsel s p v).ret = s.ret ∧ (State.pmcEvsel s p v).evt = s.evt ∧ (State.pmcEvsel s p v).flt = s.flt ∧ (State.pmcEvsel s p v).host = s.host ∧ (State.pmcEvsel s p v).amap = s.amap ∧ (State.pmcEvsel s p v).mem = s.mem ∧ (State.pmcEvsel s p v).home = s.home ∧ (State.pmcEvsel s p v).ddr = s.ddr ∧ (State.pmcEvsel s p v).tier = s.tier ∧ (State.pmcEvsel s p v).dm = s.dm ∧ (State.pmcEvsel s p v).dunas = s.dunas ∧ (State.pmcEvsel s p v).brg = s.brg ∧ (State.pmcEvsel s p v).clk = s.clk ∧ (State.pmcEvsel s p v).hsc = s.hsc ∧ (State.pmcEvsel s p v).boot = s.boot ∧ (State.pmcEvsel s p v).core = s.core ∧ (State.pmcEvsel s p v).mgmt = s.mgmt := by
  unfold State.pmcEvsel; simp [State.settlePage_keeps _ _, State.onBank_keeps _ _ _]

theorem State.pmcOvf_keeps (s : State) (p : ℕ) (v : Word) :
    (State.pmcOvf s p v).now = s.now ∧ (State.pmcOvf s p v).free = s.free ∧ (State.pmcOvf s p v).pending = s.pending ∧ (State.pmcOvf s p v).out = s.out ∧ (State.pmcOvf s p v).regs = s.regs ∧ (State.pmcOvf s p v).ret = s.ret ∧ (State.pmcOvf s p v).evt = s.evt ∧ (State.pmcOvf s p v).flt = s.flt ∧ (State.pmcOvf s p v).host = s.host ∧ (State.pmcOvf s p v).amap = s.amap ∧ (State.pmcOvf s p v).mem = s.mem ∧ (State.pmcOvf s p v).home = s.home ∧ (State.pmcOvf s p v).ddr = s.ddr ∧ (State.pmcOvf s p v).tier = s.tier ∧ (State.pmcOvf s p v).dm = s.dm ∧ (State.pmcOvf s p v).dunas = s.dunas ∧ (State.pmcOvf s p v).brg = s.brg ∧ (State.pmcOvf s p v).clk = s.clk ∧ (State.pmcOvf s p v).hsc = s.hsc ∧ (State.pmcOvf s p v).boot = s.boot ∧ (State.pmcOvf s p v).core = s.core ∧ (State.pmcOvf s p v).mgmt = s.mgmt := by
  unfold State.pmcOvf; simp [State.onBank_keeps _ _ _]

theorem State.pmcGctl_keeps (s : State) (v : Word) :
    (State.pmcGctl s v).now = s.now ∧ (State.pmcGctl s v).free = s.free ∧ (State.pmcGctl s v).pending = s.pending ∧ (State.pmcGctl s v).out = s.out ∧ (State.pmcGctl s v).ret = s.ret ∧ (State.pmcGctl s v).evt = s.evt ∧ (State.pmcGctl s v).flt = s.flt ∧ (State.pmcGctl s v).host = s.host ∧ (State.pmcGctl s v).amap = s.amap ∧ (State.pmcGctl s v).mem = s.mem ∧ (State.pmcGctl s v).home = s.home ∧ (State.pmcGctl s v).ddr = s.ddr ∧ (State.pmcGctl s v).tier = s.tier ∧ (State.pmcGctl s v).dm = s.dm ∧ (State.pmcGctl s v).dunas = s.dunas ∧ (State.pmcGctl s v).brg = s.brg ∧ (State.pmcGctl s v).clk = s.clk ∧ (State.pmcGctl s v).hsc = s.hsc ∧ (State.pmcGctl s v).boot = s.boot ∧ (State.pmcGctl s v).core = s.core ∧ (State.pmcGctl s v).mgmt = s.mgmt := by
  unfold State.pmcGctl; simp [State.setBits_keeps _ _ _ _ _ _, State.settleAll_keeps _, State.onBank_keeps _ _ _]

theorem State.overflow_keeps (s : State) (p : ℕ) (k : ℕ) :
    (State.overflow s p k).now = s.now ∧ (State.overflow s p k).free = s.free ∧ (State.overflow s p k).pending = s.pending ∧ (State.overflow s p k).regs = s.regs ∧ (State.overflow s p k).flt = s.flt ∧ (State.overflow s p k).amap = s.amap ∧ (State.overflow s p k).mem = s.mem ∧ (State.overflow s p k).home = s.home ∧ (State.overflow s p k).ddr = s.ddr ∧ (State.overflow s p k).tier = s.tier ∧ (State.overflow s p k).dm = s.dm ∧ (State.overflow s p k).brg = s.brg ∧ (State.overflow s p k).clk = s.clk ∧ (State.overflow s p k).hsc = s.hsc ∧ (State.overflow s p k).boot = s.boot ∧ (State.overflow s p k).core = s.core ∧ (State.overflow s p k).mgmt = s.mgmt := by
  unfold State.overflow; simp [State.onBank_keeps _ _ _, State.raise_keeps _ _]

theorem State.trcDrop_keeps (s : State) :
    (State.trcDrop s).now = s.now ∧ (State.trcDrop s).free = s.free ∧ (State.trcDrop s).pending = s.pending ∧ (State.trcDrop s).regs = s.regs ∧ (State.trcDrop s).flt = s.flt ∧ (State.trcDrop s).amap = s.amap ∧ (State.trcDrop s).mem = s.mem ∧ (State.trcDrop s).home = s.home ∧ (State.trcDrop s).ddr = s.ddr ∧ (State.trcDrop s).tier = s.tier ∧ (State.trcDrop s).dm = s.dm ∧ (State.trcDrop s).brg = s.brg ∧ (State.trcDrop s).clk = s.clk ∧ (State.trcDrop s).hsc = s.hsc ∧ (State.trcDrop s).boot = s.boot ∧ (State.trcDrop s).core = s.core ∧ (State.trcDrop s).mgmt = s.mgmt := by
  unfold State.trcDrop; simp [State.raiseAt_keeps _ _ _ _]

theorem State.trcPut_keeps (s : State) (r : TraceRec) :
    (State.trcPut s r).now = s.now ∧ (State.trcPut s r).free = s.free ∧ (State.trcPut s r).pending = s.pending ∧ (State.trcPut s r).regs = s.regs ∧ (State.trcPut s r).flt = s.flt ∧ (State.trcPut s r).amap = s.amap ∧ (State.trcPut s r).mem = s.mem ∧ (State.trcPut s r).home = s.home ∧ (State.trcPut s r).ddr = s.ddr ∧ (State.trcPut s r).tier = s.tier ∧ (State.trcPut s r).dm = s.dm ∧ (State.trcPut s r).brg = s.brg ∧ (State.trcPut s r).clk = s.clk ∧ (State.trcPut s r).hsc = s.hsc ∧ (State.trcPut s r).boot = s.boot ∧ (State.trcPut s r).core = s.core ∧ (State.trcPut s r).mgmt = s.mgmt := by
  unfold State.trcPut; simp [State.raiseAt_keeps _ _ _ _]

theorem State.trcCfg_keeps (s : State) (was : Bool) :
    (State.trcCfg s was).now = s.now ∧ (State.trcCfg s was).free = s.free ∧ (State.trcCfg s was).pending = s.pending ∧ (State.trcCfg s was).out = s.out ∧ (State.trcCfg s was).regs = s.regs ∧ (State.trcCfg s was).ret = s.ret ∧ (State.trcCfg s was).evt = s.evt ∧ (State.trcCfg s was).flt = s.flt ∧ (State.trcCfg s was).host = s.host ∧ (State.trcCfg s was).amap = s.amap ∧ (State.trcCfg s was).mem = s.mem ∧ (State.trcCfg s was).home = s.home ∧ (State.trcCfg s was).ddr = s.ddr ∧ (State.trcCfg s was).tier = s.tier ∧ (State.trcCfg s was).dm = s.dm ∧ (State.trcCfg s was).dunas = s.dunas ∧ (State.trcCfg s was).brg = s.brg ∧ (State.trcCfg s was).clk = s.clk ∧ (State.trcCfg s was).hsc = s.hsc ∧ (State.trcCfg s was).boot = s.boot ∧ (State.trcCfg s was).core = s.core ∧ (State.trcCfg s was).mgmt = s.mgmt := by
  unfold State.trcCfg; simp

theorem State.trcRptr_keeps (s : State) :
    (State.trcRptr s).now = s.now ∧ (State.trcRptr s).free = s.free ∧ (State.trcRptr s).pending = s.pending ∧ (State.trcRptr s).out = s.out ∧ (State.trcRptr s).regs = s.regs ∧ (State.trcRptr s).ret = s.ret ∧ (State.trcRptr s).evt = s.evt ∧ (State.trcRptr s).flt = s.flt ∧ (State.trcRptr s).host = s.host ∧ (State.trcRptr s).amap = s.amap ∧ (State.trcRptr s).mem = s.mem ∧ (State.trcRptr s).home = s.home ∧ (State.trcRptr s).ddr = s.ddr ∧ (State.trcRptr s).tier = s.tier ∧ (State.trcRptr s).dm = s.dm ∧ (State.trcRptr s).dunas = s.dunas ∧ (State.trcRptr s).brg = s.brg ∧ (State.trcRptr s).clk = s.clk ∧ (State.trcRptr s).hsc = s.hsc ∧ (State.trcRptr s).boot = s.boot ∧ (State.trcRptr s).core = s.core ∧ (State.trcRptr s).mgmt = s.mgmt := by
  unfold State.trcRptr; simp

end Sys2Proof.Machine
end

