-- ==== Sys2Proof/Laws/HostLinksKeeps.lean ====
section
/-! SUPPORT. Which fields of the state the operations of HostLinks leave as they are: a proof
over the operation `State.op` gives simp its lemma `State.op_keeps _ _`. -/

namespace Sys2Proof.Machine

theorem State.recovered_keeps (s : State) (l : ℕ) (rate : ℕ) (width : ℕ) :
    (State.recovered s l rate width).now = s.now ∧ (State.recovered s l rate width).free = s.free ∧ (State.recovered s l rate width).pending = s.pending ∧ (State.recovered s l rate width).flt = s.flt ∧ (State.recovered s l rate width).amap = s.amap ∧ (State.recovered s l rate width).mem = s.mem ∧ (State.recovered s l rate width).home = s.home ∧ (State.recovered s l rate width).ddr = s.ddr ∧ (State.recovered s l rate width).tier = s.tier ∧ (State.recovered s l rate width).dm = s.dm ∧ (State.recovered s l rate width).brg = s.brg ∧ (State.recovered s l rate width).clk = s.clk ∧ (State.recovered s l rate width).hsc = s.hsc ∧ (State.recovered s l rate width).boot = s.boot ∧ (State.recovered s l rate width).core = s.core ∧ (State.recovered s l rate width).mgmt = s.mgmt := by
  unfold State.recovered; simp [State.tagsFit_keeps _ _, State.onLink_keeps _ _ _, State.raiseLink_keeps _ _ _ _ _, State.unlockIfDown_keeps _ _]

theorem State.l0pTo_keeps (s : State) (l : ℕ) (w : ℕ) :
    (State.l0pTo s l w).now = s.now ∧ (State.l0pTo s l w).free = s.free ∧ (State.l0pTo s l w).pending = s.pending ∧ (State.l0pTo s l w).regs = s.regs ∧ (State.l0pTo s l w).flt = s.flt ∧ (State.l0pTo s l w).amap = s.amap ∧ (State.l0pTo s l w).mem = s.mem ∧ (State.l0pTo s l w).home = s.home ∧ (State.l0pTo s l w).ddr = s.ddr ∧ (State.l0pTo s l w).tier = s.tier ∧ (State.l0pTo s l w).dm = s.dm ∧ (State.l0pTo s l w).brg = s.brg ∧ (State.l0pTo s l w).clk = s.clk ∧ (State.l0pTo s l w).hsc = s.hsc ∧ (State.l0pTo s l w).boot = s.boot ∧ (State.l0pTo s l w).core = s.core ∧ (State.l0pTo s l w).mgmt = s.mgmt := by
  unfold State.l0pTo; simp [State.onLink_keeps _ _ _, State.raiseLink_keeps _ _ _ _ _]

theorem State.configWrite_keeps (s : State) (ld : ℕ) (l : ℕ) (op : ConfigOp) :
    (State.configWrite s ld l op).now = s.now ∧ (State.configWrite s ld l op).free = s.free ∧ (State.configWrite s ld l op).pending = s.pending ∧ (State.configWrite s ld l op).regs = s.regs ∧ (State.configWrite s ld l op).ret = s.ret ∧ (State.configWrite s ld l op).evt = s.evt ∧ (State.configWrite s ld l op).flt = s.flt ∧ (State.configWrite s ld l op).amap = s.amap ∧ (State.configWrite s ld l op).mem = s.mem ∧ (State.configWrite s ld l op).home = s.home ∧ (State.configWrite s ld l op).ddr = s.ddr ∧ (State.configWrite s ld l op).tier = s.tier ∧ (State.configWrite s ld l op).dm = s.dm ∧ (State.configWrite s ld l op).brg = s.brg ∧ (State.configWrite s ld l op).clk = s.clk ∧ (State.configWrite s ld l op).hsc = s.hsc ∧ (State.configWrite s ld l op).boot = s.boot ∧ (State.configWrite s ld l op).core = s.core ∧ (State.configWrite s ld l op).mgmt = s.mgmt := by
  unfold State.configWrite; (repeat' split) <;> simp [State.onLd_keeps _ _ _, State.onLink_keeps _ _ _, State.toHost_keeps _ _ _]

theorem State.retrainLink_keeps (s : State) (l : ℕ) :
    (State.retrainLink s l).now = s.now ∧ (State.retrainLink s l).free = s.free ∧ (State.retrainLink s l).pending = s.pending ∧ (State.retrainLink s l).out = s.out ∧ (State.retrainLink s l).regs = s.regs ∧ (State.retrainLink s l).ret = s.ret ∧ (State.retrainLink s l).evt = s.evt ∧ (State.retrainLink s l).flt = s.flt ∧ (State.retrainLink s l).obs = s.obs ∧ (State.retrainLink s l).amap = s.amap ∧ (State.retrainLink s l).mem = s.mem ∧ (State.retrainLink s l).home = s.home ∧ (State.retrainLink s l).ddr = s.ddr ∧ (State.retrainLink s l).tier = s.tier ∧ (State.retrainLink s l).dm = s.dm ∧ (State.retrainLink s l).dunas = s.dunas ∧ (State.retrainLink s l).brg = s.brg ∧ (State.retrainLink s l).clk = s.clk ∧ (State.retrainLink s l).hsc = s.hsc ∧ (State.retrainLink s l).boot = s.boot ∧ (State.retrainLink s l).core = s.core ∧ (State.retrainLink s l).mgmt = s.mgmt := by
  unfold State.retrainLink; simp [State.onLink_keeps _ _ _]

end Sys2Proof.Machine
end

