-- ==== Sys2Proof/Laws/HostRequestsKeeps.lean ====
section
/-! SUPPORT. Which fields of the state the operations of HostRequests leave as they are: a proof
over the operation `State.op` gives simp its lemma `State.op_keeps _ _`. -/

namespace Sys2Proof.Machine

theorem State.turnAway_keeps (s : State) (ld : ℕ) (k : ReqKind) (tag : ℕ) :
    (State.turnAway s ld k tag).now = s.now ∧ (State.turnAway s ld k tag).free = s.free ∧ (State.turnAway s ld k tag).pending = s.pending ∧ (State.turnAway s ld k tag).regs = s.regs ∧ (State.turnAway s ld k tag).ret = s.ret ∧ (State.turnAway s ld k tag).evt = s.evt ∧ (State.turnAway s ld k tag).flt = s.flt ∧ (State.turnAway s ld k tag).amap = s.amap ∧ (State.turnAway s ld k tag).mem = s.mem ∧ (State.turnAway s ld k tag).home = s.home ∧ (State.turnAway s ld k tag).ddr = s.ddr ∧ (State.turnAway s ld k tag).tier = s.tier ∧ (State.turnAway s ld k tag).dm = s.dm ∧ (State.turnAway s ld k tag).brg = s.brg ∧ (State.turnAway s ld k tag).clk = s.clk ∧ (State.turnAway s ld k tag).hsc = s.hsc ∧ (State.turnAway s ld k tag).boot = s.boot ∧ (State.turnAway s ld k tag).core = s.core ∧ (State.turnAway s ld k tag).mgmt = s.mgmt := by
  unfold State.turnAway; (repeat' split) <;> simp [State.toHost_keeps _ _ _, State.countPoison_keeps _ _]

theorem State.turnLost_keeps (s : State) (ld : ℕ) (hpa : ℕ) (k : ReqKind) (u : ℕ) :
    (State.turnLost s ld hpa k u).now = s.now ∧ (State.turnLost s ld hpa k u).free = s.free ∧ (State.turnLost s ld hpa k u).pending = s.pending ∧ (State.turnLost s ld hpa k u).regs = s.regs ∧ (State.turnLost s ld hpa k u).amap = s.amap ∧ (State.turnLost s ld hpa k u).mem = s.mem ∧ (State.turnLost s ld hpa k u).ddr = s.ddr ∧ (State.turnLost s ld hpa k u).tier = s.tier ∧ (State.turnLost s ld hpa k u).dm = s.dm ∧ (State.turnLost s ld hpa k u).brg = s.brg ∧ (State.turnLost s ld hpa k u).clk = s.clk ∧ (State.turnLost s ld hpa k u).hsc = s.hsc ∧ (State.turnLost s ld hpa k u).boot = s.boot ∧ (State.turnLost s ld hpa k u).core = s.core ∧ (State.turnLost s ld hpa k u).mgmt = s.mgmt := by
  unfold State.turnLost; (repeat' split) <;> simp [State.discardLine_keeps _ _ _]

theorem State.memArrives_keeps (s : State) (l : ℕ) (ld : ℕ) (hpa : ℕ) (k : ReqKind) (tag : ℕ) :
    (State.memArrives s l ld hpa k tag).now = s.now ∧ (State.memArrives s l ld hpa k tag).pending = s.pending ∧ (State.memArrives s l ld hpa k tag).dm = s.dm ∧ (State.memArrives s l ld hpa k tag).brg = s.brg ∧ (State.memArrives s l ld hpa k tag).clk = s.clk ∧ (State.memArrives s l ld hpa k tag).hsc = s.hsc ∧ (State.memArrives s l ld hpa k tag).boot = s.boot ∧ (State.memArrives s l ld hpa k tag).core = s.core := by
  unfold State.memArrives; extract_lets; (repeat' split) <;> simp_all +zetaDelta [State.tagging_keeps _ _, State.arriveOn_keeps _ _, State.count_keeps _ _ _ _, State.turnAway_keeps _ _ _ _, State.turnLost_keeps _ _ _ _ _, State.raiseLink_keeps _ _ _ _ _, State.raiseHs_keeps _ _ _ _ _ _, State.enlist_keeps _ _ _ _ _ _ _, State.readData_keeps _ _ _]

theorem State.memCommand_keeps (s : State) (l : Fin 16) (ld : Fin 64) (hpa : BitVec 64) (k : ReqKind) (tag : ℕ) :
    (State.memCommand s l ld hpa k tag).now = s.now ∧ (State.memCommand s l ld hpa k tag).pending = s.pending ∧ (State.memCommand s l ld hpa k tag).dm = s.dm ∧ (State.memCommand s l ld hpa k tag).brg = s.brg ∧ (State.memCommand s l ld hpa k tag).clk = s.clk ∧ (State.memCommand s l ld hpa k tag).hsc = s.hsc ∧ (State.memCommand s l ld hpa k tag).boot = s.boot ∧ (State.memCommand s l ld hpa k tag).core = s.core := by
  unfold State.memCommand; simp [State.memArrives_keeps _ _ _ _ _ _]

theorem State.sliceError_keeps (s : State) (line : ℕ) (e : SliceError) :
    (State.sliceError s line e).now = s.now ∧ (State.sliceError s line e).pending = s.pending ∧ (State.sliceError s line e).regs = s.regs ∧ (State.sliceError s line e).dm = s.dm ∧ (State.sliceError s line e).brg = s.brg ∧ (State.sliceError s line e).clk = s.clk ∧ (State.sliceError s line e).hsc = s.hsc ∧ (State.sliceError s line e).boot = s.boot ∧ (State.sliceError s line e).core = s.core ∧ (State.sliceError s line e).mgmt = s.mgmt := by
  unfold State.sliceError; (repeat' split) <;> simp [State.filterError_keeps _ _, State.fileP_keeps _ _ _ _, State.metaError_keeps _ _ _ _ _, State.loadKey_keeps _ _ _]

theorem State.meetsError_keeps (s : State) (l : ℕ) (ld : ℕ) (hpa : ℕ) (err : Option SliceError) :
    (State.meetsError s l ld hpa err).now = s.now ∧ (State.meetsError s l ld hpa err).pending = s.pending ∧ (State.meetsError s l ld hpa err).regs = s.regs ∧ (State.meetsError s l ld hpa err).dm = s.dm ∧ (State.meetsError s l ld hpa err).brg = s.brg ∧ (State.meetsError s l ld hpa err).clk = s.clk ∧ (State.meetsError s l ld hpa err).hsc = s.hsc ∧ (State.meetsError s l ld hpa err).boot = s.boot ∧ (State.meetsError s l ld hpa err).core = s.core ∧ (State.meetsError s l ld hpa err).mgmt = s.mgmt := by
  unfold State.meetsError; (repeat' split) <;> simp [State.sliceError_keeps _ _ _]

theorem State.sendUr_keeps (s : State) (l : ℕ) (ld : ℕ) (tag : ℕ) (addr : ℕ) (posted : Bool) :
    (State.sendUr s l ld tag addr posted).now = s.now ∧ (State.sendUr s l ld tag addr posted).free = s.free ∧ (State.sendUr s l ld tag addr posted).pending = s.pending ∧ (State.sendUr s l ld tag addr posted).regs = s.regs ∧ (State.sendUr s l ld tag addr posted).flt = s.flt ∧ (State.sendUr s l ld tag addr posted).amap = s.amap ∧ (State.sendUr s l ld tag addr posted).mem = s.mem ∧ (State.sendUr s l ld tag addr posted).home = s.home ∧ (State.sendUr s l ld tag addr posted).ddr = s.ddr ∧ (State.sendUr s l ld tag addr posted).tier = s.tier ∧ (State.sendUr s l ld tag addr posted).dm = s.dm ∧ (State.sendUr s l ld tag addr posted).brg = s.brg ∧ (State.sendUr s l ld tag addr posted).clk = s.clk ∧ (State.sendUr s l ld tag addr posted).hsc = s.hsc ∧ (State.sendUr s l ld tag addr posted).boot = s.boot ∧ (State.sendUr s l ld tag addr posted).core = s.core ∧ (State.sendUr s l ld tag addr posted).mgmt = s.mgmt := by
  unfold State.sendUr; simp [State.raiseLink_keeps _ _ _ _ _, State.toHost_keeps _ _ _]

theorem State.snoopTimeout_keeps (s : State) (a : ℕ) (line : ℕ) :
    (State.snoopTimeout s a line).now = s.now ∧ (State.snoopTimeout s a line).pending = s.pending ∧ (State.snoopTimeout s a line).dm = s.dm ∧ (State.snoopTimeout s a line).brg = s.brg ∧ (State.snoopTimeout s a line).clk = s.clk ∧ (State.snoopTimeout s a line).hsc = s.hsc ∧ (State.snoopTimeout s a line).boot = s.boot ∧ (State.snoopTimeout s a line).core = s.core := by
  unfold State.snoopTimeout; simp [State.raiseHs_keeps _ _ _ _ _ _, State.restLink_keeps _ _, State.agentsGone_keeps _ _]

end Sys2Proof.Machine
end

