-- ==== Sys2Proof/Laws/FabricCmdsKeeps.lean ====
section
/-! SUPPORT. Which fields of the state the operations of FabricCmds leave as they are: a proof
over the operation `State.op` gives simp its lemma `State.op_keeps _ _`. -/

namespace Sys2Proof.Machine

theorem State.repairLanes_keeps (s : State) (e : ℕ) (r : LaneResult) :
    (State.repairLanes s e r).now = s.now ∧ (State.repairLanes s e r).free = s.free ∧ (State.repairLanes s e r).pending = s.pending ∧ (State.repairLanes s e r).regs = s.regs ∧ (State.repairLanes s e r).flt = s.flt ∧ (State.repairLanes s e r).amap = s.amap ∧ (State.repairLanes s e r).mem = s.mem ∧ (State.repairLanes s e r).home = s.home ∧ (State.repairLanes s e r).ddr = s.ddr ∧ (State.repairLanes s e r).tier = s.tier ∧ (State.repairLanes s e r).dm = s.dm ∧ (State.repairLanes s e r).brg = s.brg ∧ (State.repairLanes s e r).clk = s.clk ∧ (State.repairLanes s e r).hsc = s.hsc ∧ (State.repairLanes s e r).boot = s.boot ∧ (State.repairLanes s e r).core = s.core ∧ (State.repairLanes s e r).mgmt = s.mgmt := by
  unfold State.repairLanes; simp [State.onMod_keeps _ _ _, State.raiseDlnk_keeps _ _ _ _]

theorem State.setLane_keeps (s : State) (e : ℕ) (rate : ℕ) (w : ℕ) :
    (State.setLane s e rate w).now = s.now ∧ (State.setLane s e rate w).free = s.free ∧ (State.setLane s e rate w).pending = s.pending ∧ (State.setLane s e rate w).out = s.out ∧ (State.setLane s e rate w).regs = s.regs ∧ (State.setLane s e rate w).ret = s.ret ∧ (State.setLane s e rate w).evt = s.evt ∧ (State.setLane s e rate w).flt = s.flt ∧ (State.setLane s e rate w).obs = s.obs ∧ (State.setLane s e rate w).host = s.host ∧ (State.setLane s e rate w).amap = s.amap ∧ (State.setLane s e rate w).mem = s.mem ∧ (State.setLane s e rate w).home = s.home ∧ (State.setLane s e rate w).ddr = s.ddr ∧ (State.setLane s e rate w).tier = s.tier ∧ (State.setLane s e rate w).dm = s.dm ∧ (State.setLane s e rate w).brg = s.brg ∧ (State.setLane s e rate w).clk = s.clk ∧ (State.setLane s e rate w).hsc = s.hsc ∧ (State.setLane s e rate w).boot = s.boot ∧ (State.setLane s e rate w).core = s.core ∧ (State.setLane s e rate w).mgmt = s.mgmt := by
  unfold State.setLane; simp [State.onMod_keeps _ _ _]

theorem State.setBoth_keeps (s : State) (e : ℕ) (rate : ℕ) (w : ℕ) :
    (State.setBoth s e rate w).now = s.now ∧ (State.setBoth s e rate w).free = s.free ∧ (State.setBoth s e rate w).pending = s.pending ∧ (State.setBoth s e rate w).out = s.out ∧ (State.setBoth s e rate w).regs = s.regs ∧ (State.setBoth s e rate w).ret = s.ret ∧ (State.setBoth s e rate w).evt = s.evt ∧ (State.setBoth s e rate w).flt = s.flt ∧ (State.setBoth s e rate w).obs = s.obs ∧ (State.setBoth s e rate w).host = s.host ∧ (State.setBoth s e rate w).amap = s.amap ∧ (State.setBoth s e rate w).mem = s.mem ∧ (State.setBoth s e rate w).home = s.home ∧ (State.setBoth s e rate w).ddr = s.ddr ∧ (State.setBoth s e rate w).tier = s.tier ∧ (State.setBoth s e rate w).dm = s.dm ∧ (State.setBoth s e rate w).brg = s.brg ∧ (State.setBoth s e rate w).clk = s.clk ∧ (State.setBoth s e rate w).hsc = s.hsc ∧ (State.setBoth s e rate w).boot = s.boot ∧ (State.setBoth s e rate w).core = s.core ∧ (State.setBoth s e rate w).mgmt = s.mgmt := by
  unfold State.setBoth; (repeat' split) <;> simp [State.setLane_keeps _ _ _ _]

theorem State.rateFailed_keeps (s : State) (e : ℕ) (rate : ℕ) :
    (State.rateFailed s e rate).now = s.now ∧ (State.rateFailed s e rate).free = s.free ∧ (State.rateFailed s e rate).pending = s.pending ∧ (State.rateFailed s e rate).regs = s.regs ∧ (State.rateFailed s e rate).flt = s.flt ∧ (State.rateFailed s e rate).amap = s.amap ∧ (State.rateFailed s e rate).mem = s.mem ∧ (State.rateFailed s e rate).home = s.home ∧ (State.rateFailed s e rate).ddr = s.ddr ∧ (State.rateFailed s e rate).tier = s.tier ∧ (State.rateFailed s e rate).dm = s.dm ∧ (State.rateFailed s e rate).brg = s.brg ∧ (State.rateFailed s e rate).clk = s.clk ∧ (State.rateFailed s e rate).hsc = s.hsc ∧ (State.rateFailed s e rate).boot = s.boot ∧ (State.rateFailed s e rate).core = s.core ∧ (State.rateFailed s e rate).mgmt = s.mgmt := by
  unfold State.rateFailed; simp [State.retireMod_keeps _ _ _, State.onMod_keeps _ _ _]

theorem State.trained_keeps (s : State) (e : ℕ) (r : LaneResult) :
    (State.trained s e r).now = s.now ∧ (State.trained s e r).free = s.free ∧ (State.trained s e r).pending = s.pending ∧ (State.trained s e r).regs = s.regs ∧ (State.trained s e r).flt = s.flt ∧ (State.trained s e r).amap = s.amap ∧ (State.trained s e r).mem = s.mem ∧ (State.trained s e r).home = s.home ∧ (State.trained s e r).ddr = s.ddr ∧ (State.trained s e r).tier = s.tier ∧ (State.trained s e r).dm = s.dm ∧ (State.trained s e r).brg = s.brg ∧ (State.trained s e r).clk = s.clk ∧ (State.trained s e r).hsc = s.hsc ∧ (State.trained s e r).boot = s.boot ∧ (State.trained s e r).core = s.core ∧ (State.trained s e r).mgmt = s.mgmt := by
  obtain ⟨P, hP⟩ : ∃ P : State → Prop, P = fun x => x.now = s.now ∧ x.free = s.free ∧ x.pending = s.pending ∧ x.regs = s.regs ∧ x.flt = s.flt ∧ x.amap = s.amap ∧ x.mem = s.mem ∧ x.home = s.home ∧ x.ddr = s.ddr ∧ x.tier = s.tier ∧ x.dm = s.dm ∧ x.brg = s.brg ∧ x.clk = s.clk ∧ x.hsc = s.hsc ∧ x.boot = s.boot ∧ x.core = s.core ∧ x.mgmt = s.mgmt := ⟨_, rfl⟩
  suffices h : P (State.trained s e r) by rw [hP] at h; exact h
  unfold State.trained; (try dsimp only); (repeat' split) <;> skip <;> subst hP <;> simp_all [State.repairLanes_keeps _ _ _, State.onMod_keeps _ _ _, State.sendParam_keeps _ _, State.degraded_keeps _ _, State.setBoth_keeps _ _ _ _, State.rateFailed_keeps _ _ _]

theorem State.noteParam_keeps (s : State) (e : ℕ) (p : Params) :
    (State.noteParam s e p).now = s.now ∧ (State.noteParam s e p).free = s.free ∧ (State.noteParam s e p).pending = s.pending ∧ (State.noteParam s e p).out = s.out ∧ (State.noteParam s e p).regs = s.regs ∧ (State.noteParam s e p).ret = s.ret ∧ (State.noteParam s e p).evt = s.evt ∧ (State.noteParam s e p).flt = s.flt ∧ (State.noteParam s e p).obs = s.obs ∧ (State.noteParam s e p).host = s.host ∧ (State.noteParam s e p).amap = s.amap ∧ (State.noteParam s e p).mem = s.mem ∧ (State.noteParam s e p).home = s.home ∧ (State.noteParam s e p).ddr = s.ddr ∧ (State.noteParam s e p).tier = s.tier ∧ (State.noteParam s e p).dm = s.dm ∧ (State.noteParam s e p).clk = s.clk ∧ (State.noteParam s e p).hsc = s.hsc ∧ (State.noteParam s e p).boot = s.boot ∧ (State.noteParam s e p).core = s.core ∧ (State.noteParam s e p).mgmt = s.mgmt := by
  unfold State.noteParam; simp [State.onMod_keeps _ _ _, State.setBoth_keeps _ _ _ _]

theorem State.takeParam_keeps (s : State) (e : ℕ) (p : Params) :
    (State.takeParam s e p).now = s.now ∧ (State.takeParam s e p).free = s.free ∧ (State.takeParam s e p).pending = s.pending ∧ (State.takeParam s e p).regs = s.regs ∧ (State.takeParam s e p).flt = s.flt ∧ (State.takeParam s e p).amap = s.amap ∧ (State.takeParam s e p).mem = s.mem ∧ (State.takeParam s e p).home = s.home ∧ (State.takeParam s e p).ddr = s.ddr ∧ (State.takeParam s e p).tier = s.tier ∧ (State.takeParam s e p).dm = s.dm ∧ (State.takeParam s e p).clk = s.clk ∧ (State.takeParam s e p).hsc = s.hsc ∧ (State.takeParam s e p).boot = s.boot ∧ (State.takeParam s e p).core = s.core ∧ (State.takeParam s e p).mgmt = s.mgmt := by
  unfold State.takeParam; simp [State.noteParam_keeps _ _ _, State.onMod_keeps _ _ _, State.sendCredit_keeps _ _, State.degraded_keeps _ _, State.retireMod_keeps _ _ _, State.tryResetDone_keeps _ _]

theorem State.takeCredit_keeps (s : State) (e : ℕ) (adv : List ℕ) :
    (State.takeCredit s e adv).now = s.now ∧ (State.takeCredit s e adv).free = s.free ∧ (State.takeCredit s e adv).pending = s.pending ∧ (State.takeCredit s e adv).regs = s.regs ∧ (State.takeCredit s e adv).flt = s.flt ∧ (State.takeCredit s e adv).amap = s.amap ∧ (State.takeCredit s e adv).mem = s.mem ∧ (State.takeCredit s e adv).home = s.home ∧ (State.takeCredit s e adv).ddr = s.ddr ∧ (State.takeCredit s e adv).tier = s.tier ∧ (State.takeCredit s e adv).dm = s.dm ∧ (State.takeCredit s e adv).clk = s.clk ∧ (State.takeCredit s e adv).hsc = s.hsc ∧ (State.takeCredit s e adv).boot = s.boot ∧ (State.takeCredit s e adv).core = s.core ∧ (State.takeCredit s e adv).mgmt = s.mgmt := by
  unfold State.takeCredit; simp [State.onMod_keeps _ _ _, State.modUp_keeps _ _, State.retireMod_keeps _ _ _, State.raiseDlnk_keeps _ _ _ _, State.tryResetDone_keeps _ _]

theorem State.takeCtl_keeps (s : State) (e : ℕ) (f : BitVec 512) :
    (State.takeCtl s e f).now = s.now ∧ (State.takeCtl s e f).free = s.free ∧ (State.takeCtl s e f).pending = s.pending ∧ (State.takeCtl s e f).regs = s.regs ∧ (State.takeCtl s e f).flt = s.flt ∧ (State.takeCtl s e f).amap = s.amap ∧ (State.takeCtl s e f).mem = s.mem ∧ (State.takeCtl s e f).home = s.home ∧ (State.takeCtl s e f).ddr = s.ddr ∧ (State.takeCtl s e f).tier = s.tier ∧ (State.takeCtl s e f).dm = s.dm ∧ (State.takeCtl s e f).clk = s.clk ∧ (State.takeCtl s e f).hsc = s.hsc ∧ (State.takeCtl s e f).boot = s.boot ∧ (State.takeCtl s e f).core = s.core ∧ (State.takeCtl s e f).mgmt = s.mgmt := by
  unfold State.takeCtl; (repeat' split) <;> simp [State.takeAck_keeps _ _ _ _ _, State.takeReplayStart_keeps _ _ _, State.takeParam_keeps _ _ _, State.takeCredit_keeps _ _ _, State.takeReq_keeps _ _ _ _, State.protoError_keeps _ _, State.takeRsp_keeps _ _ _]

theorem State.retrainDone_keeps (s : State) (e : ℕ) (r : LaneResult) :
    (State.retrainDone s e r).now = s.now ∧ (State.retrainDone s e r).free = s.free ∧ (State.retrainDone s e r).pending = s.pending ∧ (State.retrainDone s e r).regs = s.regs ∧ (State.retrainDone s e r).flt = s.flt ∧ (State.retrainDone s e r).amap = s.amap ∧ (State.retrainDone s e r).mem = s.mem ∧ (State.retrainDone s e r).home = s.home ∧ (State.retrainDone s e r).ddr = s.ddr ∧ (State.retrainDone s e r).tier = s.tier ∧ (State.retrainDone s e r).dm = s.dm ∧ (State.retrainDone s e r).clk = s.clk ∧ (State.retrainDone s e r).hsc = s.hsc ∧ (State.retrainDone s e r).boot = s.boot ∧ (State.retrainDone s e r).core = s.core ∧ (State.retrainDone s e r).mgmt = s.mgmt := by
  obtain ⟨P, hP⟩ : ∃ P : State → Prop, P = fun x => x.now = s.now ∧ x.free = s.free ∧ x.pending = s.pending ∧ x.regs = s.regs ∧ x.flt = s.flt ∧ x.amap = s.amap ∧ x.mem = s.mem ∧ x.home = s.home ∧ x.ddr = s.ddr ∧ x.tier = s.tier ∧ x.dm = s.dm ∧ x.clk = s.clk ∧ x.hsc = s.hsc ∧ x.boot = s.boot ∧ x.core = s.core ∧ x.mgmt = s.mgmt := ⟨_, rfl⟩
  suffices h : P (State.retrainDone s e r) by rw [hP] at h; exact h
  unfold State.retrainDone; (try dsimp only); (repeat' split) <;> subst hP <;> simp_all [State.repairLanes_keeps _ _ _, State.retireMod_keeps _ _ _, State.setBoth_keeps _ _ _ _, State.onMod_keeps _ _ _, State.tryResetDone_keeps _ _, State.sendCtl_keeps _ _ _ _, State.sendParam_keeps _ _]

theorem State.changeDone_keeps (s : State) (e : ℕ) (ch : LinkChange) :
    (State.changeDone s e ch).now = s.now ∧ (State.changeDone s e ch).free = s.free ∧ (State.changeDone s e ch).pending = s.pending ∧ (State.changeDone s e ch).regs = s.regs ∧ (State.changeDone s e ch).flt = s.flt ∧ (State.changeDone s e ch).amap = s.amap ∧ (State.changeDone s e ch).mem = s.mem ∧ (State.changeDone s e ch).home = s.home ∧ (State.changeDone s e ch).ddr = s.ddr ∧ (State.changeDone s e ch).tier = s.tier ∧ (State.changeDone s e ch).dm = s.dm ∧ (State.changeDone s e ch).clk = s.clk ∧ (State.changeDone s e ch).hsc = s.hsc ∧ (State.changeDone s e ch).boot = s.boot ∧ (State.changeDone s e ch).core = s.core ∧ (State.changeDone s e ch).mgmt = s.mgmt := by
  unfold State.changeDone; (repeat' split) <;> simp [State.onMod_keeps _ _ _, State.goesOn_keeps _ _, State.setBoth_keeps _ _ _ _]

theorem State.dlnkCtrl_keeps (s : State) (m : Master) (e : ℕ) (cmd : ℕ) :
    (State.dlnkCtrl s m e cmd).pending = s.pending ∧ (State.dlnkCtrl s m e cmd).core = s.core := by
  unfold State.dlnkCtrl; simp [State.dlnkCmd_keeps _ _ _]

theorem State.brgTurn_keeps (s : State) (a : ℕ) (tag : ℕ) (line : ℕ) (k : ReqKind) :
    (State.brgTurn s a tag line k).now = s.now ∧ (State.brgTurn s a tag line k).free = s.free ∧ (State.brgTurn s a tag line k).pending = s.pending ∧ (State.brgTurn s a tag line k).regs = s.regs ∧ (State.brgTurn s a tag line k).ret = s.ret ∧ (State.brgTurn s a tag line k).evt = s.evt ∧ (State.brgTurn s a tag line k).flt = s.flt ∧ (State.brgTurn s a tag line k).host = s.host ∧ (State.brgTurn s a tag line k).amap = s.amap ∧ (State.brgTurn s a tag line k).mem = s.mem ∧ (State.brgTurn s a tag line k).home = s.home ∧ (State.brgTurn s a tag line k).ddr = s.ddr ∧ (State.brgTurn s a tag line k).tier = s.tier ∧ (State.brgTurn s a tag line k).dm = s.dm ∧ (State.brgTurn s a tag line k).brg = s.brg ∧ (State.brgTurn s a tag line k).clk = s.clk ∧ (State.brgTurn s a tag line k).hsc = s.hsc ∧ (State.brgTurn s a tag line k).boot = s.boot ∧ (State.brgTurn s a tag line k).core = s.core ∧ (State.brgTurn s a tag line k).mgmt = s.mgmt := by
  unfold State.brgTurn; (repeat' split) <;> simp [State.emit_keeps _ _]

theorem State.brgLostWrite_keeps (s : State) (line : ℕ) (k : ReqKind) :
    (State.brgLostWrite s line k).now = s.now ∧ (State.brgLostWrite s line k).free = s.free ∧ (State.brgLostWrite s line k).pending = s.pending ∧ (State.brgLostWrite s line k).regs = s.regs ∧ (State.brgLostWrite s line k).amap = s.amap ∧ (State.brgLostWrite s line k).mem = s.mem ∧ (State.brgLostWrite s line k).ddr = s.ddr ∧ (State.brgLostWrite s line k).tier = s.tier ∧ (State.brgLostWrite s line k).dm = s.dm ∧ (State.brgLostWrite s line k).brg = s.brg ∧ (State.brgLostWrite s line k).clk = s.clk ∧ (State.brgLostWrite s line k).hsc = s.hsc ∧ (State.brgLostWrite s line k).boot = s.boot ∧ (State.brgLostWrite s line k).core = s.core ∧ (State.brgLostWrite s line k).mgmt = s.mgmt := by
  unfold State.brgLostWrite; simp [State.discardLine_keeps _ _ _]

theorem State.brgRequest_keeps (s : State) (a : ℕ) (tag : ℕ) (line : ℕ) (k : ReqKind) (caching : Bool) (cred : Bool) :
    (State.brgRequest s a tag line k caching cred).now = s.now ∧ (State.brgRequest s a tag line k caching cred).pending = s.pending ∧ (State.brgRequest s a tag line k caching cred).dm = s.dm ∧ (State.brgRequest s a tag line k caching cred).brg = s.brg ∧ (State.brgRequest s a tag line k caching cred).clk = s.clk ∧ (State.brgRequest s a tag line k caching cred).hsc = s.hsc ∧ (State.brgRequest s a tag line k caching cred).boot = s.boot ∧ (State.brgRequest s a tag line k caching cred).core = s.core := by
  unfold State.brgRequest; simp [State.tagging_keeps _ _, State.raiseHs_keeps _ _ _ _ _ _, State.brgTurn_keeps _ _ _ _ _, State.brgLostWrite_keeps _ _ _, State.raise_keeps _ _, State.enlist_keeps _ _ _ _ _ _ _]

theorem State.snoopData_keeps (s : State) (a : ℕ) (line : ℕ) (keep : SnpKeep) (d : Line) :
    (State.snoopData s a line keep d).now = s.now ∧ (State.snoopData s a line keep d).pending = s.pending ∧ (State.snoopData s a line keep d).dm = s.dm ∧ (State.snoopData s a line keep d).brg = s.brg ∧ (State.snoopData s a line keep d).clk = s.clk ∧ (State.snoopData s a line keep d).hsc = s.hsc ∧ (State.snoopData s a line keep d).boot = s.boot ∧ (State.snoopData s a line keep d).core = s.core := by
  obtain ⟨P, hP⟩ : ∃ P : State → Prop, P = fun x => x.now = s.now ∧ x.pending = s.pending ∧ x.dm = s.dm ∧ x.brg = s.brg ∧ x.clk = s.clk ∧ x.hsc = s.hsc ∧ x.boot = s.boot ∧ x.core = s.core := ⟨_, rfl⟩
  suffices h : P (State.snoopData s a line keep d) by rw [hP] at h; exact h
  unfold State.snoopData; (try dsimp only); (repeat' split) <;> (try have := State.sfGo_keeps _ _ _ ‹State.sfGo _ _ _ = some _›) <;> subst hP <;> simp_all [State.runLine_keeps _ _]

theorem State.snpAnswer_keeps (s : State) (ag : ℕ) (line : ℕ) (keep : SnpKeep) (data : Option Line) :
    (State.snpAnswer s ag line keep data).now = s.now ∧ (State.snpAnswer s ag line keep data).pending = s.pending ∧ (State.snpAnswer s ag line keep data).dm = s.dm ∧ (State.snpAnswer s ag line keep data).brg = s.brg ∧ (State.snpAnswer s ag line keep data).clk = s.clk ∧ (State.snpAnswer s ag line keep data).hsc = s.hsc ∧ (State.snpAnswer s ag line keep data).boot = s.boot ∧ (State.snpAnswer s ag line keep data).core = s.core := by
  unfold State.snpAnswer; (repeat' split) <;> simp [State.snoopData_keeps _ _ _ _ _, State.answered_keeps _ _ _ _]

theorem State.snpConflict_keeps (s : State) (ag : ℕ) (line : ℕ) :
    (State.snpConflict s ag line).now = s.now ∧ (State.snpConflict s ag line).free = s.free ∧ (State.snpConflict s ag line).pending = s.pending ∧ (State.snpConflict s ag line).regs = s.regs ∧ (State.snpConflict s ag line).ret = s.ret ∧ (State.snpConflict s ag line).evt = s.evt ∧ (State.snpConflict s ag line).flt = s.flt ∧ (State.snpConflict s ag line).host = s.host ∧ (State.snpConflict s ag line).amap = s.amap ∧ (State.snpConflict s ag line).mem = s.mem ∧ (State.snpConflict s ag line).home = s.home ∧ (State.snpConflict s ag line).ddr = s.ddr ∧ (State.snpConflict s ag line).tier = s.tier ∧ (State.snpConflict s ag line).dm = s.dm ∧ (State.snpConflict s ag line).brg = s.brg ∧ (State.snpConflict s ag line).clk = s.clk ∧ (State.snpConflict s ag line).hsc = s.hsc ∧ (State.snpConflict s ag line).boot = s.boot ∧ (State.snpConflict s ag line).core = s.core ∧ (State.snpConflict s ag line).mgmt = s.mgmt := by
  unfold State.snpConflict; simp [State.emit_keeps _ _]

theorem State.brgEvent_keeps (s : State) (k : ℕ) (payload : ℕ) :
    (State.brgEvent s k payload).now = s.now ∧ (State.brgEvent s k payload).free = s.free ∧ (State.brgEvent s k payload).pending = s.pending ∧ (State.brgEvent s k payload).regs = s.regs ∧ (State.brgEvent s k payload).flt = s.flt ∧ (State.brgEvent s k payload).amap = s.amap ∧ (State.brgEvent s k payload).mem = s.mem ∧ (State.brgEvent s k payload).home = s.home ∧ (State.brgEvent s k payload).ddr = s.ddr ∧ (State.brgEvent s k payload).tier = s.tier ∧ (State.brgEvent s k payload).dm = s.dm ∧ (State.brgEvent s k payload).brg = s.brg ∧ (State.brgEvent s k payload).clk = s.clk ∧ (State.brgEvent s k payload).hsc = s.hsc ∧ (State.brgEvent s k payload).boot = s.boot ∧ (State.brgEvent s k payload).core = s.core ∧ (State.brgEvent s k payload).mgmt = s.mgmt := by
  unfold State.brgEvent; simp [State.raise_keeps _ _]

theorem State.forward_keeps (s : State) (l : List FwdPiece) :
    (State.forward s l).now = s.now ∧ (State.forward s l).free = s.free ∧ (State.forward s l).pending = s.pending ∧ (State.forward s l).regs = s.regs ∧ (State.forward s l).ret = s.ret ∧ (State.forward s l).evt = s.evt ∧ (State.forward s l).flt = s.flt ∧ (State.forward s l).host = s.host ∧ (State.forward s l).amap = s.amap ∧ (State.forward s l).mem = s.mem ∧ (State.forward s l).home = s.home ∧ (State.forward s l).ddr = s.ddr ∧ (State.forward s l).tier = s.tier ∧ (State.forward s l).dm = s.dm ∧ (State.forward s l).clk = s.clk ∧ (State.forward s l).hsc = s.hsc ∧ (State.forward s l).boot = s.boot ∧ (State.forward s l).core = s.core ∧ (State.forward s l).mgmt = s.mgmt := by
  unfold State.forward; simp [State.fwdTimers_keeps _, State.pumpFwd_keeps _ _]

theorem State.carryPieces_keeps (s : State) (l : ℕ) (ld : ℕ) (slots : ℕ) (n : ℕ) :
    (State.carryPieces s l ld slots n).now = s.now ∧ (State.carryPieces s l ld slots n).free = s.free ∧ (State.carryPieces s l ld slots n).pending = s.pending ∧ (State.carryPieces s l ld slots n).out = s.out ∧ (State.carryPieces s l ld slots n).regs = s.regs ∧ (State.carryPieces s l ld slots n).ret = s.ret ∧ (State.carryPieces s l ld slots n).evt = s.evt ∧ (State.carryPieces s l ld slots n).flt = s.flt ∧ (State.carryPieces s l ld slots n).host = s.host ∧ (State.carryPieces s l ld slots n).amap = s.amap ∧ (State.carryPieces s l ld slots n).mem = s.mem ∧ (State.carryPieces s l ld slots n).home = s.home ∧ (State.carryPieces s l ld slots n).ddr = s.ddr ∧ (State.carryPieces s l ld slots n).tier = s.tier ∧ (State.carryPieces s l ld slots n).dm = s.dm ∧ (State.carryPieces s l ld slots n).brg = s.brg ∧ (State.carryPieces s l ld slots n).clk = s.clk ∧ (State.carryPieces s l ld slots n).hsc = s.hsc ∧ (State.carryPieces s l ld slots n).boot = s.boot ∧ (State.carryPieces s l ld slots n).core = s.core ∧ (State.carryPieces s l ld slots n).mgmt = s.mgmt := by
  unfold State.carryPieces; simp [State.carry_keeps _ _ _]

theorem State.fwdComplete_keeps (s : State) (ld : ℕ) (htag : ℕ) :
    (State.fwdComplete s ld htag).now = s.now ∧ (State.fwdComplete s ld htag).free = s.free ∧ (State.fwdComplete s ld htag).pending = s.pending ∧ (State.fwdComplete s ld htag).regs = s.regs ∧ (State.fwdComplete s ld htag).ret = s.ret ∧ (State.fwdComplete s ld htag).evt = s.evt ∧ (State.fwdComplete s ld htag).flt = s.flt ∧ (State.fwdComplete s ld htag).amap = s.amap ∧ (State.fwdComplete s ld htag).mem = s.mem ∧ (State.fwdComplete s ld htag).home = s.home ∧ (State.fwdComplete s ld htag).ddr = s.ddr ∧ (State.fwdComplete s ld htag).tier = s.tier ∧ (State.fwdComplete s ld htag).dm = s.dm ∧ (State.fwdComplete s ld htag).clk = s.clk ∧ (State.fwdComplete s ld htag).hsc = s.hsc ∧ (State.fwdComplete s ld htag).boot = s.boot ∧ (State.fwdComplete s ld htag).core = s.core ∧ (State.fwdComplete s ld htag).mgmt = s.mgmt := by
  unfold State.fwdComplete; simp [State.toHost_keeps _ _ _]

theorem State.fwdAnswer_keeps (s : State) (tag : ℕ) (data : Line) (err : Bool) :
    (State.fwdAnswer s tag data err).now = s.now ∧ (State.fwdAnswer s tag data err).free = s.free ∧ (State.fwdAnswer s tag data err).pending = s.pending ∧ (State.fwdAnswer s tag data err).regs = s.regs ∧ (State.fwdAnswer s tag data err).flt = s.flt ∧ (State.fwdAnswer s tag data err).amap = s.amap ∧ (State.fwdAnswer s tag data err).mem = s.mem ∧ (State.fwdAnswer s tag data err).home = s.home ∧ (State.fwdAnswer s tag data err).ddr = s.ddr ∧ (State.fwdAnswer s tag data err).tier = s.tier ∧ (State.fwdAnswer s tag data err).dm = s.dm ∧ (State.fwdAnswer s tag data err).clk = s.clk ∧ (State.fwdAnswer s tag data err).hsc = s.hsc ∧ (State.fwdAnswer s tag data err).boot = s.boot ∧ (State.fwdAnswer s tag data err).core = s.core ∧ (State.fwdAnswer s tag data err).mgmt = s.mgmt := by
  unfold State.fwdAnswer; (repeat' split) <;> simp [State.fwdAbort_keeps _ _ _ _, State.fwdComplete_keeps _ _ _]

end Sys2Proof.Machine
end

