-- ==== Sys2Proof/Laws/PowerKeeps.lean ====
section
/-! SUPPORT. Which fields of the state the operations of Power leave as they are: a proof
over the operation `State.op` gives simp its lemma `State.op_keeps _ _`. -/

namespace Sys2Proof.Machine

theorem State.auxLost_keeps (s : State) :
    (State.auxLost s).now = s.now ∧ (State.auxLost s).pending = s.pending := by
  unfold State.auxLost; simp [State.tornWrites_keeps _, State.onHsc_keeps _ _, State.coldClear_keeps _, State.onBoot_keeps _ _]

theorem State.rampLate_keeps (s : State) :
    (State.rampLate s).free = s.free ∧ (State.rampLate s).pending = s.pending ∧ (State.rampLate s).regs = s.regs ∧ (State.rampLate s).amap = s.amap ∧ (State.rampLate s).mem = s.mem ∧ (State.rampLate s).home = s.home ∧ (State.rampLate s).ddr = s.ddr ∧ (State.rampLate s).tier = s.tier ∧ (State.rampLate s).dm = s.dm ∧ (State.rampLate s).brg = s.brg ∧ (State.rampLate s).clk = s.clk ∧ (State.rampLate s).boot = s.boot ∧ (State.rampLate s).core = s.core ∧ (State.rampLate s).mgmt = s.mgmt := by
  unfold State.rampLate; simp [State.trip_keeps _ _, State.reach_keeps _ _]

theorem State.offLate_keeps (s : State) :
    (State.offLate s).free = s.free ∧ (State.offLate s).pending = s.pending ∧ (State.offLate s).regs = s.regs ∧ (State.offLate s).amap = s.amap ∧ (State.offLate s).mem = s.mem ∧ (State.offLate s).home = s.home ∧ (State.offLate s).ddr = s.ddr ∧ (State.offLate s).tier = s.tier ∧ (State.offLate s).dm = s.dm ∧ (State.offLate s).brg = s.brg ∧ (State.offLate s).clk = s.clk ∧ (State.offLate s).boot = s.boot ∧ (State.offLate s).core = s.core ∧ (State.offLate s).mgmt = s.mgmt := by
  unfold State.offLate; simp [State.damaged_keeps _, State.reach_keeps _ _]

theorem State.hscWrite_keeps (s : State) (m : Master) (op : ℕ) (vout : ℕ) :
    (State.hscWrite s m op vout).free = s.free ∧ (State.hscWrite s m op vout).pending = s.pending ∧ (State.hscWrite s m op vout).flt = s.flt ∧ (State.hscWrite s m op vout).mem = s.mem ∧ (State.hscWrite s m op vout).home = s.home ∧ (State.hscWrite s m op vout).tier = s.tier ∧ (State.hscWrite s m op vout).dm = s.dm ∧ (State.hscWrite s m op vout).boot = s.boot ∧ (State.hscWrite s m op vout).core = s.core := by
  unfold State.hscWrite; simp [State.hscOp_keeps _ _ _]

theorem State.railLate_keeps (s : State) (k : ℕ) :
    (State.railLate s k).free = s.free ∧ (State.railLate s k).pending = s.pending ∧ (State.railLate s k).core = s.core := by
  unfold State.railLate; simp [State.railFail_keeps _ _, State.reach_keeps _ _]

theorem State.rstChip_keeps (s : State) (slot : ℕ) :
    (State.rstChip s slot).now = s.now ∧ (State.rstChip s slot).pending = s.pending ∧ (State.rstChip s slot).hsc = s.hsc ∧ (State.rstChip s slot).core = s.core := by
  unfold State.rstChip; simp [State.rstResult_keeps _ _, State.recoveryReset_keeps _ _]

theorem State.rstWrite_keeps (s : State) (m : Master) (op : ℕ) (slot : ℕ) :
    (State.rstWrite s m op slot).now = s.now ∧ (State.rstWrite s m op slot).pending = s.pending := by
  unfold State.rstWrite; simp [State.rstChip_keeps _ _, State.rstOp_keeps _ _ _]

@[simp] theorem State.rstCommand_keeps (s : State) (m : Master) (op : ℕ) :
    (State.rstCommand s m op).pending = s.pending := by
  unfold State.rstCommand; simp [State.rstWrite_keeps _ _ _ _]

end Sys2Proof.Machine
end

