-- ==== Sys2Proof/Laws/FaultsKeeps.lean ====
section
/-! SUPPORT. Which fields of the state the operations of Faults leave as they are: a proof
over the operation `State.op` gives simp its lemma `State.op_keeps _ _`. -/

namespace Sys2Proof.Machine

theorem State.fcResult_keeps (s : State) (r : ℕ) :
    (State.fcResult s r).now = s.now ∧ (State.fcResult s r).free = s.free ∧ (State.fcResult s r).pending = s.pending ∧ (State.fcResult s r).out = s.out ∧ (State.fcResult s r).regs = s.regs ∧ (State.fcResult s r).ret = s.ret ∧ (State.fcResult s r).evt = s.evt ∧ (State.fcResult s r).obs = s.obs ∧ (State.fcResult s r).host = s.host ∧ (State.fcResult s r).amap = s.amap ∧ (State.fcResult s r).mem = s.mem ∧ (State.fcResult s r).home = s.home ∧ (State.fcResult s r).ddr = s.ddr ∧ (State.fcResult s r).tier = s.tier ∧ (State.fcResult s r).dm = s.dm ∧ (State.fcResult s r).dunas = s.dunas ∧ (State.fcResult s r).brg = s.brg ∧ (State.fcResult s r).clk = s.clk ∧ (State.fcResult s r).hsc = s.hsc ∧ (State.fcResult s r).boot = s.boot ∧ (State.fcResult s r).core = s.core ∧ (State.fcResult s r).mgmt = s.mgmt := by
  unfold State.fcResult; simp

theorem State.fcExitOp_keeps (s : State) (site : ℕ) :
    (State.fcExitOp s site).now = s.now ∧ (State.fcExitOp s site).pending = s.pending := by
  unfold State.fcExitOp; simp [State.fcResult_keeps _ _, State.recoverRec_keeps _ _]

theorem State.fcRecoverOp_keeps (s : State) (m : Master) (site : ℕ) :
    (State.fcRecoverOp s m site).now = s.now ∧ (State.fcRecoverOp s m site).pending = s.pending := by
  unfold State.fcRecoverOp; simp [State.fcResult_keeps _ _, State.rstOp_keeps _ _ _, State.recoverRec_keeps _ _]

theorem State.fcInjectOp_keeps (s : State) (cls : ℕ) (site : ℕ) :
    (State.fcInjectOp s cls site).now = s.now ∧ (State.fcInjectOp s cls site).pending = s.pending ∧ (State.fcInjectOp s cls site).boot = s.boot ∧ (State.fcInjectOp s cls site).core = s.core := by
  unfold State.fcInjectOp; simp [State.fcResult_keeps _ _, State.fault_keeps _ _ _ _ _ _ _]

theorem State.fcCmd_keeps (s : State) (m : Master) (op : ℕ) :
    (State.fcCmd s m op).now = s.now ∧ (State.fcCmd s m op).pending = s.pending := by
  unfold State.fcCmd; simp [State.fcExitOp_keeps _ _, State.fcRecoverOp_keeps _ _ _, State.fcInjectOp_keeps _ _ _]

@[simp] theorem State.writeFc_keeps (s : State) (m : Master) (op : ℕ) (cls : ℕ) (site : BitVec 24) :
    (State.writeFc s m op cls site).pending = s.pending := by
  unfold State.writeFc; simp [State.fcCmd_keeps _ _ _]

theorem State.clearRec_keeps (s : State) (u : ℕ) :
    (State.clearRec s u).now = s.now ∧ (State.clearRec s u).free = s.free ∧ (State.clearRec s u).pending = s.pending ∧ (State.clearRec s u).out = s.out ∧ (State.clearRec s u).regs = s.regs ∧ (State.clearRec s u).ret = s.ret ∧ (State.clearRec s u).evt = s.evt ∧ (State.clearRec s u).obs = s.obs ∧ (State.clearRec s u).host = s.host ∧ (State.clearRec s u).amap = s.amap ∧ (State.clearRec s u).mem = s.mem ∧ (State.clearRec s u).home = s.home ∧ (State.clearRec s u).ddr = s.ddr ∧ (State.clearRec s u).tier = s.tier ∧ (State.clearRec s u).dm = s.dm ∧ (State.clearRec s u).dunas = s.dunas ∧ (State.clearRec s u).brg = s.brg ∧ (State.clearRec s u).clk = s.clk ∧ (State.clearRec s u).hsc = s.hsc ∧ (State.clearRec s u).boot = s.boot ∧ (State.clearRec s u).core = s.core ∧ (State.clearRec s u).mgmt = s.mgmt := by
  unfold State.clearRec; simp [State.setRec_keeps _ _ _]

theorem State.rerunEnd_keeps (s : State) (c : ℕ) (r : TrainResult) :
    (State.rerunEnd s c r).now = s.now ∧ (State.rerunEnd s c r).pending = s.pending ∧ (State.rerunEnd s c r).flt = s.flt ∧ (State.rerunEnd s c r).amap = s.amap ∧ (State.rerunEnd s c r).mem = s.mem ∧ (State.rerunEnd s c r).home = s.home ∧ (State.rerunEnd s c r).tier = s.tier ∧ (State.rerunEnd s c r).dm = s.dm ∧ (State.rerunEnd s c r).brg = s.brg ∧ (State.rerunEnd s c r).clk = s.clk ∧ (State.rerunEnd s c r).hsc = s.hsc ∧ (State.rerunEnd s c r).boot = s.boot ∧ (State.rerunEnd s c r).core = s.core ∧ (State.rerunEnd s c r).mgmt = s.mgmt := by
  unfold State.rerunEnd; (repeat' split) <;> simp [State.onChan_keeps _ _ _, State.chanFailed_keeps _ _ _]

end Sys2Proof.Machine
end

