-- ==== Sys2Proof/Laws/SensorsKeeps.lean ====
section
/-! SUPPORT. Which fields of the state the operations of Sensors leave as they are: a proof
over the operation `State.op` gives simp its lemma `State.op_keeps _ _`. -/

namespace Sys2Proof.Machine

theorem State.onMgmt_keeps (s : State) (f : Management → Management) :
    (State.onMgmt s f).now = s.now ∧ (State.onMgmt s f).free = s.free ∧ (State.onMgmt s f).pending = s.pending ∧ (State.onMgmt s f).out = s.out ∧ (State.onMgmt s f).regs = s.regs ∧ (State.onMgmt s f).ret = s.ret ∧ (State.onMgmt s f).evt = s.evt ∧ (State.onMgmt s f).flt = s.flt ∧ (State.onMgmt s f).obs = s.obs ∧ (State.onMgmt s f).host = s.host ∧ (State.onMgmt s f).amap = s.amap ∧ (State.onMgmt s f).mem = s.mem ∧ (State.onMgmt s f).home = s.home ∧ (State.onMgmt s f).ddr = s.ddr ∧ (State.onMgmt s f).tier = s.tier ∧ (State.onMgmt s f).dm = s.dm ∧ (State.onMgmt s f).dunas = s.dunas ∧ (State.onMgmt s f).brg = s.brg ∧ (State.onMgmt s f).clk = s.clk ∧ (State.onMgmt s f).hsc = s.hsc ∧ (State.onMgmt s f).boot = s.boot ∧ (State.onMgmt s f).core = s.core := by
  unfold State.onMgmt; simp

theorem State.readDie_keeps (s : State) (n : ℕ) (t : BitVec 16) :
    (State.readDie s n t).now = s.now ∧ (State.readDie s n t).free = s.free ∧ (State.readDie s n t).pending = s.pending ∧ (State.readDie s n t).regs = s.regs ∧ (State.readDie s n t).flt = s.flt ∧ (State.readDie s n t).amap = s.amap ∧ (State.readDie s n t).mem = s.mem ∧ (State.readDie s n t).home = s.home ∧ (State.readDie s n t).ddr = s.ddr ∧ (State.readDie s n t).tier = s.tier ∧ (State.readDie s n t).dm = s.dm ∧ (State.readDie s n t).brg = s.brg ∧ (State.readDie s n t).clk = s.clk ∧ (State.readDie s n t).hsc = s.hsc ∧ (State.readDie s n t).boot = s.boot ∧ (State.readDie s n t).core = s.core := by
  unfold State.readDie; simp [State.onMgmt_keeps _ _, State.raise_keeps _ _]

theorem State.readInput_keeps (s : State) (v : BitVec 16) (i : BitVec 16) :
    (State.readInput s v i).now = s.now ∧ (State.readInput s v i).free = s.free ∧ (State.readInput s v i).pending = s.pending ∧ (State.readInput s v i).out = s.out ∧ (State.readInput s v i).regs = s.regs ∧ (State.readInput s v i).ret = s.ret ∧ (State.readInput s v i).evt = s.evt ∧ (State.readInput s v i).flt = s.flt ∧ (State.readInput s v i).obs = s.obs ∧ (State.readInput s v i).host = s.host ∧ (State.readInput s v i).amap = s.amap ∧ (State.readInput s v i).mem = s.mem ∧ (State.readInput s v i).home = s.home ∧ (State.readInput s v i).ddr = s.ddr ∧ (State.readInput s v i).tier = s.tier ∧ (State.readInput s v i).dm = s.dm ∧ (State.readInput s v i).dunas = s.dunas ∧ (State.readInput s v i).brg = s.brg ∧ (State.readInput s v i).clk = s.clk ∧ (State.readInput s v i).hsc = s.hsc ∧ (State.readInput s v i).boot = s.boot ∧ (State.readInput s v i).core = s.core := by
  unfold State.readInput; simp [State.onMgmt_keeps _ _]

theorem State.adaptCore_keeps (s : State) :
    (State.adaptCore s).now = s.now ∧ (State.adaptCore s).pending = s.pending ∧ (State.adaptCore s).regs = s.regs ∧ (State.adaptCore s).ret = s.ret ∧ (State.adaptCore s).evt = s.evt ∧ (State.adaptCore s).flt = s.flt ∧ (State.adaptCore s).host = s.host ∧ (State.adaptCore s).amap = s.amap ∧ (State.adaptCore s).mem = s.mem ∧ (State.adaptCore s).home = s.home ∧ (State.adaptCore s).ddr = s.ddr ∧ (State.adaptCore s).tier = s.tier ∧ (State.adaptCore s).dm = s.dm ∧ (State.adaptCore s).brg = s.brg ∧ (State.adaptCore s).clk = s.clk ∧ (State.adaptCore s).hsc = s.hsc ∧ (State.adaptCore s).core = s.core ∧ (State.adaptCore s).mgmt = s.mgmt := by
  unfold State.adaptCore; simp [State.takeFree_keeps _, State.setCore_keeps _ _]

theorem State.splitEnergy_keeps (s : State) (e : ℕ) :
    (State.splitEnergy s e).now = s.now ∧ (State.splitEnergy s e).free = s.free ∧ (State.splitEnergy s e).pending = s.pending ∧ (State.splitEnergy s e).out = s.out ∧ (State.splitEnergy s e).regs = s.regs ∧ (State.splitEnergy s e).ret = s.ret ∧ (State.splitEnergy s e).evt = s.evt ∧ (State.splitEnergy s e).flt = s.flt ∧ (State.splitEnergy s e).obs = s.obs ∧ (State.splitEnergy s e).host = s.host ∧ (State.splitEnergy s e).amap = s.amap ∧ (State.splitEnergy s e).mem = s.mem ∧ (State.splitEnergy s e).home = s.home ∧ (State.splitEnergy s e).ddr = s.ddr ∧ (State.splitEnergy s e).tier = s.tier ∧ (State.splitEnergy s e).dm = s.dm ∧ (State.splitEnergy s e).dunas = s.dunas ∧ (State.splitEnergy s e).brg = s.brg ∧ (State.splitEnergy s e).clk = s.clk ∧ (State.splitEnergy s e).hsc = s.hsc ∧ (State.splitEnergy s e).boot = s.boot ∧ (State.splitEnergy s e).core = s.core := by
  unfold State.splitEnergy; simp [State.onMgmt_keeps _ _]

theorem State.scanLane_keeps (s : State) (g : ℕ) (lane : ℕ) (tl : ℕ) (tr : ℕ) (vu : ℕ) (vd : ℕ) :
    (State.scanLane s g lane tl tr vu vd).now = s.now ∧ (State.scanLane s g lane tl tr vu vd).free = s.free ∧ (State.scanLane s g lane tl tr vu vd).pending = s.pending ∧ (State.scanLane s g lane tl tr vu vd).regs = s.regs ∧ (State.scanLane s g lane tl tr vu vd).flt = s.flt ∧ (State.scanLane s g lane tl tr vu vd).amap = s.amap ∧ (State.scanLane s g lane tl tr vu vd).mem = s.mem ∧ (State.scanLane s g lane tl tr vu vd).home = s.home ∧ (State.scanLane s g lane tl tr vu vd).ddr = s.ddr ∧ (State.scanLane s g lane tl tr vu vd).tier = s.tier ∧ (State.scanLane s g lane tl tr vu vd).dm = s.dm ∧ (State.scanLane s g lane tl tr vu vd).brg = s.brg ∧ (State.scanLane s g lane tl tr vu vd).clk = s.clk ∧ (State.scanLane s g lane tl tr vu vd).hsc = s.hsc ∧ (State.scanLane s g lane tl tr vu vd).boot = s.boot ∧ (State.scanLane s g lane tl tr vu vd).core = s.core ∧ (State.scanLane s g lane tl tr vu vd).mgmt = s.mgmt := by
  unfold State.scanLane; simp [State.onGrp_keeps _ _ _, State.raise_keeps _ _]

end Sys2Proof.Machine
end

