-- ==== Sys2Proof/Laws/FwuKeeps.lean ====
section
/-! SUPPORT. Which fields of the state the operations of Fwu leave as they are: a proof
over the operation `State.op` gives simp its lemma `State.op_keeps _ _`. -/

namespace Sys2Proof.Machine

theorem State.fwuResult_keeps (s : State) (r : ℕ) :
    (State.fwuResult s r).now = s.now ∧ (State.fwuResult s r).free = s.free ∧ (State.fwuResult s r).pending = s.pending ∧ (State.fwuResult s r).out = s.out ∧ (State.fwuResult s r).regs = s.regs ∧ (State.fwuResult s r).ret = s.ret ∧ (State.fwuResult s r).evt = s.evt ∧ (State.fwuResult s r).flt = s.flt ∧ (State.fwuResult s r).obs = s.obs ∧ (State.fwuResult s r).host = s.host ∧ (State.fwuResult s r).amap = s.amap ∧ (State.fwuResult s r).mem = s.mem ∧ (State.fwuResult s r).home = s.home ∧ (State.fwuResult s r).ddr = s.ddr ∧ (State.fwuResult s r).tier = s.tier ∧ (State.fwuResult s r).dm = s.dm ∧ (State.fwuResult s r).dunas = s.dunas ∧ (State.fwuResult s r).brg = s.brg ∧ (State.fwuResult s r).clk = s.clk ∧ (State.fwuResult s r).hsc = s.hsc ∧ (State.fwuResult s r).boot = s.boot ∧ (State.fwuResult s r).core = s.core := by
  unfold State.fwuResult; simp [State.onMgmt_keeps _ _]

theorem State.staged__keeps (s : State) (i : FwImage) :
    (State.staged_ s i).now = s.now ∧ (State.staged_ s i).free = s.free ∧ (State.staged_ s i).pending = s.pending ∧ (State.staged_ s i).out = s.out ∧ (State.staged_ s i).regs = s.regs ∧ (State.staged_ s i).ret = s.ret ∧ (State.staged_ s i).evt = s.evt ∧ (State.staged_ s i).flt = s.flt ∧ (State.staged_ s i).obs = s.obs ∧ (State.staged_ s i).host = s.host ∧ (State.staged_ s i).amap = s.amap ∧ (State.staged_ s i).mem = s.mem ∧ (State.staged_ s i).home = s.home ∧ (State.staged_ s i).ddr = s.ddr ∧ (State.staged_ s i).tier = s.tier ∧ (State.staged_ s i).dm = s.dm ∧ (State.staged_ s i).dunas = s.dunas ∧ (State.staged_ s i).brg = s.brg ∧ (State.staged_ s i).clk = s.clk ∧ (State.staged_ s i).hsc = s.hsc ∧ (State.staged_ s i).core = s.core := by
  unfold State.staged_; simp [State.onMgmt_keeps _ _, State.onBoot_keeps _ _]

theorem State.moveRoles_keeps (s : State) (back : Bool) :
    (State.moveRoles s back).now = s.now ∧ (State.moveRoles s back).free = s.free ∧ (State.moveRoles s back).pending = s.pending ∧ (State.moveRoles s back).regs = s.regs ∧ (State.moveRoles s back).flt = s.flt ∧ (State.moveRoles s back).amap = s.amap ∧ (State.moveRoles s back).mem = s.mem ∧ (State.moveRoles s back).home = s.home ∧ (State.moveRoles s back).ddr = s.ddr ∧ (State.moveRoles s back).tier = s.tier ∧ (State.moveRoles s back).dm = s.dm ∧ (State.moveRoles s back).brg = s.brg ∧ (State.moveRoles s back).clk = s.clk ∧ (State.moveRoles s back).hsc = s.hsc := by
  unfold State.moveRoles; simp [State.onMcore_keeps _ _ _, State.onBoot_keeps _ _, State.onMgmt_keeps _ _, State.raiseAt_keeps _ _ _ _, State.emit_keeps _ _]

theorem State.trySwitch_keeps (s : State) :
    (State.trySwitch s).now = s.now ∧ (State.trySwitch s).free = s.free ∧ (State.trySwitch s).pending = s.pending ∧ (State.trySwitch s).regs = s.regs ∧ (State.trySwitch s).flt = s.flt ∧ (State.trySwitch s).amap = s.amap ∧ (State.trySwitch s).mem = s.mem ∧ (State.trySwitch s).home = s.home ∧ (State.trySwitch s).ddr = s.ddr ∧ (State.trySwitch s).tier = s.tier ∧ (State.trySwitch s).dm = s.dm ∧ (State.trySwitch s).brg = s.brg ∧ (State.trySwitch s).clk = s.clk ∧ (State.trySwitch s).hsc = s.hsc := by
  unfold State.trySwitch; (repeat' split) <;> simp [State.moveRoles_keeps _ _]

theorem State.startSwitch_keeps (s : State) (back : Bool) :
    (State.startSwitch s back).now = s.now ∧ (State.startSwitch s back).free = s.free ∧ (State.startSwitch s back).pending = s.pending ∧ (State.startSwitch s back).out = s.out ∧ (State.startSwitch s back).regs = s.regs ∧ (State.startSwitch s back).ret = s.ret ∧ (State.startSwitch s back).evt = s.evt ∧ (State.startSwitch s back).flt = s.flt ∧ (State.startSwitch s back).obs = s.obs ∧ (State.startSwitch s back).host = s.host ∧ (State.startSwitch s back).amap = s.amap ∧ (State.startSwitch s back).mem = s.mem ∧ (State.startSwitch s back).home = s.home ∧ (State.startSwitch s back).ddr = s.ddr ∧ (State.startSwitch s back).tier = s.tier ∧ (State.startSwitch s back).dm = s.dm ∧ (State.startSwitch s back).dunas = s.dunas ∧ (State.startSwitch s back).brg = s.brg ∧ (State.startSwitch s back).clk = s.clk ∧ (State.startSwitch s back).hsc = s.hsc ∧ (State.startSwitch s back).boot = s.boot ∧ (State.startSwitch s back).core = s.core := by
  unfold State.startSwitch; simp [State.onMgmt_keeps _ _]

theorem State.fwuVerify_keeps (s : State) :
    (State.fwuVerify s).now = s.now ∧ (State.fwuVerify s).free = s.free ∧ (State.fwuVerify s).pending = s.pending ∧ (State.fwuVerify s).out = s.out ∧ (State.fwuVerify s).regs = s.regs ∧ (State.fwuVerify s).ret = s.ret ∧ (State.fwuVerify s).evt = s.evt ∧ (State.fwuVerify s).flt = s.flt ∧ (State.fwuVerify s).obs = s.obs ∧ (State.fwuVerify s).host = s.host ∧ (State.fwuVerify s).amap = s.amap ∧ (State.fwuVerify s).mem = s.mem ∧ (State.fwuVerify s).home = s.home ∧ (State.fwuVerify s).ddr = s.ddr ∧ (State.fwuVerify s).tier = s.tier ∧ (State.fwuVerify s).dm = s.dm ∧ (State.fwuVerify s).dunas = s.dunas ∧ (State.fwuVerify s).brg = s.brg ∧ (State.fwuVerify s).clk = s.clk ∧ (State.fwuVerify s).hsc = s.hsc ∧ (State.fwuVerify s).boot = s.boot ∧ (State.fwuVerify s).core = s.core := by
  unfold State.fwuVerify; simp [State.fwuResult_keeps _ _, State.onMgmt_keeps _ _]

theorem State.fwuLoad_keeps (s : State) :
    (State.fwuLoad s).now = s.now ∧ (State.fwuLoad s).free = s.free ∧ (State.fwuLoad s).pending = s.pending ∧ (State.fwuLoad s).out = s.out ∧ (State.fwuLoad s).regs = s.regs ∧ (State.fwuLoad s).ret = s.ret ∧ (State.fwuLoad s).evt = s.evt ∧ (State.fwuLoad s).flt = s.flt ∧ (State.fwuLoad s).obs = s.obs ∧ (State.fwuLoad s).host = s.host ∧ (State.fwuLoad s).amap = s.amap ∧ (State.fwuLoad s).mem = s.mem ∧ (State.fwuLoad s).home = s.home ∧ (State.fwuLoad s).ddr = s.ddr ∧ (State.fwuLoad s).tier = s.tier ∧ (State.fwuLoad s).dm = s.dm ∧ (State.fwuLoad s).dunas = s.dunas ∧ (State.fwuLoad s).brg = s.brg ∧ (State.fwuLoad s).clk = s.clk ∧ (State.fwuLoad s).hsc = s.hsc ∧ (State.fwuLoad s).boot = s.boot := by
  unfold State.fwuLoad; (repeat' split) <;> simp [State.fwuResult_keeps _ _, State.onMcore_keeps _ _ _, State.onMgmt_keeps _ _]

theorem State.fwuConfirm_keeps (s : State) (m : Master) :
    (State.fwuConfirm s m).now = s.now ∧ (State.fwuConfirm s m).free = s.free ∧ (State.fwuConfirm s m).pending = s.pending ∧ (State.fwuConfirm s m).out = s.out ∧ (State.fwuConfirm s m).regs = s.regs ∧ (State.fwuConfirm s m).evt = s.evt ∧ (State.fwuConfirm s m).flt = s.flt ∧ (State.fwuConfirm s m).obs = s.obs ∧ (State.fwuConfirm s m).host = s.host ∧ (State.fwuConfirm s m).amap = s.amap ∧ (State.fwuConfirm s m).mem = s.mem ∧ (State.fwuConfirm s m).home = s.home ∧ (State.fwuConfirm s m).ddr = s.ddr ∧ (State.fwuConfirm s m).tier = s.tier ∧ (State.fwuConfirm s m).dm = s.dm ∧ (State.fwuConfirm s m).dunas = s.dunas ∧ (State.fwuConfirm s m).brg = s.brg ∧ (State.fwuConfirm s m).clk = s.clk ∧ (State.fwuConfirm s m).hsc = s.hsc ∧ (State.fwuConfirm s m).boot = s.boot ∧ (State.fwuConfirm s m).core = s.core := by
  unfold State.fwuConfirm; simp [State.fwuResult_keeps _ _, State.onMgmt_keeps _ _, State.retWrite_keeps _ _ _ _]

theorem State.raiseSvnOp_keeps (s : State) (m : Master) :
    (State.raiseSvnOp s m).now = s.now ∧ (State.raiseSvnOp s m).free = s.free ∧ (State.raiseSvnOp s m).pending = s.pending ∧ (State.raiseSvnOp s m).out = s.out ∧ (State.raiseSvnOp s m).regs = s.regs ∧ (State.raiseSvnOp s m).evt = s.evt ∧ (State.raiseSvnOp s m).flt = s.flt ∧ (State.raiseSvnOp s m).obs = s.obs ∧ (State.raiseSvnOp s m).host = s.host ∧ (State.raiseSvnOp s m).amap = s.amap ∧ (State.raiseSvnOp s m).mem = s.mem ∧ (State.raiseSvnOp s m).home = s.home ∧ (State.raiseSvnOp s m).ddr = s.ddr ∧ (State.raiseSvnOp s m).tier = s.tier ∧ (State.raiseSvnOp s m).dm = s.dm ∧ (State.raiseSvnOp s m).dunas = s.dunas ∧ (State.raiseSvnOp s m).brg = s.brg ∧ (State.raiseSvnOp s m).clk = s.clk ∧ (State.raiseSvnOp s m).hsc = s.hsc ∧ (State.raiseSvnOp s m).boot = s.boot ∧ (State.raiseSvnOp s m).core = s.core := by
  unfold State.raiseSvnOp; simp [State.retWrite_keeps _ _ _ _, State.fwuResult_keeps _ _]

theorem State.fwuOp_keeps (s : State) (m : Master) (op : ℕ) :
    (State.fwuOp s m op).now = s.now ∧ (State.fwuOp s m op).free = s.free ∧ (State.fwuOp s m op).pending = s.pending ∧ (State.fwuOp s m op).out = s.out ∧ (State.fwuOp s m op).regs = s.regs ∧ (State.fwuOp s m op).evt = s.evt ∧ (State.fwuOp s m op).flt = s.flt ∧ (State.fwuOp s m op).obs = s.obs ∧ (State.fwuOp s m op).host = s.host ∧ (State.fwuOp s m op).amap = s.amap ∧ (State.fwuOp s m op).mem = s.mem ∧ (State.fwuOp s m op).home = s.home ∧ (State.fwuOp s m op).ddr = s.ddr ∧ (State.fwuOp s m op).tier = s.tier ∧ (State.fwuOp s m op).dm = s.dm ∧ (State.fwuOp s m op).dunas = s.dunas ∧ (State.fwuOp s m op).brg = s.brg ∧ (State.fwuOp s m op).clk = s.clk ∧ (State.fwuOp s m op).hsc = s.hsc ∧ (State.fwuOp s m op).boot = s.boot := by
  unfold State.fwuOp; simp [State.fwuResult_keeps _ _, State.fwuVerify_keeps _, State.fwuLoad_keeps _, State.onMgmt_keeps _ _, State.startSwitch_keeps _ _, State.fwuConfirm_keeps _ _, State.onMcore_keeps _ _ _]

theorem State.fwuCmd_keeps (s : State) (m : Master) (v : Word) :
    (State.fwuCmd s m v).now = s.now ∧ (State.fwuCmd s m v).free = s.free ∧ (State.fwuCmd s m v).pending = s.pending ∧ (State.fwuCmd s m v).out = s.out ∧ (State.fwuCmd s m v).regs = s.regs ∧ (State.fwuCmd s m v).evt = s.evt ∧ (State.fwuCmd s m v).flt = s.flt ∧ (State.fwuCmd s m v).obs = s.obs ∧ (State.fwuCmd s m v).host = s.host ∧ (State.fwuCmd s m v).amap = s.amap ∧ (State.fwuCmd s m v).mem = s.mem ∧ (State.fwuCmd s m v).home = s.home ∧ (State.fwuCmd s m v).ddr = s.ddr ∧ (State.fwuCmd s m v).tier = s.tier ∧ (State.fwuCmd s m v).dm = s.dm ∧ (State.fwuCmd s m v).dunas = s.dunas ∧ (State.fwuCmd s m v).brg = s.brg ∧ (State.fwuCmd s m v).clk = s.clk ∧ (State.fwuCmd s m v).hsc = s.hsc ∧ (State.fwuCmd s m v).boot = s.boot := by
  unfold State.fwuCmd; simp [State.fwuOp_keeps _ _ _, State.raiseSvnOp_keeps _ _]

end Sys2Proof.Machine
end

