-- ==== Sys2Proof/Laws/LogsKeeps.lean ====
section
/-! SUPPORT. Which fields of the state the operations of Logs leave as they are: a proof
over the operation `State.op` gives simp its lemma `State.op_keeps _ _`. -/

namespace Sys2Proof.Machine

theorem State.clearPend_keeps (s : State) (b : ℕ) (v : Word) :
    (State.clearPend s b v).now = s.now ∧ (State.clearPend s b v).free = s.free ∧ (State.clearPend s b v).pending = s.pending ∧ (State.clearPend s b v).out = s.out ∧ (State.clearPend s b v).regs = s.regs ∧ (State.clearPend s b v).ret = s.ret ∧ (State.clearPend s b v).flt = s.flt ∧ (State.clearPend s b v).obs = s.obs ∧ (State.clearPend s b v).host = s.host ∧ (State.clearPend s b v).amap = s.amap ∧ (State.clearPend s b v).mem = s.mem ∧ (State.clearPend s b v).home = s.home ∧ (State.clearPend s b v).ddr = s.ddr ∧ (State.clearPend s b v).tier = s.tier ∧ (State.clearPend s b v).dm = s.dm ∧ (State.clearPend s b v).dunas = s.dunas ∧ (State.clearPend s b v).brg = s.brg ∧ (State.clearPend s b v).clk = s.clk ∧ (State.clearPend s b v).hsc = s.hsc ∧ (State.clearPend s b v).boot = s.boot ∧ (State.clearPend s b v).core = s.core ∧ (State.clearPend s b v).mgmt = s.mgmt := by
  unfold State.clearPend; simp

theorem State.deliverLate_keeps (s : State) (k : ℕ) :
    (State.deliverLate s k).now = s.now ∧ (State.deliverLate s k).free = s.free ∧ (State.deliverLate s k).pending = s.pending ∧ (State.deliverLate s k).regs = s.regs ∧ (State.deliverLate s k).ret = s.ret ∧ (State.deliverLate s k).flt = s.flt ∧ (State.deliverLate s k).amap = s.amap ∧ (State.deliverLate s k).mem = s.mem ∧ (State.deliverLate s k).home = s.home ∧ (State.deliverLate s k).ddr = s.ddr ∧ (State.deliverLate s k).tier = s.tier ∧ (State.deliverLate s k).dm = s.dm ∧ (State.deliverLate s k).brg = s.brg ∧ (State.deliverLate s k).clk = s.clk ∧ (State.deliverLate s k).hsc = s.hsc ∧ (State.deliverLate s k).boot = s.boot ∧ (State.deliverLate s k).core = s.core ∧ (State.deliverLate s k).mgmt = s.mgmt := by
  unfold State.deliverLate; simp [State.deliver_keeps _ _ _]

theorem State.setEnables_keeps (s : State) (b : ℕ) (v : Word) :
    (State.setEnables s b v).now = s.now ∧ (State.setEnables s b v).free = s.free ∧ (State.setEnables s b v).pending = s.pending ∧ (State.setEnables s b v).regs = s.regs ∧ (State.setEnables s b v).ret = s.ret ∧ (State.setEnables s b v).flt = s.flt ∧ (State.setEnables s b v).amap = s.amap ∧ (State.setEnables s b v).mem = s.mem ∧ (State.setEnables s b v).home = s.home ∧ (State.setEnables s b v).ddr = s.ddr ∧ (State.setEnables s b v).tier = s.tier ∧ (State.setEnables s b v).dm = s.dm ∧ (State.setEnables s b v).brg = s.brg ∧ (State.setEnables s b v).clk = s.clk ∧ (State.setEnables s b v).hsc = s.hsc ∧ (State.setEnables s b v).boot = s.boot ∧ (State.setEnables s b v).core = s.core ∧ (State.setEnables s b v).mgmt = s.mgmt := by
  unfold State.setEnables; simp [State.deliverLate_keeps _ _]

theorem State.clearAt_keeps (s : State) (b : Option ℕ) (v : Word) :
    (State.clearAt s b v).now = s.now ∧ (State.clearAt s b v).free = s.free ∧ (State.clearAt s b v).pending = s.pending ∧ (State.clearAt s b v).out = s.out ∧ (State.clearAt s b v).regs = s.regs ∧ (State.clearAt s b v).ret = s.ret ∧ (State.clearAt s b v).flt = s.flt ∧ (State.clearAt s b v).obs = s.obs ∧ (State.clearAt s b v).host = s.host ∧ (State.clearAt s b v).amap = s.amap ∧ (State.clearAt s b v).mem = s.mem ∧ (State.clearAt s b v).home = s.home ∧ (State.clearAt s b v).ddr = s.ddr ∧ (State.clearAt s b v).tier = s.tier ∧ (State.clearAt s b v).dm = s.dm ∧ (State.clearAt s b v).dunas = s.dunas ∧ (State.clearAt s b v).brg = s.brg ∧ (State.clearAt s b v).clk = s.clk ∧ (State.clearAt s b v).hsc = s.hsc ∧ (State.clearAt s b v).boot = s.boot ∧ (State.clearAt s b v).core = s.core ∧ (State.clearAt s b v).mgmt = s.mgmt := by
  unfold State.clearAt; (repeat' split) <;> simp [State.clearPend_keeps _ _ _]

theorem State.enableAt_keeps (s : State) (b : Option ℕ) (v : Word) :
    (State.enableAt s b v).now = s.now ∧ (State.enableAt s b v).free = s.free ∧ (State.enableAt s b v).pending = s.pending ∧ (State.enableAt s b v).regs = s.regs ∧ (State.enableAt s b v).ret = s.ret ∧ (State.enableAt s b v).flt = s.flt ∧ (State.enableAt s b v).amap = s.amap ∧ (State.enableAt s b v).mem = s.mem ∧ (State.enableAt s b v).home = s.home ∧ (State.enableAt s b v).ddr = s.ddr ∧ (State.enableAt s b v).tier = s.tier ∧ (State.enableAt s b v).dm = s.dm ∧ (State.enableAt s b v).brg = s.brg ∧ (State.enableAt s b v).clk = s.clk ∧ (State.enableAt s b v).hsc = s.hsc ∧ (State.enableAt s b v).boot = s.boot ∧ (State.enableAt s b v).core = s.core ∧ (State.enableAt s b v).mgmt = s.mgmt := by
  unfold State.enableAt; (repeat' split) <;> simp [State.setEnables_keeps _ _ _]

theorem State.setRoute_keeps (s : State) (k : ℕ) (r : BitVec 14) :
    (State.setRoute s k r).now = s.now ∧ (State.setRoute s k r).free = s.free ∧ (State.setRoute s k r).pending = s.pending ∧ (State.setRoute s k r).out = s.out ∧ (State.setRoute s k r).regs = s.regs ∧ (State.setRoute s k r).ret = s.ret ∧ (State.setRoute s k r).flt = s.flt ∧ (State.setRoute s k r).obs = s.obs ∧ (State.setRoute s k r).host = s.host ∧ (State.setRoute s k r).amap = s.amap ∧ (State.setRoute s k r).mem = s.mem ∧ (State.setRoute s k r).home = s.home ∧ (State.setRoute s k r).ddr = s.ddr ∧ (State.setRoute s k r).tier = s.tier ∧ (State.setRoute s k r).dm = s.dm ∧ (State.setRoute s k r).dunas = s.dunas ∧ (State.setRoute s k r).brg = s.brg ∧ (State.setRoute s k r).clk = s.clk ∧ (State.setRoute s k r).hsc = s.hsc ∧ (State.setRoute s k r).boot = s.boot ∧ (State.setRoute s k r).core = s.core ∧ (State.setRoute s k r).mgmt = s.mgmt := by
  unfold State.setRoute; simp

theorem State.ownRoute_keeps (s : State) (p : ℕ) (v : ℕ) :
    (State.ownRoute s p v).now = s.now ∧ (State.ownRoute s p v).free = s.free ∧ (State.ownRoute s p v).pending = s.pending ∧ (State.ownRoute s p v).out = s.out ∧ (State.ownRoute s p v).regs = s.regs ∧ (State.ownRoute s p v).ret = s.ret ∧ (State.ownRoute s p v).flt = s.flt ∧ (State.ownRoute s p v).obs = s.obs ∧ (State.ownRoute s p v).host = s.host ∧ (State.ownRoute s p v).amap = s.amap ∧ (State.ownRoute s p v).mem = s.mem ∧ (State.ownRoute s p v).home = s.home ∧ (State.ownRoute s p v).ddr = s.ddr ∧ (State.ownRoute s p v).tier = s.tier ∧ (State.ownRoute s p v).dm = s.dm ∧ (State.ownRoute s p v).dunas = s.dunas ∧ (State.ownRoute s p v).brg = s.brg ∧ (State.ownRoute s p v).clk = s.clk ∧ (State.ownRoute s p v).hsc = s.hsc ∧ (State.ownRoute s p v).boot = s.boot ∧ (State.ownRoute s p v).core = s.core ∧ (State.ownRoute s p v).mgmt = s.mgmt := by
  unfold State.ownRoute; (repeat' split) <;> simp [State.setRoute_keeps _ _ _]

theorem State.evrRoute_keeps (s : State) (v : BitVec 14) :
    (State.evrRoute s v).now = s.now ∧ (State.evrRoute s v).free = s.free ∧ (State.evrRoute s v).pending = s.pending ∧ (State.evrRoute s v).out = s.out ∧ (State.evrRoute s v).regs = s.regs ∧ (State.evrRoute s v).ret = s.ret ∧ (State.evrRoute s v).flt = s.flt ∧ (State.evrRoute s v).obs = s.obs ∧ (State.evrRoute s v).host = s.host ∧ (State.evrRoute s v).amap = s.amap ∧ (State.evrRoute s v).mem = s.mem ∧ (State.evrRoute s v).home = s.home ∧ (State.evrRoute s v).ddr = s.ddr ∧ (State.evrRoute s v).tier = s.tier ∧ (State.evrRoute s v).dm = s.dm ∧ (State.evrRoute s v).dunas = s.dunas ∧ (State.evrRoute s v).brg = s.brg ∧ (State.evrRoute s v).clk = s.clk ∧ (State.evrRoute s v).hsc = s.hsc ∧ (State.evrRoute s v).boot = s.boot ∧ (State.evrRoute s v).core = s.core ∧ (State.evrRoute s v).mgmt = s.mgmt := by
  unfold State.evrRoute; simp [State.setRoute_keeps _ _ _]

end Sys2Proof.Machine
end

