-- ==== Sys2Proof/Laws/MoverOpsKeeps.lean ====
section
/-! SUPPORT. Which fields of the state the operations of MoverOps leave as they are: a proof
over the operation `State.op` gives simp its lemma `State.op_keeps _ _`. -/

namespace Sys2Proof.Machine

theorem State.dropRing_keeps (s : State) (q : ℕ) :
    (State.dropRing s q).now = s.now ∧ (State.dropRing s q).free = s.free ∧ (State.dropRing s q).pending = s.pending ∧ (State.dropRing s q).regs = s.regs ∧ (State.dropRing s q).ret = s.ret ∧ (State.dropRing s q).evt = s.evt ∧ (State.dropRing s q).flt = s.flt ∧ (State.dropRing s q).amap = s.amap ∧ (State.dropRing s q).mem = s.mem ∧ (State.dropRing s q).home = s.home ∧ (State.dropRing s q).ddr = s.ddr ∧ (State.dropRing s q).tier = s.tier ∧ (State.dropRing s q).brg = s.brg ∧ (State.dropRing s q).clk = s.clk ∧ (State.dropRing s q).hsc = s.hsc ∧ (State.dropRing s q).boot = s.boot ∧ (State.dropRing s q).core = s.core ∧ (State.dropRing s q).mgmt = s.mgmt := by
  unfold State.dropRing; simp [State.pumpReads_keeps _ _, State.onLd_keeps _ _ _, State.onQueue_keeps _ _ _]

theorem State.dmqConfigured_keeps (s : State) (q : ℕ) :
    (State.dmqConfigured s q).now = s.now ∧ (State.dmqConfigured s q).free = s.free ∧ (State.dmqConfigured s q).pending = s.pending ∧ (State.dmqConfigured s q).regs = s.regs ∧ (State.dmqConfigured s q).ret = s.ret ∧ (State.dmqConfigured s q).evt = s.evt ∧ (State.dmqConfigured s q).flt = s.flt ∧ (State.dmqConfigured s q).amap = s.amap ∧ (State.dmqConfigured s q).mem = s.mem ∧ (State.dmqConfigured s q).home = s.home ∧ (State.dmqConfigured s q).ddr = s.ddr ∧ (State.dmqConfigured s q).tier = s.tier ∧ (State.dmqConfigured s q).brg = s.brg ∧ (State.dmqConfigured s q).clk = s.clk ∧ (State.dmqConfigured s q).hsc = s.hsc ∧ (State.dmqConfigured s q).boot = s.boot ∧ (State.dmqConfigured s q).core = s.core ∧ (State.dmqConfigured s q).mgmt = s.mgmt := by
  unfold State.dmqConfigured; simp [State.onQueue_keeps _ _ _, State.dropRing_keeps _ _]

theorem State.dmqAborted_keeps (s : State) (q : ℕ) :
    (State.dmqAborted s q).now = s.now ∧ (State.dmqAborted s q).free = s.free ∧ (State.dmqAborted s q).pending = s.pending ∧ (State.dmqAborted s q).flt = s.flt ∧ (State.dmqAborted s q).amap = s.amap ∧ (State.dmqAborted s q).mem = s.mem ∧ (State.dmqAborted s q).ddr = s.ddr ∧ (State.dmqAborted s q).tier = s.tier ∧ (State.dmqAborted s q).brg = s.brg ∧ (State.dmqAborted s q).clk = s.clk ∧ (State.dmqAborted s q).hsc = s.hsc ∧ (State.dmqAborted s q).boot = s.boot ∧ (State.dmqAborted s q).core = s.core ∧ (State.dmqAborted s q).mgmt = s.mgmt := by
  unfold State.dmqAborted; simp [State.endDesc_keeps _ _ _ _, State.onQueue_keeps _ _ _, State.haltQueue_keeps _ _ _]

@[simp] theorem State.dmqWrite_free (s : State) (m : Master) (q : ℕ) (x : ℕ) (v : Word) (act : State → State) (hact : ∀ (t : State), (act t).free = t.free) :
    (State.dmqWrite s m q x v act).free = s.free := by
  unfold State.dmqWrite; (try dsimp only); (repeat' split) <;> simp_all

@[simp] theorem State.dmqWrite_pending (s : State) (m : Master) (q : ℕ) (x : ℕ) (v : Word) (act : State → State) (hact : ∀ (t : State), (act t).pending = t.pending) :
    (State.dmqWrite s m q x v act).pending = s.pending := by
  unfold State.dmqWrite; (try dsimp only); (repeat' split) <;> simp_all

@[simp] theorem State.dmqWrite_flt (s : State) (m : Master) (q : ℕ) (x : ℕ) (v : Word) (act : State → State) (hact : ∀ (t : State), (act t).flt = t.flt) :
    (State.dmqWrite s m q x v act).flt = s.flt := by
  unfold State.dmqWrite; (try dsimp only); (repeat' split) <;> simp_all

@[simp] theorem State.dmqWrite_mem (s : State) (m : Master) (q : ℕ) (x : ℕ) (v : Word) (act : State → State) (hact : ∀ (t : State), (act t).mem = t.mem) :
    (State.dmqWrite s m q x v act).mem = s.mem := by
  unfold State.dmqWrite; (try dsimp only); (repeat' split) <;> simp_all

@[simp] theorem State.dmqWrite_home (s : State) (m : Master) (q : ℕ) (x : ℕ) (v : Word) (act : State → State) (hact : ∀ (t : State), (act t).home = t.home) :
    (State.dmqWrite s m q x v act).home = s.home := by
  unfold State.dmqWrite; (try dsimp only); (repeat' split) <;> simp_all

@[simp] theorem State.dmqWrite_tier (s : State) (m : Master) (q : ℕ) (x : ℕ) (v : Word) (act : State → State) (hact : ∀ (t : State), (act t).tier = t.tier) :
    (State.dmqWrite s m q x v act).tier = s.tier := by
  unfold State.dmqWrite; (try dsimp only); (repeat' split) <;> simp_all

@[simp] theorem State.dmqWrite_dm (s : State) (m : Master) (q : ℕ) (x : ℕ) (v : Word) (act : State → State) (hact : ∀ (t : State), (act t).dm = t.dm) :
    (State.dmqWrite s m q x v act).dm = s.dm := by
  unfold State.dmqWrite; (try dsimp only); (repeat' split) <;> simp_all

@[simp] theorem State.dmqWrite_hsc (s : State) (m : Master) (q : ℕ) (x : ℕ) (v : Word) (act : State → State) (hact : ∀ (t : State), (act t).hsc = t.hsc) :
    (State.dmqWrite s m q x v act).hsc = s.hsc := by
  unfold State.dmqWrite; (try dsimp only); (repeat' split) <;> simp_all

@[simp] theorem State.dmqWrite_boot (s : State) (m : Master) (q : ℕ) (x : ℕ) (v : Word) (act : State → State) (hact : ∀ (t : State), (act t).boot = t.boot) :
    (State.dmqWrite s m q x v act).boot = s.boot := by
  unfold State.dmqWrite; (try dsimp only); (repeat' split) <;> simp_all

@[simp] theorem State.dmqWrite_core (s : State) (m : Master) (q : ℕ) (x : ℕ) (v : Word) (act : State → State) (hact : ∀ (t : State), (act t).core = t.core) :
    (State.dmqWrite s m q x v act).core = s.core := by
  unfold State.dmqWrite; (try dsimp only); (repeat' split) <;> simp_all

theorem State.startDesc_keeps (s : State) (q : ℕ) (head : ℕ) (raw : BitVec 512) :
    (State.startDesc s q head raw).now = s.now ∧ (State.startDesc s q head raw).free = s.free ∧ (State.startDesc s q head raw).pending = s.pending ∧ (State.startDesc s q head raw).flt = s.flt ∧ (State.startDesc s q head raw).amap = s.amap ∧ (State.startDesc s q head raw).mem = s.mem ∧ (State.startDesc s q head raw).home = s.home ∧ (State.startDesc s q head raw).ddr = s.ddr ∧ (State.startDesc s q head raw).tier = s.tier ∧ (State.startDesc s q head raw).brg = s.brg ∧ (State.startDesc s q head raw).clk = s.clk ∧ (State.startDesc s q head raw).hsc = s.hsc ∧ (State.startDesc s q head raw).boot = s.boot ∧ (State.startDesc s q head raw).core = s.core ∧ (State.startDesc s q head raw).mgmt = s.mgmt := by
  unfold State.startDesc; simp [State.dmqSet_keeps _ _ _ _ _ _, State.onQueue_keeps _ _ _, State.issueReads_keeps _ _ _ _, State.descEvent_keeps _ _ _]

theorem State.dmTurn_keeps (s : State) (q : ℕ) {r : State} (hr : State.dmTurn s q = some r) :
    r.now = s.now ∧ r.free = s.free ∧ r.pending = s.pending ∧ r.out = s.out ∧ r.regs = s.regs ∧ r.ret = s.ret ∧ r.evt = s.evt ∧ r.flt = s.flt ∧ r.obs = s.obs ∧ r.host = s.host ∧ r.amap = s.amap ∧ r.mem = s.mem ∧ r.home = s.home ∧ r.ddr = s.ddr ∧ r.tier = s.tier ∧ r.dunas = s.dunas ∧ r.brg = s.brg ∧ r.clk = s.clk ∧ r.hsc = s.hsc ∧ r.boot = s.boot ∧ r.core = s.core ∧ r.mgmt = s.mgmt := by
  unfold State.dmTurn at hr; (repeat' split at hr) <;> first | (cases hr; done) | (cases hr; simp; done) | simp_all

theorem State.ringFetch_keeps (s : State) (q : ℕ) (head : ℕ) (host : Option (BitVec 512)) :
    (State.ringFetch s q head host).now = s.now ∧ (State.ringFetch s q head host).free = s.free ∧ (State.ringFetch s q head host).pending = s.pending ∧ (State.ringFetch s q head host).regs = s.regs ∧ (State.ringFetch s q head host).ret = s.ret ∧ (State.ringFetch s q head host).evt = s.evt ∧ (State.ringFetch s q head host).flt = s.flt ∧ (State.ringFetch s q head host).amap = s.amap ∧ (State.ringFetch s q head host).mem = s.mem ∧ (State.ringFetch s q head host).home = s.home ∧ (State.ringFetch s q head host).ddr = s.ddr ∧ (State.ringFetch s q head host).tier = s.tier ∧ (State.ringFetch s q head host).brg = s.brg ∧ (State.ringFetch s q head host).clk = s.clk ∧ (State.ringFetch s q head host).hsc = s.hsc ∧ (State.ringFetch s q head host).boot = s.boot ∧ (State.ringFetch s q head host).core = s.core ∧ (State.ringFetch s q head host).mgmt = s.mgmt := by
  obtain ⟨P, hP⟩ : ∃ P : State → Prop, P = fun x => x.now = s.now ∧ x.free = s.free ∧ x.pending = s.pending ∧ x.regs = s.regs ∧ x.ret = s.ret ∧ x.evt = s.evt ∧ x.flt = s.flt ∧ x.amap = s.amap ∧ x.mem = s.mem ∧ x.home = s.home ∧ x.ddr = s.ddr ∧ x.tier = s.tier ∧ x.brg = s.brg ∧ x.clk = s.clk ∧ x.hsc = s.hsc ∧ x.boot = s.boot ∧ x.core = s.core ∧ x.mgmt = s.mgmt := ⟨_, rfl⟩
  suffices h : P (State.ringFetch s q head host) by rw [hP] at h; exact h
  unfold State.ringFetch; (try dsimp only); (repeat' split) <;> (try have := State.issueOne_keeps _ _ _ _ _ ‹State.issueOne _ _ _ _ _ = some _›) <;> subst hP <;> simp_all [State.onQueue_keeps _ _ _, State.onLd_keeps _ _ _]

theorem State.descBytes_keeps (s : State) (q : ℕ) (head : ℕ) (host : Option (BitVec 512)) :
    (State.descBytes s q head host).1.now = s.now ∧ (State.descBytes s q head host).1.pending = s.pending ∧ (State.descBytes s q head host).1.brg = s.brg ∧ (State.descBytes s q head host).1.clk = s.clk ∧ (State.descBytes s q head host).1.hsc = s.hsc ∧ (State.descBytes s q head host).1.boot = s.boot ∧ (State.descBytes s q head host).1.core = s.core := by
  obtain ⟨P, hP⟩ : ∃ P : State → Prop, P = fun x => x.now = s.now ∧ x.pending = s.pending ∧ x.brg = s.brg ∧ x.clk = s.clk ∧ x.hsc = s.hsc ∧ x.boot = s.boot ∧ x.core = s.core := ⟨_, rfl⟩
  suffices h : P (State.descBytes s q head host).1 by rw [hP] at h; exact h
  unfold State.descBytes; (try dsimp only); (repeat' split) <;> subst hP <;> simp_all [State.ringFetch_keeps _ _ _ _, State.staleHandle_keeps _ _ _, State.dmRequest_keeps _ _ _ _ _]

@[simp] theorem State.dmOp_now (s : State) (q : ℕ) (ix : ℕ) (op : ℕ) (work : Desc → State) (hwork : ∀ (x0 : Desc), (work x0).now = s.now) :
    (State.dmOp s q ix op work).now = s.now := by
  unfold State.dmOp; (try dsimp only); (repeat' split) <;> simp_all [State.failDesc_keeps _ _ _ _ _]

@[simp] theorem State.dmOp_free (s : State) (q : ℕ) (ix : ℕ) (op : ℕ) (work : Desc → State) (hwork : ∀ (x0 : Desc), (work x0).free = s.free) :
    (State.dmOp s q ix op work).free = s.free := by
  unfold State.dmOp; (try dsimp only); (repeat' split) <;> simp_all [State.failDesc_keeps _ _ _ _ _]

@[simp] theorem State.dmOp_pending (s : State) (q : ℕ) (ix : ℕ) (op : ℕ) (work : Desc → State) (hwork : ∀ (x0 : Desc), (work x0).pending = s.pending) :
    (State.dmOp s q ix op work).pending = s.pending := by
  unfold State.dmOp; (try dsimp only); (repeat' split) <;> simp_all [State.failDesc_keeps _ _ _ _ _]

@[simp] theorem State.dmOp_regs (s : State) (q : ℕ) (ix : ℕ) (op : ℕ) (work : Desc → State) (hwork : ∀ (x0 : Desc), (work x0).regs = s.regs) :
    (State.dmOp s q ix op work).regs = s.regs := by
  unfold State.dmOp; (try dsimp only); (repeat' split) <;> simp_all [State.failDesc_keeps _ _ _ _ _]

@[simp] theorem State.dmOp_flt (s : State) (q : ℕ) (ix : ℕ) (op : ℕ) (work : Desc → State) (hwork : ∀ (x0 : Desc), (work x0).flt = s.flt) :
    (State.dmOp s q ix op work).flt = s.flt := by
  unfold State.dmOp; (try dsimp only); (repeat' split) <;> simp_all [State.failDesc_keeps _ _ _ _ _]

@[simp] theorem State.dmOp_amap (s : State) (q : ℕ) (ix : ℕ) (op : ℕ) (work : Desc → State) (hwork : ∀ (x0 : Desc), (work x0).amap = s.amap) :
    (State.dmOp s q ix op work).amap = s.amap := by
  unfold State.dmOp; (try dsimp only); (repeat' split) <;> simp_all [State.failDesc_keeps _ _ _ _ _]

@[simp] theorem State.dmOp_mem (s : State) (q : ℕ) (ix : ℕ) (op : ℕ) (work : Desc → State) (hwork : ∀ (x0 : Desc), (work x0).mem = s.mem) :
    (State.dmOp s q ix op work).mem = s.mem := by
  unfold State.dmOp; (try dsimp only); (repeat' split) <;> simp_all [State.failDesc_keeps _ _ _ _ _]

@[simp] theorem State.dmOp_ddr (s : State) (q : ℕ) (ix : ℕ) (op : ℕ) (work : Desc → State) (hwork : ∀ (x0 : Desc), (work x0).ddr = s.ddr) :
    (State.dmOp s q ix op work).ddr = s.ddr := by
  unfold State.dmOp; (try dsimp only); (repeat' split) <;> simp_all [State.failDesc_keeps _ _ _ _ _]

@[simp] theorem State.dmOp_tier (s : State) (q : ℕ) (ix : ℕ) (op : ℕ) (work : Desc → State) (hwork : ∀ (x0 : Desc), (work x0).tier = s.tier) :
    (State.dmOp s q ix op work).tier = s.tier := by
  unfold State.dmOp; (try dsimp only); (repeat' split) <;> simp_all [State.failDesc_keeps _ _ _ _ _]

@[simp] theorem State.dmOp_brg (s : State) (q : ℕ) (ix : ℕ) (op : ℕ) (work : Desc → State) (hwork : ∀ (x0 : Desc), (work x0).brg = s.brg) :
    (State.dmOp s q ix op work).brg = s.brg := by
  unfold State.dmOp; (try dsimp only); (repeat' split) <;> simp_all [State.failDesc_keeps _ _ _ _ _]

@[simp] theorem State.dmOp_clk (s : State) (q : ℕ) (ix : ℕ) (op : ℕ) (work : Desc → State) (hwork : ∀ (x0 : Desc), (work x0).clk = s.clk) :
    (State.dmOp s q ix op work).clk = s.clk := by
  unfold State.dmOp; (try dsimp only); (repeat' split) <;> simp_all [State.failDesc_keeps _ _ _ _ _]

@[simp] theorem State.dmOp_hsc (s : State) (q : ℕ) (ix : ℕ) (op : ℕ) (work : Desc → State) (hwork : ∀ (x0 : Desc), (work x0).hsc = s.hsc) :
    (State.dmOp s q ix op work).hsc = s.hsc := by
  unfold State.dmOp; (try dsimp only); (repeat' split) <;> simp_all [State.failDesc_keeps _ _ _ _ _]

@[simp] theorem State.dmOp_boot (s : State) (q : ℕ) (ix : ℕ) (op : ℕ) (work : Desc → State) (hwork : ∀ (x0 : Desc), (work x0).boot = s.boot) :
    (State.dmOp s q ix op work).boot = s.boot := by
  unfold State.dmOp; (try dsimp only); (repeat' split) <;> simp_all [State.failDesc_keeps _ _ _ _ _]

@[simp] theorem State.dmOp_core (s : State) (q : ℕ) (ix : ℕ) (op : ℕ) (work : Desc → State) (hwork : ∀ (x0 : Desc), (work x0).core = s.core) :
    (State.dmOp s q ix op work).core = s.core := by
  unfold State.dmOp; (try dsimp only); (repeat' split) <;> simp_all [State.failDesc_keeps _ _ _ _ _]

@[simp] theorem State.dmOp_mgmt (s : State) (q : ℕ) (ix : ℕ) (op : ℕ) (work : Desc → State) (hwork : ∀ (x0 : Desc), (work x0).mgmt = s.mgmt) :
    (State.dmOp s q ix op work).mgmt = s.mgmt := by
  unfold State.dmOp; (try dsimp only); (repeat' split) <;> simp_all [State.failDesc_keeps _ _ _ _ _]

@[simp] theorem State.withSource_now (s : State) (q : ℕ) (d : Desc) (work : State → List (Option Byte) → State) (hwork : ∀ (t : State) (x0 : List (Option Byte)), (work t x0).now = t.now) :
    (State.withSource s q d work).now = s.now := by
  unfold State.withSource; (try dsimp only); (repeat' split) <;> simp_all [State.operand_keeps _ _ _ _ _ _, State.failDesc_keeps _ _ _ _ _]

@[simp] theorem State.withSource_pending (s : State) (q : ℕ) (d : Desc) (work : State → List (Option Byte) → State) (hwork : ∀ (t : State) (x0 : List (Option Byte)), (work t x0).pending = t.pending) :
    (State.withSource s q d work).pending = s.pending := by
  unfold State.withSource; (try dsimp only); (repeat' split) <;> simp_all [State.operand_keeps _ _ _ _ _ _, State.failDesc_keeps _ _ _ _ _]

@[simp] theorem State.withSource_brg (s : State) (q : ℕ) (d : Desc) (work : State → List (Option Byte) → State) (hwork : ∀ (t : State) (x0 : List (Option Byte)), (work t x0).brg = t.brg) :
    (State.withSource s q d work).brg = s.brg := by
  unfold State.withSource; (try dsimp only); (repeat' split) <;> simp_all [State.operand_keeps _ _ _ _ _ _, State.failDesc_keeps _ _ _ _ _]

@[simp] theorem State.withSource_clk (s : State) (q : ℕ) (d : Desc) (work : State → List (Option Byte) → State) (hwork : ∀ (t : State) (x0 : List (Option Byte)), (work t x0).clk = t.clk) :
    (State.withSource s q d work).clk = s.clk := by
  unfold State.withSource; (try dsimp only); (repeat' split) <;> simp_all [State.operand_keeps _ _ _ _ _ _, State.failDesc_keeps _ _ _ _ _]

@[simp] theorem State.withSource_hsc (s : State) (q : ℕ) (d : Desc) (work : State → List (Option Byte) → State) (hwork : ∀ (t : State) (x0 : List (Option Byte)), (work t x0).hsc = t.hsc) :
    (State.withSource s q d work).hsc = s.hsc := by
  unfold State.withSource; (try dsimp only); (repeat' split) <;> simp_all [State.operand_keeps _ _ _ _ _ _, State.failDesc_keeps _ _ _ _ _]

@[simp] theorem State.withSource_boot (s : State) (q : ℕ) (d : Desc) (work : State → List (Option Byte) → State) (hwork : ∀ (t : State) (x0 : List (Option Byte)), (work t x0).boot = t.boot) :
    (State.withSource s q d work).boot = s.boot := by
  unfold State.withSource; (try dsimp only); (repeat' split) <;> simp_all [State.operand_keeps _ _ _ _ _ _, State.failDesc_keeps _ _ _ _ _]

@[simp] theorem State.withSource_core (s : State) (q : ℕ) (d : Desc) (work : State → List (Option Byte) → State) (hwork : ∀ (t : State) (x0 : List (Option Byte)), (work t x0).core = t.core) :
    (State.withSource s q d work).core = s.core := by
  unfold State.withSource; (try dsimp only); (repeat' split) <;> simp_all [State.operand_keeps _ _ _ _ _ _, State.failDesc_keeps _ _ _ _ _]

@[simp] theorem State.withRoom_now (s : State) (q : ℕ) (d : Desc) (n : ℕ) (work : State) (hwork : work.now = s.now) :
    (State.withRoom s q d n work).now = s.now := by
  unfold State.withRoom; (try dsimp only); (repeat' split) <;> simp_all [State.failDesc_keeps _ _ _ _ _]

@[simp] theorem State.withRoom_free (s : State) (q : ℕ) (d : Desc) (n : ℕ) (work : State) (hwork : work.free = s.free) :
    (State.withRoom s q d n work).free = s.free := by
  unfold State.withRoom; (try dsimp only); (repeat' split) <;> simp_all [State.failDesc_keeps _ _ _ _ _]

@[simp] theorem State.withRoom_pending (s : State) (q : ℕ) (d : Desc) (n : ℕ) (work : State) (hwork : work.pending = s.pending) :
    (State.withRoom s q d n work).pending = s.pending := by
  unfold State.withRoom; (try dsimp only); (repeat' split) <;> simp_all [State.failDesc_keeps _ _ _ _ _]

@[simp] theorem State.withRoom_regs (s : State) (q : ℕ) (d : Desc) (n : ℕ) (work : State) (hwork : work.regs = s.regs) :
    (State.withRoom s q d n work).regs = s.regs := by
  unfold State.withRoom; (try dsimp only); (repeat' split) <;> simp_all [State.failDesc_keeps _ _ _ _ _]

@[simp] theorem State.withRoom_flt (s : State) (q : ℕ) (d : Desc) (n : ℕ) (work : State) (hwork : work.flt = s.flt) :
    (State.withRoom s q d n work).flt = s.flt := by
  unfold State.withRoom; (try dsimp only); (repeat' split) <;> simp_all [State.failDesc_keeps _ _ _ _ _]

@[simp] theorem State.withRoom_amap (s : State) (q : ℕ) (d : Desc) (n : ℕ) (work : State) (hwork : work.amap = s.amap) :
    (State.withRoom s q d n work).amap = s.amap := by
  unfold State.withRoom; (try dsimp only); (repeat' split) <;> simp_all [State.failDesc_keeps _ _ _ _ _]

@[simp] theorem State.withRoom_mem (s : State) (q : ℕ) (d : Desc) (n : ℕ) (work : State) (hwork : work.mem = s.mem) :
    (State.withRoom s q d n work).mem = s.mem := by
  unfold State.withRoom; (try dsimp only); (repeat' split) <;> simp_all [State.failDesc_keeps _ _ _ _ _]

@[simp] theorem State.withRoom_ddr (s : State) (q : ℕ) (d : Desc) (n : ℕ) (work : State) (hwork : work.ddr = s.ddr) :
    (State.withRoom s q d n work).ddr = s.ddr := by
  unfold State.withRoom; (try dsimp only); (repeat' split) <;> simp_all [State.failDesc_keeps _ _ _ _ _]

@[simp] theorem State.withRoom_tier (s : State) (q : ℕ) (d : Desc) (n : ℕ) (work : State) (hwork : work.tier = s.tier) :
    (State.withRoom s q d n work).tier = s.tier := by
  unfold State.withRoom; (try dsimp only); (repeat' split) <;> simp_all [State.failDesc_keeps _ _ _ _ _]

@[simp] theorem State.withRoom_brg (s : State) (q : ℕ) (d : Desc) (n : ℕ) (work : State) (hwork : work.brg = s.brg) :
    (State.withRoom s q d n work).brg = s.brg := by
  unfold State.withRoom; (try dsimp only); (repeat' split) <;> simp_all [State.failDesc_keeps _ _ _ _ _]

@[simp] theorem State.withRoom_clk (s : State) (q : ℕ) (d : Desc) (n : ℕ) (work : State) (hwork : work.clk = s.clk) :
    (State.withRoom s q d n work).clk = s.clk := by
  unfold State.withRoom; (try dsimp only); (repeat' split) <;> simp_all [State.failDesc_keeps _ _ _ _ _]

@[simp] theorem State.withRoom_hsc (s : State) (q : ℕ) (d : Desc) (n : ℕ) (work : State) (hwork : work.hsc = s.hsc) :
    (State.withRoom s q d n work).hsc = s.hsc := by
  unfold State.withRoom; (try dsimp only); (repeat' split) <;> simp_all [State.failDesc_keeps _ _ _ _ _]

@[simp] theorem State.withRoom_boot (s : State) (q : ℕ) (d : Desc) (n : ℕ) (work : State) (hwork : work.boot = s.boot) :
    (State.withRoom s q d n work).boot = s.boot := by
  unfold State.withRoom; (try dsimp only); (repeat' split) <;> simp_all [State.failDesc_keeps _ _ _ _ _]

@[simp] theorem State.withRoom_core (s : State) (q : ℕ) (d : Desc) (n : ℕ) (work : State) (hwork : work.core = s.core) :
    (State.withRoom s q d n work).core = s.core := by
  unfold State.withRoom; (try dsimp only); (repeat' split) <;> simp_all [State.failDesc_keeps _ _ _ _ _]

@[simp] theorem State.withRoom_mgmt (s : State) (q : ℕ) (d : Desc) (n : ℕ) (work : State) (hwork : work.mgmt = s.mgmt) :
    (State.withRoom s q d n work).mgmt = s.mgmt := by
  unfold State.withRoom; (try dsimp only); (repeat' split) <;> simp_all [State.failDesc_keeps _ _ _ _ _]

theorem State.putCounts_keeps (s : State) (q : ℕ) (d : Desc) (n : ℕ → ℕ) :
    (State.putCounts s q d n).now = s.now ∧ (State.putCounts s q d n).pending = s.pending ∧ (State.putCounts s q d n).brg = s.brg ∧ (State.putCounts s q d n).clk = s.clk ∧ (State.putCounts s q d n).hsc = s.hsc ∧ (State.putCounts s q d n).boot = s.boot ∧ (State.putCounts s q d n).core = s.core := by
  unfold State.putCounts; simp [State.onDesc_keeps _ _ _ _, State.dmPut_keeps _ _ _ _ _ _]

theorem State.putOutput_keeps (s : State) (q : ℕ) (d : Desc) (addrs : List ℕ) (got : List (List Byte)) :
    (State.putOutput s q d addrs got).now = s.now ∧ (State.putOutput s q d addrs got).pending = s.pending ∧ (State.putOutput s q d addrs got).brg = s.brg ∧ (State.putOutput s q d addrs got).clk = s.clk ∧ (State.putOutput s q d addrs got).hsc = s.hsc ∧ (State.putOutput s q d addrs got).boot = s.boot ∧ (State.putOutput s q d addrs got).core = s.core := by
  unfold State.putOutput; simp [State.dmPut_keeps _ _ _ _ _ _, State.putCounts_keeps _ _ _ _]

theorem State.output_keeps (s : State) (q : ℕ) (d : Desc) (chain : List Byte) (items : List (List Byte)) :
    (State.output s q d chain items).1.now = s.now ∧ (State.output s q d chain items).1.pending = s.pending ∧ (State.output s q d chain items).1.brg = s.brg ∧ (State.output s q d chain items).1.clk = s.clk ∧ (State.output s q d chain items).1.hsc = s.hsc ∧ (State.output s q d chain items).1.boot = s.boot ∧ (State.output s q d chain items).1.core = s.core := by
  obtain ⟨P, hP⟩ : ∃ P : State → Prop, P = fun x => x.now = s.now ∧ x.pending = s.pending ∧ x.brg = s.brg ∧ x.clk = s.clk ∧ x.hsc = s.hsc ∧ x.boot = s.boot ∧ x.core = s.core := ⟨_, rfl⟩
  suffices h : P (State.output s q d chain items).1 by rw [hP] at h; exact h
  unfold State.output; (try dsimp only); (repeat' split) <;> skip <;> subst hP <;> simp_all [State.staleHandle_keeps _ _ _, State.putOutput_keeps _ _ _ _ _]

@[simp] theorem State.withChain_now (s : State) (q : ℕ) (d : Desc) (work : State → List Byte → State) (hwork : ∀ (t : State) (x0 : List Byte), (work t x0).now = t.now) :
    (State.withChain s q d work).now = s.now := by
  unfold State.withChain; (try dsimp only); (repeat' split) <;> simp_all [State.operand_keeps _ _ _ _ _ _, State.failDesc_keeps _ _ _ _ _]

@[simp] theorem State.withChain_pending (s : State) (q : ℕ) (d : Desc) (work : State → List Byte → State) (hwork : ∀ (t : State) (x0 : List Byte), (work t x0).pending = t.pending) :
    (State.withChain s q d work).pending = s.pending := by
  unfold State.withChain; (try dsimp only); (repeat' split) <;> simp_all [State.operand_keeps _ _ _ _ _ _, State.failDesc_keeps _ _ _ _ _]

@[simp] theorem State.withChain_brg (s : State) (q : ℕ) (d : Desc) (work : State → List Byte → State) (hwork : ∀ (t : State) (x0 : List Byte), (work t x0).brg = t.brg) :
    (State.withChain s q d work).brg = s.brg := by
  unfold State.withChain; (try dsimp only); (repeat' split) <;> simp_all [State.operand_keeps _ _ _ _ _ _, State.failDesc_keeps _ _ _ _ _]

@[simp] theorem State.withChain_clk (s : State) (q : ℕ) (d : Desc) (work : State → List Byte → State) (hwork : ∀ (t : State) (x0 : List Byte), (work t x0).clk = t.clk) :
    (State.withChain s q d work).clk = s.clk := by
  unfold State.withChain; (try dsimp only); (repeat' split) <;> simp_all [State.operand_keeps _ _ _ _ _ _, State.failDesc_keeps _ _ _ _ _]

@[simp] theorem State.withChain_hsc (s : State) (q : ℕ) (d : Desc) (work : State → List Byte → State) (hwork : ∀ (t : State) (x0 : List Byte), (work t x0).hsc = t.hsc) :
    (State.withChain s q d work).hsc = s.hsc := by
  unfold State.withChain; (try dsimp only); (repeat' split) <;> simp_all [State.operand_keeps _ _ _ _ _ _, State.failDesc_keeps _ _ _ _ _]

@[simp] theorem State.withChain_boot (s : State) (q : ℕ) (d : Desc) (work : State → List Byte → State) (hwork : ∀ (t : State) (x0 : List Byte), (work t x0).boot = t.boot) :
    (State.withChain s q d work).boot = s.boot := by
  unfold State.withChain; (try dsimp only); (repeat' split) <;> simp_all [State.operand_keeps _ _ _ _ _ _, State.failDesc_keeps _ _ _ _ _]

@[simp] theorem State.withChain_core (s : State) (q : ℕ) (d : Desc) (work : State → List Byte → State) (hwork : ∀ (t : State) (x0 : List Byte), (work t x0).core = t.core) :
    (State.withChain s q d work).core = s.core := by
  unfold State.withChain; (try dsimp only); (repeat' split) <;> simp_all [State.operand_keeps _ _ _ _ _ _, State.failDesc_keeps _ _ _ _ _]

theorem State.endStream_keeps (s : State) (q : ℕ) (ix : ℕ) (cons : ℕ) (prod : ℕ) (crc : Word) (st : Option ℕ) (off : ℕ) :
    (State.endStream s q ix cons prod crc st off).now = s.now ∧ (State.endStream s q ix cons prod crc st off).free = s.free ∧ (State.endStream s q ix cons prod crc st off).pending = s.pending ∧ (State.endStream s q ix cons prod crc st off).regs = s.regs ∧ (State.endStream s q ix cons prod crc st off).flt = s.flt ∧ (State.endStream s q ix cons prod crc st off).amap = s.amap ∧ (State.endStream s q ix cons prod crc st off).mem = s.mem ∧ (State.endStream s q ix cons prod crc st off).ddr = s.ddr ∧ (State.endStream s q ix cons prod crc st off).tier = s.tier ∧ (State.endStream s q ix cons prod crc st off).brg = s.brg ∧ (State.endStream s q ix cons prod crc st off).clk = s.clk ∧ (State.endStream s q ix cons prod crc st off).hsc = s.hsc ∧ (State.endStream s q ix cons prod crc st off).boot = s.boot ∧ (State.endStream s q ix cons prod crc st off).core = s.core ∧ (State.endStream s q ix cons prod crc st off).mgmt = s.mgmt := by
  unfold State.endStream; simp [State.endDesc_keeps _ _ _ _]

theorem State.coded_keeps (s : State) (q : ℕ) (n : ℕ) :
    (State.coded s q n).now = s.now ∧ (State.coded s q n).free = s.free ∧ (State.coded s q n).pending = s.pending ∧ (State.coded s q n).out = s.out ∧ (State.coded s q n).regs = s.regs ∧ (State.coded s q n).ret = s.ret ∧ (State.coded s q n).evt = s.evt ∧ (State.coded s q n).flt = s.flt ∧ (State.coded s q n).obs = s.obs ∧ (State.coded s q n).host = s.host ∧ (State.coded s q n).amap = s.amap ∧ (State.coded s q n).mem = s.mem ∧ (State.coded s q n).home = s.home ∧ (State.coded s q n).ddr = s.ddr ∧ (State.coded s q n).tier = s.tier ∧ (State.coded s q n).dm = s.dm ∧ (State.coded s q n).dunas = s.dunas ∧ (State.coded s q n).brg = s.brg ∧ (State.coded s q n).clk = s.clk ∧ (State.coded s q n).hsc = s.hsc ∧ (State.coded s q n).boot = s.boot ∧ (State.coded s q n).core = s.core := by
  unfold State.coded; simp

theorem State.engineFailed_keeps (s : State) (q : ℕ) (d : Desc) :
    (State.engineFailed s q d).now = s.now ∧ (State.engineFailed s q d).free = s.free ∧ (State.engineFailed s q d).pending = s.pending ∧ (State.engineFailed s q d).regs = s.regs ∧ (State.engineFailed s q d).flt = s.flt ∧ (State.engineFailed s q d).amap = s.amap ∧ (State.engineFailed s q d).mem = s.mem ∧ (State.engineFailed s q d).ddr = s.ddr ∧ (State.engineFailed s q d).tier = s.tier ∧ (State.engineFailed s q d).brg = s.brg ∧ (State.engineFailed s q d).clk = s.clk ∧ (State.engineFailed s q d).hsc = s.hsc ∧ (State.engineFailed s q d).boot = s.boot ∧ (State.engineFailed s q d).core = s.core ∧ (State.engineFailed s q d).mgmt = s.mgmt := by
  unfold State.engineFailed; simp [State.endDesc_keeps _ _ _ _]

@[simp] theorem State.onEngine_now (s : State) (q : ℕ) (d : Desc) (e : ℕ) (work : State) (hwork : work.now = s.now) :
    (State.onEngine s q d e work).now = s.now := by
  unfold State.onEngine; simp [hwork, State.callEngine_keeps _ _, State.engineUsed_keeps _ _, State.engineFailed_keeps _ _ _]

@[simp] theorem State.onEngine_free (s : State) (q : ℕ) (d : Desc) (e : ℕ) (work : State) (hwork : work.free = s.free) :
    (State.onEngine s q d e work).free = s.free := by
  unfold State.onEngine; simp [hwork, State.callEngine_keeps _ _, State.engineUsed_keeps _ _, State.engineFailed_keeps _ _ _]

@[simp] theorem State.onEngine_pending (s : State) (q : ℕ) (d : Desc) (e : ℕ) (work : State) (hwork : work.pending = s.pending) :
    (State.onEngine s q d e work).pending = s.pending := by
  unfold State.onEngine; simp [hwork, State.callEngine_keeps _ _, State.engineUsed_keeps _ _, State.engineFailed_keeps _ _ _]

@[simp] theorem State.onEngine_regs (s : State) (q : ℕ) (d : Desc) (e : ℕ) (work : State) (hwork : work.regs = s.regs) :
    (State.onEngine s q d e work).regs = s.regs := by
  unfold State.onEngine; simp [hwork, State.callEngine_keeps _ _, State.engineUsed_keeps _ _, State.engineFailed_keeps _ _ _]

@[simp] theorem State.onEngine_flt (s : State) (q : ℕ) (d : Desc) (e : ℕ) (work : State) (hwork : work.flt = s.flt) :
    (State.onEngine s q d e work).flt = s.flt := by
  unfold State.onEngine; simp [hwork, State.callEngine_keeps _ _, State.engineUsed_keeps _ _, State.engineFailed_keeps _ _ _]

@[simp] theorem State.onEngine_amap (s : State) (q : ℕ) (d : Desc) (e : ℕ) (work : State) (hwork : work.amap = s.amap) :
    (State.onEngine s q d e work).amap = s.amap := by
  unfold State.onEngine; simp [hwork, State.callEngine_keeps _ _, State.engineUsed_keeps _ _, State.engineFailed_keeps _ _ _]

@[simp] theorem State.onEngine_mem (s : State) (q : ℕ) (d : Desc) (e : ℕ) (work : State) (hwork : work.mem = s.mem) :
    (State.onEngine s q d e work).mem = s.mem := by
  unfold State.onEngine; simp [hwork, State.callEngine_keeps _ _, State.engineUsed_keeps _ _, State.engineFailed_keeps _ _ _]

@[simp] theorem State.onEngine_ddr (s : State) (q : ℕ) (d : Desc) (e : ℕ) (work : State) (hwork : work.ddr = s.ddr) :
    (State.onEngine s q d e work).ddr = s.ddr := by
  unfold State.onEngine; simp [hwork, State.callEngine_keeps _ _, State.engineUsed_keeps _ _, State.engineFailed_keeps _ _ _]

@[simp] theorem State.onEngine_brg (s : State) (q : ℕ) (d : Desc) (e : ℕ) (work : State) (hwork : work.brg = s.brg) :
    (State.onEngine s q d e work).brg = s.brg := by
  unfold State.onEngine; simp [hwork, State.callEngine_keeps _ _, State.engineUsed_keeps _ _, State.engineFailed_keeps _ _ _]

@[simp] theorem State.onEngine_clk (s : State) (q : ℕ) (d : Desc) (e : ℕ) (work : State) (hwork : work.clk = s.clk) :
    (State.onEngine s q d e work).clk = s.clk := by
  unfold State.onEngine; simp [hwork, State.callEngine_keeps _ _, State.engineUsed_keeps _ _, State.engineFailed_keeps _ _ _]

@[simp] theorem State.onEngine_hsc (s : State) (q : ℕ) (d : Desc) (e : ℕ) (work : State) (hwork : work.hsc = s.hsc) :
    (State.onEngine s q d e work).hsc = s.hsc := by
  unfold State.onEngine; simp [hwork, State.callEngine_keeps _ _, State.engineUsed_keeps _ _, State.engineFailed_keeps _ _ _]

@[simp] theorem State.onEngine_boot (s : State) (q : ℕ) (d : Desc) (e : ℕ) (work : State) (hwork : work.boot = s.boot) :
    (State.onEngine s q d e work).boot = s.boot := by
  unfold State.onEngine; simp [hwork, State.callEngine_keeps _ _, State.engineUsed_keeps _ _, State.engineFailed_keeps _ _ _]

@[simp] theorem State.onEngine_core (s : State) (q : ℕ) (d : Desc) (e : ℕ) (work : State) (hwork : work.core = s.core) :
    (State.onEngine s q d e work).core = s.core := by
  unfold State.onEngine; simp [hwork, State.callEngine_keeps _ _, State.engineUsed_keeps _ _, State.engineFailed_keeps _ _ _]

@[simp] theorem State.onEngine_mgmt (s : State) (q : ℕ) (d : Desc) (e : ℕ) (work : State) (hwork : work.mgmt = s.mgmt) :
    (State.onEngine s q d e work).mgmt = s.mgmt := by
  unfold State.onEngine; simp [hwork, State.callEngine_keeps _ _, State.engineUsed_keeps _ _, State.engineFailed_keeps _ _ _]

theorem State.resealOn_keeps (s : State) (p : ℕ) (e : PageEntry) (i : ℕ) (f : ℕ) :
    (State.resealOn s p e i f).now = s.now ∧ (State.resealOn s p e i f).pending = s.pending ∧ (State.resealOn s p e i f).dm = s.dm ∧ (State.resealOn s p e i f).brg = s.brg ∧ (State.resealOn s p e i f).clk = s.clk ∧ (State.resealOn s p e i f).hsc = s.hsc ∧ (State.resealOn s p e i f).boot = s.boot ∧ (State.resealOn s p e i f).core = s.core := by
  unfold State.resealOn; simp [State.giveBack_keeps _ _ _, State.nextMajor_keeps _ _, State.setEntry_keeps _ _ _, State.runPage_keeps _ _]

theorem State.zeroReseal_keeps (s : State) (p : ℕ) :
    (State.zeroReseal s p).1.now = s.now ∧ (State.zeroReseal s p).1.pending = s.pending ∧ (State.zeroReseal s p).1.dm = s.dm ∧ (State.zeroReseal s p).1.brg = s.brg ∧ (State.zeroReseal s p).1.clk = s.clk ∧ (State.zeroReseal s p).1.hsc = s.hsc ∧ (State.zeroReseal s p).1.boot = s.boot ∧ (State.zeroReseal s p).1.core = s.core := by
  obtain ⟨P, hP⟩ : ∃ P : State → Prop, P = fun x => x.now = s.now ∧ x.pending = s.pending ∧ x.dm = s.dm ∧ x.brg = s.brg ∧ x.clk = s.clk ∧ x.hsc = s.hsc ∧ x.boot = s.boot ∧ x.core = s.core := ⟨_, rfl⟩
  suffices h : P (State.zeroReseal s p).1 by rw [hP] at h; exact h
  unfold State.zeroReseal; (try dsimp only); (repeat' split) <;> (try have := State.takeFrame_keeps _ _ _ ‹State.takeFrame _ _ _ = some _›) <;> subst hP <;> simp_all [State.dropParcels_keeps _ _, State.setAtoms_keeps _ _ _, State.resealOn_keeps _ _ _ _ _]

theorem State.resealPages_keeps (a0 : ℕ) (a1 : ℕ) (a2 : ℕ) (a3 : State) :
    (State.resealPages a0 a1 a2 a3).now = a3.now ∧ (State.resealPages a0 a1 a2 a3).pending = a3.pending ∧ (State.resealPages a0 a1 a2 a3).brg = a3.brg ∧ (State.resealPages a0 a1 a2 a3).clk = a3.clk ∧ (State.resealPages a0 a1 a2 a3).hsc = a3.hsc ∧ (State.resealPages a0 a1 a2 a3).boot = a3.boot ∧ (State.resealPages a0 a1 a2 a3).core = a3.core := by
  fun_induction State.resealPages a0 a1 a2 a3 <;> simp_all +zetaDelta [State.endDesc_keeps _ _ _ _, State.failDesc_keeps _ _ _ _ _, State.needChunk_keeps _ _, State.dmRequest_keeps _ _ _ _ _, State.zeroReseal_keeps _ _, State.moved_keeps _ _ _, State.onDesc_keeps _ _ _ _]

theorem State.elemFailed_keeps (s : State) (key : ℕ) (st : ℕ) (k : ℕ) :
    (State.elemFailed s key st k).now = s.now ∧ (State.elemFailed s key st k).free = s.free ∧ (State.elemFailed s key st k).pending = s.pending ∧ (State.elemFailed s key st k).out = s.out ∧ (State.elemFailed s key st k).regs = s.regs ∧ (State.elemFailed s key st k).ret = s.ret ∧ (State.elemFailed s key st k).evt = s.evt ∧ (State.elemFailed s key st k).flt = s.flt ∧ (State.elemFailed s key st k).obs = s.obs ∧ (State.elemFailed s key st k).host = s.host ∧ (State.elemFailed s key st k).amap = s.amap ∧ (State.elemFailed s key st k).mem = s.mem ∧ (State.elemFailed s key st k).ddr = s.ddr ∧ (State.elemFailed s key st k).tier = s.tier ∧ (State.elemFailed s key st k).dm = s.dm ∧ (State.elemFailed s key st k).dunas = s.dunas ∧ (State.elemFailed s key st k).brg = s.brg ∧ (State.elemFailed s key st k).clk = s.clk ∧ (State.elemFailed s key st k).hsc = s.hsc ∧ (State.elemFailed s key st k).boot = s.boot ∧ (State.elemFailed s key st k).core = s.core ∧ (State.elemFailed s key st k).mgmt = s.mgmt := by
  unfold State.elemFailed; simp

theorem State.startElem_keeps (s : State) (q : ℕ) (ix : ℕ) (e : List Byte) (k : ℕ) :
    (State.startElem s q ix e k).now = s.now ∧ (State.startElem s q ix e k).pending = s.pending ∧ (State.startElem s q ix e k).dm = s.dm ∧ (State.startElem s q ix e k).brg = s.brg ∧ (State.startElem s q ix e k).clk = s.clk ∧ (State.startElem s q ix e k).hsc = s.hsc ∧ (State.startElem s q ix e k).boot = s.boot ∧ (State.startElem s q ix e k).core = s.core := by
  unfold State.startElem; (repeat' split) <;> simp [State.elemFailed_keeps _ _ _ _, State.staleHandle_keeps _ _ _, State.dmRequest_keeps _ _ _ _ _]

theorem State.runElems_keeps (q : ℕ) (ix : ℕ) (a2 : List (List Byte)) (a3 : ℕ) (a4 : State) :
    (State.runElems q ix a2 a3 a4).now = a4.now ∧ (State.runElems q ix a2 a3 a4).pending = a4.pending ∧ (State.runElems q ix a2 a3 a4).dm = a4.dm ∧ (State.runElems q ix a2 a3 a4).brg = a4.brg ∧ (State.runElems q ix a2 a3 a4).clk = a4.clk ∧ (State.runElems q ix a2 a3 a4).hsc = a4.hsc ∧ (State.runElems q ix a2 a3 a4).boot = a4.boot ∧ (State.runElems q ix a2 a3 a4).core = a4.core := by
  fun_induction State.runElems q ix a2 a3 a4 <;> simp_all +zetaDelta [State.startElem_keeps _ _ _ _ _]

theorem State.peerHalf_keeps (s : State) (q : ℕ) (aux : ℕ) (h : ℕ) (b : List (Option Byte)) :
    (State.peerHalf s q aux h b).now = s.now ∧ (State.peerHalf s q aux h b).free = s.free ∧ (State.peerHalf s q aux h b).pending = s.pending ∧ (State.peerHalf s q aux h b).regs = s.regs ∧ (State.peerHalf s q aux h b).ret = s.ret ∧ (State.peerHalf s q aux h b).evt = s.evt ∧ (State.peerHalf s q aux h b).flt = s.flt ∧ (State.peerHalf s q aux h b).amap = s.amap ∧ (State.peerHalf s q aux h b).mem = s.mem ∧ (State.peerHalf s q aux h b).home = s.home ∧ (State.peerHalf s q aux h b).ddr = s.ddr ∧ (State.peerHalf s q aux h b).tier = s.tier ∧ (State.peerHalf s q aux h b).dm = s.dm ∧ (State.peerHalf s q aux h b).brg = s.brg ∧ (State.peerHalf s q aux h b).clk = s.clk ∧ (State.peerHalf s q aux h b).hsc = s.hsc ∧ (State.peerHalf s q aux h b).boot = s.boot ∧ (State.peerHalf s q aux h b).core = s.core ∧ (State.peerHalf s q aux h b).mgmt = s.mgmt := by
  unfold State.peerHalf; simp [State.hostWrites_keeps _ _ _ _ _ _ _]

theorem State.flushRead_keeps (s : State) (q : ℕ) (ix : ℕ) (aux : ℕ) :
    (State.flushRead s q ix aux).now = s.now ∧ (State.flushRead s q ix aux).free = s.free ∧ (State.flushRead s q ix aux).pending = s.pending ∧ (State.flushRead s q ix aux).regs = s.regs ∧ (State.flushRead s q ix aux).ret = s.ret ∧ (State.flushRead s q ix aux).evt = s.evt ∧ (State.flushRead s q ix aux).flt = s.flt ∧ (State.flushRead s q ix aux).amap = s.amap ∧ (State.flushRead s q ix aux).mem = s.mem ∧ (State.flushRead s q ix aux).home = s.home ∧ (State.flushRead s q ix aux).ddr = s.ddr ∧ (State.flushRead s q ix aux).tier = s.tier ∧ (State.flushRead s q ix aux).brg = s.brg ∧ (State.flushRead s q ix aux).clk = s.clk ∧ (State.flushRead s q ix aux).hsc = s.hsc ∧ (State.flushRead s q ix aux).boot = s.boot ∧ (State.flushRead s q ix aux).core = s.core ∧ (State.flushRead s q ix aux).mgmt = s.mgmt := by
  unfold State.flushRead; simp [State.issueReads_keeps _ _ _ _, State.onDesc_keeps _ _ _ _]

theorem State.dmIrq_keeps (s : State) (q : ℕ) (vec : ℕ) :
    (State.dmIrq s q vec).now = s.now ∧ (State.dmIrq s q vec).free = s.free ∧ (State.dmIrq s q vec).pending = s.pending ∧ (State.dmIrq s q vec).regs = s.regs ∧ (State.dmIrq s q vec).ret = s.ret ∧ (State.dmIrq s q vec).evt = s.evt ∧ (State.dmIrq s q vec).flt = s.flt ∧ (State.dmIrq s q vec).amap = s.amap ∧ (State.dmIrq s q vec).mem = s.mem ∧ (State.dmIrq s q vec).home = s.home ∧ (State.dmIrq s q vec).ddr = s.ddr ∧ (State.dmIrq s q vec).tier = s.tier ∧ (State.dmIrq s q vec).dm = s.dm ∧ (State.dmIrq s q vec).brg = s.brg ∧ (State.dmIrq s q vec).clk = s.clk ∧ (State.dmIrq s q vec).hsc = s.hsc ∧ (State.dmIrq s q vec).boot = s.boot ∧ (State.dmIrq s q vec).core = s.core ∧ (State.dmIrq s q vec).mgmt = s.mgmt := by
  unfold State.dmIrq; simp [State.onLd_keeps _ _ _, State.toHost_keeps _ _ _]

theorem State.recordDone_keeps (s : State) (q : ℕ) (d : Desc) :
    (State.recordDone s q d).now = s.now ∧ (State.recordDone s q d).free = s.free ∧ (State.recordDone s q d).pending = s.pending ∧ (State.recordDone s q d).flt = s.flt ∧ (State.recordDone s q d).amap = s.amap ∧ (State.recordDone s q d).mem = s.mem ∧ (State.recordDone s q d).ddr = s.ddr ∧ (State.recordDone s q d).tier = s.tier ∧ (State.recordDone s q d).brg = s.brg ∧ (State.recordDone s q d).clk = s.clk ∧ (State.recordDone s q d).hsc = s.hsc ∧ (State.recordDone s q d).boot = s.boot ∧ (State.recordDone s q d).core = s.core ∧ (State.recordDone s q d).mgmt = s.mgmt := by
  unfold State.recordDone; simp [State.count_keeps _ _ _ _, State.onQueue_keeps _ _ _, State.restLink_keeps _ _, State.dmIrq_keeps _ _ _, State.haltQueue_keeps _ _ _]

theorem State.putRecord_keeps (s : State) (q : ℕ) (d : Desc) :
    (State.putRecord s q d).now = s.now ∧ (State.putRecord s q d).pending = s.pending ∧ (State.putRecord s q d).brg = s.brg ∧ (State.putRecord s q d).clk = s.clk ∧ (State.putRecord s q d).hsc = s.hsc ∧ (State.putRecord s q d).boot = s.boot ∧ (State.putRecord s q d).core = s.core := by
  unfold State.putRecord; simp [State.takeFree_keeps _, State.onDesc_keeps _ _ _ _, State.dmPut_keeps _ _ _ _ _ _, State.hostWrites_keeps _ _ _ _ _ _ _, State.recordDone_keeps _ _ _]

end Sys2Proof.Machine
end

