-- ==== Sys2Proof/Laws/PagesKeeps.lean ====
section
/-! SUPPORT. Which fields of the state the operations of Pages leave as they are: a proof
over the operation `State.op` gives simp its lemma `State.op_keeps _ _`. -/

namespace Sys2Proof.Machine

theorem State.takeStaged_keeps (s : State) (p : ℕ) :
    (State.takeStaged s p).now = s.now ∧ (State.takeStaged s p).free = s.free ∧ (State.takeStaged s p).pending = s.pending ∧ (State.takeStaged s p).out = s.out ∧ (State.takeStaged s p).ret = s.ret ∧ (State.takeStaged s p).evt = s.evt ∧ (State.takeStaged s p).flt = s.flt ∧ (State.takeStaged s p).obs = s.obs ∧ (State.takeStaged s p).host = s.host ∧ (State.takeStaged s p).mem = s.mem ∧ (State.takeStaged s p).home = s.home ∧ (State.takeStaged s p).ddr = s.ddr ∧ (State.takeStaged s p).tier = s.tier ∧ (State.takeStaged s p).dm = s.dm ∧ (State.takeStaged s p).dunas = s.dunas ∧ (State.takeStaged s p).brg = s.brg ∧ (State.takeStaged s p).clk = s.clk ∧ (State.takeStaged s p).hsc = s.hsc ∧ (State.takeStaged s p).boot = s.boot ∧ (State.takeStaged s p).core = s.core ∧ (State.takeStaged s p).mgmt = s.mgmt := by
  unfold State.takeStaged; simp

theorem State.activate_keeps (s : State) (p : ℕ) (off : ℕ) (v : ℕ) :
    (State.activate s p off v).now = s.now ∧ (State.activate s p off v).free = s.free ∧ (State.activate s p off v).pending = s.pending ∧ (State.activate s p off v).out = s.out ∧ (State.activate s p off v).ret = s.ret ∧ (State.activate s p off v).evt = s.evt ∧ (State.activate s p off v).flt = s.flt ∧ (State.activate s p off v).obs = s.obs ∧ (State.activate s p off v).host = s.host ∧ (State.activate s p off v).amap = s.amap ∧ (State.activate s p off v).mem = s.mem ∧ (State.activate s p off v).home = s.home ∧ (State.activate s p off v).ddr = s.ddr ∧ (State.activate s p off v).tier = s.tier ∧ (State.activate s p off v).dm = s.dm ∧ (State.activate s p off v).dunas = s.dunas ∧ (State.activate s p off v).brg = s.brg ∧ (State.activate s p off v).clk = s.clk ∧ (State.activate s p off v).hsc = s.hsc ∧ (State.activate s p off v).boot = s.boot ∧ (State.activate s p off v).core = s.core ∧ (State.activate s p off v).mgmt = s.mgmt := by
  unfold State.activate; (repeat' split) <;> simp [State.setReg_keeps _ _ _ _]

theorem State.applyCommit_keeps (s : State) (p : ℕ) :
    (State.applyCommit s p).now = s.now ∧ (State.applyCommit s p).pending = s.pending ∧ (State.applyCommit s p).flt = s.flt ∧ (State.applyCommit s p).home = s.home ∧ (State.applyCommit s p).dm = s.dm ∧ (State.applyCommit s p).brg = s.brg ∧ (State.applyCommit s p).clk = s.clk ∧ (State.applyCommit s p).hsc = s.hsc ∧ (State.applyCommit s p).boot = s.boot ∧ (State.applyCommit s p).core = s.core ∧ (State.applyCommit s p).mgmt = s.mgmt := by
  unfold State.applyCommit; simp [State.activate_keeps _ _ _ _, State.commitEntries_keeps _, State.dropDemotions_keeps _ _]

theorem State.discardStaged_keeps (s : State) (m : Master) (p : ℕ) :
    (State.discardStaged s m p).now = s.now ∧ (State.discardStaged s m p).free = s.free ∧ (State.discardStaged s m p).pending = s.pending ∧ (State.discardStaged s m p).out = s.out ∧ (State.discardStaged s m p).evt = s.evt ∧ (State.discardStaged s m p).flt = s.flt ∧ (State.discardStaged s m p).obs = s.obs ∧ (State.discardStaged s m p).host = s.host ∧ (State.discardStaged s m p).mem = s.mem ∧ (State.discardStaged s m p).home = s.home ∧ (State.discardStaged s m p).ddr = s.ddr ∧ (State.discardStaged s m p).tier = s.tier ∧ (State.discardStaged s m p).dm = s.dm ∧ (State.discardStaged s m p).dunas = s.dunas ∧ (State.discardStaged s m p).brg = s.brg ∧ (State.discardStaged s m p).clk = s.clk ∧ (State.discardStaged s m p).hsc = s.hsc ∧ (State.discardStaged s m p).boot = s.boot ∧ (State.discardStaged s m p).core = s.core ∧ (State.discardStaged s m p).mgmt = s.mgmt := by
  unfold State.discardStaged; (repeat' split) <;> simp [State.retWrite_keeps _ _ _ _]

theorem State.commitWrite_keeps (s : State) (m : Master) (p : ℕ) (v : Word) :
    (State.commitWrite s m p v).now = s.now ∧ (State.commitWrite s m p v).pending = s.pending ∧ (State.commitWrite s m p v).flt = s.flt ∧ (State.commitWrite s m p v).home = s.home ∧ (State.commitWrite s m p v).dm = s.dm ∧ (State.commitWrite s m p v).brg = s.brg ∧ (State.commitWrite s m p v).clk = s.clk ∧ (State.commitWrite s m p v).hsc = s.hsc ∧ (State.commitWrite s m p v).boot = s.boot ∧ (State.commitWrite s m p v).core = s.core ∧ (State.commitWrite s m p v).mgmt = s.mgmt := by
  unfold State.commitWrite; simp [State.takeStaged_keeps _ _, State.applyCommit_keeps _ _, State.discardStaged_keeps _ _ _]

theorem State.writeCommit_keeps (s : State) (m : Master) (p : ℕ) (v : Word) :
    (State.writeCommit s m p v).pending = s.pending ∧ (State.writeCommit s m p v).flt = s.flt ∧ (State.writeCommit s m p v).home = s.home ∧ (State.writeCommit s m p v).dm = s.dm ∧ (State.writeCommit s m p v).hsc = s.hsc ∧ (State.writeCommit s m p v).boot = s.boot ∧ (State.writeCommit s m p v).core = s.core := by
  unfold State.writeCommit; simp [State.commitWrite_keeps _ _ _ _]

theorem State.setLock_keeps (s : State) (p : ℕ) (k : PageLock) :
    (State.setLock s p k).now = s.now ∧ (State.setLock s p k).free = s.free ∧ (State.setLock s p k).pending = s.pending ∧ (State.setLock s p k).out = s.out ∧ (State.setLock s p k).ret = s.ret ∧ (State.setLock s p k).evt = s.evt ∧ (State.setLock s p k).flt = s.flt ∧ (State.setLock s p k).obs = s.obs ∧ (State.setLock s p k).host = s.host ∧ (State.setLock s p k).amap = s.amap ∧ (State.setLock s p k).mem = s.mem ∧ (State.setLock s p k).home = s.home ∧ (State.setLock s p k).ddr = s.ddr ∧ (State.setLock s p k).tier = s.tier ∧ (State.setLock s p k).dm = s.dm ∧ (State.setLock s p k).dunas = s.dunas ∧ (State.setLock s p k).brg = s.brg ∧ (State.setLock s p k).clk = s.clk ∧ (State.setLock s p k).hsc = s.hsc ∧ (State.setLock s p k).boot = s.boot ∧ (State.setLock s p k).core = s.core ∧ (State.setLock s p k).mgmt = s.mgmt := by
  unfold State.setLock; simp

theorem State.lockWrite_keeps (s : State) (m : Master) (p : ℕ) (v : Word) :
    (State.lockWrite s m p v).now = s.now ∧ (State.lockWrite s m p v).free = s.free ∧ (State.lockWrite s m p v).pending = s.pending ∧ (State.lockWrite s m p v).out = s.out ∧ (State.lockWrite s m p v).ret = s.ret ∧ (State.lockWrite s m p v).evt = s.evt ∧ (State.lockWrite s m p v).flt = s.flt ∧ (State.lockWrite s m p v).obs = s.obs ∧ (State.lockWrite s m p v).host = s.host ∧ (State.lockWrite s m p v).amap = s.amap ∧ (State.lockWrite s m p v).mem = s.mem ∧ (State.lockWrite s m p v).home = s.home ∧ (State.lockWrite s m p v).ddr = s.ddr ∧ (State.lockWrite s m p v).tier = s.tier ∧ (State.lockWrite s m p v).dm = s.dm ∧ (State.lockWrite s m p v).dunas = s.dunas ∧ (State.lockWrite s m p v).brg = s.brg ∧ (State.lockWrite s m p v).clk = s.clk ∧ (State.lockWrite s m p v).hsc = s.hsc ∧ (State.lockWrite s m p v).boot = s.boot ∧ (State.lockWrite s m p v).core = s.core ∧ (State.lockWrite s m p v).mgmt = s.mgmt := by
  unfold State.lockWrite; simp [State.setStatus_keeps _ _ _, State.freeLock_keeps _ _, State.setLock_keeps _ _ _]

theorem State.writeLock_keeps (s : State) (m : Master) (p : ℕ) (v : Word) :
    (State.writeLock s m p v).free = s.free ∧ (State.writeLock s m p v).pending = s.pending ∧ (State.writeLock s m p v).flt = s.flt ∧ (State.writeLock s m p v).mem = s.mem ∧ (State.writeLock s m p v).home = s.home ∧ (State.writeLock s m p v).tier = s.tier ∧ (State.writeLock s m p v).dm = s.dm ∧ (State.writeLock s m p v).hsc = s.hsc ∧ (State.writeLock s m p v).boot = s.boot ∧ (State.writeLock s m p v).core = s.core := by
  unfold State.writeLock; simp [State.lockWrite_keeps _ _ _ _]

theorem State.mgmtMoved_keeps (s : State) :
    (State.mgmtMoved s).now = s.now ∧ (State.mgmtMoved s).free = s.free ∧ (State.mgmtMoved s).pending = s.pending ∧ (State.mgmtMoved s).out = s.out ∧ (State.mgmtMoved s).ret = s.ret ∧ (State.mgmtMoved s).evt = s.evt ∧ (State.mgmtMoved s).flt = s.flt ∧ (State.mgmtMoved s).obs = s.obs ∧ (State.mgmtMoved s).host = s.host ∧ (State.mgmtMoved s).amap = s.amap ∧ (State.mgmtMoved s).mem = s.mem ∧ (State.mgmtMoved s).home = s.home ∧ (State.mgmtMoved s).ddr = s.ddr ∧ (State.mgmtMoved s).tier = s.tier ∧ (State.mgmtMoved s).dm = s.dm ∧ (State.mgmtMoved s).dunas = s.dunas ∧ (State.mgmtMoved s).brg = s.brg ∧ (State.mgmtMoved s).clk = s.clk ∧ (State.mgmtMoved s).hsc = s.hsc ∧ (State.mgmtMoved s).boot = s.boot ∧ (State.mgmtMoved s).core = s.core ∧ (State.mgmtMoved s).mgmt = s.mgmt := by
  unfold State.mgmtMoved; simp [State.freeLocks_keeps _ _]

end Sys2Proof.Machine
end

