-- ==== Sys2Proof/Laws/ProtectKeeps.lean ====
section
/-! SUPPORT. Which fields of the state the operations of Protect leave as they are: a proof
over the operation `State.op` gives simp its lemma `State.op_keeps _ _`. -/

namespace Sys2Proof.Machine

theorem State.mcFlush_keeps (s : State) (hs : ℕ) :
    (State.mcFlush s hs).now = s.now ∧ (State.mcFlush s hs).pending = s.pending ∧ (State.mcFlush s hs).regs = s.regs ∧ (State.mcFlush s hs).home = s.home ∧ (State.mcFlush s hs).dm = s.dm ∧ (State.mcFlush s hs).brg = s.brg ∧ (State.mcFlush s hs).clk = s.clk ∧ (State.mcFlush s hs).hsc = s.hsc ∧ (State.mcFlush s hs).boot = s.boot ∧ (State.mcFlush s hs).core = s.core ∧ (State.mcFlush s hs).mgmt = s.mgmt := by
  unfold State.mcFlush; simp [State.cleanTo_keeps _ _ _ _]

end Sys2Proof.Machine
end

