-- ==== Sys2Proof/Laws/RegWriteKeeps.lean ====
section
/-! SUPPORT. Which fields of the state the operations of RegWrite leave as they are: a proof
over the operation `State.op` gives simp its lemma `State.op_keeps _ _`. -/

namespace Sys2Proof.Machine

theorem State.rstoreProtected_keeps (s : State) :
    (State.rstoreProtected s).now = s.now ∧ (State.rstoreProtected s).free = s.free ∧ (State.rstoreProtected s).pending = s.pending ∧ (State.rstoreProtected s).out = s.out ∧ (State.rstoreProtected s).regs = s.regs ∧ (State.rstoreProtected s).evt = s.evt ∧ (State.rstoreProtected s).flt = s.flt ∧ (State.rstoreProtected s).obs = s.obs ∧ (State.rstoreProtected s).host = s.host ∧ (State.rstoreProtected s).amap = s.amap ∧ (State.rstoreProtected s).mem = s.mem ∧ (State.rstoreProtected s).home = s.home ∧ (State.rstoreProtected s).ddr = s.ddr ∧ (State.rstoreProtected s).tier = s.tier ∧ (State.rstoreProtected s).dm = s.dm ∧ (State.rstoreProtected s).dunas = s.dunas ∧ (State.rstoreProtected s).brg = s.brg ∧ (State.rstoreProtected s).clk = s.clk ∧ (State.rstoreProtected s).hsc = s.hsc ∧ (State.rstoreProtected s).boot = s.boot ∧ (State.rstoreProtected s).core = s.core ∧ (State.rstoreProtected s).mgmt = s.mgmt := by
  unfold State.rstoreProtected; simp

theorem State.rstoreData_keeps (s : State) (m : Master) (v : Word) :
    (State.rstoreData s m v).now = s.now ∧ (State.rstoreData s m v).free = s.free ∧ (State.rstoreData s m v).pending = s.pending ∧ (State.rstoreData s m v).regs = s.regs ∧ (State.rstoreData s m v).evt = s.evt ∧ (State.rstoreData s m v).flt = s.flt ∧ (State.rstoreData s m v).host = s.host ∧ (State.rstoreData s m v).amap = s.amap ∧ (State.rstoreData s m v).mem = s.mem ∧ (State.rstoreData s m v).home = s.home ∧ (State.rstoreData s m v).ddr = s.ddr ∧ (State.rstoreData s m v).tier = s.tier ∧ (State.rstoreData s m v).dm = s.dm ∧ (State.rstoreData s m v).brg = s.brg ∧ (State.rstoreData s m v).clk = s.clk ∧ (State.rstoreData s m v).hsc = s.hsc ∧ (State.rstoreData s m v).boot = s.boot ∧ (State.rstoreData s m v).core = s.core ∧ (State.rstoreData s m v).mgmt = s.mgmt := by
  unfold State.rstoreData; (repeat' split) <;> simp [State.emit_keeps _ _, State.rstoreProtected_keeps _, State.retWrite_keeps _ _ _ _]

theorem State.commonEffect_keeps (s : State) (m : Master) (p : ℕ) (x : ℕ) (v : Word) :
    (State.commonEffect s m p x v).now = s.now ∧ (State.commonEffect s m p x v).pending = s.pending ∧ (State.commonEffect s m p x v).home = s.home ∧ (State.commonEffect s m p x v).dm = s.dm ∧ (State.commonEffect s m p x v).brg = s.brg ∧ (State.commonEffect s m p x v).clk = s.clk ∧ (State.commonEffect s m p x v).hsc = s.hsc ∧ (State.commonEffect s m p x v).boot = s.boot ∧ (State.commonEffect s m p x v).core = s.core ∧ (State.commonEffect s m p x v).mgmt = s.mgmt := by
  unfold State.commonEffect; simp [State.clearAt_keeps _ _ _, State.enableAt_keeps _ _ _, State.ownRoute_keeps _ _ _, State.commitWrite_keeps _ _ _ _, State.lockWrite_keeps _ _ _ _, State.clearRec_keeps _ _, State.pmcCtl_keeps _ _ _, State.pmcOvf_keeps _ _ _, State.pmcEvsel_keeps _ _ _]

theorem State.dillEffect_keeps (s : State) (m : Master) (p : ℕ) (x : ℕ) (v : Word) :
    (State.dillEffect s m p x v).now = s.now ∧ (State.dillEffect s m p x v).pending = s.pending := by
  unfold State.dillEffect; (repeat' split) <;> simp [State.rstWrite_keeps _ _ _ _, State.fwuCmd_keeps _ _ _, State.mgmtMoved_keeps _, State.cctl_keeps _ _ _ _, State.cmaint_keeps _ _ _ _, State.rstoreData_keeps _ _ _, State.fcCmd_keeps _ _ _, State.evrRoute_keeps _ _, State.clearPend_keeps _ _ _, State.setEnables_keeps _ _ _, State.hscOp_keeps _ _ _, State.swapRef_keeps _, State.onClk_keeps _ _, State.dsel_keeps _ _ _]

theorem State.ddrEffect_keeps (s : State) (p : ℕ) (x : ℕ) (v : Word) :
    (State.ddrEffect s p x v).now = s.now ∧ (State.ddrEffect s p x v).pending = s.pending ∧ (State.ddrEffect s p x v).dm = s.dm ∧ (State.ddrEffect s p x v).brg = s.brg ∧ (State.ddrEffect s p x v).clk = s.clk ∧ (State.ddrEffect s p x v).hsc = s.hsc ∧ (State.ddrEffect s p x v).boot = s.boot ∧ (State.ddrEffect s p x v).core = s.core := by
  unfold State.ddrEffect; (repeat' split) <;> simp [State.onChan_keeps _ _ _, State.fctlGo_keeps _ _, State.drainCmd_keeps _ _, State.powerDownCmd_keeps _ _, State.returnCmd_keeps _ _ _ _, State.svcCancelCmd_keeps _ _, State.spareCmd_keeps _ _ _, State.softCmd_keeps _ _ _, State.hardCmd_keeps _ _, State.resilverCmd_keeps _ _, State.unresilver_keeps _ _]

theorem State.blockEffect_keeps (s : State) (m : Master) (p : ℕ) (x : ℕ) (v : Word) (was : Bool) :
    (State.blockEffect s m p x v was).now = s.now ∧ (State.blockEffect s m p x v was).pending = s.pending := by
  unfold State.blockEffect; (repeat' split) <;> simp [State.attention_keeps _ _, State.retrainLink_keeps _ _, State.dmqConfigured_keeps _ _, State.dmqAborted_keeps _ _, State.tcmd_keeps _ _ _ _, State.mcFlush_keeps _ _, State.dropDemotions_keeps _ _, State.promoteDomain_keeps _ _, State.cancelDomain_keeps _, State.startJob_keeps _ _ _ _, State.cancelJob_keeps _ _, State.dlnkCmd_keeps _ _ _, State.trcCfg_keeps _ _, State.trcRptr_keeps _, State.pmcGctl_keeps _ _, State.ddrEffect_keeps _ _ _ _, State.dillEffect_keeps _ _ _ _ _]

theorem State.regEffect_keeps (s : State) (m : Master) (off : ℕ) (v : Word) (was : Bool) :
    (State.regEffect s m off v was).now = s.now ∧ (State.regEffect s m off v was).pending = s.pending := by
  unfold State.regEffect; simp [State.commonEffect_keeps _ _ _ _ _, State.blockEffect_keeps _ _ _ _ _ _]

theorem State.writeReg_keeps (s : State) (m : Master) (who : Option Master) (off : ℕ) (v : Word) :
    (State.writeReg s m who off v).1.now = s.now ∧ (State.writeReg s m who off v).1.pending = s.pending := by
  unfold State.writeReg; simp [State.regEffect_keeps _ _ _ _ _]

theorem State.latchRead_keeps (s : State) (off : ℕ) :
    (State.latchRead s off).now = s.now ∧ (State.latchRead s off).free = s.free ∧ (State.latchRead s off).pending = s.pending ∧ (State.latchRead s off).out = s.out ∧ (State.latchRead s off).regs = s.regs ∧ (State.latchRead s off).ret = s.ret ∧ (State.latchRead s off).evt = s.evt ∧ (State.latchRead s off).host = s.host ∧ (State.latchRead s off).amap = s.amap ∧ (State.latchRead s off).mem = s.mem ∧ (State.latchRead s off).home = s.home ∧ (State.latchRead s off).ddr = s.ddr ∧ (State.latchRead s off).tier = s.tier ∧ (State.latchRead s off).dm = s.dm ∧ (State.latchRead s off).dunas = s.dunas ∧ (State.latchRead s off).brg = s.brg ∧ (State.latchRead s off).clk = s.clk ∧ (State.latchRead s off).hsc = s.hsc ∧ (State.latchRead s off).boot = s.boot ∧ (State.latchRead s off).core = s.core ∧ (State.latchRead s off).mgmt = s.mgmt := by
  unfold State.latchRead; simp [State.settlePage_keeps _ _, State.onBank_keeps _ _ _]

theorem State.readReg_keeps (s : State) (m : Master) (off : ℕ) :
    (State.readReg s m off).1.now = s.now ∧ (State.readReg s m off).1.free = s.free ∧ (State.readReg s m off).1.pending = s.pending ∧ (State.readReg s m off).1.ret = s.ret ∧ (State.readReg s m off).1.evt = s.evt ∧ (State.readReg s m off).1.host = s.host ∧ (State.readReg s m off).1.amap = s.amap ∧ (State.readReg s m off).1.mem = s.mem ∧ (State.readReg s m off).1.home = s.home ∧ (State.readReg s m off).1.ddr = s.ddr ∧ (State.readReg s m off).1.tier = s.tier ∧ (State.readReg s m off).1.dm = s.dm ∧ (State.readReg s m off).1.hsc = s.hsc ∧ (State.readReg s m off).1.boot = s.boot ∧ (State.readReg s m off).1.core = s.core ∧ (State.readReg s m off).1.mgmt = s.mgmt := by
  obtain ⟨P, hP⟩ : ∃ P : State → Prop, P = fun x => x.now = s.now ∧ x.free = s.free ∧ x.pending = s.pending ∧ x.ret = s.ret ∧ x.evt = s.evt ∧ x.host = s.host ∧ x.amap = s.amap ∧ x.mem = s.mem ∧ x.home = s.home ∧ x.ddr = s.ddr ∧ x.tier = s.tier ∧ x.dm = s.dm ∧ x.hsc = s.hsc ∧ x.boot = s.boot ∧ x.core = s.core ∧ x.mgmt = s.mgmt := ⟨_, rfl⟩
  suffices h : P (State.readReg s m off).1 by rw [hP] at h; exact h
  unfold State.readReg; (try dsimp only); (repeat' split) <;> skip <;> subst hP <;> simp_all [State.wstat_keeps _ _ _, State.brgRegSend_keeps _ _ _ _, State.startWake_keeps _ _, State.latchRead_keeps _ _, State.touchLock_keeps _ _ _, State.usedAt_keeps _ _, State.countAccess_keeps _ _]

theorem runWords_keeps (a0 : ℕ) (a1 : Master) (a2 : SbJob) (a3 : State) :
    (runWords a0 a1 a2 a3).1.now = a3.now ∧ (runWords a0 a1 a2 a3).1.pending = a3.pending := by
  fun_induction runWords a0 a1 a2 a3 <;> simp_all +zetaDelta [State.readReg_keeps _ _ _, State.writeReg_keeps _ _ _ _ _]

theorem runSb_keeps (a0 : ℕ) (a1 : State) :
    (runSb a0 a1).now = a1.now ∧ (runSb a0 a1).pending = a1.pending := by
  fun_induction runSb a0 a1 <;> simp_all +zetaDelta [runWords_keeps _ _ _ _, State.emit_keeps _ _, State.onMgmt_keeps _ _]

theorem State.goSb_keeps (s : State) :
    (State.goSb s).now = s.now ∧ (State.goSb s).pending = s.pending := by
  unfold State.goSb; simp [runSb_keeps _ _]

theorem State.runMb_keeps (s : State) :
    (State.runMb s).now = s.now ∧ (State.runMb s).pending = s.pending := by
  unfold State.runMb; (repeat' split) <;> simp [runWords_keeps _ _ _ _, State.emit_keeps _ _, State.onMgmt_keeps _ _]

theorem State.returnRead_keeps (s : State) (m : Master) (off : ℕ) (v : Word) :
    (State.returnRead s m off v).now = s.now ∧ (State.returnRead s m off v).free = s.free ∧ (State.returnRead s m off v).pending = s.pending ∧ (State.returnRead s m off v).regs = s.regs ∧ (State.returnRead s m off v).ret = s.ret ∧ (State.returnRead s m off v).evt = s.evt ∧ (State.returnRead s m off v).flt = s.flt ∧ (State.returnRead s m off v).amap = s.amap ∧ (State.returnRead s m off v).mem = s.mem ∧ (State.returnRead s m off v).home = s.home ∧ (State.returnRead s m off v).ddr = s.ddr ∧ (State.returnRead s m off v).tier = s.tier ∧ (State.returnRead s m off v).dm = s.dm ∧ (State.returnRead s m off v).brg = s.brg ∧ (State.returnRead s m off v).clk = s.clk ∧ (State.returnRead s m off v).hsc = s.hsc ∧ (State.returnRead s m off v).boot = s.boot ∧ (State.returnRead s m off v).core = s.core ∧ (State.returnRead s m off v).mgmt = s.mgmt := by
  unfold State.returnRead; (repeat' split) <;> simp [State.toHost_keeps _ _ _, State.emit_keeps _ _]

theorem State.perform_keeps (s : State) (h : HeldAccess) :
    (State.perform s h).now = s.now ∧ (State.perform s h).pending = s.pending := by
  unfold State.perform; (repeat' split) <;> simp [State.goSb_keeps _, State.onMgmt_keeps _ _, State.unclaimed_keeps _ _ _ _, State.toHost_keeps _ _ _, State.writeReg_keeps _ _ _ _ _, State.refuse_keeps _ _ _, State.readReg_keeps _ _ _, State.returnRead_keeps _ _ _ _]

@[simp] theorem State.access_keeps (s : State) (h : HeldAccess) :
    (State.access s h).pending = s.pending := by
  unfold State.access; simp [State.holdAccess_keeps _ _, State.arrives_keeps _ _, State.perform_keeps _ _, State.afterChange_keeps _ _]

theorem drain_keeps (a0 : ℕ) (a1 : State) :
    (drain a0 a1).now = a1.now ∧ (drain a0 a1).pending = a1.pending := by
  fun_induction drain a0 a1 <;> simp_all +zetaDelta [State.perform_keeps _ _]

theorem State.wakeHeld_keeps (s : State) :
    (State.wakeHeld s).now = s.now ∧ (State.wakeHeld s).pending = s.pending := by
  unfold State.wakeHeld; simp [State.perform_keeps _ _]

theorem State.answerWait_keeps (s : State) (h : HeldAccess) (got : Option Word) (status : ℕ) :
    (State.answerWait s h got status).now = s.now ∧ (State.answerWait s h got status).free = s.free ∧ (State.answerWait s h got status).pending = s.pending ∧ (State.answerWait s h got status).regs = s.regs ∧ (State.answerWait s h got status).ret = s.ret ∧ (State.answerWait s h got status).evt = s.evt ∧ (State.answerWait s h got status).flt = s.flt ∧ (State.answerWait s h got status).amap = s.amap ∧ (State.answerWait s h got status).mem = s.mem ∧ (State.answerWait s h got status).home = s.home ∧ (State.answerWait s h got status).ddr = s.ddr ∧ (State.answerWait s h got status).tier = s.tier ∧ (State.answerWait s h got status).dm = s.dm ∧ (State.answerWait s h got status).brg = s.brg ∧ (State.answerWait s h got status).clk = s.clk ∧ (State.answerWait s h got status).hsc = s.hsc ∧ (State.answerWait s h got status).boot = s.boot ∧ (State.answerWait s h got status).core = s.core := by
  unfold State.answerWait; simp [State.onMgmt_keeps _ _, State.returnRead_keeps _ _ _ _]

end Sys2Proof.Machine
end

