-- ==== Sys2Proof/Laws/MailboxKeeps.lean ====
section
/-! SUPPORT. Which fields of the state the operations of Mailbox leave as they are: a proof
over the operation `State.op` gives simp its lemma `State.op_keeps _ _`. -/

namespace Sys2Proof.Machine

theorem State.mbDone_keeps (s : State) (ld : ℕ) (op : ℕ) (data : List ℕ) :
    (State.mbDone s ld op data).now = s.now ∧ (State.mbDone s ld op data).free = s.free ∧ (State.mbDone s ld op data).pending = s.pending ∧ (State.mbDone s ld op data).regs = s.regs ∧ (State.mbDone s ld op data).ret = s.ret ∧ (State.mbDone s ld op data).evt = s.evt ∧ (State.mbDone s ld op data).flt = s.flt ∧ (State.mbDone s ld op data).host = s.host ∧ (State.mbDone s ld op data).amap = s.amap ∧ (State.mbDone s ld op data).mem = s.mem ∧ (State.mbDone s ld op data).home = s.home ∧ (State.mbDone s ld op data).ddr = s.ddr ∧ (State.mbDone s ld op data).tier = s.tier ∧ (State.mbDone s ld op data).dm = s.dm ∧ (State.mbDone s ld op data).brg = s.brg ∧ (State.mbDone s ld op data).clk = s.clk ∧ (State.mbDone s ld op data).hsc = s.hsc ∧ (State.mbDone s ld op data).boot = s.boot ∧ (State.mbDone s ld op data).core = s.core ∧ (State.mbDone s ld op data).mgmt = s.mgmt := by
  unfold State.mbDone; simp [State.emit_keeps _ _]

theorem State.mbFail_keeps (s : State) (ld : ℕ) (op : ℕ) (code : ℕ) :
    (State.mbFail s ld op code).now = s.now ∧ (State.mbFail s ld op code).free = s.free ∧ (State.mbFail s ld op code).pending = s.pending ∧ (State.mbFail s ld op code).regs = s.regs ∧ (State.mbFail s ld op code).ret = s.ret ∧ (State.mbFail s ld op code).evt = s.evt ∧ (State.mbFail s ld op code).flt = s.flt ∧ (State.mbFail s ld op code).host = s.host ∧ (State.mbFail s ld op code).amap = s.amap ∧ (State.mbFail s ld op code).mem = s.mem ∧ (State.mbFail s ld op code).home = s.home ∧ (State.mbFail s ld op code).ddr = s.ddr ∧ (State.mbFail s ld op code).tier = s.tier ∧ (State.mbFail s ld op code).dm = s.dm ∧ (State.mbFail s ld op code).brg = s.brg ∧ (State.mbFail s ld op code).clk = s.clk ∧ (State.mbFail s ld op code).hsc = s.hsc ∧ (State.mbFail s ld op code).boot = s.boot ∧ (State.mbFail s ld op code).core = s.core ∧ (State.mbFail s ld op code).mgmt = s.mgmt := by
  unfold State.mbFail; simp [State.emit_keeps _ _]

theorem State.mbOpen_keeps (s : State) (ld : ℕ) (op : ℕ) :
    (State.mbOpen s ld op).now = s.now ∧ (State.mbOpen s ld op).pending = s.pending ∧ (State.mbOpen s ld op).regs = s.regs ∧ (State.mbOpen s ld op).ret = s.ret ∧ (State.mbOpen s ld op).evt = s.evt ∧ (State.mbOpen s ld op).flt = s.flt ∧ (State.mbOpen s ld op).host = s.host ∧ (State.mbOpen s ld op).amap = s.amap ∧ (State.mbOpen s ld op).mem = s.mem ∧ (State.mbOpen s ld op).home = s.home ∧ (State.mbOpen s ld op).ddr = s.ddr ∧ (State.mbOpen s ld op).tier = s.tier ∧ (State.mbOpen s ld op).dm = s.dm ∧ (State.mbOpen s ld op).brg = s.brg ∧ (State.mbOpen s ld op).clk = s.clk ∧ (State.mbOpen s ld op).hsc = s.hsc ∧ (State.mbOpen s ld op).boot = s.boot ∧ (State.mbOpen s ld op).core = s.core ∧ (State.mbOpen s ld op).mgmt = s.mgmt := by
  unfold State.mbOpen; simp [State.takeFree_keeps _, State.mbDone_keeps _ _ _ _]

theorem State.mbEventsOp_keeps (s : State) (ld : ℕ) (log : ℕ) :
    (State.mbEventsOp s ld log).now = s.now ∧ (State.mbEventsOp s ld log).free = s.free ∧ (State.mbEventsOp s ld log).pending = s.pending ∧ (State.mbEventsOp s ld log).regs = s.regs ∧ (State.mbEventsOp s ld log).ret = s.ret ∧ (State.mbEventsOp s ld log).evt = s.evt ∧ (State.mbEventsOp s ld log).flt = s.flt ∧ (State.mbEventsOp s ld log).host = s.host ∧ (State.mbEventsOp s ld log).amap = s.amap ∧ (State.mbEventsOp s ld log).mem = s.mem ∧ (State.mbEventsOp s ld log).home = s.home ∧ (State.mbEventsOp s ld log).ddr = s.ddr ∧ (State.mbEventsOp s ld log).tier = s.tier ∧ (State.mbEventsOp s ld log).dm = s.dm ∧ (State.mbEventsOp s ld log).brg = s.brg ∧ (State.mbEventsOp s ld log).clk = s.clk ∧ (State.mbEventsOp s ld log).hsc = s.hsc ∧ (State.mbEventsOp s ld log).boot = s.boot ∧ (State.mbEventsOp s ld log).core = s.core ∧ (State.mbEventsOp s ld log).mgmt = s.mgmt := by
  unfold State.mbEventsOp; simp [State.mbDone_keeps _ _ _ _, State.emit_keeps _ _]

theorem State.mbClearOp_keeps (s : State) (ld : ℕ) (log : ℕ) (handles : List (BitVec 16)) :
    (State.mbClearOp s ld log handles).now = s.now ∧ (State.mbClearOp s ld log handles).free = s.free ∧ (State.mbClearOp s ld log handles).pending = s.pending ∧ (State.mbClearOp s ld log handles).regs = s.regs ∧ (State.mbClearOp s ld log handles).ret = s.ret ∧ (State.mbClearOp s ld log handles).evt = s.evt ∧ (State.mbClearOp s ld log handles).flt = s.flt ∧ (State.mbClearOp s ld log handles).amap = s.amap ∧ (State.mbClearOp s ld log handles).mem = s.mem ∧ (State.mbClearOp s ld log handles).home = s.home ∧ (State.mbClearOp s ld log handles).ddr = s.ddr ∧ (State.mbClearOp s ld log handles).tier = s.tier ∧ (State.mbClearOp s ld log handles).dm = s.dm ∧ (State.mbClearOp s ld log handles).brg = s.brg ∧ (State.mbClearOp s ld log handles).clk = s.clk ∧ (State.mbClearOp s ld log handles).hsc = s.hsc ∧ (State.mbClearOp s ld log handles).boot = s.boot ∧ (State.mbClearOp s ld log handles).core = s.core ∧ (State.mbClearOp s ld log handles).mgmt = s.mgmt := by
  unfold State.mbClearOp; simp [State.mbDone_keeps _ _ _ _, State.onLd_keeps _ _ _, State.mbFail_keeps _ _ _ _]

theorem State.mbSetTimeOp_keeps (s : State) (ld : ℕ) (ts : BitVec 64) :
    (State.mbSetTimeOp s ld ts).now = s.now ∧ (State.mbSetTimeOp s ld ts).free = s.free ∧ (State.mbSetTimeOp s ld ts).pending = s.pending ∧ (State.mbSetTimeOp s ld ts).regs = s.regs ∧ (State.mbSetTimeOp s ld ts).ret = s.ret ∧ (State.mbSetTimeOp s ld ts).evt = s.evt ∧ (State.mbSetTimeOp s ld ts).flt = s.flt ∧ (State.mbSetTimeOp s ld ts).amap = s.amap ∧ (State.mbSetTimeOp s ld ts).mem = s.mem ∧ (State.mbSetTimeOp s ld ts).home = s.home ∧ (State.mbSetTimeOp s ld ts).ddr = s.ddr ∧ (State.mbSetTimeOp s ld ts).tier = s.tier ∧ (State.mbSetTimeOp s ld ts).dm = s.dm ∧ (State.mbSetTimeOp s ld ts).brg = s.brg ∧ (State.mbSetTimeOp s ld ts).clk = s.clk ∧ (State.mbSetTimeOp s ld ts).hsc = s.hsc ∧ (State.mbSetTimeOp s ld ts).boot = s.boot ∧ (State.mbSetTimeOp s ld ts).core = s.core ∧ (State.mbSetTimeOp s ld ts).mgmt = s.mgmt := by
  unfold State.mbSetTimeOp; simp [State.mbDone_keeps _ _ _ _, State.onLd_keeps _ _ _]

theorem State.transferOp_keeps (s : State) (ld : ℕ) (slot : ℕ) (last : Bool) (img : FwImage) :
    (State.transferOp s ld slot last img).now = s.now ∧ (State.transferOp s ld slot last img).free = s.free ∧ (State.transferOp s ld slot last img).pending = s.pending ∧ (State.transferOp s ld slot last img).regs = s.regs ∧ (State.transferOp s ld slot last img).ret = s.ret ∧ (State.transferOp s ld slot last img).evt = s.evt ∧ (State.transferOp s ld slot last img).flt = s.flt ∧ (State.transferOp s ld slot last img).host = s.host ∧ (State.transferOp s ld slot last img).amap = s.amap ∧ (State.transferOp s ld slot last img).mem = s.mem ∧ (State.transferOp s ld slot last img).home = s.home ∧ (State.transferOp s ld slot last img).ddr = s.ddr ∧ (State.transferOp s ld slot last img).tier = s.tier ∧ (State.transferOp s ld slot last img).dm = s.dm ∧ (State.transferOp s ld slot last img).brg = s.brg ∧ (State.transferOp s ld slot last img).clk = s.clk ∧ (State.transferOp s ld slot last img).hsc = s.hsc ∧ (State.transferOp s ld slot last img).core = s.core := by
  unfold State.transferOp; simp [State.mbFail_keeps _ _ _ _, State.mbDone_keeps _ _ _ _, State.staged__keeps _ _, State.onMgmt_keeps _ _]

theorem State.activateOp_keeps (s : State) (ld : ℕ) (slot : ℕ) (online : Bool) :
    (State.activateOp s ld slot online).now = s.now ∧ (State.activateOp s ld slot online).free = s.free ∧ (State.activateOp s ld slot online).pending = s.pending ∧ (State.activateOp s ld slot online).regs = s.regs ∧ (State.activateOp s ld slot online).ret = s.ret ∧ (State.activateOp s ld slot online).evt = s.evt ∧ (State.activateOp s ld slot online).flt = s.flt ∧ (State.activateOp s ld slot online).host = s.host ∧ (State.activateOp s ld slot online).amap = s.amap ∧ (State.activateOp s ld slot online).mem = s.mem ∧ (State.activateOp s ld slot online).home = s.home ∧ (State.activateOp s ld slot online).ddr = s.ddr ∧ (State.activateOp s ld slot online).tier = s.tier ∧ (State.activateOp s ld slot online).dm = s.dm ∧ (State.activateOp s ld slot online).brg = s.brg ∧ (State.activateOp s ld slot online).clk = s.clk ∧ (State.activateOp s ld slot online).hsc = s.hsc ∧ (State.activateOp s ld slot online).boot = s.boot ∧ (State.activateOp s ld slot online).core = s.core := by
  unfold State.activateOp; simp [State.mbFail_keeps _ _ _ _, State.mbDone_keeps _ _ _ _, State.onMgmt_keeps _ _]

theorem State.marginOp_keeps (s : State) (ld : ℕ) :
    (State.marginOp s ld).now = s.now ∧ (State.marginOp s ld).free = s.free ∧ (State.marginOp s ld).pending = s.pending ∧ (State.marginOp s ld).regs = s.regs ∧ (State.marginOp s ld).ret = s.ret ∧ (State.marginOp s ld).evt = s.evt ∧ (State.marginOp s ld).flt = s.flt ∧ (State.marginOp s ld).host = s.host ∧ (State.marginOp s ld).amap = s.amap ∧ (State.marginOp s ld).mem = s.mem ∧ (State.marginOp s ld).home = s.home ∧ (State.marginOp s ld).ddr = s.ddr ∧ (State.marginOp s ld).tier = s.tier ∧ (State.marginOp s ld).dm = s.dm ∧ (State.marginOp s ld).brg = s.brg ∧ (State.marginOp s ld).clk = s.clk ∧ (State.marginOp s ld).hsc = s.hsc ∧ (State.marginOp s ld).boot = s.boot ∧ (State.marginOp s ld).core = s.core ∧ (State.marginOp s ld).mgmt = s.mgmt := by
  unfold State.marginOp; (repeat' split) <;> simp [State.mbDone_keeps _ _ _ _]

theorem State.logReadOp_keeps (s : State) (ld : ℕ) (ix : ℕ) :
    (State.logReadOp s ld ix).now = s.now ∧ (State.logReadOp s ld ix).free = s.free ∧ (State.logReadOp s ld ix).pending = s.pending ∧ (State.logReadOp s ld ix).regs = s.regs ∧ (State.logReadOp s ld ix).ret = s.ret ∧ (State.logReadOp s ld ix).evt = s.evt ∧ (State.logReadOp s ld ix).flt = s.flt ∧ (State.logReadOp s ld ix).host = s.host ∧ (State.logReadOp s ld ix).amap = s.amap ∧ (State.logReadOp s ld ix).mem = s.mem ∧ (State.logReadOp s ld ix).home = s.home ∧ (State.logReadOp s ld ix).ddr = s.ddr ∧ (State.logReadOp s ld ix).tier = s.tier ∧ (State.logReadOp s ld ix).dm = s.dm ∧ (State.logReadOp s ld ix).brg = s.brg ∧ (State.logReadOp s ld ix).clk = s.clk ∧ (State.logReadOp s ld ix).hsc = s.hsc ∧ (State.logReadOp s ld ix).boot = s.boot ∧ (State.logReadOp s ld ix).core = s.core ∧ (State.logReadOp s ld ix).mgmt = s.mgmt := by
  unfold State.logReadOp; (repeat' split) <;> simp [State.mbFail_keeps _ _ _ _, State.mbDone_keeps _ _ _ _]

theorem State.regAccessOp_keeps (s : State) (ld : Fin 64) (off : ℕ) (wr : Option Word) :
    (State.regAccessOp s ld off wr).now = s.now ∧ (State.regAccessOp s ld off wr).pending = s.pending := by
  unfold State.regAccessOp; simp [State.mbFail_keeps _ _ _ _, State.runMb_keeps _, State.onMgmt_keeps _ _]

theorem State.fmCommand_keeps (s : State) (op : ℕ) (e : ℕ) (d : ℕ) (m : ℕ) (g : ℕ) :
    (State.fmCommand s op e d m g).now = s.now ∧ (State.fmCommand s op e d m g).pending = s.pending := by
  unfold State.fmCommand; simp [State.writeReg_keeps _ _ _ _ _, State.emit_keeps _ _]

theorem State.mctpServed_keeps (s : State) (m : MctpMsg) :
    (State.mctpServed s m).now = s.now ∧ (State.mctpServed s m).pending = s.pending := by
  unfold State.mctpServed; (repeat' split) <;> simp [State.emit_keeps _ _, State.fmCommand_keeps _ _ _ _ _ _, State.takeFree_keeps _]

theorem State.mctpAlone_keeps (s : State) (m : MctpMsg) :
    (State.mctpAlone s m).now = s.now ∧ (State.mctpAlone s m).pending = s.pending ∧ (State.mctpAlone s m).regs = s.regs ∧ (State.mctpAlone s m).ret = s.ret ∧ (State.mctpAlone s m).evt = s.evt ∧ (State.mctpAlone s m).flt = s.flt ∧ (State.mctpAlone s m).host = s.host ∧ (State.mctpAlone s m).amap = s.amap ∧ (State.mctpAlone s m).mem = s.mem ∧ (State.mctpAlone s m).home = s.home ∧ (State.mctpAlone s m).ddr = s.ddr ∧ (State.mctpAlone s m).tier = s.tier ∧ (State.mctpAlone s m).dm = s.dm ∧ (State.mctpAlone s m).brg = s.brg ∧ (State.mctpAlone s m).clk = s.clk ∧ (State.mctpAlone s m).hsc = s.hsc ∧ (State.mctpAlone s m).boot = s.boot ∧ (State.mctpAlone s m).core = s.core ∧ (State.mctpAlone s m).mgmt = s.mgmt := by
  unfold State.mctpAlone; (repeat' split) <;> simp [State.takeFree_keeps _, State.emit_keeps _ _]

theorem State.serve_keeps (s : State) (a1 : CoreMsg) :
    (State.serve s a1).now = s.now ∧ (State.serve s a1).pending = s.pending := by
  unfold State.serve; (repeat' split) <;> simp [State.mbOpen_keeps _ _ _, State.mbDone_keeps _ _ _ _, State.onLd_keeps _ _ _, State.mbEventsOp_keeps _ _ _, State.mbClearOp_keeps _ _ _ _, State.mbSetTimeOp_keeps _ _ _, State.transferOp_keeps _ _ _ _ _, State.activateOp_keeps _ _ _ _, State.marginOp_keeps _ _, State.logReadOp_keeps _ _ _, State.regAccessOp_keeps _ _ _ _, State.dcAnswer_keeps _ _ _ _ _, State.dcRelease_keeps _ _ _, State.mbFail_keeps _ _ _ _, State.mctpServed_keeps _ _]

theorem State.toCore_keeps (s : State) (i : CoreMsg) :
    (State.toCore s i).now = s.now ∧ (State.toCore s i).pending = s.pending := by
  unfold State.toCore; simp [State.onMgmt_keeps _ _, State.serve_keeps _ _]

theorem State.mailbox_keeps (s : State) (ld : Fin 64) (i : CoreMsg) :
    (State.mailbox s ld i).now = s.now ∧ (State.mailbox s ld i).pending = s.pending := by
  unfold State.mailbox; simp [State.toCore_keeps _ _, State.heard_keeps _ _]

theorem State.goOn_keeps (s : State) :
    (State.goOn s).now = s.now ∧ (State.goOn s).pending = s.pending := by
  unfold State.goOn; simp [State.runMb_keeps _, State.goSb_keeps _, drain_keeps _ _, State.trySwitch_keeps _, State.onMgmt_keeps _ _, State.serve_keeps _ _]

end Sys2Proof.Machine
end

