-- ==== Sys2Proof/Laws/RegCmdsKeeps.lean ====
section
/-! SUPPORT. Which fields of the state the operations of RegCmds leave as they are: a proof
over the operation `State.op` gives simp its lemma `State.op_keeps _ _`. -/

namespace Sys2Proof.Machine

theorem State.direct_keeps (s : State) (j : SbJob) (n : ℕ) :
    (State.direct s j n).now = s.now ∧ (State.direct s j n).pending = s.pending := by
  unfold State.direct; simp [State.emit_keeps _ _, State.goOn_keeps _, State.goSb_keeps _, State.onMgmt_keeps _ _]

theorem State.cfgNext_keeps (s : State) :
    (State.cfgNext s).now = s.now ∧ (State.cfgNext s).free = s.free ∧ (State.cfgNext s).pending = s.pending ∧ (State.cfgNext s).out = s.out ∧ (State.cfgNext s).regs = s.regs ∧ (State.cfgNext s).ret = s.ret ∧ (State.cfgNext s).evt = s.evt ∧ (State.cfgNext s).flt = s.flt ∧ (State.cfgNext s).obs = s.obs ∧ (State.cfgNext s).host = s.host ∧ (State.cfgNext s).amap = s.amap ∧ (State.cfgNext s).mem = s.mem ∧ (State.cfgNext s).home = s.home ∧ (State.cfgNext s).ddr = s.ddr ∧ (State.cfgNext s).tier = s.tier ∧ (State.cfgNext s).dm = s.dm ∧ (State.cfgNext s).dunas = s.dunas ∧ (State.cfgNext s).brg = s.brg ∧ (State.cfgNext s).clk = s.clk ∧ (State.cfgNext s).hsc = s.hsc ∧ (State.cfgNext s).core = s.core ∧ (State.cfgNext s).mgmt = s.mgmt := by
  unfold State.cfgNext; simp [State.onBoot_keeps _ _]

theorem State.cfgFail_keeps (s : State) :
    (State.cfgFail s).now = s.now ∧ (State.cfgFail s).free = s.free ∧ (State.cfgFail s).pending = s.pending ∧ (State.cfgFail s).regs = s.regs ∧ (State.cfgFail s).flt = s.flt ∧ (State.cfgFail s).amap = s.amap ∧ (State.cfgFail s).mem = s.mem ∧ (State.cfgFail s).home = s.home ∧ (State.cfgFail s).ddr = s.ddr ∧ (State.cfgFail s).tier = s.tier ∧ (State.cfgFail s).dm = s.dm ∧ (State.cfgFail s).brg = s.brg ∧ (State.cfgFail s).clk = s.clk ∧ (State.cfgFail s).hsc = s.hsc ∧ (State.cfgFail s).core = s.core ∧ (State.cfgFail s).mgmt = s.mgmt := by
  unfold State.cfgFail; simp [State.onBoot_keeps _ _, State.raiseBoot_keeps _ _ _ _]

theorem State.cfgWrite_keeps (s : State) (off : ℕ) (v : Word) :
    (State.cfgWrite s off v).1.now = s.now ∧ (State.cfgWrite s off v).1.pending = s.pending := by
  unfold State.cfgWrite; simp [State.writeReg_keeps _ _ _ _ _, State.onBoot_keeps _ _]

theorem State.cfgAsleep_keeps (s : State) (off : ℕ) {r : State} (hr : State.cfgAsleep s off = some r) :
    r.now = s.now ∧ r.free = s.free ∧ r.pending = s.pending ∧ r.out = s.out ∧ r.regs = s.regs ∧ r.ret = s.ret ∧ r.evt = s.evt ∧ r.flt = s.flt ∧ r.obs = s.obs ∧ r.host = s.host ∧ r.amap = s.amap ∧ r.mem = s.mem ∧ r.home = s.home ∧ r.ddr = s.ddr ∧ r.tier = s.tier ∧ r.dm = s.dm ∧ r.dunas = s.dunas ∧ r.brg = s.brg ∧ r.hsc = s.hsc ∧ r.boot = s.boot ∧ r.core = s.core ∧ r.mgmt = s.mgmt := by
  unfold State.cfgAsleep at hr; simp only [Option.map_eq_some_iff,
    Option.bind_eq_some_iff] at hr; obtain ⟨_, _, rfl⟩ := hr; simp_all [State.startWake_keeps _ _]

theorem State.cfgCommitBrg_keeps (s : State) (p : ℕ) :
    (State.cfgCommitBrg s p).now = s.now ∧ (State.cfgCommitBrg s p).pending = s.pending := by
  unfold State.cfgCommitBrg; simp [State.onBoot_keeps _ _, State.readReg_keeps _ _ _, State.cfgFail_keeps _, State.cfgWrite_keeps _ _ _]

theorem State.cfgCompare_keeps (s : State) (got : Word) (v : Word) (mask : Word) :
    (State.cfgCompare s got v mask).now = s.now ∧ (State.cfgCompare s got v mask).free = s.free ∧ (State.cfgCompare s got v mask).pending = s.pending ∧ (State.cfgCompare s got v mask).out = s.out ∧ (State.cfgCompare s got v mask).regs = s.regs ∧ (State.cfgCompare s got v mask).ret = s.ret ∧ (State.cfgCompare s got v mask).evt = s.evt ∧ (State.cfgCompare s got v mask).flt = s.flt ∧ (State.cfgCompare s got v mask).obs = s.obs ∧ (State.cfgCompare s got v mask).host = s.host ∧ (State.cfgCompare s got v mask).amap = s.amap ∧ (State.cfgCompare s got v mask).mem = s.mem ∧ (State.cfgCompare s got v mask).home = s.home ∧ (State.cfgCompare s got v mask).ddr = s.ddr ∧ (State.cfgCompare s got v mask).tier = s.tier ∧ (State.cfgCompare s got v mask).dm = s.dm ∧ (State.cfgCompare s got v mask).dunas = s.dunas ∧ (State.cfgCompare s got v mask).brg = s.brg ∧ (State.cfgCompare s got v mask).clk = s.clk ∧ (State.cfgCompare s got v mask).hsc = s.hsc ∧ (State.cfgCompare s got v mask).core = s.core ∧ (State.cfgCompare s got v mask).mgmt = s.mgmt := by
  unfold State.cfgCompare; simp [State.cfgNext_keeps _]

theorem State.cfgAnswer_keeps (s : State) (h : HeldAccess) (got : Option Word) {r : State} (hr : State.cfgAnswer s h got = some r) :
    r.now = s.now ∧ r.free = s.free ∧ r.pending = s.pending ∧ r.regs = s.regs ∧ r.flt = s.flt ∧ r.amap = s.amap ∧ r.mem = s.mem ∧ r.home = s.home ∧ r.ddr = s.ddr ∧ r.tier = s.tier ∧ r.dm = s.dm ∧ r.brg = s.brg ∧ r.clk = s.clk ∧ r.hsc = s.hsc ∧ r.core = s.core ∧ r.mgmt = s.mgmt := by
  unfold State.cfgAnswer at hr; dsimp only at hr; (repeat' split at hr) <;> skip <;> first | (cases hr; done) | (cases hr; simp_all [State.onBoot_keeps _ _, State.cfgNext_keeps _, State.cfgFail_keeps _, State.cfgCompare_keeps _ _ _ _]) | simp_all [State.onBoot_keeps _ _, State.cfgNext_keeps _, State.cfgFail_keeps _, State.cfgCompare_keeps _ _ _ _]

theorem State.accessEnds_keeps (s : State) (h : HeldAccess) (got : Option Word) (status : ℕ) :
    (State.accessEnds s h got status).now = s.now ∧ (State.accessEnds s h got status).free = s.free ∧ (State.accessEnds s h got status).pending = s.pending ∧ (State.accessEnds s h got status).regs = s.regs ∧ (State.accessEnds s h got status).flt = s.flt ∧ (State.accessEnds s h got status).amap = s.amap ∧ (State.accessEnds s h got status).mem = s.mem ∧ (State.accessEnds s h got status).home = s.home ∧ (State.accessEnds s h got status).ddr = s.ddr ∧ (State.accessEnds s h got status).tier = s.tier ∧ (State.accessEnds s h got status).dm = s.dm ∧ (State.accessEnds s h got status).brg = s.brg ∧ (State.accessEnds s h got status).clk = s.clk ∧ (State.accessEnds s h got status).hsc = s.hsc ∧ (State.accessEnds s h got status).core = s.core := by
  obtain ⟨P, hP⟩ : ∃ P : State → Prop, P = fun x => x.now = s.now ∧ x.free = s.free ∧ x.pending = s.pending ∧ x.regs = s.regs ∧ x.flt = s.flt ∧ x.amap = s.amap ∧ x.mem = s.mem ∧ x.home = s.home ∧ x.ddr = s.ddr ∧ x.tier = s.tier ∧ x.dm = s.dm ∧ x.brg = s.brg ∧ x.clk = s.clk ∧ x.hsc = s.hsc ∧ x.core = s.core := ⟨_, rfl⟩
  suffices h : P (State.accessEnds s h got status) by rw [hP] at h; exact h
  unfold State.accessEnds; (try dsimp only); (repeat' split) <;> (try have := State.cfgAnswer_keeps _ _ _ ‹State.cfgAnswer _ _ _ = some _›) <;> subst hP <;> simp_all [State.answerWait_keeps _ _ _ _]

theorem State.brgAnswer_keeps (s : State) (r : FwdReq) (got : Option Word) (status : ℕ) :
    (State.brgAnswer s r got status).now = s.now ∧ (State.brgAnswer s r got status).pending = s.pending := by
  unfold State.brgAnswer; simp [State.wstat_keeps _ _ _, State.goOn_keeps _, State.accessEnds_keeps _ _ _ _]

theorem State.regAnswer_keeps (s : State) (tag : ℕ) (val : Word) (err : Bool) :
    (State.regAnswer s tag val err).now = s.now ∧ (State.regAnswer s tag val err).pending = s.pending := by
  unfold State.regAnswer; (repeat' split) <;> simp [State.brgAnswer_keeps _ _ _ _]

theorem State.retRefused_keeps (s : State) (who : Option Master) :
    (State.retRefused s who).now = s.now ∧ (State.retRefused s who).free = s.free ∧ (State.retRefused s who).pending = s.pending ∧ (State.retRefused s who).regs = s.regs ∧ (State.retRefused s who).ret = s.ret ∧ (State.retRefused s who).evt = s.evt ∧ (State.retRefused s who).flt = s.flt ∧ (State.retRefused s who).host = s.host ∧ (State.retRefused s who).amap = s.amap ∧ (State.retRefused s who).mem = s.mem ∧ (State.retRefused s who).home = s.home ∧ (State.retRefused s who).ddr = s.ddr ∧ (State.retRefused s who).tier = s.tier ∧ (State.retRefused s who).dm = s.dm ∧ (State.retRefused s who).brg = s.brg ∧ (State.retRefused s who).clk = s.clk ∧ (State.retRefused s who).hsc = s.hsc ∧ (State.retRefused s who).boot = s.boot ∧ (State.retRefused s who).core = s.core := by
  unfold State.retRefused; (repeat' split) <;> simp [State.onMgmt_keeps _ _, State.emit_keeps _ _]

theorem State.retWorn_keeps (s : State) (w : RetWrite) :
    (State.retWorn s w).now = s.now ∧ (State.retWorn s w).free = s.free ∧ (State.retWorn s w).pending = s.pending ∧ (State.retWorn s w).flt = s.flt ∧ (State.retWorn s w).amap = s.amap ∧ (State.retWorn s w).mem = s.mem ∧ (State.retWorn s w).home = s.home ∧ (State.retWorn s w).ddr = s.ddr ∧ (State.retWorn s w).tier = s.tier ∧ (State.retWorn s w).dm = s.dm ∧ (State.retWorn s w).brg = s.brg ∧ (State.retWorn s w).clk = s.clk ∧ (State.retWorn s w).boot = s.boot ∧ (State.retWorn s w).core = s.core := by
  unfold State.retWorn; simp [State.retRefused_keeps _ _, State.raiseAt_keeps _ _ _ _, State.setStatus_keeps _ _ _, State.raiseBoot_keeps _ _ _ _, State.onHsc_keeps _ _, State.onMgmt_keeps _ _]

theorem State.retDone_keeps (s : State) (w : RetWrite) :
    (State.retDone s w).now = s.now ∧ (State.retDone s w).free = s.free ∧ (State.retDone s w).pending = s.pending ∧ (State.retDone s w).regs = s.regs ∧ (State.retDone s w).flt = s.flt ∧ (State.retDone s w).amap = s.amap ∧ (State.retDone s w).mem = s.mem ∧ (State.retDone s w).home = s.home ∧ (State.retDone s w).ddr = s.ddr ∧ (State.retDone s w).tier = s.tier ∧ (State.retDone s w).dm = s.dm ∧ (State.retDone s w).brg = s.brg ∧ (State.retDone s w).clk = s.clk ∧ (State.retDone s w).hsc = s.hsc ∧ (State.retDone s w).boot = s.boot ∧ (State.retDone s w).core = s.core := by
  unfold State.retDone; simp [State.raiseAt_keeps _ _ _ _, State.onMgmt_keeps _ _, State.hrdySync_keeps _]

theorem State.retFront_keeps (s : State) (w : RetWrite) (rest : List RetWrite) :
    (State.retFront s w rest).now = s.now ∧ (State.retFront s w rest).pending = s.pending := by
  unfold State.retFront; simp [State.retWorn_keeps _ _, State.retDone_keeps _ _, State.cfgFail_keeps _, State.cfgNext_keeps _, State.goOn_keeps _]

@[simp] theorem State.writeFwu_keeps (s : State) (m : Master) (v : Word) :
    (State.writeFwu s m v).pending = s.pending := by
  unfold State.writeFwu; simp [State.goOn_keeps _, State.fwuCmd_keeps _ _ _]

end Sys2Proof.Machine
end

