-- ==== Sys2Proof/Laws/CoreMemoryKeeps.lean ====
section
/-! SUPPORT. Which fields of the state the operations of CoreMemory leave as they are: a proof
over the operation `State.op` gives simp its lemma `State.op_keeps _ _`. -/

namespace Sys2Proof.Machine

theorem State.fault__keeps (s : State) (c : ℕ) :
    (State.fault_ s c).now = s.now ∧ (State.fault_ s c).free = s.free ∧ (State.fault_ s c).pending = s.pending ∧ (State.fault_ s c).regs = s.regs ∧ (State.fault_ s c).ret = s.ret ∧ (State.fault_ s c).evt = s.evt ∧ (State.fault_ s c).flt = s.flt ∧ (State.fault_ s c).host = s.host ∧ (State.fault_ s c).amap = s.amap ∧ (State.fault_ s c).mem = s.mem ∧ (State.fault_ s c).home = s.home ∧ (State.fault_ s c).ddr = s.ddr ∧ (State.fault_ s c).tier = s.tier ∧ (State.fault_ s c).dm = s.dm ∧ (State.fault_ s c).brg = s.brg ∧ (State.fault_ s c).clk = s.clk ∧ (State.fault_ s c).hsc = s.hsc ∧ (State.fault_ s c).boot = s.boot ∧ (State.fault_ s c).core = s.core ∧ (State.fault_ s c).mgmt = s.mgmt := by
  unfold State.fault_; simp [State.emit_keeps _ _]

theorem State.cachedLoad_keeps (s : State) (c : ℕ) (a : ℕ) (fetch : Bool) :
    (State.cachedLoad s c a fetch).now = s.now ∧ (State.cachedLoad s c a fetch).pending = s.pending ∧ (State.cachedLoad s c a fetch).regs = s.regs ∧ (State.cachedLoad s c a fetch).ret = s.ret ∧ (State.cachedLoad s c a fetch).evt = s.evt ∧ (State.cachedLoad s c a fetch).flt = s.flt ∧ (State.cachedLoad s c a fetch).host = s.host ∧ (State.cachedLoad s c a fetch).amap = s.amap ∧ (State.cachedLoad s c a fetch).mem = s.mem ∧ (State.cachedLoad s c a fetch).home = s.home ∧ (State.cachedLoad s c a fetch).ddr = s.ddr ∧ (State.cachedLoad s c a fetch).tier = s.tier ∧ (State.cachedLoad s c a fetch).dm = s.dm ∧ (State.cachedLoad s c a fetch).brg = s.brg ∧ (State.cachedLoad s c a fetch).clk = s.clk ∧ (State.cachedLoad s c a fetch).hsc = s.hsc ∧ (State.cachedLoad s c a fetch).boot = s.boot ∧ (State.cachedLoad s c a fetch).mgmt = s.mgmt := by
  obtain ⟨P, hP⟩ : ∃ P : State → Prop, P = fun x => x.now = s.now ∧ x.pending = s.pending ∧ x.regs = s.regs ∧ x.ret = s.ret ∧ x.evt = s.evt ∧ x.flt = s.flt ∧ x.host = s.host ∧ x.amap = s.amap ∧ x.mem = s.mem ∧ x.home = s.home ∧ x.ddr = s.ddr ∧ x.tier = s.tier ∧ x.dm = s.dm ∧ x.brg = s.brg ∧ x.clk = s.clk ∧ x.hsc = s.hsc ∧ x.boot = s.boot ∧ x.mgmt = s.mgmt := ⟨_, rfl⟩
  suffices h : P (State.cachedLoad s c a fetch) by rw [hP] at h; exact h
  unfold State.cachedLoad; (try dsimp only); (repeat' split) <;> skip <;> subst hP <;> simp_all [State.emit_keeps _ _, State.onMcore_keeps _ _ _]

theorem State.retStore_keeps (s : State) (c : Fin 2) (w : BufWrite) :
    (State.retStore s c w).now = s.now ∧ (State.retStore s c w).free = s.free ∧ (State.retStore s c w).pending = s.pending ∧ (State.retStore s c w).out = s.out ∧ (State.retStore s c w).regs = s.regs ∧ (State.retStore s c w).evt = s.evt ∧ (State.retStore s c w).flt = s.flt ∧ (State.retStore s c w).obs = s.obs ∧ (State.retStore s c w).host = s.host ∧ (State.retStore s c w).amap = s.amap ∧ (State.retStore s c w).mem = s.mem ∧ (State.retStore s c w).home = s.home ∧ (State.retStore s c w).ddr = s.ddr ∧ (State.retStore s c w).tier = s.tier ∧ (State.retStore s c w).dm = s.dm ∧ (State.retStore s c w).dunas = s.dunas ∧ (State.retStore s c w).brg = s.brg ∧ (State.retStore s c w).clk = s.clk ∧ (State.retStore s c w).hsc = s.hsc ∧ (State.retStore s c w).boot = s.boot ∧ (State.retStore s c w).core = s.core ∧ (State.retStore s c w).mgmt = s.mgmt := by
  obtain ⟨P, hP⟩ : ∃ P : State → Prop, P = fun x => x.now = s.now ∧ x.free = s.free ∧ x.pending = s.pending ∧ x.out = s.out ∧ x.regs = s.regs ∧ x.evt = s.evt ∧ x.flt = s.flt ∧ x.obs = s.obs ∧ x.host = s.host ∧ x.amap = s.amap ∧ x.mem = s.mem ∧ x.home = s.home ∧ x.ddr = s.ddr ∧ x.tier = s.tier ∧ x.dm = s.dm ∧ x.dunas = s.dunas ∧ x.brg = s.brg ∧ x.clk = s.clk ∧ x.hsc = s.hsc ∧ x.boot = s.boot ∧ x.core = s.core ∧ x.mgmt = s.mgmt := ⟨_, rfl⟩
  suffices h : P (State.retStore s c w) by rw [hP] at h; exact h
  unfold State.retStore; (try dsimp only); (repeat' split) <;> skip <;> subst hP <;> simp_all [State.retWrite_keeps _ _ _ _]

theorem State.popWrite_keeps (s : State) (c : ℕ) :
    (State.popWrite s c).now = s.now ∧ (State.popWrite s c).free = s.free ∧ (State.popWrite s c).pending = s.pending ∧ (State.popWrite s c).out = s.out ∧ (State.popWrite s c).regs = s.regs ∧ (State.popWrite s c).ret = s.ret ∧ (State.popWrite s c).evt = s.evt ∧ (State.popWrite s c).flt = s.flt ∧ (State.popWrite s c).obs = s.obs ∧ (State.popWrite s c).host = s.host ∧ (State.popWrite s c).amap = s.amap ∧ (State.popWrite s c).mem = s.mem ∧ (State.popWrite s c).home = s.home ∧ (State.popWrite s c).ddr = s.ddr ∧ (State.popWrite s c).tier = s.tier ∧ (State.popWrite s c).dm = s.dm ∧ (State.popWrite s c).dunas = s.dunas ∧ (State.popWrite s c).brg = s.brg ∧ (State.popWrite s c).clk = s.clk ∧ (State.popWrite s c).hsc = s.hsc ∧ (State.popWrite s c).boot = s.boot ∧ (State.popWrite s c).mgmt = s.mgmt := by
  unfold State.popWrite; simp [State.cleansEnd_keeps _ _, State.onMcore_keeps _ _ _]

theorem State.drainOne_keeps (s : State) (c : Fin 2) :
    (State.drainOne s c).now = s.now ∧ (State.drainOne s c).pending = s.pending := by
  obtain ⟨P, hP⟩ : ∃ P : State → Prop, P = fun x => x.now = s.now ∧ x.pending = s.pending := ⟨_, rfl⟩
  suffices h : P (State.drainOne s c) by rw [hP] at h; exact h
  unfold State.drainOne; (try dsimp only); (repeat' split) <;> subst hP <;> simp_all [State.popWrite_keeps _ _, State.retStore_keeps _ _ _, State.onMcore_keeps _ _ _, State.perform_keeps _ _]

theorem drainAll_keeps (a0 : ℕ) (a1 : Fin 2) (a2 : State) :
    (drainAll a0 a1 a2).now = a2.now ∧ (drainAll a0 a1 a2).pending = a2.pending := by
  fun_induction drainAll a0 a1 a2 <;> simp_all +zetaDelta [State.drainOne_keeps _ _]

end Sys2Proof.Machine
end

