-- ==== Sys2Proof/Laws/Raise.lean ====
section
/-! SUPPORT. What raising an event can change of the host ports: attention pulses that are asked for, and the event
logs and pending vectors of the logical devices. -/

namespace Sys2Proof.Machine

/-- A link differs at most as one that carries a transaction does: from L1 it is back in L0, and the times of its last
use and of its last change of width and the number of the next flit are new (R60, R61, R62, R301). -/
def LinkCalm (a b : Link) : Prop :=
  b = { a with st := b.st, active := b.active, lastUse := b.lastUse, widthAt := b.widthAt, txNext := b.txNext } ∧
  ((b.st = a.st ∧ b.active = a.active) ∨ (a.st = .l1 ∧ b.st = .l0))

theorem LinkCalm.refl (a : Link) : LinkCalm a a := ⟨rfl, .inl ⟨rfl, rfl⟩⟩

theorem LinkCalm.trans {a b c : Link} (h : LinkCalm a b) (g : LinkCalm b c) : LinkCalm a c := by
  obtain ⟨h1, h2⟩ := h
  obtain ⟨g1, g2⟩ := g
  refine ⟨by rw [h1] at g1; exact g1, ?_⟩
  rcases h2 with ⟨h2, h3⟩ | ⟨h2, h3⟩ <;> rcases g2 with ⟨g2, g3⟩ | ⟨g2, g3⟩
  · exact .inl ⟨g2.trans h2, g3.trans h3⟩
  · exact .inr ⟨h2 ▸ g2, g3⟩
  · exact .inr ⟨h2, g2.trans h3⟩
  · rw [h3] at g2; cases g2

/-- A link that is not in L1 keeps its state and its width in use. -/
theorem LinkCalm.st {a b : Link} (h : LinkCalm a b) (n : a.st ≠ .l1) : b.st = a.st ∧ b.active = a.active := by
  rcases h.2 with h | h
  · exact h
  · exact absurd h.1 n

/-- The host ports differ at most in what a delivered event changes (R60, R82, R503). -/
def Quiet (a b : HostPorts) : Prop :=
  (∀ k, LinkCalm (look {} a.link k) (look {} b.link k)) ∧
  (∀ k, look {} b.grp k = { look {} a.grp k with pulsePend := (look {} b.grp k).pulsePend }) ∧
  (∀ k, look {} b.ld k = { look {} a.ld k with
    evtLog := (look {} b.ld k).evtLog, nextHandle := (look {} b.ld k).nextHandle, msixPend := (look {} b.ld k).msixPend })

theorem Quiet.refl (a : HostPorts) : Quiet a a := ⟨fun _ => LinkCalm.refl _, fun _ => rfl, fun _ => rfl⟩

theorem Quiet.trans {a b c : HostPorts} (h : Quiet a b) (g : Quiet b c) : Quiet a c := by
  obtain ⟨h1, h2, h3⟩ := h
  obtain ⟨g1, g2, g3⟩ := g
  refine ⟨fun k => (h1 k).trans (g1 k), fun k => ?_, fun k => ?_⟩
  · have := g2 k; rw [h2 k] at this; exact this
  · have := g3 k; rw [h3 k] at this; exact this

theorem Quiet.of_eq {a b : HostPorts} (h : b = a) : Quiet a b := h ▸ Quiet.refl a

theorem State.when_quiet (s : State) (b : Bool) (f : State → State) (h : ∀ t, Quiet t.host (f t).host) :
    Quiet s.host (s.when b f).host := by
  unfold State.when; split
  · exact h s
  · exact Quiet.refl _

theorem State.each_quiet {α : Type} (s : State) (l : List α) (f : State → α → State)
    (h : ∀ t a, Quiet t.host (f t a).host) : Quiet s.host (s.each l f).host := by
  unfold State.each
  induction l generalizing s with
  | nil => exact Quiet.refl _
  | cons a l ih => exact (h s a).trans (ih _)

theorem State.onGrp_quiet (s : State) (g : Nat) : Quiet s.host (s.onGrp g (fun p => { p with pulsePend := true })).host := by
  refine ⟨fun _ => LinkCalm.refl _, fun k => ?_, fun _ => rfl⟩
  by_cases h : k = g
  · subst h; simp [State.onGrp]
  · simp [State.onGrp, h]

theorem State.attention_quiet (s : State) (g : Nat) : Quiet s.host (s.attention g).host :=
  State.when_quiet _ _ _ (fun t => t.onGrp_quiet g)

theorem State.onLd_log_quiet (s : State) (n : Nat) (l : LogicalDev → List CxlEvent) (h : LogicalDev → Nat) :
    Quiet s.host (s.onLd n (fun d => { d with evtLog := l d, nextHandle := h d })).host := by
  refine ⟨fun _ => LinkCalm.refl _, fun _ => rfl, fun k => ?_⟩
  by_cases e : k = n
  · subst e; simp [State.onLd]
  · simp [State.onLd, e]

theorem State.onLd_pend_quiet (s : State) (n : Nat) (p : LogicalDev → BitVec 64) :
    Quiet s.host (s.onLd n (fun d => { d with msixPend := p d })).host := by
  refine ⟨fun _ => LinkCalm.refl _, fun _ => rfl, fun k => ?_⟩
  by_cases e : k = n
  · subst e; simp [State.onLd]
  · simp [State.onLd, e]

theorem State.useLink_quiet (s : State) (l : Nat) : Quiet s.host (s.useLink l).host := by
  refine ⟨fun k => ?_, fun _ => rfl, fun _ => rfl⟩
  by_cases e : k = l
  · subst e
    simp only [State.useLink, State.onLink, State.withHost_host, look_edit_same]
    split
    · refine ⟨rfl, ?_⟩
      by_cases h : (look {} s.host.link k).st = .l1 <;> simp [h]
    · exact LinkCalm.refl _
  · simp only [State.useLink, State.onLink, State.withHost_host]
    rw [look_edit_ne _ _ _ _ _ e]
    exact LinkCalm.refl _

theorem State.onLink_quiet (s : State) (l : Nat) (f : Link → Link) (h : ∀ k, LinkCalm k (f k)) :
    Quiet s.host (s.onLink l f).host := by
  refine ⟨fun k => ?_, fun _ => rfl, fun _ => rfl⟩
  by_cases e : k = l
  · subst e
    simp only [State.onLink, State.withHost_host, look_edit_same]
    exact h _
  · simp only [State.onLink, State.withHost_host]
    rw [look_edit_ne _ _ _ _ _ e]
    exact LinkCalm.refl _

/-- A message to a host changes no more of the host ports than its link's use of a transaction. -/
theorem State.toHost_quiet (s : State) (ld : Nat) (m : Msg) : Quiet s.host (s.toHost ld m).host := by
  unfold State.toHost
  split
  · split
    · rw [show (State.emit _ m).host = _ from (State.emit_keeps _ m).2.2.2.2.2.2.2.1]
      exact (s.useLink_quiet _).trans (State.onLink_quiet _ _ _ fun _ => ⟨rfl, .inl ⟨rfl, rfl⟩⟩)
    · exact Quiet.refl _
  · exact Quiet.refl _

theorem State.sendMsix_quiet (s : State) (r : LogRec) (vec : Nat) : Quiet s.host (s.sendMsix r vec).host := by
  unfold State.sendMsix
  extract_lets ld up t
  split
  · split
    · exact (State.onLd_log_quiet _ _ _ _).trans (State.onLd_pend_quiet _ _ _)
    · split
      · exact State.onLd_log_quiet s ld _ _
      · exact (State.onLd_log_quiet s ld _ _).trans (t.toHost_quiet ld _)
  · exact Quiet.of_eq (by simp)

theorem State.deliver_quiet (s : State) (r : LogRec) (route : BitVec 14) : Quiet s.host (s.deliver r route).host := by
  unfold State.deliver; dsimp only
  refine Quiet.trans (Quiet.trans (State.when_quiet s _ _ fun t => Quiet.of_eq (by simp [State.sendBmc_keeps _ _])) (State.when_quiet _ _ _ fun t => t.sendMsix_quiet _ _))
    (State.each_quiet _ _ _ fun t g => t.attention_quiet g)

theorem State.deliverAll_quiet (s : State) (r : LogRec) (l : List (BitVec 14)) : Quiet s.host (s.deliverAll r l).host :=
  State.each_quiet _ _ _ fun t x => t.deliver_quiet r x

theorem State.logIt_quiet (s : State) (r : LogRec) (vital : Bool) (dest : List (BitVec 14)) :
    Quiet s.host (s.logIt r vital dest).host := by
  unfold State.logIt
  split
  · exact Quiet.of_eq (by simp [State.retWrite_keeps _ _ _ _])
  · exact State.deliverAll_quiet _ _ _

theorem State.raiseOne_quiet (s : State) (e : Ev) : Quiet s.host (s.raiseOne e).host := by
  unfold State.raiseOne; dsimp only
  split
  · exact Quiet.refl _
  · split
    · exact (Quiet.of_eq (a := s.host) (by simp)).trans (State.logIt_quiet _ _ _ _)
    · exact (Quiet.of_eq (a := s.host) (by simp)).trans (State.when_quiet _ _ _ fun t => t.deliver_quiet _ _)

/-- Raising an event changes no more of the host ports than `Quiet` allows. -/
theorem State.raise_quiet (s : State) (e : Ev) : Quiet s.host (s.raise e).host := by
  unfold State.raise; dsimp only
  split
  · exact (s.raiseOne_quiet e).trans ((Quiet.of_eq (a := (s.raiseOne e).host) (by simp)).trans (State.raiseOne_quiet _ _))
  · exact s.raiseOne_quiet e

/-- Raising an event changes a link at most as a transaction on it does. -/
theorem State.raise_link (s : State) (e : Ev) (k : Nat) : LinkCalm (s.link k) ((s.raise e).link k) := (s.raise_quiet e).1 k
@[simp] theorem State.raise_grp_perst (s : State) (e : Ev) (k : Nat) :
    (look {} (s.raise e).host.grp k).perst = (look {} s.host.grp k).perst := by rw [(s.raise_quiet e).2.1 k]
@[simp] theorem State.raise_grp_perstRel (s : State) (e : Ev) (k : Nat) :
    (look {} (s.raise e).host.grp k).perstRel = (look {} s.host.grp k).perstRel := by rw [(s.raise_quiet e).2.1 k]
@[simp] theorem State.raise_grp_busy (s : State) (e : Ev) (k : Nat) :
    (look {} (s.raise e).host.grp k).busy = (look {} s.host.grp k).busy := by rw [(s.raise_quiet e).2.1 k]
@[simp] theorem State.raise_grp_busySince (s : State) (e : Ev) (k : Nat) :
    (look {} (s.raise e).host.grp k).busySince = (look {} s.host.grp k).busySince := by rw [(s.raise_quiet e).2.1 k]
@[simp] theorem State.raise_grp_released (s : State) (e : Ev) (k : Nat) :
    (look {} (s.raise e).host.grp k).released = (look {} s.host.grp k).released := by rw [(s.raise_quiet e).2.1 k]
@[simp] theorem State.raise_grp_pulse (s : State) (e : Ev) (k : Nat) :
    (look {} (s.raise e).host.grp k).pulse = (look {} s.host.grp k).pulse := by rw [(s.raise_quiet e).2.1 k]
@[simp] theorem State.raise_grp_up (s : State) (e : Ev) (k : Nat) :
    (look {} (s.raise e).host.grp k).up = (look {} s.host.grp k).up := by rw [(s.raise_quiet e).2.1 k]
@[simp] theorem State.raise_grp_margining (s : State) (e : Ev) (k : Nat) :
    (look {} (s.raise e).host.grp k).margining = (look {} s.host.grp k).margining := by rw [(s.raise_quiet e).2.1 k]
@[simp] theorem State.raise_grp_lmrg (s : State) (e : Ev) (k : Nat) :
    (look {} (s.raise e).host.grp k).lmrg = (look {} s.host.grp k).lmrg := by rw [(s.raise_quiet e).2.1 k]
@[simp] theorem State.raise_grp_scanAt (s : State) (e : Ev) (k : Nat) :
    (look {} (s.raise e).host.grp k).scanAt = (look {} s.host.grp k).scanAt := by rw [(s.raise_quiet e).2.1 k]
@[simp] theorem State.raise_ld_dec (s : State) (e : Ev) (k : Nat) :
    (look {} (s.raise e).host.ld k).dec = (look {} s.host.ld k).dec := by rw [(s.raise_quiet e).2.2 k]
@[simp] theorem State.raise_ld_flr (s : State) (e : Ev) (k : Nat) :
    (look {} (s.raise e).host.ld k).flr = (look {} s.host.ld k).flr := by rw [(s.raise_quiet e).2.2 k]
@[simp] theorem State.raise_ld_mps (s : State) (e : Ev) (k : Nat) :
    (look {} (s.raise e).host.ld k).mps = (look {} s.host.ld k).mps := by rw [(s.raise_quiet e).2.2 k]
@[simp] theorem State.raise_ld_mrrs (s : State) (e : Ev) (k : Nat) :
    (look {} (s.raise e).host.ld k).mrrs = (look {} s.host.ld k).mrrs := by rw [(s.raise_quiet e).2.2 k]
@[simp] theorem State.raise_ld_tagBits (s : State) (e : Ev) (k : Nat) :
    (look {} (s.raise e).host.ld k).tagBits = (look {} s.host.ld k).tagBits := by rw [(s.raise_quiet e).2.2 k]
@[simp] theorem State.raise_ld_reads (s : State) (e : Ev) (k : Nat) :
    (look {} (s.raise e).host.ld k).reads = (look {} s.host.ld k).reads := by rw [(s.raise_quiet e).2.2 k]
@[simp] theorem State.raise_ld_nextTag (s : State) (e : Ev) (k : Nat) :
    (look {} (s.raise e).host.ld k).nextTag = (look {} s.host.ld k).nextTag := by rw [(s.raise_quiet e).2.2 k]
@[simp] theorem State.raise_ld_msixOn (s : State) (e : Ev) (k : Nat) :
    (look {} (s.raise e).host.ld k).msixOn = (look {} s.host.ld k).msixOn := by rw [(s.raise_quiet e).2.2 k]
@[simp] theorem State.raise_ld_msixMask (s : State) (e : Ev) (k : Nat) :
    (look {} (s.raise e).host.ld k).msixMask = (look {} s.host.ld k).msixMask := by rw [(s.raise_quiet e).2.2 k]
@[simp] theorem State.raise_ld_cfg (s : State) (e : Ev) (k : Nat) :
    (look {} (s.raise e).host.ld k).cfg = (look {} s.host.ld k).cfg := by rw [(s.raise_quiet e).2.2 k]
@[simp] theorem State.raise_ld_evtPolicy (s : State) (e : Ev) (k : Nat) :
    (look {} (s.raise e).host.ld k).evtPolicy = (look {} s.host.ld k).evtPolicy := by rw [(s.raise_quiet e).2.2 k]
@[simp] theorem State.raise_ld_tsOffset (s : State) (e : Ev) (k : Nat) :
    (look {} (s.raise e).host.ld k).tsOffset = (look {} s.host.ld k).tsOffset := by rw [(s.raise_quiet e).2.2 k]

end Sys2Proof.Machine
end

