-- ==== Sys2Proof/Laws/Ports.lean ====
section
/-! SUPPORT. Which commands move a link: raised events, aborted queues and cleared functions change a link at most as a
transaction on it does. -/

namespace Sys2Proof.Machine

/-- A link that is down stays as it is. -/
theorem LinkCalm.down {a b : Link} (h : LinkCalm a b) {t : Option Nat} (d : a.st = .down) (c : a.cxl = false)
    (w : a.sweep = t) : b.st = .down ∧ b.cxl = false ∧ b.sweep = t := by
  refine ⟨(h.st (by rw [d]; decide)).1.trans d, ?_, ?_⟩
  · rw [h.1]; exact c
  · rw [h.1]; exact w

/-- Every link is as it was, or has only carried a transaction. -/
def LinksCalm (s t : State) : Prop := ∀ k, LinkCalm (s.link k) (t.link k)

theorem LinksCalm.refl (s : State) : LinksCalm s s := fun _ => LinkCalm.refl _

theorem LinksCalm.trans {s t u : State} (h : LinksCalm s t) (g : LinksCalm t u) : LinksCalm s u :=
  fun k => (h k).trans (g k)

theorem LinksCalm.of_eq {s t : State} (h : t.host.link = s.host.link) : LinksCalm s t := by
  intro k; unfold State.link; rw [h]; exact LinkCalm.refl _

theorem State.when_calm (s : State) (b : Bool) (f : State → State) (h : ∀ t, LinksCalm t (f t)) :
    LinksCalm s (s.when b f) := by
  unfold State.when; split
  · exact h s
  · exact LinksCalm.refl _

theorem State.each_calm {α : Type} (s : State) (l : List α) (f : State → α → State) (h : ∀ t a, LinksCalm t (f t a)) :
    LinksCalm s (s.each l f) := by
  unfold State.each
  induction l generalizing s with
  | nil => exact LinksCalm.refl _
  | cons a l ih => exact (h s a).trans (ih _)

@[simp] theorem State.onLd_links (s : State) (n : Nat) (f : LogicalDev → LogicalDev) :
    (s.onLd n f).host.link = s.host.link := by simp [State.onLd]

theorem State.raise_calm (s : State) (e : Ev) : LinksCalm s (s.raise e) := fun k => s.raise_link e k

theorem State.raiseLink_calm (s : State) (l k : Nat) (n : Option Nat) (c : Nat) : LinksCalm s (s.raiseLink l k n c) :=
  s.raise_calm _

theorem State.onQueue_links (s : State) (q : Nat) (f : DmQueue → DmQueue) : (s.onQueue q f).host.link = s.host.link := by
  simp [State.onQueue_keeps _ _ _]

theorem State.dropDm_links (s : State) (q : Nat) : (s.dropDm q).host.link = s.host.link := by
  simp [State.dropDm, State.onQueue_links]

theorem State.restLink_calm (s : State) (n : Nat) : LinksCalm s (s.restLink n) := by
  unfold State.restLink; split
  · exact (State.onLink_quiet s _ (fun k => { k with lastUse := s.now }) fun _ => ⟨rfl, .inl ⟨rfl, rfl⟩⟩).1
  · exact LinksCalm.refl _

/-- A read that a queue issues uses its link and nothing else of any link. -/
theorem State.issueOne_calm (s : State) (q ix a n : Nat) {r : State × Nat} (h : s.issueOne q ix a n = some r) :
    LinksCalm s r.1 := by
  unfold State.issueOne at h
  split at h
  · cases h
  · dsimp only at h
    split at h
    · cases h
    · split at h
      · cases h
      · cases h
        refine LinksCalm.trans (t := s.onLd q _) (LinksCalm.of_eq (State.onLd_links s q _)) (State.toHost_quiet _ _ _).1

theorem State.issueReads_calm (f q ix : Nat) (s : State) : LinksCalm s (s.issueReads f q ix) := by
  fun_induction State.issueReads f q ix s with
  | case5 _ _ _ _ _ _ _ _ _ _ _ _ h ih =>
    refine (State.issueOne_calm _ _ _ _ _ h).trans (LinksCalm.trans (LinksCalm.of_eq ?_) ih)
    rw [State.onDesc, State.onQueue_links]
  | _ => exact LinksCalm.refl _

theorem State.pumpReads_calm (s : State) (q : Nat) : LinksCalm s (s.pumpReads q) := by
  unfold State.pumpReads; split
  · exact LinksCalm.refl _
  · exact State.each_calm _ _ _ fun t n => State.each_calm _ _ _ fun u ix => State.issueReads_calm _ _ _ u

theorem State.haltQueue_calm (s : State) (q c : Nat) : LinksCalm s (s.haltQueue q c) := by
  unfold State.haltQueue; dsimp only
  refine LinksCalm.trans (LinksCalm.trans ?_ (State.pumpReads_calm _ _)) (State.raise_calm _ _)
  refine LinksCalm.trans (LinksCalm.trans (LinksCalm.of_eq ?_) (State.restLink_calm _ _)) (LinksCalm.of_eq (State.onQueue_links _ _ _))
  rw [State.dropDm_links]
  split <;> simp [State.dmqSet_keeps _ _ _ _ _ _]

theorem State.stopQueue_calm (s : State) (q c : Nat) : LinksCalm s (s.stopQueue q c) :=
  State.when_calm _ _ _ fun t => t.haltQueue_calm q c

@[simp] theorem State.clearFunction_links (s : State) (n : Nat) : (s.clearFunction n).host.link = s.host.link := by
  simp [State.clearFunction, State.clearMailbox_keeps _ _]

theorem State.stopRead_calm (s : State) (n c : Nat) (f : LogicalDev → LogicalDev) :
    LinksCalm s ((s.stopQueue n c).onLd n f) :=
  (s.stopQueue_calm n c).trans (LinksCalm.of_eq (State.onLd_links _ n f))

theorem State.stopReads_calm (s : State) (l : List Nat) (c : Nat) :
    LinksCalm s (s.each l (fun s n => (s.stopQueue n c).onLd n (fun d => { d with reads := [] }))) :=
  State.each_calm _ _ _ fun t n => t.stopRead_calm n c _

theorem State.unlockIfDown_links (s : State) (was : Bool) : (s.unlockIfDown was).host.link = s.host.link := by
  simp [State.unlockIfDown_keeps _ _]

/-- A link that is lost is down and waits 200 us for its agents to be swept (R61). -/
theorem State.linkLost_link (s : State) (l c : Nat) (h : (s.link l).st ≠ .down) :
    ((s.linkLost l c).link l).st = .down ∧ ((s.linkLost l c).link l).cxl = false ∧
      ((s.linkLost l c).link l).sweep = some (s.now + us 200) := by
  rw [State.linkLost, if_neg (by simpa using h)]
  extract_lets was lds s1 hh s2 s3 s4 s5 s6 s7 s8
  have e : LinksCalm s6 (s8.unlockIfDown was) := by
    refine LinksCalm.trans (t := s8) ?_ (LinksCalm.of_eq ?_)
    · exact LinksCalm.trans (t := s7) (State.raiseLink_calm s6 l 1 none 0) (State.stopReads_calm s7 lds c)
    · exact State.unlockIfDown_links s8 was
  have n3 : s3.now = s.now := by
    simp [s3, s2, s1, State.traceRec_keeps _ _, State.dropAccess_keeps _ _, State.dropForwarded_keeps _ _]
  have n : s5.now = s.now := by
    simp [s5, s4, State.when_now, State.agentsGone_keeps _ _, n3]
  have d : (s6.link l).st = .down ∧ (s6.link l).cxl = false ∧ (s6.link l).sweep = some (s.now + us 200) := by
    simp [s6, State.link, State.onLink, n]
  obtain ⟨d1, d2, d3⟩ := d
  exact (e l).down d1 d2 d3

end Sys2Proof.Machine
end

