-- ==== Sys2Proof/Laws/ReceivedKeeps.lean ====
section
/-! SUPPORT. Which fields of the state the operations of Received leave as they are: a proof
over the operation `State.op` gives simp its lemma `State.op_keeps _ _`. -/

namespace Sys2Proof.Machine

theorem State.gotAtomic_keeps (s : State) (a : ℕ) (tag : ℕ) (line : ℕ) (cred : Bool) (d : List (List Byte)) :
    (State.gotAtomic s a tag line cred d).now = s.now ∧ (State.gotAtomic s a tag line cred d).pending = s.pending ∧ (State.gotAtomic s a tag line cred d).dm = s.dm ∧ (State.gotAtomic s a tag line cred d).brg = s.brg ∧ (State.gotAtomic s a tag line cred d).clk = s.clk ∧ (State.gotAtomic s a tag line cred d).hsc = s.hsc ∧ (State.gotAtomic s a tag line cred d).boot = s.boot ∧ (State.gotAtomic s a tag line cred d).core = s.core := by
  unfold State.gotAtomic; (repeat' split) <;> simp [State.brgRequest_keeps _ _ _ _ _ _ _, State.brgTurn_keeps _ _ _ _ _]

theorem State.gotMsg_keeps (s : State) (m : ℕ × List (List Byte)) :
    (State.gotMsg s m).now = s.now ∧ (State.gotMsg s m).pending = s.pending := by
  obtain ⟨P, hP⟩ : ∃ P : State → Prop, P = fun x => x.now = s.now ∧ x.pending = s.pending := ⟨_, rfl⟩
  suffices h : P (State.gotMsg s m) by rw [hP] at h; exact h
  unfold State.gotMsg; (try dsimp only); (repeat' split) <;> subst hP <;> simp_all [State.brgRequest_keeps _ _ _ _ _ _ _, State.gotAtomic_keeps _ _ _ _ _ _, State.fwdAnswer_keeps _ _ _ _, State.snpAnswer_keeps _ _ _ _ _, State.snpConflict_keeps _ _ _, State.regAnswer_keeps _ _ _ _, State.brgEvent_keeps _ _ _]

theorem State.strayFlit_keeps (s : State) (e : ℕ) (f : BitVec 512) :
    (State.strayFlit s e f).now = s.now ∧ (State.strayFlit s e f).free = s.free ∧ (State.strayFlit s e f).pending = s.pending ∧ (State.strayFlit s e f).out = s.out ∧ (State.strayFlit s e f).regs = s.regs ∧ (State.strayFlit s e f).ret = s.ret ∧ (State.strayFlit s e f).evt = s.evt ∧ (State.strayFlit s e f).flt = s.flt ∧ (State.strayFlit s e f).host = s.host ∧ (State.strayFlit s e f).amap = s.amap ∧ (State.strayFlit s e f).mem = s.mem ∧ (State.strayFlit s e f).home = s.home ∧ (State.strayFlit s e f).ddr = s.ddr ∧ (State.strayFlit s e f).tier = s.tier ∧ (State.strayFlit s e f).dm = s.dm ∧ (State.strayFlit s e f).brg = s.brg ∧ (State.strayFlit s e f).clk = s.clk ∧ (State.strayFlit s e f).hsc = s.hsc ∧ (State.strayFlit s e f).boot = s.boot ∧ (State.strayFlit s e f).core = s.core ∧ (State.strayFlit s e f).mgmt = s.mgmt := by
  unfold State.strayFlit; simp [State.crcFailed_keeps _ _]

end Sys2Proof.Machine
end

