-- ==== Sys2Proof/Tests/Slice0.lean ====
section
/-! SUPPORT. Tests: ill-formed terms that well-formedness refuses, worked examples of the spec, single steps, and for
each statement with hypotheses a state and operands that meet them, clause by clause. -/

namespace Sys2Proof.Tests

open Sys2Proof Sys2Proof.Machine

-- The kernel checks these theorems one after the other: each waits for the ones before it anyway.
set_option Elab.async false

/-! ### The states of the tests -/

/-- A running block whose link H0.0 carries CXL.mem traffic. -/
def up : State :=
  { boot := { st := 3, step := 10, main := true, released := true, trained := true }
    host := { grp := [(0, { perst := false, busy := false, up := true })]
              link := [(0, { st := .l0, rate := 4, width := 4, active := 4, flit := .flit68, cxl := true, bi := true,
                             l0pOk := true, aspm := true })] }
    clk := { loops := (upTo 40).map (fun n => (n, { locked := true })) } }

/-- The read that `running` has outstanding. -/
def read3 : ReqRead := { tag := 3, addr := 256, len := 4, left := 4, queue := 0, ix := 5, at_ := 0 }

/-- The running block with a descriptor in queue 0 whose operation has `op`, from device line 0 to device line 64. -/
def running (d : Desc) : State :=
  { up with
    dm := [(0, { st := 1, run := [d] })]
    host := { up.host with ld := [(0, { reads := [read3] })] } }

/-- A descriptor at ring index 5. -/
def d5 (raw : BitVec 512) : Desc :=
  { ix := 5, raw := raw, ended := false, status := 0, flags := 0, crc := 0, cons := 0, prod := 0, token := 0, offset := 0,
    count := 0, buf := [], want := [], flushing := false }

/-- A link's state. -/
def lk (x : LinkState) : Link → Link := fun k => { k with st := x }

/-- Link H0.0 of the running block in a state. -/
def upIn (x : LinkState) : State := up.onLink 0 (lk x)

/-- The running block with PERST_N of H0 asserted. -/
def upPerst : State := up.onGrp 0 (fun p => { p with perst := true })

/-- The running block with a sweep of link H0.0 and of agent 3 in progress. -/
def upSweep : State := (up.onLink 0 (fun k => { k with sweep := some 3 })).withHome { up.home with sweep := [(3, 4)] }

/-- The running block with a function-level reset of logical device 0 in progress. -/
def upFlr : State := up.onLd 0 (fun d => { d with flr := some 0, msixOn := true })

/-- The running block with lane 3 of H0 being margined, and a pulse asked for. -/
def upPend : State := up.onGrp 0 (fun d => { d with margining := [3], pulsePend := true })

/-- The running block with a pulse on HRDY_N[0]. -/
def upPulse : State := up.onGrp 0 (fun d => { d with pulse := some 4 })

/-- The running block with HRDY_N[0] busy. -/
def upBusy : State := (up.onGrp 0 (fun d => { d with busy := true })).withBoot { up.boot with step := 12 }

/-- The running block with extent 0 granted to logical device 0, whose decoder 0 maps it at address 0. -/
def upMem : State :=
  { up with
    host := { up.host with ld := [(0, { dec := [(0, { base := 0, size := 268435456, committed := true })] })] }
    amap := { extents := [(0, { st := .granted })] } }

/-- A queue entry of line 1 with a tracker, which has snooped some agents. -/
def reqAt (who : Requester) (tr : TrackerKind) (sn : List Nat) : QReq :=
  { upMem.newReq 1 who (.read .a) 7 with tr := tr, snoops := sn, sent := true }

/-- The running block with a snoop of line 1 to agent 3 outstanding. -/
def upSnoop : State := upMem.withHome { upMem.home with queue := [reqAt (.host 0) .shared [3]], nextId := 1 }

/-- A request of a class that waits for a credit at home slice 0. -/
def retriedAt (c : ReqClass) : Retried :=
  { hs := 0, cls := c, req := reqAt (if c = .borage then .borage 70 else .dm 3) .shared [], credit := false }

/-- The running block with a request of a class that waits for a credit. -/
def upRetried (c : ReqClass) : State := upMem.withHome { upMem.home with retried := [retriedAt c] }

/-- As `upMem`, with the 256 MiB aperture of logical device 0 at extent 0. -/
def upAp : State := upMem.withRegs { upMem.regs with active := [(winOff (linkPage 0 3) 0x100, 0)] }

/-- The running block with atomics, re-tags, a rebuild and an overwrite in progress at home slice 0. -/
def upHome : State :=
  { upMem with
    home := { upMem.home with atoms := [(0, [{ line := 1, data := 5, last := 9 }])] }
    mem := { upMem.mem with
      retag := [(0, [{ key := blockKey 0 2 0, old := { major := 3, minor := [] }, done := 1 }])]
      overwrite := [{ domain := 1, set := 0, loc := 8, kib := 4 }] } }

/-- The running block with the root array of home slice 0 being rebuilt. -/
def upRebuild : State := upMem.withMem { upMem.mem with rebuild := [(0, 5)] }

/-- The running block with 16 dirty lines in the metadata cache of home slice 0, which cleans from 16. -/
def upDirty : State :=
  { upMem with
    regs := { active := [(mcacheCfg 0, 16)] }
    mem := { upMem.mem with mcache := [(0, (upTo 16).map (fun k => { key := k, dirty := true, use := k, ways := [k] }))] } }

/-- The running block with extent 0 as an entry, in a domain 1 that is valid, whose set 2 holds metadata blocks. -/
def upCap (x : ExtentEntry) : State :=
  { up with
    regs := { active := [(amapPage * 4096 + 0xD0, 16)] }
    amap := {
      sets := [(2, { ways := 1, grain := 4, valid := true, near := true, bin := true, member := 0x10, base := 0, len := 8192 })]
      domains := [(1, { valid := true, ovc := 8, nearSets := 4, binSets := 4, extents := 1 })]
      extents := [(0, x)], regions := [(24, { base := 0, count := 4 })] }
    ddr := [(0, { st := .active, usable := 65536 }), (1, { st := .active, usable := 65536 })] }

/-- The running block below AMAP.CRITWM with automatic recall on and extent 0 granted in a domain of OVC 16. -/
def upCrit : State :=
  let s := (upCap { st := .granted, owner := 3, domain := 1 }).setReg amapPage 0xE8 1
  { s with amap := { s.amap with crit := true, domains := [(1, { valid := true, ovc := 16 })] } }

/-- The running block with aperture 1 open to requester 5, over the pinned extent 0. -/
def upLand : State :=
  ((upCap { st := .pinned, domain := 1 }).setReg (poolPage 1) 0x80 (BitVec.ofNat 32 (2 ^ 18))).setReg (poolPage 1) 0x84 5

/-- The running block with channel 0 as given and channel 1 active, set 2 over both (mirrored where `m`), and extent 0
granted with its metadata block in set 2. -/
def upChan (ch : Channel) (m : Bool) : State :=
  { up with
    amap := {
      sets := [(2, { ways := if m then 0 else 1, grain := 4, valid := true, near := true, bin := true, mirror := m, member := 0x10, base := 0, len := 8192 })]
      domains := [(0, { valid := true, ovc := 8, nearSets := 4, binSets := 4, extents := 1, mirror := m })]
      extents := [(0, { st := .granted, metaSet := 2 })] }
    mem := { pages := [(0, { st := .near, set := 2, loc := 2000 })], lines := [(2 ^ 40 + 64000, .poison)] }
    ddr := [(0, ch), (1, { st := .active, usable := 65536 })] }

/-- A channel in a state, with four ranks. -/
def ch0 (x : ChanState) : Channel := { st := x, usable := 65536, lranks := 4, rb := 16 }

/-- A DIMM's SPD that discovery accepts. -/
def spdOk1 : Spd := { kind := 0, density := 0, x8 := false, pranks := 1, height := 0, maxSpeed := 4, drfm := false }

/-- A row of rank 1 in one device. -/
def rec1 : RepairRec := { rank := 1, sub := 0, dev := 1, bg := 2, ba := 3, row := 5 }

/-- The running block with errors on 8 lines of that row, and automatic repair on. -/
def upRows : State :=
  (upChan { ch0 .active with rowCe := [(rowKey rec1, (upTo 8).map (fun k => (k, 0)))] } false).setReg (chanPage 0 4) 0x80 0x200

/-- Errors of a line that touch device 3, devices 3 and 4, and devices 3, 4 and 5. -/
def oneHit : BitVec 640 := 1 <<< 192

/-- Two devices hit. -/
def twoHits : BitVec 640 := oneHit ||| 1 <<< 256

/-- Three devices hit. -/
def threeHits : BitVec 640 := twoHits ||| 1 <<< 320

/-- A tag binding. -/
def twinTag : TagBind := { kind := 0, addr := 1, ctr := 2, domain := 0, epoch := 0, salt := 0, tagKey := 0 }

/-- A mirrored pair whose even copy of a line is bad and whose odd copy is good. -/
def upTwin : State :=
  let s := upChan { ch0 .active with mir := .sync } true
  s.withMem { s.mem with lines := [(64000, .bad), (2 ^ 40 + 64000, .line 7 twinTag)] }

/-- The running block with page 0 as an entry of a granted extent, on two active channels, its chunk initialised. -/
def upPage (e : PageEntry) : State :=
  let s := upChan (ch0 .active) false
  { s with
    amap := { s.amap with domains := [(0, { valid := true, tierEn := true, ovc := 8, nearSets := 4, binSets := 4, extents := 1 })] }
    mem := { s.mem with pages := [(0, e)], chunks := [(0, 1)], zeroFill := [(0, 0xFFFFFFFFFFFFFFFF)], salts := [(0, 3)] } }

/-- A page in a bin of one KiB. -/
def binned : PageEntry := { st := .compressed, set := 2, loc := 24000, binsize := 1, plen := [16, 16, 16, 16] }

/-- A near page. -/
def nearPage : PageEntry := { st := .near, set := 2, loc := 2000 }

/-- A migration of page 0 in progress. -/
def theMig (e : PageEntry) (k : MigKind) (loc : Nat) : Migration :=
  { image := e, kind := k, dset := 2, dloc := loc, byWrite := false, at_ := 0 }

/-- The running block with page 0 migrating to a location. -/
def upMig (e : PageEntry) (k : MigKind) (loc : Nat) : State :=
  let s := upPage { e with st := .migrating }
  s.withMem { s.mem with mig := [(0, theMig e k loc)] }

/-- The running block with page 0 moving between bins, every line of its bin there. -/
def upBins : State :=
  let s := upMig binned .binMove 48000
  s.withMem { s.mem with
    lines := (upTo 16).map (fun j => (mediaKey 0 (12288000 + 64 * j), .line 7 (s.binBind 0 j (s.majorOf 0)))) }

/-- The running block with a page in one of two bin groups of set 2. -/
def upGroups : State :=
  (upPage binned).withTier {
    groups := [(2 ^ 33 + 2000, { unit := 0, set := 2, cls := 1, used := 3 }), (2 ^ 33 + 2001, { unit := 0, set := 2, cls := 1, used := 1 }),
      (2 ^ 33 + 2002, { unit := 0, set := 2, cls := 1, used := 7 })] }

/-- The running block with page 0 on a retired row of channel 0. -/
def upRetire (e : PageEntry) : State :=
  (upPage e).onChan 0 (fun ch => { ch with retired := [rowOf 16 4096000] })

/-- The running block with page 0 on channel 0, which drains. -/
def upDrain : State := (upPage nearPage).onChan 0 (fun ch => { ch with st := .draining })

/-- The running block with a direct job of engine 0. -/
def upJob (j : Option Job) : State := (upPage nearPage).withTier { eng := [(0, { job := j })] }

/-- The running block with a CRC job of engine 0 whose one input line is there. -/
def upCrc : State :=
  let s := (upJob (some { op := 3, cancel := false })).setReg (engPage 0) 0x98 8
  s.withHome { s.home with fetched := [{ who := .job 0, line := 0, data := some 5 }] }

/-- A page of zeros in a bin of one KiB: four parcels of 11 bytes. -/
def zeroBin : PageEntry :=
  { st := .compressed, set := 2, loc := 24000, binsize := 1, plen := [1, 1, 1, 1], crc := crc32c (List.replicate 4096 0) }

/-- A parcel that decodes to 1,024 zeros, padded. -/
def zeroParcel : List Byte := [9, 0, 0x1F, 0, 1, 0, 255, 255, 255, 239, 0, 0, 0, 0, 0, 0]

/-- The running block with a page of zeros in a bin, being promoted. -/
def upZero : State :=
  let s := upMig zeroBin .promotion 3000
  s.withMem { s.mem with
    lines := [(mediaKey 0 12288000, .line (lineOf (zeroParcel ++ zeroParcel ++ zeroParcel ++ zeroParcel))
      (s.binBind 0 0 (s.majorOf 0)))] }

/-- A descriptor's words: OP and flags in the first word, then SRC, DST, LEN, DLIMIT, AUX0 and AUX1. -/
def rawOf (w0 src dst len dlim aux0 aux1 : Nat) : BitVec 512 :=
  BitVec.ofNat 512 (w0 + src * 2 ^ 64 + dst * 2 ^ 128 + len * 2 ^ 192 + dlim * 2 ^ 224 + aux0 * 2 ^ 320 + aux1 * 2 ^ 384)

/-- The running block with a descriptor at index 5 of queue 0, whose extent is granted. -/
def upDm (d : Desc) : State := { upPage nearPage with dm := [(0, { st := 1, run := [d] })] }

/-- The descriptor at index 5 with its first bytes of host memory there. -/
def hostSrc (raw : BitVec 512) (b : List Byte) : Desc := { d5 raw with buf := (b.zip (upTo b.length)).map (fun e => (e.2, some e.1)) }

/-- The running block with a compression to run and engine 0 verifying. -/
def upVerify : State :=
  (upDm (hostSrc (rawOf 5 0 64 4 32 0 0) [1, 2, 1, 4])).withTier { eng := [(0, { verifyLeft := 9 })] }

/-- The running block with queue 0 enabled and one descriptor waiting in its ring. -/
def upRing (rsp : Nat) : State :=
  (({ upPage nearPage with dm := [(0, { st := 1 })] } : State).dmqSet 0 0 0 32 (rsp * 2 + 16)).dmqSet 0 0x10 0 16 1

/-- The running block with module end 0 as given, the other ends of its connection active. -/
def upEnd (k : ModuleEnd) : State :=
  { up with dunas := [(0, k), (1, { st := .active }), (2, { st := .active }), (3, { st := .active })] }

/-- The module ends of the running block that face Borage, active with credits. -/
def brgEnd0 : ModuleEnd :=
  { st := .active, adv := [32, 288, 64, 512, 64, 0, 16, 16], consumed := noCounts, returned := noCounts, myReturned := noCounts }

/-- The running block with extent 0 granted to logical device 0, a Borage chiplet that serves, and rights of 2 for its
agent 0. -/
def upBrg : State :=
  { upMem with
    dunas := [(15, brgEnd0), (16, brgEnd0), (17, brgEnd0), (18, brgEnd0)]
    brg := { present := true, st := 2, rst := false, rights := [(0, 2)] } }

/-- As `upBrg`, with BAR0 of logical device 0 of 4 KiB. -/
def upBar : State := upBrg.setReg brgPage 0x100 25

/-- A forwarded read that Borage has not answered. -/
def fwd1 : FwdReq := { tag := 3, m := none, ld := 0, htag := 7, off := 64, len := 4, wr := none, at_ := 0, got := none }

/-- A message flit of idle slots under sequence number 0. -/
def idleFlit : BitVec 512 := BitVec.ofNat 512 (ofBytes (List.replicate 60 0 ++ [134, 229, 38, 184]))

/-- A flit of KIND 1 whose CRC is right under sequence number 0. -/
def kindFlit : BitVec 512 := BitVec.ofNat 512 (ofBytes ([0x40] ++ List.replicate 59 0 ++ (toBytes 4 (flitCrc 0 ([0x40] ++ List.replicate 59 0))).reverse))

/-- As `upBrg`, with a snoop of line 1 to Borage agent 64 outstanding. -/
def upBrgSnoop : State := upBrg.withHome { up.home with queue := [reqAt (.host 0) .shared [64]], nextId := 1 }

/-- The running block with Dill's chiplet page locked by an owner. -/
def upLock (owner : Nat) : State :=
  up.withRegs { up.regs with locks := [(dillPage, { owner := owner, lease := 0, last := 0 })] }

/-- A firmware image that verifies. -/
def goodImage : FwImage := { key := true, sig := true, svn := 3, entry := 4, body := [1, 2, 0, 0, 3, 4, 0, 0] }

/-- The running block with an update in a state, the image in slot B. -/
def upFwu (x : FwuState) : State :=
  let s := upLock 3
  { s with
    boot := { s.boot with board := { s.boot.board with slotB := some goodImage } }
    mgmt := { s.mgmt with fwu := x, slotB := true, ready := true, standby := some (true, 3), trialEnd := 77, committed := true } }

/-- The running block with the retained-configuration image being applied, at a record. -/
def upCfg (r : CfgRecord) : State := { up with boot := { up.boot with step := 11, cfg := some [r] } }

/-- The running block with a register read of a core outstanding at Borage. -/
def upReg : State :=
  upBrg.withBrg { upBrg.brg with
    fwd := [{ tag := 4, m := some (.core 0), ld := 0, htag := 0, off := 0xC000 * 4096 + 8, len := 4, wr := none, at_ := 9, got := none }] }

/-- The running block with a retained write of a word of the firmware area in progress, its wear count as given. -/
def upWear (n : Nat) : State :=
  { up with ret := { wear := [(0x1004, n)], queue := [{ key := 0x1004, val := 5, who := none, at_ := 3 }] } }

/-- The running block whose core serves mailboxes. -/
def upFm : State := upMem

/-- A log record. -/
def rec0 : LogRec :=
  { seq := 9, time := 1, source := 3, fault := false, retained := false, dropped := false, node := 0, site := 0, cls := 0,
    subject := 0, detail := [], code := 0, ld := none }

/-- The power path in a state, at 12 V in the window. -/
def upHsc (h : HotSwap) : State := { up with hsc := { h with vin := 12000, vinOk := true } }

/-- A start-up whose first rail, rail 0 at PMBus address 16, is to become good. -/
def upRail (on : List Nat) : State :=
  { boot := { st := 2, step := 6, railOn := on }
    hsc := { st := .on, pg := true }
    ret := {
      words := (upTo 7).map (fun k => (backKey (winOff dillPage (0x240 + 4 * k)), BitVec.ofNat 32 (2 ^ 20 + 16 + k))) } }

/-- A board with one image, in slot A. -/
def board0 : Board :=
  { spd := [], filler := true, suffix := 0, serial := 0, slotA := some goodImage, slotB := none, cfgImage := none }

/-- The running block with XTAL_A in use, XTAL_B good, and the root loop and loop 3 locked, loop 3 coasting or not. -/
def upClk (c : Bool) : State :=
  up.withClk { up.clk with
    xa := { ok := true, since := some 1 }, xb := { ok := true, since := some 2 }, refOn := true
    loops := [(0, { locked := true }), (3, { locked := true, coast := c, lostAt := if c then some 9 else none })] }

/-- The running block with a page locked by a management core. -/
def upLocked (p : Nat) : State :=
  up.withRegs { up.regs with locks := [(p, { owner := 3, lease := 0, last := 0 })] }

/-- The running block with a core as given, running. -/
def upCore (c : Nat) (k : MCore) : State := up.onMcore c (fun _ => { k with halted := false })

/-- An enabled cache with one line of an image region. -/
def warm : Cache :=
  { en := true, stale := false,
    lines := [{ line := 0x10000040 / 64, set := 1, way := 0, data := (upTo 64).map (BitVec.ofNat 8), use := 0 }] }

/-- The running block after a sample, with the interval's energy and activity of two logical devices as R465's example. -/
def upSens (e : Nat) : State :=
  { up.onMgmt (fun m => { m with
      interval := e, sampled := true, actRd := [(5, 1600000)], actWr := [(37, 400000)], actDm := [(37, 200000)] }) with
    regs := { active := [(winOff sensPage 0x308, 150000), (winOff sensPage 0x30C, 2 + 256 * 3 + 65536 * 2 + 16777216 * 4)] } }

/-- The running block with lane margin scans of one hour enabled. -/
def upMargin : State := up.setReg sensPage 0x310 (1 + 2 * 1 + 512 * 2 + 32768 * 3)

/-- The running block with an active record of a home slice's unit. -/
def upRec (held : Bool) (n : Nat) : State :=
  up.setRec (unitOf 0x8800) { site := 0x880000, cls := 1, active := true, seen := 1, quietEnd := 90, fails := n, heldOut := held }

/-- The running block with a counter of page 0x8801 past its range. -/
def upPmc : State := up.withObs { pmc := [(0x8801, { cnt := [(1, 2 ^ 48 + 2)], ovf := 4 })] }

/-- A trace record. -/
def trace0 : TraceRec :=
  { time := 5, addr := 64, kind := 0, flags := 1, port := 0, hs := 0, agent := 0, chan := 0xFF, d11 := 9 }

/-- The running block with TRC.CFG staged, pages with a pending commit and values that a GO took. -/
def upStaged (p : List Nat) (g : Table Word) : State :=
  up.withRegs { staged := [(trcPage * 4096 + 0x80, 0x84)], going := g, pending := p }

/-- The running block with an enabled counter of cycles of the fault collector's page. -/
def upCycles : State := (up.withObs { pmc := [(fcPage, { ovf := 4 })] }).setReg fcPage 0x40 1

/-! ### The checks of well-formedness: each refuses an ill-formed term, and lets a good one pass -/

theorem test_wf_memrd : (Instr.memrd 0 0 0x1020 .a 5 none).wellFormed = false := by decide
theorem test_wf_memrd_good : (Instr.memrd 0 0 0x1040 .a 65535 none).wellFormed = true := by decide
theorem test_wf_memrddata : (Instr.memrddata 0 0 0x1000 65536).wellFormed = false := by decide
theorem test_wf_memspecrd : (Instr.memspecrd 0 0 0x1001 5).wellFormed = false := by decide
theorem test_wf_memwr : (Instr.memwr 0 0 0x1008 .a 0 false 5).wellFormed = false := by decide
theorem test_wf_memwrptl : (Instr.memwrptl 0 0 0x1000 .a 1 0 false 65536).wellFormed = false := by decide
theorem test_wf_meminv : (Instr.meminv 0 0 0x1010 .a 5).wellFormed = false := by decide
theorem test_wf_memclnevct : (Instr.memclnevct 0 0 0x1000 65536).wellFormed = false := by decide
theorem test_wf_apertureRead : (Instr.cxlioApertureRead 0 0 0 5).wellFormed = false := by decide
theorem test_wf_apertureWrite : (Instr.cxlioApertureWrite 0 0 [] false).wellFormed = false := by decide
theorem test_wf_bar0Write : (Instr.bar0Write 0 0 []).wellFormed = false := by decide
theorem test_wf_bar0Read : (Instr.bar0Read 0 0 4097 5).wellFormed = false := by decide
theorem test_wf_requesterCompletion :
    (Instr.requesterCompletion 0 0 0 (List.replicate 4097 0) .ok).wellFormed = false := by decide +kernel
theorem test_wf_configRequest : (Instr.configRequest 0 256 (.read 0)).wellFormed = false := by decide
theorem test_wf_landDataWrite : (Instr.landDataWrite 0 0 0 [] false).wellFormed = false := by decide
theorem test_wf_releaseDc : (Instr.releaseDc 0 []).wellFormed = false := by decide
theorem test_wf_atomic : (Instr.atomic 0 0 0 false .fetchAdd .b8 4 0 0).wellFormed = false := by decide
theorem test_wf_svcReturn :
    (Instr.svcReturn .bmc 0 (some { kind := 0, density := 0, x8 := false, pranks := 17, height := 0, maxSpeed := 0, drfm := false })
      none).wellFormed = false := by decide
theorem test_wf_initCredit : (Instr.initCredit 0 [1, 2]).wellFormed = false := by decide
theorem test_wf_ackCredit : (Instr.ackCredit 0 true 0 []).wellFormed = false := by decide
theorem test_wf_auxReset :
    (Instr.auxReset .auxRise { board0 with spd := [(32, spdOk1)] }).wellFormed = false := by decide
theorem test_wf_sensorSample :
    (Instr.sensorSample { vin := 0, iin := 0, die := [(24, 0)], railV := [], railI := [] }).wellFormed = false := by decide
theorem test_wf_sbRd : (Instr.sbRd 0 256).wellFormed = false := by decide
theorem test_wf_sbWr : (Instr.sbWr 0 (List.replicate 256 0)).wellFormed = false := by decide +kernel
theorem test_wf_imgData : (Instr.imgData 0 (List.replicate 256 0)).wellFormed = false := by decide +kernel
theorem test_wf_registerWrite : (Instr.registerWrite .bmc 2 0 15).wellFormed = false := by decide
theorem test_wf_regAccess : (Instr.regAccess 0 1 none).wellFormed = false := by decide
theorem test_wf_borageRegAccess : (Instr.borageRegAccess .bmc 2 none).wellFormed = false := by decide
theorem test_wf_imgEnd : (Instr.imgEnd { goodImage with entry := 2 ^ 32 }).wellFormed = false := by decide
theorem test_wf_mbTransferFw : (Instr.mbTransferFw 0 0 true { goodImage with svn := 2 ^ 32 }).wellFormed = false := by decide

/-! ### Worked examples of the spec -/

/-- 01_package_and_sites.md, worked example: HS23's metadata cache is page 0xA4C7, its STATUS at 0x0A4C_7010. -/
theorem test_page_of_hs23 : hsPage 23 7 = 0xA4C7 ∧ pageOfSite 0xA4C70E = 0xA4C7 ∧ winOff 0xA4C7 0x10 = 0x0A4C7010 := by decide
/-- 01_package_and_sites.md, the table beside it: D0.0.2, S0.1.1, C1.1.2, L2.1.5 and L2.3. -/
theorem test_pages_of_sites : pageOfSite 0x00BFFF = 0x00BF ∧ mkPage 2 1 1 63 = 0x247F ∧ linkPage 14 63 = 0x54BF ∧
    chanPage 11 63 = 0xA57F ∧ chipletPage 10 = 0xAFFF := by decide
/-- 02_host_ports.md: HLINK of H3.2 is page 0x5480 and HPGS of H0 page 0x4141; DECODE_MISS of H2 is source 197. -/
theorem test_port_pages : linkPage 14 0 = 0x5480 ∧ hpgsPage 0 = 0x4141 ∧ srcPort 2 5 = 197 := by decide
/-- 10_dunas_fabric_borage.md: the Sorrel end of B0-S.0 is page 0x29C0. -/
theorem test_module_page : modPage 15 0 = 0x29C0 := by decide
/-- 16_register_space.md: the ID registers of pages 0xA4C7 and 0x2440. -/
theorem test_id_words : idWord 0xA4C7 = 0x5050A4C7 ∧ idWord 0x2440 = 0x50342440 := by decide
/-- 03_addresses_domains_capacity.md, worked translation, steps 1 to 3. -/
theorem test_worked_hpa :
    ({ up with host := { up.host with ld := [(37, { dec := [(0, {
        base := 0x004000000000, size := 2 ^ 36, skip := 0x000200000000, ways := 1, gran := 2, committed := true })] })] } } :
      State).dpaOf 37 0x004012345678 = some 0x0002091A2A78 := by decide +kernel
/-- 03_addresses_domains_capacity.md, worked translation, steps 5 to 7. -/
theorem test_worked_interleave :
    ({ valid := true, near := true, ways := 3, grain := 0, xor := true, base := 0, len := 1048576, member := 0xFEDCBA98 } :
      SetEntry).media 0x34567A40 = (14, 0x068ACF40) := by decide +kernel
/-- 05_ddr5_channels.md, worked example: row 0xD1 of bank 1 in group 7 of subchannel B, columns from 0x2C0. -/
theorem test_worked_dram : dramOf { rb := 18, lranks := 8 } 0x068ACF40 =
    ({ rank := 0, sub := 1, dev := 0, bg := 7, ba := 1, row := 0xD1 }, 0x2C0) := by decide
/-- 06_tiers_and_compression.md, worked example: parcel 2 starts at byte 848, and read of line 20 begins at byte 320. -/
theorem test_worked_parcels :
    parcelStart { binned with plen := [20, 33, 65, 12] } 2 = 848 ∧ parcelStart { binned with plen := [20, 33, 65, 12] } 1 = 320 := by
  decide
/-- 10_dunas_fabric_borage.md, worked example: 208 headers and 1,016 slots in use; 238 and 1,176 after the sends. -/
theorem test_worked_credits :
    (let k : ModuleEnd := { consumed := [0xFFF0, 0x7FF8, 0, 0, 0, 0, 0, 0], returned := [0xFF20, 0x7C00, 0, 0, 0, 0, 0, 0] }
     let k' : ModuleEnd := { k with consumed := bump16 (bump16 k.consumed 0 30) 1 160 }
     (k.inUse 0, k.inUse 1, k'.inUse 0, k'.inUse 1)) = (208, 1016, 238, 1176) := by decide
/-- 13_management_subsystem.md, the example of R465: 180,000 and 90,000 uJ, and 150,000 unassigned. -/
theorem test_worked_ledger :
    (let t := (upSens 420000).splitEnergy 420000
     (look 0 t.mgmt.ledger 5, look 0 t.mgmt.ledger 37, t.mgmt.unassigned)) = (180000, 90000, 150000) := by decide +kernel

/-! ### Single steps -/

/-- R488: the return of Hyssop's link, taken from the front of the queue. -/
theorem test_step_front :
    step { up with pending := [.serialLinkReturn, .fenceI 0], hsc := { up.hsc with linkLost := true } } =
      .next { up with pending := [.fenceI 0], hsc := { up.hsc with linkLost := false } } := rfl
/-- R418: HSC.CMD STOP from ON pulls the gate. -/
theorem test_stop : ((upHsc { st := .on, pg := true }).hscOp 2 12000).hsc.st = .stopped := by decide +kernel
/-- R541: the BMC does not take a lock of a management core. -/
theorem test_lock_held : ((upLocked trcPage).lockWrite .bmc trcPage 4).lockOf trcPage = 3 := by decide +kernel
/-- R502: a raise of FRAME_BAD (source 5) sets its pending bit and no other. -/
theorem test_raise : (up.raise { src := 5, site := 0 }).evt.pend = 32 := by decide +kernel
/-- R518: the feedback of the tagging register. -/
theorem test_lfsr : lfsrStep 1 = 0x80200003 ∧ lfsrStep 2 = 1 := by decide
/-- No word spells a command: the table gives no row bits. -/
theorem test_no_word : (decodeTableWord 32 7).isNone = true ∧ State.reset.withFetchWord 32 7 = State.reset := by decide +kernel

/-! ### Witnesses of the statements -/

set_option maxRecDepth 100000 in
theorem wit_stepRunsTheFrontCommand : ∃ (c : Instr) (s : State) (r : List Instr), s.pending = c :: r :=
  ⟨.fenceI 0, { up with pending := [.fenceI 0, .serialLinkReturn] }, [.serialLinkReturn], by decide +kernel⟩

theorem wit_stepOnAnEmptyQueueLetsTimePass : ∃ s : State, s.pending = [] ∧ s.boot.aux = true :=
  ⟨up, by decide +kernel⟩

theorem wit_commandsLeaveTheQueue :
    (∃ (i : Instr) (s t : State), exec i s = .next t ∧ s.pending ≠ []) ∧ (∃ (s t : State), step s = .next t ∧ s.pending ≠ []) :=
  ⟨⟨.serialLinkReturn, { up with pending := [.fenceI 0] },
      ({ up with pending := [.fenceI 0] } : State).withHsc { up.hsc with linkLost := false }, rfl, by decide⟩,
   ⟨{ up with pending := [.serialLinkReturn] }, up.withHsc { up.hsc with linkLost := false }, rfl, by decide⟩⟩

theorem wit_timeNeverDecreases :
    (∃ (i : Instr) (s t : State), (∀ b, i ≠ .auxReset .auxRise b) ∧ exec i s = .next t ∧ 0 < t.now) ∧
    (∃ (s t : State), (∀ b, s.pending.head? ≠ some (.auxReset .auxRise b)) ∧ step s = .next t) ∧
    (∃ (s t : State) (b : Board), exec (.auxReset .auxRise b) s = .next t) :=
  ⟨⟨.serialLinkReturn, { up with now := 7 }, ({ up with now := 7 } : State).withHsc { up.hsc with linkLost := false },
      by simp, rfl, by decide⟩,
   ⟨{ up with pending := [.serialLinkReturn] }, up.withHsc { up.hsc with linkLost := false }, by simp, rfl⟩,
   ⟨up, up.auxBoot true board0, board0, rfl⟩⟩

theorem wit_stepKeepsTheMemoryForm :
    (∃ (i : Instr) (s t : State), s.memoryWf = true ∧ exec i s = .next t ∧ s.mem.lines ≠ []) ∧
    (∃ (s t : State), s.memoryWf = true ∧ step s = .next t ∧ s.mem.lines ≠ []) :=
  ⟨⟨.serialLinkReturn, upDrain, upDrain.withHsc { upDrain.hsc with linkLost := false }, by decide +kernel, rfl, by decide⟩,
   ⟨{ upDrain with pending := [.serialLinkReturn] }, upDrain.withHsc { upDrain.hsc with linkLost := false },
     by decide +kernel, rfl, by decide⟩⟩

set_option maxRecDepth 100000 in
theorem wit_registerPagesOfSites : ∃ (slot : ℕ) (cl : ℕ) (sl : ℕ) (en : ℕ) (x : ℕ), (slot < 16) ∧ (cl < 4) ∧ (sl < 16) ∧ (en < 64) ∧ (x < 4096) :=
  ⟨15, 3, 15, 63, 4095, by decide +kernel⟩

set_option maxRecDepth 100000 in
theorem wit_portGroupsAreClusters : ∃ (n : ℕ) (k : ℕ), (n < 4) ∧ (k < 4) :=
  ⟨3, 2, by decide +kernel⟩

set_option maxRecDepth 100000 in
theorem wit_homeSliceOfADpa :
    (∃ (p : ℕ), p < 2 ^ 34) ∧
    (∃ (a : ℕ) (b : ℕ), (a < 2 ^ 46) ∧ (b < 2 ^ 46) ∧ (a / 2 ^ 12 = b / 2 ^ 12)) :=
  ⟨⟨0x312345678, by decide +kernel⟩,
   ⟨0x312345678ABC, 0x312345678000, by decide +kernel⟩⟩

set_option maxRecDepth 100000 in
theorem wit_snoopFilterSetAndTag : ∃ (a : ℕ) (b : ℕ), (a < 2 ^ 40) ∧ (b < 2 ^ 40) ∧ (sfSetOf a = sfSetOf b) ∧ (a / 2 ^ 14 = b / 2 ^ 14) :=
  ⟨0x1234567, 0x1234567, by decide +kernel⟩

set_option maxRecDepth 100000 in
theorem wit_borageEventSources :
    (∃ (s : State) (k : Fin 64) (v : BitVec 64), ((s.brgEnd 0).isSome = true) ∧ (s.boot.st ≠ 0)) ∧
    (∃ (s : State) (k : Fin 64) (v : BitVec 64), ((s.brgEnd 0).isSome = true) ∧ (s.boot.st ≠ 0)) :=
  ⟨⟨upBrg, 63, 5, by decide +kernel⟩,
   ⟨(upBrg.withEvt { route := [(704, 4)] }), 0, 5, by decide +kernel⟩⟩

set_option maxRecDepth 100000 in
theorem wit_overtemperatureIsClassF :
    (∃ (s : State) (n : Fin 24), (s.boot.aux = true) ∧ (↑n < 23) ∧ (s.sensorOn ↑n = true)) ∧
    (∃ (n : ℕ), n < 23) ∧
    (∃ (s : State) (t : BitVec 16), (480 ≤ t.toInt) ∧ (4 * s.cfg sensPage 152 0 8 ≤ 480) ∧ (s.mgmt.hot.contains 23 = false) ∧ (s.boot.st ≠ 0)) :=
  ⟨⟨up, 22, by decide +kernel⟩,
   ⟨22, by decide +kernel⟩,
   ⟨up, 481, by decide +kernel⟩⟩

set_option maxRecDepth 100000 in
theorem wit_hostLinkStateTable :
    (∃ (s : State) (l : Fin 16) (byHost : Bool), (s.link ↑l).flows = true) ∧
    (∃ (s : State) (l : Fin 16) (r : Fin 7) (w : Fin 5), (s.link ↑l).st = LinkState.recovery) ∧
    (∃ (s : State) (l : Fin 16), (s.link ↑l).st = LinkState.recovery) ∧
    (∃ (s : State) (l : Fin 16) (w : Fin 5), (s.l0pUse ↑l = true) ∧ (↑w ≤ (s.link ↑l).width)) ∧
    (∃ (s : State) (l : Fin 16), (s.link ↑l).flows = true) ∧
    (∃ (s : State) (l : Fin 16) (w : Fin 5), (s.l0pUse ↑l = true) ∧ (↑w < (s.link ↑l).active)) ∧
    (∃ (s : State) (l : Fin 16), (s.link ↑l).st = LinkState.l0p) ∧
    (∃ (s : State) (l : Fin 16), ((s.link ↑l).flows = true) ∧ ((s.link ↑l).aspm = true) ∧ (s.cfg (linkPage (↑l) 0) 128 8 8 ≠ 0) ∧ (s.linkIdle ↑l = true)) ∧
    (∃ (s : State) (l : Fin 16), (s.link ↑l).st = LinkState.l1) ∧
    (∃ (s : State) (l : Fin 16), (s.link ↑l).flows = true) ∧
    (∃ (s : State) (m : Master) (l : Fin 16), (s.accepts m (winOff (linkPage (↑l) 0) 128) = true) ∧ ((s.link ↑l).flows = true)) :=
  ⟨⟨up, 0, true, by decide +kernel⟩,
   ⟨(upIn .recovery), 0, 3, 2, by decide +kernel⟩,
   ⟨(upIn .recovery), 0, by decide +kernel⟩,
   ⟨up, 0, 2, by decide +kernel⟩,
   ⟨up, 0, by decide +kernel⟩,
   ⟨up, 0, 2, by decide +kernel⟩,
   ⟨(upIn .l0p), 0, by decide +kernel⟩,
   ⟨up, 0, by decide +kernel⟩,
   ⟨(upIn .l1), 0, by decide +kernel⟩,
   ⟨up, 0, by decide +kernel⟩,
   ⟨up, .bmc, 0, by decide +kernel⟩⟩

set_option maxRecDepth 100000 in
theorem wit_linkLossAndPortResets :
    (∃ (s : State) (g : Fin 4), (s.grp ↑g).perst = true) ∧
    (∃ (s : State) (l : Fin 16) (o : PartnerOffer), s.canTrain ↑l = true) ∧
    (∃ (s : State) (l : Fin 16), (s.link ↑l).breakable = true) ∧
    (∃ (s : State) (l : Fin 16), (s.link ↑l).live = true) ∧
    (∃ (s : State) (l : Fin 16), (s.link ↑l).live = true) ∧
    (∃ (s : State) (l : Fin 16), (s.link ↑l).sweep.isSome = true) ∧
    (∃ (s : State) (a : Fin 80), listed s.home.sweep ↑a = true) ∧
    (∃ (s : State), brgAgents.any (listed s.home.sweep) = true) :=
  ⟨⟨upPerst, 0, by decide +kernel⟩,
   ⟨(upIn .down), 0, { rate := 5, width := 3, cxl := true, bi := true, mld := false, l0p := true, flit256 := true }, by decide +kernel⟩,
   ⟨up, 0, by decide +kernel⟩,
   ⟨up, 0, by decide +kernel⟩,
   ⟨up, 0, by decide +kernel⟩,
   ⟨upSweep, 0, by decide +kernel⟩,
   ⟨upSweep, 3, by decide +kernel⟩,
   ⟨(upSweep.withHome { upSweep.home with sweep := [(64, 4)] }), by decide +kernel⟩⟩

set_option maxRecDepth 100000 in
theorem wit_functionResetsAndRequester :
    (∃ (s : State) (ld : Fin 64), ((s.served ↑ld).isSome = true) ∧ ((s.ld ↑ld).flr = none)) ∧
    (∃ (s : State) (ld : Fin 64), (s.ld ↑ld).flr.isSome = true) ∧
    (∃ (s : State) (g : Fin 4) (lane : Fin 16), ↑lane ∈ (s.grp ↑g).margining) ∧
    (∃ (s : State) (ld : Fin 64) (tag : BitVec 14) (addr : BitVec 64) (data : List Byte) (st : CplStatus), ∀ r ∈ (s.ld ↑ld).reads, r.tag ≠ tag.toNat) ∧
    (∃ (s : State) (ld : Fin 64) (tag : BitVec 14) (addr : BitVec 64) (data : List Byte) (r : ReqRead) (d : Desc), (List.find? (fun r => r.tag == tag.toNat) (s.ld ↑ld).reads = some r) ∧ (s.desc r.queue r.ix = some d) ∧ (d.flushing = false) ∧ (r.ix ≠ ringIx)) ∧
    (∃ (s : State) (ld : Fin 64) (tag : BitVec 14) (addr : BitVec 64) (data : List Byte) (r : ReqRead) (d : Desc), (List.find? (fun r => r.tag == tag.toNat) (s.ld ↑ld).reads = some r) ∧ (s.desc r.queue r.ix = some d) ∧ (r.ix ≠ ringIx)) ∧
    (∃ (s : State) (ld : Fin 64) (tag : BitVec 14) (r : ReqRead) (l : ℕ) (d : Desc), (List.find? (fun r => r.tag == tag.toNat) (s.ld ↑ld).reads = some r) ∧ (s.linkOf ↑ld = some l) ∧ (s.desc r.queue r.ix = some d) ∧ (d.flushing = false) ∧ (r.ix ≠ ringIx)) ∧
    (∃ (s : State) (ld : Fin 64) (fn : ℕ) (op : ConfigOp) (l : ℕ), s.served ↑ld = some l) ∧
    (∃ (s : State) (ld : Fin 64) (r : BitVec 10) (l : ℕ), (s.served ↑ld = some l) ∧ ((s.link l).cfgReadyAt ≤ s.now) ∧ ((s.ld ↑ld).flr = none)) ∧
    (∃ (s : State) (ld : Fin 64) (r : BitVec 10) (v : Word) (l : ℕ), (s.served ↑ld = some l) ∧ ((s.link l).cfgReadyAt ≤ s.now) ∧ ((s.ld ↑ld).flr = none)) ∧
    (∃ (s : State) (l : Fin 16), ((s.link ↑l).live = true) ∧ (s.now < (s.link ↑l).corrFrom + sec 1)) ∧
    (∃ (s : State) (l : Fin 16) (seq : ℕ), (s.link ↑l).live = true) :=
  ⟨⟨up, 0, by decide +kernel⟩,
   ⟨upFlr, 0, by decide +kernel⟩,
   ⟨upPend, 0, 3, by decide +kernel⟩,
   ⟨up, 0, 3, 0, [], .ok, by decide +kernel⟩,
   ⟨(running (d5 0)), 0, 3, 0, [], read3, (d5 0), by decide +kernel⟩,
   ⟨(running (d5 0)), 0, 3, 256, [7, 8], read3, (d5 0), by decide +kernel⟩,
   ⟨(running (d5 0)), 0, 3, read3, 0, (d5 0), by decide +kernel⟩,
   ⟨up, 0, 3, (.read 0), 0, by decide +kernel⟩,
   ⟨up, 0, 8, 0, by decide +kernel⟩,
   ⟨up, 0, 3, 0, 0, by decide +kernel⟩,
   ⟨up, 0, by decide +kernel⟩,
   ⟨(up.onLink 0 (fun k => { k with txNext := 6 })), 0, 4, by decide +kernel⟩⟩

set_option maxRecDepth 100000 in
theorem wit_hrdyPinPulses :
    (∃ (s : State) (g : Fin 4), ((s.grp ↑g).pulsePend = true) ∧ ((s.grp ↑g).busy = false) ∧ ((s.grp ↑g).pulse = none)) ∧
    (∃ (s : State) (g : Fin 4) (a : ℕ), (s.grp ↑g).pulse = some a) ∧
    (∃ (s : State) (m : Master) (g : Fin 4), s.accepts m (winOff (hpgsPage ↑g) 132) = true) ∧
    (∃ (s : State) (g : Fin 4), ((s.grp ↑g).busy = true) ∧ (s.mayRelease ↑g = true)) :=
  ⟨⟨upPend, 0, by decide +kernel⟩,
   ⟨upPulse, 0, 4, by decide +kernel⟩,
   ⟨up, .bmc, 0, by decide +kernel⟩,
   ⟨upBusy, 0, by decide +kernel⟩⟩

set_option maxRecDepth 100000 in
theorem wit_hostRequestsAdmitted :
    (∃ (s : State) (l : Fin 16) (ld : Fin 64) (hpa : BitVec 64) (mv : MetaVal) (tag : ℕ) (dpa : ℕ), s.admits (↑l) (↑ld) hpa.toNat dpa = true) ∧
    (∃ (s : State) (l : Fin 16) (ld : Fin 64) (hpa : BitVec 64) (mv : MetaVal) (tag : ℕ) (dpa : ℕ) (e : SliceError), s.admits (↑l) (↑ld) hpa.toNat dpa = true) ∧
    (∃ (s : State) (l : Fin 16) (ld : Fin 64) (hpa : BitVec 64) (tag : ℕ) (dpa : ℕ), s.admits (↑l) (↑ld) hpa.toNat dpa = true) ∧
    (∃ (s : State) (l : Fin 16) (ld : Fin 64) (hpa : BitVec 64) (tag : ℕ) (dpa : ℕ), s.admits (↑l) (↑ld) hpa.toNat dpa = true) ∧
    (∃ (s : State) (l : Fin 16) (ld : Fin 64) (hpa : BitVec 64) (mv : MetaVal) (data : Line) (tag : ℕ) (dpa : ℕ), s.admits (↑l) (↑ld) hpa.toNat dpa = true) ∧
    (∃ (s : State) (l : Fin 16) (ld : Fin 64) (hpa : BitVec 64) (mv : MetaVal) (mask : BitVec 64) (data : Line) (tag : ℕ) (dpa : ℕ), s.admits (↑l) (↑ld) hpa.toNat dpa = true) ∧
    (∃ (s : State) (l : Fin 16) (ld : Fin 64) (hpa : BitVec 64) (mv : MetaVal) (tag : ℕ) (dpa : ℕ), s.admits (↑l) (↑ld) hpa.toNat dpa = true) ∧
    (∃ (s : State) (l : Fin 16) (ld : Fin 64) (hpa : BitVec 64) (tag : ℕ) (dpa : ℕ), s.admits (↑l) (↑ld) hpa.toNat dpa = true) :=
  ⟨⟨upMem, 0, 0, 64, .a, 7, 64, by decide +kernel⟩,
   ⟨upMem, 0, 0, 64, .a, 7, 64, .metaCorrected 1, by decide +kernel⟩,
   ⟨upMem, 0, 0, 64, 7, 64, by decide +kernel⟩,
   ⟨upMem, 0, 0, 64, 7, 64, by decide +kernel⟩,
   ⟨upMem, 0, 0, 64, .none, 5, 7, 64, by decide +kernel⟩,
   ⟨upMem, 0, 0, 64, .none, 255, 5, 7, 64, by decide +kernel⟩,
   ⟨upMem, 0, 0, 64, .i, 7, 64, by decide +kernel⟩,
   ⟨upMem, 0, 0, 64, 7, 64, by decide +kernel⟩⟩

set_option maxRecDepth 100000 in
theorem wit_hostRequestsAnswered :
    (∃ (s : State) (l : Fin 16) (ld : Fin 64) (hpa : BitVec 64) (mv : MetaVal) (tag : ℕ) (dpa : ℕ), (s.admits (↑l) (↑ld) hpa.toNat dpa = true) ∧ (s.coherent (dpa / 64) = false) ∧ (s.home.queue = []) ∧ (s.home.retried = []) ∧ (s.home.atoms = []) ∧ (s.mem.rebuild = []) ∧ (s.mem.badMeta = []) ∧ (s.mapGood (lnPage (dpa / 64) / 4) = true) ∧ ((s.entry (lnPage (dpa / 64))).st = PageState.unbacked)) ∧
    (∃ (s : State) (l : Fin 16) (ld : Fin 64) (hpa : BitVec 64) (mv : MetaVal) (data : Line) (p : Bool) (tag : ℕ), (s.memLink ↑l ↑ld = true) ∧ (s.groupFatal ↑l = false) ∧ (s.dpaOf (↑ld) hpa.toNat = none)) ∧
    (∃ (s : State) (l : Fin 16) (ld : Fin 64) (hpa : BitVec 64) (mv : MetaVal) (data : Line) (p : Bool) (tag : ℕ) (dpa : ℕ), (s.memLink ↑l ↑ld = true) ∧ (s.groupFatal ↑l = false) ∧ (s.dpaOf (↑ld) hpa.toNat = some dpa) ∧ (s.outOfService (dpa / 64) = false) ∧ (s.granted (↑ld) (pgExt (lnPage (dpa / 64))) = false)) ∧
    (∃ (s : State) (l : Fin 16) (ld : Fin 64) (hpa : BitVec 64) (mv : MetaVal) (tag : ℕ), (s.memLink ↑l ↑ld = true) ∧ (s.groupFatal ↑l = true)) :=
  ⟨⟨upMem, 0, 0, 64, .a, 7, 64, by decide +kernel⟩,
   ⟨upMem, 0, 0, 0x40000000, .a, 5, true, 7, by decide +kernel⟩,
   ⟨(upMem.onExt 0 (fun e => { e with st := .free })), 0, 0, 64, .a, 5, false, 7, 64, by decide +kernel⟩,
   ⟨(upMem.withFlt { upMem.flt with dev := 1 }), 0, 0, 64, .a, 7, by decide +kernel⟩⟩

set_option maxRecDepth 100000 in
theorem wit_apertureAccesses :
    (∃ (s : State) (ld : Fin 64) (off : BitVec 64) (len : BitVec 13) (tag : ℕ) (l : ℕ) (dpa : ℕ), (s.ioArrives ↑ld = some l) ∧ (s.groupFatal l = false) ∧ (s.ioBars l ↑ld = true) ∧ (s.apertureDpa (↑ld) off.toNat len.toNat = some dpa) ∧ (0 < len.toNat) ∧ (dpa % 64 + len.toNat ≤ 64) ∧ (s.granted (↑ld) (pgExt (lnPage (dpa / 64))) = true) ∧ (s.sliceOut (homeOf (lnPage (dpa / 64))) = false)) ∧
    (∃ (s : State) (ld : Fin 64) (off : BitVec 64) (data : List Byte) (l : ℕ) (dpa : ℕ), (s.ioArrives ↑ld = some l) ∧ (s.groupFatal l = false) ∧ (s.ioBars l ↑ld = true) ∧ (s.apertureDpa (↑ld) off.toNat data.length = some dpa) ∧ (dpa % 64 = 0) ∧ (data.length = 64) ∧ (s.granted (↑ld) (pgExt (lnPage (dpa / 64))) = true) ∧ (s.sliceOut (homeOf (lnPage (dpa / 64))) = false)) ∧
    (∃ (s : State) (ld : Fin 64) (off : BitVec 64) (data : List Byte) (l : ℕ) (dpa : ℕ), (s.ioArrives ↑ld = some l) ∧ (s.groupFatal l = false) ∧ (s.ioBars l ↑ld = true) ∧ (s.apertureDpa (↑ld) off.toNat data.length = some dpa) ∧ (0 < data.length) ∧ (data.length < 64) ∧ (dpa % 64 + data.length ≤ 64) ∧ (s.granted (↑ld) (pgExt (lnPage (dpa / 64))) = true) ∧ (s.sliceOut (homeOf (lnPage (dpa / 64))) = false)) ∧
    (∃ (s : State) (ld : Fin 64) (off : BitVec 64) (op : AtomicKind) (size : AtomicSize) (a : BitVec 128) (b : BitVec 128) (tag : ℕ) (l : ℕ) (dpa : ℕ), (s.ioArrives ↑ld = some l) ∧ (s.groupFatal l = false) ∧ (s.ioBars l ↑ld = true) ∧ (atomicSupported op size = true) ∧ (off.toNat % size.bytes = 0) ∧ (s.apertureDpa (↑ld) off.toNat size.bytes = some dpa) ∧ (s.granted (↑ld) (pgExt (lnPage (dpa / 64))) = true) ∧ (s.sliceOut (homeOf (lnPage (dpa / 64))) = false)) ∧
    (∃ (s : State) (ld : Fin 64) (off : BitVec 64) (op : AtomicKind) (size : AtomicSize) (a : BitVec 128) (b : BitVec 128) (tag : ℕ) (l : ℕ) (dpa : ℕ), (s.ioArrives ↑ld = some l) ∧ (s.groupFatal l = false) ∧ (s.ioBars l ↑ld = true) ∧ (atomicSupported op size = true) ∧ (off.toNat % size.bytes = 0) ∧ (s.apertureDpa (↑ld) off.toNat size.bytes = some dpa)) ∧
    (∃ (s : State) (ld : Fin 64) (off : BitVec 64) (op : AtomicKind) (size : AtomicSize) (a : BitVec 128) (b : BitVec 128) (ep : Bool) (tag : ℕ) (l : ℕ), (s.ioArrives ↑ld = some l) ∧ (s.groupFatal l = false) ∧ (off.toNat % size.bytes ≠ 0)) ∧
    (∃ (s : State) (ld : Fin 64) (off : BitVec 64) (len : BitVec 13) (data : List Byte) (ep : Bool) (tag : ℕ) (l : ℕ), (s.ioArrives ↑ld = some l) ∧ (s.groupFatal l = false) ∧ (s.ioBars l ↑ld = false ∨
  s.apertureDpa (↑ld) off.toNat len.toNat = none ∧ s.apertureDpa (↑ld) off.toNat data.length = none)) ∧
    (∃ (s : State) (ld : Fin 64) (off : BitVec 64) (len : BitVec 13) (data : List Byte) (ep : Bool) (tag : ℕ) (l : ℕ), (s.ioArrives ↑ld = some l) ∧ (s.groupFatal l = true)) :=
  ⟨⟨upAp, 0, 64, 8, 7, 0, 64, by decide +kernel⟩,
   ⟨upAp, 0, 64, (List.replicate 64 3), 0, 64, by decide +kernel⟩,
   ⟨upAp, 0, 72, [1, 2, 3], 0, 72, by decide +kernel⟩,
   ⟨upAp, 0, 72, .fetchAdd, .b8, 5, 0, 7, 0, 72, by decide +kernel⟩,
   ⟨upAp, 0, 72, .fetchAdd, .b8, 5, 0, 7, 0, 72, by decide +kernel⟩,
   ⟨upAp, 0, 73, .fetchAdd, .b8, 5, 0, false, 7, 0, by decide +kernel⟩,
   ⟨upAp, 0, 0x1000000000000, 8, [1], false, 7, 0, by decide +kernel⟩,
   ⟨(upAp.withFlt { upAp.flt with dev := 1 }), 0, 64, 8, [1], false, 7, 0, by decide +kernel⟩⟩

set_option maxRecDepth 100000 in
theorem wit_snoopAnswersAndCredits :
    (∃ (s : State) (a : Fin 80) (line : BitVec 40) (r : BiAnswer), (↑a < 64) ∧ (s.snooping (↑a) line.toNat = true)) ∧
    (∃ (s : State) (a : Fin 80) (line : BitVec 40), (↑a < 64) ∧ (s.biOf ↑a = true)) ∧
    (∃ (s : State) (a : Fin 80) (line : BitVec 40), s.snooping (↑a) line.toNat = true) ∧
    (∃ (s : State) (hs : Fin 32) (r : ReqClass) (x : Retried), (r ≠ ReqClass.borage) ∧ (List.find? (fun x => x.hs == ↑hs && x.cls == r && !x.credit && x.req.tr != TrackerKind.writeback)
    s.home.retried =
  some x) ∧ (0 < s.reservedFree (↑hs) r)) ∧
    (∃ (s : State) (hs : Fin 32) (x : Retried), (List.find?
    (fun x => x.hs == ↑hs && x.cls == ReqClass.borage && !x.credit && x.req.tr != TrackerKind.writeback)
    s.home.retried =
  some x) ∧ (0 < s.reservedFree (↑hs) ReqClass.borage)) :=
  ⟨⟨upSnoop, 3, 1, .s, by decide +kernel⟩,
   ⟨upMem, 0, 1, by decide +kernel⟩,
   ⟨upSnoop, 3, 1, by decide +kernel⟩,
   ⟨(upRetried .dataMover), 0, .dataMover, (retriedAt .dataMover), by decide +kernel⟩,
   ⟨(upRetried .borage), 0, (retriedAt .borage), by decide +kernel⟩⟩

set_option maxRecDepth 100000 in
theorem wit_decodersCachesAndOverwrites :
    (∃ (s : State) (ld : Fin 64) (i : Fin 4) (base : BitVec 64) (size : BitVec 64) (skip : BitVec 64) (ways : BitVec 4) (gran : BitVec 4) (lock : Bool) (commit : Bool), ((s.hdm ↑ld ↑i).committed && (s.hdm ↑ld ↑i).locked) = false) ∧
    (∃ (s : State) (ld : Fin 64) (i : Fin 4) (base : BitVec 64) (size : BitVec 64) (skip : BitVec 64) (ways : BitVec 4) (gran : BitVec 4) (lock : Bool) (commit : Bool), ((s.hdm ↑ld ↑i).committed && (s.hdm ↑ld ↑i).locked) = true) ∧
    (∃ (s : State) (line : BitVec 40) (a : AtomLine), (s.atomAt line.toNat = some a) ∧ (s.sliceOut (homeOf (lnPage line.toNat)) = false) ∧ (listed s.mem.rebuild (homeOf (lnPage line.toNat)) = false)) ∧
    (∃ (s : State) (hs : Fin 32), (s.sliceOut ↑hs = false) ∧ (s.cleanThr ↑hs ≤ (s.dirtyLines ↑hs).length)) ∧
    (∃ (s : State) (m : Master) (hs : Fin 32), s.accepts m (mcacheCfg ↑hs) = true) ∧
    (∃ (s : State) (r : Overwrite) (rest : List Overwrite), (s.mem.overwrite = r :: rest) ∧ (s.placeStill r.set (List.map (fun j => 1024 * r.loc + 64 * j) (upTo (16 * r.kib))) = false)) ∧
    (∃ (s : State) (u : BitVec 24) (p : BitVec 34) (m : BitVec 64), s.boot.aux = true) ∧
    (∃ (s : State) (u : BitVec 24) (e : BitVec 18), s.boot.aux = true) :=
  ⟨⟨up, 3, 0, 65536, 1048576, 0, 2, 3, true, true, by decide +kernel⟩,
   ⟨(up.onLd 3 (fun d => { d with dec := [(1, { committed := true, locked := true })] })), 3, 1, 65536, 1048576, 0, 2, 3, true, true, by decide +kernel⟩,
   ⟨upHome, 1, { line := 1, data := 5, last := 9 }, by decide +kernel⟩,
   ⟨upDirty, 0, by decide +kernel⟩,
   ⟨up, .bmc, 0, by decide +kernel⟩,
   ⟨upHome, { domain := 1, set := 0, loc := 8, kib := 4 }, [], by decide +kernel⟩,
   ⟨up, 5, 3, 3, by decide +kernel⟩,
   ⟨up, 5, 3, by decide +kernel⟩⟩

set_option maxRecDepth 100000 in
theorem wit_retagsRootArraysAndChunks :
    (∃ (s : State) (hs : Fin 32) (r : Retag), (s.sliceOut ↑hs = false) ∧ (listed s.mem.rebuild ↑hs = false) ∧ (List.find? (fun r => !r.todo.isEmpty) (s.retags ↑hs) = some r) ∧ (r.key / 2 ^ 40 = 1 →
  have line := 64 * leafPage (↑hs) (r.key % 2 ^ 40 / 32) + r.todo.headD 0;
  (∀ q ∈ s.home.queue, q.line ≠ line) ∧ s.lineStill line = false)) ∧
    (∃ (s : State) (hs : Fin 32) (rejected : BitVec 32), listed s.mem.rebuild ↑hs = true) ∧
    (∃ (s : State) (hs : Fin 32) (r : Retag), (List.find? (fun r => !r.todo.isEmpty) (s.retags ↑hs) = some r) ∧ (r.key / 2 ^ 40 = 1) ∧ ((s.home.queue.any fun q => q.line == 64 * leafPage (↑hs) (r.key % 2 ^ 40 / 32) + r.todo.headD 0) = true)) ∧
    (∃ (s : State) (c : BitVec 22), (s.inUse (c.toNat / 16) = true) ∧ (s.lazyOn = true) ∧ (s.mem.rebuild = []) ∧ (s.nextChunk (c.toNat / 16) = some c.toNat)) ∧
    (∃ (s : State) (c : BitVec 22), s.lazyOn = false ∨ s.mem.rebuild ≠ []) :=
  ⟨⟨upHome, 0, { key := blockKey 0 2 0, old := { major := 3, minor := [] }, done := 1 }, by decide +kernel⟩,
   ⟨upRebuild, 0, 0, by decide +kernel⟩,
   ⟨(upHome.withHome { upHome.home with queue := [{ (upHome.newReq (64 * leafPage 0 0) .internal .readData 0) with id := 1 }] }).setRetags 0 [{ key := blockKey 0 1 0, old := { major := 3, minor := [] }, done := 0 }], 0, { key := blockKey 0 1 0, old := { major := 3, minor := [] }, done := 0 }, by decide +kernel⟩,
   ⟨(upMem.withRegs { active := (upTo 4).map (fun i => (winOff (lazyPage i) 0x80, 1)) }), 0, by decide +kernel⟩,
   ⟨upRebuild, 0, by decide +kernel⟩⟩

set_option maxRecDepth 100000 in
theorem wit_addressMapTableCommands :
    (∃ (s : State) (m : Master) (t : BitVec 2) (i : BitVec 18), (s.accepts m amapTcmd = true) ∧ (i.toNat < tableSize t.toNat)) ∧
    (∃ (s : State) (m : Master) (t : BitVec 2) (i : BitVec 18), (s.accepts m amapTcmd = true) ∧ (s.checkEntry t.toNat i.toNat (List.map s.tdata (upTo 8)) = 0)) ∧
    (∃ (s : State) (m : Master) (t : BitVec 2) (i : BitVec 18), (s.accepts m amapTcmd = true) ∧ (s.checkEntry t.toNat i.toNat (List.map s.tdata (upTo 8)) ≠ 0)) ∧
    (∃ (s : State) (m : Master) (e : BitVec 18) (i : ℕ) (f : ℕ), (s.accepts m amapTcmd = true) ∧ ((s.dom (bits (s.tdata 2) 0 12)).valid = true) ∧ (s.holdersOk s.cmdMask e.toNat = true) ∧ ((s.ext e.toNat).st = ExtState.free) ∧ (ceilDiv 524288 (max 1 (s.dom (bits (s.tdata 2) 0 12)).ovc) + metaFrames ≤ s.ffree - s.reserve) ∧ (s.metaPlace (bits (s.tdata 2) 0 12) = some (i, f))) ∧
    (∃ (s : State) (m : Master) (e : BitVec 18) (i : ℕ) (f : ℕ), (s.accepts m amapTcmd = true) ∧ ((s.dom (bits (s.tdata 2) 0 12)).valid = true) ∧ ((s.ext e.toNat).st = ExtState.free) ∧ (ceilDiv 524288 (max 1 (s.dom (bits (s.tdata 2) 0 12)).ovc) + metaFrames ≤ s.ffree - s.reserve) ∧ (s.metaPlace (bits (s.tdata 2) 0 12) = some (i, f))) ∧
    (∃ (s : State) (m : Master) (e : BitVec 18), (s.accepts m amapTcmd = true) ∧ ((s.ext e.toNat).gen.toNat = bits (s.tdata 3) 0 16) ∧ (s.holdersOk s.cmdMask e.toNat = true) ∧ ((s.ext e.toNat).st = ExtState.pinned)) ∧
    (∃ (s : State) (m : Master) (e : BitVec 18), (s.accepts m amapTcmd = true) ∧ ((s.ext e.toNat).gen.toNat = bits (s.tdata 3) 0 16) ∧ ((s.ext e.toNat).st = ExtState.granted)) ∧
    (∃ (s : State) (m : Master) (e : BitVec 18), (s.accepts m amapTcmd = true) ∧ ((s.ext e.toNat).gen.toNat = bits (s.tdata 3) 0 16) ∧ ((s.ext e.toNat).st = ExtState.granted ∨ (s.ext e.toNat).st = ExtState.recall)) ∧
    (∃ (s : State) (m : Master) (e : BitVec 18), (s.accepts m amapTcmd = true) ∧ ((s.ext e.toNat).gen.toNat = bits (s.tdata 3) 0 16) ∧ ((s.ext e.toNat).st = ExtState.pinned)) ∧
    (∃ (s : State) (m : Master) (e : BitVec 18), (s.accepts m amapTcmd = true) ∧ ((s.ext e.toNat).gen.toNat ≠ bits (s.tdata 3) 0 16)) :=
  ⟨⟨(upCap { st := .granted, owner := 3, domain := 1, gen := 7 }), .bmc, 2, 0, by decide +kernel⟩,
   ⟨(upCap {}), .bmc, 3, 9, by decide +kernel⟩,
   ⟨(upCap {}), .bmc, 2, 9, by decide +kernel⟩,
   ⟨(((upCap {}).setTdata 0 8).setTdata 2 1), .bmc, 0, 2, 0, by decide +kernel⟩,
   ⟨((upCap {}).setTdata 2 1), .bmc, 0, 2, 0, by decide +kernel⟩,
   ⟨((upCap { st := .pinned, domain := 1 }).setTdata 0 8), .bmc, 0, by decide +kernel⟩,
   ⟨(upCap { st := .granted, owner := 3, domain := 1 }), .bmc, 0, by decide +kernel⟩,
   ⟨(upCap { st := .granted, owner := 3, domain := 1 }), .bmc, 0, by decide +kernel⟩,
   ⟨(upCap { st := .pinned, domain := 1 }), .bmc, 0, by decide +kernel⟩,
   ⟨(upCap { st := .granted, owner := 3, domain := 1, gen := 5 }), .bmc, 0, by decide +kernel⟩⟩

set_option maxRecDepth 100000 in
theorem wit_extentLifeCycle :
    (∃ (s : State) (n : Fin 64) (e : BitVec 18) (gen : BitVec 16), (s.mailboxOpen ↑n = true) ∧ ((s.ext e.toNat).gen = gen) ∧ ((s.ext e.toNat).st = ExtState.offered) ∧ ((s.ext e.toNat).holds ↑n = true) ∧ ((s.ext e.toNat).accept.getLsbD ↑n = false) ∧ ((s.ext e.toNat).rejected.getLsbD ↑n = false) ∧ (∀ k ∈ (s.ext e.toNat).holders,
  k = ↑n ∨ (s.ext e.toNat).accept.getLsbD k = true ∨ (s.ext e.toNat).rejected.getLsbD k = true)) ∧
    (∃ (s : State) (n : Fin 64) (e : BitVec 18) (gen : BitVec 16), (s.mailboxOpen ↑n = true) ∧ ((s.ext e.toNat).gen = gen) ∧ ((s.ext e.toNat).st = ExtState.offered) ∧ ((s.ext e.toNat).holds ↑n = true) ∧ ((s.ext e.toNat).rejected.getLsbD ↑n = false) ∧ (∀ k ∈ (s.ext e.toNat).holders,
  (s.ext e.toNat).accept.getLsbD k = false ∧ (k = ↑n ∨ (s.ext e.toNat).rejected.getLsbD k = true))) ∧
    (∃ (s : State) (e : BitVec 18), ((s.ext e.toNat).st = ExtState.offered) ∧ (s.cfg amapPage 232 1 8 ≠ 0)) ∧
    (∃ (s : State) (n : Fin 64) (e : BitVec 18) (gen : BitVec 16), (s.mailboxOpen ↑n = true) ∧ ((s.ext e.toNat).gen = gen) ∧ ((s.ext e.toNat).st = ExtState.granted ∨ (s.ext e.toNat).st = ExtState.recall) ∧ ((s.ext e.toNat).holders = [↑n])) ∧
    (∃ (s : State) (e : BitVec 18), ((s.ext e.toNat).st = ExtState.drain) ∧ (s.extIdle e.toNat = true)) ∧
    (∃ (s : State) (e : BitVec 18), (s.ext e.toNat).st = ExtState.erase) ∧
    (∃ (s : State) (e : ℕ), (s.sorrelUp = true) ∧ (s.amap.crit = true) ∧ (s.cfgBit amapPage 232 0 = true) ∧ (s.pressed = some e)) ∧
    (∃ (s : State) (page : BitVec 16) (rid : BitVec 16) (k : ℕ) (data : List Byte), (landOf page.toNat = some k) ∧ (s.answers (poolPage k) = true) ∧ (s.mgmtUp = true) ∧ (s.landOk k rid = true) ∧ (data.length = 4)) ∧
    (∃ (s : State) (page : BitVec 16) (rid : BitVec 16) (off : BitVec 12) (data : List Byte) (ep : Bool) (k : ℕ) (line : ℕ), (landOf page.toNat = some k) ∧ (s.answers (poolPage k) = true) ∧ (s.mgmtUp = true) ∧ (s.landOk k rid = true) ∧ (2048 ≤ off.toNat) ∧ (off.toNat % 64 = 0) ∧ (data.length = 64) ∧ ((s.ext (s.cfg (poolPage k) 128 0 18)).st = ExtState.pinned) ∧ ((s.ext (s.cfg (poolPage k) 128 0 18)).gen.toNat = s.cfg (poolPage k) 132 16 16) ∧ (64 * line = s.cfg (poolPage k) 128 0 18 * 2 ^ 28 + s.cfg (poolPage k) 136 0 17 * 2048 + (off.toNat - 2048)) ∧ (s.sliceOut (homeOf (lnPage line)) = false)) ∧
    (∃ (s : State) (page : BitVec 16) (rid : BitVec 16) (off : BitVec 12) (data : List Byte) (ep : Bool) (k : ℕ), (landOf page.toNat = some k) ∧ (s.answers (poolPage k) = true) ∧ (s.mgmtUp = true) ∧ (s.landOk k rid = false ∨
  off.toNat ≠ 136 ∧ off.toNat < 2048 ∨
    2048 ≤ off.toNat ∧
      (off.toNat % 64 ≠ 0 ∨
        data.length % 64 ≠ 0 ∨
          (s.ext (s.cfg (poolPage k) 128 0 18)).st ≠ ExtState.pinned ∨
            (s.ext (s.cfg (poolPage k) 128 0 18)).gen.toNat ≠ s.cfg (poolPage k) 132 16 16))) ∧
    (∃ (s : State) (page : BitVec 16) (rid : BitVec 16) (off : BitVec 12) (data : List Byte) (ep : Bool), (landOf page.toNat = none) ∧ (s.mgmtUp = true)) ∧
    (∃ (s : State) (page : BitVec 16) (rid : BitVec 16) (k : ℕ) (tag : ℕ), (landOf page.toNat = some k) ∧ (s.answers (poolPage k) = true) ∧ (s.mgmtUp = true) ∧ (s.landOk k rid = true) ∧ (∀ q ∈ s.home.queue, q.who ≠ Requester.pool k) ∧ (∀ r ∈ s.home.retried, r.req.who ≠ Requester.pool k)) ∧
    (∃ (s : State) (page : BitVec 16) (rid : BitVec 16) (off : BitVec 12) (len : ℕ) (tag : ℕ) (k : ℕ), (s.mgmtUp = true) ∧ (landOf page.toNat = some k) ∧ (s.answers (poolPage k) = true) ∧ (s.landOk k rid = true) ∧ (off.toNat ≠ 0 ∨ len ≠ 4)) :=
  ⟨⟨(upCap { st := .offered, owner := 0, domain := 1 }), 0, 0, 0, by decide +kernel⟩,
   ⟨(upCap { st := .offered, owner := 0, domain := 1 }), 0, 0, 0, by decide +kernel⟩,
   ⟨((upCap { st := .offered, owner := 3, domain := 1 }).setReg amapPage 0xE8 20), 0, by decide +kernel⟩,
   ⟨(upCap { st := .granted, owner := 0, domain := 1 }), 0, 0, 0, by decide +kernel⟩,
   ⟨(upCap { st := .drain, owner := 3, domain := 1 }), 0, by decide +kernel⟩,
   ⟨(upCap { st := .erase, owner := 3, domain := 1 }), 0, by decide +kernel⟩,
   ⟨upCrit, 0, by decide +kernel⟩,
   ⟨upLand, (BitVec.ofNat 16 (poolPage 1)), 5, 1, [1, 2, 3, 4], by decide +kernel⟩,
   ⟨upLand, (BitVec.ofNat 16 (poolPage 1)), 5, 0x800, (List.replicate 64 7), false, 1, 0, by decide +kernel⟩,
   ⟨upLand, (BitVec.ofNat 16 (poolPage 1)), 6, 0x800, (List.replicate 64 7), false, 1, by decide +kernel⟩,
   ⟨upLand, 0, 5, 0x800, (List.replicate 64 7), false, by decide +kernel⟩,
   ⟨upLand, (BitVec.ofNat 16 (poolPage 1)), 5, 1, 9, by decide +kernel⟩,
   ⟨upLand, (BitVec.ofNat 16 (poolPage 1)), 5, 8, 4, 9, 1, by decide +kernel⟩⟩

set_option maxRecDepth 100000 in
theorem wit_channelTrainingAndSpeed :
    (∃ (s : State) (c : Fin 16), ((s.chan ↑c).st = ChanState.training) ∧ ((s.chan ↑c).job ≠ some RepairJob.hard) ∧ (((s.chan ↑c).returning && s.setTooLong ↑c) = false)) ∧
    (∃ (s : State) (c : Fin 16), ((s.chan ↑c).st = ChanState.training) ∧ ((s.chan ↑c).job ≠ some RepairJob.hard) ∧ (((s.chan ↑c).returning && s.setTooLong ↑c) = true)) ∧
    (∃ (s : State) (c : Fin 16) (at_ : Fin 6), ((s.chan ↑c).st = ChanState.training) ∧ ((s.chan ↑c).job ≠ some RepairJob.hard) ∧ ((s.chan ↑c).failedOnce = false)) ∧
    (∃ (s : State) (c : Fin 16) (at_ : Fin 6), ((s.chan ↑c).st = ChanState.training) ∧ ((s.chan ↑c).job ≠ some RepairJob.hard) ∧ ((s.chan ↑c).failedOnce = true)) ∧
    (∃ (s : State) (c : Fin 16), s.serves ↑c = true) ∧
    (∃ (s : State) (c : Fin 16) (rank : BitVec 5), s.caArmed ↑c = true) ∧
    (∃ (s : State) (c : Fin 16), ((s.chan ↑c).retrainOwed = true) ∧ (s.serves ↑c = true) ∧ ((s.chan ↑c).still = false) ∧ ((s.chan ↑c).softHold = false)) ∧
    (∃ (s : State) (c : Fin 16), (s.chan ↑c).retraining = true) ∧
    (∃ (s : State) (c : Fin 16), ((s.chan ↑c).retraining = true) ∧ ((s.chan ↑c).st = ChanState.active)) ∧
    (∃ (s : State) (m : Master) (c : Fin 16), (s.accepts m (fctlOff ↑c) = true) ∧ ((s.chan ↑c).fctlBusy = false) ∧ ((s.chan ↑c).fctlOwed = false) ∧ ((if (s.chan ↑c).setB = true then (s.chan ↑c).validA else (s.chan ↑c).validB) = true) ∧ ((s.chan ↑c).st = ChanState.active) ∧ ((s.chan ↑c).job ≠ some RepairJob.hard) ∧ ((s.chan ↑c).retraining = false) ∧ ((s.chan ↑c).softHold = false)) ∧
    (∃ (s : State) (m : Master) (c : Fin 16), (s.accepts m (fctlOff ↑c) = true) ∧ ((s.chan ↑c).fctlBusy = false) ∧ ((s.chan ↑c).fctlOwed = false) ∧ ((if (s.chan ↑c).setB = true then (s.chan ↑c).validA else (s.chan ↑c).validB) = true) ∧ ((s.chan ↑c).st = ChanState.active) ∧ ((s.chan ↑c).job ≠ some RepairJob.hard) ∧ ((s.chan ↑c).retraining = true ∨ (s.chan ↑c).softHold = true)) ∧
    (∃ (s : State) (m : Master) (c : Fin 16), (s.accepts m (fctlOff ↑c) = true) ∧ ((s.chan ↑c).fctlBusy = false) ∧ ((s.chan ↑c).fctlOwed = false) ∧ ((if (s.chan ↑c).setB = true then (s.chan ↑c).validA else (s.chan ↑c).validB) = false)) ∧
    (∃ (s : State) (m : Master) (c : Fin 16), (s.accepts m (fctlOff ↑c) = true) ∧ ((s.chan ↑c).fctlBusy = false) ∧ ((s.chan ↑c).fctlOwed = false) ∧ ((if (s.chan ↑c).setB = true then (s.chan ↑c).validA else (s.chan ↑c).validB) = true) ∧ ((s.chan ↑c).st ≠ ChanState.active ∨ (s.chan ↑c).job = some RepairJob.hard)) ∧
    (∃ (s : State) (c : Fin 16), ((s.chan ↑c).fctlBusy = true) ∧ ((s.chan ↑c).tooHot = false) ∧ ((s.chan ↑c).fctlOwed = false)) :=
  ⟨⟨(upChan (ch0 .training) false), 0, by decide +kernel⟩,
   ⟨(upChan { ch0 .training with returning := true, usable := 5 } false), 0, by decide +kernel⟩,
   ⟨(upChan (ch0 .training) false), 0, 2, by decide +kernel⟩,
   ⟨(upChan { ch0 .training with failedOnce := true } false), 0, 2, by decide +kernel⟩,
   ⟨(upChan (ch0 .active) false), 0, by decide +kernel⟩,
   ⟨((upChan (ch0 .active) false).setReg (chanPage 0 0) 0x80 0x400), 0, 1, by decide +kernel⟩,
   ⟨(upChan { ch0 .active with retrainOwed := true } false), 0, by decide +kernel⟩,
   ⟨(upChan { ch0 .active with retraining := true } false), 0, by decide +kernel⟩,
   ⟨(upChan { ch0 .active with retraining := true } false), 0, by decide +kernel⟩,
   ⟨(upChan { ch0 .active with validB := true } false), .bmc, 0, by decide +kernel⟩,
   ⟨(upChan { ch0 .active with validB := true, retraining := true } false), .bmc, 0, by decide +kernel⟩,
   ⟨(upChan (ch0 .active) false), .bmc, 0, by decide +kernel⟩,
   ⟨(upChan { ch0 .drained with validB := true } false), .bmc, 0, by decide +kernel⟩,
   ⟨(upChan { ch0 .active with fctlBusy := true } false), 0, by decide +kernel⟩⟩

set_option maxRecDepth 100000 in
theorem wit_refreshScrubAndThermal :
    (∃ (s : State) (c : Fin 16) (rank : BitVec 5) (sub : Fin 2) (x : ℕ), (s.refreshes ↑c = true) ∧ (x = (look? (s.chan ↑c).due (2 * rank.toNat + ↑sub)).getD s.now + s.refInterval (↑c) rank.toNat) ∧ ((s.chan ↑c).fctlBusy = false) ∧ ((s.chan ↑c).takes rank.toNat = true) ∧ (look 0 (s.chan ↑c).debt (2 * rank.toNat + ↑sub) < s.debtLimit ↑c)) ∧
    (∃ (s : State) (c : Fin 16) (rank : BitVec 5) (sub : Fin 2) (busy : Bool) (x : ℕ), (s.refreshes ↑c = true) ∧ (x = (look? (s.chan ↑c).due (2 * rank.toNat + ↑sub)).getD s.now + s.refInterval (↑c) rank.toNat) ∧ ((s.chan ↑c).fctlBusy = false) ∧ ((s.chan ↑c).takes rank.toNat = true) ∧ (busy = false ∨ s.debtLimit ↑c ≤ look 0 (s.chan ↑c).debt (2 * rank.toNat + ↑sub))) ∧
    (∃ (s : State) (c : Fin 16) (rank : BitVec 5) (sub : Fin 2) (busy : Bool) (x : ℕ), (s.refreshes ↑c = true) ∧ (x = (look? (s.chan ↑c).due (2 * rank.toNat + ↑sub)).getD s.now + s.refInterval (↑c) rank.toNat) ∧ ((s.chan ↑c).fctlBusy = false) ∧ ((s.chan ↑c).takes rank.toNat = true) ∧ (busy = false ∨ s.debtLimit ↑c ≤ look 0 (s.chan ↑c).debt (2 * rank.toNat + ↑sub))) ∧
    (∃ (s : State) (c : Fin 16) (rank : BitVec 5) (sub : Fin 2), (s.refreshes ↑c = true) ∧ ((s.chan ↑c).fctlBusy = false) ∧ ((s.chan ↑c).takes rank.toNat = true) ∧ (0 < look 0 (s.chan ↑c).debt (2 * rank.toNat + ↑sub))) ∧
    (∃ (s : State) (c : Fin 16) (ranks : BitVec 32), (s.refreshes ↑c = true) ∧ ((s.chan ↑c).fctlBusy = false)) ∧
    (∃ (s : State) (c : Fin 16) (rank : BitVec 5) (sub : Fin 2) (bg : Fin 8) (ba : Fin 4) (b : ℕ), (s.refreshes ↑c = true) ∧ ((s.chan ↑c).takes rank.toNat = true) ∧ (b = bankKey { rank := rank.toNat, sub := ↑sub, dev := 0, bg := ↑bg, ba := ↑ba, row := 0 })) ∧
    (∃ (s : State) (c : Fin 16) (err : BitVec 640), (s.serves ↑c = true) ∧ (s.cfgBit (chanPage (↑c) 3) 128 8 = true) ∧ ((s.chan ↑c).still = false)) ∧
    (∃ (s : State) (c : Fin 16) (off : BitVec 40) (err : BitVec 640) (p : BitVec 640), (s.serves ↑c = true) ∧ (s.getMedia (↑c) (off.toNat / 64 * 64) ≠ some Stored.poison) ∧ (devicesHit err = [])) ∧
    (∃ (s : State) (c : Fin 16) (off : BitVec 40) (d : Fin 10) (err : BitVec 640) (p : BitVec 640), (s.serves ↑c = true) ∧ (s.getMedia (↑c) (off.toNat / 64 * 64) ≠ some Stored.poison) ∧ (devicesHit err = [d])) ∧
    (∃ (s : State) (c : Fin 16) (off : BitVec 40) (d : Fin 10) (d' : Fin 10) (err : BitVec 640) (p : BitVec 640), (s.serves ↑c = true) ∧ (s.getMedia (↑c) (off.toNat / 64 * 64) ≠ some Stored.poison) ∧ (s.inMirror (↑c / 2 * 2) (off.toNat / 64 * 64) = false) ∧ (devicesHit err = [d, d'])) ∧
    (∃ (s : State) (c : Fin 16) (off : BitVec 40) (d : Fin 10) (d' : Fin 10) (err : BitVec 640) (p : BitVec 640) (o : ℕ) (v : Stored), (o / 2 = ↑c / 2) ∧ (o ≠ ↑c) ∧ (s.serves ↑c = true) ∧ (s.getMedia (↑c) (off.toNat / 64 * 64) ≠ some Stored.poison) ∧ ((s.takeFree.takeFree.copyWalk ↑c).partnerGood (↑c) (off.toNat / 64 * 64) o = true) ∧ ((s.takeFree.takeFree.copyWalk ↑c).getMedia o (off.toNat / 64 * 64) = some v) ∧ (devicesHit err = [d, d']) ∧ (devicesHit p = [])) ∧
    (∃ (s : State) (c : Fin 16) (off : BitVec 40) (err : BitVec 640) (p : BitVec 640) (i : ℕ) (x : ℕ) (n : ℕ), (s.serves ↑c = true) ∧ (s.getMedia (↑c) (off.toNat / 64 * 64) ≠ some Stored.poison) ∧ (s.inMirror (↑c / 2 * 2) (off.toNat / 64 * 64) = false) ∧ (s.setByte (↑c) (off.toNat / 64 * 64) = some (i, x)) ∧ (s.ownerAt i x = MediaOwner.line n) ∧ (2 < (devicesHit err).length)) ∧
    (∃ (s : State) (c : Fin 16) (a0 : BitVec 8) (b0 : BitVec 8) (a1 : BitVec 8) (b1 : BitVec 8), ((s.chan ↑c).i3cOff = false) ∧ ((s.chan ↑c).dimm0.spd.isSome = true)) :=
  ⟨⟨(upChan (ch0 .active) false), 0, 1, 0, 1950, by decide +kernel⟩,
   ⟨(upChan (ch0 .active) false), 0, 1, 0, false, 1950, by decide +kernel⟩,
   ⟨(upChan { ch0 .active with debt := [(2, 9)] } false), 0, 1, 0, true, 1950, by decide +kernel⟩,
   ⟨(upChan { ch0 .active with debt := [(3, 2)] } false), 0, 1, 1, by decide +kernel⟩,
   ⟨(upChan (ch0 .active) false), 0, 3, by decide +kernel⟩,
   ⟨(upChan { ch0 .active with acts := [(bankKey { rank := 1, sub := 1, dev := 0, bg := 2, ba := 3, row := 0 }, 5)] } false), 0, 1, 1, 2, 3, (bankKey { rank := 1, sub := 1, dev := 0, bg := 2, ba := 3, row := 0 }), by decide +kernel⟩,
   ⟨((upChan (ch0 .active) false).setReg (chanPage 0 3) 0x80 0x100), 0, oneHit, by decide +kernel⟩,
   ⟨(upChan (ch0 .active) false), 0, 4096000, 0, 0, by decide +kernel⟩,
   ⟨(upChan (ch0 .active) false), 0, 4096000, 3, oneHit, 0, by decide +kernel⟩,
   ⟨(upChan (ch0 .active) false), 0, 4096000, 3, 4, twoHits, 0, by decide +kernel⟩,
   ⟨upTwin, 0, 4096000, 3, 4, twoHits, 0, 1, (.line 7 twinTag), by decide +kernel⟩,
   ⟨(upChan (ch0 .active) false), 0, 4096000, threeHits, 0, 2, 8192000, 0, by decide +kernel⟩,
   ⟨(upChan { ch0 .active with dimm0 := { spd := some spdOk1, st := 1 } } false), 0, 20, 100, 20, 20, by decide +kernel⟩⟩

set_option maxRecDepth 100000 in
theorem wit_sparingRepairAndMirrors :
    (∃ (s : State) (m : Master) (c : Fin 16) (rank : BitVec 5), (s.accepts m (ddrpOff ↑c) = true) ∧ (s.serves ↑c = true) ∧ ((s.chan ↑c).job = none) ∧ (rank.toNat + 1 < (s.chan ↑c).lranks) ∧ (s.spareFree ↑c = true)) ∧
    (∃ (s : State) (c : Fin 16) (rank : ℕ), ((s.chan ↑c).job = some (RepairJob.sparing rank)) ∧ ((s.chan ↑c).jobQueue = []) ∧ ((s.chan ↑c).copy.paused = false) ∧ (s.serves ↑c = true)) ∧
    (∃ (s : State) (m : Master) (c : Fin 16) (rank : BitVec 5), (s.accepts m (ddrpOff ↑c) = true) ∧ (s.serves ↑c = true) ∧ (rank.toNat < (s.chan ↑c).lranks) ∧ ((s.namedRow (↑c) rank.toNat).dev ≤ 9) ∧ ((s.namedRow (↑c) rank.toNat).row < 2 ^ (s.chan ↑c).rb) ∧ ((s.chan ↑c).job = none) ∧ ((s.chan ↑c).still = false) ∧ ((s.chan ↑c).fctlOwed = false) ∧ ((s.chan ↑c).repaired.any (s.namedRow (↑c) rank.toNat).sameBank = false) ∧ ((s.repairs ↑c).length < 32)) ∧
    (∃ (s : State) (c : Fin 16) (rank : BitVec 5) (sub : Fin 2) (bg : Fin 8) (ba : Fin 4) (row : BitVec 18) (dev : Fin 10) (r : RepairRec), (r = { rank := rank.toNat, sub := ↑sub, dev := ↑dev, bg := ↑bg, ba := ↑ba, row := row.toNat }) ∧ (s.serves ↑c = true) ∧ (s.cfgBit (chanPage (↑c) 4) 128 9 = true) ∧ (8 ≤ (s.rowLines (↑c) r).length) ∧ ((s.chan ↑c).job = none) ∧ ((s.chan ↑c).still = false) ∧ ((s.chan ↑c).fctlOwed = false) ∧ ((s.chan ↑c).repaired.any r.sameBank = false) ∧ ((s.repairs ↑c).length < 32)) ∧
    (∃ (s : State) (c : Fin 16) (due : Fin 6) (r : RepairRec), ((s.chan ↑c).job = some (RepairJob.soft r)) ∧ ((s.chan ↑c).jobQueue = [])) ∧
    (∃ (s : State) (m : Master) (c : Fin 16), (s.accepts m (ddrpOff ↑c) = true) ∧ ((s.chan ↑c).st = ChanState.drained) ∧ ((s.chan ↑c).job = none)) ∧
    (∃ (s : State) (c : Fin 16) (ok : BitVec 32), (s.chan ↑c).job = some RepairJob.hard) ∧
    (∃ (s : State) (m : Master) (c : Fin 16), (s.accepts m (ddrpOff ↑c) = true) ∧ (↑c % 2 = 0) ∧ ((s.chan ↑c).mir = MirState.evenOnly) ∧ ((s.chan (↑c + 1)).st = ChanState.active)) ∧
    (∃ (s : State) (m : Master) (c : Fin 16), (s.accepts m (ddrpOff ↑c) = true) ∧ (↑c % 2 = 0) ∧ ((s.chan ↑c).mir = MirState.oddOnly) ∧ ((s.chan ↑c).st = ChanState.active)) ∧
    (∃ (s : State) (m : Master) (c : Fin 16), (s.accepts m (ddrpOff ↑c) = true) ∧ (↑c % 2 = 0) ∧ ((s.chan ↑c).mir = MirState.resilverOdd ∨ (s.chan ↑c).mir = MirState.resilverEven)) ∧
    (∃ (s : State) (c : Fin 16), ((s.chan ↑c).mir = MirState.resilverOdd ∨ (s.chan ↑c).mir = MirState.resilverEven) ∧ ((s.chan ↑c).silver.paused = false)) :=
  ⟨⟨{ upChan (ch0 .active) false with ret := { words := [(backKey (winOff (chanPage 0 0) 0x80), 0x1E46)] } }, .bmc, 0, 1, by decide +kernel⟩,
   ⟨(upChan { ch0 .active with job := some (.sparing 1) } false), 0, 1, by decide +kernel⟩,
   ⟨((upChan (ch0 .active) false).setReg (chanPage 0 4) 0x88 0x1000005), .bmc, 0, 1, by decide +kernel⟩,
   ⟨upRows, 0, 1, 0, 2, 3, 5, 1, rec1, by decide +kernel⟩,
   ⟨(upChan { ch0 .active with job := some (.soft rec1) } false), 0, 3, rec1, by decide +kernel⟩,
   ⟨(upChan (ch0 .drained) false), .bmc, 0, by decide +kernel⟩,
   ⟨((upChan { ch0 .drained with job := some .hard } false).storeRepairs 0 [rec1]), 0, 1, by decide +kernel⟩,
   ⟨(upChan { ch0 .active with mir := .evenOnly } true), .bmc, 0, by decide +kernel⟩,
   ⟨(upChan { ch0 .active with mir := .oddOnly } true), .bmc, 0, by decide +kernel⟩,
   ⟨(upChan { ch0 .active with mir := .resilverOdd } true), .bmc, 0, by decide +kernel⟩,
   ⟨(upChan { ch0 .active with mir := .resilverEven } true), 0, by decide +kernel⟩⟩

set_option maxRecDepth 100000 in
theorem wit_channelService :
    (∃ (s : State) (m : Master) (c : Fin 16), (s.accepts m (svcOff ↑c) = true) ∧ ((s.chan ↑c).st = ChanState.active)) ∧
    (∃ (s : State) (m : Master) (c : Fin 16), (s.accepts m (svcOff ↑c) = true) ∧ ((s.chan ↑c).st = ChanState.quarantined)) ∧
    (∃ (s : State) (m : Master) (c : Fin 16), (s.accepts m (svcOff ↑c) = true) ∧ ((s.chan ↑c).st ≠ ChanState.active) ∧ ((s.chan ↑c).st ≠ ChanState.quarantined)) ∧
    (∃ (s : State) (m : Master) (c : Fin 16), (s.accepts m (svcOff ↑c) = true) ∧ ((s.chan ↑c).st = ChanState.drained)) ∧
    (∃ (s : State) (m : Master) (c : Fin 16) (a : Option Spd) (b : Option Spd), (s.accepts m (svcOff ↑c) = true) ∧ ((s.chan ↑c).st = ChanState.drained ∨
  (s.chan ↑c).st = ChanState.poweredDown ∨ (s.chan ↑c).st = ChanState.disabled)) ∧
    (∃ (s : State) (m : Master) (c : Fin 16) (a : Option Spd) (b : Option Spd), (s.accepts m (svcOff ↑c) = true) ∧ ((s.chan ↑c).st = ChanState.drained ∨
  (s.chan ↑c).st = ChanState.poweredDown ∨ (s.chan ↑c).st = ChanState.disabled)) ∧
    (∃ (s : State) (m : Master) (c : Fin 16), (s.accepts m (svcOff ↑c) = true) ∧ ((s.chan ↑c).st = ChanState.draining)) ∧
    (∃ (s : State) (c : Fin 16), (s.drains ↑c = true) ∧ (s.pagesLeft ↑c = []) ∧ (s.metaLeft ↑c = [])) ∧
    (∃ (s : State) (c : Fin 16) (x : ℕ), ((s.chan ↑c).st = ChanState.draining) ∧ (s.pagesLeft ↑c = []) ∧ (s.metaLeft ↑c = [x]) ∧ (s.metaPlace (s.ext x).domain = none)) :=
  ⟨⟨(upChan (ch0 .active) false), .bmc, 0, by decide +kernel⟩,
   ⟨(upChan (ch0 .quarantined) false), .bmc, 0, by decide +kernel⟩,
   ⟨(upChan (ch0 .drained) false), .bmc, 0, by decide +kernel⟩,
   ⟨(upChan (ch0 .drained) false), .bmc, 0, by decide +kernel⟩,
   ⟨(upChan (ch0 .drained) false), .bmc, 0, some spdOk1, none, by decide +kernel⟩,
   ⟨(upChan (ch0 .drained) false), .bmc, 0, none, none, by decide +kernel⟩,
   ⟨(upChan (ch0 .draining) false), .bmc, 0, by decide +kernel⟩,
   ⟨((upChan (ch0 .draining) false).withMem {}).withAmap {}, 0, by decide +kernel⟩,
   ⟨((upChan (ch0 .draining) false).withMem {}), 0, 0, by decide +kernel⟩⟩

set_option maxRecDepth 100000 in
theorem wit_hotnessAndMoves :
    (∃ (s : State), s.sorrelUp = true) ∧
    (∃ (s : State) (p : BitVec 34), (s.sorrelUp = true) ∧ (s.onHold tierPage = false) ∧ (s.inUse (pgExt p.toNat) = true) ∧ (p.toNat ∉ s.tier.swept)) ∧
    (∃ (s : State) (p : BitVec 34), (s.sorrelUp = true) ∧ (s.onHold tierPage = false) ∧ (s.inUse (pgExt p.toNat) = true) ∧ (p.toNat ∉ s.tier.swept) ∧ (s.sliceOut (homeOf p.toNat) = false) ∧ (s.metaGood = true) ∧ (listed s.mem.chunks (chunkOf p.toNat) = true) ∧ ((s.entry p.toNat).st ≠ PageState.migrating) ∧ ((s.entry p.toNat).touch = true)) ∧
    (∃ (s : State) (p : BitVec 34), (s.sorrelUp = true) ∧ (s.onHold tierPage = false) ∧ (s.inUse (pgExt p.toNat) = true) ∧ (p.toNat ∉ s.tier.swept) ∧ (s.sliceOut (homeOf p.toNat) = false) ∧ (s.metaGood = true) ∧ (listed s.mem.chunks (chunkOf p.toNat) = true) ∧ ((s.entry p.toNat).st = PageState.near) ∧ ((s.entry p.toNat).touch = false) ∧ (s.demotable p.toNat = true) ∧ (s.amap.low = false) ∧ (s.tier.domCmd = none) ∧ ((s.tier.epoch - (s.entry p.toNat).hepoch).toNat < 128) ∧ (s.cfg tierPage 128 10 7 ≤ (s.tier.epoch - (s.entry p.toNat).hepoch).toNat)) ∧
    (∃ (s : State) (u : Fin 8) (set : Fin 16) (cls : Fin 3) (g : ℕ × BinGroup), (s.sorrelUp = true) ∧ (s.onHold tierPage = false) ∧ (s.cfgBit tierPage 128 30 = true) ∧ (s.cfgBit tierPage 128 31 = true) ∧ (2 * binsIn (↑cls + 1) < (List.map (fun g => g.2.free) (s.groupsOf (↑u) (↑set) (↑cls + 1))).sum) ∧ (leastUsed (s.groupsOf (↑u) (↑set) (↑cls + 1)) = some g)) ∧
    (∃ (s : State) (p : BitVec 34) (why : MoveReason) (i : ℕ) (loc : ℕ), (s.sorrelUp = true) ∧ (s.onHold tierPage = false) ∧ (s.moveDue p.toNat why = true) ∧ (s.mayMigrate p.toNat false = true) ∧ (s.migFree (homeOf p.toNat) = true) ∧ (s.sliceOut (homeOf p.toNat) = false) ∧ (s.calm p.toNat = true) ∧ (Option.map (fun x => x.2)
    (((s.withTier
              (have __src := s.tier;
              { epoch := __src.epoch, epochAt := __src.epochAt, demote := __src.demote,
                promote := __src.promote, filter := __src.filter, parcels := __src.parcels, cnt := __src.cnt,
                swept := __src.swept, sweptAt := __src.sweptAt, rateAt := __src.rateAt,
                domCmd := __src.domCmd, cmdResult := __src.cmdResult, binLow := __src.binLow,
                groups := __src.groups, compact := List.filter (fun x => x != p.toNat) s.tier.compact,
                eng := __src.eng })).when
          (why == MoveReason.compaction) State.withinRate).moveDest
      p.toNat why) =
  some (i, loc))) ∧
    (∃ (s : State) (p : BitVec 34) (c : Fin 16), (s.sorrelUp = true) ∧ (s.onHold tierPage = false) ∧ (s.moveDue p.toNat (MoveReason.drain c) = true) ∧ (s.mayMigrate p.toNat false = true) ∧ (s.migFree (homeOf p.toNat) = true) ∧ (s.sliceOut (homeOf p.toNat) = false) ∧ (((s.withTier
          (have __src := s.tier;
          { epoch := __src.epoch, epochAt := __src.epochAt, demote := __src.demote, promote := __src.promote,
            filter := __src.filter, parcels := __src.parcels, cnt := __src.cnt, swept := __src.swept,
            sweptAt := __src.sweptAt, rateAt := __src.rateAt, domCmd := __src.domCmd,
            cmdResult := __src.cmdResult, binLow := __src.binLow, groups := __src.groups,
            compact := List.filter (fun x => x != p.toNat) s.tier.compact, eng := __src.eng })).moveDest
      p.toNat (MoveReason.drain c)).isNone =
  true)) ∧
    (∃ (s : State) (p : BitVec 34) (uncorr : BitVec 64) (m : Migration), (s.migOf p.toNat = some m) ∧ (m.kind = MigKind.nearMove) ∧ (s.migStill p.toNat m = false) ∧ (m.leafLost = false) ∧ (m.nodesLost = []) ∧ (s.calm p.toNat = true)) ∧
    (∃ (s : State) (p : BitVec 34) (m : Migration), (s.migOf p.toNat = some m) ∧ (m.kind = MigKind.binMove) ∧ (s.migStill p.toNat m = false) ∧ (m.leafLost = false) ∧ (m.nodesLost = []) ∧ (s.calm p.toNat = true) ∧ ((s.fetchLeaf p.toNat).1.binMoves p.toNat m = true)) ∧
    (∃ (s : State) (p : BitVec 34), (p.toNat ∈ s.tier.demote) ∧ (s.demotable p.toNat = true) ∧ ((s.entry p.toNat).st = PageState.near) ∧ (s.mayMigrate p.toNat false = true) ∧ (s.onHold tierPage = false) ∧ (s.migFree (homeOf p.toNat) = true) ∧ (s.sliceOut (homeOf p.toNat) = false) ∧ (s.calm p.toNat = true)) ∧
    (∃ (s : State) (p : BitVec 34) (e : Fin 16) (mismatch : Bool) (m : Migration), (s.migOf p.toNat = some m) ∧ (m.kind = MigKind.demotion) ∧ (s.migStill p.toNat m = false) ∧ (m.leafLost = false) ∧ (m.nodesLost = []) ∧ (s.calm p.toNat = true)) ∧
    (∃ (s : State) (p : BitVec 34) (e : Fin 16) (m : Migration) (d : List Byte), (s.migOf p.toNat = some m) ∧ (m.kind = MigKind.demotion) ∧ (s.migStill p.toNat m = false) ∧ (s.calm p.toNat = true) ∧ ((s.eng ↑e).avail = true) ∧ (s.engineIdle ↑e = false) ∧ ((s.fetchLeaf p.toNat).2 = false) ∧ (((s.fetchLeaf p.toNat).1.readFrame p.toNat m.image).2 = some d) ∧ ((d.all fun x => x == 0) = true) ∧ (s.cfgBit tierPage 128 29 = true)) ∧
    (∃ (s : State) (p : BitVec 34) (e : Fin 16) (uncorr : BitVec 64) (fault : BinFault) (mismatch : Bool) (m : Migration), (s.migOf p.toNat = some m) ∧ (s.migStill p.toNat m = true)) :=
  ⟨⟨(upPage nearPage), by decide +kernel⟩,
   ⟨(upPage nearPage), 0, by decide +kernel⟩,
   ⟨(upPage { nearPage with touch := true }), 0, by decide +kernel⟩,
   ⟨((upPage nearPage).withTier { epoch := 100 }), 0, by decide +kernel⟩,
   ⟨upGroups, 0, 2, 0, (2 ^ 33 + 2001, { unit := 0, set := 2, cls := 1, used := 1 }), by decide +kernel⟩,
   ⟨(upRetire nearPage), 0, .retire, 2, 0, by decide +kernel⟩,
   ⟨upDrain, 0, 0, by decide +kernel⟩,
   ⟨(upMig nearPage .nearMove 3000), 0, 0, (theMig nearPage .nearMove 3000), by decide +kernel⟩,
   ⟨(upBins), 0, (theMig binned .binMove 48000), by decide +kernel⟩,
   ⟨((upPage nearPage).withTier { demote := [0] }), 0, by decide +kernel⟩,
   ⟨(upMig nearPage .demotion 0), 0, 0, true, (theMig nearPage .demotion 0), by decide +kernel⟩,
   ⟨((upMig nearPage .demotion 0).setReg tierPage 0x80 0xF8050064), 0, 0, (theMig nearPage .demotion 0), (List.replicate 4096 0), by decide +kernel⟩,
   ⟨((upMig nearPage .nearMove 3000).onChan 0 (fun ch => { ch with retraining := true })), 0, 0, 0, .none, false, (theMig nearPage .nearMove 3000), by decide +kernel⟩⟩

set_option maxRecDepth 100000 in
theorem wit_promotionsAndDirectJobs :
    (∃ (s : State) (p : BitVec 34) (w : Bool) (i : ℕ) (f : ℕ), (s.triggered p.toNat = some w) ∧ ((s.entry p.toNat).st = PageState.compressed ∨ (s.entry p.toNat).st = PageState.rawInBin) ∧ (s.mayMigrate p.toNat w = true) ∧ (s.migFree (homeOf p.toNat) = true) ∧ (s.sliceOut (homeOf p.toNat) = false) ∧ (s.calm p.toNat = true) ∧ (Option.map (fun x => x.2) (s.takeFrame p.toNat true) = some (i, f))) ∧
    (∃ (s : State) (p : BitVec 34), (s.triggered p.toNat = some false) ∧ ((s.entry p.toNat).st = PageState.compressed ∨ (s.entry p.toNat).st = PageState.rawInBin) ∧ (s.mayMigrate p.toNat false = true) ∧ (s.migFree (homeOf p.toNat) = true) ∧ (s.sliceOut (homeOf p.toNat) = false) ∧ ((s.takeFrame p.toNat true).isNone = true)) ∧
    (∃ (s : State) (p : BitVec 34) (m : Migration) (d : List Byte), (s.migOf p.toNat = some m) ∧ (m.kind = MigKind.promotion) ∧ (s.migStill p.toNat m = false) ∧ (s.calm p.toNat = true) ∧ (m.image.plen.length = 4) ∧ (m.image.plen.sum ≤ 192) ∧ ((s.fetchLeaf p.toNat).1.pageBytes p.toNat m.image = some d) ∧ (crc32c d = m.image.crc)) ∧
    (∃ (s : State) (p : BitVec 34) (fault : BinFault) (m : Migration), (s.migOf p.toNat = some m) ∧ (m.kind = MigKind.promotion) ∧ (s.migStill p.toNat m = false) ∧ (s.calm p.toNat = true) ∧ (fault ≠ BinFault.none)) ∧
    (∃ (s : State) (m : Master) (d : BitVec 12), (s.accepts m tierCmd = true) ∧ (s.tier.domCmd = none) ∧ ((s.dom d.toNat).valid = true)) ∧
    (∃ (s : State) (m : Master) (d : BitVec 12), (s.accepts m tierCmd = true) ∧ (s.tier.domCmd.isSome = true ∨ (s.dom d.toNat).valid = false)) ∧
    (∃ (s : State) (m : Master) (d : ℕ), (s.accepts m tierCmd = true) ∧ (s.tier.domCmd = some d)) ∧
    (∃ (s : State) (d : ℕ), (s.tier.domCmd = some d) ∧ (∀ x ∈ s.tier.promote, s.domOf x.1 ≠ d) ∧ (∀ x ∈ s.mem.mig, x.2.kind ≠ MigKind.promotion ∨ s.domOf x.1 ≠ d)) ∧
    (∃ (s : State) (m : Master) (e : Fin 16) (op : BitVec 2) (resume : Bool), (s.accepts m (jctl ↑e) = true) ∧ ((s.eng ↑e).job = none) ∧ (op ≠ 0) ∧ ((s.eng ↑e).avail = true) ∧ (s.onHold (engPage ↑e) = false)) ∧
    (∃ (s : State) (m : Master) (e : Fin 16) (j : Job), (s.accepts m (jctl ↑e) = true) ∧ ((s.eng ↑e).job = some j)) ∧
    (∃ (s : State) (e : Fin 16) (mismatch : Bool) (j : Job), ((s.eng ↑e).job = some j) ∧ (j.cancel = true)) ∧
    (∃ (s : State) (e : Fin 16) (j : Job) (ln : ℕ) (n : ℕ) (v : Line), ((s.eng ↑e).job = some j) ∧ (j.cancel = false) ∧ (s.jobAddr (↑e) 136 + (s.eng ↑e).cons = 64 * ln) ∧ (s.cfg (engPage ↑e) 152 0 32 - (s.eng ↑e).cons = n) ∧ (0 < n) ∧ (n ≤ 64) ∧ (s.jobMay ln = true) ∧ (s.jobLine (↑e) ln = some (some v)) ∧ (∀ x ∈ spanLines (s.jobAddr (↑e) 144) (if j.op = 3 then 0 else s.cfg (engPage ↑e) 156 0 32), s.jobMay x = true)) ∧
    (∃ (s : State) (e : Fin 16) (j : Job) (ln : ℕ) (rest : List ℕ), ((s.eng ↑e).job = some j) ∧ (j.cancel = false) ∧ (spanLines (s.jobAddr (↑e) 136 + (s.eng ↑e).cons) (s.cfg (engPage ↑e) 152 0 32 - (s.eng ↑e).cons) = ln :: rest) ∧ (s.jobMay ln = false)) ∧
    (∃ (s : State) (e : Fin 16) (verify : Bool), (s.eng ↑e).avail = true) ∧
    (∃ (s : State) (e : Fin 16), ((s.eng ↑e).faultAt.isSome = true) ∧ ((s.eng ↑e).failed = false)) :=
  ⟨⟨((upPage binned).withTier { promote := [(0, [])] }), 0, false, 2, 0, by decide +kernel⟩,
   ⟨(((upPage binned).withTier { promote := [(0, [])] }).onChan 0 (fun ch => { ch with st := .draining })), 0, by decide +kernel⟩,
   ⟨upZero, 0, (theMig zeroBin .promotion 3000), (List.replicate 4096 0), by decide +kernel⟩,
   ⟨(upMig binned .promotion 3000), 0, .tagFail, (theMig binned .promotion 3000), by decide +kernel⟩,
   ⟨((upPage nearPage).withTier { demote := [0] }), .bmc, 0, by decide +kernel⟩,
   ⟨((upPage nearPage).withTier { domCmd := some 1 }), .bmc, 0, by decide +kernel⟩,
   ⟨((upPage nearPage).withTier { domCmd := some 1 }), .bmc, 1, by decide +kernel⟩,
   ⟨((upPage nearPage).withTier { domCmd := some 1 }), 1, by decide +kernel⟩,
   ⟨(upJob none), .bmc, 0, 2, false, by decide +kernel⟩,
   ⟨(upJob (some { op := 1, cancel := false })), .bmc, 0, { op := 1, cancel := false }, by decide +kernel⟩,
   ⟨(upJob (some { op := 1, cancel := true })), 0, false, { op := 1, cancel := true }, by decide +kernel⟩,
   ⟨upCrc, 0, { op := 3, cancel := false }, 0, 8, 5, by decide +kernel⟩,
   ⟨(((upJob (some { op := 1, cancel := false })).setReg (engPage 0) 0x98 64).setReg (engPage 0) 0x8C 1), 0, { op := 1, cancel := false }, 67108864, [], by decide +kernel⟩,
   ⟨(upJob none), 0, true, by decide +kernel⟩,
   ⟨(upJob none).withTier { eng := [(0, { avail := false, faultAt := some 4 })] }, 0, by decide +kernel⟩⟩

set_option maxRecDepth 100000 in
theorem wit_dataMoverQueues :
    (∃ (s : State) (m : Master) (q : Fin 64) (tail : BitVec 16) (b : ℕ), (s.dmqBlock ↑q = some b) ∧ (s.accepts m (b + 16) = true)) ∧
    (∃ (s : State) (m : Master) (q : Fin 64) (v : Word) (b : ℕ), (s.dmqBlock ↑q = some b) ∧ (s.accepts m (b + 0) = true)) ∧
    (∃ (s : State) (m : Master) (q : Fin 64) (b : ℕ), (s.dmqBlock ↑q = some b) ∧ (s.accepts m (b + 24) = true) ∧ ((s.queue ↑q).st = 1) ∧ ((s.queue ↑q).abort = none) ∧ ((s.queue ↑q).run ≠ [])) ∧
    (∃ (s : State) (m : Master) (q : Fin 64) (b : ℕ), (s.dmqBlock ↑q = some b) ∧ (s.accepts m (b + 24) = true) ∧ ((s.queue ↑q).st = 1) ∧ ((s.queue ↑q).abort = none) ∧ ((s.queue ↑q).run = [])) ∧
    (∃ (s : State) (q : Fin 64) (raw : BitVec 512) (head : ℕ), (s.fetchDue (↑q) head 0 = true) ∧ (s.ringOpen (↑q) head = true) ∧ (dBit raw 4 = false ∨ (s.queue ↑q).run = []) ∧ (s.desc (↑q) head = none)) ∧
    (∃ (s : State) (q : Fin 64) (raw : BitVec 512) (head : ℕ), (s.fetchDue (↑q) head 0 = true) ∧ (s.ringOpen (↑q) head = true) ∧ (dBit raw 4 = true) ∧ ((s.queue ↑q).run ≠ [])) ∧
    (∃ (s : State) (q : Fin 64) (head : ℕ), (s.fetchDue (↑q) head 0 = true) ∧ ((s.queue ↑q).ring = none) ∧ ((s.issueOne (↑q) ringIx (s.ringAt (↑q) head) 64).isSome = true)) ∧
    (∃ (s : State) (q : Fin 64) (raw : BitVec 512) (head : ℕ), (s.fetchDue (↑q) head 0 = true) ∧ ((s.queue ↑q).ring = some (RingFetch.got (some raw))) ∧ (dBit raw 4 = false ∨ (s.queue ↑q).run = []) ∧ (s.desc (↑q) head = none)) ∧
    (∃ (s : State) (q : Fin 64) (host : Option (BitVec 512)) (head : ℕ), (s.fetchDue (↑q) head 0 = true) ∧ ((s.queue ↑q).ring = some (RingFetch.got none))) ∧
    (∃ (s : State) (q : Fin 64) (host : Option (BitVec 512)) (raw : BitVec 512) (head : ℕ) (a : ℕ), (s.fetchDue (↑q) head 1 = true) ∧ (s.ringAt (↑q) head = a) ∧ (oneExtent a 64 = true) ∧ (s.dmRange (↑q) a 64 (s.dmqGet (↑q) 0 10 16) = none) ∧ (s.unitsUp (a / 64) = true) ∧ (s.fetchedLine (dmKey (↑q) 65535) (a / 64) = some (some raw)) ∧ (dBit raw 4 = false ∨ (s.queue ↑q).run = []) ∧ (s.desc (↑q) head = none)) ∧
    (∃ (s : State) (q : Fin 64) (ix : BitVec 16) (d : Desc), (s.desc (↑q) ix.toNat = some d) ∧ (d.ended = true) ∧ (s.dmWriting (dmKey (↑q) d.ix) = false) ∧ (s.sorrelUp = true) ∧ (d.recorded = false) ∧ (s.countsDue (↑q) d = false) ∧ (dBit d.raw 8 = false)) ∧
    (∃ (s : State) (q : Fin 64) (ix : BitVec 16) (d : Desc) (ok : Bool), (s.desc (↑q) ix.toNat = some d) ∧ (d.ended = true) ∧ (s.dmWriting (dmKey (↑q) d.ix) = false) ∧ (s.sorrelUp = true) ∧ (d.recorded = false) ∧ (s.countsDue (↑q) d = false) ∧ (dBit d.raw 8 = true) ∧ (oneExtent (dRec d.raw) 32 = true) ∧ (s.granted (↑q) (dRec d.raw / 2 ^ 28) = true) ∧ (s.unitsUp (dRec d.raw / 64) = true)) ∧
    (∃ (s : State) (q : Fin 64) (ix : BitVec 16) (d : Desc) (ok : Bool), (s.desc (↑q) ix.toNat = some d) ∧ (d.ended = true) ∧ (s.dmWriting (dmKey (↑q) d.ix) = false) ∧ (s.sorrelUp = true) ∧ (d.recorded = true)) ∧
    (∃ (s : State) (q : Fin 64) (ix : BitVec 16) (st : CplStatus) (d : Desc), (s.desc (↑q) ix.toNat = some d) ∧ (d.ended = false) ∧ (d.flushing = true) ∧ (d.want = [])) :=
  ⟨⟨(upRing 0), .bmc, 0, 7, ((upRing 0).dmqBlock 0).getD 0, by decide +kernel⟩,
   ⟨(upRing 0), .bmc, 0, 0, ((upRing 0).dmqBlock 0).getD 0, by decide +kernel⟩,
   ⟨(upDm (d5 0)), .bmc, 0, ((upRing 0).dmqBlock 0).getD 0, by decide +kernel⟩,
   ⟨(upRing 0), .bmc, 0, ((upRing 0).dmqBlock 0).getD 0, by decide +kernel⟩,
   ⟨(upRing 0), 0, rawOf 0xC1 0 64 64 0 0 0, 0, by decide +kernel⟩,
   ⟨((upRing 0).onQueue 0 (fun u => { u with run := [d5 0] })), 0, rawOf 0xD1 0 64 64 0 0 0, 0, by decide +kernel⟩,
   ⟨(upRing 0), 0, 0, by decide +kernel⟩,
   ⟨((upRing 0).onQueue 0 (fun u => { u with ring := some (.got (some (rawOf 0xC1 0 64 64 0 0 0))) })), 0, rawOf 0xC1 0 64 64 0 0 0, 0, by decide +kernel⟩,
   ⟨((upRing 0).onQueue 0 (fun u => { u with ring := some (.got none) })), 0, none, 0, by decide +kernel⟩,
   ⟨((upRing 1).withHome { (upRing 1).home with fetched := [{ who := .dm (dmKey 0 65535), line := 0, data := some (rawOf 0xC1 0 64 64 0 0 0) }] }), 0, none, rawOf 0xC1 0 64 64 0 0 0, 0, 0, by decide +kernel⟩,
   ⟨(upDm { d5 (rawOf 0xC1 0 64 64 0 0 0) with ended := true, status := 1 }), 0, 5, { d5 (rawOf 0xC1 0 64 64 0 0 0) with ended := true, status := 1 }, by decide +kernel⟩,
   ⟨(upDm { d5 (rawOf 0x1C1 0 64 64 0 0 0) with ended := true, status := 1 }), 0, 5, { d5 (rawOf 0x1C1 0 64 64 0 0 0) with ended := true, status := 1 }, true, by decide +kernel⟩,
   ⟨(upDm { d5 (rawOf 0x1C1 0 64 64 0 0 0) with ended := true, status := 1, recorded := true }), 0, 5, { d5 (rawOf 0x1C1 0 64 64 0 0 0) with ended := true, status := 1, recorded := true }, true, by decide +kernel⟩,
   ⟨(upDm { d5 (rawOf 0x49 0 64 64 0 0 0) with flushing := true }), 0, 5, .ur, { d5 (rawOf 0x49 0 64 64 0 0 0) with flushing := true }, by decide +kernel⟩⟩

set_option maxRecDepth 100000 in
theorem wit_dataMoverOperations :
    (∃ (s : State) (q : Fin 64) (ix : BitVec 16) (e : Fin 16) (mm : Bool) (d : Desc) (st : ℕ) (c : ℕ × Instr), (s.desc (↑q) ix.toNat = some d) ∧ (d.ended = false) ∧ (d.flushing = false) ∧ (s.dmServes ↑q = true) ∧ (s.dmPermit (↑q) d.raw = some st) ∧ (c ∈
  [(1, Instr.dmCopy q ix), (2, Instr.dmFill q ix), (3, Instr.dmCompare q ix), (4, Instr.dmCrc q ix),
    (5, Instr.dmCompress q ix { engine := e, mismatch := mm }), (6, Instr.dmDecompress q ix e),
    (7, Instr.dmZeroReseal q ix), (8, Instr.dmBatchAtomic q ix), (9, Instr.dmPeerCopy q ix)]) ∧ (dOp d.raw = c.1)) ∧
    (∃ (s : State) (q : Fin 64) (ix : BitVec 16) (d : Desc) (b : List (Option Byte)), (s.opReady (↑q) ix.toNat 1 d = true) ∧ ((s.source (↑q) d).2 = OperandGot.bytes b) ∧ ((s.source (↑q) d).1.putUp (dDstSp d.raw) (dDst d.raw) (dLen d.raw) = true)) ∧
    (∃ (s : State) (q : Fin 64) (ix : BitVec 16) (d : Desc), (s.opReady (↑q) ix.toNat 2 d = true) ∧ (s.putUp (dDstSp d.raw) (dDst d.raw) (dLen d.raw) = true)) ∧
    (∃ (s : State) (q : Fin 64) (ix : BitVec 16) (d : Desc) (a : List (Option Byte)) (b : List (Option Byte)), (s.opReady (↑q) ix.toNat 3 d = true) ∧ ((s.source (↑q) d).2 = OperandGot.bytes a) ∧ (((s.source (↑q) d).1.operand (↑q) d (dDstSp d.raw) (dDst d.raw) (dLen d.raw)).2 = OperandGot.bytes b)) ∧
    (∃ (s : State) (q : Fin 64) (ix : BitVec 16) (d : Desc) (b : List (Option Byte)), (s.opReady (↑q) ix.toNat 4 d = true) ∧ ((s.source (↑q) d).2 = OperandGot.bytes b) ∧ (b.all Option.isSome = true)) ∧
    (∃ (s : State) (q : Fin 64) (ix : BitVec 16) (d : Desc) (b : List (Option Byte)), (s.opReady (↑q) ix.toNat 4 d = true) ∧ ((s.source (↑q) d).2 = OperandGot.bytes b) ∧ (b.all Option.isSome = false)) ∧
    (∃ (s : State) (q : Fin 64) (ix : BitVec 16) (e : Fin 16) (mm : Bool) (d : Desc) (c : ℕ × Instr), (c ∈ [(5, Instr.dmCompress q ix { engine := e, mismatch := mm }), (6, Instr.dmDecompress q ix e)]) ∧ (s.opReady (↑q) ix.toNat c.1 d = true) ∧ ((s.eng ↑e).avail = false)) ∧
    (∃ (s : State) (u : State) (q : Fin 64) (ix : BitVec 16) (e : Fin 16) (d : Desc) (b : List (Option Byte)) (ch : List Byte), (s.opReady (↑q) ix.toNat 5 d = true) ∧ ((s.eng ↑e).avail = true) ∧ (s.engineIdle ↑e = false) ∧ ((s.source (↑q) d).2 = OperandGot.bytes b) ∧ ((s.source (↑q) d).1.chainIs (↑q) d u ch = true) ∧ (b.all Option.isSome = true)) ∧
    (∃ (s : State) (u : State) (q : Fin 64) (ix : BitVec 16) (e : Fin 16) (d : Desc) (b : List (Option Byte)) (ch : List Byte), (s.opReady (↑q) ix.toNat 5 d = true) ∧ ((s.eng ↑e).avail = true) ∧ (s.engineIdle ↑e = false) ∧ ((s.source (↑q) d).2 = OperandGot.bytes b) ∧ ((s.source (↑q) d).1.chainIs (↑q) d u ch = true) ∧ (u.verifies ↑e = true)) ∧
    (∃ (s : State) (u : State) (q : Fin 64) (ix : BitVec 16) (e : Fin 16) (d : Desc) (b : List (Option Byte)) (ch : List Byte), (s.opReady (↑q) ix.toNat 6 d = true) ∧ ((s.eng ↑e).avail = true) ∧ (s.engineIdle ↑e = false) ∧ ((s.source (↑q) d).2 = OperandGot.bytes b) ∧ ((s.source (↑q) d).1.chainIs (↑q) d u ch = true)) ∧
    (∃ (s : State) (q : Fin 64) (ix : BitVec 16) (d : Desc) (p : ℕ), (s.opReady (↑q) ix.toNat 7 d = true) ∧ (d.prod = 0) ∧ (dLen d.raw = 4096) ∧ (dDst d.raw = 4096 * p) ∧ (s.unitsUp (64 * p) = true) ∧ (s.calm p = true) ∧ ((s.entry p).st = PageState.near) ∧ (∀ k < 64, s.coherent (64 * p + k) = false) ∧ (s.home.queue = [])) ∧
    (∃ (s : State) (q : Fin 64) (ix : BitVec 16) (d : Desc) (b : List (Option Byte)), (s.opReady (↑q) ix.toNat 8 d = true) ∧ ((s.source (↑q) d).2 = OperandGot.bytes b) ∧ (b.all Option.isSome = true) ∧ (b.length = 64 * dAux1 d.raw) ∧ (∀ k < dAux1 d.raw, ((s.source (↑q) d).1.elemGot (dmKey (↑q) d.ix) k).isSome = true) ∧ (∀ k < dAux1 d.raw,
  Option.all (fun t => (s.source (↑q) d).1.unitsUp (t.2.2.2.1 / 64))
      (element (List.take 64 (List.drop (64 * k) (goodBytes b)))) =
    true) ∧ ((s.source (↑q) d).1.putUp (dDstSp d.raw) (dDst d.raw) (32 * dAux1 d.raw) = true)) ∧
    (∃ (s : State) (q : Fin 64) (ix : BitVec 16) (d : Desc) (b : List (Option Byte)), (s.opReady (↑q) ix.toNat 9 d = true) ∧ ((s.source (↑q) d).2 = OperandGot.bytes b)) :=
  ⟨⟨(upDm (d5 (rawOf 0x81 0 (2 ^ 28) 64 0 0 0))), 0, 5, 0, false, d5 (rawOf 0x81 0 (2 ^ 28) 64 0 0 0), 7, (1, .dmCopy 0 5), by decide +kernel⟩,
   ⟨(upDm (hostSrc (rawOf 0x1 0 64 4 0 0 0) [1, 2, 3, 4])), 0, 5, hostSrc (rawOf 0x1 0 64 4 0 0 0) [1, 2, 3, 4], [some 1, some 2, some 3, some 4], by decide +kernel⟩,
   ⟨(upDm (d5 (rawOf 0x2 0x0807060504030201 64 4 0 0 0))), 0, 5, d5 (rawOf 0x2 0x0807060504030201 64 4 0 0 0), by decide +kernel⟩,
   ⟨(upDm (hostSrc (rawOf 0x3 0 2 2 0 0 0) [1, 2, 1, 4])), 0, 5, hostSrc (rawOf 0x3 0 2 2 0 0 0) [1, 2, 1, 4], [some 1, some 2], [some 1, some 4], by decide +kernel⟩,
   ⟨(upDm (hostSrc (rawOf 0x4 0 0 4 0 0 0) [1, 2, 1, 4])), 0, 5, hostSrc (rawOf 0x4 0 0 4 0 0 0) [1, 2, 1, 4], [some 1, some 2, some 1, some 4], by decide +kernel⟩,
   ⟨(upDm (hostSrc (rawOf 0x4 0 0 4 0 0 0) [1, 2])), 0, 5, hostSrc (rawOf 0x4 0 0 4 0 0 0) [1, 2], [some 1, some 2, none, none], by decide +kernel⟩,
   ⟨((upDm (d5 (rawOf 5 0 0 4 0 0 0))).withTier { eng := [(0, { avail := false })] }), 0, 5, 0, false, d5 (rawOf 5 0 0 4 0 0 0), (5, .dmCompress 0 5 ⟨0, false⟩), by decide +kernel⟩,
   ⟨(upDm (hostSrc (rawOf 5 0 64 4 32 0 0) [1, 2, 1, 4])), (upDm (hostSrc (rawOf 5 0 64 4 32 0 0) [1, 2, 1, 4])), 0, 5, 0, hostSrc (rawOf 5 0 64 4 32 0 0) [1, 2, 1, 4], [some 1, some 2, some 1, some 4], [], by decide +kernel⟩,
   ⟨upVerify, upVerify, 0, 5, 0, hostSrc (rawOf 5 0 64 4 32 0 0) [1, 2, 1, 4], [some 1, some 2, some 1, some 4], [], by decide +kernel⟩,
   ⟨(upDm (hostSrc (rawOf 6 0 64 4 32 0 4) [1, 2, 1, 4])), (upDm (hostSrc (rawOf 6 0 64 4 32 0 4) [1, 2, 1, 4])), 0, 5, 0, hostSrc (rawOf 6 0 64 4 32 0 4) [1, 2, 1, 4], [some 1, some 2, some 1, some 4], [], by decide +kernel⟩,
   ⟨(upDm (d5 (rawOf 0x87 0 0 4096 0 0 0))), 0, 5, d5 (rawOf 0x87 0 0 4096 0 0 0), 0, by decide +kernel⟩,
   ⟨((upDm (hostSrc (rawOf 8 0 64 0 0 0 1) (List.replicate 64 0))).withHome { up.home with fetched := [{ who := .dm (dmKey 0 5), line := elemFail 13 0, data := none }] }), 0, 5, hostSrc (rawOf 8 0 64 0 0 0 1) (List.replicate 64 0), (List.replicate 64 (some 0)), by decide +kernel⟩,
   ⟨(upDm (d5 (rawOf 0x9 0 0 2048 0 4096 0))), 0, 5, d5 (rawOf 0x9 0 0 2048 0 4096 0), (List.replicate 2048 none), by decide +kernel⟩⟩

set_option maxRecDepth 100000 in
theorem wit_moduleTrainingAndChanges :
    (∃ (s : State) (e : Fin 34), s.mayTrain ↑e = true) ∧
    (∃ (s : State) (e : Fin 34) (r : LaneResult) (w : ℕ), ((s.mod ↑e).st = DlnkState.train) ∧ (r.ok = true) ∧ (laneWidth r.lanes.toNat r.fck0 r.fck1
    (min (min (s.maxWidth ↑e) (s.maxWidth ((peerEnd ↑e).getD ↑e))) (s.peerLane ↑e).2) =
  some w)) ∧
    (∃ (s : State) (e : Fin 34) (r : LaneResult) (v : ℕ), ((s.mod ↑e).st = DlnkState.train) ∧ (r.ok = false ∨
  laneWidth r.lanes.toNat r.fck0 r.fck1
      (min (min (s.maxWidth ↑e) (s.maxWidth ((peerEnd ↑e).getD ↑e))) (s.peerLane ↑e).2) =
    none) ∧ (v =
  min (min (min (↑r.rate) (s.mod ↑e).rateTop) (min (s.maxRate ↑e) (s.maxRate ((peerEnd ↑e).getD ↑e))))
    (min (s.mod ↑e).offer (s.peerLane ↑e).1))) ∧
    (∃ (s : State) (e : Fin 34) (minor : BitVec 8) (rate : BitVec 8) (vendor : BitVec 16) (device : BitVec 16) (rev : BitVec 8), (s.mod ↑e).st = DlnkState.param) ∧
    (∃ (s : State) (e : Fin 34) (major : BitVec 8) (minor : BitVec 8) (rate : BitVec 8) (vendor : BitVec 16) (device : BitVec 16) (rev : BitVec 8), (major ≠ 1) ∧ ((s.mod ↑e).st = DlnkState.param ∨ (s.mod ↑e).st = DlnkState.lreset)) ∧
    (∃ (s : State) (e : Fin 34) (adv : List (BitVec 16)), (s.mod ↑e).st = DlnkState.credit) ∧
    (∃ (s : State) (e : Fin 34) (adv : List (BitVec 16)), (s.mod ↑e).st = DlnkState.lreset) ∧
    (∃ (s : State) (e : Fin 34) (minor : BitVec 8) (rate : BitVec 8) (vendor : BitVec 16) (device : BitVec 16) (rev : BitVec 8), (s.mod ↑e).st = DlnkState.lreset) ∧
    (∃ (s : State) (e : Fin 34) (ch : LinkChange) (slot : BitVec 4), (s.mod ↑e).st = DlnkState.active) ∧
    (∃ (s : State) (e : Fin 34) (ch : LinkChange) (slot : BitVec 4), ((s.mod ↑e).st = DlnkState.change) ∧ ((s.mod ↑e).ownReq.isSome = true)) ∧
    (∃ (s : State) (e : Fin 34) (accept : Bool), ((s.mod ↑e).st = DlnkState.change) ∧ ((s.mod ↑e).ownReq.isSome = true)) ∧
    (∃ (s : State) (e : Fin 34) (ch : LinkChange), ((s.mod ↑e).ownReq = some ch) ∧ ((s.mod ↑e).waitChange = true) ∧ ((s.mod ↑e).st = DlnkState.active)) ∧
    (∃ (s : State) (e : Fin 34) (ch : LinkChange), ((s.mod ↑e).change = some ch) ∧ ((s.mod ↑e).st = DlnkState.change) ∧ ((s.mod ↑e).ownReq = none)) ∧
    (∃ (s : State) (e : Fin 34), (s.mod ↑e).st = DlnkState.active ∨ (s.mod ↑e).st = DlnkState.change) ∧
    (∃ (s : State) (e : Fin 34) (r : LaneResult) (w : ℕ), ((s.mod ↑e).st = DlnkState.lreset) ∧ ((s.mod ↑e).retrained = false) ∧ (trainedWidth r (s.mod ↑e).width = some w)) ∧
    (∃ (s : State) (e : Fin 34) (r : LaneResult), ((s.mod ↑e).st = DlnkState.lreset) ∧ ((s.mod ↑e).retrained = false) ∧ (trainedWidth r (s.mod ↑e).width = none)) ∧
    (∃ (s : State) (m : Master) (e : Fin 34), s.accepts m (dlnkOff ↑e) = true) ∧
    (∃ (s : State) (e : ℕ) (cmd : ℕ), (1 ≤ cmd) ∧ (cmd ≤ 6) ∧ (cmd ≠ 5) ∧ ((s.mod e).st ≠ DlnkState.active)) ∧
    (∃ (s : State) (e : ℕ), ((s.mod e).st = DlnkState.active) ∧ ((s.mod e).lastLreset = none)) ∧
    (∃ (s : State) (e : ℕ), (s.mod e).st = DlnkState.active) ∧
    (∃ (s : State) (e : ℕ) (cmd : ℕ), (1 ≤ cmd) ∧ (cmd ≤ 3) ∧ ((s.mod e).st = DlnkState.active) ∧ ((s.mod e).waitChange = false) ∧ ((s.mod e).lastReset = none)) :=
  ⟨⟨((upEnd {}).withBoot { up.boot with step := 8 }), 0, by decide +kernel⟩,
   ⟨(upEnd { st := .train }), 0, ⟨true, 3, 0, true, true⟩, 2, by decide +kernel⟩,
   ⟨(upEnd { st := .train }), 0, ⟨false, 3, 0, true, true⟩, 3, by decide +kernel⟩,
   ⟨(upBrg.onMod 15 (fun k => { k with st := .param })), 15, 0, 2, 5, 6, 7, by decide +kernel⟩,
   ⟨(upEnd { st := .lreset }), 0, 2, 0, 0, 5, 6, 0, by decide +kernel⟩,
   ⟨(upBrg.onMod 15 (fun k => { k with st := .credit, creditSent := true })), 15, [32, 288, 64, 512, 64, 0, 16, 16], by decide +kernel⟩,
   ⟨(upEnd { st := .lreset }), 0, [1], by decide +kernel⟩,
   ⟨(upEnd { st := .lreset, retrained := true, creditRcvd := true }), 0, 0, 3, 5, 6, 0, by decide +kernel⟩,
   ⟨(upEnd { st := .active }), 0, .retrain, 5, by decide +kernel⟩,
   ⟨(upEnd { st := .change, ownReq := some .retrain, change := some .retrain }), 0, .width 1, 5, by decide +kernel⟩,
   ⟨(upEnd { st := .change, ownReq := some .retrain, change := some .retrain }), 0, false, by decide +kernel⟩,
   ⟨(upEnd { st := .active, ownReq := some .retrain, waitChange := true, lastReset := some 9 }), 0, .retrain, by decide +kernel⟩,
   ⟨(upEnd { st := .change, change := some (.width 1), lastLreset := some 0 }), 0, .width 1, by decide +kernel⟩,
   ⟨(upEnd { st := .active, unacked := [(3, 4)], lresets := 255 }), 0, by decide +kernel⟩,
   ⟨(upBrg.onMod 15 (fun k => { k with st := .lreset, unacked := [(3, 4, 0)], width := 2, creditRcvd := true, paramRcvd := true })), 15, ⟨true, 3, 0, true, true⟩, 2, by decide +kernel⟩,
   ⟨(upEnd { st := .lreset }), 0, ⟨false, 3, 0, true, true⟩, by decide +kernel⟩,
   ⟨(upEnd { st := .active }), .bmc, 0, by decide +kernel⟩,
   ⟨(upEnd { st := .train }), 0, 4, by decide +kernel⟩,
   ⟨(upEnd { st := .active }), 0, by decide +kernel⟩,
   ⟨(upEnd { st := .active }), 0, by decide +kernel⟩,
   ⟨(upEnd { st := .active }), 0, 2, by decide +kernel⟩⟩

set_option maxRecDepth 100000 in
theorem wit_flitsAcknowledgementAndReplay :
    (∃ (s : State) (e : Fin 34) (f : BitVec 512), ((s.mod ↑e).st = DlnkState.active) ∧ ((s.mod ↑e).replayWait = true) ∧ ((flitKind f == 1 && flitOk f 61440) = false)) ∧
    (∃ (s : State) (e : Fin 34) (f : BitVec 512), (flitsCross (s.mod ↑e).st = true) ∧ (flitKind f = 1) ∧ (flitOk f 61440 = true) ∧ (bits (flitBytes f 0 4) 26 4 = 0)) ∧
    (∃ (s : State) (e : Fin 34) (f : BitVec 512), ((s.mod ↑e).st = DlnkState.active) ∧ ((s.mod ↑e).replayWait = false) ∧ ((flitKind f == 1 && flitOk f 61440) = false) ∧ (flitOk f ((s.mod ↑e).from_.getD (s.mod ↑e).next_) = false)) ∧
    (∃ (s : State) (e : Fin 34) (f : BitVec 512), ((s.mod ↑e).st = DlnkState.active) ∧ ((s.mod ↑e).replayWait = false) ∧ ((flitKind f == 1 && flitOk f 61440) = false) ∧ (flitOk f ((s.mod ↑e).from_.getD (s.mod ↑e).next_) = true) ∧ (flitKind f ≠ 0) ∧ ((s.mod ↑e).lastLreset = none)) ∧
    (∃ (s : State) (e : Fin 34) (f : BitVec 512) (w : RxWalk), ((s.mod ↑e).st = DlnkState.active) ∧ ((s.mod ↑e).replayWait = false) ∧ ((s.mod ↑e).from_.getD (s.mod ↑e).next_ = (s.mod ↑e).next_) ∧ (flitOk f (s.mod ↑e).next_ = true) ∧ (flitKind f = 0) ∧ (bits (flitBytes f 0 4) 14 16 = 0) ∧ (walkSlots (↑e) f (upTo 7) (s.mod ↑e).rx = some w)) ∧
    (∃ (s : State) (a : Fin 16) (tag : BitVec 10) (line : BitVec 40) (u : Bool) (keep : Bool) (d : List (List Byte)) (o : ℕ) (h : ℕ), h = 2 ^ 58 * o + 2 ^ 48 * tag.toNat + 2 ^ 44 * ↑a + 2 ^ 43 * b2n u + 2 ^ 40 * b2n keep + line.toNat) ∧
    (∃ (s : State) (e : Fin 34) (f : BitVec 512), ((s.mod ↑e).st = DlnkState.active) ∧ ((s.mod ↑e).replayWait = false) ∧ ((s.mod ↑e).from_.getD (s.mod ↑e).next_ ≠ (s.mod ↑e).next_) ∧ (flitOk f ((s.mod ↑e).from_.getD (s.mod ↑e).next_) = true) ∧ (flitKind f = 0)) ∧
    (∃ (s : State) (e : Fin 34) (seq : BitVec 12), (s.mod ↑e).st = DlnkState.active) ∧
    (∃ (s : State) (e : Fin 34) (valid : Bool) (ackseq : BitVec 12) (ret : List (BitVec 16)), ((s.mod ↑e).st = DlnkState.active) ∧ (∀ i < 8,
  ((List.map BitVec.toNat ret).getD i 0 + 65536 - (s.mod ↑e).returned.getD i 0) % 65536 ≤ (s.mod ↑e).inUse i)) ∧
    (∃ (s : State) (e : Fin 34) (valid : Bool) (ackseq : BitVec 12) (ret : List (BitVec 16)) (i : ℕ), ((s.mod ↑e).st = DlnkState.active) ∧ (i < 8) ∧ ((s.mod ↑e).lastLreset = none) ∧ ((s.mod ↑e).inUse i < ((List.map BitVec.toNat ret).getD i 0 + 65536 - (s.mod ↑e).returned.getD i 0) % 65536)) ∧
    (∃ (s : State) (e : Fin 34), (s.mod ↑e).st = DlnkState.active) ∧
    (∃ (s : State) (e : Fin 34), ((s.mod ↑e).st = DlnkState.active) ∧ ((s.mod ↑e).unacked ≠ []) ∧ ((s.mod ↑e).inRow < 4)) ∧
    (∃ (s : State) (e : Fin 34), ((s.mod ↑e).st = DlnkState.active) ∧ (brgModEnd ↑e = false ∨ (s.mod ↑e).unacked ≠ [] ∧ 4 ≤ (s.mod ↑e).inRow)) ∧
    (∃ (s : State) (e : Fin 34) (cls : MsgClass) (t0 : ℕ), ((s.mod ↑e).st = DlnkState.active) ∧ (brgModEnd ↑e = false ∨ look? (s.mod ↑e).waiting (msgClassNo cls) = some t0)) ∧
    (∃ (s : State) (e : ℕ) (cause : ℕ), ((s.mod e).st = DlnkState.active) ∧ ((s.mod e).lastLreset = none)) :=
  ⟨⟨(upEnd { st := .active, replayWait := true }), 0, 5, by decide +kernel⟩,
   ⟨(upEnd brgEnd0), 0, (ctlBits 0 [0, 0, 0, 0, 0, 0, 0, 0, 0]), by decide +kernel⟩,
   ⟨(upEnd { st := .active }), 0, 5, by decide +kernel⟩,
   ⟨(upEnd { st := .active }), 0, kindFlit, by decide +kernel⟩,
   ⟨(upEnd { st := .active }), 0, idleFlit, { need := 0, cls := 0, hdr := 0, data := [] }, by decide +kernel⟩,
   ⟨upBrg, 3, 7, 5, true, true, [], 2, (2 ^ 58 * 2 + 2 ^ 48 * 7 + 2 ^ 44 * 3 + 2 ^ 43 + 2 ^ 40 + 5), by decide +kernel⟩,
   ⟨(upEnd { st := .active, from_ := some 0, next_ := 1 }), 0, idleFlit, by decide +kernel⟩,
   ⟨(upEnd { st := .active, next_ := 3, replayWait := true }), 0, 2, by decide +kernel⟩,
   ⟨(upEnd { brgEnd0 with unacked := [(3, 0), (4, 0)], consumed := [2, 0, 0, 0, 0, 0, 0, 0], inRow := 2 }), 0, true, 3, [1, 0, 0, 0, 0, 0, 0, 0], by decide +kernel⟩,
   ⟨(upEnd brgEnd0), 0, true, 3, [1, 0, 0, 0, 0, 0, 0, 0], 0, by decide +kernel⟩,
   ⟨(upEnd { st := .active, rxUnacked := 2, next_ := 9 }), 0, by decide +kernel⟩,
   ⟨(upEnd { st := .active, unacked := [(3, 0), (4, 0)] }), 0, by decide +kernel⟩,
   ⟨(upEnd { st := .active, unacked := [(3, 0), (4, 0)], inRow := 4 }), 0, by decide +kernel⟩,
   ⟨(upEnd { st := .active, waiting := [(1, 6)] }), 0, .rs, 6, by decide +kernel⟩,
   ⟨(upEnd { st := .active }), 0, 1, by decide +kernel⟩⟩

set_option maxRecDepth 100000 in
theorem wit_borageRequestsAndSnoops :
    (∃ (s : State) (a : Fin 16) (tag : BitVec 10) (line : BitVec 40) (cred : Bool) (op : AtomicKind) (size : AtomicSize) (off : Fin 64) (x : BitVec 128) (y : BitVec 128), (s.admitsBrg (64 + ↑a) line.toNat false = true) ∧ ((atomicSupported op size && ↑off % size.bytes == 0) = true)) ∧
    (∃ (s : State) (a : Fin 16) (tag : BitVec 10) (line : BitVec 40) (cred : Bool) (op : AtomicKind) (size : AtomicSize) (off : Fin 64) (x : BitVec 128) (y : BitVec 128), ((s.brgEnd (homeOf (lnPage line.toNat))).isSome = true) ∧ ((atomicSupported op size && ↑off % size.bytes == 0) = false)) ∧
    (∃ (s : State) (a : Fin 16) (tag : BitVec 10) (line : BitVec 40) (cred : Bool), ((s.brgEnd (homeOf (lnPage line.toNat))).isSome = true) ∧ (s.home.lost.getLsbD (64 + ↑a) = false) ∧ (s.unitsUp line.toNat = true) ∧ (s.brgMay (64 + ↑a) line.toNat false = false)) ∧
    (∃ (s : State) (a : Fin 16) (line : BitVec 40) (keep : SnpKeep), s.snooping (64 + ↑a) line.toNat = true) ∧
    (∃ (s : State) (a : Fin 16) (line : BitVec 40) (keep : SnpKeep) (d : Line), s.snooping (64 + ↑a) line.toNat = true) ∧
    (∃ (s : State) (k : Fin 64) (payload : BitVec 64), (s.brgEnd 0).isSome = true) :=
  ⟨⟨upBrg, 0, 3, 1, false, .cas, .b8, 8, 1, 2, by decide +kernel⟩,
   ⟨upBrg, 0, 3, 1, false, .cas, .b8, 9, 1, 2, by decide +kernel⟩,
   ⟨(upBrg.withBrg { upBrg.brg with rights := [] }), 0, 3, 1, false, by decide +kernel⟩,
   ⟨upBrgSnoop, 0, 1, .i, by decide +kernel⟩,
   ⟨upBrgSnoop, 0, 1, .i, 5, by decide +kernel⟩,
   ⟨upBrg, 3, 77, by decide +kernel⟩⟩

set_option maxRecDepth 100000 in
theorem wit_forwardedAccessesAndBorageFaults :
    (∃ (s : State) (ld : Fin 64) (off : BitVec 40) (data : List Byte) (l : ℕ), (s.ioArrives ↑ld = some l) ∧ (s.groupFatal l = false) ∧ (s.ioBars l ↑ld = true) ∧ (s.bar0 (↑ld) off.toNat data.length = true) ∧ ((s.brgEnd 0).isSome = true)) ∧
    (∃ (s : State) (ld : Fin 64) (off : BitVec 40) (len : BitVec 13) (tag : ℕ) (l : ℕ), (s.ioArrives ↑ld = some l) ∧ (s.groupFatal l = false) ∧ (s.ioBars l ↑ld = true) ∧ (s.bar0 (↑ld) off.toNat len.toNat = true)) ∧
    (∃ (s : State) (ld : Fin 64) (off : BitVec 40) (data : List Byte) (len : BitVec 13) (tag : ℕ) (l : ℕ), (s.ioArrives ↑ld = some l) ∧ (s.groupFatal l = false)) ∧
    (∃ (s : State) (tag : BitVec 10) (data : Line) (x : FwdReq), s.fwdPending tag.toNat = some x) ∧
    (∃ (s : State) (tag : BitVec 10) (x : FwdReq), s.fwdPending tag.toNat = some x) ∧
    (∃ (s : State) (ld : Fin 64) (p : FwdPiece), (List.find? (fun p => p.ld == ↑ld) s.brg.fwdWait = some p) ∧ (p.len = 0)) ∧
    (∃ (s : State), (s.brg.filler = false) ∧ (s.brg.rst = false) ∧ (s.brg.fltN = false)) ∧
    (∃ (s : State) (f : BitVec 64), (s.brg.filler = false) ∧ (s.brg.rst = false) ∧ (bits f.toNat 60 4 = 5)) ∧
    (∃ (s : State) (e : ℕ), (s.brg.filler = false) ∧ (s.brg.rst = false) ∧ (15 ≤ e) ∧ (e < 19) ∧ ((s.mod e).st = DlnkState.train) ∧ (∀ (x : ℕ), 15 ≤ x → x < 19 → x ≠ e → (s.mod x).st = DlnkState.active)) :=
  ⟨⟨upBar, 0, 60, [1, 2, 3, 4, 5, 6, 7, 8], 0, by decide +kernel⟩,
   ⟨upBar, 0, 60, 8, 7, 0, by decide +kernel⟩,
   ⟨upBar, 0, 4092, [1, 2, 3, 4, 5, 6, 7, 8], 8, 7, 0, by decide +kernel⟩,
   ⟨(upBar.withBrg { upBar.brg with fwd := [fwd1] }), 3, 77, fwd1, by decide +kernel⟩,
   ⟨(upBar.withBrg { upBar.brg with fwd := [fwd1] }), 3, fwd1, by decide +kernel⟩,
   ⟨((upBar.onMod 15 (fun k => { k with adv := noCounts })).withBrg { upBar.brg with fwdWait := [⟨0, 64, 0, 0, 1, 5, 2⟩] }), 0, ⟨0, 64, 0, 0, 1, 5, 2⟩, by decide +kernel⟩,
   ⟨upBrg, by decide +kernel⟩,
   ⟨upBrg, 0x5000000000000000, by decide +kernel⟩,
   ⟨(upBrg.onMod 15 (fun k => { k with st := .train })), 15, by decide +kernel⟩⟩

set_option maxRecDepth 100000 in
theorem wit_registerAccesses :
    (∃ (s : State) (m : Master) (off : BitVec 28) (val : Word) (be : BitVec 4), (m ≠ Master.bmc) ∧ (s.cutOff m (off.toNat / 4 * 4) = false) ∧ (s.accepts m (off.toNat / 4 * 4) = true) ∧ (∀ (ld : Fin 64), m = Master.host ld → be = 15)) ∧
    (∃ (s : State) (ld : Fin 64) (off : BitVec 28) (val : Word) (be : BitVec 4), (s.boot.aux = true) ∧ (be ≠ 15) ∧ (s.noBar2 (Master.host ld) = false)) ∧
    (∃ (s : State) (m : Master) (off : BitVec 28) (val : Word), (s.boot.aux = true) ∧ (s.mustWait m = true) ∧ (m ≠ Master.bmc)) ∧
    (∃ (s : State) (m : Master) (page : BitVec 16), s.reachesOwn m (page.toNat * 4096 + 40) = true) ∧
    (∃ (s : State) (m : Master) (page : BitVec 16) (k : Fin 8), (s.reachesOwn m (page.toNat * 4096 + 80 + 4 * ↑k) = true) ∧ (↑k < counters page.toNat)) ∧
    (∃ (s : State) (m : Master) (val : Word), (s.accepts m (rstorePage * 4096 + 132) = true) ∧ (s.cutOff m (rstorePage * 4096 + 132) = false) ∧ (m ≠ Master.bmc)) ∧
    (∃ (s : State) (m : Master) (val : Word), s.rstoreAddr < 4096) ∧
    (∃ (s : State) (m : Master) (val : Word), (4096 ≤ s.rstoreAddr) ∧ (s.ret.queue = []) ∧ (s.retWord s.rstoreAddr ≠ val)) ∧
    (∃ (s : State) (m : Master) (off : BitVec 24) (wr : Option Word), s.reaches m (49152 * 4096 + off.toNat / 4 * 4) = true) ∧
    (∃ (s : State) (tag : BitVec 10) (val : Word) (err : Bool) (r : FwdReq), s.regPending tag.toNat = some r) ∧
    (∃ (s : State) (tag : BitVec 10) (val : Word) (r : FwdReq) (c : Fin 2), (s.regPending tag.toNat = some r) ∧ (s.idleWaits = true) ∧ (s.boot.cfgGo = false) ∧ (r.m = some (Master.core c)) ∧ (r.wr = none)) ∧
    (∃ (s : State) (tag : BitVec 10) (r : FwdReq), (s.regPending tag.toNat = some r) ∧ (s.regUnsent tag.toNat = false)) ∧
    (∃ (s : State) (tag : BitVec 10), s.regUnsent tag.toNat = true) ∧
    (∃ (s : State) (off : BitVec 28) (count : ℕ) (words : List Word), s.boot.aux = true) ∧
    (∃ (s : State) (off : BitVec 28) (count : ℕ) (words : List Word), (s.boot.aux = true) ∧ (off.toNat % 4 = 0)) ∧
    (∃ (s : State) (off : BitVec 28), (s.boot.aux = true) ∧ (off.toNat % 4 = 0) ∧ (s.idleWaits = true) ∧ (s.underWay Master.bmc = false) ∧ (s.answers (off.toNat / 4096) = true) ∧ (pgSlot (off.toNat / 4096) ≠ 12) ∧ ((s.asleep off.toNat).isNone = true)) :=
  ⟨⟨(upLock 3), (.core 0), 0x0FFF264, 5, 15, by decide +kernel⟩,
   ⟨(upLock 3), 0, 0x0FFF264, 5, 3, by decide +kernel⟩,
   ⟨(upBar.withBrg { upBar.brg with fwd := [{ fwd1 with m := some (.core 1) }] }), (.core 1), 0x0FFF264, 5, by decide +kernel⟩,
   ⟨up, (.core 0), 0x00C0, by decide +kernel⟩,
   ⟨up, (.core 0), 0x8000, 0, by decide +kernel⟩,
   ⟨up, (.core 0), 5, by decide +kernel⟩,
   ⟨up, (.core 0), 5, by decide +kernel⟩,
   ⟨(up.setReg rstorePage 0x80 0x1004), (.core 0), 5, by decide +kernel⟩,
   ⟨upBrg, (.core 0), 8, (some 4), by decide +kernel⟩,
   ⟨upReg, 4, 55, false, { tag := 4, m := some (.core 0), ld := 0, htag := 0, off := 0xC000 * 4096 + 8, len := 4, wr := none, at_ := 9, got := none }, by decide +kernel⟩,
   ⟨upReg, 4, 55, { tag := 4, m := some (.core 0), ld := 0, htag := 0, off := 0xC000 * 4096 + 8, len := 4, wr := none, at_ := 9, got := none }, 0, by decide +kernel⟩,
   ⟨upReg, 4, { tag := 4, m := some (.core 0), ld := 0, htag := 0, off := 0xC000 * 4096 + 8, len := 4, wr := none, at_ := 9, got := none }, by decide +kernel⟩,
   ⟨(upReg.onMod 15 (fun k => { k with sendq := [.regReq 4 0 8 none] })), 4, by decide +kernel⟩,
   ⟨up, 3, 17, [], by decide +kernel⟩,
   ⟨up, 0x1000, 2, [4, 5], by decide +kernel⟩,
   ⟨up, 0x0FFF264, by decide +kernel⟩⟩

set_option maxRecDepth 100000 in
theorem wit_wakesAndRetainedWrites :
    (∃ (s : State) (sd : SubDomain), (s.boot.main = true) ∧ (s.sdWanted sd = true) ∧ (s.clk.down.getLsbD (sdDomains sd).1 = true) ∧ (s.clk.quar.contains (sdDomains sd).1 = false)) ∧
    (∃ (s : State) (sd : SubDomain) (t0 : ℕ), (s.wakeBegan sd = some t0) ∧ (s.idleWaits = true) ∧ (s.home.queue = [])) ∧
    (∃ (s : State) (n : Fin 2) (u : State), (s.boot.aux = true) ∧ (s.idleWaits = true) ∧ (s.home.queue = []) ∧ (u =
  match look? s.clk.wakeInAt ↑n with
  | some t0 => s.reach (t0 + us 122)
  | none => s)) ∧
    (∃ (s : State) (w : RetWrite) (rest : List RetWrite), (s.boot.aux = true) ∧ (s.idleWaits = true) ∧ (s.ret.queue = w :: rest) ∧ (s.wornOut w = false)) ∧
    (∃ (s : State) (w : RetWrite) (rest : List RetWrite), (s.boot.aux = true) ∧ (s.idleWaits = true) ∧ (s.ret.queue = w :: rest) ∧ (s.wornOut w = true)) ∧
    (∃ (s : State) (w : BitVec 16), (s.boot.aux = true) ∧ (s.ret.ue.contains (rawKey w.toNat) = false)) :=
  ⟨⟨(up.onClk (fun c => { c with down := BitVec.ofNat 384 (2 ^ 177), waking := [(177, 4)] })), .engine1 0, by decide +kernel⟩,
   ⟨(up.onClk (fun c => { c with down := BitVec.ofNat 384 (2 ^ 177), waking := [(177, 4)] })), .engine1 0, 4, by decide +kernel⟩,
   ⟨((up.onClk (fun c => { c with down := BitVec.ofNat 384 (2 ^ 177), waking := [(177, 4)] })).setReg pwrPage 0x84 2), 0, ((up.onClk (fun c => { c with down := BitVec.ofNat 384 (2 ^ 177), waking := [(177, 4)] })).setReg pwrPage 0x84 2), by decide +kernel⟩,
   ⟨(upWear 7), { key := 0x1004, val := 5, who := none, at_ := 3 }, [], by decide +kernel⟩,
   ⟨(upWear 4000000), { key := 0x1004, val := 5, who := none, at_ := 3 }, [], by decide +kernel⟩,
   ⟨up, 0x1004, by decide +kernel⟩⟩

set_option maxRecDepth 100000 in
theorem wit_firmwareUpdate :
    (∃ (s : State) (m : Master), s.accepts m fwuOff = true) ∧
    (∃ (s : State) (m : Master), (s.mgmt.switching = none) ∧ (s.mgmt.fwu = FwuState.staged)) ∧
    (∃ (s : State) (m : Master) (i : FwImage), (s.mgmt.switching = none) ∧ (s.mgmt.fwu = FwuState.verified) ∧ (s.slotImage s.mgmt.slotB = some i)) ∧
    (∃ (s : State), (s.mgmt.switching = none) ∧ (s.mgmt.fwu = FwuState.loaded)) ∧
    (∃ (s : State) (m : Master), (s.mgmt.switching = none) ∧ (s.mgmt.fwu = FwuState.loaded)) ∧
    (∃ (s : State), (s.mgmt.switching = none) ∧ (s.mgmt.fwu = FwuState.trial) ∧ (s.ret.queue = []) ∧ (s.ret.ue = [])) ∧
    (∃ (s : State) (m : Master), (s.mgmt.switching = none) ∧ (s.mgmt.fwu = FwuState.trial)) ∧
    (∃ (s : State) (m : Master), (s.mgmt.fwu = FwuState.idle) ∧ (s.mgmt.committed = true)) ∧
    (∃ (s : State) (m : Master), s.mgmt.fwu ≠ FwuState.idle ∨ s.mgmt.committed = false) ∧
    (∃ (s : State), (s.boot.aux = true) ∧ (s.mgmt.fwu = FwuState.trial) ∧ (s.idleWaits = true) ∧ (s.coreDone (Fin.ofNat 2 s.activeCore) = true)) :=
  ⟨⟨(upFwu .staged), (.core 0), by decide +kernel⟩,
   ⟨(upFwu .staged), (.core 0), by decide +kernel⟩,
   ⟨(upFwu .verified), (.core 0), goodImage, by decide +kernel⟩,
   ⟨(upFwu .loaded), by decide +kernel⟩,
   ⟨(upFwu .loaded), .bmc, by decide +kernel⟩,
   ⟨(upFwu .trial), by decide +kernel⟩,
   ⟨(upFwu .trial), .bmc, by decide +kernel⟩,
   ⟨(upFwu .idle), .bmc, by decide +kernel⟩,
   ⟨(upFwu .trial), .bmc, by decide +kernel⟩,
   ⟨(upFwu .trial), by decide +kernel⟩⟩

set_option maxRecDepth 100000 in
theorem wit_configurationApplier :
    (∃ (s : State) (off : BitVec 28) (v : Word), (s.cfgReady = true) ∧ (s.boot.cfgGo = false) ∧ (s.cfgRec = some (CfgRecord.write off v)) ∧ ((s.asleep (off.toNat / 4 * 4)).isNone = true)) ∧
    (∃ (s : State) (off : BitVec 28), (s.cfgReady = true) ∧ (s.cfgRec = some (CfgRecord.commit off)) ∧ (pgSlot (off.toNat / 4096) ≠ 12)) ∧
    (∃ (s : State) (off : BitVec 28), (s.cfgReady = true) ∧ (s.cfgRec = some (CfgRecord.commit off)) ∧ (pgSlot (off.toNat / 4096) = 12) ∧ (s.boot.cfgGo = false) ∧ (s.boot.cfgPend = false)) ∧
    (∃ (s : State) (off : BitVec 28) (v : Word) (mask : Word) (t0 : ℕ), (s.cfgReady = true) ∧ (s.boot.cfgGo = false) ∧ (s.cfgRec = some (CfgRecord.wait off v mask t0)) ∧ (s.now ≤ s.boot.cfgAt + us t0) ∧ ((s.asleep (off.toNat / 4 * 4)).isNone = true) ∧ ((s.readReg applier (off.toNat / 4 * 4)).2.1 ≠ 9)) ∧
    (∃ (s : State) (off : BitVec 28) (v : Word) (mask : Word) (t0 : ℕ), (s.cfgReady = true) ∧ (s.cfgRec = some (CfgRecord.wait off v mask t0))) ∧
    (∃ (s : State), (s.cfgReady = true) ∧ (s.cfgRec = none ∨ s.cfgRec = some CfgRecord.finish)) ∧
    (∃ (s : State), (s.cfgReady = true) ∧ (s.cfgRec = some CfgRecord.reserved)) :=
  ⟨⟨(upCfg (.write 0x00C0080 5)), 0x00C0080, 5, by decide +kernel⟩,
   ⟨(upCfg (.commit 0x00C0080)), 0x00C0080, by decide +kernel⟩,
   ⟨(upCfg (.commit 0xC000080)), 0xC000080, by decide +kernel⟩,
   ⟨(upCfg (.wait 0x00C0080 0 0xFF 3)), 0x00C0080, 0, 0xFF, 3, by decide +kernel⟩,
   ⟨(upCfg (.wait 0x00C0080 0 0xFF 3)), 0x00C0080, 0, 0xFF, 3, by decide +kernel⟩,
   ⟨(upCfg .finish), by decide +kernel⟩,
   ⟨(upCfg .reserved), by decide +kernel⟩⟩

set_option maxRecDepth 100000 in
theorem wit_mailboxCommands :
    (∃ (s : State) (ld : Fin 64) (off : ℕ) (len : ℕ), s.mailboxOpen ↑ld = true) ∧
    (∃ (s : State) (ld : Fin 64), s.mailboxOpen ↑ld = true) ∧
    (∃ (s : State) (ld : Fin 64) (l : ℕ), (s.mailboxOpen ↑ld = true) ∧ (s.linkOf ↑ld = some l)) ∧
    (∃ (s : State) (ld : Fin 64) (dpa : BitVec 46) (lines : ℕ), s.mailboxOpen ↑ld = true) ∧
    (∃ (s : State) (ld : Fin 64) (policy : BitVec 32), s.mailboxOpen ↑ld = true) ∧
    (∃ (s : State) (ld : Fin 64) (ts : BitVec 64), s.mailboxOpen ↑ld = true) ∧
    (∃ (s : State) (ld : Fin 64) (log : Fin 4), s.mailboxOpen ↑ld = true) ∧
    (∃ (s : State) (ld : Fin 64) (log : Fin 4) (handles : List (BitVec 16)), s.mailboxOpen ↑ld = true) ∧
    (∃ (s : State) (ld : Fin 64) (slot : BitVec 2) (last : Bool) (img : FwImage), (s.mailboxOpen ↑ld = true) ∧ (s.fullHost ↑ld = true) ∧ (s.mgmt.fwu = FwuState.idle) ∧ (s.mgmt.img = none) ∧ (slot.toNat = if s.boot.imageB = true then 1 else 2)) ∧
    (∃ (s : State) (ld : Fin 64) (slot : BitVec 2) (last : Bool) (img : FwImage), (s.mailboxOpen ↑ld = true) ∧ (s.fullHost ↑ld = true) ∧ (s.mgmt.fwu ≠ FwuState.idle ∨ s.mgmt.img.isSome = true)) ∧
    (∃ (s : State) (ld : Fin 64) (slot : BitVec 2) (online : Bool), (s.mailboxOpen ↑ld = true) ∧ (s.fullHost ↑ld = true) ∧ (s.mgmt.fwu ≠ FwuState.idle) ∧ (slot.toNat = if s.mgmt.slotB = true then 2 else 1)) ∧
    (∃ (s : State) (ld : Fin 64) (ix : BitVec 16), (s.mailboxOpen ↑ld = true) ∧ (s.fullHost ↑ld = true)) ∧
    (∃ (s : State) (ld : Fin 64) (off : BitVec 28) (wr : Option Word), (s.mailboxOpen ↑ld = true) ∧ (s.fullHost ↑ld = true) ∧ (s.mgmt.mb = none)) ∧
    (∃ (s : State) (ld : Fin 64) (slot : BitVec 2) (last : Bool) (online : Bool) (img : FwImage) (ix : BitVec 16) (off : BitVec 28) (wr : Option Word), (s.mailboxOpen ↑ld = true) ∧ (s.fullHost ↑ld = false)) ∧
    (∃ (s : State) (ld : Fin 64) (opcode : BitVec 16), s.mailboxOpen ↑ld = true) ∧
    (∃ (s : State) (ld : Fin 64) (ts : BitVec 64) (back : Bool), (s.coreServes = true) ∧ ((s.ioLink ↑ld).isSome = true) ∧ (s.mgmt.switching = some back)) :=
  ⟨⟨upFm, 0, 0, 0, by decide +kernel⟩,
   ⟨upFm, 0, by decide +kernel⟩,
   ⟨upFm, 0, 0, by decide +kernel⟩,
   ⟨upFm, 0, 0, 3, by decide +kernel⟩,
   ⟨upFm, 0, 7, by decide +kernel⟩,
   ⟨upFm, 0, 7, by decide +kernel⟩,
   ⟨upFm, 0, 1, by decide +kernel⟩,
   ⟨(upFm.onLd 0 (fun d => { d with evtLog := [⟨4, 1, rec0⟩] })), 0, 1, [4], by decide +kernel⟩,
   ⟨upFm, 0, 2, true, goodImage, by decide +kernel⟩,
   ⟨(upFm.onMgmt (fun g => { g with fwu := .staged })), 0, 2, true, goodImage, by decide +kernel⟩,
   ⟨(upFm.onMgmt (fun g => { g with fwu := .staged, slotB := true })), 0, 2, false, by decide +kernel⟩,
   ⟨upFm, 0, 5, by decide +kernel⟩,
   ⟨upFm, 0, 0x0FFF000, none, by decide +kernel⟩,
   ⟨{ upFm with ret := { words := [(backKey (winOff dillPage 0x8C), 5)] } }, 0, 1, true, true, goodImage, 0, 0, none, by decide +kernel⟩,
   ⟨upFm, 0, 0x77, by decide +kernel⟩,
   ⟨(upFm.onMgmt (fun g => { g with switching := some false })), 0, 6, false, by decide +kernel⟩⟩

set_option maxRecDepth 100000 in
theorem wit_sidebandMctpAndTap :
    (∃ (s : State), s.boot.aux = true) ∧
    (∃ (s : State), (s.boot.aux = true) ∧ (s.mgmt.i3c = false)) ∧
    (∃ (s : State), (s.boot.aux = true) ∧ (s.mgmt.i3c = true)) ∧
    (∃ (s : State) (len : ℕ), (s.boot.aux = true) ∧ (s.mgmt.transfer = false) ∧ (s.mgmt.img = none) ∧ (s.bootFailed = true ∨ s.mgmt.fwu = FwuState.idle)) ∧
    (∃ (s : State) (off : ℕ) (len : ℕ) (got : ℕ) (words : List Word), (s.boot.aux = true) ∧ (s.mgmt.img = some (len, got))) ∧
    (∃ (s : State) (off : ℕ) (words : List Word) (img : FwImage), (s.boot.aux = true) ∧ (s.mgmt.img = none)) ∧
    (∃ (s : State) (len : ℕ) (got : ℕ) (img : FwImage), (s.boot.aux = true) ∧ (s.mgmt.img = some (len, got))) ∧
    (∃ (s : State) (msg : MctpMsg), (s.boot.aux = true) ∧ (s.coreServes = true) ∧ (s.mgmt.switching = none)) ∧
    (∃ (s : State), s.boot.aux = true) ∧
    (∃ (s : State) (op : TapOp), op = TapOp.extest ∨ op = TapOp.clamp) :=
  ⟨⟨up, by decide +kernel⟩,
   ⟨up, by decide +kernel⟩,
   ⟨(up.onMgmt (fun g => { g with i3c := true })), by decide +kernel⟩,
   ⟨up, 516, by decide +kernel⟩,
   ⟨(up.onMgmt (fun g => { g with img := some (516, 4) })), 4, 516, 4, [5], by decide +kernel⟩,
   ⟨up, 0, [], goodImage, by decide +kernel⟩,
   ⟨(up.onMgmt (fun g => { g with img := some (514, 514) })), 514, 514, goodImage, by decide +kernel⟩,
   ⟨upFm, .getMessageTypeSupport, by decide +kernel⟩,
   ⟨upFm, by decide +kernel⟩,
   ⟨{ boot := { st := 6 } }, .clamp, by decide +kernel⟩⟩

set_option maxRecDepth 100000 in
theorem wit_powerPathInputAndTrips :
    (∃ (s : State) (mV : ℕ), (s.boot.aux = true) ∧ (s.ovMv < mV)) ∧
    (∃ (s : State) (mV : ℕ), (s.boot.aux = true) ∧ (mV < s.uvMv)) ∧
    (∃ (s : State) (mV : ℕ), (s.boot.aux = true) ∧ (s.hsc.vinOk = false) ∧ (s.uvMv + 200 ≤ mV) ∧ (mV + 200 ≤ s.ovMv)) ∧
    (∃ (s : State), (s.hsc.st = HscState.insDelay) ∧ (s.hsc.vinOk = true)) ∧
    (∃ (s : State) (vinMv : ℕ) (voutMv : ℕ), (s.hsc.st = HscState.ramp) ∧ (vinMv ≤ voutMv + 300)) ∧
    (∃ (s : State), s.hsc.st = HscState.ramp) ∧
    (∃ (s : State), (s.hsc.gateUp = true) ∧ (s.hsc.limit = none)) ∧
    (∃ (s : State), s.hsc.gateUp = false) ∧
    (∃ (s : State) (t0 : ℕ), (s.hsc.limit = some t0) ∧ (s.hsc.gateUp = true)) ∧
    (∃ (s : State), s.hsc.gateUp = true) ∧
    (∃ (s : State) (vinMv : ℕ) (voutMv : ℕ) (iMa : ℕ) (ntc : Option ℤ) (dieC : ℤ), s.boot.aux = true) ∧
    (∃ (s : State) (n : ℕ) (k : ℕ) (x : ℚ) (target : ℚ), k ≠ 0) ∧
    (∃ (s : State), (s.boot.aux = true) ∧ (s.cfgBit fetPage 128 2 = true)) ∧
    (∃ (s : State) (degC : ℤ), s.hsc.ntcFault = true) ∧
    (∃ (s : State), (s.boot.aux = true) ∧ (s.hsc.gateUp = false) ∧ (s.hsc.disc = false)) ∧
    (∃ (s : State), (s.hsc.st = HscState.retryWait) ∧ (s.hsc.vinOk = true) ∧ (s.cooled s.hsc.cause = true)) ∧
    (∃ (s : State), (s.hsc.st = HscState.coolWait) ∧ (s.cooled (fieldOf s.tripRec 10 3) = true)) :=
  ⟨⟨(upHsc { st := .on }), 15000, by decide +kernel⟩,
   ⟨(upHsc { st := .on }), 9000, by decide +kernel⟩,
   ⟨up, 12000, by decide +kernel⟩,
   ⟨(upHsc { st := .insDelay }), by decide +kernel⟩,
   ⟨(upHsc { st := .ramp }), 12000, 11700, by decide +kernel⟩,
   ⟨(upHsc { st := .ramp, retries := 15 }), by decide +kernel⟩,
   ⟨(upHsc { st := .on }), by decide +kernel⟩,
   ⟨(upHsc { st := .idle }), by decide +kernel⟩,
   ⟨(upHsc { st := .on, limit := some 7, breaker := 3 }), 7, by decide +kernel⟩,
   ⟨(upHsc { st := .ramp }), by decide +kernel⟩,
   ⟨(upHsc { st := .on }), 12000, 11000, 5000, none, 40, by decide +kernel⟩,
   ⟨up, 0, 4, 1, 2, by decide +kernel⟩,
   ⟨{ upHsc { st := .on } with ret := { words := [(backKey (winOff fetPage 0x80), 4)] } }, by decide +kernel⟩,
   ⟨(upHsc { st := .on, ntcFault := true }), 44, by decide +kernel⟩,
   ⟨(upHsc { st := .idle, gateOff := 5 }), by decide +kernel⟩,
   ⟨(upHsc { st := .retryWait, waitEnd := 88 }), by decide +kernel⟩,
   ⟨(upHsc { st := .coolWait, waitEnd := 88 }), by decide +kernel⟩⟩

set_option maxRecDepth 100000 in
theorem wit_powerPathCommandsAndPowerGood :
    (∃ (s : State) (m : Master), s.accepts m hscCmd = true) ∧
    (∃ (s : State) (m : Master) (v : ℕ), s.accepts m hscCmd = true) ∧
    (∃ (s : State) (v : ℕ), s.hsc.st = HscState.idle) ∧
    (∃ (s : State) (v : ℕ), (s.hsc.st = HscState.idle) ∧ (fieldOf s.tripRec 9 1 = 0) ∧ (s.hsc.refused = false) ∧ (fieldOf s.tripRec 8 1 = 1)) ∧
    (∃ (s : State) (v : ℕ), s.hsc.st = HscState.stopped) ∧
    (∃ (s : State) (v : ℕ), s.hsc.gateUp = true ∨ s.hsc.st = HscState.insDelay ∨ s.hsc.st = HscState.retryWait) ∧
    (∃ (s : State) (v : ℕ), s.hsc.st = HscState.latched) ∧
    (∃ (s : State) (v : ℕ), (s.hsc.st = HscState.short) ∧ (v < 1000)) ∧
    (∃ (s : State) (voutMv : ℕ) (gateMv : ℕ), (s.hsc.st = HscState.on) ∧ (s.hsc.pg = true)) ∧
    (∃ (s : State) (voutMv : ℕ) (gateMv : ℕ), (s.hsc.st = HscState.on) ∧ (s.hsc.pg = false) ∧ (s.hsc.limit = none)) ∧
    (∃ (s : State) (voutMv : ℕ) (gateMv : ℕ) (inLimit : Bool), s.boot.aux = true) ∧
    (∃ (s : State) (t0 : ℕ), s.hsc.pgOutAt = some t0) :=
  ⟨⟨(upHsc { st := .idle }), .bmc, by decide +kernel⟩,
   ⟨(upHsc { st := .idle }), .bmc, 4, by decide +kernel⟩,
   ⟨(upHsc { st := .idle }), 0, by decide +kernel⟩,
   ⟨({ upHsc { st := .idle } with ret := { words := [(0xA08, 0x107)] } }), 0, by decide +kernel⟩,
   ⟨(upHsc { st := .stopped }), 0, by decide +kernel⟩,
   ⟨(upHsc { st := .on }), 0, by decide +kernel⟩,
   ⟨(upHsc { st := .latched, retries := 3 }), 0, by decide +kernel⟩,
   ⟨(upHsc { st := .short, disc := true }), 3, by decide +kernel⟩,
   ⟨(upHsc { st := .on, pg := true }), 10499, 20000, by decide +kernel⟩,
   ⟨(upHsc { st := .on, pgTicks := 4999 }), 11000, 19000, by decide +kernel⟩,
   ⟨(upHsc { st := .on, pgTicks := 9 }), 11000, 19000, false, by decide +kernel⟩,
   ⟨(upHsc { st := .on, pg := true, pgOutAt := some 4 }), 4, by decide +kernel⟩⟩

set_option maxRecDepth 100000 in
theorem wit_startUpRailsAndResets :
    (∃ (s : State) (b : Board), s.boot.aux = true) ∧
    (∃ (s : State), s.boot.aux = true) ∧
    (∃ (s : State) (k : Fin 7), (s.sequencing ↑k = true) ∧ (s.railAddr ↑k ≠ 0) ∧ (s.boot.railOn.contains ↑k = false)) ∧
    (∃ (s : State) (k : Fin 7), (s.sequencing ↑k = true) ∧ (s.railAddr ↑k = 0 ∨ s.boot.railOn.contains ↑k = true)) ∧
    (∃ (s : State) (k : Fin 7), s.sequencing ↑k = true) ∧
    (∃ (s : State) (k : Fin 7), s.boot.railDown = [↑k]) ∧
    (∃ (s : State) (k : Fin 7) (j : ℕ) (r : List ℕ), s.boot.railDown = ↑k :: j :: r) ∧
    (∃ (s : State) (t0 : ℕ), s.boot.railsOffAt = some t0) ∧
    (∃ (s : State), (s.boot.trained = true) ∧ (s.boot.released = false) ∧ (s.boot.st ≠ 4)) ∧
    (∃ (s : State) (m : Master), s.accepts m rstCtrl = true) ∧
    (∃ (s : State) (m : Master) (slot : BitVec 4), s.accepts m rstCtrl = true) ∧
    (∃ (s : State) (m : Master) (op : ℕ) (slot : ℕ), (1 ≤ op) ∧ (op ≤ 5) ∧ (op ≠ 4) ∧ (s.boot.st ≠ 3 ∨ s.boot.entering = true)) ∧
    (∃ (s : State) (m : Master), (s.boot.st = 3) ∧ (s.boot.entering = false)) ∧
    (∃ (s : State) (m : Master), (s.boot.st = 0) ∧ (s.boot.entering = false)) ∧
    (∃ (s : State) (m : Master), s.boot.entering = true) ∧
    (∃ (s : State) (m : Master), (s.boot.st ≠ 0) ∧ (s.boot.entering = false)) ∧
    (∃ (s : State) (m : Master) (slot : ℕ), (s.boot.st = 3) ∧ (s.boot.entering = false)) :=
  ⟨⟨upMem, board0, by decide +kernel⟩,
   ⟨upMem, by decide +kernel⟩,
   ⟨(upRail []), 0, by decide +kernel⟩,
   ⟨(upRail [0]), 0, by decide +kernel⟩,
   ⟨(upRail [0]), 0, by decide +kernel⟩,
   ⟨((upRail []).onBoot (fun b => { b with railDown := [3] })), 3, by decide +kernel⟩,
   ⟨((upRail []).onBoot (fun b => { b with railDown := [3, 1] })), 3, 1, [], by decide +kernel⟩,
   ⟨((upRail []).onBoot (fun b => { b with railsOffAt := some 9 })), 9, by decide +kernel⟩,
   ⟨{ (upCfg .finish) with boot := { (upCfg .finish).boot with released := false } }, by decide +kernel⟩,
   ⟨(upLock 2), .bmc, by decide +kernel⟩,
   ⟨(upLock 2), .bmc, 9, by decide +kernel⟩,
   ⟨(upRail []), .bmc, 5, 9, by decide +kernel⟩,
   ⟨up, .bmc, by decide +kernel⟩,
   ⟨(up.onBoot (fun b => { b with st := 0 })), .bmc, by decide +kernel⟩,
   ⟨(up.onBoot (fun b => { b with st := 0, entering := true })), .bmc, by decide +kernel⟩,
   ⟨up, .bmc, by decide +kernel⟩,
   ⟨up, .bmc, 3, by decide +kernel⟩⟩

set_option maxRecDepth 100000 in
theorem wit_crystalsRefAndLoops :
    (∃ (s : State) (x : Fin 2), (s.boot.aux = true) ∧ (s.fitted (↑x == 1) = true) ∧ ((s.xtal (↑x == 1)).ok = false)) ∧
    (∃ (s : State) (x : Fin 2), (s.boot.aux = true) ∧ (s.fitted (↑x == 1) = true) ∧ ((s.xtal (↑x == 1)).ok = false)) ∧
    (∃ (s : State), s.boot.board.xtalB = false) ∧
    (∃ (s : State), (s.boot.aux = true) ∧ (s.clk.refOn = false)) ∧
    (∃ (s : State), (s.boot.aux = true) ∧ (s.clk.refOn = false)) ∧
    (∃ (s : State) (x : Fin 2), (s.clk.refOn = true) ∧ (s.clk.refB = (↑x == 1)) ∧ ((s.xtal s.clk.refB).ok = true)) ∧
    (∃ (s : State), s.boot.aux = true) ∧
    (∃ (s : State) (n : ℕ) (lost : Option ℕ), ((s.loop n).locked = true) ∧ ((s.loop n).coast = false)) ∧
    (∃ (s : State) (n : Fin 40), ((s.loop ↑n).coast = true) ∧ (s.refGood = true ∨ 36 ≤ ↑n)) ∧
    (∃ (s : State), (s.clk.refOn = true) ∧ (s.cfgBit clkPage 128 1 = true) ∧ ((s.xtal !s.clk.refB).ok = true)) ∧
    (∃ (s : State) (m : Master), s.accepts m clkCfg = true) ∧
    (∃ (s : State), (s.clk.refOn = true) ∧ ((s.xtal !s.clk.refB).ok = true)) ∧
    (∃ (s : State), s.clk.refOn = false ∨ (s.xtal !s.clk.refB).ok = false) ∧
    (∃ (s : State) (t0 : ℕ), ((s.xtal s.prefB).since = some t0) ∧ (s.clk.refOn = true) ∧ (s.cfgBit clkPage 128 2 = true) ∧ (s.clk.refB ≠ s.prefB)) ∧
    (∃ (s : State) (n : Fin 40) (t0 : ℕ), (s.loop ↑n).lostAt = some t0) ∧
    (∃ (s : State), s.refGood = true) ∧
    (∃ (s : State), s.refGood = false) ∧
    (∃ (s : State), (s.boot.step = 7) ∧ (s.boot.main = true) ∧ (s.refGood = true)) :=
  ⟨⟨up, 1, by decide +kernel⟩,
   ⟨up, 0, by decide +kernel⟩,
   ⟨(up.onBoot (fun b => { b with board := { b.board with xtalB := false } })), by decide +kernel⟩,
   ⟨(up.withClk { xb := { ok := true } }), by decide +kernel⟩,
   ⟨up, by decide +kernel⟩,
   ⟨(upClk false), 0, by decide +kernel⟩,
   ⟨(upClk false), by decide +kernel⟩,
   ⟨(upClk false), 3, some 4, by decide +kernel⟩,
   ⟨(upClk true), 3, by decide +kernel⟩,
   ⟨(upClk false), by decide +kernel⟩,
   ⟨(upLock 3), .core 0, by decide +kernel⟩,
   ⟨(upClk false), by decide +kernel⟩,
   ⟨up, by decide +kernel⟩,
   ⟨(((upClk false).withClk { (upClk false).clk with refB := true }).setReg clkPage 0x80 4), 1, by decide +kernel⟩,
   ⟨(upClk true), 3, 9, by decide +kernel⟩,
   ⟨(upClk true), by decide +kernel⟩,
   ⟨up, by decide +kernel⟩,
   ⟨((upClk true).onBoot (fun b => { b with step := 7 })), by decide +kernel⟩⟩

set_option maxRecDepth 100000 in
theorem wit_gatingSourcesAndSubdomains :
    (∃ (s : State) (d : Fin 384), (↑d ∉ [370, 371, 380, 381]) ∧ (s.boot.main = true ∨ 366 ≤ ↑d ∧ ↑d ≠ 379) ∧ (s.clk.down.getLsbD ↑d = false) ∧ (s.domWork ↑d = false) ∧ (0 < s.khzOf (s.gateClock ↑d))) ∧
    (∃ (s : State) (d : Fin 384), ↑d ∈ [370, 371, 380, 381] ∨
  s.clk.down.getLsbD ↑d = true ∨
    s.domWork ↑d = true ∨ s.boot.main = false ∧ (↑d < 366 ∨ ↑d = 379) ∨ s.khzOf (s.gateClock ↑d) = 0) ∧
    (∃ (s : State) (d : Fin 384), s.clk.gated.getLsbD ↑d = true) ∧
    (∃ (s : State) (m : Master) (d : BitVec 9) (src : BitVec 2), s.accepts m dselOff = true) ∧
    (∃ (s : State) (d : ℕ) (src : ℕ), (366 ≤ d ∧ d ≤ 369 ∨ 372 ≤ d ∧ d ≤ 378) ∧ (src = 1 ∨ src = 2)) ∧
    (∃ (s : State) (d : ℕ) (src : ℕ), (d < 366 ∨ d = 370 ∨ d = 371 ∨ 378 < d) ∧ (src = 1 ∨ src = 2)) ∧
    (∃ (s : State) (d : ℕ) (src : ℕ), src = 0 ∨ src = 3) ∧
    (∃ (s : State) (sd : SubDomain) (u : State), (s.boot.main = true) ∧ (s.sdIdle sd = true) ∧ (s.clk.down.getLsbD (sdDomains sd).1 = false) ∧ (u =
  match look? s.clk.wokeAt (sdDomains sd).1 with
  | some t0 => s.reach (t0 + s.idleTime)
  | none => s)) ∧
    (∃ (s : State) (sd : SubDomain) (u : State), (s.boot.main = true) ∧ (s.sdIdle sd = true) ∧ (s.clk.down.getLsbD (sdDomains sd).1 = false) ∧ (u =
  match look? s.clk.wokeAt (sdDomains sd).1 with
  | some t0 => s.reach (t0 + s.idleTime)
  | none => s)) ∧
    (∃ (s : State) (sd : SubDomain), s.boot.main = false ∨ s.sdIdle sd = false) ∧
    (∃ (s : State) (l : Fin 16) (why : QuadWakeCause), (s.boot.main = true) ∧ (s.present ↑l = true) ∧ (why = QuadWakeCause.idleExit ∨ why = QuadWakeCause.beacon → (s.link ↑l).st = LinkState.l2) ∧ (why = QuadWakeCause.perstRelease → (s.grp (↑l / 4)).perst = false)) :=
  ⟨⟨(upClk false), 5, by decide +kernel⟩,
   ⟨(upClk false), 370, by decide +kernel⟩,
   ⟨((upClk false).withClk { (upClk false).clk with gated := BitVec.ofNat 384 (2 ^ 300) }), 300, by decide +kernel⟩,
   ⟨(upLock 3), .core 0, 366, 2, by decide +kernel⟩,
   ⟨(upClk false), 366, 2, by decide +kernel⟩,
   ⟨(upClk false), 379, 2, by decide +kernel⟩,
   ⟨(upClk false), 379, 3, by decide +kernel⟩,
   ⟨((upClk false).withClk { (upClk false).clk with wokeAt := [(364, 7)] }), .tracer, (((upClk false).withClk { (upClk false).clk with wokeAt := [(364, 7)] }).reach (7 + (upClk false).idleTime)), by decide +kernel⟩,
   ⟨((upClk false).setReg pwrPage 0x80 1), .engine1 2, ((upClk false).setReg pwrPage 0x80 1), by decide +kernel⟩,
   ⟨State.reset, .tracer, by decide +kernel⟩,
   ⟨((upClk false).withClk { (upClk false).clk with down := BitVec.ofNat 384 (2 ^ 248) }), 0, .retrain, by decide +kernel⟩⟩

set_option maxRecDepth 100000 in
theorem wit_cacheMaintenanceAndEnables :
    (∃ (s : State) (m : Master) (c : Fin 2) (k : CacheSel) (how : MaintBy), s.accepts m (mcorePage ↑c * 4096 + 132) = true) ∧
    (∃ (s : State) (j : Fin 2) (c : ℕ) (w : Word), (↑j ≠ c) ∧ ((s.mcore c).halted = false)) ∧
    (∃ (s : State) (m : Master) (c : ℕ) (k : CacheSel) (set : Fin 128) (way : Fin 4), s.mayMaintain m c = true) ∧
    (∃ (s : State) (m : Master) (c : ℕ) (k : CacheSel) (how : MaintBy), (s.mayMaintain m c = true) ∧ (k = CacheSel.instr ∨ (s.mcore c).wbuf = [])) ∧
    (∃ (s : State) (m : Master) (c : ℕ) (how : MaintBy) (w : BufWrite), (s.mayMaintain m c = true) ∧ (w ∈ (s.mcore c).wbuf) ∧ (how = MaintBy.addr → w.addr / 64 = s.cfg (mcorePage c) 136 0 32 / 64)) ∧
    (∃ (s : State) (c : Fin 2), (s.boot.aux = true) ∧ ((s.mcore ↑c).halted = false)) ∧
    (∃ (s : State) (c : Fin 2), (s.mcore ↑c).halted = true) ∧
    (∃ (s : State) (m : Master) (c : Fin 2) (ien : Bool) (den : Bool), s.accepts m (mcorePage ↑c * 4096 + 128) = true) :=
  ⟨⟨(upLocked (mcorePage 0)), .core 0, 0, .data, .addr, by decide +kernel⟩,
   ⟨(upCore 0 {}), 1, 0, 6, by decide +kernel⟩,
   ⟨(upCore 0 { dc := warm }), .core 0, 0, .data, 1, 0, by decide +kernel⟩,
   ⟨(upCore 0 { dc := warm }), .core 0, 0, .data, .addr, by decide +kernel⟩,
   ⟨(upCore 0 { dc := warm, wbuf := [{ addr := 0x10000000, data := [1] }] }), .core 0, 0, (.setWay 1 0), { addr := 0x10000000, data := [1] }, by decide +kernel⟩,
   ⟨(upCore 0 { ic := warm }), 0, by decide +kernel⟩,
   ⟨(upCore 0 { ic := warm }), 1, by decide +kernel⟩,
   ⟨(upLocked (mcorePage 0)), .core 0, 0, true, false, by decide +kernel⟩⟩

set_option maxRecDepth 100000 in
theorem wit_coreLoadsStoresAndTheWriteBuffer :
    (∃ (s : State) (c : Fin 2) (a : BitVec 32) (f : Bool) (z : Fin 4) (d : BitVec 64), s.boot.aux = false ∨ (s.mcore ↑c).halted = true) ∧
    (∃ (s : State) (c : Fin 2) (a : BitVec 32) (f : Bool), (s.coreRuns ↑c = true) ∧ (regionOf a.toNat = none ∨
  f = true ∧ 271581184 ≤ a.toNat ∨ f = false ∧ regionOf a.toNat = some CoreRegion.window ∧ a.toNat % 4 ≠ 0)) ∧
    (∃ (s : State) (c : Fin 2) (a : BitVec 32) (z : Fin 4) (d : BitVec 64), (s.coreRuns ↑c = true) ∧ (regionOf a.toNat ∈ [none, some CoreRegion.rom, some CoreRegion.discard, some CoreRegion.log] ∨
  regionOf a.toNat = some CoreRegion.window ∧ (z ≠ 2 ∨ a.toNat % 4 ≠ 0))) ∧
    (∃ (s : State) (c : Fin 2) (a : BitVec 32) (z : Fin 4) (d : BitVec 64), (s.coreRuns ↑c = true) ∧ (536870912 ≤ a.toNat) ∧ (a.toNat < 536887296)) ∧
    (∃ (s : State) (c : Fin 2) (a : BitVec 32) (f : Bool), (s.coreRuns ↑c = true) ∧ (a.toNat < 65536 ∨ 268435456 ≤ a.toNat ∧ a.toNat < 271581184)) ∧
    (∃ (s : State) (c : Fin 2) (a : BitVec 32) (f : Bool), (s.coreRuns ↑c = true) ∧ (a.toNat < 65536 ∨ 268435456 ≤ a.toNat ∧ a.toNat < 271581184)) ∧
    (∃ (s : State) (c : Fin 2) (a : BitVec 32) (f : Bool), (s.coreRuns ↑c = true) ∧ (a.toNat < 65536 ∨ 268435456 ≤ a.toNat ∧ a.toNat < 271581184)) ∧
    (∃ (s : State) (c : Fin 2) (a : BitVec 32), (s.coreRuns ↑c = true) ∧ (271581184 ≤ a.toNat ∧ a.toNat < 276824064 ∨ 536870912 ≤ a.toNat ∧ a.toNat < 537133056)) ∧
    (∃ (s : State) (c : Fin 2) (a : BitVec 32), (s.coreRuns ↑c = true) ∧ (regionOf a.toNat = some CoreRegion.window) ∧ (a.toNat % 4 = 0)) ∧
    (∃ (s : State) (c : Fin 2) (a : BitVec 32) (z : Fin 4) (d : BitVec 64), (s.coreRuns ↑c = true) ∧ (storeAllowed a.toNat (2 ^ z.val) = 1)) ∧
    (∃ (s : State) (c : Fin 2) (a : BitVec 32) (z : Fin 4) (d : BitVec 64), (s.coreRuns ↑c = true) ∧ (storeAllowed a.toNat (2 ^ z.val) = 1)) ∧
    (∃ (s : State) (c : Fin 2), s.boot.aux = true) ∧
    (∃ (s : State) (c : Fin 2) (w : BufWrite) (r : List BufWrite) (b : ℕ), ((s.mcore ↑c).wbuf = w :: r) ∧ (regionOf w.addr = some CoreRegion.image ∨ regionOf w.addr = some CoreRegion.shared)) ∧
    (∃ (s : State) (c : Fin 2) (w : BufWrite) (r : List BufWrite) (b : ℕ), ((s.mcore ↑c).wbuf = w :: r) ∧ (regionOf w.addr = some CoreRegion.image ∨ regionOf w.addr = some CoreRegion.shared)) ∧
    (∃ (s : State) (c : Fin 2) (w : BufWrite) (r : List BufWrite), ((s.mcore ↑c).wbuf = w :: r) ∧ (regionOf w.addr = some CoreRegion.window ∧ s.inAccess (Master.core c) = true ∨
  regionOf w.addr = some CoreRegion.retained ∧ s.waiting (Master.core c) = true)) :=
  ⟨⟨(upCore 0 {}), 1, 4, false, 2, 5, by decide +kernel⟩,
   ⟨(upCore 0 {}), 0, 0x10400000, true, by decide +kernel⟩,
   ⟨(upCore 0 {}), 0, 0x40000002, 2, 5, by decide +kernel⟩,
   ⟨(upCore 0 {}), 0, 0x20003FFF, 3, 5, by decide +kernel⟩,
   ⟨(upCore 0 { dc := warm }), 0, 0x10000044, false, by decide +kernel⟩,
   ⟨(upCore 0 { dc := warm }), 0, 0x10000088, false, by decide +kernel⟩,
   ⟨(upCore 0 {}), 0, 0x10000088, true, by decide +kernel⟩,
   ⟨(upCore 0 {}), 0, 0x10300008, by decide +kernel⟩,
   ⟨(upCore 0 {}), 0, 0x4FFFFFFC, by decide +kernel⟩,
   ⟨(upCore 0 { dc := warm, wbuf := List.replicate 8 { addr := 0x10000040, data := [1, 2] } }), 0, 0x10000044, 2, 77, by decide +kernel⟩,
   ⟨{ upCore 0 { wbuf := List.replicate 8 { addr := 0x40000040, data := [1, 2, 3, 4] } } with ret := { queue := [{ key := 0x1004, val := 5, who := some (.core 0), at_ := 3 }] } }, 0, 0x10000044, 2, 77, by decide +kernel⟩,
   ⟨(upCore 0 {}), 0, by decide +kernel⟩,
   ⟨(upCore 0 { wbuf := [{ addr := 0x10000040, data := [1, 2] }] }), 0, { addr := 0x10000040, data := [1, 2] }, [], 0x10000041, by decide +kernel⟩,
   ⟨(upCore 0 { wbuf := [{ addr := 0x10000040, data := [1, 2] }], stall := some { addr := 0x10000048, data := [7] } }), 0, { addr := 0x10000040, data := [1, 2] }, [], 0x10000041, by decide +kernel⟩,
   ⟨{ upCore 0 { wbuf := [{ addr := 0x40000040, data := [1, 2, 3, 4] }] } with ret := { queue := [{ key := 0x1004, val := 5, who := some (.core 0), at_ := 3 }] } }, 0, { addr := 0x40000040, data := [1, 2, 3, 4] }, [], by decide +kernel⟩⟩

set_option maxRecDepth 100000 in
theorem wit_sensorsEnergyAndMargins :
    (∃ (s : State) (r : SensorSample), s.boot.aux = true) ∧
    (∃ (s : State) (n : Fin 24), (s.boot.aux = true) ∧ (↑n ≠ 23) ∧ (s.sensorOn ↑n = true)) ∧
    (∃ (s : State) (n : ℕ), (s.boot.aux = true) ∧ (s.mgmt.sampled = true) ∧ (n < 64)) ∧
    (∃ (s : State), s.mgmt.sampled = false) :=
  ⟨⟨(upSens 0), { vin := 48000, iin := 800, die := [(2, 90), (9, 420)], railV := [(3, 900)], railI := [(2, 5)] }, by decide +kernel⟩,
   ⟨(upSens 0), 22, by decide +kernel⟩,
   ⟨(upSens 420000), 5, by decide +kernel⟩,
   ⟨up, by decide +kernel⟩⟩

set_option maxRecDepth 100000 in
theorem wit_eventsAndTheLog :
    (∃ (s : State) (src : BitVec 10) (why : EventCause), s.boot.aux = true) ∧
    (∃ (s : State) (e : Ev), definedSource e.src = false ∨ s.boot.st = 0 ∧ 128 ≤ e.src) ∧
    (∃ (s : State) (e : Ev), (definedSource e.src = true) ∧ (s.boot.st ≠ 0 ∨ e.src < 128)) ∧
    (∃ (s : State) (e : Ev), (definedSource e.src = true) ∧ (s.boot.st ≠ 0 ∨ e.src < 128)) ∧
    (∃ (s : State) (e : Ev), (definedSource e.src = true) ∧ (s.boot.st ≠ 0 ∨ e.src < 128)) ∧
    (∃ (s : State) (e : Ev), (definedSource e.src = true) ∧ (s.boot.st ≠ 0 ∨ e.src < 128)) ∧
    (∃ (s : State) (w : LogWait) (r : List LogWait), (s.boot.aux = true) ∧ (s.evt.queue = w :: r)) ∧
    (∃ (s : State), s.evt.queue = []) ∧
    (∃ (s : State) (b : ℕ) (i : ℕ) (v : Word), i < 768) ∧
    (∃ (s : State) (b : ℕ) (i : ℕ) (v : Word), (b < 24) ∧ (i < 768)) ∧
    (∃ (s : State) (b : ℕ) (k : ℕ) (v : Word), (b < 24) ∧ (k < 32) ∧ (definedSource (32 * b + k) = true) ∧ (s.evEnabled (32 * b + k) = false) ∧ (s.evt.pend.getLsbD (32 * b + k) = true) ∧ (BitVec.getLsbD v k = true) ∧ ((s.routeOf (32 * b + k)).getLsbD 2 = true) ∧ (s.mgmt.i3c = false)) ∧
    (∃ (s : State) (b : ℕ) (k : ℕ) (v : Word), (b < 24) ∧ (k < 32) ∧ (definedSource (32 * b + k) = true) ∧ (s.evEnabled (32 * b + k) = false) ∧ (s.evt.pend.getLsbD (32 * b + k) = true) ∧ (BitVec.getLsbD v k = true) ∧ ((s.routeOf (32 * b + k)).getLsbD 2 = true) ∧ (s.mgmt.i3c = false)) ∧
    (∃ (s : State) (p : ℕ) (b : ℕ) (v : ℕ), (ownedBlock p = some b) ∧ (b < 24)) ∧
    (∃ (s : State) (x : BitVec 14) (k : ℕ), k < 768) :=
  ⟨⟨up, 5, { site := 3, code := 4, subject := 5, ld := some 2 }, by decide +kernel⟩,
   ⟨up, { src := 7, site := 3 }, by decide +kernel⟩,
   ⟨up, { src := 5, site := 3 }, by decide +kernel⟩,
   ⟨(up.withEvt { route := [(5, 4)] }), { src := 5, site := 3 }, by decide +kernel⟩,
   ⟨(up.withEvt { queue := List.replicate 1023 { rec_ := rec0, dest := [] } }), { src := 5, site := 3 }, by decide +kernel⟩,
   ⟨(up.withEvt { queue := List.replicate 1024 { rec_ := rec0, dest := [] } }), { src := 0, site := 3, fault := true, cls := 5 }, by decide +kernel⟩,
   ⟨(up.withEvt { queue := [{ rec_ := rec0, dest := [4] }], wptr := 65535 }), { rec_ := rec0, dest := [4] }, [], by decide +kernel⟩,
   ⟨up, by decide +kernel⟩,
   ⟨(up.withEvt { pend := BitVec.ofNat 768 (2 ^ 32 + 2 ^ 33 + 1) }), 1, 33, 2, by decide +kernel⟩,
   ⟨up, 1, 44, 2, by decide +kernel⟩,
   ⟨(up.withEvt { pend := BitVec.ofNat 768 (2 ^ 24), enFlip := BitVec.ofNat 768 (2 ^ 24) }), 0, 24, 0x1000000, by decide +kernel⟩,
   ⟨(up.withEvt { pend := BitVec.ofNat 768 (2 ^ 24), enFlip := BitVec.ofNat 768 (2 ^ 24), queue := [{ rec_ := { rec0 with source := 24 }, dest := [] }] }), 0, 24, 0x1000000, by decide +kernel⟩,
   ⟨up, 0x0FFF, 0, (5 + 32 * 77), by decide +kernel⟩,
   ⟨(up.setReg evrPage 0x80 44), 77, 44, by decide +kernel⟩⟩

set_option maxRecDepth 100000 in
theorem wit_faultReportsAndRecovery :
    (∃ (s : State) (k : BitVec 4), (s.boot.aux = true) ∧ (s.powered (chipletPage k.toNat) = true) ∧ (portSlot k.toNat = true)) ∧
    (∃ (s : State), s.boot.aux = true) ∧
    (∃ (s : State) (site : BitVec 24) (cls : FaultClass) (row : BitVec 16) (col : BitVec 16) (cause : BitVec 8), (s.boot.aux = true) ∧ (s.powered (pageOfSite site.toNat) = true) ∧ (ozCode site.toNat = true) ∧ (pgSlot (pageOfSite site.toNat) = 1 → s.hsc.linkLost = false)) ∧
    (∃ (s : State) (u : ℕ), u ≠ devRec) ∧
    (∃ (s : State) (m : Master) (site : BitVec 24) (cls : BitVec 3), s.accepts m (fcPage * 4096 + 152) = true) ∧
    (∃ (s : State) (m : Master) (op : ℕ), (1 ≤ op) ∧ (op ≤ 3) ∧ (s.siteCode (s.cfg fcPage 152 0 24) = false) ∧ (op = 3 → s.cfgBit fcPage 128 4 = true)) ∧
    (∃ (s : State) (m : Master), s.cfgBit fcPage 128 4 = false) ∧
    (∃ (s : State) (m : Master) (p : BitVec 16), s.accepts m (p.toNat * 4096 + 60) = true) ∧
    (∃ (s : State) (u : State), (s.boot.aux = true) ∧ (s.flt.rcntDirty ≠ []) ∧ (u = s.reach (s.flt.rcntAt + sec 3600))) :=
  ⟨⟨up, 8, by decide +kernel⟩,
   ⟨up, by decide +kernel⟩,
   ⟨up, 0x880000, .c, 1, 2, 3, by decide +kernel⟩,
   ⟨(upRec false 2), (unitOf 0x8800), by decide +kernel⟩,
   ⟨(upLocked fcPage), .core 0, 0x880000, 3, by decide +kernel⟩,
   ⟨(up.setReg fcPage 0x98 0xF00000), .core 0, 1, by decide +kernel⟩,
   ⟨up, .core 0, by decide +kernel⟩,
   ⟨(upLocked 0x8800), .core 0, 0x8800, by decide +kernel⟩,
   ⟨(up.withFlt { up.flt with rcnt := [(1, 5), (2, 9)], rcntDirty := [1, 2], rcntAt := 7 }), ((up.withFlt { up.flt with rcnt := [(1, 5), (2, 9)], rcntDirty := [1, 2], rcntAt := 7 }).reach (7 + sec 3600)), by decide +kernel⟩⟩

set_option maxRecDepth 100000 in
theorem wit_countersAndTheTraceRing :
    (∃ (s : State) (m : Master) (p : BitVec 16) (v : Word), s.accepts m (p.toNat * 4096 + 64) = true) ∧
    (∃ (s : State) (m : Master) (run : Bool), s.accepts m gctlOff = true) ∧
    (∃ (s : State) (v : Word) (p : ℕ), (BitVec.getLsbD v 1 = true) ∧ (p ∈ List.map (fun x => x.1) s.obs.pmc) ∧ (s.cfgBit p 64 9 = true)) ∧
    (∃ (s : State) (p : BitVec 16) (k : Fin 8), s.cycleEnd p.toNat ↑k = none) ∧
    (∃ (s : State) (p : BitVec 16) (k : Fin 8) (t0 : ℕ), s.cycleEnd p.toNat ↑k = some t0) ∧
    (∃ (s : State) (r : TraceRec) (q : List TraceRec), (s.obs.buf = r :: q) ∧ (s.trcBlocked = false)) ∧
    (∃ (s : State) (r : TraceRec) (q : List TraceRec), (s.obs.buf = r :: q) ∧ (s.trcBlocked = true)) ∧
    (∃ (s : State), s.obs.buf = []) :=
  ⟨⟨(upLocked trcPage), .core 0, (BitVec.ofNat 16 trcPage), 5, by decide +kernel⟩,
   ⟨(upLocked trcPage), .core 0, true, by decide +kernel⟩,
   ⟨(upPmc.setReg 0x8801 0x40 0x201), 2, 0x8801, by decide +kernel⟩,
   ⟨upPmc, 0x8801, 1, by decide +kernel⟩,
   ⟨upCycles, (BitVec.ofNat 16 fcPage), 0, (upCycles.cycleEnd fcPage 0).getD 0, by decide +kernel⟩,
   ⟨(up.withObs { buf := [trace0], dropFlag := true, wptr := 65534 }), trace0, [], by decide +kernel⟩,
   ⟨(up.withObs { buf := [trace0], wptr := 65535 }), trace0, [], by decide +kernel⟩,
   ⟨up, by decide +kernel⟩⟩

set_option maxRecDepth 100000 in
theorem wit_commitsOfStagedValues :
    (∃ (s : State) (m : Master) (p : BitVec 16), s.accepts m (p.toNat * 4096 + 32) = true) ∧
    (∃ (s : State) (m : Master) (p : ℕ), s.toTake p = false) ∧
    (∃ (s : State) (m : Master) (p : ℕ), (s.toTake p = true) ∧ ((s.asleep (p * 4096 + 32)).isNone = true)) ∧
    (∃ (s : State) (m : Master) (p : ℕ), (s.toTake p = true) ∧ ((s.asleep (p * 4096 + 32)).isSome = true)) ∧
    (∃ (s : State) (p : BitVec 16), s.regs.pending.contains p.toNat = false) ∧
    (∃ (s : State) (p : BitVec 16), (s.regs.pending.contains p.toNat = true) ∧ (p.toNat ≠ amapPage)) ∧
    (∃ (s : State) (p : BitVec 16) (off : ℕ) (v : Word) (r : Reg), (s.regs.pending.contains p.toNat = true) ∧ (p.toNat ≠ amapPage) ∧ (s.regs.going = [(off, v)]) ∧ (off / 4096 = p.toNat) ∧ (regAt off = some r)) ∧
    (∃ (old : ℕ) (new : ℕ) (mask : ℕ) (b : ℕ), b < 32) ∧
    (∃ (s : State) (m : Master) (p : ℕ), s.regs.pending.contains p = true) ∧
    (∃ (s : State) (m : Master) (p : ℕ), s.regs.pending.contains p = false) :=
  ⟨⟨(upLocked trcPage), .core 0, (BitVec.ofNat 16 trcPage), by decide +kernel⟩,
   ⟨up, .bmc, trcPage, by decide +kernel⟩,
   ⟨(upStaged [] []), .bmc, trcPage, by decide +kernel⟩,
   ⟨((upStaged [] []).onClk (fun c => { c with down := BitVec.ofNat 384 (2 ^ 364 + 2 ^ 365) })), .bmc, trcPage, by decide +kernel⟩,
   ⟨up, (BitVec.ofNat 16 trcPage), by decide +kernel⟩,
   ⟨(upStaged [trcPage] [(trcPage * 4096 + 0x80, 4)]), (BitVec.ofNat 16 trcPage), by decide +kernel⟩,
   ⟨(upStaged [trcPage] [(trcPage * 4096 + 0x80, 4)]), (BitVec.ofNat 16 trcPage), (trcPage * 4096 + 0x80), 4, (regsTrc[0]'(by decide)), by decide +kernel⟩,
   ⟨5, 2, 3, 1, by decide +kernel⟩,
   ⟨(upStaged [trcPage] []), .bmc, trcPage, by decide +kernel⟩,
   ⟨(upStaged [] []), .bmc, trcPage, by decide +kernel⟩⟩

set_option maxRecDepth 100000 in
theorem wit_locksHoldAndManagementFunction :
    (∃ (s : State) (m : Master) (p : BitVec 16) (lease : BitVec 8), s.accepts m (p.toNat * 4096 + 36) = true) ∧
    (∃ (s : State) (m : Master) (p : ℕ), (∀ (c : Fin 2), m ≠ Master.core c) ∧ (s.lockOf p ≠ ownerCode m)) ∧
    (∃ (s : State) (p : BitVec 16) (k : PageLock), look? s.regs.locks p.toNat = some k) ∧
    (∃ (s : State) (p : BitVec 16), look? s.regs.locks p.toNat = none) ∧
    (∃ (s : State) (m : Master) (p : BitVec 16) (hold : Bool), s.accepts m (p.toNat * 4096 + 12) = true) ∧
    (∃ (s : State) (m : Master) (ld : BitVec 6), s.accepts m devMgmt = true) :=
  ⟨⟨(upLocked trcPage), .core 0, (BitVec.ofNat 16 trcPage), 3, by decide +kernel⟩,
   ⟨(upLock 1), .bmc, dillPage, by decide +kernel⟩,
   ⟨(up.withRegs { up.regs with locks := [(5, { owner := 3, lease := 2, last := 7 })] }), 5, { owner := 3, lease := 2, last := 7 }, by decide +kernel⟩,
   ⟨up, 5, by decide +kernel⟩,
   ⟨up, .core 0, (BitVec.ofNat 16 trcPage), true, by decide +kernel⟩,
   ⟨(upLock 3), .core 0, 4, by decide +kernel⟩⟩

/-- Commands that answer a next state. -/
theorem wit_framesOfHostPortCommands :
    (∃ t, exec (.l1Entry 0) up = .next t) ∧
    (∃ t, exec (.perstNRelease 0) up = .next t) ∧
    (∃ t, exec (.configRequest 0 4 (.read 0)) up = .next t) :=
  ⟨⟨_, rfl⟩, ⟨_, rfl⟩, ⟨_, rfl⟩⟩

/-- Commands that answer a next state. -/
theorem wit_framesOfMemoryCommands :
    (∃ t, exec (.ceWindowStep 0) up = .next t) ∧
    (∃ t, exec (.memrd 0 0 0x1040 .a 5 none) up = .next t) ∧
    (∃ t, exec (.hotnessEpochAdvance) up = .next t) :=
  ⟨⟨_, rfl⟩, ⟨_, rfl⟩, ⟨_, rfl⟩⟩

/-- Commands that answer a next state. -/
theorem wit_framesOfMoverFabricAndBorageCommands :
    (∃ t, exec (.dlnkTrain 0) up = .next t) ∧
    (∃ t, exec (.ackTimer 0) up = .next t) ∧
    (∃ t, exec (.rdcur 0 0 0x41 true) up = .next t) :=
  ⟨⟨_, rfl⟩, ⟨_, rfl⟩, ⟨_, rfl⟩⟩

/-- Commands that answer a next state. -/
theorem wit_framesOfSystemCommands :
    (∃ t, exec (.fenceI 0) up = .next t) ∧
    (∃ t, exec (.energyLedgerTick) up = .next t) ∧
    (∃ t, exec (.lockAcquire .bmc 40 10) up = .next t) :=
  ⟨⟨_, rfl⟩, ⟨_, rfl⟩, ⟨_, rfl⟩⟩

end Sys2Proof.Tests
end

section
/-! SUPPORT. The timestamp: what one count and a wait for an instant do, and what a step is. -/

namespace Sys2Proof.Machine

/-- A count of the timestamp lasts 40 ns or 20 ns. -/
theorem State.stepNs_pos (s : State) : 0 < s.stepNs := by
  unfold State.stepNs; split <;> decide

theorem ceilDiv_one {n : Nat} (h : 0 < n) : ceilDiv 1 n = 1 := by
  rw [ceilDiv, Nat.add_sub_cancel_left, Nat.div_self h]

/-- The instant right after the present one is the next count. -/
theorem State.instant_next (s : State) : s.instant (s.now + 1) = s.now + s.stepNs := by
  rw [State.instant, Nat.add_sub_cancel_left, ceilDiv_one s.stepNs_pos, Nat.one_mul]

/-- A stretch of time changes counter banks only (R513). -/
theorem State.stretchPage_obs (s : State) (t p : Nat) :
    ∃ banks, (s.stretchPage t p).obs = { s.obs with pmc := banks } := by
  unfold State.stretchPage State.when; dsimp only
  split
  · exact ⟨_, rfl⟩
  · exact ⟨s.obs.pmc, rfl⟩

/-- Waiting for an instant changes counter banks only, of what is observed (R513). -/
theorem State.reach_obs (s : State) (t : Nat) : ∃ banks, (s.reach t).obs = { s.obs with pmc := banks } := by
  refine foldl_holds (P := fun r : State => ∃ banks, r.obs = { s.obs with pmc := banks }) ⟨s.obs.pmc, rfl⟩ ?_
  rintro r p ⟨banks, hr⟩
  obtain ⟨banks', h⟩ := r.stretchPage_obs (s.instant t) p
  exact ⟨banks', by rw [h, hr]⟩

/-- Waiting for an instant changes the timestamp and the counters only. -/
theorem State.reach_keepsBut (s : State) (t : Nat) : KeepsBut [.now, .obs] s (s.reach t) := by
  intro p hp
  cases p <;> simp_all [Part.same, State.reach_keeps]

/-- A step on an empty queue waits for the next count. -/
theorem step_of_empty {s : State} (h : s.pending = []) : step s = .next (s.reach (s.now + 1)) := by
  simp [step, h]

/-- A step with a command in front runs it with the queue's rest. -/
theorem step_of_cons {s : State} {c : Instr} {r : List Instr} (h : s.pending = c :: r) :
    step s = exec c (s.withPending r) := by
  simp [step, h]

end Sys2Proof.Machine
end

section
/-! PROOF. The statements on a step without a command and on the state after reset. -/

namespace Sys2Proof.Machine

/-- At reset no enable bit differs from its reset value (R504). -/
theorem State.reset_evEnabled (k : Nat) : State.reset.evEnabled k = definedSource k := by
  simp [State.evEnabled, State.reset]

/-- At reset no route differs from its reset value (R504, R508). -/
theorem State.reset_routeOf (k : Nat) : State.reset.routeOf k = routeReset k := rfl

end Sys2Proof.Machine

open Sys2Proof Sys2Proof.Machine

/-- Settles O2: the step is a wait for the next count. -/
theorem stepOnAnEmptyQueueLetsTimePass : Obligations.StepOnAnEmptyQueueLetsTimePass := by
  intro s h
  obtain ⟨banks, hobs⟩ := s.reach_obs (s.now + 1)
  refine ⟨_, step_of_empty h, ?_, rfl, s.reach_keepsBut _, ?_, ?_, ?_⟩
  · rw [State.reach_now, State.instant_next]
  all_goals rw [hobs]

/-- Settles O7: no source differs from its reset value, and every other part holds by the fields' defaults. -/
theorem resetLeaves : Obligations.ResetLeaves := by
  have idle : State.reset.cfg pwrPage 0x80 1 7 = 0x0A := rfl
  have retries : State.reset.cfg fcPage 0x80 0 3 = 3 := rfl
  exact ⟨rfl, rfl, rfl, rfl, rfl, rfl, rfl, fun k => State.reset_evEnabled k, fun k _ => State.reset_routeOf k,
    rfl, rfl, rfl, rfl, rfl, idle, retries, rfl, rfl, rfl, rfl⟩
end

section
/-! SUPPORT. States that follow one another in time, and which operations lead to one. Every operation that takes no time
keeps `now` (its lemma `State.op_keeps`); those in which time may pass, since they wait for an instant, are listed here. -/

namespace Sys2Proof.Machine

open Host (Outcome)

/-! ### States that follow one another -/

/-- A state at the same instant as another, with the same commands waiting. -/
def State.Still (s t : State) : Prop := t.now = s.now ∧ t.pending = s.pending

@[simp] theorem State.still_iff {s t : State} : s.Still t ↔ t.now = s.now ∧ t.pending = s.pending := Iff.rfl

/-- A state that follows another: not before it in time, and with the same commands waiting. -/
def State.Onward (s t : State) : Prop := s.now ≤ t.now ∧ t.pending = s.pending

@[simp] theorem State.onward_iff {s t : State} : s.Onward t ↔ s.now ≤ t.now ∧ t.pending = s.pending := Iff.rfl

theorem State.Onward.refl (s : State) : s.Onward s := ⟨le_rfl, rfl⟩

theorem State.Onward.trans {s t u : State} (h : s.Onward t) (k : t.Onward u) : s.Onward u :=
  ⟨h.1.trans k.1, k.2.trans h.2⟩

theorem State.Onward.still {s t : State} (h : s.Still t) : s.Onward t := ⟨h.1.ge, h.2⟩

theorem State.Onward.each {s t : State} {α : Type} {l : List α} {f : State → α → State} (h : s.Onward t)
    (k : ∀ (u : State) a, u.Onward (f u a)) : s.Onward (t.each l f) :=
  foldl_holds (P := s.Onward) h (fun u a g => g.trans (k u a))

theorem State.Onward.when {s t : State} {b : Bool} {f : State → State} (h : s.Onward t) (k : t.Onward (f t)) :
    s.Onward (t.when b f) := by
  cases b
  · exact h
  · exact h.trans k

/-- An instant is not before any time that the present one is not before. -/
@[simp] theorem State.le_instant_of_le {s : State} {x : Nat} (t : Nat) (h : x ≤ s.now) : x ≤ s.instant t :=
  h.trans (s.le_instant t)

theorem State.reach_onward (s : State) (t : Nat) : s.Onward (s.reach t) :=
  ⟨by rw [State.reach_now]; exact s.le_instant t, (s.reach_keeps t).2.1⟩

/-- A command's meaning answers a next state that follows the state it meets. -/
def Goes (s : State) (o : Outcome State Fault Refusal) : Prop := ∃ t, o = .next t ∧ s.Onward t

theorem Goes.next {s t : State} (h : s.Onward t) : Goes s (.next t) := ⟨t, rfl, h⟩

@[simp] theorem goes_next {s t : State} : Goes s (.next t) ↔ s.Onward t :=
  ⟨fun ⟨_, e, h⟩ => by cases e; exact h, .next⟩

/-- A meaning that goes from a state that follows. -/
theorem Goes.after {s t : State} {o : Outcome State Fault Refusal} (h : s.Onward t) (k : Goes t o) : Goes s o := by
  obtain ⟨u, e, g⟩ := k
  exact ⟨u, e, h.trans g⟩

/-! ### Operations in which time may pass -/

@[simp] theorem State.le_when_now (s : State) (b : Bool) (f : State → State) (h : ∀ t, t.now ≤ (f t).now) :
    s.now ≤ (s.when b f).now := by
  cases b
  · exact le_rfl
  · exact h s

@[simp] theorem State.le_each_now {α : Type} (s : State) (l : List α) (f : State → α → State)
    (h : ∀ t a, t.now ≤ (f t a).now) : s.now ≤ (s.each l f).now :=
  foldl_holds (P := fun t => s.now ≤ t.now) le_rfl (fun t a k => k.trans (h t a))

@[simp] theorem State.le_afterChange_now (s : State) (off : Nat) : s.now ≤ (s.afterChange off).now := by
  unfold State.afterChange; (repeat' split) <;> simp

@[simp] theorem State.le_gate_now (s : State) (m : Master) (off : Nat) (v : Word) (act : State → State)
    (h : ∀ t, (act t).now = t.now) : s.now ≤ (s.gate m off v act).now := by
  have arrived := (s.arrives m).le_afterChange_now off
  rw [(s.arrives_keeps m).1] at arrived
  unfold State.gate; dsimp only
  (repeat' split) <;>
    simp [h, arrived, State.arrives_keeps, State.holdAccess_keeps, State.finish_keeps, State.refuse_keeps]

/-- A register write whose effect takes no time. -/
theorem State.gate_onward {s : State} {m : Master} {off : Nat} {v : Word} {act : State → State}
    (h : ∀ t : State, t.Still (act t)) : s.Onward (s.gate m off v act) :=
  ⟨s.le_gate_now m off v act (fun t => (h t).1), s.gate_pending m off v act (fun t => (h t).2)⟩

@[simp] theorem State.le_dmqWrite_now (s : State) (m : Master) (q x : Nat) (v : Word) (act : State → State)
    (h : ∀ t, (act t).now = t.now) : s.now ≤ (s.dmqWrite m q x v act).now := by
  unfold State.dmqWrite; split
  · exact s.le_gate_now _ _ _ _ h
  · exact le_rfl

@[simp] theorem State.le_access_now (s : State) (h : HeldAccess) : s.now ≤ (s.access h).now := by
  have arrived := (s.arrives h.m).le_afterChange_now h.off
  rw [(s.arrives_keeps h.m).1] at arrived
  unfold State.access
  (repeat' split) <;> simp [arrived, State.arrives_keeps, State.holdAccess_keeps, State.perform_keeps]

@[simp] theorem State.le_sweepBegin_now (s : State) : s.now ≤ s.sweepBegin.now := by
  unfold State.sweepBegin; split <;> simp

@[simp] theorem State.le_withinRate_now (s : State) : s.now ≤ s.withinRate.now := by
  simp [State.withinRate]

@[simp] theorem State.le_softDue_now (s : State) (c k end_ : Nat) : s.now ≤ (s.softDue c k end_).now := by
  unfold State.softDue; dsimp only [State.when]
  split <;> simp [State.nextDue_keeps, State.onChan_keeps]

@[simp] theorem State.le_softStep_now (s : State) (c n : Nat) (r : RepairRec) : s.now ≤ (s.softStep c n r).now := by
  have repaid := (s.repayRank_keeps c (2 * (s.chan c).rankmap r.rank + r.sub)).1
  unfold State.softStep; dsimp only
  rw [(State.repayRank_keeps _ _ _).1, ← repaid]
  exact State.le_each_now _ _ _ (fun t _ => t.le_softDue_now _ _ _)

@[simp] theorem State.le_pgStep_now (s : State) (vout gate : Nat) (inLimit : Bool) :
    s.now ≤ (s.pgStep vout gate inLimit).now := by
  simp [State.pgStep, State.pgOutSync_keeps, State.setTrip_keeps, State.onHsc_keeps, State.limitTick_keeps]

@[simp] theorem State.le_fetTick_now (s : State) (vin vout iMa : Nat) (ntc : Option Int) (dieC : Int) :
    s.now ≤ (s.fetTick vin vout iMa ntc dieC).now := by
  simp [State.fetTick, State.trip_keeps, State.raiseHsc_keeps, State.onHsc_keeps, State.takeFree_keeps]

@[simp] theorem State.le_releaseGrp_now (s : State) (g : Nat) : s.now ≤ (s.releaseGrp g).now := by
  unfold State.releaseGrp; dsimp only
  split <;> simp [State.onGrp_keeps, State.bringupDone_keeps, State.applyDiscard_keeps, State.endDiscard_keeps]

@[simp] theorem State.le_firstLook_now (s : State) : s.now ≤ s.firstLook.now := by
  simp [State.firstLook, State.lookForRef_keeps]

@[simp] theorem State.le_nextLook_now (s : State) : s.now ≤ s.nextLook.now := by
  simp [State.nextLook, State.lookForRef_keeps]

@[simp] theorem State.le_rampLate_now (s : State) : s.now ≤ s.rampLate.now := by
  simp [State.rampLate, State.trip_keeps]

@[simp] theorem State.le_offLate_now (s : State) : s.now ≤ s.offLate.now := by
  simp [State.offLate, State.damaged_keeps]

@[simp] theorem State.le_railLate_now (s : State) (k : Nat) : s.now ≤ (s.railLate k).now := by
  simp [State.railLate, State.railFail_keeps]

/-! ### Operations that are the whole of several commands -/

theorem State.access_onward (s : State) (h : HeldAccess) : s.Onward (s.access h) := by simp

theorem State.writeTcmd_onward (s : State) (m : Master) (op t i : Nat) : s.Onward (s.writeTcmd m op t i) :=
  State.gate_onward (by simp [State.tcmd_keeps])

theorem State.writeCmaint_onward (s : State) (m : Master) (c : Nat) (v : Word) : s.Onward (s.writeCmaint m c v) :=
  State.gate_onward (by simp [State.cmaint_keeps])

theorem State.hscWrite_onward (s : State) (m : Master) (op vout : Nat) : s.Onward (s.hscWrite m op vout) :=
  State.gate_onward (by simp [State.hscOp_keeps])

theorem State.rstCommand_onward (s : State) (m : Master) (op : Nat) : s.Onward (s.rstCommand m op) :=
  State.gate_onward (by simp [State.rstWrite_keeps])

theorem State.dlnkCtrl_onward (s : State) (m : Master) (e cmd : Nat) : s.Onward (s.dlnkCtrl m e cmd) :=
  State.gate_onward (by simp [State.dlnkCmd_keeps])

/-- FC.SITE is written before FC.CMD. -/
theorem State.writeFc_onward (s : State) (m : Master) (op cls : Nat) (site : BitVec 24) :
    s.Onward (s.writeFc m op cls site) :=
  .trans (State.gate_onward (act := id) (by simp)) (State.gate_onward (by simp [State.fcCmd_keeps]))

theorem State.writeCommit_onward (s : State) (m : Master) (p : Nat) (v : Word) : s.Onward (s.writeCommit m p v) :=
  State.gate_onward (by simp [State.commitWrite_keeps])

theorem State.writeLock_onward (s : State) (m : Master) (p : Nat) (v : Word) : s.Onward (s.writeLock m p v) :=
  State.gate_onward (by simp [State.lockWrite_keeps])

theorem State.writeFwu_onward (s : State) (m : Master) (v : Word) : s.Onward (s.writeFwu m v) :=
  .trans (State.gate_onward (act := fun t => t.fwuCmd m v) (by simp [State.fwuCmd_keeps])) (.still (State.goOn_keeps _))

theorem State.mailbox_onward (s : State) (ld : Fin 64) (i : CoreMsg) : s.Onward (s.mailbox ld i) :=
  .still (s.mailbox_keeps ld i)

theorem State.memCommand_onward (s : State) (l : Fin 16) (ld : Fin 64) (hpa : BitVec 64) (k : ReqKind) (tag : Nat) :
    s.Onward (s.memCommand l ld hpa k tag) :=
  .still (by simp [State.memCommand_keeps])

theorem State.brgRequest_onward (s : State) (a tag line : Nat) (k : ReqKind) (caching cred : Bool) :
    s.Onward (s.brgRequest a tag line k caching cred) :=
  .still (by simp [State.brgRequest_keeps])

end Sys2Proof.Machine
end

section
/-! SUPPORT. Each command answers a next state that follows the one it meets: `execX_goes`, along the branches of its
meaning. -/

namespace Sys2Proof.Machine

/-! ### Tiers and engines -/

theorem execHotnessEpochAdvance_goes (s) : Goes s (execHotnessEpochAdvance s) :=
  .next (.when (.refl s) (by simp [State.reach_keeps]))

theorem execSweepVisit_goes (page s) : Goes s (execSweepVisit page s) := by
  refine .next (.when (.refl s) ?_)
  simp [State.raiseAt_keeps, State.sweepBegin_keeps, State.visit_keeps, State.walk_keeps]

theorem execPromotionStart_goes (page s) : Goes s (execPromotionStart page s) := by
  unfold execPromotionStart; dsimp only
  split
  · simp
  · split
    · simp
    · split
      · simp [State.untrigger_keeps]
      · split
        · simp
        · split
          · simp [State.noFrame_keeps]
          · next t i f taken =>
            have kept := s.takeFrame_keeps page.toNat true taken
            dsimp only at kept
            simp [State.untrigger_keeps, State.lockPage_keeps, kept]

theorem execPromotionCommit_goes (page fault s) : Goes s (execPromotionCommit page fault s) := by
  unfold execPromotionCommit; dsimp only
  (repeat' split) <;> simp [State.callEngine_keeps, State.count_keeps, State.eccUncorr_keeps,
    State.engineUsed_keeps, State.fetchLeaf_keeps, State.fileP_keeps, State.migPoisoned_keeps, State.promoted_keeps,
    State.raiseEng_keeps, State.readPage_keeps, State.tagFailed_keeps]

theorem execDemotionStart_goes (page s) : Goes s (execDemotionStart page s) := by
  unfold execDemotionStart; dsimp only
  (repeat' split) <;> simp [State.dropDemotions_keeps, State.lockPage_keeps, State.withinRate_keeps]

theorem execDemotionCommit_goes (page e mismatch s) : Goes s (execDemotionCommit page e mismatch s) := by
  unfold execDemotionCommit; dsimp only
  (repeat' split) <;> simp [State.callEngine_keeps, State.demoteWith_keeps, State.demotionOff_keeps,
    State.fetchLeaf_keeps, State.readFrame_keeps]

theorem execTierPromoteDomain_goes (m domain s) : Goes s (execTierPromoteDomain m domain s) :=
  .next (by simp [State.promoteDomain_keeps])

theorem execTierCancel_goes (m s) : Goes s (execTierCancel m s) := .next (by simp [State.cancelDomain_keeps])

theorem execPromoteDomainEnd_goes (s) : Goes s (execPromoteDomainEnd s) := by
  unfold execPromoteDomainEnd
  split <;> simp [State.raiseAt_keeps]

theorem execJobGo_goes (m e op resume s) : Goes s (execJobGo m e op resume s) :=
  .next (by simp [State.startJob_keeps])

theorem execJobCancel_goes (m e s) : Goes s (execJobCancel m e s) := .next (by simp [State.cancelJob_keeps])

theorem execJobEnd_goes (e mismatch s) : Goes s (execJobEnd e mismatch s) := by
  unfold execJobEnd; dsimp only
  (repeat' split) <;> simp [State.enlist_keeps, State.jobDone_keeps, State.runJob_keeps]

theorem execEngineFault_goes (e verify s) : Goes s (execEngineFault e verify s) :=
  .next (.when (.refl s) (by simp [State.engineOut_keeps, State.verifyFail_keeps]))

theorem execEngineRecovered_goes (e s) : Goes s (execEngineRecovered e s) :=
  .next (.when (.refl s) (by simp [State.onEng_keeps, State.raiseEng_keeps]))

/-! ### The address map and capacity -/

theorem execExtentDrainEnd_goes (ext s) : Goes s (execExtentDrainEnd ext s) :=
  .next (.when (.refl s) (by simp [State.toErase_keeps]))

theorem execExtentEraseEnd_goes (ext s) : Goes s (execExtentEraseEnd ext s) := by
  unfold execExtentEraseEnd; dsimp only
  (repeat' split) <;> simp [State.advanceEpoch_keeps, State.extEvent_keeps, State.forgetPages_keeps,
    State.freeRunOf_keeps, State.levels_keeps, State.onDom_keeps, State.onExt_keeps, State.returnPages_keeps]

theorem execOfferToExpiry_goes (ext s) : Goes s (execOfferToExpiry ext s) := by
  unfold execOfferToExpiry; dsimp only
  (repeat' split) <;> simp [State.reach_keeps, State.settleOffer_keeps]

theorem execAutoRecall_goes (s) : Goes s (execAutoRecall s) := by
  unfold execAutoRecall; dsimp only
  (repeat' split) <;> simp [State.reach_keeps, State.recallExt_keeps]

theorem execLandDataWrite_goes (page rid off data ep s) : Goes s (execLandDataWrite page rid off data ep s) := by
  unfold execLandDataWrite; dsimp only
  (repeat' split) <;> simp [State.discardLine_keeps, State.enlist_keeps, State.heard_keeps, State.peerDrop_keeps,
    State.setReg_keeps]

theorem execPeerFlushRead_goes (page rid r s) : Goes s (execPeerFlushRead page rid r s) := by
  unfold execPeerFlushRead; dsimp only
  (repeat' split) <;> simp [State.flushAnswers_keeps, State.heard_keeps, State.toHost_keeps]

/-! ### Moves within a tier -/

theorem execCompactionStart_goes (u set cls s) : Goes s (execCompactionStart u set cls s) := by
  unfold execCompactionStart; dsimp only
  (repeat' split) <;> simp

theorem State.withinRate_onward (s : State) : s.Onward s.withinRate := by simp [State.withinRate_keeps]

theorem execMigrationMoveStart_goes (page why s) : Goes s (execMigrationMoveStart page why s) := by
  unfold execMigrationMoveStart; dsimp only
  split
  · simp
  · generalize paces : State.when (s.withTier _) _ State.withinRate = t
    have paced : s.Onward t := by
      rw [← paces]; exact .when (.still (by simp)) (State.withinRate_onward _)
    refine Goes.after paced ?_
    split
    · next u i loc dest =>
      have kept := t.moveDest_keeps page.toNat why dest
      dsimp only at kept
      split <;> simp [State.onChan_keeps, State.lockPage_keeps, kept]
    · split <;> simp [State.noBin_keeps, State.drainStalled_keeps]

theorem execMigrationMoveCommit_goes (page uncorr s) : Goes s (execMigrationMoveCommit page uncorr s) := by
  unfold execMigrationMoveCommit; dsimp only
  (repeat' split) <;> simp [State.copyBin_keeps, State.copyNear_keeps, State.fetchLeaf_keeps,
    State.migPoisoned_keeps, State.moved__keeps]

/-! ### DDR5 channels -/

theorem execDqsTrack_goes (c s) : Goes s (execDqsTrack c s) :=
  .next (.when (.refl s) (by simp [State.onChan_keeps, State.reach_keeps]))

theorem execCaAlert_goes (c rank s) : Goes s (execCaAlert c rank s) :=
  .next (.when (.refl s) (by simp [State.onChan_keeps, State.raiseChan_keeps]))

theorem execQuickRetrain_goes (c s) : Goes s (execQuickRetrain c s) :=
  .next (.when (.refl s) (by simp [State.onChan_keeps]))

theorem execQuickRetrainEnd_goes (c ok s) : Goes s (execQuickRetrainEnd c ok s) :=
  .next (.when (.refl s) (by simp [State.chanOut_keeps, State.onChan_keeps, State.stallEnd_keeps]))

theorem execRefreshDue_goes (c rank sub busy s) : Goes s (execRefreshDue c rank sub busy s) :=
  .next (by simp [State.nextDue_keeps, State.onChan_keeps, State.rankTurn_keeps, State.reach_keeps,
    State.refreshNow_keeps])

theorem execRefreshRepay_goes (c rank sub s) : Goes s (execRefreshRepay c rank sub s) :=
  .next (.when (.refl s) (by simp [State.rankTurn_keeps, State.reach_keeps]))

theorem execMr4Poll_goes (c ranks s) : Goes s (execMr4Poll c ranks s) :=
  .next (.when (.refl s) (by simp [State.onChan_keeps, State.reach_keeps]))

theorem execRfmRequest_goes (c rank sub bg ba s) : Goes s (execRfmRequest c rank sub bg ba s) :=
  .next (.when (.refl s) (by simp [State.bankTurn_keeps, State.raiseChan_keeps]))

theorem execFctlGo_goes (m c s) : Goes s (execFctlGo m c s) := .next (by simp [State.fctlGo_keeps])

theorem execFreqChangeEnd_goes (c ok s) : Goes s (execFreqChangeEnd c ok s) :=
  .next (.when (.refl s) (by simp [State.onChan_keeps, State.raiseChan_keeps, State.settleAll_keeps,
    State.stallEnd_keeps, State.tooHotAct_keeps]))

theorem execScrubRead_goes (c err s) : Goes s (execScrubRead c err s) := by
  refine .next (.when (.refl s) ?_); dsimp only
  (repeat' split) <;> simp [State.corrected_keeps, State.countUe_keeps, State.onChan_keeps, State.raiseChan_keeps,
    State.reach_keeps, State.scrubBad_keeps, State.takeFree_keeps]

theorem execDramReadReturn_goes (c off err perr s) : Goes s (execDramReadReturn c off err perr s) := by
  unfold execDramReadReturn; dsimp only
  (repeat' split) <;> simp [State.copyWalk_keeps, State.corrected_keeps, State.countUe_keeps, State.fileP_keeps,
    State.foundBad_keeps, State.foundTagFail_keeps, State.fromPartner_keeps, State.tagRaised_keeps,
    State.takeFree_keeps]

theorem execCeWindowStep_goes (c s) : Goes s (execCeWindowStep c s) :=
  .next (by simp [State.onChan_keeps, State.reach_keeps])

theorem execSpareRank_goes (m c rank s) : Goes s (execSpareRank m c rank s) := .next (by simp [State.spareCmd_keeps])

theorem execSpareCopyEnd_goes (c s) : Goes s (execSpareCopyEnd c s) := by
  unfold execSpareCopyEnd; dsimp only
  (repeat' split) <;> simp [State.leaveRank_keeps, State.nextJob_keeps, State.onChan_keeps, State.raiseChan_keeps,
    State.reach_keeps, State.walkSpare_keeps]

theorem execSoftRepair_goes (c src s) : Goes s (execSoftRepair c src s) := by
  unfold execSoftRepair
  split <;> simp [State.onChan_keeps, State.softCmd_keeps, State.startRepair_keeps]

theorem execSoftRepairEnd_goes (r s) : Goes s (execSoftRepairEnd r s) := by
  unfold execSoftRepairEnd; dsimp only
  (repeat' split) <;> simp [State.onChan_keeps, State.raiseChan_keeps, State.softStep_keeps, State.stallEnd_keeps,
    State.storeRepairs_keeps]

theorem execHardRepair_goes (m c s) : Goes s (execHardRepair m c s) := .next (by simp [State.hardCmd_keeps])

theorem execHardRepairEnd_goes (c ok s) : Goes s (execHardRepairEnd c ok s) := by
  unfold execHardRepairEnd; dsimp only
  (repeat' split) <;> simp [State.onChan_keeps, State.raiseChan_keeps, State.storeRepairs_keeps]

theorem execResilver_goes (m c s) : Goes s (execResilver m c s) := .next (by simp [State.resilverCmd_keeps])

theorem execCancelResilver_goes (m c s) : Goes s (execCancelResilver m c s) :=
  .next (by simp [State.unresilver_keeps])

theorem execResilverEnd_goes (c s) : Goes s (execResilverEnd c s) := by
  refine .next (.when (.refl s) ?_)
  (repeat' split) <;> simp [State.reach_keeps, State.setMir_keeps, State.walkSilver_keeps]

theorem execSvcDrain_goes (m c s) : Goes s (execSvcDrain m c s) := .next (by simp [State.drainCmd_keeps])

theorem execSvcPowerDown_goes (m c s) : Goes s (execSvcPowerDown m c s) := .next (by simp [State.powerDownCmd_keeps])

theorem execSvcReturn_goes (m c spd0 spd1 s) : Goes s (execSvcReturn m c spd0 spd1 s) :=
  .next (by simp [State.returnCmd_keeps])

theorem execSvcCancel_goes (m c s) : Goes s (execSvcCancel m c s) := .next (by simp [State.svcCancelCmd_keeps])

theorem execChannelDrainEnd_goes (c s) : Goes s (execChannelDrainEnd c s) :=
  .next (.when (.refl s) (by simp [State.endDrain_keeps]))

theorem execDimmThermalRead_goes (c t0 t1 s) : Goes s (execDimmThermalRead c t0 t1 s) :=
  .next (.when (.refl s) (by simp [State.onChan_keeps, State.reach_keeps, State.sayHot_keeps, State.tooHotAct_keeps]))

/-! ### Clocks and power sub-domains -/

theorem execXtalQualify_goes (x s) : Goes s (execXtalQualify x s) :=
  .next (.when (.refl s) (by simp [State.reach_keeps, State.setXtal_keeps, State.takeRef_keeps]))

theorem execXtalQualifyTimeout_goes (s) : Goes s (execXtalQualifyTimeout s) :=
  .next (.when (.refl s) (by simp [State.firstLook_keeps]))

theorem execXtalRetry_goes (s) : Goes s (execXtalRetry s) := .next (by simp [State.nextLook_keeps])

theorem execClockMonitorFlag_goes (c s) : Goes s (execClockMonitorFlag c s) := .next (by simp [State.flagged_keeps])

theorem execRefclkLoss_goes (g s) : Goes s (execRefclkLoss g s) := .next (by simp [State.refclkLost_keeps])

theorem execSlowOscCheck_goes (bad s) : Goes s (execSlowOscCheck bad s) :=
  .next (.when (.refl s) (by simp [State.onClk_keeps, State.raiseClk_keeps, State.reach_keeps, State.setMon_keeps]))

theorem execRefEdgeLoss_goes (loop s) : Goes s (execRefEdgeLoss loop s) := .next (by simp [State.coast_keeps])

theorem execLoopLockLoss_goes (loop s) : Goes s (execLoopLockLoss loop s) :=
  .next (.when (.refl s) (by simp [State.coast_keeps]))

theorem execLoopRelock_goes (loop s) : Goes s (execLoopRelock loop s) :=
  .next (by simp [State.onGrp_keeps, State.onLoop_keeps, State.raiseClk_keeps, State.settleAll_keeps])

theorem execRefSwitch_goes (s) : Goes s (execRefSwitch s) :=
  .next (.when (.refl s) (by simp [State.moveRef_keeps, State.xtalFails_keeps]))

theorem execClkSwap_goes (m s) : Goes s (execClkSwap m s) := .next (by simp [State.swapRef_keeps])

theorem execRefRevert_goes (s) : Goes s (execRefRevert s) := by
  unfold execRefRevert
  (repeat' split) <;> simp [State.moveRef_keeps, State.reach_keeps]

theorem execLockLossTimeout_goes (loop s) : Goes s (execLockLossTimeout loop s) := by
  unfold execLockLossTimeout
  split <;> simp [State.lockLost_keeps, State.onLoop_keeps, State.reach_keeps]

theorem execFastOscDiscipline_goes (s) : Goes s (execFastOscDiscipline s) :=
  .next (.when (.refl s) (by simp [State.onClk_keeps]))

theorem execRootLoopLock_goes (s) : Goes s (execRootLoopLock s) :=
  .next (.when (.refl s) (by simp [State.afterFabric_keeps, State.rootLocked_keeps]))

theorem execClockGateStop_goes (d s) : Goes s (execClockGateStop d s) :=
  .next (.when (.refl s) (by simp [State.onClk_keeps, State.reach_keeps, State.settleAll_keeps]))

theorem execClockGateStart_goes (d s) : Goes s (execClockGateStart d s) :=
  .next (.when (.refl s) (by simp [State.cycleRise_keeps, State.onClk_keeps, State.settleAll_keeps]))

theorem execDselChange_goes (m d src s) : Goes s (execDselChange m d src s) := .next (by simp [State.dsel_keeps])

theorem execSubdomainPowerDown_goes (sd s) : Goes s (execSubdomainPowerDown sd s) := by
  unfold execSubdomainPowerDown; dsimp only
  (repeat' split) <;> simp [State.onClk_keeps, State.onEng_keeps, State.reach_keeps, State.settleAll_keeps]

theorem execPhyQuadWake_goes (l why s) : Goes s (execPhyQuadWake l why s) :=
  .next (.when (.refl s) (.each (.refl s) fun t q => .still (by simp [State.powerUp_keeps])))

/-! ### Host links -/

theorem execPerstNAssert_goes (g s) : Goes s (execPerstNAssert g s) :=
  .next (by simp [State.onGrp_keeps, State.resetGroup_keeps])

theorem execPerstNRelease_goes (g s) : Goes s (execPerstNRelease g s) := by
  unfold execPerstNRelease
  split <;> simp [State.onGrp_keeps, State.onLink_keeps]

theorem execLinkUp_goes (l o s) : Goes s (execLinkUp l o s) :=
  .next (.when (.refl s) (by simp [State.linkTrained_keeps]))

theorem execRecoveryEntry_goes (l byHost s) : Goes s (execRecoveryEntry l byHost s) :=
  .next (.when (.refl s) (by simp [State.onLink_keeps]))

theorem execRecoveryExit_goes (l res s) : Goes s (execRecoveryExit l res s) := by
  unfold execRecoveryExit
  split <;> simp [State.linkLost_keeps, State.recovered_keeps]

theorem execHostLinkRequest_goes (l r s) : Goes s (execHostLinkRequest l r s) := by
  unfold execHostLinkRequest
  split <;> simp [State.l0pTo_keeps, State.onLink_keeps]

theorem execL0pNarrow_goes (l w agreed s) : Goes s (execL0pNarrow l w agreed s) :=
  .next (.when (.refl s) (by simp [State.l0pTo_keeps, State.onLink_keeps, State.reach_keeps]))

theorem execL0pWiden_goes (l agreed s) : Goes s (execL0pWiden l agreed s) :=
  .next (.when (.refl s) (by simp [State.l0pTo_keeps, State.onLink_keeps]))

theorem execL1Entry_goes (l s) : Goes s (execL1Entry l s) :=
  .next (.when (.refl s) (by simp [State.onLink_keeps, State.reach_keeps]))

theorem execL1Exit_goes (l s) : Goes s (execL1Exit l s) := .next (.when (.refl s) (by simp [State.onLink_keeps]))

theorem execPmeTurnOff_goes (l s) : Goes s (execPmeTurnOff l s) :=
  .next (by simp [State.onLink_keeps, State.unlockIfDown_keeps])

theorem execLinkDown_goes (l s) : Goes s (execLinkDown l s) :=
  .next (.when (.refl s) (by simp [State.linkLost_keeps]))

theorem execHotReset_goes (l s) : Goes s (execHotReset l s) :=
  .next (.when (.refl s) (by simp [State.onLink_keeps, State.resetPort_keeps]))

theorem execLinkDisable_goes (l s) : Goes s (execLinkDisable l s) :=
  .next (.when (.refl s) (by simp [State.linkLost_keeps, State.onLink_keeps]))

theorem execFlrInitiate_goes (ld s) : Goes s (execFlrInitiate ld s) :=
  .next (.when (.refl s) (by simp [State.freeLocks_keeps, State.heard_keeps, State.onLd_keeps,
    State.stopQueue_keeps]))

theorem execFlrComplete_goes (ld s) : Goes s (execFlrComplete ld s) :=
  .next (.when (.refl s) (by simp [State.clearFunction_keeps, State.raiseLd_keeps]))

theorem execHostMarginCommand_goes (g lane s) : Goes s (execHostMarginCommand g lane s) :=
  .next (by simp [State.onGrp_keeps])

theorem execMarginDone_goes (g lane s) : Goes s (execMarginDone g lane s) :=
  .next (.when (.refl s) (by simp [State.onGrp_keeps, State.raiseLink_keeps]))

theorem execRequesterCompletion_goes (ld tag addr data st s) :
    Goes s (execRequesterCompletion ld tag addr data st s) := by
  unfold execRequesterCompletion
  split <;> simp [State.hostPiece_keeps, State.useLink_keeps]

theorem execReqCto_goes (ld tag s) : Goes s (execReqCto ld tag s) := by
  unfold execReqCto
  split <;> simp [State.raiseLd_keeps, State.reach_keeps, State.readFailed_keeps]

theorem execConfigRequest_goes (ld fn op s) : Goes s (execConfigRequest ld fn op s) := by
  unfold execConfigRequest; dsimp only
  (repeat' split) <;> simp [State.arriveOn_keeps, State.configWrite_keeps, State.toHost_keeps]

theorem execLinkFlitCrcError_goes (l s) : Goes s (execLinkFlitCrcError l s) := by
  unfold execLinkFlitCrcError
  split <;> simp [State.onLink_keeps, State.raiseLink_keeps]

theorem execHostReplayRequest_goes (l seq s) : Goes s (execHostReplayRequest l seq s) :=
  .next (.when (.refl s) (by simp [State.emit_keeps, State.onLink_keeps, State.useLink_keeps]))

theorem execAttentionPulseStart_goes (g s) : Goes s (execAttentionPulseStart g s) := by
  unfold execAttentionPulseStart; dsimp only
  (repeat' split) <;> simp [State.onGrp_keeps, State.reach_keeps]

theorem execAttentionPulseEnd_goes (g s) : Goes s (execAttentionPulseEnd g s) := by
  unfold execAttentionPulseEnd
  split <;> simp [State.onGrp_keeps, State.reach_keeps]

theorem execAttnTest_goes (m g s) : Goes s (execAttnTest m g s) := .next (by simp [State.attention_keeps])

theorem execRetrain_goes (m l s) : Goes s (execRetrain m l s) := .next (by simp [State.retrainLink_keeps])

/-! ### Requests of hosts -/

theorem execMemrd_goes (l ld hpa mv tag err s) : Goes s (execMemrd l ld hpa mv tag err s) :=
  .next (by simp [State.meetsError_keeps, State.memCommand_keeps])

theorem execMemspecrd_goes (l ld hpa tag s) : Goes s (execMemspecrd l ld hpa tag s) :=
  .next (by simp [State.memCommand_keeps, State.takeFree_keeps])

theorem execCxlioApertureRead_goes (ld off len tag s) : Goes s (execCxlioApertureRead ld off len tag s) := by
  unfold execCxlioApertureRead; dsimp only
  (repeat' split) <;> simp [State.arriveOn_keeps, State.enlist_keeps, State.raiseLink_keeps, State.sendUr_keeps,
    State.tagging_keeps, State.toHost_keeps]

theorem execCxlioApertureWrite_goes (ld off data ep s) : Goes s (execCxlioApertureWrite ld off data ep s) := by
  unfold execCxlioApertureWrite; dsimp only
  split
  · simp
  · split
    · cases State.apertureDpa _ _ _ _ <;> simp [State.arriveOn_keeps, State.discardLine_keeps]
    · (repeat' split) <;> simp [State.arriveOn_keeps, State.sendUr_keeps, State.raiseLink_keeps,
        State.discardLine_keeps, State.tagging_keeps, State.enlist_keeps]

theorem execAtomicop_goes (ld tgt op size a b ep tag s) : Goes s (execAtomicop ld tgt op size a b ep tag s) := by
  unfold execAtomicop; dsimp only
  (repeat' split) <;> simp [State.arriveOn_keeps, State.enlist_keeps, State.raiseLink_keeps, State.sendUr_keeps,
    State.tagging_keeps, State.toHost_keeps]

theorem execBirsp_goes (agent line r s) : Goes s (execBirsp agent line r s) := by
  refine .next (.when (.refl s) ?_)
  (repeat' split) <;> simp [State.answered_keeps, State.arriveOn_keeps]

theorem execBiconflict_goes (agent line s) : Goes s (execBiconflict agent line s) :=
  .next (.when (.refl s) (by simp [State.toHost_keeps]))

theorem execBiTimeout_goes (agent line s) : Goes s (execBiTimeout agent line s) := by
  unfold execBiTimeout
  split <;> simp [State.reach_keeps, State.snoopTimeout_keeps]

theorem execCreditGrant_goes (hs r s) : Goes s (execCreditGrant hs r s) :=
  .next (.when (.refl s) (by simp [State.emit_keeps, State.useCredit_keeps]))

/-! ### Caches of the cores -/

theorem execFenceI_goes (c s) : Goes s (execFenceI c s) := .next (.when (.refl s) (by simp [State.onMcore_keeps]))

theorem execCctlWrite_goes (m c ien den s) : Goes s (execCctlWrite m c ien den s) :=
  .next (by simp [State.cctl_keeps])

/-! ### The power path, start-up and resets -/

/-- The timestamp starts anew where AUX rises (R9). -/
theorem State.auxClear_now (s : State) (rise : Bool) (b : Board) :
    (s.auxClear rise b).now = if rise then 0 else s.now := by
  unfold State.auxClear
  simp [State.tornWrites_keeps, State.retWrite_keeps, State.onGrp_keeps, State.onHsc_keeps]

theorem State.auxBoot_now (s : State) (rise : Bool) (b : Board) :
    (s.auxBoot rise b).now = if rise then 0 else s.now := by
  rw [← s.auxClear_now rise b]
  unfold State.auxBoot; dsimp only
  split <;> simp [State.bootRom_keeps, State.bootStart_keeps, State.onBoot_keeps]

theorem execAuxReset_goes {why : AuxCause} (h : why ≠ .auxRise) (b s) : Goes s (execAuxReset why b s) := by
  cases why
  · exact absurd rfl h
  · exact .next (.when (.refl s) (by simp [State.auxBoot_now]))

theorem execAuxLoss_goes (s) : Goes s (execAuxLoss s) := .next (.when (.refl s) (by simp [State.auxLost_keeps]))

theorem execVinOvervoltage_goes (mV s) : Goes s (execVinOvervoltage mV s) :=
  .next (.when (.refl s) (by simp [State.vinOut_keeps]))

theorem execVinUndervoltage_goes (mV s) : Goes s (execVinUndervoltage mV s) :=
  .next (.when (.refl s) (by simp [State.vinOut_keeps]))

theorem execVinWindowEntry_goes (mV s) : Goes s (execVinWindowEntry mV s) :=
  .next (.when (.refl s) (by simp [State.onHsc_keeps]))

theorem execInsertionDelayEnd_goes (s) : Goes s (execInsertionDelayEnd s) :=
  .next (.when (.refl s) (by simp [State.reach_keeps, State.startRamp_keeps]))

theorem execRampEnd_goes (vinMv voutMv s) : Goes s (execRampEnd vinMv voutMv s) :=
  .next (.when (.refl s) (by simp [State.onBoot_keeps, State.onHsc_keeps]))

theorem execStartTimeout_goes (s) : Goes s (execStartTimeout s) :=
  .next (.when (.refl s) (by simp [State.rampLate_keeps]))

theorem execCurrentLimitEntry_goes (s) : Goes s (execCurrentLimitEntry s) := .next (by simp [State.enterLimit_keeps])

theorem execBreakerExpiry_goes (s) : Goes s (execBreakerExpiry s) := by
  unfold execBreakerExpiry
  split <;> simp [State.reach_keeps, State.trip_keeps]

theorem execFastTrip_goes (s) : Goes s (execFastTrip s) := .next (by simp [State.fastTrip_keeps])

theorem execFetModelTick_goes (vinMv voutMv iMa ntc dieC s) :
    Goes s (execFetModelTick vinMv voutMv iMa ntc dieC s) :=
  .next (.when (.refl s) (by simp [State.fetTick_keeps]))

theorem execNtcInvalid_goes (s) : Goes s (execNtcInvalid s) :=
  .next (.when (.refl s) (by simp [State.onHsc_keeps, State.raiseHsc_keeps]))

theorem execNtcRecover_goes (degC s) : Goes s (execNtcRecover degC s) :=
  .next (.when (.refl s) (by simp [State.onHsc_keeps, State.reach_keeps]))

theorem execDamagedTransistor_goes (s) : Goes s (execDamagedTransistor s) :=
  .next (.when (.refl s) (by simp [State.offLate_keeps]))

theorem execRetryWaitEnd_goes (s) : Goes s (execRetryWaitEnd s) :=
  .next (.when (.refl s) (by simp [State.raiseHsc_keeps, State.reach_keeps, State.startRamp_keeps]))

theorem execCoolWaitEnd_goes (s) : Goes s (execCoolWaitEnd s) :=
  .next (.when (.refl s) (by simp [State.onHsc_keeps, State.reach_keeps]))

theorem execPgTick_goes (voutMv gateMv inLimit s) : Goes s (execPgTick voutMv gateMv inLimit s) :=
  .next (.when (.refl s) (by simp [State.pgChanged_keeps, State.pgStep_keeps]))

theorem execPgOutLevelAge_goes (s) : Goes s (execPgOutLevelAge s) := by
  unfold execPgOutLevelAge
  split <;> simp [State.pgOutSync_keeps, State.reach_keeps]

theorem execRailEnable_goes (k s) : Goes s (execRailEnable k s) :=
  .next (.when (.refl s) (by simp [State.onBoot_keeps, State.pmbus_keeps, State.reach_keeps, State.setCore_keeps]))

theorem execRailGood_goes (k s) : Goes s (execRailGood k s) := by
  refine .next (.when (.refl s) ?_); dsimp only
  split <;> simp [State.mainUp_keeps, State.onBoot_keeps, State.reach_keeps]

theorem execRailTimeout_goes (k s) : Goes s (execRailTimeout k s) := by
  unfold execRailTimeout
  split <;> simp [State.railLate_keeps]

theorem execRailFallen_goes (k s) : Goes s (execRailFallen k s) := by
  unfold execRailFallen
  (repeat' split) <;> simp [State.onBoot_keeps, State.railOff_keeps, State.railsFallen_keeps, State.railsGone_keeps]

theorem execRailRetry_goes (s) : Goes s (execRailRetry s) := by
  unfold execRailRetry
  split <;> simp [State.hscStart_keeps, State.onBoot_keeps, State.powerGood_keeps, State.reach_keeps]

theorem execHrdyDeadline_goes (s) : Goes s (execHrdyDeadline s) := by
  have late (t : State) (b c f) : (t.when b (fun u => u.onChan c f)).now = t.now :=
    t.when_now b _ (fun u => (u.onChan_keeps c f).1)
  unfold execHrdyDeadline; dsimp only
  (repeat' split) <;> simp [late, State.onChan_keeps, State.raiseBoot_keeps, State.onBoot_keeps, State.reach_keeps]

theorem execHrdyRelease_goes (g s) : Goes s (execHrdyRelease g s) :=
  .next (.when (.when (.when (.refl s) (by simp [State.endDiscard_keeps])) (by simp [State.devRecovered_keeps]))
    (by simp [State.releaseGrp_keeps]))

theorem execRstChipletRecovery_goes (m slot s) : Goes s (execRstChipletRecovery m slot s) :=
  .next (by simp [State.rstWrite_keeps])

/-! ### Sensors -/

theorem State.adaptCore_onward (s : State) : s.Onward s.adaptCore := .still (by simp [State.adaptCore_keeps])

theorem execSensorSample_goes (r s) : Goes s (execSensorSample r s) := by
  refine .next (.when (.refl s)
    (.trans (.when (.each (.each ?_ fun t e => ?_) fun t e => ?_) ?_) (State.adaptCore_onward _)))
  · split <;> simp [State.onMgmt_keeps, State.readInput_keeps, State.reach_keeps]
  · exact .when (.refl t) (by simp [State.readDie_keeps])
  · exact .when (.refl t) (by simp [State.onMgmt_keeps])
  · exact .each (.still (by simp [State.onMgmt_keeps])) fun t e => .when (.refl t) (by simp [State.onMgmt_keeps])

theorem execDieOvertemp_goes (sensor s) : Goes s (execDieOvertemp sensor s) :=
  .next (.when (.refl s) (by simp [State.faultP_keeps, State.reach_keeps]))

theorem execEnergyLedgerTick_goes (s) : Goes s (execEnergyLedgerTick s) :=
  .next (.when (.refl s) (by simp [State.onMgmt_keeps, State.splitEnergy_keeps]))

theorem execLaneMarginScan_goes (g lane tl tr vu vd s) : Goes s (execLaneMarginScan g lane tl tr vu vd s) := by
  refine .next (.when (.refl s) ?_)
  (repeat' split) <;> simp [State.reach_keeps, State.scanLane_keeps]

/-! ### Counters and the tracer -/

theorem execPmcClear_goes (m page ctl s) : Goes s (execPmcClear m page ctl s) := .next (by simp [State.pmcCtl_keeps])

theorem execPmcGctlRun_goes (m run s) : Goes s (execPmcGctlRun m run s) := .next (by simp [State.pmcGctl_keeps])

theorem execPmcGctlClear_goes (m run s) : Goes s (execPmcGctlClear m run s) := .next (by simp [State.pmcGctl_keeps])

theorem execCounterOverflow_goes (page k s) : Goes s (execCounterOverflow page k s) := by
  unfold execCounterOverflow; dsimp only
  (repeat' split) <;> simp [State.overflow_keeps, State.reach_keeps, State.settlePage_keeps]

theorem execTraceRecordWrite_goes (s) : Goes s (execTraceRecordWrite s) := by
  unfold execTraceRecordWrite
  (repeat' split) <;> simp [State.reach_keeps, State.trcDrop_keeps, State.trcPut_keeps]

/-! ### Dunas modules and Borage -/

theorem execDlnkTrain_goes (e s) : Goes s (execDlnkTrain e s) := .next (.when (.refl s) (by simp [State.onMod_keeps]))

theorem execDlnkTrainEnd_goes (e r s) : Goes s (execDlnkTrainEnd e r s) :=
  .next (.when (.refl s) (by simp [State.trained_keeps]))

theorem execInitParam_goes (e major minor rate vendor device rev s) :
    Goes s (execInitParam e major minor rate vendor device rev s) :=
  .next (by simp [State.takeParam_keeps])

theorem execInitCredit_goes (e adv s) : Goes s (execInitCredit e adv s) := .next (by simp [State.takeCredit_keeps])

theorem execAckCredit_goes (e valid ackseq ret s) : Goes s (execAckCredit e valid ackseq ret s) :=
  .next (by simp [State.takeAck_keeps])

theorem execReplayStart_goes (e seq s) : Goes s (execReplayStart e seq s) :=
  .next (by simp [State.takeReplayStart_keeps])

theorem execLinkReq_goes (e ch slot s) : Goes s (execLinkReq e ch slot s) := .next (by simp [State.takeReq_keeps])

theorem execLinkRsp_goes (e accept s) : Goes s (execLinkRsp e accept s) := .next (by simp [State.takeRsp_keeps])

theorem execAckTimer_goes (e s) : Goes s (execAckTimer e s) := by
  refine .next (.when (.refl s) ?_)
  simp [State.reach_keeps, State.sendAck_keeps]

theorem execReplayTimer_goes (e s) : Goes s (execReplayTimer e s) := by
  unfold execReplayTimer; dsimp only
  (repeat' split) <;> simp [State.moveFlits_keeps, State.reach_keeps, State.replay_keeps]

theorem execReplayLimit_goes (e s) : Goes s (execReplayLimit e s) := by
  unfold execReplayLimit; dsimp only
  (repeat' split) <;> simp [State.enterLreset_keeps, State.onMod_keeps, State.raiseDlnk_keeps, State.reach_keeps]

theorem execCreditTimeout_goes (e cls s) : Goes s (execCreditTimeout e cls s) := by
  unfold execCreditTimeout; dsimp only
  (repeat' split) <;> simp [State.enterLreset_keeps, State.raiseDlnk_keeps, State.reach_keeps]

theorem execTrainingPatternSeen_goes (e s) : Goes s (execTrainingPatternSeen e s) :=
  .next (by simp [State.enterLreset_keeps])

theorem execLinkResetEnd_goes (e r s) : Goes s (execLinkResetEnd e r s) :=
  .next (.when (.refl s) (by simp [State.retrainDone_keeps]))

theorem execDlnkChangeEnd_goes (e ok s) : Goes s (execDlnkChangeEnd e ok s) := by
  unfold execDlnkChangeEnd; dsimp only
  (repeat' split) <;> simp [State.changeDone_keeps, State.enterLreset_keeps]

theorem execCommandedChangeStart_goes (e s) : Goes s (execCommandedChangeStart e s) := by
  unfold execCommandedChangeStart; dsimp only
  (repeat' split) <;> simp [State.reach_keeps, State.startChange_keeps]

theorem execAtomic_goes (a tag line cred op size off x y s) :
    Goes s (execAtomic a tag line cred op size off x y s) := by
  unfold execAtomic
  split <;> simp [State.brgRequest_keeps, State.brgTurn_keeps]

theorem execSnprsp_goes (a line keep data s) : Goes s (execSnprsp a line keep data s) :=
  .next (by simp [State.snpAnswer_keeps])

theorem execSnpconflict_goes (a line s) : Goes s (execSnpconflict a line s) :=
  .next (by simp [State.snpConflict_keeps])

theorem execEvtraise_goes (k payload s) : Goes s (execEvtraise k payload s) := .next (by simp [State.brgEvent_keeps])

theorem execBar0Write_goes (ld off data s) : Goes s (execBar0Write ld off data s) := by
  unfold execBar0Write; dsimp only
  (repeat' split) <;> simp [State.arriveOn_keeps, State.carryPieces_keeps, State.forward_keeps, State.fwdFail_keeps,
    State.sendUr_keeps]

theorem execBar0Read_goes (ld off len tag s) : Goes s (execBar0Read ld off len tag s) := by
  unfold execBar0Read; dsimp only
  (repeat' split) <;> simp [State.arriveOn_keeps, State.carryPieces_keeps, State.forward_keeps, State.fwdFail_keeps,
    State.sendUr_keeps, State.toHost_keeps]

theorem execFwdrddata_goes (tag data err s) : Goes s (execFwdrddata tag data err s) :=
  .next (by simp [State.fwdAnswer_keeps])

theorem execFwdrdTimeout_goes (tag s) : Goes s (execFwdrdTimeout tag s) := by
  unfold execFwdrdTimeout
  split <;> simp [State.fwdAbort_keeps, State.reach_keeps]

theorem execFwdwrTimeout_goes (ld s) : Goes s (execFwdwrTimeout ld s) := by
  unfold execFwdwrTimeout
  (repeat' split) <;> simp [State.fwdFail_keeps, State.fwdTimers_keeps, State.onMod_keeps, State.pump_keeps,
    State.pumpFwd_keeps, State.reach_keeps]

theorem execBrgFltNAssert_goes (s) : Goes s (execBrgFltNAssert s) :=
  .next (.when (.refl s) (by simp [State.faultP_keeps]))

theorem execBrgFltFrame_goes (f s) : Goes s (execBrgFltFrame f s) := by
  unfold execBrgFltFrame; dsimp only
  (repeat' split) <;> simp [State.fault_keeps, State.raise_keeps]

theorem execBorageBringupTimeout_goes (s) : Goes s (execBorageBringupTimeout s) := by
  unfold execBorageBringupTimeout; dsimp only
  (repeat' split) <;> simp [State.reach_keeps, State.retireMod_keeps]

theorem execAgentSweepEnd_goes (w s) : Goes s (execAgentSweepEnd w s) := by
  unfold execAgentSweepEnd
  split <;> simp [State.brgSwept_keeps, State.linkSwept_keeps, State.sweepDone_keeps]

/-! ### The fault collector -/

theorem execFatalLane_goes (slot s) : Goes s (execFatalLane slot s) :=
  .next (.when (.refl s) (by simp [State.faultP_keeps]))

theorem execFaultFrame_goes (site cls row col cause s) : Goes s (execFaultFrame site cls row col cause s) := by
  unfold execFaultFrame; dsimp only
  (repeat' split) <;> simp [State.emit_keeps, State.fault_keeps]

theorem execFrameCheckFail_goes (slot s) : Goes s (execFrameCheckFail slot s) :=
  .next (.when (.refl s) (by simp [State.raiseAt_keeps]))

theorem execHeartbeatLoss_goes (slot s) : Goes s (execHeartbeatLoss slot s) := by
  unfold execHeartbeatLoss; dsimp only
  (repeat' split) <;> simp [State.faultP_keeps, State.raiseAt_keeps]

theorem execSerialLinkReturn_goes (s) : Goes s (execSerialLinkReturn s) := .next (by simp [State.onHsc_keeps])

theorem execQuietPeriodEnd_goes (rec s) : Goes s (execQuietPeriodEnd rec s) := by
  unfold execQuietPeriodEnd; dsimp only
  (repeat' split) <;> simp [State.reach_keeps, State.recoverRec_keeps]

theorem execRecoveryFail_goes (rec s) : Goes s (execRecoveryFail rec s) :=
  .next (.when (.refl s) (by simp [State.recoveryFailed_keeps]))

theorem execFrecClear_goes (m page s) : Goes s (execFrecClear m page s) := .next (by simp [State.clearRec_keeps])

theorem execRecoveryCounterStore_goes (s) : Goes s (execRecoveryCounterStore s) :=
  .next (.when (.refl s) (by simp [State.reach_keeps, State.storeRcnt_keeps]))

theorem execChannelTrainingEnd_goes (c r s) : Goes s (execChannelTrainingEnd c r s) := by
  unfold execChannelTrainingEnd
  split <;> simp [State.chanFailed_keeps, State.chanTrained_keeps, State.rerunEnd_keeps, State.resetGoesOn_keeps]

/-! ### Events and the log -/

theorem execLogRecordWrite_goes (s) : Goes s (execLogRecordWrite s) := by
  unfold execLogRecordWrite
  (repeat' split) <;> simp [State.deliverAll_keeps, State.reach_keeps]

theorem execEventRaise_goes (src why s) : Goes s (execEventRaise src why s) :=
  .next (.when (.refl s) (by simp [State.raise_keeps]))

theorem execEvtStatusClear_goes (m at_ bits s) : Goes s (execEvtStatusClear m at_ bits s) :=
  .next (by simp [State.clearAt_keeps])

theorem execEvtEnableWrite_goes (m at_ bits s) : Goes s (execEvtEnableWrite m at_ bits s) :=
  .next (by simp [State.enableAt_keeps])

theorem execEvtRouteWrite_goes (m page val s) : Goes s (execEvtRouteWrite m page val s) :=
  .next (by simp [State.ownRoute_keeps])

theorem execEvrRouteWrite_goes (m val s) : Goes s (execEvrRouteWrite m val s) :=
  .next (by simp [State.evrRoute_keeps])

/-! ### The data mover -/

theorem execDmqTailWrite_goes (m q tail s) : Goes s (execDmqTailWrite m q tail s) := .next (by simp)

theorem execDmqAbort_goes (m q s) : Goes s (execDmqAbort m q s) := .next (by simp [State.dmqAborted_keeps])

theorem execDmqEnable_goes (m q v s) : Goes s (execDmqEnable m q v s) := .next (by simp [State.dmqConfigured_keeps])

theorem execDescriptorFetch_goes (q host s) : Goes s (execDescriptorFetch q host s) := by
  unfold execDescriptorFetch; dsimp only
  split
  · simp
  · split
    · simp
    · next t turn =>
      have kept := s.dmTurn_keeps q.val turn
      (repeat' split) <;> simp [kept, State.descBytes_keeps, State.haltQueue_keeps, State.startDesc_keeps]

theorem State.Still.dmOp {s : State} {q ix op : Nat} {work : Desc → State} (h : ∀ d, s.Still (work d)) :
    s.Still (s.dmOp q ix op work) :=
  ⟨s.dmOp_now q ix op work (fun d => (h d).1), s.dmOp_pending q ix op work (fun d => (h d).2)⟩

theorem State.Still.withSource {s : State} {q : Nat} {d : Desc} {work : State → List (Option Byte) → State}
    (h : ∀ (t : State) b, t.Still (work t b)) : s.Still (s.withSource q d work) :=
  ⟨s.withSource_now q d work (fun t b => (h t b).1), s.withSource_pending q d work (fun t b => (h t b).2)⟩

theorem State.Still.withRoom {s : State} {q : Nat} {d : Desc} {n : Nat} {work : State} (h : s.Still work) :
    s.Still (s.withRoom q d n work) :=
  ⟨s.withRoom_now q d n work h.1, s.withRoom_pending q d n work h.2⟩

theorem State.Still.withChain {s : State} {q : Nat} {d : Desc} {work : State → List Byte → State}
    (h : ∀ (t : State) c, t.Still (work t c)) : s.Still (s.withChain q d work) :=
  ⟨s.withChain_now q d work (fun t c => (h t c).1), s.withChain_pending q d work (fun t c => (h t c).2)⟩

theorem State.Still.onEngine {s : State} {q : Nat} {d : Desc} {e : Nat} {work : State} (h : s.Still work) :
    s.Still (s.onEngine q d e work) :=
  ⟨s.onEngine_now q d e work h.1, s.onEngine_pending q d e work h.2⟩

theorem execDmCopy_goes (q ix s) : Goes s (execDmCopy q ix s) :=
  .next (.still (.dmOp fun d => .withSource fun t b => .withRoom (by
    simp [State.dmPut_keeps, State.moved_keeps, State.endDesc_keeps])))

theorem execDmFill_goes (q ix s) : Goes s (execDmFill q ix s) :=
  .next (by simp [State.dmPut_keeps, State.endDesc_keeps, State.moved_keeps])

theorem execDmCompare_goes (q ix s) : Goes s (execDmCompare q ix s) := by
  refine .next (.still (.dmOp fun d => .withSource fun t a => ?_)); dsimp only
  (repeat' split) <;> simp [State.operand_keeps, State.failDesc_keeps, State.moved_keeps, State.endDesc_keeps]

theorem execDmCrc_goes (q ix s) : Goes s (execDmCrc q ix s) :=
  .next (by simp [State.endDesc_keeps, State.moved_keeps])

theorem execDmCompress_goes (q ix e s) : Goes s (execDmCompress q ix e s) := by
  refine .next (.still (.dmOp fun d => .onEngine (.withSource fun t b => .withChain fun u chain => ?_)))
  split
  · simp [State.engineFailed_keeps, State.verifyFail_keeps]
  · simp [State.output_keeps, State.compressed_keeps, State.count_keeps, State.moved_keeps, State.coded_keeps,
      State.endStream_keeps]

theorem execDmDecompress_goes (q ix e s) : Goes s (execDmDecompress q ix e s) :=
  .next (.still (.dmOp fun d => .onEngine (.withSource fun t b => .withChain fun u chain => by
    simp [State.output_keeps, State.count_keeps, State.moved_keeps, State.coded_keeps, State.endStream_keeps])))

theorem execDmZeroReseal_goes (q ix s) : Goes s (execDmZeroReseal q ix s) := .next (by simp [State.resealPages_keeps])

theorem execDmBatchAtomic_goes (q ix s) : Goes s (execDmBatchAtomic q ix s) := by
  refine .next (.still (.dmOp fun d => .withSource fun t b => ?_)); dsimp only
  split
  · simp [State.failDesc_keeps]
  · refine .withRoom ?_
    split <;> simp [State.runElems_keeps, State.takeFree_keeps, State.dmPut_keeps, State.moved_keeps,
      State.endDesc_keeps]

theorem execDmPeerCopy_goes (q ix s) : Goes s (execDmPeerCopy q ix s) :=
  .next (.still (.dmOp fun d => .withSource fun t b => by
    simp [State.peerHalf_keeps, State.moved_keeps, State.onDesc_keeps, State.flushRead_keeps]))

theorem execPeerFlushCompletion_goes (q ix st s) : Goes s (execPeerFlushCompletion q ix st s) := by
  unfold execPeerFlushCompletion
  (repeat' split) <;> simp [State.flushDone_keeps]

theorem execDmRecordWrite_goes (q ix ok s) : Goes s (execDmRecordWrite q ix ok s) := by
  unfold execDmRecordWrite; dsimp only
  (repeat' split) <;> simp [State.haltQueue_keeps, State.putCounts_keeps, State.putRecord_keeps,
    State.recordDone_keeps]

/-! ### Locks, HOLD and DEV.MGMT -/

theorem execCommitApply_goes (page s) : Goes s (execCommitApply page s) := .next (by simp [State.applyCommit_keeps])

theorem execLockLeaseExpiry_goes (page s) : Goes s (execLockLeaseExpiry page s) := by
  unfold execLockLeaseExpiry
  (repeat' split) <;> simp [State.freeLock_keeps, State.reach_keeps]

theorem execCtrlHold_goes (m page hold s) : Goes s (execCtrlHold m page hold s) := .next (by simp)

theorem execDevMgmtWrite_goes (m ld s) : Goes s (execDevMgmtWrite m ld s) := .next (by simp [State.mgmtMoved_keeps])

/-! ### Home slices and protection -/

theorem execHdmDecoderCommit_goes (ld i base size skip ways gran ctl s) :
    Goes s (execHdmDecoderCommit ld i base size skip ways gran ctl s) := by
  unfold execHdmDecoderCommit; dsimp only
  (repeat' split) <;> simp [State.onLd_keeps]

theorem execAtomicBufferFlush_goes (line s) : Goes s (execAtomicBufferFlush line s) := by
  unfold execAtomicBufferFlush; dsimp only
  (repeat' split) <;> simp [State.flushAtom_keeps, State.reach_keeps]

theorem execMcacheClean_goes (hs s) : Goes s (execMcacheClean hs s) :=
  .next (.when (.refl s) (by simp [State.cleanTo_keeps]))

theorem execMcacheFlush_goes (m hs s) : Goes s (execMcacheFlush m hs s) := .next (by simp [State.mcFlush_keeps])

theorem execRetagStep_goes (hs s) : Goes s (execRetagStep hs s) := by
  unfold execRetagStep; dsimp only
  (repeat' split) <;> simp [State.retagChild_keeps]

theorem execRetagEnd_goes (hs s) : Goes s (execRetagEnd hs s) := .next (by simp [State.setRetags_keeps])

theorem execRootArrayError_goes (hs s) : Goes s (execRootArrayError hs s) := .next (by simp [State.faultP_keeps])

theorem execRootRebuildEnd_goes (hs rejected s) : Goes s (execRootRebuildEnd hs rejected s) :=
  .next (.when (.refl s) (by simp [State.endRebuild_keeps]))

theorem execChunkInit_goes (chunk s) : Goes s (execChunkInit chunk s) :=
  .next (by simp [State.initChunk_keeps, State.reach_keeps])

theorem execOverwriteWrite_goes (s) : Goes s (execOverwriteWrite s) := by
  unfold execOverwriteWrite
  (repeat' split) <;> simp [State.levels_keeps, State.putMedia_keeps, State.raiseAt_keeps, State.reach_keeps,
    State.releaseBin_keeps, State.releaseFrame_keeps]

theorem execDiscardReport_goes (u what s) : Goes s (execDiscardReport u what s) := by
  unfold execDiscardReport
  (repeat' split) <;> simp [State.discardExtent_keeps, State.discardLine_keeps]

/-! ### Messages to the cores -/

theorem execMctpMessage_goes (msg s) : Goes s (execMctpMessage msg s) :=
  .next (by simp [State.mctpAlone_keeps, State.toCore_keeps])

theorem execI3cDaa_goes (s) : Goes s (execI3cDaa s) := .next (.when (.refl s) (by simp [State.onMgmt_keeps]))

theorem execSmbusAra_goes (s) : Goes s (execSmbusAra s) := .next (.when (.refl s) (by simp))

theorem execIbiAccepted_goes (s) : Goes s (execIbiAccepted s) := .next (.when (.refl s) (by simp))

theorem execImgBegin_goes (len s) : Goes s (execImgBegin len s) := by
  unfold execImgBegin; dsimp only
  (repeat' split) <;> simp [State.emit_keeps, State.onMgmt_keeps]

theorem execImgData_goes (off words s) : Goes s (execImgData off words s) := by
  unfold execImgData; dsimp only
  (repeat' split) <;> simp [State.emit_keeps, State.onMgmt_keeps]

theorem execImgEnd_goes (img s) : Goes s (execImgEnd img s) := by
  unfold execImgEnd; dsimp only
  (repeat' split) <;> simp [State.bootStart_keeps, State.emit_keeps, State.onBoot_keeps, State.onMgmt_keeps,
    State.staged__keeps, State.startCore0_keeps]

theorem execTapInstruction_goes (op s) : Goes s (execTapInstruction op s) := by
  unfold execTapInstruction
  split <;> simp [State.emit_keeps, State.takeFree_keeps]

/-! ### Registers and waits -/

theorem execRegisterWrite_goes (m off val be s) : Goes s (execRegisterWrite m off val be s) := by
  unfold execRegisterWrite; dsimp only
  (repeat' split) <;> simp [State.goOn_keeps, State.unclaimed_keeps, State.wstat_keeps]

theorem execSbRd_goes (off count s) : Goes s (execSbRd off count s) := .next (by simp [State.direct_keeps])

theorem execSbWr_goes (off words s) : Goes s (execSbWr off words s) := .next (by simp [State.direct_keeps])

theorem execCfgRecordWrite_goes (s) : Goes s (execCfgRecordWrite s) := by
  unfold execCfgRecordWrite; dsimp only
  split
  · simp
  · split
    · split
      · next t asleep =>
        have kept := s.cfgAsleep_keeps _ asleep
        simp [kept]
      · (repeat' split) <;> simp [State.cfgWrite_keeps, State.cfgFail_keeps, State.onBoot_keeps, State.cfgNext_keeps]
    · simp

theorem execCfgRecordCommit_goes (s) : Goes s (execCfgRecordCommit s) := by
  unfold execCfgRecordCommit; dsimp only
  (repeat' split) <;> simp [State.cfgCommitBrg_keeps, State.cfgFail_keeps, State.cfgNext_keeps,
    State.cfgWrite_keeps, State.onBoot_keeps]

theorem execCfgRecordWait_goes (s) : Goes s (execCfgRecordWait s) := by
  unfold execCfgRecordWait; dsimp only
  split
  · simp
  · split
    · split
      · simp
      · split
        · next t asleep =>
          have kept := s.cfgAsleep_keeps _ asleep
          simp [kept]
        · split <;> simp [State.readReg_keeps, State.onBoot_keeps, State.cfgCompare_keeps]
    · simp

theorem execCfgWaitTimeout_goes (s) : Goes s (execCfgWaitTimeout s) := by
  unfold execCfgWaitTimeout
  split <;> simp [State.cfgFail_keeps, State.reach_keeps]

theorem execCfgRecordEnd_goes (s) : Goes s (execCfgRecordEnd s) := by
  unfold execCfgRecordEnd
  (repeat' split) <;> simp [State.cfgFail_keeps, State.onBoot_keeps]

theorem execRegrsp_goes (tag val err s) : Goes s (execRegrsp tag val err s) := .next (by simp [State.regAnswer_keeps])

theorem execRegrdTimeout_goes (tag s) : Goes s (execRegrdTimeout tag s) := by
  unfold execRegrdTimeout
  (repeat' split) <;> simp [State.brgAnswer_keeps, State.raise_keeps, State.reach_keeps]

theorem execSubdomainWake_goes (sd s) : Goes s (execSubdomainWake sd s) :=
  .next (.when (.refl s) (by simp [State.goOn_keeps, State.powerUp_keeps, State.runAll_keeps, State.wakeHeld_keeps]))

theorem execSubdomainWakeTimeout_goes (sd s) : Goes s (execSubdomainWakeTimeout sd s) := by
  unfold execSubdomainWakeTimeout
  (repeat' split) <;> simp [State.answerWait_keeps, State.engineStop_keeps, State.fileP_keeps, State.goOn_keeps,
    State.onClk_keeps, State.onEng_keeps, State.raiseClk_keeps, State.reach_keeps, State.runAll_keeps,
    State.wstat_keeps]

theorem execWakeInRecognised_goes (n s) : Goes s (execWakeInRecognised n s) := by
  refine .next (.when (.refl s) ?_)
  (repeat' split) <;> simp [State.goOn_keeps, State.onClk_keeps, State.powerUp_keeps, State.raiseClk_keeps,
    State.reach_keeps, State.runAll_keeps, State.wakeHeld_keeps, State.wakeLeave_keeps]

theorem execRstoreWriteDone_goes (s) : Goes s (execRstoreWriteDone s) := by
  unfold execRstoreWriteDone
  (repeat' split) <;> simp [State.reach_keeps, State.retFront_keeps]

theorem execRetainedWordUe_goes (w s) : Goes s (execRetainedWordUe w s) :=
  .next (.when (.refl s) (by simp [State.faultP_keeps, State.raiseAt_keeps]))

theorem execTrialTimeout_goes (s) : Goes s (execTrialTimeout s) :=
  .next (.when (.refl s) (by simp [State.goOn_keeps, State.reach_keeps, State.startSwitch_keeps]))

/-! ### Loads and stores of the cores -/

theorem execWriteBufferDrain_goes (c s) : Goes s (execWriteBufferDrain c s) :=
  .next (.when (.refl s) (by simp [State.drainOne_keeps, State.goOn_keeps]))

theorem execCoreLoad_goes (c addr fetch s) : Goes s (execCoreLoad c addr fetch s) := by
  have drained : s.Onward (drainAll 8 c s) := .still (drainAll_keeps 8 c s)
  unfold execCoreLoad; dsimp only
  split
  · simp
  · split
    · simp [State.fault__keeps]
    · split
      · simp [State.cachedLoad_keeps]
      · split
        · simp [State.fault__keeps]
        · split
          · split
            · simp [State.fault__keeps]
            · exact .next (drained.trans (by simp [State.goOn_keeps]))
          · simp [State.emit_keeps]

theorem execCoreStore_goes (c addr size data s) : Goes s (execCoreStore c addr size data s) := by
  unfold execCoreStore; dsimp only
  (repeat' split) <;> simp [State.drainOne_keeps, State.fault__keeps, State.goOn_keeps, State.onMcore_keeps,
    State.rstoreProtected_keeps]

/-! ### Flits -/

theorem State.gotMsgs_still (e : Nat) (r : State × List (Nat × List (List Byte))) :
    r.1.Still (State.gotMsgs e r) := by
  unfold State.gotMsgs; split <;> simp [State.gotMsg_keeps]

theorem execMessageFlit_goes (e flit s) : Goes s (execMessageFlit e flit s) := by
  have got (t : State) : t.Still (State.gotMsgs e.val (t.takeFlit e.val flit)) := by
    have took := t.takeFlit_keeps e.val flit
    have := State.gotMsgs_still e.val (t.takeFlit e.val flit)
    simp_all
  unfold execMessageFlit; dsimp only
  (repeat' split) <;> simp [State.takeCtl_keeps, (got _).1, (got _).2, State.strayFlit_keeps]

end Sys2Proof.Machine
end

section
/-! PROOF. The timestamp never decreases. -/

namespace Sys2Proof.Machine

/-- The reset at which AUX rises. -/
theorem exec_auxRise (b : Board) (s : State) : exec (.auxReset .auxRise b) s = .next (s.auxBoot true b) := rfl

/-- Every command but the reset at which AUX rises answers a state that follows the one it meets. -/
theorem exec_goes {i : Instr} (h : ∀ b, i ≠ .auxReset .auxRise b) (s : State) : Goes s (exec i s) := by
  match i with
  | .perstNAssert g => exact execPerstNAssert_goes g s
  | .perstNRelease g => exact execPerstNRelease_goes g s
  | .refclkLoss g => exact execRefclkLoss_goes g s
  | .linkUp l o => exact execLinkUp_goes l o s
  | .recoveryEntry l byHost => exact execRecoveryEntry_goes l byHost s
  | .recoveryExit l res => exact execRecoveryExit_goes l res s
  | .hostLinkRequest l r => exact execHostLinkRequest_goes l r s
  | .l0pNarrow l w agreed => exact execL0pNarrow_goes l w agreed s
  | .l0pWiden l agreed => exact execL0pWiden_goes l agreed s
  | .l1Entry l => exact execL1Entry_goes l s
  | .l1Exit l => exact execL1Exit_goes l s
  | .pmeTurnOff l => exact execPmeTurnOff_goes l s
  | .linkDown l => exact execLinkDown_goes l s
  | .agentSweepEnd w => exact execAgentSweepEnd_goes w s
  | .hotReset l => exact execHotReset_goes l s
  | .linkDisable l => exact execLinkDisable_goes l s
  | .flrInitiate ld => exact execFlrInitiate_goes ld s
  | .flrComplete ld => exact execFlrComplete_goes ld s
  | .hostMarginCommand g lane => exact execHostMarginCommand_goes g lane s
  | .marginDone g lane => exact execMarginDone_goes g lane s
  | .requesterCompletion ld tag addr data st => exact execRequesterCompletion_goes ld tag addr data st s
  | .reqCto ld tag => exact execReqCto_goes ld tag s
  | .configRequest ld fn op => exact execConfigRequest_goes ld fn op s
  | .linkFlitCrcError l => exact execLinkFlitCrcError_goes l s
  | .hostReplayRequest l seq => exact execHostReplayRequest_goes l seq s
  | .memrd l ld hpa mv tag err => exact execMemrd_goes l ld hpa mv tag err s
  | .memrddata _ _ _ _ => exact .next (s.memCommand_onward ..)
  | .memspecrd l ld hpa tag => exact execMemspecrd_goes l ld hpa tag s
  | .memwr _ _ _ _ _ _ _ => exact .next (s.memCommand_onward ..)
  | .memwrptl _ _ _ _ _ _ _ _ => exact .next (s.memCommand_onward ..)
  | .meminv _ _ _ _ _ => exact .next (s.memCommand_onward ..)
  | .memclnevct _ _ _ _ => exact .next (s.memCommand_onward ..)
  | .cxlioApertureRead ld off len tag => exact execCxlioApertureRead_goes ld off len tag s
  | .cxlioApertureWrite ld off data ep => exact execCxlioApertureWrite_goes ld off data ep s
  | .atomicop ld tgt op size a b ep tag => exact execAtomicop_goes ld tgt op size a b ep tag s
  | .bar0Write ld off data => exact execBar0Write_goes ld off data s
  | .bar0Read ld off len tag => exact execBar0Read_goes ld off len tag s
  | .birsp agent line r => exact execBirsp_goes agent line r s
  | .biconflict agent line => exact execBiconflict_goes agent line s
  | .biTimeout agent line => exact execBiTimeout_goes agent line s
  | .creditGrant hs r => exact execCreditGrant_goes hs r s
  | .hrdyRelease g => exact execHrdyRelease_goes g s
  | .attentionPulseStart g => exact execAttentionPulseStart_goes g s
  | .attentionPulseEnd g => exact execAttentionPulseEnd_goes g s
  | .attnTest m g => exact execAttnTest_goes m g s
  | .retrain m l => exact execRetrain_goes m l s
  | .hdmDecoderCommit ld dec base size skip ways gran ctl =>
    exact execHdmDecoderCommit_goes ld dec base size skip ways gran ctl s
  | .tcmdReadEntry _ _ _ => exact .next (s.writeTcmd_onward ..)
  | .tcmdStageEntry _ _ _ => exact .next (s.writeTcmd_onward ..)
  | .grant _ _ => exact .next (s.writeTcmd_onward ..)
  | .pin _ _ => exact .next (s.writeTcmd_onward ..)
  | .offer _ _ => exact .next (s.writeTcmd_onward ..)
  | .recall _ _ => exact .next (s.writeTcmd_onward ..)
  | .force _ _ => exact .next (s.writeTcmd_onward ..)
  | .free _ _ => exact .next (s.writeTcmd_onward ..)
  | .addDcResponse _ _ _ _ => exact .next (s.mailbox_onward ..)
  | .releaseDc _ _ => exact .next (s.mailbox_onward ..)
  | .offerToExpiry ext => exact execOfferToExpiry_goes ext s
  | .extentDrainEnd ext => exact execExtentDrainEnd_goes ext s
  | .extentEraseEnd ext => exact execExtentEraseEnd_goes ext s
  | .autoRecall => exact execAutoRecall_goes s
  | .landDataWrite page rid off data ep => exact execLandDataWrite_goes page rid off data ep s
  | .peerFlushRead page rid r => exact execPeerFlushRead_goes page rid r s
  | .atomicBufferFlush line => exact execAtomicBufferFlush_goes line s
  | .mcacheClean hs => exact execMcacheClean_goes hs s
  | .mcacheFlush m hs => exact execMcacheFlush_goes m hs s
  | .channelTrainingEnd c r => exact execChannelTrainingEnd_goes c r s
  | .dqsTrack c => exact execDqsTrack_goes c s
  | .caAlert c rank => exact execCaAlert_goes c rank s
  | .quickRetrain c => exact execQuickRetrain_goes c s
  | .quickRetrainEnd c ok => exact execQuickRetrainEnd_goes c ok s
  | .refreshDue c rank sub busy => exact execRefreshDue_goes c rank sub busy s
  | .refreshRepay c rank sub => exact execRefreshRepay_goes c rank sub s
  | .mr4Poll c ranks => exact execMr4Poll_goes c ranks s
  | .rfmRequest c rank sub bg ba => exact execRfmRequest_goes c rank sub bg ba s
  | .fctlGo m c => exact execFctlGo_goes m c s
  | .freqChangeEnd c ok => exact execFreqChangeEnd_goes c ok s
  | .scrubRead c err => exact execScrubRead_goes c err s
  | .dramReadReturn c off err perr => exact execDramReadReturn_goes c off err perr s
  | .ceWindowStep c => exact execCeWindowStep_goes c s
  | .spareRank m c rank => exact execSpareRank_goes m c rank s
  | .spareCopyEnd c => exact execSpareCopyEnd_goes c s
  | .softRepair c src => exact execSoftRepair_goes c src s
  | .softRepairEnd r => exact execSoftRepairEnd_goes r s
  | .hardRepair m c => exact execHardRepair_goes m c s
  | .resilver m c => exact execResilver_goes m c s
  | .cancelResilver m c => exact execCancelResilver_goes m c s
  | .resilverEnd c => exact execResilverEnd_goes c s
  | .svcDrain m c => exact execSvcDrain_goes m c s
  | .svcPowerDown m c => exact execSvcPowerDown_goes m c s
  | .svcReturn m c spd0 spd1 => exact execSvcReturn_goes m c spd0 spd1 s
  | .svcCancel m c => exact execSvcCancel_goes m c s
  | .channelDrainEnd c => exact execChannelDrainEnd_goes c s
  | .dimmThermalRead c t0 t1 => exact execDimmThermalRead_goes c t0 t1 s
  | .hotnessEpochAdvance => exact execHotnessEpochAdvance_goes s
  | .sweepVisit page => exact execSweepVisit_goes page s
  | .promotionStart page => exact execPromotionStart_goes page s
  | .promotionCommit page fault => exact execPromotionCommit_goes page fault s
  | .demotionStart page => exact execDemotionStart_goes page s
  | .demotionCommit page e mismatch => exact execDemotionCommit_goes page e mismatch s
  | .compactionStart u set cls => exact execCompactionStart_goes u set cls s
  | .migrationMoveStart page why => exact execMigrationMoveStart_goes page why s
  | .migrationMoveCommit page uncorr => exact execMigrationMoveCommit_goes page uncorr s
  | .tierPromoteDomain m domain => exact execTierPromoteDomain_goes m domain s
  | .tierCancel m => exact execTierCancel_goes m s
  | .promoteDomainEnd => exact execPromoteDomainEnd_goes s
  | .jobGo m e op resume => exact execJobGo_goes m e op resume s
  | .jobCancel m e => exact execJobCancel_goes m e s
  | .jobEnd e mismatch => exact execJobEnd_goes e mismatch s
  | .engineFault e verify => exact execEngineFault_goes e verify s
  | .engineRecovered e => exact execEngineRecovered_goes e s
  | .overwriteWrite => exact execOverwriteWrite_goes s
  | .retagStep hs => exact execRetagStep_goes hs s
  | .retagEnd hs => exact execRetagEnd_goes hs s
  | .rootArrayError hs => exact execRootArrayError_goes hs s
  | .rootRebuildEnd hs rejected => exact execRootRebuildEnd_goes hs rejected s
  | .chunkInit chunk => exact execChunkInit_goes chunk s
  | .discardReport u what => exact execDiscardReport_goes u what s
  | .dmqTailWrite m q tail => exact execDmqTailWrite_goes m q tail s
  | .descriptorFetch q host => exact execDescriptorFetch_goes q host s
  | .dmCopy q ix => exact execDmCopy_goes q ix s
  | .dmFill q ix => exact execDmFill_goes q ix s
  | .dmCompare q ix => exact execDmCompare_goes q ix s
  | .dmCrc q ix => exact execDmCrc_goes q ix s
  | .dmCompress q ix e => exact execDmCompress_goes q ix e s
  | .dmDecompress q ix e => exact execDmDecompress_goes q ix e s
  | .dmZeroReseal q ix => exact execDmZeroReseal_goes q ix s
  | .dmBatchAtomic q ix => exact execDmBatchAtomic_goes q ix s
  | .dmPeerCopy q ix => exact execDmPeerCopy_goes q ix s
  | .peerFlushCompletion q ix st => exact execPeerFlushCompletion_goes q ix st s
  | .dmRecordWrite q ix ok => exact execDmRecordWrite_goes q ix ok s
  | .dmqAbort m q => exact execDmqAbort_goes m q s
  | .dmqEnable m q v => exact execDmqEnable_goes m q v s
  | .dlnkTrain e => exact execDlnkTrain_goes e s
  | .dlnkTrainEnd e r => exact execDlnkTrainEnd_goes e r s
  | .initParam e major minor rate vendor device rev => exact execInitParam_goes e major minor rate vendor device rev s
  | .initCredit e adv => exact execInitCredit_goes e adv s
  | .ackCredit e valid ackseq ret => exact execAckCredit_goes e valid ackseq ret s
  | .replayStart e seq => exact execReplayStart_goes e seq s
  | .linkReq e ch slot => exact execLinkReq_goes e ch slot s
  | .linkRsp e accept => exact execLinkRsp_goes e accept s
  | .messageFlit e flit => exact execMessageFlit_goes e flit s
  | .ackTimer e => exact execAckTimer_goes e s
  | .replayTimer e => exact execReplayTimer_goes e s
  | .replayLimit e => exact execReplayLimit_goes e s
  | .creditTimeout e cls => exact execCreditTimeout_goes e cls s
  | .trainingPatternSeen e => exact execTrainingPatternSeen_goes e s
  | .linkResetEnd e r => exact execLinkResetEnd_goes e r s
  | .dlnkChangeEnd e ok => exact execDlnkChangeEnd_goes e ok s
  | .dlnkRetrain _ _ => exact .next (s.dlnkCtrl_onward ..)
  | .dlnkWidth _ _ => exact .next (s.dlnkCtrl_onward ..)
  | .dlnkRate _ _ => exact .next (s.dlnkCtrl_onward ..)
  | .dlnkRetire _ _ => exact .next (s.dlnkCtrl_onward ..)
  | .dlnkReturn _ _ => exact .next (s.dlnkCtrl_onward ..)
  | .dlnkResetCmd _ _ => exact .next (s.dlnkCtrl_onward ..)
  | .rdcur _ _ _ _ => exact .next (s.brgRequest_onward ..)
  | .rdshared _ _ _ _ => exact .next (s.brgRequest_onward ..)
  | .rdown _ _ _ _ => exact .next (s.brgRequest_onward ..)
  | .invown _ _ _ _ => exact .next (s.brgRequest_onward ..)
  | .cleanevict _ _ _ _ => exact .next (s.brgRequest_onward ..)
  | .wrfull _ _ _ _ _ => exact .next (s.brgRequest_onward ..)
  | .wrptl _ _ _ _ _ _ => exact .next (s.brgRequest_onward ..)
  | .wrback _ _ _ _ _ => exact .next (s.brgRequest_onward ..)
  | .atomic a tag line cred op size off x y => exact execAtomic_goes a tag line cred op size off x y s
  | .fwdrddata tag data err => exact execFwdrddata_goes tag data err s
  | .snprsp a line keep data => exact execSnprsp_goes a line keep data s
  | .snpconflict a line => exact execSnpconflict_goes a line s
  | .regrsp tag val err => exact execRegrsp_goes tag val err s
  | .evtraise k payload => exact execEvtraise_goes k payload s
  | .borageRegAccess _ _ _ => exact .next (s.access_onward ..)
  | .regrdTimeout tag => exact execRegrdTimeout_goes tag s
  | .fwdrdTimeout tag => exact execFwdrdTimeout_goes tag s
  | .fwdwrTimeout ld => exact execFwdwrTimeout_goes ld s
  | .brgFltNAssert => exact execBrgFltNAssert_goes s
  | .brgFltFrame f => exact execBrgFltFrame_goes f s
  | .borageBringupTimeout => exact execBorageBringupTimeout_goes s
  | .xtalQualify x => exact execXtalQualify_goes x s
  | .xtalQualifyTimeout => exact execXtalQualifyTimeout_goes s
  | .xtalRetry => exact execXtalRetry_goes s
  | .clockMonitorFlag c => exact execClockMonitorFlag_goes c s
  | .slowOscCheck bad => exact execSlowOscCheck_goes bad s
  | .refEdgeLoss loop => exact execRefEdgeLoss_goes loop s
  | .loopRelock loop => exact execLoopRelock_goes loop s
  | .refSwitch => exact execRefSwitch_goes s
  | .clkSwap m => exact execClkSwap_goes m s
  | .refRevert => exact execRefRevert_goes s
  | .lockLossTimeout loop => exact execLockLossTimeout_goes loop s
  | .fastOscDiscipline => exact execFastOscDiscipline_goes s
  | .rootLoopLock => exact execRootLoopLock_goes s
  | .clockGateStop d => exact execClockGateStop_goes d s
  | .clockGateStart d => exact execClockGateStart_goes d s
  | .dselChange m d src => exact execDselChange_goes m d src s
  | .subdomainPowerDown sd => exact execSubdomainPowerDown_goes sd s
  | .subdomainWake sd => exact execSubdomainWake_goes sd s
  | .subdomainWakeTimeout sd => exact execSubdomainWakeTimeout_goes sd s
  | .phyQuadWake l why => exact execPhyQuadWake_goes l why s
  | .wakeInRecognised n => exact execWakeInRecognised_goes n s
  | .auxReset why b => exact execAuxReset_goes (fun e => h b (e ▸ rfl)) b s
  | .vinOvervoltage mV => exact execVinOvervoltage_goes mV s
  | .vinUndervoltage mV => exact execVinUndervoltage_goes mV s
  | .vinWindowEntry mV => exact execVinWindowEntry_goes mV s
  | .insertionDelayEnd => exact execInsertionDelayEnd_goes s
  | .rampEnd vinMv voutMv => exact execRampEnd_goes vinMv voutMv s
  | .startTimeout => exact execStartTimeout_goes s
  | .currentLimitEntry => exact execCurrentLimitEntry_goes s
  | .breakerExpiry => exact execBreakerExpiry_goes s
  | .fastTrip => exact execFastTrip_goes s
  | .fetModelTick vinMv voutMv iMa ntc dieC => exact execFetModelTick_goes vinMv voutMv iMa ntc dieC s
  | .ntcInvalid => exact execNtcInvalid_goes s
  | .ntcRecover degC => exact execNtcRecover_goes degC s
  | .damagedTransistor => exact execDamagedTransistor_goes s
  | .retryWaitEnd => exact execRetryWaitEnd_goes s
  | .coolWaitEnd => exact execCoolWaitEnd_goes s
  | .hscStart _ => exact .next (s.hscWrite_onward ..)
  | .hscStop _ => exact .next (s.hscWrite_onward ..)
  | .hscClearLatch _ => exact .next (s.hscWrite_onward ..)
  | .hscClrShort _ _ => exact .next (s.hscWrite_onward ..)
  | .pgTick voutMv gateMv inLimit => exact execPgTick_goes voutMv gateMv inLimit s
  | .pgOutLevelAge => exact execPgOutLevelAge_goes s
  | .railEnable k => exact execRailEnable_goes k s
  | .railGood k => exact execRailGood_goes k s
  | .railTimeout k => exact execRailTimeout_goes k s
  | .railRetry => exact execRailRetry_goes s
  | .hrdyDeadline => exact execHrdyDeadline_goes s
  | .rstWarm _ => exact .next (s.rstCommand_onward ..)
  | .rstCold _ => exact .next (s.rstCommand_onward ..)
  | .rstEnterAuxOnly _ => exact .next (s.rstCommand_onward ..)
  | .rstLeaveAuxOnly _ => exact .next (s.rstCommand_onward ..)
  | .rstChipletRecovery m slot => exact execRstChipletRecovery_goes m slot s
  | .cmaintClean _ _ _ _ => exact .next (s.writeCmaint_onward ..)
  | .cmaintInvalidate _ _ _ _ => exact .next (s.writeCmaint_onward ..)
  | .cmaintCleanInvalidate _ _ _ _ => exact .next (s.writeCmaint_onward ..)
  | .cmaintVictim _ _ _ => exact .next (s.writeCmaint_onward ..)
  | .fenceI c => exact execFenceI_goes c s
  | .cctlWrite m c ien den => exact execCctlWrite_goes m c ien den s
  | .rstoreDataWrite _ _ => exact .next (s.access_onward ..)
  | .rstoreWriteDone => exact execRstoreWriteDone_goes s
  | .retainedWordUe w => exact execRetainedWordUe_goes w s
  | .sensorSample r => exact execSensorSample_goes r s
  | .dieOvertemp sensor => exact execDieOvertemp_goes sensor s
  | .energyLedgerTick => exact execEnergyLedgerTick_goes s
  | .laneMarginScan g lane tl tr vu vd => exact execLaneMarginScan_goes g lane tl tr vu vd s
  | .logRecordWrite => exact execLogRecordWrite_goes s
  | .i3cDaa => exact execI3cDaa_goes s
  | .mctpMessage msg => exact execMctpMessage_goes msg s
  | .sbRd off count => exact execSbRd_goes off count s
  | .sbWr off words => exact execSbWr_goes off words s
  | .imgBegin len => exact execImgBegin_goes len s
  | .imgData off words => exact execImgData_goes off words s
  | .imgEnd img => exact execImgEnd_goes img s
  | .smbusAra => exact execSmbusAra_goes s
  | .ibiAccepted => exact execIbiAccepted_goes s
  | .mbIdentify _ => exact .next (s.mailbox_onward ..)
  | .mbBgOpStatus _ => exact .next (s.mailbox_onward ..)
  | .mbGetEvtIntPolicy _ => exact .next (s.mailbox_onward ..)
  | .mbSetEvtIntPolicy _ _ => exact .next (s.mailbox_onward ..)
  | .mbGetEventRecords _ _ => exact .next (s.mailbox_onward ..)
  | .mbClearEventRecords _ _ _ => exact .next (s.mailbox_onward ..)
  | .mbGetTimestamp _ => exact .next (s.mailbox_onward ..)
  | .mbSetTimestamp _ _ => exact .next (s.mailbox_onward ..)
  | .mbGetSupportedLogs _ => exact .next (s.mailbox_onward ..)
  | .mbGetLog _ _ _ => exact .next (s.mailbox_onward ..)
  | .mbGetFwInfo _ => exact .next (s.mailbox_onward ..)
  | .mbTransferFw _ _ _ _ => exact .next (s.mailbox_onward ..)
  | .mbActivateFw _ _ _ => exact .next (s.mailbox_onward ..)
  | .mbIdentifyMemdev _ => exact .next (s.mailbox_onward ..)
  | .mbGetHealthInfo _ => exact .next (s.mailbox_onward ..)
  | .mbGetPoisonList _ _ _ => exact .next (s.mailbox_onward ..)
  | .mbGetDcConfig _ => exact .next (s.mailbox_onward ..)
  | .mbGetDcExtentList _ => exact .next (s.mailbox_onward ..)
  | .energyRead _ => exact .next (s.mailbox_onward ..)
  | .marginRead _ => exact .next (s.mailbox_onward ..)
  | .deviceLogRead _ _ => exact .next (s.mailbox_onward ..)
  | .regAccess _ _ _ => exact .next (s.mailbox_onward ..)
  | .mbUnsupportedOpcode _ _ => exact .next (s.mailbox_onward ..)
  | .fwuVerify _ => exact .next (s.writeFwu_onward ..)
  | .fwuLoad _ => exact .next (s.writeFwu_onward ..)
  | .fwuReady _ => exact .next (s.writeFwu_onward ..)
  | .fwuSwitch _ => exact .next (s.writeFwu_onward ..)
  | .fwuConfirm _ => exact .next (s.writeFwu_onward ..)
  | .fwuRollback _ => exact .next (s.writeFwu_onward ..)
  | .trialTimeout => exact execTrialTimeout_goes s
  | .fwuCancel _ => exact .next (s.writeFwu_onward ..)
  | .raiseSvn _ => exact .next (s.writeFwu_onward ..)
  | .cfgRecordWrite => exact execCfgRecordWrite_goes s
  | .cfgRecordCommit => exact execCfgRecordCommit_goes s
  | .cfgRecordWait => exact execCfgRecordWait_goes s
  | .cfgWaitTimeout => exact execCfgWaitTimeout_goes s
  | .cfgRecordEnd => exact execCfgRecordEnd_goes s
  | .fatalLane slot => exact execFatalLane_goes slot s
  | .faultFrame site cls row col cause => exact execFaultFrame_goes site cls row col cause s
  | .frameCheckFail slot => exact execFrameCheckFail_goes slot s
  | .heartbeatLoss slot => exact execHeartbeatLoss_goes slot s
  | .quietPeriodEnd unit => exact execQuietPeriodEnd_goes unit s
  | .recoveryFail unit => exact execRecoveryFail_goes unit s
  | .fcExit _ _ => exact .next (s.writeFc_onward ..)
  | .fcRecover _ _ => exact .next (s.writeFc_onward ..)
  | .fcInject _ _ _ => exact .next (s.writeFc_onward ..)
  | .frecClear m page => exact execFrecClear_goes m page s
  | .frec0Read _ _ => exact .next (s.access_onward ..)
  | .eventRaise src why => exact execEventRaise_goes src why s
  | .evtStatusClear m place val => exact execEvtStatusClear_goes m place val s
  | .evtEnableWrite m place val => exact execEvtEnableWrite_goes m place val s
  | .evtRouteWrite m page val => exact execEvtRouteWrite_goes m page val s
  | .evrRouteWrite m val => exact execEvrRouteWrite_goes m val s
  | .pmcClear m page ctl => exact execPmcClear_goes m page ctl s
  | .pmcGctlRun m run => exact execPmcGctlRun_goes m run s
  | .pmcGctlClear m run => exact execPmcGctlClear_goes m run s
  | .pmcLoRead _ _ _ => exact .next (s.access_onward ..)
  | .counterOverflow page k => exact execCounterOverflow_goes page k s
  | .traceRecordWrite => exact execTraceRecordWrite_goes s
  | .commitGo _ _ => exact .next (s.writeCommit_onward ..)
  | .commitApply page => exact execCommitApply_goes page s
  | .commitDiscard _ _ => exact .next (s.writeCommit_onward ..)
  | .lockAcquire _ _ _ => exact .next (s.writeLock_onward ..)
  | .lockRelease _ _ => exact .next (s.writeLock_onward ..)
  | .lockForce _ _ => exact .next (s.writeLock_onward ..)
  | .lockLeaseExpiry page => exact execLockLeaseExpiry_goes page s
  | .ctrlHold m page hold => exact execCtrlHold_goes m page hold s
  | .devMgmtWrite m ld => exact execDevMgmtWrite_goes m ld s
  | .registerWrite m off val be => exact execRegisterWrite_goes m off val be s
  | .auxLoss => exact execAuxLoss_goes s
  | .loopLockLoss loop => exact execLoopLockLoss_goes loop s
  | .hardRepairEnd c ok => exact execHardRepairEnd_goes c ok s
  | .serialLinkReturn => exact execSerialLinkReturn_goes s
  | .recoveryCounterStore => exact execRecoveryCounterStore_goes s
  | .coreLoad c addr fetch => exact execCoreLoad_goes c addr fetch s
  | .coreStore c addr size data => exact execCoreStore_goes c addr size data s
  | .writeBufferDrain c => exact execWriteBufferDrain_goes c s
  | .tapInstruction op => exact execTapInstruction_goes op s
  | .commandedChangeStart e => exact execCommandedChangeStart_goes e s
  | .railFallen k => exact execRailFallen_goes k s

theorem exec_onward {i : Instr} {s t : State} (h : ∀ b, i ≠ .auxReset .auxRise b) (e : exec i s = .next t) :
    s.Onward t := by
  obtain ⟨u, eu, hu⟩ := exec_goes h s
  cases eu.symm.trans e
  exact hu

/-- A step follows too: it waits for the next count, or runs a command that follows. -/
theorem step_now_le {s t : State} (h : ∀ b, s.pending.head? ≠ some (.auxReset .auxRise b)) (e : step s = .next t) :
    s.now ≤ t.now := by
  cases queue : s.pending with
  | nil =>
    cases (step_of_empty queue).symm.trans e
    exact (s.reach_onward _).1
  | cons c rest =>
    exact (exec_onward (s := s.withPending rest) (fun b hb => h b (by rw [queue, hb]; rfl))
      ((step_of_cons queue).symm.trans e)).1

end Sys2Proof.Machine

open Sys2Proof Sys2Proof.Machine

/-- Settles O5: every command but the rise of AUX answers a state that follows, and AUX rises at 0. -/
theorem timeNeverDecreases : Obligations.TimeNeverDecreases := by
  refine ⟨fun i s t h e => (exec_onward h e).1, fun s t h e => step_now_le h e, fun s t b e => ?_⟩
  obtain rfl := Host.Outcome.next.inj ((exec_auxRise b s).symm.trans e)
  exact s.auxBoot_now true b
end

section
/-! SUPPORT. Register pages: what a page reads back of its site, and the sites of the pages of a port group. -/

namespace Sys2Proof.Machine

/-! ### A page and its fields (R37) -/

theorem mkPage_lt {slot cl sl en : Nat} (hslot : slot < 16) (hcl : cl < 4) (hsl : sl < 16) (hen : en < 64) :
    mkPage slot cl sl en < 65536 := by
  unfold mkPage; omega

theorem pgSlot_mkPage {slot cl sl en : Nat} (hslot : slot < 16) (hcl : cl < 4) (hsl : sl < 16) (hen : en < 64) :
    pgSlot (mkPage slot cl sl en) = slot := by
  unfold pgSlot mkPage; omega

theorem pgCluster_mkPage {cl sl en : Nat} (slot : Nat) (hcl : cl < 4) (hsl : sl < 16) (hen : en < 64) :
    pgCluster (mkPage slot cl sl en) = cl := by
  unfold pgCluster mkPage; omega

theorem pgSlice_mkPage {sl en : Nat} (slot cl : Nat) (hsl : sl < 16) (hen : en < 64) :
    pgSlice (mkPage slot cl sl en) = sl := by
  unfold pgSlice mkPage; omega

theorem pgEngine_mkPage {en : Nat} (slot cl sl : Nat) (hen : en < 64) : pgEngine (mkPage slot cl sl en) = en := by
  unfold pgEngine mkPage; omega

/-! ### Site codes and window offsets (R28, R37) -/

/-- The macro stands below the page in a site code. -/
theorem siteOfPage_div (p : Nat) : siteOfPage p / 256 = p := by
  unfold siteOfPage; omega

theorem pageOfSite_toNat (c : BitVec 24) : pageOfSite c.toNat = (c.extractLsb' 8 16).toNat := by
  rw [BitVec.extractLsb'_toNat, Nat.shiftRight_eq_div_pow]; rfl

theorem winOff_zero (p : Nat) : winOff p 0 = p * 4096 := Nat.add_zero _

theorem winOff_lt {p x : Nat} (hp : p < 65536) (hx : x < 4096) : winOff p x < 2 ^ 28 := by
  unfold winOff; omega

theorem winOff_div {x : Nat} (p : Nat) (hx : x < 4096) : winOff p x / 4096 = p := by
  unfold winOff; omega

theorem winOff_mod {x : Nat} (p : Nat) (hx : x < 4096) : winOff p x % 4096 = x := by
  unfold winOff; omega

/-! ### Port groups (R21, R34, R35) -/

/-- Link 4n + k is slice k of the cluster of port group n. -/
theorem linkPage_of_group {k : Nat} (n e : Nat) (hk : k < 4) :
    linkPage (4 * n + k) e = mkPage (4 + n / 2) (n % 2) k e := by
  unfold linkPage
  congr 1 <;> omega

/-- A page lies in the cluster of port group n: in cluster n mod 2 of slot 4 + n / 2, where it has a site. -/
def InPortGroup (n p : Nat) : Prop :=
  pgSlot p = 4 + n / 2 ∧ pgCluster p = n % 2 ∧ grpOfPage p = n ∧ ozSite p = true

/-- The engines of a slice in a cluster of a Chervil that serves a port group (R35). -/
theorem engines_of_group {n : Nat} (hn : n < 4) (sl : Nat) : engines (4 + n / 2) (n % 2) sl =
    if sl < 4 then 6 else if sl = 4 then 1 else if sl = 5 then 2 else 0 := by
  have chervil : 4 + n / 2 = 4 ∨ 4 + n / 2 = 5 := by omega
  have cluster : n % 2 < 2 := by omega
  unfold engines
  rcases chervil with slot | slot <;> simp [slot, cluster]

/-- The page of an engine, or of a slice as a whole (engine 63, R29), of the cluster of a port group lies in it. -/
theorem mkPage_inPortGroup {n sl en : Nat} (hn : n < 4) (hsl : sl < 6)
    (hen : en = 63 ∨ en < engines (4 + n / 2) (n % 2) sl) : InPortGroup n (mkPage (4 + n / 2) (n % 2) sl en) := by
  have count := engines_of_group hn sl
  have some_engine : 0 < engines (4 + n / 2) (n % 2) sl := by rw [count]; split_ifs <;> omega
  have few_engines : engines (4 + n / 2) (n % 2) sl ≤ 6 := by rw [count]; split_ifs <;> omega
  have slot_lt : 4 + n / 2 < 16 := by omega
  have cluster_lt : n % 2 < 4 := by omega
  have slice_lt : sl < 16 := by omega
  have engine_lt : en < 64 := by omega
  have slot := pgSlot_mkPage slot_lt cluster_lt slice_lt engine_lt
  have cluster := pgCluster_mkPage (4 + n / 2) cluster_lt slice_lt engine_lt
  have slice := pgSlice_mkPage (4 + n / 2) (n % 2) slice_lt engine_lt
  have engine := pgEngine_mkPage (4 + n / 2) (n % 2) sl engine_lt
  have page_lt := mkPage_lt slot_lt cluster_lt slice_lt engine_lt
  have chervil : ozSlot (4 + n / 2) = true := by
    have : 4 + n / 2 = 4 ∨ 4 + n / 2 = 5 := by omega
    rcases this with h | h <;> rw [h] <;> rfl
  refine ⟨slot, cluster, ?_, ?_⟩
  · rw [grpOfPage, slot, cluster]; omega
  · have not_three : n % 2 ≠ 3 := by omega
    have not_whole : sl ≠ 15 := by omega
    simpa [ozSite, slot, cluster, slice, engine, chervil, page_lt, not_three, not_whole, some_engine] using hen

theorem hpgsPage_inPortGroup {n : Nat} (hn : n < 4) : InPortGroup n (hpgsPage n) :=
  mkPage_inPortGroup hn (by decide) (.inr (by simp [engines_of_group hn]))

theorem phyPage_inPortGroup {n : Nat} (hn : n < 4) : InPortGroup n (phyPage n) :=
  mkPage_inPortGroup hn (by decide) (.inr (by simp [engines_of_group hn]))

/-- A link has engines 0 to 5 and the page of its slice (R34). -/
theorem linkPage_inPortGroup {n k e : Nat} (hn : n < 4) (hk : k < 4) (he : e = 63 ∨ e < 6) :
    InPortGroup n (linkPage (4 * n + k) e) := by
  rw [linkPage_of_group n e hk]
  exact mkPage_inPortGroup hn (by omega) (by simpa [engines_of_group hn, hk] using he)

end Sys2Proof.Machine
end

section
/-! PROOF. The register pages of sites and of port groups. -/

open Sys2Proof Sys2Proof.Machine

/-- Settles O8: each field of a page and of a window offset lies below the weight of the next one. -/
theorem registerPagesOfSites : Obligations.RegisterPagesOfSites := by
  refine ⟨fun slot cl sl en x hslot hcl hsl hen hx => ?_, pageOfSite_toNat⟩
  have page_lt := mkPage_lt hslot hcl hsl hen
  exact ⟨rfl, page_lt, pgSlot_mkPage hslot hcl hsl hen, pgCluster_mkPage slot hcl hsl hen, pgSlice_mkPage slot cl hsl hen,
    pgEngine_mkPage slot cl sl hen, siteOfPage_div _, winOff_zero _, rfl, winOff_lt page_lt hx, winOff_div _ hx,
    winOff_mod _ hx⟩

/-- Settles O9: each of the pages is an engine, or the page of a slice, in the cluster of its port group. -/
theorem portGroupsAreClusters : Obligations.PortGroupsAreClusters := by
  intro n k hn hk
  refine ⟨fun p hp => ?_, ?_⟩
  · change InPortGroup n p
    simp only [List.mem_cons, List.not_mem_nil, or_false] at hp
    obtain rfl | rfl | rfl | rfl | rfl := hp
    · exact hpgsPage_inPortGroup hn
    · exact phyPage_inPortGroup hn
    · exact linkPage_inPortGroup hn hk (by decide)
    · exact linkPage_inPortGroup hn hk (by decide)
    · exact linkPage_inPortGroup hn hk (by decide)
  · rw [linkPage_of_group n 0 hk]
    exact pgSlice_mkPage _ _ (by omega) (by decide)
end

section
/-! SUPPORT. Host links under the table of link states: what the events of the table leave of a link, and what a register
access leaves of the links. -/

namespace Sys2Proof.Machine

/-! ### Reading a link -/

@[simp] theorem State.onLink_link_same (s : State) (l : Nat) (f : Link → Link) : (s.onLink l f).link l = f (s.link l) := by
  simp [State.onLink, State.link]

@[simp] theorem State.onLink_link_ne (s : State) (l k : Nat) (f : Link → Link) (h : k ≠ l) :
    (s.onLink l f).link k = s.link k := by
  simp [State.onLink, State.link, h]

@[simp] theorem State.unlockIfDown_link (s : State) (was : Bool) (k : Nat) : (s.unlockIfDown was).link k = s.link k := by
  rw [State.link, State.unlockIfDown_links, State.link]

@[simp] theorem State.reach_link (s : State) (t k : Nat) : (s.reach t).link k = s.link k := by
  simp [State.link, State.reach_keeps]

@[simp] theorem State.onLd_link (s : State) (n k : Nat) (f : LogicalDev → LogicalDev) : (s.onLd n f).link k = s.link k := by
  simp [State.link]

@[simp] theorem State.tagsFit_link (s : State) (l k : Nat) : (s.tagsFit l).link k = s.link k := by
  refine State.when_inv (fun t : State => t.link k) s _ _ fun t => ?_
  exact State.each_inv (fun t : State => t.link k) t _ _ fun u n => u.onLd_link n k _

/-- A command completes with what its next state shows. -/
theorem Completes.of_exec {i : Instr} {s t : State} {P : State → Prop} (h : exec i s = .next t) (p : P t) : Completes i s P :=
  ⟨t, h, p⟩

theorem State.when_pos (s : State) {b : Bool} {f : State → State} (h : b = true) : s.when b f = f s := if_pos h

/-- A link in which traffic flows is not in L1. -/
theorem Link.flows_ne_l1 {k : Link} (h : k.flows = true) : k.st ≠ .l1 := by
  intro e; simp [Link.flows, e] at h

/-! ### Links that have only carried a transaction -/

/-- A link that is not in L1 has its rate, widths and state left by calm operations. -/
theorem LinkCalm.settled {a b : Link} (h : LinkCalm a b) (n : a.st ≠ .l1) :
    b.st = a.st ∧ b.rate = a.rate ∧ b.width = a.width ∧ b.active = a.active ∧ b.flit = a.flit ∧ b.ownReq = a.ownReq := by
  obtain ⟨st, active⟩ := h.st n
  obtain ⟨same, -⟩ := h
  exact ⟨st, by rw [same], by rw [same], active, by rw [same], by rw [same]⟩

theorem LinkCalm.cxl {a b : Link} (h : LinkCalm a b) : b.cxl = a.cxl := by rw [h.1]

theorem LinkCalm.corr {a b : Link} (h : LinkCalm a b) : b.corr = a.corr := by rw [h.1]

theorem LinkCalm.cfgReadyAt {a b : Link} (h : LinkCalm a b) : b.cfgReadyAt = a.cfgReadyAt := by rw [h.1]

theorem LinksCalm.unlockIfDown (s : State) (was : Bool) : LinksCalm s (s.unlockIfDown was) :=
  .of_eq (s.unlockIfDown_links was)

/-! ### Recovery and L0p -/

/-- Recovery that succeeds leaves the link in L0 at a rate and width within what both ends offer (R60). -/
theorem State.recovered_link (s : State) (l rate width : Nat) :
    ((s.recovered l rate width).link l).st = .l0 ∧
    ((s.recovered l rate width).link l).rate = min rate (s.rateCap l (s.link l).offer) ∧
    ((s.recovered l rate width).link l).width = min width (s.widthCap l (s.link l).offer) ∧
    ((s.recovered l rate width).link l).active = ((s.recovered l rate width).link l).width := by
  unfold State.recovered
  extract_lets old r w plain cxl was s1 s2 s3
  have calm : LinksCalm s1 (s3.unlockIfDown was) :=
    ((s1.when_calm _ _ fun t => t.raiseLink_calm l 2 none 0).trans
      (s2.when_calm _ _ fun t => t.raiseLink_calm l 4 none 0)).trans (.unlockIfDown s3 was)
  have up : (s1.link l).st = .l0 := by simp [s1]
  obtain ⟨st, rate, width, active, -⟩ := (calm l).settled (by rw [up]; decide)
  rw [st, rate, width, active]
  simp [s1, r, w, old]

/-- An L0p change leaves the link at the width agreed, in L0 where it is the full one (R60). -/
theorem State.l0pTo_link (s : State) (l w : Nat) :
    ((s.l0pTo l w).link l).active = w ∧ ((s.l0pTo l w).link l).ownReq = none ∧
    ((s.l0pTo l w).link l).st = if w = (s.link l).width then .l0 else .l0p := by
  unfold State.l0pTo
  extract_lets k s1
  have calm : LinksCalm s1 (s1.when (k.active != w) fun s => s.raiseLink l 3 none 0) :=
    s1.when_calm _ _ fun t => t.raiseLink_calm l 3 none 0
  have st1 : (s1.link l).st = if w = (s.link l).width then .l0 else .l0p := by simp [s1]
  obtain ⟨st, -, -, active, -, own⟩ := (calm l).settled (by rw [st1]; split <;> decide)
  rw [st, active, own, st1]
  simp [s1]

/-- Whether L0p may be used on a link is not a matter of what the device asked for. -/
theorem State.l0pUse_withdrawn (s : State) (l : Nat) :
    (s.onLink l fun k => { k with ownReq := none }).l0pUse l = s.l0pUse l := by
  unfold State.l0pUse
  rw [State.onLink_link_same]
  rfl

/-! ### Arrivals -/

theorem State.useLink_calm (s : State) (l : Nat) : LinksCalm s (s.useLink l) := (s.useLink_quiet l).1

/-- An arrival uses the link, and the width that the device asked for grows to the full one (R62). -/
theorem State.arriveOn_link (s : State) (l : Nat) : (s.arriveOn l).link l =
    { (s.useLink l).link l with ownReq := ((s.useLink l).link l).ownReq.map (max · ((s.useLink l).link l).width) } := by
  rw [State.arriveOn, State.onLink_link_same]

theorem State.arriveOn_st (s : State) (l k : Nat) (h : (s.link k).st ≠ .l1) : ((s.arriveOn l).link k).st = (s.link k).st := by
  rw [← ((s.useLink_calm l k).st h).1]
  by_cases e : k = l
  · rw [e, State.arriveOn_link]
  · rw [State.arriveOn, State.onLink_link_ne _ _ _ _ e]

@[simp] theorem State.arriveOn_cfgReadyAt (s : State) (l : Nat) :
    ((s.arriveOn l).link l).cfgReadyAt = (s.link l).cfgReadyAt := by
  rw [State.arriveOn_link]
  exact (s.useLink_calm l l).cfgReadyAt

@[simp] theorem State.arriveOn_now (s : State) (l : Nat) : (s.arriveOn l).now = s.now := (rfl)

@[simp] theorem State.arriveOn_ld (s : State) (l n : Nat) : (s.arriveOn l).ld n = s.ld n := (rfl)

@[simp] theorem State.arriveOn_granted (s : State) (l n e : Nat) : (s.arriveOn l).granted n e = s.granted n e := (rfl)

@[simp] theorem State.arriveOn_sliceOut (s : State) (l hs : Nat) : (s.arriveOn l).sliceOut hs = s.sliceOut hs := (rfl)

@[simp] theorem State.arriveOn_groupFatal (s : State) (l k : Nat) : (s.arriveOn l).groupFatal k = s.groupFatal k := (rfl)

@[simp] theorem State.arriveOn_ioBars (s : State) (l ld : Nat) : (s.arriveOn l).ioBars l ld = s.ioBars l ld := by
  have cxl : ((s.arriveOn l).link l).cxl = (s.link l).cxl := by
    rw [State.arriveOn_link]
    exact (s.useLink_calm l l).cxl
  rw [State.ioBars, State.arriveOn_ld, cxl, State.ioBars]

/-! ### Register accesses -/

/-- Ports of the host as they are where a write that passes has stored its fields. -/
@[simp] theorem State.written_host (s : State) (m : Master) (off : Nat) (v : Word) :
    (s.written m off v).host = (s.met m off).host := by
  simp [State.written, State.storeWrite_keeps, State.touchLock_keeps, State.usedAt_keeps, State.countAccess_keeps]

@[simp] theorem State.finish_host (s : State) (m : Master) : (s.finish m).host = s.host := by
  simp [State.finish_keeps]

/-- A master's access that arrives takes no link out of a state but L1. -/
theorem State.met_st (s : State) (m : Master) (off k : Nat) (h : (s.link k).st ≠ .l1) :
    ((s.met m off).link k).st = (s.link k).st := by
  have arrived : ((s.arrives m).link k).st = (s.link k).st := by
    unfold State.arrives State.heard
    split
    · split
      · exact s.arriveOn_st _ k h
      · rfl
    · rfl
  rw [← arrived, State.link, State.met, (State.afterChange_keeps _ _).2.2.2.2.2.2.2.1, State.link]

end Sys2Proof.Machine
end

section
/-! PROOF. The table of link states. -/

namespace Sys2Proof.Machine

/-- RETRAIN that every check lets pass puts the link in Recovery at its present settings. -/
theorem exec_retrain_link {s : State} {m : Master} {l : Fin 16} (pass : s.accepts m (winOff (linkPage l.val 0) 0x80) = true)
    (flows : (s.link l.val).flows = true) : Completes (.retrain m l) s fun t =>
      t.link l.val = { (s.met m (winOff (linkPage l.val 0) 0x80)).link l.val with st := .recovery } := by
  refine .of_exec (congrArg Host.Outcome.next (s.gate_accepts m _ _ _ pass)) ?_
  have same (v : Word) : (s.written m (winOff (linkPage l.val 0) 0x80) v).link l.val =
      (s.met m (winOff (linkPage l.val 0) 0x80)).link l.val := by
    rw [State.link, State.written_host, State.link]
  have flows' : ((s.met m (winOff (linkPage l.val 0) 0x80)).link l.val).flows = true := by
    rw [Link.flows, s.met_st m _ _ (Link.flows_ne_l1 flows), ← Link.flows, flows]
  rw [State.link, State.finish_host, ← State.link, State.retrainLink, same, flows', State.when_true, State.onLink_link_same,
    same]

end Sys2Proof.Machine

open Sys2Proof Sys2Proof.Machine

/-- Settles O14: each event of the table on a link in a state that the table names for it. -/
theorem hostLinkStateTable : Obligations.HostLinkStateTable := by
  refine ⟨fun s l byHost flows => ?recoveryEntry, fun s l r w st => ?recoverySucceeds, fun s l st => ?recoveryFails,
    fun s l w use fits => ?l0pRequest, fun s l flows => ?retrainRequest, fun s l w use narrower => ?narrow,
    fun s l st => ?widen, fun s l flows aspm on idle => ?l1Entry, fun s l st => ?l1Exit, fun s l flows => ?pmeTurnOff,
    fun s m l pass flows => exec_retrain_link pass flows⟩
  case recoveryEntry => exact congrArg Host.Outcome.next (s.when_pos flows)
  case recoverySucceeds =>
    exact .of_exec (congrArg Host.Outcome.next (s.when_pos (by rw [st]; rfl))) (s.recovered_link l.val r.val w.val)
  case recoveryFails =>
    exact .of_exec (congrArg Host.Outcome.next (s.when_pos (by rw [st]; rfl))) (s.linkLost_link l.val 4 (by rw [st]; decide)).1
  case l0pRequest =>
    have flows : (s.link l.val).flows = true := by
      simp only [State.l0pUse, Bool.and_eq_true] at use; exact use.1.1.1
    refine ⟨(s.onLink l.val fun k => { k with ownReq := none }).l0pTo l.val w.val, congrArg Host.Outcome.next ?_, ?_⟩
    · rw [s.when_pos flows, State.when_pos _ (by simp [State.l0pUse_withdrawn, use, fits])]
    · obtain ⟨active, own, st⟩ := (s.onLink l.val fun k => { k with ownReq := none }).l0pTo_link l.val w.val
      exact ⟨active, own, by rw [st, State.onLink_link_same]⟩
  case retrainRequest =>
    have st : ((s.onLink l.val fun k => { k with ownReq := none }).link l.val).flows = true := by
      rw [State.onLink_link_same]; exact flows
    refine .of_exec (t := (s.onLink l.val fun k => { k with ownReq := none }).onLink l.val fun k => { k with st := .recovery })
      (congrArg Host.Outcome.next ?_) ?_
    · rw [s.when_pos flows, State.when_pos _ st]
    · rw [State.onLink_link_same, State.onLink_link_same]
  case narrow =>
    have go (f : State → State) : s.when (s.l0pUse l.val && decide (w.val < (s.link l.val).active)) f = f s :=
      s.when_pos (by simp [use, narrower])
    refine ⟨.of_exec (congrArg Host.Outcome.next (go _)) ?_, congrArg Host.Outcome.next (go _)⟩
    obtain ⟨active, -, st⟩ := (s.reach ((s.link l.val).widthAt + us 100)).l0pTo_link l.val w.val
    rw [State.reach_link] at st; exact ⟨active, st⟩
  case widen =>
    have go (f : State → State) : s.when ((s.link l.val).st == .l0p) f = f s := s.when_pos (by rw [st]; rfl)
    refine ⟨.of_exec (congrArg Host.Outcome.next (go _)) ?_, congrArg Host.Outcome.next (go _)⟩
    obtain ⟨active, -, st⟩ := s.l0pTo_link l.val (s.link l.val).width
    rw [if_pos rfl] at st; exact ⟨active, st⟩
  case l1Entry =>
    refine congrArg Host.Outcome.next (s.when_pos ?_)
    simp [flows, aspm, on, idle]
  case l1Exit => exact congrArg Host.Outcome.next (s.when_pos (by rw [st]; rfl))
  case pmeTurnOff =>
    refine .of_exec rfl ?_
    rw [State.unlockIfDown_link, s.when_pos flows, State.onLink_link_same]
end

section
/-! SUPPORT. Running descriptors: what a change of one, the reads that are sent for them, and their ends leave of them. -/

namespace Sys2Proof.Machine

/-! ### Changing a descriptor -/

/-- A running descriptor is found under its ring index. -/
theorem State.desc_ix {s : State} {q ix : Nat} {d : Desc} (h : s.desc q ix = some d) : d.ix = ix := by
  simpa using List.find?_some h

/-- The descriptors of a queue after a change of one that keeps its ring index. -/
theorem State.onDesc_desc (s : State) (q ix : Nat) {f : Desc → Desc} (keep : ∀ d, (f d).ix = d.ix) (q' ix' : Nat) :
    (s.onDesc q ix f).desc q' ix' =
      if q' = q then (s.desc q' ix').map (fun d => if d.ix = ix then f d else d) else s.desc q' ix' := by
  by_cases e : q' = q
  · subst e
    have same (d : Desc) : ((if d.ix = ix then f d else d).ix == ix') = (d.ix == ix') := by
      by_cases h : d.ix = ix <;> simp [h, keep]
    simp [State.desc, State.onDesc, State.onQueue, State.queue, List.find?_map, same]
  · simp [State.desc, State.onDesc, State.onQueue, State.queue, e]

theorem State.onDesc_desc_same (s : State) (q ix : Nat) {f : Desc → Desc} (keep : ∀ d, (f d).ix = d.ix) :
    (s.onDesc q ix f).desc q ix = (s.desc q ix).map f := by
  rw [s.onDesc_desc q ix keep, if_pos rfl]
  cases h : s.desc q ix with
  | none => rfl
  | some d => simp [State.desc_ix h]

theorem State.desc_congr {s t : State} (h : t.dm = s.dm) (q ix : Nat) : t.desc q ix = s.desc q ix := by
  rw [State.desc, State.queue, h, State.desc, State.queue]

/-! ### Sending reads -/

/-- A descriptor without the host ranges that it still has to ask for. -/
def Desc.sansWant (d : Desc) : Desc := { d with want := [] }

/-- Every running descriptor is as it was, but for the host ranges that it still has to ask for. -/
def KeepsDescs (s t : State) : Prop := ∀ q ix, (t.desc q ix).map Desc.sansWant = (s.desc q ix).map Desc.sansWant

theorem KeepsDescs.refl (s : State) : KeepsDescs s s := fun _ _ => rfl

theorem KeepsDescs.trans {s t u : State} (h : KeepsDescs s t) (g : KeepsDescs t u) : KeepsDescs s u :=
  fun q ix => (g q ix).trans (h q ix)

theorem KeepsDescs.of_eq {s t : State} (h : t.dm = s.dm) : KeepsDescs s t := fun q ix => by rw [State.desc_congr h]

theorem KeepsDescs.each {α : Type} {l : List α} {f : State → α → State} (h : ∀ t a, KeepsDescs t (f t a)) (s : State) :
    KeepsDescs s (s.each l f) :=
  foldl_holds (P := KeepsDescs s) (.refl s) fun t a g => g.trans (h t a)

/-- What a kept descriptor shows beside what it has to ask for. -/
theorem KeepsDescs.some {s t : State} (h : KeepsDescs s t) {q ix : Nat} {d : Desc} (hd : s.desc q ix = some d) :
    ∃ d', t.desc q ix = some d' ∧ d'.sansWant = d.sansWant := by
  have k := h q ix
  rw [hd] at k
  exact Option.map_eq_some_iff.1 k

theorem State.onDesc_want (s : State) (q ix : Nat) (w : Desc → List (Nat × Nat)) :
    KeepsDescs s (s.onDesc q ix fun d => { d with want := w d }) := by
  intro q' ix'
  rw [s.onDesc_desc q ix (f := fun d => { d with want := w d }) fun _ => rfl]
  split
  · rw [Option.map_map]
    congr 1
    funext d
    by_cases h : d.ix = ix <;> simp [h, Desc.sansWant]
  · rfl

theorem State.issueOne_dm {s : State} {q ix a n : Nat} {r : State × Nat} (h : s.issueOne q ix a n = some r) : r.1.dm = s.dm := by
  obtain ⟨-, -, -, -, -, -, -, -, -, -, -, -, dm, -⟩ := State.issueOne_keeps _ _ _ _ _ h
  exact dm

theorem State.issueReads_descs (f q ix : Nat) (s : State) : KeepsDescs s (s.issueReads f q ix) := by
  fun_induction State.issueReads f q ix s with
  | case5 _ _ _ _ _ _ _ _ _ _ _ _ h ih =>
    refine KeepsDescs.trans (KeepsDescs.of_eq ?_) ((State.onDesc_want _ _ _ _).trans ih)
    exact State.issueOne_dm h
  | _ => exact .refl _

/-- The reads that are sent change no descriptor beside what it has to ask for. -/
theorem State.pumpReads_descs (s : State) (q : Nat) : KeepsDescs s (s.pumpReads q) := by
  unfold State.pumpReads
  split
  · exact .refl s
  · exact .each (fun t _ => .each (fun u _ => State.issueReads_descs _ _ _ u) t) s

/-! ### Ends -/

/-- A descriptor that has ended is as its end leaves it. -/
theorem State.endDesc_desc {s : State} {q ix : Nat} {f : Desc → Desc} {d : Desc} (h : s.desc q ix = some d)
    (keep : ∀ d, (f d).ix = d.ix) : ∃ d', (s.endDesc q ix f).desc q ix = some d' ∧
      d'.sansWant = (f { d with ended := true, want := [], flushing := false }).sansWant := by
  unfold State.endDesc
  extract_lets who s1 home s2
  have found : s2.desc q ix = some d := h
  have changed := s2.onDesc_desc_same q ix (f := fun d => f { d with ended := true, want := [], flushing := false })
    fun d => keep _
  rw [found] at changed
  refine KeepsDescs.some (.trans (.of_eq ?_) (State.pumpReads_descs _ q)) changed
  simp [State.descEvent_keeps]

/-- A descriptor whose operation fails has ended with the status and the offset. -/
theorem State.failDesc_desc {s : State} {q ix : Nat} {d : Desc} (h : s.desc q ix = some d) (st off : Nat) :
    ∃ d', (s.failDesc q ix st off).desc q ix = some d' ∧ d'.ended = true ∧ d'.status = st := by
  unfold State.failDesc
  extract_lets s1
  have same : s1.dm = s.dm := by simp [s1, h, State.staleHandle, State.raise_keeps]
  obtain ⟨d', found, eq⟩ := State.endDesc_desc (f := fun d => { d with status := st, offset := off })
    ((State.desc_congr same q ix).trans h) fun _ => rfl
  exact ⟨d', found, congrArg Desc.ended eq, congrArg Desc.status eq⟩

/-- A read of a descriptor's operand that fails ends the descriptor with a status (R73). -/
theorem State.readFailed_desc {s : State} {r : ReqRead} {d : Desc} (h : s.desc r.queue r.ix = some d) (ix : r.ix ≠ ringIx)
    (flush : d.flushing = false) (st a : Nat) :
    ∃ d', (s.readFailed r st a).desc r.queue r.ix = some d' ∧ d'.ended = true ∧ d'.status = st := by
  rw [State.readFailed, if_neg ix, h]
  simp only [flush, Bool.false_eq_true, if_false]
  exact State.failDesc_desc h st _

/-! ### Bytes placed by address -/

theorem lookOpt_enter {α : Type} (v : α) (t : Table α) (k j : Nat) :
    look? (enter v t k) j = if j = k then some v else look? t j := by
  induction t with
  | nil => simp [enter, look?, eq_comm]
  | cons e t ih =>
    obtain ⟨k', v'⟩ := e
    simp only [enter]
    split
    · simp only [look?, eq_comm]
    · split
      next h => subst h; by_cases e : j = k' <;> simp [look?, e, Ne.symm]
      next h =>
        simp only [look?, ih]
        by_cases e : k' = j
        · subst e; simp [h]
        · simp [e]

/-- What an address reads after cells have been placed, all those of the address with one value. -/
theorem lookOpt_place {α : Type} (cells : List (Nat × α)) (t : Table α) (a : Nat) (v : α) (one : ∀ c ∈ cells, c.1 = a → c.2 = v)
    (known : a ∈ cells.map (·.1) ∨ look? t a = some v) :
    look? (cells.foldl (fun t c => enter c.2 t c.1) t) a = some v := by
  induction cells generalizing t with
  | nil => simpa using known
  | cons c cells ih =>
    refine ih _ (fun x hx => one x (List.mem_cons_of_mem _ hx)) ?_
    rw [lookOpt_enter]
    by_cases e : a = c.1
    · exact .inr (by rw [if_pos e, one c List.mem_cons_self e.symm])
    · rw [if_neg e]
      simpa [e] using known

/-- The bytes of a list with their places. -/
theorem mem_zip_upTo {α : Type} {l : List α} {e : α × Nat} (h : e ∈ l.zip (upTo l.length)) : l[e.2]? = some e.1 := by
  obtain ⟨i, hi, rfl⟩ := List.mem_iff_getElem.1 h
  simp [upTo]

/-- The cells of a completion's data that lie in a read: its bytes by address (R70). -/
def dataCells (r : ReqRead) (addr : Nat) (data : List Byte) : List (Nat × Option Byte) :=
  ((data.zip (upTo data.length)).map fun e => (addr + e.2, some e.1)).filter fun c =>
    decide (r.addr ≤ c.1) && decide (c.1 < r.addr + r.len)

theorem dataCells_value {r : ReqRead} {addr : Nat} {data : List Byte} {c : Nat × Option Byte} (h : c ∈ dataCells r addr data)
    {k : Nat} (at_ : c.1 = addr + k) : c.2 = some (data.getD k 0) := by
  obtain ⟨⟨b, j⟩, mem, rfl⟩ := List.mem_map.1 (List.mem_of_mem_filter h)
  obtain rfl : j = k := by simpa using at_
  simp [mem_zip_upTo mem]

theorem dataCells_mem {r : ReqRead} {addr : Nat} {data : List Byte} {k : Nat} (lt : k < data.length) (lo : r.addr ≤ addr + k)
    (hi : addr + k < r.addr + r.len) : addr + k ∈ (dataCells r addr data).map (·.1) := by
  refine List.mem_map.2 ⟨(addr + k, some data[k]), List.mem_filter.2 ⟨List.mem_map.2 ⟨(data[k], k), ?_, rfl⟩, ?_⟩, rfl⟩
  · exact List.mem_iff_getElem.2 ⟨k, by simpa [upTo] using lt, by simp [upTo]⟩
  · simp [lo, hi]

/-- The end of a flush read keeps the bytes that a descriptor has. -/
theorem State.flushDone_buf {s : State} {q ix : Nat} {d : Desc} (h : s.desc q ix = some d) :
    ∃ d', (s.flushDone q ix true).desc q ix = some d' ∧ d'.buf = d.buf := by
  obtain ⟨d', found, eq⟩ := State.endDesc_desc (f := fun d => { d with status := if d.count = 0 then 1 else 6 }) h fun _ => rfl
  have buf := congrArg Desc.buf eq
  exact ⟨d', found, buf⟩

/-- What follows a completion piece of a descriptor keeps the bytes that it has. -/
theorem State.pieceEnd_buf {s : State} {q ix : Nat} {d : Desc} (h : s.desc q ix = some d) (last : Bool) (ld : Nat) :
    ∃ d', ((s.when last fun s => s.flushDone q ix true).pumpReads ld).desc q ix = some d' ∧ d'.buf = d.buf := by
  cases last with
  | false =>
    obtain ⟨d', found, eq⟩ := (s.pumpReads_descs ld).some h
    have buf := congrArg Desc.buf eq
    exact ⟨d', found, buf⟩
  | true =>
    obtain ⟨d1, found1, buf1⟩ := State.flushDone_buf h
    obtain ⟨d', found, eq⟩ := ((s.flushDone q ix true).pumpReads_descs ld).some found1
    have buf := congrArg Desc.buf eq
    exact ⟨d', found, buf.trans buf1⟩

/-- A completion with data places its bytes by address in the descriptor that the read is of (R70). -/
theorem State.hostPiece_places {s : State} {ld tag addr : Nat} {data : List Byte} {r : ReqRead} {d : Desc}
    (out : (s.ld ld).reads.find? (fun r => r.tag == tag) = some r) (h : s.desc r.queue r.ix = some d) (ix : r.ix ≠ ringIx) :
    ∃ d', (s.hostPiece ld tag addr data .ok).desc r.queue r.ix = some d' ∧
      d'.buf = (dataCells r addr data).foldl (fun t c => enter c.2 t c.1) d.buf := by
  unfold State.hostPiece
  rw [out]
  simp only [reduceCtorEq, beq_iff_eq, if_false, if_neg ix]
  refine State.pieceEnd_buf (d := { d with buf := (dataCells r addr data).foldl (fun t c => enter c.2 t c.1) d.buf }) ?_ _ _
  exact (State.onDesc_desc_same _ _ _ (by exact fun _ => rfl)).trans (congrArg _ h)

end Sys2Proof.Machine
end

section
/-! PROOF. Function-level resets, margining, requester completions, configuration requests and link errors. -/

namespace Sys2Proof.Machine

@[simp] theorem State.onLd_ld_same (s : State) (n : Nat) (f : LogicalDev → LogicalDev) : (s.onLd n f).ld n = f (s.ld n) := by
  simp [State.onLd, State.ld]

@[simp] theorem State.onGrp_grp_same (s : State) (g : Nat) (f : PortGroup → PortGroup) : (s.onGrp g f).grp g = f (s.grp g) := by
  simp [State.onGrp, State.grp]

@[simp] theorem State.when_freeLocks_ld (s : State) (b : Bool) (owner n : Nat) :
    (s.when b fun s => s.freeLocks owner).ld n = s.ld n :=
  s.when_inv (fun t : State => t.ld n) b _ fun _ => rfl

theorem State.clearMailbox_ld (s : State) (n k : Nat) : (s.clearMailbox n).ld k = s.ld k := by
  simp [State.ld, State.clearMailbox_keeps]

/-- A function that is being cleared is out of reset, has no read outstanding and sends no MSI-X; its decoders stay (R78). -/
theorem State.clearFunction_ld (s : State) (n : Nat) : ((s.clearFunction n).ld n).flr = none ∧
    ((s.clearFunction n).ld n).reads = [] ∧ ((s.clearFunction n).ld n).msixOn = false ∧
    ((s.clearFunction n).ld n).dec = (s.ld n).dec := by
  simp [State.clearFunction, State.clearMailbox_ld]

theorem State.raiseLd_quiet (s : State) (n k x : Nat) : Quiet s.host (s.raiseLd n k x).host := by
  unfold State.raiseLd
  split
  · exact s.raise_quiet _
  · exact .refl _

/-- Raising an event of a logical device's link leaves its function's reset, reads, MSI-X and decoders. -/
theorem State.raiseLd_ld (s : State) (n k x : Nat) : ((s.raiseLd n k x).ld n).flr = (s.ld n).flr ∧
    ((s.raiseLd n k x).ld n).reads = (s.ld n).reads ∧ ((s.raiseLd n k x).ld n).msixOn = (s.ld n).msixOn ∧
    ((s.raiseLd n k x).ld n).dec = (s.ld n).dec := by
  have kept := (s.raiseLd_quiet n k x).2.2 n
  unfold State.ld
  rw [kept]
  exact ⟨rfl, rfl, rfl, rfl⟩

@[simp] theorem State.raiseLd_dm (s : State) (n k x : Nat) : (s.raiseLd n k x).dm = s.dm := by
  simp [State.raiseLd_keeps]

theorem State.completed_ld (s : State) (n k : Nat) : (s.completed n).ld k = s.ld k := by
  unfold State.completed; split <;> rfl

theorem State.completed_desc (s : State) (n q ix : Nat) : (s.completed n).desc q ix = s.desc q ix := by
  unfold State.completed; split <;> rfl

/-- A completion of no outstanding read is discarded (R70). -/
theorem State.hostPiece_unknown {s : State} {ld tag : Nat} (out : ∀ r ∈ (s.ld ld).reads, r.tag ≠ tag) (addr : Nat)
    (data : List Byte) (st : CplStatus) : s.hostPiece ld tag addr data st = s := by
  rw [State.hostPiece, List.find?_eq_none.2 (by simpa using out)]

/-- Unsupported Request fails the read that it answers (R73). -/
theorem State.hostPiece_ur {s : State} {ld tag : Nat} {r : ReqRead}
    (out : (s.ld ld).reads.find? (fun r => r.tag == tag) = some r) (addr : Nat) (data : List Byte) :
    s.hostPiece ld tag addr data .ur = s.readFailed r 10 (max addr r.addr) := by
  rw [State.hostPiece, out]
  rfl

end Sys2Proof.Machine

open Sys2Proof Sys2Proof.Machine

/-- Settles O16: each command on the state that its clause names. -/
theorem functionResetsAndRequester : Obligations.FunctionResetsAndRequester := by
  refine ⟨fun s ld served flr => ?flrInitiate, fun s ld flr => ?flrComplete, fun s g lane => ?marginCommand,
    fun s g lane margined => ?marginDone, fun s ld tag addr data st none_out => ?discarded,
    fun s ld tag addr data r d out found flush ix => ?unsupported, fun s ld tag addr data r d out found ix => ?placed,
    fun s ld tag r l d out link found flush ix => ?timeout,
    fun s ld fn op l served => ⟨fun early => ?notReady, fun ready other => ?noFunction, fun ready flr => ?inReset⟩,
    fun s ld r l served ready flr => ?cfgRead, fun s ld r v l served ready flr => ?cfgWrite,
    fun s l live within => ?crcError, fun s l seq live => ⟨fun acked sent => ?replay, fun outside => ?noReplay⟩⟩
  case flrInitiate =>
    refine .of_exec (congrArg Host.Outcome.next (s.when_pos (by simp [served, flr]))) ?_
    rw [State.when_freeLocks_ld, State.onLd_ld_same]
    exact ⟨rfl, rfl⟩
  case flrComplete =>
    refine .of_exec (congrArg Host.Outcome.next (s.when_pos flr)) ?_
    obtain ⟨flr1, reads1, msix1, dec1⟩ := s.clearFunction_ld ld.val
    obtain ⟨flr2, reads2, msix2, dec2⟩ := (s.clearFunction ld.val).raiseLd_ld ld.val 11 0
    exact ⟨flr2.trans flr1, reads2.trans reads1, msix2.trans msix1, dec2.trans dec1⟩
  case marginCommand =>
    refine .of_exec rfl ?_
    rw [State.onGrp_grp_same]
    change lane.val ∈ if _ then _ else _
    split
    next margined => simpa using margined
    next => exact List.mem_cons_self
  case marginDone =>
    refine .of_exec (congrArg Host.Outcome.next (s.when_pos (by simpa using margined))) ?_
    rw [State.raiseLink, State.grp, State.raise_grp_margining, ← State.grp, State.onGrp_grp_same]
    simp
  case discarded =>
    exact congrArg Host.Outcome.next (State.hostPiece_unknown (s := s.completed ld.val) (by rwa [State.completed_ld]) _ data st)
  case unsupported =>
    have cpl := State.hostPiece_ur (s := s.completed ld.val) (by rwa [State.completed_ld]) addr.toNat data
    refine .of_exec (congrArg Host.Outcome.next cpl) ?_
    exact State.readFailed_desc (by rwa [State.completed_desc]) ix flush 10 _
  case placed =>
    refine .of_exec (t := (s.completed ld.val).hostPiece ld.val tag.toNat addr.toNat data .ok) rfl ?_
    obtain ⟨d', there, buf⟩ := State.hostPiece_places (s := s.completed ld.val) (addr := addr.toNat) (data := data)
      (by rwa [State.completed_ld]) (by rwa [State.completed_desc]) ix
    refine ⟨d', there, fun k lt lo hi => ?_⟩
    rw [buf]
    exact lookOpt_place _ _ _ _ (fun c mem at_ => dataCells_value mem at_) (.inl (dataCells_mem lt lo hi))
  case timeout =>
    have run : exec (.reqCto ld tag) s = .next (((s.reach (r.at_ + s.ctoOf l)).readFailed r 9
        ((s.reach (r.at_ + s.ctoOf l)).missing r)).raiseLd ld.val 12 r.addr) := by
      change execReqCto ld tag s = _
      rw [execReqCto, out, link]
    refine .of_exec run ?_
    rw [State.desc_congr (State.raiseLd_dm _ _ _ _)]
    refine State.readFailed_desc ?_ ix flush 9 _
    rwa [State.desc_congr (s := s) (by simp [State.reach_keeps])]
  case notReady =>
    change execConfigRequest ld fn op s = _
    simp [execConfigRequest, served, early]
  case noFunction =>
    change execConfigRequest ld fn op s = _
    simp [execConfigRequest, served, ready, other]
  case inReset =>
    change execConfigRequest ld 0 op s = _
    simp [execConfigRequest, served, flr]
  case cfgRead =>
    change execConfigRequest ld 0 (.read r) s = _
    simp [execConfigRequest, served, ready, flr]
  case cfgWrite =>
    change execConfigRequest ld 0 (.write r v) s = _
    simp [execConfigRequest, served, ready, flr, State.configWrite]
  case crcError =>
    have same_second : decide ((s.link l.val).corrFrom + sec 1 ≤ s.now) = false := by simpa using within
    have run : exec (.linkFlitCrcError l) s = .next ((s.onLink l.val fun k => { k with corr := k.corr + 1 }).when
        (decide (((s.onLink l.val fun k => { k with corr := k.corr + 1 }).link l.val).corr = Config.corrLimit + 1))
        fun s => s.raiseLink l.val 15 none 0) := by
      change execLinkFlitCrcError l s = _
      rw [execLinkFlitCrcError, if_pos live, same_second]
      rfl
    refine .of_exec run ?_
    rw [(State.when_calm _ _ _ (fun t => t.raiseLink_calm l.val 15 none 0) l.val).corr, State.onLink_link_same]
  case replay => exact congrArg Host.Outcome.next (s.when_pos (by simp [live, acked, sent]))
  case noReplay =>
    have out : ((s.link l.val).live && decide ((s.link l.val).txAcked ≤ seq) && decide (seq < (s.link l.val).txNext)) = false := by
      simp [live]; omega
    exact congrArg Host.Outcome.next (congrArg (s.when · _) out)
end

section
/-! SUPPORT. Requests of hosts under the rows of R76: what their arrival leaves of the state that the rows read. -/

namespace Sys2Proof.Machine

/-- A request that has arrived has changed counters, the shift register of its tagging point and links only, and no link's
back-invalidation. -/
theorem State.arrived_eq (s : State) (l : Nat) (k : ReqKind) : ∃ (o : Observe) (L : Table Link),
    s.arrived l k = (s.withObs o).withHost { s.host with link := L } ∧ ∀ j, (look {} L j).bi = (s.link j).bi := by
  obtain ⟨o, ho⟩ := (s.tagging l).1.count_obs (linkPage l 2) (if traceKind k = 0 then 0x10 else 0x11)
    (b2n (traceKind k = 0 ∨ traceKind k = 1 ∨ traceKind k = 2))
  obtain ⟨L, hL, hbi⟩ := (s.withObs o).arriveOn_host l
  exact ⟨o, L, (congrArg (State.arriveOn · l) ho).trans hL, hbi⟩

/-- A poisoned write that no row of R76 turns away raises POISON_IN, and is admitted to the queue of its line. -/
theorem State.memArrives_poisoned (s : State) (l ld hpa : Nat) (k : ReqKind) (tag dpa : Nat) (poison : poisoned k = true)
    (h : s.admits l ld hpa dpa = true) : s.memArrives l ld hpa k tag =
      ((s.arrived l k).raiseLink l 9 (some ld) dpa).enlist (dpa / 64) (.host ld) k tag false (s.tagging l).2 := by
  simp only [State.admits, Bool.and_eq_true, Bool.not_eq_true', beq_iff_eq] at h
  obtain ⟨⟨⟨⟨⟨⟨⟨-, fatal⟩, decodes⟩, serves⟩, granted⟩, coherent⟩, answers⟩, -⟩ := h
  obtain ⟨o, L, arrived, bi⟩ := s.arrived_eq l k
  have fatal' : (s.arrived l k).groupFatal l = false := by rw [arrived]; exact fatal
  have decodes' : (s.arrived l k).dpaOf ld hpa = some dpa := by rw [arrived]; exact decodes
  have serves' : (s.arrived l k).outOfService (dpa / 64) = false := by rw [arrived]; exact serves
  have slice' := State.sliceOut_of_inService serves'
  have granted' : (s.arrived l k).granted ld (pgExt (lnPage (dpa / 64))) = true := by rw [arrived]; exact granted
  have coherent' : ((s.arrived l k).coherent (dpa / 64) && !((s.arrived l k).link l).bi) = false := by
    rw [arrived, State.link, State.withHost_host, bi]; exact coherent
  have answers' : (s.arrived l k).home.timedOut.getLsbD ld = false := by rw [arrived]; exact answers
  change (if (s.arrived l k).groupFatal l then _ else _) = _
  simp only [State.arrived] at fatal' decodes' serves' slice' granted' coherent' answers' ⊢
  simp only [fatal', decodes', serves', slice', granted', coherent', answers', poison, Bool.false_eq_true, if_false,
    if_true, Bool.not_true]

/-- A poisoned write of a host that no row of R76 turns away. -/
theorem State.memCommand_poisoned (s : State) (l : Fin 16) (ld : Fin 64) (hpa : BitVec 64) (k : ReqKind) (tag dpa : Nat)
    (poison : poisoned k = true) (h : s.admits l.val ld.val hpa.toNat dpa = true) : s.memCommand l ld hpa k tag =
      ((s.arrived l.val k).raiseLink l.val 9 (some ld.val) dpa).enlist (dpa / 64) (.host ld.val) k tag false
        (s.tagging l.val).2 := by
  have link : s.memLink l.val ld.val = true := by
    simp only [State.admits, Bool.and_eq_true] at h; exact h.1.1.1.1.1.1.1
  rw [State.memCommand, link, State.when_true]
  exact s.memArrives_poisoned _ _ _ k tag dpa poison h

/-- An admitted request that reaches its slice meets the error that is there. -/
theorem State.meetsError_admits (s : State) (l ld hpa dpa : Nat) (e : SliceError) (h : s.admits l ld hpa dpa = true) :
    s.meetsError l ld hpa (some e) = s.sliceError (dpa / 64) e := by
  simp only [State.admits, Bool.and_eq_true, Bool.not_eq_true', beq_iff_eq] at h
  obtain ⟨⟨⟨⟨⟨⟨⟨link, fatal⟩, decodes⟩, serves⟩, granted⟩, -⟩, -⟩, -⟩ := h
  unfold State.meetsError
  rw [decodes]
  exact s.when_pos (by simp [link, fatal, serves, granted])

end Sys2Proof.Machine
end

section
/-! PROOF. Admitted requests of hosts. -/

open Sys2Proof Sys2Proof.Machine

/-- Settles O18: no row of R76 turns an admitted request away, so it is placed at the home slice of its line. -/
theorem hostRequestsAdmitted : Obligations.HostRequestsAdmitted := by
  refine ⟨fun s l ld hpa mv tag dpa h => ?read, fun s l ld hpa mv tag dpa e h => ?meetsError,
    fun s l ld hpa tag dpa h => ?readData, fun s l ld hpa tag dpa h => ?speculative,
    fun s l ld hpa mv data tag dpa h => ⟨?write, ?poisonedWrite⟩,
    fun s l ld hpa mv mask data tag dpa h => ⟨?partialWrite, ?poisonedPartial⟩, fun s l ld hpa mv tag dpa h => ?invalidate,
    fun s l ld hpa tag dpa h => ?cleanEvict⟩
  case meetsError =>
    exact congrArg (fun t => Host.Outcome.next (State.memCommand t l ld hpa (.read mv) tag))
      (s.meetsError_admits l.val ld.val hpa.toNat dpa e h)
  case speculative => exact apply_ite Host.Outcome.next (Config.specRdDrop s.free = 1) s.takeFree _
  case poisonedWrite | poisonedPartial =>
    exact congrArg Host.Outcome.next (s.memCommand_poisoned l ld hpa _ tag dpa rfl h)
  all_goals exact congrArg Host.Outcome.next (s.memCommand_admits l ld hpa _ tag dpa rfl h)
end

section
/-! SUPPORT. Accesses to the memory aperture: what their arrival leaves, and a range that lies in one line. -/

namespace Sys2Proof.Machine

/-! ### What a state with other host ports keeps -/

@[simp] theorem State.withHost_cfg (s : State) (h : HostPorts) (p x lo w : Nat) : (s.withHost h).cfg p x lo w = s.cfg p x lo w :=
  (rfl)

@[simp] theorem State.withHost_present (s : State) (h : HostPorts) (l : Nat) : (s.withHost h).present l = s.present l := by
  have bifur : (s.withHost h).bifur (l / 4) = s.bifur (l / 4) := s.withHost_cfg h _ _ _ _
  rw [State.present, State.links, bifur]
  rfl

@[simp] theorem State.withHost_owns (s : State) (h : HostPorts) (l ld : Nat) : (s.withHost h).owns l ld = s.owns l ld := (rfl)

@[simp] theorem State.withHost_linkOf (s : State) (h : HostPorts) (ld : Nat) : (s.withHost h).linkOf ld = s.linkOf ld := by
  simp only [State.linkOf, State.withHost_present, State.withHost_owns]

@[simp] theorem State.withHost_aperture (s : State) (h : HostPorts) (ld : Nat) : (s.withHost h).aperture ld = s.aperture ld := by
  simp only [State.aperture, State.ldBase, State.withHost_linkOf, State.withHost_cfg]

@[simp] theorem State.withHost_apertureDpa (s : State) (h : HostPorts) (ld off n : Nat) :
    (s.withHost h).apertureDpa ld off n = s.apertureDpa ld off n := by
  rw [State.apertureDpa, State.withHost_aperture, State.apertureDpa]

@[simp] theorem State.arriveOn_apertureDpa (s : State) (l ld off n : Nat) :
    (s.arriveOn l).apertureDpa ld off n = s.apertureDpa ld off n := by
  obtain ⟨L, arrived, -⟩ := s.arriveOn_host l
  rw [arrived, State.withHost_apertureDpa]

/-! ### Ranges in one line -/

/-- A range of bytes that lies in one line. -/
theorem rangeLines_of_oneLine {a n : Nat} (pos : 0 < n) (fits : a % 64 + n ≤ 64) : rangeLines a n = [a / 64] := by
  have one : (a + n - 1) / 64 - a / 64 + 1 = 1 := by omega
  rw [rangeLines, if_neg pos.ne', one]
  rfl

/-- The part of a range in its only line begins where the range does. -/
theorem rangeStart_of_oneLine (a : Nat) : max a (64 * (a / 64)) = a := by omega

/-- The part of a range in its only line is the range. -/
theorem rangePart_of_oneLine {a n : Nat} (fits : a % 64 + n ≤ 64) : min (a + n) (64 * (a / 64) + 64) - a = n := by omega

@[simp] theorem State.each_one {α : Type} (s : State) (a : α) (f : State → α → State) : s.each [a] f = f s a := rfl

end Sys2Proof.Machine
end

section
/-! PROOF. Accesses to the memory aperture. -/

namespace Sys2Proof.Machine

/-- A read of bytes of one line that serves is admitted at the line's home slice. -/
theorem exec_apertureRead_oneLine {s : State} {ld : Fin 64} {off : BitVec 64} {len : BitVec 13} {l dpa : Nat} (tag : Nat)
    (arrives : s.ioArrives ld.val = some l) (fatal : s.groupFatal l = false) (bars : s.ioBars l ld.val = true)
    (hits : s.apertureDpa ld.val off.toNat len.toNat = some dpa) (pos : 0 < len.toNat) (fits : dpa % 64 + len.toNat ≤ 64)
    (granted : s.granted ld.val (pgExt (lnPage (dpa / 64))) = true) (serves : s.sliceOut (homeOf (lnPage (dpa / 64))) = false) :
    exec (.cxlioApertureRead ld off len tag) s = .next (((s.arriveOn l).tagging l).1.enlist (dpa / 64) (.io ld.val)
      (.ioRead (dpa % 64) len.toNat) tag false ((s.arriveOn l).tagging l).2) := by
  change execCxlioApertureRead ld off len tag s = _
  simp [execCxlioApertureRead, arrives, fatal, bars, hits, rangeLines_of_oneLine pos fits, rangeStart_of_oneLine,
    rangePart_of_oneLine fits, granted, serves]

/-- A write of bytes of one line that serves is admitted at the line's home slice, as a whole line or with its mask. -/
theorem exec_apertureWrite_oneLine {s : State} {ld : Fin 64} {off : BitVec 64} {data : List Byte} {l dpa : Nat}
    (arrives : s.ioArrives ld.val = some l) (fatal : s.groupFatal l = false) (bars : s.ioBars l ld.val = true)
    (hits : s.apertureDpa ld.val off.toNat data.length = some dpa) (pos : 0 < data.length) (fits : dpa % 64 + data.length ≤ 64)
    (granted : s.granted ld.val (pgExt (lnPage (dpa / 64))) = true) (serves : s.sliceOut (homeOf (lnPage (dpa / 64))) = false) :
    exec (.cxlioApertureWrite ld off data false) s = .next (
      if data.length = 64 then ((s.arriveOn l).tagging l).1.enlist (dpa / 64) (.io ld.val)
        (.write .none (BitVec.ofNat 512 (ofBytes data <<< (8 * (dpa % 64)))) false) 0 false ((s.arriveOn l).tagging l).2
      else ((s.arriveOn l).tagging l).1.enlist (dpa / 64) (.io ld.val)
        (.writePtl .none (BitVec.ofNat 64 ((2 ^ data.length - 1) <<< (dpa % 64)))
          (BitVec.ofNat 512 (ofBytes data <<< (8 * (dpa % 64)))) false) 0 false ((s.arriveOn l).tagging l).2) := by
  change execCxlioApertureWrite ld off data false s = _
  simp [execCxlioApertureWrite, arrives, fatal, bars, hits, rangeLines_of_oneLine pos fits, rangeStart_of_oneLine,
    rangePart_of_oneLine fits, granted, serves]

end Sys2Proof.Machine

open Sys2Proof Sys2Proof.Machine

/-- Settles O20: the checks of an aperture access, one after the other, on a range of one line. -/
theorem apertureAccesses : Obligations.ApertureAccesses := by
  refine ⟨fun s ld off len tag l dpa => exec_apertureRead_oneLine tag,
    fun s ld off data l dpa arrives fatal bars hits start whole granted serves => ?wholeLine,
    fun s ld off data l dpa arrives fatal bars hits pos part fits granted serves => ?partOfLine,
    fun s ld off op size a b tag l dpa arrives fatal bars supported aligned hits granted serves => ?atomic,
    fun s ld off op size a b tag l dpa arrives fatal bars supported aligned hits => ?poisonedAtomic,
    fun s ld off op size a b ep tag l arrives fatal misaligned => ?malformed,
    fun s ld off len data ep tag l arrives fatal outside => ⟨?readOutside, ?writeOutside⟩,
    fun s ld off len data ep tag l arrives fatal => ⟨?readFatal, fun outside => ?writeFatalOutside, fun dpa hits => ?writeFatal⟩⟩
  case wholeLine =>
    rw [exec_apertureWrite_oneLine arrives fatal bars hits (by omega) (by omega) granted serves, if_pos whole, start]
    rfl
  case partOfLine =>
    rw [exec_apertureWrite_oneLine arrives fatal bars hits pos fits granted serves, if_neg (by omega)]
  case atomic =>
    change execAtomicop ld (.bar4 off) op size a b false tag s = _
    simp [execAtomicop, arrives, fatal, bars, supported, aligned, hits, granted, serves]
  case poisonedAtomic =>
    change execAtomicop ld (.bar4 off) op size a b true tag s = _
    simp [execAtomicop, arrives, fatal, bars, supported, aligned, hits]
  case malformed =>
    change execAtomicop ld (.bar4 off) op size a b ep tag s = _
    simp [execAtomicop, arrives, fatal, misaligned]
  case readOutside =>
    change execCxlioApertureRead ld off len tag s = _
    rcases outside with absent | ⟨misses, -⟩
    · simp [execCxlioApertureRead, arrives, fatal, absent, State.sendUr]
    · simp [execCxlioApertureRead, arrives, fatal, misses, State.sendUr]
  case writeOutside =>
    change execCxlioApertureWrite ld off data ep s = _
    rcases outside with absent | ⟨-, misses⟩
    · simp [execCxlioApertureWrite, arrives, fatal, absent, State.sendUr]
    · simp [execCxlioApertureWrite, arrives, fatal, misses, State.sendUr]
  case readFatal =>
    change execCxlioApertureRead ld off len tag s = _
    simp [execCxlioApertureRead, arrives, fatal]
  case writeFatalOutside =>
    change execCxlioApertureWrite ld off data ep s = _
    simp [execCxlioApertureWrite, arrives, fatal, outside]
  case writeFatal =>
    change execCxlioApertureWrite ld off data ep s = _
    simp [execCxlioApertureWrite, arrives, fatal, hits]
end

section
/-! SUPPORT. States in which a clause does not hold: each is the state after reset with the parts that
the clause's premise and its failure need. -/

namespace Sys2Proof.Machine

/-- Link H0.1 is in L0, though the bifurcation after reset gives group H0 one link only (R47). -/
def absentLinkUp : State := State.reset.onLink 1 fun k => { k with st := .l0 }

/-- A poison write of R300 that waits in its home slice, for what bring-up discarded. -/
def waitingPoison : QReq := { State.reset.ownReq 0 (.write .none 0 true) .internal with tag := 0xFFFF }

/-- HRDY_N[0] may be released for the first time, and R300 has not been applied yet: a poison write waits (R299, R300). -/
def poisonWaits : State :=
  { State.reset with
    boot := { State.reset.boot with step := 11, main := true }
    host := { grp := [(0, { busy := true })] }
    flt := { applying := [(0xFFFE, 1)] }
    home := { queue := [waitingPoison] } }

/-- A read of Borage agent 64 that was answered Retry at home slice 0 and holds a credit now (R137, R138). -/
def creditedRead : Retried :=
  { hs := 0, cls := .borage, req := State.reset.newReq 0 (.borage 64) (.read .none) 3, credit := true }

/-- A module end to Borage is active, and a read of line 0 that holds a credit is to be sent again; no agent has a right. -/
def creditedAgent : State :=
  { State.reset with dunas := [(15, { st := .active })], home := { retried := [creditedRead] } }

/-- An interleave set over channels 0 and 1. -/
def metadataSet : SetEntry :=
  { ways := 1, grain := 4, valid := true, near := true, bin := true, member := 0x10, base := 0, len := 8192 }

/-- Link H0.0 carries CXL.mem of logical device 0, whose decoder 0 maps the granted extent 0 at address 0; the extent's metadata
lines are in DRAM, not in the metadata cache, and their channel 0 retrains (R190). -/
def metadataStalls : State :=
  { State.reset with
    boot := { st := 3, step := 12, main := true, released := true, trained := true }
    host := {
      grp := [(0, { perst := false, busy := false, up := true })]
      link := [(0, { st := .l0, rate := 4, width := 4, active := 4, flit := .flit68, cxl := true })]
      ld := [(0, { dec := [(0, { base := 0, size := 0x10000000, committed := true })] })] }
    amap := { sets := [(2, metadataSet)], extents := [(0, { st := .granted, metaSet := 2 })] }
    mem := { chunks := [(0, 1)] }
    ddr := [(0, { st := .active, usable := 65536, lranks := 4, rb := 16, retraining := true }),
      (1, { st := .active, usable := 65536, lranks := 4, rb := 16 })] }

end Sys2Proof.Machine
end

section
/-! PROOF. Statements that fail, each on a state in which one of its clauses does not hold. -/

open Sys2Proof Sys2Proof.Machine

/-- Refutes O15: PERST_N_ASSERT resets the present links of its group (R77), and a link that the bifurcation does not have
stays in the state that it is in. -/
theorem not_linkLossAndPortResets : ¬ Obligations.LinkLossAndPortResets := by
  intro h
  obtain ⟨t, run, -, -, down⟩ := h.1 absentLinkUp 0
  cases run
  have up : (((absentLinkUp.resetGroup 0).onGrp 0 fun p => { p with perst := true, margining := [] }).link 1).st = .l0 := by
    decide
  exact absurd ((down 1 (by decide)).symm.trans up) (by decide)

/-- Refutes O17: HRDY_RELEASE leaves the pin busy while a poison write of R300 waits in its home slice. -/
theorem not_hrdyPinPulses : ¬ Obligations.HrdyPinPulses := by
  intro h
  obtain ⟨-, -, -, release⟩ := h
  obtain ⟨t, run, ready, -⟩ := release poisonWaits 0 (by decide) (by decide)
  cases run
  exact absurd ready (by decide)

/-- Refutes O19: a read of an unbacked page whose metadata has to be fetched from a channel that retrains waits in its line's
queue (R190), and nothing is answered. -/
theorem not_hostRequestsAnswered : ¬ Obligations.HostRequestsAnswered := by
  intro h
  obtain ⟨⟨t, run, -, empty⟩, -⟩ := h.1 metadataStalls 0 0 64 .none 7 64 (by decide +kernel) (by decide +kernel) rfl rfl rfl rfl rfl
    (by decide +kernel) (by decide +kernel)
  cases run
  exact absurd empty (by decide +kernel)

/-- Refutes O36: a RDCUR without a right that comes with a credit uses the credit up (R365), so that the credited request is
taken out of those to be sent again, which the clause's state still has. -/
theorem not_borageRequestsAndSnoops : ¬ Obligations.BorageRequestsAndSnoops := by
  intro h
  obtain ⟨-, -, -, -, refused, -⟩ := h
  injection refused creditedAgent 0 3 0 true (by decide +kernel) (by decide +kernel) (by decide +kernel) (by decide +kernel) with same
  have used : (creditedAgent.brgRequest 64 3 0 (.read .none) false true).home.retried = [] := by decide +kernel
  have kept : (((creditedAgent.arrivedBrg 0).raise { src := 649, site := siteOfPage brgPage, subject := 64 }).emit
      (.brgData 0 64 3 0 true 0)).home.retried = [creditedRead] := by decide +kernel
  have equal : [] = [creditedRead] := used.symm.trans ((congrArg (fun t : State => t.home.retried) same).trans kept)
  exact absurd equal (by decide)
end

section
/-! SUPPORT. What a message of a host leaves of the state, and the mailbox of a logical device that is served. -/

namespace Sys2Proof.Machine

/-! ### What a message of a host leaves -/

/-- A link that has carried a transaction carries traffic as it did (R60). -/
theorem LinkCalm.live {a b : Link} (h : LinkCalm a b) : b.live = a.live := by
  rcases h.2 with ⟨st, -⟩ | ⟨was, is⟩
  · simp [Link.live, st]
  · simp [Link.live, was, is]

theorem LinkCalm.held {a b : Link} (h : LinkCalm a b) : b.held = a.held := by rw [h.1]

/-- A link on which a message has arrived is as negotiated and carries traffic as it did (R60, R62). -/
theorem State.arriveOn_up (s : State) (l k : Nat) :
    ((s.arriveOn l).link k).live = (s.link k).live ∧ ((s.arriveOn l).link k).cxl = (s.link k).cxl ∧
      ((s.arriveOn l).link k).held = (s.link k).held := by
  have calm := s.useLink_calm l k
  rw [← calm.live, ← calm.cxl, ← calm.held]
  by_cases e : k = l
  · subst e; rw [State.arriveOn_link]; exact ⟨rfl, rfl, rfl⟩
  · rw [State.arriveOn, State.onLink_link_ne _ _ _ _ e]; exact ⟨rfl, rfl, rfl⟩

/-- A message of a host changes links only. -/
theorem State.heard_eq (s : State) (ld : Nat) : ∃ L, s.heard ld = s.withHost { s.host with link := L } := by
  unfold State.heard
  split
  · exact ⟨_, rfl⟩
  · exact ⟨s.host.link, rfl⟩

/-- What does not depend on the links is after a message of a host as it was. -/
theorem State.heard_inv {α : Type} (g : State → α) (s : State) (ld : Nat)
    (h : ∀ L, g (s.withHost { s.host with link := L }) = g s) : g (s.heard ld) = g s := by
  obtain ⟨L, e⟩ := s.heard_eq ld
  rw [e, h]

@[simp] theorem State.heard_ld (s : State) (n k : Nat) : (s.heard n).ld k = s.ld k :=
  State.heard_inv (State.ld · k) s n fun _ => rfl
@[simp] theorem State.heard_grp (s : State) (n k : Nat) : (s.heard n).grp k = s.grp k :=
  State.heard_inv (State.grp · k) s n fun _ => rfl
@[simp] theorem State.heard_cfg (s : State) (n p x lo w : Nat) : (s.heard n).cfg p x lo w = s.cfg p x lo w :=
  State.heard_inv (State.cfg · p x lo w) s n fun _ => s.withHost_cfg _ p x lo w
@[simp] theorem State.heard_linkOf (s : State) (n k : Nat) : (s.heard n).linkOf k = s.linkOf k :=
  State.heard_inv (State.linkOf · k) s n fun L => s.withHost_linkOf { s.host with link := L } k
@[simp] theorem State.heard_linkOfLane (s : State) (n g k : Nat) : (s.heard n).linkOfLane g k = s.linkOfLane g k := by
  have bifur : (s.heard n).bifur g = s.bifur g := s.heard_cfg n _ _ _ _
  rw [State.linkOfLane, bifur, State.linkOfLane]
@[simp] theorem State.heard_region (s : State) (n k : Nat) : (s.heard n).region k = s.region k :=
  State.heard_inv (State.region · k) s n fun _ => rfl
@[simp] theorem State.heard_extTag (s : State) (n e : Nat) : (s.heard n).extTag e = s.extTag e :=
  State.heard_inv (State.extTag · e) s n fun _ => rfl
@[simp] theorem State.heard_ext (s : State) (n e : Nat) : (s.heard n).ext e = s.ext e :=
  State.heard_inv (State.ext · e) s n fun _ => rfl
@[simp] theorem State.heard_granted (s : State) (n k e : Nat) : (s.heard n).granted k e = s.granted k e :=
  State.heard_inv (State.granted · k e) s n fun _ => rfl
@[simp] theorem State.heard_storedPoison (s : State) (n line : Nat) : (s.heard n).storedPoison line = s.storedPoison line :=
  State.heard_inv (State.storedPoison · line) s n fun _ => rfl
@[simp] theorem State.heard_mgmtLd (s : State) (n : Nat) : (s.heard n).mgmtLd = s.mgmtLd := by
  simp [State.mgmtLd]
@[simp] theorem State.heard_out (s : State) (n : Nat) : (s.heard n).out = s.out := State.heard_inv State.out s n fun _ => rfl
@[simp] theorem State.heard_now (s : State) (n : Nat) : (s.heard n).now = s.now := State.heard_inv State.now s n fun _ => rfl
@[simp] theorem State.heard_free (s : State) (n : Nat) : (s.heard n).free = s.free := State.heard_inv State.free s n fun _ => rfl
@[simp] theorem State.heard_evt (s : State) (n : Nat) : (s.heard n).evt = s.evt := State.heard_inv State.evt s n fun _ => rfl
@[simp] theorem State.heard_amap (s : State) (n : Nat) : (s.heard n).amap = s.amap := State.heard_inv State.amap s n fun _ => rfl
@[simp] theorem State.heard_boot (s : State) (n : Nat) : (s.heard n).boot = s.boot := State.heard_inv State.boot s n fun _ => rfl
@[simp] theorem State.heard_mgmt (s : State) (n : Nat) : (s.heard n).mgmt = s.mgmt := State.heard_inv State.mgmt s n fun _ => rfl

/-- A message of a host changes nothing of the full window (R525). -/
@[simp] theorem State.heard_mgmtUp (s : State) (n : Nat) : (s.heard n).mgmtUp = s.mgmtUp := by
  unfold State.mgmtUp
  rw [State.heard_mgmtLd, State.heard_linkOf]
  cases s.linkOf s.mgmtLd with
  | none => rfl
  | some l =>
    have up : ((s.heard n).link l).live = (s.link l).live ∧ ((s.heard n).link l).cxl = (s.link l).cxl ∧
      ((s.heard n).link l).held = (s.link l).held := by
        unfold State.heard
        split
        · exact s.arriveOn_up _ l
        · exact ⟨rfl, rfl, rfl⟩
    obtain ⟨live, cxl, held⟩ := up
    simp [live, cxl, held]

@[simp] theorem State.heard_fullHost (s : State) (n ld : Nat) : (s.heard n).fullHost ld = s.fullHost ld := by
  simp [State.fullHost]

/-! ### The mailbox where it is served -/

@[simp] theorem State.onMgmt_mgmt (s : State) (f : Management → Management) : (s.onMgmt f).mgmt = f s.mgmt := (rfl)
@[simp] theorem State.onMgmt_boot (s : State) (f : Management → Management) : (s.onMgmt f).boot = s.boot := (rfl)
@[simp] theorem State.onMgmt_out (s : State) (f : Management → Management) : (s.onMgmt f).out = s.out := (rfl)

/-- A mailbox response goes out at once. -/
theorem State.mbDone_eq (s : State) (ld op : Nat) (data : List Nat) :
    s.mbDone ld op data = s.withOut (.mbRsp ld op 0 data :: s.out) := rfl

/-- A mailbox command of a logical device whose mailbox is served reaches the active core (R474). -/
theorem State.mailbox_open {s : State} {ld : Fin 64} (i : CoreMsg) (h : s.mailboxOpen ld.val = true) :
    s.mailbox ld i = (s.heard ld.val).serve i := by
  simp only [State.mailboxOpen, Bool.and_eq_true, Option.isNone_iff_eq_none] at h
  obtain ⟨⟨serves, answers⟩, noSwitch⟩ := h
  obtain ⟨l, link⟩ := Option.isSome_iff_exists.mp answers
  exact s.mailbox_served ld i l serves link noSwitch

/-- A part of an image for the other slot, of the management function's host, while nothing is on its way (R475). -/
theorem State.transferOp_taken {s : State} {ld slot : Nat} (last : Bool) (img : FwImage) (full : s.fullHost ld = true)
    (idle : s.mgmt.fwu = .idle) (none_ : s.mgmt.img = none) (other : slot = if s.boot.imageB then 1 else 2) :
    s.transferOp ld slot last img =
      ((s.onMgmt fun g => { g with transfer := !last }).when last (·.staged_ img)).mbDone ld 0x201 [] := by
  cases last <;> simp [State.transferOp, full, idle, none_, other, State.when]

/-- A staged image is that of the slot that the running image did not boot from (R475). -/
theorem State.staged_slotImage (s : State) (img : FwImage) : (s.staged_ img).slotImage (s.staged_ img).mgmt.slotB = some img := by
  show (if !s.boot.imageB then _ else _) = _
  cases h : s.boot.imageB <;> simp [State.staged_, State.onBoot, h]

/-- Clear Event Records of handles that the log all holds (R474). -/
theorem State.mbClearOp_named {s : State} {ld log : Nat} {handles : List (BitVec 16)}
    (named : ∀ h ∈ handles, ∃ e ∈ s.mbLog ld log, e.handle = h.toNat) : s.mbClearOp ld log handles =
      (s.onLd ld (fun d => { d with evtLog := d.evtLog.filter (fun e =>
        !(e.log == log && (handles.map BitVec.toNat).contains e.handle)) })).mbDone ld 0x101 [] := by
  have all : (handles.map BitVec.toNat).all (fun n => (s.mbLog ld log).any (fun e => e.handle == n)) = true := by
    simpa using named
  rw [State.mbClearOp, if_pos all]

/-- A log without the records that are cleared. -/
theorem State.mbLog_cleared (s : State) (ld log : Nat) (hs : List Nat) :
    (s.onLd ld (fun d => { d with evtLog := d.evtLog.filter (fun e => !(e.log == log && hs.contains e.handle)) })).mbLog ld log =
      (s.mbLog ld log).filter (fun e => !hs.contains e.handle) := by
  rw [State.mbLog, State.onLd_ld_same, State.mbLog, List.filter_filter, List.filter_filter]
  refine List.filter_congr fun e _ => ?_
  cases e.log == log <;> simp

@[simp] theorem State.heard_mbLog (s : State) (n ld log : Nat) : (s.heard n).mbLog ld log = s.mbLog ld log := by
  simp [State.mbLog]
@[simp] theorem State.heard_poisonList (s : State) (n ld dpa lines : Nat) :
    (s.heard n).poisonList ld dpa lines = s.poisonList ld dpa lines := by
  simp [State.poisonList]
@[simp] theorem State.heard_regionList (s : State) (n ld : Nat) : (s.heard n).regionList ld = s.regionList ld := by
  simp [State.regionList]
@[simp] theorem State.heard_extentList (s : State) (n ld : Nat) : (s.heard n).extentList ld = s.extentList ld := by
  simp [State.extentList]

end Sys2Proof.Machine
end

section
/-! PROOF. The mailbox commands. -/

open Sys2Proof Sys2Proof.Machine

/-- Settles O42: where the mailbox is served, each command is served in the state in which the host's message has arrived. -/
theorem mailboxCommands : Obligations.MailboxCommands := by
  refine ⟨fun s ld off len h => ?answersFree, fun s ld h => ?answersState, fun s ld l h link => ?margins,
    fun s ld dpa lines h => ?poison, fun s ld policy h => ?setPolicy, fun s ld ts h => ?setTime, fun s ld log h => ?events,
    fun s ld log handles h => ⟨fun named => ?clears, fun unnamed => ?clearsNone⟩,
    fun s ld slot last img h full idle noImg other => ?transfer, fun s ld slot last img h full busy => ?transferBusy,
    fun s ld slot online h full update staged => ?activate, fun s ld ix h full => ?logRead,
    fun s ld off wr h full noMb => ?regAccess, fun s ld slot last online img ix off wr h full => ?denied,
    fun s ld opcode h => ?unsupported, fun s ld ts back serves link switch => ?held⟩
  case answersFree =>
    refine ⟨?_, ?_, ?_, ?_, ?_, ?_⟩
    all_goals
      refine congrArg Host.Outcome.next ((State.mailbox_open _ h).trans ?_)
      simp only [State.serve, State.mbOpen, State.mbDone, State.heard_free]
  case answersState =>
    refine ⟨?bgOp, ?policy, ?time, ?regions, ?extents, ?energy⟩
    case regions => exact congrArg Host.Outcome.next ((State.mailbox_open _ h).trans
      (congrArg (State.mbDone _ ld.val 0x4800) (s.heard_regionList ld.val ld.val)))
    case extents => exact congrArg Host.Outcome.next ((State.mailbox_open _ h).trans
      (congrArg (State.mbDone _ ld.val 0x4801) (s.heard_extentList ld.val ld.val)))
    all_goals
      refine congrArg Host.Outcome.next ((State.mailbox_open _ h).trans ?_)
      simp only [State.serve, State.mbDone, State.heard_ld, State.heard_now, State.heard_mgmt]
  case margins =>
    refine congrArg Host.Outcome.next ((State.mailbox_open _ h).trans ?_)
    simp only [State.serve, State.marginOp, State.heard_linkOf, link, State.mbDone, State.heard_linkOfLane, State.heard_grp]
  case poison =>
    refine .of_exec (congrArg Host.Outcome.next (State.mailbox_open _ h)) ⟨?_, fun n mem => ?_⟩
    · simp only [State.serve, State.mbDone, State.heard_poisonList]
    · simp only [State.poisonList, List.mem_filter, Bool.and_eq_true] at mem
      exact mem.2.1.2
  case setPolicy =>
    refine .of_exec (congrArg Host.Outcome.next (State.mailbox_open _ h)) ⟨?_, ?_⟩
    · simp [State.serve, State.mbDone_eq, State.ld, State.onLd]
    · simp [State.serve, State.mbDone_eq, State.onLd]
  case setTime =>
    refine .of_exec (congrArg Host.Outcome.next (State.mailbox_open _ h)) ⟨?_, ?_⟩
    · simp [State.serve, State.mbSetTimeOp, State.mbDone_eq, State.ld, State.onLd]
    · simp [State.serve, State.mbSetTimeOp, State.mbDone_eq, State.onLd]
  case events =>
    refine .of_exec (congrArg Host.Outcome.next (State.mailbox_open _ h)) ⟨?_, ?_⟩
    · simp only [State.serve, State.mbEventsOp, State.mbDone_eq, State.heard_mbLog]
      exact List.mem_cons_of_mem _ List.mem_cons_self
    · rfl
  case clears =>
    refine .of_exec (congrArg Host.Outcome.next (State.mailbox_open _ h)) ?_
    rw [State.serve, State.mbClearOp_named (by simpa using named)]
    refine ⟨by simp [State.mbDone_eq, State.onLd], ?_⟩
    exact ((s.heard ld.val).mbLog_cleared ld.val log.val _).trans (by rw [State.heard_mbLog])
  case clearsNone =>
    have missing : (handles.map BitVec.toNat).all (fun n => (s.mbLog ld.val log.val).any (fun e => e.handle == n)) = false := by
      simpa using unnamed
    refine congrArg Host.Outcome.next ((State.mailbox_open _ h).trans ?_)
    rw [State.serve, State.mbClearOp, State.heard_mbLog, missing]
    rfl
  case transfer =>
    refine .of_exec (congrArg Host.Outcome.next (State.mailbox_open _ h)) ?_
    rw [State.serve, State.transferOp_taken last img (by simpa using full) (by simpa using idle) (by simpa using noImg)
      (by simpa using other)]
    cases last with
    | false =>
      exact ⟨by simp [State.mbDone_eq, State.when], rfl, fun _ => by simpa [State.mbDone_eq, State.when] using idle, nofun⟩
    | true =>
      exact ⟨by simp [State.mbDone_eq, State.when, State.staged_, State.onBoot], rfl, nofun,
        fun _ => ⟨rfl, State.staged_slotImage _ img, by simp [State.mbDone_eq, State.when, State.staged_]⟩⟩
  case transferBusy =>
    refine congrArg Host.Outcome.next ((State.mailbox_open _ h).trans ?_)
    simp [State.serve, State.transferOp, full, busy, State.mbFail]
  case activate =>
    refine .of_exec (congrArg Host.Outcome.next (State.mailbox_open _ h)) ?_
    cases online <;> simp [State.serve, State.activateOp, full, update, staged, State.when, State.mbDone_eq]
  case logRead =>
    refine congrArg Host.Outcome.next ((State.mailbox_open _ h).trans ?_)
    simp only [State.serve, State.logReadOp, State.heard_fullHost, full, State.heard_evt]
    cases look? s.evt.ring ix.toNat <;> rfl
  case regAccess =>
    refine congrArg Host.Outcome.next ((State.mailbox_open _ h).trans ?_)
    simp [State.serve, State.regAccessOp, full, noMb]
  case denied =>
    refine ⟨?_, ?_, ?_, ?_⟩
    all_goals
      refine congrArg Host.Outcome.next ((State.mailbox_open _ h).trans ?_)
      simp [State.serve, State.transferOp, State.activateOp, State.logReadOp, State.regAccessOp, full, State.mbFail]
  case unsupported => exact congrArg Host.Outcome.next (State.mailbox_open _ h)
  case held =>
    refine congrArg Host.Outcome.next (?_ : s.mailbox ld _ = _)
    simp [State.mailbox, serves, link, State.toCore, switch, State.when]
end

section
/-! SUPPORT. The pending bits that a raised event leaves (R502). -/

namespace Sys2Proof.Machine

/-! ### Deliveries leave the pending bits -/

@[simp] theorem State.sendBmc_pend (s : State) (src : Nat) : (s.sendBmc src).evt.pend = s.evt.pend := by
  unfold State.sendBmc
  split
  · simp [State.emit_keeps]
  · rfl

@[simp] theorem State.sendMsix_pend (s : State) (r : LogRec) (vec : Nat) : (s.sendMsix r vec).evt.pend = s.evt.pend := by
  unfold State.sendMsix
  extract_lets ld up t
  split
  · split
    · rfl
    · split
      · rfl
      · simp [State.toHost_keeps, t, State.onLd]
  · rfl

@[simp] theorem State.deliver_pend (s : State) (r : LogRec) (route : BitVec 14) : (s.deliver r route).evt.pend = s.evt.pend := by
  unfold State.deliver
  rw [State.each_inv (fun t : State => t.evt.pend) _ _ _ fun t g => by simp [State.attention_keeps],
    State.when_inv (fun t : State => t.evt.pend) _ _ _ fun t => t.sendMsix_pend r _,
    State.when_inv (fun t : State => t.evt.pend) _ _ _ fun t => t.sendBmc_pend _]

@[simp] theorem State.deliverAll_pend (s : State) (r : LogRec) (l : List (BitVec 14)) :
    (s.deliverAll r l).evt.pend = s.evt.pend :=
  State.each_inv (fun t : State => t.evt.pend) _ _ _ fun t x => t.deliver_pend r x

@[simp] theorem State.logIt_pend (s : State) (r : LogRec) (vital : Bool) (dest : List (BitVec 14)) :
    (s.logIt r vital dest).evt.pend = s.evt.pend := by
  unfold State.logIt
  split
  · rw [State.when_inv (fun t : State => t.evt.pend) _ _ _ fun t => by simp [State.retWrite_keeps]]
    rfl
  · exact State.deliverAll_pend _ _ _

/-! ### Raising sets a bit and clears none -/

/-- A source that is defined rises outside the AUX-only state, and sets its own pending bit beside the others (R502, R504). -/
theorem State.raiseOne_pend (s : State) (e : Ev) : (s.raiseOne e).evt.pend =
    if definedSource e.src && !(s.boot.st == 0 && !auxSource e.src) then s.evt.pend ||| BitVec.ofNat 768 (2 ^ e.src)
    else s.evt.pend := by
  have turned : (!definedSource e.src || (s.boot.st == 0 && !auxSource e.src)) =
      !(definedSource e.src && !(s.boot.st == 0 && !auxSource e.src)) := by
    simp
  unfold State.raiseOne
  rw [turned]
  cases definedSource e.src && !(s.boot.st == 0 && !auxSource e.src) with
  | false => rfl
  | true =>
    simp only [Bool.not_true, Bool.false_eq_true, if_false, if_true]
    split
    · exact State.logIt_pend _ _ _ _
    · exact State.when_inv (fun t : State => t.evt.pend) _ _ _ fun t => t.deliver_pend _ _

/-- A pending bit stays while other events rise. -/
theorem State.raiseOne_pend_of {s : State} {k : Nat} (e : Ev) (h : s.evt.pend.getLsbD k = true) :
    (s.raiseOne e).evt.pend.getLsbD k = true := by
  rw [State.raiseOne_pend]
  split
  · simp [h]
  · exact h

/-- Outside the AUX-only state a defined source that rises is pending (R502, R504). -/
theorem State.raise_pend {s : State} {e : Ev} (known : definedSource e.src = true) (up : s.boot.st ≠ 0) (small : e.src < 768) :
    (s.raise e).evt.pend.getLsbD e.src = true := by
  have one : (s.raiseOne e).evt.pend.getLsbD e.src = true := by
    rw [State.raiseOne_pend, if_pos (by simp [known, up])]
    have own : (BitVec.ofNat 768 (2 ^ e.src)).getLsbD e.src = true := by
      rw [BitVec.getLsbD_ofNat, Nat.testBit_two_pow_self, decide_eq_true small, Bool.and_self]
    rw [BitVec.getLsbD_or, own, Bool.or_true]
  unfold State.raise
  dsimp only
  split
  · exact State.raiseOne_pend_of _ one
  · exact one

end Sys2Proof.Machine
end

section
/-! SUPPORT. The atomic line buffer and the overwrite queue under writes of lines and frames. -/

namespace Sys2Proof.Machine

/-! ### The atomic line buffer (R155) -/

/-- A line that was dropped is in no atomic line buffer. -/
theorem State.dropAtom_atomAt (s : State) (line : Nat) : (s.dropAtom line).atomAt line = none := by
  simp [State.dropAtom, State.setAtoms, State.atomAt, State.atomLines]

theorem State.atomAt_congr {s t : State} (h : t.home = s.home) (line : Nat) : t.atomAt line = s.atomAt line := by
  simp only [State.atomAt, State.atomLines, h]

theorem State.discardLine_atomAt (s : State) (u line : Nat) : (s.discardLine u line).atomAt line = none := by
  rw [← s.dropAtom_atomAt line]
  refine State.atomAt_congr ?_ line
  unfold State.discardLine
  dsimp only
  split
  · rfl
  · split
    · rfl
    · split
      · rfl
      · exact (State.when_home _ _ _ fun t => by simp [State.discardFull, State.raise_keeps])

theorem State.syncAtom_of_none {s : State} {line : Nat} (d : Line) (h : s.atomAt line = none) : s.syncAtom line d = s := by
  simp [State.syncAtom, h]

/-- A write of a line that no buffer holds places it in none. -/
theorem State.writeFull_atomAt {s : State} {line : Nat} (d : Line) (h : s.atomAt line = none) :
    (s.writeFull line d).1.atomAt line = none := by
  unfold State.writeFull
  extract_lets p j near back reseal
  have near_none : ∀ t : State, t.atomAt line = none → (near t).1.atomAt line = none := by
    intro t ht
    simp only [near]
    split
    · exact t.discardLine_atomAt _ line
    · have written : (t.writeNear p (t.entry p).set (t.entry p).loc j d).atomAt line = none := by
        rw [← ht]; exact State.atomAt_congr (by simp [State.writeNear_keeps]) line
      rw [State.syncAtom_of_none d written, written]
  have backed : back.1.atomAt line = none := h ▸ State.atomAt_congr (by simp [back, State.back_keeps]) line
  have resealed : reseal.1.atomAt line = none := h ▸ State.atomAt_congr (by simp [reseal, State.reseal_keeps]) line
  split
  · exact near_none s h
  · split
    · exact near_none _ backed
    · exact backed
  · split
    · exact near_none _ resealed
    · exact resealed
  · exact h
  · exact h ▸ State.atomAt_congr (by simp [State.trigger_keeps]) line

/-- A flushed line has left the atomic line buffer. -/
theorem State.flushAtom_atomAt (s : State) (line : Nat) : (s.flushAtom line).atomAt line = none := by
  unfold State.flushAtom
  split
  · assumption
  · exact State.writeFull_atomAt _ (s.dropAtom_atomAt line)

/-! ### Decoders and discard reports -/

/-- What a write leaves of a decoder that is not locked (R93). -/
def State.decoderOf (s : State) (ld i : Nat) (base size skip : BitVec 64) (ways gran : BitVec 4) (lock commit : Bool) : HdmDecoder :=
  let ok := decide (ways.toNat ≤ 4 ∧ gran.toNat ≤ 6) && s.inOrder ld i base.toNat
  { base := base.toNat, size := size.toNat, skip := skip.toNat, ways := ways.toNat, gran := gran.toNat,
    committed := commit && ok, err := commit && !ok, locked := commit && ok && lock }

/-- A write of a decoder that is not locked gives it its values (R93). -/
theorem execHdmDecoderCommit_unlocked {s : State} (ld : Fin 64) (i : Fin 4) (base size skip : BitVec 64)
    (ways gran : BitVec 4) (lock commit : Bool) (free : ((s.hdm ld.val i.val).committed && (s.hdm ld.val i.val).locked) = false) :
    execHdmDecoderCommit ld i base size skip ways gran ⟨lock, commit⟩ s = .next (s.onLd ld.val fun u =>
      { u with dec := enter (s.decoderOf ld.val i.val base size skip ways gran lock commit) u.dec i.val }) := by
  simp only [execHdmDecoderCommit, free, Bool.false_eq_true, if_false, State.decoderOf, HdmDecoder.supported,
    Bool.decide_and]
  cases commit with
  | false => rfl
  | true =>
    by_cases ok : (decide (ways.toNat ≤ 4) && decide (gran.toNat ≤ 6) && s.inOrder ld.val i.val base.toNat) = true
    · simp only [ok]; rfl
    · simp only [Bool.not_eq_true] at ok; simp only [ok]; rfl

/-- A unit's report of an extent stands in the discard list (R299). -/
theorem State.discardExtent_mem (s : State) (u e : Nat) :
    ({ unit := u, what := e, ext := true } : Discard) ∈ (s.discardExtent u e).flt.discard := by
  unfold State.discardExtent
  dsimp only
  split
  next there => simpa using there
  next => rw [State.when_flt _ _ _ fun t => by simp [State.discardFull, State.raise_keeps]]; simp

end Sys2Proof.Machine
end

section
/-! PROOF. Decoders, the atomic line buffer, the metadata caches, the overwrite queue and discard reports. -/

open Sys2Proof Sys2Proof.Machine

/-- Settles O22: each effect is read off one execution. What needs an argument: a flushed line stays out of the atomic line buffer
because writing an unbuffered line places it in none, and the return of a frame or bin leaves the overwrite queue as it was. -/
theorem decodersCachesAndOverwrites : Obligations.DecodersCachesAndOverwrites := by
  refine ⟨fun s ld i base size skip ways gran lock commit free => ?commits,
    fun s ld i base size skip ways gran lock commit locked => ?locked, fun s line a at_ serves whole => ?flushAtom,
    fun s hs serves many => ?clean, fun s m hs h => ?flush, fun s r rest first still => ?overwrite,
    fun s u p m aux => ?lines, fun s u e aux => ?extent⟩
  case commits =>
    refine .of_exec (execHdmDecoderCommit_unlocked ld i base size skip ways gran lock commit free) ⟨?_, fun k other => ?_⟩
    · simp [State.hdm, look_enter, State.decoderOf]
    · have ne : k.val ≠ i.val := fun e => other (Fin.ext e)
      simp [State.hdm, look_enter, ne]
  case locked => exact if_pos locked
  case flushAtom =>
    change ∃ t, execAtomicBufferFlush line s = .next t ∧ _
    simp only [execAtomicBufferFlush, at_, serves, whole, Bool.or_self, Bool.false_eq_true, if_false]
    exact ⟨_, rfl, State.flushAtom_atomAt _ _⟩
  case clean =>
    exact congrArg Host.Outcome.next (s.when_pos (by simp [serves, many]))
  case flush => exact congrArg Host.Outcome.next (State.gate_accepts _ _ _ _ _ h)
  case overwrite =>
    have freed : ∀ v : State,
        ((if r.kib = 4 then v.releaseFrame r.set (r.loc / 4) else v.releaseBin r.set r.loc r.kib).levels 0).mem = v.mem ∧
        ((if r.kib = 4 then v.releaseFrame r.set (r.loc / 4) else v.releaseBin r.set r.loc r.kib).levels 0).boot = v.boot := by
      intro v
      split <;> simp [State.levels_keeps, State.releaseFrame_keeps, State.releaseBin_keeps]
    change ∃ t, execOverwriteWrite s = .next t ∧ _
    simp only [execOverwriteWrite, first, still, Bool.false_eq_true, if_false]
    refine ⟨_, rfl, ?_, fun up last => ?_⟩
    · rw [State.when_mem _ _ _ fun t => by simp [State.raiseAt, State.raise_keeps], (freed _).1]
      rfl
    · rw [State.when_pos _ (by simpa using last)]
      refine State.raise_pend (by decide : definedSource 545 = true) ?_ (by decide : 545 < 768)
      rw [(freed _).2, State.withMem_boot, State.each_boot _ _ _ fun t j => by simp [State.putMedia_keeps]]
      simpa [State.reach_keeps] using up
  case lines =>
    change execDiscardReport u (.lines p m) s = _
    simp [execDiscardReport, aux]
  case extent =>
    change ∃ t, execDiscardReport u (.extent e) s = .next t ∧ _
    simp only [execDiscardReport, aux, Bool.not_true, Bool.false_eq_true, if_false]
    exact ⟨_, rfl, s.discardExtent_mem _ _⟩
end

section
/-! SUPPORT. What the home slices and the media leave of the extents' entries: operations on lines, pages and metadata change
of an entry at most the count of the quarter-frames that back it (R118). An operation that changes nothing of the address map
has its lemma `State.op_keeps`. -/

namespace Sys2Proof.Machine

/-- An extent's entry beside the count of the quarter-frames that back it. -/
def AddressMap.tenure (a : AddressMap) (e : Nat) : ExtentEntry := { look {} a.extents e with backedQ := 0 }

/-! ### Tenure and entries -/

/-- Entries of equal tenure differ in the count of their backing only. -/
theorem State.ext_of_tenure {s t : State} (h : t.amap.tenure = s.amap.tenure) (e : Nat) :
    t.ext e = { s.ext e with backedQ := (t.ext e).backedQ } := by
  have same : ({ t.ext e with backedQ := 0 } : ExtentEntry) = { s.ext e with backedQ := 0 } := congrFun h e
  calc t.ext e = { ({ t.ext e with backedQ := 0 } : ExtentEntry) with backedQ := (t.ext e).backedQ } := rfl
    _ = { ({ s.ext e with backedQ := 0 } : ExtentEntry) with backedQ := (t.ext e).backedQ } := by rw [same]

theorem State.ext_st_of_tenure {s t : State} (h : t.amap.tenure = s.amap.tenure) (e : Nat) : (t.ext e).st = (s.ext e).st := by
  rw [State.ext_of_tenure h]

theorem State.when_tenure (s : State) (b : Bool) (f : State → State) (h : ∀ t, (f t).amap.tenure = t.amap.tenure) :
    (s.when b f).amap.tenure = s.amap.tenure := s.when_inv (fun t : State => t.amap.tenure) b f h

theorem State.each_tenure {α : Type} (s : State) (l : List α) (f : State → α → State)
    (h : ∀ t a, (f t a).amap.tenure = t.amap.tenure) : (s.each l f).amap.tenure = s.amap.tenure :=
  s.each_inv (fun t : State => t.amap.tenure) l f h

/-! ### The address map -/

@[simp] theorem AddressMap.tenure_lost (a : AddressMap) (n : Nat) : ({ a with lost := n } : AddressMap).tenure = a.tenure := (rfl)
@[simp] theorem AddressMap.tenure_flushReads (a : AddressMap) (l : List (Nat × Nat × Nat)) :
    ({ a with flushReads := l } : AddressMap).tenure = a.tenure := (rfl)

@[simp] theorem State.onDom_tenure (s : State) (d : Nat) (f : DomainEntry → DomainEntry) :
    (s.onDom d f).amap.tenure = s.amap.tenure := (rfl)
@[simp] theorem State.useRun_tenure (s : State) (i f n : Nat) : (s.useRun i f n).amap.tenure = s.amap.tenure := (rfl)
@[simp] theorem State.freeRunOf_tenure (s : State) (i f n : Nat) : (s.freeRunOf i f n).amap.tenure = s.amap.tenure := (rfl)
@[simp] theorem State.withdrawn_tenure (s : State) (e : PageEntry) : (s.withdrawn e).amap.tenure = s.amap.tenure := (rfl)

@[simp] theorem State.account_tenure (s : State) (e add sub : Nat) : (s.account e add sub).amap.tenure = s.amap.tenure := by
  funext k
  by_cases h : k = e
  · subst h; simp [State.account, AddressMap.tenure, State.onExt, State.onDom]
  · simp [State.account, AddressMap.tenure, State.onExt, State.onDom, h]

/-- The watermarks are no matter of the extents (R121). -/
@[simp] theorem State.levels_extents (s : State) (d : Nat) : (s.levels d).amap.extents = s.amap.extents := by
  unfold State.levels
  extract_lets f low crit s1 _ s2 s3
  refine (State.when_inv (fun t : State => t.amap.extents) _ _ _ fun t => ?_).trans
    ((State.when_inv (fun t : State => t.amap.extents) _ _ _ fun t => ?_).trans
      (State.when_inv (fun t : State => t.amap.extents) _ _ _ fun t => ?_))
  · rfl
  all_goals simp [State.raiseAt, State.raise_keeps]

@[simp] theorem State.levels_tenure (s : State) (d : Nat) : (s.levels d).amap.tenure = s.amap.tenure := by
  funext e
  rw [AddressMap.tenure, State.levels_extents, AddressMap.tenure]

@[simp] theorem State.releaseFrame_tenure (s : State) (i f : Nat) : (s.releaseFrame i f).amap.tenure = s.amap.tenure := by
  unfold State.releaseFrame
  dsimp only
  split <;> rfl

@[simp] theorem State.freeBin_tenure (s : State) (i loc cls : Nat) : (s.freeBin i loc cls).amap.tenure = s.amap.tenure := by
  unfold State.freeBin
  dsimp only
  split
  · rfl
  · split <;> rfl

@[simp] theorem State.releaseBin_tenure (s : State) (i loc cls : Nat) : (s.releaseBin i loc cls).amap.tenure = s.amap.tenure := by
  unfold State.releaseBin
  dsimp only
  split <;> simp

@[simp] theorem State.giveFrame_tenure (s : State) (p i f : Nat) : (s.giveFrame p i f).amap.tenure = s.amap.tenure := by
  simp [State.giveFrame]

@[simp] theorem State.giveBin_tenure (s : State) (p i loc cls : Nat) : (s.giveBin p i loc cls).amap.tenure = s.amap.tenure := by
  simp [State.giveBin]

@[simp] theorem State.giveBack_tenure (s : State) (p : Nat) (e : PageEntry) : (s.giveBack p e).amap.tenure = s.amap.tenure := by
  unfold State.giveBack
  split <;> simp

theorem State.takeFrame_tenure {s : State} {p : Nat} {promo : Bool} {r : State × Nat × Nat}
    (h : s.takeFrame p promo = some r) : r.1.amap.tenure = s.amap.tenure := by
  unfold State.takeFrame at h
  split at h
  · split at h
    · cases h
    · split at h
      · cases h
      · cases h; simp
  · cases h

/-! ### Pages and the counter tree -/

@[simp] theorem State.dropDest_tenure (s : State) (p : Nat) (m : Migration) : (s.dropDest p m).amap.tenure = s.amap.tenure := by
  unfold State.dropDest
  split <;> simp

@[simp] theorem State.endMigration_tenure (s : State) (p : Nat) : (s.endMigration p).amap.tenure = s.amap.tenure := by
  unfold State.endMigration
  split <;> simp [State.onPage_keeps]

@[simp] theorem State.poisonPage_tenure (s : State) (p : Nat) (withdraw : Bool) :
    (s.poisonPage p withdraw).amap.tenure = s.amap.tenure := by
  cases withdraw <;> simp [State.poisonPage, State.onPage_keeps]

@[simp] theorem State.mapLost_tenure (s : State) (n : Nat) : (s.mapLost n).amap.tenure = s.amap.tenure := by
  unfold State.mapLost
  rw [State.each_tenure _ _ _ fun t p => by simp [State.fileP_keeps, State.raise_keeps]]
  rfl

@[simp] theorem State.leafLost_tenure (s : State) (hs i : Nat) : (s.leafLost hs i).amap.tenure = s.amap.tenure := by
  unfold State.leafLost
  dsimp only
  split
  · simp [State.setBlock_keeps]
  · have lost : ((s.goodCopies (blockKey hs 1 i)).countLost hs).amap = s.amap := by
      simp [State.countLost_keeps, State.goodCopies_keeps]
    split <;> simp [State.fileP_keeps, State.raiseHs_keeps, State.storeNode_keeps, State.setBlock_keeps, lost,
      State.poisonMedia_keeps]

@[simp] theorem State.checkBlock_tenure (s : State) (hs lvl i : Nat) : (s.checkBlock hs lvl i).amap.tenure = s.amap.tenure := by
  unfold State.checkBlock
  dsimp only
  split
  · rfl
  · split
    · split <;> simp [State.metaRead_keeps]
    · split
      · split <;> simp [State.metaRead_keeps, State.loadCopy_keeps]
      · split
        · simp [State.metaRead_keeps, State.loadCopy_keeps]
        · split <;> simp [State.metaRead_keeps, State.loadCopy_keeps, State.nodeLost_keeps, State.mendCopy_keeps,
            State.fileP_keeps, State.raiseNode_keeps]

@[simp] theorem State.retagChild_tenure (s : State) (hs : Nat) (r : Retag) (k : Nat) :
    (s.retagChild hs r k).amap.tenure = s.amap.tenure := by
  unfold State.retagChild
  dsimp only
  split
  · split
    · simp [State.setRetags_keeps]
    · rw [State.when_tenure _ _ _ fun t => by simp [State.storeNode_keeps]]
      split <;> simp [State.setRetags_keeps]
  · split
    · split <;> simp [State.setRetags_keeps, State.putMedia_keeps, State.readLine_keeps]
    · simp [State.setRetags_keeps]

@[simp] theorem State.endRetag_tenure (s : State) (hs key : Nat) : (s.endRetag hs key).amap.tenure = s.amap.tenure := by
  unfold State.endRetag
  split
  · simp [State.setRetags_keeps, State.each_tenure]
  · simp [State.setRetags_keeps]

@[simp] theorem State.advance_tenure (s : State) (hs lvl i k : Nat) : (s.advance hs lvl i k).amap.tenure = s.amap.tenure := by
  unfold State.advance
  dsimp only
  split
  · simp [State.setRetags_keeps, State.setBlock_keeps, State.when_tenure, State.raiseNode_keeps]
  · simp [State.setRetags_keeps, State.setBlock_keeps]

@[simp] theorem State.walk_tenure (n hs : Nat) (l : List Walk) (s : State) : (s.walk n hs l).amap.tenure = s.amap.tenure := by
  fun_induction State.walk n hs l s <;>
    simp_all +zetaDelta [State.count_keeps, State.mcUse_keeps, State.metaWritten_keeps, State.arrivedAt_keeps,
      State.storeNode_keeps]

@[simp] theorem State.cleanLine_tenure (s : State) (hs : Nat) (m : McLine) : (s.cleanLine hs m).amap.tenure = s.amap.tenure := by
  simp [State.cleanLine, State.leave_keeps, State.setMc_keeps]

@[simp] theorem State.fetchPage_tenure (s : State) (p : Nat) : (s.fetchPage p).amap.tenure = s.amap.tenure := by
  simp [State.fetchPage, State.needChunk_keeps]

@[simp] theorem State.setEntry_tenure (s : State) (p : Nat) (f : PageEntry → PageEntry) :
    (s.setEntry p f).amap.tenure = s.amap.tenure := by
  simp [State.setEntry, State.onPage_keeps]

@[simp] theorem State.writeNear_tenure (s : State) (p i f j : Nat) (d : Line) :
    (s.writeNear p i f j d).amap.tenure = s.amap.tenure := by
  simp [State.writeNear, State.putMedia_keeps]

/-! ### Lines -/

@[simp] theorem State.back_tenure (s : State) (p : Nat) : (s.back p).1.amap.tenure = s.amap.tenure := by
  unfold State.back
  split
  next h => simpa using State.takeFrame_tenure h
  next => simp [State.exhausted_keeps]

@[simp] theorem State.nextMajor_tenure (s : State) (p : Nat) : (s.nextMajor p).amap.tenure = s.amap.tenure := by
  simp [State.nextMajor, State.setBlock_keeps]

@[simp] theorem State.reseal_tenure (s : State) (p : Nat) : (s.reseal p).1.amap.tenure = s.amap.tenure := by
  unfold State.reseal
  split
  next h => simpa [State.poisonMedia_keeps] using State.takeFrame_tenure h
  next => simp [State.exhausted_keeps]

@[simp] theorem State.parcelBad_tenure (s : State) (p k : Nat) : (s.parcelBad p k).amap.tenure = s.amap.tenure := by
  simp [State.parcelBad, State.fileP_keeps, State.raiseEng_keeps, State.when_tenure, State.dropParcels_keeps]

@[simp] theorem State.readFromBin_tenure (s : State) (p : Nat) (e : PageEntry) (j : Nat) :
    (s.readFromBin p e j).1.amap.tenure = s.amap.tenure := by
  unfold State.readFromBin
  dsimp only
  split
  · simp [State.useParcel_keeps]
  · split
    · split <;> simp [State.readBin_keeps]
    · split <;> simp [State.useParcel_keeps, State.engineUsed_keeps, State.count_keeps, State.readParcel_keeps]

@[simp] theorem State.readAs_tenure (s : State) (p : Nat) (e : PageEntry) (j : Nat) :
    (s.readAs p e j).1.amap.tenure = s.amap.tenure := by
  unfold State.readAs
  dsimp only
  split
  case h_2 => split <;> simp [State.readNear_keeps, State.poisonMedia_keeps]
  all_goals simp

@[simp] theorem State.readData_tenure (s : State) (line : Nat) (counted : Bool) :
    (s.readData line counted).1.amap.tenure = s.amap.tenure := by
  unfold State.readData
  dsimp only
  split
  · rfl
  · split <;> simp [State.countRead_keeps]

@[simp] theorem State.writeFull_tenure (s : State) (line : Nat) (d : Line) : (s.writeFull line d).1.amap.tenure = s.amap.tenure := by
  unfold State.writeFull
  extract_lets p j near back reseal
  have near_tenure : ∀ t : State, (near t).1.amap.tenure = t.amap.tenure := by
    intro t
    simp only [near]
    split <;> simp [State.discardLine_keeps, State.syncAtom_keeps]
  split
  · exact near_tenure s
  · split <;> simp [near_tenure, back]
  · split <;> simp [near_tenure, reseal]
  · rfl
  · simp [State.trigger_keeps]

@[simp] theorem State.writePoison_tenure (s : State) (line : Nat) : (s.writePoison line).1.amap.tenure = s.amap.tenure := by
  unfold State.writePoison
  extract_lets p j near back
  have near_tenure : ∀ t : State, (near t).1.amap.tenure = t.amap.tenure := by
    intro t
    simp only [near]
    split <;> simp [State.discardLine_keeps, State.dropAtom_keeps, State.poisonMedia_keeps]
  split
  · exact near_tenure s
  · split <;> simp [near_tenure, back]
  · rfl
  · rfl
  · simp [State.trigger_keeps]

@[simp] theorem State.writePart_tenure (s : State) (line : Nat) (mask : BitVec 64) (d : Line) (who : Requester) :
    (s.writePart line mask d who).1.amap.tenure = s.amap.tenure := by
  unfold State.writePart
  dsimp only
  split
  · rfl
  · simp [State.trigger_keeps]
  · simp [State.trigger_keeps]
  · simp [State.unverified_keeps]
  · split <;> simp [State.unverified_keeps, State.discardLine_keeps]

@[simp] theorem State.flushAtom_tenure (s : State) (line : Nat) : (s.flushAtom line).amap.tenure = s.amap.tenure := by
  unfold State.flushAtom
  split
  · rfl
  · simp [State.dropAtom_keeps]

@[simp] theorem State.placeAtom_tenure (s : State) (line : Nat) (d : Line) : (s.placeAtom line d).amap.tenure = s.amap.tenure := by
  unfold State.placeAtom
  dsimp only
  split
  · simp [State.dropAtom_keeps]
  · split <;> simp [State.setAtoms_keeps]

@[simp] theorem State.atomicAt_tenure (s : State) (line : Nat) (op : AtomicKind) (size off a b : Nat) (who : Requester) :
    (s.atomicAt line op size off a b who).1.amap.tenure = s.amap.tenure := by
  unfold State.atomicAt
  extract_lets p w m act r r'
  have act_tenure : ∀ (t : State) (old : Line), (act t old).1.amap.tenure = t.amap.tenure := fun t old => by simp [act]
  split
  · rfl
  · simp [State.trigger_keeps]
  · simp [State.trigger_keeps]
  · simp [State.unverified_keeps]
  · split <;> simp [State.unverified_keeps, act_tenure, r]
  · split <;> simp [State.unverified_keeps, act_tenure, r']

/-! ### Requests and their queues -/

@[simp] theorem State.touch_tenure (s : State) (p : Nat) : (s.touch p).amap.tenure = s.amap.tenure := by
  unfold State.touch
  dsimp only
  split <;> simp [State.when_tenure]

@[simp] theorem State.sample_tenure (s : State) (p : Nat) : (s.sample p).amap.tenure = s.amap.tenure := by
  unfold State.sample
  split <;> simp [State.sampleAge_keeps]

@[simp] theorem State.loseLine_tenure (s : State) (line : Nat) : (s.loseLine line).1.amap.tenure = s.amap.tenure := by
  unfold State.loseLine
  dsimp only
  split <;> simp [State.sfDrop_keeps]

@[simp] theorem State.flushAnswers_tenure (s : State) (a : Nat) (but : Option Nat) :
    (s.flushAnswers a but).amap.tenure = s.amap.tenure := by
  unfold State.flushAnswers
  dsimp only
  split
  · rfl
  · rw [State.withAmap_amap, AddressMap.tenure_flushReads, State.each_tenure _ _ _ fun t f => by simp [State.toHost_keeps]]

@[simp] theorem State.answerCmp_tenure (s : State) (q : QReq) (mv : MetaVal) (err : Bool) :
    (s.answerCmp q mv err).amap.tenure = s.amap.tenure := by
  unfold State.answerCmp
  dsimp only
  split
  · simp [State.traceDone_keeps]
  · split <;> simp [State.traceDone_keeps, State.toHost_keeps, State.emit_keeps]

@[simp] theorem State.serveNone_tenure (s : State) (q : QReq) (mv : MetaVal) : (s.serveNone q mv).1.amap.tenure = s.amap.tenure := by
  unfold State.serveNone
  split <;> simp [State.answerRead_keeps, State.answerAtomic_keeps, State.discardLine_keeps]

@[simp] theorem State.serveLine_tenure (s : State) (q : QReq) (mv : MetaVal) : (s.serveLine q mv).1.amap.tenure = s.amap.tenure := by
  unfold State.serveLine
  generalize s.notePath q = q
  dsimp only
  split
  · simp
  · split
    case h_1 | h_2 | h_3 => simp [State.answerRead_keeps]
    case h_4 | h_5 => split <;> split <;> simp [State.actWrite_keeps]
    case h_8 => split <;> simp [State.actWrite_keeps, State.answerAtomic_keeps]
    all_goals simp

@[simp] theorem State.goCoherent_tenure (s : State) (line : Nat) (q : QReq) :
    (s.goCoherent line q).1.amap.tenure = s.amap.tenure := by
  unfold State.goCoherent
  extract_lets e r w own guarded sn owned n refused
  split
  · simp
  · split
    · simp [State.sendSnoops_keeps]
    · split
      · rfl
      next t moved =>
        have kept : t.amap = s.amap := by simp [State.sfGo_keeps _ _ _ moved]
        extract_lets served
        split <;> simp [kept, State.popReq_keeps, State.writtenBack_keeps, State.guardEvent_keeps,
          State.count_keeps, served, refused]

@[simp] theorem State.stepHead_tenure (s : State) (line : Nat) : (s.stepHead line).1.amap.tenure = s.amap.tenure := by
  unfold State.stepHead
  split
  · rfl
  next q _ =>
    dsimp only
    generalize ready : s.setReq (s.passHead q) = v
    have kept : v.amap = s.amap := by rw [← ready]; simp [State.setReq_keeps]
    rw [← kept]
    split
    · rfl
    · split
      · split
        · rfl
        · simp [State.setReq_keeps]
      · split
        case h_1 =>
          split
          · split <;> simp [State.popReq_keeps]
          · split <;> simp [State.popReq_keeps, State.sendSnoops_keeps]
        case h_2 =>
          split
          · split <;> simp [State.popReq_keeps]
          · split
            · split
              · split <;> simp [State.popReq_keeps, State.sendSnoops_keeps]
              · simp [State.popReq_keeps]
            · split
              · split
                next moved => simp [State.popReq_keeps, State.sfGo_keeps _ _ _ moved]
                next => simp [State.popReq_keeps]
              · simp [State.popReq_keeps]
        case h_3 =>
          split
          · simp [State.callFor_keeps]
          · split
            · split <;> split <;> simp [State.popReq_keeps]
            · simp

@[simp] theorem State.runLines_tenure (n : Nat) (l : List Nat) (s : State) : (s.runLines n l).amap.tenure = s.amap.tenure := by
  fun_induction State.runLines n l s <;> simp_all +zetaDelta

@[simp] theorem State.enqueue_tenure (s : State) (q : QReq) (tr : TrackerKind) : (s.enqueue q tr).amap.tenure = s.amap.tenure := by
  unfold State.enqueue
  dsimp only
  split <;> simp [State.when_tenure, State.portCycle_keeps, State.count_keeps]

@[simp] theorem State.useCredit_tenure (s : State) (hs : Nat) (c : ReqClass) : (s.useCredit hs c).amap.tenure = s.amap.tenure := by
  unfold State.useCredit
  split
  · rfl
  · split <;> simp

@[simp] theorem State.takeIn_tenure (s : State) (q : QReq) (cred : Bool) : (s.takeIn q cred).amap.tenure = s.amap.tenure := by
  unfold State.takeIn
  dsimp only
  split
  · simp
  · split
    · split
      · simp
      · split <;> simp
    · split <;> simp [State.when_tenure, State.count_keeps, State.emit_keeps]

@[simp] theorem State.readmit_tenure (n : Nat) (s : State) : (s.readmit n).amap.tenure = s.amap.tenure := by
  fun_induction State.readmit n s <;> simp_all +zetaDelta

@[simp] theorem State.runOn_tenure (s : State) (lines : List Nat) : (s.runOn lines).amap.tenure = s.amap.tenure := by
  simp [State.runOn]

@[simp] theorem State.runPage_tenure (s : State) (p : Nat) : (s.runPage p).amap.tenure = s.amap.tenure := by
  simp [State.runPage]

@[simp] theorem State.unlockPage_tenure (s : State) (p : Nat) (f : PageEntry → PageEntry) :
    (s.unlockPage p f).amap.tenure = s.amap.tenure := by
  simp [State.unlockPage, State.when_tenure, State.nodeLost_keeps]

@[simp] theorem State.abandon_tenure (s : State) (p : Nat) : (s.abandon p).amap.tenure = s.amap.tenure := by
  unfold State.abandon
  split
  · rfl
  · simp [State.tierCount_keeps]

/-! ### Extents that leave -/

@[simp] theorem State.unloadNode_tenure (s : State) (lvl i : Nat) : (s.unloadNode lvl i).amap.tenure = s.amap.tenure := by
  unfold State.unloadNode
  refine State.each_tenure _ _ _ fun t hs => ?_
  dsimp only
  split
  · rfl
  · simp [State.when_tenure, State.setMc_keeps]

@[simp] theorem State.leaveSpine_tenure (s : State) (e : Nat) : (s.leaveSpine e).amap.tenure = s.amap.tenure := by
  unfold State.leaveSpine
  refine State.each_tenure _ _ _ fun t n => ?_
  dsimp only
  split
  · rfl
  · split
    · rfl
    · split <;> simp [State.dropNode_keeps]

/-- Draining and erasing an extent change of the entries its state and since when it has it, beside counts of backing. -/
theorem State.toDrain_tenure (s : State) (e : Nat) : (s.toDrain e).amap.tenure = (s.extTo e .drain).amap.tenure := by
  simp [State.toDrain, State.each_tenure, State.dropDemotions_keeps]

theorem State.toErase_tenure (s : State) (e : Nat) : (s.toErase e).amap.tenure = (s.extTo e .erase).amap.tenure := by
  simp [State.toErase]

end Sys2Proof.Machine
end

section
/-! SUPPORT. A write of AMAP.TCMD (R128): what its storing leaves, and the map's tables under the operations of a command. -/

namespace Sys2Proof.Machine

/-! ### Registers whose fields take effect at once -/

/-- A value put at a key leaves the other keys, whatever an absent key reads. -/
theorem look_put_other {α : Type} [DecidableEq α] (d d' v : α) (t : Table α) {k j : Nat} (h : j ≠ k) :
    look d' (put d t k v) j = look d' t j := by
  unfold put
  split <;> simp [look_wipe, look_enter, h]

/-- Setting a register leaves the active words of the others. -/
theorem State.setReg_activeWord (s : State) {p x off : Nat} (v : Word) (h : off ≠ p * 4096 + x) :
    (s.setReg p x v).activeWord off = s.activeWord off := by
  have backing : ∀ r, (s.setReg p x v).backing off r = s.backing off r := fun _ => rfl
  simp only [State.activeWord, backing]
  cases regAt off with
  | none => rfl
  | some r => simp only [State.setReg, State.withRegs_regs, look_put_other _ _ _ _ h]

/-- A write of a register whose fields all take effect at once and none of which is retained changes at most the active word of
that register (R12, R537). -/
theorem State.storeWrite_atOnce (s : State) {off : Nat} (val : Word) (who : Option Master) {R : Reg} (found : regAt off = some R)
    (plain : ∀ f ∈ R.fields, f.isRwp = false ∧ f.cls = .l) (other : (kindOf (off / 4096) == .kDdrc) = false) :
    s.storeWrite off val who = s ∨ ∃ w, s.storeWrite off val who = s.setReg (off / 4096) (off % 4096) w := by
  unfold State.storeWrite
  rw [found]
  dsimp only
  generalize legal : R.fields.filter (fun f => legalValue off f (fieldOf val f.lo f.w)) = ok
  have atOnce : ∀ f ∈ ok, f.isRwp = false ∧ f.cls = .l := fun f h => plain f (List.mem_of_mem_filter (legal ▸ h))
  have retained : ok.filter Field.isRwp = [] := List.filter_eq_nil_iff.2 fun f h => by simp [(atOnce f h).1]
  have of_class : ∀ (p : Field → Bool) (c : Change), c ≠ .l → (ok.filter p).filter (fun f => f.cls == c) = [] := by
    intro p c ne
    refine List.filter_eq_nil_iff.2 fun f h => ?_
    simp [(atOnce f (List.mem_of_mem_filter h)).2, ne.symm]
  have quiet : ∀ p : Field → Bool, (ok.filter p).any (fun f => f.cls == .s) = false := by
    intro p
    refine List.any_eq_false.2 fun f h => ?_
    simp [(atOnce f (List.mem_of_mem_filter h)).2]
  rw [retained, of_class _ .h (by decide)]
  split
  · exact .inl rfl
  · have inactive : s.activeSet off = false := by simp [State.activeSet, other]
    simp only [inactive, List.append_nil, quiet, Bool.and_false, State.when_false, maskOf, List.filter_nil, List.foldl_nil,
      bne_self_eq_false, Bool.false_and, Bool.false_eq_true, if_false]
    rw [State.when]
    split
    · exact .inr ⟨_, rfl⟩
    · exact .inl rfl

/-! ### A write of AMAP.TCMD -/

theorem State.met_tcmd (s : State) (m : Master) : ∃ h, s.met m amapTcmd = s.withHost h := by
  have ungated : gatingOf (amapTcmd / 4096) = none := by decide
  have still : ∀ t : State, t.afterChange amapTcmd = t := fun t => by
    unfold State.afterChange
    rw [ungated]
    split
    · contradiction
    · rfl
  rw [State.met, still]
  cases m with
  | host ld => obtain ⟨L, arrived⟩ := s.heard_eq ld.val; exact ⟨_, arrived⟩
  | bmc | core c => exact ⟨s.host, rfl⟩

theorem State.usedAt_clk (s : State) (off : Nat) : ∃ c, s.usedAt off = s.withClk c := by
  unfold State.usedAt State.when
  split
  · split
    · exact ⟨_, rfl⟩
    · exact ⟨s.clk, rfl⟩
  · exact ⟨s.clk, rfl⟩

/-- A lock that its owner uses changes no active word (R541). -/
theorem State.touchLock_regs (s : State) (m : Master) (p : Nat) :
    ∃ l, s.touchLock m p = s.withRegs { s.regs with locks := l } := by
  unfold State.touchLock State.when
  split
  · split
    · exact ⟨_, rfl⟩
    · exact ⟨s.regs.locks, rfl⟩
  · exact ⟨s.regs.locks, rfl⟩

/-- A command of AMAP.TCMD changes, up to its effect, host ports, observation, clocks and registers only, and of the active words
that of AMAP.TCMD only. -/
theorem State.written_tcmd_eq (s : State) (m : Master) (v : Word) :
    ∃ h o c r, s.written m amapTcmd v = (((s.withHost h).withObs o).withClk c).withRegs r ∧
      ∀ off, off ≠ amapTcmd → (s.written m amapTcmd v).activeWord off = s.activeWord off := by
  obtain ⟨h, met⟩ := s.met_tcmd m
  obtain ⟨o, counted⟩ := (s.withHost h).count_obs (amapTcmd / 4096) 0x02 1
  obtain ⟨c, used⟩ := ((s.withHost h).withObs o).usedAt_clk amapTcmd
  obtain ⟨l, touched⟩ := (((s.withHost h).withObs o).withClk c).touchLock_regs m (amapTcmd / 4096)
  have same : ∀ off, ((((s.withHost h).withObs o).withClk c).withRegs { s.regs with locks := l }).activeWord off =
      s.activeWord off := fun _ => rfl
  rw [State.written, met, State.countAccess, counted, used, touched]
  rcases State.storeWrite_atOnce _ v (some m) (off := amapTcmd) rfl (by decide) (by decide) with stored | ⟨w, stored⟩
  · exact ⟨h, o, c, _, stored, fun off _ => by rw [stored]; exact same off⟩
  · refine ⟨h, o, c, _, stored, fun off other => ?_⟩
    rw [stored]
    exact (State.setReg_activeWord _ w other).trans (same off)

section Written
variable (s : State) (m : Master) (v : Word)

/-- What depends on no host ports, observation, clocks and registers is, at a command of AMAP.TCMD, as it was. -/
theorem State.written_tcmd_inv {α : Type} (g : State → α)
    (h : ∀ p o c r, g ((((s.withHost p).withObs o).withClk c).withRegs r) = g s) : g (s.written m amapTcmd v) = g s := by
  obtain ⟨p, o, c, r, e, -⟩ := s.written_tcmd_eq m v
  rw [e, h]

theorem State.written_tcmd_activeWord {off : Nat} (h : off ≠ amapTcmd) :
    (s.written m amapTcmd v).activeWord off = s.activeWord off := by
  obtain ⟨p, o, c, r, -, words⟩ := s.written_tcmd_eq m v
  exact words off h

@[simp] theorem State.written_tcmd_amap : (s.written m amapTcmd v).amap = s.amap :=
  s.written_tcmd_inv m v State.amap fun _ _ _ _ => rfl
@[simp] theorem State.written_tcmd_now : (s.written m amapTcmd v).now = s.now :=
  s.written_tcmd_inv m v State.now fun _ _ _ _ => rfl
@[simp] theorem State.written_tcmd_ext (e : Nat) : (s.written m amapTcmd v).ext e = s.ext e :=
  s.written_tcmd_inv m v (State.ext · e) fun _ _ _ _ => rfl
@[simp] theorem State.written_tcmd_dom (d : Nat) : (s.written m amapTcmd v).dom d = s.dom d :=
  s.written_tcmd_inv m v (State.dom · d) fun _ _ _ _ => rfl
@[simp] theorem State.written_tcmd_imageOf (t i : Nat) : (s.written m amapTcmd v).imageOf t i = s.imageOf t i :=
  s.written_tcmd_inv m v (State.imageOf · t i) fun _ _ _ _ => rfl
@[simp] theorem State.written_tcmd_checkEntry (t i : Nat) (w : List Nat) :
    (s.written m amapTcmd v).checkEntry t i w = s.checkEntry t i w :=
  s.written_tcmd_inv m v (State.checkEntry · t i w) fun _ _ _ _ => rfl
@[simp] theorem State.written_tcmd_holdersOk (k e : Nat) : (s.written m amapTcmd v).holdersOk k e = s.holdersOk k e :=
  s.written_tcmd_inv m v (State.holdersOk · k e) fun _ _ _ _ => rfl
@[simp] theorem State.written_tcmd_ffree : (s.written m amapTcmd v).ffree = s.ffree :=
  s.written_tcmd_inv m v State.ffree fun _ _ _ _ => rfl
@[simp] theorem State.written_tcmd_metaPlace (d : Nat) : (s.written m amapTcmd v).metaPlace d = s.metaPlace d :=
  s.written_tcmd_inv m v (State.metaPlace · d) fun _ _ _ _ => rfl

@[simp] theorem State.written_tcmd_tdata : (s.written m amapTcmd v).tdata = s.tdata := by
  funext k
  rw [State.tdata, State.cfg, State.written_tcmd_activeWord _ _ _ (by unfold amapTcmd; omega)]
  rfl
@[simp] theorem State.written_tcmd_cmdMask : (s.written m amapTcmd v).cmdMask = s.cmdMask := by simp [State.cmdMask]
@[simp] theorem State.written_tcmd_reserve : (s.written m amapTcmd v).reserve = s.reserve := by
  simp only [State.reserve, State.pairOr, State.cfg, State.written_tcmd_amap]
  rw [State.written_tcmd_activeWord _ _ _ (by decide), State.written_tcmd_activeWord _ _ _ (by decide)]
  rfl

end Written

/-! ### TDATA (R129) -/

/-- A register none of whose fields is retained works with the word it was set to. -/
theorem State.setReg_activeWord_same (s : State) (p x : Nat) (v : Word) {R : Reg} (found : regAt (p * 4096 + x) = some R)
    (plain : R.fields.filter (fun f => f.isRwp && f.cls != .h) = []) :
    (s.setReg p x v).activeWord (p * 4096 + x) = v.toNat := by
  have low : v.toNat &&& 0xFFFFFFFF = v.toNat := by
    rw [show (0xFFFFFFFF : Nat) = 2 ^ 32 - 1 from rfl, Nat.and_two_pow_sub_one_eq_mod, Nat.mod_eq_of_lt v.isLt]
  simp [State.activeWord, found, plain, maskOf, State.setReg, low]

theorem tdata_found : ∀ k < 8, (regAt (amapPage * 4096 + (0xA0 + 4 * k))).any
    (fun r => r.fields.filter (fun f => f.isRwp && f.cls != .h) == []) = true := by decide

/-- TDATA reads what it was set to. -/
theorem State.setTdata_tdata (s : State) {k : Nat} (v j : Nat) (hk : k < 8) :
    (s.setTdata k v).tdata j = if j = k then v % 2 ^ 32 else s.tdata j := by
  split
  next same =>
    subst same
    obtain ⟨R, found, plain⟩ := (Option.any_eq_true _ _).1 (tdata_found j hk)
    rw [State.tdata, State.cfg, State.setTdata, State.setReg_activeWord_same _ _ _ _ found (by simpa using plain)]
    simp [bits]
  next other => rw [State.tdata, State.cfg, State.setTdata, State.setReg_activeWord _ _ (by omega)]; rfl

theorem State.finish_tdata (s : State) (m : Master) (k : Nat) : (s.finish m).tdata k = s.tdata k := by
  have backing : ∀ off r, (s.finish m).backing off r = s.backing off r := fun off r => by
    simp [State.backing, State.finish_keeps]
  simp [State.tdata, State.cfg, State.activeWord, backing, State.finish_keeps]

/-- Words set from TDATA 0 on are read there. -/
theorem State.each_setTdata_tdata (l : List Nat) (a : Nat) (s : State) (k : Nat) (fits : a + l.length ≤ 8) :
    (s.each (l.zip (List.range' a l.length)) fun s w => s.setTdata w.2 w.1).tdata k =
      if a ≤ k ∧ k < a + l.length then l.getD (k - a) 0 % 2 ^ 32 else s.tdata k := by
  induction l generalizing a s with
  | nil => simp [State.each]
  | cons v l ih =>
    simp only [List.length_cons] at fits
    have rest := ih (a + 1) (s.setTdata a v) (by omega)
    rw [State.setTdata_tdata _ _ _ (by omega)] at rest
    simp only [State.each, List.length_cons, List.range'_succ, List.zip_cons_cons, List.foldl_cons] at rest ⊢
    rw [rest]
    rcases Nat.lt_trichotomy k a with before | here | after
    · rw [if_neg (by omega), if_neg (by omega), if_neg (by omega)]
    · subst here
      simp
    · rw [show k - a = k - (a + 1) + 1 by omega, List.getD_cons_succ]
      by_cases inside : k < a + 1 + l.length
      · rw [if_pos ⟨after, inside⟩, if_pos (by omega)]
      · rw [if_neg (by omega), if_neg (by omega), if_neg (by omega)]

/-! ### Holders (R111, R128) -/

theorem popCount_eq (m n : Nat) : popCount m n = (ones m n).length := by
  have count : ∀ (l : List Nat) a, l.foldl (fun a i => a + b2n (bitOf m i)) a = a + (l.filter (bitOf m)).length := by
    intro l
    induction l with
    | nil => simp
    | cons i l ih =>
      intro a
      rw [List.foldl_cons, ih]
      cases b : bitOf m i <;> simp [b, b2n]
      omega
  rw [popCount, count, Nat.zero_add, ones]

theorem bitOf_eq_testBit (m n : Nat) : bitOf m n = m.testBit n := by
  rw [bitOf, Nat.testBit_eq_decide_div_mod_eq, Nat.shiftRight_eq_div_pow]
  rfl

/-- The holders that a mask gives are those of its bits. -/
theorem ExtentEntry.setHolders_holds (x : ExtentEntry) (m : Nat) {n : Nat} (h : n < 64) :
    (x.setHolders m).holds n = bitOf m n := by
  by_cases one : popCount m 64 = 1
  · obtain ⟨a, only⟩ := List.length_eq_one_iff.1 (popCount_eq m 64 ▸ one)
    have first : (upTo 64).find? (bitOf m) = some a := by rw [← List.head?_filter]; exact congrArg List.head? only
    have mem : n ∈ ones m 64 ↔ bitOf m n = true := by simp [ones, upTo, h]
    rw [only, List.mem_singleton] at mem
    rw [Bool.eq_iff_iff, ← mem]
    simpa [ExtentEntry.holds, ExtentEntry.setHolders, one, first] using eq_comm
  · rw [bitOf_eq_testBit]
    simp only [ExtentEntry.holds, ExtentEntry.setHolders, beq_eq_false_iff_ne.2 one, Bool.not_false, if_true,
      Bool.false_eq_true, if_false, BitVec.getLsbD_ofNat, h, decide_true, Bool.true_and]

theorem State.imageOf_length (s : State) (t i : Nat) : (s.imageOf t i).length = 8 := by
  unfold State.imageOf
  split
  · rfl
  · split
    · rfl
    · split <;> rfl

/-! ### Commands -/

@[simp] theorem State.finish_amap (s : State) (m : Master) : (s.finish m).amap = s.amap := by simp [State.finish_keeps]
@[simp] theorem State.finish_ext (s : State) (m : Master) (e : Nat) : (s.finish m).ext e = s.ext e := by
  simp [State.ext]
@[simp] theorem State.toHolders_amap (s : State) (e kind : Nat) : (s.toHolders e kind).amap = s.amap :=
  s.each_inv State.amap _ _ fun t n => by simp [State.emit_keeps]
@[simp] theorem State.toHolders_ext (s : State) (e kind k : Nat) : (s.toHolders e kind).ext k = s.ext k := by
  simp [State.ext]
@[simp] theorem State.extEvent_amap (s : State) (src e : Nat) (ld : Option Nat) : (s.extEvent src e ld).amap = s.amap := by
  simp [State.extEvent, State.raise_keeps]
@[simp] theorem State.extEvent_ext (s : State) (src e : Nat) (ld : Option Nat) (k : Nat) :
    (s.extEvent src e ld).ext k = s.ext k := by simp [State.ext]
@[simp] theorem State.capResult_ext (s : State) (r k : Nat) : (s.capResult r).ext k = s.ext k := rfl
@[simp] theorem State.capResult_result (s : State) (r : Nat) : (s.capResult r).amap.result = r := rfl
@[simp] theorem State.capResult_extents (s : State) (r : Nat) : (s.capResult r).amap.extents = s.amap.extents := rfl
@[simp] theorem State.setTdata_ext (s : State) (k v e : Nat) : (s.setTdata k v).ext e = s.ext e := rfl
@[simp] theorem State.takeSpine_ext (s : State) (e k : Nat) : (s.takeSpine e).ext k = s.ext k := by
  simp [State.ext, State.takeSpine_keeps]
@[simp] theorem State.onDom_ext (s : State) (d : Nat) (f : DomainEntry → DomainEntry) (e : Nat) : (s.onDom d f).ext e = s.ext e :=
  rfl
@[simp] theorem State.useRun_ext (s : State) (i f n e : Nat) : (s.useRun i f n).ext e = s.ext e := rfl
@[simp] theorem State.levels_ext (s : State) (d k : Nat) : (s.levels d).ext k = s.ext k := by simp [State.ext]
@[simp] theorem State.onExt_ext_same (s : State) (e : Nat) (f : ExtentEntry → ExtentEntry) : (s.onExt e f).ext e = f (s.ext e) := by
  simp [State.ext, State.onExt]
theorem State.extTo_ext (s : State) (e : Nat) (st : ExtState) :
    (s.extTo e st).ext e = { s.ext e with st := st, since := s.now, accept := 0, rejected := 0 } := s.onExt_ext_same e _

/-- The watermarks are no matter of RESULT (R121). -/
@[simp] theorem State.levels_result (s : State) (d : Nat) : (s.levels d).amap.result = s.amap.result := by
  unfold State.levels
  refine (State.when_inv (fun t : State => t.amap.result) _ _ _ fun t => ?_).trans
    ((State.when_inv (fun t : State => t.amap.result) _ _ _ fun t => ?_).trans
      (State.when_inv (fun t : State => t.amap.result) _ _ _ fun t => ?_))
  · rfl
  all_goals simp [State.raiseAt, State.raise_keeps]

/-- An extent that enters DRAIN is in DRAIN, whatever is abandoned and served on the way. -/
@[simp] theorem State.toDrain_st (s : State) (e : Nat) : ((s.toDrain e).ext e).st = .drain := by
  rw [State.ext_st_of_tenure (s.toDrain_tenure e), State.extTo_ext]

/-- A write of AMAP.TCMD that passes every check has the effect of its command and answers its master. -/
theorem Completes.of_tcmd {s : State} {m : Master} {j : Instr} {op t i : Nat} {P : State → Prop}
    (act : State → State) (h : s.accepts m amapTcmd = true) (command : exec j s = .next (s.writeTcmd m op t i))
    (does : ∀ u : State, u.tcmd op t i = act u) (effect : ∀ v, P ((act (s.written m amapTcmd v)).finish m)) :
    Completes j s P := by
  refine .of_exec command ?_
  rw [State.writeTcmd, State.gate_accepts _ _ _ _ _ h, does]
  exact effect _

/-- A capacity command whose GEN is another's changes no extent. -/
theorem State.capCommand_stale {s : State} {e : Nat} (args : Bool) (ok : ExtState → Bool) (act : State → State)
    (other : (s.ext e).gen.toNat ≠ bits (s.tdata 3) 0 16) :
    (s.capCommand e args ok act).amap.result = 4 ∧ (s.capCommand e args ok act).amap.extents = s.amap.extents := by
  rw [State.capCommand, if_pos other]
  exact ⟨rfl, by simp⟩

/-- A capacity command whose GEN, arguments and state are right has its effect, with RESULT 0. -/
theorem State.capCommand_done {s : State} {e : Nat} {args : Bool} {ok : ExtState → Bool} (act : State → State)
    (gen : (s.ext e).gen.toNat = bits (s.tdata 3) 0 16) (given : args = true) (state : ok (s.ext e).st = true) :
    s.capCommand e args ok act = (act s).capResult 0 := by
  rw [State.capCommand, if_neg (not_not_intro gen), given, state]
  rfl

/-- A GRANT or PIN with valid arguments of a FREE extent, with room for it, names it (R113, R117, R123). -/
theorem State.grantExt_done {s : State} {e i f : Nat} (pin : Bool) (valid : (s.dom (bits (s.tdata 2) 0 12)).valid = true)
    (holders : pin = true ∨ s.holdersOk s.cmdMask e = true) (free : (s.ext e).st = .free)
    (room : ceilDiv 524288 (max 1 (s.dom (bits (s.tdata 2) 0 12)).ovc) + metaFrames ≤ s.ffree - s.reserve)
    (place : s.metaPlace (bits (s.tdata 2) 0 12) = some (i, f)) :
    (s.grantExt e pin).amap.result = 0 ∧ (s.grantExt e pin).ext e = ({
      gen := (s.ext e).gen + 1, domain := bits (s.tdata 2) 0 12, metaSet := i, metaFrame := f,
      rsv := ceilDiv 524288 (max 1 (s.dom (bits (s.tdata 2) 0 12)).ovc), st := if pin then .pinned else .offered,
      since := s.now } : ExtentEntry).setHolders (if pin then 0 else s.cmdMask) := by
  have right : (!(s.dom (bits (s.tdata 2) 0 12)).valid || !(pin || s.holdersOk (if pin then 0 else s.cmdMask) e)) = false := by
    cases pin <;> simp_all
  have fits : ¬ s.ffree - s.reserve < ceilDiv (65536 * 8) (max 1 (s.dom (bits (s.tdata 2) 0 12)).ovc) + metaFrames := by
    simpa using room
  simp only [State.grantExt, right, Bool.false_eq_true, if_false, free, ne_eq, not_true_eq_false, fits, place]
  constructor
  · simp
  · simp only [State.levels_ext, State.capResult_ext, State.setTdata_ext, State.toHolders_ext, State.takeSpine_ext,
      State.onExt_ext_same, State.onDom_ext, State.useRun_ext]
    rfl

end Sys2Proof.Machine
end

section
/-! PROOF. The commands of AMAP.TCMD. -/

open Sys2Proof Sys2Proof.Machine

/-- Settles O24: a write that passes leaves the map and the other registers as they were, so each command sees the tables, TDATA
and free pool of the state before it; what draining changes of an extent's entry beside its state is the count of its backing. -/
theorem addressMapTableCommands : Obligations.AddressMapTableCommands := by
  refine ⟨fun s m t i h inside => ?reads, fun s m t i h right => ?stages, fun s m t i h wrong => ?refuses,
    fun s m e i f h valid holders free room place => ?grants, fun s m e i f h valid free room place => ?pins,
    fun s m e h gen holders st => ?offers, fun s m e h gen st => ?recalls, fun s m e h gen st => ?forces,
    fun s m e h gen st => ?frees, fun s m e h stale => ?stale⟩
  case reads =>
    refine .of_tcmd (State.readEntry · t.toNat i.toNat) h rfl (fun u => by simp [State.tcmd]) fun v => ?_
    have outside : ¬ tableSize t.toNat ≤ i.toNat := by omega
    have image : (s.imageOf t.toNat i.toNat).length = 8 := State.imageOf_length _ _ _
    simp only [State.readEntry, if_neg outside, State.written_tcmd_imageOf, State.finish_tdata]
    refine ⟨by simp, fun k hk => ?_⟩
    have words := State.each_setTdata_tdata (s.imageOf t.toNat i.toNat) 0 (s.written m amapTcmd v) k (by omega)
    rw [image, if_pos ⟨k.zero_le, by omega⟩, ← List.range_eq_range'] at words
    exact words
  case stages =>
    refine .of_tcmd (State.stageEntry · t.toNat i.toNat) h rfl (fun u => by simp [State.tcmd]) fun v => ?_
    simp [State.stageEntry, right, Function.comp_def]
  case refuses =>
    refine .of_tcmd (State.stageEntry · t.toNat i.toNat) h rfl (fun u => by simp [State.tcmd]) fun v => ?_
    simp [State.stageEntry, wrong]
  case grants =>
    refine .of_tcmd (State.grantExt · e.toNat false) h rfl (fun u => by simp [State.tcmd]) fun v => ?_
    simpa using State.grantExt_done (s := s.written m amapTcmd v) (e := e.toNat) (i := i) (f := f) false
      (by simpa using valid) (by simpa using holders) (by simpa using free) (by simpa using room) (by simpa using place)
  case pins =>
    refine .of_tcmd (State.grantExt · e.toNat true) h rfl (fun u => by simp [State.tcmd]) fun v => ?_
    have pinned := State.grantExt_done (s := s.written m amapTcmd v) (e := e.toNat) (i := i) (f := f) true
      (by simpa using valid) (.inl rfl) (by simpa using free) (by simpa using room) (by simpa using place)
    simp only [State.written_tcmd_ext, State.written_tcmd_tdata, State.written_tcmd_dom, if_true] at pinned
    obtain ⟨result, entry⟩ := pinned
    simp only [State.finish_amap, State.finish_ext]
    refine ⟨result, ?_⟩
    rw [entry]
    exact ⟨rfl, rfl, rfl, rfl, rfl, rfl, fun n h => (ExtentEntry.setHolders_holds _ 0 h).trans (by simp [bitOf])⟩
  case offers =>
    refine .of_tcmd (State.offerExt · e.toNat) h rfl (fun u => by simp [State.tcmd]) fun v => ?_
    simp only [State.offerExt]
    rw [State.capCommand_done _ (by simpa using gen) (by simpa using holders) (by simpa using st)]
    simp only [State.finish_amap, State.finish_ext, State.capResult_ext, State.toHolders_ext, State.onExt_ext_same,
      State.extTo_ext, State.written_tcmd_ext, State.written_tcmd_cmdMask]
    exact ⟨rfl, rfl, trivial, rfl, fun n h => ExtentEntry.setHolders_holds
      { s.ext e.toNat with st := .offered, since := (s.written m amapTcmd v).now, accept := 0, rejected := 0 } _ h⟩
  case recalls =>
    refine .of_tcmd (State.recallCmd · e.toNat) h rfl (fun u => by simp [State.tcmd]) fun v => ?_
    simp only [State.recallCmd, State.recallExt]
    rw [State.capCommand_done _ (by simpa using gen) rfl (by simpa using st)]
    simp [State.extTo_ext]
  case forces =>
    refine .of_tcmd (State.forceCmd · e.toNat) h rfl (fun u => by simp [State.tcmd]) fun v => ?_
    simp only [State.forceCmd]
    rw [State.capCommand_done _ (by simpa using gen) rfl (by simpa using st)]
    simp
  case frees =>
    refine .of_tcmd (State.freeCmd · e.toNat) h rfl (fun u => by simp [State.tcmd]) fun v => ?_
    simp only [State.freeCmd]
    rw [State.capCommand_done _ (by simpa using gen) rfl (by simpa using st)]
    simp
  case stale =>
    have refused : ∀ (v : Word) (args : Bool) (ok : ExtState → Bool) (act : State → State),
        (((s.written m amapTcmd v).capCommand e.toNat args ok act).finish m).amap.result = 4 ∧
        (((s.written m amapTcmd v).capCommand e.toNat args ok act).finish m).amap.extents = s.amap.extents :=
      fun v args ok act => by
        simpa using State.capCommand_stale (s := s.written m amapTcmd v) args ok act (by simpa using stale)
    exact ⟨.of_tcmd (State.offerExt · e.toNat) h rfl (fun u => by simp [State.tcmd]) fun v => refused v _ _ _,
      .of_tcmd (State.recallCmd · e.toNat) h rfl (fun u => by simp [State.tcmd]) fun v => refused v _ _ _,
      .of_tcmd (State.forceCmd · e.toNat) h rfl (fun u => by simp [State.tcmd]) fun v => refused v _ _ _,
      .of_tcmd (State.freeCmd · e.toNat) h rfl (fun u => by simp [State.tcmd]) fun v => refused v _ _ _⟩
end

section
/-! SUPPORT. A message once sent stays sent: the operations that send messages on the way of an extent's erase only add to
those sent. An operation that sends none has its lemma `State.op_keeps`. -/

namespace Sys2Proof.Machine

section Sent
variable {x : Msg} {s : State}

/-! ### Composition -/

theorem State.sent_of_out {t : State} (e : t.out = s.out) (h : x ∈ s.out) : x ∈ t.out := e ▸ h

theorem State.when_sent {b : Bool} {f : State → State} (h : x ∈ s.out) (step : ∀ t : State, x ∈ t.out → x ∈ (f t).out) :
    x ∈ (s.when b f).out := by
  unfold State.when
  split
  · exact step s h
  · exact h

theorem State.each_sent {α : Type} {f : State → α → State} (l : List α) (h : x ∈ s.out)
    (step : ∀ t a, x ∈ t.out → x ∈ (f t a).out) : x ∈ (s.each l f).out := by
  induction l generalizing s with
  | nil => exact h
  | cons a l ih => exact ih (step s a h)

/-! ### Messages -/

theorem State.drive_sent (e : Nat) (f : BitVec 512) (h : x ∈ s.out) : x ∈ (s.drive e f).out := List.mem_cons_of_mem _ h

theorem State.sendFlits_sent (e : Nat) (l : List (BitVec 512)) (h : x ∈ s.out) : x ∈ (s.sendFlits e l).out :=
  State.each_sent l (State.sent_of_out (by simp [State.count_keeps, State.onMod_keeps]) h) fun _ _ => State.drive_sent _ _

theorem State.sendNow_sent (e : Nat) (m : Msg) (cls slots : Nat) (h : x ∈ s.out) : x ∈ (s.sendNow e m cls slots).out := by
  refine State.sendFlits_sent _ _ (List.mem_cons_of_mem _ ?_)
  exact State.sent_of_out (by simp [State.regSent_keeps, State.onMod_keeps]) h

theorem State.sendOrWait_sent (m : Msg) (n cls slots : Nat) (h : x ∈ s.out) : x ∈ (s.sendOrWait m n cls slots).out := by
  unfold State.sendOrWait
  dsimp only
  split
  · exact State.sendNow_sent _ _ _ _ h
  · exact State.sent_of_out (by simp [State.creditTimers_keeps, State.onMod_keeps]) h

theorem State.emit_sent (m : Msg) (h : x ∈ s.out) : x ∈ (s.emit m).out := by
  unfold State.emit
  split
  · exact State.sendOrWait_sent _ _ _ _ h
  · exact List.mem_cons_of_mem _ h

theorem State.toHost_sent (ld : Nat) (m : Msg) (h : x ∈ s.out) : x ∈ (s.toHost ld m).out := by
  unfold State.toHost
  split
  · split
    · exact State.emit_sent _ (State.sent_of_out (by simp [State.useLink_keeps, State.onLink_keeps]) h)
    · exact h
  · exact h

/-! ### Events and faults -/

theorem State.sendBmc_sent (src : Nat) (h : x ∈ s.out) : x ∈ (s.sendBmc src).out := by
  unfold State.sendBmc
  split
  · exact State.emit_sent _ h
  · exact h

theorem State.sendMsix_sent (r : LogRec) (vec : Nat) (h : x ∈ s.out) : x ∈ (s.sendMsix r vec).out := by
  unfold State.sendMsix
  extract_lets ld up
  split
  · split
    · exact h
    · split
      · exact h
      · exact State.toHost_sent _ _ h
  · exact h

theorem State.deliver_sent (r : LogRec) (route : BitVec 14) (h : x ∈ s.out) : x ∈ (s.deliver r route).out := by
  refine State.each_sent _ (State.when_sent (State.when_sent h fun _ => State.sendBmc_sent _) fun _ => State.sendMsix_sent _ _)
    fun t g ht => State.sent_of_out (by simp [State.attention_keeps]) ht

theorem State.logIt_sent (r : LogRec) (vital : Bool) (dest : List (BitVec 14)) (h : x ∈ s.out) : x ∈ (s.logIt r vital dest).out := by
  unfold State.logIt
  split
  · exact State.when_sent h fun t ht => State.sent_of_out (by simp [State.retWrite_keeps]) ht
  · exact State.each_sent _ h fun _ _ => State.deliver_sent _ _

theorem State.raiseOne_sent (e : Ev) (h : x ∈ s.out) : x ∈ (s.raiseOne e).out := by
  unfold State.raiseOne
  split
  · exact h
  · dsimp only
    split
    · exact State.logIt_sent _ _ _ h
    · exact State.when_sent h fun _ => State.deliver_sent _ _

theorem State.raise_sent (e : Ev) (h : x ∈ s.out) : x ∈ (s.raise e).out := by
  unfold State.raise
  dsimp only
  split
  · exact State.raiseOne_sent (s := State.withEvt _ _) _ (State.raiseOne_sent _ h)
  · exact State.raiseOne_sent _ h

theorem State.raiseFault_sent (src site cls cause need : Nat) (h : x ∈ s.out) :
    x ∈ (s.raiseFault src site cls cause need).out := by
  refine State.raise_sent _ ?_
  split
  · exact State.sent_of_out (by simp [State.takeFatal_keeps]) h
  · exact h

theorem State.fileAt_sent (site cls row col cause : Nat) (h : x ∈ s.out) : x ∈ (s.fileAt site cls row col cause).out := by
  unfold State.fileAt
  dsimp only
  split
  · exact State.raiseFault_sent _ _ _ _ _ (State.sent_of_out (by simp [State.setRec_keeps]) h)
  · refine State.when_sent ?_ fun _ => State.raiseFault_sent _ _ _ _ _
    exact State.sent_of_out (by simp [State.setRec_keeps]) h

theorem State.fileP_sent (p cls cause : Nat) (h : x ∈ s.out) : x ∈ (s.fileP p cls cause).out := State.fileAt_sent _ _ _ _ _ h

/-! ### Frames and pages that go -/

theorem State.levels_sent (d : Nat) (h : x ∈ s.out) : x ∈ (s.levels d).out := by
  unfold State.levels
  refine State.when_sent (State.when_sent ?_ fun t ht => State.raise_sent _ ht) fun _ => id
  exact State.when_sent (s := s) h fun t ht => State.raise_sent (s := State.withAmap _ _) _ ht

theorem State.giveFrame_sent (p i f : Nat) (h : x ∈ s.out) : x ∈ (s.giveFrame p i f).out :=
  State.levels_sent _ (State.sent_of_out (by simp [State.account_keeps, State.releaseFrame_keeps]) h)

theorem State.giveBin_sent (p i loc cls : Nat) (h : x ∈ s.out) : x ∈ (s.giveBin p i loc cls).out :=
  State.levels_sent _ (State.sent_of_out (by simp [State.account_keeps, State.releaseBin_keeps]) h)

theorem State.giveBack_sent (p : Nat) (e : PageEntry) (h : x ∈ s.out) : x ∈ (s.giveBack p e).out := by
  unfold State.giveBack
  split
  · exact State.giveFrame_sent _ _ _ h
  · exact State.giveBin_sent _ _ _ _ h
  · exact State.giveBin_sent _ _ _ _ h
  · exact h

theorem State.dropDest_sent (p : Nat) (m : Migration) (h : x ∈ s.out) : x ∈ (s.dropDest p m).out := by
  unfold State.dropDest
  split
  · exact State.giveFrame_sent _ _ _ h
  · exact State.giveFrame_sent _ _ _ h
  · exact State.giveBin_sent _ _ _ _ h
  · exact h

theorem State.endMigration_sent (p : Nat) (h : x ∈ s.out) : x ∈ (s.endMigration p).out := by
  unfold State.endMigration
  split
  · exact h
  · exact State.dropDest_sent _ _ h

theorem State.poisonPage_sent (p : Nat) (withdraw : Bool) (h : x ∈ s.out) : x ∈ (s.poisonPage p withdraw).out := by
  have ended := State.endMigration_sent p h
  cases withdraw
  · exact State.giveBack_sent _ _ ended
  · exact State.levels_sent _ (State.sent_of_out (by simp [State.account_keeps]) ended)

theorem State.mapLost_sent (n : Nat) (h : x ∈ s.out) : x ∈ (s.mapLost n).out :=
  State.each_sent (s := s.withMem _) _ h fun _ _ ht => State.fileP_sent _ _ _ (State.raise_sent _ (State.poisonPage_sent _ _ ht))

/-! ### Media -/

theorem State.copyBad_sent (c : Nat) (l : List Stored) (h : x ∈ s.out) : x ∈ (s.copyBad c l).out :=
  State.each_sent _ h fun _ _ ht => State.fileP_sent _ _ _ (State.sent_of_out (by simp [State.countUe_keeps]) ht)

theorem State.walkSpare_sent (c upto : Nat) (h : x ∈ s.out) : x ∈ (s.walkSpare c upto).out := by
  unfold State.walkSpare
  dsimp only
  split
  · exact State.copyBad_sent (s := s.withMem _) _ _ h
  · exact h

theorem State.walkSilver_sent (ev upto : Nat) (h : x ∈ s.out) : x ∈ (s.walkSilver ev upto).out := by
  unfold State.walkSilver
  split
  · exact h
  · exact State.copyBad_sent (s := s.withMem _) _ _ h

theorem State.copyWalk_sent (c : Nat) (h : x ∈ s.out) : x ∈ (s.copyWalk c).out :=
  State.walkSilver_sent _ _ (State.walkSpare_sent _ _ h)

theorem State.eccUncorr_sent (c off subject : Nat) (h : x ∈ s.out) : x ∈ (s.eccUncorr c off subject).out :=
  State.raise_sent _ (State.sent_of_out (by simp [State.countUe_keeps]) h)

theorem State.tagFailed_sent (hs subject : Nat) (h : x ∈ s.out) : x ∈ (s.tagFailed hs subject).out :=
  State.raise_sent (s := s.withMem _) _ h

theorem State.copyFailed_sent (hs c subject : Nat) (g : Got) (h : x ∈ s.out) : x ∈ (s.copyFailed hs c subject g).out := by
  unfold State.copyFailed
  split
  · exact State.sent_of_out (by simp [State.countUe_keeps]) h
  · exact State.tagFailed_sent _ _ h
  · exact h

theorem State.readPartner_sent (hs i c off subject : Nat) (b : TagBind) (h : x ∈ s.out) :
    x ∈ (s.readPartner hs i c off subject b).1.out := by
  unfold State.readPartner
  extract_lets other
  split
  · exact State.copyFailed_sent _ _ _ _ (State.copyWalk_sent _ h)
  · exact h

theorem State.readLine_sent (hs i y subject : Nat) (b : TagBind) (h : x ∈ s.out) :
    x ∈ (s.readLine hs i y subject b).1.out := by
  unfold State.readLine
  split
  · exact h
  next c _ =>
    dsimp only
    have counted : x ∈ ((s.count (chanPage c 0) 0x11 1).activated c ((s.set i).media y).2).out :=
      State.sent_of_out (by simp [State.count_keeps, State.activated_keeps]) h
    split
    · have partner := State.readPartner_sent hs i c ((s.set i).media y).2 subject b counted
      split
      · exact State.fileP_sent _ _ _ (State.sent_of_out (by simp [State.putMedia_keeps, State.countUe_keeps]) partner)
      · exact State.fileP_sent _ _ _ (State.eccUncorr_sent _ _ _ partner)
    · have partner := State.readPartner_sent hs i c ((s.set i).media y).2 subject b (State.tagFailed_sent hs subject counted)
      split
      · exact State.fileP_sent _ _ _ (State.sent_of_out (by simp [State.putMedia_keeps]) partner)
      · exact State.fileP_sent _ _ _ partner
    · exact counted

/-! ### The counter tree -/

theorem State.loseNode_sent (hs lvl i : Nat) (h : x ∈ s.out) : x ∈ (s.loseNode hs lvl i).out := by
  refine State.fileP_sent _ _ _ (State.raise_sent _ ?_)
  exact State.sent_of_out (by simp [State.storeNode_keeps, State.setBlock_keeps, State.countLost_keeps, State.goodCopies_keeps]) h

theorem State.nodeLost_sent (hs lvl i : Nat) (h : x ∈ s.out) : x ∈ (s.nodeLost hs lvl i).out := by
  unfold State.nodeLost
  split
  · exact State.sent_of_out (by simp [State.setBlock_keeps]) h
  · exact State.loseNode_sent _ _ _ h

theorem State.leafLost_sent (hs i : Nat) (h : x ∈ s.out) : x ∈ (s.leafLost hs i).out := by
  unfold State.leafLost
  dsimp only
  split
  · exact State.sent_of_out (by simp [State.setBlock_keeps]) h
  · refine State.fileP_sent _ _ _ (State.raise_sent _ ?_)
    have lost : x ∈ ((((s.goodCopies (blockKey hs 1 i)).countLost hs).setBlock hs 1 i
        { major := 2 ^ 63 + ((s.goodCopies (blockKey hs 1 i)).countLost hs).now, minor := [] }).storeNode hs 1 i).out :=
      State.sent_of_out (by simp [State.storeNode_keeps, State.setBlock_keeps, State.countLost_keeps, State.goodCopies_keeps]) h
    split
    · exact State.each_sent _ lost fun _ _ => State.sent_of_out (by simp [State.poisonMedia_keeps])
    · exact State.poisonPage_sent _ _ lost
    · exact State.poisonPage_sent _ _ lost
    · exact lost

theorem State.setRetags_sent (hs : Nat) (l : List Retag) (h : x ∈ s.out) : x ∈ (s.setRetags hs l).out :=
  State.sent_of_out (by simp [State.setRetags_keeps]) h

theorem State.setBlock_sent (hs lvl i : Nat) (b : TreeBlock) (h : x ∈ s.out) : x ∈ (s.setBlock hs lvl i b).out :=
  State.sent_of_out (by simp [State.setBlock_keeps]) h

theorem State.setMc_sent (k : Nat) (l : List McLine) (h : x ∈ s.out) : x ∈ (s.setMc k l).out :=
  State.sent_of_out (by simp [State.setMc_keeps]) h

theorem State.mcUse_sent (hs lvl i : Nat) (dirty : Bool) (h : x ∈ s.out) : x ∈ (s.mcUse hs lvl i dirty).1.out :=
  State.sent_of_out (by simp [State.mcUse_keeps]) h

theorem State.metaRead_sent (hs lvl i copy : Nat) (h : x ∈ s.out) : x ∈ (s.metaRead hs lvl i copy).out := by
  unfold State.metaRead
  extract_lets m e y born
  split
  · exact h
  next c _ =>
    extract_lets off other fails
    have countUe : ∀ (d : Nat) (t : State), x ∈ t.out → x ∈ (t.countUe d).out :=
      fun _ _ => State.sent_of_out (by simp [State.countUe_keeps])
    split
    · exact h
    · have counted := fun (b : Bool) (m : Media) (b' : Bool) (d : Nat) => State.when_sent (b := b')
        (s := (s.when b fun s => s.countUe c).withMem m) (State.when_sent h (countUe _)) (countUe d)
      split
      · exact State.fileP_sent _ _ _ (counted _ _ _ _)
      · split <;> exact counted _ _ _ _

theorem State.checkBlock_sent (hs lvl i : Nat) (h : x ∈ s.out) : x ∈ (s.checkBlock hs lvl i).out := by
  unfold State.checkBlock
  have read := fun copy => State.metaRead_sent hs lvl i copy h
  split
  · exact h
  · dsimp only
    split
    · split
      · exact read 0
      · exact State.mapLost_sent _ (read 0)
    · split
      · split
        · exact State.sent_of_out (by simp [State.loadCopy_keeps]) (read 0)
        · exact State.leafLost_sent _ _ (read 0)
      · have reread := State.metaRead_sent hs lvl i 1 (read 0)
        split
        · exact State.sent_of_out (by simp [State.loadCopy_keeps]) (read 0)
        · split
          · exact State.nodeLost_sent _ _ _ reread
          · refine State.fileP_sent _ _ _ (State.raise_sent _ ?_)
            exact State.sent_of_out (by simp [State.loadCopy_keeps, State.mendCopy_keeps]) reread

theorem State.retagChild_sent (hs : Nat) (r : Retag) (k : Nat) (h : x ∈ s.out) : x ∈ (s.retagChild hs r k).out := by
  unfold State.retagChild
  extract_lets mark lvl c checked good i p e y old new got moved
  have checked_sent : x ∈ checked.out := by
    dsimp only [checked]
    split
    · exact h
    · exact State.checkBlock_sent _ _ _ h
  have read : x ∈ got.1.out := State.readLine_sent _ _ _ _ _ h
  have moved_sent : x ∈ moved.out := by
    dsimp only [moved]
    split <;> simpa [State.putMedia_keeps] using read
  split
  · split
    · exact State.setRetags_sent _ _ h
    · exact State.when_sent (State.setRetags_sent _ _ checked_sent) fun _ => State.sent_of_out (by simp [State.storeNode_keeps])
  · split
    · exact State.setRetags_sent _ _ moved_sent
    · exact State.setRetags_sent _ _ h

theorem State.endRetag_sent (hs key : Nat) (h : x ∈ s.out) : x ∈ (s.endRetag hs key).out := by
  refine State.setRetags_sent _ _ ?_
  split
  · exact State.each_sent _ h fun _ _ => State.retagChild_sent _ _ _
  · exact h

theorem State.advance_sent (hs lvl i k : Nat) (h : x ∈ s.out) : x ∈ (s.advance hs lvl i k).out := by
  unfold State.advance
  dsimp only
  split
  · refine State.setRetags_sent _ _ (State.setBlock_sent _ _ _ _ (State.when_sent (State.endRetag_sent _ _ h) fun _ ht => ?_))
    exact State.endRetag_sent _ _ (State.raise_sent _ ht)
  · exact State.setRetags_sent _ _ (State.setBlock_sent _ _ _ _ h)

theorem State.walk_sent (n hs : Nat) (l : List Walk) (h : x ∈ s.out) : x ∈ (s.walk n hs l).out := by
  fun_induction State.walk n hs l s
  case case1 | case2 => exact h
  case case5 ih => exact ih (State.mcUse_sent _ _ _ _ (State.checkBlock_sent _ _ _ h))
  case case7 ih => exact ih (State.mcUse_sent _ _ _ _ (State.advance_sent _ _ _ _ h))
  case case3 ih | case4 ih | case6 ih | case8 ih | case9 ih | case10 ih | case11 ih =>
    refine ih (State.sent_of_out ?_ h)
    simp +zetaDelta [State.count_keeps, State.mcUse_keeps, State.metaWritten_keeps, State.storeNode_keeps,
      State.arrivedAt_keeps]

theorem State.cleanLine_sent (hs : Nat) (m : McLine) (h : x ∈ s.out) : x ∈ (s.cleanLine hs m).out :=
  State.walk_sent _ _ _ (State.sent_of_out (by simp [State.leave_keeps, State.setMc_keeps]) h)

/-! ### An extent that is erased -/

theorem State.unloadNode_sent (lvl i : Nat) (h : x ∈ s.out) : x ∈ (s.unloadNode lvl i).out := by
  refine State.each_sent _ h fun t hs ht => ?_
  dsimp only
  split
  · exact ht
  · exact State.setMc_sent _ _ (State.when_sent ht fun _ => State.cleanLine_sent _ _)

theorem State.leaveSpine_sent (e : Nat) (h : x ∈ s.out) : x ∈ (s.leaveSpine e).out := by
  refine State.each_sent _ h fun t n ht => ?_
  dsimp only
  split
  · exact ht
  · split
    · exact ht
    · split
      · exact State.sent_of_out (by simp [State.dropNode_keeps]) ht
      · rw [State.withMem_out]
        exact State.unloadNode_sent n.1 n.2 ht

theorem State.toErase_sent (e : Nat) (h : x ∈ s.out) : x ∈ (s.toErase e).out :=
  State.leaveSpine_sent (s := State.extTo _ _ _) e h

end Sent

end Sys2Proof.Machine
end

section
/-! SUPPORT. Offers that end, extents whose erase ends, and the peers' reads of landing apertures (R113, R126). -/

namespace Sys2Proof.Machine

/-! ### Answers of the holders (R113) -/

@[simp] theorem State.reach_ext (s : State) (t e : Nat) : (s.reach t).ext e = s.ext e := by
  simp [State.ext, State.reach_keeps]

@[simp] theorem State.emit_ext (s : State) (m : Msg) (e : Nat) : (s.emit m).ext e = s.ext e := by
  simp [State.ext, State.emit_keeps]

/-- Bit n alone, of 64. -/
theorem getLsbD_bit (n : Nat) {k : Nat} (h : k < 64) : (BitVec.ofNat 64 (2 ^ n)).getLsbD k = decide (n = k) := by
  rw [BitVec.getLsbD_ofNat, Nat.testBit_two_pow, decide_eq_true h, Bool.true_and]

/-- The sum of distinct powers of two, in rising order, has the bits of their exponents. -/
theorem testBit_sum_two_pow {l : List Nat} (rising : l.SortedLT) (k : Nat) :
    (l.foldl (fun a n => a + 2 ^ n) 0).testBit k = decide (k ∈ l) := by
  have sum : l.foldl (fun a n => a + 2 ^ n) 0 = (l.map (2 ^ ·)).sum := by
    rw [List.sum_eq_foldl, List.foldl_map]
  rw [sum, Bool.eq_iff_iff, ← Nat.mem_bitIndices, Nat.bitIndices_sum_map_two_pow rising, decide_eq_true_iff]

theorem ExtentEntry.mem_holders {x : ExtentEntry} {n : Nat} : n ∈ x.holders ↔ n < 64 ∧ x.holds n = true := by
  simp [ExtentEntry.holders, upTo]

/-- An extent's entry with the answer of a holder. -/
def ExtentEntry.answered (x : ExtentEntry) (n : Nat) (accept : Bool) : ExtentEntry :=
  if accept then { x with accept := x.accept ||| BitVec.ofNat 64 (2 ^ n) }
  else { x with rejected := x.rejected ||| BitVec.ofNat 64 (2 ^ n) }

@[simp] theorem ExtentEntry.answered_holders (x : ExtentEntry) (n : Nat) (accept : Bool) :
    (x.answered n accept).holders = x.holders := by cases accept <;> rfl

@[simp] theorem ExtentEntry.answered_fromPinned (x : ExtentEntry) (n : Nat) (accept : Bool) :
    (x.answered n accept).fromPinned = x.fromPinned := by cases accept <;> rfl

theorem ExtentEntry.answered_accept (x : ExtentEntry) (n : Nat) (accept : Bool) {k : Nat} (h : k < 64) :
    (x.answered n accept).accept.getLsbD k = (x.accept.getLsbD k || (accept && decide (n = k))) := by
  cases accept <;> simp [ExtentEntry.answered, -BitVec.ofNat_pow, getLsbD_bit n h]

theorem ExtentEntry.answered_rejected (x : ExtentEntry) (n : Nat) (accept : Bool) {k : Nat} (h : k < 64) :
    (x.answered n accept).rejected.getLsbD k = (x.rejected.getLsbD k || (!accept && decide (n = k))) := by
  cases accept <;> simp [ExtentEntry.answered, -BitVec.ofNat_pow, getLsbD_bit n h]

/-- The last answer to an offer is noted, accepted with return code 0, and ends the offer. -/
theorem State.dcAnswer_last {s : State} {n e : Nat} (accept : Bool) (st : (s.ext e).st = .offered) (holds : (s.ext e).holds n = true)
    (notAccepted : (s.ext e).accept.getLsbD n = false) (notRejected : (s.ext e).rejected.getLsbD n = false)
    (others : ∀ k ∈ (s.ext e).holders, k = n ∨ (s.ext e).accept.getLsbD k = true ∨ (s.ext e).rejected.getLsbD k = true) :
    ∃ u : State, s.dcAnswer n e (s.ext e).gen accept = u.settleOffer e ∧ u.ext e = (s.ext e).answered n accept ∧
      .dcResult n 0 ∈ u.out := by
  have answeredAll : ((s.ext e).answered n accept).holders.all (fun k =>
      ((s.ext e).answered n accept).accept.getLsbD k || ((s.ext e).answered n accept).rejected.getLsbD k) = true := by
    rw [List.all_eq_true]
    intro k mem
    rw [ExtentEntry.answered_holders] at mem
    have small := (ExtentEntry.mem_holders.1 mem).1
    rw [ExtentEntry.answered_accept _ _ _ small, ExtentEntry.answered_rejected _ _ _ small]
    rcases others k mem with rfl | yes | no
    · cases accept <;> simp
    · simp [yes]
    · simp [no]
  have answers : ¬ ((s.ext e).st ≠ .offered ∨ (!(s.ext e).holds n) = true ∨ (s.ext e).accept.getLsbD n = true ∨
      (s.ext e).rejected.getLsbD n = true) := by simp [st, holds, notAccepted, notRejected]
  rw [State.dcAnswer, if_neg (not_not_intro rfl), if_neg answers]
  have entry : ((s.onExt e fun x => x.answered n accept).emit (.dcResult n 0)).ext e = (s.ext e).answered n accept := by
    simp
  rw [← entry] at answeredAll
  exact ⟨_, State.when_pos _ (f := fun t => t.settleOffer e) answeredAll, entry, List.mem_cons_self⟩

/-! ### The end of an offer (R113) -/

@[simp] theorem State.toErase_st (s : State) (e : Nat) : ((s.toErase e).ext e).st = .erase := by
  rw [State.ext_st_of_tenure (s.toErase_tenure e), State.extTo_ext]

/-- An offer that some holder accepted grants the extent; another returns it where it came from. -/
theorem State.settleOffer_st (s : State) (e : Nat) : ((s.settleOffer e).ext e).st =
    if (s.ext e).holders.any (fun n => (s.ext e).accept.getLsbD n) then .granted
    else if (s.ext e).fromPinned then .pinned else .erase := by
  unfold State.settleOffer
  extract_lets x kept
  have some_kept : (s.ext e).holders.any (fun n => (s.ext e).accept.getLsbD n) = true ↔ kept ≠ [] := by
    simp [kept, x, List.filter_eq_nil_iff]
  split
  next none_kept =>
    rw [if_neg fun h => some_kept.1 h none_kept]
    split <;> simp [State.extTo_ext, ExtentEntry.setHolders]
  next grants =>
    rw [if_pos (some_kept.2 grants), State.extEvent_ext, State.onExt_ext_same, State.extTo_ext]
    split <;> rfl

/-- A holder that accepted holds the extent when the offer ends. -/
theorem State.settleOffer_holds {s : State} {n e : Nat} (h : n < 64) (holds : (s.ext e).holds n = true)
    (accepted : (s.ext e).accept.getLsbD n = true) : ((s.settleOffer e).ext e).holds n = true := by
  have kept : n ∈ (s.ext e).holders.filter (fun n => (s.ext e).accept.getLsbD n) :=
    List.mem_filter.2 ⟨ExtentEntry.mem_holders.2 ⟨h, holds⟩, accepted⟩
  unfold State.settleOffer
  dsimp only
  rw [if_neg (List.ne_nil_of_mem kept), State.extEvent_ext, State.onExt_ext_same, State.extTo_ext]
  split
  next shared =>
    have rising : ((s.ext e).holders.filter (fun n => (s.ext e).accept.getLsbD n)).SortedLT :=
      ((List.pairwise_lt_range.filter _).filter _).sortedLT
    rw [ExtentEntry.holds, if_pos shared, BitVec.getLsbD_ofNat, testBit_sum_two_pow rising]
    simp [h, kept]
  next => exact holds

theorem State.settleOffer_sent {s : State} {m : Msg} (e : Nat) (h : m ∈ s.out) : m ∈ (s.settleOffer e).out := by
  have event : ∀ (u : State) src, m ∈ u.out → m ∈ (u.extEvent src e none).out := fun _ _ => State.raise_sent _
  have moved : ∀ (u : State) st f, m ∈ u.out → m ∈ ((u.extTo e st).onExt e f).out := fun _ _ _ =>
    State.sent_of_out (by simp [State.extTo_keeps, State.onExt_keeps])
  unfold State.settleOffer
  dsimp only
  split
  · split
    · exact moved _ _ _ (event _ _ h)
    · exact State.toErase_sent _ (event _ _ h)
  · exact event _ _ (moved _ _ _ h)

/-! ### Releases and recalls (R113, R121) -/

/-- The release by its sole holder of an extent that it holds drains it. -/
theorem State.dcRelease_sole {s : State} {n : Nat} {e : BitVec 18} (st : (s.ext e.toNat).st = .granted ∨ (s.ext e.toNat).st = .recall)
    (sole : (s.ext e.toNat).holders = [n]) :
    s.dcRelease n [(e, (s.ext e.toNat).gen)] = (s.toDrain e.toNat).emit (.dcResult n 0) := by
  have holds : (s.ext e.toNat).holds n = true := (ExtentEntry.mem_holders.1 (sole ▸ List.mem_singleton_self n)).2
  have granted : s.granted n e.toNat = true := by rcases st with st | st <;> simp [State.granted, holds, st]
  have drains : s.release n e.toNat = s.toDrain e.toNat := by simp [State.release, holds, sole]
  rcases st with st | st <;> simp [State.dcRelease, granted, st, State.each, drains]

/-- What pressure recalls depends on the extents and the domains (R121). -/
theorem State.pressed_congr {s t : State} (extents : t.amap.extents = s.amap.extents) (domains : t.amap.domains = s.amap.domains) :
    t.pressed = s.pressed := by
  have dom : t.dom = s.dom := funext fun d => by rw [State.dom, domains, State.dom]
  rw [State.pressed, extents, dom, State.pressed]

/-- An extent that is recalled is in RECALL (R121). -/
@[simp] theorem State.recallExt_st (s : State) (e : Nat) : ((s.recallExt e).ext e).st = .recall := by
  simp [State.recallExt, State.extTo_ext]

@[simp] theorem State.recallExt_recallAt (s : State) (e : Nat) : (s.recallExt e).amap.recallAt = s.amap.recallAt := by
  rw [State.recallExt, State.extEvent_amap, State.toHolders_amap]
  rfl

/-! ### The end of an erase (R108, R113) -/

theorem State.loadKeys_chunks (s : State) (d : Nat) : (s.loadKeys d).mem.chunks = s.mem.chunks :=
  s.each_inv (fun t : State => t.mem.chunks) _ _ fun _ _ => rfl

/-- A domain's new epoch is no matter of the extents and of the chunks' versions (R108). -/
theorem State.advanceEpoch_chunks (s : State) (d : Nat) :
    (s.advanceEpoch d).amap.extents = s.amap.extents ∧ (s.advanceEpoch d).mem.chunks = s.mem.chunks := by
  unfold State.advanceEpoch
  split
  · simp [State.raiseAt, State.raise_keeps, State.loadKeys_keeps, State.loadKeys_chunks, State.takeFree_keeps, State.onDom]
  · simp [State.loadKeys_keeps, State.loadKeys_chunks, State.onDom]

theorem listed_dropKeys {α : Type} (p : Nat → Bool) (t : Table α) {k : Nat} (h : p k = true) :
    listed (dropKeys p t) k = false := by
  induction t with
  | nil => rfl
  | cons a t ih =>
    by_cases drop : p a.1 = true
    · simpa [dropKeys, drop] using ih
    · have other : a.1 ≠ k := fun same => drop (same ▸ h)
      simpa [dropKeys, drop, listed, other] using ih

/-- What the end of an erase leaves: the entry of a FREE extent and no chunk of it. -/
theorem execExtentEraseEnd_effect {s : State} {e : BitVec 18} (erasing : (s.ext e.toNat).st = .erase) :
    Completes (.extentEraseEnd e) s (fun t => t.ext e.toNat = { gen := (s.ext e.toNat).gen, since := s.now } ∧
      t.mem.chunks = dropKeys (fun c => c / 16 == e.toNat) ((s.returnPages e.toNat
        ((s.dom (s.ext e.toNat).domain).extents == 1 && (s.dom (s.ext e.toNat).domain).epoch == 0xFFFF)).mem.chunks)) := by
  change ∃ t, execExtentEraseEnd e s = .next t ∧ _
  unfold execExtentEraseEnd
  rw [if_neg (not_not_intro erasing)]
  refine ⟨_, rfl, ?_, ?_⟩
  · rw [State.levels_ext, State.extEvent_ext, State.ext,
      State.when_inv (fun t : State => t.amap.extents) _ _ _ fun t => (t.advanceEpoch_chunks _).1]
    refine (State.onExt_ext_same _ _ _).trans ?_
    simp [State.onDom_keeps, State.forgetPages_keeps, State.returnPages_keeps, State.freeRunOf_keeps]
  · simp only [State.levels_keeps, State.extEvent, State.raise_keeps]
    rw [State.when_inv (fun t : State => t.mem.chunks) _ _ _ fun t => (t.advanceEpoch_chunks _).2]
    rfl

/-! ### Landing apertures (R126) -/

section Heard
variable (s : State) (n : Nat)

@[simp] theorem State.heard_landOk (k : Nat) (rid : BitVec 16) : (s.heard n).landOk k rid = s.landOk k rid := by
  simp [State.landOk, State.cfgBit]
@[simp] theorem State.heard_sliceOut (hs : Nat) : (s.heard n).sliceOut hs = s.sliceOut hs :=
  State.heard_inv (State.sliceOut · hs) s n fun _ => rfl
@[simp] theorem State.heard_answers (p : Nat) : (s.heard n).answers p = s.answers p :=
  State.heard_inv (State.answers · p) s n fun _ => rfl
@[simp] theorem State.heard_home : (s.heard n).home = s.home := State.heard_inv State.home s n fun _ => rfl

end Heard

/-- A write of a landing aperture from its permitted requester is dropped where R126 or R127 does not permit it. -/
theorem execLandDataWrite_dropped {s : State} {page rid : BitVec 16} {off : BitVec 12} {data : List Byte} {k : Nat} (ep : Bool)
    (found : landOf page.toNat = some k) (answers : s.answers (poolPage k) = true) (up : s.mgmtUp = true)
    (h : s.landOk k rid = false ∨ (off.toNat ≠ 0x88 ∧ off.toNat < 0x800) ∨ (0x800 ≤ off.toNat ∧ (off.toNat % 64 ≠ 0 ∨
      data.length % 64 ≠ 0 ∨ (s.ext (s.cfg (poolPage k) 0x80 0 18)).st ≠ .pinned ∨
      (s.ext (s.cfg (poolPage k) 0x80 0 18)).gen.toNat ≠ s.cfg (poolPage k) 0x84 16 16))) :
    execLandDataWrite page rid off data ep s =
      .next ((s.heard s.mgmtLd).peerDrop (poolPage k) (s.cfg (poolPage k) 0x80 0 18)) := by
  simp only [execLandDataWrite, found, answers, up, Bool.not_true, Bool.or_self, Bool.false_eq_true, if_false, State.heard_landOk,
    State.heard_ext, State.heard_cfg]
  split
  · rfl
  next ok =>
    have permitted : ¬ s.landOk k rid = false := by simpa using ok
    rw [if_neg, if_pos]
    · rcases h with h | ⟨-, below⟩ | ⟨-, h⟩
      · exact absurd h permitted
      · exact .inl below
      · tauto
    · rcases h with h | ⟨other, -⟩ | ⟨above, -⟩
      · exact absurd h permitted
      · exact fun half => other half.1
      · exact fun half => by omega

/-- A whole line that R127 permits enters the queue of its home slice. -/
theorem execLandDataWrite_line {s : State} {page rid : BitVec 16} {off : BitVec 12} {data : List Byte} {k line : Nat} (ep : Bool)
    (found : landOf page.toNat = some k) (answers : s.answers (poolPage k) = true) (up : s.mgmtUp = true)
    (ok : s.landOk k rid = true) (window : 0x800 ≤ off.toNat) (aligned : off.toNat % 64 = 0) (whole : data.length = 64)
    (pinned : (s.ext (s.cfg (poolPage k) 0x80 0 18)).st = .pinned)
    (gen : (s.ext (s.cfg (poolPage k) 0x80 0 18)).gen.toNat = s.cfg (poolPage k) 0x84 16 16)
    (place : 64 * line = s.cfg (poolPage k) 0x80 0 18 * 2 ^ 28 + s.cfg (poolPage k) 0x88 0 17 * 2048 + (off.toNat - 0x800))
    (serves : s.sliceOut (homeOf (lnPage line)) = false) :
    execLandDataWrite page rid off data ep s =
      .next ((s.heard s.mgmtLd).enlist line (.pool k) (.write .none (lineOf data) ep) 0 false false) := by
  have inside : off.toNat + 64 ≤ 0x1000 := by have := off.isLt; omega
  simp only [execLandDataWrite, found, answers, up, Bool.not_true, Bool.or_self, Bool.false_eq_true, if_false, State.heard_landOk,
    State.heard_ext, State.heard_cfg, ok, whole]
  rw [if_neg (by omega), if_neg (by simp only [pinned, gen, ne_eq, not_true_eq_false, or_false, false_or]; omega), ← place]
  simp [State.each, upTo, List.range_succ, serves, List.take_of_length_le whole.le]

theorem State.cfg_congr {s t : State} (regs : t.regs = s.regs) (ret : t.ret = s.ret) (p x lo w : Nat) :
    t.cfg p x lo w = s.cfg p x lo w := by
  simp only [State.cfg, State.activeWord, State.backing, regs, ret]

theorem State.linkOf_congr {s t : State} (cfg : ∀ p x lo w, t.cfg p x lo w = s.cfg p x lo w) (ld : Nat) :
    t.linkOf ld = s.linkOf ld := by
  simp only [State.linkOf, State.present, State.links, State.bifur, State.owns, State.ldBase, State.ldCount, cfg]
  rfl

/-- The management function's link carries traffic. -/
def State.mgmtLive (s : State) : Prop := ∃ l, s.linkOf s.mgmtLd = some l ∧ (s.link l).live = true

theorem State.mgmtLive_withAmap {s : State} (h : s.mgmtLive) (a : AddressMap) : (s.withAmap a).mgmtLive := by
  obtain ⟨l, owner, live⟩ := h
  have cfg := State.cfg_congr (s.withAmap_regs a) (s.withAmap_ret a)
  refine ⟨l, ?_, live⟩
  rw [State.linkOf_congr cfg, ← owner, State.mgmtLd, cfg, State.mgmtLd]

theorem State.mgmtLive_of_up {s : State} (h : s.mgmtUp = true) : s.mgmtLive := by
  unfold State.mgmtUp at h
  split at h
  · cases h
  next l owner => exact ⟨l, owner, by simp_all⟩

@[simp] theorem State.toHost_cfg (s : State) (ld : Nat) (m : Msg) (p x lo w : Nat) :
    (s.toHost ld m).cfg p x lo w = s.cfg p x lo w :=
  State.cfg_congr (by simp [State.toHost_keeps]) (by simp [State.toHost_keeps]) _ _ _ _

@[simp] theorem State.toHost_mgmtLd (s : State) (ld : Nat) (m : Msg) : (s.toHost ld m).mgmtLd = s.mgmtLd :=
  s.toHost_cfg ld m _ _ _ _

/-- A message to the host of the management function is sent, and leaves that function's link carrying traffic. -/
theorem State.mgmtLive_toHost {s : State} {m : Msg} (h : s.mgmtLive) (host : m.toBorage = none) :
    (s.toHost s.mgmtLd m).mgmtLive ∧ m ∈ (s.toHost s.mgmtLd m).out := by
  obtain ⟨l, owner, live⟩ := h
  have sent : s.toHost s.mgmtLd m =
      ((s.useLink l).onLink l fun k => { k with txNext := k.txNext + 1 }).withOut (m :: s.out) := by
    simp [State.toHost, owner, live, State.emit, host, State.useLink_keeps, State.onLink_keeps]
  refine ⟨⟨l, by rw [State.toHost_mgmtLd, State.linkOf_congr (State.toHost_cfg _ _ _), owner], ?_⟩, by rw [sent]; exact List.mem_cons_self⟩
  rw [sent, ← live, ← (s.useLink_calm l l).live]
  change (((s.useLink l).onLink l _).link l).live = _
  rw [State.onLink_link_same]
  rfl

/-- Each of some reads of a landing aperture is answered on the management function's link (R126). -/
theorem State.each_answers_sent {s : State} {k : Nat} (l : List (Nat × Nat × Nat)) (up : s.mgmtLive) {r : Nat × Nat × Nat}
    (read : r ∈ l) : .flushData r.2.1 r.2.2 (BitVec.ofNat 32 (idWord (poolPage k))) ∈ (s.each l fun s f =>
      s.toHost s.mgmtLd (.flushData f.2.1 f.2.2 (BitVec.ofNat 32 (idWord (poolPage k))))).out := by
  induction l generalizing s with
  | nil => cases read
  | cons f l ih =>
    obtain ⟨live, sent⟩ := State.mgmtLive_toHost (m := .flushData f.2.1 f.2.2 (BitVec.ofNat 32 (idWord (poolPage k)))) up rfl
    rcases List.mem_cons.1 read with rfl | later
    · exact State.each_sent l sent fun _ _ => State.toHost_sent _ _
    · exact ih live later

/-- A read of a landing aperture none of whose writes waits is answered (R126). -/
theorem State.flushAnswers_sent {s : State} {k rid tag : Nat} (up : s.mgmtLive) (read : (k, rid, tag) ∈ s.amap.flushReads)
    (queue : ∀ q ∈ s.home.queue, q.who ≠ .pool k) (retried : ∀ r ∈ s.home.retried, r.req.who ≠ .pool k) :
    .flushData rid tag (BitVec.ofNat 32 (idWord (poolPage k))) ∈ (s.flushAnswers k none).out := by
  have idle : (s.home.queue.any (fun q => q.who == .pool k && some q.id != none) ||
      s.home.retried.any (fun r => r.req.who == .pool k)) = false := by
    rw [Bool.or_eq_false_iff, List.any_eq_false, List.any_eq_false]
    exact ⟨fun q h => by simpa using queue q h, fun r h => by simpa using retried r h⟩
  unfold State.flushAnswers
  rw [idle]
  exact State.each_answers_sent _ up (List.mem_filter.2 ⟨read, by simp⟩)

end Sys2Proof.Machine
end

section
/-! PROOF. Extents after an offer, and the landing apertures. -/

open Sys2Proof Sys2Proof.Machine

/-- Settles O25: an offer's end is read off the answers; a drain's and an erase's way through the slices and the counter tree
leaves of an extent's entry all but the count of its backing, and takes back no message; the accesses to landing apertures are
decided by what their arrival on the link leaves as it was. -/
theorem extentLifeCycle : Obligations.ExtentLifeCycle := by
  refine ⟨fun s n e gen h same st holds notAccepted notRejected others => ?accepts,
    fun s n e gen h same st holds notRejected others => ?rejects, fun s e st timed => ?expires,
    fun s n e gen h same st sole => ?releases, fun s e st idle => ?drained, fun s e st => ?erased,
    fun s e up low on pressed => ?recalls, fun s page rid k data found answers up ok half => ?halves,
    fun s page rid off data ep k line found answers up ok window aligned whole pinned gen place serves => ?lines,
    fun s page rid off data ep k found answers up h => ?drops, fun s page rid off data ep found up => ?strays,
    fun s page rid k tag found answers up ok queue retried => ?flushes,
    fun s page rid off len tag k up found answers ok other => ?refuses⟩
  case accepts =>
    subst same
    refine .of_exec (congrArg Host.Outcome.next (State.mailbox_open _ h)) ?_
    obtain ⟨u, ends, entry, sent⟩ := State.dcAnswer_last (s := s.heard n.val) (e := e.toNat) true (by simpa using st)
      (by simpa using holds) (by simpa using notAccepted) (by simpa using notRejected) (by simpa using others)
    rw [State.heard_ext] at ends entry
    have accepted : (u.ext e.toNat).accept.getLsbD n.val = true := by
      simp [entry, ExtentEntry.answered_accept _ _ _ n.isLt]
    have held : (u.ext e.toNat).holds n.val = true := by rw [entry]; exact holds
    have anyAccepted : (u.ext e.toNat).holders.any (fun n => (u.ext e.toNat).accept.getLsbD n) = true :=
      List.any_eq_true.2 ⟨n.val, ExtentEntry.mem_holders.2 ⟨n.isLt, held⟩, accepted⟩
    rw [State.serve, ends]
    exact ⟨by rw [State.settleOffer_st, if_pos anyAccepted], State.settleOffer_holds n.isLt held accepted,
      State.settleOffer_sent _ sent⟩
  case rejects =>
    subst same
    refine .of_exec (congrArg Host.Outcome.next (State.mailbox_open _ h)) ?_
    have notAccepted := (others n.val (ExtentEntry.mem_holders.2 ⟨n.isLt, holds⟩)).1
    obtain ⟨u, ends, entry, sent⟩ := State.dcAnswer_last (s := s.heard n.val) (e := e.toNat) false (by simpa using st)
      (by simpa using holds) (by simpa using notAccepted) (by simpa using notRejected)
      (by rw [State.heard_ext]; exact fun k mem => (others k mem).2.imp_right .inr)
    rw [State.heard_ext] at ends entry
    have noneAccepted : (u.ext e.toNat).holders.any (fun n => (u.ext e.toNat).accept.getLsbD n) = false := by
      rw [entry, ExtentEntry.answered_holders, List.any_eq_false]
      intro k mem
      simp [ExtentEntry.answered_accept _ _ _ (ExtentEntry.mem_holders.1 mem).1, (others k mem).1]
    rw [State.serve, ends]
    exact ⟨State.settleOffer_sent _ sent, by
      rw [State.settleOffer_st, noneAccepted, entry, ExtentEntry.answered_fromPinned, if_neg Bool.false_ne_true]⟩
  case expires =>
    have due : ¬ ((s.ext e.toNat).st ≠ .offered ∨ s.cfg amapPage 0xE8 1 8 = 0) := by simp [st, timed]
    refine .of_exec (if_neg due) ⟨?_, ?_⟩
    · simp [State.settleOffer_keeps]
    · rw [State.settleOffer_st, State.reach_ext]
  case releases =>
    subst same
    refine .of_exec (congrArg Host.Outcome.next (State.mailbox_open _ h)) ?_
    rw [State.serve, ← s.heard_ext n.val e.toNat, State.dcRelease_sole (by simpa using st) (by simpa using sole)]
    exact ⟨by simp, List.mem_cons_self⟩
  case drained =>
    refine .of_exec (congrArg Host.Outcome.next (s.when_pos (by simp [st, idle]))) ⟨State.toErase_st _ _, ?_⟩
    rw [State.ext_of_tenure (s.toErase_tenure e.toNat), State.extTo_ext]
  case erased =>
    obtain ⟨t, done, entry, chunks⟩ := execExtentEraseEnd_effect st
    refine ⟨t, done, entry, fun k hk => ?_⟩
    rw [chunks]
    exact listed_dropKeys _ _ (by simp; omega)
  case recalls =>
    have due : (!s.sorrelUp || !s.amap.crit || !s.cfgBit amapPage 0xE8 0) = false := by simp [up, low, on]
    change ∃ t, execAutoRecall s = .next t ∧ _
    simp only [execAutoRecall, due, Bool.false_eq_true, if_false]
    rw [State.pressed_congr (s := s) (by simp [State.reach_keeps]) (by simp [State.reach_keeps]), pressed]
    exact ⟨_, rfl, by simp, by simp⟩
  case halves =>
    change execLandDataWrite page rid 0x88 data false s = _
    simp [execLandDataWrite, found, answers, up, ok, half]
  case lines => exact execLandDataWrite_line ep found answers up ok window aligned whole pinned gen place serves
  case drops => exact execLandDataWrite_dropped ep found answers up h
  case strays =>
    change execLandDataWrite page rid off data ep s = _
    simp only [execLandDataWrite, found]
    exact congrArg Host.Outcome.next (s.when_pos up)
  case flushes =>
    change ∃ t, execPeerFlushRead page rid ⟨0, 4, tag⟩ s = .next t ∧ _
    simp only [execPeerFlushRead, found, answers, up, ok, State.heard_answers, State.heard_landOk]
    refine ⟨_, rfl, State.flushAnswers_sent ?_ ?_ ?_ ?_⟩
    · exact State.mgmtLive_withAmap (State.mgmtLive_of_up ((s.heard_mgmtUp _).trans up)) _
    · simp
    · simpa using queue
    · simpa using retried
  case refuses =>
    change execPeerFlushRead page rid ⟨off, len, tag⟩ s = _
    have refused : ¬ (off.toNat = 0 ∧ len = 4) := by omega
    simp [execPeerFlushRead, found, answers, up, refused]
end

section
/-! SUPPORT. Bit fields of a number, the groups that a home slice is the XOR of (R132), and a line's set in its snoop filter
(R139). -/

namespace Sys2Proof.Machine

/-! ### Bit fields -/

@[simp] theorem bits_zero (v w : Nat) : bits v 0 w = v % 2 ^ w := rfl

theorem bits_lt (v lo w : Nat) : bits v lo w < 2 ^ w := Nat.mod_lt _ (Nat.two_pow_pos w)

/-- A field of a quotient by a power of two stands that much higher in the number. -/
theorem bits_div_two_pow (v k lo w : Nat) : bits (v / 2 ^ k) lo w = bits v (k + lo) w := by
  rw [bits, bits, ← Nat.shiftRight_eq_div_pow, Nat.shiftRight_add]

/-- A field above every bit of a number. -/
theorem bits_of_lt_two_pow {v lo : Nat} (w : Nat) (h : v < 2 ^ lo) : bits v lo w = 0 := by
  rw [bits, Nat.shiftRight_eq_div_pow, Nat.div_eq_of_lt h, Nat.zero_mod]

/-! ### Home slices -/

/-- The groups of R132, written out. -/
theorem homeOf_groups (p : Nat) : homeOf p = bits p 0 5 ^^^ bits p 5 5 ^^^ bits p 10 5 ^^^ bits p 15 5 ^^^ bits p 20 5 ^^^
    bits p 25 5 ^^^ bits p 30 5 := by
  simp [homeOf, upTo, List.range_succ]

theorem homeOf_lt (p : Nat) : homeOf p < 2 ^ 5 :=
  foldl_holds (P := (· < 2 ^ 5)) (by decide) fun _ _ h => Nat.xor_lt_two_pow h (bits_lt _ _ _)

/-- One turn of R132's loop: the lowest group, and the groups of the number without it, of which the seventh is empty. -/
theorem homeOf_step {p : Nat} (h : p < 2 ^ 35) : homeOf p = p % 32 ^^^ homeOf (p / 32) := by
  have seventh : bits p 35 5 = 0 := bits_of_lt_two_pow 5 h
  have shifted (lo : Nat) : bits (p / 32) lo 5 = bits p (5 + lo) 5 := bits_div_two_pow p 5 lo 5
  rw [homeOf_groups (p / 32)]
  simp only [shifted, homeOf_groups p, seventh, Nat.xor_zero, Nat.reduceAdd, bits_zero, Nat.reducePow, Nat.xor_assoc]

/-! ### Sets and tags of the snoop filter -/

/-- The set of a DPA's line, in the bits of the DPA (R139). -/
theorem sfSetOf_div (d : Nat) : sfSetOf (d / 64) = bits d 6 14 ^^^ bits d 20 14 ^^^ bits d 34 12 := by
  have line (lo w : Nat) : bits (d / 64) lo w = bits d (6 + lo) w := bits_div_two_pow d 6 lo w
  simp only [sfSetOf, line, Nat.reduceAdd]

theorem sfSetOf_lt (line : Nat) : sfSetOf line < 2 ^ 14 :=
  Nat.xor_lt_two_pow (Nat.xor_lt_two_pow (bits_lt _ _ _) (bits_lt _ _ _)) ((bits_lt _ _ _).trans (by decide))

/-- The low part of a line is recovered from its set and from the tag, the line without that part (R139). -/
theorem sfSetOf_xor_tag (line : Nat) :
    sfSetOf line ^^^ bits (line / 2 ^ 14) 0 14 ^^^ bits (line / 2 ^ 14) 14 12 = line % 2 ^ 14 := by
  rw [bits_div_two_pow, bits_div_two_pow, sfSetOf, bits_zero]
  generalize line % 2 ^ 14 = low, bits line 14 14 = middle, bits line 28 12 = high
  rw [Nat.xor_right_comm, Nat.xor_xor_cancel_right, Nat.xor_xor_cancel_right]

/-- A line is given by its set and its tag. -/
theorem eq_of_sfSetOf_eq {a b : Nat} (set : sfSetOf a = sfSetOf b) (tag : a / 2 ^ 14 = b / 2 ^ 14) : a = b := by
  have low : a % 2 ^ 14 = b % 2 ^ 14 := by rw [← sfSetOf_xor_tag, ← sfSetOf_xor_tag, set, tag]
  rw [← Nat.div_add_mod a (2 ^ 14), ← Nat.div_add_mod b (2 ^ 14), tag, low]

theorem sfKey_div (line : Nat) : sfKey line / 2 ^ 14 = homeOf (lnPage line) := by
  have := sfSetOf_lt line
  rw [sfKey]; omega

theorem sfKey_mod (line : Nat) : sfKey line % 2 ^ 14 = sfSetOf line := by
  have := sfSetOf_lt line
  rw [sfKey]; omega

end Sys2Proof.Machine
end

section
/-! PROOF. The statements on the home slice of an address and on sets and tags of the snoop filter. -/

open Sys2Proof Sys2Proof.Machine

/-- Settles O10: a turn of the loop of R132 for each group, and the page number is the DPA without its lowest 12 bits. -/
theorem homeSliceOfADpa : Obligations.HomeSliceOfADpa := by
  have page (d : Nat) : lnPage (d / 64) = d / 2 ^ 12 := Nat.div_div_eq_div_mul d 64 64
  refine ⟨rfl, fun p h => homeOf_step (h.trans (by decide)), homeOf_lt, fun a b _ _ same => ⟨page a, ?_⟩⟩
  rw [page, page, same]

/-- Settles O11: the fields of the DPA are those of the line, 6 bits higher; XOR with the tag's parts takes them out of the set. -/
theorem snoopFilterSetAndTag : Obligations.SnoopFilterSetAndTag := by
  refine ⟨fun d => ⟨?set, ?recovered⟩, fun a b _ _ => eq_of_sfSetOf_eq, fun a => ⟨sfKey_div a, sfKey_mod a⟩⟩
  case set =>
    have top : (d.extractLsb' 34 12).toNat % 2 ^ 14 = (d.extractLsb' 34 12).toNat :=
      Nat.mod_eq_of_lt ((d.extractLsb' 34 12).isLt.trans (by decide))
    rw [sfSetOf_div, BitVec.toNat_xor, BitVec.toNat_xor, BitVec.toNat_setWidth, top]
    rfl
  case recovered =>
    have tag : (d.extractLsb' 20 26).toNat = d.toNat / 64 / 2 ^ 14 := by
      have := d.isLt
      rw [BitVec.extractLsb'_toNat, Nat.shiftRight_eq_div_pow]
      omega
    have low : bits d.toNat 6 14 = d.toNat / 64 % 2 ^ 14 := (bits_div_two_pow d.toNat 6 0 14).symm
    dsimp only
    rw [tag, sfSetOf_xor_tag, low]
end

section
/-! SUPPORT. A state after whose BI_TIMEOUT a snoop to the lost agent stands in a queue again. -/

namespace Sys2Proof.Machine

/-- A read of line 0 by the host of logical device 0, whose snoop to agent 3 is outstanding. -/
def snoopingRead : QReq := { State.reset.newReq 0 (.host 0) (.read .a) 7 with snoops := [3], sent := true }

/-- A write of line 1 that waits for a writeback entry of home slice 0 (R136), with agent 3 among the agents that it waits
for. A request arrives with none of them (`State.newReq`), but the statement is about every state. -/
def snoopingWrite : Retried :=
  { hs := 0, cls := .portGroup 0, credit := false,
    req := { State.reset.newReq 1 (.host 0) (.write .none 0 false) 8 with tr := .writeback, snoops := [3] } }

/-- The state after reset with the read in the queue of its line and the write not yet sent. -/
def writeSnoops : State := { State.reset with home := { queue := [snoopingRead], retried := [snoopingWrite], nextId := 1 } }

end Sys2Proof.Machine
end

section
/-! PROOF. The statement on answers to snoops fails: its clause on BI_TIMEOUT does not hold of `writeSnoops`. -/

open Sys2Proof Sys2Proof.Machine

/-- Refutes O21: losing an agent clears its snoops in the queues only (`State.loseAgents`); when the lines then go on, a write
that waited for a writeback entry enters its queue (`State.readmit`) with the snoop to the agent that it was held with. -/
theorem not_snoopAnswersAndCredits : ¬ Obligations.SnoopAnswersAndCredits := by
  intro h
  obtain ⟨-, -, timesOut, -⟩ := h
  obtain ⟨t, run, -, -, unasked⟩ := timesOut writeSnoops 3 0 (by decide +kernel)
  cases run
  have asked : ∃ x ∈ ((writeSnoops.reach (writeSnoops.biTo 0)).snoopTimeout 3 0).home.queue, 3 ∈ x.snoops := by
    decide +kernel
  obtain ⟨x, queued, asks⟩ := asked
  exact unasked x queued asks
end

section
/-! SUPPORT. States of the channels and of a page's metadata in which a clause of the statements on channels, line checks or
moves does not hold. -/

namespace Sys2Proof.Machine

/-- Channel 0, which was active, trains in its Lovage's recovery reset (R435). -/
def trainsInReset : State := State.reset.onChan 0 fun ch => { ch with st := .training, rerun := some .active }

/-- A mirrored interleave set over channels 0 and 1. -/
def twinSet : SetEntry := { ways := 0, grain := 4, valid := true, near := true, mirror := true, member := 0x10, base := 0, len := 8192 }

/-- A channel in a state, its pair in a state of mirroring. -/
def twinChannel (x : ChanState) (m : MirState) : Channel := { st := x, usable := 65536, lranks := 4, rb := 16, mir := m }

/-- The pair of channels 0 and 1 is in SYNC. Line 0 of both is a metadata line of extent 0, whose chunk is not initialised yet,
so that channel 1 still holds there what the frame was used for before: an uncorrectable line (R276). -/
def partnerLineBad : State :=
  { State.reset with
    amap := { sets := [(0, twinSet)], extents := [(0, { st := .granted })] }
    mem := { lines := [(mediaKey 1 0, .bad)] }
    ddr := [(0, twinChannel .active .sync), (1, twinChannel .active .off)] }

/-- One wrong bit in each of devices 0 and 1. -/
def twoDevicesHit : BitVec 640 := 1 ||| 1 <<< 64

/-- Page 0, near and cold, is one that the sweeper may choose for demotion. Channel 0 of its mirrored pair is quarantined, and
on channel 1 the page map line holds the poison pattern, which a resilver has written there (R199). -/
def mapLinePoisoned : State :=
  { State.reset with
    boot := { State.reset.boot with main := true }
    amap := { sets := [(0, twinSet)], domains := [(0, { valid := true, tierEn := true })], extents := [(0, { st := .granted })] }
    tier := { epoch := 100 }
    mem := { metaPoison := [mediaKey 1 0], chunks := [(0, 1)], pages := [(0, { st := .near, set := 0, loc := 2000 })] }
    ddr := [(0, twinChannel .quarantined .oddOnly), (1, twinChannel .active .off)] }

/-- What a command completes with can be checked on the state that it answers. -/
theorem Completes.checks {i : Instr} {s : State} {P : State → Prop} [DecidablePred P] (h : Completes i s P) :
    (match exec i s with
      | .next t => decide (P t)
      | _ => false) = true := by
  obtain ⟨t, run, holds⟩ := h
  simp only [run, decide_eq_true_eq, holds]

end Sys2Proof.Machine
end

section
/-! PROOF. Statements on the channels, on line checks and on moves that fail, each on a state in which one of its clauses does
not hold. -/

open Sys2Proof Sys2Proof.Machine

/-- Refutes O26: a channel whose training was part of its Lovage's recovery reset goes back to where it was with training step 6
(`State.rerunEnd`), not 8. -/
theorem not_channelTrainingAndSpeed : ¬ Obligations.ChannelTrainingAndSpeed := by
  intro h
  obtain ⟨trained, -⟩ := h
  exact absurd (trained trainsInReset 0 (by decide +kernel) (by decide +kernel) (by decide +kernel)).checks (by decide +kernel)

/-- Refutes O27: the partner's copy of a metadata line counts as good by its age alone (`State.partnerGood`), so the clause on a
good mirror copy covers one that is itself uncorrectable; it is counted, and the line is not rewritten from it. -/
theorem not_refreshScrubAndThermal : ¬ Obligations.RefreshScrubAndThermal := by
  intro h
  obtain ⟨-, -, -, -, -, -, -, -, -, rewritten, -⟩ := h
  have copied := rewritten partnerLineBad 0 0 0 1 twoDevicesHit 0 1 .bad (by decide) (by decide) (by decide +kernel)
    (by decide +kernel) (by decide +kernel) (by decide +kernel) (by decide +kernel) (by decide +kernel)
  exact absurd copied.checks (by decide +kernel)

/-- Refutes O30: `State.metaGood` says nothing of metadata lines that hold the poison pattern of a copy. Fetching such a page map
line poisons its pages (R104), and the visit of the sweeper queues no demotion. -/
theorem not_hotnessAndMoves : ¬ Obligations.HotnessAndMoves := by
  intro h
  obtain ⟨-, -, -, queued, -⟩ := h
  have demoted := queued mapLinePoisoned 0 (by decide +kernel) (by decide +kernel) (by decide +kernel) (by decide +kernel)
    (by decide +kernel) (by decide +kernel) (by decide +kernel) (by decide +kernel) (by decide +kernel) (by decide +kernel)
    (by decide +kernel) (by decide +kernel) (by decide +kernel) (by decide +kernel)
  exact absurd demoted.checks (by decide +kernel)
end

section
/-! SUPPORT. What accesses to the media leave of the channels and of the retained store: of a channel they change what its
refresh unit, its count of uncorrectable lines and its copies' walks hold, and no retained write that waits is lost. An operation
that changes neither the channels nor the retained store has its lemma `State.op_keeps`. -/

namespace Sys2Proof.Machine

/-- A channel beside what accesses to its lines change: the refresh unit, the count of uncorrectable lines, and how far a copy's
lines stand at their new place (R182-R188, R192, R199, R211). -/
def Channel.service (ch : Channel) : Channel :=
  { ch with
    debt := [], due := [], fast := 0, reqAt := [], repaidAt := [], issued := [], debtHwm := 0, rfm := 0, sampled := [], acts := [],
    rowLfsr := [], ueTotal := 0, copy := { ch.copy with copied := 0 }, silver := { ch.silver with copied := 0 } }

/-- A state after accesses to the media, beside the state before them. -/
structure State.Accessed (o s : State) : Prop where
  service : ∀ k, (s.chan k).service = (o.chan k).service
  writes : o.ret.queue ⊆ s.ret.queue

theorem State.Accessed.refl (s : State) : s.Accessed s := ⟨fun _ => rfl, List.Subset.refl _⟩

theorem State.Accessed.trans {o s t : State} (h : o.Accessed s) (g : s.Accessed t) : o.Accessed t :=
  ⟨fun k => (g.service k).trans (h.service k), fun _ mem => g.writes (h.writes mem)⟩

section Accessed
variable {o s : State}

/-- What a channel holds beside its refresh unit and its copies' walks is as before the accesses. -/
theorem State.Accessed.chan {α : Type} (h : o.Accessed s) (k : Nat) (g : Channel → α) (kept : ∀ ch, g ch.service = g ch) :
    g (s.chan k) = g (o.chan k) := by
  rw [← kept, h.service k, kept]

/-! ### Composition -/

theorem State.accessed_of_same {t : State} (e : t.ddr = s.ddr ∧ t.ret = s.ret) (h : o.Accessed s) : o.Accessed t := by
  obtain ⟨ddr, ret⟩ := e
  refine ⟨fun k => ?_, ret ▸ h.writes⟩
  rw [State.chan, ddr]
  exact h.service k

theorem State.when_accessed {b : Bool} {f : State → State} (h : o.Accessed s)
    (step : ∀ t : State, o.Accessed t → o.Accessed (f t)) : o.Accessed (s.when b f) := by
  unfold State.when
  split
  · exact step s h
  · exact h

theorem State.each_accessed {α : Type} {f : State → α → State} (l : List α) (h : o.Accessed s)
    (step : ∀ t a, o.Accessed t → o.Accessed (f t a)) : o.Accessed (s.each l f) := by
  induction l generalizing s with
  | nil => exact h
  | cons a l ih => exact ih (step s a h)

theorem State.onChan_accessed {c : Nat} {f : Channel → Channel} (kept : ∀ ch, (f ch).service = ch.service) (h : o.Accessed s) :
    o.Accessed (s.onChan c f) := by
  refine ⟨fun k => ?_, h.writes⟩
  by_cases same : k = c
  · subst same
    simpa [State.chan, State.onChan, kept] using h.service k
  · simpa [State.chan, State.onChan, same] using h.service k

theorem State.withEvt_accessed (e : Events) (h : o.Accessed s) : o.Accessed (s.withEvt e) :=
  State.accessed_of_same (s := s) ⟨rfl, rfl⟩ h
theorem State.withFlt_accessed (e : Faults) (h : o.Accessed s) : o.Accessed (s.withFlt e) :=
  State.accessed_of_same (s := s) ⟨rfl, rfl⟩ h
theorem State.withAmap_accessed (e : AddressMap) (h : o.Accessed s) : o.Accessed (s.withAmap e) :=
  State.accessed_of_same (s := s) ⟨rfl, rfl⟩ h
theorem State.withMem_accessed (e : Media) (h : o.Accessed s) : o.Accessed (s.withMem e) :=
  State.accessed_of_same (s := s) ⟨rfl, rfl⟩ h
theorem State.withHome_accessed (e : HomeSlices) (h : o.Accessed s) : o.Accessed (s.withHome e) :=
  State.accessed_of_same (s := s) ⟨rfl, rfl⟩ h
theorem State.withTier_accessed (e : Tier) (h : o.Accessed s) : o.Accessed (s.withTier e) :=
  State.accessed_of_same (s := s) ⟨rfl, rfl⟩ h

/-! ### The retained store, events and faults -/

/-- A retained write waits behind those that wait (R458). -/
theorem State.retWrite_accessed (k : Nat) (v : Word) (who : Option Master) (h : o.Accessed s) : o.Accessed (s.retWrite k v who) := by
  unfold State.retWrite
  dsimp only
  split
  · exact h
  · refine ⟨h.service, fun x mem => ?_⟩
    have waits := h.writes mem
    rw [State.withRet_ret]
    dsimp only
    split
    next none => simp [none] at waits
    next f r some =>
      rw [some, List.mem_cons] at waits
      split
      · rw [← List.takeWhile_append_dropWhile (p := fun e : RetWrite => e.key == 0xA08) (l := r), List.mem_append] at waits
        simp only [List.mem_cons, List.mem_append]
        tauto
      · simp only [List.mem_cons, List.mem_append]
        tauto

theorem State.logIt_accessed (r : LogRec) (vital : Bool) (dest : List (BitVec 14)) (h : o.Accessed s) :
    o.Accessed (s.logIt r vital dest) := by
  unfold State.logIt
  split
  · exact State.when_accessed (State.withEvt_accessed _ h) fun _ => State.retWrite_accessed _ _ _
  · exact State.each_accessed _ (State.withEvt_accessed _ h) fun _ _ => State.accessed_of_same (by simp [State.deliver_keeps])

theorem State.raiseOne_accessed (e : Ev) (h : o.Accessed s) : o.Accessed (s.raiseOne e) := by
  unfold State.raiseOne
  split
  · exact h
  · dsimp only
    split
    · exact State.logIt_accessed _ _ _ (State.withEvt_accessed _ h)
    · exact State.when_accessed (State.withEvt_accessed _ h) fun _ => State.accessed_of_same (by simp [State.deliver_keeps])

theorem State.raise_accessed (e : Ev) (h : o.Accessed s) : o.Accessed (s.raise e) := by
  unfold State.raise
  dsimp only
  split
  · exact State.raiseOne_accessed _ (State.withEvt_accessed _ (State.raiseOne_accessed _ h))
  · exact State.raiseOne_accessed _ h

theorem State.takeFatal_accessed (src site cls subject : Nat) (h : o.Accessed s) :
    o.Accessed (s.takeFatal src site cls subject).1 := by
  unfold State.takeFatal
  split
  · exact State.withFlt_accessed _ (State.each_accessed _ h fun _ _ => State.retWrite_accessed _ _ _)
  · exact State.withFlt_accessed _ h

theorem State.raiseFault_accessed (src site cls cause need : Nat) (h : o.Accessed s) :
    o.Accessed (s.raiseFault src site cls cause need) := by
  refine State.raise_accessed _ ?_
  split
  · exact State.takeFatal_accessed _ _ _ _ h
  · exact h

theorem State.fileAt_accessed (site cls row col cause : Nat) (h : o.Accessed s) : o.Accessed (s.fileAt site cls row col cause) := by
  unfold State.fileAt
  dsimp only
  split
  · exact State.raiseFault_accessed _ _ _ _ _ (State.accessed_of_same (by simp [State.setRec_keeps]) h)
  · refine State.when_accessed ?_ fun _ => State.raiseFault_accessed _ _ _ _ _
    exact State.accessed_of_same (by simp [State.setRec_keeps]) h

theorem State.fileP_accessed (p cls cause : Nat) (h : o.Accessed s) : o.Accessed (s.fileP p cls cause) :=
  State.fileAt_accessed _ _ _ _ _ h

theorem State.count_accessed (p code n : Nat) (h : o.Accessed s) : o.Accessed (s.count p code n) :=
  State.accessed_of_same (by simp [State.count_keeps]) h

/-! ### The refresh unit -/

theorem State.nextDue_accessed (c k : Nat) (h : o.Accessed s) : o.Accessed (s.nextDue c k) :=
  State.onChan_accessed (fun _ => rfl) h

theorem State.refreshNow_accessed (c k : Nat) (h : o.Accessed s) : o.Accessed (s.refreshNow c k) :=
  State.count_accessed _ _ _ (State.onChan_accessed (fun _ => rfl) h)

theorem State.repayOne_accessed (c k : Nat) (h : o.Accessed s) : o.Accessed (s.repayOne c k) :=
  State.refreshNow_accessed _ _ (State.onChan_accessed (fun _ => rfl) h)

theorem State.repayAll_accessed (c : Nat) (h : o.Accessed s) : o.Accessed (s.repayAll c) :=
  State.each_accessed _ h fun _ _ ht => State.each_accessed _ ht fun _ _ => State.repayOne_accessed _ _

theorem State.rfmNow_accessed (c bank : Nat) (h : o.Accessed s) : o.Accessed (s.rfmNow c bank) :=
  State.onChan_accessed (fun _ => rfl) h

theorem State.refIssue_accessed (c bank : Nat) (k : RefKind) (h : o.Accessed s) : o.Accessed (s.refIssue c bank k) := by
  cases k with
  | forced => exact State.refreshNow_accessed _ _ (State.nextDue_accessed _ _ h)
  | rfm => exact State.rfmNow_accessed _ _ h
  | sampled =>
    have taken := State.onChan_accessed (c := c) (f := fun ch => { ch with sampled := wipe ch.sampled bank }) (fun _ => rfl) h
    simp only [State.refIssue]
    split
    · exact State.onChan_accessed (fun _ => rfl) taken
    · exact State.rfmNow_accessed _ _ taken
  | repay => exact State.repayOne_accessed _ _ h

theorem State.bankTurn_accessed (c bank : Nat) (ask idle : Bool) (h : o.Accessed s) : o.Accessed (s.bankTurn c bank ask idle) :=
  State.each_accessed _ h fun _ _ ht => State.when_accessed ht fun _ => State.refIssue_accessed _ _ _

theorem State.chanTurn_accessed (c : Nat) (h : o.Accessed s) : o.Accessed (s.chanTurn c) :=
  State.each_accessed _ h fun _ _ => State.bankTurn_accessed _ _ _ _

theorem State.takeFree_accessed (h : o.Accessed s) : o.Accessed s.takeFree :=
  State.accessed_of_same (by simp [State.takeFree_keeps]) h

theorem State.activated_accessed (c off : Nat) (h : o.Accessed s) : o.Accessed (s.activated c off) := by
  unfold State.activated
  extract_lets _ _ _ _ asked
  have asks : o.Accessed asked := State.onChan_accessed (fun _ => rfl) (State.takeFree_accessed h)
  refine State.when_accessed asks fun t ht => ?_
  exact State.onChan_accessed (fun _ => rfl) (State.bankTurn_accessed _ _ _ _ ht)

theorem State.countUe_accessed (c : Nat) (h : o.Accessed s) : o.Accessed (s.countUe c) :=
  State.onChan_accessed (fun _ => rfl) h

theorem State.putMedia_accessed (i x : Nat) (v : Stored) (h : o.Accessed s) : o.Accessed (s.putMedia i x v) :=
  State.each_accessed _ h fun _ _ ht => State.withMem_accessed _ (State.activated_accessed _ _ (State.count_accessed _ _ _ ht))

/-! ### Frames and pages that go -/

theorem State.levels_accessed (d : Nat) (h : o.Accessed s) : o.Accessed (s.levels d) := by
  unfold State.levels
  extract_lets _ _ _ low _ levels critical
  have raised : ∀ (t : State) (a : AddressMap) (e : Ev), o.Accessed t → o.Accessed ((t.withAmap a).raise e) :=
    fun _ _ _ ht => State.raise_accessed _ (State.withAmap_accessed _ ht)
  have low_accessed : o.Accessed low := State.when_accessed h fun _ => raised _ _ _
  have critical_accessed : o.Accessed critical :=
    State.when_accessed (State.withAmap_accessed _ low_accessed) fun _ => raised _ _ _
  exact State.when_accessed critical_accessed fun _ => State.withAmap_accessed _

theorem State.giveFrame_accessed (p i f : Nat) (h : o.Accessed s) : o.Accessed (s.giveFrame p i f) :=
  State.levels_accessed _ (State.accessed_of_same (by simp [State.account_keeps, State.releaseFrame_keeps]) h)

theorem State.giveBin_accessed (p i loc cls : Nat) (h : o.Accessed s) : o.Accessed (s.giveBin p i loc cls) :=
  State.levels_accessed _ (State.accessed_of_same (by simp [State.account_keeps, State.releaseBin_keeps]) h)

theorem State.giveBack_accessed (p : Nat) (e : PageEntry) (h : o.Accessed s) : o.Accessed (s.giveBack p e) := by
  unfold State.giveBack
  split
  · exact State.giveFrame_accessed _ _ _ h
  · exact State.giveBin_accessed _ _ _ _ h
  · exact State.giveBin_accessed _ _ _ _ h
  · exact h

theorem State.dropDest_accessed (p : Nat) (m : Migration) (h : o.Accessed s) : o.Accessed (s.dropDest p m) := by
  unfold State.dropDest
  split
  · exact State.giveFrame_accessed _ _ _ h
  · exact State.giveFrame_accessed _ _ _ h
  · exact State.giveBin_accessed _ _ _ _ h
  · exact h

theorem State.onPage_accessed (p : Nat) (f : PageEntry → PageEntry) (h : o.Accessed s) : o.Accessed (s.onPage p f) :=
  State.accessed_of_same (by simp [State.onPage_keeps]) h

theorem State.account_accessed (e add sub : Nat) (h : o.Accessed s) : o.Accessed (s.account e add sub) :=
  State.accessed_of_same (by simp [State.account_keeps]) h

theorem State.endMigration_accessed (p : Nat) (h : o.Accessed s) : o.Accessed (s.endMigration p) := by
  unfold State.endMigration
  split
  · exact h
  · exact State.onPage_accessed _ _ (State.withMem_accessed _ (State.dropDest_accessed _ _ h))

theorem State.poisonPage_accessed (p : Nat) (withdraw : Bool) (h : o.Accessed s) : o.Accessed (s.poisonPage p withdraw) := by
  unfold State.poisonPage
  extract_lets ended e q _ given
  have ended_accessed : o.Accessed ended := State.endMigration_accessed p h
  have given_accessed : o.Accessed given := by
    dsimp only [given]
    split
    · exact State.levels_accessed _ (State.withAmap_accessed _ (State.account_accessed _ _ _ ended_accessed))
    · exact State.giveBack_accessed _ _ ended_accessed
  exact State.onPage_accessed _ _ (State.withMem_accessed _ given_accessed)

theorem State.mapLost_accessed (n : Nat) (h : o.Accessed s) : o.Accessed (s.mapLost n) :=
  State.each_accessed _ (State.withMem_accessed _ h) fun _ _ ht =>
    State.fileP_accessed _ _ _ (State.raise_accessed _ (State.poisonPage_accessed _ _ ht))

/-! ### Media -/

theorem State.copyBad_accessed (c : Nat) (l : List Stored) (h : o.Accessed s) : o.Accessed (s.copyBad c l) :=
  State.each_accessed _ h fun _ _ ht => State.fileP_accessed _ _ _ (State.countUe_accessed _ ht)

theorem State.walkSpare_accessed (c upto : Nat) (h : o.Accessed s) : o.Accessed (s.walkSpare c upto) := by
  unfold State.walkSpare
  dsimp only
  split
  · exact State.onChan_accessed (fun _ => rfl) (State.copyBad_accessed _ _ (State.withMem_accessed _ h))
  · exact h

theorem State.walkSilver_accessed (ev upto : Nat) (h : o.Accessed s) : o.Accessed (s.walkSilver ev upto) := by
  unfold State.walkSilver
  split
  · exact h
  · exact State.onChan_accessed (fun _ => rfl) (State.copyBad_accessed _ _ (State.withMem_accessed _ h))

theorem State.copyWalk_accessed (c : Nat) (h : o.Accessed s) : o.Accessed (s.copyWalk c) :=
  State.walkSilver_accessed _ _ (State.walkSpare_accessed _ _ h)

theorem State.eccUncorr_accessed (c off subject : Nat) (h : o.Accessed s) : o.Accessed (s.eccUncorr c off subject) :=
  State.raise_accessed _ (State.countUe_accessed _ h)

theorem State.tagFailed_accessed (hs subject : Nat) (h : o.Accessed s) : o.Accessed (s.tagFailed hs subject) :=
  State.raise_accessed _ (State.withMem_accessed _ h)

theorem State.copyFailed_accessed (hs c subject : Nat) (g : Got) (h : o.Accessed s) : o.Accessed (s.copyFailed hs c subject g) := by
  unfold State.copyFailed
  split
  · exact State.countUe_accessed _ h
  · exact State.tagFailed_accessed _ _ h
  · exact h

theorem State.readPartner_accessed (hs i c off subject : Nat) (b : TagBind) (h : o.Accessed s) :
    o.Accessed (s.readPartner hs i c off subject b).1 := by
  unfold State.readPartner
  extract_lets other
  split
  · exact State.copyFailed_accessed _ _ _ _ (State.copyWalk_accessed _ h)
  · exact h

theorem State.readLine_accessed (hs i y subject : Nat) (b : TagBind) (h : o.Accessed s) :
    o.Accessed (s.readLine hs i y subject b).1 := by
  unfold State.readLine
  split
  · exact h
  next c _ =>
    extract_lets off read partner partner'
    have counted : o.Accessed read := State.activated_accessed _ _ (State.count_accessed _ _ _ h)
    have partner_accessed : o.Accessed partner.1 := State.readPartner_accessed _ _ _ _ _ _ counted
    have partner'_accessed : o.Accessed partner'.1 := State.readPartner_accessed _ _ _ _ _ _ (State.tagFailed_accessed _ _ counted)
    clear_value partner partner'
    split
    · split
      · exact State.fileP_accessed _ _ _ (State.countUe_accessed _ (State.putMedia_accessed _ _ _ partner_accessed))
      · exact State.fileP_accessed _ _ _ (State.eccUncorr_accessed _ _ _ partner_accessed)
    · split
      · exact State.fileP_accessed _ _ _ (State.putMedia_accessed _ _ _ partner'_accessed)
      · exact State.fileP_accessed _ _ _ partner'_accessed
    · exact counted

/-! ### The counter tree -/

theorem State.loseNode_accessed (hs lvl i : Nat) (h : o.Accessed s) : o.Accessed (s.loseNode hs lvl i) := by
  refine State.fileP_accessed _ _ _ (State.raise_accessed _ ?_)
  exact State.accessed_of_same (by simp [State.storeNode_keeps, State.setBlock_keeps, State.countLost_keeps, State.goodCopies_keeps]) h

theorem State.nodeLost_accessed (hs lvl i : Nat) (h : o.Accessed s) : o.Accessed (s.nodeLost hs lvl i) := by
  unfold State.nodeLost
  split
  · exact State.accessed_of_same (by simp [State.setBlock_keeps]) h
  · exact State.loseNode_accessed _ _ _ h

theorem State.poisonMedia_accessed (p i f j : Nat) (h : o.Accessed s) : o.Accessed (s.poisonMedia p i f j) :=
  State.putMedia_accessed _ _ _ (State.withMem_accessed _ h)

theorem State.leafLost_accessed (hs i : Nat) (h : o.Accessed s) : o.Accessed (s.leafLost hs i) := by
  unfold State.leafLost
  dsimp only
  split
  · exact State.accessed_of_same (by simp [State.setBlock_keeps]) h
  · refine State.fileP_accessed _ _ _ (State.raise_accessed _ ?_)
    have lost : o.Accessed ((((s.goodCopies (blockKey hs 1 i)).countLost hs).setBlock hs 1 i
        { major := 2 ^ 63 + ((s.goodCopies (blockKey hs 1 i)).countLost hs).now, minor := [] }).storeNode hs 1 i) :=
      State.accessed_of_same (by simp [State.storeNode_keeps, State.setBlock_keeps, State.countLost_keeps, State.goodCopies_keeps]) h
    split
    · exact State.each_accessed _ lost fun _ _ => State.poisonMedia_accessed _ _ _ _
    · exact State.poisonPage_accessed _ _ lost
    · exact State.poisonPage_accessed _ _ lost
    · exact lost

theorem State.setRetags_accessed (hs : Nat) (l : List Retag) (h : o.Accessed s) : o.Accessed (s.setRetags hs l) :=
  State.accessed_of_same (by simp [State.setRetags_keeps]) h

theorem State.setBlock_accessed (hs lvl i : Nat) (b : TreeBlock) (h : o.Accessed s) : o.Accessed (s.setBlock hs lvl i b) :=
  State.accessed_of_same (by simp [State.setBlock_keeps]) h

theorem State.mcUse_accessed (hs lvl i : Nat) (dirty : Bool) (h : o.Accessed s) : o.Accessed (s.mcUse hs lvl i dirty).1 :=
  State.accessed_of_same (by simp [State.mcUse_keeps]) h

theorem State.metaRead_accessed (hs lvl i copy : Nat) (h : o.Accessed s) : o.Accessed (s.metaRead hs lvl i copy) := by
  unfold State.metaRead
  extract_lets m e y born
  split
  · exact h
  next c _ =>
    extract_lets other counted _ mended both
    have mended_accessed : o.Accessed mended :=
      State.withMem_accessed _ (State.when_accessed h fun _ => State.countUe_accessed c)
    have both_accessed : o.Accessed both := State.when_accessed mended_accessed fun _ => State.countUe_accessed other
    split
    · exact h
    · split
      · exact State.fileP_accessed _ _ _ both_accessed
      · split <;> exact State.withMem_accessed _ both_accessed

theorem State.checkBlock_accessed (hs lvl i : Nat) (h : o.Accessed s) : o.Accessed (s.checkBlock hs lvl i) := by
  unfold State.checkBlock
  have read := fun copy => State.metaRead_accessed hs lvl i copy h
  split
  · exact h
  · dsimp only
    split
    · split
      · exact read 0
      · exact State.mapLost_accessed _ (read 0)
    · split
      · split
        · exact State.accessed_of_same (by simp [State.loadCopy_keeps]) (read 0)
        · exact State.leafLost_accessed _ _ (read 0)
      · have reread := State.metaRead_accessed hs lvl i 1 (read 0)
        split
        · exact State.accessed_of_same (by simp [State.loadCopy_keeps]) (read 0)
        · split
          · exact State.nodeLost_accessed _ _ _ reread
          · refine State.fileP_accessed _ _ _ (State.raise_accessed _ ?_)
            exact State.accessed_of_same (by simp [State.loadCopy_keeps, State.mendCopy_keeps]) reread

theorem State.retagChild_accessed (hs : Nat) (r : Retag) (k : Nat) (h : o.Accessed s) : o.Accessed (s.retagChild hs r k) := by
  unfold State.retagChild
  extract_lets mark lvl c checked good i p e y old new got moved
  have checked_accessed : o.Accessed checked := by
    dsimp only [checked]
    split
    · exact h
    · exact State.checkBlock_accessed _ _ _ h
  have read : o.Accessed got.1 := State.readLine_accessed _ _ _ _ _ h
  have moved_accessed : o.Accessed moved := by
    dsimp only [moved]
    split
    · exact State.putMedia_accessed _ _ _ read
    · exact State.putMedia_accessed _ _ _ read
    · exact State.putMedia_accessed _ _ _ read
    · exact read
    · exact read
  split
  · split
    · exact State.setRetags_accessed _ _ h
    · refine State.when_accessed (State.setRetags_accessed _ _ checked_accessed) fun _ => ?_
      exact State.accessed_of_same (by simp [State.storeNode_keeps])
  · split
    · exact State.setRetags_accessed _ _ moved_accessed
    · exact State.setRetags_accessed _ _ h

theorem State.endRetag_accessed (hs key : Nat) (h : o.Accessed s) : o.Accessed (s.endRetag hs key) := by
  refine State.setRetags_accessed _ _ ?_
  split
  · exact State.each_accessed _ h fun _ _ => State.retagChild_accessed _ _ _
  · exact h

theorem State.advance_accessed (hs lvl i k : Nat) (h : o.Accessed s) : o.Accessed (s.advance hs lvl i k) := by
  unfold State.advance
  dsimp only
  split
  · refine State.setRetags_accessed _ _ (State.setBlock_accessed _ _ _ _
      (State.when_accessed (State.endRetag_accessed _ _ h) fun _ ht => ?_))
    exact State.endRetag_accessed _ _ (State.raise_accessed _ ht)
  · exact State.setRetags_accessed _ _ (State.setBlock_accessed _ _ _ _ h)

theorem State.walk_accessed (n hs : Nat) (l : List Walk) (h : o.Accessed s) : o.Accessed (s.walk n hs l) := by
  fun_induction State.walk n hs l s
  case case1 | case2 => exact h
  case case5 ih => exact ih (State.mcUse_accessed _ _ _ _ (State.checkBlock_accessed _ _ _ h))
  case case7 ih => exact ih (State.mcUse_accessed _ _ _ _ (State.advance_accessed _ _ _ _ h))
  case case3 ih | case4 ih | case6 ih | case8 ih | case9 ih | case10 ih | case11 ih =>
    refine ih (State.accessed_of_same ?_ h)
    simp +zetaDelta [State.count_keeps, State.mcUse_keeps, State.metaWritten_keeps, State.storeNode_keeps,
      State.arrivedAt_keeps]

theorem State.cleanLine_accessed (hs : Nat) (m : McLine) (h : o.Accessed s) : o.Accessed (s.cleanLine hs m) :=
  State.walk_accessed _ _ _ (State.accessed_of_same (by simp [State.leave_keeps, State.setMc_keeps]) h)

theorem State.cleanTo_accessed (f hs n : Nat) (h : o.Accessed s) : o.Accessed (s.cleanTo f hs n) := by
  fun_induction State.cleanTo f hs n s
  case case4 ih => exact ih (State.cleanLine_accessed _ _ h)
  all_goals exact h

theorem State.emptyMcache_accessed (h : o.Accessed s) : o.Accessed s.emptyMcache :=
  State.withMem_accessed _ (State.each_accessed _ h fun _ _ => State.cleanTo_accessed _ _ _)

theorem State.initChunk_accessed (c : Nat) (h : o.Accessed s) : o.Accessed (s.initChunk c) :=
  State.accessed_of_same (by simp [State.initChunk_keeps]) h

theorem State.needChunk_accessed (p : Nat) (h : o.Accessed s) : o.Accessed (s.needChunk p) := by
  unfold State.needChunk
  split
  · exact h
  · exact State.initChunk_accessed _ (State.raise_accessed _ (State.withMem_accessed _ h))

theorem State.fetchPage_accessed (p : Nat) (h : o.Accessed s) : o.Accessed (s.fetchPage p) :=
  State.walk_accessed _ _ _ (State.needChunk_accessed _ h)

theorem State.setEntry_accessed (p : Nat) (f : PageEntry → PageEntry) (h : o.Accessed s) : o.Accessed (s.setEntry p f) :=
  State.walk_accessed _ _ _ (State.onPage_accessed _ _ h)

/-! ### Reading and writing lines -/

theorem State.readNear_accessed (p i f j : Nat) (h : o.Accessed s) : o.Accessed (s.readNear p i f j).1 := by
  unfold State.readNear
  split
  · exact h
  · exact State.readLine_accessed _ _ _ _ _ h

theorem State.writeNear_accessed (p i f j : Nat) (d : Line) (h : o.Accessed s) : o.Accessed (s.writeNear p i f j d) :=
  State.putMedia_accessed _ _ _ (State.withMem_accessed _ (State.walk_accessed _ _ _ h))

theorem State.readBin_accessed (p : Nat) (e : PageEntry) (a n : Nat) (h : o.Accessed s) : o.Accessed (s.readBin p e a n).1 := by
  unfold State.readBin
  extract_lets step ls r
  have kept : ∀ (l : List Nat) (x : State × Got × List Byte), o.Accessed x.1 → o.Accessed (l.foldl step x).1 := by
    intro l
    induction l with
    | nil => exact fun _ hx => hx
    | cons j l ih =>
      refine fun x hx => ih _ ?_
      dsimp only [step]
      split
      · split <;> exact State.readLine_accessed _ _ _ _ _ hx
      · exact hx
  exact kept ls _ h

theorem State.readParcel_accessed (p : Nat) (e : PageEntry) (q : Nat) (h : o.Accessed s) : o.Accessed (s.readParcel p e q).1 := by
  have read := State.readBin_accessed p e (parcelStart e q) (16 * e.plenAt q) h
  unfold State.readParcel
  dsimp only
  split <;> exact read

/-! ### Lines -/

theorem State.takeFrame_accessed {p : Nat} {promo : Bool} {r : State × Nat × Nat} (took : s.takeFrame p promo = some r)
    (h : o.Accessed s) : o.Accessed r.1 := by
  unfold State.takeFrame at took
  split at took
  · split at took
    · cases took
    · split at took
      · cases took
      · cases took
        exact State.levels_accessed _ (State.account_accessed _ _ _ (State.accessed_of_same (by simp [State.useRun_keeps]) h))
  · cases took

theorem State.discardLine_accessed (u line : Nat) (h : o.Accessed s) : o.Accessed (s.discardLine u line) := by
  have dropped : o.Accessed (s.dropAtom line) := State.accessed_of_same (by simp [State.dropAtom_keeps]) h
  unfold State.discardLine
  dsimp only
  split
  · exact dropped
  · split
    · exact State.withFlt_accessed _ dropped
    · split
      · exact dropped
      · exact State.when_accessed (State.withFlt_accessed _ dropped) fun _ => State.raise_accessed _

theorem State.exhausted_accessed (p : Nat) (h : o.Accessed s) : o.Accessed (s.exhausted p) := State.raise_accessed _ h

theorem State.back_accessed (p : Nat) (h : o.Accessed s) : o.Accessed (s.back p).1 := by
  unfold State.back
  split
  next took => exact State.setEntry_accessed _ _ (State.withMem_accessed _ (State.takeFrame_accessed took h))
  next => exact State.exhausted_accessed _ (State.setEntry_accessed _ _ (State.poisonPage_accessed _ _ h))

theorem State.nextMajor_accessed (p : Nat) (h : o.Accessed s) : o.Accessed (s.nextMajor p) :=
  State.walk_accessed _ _ _ (State.setBlock_accessed _ _ _ _ (State.endRetag_accessed _ _ (State.walk_accessed _ _ _ h)))

theorem State.reseal_accessed (p : Nat) (h : o.Accessed s) : o.Accessed (s.reseal p).1 := by
  unfold State.reseal
  split
  next took =>
    dsimp only
    refine State.each_accessed _ ?_ fun _ _ => State.poisonMedia_accessed _ _ _ _
    exact State.setEntry_accessed _ _ (State.nextMajor_accessed _ (State.takeFrame_accessed took h))
  next => exact State.exhausted_accessed _ h

theorem State.parcelBad_accessed (p k : Nat) (h : o.Accessed s) : o.Accessed (s.parcelBad p k) := by
  refine State.fileP_accessed _ _ _ (State.raise_accessed _ (State.when_accessed h fun t ht => ?_))
  refine State.setEntry_accessed _ _ (State.poisonPage_accessed _ _ ?_)
  exact State.accessed_of_same (by simp [State.dropParcels_keeps]) ht

theorem State.useParcel_accessed (p q : Nat) (d : List Byte) (h : o.Accessed s) : o.Accessed (s.useParcel p q d) :=
  State.withTier_accessed _ h

theorem State.engineUsed_accessed (k : Nat) (h : o.Accessed s) : o.Accessed (s.engineUsed k) :=
  State.accessed_of_same (by simp [State.engineUsed_keeps]) h

theorem State.readFromBin_accessed (p : Nat) (e : PageEntry) (j : Nat) (h : o.Accessed s) :
    o.Accessed (s.readFromBin p e j).1 := by
  have read := State.readBin_accessed p e (parcelStart e (j / 16) + 2 + 64 * (j % 16)) 64 h
  have decoded := State.readParcel_accessed p e (j / 16) h
  unfold State.readFromBin
  dsimp only
  split
  · exact State.useParcel_accessed _ _ _ h
  · split
    · split <;> exact read
    · split
      · exact State.useParcel_accessed _ _ _ (State.engineUsed_accessed _ (State.count_accessed _ _ _ decoded))
      · exact State.parcelBad_accessed _ _ (State.count_accessed _ _ _ decoded)
      · exact decoded
      · exact decoded

theorem State.readAs_accessed (p : Nat) (e : PageEntry) (j : Nat) (h : o.Accessed s) : o.Accessed (s.readAs p e j).1 := by
  have near := State.readNear_accessed p e.set e.loc j h
  unfold State.readAs
  dsimp only
  split
  · exact h
  · split
    · exact near
    · exact near
    · exact near
    · exact State.poisonMedia_accessed _ _ _ _ near
    · exact State.poisonMedia_accessed _ _ _ _ near
  · exact State.readFromBin_accessed _ _ _ h
  · exact State.readFromBin_accessed _ _ _ h
  · exact h

theorem State.countRead_accessed (p : Nat) (h : o.Accessed s) : o.Accessed (s.countRead p) :=
  State.accessed_of_same (by simp [State.countRead_keeps]) h

theorem State.readData_accessed (line : Nat) (counted : Bool) (h : o.Accessed s) : o.Accessed (s.readData line counted).1 := by
  have read := State.readAs_accessed (lnPage line) (s.serving (lnPage line)) (line % 64) h
  unfold State.readData
  dsimp only
  split
  · exact h
  · split
    · exact State.when_accessed read fun _ => State.countRead_accessed _
    · exact read

theorem State.trigger_accessed (p : Nat) (why : Trigger) (h : o.Accessed s) : o.Accessed (s.trigger p why) :=
  State.accessed_of_same (by simp [State.trigger_keeps]) h

theorem State.dropAtom_accessed (line : Nat) (h : o.Accessed s) : o.Accessed (s.dropAtom line) :=
  State.accessed_of_same (by simp [State.dropAtom_keeps]) h

theorem State.syncAtom_accessed (line : Nat) (d : Line) (h : o.Accessed s) : o.Accessed (s.syncAtom line d) :=
  State.accessed_of_same (by simp [State.syncAtom_keeps]) h

theorem State.writeFull_accessed (line : Nat) (d : Line) (h : o.Accessed s) : o.Accessed (s.writeFull line d).1 := by
  unfold State.writeFull
  extract_lets p j near back reseal
  have near_accessed : ∀ t : State, o.Accessed t → o.Accessed (near t).1 := by
    intro t ht
    dsimp only [near]
    split
    · exact State.discardLine_accessed _ _ ht
    · exact State.syncAtom_accessed _ _ (State.writeNear_accessed _ _ _ _ _ ht)
  have back_accessed : o.Accessed back.1 := State.back_accessed _ h
  have reseal_accessed : o.Accessed reseal.1 := State.reseal_accessed _ h
  split
  · exact near_accessed _ h
  · split
    · exact near_accessed _ back_accessed
    · exact back_accessed
  · split
    · exact near_accessed _ reseal_accessed
    · exact reseal_accessed
  · exact h
  · exact State.trigger_accessed _ _ h

theorem State.writePoison_accessed (line : Nat) (h : o.Accessed s) : o.Accessed (s.writePoison line).1 := by
  unfold State.writePoison
  extract_lets p j near back
  have near_accessed : ∀ t : State, o.Accessed t → o.Accessed (near t).1 := by
    intro t ht
    dsimp only [near]
    split
    · exact State.discardLine_accessed _ _ ht
    · exact State.dropAtom_accessed _ (State.poisonMedia_accessed _ _ _ _ ht)
  have back_accessed : o.Accessed back.1 := State.back_accessed _ h
  split
  · exact near_accessed _ h
  · split
    · exact near_accessed _ back_accessed
    · exact back_accessed
  · exact h
  · exact h
  · exact State.trigger_accessed _ _ h

theorem State.unverified_accessed (line : Nat) (who : Requester) (h : o.Accessed s) : o.Accessed (s.unverified line who) :=
  State.fileP_accessed _ _ _ (State.raise_accessed _ (State.withMem_accessed _ h))

theorem State.writePart_accessed (line : Nat) (mask : BitVec 64) (d : Line) (who : Requester) (h : o.Accessed s) :
    o.Accessed (s.writePart line mask d who).1 := by
  have read := State.readData_accessed line false h
  unfold State.writePart
  dsimp only
  split
  · exact h
  · exact State.trigger_accessed _ _ h
  · exact State.trigger_accessed _ _ h
  · exact State.unverified_accessed _ _ h
  · split
    · exact State.writeFull_accessed _ _ read
    · exact State.unverified_accessed _ _ (State.writePoison_accessed _ read)
    · exact State.discardLine_accessed _ _ read

/-! ### Atomics -/

theorem State.setAtoms_accessed (hs : Nat) (l : List AtomLine) (h : o.Accessed s) : o.Accessed (s.setAtoms hs l) :=
  State.withHome_accessed _ h

theorem State.flushAtom_accessed (line : Nat) (h : o.Accessed s) : o.Accessed (s.flushAtom line) := by
  unfold State.flushAtom
  split
  · exact h
  · exact State.writeFull_accessed _ _ (State.dropAtom_accessed _ h)

theorem State.placeAtom_accessed (line : Nat) (d : Line) (h : o.Accessed s) : o.Accessed (s.placeAtom line d) := by
  have placed := fun l => State.setAtoms_accessed (homeOf (lnPage line)) l h
  unfold State.placeAtom
  dsimp only
  split
  · exact State.writeFull_accessed _ _ (State.dropAtom_accessed _ h)
  · split
    · exact State.flushAtom_accessed _ (placed _)
    · exact placed _

theorem State.atomicAt_accessed (line : Nat) (op : AtomicKind) (size off a b : Nat) (who : Requester) (h : o.Accessed s) :
    o.Accessed (s.atomicAt line op size off a b who).1 := by
  unfold State.atomicAt
  extract_lets p w m act back read
  have act_accessed : ∀ (t : State) (old : Line), o.Accessed t → o.Accessed (act t old).1 :=
    fun t old ht => State.placeAtom_accessed _ _ ht
  have back_accessed : o.Accessed back.1 := State.back_accessed _ h
  have read_accessed : o.Accessed read.1 := State.readData_accessed _ _ h
  split
  · exact h
  · exact State.trigger_accessed _ _ h
  · exact State.trigger_accessed _ _ h
  · exact State.unverified_accessed _ _ h
  · split
    · exact act_accessed _ _ back_accessed
    · exact State.unverified_accessed _ _ back_accessed
  · split
    · exact act_accessed _ _ read_accessed
    · exact State.unverified_accessed _ _ (State.writePoison_accessed _ read_accessed)
    · exact read_accessed

theorem State.touch_accessed (p : Nat) (h : o.Accessed s) : o.Accessed (s.touch p) := by
  have fetched : o.Accessed (s.when (s.metaServed p) fun s => s.fetchPage p) :=
    State.when_accessed h fun _ => State.fetchPage_accessed p
  unfold State.touch
  dsimp only
  split
  · exact fetched
  · exact State.setEntry_accessed _ _ fetched

/-! ### Answers -/

theorem State.raiseLd_accessed (ld k subject : Nat) (h : o.Accessed s) : o.Accessed (s.raiseLd ld k subject) := by
  unfold State.raiseLd
  split
  · exact State.raise_accessed _ h
  · exact h

theorem State.toHost_accessed (ld : Nat) (m : Msg) (h : o.Accessed s) : o.Accessed (s.toHost ld m) :=
  State.accessed_of_same (by simp [State.toHost_keeps]) h

theorem State.emit_accessed (m : Msg) (h : o.Accessed s) : o.Accessed (s.emit m) :=
  State.accessed_of_same (by simp [State.emit_keeps]) h

theorem State.traceDone_accessed (q : QReq) (poison : Bool) (h : o.Accessed s) : o.Accessed (s.traceDone q poison) :=
  State.accessed_of_same (by simp [State.traceDone_keeps]) h

theorem State.countPoison_accessed (ld : Nat) (h : o.Accessed s) : o.Accessed (s.countPoison ld) :=
  State.accessed_of_same (by simp [State.countPoison_keeps]) h

theorem State.actRead_accessed (who : Requester) (h : o.Accessed s) : o.Accessed (s.actRead who) :=
  State.accessed_of_same (by simp [State.actRead_keeps]) h

theorem State.actWrite_accessed (who : Requester) (h : o.Accessed s) : o.Accessed (s.actWrite who) :=
  State.accessed_of_same (by simp [State.actWrite_keeps]) h

theorem State.answerRead_accessed (q : QReq) (g : ReadGot) (mv : MetaVal) (h : o.Accessed s) : o.Accessed (s.answerRead q g mv) := by
  unfold State.answerRead
  extract_lets noted traced d bad
  have traced_accessed : o.Accessed traced := State.traceDone_accessed _ _ (State.actRead_accessed _ h)
  clear_value traced d bad
  split
  · exact traced_accessed
  · split
    · refine State.toHost_accessed _ _ (State.when_accessed (State.when_accessed traced_accessed ?_) ?_)
      · exact fun _ => State.raiseLd_accessed _ _ _
      · exact fun _ => State.countPoison_accessed _
    · split <;> exact State.toHost_accessed _ _ traced_accessed
    · exact State.emit_accessed _ traced_accessed
    · exact State.withHome_accessed _ traced_accessed

theorem State.flushAnswers_accessed (a : Nat) (but : Option Nat) (h : o.Accessed s) : o.Accessed (s.flushAnswers a but) :=
  State.accessed_of_same (by simp [State.flushAnswers_keeps]) h

theorem State.answerCmp_accessed (q : QReq) (mv : MetaVal) (err : Bool) (h : o.Accessed s) : o.Accessed (s.answerCmp q mv err) := by
  have traced := State.traceDone_accessed q false h
  unfold State.answerCmp
  dsimp only
  split
  · exact traced
  · split
    · exact State.toHost_accessed _ _ traced
    · exact State.emit_accessed _ traced
    · exact State.flushAnswers_accessed _ _ traced
    · exact traced

theorem State.answerAtomic_accessed (q : QReq) (v : Nat) (bad byLine : Bool) (h : o.Accessed s) :
    o.Accessed (s.answerAtomic q v bad byLine) := by
  have traced := State.traceDone_accessed q bad h
  unfold State.answerAtomic
  dsimp only
  split
  · exact traced
  · split
    · exact State.toHost_accessed _ _ (State.when_accessed traced fun _ => State.raiseLd_accessed _ _ _)
    · exact State.emit_accessed _ traced
    · exact State.withHome_accessed _ traced

/-! ### The head of a queue -/

theorem State.serveNone_accessed (q : QReq) (mv : MetaVal) (h : o.Accessed s) : o.Accessed (s.serveNone q mv).1 := by
  have discarded := State.discardLine_accessed ((s.metaOut (lnPage q.line)).getD 0) q.line h
  unfold State.serveNone
  split
  case h_1 | h_2 | h_3 => exact State.answerRead_accessed q .notServed mv h
  case h_4 | h_5 => exact State.answerCmp_accessed q mv true discarded
  case h_6 => exact State.answerAtomic_accessed q 0 true false h
  case h_7 | h_8 => exact State.answerCmp_accessed q mv false h
  all_goals exact h

/-- A write that has ended is noted for its logical device and answered. -/
theorem State.answerWrite_accessed (q : QReq) (mv : MetaVal) {w : State × WriteGot} (h : o.Accessed w.1) :
    o.Accessed (if w.2 == .wait then (w.1, false) else ((w.1.actWrite q.who).answerCmp q mv (w.2 == .discarded), true)).1 := by
  split
  · exact h
  · exact State.answerCmp_accessed _ _ _ (State.actWrite_accessed _ h)

theorem State.serveLine_accessed (q : QReq) (mv : MetaVal) (h : o.Accessed s) : o.Accessed (s.serveLine q mv).1 := by
  unfold State.serveLine
  generalize s.notePath q = q
  dsimp only
  split
  · exact State.serveNone_accessed _ _ h
  · split
    case h_1 | h_2 | h_3 => exact State.answerRead_accessed _ _ _ (State.readData_accessed _ _ h)
    case h_4 =>
      refine State.answerWrite_accessed q mv ?_
      split
      · exact State.writePoison_accessed _ h
      · exact State.writeFull_accessed _ _ h
    case h_5 =>
      refine State.answerWrite_accessed q mv ?_
      split
      · exact State.writePoison_accessed _ h
      · exact State.writePart_accessed _ _ _ _ h
    case h_6 | h_7 => exact State.answerCmp_accessed _ _ _ h
    case h_8 op size off a b _ =>
      have done := State.atomicAt_accessed q.line op size off a.toNat b.toNat q.who h
      generalize s.atomicAt q.line op size off a.toNat b.toNat q.who = r at done ⊢
      split
      · exact done
      · exact State.answerAtomic_accessed _ _ _ _ (State.actWrite_accessed _ done)
      · exact State.answerAtomic_accessed _ _ _ _ done
      · exact State.answerAtomic_accessed _ _ _ _ done
    all_goals exact h

theorem State.setReq_accessed (q : QReq) (h : o.Accessed s) : o.Accessed (s.setReq q) := State.withHome_accessed _ h

theorem State.popReq_accessed (q : QReq) (h : o.Accessed s) : o.Accessed (s.popReq q) :=
  State.accessed_of_same (by simp [State.popReq_keeps]) h

theorem State.sendSnoops_accessed (q : QReq) (l : List (Nat × Nat)) (wasE : Bool) (owner : List Nat) (guarded : Bool)
    (h : o.Accessed s) : o.Accessed (s.sendSnoops q l wasE owner guarded).1 :=
  State.accessed_of_same (by simp [State.sendSnoops_keeps]) h

theorem State.sfGo_accessed {line : Nat} {n : SfNext} {t : State} (moved : s.sfGo line n = some t) (h : o.Accessed s) :
    o.Accessed t :=
  State.accessed_of_same (by simp [State.sfGo_keeps _ _ _ moved]) h

theorem State.loseLine_accessed (line : Nat) (h : o.Accessed s) : o.Accessed (s.loseLine line).1 := by
  have poisoned := State.writePoison_accessed line h
  unfold State.loseLine
  dsimp only
  split
  · exact poisoned
  · exact State.accessed_of_same (s := (s.writePoison line).1) (by simp [State.sfDrop_keeps]) poisoned

theorem State.guardEvent_accessed (line : Nat) (h : o.Accessed s) : o.Accessed (s.guardEvent line) := by
  unfold State.guardEvent
  dsimp only
  split
  · exact State.raise_accessed _ (State.withHome_accessed _ h)
  · exact h

theorem State.writtenBack_accessed (line : Nat) (r : Option Nat) (w : Want) (h : o.Accessed s) :
    o.Accessed (s.writtenBack line r w) :=
  State.accessed_of_same (by simp [State.writtenBack_keeps]) h

/-- A head that has ended leaves its queue; one that has not stays. -/
theorem State.ended_accessed (q : QReq) {r : State × Bool} (h : o.Accessed r.1) :
    o.Accessed (if r.2 then (r.1.popReq q, true) else (r.1, false)).1 := by
  split
  · exact State.popReq_accessed _ h
  · exact h

theorem State.goCoherent_accessed (line : Nat) (q : QReq) (h : o.Accessed s) : o.Accessed (s.goCoherent line q).1 := by
  unfold State.goCoherent
  extract_lets e r w own guarded sn owned n refused
  split
  · exact State.loseLine_accessed _ h
  · split
    · exact State.sendSnoops_accessed _ _ _ _ _ h
    · split
      · exact h
      next t moved =>
        extract_lets served
        have served_accessed : o.Accessed served.1 := State.serveLine_accessed _ _ (State.sfGo_accessed moved h)
        split
        · refine State.popReq_accessed _ (State.writtenBack_accessed _ _ _ (State.when_accessed served_accessed ?_))
          exact fun t ht => State.guardEvent_accessed _ (State.count_accessed _ _ _ ht)
        · exact State.serveLine_accessed _ _ h

theorem State.callFor_accessed (line : Nat) (h : o.Accessed s) : o.Accessed (s.callFor line) :=
  State.accessed_of_same (by simp [State.callFor_keeps]) h

theorem State.stepHead_accessed (line : Nat) (h : o.Accessed s) : o.Accessed (s.stepHead line).1 := by
  unfold State.stepHead
  split
  · exact h
  next q _ =>
    extract_lets v q' write lost
    have v_accessed : o.Accessed v := State.setReq_accessed _ h
    have write_accessed : o.Accessed write.1 := State.writePoison_accessed _ v_accessed
    have lost_accessed : o.Accessed lost.1 := State.loseLine_accessed _ v_accessed
    have popped := State.popReq_accessed q' v_accessed
    clear_value v q' write lost
    split
    · exact v_accessed
    · split
      · split
        · exact v_accessed
        · exact State.setReq_accessed _ (State.touch_accessed _ v_accessed)
      · split
        case h_1 =>
          split
          · split
            · exact write_accessed
            · exact State.popReq_accessed _ write_accessed
          · split
            · exact State.sendSnoops_accessed _ _ _ _ _ v_accessed
            · exact popped
        case h_2 =>
          split
          · exact State.ended_accessed _ lost_accessed
          · split
            · split
              · dsimp only
                split
                · exact State.sendSnoops_accessed _ _ _ _ _ v_accessed
                · exact popped
              · exact popped
            · split
              · dsimp only
                split
                next moved => exact State.popReq_accessed _ (State.sfGo_accessed moved v_accessed)
                next => exact popped
              · exact popped
        case h_3 =>
          split
          · exact State.callFor_accessed _ v_accessed
          · split
            · exact State.ended_accessed _ (State.serveLine_accessed _ _ v_accessed)
            · exact State.goCoherent_accessed _ _ v_accessed

theorem State.runLines_accessed (n : Nat) (l : List Nat) (h : o.Accessed s) : o.Accessed (s.runLines n l) := by
  fun_induction State.runLines n l s
  case case1 | case2 => exact h
  all_goals next ih => exact ih (State.stepHead_accessed _ h)

/-! ### Requests that go on -/

theorem State.sample_accessed (p : Nat) (h : o.Accessed s) : o.Accessed (s.sample p) := by
  unfold State.sample
  split
  · exact State.setEntry_accessed _ _ (State.accessed_of_same (by simp [State.sampleAge_keeps]) h)
  · exact h

theorem State.portCycle_accessed (hs : Nat) (h : o.Accessed s) : o.Accessed (s.portCycle hs) :=
  State.accessed_of_same (by simp [State.portCycle_keeps]) h

theorem State.enqueue_accessed (q : QReq) (tr : TrackerKind) (h : o.Accessed s) : o.Accessed (s.enqueue q tr) := by
  unfold State.enqueue
  extract_lets hs miss wait q' isWb snooped touched sampled counted coherent cycled
  have touched_accessed : o.Accessed touched := by
    dsimp only [touched]
    split
    · exact h
    · exact State.touch_accessed _ h
  have coherent_accessed : o.Accessed coherent :=
    State.when_accessed (State.count_accessed _ _ _ (State.when_accessed touched_accessed fun _ => State.sample_accessed _))
      fun _ => State.count_accessed _ _ _
  exact State.runLines_accessed _ _ (State.withHome_accessed _ (State.portCycle_accessed _ coherent_accessed))

theorem State.useCredit_accessed (hs : Nat) (c : ReqClass) (h : o.Accessed s) : o.Accessed (s.useCredit hs c) := by
  unfold State.useCredit
  split
  · exact h
  · split
    · exact State.withHome_accessed _ h
    · exact State.enqueue_accessed _ _ (State.withHome_accessed _ h)

theorem State.takeIn_accessed (q : QReq) (cred : Bool) (h : o.Accessed s) : o.Accessed (s.takeIn q cred) := by
  unfold State.takeIn
  extract_lets hs c credit asked
  split
  · exact State.enqueue_accessed _ _ h
  · split
    · split
      · exact State.enqueue_accessed _ _ (State.withHome_accessed _ h)
      · split
        · exact State.enqueue_accessed _ _ h
        · exact h
    · split
      · exact State.enqueue_accessed _ _ h
      · refine State.when_accessed (State.withHome_accessed _ ?_) fun _ => State.useCredit_accessed _ _
        exact State.emit_accessed _ (State.count_accessed _ _ _ h)

theorem State.readmit_accessed (n : Nat) (h : o.Accessed s) : o.Accessed (s.readmit n) := by
  fun_induction State.readmit n s
  case case3 ih => exact ih (State.takeIn_accessed _ _ (State.withHome_accessed _ h))
  all_goals exact h

theorem State.runOn_accessed (lines : List Nat) (h : o.Accessed s) : o.Accessed (s.runOn lines) :=
  State.readmit_accessed _ (State.runLines_accessed _ _ h)

theorem State.runAll_accessed (h : o.Accessed s) : o.Accessed s.runAll := State.runOn_accessed _ h

/-! ### Pages and blocks that go -/

theorem State.unlockPage_accessed (p : Nat) (f : PageEntry → PageEntry) (h : o.Accessed s) : o.Accessed (s.unlockPage p f) := by
  refine State.runOn_accessed _ (State.when_accessed ?_ fun _ => State.leafLost_accessed _ _)
  exact State.each_accessed _ (State.setEntry_accessed _ _ (State.withMem_accessed _ h)) fun _ _ => State.nodeLost_accessed _ _ _

theorem State.abandon_accessed (p : Nat) (h : o.Accessed s) : o.Accessed (s.abandon p) := by
  unfold State.abandon
  split
  · exact h
  · exact State.unlockPage_accessed _ _ (State.dropDest_accessed _ _ (State.when_accessed h fun _ => State.withTier_accessed _))

/-- The pages that a quarantined channel gives up leave the channels as they were (R201). -/
theorem State.giveUp_accessed (c : Nat) (h : o.Accessed s) : o.Accessed (s.giveUp c) := by
  refine State.each_accessed _ h fun t p ht => State.setEntry_accessed _ _ (State.poisonPage_accessed _ _ ?_)
  split
  · exact State.abandon_accessed _ ht
  · exact ht

/-- The metadata blocks that leave a channel leave the channels as they were (R202). -/
theorem State.moveMeta_accessed (c : Nat) (h : o.Accessed s) : o.Accessed (s.moveMeta c) := by
  refine State.each_accessed _ h fun t x ht => ?_
  split
  · exact ht
  · exact State.withAmap_accessed _ (State.accessed_of_same (by simp [State.useRun_keeps, State.freeRunOf_keeps])
      (State.emptyMcache_accessed ht))

end Accessed

end Sys2Proof.Machine
end

section
/-! SUPPORT. Writes of a channel's command registers, DDRC.SVC and DDRP.CMD (R209, R212): what their storing leaves, and what the
operations of a command read of the channel. -/

namespace Sys2Proof.Machine

/-! ### A channel after an operation -/

@[simp] theorem State.onChan_chan (s : State) (c k : Nat) (f : Channel → Channel) :
    (s.onChan c f).chan k = if k = c then f (s.chan k) else s.chan k := by
  by_cases same : k = c
  · subst same; simp [State.chan, State.onChan]
  · simp [State.chan, State.onChan, same]

/-- What an operation on a channel leaves of it. -/
theorem State.onChan_kept {α : Type} (g : Channel → α) {s : State} {c : Nat} {f : Channel → Channel}
    (kept : ∀ ch, g (f ch) = g ch) (k : Nat) : g ((s.onChan c f).chan k) = g (s.chan k) := by
  rw [State.onChan_chan]
  split
  · exact kept _
  · rfl

@[simp] theorem State.onChan_ret (s : State) (c : Nat) (f : Channel → Channel) : (s.onChan c f).ret = s.ret := rfl

theorem State.chan_of_ddr {s t : State} (e : t.ddr = s.ddr) (k : Nat) : t.chan k = s.chan k := by rw [State.chan, e, State.chan]

@[simp] theorem State.reach_chan (s : State) (t k : Nat) : (s.reach t).chan k = s.chan k :=
  State.chan_of_ddr (by simp [State.reach_keeps]) k
@[simp] theorem State.raise_chan (s : State) (e : Ev) (k : Nat) : (s.raise e).chan k = s.chan k :=
  State.chan_of_ddr (by simp [State.raise_keeps]) k
@[simp] theorem State.raiseChan_chan (s : State) (c k en code : Nat) (detail : List Nat) (j : Nat) :
    (s.raiseChan c k en code detail).chan j = s.chan j :=
  State.chan_of_ddr (by simp [State.raiseChan_keeps]) j
@[simp] theorem State.storeRepairs_chan (s : State) (c : Nat) (l : List RepairRec) (k : Nat) :
    (s.storeRepairs c l).chan k = s.chan k :=
  State.chan_of_ddr (by simp [State.storeRepairs_keeps]) k
@[simp] theorem State.finish_chan (s : State) (m : Master) (k : Nat) : (s.finish m).chan k = s.chan k :=
  State.chan_of_ddr (by simp [State.finish_keeps]) k
@[simp] theorem State.dropLines_chan (s : State) (c k : Nat) : (s.dropLines c).chan k = s.chan k := rfl
@[simp] theorem State.settleAll_chan (s : State) (k : Nat) : s.settleAll.chan k = s.chan k :=
  State.chan_of_ddr (by simp [State.settleAll_keeps]) k
@[simp] theorem State.loadTimings_chan (s : State) (c v k : Nat) : (s.loadTimings c v).chan k = s.chan k :=
  State.chan_of_ddr (by simp [State.loadTimings_keeps]) k
@[simp] theorem State.dimmRefused_chan (s : State) (c cause slot k : Nat) : (s.dimmRefused c cause slot).chan k = s.chan k :=
  State.chan_of_ddr (by simp [State.dimmRefused_keeps]) k
@[simp] theorem State.ddrpResult_chan (s : State) (c r k : Nat) :
    (s.ddrpResult c r).chan k = if k = c then { s.chan k with ddrpResult := r } else s.chan k := s.onChan_chan ..
@[simp] theorem State.svcResult_chan (s : State) (c r k : Nat) :
    (s.svcResult c r).chan k = if k = c then { s.chan k with svcResult := r } else s.chan k := s.onChan_chan ..
@[simp] theorem State.setMir_chan (s : State) (ev : Nat) (m : MirState) (k : Nat) :
    (s.setMir ev m).chan k = if k = ev then { s.chan k with mir := m } else s.chan k := s.onChan_chan ..

/-! ### Storing a command -/

/-- A state in which a write of a command register has stored its fields, beside the state before it: the channels, the retained
store, the memories and every other register are as they were. -/
structure State.Stored (off : Nat) (s w : State) : Prop where
  ddr : w.ddr = s.ddr
  ret : w.ret = s.ret
  mem : w.mem = s.mem
  amap : w.amap = s.amap
  words : ∀ x, x ≠ off → w.activeWord x = s.activeWord x

theorem State.activeWord_of_regs {s t : State} (active : t.regs.active = s.regs.active) (ret : t.ret = s.ret) (x : Nat) :
    t.activeWord x = s.activeWord x := by
  have backing : ∀ r, t.backing x r = s.backing x r := fun r => by rw [State.backing, ret, State.backing]
  simp only [State.activeWord, active, backing]

/-- What changes neither the channels, the retained store, the memories nor an active word stores nothing. -/
theorem State.Stored.of_same {off : Nat} {s t : State}
    (h : t.ddr = s.ddr ∧ t.ret = s.ret ∧ t.mem = s.mem ∧ t.amap = s.amap ∧ t.regs.active = s.regs.active) :
    State.Stored off s t := by
  obtain ⟨ddr, ret, mem, amap, active⟩ := h
  exact ⟨ddr, ret, mem, amap, fun x _ => State.activeWord_of_regs active ret x⟩

theorem State.Stored.trans {off : Nat} {s t u : State} (h : State.Stored off s t) (g : State.Stored off t u) :
    State.Stored off s u :=
  ⟨g.ddr.trans h.ddr, g.ret.trans h.ret, g.mem.trans h.mem, g.amap.trans h.amap, fun x hx => (g.words x hx).trans (h.words x hx)⟩

theorem State.met_stored (s : State) (m : Master) (off : Nat) : State.Stored off s (s.met m off) := by
  have arrived : State.Stored off s (s.arrives m) := by
    cases m with
    | host ld =>
      obtain ⟨L, heard⟩ := s.heard_eq ld.val
      rw [State.arrives, heard]
      exact .of_same ⟨rfl, rfl, rfl, rfl, rfl⟩
    | bmc | core c => exact .of_same ⟨rfl, rfl, rfl, rfl, rfl⟩
  refine arrived.trans ?_
  rw [State.met, State.afterChange]
  split
  · split
    · exact .of_same (by simp [State.reach_keeps])
    · exact .of_same ⟨rfl, rfl, rfl, rfl, rfl⟩
  · exact .of_same ⟨rfl, rfl, rfl, rfl, rfl⟩

/-- A write of a register with no field that a write sets stores nothing (R12). -/
theorem State.storeWrite_unset (s : State) {off : Nat} (val : Word) (who : Option Master) {R : Reg} (found : regAt off = some R)
    (unset : ∀ f ∈ R.fields, f.acc = .wo ∨ f.acc = .ro) (inactive : s.activeSet off = false) : s.storeWrite off val who = s := by
  unfold State.storeWrite
  rw [found]
  dsimp only
  generalize legal : R.fields.filter (fun f => legalValue off f (fieldOf val f.lo f.w)) = ok
  have none_of : ∀ p : Field → Bool, (∀ f, f.acc = .wo ∨ f.acc = .ro → p f = false) → ok.filter p = [] := by
    refine fun p refused => List.filter_eq_nil_iff.2 fun f mem => ?_
    simp [refused f (unset f (List.mem_of_mem_filter (legal ▸ mem)))]
  have rw_none := none_of (fun f => f.acc == .rw || f.acc == .rws) (by rintro f (h | h) <;> simp [h])
  have rw1c_none := none_of (fun f => f.acc == .rw1c) (by rintro f (h | h) <;> simp [h])
  have rwp_none := none_of Field.isRwp (by rintro f (h | h) <;> simp [Field.isRwp, h])
  rw [rw_none, rw1c_none, rwp_none]
  split
  · rfl
  · simp [inactive, State.when, maskOf]

/-- What is stored of a write that passes the checks (R544). -/
theorem State.written_stored (s : State) (m : Master) (off : Nat) (v : Word)
    (stores : ∀ t : State, State.Stored off t (t.storeWrite off v (some m))) : State.Stored off s (s.written m off v) := by
  refine ((s.met_stored m off).trans ?_).trans (stores _)
  refine State.Stored.trans (t := ((s.met m off).countAccess off).usedAt off) (.of_same ?_) ?_
  · simp [State.countAccess_keeps, State.usedAt_keeps]
  · obtain ⟨l, touched⟩ := (((s.met m off).countAccess off).usedAt off).touchLock_regs m (off / 4096)
    rw [touched]
    exact .of_same ⟨rfl, rfl, rfl, rfl, rfl⟩

theorem svc_found : ∀ c : Fin 16,
    (regAt (svcOff c.val)).any (fun r => r.fields.all fun f => f.acc == .wo || f.acc == .ro) = true := by
  decide

theorem ddrp_found : ∀ c : Fin 16, kindOf (ddrpOff c.val / 4096) ≠ .kDdrc ∧
    (regAt (ddrpOff c.val)).any (fun r => r.fields.all fun f => !f.isRwp && f.cls == .l) = true := by
  decide

theorem State.written_svc (s : State) (m : Master) (c : Fin 16) (v : Word) :
    State.Stored (svcOff c.val) s (s.written m (svcOff c.val) v) := by
  obtain ⟨R, found, unset⟩ := (Option.any_eq_true _ _).1 (svc_found c)
  have low : svcOff c.val % 4096 = 0x90 := by unfold svcOff; omega
  refine s.written_stored m _ v fun t => ?_
  rw [t.storeWrite_unset v _ found (by simpa using unset) (by simp [State.activeSet, low])]
  exact .of_same ⟨rfl, rfl, rfl, rfl, rfl⟩

theorem State.written_ddrp (s : State) (m : Master) (c : Fin 16) (v : Word) :
    State.Stored (ddrpOff c.val) s (s.written m (ddrpOff c.val) v) := by
  obtain ⟨other, any⟩ := ddrp_found c
  obtain ⟨R, found, plain⟩ := (Option.any_eq_true _ _).1 any
  refine s.written_stored m _ v fun t => ?_
  rcases t.storeWrite_atOnce v (some m) found (by simpa using plain) (by simpa using other) with stored | ⟨w, stored⟩
  · rw [stored]
    exact .of_same ⟨rfl, rfl, rfl, rfl, rfl⟩
  · rw [stored]
    refine ⟨rfl, rfl, rfl, rfl, fun x hx => t.setReg_activeWord w ?_⟩
    omega

section Stored
variable {off : Nat} {s w : State}

theorem State.Stored.chan (h : State.Stored off s w) (k : Nat) : w.chan k = s.chan k := State.chan_of_ddr h.ddr k

theorem State.Stored.cfg (h : State.Stored off s w) {p x : Nat} (other : p * 4096 + x ≠ off) (lo n : Nat) :
    w.cfg p x lo n = s.cfg p x lo n := by
  rw [State.cfg, h.words _ other, State.cfg]

end Stored

/-- A channel's repair records are in the retained store (R197). -/
theorem State.repairs_of_ret {s t : State} (ret : t.ret = s.ret) (c : Nat) : t.repairs c = s.repairs c := by
  have future : ∀ k, t.futureWord k = s.futureWord k := fun k => by simp only [State.futureWord, State.retWord, ret]
  simp only [State.repairs, future]

/-! ### Commands -/

/-- A command of DDRC.SVC that passes every check has its effect and answers its master. -/
theorem Completes.of_svc {s : State} {m : Master} {c : Fin 16} {j : Instr} {v : Word} {act : State → State} {P : State → Prop}
    (h : s.accepts m (svcOff c.val) = true) (command : exec j s = .next (s.gate m (svcOff c.val) v act))
    (effect : ∀ w : State, State.Stored (svcOff c.val) s w → P ((act w).finish m)) : Completes j s P := by
  refine .of_exec command ?_
  rw [State.gate_accepts _ _ _ _ _ h]
  exact effect _ (s.written_svc m c v)

/-- A command of DDRP.CMD that passes every check has its effect and answers its master. -/
theorem Completes.of_ddrp {s : State} {m : Master} {c : Fin 16} {j : Instr} {v : Word} {act : State → State} {P : State → Prop}
    (h : s.accepts m (ddrpOff c.val) = true) (command : exec j s = .next (s.gate m (ddrpOff c.val) v act))
    (effect : ∀ w : State, State.Stored (ddrpOff c.val) s w → P ((act w).finish m)) : Completes j s P := by
  refine .of_exec command ?_
  rw [State.gate_accepts _ _ _ _ _ h]
  exact effect _ (s.written_ddrp m c v)

end Sys2Proof.Machine
end

section
/-! SUPPORT. The service of a channel: discovery, drains and what leaves a drained channel (R170, R171, R201-R204). -/

namespace Sys2Proof.Machine

/-! ### Discovery -/

theorem State.disableChan_done (s : State) (c cause slot : Nat) :
    ((s.disableChan c cause slot).chan c).st = .disabled ∧ ((s.disableChan c cause slot).chan c).cause = cause := by
  simp [State.disableChan]

theorem State.discover_unused {s : State} {c : Nat} (off : s.cfgBit (chanPage c 0) 0x80 12 = false) (a b : Option Spd) (back : Bool) :
    ((s.discover c a b back).chan c).st = .disabled := by
  simp [State.discover, off]

theorem State.discover_refused {s : State} {c : Nat} {a b : Option Spd} (on : s.cfgBit (chanPage c 0) 0x80 12 = true)
    (refused : (discoverCauses a b).2.2 ≠ 0) (back : Bool) :
    ((s.discover c a b back).chan c).st = .disabled ∧ ((s.discover c a b back).chan c).cause = (discoverCauses a b).2.2 := by
  simp only [State.discover, on, Bool.not_true, Bool.false_eq_true, if_false, if_pos refused]
  exact State.disableChan_done ..

/-- A channel that discovery finds no cause against trains from step 1, or has no speed (R170, R174). -/
theorem State.discover_accepted {s : State} {c : Nat} {a b : Option Spd} (on : s.cfgBit (chanPage c 0) 0x80 12 = true)
    (accepted : (discoverCauses a b).2.2 = 0) (back : Bool) :
    (((s.discover c a b back).chan c).st = .training ∧ ((s.discover c a b back).chan c).returning = back ∧
      ((s.discover c a b back).chan c).step = 1) ∨
    (((s.discover c a b back).chan c).st = .disabled ∧ ((s.discover c a b back).chan c).cause = 6) := by
  unfold State.discover
  simp only [on, Bool.not_true, Bool.false_eq_true, if_false, accepted, ne_eq, not_true_eq_false]
  split
  · exact .inr (State.disableChan_done ..)
  · have refusal : ∀ (t : State) (q : Bool) (cause slot : Nat), (t.when q fun t => t.dimmRefused c cause slot).chan c = t.chan c :=
      fun t q cause slot => t.when_inv (fun t : State => t.chan c) q _ fun _ => by simp
    exact .inl (by simp [refusal])

/-! ### Drains -/

theorem State.copyWalk_st (s : State) (c k : Nat) : ((s.copyWalk c).chan k).st = (s.chan k).st :=
  (State.copyWalk_accessed c (.refl s)).chan k Channel.st fun _ => rfl

/-- A channel that leaves its pair's service changes the pair's state, not its own (R199). -/
theorem State.mirrorLost_st (s : State) (c k : Nat) : ((s.mirrorLost c).chan k).st = (s.chan k).st := by
  rw [← s.copyWalk_st c k]
  unfold State.mirrorLost
  extract_lets ev even go out walked say
  have go_st : ∀ (t : State) (m : MirState), ((go t m).chan k).st = (t.chan k).st := fun t m =>
    State.onChan_kept Channel.st (f := fun ch => { ch with mir := m }) (fun _ => rfl) k
  have out_st : ∀ (t : State) (m : MirState), ((out t m).chan k).st = (t.chan k).st :=
    fun t m => (State.onChan_kept Channel.st (f := fun ch => { ch with soloAt := t.now }) (fun _ => rfl) k).trans (go_st t m)
  have say_st : ∀ t : State, ((say t).chan k).st = (t.chan k).st := fun t => congrArg Channel.st (State.raise_chan ..)
  split
  · rfl
  · rfl
  · exact (say_st _).trans (out_st _ _)
  · split
    · exact go_st _ _
    · rfl
  · split
    · rfl
    · exact go_st _ _
  · exact (say_st _).trans (go_st _ _)
  · exact (say_st _).trans (go_st _ _)

theorem State.drained_st (s : State) (c : Nat) : ((s.drained c).chan c).st = .drained := by
  unfold State.drained
  rw [State.raise_chan]
  refine (State.when_inv (fun t : State => (t.chan c).st) _ _ _ fun t => t.mirrorLost_st c c).trans ?_
  simp

/-- The pages that remain on a channel depend on the pages, the sets and the pairs' states (R202). -/
theorem State.pagesLeft_of_same {s t : State} (mem : t.mem = s.mem) (amap : t.amap = s.amap)
    (mir : ∀ k, (t.chan k).mir = (s.chan k).mir) (c : Nat) : t.pagesLeft c = s.pagesLeft c := by
  have set : ∀ i, t.set i = s.set i := fun i => by rw [State.set, amap, State.set]
  have entry : ∀ p, t.entry p = s.entry p := fun p => by
    rw [State.entry, State.page, State.ext, mem, amap, State.entry, State.page, State.ext]
  have whereIs : ∀ p, t.whereIs p = s.whereIs p := fun p => by
    rw [State.whereIs, State.serving, mem, entry, State.whereIs, State.serving]
  have onChanPage : ∀ e, t.onChanPage c e = s.onChanPage c e := fun e => by
    simp only [State.onChanPage, State.inSync, set, mir]
  simp only [State.pagesLeft, mem, onChanPage, whereIs]

theorem State.metaLeft_of_same {s t : State} (amap : t.amap = s.amap) (mir : ∀ k, (t.chan k).mir = (s.chan k).mir) (c : Nat) :
    t.metaLeft c = s.metaLeft c := by
  simp only [State.metaLeft, State.inSync, State.set, amap, mir]

theorem State.onChan_pagesLeft {s : State} {c : Nat} {f : Channel → Channel} (kept : ∀ ch, (f ch).mir = ch.mir) :
    (s.onChan c f).pagesLeft c = s.pagesLeft c :=
  State.pagesLeft_of_same (s := s) (t := s.onChan c f) rfl rfl (State.onChan_kept Channel.mir kept) c

theorem State.svcResult_pagesLeft (s : State) (c r : Nat) : (s.svcResult c r).pagesLeft c = s.pagesLeft c :=
  State.onChan_pagesLeft (f := fun ch => { ch with svcResult := r }) fun _ => rfl

theorem State.finish_pagesLeft (s : State) (m : Master) (c : Nat) : (s.finish m).pagesLeft c = s.pagesLeft c :=
  State.pagesLeft_of_same (by simp [State.finish_keeps]) (by simp) (fun k => by rw [State.finish_chan]) c

theorem State.giveUp_of_none {s : State} {c : Nat} (none : s.pagesLeft c = []) : s.giveUp c = s := by
  simp [State.giveUp, none, State.each]

theorem State.moveMeta_of_none {s : State} {c : Nat} (none : s.metaLeft c = []) : s.moveMeta c = s := by
  simp [State.moveMeta, none, State.each]

theorem State.drainStalled_done (s : State) (c : Nat) :
    ((s.drainStalled c).chan c).st = (s.chan c).st ∧ ((s.drainStalled c).chan c).stalled = true := by
  unfold State.drainStalled State.when
  split
  · simp
  next stalled => exact ⟨rfl, by simpa using stalled⟩

/-- A drain of a quarantined channel whose pages and metadata have left it is done at once; otherwise the channel is marked as
leaving (R201, R202). -/
theorem State.drainCmd_quarantined {s : State} {c : Nat} (st : (s.chan c).st = .quarantined) :
    ((s.drainCmd c).chan c).svcResult = 0 ∧ (((s.drainCmd c).chan c).st = .drained ∨
      (((s.drainCmd c).chan c).st = .quarantined ∧ ((s.drainCmd c).chan c).leaving = true ∧ (s.drainCmd c).pagesLeft c ≠ [])) ∧
    (s.pagesLeft c = [] → s.metaLeft c = [] → ((s.drainCmd c).chan c).st = .drained) := by
  have accessed : s.Accessed ((s.giveUp c).moveMeta c) := State.moveMeta_accessed c (State.giveUp_accessed c (.refl s))
  have stays := (accessed.chan c Channel.st fun _ => rfl).trans st
  simp only [State.drainCmd, st, State.svcResult_chan, if_true]
  generalize moved : ((s.giveUp c).moveMeta c) = v at stays ⊢
  have same : (v.onChan c fun ch => { ch with leaving := true }).pagesLeft c = v.pagesLeft c :=
    State.onChan_pagesLeft (f := fun ch => { ch with leaving := true }) fun _ => rfl
  refine ⟨trivial, ?_, fun pages metas => ?_⟩
  · unfold State.when
    split
    · exact .inl (State.drained_st ..)
    next left =>
      refine .inr ⟨by simpa using stays, by simp, ?_⟩
      rw [State.svcResult_pagesLeft]
      simpa using left
  · rw [State.giveUp_of_none pages, State.moveMeta_of_none metas] at moved
    rw [State.when_pos _ (by rw [same, ← moved, pages]; rfl), State.drained_st]

end Sys2Proof.Machine
end

section
/-! PROOF. The service of a channel. -/

open Sys2Proof Sys2Proof.Machine

/-- Settles O29: a command of DDRC.SVC that passes the checks meets the channels, the memories and DDRC.CFG as they were; giving
up a quarantined channel's pages and moving its metadata leaves its state, and a drain ends where nothing of it is left. -/
theorem channelService : Obligations.ChannelService := by
  refine ⟨fun s m c h st => ?active, fun s m c h st => ?quarantined, fun s m c h notActive notQuarantined => ?other,
    fun s m c h st => ?powerDown, fun s m c a b h st => ?returns, fun s m c h st => ?cancel,
    fun s c drains pages metas => ?ends, fun s c x st pages metas nowhere => ?stalls⟩
  case active =>
    refine .of_svc h rfl fun w stored => ?_
    have st : (w.chan c.val).st = .active := stored.chan c.val ▸ st
    simp [State.drainCmd, st]
  case quarantined =>
    refine .of_svc h rfl fun w stored => ?_
    have mir : ∀ k, (w.chan k).mir = (s.chan k).mir := fun k => by rw [stored.chan]
    obtain ⟨result, state, done⟩ := State.drainCmd_quarantined (s := w) (c := c.val) (stored.chan c.val ▸ st)
    rw [State.pagesLeft_of_same stored.mem stored.amap mir, State.metaLeft_of_same stored.amap mir] at done
    simp only [State.finish_chan, State.finish_pagesLeft]
    exact ⟨result, state, done⟩
  case other =>
    refine .of_svc h rfl fun w stored => ?_
    rw [← stored.chan c.val] at notActive notQuarantined ⊢
    have refused : w.drainCmd c.val = w.svcResult c.val 2 := by
      unfold State.drainCmd
      split <;> simp_all
    simp [refused]
  case powerDown =>
    refine .of_svc h rfl fun w stored => ?_
    have st : (w.chan c.val).st = .drained := stored.chan c.val ▸ st
    simp [State.powerDownCmd, st]
  case returns =>
    refine .of_svc h rfl fun w stored => ?_
    have config : s.cfgBit (chanPage c.val 0) 0x80 12 = w.cfgBit (chanPage c.val 0) 0x80 12 := by
      rw [State.cfgBit, State.cfgBit, stored.cfg (by unfold svcOff; omega)]
    have command : w.returnCmd c.val a b = (w.discover c.val a b true).svcResult c.val 0 := by
      unfold State.returnCmd
      rw [stored.chan c.val]
      rcases st with st | st | st <;> rw [st]
    rw [config, command]
    simp only [State.finish_chan, State.svcResult_chan, if_true]
    exact ⟨trivial, fun off => State.discover_unused off a b true, fun on refused => State.discover_refused on refused true,
      fun on accepted => State.discover_accepted on accepted true⟩
  case cancel =>
    refine .of_svc h rfl fun w stored => ?_
    have st : (w.chan c.val).st = .draining := stored.chan c.val ▸ st
    simp [State.svcCancelCmd, st]
  case ends =>
    refine .of_exec (t := s.drained c.val) ?_ (State.drained_st ..)
    change Host.Outcome.next _ = _
    rw [State.when_pos _ (by simp [drains, pages]), State.endDrain, State.moveMeta_of_none metas, if_pos metas]
  case stalls =>
    have moved : s.moveMeta c.val = s := by simp [State.moveMeta, metas, State.each, nowhere]
    refine .of_exec (t := s.drainStalled c.val) ?_ ?_
    · change Host.Outcome.next _ = _
      rw [State.when_pos _ (by simp [State.drains, st, pages]), State.endDrain, moved, if_neg (by simp [metas])]
    · obtain ⟨same, stalled⟩ := s.drainStalled_done c.val
      exact ⟨same.trans st, stalled⟩
end

section
/-! SUPPORT. The sparing and repair unit of a channel: its jobs, its retained records, and what follows a stall (R192, R195-R199,
R206, R308). -/

namespace Sys2Proof.Machine

theorem listed_wipe_same {α : Type} (t : Table α) (k : Nat) : listed (wipe t k) k = false := by
  induction t with
  | nil => rfl
  | cons e t ih =>
    by_cases same : e.1 = k
    · simpa [wipe, same] using ih
    · simpa [wipe, listed, same] using ih

/-! ### Retained writes -/

/-- The word that a retained write stores, and its new value (R458). -/
def RetWrite.word (w : RetWrite) : Nat × Word := (w.key, w.val)

theorem RetWrite.word_mk (k : Nat) (v : Word) (who : Option Master) (t : Nat) : RetWrite.word ⟨k, v, who, t⟩ = (k, v) := rfl

/-- Two retained stores that differ in when their queued writes were queued. -/
structure State.WritesAlike (s t : State) : Prop where
  words : t.ret.words = s.ret.words
  wear : t.ret.wear = s.ret.wear
  ue : t.ret.ue = s.ret.ue
  queue : t.ret.queue.map RetWrite.word = s.ret.queue.map RetWrite.word

section WritesAlike
variable {s t : State}

theorem State.WritesAlike.queued (h : s.WritesAlike t) (k : Nat) :
    t.ret.queue.any (fun w => w.key == k) = s.ret.queue.any (fun w => w.key == k) := by
  have of_words : ∀ l : List RetWrite, l.any (fun w => w.key == k) = (l.map RetWrite.word).any (fun x => x.1 == k) := fun l => by
    rw [List.any_map]; rfl
  rw [of_words, of_words, h.queue]

/-- What a word will hold does not depend on when its writes were queued (R459). -/
theorem State.WritesAlike.futureWord (h : s.WritesAlike t) (k : Nat) : t.futureWord k = s.futureWord k := by
  have performed : ∀ (l : List RetWrite) (a : Table Word × Table Nat),
      l.foldl (fun a w => performWrite (factoryWord w.key) a.1 a.2 w.key w.val) a =
      (l.map RetWrite.word).foldl (fun a x => performWrite (factoryWord x.1) a.1 a.2 x.1 x.2) a := fun l a => by
    rw [List.foldl_map]; rfl
  simp only [State.futureWord, State.retWord, h.words, h.wear, h.ue, h.queued, performed, h.queue]

/-- A write of a retained word is queued alike. -/
theorem State.WritesAlike.retWrite (h : s.WritesAlike t) (k : Nat) (v : Word) (who : Option Master) :
    (s.retWrite k v who).WritesAlike (t.retWrite k v who) := by
  have before : ∀ l : List RetWrite, (l.takeWhile fun e => e.key == 0xA08).map RetWrite.word =
      (l.map RetWrite.word).takeWhile fun x => x.1 == 0xA08 := fun l => by rw [List.takeWhile_map]; rfl
  have after : ∀ l : List RetWrite, (l.dropWhile fun e => e.key == 0xA08).map RetWrite.word =
      (l.map RetWrite.word).dropWhile fun x => x.1 == 0xA08 := fun l => by rw [List.dropWhile_map]; rfl
  have queue := h.queue
  simp only [State.retWrite, h.futureWord, h.ue, h.queued]
  split
  · exact h
  · refine ⟨h.words, h.wear, rfl, ?_⟩
    simp only [State.withRet_ret]
    cases hs : s.ret.queue with
    | nil => cases ht : t.ret.queue with
      | nil => rfl
      | cons f r => simp [hs, ht] at queue
    | cons f r => cases ht : t.ret.queue with
      | nil => simp [hs, ht] at queue
      | cons f' r' =>
        simp only [hs, ht, List.map_cons, List.cons.injEq] at queue
        obtain ⟨first, rest⟩ := queue
        dsimp only
        split <;> simp [before, after, first, rest, RetWrite.word_mk]

theorem State.WritesAlike.storeRepairs (h : s.WritesAlike t) (c : Nat) (l : List RepairRec) :
    (s.storeRepairs c l).WritesAlike (t.storeRepairs c l) := by
  unfold State.storeRepairs State.each
  generalize upTo 32 = slots
  induction slots generalizing s t with
  | nil => exact h
  | cons i slots ih => exact ih ((h.retWrite _ _ _).retWrite _ _ _)

/-- What one store queues, the other does. -/
theorem State.WritesAlike.mem (h : s.WritesAlike t) {w : RetWrite} (queued : w ∈ s.ret.queue) :
    ∃ x ∈ t.ret.queue, x.key = w.key ∧ x.val = w.val := by
  have word : w.word ∈ t.ret.queue.map RetWrite.word := h.queue ▸ List.mem_map_of_mem queued
  obtain ⟨x, queued, same⟩ := List.mem_map.1 word
  obtain ⟨key, val⟩ := Prod.mk.inj same
  exact ⟨x, queued, key, val⟩

end WritesAlike

theorem State.WritesAlike.of_ret {s t : State} (h : t.ret = s.ret) : s.WritesAlike t := by
  refine ⟨?_, ?_, ?_, ?_⟩ <;> rw [h]

/-- The retained writes of repair records do not depend on the channels. -/
theorem State.storeRepairs_onChan (s : State) (c k : Nat) (f : Channel → Channel) (l : List RepairRec) :
    (s.onChan k f).storeRepairs c l = (s.storeRepairs c l).onChan k f := by
  have retWrite : ∀ (t : State) (i : Nat) (v : Word), (t.onChan k f).retWrite i v none = (t.retWrite i v none).onChan k f := by
    intro t i v
    unfold State.retWrite
    dsimp only
    rw [apply_ite (State.onChan · k f)]
    rfl
  unfold State.storeRepairs State.each
  generalize upTo 32 = slots
  induction slots generalizing s with
  | nil => rfl
  | cons i slots ih => simp only [List.foldl_cons, retWrite, ih]

/-! ### Jobs -/

/-- A soft repair of a row starts where the channel does nothing else, has no repaired row in that bank and a record is free. -/
theorem State.startRepair_soft {s : State} {c : Nat} {r : RepairRec} (job : (s.chan c).job = none) (still : (s.chan c).still = false)
    (owed : (s.chan c).fctlOwed = false) (bank : (s.chan c).repaired.any r.sameBank = false) (room : (s.repairs c).length < 32) :
    s.startRepair c (.soft r) = s.onChan c (fun ch => { ch with job := some (.soft r), ddrpResult := 0 }) := by
  have full : ¬ 32 ≤ (s.repairs c).length := by omega
  simp [State.startRepair, job, still, owed, bank, full]

/-- With no operation queued, the unit's operation ends. -/
theorem State.nextJob_last {s : State} {c : Nat} (queue : (s.chan c).jobQueue = []) :
    s.nextJob c = s.onChan c (fun ch => { ch with job := none, jobQueue := [] }) := by
  simp [State.nextJob, queue, State.each]

theorem State.leaveRank_accessed {o s : State} (c rank : Nat) (h : o.Accessed s) : o.Accessed (s.leaveRank c rank) :=
  State.onChan_accessed (fun _ => rfl) (State.withMem_accessed _ h)

theorem State.reach_accessed {o s : State} (t : Nat) (h : o.Accessed s) : o.Accessed (s.reach t) :=
  State.accessed_of_same (by simp [State.reach_keeps]) h

theorem State.softDue_accessed {o s : State} (c k end_ : Nat) (h : o.Accessed s) : o.Accessed (s.softDue c k end_) := by
  unfold State.softDue
  refine State.when_accessed h fun t ht => ?_
  exact State.onChan_accessed (fun _ => rfl) (State.nextDue_accessed _ _ (State.reach_accessed _ ht))

theorem State.softStep_accessed {o s : State} (c n : Nat) (r : RepairRec) (h : o.Accessed s) : o.Accessed (s.softStep c n r) := by
  have repaid : ∀ (t : State) (k : Nat), o.Accessed t → o.Accessed (t.repayRank c k) := fun t k ht =>
    State.each_accessed _ ht fun _ _ => State.repayOne_accessed _ _
  exact repaid _ _ (State.each_accessed _ (repaid _ _ h) fun _ _ => State.softDue_accessed _ _ _)

/-- A frequency change leaves the repairs of a channel and the retained store (R190). -/
theorem State.freqChange_repair (s : State) (c : Nat) :
    ((s.freqChange c).chan c).repaired = (s.chan c).repaired ∧ ((s.freqChange c).chan c).job = (s.chan c).job ∧
      s.ret.queue ⊆ (s.freqChange c).ret.queue := by
  have repaid : s.Accessed ((s.chanTurn c).repayAll c) := State.repayAll_accessed c (State.chanTurn_accessed c (.refl s))
  have kept : ∀ {α : Type} (g : Channel → α), (∀ ch, g ch.service = g ch) →
      (∀ (ch : Channel) b o k, g { ch with fctlBusy := b, fctlOwed := o, copy := k } = g ch) →
      (∀ (ch : Channel) k, g { ch with silver := k } = g ch) → g ((s.freqChange c).chan c) = g (s.chan c) :=
    fun g service copy silver => ((State.onChan_kept g (fun _ => silver _ _) c).trans
      (State.onChan_kept g (fun _ => copy _ _ _ _) c)).trans (repaid.chan c g service)
  exact ⟨kept Channel.repaired (fun _ => rfl) (fun _ _ _ _ => rfl) fun _ _ => rfl,
    kept Channel.job (fun _ => rfl) (fun _ _ _ _ => rfl) fun _ _ => rfl, repaid.writes⟩

/-- The end of a stall on a channel whose repair unit has nothing to do leaves the repairs and the retained writes (R308). -/
theorem State.stallEnd_idle {s : State} {c : Nat} (job : (s.chan c).job = none) (queue : (s.chan c).jobQueue = []) :
    ((s.stallEnd c).chan c).repaired = (s.chan c).repaired ∧ ((s.stallEnd c).chan c).job = none ∧
      s.ret.queue ⊆ (s.stallEnd c).ret.queue := by
  have ran : s.Accessed s.runAll := State.runAll_accessed (.refl s)
  have repaired := ran.chan c Channel.repaired fun _ => rfl
  have job := (ran.chan c Channel.job fun _ => rfl).trans job
  have queue := (ran.chan c Channel.jobQueue fun _ => rfl).trans queue
  have writes := ran.writes
  unfold State.stallEnd
  generalize s.runAll = u at repaired job queue writes ⊢
  dsimp only
  split
  · exact ⟨repaired, job, writes⟩
  · split
    · split
      · obtain ⟨same, idle, more⟩ := u.freqChange_repair c
        exact ⟨same.trans repaired, idle.trans job, fun _ mem => more (writes mem)⟩
      · rw [State.when_pos _ (by simp [job]), State.nextJob_last (by simpa using queue)]
        exact ⟨by simpa using repaired, by simp, writes⟩
    · rw [State.when_pos _ (by simp [job]), State.nextJob_last queue]
      exact ⟨by simpa using repaired, by simp, writes⟩

/-! ### The ends of jobs -/

theorem State.raiseChan_writes (s : State) (c k en code : Nat) (detail : List Nat) :
    s.ret.queue ⊆ (s.raiseChan c k en code detail).ret.queue := (State.raise_accessed _ (.refl s)).writes

/-- A sparing copy that ends has walked the rank, which then takes no command (R192). -/
theorem exec_spareCopyEnd {s : State} {c : Fin 16} {rank : Nat} (job : (s.chan c.val).job = some (.sparing rank))
    (serves : s.serves c.val = true) (going : (s.chan c.val).copy.paused = false) :
    ∃ u, s.Accessed u ∧ exec (.spareCopyEnd c) s = .next
      (((u.onChan c.val fun ch => { ch with spared := some rank, ddrpResult := 0 }).raiseChan c.val 19 4 0 [rank]).nextJob c.val) := by
  let ends := (s.chan c.val).copy.since + ceilDiv (rankBytes (s.chan c.val).rb - (s.chan c.val).copy.done) 4
  refine ⟨((s.reach ends).walkSpare c.val (rankBytes (s.chan c.val).rb)).leaveRank c.val rank,
    State.leaveRank_accessed _ _ (State.walkSpare_accessed _ _ (State.reach_accessed _ (.refl s))), ?_⟩
  change execSpareCopyEnd c s = _
  simp only [execSpareCopyEnd, job]
  rw [State.when_pos _ (by simp [serves, going])]

/-- A soft repair ends: the row is noted as repaired, its record is stored, and the unit is idle (R195-R197). -/
def State.softEnded (s : State) (c n : Nat) (r : RepairRec) : State :=
  let repaired := (s.softStep c n r).onChan c fun ch => { ch with repaired := ch.repaired ++ [r], ddrpResult := 0 }
  ((repaired.storeRepairs c (s.repairs c ++ [r])).raiseChan c 20 4 0 [r.rank, r.row]).onChan c fun ch => { ch with job := none }

theorem exec_softRepairEnd {s : State} {c : Fin 16} {r : RepairRec} (due : Fin 6) (job : (s.chan c.val).job = some (.soft r)) :
    exec (.softRepairEnd ⟨c, due⟩) s = .next ((s.softEnded c.val due.val r).stallEnd c.val) := by
  change execSoftRepairEnd ⟨c, due⟩ s = _
  simp only [execSoftRepairEnd, job, State.softEnded]

theorem State.softEnded_chan (s : State) (c n : Nat) (r : RepairRec) :
    ((s.softEnded c n r).chan c).repaired = (s.chan c).repaired ++ [r] ∧ ((s.softEnded c n r).chan c).job = none ∧
      ((s.softEnded c n r).chan c).jobQueue = (s.chan c).jobQueue := by
  have stepped : s.Accessed (s.softStep c n r) := State.softStep_accessed _ _ _ (.refl s)
  have repaired := stepped.chan c Channel.repaired fun _ => rfl
  have queued := stepped.chan c Channel.jobQueue fun _ => rfl
  simp [State.softEnded, repaired, queued]

/-- The retained writes of a soft repair's record are queued (R195, R458). -/
theorem State.softEnded_writes (s : State) (c n : Nat) (r : RepairRec) {w : RetWrite}
    (queued : w ∈ (s.storeRepairs c (s.repairs c ++ [r])).ret.queue) :
    ∃ x ∈ (s.softEnded c n r).ret.queue, x.key = w.key ∧ x.val = w.val := by
  have ret : ((s.softStep c n r).onChan c fun ch => { ch with repaired := ch.repaired ++ [r], ddrpResult := 0 }).ret = s.ret := by
    simp [State.softStep_keeps]
  obtain ⟨x, stored, word⟩ := ((State.WritesAlike.of_ret ret).storeRepairs c (s.repairs c ++ [r])).mem queued
  exact ⟨x, State.raiseChan_writes _ c 20 4 0 _ stored, word⟩

/-- A hard repair ends: the unit is idle, and the records that are kept are stored (R198). -/
theorem exec_hardRepairEnd {s : State} {c : Fin 16} (ok : BitVec 32) (job : (s.chan c.val).job = some .hard) :
    exec (.hardRepairEnd c ok) s = .next (((s.storeRepairs c.val
      ((((s.repairs c.val).zip (upTo (s.repairs c.val).length)).filter (fun e => !ok.getLsbD e.2)).map (·.1))).onChan c.val
        fun ch => { ch with job := none, ddrpResult := 0 }).raiseChan c.val 20 4 0 []) := by
  change execHardRepairEnd c ok s = _
  simp only [execHardRepairEnd, job, if_true, State.storeRepairs_onChan]

/-- A resilver that is not paused puts its pair in SYNC (R199). -/
theorem exec_resilverEnd {s : State} {c : Fin 16} (way : (s.silverWay c.val).isSome = true)
    (going : (s.chan c.val).silver.paused = false) : ∃ u : State, exec (.resilverEnd c) s = .next (u.setMir c.val .sync) := by
  let ends := (s.chan c.val).silver.since + ceilDiv (s.mirrorBytes c.val - (s.chan c.val).silver.done) 4
  refine ⟨(s.reach ends).walkSilver c.val (s.mirrorBytes c.val), ?_⟩
  change Host.Outcome.next (State.when _ _ _) = _
  rw [State.when_pos _ (by simp [going])]
  simp only [way, if_true]
  rfl

end Sys2Proof.Machine
end

section
/-! PROOF. Rank sparing, row repair and mirrored pairs. -/

open Sys2Proof Sys2Proof.Machine

/-- Settles O28: a command of DDRP.CMD that passes the checks meets the channels, the other registers and the retained records as
they were; the walk of a copy, the refreshes of a soft repair and the requests that follow a stall leave a channel's job, its
repairs and its pair's state, and only add to the retained writes. -/
theorem sparingRepairAndMirrors : Obligations.SparingRepairAndMirrors := by
  refine ⟨fun s m c rank h serves job inside spare => ?spares, fun s c rank job queue going serves => ?spared,
    fun s m c rank h serves inside dev row job still owed bank room => ?command,
    fun s c rank sub bg ba row dev r named serves auto lines job still owed bank room => ?auto,
    fun s c due r job queue => ?softEnd, fun s m c h st job => ?hard, fun s c ok job => ?hardEnd,
    fun s m c h even mir st => ?toOdd, fun s m c h even mir st => ?toEven, fun s m c h even mir => ?cancel,
    fun s c mir going => ?silvered⟩
  case spares =>
    refine .of_ddrp h rfl fun w stored => ?_
    have spare : w.spareFree c.val = true := by
      rw [State.spareFree, State.cfgBit, stored.cfg (by unfold ddrpOff chanPage mkPage; omega), stored.chan]
      exact spare
    rw [State.serves, ← stored.chan c.val] at serves
    rw [← stored.chan c.val] at job inside
    have fits : ¬ (w.chan c.val).lranks ≤ rank.toNat + 1 := by omega
    simp [State.spareCmd, State.serves, serves, job, fits, spare, State.startSparing]
  case spared =>
    obtain ⟨u, walked, ends⟩ := exec_spareCopyEnd job serves going
    have queue := (walked.chan c.val Channel.jobQueue fun _ => rfl).trans queue
    refine .of_exec ends ?_
    rw [State.nextJob_last (by simpa using queue)]
    simp
  case command =>
    refine .of_ddrp h rfl fun w stored => ?_
    have names : w.namedRow c.val rank.toNat = s.namedRow c.val rank.toNat := by
      simp only [State.namedRow]
      rw [stored.cfg (by unfold ddrpOff; omega)]
    rw [← stored.chan c.val] at inside row job still owed bank
    rw [State.serves, ← stored.chan c.val] at serves
    rw [← State.repairs_of_ret stored.ret] at room
    have inRange : ¬ ((w.chan c.val).lranks ≤ rank.toNat ∨ 9 < (s.namedRow c.val rank.toNat).dev ∨
        2 ^ (w.chan c.val).rb ≤ (s.namedRow c.val rank.toNat).row) := by omega
    have starts : (w.ddrpResult c.val 0).startRepair c.val (.soft (s.namedRow c.val rank.toNat)) = _ :=
      State.startRepair_soft (by simpa using job) (by simpa [Channel.still] using still) (by simpa using owed)
        (by simpa using bank) room
    simp [State.softCmd, State.serves, serves, names, inRange, starts]
  case auto =>
    have starts : (s.onChan c.val fun ch => { ch with rowCe := wipe ch.rowCe (rowKey r) }).startRepair c.val (.soft r) = _ :=
      State.startRepair_soft (by simpa using job) (by simpa [Channel.still] using still) (by simpa using owed)
        (by simpa using bank) room
    refine .of_exec (t := State.startRepair _ c.val (.soft r)) ?_ (by rw [starts]; simp [listed_wipe_same])
    change Host.Outcome.next (State.when _ _ _) = _
    rw [State.when_pos _ (by simp [serves, auto, ← named, lines]), named]
  case softEnd =>
    obtain ⟨repaired, idle, queued⟩ := s.softEnded_chan c.val due.val r
    obtain ⟨same, job', writes⟩ := State.stallEnd_idle idle (queued.trans queue)
    refine .of_exec (exec_softRepairEnd due job) ⟨fun w mem => ?_, same.trans repaired, job'⟩
    obtain ⟨x, stored, word⟩ := s.softEnded_writes c.val due.val r mem
    exact ⟨x, writes stored, word⟩
  case hard =>
    refine .of_ddrp h rfl fun w stored => ?_
    rw [← stored.chan c.val] at st job
    simp [State.hardCmd, st, job]
  case hardEnd =>
    refine .of_exec (exec_hardRepairEnd ok job) ⟨by simp, fun w stored => State.raiseChan_writes _ c.val 20 4 0 [] ?_⟩
    rwa [State.onChan_ret]
  case toOdd =>
    refine .of_ddrp h rfl fun w stored => ?_
    rw [← stored.chan] at mir st
    simp [State.resilverCmd, even, mir, st, State.startSilver]
  case toEven =>
    refine .of_ddrp h rfl fun w stored => ?_
    rw [← stored.chan] at mir st
    simp [State.resilverCmd, even, mir, st, State.startSilver]
  case cancel =>
    refine .of_ddrp h rfl fun w stored => ?_
    rw [← stored.chan] at mir ⊢
    rcases mir with mir | mir <;> simp [State.unresilver, even, mir]
  case silvered =>
    obtain ⟨u, ends⟩ := exec_resilverEnd (s := s) (c := c) (by rcases mir with mir | mir <;> simp [State.silverWay, mir]) going
    exact .of_exec ends (by simp)
end

section
/-! SUPPORT. Work for an engine 01 without power (R398): the engine is called, and the work waits for it (R400). States in which
a clause of the statements on promotions and on the data mover meets such an engine. -/

namespace Sys2Proof.Machine

/-! ### Work that waits for an engine -/

theorem State.callEngine_migOf (s : State) (k p : Nat) : (s.callEngine k).migOf p = s.migOf p := rfl

theorem State.callEngine_desc (s : State) (k q ix : Nat) : (s.callEngine k).desc q ix = s.desc q ix := rfl

/-- A promotion whose decode an engine without power has to do does not commit yet. -/
theorem exec_promotionCommit_unpowered {s : State} {p : BitVec 34} {m : Migration} (fault : BinFault)
    (moves : s.migOf p.toNat = some m) (kind : m.kind = .promotion) (going : s.migStill p.toNat m = false)
    (down : s.engineDown (s.engineFor (homeOf p.toNat)) = true) :
    exec (.promotionCommit p fault) s = .next (s.callEngine (s.engineFor (homeOf p.toNat))) := by
  change execPromotionCommit p fault s = _
  simp [execPromotionCommit, moves, kind, going, down]

/-- An operation of a descriptor that is ready does its work. -/
theorem State.dmOp_ready {s : State} {q ix op : Nat} {d : Desc} (ready : s.opReady q ix op d = true) (work : Desc → State) :
    s.dmOp q ix op work = work d := by
  simp only [State.opReady, Bool.and_eq_true, Bool.not_eq_true', beq_iff_eq, Option.isNone_iff_eq_none] at ready
  obtain ⟨⟨⟨⟨⟨found, running⟩, unflushed⟩, isOp⟩, serves⟩, permitted⟩ := ready
  simp [State.dmOp, found, running, unflushed, isOp, serves, permitted]

/-- A compression given to an engine without power does not start yet. -/
theorem exec_dmCompress_unpowered {s : State} {q : Fin 64} {ix : BitVec 16} {e : Fin 16} {d : Desc} (mismatch : Bool)
    (ready : s.opReady q.val ix.toNat 5 d = true) (avail : (s.eng e.val).avail = true) (takes : s.engineIdle e.val = false)
    (down : s.engineDown e.val = true) : exec (.dmCompress q ix ⟨e, mismatch⟩) s = .next (s.callEngine e.val) := by
  change execDmCompress q ix ⟨e, mismatch⟩ s = _
  simp only [execDmCompress, State.dmOp_ready ready, State.onEngine, avail, takes, down, if_true, Bool.false_eq_true, if_false]

/-! ### States -/

/-- The block serves: the link of logical device 0 is up, extent 0 is granted with its chunk initialised, the channels of its set
are active, and the gating domain of engine 01 of cluster 0 is without power (R398). -/
def servesWithoutEngine01 : State :=
  { metadataStalls with
    ddr := [(0, twinChannel .active .off), (1, twinChannel .active .off)]
    clk := { down := 1 <<< 177 } }

/-- The promotion of a page from a bin of set 2 to a frame of that set. -/
def binPromotion : Migration :=
  { image := { st := .compressed, set := 2, loc := 8000, binsize := 1, plen := [2, 2, 2, 2] }, kind := .promotion, dset := 2,
    dloc := 2001, byWrite := false, at_ := 0 }

/-- Page 0 is being promoted. Engine 00 of its cluster has a direct job, so that engine 01 is the less busy one (R240). -/
def promotesUnpowered : State :=
  { servesWithoutEngine01 with
    mem := { chunks := [(0, 1)], pages := [(0, { st := .migrating })], mig := [(0, binPromotion)] }
    tier := { eng := [(0, { job := some { op := 3, cancel := false } })] } }

/-- A valid COMPRESS descriptor at ring index 0, of the one byte at host address 0, which has been read; it has no chain. -/
def compressDesc : Desc :=
  { ix := 0, raw := 5 ||| 1 <<< 192, ended := false, status := 0, flags := 0, crc := 0, cons := 0, prod := 0, token := 0,
    offset := 0, count := 0, buf := [(0, some 7)], want := [], flushing := false }

/-- The descriptor runs in queue 0. -/
def compressesUnpowered : State := { servesWithoutEngine01 with dm := [(0, { st := 1, run := [compressDesc] })] }

end Sys2Proof.Machine
end

section
/-! PROOF. The statements on promotions and on the operations of the data mover fail: each has a clause on the end of an engine's
work without the premise that the engine has power. -/

open Sys2Proof Sys2Proof.Machine

/-- Refutes O31: a PROMOTION_COMMIT that finds the engine that decodes for the page, an engine 01, without power wakes it (R400);
the migration is still there, whatever the fault of its bin. -/
theorem not_promotionsAndDirectJobs : ¬ Obligations.PromotionsAndDirectJobs := by
  intro h
  obtain ⟨-, -, -, poisons, -⟩ := h
  have moves : promotesUnpowered.migOf (0 : BitVec 34).toNat = some binPromotion := by decide +kernel
  have going : promotesUnpowered.migStill (0 : BitVec 34).toNat binPromotion = false := by decide +kernel
  obtain ⟨t, run, ended, -⟩ := poisons promotesUnpowered 0 .tagFail binPromotion moves rfl going (by decide +kernel) (by decide)
  have waits := exec_promotionCommit_unpowered .tagFail moves rfl going (by decide +kernel)
  injection waits.symm.trans run with same
  rw [← same, State.callEngine_migOf, moves] at ended
  exact Option.some_ne_none _ ended

/-- Refutes O33: a DM_COMPRESS given to an engine 01 that is in service and has no power wakes it (R400), and the descriptor
still runs. -/
theorem not_dataMoverOperations : ¬ Obligations.DataMoverOperations := by
  intro h
  obtain ⟨-, -, -, -, -, -, -, compresses, -⟩ := h
  have ready : compressesUnpowered.opReady 0 0 5 compressDesc = true := by decide +kernel
  have avail : (compressesUnpowered.eng 1).avail = true := by decide +kernel
  have takes : compressesUnpowered.engineIdle 1 = false := by decide +kernel
  obtain ⟨t, run, ended, -⟩ := compresses compressesUnpowered compressesUnpowered 0 0 1 compressDesc [some 7] [] ready avail takes
    (by decide +kernel) (by decide +kernel) rfl
  have waits := exec_dmCompress_unpowered (q := 0) (ix := 0) (e := 1) false ready avail takes (by decide +kernel)
  injection waits.symm.trans run with same
  have runs : compressesUnpowered.desc (0 : Fin 64).val (0 : BitVec 16).toNat = some compressDesc := by decide +kernel
  rw [← same, State.callEngine_desc, runs] at ended
  simp [compressDesc] at ended
end

section
/-! SUPPORT. The root arrays that are being rebuilt (R282): accesses to the media, to pages and to the counter tree, and the
requests that a home slice runs, start no rebuild and end none. An operation that changes nothing of the media has its lemma
`State.op_keeps`. -/

namespace Sys2Proof.Machine

theorem State.when_rebuild (s : State) (b : Bool) (f : State → State) (h : ∀ t, (f t).mem.rebuild = t.mem.rebuild) :
    (s.when b f).mem.rebuild = s.mem.rebuild := s.when_inv (fun t : State => t.mem.rebuild) b f h

theorem State.each_rebuild {α : Type} (s : State) (l : List α) (f : State → α → State)
    (h : ∀ t a, (f t a).mem.rebuild = t.mem.rebuild) : (s.each l f).mem.rebuild = s.mem.rebuild :=
  s.each_inv (fun t : State => t.mem.rebuild) l f h

/-! ### Lines of the media -/

@[simp] theorem State.storeAt_rebuild (s : State) (c off : Nat) (v : Machine.Stored) :
    (s.storeAt c off v).mem.rebuild = s.mem.rebuild := (rfl)

@[simp] theorem State.putMedia_rebuild (s : State) (i x : Nat) (v : Machine.Stored) :
    (s.putMedia i x v).mem.rebuild = s.mem.rebuild :=
  State.each_rebuild _ _ _ fun t c => by simp [State.activated_keeps, State.count_keeps]

@[simp] theorem State.poisonMedia_rebuild (s : State) (p i f j : Nat) :
    (s.poisonMedia p i f j).mem.rebuild = s.mem.rebuild := by
  simp [State.poisonMedia]

@[simp] theorem State.walkSpare_rebuild (s : State) (c upto : Nat) : (s.walkSpare c upto).mem.rebuild = s.mem.rebuild := by
  unfold State.walkSpare
  dsimp only
  split <;> simp [State.onChan_keeps, State.copyBad_keeps]

@[simp] theorem State.walkSilver_rebuild (s : State) (ev upto : Nat) :
    (s.walkSilver ev upto).mem.rebuild = s.mem.rebuild := by
  unfold State.walkSilver
  split <;> simp [State.onChan_keeps, State.copyBad_keeps]

@[simp] theorem State.copyWalk_rebuild (s : State) (c : Nat) : (s.copyWalk c).mem.rebuild = s.mem.rebuild := by
  simp [State.copyWalk]

@[simp] theorem State.tagFailed_rebuild (s : State) (hs subject : Nat) :
    (s.tagFailed hs subject).mem.rebuild = s.mem.rebuild := by
  simp [State.tagFailed, State.raiseHs_keeps]

@[simp] theorem State.copyFailed_rebuild (s : State) (hs c subject : Nat) (g : Got) :
    (s.copyFailed hs c subject g).mem.rebuild = s.mem.rebuild := by
  unfold State.copyFailed
  split <;> simp [State.countUe_keeps]

@[simp] theorem State.readPartner_rebuild (s : State) (hs i c off subject : Nat) (b : TagBind) :
    (s.readPartner hs i c off subject b).1.mem.rebuild = s.mem.rebuild := by
  unfold State.readPartner
  extract_lets other walked got
  split
  · simp [walked]
  · rfl

@[simp] theorem State.readLine_rebuild (s : State) (hs i x subject : Nat) (b : TagBind) :
    (s.readLine hs i x subject b).1.mem.rebuild = s.mem.rebuild := by
  unfold State.readLine
  split
  · rfl
  · dsimp only
    split
    · split <;> simp [State.fileP_keeps, State.countUe_keeps, State.eccUncorr_keeps, State.activated_keeps, State.count_keeps]
    · split <;> simp [State.fileP_keeps, State.activated_keeps, State.count_keeps]
    · simp [State.activated_keeps, State.count_keeps]

/-! ### Blocks and metadata lines -/

@[simp] theorem State.noteMeta_rebuild (s : State) (i x : Nat) : (s.noteMeta i x).mem.rebuild = s.mem.rebuild := by
  unfold State.noteMeta
  split <;> rfl

@[simp] theorem State.metaWritten_rebuild (s : State) (x b : Nat) (l : List Nat) :
    (s.metaWritten x b l).mem.rebuild = s.mem.rebuild :=
  State.each_rebuild _ _ _ fun t _ => t.noteMeta_rebuild _ _

@[simp] theorem State.goodCopies_rebuild (s : State) (key : Nat) : (s.goodCopies key).mem.rebuild = s.mem.rebuild := (rfl)

@[simp] theorem State.setBlock_rebuild (s : State) (hs lvl i : Nat) (b : TreeBlock) :
    (s.setBlock hs lvl i b).mem.rebuild = s.mem.rebuild := (rfl)

@[simp] theorem State.setRetags_rebuild (s : State) (hs : Nat) (l : List Retag) :
    (s.setRetags hs l).mem.rebuild = s.mem.rebuild := (rfl)

@[simp] theorem State.setMc_rebuild (s : State) (k : Nat) (l : List McLine) :
    (s.setMc k l).mem.rebuild = s.mem.rebuild := (rfl)

@[simp] theorem State.countLost_rebuild (s : State) (hs : Nat) : (s.countLost hs).mem.rebuild = s.mem.rebuild := (rfl)

@[simp] theorem State.leave_rebuild (s : State) (hs : Nat) (l : List Nat) :
    (s.leave hs l).mem.rebuild = s.mem.rebuild := (rfl)

@[simp] theorem State.arrivedAt_rebuild (s : State) (hs lvl i : Nat) :
    (s.arrivedAt hs lvl i).mem.rebuild = s.mem.rebuild := (rfl)

@[simp] theorem State.onPage_rebuild (s : State) (p : Nat) (f : PageEntry → PageEntry) :
    (s.onPage p f).mem.rebuild = s.mem.rebuild := (rfl)

@[simp] theorem State.mendCopy_rebuild (s : State) (hs lvl i good : Nat) :
    (s.mendCopy hs lvl i good).mem.rebuild = s.mem.rebuild := (rfl)

@[simp] theorem State.mcUse_rebuild (s : State) (hs lvl i : Nat) (dirty : Bool) :
    (s.mcUse hs lvl i dirty).1.mem.rebuild = s.mem.rebuild := (rfl)

@[simp] theorem State.storeNode_rebuild (s : State) (hs lvl i : Nat) : (s.storeNode hs lvl i).mem.rebuild = s.mem.rebuild := by
  simp [State.storeNode]

@[simp] theorem State.loadCopy_rebuild (s : State) (hs lvl i copy : Nat) :
    (s.loadCopy hs lvl i copy).mem.rebuild = s.mem.rebuild := by
  unfold State.loadCopy
  dsimp only
  split <;> rfl

@[simp] theorem State.metaRead_rebuild (s : State) (hs lvl i copy : Nat) :
    (s.metaRead hs lvl i copy).mem.rebuild = s.mem.rebuild := by
  unfold State.metaRead
  extract_lets m e y born off fails key
  split
  · rfl
  · extract_lets other counted media dropped reported
    split
    · rfl
    · have kept : reported.mem.rebuild = s.mem.rebuild := by
        simp [reported, dropped, media, counted, State.countUe_keeps]
      split
      · simpa [State.fileP_keeps] using kept
      · split <;> exact kept

/-! ### Pages -/

@[simp] theorem State.endMigration_rebuild (s : State) (p : Nat) : (s.endMigration p).mem.rebuild = s.mem.rebuild := by
  unfold State.endMigration
  split <;> simp [State.dropDest_keeps]

@[simp] theorem State.poisonPage_rebuild (s : State) (p : Nat) (withdraw : Bool) :
    (s.poisonPage p withdraw).mem.rebuild = s.mem.rebuild := by
  cases withdraw <;> simp [State.poisonPage, State.levels_keeps, State.account_keeps, State.giveBack_keeps]

@[simp] theorem State.mapLost_rebuild (s : State) (n : Nat) : (s.mapLost n).mem.rebuild = s.mem.rebuild := by
  unfold State.mapLost
  rw [State.each_rebuild _ _ _ fun t p => by simp [State.fileP_keeps, State.raise_keeps]]
  rfl

@[simp] theorem State.leafLost_rebuild (s : State) (hs i : Nat) : (s.leafLost hs i).mem.rebuild = s.mem.rebuild := by
  unfold State.leafLost
  dsimp only
  split
  · rfl
  · split <;> simp [State.fileP_keeps, State.raiseHs_keeps, State.each_rebuild]

@[simp] theorem State.loseNode_rebuild (s : State) (hs lvl i : Nat) : (s.loseNode hs lvl i).mem.rebuild = s.mem.rebuild := by
  simp [State.loseNode, State.fileP_keeps, State.raiseNode_keeps, State.when_rebuild]

@[simp] theorem State.nodeLost_rebuild (s : State) (hs lvl i : Nat) : (s.nodeLost hs lvl i).mem.rebuild = s.mem.rebuild := by
  unfold State.nodeLost
  split <;> simp

/-! ### The counter-tree walker -/

@[simp] theorem State.checkBlock_rebuild (s : State) (hs lvl i : Nat) : (s.checkBlock hs lvl i).mem.rebuild = s.mem.rebuild := by
  unfold State.checkBlock
  dsimp only
  split
  · rfl
  · split
    · split <;> simp
    · split
      · split <;> simp
      · split
        · simp
        · split <;> simp [State.fileP_keeps, State.raiseNode_keeps]

@[simp] theorem State.retagChild_rebuild (s : State) (hs : Nat) (r : Retag) (k : Nat) :
    (s.retagChild hs r k).mem.rebuild = s.mem.rebuild := by
  unfold State.retagChild
  dsimp only
  split
  · split
    · rfl
    · rw [State.when_rebuild _ _ _ fun t => t.storeNode_rebuild _ _ _]
      split <;> simp
  · split
    · split <;> simp
    · rfl

@[simp] theorem State.endRetag_rebuild (s : State) (hs key : Nat) : (s.endRetag hs key).mem.rebuild = s.mem.rebuild := by
  unfold State.endRetag
  split <;> simp [State.each_rebuild]

@[simp] theorem State.advance_rebuild (s : State) (hs lvl i k : Nat) : (s.advance hs lvl i k).mem.rebuild = s.mem.rebuild := by
  unfold State.advance
  dsimp only
  split
  · simp [State.when_rebuild, State.raiseNode_keeps]
  · simp

@[simp] theorem State.walk_rebuild (n hs : Nat) (l : List Walk) (s : State) : (s.walk n hs l).mem.rebuild = s.mem.rebuild := by
  fun_induction State.walk n hs l s <;> simp_all +zetaDelta [State.count_keeps]

@[simp] theorem State.initChunk_rebuild (s : State) (c : Nat) : (s.initChunk c).mem.rebuild = s.mem.rebuild := by
  unfold State.initChunk
  split <;> rfl

@[simp] theorem State.needChunk_rebuild (s : State) (p : Nat) : (s.needChunk p).mem.rebuild = s.mem.rebuild := by
  unfold State.needChunk
  split <;> simp [State.raiseHs_keeps]

@[simp] theorem State.fetchPage_rebuild (s : State) (p : Nat) : (s.fetchPage p).mem.rebuild = s.mem.rebuild := by
  simp [State.fetchPage]

@[simp] theorem State.setEntry_rebuild (s : State) (p : Nat) (f : PageEntry → PageEntry) :
    (s.setEntry p f).mem.rebuild = s.mem.rebuild := by
  simp [State.setEntry]

theorem State.takeFrame_rebuild {s : State} {p : Nat} {promo : Bool} {r : State × Nat × Nat}
    (h : s.takeFrame p promo = some r) : r.1.mem.rebuild = s.mem.rebuild := by
  simp [State.takeFrame_keeps _ _ _ h]

@[simp] theorem State.back_rebuild (s : State) (p : Nat) : (s.back p).1.mem.rebuild = s.mem.rebuild := by
  unfold State.back
  split
  next h => simpa using State.takeFrame_rebuild h
  next => simp [State.exhausted_keeps]

@[simp] theorem State.nextMajor_rebuild (s : State) (p : Nat) : (s.nextMajor p).mem.rebuild = s.mem.rebuild := by
  simp [State.nextMajor]

@[simp] theorem State.reseal_rebuild (s : State) (p : Nat) : (s.reseal p).1.mem.rebuild = s.mem.rebuild := by
  unfold State.reseal
  split
  next h => simpa [State.each_rebuild] using State.takeFrame_rebuild h
  next => simp [State.exhausted_keeps]

/-! ### Reads and writes of lines -/

@[simp] theorem State.readNear_rebuild (s : State) (p i f j : Nat) : (s.readNear p i f j).1.mem.rebuild = s.mem.rebuild := by
  unfold State.readNear
  split <;> simp

@[simp] theorem State.writeNear_rebuild (s : State) (p i f j : Nat) (d : Line) :
    (s.writeNear p i f j d).mem.rebuild = s.mem.rebuild := by
  simp [State.writeNear]

@[simp] theorem State.readBin_rebuild (s : State) (p : Nat) (e : PageEntry) (a n : Nat) :
    (s.readBin p e a n).1.mem.rebuild = s.mem.rebuild := by
  refine foldl_holds (P := fun acc : State × Got × List Byte => acc.1.mem.rebuild = s.mem.rebuild) rfl fun acc j kept => ?_
  dsimp only
  split
  · split <;> simpa using kept
  · exact kept

@[simp] theorem State.readParcel_rebuild (s : State) (p : Nat) (e : PageEntry) (q : Nat) :
    (s.readParcel p e q).1.mem.rebuild = s.mem.rebuild := by
  unfold State.readParcel
  dsimp only
  split <;> simp

@[simp] theorem State.parcelBad_rebuild (s : State) (p k : Nat) : (s.parcelBad p k).mem.rebuild = s.mem.rebuild := by
  simp [State.parcelBad, State.fileP_keeps, State.raiseEng_keeps, State.when_rebuild, State.dropParcels_keeps]

@[simp] theorem State.readFromBin_rebuild (s : State) (p : Nat) (e : PageEntry) (j : Nat) :
    (s.readFromBin p e j).1.mem.rebuild = s.mem.rebuild := by
  unfold State.readFromBin
  dsimp only
  split
  · simp [State.useParcel_keeps]
  · split
    · split <;> simp
    · split <;> simp [State.useParcel_keeps, State.engineUsed_keeps, State.count_keeps]

@[simp] theorem State.readAs_rebuild (s : State) (p : Nat) (e : PageEntry) (j : Nat) :
    (s.readAs p e j).1.mem.rebuild = s.mem.rebuild := by
  unfold State.readAs
  dsimp only
  split
  case h_2 => split <;> simp
  all_goals simp

@[simp] theorem State.readData_rebuild (s : State) (line : Nat) (counted : Bool) :
    (s.readData line counted).1.mem.rebuild = s.mem.rebuild := by
  unfold State.readData
  dsimp only
  split
  · rfl
  · split <;> simp [State.countRead_keeps]

@[simp] theorem State.writeFull_rebuild (s : State) (line : Nat) (d : Line) :
    (s.writeFull line d).1.mem.rebuild = s.mem.rebuild := by
  unfold State.writeFull
  extract_lets p j near back reseal
  have near_rebuild : ∀ t : State, (near t).1.mem.rebuild = t.mem.rebuild := by
    intro t
    simp only [near]
    split <;> simp [State.discardLine_keeps, State.syncAtom_keeps]
  split
  · exact near_rebuild s
  · split <;> simp [near_rebuild, back]
  · split <;> simp [near_rebuild, reseal]
  · rfl
  · simp [State.trigger_keeps]

@[simp] theorem State.writePoison_rebuild (s : State) (line : Nat) : (s.writePoison line).1.mem.rebuild = s.mem.rebuild := by
  unfold State.writePoison
  extract_lets p j near back
  have near_rebuild : ∀ t : State, (near t).1.mem.rebuild = t.mem.rebuild := by
    intro t
    simp only [near]
    split
    · simp [State.discardLine_keeps]
    · exact t.poisonMedia_rebuild p _ _ j
  split
  · exact near_rebuild s
  · split <;> simp [near_rebuild, back]
  · rfl
  · rfl
  · simp [State.trigger_keeps]

@[simp] theorem State.unverified_rebuild (s : State) (line : Nat) (who : Requester) :
    (s.unverified line who).mem.rebuild = s.mem.rebuild := by
  simp [State.unverified, State.fileP_keeps, State.raise_keeps]

@[simp] theorem State.writePart_rebuild (s : State) (line : Nat) (mask : BitVec 64) (d : Line) (who : Requester) :
    (s.writePart line mask d who).1.mem.rebuild = s.mem.rebuild := by
  unfold State.writePart
  dsimp only
  split
  · rfl
  · simp [State.trigger_keeps]
  · simp [State.trigger_keeps]
  · simp
  · split <;> simp [State.discardLine_keeps]

@[simp] theorem State.flushAtom_rebuild (s : State) (line : Nat) : (s.flushAtom line).mem.rebuild = s.mem.rebuild := by
  unfold State.flushAtom
  split
  · rfl
  · exact State.writeFull_rebuild (s.dropAtom line) _ _

@[simp] theorem State.placeAtom_rebuild (s : State) (line : Nat) (d : Line) :
    (s.placeAtom line d).mem.rebuild = s.mem.rebuild := by
  unfold State.placeAtom
  dsimp only
  split
  · exact State.writeFull_rebuild (s.dropAtom line) _ _
  · split <;> simp [State.setAtoms_keeps]

@[simp] theorem State.atomicAt_rebuild (s : State) (line : Nat) (op : AtomicKind) (size off a b : Nat) (who : Requester) :
    (s.atomicAt line op size off a b who).1.mem.rebuild = s.mem.rebuild := by
  unfold State.atomicAt
  extract_lets p w m act r r'
  have act_rebuild : ∀ (t : State) (old : Line), (act t old).1.mem.rebuild = t.mem.rebuild := fun t old => by simp [act]
  split
  · rfl
  · simp [State.trigger_keeps]
  · simp [State.trigger_keeps]
  · simp
  · split <;> simp [act_rebuild, r]
  · split <;> simp [act_rebuild, r']

/-! ### Requests and their queues -/

@[simp] theorem State.touch_rebuild (s : State) (p : Nat) : (s.touch p).mem.rebuild = s.mem.rebuild := by
  unfold State.touch
  dsimp only
  split <;> simp [State.when_rebuild]

@[simp] theorem State.sample_rebuild (s : State) (p : Nat) : (s.sample p).mem.rebuild = s.mem.rebuild := by
  unfold State.sample
  split <;> simp [State.sampleAge_keeps]

@[simp] theorem State.loseLine_rebuild (s : State) (line : Nat) : (s.loseLine line).1.mem.rebuild = s.mem.rebuild := by
  unfold State.loseLine
  dsimp only
  split <;> simp [State.sfDrop_keeps]

@[simp] theorem State.serveLine_rebuild (s : State) (q : QReq) (mv : MetaVal) :
    (s.serveLine q mv).1.mem.rebuild = s.mem.rebuild := by
  unfold State.serveLine
  generalize s.notePath q = q
  dsimp only
  split
  · simp [State.serveNone_keeps]
  · split
    case h_1 | h_2 | h_3 => simp [State.answerRead_keeps]
    case h_4 | h_5 => split <;> split <;> simp [State.actWrite_keeps, State.answerCmp_keeps]
    case h_8 => split <;> simp [State.actWrite_keeps, State.answerAtomic_keeps]
    all_goals simp [State.answerCmp_keeps]

@[simp] theorem State.goCoherent_rebuild (s : State) (line : Nat) (q : QReq) :
    (s.goCoherent line q).1.mem.rebuild = s.mem.rebuild := by
  unfold State.goCoherent
  extract_lets e r w own guarded sn owned n refused
  split
  · simp
  · split
    · simp [State.sendSnoops_keeps]
    · split
      · rfl
      next t moved =>
        have kept : t.mem = s.mem := by simp [State.sfGo_keeps _ _ _ moved]
        extract_lets served
        split <;> simp [kept, State.popReq_keeps, State.writtenBack_keeps, State.guardEvent_keeps,
          State.count_keeps, served, refused]

@[simp] theorem State.stepHead_rebuild (s : State) (line : Nat) : (s.stepHead line).1.mem.rebuild = s.mem.rebuild := by
  unfold State.stepHead
  split
  · rfl
  next q _ =>
    dsimp only
    generalize ready : s.setReq (s.passHead q) = v
    have kept : v.mem = s.mem := by rw [← ready]; simp [State.setReq_keeps]
    rw [← kept]
    split
    · rfl
    · split
      · split
        · rfl
        · simp [State.setReq_keeps]
      · split
        case h_1 =>
          split
          · split <;> simp [State.popReq_keeps]
          · split <;> simp [State.popReq_keeps, State.sendSnoops_keeps]
        case h_2 =>
          split
          · split <;> simp [State.popReq_keeps]
          · split
            · split
              · split <;> simp [State.popReq_keeps, State.sendSnoops_keeps]
              · simp [State.popReq_keeps]
            · split
              · split
                next moved => simp [State.popReq_keeps, State.sfGo_keeps _ _ _ moved]
                next => simp [State.popReq_keeps]
              · simp [State.popReq_keeps]
        case h_3 =>
          split
          · simp [State.callFor_keeps]
          · split
            · split <;> split <;> simp [State.popReq_keeps]
            · simp

@[simp] theorem State.runLines_rebuild (n : Nat) (l : List Nat) (s : State) :
    (s.runLines n l).mem.rebuild = s.mem.rebuild := by
  fun_induction State.runLines n l s <;> simp_all +zetaDelta

@[simp] theorem State.enqueue_rebuild (s : State) (q : QReq) (tr : TrackerKind) :
    (s.enqueue q tr).mem.rebuild = s.mem.rebuild := by
  unfold State.enqueue
  dsimp only
  split <;> simp [State.when_rebuild, State.portCycle_keeps, State.count_keeps]

@[simp] theorem State.useCredit_rebuild (s : State) (hs : Nat) (c : ReqClass) :
    (s.useCredit hs c).mem.rebuild = s.mem.rebuild := by
  unfold State.useCredit
  split
  · rfl
  · split <;> simp

@[simp] theorem State.takeIn_rebuild (s : State) (q : QReq) (cred : Bool) : (s.takeIn q cred).mem.rebuild = s.mem.rebuild := by
  unfold State.takeIn
  dsimp only
  split
  · simp
  · split
    · split
      · simp
      · split <;> simp
    · split <;> simp [State.when_rebuild, State.count_keeps, State.emit_keeps]

@[simp] theorem State.readmit_rebuild (n : Nat) (s : State) : (s.readmit n).mem.rebuild = s.mem.rebuild := by
  fun_induction State.readmit n s <;> simp_all +zetaDelta

@[simp] theorem State.runOn_rebuild (s : State) (lines : List Nat) : (s.runOn lines).mem.rebuild = s.mem.rebuild := by
  simp [State.runOn]

end Sys2Proof.Machine
end

section
/-! SUPPORT. Re-tag entries, the rebuild of a root array and the initialisation of a chunk: what one step of each leaves of its
table (R273, R276, R277, R282). -/

namespace Sys2Proof.Machine

/-! ### Tables -/

theorem listed_enter_same {α : Type} (v : α) (t : Table α) (k : Nat) : listed (enter v t k) k = true := by
  induction t with
  | nil => simp [enter, listed]
  | cons e t ih =>
    unfold enter
    split
    · simp [listed]
    · split
      · simp [listed]
      next other => simp [listed, other, ih]

theorem look?_dropKeys {α : Type} (p : Nat → Bool) (t : Table α) (k : Nat) :
    look? (dropKeys p t) k = if p k then none else look? t k := by
  induction t with
  | nil => simp [dropKeys, look?]
  | cons e t ih =>
    rw [dropKeys] at ih ⊢
    by_cases same : e.1 = k
    · subst same
      cases drop : p e.1 with
      | true => simpa [drop] using ih
      | false => simp [drop, look?]
    · cases drop : p e.1 with
      | true => simpa [drop, look?, same] using ih
      | false => simpa [drop, look?, same] using ih

/-! ### Re-tags (R273) -/

/-- The entries of a re-tag table once a child of a block is marked done in the block's entry. -/
def markDone (l : List Retag) (key k : Nat) : List Retag :=
  l.map fun x => if x.key = key then { x with done := x.done ||| BitVec.ofNat 64 (2 ^ k) } else x

@[simp] theorem State.setRetags_retags (s : State) (hs : Nat) (l : List Retag) : (s.setRetags hs l).retags hs = l := by
  simp [State.setRetags, State.retags]

theorem State.setRetags_retags_ne (s : State) {hs k : Nat} (l : List Retag) (h : k ≠ hs) :
    (s.setRetags hs l).retags k = s.retags k := by
  simp [State.setRetags, State.retags, h]

@[simp] theorem State.noteMeta_retags (s : State) (i x k : Nat) : (s.noteMeta i x).retags k = s.retags k := by
  unfold State.noteMeta
  split <;> rfl

/-- Writing a block to DRAM leaves the re-tag tables. -/
theorem State.storeNode_retags (s : State) (hs lvl i k : Nat) : (s.storeNode hs lvl i).retags k = s.retags k :=
  State.each_inv (fun t : State => t.retags k) _ _ _ fun t _ => t.noteMeta_retags _ _ _

/-- Re-tagging a child marks it in its block's entry, and changes no other entry of the slice. -/
theorem State.retagChild_retags (s : State) (hs : Nat) (r : Retag) (k : Nat) :
    (s.retagChild hs r k).retags hs = markDone (s.retags hs) r.key k := by
  unfold State.retagChild
  dsimp only
  split
  · split
    · exact State.setRetags_retags _ _ _
    · rw [State.when_inv (fun t : State => t.retags hs) _ _ _ fun t => t.storeNode_retags _ _ _ _]
      exact State.setRetags_retags _ _ _
  · split <;> exact State.setRetags_retags _ _ _

/-! ### Root arrays (R282) -/

/-- The root array of a slice is then being rebuilt, whether or not it already was. -/
theorem State.startRebuild_listed (s : State) (hs : Nat) : listed (s.startRebuild hs).mem.rebuild hs = true := by
  unfold State.startRebuild State.when
  split
  · exact listed_enter_same _ _ _
  next going => simpa using going

/-- The site of a slice's root array: its site code names its page, an error of class F there needs the reaction that is confined
to the slice, and the slice is the page's. -/
theorem rootArray_site (hs : Fin 32) : pageOfSite (siteOfPage (hsPage hs.val 6)) = hsPage hs.val 6 ∧
    reactionOf (hsPage hs.val 6) (classAt (hsPage hs.val 6) 5) = 4 ∧ hsOfPage (hsPage hs.val 6) = hs.val := by
  revert hs
  decide

theorem State.faultP_rootArray_listed (s : State) (hs : Fin 32) :
    listed (s.faultP (hsPage hs.val 6) 5 0).mem.rebuild hs.val = true := by
  obtain ⟨page, reaction, slice⟩ := rootArray_site hs
  simp [State.faultP, State.fault, State.fileAt_keeps, State.react, page, reaction, slice, State.startRebuild_listed]

/-- After its end a rebuild is not going on: the requests that then run start none. -/
theorem State.endRebuild_listed (s : State) (hs rejected : Nat) : listed (s.endRebuild hs rejected).mem.rebuild hs = false := by
  simp [State.endRebuild, State.raiseHs_keeps, listed_wipe_same]

/-! ### Chunks (R276, R277) -/

/-- The next chunk of an extent is not initialised yet. -/
theorem State.nextChunk_fresh {s : State} {e c : Nat} (next : s.nextChunk e = some c) : listed s.mem.chunks c = false := by
  simpa using List.find?_some next

/-- A chunk that is initialised joins those that are, with the time; its leaf blocks and L2 nodes are as created. -/
theorem State.initChunk_fresh {s : State} {c : Nat} (fresh : listed s.mem.chunks c = false) :
    (s.initChunk c).mem.chunks = enter s.now s.mem.chunks c ∧ (s.initChunk c).now = s.now ∧
    (s.initChunk c).mem.pages = s.mem.pages ∧
    ∀ k, look? (s.initChunk c).mem.blocks k = if (k / 2 ^ 40 = 1 ∧ k % 2 ^ 40 / 32 / 128 = c) ∨
      (k / 2 ^ 40 = 2 ∧ k % 2 ^ 40 / 32 / 2 = c) then none else look? s.mem.blocks k := by
  rw [State.initChunk, if_neg (by simp [fresh])]
  refine ⟨rfl, rfl, rfl, fun k => ?_⟩
  simp only [State.withMem_mem, look?_dropKeys, Bool.or_eq_true, Bool.and_eq_true, beq_iff_eq]

/-! ### Commands -/

/-- RETAG_STEP re-tags the lowest child left of the oldest unfinished re-tag of a slice that serves, a line only where no request
of it is queued and nothing that it needs stalls. -/
theorem exec_retagStep {s : State} {hs : Fin 32} {r : Retag} (serves : s.sliceOut hs.val = false)
    (steady : listed s.mem.rebuild hs.val = false) (oldest : (s.retags hs.val).find? (fun r => !r.todo.isEmpty) = some r)
    (clear : r.key / 2 ^ 40 = 1 → let line := 64 * leafPage hs.val (r.key % 2 ^ 40 / 32) + r.todo.headD 0
      (∀ q ∈ s.home.queue, q.line ≠ line) ∧ s.lineStill line = false) :
    exec (.retagStep hs) s = .next (s.retagChild hs.val r (r.todo.headD 0)) := by
  have goes : ¬ (r.key / 2 ^ 40 = 1 ∧
      ((s.home.queue.any fun q => q.line == 64 * leafPage hs.val (r.key % 2 ^ 40 / 32) + r.todo.headD 0) = true ∨
        s.lineStill (64 * leafPage hs.val (r.key % 2 ^ 40 / 32) + r.todo.headD 0) = true)) := by
    rintro ⟨leaf, waits⟩
    obtain ⟨unqueued, moves⟩ := clear leaf
    simp only [moves, Bool.false_eq_true, or_false, List.any_eq_true, beq_iff_eq] at waits
    obtain ⟨q, mem, same⟩ := waits
    exact unqueued q mem same
  change execRetagStep hs s = _
  simp only [execRetagStep, serves, steady, oldest, Bool.or_self, Bool.false_eq_true, if_false, if_neg goes]

/-- RETAG_STEP waits while a request of the line is queued, as it does while the slice does not serve. -/
theorem exec_retagStep_queued {s : State} {hs : Fin 32} {r : Retag}
    (oldest : (s.retags hs.val).find? (fun r => !r.todo.isEmpty) = some r) (leaf : r.key / 2 ^ 40 = 1)
    (queued : (s.home.queue.any fun q => q.line == 64 * leafPage hs.val (r.key % 2 ^ 40 / 32) + r.todo.headD 0) = true) :
    exec (.retagStep hs) s = .next s := by
  change execRetagStep hs s = _
  unfold execRetagStep
  dsimp only
  split
  · rfl
  · rw [oldest]
    exact congrArg _ (if_pos ⟨leaf, .inl queued⟩)

/-- The state in which the next chunk is initialised: at its instant, with that of the chunk after it (R277, R287). -/
def State.chunkDue (s : State) : State :=
  let s := s.reach s.mem.chunkAt
  s.withMem { s.mem with chunkAt := s.now + ceilDiv chunkBytes s.lazyRate }

theorem State.chunkDue_leaves (s : State) : s.chunkDue.now = s.instant s.mem.chunkAt ∧ s.chunkDue.mem.chunks = s.mem.chunks ∧
    s.chunkDue.mem.pages = s.mem.pages ∧ s.chunkDue.mem.blocks = s.mem.blocks := by
  simp [State.chunkDue, State.reach_keeps]

/-- CHUNK_INIT initialises the next chunk of an extent in use, where every Lovage allows it and no root array is rebuilt. -/
theorem exec_chunkInit {s : State} {c : BitVec 22} (used : s.inUse (c.toNat / 16) = true) (on : s.lazyOn = true)
    (steady : s.mem.rebuild = []) (next : s.nextChunk (c.toNat / 16) = some c.toNat) :
    exec (.chunkInit c) s = .next (s.chunkDue.initChunk c.toNat) := by
  change execChunkInit c s = _
  rw [execChunkInit, State.when_pos _ (by simp [used, on, steady, next])]
  rfl

theorem exec_chunkInit_waits {s : State} {c : BitVec 22} (off : s.lazyOn = false ∨ s.mem.rebuild ≠ []) :
    exec (.chunkInit c) s = .next s := by
  change execChunkInit c s = _
  have waits : (s.inUse (c.toNat / 16) && s.lazyOn && s.mem.rebuild.isEmpty && s.nextChunk (c.toNat / 16) == some c.toNat) =
      false := by
    rcases off with off | rebuilt
    · simp [off]
    · simp [List.isEmpty_eq_false_iff.mpr rebuilt]
  simp [execChunkInit, State.when, waits]

end Sys2Proof.Machine
end

section
/-! PROOF. Re-tags, root arrays and the initialisation of chunks. -/

open Sys2Proof Sys2Proof.Machine

/-- Settles O23: a re-tag's step marks one child of one entry and its end drops the finished entries; an error in a root array
needs the reaction that starts its rebuild; the requests that run after a rebuild start none; the next chunk of an extent is
not initialised yet. -/
theorem retagsRootArraysAndChunks : Obligations.RetagsRootArraysAndChunks := by
  unfold Obligations.RetagsRootArraysAndChunks
  refine ⟨fun s hs r serves steady oldest clear => ?step, fun s hs => ?ended, fun s hs => ?fails,
    fun s hs rejected going => ?rebuilt, fun s hs r oldest leaf queued => exec_retagStep_queued oldest leaf queued,
    fun s c used on steady next => ?chunk, fun s c off => exec_chunkInit_waits off⟩
  case step => exact .of_exec (exec_retagStep serves steady oldest clear) (s.retagChild_retags hs.val r _)
  case ended =>
    exact .of_exec (t := s.setRetags hs.val _) rfl ⟨s.setRetags_retags _ _, fun k other =>
      s.setRetags_retags_ne _ (Fin.val_ne_of_ne other)⟩
  case fails => exact .of_exec (t := s.faultP (hsPage hs.val 6) 5 0) rfl (s.faultP_rootArray_listed hs)
  case rebuilt =>
    refine .of_exec (t := s.endRebuild hs.val (rejected.toNat ||| s.failingRoots hs.val)) ?_ (s.endRebuild_listed _ _)
    change execRootRebuildEnd hs rejected s = _
    rw [execRootRebuildEnd, State.when_pos _ going]
  case chunk =>
    obtain ⟨due, initialised, kept, asBefore⟩ := s.chunkDue_leaves
    have fresh : listed s.chunkDue.mem.chunks c.toNat = false := initialised ▸ State.nextChunk_fresh next
    obtain ⟨chunks, now, pages, blocks⟩ := State.initChunk_fresh fresh
    refine .of_exec (exec_chunkInit used on steady next) ⟨?_, now.trans due, pages.trans kept, fun k => ?_⟩
    · rw [chunks, now, initialised]
    · rw [blocks, asBefore]
end

section
/-! SUPPORT. A module end that is asked for more than it offers, and a forwarded write that a retirement has moved. -/

namespace Sys2Proof.Machine

/-- Module end 0 is ACTIVE, and its DLNK.CFG gives MAXRATE 3, MAXWIDTH 1 (x32) and CTO 4 (R378). -/
def narrowEnd : State :=
  (State.reset.setReg (modPage 0 0) 0x80 (wordOf [(0, 3), (2, 1), (4, 4)])).onMod 0 fun k =>
    { k with st := .active, rate := 3, width := 1 }

theorem State.sendCtl_mod (s : State) (e lctype : Nat) (p : List Nat) (m : Nat) : (s.sendCtl e lctype p).mod m = s.mod m := by
  simp [State.mod, State.sendCtl_keeps]

/-- A LINK_REQ for a change that an ACTIVE end does not offer is answered with abort (R341; assumption 24). -/
theorem exec_linkReq_unoffered {s : State} {e : Fin 34} {ch : LinkChange} (slot : BitVec 4) (active : (s.mod e.val).st = .active)
    (unoffered : s.offers e.val ch = false) :
    exec (.linkReq e ch slot) s = .next (s.sendCtl e.val 5 [(changeCodes ch).headD 0, 0]) := by
  change execLinkReq e ch slot s = _
  simp [execLinkReq, State.takeReq, active, unoffered]

/-- A forwarded write of logical device 0 that waits for credits. -/
def heldPiece : FwdPiece := { ld := 0, off := 64, len := 0, htag := 0, mask := 1, data := 5, at_ := 0 }

/-- The modules of Borage but the first have retired. A forwarded write of logical device 0 has moved to the first one, which is
ACTIVE and has no credits (R345, R354); a later one of the same logical device waits behind it. -/
def movedWrite : State :=
  { State.reset with
    dunas := [(15, { st := .active, sendq := [.fwdWr 0 0 1 7], waiting := [(0, 0)] }), (16, { st := .retired }),
      (17, { st := .retired }), (18, { st := .retired })]
    brg := { present := true, st := 2, rst := false, fwdWait := [heldPiece] } }

/-- The forwarded write of a logical device that a retirement has moved to a module end is dropped 1 ms after its wait began
(R368). -/
def State.dropMoved (s : State) (e ld : Nat) : State :=
  let s := s.reach ((look? (s.mod e).waiting 0).elim 0 (· + ms 1))
  let s := (s.onMod e fun k => { k with sendq := k.sendq.eraseP (Msg.fwdWrOf ld) }).fwdFail ld
  (State.pumpFwd 1024 (State.pump 256 e s)).fwdTimers

/-- FWDWR_TIMEOUT takes a forwarded write that a retirement has moved ahead of the pieces that wait. -/
theorem exec_fwdwrTimeout_moved {s : State} {ld : Fin 64} {e : Nat}
    (moved : [15, 16, 17, 18].find? (fun e => (s.mod e).sendq.any (Msg.fwdWrOf ld.val)) = some e) :
    exec (.fwdwrTimeout ld) s = .next (s.dropMoved e ld.val) := by
  change execFwdwrTimeout ld s = _
  simp only [execFwdwrTimeout, moved]
  rfl

end Sys2Proof.Machine
end

section
/-! PROOF. The statements on module ends and on forwarded accesses fail, each on a state in which one of its clauses does not
hold. -/

open Sys2Proof Sys2Proof.Machine

/-- Refutes O34: its clause on a LINK_REQ at an ACTIVE end has no premise that the end offers the change. One that offers at most
x32 answers a request for x64 with abort (R341) and stays ACTIVE. -/
theorem not_moduleTrainingAndChanges : ¬ Obligations.ModuleTrainingAndChanges := by
  intro h
  obtain ⟨-, -, -, -, -, -, -, -, follows, -⟩ := h
  have active : (narrowEnd.mod (0 : Fin 34).val).st = .active := by decide +kernel
  have aborts := exec_linkReq_unoffered (e := 0) (ch := .width 2) 5 active (by decide +kernel)
  obtain ⟨t, run, changes⟩ := follows narrowEnd 0 (.width 2) 5 active
  injection aborts.symm.trans run with same
  rw [← same, State.sendCtl_mod] at changes
  exact absurd (active.symm.trans (congrArg ModuleEnd.st changes)) (by decide)

/-- Refutes O37: its clause on FWDWR_TIMEOUT has no premise that no forwarded write of the logical device waits at a module end.
Where a retirement has moved one there, that one is dropped, and the piece that waits behind it stays. -/
theorem not_forwardedAccessesAndBorageFaults : ¬ Obligations.ForwardedAccessesAndBorageFaults := by
  intro h
  obtain ⟨-, -, -, -, -, dropped, -⟩ := h
  have drops := exec_fwdwrTimeout_moved (s := movedWrite) (ld := 0) (e := 15) (by decide +kernel)
  obtain ⟨t, run, -, left⟩ := dropped movedWrite 0 heldPiece (by decide +kernel) rfl
  injection drops.symm.trans run with same
  have stays : heldPiece ∈ (movedWrite.dropMoved 15 (0 : Fin 64).val).brg.fwdWait := by decide +kernel
  exact absurd (left heldPiece (same ▸ stays)) (by decide +kernel)
end

section
/-! SUPPORT. Messages to a host whose link carries no traffic (R60, R66): they are discarded, and so is a completion record. -/

namespace Sys2Proof.Machine

/-- A logical device's link carries no traffic, or it has no link (R60). -/
def State.muted (s : State) (ld : Nat) : Bool := (s.linkOf ld).all fun l => !(s.link l).live

theorem State.toHost_muted {s : State} {ld : Nat} (h : s.muted ld = true) (m : Msg) : s.toHost ld m = s := by
  unfold State.toHost
  split
  next l found =>
    have quiet : (s.link l).live = false := by simpa [State.muted, found] using h
    simp [quiet]
  next => rfl

theorem State.hostWrites_muted {s : State} {ld : Nat} (h : s.muted ld = true) (f a : Nat) (d : List Byte) (ro ep : Bool) :
    s.hostWrites f ld a d ro ep = s := by
  induction f generalizing a d with
  | zero => rfl
  | succ f ih =>
    unfold State.hostWrites
    split
    · rfl
    · simp only [State.toHost_muted h]
      exact ih _ _

/-- The state in which the record of a descriptor is on its way (R319): its free values are taken. -/
def State.recordBegun (s : State) (q : Nat) (d : Desc) : State :=
  s.takeFree.takeFree.takeFree.takeFree.onDesc q d.ix fun d => { d with recorded := true }

theorem State.recordBegun_muted (s : State) (q : Nat) (d : Desc) (ld : Nat) : (s.recordBegun q d).muted ld = s.muted ld := by
  have regs : (s.recordBegun q d).regs = s.regs := rfl
  have ret : (s.recordBegun q d).ret = s.ret := rfl
  have link := State.linkOf_congr (State.cfg_congr regs ret) ld
  rw [State.muted, link]
  rfl

/-- A record in host memory is discarded where the link carries no traffic, and the descriptor is done (assumption 164). -/
theorem State.putRecord_muted {s : State} {q : Nat} {d : Desc} (h : s.muted q = true) (inHost : dBit d.raw 8 = false)
    (idle : s.dmWriting (dmKey q d.ix) = false) : s.putRecord q d = (s.recordBegun q d).recordDone q d := by
  have lost := State.hostWrites_muted ((s.recordBegun_muted q d q).trans h)
  have written : (s.recordBegun q d).dmWriting (dmKey q d.ix) = false := idle
  rw [State.recordBegun] at lost written
  simp only [State.putRecord, inHost, Bool.false_eq_true, if_false, lost, written, State.recordBegun]

/-- DM_RECORD_WRITE of a record in host memory whose path is said to be there, on a link that carries no traffic. -/
theorem exec_dmRecordWrite_muted {s : State} {q : Fin 64} {ix : BitVec 16} {d : Desc} (found : s.desc q.val ix.toNat = some d)
    (ended : d.ended = true) (idle : s.dmWriting (dmKey q.val d.ix) = false) (up : s.sorrelUp = true)
    (unrecorded : d.recorded = false) (counted : s.countsDue q.val d = false) (inHost : dBit d.raw 8 = false)
    (h : s.muted q.val = true) : exec (.dmRecordWrite q ix true) s = .next ((s.recordBegun q.val d).recordDone q.val d) := by
  change execDmRecordWrite q ix true s = _
  simp [execDmRecordWrite, found, ended, idle, up, unrecorded, counted, State.canRecord, inHost, State.putRecord_muted h]

/-- A FILL of one host byte at ring index 0 that has ended with SUCCESS; its record goes to host address 0. -/
def endedFill : Desc :=
  { ix := 0, raw := 2 ||| 1 <<< 192, ended := true, status := 1, flags := 0, crc := 0, cons := 0, prod := 1, token := 0,
    offset := 0, count := 0, buf := [], want := [], flushing := false }

/-- The FILL in queue 0 has no record yet when PME_TURN_OFF takes link H0.0 to L2, which stops no queue (R60; assumption 20). -/
def recordInL2 : State :=
  { metadataStalls with dm := [(0, { st := 1, run := [endedFill] })] }.onLink 0 fun k => { k with st := .l2, ownReq := none }

end Sys2Proof.Machine
end

section
/-! PROOF. The statement on the data mover's queues fails: its clause on a record in host memory has no premise that the queue's
link carries traffic. -/

open Sys2Proof Sys2Proof.Machine

/-- Refutes O32: PME_TURN_OFF takes a link to L2 while a record is still to be written. A DM_RECORD_WRITE whose operand says that
the path is there then sends the record on a link that carries no traffic, where it is discarded (R60): no write leaves. -/
theorem not_dataMoverQueues : ¬ Obligations.DataMoverQueues := by
  intro h
  obtain ⟨-, -, -, -, -, -, -, -, -, -, records, -⟩ := h
  have found : recordInL2.desc (0 : Fin 64).val (0 : BitVec 16).toNat = some endedFill := by decide +kernel
  have idle : recordInL2.dmWriting (dmKey 0 endedFill.ix) = false := by decide +kernel
  have up : recordInL2.sorrelUp = true := by decide +kernel
  have counted : recordInL2.countsDue 0 endedFill = false := by decide +kernel
  have inHost : dBit endedFill.raw 8 = false := by decide +kernel
  obtain ⟨writes, -⟩ := records recordInL2 0 0 endedFill found rfl idle up rfl counted inHost
  obtain ⟨t, run, -, sent, -⟩ := writes (by decide +kernel) (by decide +kernel)
  have lost := exec_dmRecordWrite_muted found rfl idle up rfl counted inHost (by decide +kernel)
  injection lost.symm.trans run with same
  have silent : ((recordInL2.recordBegun 0 endedFill).recordDone 0 endedFill).out = [] := by decide +kernel
  have none_sent : t.out = [] := (congrArg State.out same).symm.trans silent
  simp [none_sent] at sent
end

section
/-! SUPPORT. What the deliveries of an event leave of the event router, and what a raised event leaves there: a record in the
queue, or its deliveries (R502, R503). -/

namespace Sys2Proof.Machine

/-! ### Deliveries -/

/-- Deliveries leave the queue of records and the count of those dropped, and withdraw no ALERT_N. -/
structure Events.Delivered (a b : Events) : Prop where
  queue : b.queue = a.queue
  dropped : b.dropped = a.dropped
  alert : a.alert = true → b.alert = true

theorem Events.Delivered.refl (a : Events) : a.Delivered a := ⟨rfl, rfl, id⟩

theorem Events.Delivered.trans {a b c : Events} (h : a.Delivered b) (g : b.Delivered c) : a.Delivered c :=
  ⟨g.queue.trans h.queue, g.dropped.trans h.dropped, fun set => g.alert (h.alert set)⟩

theorem Events.Delivered.of_eq {a b : Events} (h : b = a) : a.Delivered b := h ▸ .refl a

theorem Events.Delivered.when (s : State) (b : Bool) {f : State → State} (h : ∀ t : State, t.evt.Delivered (f t).evt) :
    s.evt.Delivered (s.when b f).evt := by
  cases b with
  | false => exact .refl _
  | true => exact h s

theorem Events.Delivered.each {α : Type} (s : State) (l : List α) {f : State → α → State}
    (h : ∀ (t : State) (a : α), t.evt.Delivered (f t a).evt) : s.evt.Delivered (s.each l f).evt := by
  induction l generalizing s with
  | nil => exact .refl _
  | cons a l ih => exact (h s a).trans (ih (f s a))

theorem State.sendBmc_delivered (s : State) (src : Nat) : s.evt.Delivered (s.sendBmc src).evt := by
  unfold State.sendBmc
  split
  · exact ⟨by simp [State.emit_keeps], by simp [State.emit_keeps], fun set => by simp [State.emit_keeps, set]⟩
  · exact ⟨rfl, rfl, fun _ => rfl⟩

/-- In SMBus mode a signal to the BMC asserts ALERT_N (R473). -/
theorem State.sendBmc_alert {s : State} (smbus : s.mgmt.i3c = false) (src : Nat) : (s.sendBmc src).evt.alert = true := by
  simp [State.sendBmc, smbus]

theorem State.sendMsix_delivered (s : State) (r : LogRec) (vec : Nat) : s.evt.Delivered (s.sendMsix r vec).evt := by
  unfold State.sendMsix
  extract_lets ld up t
  split
  · split
    · exact .refl _
    · split
      · exact .refl _
      · exact .of_eq (by simp [State.toHost_keeps, t, State.onLd])
  · exact ⟨rfl, rfl, id⟩

/-- What follows the signal to the BMC in a delivery: the message to a host and the attention pulses (R503). -/
def State.deliverRest (s : State) (r : LogRec) (route : BitVec 14) : State :=
  (s.when (route.getLsbD 3) fun s => s.sendMsix r (bits route.toNat 4 6)).each (ones (bits route.toNat 10 4) 4) fun s g =>
    s.attention g

theorem State.deliver_eq (s : State) (r : LogRec) (route : BitVec 14) :
    s.deliver r route = (s.when (route.getLsbD 2) fun s => s.sendBmc r.source).deliverRest r route := rfl

theorem State.deliverRest_delivered (s : State) (r : LogRec) (route : BitVec 14) :
    s.evt.Delivered (s.deliverRest r route).evt :=
  (Events.Delivered.when s _ fun t => t.sendMsix_delivered r _).trans
    (.each _ _ fun t g => .of_eq (by simp [State.attention_keeps]))

theorem State.deliver_delivered (s : State) (r : LogRec) (route : BitVec 14) : s.evt.Delivered (s.deliver r route).evt :=
  (Events.Delivered.when s _ fun t => t.sendBmc_delivered _).trans (State.deliverRest_delivered _ r route)

/-- A delivery by a route with the BMC bit asserts ALERT_N in SMBus mode (R473, R503). -/
theorem State.deliver_alert {s : State} {route : BitVec 14} (r : LogRec) (smbus : s.mgmt.i3c = false)
    (bmc : route.getLsbD 2 = true) : (s.deliver r route).evt.alert = true := by
  rw [State.deliver_eq, State.when_pos s bmc]
  exact (State.deliverRest_delivered _ r route).alert (State.sendBmc_alert smbus _)

/-! ### Raised events -/

/-- A raise that drops no record is only its own (R481). -/
theorem State.raise_of_kept {s : State} {e : Ev} (kept : (s.raiseOne e).evt.dropped = s.evt.dropped) :
    s.raise e = s.raiseOne e := by
  simp [State.raise, kept]

/-- With room in the queue a record is put there under the next sequence number (R467). -/
theorem State.logIt_evt {s : State} (room : s.evt.queue.length < 1023) (r : LogRec) (vital : Bool) (dest : List (BitVec 14)) :
    (s.logIt r vital dest).evt = { s.evt with
      queue := s.evt.queue ++ [{ rec_ := { r with seq := s.evt.seq, dropped := s.evt.dropFlag }, dest := dest }]
      seq := s.evt.seq + 1, dropFlag := false } := by
  simp only [State.logIt, room, decide_true, Bool.or_true, if_true]
  exact State.when_inv State.evt _ _ _ fun t => by simp [State.retWrite_keeps]

/-- A source's pending bit is set (R502). -/
def State.pended (s : State) (k : Nat) : State := s.withEvt { s.evt with pend := s.evt.pend ||| BitVec.ofNat 768 (2 ^ k) }

theorem State.pended_delivered (s : State) (k : Nat) : s.evt.Delivered (s.pended k).evt := ⟨rfl, rfl, id⟩

section Rises
variable {s : State} {e : Ev} (known : definedSource e.src = true) (up : s.boot.st ≠ 0)
include known up

/-- A source that rises by a route with the LOG bit, with room in the queue, leaves its record there as the last (R467, R502). -/
theorem State.raise_logs (log : (s.routeOf e.src).getLsbD 0 = true) (room : s.evt.queue.length < 1023) :
    ((s.raise e).evt.queue.getLast?.map fun w => (w.rec_.source, w.rec_.site, w.rec_.detail)) =
      some (e.src, e.site, e.detail) := by
  have rises : (!definedSource e.src || (s.boot.st == 0 && !auxSource e.src)) = false := by simp [known, up]
  obtain ⟨r, vital, dest, logs, record⟩ : ∃ r vital dest, s.raiseOne e =
      (s.pended e.src).logIt r vital dest ∧
        (r.source, r.site, r.detail) = (e.src, e.site, e.detail) := by
    simp only [State.raiseOne, rises, log, Bool.false_eq_true, if_false, if_true]
    exact ⟨_, _, _, rfl, rfl⟩
  have queued := State.logIt_evt (s := s.pended e.src) room r vital dest
  rw [State.raise_of_kept (by rw [logs, queued]; rfl), logs, queued, List.getLast?_concat]
  exact congrArg some record

/-- A source that rises by a route without the LOG bit only sets its bit and is delivered, where it is enabled and its bit was
0 (R502). -/
theorem State.raiseOne_delivers (unlogged : (s.routeOf e.src).getLsbD 0 = false) :
    ∃ r : LogRec, s.raiseOne e = (s.pended e.src).when
      (s.evEnabled e.src && !s.evt.pend.getLsbD e.src) fun t => t.deliver r (s.routeOf e.src) := by
  have rises : (!definedSource e.src || (s.boot.st == 0 && !auxSource e.src)) = false := by simp [known, up]
  unfold State.raiseOne
  simp only [rises, unlogged, Bool.false_eq_true, if_false]
  exact ⟨_, rfl⟩

theorem State.raiseOne_delivered (unlogged : (s.routeOf e.src).getLsbD 0 = false) :
    s.evt.Delivered (s.raiseOne e).evt := by
  obtain ⟨r, delivers⟩ := State.raiseOne_delivers known up unlogged
  rw [delivers]
  exact (s.pended_delivered e.src).trans (.when _ _ fun t => t.deliver_delivered r _)

/-- A source that rises by a route without the LOG bit leaves no record (R502). -/
theorem State.raise_unlogged (unlogged : (s.routeOf e.src).getLsbD 0 = false) : (s.raise e).evt.queue = s.evt.queue := by
  have delivered := State.raiseOne_delivered known up unlogged
  rw [State.raise_of_kept delivered.dropped, delivered.queue]

/-- An enabled source whose bit was 0 asserts ALERT_N in SMBus mode, where its route has the BMC bit (R473, R502, R503). -/
theorem State.raise_alert (fresh : s.evt.pend.getLsbD e.src = false) (enabled : s.evEnabled e.src = true)
    (unlogged : (s.routeOf e.src).getLsbD 0 = false) (bmc : (s.routeOf e.src).getLsbD 2 = true)
    (smbus : s.mgmt.i3c = false) : (s.raise e).evt.alert = true := by
  obtain ⟨r, delivers⟩ := State.raiseOne_delivers known up unlogged
  rw [State.raise_of_kept (State.raiseOne_delivered known up unlogged).dropped, delivers,
    State.when_pos _ (by simp [fresh, enabled])]
  exact State.deliver_alert r smbus bmc

end Rises

/-! ### Borage's sources -/

theorem definedSource_borage : ∀ k : Fin 64, definedSource (704 + k.val) = true := by decide

/-- The event of EVTRAISE: source 704 + k at the site of Borage, with the payload in DETAIL (R370; assumption 82). -/
def borageEvent (k : Fin 64) (v : BitVec 64) : Ev :=
  { src := 704 + k.val, site := siteOfPage (chipletPage 12), detail := [v.toNat] }

theorem exec_evtraise {s : State} (up : (s.brgEnd 0).isSome = true) (k : Fin 64) (v : BitVec 64) :
    exec (.evtraise k v) s = .next (s.raise (borageEvent k v)) :=
  congrArg Host.Outcome.next (s.when_pos up)

end Sys2Proof.Machine
end

section
/-! PROOF. The event sources of Borage. -/

open Sys2Proof Sys2Proof.Machine

/-- Settles O12: EVTRAISE is a raise of source 704 + k; with the LOG bit and room the raise appends one record, and without the
LOG bit it is delivered and leaves the queue. -/
theorem borageEventSources : Obligations.BorageEventSources := by
  intro s k v brgUp up
  have known : definedSource (borageEvent k v).src = true := definedSource_borage k
  have small : (borageEvent k v).src < 768 := Nat.add_lt_add_left k.isLt 704
  have raised := exec_evtraise brgUp k v
  exact ⟨raised, .of_exec raised ⟨State.raise_pend known up small, State.raise_logs known up, State.raise_unlogged known up,
    State.raise_alert known up⟩⟩
end

section
/-! SUPPORT. Module ends under events, replays and the sending of what waits: which operations leave a module end, and what
those that change one leave of it. -/

namespace Sys2Proof.Machine

/-! ### Reading a module end -/

@[simp] theorem State.onMod_mod_same (s : State) (e : Nat) (f : ModuleEnd → ModuleEnd) : (s.onMod e f).mod e = f (s.mod e) := by
  simp [State.onMod, State.mod]

@[simp] theorem State.onMod_mod_ne (s : State) {e m : Nat} (f : ModuleEnd → ModuleEnd) (h : m ≠ e) :
    (s.onMod e f).mod m = s.mod m := by
  simp [State.onMod, State.mod, h]

theorem State.mod_congr {s t : State} (h : t.dunas = s.dunas) (m : Nat) : t.mod m = s.mod m := by
  simp [State.mod, h]

@[simp] theorem State.count_mod (s : State) (p code n m : Nat) : (s.count p code n).mod m = s.mod m :=
  State.mod_congr (by simp [State.count_keeps]) m

@[simp] theorem State.reach_mod (s : State) (t m : Nat) : (s.reach t).mod m = s.mod m :=
  State.mod_congr (by simp [State.reach_keeps]) m

@[simp] theorem State.drive_mod (s : State) (e : Nat) (f : BitVec 512) (m : Nat) : (s.drive e f).mod m = s.mod m := rfl

/-! ### Events -/

/-- A message that does not go to Borage uses no module end. -/
theorem State.emit_dunas {m : Msg} (h : m.toBorage = none) (s : State) : (s.emit m).dunas = s.dunas := by
  simp [State.emit, h]

@[simp] theorem State.sendBmc_dunas (s : State) (src : Nat) : (s.sendBmc src).dunas = s.dunas := by
  unfold State.sendBmc
  split
  · exact State.emit_dunas rfl s
  · rfl

@[simp] theorem State.sendMsix_dunas (s : State) (r : LogRec) (vec : Nat) : (s.sendMsix r vec).dunas = s.dunas := by
  unfold State.sendMsix State.toHost
  extract_lets ld up t
  have kept : t.dunas = s.dunas := by simp [t, State.onLd]
  split
  · split
    · exact kept
    · split
      · exact kept
      · split
        · split
          · exact (State.emit_dunas rfl _).trans kept
          · exact kept
        · exact kept
  · rfl

@[simp] theorem State.deliver_dunas (s : State) (r : LogRec) (route : BitVec 14) : (s.deliver r route).dunas = s.dunas := by
  simp [State.deliver, State.attention_keeps]

@[simp] theorem State.logIt_dunas (s : State) (r : LogRec) (vital : Bool) (dest : List (BitVec 14)) :
    (s.logIt r vital dest).dunas = s.dunas := by
  unfold State.logIt
  split
  · simp [State.retWrite_keeps]
  · simp [State.deliverAll]

@[simp] theorem State.raiseOne_dunas (s : State) (e : Ev) : (s.raiseOne e).dunas = s.dunas := by
  unfold State.raiseOne
  split
  · rfl
  · dsimp only
    split
    · exact State.logIt_dunas _ _ _ _
    · simp

/-- A raised event uses no module end: none of its messages goes to Borage. -/
@[simp] theorem State.raise_dunas (s : State) (e : Ev) : (s.raise e).dunas = s.dunas := by
  unfold State.raise
  dsimp only
  split <;> simp

@[simp] theorem State.raiseDlnk_mod (s : State) (e src code m : Nat) : (s.raiseDlnk e src code).mod m = s.mod m :=
  State.mod_congr (State.raise_dunas s _) m

/-! ### Link resets and flits that fail -/

@[simp] theorem State.crcFailed_mod (s : State) (e : Nat) :
    (s.crcFailed e).mod e = { s.mod e with crcErr := satAdd 0xFFFF (s.mod e).crcErr 1 } := by
  simp [State.crcFailed]

@[simp] theorem State.badFlit_mod (s : State) (e : Nat) : (s.badFlit e).mod e =
    { s.mod e with crcErr := satAdd 0xFFFF (s.mod e).crcErr 1, replayWait := true, from_ := none } := by
  simp [State.badFlit]

/-- The first link reset of an ACTIVE end takes it to LRESET, and its training pattern is sent (R343). -/
theorem State.enterLreset_first {s : State} {e : Nat} (active : (s.mod e).st = .active) (first : (s.mod e).lastLreset = none)
    (cause : Nat) : ((s.enterLreset e cause).mod e).st = .lreset ∧ Msg.trainPattern e ∈ (s.enterLreset e cause).out := by
  have pattern : (Msg.trainPattern e).toBorage = none := rfl
  simp only [State.enterLreset, active, first, Option.any_none, Bool.false_eq_true, if_false]
  refine ⟨?_, State.raise_sent _ ?_⟩
  · simp [State.mod_congr (State.emit_dunas pattern _)]
  · simp [State.emit, pattern]

theorem State.protoError_st {s : State} {e : Nat} (active : (s.mod e).st = .active) (first : (s.mod e).lastLreset = none) :
    ((s.protoError e).mod e).st = .lreset := by
  unfold State.protoError
  exact (State.enterLreset_first (by simpa using active) (by simpa using first) 3).1

/-! ### Sending what waits -/

/-- What the sending of messages leaves of a module end: its state, its replays in a row, and the credits that have come back
to it. -/
def ModuleEnd.pace (k : ModuleEnd) : DlnkState × Nat × List Nat := (k.st, k.inRow, k.returned)

theorem State.onMod_pace (s : State) (e m : Nat) {f : ModuleEnd → ModuleEnd} (h : ∀ k, (f k).pace = k.pace) :
    ((s.onMod e f).mod m).pace = (s.mod m).pace := by
  by_cases same : m = e
  · subst same
    rw [State.onMod_mod_same, h]
  · rw [State.onMod_mod_ne s f same]

theorem State.regSent_pace (s : State) (e m : Nat) (x : Msg) : ((s.regSent e x).mod m).pace = (s.mod m).pace := by
  unfold State.regSent
  split
  · exact s.onMod_pace e m fun _ => rfl
  · rfl

theorem State.sendFlits_pace (s : State) (e m : Nat) (l : List (BitVec 512)) :
    ((s.sendFlits e l).mod m).pace = (s.mod m).pace := by
  unfold State.sendFlits
  rw [State.each_inv (fun t : State => (t.mod m).pace) _ _ _ fun t f => by rw [State.drive_mod], State.count_mod]
  exact s.onMod_pace e m fun _ => rfl

theorem State.sendNow_pace (s : State) (e m : Nat) (x : Msg) (cls slots : Nat) :
    ((s.sendNow e x cls slots).mod m).pace = (s.mod m).pace := by
  unfold State.sendNow
  extract_lets fs t
  have consumed : (t.mod m).pace = ((s.regSent e x).mod m).pace := State.onMod_pace _ e m fun _ => rfl
  exact (State.sendFlits_pace _ e m fs).trans (consumed.trans (s.regSent_pace e m x))

theorem State.creditTimers_pace (s : State) (e m : Nat) : ((s.creditTimers e).mod m).pace = (s.mod m).pace :=
  s.onMod_pace e m fun _ => rfl

theorem State.pump_pace (n e m : Nat) (s : State) : ((State.pump n e s).mod m).pace = (s.mod m).pace := by
  induction n generalizing s with
  | zero => exact s.creditTimers_pace e m
  | succ n ih =>
    unfold State.pump
    dsimp only
    split
    · exact s.creditTimers_pace e m
    · rw [ih, State.sendNow_pace]
      exact s.onMod_pace e m fun _ => rfl

theorem State.pumpFwd_pace (n m : Nat) (s : State) : ((State.pumpFwd n s).mod m).pace = (s.mod m).pace := by
  induction n generalizing s with
  | zero => rfl
  | succ n ih =>
    unfold State.pumpFwd
    extract_lets l first may
    split
    next => rfl
    next p _ =>
      extract_lets t e u off tag r _ v
      have waited : (u.mod m).pace = (s.mod m).pace := t.onMod_pace e m fun _ => rfl
      have sent : (v.mod m).pace = (u.mod m).pace := by
        simp only [v]
        split <;> exact State.sendNow_pace _ _ _ _ _ _
      rw [ih, sent, waited]

/-- What an ACTIVE end sends after an acknowledgement leaves the pace of every end. -/
theorem State.pumpAll_pace (s : State) (e m : Nat) : ((s.pumpAll e).mod m).pace = (s.mod m).pace := by
  unfold State.pumpAll State.fwdTimers
  split
  · rw [State.each_inv (fun t : State => (t.mod m).pace) _ _ _ fun t e => t.creditTimers_pace e m, State.pumpFwd_pace,
      State.pump_pace]
  · rfl

/-! ### Replays -/

/-- A list of messages that is sent one by one has been sent. -/
theorem State.each_sends {α : Type} {f : State → α → State} {m : α → Msg} (s : State) (l : List α)
    (keeps : ∀ t a x, x ∈ State.out t → x ∈ (f t a).out) (sends : ∀ t a, m a ∈ (f t a).out) :
    ∀ a ∈ l, m a ∈ (s.each l f).out := by
  induction l generalizing s with
  | nil => simp
  | cons b l ih =>
    intro a listed
    rcases List.mem_cons.mp listed with rfl | later
    · exact State.each_sent (s := f s a) l (sends s a) fun t c => keeps t c _
    · exact ih (f s b) a later

/-- A flit leaves again in a replay (R353). -/
def State.resend (e : Nat) (s : State) (f : Nat × Nat × BitVec 512) : State := (s.emit (.msgFlit e f.1)).drive e f.2.2

theorem State.resend_mod (e : Nat) (s : State) (f : Nat × Nat × BitVec 512) (m : Nat) : (State.resend e s f).mod m = s.mod m :=
  State.mod_congr (State.emit_dunas rfl s) m

/-- A replay sends the flits of the replay buffer again, which keep their numbers, and counts (R353). -/
theorem State.replay_leaves {s : State} {e : Nat} (sent : (s.mod e).unacked ≠ []) :
    (s.replay e).mod e = { s.mod e with
      unacked := (s.mod e).unacked.map fun f => (f.1, s.now, f.2.2)
      replays := satAdd 0xFFFF (s.mod e).replays 1
      inRow := (s.mod e).inRow + 1 } ∧
    ∀ f ∈ (s.mod e).unacked, Msg.msgFlit e f.1 ∈ (s.replay e).out := by
  obtain ⟨u, r, listed⟩ := List.exists_cons_of_ne_nil sent
  have kept (l : List (Nat × Nat × BitVec 512)) : (((s.sendCtl e 1 [u.1]).each l (State.resend e)).mod e) = s.mod e :=
    (State.each_inv (fun t : State => t.mod e) _ _ _ fun t f => State.resend_mod e t f e).trans (s.sendCtl_mod e 1 _ e)
  have now (l : List (Nat × Nat × BitVec 512)) : ((s.sendCtl e 1 [u.1]).each l (State.resend e)).now = s.now := by
    simp [State.resend, State.drive_keeps, State.emit_keeps, State.sendCtl_keeps]
  have replays : s.replay e = ((((s.sendCtl e 1 [u.1]).each (u :: r) (State.resend e)).onMod e fun k => { k with
      unacked := k.unacked.map fun f => (f.1, ((s.sendCtl e 1 [u.1]).each (u :: r) (State.resend e)).now, f.2.2)
      replays := satAdd 0xFFFF k.replays 1, inRow := k.inRow + 1 }).count (modPage e 0) 0x11 (r.length + 1)) := by
    unfold State.replay
    rw [listed]
    rfl
  rw [replays]
  constructor
  · rw [State.count_mod, State.onMod_mod_same, kept, now]
  · rw [listed]
    intro f mem
    have out := State.each_sends (m := fun f => Msg.msgFlit e f.1) (s.sendCtl e 1 [u.1]) (u :: r) (f := State.resend e)
      (fun t a x h => State.drive_sent _ _ (State.emit_sent _ h)) (fun t a => State.drive_sent _ _ List.mem_cons_self) f mem
    exact State.sent_of_out (by simp [State.count_keeps, State.onMod_keeps]) out

/-! ### Acknowledgements -/

theorem State.sendAck_mod (s : State) (e : Nat) : (s.sendAck e).mod e = { s.mod e with rxUnacked := 0 } := by
  simp [State.sendAck, State.sendCtl_mod]

theorem State.sendAck_sent (s : State) (e : Nat) : Msg.ctlFlit e 0
    ((0x8000 + ((s.mod e).next_ + 4095) % 4096) :: (s.mod e).myReturned) ∈ (s.sendAck e).out :=
  State.drive_sent _ _ List.mem_cons_self

/-- An ACK_CREDIT acknowledges a flit of the replay buffer (R351). -/
def ModuleEnd.acked (k : ModuleEnd) (valid : Bool) (ackseq : Nat) : Bool := valid && k.unacked.any fun f => f.1 == ackseq

/-- The credits of a kind that a returned count brings back (R355). -/
def ModuleEnd.delta (k : ModuleEnd) (ret : List Nat) (i : Nat) : Nat := (ret.getD i 0 + 65536 - k.returned.getD i 0) % 65536

/-- Returned counts within those in use are stored; an acknowledgement drops its flits and starts the count of replays anew. What
the end then sends may refill the replay buffer of a Borage module (R351, R353-R355). -/
theorem State.takeAck_within {s : State} {e : Nat} {ret : List Nat} (valid : Bool) (ackseq : Nat)
    (active : (s.mod e).st = .active) (within : ∀ i < 8, (s.mod e).delta ret i ≤ (s.mod e).inUse i) :
    ((s.takeAck e valid ackseq ret).mod e).pace = (.active, if (s.mod e).acked valid ackseq then 0 else (s.mod e).inRow,
      (upTo 8).map fun i => ret.getD i 0) ∧
    (brgModEnd e = false → ((s.takeAck e valid ackseq ret).mod e).unacked = if (s.mod e).acked valid ackseq then
      ((s.mod e).unacked.dropWhile fun f => f.1 != ackseq).tail else (s.mod e).unacked) := by
  have fits : ((upTo 8).any fun i => decide ((s.mod e).inUse i < (s.mod e).delta ret i)) = false := by
    simpa [upTo] using within
  have stays : (s.mod e).gone = false := by simp [ModuleEnd.gone, active]
  unfold State.takeAck
  extract_lets k delta acked left raised t
  have fits' : ((upTo 8).any fun i => decide (k.inUse i < delta i)) = false := fits
  rw [if_neg (by simp [k, active]), if_neg (by simp [fits']), if_neg (by simp [k, stays])]
  constructor
  · rw [State.pumpAll_pace, State.onMod_mod_same]
    exact Prod.ext active rfl
  · intro inner
    have idle : t.pumpAll e = t := by simp [State.pumpAll, inner]
    rw [idle, State.onMod_mod_same]
    rfl

/-- A returned count beyond the credits in use is a protocol error (R355). -/
theorem State.takeAck_beyond {s : State} {e i : Nat} {ret : List Nat} (valid : Bool) (ackseq : Nat)
    (active : (s.mod e).st = .active) (small : i < 8) (beyond : (s.mod e).inUse i < (s.mod e).delta ret i) :
    s.takeAck e valid ackseq ret = s.protoError e := by
  have turns : ((s.mod e).st != .active && !((s.mod e).gone && !(s.mod e).unacked.isEmpty)) = false := by simp [active]
  have exceeds : ((upTo 8).any fun i => decide ((s.mod e).inUse i < (s.mod e).delta ret i)) = true := by
    simpa [upTo] using ⟨i, small, beyond⟩
  unfold State.takeAck
  dsimp only
  rw [turns]
  exact if_pos exceeds

end Sys2Proof.Machine
end

section
/-! SUPPORT. Received flits: which way MESSAGE_FLIT takes, the counts of a link-control flit, and the messages of Borage by
their headers (R346-R349, R352, R359-R361). -/

namespace Sys2Proof.Machine

/-! ### The ways of a flit -/

theorem Settles.of_exec {i : Instr} {s : State} {e : Nat} {f : State → State} {P : State → Prop}
    (h : exec i s = .next (s.fabricOp e f)) (p : P (f s)) : Settles i s e P := ⟨f s, h, p⟩

@[simp] theorem flitsCross_active : flitsCross .active = true := rfl

/-- The flit is no link-control flit that passes its CRC. -/
def isMessage (f : BitVec 512) : Prop := (flitKind f == 1 && flitOk f 0xF000) = false

/-- A flit that REPLAY_WAIT discards is counted where it is a link-control flit, which then fails its CRC (R352, R379). -/
theorem exec_messageFlit_discarded {s : State} {e : Fin 34} {f : BitVec 512} (active : (s.mod e.val).st = .active)
    (waits : (s.mod e.val).replayWait = true) (message : isMessage f) :
    exec (.messageFlit e f) s = .next (if flitKind f = 1 then s.crcFailed e.val else s) := by
  change execMessageFlit e f s = _
  rw [isMessage] at message
  simp only [execMessageFlit, flitsCross_active, message, waits, active, Bool.not_true, Bool.and_false, Bool.false_eq_true,
    if_false]
  by_cases control : flitKind f = 1
  · have fails : flitOk f 0xF000 = false := by simpa [control] using message
    simp [State.strayFlit, control, fails]
  · simp [State.strayFlit, control, active]

/-- A link-control flit that passes its CRC acts by its type (R349). -/
theorem exec_messageFlit_control {s : State} {e : Fin 34} {f : BitVec 512} (crosses : flitsCross (s.mod e.val).st = true)
    (control : flitKind f = 1) (good : flitOk f 0xF000 = true) :
    exec (.messageFlit e f) s = .next (s.fabricOp e.val fun s => s.takeCtl e.val f) := by
  change execMessageFlit e f s = _
  simp [execMessageFlit, crosses, control, good]

/-- Another flit at an ACTIVE end that waits for no replay is taken, and the messages that are then whole act (R348, R352). -/
theorem exec_messageFlit_taken {s : State} {e : Fin 34} {f : BitVec 512} (active : (s.mod e.val).st = .active)
    (ready : (s.mod e.val).replayWait = false) (message : isMessage f) :
    exec (.messageFlit e f) s = .next (s.fabricOp e.val fun s => State.gotMsgs e.val (s.takeFlit e.val f)) := by
  change execMessageFlit e f s = _
  rw [isMessage] at message
  simp [execMessageFlit, message, ready, active]

theorem isMessage_of_kind {f : BitVec 512} (h : flitKind f ≠ 1) : isMessage f := by simp [isMessage, h]

@[simp] theorem State.gotMsgs_nil (e : Nat) (s : State) : State.gotMsgs e (s, []) = s := by
  unfold State.gotMsgs
  split <;> rfl

section TakeFlit
variable {s : State} {e : Nat} {f : BitVec 512} (ready : (s.mod e).replayWait = false)
include ready

theorem State.takeFlit_bad (bad : flitOk f ((s.mod e).from_.getD (s.mod e).next_) = false) :
    s.takeFlit e f = (s.badFlit e, []) := by
  simp [State.takeFlit, ready, bad]

theorem State.takeFlit_otherKind (good : flitOk f ((s.mod e).from_.getD (s.mod e).next_) = true) (kind : flitKind f ≠ 0) :
    s.takeFlit e f = (s.protoError e, []) := by
  simp [State.takeFlit, ready, good, kind]

/-- A flit that is replayed ahead of NEXT is only counted along (R352). -/
theorem State.takeFlit_replayed (other : (s.mod e).from_.getD (s.mod e).next_ ≠ (s.mod e).next_)
    (good : flitOk f ((s.mod e).from_.getD (s.mod e).next_) = true) (kind : flitKind f = 0) :
    s.takeFlit e f = (s.onMod e fun k => { k with
      from_ := some (((s.mod e).from_.getD (s.mod e).next_ + 1) % 4096) }, []) := by
  simp [State.takeFlit, ready, good, kind, other]

/-- The flit numbered NEXT whose slots fit is accepted (R352). -/
theorem State.takeFlit_next {w : RxWalk} (next : (s.mod e).from_.getD (s.mod e).next_ = (s.mod e).next_)
    (good : flitOk f (s.mod e).next_ = true) (kind : flitKind f = 0) (reserved : bits (flitBytes f 0 4) 14 16 = 0)
    (fits : walkSlots e f (upTo 7) (s.mod e).rx = some w) : s.takeFlit e f = (s.tookFlit e w, w.done) := by
  simp [State.takeFlit, State.acceptFlit, ready, good, kind, next, reserved, fits]

end TakeFlit

/-! ### Counts of a link-control flit -/

theorem flitBytes_two_lt (f : BitVec 512) (i : Nat) : flitBytes f i 2 < 2 ^ 16 := by
  have first := (lineByte f i).isLt
  have second := (lineByte f (i + 1)).isLt
  simp only [flitBytes, upTo, List.range_succ, List.range_zero, List.nil_append, List.cons_append, List.foldl_cons,
    List.foldl_nil, Nat.add_zero, Nat.zero_mul, Nat.zero_add]
  omega

/-- The counts of a link-control flit are those of ACK_CREDIT's operand (R349). -/
theorem flitCounts_eq (f : BitVec 512) :
    ((upTo 8).map fun k => BitVec.ofNat 16 (flitBytes f (8 + 2 * k) 2)).map BitVec.toNat = flitCounts f := by
  rw [flitCounts, List.map_map]
  refine List.map_congr_left fun k _ => ?_
  exact (BitVec.toNat_ofNat _ _).trans (Nat.mod_eq_of_lt (flitBytes_two_lt f _))

/-! ### Header slots -/

/-- The fields of a header slot with its opcode, TAG, AGENT, two bits of ATTR, and address (R359). -/
theorem bits_header {o tag a line h : Nat} {u keep : Bool} (ho : o < 2 ^ 6) (ht : tag < 2 ^ 10) (ha : a < 2 ^ 4)
    (hl : line < 2 ^ 40)
    (header : h = 2 ^ 58 * o + 2 ^ 48 * tag + 2 ^ 44 * a + 2 ^ 43 * b2n u + 2 ^ 40 * b2n keep + line) :
    bits h 58 6 = o ∧ bits h 48 10 = tag ∧ bits h 44 4 = a ∧ (bits h 43 1 == 1) = u ∧ (bits h 40 1 == 1) = keep ∧
      bits h 0 40 = line := by
  simp only [bits, Nat.shiftRight_eq_div_pow]
  cases u <;> cases keep <;>
    (simp only [b2n, if_true, Bool.false_eq_true, if_false, beq_iff_eq, beq_eq_false_iff_ne] at *
     omega)

/-- A message of Borage acts as the command with the fields of its header and its data slots (R359-R361, R366-R370). -/
theorem State.gotMsg_acts (s : State) (a : Fin 16) (tag : BitVec 10) (line : BitVec 40) (u keep : Bool)
    (d : List (List Byte)) (o h : Nat)
    (header : h = 2 ^ 58 * o + 2 ^ 48 * tag.toNat + 2 ^ 44 * a.val + 2 ^ 43 * b2n u + 2 ^ 40 * b2n keep + line.toNat) :
    (o = 1 → .next (s.gotMsg (h, d)) = exec (.rdcur a tag line u) s) ∧
    (o = 2 → .next (s.gotMsg (h, d)) = exec (.rdshared a tag line u) s) ∧
    (o = 3 → .next (s.gotMsg (h, d)) = exec (.rdown a tag line u) s) ∧
    (o = 4 → .next (s.gotMsg (h, d)) = exec (.invown a tag line u) s) ∧
    (o = 5 → .next (s.gotMsg (h, d)) = exec (.cleanevict a tag line u) s) ∧
    (o = 6 → .next (s.gotMsg (h, d)) = exec (.wrfull a tag line keep (slotLine d 0)) s) ∧
    (o = 7 → .next (s.gotMsg (h, d)) = exec (.wrptl a tag line keep (BitVec.ofNat 64 (slotField d 0 1)) (slotLine d 1)) s) ∧
    (o = 8 → .next (s.gotMsg (h, d)) = exec (.wrback a tag line keep (slotLine d 0)) s) ∧
    (o = 24 → .next (s.gotMsg (h, d)) = exec (.fwdrddata tag (slotLine d 0) u) s) ∧
    (o = 40 → .next (s.gotMsg (h, d)) = exec (.snprsp a line .i none) s) ∧
    (o = 46 → .next (s.gotMsg (h, d)) = exec (.snpconflict a line) s) ∧
    (o = 56 → .next (s.gotMsg (h, d)) = exec (.regrsp tag (BitVec.ofNat 32 (slotField d 0 1)) u) s) := by
  refine ⟨?_, ?_, ?_, ?_, ?_, ?_, ?_, ?_, ?_, ?_, ?_, ?_⟩ <;>
    (rintro rfl
     obtain ⟨opcode, t, agent, up, keeps, address⟩ := bits_header (by decide) tag.isLt a.isLt line.isLt header
     simp only [State.gotMsg, opcode, t, agent, up, keeps, address]
     rfl)

/-! ### Timers -/

/-- The state in which the oldest flit that was not acknowledged has waited its time, where one waits (R351). -/
def State.ackDue (s : State) (e : Nat) : State :=
  s.when (decide (0 < (s.mod e).rxUnacked) && decide ((s.mod e).rxUnacked < 32)) fun t => t.reach ((s.mod e).rxOldestAt + 200)

theorem State.ackDue_mod (s : State) (e : Nat) : (s.ackDue e).mod e = s.mod e :=
  State.when_inv (fun t : State => t.mod e) s _ _ fun t => t.reach_mod _ e

theorem exec_ackTimer {s : State} {e : Fin 34} (active : (s.mod e.val).st = .active) :
    exec (.ackTimer e) s = .next ((s.ackDue e.val).sendAck e.val) := by
  change execAckTimer e s = _
  simp [execAckTimer, active, State.ackDue]

theorem exec_replayTimer {s : State} {e : Fin 34} (active : (s.mod e.val).st = .active) (sent : (s.mod e.val).unacked ≠ [])
    (few : (s.mod e.val).inRow < 4) :
    exec (.replayTimer e) s = .next ((s.reach ((s.mod e.val).oldest + us 1)).replay e.val) := by
  change execReplayTimer e s = _
  simp [execReplayTimer, active, sent, few]

/-- Between chiplets of the device the command tells of the four replays; at a Borage module the model has counted them (R353;
assumption 122). -/
theorem exec_replayLimit {s : State} {e : Fin 34} (active : (s.mod e.val).st = .active)
    (due : brgModEnd e.val = false ∨ (s.mod e.val).unacked ≠ [] ∧ 4 ≤ (s.mod e.val).inRow) :
    exec (.replayLimit e) s = .next (((if brgModEnd e.val then s.reach ((s.mod e.val).oldest + us 1)
      else s.onMod e.val fun k => { k with replays := satAdd 0xFFFF k.replays 4 }).raiseDlnk e.val 647 0).fabricOp e.val
        fun s => s.enterLreset e.val 2) := by
  change execReplayLimit e s = _
  cases borage : brgModEnd e.val with
  | false => simp [execReplayLimit, active, borage]
  | true =>
    obtain ⟨sent, four⟩ := due.resolve_left (by simp [borage])
    simp [execReplayLimit, active, borage, sent, four]

/-- Between chiplets of the device the command tells of the wait; at a Borage module the model has timed it (R356;
assumption 122). -/
theorem exec_creditTimeout {s : State} {e : Fin 34} {cls : MsgClass} {t0 : Nat} (active : (s.mod e.val).st = .active)
    (due : brgModEnd e.val = false ∨ look? (s.mod e.val).waiting (msgClassNo cls) = some t0) :
    exec (.creditTimeout e cls) s = .next (((s.when (brgModEnd e.val) fun s => s.reach (t0 + s.creditTo e.val)).raiseDlnk
      e.val 645 (msgClassNo cls)).fabricOp e.val fun s => s.enterLreset e.val 1) := by
  change execCreditTimeout e cls s = _
  cases borage : brgModEnd e.val with
  | false => simp [execCreditTimeout, active, borage]
  | true =>
    have waits := due.resolve_left (by simp [borage])
    simp [execCreditTimeout, active, borage, waits]

end Sys2Proof.Machine
end

section
/-! PROOF. Message flits, acknowledgement, replay and the timers of a module end. -/

open Sys2Proof Sys2Proof.Machine

/-- Settles O35: each clause is the way that its command takes at the end, and what the operation on that way leaves of the
end. -/
theorem flitsAcknowledgementAndReplay : Obligations.FlitsAcknowledgementAndReplay := by
  refine ⟨?_, ?_, ?_, ?_, ?_, State.gotMsg_acts, ?_, ?_, ?_, ?_, ?_, ?_, ?_, ?_, ?_⟩
  · intro s e f active waits message
    exact exec_messageFlit_discarded active waits message
  · intro s e f crosses control good acknowledges
    rw [exec_messageFlit_control crosses control good]
    change _ = Host.Outcome.next _
    refine congrArg Host.Outcome.next (congrArg (s.fabricOp e.val) (funext fun t => ?_))
    simp only [State.takeCtl, acknowledges, flitCounts_eq, bits_zero, BitVec.toNat_ofNat]
  · intro s e f active ready message bad
    refine .of_exec (exec_messageFlit_taken active ready message) ?_
    rw [State.takeFlit_bad ready bad, State.gotMsgs_nil, State.badFlit_mod]
  · intro s e f active ready message good kind first
    refine .of_exec (exec_messageFlit_taken active ready message) ?_
    rw [State.takeFlit_otherKind ready good kind, State.gotMsgs_nil]
    exact State.protoError_st active first
  · intro s e f w active ready next good kind reserved fits
    have run := exec_messageFlit_taken active ready (isMessage_of_kind (f := f) (by omega))
    have taken := State.takeFlit_next ready next good kind reserved fits
    constructor
    · intro outer
      rw [run, State.fabricOp, State.fabricOp, taken, State.gotMsgs, if_pos outer]
      rfl
    · intro inner
      refine .of_exec run ?_
      have acts : State.gotMsgs e.val (s.takeFlit e.val f) = s.tookFlit e.val w := by
        rcases inner with inner | nothing
        · rw [taken, State.gotMsgs, inner]
          rfl
        · rw [taken, nothing, State.gotMsgs_nil]
      rw [acts]
      simp [State.tookFlit, active]
  · intro s e f active ready other good kind
    refine .of_exec (exec_messageFlit_taken active ready (isMessage_of_kind (by omega))) ?_
    rw [State.takeFlit_replayed ready other good kind, State.gotMsgs_nil, State.onMod_mod_same]
  · intro s e seq active
    constructor
    · intro within
      refine .of_exec (f := fun s => s.takeReplayStart e.val seq.toNat) rfl ?_
      have behind : ¬(seq.toNat ≠ (s.mod e.val).next_ ∧ seqDist (s.mod e.val).next_ seq.toNat < 2048) := by omega
      simp [State.takeReplayStart, active, behind]
    · intro other ahead first
      refine .of_exec (f := fun s => s.takeReplayStart e.val seq.toNat) rfl ?_
      have proto : s.takeReplayStart e.val seq.toNat = s.protoError e.val := by
        simp [State.takeReplayStart, active, other, ahead]
      rw [proto]
      exact State.protoError_st active first
  · intro s e valid ackseq ret active within
    refine .of_exec (f := fun s => s.takeAck e.val valid ackseq.toNat (ret.map BitVec.toNat)) rfl ?_
    obtain ⟨pace, dropped⟩ := State.takeAck_within valid ackseq.toNat active within
    simp only [ModuleEnd.pace, Prod.mk.injEq] at pace
    obtain ⟨st, inRow, returned⟩ := pace
    exact ⟨st, inRow, returned, dropped⟩
  · intro s e valid ackseq ret i active small first beyond
    refine .of_exec (f := fun s => s.takeAck e.val valid ackseq.toNat (ret.map BitVec.toNat)) rfl ?_
    rw [State.takeAck_beyond valid ackseq.toNat active small beyond]
    exact State.protoError_st active first
  · intro s e active
    refine .of_exec (exec_ackTimer active) ?_
    rw [← State.ackDue_mod s e.val]
    exact ⟨State.sendAck_mod _ _, State.sendAck_sent _ _⟩
  · intro s e active sent few
    obtain ⟨counted, flits⟩ := State.replay_leaves (s := s.reach ((s.mod e.val).oldest + us 1)) (e := e.val)
      (by rwa [State.reach_mod])
    rw [State.reach_mod] at counted flits
    refine .of_exec (exec_replayTimer active sent few) ?_
    rw [counted]
    exact ⟨rfl, rfl, by simp, flits⟩
  · intro s e active due
    exact exec_replayLimit active due
  · intro s e cls t0 active due
    exact exec_creditTimeout active due
  · intro s e cause active first
    exact State.enterLreset_first active first cause
end

section
/-! SUPPORT. A register write of a host that waits behind another of its accesses has arrived on the host's link (R60). -/

namespace Sys2Proof.Machine

/-- A register write of a whole word that must wait is held once it has arrived (R60, R540). -/
theorem exec_registerWrite_waits {s : State} {m : Master} (off : BitVec 28) (val : Word) (aux : s.boot.aux = true)
    (waits : s.mustWait m = true) : exec (.registerWrite m off val 15) s =
      .next ((s.arrives m).holdAccess { m := m, off := off.toNat / 4 * 4, wr := some val }).goOn := by
  change execRegisterWrite m off val 15 s = _
  cases m <;> simp [execRegisterWrite, State.access, aux, waits]

/-- Link H0.0 is in L1, and a retained write of the host of logical device 0 is in progress. -/
def waitsInL1 : State :=
  { metadataStalls with ret := { queue := [{ key := 0x1000, val := 1, who := some (.host 0), at_ := 0 }] } }.onLink 0
    fun k => { k with st := .l1 }

end Sys2Proof.Machine
end

section
/-! PROOF. The statement on register accesses fails: its clause on a write that waits leaves out that a host's write has
arrived on the host's link. -/

open Sys2Proof Sys2Proof.Machine

/-- Refutes O38: a write of a host behind its own retained write is held (R540), and its arrival takes the host's link from L1 to
L0 (R60). The clause leaves the link in L1. -/
theorem not_registerAccesses : ¬ Obligations.RegisterAccesses := by
  intro h
  obtain ⟨-, -, holds, -⟩ := h
  have waits : waitsInL1.mustWait (.host 0) = true := by decide +kernel
  have claimed := holds waitsInL1 (.host 0) 0 0 rfl waits (by decide)
  injection (exec_registerWrite_waits 0 0 rfl waits).symm.trans claimed with same
  have arrived : ((((waitsInL1.arrives (.host 0)).holdAccess
    { m := .host 0, off := (0 : BitVec 28).toNat / 4 * 4, wr := some 0 }).goOn).link 0).st = .l0 := by decide +kernel
  rw [same] at arrived
  exact absurd arrived (by decide +kernel)
end

section
/-! SUPPORT. Every command and every step answers a next state, and what it leaves of the queue of waiting commands. -/

namespace Sys2Proof.Machine

/-- Every command answers a next state that has the same commands waiting; at the rise of AUX the time starts again. -/
theorem exec_next (i : Instr) (s : State) : ∃ t, exec i s = .next t ∧ t.pending = s.pending := by
  by_cases rise : ∃ b, i = .auxReset .auxRise b
  · obtain ⟨b, rfl⟩ := rise
    exact ⟨_, exec_auxRise b s, s.auxBoot_keeps true b⟩
  · obtain ⟨t, e, -, queue⟩ := exec_goes (fun b h => rise ⟨b, h⟩) s
    exact ⟨t, e, queue⟩

theorem exec_pending {i : Instr} {s t : State} (e : exec i s = .next t) : t.pending = s.pending := by
  obtain ⟨u, eu, queue⟩ := exec_next i s
  cases eu.symm.trans e
  exact queue

/-- A step answers a next state, in which the front command is gone from the queue. -/
theorem step_next (s : State) : ∃ t, step s = .next t ∧ t.pending = s.pending.tail := by
  cases queue : s.pending with
  | nil => exact ⟨_, step_of_empty queue, ((s.reach_keeps _).2.1).trans queue⟩
  | cons c rest =>
    obtain ⟨t, e, kept⟩ := exec_next c (s.withPending rest)
    exact ⟨t, (step_of_cons queue).trans e, kept⟩

/-- The block goes on: each of its steps answers a next state. -/
theorem safe_of_steps (n : Nat) (s : State) : Safe n s := by
  induction n generalizing s with
  | zero => exact ⟨s, rfl⟩
  | succ n ih =>
    obtain ⟨t, e, -⟩ := step_next s
    obtain ⟨u, run⟩ := ih t
    refine ⟨u, ?_⟩
    have first : core.step s = .next t := e
    simpa only [Host.Core.run, first] using run

end Sys2Proof.Machine
end

section
/-! PROOF. The step, its completion and the queue. -/

open Sys2Proof Sys2Proof.Machine

/-- Settles O1. -/
theorem stepRunsTheFrontCommand : Obligations.StepRunsTheFrontCommand :=
  ⟨fun _ _ _ front => step_of_cons front, fun _ _ => rfl⟩

/-- Settles O3: every command completes, and so does every step of a run. -/
theorem everyCommandCompletes : Obligations.EveryCommandCompletes :=
  ⟨fun i s => (exec_next i s).imp fun _ h => h.1, fun s => (step_next s).imp fun _ h => h.1, safe_of_steps⟩

/-- Settles O4. -/
theorem commandsLeaveTheQueue : Obligations.CommandsLeaveTheQueue := by
  refine ⟨fun i s t e => exec_pending e, fun s t e => ?_⟩
  obtain ⟨u, eu, queue⟩ := step_next s
  cases eu.symm.trans e
  exact queue
end

section
/-! SUPPORT. Frames: a meaning that answers a next state in which only the groups of a list may have changed. -/

namespace Sys2Proof.Machine

open Host (Outcome)

/-- What a list of groups leaves as it was, group by group. -/
theorem keepsBut_iff {l : List Part} {s t : State} : KeepsBut l s t ↔
    (Part.now ∉ l → t.now = s.now) ∧ (Part.free ∉ l → t.free = s.free) ∧ (Part.pending ∉ l → t.pending = s.pending) ∧
    (Part.out ∉ l → t.out = s.out) ∧ (Part.regs ∉ l → t.regs = s.regs) ∧ (Part.ret ∉ l → t.ret = s.ret) ∧
    (Part.evt ∉ l → t.evt = s.evt) ∧ (Part.flt ∉ l → t.flt = s.flt) ∧ (Part.obs ∉ l → t.obs = s.obs) ∧
    (Part.host ∉ l → t.host = s.host) ∧ (Part.amap ∉ l → t.amap = s.amap) ∧ (Part.mem ∉ l → t.mem = s.mem) ∧
    (Part.home ∉ l → t.home = s.home) ∧ (Part.ddr ∉ l → t.ddr = s.ddr) ∧ (Part.tier ∉ l → t.tier = s.tier) ∧
    (Part.dm ∉ l → t.dm = s.dm) ∧ (Part.dunas ∉ l → t.dunas = s.dunas) ∧ (Part.brg ∉ l → t.brg = s.brg) ∧
    (Part.clk ∉ l → t.clk = s.clk) ∧ (Part.hsc ∉ l → t.hsc = s.hsc) ∧ (Part.boot ∉ l → t.boot = s.boot) ∧
    (Part.core ∉ l → t.core = s.core) ∧ (Part.mgmt ∉ l → t.mgmt = s.mgmt) := by
  constructor
  · intro h
    exact ⟨h .now, h .free, h .pending, h .out, h .regs, h .ret, h .evt, h .flt, h .obs, h .host, h .amap, h .mem, h .home,
      h .ddr, h .tier, h .dm, h .dunas, h .brg, h .clk, h .hsc, h .boot, h .core, h .mgmt⟩
  · rintro ⟨now, free, pending, out, regs, ret, evt, flt, obs, host, amap, mem, home, ddr, tier, dm, dunas, brg, clk, hsc,
      boot, core, mgmt⟩ p
    cases p <;> assumption

theorem KeepsBut.refl (l : List Part) (s : State) : KeepsBut l s s := fun p _ => by cases p <;> rfl

theorem Part.same_trans {p : Part} {s t u : State} (h : p.same s t) (k : p.same t u) : p.same s u := by
  cases p <;> exact Eq.trans k h

theorem KeepsBut.trans {l : List Part} {s t u : State} (h : KeepsBut l s t) (k : KeepsBut l t u) : KeepsBut l s u :=
  fun p n => Part.same_trans (h p n) (k p n)

theorem KeepsBut.mono {l m : List Part} {s t : State} (h : KeepsBut l s t) (sub : l ⊆ m) : KeepsBut m s t :=
  fun p n => h p fun i => n (sub i)

/-- A meaning answers a next state in which only the groups of a list may have changed. -/
def Moves (l : List Part) (s : State) (o : Outcome State Fault Refusal) : Prop := ∃ t, o = .next t ∧ KeepsBut l s t

@[simp] theorem moves_next {l : List Part} {s t : State} : Moves l s (.next t) ↔ KeepsBut l s t :=
  ⟨fun ⟨_, e, h⟩ => by cases e; exact h, fun h => ⟨t, rfl, h⟩⟩

theorem Moves.next {l : List Part} {s t : State} (h : KeepsBut l s t) : Moves l s (.next t) := moves_next.2 h

theorem Moves.changes {l : List Part} {i : Instr} (h : ∀ s, Moves l s (exec i s)) : Changes l i := h

theorem State.when_keepsBut {l : List Part} {s : State} {b : Bool} {f : State → State} (h : KeepsBut l s (f s)) :
    KeepsBut l s (s.when b f) := by
  cases b
  · exact .refl l s
  · exact h

theorem State.each_keepsBut {l : List Part} {s : State} {α : Type} {xs : List α} {f : State → α → State}
    (h : ∀ t a, KeepsBut l t (f t a)) : KeepsBut l s (s.each xs f) :=
  foldl_holds (P := KeepsBut l s) (.refl l s) fun t a k => k.trans (h t a)

/-- The groups in which a register write may leave its mark beside what its effect moves: the access reaches its page, is refused
or waits, and its fields are stored (R540, R544). -/
def accessParts : List Part := [.now, .out, .regs, .ret, .evt, .obs, .host, .amap, .ddr, .dunas, .brg, .clk, .mgmt]

/-- The groups that a raised event may move: its record, its deliveries and their messages (R502). -/
def eventParts : List Part := [.out, .ret, .evt, .obs, .host, .dunas]

/-- The groups that a request may move which a home slice serves (R136-R142). -/
def serveParts : List Part :=
  [.free, .out, .regs, .ret, .evt, .flt, .obs, .host, .amap, .mem, .home, .ddr, .tier, .dunas, .mgmt]

/-- The groups that the loss or reset of host ports may move (R66, R77). -/
def portLossParts : List Part :=
  [.free, .out, .regs, .ret, .evt, .flt, .obs, .host, .amap, .mem, .home, .ddr, .tier, .dm, .dunas, .brg, .clk, .mgmt]

/-- The groups that a fault and its reaction may move (R490). -/
def faultParts : List Part :=
  [.free, .out, .regs, .ret, .evt, .flt, .obs, .host, .amap, .mem, .home, .ddr, .tier, .dm, .dunas, .brg, .clk, .hsc, .mgmt]

/-- The groups that a write of AMAP.TCMD may move (R128). -/
def mapWriteParts : List Part :=
  [.now, .free, .out, .regs, .ret, .evt, .flt, .obs, .host, .amap, .mem, .home, .ddr, .tier, .dunas, .brg, .clk, .mgmt]

/-- A register write moves what every access may move, and what its effect does. -/
theorem State.gate_keepsBut {l : List Part} {s : State} {m : Master} {off : Nat} {v : Word} {act : State → State}
    (sub : accessParts ⊆ l) (h : ∀ t, KeepsBut l t (act t)) : KeepsBut l s (s.gate m off v act) := by
  intro p n
  have acts (t : State) : p.same t (act t) := h t p n
  cases p
  case free => exact s.gate_free m off v act acts
  case pending => exact s.gate_pending m off v act acts
  case flt => exact s.gate_flt m off v act acts
  case mem => exact s.gate_mem m off v act acts
  case home => exact s.gate_home m off v act acts
  case tier => exact s.gate_tier m off v act acts
  case dm => exact s.gate_dm m off v act acts
  case hsc => exact s.gate_hsc m off v act acts
  case boot => exact s.gate_boot m off v act acts
  case core => exact s.gate_core m off v act acts
  all_goals exact absurd (sub (by decide)) n

theorem State.dmqWrite_keepsBut {l : List Part} {s : State} {m : Master} {q x : Nat} {v : Word} {act : State → State}
    (sub : accessParts ⊆ l) (h : ∀ t, KeepsBut l t (act t)) : KeepsBut l s (s.dmqWrite m q x v act) := by
  unfold State.dmqWrite
  split
  · exact s.gate_keepsBut sub h
  · exact .refl l s

theorem State.onChan_keepsBut {s : State} {c : Nat} {f : Channel → Channel} : KeepsBut [.ddr] s (s.onChan c f) := by
  simp [keepsBut_iff, State.onChan_keeps]

theorem State.raiseChan_keepsBut {s : State} {c k e n : Nat} {l : List Nat} :
    KeepsBut [.out, .ret, .evt, .obs, .host, .dunas] s (s.raiseChan c k e n l) := by
  simp [keepsBut_iff, State.raiseChan_keeps]

/-- A change of a channel at the end of a wait. -/
theorem State.reach_onChan_keepsBut {s : State} {t c : Nat} {f : Channel → Channel} :
    KeepsBut [.now, .obs, .ddr] s ((s.reach t).onChan c f) :=
  .trans ((s.reach_keepsBut t).mono (by decide)) (State.onChan_keepsBut.mono (by decide))

/-- A message that reaches the active core over a logical device's mailbox moves its link, and what its serving does (R474). -/
theorem State.mailbox_keepsBut {l : List Part} {s : State} {ld : Fin 64} {i : CoreMsg} (sub : [Part.host, .mgmt] ⊆ l)
    (h : ∀ t, KeepsBut l t (t.serve i)) : KeepsBut l s (s.mailbox ld i) := by
  refine s.when_keepsBut (.trans (t := s.heard ld.val) (.mono (l := [.host, .mgmt]) ?_ sub) ?_)
  · simp [keepsBut_iff, State.heard_keeps]
  unfold State.toCore
  split
  · exact .mono (l := [.host, .mgmt]) (by simp [keepsBut_iff, State.onMgmt_keeps]) sub
  · exact h _

/-- The groups that the end of a descriptor and the reads for its operands may move. -/
def descParts : List Part :=
  [.free, .out, .regs, .ret, .evt, .flt, .obs, .host, .amap, .mem, .home, .ddr, .tier, .dm, .dunas, .mgmt]

theorem State.failDesc_keepsBut {s : State} {q ix st off : Nat} : KeepsBut descParts s (s.failDesc q ix st off) := by
  simp [keepsBut_iff, descParts, State.failDesc_keeps]

theorem State.dmOp_keepsBut {s : State} {q ix op : Nat} {work : Desc → State} (h : ∀ d, KeepsBut descParts s (work d)) :
    KeepsBut descParts s (s.dmOp q ix op work) := by
  unfold State.dmOp
  split
  · exact .refl _ s
  · split
    · exact .refl _ s
    · split
      · exact s.failDesc_keepsBut
      · exact h _

theorem State.withRoom_keepsBut {s : State} {q n : Nat} {d : Desc} {work : State} (h : KeepsBut descParts s work) :
    KeepsBut descParts s (s.withRoom q d n work) := by
  unfold State.withRoom
  split
  · exact s.failDesc_keepsBut
  · exact h

theorem State.withSource_keepsBut {s : State} {q : Nat} {d : Desc} {work : State → List (Option Byte) → State}
    (h : ∀ t b, KeepsBut descParts t (work t b)) : KeepsBut descParts s (s.withSource q d work) := by
  unfold State.withSource
  extract_lets r
  have operand : KeepsBut descParts s r.1 := by simp [r, keepsBut_iff, descParts, State.operand_keeps]
  split
  · exact operand
  · exact operand.trans State.failDesc_keepsBut
  · exact operand.trans (h _ _)

end Sys2Proof.Machine
end

section
/-! SUPPORT. Which groups of the state the commands of the host ports move, by the operations
of their meanings: an operation `State.op` that a command runs leaves what its lemma `State.op_keeps` says. -/

namespace Sys2Proof.Machine

theorem execPerstNRelease_moves (g s) : Moves [.host] s (execPerstNRelease g s) := by
  unfold execPerstNRelease; dsimp only
  (repeat' split) <;> simp [keepsBut_iff, State.onGrp_keeps, State.onLink_keeps]

theorem execRecoveryEntry_moves (l byHost s) : Moves [.host] s (execRecoveryEntry l byHost s) := by
  refine .next (s.when_keepsBut ?_)
  (repeat' split) <;> simp [keepsBut_iff, State.onLink_keeps]

theorem execL1Exit_moves (l s) : Moves [.host] s (execL1Exit l s) :=
  .next (s.when_keepsBut (by simp [keepsBut_iff, State.onLink_keeps]))

theorem execHostMarginCommand_moves (g lane s) : Moves [.host] s (execHostMarginCommand g lane s) :=
  .next (by simp [keepsBut_iff, State.onGrp_keeps])

theorem execPmeTurnOff_moves (l s) : Moves [.regs, .host] s (execPmeTurnOff l s) :=
  .next (by simp [keepsBut_iff, State.onLink_keeps, State.unlockIfDown_keeps])

theorem execL1Entry_moves (l s) : Moves [.now, .obs, .host] s (execL1Entry l s) :=
  .next (s.when_keepsBut (by simp [keepsBut_iff, State.reach_keeps, State.onLink_keeps]))

theorem execAttentionPulseStart_moves (g s) : Moves [.now, .obs, .host] s (execAttentionPulseStart g s) := by
  unfold execAttentionPulseStart; dsimp only
  (repeat' split) <;> simp [keepsBut_iff, State.reach_keeps, State.onGrp_keeps]

theorem execAttentionPulseEnd_moves (g s) : Moves [.now, .obs, .host] s (execAttentionPulseEnd g s) := by
  unfold execAttentionPulseEnd; dsimp only
  (repeat' split) <;> simp [keepsBut_iff, State.reach_keeps, State.onGrp_keeps]

theorem execConfigRequest_moves (ld fn op s) : Moves [.out, .obs, .host, .dunas] s (execConfigRequest ld fn op s) := by
  unfold execConfigRequest; dsimp only
  (repeat' split) <;> simp [keepsBut_iff, State.arriveOn_keeps, State.toHost_keeps, State.configWrite_keeps]

theorem execHostLinkRequest_moves (l r s) : Moves eventParts s (execHostLinkRequest l r s) := by
  unfold execHostLinkRequest; dsimp only
  (repeat' split) <;> simp [keepsBut_iff, eventParts, State.onLink_keeps, State.l0pTo_keeps]

theorem execL0pWiden_moves (l agreed s) : Moves eventParts s (execL0pWiden l agreed s) := by
  refine .next (s.when_keepsBut ?_)
  (repeat' split) <;> simp [keepsBut_iff, eventParts, State.l0pTo_keeps, State.onLink_keeps]

theorem execMarginDone_moves (g lane s) : Moves eventParts s (execMarginDone g lane s) :=
  .next (s.when_keepsBut (by simp [keepsBut_iff, eventParts, State.onGrp_keeps, State.raiseLink_keeps]))

theorem execLinkFlitCrcError_moves (l s) : Moves eventParts s (execLinkFlitCrcError l s) := by
  unfold execLinkFlitCrcError; dsimp only
  (repeat' split) <;> simp [keepsBut_iff, eventParts, State.onLink_keeps, State.raiseLink_keeps]

theorem execL0pNarrow_moves (l w agreed s) :
    Moves [.now, .out, .ret, .evt, .obs, .host, .dunas] s (execL0pNarrow l w agreed s) := by
  refine .next (s.when_keepsBut ?_); dsimp only
  (repeat' split) <;> simp [keepsBut_iff, State.reach_keeps, State.l0pTo_keeps, State.onLink_keeps]

theorem execLinkUp_moves (l o s) : Moves [.out, .ret, .evt, .obs, .host, .home, .dunas] s (execLinkUp l o s) :=
  .next (s.when_keepsBut (by simp [keepsBut_iff, State.linkTrained_keeps]))

theorem execFlrInitiate_moves (ld s) :
    Moves [.out, .regs, .ret, .evt, .obs, .host, .home, .dm, .dunas] s (execFlrInitiate ld s) :=
  .next (s.when_keepsBut (by simp [keepsBut_iff, State.heard_keeps, State.stopQueue_keeps, State.onLd_keeps,
    State.freeLocks_keeps]))

theorem execRequesterCompletion_moves (ld tag addr data st s) :
    Moves [.out, .regs, .ret, .evt, .obs, .host, .home, .dm, .dunas] s
      (execRequesterCompletion ld tag addr data st s) := by
  unfold execRequesterCompletion
  (repeat' split) <;> simp [keepsBut_iff, State.useLink_keeps, State.hostPiece_keeps]

theorem execFlrComplete_moves (ld s) :
    Moves [.out, .ret, .evt, .obs, .host, .dunas, .brg, .clk, .mgmt] s (execFlrComplete ld s) :=
  .next (s.when_keepsBut (by simp [keepsBut_iff, State.clearFunction_keeps, State.raiseLd_keeps]))

theorem execReqCto_moves (ld tag s) :
    Moves [.now, .out, .regs, .ret, .evt, .obs, .host, .home, .dm, .dunas] s (execReqCto ld tag s) := by
  unfold execReqCto; dsimp only
  (repeat' split) <;> simp [keepsBut_iff, State.reach_keeps, State.readFailed_keeps, State.raiseLd_keeps]

theorem execAttnTest_moves (m g s) : Moves accessParts s (execAttnTest m g s) :=
  .next (s.gate_keepsBut (by decide) (by simp [keepsBut_iff, accessParts, State.attention_keeps]))

theorem execRetrain_moves (m l s) : Moves accessParts s (execRetrain m l s) :=
  .next (s.gate_keepsBut (by decide) (by simp [keepsBut_iff, accessParts, State.retrainLink_keeps]))

theorem execMemspecrd_moves (l ld hpa tag s) : Moves serveParts s (execMemspecrd l ld hpa tag s) :=
  .next (by simp [keepsBut_iff, serveParts, State.takeFree_keeps, State.memCommand_keeps])

theorem execAgentSweepEnd_moves (w s) :
    Moves [.free, .out, .regs, .ret, .evt, .flt, .obs, .host, .amap, .mem, .home, .ddr, .tier, .dunas, .brg, .mgmt] s
      (execAgentSweepEnd w s) := by
  unfold execAgentSweepEnd
  (repeat' split) <;> simp [keepsBut_iff, State.linkSwept_keeps, State.sweepDone_keeps, State.brgSwept_keeps]

theorem execHrdyRelease_moves (g s) :
    Moves [.now, .free, .out, .regs, .ret, .evt, .flt, .obs, .host, .amap, .mem, .home, .ddr, .tier, .dunas, .boot,
      .mgmt] s
      (execHrdyRelease g s) := by
  unfold execHrdyRelease
  exact .next (.trans (s.when_keepsBut (by simp [keepsBut_iff, State.endDiscard_keeps]))
    (.trans (State.when_keepsBut (by simp [keepsBut_iff, State.devRecovered_keeps]))
      (State.when_keepsBut (by simp [keepsBut_iff, State.releaseGrp_keeps]))))

theorem execPerstNAssert_moves (g s) : Moves portLossParts s (execPerstNAssert g s) :=
  .next (by simp [keepsBut_iff, portLossParts, State.resetGroup_keeps, State.onGrp_keeps])

theorem execRecoveryExit_moves (l res s) : Moves portLossParts s (execRecoveryExit l res s) := by
  refine .next (s.when_keepsBut ?_)
  (repeat' split) <;> simp [keepsBut_iff, portLossParts, State.recovered_keeps, State.linkLost_keeps]

theorem execLinkDown_moves (l s) : Moves portLossParts s (execLinkDown l s) :=
  .next (s.when_keepsBut (by simp [keepsBut_iff, portLossParts, State.linkLost_keeps]))

theorem execHotReset_moves (l s) : Moves portLossParts s (execHotReset l s) :=
  .next (s.when_keepsBut (by simp [keepsBut_iff, portLossParts, State.resetPort_keeps, State.onLink_keeps]))

theorem execLinkDisable_moves (l s) : Moves portLossParts s (execLinkDisable l s) :=
  .next (s.when_keepsBut (by simp [keepsBut_iff, portLossParts, State.linkLost_keeps, State.onLink_keeps]))

end Sys2Proof.Machine
end

section
/-! PROOF. The frames of the commands of the host ports. -/

open Sys2Proof Sys2Proof.Machine

/-- Settles O57: each command moves the groups that its operations move. -/
theorem framesOfHostPortCommands : Obligations.FramesOfHostPortCommands :=
  ⟨execPerstNRelease_moves, execRecoveryEntry_moves, execL1Exit_moves, execHostMarginCommand_moves, execPmeTurnOff_moves,
    execL1Entry_moves, execAttentionPulseStart_moves, execAttentionPulseEnd_moves, execConfigRequest_moves,
    execHostLinkRequest_moves, execL0pWiden_moves, execMarginDone_moves, execLinkFlitCrcError_moves, execL0pNarrow_moves,
    execLinkUp_moves, execFlrInitiate_moves, execRequesterCompletion_moves, execFlrComplete_moves, execReqCto_moves,
    execAttnTest_moves, execRetrain_moves, execMemspecrd_moves, execAgentSweepEnd_moves, execHrdyRelease_moves,
    execPerstNAssert_moves, execRecoveryExit_moves, execLinkDown_moves, execHotReset_moves, execLinkDisable_moves⟩
end

section
/-! SUPPORT. Which groups of the state the commands of the address map, the home slices, the channels, the tiers and the counter tree move, by the operations
of their meanings: an operation `State.op` that a command runs leaves what its lemma `State.op_keeps` says. -/

namespace Sys2Proof.Machine

theorem execQuickRetrain_moves (c s) : Moves [.ddr] s (execQuickRetrain c s) :=
  .next (s.when_keepsBut (by simp [keepsBut_iff, State.onChan_keeps]))

theorem execHdmDecoderCommit_moves (ld dec base size skip ways gran ctl s) :
    Moves [.host] s (execHdmDecoderCommit ld dec base size skip ways gran ctl s) := by
  unfold execHdmDecoderCommit; dsimp only
  (repeat' split) <;> simp [keepsBut_iff, State.onLd_keeps]

theorem execRetagEnd_moves (hs s) : Moves [.mem] s (execRetagEnd hs s) :=
  .next (by simp [keepsBut_iff, State.setRetags_keeps])

theorem execCompactionStart_moves (u set cls s) : Moves [.tier] s (execCompactionStart u set cls s) := by
  unfold execCompactionStart; dsimp only
  (repeat' split) <;> simp [keepsBut_iff]

theorem execDqsTrack_moves (c s) : Moves [.now, .obs, .ddr] s (execDqsTrack c s) :=
  .next (s.when_keepsBut State.reach_onChan_keepsBut)

theorem execRefreshDue_moves (c rank sub busy s) : Moves [.now, .obs, .ddr] s (execRefreshDue c rank sub busy s) := by
  refine .next (s.when_keepsBut ?_); dsimp only
  (repeat' split) <;> simp [keepsBut_iff, State.reach_keeps, State.nextDue_keeps, State.onChan_keeps,
    State.refreshNow_keeps, State.rankTurn_keeps]

theorem execRefreshRepay_moves (c rank sub s) : Moves [.now, .obs, .ddr] s (execRefreshRepay c rank sub s) :=
  .next (s.when_keepsBut (by simp [keepsBut_iff, State.reach_keeps, State.rankTurn_keeps]))

theorem execMr4Poll_moves (c ranks s) : Moves [.now, .obs, .ddr] s (execMr4Poll c ranks s) :=
  .next (s.when_keepsBut State.reach_onChan_keepsBut)

theorem execCeWindowStep_moves (c s) : Moves [.now, .obs, .ddr] s (execCeWindowStep c s) := by
  unfold execCeWindowStep
  extract_lets c waited aged still
  have aged_keeps : KeepsBut [.now, .obs, .ddr] s aged := State.reach_onChan_keepsBut
  clear_value still aged
  exact .next (aged_keeps.trans (State.onChan_keepsBut.mono (by decide)))

theorem execChunkInit_moves (chunk s) : Moves [.now, .obs, .mem] s (execChunkInit chunk s) :=
  .next (s.when_keepsBut (by simp [keepsBut_iff, State.reach_keeps, State.initChunk_keeps]))

theorem execHotnessEpochAdvance_moves (s) : Moves [.now, .obs, .tier] s (execHotnessEpochAdvance s) :=
  .next (s.when_keepsBut (by simp [keepsBut_iff, State.reach_keeps]))

theorem execBiconflict_moves (agent line s) : Moves [.out, .obs, .host, .dunas] s (execBiconflict agent line s) :=
  .next (s.when_keepsBut (by simp [keepsBut_iff, State.toHost_keeps]))

theorem execCaAlert_moves (c rank s) : Moves [.out, .ret, .evt, .obs, .host, .ddr, .dunas] s (execCaAlert c rank s) :=
  .next (s.when_keepsBut (by simp [keepsBut_iff, State.onChan_keeps, State.raiseChan_keeps]))

theorem execRfmRequest_moves (c rank sub bg ba s) :
    Moves [.out, .ret, .evt, .obs, .host, .ddr, .dunas] s (execRfmRequest c rank sub bg ba s) :=
  .next (s.when_keepsBut (by simp [keepsBut_iff, State.bankTurn_keeps, State.raiseChan_keeps]))

theorem execHardRepairEnd_moves (c ok s) :
    Moves [.out, .ret, .evt, .obs, .host, .ddr, .dunas] s (execHardRepairEnd c ok s) := by
  unfold execHardRepairEnd; dsimp only
  (repeat' split) <;> simp [keepsBut_iff, State.onChan_keeps, State.storeRepairs_keeps, State.raiseChan_keeps]

theorem execPromoteDomainEnd_moves (s) :
    Moves [.out, .ret, .evt, .obs, .host, .tier, .dunas] s (execPromoteDomainEnd s) := by
  unfold execPromoteDomainEnd; dsimp only
  (repeat' split) <;> simp [keepsBut_iff, State.raiseAt_keeps]

theorem execEngineRecovered_moves (e s) :
    Moves [.out, .ret, .evt, .obs, .host, .tier, .dunas] s (execEngineRecovered e s) :=
  .next (s.when_keepsBut (by simp [keepsBut_iff, State.onEng_keeps, State.raiseEng_keeps]))

theorem execAutoRecall_moves (s) : Moves [.now, .out, .ret, .evt, .obs, .host, .amap, .dunas] s (execAutoRecall s) := by
  unfold execAutoRecall; dsimp only
  (repeat' split) <;> simp [keepsBut_iff, State.reach_keeps, State.recallExt_keeps]

theorem execEngineFault_moves (e verify s) :
    Moves [.out, .ret, .evt, .flt, .obs, .host, .home, .tier, .dunas] s (execEngineFault e verify s) := by
  refine .next (s.when_keepsBut ?_)
  (repeat' split) <;> simp [keepsBut_iff, State.verifyFail_keeps, State.engineOut_keeps]

theorem execResilverEnd_moves (c s) :
    Moves [.now, .out, .ret, .evt, .flt, .obs, .host, .mem, .ddr, .dunas] s (execResilverEnd c s) := by
  refine .next (s.when_keepsBut ?_); dsimp only
  (repeat' split) <;> simp [keepsBut_iff, State.reach_keeps, State.walkSilver_keeps, State.setMir_keeps]

theorem execExtentEraseEnd_moves (ext s) :
    Moves [.free, .out, .ret, .evt, .obs, .host, .amap, .mem, .home, .tier, .dunas] s (execExtentEraseEnd ext s) := by
  unfold execExtentEraseEnd; dsimp only
  (repeat' split) <;> simp [keepsBut_iff, State.returnPages_keeps, State.forgetPages_keeps, State.freeRunOf_keeps,
    State.onDom_keeps, State.onExt_keeps, State.advanceEpoch_keeps, State.extEvent_keeps, State.levels_keeps]

theorem execExtentDrainEnd_moves (ext s) :
    Moves [.free, .out, .ret, .evt, .flt, .obs, .host, .amap, .mem, .ddr, .tier, .dunas] s
      (execExtentDrainEnd ext s) :=
  .next (s.when_keepsBut (by simp [keepsBut_iff, State.toErase_keeps]))

theorem execMcacheClean_moves (hs s) :
    Moves [.free, .out, .ret, .evt, .flt, .obs, .host, .amap, .mem, .ddr, .tier, .dunas] s (execMcacheClean hs s) :=
  .next (s.when_keepsBut (by simp [keepsBut_iff, State.cleanTo_keeps]))

theorem execDramReadReturn_moves (c off err perr s) :
    Moves [.free, .out, .ret, .evt, .flt, .obs, .host, .amap, .mem, .ddr, .tier, .dunas] s
      (execDramReadReturn c off err perr s) := by
  unfold execDramReadReturn; dsimp only
  (repeat' split) <;> simp [keepsBut_iff, State.takeFree_keeps, State.copyWalk_keeps, State.corrected_keeps,
    State.fromPartner_keeps, State.countUe_keeps, State.fileP_keeps, State.foundBad_keeps, State.tagRaised_keeps,
    State.foundTagFail_keeps]

theorem execChannelDrainEnd_moves (c s) :
    Moves [.free, .out, .ret, .evt, .flt, .obs, .host, .amap, .mem, .ddr, .tier, .dunas] s (execChannelDrainEnd c s) :=
  .next (s.when_keepsBut (by simp [keepsBut_iff, State.endDrain_keeps]))

theorem execRetagStep_moves (hs s) :
    Moves [.free, .out, .ret, .evt, .flt, .obs, .host, .amap, .mem, .ddr, .tier, .dunas] s (execRetagStep hs s) := by
  unfold execRetagStep; dsimp only
  (repeat' split) <;> simp [keepsBut_iff, State.retagChild_keeps]

theorem execOverwriteWrite_moves (s) :
    Moves [.now, .free, .out, .ret, .evt, .obs, .host, .amap, .mem, .ddr, .tier, .dunas] s (execOverwriteWrite s) := by
  unfold execOverwriteWrite; dsimp only
  (repeat' split) <;> simp [keepsBut_iff, State.reach_keeps, State.putMedia_keeps, State.releaseFrame_keeps,
    State.releaseBin_keeps, State.levels_keeps, State.raiseAt_keeps]

theorem execSpareCopyEnd_moves (c s) :
    Moves [.now, .out, .ret, .evt, .flt, .obs, .host, .amap, .mem, .ddr, .tier, .dunas] s (execSpareCopyEnd c s) := by
  unfold execSpareCopyEnd; dsimp only
  (repeat' split) <;> simp [keepsBut_iff, State.reach_keeps, State.walkSpare_keeps, State.leaveRank_keeps,
    State.onChan_keeps, State.raiseChan_keeps, State.nextJob_keeps]

theorem execAddDcResponse_moves (ld ext gen accept s) :
    Moves [.free, .out, .ret, .evt, .flt, .obs, .host, .amap, .mem, .ddr, .tier, .dunas, .mgmt] s
      (execAddDcResponse ld ext gen accept s) :=
  .next (s.mailbox_keepsBut (by decide) (by simp [keepsBut_iff, State.serve, State.dcAnswer_keeps]))

theorem execOfferToExpiry_moves (ext s) :
    Moves [.now, .free, .out, .ret, .evt, .flt, .obs, .host, .amap, .mem, .ddr, .tier, .dunas] s
      (execOfferToExpiry ext s) := by
  unfold execOfferToExpiry; dsimp only
  (repeat' split) <;> simp [keepsBut_iff, State.reach_keeps, State.settleOffer_keeps]

theorem execScrubRead_moves (c err s) :
    Moves [.now, .free, .out, .ret, .evt, .flt, .obs, .host, .amap, .mem, .ddr, .tier, .dunas] s
      (execScrubRead c err s) := by
  unfold execScrubRead
  refine .next (s.when_keepsBut ?_)
  extract_lets r drawn off v bad found n
  have drawn_keeps : KeepsBut [.now, .free, .obs] s drawn := by
    simp only [drawn, keepsBut_iff, State.reach_keeps, State.takeFree_keeps]
    simp
  clear_value drawn r
  have found_keeps : KeepsBut [.out, .ret, .evt, .flt, .obs, .host, .amap, .mem, .ddr, .tier, .dunas] drawn found := by
    simp only [found]
    split
    · simp [keepsBut_iff, State.scrubBad_keeps, State.countUe_keeps, State.raiseChan_keeps]
    · cases r with
      | corrected d =>
        dsimp only
        split
        · exact .refl _ _
        · simp [keepsBut_iff, State.corrected_keeps]
      | _ => exact .refl _ _
  clear_value found n
  refine ((drawn_keeps.mono (by decide)).trans (found_keeps.mono (by decide))).trans ?_
  split
  · exact (State.onChan_keepsBut.mono (by decide)).trans (State.raiseChan_keepsBut.mono (by decide))
  · exact State.onChan_keepsBut.mono (by decide)

theorem execSweepVisit_moves (page s) :
    Moves [.now, .free, .out, .ret, .evt, .flt, .obs, .host, .amap, .mem, .ddr, .tier, .dunas] s
      (execSweepVisit page s) := by
  refine .next (s.when_keepsBut ?_)
  simp [keepsBut_iff, State.sweepBegin_keeps, State.walk_keeps, State.visit_keeps, State.raiseAt_keeps]

theorem execFctlGo_moves (m c s) : Moves accessParts s (execFctlGo m c s) :=
  .next (s.gate_keepsBut (by decide) (by simp [keepsBut_iff, accessParts, State.fctlGo_keeps]))

theorem execSpareRank_moves (m c rank s) : Moves accessParts s (execSpareRank m c rank s) :=
  .next (s.gate_keepsBut (by decide) (by simp [keepsBut_iff, accessParts, State.spareCmd_keeps]))

theorem execHardRepair_moves (m c s) : Moves accessParts s (execHardRepair m c s) :=
  .next (s.gate_keepsBut (by decide) (by simp [keepsBut_iff, accessParts, State.hardCmd_keeps]))

theorem execResilver_moves (m c s) : Moves accessParts s (execResilver m c s) :=
  .next (s.gate_keepsBut (by decide) (by simp [keepsBut_iff, accessParts, State.resilverCmd_keeps]))

theorem execSvcCancel_moves (m c s) : Moves accessParts s (execSvcCancel m c s) :=
  .next (s.gate_keepsBut (by decide) (by simp [keepsBut_iff, accessParts, State.svcCancelCmd_keeps]))

theorem execAtomicBufferFlush_moves (line s) :
    Moves [.now, .free, .out, .ret, .evt, .flt, .obs, .host, .amap, .mem, .home, .ddr, .tier, .dunas] s
      (execAtomicBufferFlush line s) := by
  unfold execAtomicBufferFlush; dsimp only
  (repeat' split) <;> simp [keepsBut_iff, State.reach_keeps, State.flushAtom_keeps]

theorem execDemotionStart_moves (page s) :
    Moves [.now, .free, .out, .ret, .evt, .flt, .obs, .host, .amap, .mem, .home, .ddr, .tier, .dunas] s
      (execDemotionStart page s) := by
  unfold execDemotionStart; dsimp only
  (repeat' split) <;> simp [keepsBut_iff, State.dropDemotions_keeps, State.withinRate_keeps, State.lockPage_keeps]

theorem execSoftRepair_moves (c src s) :
    Moves [.now, .out, .regs, .ret, .evt, .obs, .host, .amap, .ddr, .tier, .dunas, .brg, .clk, .mgmt] s
      (execSoftRepair c src s) := by
  unfold execSoftRepair; dsimp only
  (repeat' split) <;> simp [keepsBut_iff, State.softCmd_keeps, State.onChan_keeps, State.startRepair_keeps]

theorem execTierPromoteDomain_moves (m domain s) :
    Moves [.now, .out, .regs, .ret, .evt, .obs, .host, .amap, .ddr, .tier, .dunas, .brg, .clk, .mgmt] s
      (execTierPromoteDomain m domain s) :=
  .next (s.gate_keepsBut (by decide) (by simp [keepsBut_iff, State.promoteDomain_keeps]))

theorem execTierCancel_moves (m s) :
    Moves [.now, .out, .regs, .ret, .evt, .obs, .host, .amap, .ddr, .tier, .dunas, .brg, .clk, .mgmt] s
      (execTierCancel m s) :=
  .next (s.gate_keepsBut (by decide) (by simp [keepsBut_iff, State.cancelDomain_keeps]))

theorem execJobCancel_moves (m e s) :
    Moves [.now, .out, .regs, .ret, .evt, .obs, .host, .amap, .ddr, .tier, .dunas, .brg, .clk, .mgmt] s
      (execJobCancel m e s) :=
  .next (s.gate_keepsBut (by decide) (by simp [keepsBut_iff, State.cancelJob_keeps]))

theorem execSvcPowerDown_moves (m c s) :
    Moves [.now, .out, .regs, .ret, .evt, .obs, .host, .amap, .mem, .ddr, .dunas, .brg, .clk, .mgmt] s
      (execSvcPowerDown m c s) :=
  .next (s.gate_keepsBut (by decide) (by simp [keepsBut_iff, State.powerDownCmd_keeps]))

theorem execMemrd_moves (l ld hpa mv tag err s) : Moves serveParts s (execMemrd l ld hpa mv tag err s) :=
  .next (by simp [keepsBut_iff, serveParts, State.meetsError_keeps, State.memCommand_keeps])

theorem execMemrddata_moves (l ld hpa tag s) : Moves serveParts s (execMemrddata l ld hpa tag s) :=
  .next (by simp [keepsBut_iff, serveParts, State.memCommand_keeps])

theorem execMemwr_moves (l ld hpa mv data poison tag s) :
    Moves serveParts s (execMemwr l ld hpa mv data poison tag s) :=
  .next (by simp [keepsBut_iff, serveParts, State.memCommand_keeps])

theorem execMemwrptl_moves (l ld hpa mv mask data poison tag s) :
    Moves serveParts s (execMemwrptl l ld hpa mv mask data poison tag s) :=
  .next (by simp [keepsBut_iff, serveParts, State.memCommand_keeps])

theorem execMeminv_moves (l ld hpa mv tag s) : Moves serveParts s (execMeminv l ld hpa mv tag s) :=
  .next (by simp [keepsBut_iff, serveParts, State.memCommand_keeps])

theorem execMemclnevct_moves (l ld hpa tag s) : Moves serveParts s (execMemclnevct l ld hpa tag s) :=
  .next (by simp [keepsBut_iff, serveParts, State.memCommand_keeps])

theorem execCxlioApertureRead_moves (ld off len tag s) : Moves serveParts s (execCxlioApertureRead ld off len tag s) := by
  unfold execCxlioApertureRead
  split
  · exact .next (.refl _ s)
  extract_lets t
  have arrived : KeepsBut [.host] s t := by simp [t, keepsBut_iff, State.arriveOn_keeps]
  have after {u : State} (h : KeepsBut serveParts t u) := (arrived.mono (by decide)).trans h
  clear_value t
  split
  · exact .next (after (by simp [keepsBut_iff, serveParts, State.toHost_keeps]))
  · split
    · exact .next (after (by simp [keepsBut_iff, serveParts, State.sendUr_keeps]))
    · split
      · exact .next (after (by simp [keepsBut_iff, serveParts, State.sendUr_keeps]))
      · refine .next (after (State.each_keepsBut fun u a => ?_))
        dsimp only
        (repeat' split) <;>
          simp only [keepsBut_iff, serveParts, State.raiseLink_keeps, State.toHost_keeps, State.enlist_keeps, State.tagging_keeps] <;>
          simp

theorem execCxlioApertureWrite_moves (ld off data ep s) :
    Moves serveParts s (execCxlioApertureWrite ld off data ep s) := by
  unfold execCxlioApertureWrite
  split
  · exact .next (.refl _ s)
  extract_lets t lose
  have arrived : KeepsBut [.host] s t := by simp [t, keepsBut_iff, State.arriveOn_keeps]
  have after {u : State} (h : KeepsBut serveParts t u) := (arrived.mono (by decide)).trans h
  clear_value t
  split
  · refine .next (after ?_)
    generalize t.apertureDpa _ _ _ = dpa
    cases dpa with
    | none => exact .refl _ t
    | some d => exact State.each_keepsBut fun u a => by simp [keepsBut_iff, serveParts, State.discardLine_keeps]
  · split
    · exact .next (after (by simp [keepsBut_iff, serveParts, State.sendUr_keeps]))
    · split
      · exact .next (after (by simp [keepsBut_iff, serveParts, State.sendUr_keeps]))
      · refine .next (after (.trans (State.when_keepsBut ?_) (State.each_keepsBut fun u a => ?_)))
        · simp [keepsBut_iff, serveParts, State.raiseLink_keeps]
        · dsimp only
          (repeat' split) <;>
            simp only [keepsBut_iff, serveParts, State.raiseLink_keeps, State.discardLine_keeps, State.enlist_keeps,
              State.tagging_keeps] <;> simp

theorem execAtomicop_moves (ld tgt op size a b ep tag s) :
    Moves serveParts s (execAtomicop ld tgt op size a b ep tag s) := by
  unfold execAtomicop; dsimp only
  (repeat' split) <;> simp [keepsBut_iff, serveParts, State.arriveOn_keeps, State.toHost_keeps, State.sendUr_keeps,
    State.raiseLink_keeps, State.tagging_keeps, State.enlist_keeps]

theorem execBirsp_moves (agent line r s) : Moves serveParts s (execBirsp agent line r s) := by
  refine .next (s.when_keepsBut ?_); dsimp only
  (repeat' split) <;> simp [keepsBut_iff, serveParts, State.arriveOn_keeps, State.answered_keeps]

theorem execCreditGrant_moves (hs r s) : Moves serveParts s (execCreditGrant hs r s) :=
  .next (s.when_keepsBut (by simp [keepsBut_iff, serveParts, State.emit_keeps, State.useCredit_keeps]))

theorem execReleaseDc_moves (ld exts s) : Moves serveParts s (execReleaseDc ld exts s) :=
  .next (s.mailbox_keepsBut (by decide) (by simp [keepsBut_iff, serveParts, State.serve, State.dcRelease_keeps]))

theorem execLandDataWrite_moves (page rid off data ep s) :
    Moves serveParts s (execLandDataWrite page rid off data ep s) := by
  unfold execLandDataWrite; dsimp only
  (repeat' split) <;> simp [keepsBut_iff, serveParts, State.heard_keeps, State.peerDrop_keeps, State.setReg_keeps,
    State.discardLine_keeps, State.enlist_keeps]

theorem execQuickRetrainEnd_moves (c ok s) : Moves serveParts s (execQuickRetrainEnd c ok s) := by
  refine .next (s.when_keepsBut ?_); dsimp only
  (repeat' split) <;> simp [keepsBut_iff, serveParts, State.onChan_keeps, State.chanOut_keeps, State.stallEnd_keeps]

theorem execFreqChangeEnd_moves (c ok s) : Moves serveParts s (execFreqChangeEnd c ok s) := by
  refine .next (s.when_keepsBut ?_); dsimp only
  (repeat' split) <;> simp [keepsBut_iff, serveParts, State.onChan_keeps, State.settleAll_keeps, State.raiseChan_keeps,
    State.tooHotAct_keeps, State.stallEnd_keeps]

theorem execPromotionCommit_moves (page fault s) : Moves serveParts s (execPromotionCommit page fault s) := by
  unfold execPromotionCommit; dsimp only
  (repeat' split) <;> simp [keepsBut_iff, serveParts, State.callEngine_keeps, State.fetchLeaf_keeps, State.count_keeps,
    State.engineUsed_keeps, State.eccUncorr_keeps, State.fileP_keeps, State.migPoisoned_keeps, State.tagFailed_keeps,
    State.readPage_keeps, State.promoted_keeps, State.raiseEng_keeps]

theorem execDemotionCommit_moves (page e mismatch s) : Moves serveParts s (execDemotionCommit page e mismatch s) := by
  unfold execDemotionCommit; dsimp only
  (repeat' split) <;> simp [keepsBut_iff, serveParts, State.demotionOff_keeps, State.callEngine_keeps,
    State.fetchLeaf_keeps, State.readFrame_keeps, State.demoteWith_keeps]

theorem execMigrationMoveCommit_moves (page uncorr s) : Moves serveParts s (execMigrationMoveCommit page uncorr s) := by
  unfold execMigrationMoveCommit; dsimp only
  (repeat' split) <;> simp [keepsBut_iff, serveParts, State.fetchLeaf_keeps, State.copyNear_keeps, State.moved__keeps,
    State.copyBin_keeps, State.migPoisoned_keeps]

theorem execRootRebuildEnd_moves (hs rejected s) : Moves serveParts s (execRootRebuildEnd hs rejected s) :=
  .next (s.when_keepsBut (by simp [keepsBut_iff, serveParts, State.endRebuild_keeps]))

theorem execSvcReturn_moves (m c spd0 spd1 s) :
    Moves [.now, .free, .out, .regs, .ret, .evt, .obs, .host, .amap, .mem, .ddr, .dunas, .brg, .clk, .mgmt] s
      (execSvcReturn m c spd0 spd1 s) :=
  .next (s.gate_keepsBut (by decide) (by simp [keepsBut_iff, State.returnCmd_keeps]))

theorem execCancelResilver_moves (m c s) :
    Moves [.now, .out, .regs, .ret, .evt, .flt, .obs, .host, .amap, .mem, .ddr, .dunas, .brg, .clk, .mgmt] s
      (execCancelResilver m c s) :=
  .next (s.gate_keepsBut (by decide) (by simp [keepsBut_iff, State.unresilver_keeps]))

theorem execJobGo_moves (m e op resume s) :
    Moves [.now, .out, .regs, .ret, .evt, .obs, .host, .amap, .home, .ddr, .tier, .dunas, .brg, .clk, .mgmt] s
      (execJobGo m e op resume s) :=
  .next (s.gate_keepsBut (by decide) (by simp [keepsBut_iff, State.startJob_keeps]))

theorem execJobEnd_moves (e mismatch s) :
    Moves [.free, .out, .regs, .ret, .evt, .flt, .obs, .host, .amap, .mem, .home, .ddr, .tier, .dunas, .clk, .mgmt] s
      (execJobEnd e mismatch s) := by
  unfold execJobEnd; dsimp only
  (repeat' split) <;> simp [keepsBut_iff, State.jobDone_keeps, State.enlist_keeps, State.runJob_keeps]

theorem execBiTimeout_moves (agent line s) :
    Moves [.now, .free, .out, .regs, .ret, .evt, .flt, .obs, .host, .amap, .mem, .home, .ddr, .tier, .dunas, .mgmt] s
      (execBiTimeout agent line s) := by
  unfold execBiTimeout; dsimp only
  (repeat' split) <;> simp [keepsBut_iff, State.reach_keeps, State.snoopTimeout_keeps]

theorem execSoftRepairEnd_moves (r s) :
    Moves [.now, .free, .out, .regs, .ret, .evt, .flt, .obs, .host, .amap, .mem, .home, .ddr, .tier, .dunas, .mgmt] s
      (execSoftRepairEnd r s) := by
  unfold execSoftRepairEnd; dsimp only
  (repeat' split) <;> simp [keepsBut_iff, State.softStep_keeps, State.onChan_keeps, State.storeRepairs_keeps,
    State.raiseChan_keeps, State.stallEnd_keeps]

theorem execDimmThermalRead_moves (c t0 t1 s) :
    Moves [.now, .free, .out, .regs, .ret, .evt, .flt, .obs, .host, .amap, .mem, .home, .ddr, .tier, .dunas, .mgmt] s
      (execDimmThermalRead c t0 t1 s) := by
  refine .next (s.when_keepsBut ?_); dsimp only
  (repeat' split) <;> simp [keepsBut_iff, State.reach_keeps, State.onChan_keeps, State.sayHot_keeps,
    State.tooHotAct_keeps]

theorem execMcacheFlush_moves (m hs s) :
    Moves [.now, .free, .out, .regs, .ret, .evt, .flt, .obs, .host, .amap, .mem, .ddr, .tier, .dunas, .brg, .clk,
      .mgmt] s
      (execMcacheFlush m hs s) :=
  .next (s.gate_keepsBut (by decide) (by simp [keepsBut_iff, State.mcFlush_keeps]))

theorem execTcmdReadEntry_moves (m table index s) : Moves mapWriteParts s (execTcmdReadEntry m table index s) :=
  .next (by simp [keepsBut_iff, mapWriteParts, State.writeTcmd_keeps])

theorem execTcmdStageEntry_moves (m table index s) : Moves mapWriteParts s (execTcmdStageEntry m table index s) :=
  .next (by simp [keepsBut_iff, mapWriteParts, State.writeTcmd_keeps])

theorem execGrant_moves (m ext s) : Moves mapWriteParts s (execGrant m ext s) :=
  .next (by simp [keepsBut_iff, mapWriteParts, State.writeTcmd_keeps])

theorem execPin_moves (m ext s) : Moves mapWriteParts s (execPin m ext s) :=
  .next (by simp [keepsBut_iff, mapWriteParts, State.writeTcmd_keeps])

theorem execOffer_moves (m ext s) : Moves mapWriteParts s (execOffer m ext s) :=
  .next (by simp [keepsBut_iff, mapWriteParts, State.writeTcmd_keeps])

theorem execRecall_moves (m ext s) : Moves mapWriteParts s (execRecall m ext s) :=
  .next (by simp [keepsBut_iff, mapWriteParts, State.writeTcmd_keeps])

theorem execForce_moves (m ext s) : Moves mapWriteParts s (execForce m ext s) :=
  .next (by simp [keepsBut_iff, mapWriteParts, State.writeTcmd_keeps])

theorem execFree_moves (m ext s) : Moves mapWriteParts s (execFree m ext s) :=
  .next (by simp [keepsBut_iff, mapWriteParts, State.writeTcmd_keeps])

theorem execSvcDrain_moves (m c s) : Moves mapWriteParts s (execSvcDrain m c s) :=
  .next (s.gate_keepsBut (by decide) (by simp [keepsBut_iff, mapWriteParts, State.drainCmd_keeps]))

theorem execRootArrayError_moves (hs s) : Moves faultParts s (execRootArrayError hs s) :=
  .next (by simp [keepsBut_iff, faultParts, State.faultP_keeps])

theorem execChannelTrainingEnd_moves (c r s) :
    Moves [.free, .out, .regs, .ret, .evt, .flt, .obs, .host, .amap, .mem, .home, .ddr, .tier, .dm, .dunas, .brg, .clk,
      .hsc, .boot, .core, .mgmt] s
      (execChannelTrainingEnd c r s) := by
  refine .next (s.when_keepsBut ?_)
  (repeat' split) <;> simp [keepsBut_iff, State.rerunEnd_keeps, State.resetGoesOn_keeps, State.chanTrained_keeps,
    State.chanFailed_keeps]

end Sys2Proof.Machine
end

section
/-! PROOF. The frames of the commands of the address map, the home slices, the channels, the tiers and the counter tree. -/

open Sys2Proof Sys2Proof.Machine

/-- Settles O58: each command moves the groups that its operations move. -/
theorem framesOfMemoryCommands : Obligations.FramesOfMemoryCommands :=
  ⟨execQuickRetrain_moves, execHdmDecoderCommit_moves, execRetagEnd_moves, execCompactionStart_moves, execDqsTrack_moves,
    execRefreshDue_moves, execRefreshRepay_moves, execMr4Poll_moves, execCeWindowStep_moves, execChunkInit_moves,
    execHotnessEpochAdvance_moves, execBiconflict_moves, execCaAlert_moves, execRfmRequest_moves,
    execHardRepairEnd_moves, execPromoteDomainEnd_moves, execEngineRecovered_moves, execAutoRecall_moves,
    execEngineFault_moves, execResilverEnd_moves, execExtentEraseEnd_moves, execExtentDrainEnd_moves,
    execMcacheClean_moves, execDramReadReturn_moves, execChannelDrainEnd_moves, execRetagStep_moves,
    execOverwriteWrite_moves, execSpareCopyEnd_moves, execAddDcResponse_moves, execOfferToExpiry_moves,
    execScrubRead_moves, execSweepVisit_moves, execFctlGo_moves, execSpareRank_moves, execHardRepair_moves,
    execResilver_moves, execSvcCancel_moves, execAtomicBufferFlush_moves, execDemotionStart_moves, execSoftRepair_moves,
    execTierPromoteDomain_moves, execTierCancel_moves, execJobCancel_moves, execSvcPowerDown_moves, execMemrd_moves,
    execMemrddata_moves, execMemwr_moves, execMemwrptl_moves, execMeminv_moves, execMemclnevct_moves,
    execCxlioApertureRead_moves, execCxlioApertureWrite_moves, execAtomicop_moves, execBirsp_moves,
    execCreditGrant_moves, execReleaseDc_moves, execLandDataWrite_moves, execQuickRetrainEnd_moves,
    execFreqChangeEnd_moves, execPromotionCommit_moves, execDemotionCommit_moves, execMigrationMoveCommit_moves,
    execRootRebuildEnd_moves, execSvcReturn_moves, execCancelResilver_moves, execJobGo_moves, execJobEnd_moves,
    execBiTimeout_moves, execSoftRepairEnd_moves, execDimmThermalRead_moves, execMcacheFlush_moves,
    execTcmdReadEntry_moves, execTcmdStageEntry_moves, execGrant_moves, execPin_moves, execOffer_moves, execRecall_moves,
    execForce_moves, execFree_moves, execSvcDrain_moves, execRootArrayError_moves, execChannelTrainingEnd_moves⟩
end

section
/-! SUPPORT. Which groups of the state the commands of the data mover, the Dunas modules and the Borage site move, by the operations
of their meanings: an operation `State.op` that a command runs leaves what its lemma `State.op_keeps` says. -/

namespace Sys2Proof.Machine

theorem execDlnkTrain_moves (e s) : Moves [.dunas] s (execDlnkTrain e s) :=
  .next (s.when_keepsBut (by simp [keepsBut_iff, State.onMod_keeps]))

theorem execLinkRsp_moves (e accept s) : Moves [.dunas] s (execLinkRsp e accept s) :=
  .next (by simp [keepsBut_iff, State.takeRsp_keeps])

theorem execLinkReq_moves (e ch slot s) : Moves [.out, .dunas] s (execLinkReq e ch slot s) :=
  .next (by simp [keepsBut_iff, State.takeReq_keeps])

theorem execSnpconflict_moves (a line s) : Moves [.out, .obs, .dunas] s (execSnpconflict a line s) :=
  .next (by simp [keepsBut_iff, State.snpConflict_keeps])

theorem execAckTimer_moves (e s) : Moves [.now, .out, .obs, .dunas] s (execAckTimer e s) :=
  .next (s.when_keepsBut (by simp [keepsBut_iff, State.reach_keeps, State.sendAck_keeps]))

theorem execReplayTimer_moves (e s) : Moves [.now, .out, .obs, .dunas] s (execReplayTimer e s) := by
  unfold execReplayTimer; dsimp only
  (repeat' split) <;> simp [keepsBut_iff, State.reach_keeps, State.replay_keeps, State.moveFlits_keeps]

theorem execCommandedChangeStart_moves (e s) : Moves [.now, .out, .obs, .dunas] s (execCommandedChangeStart e s) := by
  unfold execCommandedChangeStart; dsimp only
  (repeat' split) <;> simp [keepsBut_iff, State.reach_keeps, State.startChange_keeps]

theorem execHostReplayRequest_moves (l seq s) : Moves [.out, .obs, .host, .dunas] s (execHostReplayRequest l seq s) :=
  .next (s.when_keepsBut (by simp [keepsBut_iff, State.onLink_keeps, State.useLink_keeps, State.emit_keeps]))

theorem execPeerFlushRead_moves (page rid r s) :
    Moves [.out, .obs, .host, .amap, .dunas] s (execPeerFlushRead page rid r s) := by
  unfold execPeerFlushRead; dsimp only
  (repeat' split) <;> simp [keepsBut_iff, State.heard_keeps, State.toHost_keeps, State.flushAnswers_keeps]

theorem execEvtraise_moves (k payload s) : Moves eventParts s (execEvtraise k payload s) :=
  .next (by simp [keepsBut_iff, eventParts, State.brgEvent_keeps])

theorem execBar0Write_moves (ld off data s) :
    Moves [.out, .ret, .evt, .obs, .host, .dunas, .brg] s (execBar0Write ld off data s) := by
  unfold execBar0Write; dsimp only
  (repeat' split) <;> simp [keepsBut_iff, State.arriveOn_keeps, State.sendUr_keeps, State.carryPieces_keeps,
    State.fwdFail_keeps, State.forward_keeps]

theorem execBar0Read_moves (ld off len tag s) :
    Moves [.out, .ret, .evt, .obs, .host, .dunas, .brg] s (execBar0Read ld off len tag s) := by
  unfold execBar0Read; dsimp only
  (repeat' split) <;> simp [keepsBut_iff, State.arriveOn_keeps, State.toHost_keeps, State.sendUr_keeps,
    State.fwdFail_keeps, State.carryPieces_keeps, State.forward_keeps]

theorem execFwdrddata_moves (tag data err s) :
    Moves [.out, .ret, .evt, .obs, .host, .dunas, .brg] s (execFwdrddata tag data err s) :=
  .next (by simp [keepsBut_iff, State.fwdAnswer_keeps])

theorem execFwdrdTimeout_moves (tag s) :
    Moves [.now, .out, .ret, .evt, .obs, .host, .dunas, .brg] s (execFwdrdTimeout tag s) := by
  unfold execFwdrdTimeout
  (repeat' split) <;> simp [keepsBut_iff, State.reach_keeps, State.fwdAbort_keeps]

theorem execFwdwrTimeout_moves (ld s) :
    Moves [.now, .out, .ret, .evt, .obs, .host, .dunas, .brg] s (execFwdwrTimeout ld s) := by
  unfold execFwdwrTimeout; dsimp only
  (repeat' split) <;> simp [keepsBut_iff, State.reach_keeps, State.onMod_keeps, State.fwdFail_keeps, State.pumpFwd_keeps,
    State.pump_keeps, State.fwdTimers_keeps]

theorem execDiscardReport_moves (u what s) :
    Moves [.out, .ret, .evt, .flt, .obs, .host, .home, .dunas] s (execDiscardReport u what s) := by
  unfold execDiscardReport; dsimp only
  (repeat' split) <;> simp [keepsBut_iff, State.discardLine_keeps, State.discardExtent_keeps]

theorem execPeerFlushCompletion_moves (q ix st s) :
    Moves [.out, .ret, .evt, .obs, .host, .home, .dm, .dunas] s (execPeerFlushCompletion q ix st s) := by
  unfold execPeerFlushCompletion
  (repeat' split) <;> simp [keepsBut_iff, State.flushDone_keeps]

theorem execDmqTailWrite_moves (m q tail s) : Moves accessParts s (execDmqTailWrite m q tail s) :=
  .next (s.dmqWrite_keepsBut (by decide) (by simp [keepsBut_iff, accessParts]))

theorem execDmqEnable_moves (m q v s) :
    Moves [.now, .out, .regs, .ret, .evt, .obs, .host, .amap, .ddr, .dm, .dunas, .brg, .clk, .mgmt] s
      (execDmqEnable m q v s) :=
  .next (s.dmqWrite_keepsBut (by decide) (by simp [keepsBut_iff, State.dmqConfigured_keeps]))

theorem execRdcur_moves (a tag line cred s) : Moves serveParts s (execRdcur a tag line cred s) :=
  .next (by simp [keepsBut_iff, serveParts, State.brgRequest_keeps])

theorem execRdshared_moves (a tag line cred s) : Moves serveParts s (execRdshared a tag line cred s) :=
  .next (by simp [keepsBut_iff, serveParts, State.brgRequest_keeps])

theorem execRdown_moves (a tag line cred s) : Moves serveParts s (execRdown a tag line cred s) :=
  .next (by simp [keepsBut_iff, serveParts, State.brgRequest_keeps])

theorem execInvown_moves (a tag line cred s) : Moves serveParts s (execInvown a tag line cred s) :=
  .next (by simp [keepsBut_iff, serveParts, State.brgRequest_keeps])

theorem execCleanevict_moves (a tag line cred s) : Moves serveParts s (execCleanevict a tag line cred s) :=
  .next (by simp [keepsBut_iff, serveParts, State.brgRequest_keeps])

theorem execWrfull_moves (a tag line keepS data s) : Moves serveParts s (execWrfull a tag line keepS data s) :=
  .next (by simp [keepsBut_iff, serveParts, State.brgRequest_keeps])

theorem execWrptl_moves (a tag line keepS mask data s) : Moves serveParts s (execWrptl a tag line keepS mask data s) :=
  .next (by simp [keepsBut_iff, serveParts, State.brgRequest_keeps])

theorem execWrback_moves (a tag line keepS data s) : Moves serveParts s (execWrback a tag line keepS data s) :=
  .next (by simp [keepsBut_iff, serveParts, State.brgRequest_keeps])

theorem execAtomic_moves (a tag line cred op size off x y s) :
    Moves serveParts s (execAtomic a tag line cred op size off x y s) := by
  unfold execAtomic; dsimp only
  (repeat' split) <;> simp [keepsBut_iff, serveParts, State.brgRequest_keeps, State.brgTurn_keeps]

theorem execSnprsp_moves (a line keep data s) : Moves serveParts s (execSnprsp a line keep data s) :=
  .next (by simp [keepsBut_iff, serveParts, State.snpAnswer_keeps])

theorem execDmqAbort_moves (m q s) :
    Moves [.now, .out, .regs, .ret, .evt, .obs, .host, .amap, .home, .ddr, .dm, .dunas, .brg, .clk, .mgmt] s
      (execDmqAbort m q s) :=
  .next (s.dmqWrite_keepsBut (by decide) (by simp [keepsBut_iff, State.dmqAborted_keeps]))

theorem execDmCopy_moves (q ix s) : Moves descParts s (execDmCopy q ix s) :=
  .next (s.dmOp_keepsBut fun _ => s.withSource_keepsBut fun _ _ => State.withRoom_keepsBut (by
    simp [keepsBut_iff, descParts, State.dmPut_keeps, State.moved_keeps, State.endDesc_keeps]))

theorem execDmFill_moves (q ix s) : Moves descParts s (execDmFill q ix s) :=
  .next (s.dmOp_keepsBut fun _ => State.withRoom_keepsBut (by
    simp [keepsBut_iff, descParts, State.dmPut_keeps, State.moved_keeps, State.endDesc_keeps]))

theorem execDmCrc_moves (q ix s) : Moves descParts s (execDmCrc q ix s) := by
  refine .next (s.dmOp_keepsBut fun _ => s.withSource_keepsBut fun _ _ => ?_)
  dsimp only
  split <;> simp [keepsBut_iff, descParts, State.moved_keeps, State.endDesc_keeps]

theorem execDmZeroReseal_moves (q ix s) : Moves descParts s (execDmZeroReseal q ix s) :=
  .next (s.dmOp_keepsBut fun _ => by simp [keepsBut_iff, descParts, State.resealPages_keeps])

theorem execDmBatchAtomic_moves (q ix s) : Moves descParts s (execDmBatchAtomic q ix s) := by
  refine .next (s.dmOp_keepsBut fun _ => s.withSource_keepsBut fun _ _ => ?_)
  dsimp only
  split
  · exact State.failDesc_keepsBut
  · refine State.withRoom_keepsBut ?_
    split <;> simp [keepsBut_iff, descParts, State.runElems_keeps, State.takeFree_keeps, State.dmPut_keeps, State.moved_keeps,
      State.endDesc_keeps]

theorem execDmRecordWrite_moves (q ix ok s) : Moves descParts s (execDmRecordWrite q ix ok s) := by
  unfold execDmRecordWrite; dsimp only
  (repeat' split) <;> simp [keepsBut_iff, descParts, State.recordDone_keeps, State.putCounts_keeps, State.putRecord_keeps,
    State.haltQueue_keeps]

theorem execBrgFltNAssert_moves (s) : Moves faultParts s (execBrgFltNAssert s) :=
  .next (s.when_keepsBut (by simp [keepsBut_iff, faultParts, State.faultP_keeps]))

theorem execBrgFltFrame_moves (f s) : Moves faultParts s (execBrgFltFrame f s) := by
  unfold execBrgFltFrame; dsimp only
  (repeat' split) <;> simp [keepsBut_iff, faultParts, State.raise_keeps, State.fault_keeps]

end Sys2Proof.Machine
end

section
/-! PROOF. The frames of the commands of the data mover, the Dunas modules and the Borage site. -/

open Sys2Proof Sys2Proof.Machine

/-- Settles O59: each command moves the groups that its operations move. -/
theorem framesOfMoverFabricAndBorageCommands : Obligations.FramesOfMoverFabricAndBorageCommands :=
  ⟨execDlnkTrain_moves, execLinkRsp_moves, execLinkReq_moves, execSnpconflict_moves, execAckTimer_moves,
    execReplayTimer_moves, execCommandedChangeStart_moves, execHostReplayRequest_moves, execPeerFlushRead_moves,
    execEvtraise_moves, execBar0Write_moves, execBar0Read_moves, execFwdrddata_moves, execFwdrdTimeout_moves,
    execFwdwrTimeout_moves, execDiscardReport_moves, execPeerFlushCompletion_moves, execDmqTailWrite_moves,
    execDmqEnable_moves, execRdcur_moves, execRdshared_moves, execRdown_moves, execInvown_moves, execCleanevict_moves,
    execWrfull_moves, execWrptl_moves, execWrback_moves, execAtomic_moves, execSnprsp_moves, execDmqAbort_moves,
    execDmCopy_moves, execDmFill_moves, execDmCrc_moves, execDmZeroReseal_moves, execDmBatchAtomic_moves,
    execDmRecordWrite_moves, execBrgFltNAssert_moves, execBrgFltFrame_moves⟩
end

section
/-! SUPPORT. Which groups of the state the commands of clocks, power, management, faults, events, counters and registers move, by the operations
of their meanings: an operation `State.op` that a command runs leaves what its lemma `State.op_keeps` says. -/

namespace Sys2Proof.Machine

theorem execFastOscDiscipline_moves (s) : Moves [.clk] s (execFastOscDiscipline s) :=
  .next (s.when_keepsBut (by simp [keepsBut_iff, State.onClk_keeps]))

theorem execFenceI_moves (c s) : Moves [.core] s (execFenceI c s) :=
  .next (s.when_keepsBut (by simp [keepsBut_iff, State.onMcore_keeps]))

theorem execSmbusAra_moves (s) : Moves [.evt] s (execSmbusAra s) :=
  .next (s.when_keepsBut (by simp [keepsBut_iff]))

theorem execIbiAccepted_moves (s) : Moves [.evt] s (execIbiAccepted s) :=
  .next (s.when_keepsBut (by simp [keepsBut_iff]))

theorem execVinWindowEntry_moves (mV s) : Moves [.hsc] s (execVinWindowEntry mV s) :=
  .next (s.when_keepsBut (by simp [keepsBut_iff, State.onHsc_keeps]))

theorem execSerialLinkReturn_moves (s) : Moves [.hsc] s (execSerialLinkReturn s) :=
  .next (by simp [keepsBut_iff, State.onHsc_keeps])

theorem execEnergyLedgerTick_moves (s) : Moves [.mgmt] s (execEnergyLedgerTick s) :=
  .next (s.when_keepsBut (by simp [keepsBut_iff, State.splitEnergy_keeps, State.onMgmt_keeps]))

theorem execI3cDaa_moves (s) : Moves [.mgmt] s (execI3cDaa s) :=
  .next (s.when_keepsBut (by simp [keepsBut_iff, State.onMgmt_keeps]))

theorem execRampEnd_moves (vinMv voutMv s) : Moves [.hsc, .boot] s (execRampEnd vinMv voutMv s) :=
  .next (s.when_keepsBut (by simp [keepsBut_iff, State.onHsc_keeps, State.onBoot_keeps]))

theorem execClockGateStart_moves (d s) : Moves [.obs, .clk] s (execClockGateStart d s) :=
  .next (s.when_keepsBut (by simp [keepsBut_iff, State.settleAll_keeps, State.onClk_keeps, State.cycleRise_keeps]))

theorem execPhyQuadWake_moves (l why s) : Moves [.obs, .clk] s (execPhyQuadWake l why s) := by
  unfold execPhyQuadWake
  extract_lets due
  clear_value due
  exact .next (s.when_keepsBut (State.each_keepsBut fun t q => by simp [keepsBut_iff, State.powerUp_keeps]))

theorem execRailGood_moves (k s) : Moves [.now, .obs, .boot] s (execRailGood k s) := by
  refine .next (s.when_keepsBut ?_); dsimp only
  (repeat' split) <;> simp [keepsBut_iff, State.reach_keeps, State.onBoot_keeps, State.mainUp_keeps]

theorem execXtalQualify_moves (x s) : Moves [.now, .obs, .clk] s (execXtalQualify x s) :=
  .next (s.when_keepsBut (by simp [keepsBut_iff, State.reach_keeps, State.setXtal_keeps, State.takeRef_keeps]))

theorem execClockGateStop_moves (d s) : Moves [.now, .obs, .clk] s (execClockGateStop d s) :=
  .next (s.when_keepsBut (by
    simp only [keepsBut_iff, State.reach_keeps, State.settleAll_keeps, State.onClk_keeps]
    simp))

theorem execInsertionDelayEnd_moves (s) : Moves [.now, .obs, .hsc] s (execInsertionDelayEnd s) :=
  .next (s.when_keepsBut (by simp [keepsBut_iff, State.reach_keeps, State.startRamp_keeps]))

theorem execNtcRecover_moves (degC s) : Moves [.now, .obs, .hsc] s (execNtcRecover degC s) :=
  .next (s.when_keepsBut (by simp [keepsBut_iff, State.reach_keeps, State.onHsc_keeps]))

theorem execCoolWaitEnd_moves (s) : Moves [.now, .obs, .hsc] s (execCoolWaitEnd s) :=
  .next (s.when_keepsBut (by simp [keepsBut_iff, State.reach_keeps, State.onHsc_keeps]))

theorem execLockLeaseExpiry_moves (page s) : Moves [.now, .regs, .obs] s (execLockLeaseExpiry page s) := by
  unfold execLockLeaseExpiry
  (repeat' split) <;> simp [keepsBut_iff, State.reach_keeps, State.freeLock_keeps]

theorem execTapInstruction_moves (op s) : Moves [.free, .out, .obs, .dunas] s (execTapInstruction op s) := by
  unfold execTapInstruction
  (repeat' split) <;> simp [keepsBut_iff, State.emit_keeps, State.takeFree_keeps]

theorem execSubdomainPowerDown_moves (sd s) : Moves [.now, .obs, .tier, .clk] s (execSubdomainPowerDown sd s) := by
  unfold execSubdomainPowerDown; dsimp only
  (repeat' split) <;> simp [keepsBut_iff, State.reach_keeps, State.onEng_keeps, State.settleAll_keeps, State.onClk_keeps]

theorem execRecoveryCounterStore_moves (s) : Moves [.now, .ret, .flt, .obs] s (execRecoveryCounterStore s) :=
  .next (s.when_keepsBut (by simp [keepsBut_iff, State.reach_keeps, State.storeRcnt_keeps]))

theorem execImgBegin_moves (len s) : Moves [.out, .obs, .dunas, .mgmt] s (execImgBegin len s) := by
  unfold execImgBegin; dsimp only
  (repeat' split) <;> simp [keepsBut_iff, State.emit_keeps, State.onMgmt_keeps]

theorem execImgData_moves (off words s) : Moves [.out, .obs, .dunas, .mgmt] s (execImgData off words s) := by
  unfold execImgData; dsimp only
  (repeat' split) <;> simp [keepsBut_iff, State.emit_keeps, State.onMgmt_keeps]

theorem execRailEnable_moves (k s) : Moves [.now, .out, .obs, .dunas, .boot] s (execRailEnable k s) :=
  .next (s.when_keepsBut (by simp [keepsBut_iff, State.reach_keeps, State.setCore_keeps, State.pmbus_keeps,
    State.onBoot_keeps]))

theorem execLogRecordWrite_moves (s) : Moves [.now, .out, .evt, .obs, .host, .dunas] s (execLogRecordWrite s) := by
  unfold execLogRecordWrite; dsimp only
  (repeat' split) <;> simp [keepsBut_iff, State.reach_keeps, State.deliverAll_keeps]

theorem execEventRaise_moves (src why s) : Moves eventParts s (execEventRaise src why s) :=
  .next (s.when_keepsBut (by simp [keepsBut_iff, eventParts, State.raise_keeps]))

theorem execCounterOverflow_moves (page k s) :
    Moves [.now, .out, .ret, .evt, .obs, .host, .dunas] s (execCounterOverflow page k s) := by
  unfold execCounterOverflow; dsimp only
  (repeat' split) <;> simp [keepsBut_iff, State.reach_keeps, State.settlePage_keeps, State.overflow_keeps]

theorem execTraceRecordWrite_moves (s) :
    Moves [.now, .out, .ret, .evt, .obs, .host, .dunas] s (execTraceRecordWrite s) := by
  unfold execTraceRecordWrite; dsimp only
  (repeat' split) <;> simp [keepsBut_iff, State.reach_keeps, State.trcDrop_keeps, State.trcPut_keeps]

theorem execImgEnd_moves (img s) : Moves [.out, .obs, .dunas, .hsc, .boot, .core, .mgmt] s (execImgEnd img s) := by
  unfold execImgEnd; dsimp only
  (repeat' split) <;> simp [keepsBut_iff, State.emit_keeps, State.onMgmt_keeps, State.startCore0_keeps,
    State.onBoot_keeps, State.bootStart_keeps, State.staged__keeps]

theorem execFrameCheckFail_moves (slot s) :
    Moves [.out, .ret, .evt, .flt, .obs, .host, .dunas] s (execFrameCheckFail slot s) :=
  .next (s.when_keepsBut (by simp [keepsBut_iff, State.raiseAt_keeps]))

theorem execCfgRecordEnd_moves (s) : Moves [.out, .ret, .evt, .obs, .host, .dunas, .boot] s (execCfgRecordEnd s) := by
  unfold execCfgRecordEnd
  (repeat' split) <;> simp [keepsBut_iff, State.onBoot_keeps, State.cfgFail_keeps]

theorem execRefEdgeLoss_moves (loop s) :
    Moves [.out, .ret, .evt, .obs, .host, .dunas, .clk] s (execRefEdgeLoss loop s) :=
  .next (by simp [keepsBut_iff, State.coast_keeps])

theorem execLoopRelock_moves (loop s) : Moves [.out, .ret, .evt, .obs, .host, .dunas, .clk] s (execLoopRelock loop s) :=
  .next (by simp [keepsBut_iff, State.onGrp_keeps, State.onLoop_keeps, State.settleAll_keeps, State.raiseClk_keeps])

theorem execRefSwitch_moves (s) : Moves [.out, .ret, .evt, .obs, .host, .dunas, .clk] s (execRefSwitch s) :=
  .next (s.when_keepsBut (by simp [keepsBut_iff, State.xtalFails_keeps, State.moveRef_keeps]))

theorem execLoopLockLoss_moves (loop s) :
    Moves [.out, .ret, .evt, .obs, .host, .dunas, .clk] s (execLoopLockLoss loop s) :=
  .next (s.when_keepsBut (by simp [keepsBut_iff, State.coast_keeps]))

theorem execVinOvervoltage_moves (mV s) :
    Moves [.out, .ret, .evt, .obs, .host, .dunas, .hsc] s (execVinOvervoltage mV s) :=
  .next (s.when_keepsBut (by simp [keepsBut_iff, State.vinOut_keeps]))

theorem execVinUndervoltage_moves (mV s) :
    Moves [.out, .ret, .evt, .obs, .host, .dunas, .hsc] s (execVinUndervoltage mV s) :=
  .next (s.when_keepsBut (by simp [keepsBut_iff, State.vinOut_keeps]))

theorem execCurrentLimitEntry_moves (s) :
    Moves [.out, .ret, .evt, .obs, .host, .dunas, .hsc] s (execCurrentLimitEntry s) :=
  .next (by simp [keepsBut_iff, State.enterLimit_keeps])

theorem execNtcInvalid_moves (s) : Moves [.out, .ret, .evt, .obs, .host, .dunas, .hsc] s (execNtcInvalid s) :=
  .next (s.when_keepsBut (by simp [keepsBut_iff, State.onHsc_keeps, State.raiseHsc_keeps]))

theorem execCfgWaitTimeout_moves (s) :
    Moves [.now, .out, .ret, .evt, .obs, .host, .dunas, .boot] s (execCfgWaitTimeout s) := by
  unfold execCfgWaitTimeout
  (repeat' split) <;> simp [keepsBut_iff, State.reach_keeps, State.cfgFail_keeps]

theorem execXtalQualifyTimeout_moves (s) :
    Moves [.now, .out, .ret, .evt, .obs, .host, .dunas, .clk] s (execXtalQualifyTimeout s) :=
  .next (s.when_keepsBut (by simp [keepsBut_iff, State.firstLook_keeps]))

theorem execXtalRetry_moves (s) : Moves [.now, .out, .ret, .evt, .obs, .host, .dunas, .clk] s (execXtalRetry s) :=
  .next (s.when_keepsBut (by simp [keepsBut_iff, State.nextLook_keeps]))

theorem execSlowOscCheck_moves (bad s) :
    Moves [.now, .out, .ret, .evt, .obs, .host, .dunas, .clk] s (execSlowOscCheck bad s) :=
  .next (s.when_keepsBut (by simp [keepsBut_iff, State.reach_keeps, State.onClk_keeps, State.setMon_keeps,
    State.raiseClk_keeps]))

theorem execRetryWaitEnd_moves (s) : Moves [.now, .out, .ret, .evt, .obs, .host, .dunas, .hsc] s (execRetryWaitEnd s) :=
  .next (s.when_keepsBut (by simp [keepsBut_iff, State.reach_keeps, State.startRamp_keeps, State.raiseHsc_keeps]))

theorem execPgOutLevelAge_moves (s) :
    Moves [.now, .out, .ret, .evt, .obs, .host, .dunas, .hsc] s (execPgOutLevelAge s) := by
  unfold execPgOutLevelAge
  (repeat' split) <;> simp [keepsBut_iff, State.reach_keeps, State.pgOutSync_keeps]

theorem execFastTrip_moves (s) : Moves [.out, .ret, .evt, .flt, .obs, .host, .dunas, .hsc] s (execFastTrip s) :=
  .next (by simp [keepsBut_iff, State.fastTrip_keeps])

theorem execStartTimeout_moves (s) :
    Moves [.now, .out, .ret, .evt, .flt, .obs, .host, .dunas, .hsc] s (execStartTimeout s) :=
  .next (s.when_keepsBut (by simp [keepsBut_iff, State.rampLate_keeps]))

theorem execBreakerExpiry_moves (s) :
    Moves [.now, .out, .ret, .evt, .flt, .obs, .host, .dunas, .hsc] s (execBreakerExpiry s) := by
  unfold execBreakerExpiry
  (repeat' split) <;> simp [keepsBut_iff, State.reach_keeps, State.trip_keeps]

theorem execDamagedTransistor_moves (s) :
    Moves [.now, .out, .ret, .evt, .flt, .obs, .host, .dunas, .hsc] s (execDamagedTransistor s) :=
  .next (s.when_keepsBut (by simp [keepsBut_iff, State.offLate_keeps]))

theorem execRailRetry_moves (s) :
    Moves [.now, .out, .ret, .evt, .obs, .host, .dunas, .hsc, .boot] s (execRailRetry s) := by
  unfold execRailRetry; dsimp only
  (repeat' split) <;> simp [keepsBut_iff, State.reach_keeps, State.onBoot_keeps, State.hscStart_keeps,
    State.powerGood_keeps]

theorem execFetModelTick_moves (vinMv voutMv iMa ntc dieC s) :
    Moves [.now, .free, .out, .ret, .evt, .flt, .obs, .host, .dunas, .hsc] s
      (execFetModelTick vinMv voutMv iMa ntc dieC s) :=
  .next (s.when_keepsBut (by simp [keepsBut_iff, State.fetTick_keeps]))

theorem execCommitApply_moves (page s) :
    Moves [.free, .out, .regs, .ret, .evt, .obs, .host, .amap, .mem, .ddr, .tier, .dunas] s (execCommitApply page s) :=
  .next (by simp [keepsBut_iff, State.applyCommit_keeps])

theorem execClkSwap_moves (m s) : Moves accessParts s (execClkSwap m s) :=
  .next (s.gate_keepsBut (by decide) (by simp [keepsBut_iff, accessParts, State.swapRef_keeps]))

theorem execDselChange_moves (m d src s) : Moves accessParts s (execDselChange m d src s) :=
  .next (s.gate_keepsBut (by decide) (by simp [keepsBut_iff, accessParts, State.dsel_keeps]))

theorem execEvtStatusClear_moves (m place val s) : Moves accessParts s (execEvtStatusClear m place val s) :=
  .next (s.gate_keepsBut (by decide) (by simp [keepsBut_iff, accessParts, State.clearAt_keeps]))

theorem execEvtEnableWrite_moves (m place val s) : Moves accessParts s (execEvtEnableWrite m place val s) :=
  .next (s.gate_keepsBut (by decide) (by simp [keepsBut_iff, accessParts, State.enableAt_keeps]))

theorem execEvtRouteWrite_moves (m page val s) : Moves accessParts s (execEvtRouteWrite m page val s) :=
  .next (s.gate_keepsBut (by decide) (by simp [keepsBut_iff, accessParts, State.ownRoute_keeps]))

theorem execEvrRouteWrite_moves (m val s) : Moves accessParts s (execEvrRouteWrite m val s) :=
  .next (s.gate_keepsBut (by decide) (by simp [keepsBut_iff, accessParts, State.evrRoute_keeps]))

theorem execPmcClear_moves (m page ctl s) : Moves accessParts s (execPmcClear m page ctl s) :=
  .next (s.gate_keepsBut (by decide) (by simp [keepsBut_iff, accessParts, State.pmcCtl_keeps]))

theorem execPmcGctlRun_moves (m run s) : Moves accessParts s (execPmcGctlRun m run s) :=
  .next (s.gate_keepsBut (by decide) (by simp [keepsBut_iff, accessParts, State.pmcGctl_keeps]))

theorem execPmcGctlClear_moves (m run s) : Moves accessParts s (execPmcGctlClear m run s) :=
  .next (s.gate_keepsBut (by decide) (by simp [keepsBut_iff, accessParts, State.pmcGctl_keeps]))

theorem execLockAcquire_moves (m page lease s) : Moves accessParts s (execLockAcquire m page lease s) :=
  .next (by simp [keepsBut_iff, accessParts, State.writeLock_keeps])

theorem execLockRelease_moves (m page s) : Moves accessParts s (execLockRelease m page s) :=
  .next (by simp [keepsBut_iff, accessParts, State.writeLock_keeps])

theorem execLockForce_moves (m page s) : Moves accessParts s (execLockForce m page s) :=
  .next (by simp [keepsBut_iff, accessParts, State.writeLock_keeps])

theorem execCtrlHold_moves (m page hold s) : Moves accessParts s (execCtrlHold m page hold s) :=
  .next (s.gate_keepsBut (by decide) (by simp [keepsBut_iff, accessParts]))

theorem execDevMgmtWrite_moves (m ld s) : Moves accessParts s (execDevMgmtWrite m ld s) :=
  .next (s.gate_keepsBut (by decide) (by simp [keepsBut_iff, accessParts, State.mgmtMoved_keeps]))

theorem execFrecClear_moves (m page s) :
    Moves [.now, .out, .regs, .ret, .evt, .flt, .obs, .host, .amap, .ddr, .dunas, .brg, .clk, .mgmt] s
      (execFrecClear m page s) :=
  .next (s.gate_keepsBut (by decide) (by simp [keepsBut_iff, State.clearRec_keeps]))

theorem execCmaintClean_moves (m c cache how s) :
    Moves [.now, .out, .regs, .ret, .evt, .obs, .host, .amap, .ddr, .dunas, .brg, .clk, .core, .mgmt] s
      (execCmaintClean m c cache how s) :=
  .next (by simp [keepsBut_iff, State.writeCmaint_keeps])

theorem execCmaintInvalidate_moves (m c cache how s) :
    Moves [.now, .out, .regs, .ret, .evt, .obs, .host, .amap, .ddr, .dunas, .brg, .clk, .core, .mgmt] s
      (execCmaintInvalidate m c cache how s) :=
  .next (by simp [keepsBut_iff, State.writeCmaint_keeps])

theorem execCmaintCleanInvalidate_moves (m c cache how s) :
    Moves [.now, .out, .regs, .ret, .evt, .obs, .host, .amap, .ddr, .dunas, .brg, .clk, .core, .mgmt] s
      (execCmaintCleanInvalidate m c cache how s) :=
  .next (by simp [keepsBut_iff, State.writeCmaint_keeps])

theorem execCmaintVictim_moves (m c cache s) :
    Moves [.now, .out, .regs, .ret, .evt, .obs, .host, .amap, .ddr, .dunas, .brg, .clk, .core, .mgmt] s
      (execCmaintVictim m c cache s) :=
  .next (by simp [keepsBut_iff, State.writeCmaint_keeps])

theorem execCctlWrite_moves (m c ien den s) :
    Moves [.now, .out, .regs, .ret, .evt, .obs, .host, .amap, .ddr, .dunas, .brg, .clk, .core, .mgmt] s
      (execCctlWrite m c ien den s) :=
  .next (s.gate_keepsBut (by decide) (by simp [keepsBut_iff, State.cctl_keeps]))

theorem execHscStart_moves (m s) :
    Moves [.now, .out, .regs, .ret, .evt, .obs, .host, .amap, .ddr, .dunas, .brg, .clk, .hsc, .mgmt] s
      (execHscStart m s) :=
  .next (by simp [keepsBut_iff, State.hscWrite_keeps])

theorem execHscStop_moves (m s) :
    Moves [.now, .out, .regs, .ret, .evt, .obs, .host, .amap, .ddr, .dunas, .brg, .clk, .hsc, .mgmt] s
      (execHscStop m s) :=
  .next (by simp [keepsBut_iff, State.hscWrite_keeps])

theorem execHscClearLatch_moves (m s) :
    Moves [.now, .out, .regs, .ret, .evt, .obs, .host, .amap, .ddr, .dunas, .brg, .clk, .hsc, .mgmt] s
      (execHscClearLatch m s) :=
  .next (by simp [keepsBut_iff, State.hscWrite_keeps])

theorem execHscClrShort_moves (m voutMv s) :
    Moves [.now, .out, .regs, .ret, .evt, .obs, .host, .amap, .ddr, .dunas, .brg, .clk, .hsc, .mgmt] s
      (execHscClrShort m voutMv s) :=
  .next (by simp [keepsBut_iff, State.hscWrite_keeps])

theorem execCommitGo_moves (m page s) :
    Moves [.now, .free, .out, .regs, .ret, .evt, .obs, .host, .amap, .mem, .ddr, .tier, .dunas, .brg, .clk, .mgmt] s
      (execCommitGo m page s) :=
  .next (by simp [keepsBut_iff, State.writeCommit_keeps])

theorem execCommitDiscard_moves (m page s) :
    Moves [.now, .free, .out, .regs, .ret, .evt, .obs, .host, .amap, .mem, .ddr, .tier, .dunas, .brg, .clk, .mgmt] s
      (execCommitDiscard m page s) :=
  .next (by simp [keepsBut_iff, State.writeCommit_keeps])

theorem execClockMonitorFlag_moves (c s) : Moves portLossParts s (execClockMonitorFlag c s) :=
  .next (by simp [keepsBut_iff, portLossParts, State.flagged_keeps])

theorem execRootLoopLock_moves (s) :
    Moves [.free, .out, .regs, .ret, .evt, .flt, .obs, .host, .amap, .mem, .home, .ddr, .tier, .dunas, .brg, .clk,
      .boot, .mgmt] s
      (execRootLoopLock s) :=
  .next (s.when_keepsBut (by simp [keepsBut_iff, State.rootLocked_keeps, State.afterFabric_keeps]))

theorem execRetainedWordUe_moves (w s) : Moves faultParts s (execRetainedWordUe w s) :=
  .next (s.when_keepsBut (by simp [keepsBut_iff, faultParts, State.raiseAt_keeps, State.faultP_keeps]))

theorem execFatalLane_moves (slot s) : Moves faultParts s (execFatalLane slot s) :=
  .next (s.when_keepsBut (by simp [keepsBut_iff, faultParts, State.faultP_keeps]))

theorem execFaultFrame_moves (site cls row col cause s) :
    Moves faultParts s (execFaultFrame site cls row col cause s) := by
  unfold execFaultFrame; dsimp only
  (repeat' split) <;> simp [keepsBut_iff, faultParts, State.fault_keeps, State.emit_keeps]

theorem execHeartbeatLoss_moves (slot s) : Moves faultParts s (execHeartbeatLoss slot s) := by
  unfold execHeartbeatLoss; dsimp only
  (repeat' split) <;> simp [keepsBut_iff, faultParts, State.faultP_keeps, State.raiseAt_keeps]

theorem execRailFallen_moves (k s) :
    Moves [.out, .regs, .ret, .evt, .flt, .obs, .host, .amap, .mem, .home, .ddr, .tier, .dm, .dunas, .brg, .clk, .hsc,
      .boot, .mgmt] s
      (execRailFallen k s) := by
  unfold execRailFallen; dsimp only
  (repeat' split) <;> simp [keepsBut_iff, State.onBoot_keeps, State.railOff_keeps, State.railsGone_keeps,
    State.railsFallen_keeps]

end Sys2Proof.Machine
end

section
/-! PROOF. The frames of the commands of clocks, power, management, faults, events, counters and registers. -/

open Sys2Proof Sys2Proof.Machine

/-- Settles O60: each command moves the groups that its operations move. -/
theorem framesOfSystemCommands : Obligations.FramesOfSystemCommands :=
  ⟨execFastOscDiscipline_moves, execFenceI_moves, execSmbusAra_moves, execIbiAccepted_moves, execVinWindowEntry_moves,
    execSerialLinkReturn_moves, execEnergyLedgerTick_moves, execI3cDaa_moves, execRampEnd_moves,
    execClockGateStart_moves, execPhyQuadWake_moves, execRailGood_moves, execXtalQualify_moves, execClockGateStop_moves,
    execInsertionDelayEnd_moves, execNtcRecover_moves, execCoolWaitEnd_moves, execLockLeaseExpiry_moves,
    execTapInstruction_moves, execSubdomainPowerDown_moves, execRecoveryCounterStore_moves, execImgBegin_moves,
    execImgData_moves, execRailEnable_moves, execLogRecordWrite_moves, execEventRaise_moves, execCounterOverflow_moves,
    execTraceRecordWrite_moves, execImgEnd_moves, execFrameCheckFail_moves, execCfgRecordEnd_moves,
    execRefEdgeLoss_moves, execLoopRelock_moves, execRefSwitch_moves, execLoopLockLoss_moves, execVinOvervoltage_moves,
    execVinUndervoltage_moves, execCurrentLimitEntry_moves, execNtcInvalid_moves, execCfgWaitTimeout_moves,
    execXtalQualifyTimeout_moves, execXtalRetry_moves, execSlowOscCheck_moves, execRetryWaitEnd_moves,
    execPgOutLevelAge_moves, execFastTrip_moves, execStartTimeout_moves, execBreakerExpiry_moves,
    execDamagedTransistor_moves, execRailRetry_moves, execFetModelTick_moves, execCommitApply_moves, execClkSwap_moves,
    execDselChange_moves, execEvtStatusClear_moves, execEvtEnableWrite_moves, execEvtRouteWrite_moves,
    execEvrRouteWrite_moves, execPmcClear_moves, execPmcGctlRun_moves, execPmcGctlClear_moves, execLockAcquire_moves,
    execLockRelease_moves, execLockForce_moves, execCtrlHold_moves, execDevMgmtWrite_moves, execFrecClear_moves,
    execCmaintClean_moves, execCmaintInvalidate_moves, execCmaintCleanInvalidate_moves, execCmaintVictim_moves,
    execCctlWrite_moves, execHscStart_moves, execHscStop_moves, execHscClearLatch_moves, execHscClrShort_moves,
    execCommitGo_moves, execCommitDiscard_moves, execClockMonitorFlag_moves, execRootLoopLock_moves,
    execRetainedWordUe_moves, execFatalLane_moves, execFaultFrame_moves, execHeartbeatLoss_moves, execRailFallen_moves⟩
end

section
/-! SUPPORT. What a guard that fails leaves, and what an instant that has come does. -/

namespace Sys2Proof.Machine

theorem State.when_neg (s : State) {b : Bool} {f : State → State} (h : b = false) : s.when b f = s := by
  rw [h, State.when_false]

end Sys2Proof.Machine
end

section
/-! SUPPORT. A die sensor that reads hot (R464, R484, R571). -/

namespace Sys2Proof.Machine

/-- The die sensors of the Ozquenko chiplets are at pages that have a site, in the order of R464. -/
theorem sensorSlot_site : ∀ n < 23, ozSite (chipletPage (sensorSlot n)) = true ∧
    sensorSlot n = (if n < 2 then 0 else if n = 2 then 1 else if n < 7 then 2 else if n < 9 then 4 else if n < 11 then 5
      else if n < 14 then 8 else if n < 17 then 9 else if n < 20 then 10 else 11) := by
  decide

/-- The reading of a die sensor, before the event that it may raise. -/
def State.dieNoted (s : State) (n : Nat) (t : BitVec 16) : State :=
  let top := match look? s.mgmt.diePeak n with
    | some p => if p.toInt < t.toInt then t else p
    | none => t
  let hot := decide (4 * s.cfg sensPage 0x98 0 8 ≤ t.toInt) ||
    (s.mgmt.hot.contains n && decide (4 * (s.cfg sensPage 0x98 0 8 : Int) - 12 < t.toInt))
  let rest := s.mgmt.hot.filter (· != n)
  s.onMgmt (fun m => { m with
    die := put 0 m.die n t, diePeak := enter top m.diePeak n, hot := if hot then n :: rest else rest })

/-- A reading at SENS.CFG.TWARN of a sensor that was not hot raises DIE_HOT (R484). -/
theorem State.readDie_raises {s : State} {n : Nat} {t : BitVec 16} (warm : (4 * s.cfg sensPage 0x98 0 8 : Int) ≤ t.toInt)
    (cool : s.mgmt.hot.contains n = false) : s.readDie n t =
      (s.dieNoted n t).raise { src := 47, site := siteOfPage sensPage, subject := n, detail := [t.toNat] } := by
  have rises : ((decide ((4 * s.cfg sensPage 0x98 0 8 : Int) ≤ t.toInt) || (s.mgmt.hot.contains n &&
      decide ((4 * s.cfg sensPage 0x98 0 8 : Int) - 12 < t.toInt))) && !s.mgmt.hot.contains n) = true := by
    rw [decide_eq_true warm, cool]
    rfl
  exact State.when_pos (s.dieNoted n t)
    (f := fun u => u.raise { src := 47, site := siteOfPage sensPage, subject := n, detail := [t.toNat] }) rises

end Sys2Proof.Machine
end

section
/-! PROOF. A die sensor at 120 degrees. -/

open Sys2Proof Sys2Proof.Machine

/-- Settles O13: the event of an Ozquenko sensor is the class F fault of its slot, the slots are those of R464, and the sensor
beside the Borage site only raises DIE_HOT, which leaves the fault collector. -/
theorem overtemperatureIsClassF : Obligations.OvertemperatureIsClassF := by
  refine ⟨fun s n up small on => ?_, sensorSlot_site, fun s => ?_, fun s t warm low cool up => ?_⟩
  · exact congrArg Host.Outcome.next (s.when_pos (by simp [up, small, on]))
  · exact congrArg Host.Outcome.next (s.when_neg (by simp))
  · refine ⟨?_, by simp [State.readDie_keeps]⟩
    rw [State.readDie_raises (by omega) cool]
    exact State.raise_pend (s := s.dieNoted 23 t) (e := { src := 47, site := _, subject := _, detail := _ })
      (by decide : definedSource 47 = true) up (by decide : 47 < 768)
end

section
/-! SUPPORT. Commits of staged values: what GO, DISCARD and the safe point move of the registers (R537, R538). -/

namespace Sys2Proof.Machine

/-- Setting registers changes the active values alone. -/
theorem State.activate_regs (s : State) (p off v : Nat) :
    ∃ a, (s.activate p off v).regs = { s.regs with active := a } := by
  unfold State.activate
  split
  · exact ⟨_, rfl⟩
  · exact ⟨_, rfl⟩

theorem State.activateAll_regs (s : State) (p : Nat) (l : Table Word) :
    ∃ a, (s.each l fun s e => s.activate p e.1 e.2.toNat).regs = { s.regs with active := a } := by
  induction l generalizing s with
  | nil => exact ⟨_, rfl⟩
  | cons e l ih =>
    obtain ⟨a, one⟩ := s.activate_regs p e.1 e.2.toNat
    obtain ⟨b, rest⟩ := ih (s.activate p e.1 e.2.toNat)
    exact ⟨b, by rw [State.each, List.foldl_cons, ← State.each, rest, one]⟩

/-- The values that a page's GO took, by register. -/
def State.gone (s : State) (p : Nat) : Table Word := s.regs.going.filter (fun e => e.1 / 4096 == p)

/-- A page reaches its safe point: the values that its GO took are active, and nothing of it is pending or taken. -/
theorem State.applyCommit_regs {s : State} {p : Nat} (due : s.regs.pending.contains p = true) :
    (s.applyCommit p).regs = { s.regs with
      active := (s.each (s.gone p) fun s e => s.activate p e.1 e.2.toNat).regs.active
      going := s.regs.going.filter (fun e => e.1 / 4096 != p)
      pending := s.regs.pending.filter (fun q => q != p) } := by
  obtain ⟨a, active⟩ := s.activateAll_regs p (s.gone p)
  rw [active]
  unfold State.applyCommit
  rw [if_pos due, State.when_regs _ _ _ fun t => by simp [State.dropDemotions_keeps],
    State.when_regs _ _ _ fun t => by simp [State.commitEntries_keeps]]
  simp only [State.gone] at active
  simp only [State.withRegs, active]
  rfl

theorem State.applyCommit_idle {s : State} {p : Nat} (done : s.regs.pending.contains p = false) : s.applyCommit p = s := by
  unfold State.applyCommit
  rw [if_neg (by rw [done]; decide)]

/-- A safe point of another page than the address map's leaves the map. -/
theorem State.applyCommit_amap {s : State} {p : Nat} (other : p ≠ amapPage) : (s.applyCommit p).amap = s.amap := by
  unfold State.applyCommit
  split
  · rw [State.when_amap _ _ _ fun t => by simp [State.dropDemotions_keeps], State.when_neg _ (by simp [other])]
    exact State.each_amap _ _ _ fun t e => by simp [State.activate_keeps]
  · rfl

/-- GO with staged values takes them: the page's commit is pending and none of its values is staged (R538). -/
theorem State.takeStaged_regs (s : State) (p : Nat) : ∃ g, (s.takeStaged p).regs = { s.regs with
    staged := s.regs.staged.filter (fun e => e.1 / 4096 != p), going := g
    pending := if s.regs.pending.contains p then s.regs.pending else s.regs.pending ++ [p] } := by
  unfold State.takeStaged
  exact ⟨_, State.when_regs _ _ _ fun _ => rfl⟩

/-- What a page's COMMIT register reaches needs no sub-domain that GO could move. -/
theorem State.takeStaged_asleep (s : State) (p : Nat) :
    (s.takeStaged p).asleep (p * 4096 + 0x20) = s.asleep (p * 4096 + 0x20) := by
  have low : (p * 4096 + 0x20) % 4096 = 0x20 := by omega
  simp [State.asleep, State.wakeable, low, State.takeStaged_keeps]

theorem State.commitWrite_go {s : State} (m : Master) {p : Nat} (some_staged : s.toTake p = true) : s.commitWrite m p 1 =
    if (s.asleep (p * 4096 + 0x20)).isSome then (s.takeStaged p).applyCommit p else s.takeStaged p := by
  simp only [State.commitWrite, some_staged, State.takeStaged_asleep, if_true]
  exact if_pos (by decide)

theorem State.commitWrite_discard (s : State) (m : Master) (p : Nat) : s.commitWrite m p 8 = s.discardStaged m p := by
  unfold State.commitWrite
  rw [if_neg (by decide), if_pos (by decide)]

/-- Nothing of a page is staged, in its registers or in the address map. -/
def State.unstaged (s : State) (p : Nat) : State :=
  (s.withRegs { s.regs with staged := s.regs.staged.filter (fun e => e.1 / 4096 != p) }).when (p == amapPage) fun s =>
    s.withAmap { s.amap with staged := [] }

/-- A retained write moves the retained store alone. -/
theorem State.retWrite_eq (s : State) (k : Nat) (v : Word) (who : Option Master) : ∃ r, s.retWrite k v who = s.withRet r := by
  unfold State.retWrite
  extract_lets bad w
  split
  · exact ⟨s.ret, rfl⟩
  · exact ⟨_, rfl⟩

/-- DISCARD while no commit of the page is pending drops the page's staged values, and may write their backing word (R537). -/
theorem State.discardStaged_eq {s : State} (m : Master) {p : Nat} (free : s.regs.pending.contains p = false) :
    ∃ r, s.discardStaged m p = (s.unstaged p).withRet r := by
  unfold State.discardStaged
  rw [if_neg (by rw [free]; decide)]
  split
  · exact ⟨_, rfl⟩
  · split
    · exact ⟨_, rfl⟩
    · exact State.retWrite_eq _ _ _ _

theorem State.unstaged_regs (s : State) (p : Nat) :
    (s.unstaged p).regs = { s.regs with staged := s.regs.staged.filter (fun e => e.1 / 4096 != p) } :=
  State.when_regs _ _ _ fun _ => rfl

theorem under_testBit (old new mask : Nat) {b : Nat} (h : b < 32) :
    (under old new mask).testBit b = if mask.testBit b then new.testBit b else old.testBit b := by
  have ones : (0xFFFFFFFF : Nat).testBit b = true := by
    simpa [h] using Nat.testBit_two_pow_sub_one 32 b
  rw [under, Nat.testBit_or, Nat.testBit_and, Nat.testBit_and, Nat.testBit_xor, ones]
  cases mask.testBit b <;> simp

end Sys2Proof.Machine
end

section
/-! PROOF. COMMIT: GO, the safe point and DISCARD. -/

open Sys2Proof Sys2Proof.Machine

/-- Settles O55: GO takes what is staged and marks the page, the safe point ends the mark and activates what was taken, and
DISCARD drops what no GO has taken. -/
theorem commitsOfStagedValues : Obligations.CommitsOfStagedValues := by
  refine ⟨fun s m p h => ⟨congrArg Host.Outcome.next (s.gate_accepts m _ _ _ h),
    congrArg Host.Outcome.next (s.gate_accepts m _ _ _ h)⟩, fun s m p none_staged => ?_, fun s m p some_staged awake => ?_,
    fun s m p some_staged asleep => ?_, fun s p done => congrArg Host.Outcome.next (State.applyCommit_idle done),
    fun s p due other => .of_exec rfl ?_, fun s p off v r due other taken own found => .of_exec rfl ?_,
    fun old new mask b small => under_testBit old new mask small, fun s m p due => ?_, fun s m p free => ?_, fun s m p => ?_⟩
  · simp [State.commitWrite, none_staged]
  · obtain ⟨g, regs⟩ := s.takeStaged_regs p
    rw [State.commitWrite_go m some_staged, if_neg (by simpa using awake)]
    dsimp only
    rw [regs]
    refine ⟨?_, rfl, rfl, rfl, by simp [State.takeStaged_keeps], fun q listed => ?_⟩
    · dsimp only
      split <;> simp_all
    · dsimp only
      split
      · exact listed
      · exact List.mem_append_left _ listed
  · obtain ⟨g, regs⟩ := s.takeStaged_regs p
    have due : (s.takeStaged p).regs.pending.contains p = true := by
      rw [regs]
      dsimp only
      split <;> simp_all
    rw [State.commitWrite_go m some_staged, if_pos asleep, State.applyCommit_regs due, regs]
    dsimp only
    constructor
    · split <;> simp
    · simp
  · rw [State.applyCommit_regs due, State.applyCommit_amap other]
    exact ⟨rfl, rfl, rfl, rfl, rfl⟩
  · have place : p.toNat * 4096 + off % 4096 = off := by omega
    simp only [State.applyCommit_regs due, State.gone, taken, List.filter_cons, own, BEq.rfl, if_true, List.filter_nil,
      State.each, List.foldl_cons, List.foldl_nil, State.activate, found, State.setReg, place]
    exact look_put_same _ _ _ _
  · rw [State.commitWrite_discard, State.discardStaged, if_pos due]
  · obtain ⟨r, dropped⟩ := State.discardStaged_eq m free
    rw [State.commitWrite_discard, dropped]
    have regs : ((s.unstaged p).withRet r).regs = _ := s.unstaged_regs p
    rw [regs]
    refine ⟨rfl, rfl, rfl, fun same => ?_, fun other => ?_⟩
    · have cleared : s.unstaged p = _ := State.when_pos _ (by simp [same])
      rw [cleared]
      rfl
    · have kept : s.unstaged p = _ := State.when_neg _ (by simp [other])
      rw [kept]
      rfl
  · rfl
end

section
/-! SUPPORT. Page locks: reading a lock after a change of the table, and the writes of LOCK (R541). -/

namespace Sys2Proof.Machine

theorem look?_enter {α : Type} (v : α) (t : Table α) (k j : Nat) :
    look? (enter v t k) j = if j = k then some v else look? t j := by
  induction t with
  | nil => simp only [enter, look?, eq_comm]
  | cons e t ih =>
    obtain ⟨k', v'⟩ := e
    simp only [enter]
    split
    · simp only [look?, eq_comm]
    · split
      next same =>
        subst same
        simp only [look?, eq_comm]
        split <;> rfl
      next other =>
        simp only [look?, ih]
        split
        · rw [if_neg (by omega)]
        · rfl

theorem look?_wipe {α : Type} (t : Table α) (k j : Nat) : look? (wipe t k) j = if j = k then none else look? t j := by
  induction t with
  | nil => simp [wipe, look?]
  | cons e t ih =>
    obtain ⟨k', v'⟩ := e
    simp only [wipe]
    split
    next same =>
      subst same
      simp only [look?, ih, eq_comm]
      split <;> rfl
    next other =>
      simp only [look?, ih]
      split
      · rw [if_neg (by omega)]
      · rfl

/-! ### The table of locks -/

theorem State.lockOf_congr {s t : State} (h : t.regs.locks = s.regs.locks) (p : Nat) : t.lockOf p = s.lockOf p := by
  rw [State.lockOf, h, State.lockOf]

theorem State.setLock_look? (s : State) (p : Nat) (k : PageLock) : look? (s.setLock p k).regs.locks p = some k := by
  simp [State.setLock, look?_enter]

theorem State.setLock_lockOf_ne (s : State) {p q : Nat} (k : PageLock) (h : q ≠ p) : (s.setLock p k).lockOf q = s.lockOf q := by
  simp [State.lockOf, State.setLock, look?_enter, h]

theorem State.freeLock_lockOf (s : State) (p q : Nat) : (s.freeLock p).lockOf q = if q = p then 0 else s.lockOf q := by
  simp only [State.lockOf, State.freeLock, State.withRegs_regs, look?_wipe]
  split <;> rfl

/-! ### Writes of LOCK -/

/-- The word of an ACQUIRE has the bit ACQUIRE, neither RELEASE nor FORCE, and its lease. -/
theorem acquireWord : ∀ lease : BitVec 8, (wordOf [(2, 1), (8, lease.toNat)]).getLsbD 2 = true ∧
    (wordOf [(2, 1), (8, lease.toNat)]).getLsbD 3 = false ∧ (wordOf [(2, 1), (8, lease.toNat)]).getLsbD 4 = false ∧
    fieldOf (wordOf [(2, 1), (8, lease.toNat)]) 8 8 = lease.toNat := by
  decide +kernel

/-- ACQUIRE takes a lock that is free or the writer's own, and leaves another. -/
theorem State.lockWrite_acquire (s : State) (m : Master) (p : Nat) (lease : BitVec 8) :
    s.lockWrite m p (wordOf [(2, 1), (8, lease.toNat)]) = if s.lockOf p = 0 ∨ s.lockOf p = ownerCode m then
      s.setLock p { owner := ownerCode m, lease := lease.toNat, last := s.now } else s := by
  obtain ⟨acquire, keep, unforced, span⟩ := acquireWord lease
  simp only [State.lockWrite, acquire, keep, unforced, span, Bool.false_and, State.when_false, if_true]
  by_cases free : s.lockOf p = 0
  · simp [free]
  · simp [free]

theorem ownerCode_ne_zero (m : Master) : ownerCode m ≠ 0 := by
  cases m <;> simp [ownerCode]

/-- RELEASE frees the writer's own lock. -/
theorem State.lockWrite_release (s : State) (m : Master) (p : Nat) :
    s.lockWrite m p 8 = if s.lockOf p = ownerCode m then s.freeLock p else s := by
  have release : (8 : Word).getLsbD 3 = true := by decide
  have keep : (8 : Word).getLsbD 2 = false := by decide
  have unforced : (8 : Word).getLsbD 4 = false := by decide
  simp only [State.lockWrite, release, keep, unforced, Bool.false_and, Bool.true_and, State.when_false]
  by_cases mine : s.lockOf p = ownerCode m
  · simp [mine, State.freeLock_lockOf]
  · simp only [beq_false_of_ne mine, State.when_false, if_neg mine, Bool.false_eq_true, if_false, ite_self]

theorem State.setStatus_lockOf (s : State) (p b q : Nat) : (s.setStatus p b).lockOf q = s.lockOf q :=
  State.lockOf_congr rfl q

/-- FORCE from a management core frees any lock and sets STATUS.FORCED; from another master it does nothing to a lock of
someone else. -/
theorem State.lockWrite_force (s : State) (c : Fin 2) (p : Nat) :
    s.lockWrite (.core c) p 16 = (s.freeLock p).setStatus p 5 := by
  have free : ((s.freeLock p).setStatus p 5).lockOf p = 0 := by
    rw [State.setStatus_lockOf, State.freeLock_lockOf, if_pos rfl]
  simp [State.lockWrite, ownerCode, free]

theorem State.lockWrite_force_denied {s : State} {m : Master} {p : Nat} (outside : ∀ c : Fin 2, m ≠ .core c)
    (other : s.lockOf p ≠ ownerCode m) : s.lockWrite m p 16 = s := by
  have plain : ownerCode m ≠ 3 := by
    cases m with
    | core c => exact absurd rfl (outside c)
    | host ld => simp [ownerCode]
    | bmc => simp [ownerCode]
  have keep : (16 : Word).getLsbD 3 = false := by decide
  have unasked : (16 : Word).getLsbD 2 = false := by decide
  simp only [State.lockWrite, beq_false_of_ne plain, keep, unasked, Bool.and_false, Bool.false_and, State.when_false,
    if_neg other, Bool.false_eq_true, if_false, ite_self]

/-- STATUS has no retained field, so a bit of it that is set reads 1 (R534). -/
theorem State.setStatus_forced (s : State) (p : Nat) : (s.setStatus p 5).cfgBit p 0x10 5 = true := by
  have found : regAt (p * 4096 + 0x10) = regsCommon.find? (·.at 0x10) := by
    have low : (p * 4096 + 0x10) % 4096 = 0x10 := by omega
    simp [regAt, low]
  obtain ⟨R, here, plain⟩ : ∃ R, regsCommon.find? (·.at 0x10) = some R ∧
      R.fields.filter (fun f => f.isRwp && f.cls != .h) = [] := ⟨_, rfl, by decide⟩
  have bit : ((s.activeWord (p * 4096 + 0x10) ||| 2 ^ 5) % 2 ^ 32).testBit 5 = true := by
    rw [Nat.testBit_mod_two_pow, Nat.testBit_or, Nat.testBit_two_pow_self]
    simp
  rw [State.cfgBit, State.cfg, State.setStatus, State.setReg_activeWord_same _ _ _ _ (found.trans here) plain,
    BitVec.toNat_ofNat]
  simpa [bits, Nat.testBit_eq_decide_div_mod_eq, Nat.shiftRight_eq_div_pow] using bit

end Sys2Proof.Machine
end

section
/-! PROOF. Locks, CTRL.HOLD and DEV.MGMT. -/

open Sys2Proof Sys2Proof.Machine

/-- Settles O56: each write is its register's effect, ACQUIRE, RELEASE, FORCE and the end of a lease change the lock of their page
alone, and DEV.MGMT releases the host locks where its class admits the write. -/
theorem locksHoldAndManagementFunction : Obligations.LocksHoldAndManagementFunction := by
  refine ⟨fun s m p lease h => ?_, fun s m p lease => ?_, fun s m p => ?_, fun s c p => ?_,
    fun s m p outside other => State.lockWrite_force_denied outside other, fun s p k held => ?_, fun s p none_held => ?_,
    fun s m p hold h => congrArg Host.Outcome.next (s.gate_accepts m _ _ _ h),
    fun s m ld h => congrArg Host.Outcome.next (s.gate_accepts m _ _ _ h), fun s => ?_⟩
  · exact ⟨congrArg Host.Outcome.next (s.gate_accepts m _ _ _ h), congrArg Host.Outcome.next (s.gate_accepts m _ _ _ h),
      congrArg Host.Outcome.next (s.gate_accepts m _ _ _ h)⟩
  · intro w
    rw [show s.lockWrite m p w = _ from s.lockWrite_acquire m p lease]
    refine ⟨fun takes => ?_, fun held other => if_neg (by simp [held, other]), fun q _ other => ?_⟩
    · rw [if_pos takes, State.setLock_look?]
    · split
      · exact s.setLock_lockOf_ne _ other
      · rfl
  · rw [State.lockWrite_release]
    refine ⟨fun mine => ?_, fun other => if_neg other, fun q _ other => ?_⟩
    · rw [if_pos mine, State.freeLock_lockOf, if_pos rfl]
    · split
      · rw [State.freeLock_lockOf, if_neg other]
      · rfl
  · rw [State.lockWrite_force]
    exact ⟨by rw [State.setStatus_lockOf, State.freeLock_lockOf, if_pos rfl], fun _ => State.setStatus_forced _ p⟩
  · refine ⟨fun unleased => ?_, fun leased => ?_⟩
    · exact (show execLockLeaseExpiry p s = _ by simp [execLockLeaseExpiry, held, unleased])
    · have expires : exec (.lockLeaseExpiry p) s =
          .next ((s.reach (k.last + ms (10 * k.lease))).freeLock p.toNat) := by
        exact (show execLockLeaseExpiry p s = _ by simp [execLockLeaseExpiry, held, leased])
      refine .of_exec expires ⟨by rw [State.freeLock_lockOf, if_pos rfl], State.reach_now _ _, fun q _ other => ?_⟩
      rw [State.freeLock_lockOf, if_neg other]
      exact State.lockOf_congr (by simp [State.reach_keeps]) q
  · exact (show execLockLeaseExpiry p s = _ by simp [execLockLeaseExpiry, none_held])
  · exact ⟨fun busy => State.when_neg s busy, fun quiet => State.when_pos s quiet⟩
end

section
/-! SUPPORT. A trace record that finds the ring full, while a counter of occupancy runs. -/

namespace Sys2Proof.Machine

/-- The trace ring is full, its last write was at 0 ns, and counter 0 of the AUX page selects an occupancy code whose value was 1
in the last cycle and is 0 now. -/
def fullTraceRing : State :=
  { regs := { active := [(0x1FFF * 4096 + 0x40, 1)] }
    obs := {
      buf := [{ time := 0, addr := 0, kind := 0, flags := 0, port := 0, hs := 0, agent := 0, chan := 0, d11 := 0 }]
      wptr := 65535, wroteAt := some 0, pmc := [(0x1FFF, { evsel := [(0, 0x80)], was := [(0, 1)] })] } }

/-- TRACE_RECORD_WRITE comes 10 ns after the last write of a record, and the occupancy counters count up to it (R513, R520). -/
def fullTraceRing.dropped : State :=
  ((fullTraceRing.reach 10).withObs { (fullTraceRing.reach 10).obs with
    buf := [], wroteAt := some (fullTraceRing.reach 10).now }).trcDrop

end Sys2Proof.Machine
end

section
/-! PROOF. The statement on counters and the trace ring fails: a dropped record takes its time, in which counters count. -/

open Sys2Proof Sys2Proof.Machine

/-- Refutes O54: a record that finds the trace ring full is dropped 10 ns after the last write, and an occupancy counter counts the
cycle that passes until then (R513). The clause leaves the counters as they were. -/
theorem not_countersAndTheTraceRing : ¬ Obligations.CountersAndTheTraceRing := by
  intro h
  obtain ⟨-, -, -, -, -, -, -, -, full, -⟩ := h
  obtain ⟨t, run, claimed, -⟩ := full fullTraceRing _ [] rfl (by decide +kernel)
  have drops : exec .traceRecordWrite fullTraceRing = .next fullTraceRing.dropped := by
    change Host.Outcome.next (if _ then _ else _) = _
    exact congrArg Host.Outcome.next (if_pos (by decide +kernel))
  injection run.symm.trans drops with same
  have kept : fullTraceRing.dropped.obs.pmc = fullTraceRing.obs.pmc := by rw [← same, claimed]
  exact absurd kept (by decide +kernel)
end

section
/-! SUPPORT. The word of CMAINT, and what a maintenance operation does to a core's caches (R450, R482). -/

namespace Sys2Proof.Machine

/-! ### The word -/

/-- The line that a word of CMAINT names (R482). -/
def maintBy (v : Word) : MaintBy :=
  if bitOf v.toNat 3 then .setWay (Fin.ofNat 128 (fieldOf v 5 7)) (Fin.ofNat 4 (fieldOf v 12 2)) else .addr

/-- The cache that a word of CMAINT names (R482). -/
def maintSel (v : Word) : CacheSel := if bitOf v.toNat 2 then .data else .instr

/-- The fields of the word that a maintenance operation writes. -/
def CmaintFields (op : Nat) (k : CacheSel) (how : MaintBy) (victim : Bool) : Prop :=
  let w := cmaintWord op k how victim
  fieldOf w 0 2 = op ∧ maintSel w = k ∧ maintBy w = how ∧ bitOf w.toNat 4 = victim

theorem cmaintFields_addr : ∀ op : Fin 4, ∀ victim : Bool, ∀ k ∈ [CacheSel.instr, .data],
    CmaintFields op k .addr victim := by
  unfold CmaintFields
  decide

theorem cmaintFields_setWay : ∀ op : Fin 4, ∀ k ∈ [CacheSel.instr, .data], ∀ set : Fin 128, ∀ way : Fin 4,
    CmaintFields op k (.setWay set way) false := by
  unfold CmaintFields
  decide +kernel

theorem mem_caches (k : CacheSel) : k ∈ [CacheSel.instr, .data] := by
  cases k <;> decide

theorem cmaintFields_line (op : Fin 4) (k : CacheSel) (how : MaintBy) : CmaintFields op k how false := by
  cases how with
  | addr => exact cmaintFields_addr op false k (mem_caches k)
  | setWay set way => exact cmaintFields_setWay op k (mem_caches k) set way

/-! ### The operations -/

section Operations
variable {s : State} {m : Master} {c : Nat} (may : s.mayMaintain m c = true) (k : CacheSel) (how : MaintBy)
include may

/-- What a word of CMAINT with given fields does (R450). -/
theorem State.cmaint_of_fields {op : Nat} {victim : Bool} (fields : CmaintFields op k how victim) :
    s.cmaint m c (cmaintWord op k how victim) =
      if op == 0 then s
      else if op == 2 && victim then s.victimInv c k
      else if op == 1 then s.cacheClean m c k how false
      else if op == 2 then s.cacheInv c k how
      else s.cacheClean m c k how true := by
  obtain ⟨code, sel, by_, victim⟩ := fields
  have decoded : ∀ w : Word, s.cmaint m c w =
      if !s.mayMaintain m c || fieldOf w 0 2 == 0 then s
      else if fieldOf w 0 2 == 2 && bitOf w.toNat 4 then s.victimInv c (maintSel w)
      else if fieldOf w 0 2 == 1 then s.cacheClean m c (maintSel w) (maintBy w) false
      else if fieldOf w 0 2 == 2 then s.cacheInv c (maintSel w) (maintBy w)
      else s.cacheClean m c (maintSel w) (maintBy w) true := fun _ => rfl
  rw [decoded, code, sel, by_, victim, may, Bool.not_true, Bool.false_or]

theorem State.cmaint_clean : s.cmaint m c (cmaintWord 1 k how false) = s.cacheClean m c k how false :=
  State.cmaint_of_fields may k how (cmaintFields_line 1 k how)

theorem State.cmaint_invalidate : s.cmaint m c (cmaintWord 2 k how false) = s.cacheInv c k how :=
  State.cmaint_of_fields may k how (cmaintFields_line 2 k how)

theorem State.cmaint_cleanInvalidate : s.cmaint m c (cmaintWord 3 k how false) = s.cacheClean m c k how true :=
  State.cmaint_of_fields may k how (cmaintFields_line 3 k how)

theorem State.cmaint_victim : s.cmaint m c (cmaintWord 2 k .addr true) = s.victimInv c k :=
  State.cmaint_of_fields may k .addr (cmaintFields_addr 2 true k (mem_caches k))

end Operations

/-! ### Cores and their caches -/

theorem State.onMcore_same (s : State) (c : Nat) (f : MCore → MCore) : (s.onMcore c f).mcore c = f (s.mcore c) := by
  simp only [State.onMcore, State.mcore]
  split <;> simp [*]

theorem State.onMcore_other (s : State) (c : Fin 2) (f : MCore → MCore) :
    (s.onMcore c.val f).mcore (1 - c.val) = s.mcore (1 - c.val) := by
  fin_cases c <;> rfl

theorem MCore.onCache_cache (x : MCore) (f : Cache → Cache) (k : CacheSel) : (x.onCache f k).cache k = f (x.cache k) := by
  cases k <;> rfl

theorem Cache.settled_lines (x : Cache) : x.settled.lines = x.lines ∧ x.settled.victim = x.victim := by
  unfold Cache.settled
  split <;> exact ⟨rfl, rfl⟩

/-- The line whose writes a clean waits for: that of CMADDR, or any (R450). -/
def State.maintLine (s : State) (c : Nat) : MaintBy → Option Nat
  | .addr => some (s.cfg (mcorePage c) 0x88 0 32 / 64)
  | .setWay _ _ => none

theorem State.cacheClean_eq (s : State) (m : Master) (c : Nat) (k : CacheSel) (how : MaintBy) (inv : Bool) :
    s.cacheClean m c k how inv = if k == .data && (s.mcore c).holds (s.maintLine c how) then
      s.onMcore c (fun x => { x with
        cleans := x.cleans ++ [{ line := s.maintLine c how, inv := if inv then some (k, how) else none, by_ := m }] })
    else if inv then s.cacheInv c k how else s := by
  cases how <;> rfl

theorem MCore.holds_of_mem {x : MCore} {w : BufWrite} {line : Option Nat} (held : w ∈ x.wbuf)
    (named : ∀ n, line = some n → w.addr / 64 = n) : x.holds line = true := by
  refine List.any_eq_true.2 ⟨w, held, ?_⟩
  cases line with
  | none => rfl
  | some n => simp [named n rfl]

end Sys2Proof.Machine
end

section
/-! PROOF. Cache maintenance. -/

open Sys2Proof Sys2Proof.Machine

/-- Settles O49: the word of each command decodes to its operation, an invalidate takes out what it names, a clean waits for the
write buffer or does nothing, and FENCE.I and CCTL touch the named core alone. -/
theorem cacheMaintenanceAndEnables : Obligations.CacheMaintenanceAndEnables := by
  refine ⟨fun s m c k how h => ?_, fun s j c w other runs => ?_, fun s m c k set way may => ?_, fun s m c k how may calm => ?_,
    fun s m c how w may held named => ?_, fun s c up runs => ?_, fun s c halted => ?_,
    fun s m c ien den h => congrArg Host.Outcome.next (s.gate_accepts m _ _ _ h), fun s c ien den => ?_⟩
  · exact ⟨congrArg Host.Outcome.next (s.gate_accepts m _ _ _ h), congrArg Host.Outcome.next (s.gate_accepts m _ _ _ h),
      congrArg Host.Outcome.next (s.gate_accepts m _ _ _ h), congrArg Host.Outcome.next (s.gate_accepts m _ _ _ h)⟩
  · have barred : s.mayMaintain (.core j) c = false := by simp [State.mayMaintain, other, runs]
    simp [State.cmaint, barred]
  · rw [State.cmaint_invalidate may, State.cmaint_invalidate may, State.cmaint_victim may, State.cacheInv, State.cacheInv,
      State.victimInv, State.onMcore_same, State.onMcore_same, State.onMcore_same, MCore.onCache_cache, MCore.onCache_cache]
    exact ⟨rfl, (Cache.settled_lines _).1, (Cache.settled_lines _).2, (Cache.settled_lines _).2, (Cache.settled_lines _).1⟩
  · have none_held : (k == .data && (s.mcore c).holds (s.maintLine c how)) = false := by
      rcases calm with rfl | empty
      · rfl
      · simp [MCore.holds, empty]
    rw [State.cmaint_clean may, State.cmaint_cleanInvalidate may, State.cmaint_invalidate may, State.cacheClean_eq,
      State.cacheClean_eq, none_held]
    exact ⟨rfl, rfl⟩
  · have holds : (CacheSel.data == .data && (s.mcore c).holds (s.maintLine c how)) = true := by
      refine MCore.holds_of_mem held fun n line => ?_
      cases how with
      | addr => exact (named rfl).trans (Option.some.inj line)
      | setWay set way => simp [State.maintLine] at line
    rw [State.cmaint_clean may, State.cmaint_cleanInvalidate may, State.cacheClean_eq, State.cacheClean_eq, if_pos holds,
      if_pos holds, State.onMcore_same, State.onMcore_same]
    simp
  · refine .of_exec (congrArg Host.Outcome.next (s.when_pos (by simp [up, runs]))) ?_
    rw [State.onMcore_same]
    exact ⟨rfl, rfl, s.onMcore_other c _⟩
  · exact congrArg Host.Outcome.next (s.when_neg (by simp [halted]))
  · rw [State.cctl, State.onMcore_same]
    exact ⟨rfl, s.onMcore_other c _⟩
end

section
/-! SUPPORT. The event router under deliveries, raises and changes of the enables (R467, R502). -/

namespace Sys2Proof.Machine

/-! ### Deliveries -/

/-- Deliveries move the signals to the BMC and the count of those not made, and nothing else of the event router. -/
def Events.Told (a b : Events) : Prop := ∃ ibi alert undelivered,
  b = { a with ibi := ibi, alert := alert, undelivered := undelivered }

theorem Events.Told.refl (a : Events) : a.Told a := ⟨_, _, _, rfl⟩

theorem Events.Told.trans {a b c : Events} : a.Told b → b.Told c → a.Told c := by
  rintro ⟨_, _, _, rfl⟩ ⟨i, x, u, rfl⟩
  exact ⟨i, x, u, rfl⟩

theorem Events.Told.of_eq {a b : Events} (h : b = a) : a.Told b := h ▸ .refl a

theorem State.when_told (s : State) (b : Bool) {f : State → State} (h : ∀ t : State, t.evt.Told (f t).evt) :
    s.evt.Told (s.when b f).evt := by
  cases b with
  | false => exact .refl _
  | true => exact h s

theorem State.each_told {α : Type} (s : State) (l : List α) {f : State → α → State}
    (h : ∀ (t : State) (a : α), t.evt.Told (f t a).evt) : s.evt.Told (s.each l f).evt := by
  induction l generalizing s with
  | nil => exact .refl _
  | cons a l ih => exact (h s a).trans (ih (f s a))

theorem State.sendBmc_told (s : State) (src : Nat) : s.evt.Told (s.sendBmc src).evt := by
  unfold State.sendBmc
  split
  · refine ⟨s.evt.ibi ++ [src], s.evt.alert || s.cfgBit sbPage 0x80 8, s.evt.undelivered, ?_⟩
    simp [State.emit_keeps, State.cfgBit, State.cfg, State.activeWord, State.backing]
  · exact ⟨_, _, _, rfl⟩

theorem State.sendMsix_told (s : State) (r : LogRec) (vec : Nat) : s.evt.Told (s.sendMsix r vec).evt := by
  unfold State.sendMsix
  extract_lets ld up t
  split
  · split
    · exact .refl _
    · split
      · exact .refl _
      · exact .of_eq (by simp [State.toHost_keeps, t, State.onLd])
  · exact ⟨_, _, _, rfl⟩

theorem State.deliver_told (s : State) (r : LogRec) (route : BitVec 14) : s.evt.Told (s.deliver r route).evt :=
  ((s.when_told _ fun t => t.sendBmc_told _).trans (State.when_told _ _ fun t => t.sendMsix_told r _)).trans
    (State.each_told _ _ fun t g => .of_eq (by simp [State.attention_keeps]))

theorem State.deliverAll_told (s : State) (r : LogRec) (l : List (BitVec 14)) : s.evt.Told (s.deliverAll r l).evt :=
  s.each_told l fun t x => t.deliver_told r x

/-- One of the routes that has the BMC bit asserts ALERT_N in SMBus mode (R473, R503). -/
theorem State.deliverAll_alert {s : State} {l : List (BitVec 14)} {route : BitVec 14} (r : LogRec) (named : route ∈ l)
    (bmc : route.getLsbD 2 = true) (smbus : s.mgmt.i3c = false) : (s.deliverAll r l).evt.alert = true := by
  induction l generalizing s with
  | nil => cases named
  | cons x l ih =>
    have after : (s.deliver r x).mgmt.i3c = false := by simpa [State.deliver_keeps] using smbus
    have rest : (s.deliverAll r (x :: l)) = (s.deliver r x).deliverAll r l := rfl
    rw [rest]
    cases named with
    | head =>
      exact (Events.Delivered.each _ l fun t y => t.deliver_delivered r y).alert (State.deliver_alert r smbus bmc)
    | tail _ later => exact ih later after

/-! ### Raises -/

/-- The source of an event rises: it is defined, and AUX power alone does not bar it (R500, R504). -/
def State.rises (s : State) (e : Ev) : Bool := definedSource e.src && !(s.boot.st == 0 && !auxSource e.src)

/-- The record of an event, before the log writer's sequence number (R468). -/
def State.recordOf (s : State) (e : Ev) : LogRec :=
  { seq := 0, time := s.now, source := e.src, fault := e.fault, retained := e.retained, dropped := false
    node := s.cfg (poolPage 0) 0x80 0 16, site := e.site, cls := e.cls, subject := e.subject, detail := e.detail
    code := e.code, ld := e.ld }

/-- The deliveries of an event: one by its route, where the source is enabled and was not pending (R502). -/
def State.routesOf (s : State) (e : Ev) : List (BitVec 14) :=
  if s.evEnabled e.src && !s.evt.pend.getLsbD e.src then [s.routeOf e.src] else []

/-- A record for which a full queue holds a place: class F of the fault collector (R467). -/
def Ev.vital (e : Ev) : Bool := e.fault && e.cls == 5 && decide (e.src ≤ 1)

theorem State.raiseOne_eq (s : State) (e : Ev) : s.raiseOne e = if s.rises e then
      if (s.routeOf e.src).getLsbD 0 then (s.pended e.src).logIt (s.recordOf e) e.vital (s.routesOf e)
      else (s.pended e.src).when (s.evEnabled e.src && !s.evt.pend.getLsbD e.src) fun t =>
        t.deliver (s.recordOf e) (s.routeOf e.src)
    else s := by
  have turned : (!definedSource e.src || (s.boot.st == 0 && !auxSource e.src)) = !s.rises e := by simp [State.rises]
  unfold State.raiseOne
  rw [turned]
  cases s.rises e <;> rfl

/-- A source that rises by a route with the LOG bit has its record logged. -/
theorem State.raiseOne_logged {s : State} {e : Ev} (up : s.rises e = true) (log : (s.routeOf e.src).getLsbD 0 = true) :
    s.raiseOne e = (s.pended e.src).logIt (s.recordOf e) e.vital (s.routesOf e) := by
  rw [State.raiseOne_eq, if_pos up, if_pos log]

/-- A source whose route has no LOG bit only sets its bit and is delivered. -/
theorem State.raiseOne_told {s : State} {e : Ev} (log : (s.routeOf e.src).getLsbD 0 = false) :
    (if s.rises e then (s.pended e.src).evt else s.evt).Told (s.raiseOne e).evt := by
  rw [State.raiseOne_eq, log]
  cases s.rises e with
  | false => exact .refl _
  | true => exact State.when_told _ _ fun t => t.deliver_told _ _

theorem State.raise_barred {s : State} {e : Ev} (barred : s.rises e = false) : s.raise e = s := by
  have one : s.raiseOne e = s := by rw [State.raiseOne_eq, barred]; rfl
  rw [State.raise_of_kept (by rw [one]), one]

theorem definedSource_lt {k : Nat} (known : definedSource k = true) : k < 768 := by
  unfold definedSource at known
  split at known
  · omega
  split at known
  · omega
  split at known
  · omega
  split at known
  · omega
  split at known
  · omega
  split at known
  · omega
  split at known
  · omega
  · exact of_decide_eq_true known

section Rising
variable {s : State} {e : Ev} (up : s.rises e = true)
include up

/-- A source that rises is pending (R502). -/
theorem State.raise_rises_pend : (s.raise e).evt.pend.getLsbD e.src = true := by
  have small : e.src < 768 := definedSource_lt (Bool.and_eq_true_iff.1 up).1
  have one : (s.raiseOne e).evt.pend.getLsbD e.src = true := by
    rw [State.raiseOne_pend, if_pos (show (definedSource e.src && !(s.boot.st == 0 && !auxSource e.src)) = true from up)]
    have own : (BitVec.ofNat 768 (2 ^ e.src)).getLsbD e.src = true := by
      rw [BitVec.getLsbD_ofNat, Nat.testBit_two_pow_self, decide_eq_true small, Bool.and_self]
    rw [BitVec.getLsbD_or, own, Bool.or_true]
  unfold State.raise
  dsimp only
  split
  · exact State.raiseOne_pend_of _ one
  · exact one

/-- A source that rises by a route with the LOG bit puts its record in the queue, where there is room (R467, R468). -/
theorem State.raise_rises_logs (log : (s.routeOf e.src).getLsbD 0 = true) (room : s.evt.queue.length < 1023) :
    (s.raise e).evt = { s.evt with
      pend := s.evt.pend ||| BitVec.ofNat 768 (2 ^ e.src), seq := s.evt.seq + 1, dropFlag := false
      queue := s.evt.queue ++
        [{ rec_ := { s.recordOf e with seq := s.evt.seq, dropped := s.evt.dropFlag }, dest := s.routesOf e }] } := by
  have logged := State.logIt_evt (s := s.pended e.src) room (s.recordOf e) e.vital (s.routesOf e)
  rw [State.raise_of_kept (by rw [State.raiseOne_logged up log, logged]; rfl), State.raiseOne_logged up log, logged]
  rfl

/-- A record of the fault collector's class F finds its place in a full queue (R467). -/
theorem State.raise_rises_vital (log : (s.routeOf e.src).getLsbD 0 = true)
    (vital : e.vital = true) : (s.raise e).evt.queue.length = s.evt.queue.length + 1 := by
  obtain ⟨dropped, queue⟩ : (s.raiseOne e).evt.dropped = s.evt.dropped ∧
      (s.raiseOne e).evt.queue.length = s.evt.queue.length + 1 := by
    rw [State.raiseOne_logged up log, State.logIt, vital, Bool.true_or, if_pos rfl,
      State.when_evt _ _ _ fun t => by simp [State.retWrite_keeps]]
    exact ⟨rfl, by simp [State.pended]⟩
  rw [State.raise_of_kept dropped, queue]

/-- A source whose route has no LOG bit leaves the queue and the sequence number (R502). -/
theorem State.raise_rises_unlogged (log : (s.routeOf e.src).getLsbD 0 = false) :
    (s.raise e).evt.queue = s.evt.queue ∧ (s.raise e).evt.seq = s.evt.seq := by
  obtain ⟨i, x, u, told⟩ := State.raiseOne_told log
  rw [if_pos up] at told
  rw [State.raise_of_kept (by rw [told]; rfl), told]
  exact ⟨rfl, rfl⟩

end Rising

/-- A record that finds the queue full is dropped, and the next one is marked (R467). -/
theorem State.logIt_full {s : State} (full : 1023 ≤ s.evt.queue.length) (r : LogRec) (dest : List (BitVec 14)) :
    (s.logIt r false dest).evt.queue = s.evt.queue ∧ (s.logIt r false dest).evt.dropFlag = true := by
  have crowded : decide (s.evt.queue.length < 1023) = false := decide_eq_false (by omega)
  obtain ⟨i, x, u, told⟩ := State.deliverAll_told (s.withEvt { s.evt with
    dropped := satAdd 0xFFFFFFFF s.evt.dropped 1, dropFlag := true }) r dest
  rw [State.logIt, crowded, Bool.or_self, if_neg Bool.false_ne_true, told]
  exact ⟨rfl, rfl⟩

/-- With the queue full, a raise that holds no place there leaves it, and keeps the mark of a dropped record. -/
theorem State.raiseOne_full {s : State} {e : Ev} (full : 1023 ≤ s.evt.queue.length) (plain : e.vital = false) :
    (s.raiseOne e).evt.queue = s.evt.queue ∧ (s.evt.dropFlag = true → (s.raiseOne e).evt.dropFlag = true) := by
  cases log : (s.routeOf e.src).getLsbD 0 with
  | false =>
    obtain ⟨i, x, u, told⟩ := State.raiseOne_told log
    rw [told]
    split
    · exact ⟨rfl, id⟩
    · exact ⟨rfl, id⟩
  | true =>
    cases up : s.rises e with
    | false => rw [State.raiseOne_eq, up]; exact ⟨rfl, id⟩
    | true =>
      obtain ⟨queue, flag⟩ := State.logIt_full (s := s.pended e.src) full (s.recordOf e) (s.routesOf e)
      rw [State.raiseOne_logged up log, plain]
      exact ⟨queue, fun _ => flag⟩

/-- A record other than class F of the fault collector that finds the queue full is dropped: the queue stays, with what
LOG_DROPPED does there (R467, R481). -/
theorem State.raise_rises_full {s : State} {e : Ev} (up : s.rises e = true) (log : (s.routeOf e.src).getLsbD 0 = true)
    (full : 1023 ≤ s.evt.queue.length) (plain : e.vital = false) :
    (s.raise e).evt.queue = s.evt.queue ∧ (s.raise e).evt.dropFlag = true := by
  obtain ⟨queue, flag⟩ : (s.raiseOne e).evt.queue = s.evt.queue ∧ (s.raiseOne e).evt.dropFlag = true := by
    rw [State.raiseOne_logged up log, plain]
    exact State.logIt_full (s := s.pended e.src) full (s.recordOf e) (s.routesOf e)
  unfold State.raise
  dsimp only
  split
  · obtain ⟨same, kept⟩ := State.raiseOne_full (s := (s.raiseOne e).withEvt { (s.raiseOne e).evt with dropAt := some s.now })
      (e := { src := 46, site := siteOfPage (mkPage 0 0 4 63) }) (by simpa [queue] using full) rfl
    exact ⟨same.trans queue, kept flag⟩
  · exact ⟨queue, flag⟩

/-! ### Pending bits, enables and routes -/

theorem State.clearPend_pend (s : State) (b i : Nat) (v : Word) (small : i < 768) : (s.clearPend b v).evt.pend.getLsbD i =
    (s.evt.pend.getLsbD i && !(decide (32 * b ≤ i) && v.getLsbD (i - 32 * b))) := by
  simp only [State.clearPend, State.withEvt_evt, BitVec.getLsbD_and, BitVec.getLsbD_not, BitVec.getLsbD_ofNat, small,
    decide_true, Bool.true_and, Nat.testBit_shiftLeft, BitVec.testBit_toNat, ge_iff_le]

/-- Another key reads as before, whatever value goes unlisted. -/
theorem look_put_apart {α : Type} [DecidableEq α] (d d' : α) (t : Table α) {k j : Nat} (v : α) (h : j ≠ k) :
    look d (put d' t k v) j = look d t j := by
  unfold put
  split
  · rw [look_wipe, if_neg h]
  · rw [look_enter, if_neg h]

theorem State.setRoute_routeOf (s : State) {k : Nat} (r : BitVec 14) (small : k < 768) (j : Nat) :
    (s.setRoute k r).routeOf j = if j = k then r else s.routeOf j := by
  have set : s.setRoute k r = s.withEvt { s.evt with route := put (routeReset k) s.evt.route k r } :=
    s.when_pos (decide_eq_true small)
  rw [set]
  by_cases same : j = k
  · subst same
    simp [State.routeOf]
  · rw [if_neg same]
    exact look_put_apart _ _ _ r same

/-! ### Enabling -/

/-- One source of a block of enables: where it is newly enabled while it is pending, it is delivered (R502). -/
def State.setEnable (b : Nat) (v : Word) (s : State) (k : Nat) : State :=
  if !definedSource (32 * b + k) || s.evEnabled (32 * b + k) == v.getLsbD k then s
  else (s.withEvt { s.evt with enFlip := s.evt.enFlip ^^^ BitVec.ofNat 768 (2 ^ (32 * b + k)) }).when
    (v.getLsbD k && s.evt.pend.getLsbD (32 * b + k)) fun s => s.deliverLate (32 * b + k)

theorem State.setEnables_eq (s : State) (b : Nat) (v : Word) : s.setEnables b v = s.each (upTo 32) (State.setEnable b v) := rfl

/-- What the change of an enable may do: append deliveries to waiting records, signal the BMC, and nothing else that a later
delivery reads. -/
structure State.Enabling (s t : State) : Prop where
  recs : t.evt.queue.map LogWait.rec_ = s.evt.queue.map LogWait.rec_
  dests : ∀ r x, (∃ w ∈ s.evt.queue, w.rec_ = r ∧ x ∈ w.dest) → ∃ w ∈ t.evt.queue, w.rec_ = r ∧ x ∈ w.dest
  ring : t.evt.ring = s.evt.ring
  route : t.evt.route = s.evt.route
  pend : t.evt.pend = s.evt.pend
  alert : s.evt.alert = true → t.evt.alert = true
  now : t.now = s.now
  regs : t.regs = s.regs
  ret : t.ret = s.ret
  mgmt : t.mgmt = s.mgmt

theorem State.Enabling.refl (s : State) : s.Enabling s := ⟨rfl, fun _ _ => id, rfl, rfl, rfl, id, rfl, rfl, rfl, rfl⟩

theorem State.Enabling.trans {s t u : State} (h : s.Enabling t) (g : t.Enabling u) : s.Enabling u where
  recs := g.recs.trans h.recs
  dests := fun r x w => g.dests r x (h.dests r x w)
  ring := g.ring.trans h.ring
  route := g.route.trans h.route
  pend := g.pend.trans h.pend
  alert := fun set => g.alert (h.alert set)
  now := g.now.trans h.now
  regs := g.regs.trans h.regs
  ret := g.ret.trans h.ret
  mgmt := g.mgmt.trans h.mgmt

theorem State.deliver_enabling (s : State) (r : LogRec) (route : BitVec 14) : s.Enabling (s.deliver r route) := by
  have alert := (s.deliver_delivered r route).alert
  obtain ⟨i, x, u, told⟩ := s.deliver_told r route
  exact ⟨by rw [told], fun _ _ => by rw [told]; exact id, by rw [told], by rw [told], by rw [told], alert,
    by simp [State.deliver_keeps], by simp [State.deliver_keeps], by simp [State.deliver_keeps],
    by simp [State.deliver_keeps]⟩

/-- A delivery that follows the writing of a record is appended to it. -/
def LogWait.along (r : LogRec) (x : BitVec 14) (w : LogWait) : LogWait :=
  if w.rec_ = r then { w with dest := w.dest ++ [x] } else w

theorem LogWait.along_rec (r : LogRec) (x : BitVec 14) (w : LogWait) : (w.along r x).rec_ = w.rec_ := by
  unfold LogWait.along
  split <;> rfl

theorem LogWait.along_dest (r : LogRec) (x : BitVec 14) {w : LogWait} {y : BitVec 14} (h : y ∈ w.dest) :
    y ∈ (w.along r x).dest := by
  unfold LogWait.along
  split
  · exact List.mem_append_left _ h
  · exact h

theorem State.deliverLate_eq (s : State) (k : Nat) : s.deliverLate k =
    if s.evt.queue.any (fun w => w.rec_ == s.lastRec k) then
      s.withEvt { s.evt with queue := s.evt.queue.map (LogWait.along (s.lastRec k) (s.routeOf k)) }
    else s.deliver (s.lastRec k) (s.routeOf k) := rfl

theorem State.deliverLate_enabling (s : State) (k : Nat) : s.Enabling (s.deliverLate k) := by
  rw [State.deliverLate_eq]
  split
  · refine ⟨?_, ?_, rfl, rfl, rfl, id, rfl, rfl, rfl, rfl⟩
    · simp [Function.comp_def, LogWait.along_rec]
    · rintro r x ⟨w, here, rec_, dest⟩
      exact ⟨_, List.mem_map_of_mem here, (LogWait.along_rec _ _ w).trans rec_, LogWait.along_dest _ _ dest⟩
  · exact s.deliver_enabling _ _

theorem State.deliverLate_enFlip (s : State) (k : Nat) : (s.deliverLate k).evt.enFlip = s.evt.enFlip := by
  rw [State.deliverLate_eq]
  split
  · rfl
  · obtain ⟨i, x, u, told⟩ := s.deliver_told (s.lastRec k) (s.routeOf k)
    rw [told]

theorem State.setEnable_enabling (b : Nat) (v : Word) (s : State) (k : Nat) : s.Enabling (State.setEnable b v s k) := by
  unfold State.setEnable
  split
  · exact .refl s
  · have flipped : s.Enabling (s.withEvt { s.evt with enFlip := s.evt.enFlip ^^^ BitVec.ofNat 768 (2 ^ (32 * b + k)) }) :=
      ⟨rfl, fun _ _ => id, rfl, rfl, rfl, id, rfl, rfl, rfl, rfl⟩
    cases v.getLsbD k && s.evt.pend.getLsbD (32 * b + k) with
    | false => exact flipped
    | true => exact flipped.trans (State.deliverLate_enabling _ _)

theorem State.setEnable_each_enabling (b : Nat) (v : Word) (l : List Nat) (s : State) :
    s.Enabling (s.each l (State.setEnable b v)) := by
  induction l generalizing s with
  | nil => exact .refl s
  | cons k l ih => exact (State.setEnable_enabling b v s k).trans (ih _)

/-- The change of an enable sets that of its source, where it is defined, and no other. -/
theorem State.setEnable_evEnabled (b : Nat) (v : Word) (s : State) (k : Nat) {i : Nat} (small : i < 768) :
    (State.setEnable b v s k).evEnabled i =
      if definedSource i = true ∧ i = 32 * b + k then v.getLsbD k else s.evEnabled i := by
  unfold State.setEnable
  split
  next same =>
    split
    next here =>
      obtain ⟨known, rfl⟩ := here
      simpa [known] using same
    next => rfl
  next other =>
    have flip : ∀ u : State, u.evt.enFlip = s.evt.enFlip ^^^ BitVec.ofNat 768 (2 ^ (32 * b + k)) →
        u.evEnabled i = if definedSource i = true ∧ i = 32 * b + k then v.getLsbD k else s.evEnabled i := by
      intro u flipped
      rw [State.evEnabled, flipped, BitVec.getLsbD_xor, BitVec.getLsbD_ofNat, decide_eq_true small, Bool.true_and,
        Nat.testBit_two_pow]
      split
      next here =>
        obtain ⟨known, rfl⟩ := here
        simp only [State.evEnabled, known, Bool.not_true, Bool.false_or] at other
        revert other
        simp only [known, decide_true]
        cases s.evt.enFlip.getLsbD (32 * b + k) <;> cases v.getLsbD k <;> decide
      next away =>
        have apart : (32 * b + k = i) = False := by
          refine eq_false fun same => ?_
          subst same
          simp_all
        simp [apart, State.evEnabled]
    refine flip _ ?_
    rw [State.when_inv (fun t : State => t.evt.enFlip) _ _ _ fun t => t.deliverLate_enFlip _]
    rfl

theorem State.setEnable_each_evEnabled (b : Nat) (v : Word) {i : Nat} (small : i < 768) (l : List Nat) (s : State) :
    (s.each l (State.setEnable b v)).evEnabled i =
      if definedSource i = true ∧ 32 * b ≤ i ∧ i - 32 * b ∈ l then v.getLsbD (i - 32 * b) else s.evEnabled i := by
  induction l generalizing s with
  | nil => simp [State.each]
  | cons k l ih =>
    have step : s.each (k :: l) (State.setEnable b v) = (State.setEnable b v s k).each l (State.setEnable b v) := rfl
    rw [step, ih, State.setEnable_evEnabled b v s k small]
    by_cases known : definedSource i = true
    · by_cases low : 32 * b ≤ i
      · by_cases here : i = 32 * b + k
        · subst here
          simp [known]
        · have away : i - 32 * b ≠ k := by omega
          simp [low, away, here]
      · have away : i ≠ 32 * b + k := by omega
        simp [known, low, away]
    · simp [known]

/-! ### The delivery on enabling -/

theorem State.Enabling.lastRec {s t : State} (h : s.Enabling t) (k : Nat) : t.lastRec k = s.lastRec k := by
  have word : t.cfg (poolPage 0) 0x80 0 16 = s.cfg (poolPage 0) 0x80 0 16 := by
    simp [State.cfg, State.activeWord, State.backing, h.regs, h.ret]
  simp only [State.lastRec, h.recs, h.ring, h.now, word]

theorem State.Enabling.routeOf {s t : State} (h : s.Enabling t) (k : Nat) : t.routeOf k = s.routeOf k := by
  rw [State.routeOf, h.route, State.routeOf]

theorem State.Enabling.waits {s t : State} (h : s.Enabling t) (r : LogRec) :
    t.evt.queue.any (fun w => w.rec_ == r) = s.evt.queue.any (fun w => w.rec_ == r) := by
  have both := congrArg (fun l => l.any (fun x => x == r)) h.recs
  simpa [List.any_map, Function.comp_def] using both

/-- A source's delivery on enabling has been made: with its last record where that waits, else by its signal to the BMC. -/
def State.DeliveredLate (s : State) (k : Nat) (t : State) : Prop :=
  if s.evt.queue.any (fun w => w.rec_ == s.lastRec k) then
    ∃ w ∈ t.evt.queue, w.rec_ = s.lastRec k ∧ s.routeOf k ∈ w.dest
  else t.evt.alert = true

theorem State.deliverLate_delivered {s : State} {k : Nat} (bmc : (s.routeOf k).getLsbD 2 = true)
    (smbus : s.mgmt.i3c = false) : s.DeliveredLate k (s.deliverLate k) := by
  unfold State.DeliveredLate
  rw [State.deliverLate_eq]
  split
  next waits =>
    obtain ⟨w, here, same⟩ := List.any_eq_true.1 waits
    have rec_ : w.rec_ = s.lastRec k := by simpa using same
    exact ⟨_, List.mem_map_of_mem here, (LogWait.along_rec _ _ w).trans rec_, by simp [LogWait.along, rec_]⟩
  next => exact State.deliver_alert _ smbus bmc

theorem State.DeliveredLate.after {s t u : State} {k : Nat} (h : s.DeliveredLate k t) (g : t.Enabling u) :
    s.DeliveredLate k u := by
  unfold State.DeliveredLate at h ⊢
  split at h
  next waits => rw [if_pos waits]; exact g.dests _ _ h
  next gone => rw [if_neg gone]; exact g.alert h

theorem State.DeliveredLate.before {s t u : State} {k : Nat} (h : s.Enabling t) (g : t.DeliveredLate k u) :
    s.DeliveredLate k u := by
  unfold State.DeliveredLate at g ⊢
  rwa [h.lastRec, h.waits, h.routeOf] at g

/-- A pending source that becomes enabled in a write of a block of enables is delivered (R502). -/
theorem State.setEnable_each_delivered {b k : Nat} {v : Word} (known : definedSource (32 * b + k) = true)
    (set : v.getLsbD k = true) (l : List Nat) (here : k ∈ l) (s : State) (off : s.evEnabled (32 * b + k) = false)
    (pend : s.evt.pend.getLsbD (32 * b + k) = true) (bmc : (s.routeOf (32 * b + k)).getLsbD 2 = true)
    (smbus : s.mgmt.i3c = false) : s.DeliveredLate (32 * b + k) (s.each l (State.setEnable b v)) := by
  induction l generalizing s with
  | nil => cases here
  | cons j l ih =>
    have moved := State.setEnable_enabling b v s j
    have step : s.each (j :: l) (State.setEnable b v) = (State.setEnable b v s j).each l (State.setEnable b v) := rfl
    rw [step]
    by_cases same : j = k
    · subst same
      let flipped := s.withEvt { s.evt with enFlip := s.evt.enFlip ^^^ BitVec.ofNat 768 (2 ^ (32 * b + j)) }
      have delivers : State.setEnable b v s j = flipped.deliverLate (32 * b + j) := by
        simp [State.setEnable, known, off, set, pend, flipped]
      have flips : s.Enabling flipped := ⟨rfl, fun _ _ => id, rfl, rfl, rfl, id, rfl, rfl, rfl, rfl⟩
      rw [delivers]
      exact ((State.deliverLate_delivered (s := flipped) bmc smbus).before flips).after
        (State.setEnable_each_enabling b v l _)
    · have later : k ∈ l := by simpa [Ne.symm same] using here
      refine (ih later _ ?_ ?_ ?_ ?_).before moved
      · rw [State.setEnable_evEnabled b v s j (definedSource_lt known), if_neg (by omega), off]
      · rw [moved.pend, pend]
      · rw [moved.routeOf, bmc]
      · rw [moved.mgmt, smbus]

/-! ### The log writer and the routes -/

/-- A state no earlier than a delay after an instant, where there is one. -/
def State.since (s : State) (at_ : Option Nat) (d : Nat) : State :=
  match at_ with
  | some t => s.reach (t + d)
  | none => s

theorem State.since_keepsBut (s : State) (at_ : Option Nat) (d : Nat) : KeepsBut [.now, .obs] s (s.since at_ d) := by
  cases at_ with
  | none => exact .refl _ _
  | some t => exact s.reach_keepsBut _

theorem State.since_now (s : State) (at_ : Option Nat) (d : Nat) : (s.since at_ d).now =
    match at_ with
    | some t => s.instant (t + d)
    | none => s.now := by
  cases at_ with
  | none => rfl
  | some t => exact s.reach_now _

/-- The log writer has placed the first waiting record (R467). -/
def State.logWritten (s : State) (w : LogWait) (rest : List LogWait) : State :=
  let u := s.since s.evt.wroteAt 250
  u.withEvt { u.evt with
    wroteAt := some u.now, queue := rest, ring := enter w.rec_ u.evt.ring u.evt.wptr, wptr := (u.evt.wptr + 1) % 65536 }

theorem exec_logRecordWrite {s : State} {w : LogWait} {rest : List LogWait} (up : s.boot.aux = true)
    (queue : s.evt.queue = w :: rest) :
    exec .logRecordWrite s = .next ((s.logWritten w rest).deliverAll w.rec_ w.dest) := by
  change execLogRecordWrite s = _
  unfold execLogRecordWrite State.logWritten State.since
  rw [queue]
  simp only [up, Bool.not_true, Bool.false_eq_true, if_false] <;> rfl

theorem State.deliverAll_now (s : State) (r : LogRec) (l : List (BitVec 14)) : (s.deliverAll r l).now = s.now :=
  State.each_now _ _ _ fun t x => by simp [State.deliver_keeps]

theorem State.ownRoute_eq {s : State} {p b : Nat} (v : Nat) (owned : ownedBlock p = some b) : s.ownRoute p v =
    (s.withEvt { s.evt with sel := put 0 s.evt.sel p (v % 32) }).setRoute (32 * b + v % 32) (BitVec.ofNat 14 (v / 32)) := by
  have index : bits v 0 5 = v % 32 := by simp [bits]
  have route : BitVec.ofNat 14 (bits v 5 14) = BitVec.ofNat 14 (v / 32) := by
    refine BitVec.eq_of_toNat_eq ?_
    simp [bits, Nat.shiftRight_eq_div_pow]
  simp only [State.ownRoute, owned, index, route]

theorem State.setRoute_sel (s : State) (k : Nat) (r : BitVec 14) : (s.setRoute k r).evt.sel = s.evt.sel :=
  State.when_inv (fun t : State => t.evt.sel) _ _ _ fun _ => rfl

end Sys2Proof.Machine
end

section
/-! PROOF. Events and the log. -/

open Sys2Proof Sys2Proof.Machine

/-- Settles O52: a raise sets its bit and queues or delivers, the writer places the first record and makes its deliveries, and the
enables and routes of the named sources alone change. -/
theorem eventsAndTheLog : Obligations.EventsAndTheLog := by
  refine ⟨fun s src why up => congrArg Host.Outcome.next (s.when_pos up), fun s e barred => ?_, fun s e known up => ?_,
    fun s w r up queue => ?_, fun s empty => ?_, fun s m w b => ?_, fun s b i v small => s.clearPend_pend b i v small,
    fun s b i v low small => ?_, fun s b k v low small known off pend set bmc smbus => ?_, fun s m page v x => ?_,
    fun s p b v owned low => ?_, fun s x k small => ?_⟩
  · refine State.raise_barred ?_
    rcases barred with unknown | ⟨aux, main⟩
    · simp [State.rises, unknown]
    · simp [State.rises, aux, auxSource, main]
  · have up : s.rises e = true := by
      rcases up with up | aux
      · simp [State.rises, known, up]
      · simp [State.rises, known, auxSource, aux]
    refine ⟨State.raise_rises_pend up, State.raise_rises_logs up, fun log full => ⟨fun vital => ?_, fun plain => ?_⟩,
      State.raise_rises_unlogged up⟩
    · exact State.raise_rises_vital up log (by simp [Ev.vital, vital])
    · refine State.raise_rises_full up log full ?_
      rcases plain with plain | plain | plain
      · simp [Ev.vital, plain]
      · simp [Ev.vital, plain]
      · simp [Ev.vital, show ¬e.src ≤ 1 by omega]
  · have kept := s.since_keepsBut s.evt.wroteAt 250
    have evt : (s.since s.evt.wroteAt 250).evt = s.evt := kept .evt (by decide)
    have mgmt : (s.since s.evt.wroteAt 250).mgmt = s.mgmt := kept .mgmt (by decide)
    obtain ⟨i, x, u, told⟩ := (s.logWritten w r).deliverAll_told w.rec_ w.dest
    refine .of_exec (exec_logRecordWrite up queue) ⟨?_, ?_, ?_, ?_, ?_, ?_, fun route named bmc smbus => ?_⟩
    · rw [told]
      simp [State.logWritten, evt, look?_enter]
    · rw [told]
      simp [State.logWritten, evt]
    · rw [told]
      rfl
    · rw [told]
      simp [State.logWritten, evt]
    · rw [told, State.deliverAll_now]
      rfl
    · rw [State.deliverAll_now]
      exact s.since_now _ _
    · exact State.deliverAll_alert _ named bmc (by simpa [State.logWritten, mgmt] using smbus)
  · exact (show execLogRecordWrite s = _ by simp [execLogRecordWrite, empty])
  · exact ⟨fun h => congrArg Host.Outcome.next (s.gate_accepts m _ _ _ h),
      fun h => congrArg Host.Outcome.next (s.gate_accepts m _ _ _ h)⟩
  · have place : 32 * b ≤ i → (i - 32 * b ∈ upTo 32 ↔ i < 32 * b + 32) := fun h => by
      rw [upTo, List.mem_range]
      omega
    rw [State.enableAt, State.setEnables_eq, State.setEnable_each_evEnabled b v small]
    by_cases base : 32 * b ≤ i
    · simp [place base]
    · simp [base]
  · rw [State.enableAt, State.setEnables_eq]
    exact State.setEnable_each_delivered known set (upTo 32) (by simpa [upTo] using small) s off pend bmc smbus
  · exact ⟨fun h => congrArg Host.Outcome.next (s.gate_accepts m _ _ _ h),
      fun h => congrArg Host.Outcome.next (s.gate_accepts m _ _ _ h)⟩
  · have small : 32 * b + v % 32 < 768 := by omega
    rw [State.ownRoute_eq v owned, State.setRoute_sel]
    refine ⟨?_, look_put_same _ _ _ _, fun k _ other => ?_⟩
    · rw [State.setRoute_routeOf _ _ small, if_pos rfl]
    · rw [State.setRoute_routeOf _ _ small, if_neg other]
      rfl
  · rw [State.evrRoute]
    by_cases real : s.cfg evrPage 0x80 0 10 < 768
    · exact State.setRoute_routeOf _ _ real k
    · have none_set : s.setRoute (s.cfg evrPage 0x80 0 10) x = s := State.when_neg _ (decide_eq_false real)
      rw [none_set, if_neg (by omega)]
end

section
/-! SUPPORT. The configuration applier at its record (R456). -/

namespace Sys2Proof.Machine

theorem State.cfgAsleep_awake {s : State} {off : Nat} (awake : (s.asleep off).isNone = true) : s.cfgAsleep off = none := by
  simp [State.cfgAsleep, Option.isNone_iff_eq_none.1 awake]

theorem State.cfgFail_boot (s : State) : s.cfgFail.boot =
    { s.boot with cfg := none, cfgGo := false, cfgPend := false, cfgKey := none } := by
  change ({ (s.raiseBoot 24 2 [s.boot.cfgIx]).boot with cfg := none, cfgGo := false, cfgPend := false, cfgKey := none } : Boot) = _
  rw [show (s.raiseBoot 24 2 [s.boot.cfgIx]).boot = s.boot by simp [State.raiseBoot_keeps]]

theorem State.cfgFail_now (s : State) : s.cfgFail.now = s.now :=
  show (s.raiseBoot 24 2 [s.boot.cfgIx]).now = s.now by simp [State.raiseBoot_keeps]

section Ready
variable {s : State} (ready : s.cfgReady = true)
include ready

theorem exec_cfgRecordWrite {off : BitVec 28} {v : Word} (idle : s.boot.cfgGo = false)
    (here : s.cfgRec = some (.write off v)) (awake : (s.asleep (off.toNat / 4 * 4)).isNone = true) :
    let r := s.cfgWrite (off.toNat / 4 * 4) v
    exec .cfgRecordWrite s = .next (if r.2 then r.1.cfgFail
      else if pgSlot (off.toNat / 4096) = 12 then r.1.onBoot (fun b => { b with cfgGo := true })
      else if r.1.boot.cfgKey.isSome then r.1 else r.1.cfgNext) := by
  change execCfgRecordWrite s = _
  simp only [execCfgRecordWrite, ready, idle, here, State.cfgAsleep_awake awake, Bool.not_true, Bool.or_self,
    Bool.false_eq_true, if_false]

theorem exec_cfgRecordCommit {off : BitVec 28} (here : s.cfgRec = some (.commit off)) :
    let p := off.toNat / 4096
    let r := if s.boot.cfgGo then (s, false) else s.cfgWrite (p * 4096 + 0x20) 1
    exec .cfgRecordCommit s = .next (if pgSlot p = 12 then s.cfgCommitBrg p
      else if r.2 then r.1.cfgFail
      else if r.1.regs.pending.contains p then r.1.onBoot (fun b => { b with cfgGo := true })
      else r.1.cfgNext) := by
  change execCfgRecordCommit s = _
  simp only [execCfgRecordCommit, ready, here, Bool.not_true, Bool.false_eq_true, if_false]
  by_cases borage : pgSlot (off.toNat / 4096) = 12
  · simp only [borage, if_true]
  · simp only [borage, if_false]

theorem exec_cfgRecordWait {off : BitVec 28} {v mask : Word} {t0 : Nat} (idle : s.boot.cfgGo = false)
    (here : s.cfgRec = some (.wait off v mask t0)) (soon : s.now ≤ s.boot.cfgAt + us t0)
    (awake : (s.asleep (off.toNat / 4 * 4)).isNone = true) (own : (s.readReg applier (off.toNat / 4 * 4)).2.1 ≠ 9) :
    exec .cfgRecordWait s = .next ((s.readReg applier (off.toNat / 4 * 4)).1.cfgCompare
      (s.readReg applier (off.toNat / 4 * 4)).2.2 v mask) := by
  change execCfgRecordWait s = _
  simp only [execCfgRecordWait, ready, idle, here, State.cfgAsleep_awake awake, Bool.not_true, Bool.or_self,
    Bool.false_eq_true, if_false, Nat.not_lt.2 soon, own]

theorem exec_cfgWaitTimeout {off : BitVec 28} {v mask : Word} {t0 : Nat} (here : s.cfgRec = some (.wait off v mask t0)) :
    exec .cfgWaitTimeout s = .next (s.reach (s.boot.cfgAt + us t0)).cfgFail := by
  change execCfgWaitTimeout s = _
  simp only [execCfgWaitTimeout, here, ready, State.when_true]

theorem exec_cfgRecordEnd (ended : s.cfgRec = none ∨ s.cfgRec = some .finish) :
    exec .cfgRecordEnd s = .next (s.onBoot (fun b => { b with cfg := none, cfgGo := false })) := by
  change execCfgRecordEnd s = _
  rcases ended with here | here <;> simp [execCfgRecordEnd, ready, here]

theorem exec_cfgRecordEnd_reserved (here : s.cfgRec = some .reserved) : exec .cfgRecordEnd s = .next s.cfgFail := by
  change execCfgRecordEnd s = _
  simp [execCfgRecordEnd, ready, here]

end Ready

end Sys2Proof.Machine
end

section
/-! PROOF. The configuration applier. -/

open Sys2Proof Sys2Proof.Machine

/-- Settles O41: each record's command does what its record and the answer of its access say. -/
theorem configurationApplier : Obligations.ConfigurationApplier := by
  refine ⟨fun s off v ready idle here awake => ?_, fun s off ready here own => ?_, fun s off ready here borage idle fresh => ?_,
    fun s off v mask t0 ready idle here soon awake own => ?_, fun s off v mask t0 ready here => ?_,
    fun s ready ended => exec_cfgRecordEnd ready ended, fun s ready here => ?_, fun s => ⟨rfl, by rw [State.cfgFail_boot]⟩⟩
  · intro r
    have runs : exec .cfgRecordWrite s = .next (if r.2 then r.1.cfgFail
        else if pgSlot (off.toNat / 4096) = 12 then r.1.onBoot (fun b => { b with cfgGo := true })
        else if r.1.boot.cfgKey.isSome then r.1 else r.1.cfgNext) := exec_cfgRecordWrite ready idle here awake
    rw [runs]
    exact ⟨fun bad => by rw [if_pos bad], fun good borage => by rw [if_neg (Bool.eq_false_iff.1 good), if_pos borage],
      fun good own => by rw [if_neg (Bool.eq_false_iff.1 good), if_neg own]⟩
  · intro r
    rw [exec_cfgRecordCommit ready here]
    simp only [own, if_false]
    refine ⟨fun bad idle => ?_, fun good idle done => ?_, fun good idle pending => ?_, fun going done => ?_⟩
    · rw [idle, if_neg Bool.false_ne_true, if_pos bad]
    · rw [idle, if_neg Bool.false_ne_true, if_neg (Bool.eq_false_iff.1 good), if_neg (by rw [done]; exact Bool.false_ne_true)]
    · rw [idle, if_neg Bool.false_ne_true, if_neg (Bool.eq_false_iff.1 good), if_pos pending]
    · rw [going, if_pos rfl, if_neg Bool.false_ne_true, if_neg (by rw [done]; exact Bool.false_ne_true)]
  · intro r
    rw [exec_cfgRecordCommit ready here]
    simp only [borage, if_true, State.cfgCommitBrg, idle, fresh, Bool.false_eq_true, if_false]
    rfl
  · have kept : (s.readReg applier (off.toNat / 4 * 4)).1.boot = s.boot := by simp [State.readReg_keeps]
    refine .of_exec (exec_cfgRecordWait ready idle here soon awake own) ?_
    unfold State.cfgCompare
    split
    · exact ⟨(congrArg Boot.cfg kept : _), congrArg (fun b => b.cfgIx + 1) kept⟩
    · exact ⟨congrArg Boot.cfg kept, congrArg Boot.cfgIx kept⟩
  · refine .of_exec (exec_cfgWaitTimeout ready here) ⟨by rw [State.cfgFail_boot], ?_⟩
    rw [State.cfgFail_now, State.reach_now]
  · exact .of_exec (exec_cfgRecordEnd_reserved ready here) (by rw [State.cfgFail_boot]; exact ⟨rfl, rfl⟩)
end

section
/-! SUPPORT. Clock gates, clock sources and the power of sub-domains (R394-R401). -/

namespace Sys2Proof.Machine

/-! ### Counters brought up to date -/

/-- The state with other counter banks. -/
def State.withBanks (s : State) (b : Table PmcBank) : State := s.withObs { s.obs with pmc := b }

theorem State.settleAll_banks (s : State) : ∃ b, s.settleAll = s.withBanks b := by
  refine foldl_holds (P := fun t : State => ∃ b, t = s.withBanks b) ⟨s.obs.pmc, rfl⟩ ?_
  rintro t p ⟨b, rfl⟩
  exact ⟨_, rfl⟩

theorem State.standPages_clk (s : State) (d t : Nat) : (s.standPages d t).clk = s.clk := by simp [State.standPages_keeps]

/-! ### Gates -/

theorem State.gated_bit (x : BitVec 384) (d : Fin 384) : (x ||| BitVec.ofNat 384 (2 ^ d.val)).getLsbD d.val = true := by
  rw [BitVec.getLsbD_or, BitVec.getLsbD_ofNat, Nat.testBit_two_pow_self, decide_eq_true d.isLt, Bool.and_self, Bool.or_true]

theorem State.ungated_bit (x : BitVec 384) (d : Fin 384) : (x &&& ~~~(BitVec.ofNat 384 (2 ^ d.val))).getLsbD d.val = false := by
  rw [BitVec.getLsbD_and, BitVec.getLsbD_not, BitVec.getLsbD_ofNat, Nat.testBit_two_pow_self, decide_eq_true d.isLt,
    Bool.and_self, Bool.not_true, Bool.and_false, Bool.and_false]

/-- The clock of a domain that may stop does, 16 of its cycles later (R394). -/
theorem exec_clockGateStop {s : State} {d : Fin 384} (may : s.mayGate d.val = true) :
    exec (.clockGateStop d) s = .next ((s.reach (s.now + ceilDiv 16000000 (s.khzOf (s.gateClock d.val)))).settleAll.onClk
      (fun c => { c with gated := c.gated ||| BitVec.ofNat 384 (2 ^ d.val) })) :=
  congrArg Host.Outcome.next (s.when_pos may)

/-! ### Clock sources -/

/-- The frequency of a domain of Dill follows from the loops, the instant and the domain's source. -/
theorem State.khzOf_dillClock_congr {s t : State} (loops : t.clk.loops = s.clk.loops) (now : t.now = s.now)
    (onAux : t.clk.onAux = s.clk.onAux) (d : Nat) : t.khzOf (t.dillClock d) = s.khzOf (s.dillClock d) := by
  have clock : t.dillClock d = s.dillClock d := by simp only [State.dillClock, onAux]
  have loop : t.loop = s.loop := funext fun k => congrArg (fun l => look ({} : ClkLoop) l k) loops
  have ppm : t.loopPpm = s.loopPpm := funext fun n => by simp only [State.loopPpm, State.loopGoal, loop, now]
  simp only [State.khzOf, clock, loop, ppm]

/-- The domains on their AUX source once a domain has moved. -/
def State.movedAux (s : State) (d : Nat) (toAux : Bool) : List Nat :=
  if toAux then s.clk.onAux.filter (· != d) ++ [d] else s.clk.onAux.filter (· != d)

theorem State.movedAux_self (s : State) (d : Nat) (toAux : Bool) : (s.movedAux d toAux).contains d = toAux := by
  unfold State.movedAux
  cases toAux <;> simp

theorem State.movedAux_other (s : State) {d e : Nat} (toAux : Bool) (listed : e ∈ s.clk.onAux) (other : e ≠ d) :
    e ∈ s.movedAux d toAux := by
  unfold State.movedAux
  cases toAux <;> simp [listed, other]

/-- Whether the clock of a domain of Dill stands is no matter of the counters. -/
theorem State.withBanks_gatedNow (s : State) (b : Table PmcBank) {d : Nat} (dill : 366 ≤ d) :
    (s.withBanks b).gatedNow d = s.gatedNow d := by
  have low : ∀ n ≤ 366, ¬d < n := fun n h => by omega
  have apart : ∀ n < 366, d ≠ n := fun n h => by omega
  simp [State.gatedNow, State.domWork, low, apart, State.withBanks]

/-- When the change of a domain's source ends: at once where its gate is closed, else after three periods of each clock. -/
theorem State.dselMove_clk (s : State) {d : Nat} (toAux : Bool) (dill : 366 ≤ d) :
    (s.dselMove d toAux).clk = { s.clk with
      dselResult := 0, onAux := s.movedAux d toAux
      dselEnd := some (d, if s.gatedNow d then s.now else s.now +
        ceilDiv 3000000 (max 1 (s.khzOf (s.dillClock d))) +
        ceilDiv 3000000 (max 1 ((s.dselMove d toAux).khzOf ((s.dselMove d toAux).dillClock d)))) } := by
  obtain ⟨b, settled⟩ := s.settleAll_banks
  let moved := (s.withBanks b).onClk (fun c => { c with dselResult := 0, onAux := s.movedAux d toAux })
  let last := if s.gatedNow d then s.now else s.now + ceilDiv 3000000 (max 1 (s.khzOf (s.dillClock d))) +
    ceilDiv 3000000 (max 1 (moved.khzOf (moved.dillClock d)))
  have moves : s.dselMove d toAux = (moved.onClk (fun c => { c with dselEnd := some (d, last) })).standPages d last := by
    unfold State.dselMove
    rw [settled]
    dsimp only
    rw [State.withBanks_gatedNow s b dill]
    rfl
  have freq : (s.dselMove d toAux).khzOf ((s.dselMove d toAux).dillClock d) = moved.khzOf (moved.dillClock d) := by
    refine State.khzOf_dillClock_congr ?_ ?_ ?_ d
    · rw [moves, State.standPages_clk]; rfl
    · rw [moves]; simp [State.standPages_keeps, State.onClk]
    · rw [moves, State.standPages_clk]; rfl
  rw [freq, moves, State.standPages_clk]
  rfl

section Sources
variable {s : State} {d src : Nat} (given : src = 1 ∨ src = 2)
include given

theorem State.dsel_oneSource (one : twoSources d = false) : (s.dsel d src).clk = { s.clk with dselResult := 1 } := by
  unfold State.dsel
  rw [if_neg (by omega), one]
  rfl

variable (two : twoSources d = true)
include two

theorem State.dsel_unlocked (out : ¬((s.loop 0).locked = true ∧ (s.loop 0).coast = false)) :
    (s.dsel d src).clk = { s.clk with dselResult := 2 } := by
  have unlocked : (!(s.loop 0).locked || (s.loop 0).coast) = true := by
    cases hl : (s.loop 0).locked <;> cases hc : (s.loop 0).coast <;> simp_all
  unfold State.dsel
  rw [if_neg (by omega), two, unlocked]
  rfl

variable (lock : (s.loop 0).locked = true ∧ (s.loop 0).coast = false)
include lock

theorem State.dsel_locked : s.dsel d src =
    if s.dselBusy d then s.onClk (fun c => { c with dselResult := 3 })
    else if s.clk.onAux.contains d == (src == 2) then s.onClk (fun c => { c with dselResult := 0 })
    else s.dselMove d (src == 2) := by
  unfold State.dsel
  rw [if_neg (by omega), two, lock.1, lock.2]
  rfl

end Sources

/-! ### Sub-domains -/

/-- The state at which a sub-domain's idle time ends: the last wake, and an engine's last work (R398, R400). -/
def State.idleEnd (s : State) (sd : SubDomain) : State :=
  let u := s.since (look? s.clk.wokeAt (sdDomains sd).1) s.idleTime
  match sd with
  | .engine1 k => (u.reach ((u.eng (2 * k.val + 1)).usedAt + u.idleTime)).onEng (2 * k.val + 1) (fun e => { e with workAt := none })
  | _ => u

theorem exec_subdomainPowerDown {s : State} {sd : SubDomain} (main : s.boot.main = true) (idle : s.sdIdle sd = true)
    (up : s.clk.down.getLsbD (sdDomains sd).1 = false) :
    exec (.subdomainPowerDown sd) s = .next ((s.idleEnd sd).settleAll.onClk (fun c => { c with
      down := c.down ||| sdMask (sdDomains sd), gated := c.gated &&& ~~~(sdMask (sdDomains sd)) })) := by
  change execSubdomainPowerDown sd s = _
  unfold execSubdomainPowerDown
  dsimp only
  rw [main, idle, up]
  rfl

theorem State.idleEnd_clk (s : State) (sd : SubDomain) : (s.idleEnd sd).clk = s.clk := by
  have kept := s.since_keepsBut (look? s.clk.wokeAt (sdDomains sd).1) s.idleTime
  have clk : (s.since (look? s.clk.wokeAt (sdDomains sd).1) s.idleTime).clk = s.clk := kept .clk (by decide)
  cases sd with
  | engine1 k => simpa [State.idleEnd, State.onEng_keeps, State.reach_keeps] using clk
  | _ => exact clk

theorem State.idleEnd_now (s : State) (sd : SubDomain) : (s.idleEnd sd).now =
    let u := s.since (look? s.clk.wokeAt (sdDomains sd).1) s.idleTime
    match sd with
    | .engine1 k => u.instant ((s.eng (2 * k.val + 1)).usedAt + s.idleTime)
    | _ => u.now := by
  have kept := s.since_keepsBut (look? s.clk.wokeAt (sdDomains sd).1) s.idleTime
  cases sd with
  | engine1 k =>
    have tier : (s.since (look? s.clk.wokeAt (sdDomains (.engine1 k)).1) s.idleTime).tier = s.tier := kept .tier (by decide)
    have idle : (s.since (look? s.clk.wokeAt (sdDomains (.engine1 k)).1) s.idleTime).idleTime = s.idleTime :=
      congrArg (fun n => ms (max 1 n)) (State.cfg_congr (kept .regs (by decide)) (kept .ret (by decide)) _ _ _ _)
    simp only [State.idleEnd, State.onEng_keeps, State.reach_now, State.eng, tier, idle]
  | _ => rfl

/-! ### PHY quads -/

theorem State.powerUp_gated (s : State) (d : Nat × Nat) (auto : Bool) : (s.powerUp d auto).clk.gated = s.clk.gated := by
  refine State.when_inv (fun t : State => t.clk.gated) _ _ _ fun t => ?_
  simp [State.onClk, State.settleAll_keeps]

/-- What wakes the quads of a link does at present (R401). -/
def State.quadDue (s : State) (l : Fin 16) (why : QuadWakeCause) : Bool :=
  match why with
  | .idleExit | .beacon => (s.link l.val).st == .l2
  | .perstRelease => !(s.grp (l.val / 4)).perst
  | .retrain | .cfgChange => true

/-- Every quad of a link is powered (R401). -/
def State.wakeQuads (s : State) (l : Nat) : State :=
  s.each ((upTo 4).filter (fun q => s.linkOfQuad (4 * (l / 4) + q) == l)) fun s q => s.powerUp (248 + 4 * (l / 4) + q, 1) false

theorem State.wakeQuads_gated (s : State) (l : Nat) : (s.wakeQuads l).clk.gated = s.clk.gated := by
  unfold State.wakeQuads
  exact State.each_inv (fun t : State => t.clk.gated) _ _ _ fun t q => t.powerUp_gated (248 + 4 * (l / 4) + q, 1) false

theorem exec_phyQuadWake {s : State} {l : Fin 16} {why : QuadWakeCause} (due : s.quadDue l why = true)
    (main : s.boot.main = true) (there : s.present l.val = true) :
    exec (.phyQuadWake l why) s = .next (s.wakeQuads l.val) := by
  have runs : exec (.phyQuadWake l why) s = .next (s.when (s.quadDue l why && s.boot.main && s.present l.val) fun s =>
      s.wakeQuads l.val) := rfl
  rw [runs, due, main, there]
  rfl

/-- One gating domain regains power: no other changes. -/
theorem State.powerUp_down (s : State) {n i : Nat} (auto : Bool) (small : i < 384) :
    (s.powerUp (n, 1) auto).clk.down.getLsbD i = (s.clk.down.getLsbD i && i != n) := by
  cases down : s.clk.down.getLsbD n with
  | false =>
    have kept : s.powerUp (n, 1) auto = s := State.when_neg s down
    rw [kept]
    by_cases same : i = n
    · subst same
      rw [down, Bool.false_and]
    · simp [same]
  | true =>
    have up : s.powerUp (n, 1) auto = _ := State.when_pos s down
    have mask : (sdMask (n, 1)).getLsbD i = (i == n) := by
      have one : (1 : Nat).testBit (i - n) = decide (i - n = 0) := by
        rw [show (1 : Nat) = 2 ^ 0 from rfl, Nat.testBit_two_pow, decide_eq_decide]
        exact eq_comm
      have shifted : (sdMask (n, 1)).getLsbD i = (decide (n ≤ i) && (1 : Nat).testBit (i - n)) := by
        simp only [sdMask, BitVec.getLsbD_ofNat, small, decide_true, Bool.true_and, Nat.testBit_shiftLeft, Nat.pow_one,
          Nat.add_one_sub_one, ge_iff_le]
      rw [shifted, one, Bool.eq_iff_iff, Bool.and_eq_true, decide_eq_true_iff, decide_eq_true_iff, beq_iff_eq]
      omega
    have cleared : (s.clk.down &&& ~~~(sdMask (n, 1))).getLsbD i = (s.clk.down.getLsbD i && i != n) := by
      rw [BitVec.getLsbD_and, BitVec.getLsbD_not, mask, decide_eq_true small, Bool.true_and]
      rfl
    rw [up, ← cleared, State.onClk, State.withClk_clk]
    simp only [State.settleAll_keeps]

theorem State.powerUp_each_down (s : State) (base : Nat) (auto : Bool) (l : List Nat) {i : Nat} (small : i < 384) :
    (s.each l fun s q => s.powerUp (base + q, 1) auto).clk.down.getLsbD i =
      (s.clk.down.getLsbD i && l.all fun q => i != base + q) := by
  induction l generalizing s with
  | nil => simp [State.each]
  | cons q l ih =>
    have step : (s.each (q :: l) fun s q => s.powerUp (base + q, 1) auto) =
        (s.powerUp (base + q, 1) auto).each l fun s q => s.powerUp (base + q, 1) auto := rfl
    rw [step, ih, State.powerUp_down s auto small, List.all_cons, Bool.and_assoc]

end Sys2Proof.Machine
end

section
/-! PROOF. Clock gating, sources and sub-domains. -/

open Sys2Proof Sys2Proof.Machine

/-- Settles O48: each command's guard is that of its clause, and what it moves of the clock state is what the clause says. -/
theorem gatingSourcesAndSubdomains : Obligations.GatingSourcesAndSubdomains := by
  refine ⟨fun s d free power up idle clocked => ?_, fun s d barred => ?_, fun s d gated => ?_,
    fun s m d src h => congrArg Host.Outcome.next (s.gate_accepts m _ _ _ h), fun s d src dill given => ?_,
    fun s d src other given => ?_, fun s d src none_given => ?_, fun s sd u main idle up reached => ?_, fun s sd barred => ?_,
    fun s l why main there asleep released => ?_⟩
  · have may : s.mayGate d.val = true := by
      have other : (d.val == 370 || d.val == 371 || d.val == 380 || d.val == 381) = false := by simpa [and_assoc] using free
      have powered : (auxGating d.val || s.boot.main) = true := by
        rcases power with power | power <;> simp [auxGating, power]
      simp only [State.mayGate, other, powered, up, clocked, idle, decide_true, Bool.not_false, Bool.and_self]
    have kept : (s.reach (s.now + ceilDiv 16000000 (s.khzOf (s.gateClock d.val)))).settleAll.clk = s.clk := by
      simp [State.settleAll_keeps, State.reach_keeps]
    refine .of_exec (exec_clockGateStop may) ⟨?_, ?_, ?_⟩
    · rw [State.onClk, kept]
      rfl
    · exact State.gated_bit _ d
    · simp [State.onClk, State.settleAll_keeps]
  · have may : s.mayGate d.val = false := by
      rcases barred with h | h | h | h | h
      · have other : (d.val == 370 || d.val == 371 || d.val == 380 || d.val == 381) = true := by simpa [or_assoc] using h
        simp only [State.mayGate, other, Bool.not_true, Bool.false_and]
      · simp [State.mayGate, h]
      · simp [State.mayGate, h]
      · obtain ⟨main, low⟩ := h
        have aux : auxGating d.val = false := by
          unfold auxGating
          rcases low with low | low
          · simp [low]
          · simp [low]
        simp [State.mayGate, main, aux]
      · simp [State.mayGate, h]
    exact congrArg Host.Outcome.next (State.when_neg s may)
  · have kept : s.settleAll.clk = s.clk := by simp [State.settleAll_keeps]
    have clk : ((s.settleAll.onClk (fun c => { c with
        gated := c.gated &&& ~~~(BitVec.ofNat 384 (2 ^ d.val)) })).cycleRise d.val).clk =
        { s.clk with gated := s.clk.gated &&& ~~~(BitVec.ofNat 384 (2 ^ d.val)) } := by
      rw [(State.cycleRise_keeps _ _).2.2.2.2.2.2.2.2.2.2.2.2.2.2.2.2.2.1, State.onClk, kept]
      rfl
    refine .of_exec (congrArg Host.Outcome.next (s.when_pos gated)) ⟨clk, ?_⟩
    rw [clk]
    exact State.ungated_bit _ d
  · have two : twoSources d = true := by simpa [twoSources] using dill
    have apart : d ≠ 364 ∧ d ≠ 365 := by omega
    split
    next lock =>
      rw [State.dsel_locked given two lock]
      split
      · rfl
      · split
        next same => 
          have same : s.clk.onAux.contains d = (src == 2) := beq_iff_eq.1 same
          exact ⟨rfl, same, fun e listed _ => listed, fun other => absurd same other⟩
        next =>
          rw [State.dselMove_clk s (src == 2) (by omega)]
          exact ⟨rfl, s.movedAux_self d _, fun e listed other => s.movedAux_other _ listed other, fun _ => rfl⟩
    next out => exact State.dsel_unlocked given two out
  · refine State.dsel_oneSource given ?_
    rw [twoSources]
    simp only [Bool.or_eq_false_iff, Bool.and_eq_false_iff, decide_eq_false_iff_not]
    omega
  · exact if_pos none_given
  · have kept := s.idleEnd_clk sd
    have moment : u = s.since (look? s.clk.wokeAt (sdDomains sd).1) s.idleTime := reached
    refine .of_exec (exec_subdomainPowerDown main idle up) ⟨?_, ?_⟩
    · simp only [State.onClk, State.settleAll_keeps, State.withClk_clk, kept]
    · simp only [State.onClk, State.settleAll_keeps, State.withClk_now, State.idleEnd_now, moment] <;> cases sd <;> rfl
  · change execSubdomainPowerDown sd s = _
    have shut : (s.boot.main && s.sdIdle sd && !s.clk.down.getLsbD (sdDomains sd).1) = false := by
      rcases barred with h | h <;> simp [h]
    unfold execSubdomainPowerDown
    dsimp only
    rw [shut]
    rfl
  · have due : s.quadDue l why = true := by
      cases why with
      | idleExit => simp [State.quadDue, asleep (.inl rfl)]
      | beacon => simp [State.quadDue, asleep (.inr rfl)]
      | perstRelease => simp [State.quadDue, released rfl]
      | retrain => rfl
      | cfgChange => rfl
    refine .of_exec (exec_phyQuadWake due main there) ⟨fun q small => ?_, ?_⟩
    · rw [State.wakeQuads, State.powerUp_each_down s _ false _ (by omega)]
      refine congrArg (s.clk.down.getLsbD (248 + 4 * (l.val / 4) + q) && ·) ?_
      rw [Bool.eq_iff_iff, List.all_eq_true]
      constructor
      · intro none_woken
        by_contra linked
        have linked : s.linkOfQuad (4 * (l.val / 4) + q) = l.val := by simpa using linked
        have woken := none_woken q (by simp [upTo, small, linked])
        exact absurd rfl (bne_iff_ne.1 woken)
      · intro other p listed
        have linked : p < 4 ∧ s.linkOfQuad (4 * (l.val / 4) + p) = l.val := by simpa [upTo] using listed
        have apart : p ≠ q := by
          rintro rfl
          simp [linked.2] at other
        rw [bne_iff_ne]
        omega
    · exact s.wakeQuads_gated l.val
end

section
/-! SUPPORT. Crystals, REF and the loops that coast (R383-R392). -/

namespace Sys2Proof.Machine

/-! ### Raised events of the clock root -/

/-- An event of the clock root is pending once raised, outside the AUX-only state (R404). -/
theorem State.raiseClk_pend {s : State} {src : Nat} (known : definedSource src = true) (up : s.boot.st ≠ 0) (page subject : Nat) :
    (s.raiseClk src page subject).evt.pend.getLsbD src = true :=
  State.raise_rises_pend (s := s) (e := { src := src, site := siteOfPage page, subject := subject }) (by simp [State.rises, known, up])

/-- A pending bit stays while other events rise (R502). -/
theorem State.raise_pend_of {s : State} {k : Nat} (e : Ev) (h : s.evt.pend.getLsbD k = true) :
    (s.raise e).evt.pend.getLsbD k = true := by
  have one := State.raiseOne_pend_of e h
  unfold State.raise
  dsimp only
  split
  · exact State.raiseOne_pend_of _ one
  · exact one

theorem State.raiseClk_clk (s : State) (src page subject : Nat) : (s.raiseClk src page subject).clk = s.clk := by
  simp [State.raiseClk_keeps]

theorem State.raiseClk_boot (s : State) (src page subject : Nat) : (s.raiseClk src page subject).boot = s.boot := by
  simp [State.raiseClk_keeps]

/-! ### A loop that starts to coast -/

/-- The MON bit that a coasting loop sets (R384, R405). -/
def coastMon (n : Nat) : BitVec 11 :=
  match monBit n with
  | some b => BitVec.ofNat 11 (2 ^ b)
  | none => 0

theorem coastMon_or (m : BitVec 11) (n : Nat) :
    m ||| coastMon n = if n = 0 then m ||| 4 else if n < 17 then m ||| 8 else if n < 36 then m ||| 16 else m := by
  unfold coastMon monBit
  by_cases root : n = 0
  · simp [root]
  by_cases channel : n < 17
  · simp [root, channel]
  by_cases module : n < 36
  · simp [root, channel, module]
  · simp [root, channel, module]

/-- A loop coasts from where its output is (R388). -/
def State.coasting (s : State) (n : Nat) (lost : Option Nat) : Clocks :=
  { s.clk with
    loops := edit {} s.clk.loops n fun l => { l with coast := true, lostAt := lost, slewAt := s.now, from_ := s.loopPpm n }
    mon := s.clk.mon ||| coastMon n }

/-- A locked loop that does not coast starts to, which is CLK_COAST_START (R388, R404). -/
theorem State.coast_starts {s : State} {n : Nat} (lost : Option Nat) (locked : (s.loop n).locked = true)
    (free : (s.loop n).coast = false) : ∃ u : State, u.clk = s.coasting n lost ∧ u.boot = s.boot ∧
      s.coast n lost = u.raiseClk 18 0x0181 n := by
  have runs : s.coast n lost = _ := State.when_pos s (by rw [locked, free]; rfl)
  rw [runs]
  refine ⟨_, ?_, ?_, rfl⟩
  · cases bit : monBit n with
    | none => simp [State.onLoop, State.settleAll_keeps, State.coasting, coastMon, bit]
    | some b => simp [State.onLoop, State.settleAll_keeps, State.coasting, coastMon, bit, State.setMon, State.onClk]
  · cases bit : monBit n with
    | none => simp [State.onLoop, State.settleAll_keeps]
    | some b => simp [State.onLoop, State.settleAll_keeps, State.setMon, State.onClk]

theorem State.coast_idle {s : State} {n : Nat} (lost : Option Nat) (idle : ((s.loop n).locked && !(s.loop n).coast) = false) :
    s.coast n lost = s := State.when_neg s idle

theorem State.coast_clk {s : State} {n : Nat} (lost : Option Nat) (locked : (s.loop n).locked = true)
    (free : (s.loop n).coast = false) : (s.coast n lost).clk = s.coasting n lost := by
  obtain ⟨u, clk, -, runs⟩ := State.coast_starts lost locked free
  rw [runs, State.raiseClk_clk, clk]

/-- The clock state after loops have started to coast: nothing else moves, and no loop that coasts or locks ceases to. -/
structure Clocks.Coasts (a b : Clocks) : Prop where
  rest : b = { a with loops := b.loops, mon := b.mon }
  mon : ∀ i, a.mon.getLsbD i = true → b.mon.getLsbD i = true
  coast : ∀ n, (look {} a.loops n).coast = true → (look {} b.loops n).coast = true
  locked : ∀ n, (look {} b.loops n).locked = (look {} a.loops n).locked

theorem Clocks.Coasts.refl (a : Clocks) : a.Coasts a := ⟨rfl, fun _ => id, fun _ => id, fun _ => rfl⟩

theorem Clocks.Coasts.trans {a b c : Clocks} (h : a.Coasts b) (g : b.Coasts c) : a.Coasts c where
  rest := by
    obtain ⟨rest, -, -, -⟩ := h
    rw [g.rest, rest]
  mon := fun i set => g.mon i (h.mon i set)
  coast := fun n set => g.coast n (h.coast n set)
  locked := fun n => (g.locked n).trans (h.locked n)

theorem State.coasting_coasts (s : State) (n : Nat) (lost : Option Nat) : s.clk.Coasts (s.coasting n lost) where
  rest := rfl
  mon := fun i set => by simp [State.coasting, set]
  coast := fun k set => by
    by_cases same : k = n
    · subst same
      simp [State.coasting]
    · simpa [State.coasting, same] using set
  locked := fun k => by
    by_cases same : k = n
    · subst same
      simp [State.coasting]
    · simp [State.coasting, same]

theorem State.coast_coasts (s : State) (n : Nat) (lost : Option Nat) : s.clk.Coasts (s.coast n lost).clk := by
  cases locked : (s.loop n).locked with
  | false => rw [State.coast_idle lost (by rw [locked]; rfl)]; exact .refl _
  | true =>
    cases coast : (s.loop n).coast with
    | true => rw [State.coast_idle lost (by rw [locked, coast]; rfl)]; exact .refl _
    | false => rw [State.coast_clk lost locked coast]; exact s.coasting_coasts n lost

/-- A locked loop coasts once it has started to. -/
theorem State.coast_coast {s : State} {n : Nat} (lost : Option Nat) (locked : (s.loop n).locked = true) :
    ((s.coast n lost).loop n).coast = true := by
  cases coast : (s.loop n).coast with
  | true => exact (s.coast_coasts n lost).coast n coast
  | false => simp [State.loop, State.coast_clk lost locked coast, State.coasting]

theorem State.coast_pend_of {s : State} {k : Nat} (n : Nat) (lost : Option Nat) (h : s.evt.pend.getLsbD k = true) :
    (s.coast n lost).evt.pend.getLsbD k = true := by
  refine (?_ : ∀ b f, (∀ t : State, t.evt = s.evt → (f t).evt.pend.getLsbD k = true) →
    (s.when b f).evt.pend.getLsbD k = true) _ _ fun t same => ?_
  · intro b f step
    cases b with
    | false => exact h
    | true => exact step s rfl
  · refine State.raise_pend_of _ ?_
    split <;> simp [State.onLoop, State.settleAll_keeps, State.setMon, State.onClk, same, h]

/-! ### Every loop that REF feeds -/

theorem State.coastEach_coasts (s : State) (l : List Nat) : s.clk.Coasts (s.each l fun s n => s.coast n none).clk := by
  induction l generalizing s with
  | nil => exact .refl _
  | cons n l ih => exact (s.coast_coasts n none).trans (ih (s.coast n none))

theorem State.coastEach_coast (s : State) {l : List Nat} {n : Nat} (listed : n ∈ l) (locked : (s.loop n).locked = true) :
    ((s.each l fun s n => s.coast n none).loop n).coast = true := by
  induction l generalizing s with
  | nil => cases listed
  | cons m l ih =>
    have step : (s.each (m :: l) fun s n => s.coast n none) = (s.coast m none).each l fun s n => s.coast n none := rfl
    rw [step]
    cases listed with
    | head => exact (State.coastEach_coasts _ l).coast n (State.coast_coast none locked)
    | tail _ later => exact ih (s.coast m none) later (((s.coast_coasts m none).locked n).trans locked)

theorem State.coastRef_eq (s : State) : s.coastRef = s.each (upTo 36) fun s n => s.coast n none := rfl

theorem State.coastRef_coasts (s : State) : s.clk.Coasts s.coastRef.clk := by
  rw [State.coastRef_eq]
  exact s.coastEach_coasts _

theorem State.coastRef_coast (s : State) {n : Nat} (fed : n < 36) (locked : (s.loop n).locked = true) :
    (s.coastRef.loop n).coast = true := by
  rw [State.coastRef_eq]
  exact s.coastEach_coast (List.mem_range.2 fed) locked

theorem State.coastRef_pend_of {s : State} {k : Nat} (h : s.evt.pend.getLsbD k = true) :
    s.coastRef.evt.pend.getLsbD k = true := by
  rw [State.coastRef_eq, State.each]
  exact foldl_holds (P := fun t : State => t.evt.pend.getLsbD k = true) h fun _ n set => State.coast_pend_of n none set

/-! ### Crystals -/

theorem State.xtal_congr {s t : State} (xa : t.clk.xa = s.clk.xa) (xb : t.clk.xb = s.clk.xb) (b : Bool) :
    t.xtal b = s.xtal b := by
  rw [State.xtal, xa, xb, State.xtal]

theorem Clocks.Coasts.xtal {s t : State} (h : s.clk.Coasts t.clk) (b : Bool) : t.xtal b = s.xtal b :=
  State.xtal_congr (by rw [h.rest]) (by rw [h.rest]) b

theorem State.setXtal_xtal (s : State) (b c : Bool) (x : Crystal) : (s.setXtal b x).xtal c = if c = b then x else s.xtal c := by
  cases b <;> cases c <;> rfl

/-- A crystal that fails is no longer within limits. -/
theorem State.xtalFails_xtal (s : State) (b c : Bool) : (s.xtalFails b).xtal c =
    if c = b then (if (s.xtal b).ok then { ok := false, since := none, from_ := s.now } else s.xtal b) else s.xtal c := by
  cases ok : (s.xtal b).ok with
  | false =>
    have kept : s.xtalFails b = s := State.when_neg s ok
    rw [kept]
    split
    next same => rw [same]; rfl
    next => rfl
  | true =>
    have fails : s.xtalFails b = _ := State.when_pos s ok
    have clk := State.raiseClk_clk (s.setXtal b { ok := false, since := none, from_ := s.now }) 16 clkPage (b2n b)
    rw [fails, State.xtal_congr (congrArg Clocks.xa clk) (congrArg Clocks.xb clk), State.setXtal_xtal]
    rfl

/-- Of the clock state a crystal that fails changes the crystals alone. -/
theorem State.xtalFails_clk (s : State) (b : Bool) :
    ∃ xa xb, (s.xtalFails b).clk = { s.clk with xa := xa, xb := xb } := by
  unfold State.xtalFails
  cases (s.xtal b).ok with
  | false => exact ⟨_, _, rfl⟩
  | true =>
    rw [State.when_true, State.raiseClk_clk]
    cases b <;> exact ⟨_, _, rfl⟩

/-- REF has moved, and CLK_REF_SWITCH is raised, before the loops start to coast (R389). -/
def State.movedRef (s : State) : State :=
  (s.onClk fun c => { c with refB := !c.refB }).raiseClk 17 clkPage (b2n !s.clk.refB)

theorem State.moveRef_eq (s : State) : s.moveRef = s.movedRef.coastRef := rfl

theorem State.movedRef_clk (s : State) : s.movedRef.clk = { s.clk with refB := !s.clk.refB } := State.raiseClk_clk _ _ _ _

theorem State.moveRef_clk (s : State) : ({ s.clk with refB := !s.clk.refB } : Clocks).Coasts s.moveRef.clk := by
  rw [State.moveRef_eq, ← State.movedRef_clk]
  exact s.movedRef.coastRef_coasts

/-- A move of REF leaves every locked loop that REF feeds coasting, and is CLK_REF_SWITCH (R389, R404). -/
theorem State.moveRef_coast (s : State) {n : Nat} (fed : n < 36) (locked : (s.loop n).locked = true) :
    (s.moveRef.loop n).coast = true := by
  rw [State.moveRef_eq]
  refine s.movedRef.coastRef_coast fed ?_
  rw [State.loop, State.movedRef_clk]
  exact locked

theorem State.moveRef_pend {s : State} (up : s.boot.st ≠ 0) : s.moveRef.evt.pend.getLsbD 17 = true := by
  rw [State.moveRef_eq]
  exact State.coastRef_pend_of (State.raiseClk_pend (s := s.onClk fun c => { c with refB := !c.refB }) (by decide) up _ _)

theorem State.moveRef_refB (s : State) : s.moveRef.clk.refB = !s.clk.refB := by rw [s.moveRef_clk.rest]

theorem State.moveRef_xtal (s : State) (b : Bool) : s.moveRef.xtal b = s.xtal b :=
  State.xtal_congr (by rw [s.moveRef_clk.rest]) (by rw [s.moveRef_clk.rest]) b

theorem State.moveRef_now (s : State) : s.moveRef.now = s.now := by simp [State.moveRef_keeps]

/-! ### REF is looked for -/

/-- What a look for REF does: the preferred crystal, else the other, else CLK_XTAL_FAIL (R383). -/
theorem State.lookForRef_clk (s : State) :
    if (s.xtal s.prefB).ok then s.lookForRef.clk = { s.clk with refOn := true, refB := s.prefB }
    else if (s.xtal (!s.prefB)).ok then s.lookForRef.clk = { s.clk with refOn := true, refB := !s.prefB }
    else s.lookForRef.clk = s.clk ∧ (s.boot.st ≠ 0 → s.lookForRef.evt.pend.getLsbD 16 = true) := by
  unfold State.lookForRef
  split
  · rfl
  · split
    · rfl
    · exact ⟨State.raiseClk_clk _ _ _ _, fun up => State.raiseClk_pend (by decide) up _ _⟩

/-- Waiting for an instant leaves the crystals, the choice of REF and the state of start-up. -/
theorem State.reach_lookForRef (s : State) (t : Nat) : (s.reach t).lookForRef.now = s.instant t ∧
    (if (s.xtal s.prefB).ok then (s.reach t).lookForRef.clk = { s.clk with refOn := true, refB := s.prefB }
    else if (s.xtal (!s.prefB)).ok then (s.reach t).lookForRef.clk = { s.clk with refOn := true, refB := !s.prefB }
    else (s.reach t).lookForRef.clk = s.clk ∧ (s.boot.st ≠ 0 → (s.reach t).lookForRef.evt.pend.getLsbD 16 = true)) := by
  have kept := s.reach_keepsBut t
  have clk : (s.reach t).clk = s.clk := kept .clk (by decide)
  have boot : (s.reach t).boot = s.boot := kept .boot (by decide)
  have pref : (s.reach t).prefB = s.prefB :=
    congrArg (· == 1) (State.cfg_congr (kept .regs (by decide)) (kept .ret (by decide)) _ _ _ _)
  have xtal : ∀ b, (s.reach t).xtal b = s.xtal b := State.xtal_congr (by rw [clk]) (by rw [clk])
  have looked := (s.reach t).lookForRef_clk
  rw [pref, xtal, xtal, clk, boot] at looked
  exact ⟨by simp [State.lookForRef_keeps], looked⟩

/-! ### A crystal that qualifies, and one that is flagged -/

/-- A crystal has qualified; REF is taken from the preferred one (R383). -/
theorem exec_xtalQualify {s : State} {x : Fin 2} (up : s.boot.aux = true) (fitted : s.fitted (x.val == 1) = true)
    (out : (s.xtal (x.val == 1)).ok = false) :
    let u := s.reach ((s.xtal (x.val == 1)).from_ + s.qualifyTime)
    let v := u.setXtal (x.val == 1) { u.xtal (x.val == 1) with ok := true, since := some u.now }
    exec (.xtalQualify x) s = .next (v.when (!v.clk.refOn && v.prefB == (x.val == 1)) fun v => v.takeRef (x.val == 1)) :=
  congrArg Host.Outcome.next (s.when_pos (by rw [up, fitted, out]; rfl))

theorem State.takeRef_when (v : State) (c b : Bool) :
    let t := v.when c fun v => v.takeRef b
    t.now = v.now ∧ (∀ k, t.xtal k = v.xtal k) ∧ t.clk.refOn = (v.clk.refOn || c) ∧
      t.clk.refB = if c then b else v.clk.refB := by
  cases c with
  | false => exact ⟨rfl, fun _ => rfl, (Bool.or_false _).symm, rfl⟩
  | true => exact ⟨rfl, fun _ => rfl, (Bool.or_true _).symm, rfl⟩

theorem State.discSync_clk (s : State) : s.discSync.clk = if s.refGood then s.clk else { s.clk with disc := false } := by
  unfold State.discSync
  cases s.refGood <;> rfl

/-- A crystal's monitor flags it: it has failed now (R387). -/
def State.xtalFlagged (s : State) (x : Fin 2) : State :=
  let u := (s.setMon x.val).xtalFails (x.val == 1)
  u.setXtal (x.val == 1) { u.xtal (x.val == 1) with from_ := u.now }

theorem State.xtalFlagged_clk (s : State) (x : Fin 2) : ∃ xa xb, (s.xtalFlagged x).clk =
    { s.clk with mon := s.clk.mon ||| BitVec.ofNat 11 (2 ^ x.val), xa := xa, xb := xb } := by
  obtain ⟨xa, xb, clk⟩ := (s.setMon x.val).xtalFails_clk (x.val == 1)
  unfold State.xtalFlagged
  simp only [State.setXtal, State.onClk, State.withClk_clk, clk]
  cases x.val == 1 <;> exact ⟨_, _, rfl⟩

theorem State.xtalFlagged_xtal {s : State} {x : Fin 2} (ok : (s.xtal (x.val == 1)).ok = true) :
    (s.xtalFlagged x).xtal (x.val == 1) = { ok := false, since := none, from_ := s.now } := by
  have now : ((s.setMon x.val).xtalFails (x.val == 1)).now = s.now := by
    simp [State.xtalFails_keeps, State.setMon, State.onClk]
  have failed : ((s.setMon x.val).xtalFails (x.val == 1)).xtal (x.val == 1) =
      { ok := false, since := none, from_ := s.now } := by
    rw [State.xtalFails_xtal, if_pos rfl, if_pos (show ((s.setMon x.val).xtal (x.val == 1)).ok = true from ok)]
    rfl
  unfold State.xtalFlagged
  dsimp only
  rw [State.setXtal_xtal, if_pos rfl, failed, now]

/-- A flag of the crystal in use makes the loops that REF feeds coast, and the fast oscillator run free (R387, R392). -/
theorem exec_clockMonitorFlag_inUse {s : State} {x : Fin 2} (on : s.clk.refOn = true) (used : s.clk.refB = (x.val == 1)) :
    exec (.clockMonitorFlag (.xtal x)) s = .next (s.xtalFlagged x).coastRef.discSync := by
  obtain ⟨xa, xb, clk⟩ := s.xtalFlagged_clk x
  have due : ((s.xtalFlagged x).clk.refOn && (s.xtalFlagged x).clk.refB == (x.val == 1)) = true := by
    rw [clk]
    simp [on, used]
  exact congrArg (fun t : State => Host.Outcome.next t.discSync) (State.when_pos (s.xtalFlagged x) due)

/-- REF is not good while its crystal is out of limits (R390). -/
theorem State.refGood_eq (s : State) : s.refGood = (s.clk.refOn && (s.xtal s.clk.refB).ok) := by
  unfold State.refGood State.xtal
  split <;> rfl

/-! ### The check of the slow oscillator -/

/-- The slow oscillator has been checked, 1 ms after the last check (R387). -/
def State.slowChecked (s : State) (bad : Bool) : State :=
  let u := s.reach (s.clk.slowAt + ms 1)
  u.onClk fun c => { c with slowAt := u.now, slowBad := bad }

theorem exec_slowOscCheck {s : State} (up : s.boot.aux = true) (bad : Bool) : exec (.slowOscCheck bad) s =
    .next ((s.slowChecked bad).when bad fun s => (s.setMon 9).raiseClk 20 clkPage 0) :=
  congrArg Host.Outcome.next (s.when_pos up)

theorem State.slowChecked_eq (s : State) (bad : Bool) : ∃ u : State, s.slowChecked bad = u ∧
    u.now = s.instant (s.clk.slowAt + ms 1) ∧ u.clk = { s.clk with slowAt := u.now, slowBad := bad } ∧
      u.evt = s.evt ∧ u.boot = s.boot := by
  have kept := s.reach_keepsBut (s.clk.slowAt + ms 1)
  have now := s.reach_now (s.clk.slowAt + ms 1)
  have clk : (s.reach (s.clk.slowAt + ms 1)).clk = s.clk := kept .clk (by decide)
  have evt : (s.reach (s.clk.slowAt + ms 1)).evt = s.evt := kept .evt (by decide)
  have boot : (s.reach (s.clk.slowAt + ms 1)).boot = s.boot := kept .boot (by decide)
  refine ⟨_, rfl, ?_⟩
  unfold State.slowChecked
  generalize s.reach (s.clk.slowAt + ms 1) = u at now clk evt boot
  simp only [State.onClk, State.withClk_now, State.withClk_clk, State.withClk_evt, State.withClk_boot, now, clk, evt, boot]
  exact ⟨trivial, trivial, trivial, trivial⟩

/-! ### Loops that lock again, and the first lock -/

/-- A loop of a port group is locked again once step 8 has been reached (R50, R426). -/
def State.relocked (s : State) (n : Nat) : State :=
  s.when (decide (36 ≤ n) && decide (8 ≤ s.boot.step)) fun s =>
    (s.onGrp (n - 36) fun p => { p with refLost := false }).onLoop n fun l => { l with locked := true }

theorem State.relocked_loop (s : State) (n : Nat) : (s.relocked n).loop n =
    { s.loop n with locked := (s.loop n).locked || (decide (36 ≤ n) && decide (8 ≤ s.boot.step)) } := by
  unfold State.relocked
  cases decide (36 ≤ n) && decide (8 ≤ s.boot.step) with
  | false => rw [Bool.or_false]; rfl
  | true => simp [State.loop, State.onLoop, State.onGrp_keeps]

theorem State.relocked_keeps (s : State) (n : Nat) :
    (s.relocked n).now = s.now ∧ (s.relocked n).boot = s.boot ∧ (s.relocked n).clk.mon = s.clk.mon := by
  unfold State.relocked
  cases decide (36 ≤ n) && decide (8 ≤ s.boot.step) with
  | false => exact ⟨rfl, rfl, rfl⟩
  | true => simp [State.onLoop, State.onGrp_keeps]

theorem exec_loopRelock {s : State} {n : Fin 40} (coasts : (s.loop n.val).coast = true)
    (there : s.refGood = true ∨ 36 ≤ n.val) :
    let u := s.relocked n.val
    exec (.loopRelock n) s = .next ((u.settleAll.onLoop n.val (fun l => { l with
      coast := false, lostAt := none, slewAt := u.now, from_ := u.loopPpm n.val })).raiseClk 19 0x0181 n.val) := by
  have due : ((s.loop n.val).coast && (s.refGood || decide (36 ≤ n.val))) = true := by
    rw [coasts]
    simpa using there
  exact congrArg Host.Outcome.next (State.when_pos (s.relocked n.val) (f := fun s =>
    (s.settleAll.onLoop n.val (fun l => { l with
      coast := false, lostAt := none, slewAt := s.now, from_ := s.loopPpm n.val })).raiseClk 19 0x0181 n.val) due)

theorem look_foldl_put {α : Type} [DecidableEq α] (d : α) (f : Nat → α) (l : List Nat) (t : Table α) (k : Nat) :
    look d (l.foldl (fun t n => put d t n (f n)) t) k = if k ∈ l then f k else look d t k := by
  induction l generalizing t with
  | nil => simp
  | cons n l ih =>
    rw [List.foldl_cons, ih]
    by_cases later : k ∈ l
    · simp [later]
    · by_cases same : k = n
      · subst same
        simp
      · simp [later, same]

theorem State.rootLocked_loop (s : State) {n : Nat} (small : n < 40) : s.rootLocked.loop n = { locked := s.refThere n } := by
  have there : s.settleAll.refThere n = s.refThere n := by simp [State.refThere, State.grp, State.settleAll_keeps]
  have clk : s.rootLocked.clk = { s.settleAll.clk with
      loops := (upTo 40).foldl (fun t n => put ({} : ClkLoop) t n { locked := s.settleAll.refThere n }) [], onAux := [] } := by
    unfold State.rootLocked
    simp [State.brgRelease_keeps, State.onBoot_keeps]
  rw [State.loop, clk]
  dsimp only
  rw [look_foldl_put, if_pos (show n ∈ upTo 40 from List.mem_range.2 small), there]

end Sys2Proof.Machine
end

section
/-! PROOF. Crystals, REF and loops. -/

open Sys2Proof Sys2Proof.Machine

/-- Settles O47: a crystal's commands move it and the choice of REF, a loop starts or ends its coasting as its monitor says, and what
a loss of lock brings is that of its group. -/
theorem crystalsRefAndLoops : Obligations.CrystalsRefAndLoops := by
  refine ⟨fun s x up fitted out => ?_, fun s none_there => ?_, fun s up off => ⟨?_, ?_⟩, fun s x on used ok => ?_,
    fun s c m g => ⟨rfl, fun busy => ?_, fun free => ?_, rfl, rfl, rfl⟩, fun s up => ⟨?_, ?_⟩, fun s n => ⟨rfl, fun there => ?_, fun gone port => ?_⟩,
    fun s n lost locked free => ?_, fun s n coasts there => ?_, fun s on enabled other => ?_,
    fun s m h => congrArg Host.Outcome.next (s.gate_accepts m _ _ _ h), fun s on other => ?_, fun s stays => ?_,
    fun s t0 since on enabled apart => ?_, fun s n t0 lost => ?_, fun s good => congrArg Host.Outcome.next (s.when_pos good),
    fun s gone => congrArg Host.Outcome.next (s.when_neg gone), fun s step main good => ?_⟩
  · have kept := s.reach_keepsBut ((s.xtal (x.val == 1)).from_ + s.qualifyTime)
    have clk : (s.reach ((s.xtal (x.val == 1)).from_ + s.qualifyTime)).clk = s.clk := kept .clk (by decide)
    have pref : (s.reach ((s.xtal (x.val == 1)).from_ + s.qualifyTime)).prefB = s.prefB :=
      congrArg (· == 1) (State.cfg_congr (kept .regs (by decide)) (kept .ret (by decide)) _ _ _ _)
    have now : (s.reach ((s.xtal (x.val == 1)).from_ + s.qualifyTime)).now = _ := s.reach_now _
    refine .of_exec (exec_xtalQualify up fitted out) ?_
    generalize s.reach ((s.xtal (x.val == 1)).from_ + s.qualifyTime) = u at clk pref now
    have xtal : ∀ k, u.xtal k = s.xtal k := State.xtal_congr (by rw [clk]) (by rw [clk])
    generalize hv : u.setXtal (x.val == 1) { u.xtal (x.val == 1) with ok := true, since := some u.now } = v
    have vnow : v.now = u.now := by rw [← hv]; rfl
    have von : v.clk.refOn = s.clk.refOn ∧ v.clk.refB = s.clk.refB := by
      rw [← hv, ← clk]
      unfold State.setXtal
      cases x.val == 1 <;> exact ⟨rfl, rfl⟩
    have vpref : v.prefB = s.prefB := by rw [← hv]; exact pref
    obtain ⟨same, crystals, refOn, refB⟩ := v.takeRef_when (!v.clk.refOn && v.prefB == (x.val == 1)) (x.val == 1)
    have here : v.xtal (x.val == 1) = { s.xtal (x.val == 1) with ok := true, since := some u.now } := by
      rw [← hv, State.setXtal_xtal, if_pos rfl, xtal]
    have other : v.xtal (x.val != 1) = s.xtal (x.val != 1) := by
      rw [← hv, State.setXtal_xtal, if_neg (by cases h : x.val == 1 <;> simp [bne, h]), xtal]
    dsimp only
    rw [same, crystals, crystals, refOn, refB, von.1, von.2, vpref, vnow, here, other]
    refine ⟨now, rfl, rfl, rfl, ?_, ?_⟩
    · cases s.clk.refOn <;> simp
    · cases s.clk.refOn <;> by_cases pick : s.prefB = (x.val == 1) <;> simp [pick]
  · refine congrArg Host.Outcome.next (s.when_neg ?_)
    simp [State.fitted, none_there]
  · refine .of_exec (congrArg Host.Outcome.next (s.when_pos (by rw [up, off]; rfl))) (s.reach_lookForRef _)
  · refine .of_exec (congrArg Host.Outcome.next (s.when_pos (by rw [up, off]; rfl))) (s.reach_lookForRef _)
  · obtain ⟨xa, xb, clk⟩ := s.xtalFlagged_clk x
    have flagged := State.xtalFlagged_xtal (s := s) (x := x) (used ▸ ok)
    have coasts := (s.xtalFlagged x).coastRef_coasts
    have coast : ∀ n < 36, ((s.xtalFlagged x).loop n).locked = true → ((s.xtalFlagged x).coastRef.loop n).coast = true :=
      fun n fed => (s.xtalFlagged x).coastRef_coast fed
    refine .of_exec (exec_clockMonitorFlag_inUse on used) ?_
    generalize (s.xtalFlagged x).coastRef = t at coasts coast
    have xtal : t.xtal s.clk.refB = { ok := false, since := none, from_ := s.now } := by rw [coasts.xtal, used, flagged]
    have gone : t.refGood = false := by
      rw [State.refGood_eq, show t.clk.refB = s.clk.refB by rw [coasts.rest, clk], xtal, Bool.and_false]
    have synced : t.discSync.clk = { t.clk with disc := false } := by
      rw [State.discSync_clk, gone]
      rfl
    refine ⟨?_, ?_, by rw [synced], fun n fed locked => ?_⟩
    · rw [synced]
      refine coasts.mon x.val ?_
      rw [clk]
      fin_cases x <;> simp
    · rw [← xtal]
      exact State.xtal_congr (by rw [synced]) (by rw [synced]) _
    · rw [State.loop, synced]
      refine coast n fed ?_
      rw [State.loop, clk]
      exact locked
  · exact congrArg Host.Outcome.next (s.when_neg (by simp [busy]))
  · exact congrArg Host.Outcome.next (s.when_pos (by simp [free]))
  · obtain ⟨u, checked, now, clk, evt, -⟩ := s.slowChecked_eq false
    refine .of_exec (exec_slowOscCheck up false) ?_
    rw [checked, State.when_false]
    exact ⟨now, clk, evt⟩
  · obtain ⟨u, checked, now, clk, -, boot⟩ := s.slowChecked_eq true
    refine .of_exec (exec_slowOscCheck up true) ?_
    rw [checked, State.when_true, State.raiseClk_clk, (State.raiseClk_keeps _ _ _ _).1]
    refine ⟨now, ?_, fun main => State.raiseClk_pend (by decide) (boot ▸ main) _ _⟩
    simp only [State.setMon, State.onClk, State.withClk_clk, State.withClk_now, clk]
    rfl
  · exact congrArg Host.Outcome.next (s.when_pos (by simpa using there))
  · exact congrArg Host.Outcome.next (s.when_neg (by simp [gone]; omega))
  · obtain ⟨u, -, boot, runs⟩ := State.coast_starts lost locked free
    have clk := State.coast_clk lost locked free
    refine ⟨?_, fun k _ other => ?_, fun up => ?_, ?_⟩
    · rw [State.loop, clk]
      simp only [State.coasting, look_edit_same]
      exact congrArg (fun b => ({ locked := b, coast := true, lostAt := lost, slewAt := s.now, from_ := s.loopPpm n } : ClkLoop))
        locked
    · rw [State.loop, clk]
      simp [State.coasting, other, State.loop]
    · rw [runs]
      exact State.raiseClk_pend (by decide) (boot ▸ up) _ _
    · rw [clk]
      exact coastMon_or _ n
  · obtain ⟨now, boot, mon⟩ := s.relocked_keeps n.val
    refine .of_exec (exec_loopRelock coasts there) ?_
    simp only [State.loop, State.raiseClk_clk, State.onLoop, State.withClk_clk, look_edit_same, State.settleAll_keeps]
    refine ⟨trivial, trivial, now, congrArg ClkLoop.locked (s.relocked_loop n.val), fun up => ?_, mon⟩
    refine State.raiseClk_pend (by decide) ?_ _ _
    simpa [State.settleAll_keeps, boot] using up
  · have moves : exec .refSwitch s = .next (s.xtalFails s.clk.refB).moveRef :=
      congrArg Host.Outcome.next (s.when_pos (by rw [on, enabled, other]; rfl))
    obtain ⟨xa, xb, clk⟩ := s.xtalFails_clk s.clk.refB
    refine .of_exec moves ⟨by rw [State.moveRef_refB, clk], ?_, fun up => ?_, fun n fed locked => ?_⟩
    · rw [State.moveRef_xtal, State.xtalFails_xtal, if_pos rfl]
      split
      · rfl
      next out => exact Bool.eq_false_iff.2 out
    · refine State.moveRef_pend ?_
      simpa [State.xtalFails_keeps] using up
    · refine State.moveRef_coast _ fed ?_
      rw [State.loop, clk]
      exact locked
  · have swaps : s.swapRef = s.moveRef := State.when_pos s (by rw [on, other]; rfl)
    rw [swaps, State.moveRef_clk s |>.rest]
    exact ⟨rfl, rfl, rfl⟩
  · refine State.when_neg s ?_
    rcases stays with h | h <;> simp [h]
  · have pick : exec .refRevert s = .next (s.reach (t0 + sec 10)).moveRef := by
      change execRefRevert s = _
      have other : (s.clk.refB != s.prefB) = true := bne_iff_ne.2 apart
      simp only [execRefRevert, since, on, enabled, other, Bool.and_self, if_true]
    have clk : (s.reach (t0 + sec 10)).clk = s.clk := s.reach_keepsBut _ .clk (by decide)
    refine .of_exec pick ⟨?_, by rw [State.moveRef_now, State.reach_now]⟩
    rw [State.moveRef_refB, clk]
    revert apart
    cases s.clk.refB <;> cases s.prefB <;> simp
  · change execLockLossTimeout n s = _
    unfold execLockLossTimeout
    rw [lost]
    dsimp only
    unfold lockLimit State.lockLost
    split
    · rfl
    · split
      · rfl
      · split <;> rfl
  · refine ⟨congrArg Host.Outcome.next (s.when_pos (by rw [step, main, good]; rfl)), ?_, ?_, fun n fed => ?_, fun n small _ => s.rootLocked_loop small⟩
    · simp [State.rootLocked, State.brgRelease_keeps, State.onBoot, State.settleAll_keeps]
    · simp [State.rootLocked, State.brgRelease_keeps, State.onBoot, State.settleAll_keeps]
    · rw [State.rootLocked_loop s (by omega), State.refThere, decide_eq_true fed]
      rfl
end

section
/-! SUPPORT. A state in which nothing waits: what waited for an access goes on by doing nothing (R472, R476, R540). -/

namespace Sys2Proof.Machine

/-- No direct command of the BMC, no REG_ACCESS and no register access waits (R472, R474, R540). -/
structure State.Unheld (s : State) : Prop where
  sb : s.mgmt.sb = none
  sbNext : s.mgmt.sbNext = []
  mb : s.mgmt.mb = none
  held : s.ret.held = []

theorem State.idleWaits_iff (s : State) : s.idleWaits = true ↔ s.Unheld ∧ s.mgmt.switching = none ∧ s.mgmt.heldMsgs = [] ∧
    s.clk.held = [] := by
  simp only [State.idleWaits, Bool.and_eq_true, Option.isNone_iff_eq_none, List.isEmpty_iff]
  constructor
  · rintro ⟨⟨⟨⟨⟨⟨sb, sbNext⟩, mb⟩, held⟩, switching⟩, msgs⟩, clk⟩
    exact ⟨⟨sb, sbNext, mb, held⟩, switching, msgs, clk⟩
  · rintro ⟨⟨sb, sbNext, mb, held⟩, switching, msgs, clk⟩
    exact ⟨⟨⟨⟨⟨⟨sb, sbNext⟩, mb⟩, held⟩, switching⟩, msgs⟩, clk⟩

theorem State.Unheld.congr {s t : State} (h : s.Unheld) (sb : t.mgmt.sb = s.mgmt.sb) (sbNext : t.mgmt.sbNext = s.mgmt.sbNext)
    (mb : t.mgmt.mb = s.mgmt.mb) (held : t.ret.held = s.ret.held) : t.Unheld :=
  ⟨sb.trans h.sb, sbNext.trans h.sbNext, mb.trans h.mb, held.trans h.held⟩

section Going
variable {s : State} (h : s.Unheld)
include h

theorem State.goSb_unheld : s.goSb = s := by
  simp only [State.goSb, h.sbNext, runSb, h.sb]

theorem State.runMb_unheld : s.runMb = s := by
  simp only [State.runMb, h.mb]

/-- Where nothing waits only a firmware switch can go on (R476). -/
theorem State.goOn_unheld : s.goOn = if s.mgmt.switching.isSome && s.trySwitch.mgmt.switching.isNone then
    (s.trySwitch.onMgmt fun g => { g with heldMsgs := [] }).each s.trySwitch.mgmt.heldMsgs State.serve
  else s.trySwitch := by
  simp only [State.goOn, State.goSb_unheld h, State.runMb_unheld h, h.held, List.length_nil, drain]

/-- Where nothing waits at all, nothing goes on. -/
theorem State.goOn_idle (calm : s.mgmt.switching = none) : s.goOn = s := by
  rw [State.goOn_unheld h, State.trySwitch, calm]
  rfl

end Going

end Sys2Proof.Machine
end

section
/-! SUPPORT. Firmware updates: the operations of FWU.CMD and a switch of the cores' roles (R475-R479). -/

namespace Sys2Proof.Machine

/-! ### FWU.CMD -/

theorem State.fwuCmd_op (s : State) (m : Master) : ∀ op : Fin 8, s.fwuCmd m (BitVec.ofNat 32 op.val) = s.fwuOp m op.val := by
  intro op
  fin_cases op <;> rfl

theorem State.fwuCmd_raise (s : State) (m : Master) : s.fwuCmd m 8 = s.raiseSvnOp m := rfl

section Operations
variable {s : State} (m : Master) (steady : s.mgmt.switching = none)
include steady

theorem State.fwuOp_verify (staged : s.mgmt.fwu = .staged) : s.fwuCmd m 1 = s.fwuVerify := by
  rw [show s.fwuCmd m 1 = s.fwuOp m 1 from s.fwuCmd_op m 1]
  simp [State.fwuOp, steady, staged]

theorem State.fwuOp_load (verified : s.mgmt.fwu = .verified) : s.fwuCmd m 2 = s.fwuLoad := by
  rw [show s.fwuCmd m 2 = s.fwuOp m 2 from s.fwuCmd_op m 2]
  simp [State.fwuOp, steady, verified]

theorem State.fwuOp_cancel (loaded : s.mgmt.fwu = .loaded) : s.fwuCmd m 7 =
    ((s.onMcore s.standbyCore (fun k => { k with halted := true })).onMgmt
      (fun g => { g with fwu := .idle, ready := false })).fwuResult 0 := by
  rw [show s.fwuCmd m 7 = s.fwuOp m 7 from s.fwuCmd_op m 7]
  simp [State.fwuOp, steady, loaded]

theorem State.fwuOp_rollback (trial : s.mgmt.fwu = .trial) : s.fwuCmd m 6 = (s.fwuResult 0).startSwitch true := by
  rw [show s.fwuCmd m 6 = s.fwuOp m 6 from s.fwuCmd_op m 6]
  simp [State.fwuOp, steady, trial]

omit m in
theorem State.fwuOp_ready (loaded : s.mgmt.fwu = .loaded) : s.fwuCmd (.core (Fin.ofNat 2 s.standbyCore)) 3 =
    (s.onMgmt (fun g => { g with ready := true })).fwuResult 0 := by
  rw [show s.fwuCmd (.core (Fin.ofNat 2 s.standbyCore)) 3 = s.fwuOp (.core (Fin.ofNat 2 s.standbyCore)) 3 from s.fwuCmd_op _ 3]
  simp [State.fwuOp, steady, loaded]

omit m in
theorem State.fwuOp_switch (loaded : s.mgmt.fwu = .loaded) (ready : s.mgmt.ready = true) (free : s.resetBusy = false) :
    s.fwuCmd (.core (Fin.ofNat 2 s.activeCore)) 4 = (s.fwuResult 0).startSwitch false := by
  rw [show s.fwuCmd (.core (Fin.ofNat 2 s.activeCore)) 4 = s.fwuOp (.core (Fin.ofNat 2 s.activeCore)) 4 from s.fwuCmd_op _ 4]
  simp [State.fwuOp, steady, loaded, ready, free]

omit m in
theorem State.fwuOp_confirm (trial : s.mgmt.fwu = .trial) :
    s.fwuCmd (.core (Fin.ofNat 2 s.activeCore)) 5 = s.fwuConfirm (.core (Fin.ofNat 2 s.activeCore)) := by
  rw [show s.fwuCmd (.core (Fin.ofNat 2 s.activeCore)) 5 = s.fwuOp (.core (Fin.ofNat 2 s.activeCore)) 5 from s.fwuCmd_op _ 5]
  simp [State.fwuOp, steady, trial]

end Operations

/-- The state of an update in which an operation of FWU.CMD has a row (R485). -/
def fwuFrom (op : Nat) : FwuState :=
  if op = 1 then .staged else if op = 2 then .verified else if op = 3 ∨ op = 4 ∨ op = 7 then .loaded else .trial

/-- An operation in another state gives RESULT 2 (R485). -/
theorem State.fwuOp_refused {s : State} (m : Master) : ∀ op : Fin 8, op ≠ 0 → s.mgmt.fwu ≠ fwuFrom op.val →
    s.fwuCmd m (BitVec.ofNat 32 op.val) = s.fwuResult 2 := by
  intro op some_op other
  rw [State.fwuCmd_op]
  fin_cases op
  · exact absurd rfl some_op
  all_goals
    simp only [fwuFrom] at other
    simp at other
    simp [State.fwuOp, other]

/-! ### Cores and their roles -/

theorem State.standbyCore_ne (s : State) : s.standbyCore ≠ s.activeCore := by
  unfold State.standbyCore State.activeCore
  split <;> decide

theorem State.onMcore_ne (s : State) {a b : Nat} (f : MCore → MCore) (apart : b ≠ a) (small : a < 2 ∧ b < 2) :
    (s.onMcore a f).mcore b = s.mcore b := by
  obtain ⟨a2, b2⟩ := small
  rcases (by omega : a = 0 ∧ b = 1 ∨ a = 1 ∧ b = 0) with ⟨rfl, rfl⟩ | ⟨rfl, rfl⟩ <;> rfl

theorem State.mcore_congr {s t : State} (h : t.core = s.core) (c : Nat) : t.mcore c = s.mcore c := by
  rw [State.mcore, h, State.mcore]

/-- The roles have moved: the incoming core is active and runs at its entry, and the switch has ended (R475, R476). -/
theorem State.moveRoles_back_mgmt (s : State) : (s.moveRoles true).mgmt = { s.mgmt with
    switching := none, ready := false, standby := some (s.boot.imageB, s.boot.svn), fwu := .idle
    trialEnd := s.now + sec (s.cfg dillPage 0x268 0 8) } := by
  have word : ∀ c f g, ((s.onMcore s.activeCore f).onMcore c g).cfg dillPage 0x268 0 8 = s.cfg dillPage 0x268 0 8 :=
    fun c f g => State.cfg_congr (by simp [State.onMcore_keeps]) (by simp [State.onMcore_keeps]) _ _ _ _
  unfold State.moveRoles
  simp only [State.when_true, State.raiseAt_keeps, State.emit_keeps, State.onMgmt_mgmt, State.onMcore_keeps, State.onBoot,
    State.withBoot_mgmt, State.withBoot_now]
  rw [show ∀ t : State, ∀ x, (t.withBoot x).cfg dillPage 0x268 0 8 = t.cfg dillPage 0x268 0 8 from fun _ _ => rfl, word]
  rfl

theorem State.moveRoles_back_core (s : State) : (s.moveRoles true).mcore s.standbyCore = { s.mcore s.standbyCore with
    active := true, halted := false, entry := s.cfg dillPage 0x270 0 32 } := by
  have core : (s.moveRoles true).core = ((s.onMcore s.activeCore (fun k => { k with active := false, halted := true })).onMcore
      s.standbyCore (fun k => { k with active := true, halted := false, entry := s.cfg dillPage 0x270 0 32 })).core := by
    unfold State.moveRoles
    simp only [State.when_true, State.raiseAt_keeps, State.emit_keeps, State.onMgmt_keeps, State.onBoot, State.withBoot_core,
      if_true]
  have small : s.activeCore < 2 ∧ s.standbyCore < 2 := by
    unfold State.standbyCore State.activeCore
    split <;> decide
  rw [State.mcore_congr core, State.onMcore_same, State.onMcore_ne s _ s.standbyCore_ne small]

/-- A roll-back that starts where nothing waits and the outgoing core is done ends at once (R475, R476). -/
theorem State.startSwitch_goOn {s : State} (h : s.Unheld) (quiet : s.mgmt.heldMsgs = [])
    (done : s.coreDone (Fin.ofNat 2 s.activeCore) = true) :
    (s.startSwitch true).goOn = ((s.startSwitch true).moveRoles true).onMgmt fun g => { g with heldMsgs := [] } := by
  have unheld : (s.startSwitch true).Unheld := h.congr rfl rfl rfl rfl
  have moves : (s.startSwitch true).trySwitch = (s.startSwitch true).moveRoles true := if_pos done
  have mgmt := (s.startSwitch true).moveRoles_back_mgmt
  rw [State.goOn_unheld unheld, moves, mgmt]
  simp only [State.startSwitch, State.onMgmt_mgmt, quiet]
  rfl

theorem exec_trialTimeout {s : State} (up : s.boot.aux = true) (trial : s.mgmt.fwu = .trial) (steady : s.mgmt.switching = none) :
    exec .trialTimeout s = .next ((s.reach s.mgmt.trialEnd).startSwitch true).goOn :=
  congrArg Host.Outcome.next (s.when_pos (by rw [up, trial, steady]; rfl))

/-! ### The commit of a trial -/

/-- With an empty queue and no uncorrectable word, a word keeps the value that it has. -/
theorem State.futureWord_settled {s : State} (queue : s.ret.queue = []) (ue : s.ret.ue = []) (k : Nat) :
    s.futureWord k = s.retWord k := by
  simp [State.futureWord, State.retWord, queue, ue]

/-- A write of a settled retained store ends at once where the word has its value, and is queued where it has not (R458, R462). -/
theorem State.retWrite_settled {s : State} (queue : s.ret.queue = []) (ue : s.ret.ue = []) (k : Nat) (v : Word)
    (who : Option Master) : (s.retWrite k v who).ret.queue =
      if s.retWord k = v then [] else [{ key := k, val := v, who := who, at_ := s.now }] := by
  unfold State.retWrite
  simp only [State.futureWord_settled queue ue, queue, ue]
  split
  next same => rw [if_pos (by simpa using same), queue]
  next other => rw [if_neg (by simpa using other)]; rfl

end Sys2Proof.Machine
end

section
/-! PROOF. Firmware updates. -/

open Sys2Proof Sys2Proof.Machine

/-- Settles O40: each operation has its row in the state that R475 gives it, the others give RESULT 2, and a trial that runs out goes
back where nothing waits. -/
theorem firmwareUpdate : Obligations.FirmwareUpdate := by
  refine ⟨fun s m h => ?_, fun s m steady staged => ?_, fun s m i steady verified image => ?_, fun s steady loaded => ⟨?_, ?_⟩,
    fun s m steady loaded => ?_, fun s steady trial queue ue => ?_, fun s m steady trial => ?_, fun s m idle committed => ?_,
    fun s m other => ?_, fun s m => ?_, fun s up trial calm done => ?_⟩
  · have after : ∀ cmd : Word, s.writeFwu m cmd = (((s.written m fwuOff cmd).fwuCmd m cmd).finish m).goOn := fun cmd => by
      rw [State.writeFwu, State.gate_accepts s m fwuOff cmd _ h]
    exact ⟨congrArg Host.Outcome.next (after 1), congrArg Host.Outcome.next (after 2), congrArg Host.Outcome.next (after 3),
      congrArg Host.Outcome.next (after 4), congrArg Host.Outcome.next (after 5), congrArg Host.Outcome.next (after 6),
      congrArg Host.Outcome.next (after 7), congrArg Host.Outcome.next (after 8)⟩
  · rw [State.fwuOp_verify m steady staged, State.fwuVerify]
    split <;> rfl
  · rw [State.fwuOp_load m steady verified, State.fwuLoad, image]
    refine ⟨rfl, rfl, ?_⟩
    simp only [State.fwuResult, State.onMgmt_keeps, State.onMcore]
    split <;> rfl
  · rw [State.fwuOp_ready steady loaded]
    rfl
  · intro ready free
    rw [State.fwuOp_switch steady loaded ready free]
    rfl
  · rw [State.fwuOp_cancel m steady loaded]
    refine ⟨rfl, rfl, ?_⟩
    exact congrArg MCore.halted (s.onMcore_same s.standbyCore fun k => { k with halted := true })
  · rw [State.fwuOp_confirm steady trial, State.fwuConfirm, State.futureWord_settled queue ue]
    constructor
    · rw [(State.retWrite_keeps _ _ _ _).2.2.2.2.2.2.2.2.2.2.2.2.2.2.2.2.2.2.2.2.2]
      rfl
    · exact State.retWrite_settled (s := (s.onMgmt fun g => { g with fwu := .idle, committing := true }).fwuResult 0) queue ue
        0xA06 _ _
  · rw [State.fwuOp_rollback m steady trial]
    exact ⟨rfl, rfl⟩
  · rw [State.fwuCmd_raise, State.raiseSvnOp, idle, committed]
    rfl
  · rw [State.fwuCmd_raise, State.raiseSvnOp, if_neg]
    rcases other with other | other <;> simp [other]
  · refine ⟨fun h => State.fwuOp_refused m 1 (by decide) h, fun h => State.fwuOp_refused m 2 (by decide) h,
      fun h => ⟨State.fwuOp_refused m 3 (by decide) h, State.fwuOp_refused m 4 (by decide) h,
        State.fwuOp_refused m 7 (by decide) h⟩,
      fun h => ⟨State.fwuOp_refused m 5 (by decide) h, State.fwuOp_refused m 6 (by decide) h⟩⟩
  · obtain ⟨unheld, steady, quiet, -⟩ := s.idleWaits_iff.1 calm
    have kept := s.reach_keepsBut s.mgmt.trialEnd
    have now := s.reach_now s.mgmt.trialEnd
    refine .of_exec (exec_trialTimeout up trial steady) ?_
    have mgmt : (s.reach s.mgmt.trialEnd).mgmt = s.mgmt := kept .mgmt (by decide)
    have ret : (s.reach s.mgmt.trialEnd).ret = s.ret := kept .ret (by decide)
    have core : (s.reach s.mgmt.trialEnd).core = s.core := kept .core (by decide)
    have clk : (s.reach s.mgmt.trialEnd).clk = s.clk := kept .clk (by decide)
    have brg : (s.reach s.mgmt.trialEnd).brg = s.brg := kept .brg (by decide)
    have regs : (s.reach s.mgmt.trialEnd).regs = s.regs := kept .regs (by decide)
    generalize s.reach s.mgmt.trialEnd = u at now mgmt ret core clk brg regs
    have standby : u.standbyCore = s.standbyCore := by rw [State.standbyCore, core, State.standbyCore]
    have active : u.activeCore = s.activeCore := by rw [State.activeCore, core, State.activeCore]
    have ended : u.coreDone (Fin.ofNat 2 u.activeCore) = true := by
      rw [active, ← done]
      simp only [State.coreDone, State.underWay, State.inAccess, State.waiting, State.cleaning, ret, core, clk, brg]
    rw [State.startSwitch_goOn (unheld.congr (by rw [mgmt]) (by rw [mgmt]) (by rw [mgmt]) (by rw [ret])) (by rw [mgmt, quiet])
      ended]
    have roles := (u.startSwitch true).moveRoles_back_core
    have moved := (u.startSwitch true).moveRoles_back_mgmt
    have same : ((u.startSwitch true).moveRoles true).now = u.now := (State.moveRoles_keeps (u.startSwitch true) true).1
    have entry : u.cfg dillPage 0x270 0 32 = s.cfg dillPage 0x270 0 32 := State.cfg_congr regs ret _ _ _ _
    rw [show (u.startSwitch true).standbyCore = s.standbyCore from standby] at roles
    generalize (u.startSwitch true).moveRoles true = v at roles moved same
    exact ⟨congrArg Management.fwu moved, congrArg Management.switching moved, same.trans now, congrArg MCore.active roles,
      congrArg MCore.halted roles, (congrArg MCore.entry roles).trans entry⟩
end

section
/-! SUPPORT. The BMC port, image loads and MCTP messages (R470-R479). -/

namespace Sys2Proof.Machine

/-! ### Loads of an image -/

theorem exec_imgBegin {s : State} (up : s.boot.aux = true) (len : Nat) : exec (.imgBegin len) s =
    if s.mgmt.transfer || s.mgmt.img.isSome || (!s.bootFailed && s.mgmt.fwu != .idle) then .next (s.emit (.sbRsp 0x10 1 []))
    else if len < 516 ∨ 1573376 < len ∨ len % 4 ≠ 0 then .next (s.emit (.sbRsp 0x10 4 []))
    else .next ((s.onMgmt (fun g => { g with img := some (len, 0) })).emit (.sbRsp 0x10 0 [])) := by
  change execImgBegin len s = _
  unfold execImgBegin
  rw [up]
  rfl

theorem exec_imgData {s : State} {len got : Nat} (up : s.boot.aux = true) (img : s.mgmt.img = some (len, got)) (off : Nat)
    (words : List Word) : exec (.imgData off words) s =
      if words.length = 0 ∨ 15 < words.length ∨ off % 4 ≠ 0 ∨ len < off + 4 * words.length then
        .next (s.emit (.sbRsp 0x11 4 []))
      else .next ((s.onMgmt (fun g => { g with img := some (len, max got (off + 4 * words.length)) })).emit
        (.sbRsp 0x11 0 [])) := by
  change execImgData off words s = _
  unfold execImgData
  rw [up, img]
  rfl

theorem exec_imgData_none {s : State} (up : s.boot.aux = true) (img : s.mgmt.img = none) (off : Nat) (words : List Word) :
    exec (.imgData off words) s = .next (s.emit (.sbRsp 0x11 1 [])) := by
  change execImgData off words s = _
  unfold execImgData
  rw [up, img]
  rfl

theorem exec_imgEnd_none {s : State} (up : s.boot.aux = true) (none_begun : s.mgmt.img = none) (img : FwImage) :
    exec (.imgEnd img) s = .next (s.emit (.sbRsp 0x12 1 [])) := by
  change execImgEnd img s = _
  unfold execImgEnd
  rw [up, none_begun]
  rfl

/-- The load of an image has ended. -/
def State.loadEnded (s : State) : State := s.onMgmt fun g => { g with img := none }

theorem exec_imgEnd {s : State} {len got : Nat} (up : s.boot.aux = true) (begun : s.mgmt.img = some (len, got))
    (img : FwImage) : exec (.imgEnd img) s =
      if got ≠ len ∨ len ≠ 512 + img.body.length then .next (s.loadEnded.emit (.sbRsp 0x12 4 []))
      else if !s.verifies' img then .next (s.loadEnded.emit (.sbRsp 0x12 6 []))
      else if s.bootFailed then .next ((((s.loadEnded.startCore0 false img).onBoot (fun t => { t with
        st := 1, step := 3 })).emit (.sbRsp 0x12 0 [])).bootStart)
      else .next ((s.loadEnded.staged_ img).emit (.sbRsp 0x12 0 [])) := by
  change execImgEnd img s = _
  unfold execImgEnd
  rw [up, begun]
  rfl

/-- An image is staged in the slot that the running one did not boot from (R475). -/
theorem State.staged_slot (s : State) (i : FwImage) : (s.staged_ i).slotImage (!s.boot.imageB) = some i := by
  unfold State.staged_ State.slotImage
  cases s.boot.imageB <;> rfl

/-! ### MCTP messages -/

theorem exec_mctpMessage_served {s : State} (up : s.boot.aux = true) (serves : s.coreServes = true)
    (steady : s.mgmt.switching = none) (msg : MctpMsg) : exec (.mctpMessage msg) s = .next (s.mctpServed msg) := by
  have direct : s.toCore (.mctpMessage msg) = s.mctpServed msg := if_neg (by simp [steady])
  rw [← direct]
  change execMctpMessage msg s = _
  unfold execMctpMessage
  rw [up, serves]
  rfl

theorem exec_mctpMessage_alone {s : State} (up : s.boot.aux = true) (silent : s.coreServes = false) (msg : MctpMsg) :
    exec (.mctpMessage msg) s = .next (s.mctpAlone msg) := by
  change execMctpMessage msg s = _
  unfold execMctpMessage
  rw [up, silent]
  rfl

end Sys2Proof.Machine
end

section
/-! PROOF. The sideband port, MCTP and the TAP. -/

open Sys2Proof Sys2Proof.Machine

/-- Settles O43: each command of the port, of an image load, of MCTP and of the TAP has the row of its state. -/
theorem sidebandMctpAndTap : Obligations.SidebandMctpAndTap := by
  refine ⟨fun s up => congrArg Host.Outcome.next (s.when_pos up),
    fun s up smbus => congrArg Host.Outcome.next (s.when_pos (by rw [up, smbus]; rfl)),
    fun s up i3c => congrArg Host.Outcome.next (s.when_pos (by rw [up, i3c]; rfl)),
    fun s len up still none_begun free => ⟨fun low high whole => ?_, fun bad => ?_⟩,
    fun s off len got words up begun => ⟨fun some_words few whole within => ?_, fun bad => ?_⟩,
    fun s off words img up none_begun => ⟨exec_imgData_none up none_begun off words, exec_imgEnd_none up none_begun img⟩,
    fun s len got img up begun => ⟨fun bad => ?_, fun all size bad => ?_, fun all size good up' => ?_,
      fun all size good failed => ?_⟩,
    fun s msg up serves steady => exec_mctpMessage_served up serves steady msg,
    fun s up => ⟨fun either => ?_, fun silent op ext d mask gen => exec_mctpMessage_alone up silent _⟩,
    fun s => ⟨rfl, rfl, rfl⟩, fun s op either => ?_⟩
  · have idle : (s.mgmt.transfer || s.mgmt.img.isSome || (!s.bootFailed && s.mgmt.fwu != .idle)) = false := by
      rcases free with failed | idle
      · simp [still, none_begun, failed]
      · simp [still, none_begun, idle]
    rw [exec_imgBegin up, idle, if_neg Bool.false_ne_true, if_neg (by omega)]
  · have idle : (s.mgmt.transfer || s.mgmt.img.isSome || (!s.bootFailed && s.mgmt.fwu != .idle)) = false := by
      rcases free with failed | idle
      · simp [still, none_begun, failed]
      · simp [still, none_begun, idle]
    rw [exec_imgBegin up, idle, if_neg Bool.false_ne_true, if_pos bad]
  · exact .of_exec ((exec_imgData up begun off words).trans (if_neg (by omega))) ⟨rfl, rfl⟩
  · rw [exec_imgData up begun, if_pos bad]
  · exact .of_exec ((exec_imgEnd up begun img).trans (if_pos bad)) ⟨rfl, rfl⟩
  · refine .of_exec (((exec_imgEnd up begun img).trans (if_neg (by omega))).trans (if_pos ?_)) ⟨rfl, rfl, rfl⟩
    rw [bad]
    rfl
  · refine .of_exec ((((exec_imgEnd up begun img).trans (if_neg (by omega))).trans (if_neg ?_)).trans (if_neg ?_))
      ⟨rfl, rfl, rfl, s.loadEnded.staged_slot img⟩
    · rw [good]
      decide
    · rw [up']
      decide
  · rw [exec_imgEnd up begun img, if_neg (by omega), if_neg (by rw [good]; decide), if_pos failed]
    rfl
  · cases serves : s.coreServes with
    | true => exact exec_mctpMessage_served up serves (either.resolve_left (by rw [serves]; decide)) .getMessageTypeSupport
    | false => exact exec_mctpMessage_alone up serves .getMessageTypeSupport
  · rcases either with rfl | rfl <;> rfl
end

section
/-! SUPPORT. A core's memory map, its caches and its write buffer (R447-R451). -/

namespace Sys2Proof.Machine

/-! ### Regions -/

theorem regionOf_cacheable {a : Nat} (h : a < 0x10000 ∨ (0x10000000 ≤ a ∧ a < 0x10300000)) :
    ∃ r, regionOf a = some r ∧ r.cacheable = true := by
  unfold regionOf
  rcases h with low | ⟨low, high⟩
  · exact ⟨.rom, if_pos low, rfl⟩
  · exact ⟨.image, by rw [if_neg (by omega), if_pos ⟨low, high⟩], rfl⟩

/-- Above the images no region may be cached, nor fetched from (R447, R448). -/
theorem regionOf_uncached {a : Nat} {r : CoreRegion} (high : 0x10300000 ≤ a) (here : regionOf a = some r) :
    r.cacheable = false := by
  unfold regionOf at here
  rw [if_neg (by omega), if_neg (by omega)] at here
  cases r with
  | rom => exfalso; revert here; (repeat' split) <;> simp
  | image => exfalso; revert here; (repeat' split) <;> simp
  | _ => rfl

/-- A region that a load reads past the caches (R447). -/
theorem regionOf_direct {a : Nat} (h : (0x10300000 ≤ a ∧ a < 0x10800000) ∨ (0x20000000 ≤ a ∧ a < 0x20040000)) :
    ∃ r, regionOf a = some r ∧ r.cacheable = false ∧ r ≠ .window := by
  unfold regionOf
  rw [if_neg (by omega), if_neg (by omega)]
  by_cases shared : a < 0x10380000
  · exact ⟨.shared, by rw [if_pos (by omega)], rfl, by decide⟩
  by_cases discard : a < 0x10400000
  · exact ⟨.discard, by rw [if_neg (by omega), if_pos (by omega)], rfl, by decide⟩
  by_cases log : a < 0x10800000
  · exact ⟨.log, by rw [if_neg (by omega), if_neg (by omega), if_pos (by omega)], rfl, by decide⟩
  · exact ⟨.retained, by rw [if_neg (by omega), if_neg (by omega), if_neg (by omega), if_pos (by omega)], rfl, by decide⟩

theorem regionOf_retained {a : Nat} (low : 0x20000000 ≤ a) (high : a < 0x20040000) : regionOf a = some .retained := by
  unfold regionOf
  rw [if_neg (by omega), if_neg (by omega), if_neg (by omega), if_neg (by omega), if_neg (by omega), if_pos ⟨low, high⟩]

/-! ### Loads -/

section Loads
variable {s : State} {c : Fin 2} {a : BitVec 32} (runs : s.coreRuns c.val = true)
include runs

theorem exec_coreLoad (f : Bool) : exec (.coreLoad c a f) s = match regionOf a.toNat with
    | none => .next (s.fault_ c.val)
    | some r =>
      if r.cacheable then .next (s.cachedLoad c.val (a.toNat / 8 * 8) f)
      else if f then .next (s.fault_ c.val)
      else if r = .window then
        if a.toNat % 4 ≠ 0 then .next (s.fault_ c.val)
        else .next (((drainAll 8 c s).access { m := .core c, off := a.toNat - 0x40000000, wr := none }).goOn)
      else
        .next (s.emit (.loadData c.val (BitVec.ofNat 64 (ofBytes
          (overlay (s.mcore c.val).wbuf (a.toNat / 8 * 8) (s.memBytes (a.toNat / 8 * 8) 8)))))) := by
  change execCoreLoad c a f s = _
  unfold execCoreLoad
  rw [runs]
  rfl

theorem exec_coreLoad_cached (f : Bool) (near : a.toNat < 0x10000 ∨ (0x10000000 ≤ a.toNat ∧ a.toNat < 0x10300000)) :
    exec (.coreLoad c a f) s = .next (s.cachedLoad c.val (a.toNat / 8 * 8) f) := by
  obtain ⟨r, here, cacheable⟩ := regionOf_cacheable near
  rw [exec_coreLoad runs, here]
  exact if_pos cacheable

theorem exec_coreLoad_fault (f : Bool) (out : regionOf a.toNat = none ∨ (f = true ∧ 0x10300000 ≤ a.toNat) ∨
    (f = false ∧ regionOf a.toNat = some .window ∧ a.toNat % 4 ≠ 0)) :
    exec (.coreLoad c a f) s = .next (s.fault_ c.val) := by
  rw [exec_coreLoad runs]
  rcases out with here | ⟨rfl, high⟩ | ⟨rfl, here, odd⟩
  · rw [here]
  · cases here : regionOf a.toNat with
    | none => rfl
    | some r =>
      dsimp only
      rw [regionOf_uncached high here]
      rfl
  · rw [here]
    exact if_pos odd

theorem exec_coreLoad_direct (far : (0x10300000 ≤ a.toNat ∧ a.toNat < 0x10800000) ∨
    (0x20000000 ≤ a.toNat ∧ a.toNat < 0x20040000)) :
    exec (.coreLoad c a false) s = .next (s.emit (.loadData c.val (BitVec.ofNat 64 (ofBytes
      (overlay (s.mcore c.val).wbuf (a.toNat / 8 * 8) (s.memBytes (a.toNat / 8 * 8) 8)))))) := by
  obtain ⟨r, here, uncached, inside⟩ := regionOf_direct far
  rw [exec_coreLoad runs, here]
  dsimp only
  rw [uncached, if_neg Bool.false_ne_true, if_neg Bool.false_ne_true, if_neg inside]

theorem exec_coreLoad_window (here : regionOf a.toNat = some .window) (even : a.toNat % 4 = 0) :
    exec (.coreLoad c a false) s =
      .next (((drainAll 8 c s).access { m := .core c, off := a.toNat - 0x40000000, wr := none }).goOn) := by
  rw [exec_coreLoad runs, here]
  exact if_neg (not_not_intro even)

end Loads

/-! ### Lines of a cache -/

/-- A fold over a list that is not empty gives a value, where each of its steps does. -/
theorem foldl_ne_none {α β : Type} {f : Option α → β → Option α} (gives : ∀ a x, f a x ≠ none) (a : Option α) (x : β)
    (xs : List β) : (x :: xs).foldl f a ≠ none := by
  induction xs generalizing a x with
  | nil => exact gives a x
  | cons y ys ih => exact ih (f a x) y

/-- A line that is placed is found, with its data (R448). -/
theorem Cache.place_find (k : Cache) (line : Nat) (d : List Byte) (use : Nat) : (k.place line d use).find line = some d := by
  have first : ∀ (l : CacheLine) (ls vs : List CacheLine), l.line = line → l.data = d →
      ({ k with lines := l :: ls, victim := vs } : Cache).find line = some d := by
    intro l ls vs here data
    simp [Cache.find, here, data]
  unfold Cache.place
  dsimp only
  split
  next => exact first _ _ _ rfl rfl
  next full =>
    split
    next gone =>
      exfalso
      cases here : k.lines.filter (fun l => l.set == cacheSet line) with
      | nil => simp [here, upTo, List.range_succ] at full
      | cons l ls =>
        rw [here] at gone
        refine foldl_ne_none (fun a x => ?_) none l ls gone
        split
        · simp
        · split <;> simp
    next => exact first _ _ _ rfl rfl

/-- A line that is used is still found, with its data (R448). -/
theorem Cache.touch_find {k : Cache} {line : Nat} {d : List Byte} (use : Nat) (here : k.find line = some d) :
    (k.touch line use).find line = some d := by
  have same : ∀ ls : List CacheLine,
      ((ls.map (fun l => if l.line = line then { l with use := use } else l)).find? (fun l => l.line == line)).map (·.data) =
        (ls.find? (fun l => l.line == line)).map (·.data) := by
    intro ls
    induction ls with
    | nil => rfl
    | cons l ls ih =>
      rw [List.map_cons, List.find?_cons, List.find?_cons]
      by_cases it : l.line = line
      · simp [it]
      · rw [if_neg it, beq_false_of_ne it]
        exact ih
  unfold Cache.touch
  split
  next held =>
    unfold Cache.find at here ⊢
    rw [Option.map_or] at here ⊢
    rw [same]
    exact here
  next missed =>
    have none_here : k.lines.find? (fun l => l.line == line) = none := by
      simpa [List.find?_eq_none] using missed
    unfold Cache.find at here
    rw [none_here, Option.none_or] at here
    split
    next v found =>
      rw [found] at here
      obtain rfl : v.data = d := by simpa using here
      exact k.place_find line v.data use
    next gone => simp [gone] at here

section Cached
variable {s : State} {c : Fin 2} {a : BitVec 32} (runs : s.coreRuns c.val = true) (f : Bool)
  (near : a.toNat < 0x10000 ∨ (0x10000000 ≤ a.toNat ∧ a.toNat < 0x10300000))
include runs near

/-- The doubleword of a load that a cache answers. -/
theorem exec_coreLoad_held {d : List Byte}
    (on : ((s.mcore c.val).cache (if f then .instr else .data)).en = true)
    (defined : ((s.mcore c.val).cache (if f then .instr else .data)).undefined (cacheSet (a.toNat / 8 * 8 / 64)) = false)
    (here : ((s.mcore c.val).cache (if f then .instr else .data)).find (a.toNat / 8 * 8 / 64) = some d) :
    exec (.coreLoad c a f) s = .next ((s.onMcore c.val (fun m => { m.onCache (fun k => k.touch (a.toNat / 8 * 8 / 64) m.use)
      (if f then .instr else .data) with use := m.use + 1 })).emit
        (.loadData c.val (BitVec.ofNat 64 (ofBytes ((d.drop (a.toNat / 8 * 8 % 64)).take 8))))) := by
  rw [exec_coreLoad_cached runs f near]
  unfold State.cachedLoad
  dsimp only
  rw [on, defined, here]
  rfl

/-- The doubleword of a load that misses. -/
theorem exec_coreLoad_missed
    (on : ((s.mcore c.val).cache (if f then .instr else .data)).en = true)
    (defined : ((s.mcore c.val).cache (if f then .instr else .data)).undefined (cacheSet (a.toNat / 8 * 8 / 64)) = false)
    (gone : ((s.mcore c.val).cache (if f then .instr else .data)).find (a.toNat / 8 * 8 / 64) = none) :
    exec (.coreLoad c a f) s = .next ((s.onMcore c.val (fun m => { m.onCache (fun k => k.place (a.toNat / 8 * 8 / 64)
      (overlay (if f then [] else (s.mcore c.val).wbuf) (64 * (a.toNat / 8 * 8 / 64))
        (s.memBytes (64 * (a.toNat / 8 * 8 / 64)) 64)) m.use)
      (if f then .instr else .data) with use := m.use + 1 })).emit
        (.loadData c.val (BitVec.ofNat 64 (ofBytes (((overlay (if f then [] else (s.mcore c.val).wbuf)
          (64 * (a.toNat / 8 * 8 / 64)) (s.memBytes (64 * (a.toNat / 8 * 8 / 64)) 64)).drop
            (a.toNat / 8 * 8 % 64)).take 8))))) := by
  rw [exec_coreLoad_cached runs f near]
  unfold State.cachedLoad
  dsimp only
  rw [on, defined, gone]
  rfl

end Cached

/-! ### Stores -/

section Stores
variable {s : State} {c : Fin 2} {a : BitVec 32} {z : Fin 4} (d : BitVec 64) (runs : s.coreRuns c.val = true)
include runs

theorem exec_coreStore : exec (.coreStore c a z d) s =
    if storeAllowed a.toNat (2 ^ z.val) = 0 then .next (s.fault_ c.val)
    else if storeAllowed a.toNat (2 ^ z.val) = 2 then .next (s.rstoreProtected.fault_ c.val)
    else .next ((if (s.mcore c.val).wbuf.length < 8 then s else (s.drainOne c).goOn).onMcore c.val (fun m =>
      if m.wbuf.length < 8 then m.put { addr := a.toNat, data := toBytes (2 ^ z.val) d.toNat }
      else { m with stall := some { addr := a.toNat, data := toBytes (2 ^ z.val) d.toNat } })) := by
  change execCoreStore c a z d s = _
  unfold execCoreStore
  rw [runs]
  rfl

theorem exec_coreStore_fault (out : storeAllowed a.toNat (2 ^ z.val) = 0) :
    exec (.coreStore c a z d) s = .next (s.fault_ c.val) := by
  rw [exec_coreStore d runs]
  exact if_pos out

theorem exec_coreStore_protected (out : storeAllowed a.toNat (2 ^ z.val) = 2) :
    exec (.coreStore c a z d) s = .next (s.rstoreProtected.fault_ c.val) := by
  rw [exec_coreStore d runs, out]
  rfl

theorem exec_coreStore_performed (may : storeAllowed a.toNat (2 ^ z.val) = 1) : exec (.coreStore c a z d) s =
    .next ((if (s.mcore c.val).wbuf.length < 8 then s else (s.drainOne c).goOn).onMcore c.val (fun m =>
      if m.wbuf.length < 8 then m.put { addr := a.toNat, data := toBytes (2 ^ z.val) d.toNat }
      else { m with stall := some { addr := a.toNat, data := toBytes (2 ^ z.val) d.toNat } })) := by
  rw [exec_coreStore d runs, may]
  rfl

end Stores

theorem storeAllowed_refused {a n : Nat} (h : regionOf a ∈ [none, some .rom, some .discard, some .log]) :
    storeAllowed a n = 0 := by
  unfold storeAllowed
  split
  next => rfl
  next => simp only [List.mem_cons, List.not_mem_nil, or_false] at h; rcases h with h | h | h | h <;> rw [h]

theorem storeAllowed_window {a n : Nat} (here : regionOf a = some .window) (odd : ¬ (n = 4 ∧ a % 4 = 0)) :
    storeAllowed a n = 0 := by
  unfold storeAllowed
  rw [here]
  dsimp only
  rw [if_neg odd]
  exact ite_self _

theorem storeAllowed_protected {a n : Nat} (low : 0x20000000 ≤ a) (high : a < 0x20004000) (few : 0 < n ∧ n ≤ 8) :
    storeAllowed a n = 2 := by
  unfold storeAllowed
  rw [regionOf_retained low (by omega), regionOf_retained (by omega) (by omega), if_neg (fun h => h rfl)]
  exact if_pos high

/-! ### The write buffer -/

/-- Bytes that are written are read back at their own addresses, and no other byte changes (R449). -/
theorem look_putBytes (b : List Byte) (t : Table Byte) (a k : Nat) :
    look 0 (putBytes t a b) k = if a ≤ k ∧ k < a + b.length then b.getD (k - a) 0 else look 0 t k := by
  have next : ∀ (b : List Byte) x t a, putBytes t a (x :: b) = putBytes (put 0 t a x) (a + 1) b := fun _ _ _ _ => rfl
  induction b generalizing t a with
  | nil => exact (if_neg (by simp)).symm
  | cons x xs ih =>
    rw [next, ih, look_put]
    simp only [List.length_cons]
    by_cases here : k = a
    · subst here
      rw [if_neg (by omega), if_pos rfl, if_pos (by omega), Nat.sub_self]
      rfl
    · rw [if_neg here]
      by_cases inside : a + 1 ≤ k ∧ k < a + 1 + xs.length
      · rw [if_pos inside, if_pos (by omega), show k - a = k - (a + 1) + 1 by omega]
        rfl
      · rw [if_neg inside, if_neg (by omega)]

theorem State.onMcore_sram (s : State) (c : Nat) (f : MCore → MCore) : (s.onMcore c f).core.sram = s.core.sram := by
  unfold State.onMcore
  split <;> rfl

theorem State.onMcore_out (s : State) (c : Nat) (f : MCore → MCore) : (s.onMcore c f).out = s.out := by
  unfold State.onMcore
  split <;> rfl

theorem State.mcore_loadData (s : State) (n : Nat) (v : BitVec 64) (c : Nat) :
    (s.emit (.loadData n v)).mcore c = s.mcore c := rfl

/-- The write buffers of a core's writes, apart from its caches and cleans. -/
def State.Buffers (s t : State) : Prop :=
  t.core.sram = s.core.sram ∧ ∀ c : Fin 2, (t.mcore c.val).wbuf = (s.mcore c.val).wbuf ∧
    (t.mcore c.val).stall = (s.mcore c.val).stall

theorem State.Buffers.trans {s t u : State} (h : s.Buffers t) (h' : t.Buffers u) : s.Buffers u :=
  ⟨h'.1.trans h.1, fun c => ⟨(h'.2 c).1.trans (h.2 c).1, (h'.2 c).2.trans (h.2 c).2⟩⟩

theorem State.onMcore_buffers (s : State) (c : Nat) {f : MCore → MCore}
    (h : ∀ m, (f m).wbuf = m.wbuf ∧ (f m).stall = m.stall) : s.Buffers (s.onMcore c f) := by
  unfold State.onMcore
  split
  · exact ⟨rfl, fun x => by fin_cases x; exacts [h _, ⟨rfl, rfl⟩]⟩
  · exact ⟨rfl, fun x => by fin_cases x; exacts [⟨rfl, rfl⟩, h _]⟩

theorem MCore.onCache_buffers (m : MCore) (f : Cache → Cache) (k : CacheSel) :
    (m.onCache f k).wbuf = m.wbuf ∧ (m.onCache f k).stall = m.stall := by
  cases k <;> exact ⟨rfl, rfl⟩

/-- The cleans that end change no write buffer (R450). -/
theorem State.cleansEnd_buffers (s : State) (c : Nat) : s.Buffers (s.cleansEnd c) := by
  unfold State.cleansEnd
  refine foldl_holds (P := fun t => s.Buffers t) ?_ ?_
  · exact s.onMcore_buffers c fun _ => ⟨rfl, rfl⟩
  · intro t w kept
    split
    · exact kept.trans (t.onMcore_buffers c fun m => m.onCache_buffers _ _)
    · exact kept

/-- The oldest write leaves the buffer, and the store that waited takes its place (R449). -/
theorem State.popWrite_buffer (s : State) (c : Fin 2) :
    ((s.popWrite c.val).mcore c.val).wbuf = (s.mcore c.val).wbuf.drop 1 ++ (s.mcore c.val).stall.toList ∧
      ((s.popWrite c.val).mcore c.val).stall = none ∧ (s.popWrite c.val).core.sram = s.core.sram := by
  unfold State.popWrite
  rw [((State.cleansEnd_buffers _ c.val).2 c).1, ((State.cleansEnd_buffers _ c.val).2 c).2,
    (State.cleansEnd_buffers _ c.val).1, State.onMcore_same]
  rw [State.onMcore_sram]
  cases waits : (s.mcore c.val).stall with
  | none => simp
  | some w => simp [MCore.put]

end Sys2Proof.Machine
end
section
/-! PROOF. Loads, stores and the write buffer. -/
open Sys2Proof Sys2Proof.Machine

/-- Settles O50: a load, a fetch and a store are the model's own clauses once the region of the address is known; a line that is
placed or used is found again; a drained write leaves the buffer at its own bytes and lets the stalled store in. -/
theorem coreLoadsStoresAndTheWriteBuffer : Obligations.CoreLoadsStoresAndTheWriteBuffer := by
  unfold Obligations.CoreLoadsStoresAndTheWriteBuffer
  refine ⟨?_, fun s c a f runs out => exec_coreLoad_fault runs f out, ?_, ?_, ?_,
    fun s c a runs far => exec_coreLoad_direct runs far, fun s c a runs here even => exec_coreLoad_window runs here even,
    ?_, ?_, ?_, ?_⟩
  · intro s c a f z d idle
    have stands : s.coreRuns c.val = false := by
      unfold State.coreRuns
      rcases idle with off | held
      · rw [off]; rfl
      · rw [held]; simp
    constructor
    · change execCoreLoad c a f s = _
      unfold execCoreLoad
      rw [stands]
      rfl
    · change execCoreStore c a z d s = _
      unfold execCoreStore
      rw [stands]
      rfl
  · intro s c a z d runs out
    refine exec_coreStore_fault d runs ?_
    rcases out with out | ⟨here, odd⟩
    · exact storeAllowed_refused out
    · refine storeAllowed_window here ?_
      fin_cases z <;> simp_all
  · intro s c a z d runs low high
    have few : 0 < 2 ^ z.val ∧ 2 ^ z.val ≤ 8 := by fin_cases z <;> decide
    exact .of_exec (exec_coreStore_protected d runs (storeAllowed_protected low high few)) ⟨rfl, rfl, rfl⟩
  · intro s c a f runs near
    refine ⟨fun off => ?_, fun on stale => ?_, fun on defined d here => ?_, fun on defined gone => ?_⟩
    · rw [exec_coreLoad_cached runs f near]
      unfold State.cachedLoad
      dsimp only
      rw [off]
      rfl
    · rw [exec_coreLoad_cached runs f near]
      unfold State.cachedLoad
      dsimp only
      rw [on, stale]
      rfl
    · refine .of_exec (exec_coreLoad_held runs f near on defined here) ⟨congrArg (_ :: ·) (s.onMcore_out c.val _), ?_⟩
      rw [State.mcore_loadData, State.onMcore_same]
      exact (congrArg (Cache.find · _) (MCore.onCache_cache _ _ _)).trans (Cache.touch_find _ here)
    · refine .of_exec (exec_coreLoad_missed runs f near on defined gone) ⟨congrArg (_ :: ·) (s.onMcore_out c.val _), ?_⟩
      rw [State.mcore_loadData, State.onMcore_same]
      exact (congrArg (Cache.find · _) (MCore.onCache_cache _ _ _)).trans (Cache.place_find _ _ _ _)
  · intro s c a z d runs may
    have run := exec_coreStore_performed d runs may
    dsimp only
    generalize (if (s.mcore c.val).wbuf.length < 8 then s else (s.drainOne c).goOn) = u at run ⊢
    constructor
    · intro room
      refine .of_exec run ⟨?_, ?_, u.onMcore_sram c.val _, u.onMcore_other c _⟩ <;>
        rw [State.onMcore_same, if_pos room] <;> rfl
    · intro full
      refine .of_exec run ⟨?_, ?_, ?_⟩
      · rw [State.onMcore_same, if_neg (by omega)]
      · rw [State.onMcore_same, if_neg (by omega)]
      · unfold State.coreRuns
        rw [State.onMcore_same, if_neg (by omega)]
        exact Bool.and_false _
  · intro s c on
    change execWriteBufferDrain c s = _
    unfold execWriteBufferDrain
    rw [State.when_pos _ on]
  · intro s c w r b here place
    have drained : s.drainOne c = (s.withCore { s.core with sram := putBytes s.core.sram w.addr w.data }).popWrite c.val := by
      unfold State.drainOne
      rw [here]
      dsimp only
      rcases place with it | it <;> rw [it]
    obtain ⟨left, free, sram⟩ :=
      (s.withCore { s.core with sram := putBytes s.core.sram w.addr w.data }).popWrite_buffer c
    rw [drained, left, free, sram]
    refine ⟨?_, rfl, look_putBytes _ _ _ _⟩
    rw [show (s.withCore { s.core with sram := putBytes s.core.sram w.addr w.data }).mcore c.val = s.mcore c.val from rfl, here]
    rfl
  · intro s c w r here waits
    unfold State.drainOne
    rw [here]
    dsimp only
    rcases waits with ⟨it, busy⟩ | ⟨it, busy⟩ <;> rw [it] <;> exact if_pos busy
end

section
/-! SUPPORT. Fault records, the recovery counters and FC.CMD (R486-R497, R507-R509). -/

namespace Sys2Proof.Machine

/-! ### A class C fault -/

theorem classAt_one (p : Nat) : classAt p 1 = 1 := by simp [classAt]

theorem State.react_zero (s : State) (p : Nat) (inj : Bool) : s.react p 0 inj = s := rfl

/-- A class C fault has no reaction: it is filed (R489, R493). -/
theorem State.fault_classC (s : State) (site row col cause : Nat) :
    s.fault site 1 row col cause false = s.fileAt site 1 row col cause := by
  unfold State.fault
  dsimp only
  rw [classAt_one]
  exact congrArg (State.fileAt · site 1 row col cause) (s.react_zero _ _)

theorem encloses_self (u : Nat) : encloses u u = true := by simp [encloses]

theorem State.frec_setRec (s : State) (u : Nat) (r : FaultRec) : (s.setRec u r).frec u = r :=
  look_put_same _ _ _ _

theorem State.frec_congr {s t : State} (h : t.flt = s.flt) (u : Nat) : t.frec u = s.frec u := by
  simp only [State.frec, h]

theorem State.raise_flt (s : State) (e : Ev) : (s.raise e).flt = s.flt := by simp [State.raise_keeps]

/-- A class C fault that no record encloses opens one (R493). -/
theorem State.fileAt_opens {s : State} {site : Nat} (row col cause : Nat) (first : s.activeOver (unitOf (pageOfSite site)) = none) :
    s.fileAt site 1 row col cause = (s.setRec (unitOf (pageOfSite site)) {
      site := site, cls := 1, reaction := 0, active := true, seen := 1, count := 0, time := s.now, row := row, col := col,
      cause := cause, quietEnd := s.now + s.quiet 1, fails := 0, heldOut := false }).raise
        { src := 0, site := site, cls := 1, code := cause, fault := true, retained := false } := by
  unfold State.fileAt
  dsimp only
  rw [classAt_one, first]
  dsimp only
  rw [show scopeOf (pageOfSite site) (reactionOf (pageOfSite site) 1) = unitOf (pageOfSite site) from rfl, encloses_self]
  rfl

/-- A record that sees class C as well has seen no higher class. -/
theorem FaultRec.highest_seesC {r r' : FaultRec} (h : r'.seen = r.seen ||| 1) : r'.highest = r.highest := by
  simp [FaultRec.highest, h]

/-- A class C fault that a record encloses is counted in it (R493). -/
theorem State.fileAt_counts {s : State} {site v : Nat} (row col cause : Nat)
    (known : s.activeOver (unitOf (pageOfSite site)) = some v) :
    s.fileAt site 1 row col cause = s.setRec v { s.frec v with
      count := min 0xFFFF ((s.frec v).count + 1), seen := (s.frec v).seen ||| 1,
      quietEnd := s.now + s.quiet (s.frec v).highest } := by
  unfold State.fileAt
  dsimp only
  rw [classAt_one, known]
  dsimp only
  rw [show reactionOf (pageOfSite site) 1 = 0 from rfl, show decide ((s.frec v).reaction < 0) = false from rfl,
    Bool.false_and, if_neg Bool.false_ne_true, if_neg Bool.false_ne_true, FaultRec.highest_seesC (r := s.frec v) rfl,
    State.when_neg _ rfl, State.when_neg (b := v != v) _ (by simp)]
  rfl

/-! ### Recoveries that fail -/

theorem State.recoveryFailed_unit {s : State} {u : Nat} (unit : u ≠ devRec) : s.recoveryFailed u =
    (s.setRec u { s.frec u with
      fails := (s.frec u).fails + 1, quietEnd := s.now + s.quiet (s.frec u).highest,
      heldOut := decide (s.retries ≤ (s.frec u).fails + 1) }).raise
        { src := 3, site := (s.frec u).site, cls := (s.frec u).cls, code := (s.frec u).cause } :=
  if_neg unit

/-- A source that every state may raise is pending once it is raised (R502, R504). -/
theorem State.raise_aux_pend (s : State) {e : Ev} (n : Nat) (known : definedSource n = true ∧ auxSource n = true)
    (it : e.src = n) : (s.raise e).evt.pend.getLsbD n = true := by
  subst it
  exact State.raise_rises_pend (by simp [State.rises, known])

/-! ### Commands of FC.CMD -/

theorem State.fcCmd_one (s : State) (m : Master) : s.fcCmd m 1 = s.fcExitOp (s.cfg fcPage 0x98 0 24) := rfl
theorem State.fcCmd_two (s : State) (m : Master) : s.fcCmd m 2 = s.fcRecoverOp m (s.cfg fcPage 0x98 0 24) := rfl
theorem State.fcCmd_three (s : State) (m : Master) :
    s.fcCmd m 3 = s.fcInjectOp (s.cfg fcPage 0x94 3 3) (s.cfg fcPage 0x98 0 24) := rfl

/-- A command of FC.CMD is two writes, of CMDARG.SITE and of FC.CMD (R509). -/
theorem State.writeFc_accepted {s : State} {m : Master} (op cls : Nat) (site : BitVec 24)
    (arg : s.accepts m (fcPage * 4096 + 0x98) = true)
    (cmd : ((s.written m (fcPage * 4096 + 0x98) (site.zeroExtend 32)).finish m).accepts m (fcPage * 4096 + 0x94) = true) :
    s.writeFc m op cls site = (((((s.written m (fcPage * 4096 + 0x98) (site.zeroExtend 32)).finish m).written m
      (fcPage * 4096 + 0x94) (BitVec.ofNat 32 (op + 8 * cls))).fcCmd m op).finish m) := by
  unfold State.writeFc
  rw [State.gate_accepts s m _ _ id arg]
  exact State.gate_accepts _ m _ _ _ cmd

theorem State.fcExitOp_named {s : State} {site : Nat} (known : s.siteCode site = true) : s.fcExitOp site =
    if (s.frec (s.recNamed site)).active = true ∧ (s.frec (s.recNamed site)).heldOut = false then
      (s.recoverRec (s.recNamed site)).fcResult 0
    else s.withFlt { s.flt with result := 2 } := by
  unfold State.fcExitOp
  dsimp only
  rw [known]
  cases (s.frec (s.recNamed site)).active <;> cases (s.frec (s.recNamed site)).heldOut <;> rfl

theorem State.fcRecoverOp_unit {s : State} (m : Master) {site : Nat} (known : s.siteCode site = true)
    (unit : s.recNamed site ≠ devRec) : s.fcRecoverOp m site =
    if (s.frec (s.recNamed site)).active = true ∧ (s.frec (s.recNamed site)).heldOut = true then
      (s.recoverRec (s.recNamed site)).fcResult 0
    else s.withFlt { s.flt with result := 2 } := by
  unfold State.fcRecoverOp
  dsimp only
  rw [known, if_neg unit]
  cases (s.frec (s.recNamed site)).active <;> cases (s.frec (s.recNamed site)).heldOut <;> rfl

theorem State.fcRecoverOp_device {s : State} (m : Master) {site : Nat} (known : s.siteCode site = true)
    (device : s.recNamed site = devRec) (open_ : (s.frec (s.recNamed site)).active = true)
    (out : (s.frec (s.recNamed site)).heldOut = true) : s.fcRecoverOp m site = (s.rstOp m 4).fcResult 0 := by
  unfold State.fcRecoverOp
  dsimp only
  rw [known, open_, out, if_pos device]
  rfl

theorem State.fcInjectOp_named {s : State} {site : Nat} (cls : Nat) (known : s.siteCode site = true)
    (on : s.cfgBit fcPage 0x80 4 = true) : s.fcInjectOp cls site =
    if 1 ≤ cls ∧ cls ≤ 5 then (s.fault site cls 0xFFFF 0xFFFF 0xFF true).fcResult 0
    else s.withFlt { s.flt with result := 2 } := by
  unfold State.fcInjectOp
  rw [known, on, if_neg (by decide), if_neg (by decide)]
  by_cases good : 1 ≤ cls ∧ cls ≤ 5
  · rw [if_pos good, if_neg (by omega)]
  · rw [if_neg good, if_pos (by omega)]
    rfl

/-- A site that no command may name gives RESULT 3 (R509). -/
theorem State.fcCmd_badSite {s : State} (m : Master) {op : Nat} (known : 1 ≤ op ∧ op ≤ 3)
    (bad : s.siteCode (s.cfg fcPage 0x98 0 24) = false) (on : op = 3 → s.cfgBit fcPage 0x80 4 = true) :
    s.fcCmd m op = s.withFlt { s.flt with result := 3 } := by
  obtain rfl | rfl | rfl : op = 1 ∨ op = 2 ∨ op = 3 := by omega
  · rw [State.fcCmd_one]
    unfold State.fcExitOp
    rw [bad]
    rfl
  · rw [State.fcCmd_two]
    unfold State.fcRecoverOp
    rw [bad]
    rfl
  · rw [State.fcCmd_three]
    unfold State.fcInjectOp
    rw [bad, on rfl]
    rfl

/-! ### The recovery counters -/

/-- A retained write and a change of the fault collector do not meet. -/
theorem State.retWrite_withFlt (s : State) (f : Faults) (k : Nat) (v : Word) :
    (s.withFlt f).retWrite k v none = (s.retWrite k v none).withFlt f := by
  unfold State.retWrite
  dsimp only
  split
  · rename_i held
    exact (if_pos held).symm ▸ rfl
  · rename_i held
    exact (if_neg held).symm ▸ rfl

/-- One recovery counter is stored (R497). -/
def storeCounter (s : State) (k : Nat) : State := s.retWrite (0xA00 + k) (BitVec.ofNat 32 (look 0 s.flt.rcnt k)) none

theorem storeCounter_flt (s : State) (k : Nat) : (storeCounter s k).flt = s.flt := by
  simp [storeCounter, State.retWrite_keeps]

/-- The list of the changed counters plays no part in storing them. -/
theorem storeCounter_withFlt (s : State) (k : Nat) (l : List Nat) : storeCounter (s.withFlt { s.flt with rcntDirty := l }) k =
    (storeCounter s k).withFlt { (storeCounter s k).flt with rcntDirty := l } := by
  rw [storeCounter_flt]
  exact s.retWrite_withFlt _ _ _

/-- The counters may be taken off the list of the changed ones before they are stored as well as after (R497). -/
theorem State.storeRcnt_eq (s : State) :
    s.storeRcnt = s.flt.rcntDirty.foldl storeCounter (s.withFlt { s.flt with rcntDirty := [] }) := by
  suffices ∀ (l : List Nat) (t : State), (l.foldl storeCounter t).withFlt { (l.foldl storeCounter t).flt with rcntDirty := [] } =
      l.foldl storeCounter (t.withFlt { t.flt with rcntDirty := [] }) from this _ s
  intro l
  induction l with
  | nil => exact fun t => rfl
  | cons k l ih =>
    intro t
    rw [List.foldl_cons, List.foldl_cons, storeCounter_withFlt]
    exact ih (storeCounter t k)

end Sys2Proof.Machine
end
section
/-! PROOF. Faults and recoveries. -/
open Sys2Proof Sys2Proof.Machine

/-- Settles O53: a class C fault only files its record, every command of FC.CMD is two register writes and one operation on the
record that the site names, and the counters are stored in one pass. -/
theorem faultReportsAndRecovery : Obligations.FaultReportsAndRecovery := by
  unfold Obligations.FaultReportsAndRecovery
  refine ⟨?_, ?_, ?_, ?_, fun s k => ⟨?_, ?_⟩, ?_, ?_, ?_, fun s m op low high bad on => State.fcCmd_badSite m ⟨low, high⟩ bad on,
    ?_, ?_, ?_, ?_, fun s => rfl, ?_⟩
  · intro s k aux power port
    constructor
    · change execFatalLane k s = _
      unfold execFatalLane
      rw [State.when_pos _ (by simp [aux, power, port])]
    · intro held
      change execHeartbeatLoss k s = _
      unfold execHeartbeatLoss
      dsimp only
      have other : k.toNat ≠ 1 := by
        intro one
        rw [one] at port
        exact absurd port (by decide)
      rw [aux, if_neg (by decide), if_neg other, port, power, held]
      rfl
  · intro s aux
    constructor
    · intro up
      change execHeartbeatLoss 1 s = _
      unfold execHeartbeatLoss
      dsimp only
      rw [aux, if_neg (by decide), if_pos (by decide), State.when_pos _ (by simp [up])]
    · intro lost
      change execHeartbeatLoss 1 s = _
      unfold execHeartbeatLoss
      dsimp only
      rw [aux, if_neg (by decide), if_pos (by decide), State.when_neg _ (by simp [lost])]
  · intro s site cls row col cause aux power code up
    change execFaultFrame site cls row col cause s = _
    unfold execFaultFrame
    dsimp only
    have linked : (pgSlot (pageOfSite site.toNat) == 1 && s.hsc.linkLost) = false := by
      by_cases one : pgSlot (pageOfSite site.toNat) = 1
      · simp [up one]
      · simp [one]
    rw [aux, power, code, linked]
    rfl
  · intro s site row col cause
    dsimp only
    rw [State.fault_classC]
    refine ⟨fun first => ?_, fun v known => ?_⟩
    · rw [State.fileAt_opens row col cause first]
      exact ⟨(State.frec_congr (State.raise_flt _ _) _).trans (State.frec_setRec _ _ _),
        State.raise_aux_pend _ 0 (by decide) rfl⟩
    · rw [State.fileAt_counts row col cause known]
      exact ⟨State.frec_setRec _ _ _, rfl⟩
  · intro aux slot
    have run : exec (.frameCheckFail k) s = .next ((s.withFlt { s.flt with framesBad := satAdd 0xFFFF s.flt.framesBad 1 }).raiseAt
        5 (chipletPage k.toNat) 0) := by
      change execFrameCheckFail k s = _
      unfold execFrameCheckFail
      rw [State.when_pos _ (by simp [aux, slot])]
    exact .of_exec run ⟨State.raise_flt _ _, State.raise_aux_pend _ 5 (by decide) rfl⟩
  · intro slot
    change execFrameCheckFail k s = _
    unfold execFrameCheckFail
    rw [State.when_neg _ (by simp [slot])]
  · intro s p
    dsimp only
    intro aux open_ inside
    refine ⟨fun auto => ?_, fun auto => ?_, ?_⟩
    · change execQuietPeriodEnd p s = _
      unfold execQuietPeriodEnd
      dsimp only
      rw [open_, inside, auto, aux]
      rfl
    · change execQuietPeriodEnd p s = _
      unfold execQuietPeriodEnd
      dsimp only
      rw [open_, inside, auto, aux]
      rfl
    · change execRecoveryFail p s = _
      unfold execRecoveryFail
      dsimp only
      rw [State.when_pos _ (by simp [open_, inside, aux])]
  · intro s u unit
    rw [State.recoveryFailed_unit unit]
    exact ⟨State.raise_aux_pend _ 3 (by decide) rfl,
      (State.frec_congr (State.raise_flt _ _) _).trans (State.frec_setRec _ _ _)⟩
  · intro s m site cls arg
    dsimp only
    intro cmd
    exact ⟨congrArg Host.Outcome.next (State.writeFc_accepted 1 _ site arg cmd),
      congrArg Host.Outcome.next (State.writeFc_accepted 2 _ site arg cmd),
      congrArg Host.Outcome.next (State.writeFc_accepted 3 _ site arg cmd)⟩
  · intro s m
    dsimp only
    intro known
    rw [State.fcCmd_one, State.fcCmd_two, State.fcCmd_three]
    exact ⟨State.fcExitOp_named known, State.fcRecoverOp_unit m known, State.fcRecoverOp_device m known,
      State.fcInjectOp_named _ known⟩
  · intro s m off
    rw [State.fcCmd_three]
    unfold State.fcInjectOp
    rw [off]
    rfl
  · intro s m p accepted
    change execFrecClear m p s = _
    unfold execFrecClear
    rw [State.gate_accepts s m _ _ _ accepted]
    rfl
  · intro s u
    unfold State.clearRec
    refine ⟨fun open_ => State.when_neg _ (by simp [open_]), fun closed => ?_⟩
    rw [State.when_pos _ (by simp [closed])]
    exact ⟨State.frec_setRec _ _ _, rfl⟩
  · intro s u aux dirty late
    have same : u.flt = s.flt := by rw [late]; simp [State.reach_keeps]
    have run : exec .recoveryCounterStore s = .next ((u.withFlt { u.flt with rcntAt := u.now }).storeRcnt) := by
      change execRecoveryCounterStore s = _
      unfold execRecoveryCounterStore
      rw [State.when_pos _ (by simp [aux, dirty]), late]
    rw [run, State.storeRcnt_eq, ← same]
    rfl
end

section
/-! SUPPORT. Tables whose keys rise, and the form of the two memories. -/

namespace Sys2Proof.Machine

/-! ### Tables whose keys rise -/

/-- The keys of a table rise. -/
def Rises {α : Type} (t : Table α) : Prop := t.Pairwise (fun a b => a.1 < b.1)

theorem rising_iff {α : Type} (k : Nat) (t : Table α) : rising k t = true ↔ (∀ e ∈ t, k < e.1) ∧ Rises t := by
  induction t generalizing k with
  | nil => simp [rising, Rises]
  | cons e t ih =>
    simp only [rising, Bool.and_eq_true, decide_eq_true_eq, ih, Rises, List.pairwise_cons, List.forall_mem_cons]
    exact ⟨fun ⟨low, above, rest⟩ => ⟨⟨low, fun x mem => low.trans (above x mem)⟩, above, rest⟩,
      fun ⟨⟨low, _⟩, above, rest⟩ => ⟨low, above, rest⟩⟩

theorem Rises.filter {α : Type} {t : Table α} (p : Nat × α → Bool) (h : Rises t) : Rises (t.filter p) := List.Pairwise.filter p h

theorem wipe_eq_filter {α : Type} (t : Table α) (k : Nat) : wipe t k = t.filter (fun e => e.1 != k) := by
  induction t with
  | nil => rfl
  | cons e t ih => by_cases h : e.1 = k <;> simp [wipe, h, ih]

theorem Rises.wipe {α : Type} {t : Table α} (k : Nat) (h : Rises t) : Rises (wipe t k) := by
  rw [wipe_eq_filter]
  exact h.filter _

theorem Rises.enter {α : Type} {t : Table α} (k : Nat) (v : α) (h : Rises t) : Rises (enter v t k) := by
  induction t with
  | nil => simp [Machine.enter, Rises]
  | cons e t ih =>
    obtain ⟨above, rest⟩ := List.pairwise_cons.mp h
    simp only [Machine.enter]
    split
    next low =>
      refine List.pairwise_cons.mpr ⟨List.forall_mem_cons.mpr ⟨low, fun x mem => ?_⟩, h⟩
      exact Nat.lt_trans low (above x mem)
    · split
      next here => exact List.pairwise_cons.mpr ⟨fun x mem => here ▸ above x mem, rest⟩
      next high other =>
        refine List.pairwise_cons.mpr ⟨fun x mem => ?_, ih rest⟩
        rcases mem_enter mem with rfl | old
        · exact Nat.lt_of_le_of_ne (Nat.le_of_not_lt high) other
        · exact above x old

theorem Rises.foldl {α β : Type} {t : Table α} {f : Table α → β → Table α} (l : List β) (h : Rises t)
    (step : ∀ t b, Rises t → Rises (f t b)) : Rises (l.foldl f t) :=
  foldl_holds h step

/-- Bytes written keep the canonical form (R449). -/
theorem putBytes_wf {t : Table Byte} (a : Nat) (b : List Byte) (h : wf 0 t = true) : wf 0 (putBytes t a b) = true := by
  unfold putBytes
  exact foldl_holds (P := fun r : Table Byte × Nat => wf 0 r.1 = true) h fun r x held => wf_put _ _ held

/-! ### The form of the memories -/

/-- The DRAM lines are listed by rising address, and so are the bytes of Dill's SRAM, none of which reads as 0. -/
structure State.Form (s : State) : Prop where
  lines : Rises s.mem.lines
  sram : wf 0 s.core.sram = true

theorem State.form_iff (s : State) : s.memoryWf = true ↔ s.Form := by
  have lines : (match s.mem.lines with | [] => true | (k, _) :: r => rising k r) = true ↔ Rises s.mem.lines := by
    cases s.mem.lines with
    | nil => simp [Rises]
    | cons e t => simp only [rising_iff, Rises, List.pairwise_cons]
  unfold State.memoryWf
  rw [Bool.and_eq_true]
  exact ⟨fun ⟨l, b⟩ => ⟨lines.mp l, b⟩, fun ⟨l, b⟩ => ⟨lines.mpr l, b⟩⟩

end Sys2Proof.Machine
end
section
/-! SUPPORT. What the requests of a memory line leave as it was: the form of the DRAM lines, the cores, what waits for a
register access (R472, R476, R540), and every pending bit (R502). An operation that changes no group of these has its
lemma `State.op_keeps`. -/

namespace Sys2Proof.Machine

/-- What waits for an access of the registers, and a firmware switch. -/
def State.waits (s : State) : Option SbJob × List SbJob × Option (Fin 64 × SbJob) × Option Bool × List CoreMsg × List HeldAccess :=
  (s.mgmt.sb, s.mgmt.sbNext, s.mgmt.mb, s.mgmt.switching, s.mgmt.heldMsgs, s.ret.held)

/-- A state after requests to memory lines, beside the state before them. -/
structure State.Ran (o s : State) : Prop where
  lines : Rises o.mem.lines → Rises s.mem.lines
  core : s.core = o.core
  waits : s.waits = o.waits
  pend : ∀ k, o.evt.pend.getLsbD k = true → s.evt.pend.getLsbD k = true

theorem State.Ran.refl (s : State) : s.Ran s := ⟨id, rfl, rfl, fun _ => id⟩

theorem State.Ran.form {o s : State} (h : o.Ran s) (f : o.Form) : s.Form := ⟨h.lines f.lines, h.core ▸ f.sram⟩

section Ran
variable {o s : State}

/-! ### Composition -/

theorem State.ran_of_same {t : State} (e : t.mem = s.mem ∧ t.core = s.core ∧ t.mgmt = s.mgmt ∧ t.ret = s.ret ∧ t.evt = s.evt)
    (h : o.Ran s) : o.Ran t := by
  obtain ⟨mem, core, mgmt, ret, evt⟩ := e
  refine ⟨fun r => mem ▸ h.lines r, core.trans h.core, ?_, fun k up => evt ▸ h.pend k up⟩
  rw [State.waits, mgmt, ret]
  exact h.waits

theorem State.when_ran {b : Bool} {f : State → State} (h : o.Ran s) (step : ∀ t : State, o.Ran t → o.Ran (f t)) :
    o.Ran (s.when b f) := by
  unfold State.when
  split
  · exact step s h
  · exact h

theorem State.each_ran {α : Type} {f : State → α → State} (l : List α) (h : o.Ran s)
    (step : ∀ t a, o.Ran t → o.Ran (f t a)) : o.Ran (s.each l f) :=
  foldl_holds h step

theorem State.ran_of_pend {t : State} (e : t.mem = s.mem ∧ t.core = s.core ∧ t.mgmt = s.mgmt ∧ t.ret = s.ret)
    (pend : ∀ k, s.evt.pend.getLsbD k = true → t.evt.pend.getLsbD k = true) (h : o.Ran s) : o.Ran t := by
  obtain ⟨mem, core, mgmt, ret⟩ := e
  refine ⟨fun r => mem ▸ h.lines r, core.trans h.core, ?_, fun k up => pend k (h.pend k up)⟩
  rw [State.waits, mgmt, ret]
  exact h.waits

theorem State.withLines_ran {m : Media} (h : o.Ran s) (kept : Rises s.mem.lines → Rises m.lines) : o.Ran (s.withMem m) :=
  ⟨fun r => kept (h.lines r), h.core, h.waits, h.pend⟩

theorem State.withMem_ran {m : Media} (h : o.Ran s) (same : m.lines = s.mem.lines) : o.Ran (s.withMem m) :=
  State.withLines_ran h fun r => same ▸ r

/-! ### Operations of the memory path -/

theorem State.leave_ran (hs : Nat) (l : List Nat) (h : o.Ran s) : o.Ran (s.leave hs l) :=
  State.withMem_ran h rfl

theorem State.setMc_ran (k : Nat) (l : List McLine) (h : o.Ran s) : o.Ran (s.setMc k l) :=
  State.withMem_ran h rfl

theorem State.mcUse_ran (hs lvl i : Nat) (dirty : Bool) (h : o.Ran s) : o.Ran (s.mcUse hs lvl i dirty).1 :=
  State.leave_ran _ _ (State.setMc_ran _ _ (State.withMem_ran h rfl))

/-- A retained write joins the queue, and no access waits for it (R458). -/
theorem State.retWrite_held (s : State) (k : Nat) (v : Word) (who : Option Master) :
    (s.retWrite k v who).ret.held = s.ret.held := by
  unfold State.retWrite
  dsimp only
  split <;> rfl

theorem State.retWrite_ran (k : Nat) (v : Word) (who : Option Master) (h : o.Ran s) : o.Ran (s.retWrite k v who) := by
  obtain ⟨r, wrote⟩ := State.retWrite_eq s k v who
  have held : r.held = s.ret.held := by rw [← s.retWrite_held k v who, wrote]; rfl
  rw [wrote]
  refine ⟨h.lines, h.core, ?_, h.pend⟩
  rw [← h.waits]
  exact congrArg (fun l => (s.mgmt.sb, s.mgmt.sbNext, s.mgmt.mb, s.mgmt.switching, s.mgmt.heldMsgs, l)) held

theorem State.withFlt_ran (x : Faults) (h : o.Ran s) : o.Ran (s.withFlt x) :=
  State.ran_of_same (by simp) h

theorem State.takeFatal_ran (src site cls subject : Nat) (h : o.Ran s) : o.Ran (s.takeFatal src site cls subject).1 := by
  unfold State.takeFatal
  split
  · exact State.withFlt_ran _ (State.each_ran _ h (fun _ _ => State.retWrite_ran _ _ _))
  · exact State.withFlt_ran _ h

theorem State.deliver_ran (r : LogRec) (route : BitVec 14) (h : o.Ran s) : o.Ran (s.deliver r route) := by
  refine State.ran_of_pend (by simp [State.deliver_keeps]) (fun k up => ?_) h
  obtain ⟨i, x, u, told⟩ := s.deliver_told r route
  rw [told]
  exact up

theorem State.deliverAll_ran (r : LogRec) (l : List (BitVec 14)) (h : o.Ran s) : o.Ran (s.deliverAll r l) :=
  State.each_ran _ h fun _ _ => State.deliver_ran _ _

theorem State.logIt_ran (r : LogRec) (vital : Bool) (dest : List (BitVec 14)) (h : o.Ran s) : o.Ran (s.logIt r vital dest) := by
  have noted : ∀ e : Events, e.pend = s.evt.pend → o.Ran (s.withEvt e) := fun e same =>
    State.ran_of_pend (by simp) (fun k up => by rw [State.withEvt_evt, same]; exact up) h
  unfold State.logIt
  split
  · exact State.when_ran (noted _ rfl) fun _ => State.retWrite_ran _ _ _
  · exact State.deliverAll_ran _ _ (noted _ rfl)

theorem State.raiseOne_ran (e : Ev) (h : o.Ran s) : o.Ran (s.raiseOne e) := by
  unfold State.raiseOne
  split
  · exact h
  · have pended : o.Ran (s.withEvt { s.evt with pend := s.evt.pend ||| BitVec.ofNat 768 (2 ^ e.src) }) :=
      State.ran_of_pend (by simp) (fun k up => by rw [State.withEvt_evt, BitVec.getLsbD_or, up, Bool.true_or]) h
    dsimp only
    split
    · exact State.logIt_ran _ _ _ pended
    · exact State.when_ran pended fun _ => State.deliver_ran _ _

theorem State.raise_ran (e : Ev) (h : o.Ran s) : o.Ran (s.raise e) := by
  have one := State.raiseOne_ran e h
  unfold State.raise
  dsimp only
  split
  · exact State.raiseOne_ran _ (State.ran_of_pend (by simp) (fun k up => by rw [State.withEvt_evt]; exact up) one)
  · exact one

theorem State.raiseFault_ran (src site cls cause need : Nat) (h : o.Ran s) : o.Ran (s.raiseFault src site cls cause need) := by
  unfold State.raiseFault
  refine State.raise_ran _ ?_
  split
  · exact State.takeFatal_ran _ _ _ _ h
  · exact h

theorem State.setRec_ran (u : Nat) (r : FaultRec) (h : o.Ran s) : o.Ran (s.setRec u r) :=
  State.ran_of_same (by simp [State.setRec_keeps]) h

theorem State.fileAt_ran (site cls row col cause : Nat) (h : o.Ran s) : o.Ran (s.fileAt site cls row col cause) := by
  unfold State.fileAt
  dsimp only
  split
  · exact State.raiseFault_ran _ _ _ _ _ (State.setRec_ran _ _ h)
  · exact State.when_ran (State.setRec_ran _ _ (State.when_ran h (fun _ => State.setRec_ran _ _))) fun _ => State.raiseFault_ran
      _ _ _ _ _

theorem State.fileP_ran (p cls cause : Nat) (h : o.Ran s) : o.Ran (s.fileP p cls cause) :=
  State.fileAt_ran _ _ _ _ _ h

theorem State.countUe_ran (c : Nat) (h : o.Ran s) : o.Ran (s.countUe c) := by
  unfold State.countUe
  exact State.ran_of_same (by simp [State.onChan_keeps]) h

theorem State.metaRead_ran (hs lvl i copy : Nat) (h : o.Ran s) : o.Ran (s.metaRead hs lvl i copy) := by
  unfold State.metaRead
  extract_lets m e y born
  split
  · exact h
  next c _ =>
    extract_lets _ _ _ mended both
    have mended_ran : o.Ran mended := State.withMem_ran (State.when_ran h fun _ => State.countUe_ran _) rfl
    have both_ran : o.Ran both := State.when_ran mended_ran fun _ => State.countUe_ran _
    split
    · exact h
    · split
      · exact State.fileP_ran _ _ _ both_ran
      · split <;> exact State.withMem_ran both_ran rfl

theorem State.raiseAt_ran (src page subject : Nat) (h : o.Ran s) : o.Ran (s.raiseAt src page subject) :=
  State.raise_ran _ h

theorem State.withAmap_ran (x : AddressMap) (h : o.Ran s) : o.Ran (s.withAmap x) :=
  State.ran_of_same (by simp) h

theorem State.levels_ran (d : Nat) (h : o.Ran s) : o.Ran (s.levels d) :=
  State.when_ran (State.when_ran (State.withAmap_ran _ (State.when_ran h
    (fun _ ht => State.raiseAt_ran _ _ _ (State.withAmap_ran _ ht))))
      (fun _ ht => State.raiseAt_ran _ _ _ (State.withAmap_ran _ ht))) fun _ => State.withAmap_ran _

theorem State.giveFrame_ran (p i f : Nat) (h : o.Ran s) : o.Ran (s.giveFrame p i f) :=
  State.levels_ran _ (State.ran_of_same (by simp [State.account_keeps, State.releaseFrame_keeps]) h)

theorem State.giveBin_ran (p i loc cls : Nat) (h : o.Ran s) : o.Ran (s.giveBin p i loc cls) :=
  State.levels_ran _ (State.ran_of_same (by simp [State.releaseBin_keeps, State.account_keeps]) h)

theorem State.dropDest_ran (p : Nat) (m : Migration) (h : o.Ran s) : o.Ran (s.dropDest p m) := by
  unfold State.dropDest
  split
  · exact State.giveFrame_ran _ _ _ h
  · exact State.giveFrame_ran _ _ _ h
  · exact State.giveBin_ran _ _ _ _ h
  · exact h

theorem State.onPage_ran (k : Nat) (f : PageEntry → PageEntry) (h : o.Ran s) : o.Ran (s.onPage k f) :=
  State.withMem_ran h rfl

theorem State.endMigration_ran (p : Nat) (h : o.Ran s) : o.Ran (s.endMigration p) := by
  unfold State.endMigration
  split
  · exact h
  · exact State.onPage_ran _ _ (State.withMem_ran (State.dropDest_ran _ _ h) rfl)

theorem State.giveBack_ran (p : Nat) (e : PageEntry) (h : o.Ran s) : o.Ran (s.giveBack p e) := by
  unfold State.giveBack
  split
  · exact State.giveFrame_ran _ _ _ h
  · exact State.giveBin_ran _ _ _ _ h
  · exact State.giveBin_ran _ _ _ _ h
  · exact h

theorem State.account_ran (e add sub : Nat) (h : o.Ran s) : o.Ran (s.account e add sub) :=
  State.ran_of_same (by simp [State.account_keeps]) h

theorem State.poisonPage_ran (p : Nat) (withdraw : Bool) (h : o.Ran s) : o.Ran (s.poisonPage p withdraw) := by
  unfold State.poisonPage
  refine State.onPage_ran _ _ ?_
  refine State.withMem_ran ?_ rfl
  split
  · exact State.levels_ran _ (State.withAmap_ran _ (State.account_ran _ _ _ (State.endMigration_ran _ h)))
  · exact State.giveBack_ran _ _ (State.endMigration_ran _ h)

theorem State.mapLost_ran (n : Nat) (h : o.Ran s) : o.Ran (s.mapLost n) :=
  State.each_ran _ (State.withMem_ran h rfl) fun _ _ ht => State.fileP_ran _ _ _
    (State.raise_ran _ (State.poisonPage_ran _ _ ht))

theorem State.setBlock_ran (hs lvl i : Nat) (b : TreeBlock) (h : o.Ran s) : o.Ran (s.setBlock hs lvl i b) :=
  State.withMem_ran h rfl

theorem State.loadCopy_ran (hs lvl i copy : Nat) (h : o.Ran s) : o.Ran (s.loadCopy hs lvl i copy) := by
  unfold State.loadCopy
  dsimp only
  split
  · exact State.setBlock_ran _ _ _ _ h
  · exact State.withMem_ran h rfl

theorem State.countLost_ran (hs : Nat) (h : o.Ran s) : o.Ran (s.countLost hs) :=
  State.withMem_ran h rfl

theorem State.goodCopies_ran (key : Nat) (h : o.Ran s) : o.Ran (s.goodCopies key) :=
  State.withMem_ran h rfl

theorem State.noteMeta_ran (i x : Nat) (h : o.Ran s) : o.Ran (s.noteMeta i x) := by
  unfold State.noteMeta
  split
  · exact State.withMem_ran h rfl
  · exact h

theorem State.metaWritten_ran (x b : Nat) (l : List Nat) (h : o.Ran s) : o.Ran (s.metaWritten x b l) :=
  State.each_ran _ h fun _ _ => State.noteMeta_ran _ _

theorem State.storeNode_ran (hs lvl i : Nat) (h : o.Ran s) : o.Ran (s.storeNode hs lvl i) :=
  State.metaWritten_ran _ _ _ (State.withMem_ran (State.goodCopies_ran _ h) rfl)

theorem State.storeAt_ran (c off : Nat) (v : Machine.Stored) (h : o.Ran s) : o.Ran (s.storeAt c off v) :=
  State.withLines_ran h fun rises => rises.foldl _ fun _ k held => held.enter k v

theorem State.putMedia_ran (i x : Nat) (v : Machine.Stored) (h : o.Ran s) : o.Ran (s.putMedia i x v) :=
  State.each_ran _ h fun _ _ ht => State.storeAt_ran _ _ _
    (State.ran_of_same (by simp [State.activated_keeps, State.count_keeps]) ht)

theorem State.poisonMedia_ran (p i f j : Nat) (h : o.Ran s) : o.Ran (s.poisonMedia p i f j) :=
  State.putMedia_ran _ _ _ (State.withMem_ran h rfl)

theorem State.raiseHs_ran (hs k en subject : Nat) (ld : Option Nat) (h : o.Ran s) : o.Ran (s.raiseHs hs k en subject ld) :=
  State.raise_ran _ h

theorem State.leafLost_ran (hs i : Nat) (h : o.Ran s) : o.Ran (s.leafLost hs i) := by
  unfold State.leafLost
  dsimp only
  split
  · exact State.withMem_ran (State.setBlock_ran _ _ _ _ h) rfl
  · refine State.fileP_ran _ _ _ ?_
    refine State.raiseHs_ran _ _ _ _ _ ?_
    split
    · exact State.each_ran _ (State.storeNode_ran _ _ _ (State.setBlock_ran _ _ _ _
        (State.countLost_ran _ (State.goodCopies_ran _ h)))) fun _ _ => State.poisonMedia_ran _ _ _ _
    · exact State.poisonPage_ran _ _ (State.storeNode_ran _ _ _
        (State.setBlock_ran _ _ _ _ (State.countLost_ran _ (State.goodCopies_ran _ h))))
    · exact State.poisonPage_ran _ _ (State.storeNode_ran _ _ _
        (State.setBlock_ran _ _ _ _ (State.countLost_ran _ (State.goodCopies_ran _ h))))
    · exact State.storeNode_ran _ _ _ (State.setBlock_ran _ _ _ _ (State.countLost_ran _ (State.goodCopies_ran _ h)))

theorem State.raiseNode_ran (hs k lvl i : Nat) (h : o.Ran s) : o.Ran (s.raiseNode hs k lvl i) :=
  State.raise_ran _ h

theorem State.loseNode_ran (hs lvl i : Nat) (h : o.Ran s) : o.Ran (s.loseNode hs lvl i) :=
  State.fileP_ran _ _ _ (State.raiseNode_ran _ _ _ _ (State.withMem_ran
    (State.storeNode_ran _ _ _ (State.when_ran (State.setBlock_ran _ _ _ _ (State.countLost_ran _ (State.goodCopies_ran _ h)))
      (fun _ ht => State.withMem_ran ht rfl))) rfl))

theorem State.nodeLost_ran (hs lvl i : Nat) (h : o.Ran s) : o.Ran (s.nodeLost hs lvl i) := by
  unfold State.nodeLost
  split
  · exact State.withMem_ran (State.setBlock_ran _ _ _ _ h) rfl
  · exact State.loseNode_ran _ _ _ h

theorem State.mendCopy_ran (hs lvl i good : Nat) (h : o.Ran s) : o.Ran (s.mendCopy hs lvl i good) :=
  State.withMem_ran (State.goodCopies_ran _ h) rfl

theorem State.checkBlock_ran (hs lvl i : Nat) (h : o.Ran s) : o.Ran (s.checkBlock hs lvl i) := by
  unfold State.checkBlock
  split
  · exact h
  · dsimp only
    split
    · split
      · exact State.metaRead_ran _ _ _ _ h
      · exact State.mapLost_ran _ (State.metaRead_ran _ _ _ _ h)
    · split
      · split
        · exact State.loadCopy_ran _ _ _ _ (State.metaRead_ran _ _ _ _ h)
        · exact State.leafLost_ran _ _ (State.metaRead_ran _ _ _ _ h)
      · split
        · exact State.loadCopy_ran _ _ _ _ (State.metaRead_ran _ _ _ _ h)
        · split
          · exact State.nodeLost_ran _ _ _ (State.metaRead_ran _ _ _ _ (State.metaRead_ran _ _ _ _ h))
          · exact State.fileP_ran _ _ _ (State.raiseNode_ran _ _ _ _
              (State.withMem_ran (State.mendCopy_ran _ _ _ _
                (State.loadCopy_ran _ _ _ _ (State.metaRead_ran _ _ _ _ (State.metaRead_ran _ _ _ _ h)))) rfl))

theorem State.setRetags_ran (hs : Nat) (l : List Retag) (h : o.Ran s) : o.Ran (s.setRetags hs l) :=
  State.withMem_ran h rfl

theorem State.copyBad_ran (c : Nat) (l : List Machine.Stored) (h : o.Ran s) : o.Ran (s.copyBad c l) :=
  State.each_ran _ h fun _ _ ht => State.fileP_ran _ _ _ (State.countUe_ran _ ht)

theorem State.onChan_ran (k : Nat) (f : Channel → Channel) (h : o.Ran s) : o.Ran (s.onChan k f) := by
  unfold State.onChan
  exact State.ran_of_same (by simp) h

theorem State.walkSilver_ran (ev upto : Nat) (h : o.Ran s) : o.Ran (s.walkSilver ev upto) := by
  unfold State.walkSilver
  split
  · exact h
  · refine State.onChan_ran _ _ (State.copyBad_ran _ _ (State.withLines_ran h fun rises => ?_))
    refine Rises.foldl _ (rises.foldl _ ?_) ?_
    · exact fun _ _ held => held.foldl _ fun _ k => Rises.wipe k
    · exact fun _ _ held => held.foldl _ fun _ k => Rises.enter k _

theorem State.walkSpare_ran (c upto : Nat) (h : o.Ran s) : o.Ran (s.walkSpare c upto) := by
  unfold State.walkSpare
  dsimp only
  split
  · refine State.onChan_ran _ _ (State.copyBad_ran _ _ (State.withLines_ran h fun rises => ?_))
    exact rises.foldl _ fun _ _ held => held.enter _ _
  · exact h

theorem State.copyWalk_ran (c : Nat) (h : o.Ran s) : o.Ran (s.copyWalk c) :=
  State.walkSilver_ran _ _ (State.walkSpare_ran _ _ h)

theorem State.tagFailed_ran (hs subject : Nat) (h : o.Ran s) : o.Ran (s.tagFailed hs subject) :=
  State.raiseHs_ran _ _ _ _ _ (State.withMem_ran h rfl)

theorem State.copyFailed_ran (hs c subject : Nat) (a4 : Got) (h : o.Ran s) : o.Ran (s.copyFailed hs c subject a4) := by
  unfold State.copyFailed
  split
  · exact State.countUe_ran _ h
  · exact State.tagFailed_ran _ _ h
  · exact h

theorem State.readPartner_ran (hs i c off subject : Nat) (b : TagBind) (h : o.Ran s) :
    o.Ran (s.readPartner hs i c off subject b).1 := by
  unfold State.readPartner
  dsimp only
  split
  · split
    · exact State.copyFailed_ran _ _ _ _ (State.copyWalk_ran _ h)
    · exact h
  · split
    · exact State.copyFailed_ran _ _ _ _ (State.copyWalk_ran _ h)
    · exact h

theorem State.eccUncorr_ran (c off subject : Nat) (h : o.Ran s) : o.Ran (s.eccUncorr c off subject) :=
  State.raise_ran _ (State.countUe_ran _ h)

theorem State.readLine_ran (hs i x subject : Nat) (b : TagBind) (h : o.Ran s) : o.Ran (s.readLine hs i x subject b).1 := by
  unfold State.readLine
  split
  · dsimp only
    exact h
  · dsimp only
    split
    · split
      · dsimp only
        exact State.fileP_ran _ _ _ (State.countUe_ran _ (State.putMedia_ran _ _ _
          (State.readPartner_ran _ _ _ _ _ _ (State.ran_of_same (by simp [State.activated_keeps, State.count_keeps]) h))))
      · dsimp only
        exact State.fileP_ran _ _ _ (State.eccUncorr_ran _ _ _
          (State.readPartner_ran _ _ _ _ _ _ (State.ran_of_same (by simp [State.activated_keeps, State.count_keeps]) h)))
    · split
      · dsimp only
        exact State.fileP_ran _ _ _ (State.putMedia_ran _ _ _
          (State.readPartner_ran _ _ _ _ _ _ (State.tagFailed_ran _ _
            (State.ran_of_same (by simp [State.activated_keeps, State.count_keeps]) h))))
      · dsimp only
        exact State.fileP_ran _ _ _ (State.readPartner_ran _ _ _ _ _ _
          (State.tagFailed_ran _ _ (State.ran_of_same (by simp [State.activated_keeps, State.count_keeps]) h)))
    · dsimp only
      exact State.ran_of_same (by simp [State.activated_keeps, State.count_keeps]) h

theorem State.retagChild_ran (hs : Nat) (r : Retag) (k : Nat) (h : o.Ran s) : o.Ran (s.retagChild hs r k) := by
  unfold State.retagChild
  dsimp only
  split
  · split
    · exact State.setRetags_ran _ _ h
    · refine State.when_ran ?_ fun _ => State.storeNode_ran _ _ _
      refine State.setRetags_ran _ _ ?_
      split
      · exact h
      · exact State.checkBlock_ran _ _ _ h
  · split
    · refine State.setRetags_ran _ _ ?_
      split
      · exact State.putMedia_ran _ _ _ (State.readLine_ran _ _ _ _ _ h)
      · exact State.putMedia_ran _ _ _ (State.readLine_ran _ _ _ _ _ h)
      · exact State.putMedia_ran _ _ _ (State.readLine_ran _ _ _ _ _ h)
      · exact State.readLine_ran _ _ _ _ _ h
      · exact State.readLine_ran _ _ _ _ _ h
    · exact State.setRetags_ran _ _ h

theorem State.endRetag_ran (hs key : Nat) (h : o.Ran s) : o.Ran (s.endRetag hs key) := by
  unfold State.endRetag
  refine State.setRetags_ran _ _ ?_
  split
  · exact State.each_ran _ h fun _ _ => State.retagChild_ran _ _ _
  · exact h

theorem State.advance_ran (hs lvl i k : Nat) (h : o.Ran s) : o.Ran (s.advance hs lvl i k) := by
  unfold State.advance
  dsimp only
  split
  · exact State.setRetags_ran _ _ (State.setBlock_ran _ _ _ _
      (State.when_ran (State.endRetag_ran _ _ h) (fun _ ht => State.endRetag_ran _ _ (State.raiseNode_ran _ _ _ _ ht))))
  · exact State.setRetags_ran _ _ (State.setBlock_ran _ _ _ _ h)

theorem State.arrivedAt_ran (hs lvl i : Nat) (h : o.Ran s) : o.Ran (s.arrivedAt hs lvl i) :=
  State.withMem_ran h rfl

theorem State.count_ran (p code n : Nat) (h : o.Ran s) : o.Ran (s.count p code n) := by
  unfold State.count
  split
  · exact State.each_ran _ h fun _ _ ht => State.when_ran ht (fun _ hu => State.ran_of_same (by simp [State.onBank_keeps]) hu)
  · exact h

theorem State.walk_ran (n hs : Nat) (l : List Machine.Walk) (h : o.Ran s) : o.Ran (s.walk n hs l) := by
  fun_induction State.walk n hs l s
  case case1 | case2 => exact h
  case case3 ih => exact ih (State.mcUse_ran _ _ _ _ (State.count_ran _ _ _ h))
  case case4 ih => exact ih (State.count_ran _ _ _ (State.count_ran _ _ _ h))
  case case5 ih => exact ih (State.mcUse_ran _ _ _ _ (State.checkBlock_ran _ _ _ h))
  case case6 ih => exact ih (State.mcUse_ran _ _ _ _ h)
  case case7 ih => exact ih (State.mcUse_ran _ _ _ _ (State.advance_ran _ _ _ _ h))
  case case8 ih => exact ih (State.metaWritten_ran _ _ _ (State.withMem_ran (State.count_ran _ _ _ h) rfl))
  case case9 ih => exact ih (State.withMem_ran (State.count_ran _ _ _ h) rfl)
  case case10 ih => exact ih (State.count_ran _ _ _ h)
  case case11 ih => exact ih (State.arrivedAt_ran _ _ _ (State.storeNode_ran _ _ _ h))

theorem State.initChunk_ran (c : Nat) (h : o.Ran s) : o.Ran (s.initChunk c) := by
  unfold State.initChunk
  split
  · exact h
  · exact State.withLines_ran h fun rises => rises.filter _

theorem State.needChunk_ran (p : Nat) (h : o.Ran s) : o.Ran (s.needChunk p) := by
  unfold State.needChunk
  split
  · exact h
  · exact State.initChunk_ran _ (State.raiseHs_ran _ _ _ _ _ (State.withMem_ran h rfl))

theorem State.fetchPage_ran (p : Nat) (h : o.Ran s) : o.Ran (s.fetchPage p) :=
  State.walk_ran _ _ _ (State.needChunk_ran _ h)

theorem State.setEntry_ran (p : Nat) (f : PageEntry → PageEntry) (h : o.Ran s) : o.Ran (s.setEntry p f) :=
  State.walk_ran _ _ _ (State.onPage_ran _ _ h)

theorem State.touch_ran (p : Nat) (h : o.Ran s) : o.Ran (s.touch p) := by
  unfold State.touch
  dsimp only
  split
  · exact State.when_ran h fun _ => State.fetchPage_ran _
  · exact State.setEntry_ran _ _ (State.when_ran h (fun _ => State.fetchPage_ran _))

theorem State.sample_ran (p : Nat) (h : o.Ran s) : o.Ran (s.sample p) := by
  unfold State.sample
  split
  · exact State.setEntry_ran _ _ (State.ran_of_same (by simp [State.sampleAge_keeps]) h)
  · exact h

theorem State.discardFull_ran (u e : Nat) (h : o.Ran s) : o.Ran (s.discardFull u e) :=
  State.raise_ran _ h

theorem State.discardLine_ran (u line : Nat) (h : o.Ran s) : o.Ran (s.discardLine u line) := by
  unfold State.discardLine
  dsimp only
  split
  · exact State.ran_of_same (by simp [State.dropAtom_keeps]) h
  · split
    · exact State.withFlt_ran _ (State.ran_of_same (by simp [State.dropAtom_keeps]) h)
    · split
      · exact State.ran_of_same (by simp [State.dropAtom_keeps]) h
      · exact State.when_ran (State.withFlt_ran _ (State.ran_of_same (by simp [State.dropAtom_keeps]) h)) fun _ =>
          State.discardFull_ran _ _

theorem State.useRun_ran (i f n : Nat) (h : o.Ran s) : o.Ran (s.useRun i f n) :=
  State.withAmap_ran _ h

theorem State.takeFrame_ran {p : Nat} {promo : Bool} {r : State × Nat × Nat} (took : s.takeFrame p promo = some r)
    (h : o.Ran s) : o.Ran r.1 := by
  unfold State.takeFrame at took
  split at took
  · split at took
    · cases took
    · split at took
      · cases took
      · cases took
        exact State.levels_ran _ (State.account_ran _ _ _ (State.useRun_ran _ _ _ h))
  · cases took

theorem State.exhausted_ran (p : Nat) (h : o.Ran s) : o.Ran (s.exhausted p) :=
  State.raiseAt_ran _ _ _ h

theorem State.back_ran (p : Nat) (h : o.Ran s) : o.Ran (s.back p).1 := by
  unfold State.back
  split
  next took => exact State.setEntry_ran _ _ (State.withMem_ran (State.takeFrame_ran took h) rfl)
  next => exact State.exhausted_ran _ (State.setEntry_ran _ _ (State.poisonPage_ran _ _ h))

theorem State.dropAtom_ran (line : Nat) (h : o.Ran s) : o.Ran (s.dropAtom line) :=
  State.ran_of_same (by simp [State.dropAtom_keeps]) h

theorem State.writePoison_ran (line : Nat) (h : o.Ran s) : o.Ran (s.writePoison line).1 := by
  unfold State.writePoison
  dsimp only
  split
  · split
    · exact State.discardLine_ran _ _ h
    · exact State.dropAtom_ran _ (State.poisonMedia_ran _ _ _ _ h)
  · split
    · split
      · exact State.discardLine_ran _ _ (State.back_ran _ h)
      · exact State.dropAtom_ran _ (State.poisonMedia_ran _ _ _ _ (State.back_ran _ h))
    · exact State.back_ran _ h
  · exact h
  · exact h
  · exact State.ran_of_same (by simp [State.trigger_keeps]) h

theorem State.sfDrop_ran (line : Nat) (h : o.Ran s) : o.Ran (s.sfDrop line) :=
  State.ran_of_same (by simp [State.sfDrop_keeps]) h

theorem State.loseLine_ran (line : Nat) (h : o.Ran s) : o.Ran (s.loseLine line).1 := by
  unfold State.loseLine
  dsimp only
  split
  · exact State.writePoison_ran _ h
  · exact State.sfDrop_ran _ (State.writePoison_ran _ h)

theorem State.actRead_ran (who : Requester) (h : o.Ran s) : o.Ran (s.actRead who) := by
  unfold State.actRead
  split
  · exact ⟨h.lines, h.core, h.waits, h.pend⟩
  · exact h

theorem State.raiseLink_ran (l k : Nat) (ld : Option Nat) (subject : Nat) (h : o.Ran s) : o.Ran (s.raiseLink l k ld subject) :=
  State.raise_ran _ h

theorem State.raiseLd_ran (ld k subject : Nat) (h : o.Ran s) : o.Ran (s.raiseLd ld k subject) := by
  unfold State.raiseLd
  split
  · exact State.raiseLink_ran _ _ _ _ h
  · exact h

theorem State.traceDone_ran (q : QReq) (poison : Bool) (h : o.Ran s) : o.Ran (s.traceDone q poison) :=
  State.ran_of_same (by simp [State.traceDone_keeps]) h

theorem State.toHost_ran (ld : Nat) (m : Msg) (h : o.Ran s) : o.Ran (s.toHost ld m) :=
  State.ran_of_same (by simp [State.toHost_keeps]) h

theorem State.emit_ran (m : Msg) (h : o.Ran s) : o.Ran (s.emit m) :=
  State.ran_of_same (by simp [State.emit_keeps]) h

theorem State.withHome_ran (x : HomeSlices) (h : o.Ran s) : o.Ran (s.withHome x) :=
  State.ran_of_same (by simp) h

theorem State.answerRead_ran (q : QReq) (g : ReadGot) (mv : MetaVal) (h : o.Ran s) : o.Ran (s.answerRead q g mv) := by
  unfold State.answerRead
  dsimp only
  split
  · exact State.traceDone_ran _ _ (State.actRead_ran _ h)
  · split
    · exact State.toHost_ran _ _ (State.when_ran (State.when_ran (State.traceDone_ran _ _ (State.actRead_ran _ h))
        (fun _ => State.raiseLd_ran _ _ _)) (fun _ ht => State.ran_of_same (by simp [State.countPoison_keeps]) ht))
    · split
      · exact State.toHost_ran _ _ (State.traceDone_ran _ _ (State.actRead_ran _ h))
      · exact State.toHost_ran _ _ (State.traceDone_ran _ _ (State.actRead_ran _ h))
    · exact State.emit_ran _ (State.traceDone_ran _ _ (State.actRead_ran _ h))
    · exact State.withHome_ran _ (State.traceDone_ran _ _ (State.actRead_ran _ h))

theorem State.answerAtomic_ran (q : QReq) (v : Nat) (bad byLine : Bool) (h : o.Ran s) :
    o.Ran (s.answerAtomic q v bad byLine) := by
  unfold State.answerAtomic
  dsimp only
  split
  · exact State.traceDone_ran _ _ h
  · split
    · exact State.toHost_ran _ _ (State.when_ran (State.traceDone_ran _ _ h) (fun _ => State.raiseLd_ran _ _ _))
    · exact State.emit_ran _ (State.traceDone_ran _ _ h)
    · exact State.withHome_ran _ (State.traceDone_ran _ _ h)

theorem State.answerCmp_ran (q : QReq) (mv : MetaVal) (err : Bool) (h : o.Ran s) : o.Ran (s.answerCmp q mv err) :=
  State.ran_of_same (by simp [State.answerCmp_keeps]) h

theorem State.serveNone_ran (q : QReq) (mv : MetaVal) (h : o.Ran s) : o.Ran (s.serveNone q mv).1 := by
  unfold State.serveNone
  split
  · dsimp only
    exact State.answerRead_ran _ _ _ h
  · dsimp only
    exact State.answerRead_ran _ _ _ h
  · dsimp only
    exact State.answerRead_ran _ _ _ h
  · dsimp only
    exact State.answerCmp_ran _ _ _ (State.discardLine_ran _ _ h)
  · dsimp only
    exact State.answerCmp_ran _ _ _ (State.discardLine_ran _ _ h)
  · dsimp only
    exact State.answerAtomic_ran _ _ _ _ h
  · dsimp only
    exact State.answerCmp_ran _ _ _ h
  · dsimp only
    exact State.answerCmp_ran _ _ _ h
  · dsimp only
    exact h
  · dsimp only
    exact h
  · dsimp only
    exact h

theorem State.readNear_ran (p i f j : Nat) (h : o.Ran s) : o.Ran (s.readNear p i f j).1 := by
  unfold State.readNear
  split
  · exact h
  · exact State.readLine_ran _ _ _ _ _ h

theorem State.readBin_ran (p : Nat) (e : PageEntry) (a n : Nat) (h : o.Ran s) : o.Ran (s.readBin p e a n).1 := by
  unfold State.readBin
  extract_lets step ls r
  refine foldl_holds (P := fun x : State × Got × List Byte => o.Ran x.1) h fun x j held => ?_
  dsimp only [step]
  split
  · split <;> exact State.readLine_ran _ _ _ _ _ held
  · exact held

theorem State.readParcel_ran (p : Nat) (e : PageEntry) (q : Nat) (h : o.Ran s) : o.Ran (s.readParcel p e q).1 := by
  unfold State.readParcel
  dsimp only
  split
  · exact State.readBin_ran _ _ _ _ h
  · exact State.readBin_ran _ _ _ _ h
  · exact State.readBin_ran _ _ _ _ h
  · exact State.readBin_ran _ _ _ _ h
  · exact State.readBin_ran _ _ _ _ h

theorem State.raiseEng_ran (k off page cls : Nat) (h : o.Ran s) : o.Ran (s.raiseEng k off page cls) :=
  State.raise_ran _ h

theorem State.parcelBad_ran (p k : Nat) (h : o.Ran s) : o.Ran (s.parcelBad p k) :=
  State.fileP_ran _ _ _ (State.raiseEng_ran _ _ _ _ (State.when_ran h
    (fun _ ht => State.setEntry_ran _ _ (State.poisonPage_ran _ _ (State.ran_of_same (by simp [State.dropParcels_keeps]) ht)))))

theorem State.useParcel_ran (p q : Nat) (d : List Byte) (h : o.Ran s) : o.Ran (s.useParcel p q d) :=
  State.ran_of_same (by simp [State.useParcel_keeps]) h

theorem State.engineUsed_ran (k : Nat) (h : o.Ran s) : o.Ran (s.engineUsed k) :=
  State.ran_of_same (by simp [State.engineUsed_keeps]) h

theorem State.readFromBin_ran (p : Nat) (e : PageEntry) (j : Nat) (h : o.Ran s) : o.Ran (s.readFromBin p e j).1 := by
  unfold State.readFromBin
  dsimp only
  split
  · exact State.useParcel_ran _ _ _ h
  · split
    · split
      · exact State.readBin_ran _ _ _ _ h
      · exact State.readBin_ran _ _ _ _ h
      · exact State.readBin_ran _ _ _ _ h
      · exact State.readBin_ran _ _ _ _ h
      · exact State.readBin_ran _ _ _ _ h
    · split
      · exact State.useParcel_ran _ _ _ (State.engineUsed_ran _ (State.count_ran _ _ _ (State.readParcel_ran _ _ _ h)))
      · exact State.parcelBad_ran _ _ (State.count_ran _ _ _ (State.readParcel_ran _ _ _ h))
      · exact State.readParcel_ran _ _ _ h
      · exact State.readParcel_ran _ _ _ h

theorem State.readAs_ran (p : Nat) (e : PageEntry) (j : Nat) (h : o.Ran s) : o.Ran (s.readAs p e j).1 := by
  unfold State.readAs
  split
  · exact h
  · dsimp only
    split
    · exact State.readNear_ran _ _ _ _ h
    · exact State.readNear_ran _ _ _ _ h
    · exact State.readNear_ran _ _ _ _ h
    · exact State.poisonMedia_ran _ _ _ _ (State.readNear_ran _ _ _ _ h)
    · exact State.poisonMedia_ran _ _ _ _ (State.readNear_ran _ _ _ _ h)
  · exact State.readFromBin_ran _ _ _ h
  · exact State.readFromBin_ran _ _ _ h
  · exact h

theorem State.readData_ran (line : Nat) (counted : Bool) (h : o.Ran s) : o.Ran (s.readData line counted).1 := by
  unfold State.readData
  split
  · dsimp only
    exact h
  · dsimp only
    split
    · dsimp only
      exact State.when_ran (State.readAs_ran _ _ _ h) fun _ ht => State.ran_of_same (by simp [State.countRead_keeps]) ht
    · exact State.readAs_ran _ _ _ h

theorem State.writeNear_ran (p i f j : Nat) (d : Line) (h : o.Ran s) : o.Ran (s.writeNear p i f j d) :=
  State.putMedia_ran _ _ _ (State.withMem_ran (State.walk_ran _ _ _ h) rfl)

theorem State.nextMajor_ran (p : Nat) (h : o.Ran s) : o.Ran (s.nextMajor p) :=
  State.walk_ran _ _ _ (State.setBlock_ran _ _ _ _ (State.endRetag_ran _ _ (State.walk_ran _ _ _ h)))

theorem State.reseal_ran (p : Nat) (h : o.Ran s) : o.Ran (s.reseal p).1 := by
  unfold State.reseal
  split
  next took =>
    dsimp only
    refine State.each_ran _ ?_ fun _ _ => State.poisonMedia_ran _ _ _ _
    exact State.setEntry_ran _ _ (State.nextMajor_ran _ (State.takeFrame_ran took h))
  next => exact State.exhausted_ran _ h

theorem State.syncAtom_ran (line : Nat) (d : Line) (h : o.Ran s) : o.Ran (s.syncAtom line d) :=
  State.ran_of_same (by simp [State.syncAtom_keeps]) h

theorem State.writeFull_ran (line : Nat) (d : Line) (h : o.Ran s) : o.Ran (s.writeFull line d).1 := by
  unfold State.writeFull
  dsimp only
  split
  · split
    · dsimp only
      exact State.discardLine_ran _ _ h
    · dsimp only
      exact State.syncAtom_ran _ _ (State.writeNear_ran _ _ _ _ _ h)
  · split
    · split
      · dsimp only
        exact State.discardLine_ran _ _ (State.back_ran _ h)
      · dsimp only
        exact State.syncAtom_ran _ _ (State.writeNear_ran _ _ _ _ _ (State.back_ran _ h))
    · exact State.back_ran _ h
  · split
    · split
      · dsimp only
        exact State.discardLine_ran _ _ (State.reseal_ran _ h)
      · dsimp only
        exact State.syncAtom_ran _ _ (State.writeNear_ran _ _ _ _ _ (State.reseal_ran _ h))
    · exact State.reseal_ran _ h
  · dsimp only
    exact h
  · dsimp only
    exact State.ran_of_same (by simp [State.trigger_keeps]) h

theorem State.actWrite_ran (who : Requester) (h : o.Ran s) : o.Ran (s.actWrite who) := by
  unfold State.actWrite
  split
  · exact ⟨h.lines, h.core, h.waits, h.pend⟩
  · exact h

theorem State.unverified_ran (line : Nat) (who : Requester) (h : o.Ran s) : o.Ran (s.unverified line who) :=
  State.fileP_ran _ _ _ (State.raise_ran _ (State.withMem_ran h rfl))

theorem State.writePart_ran (line : Nat) (mask : BitVec 64) (d : Line) (who : Requester) (h : o.Ran s) :
    o.Ran (s.writePart line mask d who).1 := by
  unfold State.writePart
  dsimp only
  split
  · exact h
  · exact State.ran_of_same (by simp [State.trigger_keeps]) h
  · exact State.ran_of_same (by simp [State.trigger_keeps]) h
  · exact State.unverified_ran _ _ h
  · split
    · exact State.writeFull_ran _ _ (State.readData_ran _ _ h)
    · exact State.unverified_ran _ _ (State.writePoison_ran _ (State.readData_ran _ _ h))
    · exact State.discardLine_ran _ _ (State.readData_ran _ _ h)

theorem State.flushAtom_ran (line : Nat) (h : o.Ran s) : o.Ran (s.flushAtom line) := by
  unfold State.flushAtom
  split
  · exact h
  · exact State.writeFull_ran _ _ (State.dropAtom_ran _ h)

theorem State.placeAtom_ran (line : Nat) (d : Line) (h : o.Ran s) : o.Ran (s.placeAtom line d) := by
  unfold State.placeAtom
  dsimp only
  split
  · exact State.writeFull_ran _ _ (State.dropAtom_ran _ h)
  · split
    · exact State.flushAtom_ran _ (State.ran_of_same (by simp [State.setAtoms_keeps]) h)
    · exact State.ran_of_same (by simp [State.setAtoms_keeps]) h

theorem State.atomicAt_ran (line : Nat) (op : AtomicKind) (size off a b : Nat) (who : Requester) (h : o.Ran s) :
    o.Ran (s.atomicAt line op size off a b who).1 := by
  unfold State.atomicAt
  dsimp only
  split
  · exact h
  · exact State.ran_of_same (by simp [State.trigger_keeps]) h
  · exact State.ran_of_same (by simp [State.trigger_keeps]) h
  · exact State.unverified_ran _ _ h
  · split
    · exact State.placeAtom_ran _ _ (State.back_ran _ h)
    · exact State.unverified_ran _ _ (State.back_ran _ h)
  · split
    · exact State.placeAtom_ran _ _ (State.readData_ran _ _ h)
    · exact State.unverified_ran _ _ (State.writePoison_ran _ (State.readData_ran _ _ h))
    · exact State.readData_ran _ _ h

theorem State.serveLine_ran (q : QReq) (mv : MetaVal) (h : o.Ran s) : o.Ran (s.serveLine q mv).1 := by
  unfold State.serveLine
  dsimp only
  split
  · exact State.serveNone_ran _ _ h
  · split
    · exact State.answerRead_ran _ _ _ (State.readData_ran _ _ h)
    · exact State.answerRead_ran _ _ _ (State.readData_ran _ _ h)
    · exact State.answerRead_ran _ _ _ (State.readData_ran _ _ h)
    · split
      · split
        · exact State.writePoison_ran _ h
        · exact State.answerCmp_ran _ _ _ (State.actWrite_ran _ (State.writePoison_ran _ h))
      · split
        · exact State.writeFull_ran _ _ h
        · exact State.answerCmp_ran _ _ _ (State.actWrite_ran _ (State.writeFull_ran _ _ h))
    · split
      · split
        · exact State.writePoison_ran _ h
        · exact State.answerCmp_ran _ _ _ (State.actWrite_ran _ (State.writePoison_ran _ h))
      · split
        · exact State.writePart_ran _ _ _ _ h
        · exact State.answerCmp_ran _ _ _ (State.actWrite_ran _ (State.writePart_ran _ _ _ _ h))
    · exact State.answerCmp_ran _ _ _ h
    · exact State.answerCmp_ran _ _ _ h
    · split
      · exact State.atomicAt_ran _ _ _ _ _ _ _ h
      · exact State.answerAtomic_ran _ _ _ _ (State.actWrite_ran _ (State.atomicAt_ran _ _ _ _ _ _ _ h))
      · exact State.answerAtomic_ran _ _ _ _ (State.atomicAt_ran _ _ _ _ _ _ _ h)
      · exact State.answerAtomic_ran _ _ _ _ (State.atomicAt_ran _ _ _ _ _ _ _ h)
    · exact h
    · exact h
    · exact h

theorem State.guardEvent_ran (line : Nat) (h : o.Ran s) : o.Ran (s.guardEvent line) := by
  unfold State.guardEvent
  dsimp only
  split
  · exact State.raise_ran _ (State.withHome_ran _ h)
  · exact h

theorem State.restOf_ran (who : Requester) (h : o.Ran s) : o.Ran (s.restOf who) :=
  State.ran_of_same (by simp [State.restOf_keeps]) h

theorem State.popReq_ran (q : QReq) (h : o.Ran s) : o.Ran (s.popReq q) :=
  State.restOf_ran _ (State.withHome_ran _ h)

theorem State.writtenBack_ran (line : Nat) (r : Option Nat) (w : Want) (h : o.Ran s) : o.Ran (s.writtenBack line r w) := by
  unfold State.writtenBack
  split
  · exact State.withHome_ran _ h
  · exact h

theorem State.sfGo_ran {line : Nat} {n : SfNext} {t : State} (moved : s.sfGo line n = some t) (h : o.Ran s) : o.Ran t :=
  State.ran_of_same (by simp [State.sfGo_keeps _ _ _ moved]) h

theorem State.goCoherent_ran (line : Nat) (q : QReq) (h : o.Ran s) : o.Ran (s.goCoherent line q).1 := by
  unfold State.goCoherent
  extract_lets e r w own guarded sn owned n refused
  split
  · exact State.loseLine_ran _ h
  · split
    · exact State.ran_of_same (by simp [State.sendSnoops_keeps]) h
    · split
      · exact h
      next t moved =>
        extract_lets served
        have served_ran : o.Ran served.1 := State.serveLine_ran _ _ (State.sfGo_ran moved h)
        split
        · refine State.popReq_ran _ (State.writtenBack_ran _ _ _ (State.when_ran served_ran ?_))
          exact fun t ht => State.guardEvent_ran _ (State.count_ran _ _ _ ht)
        · exact State.serveLine_ran _ _ h

theorem State.setReq_ran (q : QReq) (h : o.Ran s) : o.Ran (s.setReq q) :=
  State.withHome_ran _ h

/-- A head that has ended leaves its queue; one that has not stays. -/
theorem State.ended_ran (q : QReq) {r : State × Bool} (h : o.Ran r.1) :
    o.Ran (if r.2 then (r.1.popReq q, true) else (r.1, false)).1 := by
  split
  · exact State.popReq_ran _ h
  · exact h

theorem State.stepHead_ran (line : Nat) (h : o.Ran s) : o.Ran (s.stepHead line).1 := by
  unfold State.stepHead
  split
  · exact h
  next q _ =>
    extract_lets v q' write lost
    have v_ran : o.Ran v := State.setReq_ran _ h
    have write_ran : o.Ran write.1 := State.writePoison_ran _ v_ran
    have lost_ran : o.Ran lost.1 := State.loseLine_ran _ v_ran
    have popped : o.Ran (v.popReq q') := State.popReq_ran _ v_ran
    have snooped : ∀ l b w g, o.Ran (v.sendSnoops q' l b w g).1 := fun _ _ _ _ =>
      State.ran_of_same (by simp [State.sendSnoops_keeps]) v_ran
    clear_value v q' write lost
    split
    · exact v_ran
    · split
      · split
        · exact v_ran
        · exact State.setReq_ran _ (State.touch_ran _ v_ran)
      · split
        case h_1 =>
          split
          · split
            · exact write_ran
            · exact State.popReq_ran _ write_ran
          · split
            · exact snooped _ _ _ _
            · exact popped
        case h_2 =>
          split
          · exact State.ended_ran _ lost_ran
          · split
            · split
              · dsimp only
                split
                · exact snooped _ _ _ _
                · exact popped
              · exact popped
            · split
              · dsimp only
                split
                next moved => exact State.popReq_ran _ (State.sfGo_ran moved v_ran)
                next => exact popped
              · exact popped
        case h_3 =>
          split
          · exact State.ran_of_same (by simp [State.callFor_keeps]) v_ran
          · split
            · exact State.ended_ran _ (State.serveLine_ran _ _ v_ran)
            · exact State.goCoherent_ran _ _ v_ran

theorem State.runLines_ran (n : Nat) (l : List Nat) (h : o.Ran s) : o.Ran (s.runLines n l) := by
  fun_induction State.runLines n l s
  case case1 | case2 => exact h
  all_goals next ih => exact ih (State.stepHead_ran _ h)

theorem State.portCycle_ran (hs : Nat) (h : o.Ran s) : o.Ran (s.portCycle hs) := by
  unfold State.portCycle
  dsimp only
  split
  · exact h
  · exact State.withHome_ran _ h

theorem State.enqueue_ran (q : QReq) (tr : TrackerKind) (h : o.Ran s) : o.Ran (s.enqueue q tr) := by
  unfold State.enqueue
  extract_lets hs miss wait q' isWb snooped touched sampled counted coherent cycled
  have touched_ran : o.Ran touched := by
    dsimp only [touched]
    split
    · exact h
    · exact State.touch_ran _ h
  have counted_ran : o.Ran counted :=
    State.count_ran _ _ _ (State.when_ran touched_ran fun _ => State.sample_ran _)
  have coherent_ran : o.Ran coherent :=
    State.when_ran counted_ran fun _ => State.count_ran _ _ _
  exact State.runLines_ran _ _ (State.withHome_ran _ (State.portCycle_ran _ coherent_ran))

theorem State.useCredit_ran (hs : Nat) (c : ReqClass) (h : o.Ran s) : o.Ran (s.useCredit hs c) := by
  unfold State.useCredit
  split
  · exact h
  · split
    · exact State.withHome_ran _ h
    · exact State.enqueue_ran _ _ (State.withHome_ran _ h)

theorem State.takeIn_ran (q : QReq) (cred : Bool) (h : o.Ran s) : o.Ran (s.takeIn q cred) := by
  unfold State.takeIn
  dsimp only
  split
  · exact State.enqueue_ran _ _ h
  · split
    · split
      · exact State.enqueue_ran _ _ (State.withHome_ran _ h)
      · split
        · exact State.enqueue_ran _ _ h
        · exact h
    · split
      · exact State.enqueue_ran _ _ h
      · exact State.when_ran (State.withHome_ran _ (State.emit_ran _ (State.count_ran _ _ _ h))) fun _ => State.useCredit_ran _
          _

theorem State.readmit_ran (n : Nat) (h : o.Ran s) : o.Ran (s.readmit n) := by
  fun_induction State.readmit n s
  case case3 ih => exact ih (State.takeIn_ran _ _ (State.withHome_ran _ h))
  all_goals exact h

theorem State.runOn_ran (lines : List Nat) (h : o.Ran s) : o.Ran (s.runOn lines) :=
  State.readmit_ran _ (State.runLines_ran _ _ h)

theorem State.runAll_ran (h : o.Ran s) : o.Ran s.runAll :=
  State.runOn_ran _ h

end Ran
end Sys2Proof.Machine
end

section
/-! SUPPORT. Sub-domains that wake while nothing waits (R400), and the end of a retained write (R458-R460). -/

namespace Sys2Proof.Machine

/-! ### Where nothing waits -/

theorem State.idleWaits_waits (s : State) :
    s.idleWaits = true ↔ s.waits = (none, [], none, none, [], []) ∧ s.clk.held = [] := by
  rw [State.idleWaits_iff]
  simp only [State.waits, Prod.mk.injEq]
  constructor
  · rintro ⟨⟨sb, sbNext, mb, held⟩, switching, msgs, clk⟩
    exact ⟨⟨sb, sbNext, mb, switching, msgs, held⟩, clk⟩
  · rintro ⟨⟨sb, sbNext, mb, switching, msgs, held⟩, clk⟩
    exact ⟨⟨sb, sbNext, mb, held⟩, switching, msgs, clk⟩

theorem State.goOn_quiet {s : State} (h : s.waits = (none, [], none, none, [], [])) : s.goOn = s := by
  simp only [State.waits, Prod.mk.injEq] at h
  obtain ⟨sb, sbNext, mb, switching, -, held⟩ := h
  exact State.goOn_idle ⟨sb, sbNext, mb, held⟩ switching

/-- The requests that go on leave nothing waiting (R190). -/
theorem State.runAll_goOn {s : State} (h : s.waits = (none, [], none, none, [], [])) : s.runAll.goOn = s.runAll :=
  State.goOn_quiet ((State.runAll_ran (.refl s)).waits.trans h)

theorem State.wakeHeld_idle {s : State} (h : s.clk.held = []) : s.wakeHeld = s := by
  unfold State.wakeHeld
  simp only [h, List.filter_nil]
  conv_rhs => rw [show s = s.withClk { s.clk with held := s.clk.held } from rfl, h]
  rfl

theorem State.waits_congr {s t : State} (mgmt : t.mgmt = s.mgmt) (ret : t.ret = s.ret) : t.waits = s.waits := by
  simp only [State.waits, mgmt, ret]

theorem State.reach_waits (s : State) (t : Nat) : (s.reach t).waits = s.waits :=
  State.waits_congr (by simp [State.reach_keeps]) (by simp [State.reach_keeps])

/-! ### Sub-domains that wake -/

theorem State.powerUp_waits (s : State) (d : Nat × Nat) (auto : Bool) : (s.powerUp d auto).waits = s.waits :=
  State.waits_congr (by simp [State.powerUp_keeps]) (by simp [State.powerUp_keeps])

theorem State.powerUp_held (s : State) (d : Nat × Nat) (auto : Bool) : (s.powerUp d auto).clk.held = s.clk.held := by
  refine State.when_inv (fun t : State => t.clk.held) _ _ _ fun t => ?_
  simp [State.onClk, State.settleAll_keeps]

theorem State.powerUp_seen (s : State) (d : Nat × Nat) (auto : Bool) : (s.powerUp d auto).clk.seen = s.clk.seen := by
  refine State.when_inv (fun t : State => t.clk.seen) _ _ _ fun t => ?_
  simp [State.onClk, State.settleAll_keeps]

/-- What a sub-domain that is down becomes (R400). -/
theorem State.powerUp_clk {s : State} {d : Nat × Nat} (auto : Bool) (down : s.clk.down.getLsbD d.1 = true) :
    (s.powerUp d auto).clk = { s.clk with
      down := s.clk.down &&& ~~~(sdMask d), waking := wipe s.clk.waking d.1, wakes := satAdd 0xFFFF s.clk.wakes 1
      wokeAt := if auto then enter s.now s.clk.wokeAt d.1 else s.clk.wokeAt } := by
  have up : s.powerUp d auto = _ := State.when_pos s down
  rw [up, State.onClk, State.withClk_clk]
  simp only [State.settleAll_keeps]

theorem sdMask_first {d : Nat × Nat} (some_ : 0 < d.2) (small : d.1 < 384) : (sdMask d).getLsbD d.1 = true := by
  have odd : (2 ^ d.2 - 1).testBit 0 = true := by
    rw [Nat.testBit_two_pow_sub_one]
    simpa using some_
  rw [sdMask, BitVec.getLsbD_ofNat, Nat.testBit_shiftLeft, Nat.sub_self, odd]
  simp [small]

theorem sdDomains_ok (sd : SubDomain) : 0 < (sdDomains sd).2 ∧ (sdDomains sd).1 < 384 := by
  cases sd <;> simp only [sdDomains] <;> omega

/-- Power never goes where something wakes, and the sub-domain named has it (R400). -/
theorem State.powerUp_falls (s : State) (d : Nat × Nat) (auto : Bool) {i : Nat} (up : s.clk.down.getLsbD i = false) :
    (s.powerUp d auto).clk.down.getLsbD i = false := by
  cases down : s.clk.down.getLsbD d.1 with
  | false => rwa [show s.powerUp d auto = s from State.when_neg s down]
  | true => rw [State.powerUp_clk auto down, BitVec.getLsbD_and, up, Bool.false_and]

theorem State.powerUp_wakes (s : State) (sd : SubDomain) (auto : Bool) :
    (s.powerUp (sdDomains sd) auto).clk.down.getLsbD (sdDomains sd).1 = false := by
  obtain ⟨some_, small⟩ := sdDomains_ok sd
  cases down : s.clk.down.getLsbD (sdDomains sd).1 with
  | false => exact s.powerUp_falls _ auto down
  | true =>
    rw [State.powerUp_clk auto down, BitVec.getLsbD_and, BitVec.getLsbD_not, sdMask_first some_ small]
    simp

/-- Several sub-domains wake (R402). -/
def State.wakeAll (s : State) (l : List SubDomain) : State := s.each l fun s d => s.powerUp (sdDomains d) true

theorem State.wakeAll_inv {β : Type} (g : State → β) (s : State) (l : List SubDomain)
    (h : ∀ t d, g (t.powerUp (sdDomains d) true) = g t) : g (s.wakeAll l) = g s :=
  State.each_inv g s l _ h

theorem State.wakeAll_falls (s : State) (l : List SubDomain) {i : Nat} (up : s.clk.down.getLsbD i = false) :
    (s.wakeAll l).clk.down.getLsbD i = false :=
  foldl_holds (P := fun t : State => t.clk.down.getLsbD i = false) up fun t _ held => t.powerUp_falls _ _ held

theorem State.wakeAll_wakes (s : State) {l : List SubDomain} {sd : SubDomain} (mem : sd ∈ l) :
    (s.wakeAll l).clk.down.getLsbD (sdDomains sd).1 = false := by
  induction l generalizing s with
  | nil => cases mem
  | cons d l ih =>
    rcases List.mem_cons.mp mem with rfl | mem
    · exact State.wakeAll_falls (s.powerUp (sdDomains sd) true) l (s.powerUp_wakes sd true)
    · exact ih (s.powerUp (sdDomains d) true) mem

/-! ### Wakes that are given up -/

theorem State.engineStop_ran {o s : State} (k : Nat) (h : o.Ran s) : o.Ran (s.engineStop k) := by
  unfold State.engineStop
  refine State.when_ran (State.ran_of_same (s := s) ?_ h) fun _ => State.raiseEng_ran _ _ _ _
  simp [State.dropJob_keeps, State.onEng_keeps]

/-- The work of a sub-domain whose wake is given up goes elsewhere (R400). -/
def State.leaveWork (s : State) : SubDomain → State
  | .engine1 u => (s.engineStop (2 * u.val + 1)).onEng (2 * u.val + 1) (fun e => { e with faultAt := none, workAt := none })
  | _ => s

theorem State.leaveWork_ran {o s : State} (sd : SubDomain) (h : o.Ran s) : o.Ran (s.leaveWork sd) := by
  cases sd with
  | engine1 u =>
    exact State.ran_of_same (s := s.engineStop (2 * u.val + 1)) (by simp [State.leaveWork, State.onEng_keeps])
      (State.engineStop_ran _ h)
  | _ => exact h

theorem State.leaveWork_kept (s : State) (sd : SubDomain) :
    (s.leaveWork sd).now = s.now ∧ (s.leaveWork sd).clk = s.clk ∧ (s.leaveWork sd).boot = s.boot := by
  cases sd <;> simp [State.leaveWork, State.onEng_keeps, State.engineStop_keeps]

/-- A wake that is given up: the sub-domain stays down, quarantined (R400). -/
def State.gaveUp (s : State) (d : Nat) : State :=
  s.onClk fun c => { c with waking := wipe c.waking d, quar := c.quar ++ [d] }

theorem State.dropHeld_idle {s : State} (h : s.clk.held = []) (p : HeldAccess → Bool) :
    s.onClk (fun c => { c with held := c.held.filter p }) = s := by
  rw [State.onClk, h]
  conv_rhs => rw [show s = s.withClk { s.clk with held := s.clk.held } from rfl, h]
  rfl

theorem exec_subdomainWakeTimeout {s : State} {sd : SubDomain} {t0 : Nat} (began : s.wakeBegan sd = some t0)
    (held : s.clk.held = []) : exec (.subdomainWakeTimeout sd) s =
      .next (((((s.reach (t0 + us 30)).gaveUp (sdDomains sd).1).leaveWork sd).fileP (sdPage sd) 3 0).raiseClk 22 (sdPage sd)
        (sdDomains sd).1).runAll.goOn := by
  have still : ((s.reach (t0 + us 30)).gaveUp (sdDomains sd).1).clk.held = [] := by
    simpa [State.gaveUp, State.onClk, State.reach_keeps] using held
  change execSubdomainWakeTimeout sd s = _
  unfold execSubdomainWakeTimeout
  rw [began]
  dsimp only
  rw [show (s.reach (t0 + us 30)).onClk (fun c => { c with
      waking := wipe c.waking (sdDomains sd).1, quar := c.quar ++ [(sdDomains sd).1] }) =
    (s.reach (t0 + us 30)).gaveUp (sdDomains sd).1 from rfl]
  generalize (s.reach (t0 + us 30)).gaveUp (sdDomains sd).1 = v at still
  rw [State.dropHeld_idle still, still]
  cases sd <;> rfl

/-! ### The retained store -/

/-- A change of the retained store that touches only the queue of its writes. -/
def Retained.Queued (a b : Retained) : Prop := ∃ q, b = { a with queue := q }

theorem Retained.Queued.refl (a : Retained) : a.Queued a := ⟨a.queue, rfl⟩

theorem Retained.Queued.trans {a b c : Retained} : a.Queued b → b.Queued c → a.Queued c := by
  rintro ⟨_, rfl⟩ ⟨q, rfl⟩
  exact ⟨q, rfl⟩

theorem Retained.Queued.of_eq {a b : Retained} (h : b = a) : a.Queued b := h ▸ .refl a

theorem State.retWrite_queued (s : State) (k : Nat) (v : Word) (who : Option Master) :
    s.ret.Queued (s.retWrite k v who).ret := by
  unfold State.retWrite
  dsimp only
  split
  · exact .refl _
  · exact ⟨_, rfl⟩

theorem State.when_queued {s : State} {b : Bool} {f : State → State} (h : ∀ t : State, t.ret.Queued (f t).ret) :
    s.ret.Queued (s.when b f).ret := by
  cases b
  · exact .refl _
  · exact h s

theorem State.logIt_queued (s : State) (r : LogRec) (vital : Bool) (dest : List (BitVec 14)) :
    s.ret.Queued (s.logIt r vital dest).ret := by
  unfold State.logIt
  split
  · exact State.when_queued fun t => t.retWrite_queued _ _ _
  · exact .of_eq (by simp [State.deliverAll_keeps])

theorem State.raiseOne_queued (s : State) (e : Ev) : s.ret.Queued (s.raiseOne e).ret := by
  unfold State.raiseOne
  split
  · exact .refl _
  · dsimp only
    split
    · exact State.logIt_queued _ _ _ _
    · exact State.when_queued fun t => .of_eq (by simp [State.deliver_keeps])

/-- An event that rises may only queue a write of the retained store (R467). -/
theorem State.raise_queued (s : State) (e : Ev) : s.ret.Queued (s.raise e).ret := by
  have one := s.raiseOne_queued e
  unfold State.raise
  dsimp only
  split
  · exact one.trans (State.raiseOne_queued _ _)
  · exact one

theorem State.retWord_queued {s t : State} (h : s.ret.Queued t.ret) (k : Nat) : t.retWord k = s.retWord k := by
  obtain ⟨q, same⟩ := h
  simp only [State.retWord, same]

/-- A class D fault of the retained store queues writes at most (R462, R493). -/
theorem State.fileAt_queued (s : State) (site row col cause : Nat) : s.ret.Queued (s.fileAt site 2 row col cause).ret := by
  have mild : reactionOf (pageOfSite site) (classAt (pageOfSite site) 2) = 1 := by
    rw [show classAt (pageOfSite site) 2 = 2 by simp [classAt]]
    rfl
  have raised : ∀ (t : State) (src cls : Nat), t.ret.Queued (t.raiseFault src site cls cause 1).ret := fun t _ _ => t.raise_queued _
  have reset : ∀ (t : State) (u : Nat) (r : FaultRec), (t.setRec u r).ret = t.ret := fun _ _ _ => rfl
  unfold State.fileAt
  dsimp only
  rw [mild]
  split
  · exact (Retained.Queued.of_eq (reset _ _ _)).trans (raised _ _ _)
  · refine Retained.Queued.trans (.of_eq ?_) (State.when_queued fun t => raised t _ _)
    rw [reset]
    exact State.when_inv (fun t : State => t.ret) _ _ _ fun _ => rfl

theorem State.faultP_queued (s : State) (p cause : Nat) : s.ret.Queued (s.faultP p 2 cause).ret := by
  have mild : s.faultP p 2 cause = s.fileAt (siteOfPage p) 2 0xFFFF 0xFFFF cause := by
    unfold State.faultP State.fault
    dsimp only
    rw [show classAt (pageOfSite (siteOfPage p)) 2 = 2 by simp [classAt]]
    rfl
  rw [mild]
  exact s.fileAt_queued _ _ _ _

/-! ### The end of a retained write -/

theorem State.wornOut_congr {s t : State} (ret : t.ret = s.ret) (w : RetWrite) : t.wornOut w = s.wornOut w := by
  simp only [State.wornOut, State.retWord, ret]

/-- A write that is performed leaves its value in the store, and its word worn once more where it changed (R460). -/
theorem State.retDone_stored (s : State) (w : RetWrite) : ∃ q, (s.retDone w).ret = { s.ret with
      queue := q, result := 0, words := put (factoryWord w.key) s.ret.words w.key w.val, ue := s.ret.ue.filter (· != w.key)
      wear := if (s.retWord w.key == w.val && !s.ret.ue.contains w.key) = true then s.ret.wear
        else put 0 s.ret.wear w.key (min 0xFFFFFFFF (look 0 s.ret.wear w.key + 1)) } := by
  unfold State.retDone
  extract_lets wear same r stored worn booted
  have synced : ∀ t : State, t.ret.Queued t.hrdySync.ret := fun t => .of_eq (by simp [State.hrdySync_keeps])
  have sel : ∀ t : State, t.ret.Queued
      (((t.onMgmt fun g => { g with committing := false, committed := true }).raiseAt 45 dillPage (w.val.toNat % 2)).ret) :=
    fun t => State.raise_queued (t.onMgmt fun g => { g with committing := false, committed := true }) _
  have moved : stored.ret.Queued (booted.when
      (decide (0x10000 ≤ w.key) && kindOf ((w.key - 0x10000) / 4096) == .kHpgs) State.hrdySync).ret :=
    ((State.when_queued fun t => t.raise_queued _).trans (State.when_queued sel)).trans (State.when_queued synced)
  obtain ⟨q, it⟩ := moved
  exact ⟨q, it⟩

theorem State.retDone_ran {o s : State} (w : RetWrite) (h : o.Ran s) : o.Ran (s.retDone w) := by
  unfold State.retDone
  dsimp only
  refine State.when_ran (State.when_ran (State.when_ran (s := s.withRet _) ⟨h.lines, h.core, h.waits, h.pend⟩ ?_) ?_) ?_
  · exact fun _ => State.raiseAt_ran _ _ _
  · exact fun t ht => State.raiseAt_ran _ _ _ (s := t.onMgmt _) ⟨ht.lines, ht.core, ht.waits, ht.pend⟩
  · exact fun _ ht => State.ran_of_same (by simp [State.hrdySync_keeps]) ht

/-- The write at the front of the queue leaves it, and the next one starts (R458). -/
def State.frontLeaves (s : State) (rest : List RetWrite) : State :=
  s.withRet { s.ret with queue := match rest with
    | [] => []
    | e :: l => { e with at_ := s.now } :: l }

/-- The applier goes on, or stops, after a retained write that it waited for (R456). -/
def State.cfgGoes (s : State) (worn due : Bool) : State :=
  s.when due fun s => if worn then s.cfgFail else s.cfgNext

theorem State.cfgGoes_ran {o s : State} (worn due : Bool) (h : o.Ran s) : o.Ran (s.cfgGoes worn due) := by
  refine State.when_ran h fun t ht => ?_
  split
  · exact State.ran_of_same (s := t.raiseBoot 24 2 [t.boot.cfgIx]) (by simp [State.cfgFail, State.onBoot]) (State.raise_ran _ ht)
  · exact State.ran_of_same (by simp [State.cfgNext_keeps]) ht

theorem State.cfgGoes_queued (s : State) (worn due : Bool) : s.ret.Queued (s.cfgGoes worn due).ret := by
  refine State.when_queued fun t => ?_
  split
  · exact State.raise_queued _ _
  · exact .refl _

theorem State.cfgGoes_now (s : State) (worn due : Bool) : (s.cfgGoes worn due).now = s.now := by
  refine State.when_inv (fun t : State => t.now) _ _ _ fun t => ?_
  split <;> simp [State.cfgFail_keeps, State.cfgNext_keeps]

/-- The front of the queue ends, while nothing waits (R458, R460). -/
theorem State.retFront_eq (s : State) (w : RetWrite) (rest : List RetWrite) : ∃ due, s.retFront w rest =
    ((if s.wornOut w then (s.frontLeaves rest).retWorn w else (s.frontLeaves rest).retDone w).cfgGoes (s.wornOut w) due).goOn :=
  ⟨_, rfl⟩

theorem State.frontLeaves_waits (s : State) (rest : List RetWrite) : (s.frontLeaves rest).waits = s.waits := rfl

theorem State.raise_waits (s : State) (e : Ev) : (s.raise e).waits = s.waits := (State.raise_ran e (.refl s)).waits

/-- A refusal has no one to tell where nothing waits (R460, R540). -/
theorem State.retRefused_waits {s : State} (h : s.waits = (none, [], none, none, [], [])) (who : Option Master) :
    (s.retRefused who).waits = s.waits := by
  have quiet := h
  simp only [State.waits, Prod.mk.injEq] at quiet
  obtain ⟨sb, -, mb, -⟩ := quiet
  unfold State.retRefused
  split
  · simp [State.waits, State.onMgmt, sb]
  · exact State.waits_congr (by simp [State.emit_keeps]) (by simp [State.emit_keeps])
  · simp [State.waits, State.onMgmt, mb]
  · rfl

/-- A write that is refused for wear (R460). -/
theorem State.retWorn_stored (s : State) (w : RetWrite) :
    ({ s.ret with result := 1, refused := satAdd 0xFFFF s.ret.refused 1 } : Retained).Queued (s.retWorn w).ret := by
  unfold State.retWorn
  extract_lets r counted told noted tripped
  have tells : counted.ret.Queued told.ret := by
    have same : told.ret = (counted.raiseAt 40 rstorePage (keyWord w.key)).ret := (State.retRefused_keeps _ _).2.2.2.2.1
    rw [same]
    exact State.raise_queued _ _
  have notes : told.ret.Queued noted.ret := State.when_queued fun t => .of_eq (by simp [State.setStatus_keeps])
  have trips : noted.ret.Queued tripped.ret :=
    State.when_queued fun t => State.raise_queued (t.onHsc fun h => { h with refused := true }) _
  have ends := State.when_inv (fun t : State => t.ret) tripped (w.key == 0xA06)
    (fun s => s.onMgmt fun g => { g with committing := false }) fun _ => rfl
  exact tells.trans (notes.trans (trips.trans (.of_eq ends)))

theorem State.retWorn_waits {s : State} (h : s.waits = (none, [], none, none, [], [])) (w : RetWrite) :
    (s.retWorn w).waits = s.waits := by
  unfold State.retWorn
  extract_lets r counted told noted tripped
  have raised : (counted.raiseAt 40 rstorePage (keyWord w.key)).waits = s.waits := State.raise_waits counted _
  have tells : told.waits = s.waits := (State.retRefused_waits (raised.trans h) _).trans raised
  have notes : noted.waits = told.waits := State.when_inv State.waits _ _ _ fun t =>
    State.waits_congr (by simp [State.setStatus_keeps]) (by simp [State.setStatus_keeps])
  have trips : tripped.waits = noted.waits := State.when_inv State.waits _ _ _ fun t =>
    State.raise_waits (t.onHsc fun h => { h with refused := true }) _
  have ends := State.when_inv State.waits tripped (w.key == 0xA06)
    (fun s => s.onMgmt fun g => { g with committing := false }) fun _ => rfl
  exact ends.trans (trips.trans (notes.trans tells))

theorem State.raiseClk_waits (s : State) (src page subject : Nat) : (s.raiseClk src page subject).waits = s.waits :=
  State.raise_waits s _

theorem State.fileP_waits (s : State) (p cls cause : Nat) : (s.fileP p cls cause).waits = s.waits :=
  (State.fileP_ran p cls cause (.refl s)).waits

/-! ### WAKE_IN -/

/-- A recognition of a wake pin waits for two inactive and two active samples (R402). -/
def State.sampled (s : State) (n : Fin 2) : State :=
  match look? s.clk.wakeInAt n.val with
  | some t0 => s.reach (t0 + us 122)
  | none => s

theorem State.sampled_kept (s : State) (n : Fin 2) :
    (s.sampled n).clk = s.clk ∧ (s.sampled n).boot = s.boot ∧ (s.sampled n).waits = s.waits := by
  unfold State.sampled
  split
  · exact ⟨by simp [State.reach_keeps], by simp [State.reach_keeps], s.reach_waits _⟩
  · exact ⟨rfl, rfl, rfl⟩

/-- The pin is seen, with its event (R402, R404). -/
def State.recognised (s : State) (n : Fin 2) : State :=
  (s.onClk (fun c => { c with
    seen := c.seen ||| BitVec.ofNat 2 (2 ^ n.val), wakeInAt := enter s.now c.wakeInAt n.val })).raiseClk 21 pwrPage n.val

theorem State.recognised_kept (s : State) (n : Fin 2) : (s.recognised n).clk = { s.clk with
      seen := s.clk.seen ||| BitVec.ofNat 2 (2 ^ n.val), wakeInAt := enter s.now s.clk.wakeInAt n.val } ∧
    (s.recognised n).boot = s.boot ∧ (s.recognised n).waits = s.waits :=
  ⟨by simp [State.recognised, State.raiseClk_keeps, State.onClk], by simp [State.recognised, State.raiseClk_keeps, State.onClk],
    State.raiseClk_waits _ _ _ _⟩

theorem exec_wakeInRecognised {s : State} (n : Fin 2) (aux : s.boot.aux = true) : exec (.wakeInRecognised n) s =
    let act := s.cfg pwrPage 0x84 (1 + 3 * n.val) 2
    .next ((((s.sampled n).recognised n).when ((act == 1 || act == 3) && ((s.sampled n).recognised n).boot.main) (fun t =>
      (t.wakeAll (autoSubs.filter fun d => !t.clk.quar.contains (sdDomains d).1)).wakeHeld.runAll.goOn)).when
        (act == 2 || act == 3) State.wakeLeave) := by
  change execWakeInRecognised n s = _
  unfold execWakeInRecognised
  dsimp only
  rw [State.when_pos _ aux]
  rfl

/-! ### RSTORE_WRITE_DONE -/

theorem exec_rstoreWriteDone {s : State} {w : RetWrite} {rest : List RetWrite} (aux : s.boot.aux = true)
    (front : s.ret.queue = w :: rest) :
    exec .rstoreWriteDone s = .next ((if s.wornOut w then s else s.reach (w.at_ + us 25)).retFront w rest) := by
  change execRstoreWriteDone s = _
  unfold execRstoreWriteDone
  rw [aux, front]
  rfl

/-- A write that is performed, while nothing waits (R460). -/
theorem State.retFront_fresh {s : State} {w : RetWrite} (rest : List RetWrite) (quiet : s.waits = (none, [], none, none, [], []))
    (fresh : s.wornOut w = false) :
    (s.retFront w rest).now = s.now ∧ ((s.frontLeaves rest).retDone w).ret.Queued (s.retFront w rest).ret := by
  obtain ⟨due, it⟩ := s.retFront_eq w rest
  rw [it, fresh, if_neg Bool.false_ne_true]
  have waits := ((State.cfgGoes_ran false due (State.retDone_ran w (.refl (s.frontLeaves rest)))).waits.trans
    (s.frontLeaves_waits rest)).trans quiet
  rw [State.goOn_quiet waits]
  refine ⟨?_, State.cfgGoes_queued _ _ _⟩
  rw [State.cfgGoes_now]
  simp [State.retDone_keeps, State.frontLeaves]

/-- A write that is refused for wear, while nothing waits (R460). -/
theorem State.retFront_worn {s : State} {w : RetWrite} (rest : List RetWrite) (quiet : s.waits = (none, [], none, none, [], []))
    (worn : s.wornOut w = true) :
    (s.retFront w rest).now = s.now ∧ ((s.frontLeaves rest).retWorn w).ret.Queued (s.retFront w rest).ret := by
  obtain ⟨due, it⟩ := s.retFront_eq w rest
  rw [it, worn, if_pos rfl]
  have front := (s.frontLeaves_waits rest).trans quiet
  have waits := ((State.cfgGoes_ran true due (.refl ((s.frontLeaves rest).retWorn w))).waits.trans
    (State.retWorn_waits front w)).trans front
  rw [State.goOn_quiet waits]
  refine ⟨?_, State.cfgGoes_queued _ _ _⟩
  rw [State.cfgGoes_now]
  simp [State.retWorn_keeps, State.frontLeaves]

end Sys2Proof.Machine
end
section
/-! PROOF. Wakes and retained writes. -/
open Sys2Proof Sys2Proof.Machine

/-- Settles O39: while nothing waits, what goes on after a wake or a retained write leaves the clocks, the words of the store and
the pending bits; the clauses are then those of `State.powerUp` and `State.retFront`. -/
theorem wakesAndRetainedWrites : Obligations.WakesAndRetainedWrites := by
  unfold Obligations.WakesAndRetainedWrites
  refine ⟨?_, ?_, ?_, ?_, ?_, ?_⟩
  · intro s sd main wanted down free
    have run : exec (.subdomainWake sd) s = .next ((s.powerUp (sdDomains sd) (sdAuto sd)).wakeHeld.runAll.goOn) := by
      change execSubdomainWake sd s = _
      unfold execSubdomainWake
      dsimp only
      rw [State.when_pos _ (by rw [main, wanted, down, free]; rfl)]
    refine ⟨run, fun idle _ => .of_exec run ?_⟩
    obtain ⟨quiet, held⟩ := s.idleWaits_waits.mp idle
    have clk := State.powerUp_clk (sdAuto sd) down
    have quiet' := (s.powerUp_waits (sdDomains sd) (sdAuto sd)).trans quiet
    have held' := (s.powerUp_held (sdDomains sd) (sdAuto sd)).trans held
    have woke := s.powerUp_wakes sd (sdAuto sd)
    generalize s.powerUp (sdDomains sd) (sdAuto sd) = u at clk quiet' held' woke
    have kept : u.runAll.clk = u.clk := by simp [State.runAll_keeps]
    rw [State.wakeHeld_idle held', State.runAll_goOn quiet', kept]
    exact ⟨woke, by rw [clk], by rw [clk]; exact (look?_wipe _ _ _).trans (if_pos rfl)⟩
  · intro s sd t0 began idle _
    obtain ⟨quiet, held⟩ := s.idleWaits_waits.mp idle
    refine .of_exec (exec_subdomainWakeTimeout began held) ?_
    have quietv : (((s.reach (t0 + us 30)).gaveUp (sdDomains sd).1)).waits = (none, [], none, none, [], []) :=
      (s.reach_waits _).trans quiet
    have clkv : ((s.reach (t0 + us 30)).gaveUp (sdDomains sd).1).clk = { s.clk with
        waking := wipe s.clk.waking (sdDomains sd).1, quar := s.clk.quar ++ [(sdDomains sd).1] } := by
      simp [State.gaveUp, State.onClk, State.reach_keeps]
    have nowv : ((s.reach (t0 + us 30)).gaveUp (sdDomains sd).1).now = s.instant (t0 + us 30) := by
      simp [State.gaveUp, State.onClk]
    have bootv : ((s.reach (t0 + us 30)).gaveUp (sdDomains sd).1).boot = s.boot := by
      simp [State.gaveUp, State.onClk, State.reach_keeps]
    generalize (s.reach (t0 + us 30)).gaveUp (sdDomains sd).1 = v at quietv clkv nowv bootv
    obtain ⟨now, clk, boot⟩ := v.leaveWork_kept sd
    have quietx := (State.leaveWork_ran sd (.refl v)).waits.trans quietv
    generalize v.leaveWork sd = x at now clk boot quietx
    have quiety := ((State.raiseClk_waits _ 22 (sdPage sd) (sdDomains sd).1).trans
      (x.fileP_waits (sdPage sd) 3 0)).trans quietx
    have nowy : ((x.fileP (sdPage sd) 3 0).raiseClk 22 (sdPage sd) (sdDomains sd).1).now = x.now := by
      simp [State.raiseClk_keeps, State.fileP_keeps]
    have clky : ((x.fileP (sdPage sd) 3 0).raiseClk 22 (sdPage sd) (sdDomains sd).1).clk = x.clk := by
      simp [State.raiseClk_keeps, State.fileP_keeps]
    have pendy : x.boot.st ≠ 0 →
        ((x.fileP (sdPage sd) 3 0).raiseClk 22 (sdPage sd) (sdDomains sd).1).evt.pend.getLsbD 22 = true := fun up =>
      State.raiseClk_pend (by decide) (by simpa [State.fileP_keeps] using up) _ _
    generalize (x.fileP (sdPage sd) 3 0).raiseClk 22 (sdPage sd) (sdDomains sd).1 = y at quiety nowy clky pendy
    have nowt : y.runAll.now = y.now := by simp [State.runAll_keeps]
    have clkt : y.runAll.clk = y.clk := by simp [State.runAll_keeps]
    rw [State.runAll_goOn quiety, nowt, clkt, nowy, clky, now, clk, nowv, clkv]
    refine ⟨rfl, by simp, (look?_wipe _ _ _).trans (if_pos rfl), rfl, fun up => ?_⟩
    exact (State.runAll_ran (.refl y)).pend 22 (pendy (by rw [boot, bootv]; exact up))
  · intro s n u aux idle _ at_
    obtain ⟨quiet, held⟩ := s.idleWaits_waits.mp idle
    obtain rfl : u = s.sampled n := at_
    have run := exec_wakeInRecognised n aux
    dsimp only at run
    obtain ⟨clks, boots, waitss⟩ := s.sampled_kept n
    obtain ⟨clkr, bootr, waitsr⟩ := (s.sampled n).recognised_kept n
    refine ⟨fun none_ => ?_, fun wakes main => .of_exec (run.trans (by rw [wakes])) ?_, fun leaves => ?_⟩
    · rw [run, none_]
      rfl
    · rw [bootr, boots, main, State.when_neg _ (show ((1 : Nat) == 2 || (1 : Nat) == 3) = false from rfl),
        State.when_pos _ (show (((1 : Nat) == 1 || (1 : Nat) == 3) && true) = true from rfl)]
      generalize (s.sampled n).recognised n = r at clkr waitsr
      have quar : r.clk.quar = s.clk.quar := by rw [clkr, clks]
      have heldr : r.clk.held = [] := by rw [clkr, clks]; exact held
      have woken : ∀ d ∈ autoSubs, s.clk.quar.contains (sdDomains d).1 = false →
          (r.wakeAll (autoSubs.filter fun d => !r.clk.quar.contains (sdDomains d).1)).clk.down.getLsbD (sdDomains d).1 = false :=
        fun d mem free => State.wakeAll_wakes r (List.mem_filter.mpr ⟨mem, by rw [quar, free]; rfl⟩)
      generalize autoSubs.filter (fun d => !r.clk.quar.contains (sdDomains d).1) = l at woken
      have waitsl := ((r.wakeAll_inv State.waits l fun t d => t.powerUp_waits _ _).trans (waitsr.trans waitss)).trans quiet
      have heldl := (r.wakeAll_inv (fun t => t.clk.held) l fun t d => t.powerUp_held _ _).trans heldr
      have seenl := r.wakeAll_inv (fun t => t.clk.seen) l fun t d => t.powerUp_seen _ _
      have kept : (r.wakeAll l).runAll.clk = (r.wakeAll l).clk := by simp [State.runAll_keeps]
      rw [State.wakeHeld_idle heldl, State.runAll_goOn waitsl, kept, seenl, clkr]
      refine ⟨?_, woken⟩
      rw [BitVec.getLsbD_or, BitVec.getLsbD_ofNat, Nat.testBit_two_pow_self, decide_eq_true n.isLt, Bool.true_and, Bool.or_true]
    · rw [run, leaves]
      rfl
  · intro s w rest aux idle front fresh
    obtain ⟨quiet, -⟩ := s.idleWaits_waits.mp idle
    have run := exec_rstoreWriteDone aux front
    rw [fresh, if_neg Bool.false_ne_true] at run
    refine .of_exec run ?_
    have same : (s.reach (w.at_ + us 25)).ret = s.ret := by simp [State.reach_keeps]
    have now : (s.reach (w.at_ + us 25)).now = s.instant (w.at_ + us 25) := s.reach_now _
    have quietv := (s.reach_waits (w.at_ + us 25)).trans quiet
    have freshv := (State.wornOut_congr same w).trans fresh
    generalize s.reach (w.at_ + us 25) = v at same now quietv freshv
    obtain ⟨nowt, done⟩ := State.retFront_fresh rest quietv freshv
    obtain ⟨q, stored⟩ := (v.frontLeaves rest).retDone_stored w
    rw [stored] at done
    obtain ⟨q', kept⟩ := done
    have front : (v.frontLeaves rest).ret.words = s.ret.words ∧ (v.frontLeaves rest).ret.ue = s.ret.ue ∧
        (v.frontLeaves rest).ret.wear = s.ret.wear ∧ (v.frontLeaves rest).retWord w.key = s.retWord w.key := by
      refine ⟨by rw [← same]; rfl, by rw [← same]; rfl, by rw [← same]; rfl, ?_⟩
      simp [State.retWord, State.frontLeaves, same]
    obtain ⟨words, ue, wear, word⟩ := front
    rw [words, ue, wear, word] at kept
    generalize v.retFront w rest = t at nowt kept
    refine ⟨nowt.trans now, ?_, by rw [kept], ?_⟩
    · simp [State.retWord, kept]
    · rw [kept]
      by_cases held : s.retWord w.key = w.val ∧ s.ret.ue.contains w.key = false
      · obtain ⟨value, good⟩ := held
        have unchanged : (s.retWord w.key == w.val && !s.ret.ue.contains w.key) = true := by rw [value, good, beq_self_eq_true]; rfl
        rw [if_pos unchanged, if_pos ⟨value, good⟩]
      · have changed : ¬ (s.retWord w.key == w.val && !s.ret.ue.contains w.key) = true := by
          simpa [Bool.and_eq_true, beq_iff_eq] using held
        rw [if_neg held, if_neg changed, look_put_same]
  · intro s w rest aux idle front worn
    obtain ⟨quiet, -⟩ := s.idleWaits_waits.mp idle
    have run := exec_rstoreWriteDone aux front
    rw [worn, if_pos rfl] at run
    refine .of_exec run ?_
    obtain ⟨nowt, done⟩ := State.retFront_worn rest quiet worn
    obtain ⟨q, kept⟩ := ((s.frontLeaves rest).retWorn_stored w).trans done
    generalize s.retFront w rest = t at nowt kept
    refine ⟨nowt, ?_, by rw [kept], by rw [kept]; rfl⟩
    simp only [State.retWord, kept]
    rfl
  · intro s w aux good
    have run : exec (.retainedWordUe w) s =
        .next (((s.withRet { s.ret with result := 2, ue := s.ret.ue ++ [rawKey w.toNat] }).raiseAt 42 rstorePage
          w.toNat).faultP rstorePage 2 0) := by
      change execRetainedWordUe w s = _
      unfold execRetainedWordUe
      dsimp only
      rw [State.when_pos _ (by rw [aux, good]; rfl)]
    refine .of_exec run ?_
    obtain ⟨q, kept⟩ := (State.raise_queued (s.withRet { s.ret with result := 2, ue := s.ret.ue ++ [rawKey w.toNat] })
      { src := 42, site := siteOfPage rstorePage, subject := w.toNat }).trans (State.faultP_queued _ rstorePage 0)
    change State.ret (State.faultP (State.raiseAt _ 42 rstorePage w.toNat) rstorePage 2 0) = _ at kept
    generalize State.faultP (State.raiseAt _ 42 rstorePage w.toNat) rstorePage 2 0 = t at kept
    refine ⟨by simp [kept], by rw [kept]; rfl, ?_⟩
    simp [State.rawWord, kept]
end

section
/-! SUPPORT. What every operation leaves of the two memories: their form. Requests of memory lines keep it (`State.Ran`); an
operation that changes neither memory has its lemma `State.op_keeps`. -/

namespace Sys2Proof.Machine

section Form
variable {s : State}

/-! ### Composition -/

theorem State.form_of_same {t : State} (e : t.mem = s.mem ∧ t.core = s.core) (h : s.Form) : t.Form := by
  obtain ⟨mem, core⟩ := e
  exact ⟨mem ▸ h.lines, core ▸ h.sram⟩

theorem State.when_form {b : Bool} {f : State → State} (h : s.Form) (step : ∀ t : State, t.Form → (f t).Form) :
    (s.when b f).Form := by
  unfold State.when
  split
  · exact step s h
  · exact h

theorem State.each_form {α : Type} {f : State → α → State} (l : List α) (h : s.Form)
    (step : ∀ t a, t.Form → (f t a).Form) : (s.each l f).Form :=
  foldl_holds h step

theorem State.withLines_form {m : Media} (h : s.Form) (kept : Rises s.mem.lines → Rises m.lines) : (s.withMem m).Form :=
  ⟨kept h.lines, h.sram⟩

theorem State.withMem_form {m : Media} (h : s.Form) (same : m.lines = s.mem.lines) : (s.withMem m).Form :=
  State.withLines_form h fun r => same ▸ r

theorem State.withSram_form {c : Cores} (h : s.Form) (kept : wf 0 s.core.sram = true → wf 0 c.sram = true) : (s.withCore c).Form :=
  ⟨h.lines, kept h.sram⟩

theorem State.withCore_form {c : Cores} (h : s.Form) (same : c.sram = s.core.sram) : (s.withCore c).Form :=
  State.withSram_form h fun r => same ▸ r

/-! ### Operations that change neither memory -/

theorem State.setAtoms_form (hs : Nat) (l : List AtomLine) (h : s.Form) : (s.setAtoms hs l).Form :=
  State.form_of_same (by simp [State.setAtoms_keeps]) h

theorem State.endDiscard_form (u : Nat) (h : s.Form) : (s.endDiscard u).Form :=
  State.form_of_same (by simp [State.endDiscard_keeps]) h

theorem State.disableChan_form (c cause slot : Nat) (h : s.Form) : (s.disableChan c cause slot).Form :=
  State.form_of_same (by simp [State.disableChan_keeps]) h

theorem State.onChan_form (k : Nat) (f : Channel → Channel) (h : s.Form) : (s.onChan k f).Form :=
  State.form_of_same (by simp [State.onChan_keeps]) h

theorem State.loadTimings_form (c speed : Nat) (h : s.Form) : (s.loadTimings c speed).Form :=
  State.form_of_same (by simp [State.loadTimings_keeps]) h

theorem State.settleAll_form (h : s.Form) : s.settleAll.Form :=
  State.form_of_same (by simp [State.settleAll_keeps]) h

theorem State.onBoot_form (f : Boot → Boot) (h : s.Form) : (s.onBoot f).Form :=
  State.form_of_same (by simp [State.onBoot_keeps]) h

theorem State.loadConfig_form (h : s.Form) : s.loadConfig.Form :=
  State.form_of_same (by simp [State.loadConfig_keeps]) h

theorem State.devRecovered_form (h : s.Form) : s.devRecovered.Form :=
  State.form_of_same (by simp [State.devRecovered_keeps]) h

theorem State.seedLfsrs_form (h : s.Form) : s.seedLfsrs.Form :=
  State.form_of_same (by simp [State.seedLfsrs_keeps]) h

theorem State.takeFree_form (h : s.Form) : s.takeFree.Form :=
  State.form_of_same (by simp [State.takeFree_keeps]) h

theorem State.raise_form (e : Ev) (h : s.Form) : (s.raise e).Form :=
  State.form_of_same (by simp [State.raise_keeps]) h

theorem State.unlockIfDown_form (was : Bool) (h : s.Form) : (s.unlockIfDown was).Form :=
  State.form_of_same (by simp [State.unlockIfDown_keeps]) h

theorem State.raiseLink_form (l k : Nat) (ld : Option Nat) (subject : Nat) (h : s.Form) : (s.raiseLink l k ld subject).Form :=
  State.form_of_same (by simp [State.raiseLink_keeps]) h

theorem State.onLink_form (k : Nat) (f : Link → Link) (h : s.Form) : (s.onLink k f).Form :=
  State.form_of_same (by simp [State.onLink_keeps]) h

theorem State.dropForwarded_form (l : List Nat) (h : s.Form) : (s.dropForwarded l).Form :=
  State.form_of_same (by simp [State.dropForwarded_keeps]) h

theorem State.dropAccess_form (l : List Nat) (h : s.Form) : (s.dropAccess l).Form :=
  State.form_of_same (by simp [State.dropAccess_keeps]) h

theorem State.dropDest_form (p : Nat) (m : Migration) (h : s.Form) : (s.dropDest p m).Form :=
  State.form_of_same (by simp [State.dropDest_keeps]) h

theorem State.raiseHs_form (hs k en subject : Nat) (ld : Option Nat) (h : s.Form) : (s.raiseHs hs k en subject ld).Form :=
  State.form_of_same (by simp [State.raiseHs_keeps]) h

theorem State.withBrg_form (x : BorageSite) (h : s.Form) : (s.withBrg x).Form :=
  State.form_of_same (by simp) h

theorem State.hrdySync_form (h : s.Form) : s.hrdySync.Form :=
  State.form_of_same (by simp [State.hrdySync_keeps]) h

theorem State.turnSlices_form (u : Nat) (p : Nat → Bool) (h : s.Form) : (s.turnSlices u p).Form :=
  State.form_of_same (by simp [State.turnSlices_keeps]) h

theorem State.fileAt_form (site cls row col cause : Nat) (h : s.Form) : (s.fileAt site cls row col cause).Form :=
  State.form_of_same (by simp [State.fileAt_keeps]) h

theorem State.touchLock_form (m : Master) (p : Nat) (h : s.Form) : (s.touchLock m p).Form :=
  State.form_of_same (by simp [State.touchLock_keeps]) h

theorem State.usedAt_form (off : Nat) (h : s.Form) : (s.usedAt off).Form :=
  State.form_of_same (by simp [State.usedAt_keeps]) h

theorem State.countAccess_form (off : Nat) (h : s.Form) : (s.countAccess off).Form :=
  State.form_of_same (by simp [State.countAccess_keeps]) h

theorem State.unclaimed_form (m : Master) (off : Nat) (posted : Bool) (h : s.Form) : (s.unclaimed m off posted).Form :=
  State.form_of_same (by simp [State.unclaimed_keeps]) h

theorem State.wstat_form (lo w : Nat) (h : s.Form) : (s.wstat lo w).Form :=
  State.form_of_same (by simp [State.wstat_keeps]) h

theorem State.brgRegSend_form (m : Master) (off : Nat) (wr : Option Word) (h : s.Form) : (s.brgRegSend m off wr).Form :=
  State.form_of_same (by simp [State.brgRegSend_keeps]) h

theorem State.setStatus_form (p b : Nat) (h : s.Form) : (s.setStatus p b).Form :=
  State.form_of_same (by simp [State.setStatus_keeps]) h

theorem State.withClk_form (x : Clocks) (h : s.Form) : (s.withClk x).Form :=
  State.form_of_same (by simp) h

theorem State.startWake_form (d : Nat) (h : s.Form) : (s.startWake d).Form :=
  State.form_of_same (by simp [State.startWake_keeps]) h

theorem State.storeWrite_form (off : Nat) (val : Word) (who : Option Master) (h : s.Form) : (s.storeWrite off val who).Form :=
  State.form_of_same (by simp [State.storeWrite_keeps]) h

theorem State.raiseAt_form (src page subject : Nat) (h : s.Form) : (s.raiseAt src page subject).Form :=
  State.form_of_same (by simp [State.raiseAt_keeps]) h

theorem State.levels_form (d : Nat) (h : s.Form) : (s.levels d).Form :=
  State.form_of_same (by simp [State.levels_keeps]) h

theorem State.knowTotal_form (h : s.Form) : s.knowTotal.Form :=
  State.form_of_same (by simp [State.knowTotal_keeps]) h

theorem State.withRegs_form (x : Regs) (h : s.Form) : (s.withRegs x).Form :=
  State.form_of_same (by simp) h

theorem State.capResult_form (r : Nat) (h : s.Form) : (s.capResult r).Form :=
  State.form_of_same (by simp [State.capResult_keeps]) h

theorem State.setTdata_form (k v : Nat) (h : s.Form) : (s.setTdata k v).Form :=
  State.form_of_same (by simp [State.setTdata_keeps]) h

theorem State.toHolders_form (e kind : Nat) (h : s.Form) : (s.toHolders e kind).Form :=
  State.form_of_same (by simp [State.toHolders_keeps]) h

theorem State.extEvent_form (src e : Nat) (ld : Option Nat) (h : s.Form) : (s.extEvent src e ld).Form :=
  State.form_of_same (by simp [State.extEvent_keeps]) h

theorem State.onExt_form (k : Nat) (f : ExtentEntry → ExtentEntry) (h : s.Form) : (s.onExt k f).Form :=
  State.form_of_same (by simp [State.onExt_keeps]) h

theorem State.freeRunOf_form (i f n : Nat) (h : s.Form) : (s.freeRunOf i f n).Form :=
  State.form_of_same (by simp [State.freeRunOf_keeps]) h

theorem State.useRun_form (i f n : Nat) (h : s.Form) : (s.useRun i f n).Form :=
  State.form_of_same (by simp [State.useRun_keeps]) h

theorem State.svcResult_form (c r : Nat) (h : s.Form) : (s.svcResult c r).Form :=
  State.form_of_same (by simp [State.svcResult_keeps]) h

theorem State.raiseChan_form (c k en code : Nat) (detail : List Nat) (h : s.Form) : (s.raiseChan c k en code detail).Form :=
  State.form_of_same (by simp [State.raiseChan_keeps]) h

theorem State.ddrpResult_form (c r : Nat) (h : s.Form) : (s.ddrpResult c r).Form :=
  State.form_of_same (by simp [State.ddrpResult_keeps]) h

theorem State.setMir_form (ev : Nat) (m : MirState) (h : s.Form) : (s.setMir ev m).Form :=
  State.form_of_same (by simp [State.setMir_keeps]) h

theorem State.checkFilter_form (p : Nat → Bool) (h : s.Form) : (s.checkFilter p).Form :=
  State.form_of_same (by simp [State.checkFilter_keeps]) h

theorem State.withTier_form (x : Tier) (h : s.Form) : (s.withTier x).Form :=
  State.form_of_same (by simp) h

theorem State.withObs_form (x : Observe) (h : s.Form) : (s.withObs x).Form :=
  State.form_of_same (by simp) h

theorem State.checkSlice_form (hs : Nat) (h : s.Form) : (s.checkSlice hs).Form :=
  State.form_of_same (by simp [State.checkSlice_keeps]) h

theorem State.endRerun_form (slot : Nat) (h : s.Form) : (s.endRerun slot).Form :=
  State.form_of_same (by simp [State.endRerun_keeps]) h

theorem State.raiseBoot_form (src subject : Nat) (detail : List Nat) (h : s.Form) : (s.raiseBoot src subject detail).Form :=
  State.form_of_same (by simp [State.raiseBoot_keeps]) h

theorem State.dropHeld_form (h : s.Form) : s.dropHeld.Form :=
  State.form_of_same (by simp [State.dropHeld_keeps]) h

theorem State.loadRwp_form (h : s.Form) : s.loadRwp.Form :=
  State.form_of_same (by simp [State.loadRwp_keeps]) h

theorem State.powerGood_form (h : s.Form) : s.powerGood.Form :=
  State.form_of_same (by simp [State.powerGood_keeps]) h

theorem State.hscStart_form (h : s.Form) : s.hscStart.Form :=
  State.form_of_same (by simp [State.hscStart_keeps]) h

theorem State.closeDev_form (h : s.Form) : s.closeDev.Form :=
  State.form_of_same (by simp [State.closeDev_keeps]) h

theorem State.holdHrdy_form (h : s.Form) : s.holdHrdy.Form :=
  State.form_of_same (by simp [State.holdHrdy_keeps]) h

theorem State.storeRcnt_form (h : s.Form) : s.storeRcnt.Form :=
  State.form_of_same (by simp [State.storeRcnt_keeps]) h

theorem State.modOff_form (e : Nat) (h : s.Form) : (s.modOff e).Form :=
  State.form_of_same (by simp [State.modOff_keeps]) h

theorem State.clearFunction_form (n : Nat) (h : s.Form) : (s.clearFunction n).Form :=
  State.form_of_same (by simp [State.clearFunction_keeps]) h

theorem State.onLd_form (k : Nat) (f : LogicalDev → LogicalDev) (h : s.Form) : (s.onLd k f).Form :=
  State.form_of_same (by simp [State.onLd_keeps]) h

theorem State.resetRegs_form (p : Nat → Bool) (keep : Bool) (h : s.Form) : (s.resetRegs p keep).Form :=
  State.form_of_same (by simp [State.resetRegs_keeps]) h

theorem State.brgRelease_form (h : s.Form) : s.brgRelease.Form :=
  State.form_of_same (by simp [State.brgRelease_keeps]) h

theorem State.withMgmt_form (x : Management) (h : s.Form) : (s.withMgmt x).Form :=
  State.form_of_same (by simp) h

theorem State.pmicsOff_form (h : s.Form) : s.pmicsOff.Form :=
  State.form_of_same (by simp [State.pmicsOff_keeps]) h

theorem State.brgReset_form (h : s.Form) : s.brgReset.Form :=
  State.form_of_same (by simp [State.brgReset_keeps]) h

theorem State.fwuResult_form (r : Nat) (h : s.Form) : (s.fwuResult r).Form :=
  State.form_of_same (by simp [State.fwuResult_keeps]) h

theorem State.onMgmt_form (f : Management → Management) (h : s.Form) : (s.onMgmt f).Form :=
  State.form_of_same (by simp [State.onMgmt_keeps]) h

theorem State.startSwitch_form (back : Bool) (h : s.Form) : (s.startSwitch back).Form :=
  State.form_of_same (by simp [State.startSwitch_keeps]) h

theorem State.closeRec_form (u : Nat) (h : s.Form) : (s.closeRec u).Form :=
  State.form_of_same (by simp [State.closeRec_keeps]) h

theorem State.fcResult_form (r : Nat) (h : s.Form) : (s.fcResult r).Form :=
  State.form_of_same (by simp [State.fcResult_keeps]) h

theorem State.readReg_form (m : Master) (off : Nat) (h : s.Form) : (s.readReg m off).1.Form :=
  State.form_of_same (by simp [State.readReg_keeps]) h

theorem State.emit_form (m : Msg) (h : s.Form) : (s.emit m).Form :=
  State.form_of_same (by simp [State.emit_keeps]) h

theorem State.extTo_form (e : Nat) (st : ExtState) (h : s.Form) : (s.extTo e st).Form :=
  State.form_of_same (by simp [State.extTo_keeps]) h

theorem State.mbDone_form (ld op : Nat) (data : List Nat) (h : s.Form) : (s.mbDone ld op data).Form :=
  State.form_of_same (by simp [State.mbDone_keeps]) h

theorem State.negotiate_form (l : Nat) (oo : PartnerOffer) (h : s.Form) : (s.negotiate l oo).Form :=
  State.form_of_same (by simp [State.negotiate_keeps]) h

theorem State.agentsBack_form (l : List Nat) (h : s.Form) : (s.agentsBack l).Form :=
  State.form_of_same (by simp [State.agentsBack_keeps]) h

theorem State.brgTurn_form (a tag line : Nat) (k : ReqKind) (h : s.Form) : (s.brgTurn a tag line k).Form :=
  State.form_of_same (by simp [State.brgTurn_keeps]) h

theorem State.arrives_form (m : Master) (h : s.Form) : (s.arrives m).Form :=
  State.form_of_same (by simp [State.arrives_keeps]) h

theorem State.afterChange_form (off : Nat) (h : s.Form) : (s.afterChange off).Form :=
  State.form_of_same (by simp [State.afterChange_keeps]) h

theorem State.holdAccess_form (hh : HeldAccess) (h : s.Form) : (s.holdAccess hh).Form :=
  State.form_of_same (by simp [State.holdAccess_keeps]) h

theorem State.finish_form (m : Master) (h : s.Form) : (s.finish m).Form :=
  State.form_of_same (by simp [State.finish_keeps]) h

theorem State.refuse_form (m : Master) (status : Nat) (h : s.Form) : (s.refuse m status).Form :=
  State.form_of_same (by simp [State.refuse_keeps]) h

theorem State.onHsc_form (f : HotSwap → HotSwap) (h : s.Form) : (s.onHsc f).Form :=
  State.form_of_same (by simp [State.onHsc_keeps]) h

theorem State.tornWrites_form (h : s.Form) : s.tornWrites.Form :=
  State.form_of_same (by simp [State.tornWrites_keeps]) h

theorem State.retWrite_form (k : Nat) (v : Word) (who : Option Master) (h : s.Form) : (s.retWrite k v who).Form :=
  State.form_of_same (by simp [State.retWrite_keeps]) h

theorem State.onGrp_form (k : Nat) (f : PortGroup → PortGroup) (h : s.Form) : (s.onGrp k f).Form :=
  State.form_of_same (by simp [State.onGrp_keeps]) h

theorem State.bootStart_form (h : s.Form) : s.bootStart.Form :=
  State.form_of_same (by simp [State.bootStart_keeps]) h

theorem State.restLink_form (ld : Nat) (h : s.Form) : (s.restLink ld).Form :=
  State.form_of_same (by simp [State.restLink_keeps]) h

theorem State.returnRead_form (m : Master) (off : Nat) (v : Word) (h : s.Form) : (s.returnRead m off v).Form :=
  State.form_of_same (by simp [State.returnRead_keeps]) h

theorem State.withRet_form (x : Retained) (h : s.Form) : (s.withRet x).Form :=
  State.form_of_same (by simp) h

theorem State.cfgFail_form (h : s.Form) : s.cfgFail.Form :=
  State.form_of_same (by simp [State.cfgFail_keeps]) h

theorem State.drainStalled_form (c : Nat) (h : s.Form) : (s.drainStalled c).Form :=
  State.form_of_same (by simp [State.drainStalled_keeps]) h

theorem State.coast_form (n : Nat) (lost : Option Nat) (h : s.Form) : (s.coast n lost).Form :=
  State.form_of_same (by simp [State.coast_keeps]) h

theorem State.discSync_form (h : s.Form) : s.discSync.Form :=
  State.form_of_same (by simp [State.discSync_keeps]) h

theorem State.withFree_form (x : Nat) (h : s.Form) : (s.withFree x).Form :=
  State.form_of_same (by simp) h

theorem State.retStore_form (c : Fin 2) (w : BufWrite) (h : s.Form) : (s.retStore c w).Form :=
  State.form_of_same (by simp [State.retStore_keeps]) h

theorem State.tierCount_form (k : Nat) (h : s.Form) : (s.tierCount k).Form :=
  State.form_of_same (by simp [State.tierCount_keeps]) h

theorem State.giveBack_form (p : Nat) (e : PageEntry) (h : s.Form) : (s.giveBack p e).Form :=
  State.form_of_same (by simp [State.giveBack_keeps]) h

theorem State.compressed_form (k pages : Nat) (h : s.Form) : (s.compressed k pages).Form :=
  State.form_of_same (by simp [State.compressed_keeps]) h

theorem State.engineUsed_form (k : Nat) (h : s.Form) : (s.engineUsed k).Form :=
  State.form_of_same (by simp [State.engineUsed_keeps]) h

theorem State.count_form (p code n : Nat) (h : s.Form) : (s.count p code n).Form :=
  State.form_of_same (by simp [State.count_keeps]) h

theorem State.noBin_form (h : s.Form) : s.noBin.Form :=
  State.form_of_same (by simp [State.noBin_keeps]) h

theorem State.verifyFail_form (k page : Nat) (h : s.Form) : (s.verifyFail k page).Form :=
  State.form_of_same (by simp [State.verifyFail_keeps]) h

theorem State.giveBin_form (p i loc cls : Nat) (h : s.Form) : (s.giveBin p i loc cls).Form :=
  State.form_of_same (by simp [State.giveBin_keeps]) h

theorem State.takeBin_form {p u cls : Nat} {no : List Nat} {r : State × Nat × Nat} (took : s.takeBin p u cls no = some r)
    (h : s.Form) : r.1.Form :=
  State.form_of_same (by simp [State.takeBin_keeps _ _ _ _ _ took]) h

theorem State.dropParcels_form (p : Nat) (h : s.Form) : (s.dropParcels p).Form :=
  State.form_of_same (by simp [State.dropParcels_keeps]) h

theorem State.fileP_form (p cls cause : Nat) (h : s.Form) : (s.fileP p cls cause).Form :=
  State.form_of_same (by simp [State.fileP_keeps]) h

theorem State.repayAll_form (c : Nat) (h : s.Form) : (s.repayAll c).Form :=
  State.form_of_same (by simp [State.repayAll_keeps]) h

theorem State.failDesc_form (q ix st off : Nat) (h : s.Form) : (s.failDesc q ix st off).Form :=
  State.form_of_same (by simp [State.failDesc_keeps]) h

theorem State.elemFailed_form (key st k : Nat) (h : s.Form) : (s.elemFailed key st k).Form :=
  State.form_of_same (by simp [State.elemFailed_keeps]) h

theorem State.callEngine_form (k : Nat) (h : s.Form) : (s.callEngine k).Form :=
  State.form_of_same (by simp [State.callEngine_keeps]) h

theorem State.engineFailed_form (q : Nat) (d : Desc) (h : s.Form) : (s.engineFailed q d).Form :=
  State.form_of_same (by simp [State.engineFailed_keeps]) h

theorem State.onDesc_form (q ix : Nat) (f : Desc → Desc) (h : s.Form) : (s.onDesc q ix f).Form :=
  State.form_of_same (by simp [State.onDesc_keeps]) h

theorem State.recordDone_form (q : Nat) (d : Desc) (h : s.Form) : (s.recordDone q d).Form :=
  State.form_of_same (by simp [State.recordDone_keeps]) h

theorem State.hostWrites_form (n q at_ : Nat) (d : List Byte) (last bad : Bool) (h : s.Form) :
    (State.hostWrites n q at_ d last bad s).Form :=
  State.form_of_same (by simp [State.hostWrites_keeps]) h

theorem State.endDesc_form (q ix : Nat) (f : Desc → Desc) (h : s.Form) : (s.endDesc q ix f).Form :=
  State.form_of_same (by simp [State.endDesc_keeps]) h

theorem State.moved_form (q bytes : Nat) (h : s.Form) : (s.moved q bytes).Form :=
  State.form_of_same (by simp [State.moved_keeps]) h

theorem State.corrected_form (c off dev : Nat) (h : s.Form) : (s.corrected c off dev).Form :=
  State.form_of_same (by simp [State.corrected_keeps]) h

theorem State.countUe_form (c : Nat) (h : s.Form) : (s.countUe c).Form :=
  State.form_of_same (by simp [State.countUe_keeps]) h

theorem State.freqChange_form (c : Nat) (h : s.Form) : (s.freqChange c).Form :=
  State.form_of_same (by simp [State.freqChange_keeps]) h

theorem State.jobDone_form (k status : Nat) (h : s.Form) : (s.jobDone k status).Form :=
  State.form_of_same (by simp [State.jobDone_keeps]) h

theorem State.jobTook_form (k cons prod : Nat) (orig : List Byte) (h : s.Form) : (s.jobTook k cons prod orig).Form :=
  State.form_of_same (by simp [State.jobTook_keeps]) h

theorem State.arriveOn_form (l : Nat) (h : s.Form) : (s.arriveOn l).Form :=
  State.form_of_same (by simp [State.arriveOn_keeps]) h

theorem State.tagging_form (pt : Nat) (h : s.Form) : (s.tagging pt).1.Form :=
  State.form_of_same (by simp [State.tagging_keeps]) h

theorem State.turnAway_form (ld : Nat) (k : ReqKind) (tag : Nat) (h : s.Form) : (s.turnAway ld k tag).Form :=
  State.form_of_same (by simp [State.turnAway_keeps]) h

theorem State.turnLost_form (ld hpa : Nat) (k : ReqKind) (u : Nat) (h : s.Form) : (s.turnLost ld hpa k u).Form :=
  State.form_of_same (by simp [State.turnLost_keeps]) h

theorem State.accessEnds_form (hh : HeldAccess) (got : Option Word) (status : Nat) (h : s.Form) :
    (s.accessEnds hh got status).Form :=
  State.form_of_same (by simp [State.accessEnds_keeps]) h

theorem State.moveBad_form (i x subject : Nat) (h : s.Form) : (s.moveBad i x subject).Form :=
  State.form_of_same (by simp [State.moveBad_keeps]) h

theorem State.endWrites_form (p : Nat) (h : s.Form) : (s.endWrites p).Form :=
  State.form_of_same (by simp [State.endWrites_keeps]) h

theorem State.exhausted_form (p : Nat) (h : s.Form) : (s.exhausted p).Form :=
  State.form_of_same (by simp [State.exhausted_keeps]) h

theorem State.retWorn_form (w : RetWrite) (h : s.Form) : (s.retWorn w).Form :=
  State.form_of_same (by simp [State.retWorn_keeps]) h

theorem State.retDone_form (w : RetWrite) (h : s.Form) : (s.retDone w).Form :=
  State.form_of_same (by simp [State.retDone_keeps]) h

/-! ### Requests of memory lines -/

theorem State.runOn_form (lines : List Nat) (h : s.Form) : (s.runOn lines).Form :=
  (State.runOn_ran _ (.refl s)).form h

theorem State.withHome_form (x : HomeSlices) (h : s.Form) : (s.withHome x).Form :=
  (State.withHome_ran _ (.refl s)).form h

theorem State.needChunk_form (p : Nat) (h : s.Form) : (s.needChunk p).Form :=
  (State.needChunk_ran _ (.refl s)).form h

theorem State.setEntry_form (p : Nat) (f : PageEntry → PageEntry) (h : s.Form) : (s.setEntry p f).Form :=
  (State.setEntry_ran _ _ (.refl s)).form h

theorem State.poisonPage_form (p : Nat) (withdraw : Bool) (h : s.Form) : (s.poisonPage p withdraw).Form :=
  (State.poisonPage_ran _ _ (.refl s)).form h

theorem State.nodeLost_form (hs lvl i : Nat) (h : s.Form) : (s.nodeLost hs lvl i).Form :=
  (State.nodeLost_ran _ _ _ (.refl s)).form h

theorem State.leafLost_form (hs i : Nat) (h : s.Form) : (s.leafLost hs i).Form :=
  (State.leafLost_ran _ _ (.refl s)).form h

theorem State.withFlt_form (x : Faults) (h : s.Form) : (s.withFlt x).Form :=
  (State.withFlt_ran _ (.refl s)).form h

theorem State.runAll_form (h : s.Form) : s.runAll.Form :=
  (State.runAll_ran (.refl s)).form h

theorem State.copyWalk_form (c : Nat) (h : s.Form) : (s.copyWalk c).Form :=
  (State.copyWalk_ran _ (.refl s)).form h

theorem State.withAmap_form (x : AddressMap) (h : s.Form) : (s.withAmap x).Form :=
  (State.withAmap_ran _ (.refl s)).form h

theorem State.setMc_form (k : Nat) (l : List McLine) (h : s.Form) : (s.setMc k l).Form :=
  (State.setMc_ran _ _ (.refl s)).form h

theorem State.mapLost_form (n : Nat) (h : s.Form) : (s.mapLost n).Form :=
  (State.mapLost_ran _ (.refl s)).form h

theorem State.walk_form (n hs : Nat) (l : List Machine.Walk) (h : s.Form) : (State.walk n hs l s).Form :=
  (State.walk_ran _ _ _ (.refl s)).form h

theorem State.leave_form (hs : Nat) (l : List Nat) (h : s.Form) : (s.leave hs l).Form :=
  (State.leave_ran _ _ (.refl s)).form h

theorem State.endRetag_form (hs key : Nat) (h : s.Form) : (s.endRetag hs key).Form :=
  (State.endRetag_ran _ _ (.refl s)).form h

theorem State.flushAtom_form (line : Nat) (h : s.Form) : (s.flushAtom line).Form :=
  (State.flushAtom_ran _ (.refl s)).form h

theorem State.storeNode_form (hs lvl i : Nat) (h : s.Form) : (s.storeNode hs lvl i).Form :=
  (State.storeNode_ran _ _ _ (.refl s)).form h

theorem State.readmit_form (n : Nat) (h : s.Form) : (State.readmit n s).Form :=
  (State.readmit_ran _ (.refl s)).form h

theorem State.takeIn_form (q : QReq) (cred : Bool) (h : s.Form) : (s.takeIn q cred).Form :=
  (State.takeIn_ran _ _ (.refl s)).form h

theorem State.readNear_form (p i f j : Nat) (h : s.Form) : (s.readNear p i f j).1.Form :=
  (State.readNear_ran _ _ _ _ (.refl s)).form h

theorem State.putMedia_form (i x : Nat) (v : Machine.Stored) (h : s.Form) : (s.putMedia i x v).Form :=
  (State.putMedia_ran _ _ _ (.refl s)).form h

theorem State.nextMajor_form (p : Nat) (h : s.Form) : (s.nextMajor p).Form :=
  (State.nextMajor_ran _ (.refl s)).form h

theorem State.storeAt_form (c off : Nat) (v : Machine.Stored) (h : s.Form) : (s.storeAt c off v).Form :=
  (State.storeAt_ran _ _ _ (.refl s)).form h

theorem State.tagFailed_form (hs subject : Nat) (h : s.Form) : (s.tagFailed hs subject).Form :=
  (State.tagFailed_ran _ _ (.refl s)).form h

theorem State.poisonMedia_form (p i f j : Nat) (h : s.Form) : (s.poisonMedia p i f j).Form :=
  (State.poisonMedia_ran _ _ _ _ (.refl s)).form h

theorem State.readLine_form (hs i x subject : Nat) (b : TagBind) (h : s.Form) : (s.readLine hs i x subject b).1.Form :=
  (State.readLine_ran _ _ _ _ _ (.refl s)).form h

theorem State.readParcel_form (p : Nat) (e : PageEntry) (q : Nat) (h : s.Form) : (s.readParcel p e q).1.Form :=
  (State.readParcel_ran _ _ _ (.refl s)).form h

/-! ### Operations made of these -/

theorem State.runLine_form (line : Nat) (h : s.Form) : (s.runLine line).Form :=
  State.runOn_form _ h

theorem State.discardPoison_form (u line : Nat) (h : s.Form) : (s.discardPoison u line).Form :=
  State.runLine_form _ (State.withHome_form _ (State.needChunk_form _ h))

theorem State.runPage_form (p : Nat) (h : s.Form) : (s.runPage p).Form :=
  State.runOn_form _ h

theorem State.markedPage_form (p : Nat) (h : s.Form) : (s.markedPage p).Form := by
  unfold State.markedPage
  dsimp only
  split
  · exact State.setAtoms_form _ _ (State.when_form (State.needChunk_form _ h)
      (fun _ ht => State.form_of_same (by simp [State.tierCount_keeps]) ht))
  · exact State.runPage_form _ (State.when_form (State.each_form _
      (State.setEntry_form _ _ (State.poisonPage_form _ _ (State.setAtoms_form _ _
        (State.when_form (State.needChunk_form _ h) (fun _ ht => State.form_of_same (by simp [State.tierCount_keeps]) ht)))))
          (fun _ _ => State.nodeLost_form _ _ _)) (fun _ => State.leafLost_form _ _))

theorem State.discardMarked_form (e : Nat) (h : s.Form) : (s.discardMarked e).Form :=
  State.each_form _ h fun _ _ => State.markedPage_form _

theorem State.applyDiscard_form (u : Nat) (p : Nat → Bool) (h : s.Form) : (s.applyDiscard u p).Form :=
  State.endDiscard_form _ (State.each_form _ (State.each_form _
    (State.when_form (State.withFlt_form _ h) (fun _ => State.withFlt_form _)) (fun _ _ => State.discardPoison_form _ _))
      (fun _ _ => State.discardMarked_form _))

theorem State.dropLines_form (c : Nat) (h : s.Form) : (s.dropLines c).Form :=
  State.withLines_form h fun rises => rises.filter _

theorem State.discover_form (c : Nat) (a b : Option Spd) (back : Bool) (h : s.Form) : (s.discover c a b back).Form := by
  unfold State.discover
  split
  · exact State.onChan_form _ _ h
  · dsimp only
    split
    · exact State.disableChan_form _ _ _ (State.onChan_form _ _ (State.dropLines_form _ h))
    · split
      · exact State.disableChan_form _ _ _ (State.when_form (State.onChan_form _ _ (State.dropLines_form _ h))
          (fun _ ht => State.form_of_same (by simp [State.dimmRefused_keeps]) ht))
      · exact State.loadTimings_form _ _ (State.onChan_form _ _
          (State.settleAll_form (State.when_form (State.onChan_form _ _ (State.dropLines_form _ h))
            (fun _ ht => State.form_of_same (by simp [State.dimmRefused_keeps]) ht))))

theorem State.stepNine_form (h : s.Form) : s.stepNine.Form := by
  unfold State.stepNine
  split
  · exact State.onBoot_form _ (State.when_form (State.applyDiscard_form _ _
      (State.runAll_form (State.each_form _ h (fun _ _ => State.onChan_form _ _)))) (fun _ => State.devRecovered_form))
  · exact State.loadConfig_form (State.devRecovered_form (State.seedLfsrs_form
      (State.each_form _ (State.takeFree_form (State.withMem_form
        (State.each_form _ (State.onBoot_form _ h) (fun _ _ => State.discover_form _ _ _ _)) rfl))
          (fun _ _ ht => State.each_form _ ht (fun _ _ hu => State.takeFree_form (State.onChan_form _ _ hu))))))

theorem State.afterFabric_form (h : s.Form) : s.afterFabric.Form := by
  unfold State.afterFabric
  split
  · exact State.stepNine_form h
  · exact h

theorem State.mirrorLost_form (c : Nat) (h : s.Form) : (s.mirrorLost c).Form := by
  unfold State.mirrorLost
  dsimp only
  split
  · exact State.copyWalk_form _ h
  · exact State.copyWalk_form _ h
  · exact State.raise_form _ (State.onChan_form _ _ (State.onChan_form _ _ (State.copyWalk_form _ h)))
  · split
    · exact State.onChan_form _ _ (State.copyWalk_form _ h)
    · exact State.copyWalk_form _ h
  · split
    · exact State.copyWalk_form _ h
    · exact State.onChan_form _ _ (State.copyWalk_form _ h)
  · exact State.raise_form _ (State.onChan_form _ _ (State.copyWalk_form _ h))
  · exact State.raise_form _ (State.onChan_form _ _ (State.copyWalk_form _ h))

theorem State.quarantineChan_form (c : Nat) (h : s.Form) : (s.quarantineChan c).Form :=
  State.when_form h fun _ ht => State.runAll_form (State.onChan_form _ _ (State.mirrorLost_form _ ht))

theorem State.loseAgents_form (l : List Nat) (h : s.Form) : (s.loseAgents l).Form :=
  State.runOn_form _ (State.withHome_form _ (State.withHome_form _ h))

theorem State.agentsGone_form (l : List Nat) (h : s.Form) : (s.agentsGone l).Form :=
  State.withHome_form _ (State.loseAgents_form _ h)

theorem State.linkLost_form (l cause : Nat) (h : s.Form) : (s.linkLost l cause).Form := by
  unfold State.linkLost
  split
  · exact h
  · exact State.unlockIfDown_form _ (State.each_form _ (State.raiseLink_form _ _ _ _
      (State.onLink_form _ _ (State.agentsGone_form _ (State.when_form
        (State.dropForwarded_form _ (State.dropAccess_form _
          (State.withHome_form _ (State.each_form _ h (fun _ _ ht => State.form_of_same (by simp [State.traceRec_keeps]) ht)))))
            (fun _ => State.withAmap_form _))))) (fun _ _ ht => State.form_of_same
              (by simp [State.onLd_keeps, State.stopQueue_keeps]) ht))

theorem State.quarantineUnit_form (p : Nat) (h : s.Form) : (s.quarantineUnit p).Form := by
  unfold State.quarantineUnit
  dsimp only
  split
  · exact State.form_of_same (by simp [State.onHsc_keeps]) h
  · split
    · split
      · exact State.form_of_same (by simp [State.turnSlices_keeps, State.addQuarantine_keeps]) h
      · split
        · exact State.quarantineChan_form _ h
        · split
          · split
            · exact State.form_of_same (by simp [State.engineStop_keeps]) h
            · split
              · exact State.form_of_same (by simp [State.engineStop_keeps]) h
              · exact h
          · exact h
    · split
      · exact State.linkLost_form _ _ (State.form_of_same (by simp [State.addQuarantine_keeps]) h)
      · exact h

theorem State.startRebuild_form (hs : Nat) (h : s.Form) : (s.startRebuild hs).Form :=
  State.when_form h fun _ ht => State.withMem_form ht rfl

theorem State.unlockPage_form (p : Nat) (f : PageEntry → PageEntry) (h : s.Form) : (s.unlockPage p f).Form :=
  State.runPage_form _ (State.when_form (State.each_form _ (State.setEntry_form _ _ (State.withMem_form h rfl))
    (fun _ _ => State.nodeLost_form _ _ _)) (fun _ => State.leafLost_form _ _))

theorem State.abandon_form (p : Nat) (h : s.Form) : (s.abandon p).Form := by
  unfold State.abandon
  split
  · exact h
  · exact State.unlockPage_form _ _ (State.dropDest_form _ _
      (State.when_form h (fun _ ht => State.form_of_same (by simp [State.tierCount_keeps]) ht)))

theorem State.abandonAll_form (p : Nat → Bool) (h : s.Form) : (s.abandonAll p).Form :=
  State.each_form _ h fun _ _ => State.abandon_form _

theorem State.mcDrop_form (hs lvl i : Nat) (h : s.Form) : (s.mcDrop hs lvl i).Form :=
  State.setMc_form _ _ h

theorem State.metaGone_form (hs lvl i : Nat) (h : s.Form) : (s.metaGone hs lvl i).Form := by
  unfold State.metaGone
  dsimp only
  split
  · exact State.mapLost_form _ (State.raiseHs_form _ _ _ _ _ (State.mcDrop_form _ _ _ h))
  · split
    · exact State.leafLost_form _ _ (State.raiseHs_form _ _ _ _ _ (State.mcDrop_form _ _ _ h))
    · exact State.nodeLost_form _ _ _ (State.raiseHs_form _ _ _ _ _ (State.mcDrop_form _ _ _ h))

theorem State.cleanLine_form (hs : Nat) (m : McLine) (h : s.Form) : (s.cleanLine hs m).Form :=
  State.walk_form _ _ _ (State.leave_form _ _ (State.setMc_form _ _ h))

theorem State.cleanTo_form (f hs n : Nat) (h : s.Form) : (State.cleanTo f hs n s).Form := by
  fun_induction State.cleanTo f hs n s
  case case4 ih => exact ih (State.cleanLine_form _ _ h)
  all_goals exact h

theorem State.flushSlice_form (hs : Nat) (h : s.Form) : (s.flushSlice hs).Form :=
  State.cleanTo_form _ _ _ (State.each_form _ (State.each_form _ (State.each_form _ h (fun _ _ => State.endRetag_form _ _))
    (fun _ _ => State.flushAtom_form _)) (fun _ _ => State.metaGone_form _ _ _))

theorem State.flushLovage_form (i : Nat) (h : s.Form) : (s.flushLovage i).Form :=
  State.each_form _ (State.each_form _ (State.abandonAll_form _ h) (fun _ _ => State.flushSlice_form _)) fun _ _ ht =>
    State.form_of_same (by simp [State.selfRefresh_keeps]) ht

theorem State.groupLost_form (g : Nat) (h : s.Form) : (s.groupLost g).Form :=
  State.each_form _ h fun _ _ => State.linkLost_form _ _

theorem State.brgLost_form (h : s.Form) : s.brgLost.Form :=
  State.withBrg_form _ (State.each_form _ (State.each_form _ (State.agentsGone_form _ (State.withHome_form _ h))
    (fun _ _ ht => State.form_of_same (by simp [State.fwdAbort_keeps]) ht))
      (fun _ _ ht => State.form_of_same (by simp [State.fwdFail_keeps]) ht))

theorem State.stopChip_form (slot : Nat) (h : s.Form) : (s.stopChip slot).Form := by
  unfold State.stopChip
  dsimp only
  split
  · exact State.flushLovage_form _ (State.form_of_same (by simp [State.turnSlices_keeps, State.addChipF_keeps]) h)
  · split
    · exact State.hrdySync_form (State.groupLost_form _ (State.groupLost_form _
        (State.form_of_same (by simp [State.addChipF_keeps]) h)))
    · split
      · exact State.brgLost_form (State.form_of_same (by simp [State.addChipF_keeps]) h)
      · exact State.form_of_same (by simp [State.addChipF_keeps]) h

theorem State.flushAll_form (h : s.Form) : s.flushAll.Form :=
  State.each_form _ h fun _ _ => State.flushLovage_form _

theorem State.stopDevice_form (h : s.Form) : s.stopDevice.Form :=
  State.hrdySync_form (State.flushAll_form (State.each_form _ (State.turnSlices_form _ _ (State.withFlt_form _ h))
    (fun _ _ ht => State.form_of_same (by simp [State.haltQueue_keeps]) ht)))

theorem State.react_form (p need : Nat) (inj : Bool) (h : s.Form) : (s.react p need inj).Form := by
  unfold State.react
  dsimp only
  split
  · exact State.quarantineUnit_form _ (State.form_of_same (by simp [State.sendReaction_keeps]) h)
  · split
    · split
      · exact State.form_of_same (by simp [State.sendReaction_keeps]) h
      · exact State.form_of_same (by simp [State.pulled_keeps, State.sendReaction_keeps]) h
    · split
      · exact State.startRebuild_form _ (State.form_of_same (by simp [State.sendReaction_keeps]) h)
      · split
        · exact State.stopChip_form _ (State.form_of_same (by simp [State.sendReaction_keeps]) h)
        · split
          · exact State.stopDevice_form (State.form_of_same (by simp [State.sendReaction_keeps]) h)
          · exact State.form_of_same (by simp [State.sendReaction_keeps]) h

theorem State.fault_form (site cls row col cause : Nat) (inj : Bool) (h : s.Form) : (s.fault site cls row col cause inj).Form :=
  State.fileAt_form _ _ _ _ _ (State.react_form _ _ _ h)

theorem State.faultP_form (p cls cause : Nat) (h : s.Form) : (s.faultP p cls cause).Form :=
  State.fault_form _ _ _ _ _ _ h

theorem State.connLost_form (e : Nat) (was : Bool) (h : s.Form) : (s.connLost e was).Form := by
  unfold State.connLost
  split
  · exact State.faultP_form _ _ _ h
  · exact h

theorem State.fabricOp_form (e : Nat) (f : State → State) (step : ∀ t : State, t.Form → (f t).Form) (h : s.Form) :
    (s.fabricOp e f).Form :=
  State.afterFabric_form (State.connLost_form _ _ (step s h))

theorem State.ite_form {c : Prop} [Decidable c] {a b : State × Nat} (ha : a.1.Form) (hb : b.1.Form) :
    (if c then a else b).1.Form := by
  split
  · exact ha
  · exact hb

theorem State.checkWrite_form (m : Master) (who : Option Master) (off : Nat) (val : Word) (act : State → State)
    (step : ∀ t : State, t.Form → (act t).Form) (h : s.Form) : (s.checkWrite m who off val act).1.Form := by
  unfold State.checkWrite
  extract_lets p filtered counted
  have counted_form : counted.Form := State.touchLock_form _ _ (State.usedAt_form _ (State.countAccess_form _ h))
  clear_value counted
  refine State.ite_form (State.unclaimed_form _ _ _ h) ?_
  refine State.ite_form (State.wstat_form _ _ h) ?_
  refine State.ite_form (State.wstat_form _ _ h) ?_
  refine State.ite_form (State.brgRegSend_form _ _ _ h) ?_
  refine State.ite_form (State.setStatus_form _ _ h) ?_
  split
  · exact State.withClk_form _ (State.startWake_form _ h)
  · exact step _ (State.storeWrite_form _ _ _ counted_form)

theorem State.loadKey_form (lov d : Nat) (h : s.Form) : (s.loadKey lov d).Form :=
  State.withMem_form h rfl

theorem State.loadKeys_form (d : Nat) (h : s.Form) : (s.loadKeys d).Form :=
  State.each_form _ h fun _ _ => State.loadKey_form _ _

theorem State.advanceEpoch_form (d : Nat) (h : s.Form) : (s.advanceEpoch d).Form := by
  unfold State.advanceEpoch
  split
  · exact State.raiseAt_form _ _ _ (State.loadKeys_form _ (State.takeFree_form
      (State.withMem_form (State.form_of_same (by simp [State.onDom_keeps]) h) rfl)))
  · exact State.loadKeys_form _ (State.form_of_same (by simp [State.onDom_keeps]) h)

theorem State.applyEntry_form (t i : Nat) (w : List Nat) (h : s.Form) : (s.applyEntry t i w).Form := by
  unfold State.applyEntry
  split
  · exact State.form_of_same (by simp [State.mirrorSync_keeps, State.onSet_keeps]) h
  · split
    · exact State.when_form (State.when_form (State.form_of_same (by simp [State.onDom_keeps]) h)
        (fun _ ht => State.form_of_same (by simp [State.dropDemotions_keeps]) ht)) fun _ => State.advanceEpoch_form _
    · exact State.form_of_same (by simp [State.onRegion_keeps]) h

theorem State.commitEntries_form (h : s.Form) : s.commitEntries.Form := by
  unfold State.commitEntries
  refine State.levels_form _ ?_
  refine State.knowTotal_form ?_
  refine State.each_form _ (State.withAmap_form _ h) ?_
  intro t x ht
  dsimp only
  split
  · exact State.applyEntry_form _ _ _ ht
  · exact State.raise_form _ ht

theorem State.applyCommit_form (p : Nat) (h : s.Form) : (s.applyCommit p).Form := by
  unfold State.applyCommit
  split
  · exact State.when_form (State.when_form (State.withRegs_form _
      (State.each_form _ h (fun _ _ ht => State.form_of_same (by simp [State.activate_keeps]) ht)))
        (fun _ => State.commitEntries_form)) fun _ ht => State.form_of_same (by simp [State.dropDemotions_keeps]) ht
  · exact h

theorem State.commitWrite_form (m : Master) (p : Nat) (v : Word) (h : s.Form) : (s.commitWrite m p v).Form := by
  unfold State.commitWrite
  split
  · split
    · dsimp only
      split
      · exact State.applyCommit_form _ (State.form_of_same (by simp [State.takeStaged_keeps]) h)
      · exact State.form_of_same (by simp [State.takeStaged_keeps]) h
    · exact h
  · split
    · exact State.form_of_same (by simp [State.discardStaged_keeps]) h
    · exact h

theorem State.commonEffect_form (m : Master) (p x : Nat) (v : Word) (h : s.Form) : (s.commonEffect m p x v).Form := by
  unfold State.commonEffect
  split
  · exact State.form_of_same (by simp [State.clearAt_keeps]) h
  · split
    · exact State.form_of_same (by simp [State.enableAt_keeps]) h
    · split
      · exact State.form_of_same (by simp [State.ownRoute_keeps]) h
      · split
        · exact State.commitWrite_form _ _ _ h
        · split
          · exact State.form_of_same (by simp [State.lockWrite_keeps]) h
          · split
            · exact State.when_form h fun _ ht => State.form_of_same (by simp [State.clearRec_keeps]) ht
            · split
              · exact State.form_of_same (by simp [State.pmcCtl_keeps]) h
              · split
                · exact State.form_of_same (by simp [State.pmcOvf_keeps]) h
                · split
                  · exact State.form_of_same (by simp [State.pmcEvsel_keeps]) h
                  · exact h

theorem State.takeSpine_form (e : Nat) (h : s.Form) : (s.takeSpine e).Form := by
  unfold State.takeSpine
  refine State.each_form _ h ?_
  intro t x ht
  dsimp only
  split
  · exact ht
  · exact State.when_form (State.withMem_form ht rfl) fun _ hu => State.withMem_form hu rfl

theorem State.grantExt_form (e : Nat) (pin : Bool) (h : s.Form) : (s.grantExt e pin).Form := by
  unfold State.grantExt
  extract_lets d m rsv
  clear_value m
  split
  · exact State.capResult_form _ h
  · split
    · exact State.capResult_form _ h
    · split
      · exact State.capResult_form _ h
      · split
        · exact State.capResult_form _ h
        · extract_lets used given held
          have held_form : held.Form :=
            State.form_of_same (by simp [held, given, used, State.onExt_keeps, State.onDom_keeps, State.useRun_keeps]) h
          clear_value held
          exact State.levels_form _ (State.capResult_form _ (State.setTdata_form _ _
            (State.toHolders_form _ _ (State.takeSpine_form _ held_form))))

theorem State.capCommand_form (e : Nat) (args : Bool) (ok : ExtState → Bool) (act : State → State)
    (step : ∀ t : State, t.Form → (act t).Form) (h : s.Form) : (s.capCommand e args ok act).Form := by
  unfold State.capCommand
  split
  · exact State.capResult_form _ (State.extEvent_form _ _ _ h)
  · split
    · exact State.capResult_form _ h
    · split
      · exact State.capResult_form _ h
      · exact State.capResult_form _ (step s h)

theorem State.toDrain_form (e : Nat) (h : s.Form) : (s.toDrain e).Form :=
  State.runOn_form _ (State.each_form _ (State.each_form _
    (State.form_of_same (by simp [State.dropDemotions_keeps, State.extTo_keeps]) h) (fun _ _ => State.abandon_form _))
      (fun _ _ => State.withHome_form _))

theorem State.forceCmd_form (e : Nat) (h : s.Form) : (s.forceCmd e).Form :=
  State.capCommand_form _ _ _ _ (fun _ ht => State.toDrain_form _ (State.toHolders_form _ _ ht)) h

theorem State.freeCmd_form (e : Nat) (h : s.Form) : (s.freeCmd e).Form :=
  State.capCommand_form _ _ _ _ (fun _ => State.toDrain_form _) h

theorem State.tcmd_form (op t i : Nat) (h : s.Form) : (s.tcmd op t i).Form := by
  unfold State.tcmd
  split
  · exact State.form_of_same (by simp [State.readEntry_keeps]) h
  · split
    · exact State.form_of_same (by simp [State.stageEntry_keeps]) h
    · split
      · exact State.grantExt_form _ _ h
      · split
        · exact State.grantExt_form _ _ h
        · split
          · exact State.form_of_same (by simp [State.offerExt_keeps]) h
          · split
            · exact State.form_of_same (by simp [State.recallCmd_keeps]) h
            · split
              · exact State.forceCmd_form _ h
              · split
                · exact State.freeCmd_form _ h
                · exact h

theorem State.mcFlush_form (hs : Nat) (h : s.Form) : (s.mcFlush hs).Form :=
  State.cleanTo_form _ _ _ h

theorem State.emptyMcache_form (h : s.Form) : s.emptyMcache.Form := by
  have cleaned : (s.each (upTo 32) fun s hs => s.cleanTo 65536 hs 0).Form :=
    State.each_form _ h fun _ hs => State.cleanTo_form 65536 hs 0
  unfold State.emptyMcache
  generalize (s.each (upTo 32) fun s hs => s.cleanTo 65536 hs 0) = t at cleaned
  exact State.withMem_form cleaned rfl

theorem State.moveMeta_form (c : Nat) (h : s.Form) : (s.moveMeta c).Form := by
  unfold State.moveMeta
  refine State.each_form _ h ?_
  intro t x ht
  split
  · exact ht
  · exact State.onExt_form _ _ (State.freeRunOf_form _ _ _ (State.useRun_form _ _ _ (State.emptyMcache_form ht)))

theorem State.giveUp_form (c : Nat) (h : s.Form) : (s.giveUp c).Form := by
  unfold State.giveUp
  refine State.each_form _ h ?_
  intro t x ht
  refine State.setEntry_form _ _ ?_
  refine State.poisonPage_form _ _ ?_
  split
  · exact State.abandon_form _ ht
  · exact ht

theorem State.drained_form (c : Nat) (h : s.Form) : (s.drained c).Form :=
  State.raise_form _ (State.when_form (State.onChan_form _ _ h) (fun _ => State.mirrorLost_form _))

theorem State.drainCmd_form (c : Nat) (h : s.Form) : (s.drainCmd c).Form := by
  unfold State.drainCmd
  split
  · exact State.svcResult_form _ _ (State.onChan_form _ _ h)
  · exact State.svcResult_form _ _ (State.when_form (State.onChan_form _ _ (State.moveMeta_form _ (State.giveUp_form _ h)))
      (fun _ => State.drained_form _))
  · exact State.svcResult_form _ _ h

theorem State.powerDownCmd_form (c : Nat) (h : s.Form) : (s.powerDownCmd c).Form := by
  unfold State.powerDownCmd
  split
  · exact State.raiseChan_form _ _ _ _ _ (State.svcResult_form _ _ (State.onChan_form _ _ (State.dropLines_form _ h)))
  · exact State.svcResult_form _ _ h

theorem State.returnCmd_form (c : Nat) (a b : Option Spd) (h : s.Form) : (s.returnCmd c a b).Form := by
  unfold State.returnCmd
  split
  · exact State.svcResult_form _ _ (State.discover_form _ _ _ _ h)
  · exact State.svcResult_form _ _ (State.discover_form _ _ _ _ h)
  · exact State.svcResult_form _ _ (State.discover_form _ _ _ _ h)
  · exact State.svcResult_form _ _ h

theorem State.unresilver_form (c : Nat) (h : s.Form) : (s.unresilver c).Form := by
  unfold State.unresilver
  split
  · exact State.ddrpResult_form _ _ h
  · split
    · exact State.raiseChan_form _ _ _ _ _ (State.ddrpResult_form _ _ (State.setMir_form _ _ (State.copyWalk_form _ h)))
    · exact State.raiseChan_form _ _ _ _ _ (State.ddrpResult_form _ _ (State.setMir_form _ _ (State.copyWalk_form _ h)))
    · exact State.ddrpResult_form _ _ h

theorem State.ddrEffect_form (p x : Nat) (v : Word) (h : s.Form) : (s.ddrEffect p x v).Form := by
  unfold State.ddrEffect
  dsimp only
  split
  · split
    · exact State.when_form h fun _ => State.onChan_form _ _
    · split
      · exact State.when_form h fun _ ht => State.form_of_same (by simp [State.fctlGo_keeps]) ht
      · split
        · split
          · exact State.drainCmd_form _ h
          · split
            · exact State.powerDownCmd_form _ h
            · split
              · exact State.returnCmd_form _ _ _ h
              · split
                · exact State.form_of_same (by simp [State.svcCancelCmd_keeps]) h
                · exact h
        · exact h
  · split
    · split
      · exact State.form_of_same (by simp [State.spareCmd_keeps]) h
      · split
        · exact State.form_of_same (by simp [State.softCmd_keeps]) h
        · split
          · exact State.form_of_same (by simp [State.hardCmd_keeps]) h
          · split
            · exact State.form_of_same (by simp [State.resilverCmd_keeps]) h
            · split
              · exact State.unresilver_form _ h
              · exact h
    · exact h
  · exact h

theorem State.endRebuild_form (hs rejected : Nat) (h : s.Form) : (s.endRebuild hs rejected).Form := by
  unfold State.endRebuild
  refine State.runOn_form _ ?_
  refine State.raiseHs_form _ _ _ _ _ ?_
  refine State.withMem_form ?_ rfl
  refine State.each_form _ (State.withMem_form h rfl) ?_
  intro t x ht
  dsimp only
  split
  · exact State.nodeLost_form _ _ _ (State.withMem_form (State.withMem_form ht rfl) rfl)
  · exact State.storeNode_form _ _ _ (State.withMem_form ht rfl)

theorem State.chipLovage_form (i : Nat) (h : s.Form) : (s.chipLovage i).Form := by
  unfold State.chipLovage
  exact State.checkFilter_form _ (State.each_form _ (State.each_form _ (State.withTier_form _ (State.withMem_form h rfl))
    (fun _ _ => State.onChan_form _ _)) (fun _ _ => State.endRebuild_form _ _))

theorem State.chipChervil_form (k : Nat) (h : s.Form) : (s.chipChervil k).Form :=
  State.each_form _ h fun _ _ ht => State.each_form _ (State.linkLost_form _ _ ht)
    (fun _ _ hu => State.form_of_same (by simp [State.stopQueue_keeps]) hu)

theorem State.chipSorrel_form (h : s.Form) : s.chipSorrel.Form :=
  State.runAll_form (State.brgLost_form (State.withAmap_form _
    (State.withObs_form _ (State.withTier_form _ (State.each_form _ h
      (fun _ _ ht => State.form_of_same (by simp [State.stopQueue_keeps]) ht))))))

theorem State.chipReset_form (slot : Nat) (h : s.Form) : (s.chipReset slot).Form := by
  unfold State.chipReset
  dsimp only
  split
  · exact State.chipLovage_form _ (State.form_of_same (by simp [State.chipCommon_keeps]) h)
  · split
    · exact State.chipChervil_form _ (State.form_of_same (by simp [State.chipCommon_keeps]) h)
    · split
      · exact State.chipSorrel_form (State.form_of_same (by simp [State.chipCommon_keeps]) h)
      · split
        · exact State.form_of_same (by simp [State.brgRelease_keeps, State.brgReset_keeps, State.chipCommon_keeps]) h
        · exact State.form_of_same (by simp [State.chipCommon_keeps]) h

theorem State.resetInTurn_form (slot : Nat) (h : s.Form) : (s.resetInTurn slot).Form := by
  unfold State.resetInTurn
  exact State.when_form (State.chipReset_form _ h) fun _ ht => State.form_of_same (by simp [State.raiseBoot_keeps]) ht

theorem State.unitsBack_form (u : Nat) (h : s.Form) : (s.unitsBack u).Form :=
  State.each_form _ (State.each_form _ (State.withFlt_form _ h)
    (fun _ _ ht => State.checkSlice_form _ (State.flushSlice_form _ ht))) fun _ _ ht => State.form_of_same
      (by simp [State.recoverChan_keeps]) ht

theorem State.sorrelRecovery_form (h : s.Form) : s.sorrelRecovery.Form := by
  unfold State.sorrelRecovery
  extract_lets lov _ began ended _ discarded _ back
  have began_form : began.Form := by
    dsimp only [began]
    split
    · exact h
    · exact State.each_form _ (State.withFlt_form _ h) fun _ _ => State.resetInTurn_form _
  have ended_form : ended.Form := State.each_form _ began_form fun _ _ ht =>
    State.form_of_same (by simp [State.raiseBoot_keeps, State.endRerun_keeps]) ht
  have discarded_form : discarded.Form := State.applyDiscard_form _ _ (State.withFlt_form _ ended_form)
  have back_form : back.Form := State.withFlt_form _ (State.unitsBack_form _ discarded_form)
  clear_value began discarded back
  split
  · exact began_form
  · split
    · exact discarded_form
    · exact State.when_form back_form fun _ ht => State.form_of_same (by simp [State.closeRec_keeps]) ht

theorem State.chipServes_form (slot : Nat) (h : s.Form) : (s.chipServes slot).Form := by
  unfold State.chipServes
  dsimp only
  split
  · exact State.applyDiscard_form _ _ h
  · exact State.withFlt_form _ (State.unitsBack_form _ (State.applyDiscard_form _ _ h))

theorem State.recoveryReset_form (slot : Nat) (h : s.Form) : (s.recoveryReset slot).Form := by
  unfold State.recoveryReset
  split
  · refine State.sorrelRecovery_form ?_
    split
    · exact h
    · exact State.stopDevice_form h
  · extract_lets u began served
    have began_form : began.Form := by
      dsimp only [began]
      split
      · exact h
      · refine State.chipReset_form _ ?_
        split
        · exact h
        · exact State.stopChip_form _ h
    have served_form : served.Form := State.chipServes_form _ (State.endRerun_form _ began_form)
    clear_value began served
    split
    · exact began_form
    · split
      · exact served_form
      · exact State.raiseBoot_form _ _ _ served_form

theorem State.rstChip_form (slot : Nat) (h : s.Form) : (s.rstChip slot).Form := by
  unfold State.rstChip
  split
  · exact State.form_of_same (by simp [State.rstResult_keeps]) h
  · split
    · exact State.form_of_same (by simp [State.rstResult_keeps]) h
    · exact State.recoveryReset_form _ (State.form_of_same (by simp [State.rstResult_keeps]) h)

theorem State.coldClear_form (h : s.Form) : s.coldClear.Form := by
  unfold State.coldClear
  exact State.loadRwp_form ⟨List.Pairwise.nil, (State.dropHeld_form h).sram⟩

theorem State.leaveAux_form (src : Nat) (h : s.Form) : (s.leaveAux src).Form := by
  unfold State.leaveAux
  dsimp only
  split
  · exact State.powerGood_form (State.hscStart_form (State.raiseBoot_form _ _ _
      (State.onBoot_form _ (State.closeDev_form (State.coldClear_form h)))))
  · exact State.hscStart_form (State.raiseBoot_form _ _ _ (State.onBoot_form _ (State.closeDev_form (State.coldClear_form h))))

theorem State.poisonAhead_form (line : Nat) (h : s.Form) : (s.poisonAhead line).Form :=
  State.runLine_form _ (State.withHome_form _ (State.form_of_same (by simp [State.sfDrop_keeps]) h))

theorem State.sweepAgents_form (l : List Nat) (h : s.Form) : (s.sweepAgents l).Form :=
  State.withHome_form _ (State.runOn_form _ (State.withHome_form _ (State.each_form _ h (fun _ _ => State.poisonAhead_form _))))

theorem State.rw1cReset_form (h : s.Form) : s.rw1cReset.Form :=
  State.withCore_form (State.withClk_form _ (State.withFlt_form _ (State.form_of_same (by simp) h))) rfl

theorem State.warmReset_form (src : Nat) (h : s.Form) : (s.warmReset src).Form := by
  unfold State.warmReset
  extract_lets begun held down gone swept written stored _ _ _ _ reset chans mods links fns _ regs
  have written_form : written.Form := by
    refine State.each_form _ (State.sweepAgents_form _ (State.agentsGone_form _ (State.each_form _ ?_ ?_))) ?_
    · exact State.holdHrdy_form (State.onBoot_form _ h)
    · exact fun _ _ => State.groupLost_form _
    · exact fun _ _ => State.flushLovage_form _
  have stored_form : stored.Form := State.dropHeld_form (State.storeRcnt_form written_form)
  clear_value stored
  have reset_form : reset.Form := ⟨stored_form.lines, stored_form.sram⟩
  have links_form : links.Form := by
    refine State.each_form _ (State.each_form _ (State.each_form _ reset_form ?_) ?_) ?_
    · exact fun _ _ => State.onChan_form _ _
    · exact fun _ _ => State.modOff_form _
    · exact fun _ _ => State.onLink_form _ _
  have fns_form : fns.Form :=
    State.each_form _ links_form fun _ _ ht => State.onLd_form _ _ (State.clearFunction_form _ ht)
  have regs_form : regs.Form := State.withRegs_form _ fns_form
  clear_value regs
  exact State.brgRelease_form (State.resetRegs_form _ _ (State.rw1cReset_form regs_form))

theorem State.startCore0_form (b : Bool) (i : FwImage) (h : s.Form) : (s.startCore0 b i).Form := by
  unfold State.startCore0
  exact State.onBoot_form _ (State.withSram_form h (putBytes_wf _ _))

theorem State.copied_form (i : FwImage) (h : s.Form) : (s.copied i).Form :=
  State.when_form h fun _ ht => State.withSram_form ht (putBytes_wf _ _)

theorem State.trySlot_form (b : Bool) (h : s.Form) : (s.trySlot b).1.Form := by
  unfold State.trySlot
  split
  · split
    · exact State.startCore0_form _ _ h
    · exact State.raiseBoot_form _ _ _ (State.copied_form _ h)
  · exact State.raiseBoot_form _ _ _ h

theorem State.bootRom_form (h : s.Form) : s.bootRom.1.Form := by
  unfold State.bootRom
  dsimp only
  split
  · exact State.trySlot_form _ h
  · exact State.trySlot_form _ (State.trySlot_form _ h)

theorem State.coldFirmware_form (h : s.Form) : s.coldFirmware.Form := by
  unfold State.coldFirmware
  dsimp only
  split
  · split
    · split
      · exact State.startCore0_form _ _ (State.withMgmt_form _
          (State.when_form h (fun _ ht => State.form_of_same (by simp [State.retWrite_keeps]) ht)))
      · exact State.onBoot_form _ (State.bootRom_form (State.withMgmt_form _
          (State.when_form h (fun _ ht => State.form_of_same (by simp [State.retWrite_keeps]) ht))))
    · exact State.onBoot_form _ (State.bootRom_form (State.withMgmt_form _
        (State.when_form h (fun _ ht => State.form_of_same (by simp [State.retWrite_keeps]) ht))))
  · exact State.withMgmt_form _ (State.when_form h (fun _ ht => State.form_of_same (by simp [State.retWrite_keeps]) ht))

theorem State.mainLost_form (h : s.Form) : s.mainLost.Form :=
  ⟨(State.coldClear_form h).lines, (State.coldClear_form h).sram⟩

theorem State.endEntry_form (h : s.Form) : s.endEntry.Form := by
  unfold State.endEntry
  dsimp only
  split
  · exact State.raiseBoot_form _ _ _ (State.onBoot_form _ (State.mainLost_form h))
  · split
    · exact State.leaveAux_form _ (State.raiseBoot_form _ _ _ (State.onBoot_form _ (State.mainLost_form h)))
    · split
      · exact State.leaveAux_form _ (State.withClk_form _ (State.raiseBoot_form _ _ _
          (State.onBoot_form _ (State.mainLost_form h))))
      · split
        · exact State.leaveAux_form _ (State.raiseBoot_form _ _ _ (State.onBoot_form _ (State.mainLost_form h)))
        · exact State.raiseBoot_form _ _ _ (State.onBoot_form _ (State.mainLost_form h))

theorem State.railsGone_form (h : s.Form) : s.railsGone.Form := by
  unfold State.railsGone
  dsimp only
  split
  · exact State.endEntry_form (State.onBoot_form _ (State.onBoot_form _ h))
  · exact State.onBoot_form _ (State.onBoot_form _ h)

theorem State.railsFallen_form (h : s.Form) : s.railsFallen.Form := by
  unfold State.railsFallen
  dsimp only
  split
  · exact State.endEntry_form (State.when_form h (fun _ ht => State.form_of_same
      (by simp [State.onHsc_keeps, State.hscStop_keeps]) ht))
  · split
    · exact State.railsGone_form (State.when_form h (fun _ ht => State.form_of_same
        (by simp [State.onHsc_keeps, State.hscStop_keeps]) ht))
    · exact State.onBoot_form _ (State.when_form h (fun _ ht => State.form_of_same
        (by simp [State.onHsc_keeps, State.hscStop_keeps]) ht))

theorem State.powerDown_form (h : s.Form) : s.powerDown.Form := by
  unfold State.powerDown
  dsimp only
  split
  · exact State.railsFallen_form (State.form_of_same (by simp [State.railsDown_keeps]) h)
  · exact State.form_of_same (by simp [State.railsDown_keeps]) h

theorem State.enterAux_form (commanded : Bool) (h : s.Form) : (s.enterAux commanded).Form := by
  unfold State.enterAux
  exact State.powerDown_form (State.pmicsOff_form (State.brgReset_form
    (State.holdHrdy_form (State.withClk_form _ (State.settleAll_form
      (State.onBoot_form _ (State.settleAll_form (State.storeRcnt_form
        (State.each_form _ h (fun _ _ => State.groupLost_form _))))))))))

theorem State.coldReset_form (src : Nat) (h : s.Form) : (s.coldReset src).Form := by
  unfold State.coldReset
  dsimp only
  split
  · exact State.enterAux_form _ (State.onBoot_form _ (State.withClk_form _
      (State.rw1cReset_form (State.settleAll_form (State.coldFirmware_form
        (State.coldClear_form (State.storeRcnt_form (State.each_form _ h (fun _ _ => State.groupLost_form _)))))))))
  · exact State.holdHrdy_form (State.onBoot_form _ (State.withClk_form _
      (State.rw1cReset_form (State.settleAll_form (State.coldFirmware_form
        (State.coldClear_form (State.storeRcnt_form (State.each_form _ h (fun _ _ => State.groupLost_form _)))))))))

theorem State.rstOp_form (m : Master) (op : Nat) (h : s.Form) : (s.rstOp m op).Form := by
  unfold State.rstOp
  split
  · split
    · exact State.onBoot_form _ (State.form_of_same (by simp [State.rstResult_keeps]) h)
    · split
      · exact State.leaveAux_form _ (State.form_of_same (by simp [State.rstResult_keeps]) h)
      · exact State.form_of_same (by simp [State.rstResult_keeps]) h
  · split
    · exact State.form_of_same (by simp [State.rstResult_keeps]) h
    · dsimp only
      split
      · exact State.warmReset_form _ (State.form_of_same (by simp [State.rstResult_keeps]) h)
      · split
        · exact State.coldReset_form _ (State.form_of_same (by simp [State.rstResult_keeps]) h)
        · exact State.enterAux_form _ (State.form_of_same (by simp [State.rstResult_keeps]) h)

theorem State.rstWrite_form (m : Master) (op slot : Nat) (h : s.Form) : (s.rstWrite m op slot).Form := by
  unfold State.rstWrite
  split
  · exact State.rstChip_form _ h
  · split
    · exact State.rstOp_form _ _ h
    · exact h

theorem State.onMcore_form (c : Nat) (f : MCore → MCore) (h : s.Form) : (s.onMcore c f).Form := by
  unfold State.onMcore
  split
  · exact State.withCore_form h rfl
  · exact State.withCore_form h rfl

theorem State.fwuLoad_form (h : s.Form) : s.fwuLoad.Form := by
  unfold State.fwuLoad
  split
  · exact State.fwuResult_form _ h
  · exact State.fwuResult_form _ (State.onMgmt_form _ (State.onMcore_form _ _ (State.withSram_form h (putBytes_wf _ _))))

theorem State.fwuOp_form (m : Master) (op : Nat) (h : s.Form) : (s.fwuOp m op).Form := by
  unfold State.fwuOp
  dsimp only
  split
  · exact h
  · split
    · exact State.fwuResult_form _ h
    · split
      · exact State.form_of_same (by simp [State.fwuVerify_keeps]) h
      · split
        · exact State.fwuLoad_form h
        · split
          · exact State.fwuResult_form _ (State.onMgmt_form _ h)
          · split
            · exact State.startSwitch_form _ (State.fwuResult_form _ h)
            · split
              · exact State.form_of_same (by simp [State.fwuConfirm_keeps]) h
              · split
                · exact State.startSwitch_form _ (State.fwuResult_form _ h)
                · split
                  · exact State.fwuResult_form _ (State.onMgmt_form _ (State.onMcore_form _ _ h))
                  · exact State.fwuResult_form _ h

theorem State.fwuCmd_form (m : Master) (v : Word) (h : s.Form) : (s.fwuCmd m v).Form :=
  State.fwuOp_form _ _ (State.when_form h (fun _ ht => State.form_of_same (by simp [State.raiseSvnOp_keeps]) ht))

theorem State.cctl_form (c : Nat) (ien den : Bool) (h : s.Form) : (s.cctl c ien den).Form :=
  State.onMcore_form _ _ h

theorem State.victimInv_form (c : Nat) (k : CacheSel) (h : s.Form) : (s.victimInv c k).Form :=
  State.onMcore_form _ _ h

theorem State.cacheInv_form (c : Nat) (k : CacheSel) (how : MaintBy) (h : s.Form) : (s.cacheInv c k how).Form :=
  State.onMcore_form _ _ h

theorem State.cacheClean_form (m : Master) (c : Nat) (k : CacheSel) (how : MaintBy) (inv : Bool) (h : s.Form) :
    (s.cacheClean m c k how inv).Form := by
  unfold State.cacheClean
  dsimp only
  split
  · split
    · exact State.onMcore_form _ _ h
    · split
      · exact State.cacheInv_form _ _ _ h
      · exact h
  · split
    · exact State.onMcore_form _ _ h
    · split
      · exact State.cacheInv_form _ _ _ h
      · exact h

theorem State.cmaint_form (m : Master) (c : Nat) (v : Word) (h : s.Form) : (s.cmaint m c v).Form := by
  unfold State.cmaint
  dsimp only
  split
  · exact h
  · split
    · exact State.victimInv_form _ _ h
    · split
      · exact State.cacheClean_form _ _ _ _ _ h
      · split
        · exact State.cacheInv_form _ _ _ h
        · exact State.cacheClean_form _ _ _ _ _ h

theorem State.deviceRecovery_form (h : s.Form) : s.deviceRecovery.Form := by
  unfold State.deviceRecovery
  split
  · exact State.sorrelRecovery_form h
  · dsimp only
    split
    · exact State.devRecovered_form (State.withFlt_form _ (State.unitsBack_form _ h))
    · split
      · exact State.warmReset_form _ (State.withFlt_form _ (State.unitsBack_form _ h))
      · exact State.coldReset_form _ (State.withFlt_form _ (State.unitsBack_form _ h))

theorem State.recoverRec_form (u : Nat) (h : s.Form) : (s.recoverRec u).Form := by
  unfold State.recoverRec
  dsimp only
  split
  · exact h
  · split
    · exact State.deviceRecovery_form h
    · split
      · split
        · exact State.recoveryReset_form _ h
        · exact State.closeRec_form _ (State.recoveryReset_form _ h)
      · split
        · exact State.applyDiscard_form _ _ h
        · exact State.closeRec_form _ (State.unitsBack_form _ (State.applyDiscard_form _ _ h))

theorem State.fcExitOp_form (site : Nat) (h : s.Form) : (s.fcExitOp site).Form := by
  unfold State.fcExitOp
  dsimp only
  split
  · exact State.fcResult_form _ h
  · split
    · exact State.fcResult_form _ h
    · exact State.fcResult_form _ (State.recoverRec_form _ h)

theorem State.fcRecoverOp_form (m : Master) (site : Nat) (h : s.Form) : (s.fcRecoverOp m site).Form := by
  unfold State.fcRecoverOp
  dsimp only
  split
  · exact State.fcResult_form _ h
  · split
    · exact State.fcResult_form _ h
    · split
      · exact State.fcResult_form _ (State.rstOp_form _ _ h)
      · exact State.fcResult_form _ (State.recoverRec_form _ h)

theorem State.fcInjectOp_form (cls site : Nat) (h : s.Form) : (s.fcInjectOp cls site).Form := by
  unfold State.fcInjectOp
  split
  · exact State.fcResult_form _ h
  · split
    · exact State.fcResult_form _ h
    · split
      · exact State.fcResult_form _ h
      · exact State.fcResult_form _ (State.fault_form _ _ _ _ _ _ h)

theorem State.fcCmd_form (m : Master) (op : Nat) (h : s.Form) : (s.fcCmd m op).Form := by
  unfold State.fcCmd
  dsimp only
  split
  · exact State.fcExitOp_form _ h
  · split
    · exact State.fcRecoverOp_form _ _ h
    · split
      · exact State.fcInjectOp_form _ _ h
      · exact h

theorem State.dillEffect_form (m : Master) (p x : Nat) (v : Word) (h : s.Form) : (s.dillEffect m p x v).Form := by
  unfold State.dillEffect
  split
  · split
    · exact State.rstWrite_form _ _ _ h
    · split
      · exact State.fwuCmd_form _ _ h
      · split
        · exact State.form_of_same (by simp [State.mgmtMoved_keeps]) h
        · exact h
  · split
    · exact State.cctl_form _ _ _ h
    · split
      · exact State.cmaint_form _ _ _ h
      · exact h
  · split
    · exact State.form_of_same (by simp [State.rstoreData_keeps]) h
    · exact h
  · split
    · exact State.fcCmd_form _ _ h
    · split
      · exact State.withFlt_form _ h
      · exact h
  · split
    · exact State.form_of_same (by simp [State.evrRoute_keeps]) h
    · split
      · exact State.form_of_same (by simp [State.clearPend_keeps]) h
      · split
        · exact State.form_of_same (by simp [State.setEnables_keeps]) h
        · exact h
  · split
    · exact State.form_of_same (by simp [State.hscOp_keeps]) h
    · exact h
  · split
    · exact State.when_form h fun _ ht => State.form_of_same (by simp [State.swapRef_keeps]) ht
    · split
      · exact State.form_of_same (by simp [State.onClk_keeps]) h
      · exact h
  · split
    · exact State.form_of_same (by simp [State.onClk_keeps]) h
    · split
      · exact State.form_of_same (by simp [State.dsel_keeps]) h
      · exact h
  · exact h

theorem State.blockEffect_form (m : Master) (p x : Nat) (v : Word) (was : Bool) (h : s.Form) :
    (s.blockEffect m p x v was).Form := by
  unfold State.blockEffect
  split
  · split
    · exact State.form_of_same (by simp [State.attention_keeps]) h
    · exact h
  · split
    · exact State.form_of_same (by simp [State.retrainLink_keeps]) h
    · exact h
  · split
    · dsimp only
      split
      · exact h
      · split
        · exact State.form_of_same (by simp [State.dmqConfigured_keeps]) h
        · split
          · exact State.form_of_same (by simp [State.dmqAborted_keeps]) h
          · exact h
    · exact h
  · split
    · exact State.tcmd_form _ _ _ h
    · exact h
  · split
    · exact State.mcFlush_form _ h
    · exact h
  · split
    · exact State.when_form h fun _ ht => State.form_of_same (by simp [State.dropDemotions_keeps]) ht
    · split
      · split
        · exact State.form_of_same (by simp [State.promoteDomain_keeps]) h
        · split
          · exact State.form_of_same (by simp [State.cancelDomain_keeps]) h
          · exact h
      · exact h
  · dsimp only
    split
    · exact State.when_form (State.when_form h (fun _ ht => State.form_of_same (by simp [State.startJob_keeps]) ht)) fun _ ht =>
        State.form_of_same (by simp [State.cancelJob_keeps]) ht
    · exact h
  · split
    · exact State.fabricOp_form _ _ (fun _ ht => State.form_of_same (by simp [State.dlnkCmd_keeps]) ht) h
    · exact h
  · split
    · exact State.withBrg_form _ h
    · exact h
  · split
    · exact State.form_of_same (by simp [State.trcCfg_keeps]) h
    · split
      · exact State.form_of_same (by simp [State.trcRptr_keeps]) h
      · split
        · exact State.form_of_same (by simp [State.pmcGctl_keeps]) h
        · exact h
  · exact State.ddrEffect_form _ _ _ h
  · exact State.ddrEffect_form _ _ _ h
  · exact State.dillEffect_form _ _ _ _ h

theorem State.regEffect_form (m : Master) (off : Nat) (v : Word) (was : Bool) (h : s.Form) :
    (s.regEffect m off v was).Form := by
  unfold State.regEffect
  dsimp only
  split
  · exact h
  · split
    · exact State.commonEffect_form _ _ _ _ h
    · exact State.blockEffect_form _ _ _ _ _ h

theorem State.writeReg_form (m : Master) (who : Option Master) (off : Nat) (v : Word) (h : s.Form) :
    (s.writeReg m who off v).1.Form :=
  State.checkWrite_form _ _ _ _ _ (fun _ => State.regEffect_form _ _ _ _) h

theorem runWords_form (n : Nat) (m : Master) (j : SbJob) (h : s.Form) : (runWords n m j s).1.Form := by
  fun_induction runWords n m j s
  case case5 => exact State.readReg_form _ _ h
  case case6 ih | case7 ih => exact ih (State.readReg_form _ _ h)
  case case9 | case10 => exact State.writeReg_form _ _ _ _ h
  case case11 ih | case12 ih => exact ih (State.writeReg_form _ _ _ _ h)
  all_goals exact h

theorem State.runMb_form (h : s.Form) : s.runMb.Form := by
  unfold State.runMb
  split
  · exact h
  · split
    · exact h
    · dsimp only
      split
      · exact State.emit_form _ (State.onMgmt_form _ (runWords_form _ _ _ h))
      · exact State.onMgmt_form _ (runWords_form _ _ _ h)

theorem State.regAccessOp_form (ld : Fin 64) (off : Nat) (wr : Option Word) (h : s.Form) : (s.regAccessOp ld off wr).Form := by
  unfold State.regAccessOp
  split
  · exact State.form_of_same (by simp [State.mbFail_keeps]) h
  · split
    · exact State.form_of_same (by simp [State.mbFail_keeps]) h
    · exact State.runMb_form (State.onMgmt_form _ h)

theorem State.dropNode_form (lvl i : Nat) (h : s.Form) : (s.dropNode lvl i).Form :=
  State.withMem_form (State.withMem_form h rfl) rfl

theorem State.unloadNode_form (lvl i : Nat) (h : s.Form) : (s.unloadNode lvl i).Form := by
  unfold State.unloadNode
  refine State.each_form _ h ?_
  intro t x ht
  dsimp only
  split
  · exact ht
  · exact State.setMc_form _ _ (State.when_form ht (fun _ => State.cleanLine_form _ _))

theorem State.leaveSpine_form (e : Nat) (h : s.Form) : (s.leaveSpine e).Form := by
  unfold State.leaveSpine
  refine State.each_form _ h fun t n ht => ?_
  split
  · exact ht
  · split
    · exact ht
    · dsimp only
      split
      · exact State.dropNode_form _ _ ht
      · have unloaded := State.unloadNode_form n.1 n.2 ht
        generalize t.unloadNode n.1 n.2 = u at unloaded
        exact State.withMem_form unloaded rfl

theorem State.toErase_form (e : Nat) (h : s.Form) : (s.toErase e).Form :=
  State.leaveSpine_form _ (State.form_of_same (by simp [State.extTo_keeps]) h)

theorem State.settleOffer_form (e : Nat) (h : s.Form) : (s.settleOffer e).Form := by
  unfold State.settleOffer
  dsimp only
  split
  · split
    · exact State.onExt_form _ _ (State.extTo_form _ _ (State.extEvent_form _ _ _ h))
    · exact State.toErase_form _ (State.extEvent_form _ _ _ h)
  · exact State.extEvent_form _ _ _ (State.onExt_form _ _ (State.extTo_form _ _ h))

theorem State.dcAnswer_form (n e : Nat) (gen : BitVec 16) (accept : Bool) (h : s.Form) : (s.dcAnswer n e gen accept).Form := by
  unfold State.dcAnswer
  split
  · exact State.emit_form _ (State.extEvent_form _ _ _ h)
  · split
    · exact State.emit_form _ h
    · exact State.when_form (State.emit_form _ (State.onExt_form _ _ h)) fun _ => State.settleOffer_form _

theorem State.leaveExtent_form (e agent : Nat) (h : s.Form) : (s.leaveExtent e agent).Form :=
  State.runOn_form _ (State.each_form _ h (fun _ _ => State.withHome_form _))

theorem State.release_form (n e : Nat) (h : s.Form) : (s.release n e).Form := by
  unfold State.release
  dsimp only
  split
  · exact h
  · split
    · exact State.leaveExtent_form _ _ (State.onExt_form _ _ h)
    · exact State.toDrain_form _ h

theorem State.dcRelease_form (n : Nat) (exts : List (BitVec 18 × BitVec 16)) (h : s.Form) : (s.dcRelease n exts).Form := by
  unfold State.dcRelease
  dsimp only
  split
  · exact State.emit_form _ (State.each_form _ h (fun _ _ => State.release_form _ _))
  · exact State.emit_form _ (State.each_form _ (State.each_form _ h (fun _ _ => State.extEvent_form _ _ _))
      (fun _ _ => State.extEvent_form _ _ _))

theorem State.fmCommand_form (op e d m g : Nat) (h : s.Form) : (s.fmCommand op e d m g).Form := by
  unfold State.fmCommand
  dsimp only
  split
  · exact State.emit_form _ (State.writeReg_form _ _ _ _ (State.writeReg_form _ _ _ _
      (State.writeReg_form _ _ _ _ (State.writeReg_form _ _ _ _ (State.writeReg_form _ _ _ _ h)))))
  · exact State.emit_form _ (State.writeReg_form _ _ _ _ (State.writeReg_form _ _ _ _
      (State.writeReg_form _ _ _ _ (State.writeReg_form _ _ _ _ (State.writeReg_form _ _ _ _ h)))))

theorem State.mctpServed_form (m : MctpMsg) (h : s.Form) : (s.mctpServed m).Form := by
  unfold State.mctpServed
  split
  · exact State.emit_form _ h
  · exact State.fmCommand_form _ _ _ _ _ h
  · exact State.takeFree_form (State.emit_form _ h)
  · exact State.takeFree_form (State.emit_form _ h)
  · exact State.takeFree_form (State.emit_form _ h)

theorem State.serve_form (i : CoreMsg) (h : s.Form) : (s.serve i).Form := by
  unfold State.serve
  split
  · exact State.form_of_same (by simp [State.mbOpen_keeps]) h
  · exact State.mbDone_form _ _ _ h
  · exact State.mbDone_form _ _ _ h
  · exact State.mbDone_form _ _ _ (State.onLd_form _ _ h)
  · exact State.form_of_same (by simp [State.mbEventsOp_keeps]) h
  · exact State.form_of_same (by simp [State.mbClearOp_keeps]) h
  · exact State.mbDone_form _ _ _ h
  · exact State.form_of_same (by simp [State.mbSetTimeOp_keeps]) h
  · exact State.form_of_same (by simp [State.mbOpen_keeps]) h
  · exact State.form_of_same (by simp [State.mbOpen_keeps]) h
  · exact State.form_of_same (by simp [State.mbOpen_keeps]) h
  · exact State.form_of_same (by simp [State.transferOp_keeps]) h
  · exact State.form_of_same (by simp [State.activateOp_keeps]) h
  · exact State.form_of_same (by simp [State.mbOpen_keeps]) h
  · exact State.form_of_same (by simp [State.mbOpen_keeps]) h
  · exact State.mbDone_form _ _ _ h
  · exact State.mbDone_form _ _ _ h
  · exact State.mbDone_form _ _ _ h
  · exact State.mbDone_form _ _ _ h
  · exact State.form_of_same (by simp [State.marginOp_keeps]) h
  · exact State.form_of_same (by simp [State.logReadOp_keeps]) h
  · exact State.regAccessOp_form _ _ _ h
  · exact State.dcAnswer_form _ _ _ _ h
  · exact State.dcRelease_form _ _ h
  · exact State.form_of_same (by simp [State.mbFail_keeps]) h
  · exact State.mctpServed_form _ h

theorem State.toCore_form (i : CoreMsg) (h : s.Form) : (s.toCore i).Form := by
  unfold State.toCore
  split
  · exact State.onMgmt_form _ h
  · exact State.serve_form _ h

theorem State.mailbox_form (ld : Fin 64) (i : CoreMsg) (h : s.Form) : (s.mailbox ld i).Form :=
  State.when_form h fun _ ht => State.toCore_form _ (State.form_of_same (by simp [State.heard_keeps]) ht)

theorem State.sweepDone_form (l : List Nat) (h : s.Form) : (s.sweepDone l).Form :=
  State.withHome_form _ (State.sweepAgents_form _ h)

theorem State.linkSwept_form (l : Nat) (h : s.Form) : (s.linkSwept l).Form := by
  unfold State.linkSwept
  dsimp only
  split
  · exact State.negotiate_form _ _ (State.onLink_form _ _ (State.sweepDone_form _ h))
  · exact State.onLink_form _ _ (State.sweepDone_form _ h)

theorem State.brgSwept_form (h : s.Form) : s.brgSwept.Form := by
  unfold State.brgSwept
  dsimp only
  split
  · exact State.sweepDone_form _ h
  · split
    · exact State.when_form (State.each_form _ (State.withBrg_form _ (State.agentsBack_form _ (State.sweepDone_form _ h)))
        (fun _ _ ht => State.when_form ht (fun _ hu => State.form_of_same (by simp [State.sendCredit_keeps]) hu))) fun _ ht =>
          State.form_of_same (by simp [State.brgUp_keeps]) ht
    · exact State.each_form _ (State.withBrg_form _ (State.agentsBack_form _ (State.sweepDone_form _ h))) fun _ _ ht =>
        State.when_form ht (fun _ hu => State.form_of_same (by simp [State.sendCredit_keeps]) hu)

theorem State.enlist_form (line : Nat) (who : Requester) (k : ReqKind) (tag : Nat) (cred mark : Bool) (h : s.Form) :
    (s.enlist line who k tag cred mark).Form := by
  unfold State.enlist
  dsimp only
  split
  · exact State.withHome_form _ (State.form_of_same (by simp [State.travel_keeps]) h)
  · exact State.readmit_form _ (State.takeIn_form _ _ (State.form_of_same (by simp [State.travel_keeps]) h))

theorem State.brgRequest_form (a tag line : Nat) (k : ReqKind) (caching cred : Bool) (h : s.Form) :
    (s.brgRequest a tag line k caching cred).Form := by
  unfold State.brgRequest
  dsimp only
  split
  · exact h
  · split
    · exact State.brgTurn_form _ _ _ _ (State.withHome_form _
        (State.when_form (State.form_of_same (by simp [State.tagging_keeps]) h)
          (fun _ ht => State.raiseHs_form _ _ _ _ _ (State.withHome_form _ ht))))
    · split
      · exact State.brgTurn_form _ _ _ _ (State.withHome_form _
          (State.form_of_same (by simp [State.brgLostWrite_keeps, State.tagging_keeps]) h))
      · split
        · exact State.brgTurn_form _ _ _ _ (State.raise_form _
            (State.withHome_form _ (State.form_of_same (by simp [State.tagging_keeps]) h)))
        · exact State.enlist_form _ _ _ _ _ _ (State.form_of_same (by simp [State.tagging_keeps]) h)

theorem State.gate_form (m : Master) (off : Nat) (val : Word) (act : State → State) (step : ∀ t : State, t.Form → (act t).Form)
    (h : s.Form) : (s.gate m off val act).Form := by
  unfold State.gate
  split
  · exact h
  · extract_lets came r
    have came_form : came.Form := State.arrives_form _ h
    have r_form : r.1.Form := State.checkWrite_form _ _ _ _ _ step (State.afterChange_form _ came_form)
    split
    · exact State.holdAccess_form _ came_form
    · split
      · exact State.finish_form _ r_form
      · split
        · exact State.refuse_form _ _ r_form
        · split
          · exact State.withMgmt_form _ r_form
          · exact r_form

theorem State.auxLost_form (h : s.Form) : s.auxLost.Form := by
  unfold State.auxLost
  refine State.onBoot_form _ (State.withMgmt_form _ (State.withSram_form (State.withClk_form _ (State.coldClear_form ?_)) fun _ => rfl))
  exact State.onHsc_form _ (State.tornWrites_form h)

theorem State.auxClear_form (rise : Bool) (b : Board) (h : s.Form) : (s.auxClear rise b).Form := by
  have clear := State.coldClear_form (State.tornWrites_form h)
  unfold State.auxClear
  refine State.when_form (State.each_form _ (State.onHsc_form _ ⟨clear.lines, rfl⟩) ?_) fun _ => State.retWrite_form _ _ _
  exact fun _ _ => State.onGrp_form _ _

theorem State.auxBoot_form (rise : Bool) (b : Board) (h : s.Form) : (s.auxBoot rise b).Form := by
  unfold State.auxBoot
  dsimp only
  split
  · exact State.bootStart_form (State.bootRom_form (State.auxClear_form _ _ h))
  · exact State.onBoot_form _ (State.bootRom_form (State.auxClear_form _ _ h))

theorem State.snoopTimeout_form (a line : Nat) (h : s.Form) : (s.snoopTimeout a line).Form :=
  State.raiseHs_form _ _ _ _ _ (State.restLink_form _ (State.agentsGone_form _ (State.withHome_form _ h)))

theorem State.answered_form (a line : Nat) (keepS : Bool) (h : s.Form) : (s.answered a line keepS).Form :=
  State.runLine_form _ (State.withHome_form _ h)

theorem runSb_form (n : Nat) (h : s.Form) : (runSb n s).Form := by
  fun_induction runSb n s
  case case2 ih => exact ih (State.emit_form _ (State.onMgmt_form _ (runWords_form _ _ _ h)))
  case case3 => exact State.onMgmt_form _ (runWords_form _ _ _ h)
  case case5 ih => exact ih (State.onMgmt_form _ h)
  all_goals exact h

theorem State.goSb_form (h : s.Form) : s.goSb.Form :=
  runSb_form _ h

theorem State.perform_form (hh : HeldAccess) (h : s.Form) : (s.perform hh).Form := by
  unfold State.perform
  split
  · exact State.goSb_form (State.onMgmt_form _ h)
  · split
    · exact State.unclaimed_form _ _ _ h
    · split
      · split
        · exact State.form_of_same (by simp [State.toHost_keeps]) h
        · exact h
      · split
        · dsimp only
          split
          · exact State.refuse_form _ _ (State.writeReg_form _ _ _ _ h)
          · exact State.writeReg_form _ _ _ _ h
        · dsimp only
          split
          · exact State.readReg_form _ _ h
          · exact State.returnRead_form _ _ _ (State.readReg_form _ _ h)

theorem State.access_form (hh : HeldAccess) (h : s.Form) : (s.access hh).Form := by
  unfold State.access
  split
  · exact h
  · split
    · exact State.holdAccess_form _ (State.arrives_form _ h)
    · exact State.perform_form _ (State.afterChange_form _ (State.arrives_form _ h))

theorem State.cfgWrite_form (off : Nat) (v : Word) (h : s.Form) : (s.cfgWrite off v).1.Form := by
  unfold State.cfgWrite
  dsimp only
  exact State.onBoot_form _ (State.withRet_form _ (State.writeReg_form _ _ _ _ h))

theorem State.cfgCommitBrg_form (p : Nat) (h : s.Form) : (s.cfgCommitBrg p).Form := by
  unfold State.cfgCommitBrg
  split
  · exact h
  · dsimp only
    split
    · split
      · exact State.onBoot_form _ (State.readReg_form _ _ h)
      · exact State.cfgFail_form (State.readReg_form _ _ h)
    · split
      · exact State.cfgFail_form (State.cfgWrite_form _ _ h)
      · exact State.onBoot_form _ (State.cfgWrite_form _ _ h)

theorem State.endDrain_form (c : Nat) (h : s.Form) : (s.endDrain c).Form := by
  unfold State.endDrain
  dsimp only
  split
  · exact State.drained_form _ (State.moveMeta_form _ h)
  · exact State.drainStalled_form _ (State.moveMeta_form _ h)

theorem State.resetGoesOn_form (slot : Nat) (h : s.Form) : (s.resetGoesOn slot).Form := by
  unfold State.resetGoesOn
  split
  · exact h
  · split
    · exact State.sorrelRecovery_form h
    · split
      · exact State.recoverRec_form _ h
      · exact State.recoveryReset_form _ h

theorem State.refclkLost_form (g : Nat) (h : s.Form) : (s.refclkLost g).Form :=
  State.groupLost_form _ (State.coast_form _ _ (State.onGrp_form _ _ (State.form_of_same (by simp [State.setMon_keeps]) h)))

theorem State.flagged_form (c : MonClock) (h : s.Form) : (s.flagged c).Form := by
  unfold State.flagged
  split
  · exact State.discSync_form (State.when_form (State.form_of_same
      (by simp [State.setXtal_keeps, State.xtalFails_keeps, State.setMon_keeps]) h)
        (fun _ ht => State.form_of_same (by simp [State.coastRef_keeps]) ht))
  · exact State.coast_form _ _ h
  · exact State.when_form h fun _ => State.coast_form _ _
  · exact State.coast_form _ _ h
  · exact State.refclkLost_form _ h
  · exact State.form_of_same (by simp [State.setMon_keeps]) h

theorem State.writeCmaint_form (m : Master) (c : Nat) (v : Word) (h : s.Form) : (s.writeCmaint m c v).Form :=
  State.gate_form _ _ _ _ (fun _ => State.cmaint_form _ _ _) h

theorem State.writeCommit_form (m : Master) (p : Nat) (v : Word) (h : s.Form) : (s.writeCommit m p v).Form :=
  State.gate_form _ _ _ _ (fun _ => State.commitWrite_form _ _ _) h

theorem State.cachedLoad_form (c a : Nat) (fetch : Bool) (h : s.Form) : (s.cachedLoad c a fetch).Form := by
  unfold State.cachedLoad
  dsimp only
  split
  · split
    · exact State.emit_form _ h
    · split
      · exact State.withFree_form _ (State.emit_form _ h)
      · split
        · exact State.emit_form _ (State.onMcore_form _ _ h)
        · exact State.emit_form _ (State.onMcore_form _ _ h)
  · split
    · exact State.emit_form _ h
    · split
      · exact State.withFree_form _ (State.emit_form _ h)
      · split
        · exact State.emit_form _ (State.onMcore_form _ _ h)
        · exact State.emit_form _ (State.onMcore_form _ _ h)

theorem drain_form (n : Nat) (h : s.Form) : (drain n s).Form := by
  fun_induction drain n s
  case case3 ih => exact ih (State.perform_form _ (State.withRet_form _ h))
  all_goals exact h

theorem State.moveRoles_form (back : Bool) (h : s.Form) : (s.moveRoles back).Form :=
  State.when_form (State.raiseAt_form _ _ _ (State.emit_form _
    (State.onMgmt_form _ (State.onBoot_form _ (State.onMcore_form _ _ (State.onMcore_form _ _ h)))))) fun _ =>
      State.raiseAt_form _ _ _

theorem State.trySwitch_form (h : s.Form) : s.trySwitch.Form := by
  unfold State.trySwitch
  split
  · split
    · exact State.moveRoles_form _ h
    · exact h
  · exact h

theorem State.goOn_form (h : s.Form) : s.goOn.Form := by
  unfold State.goOn
  dsimp only
  split
  · exact State.each_form _ (State.onMgmt_form _ (State.trySwitch_form
      (State.runMb_form (drain_form _ (State.runMb_form (State.goSb_form h)))))) fun _ _ => State.serve_form _
  · exact State.trySwitch_form (State.runMb_form (drain_form _ (State.runMb_form (State.goSb_form h))))

theorem State.cleansEnd_form (c : Nat) (h : s.Form) : (s.cleansEnd c).Form := by
  unfold State.cleansEnd
  refine State.each_form _ (State.onMcore_form _ _ h) ?_
  intro t x ht
  split
  · exact State.cacheInv_form _ _ _ ht
  · exact ht

theorem State.popWrite_form (c : Nat) (h : s.Form) : (s.popWrite c).Form :=
  State.cleansEnd_form _ (State.onMcore_form _ _ h)

theorem State.drainOne_form (c : Fin 2) (h : s.Form) : (s.drainOne c).Form := by
  unfold State.drainOne
  split
  · exact h
  · have image : ∀ a b, ((s.withCore { s.core with sram := putBytes s.core.sram a b }).popWrite c.val).Form := fun a b =>
      State.popWrite_form _ (State.withSram_form h (putBytes_wf _ _))
    split
    · exact image _ _
    · exact image _ _
    · split
      · exact h
      · split
        · exact State.popWrite_form _ h
        · split
          · exact h
          · dsimp only
            split
            · exact State.retStore_form _ _ (State.onMcore_form _ _ h)
            · exact State.popWrite_form _ (State.retStore_form _ _ (State.onMcore_form _ _ h))
    · split
      · exact h
      · exact State.perform_form _ (State.popWrite_form _ h)
    · exact State.popWrite_form _ h

theorem drainAll_form (n : Nat) (c : Fin 2) (h : s.Form) : (drainAll n c s).Form := by
  fun_induction drainAll n c s
  case case1 => exact h
  case case2 ih => exact ih (State.drainOne_form _ h)

theorem State.demotionOff_form (p : Nat) (cnt : Option Nat) (h : s.Form) : (s.demotionOff p cnt).Form := by
  unfold State.demotionOff
  refine State.abandon_form _ ?_
  split
  · exact State.form_of_same (by simp [State.tierCount_keeps]) h
  · exact h

theorem State.fetchLeaf_form (p : Nat) (h : s.Form) : (s.fetchLeaf p).1.Form :=
  State.walk_form _ _ _ h

theorem State.readFrame_form (p : Nat) (e : PageEntry) (h : s.Form) : (s.readFrame p e).1.Form := by
  unfold State.readFrame
  refine foldl_holds (P := fun x : State × Option (List Byte) => x.1.Form) h fun x j held => ?_
  dsimp only
  split
  · exact held
  · split <;> exact State.readNear_form _ _ _ _ held

theorem State.writeBin_form (p i loc cls major : Nat) (d : List Byte) (h : s.Form) : (s.writeBin p i loc cls major d).Form :=
  State.each_form _ h fun _ _ => State.putMedia_form _ _ _

theorem State.demoteWith_form (p k : Nat) (m : Migration) (d : List Byte) (mismatch : Bool) (h : s.Form) :
    (s.demoteWith p k m d mismatch).Form := by
  unfold State.demoteWith
  extract_lets zero back used bad packed ps plen cls
  have back_form : ∀ t : State, t.Form → (back t).Form := fun t ht =>
    State.tierCount_form _ (State.giveBack_form _ _ (State.withMem_form ht rfl))
  have packed_form : packed.Form := State.compressed_form _ _ (State.engineUsed_form _ (State.count_form _ _ _ h))
  clear_value back packed
  split
  · split
    · exact State.demotionOff_form _ _ h
    · exact State.unlockPage_form _ _ (State.tierCount_form _ (back_form _ (State.nextMajor_form _ h)))
  · split
    · exact State.verifyFail_form _ _ (State.demotionOff_form _ _ packed_form)
    · split
      · exact State.demotionOff_form _ _ packed_form
      · split
        · exact State.noBin_form (State.demotionOff_form _ _ packed_form)
        next took =>
          extract_lets written
          have written_form : written.Form := State.writeBin_form _ _ _ _ _ _ (State.takeBin_form took packed_form)
          clear_value written
          split
          · exact State.demotionOff_form _ _ (State.giveBin_form _ _ _ _ written_form)
          · exact State.unlockPage_form _ _ (back_form _ (State.nextMajor_form _ written_form))

theorem State.flushPageAtoms_form (p : Nat) (h : s.Form) : (s.flushPageAtoms p).Form :=
  State.each_form _ h fun _ _ => State.flushAtom_form _

theorem State.lockPage_form (p : Nat) (k : MigKind) (dset dloc : Nat) (byWrite : Bool) (h : s.Form) :
    (s.lockPage p k dset dloc byWrite).Form :=
  State.setEntry_form _ _ (State.withMem_form (State.dropParcels_form _ (State.flushPageAtoms_form _ h)) rfl)

theorem State.dmRequest_form (key line : Nat) (k : ReqKind) (tag : Nat) (h : s.Form) : (s.dmRequest key line k tag).Form :=
  State.enlist_form _ _ _ _ _ _ (State.form_of_same (by simp [State.tagging_keeps]) h)

theorem State.descBytes_form (q head : Nat) (host : Option (BitVec 512)) (h : s.Form) : (s.descBytes q head host).1.Form := by
  unfold State.descBytes
  dsimp only
  split
  · split
    · dsimp only
      exact State.form_of_same (by simp [State.ringFetch_keeps]) h
    · dsimp only
      exact State.form_of_same (by simp [State.ringFetch_keeps]) h
  · split
    · dsimp only
      exact State.when_form h fun _ ht => State.form_of_same (by simp [State.staleHandle_keeps]) ht
    · split
      · dsimp only
        exact h
      · split
        · dsimp only
          split
          · exact h
          · exact State.dmRequest_form _ _ _ _ h
        · dsimp only
          refine State.withHome_form _ ?_
          split
          · exact h
          · exact State.dmRequest_form _ _ _ _ h

theorem State.chanOut_form (c en : Nat) (h : s.Form) : (s.chanOut c en).Form :=
  State.fileP_form _ _ _ (State.quarantineChan_form _ h)

theorem State.tooHotAct_form (c : Nat) (h : s.Form) : (s.tooHotAct c).Form :=
  State.when_form h fun _ ht => State.onChan_form _ _ (State.repayAll_form _ (State.chanOut_form _ _ ht))

theorem State.dlnkCtrl_form (m : Master) (e cmd : Nat) (h : s.Form) : (s.dlnkCtrl m e cmd).Form :=
  State.gate_form _ _ _ _ (fun _ ht => State.fabricOp_form _ _
    (fun _ hu => State.form_of_same (by simp [State.dlnkCmd_keeps]) hu) ht) h

theorem State.dmOp_form (q ix op : Nat) (work : Desc → State) (works : ∀ d, (work d).Form) (h : s.Form) :
    (s.dmOp q ix op work).Form := by
  unfold State.dmOp
  split
  · exact h
  · split
    · exact h
    · split
      · exact State.failDesc_form _ _ _ _ h
      · exact works _

theorem State.startElem_form (q ix : Nat) (e : List Byte) (k : Nat) (h : s.Form) : (s.startElem q ix e k).Form := by
  unfold State.startElem
  dsimp only
  split
  · exact State.elemFailed_form _ _ _ h
  · split
    · exact h
    · split
      · exact State.elemFailed_form _ _ _ (State.when_form h
          (fun _ ht => State.form_of_same (by simp [State.staleHandle_keeps]) ht))
      · exact State.dmRequest_form _ _ _ _ h

theorem State.runElems_form (q ix : Nat) (es : List (List Byte)) (k : Nat) (h : s.Form) :
    (State.runElems q ix es k s).Form := by
  fun_induction State.runElems q ix es k s
  case case3 ih => exact ih h
  case case4 ih => exact ih (State.startElem_form _ _ _ _ h)
  all_goals exact h

theorem State.dmPut_form (q ix : Nat) (sp : Bool) (a : Nat) (d : List (Option Byte)) (h : s.Form) :
    (s.dmPut q ix sp a d).Form := by
  unfold State.dmPut
  dsimp only
  split
  · refine State.each_form _ h ?_
    intro t x ht
    split
    · exact State.dmRequest_form _ _ _ _ ht
    · exact State.dmRequest_form _ _ _ _ ht
  · split
    · exact State.each_form _ h fun _ _ ht => State.form_of_same (by simp [State.hostWrites_keeps]) ht
    · exact State.form_of_same (by simp [State.hostWrites_keeps]) h

theorem State.operand_form (q : Nat) (d : Desc) (sp : Bool) (a n : Nat) (h : s.Form) : (s.operand q d sp a n).1.Form := by
  unfold State.operand
  dsimp only
  split
  · split
    · exact h
    · split
      · refine State.each_form _ h ?_
        intro t x ht
        split
        · exact ht
        · exact State.dmRequest_form _ _ _ _ ht
      · refine State.each_form _ h ?_
        intro t x ht
        split
        · exact ht
        · exact State.dmRequest_form _ _ _ _ ht
  · split
    · exact h
    · exact h

theorem State.onEngine_form (q : Nat) (d : Desc) (e : Nat) (work : State) (works : work.Form) (h : s.Form) :
    (s.onEngine q d e work).Form := by
  unfold State.onEngine
  split
  · split
    · exact h
    · split
      · exact State.callEngine_form _ h
      · exact State.engineUsed_form _ works
  · exact State.engineFailed_form _ _ h

theorem State.putCounts_form (q : Nat) (d : Desc) (n : Nat → Nat) (h : s.Form) : (s.putCounts q d n).Form :=
  State.onDesc_form _ _ _ (State.each_form _ h (fun _ _ => State.dmPut_form _ _ _ _ _))

theorem State.putOutput_form (q : Nat) (d : Desc) (addrs : List Nat) (got : List (List Byte)) (h : s.Form) :
    (s.putOutput q d addrs got).Form :=
  State.putCounts_form _ _ _ (State.each_form _ h (fun _ _ ht => State.when_form ht (fun _ => State.dmPut_form _ _ _ _ _)))

theorem State.output_form (q : Nat) (d : Desc) (chain : List Byte) (items : List (List Byte)) (h : s.Form) :
    (s.output q d chain items).1.Form := by
  unfold State.output
  dsimp only
  split
  · exact State.putOutput_form _ _ _ _ (State.when_form h (fun _ ht => State.form_of_same (by simp [State.staleHandle_keeps])
      ht))
  · exact State.putOutput_form _ _ _ _ h

theorem State.putRecord_form (q : Nat) (d : Desc) (h : s.Form) : (s.putRecord q d).Form := by
  unfold State.putRecord
  dsimp only
  split
  · split
    · exact State.dmPut_form _ _ _ _ _ (State.dmPut_form _ _ _ _ _
        (State.onDesc_form _ _ _ (State.takeFree_form (State.takeFree_form (State.takeFree_form (State.takeFree_form h))))))
    · exact State.recordDone_form _ _ (State.dmPut_form _ _ _ _ _
        (State.dmPut_form _ _ _ _ _ (State.onDesc_form _ _ _
          (State.takeFree_form (State.takeFree_form (State.takeFree_form (State.takeFree_form h)))))))
  · split
    · exact State.hostWrites_form _ _ _ _ _ _ (State.hostWrites_form _ _ _ _ _ _
        (State.onDesc_form _ _ _ (State.takeFree_form (State.takeFree_form (State.takeFree_form (State.takeFree_form h))))))
    · exact State.recordDone_form _ _ (State.hostWrites_form _ _ _ _ _ _
        (State.hostWrites_form _ _ _ _ _ _ (State.onDesc_form _ _ _
          (State.takeFree_form (State.takeFree_form (State.takeFree_form (State.takeFree_form h)))))))

theorem State.resealOn_form (p : Nat) (e : PageEntry) (i f : Nat) (h : s.Form) : (s.resealOn p e i f).Form := by
  unfold State.resealOn
  extract_lets given next _ filled near
  have given_form : given.Form := by
    dsimp only [given]
    split
    · exact State.giveBack_form _ _ h
    · exact h
  have next_form : next.Form := State.nextMajor_form _ given_form
  clear_value next
  exact State.runPage_form _ (State.setEntry_form _ _ (State.withMem_form next_form rfl))

theorem State.zeroReseal_form (p : Nat) (h : s.Form) : (s.zeroReseal p).1.Form := by
  unfold State.zeroReseal
  extract_lets e was dropped atoms
  have atoms_form : atoms.Form := State.setAtoms_form _ _ (State.dropParcels_form _ h)
  clear_value atoms e
  split
  · dsimp only
    exact State.resealOn_form _ _ _ _ atoms_form
  · split
    · exact h
    next took =>
      dsimp only
      exact State.resealOn_form _ _ _ _ ((State.takeFrame_ran took (.refl _)).form atoms_form)

theorem State.resealPages_form (f q ix : Nat) (h : s.Form) : (State.resealPages f q ix s).Form := by
  induction f generalizing s with
  | zero => exact h
  | succ f ih =>
    unfold State.resealPages
    split
    · exact h
    · extract_lets p chunk key lines asked r next
      have chunk_form : chunk.Form := State.needChunk_form _ h
      have asked_form : asked.Form :=
        State.each_form _ chunk_form fun _ _ ht => State.when_form ht fun _ => State.dmRequest_form _ _ _ _
      have r_form : r.1.Form := State.zeroReseal_form _ asked_form
      split
      · exact State.endDesc_form _ _ _ h
      · split
        · exact State.failDesc_form _ _ _ _ h
        · split
          · exact h
          · split
            · exact chunk_form
            · split
              · exact asked_form
              · split
                · exact ih (State.moved_form _ _ (State.onDesc_form _ _ _ r_form))
                · exact State.failDesc_form _ _ _ _ r_form

theorem State.dmqWrite_form (m : Master) (q x : Nat) (v : Word) (act : State → State)
    (step : ∀ t : State, t.Form → (act t).Form) (h : s.Form) : (s.dmqWrite m q x v act).Form := by
  unfold State.dmqWrite
  split
  · exact State.gate_form _ _ _ _ step h
  · exact h

theorem State.fromOther_form (c off other : Nat) (h : s.Form) : (s.fromOther c off other).Form := by
  unfold State.fromOther
  split
  · exact State.storeAt_form _ _ _ h
  · exact h

theorem State.tagRaised_form (c off : Nat) (h : s.Form) : (s.tagRaised c off).Form := by
  unfold State.tagRaised
  split
  · exact State.tagFailed_form _ _ h
  · exact State.tagFailed_form _ _ h
  · exact h

theorem State.fromPartner_form (c off other : Nat) (r : CheckResult) (h : s.Form) : (s.fromPartner c off other r).Form := by
  unfold State.fromPartner
  dsimp only
  split
  · exact State.fromOther_form _ _ _ (State.withMem_form h rfl)
  · exact State.corrected_form _ _ _ (State.fromOther_form _ _ _ (State.withMem_form h rfl))
  · exact State.countUe_form _ (State.withMem_form h rfl)
  · exact State.tagRaised_form _ _ (State.withMem_form h rfl)

theorem State.metaBad_form (x b : Nat) (h : s.Form) : (s.metaBad x b).Form := by
  unfold State.metaBad
  dsimp only
  split
  · exact State.withMem_form h rfl
  · split
    · exact State.withMem_form h rfl
    · split
      · exact State.withMem_form h rfl
      · split
        · exact State.withMem_form h rfl
        · exact h

theorem State.lineBad_form (c off : Nat) (h : s.Form) : (s.lineBad c off).Form := by
  unfold State.lineBad
  exact State.when_form (State.copyWalk_form _ h) fun _ ht => State.withLines_form ht fun rises => rises.enter _ _

theorem State.ownedBad_form (c off : Nat) (h : s.Form) : (s.ownedBad c off).Form := by
  unfold State.ownedBad
  split
  · exact State.metaBad_form _ _ h
  · exact State.lineBad_form _ _ h

theorem State.foundBad_form (c off : Nat) (h : s.Form) : (s.foundBad c off).Form :=
  State.fileP_form _ _ _ (State.raise_form _ (State.countUe_form _ (State.ownedBad_form _ _ h)))

theorem State.foundTagFail_form (c off : Nat) (h : s.Form) : (s.foundTagFail c off).Form := by
  unfold State.foundTagFail
  split
  · exact h
  · split
    · exact State.poisonMedia_form _ _ _ _ (State.fileP_form _ _ _ (State.tagFailed_form _ _ h))
    · exact State.lineBad_form _ _ (State.fileP_form _ _ _ (State.tagFailed_form _ _ h))
    · exact State.metaBad_form _ _ h
    · exact h

theorem State.forgetPages_form (e : Nat) (h : s.Form) : (s.forgetPages e).Form :=
  State.withTier_form _ (State.withHome_form _ (State.withMem_form h rfl))

theorem State.returnPages_form (e : Nat) (reseed : Bool) (h : s.Form) : (s.returnPages e reseed).Form := by
  unfold State.returnPages
  refine State.each_form _ h fun t p ht => ?_
  extract_lets entry kib accounted
  have accounted_form : accounted.Form := State.form_of_same (by simp [accounted, State.account_keeps]) ht
  clear_value kib accounted
  split
  · exact ht
  · split
    · exact State.withMem_form accounted_form rfl
    · exact State.giveBack_form _ _ ht

theorem State.writeFc_form (m : Master) (op cls : Nat) (site : BitVec 24) (h : s.Form) : (s.writeFc m op cls site).Form := by
  unfold State.writeFc
  exact State.gate_form _ _ _ _ (fun _ => State.fcCmd_form _ _) (State.gate_form _ _ _ _ (fun _ ht => ht) h)

theorem State.writeTcmd_form (m : Master) (op : Nat) (t i : Nat) (h : s.Form) : (s.writeTcmd m op t i).Form :=
  State.gate_form _ _ _ _ (fun _ => State.tcmd_form _ _ _) h

theorem State.stallEnd_form (c : Nat) (h : s.Form) : (s.stallEnd c).Form := by
  unfold State.stallEnd
  dsimp only
  split
  · exact State.runAll_form h
  · split
    · split
      · exact State.freqChange_form _ (State.runAll_form h)
      · exact State.when_form (State.onChan_form _ _ (State.runAll_form h)) fun _ ht => State.form_of_same
          (by simp [State.nextJob_keeps]) ht
    · exact State.when_form (State.runAll_form h) fun _ ht => State.form_of_same (by simp [State.nextJob_keeps]) ht

theorem State.writeFwu_form (m : Master) (v : Word) (h : s.Form) : (s.writeFwu m v).Form :=
  State.goOn_form (State.gate_form _ _ _ _ (fun _ => State.fwuCmd_form _ _) h)

theorem State.resetPort_form (l : Nat) (h : s.Form) : (s.resetPort l).Form :=
  State.onLink_form _ _ (State.each_form _ (State.linkLost_form _ _ h)
    (fun _ _ ht => State.onLd_form _ _ (State.clearFunction_form _ (State.form_of_same (by simp [State.stopQueue_keeps]) ht))))

theorem State.releaseGrp_form (g : Nat) (h : s.Form) : (s.releaseGrp g).Form := by
  unfold State.releaseGrp
  dsimp only
  split
  · exact State.when_form (State.form_of_same (by simp [State.reach_keeps]) h) fun _ ht => State.applyDiscard_form _ _
      (State.endDiscard_form _ ht)
  · exact State.onGrp_form _ _ (State.when_form (State.when_form (State.form_of_same (by simp [State.reach_keeps]) h)
      (fun _ ht => State.applyDiscard_form _ _ (State.endDiscard_form _ ht)))
        (fun _ ht => State.form_of_same (by simp [State.bringupDone_keeps]) ht))

theorem State.jobPut_form (k a : Nat) (d : List Byte) (h : s.Form) : (s.jobPut k a d).Form := by
  unfold State.jobPut
  refine State.each_form _ h ?_
  intro t x ht
  dsimp only
  split
  · exact State.enlist_form _ _ _ _ _ _ ht
  · exact State.enlist_form _ _ _ _ _ _ ht

theorem State.runJob_form (k op : Nat) (d : List Byte) (cut mismatch : Bool) (h : s.Form) :
    (s.runJob k op d cut mismatch).Form := by
  unfold State.runJob
  dsimp only
  split
  · split
    · exact State.verifyFail_form _ _ (State.jobDone_form _ _ (State.compressed_form _ _ h))
    · exact State.jobDone_form _ _ (State.jobTook_form _ _ _ _
        (State.jobPut_form _ _ _ (State.count_form _ _ _ (State.compressed_form _ _ h))))
  · split
    · exact State.jobDone_form _ _ (State.jobTook_form _ _ _ _ (State.jobPut_form _ _ _ (State.count_form _ _ _ h)))
    · exact State.jobDone_form _ _ (State.jobTook_form _ _ _ _ h)

theorem State.lockLost_form (n : Nat) (h : s.Form) : (s.lockLost n).Form := by
  unfold State.lockLost
  split
  · exact State.faultP_form _ _ _ h
  · split
    · exact State.faultP_form _ _ _ h
    · split
      · exact State.fabricOp_form _ _ (fun _ ht => State.form_of_same (by simp [State.enterLreset_keeps]) ht) h
      · exact State.groupLost_form _ h

theorem State.memArrives_form (l ld hpa : Nat) (k : ReqKind) (tag : Nat) (h : s.Form) : (s.memArrives l ld hpa k tag).Form := by
  unfold State.memArrives
  extract_lets t came first _ seen
  have came_form : came.Form := State.arriveOn_form _ (State.count_form _ _ _ (State.tagging_form _ h))
  have away : ∀ {u : State}, u.Form → (u.turnAway ld k tag).Form := State.turnAway_form _ _ _
  have lost : ∀ n : Nat, (came.turnLost ld hpa k n).Form := fun n => State.turnLost_form _ _ _ _ came_form
  have raised : ∀ n w x, (came.raiseLink l n w x).Form := fun n w x => State.raiseLink_form _ _ _ _ came_form
  have seen_form : seen.Form := State.withHome_form _ came_form
  clear_value seen came
  split
  · exact away (lost _)
  · split
    · exact away (raised _ _ _)
    · extract_lets line hs bad
      split
      · exact away (lost _)
      · split
        · exact away (raised _ _ _)
        · split
          · exact away (lost _)
          · split
            · exact away (raised _ _ _)
            · split
              · exact away (State.when_form seen_form fun _ => State.raiseHs_form _ _ _ _ _)
              · split
                · exact State.enlist_form _ _ _ _ _ _ (raised _ _ _)
                · split
                  · exact away (State.turnLost_form _ _ _ _ (raised _ _ _))
                  · exact State.enlist_form _ _ _ _ _ _ came_form

theorem State.memCommand_form (l : Fin 16) (ld : Fin 64) (hpa : BitVec 64) (k : ReqKind) (tag : Nat) (h : s.Form) :
    (s.memCommand l ld hpa k tag).Form :=
  State.when_form h fun _ => State.memArrives_form _ _ _ _ _

theorem State.metaError_form (hs lvl p : Nat) (both : Bool) (h : s.Form) : (s.metaError hs lvl p both).Form := by
  unfold State.metaError
  dsimp only
  split
  · exact h
  · split
    · exact State.metaGone_form _ _ _ (State.withMem_form h rfl)
    · refine State.fileP_form _ _ _ ?_
      split
      · exact State.withMem_form h rfl
      · exact State.mcDrop_form _ _ _ (State.withMem_form h rfl)

theorem State.sliceError_form (line : Nat) (e : SliceError) (h : s.Form) : (s.sliceError line e).Form := by
  unfold State.sliceError
  dsimp only
  split
  · exact State.when_form h fun _ ht => State.form_of_same (by simp [State.filterError_keeps]) ht
  · exact State.fileP_form _ _ _ h
  · exact State.metaError_form _ _ _ _ h
  · exact State.metaError_form _ _ _ _ h
  · exact State.fileP_form _ _ _ (State.loadKey_form _ _ h)

theorem State.meetsError_form (l ld hpa : Nat) (err : Option SliceError) (h : s.Form) : (s.meetsError l ld hpa err).Form := by
  unfold State.meetsError
  split
  · exact State.when_form h fun _ => State.sliceError_form _ _
  · exact h

theorem State.gotAtomic_form (a tag line : Nat) (cred : Bool) (d : List (List Byte)) (h : s.Form) :
    (s.gotAtomic a tag line cred d).Form := by
  unfold State.gotAtomic
  split
  · exact State.brgRequest_form _ _ _ _ _ _ h
  · exact State.when_form h fun _ => State.brgTurn_form _ _ _ _

theorem State.snoopData_form (a line : Nat) (keep : SnpKeep) (d : Line) (h : s.Form) : (s.snoopData a line keep d).Form := by
  unfold State.snoopData
  extract_lets _ q _ ran
  have ran_form : ran.Form := State.runLine_form _ (State.withHome_form _ h)
  clear_value ran
  split
  · split
    next moved => exact (State.sfGo_ran moved (.refl _)).form ran_form
    next => exact ran_form
  · exact ran_form

theorem State.snpAnswer_form (ag line : Nat) (keep : SnpKeep) (data : Option Line) (h : s.Form) :
    (s.snpAnswer ag line keep data).Form := by
  unfold State.snpAnswer
  refine State.when_form h ?_
  intro t ht
  refine State.answered_form _ _ _ ?_
  split
  · exact State.snoopData_form _ _ _ _ ht
  · exact ht

theorem State.brgAnswer_form (r : FwdReq) (got : Option Word) (status : Nat) (h : s.Form) : (s.brgAnswer r got status).Form :=
  State.goOn_form (State.accessEnds_form _ _ _ (State.when_form (State.withBrg_form _ h) (fun _ => State.wstat_form _ _)))

theorem State.regAnswer_form (tag : Nat) (val : Word) (err : Bool) (h : s.Form) : (s.regAnswer tag val err).Form := by
  unfold State.regAnswer
  split
  · exact State.brgAnswer_form _ _ _ h
  · exact h

theorem State.gotMsg_form (m : Nat × List (List Byte)) (h : s.Form) : (s.gotMsg m).Form := by
  unfold State.gotMsg
  dsimp only
  split
  · exact State.brgRequest_form _ _ _ _ _ _ h
  · exact State.brgRequest_form _ _ _ _ _ _ h
  · exact State.brgRequest_form _ _ _ _ _ _ h
  · exact State.brgRequest_form _ _ _ _ _ _ h
  · exact State.brgRequest_form _ _ _ _ _ _ h
  · exact State.brgRequest_form _ _ _ _ _ _ h
  · exact State.brgRequest_form _ _ _ _ _ _ h
  · exact State.brgRequest_form _ _ _ _ _ _ h
  · exact State.gotAtomic_form _ _ _ _ _ h
  · exact State.form_of_same (by simp [State.fwdAnswer_keeps]) h
  · exact State.snpAnswer_form _ _ _ _ h
  · exact State.snpAnswer_form _ _ _ _ h
  · exact State.snpAnswer_form _ _ _ _ h
  · exact State.snpAnswer_form _ _ _ _ h
  · exact State.snpAnswer_form _ _ _ _ h
  · exact State.snpAnswer_form _ _ _ _ h
  · exact State.form_of_same (by simp [State.snpConflict_keeps]) h
  · exact State.regAnswer_form _ _ _ h
  · exact State.form_of_same (by simp [State.brgEvent_keeps]) h
  · exact h

theorem State.gotMsgs_form (e : Nat) {r : State × List (Nat × List (List Byte))} (h : r.1.Form) : (State.gotMsgs e r).Form := by
  unfold State.gotMsgs
  split
  · exact State.each_form _ h fun _ _ => State.gotMsg_form _
  · exact h

theorem State.moved__form (p : Nat) (m : Migration) (h : s.Form) : (s.moved_ p m).Form :=
  State.unlockPage_form _ _ (State.giveBack_form _ _ h)

theorem State.moveRead_form (hs i x subject : Nat) (uncorr : Bool) (b : TagBind) (h : s.Form) :
    (s.moveRead hs i x subject uncorr b).1.Form := by
  unfold State.moveRead
  split
  · exact State.moveBad_form _ _ _ h
  · dsimp only
    split
    · exact State.moveBad_form _ _ _ (State.readLine_form _ _ _ _ _ h)
    · exact State.readLine_form _ _ _ _ _ h

theorem State.copyNear_form (p : Nat) (m : Migration) (uncorr : BitVec 64) (j : Nat) (h : s.Form) :
    (s.copyNear p m uncorr j).Form := by
  unfold State.copyNear
  dsimp only
  split
  · exact h
  · split
    · exact State.putMedia_form _ _ _ (State.moveRead_form _ _ _ _ _ _ h)
    · exact State.putMedia_form _ _ _ (State.moveRead_form _ _ _ _ _ _ h)

theorem State.copyBin_form (p : Nat) (m : Migration) (uncorr : BitVec 64) (h : s.Form) : (s.copyBin p m uncorr).1.Form := by
  unfold State.copyBin
  refine foldl_holds (P := fun x : State × Bool => x.1.Form) h fun x j held => ?_
  dsimp only
  split
  · exact held
  · split
    · exact State.putMedia_form _ _ _ (State.moveRead_form _ _ _ _ _ _ held)
    · exact State.moveRead_form _ _ _ _ _ _ held

theorem State.migPoisoned_form (p : Nat) (m : Migration) (h : s.Form) : (s.migPoisoned p m).Form :=
  State.unlockPage_form _ _ (State.withMem_form (State.giveBack_form _ _ (State.dropDest_form _ _ h)) rfl)

theorem State.resetGroup_form (g : Nat) (h : s.Form) : (s.resetGroup g).Form :=
  State.each_form _ h fun _ _ => State.resetPort_form _

theorem State.pgChanged_form (was : Bool) (h : s.Form) : (s.pgChanged was).Form := by
  unfold State.pgChanged
  split
  · exact h
  · split
    · split
      · split
        · exact h
        · exact State.leaveAux_form _ h
      · split
        · exact State.powerGood_form h
        · exact h
    · split
      · exact h
      · split
        · exact h
        · exact State.enterAux_form _ h

theorem State.readPage_form (p : Nat) (e : PageEntry) (h : s.Form) : (s.readPage p e).1.Form := by
  unfold State.readPage
  refine foldl_holds (P := fun x : State × ParcelGot => x.1.Form) h fun x q held => ?_
  dsimp only
  split
  · split <;> exact State.readParcel_form _ _ _ held
  · exact held

theorem State.promoted_form (p : Nat) (m : Migration) (d : List Byte) (h : s.Form) : (s.promoted p m d).Form :=
  State.unlockPage_form _ _ (State.tierCount_form _ (State.giveBack_form _ _
    (State.each_form _ (State.nextMajor_form _ h) (fun _ _ => State.putMedia_form _ _ _))))

theorem State.noFrame_form (p : Nat) (byWrite : Bool) (h : s.Form) : (s.noFrame p byWrite).Form := by
  unfold State.noFrame
  dsimp only
  split
  · exact State.runPage_form _ (State.endWrites_form _ (State.exhausted_form _
      (State.setEntry_form _ _ (State.poisonPage_form _ _ (State.form_of_same (by simp [State.untrigger_keeps]) h)))))
  · exact State.tierCount_form _ (State.form_of_same (by simp [State.untrigger_keeps]) h)

theorem State.railFail_form (k : Nat) (h : s.Form) : (s.railFail k).Form :=
  State.powerDown_form (State.onBoot_form _ (State.raiseBoot_form _ _ _ h))

theorem State.railLate_form (k : Nat) (h : s.Form) : (s.railLate k).Form :=
  State.railFail_form _ (State.form_of_same (by simp [State.reach_keeps]) h)

theorem State.recoveryFailed_form (u : Nat) (h : s.Form) : (s.recoveryFailed u).Form := by
  unfold State.recoveryFailed
  dsimp only
  split
  · exact State.when_form (State.withFlt_form _ (State.raise_form _ (State.form_of_same (by simp [State.setRec_keeps]) h)))
      fun _ ht => State.enterAux_form _ (State.onBoot_form _ ht)
  · exact State.raise_form _ (State.form_of_same (by simp [State.setRec_keeps]) h)

theorem State.rstCommand_form (m : Master) (op : Nat) (h : s.Form) : (s.rstCommand m op).Form :=
  State.gate_form _ _ _ _ (fun _ => State.rstWrite_form _ _ _) h

theorem State.retFront_form (w : RetWrite) (rest : List RetWrite) (h : s.Form) : (s.retFront w rest).Form := by
  unfold State.retFront
  refine State.goOn_form ?_
  refine State.when_form ?_ ?_
  · split
    · exact State.retWorn_form _ (State.withRet_form _ h)
    · exact State.retDone_form _ (State.withRet_form _ h)
  · intro t ht
    split
    · exact State.cfgFail_form ht
    · exact State.form_of_same (by simp [State.cfgNext_keeps]) ht

theorem State.direct_form (j : SbJob) (n : Nat) (h : s.Form) : (s.direct j n).Form := by
  unfold State.direct
  split
  · exact h
  · split
    · exact State.emit_form _ h
    · exact State.goOn_form (State.goSb_form (State.onMgmt_form _ h))

theorem State.scrubBad_form (c off : Nat) (h : s.Form) : (s.scrubBad c off).Form := by
  unfold State.scrubBad
  split
  · split
    · exact State.withMem_form h rfl
    · exact State.ownedBad_form _ _ h
  · exact State.lineBad_form _ _ h

theorem State.leaveRank_form (c rank : Nat) (h : s.Form) : (s.leaveRank c rank).Form := by
  unfold State.leaveRank
  exact State.onChan_form _ _ (State.withLines_form h fun rises => rises.filter _)

theorem State.wakeHeld_form (h : s.Form) : s.wakeHeld.Form := by
  unfold State.wakeHeld
  refine State.each_form _ (State.withClk_form _ h) ?_
  intro t x ht
  split
  · exact ht
  · exact State.perform_form _ ht

theorem State.visit_form (p : Nat) (h : s.Form) : (s.visit p).Form := by
  unfold State.visit
  dsimp only
  split
  · exact h
  · split
    · exact State.setEntry_form _ _ h
    · split
      · exact State.setEntry_form _ _ h
      · split
        · split
          · exact State.withTier_form _ h
          · exact h
        · split
          · exact State.withTier_form _ h
          · exact h

theorem State.wakeLeave_form (h : s.Form) : s.wakeLeave.Form := by
  unfold State.wakeLeave
  split
  · exact State.form_of_same (by simp [State.onClk_keeps]) h
  · split
    · exact State.leaveAux_form _ h
    · exact h

end Form
end Sys2Proof.Machine
end

section
/-! SUPPORT. Every command keeps the form of the two memories: a command that moves neither by its frame, and every other by the
operations of its meaning. -/

namespace Sys2Proof.Machine

open Host (Outcome)

/-- A next state that a meaning answers has the form of the two memories. -/
def Formed (r : Outcome State Fault Refusal) : Prop := ∀ t, r = .next t → t.Form

theorem formed_next {t : State} (h : t.Form) : Formed (.next t) := fun _ e => Outcome.next.inj e ▸ h

/-- A command whose frame leaves both memories keeps their form. -/
theorem Moves.formed {l : List Part} {s : State} {r : Outcome State Fault Refusal} (moves : Moves l s r) (h : s.Form)
    (mem : Part.mem ∉ l := by decide) (core : Part.core ∉ l := by decide) : Formed r := by
  obtain ⟨t, rfl, kept⟩ := moves
  exact formed_next (State.form_of_same ⟨kept .mem mem, kept .core core⟩ h)

section Form
variable {s : State}

/-! ### Operations of descriptors -/

theorem State.withRoom_form (q : Nat) (d : Desc) (n : Nat) (work : State) (works : work.Form) (h : s.Form) :
    (s.withRoom q d n work).Form := by
  unfold State.withRoom
  split
  · exact State.failDesc_form _ _ _ _ h
  · exact works

theorem State.withSource_form (q : Nat) (d : Desc) (work : State → List (Option Byte) → State)
    (works : ∀ t b, t.Form → (work t b).Form) (h : s.Form) : (s.withSource q d work).Form := by
  have operand := State.operand_form q d (dSrcSp d.raw) (dSrc d.raw + dFrom d.raw) (dSrcLen d.raw - dFrom d.raw) h
  unfold State.withSource
  dsimp only
  split
  · exact operand
  · exact State.failDesc_form _ _ _ _ operand
  · exact works _ _ operand

theorem State.withChain_form (q : Nat) (d : Desc) (work : State → List Byte → State)
    (works : ∀ t b, t.Form → (work t b).Form) (h : s.Form) : (s.withChain q d work).Form := by
  have operand := State.operand_form q d (dDstSp d.raw) (dAux0 d.raw) (dChainLen d.raw) h
  unfold State.withChain
  split
  · exact works _ _ h
  · dsimp only
    split
    · exact operand
    · exact State.failDesc_form _ _ _ _ operand
    · split
      · exact State.failDesc_form _ _ _ _ operand
      · exact works _ _ operand

theorem State.endStream_form (q ix cons prod : Nat) (crc : Word) (st : Option Nat) (off : Nat) (h : s.Form) :
    (s.endStream q ix cons prod crc st off).Form :=
  State.endDesc_form _ _ _ h

theorem State.coded_form (q n : Nat) (h : s.Form) : (s.coded q n).Form :=
  State.form_of_same (by simp [State.coded_keeps]) h

theorem State.flushRead_form (q ix aux : Nat) (h : s.Form) : (s.flushRead q ix aux).Form :=
  State.form_of_same (by simp [State.flushRead_keeps]) h

theorem State.peerHalf_form (q aux k : Nat) (b : List (Option Byte)) (h : s.Form) : (s.peerHalf q aux k b).Form :=
  State.form_of_same (by simp [State.peerHalf_keeps]) h

theorem State.startDesc_form (q ix : Nat) (raw : BitVec 512) (h : s.Form) : (s.startDesc q ix raw).Form :=
  State.form_of_same (by simp [State.startDesc_keeps]) h

theorem State.dmTurn_form {q : Nat} {t : State} (turn : s.dmTurn q = some t) (h : s.Form) : t.Form :=
  State.form_of_same (by simp [State.dmTurn_keeps _ _ turn]) h

/-! ### Starts of migrations, and the applier -/

theorem State.withinRate_form (h : s.Form) : s.withinRate.Form :=
  State.form_of_same (by simp [State.withinRate_keeps]) h

theorem State.untrigger_form (p : Nat) (h : s.Form) : (s.untrigger p).Form :=
  State.form_of_same (by simp [State.untrigger_keeps]) h

theorem State.moveDest_form {p : Nat} {why : MoveReason} {r : State × Nat × Nat} (found : s.moveDest p why = some r)
    (h : s.Form) : r.1.Form :=
  State.form_of_same (by simp [State.moveDest_keeps _ _ _ found]) h

theorem State.cfgAsleep_form {off : Nat} {t : State} (asleep : s.cfgAsleep off = some t) (h : s.Form) : t.Form :=
  State.form_of_same (by simp [State.cfgAsleep_keeps _ _ asleep]) h

theorem State.cfgCompare_form (got v mask : Word) (h : s.Form) : (s.cfgCompare got v mask).Form :=
  State.form_of_same (by simp [State.cfgCompare_keeps]) h

theorem State.discardLine_form (u ln : Nat) (h : s.Form) : (s.discardLine u ln).Form :=
  (State.discardLine_ran _ _ (.refl s)).form h

theorem State.dropDemotions_form (f : Nat → Bool) (h : s.Form) : (s.dropDemotions f).Form :=
  State.form_of_same (by simp [State.dropDemotions_keeps]) h

theorem State.haltQueue_form (q code : Nat) (h : s.Form) : (s.haltQueue q code).Form :=
  State.form_of_same (by simp [State.haltQueue_keeps]) h

theorem State.cfgNext_form (h : s.Form) : s.cfgNext.Form :=
  State.form_of_same (by simp [State.cfgNext_keeps]) h

theorem State.eccUncorr_form (c off subject : Nat) (h : s.Form) : (s.eccUncorr c off subject).Form :=
  (State.eccUncorr_ran _ _ _ (.refl s)).form h

theorem State.raiseEng_form (k off page cls : Nat) (h : s.Form) : (s.raiseEng k off page cls).Form :=
  (State.raiseEng_ran _ _ _ _ (.refl s)).form h

/-! ### Operations of the commands that change neither memory -/

theorem State.toHost_form (ld : Nat) (m : Msg) (h : s.Form) : (s.toHost ld m).Form :=
  State.form_of_same (by simp [State.toHost_keeps]) h

theorem State.sendUr_form (l ld tag addr : Nat) (posted : Bool) (h : s.Form) : (s.sendUr l ld tag addr posted).Form :=
  State.form_of_same (by simp [State.sendUr_keeps]) h

theorem State.onDom_form (k : Nat) (f : DomainEntry → DomainEntry) (h : s.Form) : (s.onDom k f).Form :=
  State.form_of_same (by simp [State.onDom_keeps]) h

theorem State.reach_form (t : Nat) (h : s.Form) : (s.reach t).Form :=
  State.form_of_same (by simp [State.reach_keeps]) h

theorem State.nextJob_form (c : Nat) (h : s.Form) : (s.nextJob c).Form :=
  State.form_of_same (by simp [State.nextJob_keeps]) h

theorem State.storeRepairs_form (c : Nat) (l : List RepairRec) (h : s.Form) : (s.storeRepairs c l).Form :=
  State.form_of_same (by simp [State.storeRepairs_keeps]) h

theorem State.sayHot_form (c oo n slot : Nat) (h : s.Form) : (s.sayHot c oo n slot).Form :=
  State.form_of_same (by simp [State.sayHot_keeps]) h

theorem State.releaseFrame_form (i f : Nat) (h : s.Form) : (s.releaseFrame i f).Form :=
  State.form_of_same (by simp [State.releaseFrame_keeps]) h

theorem State.releaseBin_form (i loc cls : Nat) (h : s.Form) : (s.releaseBin i loc cls).Form :=
  State.form_of_same (by simp [State.releaseBin_keeps]) h

theorem State.raiseDlnk_form (e src code : Nat) (h : s.Form) : (s.raiseDlnk e src code).Form :=
  State.form_of_same (by simp [State.raiseDlnk_keeps]) h

theorem State.moveRef_form (h : s.Form) : s.moveRef.Form :=
  State.form_of_same (by simp [State.moveRef_keeps]) h

theorem State.onLoop_form (k : Nat) (f : ClkLoop → ClkLoop) (h : s.Form) : (s.onLoop k f).Form :=
  State.form_of_same (by simp [State.onLoop_keeps]) h

theorem State.raiseClk_form (src page subject : Nat) (h : s.Form) : (s.raiseClk src page subject).Form :=
  State.form_of_same (by simp [State.raiseClk_keeps]) h

theorem State.onEng_form (k : Nat) (f : Engine → Engine) (h : s.Form) : (s.onEng k f).Form :=
  State.form_of_same (by simp [State.onEng_keeps]) h

theorem State.engineStop_form (k : Nat) (h : s.Form) : (s.engineStop k).Form :=
  State.form_of_same (by simp [State.engineStop_keeps]) h

theorem State.onClk_form (f : Clocks → Clocks) (h : s.Form) : (s.onClk f).Form :=
  State.form_of_same (by simp [State.onClk_keeps]) h

theorem State.answerWait_form (hh : HeldAccess) (got : Option Word) (status : Nat) (h : s.Form) :
    (s.answerWait hh got status).Form :=
  State.form_of_same (by simp [State.answerWait_keeps]) h

theorem State.adaptCore_form (h : s.Form) : s.adaptCore.Form :=
  State.form_of_same (by simp [State.adaptCore_keeps]) h

theorem State.readInput_form (v i : BitVec 16) (h : s.Form) : (s.readInput v i).Form :=
  State.form_of_same (by simp [State.readInput_keeps]) h

theorem State.scanLane_form (g lane tl tr vu vd : Nat) (h : s.Form) : (s.scanLane g lane tl tr vu vd).Form :=
  State.form_of_same (by simp [State.scanLane_keeps]) h

theorem State.staged__form (i : FwImage) (h : s.Form) : (s.staged_ i).Form :=
  State.form_of_same (by simp [State.staged__keeps]) h

theorem State.railOff_form (h : s.Form) : s.railOff.Form :=
  State.form_of_same (by simp [State.railOff_keeps]) h

/-! ### Operations of the commands that are requests of memory lines -/

theorem State.useCredit_form (hs : Nat) (c : ReqClass) (h : s.Form) : (s.useCredit hs c).Form :=
  (State.useCredit_ran _ _ (.refl s)).form h

theorem State.walkSpare_form (c upto : Nat) (h : s.Form) : (s.walkSpare c upto).Form :=
  (State.walkSpare_ran _ _ (.refl s)).form h

theorem State.walkSilver_form (ev upto : Nat) (h : s.Form) : (s.walkSilver ev upto).Form :=
  (State.walkSilver_ran _ _ (.refl s)).form h

theorem State.retagChild_form (hs : Nat) (r : Retag) (k : Nat) (h : s.Form) : (s.retagChild hs r k).Form :=
  (State.retagChild_ran _ _ _ (.refl s)).form h

theorem State.setRetags_form (hs : Nat) (l : List Retag) (h : s.Form) : (s.setRetags hs l).Form :=
  (State.setRetags_ran _ _ (.refl s)).form h

theorem State.initChunk_form (c : Nat) (h : s.Form) : (s.initChunk c).Form :=
  (State.initChunk_ran _ (.refl s)).form h

/-! ### Operations of the commands, and the commands of the host ports -/

theorem execPerstNAssert_form (g : Fin 4) (h : s.Form) : Formed (execPerstNAssert g s) :=
  formed_next (State.onGrp_form _ _ (State.resetGroup_form _ h))

theorem execRefclkLoss_form (g : Fin 4) (h : s.Form) : Formed (execRefclkLoss g s) :=
  formed_next (State.refclkLost_form _ h)

theorem execRecoveryExit_form (l : Fin 16) (res : Option (Fin 7 × Fin 5)) (h : s.Form) : Formed (execRecoveryExit l res s) := by
  unfold execRecoveryExit
  refine formed_next ?_
  refine State.when_form h ?_
  intro t ht
  split
  · exact State.form_of_same (by simp [State.recovered_keeps]) ht
  · exact State.linkLost_form _ _ ht

theorem execLinkDown_form (l : Fin 16) (h : s.Form) : Formed (execLinkDown l s) :=
  formed_next (State.when_form h (fun _ => State.linkLost_form _ _))

theorem execAgentSweepEnd_form (w : SweepOf) (h : s.Form) : Formed (execAgentSweepEnd w s) := by
  unfold execAgentSweepEnd
  split
  · exact formed_next (State.when_form h (fun _ => State.linkSwept_form _))
  · exact formed_next (State.when_form h (fun _ => State.sweepDone_form _))
  · exact formed_next (State.when_form h (fun _ => State.brgSwept_form))

theorem execHotReset_form (l : Fin 16) (h : s.Form) : Formed (execHotReset l s) :=
  formed_next (State.when_form h (fun _ ht => State.onLink_form _ _ (State.resetPort_form _ ht)))

theorem execLinkDisable_form (l : Fin 16) (h : s.Form) : Formed (execLinkDisable l s) :=
  formed_next (State.when_form h (fun _ ht => State.onLink_form _ _ (State.linkLost_form _ _ ht)))

/-! ### Requests of memory lines (R76, R151) -/

theorem execMemrd_form (l : Fin 16) (ld : Fin 64) (hpa : BitVec 64) (mv : MetaVal) (tag : Nat) (err : Option SliceError)
    (h : s.Form) : Formed (execMemrd l ld hpa mv tag err s) :=
  formed_next (State.memCommand_form _ _ _ _ _ (State.meetsError_form _ _ _ _ h))

theorem execMemrddata_form (l : Fin 16) (ld : Fin 64) (hpa : BitVec 64) (tag : Nat) (h : s.Form) :
    Formed (execMemrddata l ld hpa tag s) :=
  formed_next (State.memCommand_form _ _ _ _ _ h)

theorem execMemspecrd_form (l : Fin 16) (ld : Fin 64) (hpa : BitVec 64) (tag : Nat) (h : s.Form) :
    Formed (execMemspecrd l ld hpa tag s) := by
  unfold execMemspecrd
  refine formed_next ?_
  split
  · exact State.takeFree_form h
  · exact State.memCommand_form _ _ _ _ _ (State.takeFree_form h)

theorem execMemwr_form (l : Fin 16) (ld : Fin 64) (hpa : BitVec 64) (mv : MetaVal) (data : Line) (poison : Bool) (tag : Nat)
    (h : s.Form) : Formed (execMemwr l ld hpa mv data poison tag s) :=
  formed_next (State.memCommand_form _ _ _ _ _ h)

theorem execMemwrptl_form (l : Fin 16) (ld : Fin 64) (hpa : BitVec 64) (mv : MetaVal) (mask : BitVec 64) (data : Line)
    (poison : Bool) (tag : Nat) (h : s.Form) : Formed (execMemwrptl l ld hpa mv mask data poison tag s) :=
  formed_next (State.memCommand_form _ _ _ _ _ h)

theorem execMeminv_form (l : Fin 16) (ld : Fin 64) (hpa : BitVec 64) (mv : MetaVal) (tag : Nat) (h : s.Form) :
    Formed (execMeminv l ld hpa mv tag s) :=
  formed_next (State.memCommand_form _ _ _ _ _ h)

theorem execMemclnevct_form (l : Fin 16) (ld : Fin 64) (hpa : BitVec 64) (tag : Nat) (h : s.Form) :
    Formed (execMemclnevct l ld hpa tag s) :=
  formed_next (State.memCommand_form _ _ _ _ _ h)

theorem execCxlioApertureRead_form (ld : Fin 64) (off : BitVec 64) (len : BitVec 13) (tag : Nat) (h : s.Form) :
    Formed (execCxlioApertureRead ld off len tag s) := by
  unfold execCxlioApertureRead
  split
  · exact formed_next h
  · dsimp only
    split
    · exact formed_next (State.toHost_form _ _ (State.arriveOn_form _ h))
    · split
      · exact formed_next (State.sendUr_form _ _ _ _ _ (State.arriveOn_form _ h))
      · split
        · exact formed_next (State.sendUr_form _ _ _ _ _ (State.arriveOn_form _ h))
        · refine formed_next ?_
          refine State.each_form _ (State.arriveOn_form _ h) ?_
          intro t x ht
          split
          · split
            · exact State.toHost_form _ _ ht
            · exact State.enlist_form _ _ _ _ _ _ (State.tagging_form _ ht)
          · exact State.toHost_form _ _ (State.raiseLink_form _ _ _ _ ht)

theorem execCxlioApertureWrite_form (ld : Fin 64) (off : BitVec 64) (data : List Byte) (ep : Bool) (h : s.Form) :
    Formed (execCxlioApertureWrite ld off data ep s) := by
  unfold execCxlioApertureWrite
  split
  · exact formed_next h
  next l _ =>
    extract_lets came lose
    have came_form : came.Form := State.arriveOn_form _ h
    have lose_form : ∀ t dpa u, State.Form t → (lose t dpa u).Form := fun _ _ _ ht =>
      State.each_form _ ht fun _ _ => State.discardLine_form _ _
    clear_value came lose
    split
    · cases came.apertureDpa ld.val off.toNat data.length with
      | none => exact formed_next came_form
      | some dpa => exact formed_next (lose_form _ _ _ came_form)
    · split
      · exact formed_next (State.sendUr_form _ _ _ _ _ came_form)
      · split
        · exact formed_next (State.sendUr_form _ _ _ _ _ came_form)
        next dpa _ =>
          have told : (came.when ep fun s => s.raiseLink l 9 (some ld.val) dpa).Form :=
            State.when_form came_form fun _ => State.raiseLink_form _ _ _ _
          refine formed_next (State.each_form _ told fun t ln ht => ?_)
          split
          · exact State.raiseLink_form _ _ _ _ ht
          · split
            · exact State.discardLine_form _ _ ht
            · dsimp only
              split <;> exact State.enlist_form _ _ _ _ _ _ (State.tagging_form _ ht)

theorem execAtomicop_form (ld : Fin 64) (tgt : AtomicTarget) (op : AtomicKind) (size : AtomicSize) (a b : BitVec 128)
    (ep : Bool) (tag : Nat) (h : s.Form) : Formed (execAtomicop ld tgt op size a b ep tag s) := by
  unfold execAtomicop
  split
  · exact formed_next h
  next l _ =>
    extract_lets came addr dpa
    have came_form : came.Form := State.arriveOn_form _ h
    clear_value dpa addr came
    split
    · exact formed_next (State.toHost_form _ _ came_form)
    · split
      · exact formed_next (State.toHost_form _ _ came_form)
      · split
        · exact formed_next (State.sendUr_form _ _ _ _ _ came_form)
        · extract_lets line
          split
          · exact formed_next (State.toHost_form _ _ (State.raiseLink_form _ _ _ _ came_form))
          · split
            · exact formed_next (State.toHost_form _ _ (State.raiseLink_form _ _ _ _ came_form))
            · split
              · exact formed_next (State.toHost_form _ _ came_form)
              · exact formed_next (State.enlist_form _ _ _ _ _ _ (State.tagging_form _ came_form))

theorem execBirsp_form (agent : Fin 80) (line : BitVec 40) (r : BiAnswer) (h : s.Form) : Formed (execBirsp agent line r s) := by
  unfold execBirsp
  refine formed_next ?_
  refine State.when_form h ?_
  intro t ht
  refine State.answered_form _ _ _ ?_
  split
  · exact State.arriveOn_form _ ht
  · exact ht

theorem execBiTimeout_form (agent : Fin 80) (line : BitVec 40) (h : s.Form) : Formed (execBiTimeout agent line s) := by
  unfold execBiTimeout
  split
  · exact formed_next (State.snoopTimeout_form _ _ (State.form_of_same (by simp [State.reach_keeps]) h))
  · exact formed_next h

theorem execCreditGrant_form (hs : Fin 32) (r : ReqClass) (h : s.Form) : Formed (execCreditGrant hs r s) :=
  formed_next (State.when_form h (fun _ ht => State.useCredit_form _ _ (State.emit_form _ ht)))

theorem execHrdyRelease_form (g : Fin 4) (h : s.Form) : Formed (execHrdyRelease g s) :=
  formed_next (State.when_form (State.when_form (State.when_form h (fun _ => State.endDiscard_form _))
    (fun _ => State.devRecovered_form)) (fun _ => State.releaseGrp_form _))

/-! ### The address map and the counter tree -/

theorem execTcmdReadEntry_form (m : Master) (table : BitVec 2) (index : BitVec 18) (h : s.Form) :
    Formed (execTcmdReadEntry m table index s) :=
  formed_next (State.writeTcmd_form _ _ _ _ h)

theorem execTcmdStageEntry_form (m : Master) (table : BitVec 2) (index : BitVec 18) (h : s.Form) :
    Formed (execTcmdStageEntry m table index s) :=
  formed_next (State.writeTcmd_form _ _ _ _ h)

theorem execGrant_form (m : Master) (ext : BitVec 18) (h : s.Form) : Formed (execGrant m ext s) :=
  formed_next (State.writeTcmd_form _ _ _ _ h)

theorem execPin_form (m : Master) (ext : BitVec 18) (h : s.Form) : Formed (execPin m ext s) :=
  formed_next (State.writeTcmd_form _ _ _ _ h)

theorem execOffer_form (m : Master) (ext : BitVec 18) (h : s.Form) : Formed (execOffer m ext s) :=
  formed_next (State.writeTcmd_form _ _ _ _ h)

theorem execRecall_form (m : Master) (ext : BitVec 18) (h : s.Form) : Formed (execRecall m ext s) :=
  formed_next (State.writeTcmd_form _ _ _ _ h)

theorem execForce_form (m : Master) (ext : BitVec 18) (h : s.Form) : Formed (execForce m ext s) :=
  formed_next (State.writeTcmd_form _ _ _ _ h)

theorem execFree_form (m : Master) (ext : BitVec 18) (h : s.Form) : Formed (execFree m ext s) :=
  formed_next (State.writeTcmd_form _ _ _ _ h)

theorem execAddDcResponse_form (ld : Fin 64) (ext : BitVec 18) (gen : BitVec 16) (accept : Bool) (h : s.Form) :
    Formed (execAddDcResponse ld ext gen accept s) :=
  formed_next (State.mailbox_form _ _ h)

theorem execReleaseDc_form (ld : Fin 64) (exts : List (BitVec 18 × BitVec 16)) (h : s.Form) :
    Formed (execReleaseDc ld exts s) :=
  formed_next (State.mailbox_form _ _ h)

theorem execOfferToExpiry_form (ext : BitVec 18) (h : s.Form) : Formed (execOfferToExpiry ext s) := by
  unfold execOfferToExpiry
  dsimp only
  split
  · exact formed_next h
  · exact formed_next (State.settleOffer_form _ (State.form_of_same (by simp [State.reach_keeps]) h))

theorem execExtentDrainEnd_form (ext : BitVec 18) (h : s.Form) : Formed (execExtentDrainEnd ext s) :=
  formed_next (State.when_form h (fun _ => State.toErase_form _))

theorem execExtentEraseEnd_form (ext : BitVec 18) (h : s.Form) : Formed (execExtentEraseEnd ext s) := by
  unfold execExtentEraseEnd
  dsimp only
  split
  · exact formed_next h
  · exact formed_next (State.levels_form _ (State.extEvent_form _ _ _
      (State.when_form (State.onExt_form _ _ (State.onDom_form _ _
        (State.freeRunOf_form _ _ _ (State.forgetPages_form _ (State.returnPages_form _ _ h)))))
          (fun _ => State.advanceEpoch_form _))))

/-! ### Landing windows, caches and channels -/

theorem execLandDataWrite_form (page rid : BitVec 16) (off : BitVec 12) (data : List Byte) (ep : Bool) (h : s.Form) :
    Formed (execLandDataWrite page rid off data ep s) := by
  unfold execLandDataWrite
  split
  · exact formed_next (State.when_form h (fun _ ht => State.form_of_same (by simp [State.peerDrop_keeps, State.heard_keeps])
      ht))
  · dsimp only
    split
    · exact formed_next h
    · split
      · exact formed_next (State.form_of_same (by simp [State.peerDrop_keeps, State.heard_keeps]) h)
      · split
        · exact formed_next (State.form_of_same (by simp [State.setReg_keeps, State.heard_keeps]) h)
        · split
          · exact formed_next (State.form_of_same (by simp [State.peerDrop_keeps, State.heard_keeps]) h)
          · refine formed_next ?_
            refine State.each_form _ (State.form_of_same (by simp [State.heard_keeps]) h) ?_
            intro t x ht
            split
            · exact State.discardLine_form _ _ ht
            · exact State.enlist_form _ _ _ _ _ _ ht

theorem execAtomicBufferFlush_form (line : BitVec 40) (h : s.Form) : Formed (execAtomicBufferFlush line s) := by
  unfold execAtomicBufferFlush
  dsimp only
  split
  · exact formed_next h
  · split
    · exact formed_next h
    · exact formed_next (State.flushAtom_form _ (State.form_of_same (by simp [State.reach_keeps]) h))

theorem execMcacheClean_form (hs : Fin 32) (h : s.Form) : Formed (execMcacheClean hs s) :=
  formed_next (State.when_form h (fun _ => State.cleanTo_form _ _ _))

theorem execMcacheFlush_form (m : Master) (hs : Fin 32) (h : s.Form) : Formed (execMcacheFlush m hs s) :=
  formed_next (State.gate_form _ _ _ _ (fun _ => State.mcFlush_form _) h)

theorem execChannelTrainingEnd_form (c : Fin 16) (r : TrainResult) (h : s.Form) : Formed (execChannelTrainingEnd c r s) := by
  unfold execChannelTrainingEnd
  refine formed_next ?_
  refine State.when_form h ?_
  intro t ht
  split
  · exact State.resetGoesOn_form _ (State.form_of_same (by simp [State.rerunEnd_keeps]) ht)
  · split
    · exact State.form_of_same (by simp [State.chanTrained_keeps]) ht
    · exact State.form_of_same (by simp [State.chanFailed_keeps]) ht

theorem execQuickRetrainEnd_form (c : Fin 16) (ok : Bool) (h : s.Form) : Formed (execQuickRetrainEnd c ok s) := by
  unfold execQuickRetrainEnd
  refine formed_next ?_
  refine State.when_form h ?_
  intro t ht
  refine State.stallEnd_form _ ?_
  split
  · exact State.onChan_form _ _ ht
  · exact State.chanOut_form _ _ (State.onChan_form _ _ ht)

theorem execFreqChangeEnd_form (c : Fin 16) (ok : Bool) (h : s.Form) : Formed (execFreqChangeEnd c ok s) := by
  unfold execFreqChangeEnd
  refine formed_next ?_
  refine State.when_form h ?_
  intro t ht
  refine State.stallEnd_form _ ?_
  refine State.when_form ?_ fun _ => State.tooHotAct_form _
  split
  · exact State.raiseChan_form _ _ _ _ _ (State.onChan_form _ _
      (State.settleAll_form (State.when_form (State.onChan_form _ _ ht) (fun _ => State.onChan_form _ _))))
  · exact State.onChan_form _ _ (State.when_form (State.onChan_form _ _ ht) (fun _ => State.onChan_form _ _))

theorem execScrubRead_form (c : Fin 16) (err : BitVec 640) (h : s.Form) : Formed (execScrubRead c err s) := by
  unfold execScrubRead
  refine formed_next ?_
  refine State.when_form h ?_
  intro t ht
  dsimp only
  split
  · split
    · exact State.raiseChan_form _ _ _ _ _ (State.onChan_form _ _
        (State.raiseChan_form _ _ _ _ _ (State.countUe_form _
          (State.scrubBad_form _ _ (State.reach_form _ (State.takeFree_form ht))))))
    · exact State.onChan_form _ _ (State.raiseChan_form _ _ _ _ _
        (State.countUe_form _ (State.scrubBad_form _ _ (State.reach_form _ (State.takeFree_form ht)))))
  · split
    · split
      · split
        · exact State.raiseChan_form _ _ _ _ _ (State.onChan_form _ _ (State.reach_form _ (State.takeFree_form ht)))
        · exact State.onChan_form _ _ (State.reach_form _ (State.takeFree_form ht))
      · split
        · exact State.raiseChan_form _ _ _ _ _ (State.onChan_form _ _
            (State.corrected_form _ _ _ (State.reach_form _ (State.takeFree_form ht))))
        · exact State.onChan_form _ _ (State.corrected_form _ _ _ (State.reach_form _ (State.takeFree_form ht)))
    · split
      · exact State.raiseChan_form _ _ _ _ _ (State.onChan_form _ _ (State.reach_form _ (State.takeFree_form ht)))
      · exact State.onChan_form _ _ (State.reach_form _ (State.takeFree_form ht))

theorem execDramReadReturn_form (c : Fin 16) (off : BitVec 40) (err perr : BitVec 640) (h : s.Form) :
    Formed (execDramReadReturn c off err perr s) := by
  unfold execDramReadReturn
  extract_lets c off other r pr walked read good pbad checked
  have walked_form : walked.Form := State.copyWalk_form _ (State.takeFree_form (State.takeFree_form h))
  have checked_form : ∀ t : State, t.Form → (checked t).Form := fun t ht =>
    State.when_form ht fun _ => State.fromPartner_form _ _ _ _
  clear_value walked good checked r
  split
  · exact formed_next h
  · split
    · exact formed_next walked_form
    · exact formed_next (State.corrected_form _ _ _ walked_form)
    · refine formed_next ?_
      split
      · exact State.fileP_form _ _ _ (checked_form _ (State.countUe_form _ walked_form))
      · exact State.foundBad_form _ _ (checked_form _ walked_form)
    · refine formed_next ?_
      split
      · split
        · exact State.fileP_form _ _ _ (checked_form _ (State.tagRaised_form _ _ walked_form))
        · exact walked_form
      · exact State.foundTagFail_form _ _ (checked_form _ walked_form)

theorem execSpareCopyEnd_form (c : Fin 16) (h : s.Form) : Formed (execSpareCopyEnd c s) := by
  unfold execSpareCopyEnd
  dsimp only
  split
  · exact formed_next (State.when_form h (fun _ ht => State.nextJob_form _
      (State.raiseChan_form _ _ _ _ _ (State.onChan_form _ _
        (State.leaveRank_form _ _ (State.walkSpare_form _ _ (State.reach_form _ ht)))))))
  · exact formed_next h

theorem execSoftRepairEnd_form (r : RepairEnd) (h : s.Form) : Formed (execSoftRepairEnd r s) := by
  unfold execSoftRepairEnd
  dsimp only
  split
  · exact formed_next (State.stallEnd_form _ (State.onChan_form _ _
      (State.raiseChan_form _ _ _ _ _ (State.storeRepairs_form _ _
        (State.onChan_form _ _ (State.form_of_same (by simp [State.softStep_keeps]) h))))))
  · exact formed_next h

theorem execCancelResilver_form (m : Master) (c : Fin 16) (h : s.Form) : Formed (execCancelResilver m c s) :=
  formed_next (State.gate_form _ _ _ _ (fun _ => State.unresilver_form _) h)

theorem execResilverEnd_form (c : Fin 16) (h : s.Form) : Formed (execResilverEnd c s) := by
  unfold execResilverEnd
  refine formed_next ?_
  refine State.when_form h ?_
  intro t ht
  dsimp only
  split
  · exact State.setMir_form _ _ (State.walkSilver_form _ _ (State.reach_form _ ht))
  · exact ht

theorem execSvcDrain_form (m : Master) (c : Fin 16) (h : s.Form) : Formed (execSvcDrain m c s) :=
  formed_next (State.gate_form _ _ _ _ (fun _ => State.drainCmd_form _) h)

theorem execSvcPowerDown_form (m : Master) (c : Fin 16) (h : s.Form) : Formed (execSvcPowerDown m c s) :=
  formed_next (State.gate_form _ _ _ _ (fun _ => State.powerDownCmd_form _) h)

theorem execSvcReturn_form (m : Master) (c : Fin 16) (spd0 spd1 : Option Spd) (h : s.Form) :
    Formed (execSvcReturn m c spd0 spd1 s) :=
  formed_next (State.gate_form _ _ _ _ (fun _ => State.returnCmd_form _ _ _) h)

theorem execChannelDrainEnd_form (c : Fin 16) (h : s.Form) : Formed (execChannelDrainEnd c s) :=
  formed_next (State.when_form h (fun _ => State.endDrain_form _))

theorem execDimmThermalRead_form (c : Fin 16) (t0 t1 : DimmTemps) (h : s.Form) : Formed (execDimmThermalRead c t0 t1 s) := by
  unfold execDimmThermalRead
  refine formed_next ?_
  refine State.when_form h ?_
  intro t ht
  dsimp only
  split
  · exact State.onChan_form _ _ (State.sayHot_form _ _ _ _
      (State.sayHot_form _ _ _ _ (State.onChan_form _ _ (State.reach_form _ ht))))
  · exact State.when_form (State.sayHot_form _ _ _ _ (State.sayHot_form _ _ _ _
      (State.onChan_form _ _ (State.reach_form _ ht)))) fun _ => State.tooHotAct_form _

theorem execSweepVisit_form (page : BitVec 34) (h : s.Form) : Formed (execSweepVisit page s) := by
  unfold execSweepVisit
  refine formed_next ?_
  refine State.when_form h ?_
  intro t ht
  refine State.when_form ?_ fun _ hu => State.raiseAt_form _ _ _ (State.withTier_form _ hu)
  refine State.when_form ht ?_
  intro u hu
  refine State.withTier_form _ ?_
  split
  · exact State.visit_form _ (State.walk_form _ _ _ (State.when_form hu
      (fun _ hu => State.form_of_same (by simp [State.sweepBegin_keeps]) hu)))
  · exact State.when_form hu fun _ hu => State.form_of_same (by simp [State.sweepBegin_keeps]) hu

/-! ### Tiers -/

theorem execPromotionStart_form (page : BitVec 34) (h : s.Form) : Formed (execPromotionStart page s) := by
  unfold execPromotionStart
  extract_lets p e
  split
  · exact formed_next h
  · split
    · exact formed_next h
    · split
      · exact formed_next (State.untrigger_form _ h)
      · split
        · exact formed_next h
        · split
          · exact formed_next (State.noFrame_form _ _ h)
          next took =>
            exact formed_next (State.lockPage_form _ _ _ _ _ (State.untrigger_form _ ((State.takeFrame_ran took (.refl s)).form h)))

theorem execPromotionCommit_form (page : BitVec 34) (fault : BinFault) (h : s.Form) :
    Formed (execPromotionCommit page fault s) := by
  unfold execPromotionCommit
  extract_lets p hs k used
  split
  · exact formed_next h
  next m _ =>
    extract_lets media r
    have used_form : used.Form := State.engineUsed_form _ (State.count_form _ _ _ (State.fetchLeaf_form _ h))
    have read_form : r.1.Form := State.readPage_form _ _ used_form
    have lost : ∀ t : State, t.Form → Formed (.next (t.migPoisoned p m)) := fun _ ht =>
      formed_next (State.migPoisoned_form _ _ ht)
    clear_value used r
    split
    · exact formed_next h
    · split
      · exact formed_next (State.callEngine_form _ h)
      · split
        · exact lost _ (State.fileP_form _ _ _ (State.eccUncorr_form _ _ _ used_form))
        · exact lost _ (State.fileP_form _ _ _ (State.tagFailed_form _ _ used_form))
        · split
          · split
            · exact formed_next (State.promoted_form _ _ _ read_form)
            · exact lost _ (State.fileP_form _ _ _ (State.raiseEng_form _ _ _ _ read_form))
          · exact lost _ (State.fileP_form _ _ _ (State.raiseEng_form _ _ _ _ read_form))
          · exact lost _ read_form
          · exact formed_next read_form

theorem execDemotionStart_form (page : BitVec 34) (h : s.Form) : Formed (execDemotionStart page s) := by
  unfold execDemotionStart
  dsimp only
  split
  · exact formed_next h
  · split
    · exact formed_next (State.dropDemotions_form _ h)
    · split
      · exact formed_next h
      · exact formed_next (State.lockPage_form _ _ _ _ _ (State.dropDemotions_form _ (State.withinRate_form h)))

theorem execDemotionCommit_form (page : BitVec 34) (e : Fin 16) (mismatch : Bool) (h : s.Form) :
    Formed (execDemotionCommit page e mismatch s) := by
  unfold execDemotionCommit
  dsimp only
  split
  · exact formed_next h
  · split
    · exact formed_next h
    · split
      · exact formed_next (State.demotionOff_form _ _ h)
      · split
        · exact formed_next h
        · split
          · exact formed_next (State.callEngine_form _ h)
          · split
            · exact formed_next (State.demotionOff_form _ _ (State.readFrame_form _ _ (State.fetchLeaf_form _ h)))
            · refine formed_next ?_
              split
              · exact State.demotionOff_form _ _ (State.fetchLeaf_form _ h)
              · exact State.demoteWith_form _ _ _ _ _ (State.readFrame_form _ _ (State.fetchLeaf_form _ h))

theorem execMigrationMoveStart_form (page : BitVec 34) (why : MoveReason) (h : s.Form) :
    Formed (execMigrationMoveStart page why s) := by
  unfold execMigrationMoveStart
  extract_lets p _ begun rated noRoom
  have rated_form : rated.Form := State.when_form (State.withTier_form _ h) fun _ => State.withinRate_form
  have noRoom_form : noRoom.Form := State.when_form rated_form fun _ => State.noBin_form
  clear_value rated noRoom
  split
  · exact formed_next h
  · split
    next found =>
      have found_form := State.moveDest_form found rated_form
      cases why with
      | drain c => exact formed_next (State.lockPage_form _ _ _ _ _ (State.onChan_form _ _ found_form))
      | _ => exact formed_next (State.lockPage_form _ _ _ _ _ found_form)
    next =>
      split
      · exact formed_next (State.drainStalled_form _ noRoom_form)
      · exact formed_next noRoom_form

theorem execMigrationMoveCommit_form (page : BitVec 34) (uncorr : BitVec 64) (h : s.Form) :
    Formed (execMigrationMoveCommit page uncorr s) := by
  unfold execMigrationMoveCommit
  dsimp only
  split
  · exact formed_next h
  · split
    · exact formed_next h
    · split
      · exact formed_next (State.moved__form _ _ (State.each_form _ (State.fetchLeaf_form _ h)
          (fun _ _ => State.copyNear_form _ _ _ _)))
      · refine formed_next ?_
        split
        · exact State.moved__form _ _ (State.copyBin_form _ _ _ (State.fetchLeaf_form _ h))
        · exact State.migPoisoned_form _ _ (State.copyBin_form _ _ _ (State.fetchLeaf_form _ h))
      · exact formed_next h

theorem execJobEnd_form (e : Fin 16) (mismatch : Bool) (h : s.Form) : Formed (execJobEnd e mismatch s) := by
  unfold execJobEnd
  dsimp only
  split
  · exact formed_next h
  · split
    · exact formed_next (State.jobDone_form _ _ h)
    · split
      · refine formed_next ?_
        refine State.each_form _ h ?_
        intro t x ht
        split
        · exact ht
        · exact State.enlist_form _ _ _ _ _ _ ht
      · refine formed_next ?_
        refine State.runJob_form _ _ _ _ _ ?_
        refine State.each_form _ h ?_
        intro t x ht
        split
        · exact ht
        · exact State.enlist_form _ _ _ _ _ _ ht

theorem execOverwriteWrite_form (h : s.Form) : Formed (execOverwriteWrite s) := by
  unfold execOverwriteWrite
  split
  · exact formed_next h
  · split
    · exact formed_next h
    · refine formed_next ?_
      refine State.when_form ?_ fun _ => State.raiseAt_form _ _ _
      refine State.levels_form _ ?_
      split
      · exact State.releaseFrame_form _ _ (State.withMem_form
          (State.each_form _ (State.withMem_form (State.reach_form _ h) rfl) (fun _ _ => State.putMedia_form _ _ _)) rfl)
      · exact State.releaseBin_form _ _ _ (State.withMem_form
          (State.each_form _ (State.withMem_form (State.reach_form _ h) rfl) (fun _ _ => State.putMedia_form _ _ _)) rfl)

theorem execRetagStep_form (hs : Fin 32) (h : s.Form) : Formed (execRetagStep hs s) := by
  unfold execRetagStep
  dsimp only
  split
  · exact formed_next h
  · split
    · exact formed_next h
    · refine formed_next ?_
      split
      · exact h
      · exact State.retagChild_form _ _ _ h

theorem execRetagEnd_form (hs : Fin 32) (h : s.Form) : Formed (execRetagEnd hs s) :=
  formed_next (State.setRetags_form _ _ h)

theorem execRootArrayError_form (hs : Fin 32) (h : s.Form) : Formed (execRootArrayError hs s) :=
  formed_next (State.faultP_form _ _ _ h)

theorem execRootRebuildEnd_form (hs : Fin 32) (rejected : BitVec 32) (h : s.Form) : Formed (execRootRebuildEnd hs rejected s) :=
  formed_next (State.when_form h (fun _ => State.endRebuild_form _ _))

theorem execChunkInit_form (chunk : BitVec 22) (h : s.Form) : Formed (execChunkInit chunk s) :=
  formed_next (State.when_form h (fun _ ht => State.initChunk_form _ (State.withMem_form (State.reach_form _ ht) rfl)))

/-! ### The data mover -/

theorem execDescriptorFetch_form (q : Fin 64) (host : Option (BitVec 512)) (h : s.Form) :
    Formed (execDescriptorFetch q host s) := by
  unfold execDescriptorFetch
  dsimp only
  split
  · exact formed_next h
  · split
    · exact formed_next h
    next turn =>
      have got := State.descBytes_form q.val (s.dmqGet q.val 0x14 0 16) host (State.dmTurn_form turn h)
      split
      · exact formed_next got
      · exact formed_next (State.haltQueue_form _ _ got)
      · split
        · exact formed_next got
        · exact formed_next (State.startDesc_form _ _ _ got)

theorem execDmCopy_form (q : Fin 64) (ix : BitVec 16) (h : s.Form) : Formed (execDmCopy q ix s) := by
  refine formed_next (State.dmOp_form _ _ _ _ (fun d => State.withSource_form _ _ _ (fun t b ht => ?_) h) h)
  exact State.withRoom_form _ _ _ _ (State.endDesc_form _ _ _ (State.moved_form _ _ (State.dmPut_form _ _ _ _ _ ht))) ht

theorem execDmFill_form (q : Fin 64) (ix : BitVec 16) (h : s.Form) : Formed (execDmFill q ix s) := by
  refine formed_next (State.dmOp_form _ _ _ _ (fun d => State.withRoom_form _ _ _ _ ?_ h) h)
  exact State.endDesc_form _ _ _ (State.moved_form _ _ (State.dmPut_form _ _ _ _ _ h))

theorem execDmCompare_form (q : Fin 64) (ix : BitVec 16) (h : s.Form) : Formed (execDmCompare q ix s) := by
  refine formed_next (State.dmOp_form _ _ _ _ (fun d => State.withSource_form _ _ _ (fun t b ht => ?_) h) h)
  have operand := State.operand_form q.val d (dDstSp d.raw) (dDst d.raw) (dLen d.raw) ht
  dsimp only
  split
  · exact operand
  · exact State.failDesc_form _ _ _ _ operand
  · split <;> exact State.endDesc_form _ _ _ (State.moved_form _ _ operand)

theorem execDmCrc_form (q : Fin 64) (ix : BitVec 16) (h : s.Form) : Formed (execDmCrc q ix s) := by
  refine formed_next (State.dmOp_form _ _ _ _ (fun d => State.withSource_form _ _ _ (fun t b ht => ?_) h) h)
  dsimp only
  split <;> exact State.endDesc_form _ _ _ (State.moved_form _ _ ht)

theorem execDmCompress_form (q : Fin 64) (ix : BitVec 16) (e : CompressRun) (h : s.Form) :
    Formed (execDmCompress q ix e s) := by
  refine formed_next (State.dmOp_form _ _ _ _ (fun d => State.onEngine_form _ _ _ _ ?_ h) h)
  refine State.withSource_form _ _ _ (fun t b ht => State.withChain_form _ _ _ (fun u chain hu => ?_) ht) h
  split
  · exact State.verifyFail_form _ _ (State.engineFailed_form _ _ hu)
  · dsimp only
    refine State.endStream_form _ _ _ _ _ _ _ (State.coded_form _ _ (State.moved_form _ _ (State.count_form _ _ _ ?_)))
    exact State.compressed_form _ _ (State.output_form _ _ _ _ hu)

theorem execDmDecompress_form (q : Fin 64) (ix : BitVec 16) (e : Fin 16) (h : s.Form) : Formed (execDmDecompress q ix e s) := by
  refine formed_next (State.dmOp_form _ _ _ _ (fun d => State.onEngine_form _ _ _ _ ?_ h) h)
  refine State.withSource_form _ _ _ (fun t b ht => State.withChain_form _ _ _ (fun u chain hu => ?_) ht) h
  dsimp only
  refine State.endStream_form _ _ _ _ _ _ _ (State.coded_form _ _ (State.moved_form _ _ (State.count_form _ _ _ ?_)))
  exact State.output_form _ _ _ _ hu

theorem execDmZeroReseal_form (q : Fin 64) (ix : BitVec 16) (h : s.Form) : Formed (execDmZeroReseal q ix s) :=
  formed_next (State.dmOp_form _ _ _ _ (fun _ => State.resealPages_form _ _ _ h) h)

theorem execDmBatchAtomic_form (q : Fin 64) (ix : BitVec 16) (h : s.Form) : Formed (execDmBatchAtomic q ix s) := by
  refine formed_next (State.dmOp_form _ _ _ _ (fun d => State.withSource_form _ _ _ (fun t b ht => ?_) h) h)
  dsimp only
  split
  · exact State.failDesc_form _ _ _ _ ht
  · refine State.withRoom_form _ _ _ _ ?_ ht
    have ran (es) : (t.runElems q.val d.ix es 0).Form := State.runElems_form _ _ _ _ ht
    split
    · exact ran _
    · exact State.endDesc_form _ _ _ (State.moved_form _ _ (State.dmPut_form _ _ _ _ _ (State.takeFree_form (ran _))))

theorem execDmPeerCopy_form (q : Fin 64) (ix : BitVec 16) (h : s.Form) : Formed (execDmPeerCopy q ix s) := by
  refine formed_next (State.dmOp_form _ _ _ _ (fun d => State.withSource_form _ _ _ (fun t b ht => ?_) h) h)
  refine State.flushRead_form _ _ _ (State.onDesc_form _ _ _ (State.moved_form _ _ (State.each_form _ ht ?_)))
  exact fun _ _ => State.peerHalf_form _ _ _ _

theorem execDmRecordWrite_form (q : Fin 64) (ix : BitVec 16) (ok : Bool) (h : s.Form) :
    Formed (execDmRecordWrite q ix ok s) := by
  unfold execDmRecordWrite
  dsimp only
  split
  · exact formed_next h
  · split
    · exact formed_next h
    · split
      · exact formed_next (State.recordDone_form _ _ h)
      · split
        · exact formed_next (State.when_form h (fun _ => State.putCounts_form _ _ _))
        · split
          · exact formed_next (State.putRecord_form _ _ (State.when_form h (fun _ => State.putCounts_form _ _ _)))
          · exact formed_next (State.haltQueue_form _ _ (State.when_form h (fun _ => State.putCounts_form _ _ _)))

/-! ### The Dunas fabric -/

theorem execDlnkTrainEnd_form (e : Fin 34) (r : LaneResult) (h : s.Form) : Formed (execDlnkTrainEnd e r s) :=
  formed_next (State.when_form h (fun _ ht => State.fabricOp_form _ _
    (fun _ hu => State.form_of_same (by simp [State.trained_keeps]) hu) ht))

theorem execInitParam_form (e : Fin 34) (major : BitVec 8) (minor rate : BitVec 8) (vendor device : BitVec 16) (rev : BitVec 8)
    (h : s.Form) : Formed (execInitParam e major minor rate vendor device rev s) :=
  formed_next (State.fabricOp_form _ _ (fun _ ht => State.form_of_same (by simp [State.takeParam_keeps]) ht) h)

theorem execInitCredit_form (e : Fin 34) (adv : List (BitVec 16)) (h : s.Form) : Formed (execInitCredit e adv s) :=
  formed_next (State.fabricOp_form _ _ (fun _ ht => State.form_of_same (by simp [State.takeCredit_keeps]) ht) h)

theorem execAckCredit_form (e : Fin 34) (valid : Bool) (ackseq : BitVec 12) (ret : List (BitVec 16)) (h : s.Form) :
    Formed (execAckCredit e valid ackseq ret s) :=
  formed_next (State.fabricOp_form _ _ (fun _ ht => State.form_of_same (by simp [State.takeAck_keeps]) ht) h)

theorem execReplayStart_form (e : Fin 34) (seq : BitVec 12) (h : s.Form) : Formed (execReplayStart e seq s) :=
  formed_next (State.fabricOp_form _ _ (fun _ ht => State.form_of_same (by simp [State.takeReplayStart_keeps]) ht) h)

theorem execMessageFlit_form (e : Fin 34) (flit : BitVec 512) (h : s.Form) : Formed (execMessageFlit e flit s) := by
  unfold execMessageFlit
  dsimp only
  split
  · exact formed_next h
  · split
    · exact formed_next (State.fabricOp_form _ _ (fun _ ht => State.form_of_same (by simp [State.takeCtl_keeps]) ht) h)
    · split
      · exact formed_next (State.fabricOp_form _ _ (fun _ ht => State.gotMsgs_form _
          (State.form_of_same (by simp [State.takeFlit_keeps]) ht)) h)
      · exact formed_next (State.form_of_same (by simp [State.strayFlit_keeps]) h)

theorem execReplayLimit_form (e : Fin 34) (h : s.Form) : Formed (execReplayLimit e s) := by
  unfold execReplayLimit
  dsimp only
  split
  · exact formed_next (State.fabricOp_form _ _ (fun _ ht => State.form_of_same (by simp [State.enterLreset_keeps]) ht)
      (State.raiseDlnk_form _ _ _ (State.form_of_same (by simp [State.onMod_keeps]) h)))
  · split
    · exact formed_next (State.fabricOp_form _ _ (fun _ ht => State.form_of_same (by simp [State.enterLreset_keeps]) ht)
        (State.raiseDlnk_form _ _ _ (State.reach_form _ h)))
    · exact formed_next h

theorem execCreditTimeout_form (e : Fin 34) (cls : MsgClass) (h : s.Form) : Formed (execCreditTimeout e cls s) := by
  unfold execCreditTimeout
  dsimp only
  split
  · exact formed_next (State.fabricOp_form _ _ (fun _ ht => State.form_of_same (by simp [State.enterLreset_keeps]) ht)
      (State.raiseDlnk_form _ _ _ h))
  · split
    · split
      · exact formed_next (State.fabricOp_form _ _ (fun _ ht => State.form_of_same (by simp [State.enterLreset_keeps]) ht)
          (State.raiseDlnk_form _ _ _ (State.reach_form _ h)))
      · exact formed_next h
    · exact formed_next h

theorem execTrainingPatternSeen_form (e : Fin 34) (h : s.Form) : Formed (execTrainingPatternSeen e s) :=
  formed_next (State.fabricOp_form _ _ (fun _ ht => State.form_of_same (by simp [State.enterLreset_keeps]) ht) h)

theorem execLinkResetEnd_form (e : Fin 34) (r : LaneResult) (h : s.Form) : Formed (execLinkResetEnd e r s) :=
  formed_next (State.when_form h (fun _ ht => State.fabricOp_form _ _
    (fun _ hu => State.form_of_same (by simp [State.retrainDone_keeps]) hu) ht))

theorem execDlnkChangeEnd_form (e : Fin 34) (ok : Bool) (h : s.Form) : Formed (execDlnkChangeEnd e ok s) := by
  unfold execDlnkChangeEnd
  dsimp only
  split
  · split
    · refine formed_next ?_
      refine State.fabricOp_form _ _ ?_ h
      intro t ht
      split
      · exact State.form_of_same (by simp [State.changeDone_keeps]) ht
      · exact State.form_of_same (by simp [State.enterLreset_keeps]) ht
    · exact formed_next h
  · exact formed_next h

theorem execDlnkRetrain_form (m : Master) (e : Fin 34) (h : s.Form) : Formed (execDlnkRetrain m e s) :=
  formed_next (State.dlnkCtrl_form _ _ _ h)

theorem execDlnkWidth_form (m : Master) (e : Fin 34) (h : s.Form) : Formed (execDlnkWidth m e s) :=
  formed_next (State.dlnkCtrl_form _ _ _ h)

theorem execDlnkRate_form (m : Master) (e : Fin 34) (h : s.Form) : Formed (execDlnkRate m e s) :=
  formed_next (State.dlnkCtrl_form _ _ _ h)

theorem execDlnkRetire_form (m : Master) (e : Fin 34) (h : s.Form) : Formed (execDlnkRetire m e s) :=
  formed_next (State.dlnkCtrl_form _ _ _ h)

theorem execDlnkReturn_form (m : Master) (e : Fin 34) (h : s.Form) : Formed (execDlnkReturn m e s) :=
  formed_next (State.dlnkCtrl_form _ _ _ h)

theorem execDlnkResetCmd_form (m : Master) (e : Fin 34) (h : s.Form) : Formed (execDlnkResetCmd m e s) :=
  formed_next (State.dlnkCtrl_form _ _ _ h)

/-! ### The Borage site -/

theorem execRdcur_form (a : Fin 16) (tag : BitVec 10) (line : BitVec 40) (cred : Bool) (h : s.Form) :
    Formed (execRdcur a tag line cred s) :=
  formed_next (State.brgRequest_form _ _ _ _ _ _ h)

theorem execRdshared_form (a : Fin 16) (tag : BitVec 10) (line : BitVec 40) (cred : Bool) (h : s.Form) :
    Formed (execRdshared a tag line cred s) :=
  formed_next (State.brgRequest_form _ _ _ _ _ _ h)

theorem execRdown_form (a : Fin 16) (tag : BitVec 10) (line : BitVec 40) (cred : Bool) (h : s.Form) :
    Formed (execRdown a tag line cred s) :=
  formed_next (State.brgRequest_form _ _ _ _ _ _ h)

theorem execInvown_form (a : Fin 16) (tag : BitVec 10) (line : BitVec 40) (cred : Bool) (h : s.Form) :
    Formed (execInvown a tag line cred s) :=
  formed_next (State.brgRequest_form _ _ _ _ _ _ h)

theorem execCleanevict_form (a : Fin 16) (tag : BitVec 10) (line : BitVec 40) (cred : Bool) (h : s.Form) :
    Formed (execCleanevict a tag line cred s) :=
  formed_next (State.brgRequest_form _ _ _ _ _ _ h)

theorem execWrfull_form (a : Fin 16) (tag : BitVec 10) (line : BitVec 40) (keepS : Bool) (data : Line) (h : s.Form) :
    Formed (execWrfull a tag line keepS data s) :=
  formed_next (State.brgRequest_form _ _ _ _ _ _ h)

theorem execWrptl_form (a : Fin 16) (tag : BitVec 10) (line : BitVec 40) (keepS : Bool) (mask : BitVec 64) (data : Line)
    (h : s.Form) : Formed (execWrptl a tag line keepS mask data s) :=
  formed_next (State.brgRequest_form _ _ _ _ _ _ h)

theorem execWrback_form (a : Fin 16) (tag : BitVec 10) (line : BitVec 40) (keepS : Bool) (data : Line) (h : s.Form) :
    Formed (execWrback a tag line keepS data s) :=
  formed_next (State.brgRequest_form _ _ _ _ _ _ h)

theorem execAtomic_form (a : Fin 16) (tag : BitVec 10) (line : BitVec 40) (cred : Bool) (op : AtomicKind) (size : AtomicSize)
    (off : Fin 64) (x y : BitVec 128) (h : s.Form) : Formed (execAtomic a tag line cred op size off x y s) := by
  unfold execAtomic
  dsimp only
  split
  · exact formed_next (State.brgRequest_form _ _ _ _ _ _ h)
  · exact formed_next (State.when_form h (fun _ => State.brgTurn_form _ _ _ _))

theorem execSnprsp_form (a : Fin 16) (line : BitVec 40) (keep : SnpKeep) (data : Option Line) (h : s.Form) :
    Formed (execSnprsp a line keep data s) :=
  formed_next (State.snpAnswer_form _ _ _ _ h)

theorem execRegrsp_form (tag : BitVec 10) (val : Word) (err : Bool) (h : s.Form) : Formed (execRegrsp tag val err s) :=
  formed_next (State.regAnswer_form _ _ _ h)

theorem execBorageRegAccess_form (m : Master) (off : BitVec 24) (wr : Option Word) (h : s.Form) :
    Formed (execBorageRegAccess m off wr s) :=
  formed_next (State.access_form _ h)

theorem execRegrdTimeout_form (tag : BitVec 10) (h : s.Form) : Formed (execRegrdTimeout tag s) := by
  unfold execRegrdTimeout
  split
  · split
    · exact formed_next h
    · exact formed_next (State.raise_form _ (State.brgAnswer_form _ _ _ (State.reach_form _ h)))
  · exact formed_next h

theorem execBrgFltNAssert_form (h : s.Form) : Formed (execBrgFltNAssert s) :=
  formed_next (State.when_form h (fun _ ht => State.faultP_form _ _ _ (State.withBrg_form _ ht)))

theorem execBrgFltFrame_form (f : BitVec 64) (h : s.Form) : Formed (execBrgFltFrame f s) := by
  unfold execBrgFltFrame
  dsimp only
  split
  · exact formed_next h
  · split
    · exact formed_next (State.raise_form _ (State.withBrg_form _ h))
    · split
      · split
        · exact formed_next (State.fault_form _ _ _ _ _ _ h)
        · exact formed_next h
      · exact formed_next h

theorem execBorageBringupTimeout_form (h : s.Form) : Formed (execBorageBringupTimeout s) := by
  unfold execBorageBringupTimeout
  dsimp only
  split
  · exact formed_next h
  · exact formed_next (State.each_form _ (State.reach_form _ h)
      (fun _ _ ht => State.fabricOp_form _ _ (fun _ hu => State.form_of_same (by simp [State.retireMod_keeps]) hu) ht))

/-! ### Clocks and power -/

theorem execClockMonitorFlag_form (c : MonClock) (h : s.Form) : Formed (execClockMonitorFlag c s) :=
  formed_next (State.flagged_form _ h)

theorem execRefRevert_form (h : s.Form) : Formed (execRefRevert s) := by
  unfold execRefRevert
  split
  · split
    · exact formed_next (State.moveRef_form (State.reach_form _ h))
    · exact formed_next h
  · exact formed_next h

theorem execLockLossTimeout_form (loop : Fin 40) (h : s.Form) : Formed (execLockLossTimeout loop s) := by
  unfold execLockLossTimeout
  split
  · exact formed_next (State.lockLost_form _ (State.onLoop_form _ _ (State.reach_form _ h)))
  · exact formed_next h

theorem execRootLoopLock_form (h : s.Form) : Formed (execRootLoopLock s) :=
  formed_next (State.when_form h (fun _ ht => State.afterFabric_form
    (State.form_of_same (by simp [State.rootLocked_keeps]) ht)))

theorem execSubdomainWake_form (sd : SubDomain) (h : s.Form) : Formed (execSubdomainWake sd s) :=
  formed_next (State.when_form h (fun _ ht => State.goOn_form
    (State.runAll_form (State.wakeHeld_form (State.form_of_same (by simp [State.powerUp_keeps]) ht)))))

theorem execSubdomainWakeTimeout_form (sd : SubDomain) (h : s.Form) : Formed (execSubdomainWakeTimeout sd s) := by
  unfold execSubdomainWakeTimeout
  dsimp only
  split
  · refine formed_next ?_
    refine State.goOn_form ?_
    refine State.runAll_form ?_
    refine State.raiseClk_form _ _ _ ?_
    refine State.fileP_form _ _ _ ?_
    split
    · exact State.onEng_form _ _ (State.engineStop_form _ (State.each_form _
        (State.onClk_form _ (State.onClk_form _ (State.reach_form _ h)))
          (fun _ _ ht => State.answerWait_form _ _ _ (State.wstat_form _ _ ht))))
    · exact State.each_form _ (State.onClk_form _ (State.onClk_form _ (State.reach_form _ h))) fun _ _ ht =>
        State.answerWait_form _ _ _ (State.wstat_form _ _ ht)
  · exact formed_next h

theorem execWakeInRecognised_form (n : Fin 2) (h : s.Form) : Formed (execWakeInRecognised n s) := by
  unfold execWakeInRecognised
  refine formed_next ?_
  refine State.when_form h ?_
  intro t ht
  refine State.when_form ?_ fun _ => State.wakeLeave_form
  refine State.when_form ?_ fun _ hu => State.goOn_form (State.runAll_form
    (State.wakeHeld_form (State.each_form _ hu (fun _ _ hu => State.form_of_same (by simp [State.powerUp_keeps]) hu))))
  refine State.raiseClk_form _ _ _ ?_
  refine State.onClk_form _ ?_
  split
  · exact State.reach_form _ ht
  · exact ht

/-! ### Resets and start-up -/

theorem execAuxReset_form (why : AuxCause) (b : Board) (h : s.Form) : Formed (execAuxReset why b s) := by
  unfold execAuxReset
  split
  · exact formed_next (State.auxBoot_form _ _ h)
  · exact formed_next (State.when_form h (fun _ => State.auxBoot_form _ _))

theorem execPgTick_form (voutMv gateMv : Nat) (inLimit : Bool) (h : s.Form) : Formed (execPgTick voutMv gateMv inLimit s) :=
  formed_next (State.when_form h (fun _ ht => State.pgChanged_form _ (State.form_of_same (by simp [State.pgStep_keeps]) ht)))

theorem execRailTimeout_form (k : Fin 7) (h : s.Form) : Formed (execRailTimeout k s) := by
  unfold execRailTimeout
  refine formed_next ?_
  split
  · exact State.railLate_form _ h
  · exact h

theorem execHrdyDeadline_form (h : s.Form) : Formed (execHrdyDeadline s) := by
  unfold execHrdyDeadline
  split
  · dsimp only
    split
    · exact formed_next (State.onBoot_form _ (State.raiseBoot_form _ _ _
        (State.reach_form _ (State.each_form _ (State.reach_form _ h)
          (fun _ _ ht => State.when_form ht (fun _ => State.onChan_form _ _))))))
    · exact formed_next (State.each_form _ (State.reach_form _ h)
        (fun _ _ ht => State.when_form ht (fun _ => State.onChan_form _ _)))
  · exact formed_next h

theorem execRstWarm_form (m : Master) (h : s.Form) : Formed (execRstWarm m s) :=
  formed_next (State.rstCommand_form _ _ h)

theorem execRstCold_form (m : Master) (h : s.Form) : Formed (execRstCold m s) :=
  formed_next (State.rstCommand_form _ _ h)

theorem execRstEnterAuxOnly_form (m : Master) (h : s.Form) : Formed (execRstEnterAuxOnly m s) :=
  formed_next (State.rstCommand_form _ _ h)

theorem execRstLeaveAuxOnly_form (m : Master) (h : s.Form) : Formed (execRstLeaveAuxOnly m s) :=
  formed_next (State.rstCommand_form _ _ h)

theorem execRstChipletRecovery_form (m : Master) (slot : BitVec 4) (h : s.Form) : Formed (execRstChipletRecovery m slot s) :=
  formed_next (State.gate_form _ _ _ _ (fun _ => State.rstWrite_form _ _ _) h)

/-! ### The management cores -/

theorem execCmaintClean_form (m : Master) (c : Fin 2) (cache : CacheSel) (how : MaintBy) (h : s.Form) :
    Formed (execCmaintClean m c cache how s) :=
  formed_next (State.writeCmaint_form _ _ _ h)

theorem execCmaintInvalidate_form (m : Master) (c : Fin 2) (cache : CacheSel) (how : MaintBy) (h : s.Form) :
    Formed (execCmaintInvalidate m c cache how s) :=
  formed_next (State.writeCmaint_form _ _ _ h)

theorem execCmaintCleanInvalidate_form (m : Master) (c : Fin 2) (cache : CacheSel) (how : MaintBy) (h : s.Form) :
    Formed (execCmaintCleanInvalidate m c cache how s) :=
  formed_next (State.writeCmaint_form _ _ _ h)

theorem execCmaintVictim_form (m : Master) (c : Fin 2) (cache : CacheSel) (h : s.Form) :
    Formed (execCmaintVictim m c cache s) :=
  formed_next (State.writeCmaint_form _ _ _ h)

theorem execFenceI_form (c : Fin 2) (h : s.Form) : Formed (execFenceI c s) :=
  formed_next (State.when_form h (fun _ => State.onMcore_form _ _))

theorem execCctlWrite_form (m : Master) (c : Fin 2) (ien den : Bool) (h : s.Form) : Formed (execCctlWrite m c ien den s) :=
  formed_next (State.gate_form _ _ _ _ (fun _ => State.cctl_form _ _ _) h)

theorem execRstoreDataWrite_form (m : Master) (val : Word) (h : s.Form) : Formed (execRstoreDataWrite m val s) :=
  formed_next (State.access_form _ h)

theorem execRstoreWriteDone_form (h : s.Form) : Formed (execRstoreWriteDone s) := by
  unfold execRstoreWriteDone
  split
  · exact formed_next h
  · split
    · exact formed_next h
    · refine formed_next ?_
      refine State.retFront_form _ _ ?_
      split
      · exact h
      · exact State.reach_form _ h

theorem execRetainedWordUe_form (w : BitVec 16) (h : s.Form) : Formed (execRetainedWordUe w s) :=
  formed_next (State.when_form h (fun _ ht => State.faultP_form _ _ _ (State.raiseAt_form _ _ _ (State.withRet_form _ ht))))

theorem execSensorSample_form (r : SensorSample) (h : s.Form) : Formed (execSensorSample r s) := by
  unfold execSensorSample
  refine formed_next ?_
  refine State.when_form h ?_
  intro t ht
  refine State.adaptCore_form ?_
  refine State.when_form ?_ fun _ hu => State.each_form _ (State.onMgmt_form _ hu)
    (fun _ _ hu => State.when_form hu (fun _ => State.onMgmt_form _))
  refine State.each_form _ ?_ fun _ _ hu => State.when_form hu (fun _ => State.onMgmt_form _)
  refine State.each_form _ ?_ fun _ _ hu => State.when_form hu
    (fun _ hu => State.form_of_same (by simp [State.readDie_keeps]) hu)
  split
  · exact State.onMgmt_form _ (State.reach_form _ ht)
  · exact State.readInput_form _ _ (State.onMgmt_form _ (State.reach_form _ ht))

theorem execDieOvertemp_form (sensor : Fin 24) (h : s.Form) : Formed (execDieOvertemp sensor s) :=
  formed_next (State.when_form h (fun _ ht => State.faultP_form _ _ _ (State.reach_form _ ht)))

theorem execLaneMarginScan_form (g : Fin 4) (lane : Fin 16) (tl tr : BitVec 6) (vu vd : BitVec 7) (h : s.Form) :
    Formed (execLaneMarginScan g lane tl tr vu vd s) := by
  unfold execLaneMarginScan
  refine formed_next ?_
  refine State.when_form h ?_
  intro t ht
  refine State.scanLane_form _ _ _ _ _ _ ?_
  split
  · exact State.reach_form _ ht
  · exact ht

/-! ### Messages and mailbox commands -/

theorem execMctpMessage_form (msg : MctpMsg) (h : s.Form) : Formed (execMctpMessage msg s) := by
  unfold execMctpMessage
  refine formed_next ?_
  split
  · exact h
  · split
    · exact State.toCore_form _ h
    · exact State.form_of_same (by simp [State.mctpAlone_keeps]) h

theorem execSbRd_form (off : BitVec 28) (count : Nat) (h : s.Form) : Formed (execSbRd off count s) :=
  formed_next (State.direct_form _ _ h)

theorem execSbWr_form (off : BitVec 28) (words : List Word) (h : s.Form) : Formed (execSbWr off words s) :=
  formed_next (State.direct_form _ _ h)

theorem execImgEnd_form (img : FwImage) (h : s.Form) : Formed (execImgEnd img s) := by
  unfold execImgEnd
  split
  · exact formed_next h
  · split
    · exact formed_next (State.emit_form _ h)
    · dsimp only
      split
      · exact formed_next (State.emit_form _ (State.onMgmt_form _ h))
      · split
        · exact formed_next (State.emit_form _ (State.onMgmt_form _ h))
        · split
          · exact formed_next (State.bootStart_form (State.emit_form _
              (State.onBoot_form _ (State.startCore0_form _ _ (State.onMgmt_form _ h)))))
          · exact formed_next (State.emit_form _ (State.staged__form _ (State.onMgmt_form _ h)))

theorem execMbIdentify_form (ld : Fin 64) (h : s.Form) : Formed (execMbIdentify ld s) :=
  formed_next (State.mailbox_form _ _ h)

theorem execMbBgOpStatus_form (ld : Fin 64) (h : s.Form) : Formed (execMbBgOpStatus ld s) :=
  formed_next (State.mailbox_form _ _ h)

theorem execMbGetEvtIntPolicy_form (ld : Fin 64) (h : s.Form) : Formed (execMbGetEvtIntPolicy ld s) :=
  formed_next (State.mailbox_form _ _ h)

theorem execMbSetEvtIntPolicy_form (ld : Fin 64) (policy : BitVec 32) (h : s.Form) :
    Formed (execMbSetEvtIntPolicy ld policy s) :=
  formed_next (State.mailbox_form _ _ h)

theorem execMbGetEventRecords_form (ld : Fin 64) (log : Fin 4) (h : s.Form) : Formed (execMbGetEventRecords ld log s) :=
  formed_next (State.mailbox_form _ _ h)

theorem execMbClearEventRecords_form (ld : Fin 64) (log : Fin 4) (handles : List (BitVec 16)) (h : s.Form) :
    Formed (execMbClearEventRecords ld log handles s) :=
  formed_next (State.mailbox_form _ _ h)

theorem execMbGetTimestamp_form (ld : Fin 64) (h : s.Form) : Formed (execMbGetTimestamp ld s) :=
  formed_next (State.mailbox_form _ _ h)

theorem execMbSetTimestamp_form (ld : Fin 64) (ts : BitVec 64) (h : s.Form) : Formed (execMbSetTimestamp ld ts s) :=
  formed_next (State.mailbox_form _ _ h)

theorem execMbGetSupportedLogs_form (ld : Fin 64) (h : s.Form) : Formed (execMbGetSupportedLogs ld s) :=
  formed_next (State.mailbox_form _ _ h)

theorem execMbGetLog_form (ld : Fin 64) (off len : Nat) (h : s.Form) : Formed (execMbGetLog ld off len s) :=
  formed_next (State.mailbox_form _ _ h)

theorem execMbGetFwInfo_form (ld : Fin 64) (h : s.Form) : Formed (execMbGetFwInfo ld s) :=
  formed_next (State.mailbox_form _ _ h)

theorem execMbTransferFw_form (ld : Fin 64) (slot : BitVec 2) (last : Bool) (img : FwImage) (h : s.Form) :
    Formed (execMbTransferFw ld slot last img s) :=
  formed_next (State.mailbox_form _ _ h)

theorem execMbActivateFw_form (ld : Fin 64) (slot : BitVec 2) (online : Bool) (h : s.Form) :
    Formed (execMbActivateFw ld slot online s) :=
  formed_next (State.mailbox_form _ _ h)

theorem execMbIdentifyMemdev_form (ld : Fin 64) (h : s.Form) : Formed (execMbIdentifyMemdev ld s) :=
  formed_next (State.mailbox_form _ _ h)

theorem execMbGetHealthInfo_form (ld : Fin 64) (h : s.Form) : Formed (execMbGetHealthInfo ld s) :=
  formed_next (State.mailbox_form _ _ h)

theorem execMbGetPoisonList_form (ld : Fin 64) (dpa : BitVec 46) (lines : Nat) (h : s.Form) :
    Formed (execMbGetPoisonList ld dpa lines s) :=
  formed_next (State.mailbox_form _ _ h)

theorem execMbGetDcConfig_form (ld : Fin 64) (h : s.Form) : Formed (execMbGetDcConfig ld s) :=
  formed_next (State.mailbox_form _ _ h)

theorem execMbGetDcExtentList_form (ld : Fin 64) (h : s.Form) : Formed (execMbGetDcExtentList ld s) :=
  formed_next (State.mailbox_form _ _ h)

theorem execEnergyRead_form (ld : Fin 64) (h : s.Form) : Formed (execEnergyRead ld s) :=
  formed_next (State.mailbox_form _ _ h)

theorem execMarginRead_form (ld : Fin 64) (h : s.Form) : Formed (execMarginRead ld s) :=
  formed_next (State.mailbox_form _ _ h)

theorem execDeviceLogRead_form (ld : Fin 64) (ix : BitVec 16) (h : s.Form) : Formed (execDeviceLogRead ld ix s) :=
  formed_next (State.mailbox_form _ _ h)

theorem execRegAccess_form (ld : Fin 64) (off : BitVec 28) (wr : Option Word) (h : s.Form) :
    Formed (execRegAccess ld off wr s) :=
  formed_next (State.mailbox_form _ _ h)

theorem execMbUnsupportedOpcode_form (ld : Fin 64) (opcode : BitVec 16) (h : s.Form) :
    Formed (execMbUnsupportedOpcode ld opcode s) :=
  formed_next (State.mailbox_form _ _ h)

/-! ### Firmware and the applier -/

theorem execFwuVerify_form (m : Master) (h : s.Form) : Formed (execFwuVerify m s) :=
  formed_next (State.writeFwu_form _ _ h)

theorem execFwuLoad_form (m : Master) (h : s.Form) : Formed (execFwuLoad m s) :=
  formed_next (State.writeFwu_form _ _ h)

theorem execFwuReady_form (m : Master) (h : s.Form) : Formed (execFwuReady m s) :=
  formed_next (State.writeFwu_form _ _ h)

theorem execFwuSwitch_form (m : Master) (h : s.Form) : Formed (execFwuSwitch m s) :=
  formed_next (State.writeFwu_form _ _ h)

theorem execFwuConfirm_form (m : Master) (h : s.Form) : Formed (execFwuConfirm m s) :=
  formed_next (State.writeFwu_form _ _ h)

theorem execFwuRollback_form (m : Master) (h : s.Form) : Formed (execFwuRollback m s) :=
  formed_next (State.writeFwu_form _ _ h)

theorem execTrialTimeout_form (h : s.Form) : Formed (execTrialTimeout s) :=
  formed_next (State.when_form h (fun _ ht => State.goOn_form (State.startSwitch_form _ (State.reach_form _ ht))))

theorem execFwuCancel_form (m : Master) (h : s.Form) : Formed (execFwuCancel m s) :=
  formed_next (State.writeFwu_form _ _ h)

theorem execRaiseSvn_form (m : Master) (h : s.Form) : Formed (execRaiseSvn m s) :=
  formed_next (State.writeFwu_form _ _ h)

theorem execCfgRecordWrite_form (h : s.Form) : Formed (execCfgRecordWrite s) := by
  unfold execCfgRecordWrite
  split
  · exact formed_next h
  · split
    next off v _ =>
      split
      next asleep => exact formed_next (State.cfgAsleep_form asleep h)
      next =>
        have written := State.cfgWrite_form (off.toNat / 4 * 4) v h
        refine formed_next ?_
        split
        · exact State.cfgFail_form written
        · split
          · exact State.onBoot_form _ written
          · split
            · exact written
            · exact State.cfgNext_form written
    next => exact formed_next h

theorem execCfgRecordCommit_form (h : s.Form) : Formed (execCfgRecordCommit s) := by
  unfold execCfgRecordCommit
  split
  · exact formed_next h
  · split
    · dsimp only
      split
      · exact formed_next (State.cfgCommitBrg_form _ h)
      · refine formed_next ?_
        split
        · split
          · exact State.cfgFail_form h
          · split
            · exact State.onBoot_form _ h
            · exact State.cfgNext_form h
        · split
          · exact State.cfgFail_form (State.cfgWrite_form _ _ h)
          · split
            · exact State.onBoot_form _ (State.cfgWrite_form _ _ h)
            · exact State.cfgNext_form (State.cfgWrite_form _ _ h)
    · exact formed_next h

theorem execCfgRecordWait_form (h : s.Form) : Formed (execCfgRecordWait s) := by
  unfold execCfgRecordWait
  split
  · exact formed_next h
  · split
    next off _ _ _ _ =>
      split
      · exact formed_next h
      · split
        next asleep => exact formed_next (State.cfgAsleep_form asleep h)
        next =>
          have read := State.readReg_form applier (off.toNat / 4 * 4) h
          refine formed_next ?_
          split
          · exact State.onBoot_form _ read
          · exact State.cfgCompare_form _ _ _ read
    next => exact formed_next h

/-! ### Faults -/

theorem execFatalLane_form (slot : BitVec 4) (h : s.Form) : Formed (execFatalLane slot s) :=
  formed_next (State.when_form h (fun _ => State.faultP_form _ _ _))

theorem execFaultFrame_form (site : BitVec 24) (cls : FaultClass) (row col : BitVec 16) (cause : BitVec 8) (h : s.Form) :
    Formed (execFaultFrame site cls row col cause s) := by
  unfold execFaultFrame
  dsimp only
  split
  · exact formed_next h
  · exact formed_next (State.emit_form _ (State.fault_form _ _ _ _ _ _ h))

theorem execHeartbeatLoss_form (slot : BitVec 4) (h : s.Form) : Formed (execHeartbeatLoss slot s) := by
  unfold execHeartbeatLoss
  dsimp only
  split
  · exact formed_next h
  · split
    · exact formed_next (State.when_form h (fun _ => State.faultP_form _ _ _))
    · split
      · exact formed_next (State.faultP_form _ _ _ (State.raiseAt_form _ _ _ (State.withFlt_form _ h)))
      · exact formed_next h

theorem execQuietPeriodEnd_form (rec : Option (BitVec 16)) (h : s.Form) : Formed (execQuietPeriodEnd rec s) := by
  unfold execQuietPeriodEnd
  dsimp only
  split
  · exact formed_next (State.recoverRec_form _ (State.reach_form _ h))
  · exact formed_next h

theorem execRecoveryFail_form (rec : Option (BitVec 16)) (h : s.Form) : Formed (execRecoveryFail rec s) :=
  formed_next (State.when_form h (fun _ => State.recoveryFailed_form _))

theorem execFcExit_form (m : Master) (site : BitVec 24) (h : s.Form) : Formed (execFcExit m site s) :=
  formed_next (State.writeFc_form _ _ _ _ h)

theorem execFcRecover_form (m : Master) (site : BitVec 24) (h : s.Form) : Formed (execFcRecover m site s) :=
  formed_next (State.writeFc_form _ _ _ _ h)

theorem execFcInject_form (m : Master) (cls : BitVec 3) (site : BitVec 24) (h : s.Form) : Formed (execFcInject m cls site s) :=
  formed_next (State.writeFc_form _ _ _ _ h)

/-! ### Registers, and the cores' loads and stores -/

theorem execFrec0Read_form (m : Master) (page : BitVec 16) (h : s.Form) : Formed (execFrec0Read m page s) :=
  formed_next (State.access_form _ h)

theorem execPmcLoRead_form (m : Master) (page : BitVec 16) (k : Fin 8) (h : s.Form) : Formed (execPmcLoRead m page k s) :=
  formed_next (State.access_form _ h)

theorem execCommitGo_form (m : Master) (page : BitVec 16) (h : s.Form) : Formed (execCommitGo m page s) :=
  formed_next (State.writeCommit_form _ _ _ h)

theorem execCommitApply_form (page : BitVec 16) (h : s.Form) : Formed (execCommitApply page s) :=
  formed_next (State.applyCommit_form _ h)

theorem execCommitDiscard_form (m : Master) (page : BitVec 16) (h : s.Form) : Formed (execCommitDiscard m page s) :=
  formed_next (State.writeCommit_form _ _ _ h)

theorem execRegisterWrite_form (m : Master) (off : BitVec 28) (val : Word) (be : BitVec 4) (h : s.Form) :
    Formed (execRegisterWrite m off val be s) := by
  unfold execRegisterWrite
  dsimp only
  split
  · exact formed_next h
  · split
    · split
      · exact formed_next (State.goOn_form (State.access_form _ h))
      · refine formed_next ?_
        split
        · exact State.unclaimed_form _ _ _ h
        · exact State.wstat_form _ _ h
    · split
      · exact formed_next (State.goOn_form (State.access_form _ h))
      · refine formed_next ?_
        split
        · exact State.unclaimed_form _ _ _ h
        · exact State.wstat_form _ _ h

theorem execAuxLoss_form (h : s.Form) : Formed (execAuxLoss s) :=
  formed_next (State.when_form h (fun _ => State.auxLost_form))

theorem execCoreLoad_form (c : Fin 2) (addr : BitVec 32) (fetch : Bool) (h : s.Form) :
    Formed (execCoreLoad c addr fetch s) := by
  unfold execCoreLoad
  dsimp only
  split
  · exact formed_next h
  · split
    · exact formed_next (State.form_of_same (by simp [State.fault__keeps]) h)
    · split
      · exact formed_next (State.cachedLoad_form _ _ _ h)
      · split
        · exact formed_next (State.form_of_same (by simp [State.fault__keeps]) h)
        · split
          · split
            · exact formed_next (State.form_of_same (by simp [State.fault__keeps]) h)
            · exact formed_next (State.goOn_form (State.access_form _ (drainAll_form _ _ h)))
          · exact formed_next (State.emit_form _ h)

theorem execCoreStore_form (c : Fin 2) (addr : BitVec 32) (size : Fin 4) (data : BitVec 64) (h : s.Form) :
    Formed (execCoreStore c addr size data s) := by
  unfold execCoreStore
  dsimp only
  split
  · exact formed_next h
  · split
    · exact formed_next (State.form_of_same (by simp [State.fault__keeps]) h)
    · split
      · exact formed_next (State.form_of_same (by simp [State.fault__keeps, State.rstoreProtected_keeps]) h)
      · refine formed_next ?_
        refine State.onMcore_form _ _ ?_
        split
        · exact h
        · exact State.goOn_form (State.drainOne_form _ h)

theorem execWriteBufferDrain_form (c : Fin 2) (h : s.Form) : Formed (execWriteBufferDrain c s) :=
  formed_next (State.when_form h (fun _ ht => State.goOn_form (State.drainOne_form _ ht)))

theorem execRailFallen_form (k : Fin 7) (h : s.Form) : Formed (execRailFallen k s) := by
  unfold execRailFallen
  split
  · exact formed_next h
  · split
    · refine formed_next ?_
      split
      · exact State.railOff_form (State.onBoot_form _ h)
      · split
        · exact State.railsGone_form (State.onBoot_form _ h)
        · exact State.railsFallen_form (State.onBoot_form _ h)
    · exact formed_next h

end Form
end Sys2Proof.Machine
end

section
/-! SUPPORT. Every command keeps the form of the two memories. -/

namespace Sys2Proof.Machine

/-- A command that moves neither memory keeps their form by its frame, and every other by the operations of its meaning. -/
theorem exec_form (i : Instr) {s : State} (h : s.Form) : Formed (exec i s) := by
  match i with
  | .perstNAssert g => exact execPerstNAssert_form g h
  | .perstNRelease g => exact (execPerstNRelease_moves g s).formed h
  | .refclkLoss g => exact execRefclkLoss_form g h
  | .linkUp l o => exact (execLinkUp_moves l o s).formed h
  | .recoveryEntry l byHost => exact (execRecoveryEntry_moves l byHost s).formed h
  | .recoveryExit l res => exact execRecoveryExit_form l res h
  | .hostLinkRequest l r => exact (execHostLinkRequest_moves l r s).formed h
  | .l0pNarrow l w agreed => exact (execL0pNarrow_moves l w agreed s).formed h
  | .l0pWiden l agreed => exact (execL0pWiden_moves l agreed s).formed h
  | .l1Entry l => exact (execL1Entry_moves l s).formed h
  | .l1Exit l => exact (execL1Exit_moves l s).formed h
  | .pmeTurnOff l => exact (execPmeTurnOff_moves l s).formed h
  | .linkDown l => exact execLinkDown_form l h
  | .agentSweepEnd w => exact execAgentSweepEnd_form w h
  | .hotReset l => exact execHotReset_form l h
  | .linkDisable l => exact execLinkDisable_form l h
  | .flrInitiate ld => exact (execFlrInitiate_moves ld s).formed h
  | .flrComplete ld => exact (execFlrComplete_moves ld s).formed h
  | .hostMarginCommand g lane => exact (execHostMarginCommand_moves g lane s).formed h
  | .marginDone g lane => exact (execMarginDone_moves g lane s).formed h
  | .requesterCompletion ld tag addr data st => exact (execRequesterCompletion_moves ld tag addr data st s).formed h
  | .reqCto ld tag => exact (execReqCto_moves ld tag s).formed h
  | .configRequest ld fn op => exact (execConfigRequest_moves ld fn op s).formed h
  | .linkFlitCrcError l => exact (execLinkFlitCrcError_moves l s).formed h
  | .hostReplayRequest l seq => exact (execHostReplayRequest_moves l seq s).formed h
  | .memrd l ld hpa mv tag err => exact execMemrd_form l ld hpa mv tag err h
  | .memrddata l ld hpa tag => exact execMemrddata_form l ld hpa tag h
  | .memspecrd l ld hpa tag => exact execMemspecrd_form l ld hpa tag h
  | .memwr l ld hpa mv data poison tag => exact execMemwr_form l ld hpa mv data poison tag h
  | .memwrptl l ld hpa mv mask data poison tag => exact execMemwrptl_form l ld hpa mv mask data poison tag h
  | .meminv l ld hpa mv tag => exact execMeminv_form l ld hpa mv tag h
  | .memclnevct l ld hpa tag => exact execMemclnevct_form l ld hpa tag h
  | .cxlioApertureRead ld off len tag => exact execCxlioApertureRead_form ld off len tag h
  | .cxlioApertureWrite ld off data ep => exact execCxlioApertureWrite_form ld off data ep h
  | .atomicop ld tgt op size a b ep tag => exact execAtomicop_form ld tgt op size a b ep tag h
  | .bar0Write ld off data => exact (execBar0Write_moves ld off data s).formed h
  | .bar0Read ld off len tag => exact (execBar0Read_moves ld off len tag s).formed h
  | .birsp agent line r => exact execBirsp_form agent line r h
  | .biconflict agent line => exact (execBiconflict_moves agent line s).formed h
  | .biTimeout agent line => exact execBiTimeout_form agent line h
  | .creditGrant hs r => exact execCreditGrant_form hs r h
  | .hrdyRelease g => exact execHrdyRelease_form g h
  | .attentionPulseStart g => exact (execAttentionPulseStart_moves g s).formed h
  | .attentionPulseEnd g => exact (execAttentionPulseEnd_moves g s).formed h
  | .attnTest m g => exact (execAttnTest_moves m g s).formed h
  | .retrain m l => exact (execRetrain_moves m l s).formed h
  | .hdmDecoderCommit ld dec base size skip ways gran ctl => exact (execHdmDecoderCommit_moves ld dec base size skip ways gran ctl s).formed h
  | .tcmdReadEntry m table index => exact execTcmdReadEntry_form m table index h
  | .tcmdStageEntry m table index => exact execTcmdStageEntry_form m table index h
  | .grant m ext => exact execGrant_form m ext h
  | .pin m ext => exact execPin_form m ext h
  | .offer m ext => exact execOffer_form m ext h
  | .recall m ext => exact execRecall_form m ext h
  | .force m ext => exact execForce_form m ext h
  | .free m ext => exact execFree_form m ext h
  | .addDcResponse ld ext gen accept => exact execAddDcResponse_form ld ext gen accept h
  | .releaseDc ld exts => exact execReleaseDc_form ld exts h
  | .offerToExpiry ext => exact execOfferToExpiry_form ext h
  | .extentDrainEnd ext => exact execExtentDrainEnd_form ext h
  | .extentEraseEnd ext => exact execExtentEraseEnd_form ext h
  | .autoRecall => exact (execAutoRecall_moves s).formed h
  | .landDataWrite page rid off data ep => exact execLandDataWrite_form page rid off data ep h
  | .peerFlushRead page rid r => exact (execPeerFlushRead_moves page rid r s).formed h
  | .atomicBufferFlush line => exact execAtomicBufferFlush_form line h
  | .mcacheClean hs => exact execMcacheClean_form hs h
  | .mcacheFlush m hs => exact execMcacheFlush_form m hs h
  | .channelTrainingEnd c r => exact execChannelTrainingEnd_form c r h
  | .dqsTrack c => exact (execDqsTrack_moves c s).formed h
  | .caAlert c rank => exact (execCaAlert_moves c rank s).formed h
  | .quickRetrain c => exact (execQuickRetrain_moves c s).formed h
  | .quickRetrainEnd c ok => exact execQuickRetrainEnd_form c ok h
  | .refreshDue c rank sub busy => exact (execRefreshDue_moves c rank sub busy s).formed h
  | .refreshRepay c rank sub => exact (execRefreshRepay_moves c rank sub s).formed h
  | .mr4Poll c ranks => exact (execMr4Poll_moves c ranks s).formed h
  | .rfmRequest c rank sub bg ba => exact (execRfmRequest_moves c rank sub bg ba s).formed h
  | .fctlGo m c => exact (execFctlGo_moves m c s).formed h
  | .freqChangeEnd c ok => exact execFreqChangeEnd_form c ok h
  | .scrubRead c err => exact execScrubRead_form c err h
  | .dramReadReturn c off err perr => exact execDramReadReturn_form c off err perr h
  | .ceWindowStep c => exact (execCeWindowStep_moves c s).formed h
  | .spareRank m c rank => exact (execSpareRank_moves m c rank s).formed h
  | .spareCopyEnd c => exact execSpareCopyEnd_form c h
  | .softRepair c src => exact (execSoftRepair_moves c src s).formed h
  | .softRepairEnd r => exact execSoftRepairEnd_form r h
  | .hardRepair m c => exact (execHardRepair_moves m c s).formed h
  | .resilver m c => exact (execResilver_moves m c s).formed h
  | .cancelResilver m c => exact execCancelResilver_form m c h
  | .resilverEnd c => exact execResilverEnd_form c h
  | .svcDrain m c => exact execSvcDrain_form m c h
  | .svcPowerDown m c => exact execSvcPowerDown_form m c h
  | .svcReturn m c spd0 spd1 => exact execSvcReturn_form m c spd0 spd1 h
  | .svcCancel m c => exact (execSvcCancel_moves m c s).formed h
  | .channelDrainEnd c => exact execChannelDrainEnd_form c h
  | .dimmThermalRead c t0 t1 => exact execDimmThermalRead_form c t0 t1 h
  | .hotnessEpochAdvance => exact (execHotnessEpochAdvance_moves s).formed h
  | .sweepVisit page => exact execSweepVisit_form page h
  | .promotionStart page => exact execPromotionStart_form page h
  | .promotionCommit page fault => exact execPromotionCommit_form page fault h
  | .demotionStart page => exact execDemotionStart_form page h
  | .demotionCommit page e mismatch => exact execDemotionCommit_form page e mismatch h
  | .compactionStart u set cls => exact (execCompactionStart_moves u set cls s).formed h
  | .migrationMoveStart page why => exact execMigrationMoveStart_form page why h
  | .migrationMoveCommit page uncorr => exact execMigrationMoveCommit_form page uncorr h
  | .tierPromoteDomain m domain => exact (execTierPromoteDomain_moves m domain s).formed h
  | .tierCancel m => exact (execTierCancel_moves m s).formed h
  | .promoteDomainEnd => exact (execPromoteDomainEnd_moves s).formed h
  | .jobGo m e op resume => exact (execJobGo_moves m e op resume s).formed h
  | .jobCancel m e => exact (execJobCancel_moves m e s).formed h
  | .jobEnd e mismatch => exact execJobEnd_form e mismatch h
  | .engineFault e verify => exact (execEngineFault_moves e verify s).formed h
  | .engineRecovered e => exact (execEngineRecovered_moves e s).formed h
  | .overwriteWrite => exact execOverwriteWrite_form h
  | .retagStep hs => exact execRetagStep_form hs h
  | .retagEnd hs => exact execRetagEnd_form hs h
  | .rootArrayError hs => exact execRootArrayError_form hs h
  | .rootRebuildEnd hs rejected => exact execRootRebuildEnd_form hs rejected h
  | .chunkInit chunk => exact execChunkInit_form chunk h
  | .discardReport u what => exact (execDiscardReport_moves u what s).formed h
  | .dmqTailWrite m q tail => exact (execDmqTailWrite_moves m q tail s).formed h
  | .descriptorFetch q host => exact execDescriptorFetch_form q host h
  | .dmCopy q ix => exact execDmCopy_form q ix h
  | .dmFill q ix => exact execDmFill_form q ix h
  | .dmCompare q ix => exact execDmCompare_form q ix h
  | .dmCrc q ix => exact execDmCrc_form q ix h
  | .dmCompress q ix e => exact execDmCompress_form q ix e h
  | .dmDecompress q ix e => exact execDmDecompress_form q ix e h
  | .dmZeroReseal q ix => exact execDmZeroReseal_form q ix h
  | .dmBatchAtomic q ix => exact execDmBatchAtomic_form q ix h
  | .dmPeerCopy q ix => exact execDmPeerCopy_form q ix h
  | .peerFlushCompletion q ix st => exact (execPeerFlushCompletion_moves q ix st s).formed h
  | .dmRecordWrite q ix ok => exact execDmRecordWrite_form q ix ok h
  | .dmqAbort m q => exact (execDmqAbort_moves m q s).formed h
  | .dmqEnable m q v => exact (execDmqEnable_moves m q v s).formed h
  | .dlnkTrain e => exact (execDlnkTrain_moves e s).formed h
  | .dlnkTrainEnd e r => exact execDlnkTrainEnd_form e r h
  | .initParam e major minor rate vendor device rev => exact execInitParam_form e major minor rate vendor device rev h
  | .initCredit e adv => exact execInitCredit_form e adv h
  | .ackCredit e valid ackseq ret => exact execAckCredit_form e valid ackseq ret h
  | .replayStart e seq => exact execReplayStart_form e seq h
  | .linkReq e ch slot => exact (execLinkReq_moves e ch slot s).formed h
  | .linkRsp e accept => exact (execLinkRsp_moves e accept s).formed h
  | .messageFlit e flit => exact execMessageFlit_form e flit h
  | .ackTimer e => exact (execAckTimer_moves e s).formed h
  | .replayTimer e => exact (execReplayTimer_moves e s).formed h
  | .replayLimit e => exact execReplayLimit_form e h
  | .creditTimeout e cls => exact execCreditTimeout_form e cls h
  | .trainingPatternSeen e => exact execTrainingPatternSeen_form e h
  | .linkResetEnd e r => exact execLinkResetEnd_form e r h
  | .dlnkChangeEnd e ok => exact execDlnkChangeEnd_form e ok h
  | .dlnkRetrain m e => exact execDlnkRetrain_form m e h
  | .dlnkWidth m e => exact execDlnkWidth_form m e h
  | .dlnkRate m e => exact execDlnkRate_form m e h
  | .dlnkRetire m e => exact execDlnkRetire_form m e h
  | .dlnkReturn m e => exact execDlnkReturn_form m e h
  | .dlnkResetCmd m e => exact execDlnkResetCmd_form m e h
  | .rdcur a tag line cred => exact execRdcur_form a tag line cred h
  | .rdshared a tag line cred => exact execRdshared_form a tag line cred h
  | .rdown a tag line cred => exact execRdown_form a tag line cred h
  | .invown a tag line cred => exact execInvown_form a tag line cred h
  | .cleanevict a tag line cred => exact execCleanevict_form a tag line cred h
  | .wrfull a tag line keepS data => exact execWrfull_form a tag line keepS data h
  | .wrptl a tag line keepS mask data => exact execWrptl_form a tag line keepS mask data h
  | .wrback a tag line keepS data => exact execWrback_form a tag line keepS data h
  | .atomic a tag line cred op size off x y => exact execAtomic_form a tag line cred op size off x y h
  | .fwdrddata tag data err => exact (execFwdrddata_moves tag data err s).formed h
  | .snprsp a line keep data => exact execSnprsp_form a line keep data h
  | .snpconflict a line => exact (execSnpconflict_moves a line s).formed h
  | .regrsp tag val err => exact execRegrsp_form tag val err h
  | .evtraise k payload => exact (execEvtraise_moves k payload s).formed h
  | .borageRegAccess m off wr => exact execBorageRegAccess_form m off wr h
  | .regrdTimeout tag => exact execRegrdTimeout_form tag h
  | .fwdrdTimeout tag => exact (execFwdrdTimeout_moves tag s).formed h
  | .fwdwrTimeout ld => exact (execFwdwrTimeout_moves ld s).formed h
  | .brgFltNAssert => exact execBrgFltNAssert_form h
  | .brgFltFrame f => exact execBrgFltFrame_form f h
  | .borageBringupTimeout => exact execBorageBringupTimeout_form h
  | .xtalQualify x => exact (execXtalQualify_moves x s).formed h
  | .xtalQualifyTimeout => exact (execXtalQualifyTimeout_moves s).formed h
  | .xtalRetry => exact (execXtalRetry_moves s).formed h
  | .clockMonitorFlag c => exact execClockMonitorFlag_form c h
  | .slowOscCheck bad => exact (execSlowOscCheck_moves bad s).formed h
  | .refEdgeLoss loop => exact (execRefEdgeLoss_moves loop s).formed h
  | .loopRelock loop => exact (execLoopRelock_moves loop s).formed h
  | .refSwitch => exact (execRefSwitch_moves s).formed h
  | .clkSwap m => exact (execClkSwap_moves m s).formed h
  | .refRevert => exact execRefRevert_form h
  | .lockLossTimeout loop => exact execLockLossTimeout_form loop h
  | .fastOscDiscipline => exact (execFastOscDiscipline_moves s).formed h
  | .rootLoopLock => exact execRootLoopLock_form h
  | .clockGateStop d => exact (execClockGateStop_moves d s).formed h
  | .clockGateStart d => exact (execClockGateStart_moves d s).formed h
  | .dselChange m d src => exact (execDselChange_moves m d src s).formed h
  | .subdomainPowerDown sd => exact (execSubdomainPowerDown_moves sd s).formed h
  | .subdomainWake sd => exact execSubdomainWake_form sd h
  | .subdomainWakeTimeout sd => exact execSubdomainWakeTimeout_form sd h
  | .phyQuadWake l why => exact (execPhyQuadWake_moves l why s).formed h
  | .wakeInRecognised n => exact execWakeInRecognised_form n h
  | .auxReset why b => exact execAuxReset_form why b h
  | .vinOvervoltage mV => exact (execVinOvervoltage_moves mV s).formed h
  | .vinUndervoltage mV => exact (execVinUndervoltage_moves mV s).formed h
  | .vinWindowEntry mV => exact (execVinWindowEntry_moves mV s).formed h
  | .insertionDelayEnd => exact (execInsertionDelayEnd_moves s).formed h
  | .rampEnd vinMv voutMv => exact (execRampEnd_moves vinMv voutMv s).formed h
  | .startTimeout => exact (execStartTimeout_moves s).formed h
  | .currentLimitEntry => exact (execCurrentLimitEntry_moves s).formed h
  | .breakerExpiry => exact (execBreakerExpiry_moves s).formed h
  | .fastTrip => exact (execFastTrip_moves s).formed h
  | .fetModelTick vinMv voutMv iMa ntc dieC => exact (execFetModelTick_moves vinMv voutMv iMa ntc dieC s).formed h
  | .ntcInvalid => exact (execNtcInvalid_moves s).formed h
  | .ntcRecover degC => exact (execNtcRecover_moves degC s).formed h
  | .damagedTransistor => exact (execDamagedTransistor_moves s).formed h
  | .retryWaitEnd => exact (execRetryWaitEnd_moves s).formed h
  | .coolWaitEnd => exact (execCoolWaitEnd_moves s).formed h
  | .hscStart m => exact (execHscStart_moves m s).formed h
  | .hscStop m => exact (execHscStop_moves m s).formed h
  | .hscClearLatch m => exact (execHscClearLatch_moves m s).formed h
  | .hscClrShort m voutMv => exact (execHscClrShort_moves m voutMv s).formed h
  | .pgTick voutMv gateMv inLimit => exact execPgTick_form voutMv gateMv inLimit h
  | .pgOutLevelAge => exact (execPgOutLevelAge_moves s).formed h
  | .railEnable k => exact (execRailEnable_moves k s).formed h
  | .railGood k => exact (execRailGood_moves k s).formed h
  | .railTimeout k => exact execRailTimeout_form k h
  | .railRetry => exact (execRailRetry_moves s).formed h
  | .hrdyDeadline => exact execHrdyDeadline_form h
  | .rstWarm m => exact execRstWarm_form m h
  | .rstCold m => exact execRstCold_form m h
  | .rstEnterAuxOnly m => exact execRstEnterAuxOnly_form m h
  | .rstLeaveAuxOnly m => exact execRstLeaveAuxOnly_form m h
  | .rstChipletRecovery m slot => exact execRstChipletRecovery_form m slot h
  | .cmaintClean m c cache how => exact execCmaintClean_form m c cache how h
  | .cmaintInvalidate m c cache how => exact execCmaintInvalidate_form m c cache how h
  | .cmaintCleanInvalidate m c cache how => exact execCmaintCleanInvalidate_form m c cache how h
  | .cmaintVictim m c cache => exact execCmaintVictim_form m c cache h
  | .fenceI c => exact execFenceI_form c h
  | .cctlWrite m c ien den => exact execCctlWrite_form m c ien den h
  | .rstoreDataWrite m val => exact execRstoreDataWrite_form m val h
  | .rstoreWriteDone => exact execRstoreWriteDone_form h
  | .retainedWordUe w => exact execRetainedWordUe_form w h
  | .sensorSample r => exact execSensorSample_form r h
  | .dieOvertemp sensor => exact execDieOvertemp_form sensor h
  | .energyLedgerTick => exact (execEnergyLedgerTick_moves s).formed h
  | .laneMarginScan g lane tl tr vu vd => exact execLaneMarginScan_form g lane tl tr vu vd h
  | .logRecordWrite => exact (execLogRecordWrite_moves s).formed h
  | .i3cDaa => exact (execI3cDaa_moves s).formed h
  | .mctpMessage msg => exact execMctpMessage_form msg h
  | .sbRd off count => exact execSbRd_form off count h
  | .sbWr off words => exact execSbWr_form off words h
  | .imgBegin len => exact (execImgBegin_moves len s).formed h
  | .imgData off words => exact (execImgData_moves off words s).formed h
  | .imgEnd img => exact execImgEnd_form img h
  | .smbusAra => exact (execSmbusAra_moves s).formed h
  | .ibiAccepted => exact (execIbiAccepted_moves s).formed h
  | .mbIdentify ld => exact execMbIdentify_form ld h
  | .mbBgOpStatus ld => exact execMbBgOpStatus_form ld h
  | .mbGetEvtIntPolicy ld => exact execMbGetEvtIntPolicy_form ld h
  | .mbSetEvtIntPolicy ld policy => exact execMbSetEvtIntPolicy_form ld policy h
  | .mbGetEventRecords ld log => exact execMbGetEventRecords_form ld log h
  | .mbClearEventRecords ld log handles => exact execMbClearEventRecords_form ld log handles h
  | .mbGetTimestamp ld => exact execMbGetTimestamp_form ld h
  | .mbSetTimestamp ld ts => exact execMbSetTimestamp_form ld ts h
  | .mbGetSupportedLogs ld => exact execMbGetSupportedLogs_form ld h
  | .mbGetLog ld off len => exact execMbGetLog_form ld off len h
  | .mbGetFwInfo ld => exact execMbGetFwInfo_form ld h
  | .mbTransferFw ld slot last img => exact execMbTransferFw_form ld slot last img h
  | .mbActivateFw ld slot online => exact execMbActivateFw_form ld slot online h
  | .mbIdentifyMemdev ld => exact execMbIdentifyMemdev_form ld h
  | .mbGetHealthInfo ld => exact execMbGetHealthInfo_form ld h
  | .mbGetPoisonList ld dpa lines => exact execMbGetPoisonList_form ld dpa lines h
  | .mbGetDcConfig ld => exact execMbGetDcConfig_form ld h
  | .mbGetDcExtentList ld => exact execMbGetDcExtentList_form ld h
  | .energyRead ld => exact execEnergyRead_form ld h
  | .marginRead ld => exact execMarginRead_form ld h
  | .deviceLogRead ld ix => exact execDeviceLogRead_form ld ix h
  | .regAccess ld off wr => exact execRegAccess_form ld off wr h
  | .mbUnsupportedOpcode ld opcode => exact execMbUnsupportedOpcode_form ld opcode h
  | .fwuVerify m => exact execFwuVerify_form m h
  | .fwuLoad m => exact execFwuLoad_form m h
  | .fwuReady m => exact execFwuReady_form m h
  | .fwuSwitch m => exact execFwuSwitch_form m h
  | .fwuConfirm m => exact execFwuConfirm_form m h
  | .fwuRollback m => exact execFwuRollback_form m h
  | .trialTimeout => exact execTrialTimeout_form h
  | .fwuCancel m => exact execFwuCancel_form m h
  | .raiseSvn m => exact execRaiseSvn_form m h
  | .cfgRecordWrite => exact execCfgRecordWrite_form h
  | .cfgRecordCommit => exact execCfgRecordCommit_form h
  | .cfgRecordWait => exact execCfgRecordWait_form h
  | .cfgWaitTimeout => exact (execCfgWaitTimeout_moves s).formed h
  | .cfgRecordEnd => exact (execCfgRecordEnd_moves s).formed h
  | .fatalLane slot => exact execFatalLane_form slot h
  | .faultFrame site cls row col cause => exact execFaultFrame_form site cls row col cause h
  | .frameCheckFail slot => exact (execFrameCheckFail_moves slot s).formed h
  | .heartbeatLoss slot => exact execHeartbeatLoss_form slot h
  | .quietPeriodEnd unit => exact execQuietPeriodEnd_form unit h
  | .recoveryFail unit => exact execRecoveryFail_form unit h
  | .fcExit m site => exact execFcExit_form m site h
  | .fcRecover m site => exact execFcRecover_form m site h
  | .fcInject m cls site => exact execFcInject_form m cls site h
  | .frecClear m page => exact (execFrecClear_moves m page s).formed h
  | .frec0Read m page => exact execFrec0Read_form m page h
  | .eventRaise src why => exact (execEventRaise_moves src why s).formed h
  | .evtStatusClear m place val => exact (execEvtStatusClear_moves m place val s).formed h
  | .evtEnableWrite m place val => exact (execEvtEnableWrite_moves m place val s).formed h
  | .evtRouteWrite m page val => exact (execEvtRouteWrite_moves m page val s).formed h
  | .evrRouteWrite m val => exact (execEvrRouteWrite_moves m val s).formed h
  | .pmcClear m page ctl => exact (execPmcClear_moves m page ctl s).formed h
  | .pmcGctlRun m run => exact (execPmcGctlRun_moves m run s).formed h
  | .pmcGctlClear m run => exact (execPmcGctlClear_moves m run s).formed h
  | .pmcLoRead m page k => exact execPmcLoRead_form m page k h
  | .counterOverflow page k => exact (execCounterOverflow_moves page k s).formed h
  | .traceRecordWrite => exact (execTraceRecordWrite_moves s).formed h
  | .commitGo m page => exact execCommitGo_form m page h
  | .commitApply page => exact execCommitApply_form page h
  | .commitDiscard m page => exact execCommitDiscard_form m page h
  | .lockAcquire m page lease => exact (execLockAcquire_moves m page lease s).formed h
  | .lockRelease m page => exact (execLockRelease_moves m page s).formed h
  | .lockForce m page => exact (execLockForce_moves m page s).formed h
  | .lockLeaseExpiry page => exact (execLockLeaseExpiry_moves page s).formed h
  | .ctrlHold m page hold => exact (execCtrlHold_moves m page hold s).formed h
  | .devMgmtWrite m ld => exact (execDevMgmtWrite_moves m ld s).formed h
  | .registerWrite m off val be => exact execRegisterWrite_form m off val be h
  | .auxLoss => exact execAuxLoss_form h
  | .loopLockLoss loop => exact (execLoopLockLoss_moves loop s).formed h
  | .hardRepairEnd c ok => exact (execHardRepairEnd_moves c ok s).formed h
  | .serialLinkReturn => exact (execSerialLinkReturn_moves s).formed h
  | .recoveryCounterStore => exact (execRecoveryCounterStore_moves s).formed h
  | .coreLoad c addr fetch => exact execCoreLoad_form c addr fetch h
  | .coreStore c addr size data => exact execCoreStore_form c addr size data h
  | .writeBufferDrain c => exact execWriteBufferDrain_form c h
  | .tapInstruction op => exact (execTapInstruction_moves op s).formed h
  | .commandedChangeStart e => exact (execCommandedChangeStart_moves e s).formed h
  | .railFallen k => exact execRailFallen_form k h

theorem step_form {s t : State} (h : s.Form) (e : step s = .next t) : t.Form := by
  cases queue : s.pending with
  | nil =>
    cases (step_of_empty queue).symm.trans e
    exact State.reach_form _ h
  | cons c rest => exact exec_form c (s := s.withPending rest) ⟨h.lines, h.sram⟩ t ((step_of_cons queue).symm.trans e)

end Sys2Proof.Machine
end

section
/-! PROOF. The form of the memories. -/

open Sys2Proof Sys2Proof.Machine

/-- Settles O6: every operation that changes a memory enters, takes out or keeps entries of a table in order. -/
theorem stepKeepsTheMemoryForm : Obligations.StepKeepsTheMemoryForm := by
  refine ⟨fun i s t wf e => ?_, fun s t wf e => ?_⟩
  · exact t.form_iff.mpr (exec_form i (s.form_iff.mp wf) t e)
  · exact t.form_iff.mpr (step_form (s.form_iff.mp wf) e)
end
